-- ==== Sys2Proof/Word.lean ====
section
/-! DEFINITION. The index types and word types the whole model uses. Railway of widths: a track is one of 32, a channel one of 64, a core-die layer one of 16 (index l − 1), a lane position one of 18 (R2, R6, R20, R67). -/
namespace Sys2Proof

/-- A track number, 0 to 31 (R2). -/
abbrev TrackIx := Fin 32
/-- A channel number, 0 to 63 (R2, R20). -/
abbrev ChanIx := Fin 64
/-- A core-die layer l as index l − 1, 0 to 15 (R18). -/
abbrev LayerIx := Fin 16
/-- A vertical quadrant, 0 to 3. -/
abbrev QuadIx := Fin 4
/-- A lane of one direction of a track, 0 to 17 (R67). -/
abbrev LaneIx := Fin 18
/-- A bank of a channel, 0 to 31 (R21). -/
abbrev BankIx := Fin 32
/-- A bundle of the vertical interface, 0 to 63 (one a channel). -/
abbrev BundleIx := Fin 64
/-- A column of a bundle, 0 to 63. -/
abbrev ColIx := Fin 64
/-- A byte. -/
abbrev Byte := BitVec 8
/-- A 32-byte unit of host data: the data bits of one stored tile. -/
abbrev Unit32 := BitVec 256
/-- A register word on the interface: 32-bit registers use the low half (R495). -/
abbrev Word64 := BitVec 64

end Sys2Proof
end

