-- ==== Sys2Proof/Syntax.lean ====
section
/-! DEFINITION. The commands the block takes: one constructor a row of the spec's table of device steps. Their operands carry what reaches the device from outside with the event: symbols, packets, sensor samples, regulator answers, flash contents, core-die answers. -/
namespace Sys2Proof.Machine

/-! ### Operand shapes of the host link -/

/-- A packet as its header row and payload spell it (R136, R139, R157). `mask` is the WRM mask row; `data` holds one 32-byte unit an entry. -/
structure Pkt where
  typ : BitVec 5
  tag : BitVec 14 := 0
  master : BitVec 6 := 0
  len : BitVec 4 := 0
  addr : BitVec 32 := 0
  seq : Byte := 0
  ackSeq : Byte := 0xFF
  nak : Bool := false
  retReq : BitVec 4 := 0
  retData : BitVec 6 := 0
  mask : BitVec 128 := 0
  data : List Unit32 := []
deriving DecidableEq, Repr

/-- What the elastic buffer does in a row-time (R76). -/
inductive ElasticEv where
  | none
  | filling    -- a received skip row is deleted
  | draining   -- a received skip row is delivered twice
  | limit      -- the buffer reached its limit before a skip row
deriving DecidableEq, Repr

/-- The sign-sign LMS result of one lane over a frame, each step −1, 0 or 1 (R84). -/
structure EqStep where
  lane : LaneIx
  ctle : Int := 0
  h1 : Int := 0
  h2 : Int := 0
  h3 : Int := 0
deriving DecidableEq, Repr

/-- The ten bits of one row-time on each of the 18 physical lanes, bit a in bit 9; lanes whose bit of `sig` is 0 carry no signal. -/
structure RxRow where
  syms : List (BitVec 10)
  sig : BitVec 18 := 0x3FFFF
  elastic : ElasticEv := .none
  eq : List EqStep := []
deriving DecidableEq, Repr

/-- The counts of one calibration window (R81). -/
structure CalCount where
  n1c : Nat
  n1d : Nat
  n1l : Nat
  nt : Nat
  valid : Bool := true
deriving DecidableEq, Repr

/-- A lane management message: position, spare of the failing direction (false S0), target block (R86). -/
structure LaneMsg where
  pos : Fin 16
  spare : Bool
  target : Byte
deriving DecidableEq, Repr

/-- TS1 and TS2 content (R108): flags of the sender's receiver, attempt and reason. -/
structure TsContent where
  flags : BitVec 4 := 0
  attempt : Byte := 0
  reason : Byte := 0
deriving DecidableEq, Repr

/-- The host's CAP content (R115), with the ACK bit seen in its pages. -/
structure CapContent where
  version : Byte := 1
  role : Byte := 2
  tracks : Byte := 32
  track : Byte := 0
  maxLen : Byte := 8
  update : Bool := false
  l1 : Bool := false
  fov : Bool := false
  census : Bool := false
  ack : Bool := true
deriving DecidableEq, Repr

/-- The host's SMAP content (R113): its receive proposal, its transmit map, its TX-unusable mask. -/
structure SmapContent where
  rxMap : List LaneIx
  txMap : List LaneIx
  unusable : BitVec 18 := 0
  ack : Bool := true
deriving DecidableEq, Repr

/-- The host's GRANT content (R117). -/
structure GrantContent where
  resume : Bool
  lastRx : Byte := 0
  lastValid : Bool := false
  req : BitVec 16
  data : BitVec 16
  ack : Bool := true
deriving DecidableEq, Repr

/-- The counters of a census content (R128). -/
structure CenCounts where
  txr : BitVec 32 := 0
  txd : BitVec 32 := 0
  rtr : BitVec 32 := 0
  rtd : BitVec 32 := 0
  rxr : BitVec 32 := 0
  rxd : BitVec 32 := 0
  rrr : BitVec 32 := 0
  rrd : BitVec 32 := 0
  iss : BitVec 32 := 0
  acc : BitVec 32 := 0
deriving DecidableEq, Repr

/-- A census content (R128). -/
structure CenContent where
  round : Byte
  sTx : Byte
  sRx : Byte
  counts : CenCounts
deriving DecidableEq, Repr

/-- A failover content (R130): the track whose session moves and its counters at the cut. -/
structure FovContent where
  track : TrackIx
  sRx : Byte
  counts : CenCounts
deriving DecidableEq, Repr

/-- What an engine's own checks meet: a single or double error in a queue entry or its write-store slot, by queue position, or a broken bank state or timing (R206). -/
inductive EngineUpset where
  | none
  | storeCe (i : Nat)
  | storeUc (i : Nat)
  | check
deriving DecidableEq, Repr

/-! ### Operand shapes of the vertical interface -/

/-- What one base-die column receiver did in a train: acquired it with frozen gain code G; chips counted and disagreeing (R272); whether it detected a second arrival (R263). Of a calibration train, its net edge vote and how many chips late it landed (R278, R279). -/
structure ColRx where
  col : Fin 64
  acquired : Bool := true
  gain : Nat := 0
  nc : Nat := 0
  nd : Nat := 0
  second : Option Nat := none     -- chip of the train at which a second arrival is detected (R263)
  faded : Bool := false           -- below a quarter of the reference for 16 chips of the body (R265)
  vote : Int := 0
  land : Int := 0
deriving DecidableEq, Repr

/-- A line slot as delivered: hard decisions of the codeword and the line control (R290, R301). -/
structure RdSlot where
  code : BitVec 640
  ctl : BitVec 32
deriving DecidableEq, Repr

/-- A downward train at the base die: a read train with its TID and slots, or a calibration train, and what its columns found; a column not listed did not acquire it (R261, R263, R265). -/
structure RdArrival where
  cal : Bool := false
  tid : Fin 32 := 0
  slots : List RdSlot := []
  cols : List ColRx := []
deriving DecidableEq, Repr

/-- What training found on one column of a bundle (R280, R282, R284): the trims of V3 or no passing phase; the worst chip error rate V4 measured, in 2^-16 units, and the gain codes the base die's receiver froze in it. -/
structure ColTrain where
  b : ChanIx
  col : Fin 64
  ph : Nat := 0
  dly : Nat := 128
  cer : Nat := 0
  fail : Bool := false
  gains : List Nat := []
deriving DecidableEq, Repr

/-- What a training phase found (R280 to R282, R308): whether the spine locked; identity words by layer − 1, those that answered; columns; core cycles of the four V5 reads by channel; at the end of a cold V4, the gain and column words of the eight sampled columns by layer − 1. -/
structure VPhase where
  spine : Bool := true
  moves : List (Fin 4) := []      -- V1: spine signals (CLK, OCT, BEAT, RBEAT) that failed on their site
  ids : List (LayerIx × List Nat) := []
  cols : List ColTrain := []
  lats : List (ChanIx × List Nat) := []
  wit : List (LayerIx × List Nat × List Nat) := []
deriving DecidableEq, Repr

/-- What the far ends of a column's path counted in a gear window, through their monitor words: chips and disagreements of each receiver (R273, R285). -/
structure GearCount where
  b : ChanIx
  col : Fin 64
  far : List (Nat × Nat)
deriving DecidableEq, Repr

/-- How a flash step ended: read back as programmed or erased; for a window read, the 32 bytes (R488, R491). -/
structure NvmDone where
  good : Bool := true
  data : List Byte := []
deriving DecidableEq, Repr

/-- What the loop test measured of a column: whether some receiver on its path did not acquire it, and the greatest CER at gear 3 (R272, R369). -/
structure LoopCol where
  b : ChanIx
  col : ColIx
  lost : Bool := false
  cer : Nat := 0
deriving DecidableEq, Repr

/-- What a part of the shutdown or start-up test measured (R369 to R374): whether a tested layer was left unreachable, the columns of the loop test, the MISRs of the 105 blocks in the order of the table. -/
structure PartEnd where
  unreachable : Bool := false
  loop : List LoopCol := []
  misr : List (BitVec 32) := []
deriving DecidableEq, Repr

/-- The samples of one frame: the 16 base-die sensors (R416) and the rails by code: VDDC, VDDL, VDDA, VDDIO ÷ 2, VHOLD ÷ 4 (R415). -/
structure Telemetry where
  base : List (BitVec 14)
  rails : List (BitVec 14)
deriving DecidableEq, Repr

/-- The three copies of a triplicated field as a sweep finds them: the byte address of its register, its lowest bit, the copies (R506). -/
structure TripleVote where
  addr : Nat
  lo : Nat
  a : Nat
  b : Nat
  c : Nat
deriving DecidableEq, Repr

/-- What stage B1 meets on the SPI pins: the SFDP facts of R469 and the flash's bytes, by address; an unlisted byte reads 0xFF (R468 to R470). -/
structure FlashBoot where
  signature : Bool := true        -- 0x5044_4653
  rev : Nat := 0x106              -- revision: major in bits 15:8, minor in bits 7:0
  basic : Bool := true            -- a basic flash table with 4 KiB erase, 1-1-4 fast read, 256-byte pages, suspend and resume
  dummy : Nat := 0                -- dummy clocks of 1-1-4
  density : Nat := 27             -- log2 of the density in bits
  bytes : List (Nat × BitVec 8) := []
deriving DecidableEq, Repr

/-- A register under the admission check: a master's guarantees, the deliverable bandwidth, or the word that holds ADMIT (R220). -/
inductive GuarReg where
  | mguar (m : Fin 64)
  | deliv
  | cfg
deriving DecidableEq, Repr

/-- Who makes a register access: a host request with its track, master and tag, or the IEEE 1500 port (R495). -/
inductive WSrc where
  | link (t : TrackIx) (master : BitVec 6) (tag : BitVec 14)
  | port
deriving DecidableEq, Repr

end Sys2Proof.Machine

namespace Sys2Proof
open Machine

/-- The commands of the block, one a row of the table. -/
inductive Instr where
  /-- PWR_GOOD_RISE (R522): PWR_GOOD rises after the rails and REFCLK are stable, and a POR start begins (or waits at B0 while RESET_N is low). -/
  | pwrGoodRise
  /-- SUPPLY_SAG (R434): PWR_GOOD low for 50 ns or a rail below its sag threshold for 100 ns raises PWR_SAG and enters HOLD. -/
  | supplySag (rail : BitVec 4) (sample : BitVec 14)
  /-- REFCLK_LOSS (R526): REFCLK absent for 320 ns while PWR_GOOD is high enters HOLD with PWR_SAG, rail code 0xF. -/
  | refclkLoss
  /-- HOLD_SAVE_PAGE_DONE (R436): A page program of the hold-up save reports ready, and the next of the 16 pages is programmed or the save ends. -/
  | holdSavePageDone
  /-- HOLD_SAVE_PAGE_TIMEOUT (R436): A page program has not reported ready within 1.0 ms, and the save stops. -/
  | holdSavePageTimeout
  /-- HOLD_EXIT_POR (R437): After the save, PWR_GOOD rises again or every rail has been good for 1 ms, and the device starts a POR. -/
  | holdExitPor
  /-- SUPPLY_REMOVED (R16): The supply is removed and the device is OFF until a POR. -/
  | supplyRemoved
  /-- RESET_N_FALL (R452): RESET_N low for 100 ns starts a PIN reset: lanes idle, spine stopped, no NVM write started. -/
  | resetNFall
  /-- RESET_N_RISE (R452): RESET_N rises and a warm start (or a POR start, under R442) begins. -/
  | resetNRise
  /-- CHIP_RESET_HOLD_END (R453): The 10 µs hold of a CHIP reset ends and a start begins. -/
  | chipResetHoldEnd
  /-- STAGE_B0_SERVICE (R443): Start stage B0: REFCLK check, core PLL lock and fuse read; frame 0 begins at the first tick after lock. -/
  | stageB0Service
  /-- STAGE_B1_IMAGE (R474): Start stage B1: SFDP discovery, image checks and application, and reading of SEAL, CAL, REP, journal and HOLD slots. -/
  | stageB1Image (x : FlashBoot)
  /-- STAGE_B2_STACK (R280): Start stage B2: VQ domains on, vertical training with discovery of every segment, seal checks at its end, pilot fixed. -/
  | stageB2Stack
  /-- STAGE_B3_TEST (R384): Start stage B3: the start-up test runs for a POR start with a failing seal check. -/
  | stageB3Test (clockOk vddcOk : Bool)
  /-- STARTUP_TEST_RETRY (R384): 10 ms after an abort under cause 0x1 or 0x2, the start-up test is retried once. -/
  | startupTestRetry (clockOk vddcOk : Bool)
  /-- STAGE_B4_CONFIGURATION (R362): Start stage B4: the member, pairs per channel and used layers are chosen, with retirements journaled. -/
  | stageB4Configuration
  /-- STAGE_B6_CHANNELS (R443): Start stage B6: every used channel leaves self-refresh, soft repairs are reapplied and V5 runs. -/
  | stageB6Channels
  /-- STAGE_B7_WIDENING (R449): Start stage B7: once B6 has ended and a track is READY, widening is announced by CAP UPDATE. -/
  | stageB7Widening
  /-- WIDEN_EFFECTIVE_TICK (R451): At the tick opening the effective frame, the new configuration takes effect, the map comes into use and READY is set, or the device announces again. -/
  | widenEffectiveTick
  /-- HOLD_SLOT_COPY (R487): Once B7 has ended, each started HOLD slot is copied into HOLD_COPY journal entries and erased. -/
  | holdSlotCopy
  /-- FRAME_TICK (R61): At cycle offset 0 the device closes the frame, copies a pending snapshot, applies staged values, refills buckets, advances intervals and increments FRAME. -/
  | frameTick (clockOk vddcOk : Bool)
  /-- EVENT_JOB_OVERRUN (R59): A RETEST or FILL job passes its own bound, an overrun is counted, and the job continues. -/
  | eventJobOverrun (c : ChanIx) (fill : Bool)
  /-- ACCOUNT_SLOT (R214): In the ACCOUNT slot the device computes deliverable bandwidth D[d] for each direction. -/
  | accountSlot
  /-- DEFICIT_WINDOW_END (R218): At the end of each 64-frame window the deficit counts are advanced and CH_GUARANTEE_DEFICIT may be raised. -/
  | deficitWindowEnd
  /-- TELEMETRY_SLOT (R417): In the TELEMETRY slot the device samples base sensors, polls one layer, steps the model, and evaluates refresh rate, disagreement and throttle levels. -/
  | telemetrySlot (x : Telemetry)
  /-- REFRESH_SLOT (R233): A channel's REFRESH slot opens and takes the owed rounds and pending neighbour refreshes that fit before the tick. -/
  | refreshSlot (c : ChanIx)
  /-- SCRUB_SLOT (R335): A channel's SCRUB slot opens and, when its PERIOD is due, the ganger issues its next group. -/
  | scrubSlot (c : ChanIx)
  /-- NREF_FORCE_DUE (R240): An NREF still pending at the second tick after it was added becomes a hard slotted job. -/
  | nrefForceDue (c : ChanIx) (k : Nat)
  /-- RETEST_START (R338): A listed row whose spacing has elapsed and whose bank is free starts a targeted retest that owns the bank. -/
  | retestStart (c : ChanIx)
  /-- RX_ROW (R71): A row-time's symbols are received, classified as data, header, skip, EIE, wake or training, and passed on. -/
  | rxRow (t : TrackIx) (row : RxRow)
  /-- CAL_WINDOW_END (R81): A lane's calibration window of W symbols closes and OFFSET and LEVEL are staged or the window rejected. -/
  | calWindowEnd (t : TrackIx) (p : LaneIx) (n : CalCount)
  /-- SPARE_ERR_WINDOW_END (R90): A SPARE_CFG.WINDOW error window closes and its error count restarts. -/
  | spareErrWindowEnd (t : TrackIx)
  /-- LANE_MGMT_REQ_RX (R88): An accepted REQ is answered with ACK on the spare when T lies 4 to 128 blocks ahead, otherwise REJ. -/
  | laneMgmtReqRx (t : TrackIx) (m : LaneMsg)
  /-- LANE_MGMT_ACK_RX (R88): An accepted ACK makes the receiver read the spare in place of the position from block T on. -/
  | laneMgmtAckRx (t : TrackIx) (m : LaneMsg)
  /-- LANE_MGMT_REJ_RX (R89): An accepted REJ makes the device retry with a fresh T, or after a third failure raise HL_SPARE_FAIL and retrain. -/
  | laneMgmtRejRx (t : TrackIx) (m : LaneMsg)
  /-- LANE_SPARE_REQ_TIMEOUT (R88): 32 blocks pass without ACK or REJ and the sparing attempt fails. -/
  | laneSpareReqTimeout (t : TrackIx)
  /-- LANE_SPARE_SWITCH (R88): From block T the transmitter copies the position onto the spare and the receiver reads the spare. -/
  | laneSpareSwitch (t : TrackIx) (tx : Bool)
  /-- LANE_RETIRE (R88): After block T + 16 the replaced lane is driven to electrical idle and retired. -/
  | laneRetire (t : TrackIx) (tx : Bool)
  /-- TX_L1_ENTRY (R93): The transmitter, idle for L1_IDLE blocks in NAP, sends an EIE row and enters L1. -/
  | txL1Entry (t : TrackIx)
  /-- TX_L1_EXIT (R96): The transmitter leaves L1 with a wake run when it has something to send, NAP ends or the host leaves L1. -/
  | txL1Exit (t : TrackIx)
  /-- WAKE_DETECT (R97): The wake detector reports 1 us of signal on a track in L3. -/
  | wakeDetect (t : TrackIx)
  /-- STALL_BEGIN (R168): A receive direction stalls and a held packet's hold begins. -/
  | stallBegin (t : TrackIx)
  /-- STALL_END (R169): The stream resumes and the first header row decides whether a held packet continues or is discarded. -/
  | stallEnd (t : TrackIx) (wake : Bool)
  /-- PARTIAL_HOLD_EXPIRY (R169): The PARTIAL_HOLD-th tick after a stall begins passes and the held packet is discarded. -/
  | partialHoldExpiry (t : TrackIx)
  /-- ACK_TIMEOUT (R149): The oldest unacknowledged packet sees no ACK advance for ACK_TIMEOUT blocks and replay starts. -/
  | ackTimeout (t : TrackIx)
  /-- RETURN_PENDING_TIMEOUT (R124): A tablet return pending for 64 row-times with no header due is sent in a NUL header. -/
  | returnPendingTimeout (t : TrackIx)
  /-- PACKET_TRANSMIT (R167): In a row-time the transmitter chooses what to send by priority, paying tablets for new packets. -/
  | packetTransmit (t : TrackIx)
  /-- RD (R154): An accepted RD is checked, graded and sent to its channel or answered at the track. -/
  | rd (t : TrackIx) (p : Pkt)
  /-- WR (R154): An accepted WR is checked, graded and sent with its payload to its channel or answered at the track. -/
  | wr (t : TrackIx) (p : Pkt)
  /-- WRM (R157): An accepted WRM with its mask row is checked and sent to its channel for masked write. -/
  | wrm (t : TrackIx) (p : Pkt)
  /-- FEN (R164): An accepted FEN holds later requests of the master on the track until earlier ones take effect. -/
  | fen (t : TrackIx) (p : Pkt)
  /-- RRD (R156): An accepted RRD reads a register of 4 or 8 bytes and is answered RRS. -/
  | rrd (t : TrackIx) (p : Pkt)
  /-- NUL (R145): An accepted NUL header delivers acknowledgement and, when sequenced, tablet return. -/
  | nul (t : TrackIx) (p : Pkt)
  /-- TS1_RX (R108): An accepted TS1 advances training, or while READY starts a LINK retrain, or wakes a DOWN track. -/
  | ts1Rx (t : TrackIx) (x : TsContent) (lanes : BitVec 18) (skew : List Nat)
  /-- TS2_RX (R110): Accepted TS2 slots end deskew phase 4 once eight are seen. -/
  | ts2Rx (t : TrackIx) (x : TsContent) (lanes : BitVec 18) (skew : List Nat)
  /-- CAP_RX (R115): An accepted CAP content is checked against the device's and ends phase 5, or answers an UPDATE. -/
  | capRx (t : TrackIx) (x : CapContent)
  /-- SMAP_RX (R113): An accepted SMAP content advances lane map agreement in phase 6. -/
  | smapRx (t : TrackIx) (x : SmapContent)
  /-- GRANT_RX (R117): An accepted GRANT content is checked for FRESH or RESUME and sets the session's pools. -/
  | grantRx (t : TrackIx) (x : GrantContent)
  /-- RDY_RX (R110): An accepted RDY ends training after four RDY slots and the track becomes READY. -/
  | rdyRx (t : TrackIx)
  /-- CEN_RX (R129): An accepted census content of the host is checked against the device's records. -/
  | cenRx (t : TrackIx) (x : CenContent)
  /-- FOV_RX (R131): An accepted FOV content moves a track's session onto its partner once both are accepted. -/
  | fovRx (u : TrackIx) (x : FovContent)
  /-- RESET_SET_RX (R109): RESET accepted in four consecutive slots performs a CHIP reset, or is refused with HL_RESET_REFUSED. -/
  | resetSetRx (t : TrackIx) (content : BitVec 32) (slots : Nat)
  /-- TRAIN_PHASE_TIMEOUT (R112): A training phase times out, the attempt fails and a new attempt or DOWN follows. -/
  | trainPhaseTimeout (t : TrackIx)
  /-- TRAIN_RETRY_PERIOD (R112): RETRY_PERIOD frames pass for a DOWN track with AUTO_RETRY and a cold attempt begins. -/
  | trainRetryPeriod (t : TrackIx)
  /-- CENSUS_INTERVAL (R128): Every CENSUS_CFG.INTERVAL frames a census round starts on every READY track. -/
  | censusInterval
  /-- CENSUS_REPEAT (R128): 16 blocks pass without the host's census and the device repeats its CEN. -/
  | censusRepeat (t : TrackIx)
  /-- CENSUS_REPLY_TIMEOUT (R129): The host's CEN is not accepted in time, TAB_CENSUS_TIMEOUT is raised and a second timeout retrains. -/
  | censusReplyTimeout (t : TrackIx)
  /-- TURNTABLE_CYCLE (R176): In a core cycle tracks offer requests and channel queues accept up to two each, round-robin. -/
  | turntableCycle
  /-- FENCE_RELEASE (R178): Every earlier request of a master has taken effect and the turntable releases the requests held by a FEN. -/
  | fenceRelease (t : TrackIx) (master : BitVec 6)
  /-- SCHED_ISSUE (R191): When the command columns are free the engine chooses and issues the next command train. -/
  | schedIssue (c : ChanIx) (u : EngineUpset)
  /-- TRAIN_WAIT_EXPIRY (R192): TRAIN_WAIT cc pass since the lead entry became eligible and the partial train issues. -/
  | trainWaitExpiry (c : ChanIx)
  /-- PAGE_IDLE_EXPIRY (R188): A row idle for PAGE_IDLE cc is closed. -/
  | pageIdleExpiry (c : ChanIx) (b : BankIx)
  /-- SIDING_LIMIT_EXPIRY (R202): An entry still in a siding at the SIDING.LIMIT-th tick completes ABORTED with CH_SIDING_ABORT. -/
  | sidingLimitExpiry (c : ChanIx) (k : Nat)
  /-- CHN_DRAINED (R203): A disabled engine's queue empties and STATUS.DISABLED reads 1. -/
  | chnDrained (c : ChanIx)
  /-- CHN_BLOCK_RESET_DONE (R204): A channel BLOCK reset completes and the engine accepts requests again. -/
  | chnBlockResetDone (c : ChanIx)
  /-- TAKEOVER_COMPLETE (R205): The spare engine is powered, loaded and swapped in, and delivery to the channel resumes. -/
  | takeoverComplete (c : ChanIx)
  /-- READ_TRAIN_DELIVERED (R301): A read or calibration train is delivered, its lines checked by syndrome and tile code, and offered or reissued. -/
  | readTrainDelivered (c : ChanIx) (x : RdArrival)
  /-- DECODE_COMPLETE (R301): A codec-pool decoder finishes a line, passing it to the tile check or raising VL_DECODE_FAIL. -/
  | decodeComplete (d : Fin 18) (r : Option (BitVec 576)) (iters : Nat)
  /-- DECODER_SELF_CHECK (R354): A decoder's periodic self-check fails and it is replaced by a spare at the next tick. -/
  | decoderSelfCheck (d : Fin 18) (good : Bool)
  /-- READ_TRAIN_TIMEOUT (R303): No read train with the TID is delivered by its slack and its lines are reissued. -/
  | readTrainTimeout (c : ChanIx) (tid : Fin 32)
  /-- WACK_RX (R296): A WACK confirms the write train is in the array and its entries' responses become ready. -/
  | wackRx (c : ChanIx) (bank : BankIx) (tid : Fin 32)
  /-- WNAK_RX (R304): A WNAK makes the engine resend the write train. -/
  | wnakRx (c : ChanIx) (bank : BankIx) (tid : Fin 32) (reason : Fin 8)
  /-- WACK_TIMEOUT (R304): No WACK arrives by its slack and the write train is resent. -/
  | wackTimeout (c : ChanIx) (tid : Fin 32)
  /-- CFGH_RX (R294): A CFGH response header to a GETCFG or TEMP is received. -/
  | cfghRx (b : ChanIx) (layer : LayerIx) (addr count : Nat) (err : Bool)
  /-- CFGD_RX (R294): A CFGD data word answering a GETCFG or TEMP is received and used by its requester. -/
  | cfgdRx (b : ChanIx) (v : BitVec 32)
  /-- CDONE_RX (R294): A CDONE answering a SETCFG, SREP, HREP, CRST or RELAY is received. -/
  | cdoneRx (b : ChanIx) (layer : LayerIx) (op : BitVec 5) (fail : Bool) (detail : BitVec 16)
  /-- CERR_RX (R295): A CERR reports a failed command word and VL_CMD_ERR is raised. -/
  | cerrRx (b : ChanIx) (layer : LayerIx) (op : BitVec 5) (notDecoded : Bool)
  /-- ALRM_RX (R311): A core-die alarm is accepted, answered with ALAK, recorded and acted on by cause. -/
  | alrmRx (b : ChanIx) (layer : LayerIx) (num : Byte) (cause : Byte) (detail : BitVec 12)
  /-- GEAR_WINDOW_END (R273): A gear window ends and each column's CER decides a gear change or sparing request. -/
  | gearWindowEnd (q : QuadIx) (far : List GearCount)
  /-- GEAR_SWITCH_ACK_DEADLINE (R275): A die has not acknowledged a gear or spare switch by F - 2 and the switch is cancelled. -/
  | gearSwitchAckDeadline (b : ChanIx) (col : ColIx)
  /-- GEAR_SWITCH_EFFECTIVE (R274): At the tick opening F every end switches the bundle's gear or spare column. -/
  | gearSwitchEffective (b : ChanIx) (col : ColIx)
  /-- VTRAIN_PHASE_COMPLETE (R280): A phase of vertical training of a segment completes and the next phase or segment follows. -/
  | vtrainPhaseComplete (x : VPhase)
  /-- RELAY_LOSS_DECLARED (R313): Relay loss of a junction is declared, channels above are sided and RELAY RESET is sent. -/
  | relayLossDeclared (h : Fin 3) (rbeat : Bool)
  /-- RELAY_FLAG_RESTORED (R313): The junction's RBEAT flag reads 1 again and seeded training of the segment above begins. -/
  | relayFlagRestored (h : Fin 3) (spineLost : Bool)
  /-- VL_PLL_UNLOCK (R286): A quadrant chip PLL loses lock and the source is raised. -/
  | vlPllUnlock (q : QuadIx)
  /-- SRX_WAIT_END (R248): T_XS after SRX the engine issues the four forced rounds, V5 when due, and enters recovery. -/
  | srxWaitEnd (c : ChanIx) (lats : List Nat)
  /-- SELF_REFRESH_ENTRY (R244): A drained channel issues owed work, precharges, sends SRE and confirms by GETCFG. -/
  | selfRefreshEntry (c : ChanIx) (confirmed : Bool)
  /-- MIGRATION_START (R347): A row passed to repair opens a migration job when the channel has none running. -/
  | migrationStart (c : ChanIx)
  /-- HREP_ISSUE (R349): With fusing enabled and the die's HREP-busy bit clear, the next SOFT entry is sent as HREP. -/
  | hrepIssue (l : LayerIx)
  /-- HREP_TIMEOUT (R349): No completion alarm arrives within HREP_LIMIT and REP_HREP_FAIL is raised. -/
  | hrepTimeout (l : LayerIx)
  /-- VMAP_ROW_REPLACE (R355): A failing valid-map row is copied to a spare row that takes effect at the next tick. -/
  | vmapRowReplace (word : Nat) (uc : Bool)
  /-- VMAP_SWEEP_DONE (R333): The background sweep of a CLEAR ends and SWEEPING reads 0. -/
  | vmapSweepDone
  /-- REP_COMMIT_DELAY_EXPIRY (R359): DELAY x 2^20 frames after the first uncommitted delta, the working copy is committed. -/
  | repCommitDelayExpiry
  /-- BST_PART_COMPLETE (R367): A part of the shutdown or start-up test ends and the next part begins. -/
  | bstPartComplete (x : PartEnd)
  /-- SEAL_AGE_MARK (R382): Every 2^32 frames the seal age is recorded in the journal. -/
  | sealAgeMark
  /-- BUL_HOLDOFF_END (R407): A source's hold-off ends and its folded bulletin is queued if it holds events. -/
  | bulHoldoffEnd
  /-- BRS_WINDOW_END (R405): A 1,024-frame window ends and every instance's BRS count restarts. -/
  | brsWindowEnd
  /-- CRS_DUE (R409): The urgent bulletins of a CRS event are sent or CRS_DELAY has passed, and a CHIP reset begins. -/
  | crsDue
  /-- ERR_N_HOLD_EXPIRY (R410): ERR_N's minimum 10 µs low time ends and it is released if no condition holds. -/
  | errNHoldExpiry
  /-- AVS_LOOP_PERIOD (R429): Every PERIOD frames the AVS loop reads slack and requests one 5 mV step. -/
  | avsLoopPeriod (slack : BitVec 6)
  /-- AVS_OP_COMPLETE (R430): An AVSBus operation completes or fails, and failures are retried or stop the loop. -/
  | avsOpComplete (good : Bool) (v : Nat)
  /-- AVS_RETRY_TIMER (R430): 16 frames after a failed operation, or 65,536 frames after the loop stopped, the operation or loop is tried again. -/
  | avsRetryTimer
  /-- AVS_CURRENT_READ (R428): Every 64 frames the device reads the rail current into PWR.CURRENT. -/
  | avsCurrentRead
  /-- NAP_IDLE_EXPIRY (R457): With TARGET NAP, no request for NAP_IDLE frames and empty queues, the device enters NAP at the tick. -/
  | napIdleExpiry
  /-- PARK_DRAIN_COMPLETE (R458): The drain of PARK entry ends, and self-refresh or the shutdown test, commit, L3 rows and switch-off follow. -/
  | parkDrainComplete (clockOk vddcOk : Bool)
  /-- PARK_DRAIN_LIMIT (R458): PARK_DRAIN frames pass, channels still holding entries are BLOCK reset and entry continues. -/
  | parkDrainLimit
  /-- PARK_EXIT (R462): A wake report or TARGET RUN leaves PARK: lanes, VQ training, engines and self-refresh exit, then RUN. -/
  | parkExit
  /-- NVM_STEP_COMPLETE (R488): A sector erase or page program completes and is verified, and the next flash step is chosen. -/
  | nvmStepComplete (x : NvmDone)
  /-- WEAR_CREDIT_ACCRUAL (R489): Every 2^33 frames each NVM area accrues wear credit up to its cap. -/
  | wearCreditAccrual
  /-- CAL_PERIOD_EXPIRY (R479): Every CAL_PERIOD x 2^32 frames CAL is committed when a stored value has changed. -/
  | calPeriodExpiry
  /-- VOTE_SWEEP (R506): The background sweep votes every triplicated field once per 1,024 frames. -/
  | voteSweep (x : List TripleVote)
  /-- REG_WRITE (R499): An RWR or port write to a register with no row of its own is checked and performed whole, or refused. -/
  | regWrite (src : WSrc) (size : BitVec 8) (addr : BitVec 24) (v : BitVec 64)
  /-- TT_FRAME_LOAD (R53): A write of TT.FRAME_LOAD.VALUE sets FRAME at the next tick, once. -/
  | ttFrameLoad (src : WSrc) (w : BitVec 64)
  /-- TT_STAGE_HOLD (R63): A write of TT.STAGE.HOLD stages or releases at-tick writes. -/
  | ttStageHold (src : WSrc) (w : BitVec 32)
  /-- LANE_SPARE_GO (R90): A write of LANE_CMD.SPARE_GO requests sparing of SPARE_POS. -/
  | laneSpareGo (src : WSrc) (t : TrackIx) (w : BitVec 32)
  /-- LANE_CNT_CLR (R101): A write of LANE_CMD.CNT_CLR clears the track's lane counters at the next tick. -/
  | laneCntClr (src : WSrc) (t : TrackIx) (w : BitVec 32)
  /-- SPARE_STATE_WRITE (R91): A write of a spare state field moves a standby spare to or from TEST, or is refused. -/
  | spareStateWrite (src : WSrc) (t : TrackIx) (tx : Bool) (w : BitVec 32)
  /-- PRBS_CTL_WRITE (R99): A write of PRBS_CTL enables a generator or checker, refused on a lane in service. -/
  | prbsCtlWrite (src : WSrc) (t : TrackIx) (p : LaneIx) (w : BitVec 32)
  /-- INJ_GO (R100): A write of INJ_CTL.GO starts COUNT error injections of the chosen MODE. -/
  | injGo (src : WSrc) (t : TrackIx) (p : LaneIx) (w : BitVec 32)
  /-- TRAIN_RETRAIN (R126): A write of TRAIN_CTL.RETRAIN starts a LINK retrain with reason 0x21. -/
  | trainRetrain (src : WSrc) (t : TrackIx) (w : BitVec 32)
  /-- FOV_GO (R130): A write of TRAIN_CTL.FOV_GO starts failover of the track to its partner. -/
  | fovGo (src : WSrc) (t : TrackIx) (w : BitVec 32)
  /-- CHN_EN_WRITE (R203): A write of CHN CTL.EN enables the engine after the timing check, or disables it and drains the queue. -/
  | chnEnWrite (src : WSrc) (c : ChanIx) (w : BitVec 32)
  /-- CHN_BLK_RST (R204): A write of CHN CTL.BLK_RST starts a BLOCK reset of the channel. -/
  | chnBlkRst (src : WSrc) (c : ChanIx) (w : BitVec 32)
  /-- CHN_SWAP (R205): A write of CHN CTL.SWAP starts a spare-engine takeover of the channel. -/
  | chnSwap (src : WSrc) (c : ChanIx) (w : BitVec 32)
  /-- BWR_GUARANTEE_WRITE (R220): A write of MGUAR, DELIV or ADMIT passes or fails the admission check. -/
  | bwrGuaranteeWrite (src : WSrc) (r : GuarReg) (w : BitVec 32)
  /-- VLQ_RETUNE_GO (R279): A write of VLQ CTL.RETUNE_GO sets a retune of RETUNE_BUNDLE pending. -/
  | vlqRetuneGo (src : WSrc) (q : QuadIx) (w : BitVec 32)
  /-- VLQ_RETRAIN (R283): A write of VLQ CTL.RETRAIN starts seeded training of the quadrant's bundles. -/
  | vlqRetrain (src : WSrc) (q : QuadIx) (w : BitVec 32)
  /-- COL_SPARE_GO (R305): A write of LAY CTL.SPARE_GO spares the named column of a layer's bundle. -/
  | colSpareGo (src : WSrc) (l : LayerIx) (w : BitVec 32)
  /-- RELAY_RST (R313): A write of LAY CTL.RELAY_RST sends RELAY RESET to a junction. -/
  | relayRst (src : WSrc) (l : LayerIx) (w : BitVec 32)
  /-- CRST (R245): A write of LAY CTL.CRST sends CRST to a die whose channels are all in self-refresh. -/
  | crst (src : WSrc) (l : LayerIx) (w : BitVec 32)
  /-- VMAP_CLEAR (R333): A write of VMAP_CTL.CLEAR clears the valid map at the next tick. -/
  | vmapClear (src : WSrc) (w : BitVec 32)
  /-- FLIP_ARM (R328): A write of FLIP_CTL.ARM arms the flip mask for the next qualifying write train. -/
  | flipArm (src : WSrc) (c : ChanIx) (w : BitVec 32)
  /-- REP_COMMIT (R359): A write of REP CTL.COMMIT commits the working copy. -/
  | repCommit (src : WSrc) (w : BitVec 32)
  /-- FUSE_GO (R349): A write of REP CTL.FUSE_GO fuses every SOFT entry. -/
  | fuseGo (src : WSrc) (w : BitVec 32)
  /-- PENDING_CLR (R365): A write of REP CTL.PENDING_CLR cancels every pending pair and column group. -/
  | pendingClr (src : WSrc) (w : BitVec 32)
  /-- CHTEST_GO (R387): A write of BST.CHTEST.GO starts an explicit test of the named channel. -/
  | chtestGo (src : WSrc) (w : BitVec 32)
  /-- BST_ABORT (R388): A write of BST.CTL.ABORT aborts the explicit channel test. -/
  | bstAbort (src : WSrc) (w : BitVec 32)
  /-- SEAL_VOID (R379): A write of BST.CTL.VOID writes the seal VOID. -/
  | sealVoid (src : WSrc) (w : BitVec 32)
  /-- REACT_WRITE (R398): A write of a REACT entry changes a source's reactions, promoting class only. -/
  | reactWrite (src : WSrc) (k : Fin 95) (w : BitVec 32)
  /-- TARGET_RUN (R456): A write of PWR_REQ.TARGET RUN ends NAP or cancels PARK entry. -/
  | targetRun (src : WSrc) (w : BitVec 32)
  /-- TARGET_NAP (R457): A write of PWR_REQ.TARGET NAP permits NAP entry. -/
  | targetNap (src : WSrc) (w : BitVec 32)
  /-- TARGET_PARK (R458): A write of PWR_REQ.TARGET PARK starts PARK entry. -/
  | targetPark (src : WSrc) (w : BitVec 32)
  /-- WIDEN_GO (R449): A write of PWR_REQ.WIDEN_GO permits widening. -/
  | widenGo (src : WSrc) (w : BitVec 32)
  /-- GLB_RESET_CHIP (R453): A write of GLB.RESET.CHIP with the key starts a CHIP reset. -/
  | glbResetChip (src : WSrc) (w : BitVec 32)
  /-- GLB_BLOCK_RST_GO (R454): A write of GLB.BLOCK_RST.GO starts a BLOCK reset of the TARGET instance. -/
  | glbBlockRstGo (src : WSrc) (w : BitVec 32)
  /-- CAL_COMMIT (R479): A write of NVM CTL.CAL_COMMIT commits CAL now. -/
  | calCommit (src : WSrc) (w : BitVec 32)
  /-- WIN_RD_GO (R491): A write of NVM CTL.RD_GO reads 32 flash bytes into the window. -/
  | winRdGo (src : WSrc) (w : BitVec 32)
  /-- WIN_PROG_GO (R491): A write of NVM CTL.PROG_GO programs the window into the flash. -/
  | winProgGo (src : WSrc) (w : BitVec 32)
  /-- WIN_ERASE_GO (R491): A write of NVM CTL.ERASE_GO erases the flash sector holding WIN_ADDR. -/
  | winEraseGo (src : WSrc) (w : BitVec 32)
  /-- SNAP_GO (R509): A write of GLB.SNAP.GO requests a snapshot at the next tick. -/
  | snapGo (src : WSrc) (w : BitVec 32)
  /-- RWL_LOCK (R502): A write of GLB.LOCK.RWL_LOCK locks every RWL field, once. -/
  | rwlLock (src : WSrc) (w : BitVec 32)
  /-- WS_BYPASS (R389): The WS_BYPASS instruction selects the one-bit bypass register. -/
  | wsBypass (wsi : Bool)
  /-- WS_EXTEST (R390): The WS_EXTEST instruction drives and captures the sideband bumps through the WBR. -/
  | wsExtest (wsi bumps : BitVec 17)
  /-- WS_PRELOAD (R390): The WS_PRELOAD instruction loads the WBR without driving the bumps. -/
  | wsPreload (wsi bumps : BitVec 17)
  /-- DIE_ID (R389): The DIE_ID instruction captures the 64-bit die ID. -/
  | dieId
  /-- REG_ACC_READ (R391): A REG_ACC update with OP read performs a 4-byte register read through the port latches. -/
  | regAccRead (addr : BitVec 24)
  /-- REG_ACC_WRITE (R511): A REG_ACC update with OP write performs a 4-byte register write through the port latches. -/
  | regAccWrite (addr : BitVec 24) (data : BitVec 32)
  /-- WRSTN_RESET (R389): WRSTN low resets the wrapper and selects WS_BYPASS. -/
  | wrstnReset
  /-- HOLD_SAVE_NVM_READY (R436): After erase suspend, the NVM reports ready (or 0.1 ms passes) and the hold-up save programs page 0. -/
  | holdSaveNvmReady
  /-- CONFIG_RESPONSE_MISSED (R308): A CFGH, CFGD or CDONE expected at its scheduled arrival chip does not arrive, so the device retries, counts a failed attempt or marks the layer absent. -/
  | configResponseMissed (b : ChanIx)
  /-- COLLISION_WINDOW_END (R266): A COLL_CFG.WINDOW window closes and each column's count of captures and collisions restarts. -/
  | collisionWindowEnd (q : QuadIx)
deriving DecidableEq, Repr

end Sys2Proof
end

