-- ==== Sys2Proof/Decode.lean ====
section
/-! DEFINITION. Commands from words. The spec's table of device steps gives no row any bits: a command reaches the block as an event, not as a word (log entry 2). -/
namespace Sys2Proof

/-- The command a word of the table spells: none, since no row of the table has a bit pattern. -/
def decodeTableWord (_nbits _w : Nat) : Option Instr := none

end Sys2Proof
end

