-- ==== Sys2Proof/Config.lean ====
section
/-! DEFINITION. What one device fixes and the spec does not: free values, opaque constants with no body. No proof can see what they are. Each is named in the assumption log. -/
namespace Sys2Proof

/-- The fused serial number in bits 55:0 of the die ID; bits 63:56 are stepping 0xB1 (R390; log entry 3). -/
opaque Config.dieSerial : BitVec 56

/-- The register a PRBS generator starts from, by track and lane; the spec gives none (R98; log entry 6). -/
opaque Config.prbsSeed : Nat → Nat → BitVec 31

/-- The MISR that stepping B1 holds in ROM for each block of the logic BIST; the spec gives no values (R374; log entry 133). -/
opaque Config.romMisr : Nat → BitVec 32

/-- A fresh bit the spec leaves open, indexed by the free-value counter of State (log entry 4). -/
opaque Config.freeBit : Nat → Bool

/-- A fresh number the spec leaves open, indexed by the free-value counter of State (log entry 4). -/
opaque Config.freeNat : Nat → Nat

end Sys2Proof
end

