-- ==== Sys2Proof/Machine/Codes.lean ====
section
/-! DEFINITION. The codes of the host link: 8b/10b symbols (R69, R70), the CRCs (R137, R140, R293), the check byte of a training set (R105). -/
namespace Sys2Proof.Machine

/-- One step of a CRC taken most significant bit first: shift, and fold in the generator when the outgoing bit differs from the data bit. -/
def crcBit {w : Nat} (poly c : BitVec w) (b : Bool) : BitVec w :=
  if (c.msb ^^ b) then (c <<< 1) ^^^ poly else c <<< 1

/-- A byte into a CRC, most significant bit first. -/
def crcByte {w : Nat} (poly c : BitVec w) (b : Byte) : BitVec w :=
  [7, 6, 5, 4, 3, 2, 1, 0].foldl (fun c i => crcBit poly c (b.getLsbD i)) c

/-- Bytes into a CRC, in order. -/
def crcBytes {w : Nat} (poly c : BitVec w) (bs : List Byte) : BitVec w := bs.foldl (crcByte poly) c

/-- HCRC: CRC-16, generator 0x1021, initial value 0xFFFF (R137). -/
def hcrc (bs : List Byte) : BitVec 16 := crcBytes 0x1021#16 0xFFFF#16 bs

/-- The tail lamp's start value: the CRC of no bytes (R140). -/
def tailInit : BitVec 24 := 0xB704CE#24

/-- The tail lamp: CRC-24, generator 0x86_4CFB, carried on from a value so far (R140). -/
def tailCrc (c : BitVec 24) (bs : List Byte) : BitVec 24 := crcBytes 0x864CFB#24 c bs

/-- CRC-8, generator 0x07, initial value 0 (R293). -/
def crc8 (bs : List Byte) : BitVec 8 := crcBytes 0x07#8 0#8 bs

/-- One step of the reflected CRC-32 of IEEE 802.3 (R472). -/
def crc32Bit (c : BitVec 32) (b : Bool) : BitVec 32 :=
  if (c.getLsbD 0 ^^ b) then (c >>> 1) ^^^ 0xEDB88320#32 else c >>> 1

/-- A byte into that CRC, least significant bit first. -/
def crc32Byte (c : BitVec 32) (b : Byte) : BitVec 32 :=
  [0, 1, 2, 3, 4, 5, 6, 7].foldl (fun c i => crc32Bit c (b.getLsbD i)) c

/-- CRC-32: initial value all ones, final inversion (R472). -/
def crc32 (bs : List Byte) : BitVec 32 := ~~~(bs.foldl crc32Byte 0xFFFFFFFF#32)

/-- The bytes of a value, least significant first (R8). -/
def bytesLE {w : Nat} (n : Nat) (x : BitVec w) : List Byte :=
  (List.range n).map fun i => BitVec.ofNat 8 (x.toNat >>> (8 * i))

/-- The number a list of bytes spells, least significant first (R8). -/
def ofBytesLE : List Byte → Nat
  | [] => 0
  | b :: bs => b.toNat + 256 * ofBytesLE bs

/-- The bytes of a number, least significant first. -/
def natBytes (n x : Nat) : List Byte := (List.range n).map fun i => BitVec.ofNat 8 (x >>> (8 * i))

/-- Bits hi:lo of a number. -/
def bits (x hi lo : Nat) : Nat := x / 2 ^ lo % 2 ^ (hi - lo + 1)

/-- Bit i of a number. -/
def bit (x i : Nat) : Bool := x.testBit i

/-- 1 for true, 0 for false. -/
def b2n (b : Bool) : Nat := if b then 1 else 0

/-- A number with bit i set. -/
def setBit (x i : Nat) : Nat := if x.testBit i then x else x + 2 ^ i

/-- A number with bit i cleared. -/
def clrBit (x i : Nat) : Nat := if x.testBit i then x - 2 ^ i else x

/-- Ones in the low n bits of a number. -/
def popN (n x : Nat) : Nat := (List.range n).countP fun i => x.testBit i

/-- A two's complement field of w bits as an integer. -/
def signedOf (w x : Nat) : Int := if x < 2 ^ (w - 1) then (x : Int) else (x : Int) - (2 ^ w : Nat)

/-- An integer as a two's complement field of w bits. -/
def signedTo (w : Nat) (i : Int) : Nat := (i % ((2 ^ w : Nat) : Int)).toNat

/-! ### 8b/10b (R69; the code tables are those of IEEE Std 802.3 Clause 36, log entry 5) -/

/-- The 6-bit sub-blocks abcdei of D0 to D31 at negative running disparity. -/
def sub6 : List Nat :=
  [0b100111, 0b011101, 0b101101, 0b110001, 0b110101, 0b101001, 0b011001, 0b111000,
   0b111001, 0b100101, 0b010101, 0b110100, 0b001101, 0b101100, 0b011100, 0b010111,
   0b011011, 0b100011, 0b010011, 0b110010, 0b001011, 0b101010, 0b011010, 0b111010,
   0b110011, 0b100110, 0b010110, 0b110110, 0b001110, 0b101110, 0b011110, 0b101011]

/-- The 4-bit sub-blocks fghj of y = 0 to 7 at negative running disparity (7: the primary form). -/
def sub4 : List Nat := [0b1011, 0b1001, 0b0101, 0b1100, 0b1101, 0b1010, 0b0110, 0b1110]

/-- The 6-bit sub-block of x and the disparity after it (true: positive). -/
def enc6 (x : Nat) (rd : Bool) : Nat × Bool :=
  let v := sub6.getD x 0
  let p := popN 6 v
  if p = 3 then (if x = 7 ∧ rd then 0b000111 else v, rd)
  else (if rd then 63 - v else v, !rd)

/-- The 4-bit sub-block of y after x, and the disparity after it: the alternate form of y = 7 avoids runs of five. -/
def enc4 (x y : Nat) (rd : Bool) : Nat × Bool :=
  if y = 7 then
    let alt := if rd then x = 11 ∨ x = 13 ∨ x = 14 else x = 17 ∨ x = 18 ∨ x = 20
    let v := if alt then 0b0111 else 0b1110
    (if rd then 15 - v else v, !rd)
  else
    let v := sub4.getD y 0
    if popN 4 v = 2 then (if y = 3 ∧ rd then 0b0011 else v, rd)
    else (if rd then 15 - v else v, !rd)

/-- The data symbol of a byte at a running disparity, bit a in bit 9, and the disparity after it (R69). -/
def encData (b : Byte) (rd : Bool) : BitVec 10 × Bool :=
  let x := b.toNat % 32
  let y := b.toNat / 32
  let (s6, r1) := enc6 x rd
  let (s4, r2) := enc4 x y r1
  (BitVec.ofNat 10 (s6 * 16 + s4), r2)

/-- The control symbols the device uses (R70). -/
inductive Ctl where
  | com   -- K28.5
  | skp   -- K28.0
  | eie   -- K28.3
  | tss   -- K28.1
deriving DecidableEq, Repr

/-- The form of a control symbol at negative disparity. -/
def Ctl.neg : Ctl → Nat
  | .com => 0b0011111010
  | .skp => 0b0011110100
  | .eie => 0b0011110011
  | .tss => 0b0011111001

/-- Ones in the negative form less five, halved: whether the symbol turns the disparity. -/
def Ctl.flips (k : Ctl) : Bool := popN 10 k.neg != 5

/-- The control symbol at a running disparity and the disparity after it. -/
def encCtl (k : Ctl) (rd : Bool) : BitVec 10 × Bool :=
  (BitVec.ofNat 10 (if rd then 1023 - k.neg else k.neg), if k.flips then !rd else rd)

/-- What a received symbol is. -/
inductive Sym where
  | data (b : Byte)
  | ctl (k : Ctl)
  | viol
deriving DecidableEq, Repr

/-- Position of a number in a list, if there. -/
def indexOf (v : Nat) : List Nat → Nat → Option Nat
  | [], _ => none
  | a :: l, i => if a = v then some i else indexOf v l (i + 1)

/-- The byte whose data symbol, at some disparity, has these sub-blocks; the caller checks the whole symbol. -/
def decByte (s : BitVec 10) : Option Byte :=
  let h := s.toNat / 16
  let l := s.toNat % 16
  let x := if h = 0b000111 then some 7 else
    match indexOf h sub6 0 with
    | some x => some x
    | none => indexOf (63 - h) sub6 0
  let y := if l = 0b0011 then some 3 else if l = 0b0111 ∨ l = 0b1000 then some 7 else
    match indexOf l sub4 0 with
    | some y => some y
    | none => indexOf (15 - l) sub4 0
  match x, y with
  | some x, some y => some (BitVec.ofNat 8 (x + 32 * y))
  | _, _ => none

/-- The running disparity after a sub-block of n bits: the sign of its excess; of a balanced one, set by the two forms with their ones at one end, else unchanged (R69, Clause 36). -/
def subRd (n v lowSet highSet : Nat) (rd : Bool) : Bool :=
  let p := popN n v
  if 2 * p > n ∨ v = lowSet then true
  else if 2 * p < n ∨ v = highSet then false
  else rd

/-- The running disparity after a received code-group, whatever it is (R69). -/
def rdAfter (s : BitVec 10) (rd : Bool) : Bool :=
  subRd 4 (s.toNat % 16) 0b0011 0b1100 (subRd 6 (s.toNat / 16) 0b000111 0b111000 rd)

/-- What a received symbol is at a running disparity, and whether its form is wrong for it (R73). A control symbol outside R70 is a code violation. -/
def classify10 (s : BitVec 10) (rd : Bool) : Sym × Bool :=
  match [Ctl.com, Ctl.skp, Ctl.eie, Ctl.tss].find? fun k => (encCtl k rd).1 = s with
  | some k => (.ctl k, false)
  | none =>
    match [Ctl.com, Ctl.skp, Ctl.eie, Ctl.tss].find? fun k => (encCtl k (!rd)).1 = s with
    | some k => (.ctl k, true)
    | none =>
      match decByte s with
      | none => (.viol, false)
      | some b =>
        if (encData b rd).1 = s then (.data b, false)
        else if (encData b (!rd)).1 = s then (.data b, true)
        else (.viol, false)

/-- A received symbol at a running disparity: what it is, whether its form is wrong for the disparity, and the disparity after it, taken from the received form (R73). -/
def decode10 (s : BitVec 10) (rd : Bool) : Sym × Bool × Bool :=
  ((classify10 s rd).1, (classify10 s rd).2, rdAfter s rd)

end Sys2Proof.Machine
end

