-- ==== Sys2Proof/Machine/Chips.lean ====
section
/-! DEFINITION. Chips (R255 to R258, R260, R261, R267, R277, R290, R292): the spreading sequences, the sequence of a column and of a spine site, the chips of a train, how a receiver decides a bit, the bits of a spine beat. -/
namespace Sys2Proof.Machine

/-! ### Spreading sequences (R256, R257) -/

/-- The cover, chip 0 first (R256). -/
def coverChips : List Nat := [0, 0, 0, 1, 0, 0, 0, 1]

/-- The eight spreading sequences, chip 0 first (R256). -/
def spreadingTable : List (List Nat) :=
  [[0, 0, 0, 1, 0, 0, 0, 1], [0, 1, 0, 0, 0, 1, 0, 0], [0, 0, 1, 0, 0, 0, 1, 0], [0, 1, 1, 1, 0, 1, 1, 1],
   [0, 0, 0, 1, 1, 1, 1, 0], [0, 1, 0, 0, 1, 0, 1, 1], [0, 0, 1, 0, 1, 1, 0, 1], [0, 1, 1, 1, 1, 0, 0, 0]]

/-- Chip j of sequence q. -/
def seqChip (q j : Nat) : Nat := (spreadingTable.getD (q % 8) []).getD (j % 8) 0

/-- The offset o_h of a segment, h from 1 to 4 (R257). -/
def segOffset (h : Nat) : Nat := [0, 2, 1, 3].getD (h - 1) 0

/-- The sequence of column Cn on segment h (R257). -/
def seqOf (n h : Nat) : Nat := (n % 8 + 3 * (n / 8) + segOffset h) % 8

/-- The sequence of spine site SP.Cn on segment h (R257). -/
def spineSeq (n h : Nat) : Nat := (n + segOffset h) % 8

/-! ### Polarity and decision (R255, R258) -/

/-- The polarity of chip j of a train that carries bit d on sequence q: −1 or +1 (R255, R256). -/
def polarity (q d j : Nat) : Int := if (d + seqChip q j) % 2 = 0 then 1 else -1

/-- The chips of bits from chip j0 on, at sf chips a bit (R258, R260). -/
def spread (q sf j0 : Nat) (ds : List Nat) : List Int :=
  ds.zipIdx.flatMap fun e => (List.range sf).map fun i => polarity q e.1 (j0 + sf * e.2 + i)

/-- The sum of the samples of one bit, each multiplied by the polarity of its chip of the sequence (R258). -/
def despread (q j0 : Nat) (xs : List Int) : Int := xs.zipIdx.foldl (fun n e => n + e.1 * polarity q 0 (j0 + e.2)) 0

/-- The bit a sum decides: 0 from a sum of 0 or more (R258). -/
def decideBit (sum : Int) : Nat := if sum ≥ 0 then 0 else 1

/-- Chips a body bit takes at a gear (R258): 2, 4 or 8. -/
def sfOf (gear : Nat) : Nat := if gear = 1 then 2 else if gear = 2 then 4 else 8

/-- The eight preamble bits and the two sync bits of every train (R260). -/
def startBits : List Nat := [0, 0, 0, 0, 0, 0, 0, 0, 1, 1]

/-- The chips one column launches: preamble, sync word, body at its path gear (R260). -/
def trainChips (q g : Nat) (body : List Nat) : List Int := spread q 8 0 startBits ++ spread q (sfOf g) 80 body

/-! ### What the columns carry (R277, R290, R292) -/

/-- Body bits of a data column for the line slots of a train: slot bit k of line i is body bit 12i + k div 56 of column C(k mod 56) (R290). -/
def dataBody (n : Nat) (slots : List (BitVec 672)) : List Nat :=
  slots.flatMap fun w => (List.range 12).map fun i => b2n (w.getLsbD (56 * i + n))

/-- Body bits of a command column for the words of a train: C56 carries word bits 23:0, C57 word bits 47:24, least significant first (R292). -/
def cmdBody (n : Nat) (words : List (BitVec 48)) : List Nat :=
  words.flatMap fun w => (List.range 24).map fun i => b2n (w.getLsbD (24 * (n - 56) + i))

/-- PRBS7, x^7 + x^6 + 1 seeded all ones: the first n bits (R277). -/
def prbs7 (n : Nat) : List Nat :=
  ((List.range n).foldl (fun (a : Nat × List Nat) _ =>
    let b := (bits a.1 6 6 + bits a.1 5 5) % 2
    ((2 * a.1 + b) % 128, a.2 ++ [b])) (127, [])).2

/-- The body of a calibration train at gear g: 256 chips (R277). -/
def calBody (g : Nat) : List Nat := prbs7 (256 / sfOf g)

/-! ### The spine (R267) -/

/-- Bit i of BEAT: the mark, FRAME, the sender's layer, then 1 and 0 in turn. -/
def beatBit (frame layer i : Nat) : Nat :=
  if i < 16 then bits 0x1D2B i i
  else if i < 64 then bits frame (i - 16) (i - 16)
  else if i < 72 then bits layer (i - 64) (i - 64)
  else (i + 1) % 2

/-- Bit i of RBEAT: the mark, the flags of junctions 4, 8 and 12, then 1 and 0 in turn. -/
def rbeatBit (flags i : Nat) : Nat :=
  if i < 16 then bits 0xE2D4 i i
  else if i < 19 then bits flags (i - 16) (i - 16)
  else i % 2

/-- The level of CLK at a chip count: one transition a chip, rising at even counts. -/
def clkLevel (j : Nat) : Nat := (j + 1) % 2

/-- The level of OCT at a chip count: rising at chip phase 0, falling at 4. -/
def octLevel (j : Nat) : Nat := if j % 8 < 4 then 1 else 0

end Sys2Proof.Machine
end

