-- ==== Sys2Proof/Machine/Sources.lean ====
section
/-! DEFINITION. The fault sources of *Table — Fault sources* (R395): index, class, safe-default reactions and BRS block, one row a source. -/
namespace Sys2Proof

/-- The sources the device raises, exactly those of R395, in index order. -/
inductive Src where
  | ttHardOverrun
  | hlElastic
  | hlDeskewFail
  | hlLaneLockLoss
  | hlLaneSpared
  | hlSpareFail
  | hlSpareExhausted
  | hlL1ExitFail
  | hlResetRefused
  | hlTrainTimeout
  | hlTrainFail
  | hlHdrCrc
  | hlTailLamp
  | hlRowErr
  | hlMalformed
  | hlReplayStall
  | hlStall
  | hlPartialDiscard
  | hlUnframed
  | tabGrantReject
  | tabResumeFail
  | tabSessionLost
  | tabCensusMismatch
  | tabCensusTimeout
  | tabFailover
  | chSidingAbort
  | chStoreCe
  | chStoreUc
  | chEngineFault
  | chRmwPoison
  | chTakeover
  | chNoSpare
  | chGuaranteeDeficit
  | refBehind
  | refOverTemp
  | refTempInvalid
  | refMileageSat
  | refSrFail
  | vlPllUnlock
  | vlRelayLoss
  | vlCollisionRate
  | vlGearDown
  | vlColMargin
  | vlGearSwitchFail
  | vlTrimLimit
  | vlTrainCol
  | vlTrainFail
  | vlDecodeFail
  | vlStale
  | vlReissueLimit
  | vlCmdErr
  | vlWnak
  | vlCoreAlarm
  | vlDiscovery
  | vlWatchdog
  | vlSpareExhausted
  | vlSpareSwitchFail
  | vlBundleFail
  | vlDecoderFault
  | intTileCe
  | intTileUc
  | intPoisonRead
  | intRetestLasting
  | intVmapCe
  | intVmapUc
  | repRowRepaired
  | repColPending
  | repBudgetLow
  | repExhausted
  | repHrepFail
  | repMigrateLost
  | repStoreFail
  | repMapMoved
  | bstNotRun
  | bstLoopFail
  | bstMarchRow
  | bstLogicFail
  | bstSealWriteFail
  | bstSlowStart
  | thmSensorDisagree
  | thmThrottle
  | thmSensorFail
  | thmBaseOverTemp
  | pwrSag
  | pwrAvsFail
  | pwrVddcRange
  | pwrHoldLost
  | nvmSfdp
  | nvmRecordCrc
  | nvmRecordRefused
  | nvmWriteFail
  | nvmWear
  | regVoteCe
  | regVoteUc
  | regRefused
deriving DecidableEq, Repr

/-- The kind of block instance a BRS reaction of a source resets (R395, R405). -/
inductive BrsKind where
  | none
  | chn
  | vlq
  | bwr
deriving DecidableEq, Repr

/-- One row of *Table — Fault sources*: class 0 CE, 1 UC, 2 FT. -/
structure SrcRow where
  src : Src
  cls : Nat
  bul : Bool := false
  urg : Bool := false
  epn : Bool := false
  brs : Bool := false
  block : BrsKind := .none
deriving DecidableEq, Repr

/-- The row of a source (R395). -/
def Src.row : Src → SrcRow
  | .ttHardOverrun => { src := .ttHardOverrun, cls := 1, bul := true }
  | .hlElastic => { src := .hlElastic, cls := 0, bul := true }
  | .hlDeskewFail => { src := .hlDeskewFail, cls := 0, bul := true }
  | .hlLaneLockLoss => { src := .hlLaneLockLoss, cls := 0, bul := true }
  | .hlLaneSpared => { src := .hlLaneSpared, cls := 0, bul := true }
  | .hlSpareFail => { src := .hlSpareFail, cls := 0, bul := true }
  | .hlSpareExhausted => { src := .hlSpareExhausted, cls := 1, bul := true }
  | .hlL1ExitFail => { src := .hlL1ExitFail, cls := 0, bul := true }
  | .hlResetRefused => { src := .hlResetRefused, cls := 1, bul := true }
  | .hlTrainTimeout => { src := .hlTrainTimeout, cls := 0 }
  | .hlTrainFail => { src := .hlTrainFail, cls := 1, urg := true, epn := true }
  | .hlHdrCrc => { src := .hlHdrCrc, cls := 0 }
  | .hlTailLamp => { src := .hlTailLamp, cls := 0 }
  | .hlRowErr => { src := .hlRowErr, cls := 0 }
  | .hlMalformed => { src := .hlMalformed, cls := 1, bul := true }
  | .hlReplayStall => { src := .hlReplayStall, cls := 1, bul := true }
  | .hlStall => { src := .hlStall, cls := 0, bul := true }
  | .hlPartialDiscard => { src := .hlPartialDiscard, cls := 1, bul := true }
  | .hlUnframed => { src := .hlUnframed, cls := 0 }
  | .tabGrantReject => { src := .tabGrantReject, cls := 1, bul := true }
  | .tabResumeFail => { src := .tabResumeFail, cls := 2, urg := true, epn := true }
  | .tabSessionLost => { src := .tabSessionLost, cls := 1, urg := true }
  | .tabCensusMismatch => { src := .tabCensusMismatch, cls := 2, urg := true, epn := true }
  | .tabCensusTimeout => { src := .tabCensusTimeout, cls := 1, bul := true }
  | .tabFailover => { src := .tabFailover, cls := 1, urg := true }
  | .chSidingAbort => { src := .chSidingAbort, cls := 1, bul := true, block := .chn }
  | .chStoreCe => { src := .chStoreCe, cls := 0, block := .chn }
  | .chStoreUc => { src := .chStoreUc, cls := 1, bul := true, brs := true, block := .chn }
  | .chEngineFault => { src := .chEngineFault, cls := 1, urg := true, epn := true, block := .chn }
  | .chRmwPoison => { src := .chRmwPoison, cls := 1, bul := true, block := .chn }
  | .chTakeover => { src := .chTakeover, cls := 0, bul := true }
  | .chNoSpare => { src := .chNoSpare, cls := 1, urg := true, epn := true }
  | .chGuaranteeDeficit => { src := .chGuaranteeDeficit, cls := 1, bul := true, block := .bwr }
  | .refBehind => { src := .refBehind, cls := 1, bul := true }
  | .refOverTemp => { src := .refOverTemp, cls := 1, urg := true, epn := true }
  | .refTempInvalid => { src := .refTempInvalid, cls := 1, bul := true }
  | .refMileageSat => { src := .refMileageSat, cls := 0, bul := true }
  | .refSrFail => { src := .refSrFail, cls := 1, urg := true }
  | .vlPllUnlock => { src := .vlPllUnlock, cls := 1, bul := true, brs := true, block := .vlq }
  | .vlRelayLoss => { src := .vlRelayLoss, cls := 1, bul := true }
  | .vlCollisionRate => { src := .vlCollisionRate, cls := 0, block := .vlq }
  | .vlGearDown => { src := .vlGearDown, cls := 0, bul := true }
  | .vlColMargin => { src := .vlColMargin, cls := 0, bul := true }
  | .vlGearSwitchFail => { src := .vlGearSwitchFail, cls := 0, bul := true, block := .vlq }
  | .vlTrimLimit => { src := .vlTrimLimit, cls := 0, block := .vlq }
  | .vlTrainCol => { src := .vlTrainCol, cls := 0, bul := true }
  | .vlTrainFail => { src := .vlTrainFail, cls := 1, urg := true, epn := true, block := .vlq }
  | .vlDecodeFail => { src := .vlDecodeFail, cls := 0 }
  | .vlStale => { src := .vlStale, cls := 0 }
  | .vlReissueLimit => { src := .vlReissueLimit, cls := 1, bul := true }
  | .vlCmdErr => { src := .vlCmdErr, cls := 0 }
  | .vlWnak => { src := .vlWnak, cls := 0 }
  | .vlCoreAlarm => { src := .vlCoreAlarm, cls := 1, bul := true }
  | .vlDiscovery => { src := .vlDiscovery, cls := 1, urg := true, epn := true }
  | .vlWatchdog => { src := .vlWatchdog, cls := 0, bul := true }
  | .vlSpareExhausted => { src := .vlSpareExhausted, cls := 1, bul := true }
  | .vlSpareSwitchFail => { src := .vlSpareSwitchFail, cls := 0, bul := true }
  | .vlBundleFail => { src := .vlBundleFail, cls := 1, urg := true, epn := true }
  | .vlDecoderFault => { src := .vlDecoderFault, cls := 0, bul := true }
  | .intTileCe => { src := .intTileCe, cls := 0 }
  | .intTileUc => { src := .intTileUc, cls := 1, bul := true }
  | .intPoisonRead => { src := .intPoisonRead, cls := 1 }
  | .intRetestLasting => { src := .intRetestLasting, cls := 0, bul := true }
  | .intVmapCe => { src := .intVmapCe, cls := 0 }
  | .intVmapUc => { src := .intVmapUc, cls := 1, urg := true }
  | .repRowRepaired => { src := .repRowRepaired, cls := 0, bul := true }
  | .repColPending => { src := .repColPending, cls := 0, bul := true }
  | .repBudgetLow => { src := .repBudgetLow, cls := 0, bul := true }
  | .repExhausted => { src := .repExhausted, cls := 1, urg := true, epn := true }
  | .repHrepFail => { src := .repHrepFail, cls := 1, bul := true }
  | .repMigrateLost => { src := .repMigrateLost, cls := 1, urg := true }
  | .repStoreFail => { src := .repStoreFail, cls := 1, urg := true, epn := true }
  | .repMapMoved => { src := .repMapMoved, cls := 1, urg := true, epn := true }
  | .bstNotRun => { src := .bstNotRun, cls := 1, bul := true }
  | .bstLoopFail => { src := .bstLoopFail, cls := 0, bul := true }
  | .bstMarchRow => { src := .bstMarchRow, cls := 0, bul := true }
  | .bstLogicFail => { src := .bstLogicFail, cls := 1, urg := true, epn := true }
  | .bstSealWriteFail => { src := .bstSealWriteFail, cls := 1, bul := true }
  | .bstSlowStart => { src := .bstSlowStart, cls := 0, bul := true }
  | .thmSensorDisagree => { src := .thmSensorDisagree, cls := 1, bul := true }
  | .thmThrottle => { src := .thmThrottle, cls := 0, bul := true }
  | .thmSensorFail => { src := .thmSensorFail, cls := 1, bul := true }
  | .thmBaseOverTemp => { src := .thmBaseOverTemp, cls := 1, urg := true, epn := true }
  | .pwrSag => { src := .pwrSag, cls := 2, urg := true, epn := true }
  | .pwrAvsFail => { src := .pwrAvsFail, cls := 1, bul := true }
  | .pwrVddcRange => { src := .pwrVddcRange, cls := 1, urg := true, epn := true }
  | .pwrHoldLost => { src := .pwrHoldLost, cls := 1, urg := true, epn := true }
  | .nvmSfdp => { src := .nvmSfdp, cls := 1, urg := true, epn := true }
  | .nvmRecordCrc => { src := .nvmRecordCrc, cls := 1, urg := true, epn := true }
  | .nvmRecordRefused => { src := .nvmRecordRefused, cls := 1, urg := true, epn := true }
  | .nvmWriteFail => { src := .nvmWriteFail, cls := 1, bul := true }
  | .nvmWear => { src := .nvmWear, cls := 0, bul := true }
  | .regVoteCe => { src := .regVoteCe, cls := 0 }
  | .regVoteUc => { src := .regVoteUc, cls := 1, urg := true, epn := true }
  | .regRefused => { src := .regRefused, cls := 0 }

/-- The index of a source (R395). -/
def Src.index : Src → Nat
  | .ttHardOverrun => 0x00
  | .hlElastic => 0x01
  | .hlDeskewFail => 0x02
  | .hlLaneLockLoss => 0x03
  | .hlLaneSpared => 0x04
  | .hlSpareFail => 0x05
  | .hlSpareExhausted => 0x06
  | .hlL1ExitFail => 0x07
  | .hlResetRefused => 0x08
  | .hlTrainTimeout => 0x09
  | .hlTrainFail => 0x0A
  | .hlHdrCrc => 0x0B
  | .hlTailLamp => 0x0C
  | .hlRowErr => 0x0D
  | .hlMalformed => 0x0E
  | .hlReplayStall => 0x0F
  | .hlStall => 0x10
  | .hlPartialDiscard => 0x11
  | .hlUnframed => 0x12
  | .tabGrantReject => 0x13
  | .tabResumeFail => 0x14
  | .tabSessionLost => 0x15
  | .tabCensusMismatch => 0x16
  | .tabCensusTimeout => 0x17
  | .tabFailover => 0x18
  | .chSidingAbort => 0x19
  | .chStoreCe => 0x1A
  | .chStoreUc => 0x1B
  | .chEngineFault => 0x1C
  | .chRmwPoison => 0x1D
  | .chTakeover => 0x1E
  | .chNoSpare => 0x1F
  | .chGuaranteeDeficit => 0x20
  | .refBehind => 0x21
  | .refOverTemp => 0x22
  | .refTempInvalid => 0x23
  | .refMileageSat => 0x24
  | .refSrFail => 0x25
  | .vlPllUnlock => 0x26
  | .vlRelayLoss => 0x27
  | .vlCollisionRate => 0x28
  | .vlGearDown => 0x29
  | .vlColMargin => 0x2A
  | .vlGearSwitchFail => 0x2B
  | .vlTrimLimit => 0x2C
  | .vlTrainCol => 0x2D
  | .vlTrainFail => 0x2E
  | .vlDecodeFail => 0x2F
  | .vlStale => 0x30
  | .vlReissueLimit => 0x31
  | .vlCmdErr => 0x32
  | .vlWnak => 0x33
  | .vlCoreAlarm => 0x34
  | .vlDiscovery => 0x35
  | .vlWatchdog => 0x36
  | .vlSpareExhausted => 0x37
  | .vlSpareSwitchFail => 0x38
  | .vlBundleFail => 0x39
  | .vlDecoderFault => 0x3A
  | .intTileCe => 0x3B
  | .intTileUc => 0x3C
  | .intPoisonRead => 0x3D
  | .intRetestLasting => 0x3E
  | .intVmapCe => 0x3F
  | .intVmapUc => 0x40
  | .repRowRepaired => 0x41
  | .repColPending => 0x42
  | .repBudgetLow => 0x43
  | .repExhausted => 0x44
  | .repHrepFail => 0x45
  | .repMigrateLost => 0x46
  | .repStoreFail => 0x47
  | .repMapMoved => 0x48
  | .bstNotRun => 0x49
  | .bstLoopFail => 0x4A
  | .bstMarchRow => 0x4B
  | .bstLogicFail => 0x4C
  | .bstSealWriteFail => 0x4D
  | .bstSlowStart => 0x4E
  | .thmSensorDisagree => 0x4F
  | .thmThrottle => 0x50
  | .thmSensorFail => 0x51
  | .thmBaseOverTemp => 0x52
  | .pwrSag => 0x53
  | .pwrAvsFail => 0x54
  | .pwrVddcRange => 0x55
  | .pwrHoldLost => 0x56
  | .nvmSfdp => 0x57
  | .nvmRecordCrc => 0x58
  | .nvmRecordRefused => 0x59
  | .nvmWriteFail => 0x5A
  | .nvmWear => 0x5B
  | .regVoteCe => 0x5C
  | .regVoteUc => 0x5D
  | .regRefused => 0x5E

/-- Every source, in index order (R395). -/
def srcList : List Src :=
  [Src.ttHardOverrun, Src.hlElastic, Src.hlDeskewFail, Src.hlLaneLockLoss, Src.hlLaneSpared, Src.hlSpareFail, Src.hlSpareExhausted, Src.hlL1ExitFail] ++
  [Src.hlResetRefused, Src.hlTrainTimeout, Src.hlTrainFail, Src.hlHdrCrc, Src.hlTailLamp, Src.hlRowErr, Src.hlMalformed, Src.hlReplayStall] ++
  [Src.hlStall, Src.hlPartialDiscard, Src.hlUnframed, Src.tabGrantReject, Src.tabResumeFail, Src.tabSessionLost, Src.tabCensusMismatch, Src.tabCensusTimeout] ++
  [Src.tabFailover, Src.chSidingAbort, Src.chStoreCe, Src.chStoreUc, Src.chEngineFault, Src.chRmwPoison, Src.chTakeover, Src.chNoSpare] ++
  [Src.chGuaranteeDeficit, Src.refBehind, Src.refOverTemp, Src.refTempInvalid, Src.refMileageSat, Src.refSrFail, Src.vlPllUnlock, Src.vlRelayLoss] ++
  [Src.vlCollisionRate, Src.vlGearDown, Src.vlColMargin, Src.vlGearSwitchFail, Src.vlTrimLimit, Src.vlTrainCol, Src.vlTrainFail, Src.vlDecodeFail] ++
  [Src.vlStale, Src.vlReissueLimit, Src.vlCmdErr, Src.vlWnak, Src.vlCoreAlarm, Src.vlDiscovery, Src.vlWatchdog, Src.vlSpareExhausted] ++
  [Src.vlSpareSwitchFail, Src.vlBundleFail, Src.vlDecoderFault, Src.intTileCe, Src.intTileUc, Src.intPoisonRead, Src.intRetestLasting, Src.intVmapCe] ++
  [Src.intVmapUc, Src.repRowRepaired, Src.repColPending, Src.repBudgetLow, Src.repExhausted, Src.repHrepFail, Src.repMigrateLost, Src.repStoreFail] ++
  [Src.repMapMoved, Src.bstNotRun, Src.bstLoopFail, Src.bstMarchRow, Src.bstLogicFail, Src.bstSealWriteFail, Src.bstSlowStart, Src.thmSensorDisagree] ++
  [Src.thmThrottle, Src.thmSensorFail, Src.thmBaseOverTemp, Src.pwrSag, Src.pwrAvsFail, Src.pwrVddcRange, Src.pwrHoldLost, Src.nvmSfdp] ++
  [Src.nvmRecordCrc, Src.nvmRecordRefused, Src.nvmWriteFail, Src.nvmWear, Src.regVoteCe, Src.regVoteUc, Src.regRefused]

/-- The source of an index, where one exists; indices 0x5F to 0x7F are not used (R395). -/
def srcOfIndex (n : Nat) : Option Src := srcList[n]?

end Sys2Proof
end

