-- ==== Sys2Proof/Machine/Store.lean ====
section
/-! DEFINITION. A sparse table from numbers to values: a list of pairs in one canonical form, keys strictly rising. What an unlisted key reads as is the reader's default. Register fields, tracks, channels and the other instances are held so. -/
namespace Sys2Proof

/-- A sparse table: pairs of a key and a value. -/
abbrev Store (α : Type) := List (Nat × α)

/-- The value listed at a key, if any. -/
def Store.find {α : Type} : Store α → Nat → Option α
  | [], _ => none
  | (a, x) :: m, k => if k = a then some x else Store.find m k

/-- The value at a key; `d` where the key is not listed. -/
def Store.get {α : Type} (m : Store α) (k : Nat) (d : α) : α := (Store.find m k).getD d

/-- List a value at a key, keeping the keys rising. -/
def Store.put {α : Type} : Store α → Nat → α → Store α
  | [], k, v => [(k, v)]
  | (a, x) :: m, k, v =>
    if k < a then (k, v) :: (a, x) :: m
    else if k = a then (k, v) :: m
    else (a, x) :: Store.put m k v

/-- Unlist a key. -/
def Store.del {α : Type} (m : Store α) (k : Nat) : Store α := m.filter fun e => e.1 != k

/-- Write a value at a key whose unlisted reading is `d`: writing `d` unlists the key. -/
def Store.set {α : Type} [DecidableEq α] (m : Store α) (k : Nat) (d v : α) : Store α :=
  if v = d then Store.del m k else Store.put m k v

/-- The canonical form: keys strictly rising. -/
def Store.wf {α : Type} : Store α → Bool
  | [] => true
  | [_] => true
  | (a, _) :: (b, y) :: m => decide (a < b) && Store.wf ((b, y) :: m)

end Sys2Proof
end

