-- ==== Sys2Proof/Machine/Registers.lean ====
section
/-! DEFINITION. What a register field is: the columns of a register field table (R12, R13, R14), the block map (R495) and the address arithmetic that finds a field. The fields themselves are in RegistersA to RegistersD. -/
namespace Sys2Proof.Machine

/-- The register blocks (R495). SNP, the snapshot, mirrors the others and has no fields of its own. -/
inductive Blk where
  | glb | tt | trk | hlc | chn | bwr | ref | vlq | lay | int | rep | bst | flt | thm | pwr | nvm
deriving DecidableEq, Repr

/-- Base byte address of instance 0 of a block (R495). -/
def Blk.base : Blk → Nat
  | .glb => 0x000000 | .tt => 0x001000 | .trk => 0x010000 | .hlc => 0x030000
  | .chn => 0x040000 | .bwr => 0x060000 | .ref => 0x070000 | .vlq => 0x080000
  | .lay => 0x090400 | .int => 0x0A0000 | .rep => 0x0B0000 | .bst => 0x0C0000
  | .flt => 0x0D0000 | .thm => 0x0E0000 | .pwr => 0x0E8000 | .nvm => 0x0F0000

/-- Bytes an instance spans (R495). -/
def Blk.span : Blk → Nat
  | .glb => 0x1000 | .tt => 0x1000 | .trk => 0x800 | .hlc => 0x10000
  | .chn => 0x400 | .bwr => 0x10000 | .ref => 0x10000 | .vlq => 0x4000
  | .lay => 0x400 | .int => 0x10000 | .rep => 0x10000 | .bst => 0x10000
  | .flt => 0x10000 | .thm => 0x8000 | .pwr => 0x8000 | .nvm => 0x10000

/-- Instances of a block (R495). Instance i of LAY is layer i + 1. -/
def Blk.count : Blk → Nat
  | .trk => 32 | .chn => 66 | .vlq => 4 | .lay => 16 | _ => 1

/-- Access codes (R12). -/
inductive Access where
  | ro | rw | rwd | rwl | wo1 | w1c | w1s
deriving DecidableEq, Repr

/-- The value a field takes at a reset that does not keep it: a number, or a number its instance computes (R13). -/
inductive Dflt where
  | const (n : Nat)
  | track512          -- TAG_PART.BASE: 512 × t
  | xor4              -- FOV_MAP[t].PARTNER: t xor 4
  | chan              -- CHN[c].CTL.ENGINE: c
  | hops              -- CHN[c].LAT.HOPS: c div 16
  | seq               -- COL[b][n].SEQ: sequence of the column
  | wear              -- NVM.WEAR[a].CREDIT at the first POR
  | dieId             -- BST.DIE_ID
  | word0             -- PWR.DOMAIN_ON: SVC alone
  | react (k : Nat)   -- FLT.REACT[s]: 0 CLASS, 1 EPN, 2 BRS, 3 URG, 4 BUL
deriving DecidableEq, Repr

/-- A field whose reading is computed from other state, by what it reports. -/
inductive View where
  | bulQueued | chnQueued | chnSided | codecQueued | deficitRd | deficitWr | errNLow
  | gsumRd | gsumWr | hlcDown | hlcReady | hrepBusy | laneRole | laySr | lockCount
  | migrating | nrefPending | pktHolding | pktReplaying
  | pktRxMode | spareMin | tableFree | ttPending | vmapQuery | vmapSuspended | vmapValid
  | reactUrg | reactEpn
  | yardMin | clkAvs | clkWrck | clkSpi | clkVq | clkLcRx | clkLcTx | clkCore | clkService
deriving DecidableEq, Repr

/-- One row of a register field table (R12). `kept` is the Kept-by list as a mask: POR 1, PIN 2, CHIP 4, LINK 8, BLOCK 16, CORE 32, PARK 64 (R14). `jstr`, `jcnt` and `jmin` give the second index where the register is an array; `icnt` limits the instances that have it. -/
structure Field where
  blk : Blk
  off : Nat
  jstr : Nat := 0
  jcnt : Nat := 1
  jmin : Nat := 0
  icnt : Nat := 66
  w64 : Bool := false
  hi : Nat
  lo : Nat
  acc : Access
  dflt : Dflt
  kept : Nat
  image : Bool := false
  atTick : Bool := false
  trip : Bool := false
  snap : Bool := false
  frozen : Bool := false
  vmin : Nat := 0
  vmax : Nat := 0xFFFFFFFFFFFFFFFF
  view : Option View := none
deriving DecidableEq, Repr

/-- Width of a field in bits. -/
def Field.width (f : Field) : Nat := f.hi - f.lo + 1

/-- The byte address of a field's register at instance i and index j (R495). -/
def Field.addr (f : Field) (i j : Nat) : Nat := f.blk.base + f.blk.span * i + f.off + f.jstr * j

/-- The number one field instance is known by: its register's address and its lowest bit. -/
def Field.key (f : Field) (i j : Nat) : Nat := f.addr i j * 64 + f.lo

/-- First-POR wear credit of area a of NVM.WEAR (R489, table NVM.WEAR). -/
def wearCreditReset (a : Nat) : Nat := [1024, 64, 64, 64, 64, 16384].getD a 0

/-- The value of a field at a reset that does not keep it (R13). -/
def Field.reset (f : Field) (i j : Nat) : Nat :=
  match f.dflt with
  | .const n => n
  | .track512 => 512 * i
  | .xor4 => j ^^^ 4
  | .chan => i
  | .hops => i / 16
  | .seq => seqOf (j % 64) 1
  | .wear => wearCreditReset j
  | .dieId => 0xB1 * 2 ^ 56 + Config.dieSerial.toNat
  | .word0 => if j = 0 then 1 else 0
  | .react k =>
    match srcOfIndex j with
    | none => 0
    | some src =>
      let r := src.row
      match k with
      | 0 => r.cls
      | 1 => if r.epn then 1 else 0
      | 2 => if r.brs then 1 else 0
      | 3 => if r.urg then 1 else 0
      | _ => if r.bul then 1 else 0

end Sys2Proof.Machine
end

