-- ==== Sys2Proof/Machine/RegistersA.lean ====
section
/-! DEFINITION. The register fields of blocks GLB, TT, TRK, HLC, one definition a field, written from the field tables of spec/ (columns Bits, Field, Access, Reset, Kept by, Meaning; R12, R13, R14). A field whose Reset column reads "image" carries its safe default (R13). -/
namespace Sys2Proof.Machine

-- ADDR_MAP (R35, table GLB.ADDR_MAP)
def Fld.GLB_ADDR_MAP_CHAN_COUNT : Field := { blk := .glb, off := 0x40, hi := 23, lo := 16, acc := .ro, dflt := .const 4, kept := 120, trip := true }
def Fld.GLB_ADDR_MAP_KIND : Field := { blk := .glb, off := 0x40, hi := 11, lo := 10, acc := .ro, dflt := .const 0, kept := 120, trip := true }
def Fld.GLB_ADDR_MAP_MEMBER : Field := { blk := .glb, off := 0x40, hi := 7, lo := 4, acc := .ro, dflt := .const 1, kept := 120, trip := true }
def Fld.GLB_ADDR_MAP_HASH_EN : Field := { blk := .glb, off := 0x40, hi := 0, lo := 0, acc := .ro, dflt := .const 0, kept := 120, image := true, trip := true }
-- INSTALLED (R36, table GLB.INSTALLED)
def Fld.GLB_INSTALLED_WAGONS : Field := { blk := .glb, off := 0x44, hi := 24, lo := 0, acc := .ro, dflt := .const 0x180000, kept := 120, trip := true }
-- STATE (R466, table GLB.STATE)
def Fld.GLB_STATE_CAUSE : Field := { blk := .glb, off := 0x80, hi := 31, lo := 28, acc := .ro, dflt := .const 0, kept := 0 }
def Fld.GLB_STATE_WARM : Field := { blk := .glb, off := 0x80, hi := 24, lo := 24, acc := .ro, dflt := .const 0, kept := 0 }
def Fld.GLB_STATE_PHASE : Field := { blk := .glb, off := 0x80, hi := 23, lo := 20, acc := .ro, dflt := .const 0, kept := 0 }
def Fld.GLB_STATE_READY : Field := { blk := .glb, off := 0x80, hi := 17, lo := 17, acc := .ro, dflt := .const 0, kept := 120 }
def Fld.GLB_STATE_WIDEN_PENDING : Field := { blk := .glb, off := 0x80, hi := 16, lo := 16, acc := .ro, dflt := .const 0, kept := 0 }
def Fld.GLB_STATE_STATE : Field := { blk := .glb, off := 0x80, hi := 2, lo := 0, acc := .ro, dflt := .const 4, kept := 0 }
-- PWR_REQ (R466, table GLB.PWR_REQ)
def Fld.GLB_PWR_REQ_WIDEN_GO : Field := { blk := .glb, off := 0x84, hi := 8, lo := 8, acc := .w1s, dflt := .const 0, kept := 0 }
def Fld.GLB_PWR_REQ_TARGET : Field := { blk := .glb, off := 0x84, hi := 1, lo := 0, acc := .rw, dflt := .const 0, kept := 56, vmin := 0, vmax := 2 }
-- PWR_CFG (R466, table GLB.PWR_CFG)
def Fld.GLB_PWR_CFG_WIDEN_AUTO : Field := { blk := .glb, off := 0x88, hi := 31, lo := 31, acc := .rw, dflt := .const 1, kept := 120, image := true }
def Fld.GLB_PWR_CFG_NAP_IDLE : Field := { blk := .glb, off := 0x88, hi := 23, lo := 16, acc := .rw, dflt := .const 16, kept := 120, image := true, vmin := 1, vmax := 255 }
def Fld.GLB_PWR_CFG_PARK_DRAIN : Field := { blk := .glb, off := 0x88, hi := 15, lo := 0, acc := .rw, dflt := .const 1000, kept := 120, image := true, vmin := 1, vmax := 65535 }
-- PWR_STATUS (R466, table GLB.PWR_STATUS)
def Fld.GLB_PWR_STATUS_CFG_REJECT : Field := { blk := .glb, off := 0x8C, hi := 31, lo := 31, acc := .w1c, dflt := .const 0, kept := 120 }
def Fld.GLB_PWR_STATUS_PARK_CANCELLED : Field := { blk := .glb, off := 0x8C, hi := 30, lo := 30, acc := .w1c, dflt := .const 0, kept := 120 }
def Fld.GLB_PWR_STATUS_PARK_PARTIAL : Field := { blk := .glb, off := 0x8C, hi := 29, lo := 29, acc := .w1c, dflt := .const 0, kept := 120 }
def Fld.GLB_PWR_STATUS_DRAIN_ABORT : Field := { blk := .glb, off := 0x8C, hi := 28, lo := 28, acc := .w1c, dflt := .const 0, kept := 120 }
def Fld.GLB_PWR_STATUS_WIDEN_TRIES : Field := { blk := .glb, off := 0x8C, hi := 7, lo := 0, acc := .ro, dflt := .const 0, kept := 120 }
-- RESET (R466, table GLB.RESET and GLB.BLOCK_RST)
def Fld.GLB_RESET_CHIP : Field := { blk := .glb, off := 0x90, hi := 31, lo := 31, acc := .w1s, dflt := .const 0, kept := 0 }
def Fld.GLB_RESET_KEY : Field := { blk := .glb, off := 0x90, hi := 15, lo := 0, acc := .rw, dflt := .const 0, kept := 0 }
-- BLOCK_RST (R466, table GLB.RESET and GLB.BLOCK_RST)
def Fld.GLB_BLOCK_RST_GO : Field := { blk := .glb, off := 0x94, hi := 31, lo := 31, acc := .w1s, dflt := .const 0, kept := 0 }
def Fld.GLB_BLOCK_RST_TARGET : Field := { blk := .glb, off := 0x94, hi := 7, lo := 0, acc := .rw, dflt := .const 0, kept := 120 }
-- BOOT_TIME (R466, table GLB.BOOT_TIME)
def Fld.GLB_BOOT_TIME_FRAMES : Field := { blk := .glb, off := 0x98, hi := 31, lo := 0, acc := .ro, dflt := .const 0, kept := 120 }
-- ID (R513, table GLB.ID and GLB.FAMILY)
def Fld.GLB_ID_PART : Field := { blk := .glb, off := 0x0, hi := 31, lo := 16, acc := .ro, dflt := .const 3094, kept := 127 }
def Fld.GLB_ID_STEPPING : Field := { blk := .glb, off := 0x0, hi := 15, lo := 8, acc := .ro, dflt := .const 177, kept := 127 }
def Fld.GLB_ID_MAP_REV : Field := { blk := .glb, off := 0x0, hi := 7, lo := 0, acc := .ro, dflt := .const 3, kept := 127 }
-- FAMILY (R513, table GLB.ID and GLB.FAMILY)
def Fld.GLB_FAMILY_MAX_MEMBER : Field := { blk := .glb, off := 0x4, hi := 27, lo := 24, acc := .ro, dflt := .const 6, kept := 127 }
def Fld.GLB_FAMILY_MAX_CHANNELS : Field := { blk := .glb, off := 0x4, hi := 22, lo := 16, acc := .ro, dflt := .const 64, kept := 127 }
def Fld.GLB_FAMILY_MAX_TRACKS : Field := { blk := .glb, off := 0x4, hi := 13, lo := 8, acc := .ro, dflt := .const 32, kept := 127 }
def Fld.GLB_FAMILY_MAX_LAYERS : Field := { blk := .glb, off := 0x4, hi := 4, lo := 0, acc := .ro, dflt := .const 16, kept := 127 }
-- OWNER (R513, table GLB.OWNER, GLB.SCRATCH and GLB.LOCK)
def Fld.GLB_OWNER_VALUE : Field := { blk := .glb, off := 0x8, hi := 31, lo := 0, acc := .rwl, dflt := .const 0, kept := 120, image := true }
-- SCRATCH (R513, table GLB.OWNER, GLB.SCRATCH and GLB.LOCK)
def Fld.GLB_SCRATCH_VALUE : Field := { blk := .glb, off := 0xC, hi := 31, lo := 0, acc := .rw, dflt := .const 0, kept := 120 }
-- LOCK (R513, table GLB.OWNER, GLB.SCRATCH and GLB.LOCK)
def Fld.GLB_LOCK_RWL_LOCK : Field := { blk := .glb, off := 0x10, hi := 0, lo := 0, acc := .wo1, dflt := .const 0, kept := 120 }
-- SNAP (R513, table GLB.SNAP and GLB.SNAP_SEQ)
def Fld.GLB_SNAP_VALID : Field := { blk := .glb, off := 0x14, hi := 16, lo := 16, acc := .ro, dflt := .const 0, kept := 56 }
def Fld.GLB_SNAP_PENDING : Field := { blk := .glb, off := 0x14, hi := 8, lo := 8, acc := .ro, dflt := .const 0, kept := 56 }
def Fld.GLB_SNAP_GO : Field := { blk := .glb, off := 0x14, hi := 0, lo := 0, acc := .w1s, dflt := .const 0, kept := 0 }
-- SNAP_SEQ (R513, table GLB.SNAP and GLB.SNAP_SEQ)
def Fld.GLB_SNAP_SEQ_SEQ : Field := { blk := .glb, off := 0x18, hi := 31, lo := 0, acc := .ro, dflt := .const 0, kept := 120 }
-- REG_STATUS (R513, table GLB.REG_STATUS)
def Fld.GLB_REG_STATUS_VOTE_UC_SEEN : Field := { blk := .glb, off := 0x1C, hi := 5, lo := 5, acc := .w1c, dflt := .const 0, kept := 120 }
def Fld.GLB_REG_STATUS_ALIGN_SEEN : Field := { blk := .glb, off := 0x1C, hi := 4, lo := 4, acc := .w1c, dflt := .const 0, kept := 120 }
def Fld.GLB_REG_STATUS_SIZE_SEEN : Field := { blk := .glb, off := 0x1C, hi := 3, lo := 3, acc := .w1c, dflt := .const 0, kept := 120 }
def Fld.GLB_REG_STATUS_BUSERR_SEEN : Field := { blk := .glb, off := 0x1C, hi := 2, lo := 2, acc := .w1c, dflt := .const 0, kept := 120 }
def Fld.GLB_REG_STATUS_IGNORED_SEEN : Field := { blk := .glb, off := 0x1C, hi := 1, lo := 1, acc := .w1c, dflt := .const 0, kept := 120 }
def Fld.GLB_REG_STATUS_LOCKED_SEEN : Field := { blk := .glb, off := 0x1C, hi := 0, lo := 0, acc := .w1c, dflt := .const 0, kept := 120 }
-- REG_LAST (R513, table GLB.REG_LAST and GLB.REG_LAST_REQ)
def Fld.GLB_REG_LAST_PORT : Field := { blk := .glb, off := 0x20, hi := 29, lo := 29, acc := .ro, dflt := .const 0, kept := 120 }
def Fld.GLB_REG_LAST_WRITE : Field := { blk := .glb, off := 0x20, hi := 28, lo := 28, acc := .ro, dflt := .const 0, kept := 120 }
def Fld.GLB_REG_LAST_STATUS : Field := { blk := .glb, off := 0x20, hi := 27, lo := 24, acc := .ro, dflt := .const 0, kept := 120 }
def Fld.GLB_REG_LAST_ADDR : Field := { blk := .glb, off := 0x20, hi := 23, lo := 0, acc := .ro, dflt := .const 0, kept := 120 }
-- REG_LAST_REQ (R513, table GLB.REG_LAST and GLB.REG_LAST_REQ)
def Fld.GLB_REG_LAST_REQ_TRACK : Field := { blk := .glb, off := 0x24, hi := 28, lo := 24, acc := .ro, dflt := .const 0, kept := 120 }
def Fld.GLB_REG_LAST_REQ_MASTER : Field := { blk := .glb, off := 0x24, hi := 21, lo := 16, acc := .ro, dflt := .const 0, kept := 120 }
def Fld.GLB_REG_LAST_REQ_TAG : Field := { blk := .glb, off := 0x24, hi := 13, lo := 0, acc := .ro, dflt := .const 0, kept := 120 }
-- CNT (R513, table GLB counters)
def Fld.GLB_CNT_COUNT : Field := { blk := .glb, off := 0x60, jstr := 0x4, jcnt := 6, hi := 31, lo := 0, acc := .ro, dflt := .const 0, kept := 120, snap := true, frozen := true }

/-- Every field of block GLB, in table order. -/
def fieldsOfGlb : List Field :=
  [Fld.GLB_ADDR_MAP_CHAN_COUNT, Fld.GLB_ADDR_MAP_KIND, Fld.GLB_ADDR_MAP_MEMBER, Fld.GLB_ADDR_MAP_HASH_EN, Fld.GLB_INSTALLED_WAGONS, Fld.GLB_STATE_CAUSE, Fld.GLB_STATE_WARM, Fld.GLB_STATE_PHASE, Fld.GLB_STATE_READY, Fld.GLB_STATE_WIDEN_PENDING, Fld.GLB_STATE_STATE, Fld.GLB_PWR_REQ_WIDEN_GO] ++
  [Fld.GLB_PWR_REQ_TARGET, Fld.GLB_PWR_CFG_WIDEN_AUTO, Fld.GLB_PWR_CFG_NAP_IDLE, Fld.GLB_PWR_CFG_PARK_DRAIN, Fld.GLB_PWR_STATUS_CFG_REJECT, Fld.GLB_PWR_STATUS_PARK_CANCELLED, Fld.GLB_PWR_STATUS_PARK_PARTIAL, Fld.GLB_PWR_STATUS_DRAIN_ABORT, Fld.GLB_PWR_STATUS_WIDEN_TRIES, Fld.GLB_RESET_CHIP, Fld.GLB_RESET_KEY, Fld.GLB_BLOCK_RST_GO] ++
  [Fld.GLB_BLOCK_RST_TARGET, Fld.GLB_BOOT_TIME_FRAMES, Fld.GLB_ID_PART, Fld.GLB_ID_STEPPING, Fld.GLB_ID_MAP_REV, Fld.GLB_FAMILY_MAX_MEMBER, Fld.GLB_FAMILY_MAX_CHANNELS, Fld.GLB_FAMILY_MAX_TRACKS, Fld.GLB_FAMILY_MAX_LAYERS, Fld.GLB_OWNER_VALUE, Fld.GLB_SCRATCH_VALUE, Fld.GLB_LOCK_RWL_LOCK] ++
  [Fld.GLB_SNAP_VALID, Fld.GLB_SNAP_PENDING, Fld.GLB_SNAP_GO, Fld.GLB_SNAP_SEQ_SEQ, Fld.GLB_REG_STATUS_VOTE_UC_SEEN, Fld.GLB_REG_STATUS_ALIGN_SEEN, Fld.GLB_REG_STATUS_SIZE_SEEN, Fld.GLB_REG_STATUS_BUSERR_SEEN, Fld.GLB_REG_STATUS_IGNORED_SEEN, Fld.GLB_REG_STATUS_LOCKED_SEEN, Fld.GLB_REG_LAST_PORT, Fld.GLB_REG_LAST_WRITE] ++
  [Fld.GLB_REG_LAST_STATUS, Fld.GLB_REG_LAST_ADDR, Fld.GLB_REG_LAST_REQ_TRACK, Fld.GLB_REG_LAST_REQ_MASTER, Fld.GLB_REG_LAST_REQ_TAG, Fld.GLB_CNT_COUNT]

-- TIME (R65, table TT.TIME)
def Fld.TT_TIME_FRAME : Field := { blk := .tt, off := 0x0, w64 := true, hi := 58, lo := 11, acc := .ro, dflt := .const 0, kept := 120 }
def Fld.TT_TIME_CYCLE : Field := { blk := .tt, off := 0x0, w64 := true, hi := 10, lo := 0, acc := .ro, dflt := .const 0, kept := 120 }
-- FRAME_LOAD (R65, table TT.FRAME_LOAD)
def Fld.TT_FRAME_LOAD_VALUE : Field := { blk := .tt, off := 0x8, w64 := true, hi := 47, lo := 0, acc := .wo1, dflt := .const 0, kept := 120 }
-- STAGE (R65, table TT.STAGE)
def Fld.TT_STAGE_PENDING : Field := { blk := .tt, off := 0x10, hi := 1, lo := 1, acc := .ro, dflt := .const 0, kept := 56, view := some .ttPending }
def Fld.TT_STAGE_HOLD : Field := { blk := .tt, off := 0x10, hi := 0, lo := 0, acc := .rw, dflt := .const 0, kept := 56 }
-- STATUS (R65, table TT.STATUS)
def Fld.TT_STATUS_STAGE_DROPPED : Field := { blk := .tt, off := 0x14, hi := 2, lo := 2, acc := .w1c, dflt := .const 0, kept := 120 }
def Fld.TT_STATUS_FRAME_WRAP : Field := { blk := .tt, off := 0x14, hi := 1, lo := 1, acc := .w1c, dflt := .const 0, kept := 120 }
def Fld.TT_STATUS_EPOCH_SET : Field := { blk := .tt, off := 0x14, hi := 0, lo := 0, acc := .ro, dflt := .const 0, kept := 120 }
-- CLK_RUN (R65, table TT.CLK_RUN)
def Fld.TT_CLK_RUN_AVS : Field := { blk := .tt, off := 0x18, hi := 24, lo := 24, acc := .ro, dflt := .const 0, kept := 0, view := some .clkAvs }
def Fld.TT_CLK_RUN_WRCK : Field := { blk := .tt, off := 0x18, hi := 23, lo := 23, acc := .ro, dflt := .const 0, kept := 0, view := some .clkWrck }
def Fld.TT_CLK_RUN_SPI : Field := { blk := .tt, off := 0x18, hi := 22, lo := 22, acc := .ro, dflt := .const 0, kept := 0, view := some .clkSpi }
def Fld.TT_CLK_RUN_VQ : Field := { blk := .tt, off := 0x18, hi := 21, lo := 18, acc := .ro, dflt := .const 0, kept := 0, view := some .clkVq }
def Fld.TT_CLK_RUN_LC_RX : Field := { blk := .tt, off := 0x18, hi := 17, lo := 10, acc := .ro, dflt := .const 0, kept := 0, view := some .clkLcRx }
def Fld.TT_CLK_RUN_LC_TX : Field := { blk := .tt, off := 0x18, hi := 9, lo := 2, acc := .ro, dflt := .const 0, kept := 0, view := some .clkLcTx }
def Fld.TT_CLK_RUN_CORE : Field := { blk := .tt, off := 0x18, hi := 1, lo := 1, acc := .ro, dflt := .const 0, kept := 0, view := some .clkCore }
def Fld.TT_CLK_RUN_SERVICE : Field := { blk := .tt, off := 0x18, hi := 0, lo := 0, acc := .ro, dflt := .const 0, kept := 0, view := some .clkService }
-- OVERRUN (R65, table TT.OVERRUN[j])
def Fld.TT_OVERRUN_COUNT : Field := { blk := .tt, off := 0x20, jstr := 0x4, jcnt := 7, hi := 31, lo := 0, acc := .ro, dflt := .const 0, kept := 120, frozen := true }

/-- Every field of block TT, in table order. -/
def fieldsOfTt : List Field :=
  [Fld.TT_TIME_FRAME, Fld.TT_TIME_CYCLE, Fld.TT_FRAME_LOAD_VALUE, Fld.TT_STAGE_PENDING, Fld.TT_STAGE_HOLD, Fld.TT_STATUS_STAGE_DROPPED, Fld.TT_STATUS_FRAME_WRAP, Fld.TT_STATUS_EPOCH_SET, Fld.TT_CLK_RUN_AVS, Fld.TT_CLK_RUN_WRCK, Fld.TT_CLK_RUN_SPI, Fld.TT_CLK_RUN_VQ] ++
  [Fld.TT_CLK_RUN_LC_RX, Fld.TT_CLK_RUN_LC_TX, Fld.TT_CLK_RUN_CORE, Fld.TT_CLK_RUN_SERVICE, Fld.TT_OVERRUN_COUNT]

-- SPARE_RX (R102, table TRK[t].SPARE_RX and TRK[t].SPARE_TX)
def Fld.TRK_SPARE_RX_RETIRED : Field := { blk := .trk, off := 0x0, hi := 31, lo := 16, acc := .ro, dflt := .const 0, kept := 96 }
-- SPARE_TX (R102, table TRK[t].SPARE_RX and TRK[t].SPARE_TX)
def Fld.TRK_SPARE_TX_RETIRED : Field := { blk := .trk, off := 0x4, hi := 31, lo := 16, acc := .ro, dflt := .const 0, kept := 96 }
-- SPARE_RX (R102, table TRK[t].SPARE_RX and TRK[t].SPARE_TX)
def Fld.TRK_SPARE_RX_S1_POS : Field := { blk := .trk, off := 0x0, hi := 15, lo := 12, acc := .ro, dflt := .const 0, kept := 96 }
-- SPARE_TX (R102, table TRK[t].SPARE_RX and TRK[t].SPARE_TX)
def Fld.TRK_SPARE_TX_S1_POS : Field := { blk := .trk, off := 0x4, hi := 15, lo := 12, acc := .ro, dflt := .const 0, kept := 96 }
-- SPARE_RX (R102, table TRK[t].SPARE_RX and TRK[t].SPARE_TX)
def Fld.TRK_SPARE_RX_S1_STATE : Field := { blk := .trk, off := 0x0, hi := 9, lo := 8, acc := .rw, dflt := .const 0, kept := 96 }
-- SPARE_TX (R102, table TRK[t].SPARE_RX and TRK[t].SPARE_TX)
def Fld.TRK_SPARE_TX_S1_STATE : Field := { blk := .trk, off := 0x4, hi := 9, lo := 8, acc := .rw, dflt := .const 0, kept := 96 }
-- SPARE_RX (R102, table TRK[t].SPARE_RX and TRK[t].SPARE_TX)
def Fld.TRK_SPARE_RX_S0_POS : Field := { blk := .trk, off := 0x0, hi := 7, lo := 4, acc := .ro, dflt := .const 0, kept := 96 }
-- SPARE_TX (R102, table TRK[t].SPARE_RX and TRK[t].SPARE_TX)
def Fld.TRK_SPARE_TX_S0_POS : Field := { blk := .trk, off := 0x4, hi := 7, lo := 4, acc := .ro, dflt := .const 0, kept := 96 }
-- SPARE_RX (R102, table TRK[t].SPARE_RX and TRK[t].SPARE_TX)
def Fld.TRK_SPARE_RX_S0_STATE : Field := { blk := .trk, off := 0x0, hi := 1, lo := 0, acc := .rw, dflt := .const 0, kept := 96 }
-- SPARE_TX (R102, table TRK[t].SPARE_RX and TRK[t].SPARE_TX)
def Fld.TRK_SPARE_TX_S0_STATE : Field := { blk := .trk, off := 0x4, hi := 1, lo := 0, acc := .rw, dflt := .const 0, kept := 96 }
-- SPARE_CFG (R102, table TRK[t].SPARE_CFG)
def Fld.TRK_SPARE_CFG_AUTO_EN : Field := { blk := .trk, off := 0x8, hi := 31, lo := 31, acc := .rw, dflt := .const 1, kept := 120, image := true }
def Fld.TRK_SPARE_CFG_WINDOW : Field := { blk := .trk, off := 0x8, hi := 27, lo := 16, acc := .rw, dflt := .const 1024, kept := 120, image := true, vmin := 1, vmax := 4095 }
def Fld.TRK_SPARE_CFG_ERR_LIMIT : Field := { blk := .trk, off := 0x8, hi := 15, lo := 0, acc := .rw, dflt := .const 64, kept := 120, image := true, vmin := 1, vmax := 65535 }
-- LANE_CMD (R102, table TRK[t].LANE_CMD)
def Fld.TRK_LANE_CMD_SPARE_POS : Field := { blk := .trk, off := 0xC, hi := 11, lo := 8, acc := .rw, dflt := .const 0, kept := 120 }
def Fld.TRK_LANE_CMD_SPARE_GO : Field := { blk := .trk, off := 0xC, hi := 4, lo := 4, acc := .w1s, dflt := .const 0, kept := 0 }
def Fld.TRK_LANE_CMD_CNT_CLR : Field := { blk := .trk, off := 0xC, hi := 0, lo := 0, acc := .w1s, dflt := .const 0, kept := 0 }
-- LSTATE (R102, table TRK[t].LSTATE)
def Fld.TRK_LSTATE_CFG_REJECT : Field := { blk := .trk, off := 0x10, hi := 31, lo := 31, acc := .w1c, dflt := .const 0, kept := 120 }
def Fld.TRK_LSTATE_L1_IDLE : Field := { blk := .trk, off := 0x10, hi := 23, lo := 16, acc := .rw, dflt := .const 4, kept := 120, image := true, vmin := 1, vmax := 255 }
def Fld.TRK_LSTATE_L1_EN : Field := { blk := .trk, off := 0x10, hi := 8, lo := 8, acc := .rw, dflt := .const 0, kept := 120, image := true }
def Fld.TRK_LSTATE_TX_STATE : Field := { blk := .trk, off := 0x10, hi := 3, lo := 2, acc := .ro, dflt := .const 2, kept := 0 }
def Fld.TRK_LSTATE_RX_STATE : Field := { blk := .trk, off := 0x10, hi := 1, lo := 0, acc := .ro, dflt := .const 2, kept := 0 }
-- CAL_CFG (R102, table TRK[t].CAL_CFG)
def Fld.TRK_CAL_CFG_EQ_FREEZE : Field := { blk := .trk, off := 0x14, hi := 17, lo := 17, acc := .rw, dflt := .const 0, kept := 120 }
def Fld.TRK_CAL_CFG_TRIM_FREEZE : Field := { blk := .trk, off := 0x14, hi := 16, lo := 16, acc := .rw, dflt := .const 0, kept := 120 }
def Fld.TRK_CAL_CFG_TRAIN_WINDOW : Field := { blk := .trk, off := 0x14, hi := 15, lo := 8, acc := .rw, dflt := .const 4, kept := 120, image := true, vmin := 1, vmax := 255 }
def Fld.TRK_CAL_CFG_WINDOW : Field := { blk := .trk, off := 0x14, hi := 7, lo := 0, acc := .rw, dflt := .const 64, kept := 120, image := true, vmin := 1, vmax := 255 }
-- RX_TRIM (R102, table TRK[t].RX_TRIM[p])
def Fld.TRK_RX_TRIM_LEVEL : Field := { blk := .trk, off := 0x40, jstr := 0x40, jcnt := 18, hi := 13, lo := 8, acc := .rw, dflt := .const 32, kept := 120, image := true, atTick := true }
def Fld.TRK_RX_TRIM_OFFSET : Field := { blk := .trk, off := 0x40, jstr := 0x40, jcnt := 18, hi := 6, lo := 0, acc := .rw, dflt := .const 0, kept := 120, image := true, atTick := true }
-- RX_EQ (R102, table TRK[t].RX_EQ[p])
def Fld.TRK_RX_EQ_H3 : Field := { blk := .trk, off := 0x44, jstr := 0x40, jcnt := 18, hi := 28, lo := 24, acc := .rw, dflt := .const 0, kept := 120, image := true, atTick := true }
def Fld.TRK_RX_EQ_H2 : Field := { blk := .trk, off := 0x44, jstr := 0x40, jcnt := 18, hi := 20, lo := 16, acc := .rw, dflt := .const 0, kept := 120, image := true, atTick := true }
def Fld.TRK_RX_EQ_H1 : Field := { blk := .trk, off := 0x44, jstr := 0x40, jcnt := 18, hi := 13, lo := 8, acc := .rw, dflt := .const 0, kept := 120, image := true, atTick := true }
def Fld.TRK_RX_EQ_CTLE : Field := { blk := .trk, off := 0x44, jstr := 0x40, jcnt := 18, hi := 3, lo := 0, acc := .rw, dflt := .const 8, kept := 120, image := true, atTick := true, vmin := 0, vmax := 15 }
-- TX_FFE (R102, table TRK[t].TX_FFE[p])
def Fld.TRK_TX_FFE_SWING : Field := { blk := .trk, off := 0x48, jstr := 0x40, jcnt := 18, hi := 21, lo := 16, acc := .rwd, dflt := .const 32, kept := 120, image := true }
def Fld.TRK_TX_FFE_POST : Field := { blk := .trk, off := 0x48, jstr := 0x40, jcnt := 18, hi := 11, lo := 8, acc := .rwd, dflt := .const 4, kept := 120, image := true }
def Fld.TRK_TX_FFE_PRE : Field := { blk := .trk, off := 0x48, jstr := 0x40, jcnt := 18, hi := 3, lo := 0, acc := .rwd, dflt := .const 0, kept := 120, image := true }
-- LANE_STATUS (R102, table TRK[t].LANE_STATUS[p])
def Fld.TRK_LANE_STATUS_ROLE : Field := { blk := .trk, off := 0x4C, jstr := 0x40, jcnt := 18, hi := 21, lo := 20, acc := .ro, dflt := .const 0, kept := 0, view := some .laneRole }
def Fld.TRK_LANE_STATUS_REFUSED : Field := { blk := .trk, off := 0x4C, jstr := 0x40, jcnt := 18, hi := 16, lo := 16, acc := .w1c, dflt := .const 0, kept := 120 }
def Fld.TRK_LANE_STATUS_SKEW : Field := { blk := .trk, off := 0x4C, jstr := 0x40, jcnt := 18, hi := 12, lo := 8, acc := .ro, dflt := .const 0, kept := 0 }
def Fld.TRK_LANE_STATUS_PRBS_SYNC : Field := { blk := .trk, off := 0x4C, jstr := 0x40, jcnt := 18, hi := 3, lo := 3, acc := .ro, dflt := .const 0, kept := 0 }
def Fld.TRK_LANE_STATUS_BLK_LOCK : Field := { blk := .trk, off := 0x4C, jstr := 0x40, jcnt := 18, hi := 2, lo := 2, acc := .ro, dflt := .const 0, kept := 0 }
def Fld.TRK_LANE_STATUS_SYM_LOCK : Field := { blk := .trk, off := 0x4C, jstr := 0x40, jcnt := 18, hi := 1, lo := 1, acc := .ro, dflt := .const 0, kept := 0 }
def Fld.TRK_LANE_STATUS_SIG_DET : Field := { blk := .trk, off := 0x4C, jstr := 0x40, jcnt := 18, hi := 0, lo := 0, acc := .ro, dflt := .const 0, kept := 0 }
-- PRBS_CTL (R102, table TRK[t].PRBS_CTL[p])
def Fld.TRK_PRBS_CTL_CHK_SEL : Field := { blk := .trk, off := 0x50, jstr := 0x40, jcnt := 18, hi := 5, lo := 4, acc := .rw, dflt := .const 0, kept := 0 }
def Fld.TRK_PRBS_CTL_GEN_SEL : Field := { blk := .trk, off := 0x50, jstr := 0x40, jcnt := 18, hi := 1, lo := 0, acc := .rw, dflt := .const 0, kept := 0 }
-- INJ_CTL (R102, table TRK[t].INJ_CTL[p])
def Fld.TRK_INJ_CTL_GO : Field := { blk := .trk, off := 0x54, jstr := 0x40, jcnt := 18, hi := 31, lo := 31, acc := .w1s, dflt := .const 0, kept := 0 }
def Fld.TRK_INJ_CTL_ACTIVE : Field := { blk := .trk, off := 0x54, jstr := 0x40, jcnt := 18, hi := 30, lo := 30, acc := .ro, dflt := .const 0, kept := 0 }
def Fld.TRK_INJ_CTL_MODE : Field := { blk := .trk, off := 0x54, jstr := 0x40, jcnt := 18, hi := 26, lo := 24, acc := .rw, dflt := .const 0, kept := 0, vmin := 0, vmax := 4 }
def Fld.TRK_INJ_CTL_COUNT : Field := { blk := .trk, off := 0x54, jstr := 0x40, jcnt := 18, hi := 23, lo := 16, acc := .rw, dflt := .const 0, kept := 0, vmin := 0, vmax := 255 }
def Fld.TRK_INJ_CTL_INTERVAL : Field := { blk := .trk, off := 0x54, jstr := 0x40, jcnt := 18, hi := 15, lo := 0, acc := .rw, dflt := .const 1, kept := 0, vmin := 1, vmax := 65535 }
-- LANE_CODE_VIOL (R102, table TRK[t] lane counters)
def Fld.TRK_LANE_CODE_VIOL_COUNT : Field := { blk := .trk, off := 0x58, jstr := 0x40, jcnt := 18, hi := 31, lo := 0, acc := .ro, dflt := .const 0, kept := 120, snap := true, frozen := true }
-- LANE_DISP_ERR (R102, table TRK[t] lane counters)
def Fld.TRK_LANE_DISP_ERR_COUNT : Field := { blk := .trk, off := 0x5C, jstr := 0x40, jcnt := 18, hi := 31, lo := 0, acc := .ro, dflt := .const 0, kept := 120, snap := true, frozen := true }
-- LANE_HDR_MISS (R102, table TRK[t] lane counters)
def Fld.TRK_LANE_HDR_MISS_COUNT : Field := { blk := .trk, off := 0x60, jstr := 0x40, jcnt := 18, hi := 31, lo := 0, acc := .ro, dflt := .const 0, kept := 120, snap := true, frozen := true }
-- LANE_LOCK_LOSS (R102, table TRK[t] lane counters)
def Fld.TRK_LANE_LOCK_LOSS_COUNT : Field := { blk := .trk, off := 0x64, jstr := 0x40, jcnt := 18, hi := 31, lo := 0, acc := .ro, dflt := .const 0, kept := 120, snap := true, frozen := true }
-- LANE_CAL_REJECT (R102, table TRK[t] lane counters)
def Fld.TRK_LANE_CAL_REJECT_COUNT : Field := { blk := .trk, off := 0x68, jstr := 0x40, jcnt := 18, hi := 31, lo := 0, acc := .ro, dflt := .const 0, kept := 120, snap := true, frozen := true }
-- LANE_PRBS_ERR (R102, table TRK[t] lane counters)
def Fld.TRK_LANE_PRBS_ERR_COUNT : Field := { blk := .trk, off := 0x6C, jstr := 0x40, jcnt := 18, hi := 31, lo := 0, acc := .ro, dflt := .const 0, kept := 120, snap := true, frozen := true }
-- LANE_PRBS_BITS (R102, table TRK[t] lane counters)
def Fld.TRK_LANE_PRBS_BITS_COUNT : Field := { blk := .trk, off := 0x70, jstr := 0x40, jcnt := 18, w64 := true, hi := 63, lo := 0, acc := .ro, dflt := .const 0, kept := 120, snap := true, frozen := true }
-- TRAIN_CTL (R134, table TRK[t].TRAIN_CTL)
def Fld.TRK_TRAIN_CTL_FOV_GO : Field := { blk := .trk, off := 0x500, hi := 8, lo := 8, acc := .w1s, dflt := .const 0, kept := 0 }
def Fld.TRK_TRAIN_CTL_RETRAIN : Field := { blk := .trk, off := 0x500, hi := 4, lo := 4, acc := .w1s, dflt := .const 0, kept := 0 }
def Fld.TRK_TRAIN_CTL_EN : Field := { blk := .trk, off := 0x500, hi := 0, lo := 0, acc := .rw, dflt := .const 0, kept := 120, image := true }
-- TRAIN_STATUS (R134, table TRK[t].TRAIN_STATUS)
def Fld.TRK_TRAIN_STATUS_CFG_REJECT : Field := { blk := .trk, off := 0x504, hi := 31, lo := 31, acc := .w1c, dflt := .const 0, kept := 120 }
def Fld.TRK_TRAIN_STATUS_MAX_LEN : Field := { blk := .trk, off := 0x504, hi := 27, lo := 24, acc := .ro, dflt := .const 0, kept := 0 }
def Fld.TRK_TRAIN_STATUS_FAIL_REASON : Field := { blk := .trk, off := 0x504, hi := 23, lo := 16, acc := .ro, dflt := .const 0, kept := 120 }
def Fld.TRK_TRAIN_STATUS_ATTEMPT : Field := { blk := .trk, off := 0x504, hi := 15, lo := 8, acc := .ro, dflt := .const 0, kept := 0 }
def Fld.TRK_TRAIN_STATUS_SESSION : Field := { blk := .trk, off := 0x504, hi := 7, lo := 6, acc := .ro, dflt := .const 0, kept := 104 }
def Fld.TRK_TRAIN_STATUS_STATE : Field := { blk := .trk, off := 0x504, hi := 5, lo := 4, acc := .ro, dflt := .const 0, kept := 0 }
def Fld.TRK_TRAIN_STATUS_PHASE : Field := { blk := .trk, off := 0x504, hi := 3, lo := 0, acc := .ro, dflt := .const 0, kept := 0 }
-- GRANT_CFG (R134, table TRK[t].GRANT_CFG)
def Fld.TRK_GRANT_CFG_DATA : Field := { blk := .trk, off := 0x508, hi := 27, lo := 16, acc := .rwd, dflt := .const 2048, kept := 120, image := true, vmin := 8, vmax := 2048 }
def Fld.TRK_GRANT_CFG_REQ : Field := { blk := .trk, off := 0x508, hi := 9, lo := 0, acc := .rwd, dflt := .const 512, kept := 120, image := true, vmin := 1, vmax := 1023 }
-- TAG_PART (R134, table TRK[t].TAG_PART)
def Fld.TRK_TAG_PART_COUNT : Field := { blk := .trk, off := 0x50C, hi := 30, lo := 16, acc := .rwd, dflt := .const 512, kept := 120, image := true, vmin := 0, vmax := 16384 }
def Fld.TRK_TAG_PART_BASE : Field := { blk := .trk, off := 0x50C, hi := 13, lo := 0, acc := .rwd, dflt := .track512, kept := 120, image := true }
-- PEER_GRANT (R134, table TRK[t].PEER_GRANT)
def Fld.TRK_PEER_GRANT_DATA : Field := { blk := .trk, off := 0x510, hi := 31, lo := 16, acc := .ro, dflt := .const 0, kept := 104 }
def Fld.TRK_PEER_GRANT_REQ : Field := { blk := .trk, off := 0x510, hi := 15, lo := 0, acc := .ro, dflt := .const 0, kept := 104 }
-- POOL_TX (R134, table TRK[t].POOL_TX)
def Fld.TRK_POOL_TX_DATA_FREE : Field := { blk := .trk, off := 0x514, hi := 31, lo := 16, acc := .ro, dflt := .const 0, kept := 104 }
def Fld.TRK_POOL_TX_REQ_FREE : Field := { blk := .trk, off := 0x514, hi := 15, lo := 0, acc := .ro, dflt := .const 0, kept := 104 }
-- POOL_RX (R134, table TRK[t].POOL_RX)
def Fld.TRK_POOL_RX_DROPPED : Field := { blk := .trk, off := 0x518, hi := 31, lo := 22, acc := .ro, dflt := .const 0, kept := 120 }
def Fld.TRK_POOL_RX_REQ_HELD : Field := { blk := .trk, off := 0x518, hi := 21, lo := 12, acc := .ro, dflt := .const 0, kept := 104 }
def Fld.TRK_POOL_RX_DATA_HELD : Field := { blk := .trk, off := 0x518, hi := 11, lo := 0, acc := .ro, dflt := .const 0, kept := 104 }
-- CENSUS_STATUS (R134, table TRK[t].CENSUS_STATUS)
def Fld.TRK_CENSUS_STATUS_TAGS_OPEN : Field := { blk := .trk, off := 0x51C, hi := 30, lo := 16, acc := .ro, dflt := .const 0, kept := 104 }
def Fld.TRK_CENSUS_STATUS_RESULT : Field := { blk := .trk, off := 0x51C, hi := 9, lo := 8, acc := .ro, dflt := .const 0, kept := 104 }
def Fld.TRK_CENSUS_STATUS_ROUND : Field := { blk := .trk, off := 0x51C, hi := 7, lo := 0, acc := .ro, dflt := .const 0, kept := 104 }
-- PKT_CFG (R174, table TRK[t].PKT_CFG)
def Fld.TRK_PKT_CFG_REPLAY_LIMIT : Field := { blk := .trk, off := 0x600, hi := 31, lo := 24, acc := .rw, dflt := .const 8, kept := 120, image := true, vmin := 1, vmax := 255 }
def Fld.TRK_PKT_CFG_REPLAY_GUARD : Field := { blk := .trk, off := 0x600, hi := 23, lo := 20, acc := .rw, dflt := .const 4, kept := 120, image := true, vmin := 1, vmax := 15 }
def Fld.TRK_PKT_CFG_ACK_TIMEOUT : Field := { blk := .trk, off := 0x600, hi := 19, lo := 16, acc := .rw, dflt := .const 8, kept := 120, image := true, vmin := 1, vmax := 15 }
def Fld.TRK_PKT_CFG_PARTIAL_HOLD : Field := { blk := .trk, off := 0x600, hi := 15, lo := 0, acc := .rw, dflt := .const 64, kept := 120, image := true, atTick := true, vmin := 0, vmax := 65535 }
-- PKT_STATUS (R174, table TRK[t].PKT_STATUS)
def Fld.TRK_PKT_STATUS_CFG_REJECT : Field := { blk := .trk, off := 0x604, hi := 31, lo := 31, acc := .w1c, dflt := .const 0, kept := 120 }
def Fld.TRK_PKT_STATUS_HOLDING : Field := { blk := .trk, off := 0x604, hi := 8, lo := 8, acc := .ro, dflt := .const 0, kept := 0, view := some .pktHolding }
def Fld.TRK_PKT_STATUS_RX_MODE : Field := { blk := .trk, off := 0x604, hi := 5, lo := 4, acc := .ro, dflt := .const 0, kept := 0, view := some .pktRxMode }
def Fld.TRK_PKT_STATUS_REPLAY_STALL : Field := { blk := .trk, off := 0x604, hi := 1, lo := 1, acc := .w1c, dflt := .const 0, kept := 120 }
def Fld.TRK_PKT_STATUS_REPLAYING : Field := { blk := .trk, off := 0x604, hi := 0, lo := 0, acc := .ro, dflt := .const 0, kept := 0, view := some .pktReplaying }
-- PKT_SEQ (R174, table TRK[t].PKT_SEQ)
def Fld.TRK_PKT_SEQ_TX_NEXT : Field := { blk := .trk, off := 0x608, hi := 31, lo := 24, acc := .ro, dflt := .const 0, kept := 104 }
def Fld.TRK_PKT_SEQ_TX_ACKED : Field := { blk := .trk, off := 0x608, hi := 23, lo := 16, acc := .ro, dflt := .const 255, kept := 104 }
def Fld.TRK_PKT_SEQ_RX_LAST : Field := { blk := .trk, off := 0x608, hi := 15, lo := 8, acc := .ro, dflt := .const 255, kept := 104 }
def Fld.TRK_PKT_SEQ_UNACKED : Field := { blk := .trk, off := 0x608, hi := 7, lo := 0, acc := .ro, dflt := .const 0, kept := 104 }
-- PKT_CNT (R174, table TRK[t] packet counters)
def Fld.TRK_PKT_CNT_COUNT : Field := { blk := .trk, off := 0x610, jstr := 0x4, jcnt := 10, hi := 31, lo := 0, acc := .ro, dflt := .const 0, kept := 120, snap := true, frozen := true }
-- PKT_RX_COUNT (R174, table TRK[t] packet counters)
def Fld.TRK_PKT_RX_COUNT_COUNT : Field := { blk := .trk, off := 0x640, w64 := true, hi := 63, lo := 0, acc := .ro, dflt := .const 0, kept := 120, snap := true, frozen := true }
-- PKT_TX_COUNT (R174, table TRK[t] packet counters)
def Fld.TRK_PKT_TX_COUNT_COUNT : Field := { blk := .trk, off := 0x648, w64 := true, hi := 63, lo := 0, acc := .ro, dflt := .const 0, kept := 120, snap := true, frozen := true }

/-- Every field of block TRK, in table order. -/
def fieldsOfTrk : List Field :=
  [Fld.TRK_SPARE_RX_RETIRED, Fld.TRK_SPARE_TX_RETIRED, Fld.TRK_SPARE_RX_S1_POS, Fld.TRK_SPARE_TX_S1_POS, Fld.TRK_SPARE_RX_S1_STATE, Fld.TRK_SPARE_TX_S1_STATE, Fld.TRK_SPARE_RX_S0_POS, Fld.TRK_SPARE_TX_S0_POS, Fld.TRK_SPARE_RX_S0_STATE, Fld.TRK_SPARE_TX_S0_STATE, Fld.TRK_SPARE_CFG_AUTO_EN, Fld.TRK_SPARE_CFG_WINDOW] ++
  [Fld.TRK_SPARE_CFG_ERR_LIMIT, Fld.TRK_LANE_CMD_SPARE_POS, Fld.TRK_LANE_CMD_SPARE_GO, Fld.TRK_LANE_CMD_CNT_CLR, Fld.TRK_LSTATE_CFG_REJECT, Fld.TRK_LSTATE_L1_IDLE, Fld.TRK_LSTATE_L1_EN, Fld.TRK_LSTATE_TX_STATE, Fld.TRK_LSTATE_RX_STATE, Fld.TRK_CAL_CFG_EQ_FREEZE, Fld.TRK_CAL_CFG_TRIM_FREEZE, Fld.TRK_CAL_CFG_TRAIN_WINDOW] ++
  [Fld.TRK_CAL_CFG_WINDOW, Fld.TRK_RX_TRIM_LEVEL, Fld.TRK_RX_TRIM_OFFSET, Fld.TRK_RX_EQ_H3, Fld.TRK_RX_EQ_H2, Fld.TRK_RX_EQ_H1, Fld.TRK_RX_EQ_CTLE, Fld.TRK_TX_FFE_SWING, Fld.TRK_TX_FFE_POST, Fld.TRK_TX_FFE_PRE, Fld.TRK_LANE_STATUS_ROLE, Fld.TRK_LANE_STATUS_REFUSED] ++
  [Fld.TRK_LANE_STATUS_SKEW, Fld.TRK_LANE_STATUS_PRBS_SYNC, Fld.TRK_LANE_STATUS_BLK_LOCK, Fld.TRK_LANE_STATUS_SYM_LOCK, Fld.TRK_LANE_STATUS_SIG_DET, Fld.TRK_PRBS_CTL_CHK_SEL, Fld.TRK_PRBS_CTL_GEN_SEL, Fld.TRK_INJ_CTL_GO, Fld.TRK_INJ_CTL_ACTIVE, Fld.TRK_INJ_CTL_MODE, Fld.TRK_INJ_CTL_COUNT, Fld.TRK_INJ_CTL_INTERVAL] ++
  [Fld.TRK_LANE_CODE_VIOL_COUNT, Fld.TRK_LANE_DISP_ERR_COUNT, Fld.TRK_LANE_HDR_MISS_COUNT, Fld.TRK_LANE_LOCK_LOSS_COUNT, Fld.TRK_LANE_CAL_REJECT_COUNT, Fld.TRK_LANE_PRBS_ERR_COUNT, Fld.TRK_LANE_PRBS_BITS_COUNT, Fld.TRK_TRAIN_CTL_FOV_GO, Fld.TRK_TRAIN_CTL_RETRAIN, Fld.TRK_TRAIN_CTL_EN, Fld.TRK_TRAIN_STATUS_CFG_REJECT, Fld.TRK_TRAIN_STATUS_MAX_LEN] ++
  [Fld.TRK_TRAIN_STATUS_FAIL_REASON, Fld.TRK_TRAIN_STATUS_ATTEMPT, Fld.TRK_TRAIN_STATUS_SESSION, Fld.TRK_TRAIN_STATUS_STATE, Fld.TRK_TRAIN_STATUS_PHASE, Fld.TRK_GRANT_CFG_DATA, Fld.TRK_GRANT_CFG_REQ, Fld.TRK_TAG_PART_COUNT, Fld.TRK_TAG_PART_BASE, Fld.TRK_PEER_GRANT_DATA, Fld.TRK_PEER_GRANT_REQ, Fld.TRK_POOL_TX_DATA_FREE] ++
  [Fld.TRK_POOL_TX_REQ_FREE, Fld.TRK_POOL_RX_DROPPED, Fld.TRK_POOL_RX_REQ_HELD, Fld.TRK_POOL_RX_DATA_HELD, Fld.TRK_CENSUS_STATUS_TAGS_OPEN, Fld.TRK_CENSUS_STATUS_RESULT, Fld.TRK_CENSUS_STATUS_ROUND, Fld.TRK_PKT_CFG_REPLAY_LIMIT, Fld.TRK_PKT_CFG_REPLAY_GUARD, Fld.TRK_PKT_CFG_ACK_TIMEOUT, Fld.TRK_PKT_CFG_PARTIAL_HOLD, Fld.TRK_PKT_STATUS_CFG_REJECT] ++
  [Fld.TRK_PKT_STATUS_HOLDING, Fld.TRK_PKT_STATUS_RX_MODE, Fld.TRK_PKT_STATUS_REPLAY_STALL, Fld.TRK_PKT_STATUS_REPLAYING, Fld.TRK_PKT_SEQ_TX_NEXT, Fld.TRK_PKT_SEQ_TX_ACKED, Fld.TRK_PKT_SEQ_RX_LAST, Fld.TRK_PKT_SEQ_UNACKED, Fld.TRK_PKT_CNT_COUNT, Fld.TRK_PKT_RX_COUNT_COUNT, Fld.TRK_PKT_TX_COUNT_COUNT]

-- TRAIN_CFG (R134, table HLC.TRAIN_CFG)
def Fld.HLC_TRAIN_CFG_RETRY_PERIOD : Field := { blk := .hlc, off := 0x0, hi := 31, lo := 16, acc := .rw, dflt := .const 1000, kept := 120, image := true, vmin := 1, vmax := 65535 }
def Fld.HLC_TRAIN_CFG_AUTO_RETRY : Field := { blk := .hlc, off := 0x0, hi := 8, lo := 8, acc := .rw, dflt := .const 1, kept := 120, image := true }
def Fld.HLC_TRAIN_CFG_ATTEMPTS : Field := { blk := .hlc, off := 0x0, hi := 3, lo := 0, acc := .rw, dflt := .const 3, kept := 120, image := true, vmin := 1, vmax := 15 }
-- CENSUS_CFG (R134, table HLC.CENSUS_CFG)
def Fld.HLC_CENSUS_CFG_EN : Field := { blk := .hlc, off := 0x4, hi := 31, lo := 31, acc := .rw, dflt := .const 1, kept := 120, image := true }
def Fld.HLC_CENSUS_CFG_REPLY : Field := { blk := .hlc, off := 0x4, hi := 23, lo := 16, acc := .rw, dflt := .const 16, kept := 120, image := true, vmin := 1, vmax := 255 }
def Fld.HLC_CENSUS_CFG_INTERVAL : Field := { blk := .hlc, off := 0x4, hi := 15, lo := 0, acc := .rw, dflt := .const 1024, kept := 120, image := true, atTick := true, vmin := 1, vmax := 65535 }
-- LINK_CFG (R134, table HLC.LINK_CFG)
def Fld.HLC_LINK_CFG_FOV_EN : Field := { blk := .hlc, off := 0x8, hi := 1, lo := 1, acc := .rw, dflt := .const 1, kept := 120, image := true }
def Fld.HLC_LINK_CFG_RESET_ACCEPT : Field := { blk := .hlc, off := 0x8, hi := 0, lo := 0, acc := .rw, dflt := .const 1, kept := 120, image := true }
-- READY (R134, table HLC.READY and HLC.DOWN)
def Fld.HLC_READY_TRACKS : Field := { blk := .hlc, off := 0xC, hi := 31, lo := 0, acc := .ro, dflt := .const 0, kept := 0, view := some .hlcReady }
-- DOWN (R134, table HLC.READY and HLC.DOWN)
def Fld.HLC_DOWN_TRACKS : Field := { blk := .hlc, off := 0x10, hi := 31, lo := 0, acc := .ro, dflt := .const 0, kept := 0, view := some .hlcDown }
-- STATUS (R134, table HLC.STATUS)
def Fld.HLC_STATUS_CFG_REJECT : Field := { blk := .hlc, off := 0x14, hi := 31, lo := 31, acc := .w1c, dflt := .const 0, kept := 120 }
-- FOV_MAP (R134, table HLC.FOV_MAP[t])
def Fld.HLC_FOV_MAP_PARTNER : Field := { blk := .hlc, off := 0x40, jstr := 0x4, jcnt := 32, hi := 4, lo := 0, acc := .rw, dflt := .xor4, kept := 120, image := true }

/-- Every field of block HLC, in table order. -/
def fieldsOfHlc : List Field :=
  [Fld.HLC_TRAIN_CFG_RETRY_PERIOD, Fld.HLC_TRAIN_CFG_AUTO_RETRY, Fld.HLC_TRAIN_CFG_ATTEMPTS, Fld.HLC_CENSUS_CFG_EN, Fld.HLC_CENSUS_CFG_REPLY, Fld.HLC_CENSUS_CFG_INTERVAL, Fld.HLC_LINK_CFG_FOV_EN, Fld.HLC_LINK_CFG_RESET_ACCEPT, Fld.HLC_READY_TRACKS, Fld.HLC_DOWN_TRACKS, Fld.HLC_STATUS_CFG_REJECT, Fld.HLC_FOV_MAP_PARTNER]

end Sys2Proof.Machine
end

