-- ==== Sys2Proof/Machine/RegistersB.lean ====
section
/-! DEFINITION. The register fields of blocks CHN, BWR, REF, one definition a field, written from the field tables of spec/ (columns Bits, Field, Access, Reset, Kept by, Meaning; R12, R13, R14). A field whose Reset column reads "image" carries its safe default (R13). -/
namespace Sys2Proof.Machine

-- CTL (R207, table CHN[c].CTL)
def Fld.CHN_CTL_ENGINE : Field := { blk := .chn, off := 0x0, hi := 22, lo := 16, acc := .ro, dflt := .chan, kept := 120, image := true, trip := true }
def Fld.CHN_CTL_SWAP : Field := { blk := .chn, off := 0x0, hi := 8, lo := 8, acc := .w1s, dflt := .const 0, kept := 0 }
def Fld.CHN_CTL_BLK_RST : Field := { blk := .chn, off := 0x0, hi := 4, lo := 4, acc := .w1s, dflt := .const 0, kept := 0 }
def Fld.CHN_CTL_EN : Field := { blk := .chn, off := 0x0, hi := 0, lo := 0, acc := .rw, dflt := .const 0, kept := 120, image := true, trip := true }
-- STATUS (R207, table CHN[c].STATUS)
def Fld.CHN_STATUS_CFG_REJECT : Field := { blk := .chn, off := 0x4, hi := 31, lo := 31, acc := .w1c, dflt := .const 0, kept := 120 }
def Fld.CHN_STATUS_SIDED : Field := { blk := .chn, off := 0x4, hi := 24, lo := 16, acc := .ro, dflt := .const 0, kept := 0, view := some .chnSided }
def Fld.CHN_STATUS_DISABLED : Field := { blk := .chn, off := 0x4, hi := 15, lo := 15, acc := .ro, dflt := .const 1, kept := 0 }
def Fld.CHN_STATUS_SWAPPING : Field := { blk := .chn, off := 0x4, hi := 14, lo := 14, acc := .ro, dflt := .const 0, kept := 0 }
def Fld.CHN_STATUS_TEST : Field := { blk := .chn, off := 0x4, hi := 13, lo := 13, acc := .ro, dflt := .const 0, kept := 0 }
def Fld.CHN_STATUS_PHASE : Field := { blk := .chn, off := 0x4, hi := 12, lo := 12, acc := .ro, dflt := .const 0, kept := 0 }
def Fld.CHN_STATUS_QUEUED : Field := { blk := .chn, off := 0x4, hi := 8, lo := 0, acc := .ro, dflt := .const 0, kept := 0, view := some .chnQueued }
-- SCHED (R207, table CHN[c].SCHED)
def Fld.CHN_SCHED_WR_KEEP : Field := { blk := .chn, off := 0x8, hi := 31, lo := 24, acc := .rwd, dflt := .const 16, kept := 120, image := true, atTick := true, vmin := 0, vmax := 254 }
def Fld.CHN_SCHED_WR_HIGH : Field := { blk := .chn, off := 0x8, hi := 23, lo := 16, acc := .rwd, dflt := .const 96, kept := 120, image := true, atTick := true, vmin := 1, vmax := 255 }
def Fld.CHN_SCHED_TRAIN_WAIT : Field := { blk := .chn, off := 0x8, hi := 11, lo := 8, acc := .rwd, dflt := .const 0, kept := 120, image := true, atTick := true, vmin := 0, vmax := 15 }
def Fld.CHN_SCHED_TRAIN_MAX : Field := { blk := .chn, off := 0x8, hi := 4, lo := 0, acc := .rwd, dflt := .const 16, kept := 120, image := true, atTick := true, vmin := 1, vmax := 16 }
-- POLICY (R207, table CHN[c].POLICY)
def Fld.CHN_POLICY_AGE_LIMIT : Field := { blk := .chn, off := 0xC, hi := 25, lo := 16, acc := .rwd, dflt := .const 32, kept := 120, image := true, atTick := true, vmin := 1, vmax := 1023 }
def Fld.CHN_POLICY_PAGE_IDLE : Field := { blk := .chn, off := 0xC, hi := 13, lo := 4, acc := .rwd, dflt := .const 64, kept := 120, image := true, atTick := true, vmin := 1, vmax := 1023 }
def Fld.CHN_POLICY_PAGE : Field := { blk := .chn, off := 0xC, hi := 1, lo := 0, acc := .rwd, dflt := .const 2, kept := 120, image := true, atTick := true, vmin := 0, vmax := 2 }
-- SIDING (R207, table CHN[c].SIDING)
def Fld.CHN_SIDING_LIMIT : Field := { blk := .chn, off := 0x10, hi := 15, lo := 0, acc := .rw, dflt := .const 200, kept := 120, image := true, atTick := true, vmin := 1, vmax := 65535 }
-- LAT (R207, table CHN[c].LAT)
def Fld.CHN_LAT_HOPS : Field := { blk := .chn, off := 0x14, hi := 17, lo := 16, acc := .ro, dflt := .hops, kept := 0 }
def Fld.CHN_LAT_RD_LAT : Field := { blk := .chn, off := 0x14, hi := 8, lo := 0, acc := .ro, dflt := .const 0, kept := 120 }
-- TIM0 (R207, table CHN[c].TIM0)
def Fld.CHN_TIM0_T_RC : Field := { blk := .chn, off := 0x20, hi := 31, lo := 24, acc := .rwd, dflt := .const 78, kept := 120, image := true, atTick := true, trip := true, vmin := 1, vmax := 255 }
def Fld.CHN_TIM0_T_RAS : Field := { blk := .chn, off := 0x20, hi := 22, lo := 16, acc := .rwd, dflt := .const 52, kept := 120, image := true, atTick := true, trip := true, vmin := 1, vmax := 127 }
def Fld.CHN_TIM0_T_RP : Field := { blk := .chn, off := 0x20, hi := 13, lo := 8, acc := .rwd, dflt := .const 24, kept := 120, image := true, atTick := true, trip := true, vmin := 1, vmax := 63 }
def Fld.CHN_TIM0_T_RCD : Field := { blk := .chn, off := 0x20, hi := 5, lo := 0, acc := .rwd, dflt := .const 26, kept := 120, image := true, atTick := true, trip := true, vmin := 1, vmax := 63 }
-- TIM1 (R207, table CHN[c].TIM1)
def Fld.CHN_TIM1_T_FAW : Field := { blk := .chn, off := 0x24, hi := 22, lo := 16, acc := .rwd, dflt := .const 20, kept := 120, image := true, atTick := true, trip := true, vmin := 1, vmax := 127 }
def Fld.CHN_TIM1_T_RRD_L : Field := { blk := .chn, off := 0x24, hi := 12, lo := 8, acc := .rwd, dflt := .const 6, kept := 120, image := true, atTick := true, trip := true, vmin := 0, vmax := 31 }
def Fld.CHN_TIM1_T_RRD_S : Field := { blk := .chn, off := 0x24, hi := 4, lo := 0, acc := .rwd, dflt := .const 4, kept := 120, image := true, atTick := true, trip := true, vmin := 0, vmax := 31 }
-- TIM2 (R207, table CHN[c].TIM2)
def Fld.CHN_TIM2_T_TURN : Field := { blk := .chn, off := 0x28, hi := 28, lo := 24, acc := .rwd, dflt := .const 8, kept := 120, image := true, atTick := true, trip := true, vmin := 0, vmax := 31 }
def Fld.CHN_TIM2_T_WTR : Field := { blk := .chn, off := 0x28, hi := 20, lo := 16, acc := .rwd, dflt := .const 8, kept := 120, image := true, atTick := true, trip := true, vmin := 0, vmax := 31 }
def Fld.CHN_TIM2_T_RTP : Field := { blk := .chn, off := 0x28, hi := 12, lo := 8, acc := .rwd, dflt := .const 6, kept := 120, image := true, atTick := true, trip := true, vmin := 0, vmax := 31 }
def Fld.CHN_TIM2_T_WR : Field := { blk := .chn, off := 0x28, hi := 5, lo := 0, acc := .rwd, dflt := .const 24, kept := 120, image := true, atTick := true, trip := true, vmin := 1, vmax := 63 }
-- TIM3 (R207, table CHN[c].TIM3)
def Fld.CHN_TIM3_T_TRN : Field := { blk := .chn, off := 0x2C, hi := 31, lo := 28, acc := .rwd, dflt := .const 2, kept := 120, image := true, atTick := true, trip := true, vmin := 0, vmax := 15 }
def Fld.CHN_TIM3_T_NREF : Field := { blk := .chn, off := 0x2C, hi := 25, lo := 16, acc := .rwd, dflt := .const 320, kept := 120, image := true, atTick := true, trip := true, vmin := 1, vmax := 1023 }
def Fld.CHN_TIM3_T_RFCPB : Field := { blk := .chn, off := 0x2C, hi := 8, lo := 0, acc := .rwd, dflt := .const 208, kept := 120, image := true, atTick := true, trip := true, vmin := 1, vmax := 511 }
-- CNT (R207, table CHN[c] counters)
def Fld.CHN_CNT_COUNT : Field := { blk := .chn, off := 0x40, jstr := 0x4, jcnt := 10, hi := 31, lo := 0, acc := .ro, dflt := .const 0, kept := 104, snap := true, frozen := true }
-- REF_STATE (R250, table CHN[c].REF_STATE)
def Fld.CHN_REF_STATE_PENDING : Field := { blk := .chn, off := 0x200, hi := 31, lo := 26, acc := .ro, dflt := .const 0, kept := 56, view := some .nrefPending }
def Fld.CHN_REF_STATE_ACC : Field := { blk := .chn, off := 0x200, hi := 23, lo := 16, acc := .ro, dflt := .const 0, kept := 56 }
def Fld.CHN_REF_STATE_SR : Field := { blk := .chn, off := 0x200, hi := 13, lo := 13, acc := .ro, dflt := .const 1, kept := 88 }
def Fld.CHN_REF_STATE_RECOVERY : Field := { blk := .chn, off := 0x200, hi := 12, lo := 12, acc := .ro, dflt := .const 0, kept := 40 }
def Fld.CHN_REF_STATE_NEXT_SET : Field := { blk := .chn, off := 0x200, hi := 9, lo := 8, acc := .ro, dflt := .const 0, kept := 56 }
def Fld.CHN_REF_STATE_OWED : Field := { blk := .chn, off := 0x200, hi := 4, lo := 0, acc := .ro, dflt := .const 0, kept := 56 }
-- REF_CNT (R250, table CHN[c] refresh counters)
def Fld.CHN_REF_CNT_COUNT : Field := { blk := .chn, off := 0x210, jstr := 0x4, jcnt := 7, hi := 31, lo := 0, acc := .ro, dflt := .const 0, kept := 104, snap := true, frozen := true }
-- FLIP_CTL (R341, table CHN[c].FLIP_CTL)
def Fld.CHN_FLIP_CTL_ARMED : Field := { blk := .chn, off := 0x300, hi := 31, lo := 31, acc := .ro, dflt := .const 0, kept := 104 }
def Fld.CHN_FLIP_CTL_USED : Field := { blk := .chn, off := 0x300, hi := 30, lo := 30, acc := .w1c, dflt := .const 0, kept := 120 }
def Fld.CHN_FLIP_CTL_ARM : Field := { blk := .chn, off := 0x300, hi := 8, lo := 8, acc := .w1s, dflt := .const 0, kept := 0 }
def Fld.CHN_FLIP_CTL_TILE : Field := { blk := .chn, off := 0x300, hi := 1, lo := 0, acc := .rw, dflt := .const 1, kept := 120 }
-- FLIP (R341, table CHN[c].FLIP[k])
def Fld.CHN_FLIP_MASK : Field := { blk := .chn, off := 0x304, jstr := 0x4, jcnt := 9, hi := 31, lo := 0, acc := .rw, dflt := .const 0, kept := 120 }
-- FLIP_HIT (R341, table CHN[c].FLIP_HIT)
def Fld.CHN_FLIP_HIT_BANK : Field := { blk := .chn, off := 0x328, hi := 29, lo := 25, acc := .ro, dflt := .const 0, kept := 120 }
def Fld.CHN_FLIP_HIT_ROW : Field := { blk := .chn, off := 0x328, hi := 24, lo := 10, acc := .ro, dflt := .const 0, kept := 120 }
def Fld.CHN_FLIP_HIT_COLUMN : Field := { blk := .chn, off := 0x328, hi := 9, lo := 5, acc := .ro, dflt := .const 0, kept := 120 }
-- GANGER_POS (R341, table CHN[c].GANGER_POS and GANGER_PASS)
def Fld.CHN_GANGER_POS_BANK : Field := { blk := .chn, off := 0x330, hi := 24, lo := 20, acc := .ro, dflt := .const 0, kept := 120 }
def Fld.CHN_GANGER_POS_ROW : Field := { blk := .chn, off := 0x330, hi := 19, lo := 5, acc := .ro, dflt := .const 0, kept := 120 }
def Fld.CHN_GANGER_POS_COLUMN : Field := { blk := .chn, off := 0x330, hi := 4, lo := 0, acc := .ro, dflt := .const 0, kept := 120 }
-- GANGER_PASS (R341, table CHN[c].GANGER_POS and GANGER_PASS)
def Fld.CHN_GANGER_PASS_PASSES : Field := { blk := .chn, off := 0x334, hi := 31, lo := 0, acc := .ro, dflt := .const 0, kept := 120 }
-- INT_CNT (R341, table CHN[c] integrity counters)
def Fld.CHN_INT_CNT_COUNT : Field := { blk := .chn, off := 0x340, jstr := 0x4, jcnt := 10, hi := 31, lo := 0, acc := .ro, dflt := .const 0, kept := 104, snap := true, frozen := true }

/-- Every field of block CHN, in table order. -/
def fieldsOfChn : List Field :=
  [Fld.CHN_CTL_ENGINE, Fld.CHN_CTL_SWAP, Fld.CHN_CTL_BLK_RST, Fld.CHN_CTL_EN, Fld.CHN_STATUS_CFG_REJECT, Fld.CHN_STATUS_SIDED, Fld.CHN_STATUS_DISABLED, Fld.CHN_STATUS_SWAPPING, Fld.CHN_STATUS_TEST, Fld.CHN_STATUS_PHASE, Fld.CHN_STATUS_QUEUED, Fld.CHN_SCHED_WR_KEEP] ++
  [Fld.CHN_SCHED_WR_HIGH, Fld.CHN_SCHED_TRAIN_WAIT, Fld.CHN_SCHED_TRAIN_MAX, Fld.CHN_POLICY_AGE_LIMIT, Fld.CHN_POLICY_PAGE_IDLE, Fld.CHN_POLICY_PAGE, Fld.CHN_SIDING_LIMIT, Fld.CHN_LAT_HOPS, Fld.CHN_LAT_RD_LAT, Fld.CHN_TIM0_T_RC, Fld.CHN_TIM0_T_RAS, Fld.CHN_TIM0_T_RP] ++
  [Fld.CHN_TIM0_T_RCD, Fld.CHN_TIM1_T_FAW, Fld.CHN_TIM1_T_RRD_L, Fld.CHN_TIM1_T_RRD_S, Fld.CHN_TIM2_T_TURN, Fld.CHN_TIM2_T_WTR, Fld.CHN_TIM2_T_RTP, Fld.CHN_TIM2_T_WR, Fld.CHN_TIM3_T_TRN, Fld.CHN_TIM3_T_NREF, Fld.CHN_TIM3_T_RFCPB, Fld.CHN_CNT_COUNT] ++
  [Fld.CHN_REF_STATE_PENDING, Fld.CHN_REF_STATE_ACC, Fld.CHN_REF_STATE_SR, Fld.CHN_REF_STATE_RECOVERY, Fld.CHN_REF_STATE_NEXT_SET, Fld.CHN_REF_STATE_OWED, Fld.CHN_REF_CNT_COUNT, Fld.CHN_FLIP_CTL_ARMED, Fld.CHN_FLIP_CTL_USED, Fld.CHN_FLIP_CTL_ARM, Fld.CHN_FLIP_CTL_TILE, Fld.CHN_FLIP_MASK] ++
  [Fld.CHN_FLIP_HIT_BANK, Fld.CHN_FLIP_HIT_ROW, Fld.CHN_FLIP_HIT_COLUMN, Fld.CHN_GANGER_POS_BANK, Fld.CHN_GANGER_POS_ROW, Fld.CHN_GANGER_POS_COLUMN, Fld.CHN_GANGER_PASS_PASSES, Fld.CHN_INT_CNT_COUNT]

-- CFG (R223, table BWR.CFG)
def Fld.BWR_CFG_EN : Field := { blk := .bwr, off := 0x0, hi := 31, lo := 31, acc := .rw, dflt := .const 0, kept := 120, image := true, atTick := true, trip := true }
def Fld.BWR_CFG_ADMIT : Field := { blk := .bwr, off := 0x0, hi := 23, lo := 16, acc := .rw, dflt := .const 90, kept := 120, image := true, atTick := true, trip := true, vmin := 1, vmax := 100 }
def Fld.BWR_CFG_DEPTH : Field := { blk := .bwr, off := 0x0, hi := 6, lo := 0, acc := .rw, dflt := .const 64, kept := 120, image := true, atTick := true, vmin := 1, vmax := 64 }
-- STATUS (R223, table BWR.STATUS)
def Fld.BWR_STATUS_CFG_REJECT : Field := { blk := .bwr, off := 0x4, hi := 31, lo := 31, acc := .w1c, dflt := .const 0, kept := 120 }
def Fld.BWR_STATUS_ADMIT_REJECT : Field := { blk := .bwr, off := 0x4, hi := 30, lo := 30, acc := .w1c, dflt := .const 0, kept := 120 }
def Fld.BWR_STATUS_IMAGE_REJECT : Field := { blk := .bwr, off := 0x4, hi := 29, lo := 29, acc := .ro, dflt := .const 0, kept := 120 }
def Fld.BWR_STATUS_DEFICIT_WR : Field := { blk := .bwr, off := 0x4, hi := 3, lo := 3, acc := .ro, dflt := .const 0, kept := 0, view := some .deficitWr }
def Fld.BWR_STATUS_DEFICIT_RD : Field := { blk := .bwr, off := 0x4, hi := 2, lo := 2, acc := .ro, dflt := .const 0, kept := 0, view := some .deficitRd }
def Fld.BWR_STATUS_SEEN_WR : Field := { blk := .bwr, off := 0x4, hi := 1, lo := 1, acc := .w1c, dflt := .const 0, kept := 120 }
def Fld.BWR_STATUS_SEEN_RD : Field := { blk := .bwr, off := 0x4, hi := 0, lo := 0, acc := .w1c, dflt := .const 0, kept := 120 }
-- DELIV (R223, table BWR.DELIV)
def Fld.BWR_DELIV_WR : Field := { blk := .bwr, off := 0x8, hi := 29, lo := 16, acc := .rw, dflt := .const 2900, kept := 120, image := true, atTick := true, trip := true, vmin := 1, vmax := 6553 }
def Fld.BWR_DELIV_RD : Field := { blk := .bwr, off := 0x8, hi := 13, lo := 0, acc := .rw, dflt := .const 2900, kept := 120, image := true, atTick := true, trip := true, vmin := 1, vmax := 6553 }
-- DERATE (R223, table BWR.DERATE)
def Fld.BWR_DERATE_X4 : Field := { blk := .bwr, off := 0xC, hi := 24, lo := 16, acc := .rw, dflt := .const 232, kept := 120, image := true, atTick := true, vmin := 1, vmax := 256 }
def Fld.BWR_DERATE_X2 : Field := { blk := .bwr, off := 0xC, hi := 8, lo := 0, acc := .rw, dflt := .const 248, kept := 120, image := true, atTick := true, vmin := 1, vmax := 256 }
-- SCALE_RD (R223, table BWR.SCALE_RD, SCALE_WR, DNOW_RD, DNOW_WR and GSUM)
def Fld.BWR_SCALE_RD_K : Field := { blk := .bwr, off := 0x10, hi := 16, lo := 0, acc := .ro, dflt := .const 0x10000, kept := 0 }
-- SCALE_WR (R223, table BWR.SCALE_RD, SCALE_WR, DNOW_RD, DNOW_WR and GSUM)
def Fld.BWR_SCALE_WR_K : Field := { blk := .bwr, off := 0x14, hi := 16, lo := 0, acc := .ro, dflt := .const 0x10000, kept := 0 }
-- DNOW_RD (R223, table BWR.SCALE_RD, SCALE_WR, DNOW_RD, DNOW_WR and GSUM)
def Fld.BWR_DNOW_RD_D : Field := { blk := .bwr, off := 0x18, hi := 20, lo := 0, acc := .ro, dflt := .const 0, kept := 0 }
-- DNOW_WR (R223, table BWR.SCALE_RD, SCALE_WR, DNOW_RD, DNOW_WR and GSUM)
def Fld.BWR_DNOW_WR_D : Field := { blk := .bwr, off := 0x1C, hi := 20, lo := 0, acc := .ro, dflt := .const 0, kept := 0 }
-- GSUM (R223, table BWR.SCALE_RD, SCALE_WR, DNOW_RD, DNOW_WR and GSUM)
def Fld.BWR_GSUM_WR : Field := { blk := .bwr, off := 0x20, hi := 31, lo := 16, acc := .ro, dflt := .const 0, kept := 0, view := some .gsumWr }
def Fld.BWR_GSUM_RD : Field := { blk := .bwr, off := 0x20, hi := 15, lo := 0, acc := .ro, dflt := .const 0, kept := 0, view := some .gsumRd }
-- MGUAR (R223, table BWR.MGUAR[m])
def Fld.BWR_MGUAR_GUAR_WR : Field := { blk := .bwr, off := 0x100, jstr := 0x20, jcnt := 64, hi := 28, lo := 16, acc := .rw, dflt := .const 0, kept := 120, image := true, atTick := true, vmin := 0, vmax := 8191 }
def Fld.BWR_MGUAR_GUAR_RD : Field := { blk := .bwr, off := 0x100, jstr := 0x20, jcnt := 64, hi := 12, lo := 0, acc := .rw, dflt := .const 0, kept := 120, image := true, atTick := true, vmin := 0, vmax := 8191 }
-- MSHARE (R223, table BWR.MSHARE[m])
def Fld.BWR_MSHARE_SHARE_WR : Field := { blk := .bwr, off := 0x104, jstr := 0x20, jcnt := 64, hi := 15, lo := 8, acc := .rw, dflt := .const 1, kept := 120, image := true, atTick := true, vmin := 0, vmax := 255 }
def Fld.BWR_MSHARE_SHARE_RD : Field := { blk := .bwr, off := 0x104, jstr := 0x20, jcnt := 64, hi := 7, lo := 0, acc := .rw, dflt := .const 1, kept := 120, image := true, atTick := true, vmin := 0, vmax := 255 }
-- MDEF (R223, table BWR.MDEF[m])
def Fld.BWR_MDEF_DEF_WR : Field := { blk := .bwr, off := 0x108, jstr := 0x20, jcnt := 64, hi := 31, lo := 16, acc := .ro, dflt := .const 0, kept := 120, snap := true, frozen := true }
def Fld.BWR_MDEF_DEF_RD : Field := { blk := .bwr, off := 0x108, jstr := 0x20, jcnt := 64, hi := 15, lo := 0, acc := .ro, dflt := .const 0, kept := 120, snap := true, frozen := true }
-- MBYTES_RD (R223, table BWR.MBYTES_RD[m] and MBYTES_WR[m])
def Fld.BWR_MBYTES_RD_BYTES : Field := { blk := .bwr, off := 0x110, jstr := 0x20, jcnt := 64, w64 := true, hi := 63, lo := 0, acc := .ro, dflt := .const 0, kept := 120, snap := true, frozen := true }
-- MBYTES_WR (R223, table BWR.MBYTES_RD[m] and MBYTES_WR[m])
def Fld.BWR_MBYTES_WR_BYTES : Field := { blk := .bwr, off := 0x118, jstr := 0x20, jcnt := 64, w64 := true, hi := 63, lo := 0, acc := .ro, dflt := .const 0, kept := 120, snap := true, frozen := true }

/-- Every field of block BWR, in table order. -/
def fieldsOfBwr : List Field :=
  [Fld.BWR_CFG_EN, Fld.BWR_CFG_ADMIT, Fld.BWR_CFG_DEPTH, Fld.BWR_STATUS_CFG_REJECT, Fld.BWR_STATUS_ADMIT_REJECT, Fld.BWR_STATUS_IMAGE_REJECT, Fld.BWR_STATUS_DEFICIT_WR, Fld.BWR_STATUS_DEFICIT_RD, Fld.BWR_STATUS_SEEN_WR, Fld.BWR_STATUS_SEEN_RD, Fld.BWR_DELIV_WR, Fld.BWR_DELIV_RD] ++
  [Fld.BWR_DERATE_X4, Fld.BWR_DERATE_X2, Fld.BWR_SCALE_RD_K, Fld.BWR_SCALE_WR_K, Fld.BWR_DNOW_RD_D, Fld.BWR_DNOW_WR_D, Fld.BWR_GSUM_WR, Fld.BWR_GSUM_RD, Fld.BWR_MGUAR_GUAR_WR, Fld.BWR_MGUAR_GUAR_RD, Fld.BWR_MSHARE_SHARE_WR, Fld.BWR_MSHARE_SHARE_RD] ++
  [Fld.BWR_MDEF_DEF_WR, Fld.BWR_MDEF_DEF_RD, Fld.BWR_MBYTES_RD_BYTES, Fld.BWR_MBYTES_WR_BYTES]

-- CFG (R250, table REF.CFG)
def Fld.REF_CFG_HYST : Field := { blk := .ref, off := 0x0, hi := 31, lo := 24, acc := .rw, dflt := .const 128, kept := 120, image := true, atTick := true, vmin := 1, vmax := 255 }
def Fld.REF_CFG_OWED_MAX : Field := { blk := .ref, off := 0x0, hi := 20, lo := 16, acc := .rw, dflt := .const 8, kept := 120, image := true, atTick := true, vmin := 2, vmax := 31 }
def Fld.REF_CFG_OWED_FORCE : Field := { blk := .ref, off := 0x0, hi := 15, lo := 12, acc := .rw, dflt := .const 4, kept := 120, image := true, atTick := true, vmin := 1, vmax := 15 }
def Fld.REF_CFG_TREFI : Field := { blk := .ref, off := 0x0, hi := 7, lo := 0, acc := .rw, dflt := .const 39, kept := 120, image := true, atTick := true, trip := true, vmin := 20, vmax := 255 }
-- MILEAGE (R250, table REF.MILEAGE)
def Fld.REF_MILEAGE_ACT_THRESH : Field := { blk := .ref, off := 0x4, hi := 15, lo := 0, acc := .rw, dflt := .const 2048, kept := 120, image := true, atTick := true, trip := true, vmin := 2, vmax := 65535 }
-- SR (R250, table REF.SR)
def Fld.REF_SR_LONG : Field := { blk := .ref, off := 0x8, hi := 31, lo := 16, acc := .rw, dflt := .const 32, kept := 120, image := true, vmin := 1, vmax := 65535 }
def Fld.REF_SR_T_XS : Field := { blk := .ref, off := 0x8, hi := 15, lo := 0, acc := .rw, dflt := .const 480, kept := 120, image := true, vmin := 1, vmax := 65535 }
-- STATUS (R250, table REF.STATUS)
def Fld.REF_STATUS_CFG_REJECT : Field := { blk := .ref, off := 0xC, hi := 31, lo := 31, acc := .w1c, dflt := .const 0, kept := 120 }
def Fld.REF_STATUS_SAT_SEEN : Field := { blk := .ref, off := 0xC, hi := 2, lo := 2, acc := .w1c, dflt := .const 0, kept := 120 }
def Fld.REF_STATUS_BEHIND_SEEN : Field := { blk := .ref, off := 0xC, hi := 1, lo := 1, acc := .w1c, dflt := .const 0, kept := 120 }
def Fld.REF_STATUS_OVER_TEMP : Field := { blk := .ref, off := 0xC, hi := 0, lo := 0, acc := .ro, dflt := .const 0, kept := 0 }
-- LAYER_RATE (R250, table REF.LAYER_RATE)
def Fld.REF_LAYER_RATE_RATE : Field := { blk := .ref, off := 0x10, hi := 31, lo := 0, acc := .ro, dflt := .const 0xAAAAAAAA, kept := 0 }

/-- Every field of block REF, in table order. -/
def fieldsOfRef : List Field :=
  [Fld.REF_CFG_HYST, Fld.REF_CFG_OWED_MAX, Fld.REF_CFG_OWED_FORCE, Fld.REF_CFG_TREFI, Fld.REF_MILEAGE_ACT_THRESH, Fld.REF_SR_LONG, Fld.REF_SR_T_XS, Fld.REF_STATUS_CFG_REJECT, Fld.REF_STATUS_SAT_SEEN, Fld.REF_STATUS_BEHIND_SEEN, Fld.REF_STATUS_OVER_TEMP, Fld.REF_LAYER_RATE_RATE]

end Sys2Proof.Machine
end

