-- ==== Sys2Proof/Machine/RegistersC.lean ====
section
/-! DEFINITION. The register fields of blocks VLQ, LAY, INT, REP, one definition a field, written from the field tables of spec/ (columns Bits, Field, Access, Reset, Kept by, Meaning; R12, R13, R14). A field whose Reset column reads "image" carries its safe default (R13). -/
namespace Sys2Proof.Machine

-- CTL (R287, table VLQ[q].CTL)
def Fld.VLQ_CTL_PH_FREEZE : Field := { blk := .vlq, off := 0x0, hi := 21, lo := 21, acc := .rw, dflt := .const 0, kept := 120 }
def Fld.VLQ_CTL_GEAR_FREEZE : Field := { blk := .vlq, off := 0x0, hi := 20, lo := 20, acc := .rw, dflt := .const 0, kept := 120 }
def Fld.VLQ_CTL_RETUNE_GO : Field := { blk := .vlq, off := 0x0, hi := 16, lo := 16, acc := .w1s, dflt := .const 0, kept := 0 }
def Fld.VLQ_CTL_RETUNE_BUNDLE : Field := { blk := .vlq, off := 0x0, hi := 13, lo := 8, acc := .rw, dflt := .const 0, kept := 120 }
def Fld.VLQ_CTL_RETRAIN : Field := { blk := .vlq, off := 0x0, hi := 4, lo := 4, acc := .w1s, dflt := .const 0, kept := 0 }
def Fld.VLQ_CTL_EN : Field := { blk := .vlq, off := 0x0, hi := 0, lo := 0, acc := .rw, dflt := .const 0, kept := 120, image := true, trip := true }
-- STATUS (R287, table VLQ[q].STATUS)
def Fld.VLQ_STATUS_CFG_REJECT : Field := { blk := .vlq, off := 0x4, hi := 31, lo := 31, acc := .w1c, dflt := .const 0, kept := 120 }
def Fld.VLQ_STATUS_SEG_FAIL : Field := { blk := .vlq, off := 0x4, hi := 11, lo := 8, acc := .ro, dflt := .const 0, kept := 0 }
def Fld.VLQ_STATUS_QUIET : Field := { blk := .vlq, off := 0x4, hi := 3, lo := 3, acc := .ro, dflt := .const 0, kept := 0 }
def Fld.VLQ_STATUS_RETUNING : Field := { blk := .vlq, off := 0x4, hi := 2, lo := 2, acc := .ro, dflt := .const 0, kept := 0 }
def Fld.VLQ_STATUS_TRAINING : Field := { blk := .vlq, off := 0x4, hi := 1, lo := 1, acc := .ro, dflt := .const 0, kept := 0 }
def Fld.VLQ_STATUS_TRAINED : Field := { blk := .vlq, off := 0x4, hi := 0, lo := 0, acc := .ro, dflt := .const 0, kept := 0 }
-- GEAR_CFG (R287, table VLQ[q].GEAR_CFG)
def Fld.VLQ_GEAR_CFG_LEAD : Field := { blk := .vlq, off := 0x8, hi := 31, lo := 24, acc := .rw, dflt := .const 8, kept := 120, image := true, vmin := 2, vmax := 255 }
def Fld.VLQ_GEAR_CFG_TOP : Field := { blk := .vlq, off := 0x8, hi := 21, lo := 20, acc := .rw, dflt := .const 1, kept := 120, image := true, vmin := 1, vmax := 3 }
def Fld.VLQ_GEAR_CFG_UP_WINDOWS : Field := { blk := .vlq, off := 0x8, hi := 19, lo := 16, acc := .rw, dflt := .const 4, kept := 120, image := true, vmin := 1, vmax := 15 }
def Fld.VLQ_GEAR_CFG_WINDOW : Field := { blk := .vlq, off := 0x8, hi := 15, lo := 0, acc := .rw, dflt := .const 1024, kept := 120, image := true, atTick := true, vmin := 1, vmax := 65535 }
-- GEAR_LIM (R287, table VLQ[q].GEAR_LIM)
def Fld.VLQ_GEAR_LIM_G3_MAX : Field := { blk := .vlq, off := 0xC, hi := 31, lo := 20, acc := .rw, dflt := .const 2048, kept := 120, image := true, atTick := true, vmin := 1, vmax := 4095 }
def Fld.VLQ_GEAR_LIM_G2_MAX : Field := { blk := .vlq, off := 0xC, hi := 19, lo := 10, acc := .rw, dflt := .const 512, kept := 120, image := true, atTick := true, vmin := 1, vmax := 1023 }
def Fld.VLQ_GEAR_LIM_G1_MAX : Field := { blk := .vlq, off := 0xC, hi := 9, lo := 0, acc := .rw, dflt := .const 64, kept := 120, image := true, atTick := true, vmin := 1, vmax := 1023 }
-- CAL_CFG (R287, table VLQ[q].CAL_CFG)
def Fld.VLQ_CAL_CFG_EN : Field := { blk := .vlq, off := 0x10, hi := 31, lo := 31, acc := .rw, dflt := .const 1, kept := 120, image := true }
def Fld.VLQ_CAL_CFG_VOTE : Field := { blk := .vlq, off := 0x10, hi := 23, lo := 16, acc := .rw, dflt := .const 32, kept := 120, image := true, vmin := 1, vmax := 255 }
def Fld.VLQ_CAL_CFG_MIN_CHIPS : Field := { blk := .vlq, off := 0x10, hi := 15, lo := 0, acc := .rw, dflt := .const 16, kept := 120, image := true, vmin := 1, vmax := 65535 }
-- COLL_CFG (R287, table VLQ[q].COLL_CFG)
def Fld.VLQ_COLL_CFG_WINDOW : Field := { blk := .vlq, off := 0x14, hi := 31, lo := 16, acc := .rw, dflt := .const 1024, kept := 120, image := true, vmin := 1, vmax := 65535 }
def Fld.VLQ_COLL_CFG_LIMIT : Field := { blk := .vlq, off := 0x14, hi := 15, lo := 0, acc := .rw, dflt := .const 16, kept := 120, image := true, vmin := 1, vmax := 65535 }
-- SPINE (R287, table VLQ[0].SPINE)
def Fld.VLQ_SPINE_BEAT_LOSS : Field := { blk := .vlq, off := 0x18, hi := 31, lo := 24, acc := .ro, dflt := .const 0, kept := 120, frozen := true, icnt := 1 }
def Fld.VLQ_SPINE_SITES : Field := { blk := .vlq, off := 0x18, hi := 19, lo := 8, acc := .ro, dflt := .const 1672, kept := 0, icnt := 1 }
def Fld.VLQ_SPINE_RELAY_OK : Field := { blk := .vlq, off := 0x18, hi := 4, lo := 2, acc := .ro, dflt := .const 0, kept := 0, icnt := 1 }
def Fld.VLQ_SPINE_RBEAT_LOCK : Field := { blk := .vlq, off := 0x18, hi := 1, lo := 1, acc := .ro, dflt := .const 0, kept := 0, icnt := 1 }
def Fld.VLQ_SPINE_DRIVE : Field := { blk := .vlq, off := 0x18, hi := 0, lo := 0, acc := .ro, dflt := .const 0, kept := 0, icnt := 1 }
-- COL (R287, table VLQ[q].COL[b][n])
def Fld.VLQ_COL_FORCE_GEAR : Field := { blk := .vlq, off := 0x1000, jstr := 0x4, jcnt := 1024, hi := 25, lo := 24, acc := .rw, dflt := .const 0, kept := 120, vmin := 0, vmax := 3 }
def Fld.VLQ_COL_ROLE : Field := { blk := .vlq, off := 0x1000, jstr := 0x4, jcnt := 1024, hi := 21, lo := 20, acc := .ro, dflt := .const 0, kept := 120 }
def Fld.VLQ_COL_SEQ : Field := { blk := .vlq, off := 0x1000, jstr := 0x4, jcnt := 1024, hi := 18, lo := 16, acc := .ro, dflt := .seq, kept := 0 }
def Fld.VLQ_COL_DLY : Field := { blk := .vlq, off := 0x1000, jstr := 0x4, jcnt := 1024, hi := 15, lo := 8, acc := .ro, dflt := .const 0, kept := 120 }
def Fld.VLQ_COL_PH : Field := { blk := .vlq, off := 0x1000, jstr := 0x4, jcnt := 1024, hi := 7, lo := 4, acc := .ro, dflt := .const 0, kept := 120 }
def Fld.VLQ_COL_GEAR_NEXT : Field := { blk := .vlq, off := 0x1000, jstr := 0x4, jcnt := 1024, hi := 3, lo := 2, acc := .ro, dflt := .const 0, kept := 0 }
def Fld.VLQ_COL_GEAR : Field := { blk := .vlq, off := 0x1000, jstr := 0x4, jcnt := 1024, hi := 1, lo := 0, acc := .ro, dflt := .const 3, kept := 120 }
-- COL_MON (R287, table VLQ[q].COL_MON[b][n] and COL_AGC[b][n])
def Fld.VLQ_COL_MON_CER_PATH : Field := { blk := .vlq, off := 0x2000, jstr := 0x4, jcnt := 1024, hi := 31, lo := 16, acc := .ro, dflt := .const 0, kept := 0 }
def Fld.VLQ_COL_MON_CER_BASE : Field := { blk := .vlq, off := 0x2000, jstr := 0x4, jcnt := 1024, hi := 15, lo := 0, acc := .ro, dflt := .const 0, kept := 0 }
-- COL_AGC (R287, table VLQ[q].COL_MON[b][n] and COL_AGC[b][n])
def Fld.VLQ_COL_AGC_LAST : Field := { blk := .vlq, off := 0x3000, jstr := 0x4, jcnt := 1024, hi := 29, lo := 24, acc := .ro, dflt := .const 0, kept := 0 }
def Fld.VLQ_COL_AGC_BASE : Field := { blk := .vlq, off := 0x3000, jstr := 0x4, jcnt := 1024, hi := 23, lo := 12, acc := .ro, dflt := .const 0, kept := 120 }
def Fld.VLQ_COL_AGC_MEAN : Field := { blk := .vlq, off := 0x3000, jstr := 0x4, jcnt := 1024, hi := 11, lo := 0, acc := .ro, dflt := .const 0, kept := 120 }
-- CNT (R287, table VLQ[q] counters)
def Fld.VLQ_CNT_COUNT : Field := { blk := .vlq, off := 0x100, jstr := 0x4, jcnt := 10, hi := 31, lo := 0, acc := .ro, dflt := .const 0, kept := 104, snap := true, frozen := true }

/-- Every field of block VLQ, in table order. -/
def fieldsOfVlq : List Field :=
  [Fld.VLQ_CTL_PH_FREEZE, Fld.VLQ_CTL_GEAR_FREEZE, Fld.VLQ_CTL_RETUNE_GO, Fld.VLQ_CTL_RETUNE_BUNDLE, Fld.VLQ_CTL_RETRAIN, Fld.VLQ_CTL_EN, Fld.VLQ_STATUS_CFG_REJECT, Fld.VLQ_STATUS_SEG_FAIL, Fld.VLQ_STATUS_QUIET, Fld.VLQ_STATUS_RETUNING, Fld.VLQ_STATUS_TRAINING, Fld.VLQ_STATUS_TRAINED] ++
  [Fld.VLQ_GEAR_CFG_LEAD, Fld.VLQ_GEAR_CFG_TOP, Fld.VLQ_GEAR_CFG_UP_WINDOWS, Fld.VLQ_GEAR_CFG_WINDOW, Fld.VLQ_GEAR_LIM_G3_MAX, Fld.VLQ_GEAR_LIM_G2_MAX, Fld.VLQ_GEAR_LIM_G1_MAX, Fld.VLQ_CAL_CFG_EN, Fld.VLQ_CAL_CFG_VOTE, Fld.VLQ_CAL_CFG_MIN_CHIPS, Fld.VLQ_COLL_CFG_WINDOW, Fld.VLQ_COLL_CFG_LIMIT] ++
  [Fld.VLQ_SPINE_BEAT_LOSS, Fld.VLQ_SPINE_SITES, Fld.VLQ_SPINE_RELAY_OK, Fld.VLQ_SPINE_RBEAT_LOCK, Fld.VLQ_SPINE_DRIVE, Fld.VLQ_COL_FORCE_GEAR, Fld.VLQ_COL_ROLE, Fld.VLQ_COL_SEQ, Fld.VLQ_COL_DLY, Fld.VLQ_COL_PH, Fld.VLQ_COL_GEAR_NEXT, Fld.VLQ_COL_GEAR] ++
  [Fld.VLQ_COL_MON_CER_PATH, Fld.VLQ_COL_MON_CER_BASE, Fld.VLQ_COL_AGC_LAST, Fld.VLQ_COL_AGC_BASE, Fld.VLQ_COL_AGC_MEAN, Fld.VLQ_CNT_COUNT]

-- ID (R315, table LAY[l].ID[k])
def Fld.LAY_ID_WORD : Field := { blk := .lay, off := 0x0, jstr := 0x4, jcnt := 8, hi := 31, lo := 0, acc := .ro, dflt := .const 0, kept := 120 }
-- STATE (R315, table LAY[l].STATE)
def Fld.LAY_STATE_CFG_REJECT : Field := { blk := .lay, off := 0x20, hi := 31, lo := 31, acc := .w1c, dflt := .const 0, kept := 120 }
def Fld.LAY_STATE_SR : Field := { blk := .lay, off := 0x20, hi := 7, lo := 4, acc := .ro, dflt := .const 15, kept := 0, view := some .laySr }
def Fld.LAY_STATE_RELAY_LOSS : Field := { blk := .lay, off := 0x20, hi := 3, lo := 3, acc := .ro, dflt := .const 0, kept := 0 }
def Fld.LAY_STATE_ID_OK : Field := { blk := .lay, off := 0x20, hi := 2, lo := 2, acc := .ro, dflt := .const 0, kept := 120 }
def Fld.LAY_STATE_JUNCTION : Field := { blk := .lay, off := 0x20, hi := 1, lo := 1, acc := .ro, dflt := .const 0, kept := 120 }
def Fld.LAY_STATE_PRESENT : Field := { blk := .lay, off := 0x20, hi := 0, lo := 0, acc := .ro, dflt := .const 0, kept := 120 }
-- CTL (R315, table LAY[l].CTL)
def Fld.LAY_CTL_SPARE_GO : Field := { blk := .lay, off := 0x24, hi := 16, lo := 16, acc := .w1s, dflt := .const 0, kept := 0 }
def Fld.LAY_CTL_SPARE_COL : Field := { blk := .lay, off := 0x24, hi := 13, lo := 8, acc := .rw, dflt := .const 0, kept := 120, vmin := 0, vmax := 57 }
def Fld.LAY_CTL_SPARE_BUNDLE : Field := { blk := .lay, off := 0x24, hi := 7, lo := 6, acc := .rw, dflt := .const 0, kept := 120 }
def Fld.LAY_CTL_RELAY_RST : Field := { blk := .lay, off := 0x24, hi := 1, lo := 1, acc := .w1s, dflt := .const 0, kept := 0 }
def Fld.LAY_CTL_CRST : Field := { blk := .lay, off := 0x24, hi := 0, lo := 0, acc := .w1s, dflt := .const 0, kept := 0 }
-- XCFG (R315, table LAY[l].XCFG)
def Fld.LAY_XCFG_ACK_SLACK : Field := { blk := .lay, off := 0x28, hi := 23, lo := 16, acc := .rw, dflt := .const 16, kept := 120, image := true, atTick := true, vmin := 1, vmax := 255 }
def Fld.LAY_XCFG_RD_SLACK : Field := { blk := .lay, off := 0x28, hi := 15, lo := 8, acc := .rw, dflt := .const 8, kept := 120, image := true, atTick := true, vmin := 1, vmax := 255 }
def Fld.LAY_XCFG_REISSUE_LIMIT : Field := { blk := .lay, off := 0x28, hi := 3, lo := 0, acc := .rw, dflt := .const 4, kept := 120, image := true, atTick := true, vmin := 1, vmax := 15 }
-- ALARM (R315, table LAY[l].ALARM)
def Fld.LAY_ALARM_DETAIL : Field := { blk := .lay, off := 0x2C, hi := 31, lo := 20, acc := .ro, dflt := .const 0, kept := 120 }
def Fld.LAY_ALARM_CAUSE : Field := { blk := .lay, off := 0x2C, hi := 19, lo := 12, acc := .ro, dflt := .const 0, kept := 120 }
def Fld.LAY_ALARM_NUMBER : Field := { blk := .lay, off := 0x2C, hi := 7, lo := 0, acc := .ro, dflt := .const 0, kept := 120 }
-- CNT (R315, table LAY[l] counters)
def Fld.LAY_CNT_COUNT : Field := { blk := .lay, off := 0x40, jstr := 0x4, jcnt := 8, hi := 31, lo := 0, acc := .ro, dflt := .const 0, kept := 104, snap := true, frozen := true }

/-- Every field of block LAY, in table order. -/
def fieldsOfLay : List Field :=
  [Fld.LAY_ID_WORD, Fld.LAY_STATE_CFG_REJECT, Fld.LAY_STATE_SR, Fld.LAY_STATE_RELAY_LOSS, Fld.LAY_STATE_ID_OK, Fld.LAY_STATE_JUNCTION, Fld.LAY_STATE_PRESENT, Fld.LAY_CTL_SPARE_GO, Fld.LAY_CTL_SPARE_COL, Fld.LAY_CTL_SPARE_BUNDLE, Fld.LAY_CTL_RELAY_RST, Fld.LAY_CTL_CRST] ++
  [Fld.LAY_XCFG_ACK_SLACK, Fld.LAY_XCFG_RD_SLACK, Fld.LAY_XCFG_REISSUE_LIMIT, Fld.LAY_ALARM_DETAIL, Fld.LAY_ALARM_CAUSE, Fld.LAY_ALARM_NUMBER, Fld.LAY_CNT_COUNT]

-- CODEC_CFG (R315, table INT.CODEC_CFG)
def Fld.INT_CODEC_CFG_CFG_REJECT : Field := { blk := .int, off := 0x800, hi := 31, lo := 31, acc := .w1c, dflt := .const 0, kept := 120 }
def Fld.INT_CODEC_CFG_MAX_ITER : Field := { blk := .int, off := 0x800, hi := 3, lo := 0, acc := .rw, dflt := .const 10, kept := 120, image := true, atTick := true, vmin := 1, vmax := 10 }
-- CODEC_STATUS (R315, table INT.CODEC_STATUS)
def Fld.INT_CODEC_STATUS_QUEUED : Field := { blk := .int, off := 0x804, hi := 29, lo := 24, acc := .ro, dflt := .const 0, kept := 0, view := some .codecQueued }
def Fld.INT_CODEC_STATUS_ACTIVE : Field := { blk := .int, off := 0x804, hi := 17, lo := 0, acc := .ro, dflt := .const 65535, kept := 120, trip := true }
-- CODEC_CNT (R315, table INT codec counters)
def Fld.INT_CODEC_CNT_COUNT : Field := { blk := .int, off := 0x810, jstr := 0x4, jcnt := 5, hi := 31, lo := 0, acc := .ro, dflt := .const 0, kept := 104, snap := true, frozen := true }
-- GANGER_CFG (R341, table INT.GANGER_CFG)
def Fld.INT_GANGER_CFG_EN : Field := { blk := .int, off := 0x0, hi := 31, lo := 31, acc := .rw, dflt := .const 1, kept := 120, image := true }
def Fld.INT_GANGER_CFG_ZERO_INVALID : Field := { blk := .int, off := 0x0, hi := 30, lo := 30, acc := .rw, dflt := .const 0, kept := 120, image := true }
def Fld.INT_GANGER_CFG_LINES : Field := { blk := .int, off := 0x0, hi := 20, lo := 16, acc := .rw, dflt := .const 16, kept := 120, image := true, atTick := true, vmin := 1, vmax := 16 }
def Fld.INT_GANGER_CFG_PERIOD : Field := { blk := .int, off := 0x0, hi := 15, lo := 0, acc := .rw, dflt := .const 9155, kept := 120, image := true, atTick := true, vmin := 1, vmax := 65535 }
-- RETEST_CFG (R341, table INT.RETEST_CFG)
def Fld.INT_RETEST_CFG_EN : Field := { blk := .int, off := 0x4, hi := 31, lo := 31, acc := .rw, dflt := .const 1, kept := 120, image := true }
def Fld.INT_RETEST_CFG_SPACING : Field := { blk := .int, off := 0x4, hi := 15, lo := 0, acc := .rw, dflt := .const 16, kept := 120, image := true, atTick := true, vmin := 1, vmax := 65535 }
-- VMAP_CTL (R341, table INT.VMAP_CTL)
def Fld.INT_VMAP_CTL_CLEAR : Field := { blk := .int, off := 0x8, hi := 0, lo := 0, acc := .w1s, dflt := .const 0, kept := 0 }
-- VMAP_STATUS (R341, table INT.VMAP_STATUS)
def Fld.INT_VMAP_STATUS_CLEAR_PENDING : Field := { blk := .int, off := 0xC, hi := 30, lo := 30, acc := .ro, dflt := .const 0, kept := 0 }
def Fld.INT_VMAP_STATUS_SWEEPING : Field := { blk := .int, off := 0xC, hi := 29, lo := 29, acc := .ro, dflt := .const 0, kept := 0 }
def Fld.INT_VMAP_STATUS_SUSPENDED : Field := { blk := .int, off := 0xC, hi := 28, lo := 28, acc := .ro, dflt := .const 1, kept := 0, view := some .vmapSuspended }
def Fld.INT_VMAP_STATUS_VALID : Field := { blk := .int, off := 0xC, hi := 24, lo := 0, acc := .ro, dflt := .const 0, kept := 126, view := some .vmapValid }
-- VMAP_QUERY (R341, table INT.VMAP_QUERY)
def Fld.INT_VMAP_QUERY_VALID : Field := { blk := .int, off := 0x10, hi := 31, lo := 31, acc := .ro, dflt := .const 0, kept := 0, view := some .vmapQuery }
def Fld.INT_VMAP_QUERY_WAGON : Field := { blk := .int, off := 0x10, hi := 24, lo := 0, acc := .rw, dflt := .const 0, kept := 120 }
-- STATUS (R341, table INT.STATUS)
def Fld.INT_STATUS_CFG_REJECT : Field := { blk := .int, off := 0x14, hi := 31, lo := 31, acc := .w1c, dflt := .const 0, kept := 120 }

/-- Every field of block INT, in table order. -/
def fieldsOfInt : List Field :=
  [Fld.INT_CODEC_CFG_CFG_REJECT, Fld.INT_CODEC_CFG_MAX_ITER, Fld.INT_CODEC_STATUS_QUEUED, Fld.INT_CODEC_STATUS_ACTIVE, Fld.INT_CODEC_CNT_COUNT, Fld.INT_GANGER_CFG_EN, Fld.INT_GANGER_CFG_ZERO_INVALID, Fld.INT_GANGER_CFG_LINES, Fld.INT_GANGER_CFG_PERIOD, Fld.INT_RETEST_CFG_EN, Fld.INT_RETEST_CFG_SPACING, Fld.INT_VMAP_CTL_CLEAR] ++
  [Fld.INT_VMAP_STATUS_CLEAR_PENDING, Fld.INT_VMAP_STATUS_SWEEPING, Fld.INT_VMAP_STATUS_SUSPENDED, Fld.INT_VMAP_STATUS_VALID, Fld.INT_VMAP_QUERY_VALID, Fld.INT_VMAP_QUERY_WAGON, Fld.INT_STATUS_CFG_REJECT]

-- CFG (R365, table REP.CFG)
def Fld.REP_CFG_EN : Field := { blk := .rep, off := 0x0, hi := 31, lo := 31, acc := .rw, dflt := .const 1, kept := 120, image := true, trip := true }
def Fld.REP_CFG_RETIRE_EN : Field := { blk := .rep, off := 0x0, hi := 30, lo := 30, acc := .rw, dflt := .const 1, kept := 120, image := true }
def Fld.REP_CFG_ORDER : Field := { blk := .rep, off := 0x0, hi := 29, lo := 29, acc := .rw, dflt := .const 0, kept := 120, image := true }
def Fld.REP_CFG_FUSE : Field := { blk := .rep, off := 0x0, hi := 27, lo := 26, acc := .rw, dflt := .const 2, kept := 120, image := true, vmin := 0, vmax := 2 }
def Fld.REP_CFG_COL_ROWS : Field := { blk := .rep, off := 0x0, hi := 23, lo := 20, acc := .rw, dflt := .const 4, kept := 120, image := true, vmin := 2, vmax := 8 }
def Fld.REP_CFG_LOW_MARK : Field := { blk := .rep, off := 0x0, hi := 15, lo := 8, acc := .rw, dflt := .const 4, kept := 120, image := true, vmin := 1, vmax := 255 }
def Fld.REP_CFG_HREP_LIMIT : Field := { blk := .rep, off := 0x0, hi := 7, lo := 0, acc := .rw, dflt := .const 128, kept := 120, image := true, vmin := 1, vmax := 255 }
-- CTL (R365, table REP.CTL)
def Fld.REP_CTL_PENDING_CLR : Field := { blk := .rep, off := 0x4, hi := 8, lo := 8, acc := .w1s, dflt := .const 0, kept := 0 }
def Fld.REP_CTL_FUSE_GO : Field := { blk := .rep, off := 0x4, hi := 4, lo := 4, acc := .w1s, dflt := .const 0, kept := 0 }
def Fld.REP_CTL_COMMIT : Field := { blk := .rep, off := 0x4, hi := 0, lo := 0, acc := .w1s, dflt := .const 0, kept := 0 }
-- STATUS (R365, table REP.STATUS)
def Fld.REP_STATUS_CFG_REJECT : Field := { blk := .rep, off := 0x8, hi := 31, lo := 31, acc := .w1c, dflt := .const 0, kept := 120 }
def Fld.REP_STATUS_MAP_MOVED : Field := { blk := .rep, off := 0x8, hi := 30, lo := 30, acc := .w1c, dflt := .const 0, kept := 120 }
def Fld.REP_STATUS_EXHAUSTED_SEEN : Field := { blk := .rep, off := 0x8, hi := 29, lo := 29, acc := .w1c, dflt := .const 0, kept := 126 }
def Fld.REP_STATUS_STORE_B_OK : Field := { blk := .rep, off := 0x8, hi := 5, lo := 5, acc := .ro, dflt := .const 0, kept := 0 }
def Fld.REP_STATUS_STORE_A_OK : Field := { blk := .rep, off := 0x8, hi := 4, lo := 4, acc := .ro, dflt := .const 0, kept := 0 }
def Fld.REP_STATUS_HREP_BUSY : Field := { blk := .rep, off := 0x8, hi := 1, lo := 1, acc := .ro, dflt := .const 0, kept := 0, view := some .hrepBusy }
def Fld.REP_STATUS_MIGRATING : Field := { blk := .rep, off := 0x8, hi := 0, lo := 0, acc := .ro, dflt := .const 0, kept := 0, view := some .migrating }
-- STORE (R365, table REP.STORE and REP.COMMIT_CFG)
def Fld.REP_STORE_GEN : Field := { blk := .rep, off := 0xC, hi := 31, lo := 16, acc := .ro, dflt := .const 0, kept := 126 }
def Fld.REP_STORE_PENDING : Field := { blk := .rep, off := 0xC, hi := 15, lo := 0, acc := .ro, dflt := .const 0, kept := 126 }
-- COMMIT_CFG (R365, table REP.STORE and REP.COMMIT_CFG)
def Fld.REP_COMMIT_CFG_DELAY : Field := { blk := .rep, off := 0x10, hi := 15, lo := 0, acc := .rw, dflt := .const 3600, kept := 120, image := true, vmin := 1, vmax := 65535 }
-- MAP (R365, table REP.MAP and REP.LAYERS)
def Fld.REP_MAP_PAIRS : Field := { blk := .rep, off := 0x14, hi := 20, lo := 16, acc := .ro, dflt := .const 16, kept := 120 }
def Fld.REP_MAP_PILOT_LAYER : Field := { blk := .rep, off := 0x14, hi := 3, lo := 0, acc := .ro, dflt := .const 0, kept := 126 }
-- LAYERS (R365, table REP.MAP and REP.LAYERS)
def Fld.REP_LAYERS_RETIRED : Field := { blk := .rep, off := 0x18, hi := 31, lo := 16, acc := .ro, dflt := .const 0, kept := 126 }
def Fld.REP_LAYERS_USED : Field := { blk := .rep, off := 0x18, hi := 15, lo := 0, acc := .ro, dflt := .const 1, kept := 120 }
-- BUDGET (R365, table REP.BUDGET[c] and REP.PAIRS[c])
def Fld.REP_BUDGET_SPARE_MIN : Field := { blk := .rep, off := 0x100, jstr := 0x4, jcnt := 64, hi := 31, lo := 26, acc := .ro, dflt := .const 32, kept := 126, image := true, view := some .spareMin }
def Fld.REP_BUDGET_YARD_MIN : Field := { blk := .rep, off := 0x100, jstr := 0x4, jcnt := 64, hi := 23, lo := 17, acc := .ro, dflt := .const 96, kept := 126, image := true, view := some .yardMin }
def Fld.REP_BUDGET_TABLE_FREE : Field := { blk := .rep, off := 0x100, jstr := 0x4, jcnt := 64, hi := 9, lo := 0, acc := .ro, dflt := .const 512, kept := 126, image := true, view := some .tableFree }
-- PAIRS (R365, table REP.BUDGET[c] and REP.PAIRS[c])
def Fld.REP_PAIRS_PENDING : Field := { blk := .rep, off := 0x200, jstr := 0x4, jcnt := 64, hi := 31, lo := 16, acc := .ro, dflt := .const 0, kept := 126, image := true }
def Fld.REP_PAIRS_RETIRED : Field := { blk := .rep, off := 0x200, jstr := 0x4, jcnt := 64, hi := 15, lo := 0, acc := .ro, dflt := .const 0, kept := 126, image := true }
-- CNT (R365, table REP counters)
def Fld.REP_CNT_COUNT : Field := { blk := .rep, off := 0x300, jstr := 0x4, jcnt := 8, hi := 31, lo := 0, acc := .ro, dflt := .const 0, kept := 104, snap := true, frozen := true }

/-- Every field of block REP, in table order. -/
def fieldsOfRep : List Field :=
  [Fld.REP_CFG_EN, Fld.REP_CFG_RETIRE_EN, Fld.REP_CFG_ORDER, Fld.REP_CFG_FUSE, Fld.REP_CFG_COL_ROWS, Fld.REP_CFG_LOW_MARK, Fld.REP_CFG_HREP_LIMIT, Fld.REP_CTL_PENDING_CLR, Fld.REP_CTL_FUSE_GO, Fld.REP_CTL_COMMIT, Fld.REP_STATUS_CFG_REJECT, Fld.REP_STATUS_MAP_MOVED] ++
  [Fld.REP_STATUS_EXHAUSTED_SEEN, Fld.REP_STATUS_STORE_B_OK, Fld.REP_STATUS_STORE_A_OK, Fld.REP_STATUS_HREP_BUSY, Fld.REP_STATUS_MIGRATING, Fld.REP_STORE_GEN, Fld.REP_STORE_PENDING, Fld.REP_COMMIT_CFG_DELAY, Fld.REP_MAP_PAIRS, Fld.REP_MAP_PILOT_LAYER, Fld.REP_LAYERS_RETIRED, Fld.REP_LAYERS_USED] ++
  [Fld.REP_BUDGET_SPARE_MIN, Fld.REP_BUDGET_YARD_MIN, Fld.REP_BUDGET_TABLE_FREE, Fld.REP_PAIRS_PENDING, Fld.REP_PAIRS_RETIRED, Fld.REP_CNT_COUNT]

end Sys2Proof.Machine
end

