-- ==== Sys2Proof/Machine/RegistersD.lean ====
section
/-! DEFINITION. The register fields of blocks BST, FLT, THM, PWR, NVM, one definition a field, written from the field tables of spec/ (columns Bits, Field, Access, Reset, Kept by, Meaning; R12, R13, R14). A field whose Reset column reads "image" carries its safe default (R13). -/
namespace Sys2Proof.Machine

-- CFG (R393, table BST.CFG)
def Fld.BST_CFG_QUICK_EN : Field := { blk := .bst, off := 0x0, hi := 31, lo := 31, acc := .rw, dflt := .const 0, kept := 120, image := true }
def Fld.BST_CFG_AGE_DAYS : Field := { blk := .bst, off := 0x0, hi := 23, lo := 16, acc := .rw, dflt := .const 30, kept := 120, image := true, vmin := 1, vmax := 255 }
def Fld.BST_CFG_BACKGROUND : Field := { blk := .bst, off := 0x0, hi := 9, lo := 8, acc := .rw, dflt := .const 2, kept := 120, image := true, vmin := 0, vmax := 2 }
-- CTL (R393, table BST.CTL)
def Fld.BST_CTL_ABORT : Field := { blk := .bst, off := 0x4, hi := 8, lo := 8, acc := .w1s, dflt := .const 0, kept := 0 }
def Fld.BST_CTL_VOID : Field := { blk := .bst, off := 0x4, hi := 4, lo := 4, acc := .w1s, dflt := .const 0, kept := 0 }
def Fld.BST_CTL_PARK_TEST : Field := { blk := .bst, off := 0x4, hi := 0, lo := 0, acc := .rw, dflt := .const 0, kept := 56 }
-- STATUS (R393, table BST.STATUS)
def Fld.BST_STATUS_CFG_REJECT : Field := { blk := .bst, off := 0x8, hi := 31, lo := 31, acc := .w1c, dflt := .const 0, kept := 120 }
def Fld.BST_STATUS_SEAL_WRITE_FAIL : Field := { blk := .bst, off := 0x8, hi := 30, lo := 30, acc := .w1c, dflt := .const 0, kept := 120 }
def Fld.BST_STATUS_ABORT_CAUSE : Field := { blk := .bst, off := 0x8, hi := 7, lo := 4, acc := .ro, dflt := .const 0, kept := 120 }
def Fld.BST_STATUS_PHASE : Field := { blk := .bst, off := 0x8, hi := 3, lo := 0, acc := .ro, dflt := .const 0, kept := 0 }
-- RESULT (R393, table BST.RESULT, STEPS, STEP_END, SIG, EXPECT and FAILS)
def Fld.BST_RESULT_STATE : Field := { blk := .bst, off := 0xC, hi := 31, lo := 24, acc := .ro, dflt := .const 255, kept := 126, image := true }
def Fld.BST_RESULT_KIND : Field := { blk := .bst, off := 0xC, hi := 23, lo := 16, acc := .ro, dflt := .const 0, kept := 126, image := true }
def Fld.BST_RESULT_ABORT : Field := { blk := .bst, off := 0xC, hi := 15, lo := 12, acc := .ro, dflt := .const 0, kept := 126, image := true }
def Fld.BST_RESULT_UNREPAIRED : Field := { blk := .bst, off := 0xC, hi := 7, lo := 0, acc := .ro, dflt := .const 0, kept := 126, image := true }
-- STEPS (R393, table BST.RESULT, STEPS, STEP_END, SIG, EXPECT and FAILS)
def Fld.BST_STEPS_VALUE : Field := { blk := .bst, off := 0x10, hi := 31, lo := 0, acc := .ro, dflt := .const 0, kept := 126, image := true }
-- STEP_END (R393, table BST.RESULT, STEPS, STEP_END, SIG, EXPECT and FAILS)
def Fld.BST_STEP_END_VALUE : Field := { blk := .bst, off := 0x14, hi := 31, lo := 0, acc := .ro, dflt := .const 0, kept := 126, image := true }
-- SIG (R393, table BST.RESULT, STEPS, STEP_END, SIG, EXPECT and FAILS)
def Fld.BST_SIG_VALUE : Field := { blk := .bst, off := 0x18, hi := 31, lo := 0, acc := .ro, dflt := .const 0, kept := 126, image := true }
-- EXPECT (R393, table BST.RESULT, STEPS, STEP_END, SIG, EXPECT and FAILS)
def Fld.BST_EXPECT_VALUE : Field := { blk := .bst, off := 0x1C, hi := 31, lo := 0, acc := .ro, dflt := .const 0, kept := 126, image := true }
-- FAILS (R393, table BST.RESULT, STEPS, STEP_END, SIG, EXPECT and FAILS)
def Fld.BST_FAILS_FAIL_ROWS : Field := { blk := .bst, off := 0x20, hi := 31, lo := 16, acc := .ro, dflt := .const 0, kept := 126, image := true }
def Fld.BST_FAILS_LOGIC_FAIL : Field := { blk := .bst, off := 0x20, hi := 15, lo := 8, acc := .ro, dflt := .const 0, kept := 126, image := true }
def Fld.BST_FAILS_LOOP_FAIL : Field := { blk := .bst, off := 0x20, hi := 7, lo := 0, acc := .ro, dflt := .const 0, kept := 126, image := true }
-- SEAL_AGE (R393, table BST.SEAL_AGE, START, DIE_ID and STACK_ID)
def Fld.BST_SEAL_AGE_AGE : Field := { blk := .bst, off := 0x28, w64 := true, hi := 63, lo := 0, acc := .ro, dflt := .const 0, kept := 126 }
-- START (R393, table BST.SEAL_AGE, START, DIE_ID and STACK_ID)
def Fld.BST_START_SLOW_REASON : Field := { blk := .bst, off := 0x30, hi := 15, lo := 8, acc := .ro, dflt := .const 0, kept := 126 }
def Fld.BST_START_KIND : Field := { blk := .bst, off := 0x30, hi := 1, lo := 0, acc := .ro, dflt := .const 0, kept := 126 }
-- DIE_ID (R393, table BST.SEAL_AGE, START, DIE_ID and STACK_ID)
def Fld.BST_DIE_ID_ID : Field := { blk := .bst, off := 0x40, w64 := true, hi := 63, lo := 0, acc := .ro, dflt := .dieId, kept := 127 }
-- STACK_ID (R393, table BST.SEAL_AGE, START, DIE_ID and STACK_ID)
def Fld.BST_STACK_ID_ID : Field := { blk := .bst, off := 0x48, w64 := true, hi := 63, lo := 0, acc := .ro, dflt := .const 0, kept := 126 }
-- CHTEST (R393, table BST.CHTEST and CHTEST_STATUS)
def Fld.BST_CHTEST_GO : Field := { blk := .bst, off := 0x34, hi := 8, lo := 8, acc := .w1s, dflt := .const 0, kept := 0 }
def Fld.BST_CHTEST_CHANNEL : Field := { blk := .bst, off := 0x34, hi := 5, lo := 0, acc := .rw, dflt := .const 0, kept := 120 }
-- CHTEST_STATUS (R393, table BST.CHTEST and CHTEST_STATUS)
def Fld.BST_CHTEST_STATUS_RUNNING : Field := { blk := .bst, off := 0x38, hi := 31, lo := 31, acc := .ro, dflt := .const 0, kept := 0 }
def Fld.BST_CHTEST_STATUS_OUTCOME : Field := { blk := .bst, off := 0x38, hi := 30, lo := 29, acc := .ro, dflt := .const 0, kept := 120 }
def Fld.BST_CHTEST_STATUS_LASTING : Field := { blk := .bst, off := 0x38, hi := 28, lo := 20, acc := .ro, dflt := .const 0, kept := 120 }
def Fld.BST_CHTEST_STATUS_ROWS_DONE : Field := { blk := .bst, off := 0x38, hi := 19, lo := 0, acc := .ro, dflt := .const 0, kept := 120 }
-- CNT (R393, table BST counters)
def Fld.BST_CNT_COUNT : Field := { blk := .bst, off := 0x50, jstr := 0x4, jcnt := 4, hi := 31, lo := 0, acc := .ro, dflt := .const 0, kept := 120, snap := true, frozen := true }

/-- Every field of block BST, in table order. -/
def fieldsOfBst : List Field :=
  [Fld.BST_CFG_QUICK_EN, Fld.BST_CFG_AGE_DAYS, Fld.BST_CFG_BACKGROUND, Fld.BST_CTL_ABORT, Fld.BST_CTL_VOID, Fld.BST_CTL_PARK_TEST, Fld.BST_STATUS_CFG_REJECT, Fld.BST_STATUS_SEAL_WRITE_FAIL, Fld.BST_STATUS_ABORT_CAUSE, Fld.BST_STATUS_PHASE, Fld.BST_RESULT_STATE, Fld.BST_RESULT_KIND] ++
  [Fld.BST_RESULT_ABORT, Fld.BST_RESULT_UNREPAIRED, Fld.BST_STEPS_VALUE, Fld.BST_STEP_END_VALUE, Fld.BST_SIG_VALUE, Fld.BST_EXPECT_VALUE, Fld.BST_FAILS_FAIL_ROWS, Fld.BST_FAILS_LOGIC_FAIL, Fld.BST_FAILS_LOOP_FAIL, Fld.BST_SEAL_AGE_AGE, Fld.BST_START_SLOW_REASON, Fld.BST_START_KIND] ++
  [Fld.BST_DIE_ID_ID, Fld.BST_STACK_ID_ID, Fld.BST_CHTEST_GO, Fld.BST_CHTEST_CHANNEL, Fld.BST_CHTEST_STATUS_RUNNING, Fld.BST_CHTEST_STATUS_OUTCOME, Fld.BST_CHTEST_STATUS_LASTING, Fld.BST_CHTEST_STATUS_ROWS_DONE, Fld.BST_CNT_COUNT]

-- CFG (R412, table FLT.CFG and FLT.BUL_CFG)
def Fld.FLT_CFG_BUL_EN : Field := { blk := .flt, off := 0x0, hi := 31, lo := 31, acc := .rw, dflt := .const 1, kept := 120, image := true, trip := true }
def Fld.FLT_CFG_BRS_LIMIT : Field := { blk := .flt, off := 0x0, hi := 23, lo := 16, acc := .rw, dflt := .const 8, kept := 120, image := true, vmin := 1, vmax := 255 }
def Fld.FLT_CFG_CRS_DELAY : Field := { blk := .flt, off := 0x0, hi := 15, lo := 8, acc := .rw, dflt := .const 4, kept := 120, image := true, vmin := 1, vmax := 255 }
-- BUL_CFG (R412, table FLT.CFG and FLT.BUL_CFG)
def Fld.FLT_BUL_CFG_HOLDOFF : Field := { blk := .flt, off := 0x4, hi := 31, lo := 16, acc := .rw, dflt := .const 1000, kept := 120, image := true, atTick := true, vmin := 1, vmax := 65535 }
def Fld.FLT_BUL_CFG_TRACK : Field := { blk := .flt, off := 0x4, hi := 4, lo := 0, acc := .rw, dflt := .const 0, kept := 120, image := true }
-- STATUS (R412, table FLT.STATUS, ERR_CTL and DROPPED)
def Fld.FLT_STATUS_CFG_REJECT : Field := { blk := .flt, off := 0x8, hi := 31, lo := 31, acc := .w1c, dflt := .const 0, kept := 120 }
def Fld.FLT_STATUS_ERR_N_LOW : Field := { blk := .flt, off := 0x8, hi := 30, lo := 30, acc := .ro, dflt := .const 0, kept := 0, view := some .errNLow }
def Fld.FLT_STATUS_CRS_DONE : Field := { blk := .flt, off := 0x8, hi := 29, lo := 29, acc := .w1c, dflt := .const 0, kept := 126 }
def Fld.FLT_STATUS_BUL_NUM : Field := { blk := .flt, off := 0x8, hi := 15, lo := 8, acc := .ro, dflt := .const 0, kept := 120 }
def Fld.FLT_STATUS_QUEUED : Field := { blk := .flt, off := 0x8, hi := 5, lo := 0, acc := .ro, dflt := .const 0, kept := 0, view := some .bulQueued }
-- ERR_CTL (R412, table FLT.STATUS, ERR_CTL and DROPPED)
def Fld.FLT_ERR_CTL_FORCE : Field := { blk := .flt, off := 0xC, hi := 0, lo := 0, acc := .rw, dflt := .const 0, kept := 120 }
-- DROPPED (R412, table FLT.STATUS, ERR_CTL and DROPPED)
def Fld.FLT_DROPPED_URG : Field := { blk := .flt, off := 0x10, hi := 31, lo := 16, acc := .ro, dflt := .const 0, kept := 120 }
def Fld.FLT_DROPPED_BUL : Field := { blk := .flt, off := 0x10, hi := 15, lo := 0, acc := .ro, dflt := .const 0, kept := 120 }
-- PEND (R412, table FLT.PEND[w])
def Fld.FLT_PEND_PEND : Field := { blk := .flt, off := 0x20, jstr := 0x4, jcnt := 3, hi := 31, lo := 0, acc := .w1c, dflt := .const 0, kept := 126 }
-- CAP_STATUS (R412, table FLT capture record k)
def Fld.FLT_CAP_STATUS_VALID : Field := { blk := .flt, off := 0x100, jstr := 0x40, jcnt := 3, hi := 31, lo := 31, acc := .w1c, dflt := .const 0, kept := 126 }
def Fld.FLT_CAP_STATUS_ESCALATED : Field := { blk := .flt, off := 0x100, jstr := 0x40, jcnt := 3, hi := 30, lo := 30, acc := .ro, dflt := .const 0, kept := 126 }
def Fld.FLT_CAP_STATUS_ADDR_VALID : Field := { blk := .flt, off := 0x100, jstr := 0x40, jcnt := 3, hi := 29, lo := 29, acc := .ro, dflt := .const 0, kept := 126 }
def Fld.FLT_CAP_STATUS_LOC_VALID : Field := { blk := .flt, off := 0x100, jstr := 0x40, jcnt := 3, hi := 28, lo := 28, acc := .ro, dflt := .const 0, kept := 126 }
def Fld.FLT_CAP_STATUS_REQ_VALID : Field := { blk := .flt, off := 0x100, jstr := 0x40, jcnt := 3, hi := 27, lo := 27, acc := .ro, dflt := .const 0, kept := 126 }
def Fld.FLT_CAP_STATUS_ACCESS : Field := { blk := .flt, off := 0x100, jstr := 0x40, jcnt := 3, hi := 11, lo := 8, acc := .ro, dflt := .const 0, kept := 126 }
def Fld.FLT_CAP_STATUS_SOURCE : Field := { blk := .flt, off := 0x100, jstr := 0x40, jcnt := 3, hi := 6, lo := 0, acc := .ro, dflt := .const 0, kept := 126 }
-- CAP_OVERFLOW (R412, table FLT capture record k)
def Fld.FLT_CAP_OVERFLOW_COUNT : Field := { blk := .flt, off := 0x104, jstr := 0x40, jcnt := 3, hi := 31, lo := 0, acc := .ro, dflt := .const 0, kept := 126 }
-- CAP_TIME (R412, table FLT capture record k)
def Fld.FLT_CAP_TIME_TIME : Field := { blk := .flt, off := 0x108, jstr := 0x40, jcnt := 3, w64 := true, hi := 58, lo := 0, acc := .ro, dflt := .const 0, kept := 126 }
-- CAP_HADDR (R412, table FLT capture record k)
def Fld.FLT_CAP_HADDR_HADDR : Field := { blk := .flt, off := 0x110, jstr := 0x40, jcnt := 3, w64 := true, hi := 36, lo := 0, acc := .ro, dflt := .const 0, kept := 126 }
-- CAP_LOC (R412, table FLT capture record k)
def Fld.FLT_CAP_LOC_CHANNEL : Field := { blk := .flt, off := 0x118, jstr := 0x40, jcnt := 3, w64 := true, hi := 35, lo := 30, acc := .ro, dflt := .const 0, kept := 126 }
def Fld.FLT_CAP_LOC_LAYER : Field := { blk := .flt, off := 0x118, jstr := 0x40, jcnt := 3, w64 := true, hi := 29, lo := 25, acc := .ro, dflt := .const 0, kept := 126 }
def Fld.FLT_CAP_LOC_BANK : Field := { blk := .flt, off := 0x118, jstr := 0x40, jcnt := 3, w64 := true, hi := 24, lo := 20, acc := .ro, dflt := .const 0, kept := 126 }
def Fld.FLT_CAP_LOC_ROW : Field := { blk := .flt, off := 0x118, jstr := 0x40, jcnt := 3, w64 := true, hi := 19, lo := 5, acc := .ro, dflt := .const 0, kept := 126 }
def Fld.FLT_CAP_LOC_COLUMN : Field := { blk := .flt, off := 0x118, jstr := 0x40, jcnt := 3, w64 := true, hi := 4, lo := 0, acc := .ro, dflt := .const 0, kept := 126 }
-- CAP_REQ (R412, table FLT capture record k)
def Fld.FLT_CAP_REQ_TRACK : Field := { blk := .flt, off := 0x120, jstr := 0x40, jcnt := 3, hi := 28, lo := 24, acc := .ro, dflt := .const 0, kept := 126 }
def Fld.FLT_CAP_REQ_MASTER : Field := { blk := .flt, off := 0x120, jstr := 0x40, jcnt := 3, hi := 21, lo := 16, acc := .ro, dflt := .const 0, kept := 126 }
def Fld.FLT_CAP_REQ_TAG : Field := { blk := .flt, off := 0x120, jstr := 0x40, jcnt := 3, hi := 13, lo := 0, acc := .ro, dflt := .const 0, kept := 126 }
-- CAP_DETAIL (R412, table FLT capture record k)
def Fld.FLT_CAP_DETAIL_DETAIL : Field := { blk := .flt, off := 0x124, jstr := 0x40, jcnt := 3, hi := 31, lo := 0, acc := .ro, dflt := .const 0, kept := 126 }
-- REACT (R412, table FLT.REACT[s] and COUNT[s])
def Fld.FLT_REACT_CLASS : Field := { blk := .flt, off := 0x400, jstr := 0x4, jcnt := 95, hi := 9, lo := 8, acc := .rw, dflt := .react 0, kept := 120, image := true, trip := true, vmin := 0, vmax := 2 }
def Fld.FLT_REACT_EPN : Field := { blk := .flt, off := 0x400, jstr := 0x4, jcnt := 95, hi := 4, lo := 4, acc := .rw, dflt := .react 1, kept := 120, image := true, trip := true, view := some .reactEpn }
def Fld.FLT_REACT_CRS : Field := { blk := .flt, off := 0x400, jstr := 0x4, jcnt := 95, hi := 3, lo := 3, acc := .rw, dflt := .const 0, kept := 120, image := true, trip := true }
def Fld.FLT_REACT_BRS : Field := { blk := .flt, off := 0x400, jstr := 0x4, jcnt := 95, hi := 2, lo := 2, acc := .rw, dflt := .react 2, kept := 120, image := true, trip := true }
def Fld.FLT_REACT_URG : Field := { blk := .flt, off := 0x400, jstr := 0x4, jcnt := 95, hi := 1, lo := 1, acc := .rw, dflt := .react 3, kept := 120, image := true, trip := true, view := some .reactUrg }
def Fld.FLT_REACT_BUL : Field := { blk := .flt, off := 0x400, jstr := 0x4, jcnt := 95, hi := 0, lo := 0, acc := .rw, dflt := .react 4, kept := 120, image := true, trip := true }
-- COUNT (R412, table FLT.REACT[s] and COUNT[s])
def Fld.FLT_COUNT_COUNT : Field := { blk := .flt, off := 0x800, jstr := 0x4, jcnt := 95, hi := 31, lo := 0, acc := .ro, dflt := .const 0, kept := 120, snap := true, frozen := true }

/-- Every field of block FLT, in table order. -/
def fieldsOfFlt : List Field :=
  [Fld.FLT_CFG_BUL_EN, Fld.FLT_CFG_BRS_LIMIT, Fld.FLT_CFG_CRS_DELAY, Fld.FLT_BUL_CFG_HOLDOFF, Fld.FLT_BUL_CFG_TRACK, Fld.FLT_STATUS_CFG_REJECT, Fld.FLT_STATUS_ERR_N_LOW, Fld.FLT_STATUS_CRS_DONE, Fld.FLT_STATUS_BUL_NUM, Fld.FLT_STATUS_QUEUED, Fld.FLT_ERR_CTL_FORCE, Fld.FLT_DROPPED_URG] ++
  [Fld.FLT_DROPPED_BUL, Fld.FLT_PEND_PEND, Fld.FLT_CAP_STATUS_VALID, Fld.FLT_CAP_STATUS_ESCALATED, Fld.FLT_CAP_STATUS_ADDR_VALID, Fld.FLT_CAP_STATUS_LOC_VALID, Fld.FLT_CAP_STATUS_REQ_VALID, Fld.FLT_CAP_STATUS_ACCESS, Fld.FLT_CAP_STATUS_SOURCE, Fld.FLT_CAP_OVERFLOW_COUNT, Fld.FLT_CAP_TIME_TIME, Fld.FLT_CAP_HADDR_HADDR] ++
  [Fld.FLT_CAP_LOC_CHANNEL, Fld.FLT_CAP_LOC_LAYER, Fld.FLT_CAP_LOC_BANK, Fld.FLT_CAP_LOC_ROW, Fld.FLT_CAP_LOC_COLUMN, Fld.FLT_CAP_REQ_TRACK, Fld.FLT_CAP_REQ_MASTER, Fld.FLT_CAP_REQ_TAG, Fld.FLT_CAP_DETAIL_DETAIL, Fld.FLT_REACT_CLASS, Fld.FLT_REACT_EPN, Fld.FLT_REACT_CRS] ++
  [Fld.FLT_REACT_BRS, Fld.FLT_REACT_URG, Fld.FLT_REACT_BUL, Fld.FLT_COUNT_COUNT]

-- CFG (R440, table THM configuration fields)
def Fld.THM_CFG_MODEL_EN : Field := { blk := .thm, off := 0x0, hi := 31, lo := 31, acc := .rw, dflt := .const 0, kept := 120, image := true }
def Fld.THM_CFG_WIT_EN : Field := { blk := .thm, off := 0x0, hi := 30, lo := 30, acc := .rw, dflt := .const 0, kept := 120, image := true }
def Fld.THM_CFG_DIS_TIME : Field := { blk := .thm, off := 0x0, hi := 27, lo := 16, acc := .rw, dflt := .const 1000, kept := 120, image := true, vmin := 1, vmax := 4095 }
def Fld.THM_CFG_DISAGREE : Field := { blk := .thm, off := 0x0, hi := 9, lo := 0, acc := .rw, dflt := .const 384, kept := 120, image := true, vmin := 1, vmax := 1023 }
-- THROT_LAYER (R440, table THM configuration fields)
def Fld.THM_THROT_LAYER_TH4 : Field := { blk := .thm, off := 0x4, hi := 31, lo := 24, acc := .rw, dflt := .const 104, kept := 120, image := true, atTick := true, vmin := 1, vmax := 127 }
-- THROT_BASE (R440, table THM configuration fields)
def Fld.THM_THROT_BASE_TH4 : Field := { blk := .thm, off := 0x8, hi := 31, lo := 24, acc := .rw, dflt := .const 104, kept := 120, image := true, atTick := true, vmin := 1, vmax := 127 }
-- THROT_LAYER (R440, table THM configuration fields)
def Fld.THM_THROT_LAYER_TH3 : Field := { blk := .thm, off := 0x4, hi := 23, lo := 16, acc := .rw, dflt := .const 101, kept := 120, image := true, atTick := true, vmin := 1, vmax := 127 }
-- THROT_BASE (R440, table THM configuration fields)
def Fld.THM_THROT_BASE_TH3 : Field := { blk := .thm, off := 0x8, hi := 23, lo := 16, acc := .rw, dflt := .const 102, kept := 120, image := true, atTick := true, vmin := 1, vmax := 127 }
-- THROT_LAYER (R440, table THM configuration fields)
def Fld.THM_THROT_LAYER_TH2 : Field := { blk := .thm, off := 0x4, hi := 15, lo := 8, acc := .rw, dflt := .const 98, kept := 120, image := true, atTick := true, vmin := 1, vmax := 127 }
-- THROT_BASE (R440, table THM configuration fields)
def Fld.THM_THROT_BASE_TH2 : Field := { blk := .thm, off := 0x8, hi := 15, lo := 8, acc := .rw, dflt := .const 100, kept := 120, image := true, atTick := true, vmin := 1, vmax := 127 }
-- THROT_LAYER (R440, table THM configuration fields)
def Fld.THM_THROT_LAYER_TH1 : Field := { blk := .thm, off := 0x4, hi := 7, lo := 0, acc := .rw, dflt := .const 95, kept := 120, image := true, atTick := true, vmin := 1, vmax := 127 }
-- THROT_BASE (R440, table THM configuration fields)
def Fld.THM_THROT_BASE_TH1 : Field := { blk := .thm, off := 0x8, hi := 7, lo := 0, acc := .rw, dflt := .const 98, kept := 120, image := true, atTick := true, vmin := 1, vmax := 127 }
-- THROT_CFG (R440, table THM configuration fields)
def Fld.THM_THROT_CFG_THERM_LEVEL : Field := { blk := .thm, off := 0xC, hi := 26, lo := 24, acc := .rw, dflt := .const 3, kept := 120, image := true, vmin := 1, vmax := 4 }
def Fld.THM_THROT_CFG_FORCE : Field := { blk := .thm, off := 0xC, hi := 18, lo := 16, acc := .rw, dflt := .const 0, kept := 120, atTick := true, vmin := 0, vmax := 4 }
def Fld.THM_THROT_CFG_HYST : Field := { blk := .thm, off := 0xC, hi := 7, lo := 0, acc := .rw, dflt := .const 128, kept := 120, image := true, vmin := 1, vmax := 255 }
-- MODEL_E (R440, table THM configuration fields)
def Fld.THM_MODEL_E_E_LINE : Field := { blk := .thm, off := 0x10, hi := 31, lo := 16, acc := .rw, dflt := .const 1500, kept := 120, image := true }
def Fld.THM_MODEL_E_E_ACT : Field := { blk := .thm, off := 0x10, hi := 15, lo := 0, acc := .rw, dflt := .const 1000, kept := 120, image := true }
-- MODEL_P (R440, table THM configuration fields)
def Fld.THM_MODEL_P_E_REF : Field := { blk := .thm, off := 0x14, hi := 31, lo := 16, acc := .rw, dflt := .const 20000, kept := 120, image := true }
def Fld.THM_MODEL_P_P_IDLE : Field := { blk := .thm, off := 0x14, hi := 15, lo := 0, acc := .rw, dflt := .const 300, kept := 120, image := true }
-- LID (R440, table THM configuration fields)
def Fld.THM_LID_T_LID : Field := { blk := .thm, off := 0x18, hi := 13, lo := 0, acc := .rw, dflt := .const 4480, kept := 120, image := true, atTick := true }
-- WIT_K (R440, table THM configuration fields)
def Fld.THM_WIT_K_KD : Field := { blk := .thm, off := 0x1C, hi := 31, lo := 16, acc := .rw, dflt := .const 0, kept := 120, image := true }
def Fld.THM_WIT_K_KG : Field := { blk := .thm, off := 0x1C, hi := 15, lo := 0, acc := .rw, dflt := .const 0, kept := 120, image := true }
-- MODEL_RC (R440, table THM configuration fields)
def Fld.THM_MODEL_RC_C : Field := { blk := .thm, off := 0x80, jstr := 0x4, jcnt := 17, hi := 31, lo := 16, acc := .rw, dflt := .const 8000, kept := 120, image := true, vmin := 1, vmax := 65535, jmin := 1 }
def Fld.THM_MODEL_RC_G : Field := { blk := .thm, off := 0x80, jstr := 0x4, jcnt := 17, hi := 15, lo := 0, acc := .rw, dflt := .const 20000, kept := 120, image := true }
-- STATUS (R440, table THM status fields)
def Fld.THM_STATUS_CFG_REJECT : Field := { blk := .thm, off := 0x20, hi := 31, lo := 31, acc := .w1c, dflt := .const 0, kept := 120 }
def Fld.THM_STATUS_BASE_OVER : Field := { blk := .thm, off := 0x20, hi := 1, lo := 1, acc := .ro, dflt := .const 0, kept := 0 }
def Fld.THM_STATUS_THERM : Field := { blk := .thm, off := 0x20, hi := 0, lo := 0, acc := .ro, dflt := .const 0, kept := 0 }
-- LEVELS (R440, table THM status fields)
def Fld.THM_LEVELS_LEVEL : Field := { blk := .thm, off := 0x28, w64 := true, hi := 50, lo := 0, acc := .ro, dflt := .const 0x2492492492492, kept := 0 }
-- BASE_T (R440, table THM status fields)
def Fld.THM_BASE_T_VALID : Field := { blk := .thm, off := 0x40, jstr := 0x4, jcnt := 16, hi := 15, lo := 15, acc := .ro, dflt := .const 0, kept := 0 }
def Fld.THM_BASE_T_SAMPLE : Field := { blk := .thm, off := 0x40, jstr := 0x4, jcnt := 16, hi := 13, lo := 0, acc := .ro, dflt := .const 0, kept := 0 }
-- LAYER_T (R440, table THM status fields)
def Fld.THM_LAYER_T_W_VALID : Field := { blk := .thm, off := 0x110, jstr := 0x10, jcnt := 16, w64 := true, hi := 63, lo := 63, acc := .ro, dflt := .const 0, kept := 0 }
def Fld.THM_LAYER_T_M_VALID : Field := { blk := .thm, off := 0x110, jstr := 0x10, jcnt := 16, w64 := true, hi := 47, lo := 47, acc := .ro, dflt := .const 0, kept := 0 }
def Fld.THM_LAYER_T_S_VALID : Field := { blk := .thm, off := 0x110, jstr := 0x10, jcnt := 16, w64 := true, hi := 31, lo := 31, acc := .ro, dflt := .const 0, kept := 0 }
def Fld.THM_LAYER_T_WIT : Field := { blk := .thm, off := 0x110, jstr := 0x10, jcnt := 16, w64 := true, hi := 61, lo := 48, acc := .ro, dflt := .const 0, kept := 0 }
def Fld.THM_LAYER_T_MODEL : Field := { blk := .thm, off := 0x110, jstr := 0x10, jcnt := 16, w64 := true, hi := 45, lo := 32, acc := .ro, dflt := .const 0, kept := 0 }
def Fld.THM_LAYER_T_SENSE : Field := { blk := .thm, off := 0x110, jstr := 0x10, jcnt := 16, w64 := true, hi := 29, lo := 16, acc := .ro, dflt := .const 0, kept := 0 }
def Fld.THM_LAYER_T_DISAGREE : Field := { blk := .thm, off := 0x110, jstr := 0x10, jcnt := 16, w64 := true, hi := 30, lo := 30, acc := .ro, dflt := .const 0, kept := 0 }
def Fld.THM_LAYER_T_USED : Field := { blk := .thm, off := 0x110, jstr := 0x10, jcnt := 16, w64 := true, hi := 13, lo := 0, acc := .ro, dflt := .const 0, kept := 0 }
-- WIT_REF (R440, table THM status fields)
def Fld.THM_WIT_REF_VALID : Field := { blk := .thm, off := 0x118, jstr := 0x10, jcnt := 16, w64 := true, hi := 63, lo := 63, acc := .ro, dflt := .const 0, kept := 126 }
def Fld.THM_WIT_REF_T_TRAIN : Field := { blk := .thm, off := 0x118, jstr := 0x10, jcnt := 16, w64 := true, hi := 61, lo := 48, acc := .ro, dflt := .const 0, kept := 126 }
def Fld.THM_WIT_REF_D_TRAIN : Field := { blk := .thm, off := 0x118, jstr := 0x10, jcnt := 16, w64 := true, hi := 43, lo := 32, acc := .ro, dflt := .const 0, kept := 126 }
def Fld.THM_WIT_REF_G_BASE : Field := { blk := .thm, off := 0x118, jstr := 0x10, jcnt := 16, w64 := true, hi := 11, lo := 0, acc := .ro, dflt := .const 0, kept := 126 }
-- CNT (R440, table THM status fields)
def Fld.THM_CNT_COUNT : Field := { blk := .thm, off := 0x300, jstr := 0x4, jcnt := 4, hi := 31, lo := 0, acc := .ro, dflt := .const 0, kept := 120, snap := true, frozen := true }

/-- Every field of block THM, in table order. -/
def fieldsOfThm : List Field :=
  [Fld.THM_CFG_MODEL_EN, Fld.THM_CFG_WIT_EN, Fld.THM_CFG_DIS_TIME, Fld.THM_CFG_DISAGREE, Fld.THM_THROT_LAYER_TH4, Fld.THM_THROT_BASE_TH4, Fld.THM_THROT_LAYER_TH3, Fld.THM_THROT_BASE_TH3, Fld.THM_THROT_LAYER_TH2, Fld.THM_THROT_BASE_TH2, Fld.THM_THROT_LAYER_TH1, Fld.THM_THROT_BASE_TH1] ++
  [Fld.THM_THROT_CFG_THERM_LEVEL, Fld.THM_THROT_CFG_FORCE, Fld.THM_THROT_CFG_HYST, Fld.THM_MODEL_E_E_LINE, Fld.THM_MODEL_E_E_ACT, Fld.THM_MODEL_P_E_REF, Fld.THM_MODEL_P_P_IDLE, Fld.THM_LID_T_LID, Fld.THM_WIT_K_KD, Fld.THM_WIT_K_KG, Fld.THM_MODEL_RC_C, Fld.THM_MODEL_RC_G] ++
  [Fld.THM_STATUS_CFG_REJECT, Fld.THM_STATUS_BASE_OVER, Fld.THM_STATUS_THERM, Fld.THM_LEVELS_LEVEL, Fld.THM_BASE_T_VALID, Fld.THM_BASE_T_SAMPLE, Fld.THM_LAYER_T_W_VALID, Fld.THM_LAYER_T_M_VALID, Fld.THM_LAYER_T_S_VALID, Fld.THM_LAYER_T_WIT, Fld.THM_LAYER_T_MODEL, Fld.THM_LAYER_T_SENSE] ++
  [Fld.THM_LAYER_T_DISAGREE, Fld.THM_LAYER_T_USED, Fld.THM_WIT_REF_VALID, Fld.THM_WIT_REF_T_TRAIN, Fld.THM_WIT_REF_D_TRAIN, Fld.THM_WIT_REF_G_BASE, Fld.THM_CNT_COUNT]

-- AVS_CFG (R440, table PWR fields)
def Fld.PWR_AVS_CFG_EN : Field := { blk := .pwr, off := 0x0, hi := 31, lo := 31, acc := .rw, dflt := .const 0, kept := 120, image := true, trip := true }
def Fld.PWR_AVS_CFG_RAIL : Field := { blk := .pwr, off := 0x0, hi := 27, lo := 24, acc := .rw, dflt := .const 0, kept := 120, image := true }
def Fld.PWR_AVS_CFG_PERIOD : Field := { blk := .pwr, off := 0x0, hi := 15, lo := 0, acc := .rw, dflt := .const 64, kept := 120, image := true, vmin := 64, vmax := 65535 }
-- AVS_LIM (R440, table PWR fields)
def Fld.PWR_AVS_LIM_V_MAX : Field := { blk := .pwr, off := 0x4, hi := 25, lo := 16, acc := .rw, dflt := .const 800, kept := 120, image := true, trip := true, vmin := 700, vmax := 800 }
def Fld.PWR_AVS_LIM_V_MIN : Field := { blk := .pwr, off := 0x4, hi := 9, lo := 0, acc := .rw, dflt := .const 700, kept := 120, image := true, trip := true, vmin := 700, vmax := 800 }
-- AVS_SLACK (R440, table PWR fields)
def Fld.PWR_AVS_SLACK_S_HI : Field := { blk := .pwr, off := 0x8, hi := 13, lo := 8, acc := .rw, dflt := .const 12, kept := 120, image := true }
def Fld.PWR_AVS_SLACK_S_LO : Field := { blk := .pwr, off := 0x8, hi := 5, lo := 0, acc := .rw, dflt := .const 6, kept := 120, image := true, vmin := 1, vmax := 62 }
-- AVS_STATUS (R440, table PWR fields)
def Fld.PWR_AVS_STATUS_FAILED : Field := { blk := .pwr, off := 0xC, hi := 31, lo := 31, acc := .ro, dflt := .const 0, kept := 120 }
def Fld.PWR_AVS_STATUS_SLACK : Field := { blk := .pwr, off := 0xC, hi := 29, lo := 24, acc := .ro, dflt := .const 0, kept := 0 }
def Fld.PWR_AVS_STATUS_FROZEN : Field := { blk := .pwr, off := 0xC, hi := 16, lo := 16, acc := .ro, dflt := .const 0, kept := 0 }
def Fld.PWR_AVS_STATUS_TARGET : Field := { blk := .pwr, off := 0xC, hi := 9, lo := 0, acc := .ro, dflt := .const 0, kept := 120 }
-- SAG_CORE (R440, table PWR fields)
def Fld.PWR_SAG_CORE_VDDL : Field := { blk := .pwr, off := 0x10, hi := 31, lo := 16, acc := .rw, dflt := .const 790, kept := 120, image := true, vmin := 1, vmax := 65535 }
def Fld.PWR_SAG_CORE_VDDC : Field := { blk := .pwr, off := 0x10, hi := 15, lo := 0, acc := .rw, dflt := .const 660, kept := 120, image := true, vmin := 1, vmax := 65535 }
-- SAG_IO (R440, table PWR fields)
def Fld.PWR_SAG_IO_VDDIO : Field := { blk := .pwr, off := 0x14, hi := 31, lo := 16, acc := .rw, dflt := .const 1620, kept := 120, image := true, vmin := 1, vmax := 65535 }
def Fld.PWR_SAG_IO_VDDA : Field := { blk := .pwr, off := 0x14, hi := 15, lo := 0, acc := .rw, dflt := .const 1080, kept := 120, image := true, vmin := 1, vmax := 65535 }
-- HOLD (R440, table PWR fields)
def Fld.PWR_HOLD_LAST : Field := { blk := .pwr, off := 0x18, hi := 1, lo := 0, acc := .ro, dflt := .const 0, kept := 126 }
def Fld.PWR_HOLD_TRUNC : Field := { blk := .pwr, off := 0x18, hi := 2, lo := 2, acc := .ro, dflt := .const 0, kept := 126 }
def Fld.PWR_HOLD_CAUSE : Field := { blk := .pwr, off := 0x18, hi := 7, lo := 4, acc := .ro, dflt := .const 0, kept := 126 }
-- STATUS (R440, table PWR fields)
def Fld.PWR_STATUS_CFG_REJECT : Field := { blk := .pwr, off := 0x1C, hi := 31, lo := 31, acc := .w1c, dflt := .const 0, kept := 120 }
-- RAIL (R440, table PWR fields)
def Fld.PWR_RAIL_SAMPLE : Field := { blk := .pwr, off := 0x20, jstr := 0x4, jcnt := 5, hi := 13, lo := 0, acc := .ro, dflt := .const 0, kept := 0 }
-- CURRENT (R440, table PWR fields)
def Fld.PWR_CURRENT_VALID : Field := { blk := .pwr, off := 0x34, hi := 15, lo := 15, acc := .ro, dflt := .const 0, kept := 0 }
-- CURRENT (R440, table PWR fields)
def Fld.PWR_CURRENT_SAMPLE : Field := { blk := .pwr, off := 0x34, hi := 13, lo := 0, acc := .ro, dflt := .const 0, kept := 0 }
-- DOMAIN_ON (R440, table PWR fields)
def Fld.PWR_DOMAIN_ON_ON : Field := { blk := .pwr, off := 0x40, jstr := 0x4, jcnt := 3, hi := 31, lo := 0, acc := .ro, dflt := .word0, kept := 0 }
-- CNT (R440, table PWR fields)
def Fld.PWR_CNT_COUNT : Field := { blk := .pwr, off := 0x60, jstr := 0x4, jcnt := 4, hi := 31, lo := 0, acc := .ro, dflt := .const 0, kept := 120, snap := true, frozen := true }

/-- Every field of block PWR, in table order. -/
def fieldsOfPwr : List Field :=
  [Fld.PWR_AVS_CFG_EN, Fld.PWR_AVS_CFG_RAIL, Fld.PWR_AVS_CFG_PERIOD, Fld.PWR_AVS_LIM_V_MAX, Fld.PWR_AVS_LIM_V_MIN, Fld.PWR_AVS_SLACK_S_HI, Fld.PWR_AVS_SLACK_S_LO, Fld.PWR_AVS_STATUS_FAILED, Fld.PWR_AVS_STATUS_SLACK, Fld.PWR_AVS_STATUS_FROZEN, Fld.PWR_AVS_STATUS_TARGET, Fld.PWR_SAG_CORE_VDDL] ++
  [Fld.PWR_SAG_CORE_VDDC, Fld.PWR_SAG_IO_VDDIO, Fld.PWR_SAG_IO_VDDA, Fld.PWR_HOLD_LAST, Fld.PWR_HOLD_TRUNC, Fld.PWR_HOLD_CAUSE, Fld.PWR_STATUS_CFG_REJECT, Fld.PWR_RAIL_SAMPLE, Fld.PWR_CURRENT_VALID, Fld.PWR_CURRENT_SAMPLE, Fld.PWR_DOMAIN_ON_ON, Fld.PWR_CNT_COUNT]

-- CFG (R493, table NVM.CFG and NVM.CTL)
def Fld.NVM_CFG_WIN_PROG_EN : Field := { blk := .nvm, off := 0x0, hi := 31, lo := 31, acc := .rw, dflt := .const 0, kept := 120, image := true }
def Fld.NVM_CFG_CAL_PERIOD : Field := { blk := .nvm, off := 0x0, hi := 23, lo := 16, acc := .rw, dflt := .const 4, kept := 120, image := true, vmin := 1, vmax := 255 }
-- CTL (R493, table NVM.CFG and NVM.CTL)
def Fld.NVM_CTL_CAL_COMMIT : Field := { blk := .nvm, off := 0x4, hi := 31, lo := 31, acc := .w1s, dflt := .const 0, kept := 0 }
def Fld.NVM_CTL_ERASE_GO : Field := { blk := .nvm, off := 0x4, hi := 9, lo := 9, acc := .w1s, dflt := .const 0, kept := 0 }
def Fld.NVM_CTL_PROG_GO : Field := { blk := .nvm, off := 0x4, hi := 8, lo := 8, acc := .w1s, dflt := .const 0, kept := 0 }
def Fld.NVM_CTL_RD_GO : Field := { blk := .nvm, off := 0x4, hi := 4, lo := 4, acc := .w1s, dflt := .const 0, kept := 0 }
-- STATUS (R493, table NVM status fields)
def Fld.NVM_STATUS_CFG_REJECT : Field := { blk := .nvm, off := 0x8, hi := 31, lo := 31, acc := .w1c, dflt := .const 0, kept := 120 }
def Fld.NVM_STATUS_WIN_BUSY : Field := { blk := .nvm, off := 0x8, hi := 30, lo := 30, acc := .ro, dflt := .const 0, kept := 0 }
def Fld.NVM_STATUS_WIN_ERR : Field := { blk := .nvm, off := 0x8, hi := 29, lo := 29, acc := .w1c, dflt := .const 0, kept := 120 }
def Fld.NVM_STATUS_HOLD_NONE : Field := { blk := .nvm, off := 0x8, hi := 26, lo := 26, acc := .ro, dflt := .const 0, kept := 0 }
def Fld.NVM_STATUS_HOLD_SLOT : Field := { blk := .nvm, off := 0x8, hi := 25, lo := 24, acc := .ro, dflt := .const 0, kept := 0 }
def Fld.NVM_STATUS_IMAGE_OK : Field := { blk := .nvm, off := 0x8, hi := 23, lo := 23, acc := .ro, dflt := .const 0, kept := 0 }
def Fld.NVM_STATUS_SFDP_OK : Field := { blk := .nvm, off := 0x8, hi := 22, lo := 22, acc := .ro, dflt := .const 0, kept := 0 }
def Fld.NVM_STATUS_FAIL_TYPE : Field := { blk := .nvm, off := 0x8, hi := 7, lo := 0, acc := .ro, dflt := .const 0, kept := 0 }
-- FLASH (R493, table NVM status fields)
def Fld.NVM_FLASH_REV : Field := { blk := .nvm, off := 0xC, hi := 31, lo := 24, acc := .ro, dflt := .const 0, kept := 0 }
def Fld.NVM_FLASH_DUMMY : Field := { blk := .nvm, off := 0xC, hi := 23, lo := 16, acc := .ro, dflt := .const 0, kept := 0 }
def Fld.NVM_FLASH_DENSITY : Field := { blk := .nvm, off := 0xC, hi := 7, lo := 0, acc := .ro, dflt := .const 0, kept := 0 }
-- CAL (R493, table NVM status fields)
def Fld.NVM_CAL_A_OK : Field := { blk := .nvm, off := 0x10, hi := 31, lo := 31, acc := .ro, dflt := .const 0, kept := 0 }
def Fld.NVM_CAL_B_OK : Field := { blk := .nvm, off := 0x10, hi := 30, lo := 30, acc := .ro, dflt := .const 0, kept := 0 }
def Fld.NVM_CAL_SEED : Field := { blk := .nvm, off := 0x10, hi := 29, lo := 28, acc := .ro, dflt := .const 0, kept := 0 }
def Fld.NVM_CAL_DIRTY : Field := { blk := .nvm, off := 0x10, hi := 27, lo := 27, acc := .ro, dflt := .const 0, kept := 0 }
def Fld.NVM_CAL_GEN : Field := { blk := .nvm, off := 0x10, hi := 23, lo := 0, acc := .ro, dflt := .const 0, kept := 126 }
-- JRN (R493, table NVM status fields)
def Fld.NVM_JRN_HEAD : Field := { blk := .nvm, off := 0x14, hi := 31, lo := 24, acc := .ro, dflt := .const 0, kept := 126 }
def Fld.NVM_JRN_NEXT : Field := { blk := .nvm, off := 0x14, hi := 22, lo := 16, acc := .ro, dflt := .const 0, kept := 126 }
-- LOCKS (R493, table NVM status fields)
def Fld.NVM_LOCKS_COUNT : Field := { blk := .nvm, off := 0x1C, hi := 15, lo := 0, acc := .ro, dflt := .const 0, kept := 120, view := some .lockCount }
-- WIN_ADDR (R493, table NVM window, wear and counters)
def Fld.NVM_WIN_ADDR_ADDR : Field := { blk := .nvm, off := 0x18, hi := 23, lo := 5, acc := .rw, dflt := .const 0, kept := 120 }
-- WIN_DATA (R493, table NVM window, wear and counters)
def Fld.NVM_WIN_DATA_DATA : Field := { blk := .nvm, off := 0x40, jstr := 0x4, jcnt := 8, hi := 31, lo := 0, acc := .rw, dflt := .const 0, kept := 120 }
-- WEAR (R493, table NVM window, wear and counters)
def Fld.NVM_WEAR_CREDIT : Field := { blk := .nvm, off := 0x60, jstr := 0x4, jcnt := 6, hi := 15, lo := 0, acc := .ro, dflt := .wear, kept := 126 }
-- CNT (R493, table NVM window, wear and counters)
def Fld.NVM_CNT_COUNT : Field := { blk := .nvm, off := 0x80, jstr := 0x4, jcnt := 6, hi := 31, lo := 0, acc := .ro, dflt := .const 0, kept := 120, snap := true, frozen := true }

/-- Every field of block NVM, in table order. -/
def fieldsOfNvm : List Field :=
  [Fld.NVM_CFG_WIN_PROG_EN, Fld.NVM_CFG_CAL_PERIOD, Fld.NVM_CTL_CAL_COMMIT, Fld.NVM_CTL_ERASE_GO, Fld.NVM_CTL_PROG_GO, Fld.NVM_CTL_RD_GO, Fld.NVM_STATUS_CFG_REJECT, Fld.NVM_STATUS_WIN_BUSY, Fld.NVM_STATUS_WIN_ERR, Fld.NVM_STATUS_HOLD_NONE, Fld.NVM_STATUS_HOLD_SLOT, Fld.NVM_STATUS_IMAGE_OK] ++
  [Fld.NVM_STATUS_SFDP_OK, Fld.NVM_STATUS_FAIL_TYPE, Fld.NVM_FLASH_REV, Fld.NVM_FLASH_DUMMY, Fld.NVM_FLASH_DENSITY, Fld.NVM_CAL_A_OK, Fld.NVM_CAL_B_OK, Fld.NVM_CAL_SEED, Fld.NVM_CAL_DIRTY, Fld.NVM_CAL_GEN, Fld.NVM_JRN_HEAD, Fld.NVM_JRN_NEXT] ++
  [Fld.NVM_LOCKS_COUNT, Fld.NVM_WIN_ADDR_ADDR, Fld.NVM_WIN_DATA_DATA, Fld.NVM_WEAR_CREDIT, Fld.NVM_CNT_COUNT]

end Sys2Proof.Machine
end

