-- ==== Sys2Proof/Machine/Tiles.lean ====
section
/-! DEFINITION. The tile code of stored data (R318 to R324) and the line code of the vertical interface (R290, R291, R299, R300). -/
namespace Sys2Proof.Machine

/-- A stored tile: 288 bits (R318). -/
abbrev Tile := BitVec 288
/-- A stored line: tile 0 in bits 0 to 287, tile 1 above (R291). -/
abbrev Line := BitVec 576

/-- Data row i of a tile: 16 bits (R318). -/
def tileRow (d : BitVec 288) (i : Nat) : BitVec 16 := d.extractLsb' (16 * i) 16

/-- The xor of the bits of a 16-bit word. -/
def parity16 (x : BitVec 16) : Bool :=
  let a := x ^^^ (x >>> 8)
  let b := a ^^^ (a >>> 4)
  let c := b ^^^ (b >>> 2)
  (c ^^^ (c >>> 1)).getLsbD 0

/-- p: the xor of the data rows, bit j the parity of data column j (R320). -/
def colParity (d : BitVec 288) : BitVec 16 :=
  (List.range 16).foldl (fun x i => x ^^^ tileRow d i) 0

/-- q: bit i the parity of data row i (R320). -/
def rowParity (d : BitVec 288) : BitVec 16 :=
  (List.range 16).foldl (fun x i => if parity16 (tileRow d i) then x ||| (1#16 <<< i) else x) 0

/-- P: the running xor of column parities (R320). -/
def runXor (p : BitVec 16) : BitVec 16 :=
  let a := p ^^^ (p <<< 1)
  let b := a ^^^ (a <<< 2)
  let c := b ^^^ (b <<< 4)
  c ^^^ (c <<< 8)

/-- Encode 32 bytes of data as a tile (R320). -/
def encodeTile (u : Unit32) : Tile :=
  let d : BitVec 288 := u.zeroExtend 288
  let P := runXor (colParity d)
  let top := P.getLsbD 15
  let low : BitVec 16 := if top then (~~~P) &&& 0x3FFF#16 else P &&& 0x3FFF#16
  let C : BitVec 16 := low ||| (P &&& 0x4000#16) ||| (if top then 0x8000#16 else 0)
  let R := rowParity d ^^^ C
  d ||| (R.zeroExtend 288 <<< 256) ||| (C.zeroExtend 288 <<< 272)

/-- The row syndrome SR (R319, R321). -/
def rowSyn (x : Tile) : BitVec 16 := rowParity x ^^^ x.extractLsb' 256 16 ^^^ x.extractLsb' 272 16

/-- The column syndrome SC (R319, R321). -/
def colSyn (x : Tile) : BitVec 16 :=
  let C := x.extractLsb' 272 16
  let lo := C &&& 0x7FFF#16
  colParity x ^^^ lo ^^^ (lo <<< 1) ^^^ (if C.getLsbD 15 then 0xC001#16 else 0)

/-- The column-check set of check bit C[i] (R319). -/
def colSigC (i : Nat) : BitVec 16 := if i = 15 then 0xC001#16 else 1#16 <<< i ||| 1#16 <<< (i + 1)

/-- What the check of a tile finds (R321). -/
inductive TileResult where
  | clean | corrected | poisoned | uncorrectable
deriving DecidableEq, Repr

/-- Check a tile and correct what can be corrected (R321): the result and the tile as corrected. -/
def checkTile (x : Tile) : TileResult × Tile :=
  let sr := rowSyn x
  let sc := colSyn x
  let n := popN 16 sr.toNat
  if n ≥ 15 then (.poisoned, x)
  else if sr = 0 ∧ sc = 0 then (.clean, x)
  else if n = 1 then
    let i := (List.range 16).findIdx fun k => sr.getLsbD k
    if popN 16 sc.toNat = 1 then
      let j := (List.range 16).findIdx fun k => sc.getLsbD k
      (.corrected, x ^^^ (1#288 <<< (16 * i + j)))
    else if sc = 0 then (.corrected, x ^^^ (1#288 <<< (256 + i)))
    else if sc = colSigC i then (.corrected, x ^^^ (1#288 <<< (272 + i)))
    else (.uncorrectable, x)
  else (.uncorrectable, x)

/-- The poison form of a tile (R324). -/
def poisonTile : Tile := 0xFFFF#288 <<< 256

/-- The data bytes of a tile. -/
def tileData (x : Tile) : Unit32 := x.extractLsb' 0 256

/-- Tile t of a line (R291). -/
def lineTile (l : Line) (t : Nat) : Tile := l.extractLsb' (288 * t) 288

/-- A line from its tiles. -/
def lineOf (t0 t1 : Tile) : Line := t1 ++ t0

/-! ### The line code (R299, R300) -/

/-- Row 0 of the base matrix; block 19 has the zero block (R299). -/
def base0 : List Nat := [0, 5, 10, 15, 20, 25, 30, 3, 8, 13, 18, 23, 28, 1, 6, 11, 16, 21, 0]
/-- Row 1 of the base matrix (R299). -/
def base1 : List Nat := [1, 8, 15, 22, 29, 4, 11, 18, 25, 0, 7, 14, 21, 28, 3, 10, 18, 25, 6, 0]

/-- Block j of a codeword or line: 32 bits (R299). -/
def block32 {w : Nat} (x : BitVec w) (j : Nat) : BitVec 32 := x.extractLsb' (32 * j) 32

/-- The xor over blocks of each block turned by its shift: bit r takes bit (r + shift) mod 32 (R299). -/
def circSum {w : Nat} (x : BitVec w) (hs : List Nat) : BitVec 32 :=
  (hs.zipIdx).foldl (fun acc e => acc ^^^ (block32 x e.2).rotateRight e.1) 0

/-- The two parity blocks of a line (R300). -/
def lineParity (u : Line) : BitVec 32 × BitVec 32 :=
  let p0 := circSum u (base0.take 18)
  (p0, circSum u (base1.take 18) ^^^ p0.rotateRight 6)

/-- The codeword of a line (R299, R300). -/
def encodeLine (u : Line) : BitVec 640 :=
  let (p0, p1) := lineParity u
  p1 ++ (p0 ++ u)

/-- The syndrome of a codeword, both block rows (R299). -/
def lineSyndrome (c : BitVec 640) : BitVec 32 × BitVec 32 := (circSum c base0, circSum c base1)

/-- The line a codeword carries: bits 0 to 575 (R291). -/
def codeLine (c : BitVec 640) : Line := c.extractLsb' 0 576

/-! ### Line control (R291) -/

/-- The line control of a slot (R291). -/
def lineControl (col : Nat) (te : Nat) (index tid : Nat) : BitVec 32 :=
  let n := col % 32 + te % 4 * 32 + index % 16 * 256 + tid % 32 * 4096
  BitVec.ofNat 32 (n + (crc8 (natBytes 3 n)).toNat * 2 ^ 24)

/-- Whether a line control passes CHK and carries a TID (R291, R301). -/
def controlGood (x : BitVec 32) (tid : Nat) : Bool :=
  crc8 (natBytes 3 (x.toNat % 2 ^ 24)) = BitVec.ofNat 8 (x.toNat / 2 ^ 24) && bits x.toNat 16 12 = tid

end Sys2Proof.Machine
end

