-- ==== Sys2Proof/Machine/StateChannel.lean ====
section
/-! DEFINITION. The state of a channel beyond its registers: queue, banks, trains, jobs, refresh, mileage table (06, 08, 10, 11, 12). -/
namespace Sys2Proof.Machine

/-- Kinds of memory request (R176). -/
inductive EntKind where
  | rd | wr | wrm
deriving DecidableEq, Repr

/-- Where a line of an entry stands: not issued; in a train; read and its write due; done. -/
inductive LineSt where
  | idle | out | back | done
deriving DecidableEq, Repr

/-- One line of an entry (R182, R198). `ln` is the host line number A / 64. -/
structure LineJob where
  bank : Nat
  row : Nat
  col : Nat
  ln : Nat
  te : Nat                    -- tiles the request covers; for a write, tiles it writes
  rmw : Bool := false         -- merged by read-modify-write (R198)
  st : LineSt := .idle
  got : Line := 0             -- the line read, corrected
  pois : Bool := false        -- the line is poisoned (R325)
  due : Nat := 0              -- a read line: the cycle it is offered at the earliest (R195)
deriving DecidableEq, Repr

/-- An entry in a siding (R200 to R202). -/
structure Side where
  reason : Nat
  ticks : Nat := 0
  limit : Nat
deriving DecidableEq, Repr

/-- A finished entry's answer (R153); the engine offers it from cycle `ready` on (R195). -/
structure Res where
  status : Nat
  detail : Nat := 0
  data : List Unit32 := []
  ready : Nat := 0
deriving DecidableEq, Repr

/-- A queue entry with its write-store slot (R181). -/
structure Ent where
  ord : Nat
  kind : EntKind
  track : Nat
  master : Nat
  tag : Nat
  unit : Nat                  -- first 32-byte unit
  len : Nat                   -- units
  mask : BitVec 128 := 0
  data : List Unit32 := []
  wagon : Nat
  grade : Nat := 2            -- 0 G, 1 S, 2 B (R211)
  age : Nat := 0              -- cycles in the queue outside sidings (R191)
  side : Option Side := none
  lines : List LineJob
  chk : Bool := false         -- past its map check (R330, R333)
  filled : Bool := false      -- carried by a wagon fill (R331)
  res : Option Res := none
deriving DecidableEq, Repr

/-- What a line of a train serves. -/
inductive Use where
  | host | rmw | rmwW | mark | wback | fill | gang | zero
  | rtRead | rtWrite | rtBack | migRead | migWrite | migBack
  | marchRead | marchWrite
deriving DecidableEq, Repr

/-- One line slot of a train (R290). `ord` and `ix` name the entry and its line; `past`: a later write train holds the line (R327). -/
structure TLine where
  col : Nat
  te : Nat := 3
  data : Line := 0
  use : Use
  ord : Nat := 0
  ix : Nat := 0
  past : Bool := false
  got : Bool := false
deriving DecidableEq, Repr

/-- A read or write train (R302 to R304). `lands` is the base-die chip at which a read train delivers its chip 0, or the WACK of a write train its own (R271, R296, R297). -/
structure Train where
  tid : Nat := 0
  write : Bool
  bank : Nat
  row : Nat
  lines : List TLine
  again : Bool := false       -- a reissue or resend (R303, R304)
  job : Nat := 0              -- the fill it belongs to
  lands : Nat := 0
deriving DecidableEq, Repr

/-- The engine's model of a bank (R184, R188): the open row; the changes of it that commands already launched still make, each with the cycle its command takes effect; the earliest cycles of the next ACT (T_RC), of a command on the precharged bank, of a column command and of a PRE; the cycle a REFB or NREF ends. -/
structure Bank where
  row : Option Nat := none
  due : List (Nat × Option Nat) := []
  refTill : Nat := 0
  hit : Nat := 2
  nRc : Nat := 0
  nRp : Nat := 0
  nCol : Nat := 0
  nPre : Nat := 0
  last : Nat := 0
deriving DecidableEq, Repr

/-- A wagon fill (R331). -/
structure Fill where
  id : Nat
  wagon : Nat
  ord : Nat
  left : Nat := 4             -- trains not yet acknowledged
  cleared : Bool := false     -- a CLEAR fell within it (R333)
  past : Bool := false        -- its overrun has been counted (R59)
  since : Nat := 0            -- cycle it opened
deriving DecidableEq, Repr

/-- A targeted retest, or a row of an explicit channel test (R338, R387). -/
structure Retest where
  bank : Nat
  row : Nat
  pass : Nat := 0             -- 0: first read; 1, 2: passes
  writing : Bool := false
  left : Nat := 32            -- lines the step still waits for
  img : Store Line := []
  fails : List (Nat × Nat) := []   -- failing line and stored bit
  test : Bool := false
  past : Bool := false
  since : Nat := 0            -- cycle it started
deriving DecidableEq, Repr

/-- What serves a row before its repair: the cases of R346. -/
inductive Served where
  | none | spare | yard
deriving DecidableEq, Repr

/-- A row's spare: a core-die spare or a yard row (R346). -/
inductive Resource where
  | spare (s : Nat)
  | yard (y : Nat)
deriving DecidableEq, Repr

/-- The step a migration job waits in (R347). -/
inductive MigStep where
  | read | srep | write | remap | back
deriving DecidableEq, Repr

/-- A migration job (R347). -/
structure Mig where
  bank : Nat
  row : Nat
  res : Resource
  bits : List (Nat × Nat) := []   -- its failing bits (R352)
  served : Served := .none    -- what served the row before
  step : MigStep := .read
  left : Nat := 32
  buf : Store Line := []
  differ : Bool := false
  past : Bool := false
  since : Nat := 0            -- cycle it started
deriving DecidableEq, Repr

/-- A row-activation tracker (R239). -/
structure Tracker where
  bank : Nat
  row : Nat
  count : Nat
deriving DecidableEq, Repr

/-- A pending neighbour refresh (R240). -/
structure Nref where
  bank : Nat
  row : Nat
  ticks : Nat := 0
  forced : Bool := false
deriving DecidableEq, Repr

/-- Refresh of a channel (R232 to R248). -/
structure Refr where
  did : List Nat := []        -- banks of the round in progress already refreshed
  win : Nat := 0              -- rounds of the refresh window
  behind : Bool := false      -- OWED was at OWED_MAX at the last tick
  slot : Nat := 0             -- rounds the open slot has taken
  slotN : Nat := 0            -- neighbour refreshes it has taken
  own : List Nat := []        -- banks the open slot owns until it ends (R55)
  open_ : Bool := false       -- the REFRESH slot of this frame has opened (R54)
  nrefs : List Nref := []     -- oldest first
  sat : Bool := false         -- SAT of this window
  table : List Tracker := []  -- lowest-numbered first, at most 160
  seen : Bool := false        -- a command train since the previous slot opened (R309)
  srx : Bool := false         -- SRX sent, T_XS not yet over
  srxAt : Nat := 0            -- cycle SRX was sent
  recover : Bool := false     -- the exit in progress enters recovery
  soft : Bool := false        -- soft repairs are to be reapplied in it (R349)
  wdog : Bool := false
  recent : List (Nat × Nat × Nat) := []   -- cycle, opcode and operand of the last REFB and NREF launched (R304)
deriving DecidableEq, Repr

/-- A takeover in progress (R205). -/
structure Swap where
  spare : Nat
  draining : Bool
  ordered : Bool := false     -- ordered by the repair controller (R353)
deriving DecidableEq, Repr

/-- A row passed to repair and waiting (R345). -/
structure BadRow where
  bank : Nat
  row : Nat
  bits : List (Nat × Nat) := []
deriving DecidableEq, Repr

/-- The march of a bank (R370, R372). -/
structure MarchBank where
  bank : Nat
  elem : Nat := 0             -- M0 to M5
  row : Nat := 0
  writing : Bool := false
  left : Nat := 32            -- lines the operation still waits for
  bits : List (Nat × Nat) := []   -- failing line and stored bit of the row read
  waiting : Bool := false     -- for the answer of an SREP
  fixed : List Nat := []      -- rows repaired
  lost : List Nat := []       -- rows that failed and found no repair
  todo : Option (List Nat) := none   -- the repeat: the rows repaired in the first pass
deriving DecidableEq, Repr

/-- One channel beyond its registers. -/
structure Chan where
  q : List Ent := []
  rr : Nat := 31              -- track granted last (R176)
  banks : Store Bank := []
  acts : List (Nat × Nat) := []     -- bank and cycle of the last four ACTs, newest first
  grp : Store Nat := []       -- bank group: earliest RDT after writes (T_WTR)
  dirW : Bool := false        -- direction of the last data train
  dEnd : Nat := 0             -- its last chip on the first segment, base count
  anyData : Bool := false
  cmdEnd : Nat := 0           -- chips: the command columns are free from here
  wins : List (Nat × Nat) := []     -- scheduled responses: first and last chip (R298)
  tid : Nat := 0              -- next TID in rotation
  out : List Train := []      -- trains awaiting delivery or acknowledgement
  prio : List Train := []     -- reissues, resends, marking writes, merge writes, jobs
  locks : List (Nat × Nat × Nat × Nat) := []   -- owner, bank, row, column (R199, R327)
  wait : Option (Nat × Nat × Bool) := none  -- the part the engine waits a fuller train for: entry, bank, write (R192)
  elig : List ((Nat × Nat × Bool) × Nat) := []   -- parts eligible without a break, with the first cycle of it
  fills : List Fill := []
  fillNo : Nat := 0
  rtList : List (Nat × Nat) := []   -- rows waiting for a retest
  rt : Option Retest := none
  rtGap : Nat := 0            -- frames until a retest may start (R337)
  gTicks : Nat := 0           -- frames since the ganger's last turn
  gDue : Bool := false        -- its group of this turn is not yet issued
  gOpen : Option Nat := none  -- cycle its slot opened
  scrub : Bool := false       -- the SCRUB slot of this frame has opened (R54)
  ccalDue : Nat := 0          -- CCAL exchanges that follow rounds (R238)
  mig : Option Mig := none
  migQ : List BadRow := []
  march : List MarchBank := []   -- banks whose march has not ended
  ref : Refr := {}
  failed : Nat := 0           -- consecutive reissues or resends without success (R304)
  path : Bool := false        -- path training or relay loss: siding reason 3
  resetting : Bool := false   -- BLOCK reset in progress (R204)
  swap : Option Swap := none
  test : Bool := false        -- held in test (R386)
  exited : Bool := false      -- has completed its exit from self-refresh in this start (R448)
  spent : Nat := 0            -- chips of data trains launched in this frame (R425)
  acts2 : Nat := 0            -- ACTs, lines and REFBs of this frame (R418)
  lines2 : Nat := 0
  refbs2 : Nat := 0
  ccal : Option Nat := none   -- the base-die chip at which the calibration exchange in progress ends (R238, R277)
  shut : List (Nat × Nat) := []     -- first chip of each launch on the data columns, and the chip its receivers open again (R254)
  cmdShut : List (Nat × Nat) := []  -- the same of the command columns
  ready : Nat := 0            -- no ACT and no host request before this cycle (R248)
  lastAt : Nat := 0           -- cycle of the last command train (R309)
  preDue : Bool := false      -- PRE to every bank waits for the bundle (R204)
  lastCmd : List (BitVec 48) := []  -- the command train launched last
  lastWr : List (BitVec 672) := []  -- the write train launched last
deriving DecidableEq, Repr

/-! ### Codec pool (R301) -/

/-- A line in the codec pool: its channel, the train it came in, its slot, and the codeword as received. -/
structure CodecJob where
  chan : Nat
  train : Train
  line : TLine
  code : BitVec 640
deriving DecidableEq, Repr

/-- The decoders and the queue of the pool; `held` are lines the engines hold. -/
structure Codec where
  busy : Store CodecJob := []
  queue : List CodecJob := []
  held : List CodecJob := []
  removed : List Nat := []    -- decoders to be replaced at the next tick (R354)
  bad : List Nat := []        -- decoders removed since the start
deriving DecidableEq, Repr

end Sys2Proof.Machine
end

