-- ==== Sys2Proof/Machine/StateLink.lean ====
section
/-! DEFINITION. The state of one track beyond its registers: lane receivers and transmitters, row framing, sessions, training, census, failover, sparing (03, 04, 05). -/
namespace Sys2Proof.Machine

/-- What one lane delivered in a row-time: the symbol, and whether it was a code violation or a disparity error (R73). -/
structure LaneSym where
  sym : Sym
  err : Bool
deriving DecidableEq, Repr

/-- One physical receive lane (R73, R77, R79, R81, R90, R98, R105, R110). -/
structure LaneRx where
  disp : Bool := false        -- running disparity, true positive
  free : Nat := 4             -- symbols still taken without a disparity check (R73)
  sig : Bool := false         -- signal in the last row-time
  succ : Nat := 0             -- successive header tests passed while hunting (R77)
  fail : Nat := 0             -- successive header tests failed while locked (R77)
  since : Nat := 0            -- rows since the previous header position; 0: no candidate yet
  lastSeq : Byte := 0         -- value at the previous expected position, lane 15 (R78)
  winErr : Nat := 0           -- symbol errors in the SPARE_CFG window (R90)
  calErr : Nat := 0           -- symbol errors in the calibration window (R81)
  trim : Option (Nat × Nat) := none          -- staged OFFSET, LEVEL (R82)
  eq : Option (Nat × Nat × Nat × Nat) := none -- staged CTLE, H1, H2, H3 (R84)
  still : Nat := 0            -- consecutive accepted windows that changed nothing (R110 phase 1)
  settled : Bool := false     -- phase 1 is finished on this lane in this attempt (R110)
  coms : Nat := 0             -- consecutive slots with COM at one boundary (R110 phase 2)
  comGap : Nat := 0           -- rows since the last of them
  unusable : Bool := false    -- unusable for this attempt (R111)
  hist : List LaneSym := []   -- the last 24 symbols, newest first: the deskew delay line (R79)
  set : List (BitVec 8) := [] -- bytes S2 on of the training set arriving, in order (R105)
  setRow : Nat := 0           -- symbols of it so far; 0: no set is arriving
  prbs : Nat := 0             -- the checker's register (R98)
  prbsSeed : Nat := 0         -- received bits in it while it seeds
  prbsRun : Nat := 0          -- error-free bits while the checker seeks sync
  prbsHist : Nat := 0         -- the last 256 compared bits in sync, 1 for an error, newest in bit 0
deriving DecidableEq, Repr

/-- One physical transmit lane (R72, R100). -/
structure LaneTx where
  disp : Bool := false
  on : Bool := false          -- the lane was driven with the code in the last row-time (R72)
  injLeft : Nat := 0          -- injections still to make
  injWait : Nat := 0          -- symbols until the next one
  prbs : Nat := 0             -- generator register; 0: not started (R98)
deriving DecidableEq, Repr

/-- A packet whose header has been taken and whose payload is arriving or waits for its header (R142, R169). -/
structure OpenPkt where
  pkt : Pkt                   -- header fields; `data` and `mask` still empty
  rows : List (BitVec 128) := []   -- payload rows so far, newest first
  left : Nat                  -- payload rows still to come
  accept : Bool := true       -- false: framed and dropped (duplicate, rejected, malformed unsequenced)
deriving DecidableEq, Repr

/-- A data row held back until the first block header after a stall has been tested (R169). -/
structure LateRow where
  row : BitVec 128
  errored : Bool
  first : Bool                -- the first data row of its block
deriving DecidableEq, Repr

/-- The lane management rows of one receive spare (R86, R87): rows 1 to 4 of this block and of the block before, the message accepted last. -/
structure SpareRows where
  cur : List (BitVec 8) := []
  prev : List (BitVec 8) := []
  last : List (BitVec 8) := []
deriving DecidableEq, Repr

/-- A training content being accepted page by page (R106): its type; by page, the copy received last, whether two slots brought it, the ACK and LAST bits. -/
structure SetPage where
  bytes : List (BitVec 8)
  twice : Bool := false
  ack : Bool
  last : Bool
deriving DecidableEq, Repr

/-- An accepted training content waiting for its command (R106). -/
structure SetIn where
  typ : Byte
  ack : Bool
  bytes : List (BitVec 8)
deriving DecidableEq, Repr

/-- How a receive direction takes rows (PKT_STATUS.RX_MODE). -/
inductive RxMode where
  | framed | resync | stalled
deriving DecidableEq, Repr

/-- Row framing of the receive direction of a track (R74, R142 to R151, R168 to R171). -/
structure RxFrame where
  mode : RxMode := .framed
  before : RxMode := .framed      -- the mode a stall interrupted
  row : Nat := 0                  -- rows of the block taken, header included
  blk : Byte := 0xFF              -- sequence of the block being received
  first : Bool := false           -- the next data row is the first of its block
  cur : Option OpenPkt := none
  crc : BitVec 24 := tailInit     -- tail lamp of the payload rows since the last header
  dupSeq : Option Byte := none    -- SEQ of the last sequenced header, when it was a duplicate
  nak : Bool := false             -- NAK is sent (R148)
  held : Bool := false            -- the open packet is held by a stall (R169)
  ticks : Nat := 0                -- ticks since the stall began
  limit : Nat := 0                -- PARTIAL_HOLD as the stall began
  drop : Nat := 0                 -- rows of a discarded packet still to drop (R171)
  noLamp : Bool := false          -- the next header's TAIL_LAMP is not checked (R171)
  wake : Nat := 0                 -- wake rows of an L1 exit received (R95)
  judge : Bool := false           -- a held packet waits for the first block header after the stall (R169)
  late : List LateRow := []       -- data rows since then, oldest first
  depth : Nat := 0                -- lateness of the latest lane once deskewed (R79)
  elastic : ElasticEv := .none    -- what the elastic buffer does with the next skip row (R76)
  m0 : SpareRows := {}            -- lane management rows on S0 (R86)
  m1 : SpareRows := {}            -- on S1
  mgmt : List (Byte × LaneMsg) := []  -- accepted lane management messages not yet acted on (R87)
  slotLeft : Nat := 0             -- training rows of a slot still to come (R107)
  pages : Store SetPage := []     -- pages accepted of the content arriving (R106)
  pageType : Byte := 0            -- its type
  sets : List SetIn := []         -- accepted contents not yet acted on, one a type
  inbox : List (Pkt × Nat) := []  -- accepted packets not yet performed, with their order numbers
deriving DecidableEq, Repr

/-- A response, bulletin or NUL waiting for transmission (R153, R165). -/
structure Resp where
  typ : BitVec 5
  tag : BitVec 14 := 0
  master : BitVec 6 := 0
  addr : BitVec 32 := 0
  data : List Unit32 := []
  ord : Nat := 0                  -- number of the request it closes; 0 for a bulletin
  crs : Bool := false             -- a CRS reaction waits for it (R409)
  bytes : Nat := 0                -- bytes of a graded request to count when sent (R222)
  write : Bool := false
deriving DecidableEq, Repr

/-- The marked NUL of a discarded packet (R166, R170). -/
structure Discard where
  tag : BitVec 14
  seq : Byte
  req : Nat
  data : Nat
deriving DecidableEq, Repr

/-- What the transmitter put on the lanes in its last row-time. -/
inductive TxKind where
  | idle | header | skip | eie | wake | train | data
deriving DecidableEq, Repr

/-- What a training slot carries, fixed at its first row (R105): type, page, ACK, LAST, the content. -/
structure SlotTx where
  typ : Byte
  page : Nat := 0
  ack : Bool := false
  last : Bool := true
  bytes : List Byte := []
deriving DecidableEq, Repr

/-- The row a transmitter sent last (R68, R71): its kind, its 16 bytes, the 18 symbols. -/
structure TxOut where
  kind : TxKind := .idle
  bytes : List Byte := []
  syms : List (BitVec 10) := []
deriving DecidableEq, Repr

/-- The transmitter of a track (R74, R122, R147 to R152, R167). -/
structure TxState where
  row : Nat := 0                  -- rows of the block sent, header included; 256: block complete
  blk : Byte := 0                 -- sequence of the block being sent, or next
  rows : List (BitVec 128) := []  -- remaining rows of the open packet
  tail : BitVec 24 := tailInit    -- tail lamp of payload rows since the last header
  lamp : Bool := false            -- a payload waits for its header (R141)
  replay : List Pkt := []         -- replay buffer, oldest first (R147)
  rep : Option Byte := none       -- a replay in progress: the next SEQ
  repWait : Bool := false         -- it waits for the first data row of a block (R149)
  guard : Option (Byte × Nat) := none  -- guard interval: n and blocks left (R149)
  ackBlk : Nat := 0               -- blocks since ACK_SEQ last advanced (R149)
  reps : Nat := 0                 -- consecutive replays without advance (R152)
  stalled : Bool := false         -- HL_REPLAY_STALL has been raised for this run
  marked : List Discard := []
  urg : List Resp := []           -- urgent bulletins to send on this track
  resp : List Resp := []          -- responses ready, oldest first
  late : List Resp := []          -- responses that wait for room in the buffer (R180)
  bul : List Resp := []           -- maskable bulletins taken by this track
  retReq : Nat := 0               -- pending request-class returns (R124)
  retData : Nat := 0              -- pending data returns
  retDue : Bool := false          -- a NUL is due for them
  retRows : Nat := 0              -- row-times a return has been pending (R124)
  ackDue : Bool := false          -- an acceptance not yet carried in a header (R146)
  respOut : Bool := false         -- rows of a response are being sent: it keeps its place of the buffer (R180)
  idle : Nat := 0                 -- blocks with nothing sent (R93)
  busy : Bool := false            -- something was sent in this block
  slotLeft : Nat := 0             -- rows of a training slot still to send (R104)
  slot : SlotTx := { typ := 0x11 }    -- the slot being sent
  leave : Bool := false           -- the host's direction has left L1 (R96)
  wake : Nat := 0                 -- wake rows still to send (R95)
  page : Nat := 0                 -- training page to send next
  slots : Nat := 0                -- training slots sent of the content
  finish : Bool := false          -- finishes its open packet before TS1 (R126)
  out : TxOut := {}
deriving DecidableEq, Repr

/-- A record of a sequence number: TXR, TXD, ISS at it (R127), or RTR, RTD, ACC at accepting it (R129). -/
structure CenRec where
  seq : Byte
  a : BitVec 32
  b : BitVec 32
  c : BitVec 32
deriving DecidableEq, Repr

/-- A request in the track request buffer (R123). -/
structure BufEnt where
  pkt : Pkt
  ord : Nat
  grade : Nat := 2                -- 0 G, 1 S, 2 B (R211)
  chan : Nat := 0                 -- where the decomposition in force at acceptance puts it (R451)
  lines : List LineJob := []
deriving DecidableEq, Repr

/-- The session of a track (R117 to R119, R127). SEQ and pool registers live in TRK[t]. -/
structure Session where
  grantReq : Nat := 0             -- request-class tablets granted to the host
  grantData : Nat := 0
  counts : CenCounts := {}
  txRec : List CenRec := []       -- newest first, at most 256
  rxRec : List CenRec := []
  buf : List BufEnt := []         -- track request buffer, oldest first
  carries : List Nat := []        -- tracks whose tag range is valid here by failover (R131)
  moved : Nat := 0                -- tags failover moved in, still to be closed by packets sent here
  gone : Bool := false            -- failover moved this track's session away; it has not been READY since (R131)
deriving DecidableEq, Repr

/-- A content to be sent in the training slots of a READY track (R104, R116, R128, R130): the announcement, a census round, the failover of track t. -/
inductive SetReq where
  | cap
  | cen
  | fov (t : Nat)
deriving DecidableEq, Repr

/-- Training of a track (R104 to R114). -/
structure Training where
  seeded : Bool := false
  ts2 : Nat := 0                  -- consecutive TS2 slots accepted
  deskewed : Bool := false
  mine : Bool := false            -- peer's content of the phase accepted (own ACK)
  rxMap : List Nat := []          -- proposed receive map (R113)
  txMap : List Nat := []          -- transmit map
  peerBad : Nat := 0              -- peer's TX-unusable mask
  lastRx : Option Byte := none    -- host's LAST_RX_SEQ of a RESUME (R119)
  reset : Nat := 0                -- RESET slots in a row (R109)
  hostTracks : Nat := 0           -- from CAP
  capFlags : Nat := 0             -- peer's CAP flags as sent: bit 1 L1, 2 failover, 3 census
  capUpdate : Bool := false       -- an UPDATE announcement is being sent (R116)
  capAnswered : Bool := false     -- the host answered it
  queue : List SetReq := []       -- contents to send while READY, oldest first
  set : List Byte := []           -- bytes of the content being sent while READY
  setType : Byte := 0             -- the type being sent
  l3 : Bool := false              -- training is an exit from L3
  fresh : Bool := false           -- this attempt has begun a FRESH session
  agreed : Bool := false          -- the lane maps agree; phase 7 is delayed (R119)
  rdy : Option Nat := none        -- the peer's RDY is accepted: RDY slots sent since (R110 phase 8)
  ticks : Nat := 0                -- ticks since the track went DOWN (R112)
deriving DecidableEq, Repr

/-- The census of a track (R128, R129). -/
structure Census where
  waiting : Bool := false         -- the host's CEN of the round is awaited
  cut : Option CenContent := none -- own content of the round
  ok : Bool := true               -- R125 held at the cut (R129 check 3)
  timeouts : Nat := 0             -- in a row
  ticks : Nat := 0                -- ticks since the round began (R128)
  blocks : Nat := 0               -- blocks since the content was sent last (R128)
  got : Option CenContent := none -- the host's content, waiting for its S_TX to be accepted (R129)
deriving DecidableEq, Repr

/-- Failover of a track (R130, R131): own FOV sent. -/
structure Failover where
  going : Bool := false
  sent : Bool := false            -- own FOV sent in whole
  got : Option Byte := none       -- the host's FOV accepted: its S_RX
deriving DecidableEq, Repr

/-- Sparing with the device as receiver Y (R88, R89). -/
structure SpareY where
  pos : Nat
  spare : Bool
  target : Byte
  tries : Nat := 0
  acked : Bool := false
  blocks : Nat := 0               -- blocks of the direction since the request (R88)
deriving DecidableEq, Repr

/-- Sparing with the device as transmitter X (R88). -/
structure SpareX where
  pos : Nat
  spare : Bool
  target : Byte
deriving DecidableEq, Repr

/-- One track beyond its registers. -/
structure Trk where
  lanesRx : Store LaneRx := []
  lanesTx : Store LaneTx := []
  rx : RxFrame := {}
  tx : TxState := {}
  ses : Session := {}
  trn : Training := {}
  cen : Census := {}
  fov : Failover := {}
  spY : Option SpareY := none
  spX : Option SpareX := none             -- accepted and acknowledged, block T not yet reached
  rej : Option LaneMsg := none            -- the REQ answered REJ, while the peer still sends it (R88)
  retireRx : List (Nat × Byte) := []      -- physical lanes to mark retired after a block (R88)
  retireTx : List (Nat × Byte) := []
  errTicks : Nat := 0                     -- ticks of the SPARE_CFG window (R90)
  trained : Bool := false                 -- it has been READY in this start (R356)
  cntClr : Bool := false                  -- lane counters cleared at the next tick (R101)
deriving DecidableEq, Repr

/-- A tag of an accepted request whose response has not been sent for the first time (R158). `ord` numbers accepted requests in order. -/
structure OpenTag where
  ord : Nat
  tag : BitVec 14
  track : Nat
  master : BitVec 6
  zero : Bool := false        -- a LEN 0 memory request: outside every fence (R160)
  eff : Bool := false         -- has taken effect, or was answered without effect (R164)
  dead : Bool := false        -- its session has ended: the response will be dropped (R118)
  void : Bool := false        -- the pools its tablets came from are closed (R118, R131)
  fen : Bool := false
  dup : Bool := false         -- its tag was open when it was accepted (R158, reason 0x04)
deriving DecidableEq, Repr

end Sys2Proof.Machine
end

