-- ==== Sys2Proof/Machine/StateStack.lean ====
section
/-! DEFINITION. The state of the stack-wide blocks beyond their registers: vertical interface, bandwidth regulator, repair, self-test, heat and power, starts and power states, non-volatile memory (07, 09, 10, 12, 13, 15, 16, 17). -/
namespace Sys2Proof.Machine

/-- A gear or spare switch that waits for its frame (R274, R305). -/
structure Switch where
  col : Nat
  gear : Nat := 0             -- new gear; 0 for a spare switch
  spare : Nat := 0            -- spare column taking over
  frame : Nat                 -- effective frame F
  due : List (Nat × Nat) := []    -- far ends (layer − 1, word address) that have not acknowledged
  acked : List (Nat × Nat) := []
  cancel : Bool := false      -- cancelled; `due` are cancellations not confirmed
deriving DecidableEq, Repr

/-- One bundle beyond its COL registers (R266, R272 to R279, R305, R306). -/
structure Bund where
  up : Bool := false          -- trained: trains may launch
  sw : List Switch := []
  plan : Nat := 0             -- next entry of the calibration plan
  retune : Nat := 0           -- retune entries still to take
  good : Store Nat := []      -- good windows of a column
  nc : Store Nat := []        -- chips counted by the base die
  nd : Store Nat := []
  vote : Store Int := []      -- net edge votes
  ph : Store Nat := []        -- staged PH
  dly : Store Nat := []       -- staged DLY
  coll : Store Nat := []      -- captures and collisions of this window
  serves : Store Nat := []    -- spare column: the column it serves
  erased : List Nat := []
  exch : Bool := false        -- a calibration exchange is out
  isRetune : Bool := false    -- it takes a retune entry
  calSent : List Nat := []    -- columns it was launched on (R276, R277)
  win : Nat := 0              -- frames of the gear window (R273)
deriving DecidableEq, Repr

/-- A vertical training (R280): its segments one after another, each through phases V1 to V5. -/
structure VTrain where
  seg : Nat                   -- 0 to 3
  phase : Nat := 1            -- V1 to V5
  last : Nat                  -- its last segment
  bundles : List Nat
  block : Option Nat := none  -- the quadrant whose BLOCK reset it is (R283)
  cold : Bool := false        -- full search ranges; V4 sets BASE and the witness references (R280, R284, R421)
  start : Bool := false       -- it is the training of stage B2
  known : Bool := false       -- V1 and V2 are behind every segment (R479)
  relay : Bool := false       -- it follows relay loss (R313)
deriving DecidableEq, Repr

/-- What a configuration command is for. -/
inductive CfgUse where
  | switch (b col spare : Nat)
  | cancel (b col spare : Nat)
  | srep (c : Nat)
  | soft (c kind bank row : Nat)
  | hrep (l : Nat)
  | crst (l : Nat)
  | ident (l : Nat)
  | relay (h : Nat)
  | timing (c : Nat)
  | temp (l : Nat)
  | gains (l : Nat)
  | cols (l : Nat)
  | other
deriving DecidableEq, Repr

/-- A configuration command awaiting its answer (R294, R297). -/
structure CfgCmd where
  op : Nat
  bundle : Nat
  layer : Nat                 -- l − 1
  addr : Nat := 0
  count : Nat := 0
  val : Nat := 0
  use : CfgUse
  words : List (Nat × Nat) := []  -- as sent, to be sent again
  tries : Nat := 0
  head : Bool := false        -- its CFGH has arrived
  got : List Nat := []
deriving DecidableEq, Repr

/-- The vertical interface as a whole. -/
structure Vert where
  bund : Store Bund := []
  trains : List VTrain := []  -- the first runs, the others wait
  cfg : List CfgCmd := []
  relayLost : List Nat := []  -- junctions in declared relay loss
  misses : Store Nat := []    -- undelivered trains in a row by junction (R313)
  alarms : Store Nat := []    -- last alarm number accepted from a layer, plus 1
  hot : List Nat := []        -- layers with an alarm 0x01 not yet polled (R417)
  crst : List Nat := []       -- layers in a CORE reset
  blk : List Nat := []        -- quadrants in a BLOCK reset (R283)
  sites : Store Nat := []     -- spine-site words of segments 2 to 4 that differ from 0x688 (R306)
  coll : Store Nat := []      -- frames of a quadrant's collision window (R266)
  pllLost : List Nat := []    -- quadrants whose chip PLL has lost lock (R286)
deriving DecidableEq, Repr

/-- The bandwidth regulator (R211 to R218). Keys are 2 × master + direction. -/
structure Bwr where
  gb : Store Int := []
  sb : Store Int := []
  hit : List Nat := []
  d : Nat × Nat := (0, 0)     -- D[RD], D[WR] of the frame
  due : Nat × Nat := (0, 0)   -- D from the inputs at cycle offset 0, for the ACCOUNT slot
  fill : Bool := true         -- the buckets start full at the next tick
  ticks : Nat := 0
  last : Bool × Bool := (false, false)   -- the previous window counted a deficit
  acct : Bool := false        -- the ACCOUNT slot of the frame is done
deriving DecidableEq, Repr

/-- A repair entry (R358, R480). -/
structure RepEnt where
  kind : Nat
  state : Nat := 0
  fails : Nat := 0
  unit : Nat := 0
  bank : Nat := 0
  row : Nat := 0
  res : Nat := 0
  data : Nat := 0
deriving DecidableEq, Repr

/-- An uncommitted delta (R359): set or remove. -/
structure Delta where
  ent : RepEnt
  remove : Bool := false
  seq : Nat
  since : Nat := 0            -- tick at which it was made
deriving DecidableEq, Repr

/-- The repair controller (R349, R352, R359). -/
structure Rep where
  copy : List RepEnt := []
  deltas : List Delta := []
  hist : List (Nat × Nat × List (List Nat)) := []   -- channel, bank, failing groups of the last rows
  low : List (Nat × Nat) := []   -- banks whose REP_BUDGET_LOW has been raised
  hreps : List (Nat × RepEnt) := []  -- layer: the entry being fused
  fuseGo : Bool := false
  tried : List RepEnt := []      -- entries whose one try of this start is used
  late : Nat := 3                -- tolerated REFB lateness (R473)
  groups : Store Nat := []       -- SPARE_GROUPS by layer
  engines : List Nat := []       -- engines replaced after a fault of their own (R205)
  first : Option Nat := none     -- SSEQ of the sector that holds the oldest uncommitted delta
  hrepAt : Store Nat := []       -- tick at which a layer's HREP was sent (R349)
deriving DecidableEq, Repr

/-- The seal (R378). -/
structure Seal where
  state : Nat := 0xFF
  kind : Nat := 0
  layers : Nat := 0
  abort : Nat := 0
  steps : Nat := 0
  stepEnd : Nat := 0
  sig : Nat := 0
  expect : Nat := 0
  stack : Nat := 0
  imageCrc : Nat := 0
  gen : Nat := 0
  failRows : Nat := 0
  unrep : Nat := 0
  logic : Nat := 0
  loop : Nat := 0
deriving DecidableEq, Repr

/-- The explicit channel test (R387). -/
structure ChTest where
  chan : Nat
  bank : Nat := 0
  row : Nat := 0
  ending : Bool := false      -- aborted, its retest still ending
deriving DecidableEq, Repr

/-- Self-test (R367 to R388). -/
structure Bst where
  cur : Seal := {}
  valid : Bool := false       -- a SEAL record with a valid CRC-32 exists
  kind : Nat := 0             -- 1 shutdown test, 2 start-up test running
  layers : Nat := 0
  retried : Bool := false
  waiting : Bool := false     -- the retry waits 10 ms
  begun : Bool := false       -- part 1 has begun
  unrep : Nat := 0
  awake : List Nat := []      -- channels that failed self-refresh entry in part 4 (R244, R373)
  ch : Option ChTest := none
  imageCrc : Nat := 0
deriving DecidableEq, Repr

/-- One layer of the thermal monitor (R417 to R424). -/
structure ThmLayer where
  model : Int := 0            -- T[l] in 1/4,096,000 °C
  bad : Store Nat := []       -- polls in a row that found a sensor invalid
  badSeen : List Nat := []
  run : Nat := 0              -- frames of an onset or clearing run
  level : Nat := 0            -- layer level k
  eff : Nat := 2              -- effective level staged
  hot : Bool := false         -- T4 requested by R230
  polled : Bool := false
  lost : Bool := false        -- REF_TEMP_INVALID raised
  everValid : Bool := false
  rate : Nat := 2             -- LAYER_RATE code staged
  means : Option (List Nat) := none       -- MEAN of the eight sampled columns, of the poll in progress (R420)
  act : Nat × Nat × Nat := (0, 0, 0)      -- ACTs, lines and REFBs of the frame just ended (R418)
deriving DecidableEq, Repr

/-- The thermal monitor. -/
structure Thm where
  layers : Store ThmLayer := []
  next : Nat := 0             -- rotation of the poll, l − 1
  started : Bool := false     -- the model has started (R419)
  baseSeen : List Nat := []   -- base sensors reported invalid
  base : Nat := 0             -- base level
  done : Bool := false        -- the TELEMETRY slot of the frame is done
deriving DecidableEq, Repr

/-- An AVSBus operation in progress or to repeat (R428 to R430). -/
inductive AvsOp where
  | write (v : Nat) (low : Bool := false) | readV | current | status
deriving DecidableEq, Repr

/-- Power control beyond its registers. -/
structure Pwr where
  avs : Option AvsOp := none
  again : Bool := false       -- the operation in progress repeats a failed one
  queue : List AvsOp := []    -- operations waiting for the bus
  retry : Option AvsOp := none
  fails : Nat := 0
  loopAt : Nat := 0           -- tick at which the loop last ran (R429)
  retryAt : Nat := 0          -- tick of the failure to be repeated (R430)
  stopAt : Nat := 0           -- tick at which the loop stopped (R430)
  currAt : Nat := 0           -- tick of the last current read (R428)
  vddcOut : Nat := 0          -- frames VDDC has been out of range
  vddcIn : Nat := 0
  vddcSeen : Bool := false
  holdLow : Nat := 0
  holdSeen : Bool := false
  holdOk : Nat := 0
deriving DecidableEq, Repr

/-- A HOLD in progress (R435, R436). -/
structure Hold where
  rail : Nat
  sample : Nat := 0
  buf : List (BitVec 8) := []
  slot : Option Nat := none
  page : Option Nat := none   -- page being programmed
  ended : Bool := false
deriving DecidableEq, Repr

/-- A configuration chosen at B4 (R362). -/
structure Member where
  n : Nat := 1
  p : Nat := 16
  used : List Nat := []       -- layers, ascending
deriving DecidableEq, Repr

/-- Starts and widening (R442 to R451). -/
structure Start where
  warm : Bool := false
  running : Bool := false     -- a start is in progress
  held : Bool := false        -- RESET_N low, or the 10 µs of a CHIP reset
  begun : Bool := false       -- the work of the stage in progress has begun
  chip : Bool := false        -- those 10 µs run
  b0 : Bool := false          -- the core clock runs
  b2 : Bool := false          -- B2 has ended
  b5 : Bool := false          -- pilot tracks train
  b6 : Bool := false          -- B6 has ended
  slow : Bool := false
  again : Bool := false       -- it follows a PIN or CHIP reset (R242)
  pilot : Nat := 0            -- pilot layer; 0 none
  pilotP : Nat := 16
  pilotDead : Store Nat := [] -- REP.PAIRS.RETIRED of the pilot's channels as B2 ended (R34, R446)
  conf : Member := {}
  prev : Option Member := none
  eff : Option Nat := none    -- effective frame of a pending announcement
  go : Bool := false          -- WIDEN_GO written
  retired : Bool := false     -- this start applied retirements
  stack : Nat := 0            -- stack ID of this start's discovery (R380)
  calStack : Option Nat := none   -- stack ID of the governing CAL copy (R479)
  tracksGo : List Nat := []   -- pilot tracks
  dies : List (Nat × Nat) := []   -- core dies the DEV record accepts: VENDOR, DEVICE
  told : Bool := false        -- the first tick of this start has reported the hold-up save (R437)
deriving DecidableEq, Repr

/-- Entry to PARK (R458). -/
inductive ParkStep where
  | none | drain | test | sleep | commit
deriving DecidableEq, Repr

/-- PARK and NAP (R457 to R462). -/
structure Park where
  step : ParkStep := .none
  ready : List Nat := []      -- tracks READY at entry
  idle : Nat := 0             -- frames without a request
  since : Nat := 0            -- FRAME at entry
  ticks : Nat := 0            -- ticks since the request (R458)
  woken : Bool := false       -- the channels of an exit have been sent SRX (R462)
  asleep : List Nat := []     -- channels whose self-refresh entry has ended well
  awake : List Nat := []      -- channels that failed it and stay on REFB (R460)
deriving DecidableEq, Repr

/-- A flash operation (R488). -/
inductive NvmKind where
  | sealWr (state : Nat)
  | journal | jrnHead | jrnErase
  | rep
  | cal
  | slot (i : Nat)
  | winRead | winProg | winErase
deriving DecidableEq, Repr

/-- An operation waiting or in progress: steps done, steps in all. -/
structure NvmOp where
  kind : NvmKind
  step : Nat := 0
  steps : Nat := 1
  retried : Bool := false
  erases : Nat := 0           -- of these, sector erases, done first
  copyB : Bool := false       -- the copy a commit writes
  upto : Nat := 0             -- deltas a REP commit includes
  paid : Bool := false        -- its wear credit is charged
deriving DecidableEq, Repr

/-- A journal entry waiting (R484): kind, argument, timestamp, payload. -/
structure JEntry where
  kind : Nat
  arg : Nat := 0
  time : Nat := 0
  payload : Nat := 0          -- 16 bytes, little-endian
deriving DecidableEq, Repr

/-- The NVM controller. -/
structure Nvm where
  cur : Option NvmOp := none
  ops : List NvmOp := []
  jrn : List JEntry := []     -- at most 32
  jseq : Nat := 0
  sseq : Nat := 0
  deferred : List Nat := []   -- areas whose NVM_WEAR has been raised
  slots : List Nat := []      -- started HOLD slots, HSEQ order
  slotData : Store (List (BitVec 8)) := []   -- their contents as read (R487)
  copied : Nat := 0           -- chunks of the first of them already in journal entries
  desig : Option Nat := none  -- the designated slot (R487)
  hseq : Nat := 0
  repA : Option Nat := none   -- GEN of the valid copies
  repB : Option Nat := none
  calA : Option Nat := none
  calB : Option Nat := none
  cold : Bool := false
  lastJrn : Option JEntry := none   -- programmed last
  ahead : Bool := true        -- an erased sector waits ahead of the journal head
  sealPos : Nat := 0          -- next 128-byte position of the SEAL ring
  loaded : Bool := false      -- the stores have been read since the POR (R474, R485)
  cal : List (BitVec 8) := [] -- body of the governing CAL copy, as read (R478)
  wearAt : Nat := 0           -- tick up to which wear credit has accrued (R489)
  calAt : Nat := 0            -- tick at which CAL_PERIOD last ran out (R479)
  ageAt : Nat := 0            -- tick at which the seal's age was last marked (R382)
deriving DecidableEq, Repr

/-- The wrapper instructions (R389). -/
inductive Wir where
  | bypass | extest | preload | dieId | regAcc
deriving DecidableEq, Repr

/-- The IEEE 1500 wrapper (R389 to R391). -/
structure Wrap where
  wir : Wir := .bypass
  wbr : BitVec 17 := 0
  bumps : Option (BitVec 17) := none   -- driven by WS_EXTEST
  cap : BitVec 64 := 0        -- data register as captured
  result : Option (BitVec 64) := none  -- REG_ACC result not yet captured
  edge : Option Nat := none   -- core cycle of the last WRCK edge seen (TT.CLK_RUN)
deriving DecidableEq, Repr

/-- Valid map beyond its registers (R330 to R334, R355): the map as bytes, byte k holding wagons 8k to 8k + 7. -/
structure VMap where
  mem : Store (BitVec 8) := []
  clear : Bool := false
  spareRows : Store Nat := []  -- map row: spare row
  moving : Store Nat := []     -- map row: spare row it is copied to, in use from the next tick (R355)
  once : List Nat := []        -- words corrected and rewritten
deriving DecidableEq, Repr

end Sys2Proof.Machine
end

