-- ==== Sys2Proof/Machine/State.lean ====
section
/-! DEFINITION. The state of the CS16X: its register fields, and everything it holds that no register shows. -/
namespace Sys2Proof.Machine

/-- Faults of the model: none. The spec's own faults are sources recorded in the FLT block; no command stops the block. -/
inductive Fault where
deriving DecidableEq, Repr

/-- Refusals: `notModelled` is raised by an arm of exec whose command has no meaning yet (safe: nothing is claimed about it). -/
inductive Refusal where
  | notModelled (mnemonic : String)
deriving DecidableEq, Repr

/-- Where an event happened, for capture and bulletins (R399 to R401, R406). -/
structure FaultInfo where
  access : Nat := 0                            -- Table Access types
  req : Option (Nat × Nat × Nat) := none       -- track, master, tag
  haddr : Option Nat := none                   -- host byte address
  loc : Option (Nat × Nat × Nat × Nat × Nat) := none  -- channel, layer, bank, row, column
  detail : Nat := 0
deriving DecidableEq, Repr

/-- A bulletin record (R406). -/
structure BulRec where
  src : Src
  cls : Nat
  urgent : Bool
  held : Bool
  esc : Bool
  info : FaultInfo
  time : Nat
  folded : Nat
  crs : Bool := false
deriving DecidableEq, Repr

/-- A source within its hold-off: frames left and the folded bulletin waiting (R407). -/
structure HoldOff where
  src : Src
  left : Nat
  next : Option BulRec := none
deriving DecidableEq, Repr

/-- A CRS reaction pending (R409). -/
structure CrsPend where
  ticks : Nat := 0
deriving DecidableEq, Repr

/-- The signal box beyond its registers (14). -/
structure Box where
  bul : List BulRec := []             -- maskable bulletins queued, at most 24
  urg : List BulRec := []             -- urgent bulletins queued, at most 8
  hold : List HoldOff := []
  brs : List (BrsKind × Nat × Nat) := []   -- BRS count of an instance in this window
  brsTicks : Nat := 0
  crs : Option CrsPend := none
  errLow : Bool := false              -- ERR_N pulled low
  errMin : Bool := false              -- its 10 us minimum runs
  capAt : Store Nat := []             -- core cycle in which a record was written (R399)
  locked : List Nat := []             -- REACT entries refusing writes (R413)
  esc : List Nat := []                -- sources pending by an escalated event (R405)
deriving DecidableEq, Repr

/-- A staged register value: key, unlisted reading, value (R63). -/
structure Staged where
  key : Nat
  dflt : Nat
  val : Nat
deriving DecidableEq, Repr

/-- The register fabric beyond the fields (18). -/
structure Fabric where
  staged : List Staged := []          -- written while TT.STAGE.HOLD was 1 (R63)
  ready : List Staged := []           -- written, or released from HOLD, for the next tick (R63)
  later : List Staged := []           -- values the device itself changes at the next tick
  locks : List Nat := []              -- fields locked by image entries (R475, R502)
  spent : List Nat := []              -- WO1 fields spent (R503)
  copies : Store (Nat × Nat × Nat) := []   -- +T fields by key whose three copies differ; of every other field they hold its value (R506)
  snp : Store Nat := []               -- the snapshot (R509), by field key
  rdLatch : Option (Nat × Nat) := none     -- port read latch: register address, high half (R511)
  wrLatch : Option (Nat × Nat) := none     -- port write latch: register address, low half
  frameLoad : Bool := false           -- a FRAME_LOAD value waits for its tick (R53)
  ucHold : Bool := false              -- R508 containment of the address map
  trefiHold : List Nat := []          -- fields refusing writes after R508
deriving DecidableEq, Repr

/-- The pins (19). -/
structure Pins where
  pwrGood : Bool := false
  resetN : Bool := true
  refclk : Bool := true
  thermLow : Bool := false
deriving DecidableEq, Repr

/-- The whole block. `pending` is the queue of commands, front first. -/
structure State where
  pending : List Instr := []
  regs : Store Nat := []              -- register fields by key; unlisted: the field's reset value
  fab : Fabric := {}
  box : Box := {}
  pins : Pins := {}
  trks : Store Trk := []
  tags : List OpenTag := []
  ord : Nat := 0                      -- requests accepted so far
  cenTicks : Nat := 0                 -- ticks since the last census interval ended (R50, R128)
  ticks : Nat := 0                    -- ticks since the POR: the device's own tick counter (R50)
  resetting : Bool := true            -- a POR, PIN or CHIP reset is in progress (R411)
  chans : Store Chan := []
  codec : Codec := {}
  vert : Vert := {}
  bwr : Bwr := {}
  vmap : VMap := {}
  rep : Rep := {}
  bst : Bst := {}
  thm : Thm := {}
  pwr : Pwr := {}
  hold : Option Hold := none
  start : Start := {}
  park : Park := {}
  nvm : Nvm := {}
  wrap : Wrap := {}
  cc : Nat := 0                       -- core cycles since frame 0
  free : Nat := 0                     -- free values used (the model's own)
deriving DecidableEq, Repr

/-- The machine right after reset: every field at its reset value, no power yet; PWR_GOOD_RISE begins the POR start. -/
def State.reset : State := {}

end Sys2Proof.Machine
end

