-- ==== Sys2Proof/Machine/Ops.lean ====
section
/-! DEFINITION. The named operations over State: reading and writing register fields, finding a field by its address (R495), the reset kinds (R13 to R17), time (R45), tracks, free values. -/
namespace Sys2Proof.Machine

/-- What a meaning answers. -/
abbrev Out := Host.Outcome State Fault Refusal

/-! ### Register fields -/

/-- The value of a field at instance i, index j. -/
def State.fld (s : State) (f : Field) (i : Nat := 0) (j : Nat := 0) : Nat :=
  Store.get s.regs (f.key i j) (f.reset i j)

/-- Write a field, truncated to its width. -/
def State.setFld (s : State) (f : Field) (v : Nat) (i : Nat := 0) (j : Nat := 0) : State :=
  { s with regs := Store.set s.regs (f.key i j) (f.reset i j) (v % 2 ^ f.width) }

/-- A field takes a value at the next tick (R62). -/
def State.atTick (s : State) (f : Field) (v : Nat) (i : Nat := 0) (j : Nat := 0) : State :=
  { s with fab := { s.fab with later := s.fab.later ++ [{ key := f.key i j, dflt := f.reset i j, val := v % 2 ^ f.width }] } }

/-- A one-bit field as a Bool. -/
def State.flag (s : State) (f : Field) (i : Nat := 0) (j : Nat := 0) : Bool := s.fld f i j != 0

/-- Set a one-bit field. -/
def State.setFlag (s : State) (f : Field) (b : Bool) (i : Nat := 0) (j : Nat := 0) : State :=
  s.setFld f (b2n b) i j

/-- The power states GLB.STATE.STATE reads (R466). -/
inductive PowerState where
  | run | nap | entering | park | bringup | leaving
deriving DecidableEq, Repr

/-- The code of a power state (R466, table GLB.STATE). -/
def PowerState.code : PowerState → Nat
  | .run => 0 | .nap => 1 | .entering => 2 | .park => 3 | .bringup => 4 | .leaving => 5

/-- Whether the device is in a power state. -/
def State.inState (s : State) (p : PowerState) : Bool := s.fld Fld.GLB_STATE_STATE = p.code

/-- Add n to a counter field, saturating at its maximum; a counter frozen in PARK stands still there (R101). -/
def State.bump (s : State) (f : Field) (i : Nat := 0) (j : Nat := 0) (n : Nat := 1) : State :=
  if f.frozen ∧ s.inState .park then s
  else s.setFld f (min (s.fld f i j + n) (2 ^ f.width - 1)) i j

/-- Put a register field back to its reset value. -/
def State.clrFld (s : State) (f : Field) (i : Nat := 0) (j : Nat := 0) : State :=
  { s with regs := Store.del s.regs (f.key i j) }

/-! ### Finding fields by address (R495) -/

/-- The fields of a block. -/
def fieldsOf : Blk → List Field
  | .glb => fieldsOfGlb | .tt => fieldsOfTt | .trk => fieldsOfTrk | .hlc => fieldsOfHlc
  | .chn => fieldsOfChn | .bwr => fieldsOfBwr | .ref => fieldsOfRef | .vlq => fieldsOfVlq
  | .lay => fieldsOfLay | .int => fieldsOfInt | .rep => fieldsOfRep | .bst => fieldsOfBst
  | .flt => fieldsOfFlt | .thm => fieldsOfThm | .pwr => fieldsOfPwr | .nvm => fieldsOfNvm

/-- The blocks in address order. -/
def blkList : List Blk :=
  [.glb, .tt, .trk, .hlc, .chn, .bwr, .ref, .vlq, .lay, .int, .rep, .bst, .flt, .thm, .pwr, .nvm]

/-- The block, instance and offset a byte address falls in (R495); none where the range is reserved. -/
def blkOf (a : Nat) : Option (Blk × Nat × Nat) :=
  (blkList.find? fun b => b.base ≤ a ∧ a < b.base + b.span * b.count).map fun b =>
    (b, (a - b.base) / b.span, (a - b.base) % b.span)

/-- The index of a field's array whose register starts at an offset of its block, if one does. -/
def Field.indexAt (f : Field) (off : Nat) : Option Nat :=
  if f.jcnt = 1 then (if off = f.off then some 0 else none)
  else if f.off ≤ off ∧ (off - f.off) % f.jstr = 0 ∧ f.jmin ≤ (off - f.off) / f.jstr ∧ (off - f.off) / f.jstr < f.jcnt then
    some ((off - f.off) / f.jstr)
  else none

/-- A field of a register, with its instance and index. -/
structure FieldAt where
  f : Field
  i : Nat
  j : Nat

/-- Every field of the register that starts at a byte address; empty where none does. -/
def fieldsAt (a : Nat) : List FieldAt :=
  match blkOf a with
  | none => []
  | some (b, i, off) => (fieldsOf b).filterMap fun f =>
      if i < f.icnt then (f.indexAt off).map fun j => { f := f, i := i, j := j } else none

/-- The field a key names. -/
def fieldOfKey (k : Nat) : Option FieldAt := (fieldsAt (k / 64)).find? fun x => x.f.lo = k % 64

/-! ### Reset kinds (R13 to R17) -/

/-- The reset kinds and the PARK state, as bits of a Kept-by mask (R14). -/
inductive ResetKind where
  | por | pin | chip | link | block | core | park
deriving DecidableEq, Repr

/-- The bit of a kind in a Kept-by mask. -/
def ResetKind.bitNo : ResetKind → Nat
  | .por => 0 | .pin => 1 | .chip => 2 | .link => 3 | .block => 4 | .core => 5 | .park => 6

/-- Whether a field survives a reset of a kind (R14). -/
def Field.keeps (f : Field) (k : ResetKind) : Bool := f.kept.testBit k.bitNo

/-- Reset the register fields in scope that the kind does not keep; `scope` says which byte addresses the reset reaches (R17). -/
def State.resetRegs (s : State) (k : ResetKind) (scope : Nat → Bool) : State :=
  { s with regs := s.regs.filter fun e =>
      !(scope (e.1 / 64)) || (match fieldOfKey e.1 with
        | some x => x.f.keeps k
        | none => false) }

/-- The addresses of one instance of a block (R17). -/
def inBlk (b : Blk) (i : Nat) (a : Nat) : Bool := b.base + b.span * i ≤ a && a < b.base + b.span * (i + 1)

/-- Reset one instance of a block (R17). -/
def State.resetBlk (s : State) (k : ResetKind) (b : Blk) (i : Nat := 0) : State :=
  s.resetRegs k (inBlk b i)

/-! ### Time (R45) -/

/-- The timestamp: FRAME in bits 58:11, CYCLE in bits 10:0 (R45). -/
def State.stamp (s : State) : Nat := s.fld Fld.TT_TIME_FRAME * 2048 + s.fld Fld.TT_TIME_CYCLE

/-! ### Tracks -/

/-- Track t beyond its registers. -/
def State.trk (s : State) (t : Nat) : Trk := Store.get s.trks t {}

/-- Replace track t. -/
def State.setTrk (s : State) (t : Nat) (x : Trk) : State := { s with trks := Store.set s.trks t {} x }

/-- Change track t. -/
def State.modTrk (s : State) (t : Nat) (g : Trk → Trk) : State := s.setTrk t (g (s.trk t))

/-- Change the transmitter of track t. -/
def State.modTx (s : State) (t : Nat) (g : TxState → TxState) : State :=
  s.modTrk t fun x => { x with tx := g x.tx }

/-- Change the framing of track t. -/
def State.modRx (s : State) (t : Nat) (g : RxFrame → RxFrame) : State :=
  s.modTrk t fun x => { x with rx := g x.rx }

/-- Change the session of track t. -/
def State.modSes (s : State) (t : Nat) (g : Session → Session) : State :=
  s.modTrk t fun x => { x with ses := g x.ses }

/-- Change the training of track t. -/
def State.modTrn (s : State) (t : Nat) (g : Training → Training) : State :=
  s.modTrk t fun x => { x with trn := g x.trn }

/-- Training states TRAIN_STATUS.STATE reads. -/
inductive LinkState where
  | disabled | training | ready | down
deriving DecidableEq, Repr

/-- The code of a link state (table TRK[t].TRAIN_STATUS). -/
def LinkState.code : LinkState → Nat
  | .disabled => 0 | .training => 1 | .ready => 2 | .down => 3

/-- Whether track t is in a link state. -/
def State.linkIs (s : State) (t : Nat) (l : LinkState) : Bool := s.fld Fld.TRK_TRAIN_STATUS_STATE t = l.code

/-- The tracks READY, ascending (HLC.READY). -/
def State.readyTracks (s : State) : List Nat := (List.range 32).filter fun t => s.linkIs t .ready

/-! ### Free values -/

/-- A free number below n and the state that has used it (log entry 4). -/
def State.freeBelow (s : State) (n : Nat) : Nat × State :=
  (Config.freeNat s.free % n, { s with free := s.free + 1 })

/-- A quotient the spec writes without saying how it rounds below zero: exact where it is whole or not negative, else the lower or the higher neighbour, free (log entry 9). -/
def State.divFree (s : State) (a : Int) (n : Nat) : Int × State :=
  if a ≥ 0 ∨ a % n = 0 then (a / n, s)
  else (a / n + (if Config.freeBit s.free then 1 else 0), { s with free := s.free + 1 })

/-- Put an element into a sorted list, ahead of its equals. -/
def insertBy {α : Type} (le : α → α → Bool) (x : α) : List α → List α
  | [] => [x]
  | y :: l => if le x y then x :: y :: l else y :: insertBy le x l

/-- Sort a list by an order, equals kept as they stand. -/
def sortBy {α : Type} (le : α → α → Bool) (l : List α) : List α := l.foldr (insertBy le) []

/-- Replace an element of a list. -/
def listSet {α : Type} : List α → Nat → α → List α
  | [], _, _ => []
  | _ :: l, 0, x => x :: l
  | a :: l, n + 1, x => a :: listSet l n x

/-- Fold an operation over 0 to n − 1. -/
def State.upTo (s : State) (n : Nat) (g : Nat → State → State) : State :=
  (List.range n).foldl (fun s i => g i s) s

/-- Apply an operation when a condition holds. -/
def State.when (s : State) (b : Bool) (g : State → State) : State := if b then g s else s

end Sys2Proof.Machine
end

