-- ==== Sys2Proof/Machine/Operands.lean ====
section
/-! DEFINITION. Operand forms of memory commands: channels and bundles by number, the address decomposition of R33 and R363, the valid map (R330), the repair map an ACT goes through (R346), the columns that serve a bundle (R305). -/
namespace Sys2Proof.Machine

/-! ### Channels and bundles -/

/-- Channel c beyond its registers. -/
def State.chan (s : State) (c : Nat) : Chan := Store.get s.chans c {}

/-- Replace channel c. -/
def State.setChan (s : State) (c : Nat) (x : Chan) : State := { s with chans := Store.set s.chans c {} x }

/-- Change channel c. -/
def State.modChan (s : State) (c : Nat) (g : Chan → Chan) : State := s.setChan c (g (s.chan c))

/-- Hold a channel in test, or let it go; STATUS.TEST shows it (R386). -/
def State.setTest (s : State) (c : Nat) (b : Bool) : State :=
  (s.modChan c fun x => { x with test := b }).setFlag Fld.CHN_STATUS_TEST b c

/-- Change the refresh state of channel c. -/
def State.modRef (s : State) (c : Nat) (g : Refr → Refr) : State :=
  s.modChan c fun x => { x with ref := g x.ref }

/-- Bundle b beyond its COL registers. -/
def State.bund (s : State) (b : Nat) : Bund := Store.get s.vert.bund b {}

/-- Change bundle b. -/
def State.modBund (s : State) (b : Nat) (g : Bund → Bund) : State :=
  { s with vert := { s.vert with bund := Store.set s.vert.bund b {} (g (s.bund b)) } }

/-- Apply an operation to every channel 0 to 63. -/
def State.eachChan (s : State) (g : Nat → State → State) : State := s.upTo 64 g

/-- The layer of a channel (R20). -/
def layerOf (c : Nat) : Nat := c / 4 + 1

/-- A field of COL[b][n]: instance of VLQ and index (R287). -/
def State.col (s : State) (f : Field) (b n : Nat) : Nat := s.fld f (b / 16) (64 * (b % 16) + n)

/-- Write a field of COL[b][n]. -/
def State.setCol (s : State) (f : Field) (v b n : Nat) : State := s.setFld f v (b / 16) (64 * (b % 16) + n)

/-- Write a field of COL[b][n] or COL_AGC[b][n] that CAL stores: a change makes CAL due for a commit (R478, R479). -/
def State.setCal (s : State) (f : Field) (v b n : Nat) : State :=
  if s.col f b n = v % 2 ^ f.width then s else (s.setCol f v b n).setFld Fld.NVM_CAL_DIRTY 1

/-- The physical column that carries a logical column: the spare that serves it, or itself (R305). -/
def State.server (s : State) (b n : Nat) : Nat :=
  match (s.bund b).serves.find? fun e => e.2 = n with
  | some e => e.1
  | none => n

/-- The logical column whose bits a physical column carries (R305). -/
def State.logical (s : State) (b n : Nat) : Nat := Store.get (s.bund b).serves n n

/-- The largest spreading factor over logical columns a to z − 1 in use (R290). -/
def State.sfMax (s : State) (b a z : Nat) : Nat :=
  (List.range (z - a)).foldl (fun m i =>
    if (s.bund b).erased.contains (a + i) then m
    else max m (sfOf (s.col Fld.VLQ_COL_GEAR b (s.server b (a + i))))) 2

/-- Chips per bit of the data columns. -/
def State.dataSF (s : State) (b : Nat) : Nat := s.sfMax b 0 56

/-- Chips per bit of the command columns. -/
def State.cmdSF (s : State) (b : Nat) : Nat := s.sfMax b 56 58

/-- Junction hops of a channel (R20). -/
def hopsOf (c : Nat) : Nat := c / 16

/-- Whether trains of a bundle may launch: trained, with no training of its path, its quadrant enabled (R280, R283). -/
def State.bundleUp (s : State) (b : Nat) : Bool := (s.bund b).up && s.flag Fld.VLQ_CTL_EN (b / 16)

/-! ### The repair map (R343 to R346, R358, R362) -/

/-- Whether a bank pair of a channel is retired: REP.PAIRS holds it. -/
def State.pairLive (s : State) (c n : Nat) : Bool := !((s.fld Fld.REP_PAIRS_RETIRED 0 c).testBit n)

/-- The pair of a bank (R362). -/
def pairOf (bank : Nat) : Nat := bank / 8 + 4 * (bank % 4)

/-- The live pairs of a channel, ascending (R363). -/
def State.livePairs (s : State) (c : Nat) : List Nat := (List.range 16).filter (s.pairLive c)

/-- A row repair of the working copy that serves a row (R346, R347). -/
def State.repairOf (s : State) (c bank row : Nat) : Option RepEnt :=
  s.rep.copy.find? fun e => e.kind = 1 && e.unit = c && e.bank = bank && e.row = row

/-- The row an ACT carries for a row: the yard row where the row is remapped (R347 step 4). -/
def State.actRow (s : State) (c bank row : Nat) : Nat :=
  match s.repairOf c bank row with
  | some e => if e.data % 2 = 1 ∧ e.state = 3 then 24576 + e.res else row
  | none => row

/-- The host row a physical row holds: the row remapped to it, or itself. -/
def State.hostRow (s : State) (c bank row : Nat) : Option Nat :=
  if row < 24576 then some row
  else (s.rep.copy.find? fun e =>
    e.kind = 1 && e.unit = c && e.bank = bank && e.data % 2 = 1 && e.res = row - 24576 && e.state = 3).map
      fun e => e.row

/-! ### Address decomposition (R32, R33, R363, R446) -/

/-- Where a line lies. -/
structure Loc where
  chan : Nat
  bank : Nat
  row : Nat
  col : Nat
deriving DecidableEq, Repr

/-- Whether the pilot configuration is presented. -/
def State.pilotOn (s : State) : Bool := s.fld Fld.GLB_ADDR_MAP_KIND = 0

/-- The used layers in force, ascending: the pilot layer, or REP.LAYERS.USED. -/
def State.usedLayers (s : State) : List Nat :=
  if s.pilotOn then (if s.start.b2 then (if s.start.pilot = 0 then [] else [s.start.pilot]) else [1])
  else (List.range 16).filterMap fun i => if (s.fld Fld.REP_LAYERS_USED).testBit i then some (i + 1) else none

/-- Pairs per channel in force: the pilot's, or REP.MAP.PAIRS. -/
def State.pairsInForce (s : State) : Nat :=
  if s.pilotOn then s.start.pilotP else s.fld Fld.REP_MAP_PAIRS

/-- The live pairs of a channel in the map in force: those of the end of B2 for the pilot, which retirement at B4 does not move (R33, R34, R446). -/
def State.mapPairs (s : State) (c : Nat) : List Nat :=
  if s.pilotOn then (List.range 16).filter fun n => !(Store.get s.start.pilotDead c 0).testBit n else s.livePairs c

/-- The channel, bank, row and column of a host line number A / 64 under R363, which gives R33 for the full map. -/
def State.decomp (s : State) (ln : Nat) : Option Loc :=
  let w0 := ln / 64
  let half := ln / 32 % 2
  let c := s.fld Fld.GLB_ADDR_MAP_CHAN_COUNT
  let p := s.pairsInForce
  let slot := w0 % c
  let w := w0 / c
  match s.usedLayers.drop (slot / 4) with
  | [] => none
  | l :: _ =>
    let ch := 4 * (l - 1) + slot % 4
    match (s.mapPairs ch).drop (w % p) with
    | [] => none
    | n :: _ =>
      let row := w / p
      let hash := p = 16 ∧ s.flag Fld.GLB_ADDR_MAP_HASH_EN
      let bgh := if hash then n % 4 ^^^ row % 4 else n % 4
      let ba := if hash then n / 4 ^^^ row / 4 % 4 else n / 4
      some { chan := ch, bank := 4 * (2 * bgh + half) + ba, row := row, col := ln % 32 }

/-- The wagon of a row in the presented configuration: the inverse of the decomposition (R336). -/
def State.wagonOf (s : State) (c bank row : Nat) : Option Nat :=
  let p := s.pairsInForce
  let cc := s.fld Fld.GLB_ADDR_MAP_CHAN_COUNT
  let hash := p = 16 ∧ s.flag Fld.GLB_ADDR_MAP_HASH_EN
  let bgh := bank / 8
  let ba := bank % 4
  let n := (if hash then bgh ^^^ row % 4 else bgh) + 4 * (if hash then ba ^^^ row / 4 % 4 else ba)
  let k := ((s.mapPairs c).takeWhile (fun m => m != n)).length
  let u := (s.usedLayers.takeWhile (fun l => l != layerOf c)).length
  if k < p ∧ (s.mapPairs c).contains n ∧ s.usedLayers.contains (layerOf c) then
    some ((row * p + k) * cc + 4 * u + c % 4)
  else none

/-- The channels of a list of layers. -/
def layerChans (ls : List Nat) : List Nat := ls.flatMap fun l => (List.range 4).map (4 * (l - 1) + ·)

/-- Whether a channel lies in the presented configuration. -/
def State.presented (s : State) (c : Nat) : Bool := s.usedLayers.contains (layerOf c)

/-- Whether a bank of a channel is used by the presented configuration (R335, R363). -/
def State.bankUsed (s : State) (c bank : Nat) : Bool :=
  ((s.mapPairs c).take s.pairsInForce).contains (pairOf bank)

/-! ### The valid map (R330) -/

/-- The bit of a wagon. -/
def State.vbit (s : State) (w : Nat) : Bool := (Store.get s.vmap.mem (w / 8) 0).getLsbD (w % 8)

/-- Write a byte of the valid map. -/
def State.setVByte (s : State) (k : Nat) (v : BitVec 8) : State :=
  { s with vmap := { s.vmap with mem := Store.set s.vmap.mem k 0 v } }

/-- Set the bit of a wagon (R331). -/
def State.setVbit (s : State) (w : Nat) : State :=
  s.setVByte (w / 8) (Store.get s.vmap.mem (w / 8) 0 ||| (1#8 <<< (w % 8)))

/-- Whether a wagon is taken as valid: its bit, or always while the map is suspended (R330). -/
def State.wagonValid (s : State) (w : Nat) : Bool := s.pilotOn || s.vbit w

/-! ### Command words (R292, R294) -/

/-- A command word: opcode, MORE, operand, CHK (R292). -/
def cmdWord (op operand : Nat) (more : Bool) : BitVec 48 :=
  let n := op % 32 + b2n more * 32 + operand % 2 ^ 32 * 64
  BitVec.ofNat 48 (n + (crc8 (natBytes 5 n)).toNat * 2 ^ 40)

/-- A command train: every word but the last has MORE. -/
def cmdTrain : List (Nat × Nat) → List (BitVec 48)
  | [] => []
  | [(o, x)] => [cmdWord o x false]
  | (o, x) :: r => cmdWord o x true :: cmdTrain r

/-- The words of an RDT: three columns in its own word, six in each COLS word (R294). -/
def rdtWords (bank tid : Nat) (cols : List Nat) : List (Nat × Nat) :=
  let pack (l : List Nat) : Nat := l.zipIdx.foldl (fun n e => n + e.1 * 32 ^ e.2) 0
  let rest := cols.drop 3
  (0x03, bank + 32 * cols.length + 1024 * tid + 2 ^ 15 * pack (cols.take 3)) ::
    ((if rest.length > 0 then [(0x04, pack (rest.take 6))] else []) ++
     (if rest.length > 6 then [(0x04, pack ((rest.drop 6).take 6))] else []) ++
     (if rest.length > 12 then [(0x04, pack (rest.drop 12))] else []))

/-- The word of a WRT (R294). -/
def wrtWord (bank tid n : Nat) : Nat × Nat := (0x05, bank + 32 * n + 1024 * tid)

/-- The chips of a command train of n words (R260, R292). -/
def State.cmdChips (s : State) (b n : Nat) : Nat := 80 + 24 * s.cmdSF b * n

/-- The chips of a data train of n lines (R260, R290). -/
def State.dataChips (s : State) (b n : Nat) : Nat := 80 + 12 * s.dataSF b * n

/-! ### Power domains (R431) -/

/-- Switch a power domain on or off. -/
def State.setDomain (s : State) (n : Nat) (on : Bool) : State :=
  let w := s.fld Fld.PWR_DOMAIN_ON_ON 0 (n / 32)
  s.setFld Fld.PWR_DOMAIN_ON_ON (if on then setBit w (n % 32) else if w.testBit (n % 32) then w - 2 ^ (n % 32) else w) 0 (n / 32)

/-- Whether a power domain is on. -/
def State.domainOn (s : State) (n : Nat) : Bool := (s.fld Fld.PWR_DOMAIN_ON_ON 0 (n / 32)).testBit (n % 32)

end Sys2Proof.Machine
end

