-- ==== Sys2Proof/Machine/Responses.lean ====
section
/-! DEFINITION. Packet types (R138), open tags (R158, R164) and responses (R153): a response goes to the track that carries its tag. -/
namespace Sys2Proof.Machine

/-! ### Packet types -/

/-- Packet types by name (R138). -/
inductive PktType where
  | nul | rd | wr | wrm | fen | rrd | rwr | other
deriving DecidableEq, Repr

/-- The type a TYPE value names when it comes from the host; device-to-host and unused values are `other` (R138). -/
def pktType (x : BitVec 5) : PktType :=
  match x.toNat with
  | 0x00 => .nul | 0x01 => .rd | 0x02 => .wr | 0x03 => .wrm | 0x04 => .fen
  | 0x05 => .rrd | 0x06 => .rwr | _ => .other

/-- Whether a packet is a request: it opens a tag (R122). -/
def PktType.isReq : PktType → Bool
  | .nul => false | .other => false | _ => true

/-- Whether a request is one to memory. -/
def PktType.isMem : PktType → Bool
  | .rd => true | .wr => true | .wrm => true | _ => false

/-! ### Responses (R153) -/

/-- The open tag of an order number. -/
def State.openTag (s : State) (ord : Nat) : Option OpenTag := s.tags.find? fun o => o.ord = ord

/-- Change an open tag. -/
def State.modTag (s : State) (ord : Nat) (g : OpenTag → OpenTag) : State :=
  { s with tags := s.tags.map fun o => if o.ord = ord then g o else o }

/-- Whether the tablets of a request are still owed to the session that paid them (R118, R131). -/
def State.owesFor (s : State) (ord : Nat) : Bool := !((s.openTag ord).any fun o => o.void)

/-- Whether a FEN of the same master on the track that carries a request holds it (R164, R178). -/
def State.fenceBefore (s : State) (ord : Nat) : Bool :=
  match s.openTag ord with
  | none => false
  | some o => !o.zero && s.tags.any fun f => f.fen && !f.eff && f.ord < o.ord && f.track = o.track && f.master = o.master

/-- Close a tag. -/
def State.dropTag (s : State) (ord : Nat) : State := { s with tags := s.tags.filter fun o => o.ord != ord }

/-- A request has taken effect (R164). -/
def State.effected (s : State) (ord : Nat) : State := s.modTag ord fun o => { o with eff := true }

/-- A track's response buffer holds 64 responses; one whose rows are being sent keeps its place (R180). -/
def TxState.hasRoom (x : TxState) : Bool := x.resp.length + b2n x.respOut < 64

/-- A response enters the buffer, or waits for room (R180). -/
def TxState.putResp (x : TxState) (r : Resp) : TxState :=
  if x.hasRoom && x.late.isEmpty then { x with resp := x.resp ++ [r] } else { x with late := x.late ++ [r] }

/-- Responses that waited move into the buffer as room allows (R180). -/
def TxState.pullResp (x : TxState) : TxState :=
  let n := 64 - x.resp.length - b2n x.respOut
  { x with resp := x.resp ++ x.late.take n, late := x.late.drop n }

/-- Put a request's response in the queue of the track that carries its tag now; the response of a request whose session has ended is dropped and counted (R118, R153). -/
def State.respond (s : State) (ord : Nat) (typ : BitVec 5) (status detail : Nat) (data : List Unit32 := [])
    (bytes : Nat := 0) (write : Bool := false) : State :=
  match s.openTag ord with
  | none => s
  | some o =>
    if o.dead then (s.bump Fld.TRK_POOL_RX_DROPPED o.track).dropTag ord
    else (s.effected ord).modTx o.track fun x => x.putResp
      { typ := typ, tag := o.tag, master := o.master, addr := BitVec.ofNat 32 (status + 16 * detail)
        data := data, ord := ord, bytes := bytes, write := write }

/-- The response type of a request type (R138). -/
def respType (p : Pkt) : BitVec 5 :=
  match pktType p.typ with
  | .rd => 0x10 | .rrd => 0x12 | .rwr => 0x12 | _ => 0x11

/-- Response status codes (R153). -/
inductive Status where
  | ok | poison | noaddr | malformed | locked | ignored | buserr | align | size | retry | aborted
deriving DecidableEq, Repr

/-- The code of a status (R153). -/
def Status.code : Status → Nat
  | .ok => 0 | .poison => 1 | .noaddr => 2 | .malformed => 3 | .locked => 4 | .ignored => 5
  | .buserr => 6 | .align => 7 | .size => 8 | .retry => 9 | .aborted => 10

end Sys2Proof.Machine
end

