-- ==== Sys2Proof/Machine/Timing.lean ====
section
/-! DEFINITION. Banks, the timing set and the launch of command trains (R184 to R188, R195, R254, R255, R292, R296, R298): when each command of a train takes effect, and what the launch leaves behind. -/
namespace Sys2Proof.Machine

/-! ### Chips (R255) -/

/-- The first chip with chip phase 0 at or after a chip (R255). -/
def phase0 (n : Nat) : Nat := (n + 7) / 8 * 8

/-- The chip at which a train launched in this cycle has its chip 0 (R255; 1 cc is 15 chips). -/
def State.now (s : State) : Nat := phase0 (15 * s.cc)

/-- Cycles, rounded up, of a number of chips (1 cc is 15 chips). -/
def ccOf (chips : Nat) : Nat := (chips + 14) / 15

/-- The chips physical column p of bundle b launches into segment 1 for the command train launched last (R255 to R260, R292). -/
def State.cmdWave (s : State) (b p : Nat) : List Int :=
  trainChips (seqOf p 1) (s.col Fld.VLQ_COL_GEAR b p) (cmdBody (s.logical b p) (s.chan b).lastCmd)

/-- The chips it launches for the write train launched last (R255 to R260, R290). -/
def State.wrWave (s : State) (b p : Nat) : List Int :=
  trainChips (seqOf p 1) (s.col Fld.VLQ_COL_GEAR b p) (dataBody (s.logical b p) (s.chan b).lastWr)

/-- The chips it launches for a calibration train (R255 to R260, R277). -/
def State.calWave (s : State) (b p : Nat) : List Int :=
  let g := s.col Fld.VLQ_COL_GEAR b p
  trainChips (seqOf p 1) g (calBody g)

/-- Chip j of the frame on spine signal k of segment 1 that the base die drives, 0 CLK, 1 OCT, 2 BEAT; none while it drives no spine (R257, R267). -/
def State.spineChip (s : State) (k j : Nat) : Option Int :=
  if ¬ s.flag Fld.VLQ_SPINE_DRIVE 0 then none
  else some (match k with
    | 0 => 2 * (clkLevel j : Int) - 1
    | 1 => 2 * (octLevel j : Int) - 1
    | _ => polarity (spineSeq (bits (s.fld Fld.VLQ_SPINE_SITES) 8 6) 1) (beatBit (s.fld Fld.TT_TIME_FRAME) 0 (j / 8)) j)

/-! ### The model of a bank (R184) -/

/-- The five states of a bank, the busy one by what makes it busy (R184). -/
inductive BankState where
  | precharged
  | opened (row : Nat)
  | activating
  | precharging
  | refreshing
  | owned
deriving DecidableEq, Repr

/-- The row open in a cycle: every command that has taken effect counts, none that has not (R184). -/
def Bank.rowAt (k : Bank) (cc : Nat) : Option Nat := k.due.foldl (fun r e => if e.1 ≤ cc then e.2 else r) k.row

/-- The row open once every command already launched has taken effect. -/
def Bank.final (k : Bank) : Option Nat := k.due.foldl (fun _ e => e.2) k.row

/-- A launched command changes the row at cycle t. -/
def Bank.move (k : Bank) (cc t : Nat) (r : Option Nat) : Bank :=
  { k with row := k.rowAt cc, due := (k.due.filter fun e => e.1 > cc) ++ [(t, r)] }

/-- The state of a bank in a cycle (R184). -/
def Bank.state (k : Bank) (owned : Bool) (cc : Nat) : BankState :=
  if owned then .owned
  else if cc < k.refTill then .refreshing
  else match k.rowAt cc with
  | some r => if cc < k.nCol then .activating else .opened r
  | none => if cc < k.nRp then .precharging else .precharged

/-- A bank of channel c. -/
def Chan.bank (x : Chan) (b : Nat) : Bank := Store.get x.banks b {}

/-- Replace a bank. -/
def Chan.setBank (x : Chan) (b : Nat) (k : Bank) : Chan := { x with banks := Store.set x.banks b {} k }

/-! ### Effective times (R186) -/

/-- The larger spacing of ACTs in one bank group, the smaller between groups (table Timing set). -/
def State.rrd (s : State) (c b1 b2 : Nat) : Nat :=
  if b1 / 4 = b2 / 4 then s.fld Fld.CHN_TIM1_T_RRD_L c else s.fld Fld.CHN_TIM1_T_RRD_S c

/-- The earliest cycle an ACT of bank b may take effect under T_RC, T_RP, T_RRD, T_FAW and the end of an exit from self-refresh. -/
def State.actAt (s : State) (c b : Nat) (x : Chan) : Nat :=
  let k := x.bank b
  let spaced := x.acts.foldl (fun m a => max m (a.2 + s.rrd c b a.1)) (max x.ready (max k.nRc k.nRp))
  match x.acts.drop 3 with
  | a :: _ => max spaced (a.2 + s.fld Fld.CHN_TIM1_T_FAW c)
  | [] => spaced

/-- The earliest cycle an RDT of bank b may take effect: T_RCD and T_WTR. -/
def State.rdAt (b : Nat) (x : Chan) : Nat := max (x.bank b).nCol (Store.get x.grp (b / 4) 0)

/-- An ACT of row r takes effect at cycle t. -/
def State.doAct (s : State) (c b r t : Nat) (x : Chan) : Chan :=
  let k := x.bank b
  let x := x.setBank b { k.move s.cc t (some r) with
    nRc := t + s.fld Fld.CHN_TIM0_T_RC c
    nCol := t + s.fld Fld.CHN_TIM0_T_RCD c
    nPre := max k.nPre (t + s.fld Fld.CHN_TIM0_T_RAS c), last := t }
  { x with acts := ((b, t) :: x.acts).take 4, acts2 := x.acts2 + 1 }

/-- A PRE takes effect at cycle t; at the die it does nothing to a precharged bank, yet T_RP counts from it (R186, R295). -/
def State.doPre (s : State) (c b t : Nat) (x : Chan) : Chan :=
  let k := x.bank b
  x.setBank b { k.move s.cc t none with nRp := max k.nRp (t + s.fld Fld.CHN_TIM0_T_RP c), last := t }

/-- The plan of a data train: its first command's cycle is now; where each command takes effect, and the channel after it. -/
structure Plan where
  x : Chan
  pre : Bool
  act : Bool
  col : Nat            -- cycle the RDT or WRT takes effect
  first : Nat          -- earliest cycle the first command may take effect
deriving DecidableEq, Repr

/-- The column command of a train after its PRE and ACT: when it takes effect, and the bank after it (R186). -/
def State.colPlan (s : State) (c : Nat) (t : Train) (now : Nat) (x : Chan) : Nat × Chan :=
  let b := t.bank
  let at_ := if t.write then max now (x.bank b).nCol else max now (State.rdAt b x)
  let k := x.bank b
  if t.write then
    let last := max (15 * at_) (s.now + s.dataChips c t.lines.length - s.cmdChips c 1)
    let x := x.setBank b { k with nPre := max k.nPre (ccOf last + s.fld Fld.CHN_TIM2_T_WR c), last := at_ }
    (at_, { x with grp := Store.set x.grp (b / 4) 0 (ccOf last + s.fld Fld.CHN_TIM2_T_WTR c) })
  else
    (at_, x.setBank b { k with nPre := max k.nPre (at_ + s.fld Fld.CHN_TIM2_T_RTP c), last := at_ })

/-- The commands of a train in order (R185): PRE when another row is open, ACT when the row is not, the column command; a reissue carries PRE and ACT always (R303, R304). -/
def State.plan (s : State) (c : Nat) (t : Train) : Plan :=
  let x := s.chan c
  let k := x.bank t.bank
  if k.final = some t.row ∧ ¬ t.again then
    let first := max x.ready (if t.write then k.nCol else State.rdAt t.bank x)
    let (col, x) := s.colPlan c t s.cc x
    { x := x, pre := false, act := false, col := col, first := first }
  else
    let pre := k.final.isSome || t.again
    let first := if k.final.isSome then k.nPre else if t.again then k.nRp else s.actAt c t.bank x
    let x := if pre then s.doPre c t.bank s.cc x else x
    let tAct := if pre then max s.cc (s.actAt c t.bank x) else s.cc
    let (col, x) := s.colPlan c t tAct (s.doAct c t.bank t.row tAct x)
    { x := x, pre := pre, act := true, col := col, first := max (s.chan c).ready first }

/-- The base-die chip at which a read train whose RDT takes effect at cycle t delivers its chip 0 (R271, R296). -/
def State.readLands (s : State) (c t : Nat) : Nat :=
  let lat := s.fld Fld.LAY_ID_WORD (c / 4) 4 % 256
  phase0 (15 * t) + 112 + 144 * hopsOf c + 24 * s.cmdSF c + 8 * lat

/-- The chip at which a data train's chip 0 passes the base die: its launch, or its delivery. -/
def State.dataStart (s : State) (c : Nat) (t : Train) (p : Plan) : Nat :=
  if t.write then s.now else s.readLands c p.col

/-- Whether the data columns are free for a train on every segment: T_TRN behind a train of its own direction, T_TURN behind one of the other (R186). -/
def State.dataFree (s : State) (c : Nat) (t : Train) (p : Plan) : Bool :=
  let x := s.chan c
  let start := s.dataStart c t p
  if ¬ x.anyData then true
  else if x.dirW = t.write then start ≥ x.dEnd + 15 * s.fld Fld.CHN_TIM3_T_TRN c
  else if t.write then start ≥ x.dEnd + 15 * s.fld Fld.CHN_TIM2_T_TURN c
  else start ≥ x.dEnd + 144 * hopsOf c + 32 + 15 * s.fld Fld.CHN_TIM2_T_TURN c

/-! ### Command columns (R254, R274, R292, R298) -/

/-- Whether chips of a bundle up to `span` from now keep out of the quiet interval of a gear or spare switch: the last 4,800 chips of frame F − 1 (R274). -/
def State.quietOk (s : State) (b span : Nat) : Bool :=
  !((s.bund b).sw.any fun w => w.frame = s.fld Fld.TT_TIME_FRAME + 1 && 15 * s.fld Fld.TT_TIME_CYCLE + span > 19200)

/-- Whether a command train launched at chip a for n chips keeps clear of a scheduled response on every segment (R298). -/
def clearOf (hops a n : Nat) (w : Nat × Nat) : Bool := a + n + 32 + 144 * hops ≤ w.1 || a ≥ w.2

/-- Whether a command train of n words may launch now: the command columns are free and it overlaps no scheduled response on any segment (R298). -/
def State.cmdFree (s : State) (c n : Nat) : Bool :=
  let x := s.chan c
  s.bundleUp c && s.now ≥ x.cmdEnd && s.quietOk c (s.cmdChips c n) &&
  x.wins.all (clearOf (hopsOf c) s.now (s.cmdChips c n))

/-- The first chip, from cycle t on, at which a command train of n words may launch: behind the one before it, and clear of every scheduled response (R298). -/
def State.cmdAt (s : State) (c n t : Nat) : Nat :=
  let x := s.chan c
  let a := phase0 (max (15 * max t s.cc) x.cmdEnd)
  (sortBy (fun v w => v.1 ≤ w.1) x.wins).foldl
    (fun a w => if clearOf (hopsOf c) a (s.cmdChips c n) w then a else phase0 w.2) a

/-- The budget of a throttled layer: chips of data trains a frame may still carry (R425). -/
def State.inBudget (s : State) (c chips : Nat) : Bool :=
  let lvl := bits (s.fld Fld.THM_LEVELS_LEVEL) (3 * layerOf c + 2) (3 * layerOf c)
  let cap := [100, 85, 70, 50, 25].getD lvl 25
  lvl = 0 || (s.chan c).spent + chips ≤ cap * 240

/-- A launch shuts its columns' receivers until 8 chips after its last chip (R254). -/
def noteShut (now : Nat) (l : List (Nat × Nat)) (a n : Nat) : List (Nat × Nat) := l.filter (fun e => e.2 > now) ++ [(a, a + n + 8)]

/-- A command train is launched at the first chip from cycle t on: its words, when the command columns are free again, CMD_TRAINS, the keep-alive (R292, R309). -/
def State.launchAt (s : State) (c t : Nat) (words : List (Nat × Nat)) : State :=
  let a := s.cmdAt c words.length t
  let s := s.bump Fld.LAY_CNT_COUNT (c / 4) 0
  s.modChan c fun x => { x with
    lastCmd := cmdTrain words
    lastAt := a / 15
    cmdEnd := a + s.cmdChips c words.length
    cmdShut := noteShut s.now x.cmdShut a (s.cmdChips c words.length)
    wins := x.wins.filter fun w => w.2 > s.now
    ref := { x.ref with seen := true } }

/-- A command train is launched now, or as soon as the command columns allow. -/
def State.launch (s : State) (c : Nat) (words : List (Nat × Nat)) : State := s.launchAt c s.cc words

/-- The cycle in which a command train of one word, wanted from cycle t on, takes effect. -/
def State.cmdCycle (s : State) (c t : Nat) : Nat := max t (s.cmdAt c 1 t / 15)

/-- PRE of one bank, once its row may close (R186). -/
def State.closeBank (s : State) (c b : Nat) : State :=
  let t := s.cmdCycle c (max s.cc ((s.chan c).bank b).nPre)
  (s.launchAt c t [(0x02, b)]).modChan c fun x => s.doPre c b t x

/-- REFB or NREF of a bank, its row closed first: launched as soon as the timing set and the command columns allow, the bank busy for T_RFCPB or T_NREF (R185, R186, R227, R240). Answers the cycle it takes effect. -/
def State.refCmd (s : State) (c op b operand : Nat) : State × Nat :=
  let s := if ((s.chan c).bank b).final.isSome then s.closeBank c b else s
  let t := s.cmdCycle c (max s.cc ((s.chan c).bank b).nRp)
  let till := t + (if op = 0x06 then s.fld Fld.CHN_TIM3_T_RFCPB c else s.fld Fld.CHN_TIM3_T_NREF c)
  ((s.launchAt c t [(op, operand)]).modChan c fun x =>
    let k := x.bank b
    let note := (x.ref.recent.filter fun e => 15 * e.1 + 2048 ≥ 15 * s.cc) ++ [(t, op, operand)]
    { x.setBank b { k with nRp := till, refTill := till, last := t } with
      refbs2 := x.refbs2 + b2n (op = 0x06), ref := { x.ref with recent := note } }, t)

/-- PRE to every bank, where the bundle carries trains; else it waits for the bundle (R204, R205). -/
def State.preAll (s : State) (c : Nat) : State :=
  if ¬ s.bundleUp c then s.modChan c fun x => { x with preDue := true } else
  let t := s.cmdCycle c s.cc
  (s.launchAt c t [(0x02, 32)]).modChan c fun x =>
    (List.range 32).foldl (fun x b => s.doPre c b t x) { x with preDue := false }

/-- Send SRX; T_XS begins (R248). -/
def State.sendSrx (s : State) (c : Nat) (recover : Bool) : State :=
  (s.launch c [(0x09, 0)]).modRef c fun r => { r with srx := true, srxAt := s.cmdCycle c s.cc, recover := recover, seen := true }

/-- Whether a bundle has carried no command train for two frames: the die may have put the channel into self-refresh (R309). -/
def State.lapsed (s : State) (c : Nat) : Bool :=
  (s.chan c).exited && !s.flag Fld.CHN_REF_STATE_SR c && !(s.chan c).ref.srx && s.cc ≥ (s.chan c).lastAt + 3200

/-- Whether the receivers of the command columns are shut by a launch of the base die (R254). -/
def State.cmdShut (s : State) (c : Nat) : Bool := (s.chan c).cmdShut.any fun e => e.1 ≤ 15 * s.cc && 15 * s.cc < e.2

/-- Whether those of the data columns are. -/
def State.dataShut (s : State) (c : Nat) : Bool := (s.chan c).shut.any fun e => e.1 ≤ 15 * s.cc && 15 * s.cc < e.2

/-- A calibration exchange of channel c is open: no data train starts (R238). -/
def State.calBusy (s : State) (c : Nat) : Bool := (s.chan c).ccal.any fun e => s.now < e

/-- The next TID in rotation that no train awaits (R302). -/
def Chan.freeTid (x : Chan) : Option Nat :=
  ((List.range 32).map fun i => (x.tid + i) % 32).find? fun t => !(x.out.any fun y => y.tid = t)

/-- The host data of a line slot in its codeword, with its line control (R290, R291). -/
def slotOf (tid i : Nat) (l : TLine) : BitVec 672 := lineControl l.col l.te i tid ++ encodeLine l.data

end Sys2Proof.Machine
end

