-- ==== Sys2Proof/Machine/BlockReset.lean ====
section
/-! DEFINITION. The BLOCK resets a BRS reaction or a command starts: CHN[c] (R204), VLQ[q] (R283), BWR (R217). They raise no source. -/
namespace Sys2Proof.Machine

/-- Whether a line of a train belongs to a job that owns its bank: a retest (R59) or a migration (R348). -/
def Use.owns : Use → Bool
  | .rtRead => true | .rtWrite => true | .rtBack => true
  | .migRead => true | .migWrite => true | .migBack => true
  | _ => false

/-- Whether it belongs to the march (R370). -/
def Use.marches : Use → Bool
  | .marchRead => true | .marchWrite => true
  | _ => false

/-- Whether a BLOCK reset leaves it: the jobs, and the march of a test in progress (R59, R348, R370). -/
def Use.keeps (u : Use) : Bool := u.owns || u.marches

/-- An entry completes with a status; nothing further of it is issued. -/
def Ent.finish (e : Ent) (status detail : Nat) : Ent :=
  if e.res.isSome then e else
  { e with res := some { status := status, detail := detail }, side := none
           lines := e.lines.map fun l => { l with st := .done } }

/-- A channel's tracker table is cleared and recovery begins (R242). -/
def State.beginRecovery (s : State) (c : Nat) : State :=
  (s.modRef c fun r => { r with table := [], sat := false, win := 0 }).setFld Fld.CHN_REF_STATE_RECOVERY 1 c

/-- Tags of entries that completed take effect (R164). -/
def State.effectAll (s : State) (ords : List Nat) : State := ords.foldl (fun s o => s.effected o) s

/-- What a channel holds when its engine stops: entries ABORTED, bank model, hit counters and trackers cleared, fills cut; retests and migrations keep their trains (R204, R332, R348). -/
def State.abortChan (s : State) (c : Nat) : State :=
  let s := s.effectAll ((s.chan c).q.map fun e => e.ord)
  let keep (t : Train) : Bool := t.lines.any fun l => l.use.keeps
  let s := s.modChan c fun x => { x with
    q := x.q.map fun e => e.finish Status.aborted.code 2
    banks := [], acts := [], grp := [], wait := none, elig := [], locks := [], fills := [], gDue := false
    prio := (x.out.filter keep).map (fun t => { t with again := true }) ++ x.prio.filter keep
    out := [], wins := [], ccal := none }
  let stays (j : CodecJob) : Bool := j.chan != c || j.line.use.keeps
  { s with codec := { s.codec with
      busy := s.codec.busy.filter fun e => stays e.2
      queue := s.codec.queue.filter stays
      held := s.codec.held.filter stays } }

/-- End an explicit channel test of channel c with an outcome (R387, R388). -/
def State.endChTest (s : State) (outcome : Nat) : State :=
  match s.bst.ch with
  | none => s
  | some t =>
    let s := s.setFld Fld.BST_CHTEST_STATUS_OUTCOME outcome
    let s := s.setFld Fld.BST_CHTEST_STATUS_RUNNING 0
    let s := s.setFld Fld.BST_STATUS_PHASE 0
    let s := s.setTest t.chan false
    { s with bst := { s.bst with ch := none } }

/-- Start the BLOCK reset of CHN[c] (R204): the entries end, PRE goes to every bank, fields kept by BLOCK keep their values. -/
def State.resetChan (s : State) (c : Nat) : State :=
  let s := if (s.bst.ch.map fun t => t.chan) = some c then s.endChTest 3 else s
  let s := (s.abortChan c).resetBlk .block .chn c
  let s := (s.beginRecovery c).setFld Fld.CHN_FLIP_CTL_ARMED 0 c
  (s.modChan c fun x => { x with resetting := true }).preAll c

/-- Queue a seeded training; its bundles launch no trains until it has ended (R280). -/
def State.startTraining (s : State) (j : VTrain) : State :=
  let s := { s with vert := { s.vert with
    trains := s.vert.trains ++ [j]
    bund := j.bundles.foldl (fun m b => Store.set m b {}
      { Store.get m b {} with up := false, exch := false, retune := 0, isRetune := false, good := [], nc := [], nd := [] }) s.vert.bund } }
  (j.bundles.map fun b => b / 16).eraseDups.foldl (fun s q =>
    ((s.setFld Fld.VLQ_STATUS_TRAINING 1 q).setFld Fld.VLQ_STATUS_TRAINED 0 q).setFld Fld.VLQ_STATUS_RETUNING 0 q) s

/-- Seeded training of every segment of a quadrant's bundles (R283). -/
def State.trainQuad (s : State) (q : Nat) (block : Bool) : State :=
  s.startTraining { seg := 0, last := q, bundles := (List.range 16).map (16 * q + ·), block := if block then some q else none }

/-- Whether an instance is already in a BLOCK reset (R405). -/
def State.blockResetting (s : State) (k : BrsKind) (i : Nat) : Bool :=
  match k with
  | .chn => (s.chan i).resetting
  | .vlq => s.vert.blk.contains i
  | .bwr => false
  | .none => false

/-- Start the BLOCK reset of an instance (R204, R217, R283, R405). -/
def State.blockReset (s : State) (k : BrsKind) (i : Nat) : State :=
  if s.blockResetting k i then s else
  match k with
  | .chn => s.resetChan i
  | .vlq =>
    let s := (s.resetBlk .block .vlq i).trainQuad i true
    let s := s.upTo 16 fun k s => s.modBund (16 * i + k) fun x => { x with sw := [] }
    { s with vert := { s.vert with blk := i :: s.vert.blk } }
  | .bwr =>
    let s := s.resetBlk .block .bwr
    { s with bwr := { s.bwr with fill := true, hit := [], ticks := 0 } }
  | .none => s

end Sys2Proof.Machine
end

