-- ==== Sys2Proof/Machine/Flags.lean ====
section
/-! DEFINITION. The signal box (14): what an event of a fault source does to the flags, the counters, the capture records, ERR_N, the bulletin queues and the blocks. `raise` is the one way a source is raised. -/
namespace Sys2Proof.Machine

/-- The pending bit of a source index (R403). -/
def State.pendBit (s : State) (i : Nat) : Bool := (s.fld Fld.FLT_PEND_PEND 0 (i / 32)).testBit (i % 32)

/-- Set the pending bit of a source index. -/
def State.setPend (s : State) (i : Nat) : State :=
  s.setFld Fld.FLT_PEND_PEND (setBit (s.fld Fld.FLT_PEND_PEND 0 (i / 32)) (i % 32)) 0 (i / 32)

/-- Whether a source's class is FT; its URG and EPN bits then act as set (R398). -/
def State.isFatal (s : State) (i : Nat) : Bool := s.fld Fld.FLT_REACT_CLASS 0 i = 2

/-- EPN of a source as it acts (R398). -/
def State.epnOf (s : State) (i : Nat) : Bool := s.flag Fld.FLT_REACT_EPN 0 i || s.isFatal i

/-- URG of a source as it acts (R398). -/
def State.urgOf (s : State) (i : Nat) : Bool := s.flag Fld.FLT_REACT_URG 0 i || s.isFatal i

/-- Whether a condition of R410 holds: a pending source with EPN, or FORCE. -/
def State.errWanted (s : State) : Bool :=
  s.flag Fld.FLT_ERR_CTL_FORCE ||
  srcList.any fun x => s.pendBit x.index && (s.epnOf x.index || s.box.esc.contains x.index)

/-- Bring ERR_N up to date: pull it low when wanted, starting its minimum; release it when nothing holds it and the minimum is over (R410). -/
def State.updErr (s : State) : State :=
  if s.errWanted then
    (if s.box.errLow then s else { s with box := { s.box with errLow := true, errMin := true } })
  else if s.box.errMin then s
  else { s with box := { s.box with errLow := false } }

/-- Write capture record k with an event (R399). -/
def State.writeCap (s : State) (k : Nat) (src : Src) (esc : Bool) (x : FaultInfo) : State :=
  let (tr, ms, tg) := x.req.getD (0, 0, 0)
  let (ch, la, ba, ro, co) := x.loc.getD (0, 0, 0, 0, 0)
  let s := s.setFld Fld.FLT_CAP_STATUS_VALID 1 0 k
  let s := s.setFlag Fld.FLT_CAP_STATUS_ESCALATED esc 0 k
  let s := s.setFlag Fld.FLT_CAP_STATUS_ADDR_VALID x.haddr.isSome 0 k
  let s := s.setFlag Fld.FLT_CAP_STATUS_LOC_VALID x.loc.isSome 0 k
  let s := s.setFlag Fld.FLT_CAP_STATUS_REQ_VALID x.req.isSome 0 k
  let s := s.setFld Fld.FLT_CAP_STATUS_ACCESS x.access 0 k
  let s := s.setFld Fld.FLT_CAP_STATUS_SOURCE src.index 0 k
  let s := s.setFld Fld.FLT_CAP_TIME_TIME s.stamp 0 k
  let s := s.setFld Fld.FLT_CAP_HADDR_HADDR (x.haddr.getD 0) 0 k
  let s := s.setFld Fld.FLT_CAP_LOC_CHANNEL ch 0 k
  let s := s.setFld Fld.FLT_CAP_LOC_LAYER la 0 k
  let s := s.setFld Fld.FLT_CAP_LOC_BANK ba 0 k
  let s := s.setFld Fld.FLT_CAP_LOC_ROW ro 0 k
  let s := s.setFld Fld.FLT_CAP_LOC_COLUMN co 0 k
  let s := s.setFld Fld.FLT_CAP_REQ_TRACK tr 0 k
  let s := s.setFld Fld.FLT_CAP_REQ_MASTER ms 0 k
  let s := s.setFld Fld.FLT_CAP_REQ_TAG tg 0 k
  s.setFld Fld.FLT_CAP_DETAIL_DETAIL x.detail 0 k

/-- Whether an event of class k takes a record written earlier in the same cycle: its source index is the lower (R399). -/
def State.displaces (s : State) (k : Nat) (src : Src) : Bool :=
  Store.find s.box.capAt k = some s.cc && src.index < s.fld Fld.FLT_CAP_STATUS_SOURCE 0 k

/-- Whether an event of class k is the one its record holds from now on (R399). -/
def State.captures (s : State) (k : Nat) (src : Src) : Bool := !s.flag Fld.FLT_CAP_STATUS_VALID 0 k || s.displaces k src

/-- Queued bulletins of class k no longer tell of the event their record holds (R406). -/
def Box.unheld (b : Box) (k : Nat) : Box :=
  let g (r : BulRec) : BulRec := if r.cls = k then { r with held := false } else r
  { b with bul := b.bul.map g, urg := b.urg.map g, hold := b.hold.map fun h => { h with next := h.next.map g } }

/-- Capture an event of class k: written when the record is free; of several in one cycle the lowest source index is captured and the others counted; counted otherwise (R399). -/
def State.capture (s : State) (k : Nat) (src : Src) (esc : Bool) (x : FaultInfo) : State :=
  if ¬ s.flag Fld.FLT_CAP_STATUS_VALID 0 k then
    ({ s with box := { s.box with capAt := Store.put s.box.capAt k s.cc } }).writeCap k src esc x
  else
    let go := s.displaces k src
    let s := s.bump Fld.FLT_CAP_OVERFLOW_COUNT 0 k
    if go then ({ s with box := s.box.unheld k }).writeCap k src esc x else s

/-- The record fields of a capture record, cleared together by writing 1 to VALID (R399). -/
def capFields : List Field :=
  [Fld.FLT_CAP_STATUS_VALID, Fld.FLT_CAP_STATUS_ESCALATED, Fld.FLT_CAP_STATUS_ADDR_VALID,
   Fld.FLT_CAP_STATUS_LOC_VALID, Fld.FLT_CAP_STATUS_REQ_VALID, Fld.FLT_CAP_STATUS_ACCESS,
   Fld.FLT_CAP_STATUS_SOURCE, Fld.FLT_CAP_OVERFLOW_COUNT, Fld.FLT_CAP_TIME_TIME,
   Fld.FLT_CAP_HADDR_HADDR, Fld.FLT_CAP_LOC_CHANNEL, Fld.FLT_CAP_LOC_LAYER,
   Fld.FLT_CAP_LOC_BANK, Fld.FLT_CAP_LOC_ROW, Fld.FLT_CAP_LOC_COLUMN, Fld.FLT_CAP_REQ_TRACK,
   Fld.FLT_CAP_REQ_MASTER, Fld.FLT_CAP_REQ_TAG, Fld.FLT_CAP_DETAIL_DETAIL]

/-- Clear capture record k (R399). -/
def State.clearCap (s : State) (k : Nat) : State :=
  let s := capFields.foldl (fun s f => s.setFld f 0 0 k) s
  { s with box := { s.box with capAt := Store.del s.box.capAt k } }

/-- A queued bulletin that takes in a later event of its source: the latest event's fields, one more folded event (R407, R408). -/
def BulRec.fold (old new : BulRec) : BulRec :=
  { new with folded := min (old.folded + new.folded) 0xFFFFFFFF, crs := old.crs || new.crs }

/-- Fold an event into the queued bulletin of its source. -/
def foldInto (r : BulRec) (q : List BulRec) : List BulRec :=
  q.map fun o => if o.src = r.src then o.fold r else o

/-- Queue an urgent bulletin (R408). -/
def State.queueUrgent (s : State) (r : BulRec) : State :=
  if s.box.urg.any fun o => o.src = r.src then
    { s with box := { s.box with urg := foldInto r s.box.urg } }
  else if s.box.urg.length ≥ 8 then s.bump Fld.FLT_DROPPED_URG
  else { s with box := { s.box with urg := s.box.urg ++ [r] } }

/-- Queue a maskable bulletin that no hold-off holds back: into the queue, or dropped and counted when it is full (R407). -/
def State.enqueueMask (s : State) (r : BulRec) : State :=
  if s.box.bul.length ≥ 24 then s.bump Fld.FLT_DROPPED_BUL
  else { s with box := { s.box with
    bul := s.box.bul ++ [r]
    hold := s.box.hold ++ [{ src := r.src, left := s.fld Fld.FLT_BUL_CFG_HOLDOFF }] } }

/-- Queue a maskable bulletin: folded into its queued bulletin, or held by the hold-off, or queued (R407). -/
def State.queueMask (s : State) (r : BulRec) : State :=
  if s.box.bul.any fun o => o.src = r.src then
    { s with box := { s.box with bul := foldInto r s.box.bul } }
  else if s.box.hold.any fun h => h.src = r.src then
    { s with box := { s.box with hold := s.box.hold.map fun h =>
        if h.src = r.src then { h with next := some (match h.next with
          | some o => o.fold r
          | none => r) } else h } }
  else s.enqueueMask r

/-- BRS reactions of an instance so far in the window (R405). -/
def State.brsCount (s : State) (k : BrsKind) (i : Nat) : Nat :=
  ((s.box.brs.find? fun e => e.1 = k ∧ e.2.1 = i).map fun e => e.2.2).getD 0

/-- Count one more BRS of an instance. -/
def State.countBrs (s : State) (k : BrsKind) (i : Nat) : State :=
  { s with box := { s.box with
      brs := (k, i, s.brsCount k i + 1) :: s.box.brs.filter fun e => !(e.1 = k ∧ e.2.1 = i) } }

/-- Whether the event's BRS is one too many for its instance (R405): BRS set, no CRS, the instance not already resetting, the window's limit reached. -/
def State.brsEscalates (s : State) (src : Src) (inst : Nat) : Bool :=
  s.flag Fld.FLT_REACT_BRS 0 src.index && !s.flag Fld.FLT_REACT_CRS 0 src.index &&
  src.row.block != .none && !s.blockResetting src.row.block inst &&
  s.brsCount src.row.block inst ≥ s.fld Fld.FLT_CFG_BRS_LIMIT

/-- Step 4: queue the bulletin of an event (R406 to R408). -/
def State.queueBulletin (s : State) (src : Src) (urgent : Bool) (r : BulRec) : State :=
  if urgent then s.queueUrgent r
  else if s.flag Fld.FLT_CFG_BUL_EN && s.flag Fld.FLT_REACT_BUL 0 src.index then s.queueMask r
  else s

/-- Step 5: BRS (R405). -/
def State.reactBrs (s : State) (src : Src) (inst : Nat) : State :=
  if s.flag Fld.FLT_REACT_BRS 0 src.index ∧ ¬ s.flag Fld.FLT_REACT_CRS 0 src.index ∧
      src.row.block ≠ .none ∧ ¬ s.blockResetting src.row.block inst then
    (s.countBrs src.row.block inst).blockReset src.row.block inst
  else s

/-- Step 6: CRS; a further one merges into the one pending (R409). -/
def State.reactCrs (s : State) (src : Src) : State :=
  if s.flag Fld.FLT_REACT_CRS 0 src.index ∧ s.box.crs.isNone then
    { s with box := { s.box with crs := some {} } }
  else s

/-- The parts of R404 for one event: capture, pending bit and counter, EPN, bulletin, BRS, CRS, in this order. -/
def State.raiseCore (s : State) (src : Src) (inst : Nat := 0) (x : FaultInfo := {}) : State :=
  let i := src.index
  let esc := s.brsEscalates src inst
  let k := if esc then 2 else s.fld Fld.FLT_REACT_CLASS 0 i
  let urgent := esc || s.urgOf i
  let r : BulRec := {
    src := src, cls := k, urgent := urgent, held := s.captures k src
    esc := esc, info := x, time := s.stamp, folded := 1, crs := s.flag Fld.FLT_REACT_CRS 0 i }
  let s := s.capture k src esc x
  let s := (s.setPend i).bump Fld.FLT_COUNT_COUNT 0 i
  let s := if esc then { s with box := { s.box with esc := i :: s.box.esc } } else s
  let s := s.updErr
  let s := s.queueBulletin src urgent r
  let s := if esc then s else s.reactBrs src inst
  s.reactCrs src

/-- A register's word from some of its fields. -/
def State.wordOf (s : State) (fs : List Field) (i j : Nat) : Nat := fs.foldl (fun n f => n + s.fld f i j * 2 ^ f.lo) 0

/-- The payload of a FAULT entry: CAP_STATUS, CAP_DETAIL and CAP_LOC of record k (R484). -/
def State.capPayload (s : State) (k : Nat) : Nat :=
  s.wordOf [Fld.FLT_CAP_STATUS_VALID, Fld.FLT_CAP_STATUS_ESCALATED, Fld.FLT_CAP_STATUS_ADDR_VALID,
    Fld.FLT_CAP_STATUS_LOC_VALID, Fld.FLT_CAP_STATUS_REQ_VALID, Fld.FLT_CAP_STATUS_ACCESS, Fld.FLT_CAP_STATUS_SOURCE] 0 k +
  2 ^ 32 * s.fld Fld.FLT_CAP_DETAIL_DETAIL 0 k +
  2 ^ 64 * s.wordOf [Fld.FLT_CAP_LOC_CHANNEL, Fld.FLT_CAP_LOC_LAYER, Fld.FLT_CAP_LOC_BANK, Fld.FLT_CAP_LOC_ROW, Fld.FLT_CAP_LOC_COLUMN] 0 k

/-- Raise a source of an instance (R404); a record just captured in CAP[1] or CAP[2] goes into the journal (R484, R485). Nothing is raised while a POR, PIN or CHIP reset is in progress (R411). -/
def State.raise (s : State) (src : Src) (inst : Nat := 0) (x : FaultInfo := {}) : State :=
  if s.resetting then s else
  let k := if s.brsEscalates src inst then 2 else s.fld Fld.FLT_REACT_CLASS 0 src.index
  let writes : Bool := s.captures k src && k != 0
  let s := s.raiseCore src inst x
  if ¬ writes then s
  else if s.nvm.jrn.length < 32 then
    let e : JEntry := { kind := 0x04, arg := k, time := s.stamp, payload := s.capPayload k }
    { s with nvm := { s.nvm with jrn := s.nvm.jrn ++ [e] } }
  else (s.bump Fld.NVM_CNT_COUNT 0 3).raiseCore .nvmWear 0 { detail := 0x20 }

end Sys2Proof.Machine
end

