-- ==== Sys2Proof/Machine/Lanes.lean ====
section
/-! DEFINITION. Host lanes (03): symbol errors, block lock, calibration, equaliser, sparing, lane states, PRBS and injection. -/
namespace Sys2Proof.Machine

/-! ### Lane map -/

/-- SPARE_RX or SPARE_TX state codes (table TRK[t].SPARE_RX). -/
inductive SpareState where
  | standby | active | test | failed
deriving DecidableEq, Repr

/-- The code of a spare state. -/
def SpareState.code : SpareState → Nat
  | .standby => 0 | .active => 1 | .test => 2 | .failed => 3

/-- The state field of a spare: direction (true transmit), spare (false S0). -/
def spareFld (tx spare : Bool) : Field :=
  match tx, spare with
  | false, false => Fld.TRK_SPARE_RX_S0_STATE
  | false, true => Fld.TRK_SPARE_RX_S1_STATE
  | true, false => Fld.TRK_SPARE_TX_S0_STATE
  | true, true => Fld.TRK_SPARE_TX_S1_STATE

/-- The position field of a spare. -/
def sparePosFld (tx spare : Bool) : Field :=
  match tx, spare with
  | false, false => Fld.TRK_SPARE_RX_S0_POS
  | false, true => Fld.TRK_SPARE_RX_S1_POS
  | true, false => Fld.TRK_SPARE_TX_S0_POS
  | true, true => Fld.TRK_SPARE_TX_S1_POS

/-- The RETIRED mask of a direction. -/
def retiredFld (tx : Bool) : Field := if tx then Fld.TRK_SPARE_TX_RETIRED else Fld.TRK_SPARE_RX_RETIRED

/-- Whether a spare of a direction is in a state. -/
def State.spareIs (s : State) (t : Nat) (tx spare : Bool) (x : SpareState) : Bool :=
  s.fld (spareFld tx spare) t = x.code

/-- The spare that serves a position, if one does (R67). -/
def State.spareOf (s : State) (t : Nat) (tx : Bool) (p : Nat) : Option Bool :=
  if s.spareIs t tx false .active ∧ s.fld (sparePosFld tx false) t = p then some false
  else if s.spareIs t tx true .active ∧ s.fld (sparePosFld tx true) t = p then some true
  else none

/-- The physical lane that serves a position. -/
def State.laneOf (s : State) (t : Nat) (tx : Bool) (p : Nat) : Nat :=
  match s.spareOf t tx p with
  | some false => 16
  | some true => 17
  | none => p

/-- The lowest standby spare of a direction (R86). -/
def State.standby (s : State) (t : Nat) (tx : Bool) : Option Bool :=
  if s.spareIs t tx false .standby then some false
  else if s.spareIs t tx true .standby then some true
  else none

/-- The position a physical receive lane serves, if any. -/
def State.posOfLane (s : State) (t p : Nat) : Option Nat :=
  (List.range 16).find? fun q => s.laneOf t false q = p

/-! ### LINK retrain (R126) -/

/-- A training set type (R108). -/
inductive SetType where
  | ts1 | ts2 | cap | smap | grant | rdy | cen | fov | reset
deriving DecidableEq, Repr

/-- The TYPE byte of a set (R108). -/
def SetType.code : SetType → Byte
  | .ts1 => 0x11 | .ts2 => 0x12 | .cap => 0x21 | .smap => 0x31 | .grant => 0x41
  | .rdy => 0x51 | .cen => 0x61 | .fov => 0x62 | .reset => 0x72

/-- What a receive lane carries into a new attempt: the tracking of the signal and the trims staged for the tick (R73, R82, R84). -/
def LaneRx.restart (L : LaneRx) : LaneRx :=
  { disp := L.disp, free := L.free, sig := L.sig, winErr := L.winErr, trim := L.trim, eq := L.eq }

/-- Begin a training attempt at phase 1 (R110, R112): lanes hunt, no content accepted; a cold attempt begins a new run of attempts (log entry 10). A held packet is dropped unaccepted (R172). -/
def State.beginAttempt (s : State) (t : Nat) (seeded : Bool) : State :=
  let s := s.setFld Fld.TRK_TRAIN_STATUS_STATE LinkState.training.code t
  let s := s.setFld Fld.TRK_TRAIN_STATUS_PHASE 1 t
  let s := s.setFld Fld.TRK_LSTATE_TX_STATE 2 t
  let s := s.setFld Fld.TRK_LSTATE_RX_STATE 2 t
  let s := s.upTo 18 fun p s => ((s.clrFld Fld.TRK_LANE_STATUS_SYM_LOCK t p).clrFld Fld.TRK_LANE_STATUS_BLK_LOCK t p).clrFld
    Fld.TRK_LANE_STATUS_SKEW t p
  let s := s.when (!seeded) fun s => s.setFld Fld.TRK_TRAIN_STATUS_ATTEMPT 0 t
  s.modTrk t fun x => { x with
    lanesRx := x.lanesRx.map fun e => (e.1, e.2.restart)
    spY := none, spX := none, rej := none, retireRx := [], retireTx := []
    rx := { inbox := x.rx.inbox, blk := x.rx.blk }
    tx := { x.tx with rep := none, repWait := false, guard := none, page := 0, slots := 0, wake := 0, leave := false }
    cen := { x.cen with waiting := false }
    trn := { seeded := seeded, reset := x.trn.reset, setType := SetType.ts1.code } }

/-- Start a LINK retrain of a track for a reason (R126): the LINK reset of TRK[t], then training with seeded timeouts. A track in service first finishes its open packet, follows it with a header and fills the rows up to a slot boundary (R104). -/
def State.retrain (s : State) (t : Nat) (reason : Nat) : State :=
  let live := s.linkIs t .ready
  let s := s.resetBlk .link .trk t
  let s := s.setFld Fld.TRK_TRAIN_STATUS_FAIL_REASON reason t
  (s.beginAttempt t true).modTrk t fun x => { x with
    tx := { x.tx with finish := live || x.tx.finish }, ses := { x.ses with gone := false } }

/-! ### Lane state -/

/-- Receive lane p of track t. -/
def State.rxLane (s : State) (t p : Nat) : LaneRx := Store.get (s.trk t).lanesRx p {}

/-- Replace receive lane p of track t. -/
def State.setRxLane (s : State) (t p : Nat) (L : LaneRx) : State :=
  s.modTrk t fun x => { x with lanesRx := Store.set x.lanesRx p {} L }

/-- Transmit lane p of track t. -/
def State.txLane (s : State) (t p : Nat) : LaneTx := Store.get (s.trk t).lanesTx p {}

/-- Replace transmit lane p of track t. -/
def State.setTxLane (s : State) (t p : Nat) (L : LaneTx) : State :=
  s.modTrk t fun x => { x with lanesTx := Store.set x.lanesTx p {} L }

/-- The detail word of an HL_ or TAB_ source (R401). -/
def hlDetail (lane reason seq : Nat) : FaultInfo := { detail := lane + reason * 2 ^ 8 + seq * 2 ^ 16 }

/-! ### Symbols of a lane (R71, R73) -/

/-- Whether the calibration loop of a track runs: not under TRIM_FREEZE, not in L1 or L3, not while its rows do not come (R81, R168). -/
def State.calRuns (s : State) (t : Nat) : Bool :=
  let st := s.fld Fld.TRK_LSTATE_RX_STATE t
  !s.flag Fld.TRK_CAL_CFG_TRIM_FREEZE t && st != 1 && st != 3 && (s.trk t).rx.mode != .stalled

/-- A symbol error of a lane counts toward ERR_LIMIT and into the open calibration window (R81, R90). -/
def State.laneErr (s : State) (t p : Nat) : State :=
  let L := s.rxLane t p
  s.setRxLane t p { L with winErr := L.winErr + 1, calErr := L.calErr + b2n (s.calRuns t) }

/-- A code violation of a lane (R71, R73). -/
def State.laneViol (s : State) (t p : Nat) : State := (s.bump Fld.TRK_LANE_CODE_VIOL_COUNT t p).laneErr t p

/-- One symbol into a receive lane: signal, disparity, error counters (R73). -/
def State.rxSymbol (s : State) (t p : Nat) (sym : BitVec 10) (sig : Bool) : State × LaneSym :=
  let L := s.rxLane t p
  if ¬ sig then
    ((s.setFld Fld.TRK_LANE_STATUS_SIG_DET 0 t p).setRxLane t p { L with free := 4, sig := false },
     { sym := .viol, err := true })
  else
    let (y, wrong, rd) := decode10 sym L.disp
    let de := wrong && L.free = 0
    let s := s.setFld Fld.TRK_LANE_STATUS_SIG_DET 1 t p
    let s := s.setRxLane t p { L with disp := rd, free := L.free - 1, sig := true }
    let s := s.when (y = .viol) fun s => s.laneViol t p
    let s := s.when de fun s => (s.bump Fld.TRK_LANE_DISP_ERR_COUNT t p).laneErr t p
    (s, { sym := y, err := y = .viol || de })

/-! ### Sparing requests (R88 to R90) -/

/-- Send REQ with a fresh target on the lowest standby spare of the direction, or retrain at once: the direction, or the device's own transmit direction, has no standby spare (R88 step 1, R89). -/
def State.trySpare (s : State) (t pos tries : Nat) : State :=
  match s.standby t false with
  | none => (s.raise .hlSpareExhausted t { detail := pos }).retrain t 0x23
  | some sp =>
    match s.standby t true with
    | none => s.retrain t 0x23
    | some _ => s.modTrk t fun x => { x with
        spY := some { pos := pos, spare := sp, target := x.rx.blk + 16, tries := tries } }

/-- Ask for sparing of a receive position (R89, R90): ignored with CFG_REJECT while it is served by a spare or another sparing runs. On a track that is not READY the request runs as on one that is (log entry 113). -/
def State.requestSparing (s : State) (t pos : Nat) : State :=
  if (s.spareOf t false pos).isSome ∨ (s.trk t).spY.isSome then
    s.setFld Fld.TRK_LSTATE_CFG_REJECT 1 t
  else s.trySpare t pos 0

/-- A sparing attempt of the device as receiver failed: twice a retry with a fresh target, then HL_SPARE_FAIL and a retrain (R89). -/
def State.spareFailed (s : State) (t : Nat) : State :=
  match (s.trk t).spY with
  | none => s
  | some y =>
    if y.tries ≥ 2 then (s.raise .hlSpareFail t { detail := y.pos }).retrain t 0x23
    else s.trySpare t y.pos (y.tries + 1)

/-- The bytes of a lane management message: code, position and spare, target, check (R86). -/
def mgmtBytes (code : Byte) (m : LaneMsg) : List Byte :=
  let b := BitVec.ofNat 8 (m.pos.val + 16 * b2n m.spare)
  [code, b, m.target, code ^^^ b ^^^ m.target ^^^ 0x5A]

/-- The message that four management bytes spell; none where the check byte is wrong (R86, R87). -/
def mgmtOf : List Byte → Option (Byte × LaneMsg)
  | [a, b, c, d] =>
    if a ^^^ b ^^^ c ^^^ 0x5A = d then
      some (a, { pos := ⟨b.toNat % 16, by omega⟩, spare := b.getLsbD 4, target := c })
    else none
  | _ => none

/-- A lane management message leaves the list of those the lanes have accepted; where it is not there, it is accepted now (R87; log entry 7). -/
def State.takeMgmt (s : State) (t : Nat) (code : Byte) (m : LaneMsg) : State :=
  s.modRx t fun x => { x with mgmt := x.mgmt.erase (code, m) }

/-- The sequence number of the next block to be sent. -/
def TxState.next (x : TxState) : Byte := if x.row = 0 then x.blk else x.blk + 1

/-- LANE_MGMT_REQ_RX: ACK when the target lies 4 to 128 blocks ahead of the next sequence number, otherwise REJ (R88 step 2). REJ too where the spare named is not STANDBY or another sparing of the direction waits for its block (log entry 114). -/
def execLaneMgmtReqRx (t : TrackIx) (m : LaneMsg) (s : State) : Out :=
  let ahead := (m.target - (s.trk t).tx.next).toNat
  .next <| if s.linkIs t .ready then
    let s := s.takeMgmt t 0x01 m
    let x : SpareX := { pos := m.pos.val, spare := m.spare, target := m.target }
    if (s.trk t).spX = some x then s
    else if 4 ≤ ahead ∧ ahead ≤ 128 ∧ s.spareIs t true m.spare .standby ∧ (s.trk t).spX.isNone then
      s.modTrk t fun y => { y with spX := some x, rej := none }
    else s.modTrk t fun y => { y with rej := some m }
  else s

/-- LANE_MGMT_ACK_RX: the receiver will read the spare from block T on (R88 step 4). -/
def execLaneMgmtAckRx (t : TrackIx) (m : LaneMsg) (s : State) : Out :=
  .next <| match (s.trk t).spY with
  | none => s
  | some y =>
    let s := s.takeMgmt t 0x02 m
    if y.pos = m.pos.val ∧ y.spare = m.spare ∧ y.target = m.target then
      s.modTrk t fun x => { x with spY := some { y with acked := true } }
    else s

/-- LANE_MGMT_REJ_RX: a failed attempt (R89). -/
def execLaneMgmtRejRx (t : TrackIx) (m : LaneMsg) (s : State) : Out :=
  .next <| match (s.trk t).spY with
  | none => s
  | some y =>
    let s := s.takeMgmt t 0x03 m
    if y.pos = m.pos.val ∧ y.target = m.target ∧ ¬ y.acked then s.spareFailed t else s

/-- LANE_SPARE_REQ_TIMEOUT: 32 blocks of the direction without ACK or REJ; a failed attempt (R88, R89). -/
def execLaneSpareReqTimeout (t : TrackIx) (s : State) : Out :=
  .next <| match (s.trk t).spY with
  | none => s
  | some y => if y.acked ∨ y.blocks < 32 then s else s.spareFailed t

/-- Put a spare into service for a position of a direction. -/
def State.activateSpare (s : State) (t : Nat) (tx spare : Bool) (pos : Nat) : State :=
  (s.setFld (spareFld tx spare) SpareState.active.code t).setFld (sparePosFld tx spare) pos t

/-- Whether block T has been reached: it is the next block, or one of the 63 before it (R88). -/
def reached (next target : Byte) : Bool := (next - target).toNat < 64

/-- The sequence number of the next block to be received. -/
def RxFrame.next (x : RxFrame) : Byte := x.blk + 1

/-- Whether the header of block T comes next, or has come (R88 step 4). -/
def RxFrame.at (x : RxFrame) (target : Byte) : Bool :=
  reached x.blk target || (x.row ≥ 256 && reached x.next target)

/-- The transmitter's next header is that of block T, or of a later one (R88 step 3). -/
def TxState.at (x : TxState) (target : Byte) : Bool :=
  reached x.blk target && x.row ≠ 0 || ((x.row = 0 || x.row ≥ 256) && reached x.next target)

/-- LANE_SPARE_SWITCH: from block T the transmitter copies the position onto the spare (tx), or the receiver reads the spare; the sparing is complete (R88 steps 3 and 4, R89). -/
def execLaneSpareSwitch (t : TrackIx) (tx : Bool) (s : State) : Out :=
  .next <|
  if tx then
    match (s.trk t).spX with
    | none => s
    | some x =>
      if (s.trk t).tx.at x.target then
        ((s.activateSpare t true x.spare x.pos).modTrk t fun y => { y with
          spX := none, retireTx := y.retireTx ++ [(x.pos, x.target + 16)] }).raise .hlLaneSpared t { detail := x.pos }
      else s
  else
    match (s.trk t).spY with
    | none => s
    | some y =>
      if y.acked ∧ (s.trk t).rx.at y.target then
        ((s.activateSpare t false y.spare y.pos).modTrk t fun z => { z with
          spY := none, retireRx := z.retireRx ++ [(y.pos, y.target + 16)] }).raise .hlLaneSpared t { detail := y.pos }
      else s

/-! ### Block lock (R77, R78) -/

/-- Whether a lane serves position 15, whose header symbol is the sequence number (R78). -/
def State.isSeqLane (s : State) (t p : Nat) : Bool := s.posOfLane t p = some 15

/-- The header test of a lane at a position (R78). -/
def headerTest (seqLane : Bool) (L : LaneRx) (locked : Bool) (y : Sym) : Bool :=
  if seqLane then
    match y with
    | .data b => (¬ locked ∧ L.succ = 0) ∨ b = L.lastSeq + 1
    | _ => false
  else y = .ctl .com

/-- The value a lane keeps as that of the previous expected position. -/
def seqAfter (L : LaneRx) (y : Sym) : Byte :=
  match y with
  | .data b => b
  | _ => L.lastSeq + 1

/-- The lane hunts from the next row on. -/
def LaneRx.hunt (L : LaneRx) : LaneRx := { L with since := 0, succ := 0, fail := 0 }

/-- A failed header test of a lane (R77, R78): the miss counter; a locked lane leaves lock at the fourth in a row. Answers whether it did. -/
def State.lockMiss (s : State) (t p : Nat) (locked : Bool) : State × Bool :=
  let L := s.rxLane t p
  let s := s.bump Fld.TRK_LANE_HDR_MISS_COUNT t p
  if ¬ locked then (s.setRxLane t p L.hunt, false)
  else if L.fail + 1 ≥ 4 then
    (((s.bump Fld.TRK_LANE_LOCK_LOSS_COUNT t p).setFld Fld.TRK_LANE_STATUS_BLK_LOCK 0 t p).setRxLane t p L.hunt, true)
  else (s.setRxLane t p { L with since := 1, fail := L.fail + 1, lastSeq := L.lastSeq + 1 }, false)

/-- One row past a lane's block-lock machine: the header test at its expected position, success and failure counts, lock and lock loss (R77). `skip`: the row is a skip row. Answers whether the lane lost lock. -/
def State.lockStep (s : State) (t p : Nat) (y : Sym) (skip : Bool) : State × Bool :=
  let L := s.rxLane t p
  let locked := s.flag Fld.TRK_LANE_STATUS_BLK_LOCK t p
  if 0 < L.since ∧ L.since < 256 then (s.setRxLane t p { L with since := L.since + 1 }, false)
  else if skip then (s, false)
  else if headerTest (s.isSeqLane t p) L locked y then
    let succ := if L.since = 0 then 1 else min 16 (L.succ + 1)
    let s := s.setRxLane t p { L with since := 1, succ := succ, fail := 0, lastSeq := seqAfter L y }
    (if succ ≥ 16 then s.setFld Fld.TRK_LANE_STATUS_BLK_LOCK 1 t p else s, false)
  else s.lockMiss t p locked

/-- What the device does when a lane leaves lock while the track is READY (R80, R90). -/
def State.onLockLoss (s : State) (t p : Nat) : State :=
  match s.posOfLane t p with
  | none => s
  | some q =>
    if s.linkIs t .ready then
      (s.raise .hlLaneLockLoss t { detail := p }).when (s.flag Fld.TRK_SPARE_CFG_AUTO_EN t) fun s =>
        s.requestSparing t q
    else s

/-- Sparing when a lane's symbol errors reach ERR_LIMIT within the window (R90). -/
def State.checkErrLimit (s : State) (t p : Nat) : State :=
  match s.posOfLane t p with
  | none => s
  | some q =>
    let L := s.rxLane t p
    if s.linkIs t .ready ∧ s.flag Fld.TRK_SPARE_CFG_AUTO_EN t ∧
        L.winErr ≥ s.fld Fld.TRK_SPARE_CFG_ERR_LIMIT t ∧ ¬ (s.trk t).spY.any (fun y => y.pos = q) then
      (s.setRxLane t p { L with winErr := 0 }).requestSparing t q
    else s

/-- SPARE_ERR_WINDOW_END: SPARE_CFG.WINDOW frames have passed; every lane's error count restarts (R90). -/
def execSpareErrWindowEnd (t : TrackIx) (s : State) : Out :=
  .next <| if (s.trk t).errTicks < s.fld Fld.TRK_SPARE_CFG_WINDOW t then s else
    s.modTrk t fun x => { x with
      lanesRx := x.lanesRx.map fun e => (e.1, { e.2 with winErr := 0 }), errTicks := 0 }

/-! ### Threshold calibration (R81 to R83) -/

/-- Symbols of a window: TRAIN_WINDOW in training and L3 exit, WINDOW in service, in units of 1,024 (R81). R81 names training phase 1; every phase of training takes TRAIN_WINDOW here (log entry 115). -/
def State.calWindow (s : State) (t : Nat) : Nat :=
  1024 * (if s.linkIs t .training then s.fld Fld.TRK_CAL_CFG_TRAIN_WINDOW t
          else s.fld Fld.TRK_CAL_CFG_WINDOW t)

/-- The new OFFSET and LEVEL codes of one accepted window (R81). -/
def calStep (nb : Nat) (n : CalCount) (off lvl : Int) : Int × Int :=
  let q : Int := (nb / 256 : Nat)
  let e : Int := 2 * (n.n1c : Int) - (nb : Int)
  let off' := if e > q then min (off + 1) 63 else if e < -q then max (off - 1) (-64) else off
  let h : Int := (n.n1d / 128 : Nat)
  let g : Int := 2 * (n.n1l : Int) - (n.n1d : Int)
  let lvl' := if g > h then min (lvl + 1) 63 else if g < -h then max (lvl - 1) 0 else lvl
  (off', lvl')

/-- Whether a lane receives valid 8b/10b (R83): signal is there and no PRBS checker runs on it. -/
def State.calValid (s : State) (t p : Nat) : Bool :=
  (s.rxLane t p).sig && s.fld Fld.TRK_PRBS_CTL_CHK_SEL t p = 0

/-- A lane's window closes (R81 to R83): rejected, or its trims are staged for the next tick. Two windows in a row that change nothing finish phase 1 on the lane (R110). -/
def State.closeWindow (s : State) (t p : Nat) (n : CalCount) : State :=
  let L := s.rxLane t p
  let nb := 10 * s.calWindow t
  if L.calErr > 0 ∨ 10 * n.nt < 3 * nb ∨ ¬ n.valid ∨ ¬ s.calValid t p then
    (s.bump Fld.TRK_LANE_CAL_REJECT_COUNT t p).setRxLane t p { L with calErr := 0, still := 0 }
  else
    let off := signedOf 7 (s.fld Fld.TRK_RX_TRIM_OFFSET t p)
    let lvl : Int := s.fld Fld.TRK_RX_TRIM_LEVEL t p
    let (off', lvl') := calStep nb n off lvl
    let still := if off' = off ∧ lvl' = lvl then L.still + 1 else 0
    s.setRxLane t p { L with
      calErr := 0, still := still, settled := L.settled || still ≥ 2, trim := some (signedTo 7 off', lvl'.toNat) }

/-- Step 3 of the tick for one lane: staged trims and equaliser settings take effect, and a window open over the change is discarded (R62, R82, R84). -/
def State.applyLane (s : State) (t p : Nat) : State :=
  let L := s.rxLane t p
  let s := match L.trim with
    | none => s
    | some (o, l) => (s.setFld Fld.TRK_RX_TRIM_OFFSET o t p).setFld Fld.TRK_RX_TRIM_LEVEL l t p
  let s := match L.eq with
    | none => s
    | some (c, h1, h2, h3) =>
      (((s.setFld Fld.TRK_RX_EQ_CTLE c t p).setFld Fld.TRK_RX_EQ_H1 h1 t p).setFld
        Fld.TRK_RX_EQ_H2 h2 t p).setFld Fld.TRK_RX_EQ_H3 h3 t p
  if L.trim.isSome ∨ L.eq.isSome then
    s.setRxLane t p { L with trim := none, eq := none, calErr := if L.trim.isSome then 0 else L.calErr }
  else s

/-- A step of −1, 0 or 1 on a code, held within its range. -/
def stepCode (lo hi v d : Int) : Int := max lo (min hi (v + max (-1) (min 1 d)))

/-- Stage the equaliser correction of a lane, once a frame, not in L1 or L3 (R84): each tap or code by at most one step. -/
def State.stageEq (s : State) (t : Nat) (e : EqStep) : State :=
  let p := e.lane.val
  let st := s.fld Fld.TRK_LSTATE_RX_STATE t
  if s.flag Fld.TRK_CAL_CFG_EQ_FREEZE t ∨ st = 1 ∨ st = 3 ∨ (s.rxLane t p).eq.isSome then s else
  let c := stepCode 0 15 (s.fld Fld.TRK_RX_EQ_CTLE t p) e.ctle
  let h1 := stepCode (-32) 31 (signedOf 6 (s.fld Fld.TRK_RX_EQ_H1 t p)) e.h1
  let h2 := stepCode (-16) 15 (signedOf 5 (s.fld Fld.TRK_RX_EQ_H2 t p)) e.h2
  let h3 := stepCode (-16) 15 (signedOf 5 (s.fld Fld.TRK_RX_EQ_H3 t p)) e.h3
  s.setRxLane t p { s.rxLane t p with eq := some (c.toNat, signedTo 6 h1, signedTo 5 h2, signedTo 5 h3) }

/-! ### PRBS (R98) -/

/-- Degree and inner tap of the sequence a select code names: PRBS7, PRBS15, PRBS31 (R98). -/
def prbsTaps : Nat → Option (Nat × Nat)
  | 1 => some (7, 6)
  | 2 => some (15, 14)
  | 3 => some (31, 28)
  | _ => none

/-- One bit of a generator: the new bit is the sum of its two taps (R98). -/
def prbsBit (deg tap reg : Nat) : Bool × Nat :=
  let b := reg.testBit (deg - 1) ^^ reg.testBit (tap - 1)
  (b, (2 * reg + b2n b) % 2 ^ deg)

/-- Ten bits of a generator, first bit in bit 9, and the register after them. -/
def prbsSym (deg tap reg : Nat) : BitVec 10 × Nat :=
  (List.range 10).foldl (fun (acc : BitVec 10 × Nat) _ =>
    let (b, r) := prbsBit deg tap acc.2
    (acc.1 <<< 1 ||| BitVec.ofNat 10 (b2n b), r)) (0, reg)

/-- A checker while it takes a row's bits: the lane, whether it is in sync, bits compared and mismatches so far. -/
structure PrbsRun where
  lane : LaneRx
  sync : Bool
  bits : Nat := 0
  errs : Nat := 0
deriving DecidableEq, Repr

/-- The checker starts again from the received bits (R98). -/
def LaneRx.prbsReseed (L : LaneRx) : LaneRx := { L with prbs := 0, prbsSeed := 0, prbsRun := 0, prbsHist := 0 }

/-- One received bit into a checker (R98): seeding; seeking 256 bits without error; in sync, compared against its own register, out of sync after 64 errors within the last 256 bits (log entry 116). -/
def prbsTake (deg tap : Nat) (a : PrbsRun) (b : Bool) : PrbsRun :=
  let L := a.lane
  if L.prbsSeed < deg then
    { a with lane := { L with prbs := (2 * L.prbs + b2n b) % 2 ^ deg, prbsSeed := L.prbsSeed + 1 } }
  else
    let (c, r) := prbsBit deg tap L.prbs
    let bad := b != c
    if a.sync then
      let h := (2 * L.prbsHist + b2n bad) % 2 ^ 256
      let lost := popN 256 h ≥ 64
      { lane := if lost then L.prbsReseed else { L with prbs := r, prbsHist := h }
        sync := !lost, bits := a.bits + 1, errs := a.errs + b2n bad }
    else if bad then { a with lane := L.prbsReseed }
    else
      let n := L.prbsRun + 1
      { a with lane := { L with prbs := r, prbsRun := if n ≥ 256 then 0 else n }, sync := n ≥ 256 }

/-- Whether a lane may run a PRBS unit: its track is disabled, or it is a spare in TEST (R99). -/
def State.prbsAllowed (s : State) (t p : Nat) (tx : Bool) : Bool :=
  (!s.flag Fld.TRK_TRAIN_CTL_EN t && s.linkIs t .disabled) || (p ≥ 16 && s.spareIs t tx (p = 17) .test)

/-- The ten bits of a row-time into the checker of a lane, first bit first (R98, R99). -/
def State.prbsCheck (s : State) (t p : Nat) (sym : BitVec 10) : State :=
  match prbsTaps (s.fld Fld.TRK_PRBS_CTL_CHK_SEL t p) with
  | none => s
  | some (deg, tap) =>
    if ¬ s.prbsAllowed t p false then s else
    let sync := s.flag Fld.TRK_LANE_STATUS_PRBS_SYNC t p
    let a := [9, 8, 7, 6, 5, 4, 3, 2, 1, 0].foldl (fun a i => prbsTake deg tap a (sym.getLsbD i))
      { lane := s.rxLane t p, sync := sync }
    let s := (s.bump Fld.TRK_LANE_PRBS_BITS_COUNT t p a.bits).bump Fld.TRK_LANE_PRBS_ERR_COUNT t p a.errs
    (s.setRxLane t p a.lane).setFlag Fld.TRK_LANE_STATUS_PRBS_SYNC a.sync t p

/-! ### Injection (R100) -/

/-- What one symbol becomes under an injection mode; none where the symbol is not eligible (R100). `hdr`: the row is a block header. -/
def injectSym (mode : Nat) (hdr : Bool) (y : Sym) (rd : Bool) (sym : BitVec 10) : Option (BitVec 10) :=
  match mode with
  | 0 => some sym
  | 1 => some (sym ^^^ 0x200#10)
  | 2 => match y with
    | .data b => if (encData b (!rd)).1 = sym then none else some (encData b (!rd)).1
    | _ => none
  | 3 => if hdr then
      match y with
      | .ctl .com => some (encData 0 rd).1
      | .data b => some (encData (b + 2) rd).1
      | _ => none
    else none
  | _ => none

/-- An injection has been made on a lane: the next waits INTERVAL symbols; after the last ACTIVE reads 0 (R100). -/
def State.injected (s : State) (t p : Nat) : State :=
  let L := s.txLane t p
  let s := s.when (L.injLeft = 1) fun s => s.setFld Fld.TRK_INJ_CTL_ACTIVE 0 t p
  s.setTxLane t p { L with injLeft := L.injLeft - 1, injWait := s.fld Fld.TRK_INJ_CTL_INTERVAL t p - 1 }

/-- Encode a symbol on a transmit lane, with the lane's disparity and injections; a lane that was not driven starts negative (R72, R100). -/
def State.txSymbol (s : State) (t p : Nat) (hdr : Bool) (y : Sym) : State × BitVec 10 :=
  let L := s.txLane t p
  let rd0 := L.on && L.disp
  let (sym, rd) := match y with
    | .data b => encData b rd0
    | .ctl k => encCtl k rd0
    | .viol => (0, rd0)
  let inj := if L.injLeft > 0 ∧ L.injWait = 0 then
      injectSym (s.fld Fld.TRK_INJ_CTL_MODE t p) hdr y rd0 sym else none
  let M : LaneTx := { L with disp := rd, on := true }
  match inj with
  | none => (s.setTxLane t p { M with injWait := L.injWait - 1 }, sym)
  | some sym' => ((s.setTxLane t p M).injected t p, sym')

/-- The symbol of a lane not driven with the code: its generator's bits where one runs, idle elsewhere; mode 4 inverts the first bit (R72, R98 to R100). -/
def State.txPrbs (s : State) (t p : Nat) : State × BitVec 10 :=
  let L := s.txLane t p
  match (if s.prbsAllowed t p true then prbsTaps (s.fld Fld.TRK_PRBS_CTL_GEN_SEL t p) else none) with
  | none => (if L.on then s.setTxLane t p { L with on := false } else s, 0)
  | some (deg, tap) =>
    let reg := if L.prbs = 0 then (Config.prbsSeed t p).toNat % 2 ^ deg else L.prbs
    let (sym, reg') := prbsSym deg tap reg
    let M : LaneTx := { L with prbs := reg', on := false }
    if L.injLeft > 0 ∧ L.injWait = 0 ∧ s.fld Fld.TRK_INJ_CTL_MODE t p = 4 then
      ((s.setTxLane t p M).injected t p, sym ^^^ 0x200#10)
    else (s.setTxLane t p { M with injWait := L.injWait - 1 }, sym)

end Sys2Proof.Machine
end

