-- ==== Sys2Proof/Machine/Packets.lean ====
section
/-! DEFINITION. Host packets, receive side and bookkeeping (05): header rows, acceptance, sequence numbers and acknowledgement, replay, responses, stalls, and what a received row does. -/
namespace Sys2Proof.Machine

/-! ### Packet costs -/

/-- Whether a packet is sequenced (R145). -/
def Pkt.sequenced (p : Pkt) : Bool := p.typ != 0 || p.retReq != 0 || p.retData != 0

/-- Malformed by its header alone: reasons 0x01, 0x02, 0x03, 0x06 (R158). -/
def Pkt.headReason (p : Pkt) : Option Nat :=
  let n := p.len.toNat
  match pktType p.typ with
  | .other => some 0x01
  | .nul => if n ≠ 0 ∨ p.tag ≠ 0 then some 0x06 else none
  | .rd => if n ≥ 9 then some 0x02 else none
  | .wr => if n ≥ 9 then some 0x02 else none
  | .wrm => if n ≥ 9 then some 0x02 else none
  | .fen => if n ≥ 9 then some 0x02 else if n ≠ 0 then some 0x03 else none
  | .rrd => if n ≥ 9 then some 0x02 else if n ≠ 0 then some 0x03 else none
  | .rwr => if n ≥ 9 then some 0x02 else if n ≠ 1 then some 0x03 else none

/-- Payload rows that follow a header (R139, R157, R158): two a unit of LEN, one more for the mask row of a WRM; none for reasons 0x01 and 0x02. RD carries none. -/
def Pkt.rows (p : Pkt) : Nat :=
  let n := p.len.toNat
  match p.headReason with
  | some 0x01 => 0
  | some 0x02 => 0
  | some _ => if n ≤ 8 then 2 * n else 0
  | none => match pktType p.typ with
    | .wr => 2 * n
    | .wrm => 2 * n + 1
    | .rwr => 2 * n
    | _ => 0

/-- The cost of a host packet in request-class and data tablets (R122, R158). -/
def Pkt.cost (p : Pkt) : Nat × Nat :=
  let n := p.len.toNat
  match p.headReason with
  | some 0x01 => (1, 0)
  | some 0x02 => (1, 0)
  | some 0x06 => (0, n)
  | some _ => (1, n)
  | none => match pktType p.typ with
    | .nul => (0, 0)
    | .wr => (1, n)
    | .wrm => (1, n + 1)
    | .rwr => (1, n)
    | _ => (1, 0)

/-! ### The header row (R136, R137) -/

/-- Bytes of a 128-bit row, byte i in bits 8i + 7 to 8i (R136). -/
def rowBytes (r : BitVec 128) : List Byte := bytesLE 16 r

/-- A row from its bytes. -/
def rowOf (bs : List Byte) : BitVec 128 := BitVec.ofNat 128 (ofBytesLE bs)

/-- The header row of a packet with the tail lamp, ACK_SEQ and NAK of the moment (R136, R150). -/
def Pkt.header (p : Pkt) (tail : BitVec 24) (ack : Byte) (nak : Bool) : BitVec 128 :=
  let n : Nat := tail.toNat + p.typ.toNat * 2 ^ 24 + p.tag.toNat * 2 ^ 29 + p.master.toNat * 2 ^ 43 +
    p.len.toNat * 2 ^ 49 + p.addr.toNat * 2 ^ 53 + p.seq.toNat * 2 ^ 85 + ack.toNat * 2 ^ 93 +
    b2n nak * 2 ^ 101 + p.retReq.toNat * 2 ^ 102 + p.retData.toNat * 2 ^ 106
  let c := hcrc (natBytes 14 n)
  BitVec.ofNat 128 (n + c.toNat * 2 ^ 112)

/-- A header row read: its fields and its tail lamp; none where HCRC fails (R136, R137). -/
def parseHeader (r : BitVec 128) : Option (Pkt × BitVec 24) :=
  let n := r.toNat
  if hcrc ((rowBytes r).take 14) = BitVec.ofNat 16 (bits n 127 112) then
    some ({ typ := BitVec.ofNat 5 (bits n 28 24), tag := BitVec.ofNat 14 (bits n 42 29)
            master := BitVec.ofNat 6 (bits n 48 43), len := BitVec.ofNat 4 (bits n 52 49)
            addr := BitVec.ofNat 32 (bits n 84 53), seq := BitVec.ofNat 8 (bits n 92 85)
            ackSeq := BitVec.ofNat 8 (bits n 100 93), nak := n.testBit 101
            retReq := BitVec.ofNat 4 (bits n 105 102), retData := BitVec.ofNat 6 (bits n 111 106) },
          BitVec.ofNat 24 (bits n 23 0))
  else none

/-- Two payload rows make one 32-byte unit (R139). -/
def unitsOf : List (BitVec 128) → List Unit32
  | a :: b :: rest => (b ++ a) :: unitsOf rest
  | _ => []

/-- The payload rows of a unit, low row first. -/
def rowsOfUnit (u : Unit32) : List (BitVec 128) := [u.extractLsb' 0 128, u.extractLsb' 128 128]

/-- A packet with its payload put together from its rows in order (R139, R157); a type without payload keeps none of rows framed by its LEN (R158). -/
def Pkt.withRows (p : Pkt) (rows : List (BitVec 128)) : Pkt :=
  match pktType p.typ with
  | .wrm => if rows.length % 2 = 1 then { p with mask := rows.headD 0, data := unitsOf rows.tail } else { p with data := unitsOf rows }
  | .wr => { p with data := unitsOf rows }
  | .rwr => { p with data := unitsOf rows }
  | _ => p

/-- Payload rows of a packet the device sends. -/
def Pkt.payload (p : Pkt) : List (BitVec 128) := p.data.flatMap rowsOfUnit

/-! ### Raising a link source -/

/-- Raise HL_MALFORMED with its reason and count it (R158, R174). -/
def State.malformed (s : State) (t : Nat) (p : Pkt) (reason : Nat) : State :=
  (s.bump Fld.TRK_PKT_CNT_COUNT t 6).raise .hlMalformed t
    { hlDetail 0 reason p.seq.toNat with req := some (t, p.master.toNat, p.tag.toNat) }

/-! ### Tablet returns (R123, R124) -/

/-- Tablets become due for return on a track. -/
def State.returnTablets (s : State) (t req data : Nat) : State :=
  s.modTx t fun x => { x with retReq := x.retReq + req, retData := x.retData + data }

/-- The tablets of a request become due for return where its session still owes them (R118, R123, R131). -/
def State.returnFor (s : State) (t ord req data : Nat) : State :=
  if s.owesFor ord then s.returnTablets t req data else s

/-! ### Acceptance (R142, R127) -/

/-- 32-bit wrapping addition of a number. -/
def add32 (x : BitVec 32) (n : Nat) : BitVec 32 := x + BitVec.ofNat 32 n

/-- Account for an accepted packet: sequence, census counters, tablets held, returns taken; a request opens its tag, takes the next order number and ends NAP (R122, R125, R127, R142, R457). -/
def State.account (s : State) (t : Nat) (p : Pkt) : State :=
  let (cr, cd) := p.cost
  let opens := b2n (pktType p.typ).isReq
  let s := s.setFld Fld.TRK_PKT_SEQ_RX_LAST p.seq.toNat t
  let s := s.bump Fld.TRK_PKT_RX_COUNT_COUNT t
  let s := s.setFld Fld.TRK_POOL_RX_REQ_HELD (s.fld Fld.TRK_POOL_RX_REQ_HELD t + cr) t
  let s := s.setFld Fld.TRK_POOL_RX_DATA_HELD (s.fld Fld.TRK_POOL_RX_DATA_HELD t + cd) t
  let s := s.setFld Fld.TRK_POOL_TX_REQ_FREE (s.fld Fld.TRK_POOL_TX_REQ_FREE t + p.retReq.toNat) t
  let s := s.setFld Fld.TRK_POOL_TX_DATA_FREE (s.fld Fld.TRK_POOL_TX_DATA_FREE t + p.retData.toNat) t
  let s := s.setFld Fld.TRK_CENSUS_STATUS_TAGS_OPEN (s.fld Fld.TRK_CENSUS_STATUS_TAGS_OPEN t + opens) t
  let s := s.modTrk t fun x =>
    let c := x.ses.counts
    let c := { c with rxr := add32 c.rxr cr, rxd := add32 c.rxd cd, acc := add32 c.acc opens
                      rtr := add32 c.rtr p.retReq.toNat, rtd := add32 c.rtd p.retData.toNat }
    { x with
      ses := { x.ses with counts := c
                          rxRec := ({ seq := p.seq, a := c.rtr, b := c.rtd, c := c.acc } :: x.ses.rxRec).take 256 }
      rx := { x.rx with nak := false }, tx := { x.tx with ackDue := true } }
  if opens = 1 then
    let s := if s.inState .nap then s.setFld Fld.GLB_STATE_STATE PowerState.run.code else s
    { s with
      park := { s.park with idle := 0 }
      ord := s.ord + 1
      tags := s.tags ++ [{ ord := s.ord + 1, tag := p.tag, track := t, master := p.master
                           zero := (pktType p.typ).isMem && p.len = 0, fen := pktType p.typ = .fen
                           dup := s.tags.any fun o => o.tag = p.tag && !o.dead }] }
  else s

/-- Accept a packet (R142): account for it; one of an unused type or a malformed NUL is finished at once, returning its cost (R158). Answers the order number of a request. -/
def State.accept (s : State) (t : Nat) (p : Pkt) : State × Nat :=
  let s := s.account t p
  let (cr, cd) := p.cost
  match p.headReason with
  | some 0x01 => ((s.malformed t p 0x01).returnTablets t cr cd, 0)
  | some 0x06 => ((s.malformed t p 0x06).returnTablets t cr cd, 0)
  | _ => (s, if (pktType p.typ).isReq then s.ord else 0)

/-- Accept a packet off the lanes: a request, or a NUL, waits in the inbox for its command. -/
def State.acceptToInbox (s : State) (t : Nat) (p : Pkt) : State :=
  let (s, ord) := s.accept t p
  if p.headReason = some 0x01 ∨ p.headReason = some 0x06 then s
  else s.modRx t fun x => { x with inbox := x.inbox ++ [(p, ord)] }

/-- Two packets that ask the same. -/
def Pkt.same (p q : Pkt) : Bool :=
  p.typ = q.typ && p.tag = q.tag && p.master = q.master && p.len = q.len && p.addr = q.addr &&
  p.mask = q.mask && p.data = q.data

/-! ### Acknowledgement and replay (R146 to R152) -/

/-- Start a replay from packet n + 1 (R149). Where REPLAY_LIMIT replays from this packet have gone before without an advance, HL_REPLAY_STALL is raised, once for the run (R152). -/
def State.startReplay (s : State) (t : Nat) (n : Byte) : State :=
  let x := (s.trk t).tx
  if x.replay.isEmpty then s else
  let stall := !x.stalled && decide (x.reps ≥ s.fld Fld.TRK_PKT_CFG_REPLAY_LIMIT t)
  let s := s.bump Fld.TRK_PKT_CNT_COUNT t 5
  let s := s.modTx t fun y => { y with
    rep := some (n + 1), repWait := true, reps := x.reps + 1, stalled := x.stalled || stall, ackBlk := 0 }
  if stall then
    (s.setFld Fld.TRK_PKT_STATUS_REPLAY_STALL 1 t).raise .hlReplayStall t (hlDetail 0 0 (n + 1).toNat)
  else s

/-- Whether n lies in a guard interval, or a replay from n + 1 waits to begin (R149). -/
def TxState.guarded (x : TxState) (n : Byte) : Bool :=
  (match x.guard with
   | some (m, k) => m = n && k > 0
   | none => false) || (x.repWait && x.rep = some (n + 1))

/-- Drop the replay entries up to and including a sequence number. -/
def dropThrough (n : Byte) : List Pkt → List Pkt
  | [] => []
  | p :: ps => if p.seq = n then ps else dropThrough n ps

/-- Use the ACK_SEQ and NAK of a header that passed HCRC (R143, R146, R149). NAK_RX counts every such header with NAK 1 (log entry 119). -/
def State.takeAck (s : State) (t : Nat) (ack : Byte) (nak : Bool) : State :=
  let x := (s.trk t).tx
  let s := if x.replay.any fun p => p.seq = ack then
      let rest := dropThrough ack x.replay
      let s := s.setFld Fld.TRK_PKT_SEQ_TX_ACKED ack.toNat t
      let s := s.setFld Fld.TRK_PKT_SEQ_UNACKED rest.length t
      s.modTx t fun y => { y with replay := rest, ackBlk := 0, reps := 0, stalled := false }
    else s
  if nak then
    let s := s.bump Fld.TRK_PKT_CNT_COUNT t 4
    if (s.trk t).tx.guarded ack then s else s.startReplay t ack
  else s

/-- Take a packet that a command presents: the first such one of the inbox, or, where the lanes have not brought it, the packet accepted now with the next sequence number, its acknowledgement used (R146; log entry 7). -/
def State.takeIn (s : State) (t : Nat) (p : Pkt) : State × Nat :=
  match (s.trk t).rx.inbox.find? fun e => e.1.same p with
  | some e => (s.modRx t fun x => { x with inbox := x.inbox.erase e }, e.2)
  | none => (s.takeAck t p.ackSeq p.nak).accept t { p with seq := BitVec.ofNat 8 (s.fld Fld.TRK_PKT_SEQ_RX_LAST t + 1) }

/-- ACK_TIMEOUT: the oldest unacknowledged packet saw no advance for ACK_TIMEOUT blocks; a replay starts from it (R149). -/
def execAckTimeout (t : TrackIx) (s : State) : Out :=
  .next <| if s.linkIs t .ready ∧ (s.trk t).tx.ackBlk ≥ s.fld Fld.TRK_PKT_CFG_ACK_TIMEOUT t then
    s.startReplay t (BitVec.ofNat 8 (s.fld Fld.TRK_PKT_SEQ_TX_ACKED t)) else s

/-- A return waits to be sent. -/
def TxState.owes (x : TxState) : Bool := x.retReq > 0 || x.retData > 0

/-- RETURN_PENDING_TIMEOUT: a return pending for 64 row-times falls due for a NUL (R124). -/
def execReturnPendingTimeout (t : TrackIx) (s : State) : Out :=
  .next <| if (s.trk t).tx.owes ∧ (s.trk t).tx.retRows ≥ 64 then
    s.modTx t fun x => { x with retDue := true } else s

/-! ### Framing (R142, R144, R151) -/

/-- NAK from now on and RESYNC (R144, R148); the packet being framed is rejected, and its rows go on being framed by its LEN where `keep` says that framing is not lost. NAK_TX counts each entry into RESYNC with NAK not yet sent (log entry 119). -/
def State.enterResync (s : State) (t : Nat) (keep : Bool := false) : State :=
  let s := if (s.trk t).rx.nak then s else s.bump Fld.TRK_PKT_CNT_COUNT t 3
  s.modRx t fun x => { x with
    mode := .resync, nak := true, crc := tailInit, dupSeq := none, drop := 0, noLamp := false, held := false
    cur := if keep then x.cur.map fun c => { c with accept := false, rows := [] } else none }

/-- An errored or failing header row (R144). -/
def State.badHeader (s : State) (t : Nat) : State :=
  ((s.bump Fld.TRK_PKT_CNT_COUNT t 0).raise .hlHdrCrc t).enterResync t

/-- Whether a tag lies in a range valid on a track: its own, or that of a session failover moved there (R120). -/
def State.tagInRange (s : State) (t : Nat) (tag : Nat) : Bool :=
  (t :: (s.trk t).ses.carries).any fun u =>
    let b := s.fld Fld.TRK_TAG_PART_BASE u
    b ≤ tag && tag < b + s.fld Fld.TRK_TAG_PART_COUNT u

/-- Payload rows framed after a header: of a request malformed by its tag, 2 × LEN whatever the type (R158; log entry 107). -/
def State.rowsOf (s : State) (t : Nat) (p : Pkt) : Nat :=
  let badTag := (s.tags.any fun o => o.tag = p.tag && !o.dead) || !s.tagInRange t p.tag.toNat
  if p.headReason.isNone ∧ (pktType p.typ).isReq ∧ badTag then 2 * p.len.toNat else p.rows

/-- Take a header's packet into framing: accept it where it has no payload, or begin its payload. -/
def State.openPacket (s : State) (t : Nat) (p : Pkt) (accept : Bool) : State :=
  let n := s.rowsOf t p
  if n = 0 then (if accept then s.acceptToInbox t p else s)
  else s.modRx t fun x => { x with cur := some { pkt := p, left := n, accept := accept } }

/-- A good header row while framed, its payload check done: sequence test, duplicates, lost framing (R145, R151, R158). The payload of a dropped duplicate is framed and checked by the next header as any payload (log entry 120). -/
def State.goodHeader (s : State) (t : Nat) (p : Pkt) (first : Bool) : State :=
  let s := s.modRx t fun x => { x with crc := tailInit, noLamp := false }
  if ¬ p.sequenced then
    if p.headReason.isSome then (s.malformed t p 0x06).openPacket t p false else s
  else
    let next := BitVec.ofNat 8 (s.fld Fld.TRK_PKT_SEQ_RX_LAST t + 1)
    if p.seq = next then
      (s.modRx t fun x => { x with dupSeq := none }).openPacket t p true
    else if first ∨ (s.trk t).rx.dupSeq = some (p.seq - 1) then
      (s.modRx t fun x => { x with dupSeq := some p.seq }).openPacket t p false
    else s.badHeader t

/-- A header row while framed: HCRC, the acknowledgement, the tail lamp of the payload before it (R140, R142, R143, R144). An errored row that passes HCRC still delivers its acknowledgement. -/
def State.headerRow (s : State) (t : Nat) (row : BitVec 128) (errored first : Bool) : State :=
  match parseHeader row with
  | none => s.badHeader t
  | some (p, lamp) =>
    let s := s.takeAck t p.ackSeq p.nak
    let x := (s.trk t).rx
    if errored then s.badHeader t else
    match x.cur with
    | none => s.goodHeader t p first
    | some c =>
      if lamp ≠ x.crc ∧ ¬ x.noLamp then
        ((s.bump Fld.TRK_PKT_CNT_COUNT t 1).raise .hlTailLamp t (hlDetail 0 0 c.pkt.seq.toNat)).enterResync t
      else
        let s := s.modRx t fun y => { y with cur := none }
        let s := if c.accept then s.acceptToInbox t (c.pkt.withRows c.rows.reverse) else s
        s.goodHeader t p first

/-- A data row in RESYNC (R144, R151): a row of the rejected packet by its LEN, else a header only as the first data row of a block. -/
def State.resyncRow (s : State) (t : Nat) (row : BitVec 128) (errored first : Bool) : State :=
  match (s.trk t).rx.cur with
  | some c => s.modRx t fun y => { y with cur := if c.left ≤ 1 then none else some { c with left := c.left - 1 } }
  | none =>
    if ¬ first then s else
    match parseHeader row with
    | none => s
    | some (p, _) =>
      let s := s.takeAck t p.ackSeq p.nak
      if ¬ errored ∧ p.sequenced ∧ p.seq = BitVec.ofNat 8 (s.fld Fld.TRK_PKT_SEQ_RX_LAST t + 1) then
        (s.modRx t fun y => { y with mode := .framed }).goodHeader t p true
      else s

/-- A payload row of the packet being framed (R140, R144). -/
def State.payloadRow (s : State) (t : Nat) (c : OpenPkt) (row : BitVec 128) (errored : Bool) : State :=
  let next : OpenPkt := { c with rows := row :: c.rows, left := c.left - 1 }
  if errored then
    let s := s.modRx t fun y => { y with cur := if c.left ≤ 1 then none else some next }
    ((s.bump Fld.TRK_PKT_CNT_COUNT t 2).raise .hlRowErr t (hlDetail 0 0 c.pkt.seq.toNat)).enterResync t true
  else s.modRx t fun y => { y with crc := tailCrc y.crc (rowBytes row), cur := some next }

/-- A row of a discarded packet that comes after the discard (R171). -/
def State.dropRow (s : State) (t : Nat) : State :=
  let x := (s.trk t).rx
  let s := s.bump Fld.TRK_PKT_CNT_COUNT t 8
  let s := s.modRx t fun y => { y with drop := x.drop - 1 }
  if x.noLamp then s else (s.modRx t fun y => { y with noLamp := true }).raise .hlUnframed t

/-- One data row into the track controller (R142, R144, R151, R171). -/
def State.rxData (s : State) (t : Nat) (row : BitVec 128) (errored first : Bool) : State :=
  let x := (s.trk t).rx
  match x.mode with
  | .stalled => s
  | .resync => s.resyncRow t row errored first
  | .framed =>
    if x.drop > 0 then s.dropRow t
    else
      match x.cur with
      | none => s.headerRow t row errored first
      | some c => if c.left = 0 then s.headerRow t row errored first else s.payloadRow t c row errored

/-- A data row as it comes: while a held packet waits for the first block header after a stall, it is kept back (R169). -/
def State.dataIn (s : State) (t : Nat) (row : BitVec 128) (errored : Bool) : State :=
  let x := (s.trk t).rx
  let s := s.modRx t fun y => { y with first := false }
  if x.judge then s.modRx t fun y => { y with late := y.late ++ [{ row := row, errored := errored, first := x.first }] }
  else s.rxData t row errored x.first

/-! ### Stalls (R168 to R172) -/

/-- Discard the held packet: it counts as accepted, a request is answered ABORTED with detail 0x3, its cost returns in a marked NUL, its later rows are dropped (R170, R171). A packet of reason 0x03 or 0x06 so discarded raises HL_PARTIAL_DISCARD alone (log entry 121). -/
def State.discardHeld (s : State) (t : Nat) : State :=
  match (s.trk t).rx.cur with
  | none => s.modRx t fun x => { x with held := false }
  | some c =>
    let s := s.modRx t fun x => { x with
      cur := none, held := false, drop := c.left - x.late.length, noLamp := c.left ≤ x.late.length, judge := false, late := [] }
    if ¬ c.accept then s else
    let s := s.account t c.pkt
    let s := if (pktType c.pkt.typ).isReq then
        s.respond s.ord (respType c.pkt) Status.aborted.code 0x3 else s
    let (cr, cd) := c.pkt.cost
    let s := s.modTx t fun x => { x with marked := x.marked ++
      [{ tag := c.pkt.tag, seq := c.pkt.seq, req := cr, data := cd }] }
    (s.bump Fld.TRK_PKT_CNT_COUNT t 7).raise .hlPartialDiscard t
      { hlDetail 0 0 c.pkt.seq.toNat with req := some (t, c.pkt.master.toNat, c.pkt.tag.toNat) }

/-- A receive direction stalls (R168, R169): the packet being accepted is held, or discarded at once where PARTIAL_HOLD is 0. -/
def State.stall (s : State) (t : Nat) : State :=
  let x := (s.trk t).rx
  if x.mode = .stalled then s else
  let s := (s.bump Fld.TRK_PKT_CNT_COUNT t 9).raise .hlStall t
  let limit := s.fld Fld.TRK_PKT_CFG_PARTIAL_HOLD t
  let held := x.held || x.cur.any fun c => c.accept
  let s := s.modRx t fun y => { y with mode := .stalled, before := x.mode, held := held, ticks := 0, limit := limit }
  if held ∧ limit = 0 then s.discardHeld t else s

/-- SIG_DET of the active positions. -/
def State.setSig (s : State) (t : Nat) (b : Bool) : State :=
  s.upTo 16 fun q s =>
    let p := s.laneOf t false q
    (s.setFlag Fld.TRK_LANE_STATUS_SIG_DET b t p).setRxLane t p { s.rxLane t p with sig := b, free := if b then (s.rxLane t p).free else 4 }

/-- STALL_BEGIN: in L0, SIG_DET reads 0 on all active positions of a READY track (R168). -/
def execStallBegin (t : TrackIx) (s : State) : Out :=
  .next <| if s.linkIs t .ready ∧ s.fld Fld.TRK_LSTATE_RX_STATE t = 0 then (s.setSig t false).stall t else s

/-- STALL_END: SIG_DET reads 1 on all active positions, or a wake run has begun after an EIE row (`wake`): the stream resumes, and the first block header row decides about a held packet (R168, R169). -/
def execStallEnd (t : TrackIx) (wake : Bool) (s : State) : Out :=
  let x := (s.trk t).rx
  .next <| if x.mode ≠ .stalled ∨ wake ≠ (s.fld Fld.TRK_LSTATE_RX_STATE t = 1 : Bool) ∨ (wake ∧ x.wake = 0) then s
  else (s.setSig t true).modRx t fun y => { y with mode := y.before, ticks := 0, judge := x.held }

/-- The first block header after a stall: the held packet continues with the rows kept back, or is discarded and framing is lost (R169, R170). -/
def State.judgeHeld (s : State) (t : Nat) (good : Bool) : State :=
  let x := (s.trk t).rx
  if ¬ x.judge then s else
  let s := s.modRx t fun y => { y with judge := false, late := [] }
  if good then
    x.late.foldl (fun s r => s.rxData t r.row r.errored r.first) (s.modRx t fun y => { y with held := false })
  else (s.discardHeld t).enterResync t

/-- PARTIAL_HOLD_EXPIRY: the hold ends with the stream still stalled, and the held packet is discarded (R169). -/
def execPartialHoldExpiry (t : TrackIx) (s : State) : Out :=
  let x := (s.trk t).rx
  .next <| if x.held ∧ x.mode = .stalled ∧ x.ticks ≥ x.limit then s.discardHeld t else s

end Sys2Proof.Machine
end

