-- ==== Sys2Proof/Machine/Queue.lean ====
section
/-! DEFINITION. The channel queue (R181, R189 to R193, R200 to R203): entries, what they wait for, sidings, completion. -/
namespace Sys2Proof.Machine

/-! ### Fault locations -/

/-- The detail word of a CH_ or REF_ source (R401). -/
def State.chDetail (s : State) (c low : Nat) : Nat := low + s.fld Fld.CHN_CTL_ENGINE c * 2 ^ 16

/-- A fault of channel c without a line. -/
def State.chInfo (s : State) (c : Nat) (low : Nat := 0) : FaultInfo := { detail := s.chDetail c low }

/-- Where a line's fault lies, and the entry it concerns (R399). -/
def lineInfo (c bank row col access detail : Nat) (e : Option Ent) : FaultInfo := {
  access := access
  req := e.map fun x => (x.track, x.master, x.tag)
  haddr := e.map fun x => 32 * x.unit
  loc := some (c, layerOf c, bank, row, col)
  detail := detail }

/-- The lowest-numbered free spare engine: it serves no channel, is taking none over, and was not replaced for a fault of its own (R205). -/
def State.freeEngine (s : State) : Option Nat :=
  [64, 65].find? fun e => !s.rep.engines.contains e && (List.range 64).all fun c =>
    s.fld Fld.CHN_CTL_ENGINE c != e && ((s.chan c).swap.map fun w => w.spare) != some e

/-! ### Entries -/

/-- The access type of an entry's own work (R400). -/
def EntKind.access : EntKind → Nat
  | .rd => 1 | .wr => 2 | .wrm => 3

/-- Whether an entry has finished (R193). -/
def Ent.finished (e : Ent) : Bool := e.res.isSome

/-- Whether two entries touch a common 32-byte unit. -/
def Ent.shares (a b : Ent) : Bool := a.unit < b.unit + b.len && b.unit < a.unit + a.len

/-- Two ordered requests (R161). -/
def Ent.ordered (a b : Ent) : Bool := a.track = b.track && a.master = b.master && a.shares b

/-- The entry of an order number. -/
def Chan.ent (x : Chan) (ord : Nat) : Option Ent := x.q.find? fun e => e.ord = ord

/-- Change an entry. -/
def State.modEnt (s : State) (c ord : Nat) (g : Ent → Ent) : State :=
  s.modChan c fun x => { x with q := x.q.map fun e => if e.ord = ord then g e else e }

/-- Change line ix of an entry. -/
def State.modLine (s : State) (c ord ix : Nat) (g : LineJob → LineJob) : State :=
  s.modEnt c ord fun e => { e with lines := (e.lines.zipIdx).map fun y => if y.2 = ix then g y.1 else y.1 }

/-- The transfer's units that lie in poisoned lines, as a mask (R153). -/
def Ent.poisonMask (e : Ent) : Nat :=
  (List.range e.len).foldl (fun m i =>
    if e.lines.any fun l => l.ln = (e.unit + i) / 2 && l.pois then m + 2 ^ i else m) 0

/-- The bytes a read returns: units of poisoned lines are 0x00 (R153, R155). -/
def Ent.readData (e : Ent) : List Unit32 :=
  (List.range e.len).map fun i =>
    match e.lines.find? fun l => l.ln = (e.unit + i) / 2 with
    | some l => if l.pois then 0 else tileData (lineTile l.got ((e.unit + i) % 2))
    | none => 0

/-- The answer of an entry whose lines are all done (R153, R155, R181). -/
def Ent.answer (e : Ent) : Res :=
  let m := e.poisonMask
  { status := if m = 0 then Status.ok.code else Status.poison.code
    detail := m
    data := if e.kind = .rd then e.readData else [] }

/-- Close an entry whose lines are all done: it has taken effect, and its response is offered with its last line (R164, R182, R195). -/
def State.closeEnt (s : State) (c ord : Nat) : State :=
  match (s.chan c).ent ord with
  | none => s
  | some e =>
    if e.finished ∨ e.lines.any fun l => l.st != .done then s
    else
      let at_ := e.lines.foldl (fun m l => max m l.due) s.cc
      (s.modEnt c ord fun y => { y with res := some { y.answer with ready := at_ }, side := none }).effected ord

/-- Whether any lock of another owner holds a line (R199, R327). -/
def Chan.locked (x : Chan) (ord bank row col : Nat) : Bool :=
  x.locks.any fun k => k.1 != ord && k.2 = (bank, row, col)

/-- Release the locks of an owner on a line. -/
def Chan.unlock (x : Chan) (ord bank row col : Nat) : Chan :=
  { x with locks := x.locks.filter fun k => !(k.1 = ord && k.2 = (bank, row, col)) }

/-! ### Sidings (R200 to R202) -/

/-- Banks an event job owns: a retest, a migration (R338, R347). -/
def Chan.jobBank (x : Chan) (b : Nat) : Bool :=
  (match x.rt with
   | some r => r.bank = b
   | none => false) ||
  (match x.mig with
   | some m => m.bank = b
   | none => false)

/-- The cause of its own that sides an entry (table Siding reasons). -/
def Chan.ownCause (x : Chan) (e : Ent) : Option Nat :=
  if x.path then some 3
  else if e.lines.any fun l => l.st = .idle && x.jobBank l.bank then some 1
  else if x.fills.any fun f => f.wagon = e.wagon && f.ord != e.ord then some 2
  else none

/-- Sidings brought up to date, entry by entry in queue order: an entry is sided for its own cause or behind an earlier sided entry of a unit it shares; `limit` is SIDING.LIMIT in force. Answers the entries and how many entered (R201, R202). -/
def sideEntries (x : Chan) (limit : Nat) : List Ent × Nat :=
  let step (acc : List Ent × List Ent × Nat) (e : Ent) : List Ent × List Ent × Nat :=
    let (dones, sided, n) := acc
    if e.finished then (dones ++ [e], sided, n) else
    let behind := (sided.find? fun y => y.shares e).bind fun y => y.side.map fun z => z.reason
    match (x.ownCause e).orElse fun _ => behind with
    | none => (dones ++ [{ e with side := none }], sided, n)
    | some r =>
      let (z, n) := match e.side with
        | some z => ({ z with reason := r }, n)
        | none => ({ reason := r, limit := limit }, n + 1)
      let e := { e with side := some z }
      (dones ++ [e], sided ++ [e], n)
  let r := x.q.foldl step ([], [], 0)
  (r.1, r.2.2)

/-- Bring the sidings of channel c up to date (R200, R201). -/
def State.reside (s : State) (c : Nat) : State :=
  let r := sideEntries (s.chan c) (s.fld Fld.CHN_SIDING_LIMIT c)
  (s.modChan c fun x => { x with q := r.1 }).bump Fld.CHN_CNT_COUNT c 6 r.2

/-- SIDING_LIMIT_EXPIRY: the entry at a queue position is still in a siding at the limit tick; it completes ABORTED, detail 0x1 (R202). A fill it triggered is cut (R332). -/
def execSidingLimitExpiry (c : ChanIx) (i : Nat) (s : State) : Out :=
  .next <| match (s.chan c).q.drop i with
  | [] => s
  | e :: _ => match e.side with
    | none => s
    | some z =>
      if z.ticks < z.limit then s else
      let s := (s.modEnt c e.ord fun y => y.finish Status.aborted.code 1).effected e.ord
      let s := s.modChan c fun x => { x with
        locks := x.locks.filter fun k => k.1 != e.ord
        prio := x.prio.filter fun t => !(t.lines.any fun l => l.ord = e.ord && l.use = .rmwW) }
      let s := (s.reside c).bump Fld.CHN_CNT_COUNT c 7
      s.raise .chSidingAbort c { lineInfo c 0 0 0 e.kind.access (s.chDetail c z.reason) (some e) with loc := none }

/-! ### What an entry waits for (R189, R193, R199) -/

/-- A part of an entry: its lines of one bank and direction that are not issued (R182, R192, R198). -/
structure Part where
  ord : Nat
  pos : Nat
  bank : Nat
  row : Nat
  write : Bool
  ixs : List Nat
deriving DecidableEq, Repr

/-- Whether a line job is issued as a write. -/
def Ent.lineWrites (e : Ent) (l : LineJob) : Bool := e.kind != .rd && !l.rmw

/-- The parts of an entry. -/
def Ent.parts (e : Ent) (pos : Nat) : List Part :=
  let idle := e.lines.zipIdx.filter fun y => y.1.st = .idle
  idle.foldl (fun ps y =>
    let w := e.lineWrites y.1
    if ps.any fun p => p.bank = y.1.bank && p.write = w then
      ps.map fun p => if p.bank = y.1.bank && p.write = w then { p with ixs := p.ixs ++ [y.2] } else p
    else ps ++ [{ ord := e.ord, pos := pos, bank := y.1.bank, row := y.1.row, write := w, ixs := [y.2] }]) []

/-- Earlier ordered entries that have not finished, but those whose lines all ride in a train being built, where both write (R193). -/
def Chan.blockers (x : Chan) (e : Ent) (pos : Nat) (joined : List Nat) : List Ent :=
  (x.q.take pos).filter fun y =>
    y.ordered e && !y.finished && !(y.kind = .wr && e.kind = .wr && joined.contains y.ord)

/-- Whether an earlier write train holding a line of a part awaits its WACK (R304), or a lock holds one (R199, R327). -/
def Chan.lineBusy (x : Chan) (e : Ent) (p : Part) : Bool :=
  p.ixs.any fun i => match e.lines.drop i with
    | l :: _ => x.locked e.ord l.bank l.row l.col ||
        (x.out ++ x.prio).any fun t => t.write && t.bank = l.bank && t.row = l.row && t.lines.any fun y => y.col = l.col
    | [] => false

/-- The chunk of a train that a part puts in. -/
def Ent.tlines (e : Ent) (p : Part) : List TLine :=
  p.ixs.filterMap fun i => match e.lines.drop i with
    | l :: _ => some { col := l.col, te := if p.write then l.te else 3, data := l.got
                       use := if l.rmw then .rmw else .host, ord := e.ord, ix := i }
    | [] => none

/-- Banks of the round in progress without a REFB (R225, R233). -/
def State.roundBanks (s : State) (c : Nat) : List Nat :=
  if s.fld Fld.CHN_REF_STATE_OWED c = 0 then [] else
  ((List.range 8).map fun g => 4 * g + s.fld Fld.CHN_REF_STATE_NEXT_SET c).filter fun b => !((s.chan c).ref.did.contains b)

/-- Banks that refresh owns (R55): those of the open slot's work until it ends; those of a forced round not yet refreshed, and of forced neighbour refreshes (R233, R240). -/
def State.refBanks (s : State) (c : Nat) : List Nat :=
  let r := (s.chan c).ref
  let round := if s.fld Fld.CHN_REF_STATE_OWED c ≥ s.fld Fld.REF_CFG_OWED_FORCE then s.roundBanks c else []
  let nrefs := if r.nrefs.length ≥ 32 then r.nrefs else r.nrefs.filter fun n => n.forced
  r.own ++ round ++ nrefs.map fun n => n.bank

/-- The state of a bank as the engine's model has it (R184). -/
def State.bankState (s : State) (c b : Nat) : BankState :=
  ((s.chan c).bank b).state ((s.chan c).jobBank b || (s.refBanks c).contains b) s.cc

/-- Words of the command train of a data train, with room for a trailing PRE (R185, R294). -/
def State.trainWords (_ : State) (t : Train) (p : Plan) : Nat :=
  b2n p.pre + b2n p.act + (if t.write then 1 else 1 + (t.lines.length + 2) / 6) + 1

/-- Chips from now until the last chip of a data train and of its answer is delivered (R274). -/
def State.landSpan (s : State) (c : Nat) (t : Train) (p : Plan) : Nat :=
  (if t.write then 15 * (p.col - s.cc) + s.dataChips c t.lines.length + 2 * (16 + 72 * hopsOf c) +
    8 * (s.fld Fld.LAY_ID_WORD (c / 4) 4 / 256 % 256) + s.cmdChips c 1
   else s.readLands c p.col + s.dataChips c t.lines.length - 15 * s.cc)

/-- Whether a train could go now but for the command columns: bank and timing set, data columns, budget, calibration, TIDs, the engine's codec buffer, no ACT while 32 neighbour refreshes pend (R186, R238, R240, R301, R302, R425). -/
def State.trainReady (s : State) (c : Nat) (t : Train) : Bool :=
  let x := s.chan c
  let p := s.plan c t
  p.first ≤ s.cc && s.dataFree c t p && !s.calBusy c && x.freeTid.isSome &&
  s.inBudget c (s.dataChips c t.lines.length) && s.quietOk c (s.landSpan c t p) &&
  !(p.act && x.ref.nrefs.length ≥ 32) &&
  (t.write || (s.codec.held.filter fun j => j.chan = c).length < 4)

/-- Whether a train may issue now (R186, R298). -/
def State.canIssue (s : State) (c : Nat) (t : Train) : Bool :=
  s.trainReady c t && s.cmdFree c (s.trainWords t (s.plan c t))

/-- Whether a part is eligible (R189). -/
def State.eligible (s : State) (c : Nat) (e : Ent) (p : Part) (joined : List Nat) : Bool :=
  let x := s.chan c
  e.side.isNone && !e.finished && e.chk && !e.filled && !x.jobBank p.bank && !((s.refBanks c).contains p.bank) &&
  (x.blockers e p.pos joined).isEmpty && !x.lineBusy e p &&
  s.trainReady c { write := p.write, bank := p.bank, row := p.row, lines := e.tlines p }

/-- Every eligible part of the queue, with its entry, in queue order. -/
def State.eligibles (s : State) (c : Nat) : List (Ent × Part) :=
  (s.chan c).q.zipIdx.flatMap fun y =>
    (y.1.parts y.2).filterMap fun p => if s.eligible c y.1 p [] then some (y.1, p) else none

/-- An entry is aged (R191). -/
def State.aged (s : State) (c : Nat) (e : Ent) : Bool :=
  e.side.isNone && !e.finished && e.age > 64 * s.fld Fld.CHN_POLICY_AGE_LIMIT c &&
  e.lines.any fun l => l.st = .idle

/-! ### Trains over a row -/

/-- Queue a train ahead of every scheduling key (R191, R303, R327). -/
def State.pushPrio (s : State) (c : Nat) (t : Train) : State := s.modChan c fun x => { x with prio := x.prio ++ [t] }

/-- The two 16-line trains over a row. -/
def State.pushRow (s : State) (c bank row : Nat) (write : Bool) (use : Use) (line : Nat → Line) : State :=
  let part (h : Nat) : Train := {
    write := write, bank := bank, row := row
    lines := (List.range 16).map fun i => { col := 16 * h + i, data := line (16 * h + i), use := use, ix := 16 * h + i } }
  (s.pushPrio c (part 0)).pushPrio c (part 1)

/-- Bits in which two lines differ, as pairs of line and bit. -/
def diffBits (col : Nat) (a b : Line) : List (Nat × Nat) :=
  if a = b then [] else (List.range 576).filterMap fun i => if (a ^^^ b).getLsbD i then some (col, i) else none

end Sys2Proof.Machine
end

