-- ==== Sys2Proof/Machine/Repair.lean ====
section
/-! DEFINITION. The repair controller (12): the working copy and its deltas, the choice of a spare, journaling, configuration commands to core dies. -/
namespace Sys2Proof.Machine

/-! ### Journal entries waiting (R484, R485) -/

/-- Buffer a journal entry; one that finds the 32-deep buffer full is dropped, counted and raises NVM_WEAR (R485). -/
def State.journal (s : State) (kind arg payload : Nat) : State :=
  if s.nvm.jrn.length ≥ 32 then (s.bump Fld.NVM_CNT_COUNT 0 3).raise .nvmWear 0 { detail := 0x20 }
  else { s with nvm := { s.nvm with
      jrn := s.nvm.jrn ++ [{ kind := kind, arg := arg, time := s.stamp, payload := payload }] } }

/-! ### The working copy (R358, R359, R480) -/

/-- The 16 bytes of a repair entry or delta (R480). -/
def RepEnt.bytes (e : RepEnt) (seq op : Nat) : Nat :=
  let n := e.kind + (e.state % 16 + e.fails % 4 * 16) * 2 ^ 8 + e.unit * 2 ^ 16 + e.bank * 2 ^ 24 +
    e.row * 2 ^ 32 + e.res * 2 ^ 48 + e.data * 2 ^ 64 + seq * 2 ^ 96 + op * 2 ^ 112
  n + (crc8 (natBytes 15 n)).toNat * 2 ^ 120

/-- Two entries for one item of the working copy (table Repair entry kinds). -/
def RepEnt.same (a b : RepEnt) : Bool :=
  a.kind = b.kind &&
  (match a.kind with
   | 1 => a.unit = b.unit && a.bank = b.bank && a.row = b.row
   | 2 => a.unit = b.unit && a.bank = b.bank && a.res = b.res
   | 3 => a.unit = b.unit && a.bank = b.bank && a.res = b.res
   | 4 => a.unit = b.unit && a.bank = b.bank && a.res = b.res
   | 5 => a.unit = b.unit && a.bank = b.bank
   | 6 => a.unit = b.unit
   | 7 => a.unit = b.unit
   | 9 => a.row = b.row
   | 10 => a.unit = b.unit && a.bank = b.bank && a.row = b.row
   | 11 => a.unit = b.unit && a.bank = b.bank && a.row = b.row
   | _ => true)

/-- Whether a flash operation of a kind waits or runs. -/
def State.nvmHas (s : State) (k : NvmKind) : Bool :=
  (s.nvm.ops.any fun o => o.kind = k) || (s.nvm.cur.map fun o => o.kind) = some k

/-- Journal a delta with the generation it builds on (R481). -/
def State.journalDelta (s : State) (d : Delta) : State :=
  let first := match s.rep.first with
    | some x => some x
    | none => some s.nvm.sseq
  let s := { s with rep := { s.rep with first := first } }
  s.journal 0x02 (s.fld Fld.REP_STORE_GEN % 256) (d.ent.bytes d.seq (if d.remove then 2 else 1))

/-- One more uncommitted delta; while a commit is in progress its journaling waits (R359, R481). -/
def State.addDelta (s : State) (e : RepEnt) (remove : Bool) : State :=
  let seq := s.rep.deltas.length + 1
  let s := { s with rep := { s.rep with deltas := s.rep.deltas ++ [({ ent := e, remove := remove, seq := seq, since := s.ticks } : Delta)] } }
  let s := s.setFld Fld.REP_STORE_PENDING (min (s.fld Fld.REP_STORE_PENDING + 1) 0xFFFF)
  if s.nvmHas .rep then s else s.journalDelta { ent := e, remove := remove, seq := seq }

/-- Set an item of the working copy. -/
def State.repSet (s : State) (e : RepEnt) : State :=
  let s := { s with rep := { s.rep with copy :=
    if (s.rep.copy.any fun y => y.same e) then s.rep.copy.map fun (y : RepEnt) => if y.same e then e else y
    else s.rep.copy ++ [e] } }
  s.addDelta e false

/-- Remove an item of the working copy. -/
def State.repDel (s : State) (e : RepEnt) : State :=
  let s := { s with rep := { s.rep with copy := s.rep.copy.filter fun y => !(y.same e) } }
  s.addDelta e true

/-- Spare indices of a bank recorded as bad, or in use (R344). -/
def State.spareTaken (s : State) (c bank i : Nat) : Bool :=
  s.rep.copy.any fun e => e.unit = c && e.bank = bank && e.res = i &&
    (e.kind = 2 || (e.kind = 1 && e.data % 2 = 0))

/-- Yard rows of a bank recorded as bad, or in use. -/
def State.yardTaken (s : State) (c bank i : Nat) : Bool :=
  s.rep.copy.any fun e => e.unit = c && e.bank = bank && e.res = i &&
    (e.kind = 3 || (e.kind = 1 && e.data % 2 = 1))

/-- Free spare indices of a bank, ascending. -/
def State.freeSpares (s : State) (c bank : Nat) : List Nat :=
  (List.range 32).filter fun i => !(s.spareTaken c bank i)

/-- Free yard rows of a bank, ascending. -/
def State.freeYard (s : State) (c bank : Nat) : List Nat :=
  (List.range 96).filter fun i => !(s.yardTaken c bank i)

/-- Free remap table entries of a channel (R343). -/
def State.freeTable (s : State) (c : Nat) : Nat :=
  512 - (s.rep.copy.filter fun e => e.kind = 1 && e.unit = c && e.data % 2 = 1).length

/-- Free resources of a bank (R357). -/
def State.budget (s : State) (c bank : Nat) : Nat :=
  (s.freeSpares c bank).length + min (s.freeYard c bank).length (s.freeTable c)

/-- The detail word of a REP_ source (R401). -/
def repDetail (bank : Nat) (r : Option Resource) : Nat :=
  (match r with
   | some (.spare i) => i
   | some (.yard y) => y * 2 ^ 8
   | none => 0) + pairOf bank * 2 ^ 16

/-- REP_BUDGET_LOW, once a bank (R357). -/
def State.checkBudget (s : State) (c bank : Nat) : State :=
  if s.pairLive c (pairOf bank) ∧ s.budget c bank ≤ s.fld Fld.REP_CFG_LOW_MARK ∧ ¬ s.rep.low.contains (c, bank) then
    let s := { s with rep := { s.rep with low := (c, bank) :: s.rep.low } }
    s.raise .repBudgetLow 0 { detail := repDetail bank none, loc := some (c, layerOf c, bank, 0, 0) }
  else s

/-- A resource of channel c is used: the sums of its live banks are looked at, since they share the channel's table (R357). -/
def State.checkBudgets (s : State) (c : Nat) : State := s.upTo 32 fun b s => s.checkBudget c b

/-- The entry of a row repair. -/
def rowEnt (c bank row state : Nat) (r : Resource) : RepEnt :=
  match r with
  | .spare i => { kind := 1, state := state, unit := c, bank := bank, row := row, res := i }
  | .yard y => { kind := 1, state := state, unit := c, bank := bank, row := row, res := y, data := 1 }

/-- The resource a row-repair entry uses. -/
def RepEnt.resource (e : RepEnt) : Resource := if e.data % 2 = 1 then .yard e.res else .spare e.res

/-- Mark a resource bad (R346, R347). -/
def State.markBad (s : State) (c bank : Nat) (r : Resource) : State :=
  match r with
  | .spare i => s.repSet { kind := 2, state := 7, unit := c, bank := bank, res := i }
  | .yard y => s.repSet { kind := 3, state := 7, unit := c, bank := bank, res := y }

/-- The case of R346 a row falls under: what serves it before the repair. -/
def State.caseOf (s : State) (c bank row : Nat) : Served :=
  match s.repairOf c bank row with
  | some e => if e.data % 2 = 1 then .yard else .spare
  | none => .none

/-- The first resource that applies for a row (R346); a table entry the row already has is used again. -/
def State.chooseRes (s : State) (c bank row : Nat) (k : Served) : Option Resource :=
  let own := s.rep.copy.any fun e => e.kind = 1 && e.unit = c && e.bank = bank && e.row = row && e.data % 2 = 1
  let spare := (s.freeSpares c bank).head?.map Resource.spare
  let yard := if s.freeTable c + b2n own > 0 then (s.freeYard c bank).head?.map Resource.yard else none
  match k with
  | .yard => yard
  | .spare => spare.orElse fun _ => yard
  | .none => if s.flag Fld.REP_CFG_ORDER then yard.orElse fun _ => spare else spare.orElse fun _ => yard

/-- Mark the resource that serves a row bad, if one does (R346). -/
def State.markServing (s : State) (c bank row : Nat) : State :=
  match s.repairOf c bank row with
  | some e => s.markBad c bank e.resource
  | none => s

/-- REP_EXHAUSTED, and with RETIRE_EN the pair becomes pending (R346). -/
def State.exhausted (s : State) (c bank row : Nat) : State :=
  let s := s.bump Fld.REP_CNT_COUNT 0 4
  let s := s.setFld Fld.REP_STATUS_EXHAUSTED_SEEN 1
  let s := s.raise .repExhausted 0 { detail := repDetail bank none, loc := some (c, layerOf c, bank, row, 0) }
  let s := { s with bst := { s.bst with unrep := s.bst.unrep + b2n (s.bst.kind != 0) } }
  if s.flag Fld.REP_CFG_RETIRE_EN ∧ s.flag Fld.REP_CFG_EN then
    let s := s.repSet { kind := 5, state := 5, unit := c, bank := pairOf bank }
    s.setFld Fld.REP_PAIRS_PENDING (setBit (s.fld Fld.REP_PAIRS_PENDING 0 c) (pairOf bank)) 0 c
  else s

/-- Column groups of failing bits: stored bits 72 a group, eight groups a line (R352). -/
def groupsOf (bits : List (Nat × Nat)) : List Nat := (bits.map fun x => 8 * x.1 + x.2 / 72).eraseDups

/-- The failing groups of the last rows of a bank that were repaired (R352). -/
def State.groupHist (s : State) (c bank : Nat) : List (List Nat) :=
  ((s.rep.hist.find? fun h => h.1 = c && h.2.1 = bank).map fun h => h.2.2).getD []

/-- A row is repaired: its failing groups join those of the bank's last eight (R352). -/
def State.noteGroups (s : State) (c bank : Nat) (fails : List (Nat × Nat)) : State :=
  let put := (c, bank, (groupsOf fails :: s.groupHist c bank).take 8) :: s.rep.hist.filter fun h => !(h.1 = c && h.2.1 = bank)
  { s with rep := { s.rep with hist := put } }

/-- A row passed to repair whose failing bits lie in one group that enough repaired rows name makes the group PENDING (R352). -/
def State.testGroups (s : State) (c bank : Nat) (fails : List (Nat × Nat)) : State :=
  match groupsOf fails with
  | [g] =>
    if ((s.groupHist c bank).filter fun l => l.contains g).length + 1 ≥ s.fld Fld.REP_CFG_COL_ROWS ∧
        ¬ s.rep.copy.any (fun e => e.kind = 4 && e.unit = c && e.bank = bank && e.res = g) then
      (s.repSet { kind := 4, state := 5, unit := c, bank := bank, res := g }).raise .repColPending 0
        { detail := repDetail bank none, loc := some (c, layerOf c, bank, 0, g / 8) }
    else s
  | _ => s

/-- A row is passed to repair (R345); a free yard row, which an explicit channel test reaches, is recorded as bad as the march records it (R372, R387; log entry 133). -/
def State.passRow (s : State) (c bank row : Nat) (fails : List (Nat × Nat)) : State :=
  if row ≥ 24576 ∧ (s.hostRow c bank row).isNone then s.markBad c bank (.yard (row - 24576))
  else if ¬ s.flag Fld.REP_CFG_EN then s.exhausted c bank row
  else if (s.chan c).migQ.any fun m => m.bank = bank && m.row = row then s
  else (s.testGroups c bank fails).modChan c fun x =>
    { x with migQ := x.migQ ++ [{ bank := bank, row := row, bits := fails }] }

/-! ### Retired lanes (R88, R356) -/

/-- LANE_RETIRE: after block T + 16 the replaced lane is idle, marked retired and recorded (R88 step 5, R356). -/
def execLaneRetire (t : TrackIx) (tx : Bool) (s : State) : Out :=
  let x := s.trk t
  .next <| match (if tx then x.retireTx else x.retireRx) with
  | [] => s
  | (p, b) :: rest =>
    if ¬ (if tx then x.tx.at (b + 1) else x.rx.at (b + 1)) then s else
    let s := s.setFld (retiredFld tx) (setBit (s.fld (retiredFld tx) t) p) t
    let s := s.modTrk t fun x => if tx then { x with retireTx := rest } else { x with retireRx := rest }
    s.repSet { kind := 10, state := 6, unit := t, bank := b2n tx, row := p }

/-! ### Configuration commands (R294, R297) -/

/-- The operand of a GETCFG. -/
def getcfgOp (layer addr count : Nat) : Nat × Nat := (0x10, layer + 16 * addr + 2 ^ 19 * count)

/-- The words of a SETCFG with its DATA word. -/
def setcfgOps (layer addr val : Nat) : List (Nat × Nat) := [(0x11, layer + 16 * addr), (0x12, val)]

/-- The operand of an SREP or HREP (R294). -/
def srepOp (op layer localCh bank row spare kind : Nat) : Nat × Nat :=
  (op, layer + 16 * localCh + 64 * bank + 2 ^ 11 * row + 2 ^ 26 * spare + 2 ^ 31 * kind)

/-- First and last chip, at the base die, of the answer to a configuration command whose train ends at chip e there: the die answers 8 × RSP_DLY after the last chip is delivered, with CDONE, or CFGH and a CFGD for each word (R271, R294, R297). -/
def State.cfgWin (s : State) (k : CfgCmd) (e : Nat) : Nat × Nat :=
  let up := 16 + 72 * (k.layer / 4)
  let r := phase0 (e + up + 8 * (s.fld Fld.LAY_ID_WORD k.layer 4 / 2 ^ 16 % 256)) + up
  (r, r + s.cmdChips k.bundle (if k.op = 0x10 ∨ k.op = 0x13 then k.count + 1 else 1))

/-- Launch the train of a configuration command; no other command train may overlap its answer (R298). -/
def State.launchCfg (s : State) (k : CfgCmd) : State :=
  let s := s.launch k.bundle k.words
  s.modChan k.bundle fun x => { x with wins := x.wins ++ [s.cfgWin k x.cmdEnd] }

/-- Send a configuration command train; its answer is awaited. -/
def State.sendCfg (s : State) (k : CfgCmd) (words : List (Nat × Nat)) : State :=
  let k := { k with words := words }
  let s := s.launchCfg k
  { s with vert := { s.vert with cfg := s.vert.cfg ++ [k] } }

/-- Write a core-die word. -/
def State.setcfg (s : State) (bundle layer addr val : Nat) (use : CfgUse) : State :=
  s.sendCfg { op := 0x11, bundle := bundle, layer := layer, addr := addr, val := val, use := use }
    (setcfgOps layer addr val)

/-- The spare column group of its die that a column-group entry uses: its place among the die's applied groups (R343, R352; log entry 12). -/
def State.groupIndex (s : State) (e : RepEnt) : Nat :=
  ((s.rep.copy.filter fun y => y.kind = 4 && y.unit / 4 = e.unit / 4 && y.state != 5).takeWhile fun y => !y.same e).length

/-- Send SREP or HREP for a row repair or a column group of channel c. -/
def State.sendRep (s : State) (op c : Nat) (e : RepEnt) (use : CfgUse) : State :=
  let kind := if e.kind = 4 then 1 else 0
  let row := if e.kind = 4 then e.res else e.row
  s.sendCfg { op := op, bundle := c, layer := c / 4, val := e.res, use := use }
    [srepOp op (c / 4) (c % 4) e.bank row (if e.kind = 4 then s.groupIndex e else e.res) kind]

/-- Send the four timing words of a channel and read them back (R307, R308; log entry 131). -/
def State.sendTiming (s : State) (c : Nat) : State :=
  let g := 0x0E20 + 4 * (c % 4)
  let s := s.upTo 4 fun k s =>
    let v := match k with
      | 0 => s.fld Fld.CHN_TIM0_T_RC c * 2 ^ 24 + s.fld Fld.CHN_TIM0_T_RAS c * 2 ^ 16 +
             s.fld Fld.CHN_TIM0_T_RP c * 2 ^ 8 + s.fld Fld.CHN_TIM0_T_RCD c
      | 1 => s.fld Fld.CHN_TIM1_T_FAW c * 2 ^ 16 + s.fld Fld.CHN_TIM1_T_RRD_L c * 2 ^ 8 + s.fld Fld.CHN_TIM1_T_RRD_S c
      | 2 => s.fld Fld.CHN_TIM2_T_TURN c * 2 ^ 24 + s.fld Fld.CHN_TIM2_T_WTR c * 2 ^ 16 +
             s.fld Fld.CHN_TIM2_T_RTP c * 2 ^ 8 + s.fld Fld.CHN_TIM2_T_WR c
      | _ => s.fld Fld.CHN_TIM3_T_TRN c * 2 ^ 28 + s.fld Fld.CHN_TIM3_T_NREF c * 2 ^ 16 + s.fld Fld.CHN_TIM3_T_RFCPB c
    s.setcfg c (c / 4) (g + k) v (.timing c)
  s.sendCfg { op := 0x10, bundle := c, layer := c / 4, addr := g, count := 4, use := .timing c } [getcfgOp (c / 4) g 4]

end Sys2Proof.Machine
end

