-- ==== Sys2Proof/Machine/Bandwidth.lean ====
section
/-! DEFINITION. The bandwidth regulator (07): grades, deliverable bandwidth, refill and scaling, deficit, admission. -/
namespace Sys2Proof.Machine

/-- The guarantee field of a direction; true for writes. -/
def guarFld (w : Bool) : Field := if w then Fld.BWR_MGUAR_GUAR_WR else Fld.BWR_MGUAR_GUAR_RD

/-- The share field of a direction. -/
def shareFld (w : Bool) : Field := if w then Fld.BWR_MSHARE_SHARE_WR else Fld.BWR_MSHARE_SHARE_RD

/-- The scale factor's field of a direction. -/
def scaleFld (w : Bool) : Field := if w then Fld.BWR_SCALE_WR_K else Fld.BWR_SCALE_RD_K

/-- The key of master m's buckets in a direction. -/
def bwKey (m : Nat) (w : Bool) : Nat := 2 * m + b2n w

/-- Whether requests are regulated (R221). -/
def State.regulated (s : State) : Bool := s.flag Fld.BWR_CFG_EN && !s.pilotOn

/-- Grade a request of master m, direction and size b, at acceptance: 0 G, 1 S, 2 B (R211). -/
def State.gradeReq (s : State) (m : Nat) (w : Bool) (b : Nat) : State × Nat :=
  if ¬ s.regulated then (s, 2) else
  let k := bwKey m w
  let gb := Store.get s.bwr.gb k 0
  let sb := Store.get s.bwr.sb k 0
  let grade := if gb > 0 then 0 else if sb > 0 then 1 else 2
  let s := { s with bwr := { s.bwr with
    gb := if grade = 0 then Store.set s.bwr.gb k 0 (gb - b) else s.bwr.gb
    sb := if grade = 1 then Store.set s.bwr.sb k 0 (sb - b) else s.bwr.sb } }
  if grade ≠ 0 ∧ s.fld (scaleFld w) < 65536 ∧ s.fld (guarFld w) 0 m > 0 ∧ ¬ s.bwr.hit.contains k then
    ({ s with bwr := { s.bwr with hit := k :: s.bwr.hit } }, grade)
  else (s, grade)

/-! ### Deliverable bandwidth (R214) -/

/-- CAP(l) in percent, for l − 1. -/
def State.capOf (s : State) (l : Nat) : Nat :=
  [100, 85, 70, 50, 25].getD (bits (s.fld Fld.THM_LEVELS_LEVEL) (3 * l + 5) (3 * l + 3)) 25

/-- The refresh multiple's code in force on a layer: 0, 1, 2 for M = 1, 2, 4. -/
def State.rateOf (s : State) (l : Nat) : Nat := bits (s.fld Fld.REF_LAYER_RATE_RATE) (2 * l + 1) (2 * l)

/-- RF(l) in 1/256. -/
def State.rfOf (s : State) (l : Nat) : Nat :=
  match s.rateOf l with
  | 0 => 256
  | 1 => s.fld Fld.BWR_DERATE_X2
  | _ => s.fld Fld.BWR_DERATE_X4

/-- Whether a channel is live. -/
def State.liveChan (s : State) (c : Nat) : Bool :=
  s.presented c && s.flag Fld.CHN_CTL_EN c && !(s.chan c).test && (s.chan c).swap.isNone

/-- D[RD] and D[WR] from the inputs as they stand. -/
def State.deliverable (s : State) : Nat × Nat :=
  let sum := (List.range 64).foldl (fun n c => if s.liveChan c then n + s.capOf (c / 4) * s.rfOf (c / 4) else n) 0
  (sum * 250 * s.fld Fld.BWR_DELIV_RD / 1638400, sum * 250 * s.fld Fld.BWR_DELIV_WR / 1638400)

/-- ACCOUNT_SLOT: D[d] of the frame, from the inputs as they stood at cycle offset 0 (R214). -/
def execAccountSlot (s : State) : Out :=
  .next (if s.bwr.acct then s else { s with bwr := { s.bwr with acct := true, d := s.bwr.due } })

/-! ### Refill (R216, R217) -/

/-- Sum of a per-master field. -/
def State.sumOf (s : State) (f : Field) : Nat := (List.range 64).foldl (fun n m => n + s.fld f 0 m) 0

/-- Refill one direction from D; full when the buckets start. -/
def State.refill (s : State) (w : Bool) (D : Nat) (full : Bool) : State :=
  let sum := 250 * s.sumOf (guarFld w)
  let K := if D ≥ sum then 65536 else 65536 * D / sum
  let g (m : Nat) : Nat := 250 * s.fld (guarFld w) 0 m * K / 65536
  let used := (List.range 64).foldl (fun n m => n + g m) 0
  let shares := s.sumOf (shareFld w)
  let h (m : Nat) : Nat := if shares = 0 then 0 else (D - used) * s.fld (shareFld w) 0 m / shares
  let depth := s.fld Fld.BWR_CFG_DEPTH
  let fill (old : Int) (x : Nat) : Int := if full then (depth * x : Nat) else min (old + x) (depth * x : Nat)
  let s := s.upTo 64 fun m s =>
    let k := bwKey m w
    { s with bwr := { s.bwr with
      gb := Store.set s.bwr.gb k 0 (fill (Store.get s.bwr.gb k 0) (g m))
      sb := Store.set s.bwr.sb k 0 (fill (Store.get s.bwr.sb k 0) (h m)) } }
  s.setFld (scaleFld w) K

/-- Step 4 of R61: refill both directions; while nothing is regulated K stays 65,536 and no deficit counts; the window restarts with full buckets (R217, R218, R221). -/
def State.refillAll (s : State) : State :=
  let s := (s.setFld Fld.BWR_DNOW_RD_D s.bwr.d.1).setFld Fld.BWR_DNOW_WR_D s.bwr.d.2
  if ¬ s.regulated then
    let s := (s.setFld Fld.BWR_SCALE_RD_K 65536).setFld Fld.BWR_SCALE_WR_K 65536
    { s with bwr := { s.bwr with hit := [], ticks := 0 } }
  else
    let full := s.bwr.fill
    let s := (s.refill false s.bwr.d.1 full).refill true s.bwr.d.2 full
    { s with bwr := { s.bwr with
      fill := false
      hit := if full then [] else s.bwr.hit
      ticks := if full then 0 else min 64 (s.bwr.ticks + 1) } }

/-! ### Deficit (R218) -/

/-- The masters that count a deficit window in a direction, lowest-numbered first. -/
def State.deficitMasters (s : State) (w : Bool) : List Nat := (List.range 64).filter fun m => s.bwr.hit.contains (bwKey m w)

/-- Count a deficit window of one direction: MDEF of each master, SEEN (R218 steps 1 and 3). -/
def State.countDeficit (s : State) (w : Bool) (ms : List Nat) : State :=
  if ms.isEmpty then s else
  (ms.foldl (fun s m => s.bump (if w then Fld.BWR_MDEF_DEF_WR else Fld.BWR_MDEF_DEF_RD) 0 m) s).setFld
    (if w then Fld.BWR_STATUS_SEEN_WR else Fld.BWR_STATUS_SEEN_RD) 1

/-- CH_GUARANTEE_DEFICIT of one direction, where no master counted in the window before (R218 step 2). -/
def State.raiseDeficit (s : State) (w before : Bool) (ms : List Nat) : State :=
  match ms with
  | [] => s
  | m :: _ => if before then s else s.raise .chGuaranteeDeficit 0 { access := if w then 2 else 1, req := some (0, m, 0) }

/-- DEFICIT_WINDOW_END: the 64 frames of a window have passed; both directions are counted, the hits cleared, and the source raised; nothing is counted while requests are not regulated (R218, R221). -/
def execDeficitWindowEnd (s : State) : Out :=
  .next <| if s.bwr.ticks < 64 ∨ ¬ s.regulated then s else
    let rd := s.deficitMasters false
    let wr := s.deficitMasters true
    let last := s.bwr.last
    let s := (s.countDeficit false rd).countDeficit true wr
    let s := { s with bwr := { s.bwr with hit := [], ticks := 0, last := (!rd.isEmpty, !wr.isEmpty) } }
    (s.raiseDeficit false last.1 rd).raiseDeficit true last.2 wr

/-! ### Admission (R219, R220) -/

/-- The check of R219 for one direction, on given sums. -/
def admits (guar pct deliv : Nat) : Bool := 100 * guar ≤ pct * deliv

end Sys2Proof.Machine
end

