-- ==== Sys2Proof/Machine/Resets.lean ====
section
/-! DEFINITION. Whole-device resets (R13 to R17, R452, R453, R465): what POR, PIN and CHIP leave of the state, and the beginning of a start (R442). -/
namespace Sys2Proof.Machine

/-- The configuration a later warm start presents: the one in effect, or the one kept from before (R361, R465). -/
def State.keptConf (s : State) : Option Member :=
  if s.flag Fld.GLB_STATE_READY then some s.start.conf else s.start.prev

/-- Whether a PIN or CHIP reset now gives a POR start: the POR start in progress or due has not reached READY, or the start has stopped and the reset is a CHIP reset (R442, R445). -/
def State.porAgain (s : State) (k : ResetKind) : Bool :=
  (!s.start.warm && !s.flag Fld.GLB_STATE_READY) || (s.fld Fld.GLB_STATE_PHASE = 0xE && k = .chip)

/-- The bits of fills whose trains have all been acknowledged, so that their write has been answered: acknowledged contents survive the reset; a CLEAR that waits for the tick governs (R30, R331 to R333). -/
def State.ackedFills (s : State) : State :=
  if s.vmap.clear ∨ s.pilotOn then s else
  (s.chans.flatMap fun e => e.2.fills.filter fun f => f.left = 0 && !f.cleared).foldl (fun s f =>
    if s.vbit f.wagon then s else s.setVbit f.wagon) s

/-- What a PIN or CHIP reset leaves: fields by their Kept-by lists, capture records and pending bits among them; the valid map with the bits of acknowledged fills, the working copy with its deltas, the seal, the journal and its buffer; everything else as at reset (R402, R465). An NVM write in progress is cut (R452). -/
def State.deviceReset (s : State) (k : ResetKind) (cause : Nat) : State :=
  let s := s.ackedFills
  let start : Start := { warm := !s.porAgain k, prev := s.keptConf, held := true, again := true }
  let nvm : Nvm := { s.nvm with cur := none, ops := [], deferred := [] }
  let rep : Rep := { copy := s.rep.copy, deltas := s.rep.deltas, hist := s.rep.hist, low := s.rep.low
                     late := s.rep.late, engines := s.rep.engines, first := s.rep.first }
  let s := s.resetRegs k fun _ => true
  let s : State := { pending := s.pending, regs := s.regs, box := { esc := s.box.esc }
                     pins := { s.pins with thermLow := false }, ord := s.ord, resetting := true, ticks := s.ticks
                     vmap := { mem := s.vmap.mem, spareRows := s.vmap.spareRows }, rep := rep
                     bst := { cur := s.bst.cur, valid := s.bst.valid, imageCrc := s.bst.imageCrc }
                     start := start, nvm := nvm, wrap := { s.wrap with edge := none }, free := s.free }
  (s.setFld Fld.GLB_STATE_CAUSE cause).updErr

/-- A CHIP reset: what RESET_N low gives, held for 10 µs; one that arrives during another merges into it (R453). -/
def State.chipReset (s : State) (cause : Nat) : State :=
  if s.resetting then s else
  let s := s.deviceReset .chip cause
  { s with start := { s.start with chip := true } }

/-- A POR: nothing of the device is kept; the pins, the queue of commands and the wrapper stand (R16, R465). -/
def State.porReset (s : State) : State :=
  { pending := s.pending, pins := { s.pins with thermLow := false }, wrap := { s.wrap with edge := none }, resetting := true, free := s.free }

/-- A start begins: stage B0 (R442, R443). -/
def State.beginStart (s : State) : State :=
  let s := { s with resetting := false, start := { s.start with held := false, chip := false, running := true } }
  s.setFlag Fld.GLB_STATE_WARM s.start.warm

end Sys2Proof.Machine
end

