-- ==== Sys2Proof/Machine/Faults.lean ====
section
/-! DEFINITION. Timers of the signal box (R405, R407, R409, R410) and the vote of triplicated fields (R506 to R508, R413). -/
namespace Sys2Proof.Machine

/-- BUL_HOLDOFF_END: hold-offs that have run out end; a folded bulletin is queued (R407). -/
def execBulHoldoffEnd (s : State) : Out :=
  let past := s.box.hold.filter fun h => h.left = 0
  let s := { s with box := { s.box with hold := s.box.hold.filter fun h => h.left != 0 } }
  .next <| past.foldl (fun s h => match h.next with
    | some r => s.enqueueMask r
    | none => s) s

/-- BRS_WINDOW_END: the window of 1,024 frames ends; every count starts again (R405). -/
def execBrsWindowEnd (s : State) : Out :=
  .next <| if s.box.brsTicks ≤ 1024 then s
  else { s with box := { s.box with brs := [], brsTicks := s.box.brsTicks - 1024 } }

/-- Whether an urgent bulletin of the CRS event is still to be sent (R409). -/
def State.crsUnsent (s : State) : Bool :=
  (s.box.urg.any fun r => r.crs) ||
  (List.range 32).any fun t => s.linkIs t .ready && (s.trk t).tx.urg.any fun r => r.crs

/-- CRS_DUE: at the first tick after its urgent bulletins are sent, or the CRS_DELAY-th, the CHIP reset begins (R409). -/
def execCrsDue (s : State) : Out :=
  .next <| match s.box.crs with
  | none => s
  | some p =>
    if p.ticks = 0 ∨ (s.crsUnsent ∧ p.ticks < s.fld Fld.FLT_CFG_CRS_DELAY) then s else s.chipReset 5

/-- ERR_N_HOLD_EXPIRY: the 10 µs are over (R410). -/
def execErrNHoldExpiry (s : State) : Out := .next ({ s with box := { s.box with errMin := false } }).updErr

/-! ### Votes (R506 to R508) -/

/-- The multi-bit +T fields of the address map (R508). -/
def mapFields : List Field :=
  [Fld.GLB_ADDR_MAP_CHAN_COUNT, Fld.GLB_ADDR_MAP_KIND, Fld.GLB_ADDR_MAP_MEMBER, Fld.GLB_INSTALLED_WAGONS]

/-- The regulator's multi-bit +T fields (R508). -/
def bwrFields : List Field := [Fld.BWR_CFG_ADMIT, Fld.BWR_DELIV_RD, Fld.BWR_DELIV_WR]

/-- The value the repair working copy records for a kind and unit. -/
def State.recorded (s : State) (kind unit : Nat) : Option RepEnt :=
  s.rep.copy.find? fun e => e.kind = kind && e.unit = unit

/-- Three different copies: the field takes its value and its block is contained (R508, R413). -/
def State.contain (s : State) (x : FieldAt) : State :=
  let safe := s.clrFld x.f x.i x.j
  if mapFields.contains x.f then { safe with fab := { safe.fab with ucHold := true } }
  else if x.f = Fld.CHN_CTL_ENGINE then
    (s.setFld x.f (((s.recorded 7 x.i).map fun e => e.res).getD x.i) x.i).setFld Fld.CHN_CTL_EN 0 x.i
  else if x.f.blk = .chn then safe.setFld Fld.CHN_CTL_EN 0 x.i
  else if bwrFields.contains x.f then safe.setFld Fld.BWR_CFG_EN 0
  else if x.f = Fld.INT_CODEC_STATUS_ACTIVE then
    match s.recorded 8 0 with
    | some e => s.setFld x.f e.data
    | none => safe
  else if x.f.blk = .pwr then safe.setFld Fld.PWR_AVS_CFG_EN 0
  else if x.f.blk = .flt then
    let s := [Fld.FLT_REACT_CLASS, Fld.FLT_REACT_EPN, Fld.FLT_REACT_CRS, Fld.FLT_REACT_BRS, Fld.FLT_REACT_URG,
      Fld.FLT_REACT_BUL].foldl (fun s f => s.clrFld f 0 x.j) s
    ({ s with box := { s.box with locked := x.j :: s.box.locked } }).updErr
  else { safe with fab := { safe.fab with trefiHold := x.f.key x.i x.j :: safe.fab.trefiHold } }

/-- The vote of three copies of a field: a copy that disagrees is rewritten from the other two; three different copies are contained; `access` names what found it, a register access or none (R507, R508). -/
def State.voteCopies (s : State) (access : Nat) (x : FieldAt) (addr : Nat) (v : Nat × Nat × Nat) : State :=
  let (a, b, c) := v
  if a = b ∧ b = c then s else
  let info : FaultInfo := { detail := addr, access := access }
  if a = b ∨ a = c ∨ b = c then
    let m := if a = b ∨ a = c then a else b
    ((s.setFld x.f m x.i x.j).bump Fld.GLB_CNT_COUNT 0 4).raise .regVoteCe 0 info
  else
    let s := ((s.contain x).setFld Fld.GLB_REG_STATUS_VOTE_UC_SEEN 1).bump Fld.GLB_CNT_COUNT 0 5
    s.raise .regVoteUc 0 info

/-- Vote one field by its key; its three copies then agree (R506). -/
def State.voteKey (s : State) (access key : Nat) : State :=
  match Store.find s.fab.copies key, fieldOfKey key with
  | some v, some x =>
    let s := { s with fab := { s.fab with copies := Store.del s.fab.copies key } }
    if x.f.trip then s.voteCopies access x (key / 64) v else s
  | _, _ => s

/-- Every field whose copies differ is voted: at a use by its block, at PARK entry, in the sweep (R506). -/
def State.voteAll (s : State) (access : Nat := 0) : State := s.fab.copies.foldl (fun s e => s.voteKey access e.1) s

/-- The vote a read or a refused write of a register makes of its fields (R506, R507). -/
def State.voteRegs (s : State) (xs : List FieldAt) : State :=
  if s.fab.copies.isEmpty then s else xs.foldl (fun s x => s.voteKey 8 (x.f.key x.i x.j)) s

/-- A write sets all three copies of a field (R506). -/
def State.agree (s : State) (key : Nat) : State :=
  if s.fab.copies.isEmpty then s else { s with fab := { s.fab with copies := Store.del s.fab.copies key } }

/-- VOTE_SWEEP: the background sweep of every triplicated field; the operand lists fields whose copies it finds changed (R506; log entry 51). -/
def execVoteSweep (x : List TripleVote) (s : State) : Out :=
  let copies := x.foldl (fun m v => Store.put m (v.addr * 64 + v.lo) (v.a, v.b, v.c)) s.fab.copies
  .next ({ s with fab := { s.fab with copies := copies } }).voteAll

end Sys2Proof.Machine
end

