-- ==== Sys2Proof/Machine/Thermal.lean ====
section
/-! DEFINITION. Temperature (15, 08): samples, the poll of a layer, the thermal model, the wayside witness, disagreement, the refresh rate and the throttle levels; the rail checks of the same slot; adaptive voltage. -/
namespace Sys2Proof.Machine

/-! ### Samples (R415) -/

/-- A temperature code as an integer in 1/64 °C. -/
def tempOf (x : Nat) : Int := signedOf 14 (x % 2 ^ 14)

/-- An estimate in sample form: exact where 14 bits hold it, else free, for the spec states no reading there (log entry 4). -/
def State.sample14 (s : State) (t : Int) : Nat × State :=
  if -8192 ≤ t ∧ t ≤ 8191 then (signedTo 14 t, s) else s.freeBelow 16384

/-- A THM or PWR source's information: sample, sensor or rail code, throttle level (R401); a core-die source names its layer. -/
def thmInfo (sample code level : Nat) (layer : Option Nat := none) : FaultInfo := {
  detail := sample % 2 ^ 14 + code * 2 ^ 16 + level * 2 ^ 20
  loc := layer.map fun l => (0, l + 1, 0, 0, 0) }

/-- One layer of the thermal monitor, by l − 1. -/
def State.thmL (s : State) (l : Nat) : ThmLayer := Store.get s.thm.layers l {}

/-- Change one layer of the thermal monitor. -/
def State.modThm (s : State) (l : Nat) (g : ThmLayer → ThmLayer) : State :=
  { s with thm := { s.thm with layers := Store.set s.thm.layers l {} (g (s.thmL l)) } }

/-- The present layers, by l − 1. -/
def State.presentLayers (s : State) : List Nat := (List.range 16).filter fun l => s.flag Fld.LAY_STATE_PRESENT l

/-- TB, the highest valid base-die sample (R416). -/
def State.tb (s : State) : Option Int :=
  (List.range 16).foldl (fun (m : Option Int) i =>
    if s.flag Fld.THM_BASE_T_VALID 0 i then
      let t := tempOf (s.fld Fld.THM_BASE_T_SAMPLE 0 i)
      some (match m with
        | some x => max x t
        | none => t)
    else m) none

/-- S[l] as it counts: 6,721 until the poll that a hot alarm asks for, unless it is higher (R417). -/
def State.sensed (s : State) (l : Nat) : Option Int :=
  let t : Option Int := if s.flag Fld.THM_LAYER_T_S_VALID 0 l then some (tempOf (s.fld Fld.THM_LAYER_T_SENSE 0 l)) else none
  if s.vert.hot.contains l then some (max 6721 (t.getD 6721)) else t

/-- E[l], the higher of the valid estimates M[l] and W[l], with the code of its source (R422). -/
def State.estimate (s : State) (l : Nat) : Option (Int × Nat) :=
  let m := tempOf (s.fld Fld.THM_LAYER_T_MODEL 0 l)
  let w := tempOf (s.fld Fld.THM_LAYER_T_WIT 0 l)
  match s.flag Fld.THM_LAYER_T_M_VALID 0 l, s.flag Fld.THM_LAYER_T_W_VALID 0 l with
  | true, true => some (if m ≥ w then (m, 4) else (w, 5))
  | true, false => some (m, 4)
  | false, true => some (w, 5)
  | false, false => none

/-- The layer temperature for refresh (R423). -/
def State.refreshTemp (s : State) (l : Nat) : Option Int :=
  (s.sensed l).map fun t =>
    match s.estimate l with
    | some e => if s.flag Fld.THM_LAYER_T_DISAGREE 0 l then max t e.1 else t
    | none => t

/-- TL[l], the layer temperature for throttling (R423). -/
def State.throttleTemp (s : State) (l : Nat) : Option Int :=
  match s.refreshTemp l with
  | some t => some t
  | none => (s.estimate l).map fun e => e.1

/-! ### Base sensors and rails (R416, R426, R430, R438) -/

/-- One base-die sample; a sensor that becomes invalid raises THM_SENSOR_FAIL once (R416). -/
def State.baseSample (s : State) (i x : Nat) : State :=
  let ok : Bool := decide (tempOf x ≥ -2560)
  let s := (s.setFld Fld.THM_BASE_T_SAMPLE x 0 i).setFlag Fld.THM_BASE_T_VALID ok 0 i
  let seen := s.thm.baseSeen.contains i
  if ok then { s with thm := { s.thm with baseSeen := s.thm.baseSeen.filter fun k => k != i } }
  else if seen then s
  else
    let s := { s with thm := { s.thm with baseSeen := i :: s.thm.baseSeen } }
    (s.bump Fld.THM_CNT_COUNT 0 2).raise .thmSensorFail 0 (thmInfo x i 0)

/-- The hottest base-die sensor's sample and code. -/
def State.hottest (s : State) : Nat × Nat :=
  (List.range 16).foldl (fun m i =>
    let x := s.fld Fld.THM_BASE_T_SAMPLE 0 i
    if s.flag Fld.THM_BASE_T_VALID 0 i ∧ tempOf x > tempOf m.1 then (x, i) else m) (0x2000, 0)

/-- Pull THERM_N low while a present layer's effective level or the base die asks for it (R427). -/
def State.thermWanted (s : State) : Bool :=
  s.flag Fld.THM_STATUS_BASE_OVER ||
  s.presentLayers.any fun l => bits (s.fld Fld.THM_LEVELS_LEVEL) (3 * l + 5) (3 * l + 3) ≥ s.fld Fld.THM_THROT_CFG_THERM_LEVEL

/-- Set the THERM_N pin and its status (R427). -/
def State.setTherm (s : State) (low : Bool) : State :=
  ({ s with pins := { s.pins with thermLow := low } }).setFlag Fld.THM_STATUS_THERM low

/-- THM_BASE_OVER_TEMP each time TB passes 105 °C rising (R426). -/
def State.baseOver (s : State) : State :=
  let past : Bool := match s.tb with
    | some t => t > 6720
    | none => false
  let was := s.flag Fld.THM_STATUS_BASE_OVER
  let s := s.setFlag Fld.THM_STATUS_BASE_OVER past
  let s := if past ∧ ¬ was then s.raise .thmBaseOverTemp 0 (thmInfo s.hottest.1 s.hottest.2 0) else s
  if s.thermWanted then s.setTherm true else s

/-- The rail samples: VDDC against the AVS target, VHOLD against 3.135 V, each over 16 frames (R430, R438). -/
def State.railSamples (s : State) (r : List (BitVec 14)) : State :=
  let s := r.zipIdx.foldl (fun s e => if e.2 < 5 then s.setFld Fld.PWR_RAIL_SAMPLE e.1.toNat 0 e.2 else s) s
  let v := s.fld Fld.PWR_RAIL_SAMPLE 0 0
  let tgt := 10 * s.fld Fld.PWR_AVS_STATUS_TARGET
  let far : Bool := tgt != 0 && decide (20 * (max v tgt - min v tgt) > tgt)
  let p := s.pwr
  let out := if far then min 16 (p.vddcOut + 1) else 0
  let inn := if far then 0 else min 16 (p.vddcIn + 1)
  let fire : Bool := out = 16 && !p.vddcSeen
  let seen := (p.vddcSeen || fire) && inn != 16
  let h := s.fld Fld.PWR_RAIL_SAMPLE 0 4
  let watch := s.inState .run || s.inState .nap || s.inState .park
  let low := if watch ∧ h < 7837 then min 16 (p.holdLow + 1) else 0
  let high := if h > 7837 then min 16 (p.holdOk + 1) else 0
  let lost : Bool := low = 16 && !p.holdSeen
  let s := { s with pwr := { p with
    vddcOut := out, vddcIn := inn, vddcSeen := seen, holdLow := low, holdOk := high
    holdSeen := (p.holdSeen || lost) && high != 16 } }
  let s := if fire then s.raise .pwrVddcRange 0 (thmInfo v 0 0) else s
  if lost then s.raise .pwrHoldLost 0 (thmInfo h 4 0) else s

/-! ### Polls (R417, R420) -/

/-- The layer to poll now: the first hot one, else the next present layer of the rotation. -/
def State.pollNext (s : State) : Option Nat :=
  match s.vert.hot with
  | l :: _ => some l
  | [] => ((List.range 16).map fun i => (s.thm.next + i) % 16).find? fun l => s.flag Fld.LAY_STATE_PRESENT l

/-- Poll a layer: TEMP, the gain words and the column words of C0 to C7 of its bundle, side 0 (R417); the last witness ends (R420). A layer whose bundle carries no trains is passed over. -/
def State.poll (s : State) : State :=
  match s.pollNext with
  | none => s
  | some l =>
    let b := 4 * l
    let s := if s.vert.hot.isEmpty then { s with thm := { s.thm with next := (l + 1) % 16 } } else s
    if ¬ s.bundleUp b then s else
    let s := (s.modThm l fun x => { x with means := none }).setFld Fld.THM_LAYER_T_W_VALID 0 0 l
    let s := s.sendCfg { op := 0x13, bundle := b, layer := l, count := 2, use := .temp l } [(0x13, l)]
    let g := 0x5000 + 128 * b
    let s := s.sendCfg { op := 0x10, bundle := b, layer := l, addr := g, count := 8, use := .gains l } [getcfgOp l g 8]
    let k := 0x1000 + 128 * b
    s.sendCfg { op := 0x10, bundle := b, layer := l, addr := k, count := 8, use := .cols l } [getcfgOp l k 8]

/-- One core-die sensor's reading of a poll; invalid in four polls in a row raises THM_SENSOR_FAIL once (R417). -/
def State.coreSensor (s : State) (l i x : Nat) : State :=
  let t := tempOf x
  let ok : Bool := decide (-2560 ≤ t ∧ t ≤ 8000)
  let n := if ok then 0 else min 4 (Store.get (s.thmL l).bad i 0 + 1)
  let seen := (s.thmL l).badSeen.contains i
  let fire : Bool := n = 4 && !seen
  let s := s.modThm l fun y => { y with
    bad := Store.set y.bad i 0 n
    badSeen := if ok then y.badSeen.filter (fun k => k != i) else if fire then i :: y.badSeen else y.badSeen }
  if fire then (s.bump Fld.THM_CNT_COUNT 0 2).raise .thmSensorFail 0 (thmInfo x i 0 (some l)) else s

/-- The two temperature words of a TEMP (R307): S[l] is the highest valid reading. -/
def State.tempPoll (s : State) (l : Nat) (w : List Nat) : State :=
  let w0 := w.getD 0 0x20002000
  let w1 := w.getD 1 0x20002000
  let xs := [bits w0 13 0, bits w0 29 16, bits w1 13 0, bits w1 29 16]
  let s := xs.zipIdx.foldl (fun s e => s.coreSensor l e.2 e.1) s
  let good := xs.filter fun x => decide (-2560 ≤ tempOf x ∧ tempOf x ≤ 8000)
  let s := { s with vert := { s.vert with hot := s.vert.hot.filter fun k => k != l } }
  let s := s.modThm l fun x => { x with polled := true }
  let s := s.setFlag Fld.THM_LAYER_T_S_VALID (!good.isEmpty) 0 l
  match good with
  | [] => s
  | x :: r => s.setFld Fld.THM_LAYER_T_SENSE (r.foldl (fun m y => if tempOf y > tempOf m then y else m) x) 0 l

/-- The median of eight: the 4th and 5th smallest, halved, rounded down (R420). -/
def median8 (xs : List Int) : Int :=
  let ys := sortBy (fun a b => decide (a ≤ b)) xs
  (ys.getD 3 0 + ys.getD 4 0) / 2

/-- The column words of a poll complete the witness (R420). -/
def State.witness (s : State) (l : Nat) (cols : List Nat) : State :=
  match (s.thmL l).means with
  | none => s
  | some ms =>
    let s := s.modThm l fun x => { x with means := none }
    if ¬ s.flag Fld.THM_CFG_WIT_EN ∨ ¬ s.flag Fld.THM_WIT_REF_VALID 0 l then s else
    let g := median8 (ms.map fun w => (bits w 11 0 : Int) - s.fld Fld.THM_WIT_REF_G_BASE 0 l)
    let d := median8 (cols.map fun w => (16 * bits w 23 16 + bits w 15 12 : Int) - s.fld Fld.THM_WIT_REF_D_TRAIN 0 l)
    let (q, s) := s.divFree (signedOf 16 (s.fld Fld.THM_WIT_K_KG) * g + signedOf 16 (s.fld Fld.THM_WIT_K_KD) * d) 4
    let (x, s) := s.sample14 (tempOf (s.fld Fld.THM_WIT_REF_T_TRAIN 0 l) + q)
    (s.setFld Fld.THM_LAYER_T_WIT x 0 l).setFld Fld.THM_LAYER_T_W_VALID 1 0 l

/-- The witness reference at the end of a cold V4, from the gain and column words of the eight sampled columns, while S[l] is valid (R421). -/
def State.setWitRef (s : State) (l : Nat) (gains cols : List Nat) : State :=
  if ¬ s.flag Fld.THM_LAYER_T_S_VALID 0 l then s else
  let g := median8 (gains.map fun w => (bits w 23 12 : Int))
  let d := median8 (cols.map fun w => (16 * bits w 23 16 + bits w 15 12 : Int))
  let s := (s.setFld Fld.THM_WIT_REF_G_BASE g.toNat 0 l).setFld Fld.THM_WIT_REF_D_TRAIN d.toNat 0 l
  ((s.setFld Fld.THM_WIT_REF_T_TRAIN (s.fld Fld.THM_LAYER_T_SENSE 0 l) 0 l).setFld Fld.THM_WIT_REF_VALID 1 0 l).setFld Fld.NVM_CAL_DIRTY 1

/-! ### The model (R418, R419) -/

/-- The conductance from node l upward; G[16] joins the top layer to the lid. -/
def State.condUp (s : State) (l top : Nat) : Nat := s.fld Fld.THM_MODEL_RC_G 0 (if l = top then 16 else l)

/-- The node temperatures of one step, in 1/4,096,000 °C, layer after layer from the old values. -/
def State.modelNew (s : State) (tb : Int) (top : Nat) : List (Nat × Int) × State :=
  let T (l : Nat) : Int :=
    if l = 0 then 64000 * tb
    else if l = top + 1 then 64000 * tempOf (s.fld Fld.THM_LID_T_LID)
    else (s.thmL (l - 1)).model
  (List.range top).foldl (fun acc i =>
    let l := i + 1
    let s := acc.2
    let a := (s.thmL i).act
    let work := a.1 * s.fld Fld.THM_MODEL_E_E_ACT + a.2.1 * s.fld Fld.THM_MODEL_E_E_LINE + a.2.2 * s.fld Fld.THM_MODEL_P_E_REF
    let flow : Int := (s.fld Fld.THM_MODEL_RC_G 0 (l - 1) : Int) * (T (l - 1) - T l) + (s.condUp l top : Int) * (T (l + 1) - T l)
    let (q, s) := s.divFree flow 4096000
    let p : Int := (s.fld Fld.THM_MODEL_P_P_IDLE + work / 1000 : Nat) + q
    let (d, s) := s.divFree (p * 4096) (s.fld Fld.THM_MODEL_RC_C 0 l)
    (acc.1 ++ [(i, T l + d)], s)) ([], s)

/-- M[l] in its register. -/
def State.showModel (s : State) (l : Nat) : State :=
  let (m, s) := s.divFree (s.thmL l).model 64000
  let (x, s) := s.sample14 m
  (s.setFld Fld.THM_LAYER_T_MODEL x 0 l).setFld Fld.THM_LAYER_T_M_VALID 1 0 l

/-- One step of the model: set at the first frame with TB valid, advanced after it; no estimate while it does not run (R418, R419). -/
def State.modelStep (s : State) : State :=
  let off (s : State) : State := s.upTo 16 fun l s => s.setFld Fld.THM_LAYER_T_M_VALID 0 0 l
  match s.tb, s.presentLayers.getLast? with
  | some tb, some top =>
    if ¬ s.flag Fld.THM_CFG_MODEL_EN then off s
    else
      let s := if s.thm.started then
          let (ns, s) := s.modelNew tb (top + 1)
          ns.foldl (fun s e => s.modThm e.1 fun x => { x with model := e.2 }) s
        else
          let s := s.upTo 16 fun l s => s.modThm l fun x => { x with model := 64000 * (s.sensed l).getD tb }
          { s with thm := { s.thm with started := true } }
      s.upTo (top + 1) fun l s => s.showModel l
  | _, _ => off s

/-! ### Disagreement (R422) -/

/-- Onset and clearing of SENSOR_DISAGREE of one layer. -/
def State.disagree (s : State) (l : Nat) : State :=
  match s.sensed l with
  | none => s.modThm l fun x => { x with run := 0 }
  | some t =>
    let lim := s.fld Fld.THM_CFG_DISAGREE
    let on := s.flag Fld.THM_LAYER_T_DISAGREE 0 l
    let hit : Bool := match s.estimate l with
      | some e => if on then e.1 - t ≤ (lim / 2 : Nat) else e.1 - t > lim
      | none => false
    let n := if hit then (s.thmL l).run + 1 else 0
    if n < s.fld Fld.THM_CFG_DIS_TIME then s.modThm l fun x => { x with run := n }
    else
      let s := (s.modThm l fun x => { x with run := 0 }).setFlag Fld.THM_LAYER_T_DISAGREE (!on) 0 l
      if on then s else
      let e := (s.estimate l).getD (0, 4)
      (s.bump Fld.THM_CNT_COUNT 0 0).raise .thmSensorDisagree 0 (thmInfo (signedTo 14 e.1) e.2 0 (some l))

/-! ### Refresh rate (R229 to R231) -/

/-- The row of the refresh table a temperature falls in: 0 to 3, as REF.LAYER_RATE codes it (R228, R250). -/
def rateRow (t : Int) : Nat := if t ≤ 5440 then 0 else if t ≤ 6080 then 1 else if t ≤ 6720 then 2 else 3

/-- The lower bound of a row above the first (R228). -/
def rateBound (row : Nat) : Int := if row ≤ 1 then 5440 else if row = 2 then 6080 else 6720

/-- Re-evaluate M of one layer: rises at once, falls a row at a time below the hysteresis; REF_OVER_TEMP and its request above 105 °C; M = 4 without a valid temperature. -/
def State.refreshRate (s : State) (l : Nat) : State :=
  let x := s.thmL l
  let hyst : Int := s.fld Fld.REF_CFG_HYST
  match s.refreshTemp l with
  | none =>
    let fire := x.polled && !x.lost
    let s := s.modThm l fun y => { y with rate := 2, everValid := false, lost := y.lost || fire }
    if fire then s.raise .refTempInvalid 0 { loc := some (0, l + 1, 0, 0, 0) } else s
  | some t =>
    let row := rateRow t
    let rate := if ¬ x.everValid then row
      else if row > x.rate then row
      else if row < x.rate ∧ t ≤ rateBound x.rate - hyst then x.rate - 1
      else x.rate
    let fire : Bool := t > 6720 && !x.hot
    let hot : Bool := if t > 6720 then true else if t ≤ 6720 - hyst then false else x.hot
    let s := s.modThm l fun y => { y with rate := rate, everValid := true, lost := false, hot := hot }
    if fire then s.raise .refOverTemp 0 { loc := some (0, l + 1, 0, 0, 0) } else s

/-! ### Throttling (R424) -/

/-- A level from a temperature and four thresholds in °C: up at once, down one step below the hysteresis. -/
def stepLevel (th : List Nat) (hyst k : Nat) (t : Int) : Nat :=
  let top := ((List.range 4).filter fun i => t ≥ 64 * th.getD i 0).foldl (fun m i => max m (i + 1)) 0
  if top ≥ k then top
  else if t ≤ (64 * th.getD (k - 1) 0 : Int) - hyst then k - 1 else k

/-- The layer level of one layer. -/
def State.layerLevel (s : State) (l : Nat) : Nat :=
  match s.throttleTemp l with
  | none => 2
  | some t => stepLevel [s.fld Fld.THM_THROT_LAYER_TH1, s.fld Fld.THM_THROT_LAYER_TH2, s.fld Fld.THM_THROT_LAYER_TH3, s.fld Fld.THM_THROT_LAYER_TH4]
      (s.fld Fld.THM_THROT_CFG_HYST) (s.thmL l).level t

/-- The base level. -/
def State.baseLevel (s : State) : Nat :=
  match s.tb with
  | none => 4
  | some t => stepLevel [s.fld Fld.THM_THROT_BASE_TH1, s.fld Fld.THM_THROT_BASE_TH2, s.fld Fld.THM_THROT_BASE_TH3, s.fld Fld.THM_THROT_BASE_TH4]
      (s.fld Fld.THM_THROT_CFG_HYST) s.thm.base t

/-- The effective level of one layer, staged; a rise raises THM_THROTTLE. -/
def State.throttle (s : State) (l : Nat) : State :=
  let tl := s.throttleTemp l
  let s := s.setFld Fld.THM_LAYER_T_USED (signedTo 14 (tl.getD (-8192))) 0 l
  let k := s.layerLevel l
  let x := s.thmL l
  let eff := max (max k s.thm.base) (max (if x.hot then 4 else 0) (s.fld Fld.THM_THROT_CFG_FORCE))
  let s := s.modThm l fun y => { y with level := k, eff := eff }
  if eff > x.eff then
    (s.bump Fld.THM_CNT_COUNT 0 1).raise .thmThrottle 0 (thmInfo (s.fld Fld.THM_LAYER_T_USED 0 l) 0 eff (some l))
  else s

/-- A number with bits hi:lo replaced. -/
def putBits (x hi lo v : Nat) : Nat := x - bits x hi lo * 2 ^ lo + v % 2 ^ (hi - lo + 1) * 2 ^ lo

/-- The rates and levels to take effect at the next tick (R229, R424); REF.STATUS.OVER_TEMP. -/
def State.stageThermal (s : State) : State :=
  let ls := s.presentLayers
  let s := s.setFlag Fld.REF_STATUS_OVER_TEMP (ls.any fun l => (s.refreshTemp l).getD 0 > 6720)
  let rates := ls.foldl (fun n l => putBits n (2 * l + 1) (2 * l) (s.thmL l).rate) (s.fld Fld.REF_LAYER_RATE_RATE)
  let levels := ls.foldl (fun n l => putBits n (3 * l + 5) (3 * l + 3) (s.thmL l).eff)
    (putBits (s.fld Fld.THM_LEVELS_LEVEL) 2 0 s.thm.base)
  (s.atTick Fld.REF_LAYER_RATE_RATE rates).atTick Fld.THM_LEVELS_LEVEL levels

/-- TELEMETRY_SLOT: the base sensors and rails are sampled, a layer is polled, the model steps, disagreement, refresh rates and throttle levels are evaluated (R416 to R424, R229); once a frame, from cycle offset 1,200 on (R54). -/
def execTelemetrySlot (x : Telemetry) (s : State) : Out :=
  .next <| if s.thm.done ∨ ¬ s.start.b0 ∨ s.hold.isSome ∨ s.fld Fld.TT_TIME_CYCLE < 1200 then s else
    let s := { s with thm := { s.thm with done := true } }
    let s := x.base.zipIdx.foldl (fun s e => if e.2 < 16 then s.baseSample e.2 e.1.toNat else s) s
    let s := (s.baseOver).railSamples x.rails
    if s.inState .park then s else
    let s := (s.poll).modelStep
    let s := s.presentLayers.foldl (fun s l => s.disagree l) s
    let s := s.presentLayers.foldl (fun s l => s.refreshRate l) s
    let s := { s with thm := { s.thm with base := s.baseLevel } }
    (s.presentLayers.foldl (fun s l => s.throttle l) s).stageThermal

/-! ### Adaptive voltage (R428 to R430) -/

/-- Put an operation on the AVSBus, behind the one in progress. -/
def State.avsStart (s : State) (o : AvsOp) : State :=
  if s.pwr.avs.isSome then { s with pwr := { s.pwr with queue := s.pwr.queue ++ [o] } }
  else { s with pwr := { s.pwr with avs := some o, again := false } }

/-- The next waiting operation takes the bus. -/
def State.avsNext (s : State) : State :=
  match s.pwr.queue with
  | [] => { s with pwr := { s.pwr with avs := none, again := false } }
  | o :: r => { s with pwr := { s.pwr with avs := some o, again := false, queue := r } }

/-- AVS_LOOP_PERIOD: PERIOD ticks after its last run the loop of R429 runs with the lowest slack code of the 24 monitors over the frame just ended (R50). -/
def execAvsLoopPeriod (slack : BitVec 6) (s : State) : Out :=
  .next <| if s.ticks < s.pwr.loopAt + s.fld Fld.PWR_AVS_CFG_PERIOD then s else
    let s := { s with pwr := { s.pwr with loopAt := s.ticks } }
    if ¬ s.flag Fld.PWR_AVS_CFG_EN ∨ s.flag Fld.PWR_AVS_STATUS_FROZEN ∨ s.flag Fld.PWR_AVS_STATUS_FAILED then s else
    let s := s.setFld Fld.PWR_AVS_STATUS_SLACK slack.toNat
    let t := s.fld Fld.PWR_AVS_STATUS_TARGET
    let v := if slack.toNat < s.fld Fld.PWR_AVS_SLACK_S_LO then min (t + 5) (s.fld Fld.PWR_AVS_LIM_V_MAX)
      else if slack.toNat > s.fld Fld.PWR_AVS_SLACK_S_HI then max (t - 5) (s.fld Fld.PWR_AVS_LIM_V_MIN) else t
    let low : Bool := slack.toNat < s.fld Fld.PWR_AVS_SLACK_S_LO
    if v ≠ t then s.avsStart (.write v low)
    else if low ∧ t = s.fld Fld.PWR_AVS_LIM_V_MAX then s.raise .pwrAvsFail else s

/-- A voltage write is acknowledged: TARGET follows, the steps count, the status is read; at V_MAX with the slack still short, PWR_AVS_FAIL (R428, R429). -/
def State.avsWritten (s : State) (v : Nat) (low : Bool) : State :=
  let t := s.fld Fld.PWR_AVS_STATUS_TARGET
  let s := s.setFld Fld.PWR_AVS_STATUS_TARGET v
  let s := if v > t then s.bump Fld.PWR_CNT_COUNT 0 0 else if v < t then s.bump Fld.PWR_CNT_COUNT 0 1 else s
  let s := { s with pwr := { s.pwr with queue := AvsOp.status :: s.pwr.queue } }
  if low ∧ v = s.fld Fld.PWR_AVS_LIM_V_MAX then s.raise .pwrAvsFail else s

/-- The regulator's target as read: outside V_MIN to V_MAX the nearer bound is written (R430). -/
def State.avsRead (s : State) (v : Nat) : State :=
  let s := s.setFld Fld.PWR_AVS_STATUS_TARGET v
  let lo := s.fld Fld.PWR_AVS_LIM_V_MIN
  let hi := s.fld Fld.PWR_AVS_LIM_V_MAX
  if v < lo then { s with pwr := { s.pwr with queue := s.pwr.queue ++ [AvsOp.write lo] } }
  else if v > hi then { s with pwr := { s.pwr with queue := s.pwr.queue ++ [AvsOp.write hi] } }
  else s

/-- AVS_OP_COMPLETE: the operation on the bus ends; a failed one is repeated once 16 frames later, three failures in a row stop the loop (R430). -/
def execAvsOpComplete (good : Bool) (v : Nat) (s : State) : Out :=
  .next <| match s.pwr.avs with
  | none => s
  | some o =>
    if good then
      let s := { s with pwr := { s.pwr with fails := 0 } }
      let s := match o with
        | .write w low => s.avsWritten w low
        | .readV => s.avsRead v
        | .current => (s.setFld Fld.PWR_CURRENT_SAMPLE v).setFld Fld.PWR_CURRENT_VALID 1
        | .status => s
      s.avsNext
    else
      let n := s.pwr.fails + 1
      let retry := if s.pwr.again ∨ n ≥ 3 then s.pwr.retry else some o
      let s := (s.bump Fld.PWR_CNT_COUNT 0 2).avsNext
      let s := { s with pwr := { s.pwr with
        fails := if n ≥ 3 then 0 else n, retry := retry, retryAt := s.ticks, stopAt := if n ≥ 3 then s.ticks else s.pwr.stopAt } }
      if n ≥ 3 then (s.setFld Fld.PWR_AVS_STATUS_FAILED 1).raise .pwrAvsFail else s

/-- The bus may start an operation: none while a test has frozen the target (R375; log entry 134). -/
def State.avsFree (s : State) : Bool := !s.flag Fld.PWR_AVS_STATUS_FROZEN

/-- AVS_RETRY_TIMER: 16 frames after a failure the operation is repeated; 65,536 frames after the loop stopped, and every 65,536 from then, it is tried again (R50, R430). -/
def execAvsRetryTimer (s : State) : Out :=
  .next <| match s.pwr.retry with
  | some o =>
    if s.pwr.avs.isSome ∨ s.ticks < s.pwr.retryAt + 16 ∨ ¬ s.avsFree then s
    else { s with pwr := { s.pwr with retry := none, avs := some o, again := true } }
  | none =>
    if ¬ s.flag Fld.PWR_AVS_STATUS_FAILED ∨ s.ticks < s.pwr.stopAt + 65536 then s
    else s.setFld Fld.PWR_AVS_STATUS_FAILED 0

/-- AVS_CURRENT_READ: 64 ticks after the last one the rail current is read (R50, R428). -/
def execAvsCurrentRead (s : State) : Out :=
  .next <| if ¬ s.start.b0 ∨ s.hold.isSome ∨ ¬ s.avsFree ∨ s.ticks < s.pwr.currAt + 64 then s
  else ({ s with pwr := { s.pwr with currAt := s.ticks } }).avsStart .current

end Sys2Proof.Machine
end

