-- ==== Sys2Proof/Machine/March.lean ====
section
/-! DEFINITION. The march of the shutdown and start-up tests (R370 to R372): backgrounds, row order, the elements of a bank row by row, and what becomes of a row that fails. -/
namespace Sys2Proof.Machine

/-! ### Elements and backgrounds (R370, R371) -/

/-- What an element reads of a row: none, B (false) or its complement (table March elements). -/
def marchReads (elem : Nat) : Option Bool :=
  match elem with
  | 0 => none | 1 => some false | 2 => some true | 3 => some false | 4 => some true | _ => some false

/-- What an element writes to a row: B (false), its complement, or nothing. -/
def marchWrites (elem : Nat) : Option Bool :=
  match elem with
  | 0 => some false | 1 => some true | 2 => some false | 3 => some true | 4 => some false | _ => none

/-- Elements M3 and M4 visit rows in descending order. -/
def marchDown (elem : Nat) : Bool := elem = 3 || elem = 4

/-- The 576 stored bits of background B in a line of row r: solid, row stripe, checkerboard (R371). -/
def background (code row : Nat) : Line :=
  match code with
  | 0 => 0
  | 1 => if row % 2 = 1 then ~~~(0 : Line) else 0
  | _ => BitVec.ofNat 576 ((2 ^ 576 - 1) / 3 * (2 - row % 2))

/-- The line an element expects or writes: B, or its complement. -/
def State.marchLine (s : State) (row : Nat) (inv : Bool) : Line :=
  let b := background (s.fld Fld.BST_CFG_BACKGROUND) row
  if inv then ~~~b else b

/-! ### Row order (R372) -/

/-- The free yard rows of a bank, ascending, as rows. -/
def State.yardRows (s : State) (c bank : Nat) : List Nat := (s.freeYard c bank).map (24576 + ·)

/-- The first row at or past r in ascending order: rows 0 to 24,575, then the free yard rows; in the repeat, the rows repaired (R372). -/
def State.marchUpFrom (s : State) (c : Nat) (m : MarchBank) (r : Nat) : Option Nat :=
  match m.todo with
  | some rows => rows.find? fun y => y ≥ r
  | none => if r < 24576 then some r else (s.yardRows c m.bank).find? fun y => y ≥ r

/-- The last row before r in that order. -/
def State.marchDownFrom (s : State) (c : Nat) (m : MarchBank) (r : Nat) : Option Nat :=
  match m.todo with
  | some rows => (rows.filter fun y => y < r).getLast?
  | none =>
    match ((s.yardRows c m.bank).filter fun y => y < r).getLast? with
    | some y => some y
    | none => if r = 0 then none else some (min r 24576 - 1)

/-- The first row of the element a bank is at. -/
def State.marchFirst (s : State) (c : Nat) (m : MarchBank) : Option Nat :=
  if marchDown m.elem then s.marchDownFrom c m 24672 else s.marchUpFrom c m 0

/-- The row after the one a bank is at. -/
def State.marchNext (s : State) (c : Nat) (m : MarchBank) : Option Nat :=
  if marchDown m.elem then s.marchDownFrom c m m.row else s.marchUpFrom c m (m.row + 1)

/-! ### A bank's march -/

/-- The march of a bank of channel c. -/
def State.marchOf (s : State) (c bank : Nat) : Option MarchBank := (s.chan c).march.find? fun m => m.bank = bank

/-- Change the march of a bank. -/
def State.modMarch (s : State) (c bank : Nat) (g : MarchBank → MarchBank) : State :=
  s.modChan c fun x => { x with march := x.march.map fun m => if m.bank = bank then g m else m }

/-- Write the row a bank is at in two 16-line trains, through its remap (R370, R372). -/
def State.marchWrite (s : State) (c : Nat) (m : MarchBank) (inv : Bool) : State :=
  (s.modMarch c m.bank fun _ => { m with writing := true, left := 32 }).pushRow c m.bank (s.actRow c m.bank m.row) true .marchWrite
    fun _ => s.marchLine m.row inv

/-- Begin an element's work on the row a bank is at: read it in two 16-line trains, or write it (R370). -/
def State.marchRow (s : State) (c : Nat) (m : MarchBank) : State :=
  match marchReads m.elem, marchWrites m.elem with
  | none, some inv => s.marchWrite c m inv
  | _, _ =>
    (s.modMarch c m.bank fun _ => { m with writing := false, left := 32, bits := [] }).pushRow c m.bank
      (s.actRow c m.bank m.row) false .marchRead fun _ => 0

/-- Steps of a part (table Test parts). -/
def State.addSteps (s : State) (n : Nat) : State := s.setFld Fld.BST_STEPS_VALUE (s.fld Fld.BST_STEPS_VALUE + n)

/-- A bank has finished an element: a step on its first pass; the next element; after M5, the six once more on the rows repaired (R367, R370, R372). -/
def State.marchElemEnd (s : State) (c : Nat) (m : MarchBank) : State :=
  let s := if m.todo.isNone then s.addSteps 1 else s
  let m' : MarchBank :=
    if m.elem < 5 then { m with elem := m.elem + 1 }
    else { m with elem := 0, todo := some (if m.todo.isNone then (List.range 24576).filter fun r => m.fixed.contains r else []) }
  match s.marchFirst c m' with
  | some r => s.marchRow c { m' with row := r }
  | none => s.modChan c fun x => { x with march := x.march.filter fun y => y.bank != m.bank }

/-- Go on from a row whose work in the element is done. -/
def State.marchAdvance (s : State) (c : Nat) (m : MarchBank) : State :=
  match s.marchNext c m with
  | some r => s.marchRow c { m with row := r }
  | none => s.marchElemEnd c m

/-- After the read of a row, and its repair where it failed: the element's write, or the next row. -/
def State.marchAfterRead (s : State) (c : Nat) (m : MarchBank) : State :=
  match marchWrites m.elem with
  | some inv => s.marchWrite c m inv
  | none => s.marchAdvance c m

/-! ### Failing rows (R345, R346, R372) -/

/-- Repair a row whose contents are void: the resource is put in place, nothing is moved (R346, R348, R372). -/
def State.repairVoid (s : State) (c bank row : Nat) (bits : List (Nat × Nat)) : State :=
  if ¬ s.flag Fld.REP_CFG_EN then s.exhausted c bank row else
  let s := s.testGroups c bank bits
  let k := s.caseOf c bank row
  let s := s.markServing c bank row
  match s.chooseRes c bank row k with
  | none => s.exhausted c bank row
  | some r =>
    let soft := match r with
      | .spare _ => true
      | .yard _ => false
    let e := rowEnt c bank row (if soft then 2 else 3) r
    let s := ((s.repSet e).bump Fld.REP_CNT_COUNT 0 (if soft then 0 else 2)).checkBudgets c
    let s := s.noteGroups c bank bits
    let s := if soft then s.sendRep 0x14 c e (.soft c 1 bank row) else s
    s.raise .repRowRepaired 0 { detail := repDetail bank (some r), loc := some (c, layerOf c, bank, row, 0) }

/-- A row failed the march: counted and raised; a free yard row is recorded as bad, any other passed to repair (R372). -/
def State.marchFail (s : State) (c bank row : Nat) (bits : List (Nat × Nat)) : State :=
  let s := s.bump Fld.BST_FAILS_FAIL_ROWS
  let col := (bits.headD (0, 0)).1
  let s := s.raise .bstMarchRow 0 { access := 7, loc := some (c, layerOf c, bank, row, col) }
  if row ≥ 24576 then s.markBad c bank (.yard (row - 24576)) else s.repairVoid c bank row bits

/-- Whether an SREP of a bank's rows awaits its answer. -/
def State.srepOut (s : State) (c bank : Nat) : Bool :=
  s.vert.cfg.any fun k => match k.use with
    | .soft d 1 b _ => d = c && b = bank
    | _ => false

/-- The read of a row is complete. A row that failed is dealt with once, but that a repaired row which fails again takes its next choice; the march of the bank waits for the answer of an SREP (R346, R347, R372; log entry 133). -/
def State.marchReadEnd (s : State) (c : Nat) (m : MarchBank) : State :=
  if m.bits.isEmpty ∨ m.lost.contains m.row then s.marchAfterRead c m else
  let was := s.repairOf c m.bank m.row
  let s := s.marchFail c m.bank m.row m.bits
  let fixed := s.repairOf c m.bank m.row != was
  let m := if fixed then { m with fixed := m.row :: m.fixed } else { m with lost := m.row :: m.lost }
  if s.srepOut c m.bank then s.modMarch c m.bank fun _ => { m with waiting := true }
  else s.marchAfterRead c m

/-- One more line of a bank's operation is in; at the last, what follows. -/
def State.marchStep (s : State) (c bank : Nat) : State :=
  match s.marchOf c bank with
  | none => s
  | some m =>
    if m.left > 1 then s.modMarch c bank fun y => { y with left := m.left - 1 }
    else if m.writing then s.marchAdvance c m
    else s.marchReadEnd c m

/-- A line of the march read: its 576 stored bits against those expected (R371). -/
def State.marchIn (s : State) (c bank ix : Nat) (line : Line) : State :=
  match s.marchOf c bank with
  | none => s
  | some m =>
    let want := s.marchLine m.row ((marchReads m.elem).getD false)
    (s.modMarch c bank fun y => { y with bits := y.bits ++ diffBits ix want line }).marchStep c bank

/-- The SREP of a bank that waits has been answered. -/
def State.marchResume (s : State) (c bank : Nat) : State :=
  match s.marchOf c bank with
  | some m =>
    if m.waiting ∧ ¬ s.srepOut c bank then s.marchAfterRead c { m with waiting := false } else s
  | none => s

/-- Start the march on every bank of a channel, interleaved; a channel in self-refresh is taken out of it first (R248, R370, R373). -/
def State.startMarch (s : State) (c : Nat) : State :=
  let s := s.modChan c fun x => { x with march := (List.range 32).map fun b => { bank := b } }
  s.upTo 32 fun b s => s.marchRow c { bank := b }

/-- Stop the march of a channel; trains in flight complete (R376). -/
def State.stopMarch (s : State) (c : Nat) : State :=
  s.modChan c fun x => { x with march := [], prio := x.prio.filter fun t => !(t.lines.any fun l => l.use.marches) }

end Sys2Proof.Machine
end

