-- ==== Sys2Proof/Machine/Integrity.lean ====
section
/-! DEFINITION. Stored-data integrity (11) and what a checked line does: host reads, merges, marking writes, ganger, retests, migrations (R321 to R339, R347), fills (R331). -/
namespace Sys2Proof.Machine

/-! ### Checking a line (R321, R323 to R326) -/

/-- A line checked: results of both tiles, the line as corrected. -/
def checkLine (l : Line) : TileResult × TileResult × Line :=
  let a := checkTile (lineTile l 0)
  let b := checkTile (lineTile l 1)
  (a.1, b.1, lineOf a.2 b.2)

/-- Tiles of a line with a result, as a mask. -/
def tilesWith (r : TileResult) (a b : TileResult) : Nat := b2n (a = r) + 2 * b2n (b = r)

/-- The line with every tile that is uncorrectable or poisoned in poison form (R326, R338). -/
def poisonForm (a b : TileResult) (l : Line) : Line :=
  let f (r : TileResult) (t : Tile) : Tile := if r = .uncorrectable ∨ r = .poisoned then poisonTile else t
  lineOf (f a (lineTile l 0)) (f b (lineTile l 1))

/-- List a row for a targeted retest (R337). -/
def State.listRetest (s : State) (c bank row : Nat) : State :=
  let x := s.chan c
  if ¬ s.flag Fld.INT_RETEST_CFG_EN ∨ x.rtList.contains (bank, row) then s
  else if x.rtList.length ≥ 8 then s.bump Fld.CHN_INT_CNT_COUNT c 7
  else s.modChan c fun y => { y with rtList := y.rtList ++ [(bank, row)] }

/-- INT_TILE_CE and INT_TILE_UC of a checked line, each one event with the tiles it concerns flagged in its detail word (R323, R326, R340, R401; log entry 11). -/
def State.raiseTiles (s : State) (c bank row col access : Nat) (e : Option Ent) (a b : TileResult) : State :=
  let ce := tilesWith .corrected a b
  let uc := tilesWith .uncorrectable a b
  let s := if ce = 0 then s else
    (s.bump Fld.CHN_INT_CNT_COUNT c 0).raise .intTileCe c (lineInfo c bank row col access ce e)
  if uc = 0 then s else
    (s.bump Fld.CHN_INT_CNT_COUNT c 1).raise .intTileUc c (lineInfo c bank row col access uc e)

/-- A marking write or write-back of a line: not issued when a later write train holds the line; every request that touches the line waits for it (R326, R327). -/
def State.rewrite (s : State) (c : Nat) (t : Train) (l : TLine) (te : Nat) (line : Line) (use : Use) : State :=
  if l.past ∨ te = 0 then s else
  let s := s.bump Fld.CHN_INT_CNT_COUNT c (if use = .mark then 3 else 9)
  let s := s.modChan c fun x => { x with locks := (0, t.bank, t.row, l.col) :: x.locks }
  s.pushPrio c { write := true, bank := t.bank, row := t.row, lines := [{ col := l.col, te := te, data := line, use := use }] }

/-! ### Host reads and merges (R155, R198, R323, R325) -/

/-- Finish line ix of an entry. -/
def State.lineFinal (s : State) (c : Nat) (l : TLine) (line : Line) (pois : Bool) : State :=
  (s.modLine c l.ord l.ix fun j => { j with st := .done, got := line, pois := pois }).closeEnt c l.ord

/-- A line of a host read checked. -/
def State.hostLine (s : State) (c : Nat) (t : Train) (l : TLine) (line : Line) : State :=
  let (a, b, fixed) := checkLine line
  let e := (s.chan c).ent l.ord
  let stored := a = .poisoned ∨ b = .poisoned
  let uc := tilesWith .uncorrectable a b
  let s := s.raiseTiles c t.bank t.row l.col 1 e a b
  let s := if tilesWith .corrected a b ≠ 0 ∧ ¬ stored then s.listRetest c t.bank t.row else s
  let s := if stored then
      (s.bump Fld.CHN_INT_CNT_COUNT c 2).raise .intPoisonRead c (lineInfo c t.bank t.row l.col 1 (tilesWith .poisoned a b) e)
    else s
  let s := s.rewrite c t l uc (poisonForm a b fixed) .mark
  s.lineFinal c l fixed (stored || uc != 0)

/-- The bytes of unit i of an entry that a write puts in, as a mask of bits (R157, R198). -/
def Ent.unitMask (e : Ent) (i : Nat) : Unit32 :=
  if e.kind != .wrm then 0#256 - 1 else
  (List.range 32).foldl (fun m k => if e.mask.getLsbD (32 * i + k) then m ||| (0xFF#256 <<< (8 * k)) else m) 0

/-- Tile t of host line ln as an entry leaves it: its enabled bytes over old ones (R198). -/
def Ent.mergeTile (e : Ent) (ln t : Nat) (old : Unit32) : Unit32 :=
  let u := 2 * ln + t
  if e.unit ≤ u ∧ u < e.unit + e.len then
    let m := e.unitMask (u - e.unit)
    (old &&& ~~~m) ||| ((e.data.getD (u - e.unit) 0) &&& m)
  else old

/-- A line with an entry's bytes merged into it, both tiles encoded anew. -/
def Ent.mergeLine (e : Ent) (ln : Nat) (old : Line) : Line :=
  lineOf (encodeTile (e.mergeTile ln 0 (tileData (lineTile old 0))))
    (encodeTile (e.mergeTile ln 1 (tileData (lineTile old 1))))

/-- A line read for a read-modify-write, checked: merged and its write queued, or left unwritten when poisoned (R198, R323, R326). -/
def State.rmwLine (s : State) (c : Nat) (t : Train) (l : TLine) (line : Line) : State :=
  let (a, b, fixed) := checkLine line
  match (s.chan c).ent l.ord with
  | none => s
  | some e =>
    if e.finished then s.modChan c fun x => x.unlock l.ord t.bank t.row l.col else
    let uc := tilesWith .uncorrectable a b
    let stored := a = .poisoned ∨ b = .poisoned
    let bad := stored ∨ uc ≠ 0
    let s := s.raiseTiles c t.bank t.row l.col 3 (some e) a b
    let s := if tilesWith .corrected a b ≠ 0 ∧ ¬ stored then s.listRetest c t.bank t.row else s
    if bad then
      let s := s.raise .chRmwPoison c (lineInfo c t.bank t.row l.col 3 (s.chDetail c 0) (some e))
      let s := s.rewrite c t l uc (poisonForm a b fixed) .mark
      (s.modChan c fun x => x.unlock l.ord t.bank t.row l.col).lineFinal c l fixed true
    else match e.lines.drop l.ix with
      | [] => s
      | j :: _ =>
        let s := s.bump Fld.CHN_CNT_COUNT c 5
        let s := s.modLine c l.ord l.ix fun y => { y with st := .back }
        s.pushPrio c { write := true, bank := t.bank, row := t.row
                       lines := [{ col := l.col, te := j.te, data := e.mergeLine j.ln fixed, use := .rmwW, ord := l.ord, ix := l.ix }] }

/-! ### The ganger (R335, R336) -/

/-- A line of a ganger train checked (table Ganger actions). -/
def State.gangLine (s : State) (c : Nat) (t : Train) (l : TLine) (line : Line) : State :=
  let (a, b, fixed) := checkLine line
  let uc := tilesWith .uncorrectable a b
  let ce := tilesWith .corrected a b
  let s := s.raiseTiles c t.bank t.row l.col 4 none a b
  let s := if ce ≠ 0 then s.listRetest c t.bank t.row else s
  if uc ≠ 0 then s.rewrite c t l (uc + ce) (poisonForm a b fixed) .mark
  else s.rewrite c t l (if ce = 0 ∨ a = .poisoned ∨ b = .poisoned then ce else 3) fixed .wback

/-! ### Targeted retest (R338, R339) -/

/-- Change the retest of channel c. -/
def State.modRt (s : State) (c : Nat) (g : Retest → Retest) : State :=
  s.modChan c fun x => { x with rt := x.rt.map g }

/-- The corrected image of a line: uncorrectable and poisoned tiles in poison form (R338). -/
def goodLine (l : Line) : Line :=
  let (a, b, fixed) := checkLine l
  poisonForm a b fixed

/-- The pattern a pass writes (R338). -/
def Retest.pat (r : Retest) (col : Nat) : Line :=
  let img := Store.get r.img col 0
  if r.pass = 1 then ~~~img else goodLine img

/-- Count a finished row of an explicit channel test and go to the next: rows 0 to 24,575, then free yard rows, of every bank in order (R387). -/
def State.nextTestRow (s : State) (c : Nat) (lasting : Bool) : State :=
  match s.bst.ch with
  | none => s
  | some t =>
    if t.chan ≠ c then s else
    let s := s.setFld Fld.BST_CHTEST_STATUS_ROWS_DONE (s.fld Fld.BST_CHTEST_STATUS_ROWS_DONE + 1)
    let s := if lasting then
        (s.setFld Fld.BST_CHTEST_STATUS_LASTING (min 511 (s.fld Fld.BST_CHTEST_STATUS_LASTING + 1))).bump Fld.BST_CNT_COUNT 0 3
      else s
    if t.ending then s.endChTest 3 else
    let free := ((List.range 96).filter fun y => !(s.yardTaken c t.bank y)).map (24576 + ·)
    let next := if t.row < 24575 then some (t.row + 1) else free.find? fun r => r > t.row
    match next with
    | some r => { s with bst := { s.bst with ch := some { t with row := r } } }
    | none =>
      if t.bank < 31 then { s with bst := { s.bst with ch := some { t with bank := t.bank + 1, row := 0 } } }
      else s.endChTest (if s.fld Fld.BST_CHTEST_STATUS_LASTING = 0 then 1 else 2)

/-- The outcome of a retest; the bank is released (R339). -/
def State.endRetest (s : State) (c : Nat) (r : Retest) : State :=
  let s := s.modChan c fun x => { x with rt := none }
  let s := s.bump Fld.CHN_INT_CNT_COUNT c 4
  let s := if r.fails.isEmpty then s.bump Fld.CHN_INT_CNT_COUNT c 6
    else
      let s := s.bump Fld.CHN_INT_CNT_COUNT c 5
      let col := (r.fails.headD (0, 0)).1
      let tiles := b2n (r.fails.any fun f => f.2 < 288) + 2 * b2n (r.fails.any fun f => f.2 ≥ 288)
      let s := s.raise .intRetestLasting c (lineInfo c r.bank r.row col (if r.test then 7 else 6) (tiles + min 255 r.fails.length * 2 ^ 8) none)
      s.passRow c r.bank r.row r.fails
  let s := if r.test then s.nextTestRow c (!r.fails.isEmpty) else s
  s.reside c

/-- The retest's first read is complete: uncorrectable tiles are marked through good[x], pass 1 writes its pattern (R326, R338, R339). -/
def State.retestPass (s : State) (c : Nat) (r : Retest) : State :=
  let r := { r with pass := r.pass + 1, writing := true, left := 32 }
  let s := if r.pass = 1 then
      r.img.foldl (fun s e =>
        let (a, b, _) := checkLine e.2
        let bad := tilesWith .uncorrectable a b
        if bad = 0 then s else
        let s := s.bump Fld.CHN_INT_CNT_COUNT c 3
        let s := s.bump Fld.CHN_INT_CNT_COUNT c 1
        s.raise .intTileUc c (lineInfo c r.bank r.row e.1 6 bad none)) s
    else s
  (s.modRt c fun _ => r).pushRow c r.bank r.row true .rtWrite r.pat

/-- One more line of the retest's step is in; at the last, the next step (R338). -/
def State.retestStep (s : State) (c : Nat) : State :=
  match (s.chan c).rt with
  | none => s
  | some r =>
    if r.left > 1 then s.modRt c fun y => { y with left := r.left - 1 }
    else if r.pass = 0 then s.retestPass c r
    else if r.writing then
      (s.modRt c fun y => { y with writing := false, left := 32 }).pushRow c r.bank r.row false .rtBack fun _ => 0
    else if r.pass = 1 then s.retestPass c r
    else s.endRetest c r

/-! ### Migration (R346, R347) -/

/-- Change the migration of channel c. -/
def State.modMig (s : State) (c : Nat) (g : Mig → Mig) : State :=
  s.modChan c fun x => { x with mig := x.mig.map g }

/-- Waiting lines of a bank take the rows that serve them now (R347 step 4). -/
def State.rerow (s : State) (c bank : Nat) : State :=
  let g (l : LineJob) : LineJob :=
    match s.decomp l.ln with
    | some y => if y.chan = c ∧ y.bank = bank ∧ l.bank = bank ∧ l.st = .idle then { l with row := s.actRow c bank y.row } else l
    | none => l
  s.modChan c fun x => { x with q := x.q.map fun e => { e with lines := e.lines.map g } }

/-- Put a migration into its resource: SREP for a spare; for a yard row the buffer is written there first (R347 step 3). -/
def State.migPlace (s : State) (c : Nat) (m : Mig) : State :=
  match m.res with
  | .spare _ => (s.modMig c fun _ => { m with step := .srep }).sendRep 0x14 c (rowEnt c m.bank m.row 1 m.res) (.srep c)
  | .yard y =>
    (s.modMig c fun _ => { m with step := .write, left := 32 }).pushRow c m.bank (24576 + y) true .migWrite
      fun i => Store.get m.buf i 0

/-- The resource of a migration proved bad: the next choice; with none left the row stays where it is, unserved where the die refused its SREP (R346, R347 step 6). -/
def State.migNext (s : State) (c : Nat) (m : Mig) (refused : Bool) : State :=
  let s := s.markBad c m.bank m.res
  match s.chooseRes c m.bank m.row m.served with
  | some r =>
    let s := (s.repSet (rowEnt c m.bank m.row 1 r)).checkBudgets c
    s.migPlace c { m with res := r, differ := false }
  | none =>
    let soft := match m.res with
      | .spare _ => true
      | .yard _ => false
    let e := rowEnt c m.bank m.row (if soft then 2 else 3) m.res
    let s := if refused then s.repDel e else s.repSet e
    let s := (s.exhausted c m.bank m.row).modChan c fun x => { x with mig := none }
    (s.rerow c m.bank).reside c

/-- A migration ends with every line equal: SOFT or REMAPPED, the bank released (R347 step 6). -/
def State.migDone (s : State) (c : Nat) (m : Mig) : State :=
  let soft := match m.res with
    | .spare _ => true
    | .yard _ => false
  let s := s.repSet (rowEnt c m.bank m.row (if soft then 2 else 3) m.res)
  let s := (s.bump Fld.REP_CNT_COUNT 0 (if soft then 0 else 2)).noteGroups c m.bank m.bits
  let s := s.modChan c fun x => { x with mig := none }
  let s := s.raise .repRowRepaired 0 { detail := repDetail m.bank (some m.res), loc := some (c, layerOf c, m.bank, m.row, 0) }
  ((s.checkBudgets c).rerow c m.bank).reside c

/-- The row a migration reads back: through the new mapping (R347 step 5). -/
def Mig.target (m : Mig) : Nat :=
  match m.res with
  | .spare _ => m.row
  | .yard y => 24576 + y

/-- Read the row back (R347 step 5). -/
def State.migReadBack (s : State) (c : Nat) (m : Mig) : State :=
  (s.modMig c fun _ => { m with step := .back, left := 32 }).pushRow c m.bank m.target false .migBack fun _ => 0

/-- One more line of a migration's step is in; at the last, the next step (R347). -/
def State.migStep (s : State) (c : Nat) : State :=
  match (s.chan c).mig with
  | none => s
  | some m =>
    if m.left > 1 then s.modMig c fun y => { y with left := m.left - 1 }
    else match m.step with
      | .read => s.migPlace c m
      | .srep => s
      | .write => match m.res with
        | .spare _ => s.migReadBack c m
        | .yard _ => s.modMig c fun y => { y with step := .remap }
      | .remap => s
      | .back => if m.differ then s.migNext c m false else s.migDone c m

/-- SREP of a migration is answered: the buffer goes to the row, or the next choice (R347). -/
def State.migSrep (s : State) (c : Nat) (fail : Bool) : State :=
  match (s.chan c).mig with
  | none => s
  | some m =>
    if m.step ≠ .srep then s
    else if fail then s.migNext c m true
    else (s.modMig c fun _ => { m with step := .write, left := 32 }).pushRow c m.bank m.row true .migWrite
      fun i => Store.get m.buf i 0

/-- At a tick, a yard remap comes into use and the row is read back (R347 steps 4, 5). -/
def State.migTick (s : State) (c : Nat) : State :=
  match (s.chan c).mig with
  | none => s
  | some m =>
    if m.step ≠ .remap then s
    else (s.repSet (rowEnt c m.bank m.row 3 m.res)).migReadBack c m

/-! ### A line in or a train acknowledged -/

/-- What a checked read line does, by what it serves. -/
def State.lineIn (s : State) (c : Nat) (t : Train) (l : TLine) (line : Line) : State :=
  match l.use with
  | .host => s.hostLine c t l line
  | .rmw => s.rmwLine c t l line
  | .gang => s.gangLine c t l line
  | .rtRead => (s.modRt c fun r => { r with img := Store.put r.img l.ix line }).retestStep c
  | .rtBack => (s.modRt c fun r => { r with fails := r.fails ++ (diffBits l.ix (r.pat l.ix) line).filter fun f => !r.fails.contains f }).retestStep c
  | .migRead => (s.modMig c fun m => { m with buf := Store.put m.buf l.ix (goodLine line) }).migStep c
  | .migBack => (s.modMig c fun m => { m with differ := m.differ || line != Store.get m.buf l.ix 0 }).migStep c
  | .marchRead => s.marchIn c t.bank l.ix line
  | _ => s

/-- What an acknowledged write line does, by what it serves (R193, R198, R327). -/
def State.lineAcked (s : State) (c : Nat) (t : Train) (l : TLine) : State :=
  match l.use with
  | .host => s.lineFinal c l 0 false
  | .rmwW => (s.modChan c fun x => x.unlock l.ord t.bank t.row l.col).lineFinal c l 0 false
  | .mark => s.modChan c fun x => x.unlock 0 t.bank t.row l.col
  | .wback => s.modChan c fun x => x.unlock 0 t.bank t.row l.col
  | .rtWrite => s.retestStep c
  | .migWrite => s.migStep c
  | .marchWrite => s.marchStep c t.bank
  | _ => s

/-! ### Wagon fills (R331 to R333) -/

/-- Open the FILL job of an entry's wagon: four write trains of 16 lines, encoded zeros but the request's bytes (R331). -/
def State.openFill (s : State) (c : Nat) (e : Ent) : State :=
  let id := (s.chan c).fillNo + 1
  let s := s.bump Fld.CHN_INT_CNT_COUNT c 8
  let s := s.modChan c fun x => { x with fillNo := id, fills := x.fills ++ [{ id := id, wagon := e.wagon, ord := e.ord, since := s.cc }] }
  let s := s.modEnt c e.ord fun y => { y with filled := true, chk := true, lines := y.lines.map fun l => { l with st := .out } }
  let s := (List.range 4).foldl (fun s (h : Nat) =>
    let first := 64 * e.wagon + 16 * h
    match s.decomp first with
    | none => s
    | some loc =>
      s.pushPrio c {
        write := true, bank := loc.bank, row := s.actRow c loc.bank loc.row, job := id
        lines := (List.range 16).map fun i => {
          col := loc.col + i, data := e.mergeLine (first + i) 0, use := .fill
          ord := if e.lines.any fun l => l.ln = first + i then e.ord else 0 } }) s
  s.reside c

/-- A fill train is acknowledged; after the fourth, the request's answer is ready (R331). -/
def State.fillAcked (s : State) (c id : Nat) : State :=
  let s := s.modChan c fun x => { x with fills := x.fills.map fun f =>
    if f.id = id then { f with left := f.left - 1 } else f }
  match (s.chan c).fills.find? fun f => f.id = id with
  | none => s
  | some f =>
    if f.left > 0 then s else
    (s.modEnt c f.ord fun e => { e with lines := e.lines.map fun l => { l with st := .done } }).closeEnt c f.ord

/-- At a tick, the bits of fully acknowledged fills are set, unless a CLEAR governs, and their sidings released (R331, R333). -/
def State.fillTick (s : State) (c : Nat) : State :=
  let ready := (s.chan c).fills.filter fun f => f.left = 0
  if ready.isEmpty then s else
  let s := ready.foldl (fun s f => if f.cleared ∨ s.pilotOn then s else
    if s.vbit f.wagon then s
    else s.setVbit f.wagon) s
  (s.modChan c fun x => { x with fills := x.fills.filter fun f => f.left != 0 }).reside c

/-- The map check of an entry that is in no siding (R31, R330, R331): an invalid wagon answers a read with zeros and makes a write open a fill, which waits while the wagon's map row is copied (R355). -/
def State.mapCheck (s : State) (c : Nat) (e : Ent) : State :=
  if e.chk ∨ e.finished ∨ e.side.isSome then s
  else if s.wagonValid e.wagon then (s.modEnt c e.ord fun y => { y with chk := true }).closeEnt c e.ord
  else match e.kind with
    | .rd =>
      (s.modEnt c e.ord fun y => { y with
        chk := true, lines := y.lines.map fun l => { l with st := .done, got := 0 } }).closeEnt c e.ord
    | _ =>
      if e.kind = .wrm ∧ e.lines.isEmpty then (s.modEnt c e.ord fun y => { y with chk := true }).closeEnt c e.ord
      else if s.vmap.moving.any fun m => m.1 = e.wagon / 1024 then s
      else s.openFill c e

/-- The map checks of a queue, in order, with sidings brought up to date between them. -/
def State.settle (s : State) (c : Nat) : State :=
  let s := s.reside c
  ((s.chan c).q.map fun e => e.ord).foldl (fun s o =>
    match (s.chan c).ent o with
    | some e => s.mapCheck c e
    | none => s) s

end Sys2Proof.Machine
end

