-- ==== Sys2Proof/Machine/Sched.lean ====
section
/-! DEFINITION. Issue of trains by a channel engine (R188, R190 to R192, R233, R238 to R240): host trains, reissues and job trains, refresh, the ganger; the mileage table. -/
namespace Sys2Proof.Machine

/-! ### The mileage table (R239) -/

/-- The activation threshold, halved in recovery (R239, R242). -/
def State.actThresh (s : State) (c : Nat) : Nat :=
  let t := s.fld Fld.REF_MILEAGE_ACT_THRESH
  if s.flag Fld.CHN_REF_STATE_RECOVERY c then t / 2 else t

/-- The position of the first tracker that meets a test. -/
def trackerAt (p : Tracker → Bool) (l : List Tracker) : Option Nat :=
  (l.zipIdx.find? fun e => p e.1).map fun e => e.2

/-- Update the mileage table for an ACT (R239): at most 160 trackers, space-saving. -/
def State.mileage (s : State) (c bank row : Nat) : State :=
  let T := s.actThresh c
  let tab := (s.chan c).ref.table
  let (tab, i, evict) : List Tracker × Nat × Bool := match trackerAt (fun k => k.bank = bank && k.row = row) tab with
    | some i => (tab, i, false)
    | none =>
      if tab.length < 160 then (tab ++ [({ bank := bank, row := row, count := 0 } : Tracker)], tab.length, false)
      else
        let low := tab.foldl (fun m (k : Tracker) => min m k.count) (2 ^ 20)
        let i := (trackerAt (fun k => k.count = low) tab).getD 0
        (listSet tab i ({ bank := bank, row := row, count := low } : Tracker), i, true)
  let before := ((tab.drop i).headD ({ bank := 0, row := 0, count := 0 } : Tracker)).count
  let after := min (before + 1) (2 ^ 20 - 1)
  let tab := listSet tab i ({ bank := bank, row := row, count := after } : Tracker)
  let s := if evict then s.bump Fld.CHN_REF_CNT_COUNT c 3 else s
  let s := s.modRef c fun r => { r with
    table := tab
    nrefs := if after / T > before / T then r.nrefs ++ [{ bank := bank, row := row }] else r.nrefs }
  if tab.length = 160 ∧ (tab.foldl (fun m (k : Tracker) => min m k.count) (2 ^ 20)) ≥ T ∧ ¬ (s.chan c).ref.sat then
    let s := s.modRef c fun r => { r with sat := true }
    let s := (s.bump Fld.CHN_REF_CNT_COUNT c 4).setFld Fld.REF_STATUS_SAT_SEEN 1
    s.raise .refMileageSat c (s.chInfo c)
  else s

/-! ### Issuing a data train -/

/-- Whether the train's command train carries a trailing PRE (R185, R188). -/
def State.closes (s : State) (c : Nat) (t : Train) : Bool :=
  let x := s.chan c
  match s.fld Fld.CHN_POLICY_PAGE c with
  | 0 => false
  | 1 => true
  | _ =>
    let other := x.q.any fun e => !(t.lines.any fun l => l.ord = e.ord) &&
      e.lines.any fun l => l.st = .idle && l.bank = t.bank && l.row = t.row
    !(other || (x.bank t.bank).hit ≥ 2)

/-- The hit counter of the train's bank after its issue: a train that hits a row left open raises it, one that closes a row for another lowers it; a reissue closes its own row and does neither (R188). -/
def hitAfter (k : Bank) (row : Nat) (again : Bool) : Nat :=
  match k.final with
  | some r => if r ≠ row then k.hit - 1 else if again then k.hit else min 3 (k.hit + 1)
  | none => k.hit

/-- Consume the flip mask on the lowest-indexed qualifying line of a write train (R328, R329). -/
def State.flipTrain (s : State) (c : Nat) (t : Train) : State × Train :=
  if ¬ s.flag Fld.CHN_FLIP_CTL_ARMED c ∨ ¬ t.write ∨ t.again then (s, t) else
  let sel := s.fld Fld.CHN_FLIP_CTL_TILE c
  let host (l : TLine) : Bool := l.use = .host || l.use = .rmwW || (l.use = .fill && l.ord != 0)
  let fits (l : TLine) : Bool := host l && (sel &&& l.te) = sel
  match t.lines.zipIdx.find? fun e => fits e.1 with
  | none => (s, t)
  | some (l, i) =>
    let mask : Tile := BitVec.ofNat 288 ((List.range 9).foldl (fun n k => n + s.fld Fld.CHN_FLIP_MASK c k * 2 ^ (32 * k)) 0)
    let f (k : Nat) : Tile := if sel.testBit k then lineTile l.data k ^^^ mask else lineTile l.data k
    let s := s.setFld Fld.CHN_FLIP_CTL_ARMED 0 c
    let s := s.setFld Fld.CHN_FLIP_CTL_USED 1 c
    let s := s.setFld Fld.CHN_FLIP_HIT_BANK t.bank c
    let s := s.setFld Fld.CHN_FLIP_HIT_ROW t.row c
    let s := s.setFld Fld.CHN_FLIP_HIT_COLUMN l.col c
    (s, { t with lines := listSet t.lines i { l with data := lineOf (f 0) (f 1) } })

/-- The chips in which the WACK of a write train arrives at the base die (R297). -/
def State.wackWin (s : State) (c : Nat) (t : Train) (col : Nat) : Nat × Nat :=
  let up := 16 + 72 * hopsOf c
  let data := s.now + s.dataChips c t.lines.length + up
  let wrt := phase0 (15 * col) + s.cmdChips c 1 + up
  let r := max data wrt + 8 * (s.fld Fld.LAY_ID_WORD (c / 4) 4 / 256 % 256) + up
  (r, r + s.cmdChips c 1 + 8)

/-- Lines of the same place in outstanding read trains are now older than a write (R327). -/
def markOver (w : Train) (t : Train) : Train :=
  if t.write ∨ t.bank ≠ w.bank ∨ t.row ≠ w.row then t
  else { t with lines := t.lines.map fun l => if w.lines.any fun y => y.col = l.col then { l with past := true } else l }

/-- The same for its lines in the codec pool. -/
def Codec.markOver (k : Codec) (c : Nat) (w : Train) : Codec :=
  let f (j : CodecJob) : CodecJob :=
    if j.chan = c ∧ j.train.bank = w.bank ∧ j.train.row = w.row ∧ w.lines.any (fun y => y.col = j.line.col) then
      { j with line := { j.line with past := true } } else j
  { k with busy := k.busy.map fun e => (e.1, f e.2), queue := k.queue.map f, held := k.held.map f }

/-- The cycles at which the lines of a read train are offered: line 0 RD_LAT after the RDT takes effect, each further one a line time later (R194 to R196; log entry 129). -/
def State.dueLines (s : State) (c : Nat) (t : Train) (col : Nat) : State :=
  let first := col + s.fld Fld.CHN_LAT_RD_LAT c
  let line := 12 * s.dataSF c
  t.lines.zipIdx.foldl (fun s e =>
    if e.1.use = .host then s.modLine c e.1.ord e.1.ix fun j => { j with due := first + ccOf (e.2 * line) } else s) s

/-- Issue a data train: its command train, the banks, the data columns, counters, the mileage table; it then awaits delivery or acknowledgement (R185, R186, R188, R239, R254, R302). -/
def State.issueTrain (s : State) (c : Nat) (t : Train) : State :=
  let p := s.plan c t
  let tid := ((s.chan c).freeTid).getD 0
  let (s, t) := s.flipTrain c { t with tid := tid }
  let close := s.closes c t
  let hit := hitAfter ((s.chan c).bank t.bank) t.row t.again
  let n := t.lines.length
  let words := (if p.pre then [(0x02, t.bank)] else []) ++
    (if p.act then [(0x01, t.bank + 32 * t.row)] else []) ++
    (if t.write then [wrtWord t.bank tid n] else rdtWords t.bank tid (t.lines.map fun l => l.col)) ++
    (if close then [(0x02, t.bank)] else [])
  let start := s.dataStart c t p
  let chips := s.dataChips c n
  let win := s.wackWin c t p.col
  let t := { t with lands := if t.write then win.1 else start, lines := t.lines.map fun l => { l with past := false } }
  let x := p.x
  let k := x.bank t.bank
  let x := x.setBank t.bank { k with hit := hit }
  let x := if close then s.doPre c t.bank (x.bank t.bank).nPre x else x
  let s := s.setChan c { x with
    tid := (tid + 1) % 32
    out := (if t.write then x.out.map (markOver t) else x.out) ++ [t]
    dirW := t.write, anyData := true, dEnd := start + chips
    shut := if t.write then noteShut s.now x.shut start chips else x.shut
    spent := x.spent + chips, lines2 := x.lines2 + n
    lastWr := if t.write then t.lines.zipIdx.map fun e => slotOf tid e.2 e.1 else x.lastWr }
  let s := if t.write then { s with codec := s.codec.markOver c t } else s
  let s := s.launch c words
  let s := if t.write then s.modChan c fun y => { y with wins := y.wins ++ [win] } else s.dueLines c t p.col
  let s := s.bump Fld.CHN_CNT_COUNT c 4
  let s := s.bump Fld.CHN_CNT_COUNT c (if t.write then 1 else 0) n
  if p.act then (s.bump Fld.CHN_CNT_COUNT c 3).mileage c t.bank t.row else s.bump Fld.CHN_CNT_COUNT c 2

/-! ### Choosing from the queue (R190 to R192) -/

/-- Whether a write entry has a line whose write has not issued: not begun, read to be merged, or merged with its write waiting (R190, R198). -/
def Chan.owesWrite (x : Chan) (e : Ent) : Bool :=
  e.lines.any fun l => l.st = .idle || (l.rmw && l.st = .out) ||
    (l.st = .back && x.prio.any fun t => t.lines.any fun y => y.use = .rmwW && y.ord = e.ord && y.ix < e.lines.length)

/-- Write entries queued, WRM among them: those that have a line whose write has not issued (R190). -/
def Chan.writesQueued (x : Chan) : Nat := (x.q.filter fun e => e.kind != .rd && !e.finished && x.owesWrite e).length

/-- The phase after the rule of R190: true is the write phase. -/
def State.phaseRule (s : State) (c : Nat) (E : List (Ent × Part)) : Bool :=
  let w := (s.chan c).writesQueued
  let rd := E.any fun e => !e.2.write
  let wr := E.any fun e => e.2.write
  if s.flag Fld.CHN_STATUS_PHASE c then
    !(rd && (w ≤ s.fld Fld.CHN_SCHED_WR_KEEP c || !wr))
  else w ≥ s.fld Fld.CHN_SCHED_WR_HIGH c || (!rd && wr)

/-- The scheduling keys of an eligible part as one number, the least first (table Scheduling keys). -/
def State.schedKey (s : State) (c : Nat) (phase : Bool) (e : Ent × Part) : Nat :=
  let open_ := ((s.chan c).bank e.2.bank).rowAt s.cc = some e.2.row
  e.2.pos + 1024 * (b2n (!open_) + 2 * (b2n (e.2.write != phase) + 2 * e.1.grade))

/-- The part with the least key. -/
def State.firstBy (s : State) (c : Nat) (phase : Bool) : List (Ent × Part) → Option (Ent × Part)
  | [] => none
  | e :: l => match s.firstBy c phase l with
    | none => some e
    | some f => if s.schedKey c phase e ≤ s.schedKey c phase f then some e else some f

/-- The train of a part: its lines, then in key order the whole lines of other parts of the same bank, row and direction that are eligible, or join behind writes already in it, while the total stays within TRAIN_MAX; none joins that touches a line the train reads to modify (R192, R193, R199). -/
def State.buildTrain (s : State) (c : Nat) (phase : Bool) (h : Ent × Part) : Train :=
  let base : Train := { write := h.2.write, bank := h.2.bank, row := h.2.row, lines := h.1.tlines h.2 }
  let others := ((s.chan c).q.zipIdx.flatMap fun y => (y.1.parts y.2).map fun p => (y.1, p)).filter fun e =>
    e.2.ord != h.2.ord && e.2.bank = h.2.bank && e.2.row = h.2.row && e.2.write = h.2.write
  let sorted := sortBy (fun a b => s.schedKey c phase a ≤ s.schedKey c phase b) others
  (sorted.foldl (fun (acc : Train × List Nat) e =>
    let clash : Bool := (e.1.tlines e.2).any fun b => acc.1.lines.any fun a => a.use = .rmw && a.col = b.col
    if acc.1.lines.length + e.2.ixs.length ≤ s.fld Fld.CHN_SCHED_TRAIN_MAX c ∧ s.eligible c e.1 e.2 acc.2 ∧ ¬ clash then
      ({ acc.1 with lines := acc.1.lines ++ e.1.tlines e.2 },
       if e.1.lines.all fun l => l.st != .idle || (l.bank = h.2.bank && e.1.lineWrites l = h.2.write) then
         e.2.ord :: acc.2 else acc.2)
    else acc) (base, [h.2.ord])).1

/-- Mark the lines of an issued host train as out; read-modify-write reads lock their lines (R199). -/
def State.markOut (s : State) (c : Nat) (t : Train) : State :=
  t.lines.foldl (fun s l =>
    if l.use = .host ∨ l.use = .rmw then
      let s := s.modLine c l.ord l.ix fun j => { j with st := .out }
      if l.use = .rmw then s.modChan c fun x => { x with locks := (l.ord, t.bank, t.row, l.col) :: x.locks } else s
    else s) s

/-- Issue a queue train. -/
def State.issueHost (s : State) (c : Nat) (t : Train) : State :=
  ((s.markOut c t).issueTrain c t).modChan c fun x => { x with wait := none }

/-- The head the queue issues next, the phase after R190, and whether an aged entry holds the others back: an aged entry, or one it waits for, or the first by the keys (R191). -/
def State.chooseHead (s : State) (c : Nat) (E : List (Ent × Part)) : Option (Ent × Part) × Bool × Bool :=
  let old := (s.chan c).q.filter (s.aged c)
  let phase := s.flag Fld.CHN_STATUS_PHASE c
  let oldest := old.foldl (fun (m : Option Ent) e => match m with
    | some y => if e.age > y.age then some e else some y
    | none => some e) none
  match oldest with
  | some h =>
    match E.find? fun e => e.1.ord = h.ord with
    | some e => (some e, phase, true)
    | none =>
      let pos := ((s.chan c).q.takeWhile fun y => y.ord != h.ord).length
      let waits := (s.chan c).blockers h pos []
      let locker (o : Nat) : Bool := h.lines.any fun l => (s.chan c).locks.any fun k => k.1 = o && k.2 = (l.bank, l.row, l.col)
      (E.find? fun e => (waits.any fun w => w.ord = e.1.ord) || locker e.1.ord, phase, true)
  | none =>
    if E.isEmpty then (none, phase, false) else
    let phase := s.phaseRule c E
    (s.firstBy c phase E, phase, false)

/-- Put a phase into force; a change counts as a turn (R190). -/
def State.setPhase (s : State) (c : Nat) (phase : Bool) : State :=
  if s.flag Fld.CHN_STATUS_PHASE c = phase then s
  else (s.setFlag Fld.CHN_STATUS_PHASE phase c).bump Fld.CHN_CNT_COUNT c 9

/-- What names a part. -/
def Part.key (p : Part) : Nat × Nat × Bool := (p.ord, p.bank, p.write)

/-- Note since when each part has been eligible without a break (R192). -/
def State.markElig (s : State) (c : Nat) (E : List (Ent × Part)) : State :=
  let since (k : Nat × Nat × Bool) : Nat := (((s.chan c).elig.find? fun e => e.1 = k).map fun e => e.2).getD s.cc
  let now := E.map fun e => (e.2.key, since e.2.key)
  s.modChan c fun x => { x with elig := now }

/-- The part whose fuller train the engine waits for, while it is eligible (R192). -/
def State.waiting (s : State) (c : Nat) (E : List (Ent × Part)) : Option (Ent × Part) :=
  match (s.chan c).wait with
  | none => none
  | some k => E.find? fun e => e.2.key = k

/-- The cycle a part became eligible. -/
def Chan.since (x : Chan) (cc : Nat) (p : Part) : Nat := ((x.elig.find? fun e => e.1 = p.key).map fun e => e.2).getD cc

/-- Issue the train of a head: at once when it is full, TRAIN_WAIT is 0 or over, or the head is aged; else the engine waits for a fuller one (R191, R192). -/
def State.issueHead (s : State) (c : Nat) (h : Ent × Part) : State :=
  let t := s.buildTrain c (s.flag Fld.CHN_STATUS_PHASE c) h
  let w := s.fld Fld.CHN_SCHED_TRAIN_WAIT c
  if t.lines.length ≥ s.fld Fld.CHN_SCHED_TRAIN_MAX c ∨ w = 0 ∨ s.aged c h.1 ∨ s.cc ≥ (s.chan c).since s.cc h.2 + w then
    (if s.canIssue c t then s.issueHost c t else s)
  else s.modChan c fun x => { x with wait := some h.2.key }

/-! ### Refresh commands (R225, R233, R238, R240) -/

/-- The bank is precharged and its timing allows a REFB or NREF now. -/
def State.refReady (s : State) (c b : Nat) : Bool :=
  let k := (s.chan c).bank b
  k.final.isNone && k.nRp ≤ s.cc

/-- A bank an event job owns until it releases it (R234): a retest, a migration, a fill, a test. -/
def State.heldBank (s : State) (c b : Nat) : Bool :=
  let x := s.chan c
  x.jobBank b || ((x.out ++ x.prio).any fun t => t.job != 0 && t.bank = b)

/-- The end of a refresh window: trackers freed, SAT cleared, recovery over (R226, R239, R242). -/
def State.windowEnd (s : State) (c : Nat) : State :=
  let s := s.modRef c fun r => { r with win := 0, table := [], sat := false }
  (s.bump Fld.CHN_REF_CNT_COUNT c 5).setFld Fld.CHN_REF_STATE_RECOVERY 0 c

/-- The slot's work ends with its last command: the banks it owned are free (R54, R55). -/
def Refr.endSlot (r : Refr) : Refr := if r.slot = 0 ∧ r.slotN = 0 then { r with own := [] } else r

/-- The eighth REFB of a round has issued: a CCAL exchange follows (R225, R226, R233, R238). -/
def State.roundDone (s : State) (c : Nat) (forced : Bool) : State :=
  let s := s.setFld Fld.CHN_REF_STATE_OWED (s.fld Fld.CHN_REF_STATE_OWED c - 1) c
  let s := s.setFld Fld.CHN_REF_STATE_NEXT_SET ((s.fld Fld.CHN_REF_STATE_NEXT_SET c + 1) % 4) c
  let s := s.bump Fld.CHN_REF_CNT_COUNT c 0
  let s := if forced then s.bump Fld.CHN_REF_CNT_COUNT c 1 else s
  let s := s.modRef c fun r => { r with did := [], win := r.win + 1, slot := r.slot - 1 }.endSlot
  let s := if (s.chan c).ref.win ≥ 32768 then s.windowEnd c else s
  if s.flag Fld.VLQ_CAL_CFG_EN (c / 16) then s.modChan c fun x => { x with ccalDue := x.ccalDue + 1 } else s

/-- Issue the REFB of a bank of the round in progress. -/
def State.doRefb (s : State) (c b : Nat) (forced : Bool) : State :=
  let s := (s.refCmd c 0x06 b b).1.modRef c fun r => { r with did := b :: r.did }
  if (s.chan c).ref.did.length ≥ 8 then s.roundDone c forced else s

/-- Issue the NREF at a place of the pending list (R240). -/
def State.doNref (s : State) (c i : Nat) (n : Nref) : State :=
  let s := (s.refCmd c 0x07 n.bank (n.bank + 32 * n.row)).1
  (s.modRef c fun r => { r with nrefs := r.nrefs.eraseIdx i, slotN := r.slotN - 1 }.endSlot).bump Fld.CHN_REF_CNT_COUNT c 2

/-- Whether the round in progress is forced (R233). -/
def State.roundForced (s : State) (c : Nat) : Bool := s.fld Fld.CHN_REF_STATE_OWED c ≥ s.fld Fld.REF_CFG_OWED_FORCE

/-- Issue every owed round and every pending neighbour refresh, one command after another as the timing set allows (R244). -/
def State.issueOwed (s : State) (c : Nat) : State :=
  let left := 8 * s.fld Fld.CHN_REF_STATE_OWED c
  let s := s.upTo left fun _ s => match s.roundBanks c with
    | [] => s
    | b :: _ => s.doRefb c b (s.roundForced c)
  s.upTo (s.chan c).ref.nrefs.length fun _ s => match (s.chan c).ref.nrefs with
    | [] => s
    | n :: _ => s.doNref c 0 n

/-- Forced and slotted refresh: a REFB or NREF whose bank is ready, else the close of an open row in the way (R233, R240). -/
def State.hardRefresh (s : State) (c : Nat) : Option State :=
  let r := (s.chan c).ref
  let free (b : Nat) : Bool := !(s.heldBank c b)
  let round := if r.slot > 0 ∨ s.roundForced c then (s.roundBanks c).filter free else []
  let nrefs := r.nrefs.zipIdx.filter fun n => (n.1.forced || r.nrefs.length ≥ 32 || n.2 < r.slotN) && free n.1.bank
  match round.find? fun b => s.refReady c b with
  | some b => some (s.doRefb c b (s.roundForced c && r.slot = 0))
  | none =>
    match nrefs.find? fun n => s.refReady c n.1.bank with
    | some n => some (s.doNref c n.2 n.1)
    | none =>
      match (round ++ nrefs.map fun n => n.1.bank).find? fun b =>
          ((s.chan c).bank b).final.isSome && ((s.chan c).bank b).nPre ≤ s.cc with
      | some b => some (s.closeBank c b)
      | none => none

/-- Soft refresh outside the slot: the bank is precharged and no queued entry for it is eligible (R233, R240). -/
def State.softRefresh (s : State) (c : Nat) (E : List (Ent × Part)) : Option State :=
  let busy (b : Nat) : Bool := E.any fun e => e.2.bank = b
  let ok (b : Nat) : Bool := s.refReady c b && !(s.heldBank c b) && !(busy b)
  match (s.roundBanks c).find? ok with
  | some b => some (s.doRefb c b false)
  | none =>
    match (s.chan c).ref.nrefs.zipIdx.find? fun n => ok n.1.bank with
    | some n => some (s.doNref c n.2 n.1)
    | none => none

/-- The columns of a calibration entry: eight of the plan's, retired ones skipped (R276). -/
def State.calCols (s : State) (b entry : Nat) : List Nat :=
  ((List.range 8).map (8 * entry + ·)).filter fun n => s.col Fld.VLQ_COL_ROLE b n != 2

/-- A calibration train that has not come by its chip, or came captured: its columns count as missed and the exchange ends (R277, R278). -/
def State.calLost (s : State) (b : Nat) : State :=
  let x := s.bund b
  let s := s.modBund b fun y => { y with exch := false, retune := if x.isRetune then y.retune - 1 else y.retune
                                         plan := if x.isRetune then y.plan else (y.plan + 1) % 8 }
  (s.bump Fld.VLQ_CNT_COUNT (b / 16) 7 x.calSent.length).modChan b fun y => { y with ccal := none }

/-- Launch the CCAL of the next plan or retune entry; its exchange lasts 992 chips and 144 for each hop (R238, R276, R277). In a quiet interval it is skipped (R274). -/
def State.doCcal (s : State) (c : Nat) : State :=
  let s := if (s.bund c).exch then s.calLost c else s
  let b := s.bund c
  let rt : Bool := b.retune > 0
  let span := 992 + 144 * hopsOf c
  let s := s.modChan c fun x => { x with ccalDue := x.ccalDue - 1 }
  if ¬ s.quietOk c span then s else
  let entry := if rt then 8 - b.retune else b.plan
  let s := (s.launch c [(0x0B, entry + 8 * b2n rt)]).modChan c fun x => { x with ccal := some (s.now + span), shut := noteShut s.now x.shut (s.now + 256) 336 }
  let s := s.modBund c fun y => { y with exch := true, isRetune := rt, calSent := s.calCols c entry }
  s.bump Fld.VLQ_CNT_COUNT (c / 16) 6

/-! ### The ganger (R335, R336) -/

/-- The next place of the walk: the next group, row, bank used by the map; after the last, a pass ends (R335). -/
def State.gangNext (s : State) (c : Nat) : State :=
  let bank := s.fld Fld.CHN_GANGER_POS_BANK c
  let row := s.fld Fld.CHN_GANGER_POS_ROW c
  let col := s.fld Fld.CHN_GANGER_POS_COLUMN c + s.fld Fld.INT_GANGER_CFG_LINES
  if col < 32 then s.setFld Fld.CHN_GANGER_POS_COLUMN col c else
  let s := s.setFld Fld.CHN_GANGER_POS_COLUMN 0 c
  if row < 24575 then s.setFld Fld.CHN_GANGER_POS_ROW (row + 1) c else
  let s := s.setFld Fld.CHN_GANGER_POS_ROW 0 c
  match (List.range 32).find? fun b => b > bank && s.bankUsed c b with
  | some b => s.setFld Fld.CHN_GANGER_POS_BANK b c
  | none => (s.bump Fld.CHN_GANGER_PASS_PASSES c).setFld Fld.CHN_GANGER_POS_BANK
      (((List.range 32).find? fun b => s.bankUsed c b).getD 0) c

/-- The train of the ganger's group: a read; a write of zeros of an invalid wagon under ZERO_INVALID; none where the group is skipped (R336). -/
def State.gangTrain (s : State) (c : Nat) : Option Train :=
  let bank := s.fld Fld.CHN_GANGER_POS_BANK c
  let row := s.fld Fld.CHN_GANGER_POS_ROW c
  let col := s.fld Fld.CHN_GANGER_POS_COLUMN c
  let n := min (s.fld Fld.INT_GANGER_CFG_LINES) (32 - col)
  let w := (s.wagonOf c bank row).getD 0
  let t : Train := { write := false, bank := bank, row := s.actRow c bank row
                     lines := (List.range n).map fun i => { col := col + i, use := .gang } }
  if s.wagonValid w then some t
  else if s.flag Fld.INT_GANGER_CFG_ZERO_INVALID ∧ ¬ (s.chan c).fills.any fun f => f.wagon = w then
    some { t with write := true, lines := t.lines.map fun l => { l with use := .zero } }
  else none

/-- Issue the ganger's group when nothing of the queue is ready (R55, R335). -/
def State.gangIssue (s : State) (c : Nat) : State :=
  let x := s.chan c
  let inSlot : Bool := match x.gOpen with
    | some z => decide (s.cc ≤ z + 399)
    | none => false
  if ¬ x.gDue ∨ ¬ inSlot then s else
  match s.gangTrain c with
  | none => (s.gangNext c).modChan c fun y => { y with gDue := false }
  | some t =>
    let locked := t.lines.any fun l => x.locked 0 t.bank t.row l.col
    if s.canIssue c t ∧ ¬ locked ∧ ¬ x.jobBank t.bank ∧ ¬ (s.refBanks c).contains t.bank then
      ((s.issueTrain c t).gangNext c).modChan c fun y => { y with gDue := false }
    else s

/-! ### SCHED_ISSUE (R191) -/

/-- A train of the priority list may issue: its job may use its bank, and a write does not overtake another write of its lines (R303, R304, R327). -/
def State.prioOk (s : State) (c : Nat) (t : Train) : Bool :=
  let x := s.chan c
  let job := t.lines.any fun l => l.use.owns
  (job || (!(x.jobBank t.bank) && !((s.refBanks c).contains t.bank))) &&
  !(t.write && x.out.any fun y => y.write && y.bank = t.bank && y.row = t.row &&
      y.lines.any fun a => t.lines.any fun b => a.col = b.col) &&
  s.canIssue c t

/-- Whether an engine may issue at all: out of self-refresh, its bundle up; in a BLOCK reset it goes on with refresh and with the jobs the reset does not stop (R204, R348). -/
def State.engineRuns (s : State) (c : Nat) : Bool :=
  !s.flag Fld.CHN_REF_STATE_SR c && s.bundleUp c && !(s.chan c).ref.srx && s.hold.isNone

/-- What the engine issues when no queue entry issues: soft refresh where nothing is eligible, or beside an aged entry that waits; the ganger where nothing is eligible (R55, R189, R191, R233). -/
def State.issueSoft (s : State) (c : Nat) (E : List (Ent × Part)) (aged : Bool) : State :=
  match (if E.isEmpty ∨ aged then s.softRefresh c E else none) with
  | some s' => s'
  | none => if E.isEmpty then s.gangIssue c else s

/-- What the engine issues from the work ahead of every scheduling key, then the queue, then soft work (R55, R191, R303, R304). -/
def State.issueWork (s : State) (c : Nat) (E : List (Ent × Part)) : State :=
  match (s.chan c).prio.zipIdx.find? fun t => s.prioOk c t.1 with
  | some t => (s.modChan c fun x => { x with prio := x.prio.eraseIdx t.2 }).issueTrain c t.1
  | none =>
    if (s.chan c).path then s else
    let (h, phase, aged) := s.chooseHead c E
    match h with
    | some h => (s.setPhase c phase).issueHead c h
    | none => s.issueSoft c E aged

/-- What the engine issues in a cycle: the exit of R248 where the bundle has been silent for two frames; nothing else while it waits for a fuller train; the calibration that follows a round; forced and slotted refresh; in NAP no more, else what issueWork gives (R55, R191, R192, R233, R236, R238, R309). -/
def State.schedule (s : State) (c : Nat) : State :=
  if ¬ s.engineRuns c then s
  else if s.lapsed c then (if s.cmdFree c 1 then s.sendSrx c false else s)
  else
    let E := s.eligibles c
    let s := s.markElig c E
    if ¬ s.cmdFree c 1 then s
    else match s.waiting c E with
    | some h => s.issueHead c h
    | none =>
      let s := s.modChan c fun x => { x with wait := none }
      if (s.chan c).ccalDue > 0 ∧ ¬ s.calBusy c then s.doCcal c else
      match s.hardRefresh c with
      | some s' => s'
      | none => if s.inState .nap then s else s.issueWork c E

/-- TRAIN_WAIT_EXPIRY: TRAIN_WAIT cc after its head became eligible the engine issues the partial train (R192). -/
def execTrainWaitExpiry (c : ChanIx) (s : State) : Out :=
  .next <| if (s.chan c).wait.isSome then s.schedule c else s

/-- PAGE_IDLE_EXPIRY: a row with no command for PAGE_IDLE cc is closed (R188). -/
def execPageIdleExpiry (c : ChanIx) (b : BankIx) (s : State) : Out :=
  let k := (s.chan c).bank b
  .next <| if k.final.isSome ∧ s.cc ≥ k.last + s.fld Fld.CHN_POLICY_PAGE_IDLE c ∧ k.nPre ≤ s.cc ∧
      s.engineRuns c ∧ s.cmdFree c 1 ∧ (s.chan c).wait.isNone then s.closeBank c b else s

/-- The rounds and neighbour refreshes a slot takes: those whose commands can all issue in the cycles left, rounds first, the round in progress with the REFBs it lacks (R233). -/
def State.slotTakes (s : State) (c left : Nat) : Nat × Nat :=
  let gap := ccOf (s.cmdChips c 1)
  let room := (left + gap - 1) / gap
  let did := (s.chan c).ref.did.length
  let rounds := min (s.fld Fld.CHN_REF_STATE_OWED c) ((room + did) / 8)
  (rounds, min (s.chan c).ref.nrefs.length (room - (8 * rounds - (if rounds = 0 then 0 else did))))

/-- REFRESH_SLOT: the slot of the frame opens at cycle 25 × c or later and takes the owed rounds, then the pending neighbour refreshes, whose commands can all issue before the tick; it owns their banks until it ends; a NOP goes out when the bundle carried no command train since the previous slot (R54, R55, R233, R309). -/
def execRefreshSlot (c : ChanIx) (s : State) : Out :=
  .next <| if (s.chan c).ref.open_ ∨ s.fld Fld.TT_TIME_CYCLE < 25 * c.val then s else
    let s := s.modRef c fun r => { r with open_ := true }
    if ¬ s.engineRuns c then s
    else if s.lapsed c then (if s.cmdFree c 1 then s.sendSrx c false else s)
    else
      let (rounds, n) := s.slotTakes c (1600 - s.fld Fld.TT_TIME_CYCLE)
      let quiet := !(s.chan c).ref.seen
      let s := if quiet ∧ rounds = 0 ∧ n = 0 ∧ s.cmdFree c 1 then s.launch c [(0x0A, 0)] else s
      let set (k : Nat) : List Nat := (List.range 8).map fun g => 4 * g + (s.fld Fld.CHN_REF_STATE_NEXT_SET c + k) % 4
      let own := (List.range (min rounds 4)).flatMap set ++ ((s.chan c).ref.nrefs.take n).map fun y => y.bank
      s.modRef c fun r => { r with slot := rounds, slotN := n, seen := false, own := own }

/-- SCRUB_SLOT: the slot of the frame opens at cycle (25 × c + 800) mod 1,600 or later; when PERIOD is due, or a group is left from an earlier turn, the ganger issues it (R54, R203, R335). -/
def execScrubSlot (c : ChanIx) (s : State) : Out :=
  let x := s.chan c
  .next <| if x.scrub ∨ s.fld Fld.TT_TIME_CYCLE < (25 * c.val + 800) % 1600 then s else
    let s := s.modChan c fun y => { y with scrub := true }
    if s.pilotOn ∨ ¬ s.flag Fld.INT_GANGER_CFG_EN ∨ ¬ s.presented c ∨ x.test ∨ s.inState .nap then s else
    let turn := x.gTicks ≥ s.fld Fld.INT_GANGER_CFG_PERIOD
    let s := s.modChan c fun y => { y with
      gOpen := some s.cc
      gTicks := if turn then 0 else x.gTicks
      gDue := y.gDue || turn }
    if s.engineRuns c ∧ s.cmdFree c 1 ∧ x.wait.isNone ∧ ¬ s.lapsed c ∧ (s.eligibles c).isEmpty then s.gangIssue c else s

/-- NREF_FORCE_DUE: an NREF pending at its second tick is forced (R240). -/
def execNrefForceDue (c : ChanIx) (i : Nat) (s : State) : Out :=
  .next <| s.modRef c fun r => { r with nrefs := r.nrefs.zipIdx.map fun n =>
    if n.2 = i && n.1.ticks ≥ 2 then { n.1 with forced := true } else n.1 }

/-- A bank no job owns and no outstanding train uses. -/
def State.bankFree (s : State) (c b : Nat) : Bool :=
  !(s.heldBank c b) && !((s.chan c).out.any fun t => t.bank = b) && !((s.refBanks c).contains b)

/-- RETEST_START: a listed row whose spacing has elapsed and whose bank is free starts its retest; in an explicit channel test, the next row of the test (R337, R338, R387). -/
def execRetestStart (c : ChanIx) (s : State) : Out :=
  let x := s.chan c
  .next <| if x.rt.isSome ∨ x.resetting ∨ ¬ s.engineRuns c then s else
    match s.bst.ch with
    | some t =>
      if t.chan = c.val ∧ x.q.isEmpty ∧ x.mig.isNone ∧ x.migQ.isEmpty ∧ s.bankFree c t.bank then
        let row := s.actRow c t.bank t.row
        (s.modChan c fun y => { y with rt := some { bank := t.bank, row := row, test := true, since := s.cc } }).pushRow
          c t.bank row false .rtRead fun _ => 0
      else s
    | none =>
      if x.rtGap > 0 ∨ x.test then s else
      match x.rtList.find? fun r => s.bankFree c r.1 with
      | none => s
      | some r =>
        let s := s.modChan c fun y => { y with
          rt := some { bank := r.1, row := r.2, since := s.cc }, rtList := y.rtList.erase r
          rtGap := s.fld Fld.INT_RETEST_CFG_SPACING }
        (s.pushRow c r.1 r.2 false .rtRead fun _ => 0).reside c

/-- MIGRATION_START: the oldest row passed to repair opens a migration job (R346, R347). -/
def execMigrationStart (c : ChanIx) (s : State) : Out :=
  let x := s.chan c
  .next <| match x.migQ with
  | [] => s
  | m :: rest =>
    if x.mig.isSome ∨ x.resetting ∨ (x.test ∧ s.bst.kind ≠ 0) ∨ ¬ s.bankFree c m.bank ∨ ¬ s.engineRuns c then s else
    let s := s.modChan c fun y => { y with migQ := rest }
    let row := (s.hostRow c m.bank m.row).getD m.row
    let k := s.caseOf c m.bank row
    let s := s.markServing c m.bank row
    match s.chooseRes c m.bank row k with
    | none => s.exhausted c m.bank row
    | some r =>
      let s := ((s.repSet (rowEnt c m.bank row 1 r)).bump Fld.REP_CNT_COUNT 0 3).checkBudgets c
      let s := s.modChan c fun y => { y with mig := some { bank := m.bank, row := row, res := r, bits := m.bits, served := k, since := s.cc } }
      (s.pushRow c m.bank m.row false .migRead fun _ => 0).reside c

/-- EVENT_JOB_OVERRUN: a fill has lasted 1,600 cc, or a retest or a migration, which runs as one, 4 µs; an overrun is counted once and the job goes on (R54, R59, R60, R331, R338, R347). -/
def execEventJobOverrun (c : ChanIx) (fill : Bool) (s : State) : Out :=
  let x := s.chan c
  let one (j : Nat) (s : State) : State :=
    (s.bump Fld.TT_OVERRUN_COUNT 0 j).raise .ttHardOverrun c { detail := j, access := if j = 4 then 6 else 2 }
  .next <| if fill then
    match x.fills.find? fun f => !f.past && s.cc > f.since + 1600 with
    | some f => one 5 (s.modChan c fun y => { y with fills := y.fills.map fun g => if g.id = f.id then { g with past := true } else g })
    | none => s
  else match x.rt, x.mig with
    | some r, _ => if r.past ∨ s.cc ≤ r.since + 6400 then s else one 4 (s.modRt c fun y => { y with past := true })
    | none, some m => if m.past ∨ s.cc ≤ m.since + 6400 then s else one 4 (s.modMig c fun y => { y with past := true })
    | none, none => s

end Sys2Proof.Machine
end

