-- ==== Sys2Proof/Machine/Training.lean ====
section
/-! DEFINITION. Link training, sessions, census and failover (04). -/
namespace Sys2Proof.Machine

/-! ### Accepted contents (R106, R108) -/

/-- Byte i of a content; a byte not received reads 0 (R106). -/
def byteAt (bs : List Byte) (i : Nat) : Byte := bs.getD i 0

/-- A little-endian number of n bytes at byte i of a content (R106). -/
def numAt (bs : List Byte) (i n : Nat) : Nat := ofBytesLE ((List.range n).map fun k => byteAt bs (i + k))

/-- TS1 or TS2 as its bytes give it (R108). -/
def tsOf (x : SetIn) : TsContent :=
  { flags := BitVec.ofNat 4 (byteAt x.bytes 1).toNat, attempt := byteAt x.bytes 2, reason := byteAt x.bytes 3 }

/-- CAP as its bytes give it (R115). -/
def capOf (x : SetIn) : CapContent :=
  let f := byteAt x.bytes 11
  { version := byteAt x.bytes 0, role := byteAt x.bytes 1, tracks := byteAt x.bytes 8, track := byteAt x.bytes 9
    maxLen := byteAt x.bytes 10, update := f.getLsbD 0, l1 := f.getLsbD 1, fov := f.getLsbD 2, census := f.getLsbD 3, ack := x.ack }

/-- Sixteen bytes as a lane map; a byte that names no lane is left out (R113). -/
def mapAt (bs : List Byte) (i : Nat) : List LaneIx :=
  (List.range 16).filterMap fun k => if h : (byteAt bs (i + k)).toNat < 18 then some ⟨_, h⟩ else none

/-- SMAP as its bytes give it (R113). -/
def smapOf (x : SetIn) : SmapContent :=
  { rxMap := mapAt x.bytes 0, txMap := mapAt x.bytes 16, unusable := BitVec.ofNat 18 (numAt x.bytes 32 3), ack := x.ack }

/-- GRANT as its bytes give it (R117). -/
def grantOf (x : SetIn) : GrantContent :=
  { resume := byteAt x.bytes 0 = 2, lastRx := byteAt x.bytes 1, lastValid := (byteAt x.bytes 2).getLsbD 0
    req := BitVec.ofNat 16 (numAt x.bytes 3 2), data := BitVec.ofNat 16 (numAt x.bytes 5 2), ack := x.ack }

/-- The ten census counters from byte i on (R128). -/
def countsAt (bs : List Byte) (i : Nat) : CenCounts :=
  let c (k : Nat) : BitVec 32 := BitVec.ofNat 32 (numAt bs (i + 4 * k) 4)
  { txr := c 0, txd := c 1, rtr := c 2, rtd := c 3, rxr := c 4, rxd := c 5, rrr := c 6, rrd := c 7, iss := c 8, acc := c 9 }

/-- CEN as its bytes give it (R128). -/
def cenOf (x : SetIn) : CenContent :=
  { round := byteAt x.bytes 0, sTx := byteAt x.bytes 1, sRx := byteAt x.bytes 2, counts := countsAt x.bytes 3 }

/-- FOV as its bytes give it (R130). -/
def fovOf (x : SetIn) : FovContent :=
  { track := ⟨(byteAt x.bytes 0).toNat % 32, by omega⟩, sRx := byteAt x.bytes 1, counts := countsAt x.bytes 2 }

/-- The content of a type that a track's lanes have accepted and no command has taken (R106). -/
def State.setIn (s : State) (t : Nat) (ty : SetType) : Option SetIn := (s.trk t).rx.sets.find? fun x => x.typ = ty.code

/-- What a command acts on: the content the lanes have accepted, or, where none waits, the content its operand gives, accepted now (log entry 7). -/
def State.contentIn {α : Type} (s : State) (t : Nat) (ty : SetType) (dec : SetIn → α) (x : α) : α :=
  match s.setIn t ty with
  | some e => dec e
  | none => x

/-- The content of a type is taken. -/
def State.takeSet (s : State) (t : Nat) (ty : SetType) : State :=
  s.modRx t fun x => { x with sets := x.sets.filter fun e => e.typ != ty.code }

/-! ### Sessions (R117 to R119) -/

/-- End a track's session (R118): requests already accepted are still performed, their responses are dropped and counted, their tags are closed and their tablets gone with the pools. -/
def State.endSession (s : State) (t : Nat) : State :=
  let ready := (s.trk t).tx.resp ++ (s.trk t).tx.late
  let n := ready.length
  let ords := ready.map (·.ord)
  let s := s.bump Fld.TRK_POOL_RX_DROPPED t 0 n
  let s := { s with tags := (s.tags.filter fun (o : OpenTag) => !ords.contains o.ord).map fun (o : OpenTag) =>
      if o.track = t then { o with dead := true, void := true } else o }
  let s := s.modTx t fun x => { x with resp := [], late := [], replay := [], marked := [], rep := none, retReq := 0,
                                       retData := 0, retDue := false, ackDue := false, bul := [], urg := [] }
  let s := s.setFld Fld.TRK_CENSUS_STATUS_TAGS_OPEN 0 t
  s.setFld Fld.TRK_TRAIN_STATUS_SESSION 0 t

/-- Begin a FRESH session with the host's grants (R119): sequence 0 in each direction, every pool full, every census counter 0. -/
def State.freshSession (s : State) (t : Nat) (req data : Nat) : State :=
  let s := s.setFld Fld.TRK_PKT_SEQ_TX_NEXT 0 t
  let s := s.setFld Fld.TRK_PKT_SEQ_TX_ACKED 0xFF t
  let s := s.setFld Fld.TRK_PKT_SEQ_RX_LAST 0xFF t
  let s := s.setFld Fld.TRK_PKT_SEQ_UNACKED 0 t
  let s := s.setFld Fld.TRK_PEER_GRANT_REQ req t
  let s := s.setFld Fld.TRK_PEER_GRANT_DATA data t
  let s := s.setFld Fld.TRK_POOL_TX_REQ_FREE req t
  let s := s.setFld Fld.TRK_POOL_TX_DATA_FREE data t
  let s := s.setFld Fld.TRK_POOL_RX_REQ_HELD 0 t
  let s := s.setFld Fld.TRK_POOL_RX_DATA_HELD 0 t
  let s := s.setFld Fld.TRK_CENSUS_STATUS_TAGS_OPEN 0 t
  let s := s.setFld Fld.TRK_TRAIN_STATUS_SESSION 1 t
  let gr := s.fld Fld.TRK_GRANT_CFG_REQ t
  let gd := s.fld Fld.TRK_GRANT_CFG_DATA t
  s.modTrk t fun x => { x with
    ses := { grantReq := gr, grantData := gd, buf := x.ses.buf, carries := x.ses.carries, gone := x.ses.gone }
    tx := { x.tx with replay := [], rep := none, repWait := false, guard := none, reps := 0, stalled := false, ackBlk := 0,
                      retReq := 0, retData := 0, retDue := false, ackDue := false, marked := [] }
    rx := { x.rx with nak := false } }

/-! ### Failover (R130 to R132) -/

/-- The census values of a track at this moment (R127, R128). -/
def State.cenCut (s : State) (t : Nat) (round : Byte) : CenContent :=
  { round := round, sTx := BitVec.ofNat 8 (s.fld Fld.TRK_PKT_SEQ_TX_NEXT t + 255)
    sRx := BitVec.ofNat 8 (s.fld Fld.TRK_PKT_SEQ_RX_LAST t), counts := (s.trk t).ses.counts }

/-- The bytes of census counters, in the order of Table CEN content. -/
def CenCounts.bytes (c : CenCounts) : List Byte :=
  [c.txr, c.txd, c.rtr, c.rtd, c.rxr, c.rxd, c.rrr, c.rrd, c.iss, c.acc].flatMap (bytesLE 4)

/-- The bytes of a CEN content (R128). -/
def CenContent.bytes (c : CenContent) : List Byte := [c.round, c.sTx, c.sRx] ++ c.counts.bytes

/-- Have a content sent in the training slots of a READY track, behind those that wait (R104). -/
def State.queueSet (s : State) (t : Nat) (q : SetReq) : State :=
  s.modTrn t fun x => if x.queue.contains q then x else { x with queue := x.queue ++ [q] }

/-- The bytes of the device's FOV for track t (R130). -/
def State.fovBytes (s : State) (t : Nat) : List Byte :=
  [BitVec.ofNat 8 t, BitVec.ofNat 8 (s.fld Fld.TRK_PKT_SEQ_RX_LAST t)] ++ (s.trk t).ses.counts.bytes

/-- Change the failover of track t. -/
def State.modFov (s : State) (t : Nat) (g : Failover → Failover) : State :=
  s.modTrk t fun x => { x with fov := g x.fov }

/-- Start failover of a track onto its partner when the partner is READY: FOV goes out on the partner (R130, R132). -/
def State.startFailover (s : State) (t : Nat) : State :=
  let u := s.fld Fld.HLC_FOV_MAP_PARTNER 0 t
  if s.linkIs u .ready ∧ s.fld Fld.TRK_TRAIN_STATUS_SESSION t = 1 ∧ u ≠ t then
    (s.modFov t fun x => { x with going := true }).queueSet u (.fov t)
  else s

/-- Whether a session holds open tags or unreturned tablets (R130). -/
def State.sessionBusy (s : State) (t : Nat) : Bool :=
  s.fld Fld.TRK_TRAIN_STATUS_SESSION t = 1 &&
  (s.fld Fld.TRK_CENSUS_STATUS_TAGS_OPEN t > 0 || s.fld Fld.TRK_POOL_RX_REQ_HELD t > 0 ||
   s.fld Fld.TRK_POOL_RX_DATA_HELD t > 0 ||
   s.fld Fld.TRK_POOL_TX_REQ_FREE t < s.fld Fld.TRK_PEER_GRANT_REQ t ||
   s.fld Fld.TRK_POOL_TX_DATA_FREE t < s.fld Fld.TRK_PEER_GRANT_DATA t)

/-- A packet the device sent as a response to send again. -/
def respOf (p : Pkt) : Resp :=
  { typ := p.typ, tag := p.tag, master := p.master, addr := p.addr, data := p.data }

/-- Move the session of t onto u, the host having accepted t's packets through `sRx` (R131): later responses are sent again on u, open requests are answered on u, t's tag ranges are valid on u. -/
def State.moveSession (s : State) (t u : Nat) (sRx : Byte) : State :=
  let x := s.trk t
  let sent := (if x.tx.replay.any fun p => p.seq = sRx then dropThrough sRx x.tx.replay else x.tx.replay).filter
    fun p => p.typ = 0x10 || p.typ = 0x11 || p.typ = 0x12
  let open_ := s.tags.countP fun o => o.track = t && !o.dead
  let n := open_ + sent.length
  let s := { s with tags := s.tags.map fun (o : OpenTag) => if o.track = t then { o with track := u, void := true } else o }
  let s := s.modTrk u fun y => { y with
    tx := { y.tx with resp := y.tx.resp ++ sent.map respOf ++ x.tx.resp, late := y.tx.late ++ x.tx.late }
    ses := { y.ses with carries := y.ses.carries ++ [t] ++ x.ses.carries, moved := y.ses.moved + n } }
  let s := s.setFld Fld.TRK_CENSUS_STATUS_TAGS_OPEN (s.fld Fld.TRK_CENSUS_STATUS_TAGS_OPEN u + n) u
  let s := s.setFld Fld.TRK_CENSUS_STATUS_TAGS_OPEN 0 t
  let s := s.modTrk t fun y => { y with
    tx := { y.tx with resp := [], late := [], replay := [], marked := [], rep := none, retReq := 0, retData := 0, retDue := false, ackDue := false }
    ses := { y.ses with carries := [], moved := 0, gone := true }, cen := {}, fov := {} }
  let s := s.setFld Fld.TRK_TRAIN_STATUS_SESSION 2 t
  s.raise .tabFailover t

/-- FOV_RX: a FOV content accepted on a READY partner moves the named session onto it once the device's own FOV has gone out too; where it has not, the device answers with it first (R130, R131; log entry 122). -/
def execFovRx (u : TrackIx) (x : FovContent) (s : State) : Out :=
  let x := s.contentIn u .fov fovOf x
  let t := x.track.val
  let s := s.takeSet u .fov
  .next <| if s.linkIs u .ready ∧ s.fld Fld.HLC_FOV_MAP_PARTNER 0 t = u.val ∧ t ≠ u.val ∧
      s.fld Fld.TRK_TRAIN_STATUS_SESSION t = 1 then
    if (s.trk t).fov.sent then s.moveSession t u x.sRx
    else (s.modFov t fun y => { y with got := some x.sRx }).startFailover t
  else s

/-! ### Attempts (R110 to R112) -/

/-- Enabled tracks, ascending. -/
def State.enabledTracks (s : State) : List Nat := (List.range 32).filter fun t => s.flag Fld.TRK_TRAIN_CTL_EN t

/-- A track begins its first training of a start or configuration: its lane cluster goes on, cold timeouts apply (R110, R431, R447). -/
def State.startTrack (s : State) (t : Nat) : State := (s.setDomain (1 + t / 4) true).beginAttempt t false

/-- A pilot track goes DOWN: the next enabled track takes its place (R447). -/
def State.nextPilot (s : State) (t : Nat) : State :=
  if s.flag Fld.GLB_STATE_READY ∨ ¬ s.start.tracksGo.contains t then s else
  match s.enabledTracks.find? fun u => u > t && !s.start.tracksGo.contains u with
  | none => s
  | some u =>
    let s := { s with start := { s.start with tracksGo := (s.start.tracksGo.filter fun v => v != t) ++ [u] } }
    s.startTrack u

/-- The track goes DOWN after its last attempt (R112), and failover starts where R130 asks for it. -/
def State.goDown (s : State) (t : Nat) : State :=
  let s := s.raise .hlTrainFail t (hlDetail 0 (s.fld Fld.TRK_TRAIN_STATUS_FAIL_REASON t) 0)
  let s := s.setFld Fld.TRK_TRAIN_STATUS_STATE LinkState.down.code t
  let s := s.setFld Fld.TRK_TRAIN_STATUS_PHASE 0 t
  let s := s.modTrn t fun x => { x with set := [], queue := [], ticks := 0 }
  let s := s.nextPilot t
  if s.sessionBusy t ∧ s.flag Fld.HLC_LINK_CFG_FOV_EN then s.startFailover t else s

/-- An attempt fails for a reason (R112); reason 0x15 is not counted. -/
def State.failAttempt (s : State) (t reason : Nat) : State :=
  let s := s.setFld Fld.TRK_TRAIN_STATUS_FAIL_REASON reason t
  if reason = 0x15 then s.beginAttempt t true else
  let n := s.fld Fld.TRK_TRAIN_STATUS_ATTEMPT t + 1
  let s := s.setFld Fld.TRK_TRAIN_STATUS_ATTEMPT n t
  if n ≥ s.fld Fld.HLC_TRAIN_CFG_ATTEMPTS then s.goDown t else s.beginAttempt t true

/-- The phase of one lane among phases 1 to 4 (R110, R111). -/
def State.lanePhase (s : State) (t p : Nat) : Nat :=
  if ¬ (s.rxLane t p).settled then 1
  else if ¬ s.flag Fld.TRK_LANE_STATUS_SYM_LOCK t p then 2
  else if ¬ s.flag Fld.TRK_LANE_STATUS_BLK_LOCK t p then 3
  else 4

/-- The lanes usable in this attempt. -/
def State.usableLanes (s : State) (t : Nat) : List Nat :=
  (List.range 18).filter fun p => !(s.rxLane t p).unusable

/-- Rows since each lane's last header, or, where a command brings the skew of lanes whose rows come lined up, what stands for them: 24 less the lateness it gives (R79; log entry 123). -/
def State.headerAge (s : State) (t : Nat) (skew : List Nat) (p : Nat) : Int :=
  if skew = [] then (s.rxLane t p).since else 24 - skew.getD p 0

/-- How late a lane's header comes behind the earliest of a set of lanes (R79). -/
def lateness (age : Nat → Int) (ps : List Nat) (p : Nat) : Nat := (ps.foldl (fun m q => max m (age q)) (age p) - age p).toNat

/-- Whether a set of lanes lies within 24 row-times (R79). -/
def aligned (age : Nat → Int) (ps : List Nat) : Bool := ps.all fun p => lateness age ps p ≤ 24

/-- Deskew (R79): active lanes more than 24 row-times apart fail the attempt, a spare that lies outside becomes FAILED; at least 16 lanes must be deskewed. Each lane is delayed to the latest; SKEW shows how late a lane is, 0 for the earliest (R103; log entry 123). -/
def State.deskew (s : State) (t : Nat) (skew : List Nat) : State :=
  let age := s.headerAge t skew
  let use := s.usableLanes t
  let act := use.filter fun p => p < 16
  let good := use.filter fun p => p < 16 || aligned age (p :: act)
  if ¬ aligned age act ∨ good.length < 16 then
    (s.raise .hlDeskewFail t (hlDetail 0 0x10 0)).failAttempt t 0x10
  else
    let s := (use.filter fun p => !good.contains p).foldl (fun s p =>
      (s.setFld (spareFld false (p = 17)) SpareState.failed.code t).setRxLane t p { s.rxLane t p with unusable := true }) s
    let late := good.map fun p => (p, lateness age good p)
    let depth := if skew = [] then late.foldl (fun m e => max m e.2) 0 else 0
    let s := late.foldl (fun s e =>
      (s.setFld Fld.TRK_LANE_STATUS_SKEW e.2 t e.1).setRxLane t e.1
        (if skew = [] then { s.rxLane t e.1 with since := (s.rxLane t e.1).since + e.2 - depth } else s.rxLane t e.1)) s
    (s.modRx t fun x => { x with depth := depth }).modTrk t fun x => { x with
      trn := { x.trn with deskewed := true, setType := SetType.ts2.code }, tx := { x.tx with page := 0, slots := 0 } }

/-- Deskew when its time has come: in phase 4, with the skew at hand, or half a block after the header of the lowest usable lane, so that no header lies between the lanes (R79, R111). -/
def State.deskewDue (s : State) (t : Nat) (skew : List Nat) : Bool :=
  !(s.trk t).trn.deskewed && s.fld Fld.TRK_TRAIN_STATUS_PHASE t = 4 &&
  (skew != [] || match s.usableLanes t with
    | p :: _ => (s.rxLane t p).since = 128
    | [] => false)

/-- Whether a track has finished phase 4; it holds there until stage B2 has ended (R110, R444). -/
def State.phase4Done (s : State) (t : Nat) : Bool := (s.trk t).trn.deskewed && (s.trk t).trn.ts2 ≥ 8

/-- A training phase begins: the peer's content of it is not accepted yet, and its own content is sent from page 0 (R110, R111). -/
def State.enterPhase (s : State) (t n : Nat) (ty : SetType) : State :=
  (s.setFld Fld.TRK_TRAIN_STATUS_PHASE n t).modTrk t fun x => { x with
    trn := { x.trn with mine := false, setType := ty.code }, tx := { x.tx with page := 0, slots := 0 } }

/-- Move through phases 1 to 4 as far as the lanes allow; phase 4 ends when deskewed with eight TS2 slots (R110, R111). -/
def State.advance (s : State) (t : Nat) (skew : List Nat) : State :=
  if ¬ s.linkIs t .training ∨ s.fld Fld.TRK_TRAIN_STATUS_PHASE t > 4 then s else
  let s := s.setFld Fld.TRK_TRAIN_STATUS_PHASE (((s.usableLanes t).map (s.lanePhase t)).foldl min 4) t
  let s := if s.deskewDue t skew then s.deskew t skew else s
  if s.linkIs t .training ∧ s.phase4Done t ∧ s.start.b2 then s.enterPhase t 5 .cap else s

/-- Whether a track is in a training phase. -/
def State.inPhase (s : State) (t n : Nat) : Bool :=
  s.linkIs t .training && s.fld Fld.TRK_TRAIN_STATUS_PHASE t = n

/-- An accepted training slot on the lanes (R110 phase 2): a lane with COM at another 10-bit boundary than before begins its count again; where the slot comes with the command and not with rows, a lane of `lanes` counts it here. -/
def State.slotLanes (s : State) (t : Nat) (ty : SetType) (lanes : BitVec 18) : State :=
  let count := (s.setIn t ty).isNone
  s.upTo 18 fun p s =>
    let L := s.rxLane t p
    let n := if lanes.getLsbD p then (if count then min 16 (L.coms + 1) else L.coms) else 0
    (s.setRxLane t p { L with coms := n }).when (n ≥ 16) fun s => s.setFld Fld.TRK_LANE_STATUS_SYM_LOCK 1 t p

/-- TS1_RX: in phases 1 to 4 training advances; a READY track starts a LINK retrain with reason 0x20; a DOWN track starts a cold attempt (R108, R112, R126). -/
def execTs1Rx (t : TrackIx) (_x : TsContent) (lanes : BitVec 18) (skew : List Nat) (s : State) : Out :=
  .next <|
  if s.resetting then s
  else if s.linkIs t .ready then (s.takeSet t .ts1).retrain t 0x20
  else if s.linkIs t .down then (s.takeSet t .ts1).beginAttempt t false
  else if s.linkIs t .training ∧ s.fld Fld.TRK_TRAIN_STATUS_PHASE t ≤ 4 then
    (((s.slotLanes t .ts1 lanes).takeSet t .ts1).modTrn t fun x => { x with ts2 := 0 }).advance t skew
  else s

/-- TS2_RX: in phase 4 a TS2 slot counts; eight in a row with own lanes deskewed end the phase (R110). -/
def execTs2Rx (t : TrackIx) (_x : TsContent) (lanes : BitVec 18) (skew : List Nat) (s : State) : Out :=
  .next <|
  if s.inPhase t 4 then
    (((s.slotLanes t .ts2 lanes).takeSet t .ts2).modTrn t fun x => { x with ts2 := min 8 (x.ts2 + 1) }).advance t skew
  else s

/-- CAL_WINDOW_END: a lane's window closes; its trims are staged for the next tick, or the window is rejected (R81 to R83); in training the lane may have finished phase 1 (R110). The loop stands still under TRIM_FREEZE, in L1 and L3, and during a stall. -/
def execCalWindowEnd (t : TrackIx) (p : LaneIx) (n : CalCount) (s : State) : Out :=
  .next <| if s.calRuns t then (s.closeWindow t p n).advance t [] else s

/-- The map a receiver proposes: Pp where usable, else the lowest usable spare not taken; none where a position has no lane (R113). -/
def proposeMap (usable : Nat → Bool) : Nat → Option (List Nat)
  | 0 => some []
  | p + 1 =>
    match proposeMap usable p with
    | none => none
    | some m =>
      if usable p then some (m ++ [p])
      else match [16, 17].find? fun q => usable q && !m.contains q with
        | some q => some (m ++ [q])
        | none => none

/-- Lanes of a direction recorded as retired: unusable in phase 6 of the first training after a start (R356). -/
def State.recordedBad (s : State) (t : Nat) (tx : Bool) : Nat :=
  if (s.trk t).trained then 0 else
  (s.rep.copy.filter fun e => e.kind = 10 && e.unit = t && e.bank = b2n tx).foldl (fun m e => setBit m e.row) 0

/-- The device's TX-unusable mask (R113). -/
def State.txBad (s : State) (t : Nat) : Nat := s.recordedBad t true

/-- Whether a receive lane may serve a position (R113). -/
def State.rxUsable (s : State) (t peerBad p : Nat) : Bool :=
  !(s.rxLane t p).unusable && !peerBad.testBit p && !(s.recordedBad t false).testBit p

/-- The device's proposal: lanes usable here and not in the peer's TX-unusable mask (R113). -/
def State.proposal (s : State) (t : Nat) (peerBad : Nat) : Option (List Nat) := proposeMap (s.rxUsable t peerBad) 16

/-- Build and send the proposal, or fail the attempt with reason 0x11 (R113). -/
def State.propose (s : State) (t peerBad : Nat) : State :=
  match s.proposal t peerBad with
  | none => s.failAttempt t 0x11
  | some m => s.modTrn t fun x => { x with rxMap := m, peerBad := peerBad }

/-- CAP_RX: in phase 5 the host's capability is checked and, with ACK seen, phase 6 begins; while READY a CAP with UPDATE and ACK answers the device's announcement (R115, R116). -/
def execCapRx (t : TrackIx) (x : CapContent) (s : State) : Out :=
  let x := s.contentIn t .cap capOf x
  let s := s.takeSet t .cap
  .next <|
  if s.inPhase t 5 then
    if x.version ≠ 1 ∨ x.role = 1 ∨ x.maxLen = 0 ∨ x.maxLen.toNat ≥ 9 then s.failAttempt t 0x12
    else
      let s := s.setFld Fld.TRK_TRAIN_STATUS_MAX_LEN x.maxLen.toNat t
      let s := s.modTrn t fun y => { y with mine := true, hostTracks := x.tracks.toNat,
                                            capFlags := 2 * b2n x.l1 + 4 * b2n x.fov + 8 * b2n x.census }
      if x.ack then (s.enterPhase t 6 .smap).propose t 0 else s
  else if s.linkIs t .ready ∧ (s.trk t).trn.capUpdate ∧ x.update ∧ x.ack then
    s.modTrn t fun y => { y with capAnswered := true }
  else s

/-- What a lane map leaves of the spares and the active lanes of a direction (R114). -/
def State.applyMap (s : State) (t : Nat) (tx : Bool) (m : List Nat) (usable : Nat → Bool) : State :=
  let one (s : State) (sp : Bool) : State :=
    let q := if sp then 17 else 16
    match indexOf q m 0 with
    | some p => s.activateSpare t tx sp p
    | none => s.setFld (spareFld tx sp) (if usable q then SpareState.standby.code else SpareState.failed.code) t
  let retired := (List.range 16).foldl (fun n p => if usable p then n else setBit n p) 0
  (one (one s false) true).setFld (retiredFld tx) retired t

/-- Whether a transmit lane can serve: the device can drive it, and the host's proposal took it where the rule of R113 would have taken it had it been usable (R113, R114). -/
def txUsable (bad : Nat) (want : List Nat) (q : Nat) : Bool :=
  !bad.testBit q && (if q < 16 then want.getD q q = q else !(q = 16 && want.contains 17 && !want.contains 16))

/-- Whether a tablet of an earlier session of the track is still held (R119). -/
def State.oldHeld (s : State) (t : Nat) : Bool :=
  ((s.trk t).ses.buf.any fun e => !s.owesFor e.ord) || (s.trk t).rx.inbox.any fun e => !s.owesFor e.2

/-- Phase 6 ends: the maps are in force, and phase 7 begins; that of a FRESH session waits while tablets of an earlier one are held (R114, R119). -/
def State.mapsAgreed (s : State) (t : Nat) (want : List Nat) (unusable : Nat) : State :=
  if s.fld Fld.TRK_TRAIN_STATUS_SESSION t ≠ 1 ∧ s.oldHeld t then s.modTrn t fun y => { y with agreed := true } else
  let s := s.applyMap t false (s.trk t).trn.rxMap (s.rxUsable t unusable)
  let s := s.applyMap t true want (txUsable (s.txBad t) want)
  s.enterPhase t 7 .grant

/-- SMAP_RX: in phase 6 the device adopts the host's proposal it can drive, proposes again under the host's TX-unusable mask, and ends the phase when the host's transmit map is its own proposal and ACK is seen (R113, R114). -/
def execSmapRx (t : TrackIx) (x : SmapContent) (s : State) : Out :=
  let x := s.contentIn t .smap smapOf x
  let s := s.takeSet t .smap
  .next <|
  if s.inPhase t 6 then
    let s := s.propose t x.unusable.toNat
    if ¬ s.inPhase t 6 then s else
    let want := x.rxMap.map (·.val)
    let bad := s.txBad t
    let can := want.length = 16 ∧ want.all (fun q => !bad.testBit q)
    let s := if can then s.modTrn t fun y => { y with txMap := want, mine := true } else s
    if can ∧ x.txMap.map (·.val) = (s.trk t).trn.rxMap ∧ x.ack then s.mapsAgreed t want x.unusable.toNat else s
  else s

/-- Whether LAST_RX_SEQ names a packet from TX_ACKED to the last packet sent, in that order modulo 256 (R117). -/
def State.lastRxFits (s : State) (t : Nat) (n : Byte) : Bool :=
  let a := BitVec.ofNat 8 (s.fld Fld.TRK_PKT_SEQ_TX_ACKED t)
  let l := BitVec.ofNat 8 (s.fld Fld.TRK_PKT_SEQ_TX_NEXT t + 255)
  (n - a).toNat ≤ (l - a).toNat

/-- The device passes the grant phase; with ACK seen, phase 8 begins (R110). -/
def State.granted (s : State) (t : Nat) (ack : Bool) : State :=
  let s := s.modTrn t fun y => { y with mine := true }
  if ack then s.enterPhase t 8 .rdy else s

/-- GRANT_RX: in phase 7 the host's grant is checked against what the device sends, FRESH or RESUME, and begins or resumes the session (R117 to R119). -/
def execGrantRx (t : TrackIx) (x : GrantContent) (s : State) : Out :=
  let x := s.contentIn t .grant grantOf x
  let s := s.takeSet t .grant
  let resume := s.fld Fld.TRK_TRAIN_STATUS_SESSION t = 1
  .next <|
  if s.inPhase t 7 then
    if resume ∧ x.resume then
      if x.req.toNat = s.fld Fld.TRK_PEER_GRANT_REQ t ∧ x.data.toNat = s.fld Fld.TRK_PEER_GRANT_DATA t ∧
          (x.lastValid → s.lastRxFits t x.lastRx) then
        (s.modTrn t fun y => { y with lastRx := if x.lastValid then some x.lastRx else none }).granted t x.ack
      else ((s.raise .tabResumeFail t (hlDetail 0 0x16 x.lastRx.toNat)).endSession t).failAttempt t 0x16
    else if resume then
      if (s.trk t).trn.fresh then s.granted t x.ack   -- a session begun in this phase: the host's repeat
      else ((s.raise .tabSessionLost t (hlDetail 0 0x15 0)).endSession t).failAttempt t 0x15
    else if x.resume then s.failAttempt t 0x14
    else if s.oldHeld t then s
    else if x.req.toNat < 1 ∨ x.data.toNat < 8 then
      (s.raise .tabGrantReject t (hlDetail 0 0x13 0)).failAttempt t 0x13
    else ((s.freshSession t x.req.toNat x.data.toNat).modTrn t fun y => { y with fresh := true }).granted t x.ack
  else s

/-- The code of a member CSn in GLB.ADDR_MAP.MEMBER (R35). -/
def memberCode (n : Nat) : Nat :=
  if n = 16 then 6 else if n = 12 then 5 else if n = 8 then 4 else if n = 4 then 3 else if n = 2 then 2 else 1

/-- KIND of a chosen configuration: 1 full, 2 reduced (R362). -/
def Member.kind (m : Member) : Nat := if m.n = 16 ∧ m.p = 16 then 1 else 2

/-- WAGONS of a chosen configuration; 0 where no layer is healthy (R362). -/
def Member.wagons (m : Member) : Nat := if m.used.isEmpty then 0 else 4 * m.n * m.p * 24576

/-- The CAP content of the device (R115): configuration, capacity, tracks, flags, stack ID, effective frame. -/
def State.capBytes (s : State) (t kind member chans wagons tracks : Nat) (eff : Option Nat) : List Byte :=
  let n8 (n : Nat) : Byte := BitVec.ofNat 8 n
  let flags := b2n eff.isSome + 2 * s.fld Fld.TRK_LSTATE_L1_EN t + 4 * s.fld Fld.HLC_LINK_CFG_FOV_EN +
    8 * s.fld Fld.HLC_CENSUS_CFG_EN
  [1, 1, n8 (kind + 16 * member), n8 chans] ++ natBytes 4 wagons ++ [n8 tracks, n8 t, 8, n8 flags] ++
    natBytes 8 (s.fld Fld.BST_STACK_ID_ID) ++ natBytes 2 (eff.getD 0)

/-- CAP with the configuration presented; the pilot runs two tracks (R115, R447). -/
def State.capNow (s : State) (t : Nat) : List Byte :=
  s.capBytes t (s.fld Fld.GLB_ADDR_MAP_KIND) (s.fld Fld.GLB_ADDR_MAP_MEMBER) (s.fld Fld.GLB_ADDR_MAP_CHAN_COUNT)
    (s.fld Fld.GLB_INSTALLED_WAGONS) (if s.pilotOn then 2 else s.enabledTracks.length) none

/-- Announce the configuration to come on a track: CAP with UPDATE and the effective frame (R116, R449). -/
def State.announceTo (s : State) (t : Nat) : State :=
  match s.start.eff with
  | none => s
  | some _ => (s.modTrn t fun x => { x with capUpdate := true, capAnswered := false }).queueSet t .cap

/-- The bytes of the announcement: the configuration to come and its effective frame (R116, R449). -/
def State.capNext (s : State) (t : Nat) : List Byte :=
  let m := s.start.conf
  s.capBytes t m.kind (memberCode m.n) (4 * m.n) m.wagons s.enabledTracks.length (some (s.start.eff.getD 0))

/-- What a track begins READY with (R110, R119): framing anew; a resumed session replays from the oldest packet not acknowledged. -/
def Trk.readied (x : Trk) : Trk := { x with
  tx := { x.tx with rep := x.tx.replay.head?.map (·.seq), repWait := false, tail := tailInit, lamp := false }
  rx := { x.rx with mode := .framed, cur := none, crc := tailInit, first := false, slotLeft := 0 }
  trn := { x.trn with set := [], queue := [], l3 := false, rdy := none }
  ses := { x.ses with gone := false }
  trained := true }

/-- A tag range moved away returns to its track, READY again; failovers onto the track go on (R130, R132). -/
def State.rejoin (s : State) (t : Nat) : State :=
  s.upTo 32 fun u s =>
    let s := if (s.trk u).ses.carries.contains t then
      s.modSes u fun x => { x with carries := x.carries.filter (· != t) } else s
    if (s.trk u).fov.going ∧ ¬ (s.trk u).fov.sent ∧ s.fld Fld.HLC_FOV_MAP_PARTNER 0 u = t then s.queueSet t (.fov u) else s

/-- The track becomes READY (R110 phase 8, R119): lanes in L0; a resumed session replays from the host's LAST_RX_SEQ + 1; a pending announcement is sent (R449); a tag range moved away returns (R132). -/
def State.becomeReady (s : State) (t : Nat) : State :=
  let s := s.setFld Fld.TRK_TRAIN_STATUS_STATE LinkState.ready.code t
  let s := s.setFld Fld.TRK_TRAIN_STATUS_PHASE 0 t
  let s := s.setFld Fld.TRK_TRAIN_STATUS_ATTEMPT 0 t
  let s := s.setFld Fld.TRK_LSTATE_TX_STATE 0 t
  let s := s.setFld Fld.TRK_LSTATE_RX_STATE 0 t
  let s := match (s.trk t).trn.lastRx with
    | some n => s.takeAck t n false
    | none => s
  ((s.modTrk t Trk.readied).announceTo t).rejoin t

/-- RDY_RX: the host's RDY is accepted; the track becomes READY when four RDY slots have been sent after it (R110 phase 8; log entry 8). -/
def execRdyRx (t : TrackIx) (s : State) : Out :=
  .next <| let s := s.takeSet t .rdy
    if s.inPhase t 8 ∧ (s.trk t).trn.rdy.isNone then s.modTrn t fun x => { x with mine := true, rdy := some 0 } else s

/-- RESET_SET_RX: a run of slots accepted in a row carrying RESET; four perform a CHIP reset while RESET_ACCEPT is 1, otherwise each four raise HL_RESET_REFUSED (R109). -/
def execResetSetRx (t : TrackIx) (content : BitVec 32) (slots : Nat) (s : State) : Out :=
  let s := (s.takeSet t .reset).modTrn t fun x => { x with reset := 0 }
  .next <|
  if content = 0x50494843 ∧ slots ≥ 4 ∧ ¬ s.resetting then
    if s.flag Fld.HLC_LINK_CFG_RESET_ACCEPT then s.chipReset 4
    else s.upTo (slots / 4) fun _ s => s.raise .hlResetRefused t
  else s

/-- TRAIN_PHASE_TIMEOUT: in phases 1 to 3 the lanes that have not finished become unusable; an attempt with no lane left, or a timeout in phases 4 to 8, fails (R110 to R112). -/
def execTrainPhaseTimeout (t : TrackIx) (s : State) : Out :=
  let ph := s.fld Fld.TRK_TRAIN_STATUS_PHASE t
  let fail (s : State) : State := (s.raise .hlTrainTimeout t (hlDetail 0 ph 0)).failAttempt t ph
  .next <|
  if s.linkIs t .training then
    if ph ≤ 3 then
      let s := s.upTo 18 fun p s =>
        if s.lanePhase t p ≤ ph then s.setRxLane t p { s.rxLane t p with unusable := true } else s
      if s.usableLanes t = [] then fail s else s.advance t []
    else if ph = 4 ∧ s.phase4Done t then s
    else if ph = 6 ∧ (s.trk t).trn.agreed ∧ s.oldHeld t then s
    else fail s
  else s

/-- TRAIN_RETRY_PERIOD: every RETRY_PERIOD frames a DOWN track with AUTO_RETRY begins a cold attempt (R112). -/
def execTrainRetryPeriod (t : TrackIx) (s : State) : Out :=
  .next <| if s.linkIs t .down ∧ s.flag Fld.HLC_TRAIN_CFG_AUTO_RETRY ∧ s.flag Fld.TRK_TRAIN_CTL_EN t ∧
      (s.trk t).trn.ticks ≥ s.fld Fld.HLC_TRAIN_CFG_RETRY_PERIOD then
    s.beginAttempt t false else s

/-! ### Census (R127 to R129) -/

/-- The account of R125 at this moment: free and spent tablets make the grant, tablets held are cost less returns, open tags are opened less closed. -/
def State.balanced (s : State) (t : Nat) : Bool :=
  let c := (s.trk t).ses.counts
  s.fld Fld.TRK_PEER_GRANT_REQ t = s.fld Fld.TRK_POOL_TX_REQ_FREE t + (c.txr - c.rtr).toNat &&
  s.fld Fld.TRK_PEER_GRANT_DATA t = s.fld Fld.TRK_POOL_TX_DATA_FREE t + (c.txd - c.rtd).toNat &&
  s.fld Fld.TRK_POOL_RX_REQ_HELD t = (c.rxr - c.rrr).toNat &&
  s.fld Fld.TRK_POOL_RX_DATA_HELD t = (c.rxd - c.rrd).toNat &&
  BitVec.ofNat 32 (s.fld Fld.TRK_CENSUS_STATUS_TAGS_OPEN t) =
    c.acc - c.iss + BitVec.ofNat 32 (s.trk t).ses.moved

/-- Change the census of track t. -/
def State.modCen (s : State) (t : Nat) (g : Census → Census) : State :=
  s.modTrk t fun x => { x with cen := g x.cen }

/-- Start a census round on a READY track (R128): the cut is taken when its content begins to be sent. -/
def State.startRound (s : State) (t : Nat) : State :=
  let n := (s.fld Fld.TRK_CENSUS_STATUS_ROUND t + 1) % 256
  let s := s.setFld Fld.TRK_CENSUS_STATUS_ROUND n t
  (s.modCen t fun x => { x with waiting := true, cut := none, got := none, ticks := 0, blocks := 0 }).queueSet t .cen

/-- The first slot of the round's content: every value is taken now; a repeat sends the same content (R128, R129). -/
def State.takeCut (s : State) (t : Nat) : State :=
  match (s.trk t).cen.cut with
  | some _ => s.modCen t fun x => { x with blocks := 0 }
  | none =>
    let cut := s.cenCut t (BitVec.ofNat 8 (s.fld Fld.TRK_CENSUS_STATUS_ROUND t))
    let ok := s.balanced t
    s.modCen t fun x => { x with cut := some cut, ok := ok, ticks := 0, blocks := 0 }

/-- CENSUS_INTERVAL: INTERVAL frames have passed; with EN set, a round starts on every READY track (R128). -/
def execCensusInterval (s : State) : Out :=
  .next <| if s.cenTicks < s.fld Fld.HLC_CENSUS_CFG_INTERVAL then s else
    let s := { s with cenTicks := 0 }
    if s.flag Fld.HLC_CENSUS_CFG_EN then s.upTo 32 fun t s => if s.linkIs t .ready then s.startRound t else s else s

/-- CENSUS_REPEAT: 16 blocks after the content of the round it is sent again (R128). -/
def execCensusRepeat (t : TrackIx) (s : State) : Out :=
  let x := (s.trk t).cen
  .next <| if x.waiting ∧ x.cut.isSome ∧ x.blocks ≥ 16 then s.queueSet t .cen else s

/-- The values recorded at a sequence number; zeros before any packet (R127). -/
def recAt (rs : List CenRec) (q : Byte) : Option (BitVec 32 × BitVec 32 × BitVec 32) :=
  match rs.find? fun r => r.seq = q with
  | some r => some (r.a, r.b, r.c)
  | none => if q = 0xFF then some (0, 0, 0) else none

/-- Whether the device has accepted host packet S_TX: it is the last accepted or lies before it (R129). -/
def State.hasAccepted (s : State) (t : Nat) (q : Byte) : Bool :=
  let ahead := (q - BitVec.ofNat 8 (s.fld Fld.TRK_PKT_SEQ_RX_LAST t)).toNat
  ahead = 0 || ahead ≥ 128

/-- The host's census of the round, once its S_TX has been accepted, is checked (R129). -/
def State.checkCensus (s : State) (t : Nat) : State :=
  let y := s.trk t
  match y.cen.got with
  | none => s
  | some x =>
    if ¬ s.hasAccepted t x.sTx then s else
    let good := y.cen.ok &&
      recAt y.ses.txRec x.sRx = some (x.counts.rxr, x.counts.rxd, x.counts.acc) &&
      recAt y.ses.rxRec x.sTx = some (x.counts.rrr, x.counts.rrd, x.counts.iss)
    let s := s.modCen t fun z => { z with waiting := false, timeouts := 0, got := none }
    let s := s.setFld Fld.TRK_CENSUS_STATUS_RESULT (if good then 1 else 2) t
    if good then s else s.raise .tabCensusMismatch t

/-- CEN_RX: the host's census of the round is accepted, and checked where the device has accepted its S_TX; otherwise when it does (R129). -/
def execCenRx (t : TrackIx) (x : CenContent) (s : State) : Out :=
  let x := s.contentIn t .cen cenOf x
  let s := s.takeSet t .cen
  .next <|
  if (s.trk t).cen.waiting ∧ s.linkIs t .ready ∧ x.round.toNat = s.fld Fld.TRK_CENSUS_STATUS_ROUND t then
    (s.modCen t fun z => { z with got := some x }).checkCensus t
  else s

/-- CENSUS_REPLY_TIMEOUT: REPLY frames pass without the host's CEN; after a second time in a row the track retrains with reason 0x25 (R128, R129). -/
def execCensusReplyTimeout (t : TrackIx) (s : State) : Out :=
  let x := (s.trk t).cen
  let n := x.timeouts + 1
  .next <| if x.waiting ∧ x.cut.isSome ∧ x.got.isNone ∧ x.ticks ≥ s.fld Fld.HLC_CENSUS_CFG_REPLY then
    let s := s.setFld Fld.TRK_CENSUS_STATUS_RESULT 3 t
    let s := s.modCen t fun z => { z with waiting := false, timeouts := if n ≥ 2 then 0 else n }
    let s := s.raise .tabCensusTimeout t
    if n ≥ 2 then s.retrain t 0x25 else s
  else s

end Sys2Proof.Machine
end

