-- ==== Sys2Proof/Machine/Transmit.lean ====
section
/-! DEFINITION. What the device's transmitter sends in a row-time: blocks and skip rows (R74, R75), training sets (R104, R105), the choice of R167, tablets paid for new packets (R122), sequence numbers and replay (R145 to R150). -/
namespace Sys2Proof.Machine

/-! ### Training contents -/

/-- Pages of a set type (R108). -/
def setPages (ty : Byte) : Nat :=
  match ty.toNat with
  | 0x21 => 3 | 0x31 => 4 | 0x41 => 2 | 0x61 => 5 | 0x62 => 5 | _ => 1

/-- The flags of TS1 and TS2 over the lanes usable in this attempt: CAL_DONE, SYM_LOCK, BLK_LOCK, DESKEWED (R108). -/
def State.tsFlags (s : State) (t : Nat) : Nat :=
  let use := s.usableLanes t
  b2n (use.all fun p => (s.rxLane t p).settled) + 2 * b2n (use.all fun p => s.flag Fld.TRK_LANE_STATUS_SYM_LOCK t p) +
  4 * b2n (use.all fun p => s.flag Fld.TRK_LANE_STATUS_BLK_LOCK t p) + 8 * b2n (s.trk t).trn.deskewed

/-- The content bytes of the set a track sends in a training phase (R108, R113, R115, R117). -/
def State.contentOf (s : State) (t : Nat) : List Byte :=
  let x := (s.trk t).trn
  let n8 (n : Nat) : Byte := BitVec.ofNat 8 n
  let map (m : List Nat) : List Byte := (List.range 16).map fun p => n8 (m.getD p p)
  match x.setType.toNat with
  | 0x21 => s.capNow t
  | 0x31 => map x.rxMap ++ map x.txMap ++ natBytes 3 (s.txBad t)
  | 0x41 =>
    let res := s.fld Fld.TRK_TRAIN_STATUS_SESSION t = 1 ∧ ¬ x.fresh
    [if res then 2 else 1, n8 (s.fld Fld.TRK_PKT_SEQ_RX_LAST t),
     n8 (b2n (!(s.trk t).ses.rxRec.isEmpty && res))] ++
    natBytes 2 (if res then (s.trk t).ses.grantReq else s.fld Fld.TRK_GRANT_CFG_REQ t) ++
    natBytes 2 (if res then (s.trk t).ses.grantData else s.fld Fld.TRK_GRANT_CFG_DATA t) ++
    natBytes 2 (s.fld Fld.TRK_TAG_PART_BASE t) ++ natBytes 2 (s.fld Fld.TRK_TAG_PART_COUNT t)
  | 0x51 => []
  | _ => [n8 t, n8 (s.tsFlags t), n8 (s.fld Fld.TRK_TRAIN_STATUS_ATTEMPT t), n8 (s.fld Fld.TRK_TRAIN_STATUS_FAIL_REASON t)]

/-- Bytes S2 to S13 of a set on a lane (R105). -/
def setBody (ty : Byte) (lane page : Nat) (ack last : Bool) (content : List Byte) : List Byte :=
  [ty, BitVec.ofNat 8 lane, BitVec.ofNat 8 (page + 16 * b2n ack + 32 * b2n last)] ++
  (List.range 9).map fun i => content.getD (9 * page + i) 0

/-- Symbol k of a set on a lane (R105): TSS, COM, the body, the check byte. -/
def setSym (ty : Byte) (lane page : Nat) (ack last : Bool) (content : List Byte) (k : Nat) : Sym :=
  if k = 0 then .ctl .tss
  else if k = 1 then .ctl .com
  else
    let body := setBody ty lane page ack last content
    if k = 14 then .data (body.foldl (· ^^^ ·) 0xA5) else .data (body.getD (k - 2) 0)

/-! ### Sending packets -/

/-- The header-only fields of a packet the device sends; returns as given. -/
def Resp.pkt (r : Resp) (seq : Byte) (rr rd : Nat) : Pkt :=
  { typ := r.typ, tag := r.tag, master := r.master, len := BitVec.ofNat 4 r.data.length, addr := r.addr
    seq := seq, retReq := BitVec.ofNat 4 rr, retData := BitVec.ofNat 6 rd, data := r.data }

/-- Tablets a response or bulletin costs: one request-class and LEN data (R122). -/
def Resp.affordable (s : State) (t : Nat) (r : Resp) : Bool :=
  s.fld Fld.TRK_POOL_TX_REQ_FREE t ≥ 1 && s.fld Fld.TRK_POOL_TX_DATA_FREE t ≥ r.data.length

/-- ACK_SEQ and NAK of the moment (R146, R148). -/
def State.ackNow (s : State) (t : Nat) : Byte × Bool :=
  (BitVec.ofNat 8 (s.fld Fld.TRK_PKT_SEQ_RX_LAST t), (s.trk t).rx.nak)

/-- Put a packet's header on the lanes: its tail lamp covers the payload before it, and its own payload rows follow (R140, R150). -/
def State.putHeader (s : State) (t : Nat) (p : Pkt) : State × BitVec 128 :=
  let (ack, nak) := s.ackNow t
  let row := p.header (s.trk t).tx.tail ack nak
  (s.modTx t fun x => { x with
    rows := p.payload, tail := tailInit, lamp := false, ackDue := false, respOut := false }, row)

/-- Account for a sequenced packet sent for the first time: the next SEQ, the replay buffer, tablets paid, returns sent, census counters and their record, the tag it closes (R122, R125, R127, R145). -/
def State.sendFirst (s : State) (t : Nat) (r : Resp) (rr rd : Nat) (cr cd : Nat) : State × BitVec 128 :=
  let seq := BitVec.ofNat 8 (s.fld Fld.TRK_PKT_SEQ_TX_NEXT t)
  let p := r.pkt seq rr rd
  let closes := b2n (r.typ = 0x10 || r.typ = 0x11 || r.typ = 0x12)
  let s := s.setFld Fld.TRK_PKT_SEQ_TX_NEXT (seq.toNat + 1) t
  let s := s.setFld Fld.TRK_PKT_SEQ_UNACKED (s.fld Fld.TRK_PKT_SEQ_UNACKED t + 1) t
  let s := s.bump Fld.TRK_PKT_TX_COUNT_COUNT t
  let s := s.setFld Fld.TRK_POOL_TX_REQ_FREE (s.fld Fld.TRK_POOL_TX_REQ_FREE t - cr) t
  let s := s.setFld Fld.TRK_POOL_TX_DATA_FREE (s.fld Fld.TRK_POOL_TX_DATA_FREE t - cd) t
  let s := s.setFld Fld.TRK_POOL_RX_REQ_HELD (s.fld Fld.TRK_POOL_RX_REQ_HELD t - rr) t
  let s := s.setFld Fld.TRK_POOL_RX_DATA_HELD (s.fld Fld.TRK_POOL_RX_DATA_HELD t - rd) t
  let s := s.setFld Fld.TRK_CENSUS_STATUS_TAGS_OPEN (s.fld Fld.TRK_CENSUS_STATUS_TAGS_OPEN t - closes) t
  let s := if r.ord = 0 then s else s.dropTag r.ord
  let s := s.modTrk t fun x =>
    let c := x.ses.counts
    let c := { c with txr := add32 c.txr cr, txd := add32 c.txd cd, rrr := add32 c.rrr rr
                      rrd := add32 c.rrd rd, iss := add32 c.iss closes }
    { x with
      ses := { x.ses with counts := c
                          txRec := ({ seq := seq, a := c.txr, b := c.txd, c := c.iss } :: x.ses.txRec).take 256 }
      tx := { x.tx with replay := x.tx.replay ++ [p], busy := true } }
  s.putHeader t p

/-- Returns that fit the next header: at most 15 and 63 (R124). -/
def State.takeReturns (s : State) (t : Nat) : State × Nat × Nat :=
  let x := (s.trk t).tx
  let rr := min 15 x.retReq
  let rd := min 63 x.retData
  (s.modTx t fun y => { y with retReq := x.retReq - rr, retData := x.retData - rd, retDue := false, retRows := 0 }, rr, rd)

/-- Send a response or bulletin as a new packet; a response keeps its place of the response buffer until its last row (R180). -/
def State.sendResp (s : State) (t : Nat) (r : Resp) : State × BitVec 128 :=
  let (s, rr, rd) := s.takeReturns t
  let (s, row) := s.sendFirst t r rr rd 1 r.data.length
  (s.modTx t fun x => { x with respOut := r.ord != 0 && !x.rows.isEmpty }, row)

/-- An unsequenced NUL: SEQ is that of the last sequenced packet sent (R145). -/
def State.sendIdle (s : State) (t : Nat) : State × BitVec 128 :=
  s.putHeader t { typ := 0, seq := BitVec.ofNat 8 (s.fld Fld.TRK_PKT_SEQ_TX_NEXT t + 255) }

/-- Whether the sender may send another sequenced packet (R147). -/
def State.mayNumber (s : State) (t : Nat) : Bool := s.fld Fld.TRK_PKT_SEQ_UNACKED t < 255

/-! ### Bulletins on their way out (R406, R408, R165) -/

/-- The 64 bytes of a bulletin record (R406). -/
def BulRec.bytes (r : BulRec) (trunc : Bool) : List Byte :=
  let (tr, ms, tg) := r.info.req.getD (0, 0, 0)
  let (ch, la, ba, ro, co) := r.info.loc.getD (0, 0, 0, 0, 0)
  let b (n : Nat) : Byte := BitVec.ofNat 8 n
  [b r.src.index,
   b (r.cls + 4 * b2n r.urgent + 8 * b2n r.held + 16 * b2n r.info.haddr.isSome + 32 * b2n r.info.loc.isSome +
      64 * b2n r.info.req.isSome + 128 * b2n r.esc),
   b r.info.access, b ms] ++ natBytes 2 tg ++ [b tr, b (b2n trunc)] ++ natBytes 8 r.time ++
  natBytes 4 r.info.detail ++ natBytes 4 r.folded ++ natBytes 8 0 ++ natBytes 8 (r.info.haddr.getD 0) ++
  natBytes 8 (ch * 2 ^ 30 + la * 2 ^ 25 + ba * 2 ^ 20 + ro * 2 ^ 5 + co) ++ natBytes 16 0

/-- A 32-byte unit from bytes. -/
def unitOf (bs : List Byte) : Unit32 := BitVec.ofNat 256 (ofBytesLE bs)

/-- The packet of a bulletin on a track: LEN 2 with an address or location, shortened where the host takes only 1 (R165, R406). -/
def State.bulResp (s : State) (t : Nat) (r : BulRec) (num : Nat) : Resp :=
  let two := r.info.haddr.isSome || r.info.loc.isSome
  let trunc := two && s.fld Fld.TRK_TRAIN_STATUS_MAX_LEN t = 1
  let bs := r.bytes trunc
  { typ := 0x13, addr := BitVec.ofNat 32 (num + 256 * b2n r.urgent), crs := r.crs
    data := unitOf (bs.take 32) :: (if two && !trunc then [unitOf (bs.drop 32)] else []) }

/-- The bulletin number of STATUS.BUL_NUM, taken. -/
def State.takeBulNum (s : State) : State × Nat :=
  let n := s.fld Fld.FLT_STATUS_BUL_NUM
  (s.setFld Fld.FLT_STATUS_BUL_NUM (n + 1), n)

/-- Move the oldest urgent bulletin to every READY track, under one number (R408). -/
def State.pullUrgent (s : State) : State :=
  match s.box.urg with
  | [] => s
  | r :: rest =>
    let (s, n) := s.takeBulNum
    let s := { s with box := { s.box with urg := rest } }
    s.upTo 32 fun u s => if s.linkIs u .ready then
      s.modTx u fun x => { x with urg := x.urg ++ [s.bulResp u r n] } else s

/-- The track a maskable bulletin goes out on (R407). -/
def State.bulTrack (s : State) : Option Nat :=
  let p := s.fld Fld.FLT_BUL_CFG_TRACK
  if s.linkIs p .ready then some p else s.readyTracks.head?

/-- Give the oldest maskable bulletin to its track. -/
def State.pullMask (s : State) (t : Nat) : State :=
  match s.box.bul with
  | [] => s
  | r :: rest =>
    if s.bulTrack = some t then
      let (s, n) := s.takeBulNum
      ({ s with box := { s.box with bul := rest } }).modTx t fun x => { x with bul := x.bul ++ [s.bulResp t r n] }
    else s

/-! ### The choice of a data row (R167) -/

/-- Whether a response is a FEN's that waits for the responses of earlier requests of its master on its track (R164). -/
def State.fenceHolds (s : State) (ord : Nat) : Bool :=
  match s.openTag ord with
  | none => false
  | some f => f.fen && s.tags.any fun o => o.ord < ord && o.track = f.track && o.master = f.master && !o.zero

/-- Count the bytes of a graded request when its response is sent (R222). -/
def State.countBytes (s : State) (r : Resp) : State :=
  if r.bytes = 0 then s else
  let m := r.master.toNat
  let f := if r.write then Fld.BWR_MBYTES_WR_BYTES else Fld.BWR_MBYTES_RD_BYTES
  s.setFld f (s.fld f 0 m + r.bytes) 0 m

/-- Item 2 of R167: the replay in progress, or NUL headers to the end of the block before it (R149). -/
def State.sendReplay (s : State) (t : Nat) (n : Byte) : State × BitVec 128 :=
  let x := (s.trk t).tx
  if x.repWait then s.sendIdle t
  else match x.replay.find? fun p => p.seq = n with
    | some p =>
      let more := x.replay.any fun q => q.seq = n + 1
      (s.modTx t fun y => { y with rep := if more then some (n + 1) else none, busy := true }).putHeader t p
    | none => (s.modTx t fun y => { y with rep := none }).sendIdle t

/-- Item 3: a marked NUL (R166). -/
def State.sendMarked (s : State) (t : Nat) : Option (State × BitVec 128) :=
  match (s.trk t).tx.marked with
  | [] => none
  | d :: rest => some <| (s.modTx t fun y => { y with marked := rest }).sendFirst t
      { typ := 0, addr := BitVec.ofNat 32 (2 ^ 31 + d.tag.toNat * 256 + d.seq.toNat) } d.req d.data 0 0

/-- Item 4: an urgent bulletin, where its tablets are there (R122, R165). -/
def State.sendUrgent (s : State) (t : Nat) : Option (State × BitVec 128) :=
  match (s.trk t).tx.urg with
  | [] => none
  | r :: rest => if r.affordable s t then some ((s.modTx t fun y => { y with urg := rest }).sendResp t r) else none

/-- Item 5: the oldest response that no fence holds, where its tablets are there (R122, R164). -/
def State.sendOldest (s : State) (t : Nat) : Option (State × BitVec 128) :=
  match (s.trk t).tx.resp.find? fun r => !(s.fenceHolds r.ord) with
  | none => none
  | some r =>
    if r.affordable s t then some ((s.modTx t fun y => { y with resp := y.resp.erase r }).countBytes r |>.sendResp t r) else none

/-- Item 6: a maskable bulletin, where its tablets are there (R122, R165). -/
def State.sendBulletin (s : State) (t : Nat) : Option (State × BitVec 128) :=
  match (s.trk t).tx.bul with
  | [] => none
  | r :: rest => if r.affordable s t then some ((s.modTx t fun y => { y with bul := rest }).sendResp t r) else none

/-- Item 7: a NUL for returns that are due (R124). -/
def State.sendReturn (s : State) (t : Nat) : Option (State × BitVec 128) :=
  if (s.trk t).tx.retDue ∧ (s.trk t).tx.owes then
    let (s, rr, rd) := s.takeReturns t
    some (s.sendFirst t { typ := 0 } rr rd 0 0)
  else none

/-- Bulletins that wait in the signal box come to the track when it has none of their kind (R407, R408). -/
def State.pullBulletins (s : State) (t : Nat) : State :=
  let s := if (s.trk t).tx.urg = [] then s.pullUrgent else s
  if (s.trk t).tx.bul = [] then s.pullMask t else s

/-- The next header to send when no packet is open: the first item of R167 that can be sent now. -/
def State.chooseHeader (s : State) (t : Nat) : State × BitVec 128 :=
  match (s.trk t).tx.rep with
  | some n => s.sendReplay t n
  | none =>
    if ¬ s.mayNumber t then s.sendIdle t else
    let s := s.pullBulletins t
    match s.sendMarked t with
    | some r => r
    | none => match s.sendUrgent t with
      | some r => r
      | none => match s.sendOldest t with
        | some r => r
        | none => match s.sendBulletin t with
          | some r => r
          | none => match s.sendReturn t with
            | some r => r
            | none => s.sendIdle t

/-- The next data row: the open packet's remainder first (R167 item 1). -/
def State.dataRow (s : State) (t : Nat) : State × BitVec 128 :=
  match (s.trk t).tx.rows with
  | r :: rest => (s.modTx t fun x => { x with
      rows := rest, tail := tailCrc x.tail (rowBytes r), lamp := true, respOut := x.respOut && !rest.isEmpty }, r)
  | [] => s.chooseHeader t

/-! ### Rows onto lanes -/

/-- A message of NONE with zero fields (R86). -/
def noMsg : List Byte := [0, 0, 0, 0x5A]

/-- REJ, or else REQ while no ACK is accepted, as the device sends them; NONE without either (R88; log entry 124). -/
def Trk.asks (x : Trk) : List Byte :=
  match x.rej, x.spY with
  | some m, _ => mgmtBytes 0x03 m
  | none, some y =>
    if y.acked then noMsg else mgmtBytes 0x01 { pos := ⟨y.pos % 16, by omega⟩, spare := y.spare, target := y.target }
  | none, none => noMsg

/-- The lane management message of a standby transmit spare in this block (R86 to R88): ACK on the target of a sparing; the device's REJ or REQ on the lowest other standby spare; NONE elsewhere (log entry 125). -/
def State.spareMsg (s : State) (t : Nat) (sp : Bool) : List Byte :=
  let x := s.trk t
  let target (b : Bool) : Bool := x.spX.any fun z => z.spare = b
  let free (b : Bool) : Bool := s.spareIs t true b .standby && !target b
  match x.spX with
  | some z =>
    if z.spare = sp then mgmtBytes 0x02 { pos := ⟨z.pos % 16, by omega⟩, spare := z.spare, target := z.target }
    else if free sp ∧ ¬ (sp ∧ free false) then x.asks else noMsg
  | none => if free sp ∧ ¬ (sp ∧ free false) then x.asks else noMsg

/-- What a spare lane carries in a row (R86, R88): a copy of its position once serving, otherwise headers, the management message in rows 1 to 4, the row index after. -/
def State.spareSym (s : State) (t : Nat) (sp : Bool) (kind : TxKind) (row : Nat) (ys : List Sym) : Sym :=
  if s.spareIs t true sp .active then ys.getD (s.fld (sparePosFld true sp) t) .viol
  else match kind with
    | .header => .ctl .com
    | .skip => .ctl .skp
    | .eie => .ctl .eie
    | .wake => .ctl .com
    | _ => if 1 ≤ row ∧ row ≤ 4 then .data ((s.spareMsg t sp).getD (row - 1) 0) else .data (BitVec.ofNat 8 row)

/-- The symbol of a lane in a driven row: of a training set where the lane carries one, else of its position or spare (R68, R86, R105). -/
def State.laneSym (s : State) (t : Nat) (kind : TxKind) (row : Nat) (ys : List Sym) (sets : Option (Nat → Sym)) (p : Nat) : Sym :=
  let spare := s.spareSym t (p = 17) kind row ys
  match sets with
  | some g => if p < 16 ∨ s.linkIs t .training ∨ s.spareIs t true (p = 17) .active then g p else spare
  | none => if p < 16 then ys.getD p .viol else spare

/-- Whether a lane is driven with the code: all 18 in training phases 1 to 7; otherwise not a retired lane and not a spare in TEST (R88, R91, R105). -/
def State.drives (s : State) (t p : Nat) : Bool :=
  (s.linkIs t .training && s.fld Fld.TRK_TRAIN_STATUS_PHASE t ≤ 7) ||
  !((s.fld Fld.TRK_SPARE_TX_RETIRED t).testBit p || (p ≥ 16 && s.spareIs t true (p = 17) .test))

/-- Encode a row on the 18 lanes and record it as sent (R68, R69). `ys`: the 16 positions; `sets`: a training row, the same on every lane but for the lane's own bytes. -/
def State.emit (s : State) (t : Nat) (kind : TxKind) (row : Nat) (ys : List Sym) (sets : Option (Nat → Sym)) : State :=
  let step (acc : State × List (BitVec 10)) (p : Nat) : State × List (BitVec 10) :=
    let (s, y) := if s.drives t p then acc.1.txSymbol t p (kind = .header) (s.laneSym t kind row ys sets p) else acc.1.txPrbs t p
    (s, acc.2 ++ [y])
  let (s', syms) := (List.range 18).foldl step (s, [])
  let bytes := ys.map fun y => match y with
    | .data b => b
    | _ => 0
  s'.modTx t fun x => { x with out := { kind := kind, bytes := bytes, syms := syms } }

/-- The next row of a direction that has been idle is a block header: of the block that follows the one cut short, if one was. -/
def TxState.cut (x : TxState) : TxState := { x with row := if x.row = 0 then 0 else 257, slotLeft := 0 }

/-- Lanes of a track with nothing to send: electrical idle; on a disabled track PRBS where a generator is enabled (R92, R98, R99). -/
def State.emitIdle (s : State) (t : Nat) : State :=
  let gen := s.linkIs t .disabled
  let (s, syms) := (List.range 18).foldl (fun (acc : State × List (BitVec 10)) p =>
    if gen then
      let (s, y) := acc.1.txPrbs t p
      (s, acc.2 ++ [y])
    else (acc.1.setTxLane t p { acc.1.txLane t p with on := false }, acc.2 ++ [0])) (s, [])
  s.modTx t fun x => { x.cut with out := { kind := .idle, bytes := [], syms := syms } }

/-- A row of control symbols on all positions. -/
def ctlRow (k : Ctl) : List Sym := List.replicate 16 (.ctl k)

/-- The guard interval at a block header: it begins with the first row of a replay and counts blocks (R149). -/
def TxState.nextGuard (x : TxState) (begins : Bool) (len : Nat) : Option (Byte × Nat) :=
  if begins then x.rep.map fun n => (n - 1, len)
  else match x.guard with
    | some (n, k) => if k ≤ 1 then none else some (n, k - 1)
    | none => none

/-- A block begins: its header row, and the counts kept in blocks (R74, R93, R128, R149). A replay that waits begins here once the open packet is finished. -/
def State.emitHeader (s : State) (t : Nat) (blk : Byte) : State :=
  let s := s.modTrk t fun y =>
    let x := y.tx
    let begins := x.repWait && x.rows.isEmpty
    { y with
      cen := { y.cen with blocks := y.cen.blocks + 1 }
      tx := { x with
        blk := blk, row := 1, slotLeft := 0
        repWait := x.repWait && !begins
        guard := x.nextGuard begins (s.fld Fld.TRK_PKT_CFG_REPLAY_GUARD t)
        ackBlk := if x.replay.isEmpty then 0 else x.ackBlk + 1
        idle := if x.busy then 0 else x.idle + 1
        busy := false } }
  s.emit t .header 0 (List.replicate 15 (.ctl .com) ++ [.data blk]) none

/-- A content of a READY track has been sent in whole, its page cycle twice (R106): the next may follow; the device's own FOV is out, and the session moves where the host's is accepted (R131). -/
def State.setSent (s : State) (t : Nat) : State :=
  let q := (s.trk t).trn.queue
  let s := s.modTrn t fun x => { x with set := [], queue := x.queue.drop 1 }
  match q with
  | .fov u :: _ =>
    let s := s.modFov u fun x => { x with sent := true }
    match (s.trk u).fov.got with
    | some r => s.moveSession u t r
    | none => s
  | _ => s

/-- The first slot of a content of a READY track: its values are taken now (R116, R128, R130). -/
def State.beginSet (s : State) (t : Nat) : State :=
  let start (s : State) (ty : SetType) (bs : List Byte) : State :=
    s.modTrk t fun x => { x with
      trn := { x.trn with set := bs, setType := ty.code, mine := false }, tx := { x.tx with page := 0, slots := 0 } }
  if (s.trk t).trn.set ≠ [] then s else
  match (s.trk t).trn.queue with
  | [] => s
  | .cap :: _ => start s .cap (s.capNext t)
  | .cen :: _ =>
    let s := s.takeCut t
    start s .cen (((s.trk t).cen.cut.map CenContent.bytes).getD [])
  | .fov u :: _ => start s .fov (s.fovBytes u)

/-- The slot to be sent next, fixed at its first row (R105). -/
def State.slotNow (s : State) (t : Nat) : SlotTx :=
  let x := s.trk t
  let pages := setPages x.trn.setType
  let page := x.tx.page % pages
  { typ := x.trn.setType, page := page, ack := x.trn.mine, last := page + 1 = pages
    bytes := if s.linkIs t .ready then x.trn.set else s.contentOf t }

/-- The last row of a slot has been sent: the next page; a READY track's content ends after two cycles; the fourth RDY slot after the peer's RDY makes the track READY (R106, R110). -/
def State.slotSent (s : State) (t : Nat) : State :=
  let z := (s.trk t).tx.slot
  let s := s.modTx t fun y => { y with page := y.page + 1, slots := y.slots + 1 }
  if s.linkIs t .ready then (if (s.trk t).tx.slots ≥ 2 * setPages z.typ then s.setSent t else s)
  else if z.typ = SetType.rdy.code ∧ s.inPhase t 8 then
    match (s.trk t).trn.rdy with
    | some n => if n ≥ 3 then s.becomeReady t else s.modTrn t fun x => { x with rdy := some (n + 1) }
    | none => s
  else s

/-- A row of a training slot (R104, R105). -/
def State.emitSet (s : State) (t : Nat) : State :=
  let k := ((s.trk t).tx.row - 1) % 15
  let s := if k = 0 then
      let s := if s.linkIs t .ready then s.beginSet t else s
      let z := s.slotNow t
      s.modTx t fun x => { x with slot := z }
    else s
  let z := (s.trk t).tx.slot
  let s := s.emit t .train (s.trk t).tx.row [] (some fun lane => setSym z.typ lane z.page z.ack z.last z.bytes k)
  let s := s.modTx t fun x => { x with row := x.row + 1, slotLeft := 14 - k, busy := true }
  if k = 14 then s.slotSent t else s

/-- A data row of the stream (R141, R167). -/
def State.emitData (s : State) (t : Nat) (pick : State → State × BitVec 128) : State :=
  let (s, r) := pick s
  let s := s.emit t .data (s.trk t).tx.row ((rowBytes r).map .data) none
  s.modTx t fun x => { x with row := x.row + 1 }

/-- A row of the open packet, or the NUL header that follows it (R126, R141). -/
def State.finishRow (s : State) (t : Nat) : State × BitVec 128 :=
  if (s.trk t).tx.rows = [] then s.sendIdle t else s.dataRow t

/-- The row a track in training sends: what it finishes first, up to a slot boundary; then sets alone (R104, R126). -/
def State.trainRow (s : State) (t : Nat) : State :=
  let x := (s.trk t).tx
  let atSlot := (x.row - 1) % 15 = 0
  if x.finish ∧ x.slotLeft = 0 ∧ ¬ (atSlot ∧ x.rows = [] ∧ ¬ x.lamp) then s.emitData t fun s => s.finishRow t
  else (s.modTx t fun y => { y with finish := false }).emitSet t

/-- The row a READY track sends: a slot in progress; a content that waits, from a slot boundary on with no packet open; else the stream (R104, R167). -/
def State.readyRow (s : State) (t : Nat) : State :=
  let x := s.trk t
  if x.tx.slotLeft > 0 then s.emitSet t
  else if (x.trn.queue ≠ [] ∨ x.trn.set ≠ []) ∧ x.tx.rows = [] ∧ x.tx.rep.isNone then
    if (x.tx.row - 1) % 15 = 0 ∧ ¬ x.tx.lamp then s.emitSet t else s.emitData t fun s => s.sendIdle t
  else s.emitData t fun s => s.dataRow t

/-- Row-times a return has waited (R124). -/
def TxState.waited (x : TxState) : TxState := { x with retRows := if x.owes then x.retRows + 1 else 0 }

/-- One row-time of a driven direction: a wake row, a block header, a skip row after every eighth block, or a row of the block (R74, R75, R95). -/
def State.txRow (s : State) (t : Nat) : State :=
  let x := (s.trk t).tx
  if x.wake > 0 then (s.emit t .wake 0 (ctlRow .com) none).modTx t fun y => { y with wake := y.wake - 1 }
  else if x.row = 0 then s.emitHeader t x.blk
  else if x.row ≥ 256 then
    if x.row = 256 ∧ x.blk.toNat % 8 = 7 then
      (s.emit t .skip 0 (ctlRow .skp) none).modTx t fun y => { y with row := 257 }
    else s.emitHeader t (x.blk + 1)
  else if s.linkIs t .training then s.trainRow t
  else s.readyRow t

/-- PACKET_TRANSMIT: one row-time of a track's transmitter. -/
def execPacketTransmit (t : TrackIx) (s : State) : Out :=
  .next <|
  if s.resetting ∨ s.linkIs t .disabled ∨ s.linkIs t .down ∨
      s.fld Fld.TRK_LSTATE_TX_STATE t = 1 ∨ s.fld Fld.TRK_LSTATE_TX_STATE t = 3 then s.emitIdle t
  else (s.modTx t TxState.waited).txRow t

/-! ### L1 and L3 (R93 to R96) -/

/-- Something waits to be sent on a track: packets, bulletins, an acknowledgement, returns, a census or another content (R93, R96). -/
def State.toSend (s : State) (t : Nat) : Bool :=
  let x := s.trk t
  !x.tx.resp.isEmpty || !x.tx.late.isEmpty || !x.tx.urg.isEmpty || !x.tx.marked.isEmpty || !x.tx.bul.isEmpty || !s.box.urg.isEmpty ||
  (!s.box.bul.isEmpty && s.bulTrack = some t) || x.tx.ackDue || x.tx.owes || x.tx.rep.isSome || x.rx.nak ||
  !x.trn.queue.isEmpty || !x.trn.set.isEmpty || x.tx.slotLeft > 0

/-- Whether the transmitter may enter L1 (R93). -/
def State.mayEnterL1 (s : State) (t : Nat) : Bool :=
  let x := (s.trk t).tx
  s.inState .nap && s.linkIs t .ready && s.flag Fld.TRK_LSTATE_L1_EN t &&
  s.fld Fld.TRK_LSTATE_TX_STATE t = 0 && x.idle ≥ s.fld Fld.TRK_LSTATE_L1_IDLE t &&
  !x.lamp && x.rows.isEmpty && x.replay.isEmpty && !s.toSend t

/-- An EIE row with the state it enters, encoded on the lanes; the open block ends with it (R94). -/
def State.sendEie (s : State) (t st : Nat) : State :=
  let s := s.emit t .eie 0 (List.replicate 15 (.ctl .eie) ++ [.data (BitVec.ofNat 8 st)]) none
  (s.setFld Fld.TRK_LSTATE_TX_STATE st t).modTx t fun x => { x with row := 257, leave := false, wake := 0 }

/-- TX_L1_ENTRY: an EIE row with target L1, then electrical idle; the open block ends without its skip row (R93 to R95). -/
def execTxL1Entry (t : TrackIx) (s : State) : Out :=
  .next <| if s.mayEnterL1 t then s.sendEie t 1 else s

/-- TX_L1_EXIT: with something to send, NAP ended or the host's direction out of L1, the drivers start with negative disparity and a wake run of 256 rows begins (R72, R95, R96). -/
def execTxL1Exit (t : TrackIx) (s : State) : Out :=
  .next <| if s.fld Fld.TRK_LSTATE_TX_STATE t = 1 ∧ (s.toSend t ∨ ¬ s.inState .nap ∨ (s.trk t).tx.leave) then
    (s.setFld Fld.TRK_LSTATE_TX_STATE 0 t).modTrk t fun x => { x with
      lanesTx := x.lanesTx.map fun e => (e.1, { e.2 with on := false })
      tx := { x.tx with wake := 256, idle := 0, leave := false } }
  else s

/-- Row-times until the open packet of a track is finished and followed by a header; at most n (R141). -/
def State.finishOpen (t : Nat) : Nat → State → State
  | 0, s => s
  | n + 1, s =>
    let x := (s.trk t).tx
    if x.rows = [] ∧ ¬ x.lamp ∧ x.slotLeft = 0 then s
    else State.finishOpen t n (
      if x.row ≥ 256 ∨ x.row = 0 ∨ x.slotLeft > 0 then s.txRow t else s.emitData t fun s => s.finishRow t)

/-- The L3 EIE row of a track, once its open packet is finished (R94, R141, R458 step 5). -/
def State.sendL3 (s : State) (t : Nat) : State := (State.finishOpen t 40 s).sendEie t 3

end Sys2Proof.Machine
end

