-- ==== Sys2Proof/Machine/Turntable.lean ====
section
/-! DEFINITION. The turntable (R176 to R183) and the engine events around it: drained, BLOCK reset done, takeover (R203 to R205, R353). -/
namespace Sys2Proof.Machine

/-! ### Offers (R176, R177) -/

/-- Whether two buffered requests share a 32-byte unit. -/
def Pkt.shares (p q : Pkt) : Bool :=
  p.addr.toNat < q.addr.toNat + q.len.toNat && q.addr.toNat < p.addr.toNat + p.len.toNat

/-- Whether a request of a track request buffer is held: behind a FEN of its master on the track that carries it, or behind an earlier request of its master that shares a unit (R177, R178). -/
def State.heldBehind (s : State) (before : List BufEnt) (e : BufEnt) : Bool :=
  s.fenceBefore e.ord ||
  before.any fun y => y.pkt.master = e.pkt.master && (pktType y.pkt.typ).isMem && y.pkt.shares e.pkt

/-- Whether the turntable answers RETRY for a channel: explicit test, EN 0, not yet out of self-refresh in this start, PARK being entered, containment of the address map (R179, R448, R458, R508). -/
def State.retries (s : State) (c : Nat) : Bool :=
  (s.chan c).test || !s.flag Fld.CHN_CTL_EN c || !(s.chan c).exited || s.inState .entering || s.fab.ucHold

/-- Whether a request of track t to channel c can be delivered now: no BLOCK reset, no takeover, room in the queue and a latency known; where RETRY is its answer, room for that answer (R177, R179, R180, R204, R205, R208). -/
def State.takes (s : State) (t c : Nat) : Bool :=
  let x := s.chan c
  if s.retries c then (s.trk t).tx.hasRoom
  else !x.resetting && x.swap.isNone && x.q.length < 256 && s.fld Fld.CHN_LAT_RD_LAT c != 0

/-- The first request a track can offer, but for those refused in this cycle. -/
def State.offerOf (s : State) (t : Nat) (refused : List Nat) : Option BufEnt :=
  let rec go : List BufEnt → List BufEnt → Option BufEnt
    | _, [] => none
    | before, e :: rest =>
      if (pktType e.pkt.typ).isMem ∧ ¬ refused.contains e.ord ∧ s.takes t e.chan ∧ ¬ s.heldBehind before e then some e
      else go (before ++ [e]) rest
  go [] (s.trk t).ses.buf

/-- The kind of a request's queue entry. -/
def entKind (p : Pkt) : EntKind :=
  match pktType p.typ with
  | .rd => .rd | .wr => .wr | _ => .wrm

/-- The queue entry of a request (R181). -/
def BufEnt.ent (e : BufEnt) (track : Nat) : Ent := {
  ord := e.ord, kind := entKind e.pkt, track := track, master := e.pkt.master.toNat, tag := e.pkt.tag.toNat
  unit := e.pkt.addr.toNat, len := e.pkt.len.toNat, mask := e.pkt.mask, data := e.pkt.data
  wagon := e.pkt.addr.toNat / 128, grade := e.grade, lines := e.lines }

/-- An entry with the bytes its write lines carry (R197, R198). -/
def Ent.loaded (e : Ent) : Ent :=
  if e.kind = .rd then e else { e with lines := e.lines.map fun l => if l.rmw then l else { l with got := e.mergeLine l.ln 0 } }

/-- The data tablets a request's payload holds (R122, R181). -/
def Pkt.payloadTablets (p : Pkt) : Nat :=
  match pktType p.typ with
  | .wr => p.len.toNat
  | .wrm => p.len.toNat + 1
  | .rwr => p.len.toNat
  | _ => 0

/-- A request leaves the track request buffer: its tablets are due for return (R123). -/
def State.leaveBuf (s : State) (t : Nat) (e : BufEnt) : State :=
  (s.modSes t fun x => { x with buf := x.buf.filter fun y => y.ord != e.ord }).returnFor t e.ord 1 e.pkt.payloadTablets

/-- A granted request: into the queue, or answered RETRY (R176, R179, R181). -/
def State.grant (s : State) (t : Nat) (e : BufEnt) : State :=
  let s := s.leaveBuf t e
  if s.retries e.chan then
    s.respond e.ord (respType e.pkt) Status.retry.code (if s.fab.ucHold then 0 else e.chan)
  else s.modChan e.chan fun x => { x with q := x.q ++ [(e.ent t).loaded] }

/-- What a cycle has done so far: offers made by track, grants by channel, refused requests. -/
structure CycleLog where
  offers : List Nat := []
  grants : List Nat := []
  refused : List Nat := []

/-- Tracks in grant order of a channel: after the last it granted (R176). -/
def rrOrder (last : Nat) (ts : List Nat) : List Nat := (ts.filter fun t => t > last) ++ ts.filter fun t => t ≤ last

/-- One round of offers: every track that has made fewer than two offers in the cycle makes one, of the first request it can; each channel grants up to two a cycle and refuses the others for the cycle. -/
def State.round (s : State) (w : CycleLog) : State × CycleLog :=
  let cands := (List.range 32).filterMap fun t =>
    if w.offers.count t ≥ 2 then none else (s.offerOf t w.refused).map fun e => (t, e)
  let chans := (cands.map fun e => e.2.chan).eraseDups
  chans.foldl (fun (acc : State × CycleLog) c =>
    let (s, w) := acc
    let here := cands.filter fun e => e.2.chan = c
    let room := min (2 - w.grants.count c) (256 - (s.chan c).q.length)
    let order := rrOrder (s.chan c).rr (here.map fun e => e.1)
    let won := order.take room
    let s := won.foldl (fun s t =>
      match here.find? fun e => e.1 = t with
      | some e => (s.grant t e.2).modChan c fun x => { x with rr := t }
      | none => s) s
    (s, { offers := (here.map fun e => e.1) ++ w.offers
          grants := won.map (fun _ => c) ++ w.grants
          refused := ((here.filter fun e => !(won.contains e.1)).map fun e => e.2.ord) ++ w.refused })) (s, w)

/-- Rounds until no track has an offer left: two at most. -/
def State.rounds : Nat → State → CycleLog → State
  | 0, s, _ => s
  | n + 1, s, w =>
    if (List.range 32).all fun t => w.offers.count t ≥ 2 || (s.offerOf t w.refused).isNone then s
    else
      let r := s.round w
      State.rounds n r.1 r.2

/-- Entries that entered in this cycle in queue order: by track, then as accepted (R183). -/
def sortNew (old : Nat) (q : List Ent) : List Ent :=
  q.take old ++ sortBy (fun a b => a.track < b.track || (a.track = b.track && a.ord ≤ b.ord)) (q.drop old)

/-! ### Responses into the tracks (R180) -/

/-- Move a finished entry's response to its track once it is offered and there is room; the entry is freed (R180, R181, R195). -/
def State.moveOut (s : State) (c : Nat) (e : Ent) : State :=
  match e.res with
  | none => s
  | some r =>
    let free (s : State) : State := s.modChan c fun x => { x with q := x.q.filter fun y => y.ord != e.ord }
    match s.openTag e.ord with
    | none => free s
    | some o =>
      if s.cc < r.ready ∨ (¬ (s.trk o.track).tx.hasRoom ∧ ¬ o.dead) then s else
      let graded := if r.status ≤ 1 then 32 * e.len else 0
      free (s.respond e.ord (if e.kind = .rd then 0x10 else 0x11) r.status r.detail r.data graded (e.kind != .rd))

/-- Move every response that can move. -/
def State.moveAll (s : State) (c : Nat) : State := (s.chan c).q.foldl (fun s e => s.moveOut c e) s

/-! ### TURNTABLE_CYCLE -/

/-- Whether an entry awaits its map check: it is new, or has left a siding it entered on arrival (R200, R330). -/
def Chan.unchecked (x : Chan) : Bool := x.q.any fun e => !e.chk && !e.finished

/-- Entries outside sidings age by a cycle; one that passes its limit counts in AGED (R191). -/
def State.ageChan (s : State) (c : Nat) : State :=
  let limit := 64 * s.fld Fld.CHN_POLICY_AGE_LIMIT c
  let turning := ((s.chan c).q.filter fun e => e.side.isNone && !e.finished && e.age = limit).length
  (s.modChan c fun x => { x with q := x.q.map fun e =>
    if e.side.isNone ∧ ¬ e.finished then { e with age := e.age + 1 } else e }).bump Fld.CHN_CNT_COUNT c 8 turning

/-- Quadrants in which a quiet interval opens now (R274). -/
def State.openQuiet (s : State) : State :=
  if s.fld Fld.TT_TIME_CYCLE ≠ 1280 then s else
  s.vert.bund.foldl (fun s e =>
    if (e.2.sw.any fun w => w.frame = s.fld Fld.TT_TIME_FRAME + 1) then s.setFld Fld.VLQ_STATUS_QUIET 1 (e.1 / 16) else s) s

/-- The service island's time while the core clock is off: the next REFCLK edge, a multiple of 16 core cycles (R42, R48). -/
def State.serviceCycle (s : State) : State :=
  ({ s with cc := (s.cc / 16 + 1) * 16 }).setFld Fld.TT_TIME_CYCLE (min 1584 ((s.fld Fld.TT_TIME_CYCLE / 16 + 1) * 16))

/-- TURNTABLE_CYCLE: one core cycle. Responses move to their tracks; entries age; tracks offer at most two requests each and channels take at most two each (R176 to R183). The blocks use their triplicated fields in every cycle, which votes them first (R506; log entry 51). In PARK the core clock is off and the cycle stands for a REFCLK period (R48). -/
def execTurntableCycle (s : State) : Out :=
  if ¬ s.start.b0 ∨ s.hold.isSome then .next s
  else if s.inState .park then .next s.serviceCycle else
  let s := ({ s with cc := s.cc + 1 }).voteAll
  let s := s.setFld Fld.TT_TIME_CYCLE (min 1599 (s.fld Fld.TT_TIME_CYCLE + 1))
  let s := s.openQuiet
  let s := if s.codec.queue.length ≥ 32 then s.bump Fld.INT_CODEC_CNT_COUNT 0 4 else s
  let live := (s.chans.filter fun e => !e.2.q.isEmpty).map fun e => e.1
  let s := live.foldl (fun s c => (s.moveAll c).ageChan c) s
  let s := s.upTo 32 fun t s => if (s.trk t).tx.late.isEmpty then s else s.modTx t TxState.pullResp
  let before := s
  let s := State.rounds 2 s {}
  let got := (s.chans.filter fun e => e.2.unchecked).map fun e => e.1
  .next (got.foldl (fun s c =>
    (s.modChan c fun x => { x with q := sortNew (before.chan c).q.length x.q }).settle c) s)

/-! ### Engine events -/

/-- CHN_DRAINED: the queue of a disabled engine is empty and STATUS.DISABLED reads 1; a SWAP goes on to its third step (R203, R205). -/
def execChnDrained (c : ChanIx) (s : State) : Out :=
  let x := s.chan c
  .next <| if ¬ x.q.isEmpty then s else
    let s := if s.flag Fld.CHN_CTL_EN c then s else s.setFld Fld.CHN_STATUS_DISABLED 1 c
    match x.swap with
    | some w => if w.draining then s.modChan c fun y => { y with swap := some { w with draining := false } } else s
    | none => s

/-- CHN_BLOCK_RESET_DONE: the engine accepts requests again, once a migration in progress has ended (R204, R348). -/
def execChnBlockResetDone (c : ChanIx) (s : State) : Out :=
  .next <| if (s.chan c).resetting ∧ (s.chan c).mig.isNone then
    (s.setFlag Fld.CHN_STATUS_DISABLED (!s.flag Fld.CHN_CTL_EN c) c).modChan c fun x => { x with resetting := false }
  else s


/-- Start a takeover of channel c: by CTL.SWAP it drains, by order its entries complete ABORTED (R205). -/
def State.takeover (s : State) (c : Nat) (ordered : Bool) : State :=
  match s.freeEngine with
  | none => s.raise .chNoSpare c (s.chInfo c)
  | some e =>
    let s := if ordered then s.abortChan c else s
    let s := s.setFld Fld.CHN_STATUS_SWAPPING 1 c
    s.modChan c fun x => { x with swap := some { spare := e, draining := !ordered, ordered := ordered } }

/-- An engine replaced for a fault of its own is no spare again (R205). -/
def State.dropEngine (s : State) (c : Nat) : State :=
  { s with rep := { s.rep with engines := s.fld Fld.CHN_CTL_ENGINE c :: s.rep.engines } }

/-- Give up a channel: EN 0, its entries ABORTED, recorded as failed (R306, R353). -/
def State.failChannel (s : State) (c : Nat) : State :=
  let s := (s.abortChan c).setFld Fld.CHN_CTL_EN 0 c
  s.repSet { kind := 6, unit := c }

/-- An engine's own check fails: CH_ENGINE_FAULT, and a takeover is ordered, or the channel given up (R206, R353). -/
def State.engineFault (s : State) (c : Nat) : State :=
  let s := (s.raise .chEngineFault c (s.chInfo c)).dropEngine c
  if s.freeEngine.isSome then s.takeover c true else (s.takeover c true).failChannel c

/-- A train without the lines of an entry. -/
def Train.without (t : Train) (ord : Nat) : Train := { t with lines := t.lines.filter fun l => !(l.ord = ord && ord != 0) }

/-- An entry whose slot holds an error that cannot be corrected completes ABORTED, detail 0x4, whatever it held as its answer; nothing of it that has not been launched is written: its lines leave the trains that wait, its fill is given up (R206). -/
def State.voidEnt (s : State) (c : Nat) (e : Ent) : State :=
  let ids := ((s.chan c).fills.filter fun f => f.ord = e.ord).map fun f => f.id
  let s := s.modEnt c e.ord fun y => { y with
    res := some { status := Status.aborted.code, detail := 4, ready := s.cc }, side := none
    lines := y.lines.map fun l => { l with st := .done } }
  let s := s.modChan c fun x => { x with
    locks := x.locks.filter fun k => k.1 != e.ord
    fills := x.fills.filter fun f => f.ord != e.ord
    prio := ((x.prio.filter fun t => !(ids.contains t.job)).map fun t => t.without e.ord).filter fun t => !t.lines.isEmpty }
  s.reside c

/-- What an engine's own checks meet in a cycle (R206). -/
def State.engineUpset (s : State) (c : Nat) (u : EngineUpset) : State :=
  let at_ (i : Nat) : Option Ent := (s.chan c).q[i]?
  let info (e : Ent) : FaultInfo := { lineInfo c 0 0 0 e.kind.access (s.chDetail c 0) (some e) with loc := none }
  match u with
  | .none => s
  | .storeCe i => match at_ i with
    | some e => s.raise .chStoreCe c (info e)
    | none => s
  | .storeUc i => match at_ i with
    | some e =>
      ((s.voidEnt c e).effected e.ord).raise .chStoreUc c (info e)
    | none => s
  | .check => s.engineFault c

/-- SCHED_ISSUE: the engine of channel c meets what its checks find, then chooses and issues the next command train (R191, R206). -/
def execSchedIssue (c : ChanIx) (u : EngineUpset) (s : State) : Out := .next ((s.engineUpset c u).schedule c)

/-- TAKEOVER_COMPLETE: the spare is powered and loaded, sends PRE to every bank, its mileage table cleared; CTL.ENGINE names it, CH_TAKEOVER is raised, the old engine goes off (R205). -/
def execTakeoverComplete (c : ChanIx) (s : State) : Out :=
  .next <| match (s.chan c).swap with
  | none => s
  | some w =>
    if w.draining then s else
    let old := s.fld Fld.CHN_CTL_ENGINE c
    let s := s.setDomain (9 + w.spare) true
    let s := (s.modChan c fun x => { x with banks := [], acts := [], grp := [], swap := none }).preAll c
    let s := (s.beginRecovery c).setFld Fld.CHN_CTL_ENGINE w.spare c
    let s := s.setFld Fld.CHN_STATUS_SWAPPING 0 c
    let s := if w.ordered then s.repSet { kind := 7, unit := c, res := w.spare } else s
    (s.raise .chTakeover c (s.chInfo c)).setDomain (9 + old) false

end Sys2Proof.Machine
end

