-- ==== Sys2Proof/Machine/Trains.lean ====
section
/-! DEFINITION. Trains at the base die (09, 10): delivery, reissue and resend, the codec pool, acknowledgements, self-refresh entry and exit. -/
namespace Sys2Proof.Machine

/-- The detail word of a VL_ source (R401). -/
def vlDetail (b : Nat) (col seg cause num : Nat := 0) : FaultInfo :=
  { detail := col + b * 2 ^ 6 + seg * 2 ^ 12 + cause * 2 ^ 16 + num * 2 ^ 24 }

/-- The layer of a bundle as an instance of LAY. -/
def layIx (b : Nat) : Nat := b / 4

/-- A train, line or response that nothing awaits: discarded, counted, VL_STALE (R302). -/
def State.stale (s : State) (b : Nat) : State := (s.bump Fld.LAY_CNT_COUNT (layIx b) 5).raise .vlStale b (vlDetail b)

/-- A retune of a bundle becomes pending: its next eight exchanges take retune entries (R276). -/
def State.setRetune (s : State) (b : Nat) : State :=
  (s.modBund b fun x => { x with retune := if x.retune = 0 then 8 else x.retune }).setFld Fld.VLQ_STATUS_RETUNING 1 (b / 16)

/-- Seeded training of a bundle's path (R280). -/
def State.trainPath (s : State) (b : Nat) : State := s.startTraining { seg := 0, last := hopsOf b, bundles := [b] }

/-! ### Reissue and resend (R303, R304) -/

/-- One more reissue or resend without success; at the limit the bundle's entries are sided and its path is trained (R304). -/
def State.noteFail (s : State) (c : Nat) : State :=
  let s := s.modChan c fun x => { x with failed := x.failed + 1 }
  if (s.chan c).failed < s.fld Fld.LAY_XCFG_REISSUE_LIMIT (layIx c) ∨ (s.chan c).path then s else
  let s := s.raise .vlReissueLimit c (vlDetail c)
  let s := s.modChan c fun x => { x with failed := 0, path := true }
  (s.trainPath c).reside c

/-- Reissue lines of a read train (R303). -/
def State.reissue (s : State) (c : Nat) (t : Train) (lines : List TLine) : State :=
  if lines.isEmpty then s else
  ((s.pushPrio c { t with lines := lines, again := true }).bump Fld.LAY_CNT_COUNT (layIx c) 2).noteFail c

/-- Whether a line of a write train is still to be written: not one of an entry that has completed ABORTED meanwhile (R202, R206). -/
def State.wanted (s : State) (c : Nat) (l : TLine) : Bool :=
  l.ord = 0 || ((s.chan c).ent l.ord).any fun e => !e.finished

/-- Resend a write train: the lines its entries still hold (R304). -/
def State.resend (s : State) (c : Nat) (t : Train) : State :=
  let s := s.modChan c fun x => { x with out := x.out.filter fun y => y.tid != t.tid }
  let lines := t.lines.filter (s.wanted c)
  if lines.isEmpty then s else
  ((s.pushPrio c { t with lines := lines, again := true }).bump Fld.LAY_CNT_COUNT (layIx c) 3).noteFail c

/-- A train succeeded (R304). -/
def State.noteGood (s : State) (c : Nat) : State := s.modChan c fun x => { x with failed := 0 }

/-- A train expected on a bundle was or was not delivered: each junction on its path counts the misses in a row (R313). -/
def State.noteMiss (s : State) (c : Nat) (missed : Bool) : State :=
  s.upTo (hopsOf c) fun h s =>
    let n := if missed then Store.get s.vert.misses (h + 1) 0 + 1 else 0
    { s with vert := { s.vert with misses := Store.set s.vert.misses (h + 1) 0 n } }

/-- REFB and NREF launched in the preceding 2,048 chips are launched again, each once its bank allows (R186, R227, R240, R304). -/
def State.repeatRefresh (s : State) (c : Nat) : State :=
  let cmds := (s.chan c).ref.recent.filter fun e => 15 * e.1 + 2048 ≥ 15 * s.cc
  cmds.foldl (fun s e => (s.refCmd c e.2.1 (e.2.2 % 32) e.2.2).1) s

/-! ### Codec pool (R301, R354) -/

/-- The lowest-numbered free decoder in service. -/
def State.freeDecoder (s : State) : Option Nat :=
  (List.range 18).find? fun d => (s.fld Fld.INT_CODEC_STATUS_ACTIVE).testBit d && (Store.find s.codec.busy d).isNone

/-- A line needing the pool: to a free decoder, or the 32-line queue, or its engine's buffer. -/
def State.toPool (s : State) (j : CodecJob) : State :=
  let s := s.bump Fld.INT_CODEC_CNT_COUNT 0 0
  match s.freeDecoder with
  | some d => { s with codec := { s.codec with busy := Store.put s.codec.busy d j } }
  | none =>
    if s.codec.queue.length < 32 then { s with codec := { s.codec with queue := s.codec.queue ++ [j] } }
    else { s with codec := { s.codec with held := s.codec.held ++ [j] } }

/-- A decoder that became free takes the first line of the queue, and the queue the first line held. -/
def State.poolFlow (s : State) : State :=
  match s.freeDecoder, s.codec.queue with
  | some d, j :: rest =>
    { s with codec := { s.codec with
        busy := Store.put s.codec.busy d j
        queue := rest ++ s.codec.held.take 1
        held := s.codec.held.drop 1 } }
  | _, _ => s

/-- DECODE_COMPLETE: decoder d has finished its line; what min-sum decoding of the received magnitudes gives comes with the event: a line, or none where the syndrome is still nonzero (R301). -/
def execDecodeComplete (d : Fin 18) (r : Option (BitVec 576)) (iters : Nat) (s : State) : Out :=
  .next <| match Store.find s.codec.busy d.val with
  | none => s
  | some j =>
    let s := { s with codec := { s.codec with busy := Store.del s.codec.busy d.val } }
    let s := s.bump Fld.INT_CODEC_CNT_COUNT 0 1 (min iters (s.fld Fld.INT_CODEC_CFG_MAX_ITER))
    let s := match r with
      | some line => (s.bump Fld.INT_CODEC_CNT_COUNT 0 2).lineIn j.chan j.train j.line line
      | none =>
        let s := s.bump Fld.INT_CODEC_CNT_COUNT 0 3
        let e := (s.chan j.chan).ent j.line.ord
        let s := s.raise .vlDecodeFail j.chan { lineInfo j.chan j.train.bank j.train.row j.line.col 1 (j.chan * 2 ^ 6) e with
          access := if e.isSome then 1 else 4 }
        s.reissue j.chan j.train [j.line]
    s.poolFlow

/-- DECODER_SELF_CHECK: an idle decoder in service decodes the test codeword; where the result differs, VL_DECODER_FAULT, and at the next tick a spare replaces it (R354). -/
def execDecoderSelfCheck (d : Fin 18) (good : Bool) (s : State) : Out :=
  .next <| if good ∨ ¬ (s.fld Fld.INT_CODEC_STATUS_ACTIVE).testBit d.val ∨ (Store.find s.codec.busy d.val).isSome ∨
      s.codec.removed.contains d.val then s
  else
    let s := { s with codec := { s.codec with removed := s.codec.removed ++ [d.val], bad := d.val :: s.codec.bad } }
    s.raise .vlDecoderFault 0

/-- At a tick, decoders found faulty leave the pool; the lowest spare not yet used takes each one's place, and the new mask is recorded (R354). -/
def State.codecTick (s : State) : State :=
  if s.codec.removed.isEmpty then s else
  let mask := s.codec.removed.foldl (fun m d =>
    let m := if m.testBit d then m - 2 ^ d else m
    match [16, 17].find? fun e => !m.testBit e && !s.codec.bad.contains e with
    | some e => m + 2 ^ e
    | none => m) (s.fld Fld.INT_CODEC_STATUS_ACTIVE)
  let s := (s.setFld Fld.INT_CODEC_STATUS_ACTIVE mask).repSet { kind := 8, data := mask }
  { s with codec := { s.codec with removed := [] } }

/-! ### Receivers (R264, R266, R272, R278, R279, R284) -/

/-- Captures and collisions of a column; at the limit VL_COLLISION_RATE and a retune (R266). -/
def State.noteColl (s : State) (b n : Nat) : State :=
  let k := Store.get (s.bund b).coll n 0 + 1
  let s := s.modBund b fun x => { x with coll := Store.set x.coll n 0 k }
  if k = s.fld Fld.VLQ_COLL_CFG_LIMIT (b / 16) then
    (s.raise .vlCollisionRate (b / 16) (vlDetail b n)).setRetune b
  else s

/-- One frozen gain code enters MEAN, and LAST (R284). -/
def State.noteGain (s : State) (b n g : Nat) : State :=
  let j := 64 * (b % 16) + n
  let mean := s.fld Fld.VLQ_COL_AGC_MEAN (b / 16) j
  let (d, s) := s.divFree (16 * (g : Int) - mean) 256
  let s := s.setFld Fld.VLQ_COL_AGC_MEAN ((mean : Int) + d).toNat (b / 16) j
  s.setFld Fld.VLQ_COL_AGC_LAST g (b / 16) j

/-- One receiver's gain and chip counts of a delivered train (R272, R284). -/
def State.noteCol (s : State) (b : Nat) (count : Bool) (r : ColRx) : State :=
  let n := r.col.val
  let s := if r.second.isSome then s.noteColl b n else s
  if ¬ r.acquired then s.bump Fld.VLQ_CNT_COUNT (b / 16) 1 else
  let s := s.noteGain b n r.gain
  if count ∧ ¬ (s.bund b).erased.contains (Store.get (s.bund b).serves n n) then
    s.modBund b fun x => { x with
      nc := Store.set x.nc n 0 (Store.get x.nc n 0 + r.nc)
      nd := Store.set x.nd n 0 (Store.get x.nd n 0 + r.nd) }
  else s

/-- A column's edge votes: at the threshold one PH step is staged for the next tick, at most one a tick; a step past 0 or 15 raises VL_TRIM_LIMIT and sets a retune pending (R278, R279). -/
def State.noteVote (s : State) (b : Nat) (rt : Bool) (r : ColRx) : State :=
  let n := r.col.val
  if ¬ r.acquired then s.bump Fld.VLQ_CNT_COUNT (b / 16) 7 else
  let lim := s.fld Fld.VLQ_CAL_CFG_VOTE (b / 16) / (if rt then 4 else 1)
  let v := Store.get (s.bund b).vote n 0 + r.vote
  if v.natAbs < lim ∨ v = 0 ∨ s.flag Fld.VLQ_CTL_PH_FREEZE (b / 16) then
    s.modBund b fun x => { x with vote := Store.set x.vote n 0 v }
  else
    let s := s.modBund b fun x => { x with vote := Store.set x.vote n 0 0 }
    let ph := s.col Fld.VLQ_COL_PH b n
    let up : Bool := v > 0
    if (up ∧ ph = 15) ∨ (¬ up ∧ ph = 0) then (s.raise .vlTrimLimit (b / 16) (vlDetail b n)).setRetune b
    else if (Store.find (s.bund b).ph n).isSome ∧ ¬ rt then s
    else
      let s := s.modBund b fun x => { x with ph := Store.put x.ph n (if up then ph + 1 else ph - 1) }
      s.bump Fld.VLQ_CNT_COUNT (b / 16) 8

/-- Where a retune entry found chip 0: DLY moves by up to 4 chips at the next tick, or the path is trained (R279). -/
def State.noteLand (s : State) (b : Nat) (r : ColRx) : State :=
  if ¬ r.acquired ∨ r.land = 0 ∨ r.land.natAbs > 4 then s else
  let n := r.col.val
  let d := ((s.col Fld.VLQ_COL_DLY b n : Nat) : Int) - r.land
  s.modBund b fun x => { x with dly := Store.put x.dly n d.toNat }

/-- What a column of a train's set found; one that is not listed did not acquire the train (R261). -/
def RdArrival.colAt (x : RdArrival) (n : Fin 64) : ColRx := (x.cols.find? fun r => r.col = n).getD { col := n, acquired := false }

/-- The columns of a train's set: those of the calibration entry, or the physical columns that carry C0 to C55 (R276, R289, R305). -/
def State.rxSet (s : State) (b : Nat) (x : RdArrival) : List ColRx :=
  let ns := if x.cal then (s.bund b).calSent else (List.range 56).map (s.server b)
  ns.map fun n => x.colAt (Fin.ofNat 64 n)

/-- What becomes of a train (R261, R264, R265). -/
inductive Arrival where
  | missed | captured | collided | delivered
deriving DecidableEq, Repr

/-- The chip of a second arrival that at least half of the acquired columns detect within the same 8 chips (R264). -/
def secondAt (acq : List ColRx) : Option Nat :=
  (acq.filterMap (·.second)).find? fun k =>
    2 * (acq.filter fun r => r.second.any fun j => k ≤ j && j < k + 8).length ≥ acq.length

/-- The outcome of a train whose columns found cols: not delivered without sync on any; a second arrival before the body captures the receiver, one in the body marks the train collided, as a majority of faded columns does (R261, R264, R265). -/
def arrivalOf (cols : List ColRx) : Arrival :=
  let acq := cols.filter (·.acquired)
  if acq.isEmpty then .missed
  else match secondAt acq with
  | some k => if k < 80 then .captured else .collided
  | none => if 2 * (acq.filter (·.faded)).length > acq.length then .collided else .delivered

/-- A calibration exchange ends with its downward train (R276 to R279). -/
def State.calDelivered (s : State) (b : Nat) (x : RdArrival) : State :=
  if ¬ (s.bund b).exch then s.stale b else
  let rt := (s.bund b).isRetune
  let cols := s.rxSet b x
  let s := s.modBund b fun y => { y with exch := false
                                         retune := if rt then y.retune - 1 else y.retune
                                         plan := if rt then y.plan else (y.plan + 1) % 8 }
  let s := s.modChan b fun y => { y with ccal := none }
  let s := cols.foldl (fun s r => (s.noteCol b true r).noteVote b rt r) s
  if ¬ rt then s else
  let s := cols.foldl (fun s r => s.noteLand b r) s
  let s := if (s.bund b).retune = 0 then
      let s := (s.bump Fld.VLQ_CNT_COUNT (b / 16) 9).modBund b fun y => { y with isRetune := false, good := [], nc := [], nd := [], win := 0 }
      let more := (List.range 16).any fun i => (s.bund (b / 16 * 16 + i)).retune > 0
      s.setFlag Fld.VLQ_STATUS_RETUNING more (b / 16)
    else s
  if cols.any fun r => r.acquired && r.land.natAbs > 4 then s.trainPath b else s

/-! ### READ_TRAIN_DELIVERED -/

/-- One delivered slot of an awaited train: to the tile check, to the codec pool where its syndrome is not zero or a column of the train is erased, or not received (R261, R264, R301, R306). Answers the line when it is to be reissued. -/
def State.slotIn (s : State) (c : Nat) (t : Train) (l : TLine) (x : RdSlot) (erased : Bool) : State × List TLine :=
  if ¬ controlGood x.ctl t.tid then (s, [l])
  else if lineSyndrome x.code = (0, 0) ∧ ¬ erased then (s.lineIn c t l (codeLine x.code), [])
  else (s.toPool { chan := c, train := t, line := l, code := x.code }, [])

/-- Whether a data column carries nothing in line i of a delivered train: erased for good, not acquired, or cut by a second arrival on a few columns before the line's last chip on it (R261, R264, R290, R306). -/
def State.erasedIn (s : State) (c i : Nat) (cols : List ColRx) : Bool :=
  !(s.bund c).erased.isEmpty || cols.any fun r =>
    !r.acquired || r.second.any fun k => k < 80 + 12 * sfOf (s.col Fld.VLQ_COL_GEAR c r.col) * (i + 1)

/-- A captured train is lost; a captured calibration train ends its exchange unmeasured (R264, R278, R304). -/
def State.capturedRx (s : State) (c : Nat) (x : RdArrival) : State :=
  let s := s.bump Fld.VLQ_CNT_COUNT (c / 16) 2
  let s := (s.rxSet c x).foldl (fun s r => if r.second.isSome then s.noteColl c r.col.val else s) s
  let s := s.repeatRefresh c
  if x.cal ∧ (s.bund c).exch then s.calLost c else s

/-- A train delivered marked collided: every line it carries is reissued, and every write train whose WACK is not yet due is resent (R264, R303, R304). -/
def State.collidedRx (s : State) (c : Nat) (awaited : Option Train) : State :=
  let s := s.repeatRefresh c
  let s := match awaited with
    | some t => s.reissue c t t.lines
    | none => s
  ((s.chan c).out.filter fun t => t.write && t.lands ≥ s.now).foldl (fun s t => s.resend c t) s

/-- The read train that awaits delivery under a TID (R302). -/
def State.awaited (s : State) (c tid : Nat) : Option Train := (s.chan c).out.find? fun t => !t.write && t.tid = tid

/-- The lines of a delivered read train: each is checked, goes to the codec pool, or is reissued; a TID not awaited is stale (R301 to R303). -/
def State.linesIn (s : State) (c : Nat) (x : RdArrival) (cols : List ColRx) : State :=
  match s.awaited c x.tid with
  | none => s.stale c
  | some t =>
    let s := s.modChan c fun y => { y with out := y.out.filter fun t => t.write || t.tid != x.tid.val }
    let r := t.lines.zipIdx.foldl (fun (acc : State × List TLine) e =>
      match x.slots[e.2]? with
      | some sl =>
        let y := acc.1.slotIn c t e.1 sl (s.erasedIn c e.2 cols)
        (y.1, acc.2 ++ y.2)
      | none => (acc.1, acc.2 ++ [e.1])) (s.noteMiss c false, [])
    if r.2.isEmpty then r.1.noteGood c else r.1.reissue c t r.2

/-- READ_TRAIN_DELIVERED: a train of bundle c arrives; while the data columns' receivers are shut by a launch it is not received, and without sync on any column it is not delivered. A captured one is lost, a collided one reissued with the write trains still awaiting their WACK; each line of a good one is checked or goes to the codec pool; a TID not awaited is stale (R254, R261, R264, R301 to R304). -/
def execReadTrainDelivered (c : ChanIx) (x : RdArrival) (s : State) : Out :=
  .next <|
    let q := c.val / 16
    let cols := s.rxSet c x
    if s.dataShut c then s else
    match arrivalOf cols with
    | .missed => s.bump Fld.VLQ_CNT_COUNT q 1 cols.length
    | .captured => s.capturedRx c x
    | .collided =>
      let s := (s.bump Fld.VLQ_CNT_COUNT q 0).bump Fld.VLQ_CNT_COUNT q 3
      let s := cols.foldl (fun s r => s.noteCol c false r) s
      if x.cal then (if (s.bund c).exch then (s.repeatRefresh c).calLost c else s.stale c)
      else (s.modChan c fun y => { y with out := y.out.filter fun t => t.write || t.tid != x.tid.val }).collidedRx c (s.awaited c x.tid)
    | .delivered =>
      let s := s.bump Fld.VLQ_CNT_COUNT q 0
      if x.cal then s.calDelivered c x
      else (cols.foldl (fun s r => s.noteCol c true r) s).linesIn c x cols

/-- READ_TRAIN_TIMEOUT: no train with the TID is delivered by its expected chip plus 8 × RD_SLACK; every line is reissued (R303). -/
def execReadTrainTimeout (c : ChanIx) (tid : Fin 32) (s : State) : Out :=
  .next <| match (s.chan c).out.find? fun t => !t.write && t.tid = tid.val with
  | none => s
  | some t =>
    if 15 * s.cc < t.lands + 8 * s.fld Fld.LAY_XCFG_RD_SLACK (layIx c) then s else
    let s := s.modChan c fun y => { y with out := y.out.filter fun t => t.write || t.tid != tid.val }
    (s.noteMiss c true).reissue c t t.lines

/-! ### Acknowledgements (R296, R302, R304) -/

/-- WACK_RX: the write train is in the array; its lines are done (R30, R296). A response that arrives while the receivers are shut is not received (R254). -/
def execWackRx (c : ChanIx) (bank : BankIx) (tid : Fin 32) (s : State) : Out :=
  .next <| if s.cmdShut c then s else match (s.chan c).out.find? fun t => t.write && t.tid = tid.val && t.bank = bank.val with
  | none => s.stale c
  | some t =>
    let s := (s.modChan c fun y => { y with out := y.out.filter fun u => u.tid != tid.val }).noteGood c
    let s := t.lines.foldl (fun s l => s.lineAcked c t l) (s.noteMiss c false)
    if t.job = 0 then s else s.fillAcked c t.job

/-- WNAK_RX: the die wrote no line of the train; it is resent (R296, R304). -/
def execWnakRx (c : ChanIx) (bank : BankIx) (tid : Fin 32) (reason : Fin 8) (s : State) : Out :=
  .next <| if s.cmdShut c then s else match (s.chan c).out.find? fun t => t.write && t.tid = tid.val && t.bank = bank.val with
  | none => s.stale c
  | some t =>
    let s := (s.bump Fld.LAY_CNT_COUNT (layIx c) 4).raise .vlWnak c (vlDetail c 0 0 reason.val)
    s.resend c t

/-- WACK_TIMEOUT: no WACK by its expected chip plus 8 × ACK_SLACK; the train is resent (R304). -/
def execWackTimeout (c : ChanIx) (tid : Fin 32) (s : State) : Out :=
  .next <| match (s.chan c).out.find? fun t => t.write && t.tid = tid.val with
  | none => s
  | some t =>
    if 15 * s.cc < t.lands + 8 * s.fld Fld.LAY_XCFG_ACK_SLACK (layIx c) then s else (s.noteMiss c true).resend c t

/-- COLLISION_WINDOW_END: COLL_CFG.WINDOW frames have passed and the counts of the quadrant's columns restart (R266). -/
def execCollisionWindowEnd (q : QuadIx) (s : State) : Out :=
  .next <| if Store.get s.vert.coll q 0 < s.fld Fld.VLQ_COLL_CFG_WINDOW q then s else
    let s := { s with vert := { s.vert with coll := Store.del s.vert.coll q.val } }
    s.upTo 16 fun i s => s.modBund (16 * q.val + i) fun b => { b with coll := [] }

/-- VL_PLL_UNLOCK: a quadrant chip PLL loses lock (R286); TT.CLK_RUN shows it until the quadrant is trained again (R65). -/
def execVlPllUnlock (q : QuadIx) (s : State) : Out :=
  .next <| ({ s with vert := { s.vert with
    pllLost := if s.vert.pllLost.contains q.val then s.vert.pllLost else q.val :: s.vert.pllLost } }).raise .vlPllUnlock q

/-! ### Self-refresh (R244, R248, R281) -/

/-- The device knows of a channel's self-refresh: CHN.REF_STATE.SR. -/
def State.setSr (s : State) (c : Nat) (b : Bool) : State := s.setFlag Fld.CHN_REF_STATE_SR b c

/-- The oldest neighbour refresh issues where 32 pend: no ACT finds the list full (R240). -/
def State.makeRoom (s : State) (c : Nat) : State :=
  match (s.chan c).ref.nrefs with
  | [] => s
  | n :: l => if l.length ≥ 31 then s.doNref c 0 n else s

/-- V5 of a channel on bank 0: four one-line reads of column 0, the row opened by the first once every forced round has issued; RD_LAT is the largest count, T_RCD taken from the first, and comes into force at the next tick; no ACT and no host request issues before the last has been checked (R194, R248, R281). -/
def State.latency (s : State) (c : Nat) (counts : List Nat) : State :=
  match counts with
  | [] => s
  | a :: rest =>
    let worst := rest.foldl max (a - s.fld Fld.CHN_TIM0_T_RCD c)
    let s := s.makeRoom c
    let s := if ((s.chan c).bank 0).final.isSome then s.closeBank c 0 else s
    let t := s.cmdCycle c (max s.cc (s.actAt c 0 (s.chan c)))
    let s := (s.launchAt c t ((0x01, 0) :: rdtWords 0 (s.chan c).tid [0])).modChan c fun x => { s.doAct c 0 0 t x with tid := (x.tid + 1) % 32 }
    let s := rest.foldl (fun s _ => (s.launchAt c t (rdtWords 0 (s.chan c).tid [0])).modChan c fun x => { x with tid := (x.tid + 1) % 32 }) s
    let k := rest.length + 1
    let s := (s.bump Fld.CHN_CNT_COUNT c 3).bump Fld.CHN_CNT_COUNT c 2 rest.length
    let s := (s.bump Fld.CHN_CNT_COUNT c 4 k).bump Fld.CHN_CNT_COUNT c 0 k
    let s := s.modChan c fun x => { x with ready := max x.ready (t + counts.foldl (· + ·) 0), lines2 := x.lines2 + k }
    let s := if worst = s.fld Fld.CHN_LAT_RD_LAT c then s else s.setFld Fld.NVM_CAL_DIRTY 1
    (s.mileage c 0 0).atTick Fld.CHN_LAT_RD_LAT worst c

/-- Repairs of a channel that live in core-die latches: SOFT rows and column groups (R349, R352). -/
def State.softRepairs (s : State) (c : Nat) : List RepEnt :=
  s.rep.copy.filter fun e => (e.kind = 1 || e.kind = 4) && e.unit = c && e.state = 2

/-- Four forced rounds one command after another, V5, then recovery where R242 applies; OWED and ACC are 0 and the channel is out of self-refresh (R248; log entry 130). -/
def State.srxRounds (s : State) (c : Nat) (lats : List Nat) : State :=
  let recover := (s.chan c).ref.recover
  let s := if (s.chan c).exited then s else s.setFlag Fld.CHN_STATUS_DISABLED (!s.flag Fld.CHN_CTL_EN c) c
  let s := s.modChan c fun x => { x with
    banks := [], acts := [], grp := [], exited := true, preDue := false
    ref := { x.ref with srx := false, recover := false, did := [], wdog := false } }
  let s := (s.setSr c false).setFld Fld.CHN_REF_STATE_OWED 4 c
  let s := s.upTo 32 fun _ s => match s.roundBanks c with
    | [] => s
    | b :: _ => s.doRefb c b true
  let s := s.modChan c fun x => { x with ready := max x.ready (ccOf x.cmdEnd) }
  let s := s.latency c lats
  let s := if recover then s.beginRecovery c else s
  let s := (s.setFld Fld.CHN_REF_STATE_OWED 0 c).setFld Fld.CHN_REF_STATE_ACC 0 c
  if (s.chan c).path then (s.modChan c fun x => { x with path := false }).reside c else s

/-- Whether soft repairs or timing words of a channel still await their answer (R308, R349). -/
def State.softOut (s : State) (c : Nat) : Bool :=
  s.vert.cfg.any fun k => match k.use with
    | .soft d _ _ _ => d = c
    | .timing d => d = c
    | _ => false

/-- SRX_WAIT_END: T_XS after SRX; in a start the SREP of every soft repair is sent and answered first; then the rounds (R248, R349). -/
def execSrxWaitEnd (c : ChanIx) (lats : List Nat) (s : State) : Out :=
  .next <| if ¬ (s.chan c).ref.srx ∨ s.cc < (s.chan c).ref.srxAt + s.fld Fld.REF_SR_T_XS then s
    else if (s.chan c).ref.soft ∧ ¬ (s.softRepairs c).isEmpty then
      let s := s.modRef c fun r => { r with soft := false }
      (s.softRepairs c).foldl (fun s e => s.sendRep 0x14 c e (.soft c e.kind e.bank (if e.kind = 4 then e.res else e.row))) s
    else if s.softOut c then s
    else (s.modRef c fun r => { r with soft := false }).srxRounds c lats

/-- A channel with no work of any kind left. -/
def Chan.quiet (x : Chan) : Bool :=
  x.q.isEmpty && x.out.isEmpty && x.prio.isEmpty && x.fills.isEmpty && x.rt.isNone && x.mig.isNone && x.march.isEmpty

/-- Part 4 of a shutdown or start-up test: its channels enter self-refresh (R373). -/
def State.sleepPart (s : State) : Bool := s.bst.kind != 0 && s.bst.begun && s.fld Fld.BST_STATUS_PHASE = 4

/-- Whether a channel is due in self-refresh: PARK is being entered and the drain is over, part 4 of a test tells it, or neither the presented configuration nor the one chosen in this start uses it (R237, R244, R373, R458). -/
def State.mustSleep (s : State) (c : Nat) : Bool :=
  (s.park.step = .sleep && !s.park.awake.contains c) || (s.sleepPart && !s.bst.awake.contains c) || !(s.presented c || s.start.conf.used.contains (layerOf c) || s.start.pilot = layerOf c)

/-- The last three steps of R244: PRE to every bank, SRE, the confirmation; refused twice, REF_SR_FAIL and the channel is taken back out. -/
def State.enterSr (s : State) (c : Nat) (confirmed : Bool) : State :=
  let s := (s.launch c [(0x02, 32), (0x08, 0)]).modChan c fun x => { x with banks := [], acts := [], grp := [] }
  let parking : Bool := s.park.step = .sleep
  if confirmed then
    let s := ((s.setSr c true).bump Fld.CHN_REF_CNT_COUNT c 6).modChan c fun x => { x with exited := false }
    if parking then { s with park := { s.park with asleep := c :: s.park.asleep } } else s
  else
    let s := (s.raise .refSrFail c (s.chInfo c)).sendSrx c false
    let s := if s.sleepPart then { s with bst := { s.bst with awake := c :: s.bst.awake } } else s
    if parking then { (s.setFld Fld.GLB_PWR_STATUS_PARK_PARTIAL 1) with park := { s.park with awake := c :: s.park.awake } } else s

/-- SELF_REFRESH_ENTRY: a drained channel issues its owed rounds and pending neighbour refreshes; once no calibration exchange is due or open it precharges, sends SRE and asks the die (R238, R244). -/
def execSelfRefreshEntry (c : ChanIx) (confirmed : Bool) (s : State) : Out :=
  .next <| if ¬ (s.chan c).quiet ∨ s.flag Fld.CHN_REF_STATE_SR c ∨ (s.chan c).ref.srx ∨ ¬ s.mustSleep c then s else
    let s := s.issueOwed c
    let s := s.modRef c fun r => { r with slot := 0, slotN := 0, own := [] }
    if (s.chan c).ccalDue > 0 ∨ s.calBusy c then s else s.enterSr c confirmed

end Sys2Proof.Machine
end

