-- ==== Sys2Proof/Machine/Vertical.lean ====
section
/-! DEFINITION. The vertical interface as a whole (09, 10): column sparing, gears, vertical training and discovery, configuration answers, alarms, relays, CORE reset (R455), fusing (R349). -/
namespace Sys2Proof.Machine

/-! ### Column sparing (R305, R306) -/

/-- Far ends of a bundle's path, farthest first: the owner die's lower side, then each junction's upper and lower sides, as layer − 1 and side (R274, R285). -/
def farEnds (b : Nat) : List (Nat × Nat) :=
  (b / 4, 0) :: ((List.range (hopsOf b)).reverse.flatMap fun i => [(4 * (i + 1) - 1, 1), (4 * (i + 1) - 1, 0)])

/-- The column word of a bundle at a side (R285). -/
def colWord (b side n : Nat) : Nat := 0x1000 + 128 * b + 64 * side + n

/-- The spare-map word of spare C(58 + i) of a bundle at a side (R307). -/
def spareWord (b side i : Nat) : Nat := 0x7000 + 16 * b + 8 * side + i

/-- The lowest-numbered standby spare of a bundle (R305). -/
def State.standbyCol (s : State) (b : Nat) : Option Nat :=
  ((List.range 6).map (58 + ·)).find? fun n => s.col Fld.VLQ_COL_ROLE b n = 1

/-- A standby spare, or one that served a column, is retired (R305, R356, R369). -/
def State.retireSpare (s : State) (b sp : Nat) : State :=
  (s.setCal Fld.VLQ_COL_ROLE 2 b sp).repSet { kind := 11, state := 6, unit := b, bank := 1, row := sp }

/-- A spare takes a logical column over: it carries its bits at its own path gear; what carried them before reads retired (R305, R356). -/
def State.serveCol (s : State) (b n sp : Nat) : State :=
  let old := s.server b n
  let s := s.modBund b fun x => { x with serves := Store.put (x.serves.filter fun e => e.2 != n) sp n }
  let s := if old = n then s else s.retireSpare b old
  let s := (s.setCal Fld.VLQ_COL_ROLE 2 b n).setCal Fld.VLQ_COL_ROLE 0 b sp
  s.repSet { kind := 11, state := 6, unit := b, bank := 1, row := n, res := sp }

/-- A bundle is given up: VL_BUNDLE_FAIL, its entries ABORTED, CTL.EN 0, the channel marked failed (R306, R353). -/
def State.failBundle (s : State) (b n : Nat) : State := (s.raise .vlBundleFail b (vlDetail b n)).failChannel b

/-- Whether a column that finds no spare costs its bundle: a command column, or a third erased data column (R306). -/
def State.lastStraw (s : State) (b n : Nat) : Bool :=
  n ≥ 56 || (!(s.bund b).erased.contains n && (s.bund b).erased.length ≥ 2)

/-- A column needs a spare and has none (R306). -/
def State.eraseCol (s : State) (b n : Nat) : State :=
  let s := s.raise .vlSpareExhausted b (vlDetail b n)
  if s.lastStraw b n then s.failBundle b n
  else s.modBund b fun x => { x with erased := if x.erased.contains n then x.erased else x.erased ++ [n] }

/-- Name a switch's frame and write it into the far ends, farthest first (R274, R305). -/
def State.beginSwitch (s : State) (b : Nat) (w : Switch) : State :=
  let w := { w with frame := s.fld Fld.TT_TIME_FRAME + s.fld Fld.VLQ_GEAR_CFG_LEAD (b / 16) }
  let addr (side : Nat) := if w.spare = 0 then colWord b side w.col else spareWord b side (w.spare - 58)
  let val := if w.spare = 0 then 4 * w.gear + w.frame % 256 * 16 else w.col * 64 + 2 ^ 12 + w.frame % 256 * 2 ^ 16
  let ends := (farEnds b).map fun e => (e.1, addr e.2)
  let s := s.modBund b fun x => { x with sw := x.sw ++ [{ w with due := ends }] }
  let s := if w.spare = 0 then s.setCol Fld.VLQ_COL_GEAR_NEXT w.gear b w.col else s
  ends.foldl (fun s e => s.setcfg b e.1 e.2 val (.switch b w.col w.spare)) s

/-- Whether a switch may be scheduled on a bundle: no retune and no training of it in progress (R275). -/
def State.maySwitch (s : State) (b : Nat) : Bool :=
  (s.bund b).up && (s.bund b).retune = 0 && !(s.vert.trains.any fun j => j.bundles.contains b)

/-- A spare that carries no column: it is not spared, only retired. -/
def State.idleSpare (s : State) (b n : Nat) : Bool := n ≥ 58 && (Store.find (s.bund b).serves n).isNone

/-- Spare a column in service: a switch to the lowest standby spare (R305, R306). -/
def State.spareCol (s : State) (b n : Nat) : State :=
  if s.idleSpare b n then (if s.col Fld.VLQ_COL_ROLE b n = 1 then s.retireSpare b n else s) else
  let m := s.logical b n
  if (s.bund b).sw.any fun w => w.col = m && w.spare != 0 then s else
  match s.standbyCol b with
  | none => s.eraseCol b m
  | some sp => if s.maySwitch b then s.beginSwitch b { col := m, spare := sp, frame := 0 } else s.serveCol b m sp

/-- Spare a column within a training or a test, at once (R305, R306, R369). -/
def State.spareNow (s : State) (b n : Nat) : State :=
  if s.idleSpare b n then (if s.col Fld.VLQ_COL_ROLE b n = 1 then s.retireSpare b n else s) else
  match s.standbyCol b with
  | none => s.eraseCol b (s.logical b n)
  | some sp => s.serveCol b (s.logical b n) sp

/-! ### Gears (R273 to R275) -/

/-- CER in 2^-16 units (R272). -/
def cerOf (x : Nat × Nat) : Nat := if x.1 = 0 then 0 else 65536 * x.2 / x.1

/-- The CER limit of a gear of quadrant q (R273). -/
def State.gearLim (s : State) (q g : Nat) : Nat :=
  if g = 1 then s.fld Fld.VLQ_GEAR_LIM_G1_MAX q else if g = 2 then s.fld Fld.VLQ_GEAR_LIM_G2_MAX q
  else s.fld Fld.VLQ_GEAR_LIM_G3_MAX q

/-- The margin loop of one column at a window's end (R273). -/
def State.gearLoop (s : State) (b n : Nat) (far : List (Nat × Nat)) : State :=
  let q := b / 16
  let x := s.bund b
  let base := (Store.get x.nc n 0, Store.get x.nd n 0)
  let v := (base :: far).filter fun r => r.1 ≥ 1024 * s.fld Fld.VLQ_CAL_CFG_MIN_CHIPS q
  let g := s.col Fld.VLQ_COL_GEAR b n
  let cer := v.foldl (fun m r => max m (cerOf r)) 0
  let good := Store.get x.good n 0
  let s := s.setFld Fld.VLQ_COL_MON_CER_BASE (min 0xFFFF (cerOf base)) q (64 * (b % 16) + n)
  let s := s.setFld Fld.VLQ_COL_MON_CER_PATH (min 0xFFFF cer) q (64 * (b % 16) + n)
  let worst : Bool := !v.isEmpty && cer > s.gearLim q g && cer > s.gearLim q 3
  let (new, good) :=
    if v.isEmpty then (g, good)
    else if cer > s.gearLim q g then
      ((((List.range 3).map (· + 1)).find? fun h => h > g && s.gearLim q h ≥ cer).getD 3, 0)
    else if g > s.fld Fld.VLQ_GEAR_CFG_TOP q ∧ 4 * cer ≤ s.gearLim q (g - 1) then
      if good + 1 ≥ s.fld Fld.VLQ_GEAR_CFG_UP_WINDOWS q then (g - 1, 0) else (g, good + 1)
    else (g, 0)
  let s := s.modBund b fun y => { y with good := Store.set y.good n 0 good, nc := Store.del y.nc n, nd := Store.del y.nd n }
  let s := if worst then (s.raise .vlColMargin b (vlDetail b n)).spareCol b n else s
  let force := s.col Fld.VLQ_COL_FORCE_GEAR b n
  let new := if force ≠ 0 then force else new
  if s.flag Fld.VLQ_CTL_GEAR_FREEZE q ∨ new = g ∨ ¬ s.maySwitch b ∨ (s.bund b).sw.any (fun w => w.col = n && w.spare = 0) then s
  else s.beginSwitch b { col := n, gear := new, frame := 0 }

/-- GEAR_WINDOW_END: the margin loop of every column in use of the quadrant's trained bundles whose window has run GEAR_CFG.WINDOW frames (R273). -/
def execGearWindowEnd (q : QuadIx) (far : List GearCount) (s : State) : Out :=
  .next <| s.upTo 16 fun i s =>
    let b := 16 * q.val + i
    if ¬ (s.bund b).up ∨ (s.bund b).win < s.fld Fld.VLQ_GEAR_CFG_WINDOW q then s else
    (s.modBund b fun x => { x with win := 0 }).upTo 64 fun n s =>
      if s.col Fld.VLQ_COL_ROLE b n ≠ 0 ∨ s.col Fld.VLQ_COL_GEAR b n = 0 then s else
      s.gearLoop b n (((far.find? fun r => r.b.val = b && r.col.val = n).map fun r => r.far).getD [])

/-- The switches of a column: of its gear, and to a spare. -/
def Bund.switchesOf (x : Bund) (n : Nat) : List Switch := x.sw.filter fun w => w.col = n

/-- Change a switch of a column: to spare sp, or with 0 of its gear. -/
def State.modSwitch (s : State) (b n sp : Nat) (g : Switch → Switch) : State :=
  s.modBund b fun x => { x with sw := x.sw.map fun w => if w.col = n ∧ w.spare = sp then g w else w }

/-- A far end answered a write of a switch or of its cancellation. -/
def State.switchAck (s : State) (b n sp layer addr : Nat) : State :=
  s.modSwitch b n sp fun w => { w with due := w.due.erase (layer, addr), acked := w.acked ++ [(layer, addr)] }

/-- At the tick that opens F − 2 a far end has not acknowledged: the others are told to keep what they have, and the switch fails (R275, R305). -/
def State.switchLate (s : State) (b col : Nat) (w : Switch) : State :=
  if w.due.isEmpty ∨ w.cancel ∨ s.fld Fld.TT_TIME_FRAME + 2 < w.frame then s else
  let src := if w.spare = 0 then Src.vlGearSwitchFail else Src.vlSpareSwitchFail
  let drop (k : CfgCmd) : Bool := k.use != .switch b col w.spare
  let s := { s with vert := { s.vert with cfg := s.vert.cfg.filter drop } }
  let s := s.modSwitch b col w.spare fun y => { y with cancel := true, due := w.acked, acked := [] }
  let s := if w.spare = 0 then s.setCol Fld.VLQ_COL_GEAR_NEXT 0 b col else s
  let s := w.acked.foldl (fun s e => s.setcfg b e.1 e.2 0 (.cancel b col w.spare)) s
  s.raise src (if w.spare = 0 then b / 16 else b) (vlDetail b col)

/-- GEAR_SWITCH_ACK_DEADLINE: the column's switches whose deadline this is and that some far end has not acknowledged are cancelled (R275, R305). -/
def execGearSwitchAckDeadline (b : ChanIx) (col : ColIx) (s : State) : Out :=
  .next <| ((s.bund b).switchesOf col).foldl (fun s w => s.switchLate b col w) s

/-- At the tick that opens F every end switches; a cancelled switch whose cancellations are not all confirmed has the path trained (R274, R275, R305). -/
def State.switchNow (s : State) (b col : Nat) (w : Switch) : State :=
  if s.fld Fld.TT_TIME_FRAME < w.frame ∨ (¬ w.cancel ∧ ¬ w.due.isEmpty) then s else
  let s := s.modBund b fun x => { x with sw := x.sw.filter fun y => y.col != w.col || y.spare != w.spare }
  if w.cancel then (if w.due.isEmpty then s else s.trainPath b)
  else if w.spare ≠ 0 then s.serveCol b col w.spare
  else
    let g := s.col Fld.VLQ_COL_GEAR b col
    let s := (s.setCol Fld.VLQ_COL_GEAR_NEXT 0 b col).setCal Fld.VLQ_COL_GEAR w.gear b col
    if w.gear > g then (s.bump Fld.VLQ_CNT_COUNT (b / 16) 4).raise .vlGearDown b (vlDetail b col)
    else s.bump Fld.VLQ_CNT_COUNT (b / 16) 5

/-- GEAR_SWITCH_EFFECTIVE: the column's switches whose frame has opened take effect (R274, R275, R305). -/
def execGearSwitchEffective (b : ChanIx) (col : ColIx) (s : State) : Out :=
  .next <| ((s.bund b).switchesOf col).foldl (fun s w => s.switchNow b col w) s

/-! ### Discovery (R308) -/

/-- Whether a layer's identity words pass every check. -/
def State.idOk (s : State) (l : Nat) (w : List Nat) : Bool :=
  let g (k : Nat) := w.getD k 0
  let dies := s.start.dies
  bits (g 1) 7 0 = 2 && bits (g 1) 15 8 = 48 && bits (g 1) 23 16 = 4 && bits (g 1) 31 24 = 32 &&
  bits (g 2) 15 0 = 24576 && bits (g 2) 23 16 ≥ 96 && bits (g 2) 31 24 ≥ 32 && bits (g 3) 4 0 = l + 1 &&
  bits (g 4) 7 0 ≠ 0 && bits (g 4) 15 8 ≠ 0 && bits (g 4) 23 16 ≠ 0 &&
  dies.any fun d => d.1 = bits (g 0) 15 0 && (d.2 = bits (g 0) 31 16 || d.2 = 0xFFFF)

/-- A layer answered discovery: its words, and whether they are accepted; an accepted die is given its timing words. -/
def State.discover (s : State) (l : Nat) (w : List Nat) : State :=
  let s := s.upTo 8 fun k s => s.setFld Fld.LAY_ID_WORD (w.getD k 0) l k
  let s := s.setFld Fld.LAY_STATE_PRESENT 1 l
  let s := s.setFlag Fld.LAY_STATE_JUNCTION ((l = 3 || l = 7 || l = 11) && (w.getD 3 0).testBit 8) l
  let ok := s.idOk l w
  let s := s.setFlag Fld.LAY_STATE_ID_OK ok l
  let s := { s with rep := { s.rep with groups := Store.set s.rep.groups l 0 (bits (w.getD 3 0) 23 16) } }
  if ok then s.upTo 4 fun i s => s.sendTiming (4 * l + i)
  else s.raise .vlDiscovery 0 (vlDetail (4 * l) 0 (l / 4))

/-- A layer that never answered is absent. -/
def State.noLayer (s : State) (l : Nat) : State :=
  (s.setFld Fld.LAY_STATE_PRESENT 0 l).setFld Fld.LAY_STATE_ID_OK 0 l

/-- Whether the junction above segment h relays: present, accepted, JUNCTION set (R308). -/
def State.relays (s : State) (h : Nat) : Bool :=
  h < 3 && s.flag Fld.LAY_STATE_PRESENT (4 * h + 3) && s.flag Fld.LAY_STATE_ID_OK (4 * h + 3) &&
  s.flag Fld.LAY_STATE_JUNCTION (4 * h + 3)

/-- A 64-bit number rotated left. -/
def rotl64 (x n : Nat) : Nat := (x * 2 ^ n + x / 2 ^ (64 - n)) % 2 ^ 64

/-- The stack ID: the base-die ID xor the serial number of each accepted layer l rotated left by l (R380). -/
def State.stackId (s : State) : Nat :=
  (List.range 16).foldl (fun n l =>
    if s.flag Fld.LAY_STATE_ID_OK l then
      n ^^^ rotl64 (s.fld Fld.LAY_ID_WORD l 6 + s.fld Fld.LAY_ID_WORD l 7 * 2 ^ 32) (l + 1)
    else n) (s.fld Fld.BST_DIE_ID_ID)

/-! ### Vertical training (R280 to R284) -/

/-- The path gear a column is given: the fastest gear allowed whose limit is at least four times its CER, else 3 (R280). -/
def State.gearFor (s : State) (q cer : Nat) : Nat :=
  (([1, 2, 3].find? fun g => g ≥ s.fld Fld.VLQ_GEAR_CFG_TOP q && 4 * cer ≤ s.gearLim q g)).getD 3

/-- What V3 or V4 leaves of a column that passes: its trims; its path gear and its gains (R280, R284). -/
def State.trainedCol (s : State) (j : VTrain) (x : ColTrain) : State :=
  let b := x.b.val
  let n := x.col.val
  if j.phase = 3 then (s.setCal Fld.VLQ_COL_PH x.ph b n).setCal Fld.VLQ_COL_DLY x.dly b n else
  x.gains.foldl (fun s g => s.noteGain b n g) (s.setCal Fld.VLQ_COL_GEAR (s.gearFor (b / 16) x.cer) b n)

/-- BASE takes MEAN at the end of a cold V4, on every column of the segment's bundles (R284). -/
def State.takeBase (s : State) (j : VTrain) : State :=
  (j.bundles.filter fun b => b / 16 ≥ j.seg).foldl (fun s b =>
    s.upTo 64 fun n s => s.setCal Fld.VLQ_COL_AGC_BASE (s.col Fld.VLQ_COL_AGC_MEAN b n) b n) s

/-- Whether two settings are within two steps. -/
def near2 (a b : Nat) : Bool := a ≤ b + 2 && b ≤ a + 2

/-- Whether a column fails: no passing phase in V3 within the range searched, past G3_MAX in V4 (R280, R282). -/
def State.colFails (s : State) (j : VTrain) (x : ColTrain) : Bool :=
  if j.phase = 3 then x.fail || x.ph > 15 || x.dly > 255 ||
    (!j.cold && !(near2 x.ph (s.col Fld.VLQ_COL_PH x.b x.col) && near2 x.dly (s.col Fld.VLQ_COL_DLY x.b x.col)))
  else x.cer > s.gearLim (x.b.val / 16) 3

/-- The segments whose training failed for a bundle of quadrant q (STATUS.SEG_FAIL). -/
def State.segFail (s : State) (seg : Nat) (bundles : List Nat) : State :=
  (bundles.map fun b => b / 16).eraseDups.foldl (fun s q =>
    (s.setFld Fld.VLQ_STATUS_SEG_FAIL (setBit (s.fld Fld.VLQ_STATUS_SEG_FAIL q) seg) q).raise .vlTrainFail q
      { vlDetail 0 0 (seg + 1) with access := 9 }) s

/-- One column of V3 or V4: a failed one is spared at once; a bundle left without enough working columns has failed its training (R282, R305, R306). -/
def State.trainCol (s : State) (j : VTrain) (x : ColTrain) : State × VTrain :=
  let b := x.b.val
  let n := x.col.val
  if ¬ j.bundles.contains b then (s, j)
  else if ¬ s.colFails j x then (s.trainedCol j x, j)
  else
    let lost := (s.standbyCol b).isNone && !s.idleSpare b n && s.lastStraw b (s.logical b n)
    let s := (s.raise .vlTrainCol b (vlDetail b n)).spareNow b n
    if lost then (s.segFail j.seg [b], { j with bundles := j.bundles.filter fun y => y != b }) else (s, j)

/-- The columns of a phase in turn. -/
def State.trainCols (s : State) (j : VTrain) (cols : List ColTrain) : State × VTrain :=
  cols.foldl (fun a x => a.1.trainCol a.2 x) (s, j)

/-- Bundles carry trains again: spares in standby, windows restarted, the PRE that waited for them sent, channels out of self-refresh by R248 after two frames without a command train (R204, R273, R280, R309, R313). -/
def State.bundleTrained (s : State) (relay : Bool) (b : Nat) : State :=
  let s := s.modBund b fun x => { x with up := true, vote := [], ph := [], dly := [], nc := [], nd := [], good := [], win := 0 }
  let s := (List.range 6).foldl (fun s i =>
    if (Store.find (s.bund b).serves (58 + i)).isSome ∨ s.col Fld.VLQ_COL_ROLE b (58 + i) = 2 then s
    else s.setCol Fld.VLQ_COL_ROLE 1 b (58 + i)) s
  let late := s.lapsed b
  let s := if (s.chan b).preDue ∧ (s.chan b).exited then s.preAll b else s
  if late then s.sendSrx b false
  else if relay ∨ (s.chan b).path then (s.modChan b fun x => { x with path := false }).reside b else s

/-- What TRAINING and TRAINED of the quadrants read. -/
def State.trainFlags (s : State) : State :=
  s.upTo 4 fun q s =>
    let mine := (List.range 16).map (16 * q + ·)
    let busy := s.vert.trains.any fun j => j.bundles.any fun b => b / 16 = q
    (s.setFlag Fld.VLQ_STATUS_TRAINING busy q).setFlag Fld.VLQ_STATUS_TRAINED (mine.all fun b => (s.bund b).up) q

/-- The training at the head of the list ends with segments 0 to n − 1 good: the bundles of accepted layers below carry trains again. -/
def State.endTraining (s : State) (j : VTrain) (n : Nat) : State :=
  let s := { s with vert := { s.vert with
    trains := s.vert.trains.drop 1
    pllLost := s.vert.pllLost.filter fun q => !(j.bundles.any fun b => b / 16 = q)
    blk := match j.block with
      | some q => s.vert.blk.filter fun x => x != q
      | none => s.vert.blk } }
  let s := j.bundles.foldl (fun s b =>
    if b / 16 ≥ n ∨ ¬ s.flag Fld.LAY_STATE_ID_OK (b / 4) ∨ (s.chan b).swap.isSome then s else s.bundleTrained j.relay b) s
  s.trainFlags

/-- The identities of a segment are read (V2): layers that did not answer are absent, and so is everything above a layer that does not relay; a seeded training of a start whose stack ID is not the calibration's goes on cold from V3 of the first segment (R308, R479). -/
def State.afterV2 (s : State) (j : VTrain) (x : VPhase) : State × VTrain :=
  let s := s.upTo 4 fun i s =>
    let l := 4 * j.seg + i
    match x.ids.find? fun e => e.1.val = l with
    | some e => s.discover l e.2
    | none => s.noLayer l
  let s := if s.relays j.seg then s.setFld Fld.VLQ_SPINE_RELAY_OK (setBit (s.fld Fld.VLQ_SPINE_RELAY_OK) j.seg) else s
  let s := if s.relays j.seg ∧ j.seg = 0 then s.setFld Fld.VLQ_SPINE_RBEAT_LOCK 1 else s
  let top : Bool := j.seg ≥ j.last || !s.relays j.seg
  if ¬ top then (s, { j with phase := 3 }) else
  let s := if j.start ∧ j.seg < 3 then s.upTo 16 fun l s => if l ≥ 4 * (j.seg + 1) then s.noLayer l else s else s
  let id := s.stackId
  if j.start ∧ ¬ j.cold ∧ s.start.calStack ≠ some id then
    (s.setFld Fld.NVM_CAL_SEED 2, { j with seg := 0, phase := 3, cold := true, known := true })
  else (s, { j with phase := 3 })

/-- The spine-site word of a segment (R267, R306, R307): VLQ[0].SPINE.SITES for the first. -/
def State.siteWord (s : State) (seg : Nat) : Nat :=
  if seg = 0 then s.fld Fld.VLQ_SPINE_SITES else Store.get s.vert.sites seg 0x688

/-- Put the spine-site word of a segment in force. -/
def State.setSiteWord (s : State) (seg v : Nat) : State :=
  if seg = 0 then s.setFld Fld.VLQ_SPINE_SITES v
  else { s with vert := { s.vert with sites := Store.set s.vert.sites seg 0x688 v } }

/-- Spine sites of a segment recorded as retired: kind 0x0B, 64 + site, on bundle 0 (R356, R480). -/
def State.deadSites (s : State) (seg : Nat) : List Nat :=
  (s.rep.copy.filter fun e => e.kind = 11 && e.bank = seg + 1 && e.row ≥ 64).map fun e => e.row - 64

/-- Move a spine signal to the lowest standby site of SP.C4 to SP.C7; false where none is left (R306). -/
def State.moveSite (s : State) (seg k : Nat) : State × Bool :=
  let w := s.siteWord seg
  let used := (List.range 4).map fun i => bits w (3 * i + 2) (3 * i)
  let old := bits w (3 * k + 2) (3 * k)
  let dead := if (s.deadSites seg).contains old then s.deadSites seg else old :: s.deadSites seg
  let s := if (s.deadSites seg).contains old then s
    else s.repSet { kind := 11, state := 6, bank := seg + 1, row := 64 + old }
  match [4, 5, 6, 7].find? fun i => !used.contains i && !dead.contains i with
  | none => (s, false)
  | some i => (s.setSiteWord seg (putBits w (3 * k + 2) (3 * k) i), true)

/-- The signals of a segment whose site is recorded as retired move before its training (R356). -/
def State.spineReady (s : State) (seg : Nat) : State :=
  (List.range 4).foldl (fun s k =>
    if (s.deadSites seg).contains (bits (s.siteWord seg) (3 * k + 2) (3 * k)) then (s.moveSite seg k).1 else s) s

/-- V1 of a segment: failing signals move to standby sites, the dies of the segment are told theirs; the spine is driven (R306, R307). -/
def State.spinePhase (s : State) (seg : Nat) (moves : List (Fin 4)) : State × Bool :=
  let s := if seg = 0 then s.setFld Fld.VLQ_SPINE_DRIVE 1 else s
  let r := moves.foldl (fun (a : State × Bool) (k : Fin 4) =>
    let b := a.1.moveSite seg k.val
    (b.1, a.2 && b.2)) (s.spineReady seg, true)
  let s := r.1
  if s.siteWord seg = 0x688 then r else
  (s.upTo 4 fun i s => s.setcfg (16 * seg + 4 * i) (4 * seg + i) 0x0F02 (s.siteWord seg) .other, r.2)

/-- A phase of the training in progress ends with what it found (R280 to R282, R421). -/
def State.endPhase (s : State) (x : VPhase) : State :=
  match s.vert.trains with
  | [] => s
  | j :: _ =>
    let go (s : State) (k : VTrain) : State := { s with vert := { s.vert with trains := k :: s.vert.trains.drop 1 } }
    match j.phase with
    | 1 =>
      let (s, placed) := s.spinePhase j.seg x.moves
      if x.spine ∧ placed then go s { j with phase := 2 }
      else (s.segFail j.seg (j.bundles.filter fun b => b / 16 ≥ j.seg)).endTraining j j.seg
    | 2 =>
      let (s, k) := s.afterV2 j x
      go s k
    | 3 =>
      let (s, j) := s.trainCols j x.cols
      go s { j with phase := 4 }
    | 4 =>
      let (s, j) := s.trainCols j x.cols
      let s := if j.cold then x.wit.foldl (fun s e => s.setWitRef e.1 e.2.1 e.2.2) (s.takeBase j) else s
      go s { j with phase := 5 }
    | _ =>
      let s := x.lats.foldl (fun s e => if s.flag Fld.CHN_REF_STATE_SR e.1 then s else s.latency e.1 e.2) s
      if j.seg < j.last ∧ s.relays j.seg then go s { j with seg := j.seg + 1, phase := if j.known then 3 else 1 }
      else s.endTraining j (j.seg + 1)

/-! ### Relays (R313) -/

/-- Channels above junction 4h. -/
def aboveJunction (h : Nat) : List Nat := (List.range 64).filter fun c => c ≥ 16 * h

/-- RELAY_LOSS_DECLARED: junction 4(h + 1) has lost its relay: the channels above are sided, RELAY RESET goes to the junction, reads in flight count as undelivered and writes are due for resend (R270, R313). -/
def execRelayLossDeclared (h : Fin 3) (rbeat : Bool) (s : State) : Out :=
  let g := h.val + 1
  .next <| if s.vert.relayLost.contains g ∨ (¬ rbeat ∧ Store.get s.vert.misses g 0 < 2) then s else
    let s := s.raise .vlRelayLoss 0 (vlDetail (16 * g - 4) 0 g)
    let s := s.setFld Fld.LAY_STATE_RELAY_LOSS 1 (4 * g - 1)
    let ok := s.fld Fld.VLQ_SPINE_RELAY_OK
    let s := s.setFld Fld.VLQ_SPINE_RELAY_OK (if ok.testBit h.val then ok - 2 ^ h.val else ok)
    let s := if rbeat ∧ g = 1 then (s.setFld Fld.VLQ_SPINE_RBEAT_LOCK 0).bump Fld.VLQ_SPINE_BEAT_LOSS else s
    let s := { s with vert := { s.vert with relayLost := g :: s.vert.relayLost, misses := Store.del s.vert.misses g } }
    let s := (aboveJunction g).foldl (fun s c =>
      let s := (s.modChan c fun x => { x with path := true }).reside c
      let flying := (s.chan c).out
      let s := s.modChan c fun x => { x with
        out := [], wins := [], ccal := none
        prio := x.prio ++ flying.map fun t => { t with again := true } }
      let s := s.bump Fld.LAY_CNT_COUNT (layIx c) 2 (flying.filter fun t => !t.write).length
      (s.bump Fld.LAY_CNT_COUNT (layIx c) 3 (flying.filter fun t => t.write).length).modBund c fun b => { b with up := false, exch := false }) s
    let b := 16 * g - 4
    s.sendCfg { op := 0x17, bundle := b, layer := 4 * g - 1, use := .relay g } [(0x17, 4 * g - 1 + 16)]

/-- RELAY_FLAG_RESTORED: the junction's flag reads 1 again; the segment above is trained seeded, from V2 while its spine is good; with the spine above lost too, each further segment (R313). -/
def execRelayFlagRestored (h : Fin 3) (spineLost : Bool) (s : State) : Out :=
  let g := h.val + 1
  .next <| if ¬ s.vert.relayLost.contains g then s else
    let s := s.setFld Fld.LAY_STATE_RELAY_LOSS 0 (4 * g - 1)
    let s := s.setFld Fld.VLQ_SPINE_RELAY_OK (setBit (s.fld Fld.VLQ_SPINE_RELAY_OK) h.val)
    let s := if g = 1 then s.setFld Fld.VLQ_SPINE_RBEAT_LOCK 1 else s
    let s := { s with vert := { s.vert with relayLost := s.vert.relayLost.filter fun x => x != g } }
    s.startTraining { seg := g, phase := if spineLost then 1 else 2, last := if spineLost then 3 else g, bundles := aboveJunction g, relay := true }

/-! ### Fusing (R349, R350) -/

/-- Whether an entry's HREP is wanted: SOFT, fewer than two failures, not tried in this start. -/
def State.wantsFuse (s : State) (l : Nat) (e : RepEnt) : Bool :=
  (e.kind = 1 || e.kind = 4) && e.unit / 4 = l && e.state = 2 && e.data % 2 = 0 && e.fails < 2 &&
  !(s.rep.tried.any fun y => y.same e && y.res = e.res)

/-- HREP_ISSUE: with fusing enabled and no HREP in progress on the die, the next SOFT entry in entry order is sent (R349). -/
def execHrepIssue (l : LayerIx) (s : State) : Out :=
  .next <| if s.rep.hreps.any fun h => h.1 = l.val then s else
    let on : Bool := s.fld Fld.REP_CFG_FUSE = 2 || (s.fld Fld.REP_CFG_FUSE = 1 && s.rep.fuseGo)
    match (if on then s.rep.copy.find? (s.wantsFuse l) else none) with
    | none => s
    | some e =>
      let s := { s with rep := { s.rep with
        hreps := s.rep.hreps ++ [(l.val, e)], hrepAt := Store.put s.rep.hrepAt l.val s.ticks } }
      s.sendRep 0x15 e.unit e (.hrep l)

/-- An HREP ends: FUSED, or REP_HREP_FAIL and the entry stays SOFT (R349). -/
def State.hrepEnd (s : State) (l : Nat) (good : Bool) : State :=
  match s.rep.hreps.find? fun h => h.1 = l with
  | none => s
  | some h =>
    let s := { s with rep := { s.rep with hreps := s.rep.hreps.filter fun x => x.1 != l } }
    let e := h.2
    if good then (s.bump Fld.REP_CNT_COUNT 0 1).repSet { e with state := 4 } else
    let s := { s with rep := { s.rep with tried := e :: s.rep.tried } }
    let s := (s.bump Fld.REP_CNT_COUNT 0 5).repSet { e with fails := min 2 (e.fails + 1) }
    s.raise .repHrepFail 0 { detail := repDetail e.bank (some (if e.kind = 4 then .spare (s.groupIndex e) else e.resource)), loc := some (e.unit, l + 1, e.bank, e.row, 0) }

/-- HREP_TIMEOUT: no alarm within HREP_LIMIT × 1,024 frames of the HREP (R349). -/
def execHrepTimeout (l : LayerIx) (s : State) : Out :=
  .next (if s.ticks < Store.get s.rep.hrepAt l 0 + 1024 * s.fld Fld.REP_CFG_HREP_LIMIT then s else s.hrepEnd l false)

/-! ### Configuration answers (R294, R297) -/

/-- The configuration command a bundle's next answer belongs to. -/
def State.cfgHead (s : State) (b : Nat) : Option CfgCmd := s.vert.cfg.find? fun k => k.bundle = b

/-- Change the oldest configuration command of a bundle. -/
def State.modCfg (s : State) (b : Nat) (g : CfgCmd → CfgCmd) : State :=
  let rec go : List CfgCmd → List CfgCmd
    | [] => []
    | k :: l => if k.bundle = b then g k :: l else k :: go l
  { s with vert := { s.vert with cfg := go s.vert.cfg } }

/-- The oldest configuration command of a bundle is finished. -/
def State.dropCfg (s : State) (b : Nat) : State :=
  let rec go : List CfgCmd → List CfgCmd
    | [] => []
    | k :: l => if k.bundle = b then l else k :: go l
  { s with vert := { s.vert with cfg := go s.vert.cfg } }

/-- The identity words of a die in CORE reset were read: accepted, its timing words are rewritten and its channels leave self-refresh (R455). -/
def State.coreBack (s : State) (l : Nat) (w : List Nat) : State :=
  let s := { s with vert := { s.vert with crst := s.vert.crst.filter fun x => x != l } }
  if s.idOk l w then s.upTo 4 fun i s => (s.sendTiming (4 * l + i)).sendSrx (4 * l + i) false
  else s.raise .vlDiscovery 0 (vlDetail (4 * l) 0 (l / 4))

/-- A soft repair was refused at reapplication: its spare is bad and the next resource is taken (R347, R349). -/
def State.softFail (s : State) (c bank row : Nat) : State :=
  match s.repairOf c bank row with
  | none => s
  | some e =>
    let s := s.markBad c bank e.resource
    match s.chooseRes c bank row .spare with
    | none => (s.repDel e).exhausted c bank row
    | some (.spare i) =>
      let e := rowEnt c bank row 2 (.spare i)
      (s.repSet e).sendRep 0x14 c e (.soft c 1 bank row)
    | some r => s.repSet (rowEnt c bank row 3 r)

/-- The CORE reset of a layer reaches the fields of its LAY block and of its four channels (R13, R17, R455). -/
def State.coreFields (s : State) (l : Nat) : State :=
  (List.range 4).foldl (fun s i => s.resetBlk .core .chn (4 * l + i)) (s.resetBlk .core .lay l)

/-- A CDONE, or a command given up: what it means for the command's purpose. -/
def State.cfgDone (s : State) (k : CfgCmd) (fail : Bool) : State :=
  match k.use with
  | .switch b col sp => s.switchAck b col sp k.layer k.addr
  | .cancel b col sp => s.switchAck b col sp k.layer k.addr
  | .srep c => s.migSrep c fail
  | .soft c kind bank row =>
    let s := if ¬ fail then s else if kind = 1 then s.softFail c bank row
      else s.repSet { kind := 4, state := 5, unit := c, bank := bank, res := row }
    s.marchResume c bank
  | .hrep l => if fail then s.hrepEnd l false else s
  | .crst l =>
    if fail then { s with vert := { s.vert with crst := s.vert.crst.filter fun x => x != l } }
    else (s.coreFields l).sendCfg { op := 0x10, bundle := 4 * l, layer := l, addr := 0, count := 8, use := .ident l } [getcfgOp l 0 8]
  | _ => s

/-- A poll that is not answered: no sensor reads valid, no witness (R417, R420). -/
def State.pollFailed (s : State) (u : CfgUse) : State :=
  match u with
  | .temp l => s.tempPoll l []
  | .gains l => s.modThm l fun y => { y with means := none }
  | _ => s

/-- CFGH_RX: the header of a GETCFG's or TEMP's answer (R294). -/
def execCfghRx (b : ChanIx) (layer : LayerIx) (addr count : Nat) (err : Bool) (s : State) : Out :=
  .next <| if s.cmdShut b then s else match s.cfgHead b with
  | none => s.stale b
  | some k =>
    if k.op ≠ 0x10 ∧ k.op ≠ 0x13 ∨ k.layer ≠ layer.val ∨ k.head ∨ (k.op = 0x10 ∧ (k.addr ≠ addr ∨ k.count ≠ count)) then s.stale b
    else if err then (s.dropCfg b).pollFailed k.use
    else s.modCfg b fun k => { k with head := true }

/-- CFGD_RX: a word of that answer; with the last one the command is answered (R294, R308, R455). -/
def execCfgdRx (b : ChanIx) (v : BitVec 32) (s : State) : Out :=
  .next <| if s.cmdShut b then s else match s.cfgHead b with
  | none => s.stale b
  | some k =>
    if ¬ k.head then s.stale b else
    let got := k.got ++ [v.toNat]
    if got.length < k.count then s.modCfg b fun k => { k with got := got } else
    let s := s.dropCfg b
    match k.use with
    | .ident l => s.coreBack l got
    | .temp l => s.tempPoll l got
    | .gains l => s.modThm l fun y => { y with means := some got }
    | .cols l => s.witness l got
    | _ => s

/-- CDONE_RX: a SETCFG, SREP, HREP, CRST or RELAY is answered; a switch's write refused is written again (R274, R294). -/
def execCdoneRx (b : ChanIx) (layer : LayerIx) (op : BitVec 5) (fail : Bool) (_detail : BitVec 16) (s : State) : Out :=
  .next <| if s.cmdShut b then s else match s.cfgHead b with
  | none => s.stale b
  | some k =>
    if k.op ≠ op.toNat ∨ k.layer ≠ layer.val then s.stale b
    else match k.use, fail with
      | .switch _ _ _, true => s.launchCfg k
      | .cancel _ _ _, true => s.launchCfg k
      | _, _ => (s.dropCfg b).cfgDone k fail

/-- An answer that was due has not come: a switch's write is repeated, any other up to four attempts (R274, R308); then an SREP counts as refused, a silent die as failing its check. -/
def State.cfgMissed (s : State) (b : Nat) : State :=
  match s.cfgHead b with
  | none => s
  | some k =>
    let endless : Bool := match k.use with
      | .switch _ _ _ => true
      | .cancel _ _ _ => true
      | _ => false
    let poll : Bool := match k.use with
      | .temp _ => true
      | .gains _ => true
      | .cols _ => true
      | _ => false
    if poll then (s.dropCfg b).pollFailed k.use
    else if endless ∨ k.tries < 3 then
      (s.modCfg b fun k => { k with tries := k.tries + 1, head := false, got := [] }).launchCfg k
    else
      let s := s.dropCfg b
      match k.use with
      | .ident l => (s.noLayer l).coreBack l []
      | _ => s.cfgDone k true

/-- CONFIG_RESPONSE_MISSED: a CFGH, CFGD or CDONE does not arrive at its chip (R274, R308). -/
def execConfigResponseMissed (b : ChanIx) (s : State) : Out := .next (s.cfgMissed b)

/-- CERR_RX: a command word failed; a configuration command among the words is sent again, a data train's lines are reissued when its train does not come (R295, R303). -/
def execCerrRx (b : ChanIx) (_layer : LayerIx) (op : BitVec 5) (_notDecoded : Bool) (s : State) : Out :=
  if s.cmdShut b then .next s else
  let s := (s.bump Fld.LAY_CNT_COUNT (layIx b) 1).raise .vlCmdErr b (vlDetail b)
  .next <| match s.cfgHead b with
  | some k => if op.toNat = k.op ∨ op = 0 then s.cfgMissed b else s
  | none => s

/-! ### Alarms (R310, R311) -/

/-- What a newly accepted alarm does by its cause (R349, R417, R309). -/
def State.alarmCause (s : State) (l cause detail : Nat) : State :=
  match cause with
  | 0x01 => ({ s with vert := { s.vert with hot := if s.vert.hot.contains l then s.vert.hot else s.vert.hot ++ [l] } }).bump Fld.THM_CNT_COUNT 0 3
  | 0x04 => s.hrepEnd l (detail % 2 = 0)
  | 0x07 => s.upTo 4 fun i s =>
      if ¬ detail.testBit i then s else
      let c := 4 * l + i
      let s := (s.bump Fld.LAY_CNT_COUNT l 7).raise .vlWatchdog c (vlDetail c)
      s.modRef c fun r => { r with wdog := true }
  | _ => s

/-- ALRM_RX: answered with ALAK; its number and cause recorded; a number not yet accepted counts, raises VL_CORE_ALARM and acts by its cause; REFB and NREF of the bundle are repeated (R304, R311). -/
def execAlrmRx (b : ChanIx) (layer : LayerIx) (num : Byte) (cause : Byte) (detail : BitVec 12) (s : State) : Out :=
  if s.cmdShut b then .next s else
  let l := layer.val
  let s := s.launch b [(0x18, l + 16 * num.toNat)]
  let s := ((s.setFld Fld.LAY_ALARM_NUMBER num.toNat l).setFld Fld.LAY_ALARM_CAUSE cause.toNat l).setFld Fld.LAY_ALARM_DETAIL detail.toNat l
  let s := s.repeatRefresh b
  .next <| if Store.get s.vert.alarms l 0 = num.toNat + 1 then s else
    let s := { s with vert := { s.vert with alarms := Store.set s.vert.alarms l 0 (num.toNat + 1) } }
    let s := (s.bump Fld.LAY_CNT_COUNT l 6).raise .vlCoreAlarm b (vlDetail b 0 0 cause.toNat num.toNat)
    s.alarmCause l cause.toNat detail.toNat

end Sys2Proof.Machine
end

