-- ==== Sys2Proof/Machine/Nvm.lean ====
section
/-! DEFINITION. Non-volatile memory (17): flash operations and their priority, wear credit, commits of REP and CAL, journal and SEAL writes, the window; what a SEAL write means to the test that asked for it (13). -/
namespace Sys2Proof.Machine

/-! ### Operations (R488, R489) -/

/-- The TYPE code a source's detail carries (R492). -/
def NvmKind.type : NvmKind → Nat
  | .sealWr _ => 0x10 | .journal => 0x20 | .jrnHead => 0x20 | .jrnErase => 0x20
  | .rep => 0x12 | .cal => 0x11 | .slot _ => 0x21 | .winRead => 0 | .winProg => 0 | .winErase => 0

/-- The order of R488. -/
def NvmKind.prio : NvmKind → Nat
  | .sealWr _ => 2 | .journal => 3 | .jrnHead => 3 | .jrnErase => 3
  | .rep => 4 | .cal => 5 | .slot _ => 6 | .winRead => 7 | .winProg => 7 | .winErase => 7

/-- The wear area an operation's credit comes from, if it costs one (R489). -/
def NvmOp.area (o : NvmOp) : Option Nat :=
  match o.kind with
  | .sealWr _ => if o.erases > 0 then some 0 else none
  | .cal => some (if o.copyB then 2 else 1)
  | .rep => some (if o.copyB then 4 else 3)
  | .jrnErase => some 5
  | _ => none

/-- Whether an operation may take its next step for want of no credit. -/
def State.credited (s : State) (o : NvmOp) : Bool :=
  o.paid || (match o.area with
    | some a => s.fld Fld.NVM_WEAR_CREDIT 0 a > 0
    | none => true)

/-- The six credits as a WEAR entry's payload (R483, R484). -/
def State.wearPayload (s : State) : Nat :=
  (List.range 6).foldl (fun n a => n + s.fld Fld.NVM_WEAR_CREDIT 0 a * 2 ^ (16 * a)) 0

/-- Charge an operation's credit and journal the credits (R489). -/
def State.charge (s : State) (o : NvmOp) : State × NvmOp :=
  match o.paid, o.area with
  | false, some a =>
    let s := s.setFld Fld.NVM_WEAR_CREDIT (s.fld Fld.NVM_WEAR_CREDIT 0 a - 1) 0 a
    (s.journal 0x06 0 s.wearPayload, { o with paid := true })
  | _, _ => (s, { o with paid := true })

/-- Operations that wait for credit raise NVM_WEAR once and count (R489). -/
def State.noteDeferred (s : State) : State :=
  s.nvm.ops.foldl (fun s o =>
    match o.area with
    | some a =>
      if s.credited o ∨ s.nvm.deferred.contains a then s else
      let s := { s with nvm := { s.nvm with deferred := a :: s.nvm.deferred } }
      (s.bump Fld.NVM_CNT_COUNT 0 5).raise .nvmWear 0 { detail := o.kind.type }
    | none => s) s

/-- The journal's own next operation: program the oldest buffered entry, or open the next sector; NEXT reads 0 while the head is full (R483). -/
def State.jrnOp (s : State) : List NvmOp :=
  if s.nvm.jrn.isEmpty then []
  else if s.fld Fld.NVM_JRN_NEXT ≠ 0 then [{ kind := .journal }]
  else if s.nvm.ahead then [{ kind := .jrnHead }] else []

/-- The operation R488 chooses: the first of the highest priority that has its credit; until the stores have been read only the window works. -/
def State.nvmPick (s : State) : Option NvmOp :=
  let cands := (s.nvm.ops ++ s.jrnOp).filter fun o => s.credited o && (s.nvm.loaded || o.kind.prio = 7)
  cands.foldl (fun (m : Option NvmOp) o => match m with
    | some p => if o.kind.prio < p.kind.prio then some o else some p
    | none => some o) none

/-- Whether the NVM may start a step: no HOLD, no reset holding it (R435, R452). -/
def State.nvmRuns (s : State) : Bool := s.hold.isNone && !s.start.held && s.nvm.cur.isNone

/-- Start the next step when the flash is free. -/
def State.nvmKick (s : State) : State :=
  if ¬ s.nvmRuns then s else
  let s := s.noteDeferred
  match s.nvmPick with
  | none => s
  | some o =>
    let s := { s with nvm := { s.nvm with ops := s.nvm.ops.erase o } }
    let (s, o) := s.charge o
    { s with nvm := { s.nvm with cur := some o } }

/-- Add an operation. -/
def State.nvmAdd (s : State) (o : NvmOp) : State := ({ s with nvm := { s.nvm with ops := s.nvm.ops ++ [o] } }).nvmKick

/-! ### Commits (R359, R476, R479) -/

/-- Which copy a commit writes: an invalid one, or the one of lower GEN; true for B (R476). -/
def writesB : Option Nat → Option Nat → Bool
  | none, _ => false
  | some _, none => true
  | some a, some b => b < a

/-- Sector erases and page programs of a record of n bytes (R477). -/
def commitSteps (n : Nat) : Nat × Nat := ((n + 4095) / 4096, (n + 255) / 256)

/-- Start a commit of the working copy (R359, R480). -/
def State.commitRep (s : State) : State :=
  if s.nvmHas .rep then s
  else if s.rep.copy.length > 65533 then s.raise .repStoreFail
  else
    let (e, p) := commitSteps (36 + 16 * s.rep.copy.length)
    s.nvmAdd { kind := .rep, steps := e + p, erases := e, copyB := writesB s.nvm.repA s.nvm.repB, upto := s.rep.deltas.length }

/-- Start a commit of CAL (R478, R479). -/
def State.commitCal (s : State) : State :=
  if s.nvmHas .cal then s else
  let (e, p) := commitSteps 90524
  s.nvmAdd { kind := .cal, steps := e + p, erases := e, copyB := writesB s.nvm.calA s.nvm.calB }

/-- A REP commit has read back valid: its copy governs; the deltas it holds are committed, later ones are journaled anew (R359, R481). -/
def State.repCommitted (s : State) (o : NvmOp) : State :=
  let gen := s.fld Fld.REP_STORE_GEN + 1
  let s := s.setFld Fld.REP_STORE_GEN gen
  let s := s.setFld (if o.copyB then Fld.REP_STATUS_STORE_B_OK else Fld.REP_STATUS_STORE_A_OK) 1
  let left := (s.rep.deltas.drop o.upto).zipIdx.map fun e => { e.1 with seq := e.2 + 1 }
  let s := { s with rep := { s.rep with deltas := left, first := none } }
  let s := { s with nvm := { s.nvm with
    repA := if o.copyB then s.nvm.repA else some gen
    repB := if o.copyB then some gen else s.nvm.repB } }
  let s := (s.setFld Fld.REP_STORE_PENDING (min left.length 0xFFFF)).bump Fld.REP_CNT_COUNT 0 6
  left.foldl (fun s d => s.journalDelta d) (s.journal 0x07 0x12 gen)

/-- A CAL commit has read back valid (R476). -/
def State.calCommitted (s : State) (o : NvmOp) : State :=
  let gen := max (s.nvm.calA.getD 0) (s.nvm.calB.getD 0) + 1
  let s := { s with nvm := { s.nvm with
    calA := if o.copyB then s.nvm.calA else some gen
    calB := if o.copyB then some gen else s.nvm.calB } }
  let s := s.setFld (if o.copyB then Fld.NVM_CAL_B_OK else Fld.NVM_CAL_A_OK) 1
  ((s.setFld Fld.NVM_CAL_GEN gen).setFld Fld.NVM_CAL_DIRTY 0).journal 0x07 0x11 gen

/-! ### The seal (R376 to R379) -/

/-- The body a SEAL write carries now (R378). -/
def State.sealNow (s : State) (state : Nat) : Seal := {
  state := state, kind := s.bst.cur.kind, layers := s.bst.cur.layers, abort := s.bst.cur.abort
  steps := s.fld Fld.BST_STEPS_VALUE, stepEnd := s.fld Fld.BST_STEP_END_VALUE
  sig := s.fld Fld.BST_SIG_VALUE, expect := s.fld Fld.BST_EXPECT_VALUE
  stack := s.fld Fld.BST_STACK_ID_ID, imageCrc := s.bst.imageCrc, gen := s.bst.cur.gen + 1
  failRows := s.fld Fld.BST_FAILS_FAIL_ROWS, unrep := s.bst.unrep
  logic := s.fld Fld.BST_FAILS_LOGIC_FAIL, loop := s.fld Fld.BST_FAILS_LOOP_FAIL }

/-- The RESULT registers show the seal in force. -/
def State.showSeal (s : State) (x : Seal) : State :=
  (((s.setFld Fld.BST_RESULT_STATE x.state).setFld Fld.BST_RESULT_KIND x.kind).setFld Fld.BST_RESULT_ABORT x.abort).setFld
    Fld.BST_RESULT_UNREPAIRED (min x.unrep 255)

/-- Whether an operation writes SEAL. -/
def NvmOp.seals (o : NvmOp) : Bool :=
  match o.kind with
  | .sealWr _ => true
  | _ => false

/-- Queue a SEAL write; it takes an erase first when it opens a sector of the ring, behind the SEAL writes before it (R482). -/
def State.writeSeal (s : State) (state : Nat) : State :=
  let before := (s.nvm.cur.toList ++ s.nvm.ops).filter NvmOp.seals
  let e := if (s.nvm.sealPos + before.length) % 32 = 0 then 1 else 0
  s.nvmAdd { kind := .sealWr state, steps := e + 1, erases := e }

/-- A test aborts: its cause, BST_NOT_RUN, and but for causes 4 and 7 a NOT_RUN seal; a start-up test that met cause 1 or 2 is retried once (R376, R377, R384). -/
def State.abortTest (s : State) (cause : Nat) : State :=
  if s.bst.kind = 0 then s else
  let s := (s.setFld Fld.BST_STATUS_ABORT_CAUSE cause).setFld Fld.BST_STATUS_PHASE 0
  let s := s.raise .bstNotRun 0 { detail := cause, access := 7 }
  let s := s.bump Fld.BST_CNT_COUNT 0 1
  let s := s.eachChan fun c s => if (s.chan c).test then (s.stopMarch c).setTest c false else s
  let s := s.setFld Fld.PWR_AVS_STATUS_FROZEN 0
  let wait : Bool := s.bst.kind = 2 && (cause = 1 || cause = 2) && !s.bst.retried
  let s := { s with bst := { s.bst with kind := 0, begun := false, waiting := wait, cur := { s.bst.cur with abort := cause } } }
  if cause = 4 ∨ cause = 7 then s else s.writeSeal 3

/-- A SEAL write has ended well: it governs; OPEN lets part 1 begin, CLOSED ends the test and starts its age (R379, R382). -/
def State.sealWritten (s : State) (state : Nat) : State :=
  let x := s.sealNow state
  let s := { s with
    bst := { s.bst with cur := x, valid := true }
    nvm := { s.nvm with sealPos := (s.nvm.sealPos + 1) % 512 } }
  let s := s.showSeal x
  match state with
  | 1 =>
    if s.bst.kind = 0 then s else
    let s := { s with bst := { s.bst with begun := true }, vmap := { s.vmap with clear := true } }
    (s.setFld Fld.BST_STATUS_PHASE 1).setFld Fld.INT_VMAP_STATUS_CLEAR_PENDING 1
  | 2 =>
    let s := ((s.setFld Fld.BST_SEAL_AGE_AGE 0).setFld Fld.BST_STATUS_PHASE 0).setFld Fld.PWR_AVS_STATUS_FROZEN 0
    { s with bst := { s.bst with kind := 0, begun := false }, nvm := { s.nvm with ageAt := s.ticks } }
  | _ => s

/-- A SEAL write is given up (R379). -/
def State.sealFailed (s : State) (state : Nat) : State :=
  match state with
  | 1 => s.abortTest 7
  | 4 => s
  | _ =>
    let s := (s.setFld Fld.BST_STATUS_SEAL_WRITE_FAIL 1).raise .bstSealWriteFail
    if state = 2 then (({ s with bst := { s.bst with kind := 0, begun := false } }).setFld Fld.BST_STATUS_PHASE 0).setFld Fld.PWR_AVS_STATUS_FROZEN 0 else s

/-! ### Steps (R483, R484, R488) -/

/-- The SEAL_AGE entry: the seal's GEN and its age (R382, R484). -/
def State.agePayload (s : State) : Nat := s.bst.cur.gen + s.fld Fld.BST_SEAL_AGE_AGE * 2 ^ 64

/-- What an operation leaves when its last step has read back good. -/
def State.nvmDone (s : State) (o : NvmOp) (x : NvmDone) : State :=
  match o.kind with
  | .sealWr st => s.sealWritten st
  | .journal =>
    let s := { s with nvm := { s.nvm with jrn := s.nvm.jrn.drop 1, lastJrn := s.nvm.jrn.head?, jseq := s.nvm.jseq + 1 } }
    (s.bump Fld.NVM_CNT_COUNT 0 2).setFld Fld.NVM_JRN_NEXT (s.fld Fld.NVM_JRN_NEXT + 1)
  | .jrnHead =>
    let s := { s with nvm := { s.nvm with
      sseq := s.nvm.sseq + 1, ahead := false
      jrn := ({ kind := 0x03, time := s.stamp, payload := s.agePayload } : JEntry) :: s.nvm.jrn
      ops := s.nvm.ops ++ [({ kind := .jrnErase, erases := 1 } : NvmOp)] } }
    let head := if s.nvm.sseq = 1 then 0 else (s.fld Fld.NVM_JRN_HEAD + 1) % 256
    let s := (s.setFld Fld.NVM_JRN_HEAD head).setFld Fld.NVM_JRN_NEXT 1
    match s.rep.first with
    | some n => if s.nvm.sseq ≥ n + 16 then s.commitRep else s
    | none => s
  | .jrnErase => { s with nvm := { s.nvm with ahead := true } }
  | .rep => s.repCommitted o
  | .cal => s.calCommitted o
  | .slot i => { s with nvm := { s.nvm with slots := s.nvm.slots.filter (fun y => y != i), copied := 0 } }
  | .winRead =>
    let s := s.upTo 8 fun k s => s.setFld Fld.NVM_WIN_DATA_DATA (ofBytesLE ((x.data.drop (4 * k)).take 4)) 0 k
    s.setFld Fld.NVM_STATUS_WIN_BUSY 0
  | .winProg => s.setFld Fld.NVM_STATUS_WIN_BUSY 0
  | .winErase => s.setFld Fld.NVM_STATUS_WIN_BUSY 0

/-- What a step that mismatched twice means to its operation: a position whose program is given up is not erased any more and is passed over (R359, R379, R482, R491). -/
def State.nvmFailed (s : State) (o : NvmOp) : State :=
  match o.kind with
  | .sealWr st =>
    let pos := if o.step < o.erases then s.nvm.sealPos else (s.nvm.sealPos + 1) % 512
    ({ s with nvm := { s.nvm with sealPos := pos } }).sealFailed st
  | .journal =>
    ({ s with nvm := { s.nvm with jrn := s.nvm.jrn.drop 1 } }).setFld Fld.NVM_JRN_NEXT (s.fld Fld.NVM_JRN_NEXT + 1)
  | .rep => s.rep.deltas.foldl (fun s d => if d.seq > o.upto then s.journalDelta d else s) (s.raise .repStoreFail)
  | .winProg => (s.setFld Fld.NVM_STATUS_WIN_BUSY 0).setFld Fld.NVM_STATUS_WIN_ERR 1
  | .winErase => s.setFld Fld.NVM_STATUS_WIN_BUSY 0
  | .winRead => s.setFld Fld.NVM_STATUS_WIN_BUSY 0
  | .slot i => { s with nvm := { s.nvm with slots := s.nvm.slots.filter (fun y => y != i), copied := 0 } }
  | _ => s

/-- NVM_STEP_COMPLETE: the step in progress is read back: a mismatch is retried once, a second gives the operation up; then the next step is chosen (R488). -/
def execNvmStepComplete (x : NvmDone) (s : State) : Out :=
  .next <| match s.nvm.cur with
  | none => s
  | some o =>
    let s := { s with nvm := { s.nvm with cur := none } }
    let win : Bool := o.kind = .winRead
    let s := if win then s else s.bump Fld.NVM_CNT_COUNT 0 (if o.step < o.erases then 0 else 1)
    if ¬ x.good ∧ ¬ win then
      if ¬ o.retried then ({ s with nvm := { s.nvm with ops := { o with retried := true } :: s.nvm.ops } }).nvmKick
      else
        let s := (s.bump Fld.NVM_CNT_COUNT 0 4).raise .nvmWriteFail 0 { detail := o.kind.type }
        (s.nvmFailed o).nvmKick
    else
      let o := { o with step := o.step + 1, retried := false }
      if o.step < o.steps then ({ s with nvm := { s.nvm with ops := o :: s.nvm.ops } }).nvmKick
      else (s.nvmDone o x).nvmKick

/-- Accrual and cap of a wear area (table Wear areas). -/
def wearAccrual (a : Nat) : Nat × Nat := if a = 0 then (16, 1024) else if a = 5 then (256, 16384) else (1, 64)

/-- WEAR_CREDIT_ACCRUAL: 2^33 frames of powered time earn every area its credit, up to its cap; operations that waited go on (R489). -/
def execWearCreditAccrual (s : State) : Out :=
  if s.ticks < s.nvm.wearAt + 2 ^ 33 then .next s else
  let s := { s with nvm := { s.nvm with wearAt := s.nvm.wearAt + 2 ^ 33 } }
  let s := s.upTo 6 fun a s =>
    let (n, cap) := wearAccrual a
    s.setFld Fld.NVM_WEAR_CREDIT (min cap (s.fld Fld.NVM_WEAR_CREDIT 0 a + n)) 0 a
  .next ({ s with nvm := { s.nvm with deferred := [] } }).nvmKick

/-- CAL_PERIOD_EXPIRY: CAL_PERIOD × 2^32 frames have run out: CAL is committed when a stored value has changed (R479). -/
def execCalPeriodExpiry (s : State) : Out :=
  .next <| if s.ticks < s.nvm.calAt + s.fld Fld.NVM_CFG_CAL_PERIOD * 2 ^ 32 then s else
    let s := { s with nvm := { s.nvm with calAt := s.ticks } }
    if s.flag Fld.NVM_CAL_DIRTY then s.commitCal else s

/-- REP_COMMIT_DELAY_EXPIRY: DELAY × 2^20 frames after the first uncommitted delta the working copy is committed (R359). -/
def execRepCommitDelayExpiry (s : State) : Out :=
  .next <| match s.rep.deltas with
  | [] => s
  | d :: _ => if s.ticks < d.since + s.fld Fld.REP_COMMIT_CFG_DELAY * 2 ^ 20 then s else s.commitRep

/-- SEAL_AGE_MARK: another 2^32 frames of a CLOSED seal have passed: its age goes into the journal (R382). -/
def execSealAgeMark (s : State) : Out :=
  .next <| if ¬ s.bst.valid ∨ s.bst.cur.state ≠ 2 ∨ s.ticks < s.nvm.ageAt + 2 ^ 32 then s else
    let s := { s with nvm := { s.nvm with ageAt := s.ticks } }
    (s.journal 0x03 0 s.agePayload).nvmKick

/-! ### The valid map's SRAM (R333, R334, R355) -/

/-- Copy a map row to the lowest free spare row; the copy serves from the next tick; without one the row stays in use (R355). -/
def State.replaceMapRow (s : State) (row : Nat) : State :=
  if s.vmap.moving.any fun e => e.1 = row then s else
  match (List.range 16).find? fun i => !((s.vmap.spareRows ++ s.vmap.moving).any fun e => e.2 = i) with
  | none => ((s.bump Fld.REP_CNT_COUNT 0 4).setFld Fld.REP_STATUS_EXHAUSTED_SEEN 1).raise .repExhausted
  | some i => { s with vmap := { s.vmap with moving := Store.put s.vmap.moving row i } }

/-- VMAP_ROW_REPLACE: a map word needs correction: the first time it is rewritten with INT_VMAP_CE; again, or with two bad bits, its row goes onto a spare row; a word that cannot be corrected becomes all ones (R334, R355). -/
def execVmapRowReplace (word : Nat) (uc : Bool) (s : State) : Out :=
  .next <| if word ≥ 393216 then s
    else if uc then
      let s := s.upTo 8 fun k s => s.setVByte (8 * word + k) 0xFF
      (s.raise .intVmapUc).replaceMapRow (word / 16)
    else if s.vmap.once.contains word then (s.raise .intVmapCe).replaceMapRow (word / 16)
    else ({ s with vmap := { s.vmap with once := word :: s.vmap.once } }).raise .intVmapCe

/-- VMAP_SWEEP_DONE: the sweep ends (R333). -/
def execVmapSweepDone (s : State) : Out := .next (s.setFld Fld.INT_VMAP_STATUS_SWEEPING 0)

end Sys2Proof.Machine
end

