-- ==== Sys2Proof/Machine/SelfTest.lean ====
section
/-! DEFINITION. Self-test (13): the shutdown and start-up tests and their parts, the explicit channel test. -/
namespace Sys2Proof.Machine

/-- The tested layers, as layer − 1: accepted at discovery and not retired (R367). -/
def State.testedLayers (s : State) : List Nat :=
  (List.range 16).filter fun l => s.flag Fld.LAY_STATE_ID_OK l && !(s.fld Fld.REP_LAYERS_RETIRED).testBit l

/-- The channels of the tested layers. -/
def State.testedChans (s : State) : List Nat := s.testedLayers.flatMap fun l => (List.range 4).map (4 * l + ·)

/-- Begin a test of KIND 1 (shutdown) or 2 (start-up): the limits are checked, the OPEN seal is written, and part 1 follows once it is (R367, R368, R375, R379). -/
def State.startTest (s : State) (kind : Nat) (clockOk vddcOk : Bool) : State :=
  let L := s.testedLayers.length
  let s := if kind = 1 then (s.setFld Fld.BST_CTL_PARK_TEST 0).bump Fld.BST_CNT_COUNT 0 0 else s
  let s := match s.bst.ch with
    | some _ => s.endChTest 3
    | none => s
  let s := { s with bst := { s.bst with kind := kind, layers := L, waiting := false, begun := false, unrep := 0, awake := []
                                        cur := { s.bst.cur with kind := kind, layers := L, abort := 0 } } }
  let s := ((s.setFld Fld.BST_STEPS_VALUE 0).setFld Fld.BST_STEP_END_VALUE (105 + 772 * L)).setFld Fld.BST_SIG_VALUE 0
  let s := ((s.setFld Fld.BST_EXPECT_VALUE 0).setFld Fld.BST_FAILS_FAIL_ROWS 0).setFld Fld.BST_FAILS_LOGIC_FAIL 0
  let s := (s.setFld Fld.BST_FAILS_LOOP_FAIL 0).setFld Fld.PWR_AVS_STATUS_FROZEN 1
  if ¬ clockOk then s.abortTest 1 else if ¬ vddcOk then s.abortTest 2 else
  (s.testedChans.foldl (fun s c => s.setTest c true) s).writeSeal 1

/-- Whether a column failed the loop test: not acquired by some receiver on the path, or past G3_MAX at gear 3 (R369). -/
def State.loopFails (s : State) (x : LoopCol) : Bool :=
  s.testedChans.contains x.b.val && (x.lost || decide (x.cer > s.gearLim (x.b.val / 16) 3))

/-- A column failed the loop test: in use, it is spared at once; a standby spare is retired (R369). -/
def State.loopFail (s : State) (b n : Nat) : State :=
  let s := (s.bump Fld.BST_FAILS_LOOP_FAIL).raise .bstLoopFail 0
  s.spareNow b n

/-- An engine failed its logic BIST: a spare is recorded in its place, or the channel marked failed (R353). -/
def State.engineBad (s : State) (e : Nat) : State :=
  match (List.range 64).find? fun c => s.fld Fld.CHN_CTL_ENGINE c = e with
  | none => s
  | some c =>
    let s := s.dropEngine c
    match s.freeEngine with
    | some f => (s.setFld Fld.CHN_CTL_ENGINE f c).repSet { kind := 7, unit := c, res := f }
    | none => (s.setFld Fld.CHN_CTL_EN 0 c).repSet { kind := 6, unit := c }

/-- A block of the logic BIST differed; blocks 0 to 65 are the engines (R374). -/
def State.logicFail (s : State) (i : Nat) : State :=
  let s := (s.bump Fld.BST_FAILS_LOGIC_FAIL).raise .bstLogicFail 0 { detail := i, access := 7 }
  if i < 66 then s.engineBad i else s

/-- The MISRs of the 105 blocks combined: each rotated left by its number modulo 32 (R374). -/
def signature (misr : Nat → BitVec 32) : BitVec 32 :=
  (List.range 105).foldl (fun a i => a ^^^ (misr i).rotateLeft (i % 32)) 0

/-- Part 3 begins: the pools and engines are on, channels in self-refresh are taken out of it, at a start with their soft repairs, and every bank of every tested channel starts M0 (R248, R349, R370, R373). -/
def State.beginMarch (s : State) : State :=
  s.testedChans.foldl (fun s c =>
    let s := (s.setDomain (9 + s.fld Fld.CHN_CTL_ENGINE c) true).startMarch c
    if s.flag Fld.CHN_REF_STATE_SR c ∧ ¬ (s.chan c).ref.srx then
      (s.modRef c fun r => { r with soft := s.bst.kind = 2 }).sendSrx c false
    else s)
    (((s.setDomain 79 true).setDomain 80 true).setDomain 81 true)

/-- The 66 channel engines are powered, or left off but for those of channels that stay on REFB (R244, R373). -/
def State.powerEngines (s : State) (on : Bool) : State :=
  s.upTo 66 fun e s =>
    if on ∨ ¬ s.bst.awake.any (fun c => s.fld Fld.CHN_CTL_ENGINE c = e) then s.setDomain (9 + e) on else s

/-- The logic BIST ends: the valid map reads 0, the signatures are formed, blocks whose MISR differs from the ROM's are reported (R334, R373, R374). -/
def State.logicEnd (s : State) (misr : List (BitVec 32)) : State :=
  let got (i : Nat) : BitVec 32 := misr.getD i 0
  let s := s.powerEngines false
  let s := { s with vmap := { s.vmap with mem := [] } }
  let s := (s.addSteps 105).setFld Fld.BST_SIG_VALUE (signature got).toNat
  let s := s.setFld Fld.BST_EXPECT_VALUE (signature Config.romMisr).toNat
  s.upTo 105 fun i s => if got i = Config.romMisr i then s else s.logicFail i

/-- BST_PART_COMPLETE: the part in progress ends with what it measured and the next begins; the march ends once every bank has ended, part 4 once every channel is in self-refresh or has failed to enter it (R367 to R374). -/
def execBstPartComplete (x : PartEnd) (s : State) : Out :=
  .next <| if s.bst.kind = 0 ∨ ¬ s.bst.begun then s else
    let L := s.bst.layers
    match s.fld Fld.BST_STATUS_PHASE with
    | 1 => if s.vmap.clear then s else s.setFld Fld.BST_STATUS_PHASE 2
    | 2 =>
      let s := (x.loop.filter s.loopFails).foldl (fun s e => s.loopFail e.b e.col) (s.addSteps (4 * L))
      if x.unreachable then s.abortTest 6 else (s.setFld Fld.BST_STATUS_PHASE 3).beginMarch
    | 3 => if s.testedChans.all fun c => (s.chan c).march.isEmpty then s.setFld Fld.BST_STATUS_PHASE 4 else s
    | 4 =>
      if s.testedChans.all fun c => s.flag Fld.CHN_REF_STATE_SR c || s.bst.awake.contains c then
        (s.powerEngines true).setFld Fld.BST_STATUS_PHASE 5
      else s
    | 5 => ((s.logicEnd x.misr).setFld Fld.BST_STATUS_PHASE 6).commitRep
    | 6 =>
      if s.nvmHas .rep then s
      else if s.rep.deltas.isEmpty then
        (s.testedChans.foldl (fun s c => s.setTest c false) (s.setFld Fld.BST_STATUS_PHASE 7)).writeSeal 2
      else s.commitRep
    | _ => s

/-- A training that has ended during a test and left a tested layer unreachable aborts the test (R376 cause 0x6). -/
def State.checkReach (s : State) : State :=
  if s.bst.kind = 0 ∨ ¬ s.bst.begun ∨ ¬ s.vert.trains.isEmpty then s
  else if s.testedLayers.length ≥ s.bst.layers ∧ (s.testedChans.all fun c => (s.bund c).up) then s
  else s.abortTest 6

/-- VTRAIN_PHASE_COMPLETE: a phase of the training in progress ends with what it found; a test it leaves without a layer aborts (R280 to R282, R376, R421). -/
def execVtrainPhaseComplete (x : VPhase) (s : State) : Out :=
  .next (if s.vert.trains.isEmpty then s else (s.endPhase x).checkReach)

/-- STARTUP_TEST_RETRY: 10 ms after an abort under cause 1 or 2 the start-up test is tried once more (R384). -/
def execStartupTestRetry (clockOk vddcOk : Bool) (s : State) : Out :=
  .next <| if s.bst.waiting then
    ({ s with bst := { s.bst with waiting := false, retried := true } }).startTest 2 clockOk vddcOk
  else s

/-- Start the explicit test of a channel: new requests are answered RETRY, its queue drains (R387). -/
def State.startChTest (s : State) (c : Nat) : State :=
  let s := (s.setTest c true).setFld Fld.BST_CHTEST_STATUS_RUNNING 1
  let s := ((s.setFld Fld.BST_CHTEST_STATUS_OUTCOME 0).setFld Fld.BST_CHTEST_STATUS_LASTING 0).setFld Fld.BST_CHTEST_STATUS_ROWS_DONE 0
  let s := (s.setFld Fld.BST_STATUS_PHASE 8).bump Fld.BST_CNT_COUNT 0 2
  { s with bst := { s.bst with ch := some { chan := c } } }

/-- End the explicit channel test as aborted, once the retest in progress has restored its row (R388). -/
def State.stopChTest (s : State) (t : ChTest) : State :=
  if ((s.chan t.chan).rt.map fun r => r.test) = some true then { s with bst := { s.bst with ch := some { t with ending := true } } }
  else s.endChTest 3

/-- Abort the explicit channel test: a retest in progress ends first (R388). -/
def State.abortChTest (s : State) (cause : Nat) : State :=
  match s.bst.ch with
  | none => s
  | some t =>
    let s := ((s.setFld Fld.BST_STATUS_ABORT_CAUSE cause).bump Fld.BST_CNT_COUNT 0 1).raise .bstNotRun 0 { detail := cause, access := 7 }
    s.stopChTest t

end Sys2Proof.Machine
end

