-- ==== Sys2Proof/Machine/Views.lean ====
section
/-! DEFINITION. What a register field reads as: a stored value, a value computed from other state, or 0 for a command bit (R12, R498). -/
namespace Sys2Proof.Machine

/-- A mask of 32 bits from a predicate. -/
def mask32 (p : Nat → Bool) : Nat := (List.range 32).foldl (fun n i => n + b2n (p i) * 2 ^ i) 0

/-- Banks of a channel not retired (R357). -/
def State.liveBanks (s : State) (c : Nat) : List Nat := (List.range 32).filter fun b => s.pairLive c (pairOf b)

/-- The smallest of a figure over the live banks of a channel; `top` with none. -/
def State.fewest (s : State) (c top : Nat) (g : Nat → Nat) : Nat := (s.liveBanks c).foldl (fun m b => min m (g b)) top

/-- Valid wagons: the bits set in the map (INT.VMAP_STATUS.VALID). -/
def VMap.count (m : VMap) : Nat := m.mem.foldl (fun n e => n + popN 8 e.2.toNat) 0

/-- Whether the core clock runs (R43, R48, R443). -/
def State.coreRuns (s : State) : Bool := s.start.b0 && s.hold.isNone && !s.inState .park

/-- ROLE of physical lane p of a track's receive direction (table LANE_STATUS): S0 is lane 16, S1 lane 17. -/
def State.laneRole (s : State) (t p : Nat) : Nat :=
  if p < 16 then b2n ((s.fld Fld.TRK_SPARE_RX_RETIRED t).testBit p) * 3
  else
    match s.fld (spareFld false (p = 17)) t with
    | 0 => 1
    | 1 => 0
    | n => n

/-- A field whose reading is computed. -/
def State.view (s : State) (v : View) (_f : Field) (i j : Nat) : Nat :=
  match v with
  | .bulQueued => s.box.bul.length + s.box.urg.length
  | .chnQueued => (s.chan i).q.length
  | .chnSided => ((s.chan i).q.filter fun e => e.side.isSome).length
  | .codecQueued => s.codec.queue.length
  | .deficitRd => b2n (s.fld Fld.BWR_SCALE_RD_K < 65536)
  | .deficitWr => b2n (s.fld Fld.BWR_SCALE_WR_K < 65536)
  | .errNLow => b2n s.box.errLow
  | .gsumRd => (List.range 64).foldl (fun n m => n + s.fld Fld.BWR_MGUAR_GUAR_RD 0 m) 0
  | .gsumWr => (List.range 64).foldl (fun n m => n + s.fld Fld.BWR_MGUAR_GUAR_WR 0 m) 0
  | .hlcDown => mask32 fun t => s.linkIs t .down || (s.trk t).ses.gone
  | .hlcReady => mask32 fun t => s.linkIs t .ready
  | .hrepBusy => b2n (!s.rep.hreps.isEmpty)
  | .laneRole => s.laneRole i j
  | .laySr => (List.range 4).foldl (fun n k => n + s.fld Fld.CHN_REF_STATE_SR (4 * i + k) * 2 ^ k) 0
  | .lockCount => min 0xFFFF s.fab.locks.length
  | .migrating => b2n (s.chans.any fun e => e.2.mig.isSome)
  | .nrefPending => min 32 (s.chan i).ref.nrefs.length
  | .pktHolding => b2n (s.trk i).rx.held
  | .pktReplaying => b2n (s.trk i).tx.rep.isSome
  | .pktRxMode =>
    match (s.trk i).rx.mode with
    | .framed => 0
    | .resync => 1
    | .stalled => 2
  | .reactUrg => b2n (s.urgOf j)
  | .reactEpn => b2n (s.epnOf j)
  | .spareMin => s.fewest j 32 fun b => (s.freeSpares j b).length
  | .yardMin => s.fewest j 96 fun b => (s.freeYard j b).length
  | .tableFree => s.freeTable j
  | .ttPending => b2n (!(s.fab.staged.isEmpty && s.fab.ready.isEmpty))
  | .vmapQuery =>
    let w := s.fld Fld.INT_VMAP_QUERY_WAGON
    b2n (decide (w < s.fld Fld.GLB_INSTALLED_WAGONS) && s.vbit w)
  | .vmapSuspended => b2n s.pilotOn
  | .vmapValid => s.vmap.count
  | .clkAvs => b2n (s.pins.refclk && s.pins.pwrGood)
  | .clkSpi => b2n s.pins.pwrGood
  | .clkService => b2n s.pins.refclk
  | .clkCore => b2n s.coreRuns
  | .clkWrck => b2n (s.wrap.edge.any fun e => s.cc < e + 16 * 1024)
  | .clkVq => (List.range 4).foldl (fun n q => n + b2n (s.domainOn (75 + q) && !s.vert.pllLost.contains q) * 2 ^ q) 0
  | .clkLcTx => (List.range 8).foldl (fun n k => n + b2n (s.domainOn (1 + k)) * 2 ^ k) 0
  | .clkLcRx => (List.range 8).foldl (fun n k => n + b2n (s.domainOn (1 + k) &&
      (List.range 4).any fun t => (s.trk (4 * k + t)).lanesRx.any fun e => e.2.sig) * 2 ^ k) 0

/-- What a field reads: command bits read 0 (R498). -/
def State.readFld (s : State) (x : FieldAt) : Nat :=
  if x.f.acc = .w1s then 0 else
  match x.f.view with
  | some v => s.view v x.f x.i x.j % 2 ^ x.f.width
  | none => s.fld x.f x.i x.j

/-- The word of a register from its fields. -/
def State.readRegs (s : State) (xs : List FieldAt) : Nat := xs.foldl (fun n x => n + s.readFld x * 2 ^ x.f.lo) 0

/-- The word of the register at a byte address. -/
def State.regAt (s : State) (a : Nat) : Nat := s.readRegs (fieldsAt a)

end Sys2Proof.Machine
end

