-- ==== Sys2Proof/Machine/Power.lean ====
section
/-! DEFINITION. Supply, HOLD and the reset pins (R434 to R438, R442, R452, R453, R463, R522 to R526). -/
namespace Sys2Proof.Machine

/-! ### The hold-up buffer (table Hold-up journal layout, R486) -/

/-- Zero bytes. -/
def zeros (n : Nat) : List Byte := List.replicate n 0#8

/-- A register's four bytes. -/
def State.word32 (s : State) (a : Nat) : List Byte := natBytes 4 (s.regAt a)

/-- A capture record in its window's layout. -/
def State.captureBytes (s : State) (k : Nat) : List Byte :=
  let a := 0x0D0100 + 0x40 * k
  s.word32 a ++ s.word32 (a + 4) ++ natBytes 8 (s.regAt (a + 8)) ++ natBytes 8 (s.regAt (a + 0x10)) ++
  natBytes 8 (s.regAt (a + 0x18)) ++ s.word32 (a + 0x20) ++ s.word32 (a + 0x24) ++ zeros 24

/-- The uncommitted deltas saved: their count, whether some were left, the oldest 117. -/
def State.deltaBytes (s : State) : List Byte :=
  let ds := s.rep.deltas.take 117
  let more := decide (s.rep.deltas.length > 117)
  natBytes 16 (ds.length + b2n more * 256) ++
  ds.flatMap (fun d => natBytes 16 (d.ent.bytes d.seq (if d.remove then 2 else 1))) ++ zeros (16 * (117 - ds.length))

/-- The census state of a track. -/
def State.censusBytes (s : State) (t : Nat) : List Byte :=
  let c := s.cenCut t (BitVec.ofNat 8 (s.fld Fld.TRK_CENSUS_STATUS_ROUND t))
  c.counts.bytes ++ [c.sTx, c.sRx, c.round, BitVec.ofNat 8 (s.fld Fld.TRK_TRAIN_STATUS_SESSION t)]

/-- The 4 KiB buffer at the detection, but for the trailer. -/
def State.holdBody (s : State) (rail sample : Nat) : List Byte :=
  let head := [0x48#8, 0x4F#8, 0x4C#8, 0x44#8] ++ natBytes 4 (s.nvm.hseq + 1) ++ natBytes 8 s.stamp ++
    natBytes 8 (s.fld Fld.BST_STACK_ID_ID) ++ zeros 4
  head ++ bytesLE 4 (crc32 head) ++
  s.captureBytes 0 ++ s.captureBytes 1 ++ s.captureBytes 2 ++
  s.word32 0x0D0020 ++ s.word32 0x0D0024 ++ s.word32 0x0D0028 ++ s.word32 0x0D0010 ++ s.word32 0x0D0008 ++ zeros 12 ++
  natBytes 8 s.stamp ++ natBytes 8 (s.fld Fld.BST_SEAL_AGE_AGE) ++ natBytes 4 s.bst.cur.gen ++
  natBytes 4 (s.fld Fld.NVM_CAL_GEN) ++ natBytes 4 (s.fld Fld.REP_STORE_GEN) ++ natBytes 4 (rail + sample * 2 ^ 16) ++
  s.deltaBytes ++ (List.range 32).flatMap s.censusBytes ++
  (List.range 95).flatMap (fun k => natBytes 4 (s.fld Fld.FLT_COUNT_COUNT 0 k)) ++ zeros 4 ++ zeros 112

/-- The buffer with its trailer. -/
def State.holdBytes (s : State) (rail sample : Nat) : List Byte :=
  let body := s.holdBody rail sample
  body ++ [0x48#8, 0x45#8, 0x4E#8, 0x44#8] ++ natBytes 4 (s.nvm.hseq + 1) ++ bytesLE 4 (crc32 body) ++ zeros 4

/-! ### HOLD (R434 to R437) -/

/-- The HOLD_NONE entry at the journal head, in the next sector where the head is full; nothing where the stores were never read (R436, R483). -/
def State.holdNone (s : State) : State :=
  if ¬ s.nvm.loaded then s else
  let s := if s.fld Fld.NVM_JRN_NEXT ≠ 0 then s else
    let s := (s.setFld Fld.NVM_JRN_HEAD ((s.fld Fld.NVM_JRN_HEAD + 1) % 256)).setFld Fld.NVM_JRN_NEXT 2
    { s with nvm := { s.nvm with sseq := s.nvm.sseq + 1, jseq := s.nvm.jseq + 1, ahead := false } }
  let e : JEntry := { kind := 0x08, time := s.stamp }
  let s := { s with nvm := { s.nvm with lastJrn := some e, jseq := s.nvm.jseq + 1 } }
  s.setFld Fld.NVM_JRN_NEXT (s.fld Fld.NVM_JRN_NEXT + 1)

/-- Whether a byte address lies in a block whose power domain goes off in HOLD. -/
def darkBlk (a : Nat) : Bool :=
  match blkOf a with
  | some (b, _, _) => [Blk.tt, .trk, .hlc, .chn, .bwr, .ref, .vlq, .lay, .int, .rep, .bst].contains b
  | none => false

/-- Entry into HOLD: work stops, THERM_N is released (R517), a test in progress aborts, the buffer is filled, every domain but SVC goes off, the flash operation in progress is abandoned; with no erased slot designated the save is one HOLD_NONE entry (R435, R436, R463). -/
def State.holdEntry (s : State) (rail sample : Nat) : State :=
  if s.hold.isSome ∨ ¬ s.pins.pwrGood then s else
  let s := (s.bump Fld.PWR_CNT_COUNT 0 3).raise .pwrSag 0 (thmInfo sample rail 0)
  let s := s.abortTest 4
  let slot := if s.nvm.loaded then s.nvm.desig else none
  let h : Hold := { rail := rail, sample := sample, buf := s.holdBytes rail sample, ended := slot.isNone, slot := slot }
  let s := if slot.isNone then s.holdNone else s
  let s := s.resetRegs .por darkBlk
  let nvm : Nvm := { s.nvm with cur := none, ops := [] }
  let s := { s with
    hold := some h, resetting := true, trks := [], tags := [], chans := [], codec := {}, vert := {}, bwr := {}
    vmap := {}, rep := {}, bst := {}, fab := { locks := s.fab.locks, spent := s.fab.spent }
    pwr := {}, park := {}, start := {}, nvm := nvm, thm := {}
    pins := { s.pins with thermLow := false }, wrap := { s.wrap with bumps := none, edge := none } }
  let s := (s.setFld Fld.PWR_DOMAIN_ON_ON 1 0 0).setFld Fld.PWR_DOMAIN_ON_ON 0 0 1
  s.setFld Fld.PWR_DOMAIN_ON_ON 0 0 2

/-- SUPPLY_SAG: PWR_GOOD low for 50 ns (rail code 0xF), or a rail below its threshold for 100 ns (R434). -/
def execSupplySag (rail : BitVec 4) (sample : BitVec 14) (s : State) : Out :=
  let s := s.holdEntry rail.toNat sample.toNat
  .next <| if rail = 0xF then { s with pins := { s.pins with pwrGood := false } } else s

/-- REFCLK_LOSS: REFCLK absent for 320 ns while PWR_GOOD is high: HOLD with rail code 0xF (R526). -/
def execRefclkLoss (s : State) : Out :=
  .next <| if ¬ s.pins.pwrGood then s else
    let s := s.holdEntry 0xF 0
    { s with pins := { s.pins with refclk := false } }

/-- Change the HOLD in progress. -/
def State.modHold (s : State) (g : Hold → Hold) : State := { s with hold := s.hold.map g }

/-- HOLD_SAVE_NVM_READY: the NVM is ready, or 0.1 ms have passed: page 0 is programmed (R436). -/
def execHoldSaveNvmReady (s : State) : Out :=
  .next <| s.modHold fun h => if h.slot.isSome ∧ h.page.isNone ∧ ¬ h.ended then { h with page := some 0 } else h

/-- HOLD_SAVE_PAGE_DONE: the next of the 16 pages, or the end of the save (R436). -/
def execHoldSavePageDone (s : State) : Out :=
  .next <| s.modHold fun h => match h.page with
    | none => h
    | some p => if p < 15 then { h with page := some (p + 1) } else { h with page := none, ended := true }

/-- HOLD_SAVE_PAGE_TIMEOUT: a page was not ready within 1.0 ms: the save stops (R436). -/
def execHoldSavePageTimeout (s : State) : Out :=
  .next <| s.modHold fun h => if h.page.isSome then { h with page := none, ended := true } else h

/-! ### Power-on and reset pins (R442, R452, R522, R523) -/

/-- A POR start: it waits at B0 while RESET_N is low (R522). -/
def State.porStart (s : State) : State :=
  let s := s.porReset
  let s := { s with pins := { s.pins with pwrGood := true, refclk := true } }
  if s.pins.resetN then s.beginStart else { s with start := { s.start with held := true } }

/-- PWR_GOOD_RISE: a POR start begins; in HOLD it waits for the end of the save (R437, R522). -/
def execPwrGoodRise (s : State) : Out :=
  .next <| if s.hold.isSome then { s with pins := { s.pins with pwrGood := true } }
  else if s.pins.pwrGood then s else s.porStart

/-- HOLD_EXIT_POR: the save has ended and PWR_GOOD is high: it has risen, or it stayed high and every rail has been good for 1 ms: a POR (R437). -/
def execHoldExitPor (s : State) : Out :=
  .next <| match s.hold with
  | none => s
  | some h => if h.ended ∧ s.pins.pwrGood then s.porStart else s

/-- SUPPLY_REMOVED: the device is OFF until a POR (R16). -/
def execSupplyRemoved (s : State) : Out :=
  let s := s.porReset
  .next { s with wrap := {}, pins := { s.pins with pwrGood := false } }

/-- RESET_N_FALL: a PIN reset, where RESET_N was high; it is ignored in HOLD (R452, R523). -/
def execResetNFall (s : State) : Out :=
  if ¬ s.pins.resetN then .next s else
  let s := { s with pins := { s.pins with resetN := false } }
  .next <| if s.hold.isSome ∨ ¬ s.pins.pwrGood then s else s.deviceReset .pin 2

/-- RESET_N_RISE: the start held by RESET_N begins (R452, R522). -/
def execResetNRise (s : State) : Out :=
  let s := { s with pins := { s.pins with resetN := true } }
  .next <| if s.hold.isSome ∨ ¬ s.pins.pwrGood ∨ ¬ s.start.held ∨ s.start.chip then s else s.beginStart

/-- CHIP_RESET_HOLD_END: the 10 µs of a CHIP reset are over and a start begins; after a CRS reaction CRS_DONE is set (R409, R453). -/
def execChipResetHoldEnd (s : State) : Out :=
  .next <| if ¬ s.start.chip then s else
    let s := if s.fld Fld.GLB_STATE_CAUSE = 5 then s.setFld Fld.FLT_STATUS_CRS_DONE 1 else s
    if s.pins.resetN then s.beginStart else { s with start := { s.start with chip := false } }

end Sys2Proof.Machine
end

