-- ==== Sys2Proof/Machine/Checks.lean ====
section
/-! DEFINITION. The consistency checks of the owning chapters over a register set, made of an image (R474) and of a register write (R499). -/
namespace Sys2Proof.Machine

/-- TAG_PART ranges neither overlap nor pass 16,383 (R120). -/
def State.tagPartOk (s : State) : Bool :=
  let r (t : Nat) := (s.fld Fld.TRK_TAG_PART_BASE t, s.fld Fld.TRK_TAG_PART_COUNT t)
  (List.range 32).all fun t =>
    let (b, n) := r t
    (n = 0 || b + n ≤ 16384) &&
    (List.range 32).all fun u => u ≤ t || n = 0 || (r u).2 = 0 || b + n ≤ (r u).1 || (r u).1 + (r u).2 ≤ b

/-- A channel's timing set is consistent (R187). -/
def State.timingOk (s : State) (c : Nat) : Bool :=
  s.fld Fld.CHN_TIM0_T_RC c ≥ s.fld Fld.CHN_TIM0_T_RAS c + s.fld Fld.CHN_TIM0_T_RP c &&
  s.fld Fld.CHN_TIM0_T_RAS c ≥ s.fld Fld.CHN_TIM0_T_RCD c &&
  s.fld Fld.CHN_TIM1_T_RRD_L c ≥ s.fld Fld.CHN_TIM1_T_RRD_S c &&
  s.fld Fld.CHN_TIM1_T_FAW c ≥ s.fld Fld.CHN_TIM1_T_RRD_S c

/-- WR_KEEP lies below WR_HIGH (table CHN[c].SCHED). -/
def State.schedOk (s : State) (c : Nat) : Bool := s.fld Fld.CHN_SCHED_WR_KEEP c < s.fld Fld.CHN_SCHED_WR_HIGH c

/-- The guarantees are admitted in both directions (R219). -/
def State.admitOk (s : State) : Bool :=
  admits (s.sumOf Fld.BWR_MGUAR_GUAR_RD) (s.fld Fld.BWR_CFG_ADMIT) (s.fld Fld.BWR_DELIV_RD) &&
  admits (s.sumOf Fld.BWR_MGUAR_GUAR_WR) (s.fld Fld.BWR_CFG_ADMIT) (s.fld Fld.BWR_DELIV_WR)

/-- OWED_MAX above OWED_FORCE and within the die's lateness plus five; LONG at least one base window (R235, R251, R473). -/
def State.refreshOk (s : State) : Bool :=
  s.fld Fld.REF_CFG_OWED_MAX > s.fld Fld.REF_CFG_OWED_FORCE && s.fld Fld.REF_CFG_OWED_MAX ≤ s.rep.late + 5 &&
  5 * s.fld Fld.REF_SR_LONG ≥ 4 * s.fld Fld.REF_CFG_TREFI

/-- Gear limits of a quadrant do not fall (R288). -/
def State.gearsOk (s : State) (q : Nat) : Bool :=
  s.fld Fld.VLQ_GEAR_LIM_G1_MAX q ≤ s.fld Fld.VLQ_GEAR_LIM_G2_MAX q &&
  s.fld Fld.VLQ_GEAR_LIM_G2_MAX q ≤ s.fld Fld.VLQ_GEAR_LIM_G3_MAX q

/-- Throttle thresholds rise; the model's heat capacities bear their conductances (R419, R441). -/
def State.heatOk (s : State) : Bool :=
  s.fld Fld.THM_THROT_LAYER_TH1 < s.fld Fld.THM_THROT_LAYER_TH2 &&
  s.fld Fld.THM_THROT_LAYER_TH2 < s.fld Fld.THM_THROT_LAYER_TH3 &&
  s.fld Fld.THM_THROT_LAYER_TH3 < s.fld Fld.THM_THROT_LAYER_TH4 &&
  s.fld Fld.THM_THROT_BASE_TH1 < s.fld Fld.THM_THROT_BASE_TH2 &&
  s.fld Fld.THM_THROT_BASE_TH2 < s.fld Fld.THM_THROT_BASE_TH3 &&
  s.fld Fld.THM_THROT_BASE_TH3 < s.fld Fld.THM_THROT_BASE_TH4 &&
  (List.range 16).all fun k => s.fld Fld.THM_MODEL_RC_C 0 (k + 1) * 500 ≥
    s.fld Fld.THM_MODEL_RC_G 0 k + s.fld Fld.THM_MODEL_RC_G 0 (k + 1)

/-- S_LO below S_HI, V_MIN not above V_MAX (R441). -/
def State.voltOk (s : State) : Bool :=
  s.fld Fld.PWR_AVS_SLACK_S_LO < s.fld Fld.PWR_AVS_SLACK_S_HI && s.fld Fld.PWR_AVS_LIM_V_MIN ≤ s.fld Fld.PWR_AVS_LIM_V_MAX

/-- No track is its own failover partner (table HLC.FOV_MAP). -/
def State.partnersOk (s : State) : Bool := (List.range 32).all fun t => s.fld Fld.HLC_FOV_MAP_PARTNER 0 t != t

/-- A REACT entry's class is not below its source's, and names no BRS where the source has no block (R398, R405). -/
def State.reactOk (s : State) (i : Nat) : Bool :=
  match srcOfIndex i with
  | none => true
  | some src =>
    s.fld Fld.FLT_REACT_CLASS 0 i ≥ src.row.cls && s.fld Fld.FLT_REACT_CLASS 0 i < 3 &&
    (src.row.block != .none || !s.flag Fld.FLT_REACT_BRS 0 i)

end Sys2Proof.Machine
end

