-- ==== Sys2Proof/Machine/Image.lean ====
section
/-! DEFINITION. The Maskaub image (R471 to R475): framing of records, the checks of stage B1, application and locks. -/
namespace Sys2Proof.Machine

/-! ### Bytes and records (R471, R472) -/

/-- The flash byte at an address. -/
def FlashBoot.byte (x : FlashBoot) (a : Nat) : Byte := Store.get x.bytes a 0xFF#8

/-- n flash bytes. -/
def FlashBoot.read (x : FlashBoot) (a n : Nat) : List Byte := (List.range n).map fun i => x.byte (a + i)

/-- A little-endian number of n bytes. -/
def FlashBoot.num (x : FlashBoot) (a n : Nat) : Nat := ofBytesLE (x.read a n)

/-- Whether n bytes all read 0xFF. -/
def FlashBoot.blank (x : FlashBoot) (a n : Nat) : Bool := (x.bytes.all fun e => e.1 < a || e.1 ≥ a + n || e.2 = 0xFF#8)

/-- A framed record. -/
structure Record where
  ty : Nat
  gen : Nat
  body : List Byte
  crc : Nat
deriving DecidableEq, Repr

/-- The record of a type at an address, within `room` bytes: framing, VERSION and CRC-32 (R472). -/
def FlashBoot.record (x : FlashBoot) (a ty room : Nat) : Option Record :=
  let n := x.num (a + 4) 4
  if (x.byte a).toNat ≠ ty ∨ x.byte (a + 1) ≠ 1#8 ∨ x.num (a + 2) 2 ≠ 0 ∨ x.num (a + 12) 4 ≠ 0 ∨
      n = 0 ∨ n % 4 ≠ 0 ∨ n + 20 > room then none
  else
    let crc := x.num (a + 16 + n) 4
    if (crc32 (x.read a (n + 16))).toNat = crc then
      some { ty := ty, gen := x.num (a + 8) 4, body := x.read (a + 16) n, crc := crc }
    else none

/-- Whether the image's header is right: magic, FORMAT, COUNT, LENGTH and HCRC (R471). -/
def FlashBoot.headOk (x : FlashBoot) : Bool :=
  x.read 0 4 = [0x43#8, 0x53#8, 0x54#8, 0x44#8] && x.num 4 2 = 3 && x.num 6 2 = 9 &&
  x.num 8 4 ≠ 0 && x.num 8 4 ≤ 0x100000 && (crc32 (x.read 0 12 ++ x.read 16 144)).toNat = x.num 12 4

/-- The record of directory entry k, or its TYPE where a check of step 2 fails (R474). -/
def FlashBoot.entry (x : FlashBoot) (k : Nat) : Except Nat Record :=
  let e := 16 + 16 * k
  let ty := (x.byte e).toNat
  let off := x.num (e + 4) 4
  match x.record off ty (x.num (e + 8) 4) with
  | some r =>
    if x.num (e + 1) 3 = 0 ∧ off % 16 = 0 ∧ x.num (e + 8) 4 = r.body.length + 20 ∧ x.num (e + 12) 4 = r.crc ∧ r.gen = 0 ∧
        off + x.num (e + 8) 4 ≤ x.num 8 4 then .ok r
    else .error ty
  | none => .error ty

/-- The records in directory order, or the TYPE at which step 1 or 2 fails (R474). -/
def FlashBoot.image (x : FlashBoot) : Except Nat (List Record) :=
  if ¬ x.headOk then .error 0xF0 else
  let rec go : List Nat → Except Nat (List Record)
    | [] => .ok []
    | k :: ks => match x.entry k with
      | .error t => .error t
      | .ok r => match go ks with
        | .error t => .error t
        | .ok rs => .ok (r :: rs)
  match go (List.range 9) with
  | .error t => .error t
  | .ok rs =>
    match [1, 2, 3, 4, 5, 6, 7, 8, 9].find? fun t => (rs.filter fun r => r.ty = t).length ≠ 1 with
    | some t => .error t
    | none => .ok rs

/-- IMAGE_CRC (R381). -/
def imageCrc (rs : List Record) : Nat := (crc32 (rs.flatMap fun r => natBytes 4 r.crc)).toNat

/-! ### Configuration records (R473, R474) -/

/-- An entry of a write list. -/
structure CfgEntry where
  addr : Nat
  flags : Nat
  mask : Nat
  val : Nat
deriving DecidableEq, Repr

/-- Bytes of the fixed part of a record's body (table Configuration records). -/
def fixedLen (ty : Nat) : Nat := if ty = 1 then 64 else if ty = 3 then 16 else 0

/-- The write list after the fixed part. -/
def Record.entries (r : Record) : List CfgEntry :=
  let b := r.body.drop (fixedLen r.ty)
  (List.range (b.length / 12)).map fun k =>
    let e := (b.drop (12 * k)).take 12
    { addr := ofBytesLE (e.take 3), flags := ofBytesLE ((e.drop 3).take 1)
      mask := ofBytesLE ((e.drop 4).take 4), val := ofBytesLE ((e.drop 8).take 4) }

/-- A number of the body. -/
def Record.num (r : Record) (a n : Nat) : Nat := ofBytesLE ((r.body.drop a).take n)

/-- Bytes a to z − 1 of the body are 0. -/
def Record.zero (r : Record) (a z : Nat) : Bool := ((r.body.drop a).take (z - a)).all fun b => b = 0#8

/-- The fixed part is as its table gives. -/
def Record.fixedOk (r : Record) : Bool :=
  if r.ty = 1 then
    let n := r.num 4 1
    r.body.length ≥ 64 && r.num 0 1 < 2 && r.zero 1 4 && 1 ≤ n && n ≤ 8 && r.zero 5 8 && r.zero (8 + 4 * n) 64
  else if r.ty = 3 then r.body.length ≥ 16 && 3 ≤ r.num 0 1 && r.num 0 1 ≤ 15 && r.zero 1 16
  else true

/-- Whether entries of a record type may name a byte address (table Configuration records). -/
def mayName (ty a : Nat) : Bool :=
  match blkOf a with
  | none => false
  | some (b, _, off) =>
    match ty with
    | 1 => (b = .glb && off < 0x80) || [Blk.tt, .int, .rep, .bst, .nvm].contains b
    | 2 => [Blk.trk, .hlc].contains b
    | 3 => b = .chn
    | 4 => b = .bwr
    | 5 => b = .ref
    | 6 => b = .thm
    | 7 => [Blk.vlq, .lay].contains b
    | 8 => b = .flt
    | _ => b = .pwr || (b = .glb && 0x80 ≤ off && off < 0xA0)

/-- The fields of the 4-byte location at an address, and the bit of the register its bit 0 is. -/
def halfAt (a : Nat) : List FieldAt × Nat :=
  let l := fieldsAt a
  if l.isEmpty ∧ a % 8 = 4 then ((fieldsAt (a - 4)).filter fun x => x.f.w64, 32) else (l, 0)

/-- Fields a write list may name. -/
def FieldAt.listable (x : FieldAt) : Bool := [Access.rw, .rwd, .rwl].contains x.f.acc

/-- The fields an entry's MASK touches, each with its bits of MASK and VALUE. -/
def CfgEntry.touches (e : CfgEntry) : List (FieldAt × Nat × Nat) :=
  let (l, sh) := halfAt e.addr
  l.filterMap fun x =>
    let m := e.mask * 2 ^ sh / 2 ^ x.f.lo % 2 ^ x.f.width
    if m = 0 then none else some (x, m, e.val * 2 ^ sh / 2 ^ x.f.lo % 2 ^ x.f.width)

/-- An entry names a writable field of its type's ranges and nothing else (R474). -/
def CfgEntry.ok (e : CfgEntry) (ty : Nat) : Bool :=
  mayName ty e.addr && e.addr % 4 = 0 && e.flags < 2 && (halfAt e.addr).1.any (fun x => x.listable) &&
  e.touches.all fun x => x.1.listable

/-- Bits under a mask taken from a value. -/
def underMask (old m v : Nat) : Nat := (old ^^^ (old &&& m)) ||| (v &&& m)

/-- Apply an entry (R473). -/
def State.applyEntry (s : State) (e : CfgEntry) : State :=
  e.touches.foldl (fun s x => s.setFld x.1.f (underMask (s.fld x.1.f x.1.i x.1.j) x.2.1 x.2.2) x.1.i x.1.j) s

/-- Apply a configuration record: its fixed part and its write list in order; accepted dies, lateness and HASH_EN are noted (R473, R475). -/
def State.applyRecord (s : State) (r : Record) : State :=
  let s := r.entries.foldl (fun s e => s.applyEntry e) s
  if r.ty = 1 then
    let s := s.setFld Fld.GLB_ADDR_MAP_HASH_EN (r.num 0 1)
    { s with start := { s.start with
        dies := (List.range (r.num 4 1)).map fun k => (r.num (8 + 4 * k) 2, r.num (10 + 4 * k) 2) } }
  else if r.ty = 3 then { s with rep := { s.rep with late := r.num 0 1 } }
  else s

/-- The chapter checks a record's type answers for (R474). -/
def State.typeOk (s : State) (ty : Nat) : Bool :=
  match ty with
  | 2 => s.tagPartOk && s.partnersOk
  | 3 => (List.range 66).all fun c => s.timingOk c && s.schedOk c
  | 5 => s.refreshOk
  | 6 => s.heatOk
  | 7 => (List.range 4).all s.gearsOk
  | 8 => (List.range 95).all s.reactOk
  | 9 => s.voltOk
  | _ => true

/-- Step 3 for one record, over the register set the whole image gives (R474). -/
def State.recordOk (s : State) (r : Record) : Bool :=
  r.fixedOk && (r.body.length - fixedLen r.ty) % 12 = 0 && (r.entries.all fun e => e.ok r.ty) &&
  (r.entries.all fun e => e.touches.all fun x =>
    let v := s.fld x.1.f x.1.i x.1.j
    x.1.f.vmin ≤ v && v ≤ x.1.f.vmax) && s.typeOk r.ty

/-- The records in TYPE order. -/
def inTypeOrder (rs : List Record) : List Record :=
  [1, 2, 3, 4, 5, 6, 7, 8, 9].filterMap fun t => rs.find? fun r => r.ty = t

/-- The TYPE of the first record that fails step 3, and whether the BWR record fails R219 alone (R474). -/
def imageFault (rs : List Record) : Option Nat × Bool :=
  let rs := inTypeOrder rs
  let s := rs.foldl (fun (s : State) r => s.applyRecord r) State.reset
  ((rs.find? fun r => !(s.recordOk r)).map fun r => r.ty, !s.admitOk)

/-- The fields that entries with LOCK cover (R475). -/
def lockKeys (rs : List Record) : List Nat :=
  (rs.flatMap fun r => (r.entries.filter fun e => e.flags = 1).flatMap fun e =>
    e.touches.map fun x => x.1.f.key x.1.i x.1.j).eraseDups

/-- Application of the checked records and their locks; a BWR record refused under R219 is left out and reported (R219, R475). -/
def State.applyImage (s : State) (rs : List Record) (noBwr : Bool) : State :=
  let use := (inTypeOrder rs).filter fun r => !(noBwr && r.ty = 4)
  let s := use.foldl (fun s r => s.applyRecord r) s
  let named (key : Nat) : Bool := use.any fun r => r.entries.any fun e => e.touches.any fun x => x.1.f.key x.1.i x.1.j = key
  let s := { s with fab := { s.fab with locks := lockKeys use, copies := s.fab.copies.filter fun e => !named e.1 }, bst := { s.bst with imageCrc := imageCrc rs } }
  let s := s.setFld Fld.NVM_STATUS_IMAGE_OK 1
  if noBwr then (s.setFld Fld.BWR_STATUS_IMAGE_REJECT 1).raise .nvmRecordRefused 0 { detail := 4 } else s

end Sys2Proof.Machine
end

