-- ==== Sys2Proof/Machine/Stores.lean ====
section
/-! DEFINITION. What stage B1 reads from the device's own stores (R360, R378, R437, R476 to R487, R490): SEAL, CAL, REP, journal, HOLD slots. -/
namespace Sys2Proof.Machine

/-! ### Repair entries (R480) -/

/-- A repair entry or delta from its 16 bytes. -/
def repEntOf (b : List Byte) : RepEnt :=
  let n (a k : Nat) := ofBytesLE ((b.drop a).take k)
  { kind := n 0 1, state := n 1 1 % 16, fails := n 1 1 / 16 % 4, unit := n 2 1, bank := n 3 1, row := n 4 2, res := n 6 2, data := n 8 4 }

/-- A journaled or saved delta: its SEQ and OP. -/
def deltaOf (b : List Byte) : Delta :=
  { ent := repEntOf b, remove := ofBytesLE ((b.drop 14).take 1) = 2, seq := ofBytesLE ((b.drop 12).take 2) }

/-- The entries of a REP record's body. -/
def Record.repEnts (r : Record) : List RepEnt :=
  (List.range (r.num 8 4)).map fun k => repEntOf ((r.body.drop (16 + 16 * k)).take 16)

/-- A delta applied to a list of entries. -/
def Delta.on (d : Delta) (l : List RepEnt) : List RepEnt :=
  if d.remove then l.filter fun y => !(y.same d.ent)
  else if l.any (fun y => y.same d.ent) then l.map fun y => if y.same d.ent then d.ent else y
  else l ++ [d.ent]

/-! ### The journal (R483 to R485, R490) -/

/-- The base address of a journal sector. -/
def jrnSector (k : Nat) : Nat := 0x400000 + 0x1000 * (k % 256)

/-- The SSEQ of a sector with a valid header. -/
def FlashBoot.sseq (x : FlashBoot) (k : Nat) : Option Nat :=
  let a := jrnSector k
  if x.read a 4 = [0x4A#8, 0x52#8, 0x4E#8, 0x4C#8] ∧ (crc32 (x.read a 28)).toNat = x.num (a + 28) 4 then some (x.num (a + 4) 4)
  else none

/-- The head: the valid sector of highest SSEQ. -/
def FlashBoot.jrnHead (x : FlashBoot) : Option (Nat × Nat) :=
  (List.range 256).foldl (fun (m : Option (Nat × Nat)) k => match x.sseq k, m with
    | some q, some p => if q > p.2 then some (k, q) else some p
    | some q, none => some (k, q)
    | none, m => m) none

/-- The bytes of the entry at position p of a sector, where it is programmed and its CRC-16 passes. -/
def FlashBoot.jrnEntry (x : FlashBoot) (k p : Nat) : Option (List Byte) :=
  let b := x.read (jrnSector k + 32 * p) 32
  if b.take 1 = [0xFF#8] then none
  else if (hcrc (b.take 2 ++ b.drop 4)).toNat = ofBytesLE ((b.drop 2).take 2) then some b else none

/-- The sectors of the scan, newest first: back from the head through at most 32 (R485). -/
def FlashBoot.scan (x : FlashBoot) (head q : Nat) : List Nat :=
  (List.range 32).filterMap fun i => if i ≤ q ∧ x.sseq (head + 256 - i) = some (q - i) then some (head + 256 - i) else none

/-- The good entries of the scan, newest first, each with the SSEQ of its sector. -/
def FlashBoot.jrnScan (x : FlashBoot) (head q : Nat) : List (List Byte × Nat) :=
  (x.scan head q).flatMap fun k =>
    (List.range 127).filterMap fun i => (x.jrnEntry k (127 - i)).map fun b => (b, (x.sseq k).getD 0)

/-- The next entry position of the head; 0: full. -/
def FlashBoot.jrnNext (x : FlashBoot) (head : Nat) : Nat :=
  ((List.range 127).find? fun i => x.byte (jrnSector head + 32 * (127 - i)) ≠ 0xFF#8).elim 1 fun i => (128 - i) % 128

/-- The kind of an entry's bytes. -/
def jKind (b : List Byte) : Nat := ofBytesLE (b.take 1)

/-- The wear credits: a WEAR entry of the head, else its header (R485). -/
def FlashBoot.credits (x : FlashBoot) (head : Nat) : List Nat :=
  let wear := (List.range 127).findSome? fun i => (x.jrnEntry head (127 - i)).bind fun b => if jKind b = 6 then some (b.drop 16) else none
  let src := wear.getD (x.read (jrnSector head + 8) 12)
  (List.range 6).map fun a => ofBytesLE ((src.drop (2 * a)).take 2)

/-! ### SEAL (R378, R482) -/

/-- A seal from its record. -/
def sealOf (r : Record) : Seal := {
  state := r.num 0 1, kind := r.num 1 1, layers := r.num 2 1, abort := r.num 3 1, steps := r.num 4 4, stepEnd := r.num 8 4
  sig := r.num 12 4, expect := r.num 16 4, stack := r.num 20 8, imageCrc := r.num 28 4, gen := r.num 32 4
  failRows := r.num 36 2, unrep := r.num 38 2, logic := r.num 40 2, loop := r.num 42 2 }

/-- The governing seal and its position in the ring. -/
def FlashBoot.seal_ (x : FlashBoot) : Option (Seal × Nat) :=
  (List.range 512).foldl (fun (m : Option (Seal × Nat)) k =>
    match x.record (0x100000 + 128 * k) 0x10 128 with
    | none => m
    | some r => match m with
      | some p => if (sealOf r).gen > p.1.gen then some (sealOf r, k) else some p
      | none => some (sealOf r, k)) none

/-- The seal read at POR governs and shows in BST (R378, R379). -/
def State.loadSeal (s : State) (x : FlashBoot) : State :=
  match x.seal_ with
  | none => s
  | some (y, k) =>
    let s := { s with bst := { s.bst with cur := y, valid := true }, nvm := { s.nvm with sealPos := (k + 1) % 512 } }
    let s := ((s.showSeal y).setFld Fld.BST_STEPS_VALUE y.steps).setFld Fld.BST_STEP_END_VALUE y.stepEnd
    let s := ((s.setFld Fld.BST_SIG_VALUE y.sig).setFld Fld.BST_EXPECT_VALUE y.expect).setFld Fld.BST_FAILS_FAIL_ROWS y.failRows
    (s.setFld Fld.BST_FAILS_LOGIC_FAIL y.logic).setFld Fld.BST_FAILS_LOOP_FAIL y.loop

/-! ### CAL (R476, R478) -/

/-- Read CAL: which copies are valid; the governing body is kept for B2 (R476, R479). -/
def State.loadCal (s : State) (x : FlashBoot) : State :=
  let a := x.record 0x110000 0x11 0x20000
  let b := x.record 0x130000 0x11 0x20000
  let best := match a, b with
    | some p, some q => if q.gen > p.gen then some q else some p
    | some p, none => some p
    | none, q => q
  let s := (s.setFlag Fld.NVM_CAL_A_OK a.isSome).setFlag Fld.NVM_CAL_B_OK b.isSome
  let s := { s with nvm := { s.nvm with calA := a.map Record.gen, calB := b.map Record.gen, cal := (best.map Record.body).getD [] } }
  let s := { s with start := { s.start with calStack := best.map fun (r : Record) => r.num 0 8 } }
  (s.setFld Fld.NVM_CAL_GEN ((best.map Record.gen).getD 0)).setFlag Fld.NVM_CAL_SEED best.isSome

/-! ### HOLD slots (R486, R487) -/

/-- The base address of a HOLD slot. -/
def holdSlot (i : Nat) : Nat := 0x150000 + 0x1000 * i

/-- The HSEQ of a started slot. -/
def FlashBoot.hseq (x : FlashBoot) (i : Nat) : Option Nat :=
  let a := holdSlot i
  if x.read a 4 = [0x48#8, 0x4F#8, 0x4C#8, 0x44#8] ∧ (crc32 (x.read a 28)).toNat = x.num (a + 28) 4 then some (x.num (a + 4) 4)
  else none

/-- Whether a started slot's trailer is valid. -/
def FlashBoot.complete (x : FlashBoot) (i : Nat) : Bool :=
  let a := holdSlot i
  x.read (a + 0xFF0) 4 = [0x48#8, 0x45#8, 0x4E#8, 0x44#8] && some (x.num (a + 0xFF4) 4) = x.hseq i &&
  (crc32 (x.read a 0xFF0)).toNat = x.num (a + 0xFF8) 4

/-- The started slots in HSEQ order. -/
def FlashBoot.started (x : FlashBoot) : List Nat :=
  let l := (List.range 4).filterMap fun i => (x.hseq i).map fun q => (q, i)
  let rec ins (e : Nat × Nat) : List (Nat × Nat) → List (Nat × Nat)
    | [] => [e]
    | f :: r => if e.1 < f.1 then e :: f :: r else f :: ins e r
  (l.foldl (fun m e => ins e m) []).map fun e => e.2

/-- The slots as B1 reads them: the designated one shows in NVM.STATUS (R487). -/
def State.loadSlots (s : State) (x : FlashBoot) : State :=
  let free := (List.range 4).find? fun i => x.blank (holdSlot i) 0x1000
  let st := x.started
  let s := { s with nvm := { s.nvm with
    desig := free, slots := st, copied := 0
    hseq := st.foldl (fun m i => max m ((x.hseq i).getD 0)) s.nvm.hseq
    slotData := st.foldl (fun m i => Store.put m i (x.read (holdSlot i) 0x1000)) [] } }
  (s.setFlag Fld.NVM_STATUS_HOLD_NONE free.isNone).setFld Fld.NVM_STATUS_HOLD_SLOT (free.getD 0)

/-- PWR.HOLD and the cause of the start, from the newest slot and the newest journal entry (R437, R487). -/
def State.loadHold (s : State) (x : FlashBoot) (newest : Option (List Byte)) : State :=
  let lost : Bool := (newest.map jKind) = some 8
  let s := match x.started.getLast? with
    | none => s
    | some i =>
      let s := s.setFld Fld.PWR_HOLD_LAST (if x.complete i then 1 else 2)
      let s := s.setFlag Fld.PWR_HOLD_TRUNC ((x.num (holdSlot i + 0x120) 4).testBit 8)
      s.setFld Fld.PWR_HOLD_CAUSE (x.num (holdSlot i + 0x11C) 4 % 16)
  let s := if lost then s.setFld Fld.PWR_HOLD_LAST 3 else s
  if lost ∨ ¬ x.started.isEmpty then s.setFld Fld.GLB_STATE_CAUSE 1 else s

/-- The deltas a complete slot saved, when it is the newest complete one and names the loaded generation (R481). -/
def FlashBoot.slotDeltas (x : FlashBoot) (gen : Nat) : List Delta :=
  match (x.started.filter x.complete).getLast? with
  | none => []
  | some i =>
    let a := holdSlot i
    if x.num (a + 0x118) 4 ≠ gen then [] else
    (List.range (min 117 (x.num (a + 0x120) 1))).map fun k => deltaOf (x.read (a + 0x130 + 16 * k) 16)

/-! ### REP (R358 to R360, R476, R480, R481) -/

/-- The first delta of a SEQ, for SEQ 1 upward without limit of order: sorted, each once. -/
def orderDeltas (l : List Delta) : List Delta :=
  let rec ins (e : Delta) : List Delta → List Delta
    | [] => [e]
    | f :: r => if e.seq < f.seq then e :: f :: r else if e.seq = f.seq then f :: r else f :: ins e r
  l.foldl (fun m e => ins e m) []

/-- Which REP copies are valid; their generations (R476). -/
def State.repCopies (s : State) (x : FlashBoot) : State × Option Record :=
  let a := x.record 0x200000 0x12 0x100000
  let b := x.record 0x300000 0x12 0x100000
  let best := match a, b with
    | some p, some q => if q.gen > p.gen then some q else some p
    | some p, none => some p
    | none, q => q
  let s := (s.setFlag Fld.REP_STATUS_STORE_A_OK a.isSome).setFlag Fld.REP_STATUS_STORE_B_OK b.isSome
  ({ s with nvm := { s.nvm with repA := a.map Record.gen, repB := b.map Record.gen } }, best)

/-- The working copy at POR: the governing record and the deltas that name it (R360, R481). -/
def State.loadRep (s : State) (x : FlashBoot) (best : Option Record) (scan : List (List Byte × Nat)) : State :=
  let gen := (best.map Record.gen).getD 0
  let mine := scan.filter fun e => jKind e.1 = 2 && ofBytesLE ((e.1.drop 1).take 1) = gen % 256
  let ds := orderDeltas ((mine.map fun e => deltaOf (e.1.drop 16)) ++ x.slotDeltas gen)
  let copy := ds.foldl (fun l d => d.on l) ((best.map Record.repEnts).getD [])
  let s := { s with rep := { s.rep with copy := copy, deltas := ds, first := (mine.getLast?).map Prod.snd } }
  let s := (s.setFld Fld.REP_STORE_GEN gen).setFld Fld.REP_STORE_PENDING (min ds.length 0xFFFF)
  if best.isNone then s.raise .repStoreFail else s

/-! ### The journal's place (R483, R485, R489, R490) -/

/-- The journal as found, or begun at sector 0 with first-POR credits. -/
def State.loadJrn (s : State) (x : FlashBoot) : State :=
  match x.jrnHead with
  | none => { s with nvm := { s.nvm with sseq := 0, ahead := false } }
  | some (k, q) =>
    let newest : Option (List Byte × Nat) := (x.jrnScan k q).head?
    let s := { s with nvm := { s.nvm with
      sseq := q, ahead := x.blank (jrnSector (k + 1)) 0x1000
      jseq := (newest.map fun (e : List Byte × Nat) => ofBytesLE ((e.1.drop 4).take 4)).getD 0 } }
    let s := (s.setFld Fld.NVM_JRN_HEAD k).setFld Fld.NVM_JRN_NEXT (x.jrnNext k)
    (x.credits k).zipIdx.foldl (fun s c => s.setFld Fld.NVM_WEAR_CREDIT c.1 0 c.2) s

/-- The seal's age: the newest recorded one of its GEN (R382). -/
def State.loadAge (s : State) (scan : List (List Byte × Nat)) : State :=
  match scan.find? fun e => jKind e.1 = 3 && ofBytesLE ((e.1.drop 16).take 4) = s.bst.cur.gen with
  | some e => s.setFld Fld.BST_SEAL_AGE_AGE (ofBytesLE ((e.1.drop 24).take 8))
  | none => s

/-- The stores at B1: after a POR all of them; at a later start what the start itself uses (R360, R476, R479, R482, R485, R487). -/
def State.loadStores (s : State) (x : FlashBoot) : State :=
  let s := (s.loadCal x).loadSlots x
  let (s, best) := s.repCopies x
  let s := if s.nvm.loaded then s else
    let scan := match x.jrnHead with
      | some (k, q) => x.jrnScan k q
      | none => []
    let s := ((s.loadJrn x).loadSeal x).loadRep x best scan
    let s := (s.loadAge scan).loadHold x (scan.head?.map fun e => e.1)
    { s with nvm := { s.nvm with loaded := true } }
  if s.nvm.ahead then s else s.nvmAdd { kind := .jrnErase, erases := 1 }

end Sys2Proof.Machine
end

