-- ==== Sys2Proof/Machine/Starts.lean ====
section
/-! DEFINITION. Starts (16, 12, 13, 17): stages B0 to B7, the pilot, the chosen configuration, widening, and the copying of HOLD slots. Each stage acts when GLB.STATE.PHASE names it. -/
namespace Sys2Proof.Machine

/-- Whether a stage of the start in progress may act now. -/
def State.atStage (s : State) (n : Nat) : Bool :=
  s.start.running && !s.start.held && s.hold.isNone && !s.resetting && s.fld Fld.GLB_STATE_PHASE = n

/-- The next stage begins. -/
def State.toStage (s : State) (n : Nat) : State :=
  ({ s with start := { s.start with begun := false } }).setFld Fld.GLB_STATE_PHASE n

/-- STAGE_B0_SERVICE: REFCLK is good, the core PLL has locked and the fuses are read; frame 0 begins (R443). -/
def execStageB0Service (s : State) : Out :=
  .next <| if ¬ s.atStage 0 ∨ ¬ s.pins.refclk then s else
    ({ s with cc := 0, start := { s.start with b0 := true } }).toStage 1

/-! ### B1 (R445, R469, R474, R475) -/

/-- The start stops at B1 (R445). -/
def State.stopStart (s : State) : State :=
  ({ s with start := { s.start with running := false } }).setFld Fld.GLB_STATE_PHASE 0xE

/-- SFDP as R469 checks it. -/
def FlashBoot.sfdpOk (x : FlashBoot) : Bool := x.signature && x.rev ≥ 0x106 && x.basic && x.density ≥ 27

/-- Retired and pending pairs of the working copy (R345, R357, R362). -/
def State.showPairs (s : State) : State :=
  s.rep.copy.foldl (fun s e =>
    if e.kind ≠ 5 then s
    else if e.state = 6 then
      let s := s.setFld Fld.REP_PAIRS_RETIRED (setBit (s.fld Fld.REP_PAIRS_RETIRED 0 e.unit) e.bank) 0 e.unit
      let p := s.fld Fld.REP_PAIRS_PENDING 0 e.unit
      s.setFld Fld.REP_PAIRS_PENDING (if p.testBit e.bank then p - 2 ^ e.bank else p) 0 e.unit
    else s.setFld Fld.REP_PAIRS_PENDING (setBit (s.fld Fld.REP_PAIRS_PENDING 0 e.unit) e.bank) 0 e.unit) s

/-- Decoders that a recorded mask shows as replaced (R354). -/
def badDecoders (mask : Nat) : List Nat :=
  let lost := (List.range 16).filter fun d => !mask.testBit d
  let spares := [16, 17].filter fun d => !mask.testBit d && (mask.testBit 17 || lost.length ≥ 2)
  lost ++ spares

/-- What the working copy gives the registers at B1: engines, decoders, map rows, pairs; after a POR also the retired layers and the pilot layer (R353 to R356, R358, R361). -/
def State.applyCopy (s : State) : State :=
  let s := s.rep.copy.foldl (fun s e =>
    match e.kind with
    | 7 => s.setFld Fld.CHN_CTL_ENGINE e.res e.unit
    | 8 => { (s.setFld Fld.INT_CODEC_STATUS_ACTIVE e.data) with codec := { s.codec with bad := badDecoders (e.data % 2 ^ 18) } }
    | 9 => { s with vmap := { s.vmap with spareRows := Store.put s.vmap.spareRows e.row e.res } }
    | 12 => if s.start.warm then s else
        (s.setFld Fld.REP_LAYERS_RETIRED (e.data / 2 ^ 16)).setFld Fld.REP_MAP_PILOT_LAYER e.res
    | _ => s) s
  s.showPairs

/-- The first check of R383 that fails on the seal; 0 where all pass. Check 0x06 is taken only where this start's stack ID is given. -/
def State.slowReason (s : State) (stack : Option Nat) : Nat :=
  let y := s.bst.cur
  if ¬ s.bst.valid then 1
  else if y.state = 1 then 2
  else if y.state ≠ 2 then 3
  else if ¬ (y.steps = y.stepEnd ∧ y.stepEnd = 105 + 772 * y.layers ∧ y.layers ≠ 0) then 4
  else if y.sig ≠ y.expect then 5
  else if stack ≠ none ∧ stack ≠ some y.stack then 6
  else if y.imageCrc ≠ s.bst.imageCrc then 7
  else if s.fld Fld.BST_SEAL_AGE_AGE > s.fld Fld.BST_CFG_AGE_DAYS * 86400000000 then 8
  else if ¬ s.flag Fld.BST_CFG_QUICK_EN then 9
  else 0

/-- Stage B5 begins: the two lowest enabled tracks train (R444, R447). -/
def State.startPilots (s : State) : State :=
  if s.start.b5 then s else
  let ts := s.enabledTracks.take 2
  let s := { s with start := { s.start with b5 := true, tracksGo := ts } }
  ts.foldl (fun s t => s.startTrack t) s

/-- STAGE_B1_IMAGE: SFDP, the image's checks and its application with the locks, the stores; then B5 begins where nothing but the stack ID can still turn the start slow (R444, R445, R469, R474, R475, R485, R487). -/
def execStageB1Image (x : FlashBoot) (s : State) : Out :=
  .next <| if ¬ s.atStage 1 then s else
    if ¬ x.sfdpOk then (s.raise .nvmSfdp).stopStart else
    let s := s.setFld Fld.NVM_STATUS_SFDP_OK 1
    let s := ((s.setFld Fld.NVM_FLASH_REV (x.rev % 256)).setFld Fld.NVM_FLASH_DUMMY x.dummy).setFld Fld.NVM_FLASH_DENSITY x.density
    match x.image with
    | .error ty => ((s.setFld Fld.NVM_STATUS_FAIL_TYPE ty).raise .nvmRecordCrc 0 { detail := ty }).stopStart
    | .ok rs =>
      match imageFault rs with
      | (some ty, _) => ((s.setFld Fld.NVM_STATUS_FAIL_TYPE ty).raise .nvmRecordRefused 0 { detail := ty }).stopStart
      | (none, noBwr) =>
        let s := if noBwr then s.setFld Fld.NVM_STATUS_FAIL_TYPE 4 else s
        let s := ((s.applyImage rs noBwr).loadStores x).applyCopy
        let s := s.avsStart .readV
        let slow : Bool := !s.start.warm && s.slowReason none != 0
        let s := { s with start := { s.start with slow := slow } }
        (if slow then s else s.startPilots).toStage 2

/-! ### B2 (R280, R308, R356, R443, R446, R479) -/

/-- n bytes of the CAL body. -/
def State.calNum (s : State) (a n : Nat) : Nat := ofBytesLE ((s.nvm.cal.drop a).take n)

/-- Seeds from CAL: latencies, baselines, trims and gears of the base die's ends; after a POR the witness references (R421, R478, R479). -/
def State.seedCal (s : State) : State :=
  let s := s.upTo 64 fun c s => s.setFld Fld.CHN_LAT_RD_LAT (s.calNum (264 + 2 * c) 2) c
  let s := s.upTo 4096 fun k s =>
    let b := k / 64
    let n := k % 64
    let e := s.calNum (8584 + 8 * k) 4
    let s := (s.setCol Fld.VLQ_COL_AGC_BASE (s.calNum (392 + 2 * k) 2) b n).setCol Fld.VLQ_COL_GEAR (bits e 1 0) b n
    (s.setCol Fld.VLQ_COL_PH (bits e 7 4) b n).setCol Fld.VLQ_COL_DLY (bits e 15 8) b n
  if s.start.warm then s else
  s.upTo 16 fun l s =>
    let w := s.calNum (16 + 16 * l) 8
    let s := (s.setFld Fld.THM_WIT_REF_VALID (bits w 63 63) 0 l).setFld Fld.THM_WIT_REF_T_TRAIN (bits w 61 48) 0 l
    (s.setFld Fld.THM_WIT_REF_D_TRAIN (bits w 43 32) 0 l).setFld Fld.THM_WIT_REF_G_BASE (bits w 11 0) 0 l

/-- A column recorded as retired is not tried again: its spare serves it from the start (R305, R356). -/
def State.retiredCol (s : State) (e : RepEnt) : State :=
  let b := e.unit
  let n := e.row
  let s := s.setCol Fld.VLQ_COL_ROLE 2 b n
  if n ≥ 58 then s else
  let taken (i : Nat) : Bool := (Store.find (s.bund b).serves i).isSome || s.col Fld.VLQ_COL_ROLE b i = 2
  match ((List.range 6).map (58 + ·)).find? fun i => (e.res = i || e.res < 58) && !taken i with
  | some sp => (s.modBund b fun x => { x with serves := Store.put x.serves sp n }).setCol Fld.VLQ_COL_ROLE 0 b sp
  | none => s.modBund b fun x => { x with erased := x.erased ++ [n] }

/-- Every column and spine site recorded as retired (R356). -/
def State.retiredCols (s : State) : State :=
  let cols := s.rep.copy.filter fun e => e.kind = 11 && e.row < 64
  let s := (cols.filter fun e => e.row ≥ 58).foldl (fun s e => s.retiredCol e) s
  (cols.filter fun e => e.row < 58).foldl (fun s e => s.retiredCol e) s

/-- Switch the domains of the vertical quadrants (R28, R431). -/
def State.vqOn (s : State) (on : Bool) : State := s.upTo 4 fun q s => s.setDomain (75 + q) on

/-- B2 begins: VQ0 to VQ3 on, seeds, vertical training of segments 1 to 4. -/
def State.beginB2 (s : State) : State :=
  let s := { (s.vqOn true) with start := { s.start with begun := true } }
  let cold : Bool := s.nvm.cal.isEmpty
  let s := (if cold then s else s.seedCal).retiredCols
  s.startTraining { seg := 0, last := 3, bundles := List.range 64, start := true, cold := cold }

/-- Whether a channel is recorded as failed (R353). -/
def State.failedChan (s : State) (c : Nat) : Bool := s.rep.copy.any fun e => e.kind = 6 && e.unit = c

/-- Whether layer l is accepted and reachable: its identity passed and its bundles trained (R282, R308). -/
def State.reached (s : State) (l : Nat) : Bool :=
  s.flag Fld.LAY_STATE_ID_OK (l - 1) && (List.range 4).all fun i => (s.bund (4 * (l - 1) + i)).up

/-- The fewest live pairs of the channels of layer l. -/
def State.leastPairs (s : State) (l : Nat) : Nat :=
  (List.range 4).foldl (fun m i => min m (s.livePairs (4 * (l - 1) + i)).length) 16

/-- Whether layer l is healthy (R362). -/
def State.healthy (s : State) (l : Nat) : Bool :=
  s.reached l && ((List.range 4).all fun i => !s.failedChan (4 * (l - 1) + i)) && s.leastPairs l ≥ 1

/-- Layers 1 to 16 that are healthy, ascending. -/
def State.healthyLayers (s : State) : List Nat := ((List.range 16).map (· + 1)).filter s.healthy

/-- The pilot is fixed: PILOT_LAYER where it is fit, else the lowest fit layer, with the fewest live pairs of its channels (R446). -/
def State.fixPilot (s : State) : State :=
  let fit := s.healthyLayers
  let want := s.fld Fld.REP_MAP_PILOT_LAYER + 1
  let lp := if fit.contains want then want else fit.headD 0
  let p := if lp = 0 then 16 else s.leastPairs lp
  let dead : Store Nat := (layerChans (if lp = 0 then [] else [lp])).foldl (fun m c => Store.set m c 0 (s.fld Fld.REP_PAIRS_RETIRED 0 c)) []
  let s := { s with start := { s.start with pilot := lp, pilotP := p, pilotDead := dead } }
  let s := ((s.setFld Fld.GLB_ADDR_MAP_MEMBER 1).setFld Fld.GLB_ADDR_MAP_KIND 0).setFld Fld.GLB_ADDR_MAP_CHAN_COUNT 4
  s.setFld Fld.GLB_INSTALLED_WAGONS (if lp = 0 then 0 else 4 * p * 24576)

/-- The checks of R383 at the end of B2 of a POR start; answers the reason. -/
def State.sealChecks (s : State) : State × Nat :=
  if s.start.warm then (s, 0) else
  let why := s.slowReason (some (s.fld Fld.BST_STACK_ID_ID))
  let s := (s.setFld Fld.BST_START_SLOW_REASON why).setFld Fld.BST_START_KIND (if why = 0 then 1 else 2)
  let s := { s with start := { s.start with slow := why != 0 } }
  (if why = 0 then s else s.raise .bstSlowStart 0 { detail := why }, why)

/-- The START entry (R484). -/
def State.journalStart (s : State) (why : Nat) : State :=
  let kind := if s.start.warm then 2 else if why = 0 then 0 else 1
  let slot := (s.nvm.desig).getD 0xFF
  s.journal 0x01 (s.fld Fld.GLB_STATE_CAUSE) (kind + why * 2 ^ 8 + slot * 2 ^ 16 + s.fld Fld.BST_STACK_ID_ID * 2 ^ 64)

/-- B2 ends: the stack ID, the seal checks, the pilot; tracks that hold in phase 4 go on (R380, R383, R444, R446, R479). -/
def State.endB2 (s : State) : State :=
  let id := s.stackId
  let s := (s.setFld Fld.BST_STACK_ID_ID id).fixPilot
  let s := { s with start := { s.start with stack := id, b2 := true } }
  let (s, why) := s.sealChecks
  let s := s.journalStart why
  let s := if s.fld Fld.NVM_CAL_SEED = 1 then s else s.commitCal
  let s := s.upTo 32 fun t s => if s.inPhase t 4 then s.advance t [] else s
  s.toStage (if why = 0 then 4 else 3)

/-- STAGE_B2_STACK: the stage begins; where its training has ended, it ends (R280, R383, R443, R446). -/
def execStageB2Stack (s : State) : Out :=
  .next <| if ¬ s.atStage 2 then s
  else if ¬ s.start.begun then s.beginB2
  else if s.vert.trains.any fun j => j.start then s
  else s.endB2

/-! ### B3 and B4 (R361, R362, R384, R444) -/

/-- STAGE_B3_TEST: the start-up test of a slow start begins; where it has ended, B5 begins and the stage ends (R384, R444). The operands say whether the limits of R375 hold. -/
def execStageB3Test (clockOk vddcOk : Bool) (s : State) : Out :=
  .next <| if ¬ s.atStage 3 then s
  else if ¬ s.start.begun then
    ({ s with start := { s.start with begun := true } }).startTest 2 clockOk vddcOk
  else if s.bst.kind ≠ 0 ∨ s.bst.waiting then s
  else s.startPilots.toStage 4

/-- Pending pairs become retired, each change a journaled delta (R359, R361, R362). -/
def State.retirePending (s : State) : State :=
  let due := s.rep.copy.filter fun e => e.kind = 5 && e.state = 5
  let s := due.foldl (fun s e => s.repSet { e with state := 6 }) s
  let s := if due.isEmpty then s else { s with start := { s.start with retired := true } }
  s.showPairs

/-- The configuration R362 chooses. -/
def State.choose (s : State) : Member :=
  let ls := s.healthyLayers
  let cand (p : Nat) := ls.filter fun l => s.leastPairs l ≥ p
  let best := [16, 12, 8, 4, 2, 1].foldl (fun (m : Member) n =>
    match ((List.range 16).map (16 - ·)).find? fun p => (cand p).length ≥ n with
    | some p => if n * p > m.n * m.p then { n := n, p := p, used := (cand p).take n } else m
    | none => m) { n := 0, p := 0 }
  if best.n = 0 then { n := 1, p := 0 } else best

/-- The layers of a configuration as a mask. -/
def Member.mask (m : Member) : Nat := m.used.foldl (fun n l => setBit n (l - 1)) 0

/-- A configuration chosen afresh: the working copy records its layers and the pilot layer of the next start (R358, R362). -/
def State.chosen (s : State) (m : Member) : State :=
  let pilot := m.used.headD 1 - 1
  let e : RepEnt := { kind := 12, res := pilot, data := m.mask + s.fld Fld.REP_LAYERS_RETIRED * 2 ^ 16 }
  let s := if s.rep.copy.contains e then s else s.repSet e
  { (s.setFld Fld.REP_MAP_PILOT_LAYER pilot) with start := { s.start with conf := m } }

/-- A POR start: retirements are applied, the configuration chosen, the layers recorded (R361, R362). -/
def State.configurePor (s : State) : State :=
  let s := s.retirePending
  let m := s.choose
  let gone := ((List.range 16).filter fun l => s.flag Fld.LAY_STATE_ID_OK l && !s.healthy (l + 1)).foldl setBit 0
  let s := if gone = 0 then s else { s with start := { s.start with retired := true } }
  (s.setFld Fld.REP_LAYERS_RETIRED gone).chosen m

/-- A warm start: the previous configuration, or a fresh choice where it cannot be presented (R361). -/
def State.configureWarm (s : State) : State :=
  let good (m : Member) : Bool := m.used.all fun l => s.reached l && (List.range 4).all fun i => !s.failedChan (4 * (l - 1) + i)
  match s.start.prev with
  | some m =>
    if good m then { s with start := { s.start with conf := m } }
    else
      ((s.chosen s.choose).setFld Fld.REP_STATUS_MAP_MOVED 1).raise .repMapMoved
  | none => s.chosen s.choose

/-- STAGE_B4_CONFIGURATION (R361, R362, R443). -/
def execStageB4Configuration (s : State) : Out :=
  .next <| if ¬ s.atStage 4 then s
  else (if s.start.warm then s.configureWarm else s.configurePor).toStage 6

/-! ### B6 (R348, R349, R443, R448) -/

/-- The used channels of this start, pilot layer first. -/
def State.startChans (s : State) : List Nat :=
  let ls := if s.start.pilot = 0 then s.start.conf.used else s.start.pilot :: s.start.conf.used.filter fun l => l != s.start.pilot
  layerChans ls

/-- An entry still MIGRATING at a start: at a warm start its row is poisoned through its resource and REP_MIGRATE_LOST raised; after a POR the repair is simply made (R348). -/
def State.finishMigrating (s : State) (e : RepEnt) : State :=
  let c := e.unit
  let soft : Bool := e.data % 2 = 0
  let s := s.repSet { e with state := if soft then 2 else 3 }
  let info : FaultInfo := { detail := repDetail e.bank (some e.resource), loc := some (c, layerOf c, e.bank, e.row, 0) }
  if ¬ s.start.warm then (s.bump Fld.REP_CNT_COUNT 0 (if soft then 0 else 2)).raise .repRowRepaired 0 info
  else
    let row := if soft then e.row else 24576 + e.res
    let held := (List.range 32).map fun i => (0, e.bank, row, i)
    let s := s.modChan c fun x => { x with locks := held ++ x.locks }
    (s.pushRow c e.bank row true .mark fun _ => lineOf poisonTile poisonTile).raise .repMigrateLost 0 info

/-- A start after a POR: PENDING column groups of the used channels are applied while their dies have spare groups left; SREP follows with the soft repairs (R343, R352). -/
def State.applyGroups (s : State) (cs : List Nat) : State :=
  (s.rep.copy.filter fun e => e.kind = 4 && e.state = 5 && cs.contains e.unit).foldl (fun s e =>
    let used := (s.rep.copy.filter fun y => y.kind = 4 && y.unit / 4 = e.unit / 4 && y.state != 5).length
    if used < Store.get s.rep.groups (e.unit / 4) 0 then (s.repDel e).repSet { e with state := 2 } else s) s

/-- Take a channel out of self-refresh, its engine and the shared domains on (R248, R349, R431). -/
def State.wakeChan (s : State) (c : Nat) (recover soft : Bool) : State :=
  let s := s.setDomain (9 + s.fld Fld.CHN_CTL_ENGINE c) true
  (s.modRef c fun r => { r with soft := soft }).sendSrx c recover

/-- CODEC, VMAP and TTX go on (R431). -/
def State.poolsOn (s : State) : State := ((s.setDomain 79 true).setDomain 80 true).setDomain 81 true

/-- B6 begins: every used channel is sent out of self-refresh, pilot layer first; recovery runs after a PIN or CHIP reset (R242, R247, R248, R443). -/
def State.beginB6 (s : State) : State :=
  let s := s.poolsOn
  let s := { s with start := { s.start with begun := true } }
  let cs := s.startChans
  let s := (s.rep.copy.filter fun e => e.kind = 1 && e.state = 1 && cs.contains e.unit).foldl (fun s e => s.finishMigrating e) s
  let s := if s.start.warm then s else s.applyGroups cs
  cs.foldl (fun s c => s.wakeChan c s.start.again true) s

/-- STAGE_B6_CHANNELS: the stage begins; where every used channel has left self-refresh, it ends (R443, R448). -/
def execStageB6Channels (s : State) : Out :=
  .next <| if ¬ s.atStage 6 then s
  else if ¬ s.start.begun then s.beginB6
  else if s.startChans.all fun c => (s.chan c).exited then
    ({ s with start := { s.start with b6 := true } }).toStage 7
  else s

/-! ### B7 and widening (R449 to R451) -/

/-- Announce on every READY track for an effective frame (R449, R450). -/
def State.announce (s : State) (f : Nat) : State :=
  let s := { s with start := { s.start with eff := some (f % 2 ^ 48) } }
  let s := (s.setFld Fld.GLB_STATE_WIDEN_PENDING 1).bump Fld.GLB_PWR_STATUS_WIDEN_TRIES
  s.readyTracks.foldl (fun s t => s.announceTo t) s

/-- STAGE_B7_WIDENING: B6 has ended, a track is READY and widening is permitted: it is announced for a frame 65 ahead, so that content sent in this frame or the next lies at least 64 frames before it (R116, R449; log entry 132). -/
def execStageB7Widening (s : State) : Out :=
  .next <| if ¬ s.atStage 7 ∨ s.start.eff.isSome ∨ s.readyTracks.isEmpty then s
  else if s.flag Fld.GLB_PWR_CFG_WIDEN_AUTO ∨ s.start.go then s.announce (s.fld Fld.TT_TIME_FRAME + 65)
  else s

/-- The chosen configuration comes into force (R36, R217, R330, R362). -/
def State.present (s : State) : State :=
  let m := s.start.conf
  let s := (s.setFld Fld.GLB_ADDR_MAP_CHAN_COUNT (4 * m.n)).setFld Fld.GLB_ADDR_MAP_KIND m.kind
  let s := (s.setFld Fld.GLB_ADDR_MAP_MEMBER (memberCode m.n)).setFld Fld.GLB_INSTALLED_WAGONS m.wagons
  let s := (s.setFld Fld.REP_LAYERS_USED m.mask).setFld Fld.REP_MAP_PAIRS m.p
  { s with bwr := { s.bwr with fill := true } }

/-- Widening takes effect: the buckets start full at this tick, the frame it opens is accounted with the configuration it presents, the start is complete (R214, R217, R451). -/
def State.widen (s : State) (f : Nat) : State :=
  let s := s.present.refillAll
  let s := { s with bwr := { s.bwr with due := s.deliverable } }
  let s := (s.setFld Fld.GLB_STATE_WIDEN_PENDING 0).setFld Fld.GLB_STATE_READY 1
  let s := ((s.setFld Fld.GLB_STATE_STATE PowerState.run.code).setFld Fld.GLB_BOOT_TIME_FRAMES f).setFld Fld.GLB_STATE_PHASE 8
  let s := { s with start := { s.start with running := false, eff := none, go := false } }
  let s := s.readyTracks.foldl (fun s t => s.modTrn t fun x => { x with capUpdate := false, capAnswered := false }) s
  let others := s.enabledTracks.filter fun t => !s.start.tracksGo.contains t && s.linkIs t .disabled
  let s := others.foldl (fun s t => s.startTrack t) s
  if s.start.retired then s.commitRep else s

/-- WIDEN_EFFECTIVE_TICK: at the tick that opens the effective frame the new configuration takes effect where every READY track has answered; else it is announced again, 64 frames later (R450, R451). -/
def execWidenEffectiveTick (s : State) : Out :=
  .next <| match s.start.eff with
  | none => s
  | some f =>
    if ¬ s.atStage 7 ∨ s.fld Fld.TT_TIME_FRAME < f then s
    else if s.readyTracks.all fun t => (s.trk t).trn.capAnswered then s.widen f
    else s.announce (f + 64)

/-! ### HOLD slots (R487) -/

/-- Journal chunks of a slot while the buffer has room. -/
def State.copyChunks (s : State) (bytes : List Byte) : State :=
  s.upTo (min (32 - s.nvm.jrn.length) (256 - s.nvm.copied)) fun _ s =>
    let k := s.nvm.copied
    let s := s.journal 0x05 k (ofBytesLE ((bytes.drop (16 * k)).take 16))
    { s with nvm := { s.nvm with copied := k + 1 } }

/-- HOLD_SLOT_COPY: once B7 has ended, the oldest started slot goes into the journal, 256 entries of 16 bytes, as room allows; then the slot is erased (R487). -/
def execHoldSlotCopy (s : State) : Out :=
  .next <| if ¬ s.flag Fld.GLB_STATE_READY then s else
    match s.nvm.slots with
    | [] => s
    | i :: _ =>
      if s.nvmHas (.slot i) then s else
      let s := s.copyChunks ((Store.find s.nvm.slotData i).getD [])
      if s.nvm.copied < 256 then s.nvmKick else s.nvmAdd { kind := .slot i, erases := 1 }

end Sys2Proof.Machine
end

