-- ==== Sys2Proof/Machine/States.lean ====
section
/-! DEFINITION. Power states (16, 15): NAP, entering PARK, PARK and its exit, and what a write of PWR_REQ.TARGET does. -/
namespace Sys2Proof.Machine

/-- The device's power state changes (R466). -/
def State.toState (s : State) (p : PowerState) : State := s.setFld Fld.GLB_STATE_STATE p.code

/-- Every channel queue is empty. -/
def State.queuesEmpty (s : State) : Bool := s.chans.all fun e => e.2.q.isEmpty

/-- NAP_IDLE_EXPIRY: with TARGET NAP, no request accepted for NAP_IDLE frames and every queue empty, the device enters NAP at a tick (R457). -/
def execNapIdleExpiry (s : State) : Out :=
  .next <| if s.inState .run ∧ s.fld Fld.TT_TIME_CYCLE = 0 ∧ s.fld Fld.GLB_PWR_REQ_TARGET = 1 ∧
      s.park.idle ≥ s.fld Fld.GLB_PWR_CFG_NAP_IDLE ∧ s.queuesEmpty then s.toState .nap else s

/-! ### Entering PARK (R458, R460, R464) -/

/-- A write of TARGET PARK is taken: requests are answered RETRY from now on, an explicit channel test is aborted, the drain begins (R388, R458 step 1). -/
def State.enterPark (s : State) : State :=
  let p : Park := { step := .drain, ready := s.readyTracks, since := s.fld Fld.TT_TIME_FRAME }
  let s := { (s.toState .entering) with park := p }
  match s.bst.ch with
  | some t => s.stopChTest t
  | none => s

/-- A track with nothing to perform, to send or to have acknowledged. -/
def Trk.quiet (x : Trk) : Bool :=
  x.ses.buf.isEmpty && x.rx.inbox.isEmpty && x.tx.resp.isEmpty && x.tx.late.isEmpty && x.tx.rows.isEmpty && x.tx.marked.isEmpty && x.tx.replay.isEmpty

/-- The drain has ended: every queue is empty, every response of a READY track sent and acknowledged (R458 step 2). -/
def State.drained (s : State) : Bool :=
  (s.chans.all fun e => e.2.quiet) && s.readyTracks.all fun t => (s.trk t).quiet

/-- The next step of PARK entry. -/
def State.parkStep (s : State) (k : ParkStep) : State := { s with park := { s.park with step := k } }

/-- The channels of the presented configuration. -/
def State.usedChans (s : State) : List Nat := layerChans s.usedLayers

/-- Every used channel is in self-refresh, or has failed to enter it (R458 step 3, R460). -/
def State.asleep (s : State) : Bool :=
  s.usedChans.all fun c => s.flag Fld.CHN_REF_STATE_SR c || s.park.awake.contains c

/-- Staged values and a pending snapshot are dropped (R64, R510). -/
def State.dropStaged (s : State) : State :=
  let s := if s.fab.staged.isEmpty && s.fab.ready.isEmpty then s else s.setFld Fld.TT_STATUS_STAGE_DROPPED 1
  let s := s.setFld Fld.GLB_SNAP_PENDING 0
  { s with fab := { s.fab with staged := [], ready := [], later := [] } }

/-- Step 4: triplicated fields are voted, the working copy and CAL are committed where they have changed, the seal age is recorded, staged values are dropped (R359, R382, R458, R479, R506). -/
def State.parkCommit (s : State) : State :=
  let s := s.voteAll
  let s := if s.rep.deltas.isEmpty then s else s.commitRep
  let s := if s.flag Fld.NVM_CAL_DIRTY then s.commitCal else s
  let s := s.when (s.bst.valid && s.bst.cur.state = 2) fun s => s.journal 0x03 0 s.agePayload
  (s.dropStaged.nvmKick).parkStep .commit

/-- A commit of step 4 is still being written. -/
def State.committing (s : State) : Bool :=
  let mine (o : NvmOp) : Bool := o.kind = .rep || o.kind = .cal
  (s.nvm.cur.any mine) || s.nvm.ops.any fun o => mine o && s.credited o

/-- A LINK retrain holds step 5 back, within PARK_DRAIN (R464). -/
def State.linksHold (s : State) : Bool :=
  s.park.ticks < s.fld Fld.GLB_PWR_CFG_PARK_DRAIN && (List.range 32).any fun t => s.linkIs t .training

/-- What a channel keeps in PARK: its refresh table and its lists of rows that wait. -/
def Chan.parked (x : Chan) : Chan := { x with
  banks := [], acts := [], grp := [], anyData := false, wins := [], gDue := false, gOpen := none, ccalDue := 0, ccal := none, wait := none, elig := []
  ref := { x.ref with nrefs := [], did := [], slot := 0, slotN := 0 } }

/-- A bundle in PARK: the columns that serve and the erasures stay, its windows do not; it carries trains only for a channel that failed self-refresh (R460). -/
def Bund.parked (x : Bund) (awake : Bool) : Bund := { up := awake && x.up, serves := x.serves, erased := x.erased }

/-- Step 6: every domain off but SVC, and what R460 keeps for a channel that failed self-refresh; registers keep what their Kept-by lists say (R14, R431, R458, R460, R465). -/
def State.switchOff (s : State) : State :=
  let cause := s.fld Fld.GLB_STATE_CAUSE
  let s := s.resetRegs .park fun _ => true
  let s := (s.setFld Fld.GLB_STATE_CAUSE cause).toState .park
  let bund : Store Bund := (s.vert.bund.map fun e => (e.1, e.2.parked (s.park.awake.contains e.1))).filter fun e => e.2 != ({} : Bund)
  let chans : Store Chan := s.chans.map fun e => (e.1, e.2.parked)
  let s : State := { s with
    chans := chans
    vert := { bund := bund, alarms := s.vert.alarms, misses := [] }
    rep := { s.rep with hreps := [] }
    thm := { baseSeen := s.thm.baseSeen }
    pins := { s.pins with thermLow := false }
    fab := { s.fab with snp := [] } }
  let s := s.park.awake.foldl (fun s c =>
    ((s.upTo (hopsOf c + 1) fun q s => s.setDomain (75 + q) true).setDomain (9 + s.fld Fld.CHN_CTL_ENGINE c) true).setDomain 81 true) s
  s.park.ready.foldl (fun s t => (s.setFld Fld.TRK_LSTATE_TX_STATE 3 t).setFld Fld.TRK_LSTATE_RX_STATE 3 t) s

/-- Steps 5 and 6: PARK is entered (R458). -/
def State.intoPark (s : State) : State :=
  let ts := s.readyTracks
  let s := ts.foldl (fun s t => s.sendL3 t) s.dropStaged
  let p : Park := { ready := ts, since := s.fld Fld.TT_TIME_FRAME, awake := s.park.awake }
  { s with park := p }.switchOff

/-- PARK_DRAIN_COMPLETE: the entry goes on as far as its next wait: the drain; the shutdown test or self-refresh; the commit; the L3 rows and the switch-off (R458). The operands say whether the limits of R375 hold as the test begins. -/
def execParkDrainComplete (clockOk vddcOk : Bool) (s : State) : Out :=
  .next <| match s.park.step with
  | .none => s
  | .drain => if s.drained then s.parkStep .test else s
  | .test =>
    if s.flag Fld.BST_CTL_PARK_TEST then s.startTest 1 clockOk vddcOk
    else if s.bst.kind ≠ 0 then s else s.parkStep .sleep
  | .sleep => if s.asleep then s.parkCommit else s
  | .commit => if s.committing ∨ s.linksHold then s else s.intoPark

/-- PARK_DRAIN_LIMIT: the drain has lasted PARK_DRAIN frames: every channel that still holds entries is BLOCK reset, DRAIN_ABORT is set, the entry goes on (R458 step 2). -/
def execParkDrainLimit (s : State) : Out :=
  .next <| if s.park.step ≠ .drain ∨ s.park.ticks < s.fld Fld.GLB_PWR_CFG_PARK_DRAIN then s else
    let s := s.eachChan fun c s => if (s.chan c).q.isEmpty then s else s.blockReset .chn c
    (s.setFld Fld.GLB_PWR_STATUS_DRAIN_ABORT 1).parkStep .test

/-! ### Leaving PARK (R462) -/

/-- A track leaves L3: seeded training, its session to resume (R97, R126, R462). -/
def State.leaveL3 (s : State) (t : Nat) : State :=
  (s.beginAttempt t true).modTrn t fun x => { x with l3 := true }

/-- Steps 1 and 2: lane clusters on and tracks out of L3, quadrants on and vertical training seeded. An enabled track that sent no L3 row reads DOWN until it trains again. -/
def State.leavePark (s : State) : State :=
  let s := s.toState .leaving
  let s := { s with park := { s.park with step := .none, woken := false } }
  let s := s.upTo 8 fun k s => s.setDomain (1 + k) true
  let s := s.upTo 32 fun t s =>
    if s.park.ready.contains t then (if s.fld Fld.TRK_LSTATE_TX_STATE t = 3 then s.leaveL3 t else s)
    else if s.flag Fld.TRK_TRAIN_CTL_EN t ∧ s.linkIs t .disabled then s.setFld Fld.TRK_TRAIN_STATUS_STATE LinkState.down.code t
    else s
  (s.vqOn true).startTraining { seg := 0, last := 3, bundles := List.range 64 }

/-- A channel is taken out of self-refresh: with recovery where the PARK was shorter than LONG × 1,024 frames, else with its table cleared (R242, R462 step 3). -/
def State.wakeParked (s : State) (c : Nat) : State :=
  if ¬ s.flag Fld.CHN_REF_STATE_SR c then s else
  let gone := (s.fld Fld.TT_TIME_FRAME + 2 ^ 48 - s.park.since) % 2 ^ 48
  let s := s.modRef c fun r => { r with table := [], sat := false, win := 0 }
  s.wakeChan c (gone < 1024 * s.fld Fld.REF_SR_LONG) false

/-- Steps 3 and 4: shared domains and engines on, every used channel sent SRX; the thermal model restarts, the buckets fill (R217, R419, R462). -/
def State.wakeChans (s : State) : State :=
  let s := s.poolsOn
  let s := { s with
    park := { s.park with woken := true }, bwr := { s.bwr with fill := true, hit := [], ticks := 0 }
    thm := { s.thm with started := false } }
  s.usedChans.foldl (fun s c => s.wakeParked c) s

/-- Step 5: RUN, the start complete; TARGET reads 0 (R462, R466; log entry 89). -/
def State.backInRun (s : State) : State :=
  { (((s.toState .run).setFld Fld.GLB_STATE_PHASE 8).setFld Fld.GLB_PWR_REQ_TARGET 0) with park := {} }

/-- PARK_EXIT: the exit goes on as far as its next wait: the vertical training; the channels; RUN (R462). -/
def execParkExit (s : State) : Out :=
  .next <| if ¬ s.inState .leaving then s
  else if ¬ s.vert.trains.isEmpty then s
  else if ¬ s.park.woken then s.wakeChans
  else if s.usedChans.all fun c => !s.flag Fld.CHN_REF_STATE_SR c then s.backInRun
  else s

/-- PARK is cancelled before its L3 rows: its channels leave self-refresh and the device is in RUN; a shutdown test is aborted and the exit of R462 runs from it (R377, R464). -/
def State.cancelPark (s : State) : State :=
  let s := s.setFld Fld.GLB_PWR_STATUS_PARK_CANCELLED 1
  if s.bst.kind = 1 then (s.abortTest 3).leavePark
  else
    let cs := s.usedChans.filter fun c => s.flag Fld.CHN_REF_STATE_SR c
    (cs.foldl (fun s c => s.wakeChan c false false) s).backInRun

/-- A wake, or TARGET RUN (R457, R462, R464). -/
def State.wakeUp (s : State) : State :=
  if s.inState .nap then s.toState .run
  else if s.inState .entering then s.cancelPark
  else if s.inState .park then s.leavePark
  else s

/-- WAKE_DETECT: the wake detector on the lane that serves position 0 of a track's host direction reports: the device leaves PARK where the track was READY at entry (R462, R464); outside PARK a host direction in L3 leaves it (R97). -/
def execWakeDetect (t : TrackIx) (s : State) : Out :=
  .next <| if s.inState .entering ∨ s.inState .park then (if s.park.ready.contains t.val then s.wakeUp else s)
  else if s.linkIs t .ready ∧ s.fld Fld.TRK_LSTATE_RX_STATE t = 3 then s.leaveL3 t
  else s

/-! ### TARGET (R457, R458, R464, R466) -/

/-- Whether a write of TARGET is refused: 3 always; NAP and PARK before READY, while entering PARK, in PARK, while leaving it (R464, R466). -/
def State.targetRefused (s : State) (v : Nat) : Bool :=
  v = 3 || (v != 0 && (!s.flag Fld.GLB_STATE_READY || s.inState .entering || s.inState .park || s.inState .leaving))

/-- What an accepted write of TARGET does. -/
def State.targetWritten (s : State) (v : Nat) : State :=
  if v = 0 then s.wakeUp
  else if v = 2 then s.enterPark
  else s

end Sys2Proof.Machine
end

