-- ==== Sys2Proof/Machine/Fabric.lean ====
section
/-! DEFINITION. The register fabric (18): how an access finds its register, the order of its answers, refusals, what a performed write does, and the record of what was not OK. -/
namespace Sys2Proof.Machine

/-! ### Finding the register of an access (R495, R496, R510, R511) -/

/-- A register as an access finds it: where it starts, its fields, its width, whether it is a snapshot copy, whether the access names its high half. -/
structure RegHit where
  a : Nat
  xs : List FieldAt
  w64 : Bool := false
  snp : Bool := false
  high : Bool := false

/-- A register's width from its fields. -/
def wide (xs : List FieldAt) : Bool := xs.any fun x => x.f.w64

/-- The register that holds the 4-byte location at an address, one of the main blocks. -/
def mainHit (a : Nat) : Option RegHit :=
  let lo := fieldsAt a
  if !lo.isEmpty then some { a := a, xs := lo, w64 := wide lo }
  else if a % 8 = 4 ∧ wide (fieldsAt (a - 4)) then some { a := a - 4, xs := fieldsAt (a - 4), w64 := true, high := true }
  else none

/-- Whether a field has a snapshot copy: captured by SNAP, or of TT.TIME (R509). -/
def FieldAt.copied (x : FieldAt) : Bool := x.f.snap || (x.f.blk = .tt && x.f.off = 0)

/-- The register that holds the 4-byte location at an address, snapshot copies among them. -/
def hitAt (a : Nat) : Option RegHit :=
  if a < 0x100000 then mainHit a
  else if a < 0x200000 then
    (mainHit (a - 0x100000)).bind fun r =>
      let xs := r.xs.filter fun x => x.copied
      if xs.isEmpty then none else some { r with a := r.a + 0x100000, xs := xs, snp := true }
  else none

/-- The blocks that answer in PARK (R461). -/
def parkBlocks : List Blk := [.glb, .flt, .thm, .pwr, .nvm]

/-- Whether the register at an address answers now: in PARK only five blocks, the snapshot not; the window of a spare that serves a channel never (R205, R461). -/
def State.answers (s : State) (a : Nat) : Bool :=
  match blkOf a with
  | none => !s.inState .park
  | some (b, i, _) =>
    (!s.inState .park || parkBlocks.contains b) &&
    !(b = .chn && i ≥ 64 && (List.range 64).any fun c => s.fld Fld.CHN_CTL_ENGINE c = i)

/-- The checks of an access in their order: SIZE, ALIGN, BUSERR; `half` lifts the SIZE check of a write to half of a 64-bit register, which the port makes in its own way (R496, R511). -/
def State.access (s : State) (write half : Bool) (size a : Nat) : Except Status RegHit :=
  let w64At (a : Nat) : Bool := ((hitAt a).map fun r => r.w64).getD false
  if size ≠ 4 ∧ size ≠ 8 then .error .size
  else if size = 8 ∧ ¬ w64At (a / 8 * 8) then .error .size
  else if size = 4 ∧ write ∧ ¬ half ∧ w64At (a / 8 * 8) then .error .size
  else if a % 4 ≠ 0 ∨ (size = 8 ∧ a % 8 ≠ 0) then .error .align
  else match hitAt a with
    | none => .error .buserr
    | some r => if s.answers r.a then .ok r else .error .buserr

/-! ### Reading (R497, R498, R509) -/

/-- The whole value of a register. -/
def State.hitValue (s : State) (r : RegHit) : Nat :=
  if r.snp then r.xs.foldl (fun n x => n + Store.get s.fab.snp (x.f.key x.i x.j) 0 * 2 ^ x.f.lo) 0
  else s.readRegs r.xs

/-- The low or high 32 bits of a value. -/
def half32 (high : Bool) (v : Nat) : Nat := if high then v / 2 ^ 32 % 2 ^ 32 else v % 2 ^ 32

/-- What a read of a size returns. -/
def State.readHit (s : State) (r : RegHit) (size : Nat) : Nat :=
  if size = 8 then s.hitValue r else half32 r.high (s.hitValue r)

/-! ### Accesses answered other than OK (R501) -/

/-- The flag of GLB.REG_STATUS and the counter of an answer. -/
def seenOf : Status → Option (Field × Nat)
  | .locked => some (Fld.GLB_REG_STATUS_LOCKED_SEEN, 0)
  | .ignored => some (Fld.GLB_REG_STATUS_IGNORED_SEEN, 0)
  | .buserr => some (Fld.GLB_REG_STATUS_BUSERR_SEEN, 1)
  | .size => some (Fld.GLB_REG_STATUS_SIZE_SEEN, 2)
  | .align => some (Fld.GLB_REG_STATUS_ALIGN_SEEN, 3)
  | _ => none

/-- Track, master and tag of a source; none for the port. -/
def WSrc.req : WSrc → Option (Nat × Nat × Nat)
  | .link t m g => some (t.val, m.toNat, g.toNat)
  | .port => none

/-- Record an access answered other than OK: its flag, its counter, REG_LAST and REG_LAST_REQ. -/
def State.noteBad (s : State) (src : WSrc) (write : Bool) (st : Status) (a : Nat) : State :=
  match seenOf st with
  | none => s
  | some (f, k) =>
    let s := (s.setFld f 1).bump Fld.GLB_CNT_COUNT 0 k
    let s := (s.setFlag Fld.GLB_REG_LAST_PORT src.req.isNone).setFlag Fld.GLB_REG_LAST_WRITE write
    let s := (s.setFld Fld.GLB_REG_LAST_STATUS st.code).setFld Fld.GLB_REG_LAST_ADDR a
    let r := src.req.getD (0, 0, 0)
    ((s.setFld Fld.GLB_REG_LAST_REQ_TRACK r.1).setFld Fld.GLB_REG_LAST_REQ_MASTER r.2.1).setFld Fld.GLB_REG_LAST_REQ_TAG r.2.2

/-- The CFG_REJECT flag of a register (table CFG_REJECT flags). -/
def rejectFlag (b : Blk) (off : Nat) : Option Field :=
  match b with
  | .trk => some (if off < 0x500 then Fld.TRK_LSTATE_CFG_REJECT
      else if off < 0x600 then Fld.TRK_TRAIN_STATUS_CFG_REJECT else Fld.TRK_PKT_STATUS_CFG_REJECT)
  | .hlc => some Fld.HLC_STATUS_CFG_REJECT
  | .chn => some Fld.CHN_STATUS_CFG_REJECT
  | .bwr => some Fld.BWR_STATUS_CFG_REJECT
  | .ref => some Fld.REF_STATUS_CFG_REJECT
  | .vlq => some Fld.VLQ_STATUS_CFG_REJECT
  | .lay => some Fld.LAY_STATE_CFG_REJECT
  | .int => some (if 0x800 ≤ off ∧ off < 0x900 then Fld.INT_CODEC_CFG_CFG_REJECT else Fld.INT_STATUS_CFG_REJECT)
  | .rep => some Fld.REP_STATUS_CFG_REJECT
  | .bst => some Fld.BST_STATUS_CFG_REJECT
  | .flt => some Fld.FLT_STATUS_CFG_REJECT
  | .thm => some Fld.THM_STATUS_CFG_REJECT
  | .pwr => some Fld.PWR_STATUS_CFG_REJECT
  | .nvm => some Fld.NVM_STATUS_CFG_REJECT
  | .glb => if 0x80 ≤ off ∧ off < 0xA0 then some Fld.GLB_PWR_STATUS_CFG_REJECT else none
  | .tt => none

/-! ### Refusals (R499, R500, R502, R503) -/

/-- The bits of a field in a written value. -/
def Field.of (f : Field) (w : Nat) : Nat := w / 2 ^ f.lo % 2 ^ f.width

/-- A one-bit field of a written value. -/
def Field.isSet (f : Field) (w : Nat) : Bool := f.of w != 0

/-- Whether a field holds a written value: RW, RWD, RWL and WO1 do. -/
def Field.holds (f : Field) : Bool := [Access.rw, .rwd, .rwl, .wo1].contains f.acc

/-- Whether a field is locked, or spent (R502, R503). -/
def State.isLocked (s : State) (x : FieldAt) : Bool :=
  s.fab.locks.contains (x.f.key x.i x.j) ||
  (x.f.acc = .rwl && s.flag Fld.GLB_LOCK_RWL_LOCK) ||
  (x.f.acc = .wo1 && s.fab.spent.contains (x.f.key x.i x.j))

/-- Whether the block of an RWD field is disabled (R500). -/
def State.blockOff (s : State) (b : Blk) (i : Nat) : Bool :=
  match b with
  | .trk => !s.flag Fld.TRK_TRAIN_CTL_EN i && s.linkIs i .disabled
  | .chn => s.flag Fld.CHN_STATUS_DISABLED i
  | _ => true

/-- Whether one field refuses a value by its access or its range, or since a vote contained it (R413, R499, R508). -/
def State.fieldRefuses (s : State) (x : FieldAt) (v : Nat) : Bool :=
  x.f.holds && (
    (x.f.acc = .rwd && !s.blockOff x.f.blk x.i && v != s.fld x.f x.i x.j) ||
    v < x.f.vmin || x.f.vmax < v ||
    s.fab.trefiHold.contains (x.f.key x.i x.j) ||
    (x.f.blk = .flt && 0x400 ≤ x.f.off && s.box.locked.contains x.j))

/-- The registers with every value waiting for a tick applied, and a written value with them (R203, R220). -/
def State.withWrite (s : State) (r : RegHit) (w : Nat) : State :=
  let regs := (s.fab.ready ++ s.fab.staged ++ s.fab.later).foldl (fun m e => Store.set m e.key e.dflt e.val) s.regs
  let s : State := { s with regs := regs }
  r.xs.foldl (fun s x => if x.f.holds then s.setFld x.f (x.f.of w) x.i x.j else s) s

/-- A software change of a spare's state: only STANDBY to TEST and back (R91). -/
def spareMoveBad (old new : Nat) : Bool := old != new && !(old = 0 && new = 2) && !(old = 2 && new = 0)

/-- Whether a write of PRBS_CTL enables a unit on a lane in service (R99). -/
def State.prbsRefused (s : State) (t p w : Nat) : Bool :=
  (Fld.TRK_PRBS_CTL_GEN_SEL.isSet w && !s.prbsAllowed t p true) ||
  (Fld.TRK_PRBS_CTL_CHK_SEL.isSet w && !s.prbsAllowed t p false)

/-- Refusals of TRK (R90, R91, R99, R120). -/
def State.trkRefuses (s cand : State) (t off w : Nat) : Bool :=
  let p := (off - 0x40) / 0x40
  if off = 0x000 then
    spareMoveBad (s.fld Fld.TRK_SPARE_RX_S0_STATE t) (Fld.TRK_SPARE_RX_S0_STATE.of w) ||
    spareMoveBad (s.fld Fld.TRK_SPARE_RX_S1_STATE t) (Fld.TRK_SPARE_RX_S1_STATE.of w)
  else if off = 0x004 then
    spareMoveBad (s.fld Fld.TRK_SPARE_TX_S0_STATE t) (Fld.TRK_SPARE_TX_S0_STATE.of w) ||
    spareMoveBad (s.fld Fld.TRK_SPARE_TX_S1_STATE t) (Fld.TRK_SPARE_TX_S1_STATE.of w)
  else if off = 0x00C then
    Fld.TRK_LANE_CMD_SPARE_GO.isSet w &&
    ((s.spareOf t false (Fld.TRK_LANE_CMD_SPARE_POS.of w)).isSome || (s.trk t).spY.isSome)
  else if 0x40 ≤ off ∧ off < 0x500 ∧ off % 0x40 = 0x10 then s.prbsRefused t p w
  else if off = 0x50C then !cand.tagPartOk
  else false

/-- Refusals of CHN: an unsound timing set, WR_KEEP at or above WR_HIGH, an empty tile selection (R187, R328). -/
def State.chnRefuses (s cand : State) (c off w : Nat) : Bool :=
  if off = 0x000 then Fld.CHN_CTL_EN.isSet w && !(s.timingOk c && cand.timingOk c)
  else if off = 0x008 then !cand.schedOk c
  else if off = 0x300 then Fld.CHN_FLIP_CTL_ARM.isSet w && Fld.CHN_FLIP_CTL_TILE.of w = 0
  else false

/-- Whether a register of BWR is under the admission check (R220). -/
def admitReg (off : Nat) : Bool := off = 0x000 || off = 0x008 || (0x100 ≤ off && off % 0x20 = 0)

/-- OWED_MAX above OWED_FORCE, LONG at least one base window (R251). -/
def State.refWriteOk (s : State) : Bool :=
  s.fld Fld.REF_CFG_OWED_MAX > s.fld Fld.REF_CFG_OWED_FORCE && 5 * s.fld Fld.REF_SR_LONG ≥ 4 * s.fld Fld.REF_CFG_TREFI

/-- Refusals of LAY: RELAY_RST off a junction, CRST while a channel is awake or an HREP is outstanding (R245, R313, R350). -/
def State.layRefuses (s : State) (l off w : Nat) : Bool :=
  off = 0x024 && (
    (Fld.LAY_CTL_RELAY_RST.isSet w && !([3, 7, 11].contains l)) ||
    (Fld.LAY_CTL_CRST.isSet w && (!((List.range 4).all fun k => s.flag Fld.CHN_REF_STATE_SR (4 * l + k)) ||
      s.rep.hreps.any fun h => h.1 = l)))

/-- Refusals of REACT entry i: below the source's class, a BRS it cannot have, URG or EPN cleared while the class is already FT (R398, R405). -/
def State.reactRefuses (s cand : State) (i w : Nat) : Bool :=
  !cand.reactOk i ||
  (s.isFatal i && (!Fld.FLT_REACT_URG.isSet w || !Fld.FLT_REACT_EPN.isSet w))

/-- Whether an explicit channel test is refused (R388). -/
def State.chTestRefused (s : State) (c : Nat) : Bool :=
  s.bst.kind != 0 || s.bst.waiting || s.bst.ch.isSome || !s.presented c || !s.flag Fld.CHN_CTL_EN c ||
  s.inState .entering || s.fld Fld.GLB_PWR_REQ_TARGET = 2

/-- Whether the window may program or erase at an address (R491). -/
def State.winOpen (s : State) : Bool :=
  let a := s.fld Fld.NVM_WIN_ADDR_ADDR * 32
  s.flag Fld.NVM_CFG_WIN_PROG_EN && (a < 0x100000 || a ≥ 0x500000)

/-- Refusals of NVM.CTL (R491). -/
def State.nvmRefuses (s : State) (off w : Nat) : Bool :=
  let change := Fld.NVM_CTL_PROG_GO.isSet w || Fld.NVM_CTL_ERASE_GO.isSet w
  off = 0x004 && (((Fld.NVM_CTL_RD_GO.isSet w || change) && s.flag Fld.NVM_STATUS_WIN_BUSY) || (change && !s.winOpen))

/-- Refusals of GLB: TARGET, CHIP without its key, an unused BLOCK_RST target, SNAP.GO outside RUN and NAP (R453, R454, R464, R510). -/
def State.glbRefuses (s : State) (off w : Nat) : Bool :=
  if off = 0x84 then s.targetRefused (Fld.GLB_PWR_REQ_TARGET.of w)
  else if off = 0x90 then Fld.GLB_RESET_CHIP.isSet w && Fld.GLB_RESET_KEY.of w != 0xC41F
  else if off = 0x94 then Fld.GLB_BLOCK_RST_GO.isSet w && Fld.GLB_BLOCK_RST_TARGET.of w > 0x44
  else if off = 0x14 then
    Fld.GLB_SNAP_GO.isSet w && (s.inState .entering || s.inState .park || s.inState .leaving)
  else false

/-- Whether a rule of the owning chapter refuses a value written to a register (R499); `cand` holds the registers as the write would leave them. -/
def State.chapterRefuses (s cand : State) (b : Blk) (i off w : Nat) : Bool :=
  match b with
  | .glb => s.glbRefuses off w
  | .tt => false
  | .trk => s.trkRefuses cand i off w
  | .hlc => 0x40 ≤ off && off < 0xC0 && Fld.HLC_FOV_MAP_PARTNER.of w = (off - 0x40) / 4
  | .chn => s.chnRefuses cand i off w
  | .bwr => admitReg off && !cand.admitOk
  | .ref => (off = 0x000 || off = 0x008) && !cand.refWriteOk
  | .vlq => (off = 0x000 && Fld.VLQ_CTL_RETUNE_BUNDLE.of w / 16 != i) || (off = 0x00C && !cand.gearsOk i)
  | .lay => s.layRefuses i off w
  | .int => false
  | .rep => off = 0x004 && Fld.REP_CTL_FUSE_GO.isSet w && s.fld Fld.REP_CFG_FUSE = 0
  | .bst => off = 0x034 && Fld.BST_CHTEST_GO.isSet w && s.chTestRefused (Fld.BST_CHTEST_CHANNEL.of w)
  | .flt => 0x400 ≤ off && s.reactRefuses cand ((off - 0x400) / 4) w
  | .thm => ((off = 0x004 || off = 0x008) || (0x80 ≤ off && off < 0xC4)) && !cand.heatOk
  | .pwr => (off = 0x004 || off = 0x008) && !cand.voltOk
  | .nvm => s.nvmRefuses off w

/-- How a write is refused, if it is: LOCKED where a field is locked or spent, else IGNORED (R499). -/
def State.refusal (s : State) (r : RegHit) (w : Nat) : Option Status :=
  if r.snp ∨ ¬ r.xs.any (fun x => x.f.acc != .ro) then none
  else if r.xs.any fun x => s.isLocked x then some .locked
  else if r.xs.any fun x => s.fieldRefuses x (x.f.of w) then some .ignored
  else match blkOf r.a with
    | none => none
    | some (b, i, off) => if s.chapterRefuses (s.withWrite r w) b i off w then some .ignored else none

/-- A refused write: its CFG_REJECT flag, the flags of the chapter's own, REG_REFUSED with the address (R99, R220, R501). -/
def State.refused (s : State) (src : WSrc) (r : RegHit) (st : Status) (a w : Nat) : State :=
  let s0 := s
  let s := s.noteBad src true st a
  let s := match blkOf r.a with
    | none => s
    | some (b, i, off) =>
      let s := match rejectFlag b off with
        | some f => s.setFld f 1 i
        | none => s
      if b = Blk.bwr ∧ st = Status.ignored ∧ admitReg off ∧ ¬ (s0.withWrite r w).admitOk then s.setFld Fld.BWR_STATUS_ADMIT_REJECT 1
      else if b = Blk.trk ∧ 0x40 ≤ off ∧ off < 0x500 ∧ off % 0x40 = 0x10 ∧ s0.prbsRefused i ((off - 0x40) / 0x40) w then
        s.setFld Fld.TRK_LANE_STATUS_REFUSED 1 i ((off - 0x40) / 0x40)
      else s
  s.raise .regRefused 0 { access := 8, req := src.req, detail := a }

/-! ### Performing a write (R498, R503) -/

/-- An at-tick value is accepted: it waits for the next tick, or is staged while TT.STAGE.HOLD is 1; HOLD counts as the fabric accepts the write (R63; log entry 111). -/
def State.stage (s : State) (x : Staged) : State :=
  if s.flag Fld.TT_STAGE_HOLD then { s with fab := { s.fab with staged := s.fab.staged ++ [x] } }
  else { s with fab := { s.fab with ready := s.fab.ready ++ [x] } }

/-- HOLD is written 0: what was staged under it takes effect at the next tick, whatever HOLD is then (R63). -/
def State.unhold (s : State) : State :=
  { s with fab := { s.fab with ready := s.fab.ready ++ s.fab.staged, staged := [] } }

/-- What a write of TT does beyond its fields (R53, R63). -/
def State.ttDoes (s : State) (off w : Nat) : State :=
  if off = 0x008 then { s with fab := { s.fab with frameLoad := true } }
  else s.when (off = 0x010 && !Fld.TT_STAGE_HOLD.isSet w) State.unhold

/-- Put one field's written bits: W1C clears, WO1 is spent, an at-tick value waits; the copies of a +T field agree again (R63, R498, R503, R506). -/
def State.putField (s : State) (x : FieldAt) (w : Nat) : State :=
  let v := x.f.of w
  let s := if x.f.trip then s.agree (x.f.key x.i x.j) else s
  match x.f.acc with
  | .ro => s
  | .w1s => s
  | .w1c => s.setFld x.f (s.fld x.f x.i x.j - (s.fld x.f x.i x.j &&& v)) x.i x.j
  | .wo1 =>
    let s := s.setFld x.f v x.i x.j
    { s with fab := { s.fab with spent := x.f.key x.i x.j :: s.fab.spent } }
  | _ =>
    if x.f.atTick then s.stage { key := x.f.key x.i x.j, dflt := x.f.reset x.i x.j, val := v } else s.setFld x.f v x.i x.j

/-- TRAIN_CTL.EN changed: a track disabled stops; one enabled trains where its turn has come (R447, R451). -/
def State.trackEn (s : State) (t : Nat) (was on : Bool) : State :=
  if was = on then s
  else if on then
    if s.linkIs t .disabled ∧ (s.flag Fld.GLB_STATE_READY ∨ s.start.tracksGo.contains t) then s.startTrack t else s
  else
    let s := s.setFld Fld.TRK_TRAIN_STATUS_STATE LinkState.disabled.code t
    let s := (s.setFld Fld.TRK_TRAIN_STATUS_PHASE 0 t).setFld Fld.TRK_LSTATE_TX_STATE 2 t
    (s.setFld Fld.TRK_LSTATE_RX_STATE 2 t).modTrn t fun x => { x with set := [], queue := [] }

/-- A change of PRBS_CTL: the units of the lane start anew (R98). -/
def State.prbsChange (s : State) (t p : Nat) : State :=
  let s := s.setTxLane t p { s.txLane t p with prbs := 0 }
  let s := s.setRxLane t p (s.rxLane t p).prbsReseed
  s.setFld Fld.TRK_LANE_STATUS_PRBS_SYNC 0 t p

/-- INJ_CTL.GO: COUNT injections from the next eligible symbol on; with COUNT 0 it has no effect (R100, R103). -/
def State.inject (s : State) (t p w : Nat) : State :=
  let n := Fld.TRK_INJ_CTL_COUNT.of w
  if n = 0 then s else
  (s.setTxLane t p { s.txLane t p with injLeft := n, injWait := 0 }).setFld Fld.TRK_INJ_CTL_ACTIVE 1 t p

/-- What a write of TRK does beyond its fields; `old` is the state before it. FOV_GO starts failover whatever LINK_CFG.FOV_EN reads (log entry 118). -/
def State.trkDoes (s old : State) (t off w : Nat) : State :=
  let p := (off - 0x40) / 0x40
  if off = 0x00C then
    let s := s.when (Fld.TRK_LANE_CMD_CNT_CLR.isSet w) fun s => s.modTrk t fun x => { x with cntClr := true }
    s.when (Fld.TRK_LANE_CMD_SPARE_GO.isSet w) fun s => s.requestSparing t (Fld.TRK_LANE_CMD_SPARE_POS.of w)
  else if 0x40 ≤ off ∧ off < 0x500 ∧ off % 0x40 = 0x10 then s.prbsChange t p
  else if 0x40 ≤ off ∧ off < 0x500 ∧ off % 0x40 = 0x14 then s.when (Fld.TRK_INJ_CTL_GO.isSet w) fun s => s.inject t p w
  else if off = 0x500 then
    let s := s.trackEn t (old.flag Fld.TRK_TRAIN_CTL_EN t) (Fld.TRK_TRAIN_CTL_EN.isSet w)
    let s := s.when (Fld.TRK_TRAIN_CTL_FOV_GO.isSet w) fun s => s.startFailover t
    s.when (Fld.TRK_TRAIN_CTL_RETRAIN.isSet w && !s.linkIs t .disabled) fun s => s.retrain t 0x21
  else s

/-- What a write of CHN does beyond its fields (R203 to R205, R328). -/
def State.chnDoes (s : State) (c off w : Nat) : State :=
  if off = 0x000 then
    let s := s.when (Fld.CHN_CTL_EN.isSet w && (s.chan c).exited && !(s.chan c).resetting) fun s => s.setFld Fld.CHN_STATUS_DISABLED 0 c
    let s := s.when (Fld.CHN_CTL_BLK_RST.isSet w && c < 64) fun s => s.blockReset .chn c
    s.when (Fld.CHN_CTL_SWAP.isSet w && c < 64 && (s.chan c).swap.isNone) fun s => s.takeover c false
  else if off = 0x300 then s.when (Fld.CHN_FLIP_CTL_ARM.isSet w) fun s => s.setFld Fld.CHN_FLIP_CTL_ARMED 1 c
  else s

/-- What a write of VLQ.CTL does beyond its fields (R279, R283). -/
def State.vlqDoes (s : State) (q off w : Nat) : State :=
  if off = 0x000 then
    let s := s.when (Fld.VLQ_CTL_RETUNE_GO.isSet w) fun s => s.setRetune (Fld.VLQ_CTL_RETUNE_BUNDLE.of w)
    s.when (Fld.VLQ_CTL_RETRAIN.isSet w) fun s => s.trainQuad q false
  else s

/-- CRST goes to a core die: the CORE reset begins (R245, R455). -/
def State.sendCrst (s : State) (l : Nat) : State :=
  let s := { s with vert := { s.vert with crst := l :: s.vert.crst.filter fun x => x != l } }
  s.sendCfg { op := 0x16, bundle := 4 * l, layer := l, use := .crst l } [(0x16, l + 0xC3A5 * 2 ^ 16)]

/-- What a write of LAY.CTL does beyond its fields (R245, R305, R313). -/
def State.layDoes (s : State) (l off w : Nat) : State :=
  if off = 0x024 then
    let s := s.when (Fld.LAY_CTL_SPARE_GO.isSet w) fun s =>
      s.spareCol (4 * l + Fld.LAY_CTL_SPARE_BUNDLE.of w) (Fld.LAY_CTL_SPARE_COL.of w)
    let s := s.when (Fld.LAY_CTL_RELAY_RST.isSet w) fun s =>
      s.sendCfg { op := 0x17, bundle := 4 * l, layer := l, use := .other } [(0x17, l + 16)]
    s.when (Fld.LAY_CTL_CRST.isSet w) fun s => s.sendCrst l
  else s

/-- Every pending pair and PENDING column group is cancelled (table REP.CTL). -/
def State.cancelPending (s : State) : State :=
  let due := s.rep.copy.filter fun e => (e.kind = 4 || e.kind = 5) && e.state = 5
  let s := due.foldl (fun s e => s.repDel e) s
  s.upTo 64 fun c s => s.setFld Fld.REP_PAIRS_PENDING 0 0 c

/-- What a write of REP.CTL does (R349, R359, R365). -/
def State.repDoes (s : State) (off w : Nat) : State :=
  if off = 0x004 then
    let s := s.when (Fld.REP_CTL_PENDING_CLR.isSet w) fun s => s.cancelPending
    let s := s.when (Fld.REP_CTL_FUSE_GO.isSet w) fun s => { s with rep := { s.rep with fuseGo := true } }
    s.when (Fld.REP_CTL_COMMIT.isSet w) fun s => s.commitRep
  else s

/-- What a write of BST does beyond its fields (R379, R387, R388). -/
def State.bstDoes (s : State) (off w : Nat) : State :=
  if off = 0x004 then
    let s := s.when (Fld.BST_CTL_ABORT.isSet w) fun s => s.abortChTest 5
    s.when (Fld.BST_CTL_VOID.isSet w) fun s => s.writeSeal 4
  else if off = 0x034 then
    s.when (Fld.BST_CHTEST_GO.isSet w) fun s => s.startChTest (Fld.BST_CHTEST_CHANNEL.of w)
  else s

/-- What a write of FLT does beyond its fields: ERR_N follows; pending bits cleared lose their escalation; VALID cleared empties the record (R399, R405, R410). -/
def State.fltDoes (s : State) (off w : Nat) : State :=
  if 0x20 ≤ off ∧ off < 0x2C then
    let k := (off - 0x20) / 4
    ({ s with box := { s.box with esc := s.box.esc.filter fun i => !(i / 32 = k && w.testBit (i % 32)) } }).updErr
  else if 0x100 ≤ off ∧ off < 0x1C0 ∧ off % 0x40 = 0 then
    s.when (Fld.FLT_CAP_STATUS_VALID.isSet w) fun s => s.clearCap ((off - 0x100) / 0x40)
  else s.updErr

/-- What a write of NVM.CTL does (R479, R491). -/
def State.nvmDoes (s : State) (off w : Nat) : State :=
  let go (b : Bool) (o : NvmOp) (s : State) : State :=
    s.when b fun s => (s.setFld Fld.NVM_STATUS_WIN_BUSY 1).nvmAdd o
  if off = 0x004 then
    let s := go (Fld.NVM_CTL_RD_GO.isSet w) { kind := .winRead } s
    let s := go (Fld.NVM_CTL_PROG_GO.isSet w) { kind := .winProg } s
    let s := go (Fld.NVM_CTL_ERASE_GO.isSet w) { kind := .winErase, erases := 1 } s
    s.when (Fld.NVM_CTL_CAL_COMMIT.isSet w) fun s => s.commitCal
  else s

/-- A BLOCK reset of the instance a TARGET code names (R454). -/
def State.resetTarget (s : State) (n : Nat) : State :=
  if n < 0x40 then s.blockReset .chn n
  else if n < 0x44 then s.blockReset .vlq (n - 0x40)
  else s.blockReset .bwr 0

/-- What a write of GLB does beyond its fields (R449, R453, R454, R457, R458, R509). -/
def State.glbDoes (s : State) (off w : Nat) : State :=
  if off = 0x84 then
    let s := s.when (Fld.GLB_PWR_REQ_WIDEN_GO.isSet w) fun s => { s with start := { s.start with go := true } }
    s.targetWritten (Fld.GLB_PWR_REQ_TARGET.of w)
  else if off = 0x90 then s.when (Fld.GLB_RESET_CHIP.isSet w) fun s => s.chipReset 3
  else if off = 0x94 then s.when (Fld.GLB_BLOCK_RST_GO.isSet w) fun s => s.resetTarget (Fld.GLB_BLOCK_RST_TARGET.of w)
  else if off = 0x14 then s.when (Fld.GLB_SNAP_GO.isSet w) fun s => s.setFld Fld.GLB_SNAP_PENDING 1
  else s

/-- What a performed write does beyond its fields; `old` is the state before it. -/
def State.does (s old : State) (b : Blk) (i off w : Nat) : State :=
  match b with
  | .glb => s.glbDoes off w
  | .tt => s.ttDoes off w
  | .trk => s.trkDoes old i off w
  | .hlc => s
  | .chn => s.chnDoes i off w
  | .bwr => s
  | .ref => s
  | .vlq => s.vlqDoes i off w
  | .lay => s.layDoes i off w
  | .int => s.when (off = 0x008 && Fld.INT_VMAP_CTL_CLEAR.isSet w) fun s =>
      ({ s with vmap := { s.vmap with clear := true } }).setFld Fld.INT_VMAP_STATUS_CLEAR_PENDING 1
  | .rep => s.repDoes off w
  | .bst => s.bstDoes off w
  | .flt => s.fltDoes off w
  | .thm => s.when (off = 0x000 && Fld.THM_CFG_MODEL_EN.isSet w && !old.flag Fld.THM_CFG_MODEL_EN) fun s =>
      { s with thm := { s.thm with started := false } }
  | .pwr => s
  | .nvm => s.nvmDoes off w

/-- Perform a write that nothing refuses: its fields, then its commands (R498). -/
def State.perform (s : State) (r : RegHit) (w : Nat) : State :=
  if r.snp then s else
  let old := s
  let s := r.xs.foldl (fun s x => s.putField x w) s
  match blkOf r.a with
  | none => s
  | some (b, i, off) => s.does old b i off w

/-- A register write that has passed SIZE, ALIGN and BUSERR (R499). -/
def State.writeHit (s : State) (src : WSrc) (r : RegHit) (a w : Nat) : State × Status :=
  match s.refusal r w with
  | some st => ((s.voteRegs r.xs).refused src r st a w, st)
  | none => (s.perform r w, .ok)

/-! ### Accesses over the link (R496, R504) -/

/-- A register read over the link: its answer and, with OK, the value. -/
def State.regRead (s : State) (src : WSrc) (size a : Nat) : State × Status × Nat :=
  match s.access false false size a with
  | .error st => (s.noteBad src false st a, st, 0)
  | .ok r =>
    let s := s.voteRegs r.xs
    (s, .ok, s.readHit r size)

/-- A register write over the link. -/
def State.regWrite (s : State) (src : WSrc) (size a w : Nat) : State × Status :=
  match s.access true false size a with
  | .error st => (s.noteBad src true st a, st)
  | .ok r => s.writeHit src r a w

/-! ### Accesses through the port (R511) -/

/-- The read latch emptied. -/
def Fabric.noRd (f : Fabric) : Fabric := { f with rdLatch := none }

/-- The write latch emptied. -/
def Fabric.noWr (f : Fabric) : Fabric := { f with wrLatch := none }

/-- A port read: the low half of a 64-bit register latches its high half, which a read of the high half then returns (R511). -/
def State.portRead (s : State) (a : Nat) : State × Status × Nat :=
  let s := { s with fab := s.fab.noWr }
  match s.access false true 4 a with
  | .error st => (s.noteBad .port false st a, st, 0)
  | .ok r =>
    let s := s.voteRegs r.xs
    let v := s.hitValue r
    if ¬ r.w64 then (s, .ok, half32 false v)
    else if ¬ r.high then ({ s with fab := { s.fab with rdLatch := some (r.a, half32 true v) } }, .ok, half32 false v)
    else match s.fab.rdLatch with
      | some (b, x) => if b = r.a then ({ s with fab := s.fab.noRd }, .ok, x) else (s, .ok, half32 true v)
      | none => (s, .ok, half32 true v)

/-- A port write: the low half of a 64-bit register waits in the write latch, a write of the high half then writes both (R511). -/
def State.portWrite (s : State) (a w : Nat) : State × Status :=
  let latch := s.fab.wrLatch
  let s := { s with fab := s.fab.noRd.noWr }
  match s.access true true 4 a with
  | .error st => (s.noteBad .port true st a, st)
  | .ok r =>
    if ¬ r.w64 then s.writeHit .port r a w
    else if ¬ r.high then ({ s with fab := { s.fab with wrLatch := some (r.a, w) } }, .ok)
    else match latch with
      | some (b, x) =>
        if b = r.a then s.writeHit .port r a (x + w * 2 ^ 32) else (s.noteBad .port true .size a, .size)
      | none => (s.noteBad .port true .size a, .size)

end Sys2Proof.Machine
end

