-- ==== Sys2Proof/Machine/Requests.lean ====
section
/-! DEFINITION. Host requests at the track (05): the checks of R154 in their order, memory requests on their way to the turntable, fences, register requests, NUL. -/
namespace Sys2Proof.Machine

/-! ### Checks (R154, R158) -/

/-- Why a request is malformed, if it is (R158). -/
def State.badReason (s : State) (t : Nat) (p : Pkt) (ord : Nat) : Option Nat :=
  match p.headReason with
  | some r => some r
  | none =>
    if ((s.openTag ord).map fun o => o.dup) = some true then some 0x04
    else if ¬ s.tagInRange t p.tag.toNat then some 0x05 else none

/-- Answer a request at the track: its tablets are due for return, its response ready (R123, R153). -/
def State.answerAt (s : State) (t : Nat) (p : Pkt) (ord : Nat) (st : Status) (detail : Nat := 0) : State :=
  (s.returnFor t ord p.cost.1 p.cost.2).respond ord (respType p) st.code detail

/-- Answer a malformed request (R158). -/
def State.answerBad (s : State) (t : Nat) (p : Pkt) (ord reason : Nat) : State :=
  (s.malformed t p reason).answerAt t p ord .malformed reason

/-- Whether a packet a command presents can be taken: the lanes have brought it, or the track is READY. -/
def State.canTake (s : State) (t : Nat) (p : Pkt) : Bool :=
  ((s.trk t).rx.inbox.any fun e => e.1.same p) || s.linkIs t .ready

/-! ### Memory requests (R154, R157, R160, R176, R182) -/

/-- The mask bits of unit i of a WRM. -/
def Pkt.unitBits (p : Pkt) (i : Nat) : Nat := p.mask.toNat / 2 ^ (32 * i) % 2 ^ 32

/-- Whether unit i of a request is touched: every unit of a RD or WR, a WRM's with an enabled byte (R198). -/
def Pkt.touchesUnit (p : Pkt) (i : Nat) : Bool := pktType p.typ != .wrm || p.unitBits i != 0

/-- Whether unit i of a WRM is enabled in part (R198). -/
def Pkt.partialUnit (p : Pkt) (i : Nat) : Bool := pktType p.typ = .wrm && p.unitBits i != 0 && p.unitBits i != 2 ^ 32 - 1

/-- The units of a request that lie in host line ln, as offsets. -/
def Pkt.unitsIn (p : Pkt) (ln : Nat) : List Nat :=
  (List.range p.len.toNat).filter fun i => (p.addr.toNat + i) / 2 = ln && p.touchesUnit i

/-- The lines of a request that its units touch, as host line numbers, ascending. -/
def Pkt.lineNos (p : Pkt) : List Nat :=
  ((List.range p.len.toNat).filter p.touchesUnit |>.map fun i => (p.addr.toNat + i) / 2).eraseDups

/-- The lines of a request in the configuration presented (R33, R182, R197, R198). -/
def State.jobs (s : State) (p : Pkt) : List LineJob :=
  p.lineNos.filterMap fun ln =>
    (s.decomp ln).map fun y =>
      let us := p.unitsIn ln
      { bank := y.bank, row := s.actRow y.chan y.bank y.row, col := y.col, ln := ln
        te := us.foldl (fun n i => n + 2 ^ ((p.addr.toNat + i) % 2)) 0
        rmw := us.any p.partialUnit }

/-- Steps 2 to 4 of R154 for a memory request, and the containment of the address map before step 4 (R32, R115, R508). -/
def State.memRefusal (s : State) (t : Nat) (p : Pkt) : Option Status :=
  let n := p.len.toNat
  let u := p.addr.toNat
  if pktType p.typ = .wrm ∧ n ≥ 5 then some .size
  else if pktType p.typ = .rd ∧ n > s.fld Fld.TRK_TRAIN_STATUS_MAX_LEN t then some .size
  else if u % 128 + n > 128 then some .align
  else if s.fab.ucHold then some .retry
  else if u / 128 ≥ s.fld Fld.GLB_INSTALLED_WAGONS ∨ (s.decomp (u / 2)).isNone then some .noaddr
  else none

/-- A RD, WR or WRM at the track: answered there, or graded and put into the track request buffer for the turntable (R154, R160, R211). -/
def State.memRequest (s : State) (t : Nat) (p : Pkt) : State :=
  if ¬ s.canTake t p then s else
  let (s, ord) := s.takeIn t p
  match s.badReason t p ord with
  | some r => s.answerBad t p ord r
  | none =>
    if p.len = 0 then s.answerAt t p ord .ok
    else match s.memRefusal t p with
      | some st => s.answerAt t p ord st
      | none =>
        let (s, g) := s.gradeReq p.master.toNat (pktType p.typ != .rd) (32 * p.len.toNat)
        let c := ((s.decomp (p.addr.toNat / 2)).map fun y => y.chan).getD 0
        s.modSes t fun x => { x with buf := x.buf ++ [{ pkt := p, ord := ord, grade := g, chan := c, lines := s.jobs p }] }

/-- RD: an accepted read (R154). -/
def execRd (t : TrackIx) (p : Pkt) (s : State) : Out := .next (s.memRequest t { p with typ := 0x01 })

/-- WR: an accepted write with its payload (R154). -/
def execWr (t : TrackIx) (p : Pkt) (s : State) : Out := .next (s.memRequest t { p with typ := 0x02 })

/-- WRM: an accepted masked write (R157). -/
def execWrm (t : TrackIx) (p : Pkt) (s : State) : Out := .next (s.memRequest t { p with typ := 0x03 })

/-! ### Register requests (R156, R163, R504) -/

/-- The byte address and the size byte of a register packet (R156, R496). -/
def Pkt.regAddr (p : Pkt) : Nat := p.addr.toNat % 2 ^ 24

/-- The size byte. -/
def Pkt.regSize (p : Pkt) : Nat := p.addr.toNat / 2 ^ 24

/-- The value an RWR carries: payload bytes 0 to 3 or 0 to 7, little-endian. -/
def Pkt.regData (p : Pkt) : Nat := (p.data.headD 0).toNat % (if p.regSize = 8 then 2 ^ 64 else 2 ^ 32)

/-- The register fabric performs a register request of a track and the RRS is ready (R156, R504). -/
def State.doReg (s : State) (t : TrackIx) (p : Pkt) (ord : Nat) : State :=
  let s := s.returnFor t ord p.cost.1 p.cost.2
  let src := WSrc.link t p.master p.tag
  if pktType p.typ = .rrd then
    let (s, st, v) := s.regRead src p.regSize p.regAddr
    s.respond ord 0x12 st.code 0 (if st = .ok then [BitVec.ofNat 256 v] else [])
  else
    let (s, st) := s.regWrite src p.regSize p.regAddr p.regData
    s.respond ord 0x12 st.code 0

/-- An RRD or RWR at the track: performed in its order, behind a fence of its master not before the release (R163, R164). -/
def State.regRequest (s : State) (t : TrackIx) (p : Pkt) : State :=
  if ¬ s.canTake t p then s else
  let (s, ord) := s.takeIn t p
  match s.badReason t p ord with
  | some r => s.answerBad t p ord r
  | none =>
    if s.fenceBefore ord then s.modSes t fun x => { x with buf := x.buf ++ [{ pkt := p, ord := ord }] }
    else s.doReg t p ord

/-- RRD: an accepted register read (R156). -/
def execRrd (t : TrackIx) (p : Pkt) (s : State) : Out := .next (s.regRequest t { p with typ := 0x05 })

/-! ### Fences (R164, R178) -/

/-- FEN: later requests of the master on the track wait in the track request buffer until FENCE_RELEASE (R164). -/
def execFen (t : TrackIx) (p : Pkt) (s : State) : Out :=
  let p := { p with typ := 0x04 }
  .next <| if ¬ s.canTake t p then s else
    let (s, ord) := s.takeIn t p
    match s.badReason t p ord with
    | some r => s.answerBad t p ord r
    | none => s.modSes t fun x => { x with buf := x.buf ++ [{ pkt := p, ord := ord }] }

/-- Whether every request a fence orders before it has taken effect: those of its master carried by its track and accepted earlier, LEN 0 aside (R131, R160, R164). -/
def State.fenceMet (s : State) (ord : Nat) : Bool :=
  match s.openTag ord with
  | none => true
  | some f => s.tags.all fun o => !(o.track = f.track && o.master = f.master && o.ord < ord && !o.zero) || o.eff

/-- Perform the register requests in a track's buffer that no fence holds (R163, R164). -/
def State.freeRegs (s : State) (t : TrackIx) : State :=
  ((s.trk t).ses.buf.filter fun e => (pktType e.pkt.typ = .rrd || pktType e.pkt.typ = .rwr) && !s.fenceBefore e.ord).foldl
    (fun s e => (s.modSes t fun x => { x with buf := x.buf.filter fun y => y.ord != e.ord }).doReg t e.pkt e.ord) s

/-- FENCE_RELEASE: every earlier request of the master has taken effect: the FEN leaves with its answer due, its held register requests are performed, the others are offered again (R164, R178). -/
def execFenceRelease (t : TrackIx) (master : BitVec 6) (s : State) : Out :=
  .next <| match (s.trk t).ses.buf.find? fun e => e.pkt.master = master && pktType e.pkt.typ = .fen with
  | none => s
  | some f =>
    if ¬ s.fenceMet f.ord then s else
    let s := s.modSes t fun x => { x with buf := x.buf.filter fun e => e.ord != f.ord }
    let s := s.answerAt t f.pkt f.ord .ok
    (List.finRange 32).foldl (fun s u => s.freeRegs u) s

/-! ### NUL (R145, R146, R166) -/

/-- NUL: an accepted NUL header delivers its acknowledgement and its tablet returns; one the lanes brought has delivered them on arrival (R145, R146). -/
def execNul (t : TrackIx) (p : Pkt) (s : State) : Out :=
  let p := { p with typ := 0x00 }
  .next <|
    if (s.trk t).rx.inbox.any fun e => e.1.same p then (s.takeIn t p).1
    else if ¬ s.linkIs t .ready then s
    else if p.sequenced then (s.takeIn t p).1
    else
      let s := s.takeAck t p.ackSeq p.nak
      if p.headReason = some 0x06 then s.malformed t p 0x06 else s

end Sys2Proof.Machine
end

