-- ==== Sys2Proof/Machine/RegCmds.lean ====
section
/-! DEFINITION. The commands that write one register (18, and the chapters that own the registers). Each takes the whole word written and who writes it; a command bit's own row sets that bit. -/
namespace Sys2Proof.Machine

/-- The RWR packet of a register write (R156). -/
def State.rwrPkt (s : State) (t : TrackIx) (m : BitVec 6) (g : BitVec 14) (size a : Nat) (v : Nat) : Pkt := {
  typ := 0x06, tag := g, master := m, len := 1, addr := BitVec.ofNat 32 (size * 2 ^ 24 + a)
  ackSeq := BitVec.ofNat 8 (s.fld Fld.TRK_PKT_SEQ_TX_ACKED t), data := [BitVec.ofNat 256 v] }

/-- Whether the port's accesses reach the register fabric: power is good, no reset, no HOLD. -/
def State.fabricUp (s : State) : Bool := s.pins.pwrGood && !s.resetting && s.hold.isNone

/-- The word REG_ACC captures for a finished access (table REG_ACC data register). -/
def accWord (data : Nat) (st : Status) (a : Nat) : BitVec 64 :=
  BitVec.ofNat 64 (data * 2 ^ 32 + 2 ^ 29 + st.code * 2 ^ 24 + a % 2 ^ 24)

/-- One scan of REG_ACC: what was finished is captured, the access of the update is made; the port is not served in HOLD (R391, R517). -/
def State.scan (s : State) (access : State → State × BitVec 64) : State :=
  if s.hold.isSome then s else
  let s := { s with wrap := { s.wrap with wir := .regAcc, bumps := none, cap := s.wrap.result.getD 0, edge := some s.cc } }
  if ¬ s.fabricUp then { s with wrap := { s.wrap with result := none } } else
  let (s, r) := access s
  { s with wrap := { s.wrap with result := some r } }

/-- A scan that reads. -/
def State.scanRead (s : State) (a : Nat) : State :=
  s.scan fun s =>
    let (s, st, v) := s.portRead a
    (s, accWord v st a)

/-- A scan that writes. -/
def State.scanWrite (s : State) (a w : Nat) : State :=
  s.scan fun s =>
    let (s, st) := s.portWrite a w
    (s, accWord 0 st a)

/-- A register write of a size from a source: an RWR, or port scans, two for a 64-bit register (R499, R511). -/
def State.writeFrom (s : State) (src : WSrc) (size a v : Nat) : State :=
  match src with
  | .link t m g => s.regRequest t (s.rwrPkt t m g size a v)
  | .port => if size = 8 then (s.scanWrite a (v % 2 ^ 32)).scanWrite (a + 4) (v / 2 ^ 32) else s.scanWrite a (v % 2 ^ 32)

/-- A write of the 32-bit register that holds a field. -/
def State.writeWord (s : State) (src : WSrc) (f : Field) (w : BitVec 32) (i : Nat := 0) (j : Nat := 0) : State :=
  s.writeFrom src 4 (f.addr i j) w.toNat

/-- A write of that register with the field, one command bit, set. -/
def State.writeCmd (s : State) (src : WSrc) (f : Field) (w : BitVec 32) (i : Nat := 0) (j : Nat := 0) : State :=
  s.writeWord src f (w ||| BitVec.ofNat 32 (2 ^ f.lo)) i j

/-- REG_WRITE: an RWR or a port write of any register, performed whole or refused (R499). -/
def execRegWrite (src : WSrc) (size : BitVec 8) (addr : BitVec 24) (v : BitVec 64) (s : State) : Out :=
  .next (s.writeFrom src size.toNat addr.toNat v.toNat)

/-- TT_FRAME_LOAD: FRAME takes VALUE at the next tick, once (R53). -/
def execTtFrameLoad (src : WSrc) (w : BitVec 64) (s : State) : Out :=
  .next (s.writeFrom src 8 (Fld.TT_FRAME_LOAD_VALUE.addr 0 0) w.toNat)

/-- TT_STAGE_HOLD: at-tick writes are staged while HOLD is 1, and apply at the first tick after it is 0 (R63). -/
def execTtStageHold (src : WSrc) (w : BitVec 32) (s : State) : Out := .next (s.writeWord src Fld.TT_STAGE_HOLD w)

/-- LANE_SPARE_GO: sparing of SPARE_POS is requested (R90). -/
def execLaneSpareGo (src : WSrc) (t : TrackIx) (w : BitVec 32) (s : State) : Out := .next (s.writeCmd src Fld.TRK_LANE_CMD_SPARE_GO w t)

/-- LANE_CNT_CLR: the lane counters of the track are cleared at the next tick (R101). -/
def execLaneCntClr (src : WSrc) (t : TrackIx) (w : BitVec 32) (s : State) : Out := .next (s.writeCmd src Fld.TRK_LANE_CMD_CNT_CLR w t)

/-- SPARE_STATE_WRITE: a standby spare moves to TEST or back, or the write is refused (R91). -/
def execSpareStateWrite (src : WSrc) (t : TrackIx) (tx : Bool) (w : BitVec 32) (s : State) : Out :=
  .next (s.writeWord src (spareFld tx false) w t)

/-- PRBS_CTL_WRITE: a generator or checker is chosen, refused on a lane in service (R99). -/
def execPrbsCtlWrite (src : WSrc) (t : TrackIx) (p : LaneIx) (w : BitVec 32) (s : State) : Out := .next (s.writeWord src Fld.TRK_PRBS_CTL_GEN_SEL w t p)

/-- INJ_GO: COUNT injections of MODE begin on a lane (R100). -/
def execInjGo (src : WSrc) (t : TrackIx) (p : LaneIx) (w : BitVec 32) (s : State) : Out := .next (s.writeCmd src Fld.TRK_INJ_CTL_GO w t p)

/-- TRAIN_RETRAIN: a LINK retrain with reason 0x21 (R126). -/
def execTrainRetrain (src : WSrc) (t : TrackIx) (w : BitVec 32) (s : State) : Out := .next (s.writeCmd src Fld.TRK_TRAIN_CTL_RETRAIN w t)

/-- FOV_GO: failover of the track to its partner (R130). -/
def execFovGo (src : WSrc) (t : TrackIx) (w : BitVec 32) (s : State) : Out := .next (s.writeCmd src Fld.TRK_TRAIN_CTL_FOV_GO w t)

/-- CHN_EN_WRITE: the engine is enabled after the timing check, or disabled and drained (R187, R203). -/
def execChnEnWrite (src : WSrc) (c : ChanIx) (w : BitVec 32) (s : State) : Out := .next (s.writeWord src Fld.CHN_CTL_EN w c)

/-- CHN_BLK_RST: a BLOCK reset of the channel (R204). -/
def execChnBlkRst (src : WSrc) (c : ChanIx) (w : BitVec 32) (s : State) : Out := .next (s.writeCmd src Fld.CHN_CTL_BLK_RST w c)

/-- CHN_SWAP: a spare engine takes the channel over (R205). -/
def execChnSwap (src : WSrc) (c : ChanIx) (w : BitVec 32) (s : State) : Out := .next (s.writeCmd src Fld.CHN_CTL_SWAP w c)

/-- The address of a register under the admission check. -/
def GuarReg.addr : GuarReg → Nat
  | .mguar m => Fld.BWR_MGUAR_GUAR_RD.addr 0 m
  | .deliv => Fld.BWR_DELIV_RD.addr 0 0
  | .cfg => Fld.BWR_CFG_ADMIT.addr 0 0

/-- BWR_GUARANTEE_WRITE: MGUAR, DELIV or the word of ADMIT, under the admission check (R220). -/
def execBwrGuaranteeWrite (src : WSrc) (r : GuarReg) (w : BitVec 32) (s : State) : Out := .next (s.writeFrom src 4 r.addr w.toNat)

/-- VLQ_RETUNE_GO: a retune of RETUNE_BUNDLE is pending (R279). -/
def execVlqRetuneGo (src : WSrc) (q : QuadIx) (w : BitVec 32) (s : State) : Out := .next (s.writeCmd src Fld.VLQ_CTL_RETUNE_GO w q)

/-- VLQ_RETRAIN: seeded training of the quadrant (R283). -/
def execVlqRetrain (src : WSrc) (q : QuadIx) (w : BitVec 32) (s : State) : Out := .next (s.writeCmd src Fld.VLQ_CTL_RETRAIN w q)

/-- COL_SPARE_GO: the named column is spared (R305). -/
def execColSpareGo (src : WSrc) (l : LayerIx) (w : BitVec 32) (s : State) : Out := .next (s.writeCmd src Fld.LAY_CTL_SPARE_GO w l)

/-- RELAY_RST: RELAY RESET goes to the junction (R313). -/
def execRelayRst (src : WSrc) (l : LayerIx) (w : BitVec 32) (s : State) : Out := .next (s.writeCmd src Fld.LAY_CTL_RELAY_RST w l)

/-- CRST: a CORE reset of a die in self-refresh (R245). -/
def execCrst (src : WSrc) (l : LayerIx) (w : BitVec 32) (s : State) : Out := .next (s.writeCmd src Fld.LAY_CTL_CRST w l)

/-- VMAP_CLEAR: the valid map is cleared at the next tick (R333). -/
def execVmapClear (src : WSrc) (w : BitVec 32) (s : State) : Out := .next (s.writeCmd src Fld.INT_VMAP_CTL_CLEAR w)

/-- FLIP_ARM: the flip mask waits for the next qualifying train (R328). -/
def execFlipArm (src : WSrc) (c : ChanIx) (w : BitVec 32) (s : State) : Out := .next (s.writeCmd src Fld.CHN_FLIP_CTL_ARM w c)

/-- REP_COMMIT: the working copy is committed (R359). -/
def execRepCommit (src : WSrc) (w : BitVec 32) (s : State) : Out := .next (s.writeCmd src Fld.REP_CTL_COMMIT w)

/-- FUSE_GO: every SOFT entry is to be fused (R349). -/
def execFuseGo (src : WSrc) (w : BitVec 32) (s : State) : Out := .next (s.writeCmd src Fld.REP_CTL_FUSE_GO w)

/-- PENDING_CLR: pending pairs and column groups are cancelled (R365). -/
def execPendingClr (src : WSrc) (w : BitVec 32) (s : State) : Out := .next (s.writeCmd src Fld.REP_CTL_PENDING_CLR w)

/-- CHTEST_GO: an explicit test of CHANNEL (R387). -/
def execChtestGo (src : WSrc) (w : BitVec 32) (s : State) : Out := .next (s.writeCmd src Fld.BST_CHTEST_GO w)

/-- BST_ABORT: the explicit channel test is aborted (R388). -/
def execBstAbort (src : WSrc) (w : BitVec 32) (s : State) : Out := .next (s.writeCmd src Fld.BST_CTL_ABORT w)

/-- SEAL_VOID: the seal is written VOID (R379). -/
def execSealVoid (src : WSrc) (w : BitVec 32) (s : State) : Out := .next (s.writeCmd src Fld.BST_CTL_VOID w)

/-- REACT_WRITE: the reactions of a source (R398). -/
def execReactWrite (src : WSrc) (i : Fin 95) (w : BitVec 32) (s : State) : Out := .next (s.writeWord src Fld.FLT_REACT_CLASS w 0 i)

/-- TARGET_RUN: NAP ends, PARK entry is cancelled, PARK is left (R457, R462, R464). -/
def execTargetRun (src : WSrc) (w : BitVec 32) (s : State) : Out :=
  .next (s.writeWord src Fld.GLB_PWR_REQ_TARGET (w &&& 0xFFFFFFFC ||| 0))

/-- TARGET_NAP: NAP is permitted (R457). -/
def execTargetNap (src : WSrc) (w : BitVec 32) (s : State) : Out :=
  .next (s.writeWord src Fld.GLB_PWR_REQ_TARGET (w &&& 0xFFFFFFFC ||| 1))

/-- TARGET_PARK: PARK entry begins (R458). -/
def execTargetPark (src : WSrc) (w : BitVec 32) (s : State) : Out :=
  .next (s.writeWord src Fld.GLB_PWR_REQ_TARGET (w &&& 0xFFFFFFFC ||| 2))

/-- WIDEN_GO: widening may be announced (R449). -/
def execWidenGo (src : WSrc) (w : BitVec 32) (s : State) : Out := .next (s.writeCmd src Fld.GLB_PWR_REQ_WIDEN_GO w)

/-- GLB_RESET_CHIP: a CHIP reset, where KEY is right (R453). -/
def execGlbResetChip (src : WSrc) (w : BitVec 32) (s : State) : Out := .next (s.writeCmd src Fld.GLB_RESET_CHIP w)

/-- GLB_BLOCK_RST_GO: a BLOCK reset of TARGET (R454). -/
def execGlbBlockRstGo (src : WSrc) (w : BitVec 32) (s : State) : Out := .next (s.writeCmd src Fld.GLB_BLOCK_RST_GO w)

/-- CAL_COMMIT: CAL is committed (R479). -/
def execCalCommit (src : WSrc) (w : BitVec 32) (s : State) : Out := .next (s.writeCmd src Fld.NVM_CTL_CAL_COMMIT w)

/-- WIN_RD_GO: 32 flash bytes into the window (R491). -/
def execWinRdGo (src : WSrc) (w : BitVec 32) (s : State) : Out := .next (s.writeCmd src Fld.NVM_CTL_RD_GO w)

/-- WIN_PROG_GO: the window into the flash (R491). -/
def execWinProgGo (src : WSrc) (w : BitVec 32) (s : State) : Out := .next (s.writeCmd src Fld.NVM_CTL_PROG_GO w)

/-- WIN_ERASE_GO: the sector of WIN_ADDR is erased (R491). -/
def execWinEraseGo (src : WSrc) (w : BitVec 32) (s : State) : Out := .next (s.writeCmd src Fld.NVM_CTL_ERASE_GO w)

/-- SNAP_GO: a snapshot at the next tick (R509). -/
def execSnapGo (src : WSrc) (w : BitVec 32) (s : State) : Out := .next (s.writeCmd src Fld.GLB_SNAP_GO w)

/-- RWL_LOCK: every RWL field is locked, once (R502). -/
def execRwlLock (src : WSrc) (w : BitVec 32) (s : State) : Out := .next (s.writeCmd src Fld.GLB_LOCK_RWL_LOCK w)

end Sys2Proof.Machine
end

