-- ==== Sys2Proof/Machine/Port.lean ====
section
/-! DEFINITION. The IEEE 1500 port (R389 to R391, R511): the wrapper instructions and REG_ACC. A command is one scan: capture, shift, update. -/
namespace Sys2Proof.Machine

/-- A wrapper instruction other than WS_EXTEST is in force: the bumps are released, WRCK has been seen, the data register has captured. The port is not served in HOLD (R517). -/
def State.select (s : State) (i : Wir) (cap : BitVec 64) : State :=
  if s.hold.isSome then s else
  { s with wrap := { s.wrap with wir := i, bumps := none, cap := cap, edge := some s.cc } }

/-- WS_BYPASS: the one-bit bypass register between WSI and WSO (R389). -/
def execWsBypass (wsi : Bool) (s : State) : Out := .next (s.select .bypass (BitVec.ofNat 64 (b2n wsi)))

/-- WS_EXTEST: the cells capture the sideband bumps, then drive them with what was shifted in (R390). -/
def execWsExtest (wsi bumps : BitVec 17) (s : State) : Out :=
  if s.hold.isSome then .next s else
  let s := s.select .extest (bumps.zeroExtend 64)
  .next { s with wrap := { s.wrap with wbr := wsi, bumps := some wsi } }

/-- WS_PRELOAD: the cells take what was shifted in and do not drive (R390). -/
def execWsPreload (wsi bumps : BitVec 17) (s : State) : Out :=
  if s.hold.isSome then .next s else
  let s := s.select .preload (bumps.zeroExtend 64)
  .next { s with wrap := { s.wrap with wbr := wsi } }

/-- DIE_ID: the die ID is captured (R389). -/
def execDieId (s : State) : Out := .next (s.select .dieId (BitVec.ofNat 64 (s.fld Fld.BST_DIE_ID_ID)))

/-- REG_ACC_READ: a 4-byte read through the port latches (R391, R511). -/
def execRegAccRead (addr : BitVec 24) (s : State) : Out := .next (s.scanRead addr.toNat)

/-- REG_ACC_WRITE: a 4-byte write through the port latches (R391, R511). -/
def execRegAccWrite (addr : BitVec 24) (data : BitVec 32) (s : State) : Out := .next (s.scanWrite addr.toNat data.toNat)

/-- WRSTN_RESET: the wrapper is reset and WS_BYPASS selected; WRSTN is ignored in HOLD (R389, R517). -/
def execWrstnReset (s : State) : Out :=
  .next <| if s.hold.isSome then s else { s with wrap := { s.wrap with wir := .bypass, wbr := 0, bumps := none, cap := 0, result := none } }

end Sys2Proof.Machine
end

