-- ==== Sys2Proof/Machine/Receive.lean ====
section
/-! DEFINITION. The receive direction of a track, row by row (03): PRBS checkers, symbols, block lock, deskew, row kinds, training sets, lane management rows, and what a row does. -/
namespace Sys2Proof.Machine

/-- What a lane that delivers nothing counts as. -/
def darkSym : LaneSym := { sym := .viol, err := true }

/-! ### Row kinds (R71) -/

/-- The kinds a received row is classified as (R71). -/
inductive RowKind where
  | skip | header | eie | wake | train | data
deriving DecidableEq, Repr

/-- How many positions carry a control symbol. -/
def countCtl (ys : List LaneSym) (k : Ctl) : Nat := ys.countP fun y => y.sym = .ctl k

/-- The symbol of position 15. -/
def seqSym (ys : List LaneSym) : Sym := (ys.getD 15 darkSym).sym

/-- Whether a symbol is a data symbol. -/
def Sym.isData : Sym → Bool
  | .data _ => true
  | _ => false

/-- Whether a row of an L1 exit is a wake row (R71, R95). R71 gives no threshold: 12 of positions 0 to 14 with position 15, and within the first 192 rows, while the receiver resynchronises, any row but the expected header (log entry 126). -/
def RxFrame.isWake (x : RxFrame) (ys : List LaneSym) : Bool :=
  (countCtl (ys.take 15) .com ≥ 12 && seqSym ys = .ctl .com) ||
  (x.wake < 192 && seqSym ys != .data x.next)

/-- The kind of a row, from its 16 positions (R71, R77, R107). -/
def State.classify (s : State) (t : Nat) (ys : List LaneSym) : RowKind :=
  let x := (s.trk t).rx
  let body := ys.take 15
  if s.fld Fld.TRK_LSTATE_RX_STATE t = 1 then (if x.isWake ys then .wake else .header)
  else if countCtl ys .skp ≥ 12 then .skip
  else if countCtl body .eie ≥ 12 then .eie
  else if s.linkIs t .ready then
    if x.row ≥ 256 then .header
    else if x.slotLeft > 0 then .train
    else if x.row ≥ 1 ∧ (x.row - 1) % 15 = 0 ∧ countCtl ys .tss ≥ 12 then .train
    else .data
  else if countCtl body .com ≥ 12 ∧ (seqSym ys).isData then .header
  else .train

/-- A position of a skip or EIE row that does not carry the symbol expected there is a code violation on its lane, once (R71). -/
def State.badSkip (s : State) (t q : Nat) (y : LaneSym) (want : Sym → Bool) : State :=
  if want y.sym ∨ y.sym = .viol then s else s.laneViol t (s.laneOf t false q)

/-- The expected symbols of a skip row: K28.0 on every position (R71). -/
def State.badSkips (s : State) (t : Nat) (ys : List LaneSym) : State :=
  s.upTo 16 fun q s => s.badSkip t q (ys.getD q darkSym) fun y => y = .ctl .skp

/-- The expected symbols of an EIE row: K28.3 on positions 0 to 14, 0x01 or 0x03 on position 15 (R71). -/
def State.badEies (s : State) (t : Nat) (ys : List LaneSym) : State :=
  s.upTo 16 fun q s => s.badSkip t q (ys.getD q darkSym) fun y =>
    if q = 15 then y = .data 0x01 || y = .data 0x03 else y = .ctl .eie

/-! ### Lane management rows (R86, R87) -/

/-- A block has ended on a receive spare: four rows equal to those of the block before, with a good check byte, are accepted; a message other than the one accepted last is passed on. -/
def SpareRows.close (x : SpareRows) : SpareRows × Option (Byte × LaneMsg) :=
  let good := if x.cur = x.prev then mgmtOf x.cur else none
  let msg := if x.cur = x.last then none else good
  ({ cur := [], prev := x.cur, last := if good.isSome then x.cur else x.last }, msg)

/-- Messages that the blocks just ended bring; one that differs from the REQ being answered REJ ends the REJ (R87, R88). -/
def State.closeMsgs (s : State) (t : Nat) : State :=
  let x := (s.trk t).rx
  let a := x.m0.close
  let b := x.m1.close
  let new := (a.2.toList ++ b.2.toList)
  let told := new.filter fun m => m.1 = 0x01 || m.1 = 0x02 || m.1 = 0x03
  s.modTrk t fun y => { y with
    rx := { y.rx with m0 := a.1, m1 := b.1, mgmt := y.rx.mgmt ++ told }
    rej := if new.any fun m => y.rej.any fun r => m != (0x01, r) then none else y.rej }

/-- Rows 1 to 4 of a standby receive spare (R86). -/
def SpareRows.take (x : SpareRows) (on : Bool) (y : Sym) : SpareRows :=
  match on, y with
  | true, .data b => { x with cur := x.cur ++ [b] }
  | _, _ => x

/-- The symbols of the two spares in rows 1 to 4 of a block. -/
def State.takeMsgs (s : State) (t : Nat) (all : List LaneSym) : State :=
  let on (sp : Bool) : Bool := s.spareIs t false sp .standby
  s.modRx t fun x =>
    if 1 ≤ x.row ∧ x.row ≤ 4 then { x with
      m0 := x.m0.take (on false) (all.getD 16 darkSym).sym, m1 := x.m1.take (on true) (all.getD 17 darkSym).sym }
    else x

/-! ### Training sets (R105 to R109) -/

/-- One symbol of a lane into its training set: TSS begins one, COM follows, then 13 data symbols; anything else spoils the copy. -/
def LaneRx.setStep (L : LaneRx) (y : Sym) : LaneRx :=
  let L := { L with comGap := L.comGap + 1 }
  match y with
  | .ctl .tss => { L with setRow := 1, set := [] }
  | .ctl .com =>
    if L.setRow = 1 then
      { L with setRow := 2, comGap := 0, coms := if 15 ≤ L.comGap ∧ L.comGap ≤ 17 then min 16 (L.coms + 1) else 1 }
    else { L with setRow := 0 }
  | .data b => if 2 ≤ L.setRow ∧ L.setRow ≤ 14 then { L with setRow := L.setRow + 1, set := L.set ++ [b] } else L
  | _ => { L with setRow := 0 }

/-- The set a lane has completed in this row, its check byte good: TYPE, lane, control, nine content bytes (R105). -/
def LaneRx.setDone (L : LaneRx) : Option (List Byte) :=
  if L.setRow = 15 ∧ L.set.length = 13 ∧ (L.set.take 12).foldl (· ^^^ ·) 0xA5 = L.set.getD 12 0 then some (L.set.take 12) else none

/-- Every lane's symbol into its set; a lane with COM at one boundary in 16 slots in a row has symbol lock (R110 phase 2). -/
def State.setLanes (s : State) (t : Nat) (all : List LaneSym) : State :=
  s.upTo 18 fun p s =>
    let L := (s.rxLane t p).setStep (all.getD p darkSym).sym
    (s.setRxLane t p L).when (L.coms ≥ 16 && !s.linkIs t .ready) fun s => s.setFld Fld.TRK_LANE_STATUS_SYM_LOCK 1 t p

/-- The copies of the slot that ends in this row; before deskew the slot is that of the lowest lane with signal (R106; log entry 127). -/
def State.copies (s : State) (t : Nat) : List (List Byte) :=
  let done := (List.range 18).filterMap fun p => (s.rxLane t p).setDone
  if (s.trk t).trn.deskewed then done else
  match (List.range 18).find? fun p => (s.rxLane t p).sig with
  | some p => if (s.rxLane t p).setRow = 15 then done else []
  | none => []

/-- The page that copies agree in, the lane byte aside: type, control, content (R106). -/
def agreed (cs : List (List Byte)) : Option (Byte × Byte × List Byte) :=
  match cs with
  | [] => none
  | c :: _ =>
    if cs.all fun d => d.take 1 ++ d.drop 2 = c.take 1 ++ c.drop 2 then some (c.getD 0 0, c.getD 2 0, c.drop 3) else none

/-- Whether pages 0 to n have been accepted twice, the last of them marked LAST; the content they make (R106). -/
def contentDone (pages : Store SetPage) : Option (List Byte) :=
  match pages.find? fun e => e.2.last with
  | none => none
  | some (n, _) =>
    let ps := (List.range (n + 1)).map fun i => Store.find pages i
    if ps.all fun p => p.any fun x => x.twice then some (ps.flatMap fun p => (p.map SetPage.bytes).getD []) else none

/-- An accepted page: with the others of its content it may make the content accepted, which waits for its command (R106). A page of another type begins a new content. -/
def RxFrame.takePage (x : RxFrame) (ty ctl : Byte) (bs : List Byte) : RxFrame :=
  let pages := if x.pageType = ty then x.pages else []
  let i := ctl.toNat % 16
  let ack := ctl.getLsbD 4
  let last := ctl.getLsbD 5
  let twice := (Store.find pages i).any fun p => p.bytes = bs && p.last = last
  let pages := Store.put pages i { bytes := bs, twice := twice, ack := ack, last := last }
  match contentDone pages with
  | some c => { x with pageType := ty, pages := [], sets := x.sets.filter (fun e => e.typ != ty) ++ [{ typ := ty, ack := ack, bytes := c }] }
  | none => { x with pageType := ty, pages := pages }

/-- A run of slots accepted in a row carrying RESET (R109). -/
def resetRun (n : Nat) (page : Option (Byte × Byte × List Byte)) : Nat :=
  match page with
  | some (ty, _, bs) => if ty = SetType.reset.code ∧ bs.take 4 = [0x43, 0x48, 0x49, 0x50] then n + 1 else 0
  | none => 0

/-- The training rows of all lanes: sets complete, pages and contents are accepted (R105, R106). -/
def State.setRow (s : State) (t : Nat) (all : List LaneSym) : State :=
  let s := s.setLanes t all
  if ¬ (List.range 18).any (fun p => (s.rxLane t p).setRow = 15) then s else
  let page := agreed (s.copies t)
  let s := s.modTrn t fun x => { x with reset := resetRun x.reset page }
  match page with
  | some (ty, ctl, bs) => s.modRx t fun x => x.takePage ty ctl bs
  | none => s

/-! ### What a row does -/

/-- A wake row of an L1 exit (R95, R96). -/
def State.rxWake (s : State) (t : Nat) : State :=
  s.modTrk t fun x => { x with rx := { x.rx with wake := x.rx.wake + 1 }, tx := { x.tx with leave := true } }

/-- An L1 exit that ended well: locked lanes hold block lock from this header on (R95). -/
def State.relock (s : State) (t : Nat) (seq : Byte) : State :=
  s.modTrk t fun x => { x with lanesRx := x.lanesRx.map fun e =>
    (e.1, if e.2.since = 0 then e.2 else { e.2 with since := 1, fail := 0, lastSeq := seq }) }

/-- A block header row (R74, R86, R88, R95, R169): the block begins; the spares' messages of the block before count; a held packet is decided; an L1 exit ends well or fails. -/
def State.rxHeader (s : State) (t : Nat) (ys : List LaneSym) : State :=
  let x := (s.trk t).rx
  let seq := match seqSym ys with
    | .data b => b
    | _ => x.next
  let good := (ys.take 15).all (fun y => y.sym = .ctl .com) && seqSym ys = .data x.next
  let s := s.closeMsgs t
  let s := s.modTrk t fun y => { y with
    rx := { y.rx with row := 1, first := true, blk := seq, wake := 0, slotLeft := 0 }
    spY := y.spY.map fun z => { z with blocks := z.blocks + 1 } }
  let s := s.judgeHeld t good
  if s.fld Fld.TRK_LSTATE_RX_STATE t = 1 then
    if good then (s.relock t seq).setFld Fld.TRK_LSTATE_RX_STATE 0 t
    else (s.raise .hlL1ExitFail t).retrain t 0x24
  else s

/-- An EIE row (R94, R168): the receiver enters L1 or L3 and the open calibration windows end; one that cuts a packet is a stall. -/
def State.rxEie (s : State) (t : Nat) (ys : List LaneSym) : State :=
  let s := if s.linkIs t .ready ∧ (s.trk t).rx.cur.isSome then s.stall t else s
  let s := s.modTrk t fun y => { y with
    rx := { y.rx with row := 256, wake := 0 }, lanesRx := y.lanesRx.map fun e => (e.1, { e.2 with calErr := 0 }) }
  if seqSym ys = .data 0x01 then s.setFld Fld.TRK_LSTATE_RX_STATE 1 t
  else if seqSym ys = .data 0x03 then s.setFld Fld.TRK_LSTATE_RX_STATE 3 t
  else s

/-- The bytes of a data row; a position without a data symbol reads 0 and the row is errored (R71). -/
def dataBytes (ys : List LaneSym) : List Byte × Bool :=
  (ys.map fun y => match y.sym with
    | .data b => b
    | _ => 0,
   ys.any fun y => y.err || !y.sym.isData)

/-- A training row: of a slot while READY, of the stream of sets in training (R104, R107). -/
def State.trainIn (s : State) (t : Nat) (all : List LaneSym) : State :=
  let ready := s.linkIs t .ready
  (s.setRow t all).modRx t fun x => { x with
    row := x.row + 1, slotLeft := if x.slotLeft > 0 then x.slotLeft - 1 else if ready then 14 else 0 }

/-- A data row of the stream (R71). -/
def State.dataRowIn (s : State) (t : Nat) (all ys : List LaneSym) : State :=
  let s := (s.takeMsgs t all).modRx t fun x => { x with row := x.row + 1 }
  let (bs, e) := dataBytes ys
  s.dataIn t (rowOf bs) e

/-- A skip row out of the elastic buffer: it carries nothing; one that came as the buffer filled is deleted, as it drained delivered twice, and the buffer stands level (R76). -/
def State.skipIn (s : State) (t : Nat) (ys : List LaneSym) : State :=
  (s.badSkips t ys).modRx t fun x => { x with elastic := .none }

/-- What a classified row does. -/
def State.rowAction (s : State) (t : Nat) (all ys : List LaneSym) (k : RowKind) : State :=
  match k with
  | .skip => s.skipIn t ys
  | .header => s.rxHeader t ys
  | .eie => (s.badEies t ys).rxEie t ys
  | .wake => s.rxWake t
  | .train => s.trainIn t all
  | .data => s.dataRowIn t all ys

/-! ### From the lanes to a row -/

/-- The symbols of all 18 lanes into their receivers (R73). -/
def State.rxLanes (s : State) (t : Nat) (row : RxRow) : State × List LaneSym :=
  (List.range 18).foldl (fun (acc : State × List LaneSym) p =>
    let (s, y) := acc.1.rxSymbol t p (row.syms.getD p 0) (row.sig.getLsbD p)
    (s, acc.2 ++ [y])) (s, [])

/-- The deskew delay of a lane: the lateness of the latest less its own (R79). -/
def State.delayOf (s : State) (t p : Nat) : Nat := (s.trk t).rx.depth - s.fld Fld.TRK_LANE_STATUS_SKEW t p

/-- The symbols as they leave the delay lines, each lane behind its own delay; the lines keep 24 (R79). -/
def State.align (s : State) (t : Nat) (raw : List LaneSym) : State × List LaneSym :=
  (List.range 18).foldl (fun (acc : State × List LaneSym) p =>
    let L := acc.1.rxLane t p
    let line := (raw.getD p darkSym) :: L.hist
    (acc.1.setRxLane t p { L with hist := line.take 24 }, acc.2 ++ [line.getD (acc.1.delayOf t p) darkSym])) (s, [])

/-- Block lock on every lane with signal, then lock losses and error limits (R77, R80, R90). Before deskew a lane knows a skip row by its own symbol. -/
def State.lockLanes (s : State) (t : Nat) (all : List LaneSym) (skip : Bool) : State :=
  let own := !(s.trk t).trn.deskewed
  s.upTo 18 fun p s =>
    let y := (all.getD p darkSym).sym
    if (s.rxLane t p).sig then
      let (s, lost) := s.lockStep t p y (if own then y = .ctl .skp else skip)
      (if lost then s.onLockLoss t p else s).checkErrLimit t p
    else s

/-- Whether any active position has signal. -/
def State.anySignal (s : State) (t : Nat) (row : RxRow) : Bool :=
  (List.range 16).any fun q => row.sig.getLsbD (s.laneOf t false q)

/-- The elastic buffer in a row-time (R76): it fills or drains until the next skip row, or has reached its limit and the track retrains. While a direction is stalled it delivers nothing and raises nothing (R168). -/
def State.elasticEvent (s : State) (t : Nat) (e : ElasticEv) : State :=
  match e with
  | .none => s
  | .limit =>
    if s.linkIs t .ready ∨ s.linkIs t .training then (s.raise .hlElastic t).retrain t 0x22 else s
  | e => s.modRx t fun x => { x with elastic := e }

/-- A row-time of a direction that delivers rows: symbols, deskew, block lock, the row's kind and action, equaliser corrections, training (R71 to R84, R107, R111). -/
def State.rowIn (s : State) (t : Nat) (row : RxRow) : State :=
  let (s, raw) := s.rxLanes t row
  let (s, all) := s.align t raw
  if ¬ s.anySignal t row then s else
  let ys := (List.range 16).map fun q => all.getD (s.laneOf t false q) darkSym
  let k := s.classify t ys
  let s := if s.fld Fld.TRK_LSTATE_RX_STATE t = 1 then s else s.lockLanes t all (k = .skip)
  let s := s.rowAction t all ys k
  let s := if (k = .header ∨ k = .skip) ∧ s.fld Fld.TT_TIME_CYCLE ≥ 1200 then
      row.eq.foldl (fun s e => s.stageEq t e) s else s
  ((s.advance t []).checkCensus t).elasticEvent t row.elastic

/-- SIG_DET while a direction is stalled: its lanes deliver no rows (R168). -/
def State.stalledRow (s : State) (t : Nat) (row : RxRow) : State :=
  s.upTo 18 fun p s =>
    let on := row.sig.getLsbD p
    (s.setFlag Fld.TRK_LANE_STATUS_SIG_DET on t p).setRxLane t p
      { s.rxLane t p with sig := on, free := if on then (s.rxLane t p).free else 4 }

/-- RX_ROW: one row-time of a track's receive direction. PRBS checkers run on lanes R99 allows; nothing else is received while the track is disabled or its receiver is in L3; a stalled direction delivers no rows until its wake run (R71, R98, R168). -/
def execRxRow (t : TrackIx) (row : RxRow) (s : State) : Out :=
  .next <|
  if s.resetting then s else
  let s := s.upTo 18 fun p s => if row.sig.getLsbD p then s.prbsCheck t p (row.syms.getD p 0) else s
  if s.linkIs t .disabled ∨ s.fld Fld.TRK_LSTATE_RX_STATE t = 3 then s
  else if (s.trk t).rx.mode = .stalled ∧ s.fld Fld.TRK_LSTATE_RX_STATE t ≠ 1 then s.stalledRow t row
  else s.rowIn t row

end Sys2Proof.Machine
end

