-- ==== Sys2Proof/Machine/Tick.lean ====
section
/-! DEFINITION. The frame tick (02): what the device does at cycle offset 0, in the order of R61. -/
namespace Sys2Proof.Machine

/-- Change every channel that the state lists. -/
def State.mapChans (s : State) (g : Chan → Chan) : State := { s with chans := s.chans.map fun e => (e.1, g e.2) }

/-! ### Closing the frame (R57 to R61) -/

/-- Channels whose REFRESH slot is cut at this tick: it took work that has not issued (R57, R233). -/
def State.cutRefresh (s : State) : List Nat :=
  (s.chans.filter fun e => e.2.ref.slot > 0 || e.2.ref.slotN > 0).map fun e => e.1

/-- Whether a SCRUB slot is open at the tick with its train not issued. -/
def Chan.cutScrub (x : Chan) (cc : Nat) : Bool :=
  x.gDue && (match x.gOpen with
    | some z => decide (cc ≤ z + 399)
    | none => false)

/-- Count the overruns of the ending frame: REFRESH, SCRUB, ACCOUNT, TELEMETRY (R57). -/
def State.countOverruns (s : State) : State :=
  let scrubs := (s.chans.filter fun e => e.2.cutScrub s.cc).length
  let s := s.bump Fld.TT_OVERRUN_COUNT 0 0 s.cutRefresh.length
  let s := s.bump Fld.TT_OVERRUN_COUNT 0 1 scrubs
  let s := s.bump Fld.TT_OVERRUN_COUNT 0 2 (b2n (!s.bwr.acct))
  s.bump Fld.TT_OVERRUN_COUNT 0 3 (b2n (!s.thm.done))

/-- The cut slots end; what they took stays owed or pending; TT_HARD_OVERRUN for each REFRESH (R58, R60). -/
def State.cutSlots (s : State) (cut : List Nat) : State :=
  let g (x : Chan) : Chan := { x with gOpen := none, scrub := false, ref := { x.ref with slot := 0, slotN := 0, own := [], open_ := false } }
  let s := s.mapChans g
  cut.foldl (fun s c => s.raise .ttHardOverrun c { detail := 0, access := 5 }) s

/-- Step 2: a pending snapshot copies every captured field and the ending frame's time (R509). -/
def State.snapshot (s : State) : State :=
  if ¬ s.flag Fld.GLB_SNAP_PENDING then s else
  let copy := s.regs.filter fun e => match fieldOfKey e.1 with
    | some x => x.f.snap
    | none => false
  let copy := Store.put copy (Fld.TT_TIME_FRAME.key 0 0) (s.fld Fld.TT_TIME_FRAME)
  let copy := Store.put copy (Fld.TT_TIME_CYCLE.key 0 0) 1599
  let s := { s with fab := { s.fab with snp := copy } }
  let s := s.setFld Fld.GLB_SNAP_SEQ_SEQ (s.fld Fld.GLB_SNAP_SEQ_SEQ + 1)
  (s.setFld Fld.GLB_SNAP_VALID 1).setFld Fld.GLB_SNAP_PENDING 0

/-- Step 6: FRAME increments, wrapping, or takes FRAME_LOAD; CYCLE is 0 (R45, R47, R53). What the tick raises carries the new frame count (R45), so it is taken before the steps that raise. -/
def State.nextFrame (s : State) : State :=
  let n := s.fld Fld.TT_TIME_FRAME
  let s := if s.fab.frameLoad then
      let s := (s.setFld Fld.TT_TIME_FRAME (s.fld Fld.TT_FRAME_LOAD_VALUE)).setFld Fld.TT_STATUS_EPOCH_SET 1
      { s with fab := { s.fab with frameLoad := false } }
    else if n = 2 ^ 48 - 1 then (s.setFld Fld.TT_TIME_FRAME 0).setFld Fld.TT_STATUS_FRAME_WRAP 1
    else s.setFld Fld.TT_TIME_FRAME (n + 1)
  { (s.setFld Fld.TT_TIME_CYCLE 0) with cc := (s.cc / 1600 + 1) * 1600 }

/-! ### Step 3: corrections and staged values (R62, R63) -/

/-- The values written for this tick and the device's own take effect as a whole set; those staged under TT.STAGE.HOLD stay staged. BWR.CFG.EN set to 1 makes the buckets start full (R63, R217). -/
def State.applyStaged (s : State) : State :=
  let due := s.fab.ready ++ s.fab.later
  let was := s.flag Fld.BWR_CFG_EN
  let regs := due.foldl (fun m e => Store.set m e.key e.dflt e.val) s.regs
  let s : State := { s with regs := regs, fab := { s.fab with ready := [], later := [] } }
  if s.flag Fld.BWR_CFG_EN ∧ ¬ was then { s with bwr := { s.bwr with fill := true } } else s

/-- Staged trims of a bundle's receivers (R278, R279). -/
def State.applyBund (s : State) (b : Nat) : State :=
  let x := s.bund b
  let s := x.ph.foldl (fun s e => s.setCal Fld.VLQ_COL_PH e.2 b e.1) s
  let s := x.dly.foldl (fun s e => s.setCal Fld.VLQ_COL_DLY e.2 b e.1) s
  s.modBund b fun y => { y with ph := [], dly := [] }

/-- The lane counters of a track. -/
def laneCounters : List Field :=
  [Fld.TRK_LANE_CODE_VIOL_COUNT, Fld.TRK_LANE_DISP_ERR_COUNT, Fld.TRK_LANE_HDR_MISS_COUNT, Fld.TRK_LANE_LOCK_LOSS_COUNT,
   Fld.TRK_LANE_CAL_REJECT_COUNT, Fld.TRK_LANE_PRBS_ERR_COUNT, Fld.TRK_LANE_PRBS_BITS_COUNT]

/-- Staged trims and equaliser settings of a track's lanes, and LANE_CMD.CNT_CLR (R82, R84, R101). -/
def State.applyTrack (s : State) (t : Nat) : State :=
  let s := s.upTo 18 fun p s => s.applyLane t p
  if (s.trk t).cntClr then
    (s.upTo 18 fun p s => laneCounters.foldl (fun s f => s.setFld f 0 t p) s).modTrk t fun x => { x with cntClr := false }
  else s

/-- The CLEAR of the valid map: every bit 0, the background sweep begins, open fills do not set their bits (R333). -/
def State.clearMap (s : State) : State :=
  if ¬ s.vmap.clear then s else
  let g (x : Chan) : Chan := { x with fills := x.fills.map fun f => { f with cleared := true } }
  let s := s.mapChans g
  let s := { s with vmap := { s.vmap with mem := [], clear := false } }
  (s.setFld Fld.INT_VMAP_STATUS_CLEAR_PENDING 0).setFld Fld.INT_VMAP_STATUS_SWEEPING 1

/-- The copies of map rows made in the frame serve from the tick on (R355). -/
def State.mapRowsTick (s : State) : State :=
  let moved := s.vmap.moving
  let s := { s with vmap := { s.vmap with moving := [] } }
  moved.foldl (fun s e =>
    let s := { s with vmap := { s.vmap with spareRows := Store.put s.vmap.spareRows e.1 e.2 } }
    (s.repSet { kind := 9, state := 6, row := e.1, res := e.2 }).bump Fld.REP_CNT_COUNT 0 7) s

/-- The work of a layer's channels in the frame just ended, for the model's next step (R418). -/
def State.noteWork (s : State) : State :=
  let s := s.upTo 16 fun l s =>
    let cs := (List.range 4).map fun i => s.chan (4 * l + i)
    let sum (f : Chan → Nat) : Nat := cs.foldl (fun n x => n + f x) 0
    s.modThm l fun x => { x with act := (sum Chan.acts2, sum Chan.lines2, sum Chan.refbs2) }
  let g (x : Chan) : Chan := { x with acts2 := 0, lines2 := 0, refbs2 := 0, spent := 0 }
  s.mapChans g

/-- Step 3 in the core and vertical domains. -/
def State.applyCore (s : State) : State :=
  let s := s.vert.bund.foldl (fun s e => s.applyBund e.1) s
  let s := s.trks.foldl (fun s e => s.applyTrack e.1) s
  let s := s.upTo 4 fun q s => s.setFld Fld.VLQ_STATUS_QUIET 0 q
  let s := s.clearMap.mapRowsTick
  let s := s.chans.foldl (fun s e => (s.fillTick e.1).migTick e.1) s
  s.codecTick.noteWork

/-! ### Step 5: intervals (R50, R61) -/

/-- Refresh accrual of a channel not in self-refresh; it begins with OWED and ACC 0 as the rounds of the exit end (R232, R248). -/
def State.accrue (s : State) (c : Nat) : State :=
  if ¬ (s.chan c).exited ∨ s.flag Fld.CHN_REF_STATE_SR c ∨ s.cc < (s.chan c).ready then s else
  let m := if s.flag Fld.CHN_REF_STATE_RECOVERY c then 4 else 2 ^ min 2 (s.rateOf (c / 4))
  let trefi := s.fld Fld.REF_CFG_TREFI
  let acc := s.fld Fld.CHN_REF_STATE_ACC c + 40 * m
  let owed := min 31 (s.fld Fld.CHN_REF_STATE_OWED c + acc / trefi)
  let s := (s.setFld Fld.CHN_REF_STATE_ACC (acc % trefi) c).setFld Fld.CHN_REF_STATE_OWED owed c
  let behind : Bool := decide (owed ≥ s.fld Fld.REF_CFG_OWED_MAX)
  let was := (s.chan c).ref.behind
  let s := s.modRef c fun r => { r with behind := behind }
  if behind ∧ ¬ was then (s.setFld Fld.REF_STATUS_BEHIND_SEEN 1).raise .refBehind c (s.chInfo c) else s

/-- The tick counts a channel keeps: sidings, neighbour refreshes, the ganger's turns, the spacing of retests (R202, R240, R335, R337). -/
def Chan.ticked (x : Chan) : Chan := { x with
  q := x.q.map fun e => { e with side := e.side.map fun z => { z with ticks := z.ticks + 1 } }
  rtGap := x.rtGap - 1
  gTicks := min 65535 (x.gTicks + 1)
  ref := { x.ref with nrefs := x.ref.nrefs.map fun n => { n with ticks := n.ticks + 1 } } }

/-- The tick counts a track keeps: of a stall, the error window, the retry period, the census round (R90, R112, R128, R169). -/
def Trk.ticked (x : Trk) : Trk := { x with
  rx := { x.rx with ticks := if x.rx.mode = .stalled then x.rx.ticks + 1 else x.rx.ticks }
  errTicks := x.errTicks + 1
  trn := { x.trn with ticks := x.trn.ticks + 1 }
  cen := { x.cen with ticks := if x.cen.cut.isSome then x.cen.ticks + 1 else x.cen.ticks } }

/-- The tick counts of every track that is not disabled. -/
def State.tickTrks (s : State) : State :=
  s.upTo 32 fun t s => if s.linkIs t .disabled then s else s.modTrk t Trk.ticked

/-- The counts of the signal box: hold-offs, the BRS window, a pending CRS (R405, R407, R409). -/
def Box.ticked (b : Box) : Box := { b with
  hold := b.hold.map fun h => { h with left := h.left - 1 }
  brs := if b.brsTicks = 0 then [] else b.brs
  brsTicks := b.brsTicks + 1
  crs := b.crs.map fun p => { p with ticks := p.ticks + 1 } }

/-- The windows of the vertical interface: collisions of a quadrant, gears of a trained bundle (R266, R273). -/
def Vert.ticked (v : Vert) : Vert := { v with
  coll := (List.range 4).foldl (fun m q => Store.set m q 0 (Store.get m q 0 + 1)) v.coll
  bund := v.bund.map fun e => (e.1, if e.2.up then { e.2 with win := e.2.win + 1 } else e.2) }

/-- Intervals in the core domain. -/
def State.coreIntervals (s : State) : State :=
  let s := (s.mapChans Chan.ticked).tickTrks
  let s := { s with vert := s.vert.ticked }
  let s := { s with cenTicks := s.cenTicks + 1 }
  let s := { s with bwr := { s.bwr with acct := false, due := s.deliverable } }
  if s.inState .run then { s with park := { s.park with idle := s.park.idle + 1 } } else s

/-- A test that meets its limits no longer (R375, R376, R387). -/
def State.testLimits (s : State) (clockOk vddcOk : Bool) : State :=
  if clockOk ∧ vddcOk then s else
  let cause := if ¬ clockOk then 1 else 2
  if s.bst.kind ≠ 0 then s.abortTest cause
  else match s.bst.ch with
  | some t => if t.ending then s else s.abortChTest cause
  | none => s

/-- What the first tick after a reset reports of the last hold-up save (R437). -/
def State.tellHold (s : State) : State :=
  if s.start.told ∨ ¬ s.nvm.loaded then s else
  let s := { s with start := { s.start with told := true } }
  if s.fld Fld.PWR_HOLD_LAST ≥ 2 ∨ s.flag Fld.PWR_HOLD_TRUNC then
    s.raise .pwrHoldLost 0 (thmInfo 0 (s.fld Fld.PWR_HOLD_CAUSE) 0)
  else s

/-- Intervals in the service island: the signal box, the seal's age, PARK entry, the flash (R382, R411, R458). -/
def State.serviceIntervals (s : State) (clockOk vddcOk : Bool) : State :=
  let ticks := if s.park.step = .none then s.park.ticks else s.park.ticks + 1
  let s := { s with
    ticks := s.ticks + 1
    box := s.box.ticked
    thm := { s.thm with done := false }
    park := { s.park with ticks := ticks } }
  let s := if s.bst.valid ∧ s.bst.cur.state = 2 then s.bump Fld.BST_SEAL_AGE_AGE else s
  ((s.testLimits clockOk vddcOk).tellHold).nvmKick

/-- FRAME_TICK: the actions of R61, from B0 on and outside HOLD; in PARK the service island's alone (R48). The operands say whether the limits of R375 hold. -/
def execFrameTick (clockOk vddcOk : Bool) (s : State) : Out :=
  .next <| if ¬ s.start.b0 ∨ s.hold.isSome ∨ s.resetting then s else
    let core := s.coreRuns
    let cut := s.cutRefresh
    let s := (s.when core State.countOverruns).snapshot.nextFrame
    let s := (s.when core fun s => s.cutSlots cut).applyStaged
    let s := (s.when core State.applyCore)
    let s := s.setTherm s.thermWanted
    let s := s.when core State.refillAll
    let s := s.chans.foldl (fun s e => s.accrue e.1) s
    (s.when core State.coreIntervals).serviceIntervals clockOk vddcOk

end Sys2Proof.Machine
end

