-- ==== Sys2Proof/Machine/Dispatch.lean ====
section
/-! DEFINITION. One arm a command: the meaning each constructor of Instr has. -/
namespace Sys2Proof.Machine

/-- The effect of a command on everything but the queue. -/
def exec (i : Instr) (s : State) : Host.Outcome State Fault Refusal :=
  match i with
  | .pwrGoodRise => Sys2Proof.Machine.execPwrGoodRise s
  | .supplySag rail sample => Sys2Proof.Machine.execSupplySag rail sample s
  | .refclkLoss => Sys2Proof.Machine.execRefclkLoss s
  | .holdSavePageDone => Sys2Proof.Machine.execHoldSavePageDone s
  | .holdSavePageTimeout => Sys2Proof.Machine.execHoldSavePageTimeout s
  | .holdExitPor => Sys2Proof.Machine.execHoldExitPor s
  | .supplyRemoved => Sys2Proof.Machine.execSupplyRemoved s
  | .resetNFall => Sys2Proof.Machine.execResetNFall s
  | .resetNRise => Sys2Proof.Machine.execResetNRise s
  | .chipResetHoldEnd => Sys2Proof.Machine.execChipResetHoldEnd s
  | .stageB0Service => Sys2Proof.Machine.execStageB0Service s
  | .stageB1Image x => Sys2Proof.Machine.execStageB1Image x s
  | .stageB2Stack => Sys2Proof.Machine.execStageB2Stack s
  | .stageB3Test clockOk vddcOk => Sys2Proof.Machine.execStageB3Test clockOk vddcOk s
  | .startupTestRetry clockOk vddcOk => Sys2Proof.Machine.execStartupTestRetry clockOk vddcOk s
  | .stageB4Configuration => Sys2Proof.Machine.execStageB4Configuration s
  | .stageB6Channels => Sys2Proof.Machine.execStageB6Channels s
  | .stageB7Widening => Sys2Proof.Machine.execStageB7Widening s
  | .widenEffectiveTick => Sys2Proof.Machine.execWidenEffectiveTick s
  | .holdSlotCopy => Sys2Proof.Machine.execHoldSlotCopy s
  | .frameTick clockOk vddcOk => Sys2Proof.Machine.execFrameTick clockOk vddcOk s
  | .eventJobOverrun c fill => Sys2Proof.Machine.execEventJobOverrun c fill s
  | .accountSlot => Sys2Proof.Machine.execAccountSlot s
  | .deficitWindowEnd => Sys2Proof.Machine.execDeficitWindowEnd s
  | .telemetrySlot x => Sys2Proof.Machine.execTelemetrySlot x s
  | .refreshSlot c => Sys2Proof.Machine.execRefreshSlot c s
  | .scrubSlot c => Sys2Proof.Machine.execScrubSlot c s
  | .nrefForceDue c k => Sys2Proof.Machine.execNrefForceDue c k s
  | .retestStart c => Sys2Proof.Machine.execRetestStart c s
  | .rxRow t row => Sys2Proof.Machine.execRxRow t row s
  | .calWindowEnd t p n => Sys2Proof.Machine.execCalWindowEnd t p n s
  | .spareErrWindowEnd t => Sys2Proof.Machine.execSpareErrWindowEnd t s
  | .laneMgmtReqRx t m => Sys2Proof.Machine.execLaneMgmtReqRx t m s
  | .laneMgmtAckRx t m => Sys2Proof.Machine.execLaneMgmtAckRx t m s
  | .laneMgmtRejRx t m => Sys2Proof.Machine.execLaneMgmtRejRx t m s
  | .laneSpareReqTimeout t => Sys2Proof.Machine.execLaneSpareReqTimeout t s
  | .laneSpareSwitch t tx => Sys2Proof.Machine.execLaneSpareSwitch t tx s
  | .laneRetire t tx => Sys2Proof.Machine.execLaneRetire t tx s
  | .txL1Entry t => Sys2Proof.Machine.execTxL1Entry t s
  | .txL1Exit t => Sys2Proof.Machine.execTxL1Exit t s
  | .wakeDetect t => Sys2Proof.Machine.execWakeDetect t s
  | .stallBegin t => Sys2Proof.Machine.execStallBegin t s
  | .stallEnd t wake => Sys2Proof.Machine.execStallEnd t wake s
  | .partialHoldExpiry t => Sys2Proof.Machine.execPartialHoldExpiry t s
  | .ackTimeout t => Sys2Proof.Machine.execAckTimeout t s
  | .returnPendingTimeout t => Sys2Proof.Machine.execReturnPendingTimeout t s
  | .packetTransmit t => Sys2Proof.Machine.execPacketTransmit t s
  | .rd t p => Sys2Proof.Machine.execRd t p s
  | .wr t p => Sys2Proof.Machine.execWr t p s
  | .wrm t p => Sys2Proof.Machine.execWrm t p s
  | .fen t p => Sys2Proof.Machine.execFen t p s
  | .rrd t p => Sys2Proof.Machine.execRrd t p s
  | .nul t p => Sys2Proof.Machine.execNul t p s
  | .ts1Rx t x lanes skew => Sys2Proof.Machine.execTs1Rx t x lanes skew s
  | .ts2Rx t x lanes skew => Sys2Proof.Machine.execTs2Rx t x lanes skew s
  | .capRx t x => Sys2Proof.Machine.execCapRx t x s
  | .smapRx t x => Sys2Proof.Machine.execSmapRx t x s
  | .grantRx t x => Sys2Proof.Machine.execGrantRx t x s
  | .rdyRx t => Sys2Proof.Machine.execRdyRx t s
  | .cenRx t x => Sys2Proof.Machine.execCenRx t x s
  | .fovRx u x => Sys2Proof.Machine.execFovRx u x s
  | .resetSetRx t content slots => Sys2Proof.Machine.execResetSetRx t content slots s
  | .trainPhaseTimeout t => Sys2Proof.Machine.execTrainPhaseTimeout t s
  | .trainRetryPeriod t => Sys2Proof.Machine.execTrainRetryPeriod t s
  | .censusInterval => Sys2Proof.Machine.execCensusInterval s
  | .censusRepeat t => Sys2Proof.Machine.execCensusRepeat t s
  | .censusReplyTimeout t => Sys2Proof.Machine.execCensusReplyTimeout t s
  | .turntableCycle => Sys2Proof.Machine.execTurntableCycle s
  | .fenceRelease t master => Sys2Proof.Machine.execFenceRelease t master s
  | .schedIssue c u => Sys2Proof.Machine.execSchedIssue c u s
  | .trainWaitExpiry c => Sys2Proof.Machine.execTrainWaitExpiry c s
  | .pageIdleExpiry c b => Sys2Proof.Machine.execPageIdleExpiry c b s
  | .sidingLimitExpiry c k => Sys2Proof.Machine.execSidingLimitExpiry c k s
  | .chnDrained c => Sys2Proof.Machine.execChnDrained c s
  | .chnBlockResetDone c => Sys2Proof.Machine.execChnBlockResetDone c s
  | .takeoverComplete c => Sys2Proof.Machine.execTakeoverComplete c s
  | .readTrainDelivered c x => Sys2Proof.Machine.execReadTrainDelivered c x s
  | .decodeComplete d r iters => Sys2Proof.Machine.execDecodeComplete d r iters s
  | .decoderSelfCheck d good => Sys2Proof.Machine.execDecoderSelfCheck d good s
  | .readTrainTimeout c tid => Sys2Proof.Machine.execReadTrainTimeout c tid s
  | .wackRx c bank tid => Sys2Proof.Machine.execWackRx c bank tid s
  | .wnakRx c bank tid reason => Sys2Proof.Machine.execWnakRx c bank tid reason s
  | .wackTimeout c tid => Sys2Proof.Machine.execWackTimeout c tid s
  | .cfghRx b layer addr count err => Sys2Proof.Machine.execCfghRx b layer addr count err s
  | .cfgdRx b v => Sys2Proof.Machine.execCfgdRx b v s
  | .cdoneRx b layer op fail detail => Sys2Proof.Machine.execCdoneRx b layer op fail detail s
  | .cerrRx b layer op notDecoded => Sys2Proof.Machine.execCerrRx b layer op notDecoded s
  | .alrmRx b layer num cause detail => Sys2Proof.Machine.execAlrmRx b layer num cause detail s
  | .gearWindowEnd q far => Sys2Proof.Machine.execGearWindowEnd q far s
  | .gearSwitchAckDeadline b col => Sys2Proof.Machine.execGearSwitchAckDeadline b col s
  | .gearSwitchEffective b col => Sys2Proof.Machine.execGearSwitchEffective b col s
  | .vtrainPhaseComplete x => Sys2Proof.Machine.execVtrainPhaseComplete x s
  | .relayLossDeclared h rbeat => Sys2Proof.Machine.execRelayLossDeclared h rbeat s
  | .relayFlagRestored h spineLost => Sys2Proof.Machine.execRelayFlagRestored h spineLost s
  | .vlPllUnlock q => Sys2Proof.Machine.execVlPllUnlock q s
  | .srxWaitEnd c lats => Sys2Proof.Machine.execSrxWaitEnd c lats s
  | .selfRefreshEntry c confirmed => Sys2Proof.Machine.execSelfRefreshEntry c confirmed s
  | .migrationStart c => Sys2Proof.Machine.execMigrationStart c s
  | .hrepIssue l => Sys2Proof.Machine.execHrepIssue l s
  | .hrepTimeout l => Sys2Proof.Machine.execHrepTimeout l s
  | .vmapRowReplace word uc => Sys2Proof.Machine.execVmapRowReplace word uc s
  | .vmapSweepDone => Sys2Proof.Machine.execVmapSweepDone s
  | .repCommitDelayExpiry => Sys2Proof.Machine.execRepCommitDelayExpiry s
  | .bstPartComplete x => Sys2Proof.Machine.execBstPartComplete x s
  | .sealAgeMark => Sys2Proof.Machine.execSealAgeMark s
  | .bulHoldoffEnd => Sys2Proof.Machine.execBulHoldoffEnd s
  | .brsWindowEnd => Sys2Proof.Machine.execBrsWindowEnd s
  | .crsDue => Sys2Proof.Machine.execCrsDue s
  | .errNHoldExpiry => Sys2Proof.Machine.execErrNHoldExpiry s
  | .avsLoopPeriod slack => Sys2Proof.Machine.execAvsLoopPeriod slack s
  | .avsOpComplete good v => Sys2Proof.Machine.execAvsOpComplete good v s
  | .avsRetryTimer => Sys2Proof.Machine.execAvsRetryTimer s
  | .avsCurrentRead => Sys2Proof.Machine.execAvsCurrentRead s
  | .napIdleExpiry => Sys2Proof.Machine.execNapIdleExpiry s
  | .parkDrainComplete clockOk vddcOk => Sys2Proof.Machine.execParkDrainComplete clockOk vddcOk s
  | .parkDrainLimit => Sys2Proof.Machine.execParkDrainLimit s
  | .parkExit => Sys2Proof.Machine.execParkExit s
  | .nvmStepComplete x => Sys2Proof.Machine.execNvmStepComplete x s
  | .wearCreditAccrual => Sys2Proof.Machine.execWearCreditAccrual s
  | .calPeriodExpiry => Sys2Proof.Machine.execCalPeriodExpiry s
  | .voteSweep x => Sys2Proof.Machine.execVoteSweep x s
  | .regWrite src size addr v => Sys2Proof.Machine.execRegWrite src size addr v s
  | .ttFrameLoad src w => Sys2Proof.Machine.execTtFrameLoad src w s
  | .ttStageHold src w => Sys2Proof.Machine.execTtStageHold src w s
  | .laneSpareGo src t w => Sys2Proof.Machine.execLaneSpareGo src t w s
  | .laneCntClr src t w => Sys2Proof.Machine.execLaneCntClr src t w s
  | .spareStateWrite src t tx w => Sys2Proof.Machine.execSpareStateWrite src t tx w s
  | .prbsCtlWrite src t p w => Sys2Proof.Machine.execPrbsCtlWrite src t p w s
  | .injGo src t p w => Sys2Proof.Machine.execInjGo src t p w s
  | .trainRetrain src t w => Sys2Proof.Machine.execTrainRetrain src t w s
  | .fovGo src t w => Sys2Proof.Machine.execFovGo src t w s
  | .chnEnWrite src c w => Sys2Proof.Machine.execChnEnWrite src c w s
  | .chnBlkRst src c w => Sys2Proof.Machine.execChnBlkRst src c w s
  | .chnSwap src c w => Sys2Proof.Machine.execChnSwap src c w s
  | .bwrGuaranteeWrite src r w => Sys2Proof.Machine.execBwrGuaranteeWrite src r w s
  | .vlqRetuneGo src q w => Sys2Proof.Machine.execVlqRetuneGo src q w s
  | .vlqRetrain src q w => Sys2Proof.Machine.execVlqRetrain src q w s
  | .colSpareGo src l w => Sys2Proof.Machine.execColSpareGo src l w s
  | .relayRst src l w => Sys2Proof.Machine.execRelayRst src l w s
  | .crst src l w => Sys2Proof.Machine.execCrst src l w s
  | .vmapClear src w => Sys2Proof.Machine.execVmapClear src w s
  | .flipArm src c w => Sys2Proof.Machine.execFlipArm src c w s
  | .repCommit src w => Sys2Proof.Machine.execRepCommit src w s
  | .fuseGo src w => Sys2Proof.Machine.execFuseGo src w s
  | .pendingClr src w => Sys2Proof.Machine.execPendingClr src w s
  | .chtestGo src w => Sys2Proof.Machine.execChtestGo src w s
  | .bstAbort src w => Sys2Proof.Machine.execBstAbort src w s
  | .sealVoid src w => Sys2Proof.Machine.execSealVoid src w s
  | .reactWrite src k w => Sys2Proof.Machine.execReactWrite src k w s
  | .targetRun src w => Sys2Proof.Machine.execTargetRun src w s
  | .targetNap src w => Sys2Proof.Machine.execTargetNap src w s
  | .targetPark src w => Sys2Proof.Machine.execTargetPark src w s
  | .widenGo src w => Sys2Proof.Machine.execWidenGo src w s
  | .glbResetChip src w => Sys2Proof.Machine.execGlbResetChip src w s
  | .glbBlockRstGo src w => Sys2Proof.Machine.execGlbBlockRstGo src w s
  | .calCommit src w => Sys2Proof.Machine.execCalCommit src w s
  | .winRdGo src w => Sys2Proof.Machine.execWinRdGo src w s
  | .winProgGo src w => Sys2Proof.Machine.execWinProgGo src w s
  | .winEraseGo src w => Sys2Proof.Machine.execWinEraseGo src w s
  | .snapGo src w => Sys2Proof.Machine.execSnapGo src w s
  | .rwlLock src w => Sys2Proof.Machine.execRwlLock src w s
  | .wsBypass wsi => Sys2Proof.Machine.execWsBypass wsi s
  | .wsExtest wsi bumps => Sys2Proof.Machine.execWsExtest wsi bumps s
  | .wsPreload wsi bumps => Sys2Proof.Machine.execWsPreload wsi bumps s
  | .dieId => Sys2Proof.Machine.execDieId s
  | .regAccRead addr => Sys2Proof.Machine.execRegAccRead addr s
  | .regAccWrite addr data => Sys2Proof.Machine.execRegAccWrite addr data s
  | .wrstnReset => Sys2Proof.Machine.execWrstnReset s
  | .holdSaveNvmReady => Sys2Proof.Machine.execHoldSaveNvmReady s
  | .configResponseMissed b => Sys2Proof.Machine.execConfigResponseMissed b s
  | .collisionWindowEnd q => Sys2Proof.Machine.execCollisionWindowEnd q s

end Sys2Proof.Machine
end

