-- ==== Sys2Proof/Safety.lean ====
section
/-! DEFINITION. What counts as a safe run, in the terms the statements use: a step answers a next state, and what the block holds keeps its form. -/
namespace Sys2Proof.Machine

/-- An outcome that is a next state. -/
def completes (o : Out) : Prop := ∃ t, o = .next t

/-- The valid map in canonical form: addresses strictly rising and no byte that an unlisted address reads as, zero (R330). -/
abbrev Memory.wf (m : List Host.Cell) : Prop := Store.wf m = true ∧ ∀ e ∈ m, e.2 ≠ 0

/-- The invariant of the block: every table it holds is in canonical form, so that equal contents are equal data, and the two bulletin queues stay within their depths, 24 and 8 (R407, R408). -/
structure State.Inv (s : State) : Prop where
  regs : Store.wf s.regs = true
  trks : Store.wf s.trks = true
  chans : Store.wf s.chans = true
  bund : Store.wf s.vert.bund = true
  layers : Store.wf s.thm.layers = true
  snap : Store.wf s.fab.snp = true
  vmap : Memory.wf s.vmap.mem
  bul : s.box.bul.length ≤ 24
  urg : s.box.urg.length ≤ 8

/-- Nothing but time is at work: no staged value, no channel, track, bundle or decoder busy, no test, and no flash operation or journal entry waiting. -/
structure State.still (s : State) : Prop where
  staged : s.fab.staged = []
  ready : s.fab.ready = []
  later : s.fab.later = []
  trks : s.trks = []
  chans : s.chans = []
  bund : s.vert.bund = []
  codec : s.codec = {}
  test : s.bst.kind = 0
  chTest : s.bst.ch = none
  told : s.start.told = true
  ops : s.nvm.ops = []
  jrn : s.nvm.jrn = []

/-! ### Register writes that reach their register -/

/-- The state in which the register fabric performs a write: over the link the RWR has been accepted and its tablets are due for return; through the port the scan has begun, with the low half of a 64-bit register latched, and the latches are empty (R142, R391, R511). -/
def State.atFabric (s : State) (src : WSrc) (size a v : Nat) : State :=
  match src with
  | .link t m g =>
    let y := s.takeIn t (s.rwrPkt t m g size a v)
    y.1.returnFor t y.2 1 1
  | .port =>
    let s := if size = 8 then s.scanWrite a (v % 2 ^ 32) else s
    { s with
      wrap := { s.wrap with wir := .regAcc, bumps := none, cap := s.wrap.result.getD 0, edge := some s.cc }
      fab := s.fab.noRd.noWr }

/-- Whether the source's write is made now: over the link the RWR can be taken, is not malformed and no fence of its master holds it; through the port the fabric is up (R154, R158, R163, R391). -/
def State.arrives (s : State) (src : WSrc) (size a v : Nat) : Bool :=
  match src with
  | .link t m g =>
    let p := s.rwrPkt t m g size a v
    let y := s.takeIn t p
    s.canTake t p && (y.1.badReason t p y.2).isNone && !y.1.fenceBefore y.2
  | .port => s.fabricUp

/-- The register of the main blocks that starts at an address. -/
def regHit (a : Nat) : RegHit := { a := a, xs := fieldsAt a, w64 := wide (fieldsAt a) }

/-- Whether an access of a size at an address names one whole register of the main blocks (R495, R496). -/
def wholeReg (size a : Nat) : Bool :=
  a < 0x100000 && !(fieldsAt a).isEmpty &&
  (if wide (fieldsAt a) then size = 8 && a % 8 = 0 && (fieldsAt (a + 4)).isEmpty
   else size = 4 && a % 4 = 0 && !(a % 8 = 4 && wide (fieldsAt (a - 4))))

/-- Whether a write is performed: it arrives, names one whole register that answers now, and no rule refuses it (R499). -/
def State.accepts (s : State) (src : WSrc) (size a v : Nat) : Bool :=
  let u := s.atFabric src size a v
  s.arrives src size a v && wholeReg size a && s.answers a && u.answers a && (u.refusal (regHit a) v).isNone

end Sys2Proof.Machine

/-! ### Kinds of commands -/

/-- The commands that write a register of any block: their effect may reach the whole state. -/
def Sys2Proof.Instr.writesRegister (c : Sys2Proof.Instr) : Bool :=
  match c with
  | .regWrite .. | .regAccWrite .. | .ttFrameLoad .. | .ttStageHold .. | .laneSpareGo .. | .laneCntClr .. | .spareStateWrite .. | .prbsCtlWrite ..
  | .injGo .. | .trainRetrain .. | .fovGo .. | .chnEnWrite .. | .chnBlkRst .. | .chnSwap .. | .bwrGuaranteeWrite .. | .vlqRetuneGo ..
  | .vlqRetrain .. | .colSpareGo .. | .relayRst .. | .crst .. | .vmapClear .. | .flipArm .. | .repCommit .. | .fuseGo .. | .pendingClr ..
  | .chtestGo .. | .bstAbort .. | .sealVoid .. | .reactWrite .. | .targetRun .. | .targetNap .. | .targetPark .. | .widenGo .. | .glbResetChip ..
  | .glbBlockRstGo .. | .calCommit .. | .winRdGo .. | .winProgGo .. | .winEraseGo .. | .snapGo .. | .rwlLock .. => true
  | _ => false

/-- The commands that reset, restart or power the device, and the two that may perform a register request of a track (RRD, and the release of a fence that held some). -/
def Sys2Proof.Instr.restarts (c : Sys2Proof.Instr) : Bool :=
  match c with
  | .refclkLoss .. | .supplySag .. | .crsDue .. | .pwrGoodRise .. | .resetNFall .. | .resetNRise .. | .chipResetHoldEnd .. | .holdExitPor ..
  | .supplyRemoved .. | .rrd .. | .fenceRelease .. | .resetSetRx .. => true
  | _ => false
end

