-- ==== Sys2Proof/Certificates/Slice0/Obligations.lean ====
section
/-! DEFINITION. The statements about the model: what each command does, what it leaves, and what every step keeps. -/

open Sys2Proof Sys2Proof.Machine

/-- For every command c, every queue rest and every state s: the step of s with c at the front of its queue is exec c on s with the queue's rest. -/
def Obligations.StepRunsTheFrontCommand : Prop :=
  ∀ (c : Instr) (rest : List Instr) (s : State), step { s with pending := c :: rest } = exec c { s with pending := rest }

/-- On an empty queue the step answers the same state. That the block idles is the model's choice (log entry 1). -/
def Obligations.IdleStepChangesNothing : Prop :=
  ∀ s : State, s.pending = [] → step s = .next s

/-- Whatever the command at the front, the step answers a next state whose queue is the old queue without its front: no command is dropped, added or reordered by a meaning. -/
def Obligations.QueueIsFirstInFirstOut : Prop :=
  ∀ (c : Instr) (rest : List Instr) (s : State), s.pending = c :: rest → ∃ t, step s = .next t ∧ t.pending = rest

/-- From every state of which State.Inv holds, a step answers only states of which it holds: the register store, the tables of tracks, channels, bundles and layers, the snapshot and the valid map keep their canonical form, and the two bulletin queues stay within 24 and 8. -/
def Obligations.StepKeepsInvariant : Prop :=
  ∀ (s t : State), s.Inv → step s = .next t → t.Inv

/-- State.Inv holds of State.reset, and the queue of State.reset is empty. -/
def Obligations.ResetHasInvariant : Prop :=
  State.reset.Inv ∧ State.reset.pending = []

/-- In State.reset every field of every register reads the value of its Reset column; so FRAME is 0, GLB.STATE reads PHASE 0, READY 0 and STATE bring-up (4), no source is pending, no wagon is valid, no request is open and no track trains. The model's own choices that bear on it: log entries 15, 16. -/
def Obligations.ResetReadsResetValues : Prop :=
  (∀ (f : Field) (i j : Nat), State.reset.fld f i j = f.reset i j) ∧
  State.reset.fld Fld.TT_TIME_FRAME = 0 ∧ State.reset.fld Fld.GLB_STATE_PHASE = 0 ∧
  State.reset.flag Fld.GLB_STATE_READY = false ∧ State.reset.inState .bringup = true ∧
  (∀ k, State.reset.fld Fld.FLT_PEND_PEND 0 k = 0) ∧ (∀ w, State.reset.vbit w = false) ∧
  State.reset.tags = [] ∧ State.reset.hold = none ∧
  (∀ t, t < 32 → State.reset.linkIs t .training = false ∧ State.reset.linkIs t .ready = false)

/-- From OFF, PWR_GOOD_RISE gives a POR: every register at its reset value, no track, request, channel, valid bit, repair record, flash record or seal kept, the queue and RESET_N as they were, the wrapper as it was but for the last WRCK edge seen; a start that is not warm runs at once, or is held in reset while RESET_N is low. In HOLD only the pin changes. RESET_N_RISE begins the start that RESET_N holds, and CHIP_RESET_HOLD_END with RESET_N high the one that the 10 us hold; GLB.STATE.WARM then says whether it is warm, CRS_DONE is set after a CRS reaction, and no other register field changes; with RESET_N low the end of the 10 us leaves the start to RESET_N. The model's own choices that bear on it: log entries 15, 16. -/
def Obligations.PowerOnAndResetPinsStart : Prop :=
  (∀ s : State, s.hold = none → s.pins.pwrGood = false → ∃ t, exec .pwrGoodRise s = .next t ∧
    t.pins = { s.pins with pwrGood := true, refclk := true, thermLow := false } ∧ t.pending = s.pending ∧ t.wrap = { s.wrap with edge := none } ∧
    (∀ (f : Field) (i j : Nat), t.fld f i j = f.reset i j) ∧ t.trks = [] ∧ t.tags = [] ∧ t.chans = [] ∧ t.vmap = {} ∧ t.rep = {} ∧ t.nvm = {} ∧ t.bst = {} ∧
    t.start.warm = false ∧ t.start.running = s.pins.resetN ∧ t.start.held = (!s.pins.resetN) ∧ t.resetting = (!s.pins.resetN)) ∧
  (∀ s : State, s.hold.isSome = true → exec .pwrGoodRise s = .next { s with pins := { s.pins with pwrGood := true } }) ∧
  (∀ s : State, s.hold = none → s.pins.pwrGood = true → s.start.held = true → s.start.chip = false → ∃ t, exec .resetNRise s = .next t ∧
    t.pins = { s.pins with resetN := true } ∧ t.resetting = false ∧ t.start = { s.start with running := true, held := false, chip := false } ∧
    t.fld Fld.GLB_STATE_WARM = b2n s.start.warm ∧ ∀ (f : Field) (i j : Nat), f.key i j ≠ Fld.GLB_STATE_WARM.key 0 0 → t.fld f i j = s.fld f i j) ∧
  (∀ s : State, s.pins.resetN = true → s.start.chip = true → ∃ t, exec .chipResetHoldEnd s = .next t ∧ t.pins = s.pins ∧ t.resetting = false ∧
    t.start = { s.start with running := true, held := false, chip := false } ∧ t.fld Fld.GLB_STATE_WARM = b2n s.start.warm ∧
    t.fld Fld.FLT_STATUS_CRS_DONE = (if s.fld Fld.GLB_STATE_CAUSE = 5 then 1 else s.fld Fld.FLT_STATUS_CRS_DONE) ∧
    ∀ (f : Field) (i j : Nat), f.key i j ≠ Fld.GLB_STATE_WARM.key 0 0 → f.key i j ≠ Fld.FLT_STATUS_CRS_DONE.key 0 0 → t.fld f i j = s.fld f i j) ∧
  (∀ s : State, s.pins.resetN = false → s.start.chip = true → ∃ t, exec .chipResetHoldEnd s = .next t ∧ t.start = { s.start with chip := false } ∧
    t.resetting = s.resetting ∧ t.pins = s.pins)

/-- RESET_N_FALL with power, RESET_N high and outside HOLD: every register field of the map reads its reset value, or as before where PIN keeps it, but GLB.STATE.CAUSE, which reads 2; tracks, requests, channels, the vertical interface, the regulator's and PARK's records are empty; the valid map holds what it held with the bits of acknowledged fills; the working copy of repairs, its deltas, the seal and the journal's buffer stand, the flash operation in progress is cut, and the start that follows is held. In HOLD, and without power, only the pin changes; with RESET_N already low nothing does. SUPPLY_REMOVED leaves nothing but the queue, the pins and the count of free values: every register at its reset value, PWR_GOOD low, HOLD left. The model's own choices that bear on it: log entries 15, 73. -/
def Obligations.PinResetAndSupplyRemoval : Prop :=
  (∀ s : State, s.hold = none → s.pins.pwrGood = true → s.pins.resetN = true → ∃ t, exec .resetNFall s = .next t ∧
    t.pins = { s.pins with resetN := false, thermLow := false } ∧ t.resetting = true ∧ t.start.held = true ∧ t.start.running = false ∧ t.trks = [] ∧
    t.tags = [] ∧ t.chans = [] ∧ t.vert = {} ∧ t.bwr = {} ∧ t.park = {} ∧ t.vmap.mem = s.ackedFills.vmap.mem ∧ t.rep.copy = s.rep.copy ∧
    t.rep.deltas = s.rep.deltas ∧ t.bst.cur = s.bst.cur ∧ t.nvm = { s.nvm with cur := none, ops := [], deferred := [] } ∧
    t.wrap = { s.wrap with edge := none } ∧ t.pending = s.pending ∧ t.fld Fld.GLB_STATE_CAUSE = 2 ∧
    ∀ (f : Field) (i j : Nat) (x : FieldAt), fieldOfKey (f.key i j) = some x → f.key i j ≠ Fld.GLB_STATE_CAUSE.key 0 0 →
    t.fld f i j = if x.f.keeps .pin = true then s.fld f i j else f.reset i j) ∧
  (∀ s : State, s.hold.isSome = true ∨ s.pins.pwrGood = false → s.pins.resetN = true →
    exec .resetNFall s = .next { s with pins := { s.pins with resetN := false } }) ∧
  (∀ s : State, s.pins.resetN = false → exec .resetNFall s = .next s) ∧
  (∀ s : State, ∃ t, exec .supplyRemoved s = .next t ∧ t.pins = { s.pins with pwrGood := false, thermLow := false } ∧ t.hold = none ∧
    (∀ (f : Field) (i j : Nat), t.fld f i j = f.reset i j) ∧ t.wrap = {} ∧ t.trks = [] ∧ t.tags = [] ∧ t.chans = [] ∧ t.vmap = {} ∧ t.rep = {} ∧ t.nvm = {} ∧
    t.bst = {} ∧ t.pending = s.pending ∧ t.free = s.free)

/-- With power and outside HOLD, SUPPLY_SAG and REFCLK_LOSS enter HOLD: the rail code and sample are recorded (0xF and 0 for REFCLK); tracks, requests, channels, the vertical interface, the valid map, the working copy of repairs, PARK's record and the start in progress are lost, and every register field of a block whose domain goes off reads its reset value; the flash operation in progress and those waiting are abandoned; only the service domain stays on; the reset is asserted. The save waits for the NVM where a slot is designated and has ended where none is. PWR_GOOD reads low after a sag with rail code 0xF and as before after another; REFCLK reads absent after its loss. The model's own choices that bear on it: log entries 15, 72. -/
def Obligations.SagEntersHold : Prop :=
  (∀ (rail : BitVec 4) (sample : BitVec 14) (s : State), s.hold = none → s.pins.pwrGood = true → ∃ t h, exec (.supplySag rail sample) s = .next t ∧
    t.hold = some h ∧ h.rail = rail.toNat ∧ h.sample = sample.toNat ∧ h.page = none ∧ h.ended = h.slot.isNone ∧
    t.pins = { s.pins with pwrGood := rail != 0xF, thermLow := false } ∧ t.trks = [] ∧ t.tags = [] ∧ t.chans = [] ∧ t.vert = {} ∧ t.vmap = {} ∧ t.rep = {} ∧
    t.start = {} ∧ t.park = {} ∧ t.nvm.cur = none ∧ t.nvm.ops = [] ∧ t.resetting = true ∧ t.fld Fld.PWR_DOMAIN_ON_ON 0 0 = 1 ∧
    t.fld Fld.PWR_DOMAIN_ON_ON 0 1 = 0 ∧ t.fld Fld.PWR_DOMAIN_ON_ON 0 2 = 0 ∧ t.pending = s.pending ∧
    ∀ (f : Field) (i j : Nat), darkBlk (f.key i j / 64) = true → t.fld f i j = f.reset i j) ∧
  (∀ s : State, s.hold = none → s.pins.pwrGood = true → ∃ t h, exec .refclkLoss s = .next t ∧ t.hold = some h ∧ h.rail = 15 ∧ h.sample = 0 ∧ h.page = none ∧
    h.ended = h.slot.isNone ∧ t.pins = { s.pins with refclk := false, thermLow := false } ∧ t.trks = [] ∧ t.tags = [] ∧ t.chans = [] ∧ t.vert = {} ∧
    t.vmap = {} ∧ t.rep = {} ∧ t.start = {} ∧ t.park = {} ∧ t.nvm.cur = none ∧ t.nvm.ops = [] ∧ t.resetting = true ∧ t.fld Fld.PWR_DOMAIN_ON_ON 0 0 = 1 ∧
    t.fld Fld.PWR_DOMAIN_ON_ON 0 1 = 0 ∧ t.fld Fld.PWR_DOMAIN_ON_ON 0 2 = 0 ∧ t.pending = s.pending ∧
    ∀ (f : Field) (i j : Nat), darkBlk (f.key i j / 64) = true → t.fld f i j = f.reset i j)

/-- In HOLD with a designated slot, HOLD_SAVE_NVM_READY begins page 0; HOLD_SAVE_PAGE_DONE goes on to the next page and ends the save after page 15; HOLD_SAVE_PAGE_TIMEOUT ends it; nothing else of the state changes. Once the save has ended and PWR_GOOD is high, HOLD_EXIT_POR gives a POR: HOLD is left, every register reads its reset value, tracks, channels and the valid map are empty, and a start runs or waits for RESET_N; while the save runs or PWR_GOOD is low it does nothing. The model's own choices that bear on it: log entry 13. -/
def Obligations.HoldSaveRuns : Prop :=
  (∀ (s : State) (h : Hold) (k : Nat), s.hold = some h → h.slot = some k → h.page = none → h.ended = false →
    exec .holdSaveNvmReady s = .next { s with hold := some { h with page := some 0 } }) ∧
  (∀ (s : State) (h : Hold) (p : Nat), s.hold = some h → h.page = some p →
    exec .holdSavePageDone s = .next { s with hold := some (if p < 15 then { h with page := some (p + 1) } else { h with page := none, ended := true }) }) ∧
  (∀ (s : State) (h : Hold) (p : Nat), s.hold = some h → h.page = some p →
    exec .holdSavePageTimeout s = .next { s with hold := some { h with page := none, ended := true } }) ∧
  (∀ (s : State) (h : Hold), s.hold = some h → h.ended = true → s.pins.pwrGood = true → ∃ t, exec .holdExitPor s = .next t ∧ t.hold = none ∧
    t.pins.pwrGood = true ∧ t.pending = s.pending ∧ (∀ (f : Field) (i j : Nat), t.fld f i j = f.reset i j) ∧ t.trks = [] ∧ t.chans = [] ∧ t.vmap = {} ∧
    t.start.running = s.pins.resetN ∧ t.start.held = (!s.pins.resetN)) ∧
  (∀ (s : State) (h : Hold), s.hold = some h → h.ended = false ∨ s.pins.pwrGood = false → exec .holdExitPor s = .next s)

/-- At stage B0 with REFCLK good, STAGE_B0_SERVICE begins the core clock at cycle 0 and stage B1, and changes no other register field; without REFCLK it does nothing. At stage B1, STAGE_B1_IMAGE stops the start with GLB.STATE.PHASE 0xE where SFDP is not what the device needs, the image cannot be read, or a record is refused. Otherwise the stores have been read, SFDP_OK and IMAGE_OK read 1, the locks are those of the records applied, which are all but a BWR record that fails R219, and the start goes on to stage B2. The model's own choices that bear on it: log entries 13, 61. -/
def Obligations.StartStagesServiceAndImage : Prop :=
  (∀ s : State, s.atStage 0 = true → s.pins.refclk = true → ∃ t, exec .stageB0Service s = .next t ∧ t.cc = 0 ∧
    t.start = { s.start with b0 := true, begun := false } ∧ t.fld Fld.GLB_STATE_PHASE = 1 ∧
    ∀ (f : Field) (i j : Nat), f.key i j ≠ Fld.GLB_STATE_PHASE.key 0 0 → t.fld f i j = s.fld f i j) ∧
  (∀ s : State, s.atStage 0 = false ∨ s.pins.refclk = false → exec .stageB0Service s = .next s) ∧
  (∀ (x : FlashBoot) (s : State), s.atStage 1 = true → x.sfdpOk = false ∨ (∃ ty, x.image = .error ty) ∨ (∃ rs, x.image = .ok rs ∧
    (imageFault rs).1.isSome = true) → ∃ t, exec (.stageB1Image x) s = .next t ∧ t.fld Fld.GLB_STATE_PHASE = 0xE ∧ t.start.running = false) ∧
  (∀ (x : FlashBoot) (rs use : List Record) (b : Bool) (s : State), s.atStage 1 = true → x.sfdpOk = true → x.image = .ok rs → imageFault rs = (none, b) →
    (use = (inTypeOrder rs).filter fun r => !(b && r.ty = 4)) → ∃ t, exec (.stageB1Image x) s = .next t ∧ t.fld Fld.GLB_STATE_PHASE = 2 ∧
    t.start.begun = false ∧ t.nvm.loaded = true ∧ t.fld Fld.NVM_STATUS_SFDP_OK = 1 ∧ t.fld Fld.NVM_STATUS_IMAGE_OK = 1 ∧ t.fab.locks = lockKeys use)

/-- STAGE_B2_STACK first queues the vertical training of segments 1 to 4 on all 64 bundles, cold where no CAL copy was read; while a training of the start is left it does nothing; then B2 ends, and stage B4 follows a warm start, B3 or B4 a POR start. STAGE_B3_TEST begins the start-up test, whose OPEN seal waits or is being written where both limits hold; while the test runs or waits for its retry it does nothing; once it has ended, pilot tracks train and stage B4 follows. STAGE_B4_CONFIGURATION goes on to B6 with the configuration the previous start presented, where a warm start can present it, and with the one R362 chooses, the pending pairs retired, after a POR. The model's own choices that bear on it: log entry 61. -/
def Obligations.StartStagesStackTestConfiguration : Prop :=
  (∀ s : State, s.atStage 2 = true → s.start.begun = false → ∃ t, exec .stageB2Stack s = .next t ∧ t.start = { s.start with begun := true } ∧
    t.vert.trains = s.vert.trains ++ [{ seg := 0, last := 3, bundles := List.range 64, start := true, cold := s.nvm.cal.isEmpty }]) ∧
  (∀ s : State, s.atStage 2 = true → s.start.begun = true → ((s.vert.trains.any fun j => j.start) = true) → exec .stageB2Stack s = .next s) ∧
  (∀ s : State, s.atStage 2 = true → s.start.begun = true → ((s.vert.trains.any fun j => j.start) = false) → ∃ t, exec .stageB2Stack s = .next t ∧
    t.start.b2 = true ∧ t.start.begun = false ∧ (t.fld Fld.GLB_STATE_PHASE = 3 ∨ t.fld Fld.GLB_STATE_PHASE = 4) ∧
    (s.start.warm = true → t.fld Fld.GLB_STATE_PHASE = 4)) ∧
  (∀ s : State, s.atStage 3 = true → s.start.begun = false → ∃ t, exec (.stageB3Test true true) s = .next t ∧ t.start = { s.start with begun := true } ∧
    t.bst.kind = 2 ∧ t.nvmHas (.sealWr 1) = true) ∧
  (∀ (clockOk vddcOk : Bool) (s : State), s.atStage 3 = true → s.start.begun = true → s.bst.kind ≠ 0 ∨ s.bst.waiting = true →
    exec (.stageB3Test clockOk vddcOk) s = .next s) ∧
  (∀ (clockOk vddcOk : Bool) (s : State), s.atStage 3 = true → s.start.begun = true → s.bst.kind = 0 → s.bst.waiting = false →
    ∃ t, exec (.stageB3Test clockOk vddcOk) s = .next t ∧ t.fld Fld.GLB_STATE_PHASE = 4 ∧ t.start.b5 = true ∧ t.start.begun = false) ∧
  (∀ s : State, s.atStage 4 = true → s.start.warm = false → ∃ t, exec .stageB4Configuration s = .next t ∧ t.fld Fld.GLB_STATE_PHASE = 6 ∧
    t.start.begun = false ∧ t.start.conf = s.retirePending.choose) ∧
  (∀ (m : Member) (s : State), s.atStage 4 = true → s.start.warm = true → s.start.prev = some m → (∀ l ∈ m.used, s.reached l = true ∧
    ∀ i < 4, s.failedChan (4 * (l - 1) + i) = false) → ∃ t, exec .stageB4Configuration s = .next t ∧ t.fld Fld.GLB_STATE_PHASE = 6 ∧ t.start.begun = false ∧
    t.start.conf = m)

/-- STAGE_B6_CHANNELS begins the exit of every used channel, and once each has left self-refresh goes on to stage B7; until then it does nothing. STAGE_B7_WIDENING, with a READY track and widening permitted, announces an effective frame 65 frames ahead, which keeps the 64 frames of R116 for content sent up to the next tick (the model's choice within R449, log entry 132). At a tick at or past that frame, WIDEN_EFFECTIVE_TICK announces again, 64 frames later, while a READY track has not answered; once all have, the start is complete: READY 1, state RUN, PHASE 8, the chosen configuration presented, BOOT_TIME the effective frame (the last clause is for a start whose pilot tracks are all its enabled tracks and that retired nothing). Before its frame WIDEN_EFFECTIVE_TICK does nothing. The model's own choices that bear on it: log entries 13, 61, 80, 132. -/
def Obligations.StartStagesChannelsAndWidening : Prop :=
  (∀ s : State, s.atStage 6 = true → s.start.begun = false → ∃ t, exec .stageB6Channels s = .next t ∧ t.start = { s.start with begun := true }) ∧
  (∀ s : State, s.atStage 6 = true → s.start.begun = true → (∀ c ∈ s.startChans, (s.chan c).exited = true) → ∃ t, exec .stageB6Channels s = .next t ∧
    t.start = { s.start with b6 := true, begun := false } ∧ t.fld Fld.GLB_STATE_PHASE = 7 ∧
    ∀ (f : Field) (i j : Nat), f.key i j ≠ Fld.GLB_STATE_PHASE.key 0 0 → t.fld f i j = s.fld f i j) ∧
  (∀ (c : Nat) (s : State), s.atStage 6 = true → s.start.begun = true → c ∈ s.startChans → (s.chan c).exited = false → exec .stageB6Channels s = .next s) ∧
  (∀ s : State, s.atStage 7 = true → s.start.eff = none → s.readyTracks ≠ [] → s.flag Fld.GLB_PWR_CFG_WIDEN_AUTO = true ∨ s.start.go = true →
    ∃ t, exec .stageB7Widening s = .next t ∧ t.start = { s.start with eff := some ((s.fld Fld.TT_TIME_FRAME + 65) % 2 ^ 48) } ∧
    t.fld Fld.GLB_STATE_WIDEN_PENDING = 1 ∧ t.fld Fld.GLB_PWR_STATUS_WIDEN_TRIES = min (s.fld Fld.GLB_PWR_STATUS_WIDEN_TRIES + 1) 255) ∧
  (∀ (s : State) (f : Nat), s.atStage 7 = true → s.start.eff = some f → f ≤ s.fld Fld.TT_TIME_FRAME →
    (∃ u ∈ s.readyTracks, (s.trk u).trn.capAnswered = false) → ∃ t, exec .widenEffectiveTick s = .next t ∧
    t.start = { s.start with eff := some ((f + 64) % 2 ^ 48) } ∧ t.fld Fld.GLB_STATE_WIDEN_PENDING = 1) ∧
  (∀ (s : State) (f : Nat), s.atStage 7 = true → s.start.eff = some f → f ≤ s.fld Fld.TT_TIME_FRAME →
    (∀ u ∈ s.readyTracks, (s.trk u).trn.capAnswered = true) → s.start.retired = false → (∀ u ∈ s.enabledTracks, u ∈ s.start.tracksGo) →
    ∃ t, exec .widenEffectiveTick s = .next t ∧ t.start = { s.start with running := false, eff := none, go := false } ∧ t.flag Fld.GLB_STATE_READY = true ∧
    t.inState .run = true ∧ t.fld Fld.GLB_STATE_PHASE = 8 ∧ t.fld Fld.GLB_STATE_WIDEN_PENDING = 0 ∧
    t.fld Fld.GLB_BOOT_TIME_FRAMES = f % 2 ^ Fld.GLB_BOOT_TIME_FRAMES.width ∧
    t.fld Fld.GLB_ADDR_MAP_CHAN_COUNT = 4 * s.start.conf.n % 2 ^ Fld.GLB_ADDR_MAP_CHAN_COUNT.width ∧
    t.fld Fld.GLB_INSTALLED_WAGONS = s.start.conf.wagons % 2 ^ Fld.GLB_INSTALLED_WAGONS.width) ∧
  (∀ (s : State) (f : Nat), s.start.eff = some f → s.fld Fld.TT_TIME_FRAME < f → exec .widenEffectiveTick s = .next s)

/-- NAP_IDLE_EXPIRY at a tick enters NAP from RUN once no request has come for NAP_IDLE frames with TARGET NAP and empty queues; with a queue not empty, or TARGET not NAP, it does nothing. PARK_DRAIN_COMPLETE ends the drain once everything is drained, and not before; then, with no shutdown test, self-refresh follows; once every used channel is asleep the commits begin and staged values are dropped; once nothing is being committed and no link training holds it, PARK is entered, with the tracks that were READY noted. PARK_DRAIN_LIMIT ends the drain after PARK_DRAIN frames and sets DRAIN_ABORT. WAKE_DETECT in PARK on a track that was READY at entry begins to leave it and queues vertical training. PARK_EXIT, once every used channel has left self-refresh, is back in RUN with TARGET 0 and PHASE 8. The model's own choices that bear on it: log entries 13, 61, 89, 90, 106. -/
def Obligations.PowerStateCommands : Prop :=
  (∀ s : State, s.inState .run = true → s.fld Fld.TT_TIME_CYCLE = 0 → s.fld Fld.GLB_PWR_REQ_TARGET = 1 → s.fld Fld.GLB_PWR_CFG_NAP_IDLE ≤ s.park.idle →
    (∀ e ∈ s.chans, e.2.q = []) → exec .napIdleExpiry s = .next (s.setFld Fld.GLB_STATE_STATE 1)) ∧
  (∀ s : State, s.fld Fld.GLB_PWR_REQ_TARGET ≠ 1 ∨ s.park.idle < s.fld Fld.GLB_PWR_CFG_NAP_IDLE ∨ ∃ e ∈ s.chans, e.2.q ≠ [] →
    exec .napIdleExpiry s = .next s) ∧
  (∀ (a b : Bool) (s : State), s.park.step = .drain → s.drained = true →
    exec (.parkDrainComplete a b) s = .next { s with park := { s.park with step := .test } }) ∧
  (∀ (a b : Bool) (s : State), s.park.step = .drain → s.drained = false → exec (.parkDrainComplete a b) s = .next s) ∧
  (∀ (a b : Bool) (s : State), s.park.step = .test → s.flag Fld.BST_CTL_PARK_TEST = false → s.bst.kind = 0 →
    exec (.parkDrainComplete a b) s = .next { s with park := { s.park with step := .sleep } }) ∧
  (∀ (a b : Bool) (s : State), s.park.step = .sleep → s.asleep = true → ∃ t, exec (.parkDrainComplete a b) s = .next t ∧
    t.park = { s.park with step := .commit } ∧ t.fab.staged = [] ∧ t.fab.ready = [] ∧ t.fab.later = []) ∧
  (∀ (a b : Bool) (s : State), s.park.step = .commit → s.committing = false → s.linksHold = false → ∃ t, exec (.parkDrainComplete a b) s = .next t ∧
    t.inState .park = true ∧ t.park = { ready := s.readyTracks, since := s.fld Fld.TT_TIME_FRAME, awake := s.park.awake } ∧
    t.pins = { s.pins with thermLow := false }) ∧
  (∀ s : State, s.park.step = .drain → s.fld Fld.GLB_PWR_CFG_PARK_DRAIN ≤ s.park.ticks → ∃ t, exec .parkDrainLimit s = .next t ∧
    t.park = { s.park with step := .test } ∧ t.fld Fld.GLB_PWR_STATUS_DRAIN_ABORT = 1 ∧ t.pins = s.pins ∧ t.trks = s.trks ∧ t.start = s.start ∧
    (∀ c < 64, (s.chan c).q ≠ [] → (t.chan c).resetting = true)) ∧
  (∀ (u : TrackIx) (s : State), s.inState .park = true → u.val ∈ s.park.ready → ∃ t, exec (.wakeDetect u) s = .next t ∧ t.inState .leaving = true ∧
    t.park = { s.park with step := .none, woken := false } ∧ t.vert.trains = s.vert.trains ++ [{ seg := 0, last := 3, bundles := List.range 64 }]) ∧
  (∀ s : State, s.inState .leaving = true → s.vert.trains = [] → s.park.woken = true → (∀ c ∈ s.usedChans, s.flag Fld.CHN_REF_STATE_SR c = false) →
    ∃ t, exec .parkExit s = .next t ∧ t.inState .run = true ∧ t.fld Fld.GLB_PWR_REQ_TARGET = 0 ∧ t.fld Fld.GLB_STATE_PHASE = 8 ∧ t.park = {} ∧
    ∀ (f : Field) (i j : Nat), f.key i j ≠ Fld.GLB_STATE_STATE.key 0 0 → f.key i j ≠ Fld.GLB_PWR_REQ_TARGET.key 0 0 →
    f.key i j ≠ Fld.GLB_STATE_PHASE.key 0 0 → t.fld f i j = s.fld f i j)

/-- BST_PART_COMPLETE ends the part that BST.STATUS.PHASE names and the next begins: part 1 changes nothing but PHASE and waits for the sweep of a CLEAR; the loop test adds 4 steps a layer and the march begins; the march ends once every tested bank has ended and not before; part 4 once every tested channel is in self-refresh or has failed to enter it; the logic BIST leads on to the commit of what the test recorded, and with nothing left to commit the CLOSED seal is written. STARTUP_TEST_RETRY begins the test again where the retry waits. Outside a test, VTRAIN_PHASE_COMPLETE of phase V1 with the spine sound and nothing to move begins V2 on the same segment, and of V3 or V4 with no column reported begins the next phase; the last phase with another relayed segment to go begins that segment. The model's own choices that bear on it: log entries 61, 133. -/
def Obligations.SelfTestParts : Prop :=
  (∀ (x : PartEnd) (s : State), s.bst.kind ≠ 0 → s.bst.begun = true → s.fld Fld.BST_STATUS_PHASE = 1 → s.vmap.clear = false →
    exec (.bstPartComplete x) s = .next (s.setFld Fld.BST_STATUS_PHASE 2)) ∧
  (∀ (x : PartEnd) (s : State), s.bst.kind ≠ 0 → s.bst.begun = true → s.fld Fld.BST_STATUS_PHASE = 1 → s.vmap.clear = true →
    exec (.bstPartComplete x) s = .next s) ∧
  (∀ (x : PartEnd) (s : State), s.bst.kind ≠ 0 → s.bst.begun = true → s.fld Fld.BST_STATUS_PHASE = 2 → x.loop = [] → x.unreachable = false →
    ∃ t, exec (.bstPartComplete x) s = .next t ∧ t.fld Fld.BST_STATUS_PHASE = 3 ∧
    t.fld Fld.BST_STEPS_VALUE = (s.fld Fld.BST_STEPS_VALUE + 4 * s.bst.layers) % 2 ^ Fld.BST_STEPS_VALUE.width) ∧
  (∀ (x : PartEnd) (s : State), s.bst.kind ≠ 0 → s.bst.begun = true → s.fld Fld.BST_STATUS_PHASE = 3 → (∀ c ∈ s.testedChans, (s.chan c).march = []) →
    exec (.bstPartComplete x) s = .next (s.setFld Fld.BST_STATUS_PHASE 4)) ∧
  (∀ (x : PartEnd) (c : Nat) (s : State), s.bst.kind ≠ 0 → s.bst.begun = true → s.fld Fld.BST_STATUS_PHASE = 3 → c ∈ s.testedChans → (s.chan c).march ≠ [] →
    exec (.bstPartComplete x) s = .next s) ∧
  (∀ (x : PartEnd) (s : State), s.bst.kind ≠ 0 → s.bst.begun = true → s.fld Fld.BST_STATUS_PHASE = 4 →
    (∀ c ∈ s.testedChans, s.flag Fld.CHN_REF_STATE_SR c = true ∨ s.bst.awake.contains c = true) → ∃ t, exec (.bstPartComplete x) s = .next t ∧
    t.fld Fld.BST_STATUS_PHASE = 5 ∧ t.chans = s.chans ∧ t.bst = s.bst) ∧
  (∀ (x : PartEnd) (s : State), s.bst.kind ≠ 0 → s.bst.begun = true → s.fld Fld.BST_STATUS_PHASE = 5 → ∃ t, exec (.bstPartComplete x) s = .next t ∧
    t.fld Fld.BST_STATUS_PHASE = 6 ∧ t.vmap.mem = [] ∧ t.fld Fld.BST_STEPS_VALUE = (s.fld Fld.BST_STEPS_VALUE + 105) % 2 ^ Fld.BST_STEPS_VALUE.width) ∧
  (∀ (x : PartEnd) (s : State), s.bst.kind ≠ 0 → s.bst.begun = true → s.fld Fld.BST_STATUS_PHASE = 6 → s.nvmHas .rep = false → s.rep.deltas = [] →
    ∃ t, exec (.bstPartComplete x) s = .next t ∧ t.fld Fld.BST_STATUS_PHASE = 7 ∧ t.nvmHas (.sealWr 2) = true) ∧
  (∀ s : State, s.bst.waiting = true → ∃ t, exec (.startupTestRetry true true) s = .next t ∧ t.bst.retried = true ∧ t.bst.kind = 2 ∧ t.bst.waiting = false ∧
    t.nvmHas (.sealWr 1) = true) ∧
  (∀ (x : VPhase) (s : State) (j : VTrain) (rest : List VTrain), s.bst.kind = 0 → s.vert.trains = j :: rest → j.phase = 1 → x.spine = true → x.moves = [] →
    s.deadSites j.seg = [] → s.siteWord j.seg = 0x688 → ∃ t, exec (.vtrainPhaseComplete x) s = .next t ∧ t.vert.trains = { j with phase := 2 } :: rest) ∧
  (∀ (x : VPhase) (s : State) (j : VTrain) (rest : List VTrain), s.bst.kind = 0 → s.vert.trains = j :: rest → j.phase = 3 ∨ (j.phase = 4 ∧
    j.cold = false) → x.cols = [] →
    exec (.vtrainPhaseComplete x) s = .next { s with vert := { s.vert with trains := { j with phase := j.phase + 1 } :: rest } }) ∧
  (∀ (x : VPhase) (s : State) (j : VTrain) (rest : List VTrain), s.bst.kind = 0 → s.vert.trains = j :: rest → j.phase = 5 → x.lats = [] → j.seg < j.last →
    s.relays j.seg = true → exec (.vtrainPhaseComplete x) s = .next
    { s with vert := { s.vert with trains := { j with seg := j.seg + 1, phase := if j.known then 3 else 1 } :: rest } })

/-- Once DELAY x 2^20 ticks have passed since the first uncommitted delta, REP_COMMIT_DELAY_EXPIRY leaves a commit of REP waiting or in progress, and once CAL_PERIOD x 2^32 have, CAL_PERIOD_EXPIRY with CAL dirty one of CAL; before that they do nothing. Another 2^32 ticks of a CLOSED seal put its GEN and age as a kind 3 entry at the end of the journal buffer, here while the flash cannot begin. WEAR_CREDIT_ACCRUAL after 2^33 ticks gives every area its credit up to its cap, here where no operation waits, and before does nothing. NVM_STEP_COMPLETE of a good last step of a window program or erase clears WIN_BUSY, here where nothing else waits. HOLD_SLOT_COPY of a slot copied whole leaves its erase waiting or in progress. The model's own choices that bear on it: log entry 13. -/
def Obligations.JournalAndCommits : Prop :=
  (∀ (s : State) (d : Delta), s.rep.deltas.head? = some d → d.since + s.fld Fld.REP_COMMIT_CFG_DELAY * 2 ^ 20 ≤ s.ticks → s.rep.copy.length ≤ 65533 →
    ∃ t, exec .repCommitDelayExpiry s = .next t ∧ t.nvmHas .rep = true ∧ t.rep = s.rep) ∧
  (∀ (s : State) (d : Delta), s.rep.deltas.head? = some d → s.ticks < d.since + s.fld Fld.REP_COMMIT_CFG_DELAY * 2 ^ 20 →
    exec .repCommitDelayExpiry s = .next s) ∧
  (∀ s : State, s.nvm.calAt + s.fld Fld.NVM_CFG_CAL_PERIOD * 2 ^ 32 ≤ s.ticks → s.flag Fld.NVM_CAL_DIRTY = true → ∃ t, exec .calPeriodExpiry s = .next t ∧
    t.nvmHas .cal = true ∧ t.nvm.calAt = s.ticks ∧ t.rep = s.rep) ∧
  (∀ s : State, s.ticks < s.nvm.calAt + s.fld Fld.NVM_CFG_CAL_PERIOD * 2 ^ 32 → exec .calPeriodExpiry s = .next s) ∧
  (∀ s : State, s.bst.valid = true → s.bst.cur.state = 2 → s.nvm.ageAt + 2 ^ 32 ≤ s.ticks → s.nvm.jrn.length < 32 → s.nvmRuns = false →
    exec .sealAgeMark s = .next { s with nvm := { s.nvm with ageAt := s.ticks, jrn := s.nvm.jrn ++ [{ kind := 3, time := s.stamp, payload := s.bst.cur.gen + s.fld Fld.BST_SEAL_AGE_AGE * 2 ^ 64 }] } })
    ∧
  (∀ s : State, s.nvm.wearAt + 2 ^ 33 ≤ s.ticks → s.nvm.ops = [] → s.nvm.jrn = [] → ∃ t, exec .wearCreditAccrual s = .next t ∧
    t.nvm = { s.nvm with wearAt := s.nvm.wearAt + 2 ^ 33, deferred := [] } ∧ t.fld Fld.NVM_WEAR_CREDIT 0 0 = min 1024 (s.fld Fld.NVM_WEAR_CREDIT 0 0 + 16) ∧
    t.fld Fld.NVM_WEAR_CREDIT 0 5 = min 16384 (s.fld Fld.NVM_WEAR_CREDIT 0 5 + 256) ∧
    (∀ a, 1 ≤ a → a ≤ 4 → t.fld Fld.NVM_WEAR_CREDIT 0 a = min 64 (s.fld Fld.NVM_WEAR_CREDIT 0 a + 1)) ∧
    ∀ (f : Field) (i j : Nat), (∀ a < 6, f.key i j ≠ Fld.NVM_WEAR_CREDIT.key 0 a) → t.fld f i j = s.fld f i j) ∧
  (∀ s : State, s.ticks < s.nvm.wearAt + 2 ^ 33 → exec .wearCreditAccrual s = .next s) ∧
  (∀ (x : NvmDone) (s : State) (o : NvmOp), s.nvm.cur = some o → o.kind = .winProg ∨ o.kind = .winErase → x.good = true → o.step + 1 = o.steps →
    s.nvm.ops = [] → s.nvm.jrn = [] → ∃ t, exec (.nvmStepComplete x) s = .next t ∧ t.nvm = { s.nvm with cur := none } ∧ t.fld Fld.NVM_STATUS_WIN_BUSY = 0) ∧
  (∀ (x : NvmDone) (s : State), s.nvm.cur = none → exec (.nvmStepComplete x) s = .next s) ∧
  (∀ (s : State) (i : Nat) (rest : List Nat), s.flag Fld.GLB_STATE_READY = true → s.nvm.slots = i :: rest → s.nvmHas (.slot i) = false → s.nvm.copied = 256 →
    ∃ t, exec .holdSlotCopy s = .next t ∧ t.nvmHas (.slot i) = true ∧ t.nvm.slots = s.nvm.slots)

/-- BUL_HOLDOFF_END drops every hold-off that has run out where none of them holds a folded bulletin; where the one hold-off holds a folded bulletin and the queue has room, that bulletin is queued and its source is held off anew. BRS_WINDOW_END clears every BRS count once its 1,024 frames have passed, and not before. CRS_DUE, from the first tick after its urgent bulletins are sent, or after CRS_DELAY ticks, begins a CHIP reset with CAUSE 5, in which FRAME reads 0, tracks and channels are empty, and the repair copy, the seal and the acknowledged valid bits stand; before that, and with no CRS pending, it does nothing. ERR_N_HOLD_EXPIRY ends the 10 us minimum, and ERR_N is released where nothing wants it. The model's own choices that bear on it: log entry 13. -/
def Obligations.SignalBoxTimers : Prop :=
  (∀ s : State, (∀ h ∈ s.box.hold, h.left = 0 → h.next = none) →
    exec .bulHoldoffEnd s = .next { s with box := { s.box with hold := s.box.hold.filter fun h => h.left != 0 } }) ∧
  (∀ (s : State) (src : Src) (r : BulRec), s.box.hold = [{ src := src, left := 0, next := some r }] → s.box.bul.length < 24 →
    exec .bulHoldoffEnd s = .next
    { s with box := { s.box with bul := s.box.bul ++ [r], hold := [{ src := r.src, left := s.fld Fld.FLT_BUL_CFG_HOLDOFF }] } }) ∧
  (∀ s : State, 1024 < s.box.brsTicks → exec .brsWindowEnd s = .next { s with box := { s.box with brs := [], brsTicks := s.box.brsTicks - 1024 } }) ∧
  (∀ s : State, s.box.brsTicks ≤ 1024 → exec .brsWindowEnd s = .next s) ∧
  (∀ (s : State) (p : CrsPend), s.box.crs = some p → p.ticks ≠ 0 → s.resetting = false → s.crsUnsent = false ∨ s.fld Fld.FLT_CFG_CRS_DELAY ≤ p.ticks →
    ∃ t, exec .crsDue s = .next t ∧ t.resetting = true ∧ t.start.chip = true ∧ t.start.held = true ∧ t.fld Fld.GLB_STATE_CAUSE = 5 ∧
    t.fld Fld.TT_TIME_FRAME = 0 ∧ t.trks = [] ∧ t.chans = [] ∧ t.vmap.mem = s.ackedFills.vmap.mem ∧ t.rep.copy = s.rep.copy ∧ t.bst.cur = s.bst.cur) ∧
  (∀ (s : State) (p : CrsPend), s.box.crs = some p → p.ticks = 0 ∨ (s.crsUnsent = true ∧ p.ticks < s.fld Fld.FLT_CFG_CRS_DELAY) → exec .crsDue s = .next s) ∧
  (∀ s : State, s.box.crs = none → exec .crsDue s = .next s) ∧
  (∀ s : State, exec .errNHoldExpiry s = .next { s with box := { s.box with errMin := s.errWanted && !s.box.errLow, errLow := s.errWanted } })

/-- In a state in which no copies of a triplicated field are known to differ: VOTE_SWEEP that finds the field's three copies in agreement changes nothing; one that finds a single copy wrong leaves the field at the value two copies hold, adds one to the counter of corrected votes and raises REG_VOTE_CE with the register's address; one that finds three different copies contains the field as R508 says, sets VOTE_UC_SEEN, counts it and raises REG_VOTE_UC with the address. The model's own choices that bear on it: log entry 51. -/
def Obligations.VoteSweepRewritesTheMajority : Prop :=
  (∀ (v : TripleVote) (x : FieldAt) (s : State), s.fab.copies = [] → fieldOfKey (v.addr * 64 + v.lo) = some x → v.a = v.b → v.b = v.c →
    exec (.voteSweep [v]) s = .next s) ∧
  (∀ (v : TripleVote) (x : FieldAt) (m : Nat) (s : State), s.fab.copies = [] → fieldOfKey (v.addr * 64 + v.lo) = some x → x.f.trip = true → (v.a = m ∧
    v.b = m ∧ v.c ≠ m) ∨ (v.a = m ∧ v.c = m ∧ v.b ≠ m) ∨ (v.b = m ∧ v.c = m ∧
    v.a ≠ m) → exec (.voteSweep [v]) s = .next (((s.setFld x.f m x.i x.j).bump Fld.GLB_CNT_COUNT 0 4).raise .regVoteCe 0
    { detail := (v.addr * 64 + v.lo) / 64 })) ∧
  (∀ (v : TripleVote) (x : FieldAt) (s : State), s.fab.copies = [] → fieldOfKey (v.addr * 64 + v.lo) = some x → x.f.trip = true → v.a ≠ v.b → v.a ≠ v.c →
    v.b ≠ v.c → exec (.voteSweep [v]) s = .next ((((s.contain x).setFld Fld.GLB_REG_STATUS_VOTE_UC_SEEN 1).bump Fld.GLB_CNT_COUNT 0 5).raise .regVoteUc 0
    { detail := (v.addr * 64 + v.lo) / 64 }))

/-- From B0 on, outside HOLD and resets, FRAME_TICK moves time to the next multiple of 1,600 core cycles, opens the frame's TELEMETRY slot anew, counts a tick and leaves no value due at it; else it does nothing. The values due, and no others, take effect: where one value of a field is due and the device has none of its own, step 3 of R61 puts that value into the field. In a state with no staged value, no channel, track or bundle at work and no flash operation (State.still), FRAME becomes FRAME + 1 modulo 2^48, or the loaded value once with EPOCH_SET 1, and CYCLE 0; at the wrap FRAME_WRAP reads 1; a pending snapshot holds the ending frame's number, VALID 1, PENDING 0; outside PARK a CLEAR empties the valid map. The model's own choices that bear on it: log entries 13, 85, 111. -/
def Obligations.FrameTickAdvancesTime : Prop :=
  (∀ (a b : Bool) (s : State), s.start.b0 = true → s.hold = none → s.resetting = false → ∃ t, exec (.frameTick a b) s = .next t ∧
    t.cc = (s.cc / 1600 + 1) * 1600 ∧ t.ticks = s.ticks + 1 ∧ t.thm.done = false ∧ t.fab.later = [] ∧ t.fab.ready = []) ∧
  (∀ (a b : Bool) (s : State), s.start.b0 = false ∨ s.hold.isSome = true ∨ s.resetting = true → exec (.frameTick a b) s = .next s) ∧
  (∀ (f : Field) (i j v : Nat) (s : State), s.fab.ready = [{ key := f.key i j, dflt := f.reset i j, val := v }] → s.fab.later = [] →
    s.applyStaged.fld f i j = v ∧ ∀ (g : Field) (k l : Nat), g.key k l ≠ f.key i j → s.applyStaged.fld g k l = s.fld g k l) ∧
  (∀ (a b : Bool) (s : State), s.still → s.start.b0 = true → s.hold = none → s.resetting = false → ∃ t, exec (.frameTick a b) s = .next t ∧
    t.fld Fld.TT_TIME_CYCLE = 0 ∧ t.fab.frameLoad = false ∧ (s.fab.frameLoad = false → t.fld Fld.TT_TIME_FRAME = (s.fld Fld.TT_TIME_FRAME + 1) % 2 ^ 48) ∧
    (s.fab.frameLoad = false → s.fld Fld.TT_TIME_FRAME = 2 ^ 48 - 1 → t.fld Fld.TT_STATUS_FRAME_WRAP = 1) ∧
    (s.fab.frameLoad = true → t.fld Fld.TT_TIME_FRAME = s.fld Fld.TT_FRAME_LOAD_VALUE % 2 ^ 48 ∧ t.fld Fld.TT_STATUS_EPOCH_SET = 1) ∧
    (s.flag Fld.GLB_SNAP_PENDING = true → Store.find t.fab.snp (Fld.TT_TIME_FRAME.key 0 0) = some (s.fld Fld.TT_TIME_FRAME) ∧
    t.fld Fld.GLB_SNAP_PENDING = 0 ∧ t.fld Fld.GLB_SNAP_VALID = 1) ∧ (s.inState .park = false → s.vmap.clear = true → t.vmap.mem = [] ∧ t.vmap.clear = false))

/-- ACCOUNT_SLOT takes D from the frame's inputs once a frame and changes nothing else. Where requests are regulated, DEFICIT_WINDOW_END after 64 frames in which no master was held back clears the window and changes nothing else; where one master was held back in reads, and in the window before none was, it counts in MDEF, SEEN reads 1 and CH_GUARANTEE_DEFICIT is raised naming the master; where some was in the window before, it counts and is not raised; before the 64 frames, or where requests are not regulated, it does nothing. TELEMETRY_SLOT from cycle offset 1,200 on is done once a frame, and outside PARK stages the refresh rates and throttle levels for the next tick, two values behind those already staged; before that offset, and when it is done, it does nothing. The model's own choices that bear on it: log entry 13. -/
def Obligations.AccountDeficitTelemetry : Prop :=
  (∀ s : State, s.bwr.acct = false → exec .accountSlot s = .next { s with bwr := { s.bwr with acct := true, d := s.bwr.due } }) ∧
  (∀ s : State, s.bwr.acct = true → exec .accountSlot s = .next s) ∧
  (∀ s : State, 64 ≤ s.bwr.ticks → s.regulated = true → s.bwr.hit = [] →
    exec .deficitWindowEnd s = .next { s with bwr := { s.bwr with ticks := 0, last := (false, false) } }) ∧
  (∀ (s : State) (m : Nat) (u : State), m < 64 → 64 ≤ s.bwr.ticks → s.regulated = true → s.bwr.hit = [bwKey m false] →
    u = { ((s.bump Fld.BWR_MDEF_DEF_RD 0 m).setFld Fld.BWR_STATUS_SEEN_RD 1) with bwr := { s.bwr with hit := [], ticks := 0, last := (true, false) } } →
    exec .deficitWindowEnd s = .next (if s.bwr.last.1 = true then u else u.raise .chGuaranteeDeficit 0 { access := 1, req := some (0, m, 0) })) ∧
  (∀ s : State, s.bwr.ticks < 64 ∨ s.regulated = false → exec .deficitWindowEnd s = .next s) ∧
  (∀ (x : Telemetry) (s : State), s.thm.done = false → s.start.b0 = true → s.hold = none → 1200 ≤ s.fld Fld.TT_TIME_CYCLE → s.inState .park = false →
    ∃ t, exec (.telemetrySlot x) s = .next t ∧ t.thm.done = true ∧
    ∃ rates levels, t.fab = { s.fab with later := s.fab.later ++ [{ key := Fld.REF_LAYER_RATE_RATE.key 0 0, dflt := Fld.REF_LAYER_RATE_RATE.reset 0 0, val := rates }, { key := Fld.THM_LEVELS_LEVEL.key 0 0, dflt := Fld.THM_LEVELS_LEVEL.reset 0 0, val := levels }] })
    ∧
  (∀ (x : Telemetry) (s : State), s.thm.done = true ∨ s.fld Fld.TT_TIME_CYCLE < 1200 → exec (.telemetrySlot x) s = .next s)

/-- PERIOD ticks after it last ran, with the loop enabled and neither frozen nor failed, AVS_LOOP_PERIOD records the slack; on a free bus below S_LO it asks for 5 mV more and above S_HI for 5 mV less, within V_MIN and V_MAX, and between them it asks for nothing; before that it does nothing. AVS_OP_COMPLETE of a current read puts the sample into PWR.CURRENT, and a good end clears the count of failures and lets the next waiting operation onto the bus; a first failure leaves the operation to repeat. With the target not frozen, AVS_RETRY_TIMER repeats it on a free bus 16 ticks after the failure, and not before; with nothing to repeat it starts a loop that has stopped again after 65,536 ticks. AVS_CURRENT_READ, 64 ticks after the last one, puts a current read on a free bus. The model's own choices that bear on it: log entry 13. -/
def Obligations.AdaptiveVoltage : Prop :=
  (∀ (slack : BitVec 6) (s : State), s.pwr.loopAt + s.fld Fld.PWR_AVS_CFG_PERIOD ≤ s.ticks → s.flag Fld.PWR_AVS_CFG_EN = true →
    s.flag Fld.PWR_AVS_STATUS_FROZEN = false → s.flag Fld.PWR_AVS_STATUS_FAILED = false → s.pwr.avs = none → slack.toNat < s.fld Fld.PWR_AVS_SLACK_S_LO →
    s.fld Fld.PWR_AVS_STATUS_TARGET + 5 ≤ s.fld Fld.PWR_AVS_LIM_V_MAX →
    exec (.avsLoopPeriod slack) s = .next
    { (s.setFld Fld.PWR_AVS_STATUS_SLACK slack.toNat) with pwr := { s.pwr with loopAt := s.ticks, avs := some (.write (s.fld Fld.PWR_AVS_STATUS_TARGET + 5) true), again := false } })
    ∧
  (∀ (slack : BitVec 6) (s : State), s.pwr.loopAt + s.fld Fld.PWR_AVS_CFG_PERIOD ≤ s.ticks → s.flag Fld.PWR_AVS_CFG_EN = true →
    s.flag Fld.PWR_AVS_STATUS_FROZEN = false → s.flag Fld.PWR_AVS_STATUS_FAILED = false → s.pwr.avs = none → s.fld Fld.PWR_AVS_SLACK_S_LO ≤ slack.toNat →
    s.fld Fld.PWR_AVS_SLACK_S_HI < slack.toNat → 5 ≤ s.fld Fld.PWR_AVS_STATUS_TARGET → s.fld Fld.PWR_AVS_LIM_V_MIN ≤ s.fld Fld.PWR_AVS_STATUS_TARGET - 5 →
    exec (.avsLoopPeriod slack) s = .next
    { (s.setFld Fld.PWR_AVS_STATUS_SLACK slack.toNat) with pwr := { s.pwr with loopAt := s.ticks, avs := some (.write (s.fld Fld.PWR_AVS_STATUS_TARGET - 5) false), again := false } })
    ∧
  (∀ (slack : BitVec 6) (s : State), s.pwr.loopAt + s.fld Fld.PWR_AVS_CFG_PERIOD ≤ s.ticks → s.flag Fld.PWR_AVS_CFG_EN = true →
    s.flag Fld.PWR_AVS_STATUS_FROZEN = false → s.flag Fld.PWR_AVS_STATUS_FAILED = false → s.fld Fld.PWR_AVS_SLACK_S_LO ≤ slack.toNat →
    slack.toNat ≤ s.fld Fld.PWR_AVS_SLACK_S_HI →
    exec (.avsLoopPeriod slack) s = .next { (s.setFld Fld.PWR_AVS_STATUS_SLACK slack.toNat) with pwr := { s.pwr with loopAt := s.ticks } }) ∧
  (∀ (slack : BitVec 6) (s : State), s.ticks < s.pwr.loopAt + s.fld Fld.PWR_AVS_CFG_PERIOD → exec (.avsLoopPeriod slack) s = .next s) ∧
  (∀ (v : Nat) (s : State), s.pwr.avs = some .current → ∃ t, exec (.avsOpComplete true v) s = .next t ∧ t.fld Fld.PWR_CURRENT_VALID = 1 ∧
    t.fld Fld.PWR_CURRENT_SAMPLE = v % 2 ^ Fld.PWR_CURRENT_SAMPLE.width ∧ t.pwr.fails = 0 ∧ t.pwr.avs = s.pwr.queue.head? ∧ t.pwr.queue = s.pwr.queue.tail) ∧
  (∀ (v : Nat) (o : AvsOp) (s : State), s.pwr.avs = some o → s.pwr.again = false → s.pwr.fails = 0 → ∃ t, exec (.avsOpComplete false v) s = .next t ∧
    t.pwr.fails = 1 ∧ t.pwr.retry = some o ∧ t.pwr.retryAt = s.ticks ∧ t.pwr.avs = s.pwr.queue.head?) ∧
  (∀ (o : AvsOp) (s : State), s.pwr.retry = some o → s.pwr.avs = none → s.pwr.retryAt + 16 ≤ s.ticks → s.flag Fld.PWR_AVS_STATUS_FROZEN = false →
    exec .avsRetryTimer s = .next { s with pwr := { s.pwr with retry := none, avs := some o, again := true } }) ∧
  (∀ (o : AvsOp) (s : State), s.pwr.retry = some o → s.ticks < s.pwr.retryAt + 16 → exec .avsRetryTimer s = .next s) ∧
  (∀ s : State, s.pwr.retry = none → s.flag Fld.PWR_AVS_STATUS_FAILED = true → s.pwr.stopAt + 65536 ≤ s.ticks →
    exec .avsRetryTimer s = .next (s.setFld Fld.PWR_AVS_STATUS_FAILED 0)) ∧
  (∀ s : State, s.start.b0 = true → s.hold = none → s.flag Fld.PWR_AVS_STATUS_FROZEN = false → s.pwr.currAt + 64 ≤ s.ticks → s.pwr.avs = none →
    exec .avsCurrentRead s = .next { s with pwr := { s.pwr with currAt := s.ticks, avs := some .current, again := false } })

/-- REFRESH_SLOT opens at its cycle offset, once a frame, and before does nothing. Of a running engine whose bundle has not lapsed it takes the owed rounds whose commands can all issue before the tick, eight a round less those of the round in progress already done, then the pending neighbour refreshes that fit; with nothing due and no command train since the previous slot it launches a NOP. SCRUB_SLOT opens at its cycle offset, once a frame; with the ganger off it is only noted as opened; with PERIOD not due a channel that cannot issue keeps its count; at PERIOD the turn is due and its count starts anew; a running engine with nothing eligible issues what the ganger has due. NREF_FORCE_DUE forces the named neighbour refresh at its second tick and no other. RETEST_START gives the oldest listed row whose bank is free its job, reads the row and opens the spacing anew. EVENT_JOB_OVERRUN counts a retest that has run 6,400 cycles, or a fill 1,600, once, raises TT_HARD_OVERRUN, and the job goes on. The model's own choices that bear on it: log entries 13, 85. -/
def Obligations.RefreshAndScrubSlots : Prop :=
  (∀ (c : ChanIx) (s : State), (s.chan c).ref.open_ = true ∨ s.fld Fld.TT_TIME_CYCLE < 25 * c.val → exec (.refreshSlot c) s = .next s) ∧
  (∀ (c : ChanIx) (s : State), (s.chan c).ref.open_ = false → 25 * c.val ≤ s.fld Fld.TT_TIME_CYCLE → s.engineRuns c = false →
    exec (.refreshSlot c) s = .next (s.modRef c fun r => { r with open_ := true })) ∧
  (∀ (c : ChanIx) (s : State) (gap room did : Nat), (s.chan c).ref.open_ = false → 25 * c.val ≤ s.fld Fld.TT_TIME_CYCLE → s.engineRuns c = true →
    s.lapsed c = false → (s.chan c).ref.seen = true → gap = ccOf (s.cmdChips c 1) → room = (1600 - s.fld Fld.TT_TIME_CYCLE + gap - 1) / gap →
    did = (s.chan c).ref.did.length → ∃ t, exec (.refreshSlot c) s = .next t ∧ t.regs = s.regs ∧
    (t.chan c).ref.slot = min (s.fld Fld.CHN_REF_STATE_OWED c) ((room + did) / 8) ∧
    (t.chan c).ref.slotN = min (s.chan c).ref.nrefs.length (room - (8 * (t.chan c).ref.slot - (if (t.chan c).ref.slot = 0 then 0 else did))) ∧
    (t.chan c).ref.seen = false ∧ (t.chan c).ref.open_ = true) ∧
  (∀ (c : ChanIx) (s : State), (s.chan c).ref.open_ = false → 25 * c.val ≤ s.fld Fld.TT_TIME_CYCLE → s.engineRuns c = true → s.lapsed c = false →
    (s.chan c).ref.seen = false → s.cmdFree c 1 = true → s.fld Fld.CHN_REF_STATE_OWED c = 0 → (s.chan c).ref.nrefs = [] →
    ∃ t, exec (.refreshSlot c) s = .next t ∧ (t.chan c).lastCmd = cmdTrain [(0x0A, 0)]) ∧
  (∀ (c : ChanIx) (s : State), (s.chan c).scrub = true ∨ s.fld Fld.TT_TIME_CYCLE < (25 * c.val + 800) % 1600 → exec (.scrubSlot c) s = .next s) ∧
  (∀ (c : ChanIx) (s : State), (s.chan c).scrub = false → (25 * c.val + 800) % 1600 ≤ s.fld Fld.TT_TIME_CYCLE → s.flag Fld.INT_GANGER_CFG_EN = false →
    exec (.scrubSlot c) s = .next (s.modChan c fun x => { x with scrub := true })) ∧
  (∀ (c : ChanIx) (s : State), (s.chan c).scrub = false → (25 * c.val + 800) % 1600 ≤ s.fld Fld.TT_TIME_CYCLE → s.pilotOn = false →
    s.flag Fld.INT_GANGER_CFG_EN = true → s.presented c = true → (s.chan c).test = false → s.inState .nap = false → s.engineRuns c = false →
    (s.chan c).gTicks < s.fld Fld.INT_GANGER_CFG_PERIOD → exec (.scrubSlot c) s = .next (s.modChan c fun x => { x with scrub := true, gOpen := some s.cc })) ∧
  (∀ (c : ChanIx) (s : State), (s.chan c).scrub = false → (25 * c.val + 800) % 1600 ≤ s.fld Fld.TT_TIME_CYCLE → s.pilotOn = false →
    s.flag Fld.INT_GANGER_CFG_EN = true → s.presented c = true → (s.chan c).test = false → s.inState .nap = false → s.engineRuns c = false →
    s.fld Fld.INT_GANGER_CFG_PERIOD ≤ (s.chan c).gTicks →
    exec (.scrubSlot c) s = .next (s.modChan c fun x => { x with scrub := true, gOpen := some s.cc, gTicks := 0, gDue := true })) ∧
  (∀ (c : ChanIx) (s u : State), (s.chan c).scrub = false → (25 * c.val + 800) % 1600 ≤ s.fld Fld.TT_TIME_CYCLE → s.pilotOn = false →
    s.flag Fld.INT_GANGER_CFG_EN = true → s.presented c = true → (s.chan c).test = false → s.inState .nap = false →
    s.fld Fld.INT_GANGER_CFG_PERIOD ≤ (s.chan c).gTicks →
    (u = (s.modChan c fun x => { x with scrub := true, gOpen := some s.cc, gTicks := 0, gDue := true })) → u.engineRuns c = true → u.cmdFree c 1 = true →
    (s.chan c).wait = none → u.lapsed c = false → u.eligibles c = [] → exec (.scrubSlot c) s = .next (u.gangIssue c)) ∧
  (∀ (c : ChanIx) (i : Nat) (s : State), ∃ t, exec (.nrefForceDue c i) s = .next t ∧
    (∀ k, (t.chan c).ref.nrefs[k]? = ((s.chan c).ref.nrefs[k]?).map fun n => if k = i ∧ 2 ≤ n.ticks then { n with forced := true } else n)) ∧
  (∀ (c : ChanIx) (b r : Nat) (s : State), s.bst.ch = none → s.engineRuns c = true → (s.chan c).rt = none → (s.chan c).resetting = false →
    (s.chan c).test = false → (s.chan c).rtGap = 0 → (s.chan c).rtList.head? = some (b, r) → s.bankFree c b = true → ∃ t, exec (.retestStart c) s = .next t ∧
    (t.chan c).rt = some { bank := b, row := r, since := s.cc } ∧ (t.chan c).rtList = (s.chan c).rtList.tail ∧
    (t.chan c).rtGap = s.fld Fld.INT_RETEST_CFG_SPACING ∧ (t.chan c).prio.length = (s.chan c).prio.length + 2) ∧
  (∀ (c : ChanIx) (r : Retest) (s : State), (s.chan c).rt = some r → r.past = false → r.since + 6400 < s.cc →
    exec (.eventJobOverrun c false) s = .next (((s.modChan c fun x => { x with rt := some { r with past := true } }).bump Fld.TT_OVERRUN_COUNT 0 4).raise
    .ttHardOverrun c { detail := 4, access := 6 })) ∧
  (∀ (c : ChanIx) (r : Retest) (s : State), (s.chan c).rt = some r → r.past = true ∨ s.cc ≤ r.since + 6400 → exec (.eventJobOverrun c false) s = .next s) ∧
  (∀ (c : ChanIx) (f : Fill) (s : State), (s.chan c).fills = [f] → f.past = false → f.since + 1600 < s.cc →
    exec (.eventJobOverrun c true) s = .next (((s.modChan c fun x => { x with fills := [{ f with past := true }] }).bump Fld.TT_OVERRUN_COUNT 0 5).raise
    .ttHardOverrun c { detail := 5, access := 2 }))

/-- SCHED_ISSUE of an engine that cannot run does nothing, and where the bundle has lapsed it sends SRX. Otherwise, where the engine waits for no fuller train: a calibration that follows a round goes first, then forced and slotted refresh, then, outside NAP, reissues and job trains in their order, then the head of the queue, and with an empty queue soft refresh. A broken own check raises CH_ENGINE_FAULT before anything else. TRAIN_WAIT_EXPIRY without a waiting train does nothing; TRAIN_WAIT cycles after the part became eligible it issues the train it waits with, however short. PAGE_IDLE_EXPIRY sends PRE to a bank whose row had no command for PAGE_IDLE cycles, and only to one. The model's own choices that bear on it: log entries 13, 71. -/
def Obligations.ChannelEngineChoosesItsWork : Prop :=
  (∀ (c : ChanIx) (s : State), s.engineRuns c = false → exec (.schedIssue c .none) s = .next s) ∧
  (∀ (c : ChanIx) (s : State), s.engineRuns c = true → s.lapsed c = true → s.cmdFree c 1 = true → exec (.schedIssue c .none) s = .next (s.sendSrx c false)) ∧
  (∀ (c : ChanIx) (E : List (Ent × Part)) (s u : State), E = s.eligibles c → (u = (s.markElig c E).modChan c fun x => { x with wait := none }) →
    s.engineRuns c = true → s.lapsed c = false → (s.markElig c E).cmdFree c 1 = true → (s.markElig c E).waiting c E = none → (u.chan c).ccalDue > 0 →
    u.calBusy c = false → exec (.schedIssue c .none) s = .next (u.doCcal c)) ∧
  (∀ (c : ChanIx) (E : List (Ent × Part)) (s u t : State), E = s.eligibles c → (u = (s.markElig c E).modChan c fun x => { x with wait := none }) →
    s.engineRuns c = true → s.lapsed c = false → (s.markElig c E).cmdFree c 1 = true → (s.markElig c E).waiting c E = none → (u.chan c).ccalDue = 0 →
    u.hardRefresh c = some t → exec (.schedIssue c .none) s = .next t) ∧
  (∀ (c : ChanIx) (E : List (Ent × Part)) (s u : State) (t : Train) (l : List Train), E = s.eligibles c →
    (u = (s.markElig c E).modChan c fun x => { x with wait := none }) → s.engineRuns c = true → s.lapsed c = false → (s.markElig c E).cmdFree c 1 = true →
    (s.markElig c E).waiting c E = none → (u.chan c).ccalDue = 0 → u.hardRefresh c = none → u.inState .nap = false → (u.chan c).prio = t :: l →
    u.prioOk c t = true → exec (.schedIssue c .none) s = .next ((u.modChan c fun x => { x with prio := l }).issueTrain c t)) ∧
  (∀ (c : ChanIx) (E : List (Ent × Part)) (s u : State) (h : Ent × Part) (p a : Bool), E = s.eligibles c →
    (u = (s.markElig c E).modChan c fun x => { x with wait := none }) → s.engineRuns c = true → s.lapsed c = false → (s.markElig c E).cmdFree c 1 = true →
    (s.markElig c E).waiting c E = none → (u.chan c).ccalDue = 0 → u.hardRefresh c = none → u.inState .nap = false → (u.chan c).prio = [] →
    (u.chan c).path = false → u.chooseHead c E = (some h, p, a) → exec (.schedIssue c .none) s = .next ((u.setPhase c p).issueHead c h)) ∧
  (∀ (c : ChanIx) (E : List (Ent × Part)) (s u t : State), E = s.eligibles c → (u = (s.markElig c E).modChan c fun x => { x with wait := none }) →
    s.engineRuns c = true → s.lapsed c = false → (s.markElig c E).cmdFree c 1 = true → (s.markElig c E).waiting c E = none → (u.chan c).ccalDue = 0 →
    u.hardRefresh c = none → u.inState .nap = false → (u.chan c).prio = [] → (u.chan c).path = false → (u.chan c).q = [] → u.softRefresh c [] = some t →
    exec (.schedIssue c .none) s = .next t) ∧
  (∀ (c : ChanIx) (s : State), exec (.schedIssue c .check) s = .next ((s.engineFault c).schedule c)) ∧
  (∀ (c : ChanIx) (s : State), (s.chan c).wait = none → exec (.trainWaitExpiry c) s = .next s) ∧
  (∀ (c : ChanIx) (E : List (Ent × Part)) (s u : State) (h : Ent × Part) (t : Train), E = s.eligibles c → u = s.markElig c E → s.engineRuns c = true →
    s.lapsed c = false → u.cmdFree c 1 = true → u.waiting c E = some h → t = u.buildTrain c (u.flag Fld.CHN_STATUS_PHASE c) h →
    (u.chan c).since u.cc h.2 + u.fld Fld.CHN_SCHED_TRAIN_WAIT c ≤ u.cc → u.canIssue c t = true → exec (.trainWaitExpiry c) s = .next (u.issueHost c t)) ∧
  (∀ (c : ChanIx) (b : BankIx) (s : State), ((s.chan c).bank b).final.isSome = true → ((s.chan c).bank b).last + s.fld Fld.CHN_POLICY_PAGE_IDLE c ≤ s.cc →
    ((s.chan c).bank b).nPre ≤ s.cc → s.engineRuns c = true → s.cmdFree c 1 = true → (s.chan c).wait = none → ∃ t, exec (.pageIdleExpiry c b) s = .next t ∧
    t = s.closeBank c b ∧ (t.chan c).lastCmd = cmdTrain [(0x02, b.val)] ∧ ((t.chan c).bank b).final = none) ∧
  (∀ (c : ChanIx) (b : BankIx) (s : State), ((s.chan c).bank b).final = none ∨ s.cc < ((s.chan c).bank b).last + s.fld Fld.CHN_POLICY_PAGE_IDLE c →
    exec (.pageIdleExpiry c b) s = .next s)

/-- TURNTABLE_CYCLE outside PARK is one core cycle: the count of cycles moves on by one, and with no track, channel, decode or differing copy at work CYCLE does too and nothing else moves. Where one track alone has state, and holds one request that its channel can take and nothing holds back, the channels' queues being empty, the request leaves the track's buffer and is the one entry of its channel's queue. In PARK the cycle is one REFCLK period and CYCLE moves on to the next multiple of 16. Without a core clock it does nothing. SIDING_LIMIT_EXPIRY of an entry still in a siding at its limit answers it ABORTED, detail 0x1, counts it and raises CH_SIDING_ABORT; before the limit it does nothing. The model's own choices that bear on it: log entries 13, 84. -/
def Obligations.TurntableAndQueueTimers : Prop :=
  (∀ s : State, s.start.b0 = false ∨ s.hold.isSome = true → exec .turntableCycle s = .next s) ∧
  (∀ s : State, s.start.b0 = true → s.hold = none → s.inState .park = true →
    exec .turntableCycle s = .next (({ s with cc := (s.cc / 16 + 1) * 16 }).setFld Fld.TT_TIME_CYCLE (min 1584 ((s.fld Fld.TT_TIME_CYCLE / 16 + 1) * 16)))) ∧
  (∀ s : State, s.start.b0 = true → s.hold = none → s.inState .park = false → ∃ t, exec .turntableCycle s = .next t ∧ t.cc = s.cc + 1) ∧
  (∀ s : State, s.start.b0 = true → s.hold = none → s.inState .park = false → s.trks = [] → s.chans = [] → s.codec.queue = [] → s.fab.copies = [] →
    s.fld Fld.TT_TIME_CYCLE ≠ 1279 →
    exec .turntableCycle s = .next (({ s with cc := s.cc + 1 }).setFld Fld.TT_TIME_CYCLE (min 1599 (s.fld Fld.TT_TIME_CYCLE + 1)))) ∧
  (∀ (t : Nat) (x : Trk) (e : BufEnt) (s : State), s.start.b0 = true → s.hold = none → s.inState .park = false → t < 32 → s.trks = [(t, x)] →
    x.tx.late = [] → x.ses.buf = [e] → (pktType e.pkt.typ).isMem = true → s.fenceBefore e.ord = false → (∀ y ∈ s.chans, y.2.q = []) → s.codec.queue = [] →
    s.fab.copies = [] → s.fld Fld.TT_TIME_CYCLE ≠ 1279 → s.retries e.chan = false → s.takes t e.chan = true → ∃ u, exec .turntableCycle s = .next u ∧
    ((u.chan e.chan).q.map fun y => y.ord) = [e.ord] ∧ (u.trk t).ses.buf = []) ∧
  (∀ (c : ChanIx) (i : Nat) (e : Ent) (z : Side) (s : State), (s.chan c).q[i]? = some e → e.side = some z → z.ticks < z.limit →
    exec (.sidingLimitExpiry c i) s = .next s) ∧
  (∀ (c : ChanIx) (i : Nat) (e : Ent) (z : Side) (s v u : State), (s.chan c).q[i]? = some e → e.side = some z → z.limit ≤ z.ticks →
    (v = (s.modEnt c e.ord fun y => y.finish Status.aborted.code 1).effected e.ord) →
    (u = (((v.modChan c fun x =>
    { x with locks := x.locks.filter fun k => k.1 != e.ord, prio := x.prio.filter fun t => !(t.lines.any fun l => l.ord = e.ord && l.use = .rmwW) }).reside
    c).bump Fld.CHN_CNT_COUNT c 7)) →
    exec (.sidingLimitExpiry c i) s = .next (u.raise .chSidingAbort c { lineInfo c 0 0 0 e.kind.access (u.chDetail c z.reason) (some e) with loc := none }) ∧
    ∀ y ∈ (v.chan c).q, y.ord = e.ord → y.res.isSome = true ∧ y.side = none)

/-- CHN_DRAINED waits for the queue to empty, shows DISABLED where EN is 0 and lets a SWAP go on. CHN_BLOCK_RESET_DONE lets a reset engine accept requests again once no migration is left. TAKEOVER_COMPLETE of a drained channel, by SWAP, sends PRE to every bank, names the spare in CTL.ENGINE, reads SWAPPING 0, clears the mileage table, begins recovery, raises CH_TAKEOVER and switches the old engine's domain off; without a takeover, or while it drains, it does nothing. SELF_REFRESH_ENTRY of a quiet channel that is due, with nothing owed and no calibration open, sends PRE to all and SRE and, confirmed, sets SR; while a calibration is due or open it only issues what is owed; where the channel is not due it does nothing. SRX_WAIT_END does nothing without an exit in progress or before T_XS; then, with no soft repair to send or answer awaited, the rounds of the exit run, after which OWED and ACC read 0. The model's own choices that bear on it: log entries 13, 130. -/
def Obligations.EngineHandOverAndSelfRefresh : Prop :=
  (∀ (c : ChanIx) (s : State), (s.chan c).q ≠ [] → exec (.chnDrained c) s = .next s) ∧
  (∀ (c : ChanIx) (s : State), (s.chan c).q = [] → (s.chan c).swap = none → s.flag Fld.CHN_CTL_EN c = false →
    exec (.chnDrained c) s = .next (s.setFld Fld.CHN_STATUS_DISABLED 1 c)) ∧
  (∀ (c : ChanIx) (w : Swap) (s : State), (s.chan c).q = [] → (s.chan c).swap = some w → w.draining = true → s.flag Fld.CHN_CTL_EN c = true →
    exec (.chnDrained c) s = .next (s.modChan c fun x => { x with swap := some { w with draining := false } })) ∧
  (∀ (c : ChanIx) (s : State), (s.chan c).resetting = true → (s.chan c).mig = none → ∃ t, exec (.chnBlockResetDone c) s = .next t ∧
    (t.chan c).resetting = false ∧ t.flag Fld.CHN_STATUS_DISABLED c = !(s.flag Fld.CHN_CTL_EN c)) ∧
  (∀ (c : ChanIx) (s : State), (s.chan c).resetting = false ∨ (s.chan c).mig.isSome = true → exec (.chnBlockResetDone c) s = .next s) ∧
  (∀ (c : ChanIx) (w : Swap) (s v u : State), (s.chan c).swap = some w → w.draining = false → w.ordered = false →
    (v = ((s.setDomain (9 + w.spare) true).modChan c fun x => { x with banks := [], acts := [], grp := [], swap := none }).preAll c) →
    u = ((v.beginRecovery c).setFld Fld.CHN_CTL_ENGINE w.spare c).setFld Fld.CHN_STATUS_SWAPPING 0 c →
    exec (.takeoverComplete c) s = .next ((u.raise .chTakeover c (u.chInfo c)).setDomain (9 + s.fld Fld.CHN_CTL_ENGINE c) false) ∧
    u.fld Fld.CHN_CTL_ENGINE c = w.spare % 2 ^ Fld.CHN_CTL_ENGINE.width ∧ u.fld Fld.CHN_STATUS_SWAPPING c = 0 ∧ u.fld Fld.CHN_REF_STATE_RECOVERY c = 1 ∧
    (u.chan c).ref.table = [] ∧ (s.bundleUp c = true → (u.chan c).lastCmd = cmdTrain [(0x02, 32)])) ∧
  (∀ (c : ChanIx) (s : State), (s.chan c).swap = none ∨ (s.chan c).swap.map (fun w => w.draining) = some true → exec (.takeoverComplete c) s = .next s) ∧
  (∀ (c : ChanIx) (s : State), (s.chan c).quiet = true → s.flag Fld.CHN_REF_STATE_SR c = false → (s.chan c).ref.srx = false → s.mustSleep c = true →
    s.fld Fld.CHN_REF_STATE_OWED c = 0 → (s.chan c).ref.nrefs = [] → (s.chan c).ccalDue = 0 → s.calBusy c = false →
    ∃ t, exec (.selfRefreshEntry c true) s = .next t ∧ t.fld Fld.CHN_REF_STATE_SR c = 1 ∧ (t.chan c).lastCmd = cmdTrain [(0x02, 32), (0x08, 0)] ∧
    (t.chan c).exited = false ∧ (t.chan c).banks = [] ∧ (s.park.step = .sleep → t.park.asleep = c.val :: s.park.asleep)) ∧
  (∀ (c : ChanIx) (b : Bool) (s u : State), (s.chan c).quiet = true → s.flag Fld.CHN_REF_STATE_SR c = false → (s.chan c).ref.srx = false →
    s.mustSleep c = true → (u = (s.issueOwed c).modRef c fun r => { r with slot := 0, slotN := 0, own := [] }) →
    0 < (u.chan c).ccalDue ∨ u.calBusy c = true → exec (.selfRefreshEntry c b) s = .next u) ∧
  (∀ (c : ChanIx) (b : Bool) (s : State), s.mustSleep c = false → exec (.selfRefreshEntry c b) s = .next s) ∧
  (∀ (c : ChanIx) (l : List Nat) (s : State), (s.chan c).ref.srx = false ∨ s.cc < (s.chan c).ref.srxAt + s.fld Fld.REF_SR_T_XS →
    exec (.srxWaitEnd c l) s = .next s) ∧
  (∀ (c : ChanIx) (l : List Nat) (s : State), (s.chan c).ref.srx = true → (s.chan c).ref.srxAt + s.fld Fld.REF_SR_T_XS ≤ s.cc → (s.chan c).ref.soft = false →
    s.softOut c = false → ∃ t, exec (.srxWaitEnd c l) s = .next t ∧ t = (s.modRef c fun r => { r with soft := false }).srxRounds c l ∧
    t.fld Fld.CHN_REF_STATE_OWED c = 0 ∧ t.fld Fld.CHN_REF_STATE_ACC c = 0)

/-- RX_ROW does nothing in a reset; with no PRBS checker it does nothing on a disabled track or in L3. A stalled direction takes no row, and neither does one whose lanes all lack signal: the track's framing, transmitter and session stay. A skip row on a READY track with no deskew delay, no census of the host waiting, no automatic sparing and no elastic limit leaves every part of the framing alone but what the elastic buffer does next; else a row is classified by its 16 positions and acted on. CAL_WINDOW_END does nothing under TRIM_FREEZE, in L1 and L3 and while stalled; else a symbol error, too few transitions, an invalid count or a lane without valid code rejects the window and counts it, and an accepted window stages the trims one step on. On a track in training it also moves the training on. SPARE_ERR_WINDOW_END, once WINDOW ticks have passed, restarts the error count of every lane and changes nothing else of a lane; before, it does nothing. The model's own choices that bear on it: log entries 13, 19. -/
def Obligations.LaneReceptionAndCalibration : Prop :=
  (∀ (t : TrackIx) (row : RxRow) (s : State), s.resetting = true → exec (.rxRow t row) s = .next s) ∧
  (∀ (t : TrackIx) (row : RxRow) (s : State), s.resetting = false → (∀ p < 18, s.fld Fld.TRK_PRBS_CTL_CHK_SEL t p = 0) →
    s.linkIs t .disabled = true ∨ s.fld Fld.TRK_LSTATE_RX_STATE t = 3 → exec (.rxRow t row) s = .next s) ∧
  (∀ (t : TrackIx) (row : RxRow) (s : State), s.resetting = false → (∀ p < 18, s.fld Fld.TRK_PRBS_CTL_CHK_SEL t p = 0) → s.linkIs t .disabled = false →
    s.fld Fld.TRK_LSTATE_RX_STATE t ≠ 3 → (s.trk t).rx.mode = .stalled → s.fld Fld.TRK_LSTATE_RX_STATE t ≠ 1 → ∃ u, exec (.rxRow t row) s = .next u ∧
    (u.trk t).rx = (s.trk t).rx ∧ (u.trk t).tx = (s.trk t).tx ∧ (u.trk t).ses = (s.trk t).ses) ∧
  (∀ (t : TrackIx) (row : RxRow) (s : State), s.resetting = false → (∀ p < 18, s.fld Fld.TRK_PRBS_CTL_CHK_SEL t p = 0) → s.linkIs t .disabled = false →
    s.fld Fld.TRK_LSTATE_RX_STATE t ≠ 3 → row.sig = 0 → ∃ u, exec (.rxRow t row) s = .next u ∧ (u.trk t).rx = (s.trk t).rx ∧ (u.trk t).tx = (s.trk t).tx ∧
    (u.trk t).ses = (s.trk t).ses) ∧
  (∀ (t : TrackIx) (row : RxRow) (s : State), s.resetting = false → (∀ p < 18, s.fld Fld.TRK_PRBS_CTL_CHK_SEL t p = 0) → s.linkIs t .disabled = false →
    s.fld Fld.TRK_LSTATE_RX_STATE t ≠ 3 → s.linkIs t .ready = true → (s.trk t).rx.mode ≠ .stalled → s.fld Fld.TRK_LSTATE_RX_STATE t ≠ 1 →
    (s.trk t).rx.depth = 0 → (s.trk t).cen.got = none → s.flag Fld.TRK_SPARE_CFG_AUTO_EN t = false → row.sig = 0x3FFFF → row.eq = [] → row.elastic ≠ .limit →
    (∀ p < 18, ∀ (d : Bool), (decode10 (row.syms.getD p 0) d).1 = .ctl .skp) → ∃ u, exec (.rxRow t row) s = .next u ∧
    (u.trk t).rx = { (s.trk t).rx with elastic := row.elastic } ∧ (u.trk t).tx = (s.trk t).tx ∧ (u.trk t).ses = (s.trk t).ses) ∧
  (∀ (t : TrackIx) (row : RxRow) (a : State × List LaneSym) (ys : List LaneSym) (k : RowKind) (s : State), s.resetting = false →
    (∀ p < 18, s.fld Fld.TRK_PRBS_CTL_CHK_SEL t p = 0) → s.linkIs t .disabled = false → s.fld Fld.TRK_LSTATE_RX_STATE t ≠ 3 → (s.trk t).rx.mode ≠ .stalled →
    row.eq = [] → row.elastic = .none → a = (s.rxLanes t row).1.align t (s.rxLanes t row).2 → a.1.anySignal t row = true →
    (ys = (List.range 16).map fun q => a.2.getD (a.1.laneOf t false q) darkSym) → k = a.1.classify t ys →
    exec (.rxRow t row) s = .next (((((if a.1.fld Fld.TRK_LSTATE_RX_STATE t = 1 then a.1 else a.1.lockLanes t a.2 (k = .skip)).rowAction t a.2 ys k).advance
    t []).checkCensus t))) ∧
  (∀ (t : TrackIx) (p : LaneIx) (n : CalCount) (s : State),
    s.flag Fld.TRK_CAL_CFG_TRIM_FREEZE t = true ∨ s.fld Fld.TRK_LSTATE_RX_STATE t = 1 ∨ s.fld Fld.TRK_LSTATE_RX_STATE t = 3 ∨ (s.trk t).rx.mode = .stalled →
    exec (.calWindowEnd t p n) s = .next s) ∧
  (∀ (t : TrackIx) (p : LaneIx) (n : CalCount) (s : State), s.calRuns t = true → s.linkIs t .training = false →
    (s.rxLane t p).calErr ≠ 0 ∨ 10 * n.nt < 3 * (10 * s.calWindow t) ∨ n.valid = false ∨ s.calValid t p = false →
    exec (.calWindowEnd t p n) s = .next ((s.bump Fld.TRK_LANE_CAL_REJECT_COUNT t p).setRxLane t p { s.rxLane t p with calErr := 0, still := 0 })) ∧
  (∀ (t : TrackIx) (p : LaneIx) (n : CalCount) (s : State) (o l : Int), s.calRuns t = true → s.linkIs t .training = false → (s.rxLane t p).calErr = 0 →
    3 * (10 * s.calWindow t) ≤ 10 * n.nt → n.valid = true → s.calValid t p = true →
    (o, l) = calStep (10 * s.calWindow t) n (signedOf 7 (s.fld Fld.TRK_RX_TRIM_OFFSET t p)) (s.fld Fld.TRK_RX_TRIM_LEVEL t p) →
    ∃ u, exec (.calWindowEnd t p n) s = .next u ∧ u.regs = s.regs ∧ (u.rxLane t p).trim = some (signedTo 7 o, l.toNat) ∧ (u.rxLane t p).calErr = 0) ∧
  (∀ (t : TrackIx) (p : LaneIx) (n : CalCount) (s : State), s.calRuns t = true → s.linkIs t .training = true →
    exec (.calWindowEnd t p n) s = .next ((s.closeWindow t p n).advance t [])) ∧
  (∀ (t : TrackIx) (s : State), s.fld Fld.TRK_SPARE_CFG_WINDOW t ≤ (s.trk t).errTicks → ∃ u, exec (.spareErrWindowEnd t) s = .next u ∧ u.regs = s.regs ∧
    (u.trk t).errTicks = 0 ∧ ∀ p : Nat, u.rxLane t p = { s.rxLane t p with winErr := 0 }) ∧
  (∀ (t : TrackIx) (s : State), (s.trk t).errTicks < s.fld Fld.TRK_SPARE_CFG_WINDOW t → exec (.spareErrWindowEnd t) s = .next s)

/-- On a READY track LANE_MGMT_REQ_RX accepts the sparing, to be answered ACK, where the target lies 4 to 128 blocks ahead of the next sequence number, the spare stands by and no other sparing of the direction waits for its block; otherwise it is to be answered REJ, and one already accepted is accepted still; on another track it does nothing. An ACK that names the request in progress is noted, another changes nothing but the list of messages. A REJ that names it, or 32 blocks of silence, ask again with a target 16 blocks on, on the lowest standby spare, where both directions have one; the third failure raises HL_SPARE_FAIL and retrains with reason 0x23. LANE_SPARE_SWITCH, once block T has come, puts the spare into service, raises HL_LANE_SPARED and notes the lane to retire; before, it does nothing. LANE_RETIRE, 16 blocks later, marks the oldest such lane retired and records it in the repair copy; before, it does nothing. The model's own choices that bear on it: log entries 13, 114, 117, 124. -/
def Obligations.LaneSparing : Prop :=
  (∀ (t : TrackIx) (m : LaneMsg) (next : Byte) (s : State), s.linkIs t .ready = true → next = (s.trk t).tx.next → 4 ≤ (m.target - next).toNat →
    (m.target - next).toNat ≤ 128 → s.spareIs t true m.spare .standby = true → (s.trk t).spX = none →
    exec (.laneMgmtReqRx t m) s = .next ((s.takeMgmt t 0x01 m).modTrk t fun y =>
    { y with spX := some { pos := m.pos.val, spare := m.spare, target := m.target }, rej := none })) ∧
  (∀ (t : TrackIx) (m : LaneMsg) (next : Byte) (s : State), s.linkIs t .ready = true → next = (s.trk t).tx.next →
    (s.trk t).spX ≠ some { pos := m.pos.val, spare := m.spare, target := m.target } →
    (m.target - next).toNat < 4 ∨ 128 < (m.target - next).toNat ∨ s.spareIs t true m.spare .standby = false ∨ (s.trk t).spX.isSome = true →
    exec (.laneMgmtReqRx t m) s = .next ((s.takeMgmt t 0x01 m).modTrk t fun y => { y with rej := some m })) ∧
  (∀ (t : TrackIx) (m : LaneMsg) (s : State), s.linkIs t .ready = true → (s.trk t).spX = some { pos := m.pos.val, spare := m.spare, target := m.target } →
    exec (.laneMgmtReqRx t m) s = .next (s.takeMgmt t 0x01 m)) ∧
  (∀ (t : TrackIx) (m : LaneMsg) (s : State), s.linkIs t .ready = false → exec (.laneMgmtReqRx t m) s = .next s) ∧
  (∀ (t : TrackIx) (m : LaneMsg) (y : SpareY) (s : State), (s.trk t).spY = some y → y.pos = m.pos.val → y.spare = m.spare → y.target = m.target →
    exec (.laneMgmtAckRx t m) s = .next ((s.takeMgmt t 0x02 m).modTrk t fun x => { x with spY := some { y with acked := true } })) ∧
  (∀ (t : TrackIx) (m : LaneMsg) (y : SpareY) (s : State), (s.trk t).spY = some y → y.pos ≠ m.pos.val ∨ y.spare ≠ m.spare ∨ y.target ≠ m.target →
    exec (.laneMgmtAckRx t m) s = .next (s.takeMgmt t 0x02 m)) ∧
  (∀ (t : TrackIx) (m : LaneMsg) (s : State), (s.trk t).spY = none → exec (.laneMgmtAckRx t m) s = .next s ∧ exec (.laneMgmtRejRx t m) s = .next s ∧
    exec (.laneSpareReqTimeout t) s = .next s) ∧
  (∀ (t : TrackIx) (m : LaneMsg) (y : SpareY) (sp : Bool) (s : State), (s.trk t).spY = some y → y.pos = m.pos.val → y.target = m.target → y.acked = false →
    y.tries < 2 → s.standby t false = some sp → (s.standby t true).isSome = true →
    exec (.laneMgmtRejRx t m) s = .next ((s.takeMgmt t 0x03 m).modTrk t fun x =>
    { x with spY := some { pos := y.pos, spare := sp, target := x.rx.blk + 16, tries := y.tries + 1 } })) ∧
  (∀ (t : TrackIx) (m : LaneMsg) (y : SpareY) (s : State), (s.trk t).spY = some y → y.pos = m.pos.val → y.target = m.target → y.acked = false → 2 ≤ y.tries →
    exec (.laneMgmtRejRx t m) s = .next (((s.takeMgmt t 0x03 m).raise .hlSpareFail t { detail := y.pos }).retrain t 0x23)) ∧
  (∀ (t : TrackIx) (m : LaneMsg) (y : SpareY) (s : State), (s.trk t).spY = some y → y.pos ≠ m.pos.val ∨ y.target ≠ m.target ∨ y.acked = true →
    exec (.laneMgmtRejRx t m) s = .next (s.takeMgmt t 0x03 m)) ∧
  (∀ (t : TrackIx) (y : SpareY) (s : State), (s.trk t).spY = some y → y.acked = true ∨ y.blocks < 32 → exec (.laneSpareReqTimeout t) s = .next s) ∧
  (∀ (t : TrackIx) (y : SpareY) (sp : Bool) (s : State), (s.trk t).spY = some y → y.acked = false → 32 ≤ y.blocks → y.tries < 2 →
    s.standby t false = some sp → (s.standby t true).isSome = true →
    exec (.laneSpareReqTimeout t) s = .next (s.modTrk t fun x =>
    { x with spY := some { pos := y.pos, spare := sp, target := x.rx.blk + 16, tries := y.tries + 1 } })) ∧
  (∀ (t : TrackIx) (y : SpareY) (s : State), (s.trk t).spY = some y → y.acked = false → 32 ≤ y.blocks → 2 ≤ y.tries →
    exec (.laneSpareReqTimeout t) s = .next ((s.raise .hlSpareFail t { detail := y.pos }).retrain t 0x23)) ∧
  (∀ (t : TrackIx) (x : SpareX) (s : State), (s.trk t).spX = some x → (s.trk t).tx.at x.target = true →
    exec (.laneSpareSwitch t true) s = .next (((((s.setFld (spareFld true x.spare) SpareState.active.code t).setFld (sparePosFld true x.spare) x.pos
    t).modTrk t fun y => { y with spX := none, retireTx := y.retireTx ++ [(x.pos, x.target + 16)] }).raise .hlLaneSpared t { detail := x.pos }))) ∧
  (∀ (t : TrackIx) (y : SpareY) (s : State), (s.trk t).spY = some y → y.acked = true → (s.trk t).rx.at y.target = true →
    exec (.laneSpareSwitch t false) s = .next (((((s.setFld (spareFld false y.spare) SpareState.active.code t).setFld (sparePosFld false y.spare) y.pos
    t).modTrk t fun z => { z with spY := none, retireRx := z.retireRx ++ [(y.pos, y.target + 16)] }).raise .hlLaneSpared t { detail := y.pos }))) ∧
  (∀ (t : TrackIx) (x : SpareX) (y : SpareY) (s : State), (s.trk t).spX = some x → (s.trk t).tx.at x.target = false → (s.trk t).spY = some y →
    y.acked = false ∨ (s.trk t).rx.at y.target = false → exec (.laneSpareSwitch t true) s = .next s ∧ exec (.laneSpareSwitch t false) s = .next s) ∧
  (∀ (t : TrackIx) (tx : Bool) (p : Nat) (b : Byte) (l : List (Nat × Byte)) (s : State), (if tx then (s.trk t).retireTx else (s.trk t).retireRx) = (p,
    b) :: l → (if tx then (s.trk t).tx.at (b + 1) else (s.trk t).rx.at (b + 1)) = true →
    exec (.laneRetire t tx) s = .next (((s.setFld (retiredFld tx) (setBit (s.fld (retiredFld tx) t) p) t).modTrk t fun x => if tx then
    { x with retireTx := l } else { x with retireRx := l }).repSet { kind := 10, state := 6, unit := t, bank := b2n tx, row := p })) ∧
  (∀ (t : TrackIx) (tx : Bool) (p : Nat) (b : Byte) (l : List (Nat × Byte)) (s : State), (if tx then (s.trk t).retireTx else (s.trk t).retireRx) = (p,
    b) :: l → (if tx then (s.trk t).tx.at (b + 1) else (s.trk t).rx.at (b + 1)) = false → exec (.laneRetire t tx) s = .next s)

/-- TX_L1_ENTRY of a transmitter that may enter L1 by R93 sends an EIE row, reads L1 and ends its block; any other does nothing: with NAP over, L1_EN 0, the replay buffer not empty, or something to send, none may. TX_L1_EXIT in L1, with something to send, NAP over or the host's direction out of L1, reads L0 and begins a wake run of 256 rows with every lane's driver to start anew; else it does nothing. STALL_BEGIN of a READY track in L0 with no packet open stalls its stream, and no other command of it does anything while it is stalled. STALL_END of a stalled direction takes the stream up in the mode before, a held packet waiting for the first block header to decide; it does nothing where the direction is not stalled. PARTIAL_HOLD_EXPIRY at the limit of the hold discards the held packet: it is accounted for, a request among them is answered ABORTED with detail 0x3, its cost is to return in a marked NUL, its later rows are dropped, and HL_PARTIAL_DISCARD is raised; else it does nothing. The model's own choices that bear on it: log entries 13, 128. -/
def Obligations.LaneIdleAndStalls : Prop :=
  (∀ (t : TrackIx) (s : State), s.mayEnterL1 t = true → ∃ u, exec (.txL1Entry t) s = .next u ∧ u.fld Fld.TRK_LSTATE_TX_STATE t = 1 ∧
    (u.trk t).tx.out.kind = .eie ∧ (u.trk t).tx.row = 257 ∧ (u.trk t).rx = (s.trk t).rx) ∧
  (∀ (t : TrackIx) (s : State), s.inState .nap = false ∨ s.flag Fld.TRK_LSTATE_L1_EN t = false ∨ (s.trk t).tx.replay ≠ [] ∨ s.toSend t = true →
    exec (.txL1Entry t) s = .next s) ∧
  (∀ (t : TrackIx) (s : State), s.fld Fld.TRK_LSTATE_TX_STATE t = 1 → s.toSend t = true ∨ s.inState .nap = false ∨ (s.trk t).tx.leave = true →
    ∃ u, exec (.txL1Exit t) s = .next u ∧ u.fld Fld.TRK_LSTATE_TX_STATE t = 0 ∧ (u.trk t).tx.wake = 256 ∧ ∀ p : Nat, (u.txLane t p).on = false ∧
    (u.trk t).rx = (s.trk t).rx) ∧
  (∀ (t : TrackIx) (s : State), s.fld Fld.TRK_LSTATE_TX_STATE t ≠ 1 ∨ (s.toSend t = false ∧ s.inState .nap = true ∧
    (s.trk t).tx.leave = false) → exec (.txL1Exit t) s = .next s) ∧
  (∀ (t : TrackIx) (s : State), s.linkIs t .ready = true → s.fld Fld.TRK_LSTATE_RX_STATE t = 0 → (s.trk t).rx.mode ≠ .stalled → (s.trk t).rx.held = false →
    (s.trk t).rx.cur = none → ∃ u, exec (.stallBegin t) s = .next u ∧ (u.trk t).rx.mode = .stalled ∧ (u.trk t).rx.before = (s.trk t).rx.mode ∧
    (u.trk t).rx.held = false ∧ (u.trk t).rx.ticks = 0) ∧
  (∀ (t : TrackIx) (s : State), s.linkIs t .ready = false ∨ s.fld Fld.TRK_LSTATE_RX_STATE t ≠ 0 → exec (.stallBegin t) s = .next s) ∧
  (∀ (t : TrackIx) (s : State), s.linkIs t .ready = true → (s.trk t).rx.mode = .stalled → ∃ u, exec (.stallBegin t) s = .next u ∧
    (u.trk t).rx = (s.trk t).rx ∧ (u.trk t).tx = (s.trk t).tx) ∧
  (∀ (t : TrackIx) (b : Bool) (s : State), (s.trk t).rx.mode ≠ .stalled → exec (.stallEnd t b) s = .next s) ∧
  (∀ (t : TrackIx) (b : Bool) (s : State), (s.trk t).rx.mode = .stalled → if b then s.fld Fld.TRK_LSTATE_RX_STATE t = 1 ∧
    0 < (s.trk t).rx.wake else s.fld Fld.TRK_LSTATE_RX_STATE t ≠ 1 → ∃ u, exec (.stallEnd t b) s = .next u ∧
    (u.trk t).rx = { (s.trk t).rx with mode := (s.trk t).rx.before, ticks := 0, judge := (s.trk t).rx.held } ∧ (u.trk t).tx = (s.trk t).tx ∧
    (u.trk t).ses = (s.trk t).ses) ∧
  (∀ (t : TrackIx) (c : OpenPkt) (d : Nat) (s v u : State), (s.trk t).rx.held = true → (s.trk t).rx.mode = .stalled →
    (s.trk t).rx.limit ≤ (s.trk t).rx.ticks → (s.trk t).rx.cur = some c → c.accept = true → d = c.left - (s.trk t).rx.late.length →
    (v = (s.modRx t fun x => { x with cur := none, held := false, drop := d, noLamp := decide (c.left ≤ x.late.length), judge := false, late := [] }).account
    t c.pkt) → (u = (if (pktType c.pkt.typ).isReq then v.respond v.ord (respType c.pkt) Status.aborted.code 0x3 else v).modTx t fun x =>
    { x with marked := x.marked ++ [{ tag := c.pkt.tag, seq := c.pkt.seq, req := c.pkt.cost.1, data := c.pkt.cost.2 }] }) →
    exec (.partialHoldExpiry t) s = .next ((u.bump Fld.TRK_PKT_CNT_COUNT t 7).raise .hlPartialDiscard t
    { hlDetail 0 0 c.pkt.seq.toNat with req := some (t, c.pkt.master.toNat, c.pkt.tag.toNat) }) ∧ (u.trk t).rx.cur = none ∧ (u.trk t).rx.held = false ∧
    (u.trk t).rx.drop = d) ∧
  (∀ (t : TrackIx) (s : State), (s.trk t).rx.held = false ∨ (s.trk t).rx.mode ≠ .stalled ∨ (s.trk t).rx.ticks < (s.trk t).rx.limit →
    exec (.partialHoldExpiry t) s = .next s)

/-- An unsequenced NUL's ACK_SEQ frees every packet up to the one it names from the replay buffer; a NUL the lanes have brought leaves the inbox and does no more. ACK_TIMEOUT of a READY track starts a replay from the packet after the last acknowledged one, once ACK_TIMEOUT blocks have passed; with nothing unacknowledged, or before, it does nothing. RETURN_PENDING_TIMEOUT makes a NUL due for returns that have waited 64 row-times, and only for them. PACKET_TRANSMIT of a track that is DISABLED or DOWN sends nothing; a block begins with a header row, every eighth ends with a skip row; an open packet's rows go first; a response is sent for one request-class tablet and its LEN in data tablets and waits in the replay buffer. The model's own choices that bear on it: log entries 7, 13. -/
def Obligations.AcknowledgementAndTransmission : Prop :=
  (∀ (t : TrackIx) (p q : Pkt) (l r : List Pkt) (s : State), s.linkIs t .ready = true → (s.trk t).rx.inbox = [] →
    ({ p with typ := 0 } : Pkt).sequenced = false → ({ p with typ := 0 } : Pkt).headReason = none → p.nak = false → (s.trk t).tx.replay = l ++ q :: r →
    q.seq = p.ackSeq → (∀ y ∈ l, y.seq ≠ p.ackSeq) → ∃ u, exec (.nul t p) s = .next u ∧ (u.trk t).tx.replay = r ∧ (u.trk t).tx.reps = 0 ∧
    u.fld Fld.TRK_PKT_SEQ_TX_ACKED t = p.ackSeq.toNat ∧ u.fld Fld.TRK_PKT_SEQ_UNACKED t = r.length % 2 ^ Fld.TRK_PKT_SEQ_UNACKED.width) ∧
  (∀ (t : TrackIx) (p : Pkt) (n : Nat) (s : State), (s.trk t).rx.inbox = [({ p with typ := 0 }, n)] → ∃ u, exec (.nul t p) s = .next u ∧
    (u.trk t).rx.inbox = [] ∧ (u.trk t).tx = (s.trk t).tx ∧ u.regs = s.regs) ∧
  (∀ (t : TrackIx) (s : State), s.linkIs t .ready = true → s.fld Fld.TRK_PKT_CFG_ACK_TIMEOUT t ≤ (s.trk t).tx.ackBlk → (s.trk t).tx.replay ≠ [] →
    (s.trk t).tx.stalled = true ∨ (s.trk t).tx.reps < s.fld Fld.TRK_PKT_CFG_REPLAY_LIMIT t →
    exec (.ackTimeout t) s = .next ((s.bump Fld.TRK_PKT_CNT_COUNT t 5).modTx t fun y =>
    { y with rep := some (BitVec.ofNat 8 (s.fld Fld.TRK_PKT_SEQ_TX_ACKED t) + 1), repWait := true, reps := y.reps + 1, ackBlk := 0 })) ∧
  (∀ (t : TrackIx) (s : State), s.linkIs t .ready = false ∨ (s.trk t).tx.replay = [] ∨ (s.trk t).tx.ackBlk < s.fld Fld.TRK_PKT_CFG_ACK_TIMEOUT t →
    exec (.ackTimeout t) s = .next s) ∧
  (∀ (t : TrackIx) (s : State), 0 < (s.trk t).tx.retReq ∨ 0 < (s.trk t).tx.retData → 64 ≤ (s.trk t).tx.retRows →
    exec (.returnPendingTimeout t) s = .next (s.modTx t fun x => { x with retDue := true })) ∧
  (∀ (t : TrackIx) (s : State), ((s.trk t).tx.retReq = 0 ∧
    (s.trk t).tx.retData = 0) ∨ (s.trk t).tx.retRows < 64 → exec (.returnPendingTimeout t) s = .next s) ∧
  (∀ (t : TrackIx) (s : State), s.linkIs t .disabled = true ∨ s.linkIs t .down = true → ∃ u, exec (.packetTransmit t) s = .next u ∧
    (u.trk t).tx.out.kind = .idle ∧ (u.trk t).tx.replay = (s.trk t).tx.replay) ∧
  (∀ (t : TrackIx) (s : State), s.resetting = false → s.linkIs t .ready = true → s.fld Fld.TRK_LSTATE_TX_STATE t = 0 → (s.trk t).tx.wake = 0 →
    (s.trk t).tx.row = 0 → ∃ u, exec (.packetTransmit t) s = .next u ∧ (u.trk t).tx.out.kind = .header ∧ (u.trk t).tx.row = 1 ∧
    (u.trk t).tx.blk = (s.trk t).tx.blk) ∧
  (∀ (t : TrackIx) (s : State), s.resetting = false → s.linkIs t .ready = true → s.fld Fld.TRK_LSTATE_TX_STATE t = 0 → (s.trk t).tx.wake = 0 →
    (s.trk t).tx.row = 256 → (s.trk t).tx.blk.toNat % 8 = 7 → ∃ u, exec (.packetTransmit t) s = .next u ∧ (u.trk t).tx.out.kind = .skip ∧
    (u.trk t).tx.row = 257 ∧ (u.trk t).tx.blk = (s.trk t).tx.blk) ∧
  (∀ (t : TrackIx) (s : State), s.resetting = false → s.linkIs t .ready = true → s.fld Fld.TRK_LSTATE_TX_STATE t = 0 → (s.trk t).tx.wake = 0 →
    (s.trk t).tx.row = 256 → (s.trk t).tx.blk.toNat % 8 ≠ 7 → ∃ u, exec (.packetTransmit t) s = .next u ∧ (u.trk t).tx.out.kind = .header ∧
    (u.trk t).tx.row = 1 ∧ (u.trk t).tx.blk = (s.trk t).tx.blk + 1) ∧
  (∀ (t : TrackIx) (r : BitVec 128) (l : List (BitVec 128)) (s : State), s.resetting = false → s.linkIs t .ready = true →
    s.fld Fld.TRK_LSTATE_TX_STATE t = 0 → (s.trk t).tx.wake = 0 → 0 < (s.trk t).tx.row → (s.trk t).tx.row < 256 → (s.trk t).tx.slotLeft = 0 →
    (s.trk t).trn.queue = [] → (s.trk t).trn.set = [] → (s.trk t).tx.rows = r :: l → ∃ u, exec (.packetTransmit t) s = .next u ∧
    (u.trk t).tx.out.kind = .data ∧ (u.trk t).tx.out.bytes = rowBytes r ∧ (u.trk t).tx.rows = l ∧ (u.trk t).tx.row = (s.trk t).tx.row + 1) ∧
  (∀ (t : TrackIx) (x : Resp) (l : List Resp) (s : State), s.resetting = false → s.linkIs t .ready = true → s.fld Fld.TRK_LSTATE_TX_STATE t = 0 →
    (s.trk t).tx.wake = 0 → 0 < (s.trk t).tx.row → (s.trk t).tx.row < 256 → (s.trk t).tx.slotLeft = 0 → (s.trk t).trn.queue = [] → (s.trk t).trn.set = [] →
    (s.trk t).tx.rows = [] → (s.trk t).tx.rep = none → (s.trk t).tx.marked = [] → (s.trk t).tx.urg = [] → s.box.urg = [] →
    s.fld Fld.TRK_PKT_SEQ_UNACKED t < 255 → (s.trk t).tx.resp = x :: l → s.fenceHolds x.ord = false → x.affordable s t = true →
    ∃ u p, exec (.packetTransmit t) s = .next u ∧ (u.trk t).tx.resp = l ∧ (u.trk t).tx.replay = (s.trk t).tx.replay ++ [p] ∧ p.typ = x.typ ∧ p.tag = x.tag ∧
    p.data = x.data ∧ (u.trk t).ses.counts.txr = add32 (s.trk t).ses.counts.txr 1 ∧ (u.trk t).ses.counts.txd = add32 (s.trk t).ses.counts.txd x.data.length)

/-- A request that neither the lanes have brought nor a READY track can take does nothing; one the lanes have brought alone leaves the inbox. A memory request taken is answered MALFORMED with its reason; else, with LEN 0, OK; else with the status of the first check that fails, SIZE, ALIGN, NOADDR in that order; else it goes into the track's request buffer with its lines. SIZE stands for a RD above MAX_LEN and a WRM above 4 units, ALIGN for units across a wagon, NOADDR for a wagon not installed. A FEN taken waits in the buffer. An RRD taken is performed, or waits in the buffer behind a fence. FENCE_RELEASE answers the FEN, and performs the register requests no fence holds any more, once every earlier request of its master on its track has taken effect, LEN 0 aside; before that, or with no FEN of the master in the buffer, it does nothing. The model's own choices that bear on it: log entries 7, 30, 31, 32. -/
def Obligations.RequestsAtTheTrack : Prop :=
  (∀ (i : Instr) (t : TrackIx) (p q : Pkt) (s : State), (i = .rd t p ∧ q = { p with typ := 1 }) ∨ (i = .wr t p ∧ q = { p with typ := 2 }) ∨ (i = .wrm t p ∧
    q = { p with typ := 3 }) ∨ (i = .fen t p ∧ q = { p with typ := 4 }) ∨ (i = .rrd t p ∧
    q = { p with typ := 5 }) → s.canTake t q = false → exec i s = .next s) ∧
  (∀ (t : TrackIx) (p : Pkt) (n : Nat) (s : State), (s.trk t).rx.inbox = [(p, n)] → s.canTake t p = true ∧
    s.takeIn t p = (s.modRx t fun x => { x with inbox := [] }, n)) ∧
  (∀ (i : Instr) (t : TrackIx) (p q : Pkt) (n : Nat) (s v : State) (r : Nat), (i = .rd t p ∧ q = { p with typ := 1 }) ∨ (i = .wr t p ∧
    q = { p with typ := 2 }) ∨ (i = .wrm t p ∧
    q = { p with typ := 3 }) → s.canTake t q = true → (v, n) = s.takeIn t q → v.badReason t q n = some r → exec i s = .next (v.answerBad t q n r)) ∧
  (∀ (i : Instr) (t : TrackIx) (p q : Pkt) (n : Nat) (s v : State), (i = .rd t p ∧ q = { p with typ := 1 }) ∨ (i = .wr t p ∧
    q = { p with typ := 2 }) ∨ (i = .wrm t p ∧
    q = { p with typ := 3 }) → s.canTake t q = true → (v, n) = s.takeIn t q → v.badReason t q n = none → q.len = 0 →
    exec i s = .next (v.answerAt t q n .ok)) ∧
  (∀ (i : Instr) (t : TrackIx) (p q : Pkt) (n : Nat) (s v : State) (st : Status), (i = .rd t p ∧ q = { p with typ := 1 }) ∨ (i = .wr t p ∧
    q = { p with typ := 2 }) ∨ (i = .wrm t p ∧
    q = { p with typ := 3 }) → s.canTake t q = true → (v, n) = s.takeIn t q → v.badReason t q n = none → q.len ≠ 0 → v.memRefusal t q = some st →
    exec i s = .next (v.answerAt t q n st)) ∧
  (∀ (i : Instr) (t : TrackIx) (p q : Pkt) (n : Nat) (s v : State), (i = .rd t p ∧ q = { p with typ := 1 }) ∨ (i = .wr t p ∧
    q = { p with typ := 2 }) ∨ (i = .wrm t p ∧
    q = { p with typ := 3 }) → s.canTake t q = true → (v, n) = s.takeIn t q → v.badReason t q n = none → q.len ≠ 0 → v.memRefusal t q = none →
    ∃ u e, exec i s = .next u ∧ (u.trk t).ses.buf = (v.trk t).ses.buf ++ [e] ∧ (u.trk t).rx.inbox = (v.trk t).rx.inbox ∧ e.pkt = q ∧ e.ord = n ∧
    e.lines = v.jobs q) ∧
  (∀ (t : TrackIx) (p : Pkt) (s : State), p.typ = 1 → s.fld Fld.TRK_TRAIN_STATUS_MAX_LEN t < p.len.toNat → s.memRefusal t p = some .size) ∧
  (∀ (t : TrackIx) (p : Pkt) (s : State), p.typ = 3 → 5 ≤ p.len.toNat → s.memRefusal t p = some .size) ∧
  (∀ (t : TrackIx) (p : Pkt) (s : State), p.typ = 2 → 128 < p.addr.toNat % 128 + p.len.toNat → s.memRefusal t p = some .align) ∧
  (∀ (t : TrackIx) (p : Pkt) (s : State), p.typ = 2 → p.addr.toNat % 128 + p.len.toNat ≤ 128 → s.fab.ucHold = false →
    s.fld Fld.GLB_INSTALLED_WAGONS ≤ p.addr.toNat / 128 → s.memRefusal t p = some .noaddr) ∧
  (∀ (t : TrackIx) (p q : Pkt) (n : Nat) (s v : State), q = { p with typ := 4 } → s.canTake t q = true → (v, n) = s.takeIn t q → v.badReason t q n = none →
    ∃ u, exec (.fen t p) s = .next u ∧ (u.trk t).ses.buf = (v.trk t).ses.buf ++ [{ pkt := q, ord := n }] ∧ u.tags = v.tags ∧ u.regs = v.regs) ∧
  (∀ (t : TrackIx) (p q : Pkt) (n r : Nat) (s v : State), q = { p with typ := 4 } → s.canTake t q = true → (v, n) = s.takeIn t q →
    v.badReason t q n = some r → exec (.fen t p) s = .next (v.answerBad t q n r)) ∧
  (∀ (t : TrackIx) (p q : Pkt) (n : Nat) (s v : State), q = { p with typ := 5 } → s.canTake t q = true → (v, n) = s.takeIn t q → v.badReason t q n = none →
    v.fenceBefore n = false → exec (.rrd t p) s = .next (v.doReg t q n)) ∧
  (∀ (t : TrackIx) (p q : Pkt) (n : Nat) (s v : State), q = { p with typ := 5 } → s.canTake t q = true → (v, n) = s.takeIn t q → v.badReason t q n = none →
    v.fenceBefore n = true → ∃ u, exec (.rrd t p) s = .next u ∧ (u.trk t).ses.buf = (v.trk t).ses.buf ++ [{ pkt := q, ord := n }] ∧ u.regs = v.regs) ∧
  (∀ (t : TrackIx) (p q : Pkt) (n r : Nat) (s v : State), q = { p with typ := 5 } → s.canTake t q = true → (v, n) = s.takeIn t q →
    v.badReason t q n = some r → exec (.rrd t p) s = .next (v.answerBad t q n r)) ∧
  (∀ (t : TrackIx) (m : BitVec 6) (f : BufEnt) (g : OpenTag) (s : State),
    (((s.trk t).ses.buf.find? fun e => e.pkt.master = m && pktType e.pkt.typ = .fen) = some f) → s.openTag f.ord = some g →
    (∀ o ∈ s.tags, o.track = g.track → o.master = g.master → o.ord < f.ord → o.zero = false → o.eff = true) →
    exec (.fenceRelease t m) s = .next ((List.finRange 32).foldl (fun (s : State) u => s.freeRegs u) ((s.modSes t fun x =>
    { x with buf := x.buf.filter fun e => e.ord != f.ord }).answerAt t f.pkt f.ord .ok))) ∧
  (∀ (t : TrackIx) (m : BitVec 6) (f : BufEnt) (g o : OpenTag) (s : State),
    (((s.trk t).ses.buf.find? fun e => e.pkt.master = m && pktType e.pkt.typ = .fen) = some f) → s.openTag f.ord = some g → o ∈ s.tags → o.track = g.track →
    o.master = g.master → o.ord < f.ord → o.zero = false → o.eff = false → exec (.fenceRelease t m) s = .next s) ∧
  (∀ (t : TrackIx) (m : BitVec 6) (s : State), (∀ e ∈ (s.trk t).ses.buf, e.pkt.master = m → e.pkt.typ ≠ 4) → exec (.fenceRelease t m) s = .next s)

/-- TS1 starts a LINK retrain of a READY track with reason 0x20, a cold attempt of a DOWN track, and in phases 1 to 4 lets the lanes advance; on a disabled track or in a reset it does nothing. TS2 counts in phase 4 alone. A content the lanes have accepted comes before a command's own. CAP in phase 5 fails the attempt with reason 0x12 where it does not fit, records MAX_LEN where it does, and with ACK begins phase 6; on a READY track one with UPDATE and ACK answers the announcement. SMAP in phase 6 begins phase 7 once each side drives the other's proposal and no tablet of an earlier session is held, and fails the attempt with reason 0x11 where no proposal can be made. GRANT in phase 7 begins a FRESH session with empty counters, or resumes the running one, and with ACK begins phase 8; one that does not fit fails the attempt with its reason. RDY in phase 8 is noted; in another phase it does nothing. The last row of the fourth RDY slot after it makes the track READY. The model's own choices that bear on it: log entries 8, 10, 13, 18. -/
def Obligations.TrainingContents : Prop :=
  (∀ (t : TrackIx) (x : TsContent) (l : BitVec 18) (k : List Nat) (s : State), s.resetting = false → s.linkIs t .ready = true →
    exec (.ts1Rx t x l k) s = .next ((s.takeSet t .ts1).retrain t 0x20)) ∧
  (∀ (t : TrackIx) (x : TsContent) (l : BitVec 18) (k : List Nat) (s : State), s.resetting = false → s.linkIs t .down = true →
    exec (.ts1Rx t x l k) s = .next ((s.takeSet t .ts1).beginAttempt t false)) ∧
  (∀ (t : TrackIx) (x : TsContent) (l : BitVec 18) (k : List Nat) (s : State), s.resetting = false → s.linkIs t .training = true →
    s.fld Fld.TRK_TRAIN_STATUS_PHASE t ≤ 4 →
    exec (.ts1Rx t x l k) s = .next (((((s.slotLanes t .ts1 l).takeSet t .ts1).modTrn t fun y => { y with ts2 := 0 }).advance t k))) ∧
  (∀ (t : TrackIx) (x : TsContent) (l : BitVec 18) (k : List Nat) (s : State), s.resetting = true ∨ s.linkIs t .disabled = true →
    exec (.ts1Rx t x l k) s = .next s) ∧
  (∀ (t : TrackIx) (s : State), (s.beginAttempt t false).linkIs t .training = true ∧ (s.beginAttempt t false).fld Fld.TRK_TRAIN_STATUS_PHASE t = 1 ∧
    (s.beginAttempt t false).fld Fld.TRK_TRAIN_STATUS_ATTEMPT t = 0) ∧
  (∀ (t : TrackIx) (x : TsContent) (l : BitVec 18) (k : List Nat) (s : State), s.inPhase t 4 = true →
    exec (.ts2Rx t x l k) s = .next (((((s.slotLanes t .ts2 l).takeSet t .ts2).modTrn t fun y => { y with ts2 := min 8 (y.ts2 + 1) }).advance t k))) ∧
  (∀ (t : TrackIx) (x : TsContent) (l : BitVec 18) (k : List Nat) (s : State), s.inPhase t 4 = false → exec (.ts2Rx t x l k) s = .next s) ∧
  (∀ (t : TrackIx) (x : CapContent) (e : SetIn) (s : State), s.setIn t .cap = some e → exec (.capRx t x) s = exec (.capRx t (capOf e)) (s.takeSet t .cap)) ∧
  (∀ (t : TrackIx) (x : SmapContent) (e : SetIn) (s : State), s.setIn t .smap = some e →
    exec (.smapRx t x) s = exec (.smapRx t (smapOf e)) (s.takeSet t .smap)) ∧
  (∀ (t : TrackIx) (x : GrantContent) (e : SetIn) (s : State), s.setIn t .grant = some e →
    exec (.grantRx t x) s = exec (.grantRx t (grantOf e)) (s.takeSet t .grant)) ∧
  (∀ (t : TrackIx) (x : CapContent) (s : State), s.inPhase t 5 = true → s.setIn t .cap = none →
    x.version ≠ 1 ∨ x.role = 1 ∨ x.maxLen = 0 ∨ 9 ≤ x.maxLen.toNat → exec (.capRx t x) s = .next ((s.takeSet t .cap).failAttempt t 0x12)) ∧
  (∀ (t : TrackIx) (x : CapContent) (s : State), s.inPhase t 5 = true → s.setIn t .cap = none → x.version = 1 → x.role ≠ 1 → x.maxLen ≠ 0 →
    x.maxLen.toNat < 9 → x.ack = false → ∃ u, exec (.capRx t x) s = .next u ∧ u.fld Fld.TRK_TRAIN_STATUS_MAX_LEN t = x.maxLen.toNat ∧ u.inPhase t 5 = true ∧
    (u.trk t).trn.mine = true) ∧
  (∀ (t : TrackIx) (x : CapContent) (m : List Nat) (s : State), s.inPhase t 5 = true → s.setIn t .cap = none → x.version = 1 → x.role ≠ 1 → x.maxLen ≠ 0 →
    x.maxLen.toNat < 9 → x.ack = true → s.proposal t 0 = some m → ∃ u, exec (.capRx t x) s = .next u ∧
    u.fld Fld.TRK_TRAIN_STATUS_MAX_LEN t = x.maxLen.toNat ∧ u.inPhase t 6 = true ∧ (u.trk t).trn.rxMap = m) ∧
  (∀ (t : TrackIx) (x : CapContent) (s : State), s.linkIs t .ready = true → s.setIn t .cap = none → (s.trk t).trn.capUpdate = true → x.update = true →
    x.ack = true → exec (.capRx t x) s = .next ((s.takeSet t .cap).modTrn t fun y => { y with capAnswered := true })) ∧
  (∀ (t : TrackIx) (x : SmapContent) (s : State), s.inPhase t 6 = true → s.setIn t .smap = none → s.proposal t x.unusable.toNat = none →
    exec (.smapRx t x) s = .next ((s.takeSet t .smap).failAttempt t 0x11)) ∧
  (∀ (t : TrackIx) (x : SmapContent) (m : List Nat) (s : State), s.inPhase t 6 = true → s.setIn t .smap = none → s.proposal t x.unusable.toNat = some m →
    x.rxMap.length = 16 → (∀ q ∈ x.rxMap, (s.txBad t).testBit q.val = false) → x.txMap.map (·.val) = m → x.ack = true →
    s.fld Fld.TRK_TRAIN_STATUS_SESSION t = 1 ∨ s.oldHeld t = false → ∃ u, exec (.smapRx t x) s = .next u ∧ u.inPhase t 7 = true ∧ (u.trk t).trn.rxMap = m ∧
    (u.trk t).trn.txMap = x.rxMap.map (·.val)) ∧
  (∀ (t : TrackIx) (x : SmapContent) (m : List Nat) (s : State), s.inPhase t 6 = true → s.setIn t .smap = none → s.proposal t x.unusable.toNat = some m →
    x.rxMap.length = 16 → (∀ q ∈ x.rxMap, (s.txBad t).testBit q.val = false) → x.txMap.map (·.val) = m → x.ack = true →
    s.fld Fld.TRK_TRAIN_STATUS_SESSION t ≠ 1 → s.oldHeld t = true → ∃ u, exec (.smapRx t x) s = .next u ∧ u.inPhase t 6 = true ∧
    (u.trk t).trn.agreed = true) ∧
  (∀ (t : TrackIx) (x : GrantContent) (s : State), s.inPhase t 7 = true → s.setIn t .grant = none → s.fld Fld.TRK_TRAIN_STATUS_SESSION t ≠ 1 →
    x.resume = true → exec (.grantRx t x) s = .next ((s.takeSet t .grant).failAttempt t 0x14)) ∧
  (∀ (t : TrackIx) (x : GrantContent) (s : State), s.inPhase t 7 = true → s.setIn t .grant = none → s.fld Fld.TRK_TRAIN_STATUS_SESSION t ≠ 1 →
    x.resume = false → s.oldHeld t = true → exec (.grantRx t x) s = .next (s.takeSet t .grant)) ∧
  (∀ (t : TrackIx) (x : GrantContent) (s : State), s.inPhase t 7 = true → s.setIn t .grant = none → s.fld Fld.TRK_TRAIN_STATUS_SESSION t ≠ 1 →
    x.resume = false → s.oldHeld t = false → x.req.toNat = 0 ∨ x.data.toNat < 8 →
    exec (.grantRx t x) s = .next (((s.takeSet t .grant).raise .tabGrantReject t (hlDetail 0 0x13 0)).failAttempt t 0x13)) ∧
  (∀ (t : TrackIx) (x : GrantContent) (s : State), s.inPhase t 7 = true → s.setIn t .grant = none → s.fld Fld.TRK_TRAIN_STATUS_SESSION t ≠ 1 →
    x.resume = false → s.oldHeld t = false → 1 ≤ x.req.toNat → 8 ≤ x.data.toNat → x.ack = true → ∃ u, exec (.grantRx t x) s = .next u ∧
    u.inPhase t 8 = true ∧ u.fld Fld.TRK_TRAIN_STATUS_SESSION t = 1 ∧ u.fld Fld.TRK_PKT_SEQ_TX_NEXT t = 0 ∧ u.fld Fld.TRK_PKT_SEQ_RX_LAST t = 0xFF ∧
    u.fld Fld.TRK_POOL_TX_REQ_FREE t = x.req.toNat ∧ u.fld Fld.TRK_POOL_TX_DATA_FREE t = x.data.toNat ∧ (u.trk t).ses.counts = {} ∧
    (u.trk t).tx.replay = []) ∧
  (∀ (t : TrackIx) (x : GrantContent) (s : State), s.inPhase t 7 = true → s.setIn t .grant = none → s.fld Fld.TRK_TRAIN_STATUS_SESSION t = 1 →
    x.resume = true → x.req.toNat = s.fld Fld.TRK_PEER_GRANT_REQ t → x.data.toNat = s.fld Fld.TRK_PEER_GRANT_DATA t → x.lastValid = false → x.ack = true →
    ∃ u, exec (.grantRx t x) s = .next u ∧ u.inPhase t 8 = true ∧ (u.trk t).ses = (s.trk t).ses ∧ (u.trk t).tx.replay = (s.trk t).tx.replay ∧
    (u.trk t).tx.resp = (s.trk t).tx.resp) ∧
  (∀ (t : TrackIx) (s : State), s.inPhase t 8 = true → (s.trk t).trn.rdy = none →
    exec (.rdyRx t) s = .next ((s.takeSet t .rdy).modTrn t fun x => { x with mine := true, rdy := some 0 })) ∧
  (∀ (t : TrackIx) (s : State), s.inPhase t 8 = false → exec (.rdyRx t) s = .next (s.takeSet t .rdy)) ∧
  (∀ (t : TrackIx) (s : State), s.resetting = false → s.inPhase t 8 = true → s.fld Fld.TRK_LSTATE_TX_STATE t = 2 → (s.trk t).tx.wake = 0 →
    0 < (s.trk t).tx.row → (s.trk t).tx.row < 256 → ((s.trk t).tx.row - 1) % 15 = 14 → (s.trk t).tx.slotLeft = 1 → (s.trk t).tx.slot.typ = SetType.rdy.code →
    (s.trk t).trn.rdy = some 3 → (s.trk t).trn.lastRx = none → ∃ u, exec (.packetTransmit t) s = .next u ∧ u.linkIs t .ready = true ∧
    u.fld Fld.TRK_TRAIN_STATUS_ATTEMPT t = 0 ∧ u.fld Fld.TRK_LSTATE_TX_STATE t = 0 ∧ u.fld Fld.TRK_LSTATE_RX_STATE t = 0)

/-- TRAIN_PHASE_TIMEOUT in phases 4 to 8 raises HL_TRAIN_TIMEOUT and fails the attempt for that phase, but for a phase 4 that is done and a phase 6 that is agreed while an earlier session's tablets are held; in phases 1 to 3 with a lane already past them on all usable lanes it lets the training advance; outside training it does nothing. TRAIN_RETRY_PERIOD begins a cold attempt of an enabled DOWN track under AUTO_RETRY, once the period has passed, and does nothing else. Four RESET sets in a row are a CHIP reset with CAUSE 4 while RESET_ACCEPT is 1, else they raise HL_RESET_REFUSED; fewer, or another content, reset nothing. FOV_RX on a READY partner moves the session once the device's own FOV has gone out: what the track had to answer is answered on the partner, which takes its tag range; before, the device notes it and has its own FOV sent; on a track that is not READY, not the partner, or of a track without session it moves nothing. The model's own choices that bear on it: log entries 13, 21, 24, 122. -/
def Obligations.TrainingTimersResetsAndFailover : Prop :=
  (∀ (t : TrackIx) (s : State), s.linkIs t .training = true → 4 ≤ s.fld Fld.TRK_TRAIN_STATUS_PHASE t →
    s.fld Fld.TRK_TRAIN_STATUS_PHASE t ≠ 4 ∨ s.phase4Done t = false →
    s.fld Fld.TRK_TRAIN_STATUS_PHASE t ≠ 6 ∨ (s.trk t).trn.agreed = false ∨ s.oldHeld t = false →
    exec (.trainPhaseTimeout t) s = .next ((s.raise .hlTrainTimeout t (hlDetail 0 (s.fld Fld.TRK_TRAIN_STATUS_PHASE t) 0)).failAttempt t (s.fld
    Fld.TRK_TRAIN_STATUS_PHASE t))) ∧
  (∀ (t : TrackIx) (s : State), s.linkIs t .training = true → (s.fld Fld.TRK_TRAIN_STATUS_PHASE t = 4 ∧
    s.phase4Done t = true) ∨ (s.fld Fld.TRK_TRAIN_STATUS_PHASE t = 6 ∧ (s.trk t).trn.agreed = true ∧
    s.oldHeld t = true) → exec (.trainPhaseTimeout t) s = .next s) ∧
  (∀ (t : TrackIx) (s : State), s.linkIs t .training = true → s.fld Fld.TRK_TRAIN_STATUS_PHASE t ≤ 3 →
    (∀ p < 18, s.fld Fld.TRK_TRAIN_STATUS_PHASE t < s.lanePhase t p) → s.usableLanes t ≠ [] → exec (.trainPhaseTimeout t) s = .next (s.advance t [])) ∧
  (∀ (t : TrackIx) (s : State), s.linkIs t .training = false → exec (.trainPhaseTimeout t) s = .next s) ∧
  (∀ (t : TrackIx) (s : State), s.linkIs t .down = true → s.flag Fld.HLC_TRAIN_CFG_AUTO_RETRY = true → s.flag Fld.TRK_TRAIN_CTL_EN t = true →
    s.fld Fld.HLC_TRAIN_CFG_RETRY_PERIOD ≤ (s.trk t).trn.ticks → exec (.trainRetryPeriod t) s = .next (s.beginAttempt t false)) ∧
  (∀ (t : TrackIx) (s : State), s.linkIs t .down = false ∨ s.flag Fld.HLC_TRAIN_CFG_AUTO_RETRY = false ∨ s.flag Fld.TRK_TRAIN_CTL_EN t = false ∨ (s.trk
    t).trn.ticks < s.fld Fld.HLC_TRAIN_CFG_RETRY_PERIOD → exec (.trainRetryPeriod t) s = .next s) ∧
  (∀ (t : TrackIx) (n : Nat) (s : State), 4 ≤ n → s.resetting = false → s.flag Fld.HLC_LINK_CFG_RESET_ACCEPT = true →
    ∃ u, exec (.resetSetRx t 0x50494843 n) s = .next u ∧ u.resetting = true ∧ u.fld Fld.GLB_STATE_CAUSE = 4 ∧ u.trks = [] ∧ u.chans = [] ∧
    u.vmap.mem = s.vmap.mem ∧ u.rep.copy = s.rep.copy) ∧
  (∀ (t : TrackIx) (n : Nat) (s : State), 4 ≤ n → n < 8 → s.resetting = false → s.flag Fld.HLC_LINK_CFG_RESET_ACCEPT = false →
    exec (.resetSetRx t 0x50494843 n) s = .next (((s.takeSet t .reset).modTrn t fun x => { x with reset := 0 }).raise .hlResetRefused t)) ∧
  (∀ (t : TrackIx) (c : BitVec 32) (n : Nat) (s : State), n < 4 ∨ c ≠ 0x50494843 ∨ s.resetting = true →
    exec (.resetSetRx t c n) s = .next ((s.takeSet t .reset).modTrn t fun x => { x with reset := 0 })) ∧
  (∀ (t : TrackIx) (x : FovContent) (e : SetIn) (s : State), s.setIn t .fov = some e → exec (.fovRx t x) s = exec (.fovRx t (fovOf e)) (s.takeSet t .fov)) ∧
  (∀ (u : TrackIx) (x : FovContent) (s : State), s.linkIs u .ready = true → s.setIn u .fov = none → s.fld Fld.HLC_FOV_MAP_PARTNER 0 x.track = u.val →
    x.track ≠ u → s.fld Fld.TRK_TRAIN_STATUS_SESSION x.track = 1 → (s.trk x.track).fov.sent = true → ∃ r, exec (.fovRx u x) s = .next r ∧
    (r.trk x.track).tx.resp = [] ∧ (r.trk x.track).tx.replay = [] ∧ r.fld Fld.TRK_TRAIN_STATUS_SESSION x.track = 2 ∨ s.resetting = false ∧
    (r.trk u).ses.carries = (s.trk u).ses.carries ++ [x.track.val] ++ (s.trk x.track).ses.carries) ∧
  (∀ (u : TrackIx) (x : FovContent) (s : State), s.linkIs u .ready = true → s.setIn u .fov = none → s.fld Fld.HLC_FOV_MAP_PARTNER 0 x.track = u.val →
    x.track ≠ u → s.fld Fld.TRK_TRAIN_STATUS_SESSION x.track = 1 → (s.trk x.track).fov.sent = false →
    exec (.fovRx u x) s = .next (((s.takeSet u .fov).modFov x.track fun y => { y with got := some x.sRx }).startFailover x.track)) ∧
  (∀ (u : TrackIx) (x : FovContent) (s : State), s.setIn u .fov = none →
    s.linkIs u .ready = false ∨ s.fld Fld.HLC_FOV_MAP_PARTNER 0 x.track ≠ u.val ∨ x.track = u ∨ s.fld Fld.TRK_TRAIN_STATUS_SESSION x.track ≠ 1 →
    exec (.fovRx u x) s = .next (s.takeSet u .fov))

/-- CENSUS_INTERVAL, once INTERVAL ticks have passed, with EN set starts a round on every READY track, numbered one on, and on no other; with EN 0 it only begins the count of ticks anew, and before it does nothing. CENSUS_REPEAT has the round's content sent again 16 blocks after it went out while the host's is awaited, and does nothing else. CEN_RX of the running round, with its S_TX accepted, ends it: RESULT 1 where the account of R125 held at the cut and the host's counters are the device's records, else RESULT 2 and TAB_CENSUS_MISMATCH; with its S_TX not yet accepted it waits; of another round it ends nothing. CENSUS_REPLY_TIMEOUT, REPLY ticks after the content went out, ends it with RESULT 3 and TAB_CENSUS_TIMEOUT; after two in a row the track retrains with reason 0x25; where no round waits, it does nothing. The model's own choices that bear on it: log entries 13, 26, 27. -/
def Obligations.Census : Prop :=
  (∀ s : State, s.cenTicks < s.fld Fld.HLC_CENSUS_CFG_INTERVAL → exec .censusInterval s = .next s) ∧
  (∀ s : State, s.fld Fld.HLC_CENSUS_CFG_INTERVAL ≤ s.cenTicks → s.flag Fld.HLC_CENSUS_CFG_EN = false →
    exec .censusInterval s = .next { s with cenTicks := 0 }) ∧
  (∀ s : State, s.fld Fld.HLC_CENSUS_CFG_INTERVAL ≤ s.cenTicks → s.flag Fld.HLC_CENSUS_CFG_EN = true → ∃ u, exec .censusInterval s = .next u ∧
    u.cenTicks = 0 ∧ ∀ t < 32, s.linkIs t .ready = true → (u.trk t).cen.waiting = true ∧
    u.fld Fld.TRK_CENSUS_STATUS_ROUND t = (s.fld Fld.TRK_CENSUS_STATUS_ROUND t + 1) % 256 ∧ ∀ t < 32, s.linkIs t .ready = false → u.trk t = s.trk t) ∧
  (∀ (t : TrackIx) (s : State), (s.trk t).cen.waiting = true → (s.trk t).cen.cut.isSome = true → 16 ≤ (s.trk t).cen.blocks →
    SetReq.cen ∉ (s.trk t).trn.queue → exec (.censusRepeat t) s = .next (s.modTrn t fun x => { x with queue := x.queue ++ [.cen] })) ∧
  (∀ (t : TrackIx) (s : State), (s.trk t).cen.waiting = false ∨ (s.trk t).cen.cut = none ∨ (s.trk t).cen.blocks < 16 → exec (.censusRepeat t) s = .next s) ∧
  (∀ (t : TrackIx) (x : CenContent) (e : SetIn) (s : State), s.setIn t .cen = some e → exec (.cenRx t x) s = exec (.cenRx t (cenOf e)) (s.takeSet t .cen)) ∧
  (∀ (t : TrackIx) (x : CenContent) (r : BitVec 32 × BitVec 32 × BitVec 32) (s : State), (s.trk t).cen.waiting = true → s.linkIs t .ready = true →
    s.setIn t .cen = none → x.round.toNat = s.fld Fld.TRK_CENSUS_STATUS_ROUND t → s.hasAccepted t x.sTx = true → recAt (s.trk t).ses.rxRec x.sTx = some r →
    (s.trk t).cen.ok = true → recAt (s.trk t).ses.txRec x.sRx = some (x.counts.rxr, x.counts.rxd, x.counts.acc) →
    r = (x.counts.rrr, x.counts.rrd, x.counts.iss) → ∃ u, exec (.cenRx t x) s = .next u ∧ u.fld Fld.TRK_CENSUS_STATUS_RESULT t = 1 ∧
    (u.trk t).cen.waiting = false ∧ (u.trk t).cen.timeouts = 0) ∧
  (∀ (t : TrackIx) (x : CenContent) (r : BitVec 32 × BitVec 32 × BitVec 32) (s : State), (s.trk t).cen.waiting = true → s.linkIs t .ready = true →
    s.setIn t .cen = none → x.round.toNat = s.fld Fld.TRK_CENSUS_STATUS_ROUND t → s.hasAccepted t x.sTx = true → recAt (s.trk t).ses.rxRec x.sTx = some r →
    (s.trk t).cen.ok = false ∨ recAt (s.trk t).ses.txRec x.sRx ≠ some (x.counts.rxr, x.counts.rxd, x.counts.acc) ∨ r ≠ (x.counts.rrr, x.counts.rrd,
    x.counts.iss) → exec (.cenRx t x) s = .next (((((s.takeSet t .cen).modCen t fun z => { z with got := some x }).modCen t fun z =>
    { z with waiting := false, timeouts := 0, got := none }).setFld Fld.TRK_CENSUS_STATUS_RESULT 2 t).raise .tabCensusMismatch t)) ∧
  (∀ (t : TrackIx) (x : CenContent) (s : State), (s.trk t).cen.waiting = true → s.linkIs t .ready = true → s.setIn t .cen = none →
    x.round.toNat = s.fld Fld.TRK_CENSUS_STATUS_ROUND t → s.hasAccepted t x.sTx = false →
    exec (.cenRx t x) s = .next ((s.takeSet t .cen).modCen t fun z => { z with got := some x })) ∧
  (∀ (t : TrackIx) (x : CenContent) (s : State), s.setIn t .cen = none →
    (s.trk t).cen.waiting = false ∨ s.linkIs t .ready = false ∨ x.round.toNat ≠ s.fld Fld.TRK_CENSUS_STATUS_ROUND t →
    exec (.cenRx t x) s = .next (s.takeSet t .cen)) ∧
  (∀ (t : TrackIx) (s : State), (s.trk t).cen.waiting = true → (s.trk t).cen.cut.isSome = true → (s.trk t).cen.got = none →
    s.fld Fld.HLC_CENSUS_CFG_REPLY ≤ (s.trk t).cen.ticks → (s.trk t).cen.timeouts = 0 →
    exec (.censusReplyTimeout t) s = .next (((s.setFld Fld.TRK_CENSUS_STATUS_RESULT 3 t).modCen t fun z => { z with waiting := false, timeouts := 1 }).raise
    .tabCensusTimeout t)) ∧
  (∀ (t : TrackIx) (s : State), (s.trk t).cen.waiting = true → (s.trk t).cen.cut.isSome = true → (s.trk t).cen.got = none →
    s.fld Fld.HLC_CENSUS_CFG_REPLY ≤ (s.trk t).cen.ticks → (s.trk t).cen.timeouts = 1 →
    exec (.censusReplyTimeout t) s = .next ((((s.setFld Fld.TRK_CENSUS_STATUS_RESULT 3 t).modCen t fun z => { z with waiting := false, timeouts := 0 }).raise
    .tabCensusTimeout t).retrain t 0x25)) ∧
  (∀ (t : TrackIx) (s : State), (s.trk t).cen.waiting = false ∨ (s.trk t).cen.cut = none ∨ (s.trk t).cen.got.isSome = true ∨ (s.trk t).cen.ticks < s.fld
    Fld.HLC_CENSUS_CFG_REPLY → exec (.censusReplyTimeout t) s = .next s)

/-- A train that arrives while the data columns' receivers are shut, or without sync on any column, leaves everything but the count of missed columns. A good line of the awaited read train that passes its check gives its entry the line and, when it was the entry's last, the entry's answer OK with the bytes read. A delivered train that carries none of its lines is reissued whole; one nothing awaits is stale; a captured one is lost and the refreshes of the window are repeated; a collided one has its lines reissued and the write trains still awaiting their WACK resent. An awaited train that does not come by its slack is reissued; before that, or with no such train, READ_TRAIN_TIMEOUT does nothing. DECODE_COMPLETE hands a decoded line on; a line that stays in error raises VL_DECODE_FAIL and is reissued; an idle decoder changes nothing. A decoder in service and idle whose self-check fails raises VL_DECODER_FAULT and is to leave the pool; one whose check is good changes nothing. The model's own choices that bear on it: log entries 13, 18, 20. -/
def Obligations.ReadTrainsAndDecoders : Prop :=
  (∀ (c : ChanIx) (x : RdArrival) (s : State), s.dataShut c = true → exec (.readTrainDelivered c x) s = .next s) ∧
  (∀ (c : ChanIx) (x : RdArrival) (s : State), s.dataShut c = false → arrivalOf (s.rxSet c x) = .missed →
    exec (.readTrainDelivered c x) s = .next (s.bump Fld.VLQ_CNT_COUNT (c.val / 16) 1 (s.rxSet c x).length)) ∧
  (∀ (c : ChanIx) (x : RdArrival) (sl : RdSlot) (t : Train) (l : TLine) (e : Ent) (j : LineJob) (s : State), s.dataShut c = false →
    arrivalOf (s.rxSet c x) = .delivered → x.cal = false → x.slots = [sl] → (s.chan c).out = [t] → t.write = false → t.tid = x.tid.val → t.lines = [l] →
    l.use = .host → l.ix = 0 → (s.chan c).q = [e] → e.ord = l.ord → e.kind = .rd → e.res = none → e.lines = [j] → controlGood sl.ctl t.tid = true →
    lineSyndrome sl.code = (0, 0) → s.erasedIn c 0 (s.rxSet c x) = false → checkLine (codeLine sl.code) = (.clean, .clean, codeLine sl.code) →
    ∃ u y, exec (.readTrainDelivered c x) s = .next u ∧ (u.chan c).q = [y] ∧ (u.chan c).out = [] ∧ y.ord = e.ord ∧
    y.lines = [{ j with st := .done, got := codeLine sl.code, pois := false }] ∧
    y.res = some { status := 0, detail := 0, data := y.readData, ready := max s.cc j.due }) ∧
  (∀ (c : ChanIx) (x : RdArrival) (t : Train) (s v : State), s.dataShut c = false → arrivalOf (s.rxSet c x) = .delivered → x.cal = false → x.slots = [] →
    (s.chan c).out = [t] → t.write = false → t.tid = x.tid.val → t.lines ≠ [] →
    v = (s.rxSet c x).foldl (fun (s : State) r => s.noteCol c true r) (s.bump Fld.VLQ_CNT_COUNT (c.val / 16) 0) →
    exec (.readTrainDelivered c x) s = .next ((((v.modChan c fun y => { y with out := [] }).noteMiss c false).reissue c t t.lines))) ∧
  (∀ (c : ChanIx) (x : RdArrival) (s v : State), s.dataShut c = false → arrivalOf (s.rxSet c x) = .delivered → x.cal = false → (s.chan c).out = [] →
    v = (s.rxSet c x).foldl (fun (s : State) r => s.noteCol c true r) (s.bump Fld.VLQ_CNT_COUNT (c.val / 16) 0) →
    exec (.readTrainDelivered c x) s = .next (v.stale c)) ∧
  (∀ (c : ChanIx) (x : RdArrival) (s : State), s.dataShut c = false → arrivalOf (s.rxSet c x) = .captured → x.cal = false →
    exec (.readTrainDelivered c x) s = .next ((((s.rxSet c x).foldl (fun (s : State) r => if r.second.isSome then s.noteColl c r.col.val else s) (s.bump
    Fld.VLQ_CNT_COUNT (c.val / 16) 2)).repeatRefresh c))) ∧
  (∀ (c : ChanIx) (x : RdArrival) (t : Train) (s v : State), s.dataShut c = false → arrivalOf (s.rxSet c x) = .collided → x.cal = false →
    (s.chan c).out = [t] → t.write = false → t.tid = x.tid.val →
    v = (s.rxSet c x).foldl (fun (s : State) r => s.noteCol c false r) ((s.bump Fld.VLQ_CNT_COUNT (c.val / 16) 0).bump Fld.VLQ_CNT_COUNT (c.val / 16) 3) →
    exec (.readTrainDelivered c x) s = .next ((v.modChan c fun y => { y with out := [] }).collidedRx c (some t))) ∧
  (∀ (c : ChanIx) (n : Fin 32) (t : Train) (s : State), (s.chan c).out = [t] → t.write = false → t.tid = n.val →
    t.lands + 8 * s.fld Fld.LAY_XCFG_RD_SLACK (layIx c) ≤ 15 * s.cc →
    exec (.readTrainTimeout c n) s = .next ((((s.modChan c fun y => { y with out := [] }).noteMiss c true).reissue c t t.lines))) ∧
  (∀ (c : ChanIx) (n : Fin 32) (s : State), (∀ t ∈ (s.chan c).out,
    t.write = true ∨ t.tid ≠ n.val ∨ 15 * s.cc < t.lands + 8 * s.fld Fld.LAY_XCFG_RD_SLACK (layIx c)) → exec (.readTrainTimeout c n) s = .next s) ∧
  (∀ (d : Fin 18) (r : Option (BitVec 576)) (k : Nat) (s : State), Store.find s.codec.busy d.val = none → exec (.decodeComplete d r k) s = .next s) ∧
  (∀ (d : Fin 18) (y : BitVec 576) (k : Nat) (j : CodecJob) (s u : State), Store.find s.codec.busy d.val = some j →
    u = ((({ s with codec := { s.codec with busy := Store.del s.codec.busy d.val } } : State).bump Fld.INT_CODEC_CNT_COUNT 0 1 (min k (s.fld
    Fld.INT_CODEC_CFG_MAX_ITER))).bump Fld.INT_CODEC_CNT_COUNT 0 2).lineIn j.chan j.train j.line y →
    exec (.decodeComplete d (some y) k) s = .next u.poolFlow) ∧
  (∀ (d : Fin 18) (k : Nat) (j : CodecJob) (e : Option Ent) (s v u : State), Store.find s.codec.busy d.val = some j →
    v = (({ s with codec := { s.codec with busy := Store.del s.codec.busy d.val } } : State).bump Fld.INT_CODEC_CNT_COUNT 0 1 (min k (s.fld
    Fld.INT_CODEC_CFG_MAX_ITER))).bump Fld.INT_CODEC_CNT_COUNT 0 3 → e = (v.chan j.chan).ent j.line.ord →
    u = v.raise .vlDecodeFail j.chan { lineInfo j.chan j.train.bank j.train.row j.line.col 1 (j.chan * 2 ^ 6) e with access := if e.isSome then 1 else 4 } →
    exec (.decodeComplete d none k) s = .next ((u.reissue j.chan j.train [j.line]).poolFlow)) ∧
  (∀ (d : Fin 18) (s : State), exec (.decoderSelfCheck d true) s = .next s) ∧
  (∀ (d : Fin 18) (s : State), (s.fld Fld.INT_CODEC_STATUS_ACTIVE).testBit d.val = true → Store.find s.codec.busy d.val = none → d.val ∉ s.codec.removed →
    exec (.decoderSelfCheck d false) s = .next (({ s with codec := { s.codec with removed := s.codec.removed ++ [d.val], bad := d.val :: s.codec.bad } } :
    State).raise .vlDecoderFault 0))

/-- While the command columns' receivers are shut a WACK or WNAK is not received. A WACK of an awaited write train of one host line makes the line done and, when it was the entry's last, the entry's answer OK without data. A WACK or WNAK nothing awaits is stale. A WNAK of an awaited train counts, raises VL_WNAK with its reason and has the train resent, as does the want of a WACK by its slack: the train waits for its turn, marked as sent again, and no longer counts as outstanding; before the slack has passed WACK_TIMEOUT does nothing. The model's own choices that bear on it: log entries 13, 18. -/
def Obligations.WriteTrainAcknowledgements : Prop :=
  (∀ (c : ChanIx) (b : BankIx) (n : Fin 32) (s : State), s.cmdShut c = true → exec (.wackRx c b n) s = .next s ∧
    ∀ r : Fin 8, exec (.wnakRx c b n r) s = .next s) ∧
  (∀ (c : ChanIx) (b : BankIx) (n : Fin 32) (t : Train) (l : TLine) (e : Ent) (j : LineJob) (s : State), s.cmdShut c = false → (s.chan c).out = [t] →
    t.write = true → t.tid = n.val → t.bank = b.val → t.job = 0 → t.lines = [l] → l.use = .host → l.ix = 0 → (s.chan c).q = [e] → e.ord = l.ord →
    e.kind = .wr → e.res = none → e.lines = [j] → ∃ u y, exec (.wackRx c b n) s = .next u ∧ (u.chan c).q = [y] ∧ (u.chan c).out = [] ∧ y.ord = e.ord ∧
    y.lines = [{ j with st := .done, got := 0, pois := false }] ∧ y.res = some { status := 0, ready := max s.cc j.due }) ∧
  (∀ (c : ChanIx) (b : BankIx) (n : Fin 32) (s : State), s.cmdShut c = false → (∀ t ∈ (s.chan c).out, t.write = false ∨ t.tid ≠ n.val ∨ t.bank ≠ b.val) →
    exec (.wackRx c b n) s = .next (s.stale c) ∧ ∀ r : Fin 8, exec (.wnakRx c b n r) s = .next (s.stale c)) ∧
  (∀ (c : ChanIx) (b : BankIx) (n : Fin 32) (r : Fin 8) (t : Train) (s : State), s.cmdShut c = false → (s.chan c).out = [t] → t.write = true →
    t.tid = n.val → t.bank = b.val →
    exec (.wnakRx c b n r) s = .next ((((s.bump Fld.LAY_CNT_COUNT (layIx c) 4).raise .vlWnak c (vlDetail c 0 0 r.val)).resend c t))) ∧
  (∀ (c : ChanIx) (n : Fin 32) (t : Train) (s : State), (s.chan c).out = [t] → t.write = true → t.tid = n.val →
    t.lands + 8 * s.fld Fld.LAY_XCFG_ACK_SLACK (layIx c) ≤ 15 * s.cc → exec (.wackTimeout c n) s = .next ((s.noteMiss c true).resend c t)) ∧
  (∀ (c : ChanIx) (n : Fin 32) (s : State), (∀ t ∈ (s.chan c).out,
    t.write = false ∨ t.tid ≠ n.val ∨ 15 * s.cc < t.lands + 8 * s.fld Fld.LAY_XCFG_ACK_SLACK (layIx c)) → exec (.wackTimeout c n) s = .next s) ∧
  (∀ (c : ChanIx) (t : Train) (s : State), (s.chan c).out = [t] → (s.chan c).failed + 1 < s.fld Fld.LAY_XCFG_REISSUE_LIMIT (layIx c) →
    t.lines.filter (s.wanted c) ≠ [] → ((s.resend c t).chan c).out = [] ∧
    { t with again := true, lines := t.lines.filter (s.wanted c) } ∈ ((s.resend c t).chan c).prio)

/-- While the command columns' receivers are shut no answer is received. An answer on a bundle that awaits none is stale. CFGH_RX of the awaited GETCFG answer lets its words in, or ends it where it reports an error; each CFGD_RX adds one and the last ends the command. CDONE_RX ends the command it answers; a switch's write refused is launched again. An answer missed is asked for again up to four times; with none awaited nothing happens. CERR_RX counts, raises VL_CMD_ERR and, where it names the awaited command, has it sent again as if its answer were missed. ALRM_RX is answered with ALAK, recorded, and has recent refreshes repeated; a number seen last on the layer does nothing more, a new one counts, raises VL_CORE_ALARM and acts by its cause. The model's own choices that bear on it: log entries 13, 18, 70. -/
def Obligations.CoreDieAnswers : Prop :=
  (∀ (b : ChanIx) (s : State), s.cmdShut b = true → (∀ (l : LayerIx) (a n : Nat) (e : Bool), exec (.cfghRx b l a n e) s = .next s) ∧
    (∀ v, exec (.cfgdRx b v) s = .next s) ∧ (∀ (l : LayerIx) (o : BitVec 5) (f : Bool) (d : BitVec 16), exec (.cdoneRx b l o f d) s = .next s) ∧
    (∀ (l : LayerIx) (o : BitVec 5) (n : Bool), exec (.cerrRx b l o n) s = .next s) ∧
    (∀ (l : LayerIx) (n a : Byte) (d : BitVec 12), exec (.alrmRx b l n a d) s = .next s)) ∧
  (∀ (b : ChanIx) (s : State), s.cmdShut b = false → s.cfgHead b = none →
    (∀ (l : LayerIx) (a n : Nat) (e : Bool), exec (.cfghRx b l a n e) s = .next (s.stale b)) ∧ (∀ v, exec (.cfgdRx b v) s = .next (s.stale b)) ∧
    (∀ (l : LayerIx) (o : BitVec 5) (f : Bool) (d : BitVec 16), exec (.cdoneRx b l o f d) s = .next (s.stale b)) ∧
    (∀ (l : LayerIx) (o : BitVec 5) (n : Bool), exec (.cerrRx b l o n) s = .next ((s.bump Fld.LAY_CNT_COUNT (layIx b) 1).raise .vlCmdErr b (vlDetail b)))) ∧
  (∀ (b : ChanIx) (s : State), s.cfgHead b = none → exec (.configResponseMissed b) s = .next s) ∧
  (∀ (b : ChanIx) (l : LayerIx) (k : CfgCmd) (s : State), s.cmdShut b = false → s.vert.cfg = [k] → k.bundle = b.val → k.op = 0x10 → l.val = k.layer →
    k.head = false → exec (.cfghRx b l k.addr k.count false) s = .next { s with vert := { s.vert with cfg := [{ k with head := true }] } }) ∧
  (∀ (b : ChanIx) (l : LayerIx) (k : CfgCmd) (s : State), s.cmdShut b = false → s.vert.cfg = [k] → k.bundle = b.val → k.op = 0x10 → l.val = k.layer →
    k.head = false → k.use = .other → exec (.cfghRx b l k.addr k.count true) s = .next { s with vert := { s.vert with cfg := [] } }) ∧
  (∀ (b : ChanIx) (k : CfgCmd) (v : BitVec 32) (s : State), s.cmdShut b = false → s.vert.cfg = [k] → k.bundle = b.val → k.head = true →
    k.got.length + 1 < k.count → exec (.cfgdRx b v) s = .next { s with vert := { s.vert with cfg := [{ k with got := k.got ++ [v.toNat] }] } }) ∧
  (∀ (b : ChanIx) (k : CfgCmd) (v : BitVec 32) (l : Nat) (s : State), s.cmdShut b = false → s.vert.cfg = [k] → k.bundle = b.val → k.head = true →
    k.count ≤ k.got.length + 1 → k.use = .gains l → ∃ u, exec (.cfgdRx b v) s = .next u ∧ u.vert.cfg = [] ∧
    (Store.get u.thm.layers l {}).means = some (k.got ++ [v.toNat])) ∧
  (∀ (b : ChanIx) (k : CfgCmd) (l : LayerIx) (o : BitVec 5) (d : BitVec 16) (f : Bool) (s : State), s.cmdShut b = false → s.vert.cfg = [k] →
    k.bundle = b.val → k.op = o.toNat → k.layer = l.val → k.use = .other → exec (.cdoneRx b l o f d) s = .next { s with vert := { s.vert with cfg := [] } }) ∧
  (∀ (b : ChanIx) (k : CfgCmd) (l : LayerIx) (o : BitVec 5) (d : BitVec 16) (x y z : Nat) (s : State), s.cmdShut b = false → s.vert.cfg = [k] →
    k.bundle = b.val → k.op = o.toNat → k.layer = l.val → k.use = .switch x y z → exec (.cdoneRx b l o true d) s = .next (s.launchCfg k)) ∧
  (∀ (b : ChanIx) (k : CfgCmd) (s : State), s.vert.cfg = [k] → k.bundle = b.val → k.use = .other → k.tries < 3 →
    exec (.configResponseMissed b) s = .next ((({ s with vert := { s.vert with cfg := [{ k with tries := k.tries + 1, head := false, got := [] }] } } :
    State).launchCfg k))) ∧
  (∀ (b : ChanIx) (k : CfgCmd) (s : State), s.vert.cfg = [k] → k.bundle = b.val → k.use = .other → 3 ≤ k.tries →
    exec (.configResponseMissed b) s = .next { s with vert := { s.vert with cfg := [] } }) ∧
  (∀ (b : ChanIx) (l : LayerIx) (o : BitVec 5) (n : Bool) (k : CfgCmd) (s u : State), s.cmdShut b = false →
    u = (s.bump Fld.LAY_CNT_COUNT (layIx b) 1).raise .vlCmdErr b (vlDetail b) → u.cfgHead b = some k →
    exec (.cerrRx b l o n) s = .next ((if o.toNat = k.op ∨ o = 0 then u.cfgMissed b else u))) ∧
  (∀ (b : ChanIx) (l : LayerIx) (n a : Byte) (d : BitVec 12) (s u : State), s.cmdShut b = false →
    u = (((((s.launch b [(0x18, l.val + 16 * n.toNat)]).setFld Fld.LAY_ALARM_NUMBER n.toNat l).setFld Fld.LAY_ALARM_CAUSE a.toNat l).setFld
    Fld.LAY_ALARM_DETAIL d.toNat l)).repeatRefresh b → Store.get u.vert.alarms l 0 = n.toNat + 1 → exec (.alrmRx b l n a d) s = .next u) ∧
  (∀ (b : ChanIx) (l : LayerIx) (n a : Byte) (d : BitVec 12) (s u : State), s.cmdShut b = false →
    u = (((((s.launch b [(0x18, l.val + 16 * n.toNat)]).setFld Fld.LAY_ALARM_NUMBER n.toNat l).setFld Fld.LAY_ALARM_CAUSE a.toNat l).setFld
    Fld.LAY_ALARM_DETAIL d.toNat l)).repeatRefresh b → Store.get u.vert.alarms l 0 ≠ n.toNat + 1 →
    exec (.alrmRx b l n a d) s = .next ((((({ u with vert := { u.vert with alarms := Store.set u.vert.alarms l 0 (n.toNat + 1) } } : State).bump
    Fld.LAY_CNT_COUNT l 6).raise .vlCoreAlarm b (vlDetail b 0 0 a.toNat n.toNat)).alarmCause l a.toNat d.toNat)))

/-- COLLISION_WINDOW_END, once WINDOW ticks have passed, restarts the counts of every column of the quadrant and of no other; before, it does nothing. GEAR_WINDOW_END leaves bundles that are not trained, or whose window has not run its frames, alone; of a trained one whose window has, each column in use takes the margin loop, here said of one. Under GEAR_FREEZE a window in which no receiver met MIN_CHIPS begins no switch and spares no column. GEAR_SWITCH_ACK_DEADLINE, two frames before a gear switch's frame, cancels one that some far end has not acknowledged and none has, and the switch fails; an acknowledged one stays, and before that nothing happens. GEAR_SWITCH_EFFECTIVE puts the new gear in force at its frame, counting the step up or raising VL_GEAR_DOWN, or the spare column in service, and not before. VL_PLL_UNLOCK notes the quadrant's PLL as lost and raises its source. The model's own choices that bear on it: log entries 13, 53. -/
def Obligations.GearsAndCollisionWindows : Prop :=
  (∀ (q : QuadIx) (s : State), s.fld Fld.VLQ_COLL_CFG_WINDOW q ≤ Store.get s.vert.coll q 0 → ∃ u, exec (.collisionWindowEnd q) s = .next u ∧
    ∀ i < 16, (u.bund (16 * q.val + i)).coll = [] ∧ ∀ b : Nat, b / 16 ≠ q.val → u.bund b = s.bund b ∧ u.regs = s.regs) ∧
  (∀ (q : QuadIx) (s : State), Store.get s.vert.coll q 0 < s.fld Fld.VLQ_COLL_CFG_WINDOW q → exec (.collisionWindowEnd q) s = .next s) ∧
  (∀ (q : QuadIx) (far : List GearCount) (s : State), (∀ i < 16,
    (s.bund (16 * q.val + i)).up = false ∨ (s.bund (16 * q.val + i)).win < s.fld Fld.VLQ_GEAR_CFG_WINDOW q) → exec (.gearWindowEnd q far) s = .next s) ∧
  (∀ (q : QuadIx) (j : Fin 16) (n : ColIx) (b : Nat) (far : List GearCount) (s : State), b = 16 * q.val + j.val → (∀ i < 16, i ≠ j.val →
    (s.bund (16 * q.val + i)).up = false) → (s.bund b).up = true → s.fld Fld.VLQ_GEAR_CFG_WINDOW q ≤ (s.bund b).win → s.col Fld.VLQ_COL_ROLE b n = 0 →
    s.col Fld.VLQ_COL_GEAR b n ≠ 0 → (∀ m < 64, m ≠ n.val → s.col Fld.VLQ_COL_ROLE b m ≠ 0 ∨ s.col Fld.VLQ_COL_GEAR b m = 0) →
    exec (.gearWindowEnd q far) s = .next ((s.modBund b fun x => { x with win := 0 }).gearLoop b n (((far.find? fun r => r.b.val = b && r.col.val =
    n.val).map fun r => r.far).getD []))) ∧
  (∀ (q : QuadIx) (s : State), s.flag Fld.VLQ_CTL_GEAR_FREEZE q = true → s.fld Fld.VLQ_CAL_CFG_MIN_CHIPS q ≠ 0 → (∀ b : Nat, (s.bund b).nc = []) →
    ∃ u, exec (.gearWindowEnd q []) s = .next u ∧ ∀ b : Nat, (u.bund b).sw = (s.bund b).sw ∧ (u.bund b).serves = (s.bund b).serves ∧
    (u.bund b).up = (s.bund b).up) ∧
  (∀ (b : ChanIx) (n : ColIx) (s : State), (((s.bund b).sw.filter fun w => w.col = n.val) = []) → exec (.gearSwitchAckDeadline b n) s = .next s ∧
    exec (.gearSwitchEffective b n) s = .next s) ∧
  (∀ (b : ChanIx) (n : ColIx) (w : Switch) (s : State), (s.bund b).sw = [w] → w.col = n.val →
    w.cancel = true ∨ w.due = [] ∨ s.fld Fld.TT_TIME_FRAME + 2 < w.frame → exec (.gearSwitchAckDeadline b n) s = .next s) ∧
  (∀ (b : ChanIx) (n : ColIx) (w : Switch) (s u : State), (s.bund b).sw = [w] → w.col = n.val → w.cancel = false → w.due ≠ [] → w.acked = [] → w.spare = 0 →
    w.frame ≤ s.fld Fld.TT_TIME_FRAME + 2 → s.vert.cfg = [] →
    (u = ((s.modBund b fun x => { x with sw := [{ w with cancel := true, due := [], acked := [] }] }).setCol Fld.VLQ_COL_GEAR_NEXT 0 b n)) →
    exec (.gearSwitchAckDeadline b n) s = .next (u.raise .vlGearSwitchFail (b.val / 16) (vlDetail b n))) ∧
  (∀ (b : ChanIx) (n : ColIx) (w : Switch) (s : State), (s.bund b).sw = [w] → w.col = n.val → s.fld Fld.TT_TIME_FRAME < w.frame ∨ (w.cancel = false ∧
    w.due ≠ []) → exec (.gearSwitchEffective b n) s = .next s) ∧
  (∀ (b : ChanIx) (n : ColIx) (w : Switch) (s u : State), (s.bund b).sw = [w] → w.col = n.val → w.cancel = false → w.due = [] → w.spare = 0 →
    w.frame ≤ s.fld Fld.TT_TIME_FRAME →
    (u = (((s.modBund b fun x => { x with sw := [] }).setCol Fld.VLQ_COL_GEAR_NEXT 0 b n).setCal Fld.VLQ_COL_GEAR w.gear b n)) →
    exec (.gearSwitchEffective b n) s = .next (if s.col Fld.VLQ_COL_GEAR b n < w.gear then (u.bump Fld.VLQ_CNT_COUNT (b.val / 16) 4).raise .vlGearDown b
    (vlDetail b n) else u.bump Fld.VLQ_CNT_COUNT (b.val / 16) 5)) ∧
  (∀ (b : ChanIx) (n : ColIx) (w : Switch) (s : State), (s.bund b).sw = [w] → w.col = n.val → w.cancel = false → w.due = [] → w.spare ≠ 0 →
    w.frame ≤ s.fld Fld.TT_TIME_FRAME → exec (.gearSwitchEffective b n) s = .next ((s.modBund b fun x => { x with sw := [] }).serveCol b n w.spare)) ∧
  (∀ (q : QuadIx) (s : State), q.val ∉ s.vert.pllLost →
    exec (.vlPllUnlock q) s = .next (({ s with vert := { s.vert with pllLost := q.val :: s.vert.pllLost } } : State).raise .vlPllUnlock q)) ∧
  (∀ (q : QuadIx) (s : State), q.val ∈ s.vert.pllLost → exec (.vlPllUnlock q) s = .next (s.raise .vlPllUnlock q))

/-- RELAY_LOSS_DECLARED of a relay already lost, or by missed trains with fewer than two in a row, does nothing. Otherwise the junction's relay counts as lost: every channel above it waits for its path, its trains in flight are to be sent again, its bundles carry none. RELAY_FLAG_RESTORED of a lost relay begins the training of the segment above, from V2, or from V1 through the top segment where the spine was lost too; of another it does nothing. The model's own choices that bear on it: log entry 13. -/
def Obligations.RelayLossAndReturn : Prop :=
  (∀ (h : Fin 3) (r : Bool) (s : State), s.vert.relayLost.contains (h.val + 1) = true ∨ (r = false ∧
    Store.get s.vert.misses (h.val + 1) 0 < 2) → exec (.relayLossDeclared h r) s = .next s) ∧
  (∀ (h : Fin 3) (r : Bool) (s : State), s.vert.relayLost.contains (h.val + 1) = false → r = true ∨ 2 ≤ Store.get s.vert.misses (h.val + 1) 0 →
    ∃ u, exec (.relayLossDeclared h r) s = .next u ∧ (h.val + 1) ∈ u.vert.relayLost ∧ ∀ c, 16 * (h.val + 1) ≤ c → c < 64 → (u.chan c).path = true ∧
    (u.chan c).out = [] ∧ (u.bund c).up = false) ∧
  (∀ (h : Fin 3) (b : Bool) (s : State), s.vert.relayLost.contains (h.val + 1) = false → exec (.relayFlagRestored h b) s = .next s) ∧
  (∀ (h : Fin 3) (b : Bool) (s : State), s.vert.relayLost.contains (h.val + 1) = true → ∃ u j, exec (.relayFlagRestored h b) s = .next u ∧
    u.vert.relayLost.contains (h.val + 1) = false ∧ j ∈ u.vert.trains ∧ j.seg = h.val + 1 ∧ j.phase = (if b then 1 else 2) ∧
    j.last = (if b then 3 else h.val + 1) ∧ j.relay = true)

/-- MIGRATION_START takes the oldest row passed to repair when its bank is free and no migration runs, chooses its resource and reads the row, or reports that none is left; with none waiting, or one running, it does nothing. HREP_ISSUE sends the next SOFT entry of a die that has no HREP in progress, one at a time, and with fusing off nothing. HREP_TIMEOUT, 1,024 x HREP_LIMIT ticks after it, ends the HREP: the entry stays SOFT with one more failure and REP_HREP_FAIL is raised; before that, or with none in progress, nothing happens. VMAP_ROW_REPLACE of a word that needs correction the first time raises INT_VMAP_CE, again its row is replaced; one that cannot be corrected reads valid in all 64 wagons, raises INT_VMAP_UC and has its row replaced. VMAP_SWEEP_DONE ends the sweep of a CLEAR. The model's own choices that bear on it: log entries 13, 46. -/
def Obligations.RepairJobs : Prop :=
  (∀ (c : ChanIx) (s : State), (s.chan c).migQ = [] ∨ (s.chan c).mig.isSome = true → exec (.migrationStart c) s = .next s) ∧
  (∀ (c : ChanIx) (m : BadRow) (l : List BadRow) (row : Nat) (r : Resource) (s u v : State), (s.chan c).migQ = m :: l → (s.chan c).mig = none →
    (s.chan c).resetting = false → (s.chan c).test = false ∨ s.bst.kind = 0 → s.bankFree c m.bank = true → s.engineRuns c = true →
    (u = (s.modChan c fun y => { y with migQ := l })) → row = (u.hostRow c m.bank m.row).getD m.row → v = u.markServing c m.bank row →
    v.chooseRes c m.bank row (u.caseOf c m.bank row) = some r → ∃ t, exec (.migrationStart c) s = .next t ∧
    (t.chan c).mig.map (fun g => (g.bank, g.row, g.res, g.step)) = some (m.bank, row, r, .read)) ∧
  (∀ (c : ChanIx) (m : BadRow) (l : List BadRow) (row : Nat) (s u v : State), (s.chan c).migQ = m :: l → (s.chan c).mig = none →
    (s.chan c).resetting = false → (s.chan c).test = false ∨ s.bst.kind = 0 → s.bankFree c m.bank = true → s.engineRuns c = true →
    (u = (s.modChan c fun y => { y with migQ := l })) → row = (u.hostRow c m.bank m.row).getD m.row → v = u.markServing c m.bank row →
    v.chooseRes c m.bank row (u.caseOf c m.bank row) = none → exec (.migrationStart c) s = .next (v.exhausted c m.bank row)) ∧
  (∀ (l : LayerIx) (s : State), s.fld Fld.REP_CFG_FUSE ≠ 2 → s.fld Fld.REP_CFG_FUSE ≠ 1 → exec (.hrepIssue l) s = .next s) ∧
  (∀ (l : LayerIx) (e : RepEnt) (s : State), (l.val, e) ∈ s.rep.hreps → exec (.hrepIssue l) s = .next s) ∧
  (∀ (l : LayerIx) (e : RepEnt) (s : State), s.rep.hreps = [] → s.fld Fld.REP_CFG_FUSE = 2 → s.rep.copy.find? (s.wantsFuse l) = some e →
    ∃ t, exec (.hrepIssue l) s = .next t ∧ t.rep.hreps = [(l.val, e)] ∧ t.rep.copy = s.rep.copy ∧ t.vert.cfg.length = s.vert.cfg.length + 1 ∧
    Store.get t.rep.hrepAt l 0 = s.ticks) ∧
  (∀ (l : LayerIx) (e : RepEnt) (s v : State), s.rep.hreps = [(l.val, e)] → Store.get s.rep.hrepAt l 0 + 1024 * s.fld Fld.REP_CFG_HREP_LIMIT ≤ s.ticks →
    v = ((({ s with rep := { s.rep with hreps := [], tried := e :: s.rep.tried } } : State).bump Fld.REP_CNT_COUNT 0 5).repSet
    { e with fails := min 2 (e.fails + 1) }) →
    exec (.hrepTimeout l) s = .next (v.raise .repHrepFail 0
    { detail := repDetail e.bank (some (if e.kind = 4 then .spare (({ s with rep := { s.rep with hreps := [], tried := e :: s.rep.tried } } : State).groupIndex e) else e.resource)), loc := some (e.unit, l.val + 1, e.bank, e.row, 0) }))
    ∧
  (∀ (l : LayerIx) (s : State), (∀ h ∈ s.rep.hreps, h.1 ≠ l.val) ∨ s.ticks < Store.get s.rep.hrepAt l 0 + 1024 * s.fld Fld.REP_CFG_HREP_LIMIT →
    exec (.hrepTimeout l) s = .next s) ∧
  (∀ (w : Nat) (b : Bool) (s : State), 393216 ≤ w → exec (.vmapRowReplace w b) s = .next s) ∧
  (∀ (w : Nat) (s : State), w < 393216 → w ∉ s.vmap.once →
    exec (.vmapRowReplace w false) s = .next (({ s with vmap := { s.vmap with once := w :: s.vmap.once } } : State).raise .intVmapCe)) ∧
  (∀ (w : Nat) (s : State), w < 393216 → w ∈ s.vmap.once → exec (.vmapRowReplace w false) s = .next ((s.raise .intVmapCe).replaceMapRow (w / 16))) ∧
  (∀ (w : Nat) (s u : State), w < 393216 → (u = (s.upTo 8 fun k s => s.setVByte (8 * w + k) 0xFF)) →
    exec (.vmapRowReplace w true) s = .next ((u.raise .intVmapUc).replaceMapRow (w / 16)) ∧ ∀ k < 64, u.vbit (64 * w + k) = true) ∧
  (∀ s : State, ∃ t, exec .vmapSweepDone s = .next t ∧ t.fld Fld.INT_VMAP_STATUS_SWEEPING = 0 ∧ t.vmap = s.vmap)

/-- Each register command does what REG_WRITE does with the address of its register under the block map, the size of the register, and the word written, the command bit of the row set in it; TARGET_RUN, TARGET_NAP and TARGET_PARK put 0, 1 and 2 into TARGET. The model's own choices that bear on it: log entry 94. -/
def Obligations.RegisterCommandsAreWritesOfTheirRegister : Prop :=
  (∀ (x : WSrc) (w : BitVec 64) (s : State), exec (.ttFrameLoad x w) s = exec (.regWrite x 8 0x001008 w) s) ∧
  (∀ (x : WSrc) (w : BitVec 32) (s : State),
    exec (.ttStageHold x w) s = exec (.regWrite x 4 0x001010 (w.zeroExtend 64)) s ∧
    exec (.snapGo x w) s = exec (.regWrite x 4 0x000014 ((w ||| 0x00000001).zeroExtend 64)) s ∧
    exec (.rwlLock x w) s = exec (.regWrite x 4 0x000010 ((w ||| 0x00000001).zeroExtend 64)) s ∧
    exec (.targetRun x w) s = exec (.regWrite x 4 0x000084 ((w &&& 0xFFFFFFFC).zeroExtend 64)) s ∧
    exec (.targetNap x w) s = exec (.regWrite x 4 0x000084 ((w &&& 0xFFFFFFFC ||| 1).zeroExtend 64)) s ∧
    exec (.targetPark x w) s = exec (.regWrite x 4 0x000084 ((w &&& 0xFFFFFFFC ||| 2).zeroExtend 64)) s ∧
    exec (.widenGo x w) s = exec (.regWrite x 4 0x000084 ((w ||| 0x00000100).zeroExtend 64)) s ∧
    exec (.glbResetChip x w) s = exec (.regWrite x 4 0x000090 ((w ||| 0x80000000).zeroExtend 64)) s ∧
    exec (.glbBlockRstGo x w) s = exec (.regWrite x 4 0x000094 ((w ||| 0x80000000).zeroExtend 64)) s ∧
    exec (.vmapClear x w) s = exec (.regWrite x 4 0x0A0008 ((w ||| 0x00000001).zeroExtend 64)) s ∧
    exec (.repCommit x w) s = exec (.regWrite x 4 0x0B0004 ((w ||| 0x00000001).zeroExtend 64)) s ∧
    exec (.fuseGo x w) s = exec (.regWrite x 4 0x0B0004 ((w ||| 0x00000010).zeroExtend 64)) s ∧
    exec (.pendingClr x w) s = exec (.regWrite x 4 0x0B0004 ((w ||| 0x00000100).zeroExtend 64)) s ∧
    exec (.chtestGo x w) s = exec (.regWrite x 4 0x0C0034 ((w ||| 0x00000100).zeroExtend 64)) s ∧
    exec (.bstAbort x w) s = exec (.regWrite x 4 0x0C0004 ((w ||| 0x00000100).zeroExtend 64)) s ∧
    exec (.sealVoid x w) s = exec (.regWrite x 4 0x0C0004 ((w ||| 0x00000010).zeroExtend 64)) s ∧
    exec (.calCommit x w) s = exec (.regWrite x 4 0x0F0004 ((w ||| 0x80000000).zeroExtend 64)) s ∧
    exec (.winRdGo x w) s = exec (.regWrite x 4 0x0F0004 ((w ||| 0x00000010).zeroExtend 64)) s ∧
    exec (.winProgGo x w) s = exec (.regWrite x 4 0x0F0004 ((w ||| 0x00000100).zeroExtend 64)) s ∧
    exec (.winEraseGo x w) s = exec (.regWrite x 4 0x0F0004 ((w ||| 0x00000200).zeroExtend 64)) s) ∧
  (∀ (x : WSrc) (t : TrackIx) (w : BitVec 32) (s : State),
    exec (.laneSpareGo x t w) s = exec (.regWrite x 4 (BitVec.ofNat 24 (0x01000C + 0x800 * t)) ((w ||| 0x00000010).zeroExtend 64)) s ∧
    exec (.laneCntClr x t w) s = exec (.regWrite x 4 (BitVec.ofNat 24 (0x01000C + 0x800 * t)) ((w ||| 0x00000001).zeroExtend 64)) s ∧
    exec (.spareStateWrite x t false w) s = exec (.regWrite x 4 (BitVec.ofNat 24 (0x010000 + 0x800 * t)) (w.zeroExtend 64)) s ∧
    exec (.spareStateWrite x t true w) s = exec (.regWrite x 4 (BitVec.ofNat 24 (0x010004 + 0x800 * t)) (w.zeroExtend 64)) s ∧
    exec (.trainRetrain x t w) s = exec (.regWrite x 4 (BitVec.ofNat 24 (0x010500 + 0x800 * t)) ((w ||| 0x00000010).zeroExtend 64)) s ∧
    exec (.fovGo x t w) s = exec (.regWrite x 4 (BitVec.ofNat 24 (0x010500 + 0x800 * t)) ((w ||| 0x00000100).zeroExtend 64)) s ∧
    ∀ p : LaneIx,
      exec (.prbsCtlWrite x t p w) s = exec (.regWrite x 4 (BitVec.ofNat 24 (0x010050 + 0x800 * t + 0x40 * p)) (w.zeroExtend 64)) s ∧
      exec (.injGo x t p w) s = exec (.regWrite x 4 (BitVec.ofNat 24 (0x010054 + 0x800 * t + 0x40 * p)) ((w ||| 0x80000000).zeroExtend 64)) s) ∧
  (∀ (x : WSrc) (c : ChanIx) (w : BitVec 32) (s : State),
    exec (.chnEnWrite x c w) s = exec (.regWrite x 4 (BitVec.ofNat 24 (0x040000 + 0x400 * c)) (w.zeroExtend 64)) s ∧
    exec (.chnBlkRst x c w) s = exec (.regWrite x 4 (BitVec.ofNat 24 (0x040000 + 0x400 * c)) ((w ||| 0x00000010).zeroExtend 64)) s ∧
    exec (.chnSwap x c w) s = exec (.regWrite x 4 (BitVec.ofNat 24 (0x040000 + 0x400 * c)) ((w ||| 0x00000100).zeroExtend 64)) s ∧
    exec (.flipArm x c w) s = exec (.regWrite x 4 (BitVec.ofNat 24 (0x040300 + 0x400 * c)) ((w ||| 0x00000100).zeroExtend 64)) s) ∧
  (∀ (x : WSrc) (w : BitVec 32) (s : State),
    exec (.bwrGuaranteeWrite x .cfg w) s = exec (.regWrite x 4 0x060000 (w.zeroExtend 64)) s ∧
    exec (.bwrGuaranteeWrite x .deliv w) s = exec (.regWrite x 4 0x060008 (w.zeroExtend 64)) s ∧
    (∀ m : Fin 64, exec (.bwrGuaranteeWrite x (.mguar m) w) s = exec (.regWrite x 4 (BitVec.ofNat 24 (0x060100 + 0x20 * m)) (w.zeroExtend 64)) s) ∧
    (∀ i : Fin 95, exec (.reactWrite x i w) s = exec (.regWrite x 4 (BitVec.ofNat 24 (0x0D0400 + 4 * i)) (w.zeroExtend 64)) s)) ∧
  (∀ (x : WSrc) (q : QuadIx) (w : BitVec 32) (s : State),
    exec (.vlqRetuneGo x q w) s = exec (.regWrite x 4 (BitVec.ofNat 24 (0x080000 + 0x4000 * q)) ((w ||| 0x00010000).zeroExtend 64)) s ∧
    exec (.vlqRetrain x q w) s = exec (.regWrite x 4 (BitVec.ofNat 24 (0x080000 + 0x4000 * q)) ((w ||| 0x00000010).zeroExtend 64)) s) ∧
  (∀ (x : WSrc) (l : LayerIx) (w : BitVec 32) (s : State),
    exec (.colSpareGo x l w) s = exec (.regWrite x 4 (BitVec.ofNat 24 (0x090424 + 0x400 * l)) ((w ||| 0x00010000).zeroExtend 64)) s ∧
    exec (.relayRst x l w) s = exec (.regWrite x 4 (BitVec.ofNat 24 (0x090424 + 0x400 * l)) ((w ||| 0x00000002).zeroExtend 64)) s ∧
    exec (.crst x l w) s = exec (.regWrite x 4 (BitVec.ofNat 24 (0x090424 + 0x400 * l)) ((w ||| 0x00000001).zeroExtend 64)) s)

/-- REG_WRITE over the link of a whole register that no rule refuses performs the write and answers RRS with OK; one that a rule refuses is recorded as refused and answered with that status; one that the checks of SIZE, ALIGN and BUSERR stop is recorded and answered with theirs. Where the track takes no packet, nothing happens; a malformed RWR is answered MALFORMED; behind a fence of its master it waits in the track request buffer. Through the port an accepted write leaves the same state, but for the wrapper, which holds the result of the scan; with no power or in a reset only the wrapper changes, and in HOLD nothing. The model's own choices that bear on it: log entries 94 to 96. -/
def Obligations.RegisterWritesArePerformedOrRefused : Prop :=
  (∀ (t : TrackIx) (m : BitVec 6) (g : BitVec 14) (size : BitVec 8) (a : BitVec 24) (v : BitVec 64) (s : State), v.toNat < 2 ^ (8 * size.toNat) →
    s.accepts (.link t m g) size.toNat a.toNat v.toNat = true →
    exec (.regWrite (.link t m g) size a v) s = .next ((((s.atFabric (.link t m g) size.toNat a.toNat v.toNat).perform (regHit a.toNat) v.toNat).respond
    (s.takeIn t (s.rwrPkt t m g size.toNat a.toNat v.toNat)).2 0x12 0 0))) ∧
  (∀ (size : BitVec 8) (a : BitVec 24) (v : BitVec 64) (s : State), v.toNat < 2 ^ (8 * size.toNat) → s.accepts .port size.toNat a.toNat v.toNat = true →
    ∃ z, exec (.regWrite .port size a v) s = .next z ∧
    z = { (s.atFabric .port size.toNat a.toNat v.toNat).perform (regHit a.toNat) v.toNat with wrap := z.wrap } ∧
    z.wrap.result = some (BitVec.ofNat 64 (2 ^ 29 + (if size = 8 then a.toNat + 4 else a.toNat)))) ∧
  (∀ (t : TrackIx) (m : BitVec 6) (g : BitVec 14) (size : BitVec 8) (a : BitVec 24) (v : BitVec 64) (u s : State) (st : Status),
    v.toNat < 2 ^ (8 * size.toNat) → s.arrives (.link t m g) size.toNat a.toNat v.toNat = true → u = s.atFabric (.link t m g) size.toNat a.toNat v.toNat →
    wholeReg size.toNat a.toNat = true → u.answers a.toNat = true → u.refusal (regHit a.toNat) v.toNat = some st →
    exec (.regWrite (.link t m g) size a v) s = .next (((u.voteRegs (regHit a.toNat).xs).refused (.link t m g) (regHit a.toNat) st a.toNat v.toNat).respond
    (s.takeIn t (s.rwrPkt t m g size.toNat a.toNat v.toNat)).2 0x12 st.code 0)) ∧
  (∀ (t : TrackIx) (m : BitVec 6) (g : BitVec 14) (size : BitVec 8) (a : BitVec 24) (v : BitVec 64) (u s : State) (st : Status),
    s.arrives (.link t m g) size.toNat a.toNat v.toNat = true → u = s.atFabric (.link t m g) size.toNat a.toNat v.toNat →
    u.access true false size.toNat a.toNat = .error st →
    exec (.regWrite (.link t m g) size a v) s = .next (((u.noteBad (.link t m g) true st a.toNat).respond (s.takeIn t (s.rwrPkt t m g size.toNat a.toNat
    v.toNat)).2 0x12 st.code 0))) ∧
  (∀ (t : TrackIx) (m : BitVec 6) (g : BitVec 14) (size : BitVec 8) (a : BitVec 24) (v : BitVec 64) (p : Pkt) (s : State),
    p = s.rwrPkt t m g size.toNat a.toNat v.toNat → s.canTake t p = false → exec (.regWrite (.link t m g) size a v) s = .next s) ∧
  (∀ (t : TrackIx) (m : BitVec 6) (g : BitVec 14) (size : BitVec 8) (a : BitVec 24) (v : BitVec 64) (p : Pkt) (r : Nat) (s : State),
    p = s.rwrPkt t m g size.toNat a.toNat v.toNat → s.canTake t p = true → (s.takeIn t p).1.badReason t p (s.takeIn t p).2 = some r →
    exec (.regWrite (.link t m g) size a v) s = .next (((s.takeIn t p).1.answerBad t p (s.takeIn t p).2 r))) ∧
  (∀ (t : TrackIx) (m : BitVec 6) (g : BitVec 14) (size : BitVec 8) (a : BitVec 24) (v : BitVec 64) (p : Pkt) (s : State),
    p = s.rwrPkt t m g size.toNat a.toNat v.toNat → s.canTake t p = true → (s.takeIn t p).1.badReason t p (s.takeIn t p).2 = none →
    (s.takeIn t p).1.fenceBefore (s.takeIn t p).2 = true →
    exec (.regWrite (.link t m g) size a v) s = .next (((s.takeIn t p).1.modSes t fun x =>
    { x with buf := x.buf ++ [{ pkt := p, ord := (s.takeIn t p).2 }] }))) ∧
  (∀ (size : BitVec 8) (a : BitVec 24) (v : BitVec 64) (s : State), s.fabricUp = false → s.hold = none → ∃ z, exec (.regWrite .port size a v) s = .next z ∧
    z = { s with wrap := z.wrap } ∧ z.wrap.result = none) ∧
  (∀ (size : BitVec 8) (a : BitVec 24) (v : BitVec 64) (s : State), s.hold.isSome = true → exec (.regWrite .port size a v) s = .next s)

/-- An access of a size other than 4 or 8 is answered SIZE; one of size 8 where no 64-bit register lies, and over the link a write of size 4 to half of one, is answered SIZE; otherwise a misaligned one ALIGN; an aligned one outside every register BUSERR. A write of a whole register of the main blocks that answers now finds exactly that register. The model's own choices that bear on it: log entry 100. -/
def Obligations.RegisterAccessChecksInOrder : Prop :=
  (∀ (s : State) (w h : Bool) (size a : Nat), size ≠ 4 → size ≠ 8 → s.access w h size a = .error .size) ∧
  (∀ (s : State) (w h : Bool) (a : Nat), (∀ r, hitAt (a / 8 * 8) = some r → r.w64 = false) → s.access w h 8 a = .error .size) ∧
  (∀ (s : State) (a : Nat) (r : RegHit), hitAt (a / 8 * 8) = some r → r.w64 = true → s.access true false 4 a = .error .size) ∧
  (∀ (s : State) (h : Bool) (a : Nat), a % 4 ≠ 0 → s.access false h 4 a = .error .align) ∧
  (∀ (s : State) (w h : Bool) (a : Nat), a % 4 = 0 → 0x200000 ≤ a → s.access w h 4 a = .error .buserr) ∧
  (∀ (s : State) (size a : Nat), wholeReg size a = true → s.answers a = true → s.access true false size a = .ok (regHit a)) ∧
  (∀ (b : Blk) (i o : Nat), i < b.count → o < b.span → blkOf (b.base + b.span * i + o) = some (b, i, o))

/-- Where the write is performed (State.accepts): TARGET_RUN ends NAP, begins the exit from PARK, and elsewhere leaves TARGET at 0; TARGET_NAP leaves TARGET at 1; TARGET_PARK begins PARK entry; WIDEN_GO lets widening be announced; GLB_RESET_CHIP gives a CHIP reset with CAUSE 3; GLB_BLOCK_RST_GO resets the channel, the quadrant or BWR that TARGET names; SNAP_GO sets PENDING; RWL_LOCK sets the lock and spends it; TT_FRAME_LOAD holds VALUE for the next tick; TT_STAGE_HOLD sets HOLD, and with HOLD 0 what was held is due at the next tick. The model's own choices that bear on it: log entry 111. -/
def Obligations.GlobalCommandsTakeEffect : Prop :=
  (∀ (x : WSrc) (w : BitVec 32) (s u : State), s.accepts x 4 0x84 (w &&& 0xFFFFFFFC).toNat = true → u = s.atFabric x 4 0x84 (w &&& 0xFFFFFFFC).toNat →
    u.inState .nap = true → ∃ t, exec (.targetRun x w) s = .next t ∧ t.inState .run = true) ∧
  (∀ (x : WSrc) (w : BitVec 32) (s u : State), s.accepts x 4 0x84 (w &&& 0xFFFFFFFC).toNat = true → u = s.atFabric x 4 0x84 (w &&& 0xFFFFFFFC).toNat →
    u.inState .park = true → ∃ t, exec (.targetRun x w) s = .next t ∧ t.inState .leaving = true) ∧
  (∀ (x : WSrc) (w : BitVec 32) (s u : State), s.accepts x 4 0x84 (w &&& 0xFFFFFFFC).toNat = true → u = s.atFabric x 4 0x84 (w &&& 0xFFFFFFFC).toNat →
    u.inState .run = true → ∃ t, exec (.targetRun x w) s = .next t ∧ t.fld Fld.GLB_PWR_REQ_TARGET = 0 ∧ t.inState .run = true) ∧
  (∀ (x : WSrc) (w : BitVec 32) (s u : State), s.accepts x 4 0x84 (w &&& 0xFFFFFFFC ||| 1).toNat = true →
    u = s.atFabric x 4 0x84 (w &&& 0xFFFFFFFC ||| 1).toNat → ∃ t, exec (.targetNap x w) s = .next t ∧ t.fld Fld.GLB_PWR_REQ_TARGET = 1) ∧
  (∀ (x : WSrc) (w : BitVec 32) (s u : State), s.accepts x 4 0x84 (w &&& 0xFFFFFFFC ||| 2).toNat = true →
    u = s.atFabric x 4 0x84 (w &&& 0xFFFFFFFC ||| 2).toNat → ∃ t, exec (.targetPark x w) s = .next t ∧ t.inState .entering = true ∧ t.park.step = .drain) ∧
  (∀ (x : WSrc) (w : BitVec 32) (s u : State), s.accepts x 4 0x84 (w ||| 0x100).toNat = true → u = s.atFabric x 4 0x84 (w ||| 0x100).toNat →
    ∃ t, exec (.widenGo x w) s = .next t ∧ t.start.go = true) ∧
  (∀ (x : WSrc) (w : BitVec 32) (s u : State), s.accepts x 4 0x90 (w ||| 0x80000000).toNat = true → u = s.atFabric x 4 0x90 (w ||| 0x80000000).toNat →
    u.resetting = false → ∃ t, exec (.glbResetChip x w) s = .next t ∧ t.resetting = true ∧ t.start.chip = true ∧ t.start.held = true ∧
    t.fld Fld.GLB_STATE_CAUSE = 3 ∧ t.trks = [] ∧ t.tags = [] ∧ t.chans = [] ∧ t.vmap.mem = u.vmap.mem) ∧
  (∀ (x : WSrc) (w : BitVec 32) (s u : State), s.accepts x 4 0x94 (w ||| 0x80000000).toNat = true → u = s.atFabric x 4 0x94 (w ||| 0x80000000).toNat →
    w.toNat % 256 < 64 → ∃ t, exec (.glbBlockRstGo x w) s = .next t ∧ (t.chan (w.toNat % 256)).resetting = true) ∧
  (∀ (x : WSrc) (w : BitVec 32) (s u : State), s.accepts x 4 0x94 (w ||| 0x80000000).toNat = true → u = s.atFabric x 4 0x94 (w ||| 0x80000000).toNat →
    64 ≤ w.toNat % 256 → w.toNat % 256 < 68 → ∃ t, exec (.glbBlockRstGo x w) s = .next t ∧ w.toNat % 256 - 64 ∈ t.vert.blk) ∧
  (∀ (x : WSrc) (w : BitVec 32) (s u : State), s.accepts x 4 0x94 (w ||| 0x80000000).toNat = true → u = s.atFabric x 4 0x94 (w ||| 0x80000000).toNat →
    68 ≤ w.toNat % 256 → ∃ t, exec (.glbBlockRstGo x w) s = .next t ∧ t.bwr.fill = true ∧ t.bwr.hit = [] ∧ t.bwr.ticks = 0) ∧
  (∀ (x : WSrc) (w : BitVec 32) (s u : State), s.accepts x 4 0x14 (w ||| 1).toNat = true → u = s.atFabric x 4 0x14 (w ||| 1).toNat →
    ∃ t, exec (.snapGo x w) s = .next t ∧ t.fld Fld.GLB_SNAP_PENDING = 1) ∧
  (∀ (x : WSrc) (w : BitVec 32) (s u : State), s.accepts x 4 0x10 (w ||| 1).toNat = true → u = s.atFabric x 4 0x10 (w ||| 1).toNat →
    ∃ t, exec (.rwlLock x w) s = .next t ∧ t.flag Fld.GLB_LOCK_RWL_LOCK = true ∧ Fld.GLB_LOCK_RWL_LOCK.key 0 0 ∈ t.fab.spent) ∧
  (∀ (x : WSrc) (w : BitVec 64) (s u : State), s.accepts x 8 0x1008 w.toNat = true → u = s.atFabric x 8 0x1008 w.toNat →
    ∃ t, exec (.ttFrameLoad x w) s = .next t ∧ t.fab.frameLoad = true ∧ t.fld Fld.TT_FRAME_LOAD_VALUE = w.toNat % 2 ^ 48 ∧
    Fld.TT_FRAME_LOAD_VALUE.key 0 0 ∈ t.fab.spent) ∧
  (∀ (x : WSrc) (w : BitVec 32) (s u : State), s.accepts x 4 0x1010 w.toNat = true → u = s.atFabric x 4 0x1010 w.toNat → w.toNat % 2 = 1 →
    ∃ t, exec (.ttStageHold x w) s = .next t ∧ t.fld Fld.TT_STAGE_HOLD = 1 ∧ t.fab.staged = u.fab.staged ∧ t.fab.ready = u.fab.ready) ∧
  (∀ (x : WSrc) (w : BitVec 32) (s u : State), s.accepts x 4 0x1010 w.toNat = true → u = s.atFabric x 4 0x1010 w.toNat → w.toNat % 2 = 0 →
    ∃ t, exec (.ttStageHold x w) s = .next t ∧ t.fld Fld.TT_STAGE_HOLD = 0 ∧ t.fab.staged = [] ∧ t.fab.ready = u.fab.ready ++ u.fab.staged)

/-- Where the write is performed: LANE_SPARE_GO with a standby spare in each direction, of a position no spare serves and with no sparing under way, asks the partner for the lowest, with a target 16 blocks on, and without a receive spare retrains the track; LANE_CNT_CLR lets the next tick clear the lane counters; SPARE_STATE_WRITE sets the two states; PRBS_CTL_WRITE sets the two selections and starts the units anew; INJ_GO begins COUNT injections, and with COUNT 0 none; TRAIN_RETRAIN of an enabled track begins training with reason 0x21; FOV_GO with a READY partner begins the failover. The model's own choices that bear on it: log entries 99, 113, 118. -/
def Obligations.TrackCommandsTakeEffect : Prop :=
  (∀ (x : WSrc) (t : TrackIx) (w : BitVec 32) (s u : State) (sp : Bool), s.accepts x 4 (0x01000C + 0x800 * t.val) (w ||| 0x10).toNat = true →
    u = s.atFabric x 4 (0x01000C + 0x800 * t.val) (w ||| 0x10).toNat → u.standby t false = some sp → (u.standby t true).isSome = true →
    u.spareOf t false (w.toNat / 256 % 16) = none → (u.trk t).spY = none → ∃ z, exec (.laneSpareGo x t w) s = .next z ∧
    (z.trk t).spY = some { pos := w.toNat / 256 % 16, spare := sp, target := (u.trk t).rx.blk + 16, tries := 0 }) ∧
  (∀ (x : WSrc) (t : TrackIx) (w : BitVec 32) (s u : State), s.accepts x 4 (0x01000C + 0x800 * t.val) (w ||| 0x10).toNat = true →
    u = s.atFabric x 4 (0x01000C + 0x800 * t.val) (w ||| 0x10).toNat → u.standby t false = none → u.spareOf t false (w.toNat / 256 % 16) = none →
    (u.trk t).spY = none → ∃ z, exec (.laneSpareGo x t w) s = .next z ∧ z.linkIs t .training = true ∧ z.fld Fld.TRK_TRAIN_STATUS_FAIL_REASON t = 0x23) ∧
  (∀ (x : WSrc) (t : TrackIx) (w : BitVec 32) (s u : State), s.accepts x 4 (0x01000C + 0x800 * t.val) (w ||| 1).toNat = true →
    u = s.atFabric x 4 (0x01000C + 0x800 * t.val) (w ||| 1).toNat → w &&& 0x10 = 0 → ∃ z, exec (.laneCntClr x t w) s = .next z ∧ (z.trk t).cntClr = true) ∧
  (∀ (x : WSrc) (t : TrackIx) (w : BitVec 32) (s u : State), s.accepts x 4 (0x010000 + 0x800 * t.val) w.toNat = true →
    u = s.atFabric x 4 (0x010000 + 0x800 * t.val) w.toNat → ∃ z, exec (.spareStateWrite x t false w) s = .next z ∧
    z.fld Fld.TRK_SPARE_RX_S0_STATE t = w.toNat % 4 ∧ z.fld Fld.TRK_SPARE_RX_S1_STATE t = w.toNat / 256 % 4) ∧
  (∀ (x : WSrc) (t : TrackIx) (w : BitVec 32) (s u : State), s.accepts x 4 (0x010004 + 0x800 * t.val) w.toNat = true →
    u = s.atFabric x 4 (0x010004 + 0x800 * t.val) w.toNat → ∃ z, exec (.spareStateWrite x t true w) s = .next z ∧
    z.fld Fld.TRK_SPARE_TX_S0_STATE t = w.toNat % 4 ∧ z.fld Fld.TRK_SPARE_TX_S1_STATE t = w.toNat / 256 % 4) ∧
  (∀ (x : WSrc) (t : TrackIx) (p : LaneIx) (w : BitVec 32) (s u : State), s.accepts x 4 (0x010050 + 0x800 * t.val + 0x40 * p.val) w.toNat = true →
    u = s.atFabric x 4 (0x010050 + 0x800 * t.val + 0x40 * p.val) w.toNat → ∃ z, exec (.prbsCtlWrite x t p w) s = .next z ∧
    z.fld Fld.TRK_PRBS_CTL_GEN_SEL t p = w.toNat % 4 ∧ z.fld Fld.TRK_PRBS_CTL_CHK_SEL t p = w.toNat / 16 % 4 ∧ (z.txLane t p).prbs = 0 ∧
    (z.rxLane t p).prbsSeed = 0 ∧ (z.rxLane t p).prbsRun = 0 ∧ (z.rxLane t p).prbsHist = 0 ∧ z.fld Fld.TRK_LANE_STATUS_PRBS_SYNC t p = 0) ∧
  (∀ (x : WSrc) (t : TrackIx) (p : LaneIx) (w : BitVec 32) (s u : State),
    s.accepts x 4 (0x010054 + 0x800 * t.val + 0x40 * p.val) (w ||| 0x80000000).toNat = true →
    u = s.atFabric x 4 (0x010054 + 0x800 * t.val + 0x40 * p.val) (w ||| 0x80000000).toNat → w.toNat / 2 ^ 16 % 256 ≠ 0 →
    ∃ z, exec (.injGo x t p w) s = .next z ∧ (z.txLane t p).injLeft = w.toNat / 2 ^ 16 % 256 ∧ (z.txLane t p).injWait = 0 ∧
    z.flag Fld.TRK_INJ_CTL_ACTIVE t p = true) ∧
  (∀ (x : WSrc) (t : TrackIx) (p : LaneIx) (w : BitVec 32) (s u : State),
    s.accepts x 4 (0x010054 + 0x800 * t.val + 0x40 * p.val) (w ||| 0x80000000).toNat = true →
    u = s.atFabric x 4 (0x010054 + 0x800 * t.val + 0x40 * p.val) (w ||| 0x80000000).toNat → w.toNat / 2 ^ 16 % 256 = 0 →
    ∃ z, exec (.injGo x t p w) s = .next z ∧ z.txLane t p = u.txLane t p) ∧
  (∀ (x : WSrc) (t : TrackIx) (w : BitVec 32) (s u : State), s.accepts x 4 (0x010500 + 0x800 * t.val) (w ||| 0x10).toNat = true →
    u = s.atFabric x 4 (0x010500 + 0x800 * t.val) (w ||| 0x10).toNat → u.flag Fld.TRK_TRAIN_CTL_EN t = (w.toNat % 2 != 0) → u.linkIs t .disabled = false →
    ∃ z, exec (.trainRetrain x t w) s = .next z ∧ z.linkIs t .training = true ∧ z.fld Fld.TRK_TRAIN_STATUS_FAIL_REASON t = 0x21 ∧
    z.fld Fld.TRK_TRAIN_STATUS_PHASE t = 1) ∧
  (∀ (x : WSrc) (t : TrackIx) (w : BitVec 32) (s u : State) (p : TrackIx), s.accepts x 4 (0x010500 + 0x800 * t.val) (w ||| 0x100).toNat = true →
    u = s.atFabric x 4 (0x010500 + 0x800 * t.val) (w ||| 0x100).toNat → u.flag Fld.TRK_TRAIN_CTL_EN t = (w.toNat % 2 != 0) → w.toNat / 16 % 2 = 0 →
    u.fld Fld.HLC_FOV_MAP_PARTNER 0 t = p.val → u.linkIs p .ready = true → u.fld Fld.TRK_TRAIN_STATUS_SESSION t = 1 → p ≠ t →
    ∃ z, exec (.fovGo x t w) s = .next z ∧ (z.trk t).fov.going = true ∧ .fov t ∈ (z.trk p).trn.queue)

/-- Where the write is performed: CHN_EN_WRITE sets EN; CHN_BLK_RST puts the channel into its BLOCK reset; CHN_SWAP with a free spare engine begins a draining takeover; FLIP_ARM arms the flip mask; VMAP_CLEAR lets the next tick clear the map; BWR_GUARANTEE_WRITE holds the written guarantee, delivery or ADMIT value back for the tick; REACT_WRITE sets the reactions; CHTEST_GO begins the test of the channel; BST_ABORT ends the test in progress, or marks it to end once its row is restored. -/
def Obligations.ChannelCommandsTakeEffect : Prop :=
  (∀ (x : WSrc) (c : ChanIx) (w : BitVec 32) (s u : State), s.accepts x 4 (0x040000 + 0x400 * c.val) w.toNat = true →
    u = s.atFabric x 4 (0x040000 + 0x400 * c.val) w.toNat → w &&& 0x110 = 0 → ∃ z, exec (.chnEnWrite x c w) s = .next z ∧
    z.fld Fld.CHN_CTL_EN c = w.toNat % 2) ∧
  (∀ (x : WSrc) (c : ChanIx) (w : BitVec 32) (s u : State), s.accepts x 4 (0x040000 + 0x400 * c.val) (w ||| 0x10).toNat = true →
    u = s.atFabric x 4 (0x040000 + 0x400 * c.val) (w ||| 0x10).toNat → w &&& 0x100 = 0 → ∃ z, exec (.chnBlkRst x c w) s = .next z ∧
    (z.chan c).resetting = true) ∧
  (∀ (x : WSrc) (c : ChanIx) (w : BitVec 32) (s u : State) (e : Nat), s.accepts x 4 (0x040000 + 0x400 * c.val) (w ||| 0x100).toNat = true →
    u = s.atFabric x 4 (0x040000 + 0x400 * c.val) (w ||| 0x100).toNat → w &&& 0x10 = 0 → (u.chan c).swap = none → u.freeEngine = some e →
    ∃ z, exec (.chnSwap x c w) s = .next z ∧ z.fld Fld.CHN_STATUS_SWAPPING c = 1 ∧
    (z.chan c).swap = some { spare := e, draining := true, ordered := false }) ∧
  (∀ (x : WSrc) (c : ChanIx) (w : BitVec 32) (s u : State), s.accepts x 4 (0x040300 + 0x400 * c.val) (w ||| 0x100).toNat = true →
    u = s.atFabric x 4 (0x040300 + 0x400 * c.val) (w ||| 0x100).toNat → ∃ z, exec (.flipArm x c w) s = .next z ∧ z.fld Fld.CHN_FLIP_CTL_ARMED c = 1 ∧
    z.fld Fld.CHN_FLIP_CTL_TILE c = w.toNat % 4) ∧
  (∀ (x : WSrc) (w : BitVec 32) (s u : State), s.accepts x 4 0x0A0008 (w ||| 1).toNat = true → u = s.atFabric x 4 0x0A0008 (w ||| 1).toNat →
    ∃ t, exec (.vmapClear x w) s = .next t ∧ t.vmap.clear = true ∧ t.vmap.mem = u.vmap.mem ∧ t.fld Fld.INT_VMAP_STATUS_CLEAR_PENDING = 1) ∧
  (∀ (x : WSrc) (m : Fin 64) (w : BitVec 32) (s u : State), s.accepts x 4 (0x060100 + 0x20 * m.val) w.toNat = true →
    u = s.atFabric x 4 (0x060100 + 0x20 * m.val) w.toNat → ∃ z, exec (.bwrGuaranteeWrite x (.mguar m) w) s = .next z ∧
    { key := Fld.BWR_MGUAR_GUAR_RD.key 0 m, dflt := 0, val := w.toNat % 2 ^ 13 } ∈ z.fab.staged ++ z.fab.ready ∧
    { key := Fld.BWR_MGUAR_GUAR_WR.key 0 m, dflt := 0, val := w.toNat / 2 ^ 16 % 2 ^ 13 } ∈ z.fab.staged ++ z.fab.ready ∧
    ∀ k : Nat, z.fld Fld.BWR_MGUAR_GUAR_RD 0 k = u.fld Fld.BWR_MGUAR_GUAR_RD 0 k ∧ z.fld Fld.BWR_MGUAR_GUAR_WR 0 k = u.fld Fld.BWR_MGUAR_GUAR_WR 0 k) ∧
  (∀ (x : WSrc) (w : BitVec 32) (s u : State), s.accepts x 4 0x060008 w.toNat = true → u = s.atFabric x 4 0x060008 w.toNat →
    ∃ t, exec (.bwrGuaranteeWrite x .deliv w) s = .next t ∧
    { key := Fld.BWR_DELIV_RD.key 0 0, dflt := 2900, val := w.toNat % 2 ^ 14 } ∈ t.fab.staged ++ t.fab.ready ∧
    { key := Fld.BWR_DELIV_WR.key 0 0, dflt := 2900, val := w.toNat / 2 ^ 16 % 2 ^ 14 } ∈ t.fab.staged ++ t.fab.ready) ∧
  (∀ (x : WSrc) (w : BitVec 32) (s u : State), s.accepts x 4 0x060000 w.toNat = true → u = s.atFabric x 4 0x060000 w.toNat →
    ∃ t, exec (.bwrGuaranteeWrite x .cfg w) s = .next t ∧
    { key := Fld.BWR_CFG_ADMIT.key 0 0, dflt := 90, val := w.toNat / 2 ^ 16 % 2 ^ 8 } ∈ t.fab.staged ++ t.fab.ready) ∧
  (∀ (x : WSrc) (i : Fin 95) (w : BitVec 32) (s u : State), s.accepts x 4 (0x0D0400 + 4 * i.val) w.toNat = true →
    u = s.atFabric x 4 (0x0D0400 + 4 * i.val) w.toNat → ∃ z, exec (.reactWrite x i w) s = .next z ∧ z.fld Fld.FLT_REACT_CLASS 0 i = w.toNat / 256 % 4 ∧
    z.fld Fld.FLT_REACT_EPN 0 i = w.toNat / 16 % 2 ∧ z.fld Fld.FLT_REACT_CRS 0 i = w.toNat / 8 % 2 ∧ z.fld Fld.FLT_REACT_BRS 0 i = w.toNat / 4 % 2 ∧
    z.fld Fld.FLT_REACT_URG 0 i = w.toNat / 2 % 2 ∧ z.fld Fld.FLT_REACT_BUL 0 i = w.toNat % 2) ∧
  (∀ (x : WSrc) (w : BitVec 32) (s u : State), s.accepts x 4 0x0C0034 (w ||| 0x100).toNat = true → u = s.atFabric x 4 0x0C0034 (w ||| 0x100).toNat →
    ∃ t, exec (.chtestGo x w) s = .next t ∧ t.bst.ch = some { chan := w.toNat % 64 } ∧ (t.chan (w.toNat % 64)).test = true ∧
    t.fld Fld.BST_CHTEST_STATUS_RUNNING = 1 ∧ t.fld Fld.BST_STATUS_PHASE = 8) ∧
  (∀ (x : WSrc) (w : BitVec 32) (s u : State) (c : ChTest), s.accepts x 4 0x0C0004 (w ||| 0x100).toNat = true →
    u = s.atFabric x 4 0x0C0004 (w ||| 0x100).toNat → u.bst.ch = some c → w &&& 0x10 = 0 → ∃ z, exec (.bstAbort x w) s = .next z ∧
    z.bst.ch = none ∨ z.bst.ch = some { c with ending := true } ∧ ((u.chan c.chan).rt = none → z.bst.ch = none))

/-- Where the write is performed: VLQ_RETUNE_GO makes a retune of RETUNE_BUNDLE pending; VLQ_RETRAIN queues the seeded training of the quadrant's 16 bundles; COL_SPARE_GO of a column that is no idle spare and is not being spared, with a standby spare, schedules the switch to it where switches may be scheduled, and otherwise lets the spare serve the column at once; RELAY_RST sends RELAY RESET to the junction; CRST sends the CORE reset to the die. -/
def Obligations.VerticalCommandsTakeEffect : Prop :=
  (∀ (x : WSrc) (q : QuadIx) (w : BitVec 32) (s u : State) (b : Nat), s.accepts x 4 (0x080000 + 0x4000 * q.val) (w ||| 0x10000).toNat = true →
    u = s.atFabric x 4 (0x080000 + 0x4000 * q.val) (w ||| 0x10000).toNat → w &&& 0x10 = 0 → b = w.toNat / 256 % 64 →
    ∃ z, exec (.vlqRetuneGo x q w) s = .next z ∧ b / 16 = q.val ∧ z.fld Fld.VLQ_STATUS_RETUNING q = 1 ∧
    (z.bund b).retune = (if (u.bund b).retune = 0 then 8 else (u.bund b).retune)) ∧
  (∀ (x : WSrc) (q : QuadIx) (w : BitVec 32) (s u : State), s.accepts x 4 (0x080000 + 0x4000 * q.val) (w ||| 0x10).toNat = true →
    u = s.atFabric x 4 (0x080000 + 0x4000 * q.val) (w ||| 0x10).toNat → ∃ z, exec (.vlqRetrain x q w) s = .next z ∧
    z.vert.trains = u.vert.trains ++ [{ seg := 0, last := q.val, bundles := (List.range 16).map (16 * q.val + ·), block := none }] ∧
    z.fld Fld.VLQ_STATUS_TRAINING q = 1 ∧ ∀ i < 16, (z.bund (16 * q.val + i)).up = false) ∧
  (∀ (x : WSrc) (l : LayerIx) (w : BitVec 32) (s u : State) (b n sp : Nat), s.accepts x 4 (0x090424 + 0x400 * l.val) (w ||| 0x10000).toNat = true →
    u = s.atFabric x 4 (0x090424 + 0x400 * l.val) (w ||| 0x10000).toNat → b = 4 * l.val + w.toNat / 64 % 4 → n = w.toNat / 256 % 64 → w &&& 3 = 0 →
    u.idleSpare b n = false → u.logical b n = n → (∀ y ∈ (u.bund b).sw, y.col = n → y.spare = 0) → u.standbyCol b = some sp → u.maySwitch b = false →
    ∃ z, exec (.colSpareGo x l w) s = .next z ∧ Store.find (z.bund b).serves sp = some n) ∧
  (∀ (x : WSrc) (l : LayerIx) (w : BitVec 32) (s u : State) (b n sp : Nat), s.accepts x 4 (0x090424 + 0x400 * l.val) (w ||| 0x10000).toNat = true →
    u = s.atFabric x 4 (0x090424 + 0x400 * l.val) (w ||| 0x10000).toNat → b = 4 * l.val + w.toNat / 64 % 4 → n = w.toNat / 256 % 64 → w &&& 3 = 0 →
    u.idleSpare b n = false → u.logical b n = n → (∀ y ∈ (u.bund b).sw, y.col = n → y.spare = 0) → u.standbyCol b = some sp → u.maySwitch b = true →
    ∃ z, exec (.colSpareGo x l w) s = .next z ∧ ((z.bund b).sw.any fun y => y.col = n ∧ y.spare = sp ∧
    y.frame = u.fld Fld.TT_TIME_FRAME + u.fld Fld.VLQ_GEAR_CFG_LEAD (b / 16)) = true) ∧
  (∀ (x : WSrc) (l : LayerIx) (w : BitVec 32) (s u : State), s.accepts x 4 (0x090424 + 0x400 * l.val) (w ||| 2).toNat = true →
    u = s.atFabric x 4 (0x090424 + 0x400 * l.val) (w ||| 2).toNat → w &&& 0x10001 = 0 → ∃ z, exec (.relayRst x l w) s = .next z ∧ l.val % 4 = 3 ∧
    z.vert.cfg = u.vert.cfg ++ [{ op := 0x17, bundle := 4 * l.val, layer := l.val, use := .other, words := [(0x17, l.val + 16)] }]) ∧
  (∀ (x : WSrc) (l : LayerIx) (w : BitVec 32) (s u : State), s.accepts x 4 (0x090424 + 0x400 * l.val) (w ||| 1).toNat = true →
    u = s.atFabric x 4 (0x090424 + 0x400 * l.val) (w ||| 1).toNat → w &&& 0x10002 = 0 → ∃ z, exec (.crst x l w) s = .next z ∧ l.val ∈ z.vert.crst ∧
    z.vert.cfg = u.vert.cfg ++ [{ op := 0x16, bundle := 4 * l.val, layer := l.val, use := .crst l.val, words := [(0x16, l.val + 0xC3A5 * 2 ^ 16)] }])

/-- Where the write is performed: REP_COMMIT puts a commit of the working copy on the flash, waiting or begun; FUSE_GO asks for every SOFT entry to be fused; PENDING_CLR leaves no pending pair or column group; SEAL_VOID queues a VOID seal; CAL_COMMIT a commit of CAL; WIN_RD_GO, WIN_PROG_GO and WIN_ERASE_GO an operation of the window, with WIN_BUSY 1 where no flash operation begins at once. The model's own choices that bear on it: log entry 99. -/
def Obligations.StoreCommandsTakeEffect : Prop :=
  (∀ (x : WSrc) (w : BitVec 32) (s u : State), s.accepts x 4 0x0B0004 (w ||| 1).toNat = true → u = s.atFabric x 4 0x0B0004 (w ||| 1).toNat →
    w &&& 0x100 = 0 → u.rep.copy.length ≤ 65533 → ∃ t, exec (.repCommit x w) s = .next t ∧ t.nvmHas .rep = true ∧ t.rep.copy = u.rep.copy) ∧
  (∀ (x : WSrc) (w : BitVec 32) (s u : State), s.accepts x 4 0x0B0004 (w ||| 0x10).toNat = true → u = s.atFabric x 4 0x0B0004 (w ||| 0x10).toNat →
    ∃ t, exec (.fuseGo x w) s = .next t ∧ t.rep.fuseGo = true) ∧
  (∀ (x : WSrc) (w : BitVec 32) (s u : State), s.accepts x 4 0x0B0004 (w ||| 0x100).toNat = true → u = s.atFabric x 4 0x0B0004 (w ||| 0x100).toNat →
    w &&& 1 = 0 → ∃ t, exec (.pendingClr x w) s = .next t ∧ ∀ c < 64, t.fld Fld.REP_PAIRS_PENDING 0 c = 0 ∧
    ∀ e ∈ t.rep.copy, e.kind = 4 ∨ e.kind = 5 → e.state ≠ 5) ∧
  (∀ (x : WSrc) (w : BitVec 32) (s u : State), s.accepts x 4 0x0C0004 (w ||| 0x10).toNat = true → u = s.atFabric x 4 0x0C0004 (w ||| 0x10).toNat →
    ∃ t, exec (.sealVoid x w) s = .next t ∧ t.nvmHas (.sealWr 4) = true) ∧
  (∀ (x : WSrc) (w : BitVec 32) (s u : State), s.accepts x 4 0x0F0004 (w ||| 0x80000000).toNat = true →
    u = s.atFabric x 4 0x0F0004 (w ||| 0x80000000).toNat → ∃ t, exec (.calCommit x w) s = .next t ∧ t.nvmHas .cal = true) ∧
  (∀ (x : WSrc) (w : BitVec 32) (s u : State), s.accepts x 4 0x0F0004 (w ||| 0x10).toNat = true → u = s.atFabric x 4 0x0F0004 (w ||| 0x10).toNat →
    ∃ t, exec (.winRdGo x w) s = .next t ∧ t.nvmHas .winRead = true ∧ (u.nvmRuns = false → t.fld Fld.NVM_STATUS_WIN_BUSY = 1)) ∧
  (∀ (x : WSrc) (w : BitVec 32) (s u : State), s.accepts x 4 0x0F0004 (w ||| 0x100).toNat = true → u = s.atFabric x 4 0x0F0004 (w ||| 0x100).toNat →
    ∃ t, exec (.winProgGo x w) s = .next t ∧ t.nvmHas .winProg = true ∧ (u.nvmRuns = false → t.fld Fld.NVM_STATUS_WIN_BUSY = 1)) ∧
  (∀ (x : WSrc) (w : BitVec 32) (s u : State), s.accepts x 4 0x0F0004 (w ||| 0x200).toNat = true → u = s.atFabric x 4 0x0F0004 (w ||| 0x200).toNat →
    ∃ t, exec (.winEraseGo x w) s = .next t ∧ t.nvmHas .winErase = true ∧ (u.nvmRuns = false → t.fld Fld.NVM_STATUS_WIN_BUSY = 1))

/-- Outside HOLD each wrapper instruction is one scan that changes nothing but the wrapper: WS_BYPASS, WS_EXTEST, WS_PRELOAD, DIE_ID capture what they name, WS_EXTEST drives the bumps with the cells, WRSTN_RESET clears the wrapper and selects WS_BYPASS. REG_ACC captures what the access before it finished; a read of a whole register that answers, no protected field of the stack differing in a copy, gives its low 32 bits with OK and empties the write latch, and for a 64-bit register latches the high half; a write that is accepted is performed. With no power or in a reset no access is made; in HOLD nothing happens. The model's own choices that bear on it: log entries 95 to 97. -/
def Obligations.WrapperPortCommands : Prop :=
  (∀ (i : Bool) (s : State), s.hold = none →
    exec (.wsBypass i) s = .next { s with wrap := { s.wrap with wir := .bypass, bumps := none, cap := (if i then 1 else 0), edge := some s.cc } }) ∧
  (∀ (i p : BitVec 17) (s : State), s.hold = none →
    exec (.wsExtest i p) s = .next { s with wrap := { s.wrap with wir := .extest, wbr := i, bumps := some i, cap := p.zeroExtend 64, edge := some s.cc } }) ∧
  (∀ (i p : BitVec 17) (s : State), s.hold = none →
    exec (.wsPreload i p) s = .next { s with wrap := { s.wrap with wir := .preload, wbr := i, bumps := none, cap := p.zeroExtend 64, edge := some s.cc } }) ∧
  (∀ s : State, s.hold = none → exec .dieId s = .next
    { s with wrap := { s.wrap with wir := .dieId, bumps := none, cap := BitVec.ofNat 64 (s.fld Fld.BST_DIE_ID_ID), edge := some s.cc } }) ∧
  (∀ s : State, s.hold = none → exec .wrstnReset s = .next
    { s with wrap := { s.wrap with wir := .bypass, wbr := 0, bumps := none, cap := 0, result := none } }) ∧
  (∀ (i : Bool) (j p : BitVec 17) (a : BitVec 24) (v : BitVec 32) (s : State), s.hold.isSome = true → exec (.wsBypass i) s = .next s ∧
    exec (.wsExtest j p) s = .next s ∧ exec (.wsPreload j p) s = .next s ∧ exec .dieId s = .next s ∧ exec .wrstnReset s = .next s ∧
    exec (.regAccRead a) s = .next s ∧ exec (.regAccWrite a v) s = .next s) ∧
  (∀ (a : BitVec 24) (s : State), s.fabricUp = true → s.fab.copies = [] → wholeReg 4 a.toNat = true → s.answers a.toNat = true →
    exec (.regAccRead a) s = .next
    { s with fab := { s.fab with wrLatch := none }, wrap := { s.wrap with wir := .regAcc, bumps := none, cap := s.wrap.result.getD 0, edge := some s.cc, result := some (BitVec.ofNat 64 (s.readRegs (fieldsAt a.toNat) % 2 ^ 32 * 2 ^ 32 + 2 ^ 29 + a.toNat)) } })
    ∧
  (∀ (a : BitVec 24) (s : State), s.fabricUp = true → s.fab.copies = [] → wholeReg 8 a.toNat = true → s.answers a.toNat = true →
    ∃ t, exec (.regAccRead a) s = .next t ∧ t.fab.rdLatch = some (a.toNat, s.readRegs (fieldsAt a.toNat) / 2 ^ 32 % 2 ^ 32) ∧
    t.wrap.result = some (BitVec.ofNat 64 (s.readRegs (fieldsAt a.toNat) % 2 ^ 32 * 2 ^ 32 + 2 ^ 29 + a.toNat)) ∧ t.regs = s.regs) ∧
  (∀ (a : BitVec 24) (v : BitVec 32) (s : State), s.accepts .port 4 a.toNat v.toNat = true → ∃ z, exec (.regAccWrite a v) s = .next z ∧
    z = { (s.atFabric .port 4 a.toNat v.toNat).perform (regHit a.toNat) v.toNat with wrap := z.wrap } ∧
    z.wrap.result = some (BitVec.ofNat 64 (2 ^ 29 + a.toNat)) ∧ z.wrap.wir = .regAcc) ∧
  (∀ (a : BitVec 24) (v : BitVec 32) (s : State), s.fabricUp = false → s.hold = none → ∃ w, exec (.regAccRead a) s = .next { s with wrap := w } ∧
    exec (.regAccWrite a v) s = .next { s with wrap := w } ∧ w.result = none)

/-- Whatever the fields of a packet, the tail lamp, ACK_SEQ and NAK, the header row made of them reads back as exactly those fields, tail lamp and flags: HCRC passes and no field overlaps another. Bytes 14 and 15 of the row are HCRC of its bytes 0 to 13, little-endian. HCRC starts at 0xFFFF and takes each byte most significant bit first with generator 0x1021; of the ASCII bytes 123456789 it is 0x29B1. -/
def Obligations.HeaderRowsCarryTheirFieldsAndHcrc : Prop :=
  (∀ (p : Pkt) (tail : BitVec 24) (ack : Byte) (nak : Bool),
    parseHeader (p.header tail ack nak) =
      some ({ typ := p.typ, tag := p.tag, master := p.master, len := p.len, addr := p.addr, seq := p.seq, ackSeq := ack, nak := nak,
              retReq := p.retReq, retData := p.retData }, tail) ∧
    (rowBytes (p.header tail ack nak)).drop 14 = natBytes 2 (hcrc ((rowBytes (p.header tail ack nak)).take 14)).toNat) ∧
  hcrc [] = 0xFFFF ∧
  (∀ (bs : List Byte) (b : Byte), hcrc (bs ++ [b]) =
    (List.range 8).foldl (fun (c : BitVec 16) (i : Nat) => (c <<< 1) ^^^ (if (c.getLsbD 15 != b.getLsbD (7 - i)) = true then 0x1021 else 0)) (hcrc bs)) ∧
  hcrc [0x31, 0x32, 0x33, 0x34, 0x35, 0x36, 0x37, 0x38, 0x39] = 0x29B1

/-- The codeword of a line holds the line in bits 0 to 575; bit r of parity p0 and of parity p1 are the sums R300 gives, with the shifts of the base matrix; its syndrome is zero in both block rows, and the line reads back from it. A line control made for a TID passes its check with that TID; the slot of a write line holds its codeword below its line control. -/
def Obligations.LineCodewordsSatisfyTheBaseMatrix : Prop :=
  (∀ (u : Line) (r : Nat), r < 32 →
    (encodeLine u).getLsbD (576 + r) =
      ([(0, 0), (1, 5), (2, 10), (3, 15), (4, 20), (5, 25), (6, 30), (7, 3), (8, 8), (9, 13), (10, 18), (11, 23), (12, 28), (13, 1), (14, 6), (15, 11),
        (16, 16), (17, 21)] : List (Nat × Nat)).foldl (fun x e => x ^^ u.getLsbD (32 * e.1 + (r + e.2) % 32)) false ∧
    (encodeLine u).getLsbD (608 + r) =
      (([(0, 1), (1, 8), (2, 15), (3, 22), (4, 29), (5, 4), (6, 11), (7, 18), (8, 25), (9, 0), (10, 7), (11, 14), (12, 21), (13, 28), (14, 3), (15, 10),
        (16, 18), (17, 25)] : List (Nat × Nat)).foldl (fun x e => x ^^ u.getLsbD (32 * e.1 + (r + e.2) % 32)) false ^^
        (encodeLine u).getLsbD (576 + (r + 6) % 32))) ∧
  (∀ u : Line, codeLine (encodeLine u) = u ∧ lineSyndrome (encodeLine u) = (0, 0)) ∧
  (∀ col te index tid : Nat, tid < 32 → controlGood (lineControl col te index tid) tid = true) ∧
  (∀ (tid i : Nat) (l : TLine), (slotOf tid i l).extractLsb' 0 640 = encodeLine l.data ∧ (slotOf tid i l).extractLsb' 640 32 = lineControl l.col l.te i tid)

/-- The tile of 32 bytes holds them in bits 0 to 255; with p[j] the parity of data column j, q[i] of data row i and P[j] the running xor of p[0] to p[j], check bit C[15] is P[15], C[14] is P[14], C[j] is P[j] xor C[15] for j from 0 to 13, and R[i] is q[i] xor C[i]. A tile of zero data has all 32 check bits 0. -/
def Obligations.TilesAreEncodedAsStated : Prop :=
  (∀ (u : Unit32) (p P q C : Nat → Bool), (∀ j < 16, p j = (List.range 16).foldl (fun x i => x ^^ u.getLsbD (16 * i + j)) false) →
    (∀ i < 16, q i = (List.range 16).foldl (fun x j => x ^^ u.getLsbD (16 * i + j)) false) → P 0 = p 0 → (∀ j < 15, P (j + 1) = (P j ^^ p (j + 1))) →
    C 15 = P 15 → C 14 = P 14 → (∀ j < 14, C j = (P j ^^ C 15)) → tileData (encodeTile u) = u ∧ ∀ i < 16, (encodeTile u).getLsbD (272 + i) = C i ∧
    (encodeTile u).getLsbD (256 + i) = (q i ^^ C i)) ∧
  (encodeTile 0 = 0)

/-- A tile as encoded checks CLEAN; with any one bit wrong, data or check, it checks CORRECTED and comes back as encoded; with any two bits wrong it checks UNCORRECTABLE and is not changed; the poison form checks POISONED. -/
def Obligations.TileCodeCorrectsOneBitAndReportsTwo : Prop :=
  (∀ u : Unit32, checkTile (encodeTile u) = (.clean, encodeTile u)) ∧
  (∀ (u : Unit32) (k : Nat), k < 288 → checkTile (encodeTile u ^^^ (1#288 <<< k)) = (.corrected, encodeTile u)) ∧
  (∀ (u : Unit32) (k l : Nat), k < l → l < 288 →
    checkTile (encodeTile u ^^^ (1#288 <<< k) ^^^ (1#288 <<< l)) = (.uncorrectable, encodeTile u ^^^ (1#288 <<< k) ^^^ (1#288 <<< l))) ∧
  (checkTile poisonTile = (.poisoned, poisonTile))

/-- In every state whose die ID fits 64 bits and whose core-die words fit 32, the stack ID fits 64 bits, and its bit k is bit k of the die ID xor, for each layer l that discovery accepted, bit k - l modulo 64 of its serial number, words 6 and 7. -/
def Obligations.StackIdIsTheXorOfRotatedSerials : Prop :=
  ∀ (s : State) (k : Nat), k < 64 → s.fld Fld.BST_DIE_ID_ID < 2 ^ 64 → (∀ l j, s.fld Fld.LAY_ID_WORD l j < 2 ^ 32) → s.stackId < 2 ^ 64 ∧
    s.stackId.testBit k = (List.range 16).foldl (fun b l => if s.flag Fld.LAY_STATE_ID_OK l = true then b ^^ (s.fld Fld.LAY_ID_WORD l 6 + 2 ^ 32 * s.fld
    Fld.LAY_ID_WORD l 7).testBit ((k + 64 - (l + 1)) % 64) else b) ((s.fld Fld.BST_DIE_ID_ID).testBit k)

/-- Where the used layers are 1 to n, CHAN_COUNT is 4 n and all 16 pairs of every channel are in force in the map, the line of host byte address A lies where R33 says. In every state with at least one pair in force, the channel, bank and row of the line at a host line number give back its wagon, the bank is below 32 and the column is the line's place in its row: so two line numbers of one row of a bank belong to one wagon. -/
def Obligations.AddressesDecomposeAndComposeBack : Prop :=
  (∀ (s : State) (n A : Nat), 0 < n → s.usedLayers = (List.range n).map (· + 1) → s.fld Fld.GLB_ADDR_MAP_CHAN_COUNT = 4 * n → s.pairsInForce = 16 →
    (∀ c < 4 * n, s.mapPairs c = List.range 16) → s.decomp (A / 64) =
        (let W := A / 4096; let half := A / 2048 % 2; let slot := W % (4 * n); let w := W / (4 * n); let row := w / 16
         let bgh := if s.flag Fld.GLB_ADDR_MAP_HASH_EN = true then (w % 4) ^^^ (row % 4) else w % 4
         let ba := if s.flag Fld.GLB_ADDR_MAP_HASH_EN = true then (w / 4 % 4) ^^^ (row / 4 % 4) else w / 4 % 4
         some { chan := slot, bank := 4 * (2 * bgh + half) + ba, row := row, col := A / 64 % 32 })) ∧
  (∀ (s : State) (ln : Nat) (loc : Loc), 0 < s.pairsInForce → s.decomp ln = some loc → s.wagonOf loc.chan loc.bank loc.row = some (ln / 64) ∧ loc.bank < 32 ∧
    loc.col = ln % 32)

/-- Raising a source while a POR, PIN or CHIP reset is in progress changes nothing. Otherwise its pending bit reads 1, every bit that was pending stays pending, and outside PARK the count of a source other than NVM_WEAR is one more where it was below its maximum. A maskable queue of at most 24 entries stays so and an urgent one of at most 8 too; a CRS already pending stays. Raising leaves the valid map, HOLD, the start, PARK, the wrapper, the pins, the tracks, the repair record, the cycle and the waiting commands as they were. -/
def Obligations.EventsAreRecorded : Prop :=
  (∀ (x : Src) (i : Nat) (f : FaultInfo) (s : State), s.resetting = true → s.raise x i f = s) ∧
  (∀ (x : Src) (i : Nat) (f : FaultInfo) (s : State), s.resetting = false → (s.raise x i f).flag Fld.FLT_PEND_PEND 0 (x.index / 32) = true ∧
      ((s.raise x i f).fld Fld.FLT_PEND_PEND 0 (x.index / 32)).testBit (x.index % 32) = true ∧
      (∀ k b, (s.fld Fld.FLT_PEND_PEND 0 k).testBit b = true → ((s.raise x i f).fld Fld.FLT_PEND_PEND 0 k).testBit b = true) ∧
      (x ≠ .nvmWear → s.inState .park = false → s.fld Fld.FLT_COUNT_COUNT 0 x.index < 0xFFFFFFFF →
        (s.raise x i f).fld Fld.FLT_COUNT_COUNT 0 x.index = s.fld Fld.FLT_COUNT_COUNT 0 x.index + 1)) ∧
  (∀ (x : Src) (i : Nat) (f : FaultInfo) (s t : State), t = s.raise x i f → (s.box.bul.length ≤ 24 → t.box.bul.length ≤ 24) ∧
    (s.box.urg.length ≤ 8 → t.box.urg.length ≤ 8) ∧
      (s.box.crs.isSome = true → t.box.crs = s.box.crs) ∧
      t.vmap = s.vmap ∧ t.hold = s.hold ∧ t.start = s.start ∧ t.park = s.park ∧ t.wrap = s.wrap ∧ t.pins = s.pins ∧ t.cc = s.cc ∧ t.trks = s.trks ∧
      t.rep = s.rep ∧ t.pending = s.pending)

/-- Outside HOLD and with power good, a supply sag and a loss of REFCLK enter HOLD: the reset is asserted and no track has state. From a state in HOLD or without power, with the reset asserted, no track with state and no track READY, any command after which the device is out of HOLD with power good is PWR_GOOD_RISE or HOLD_EXIT_POR, and every register then reads its reset value. -/
def Obligations.HoldAndOffEndOnlyInPor : Prop :=
  (∀ (rail : BitVec 4) (sample : BitVec 14) (s t : State), s.hold = none → s.pins.pwrGood = true →
    exec (.supplySag rail sample) s = .next t ∨ exec .refclkLoss s = .next t → t.hold.isSome = true ∧ t.resetting = true ∧ t.trks = []) ∧
  (∀ (c : Instr) (s t : State), s.resetting = true → s.trks = [] → s.readyTracks = [] → (s.hold.isSome = true ∨ s.pins.pwrGood = false) →
    exec c s = .next t → t.hold = none → t.pins.pwrGood = true → (c = .pwrGoodRise ∨ c = .holdExitPor) ∧ ∀ (f : Field) (i j : Nat), t.fld f i j = f.reset i j)

/-- Whatever the state, and so also where the frame's ACCOUNT slot has not been done, the tick that cuts it leaves every value of D as it was. -/
def Obligations.CutAccountKeepsDeliverable : Prop :=
  ∀ (a b : Bool) (s t : State), exec (.frameTick a b) s = .next t → t.bwr.d = s.bwr.d

/-- Outside the commands that write registers and those that reset, restart or power the device or perform a track's register requests (Instr.writesRegister, Instr.restarts), a command that answers a next state leaves the waiting commands and the reset as they were; the valid map is left by all but the tick, the image, the end of a self-test part, a flash step and the map's own row repair; HOLD by all but its save; the pins by all but the tick, TELEMETRY and PARK's drain; the wrapper by all but the port's commands; the order numbers by all but what a track receives; the cycle by all but the tick, a TURNTABLE_CYCLE and B0; the tick counts by all but the tick and the census interval; the count of free values by all but the four that take one. -/
def Obligations.FrameOfMemoryPinsAndTime : Prop :=
  ∀ (c : Instr) (s t : State), c.writesRegister = false → c.restarts = false → exec c s = .next t → t.pending = s.pending ∧ t.resetting = s.resetting ∧
      (match c with
        | .stageB1Image .. | .frameTick .. | .vmapRowReplace .. | .bstPartComplete .. | .nvmStepComplete .. => True
        | _ => t.vmap = s.vmap) ∧
      (match c with
        | .holdSavePageDone .. | .holdSavePageTimeout .. | .holdSaveNvmReady .. => True
        | _ => t.hold = s.hold) ∧
      (match c with
        | .frameTick .. | .telemetrySlot .. | .parkDrainComplete .. => True
        | _ => t.pins = s.pins) ∧
      (match c with
        | .wsBypass .. | .wsExtest .. | .wsPreload .. | .dieId .. | .regAccRead .. | .wrstnReset .. => True
        | _ => t.wrap = s.wrap) ∧
      (match c with
        | .rxRow .. | .stallBegin .. | .partialHoldExpiry .. | .rd .. | .wr .. | .wrm .. | .fen .. | .nul .. => True
        | _ => t.ord = s.ord) ∧
      (match c with
        | .stageB0Service .. | .frameTick .. | .turntableCycle .. => True
        | _ => t.cc = s.cc) ∧
      (match c with
        | .frameTick .. => True
        | _ => t.ticks = s.ticks) ∧
      (match c with
        | .frameTick .. | .censusInterval .. => True
        | _ => t.cenTicks = s.cenTicks) ∧
      (match c with
        | .telemetrySlot .. | .readTrainDelivered .. | .cfgdRx .. | .vtrainPhaseComplete .. => True
        | _ => t.free = s.free)

/-- Outside the commands that write registers and those that reset, restart or power the device or perform a track's register requests (Instr.writesRegister, Instr.restarts), a command that answers a next state leaves these as they were: the register fabric, all but nine commands named here; the thermal record, all but the tick, TELEMETRY, PARK and what a core die reports of itself; the AVS loop, all but its own commands, TELEMETRY and the image; the start, all but its stages, training, a row, a calibration window and the tick; PARK, all but its own commands, what a track receives, self-refresh entry and the tick; the repair record, all but the tick, the stages and the commands named here that repair or that issue and settle the trains of a repair. -/
def Obligations.FrameOfStagesThermalPowerAndRepair : Prop :=
  ∀ (c : Instr) (s t : State), c.writesRegister = false → c.restarts = false → exec c s = .next t → (match c with
        | .stageB1Image .. | .frameTick .. | .telemetrySlot .. | .turntableCycle .. | .vtrainPhaseComplete .. | .srxWaitEnd .. | .parkDrainComplete ..
        | .voteSweep .. | .regAccRead .. => True
        | _ => t.fab = s.fab) ∧
      (match c with
        | .frameTick .. | .telemetrySlot .. | .cfghRx .. | .cfgdRx .. | .cerrRx .. | .parkDrainComplete .. | .parkExit .. | .configResponseMissed .. => True
        | _ => t.thm = s.thm) ∧
      (match c with
        | .stageB1Image .. | .telemetrySlot .. | .avsLoopPeriod .. | .avsOpComplete .. | .avsRetryTimer .. | .avsCurrentRead .. => True
        | _ => t.pwr = s.pwr) ∧
      (match c with
        | .stageB0Service .. | .stageB1Image .. | .stageB2Stack .. | .stageB3Test .. | .stageB4Configuration .. | .stageB6Channels ..
        | .stageB7Widening .. | .widenEffectiveTick .. | .frameTick .. | .rxRow .. | .calWindowEnd .. | .ts1Rx .. | .ts2Rx .. | .capRx .. | .smapRx ..
        | .grantRx .. | .trainPhaseTimeout .. => True
        | _ => t.start = s.start) ∧
      (match c with
        | .frameTick .. | .rxRow .. | .wakeDetect .. | .stallBegin .. | .partialHoldExpiry .. | .rd .. | .wr .. | .wrm .. | .fen .. | .nul ..
        | .selfRefreshEntry .. | .parkDrainComplete .. | .parkDrainLimit .. | .parkExit .. => True
        | _ => t.park = s.park) ∧
      (match c with
        | .stageB1Image .. | .stageB4Configuration .. | .stageB6Channels .. | .frameTick .. | .laneRetire .. | .schedIssue .. | .takeoverComplete ..
        | .readTrainDelivered .. | .decodeComplete .. | .wackRx .. | .cdoneRx .. | .cerrRx .. | .alrmRx .. | .gearWindowEnd .. | .gearSwitchEffective ..
        | .vtrainPhaseComplete .. | .migrationStart .. | .hrepIssue .. | .hrepTimeout .. | .bstPartComplete .. | .parkDrainComplete ..
        | .nvmStepComplete .. | .configResponseMissed .. => True
        | _ => t.rep = s.rep)

/-- Where it answers a next state, each of these commands changes nothing but the state its clause names: the signal box, for the ends of a BRS window and of ERR_N; the tracks, for lane management messages, an accepted RDY and three timers of a track; the regulator, for ACCOUNT; the AVS loop, for a current read; registers alone, for the end of a map sweep and for NAP entry; the columns, for a collision window; the engines, for a forced refresh; HOLD, for its save; the wrapper, for the port's instructions; registers and one unit, for the others; for a packet's transmission, the tracks, the registers and what a raised source reaches. -/
def Obligations.TimersChangeOnlyTheirOwnState : Prop :=
  (∀ (s t : State), exec .brsWindowEnd s = .next t ∨ exec .errNHoldExpiry s = .next t → t = { s with box := t.box }) ∧
  (∀ (k : TrackIx) (m : LaneMsg) (s t : State),
    exec (.censusRepeat k) s = .next t ∨ exec (.returnPendingTimeout k) s = .next t ∨ exec (.spareErrWindowEnd k) s = .next t ∨ exec (.laneMgmtReqRx k m) s =
    .next t ∨ exec (.laneMgmtAckRx k m) s = .next t ∨ exec (.rdyRx k) s = .next t → t = { s with trks := t.trks }) ∧
  (∀ (s t : State), exec .accountSlot s = .next t → t = { s with bwr := t.bwr }) ∧
  (∀ (s t : State), exec .avsCurrentRead s = .next t → t = { s with pwr := t.pwr }) ∧
  (∀ (s t : State), exec .avsRetryTimer s = .next t → t = { s with regs := t.regs, pwr := t.pwr }) ∧
  (∀ (s t : State), exec .vmapSweepDone s = .next t ∨ exec .napIdleExpiry s = .next t → t = { s with regs := t.regs }) ∧
  (∀ (q : QuadIx) (s t : State), exec (.collisionWindowEnd q) s = .next t → t = { s with vert := t.vert }) ∧
  (∀ (c : ChanIx) (n : Nat) (s t : State), exec (.nrefForceDue c n) s = .next t → t = { s with chans := t.chans }) ∧
  (∀ (s t : State), exec .holdSaveNvmReady s = .next t ∨ exec .holdSavePageDone s = .next t ∨ exec .holdSavePageTimeout s = .next t →
    t = { s with hold := t.hold }) ∧
  (∀ (s t : State), exec .bulHoldoffEnd s = .next t → t = { s with regs := t.regs, box := t.box }) ∧
  (∀ (h : Fin 3) (b : Bool) (s t : State), exec (.relayFlagRestored h b) s = .next t → t = { s with regs := t.regs, vert := t.vert }) ∧
  (∀ (k : TrackIx) (w : Bool) (s t : State),
    exec (.trainRetryPeriod k) s = .next t ∨ exec (.txL1Exit k) s = .next t ∨ exec (.txL1Entry k) s = .next t ∨ exec (.stallEnd k w) s = .next t →
    t = { s with regs := t.regs, trks := t.trks }) ∧
  (∀ (s t : State), exec .censusInterval s = .next t → t = { s with regs := t.regs, trks := t.trks, cenTicks := t.cenTicks }) ∧
  (∀ (c : ChanIx) (b : BankIx) (s t : State),
    exec (.pageIdleExpiry c b) s = .next t ∨ exec (.refreshSlot c) s = .next t ∨ exec (.chnBlockResetDone c) s = .next t ∨ exec (.chnDrained c) s = .next t →
    t = { s with regs := t.regs, chans := t.chans }) ∧
  (∀ (s t : State), exec .stageB0Service s = .next t → t = { s with regs := t.regs, start := t.start, cc := t.cc }) ∧
  (∀ (k : TrackIx) (s t : State), exec (.packetTransmit k) s = .next t →
    t = { s with regs := t.regs, box := t.box, trks := t.trks, tags := t.tags, chans := t.chans, codec := t.codec, vert := t.vert, bwr := t.bwr, bst := t.bst, nvm := t.nvm })
    ∧
  (∀ (l : LayerIx) (s t : State), exec (.hrepIssue l) s = .next t → t = { s with regs := t.regs, chans := t.chans, vert := t.vert, rep := t.rep }) ∧
  (∀ (s t : State), exec .parkExit s = .next t → t = { s with regs := t.regs, chans := t.chans, bwr := t.bwr, thm := t.thm, park := t.park }) ∧
  (∀ (s t : State), exec .chipResetHoldEnd s = .next t → t = { s with regs := t.regs, resetting := t.resetting, start := t.start }) ∧
  (∀ (x : Bool) (v : BitVec 17) (s t : State),
    exec (.wsBypass x) s = .next t ∨ exec (.wsExtest v v) s = .next t ∨ exec (.wsPreload v v) s = .next t ∨ exec .dieId s = .next t ∨ exec .wrstnReset s =
    .next t → t = { s with wrap := t.wrap })
end

