-- ==== Sys2Proof/Laws/Store.lean ====
section
/-! SUPPORT. Laws of the sparse tables: a read after a write to the same key gives the value written, a write leaves every other key alone, every operation keeps the canonical form. -/
namespace Sys2Proof

variable {α : Type}

@[simp] theorem Store.find_put_same (m : Store α) (k : Nat) (v : α) : Store.find (Store.put m k v) k = some v := by
  induction m with
  | nil => simp [Store.put, Store.find]
  | cons e m ih =>
    obtain ⟨a, x⟩ := e
    simp only [Store.put]
    split
    · simp [Store.find]
    · split
      · simp [Store.find]
      · simp_all [Store.find]

theorem Store.find_put_ne (m : Store α) {k l : Nat} (v : α) (h : l ≠ k) : Store.find (Store.put m k v) l = Store.find m l := by
  induction m with
  | nil => simp [Store.put, Store.find, h]
  | cons e m ih =>
    obtain ⟨a, x⟩ := e
    simp only [Store.put]
    split
    · simp [Store.find, h]
    · split
      · rename_i h2
        subst h2
        simp [Store.find, h]
      · simp [Store.find, ih]

@[simp] theorem Store.find_del_same (m : Store α) (k : Nat) : Store.find (Store.del m k) k = none := by
  induction m with
  | nil => simp [Store.del, Store.find]
  | cons e m ih =>
    obtain ⟨a, x⟩ := e
    simp only [Store.del, List.filter_cons] at *
    split
    · rename_i hk
      have hk : k ≠ a := by
        intro e
        simp [e] at hk
      simp only [Store.find, if_neg hk]
      exact ih
    · exact ih

theorem Store.find_del_ne (m : Store α) {k l : Nat} (h : l ≠ k) : Store.find (Store.del m k) l = Store.find m l := by
  induction m with
  | nil => simp [Store.del, Store.find]
  | cons e m ih =>
    obtain ⟨a, x⟩ := e
    simp only [Store.del, List.filter_cons] at *
    split
    · simp [Store.find, ih]
    · have : a = k := by simp_all
      subst this
      simp [Store.find, h, ih]

/-- Reading a key just put. -/
@[simp] theorem Store.get_put_same (m : Store α) (k : Nat) (v d : α) : Store.get (Store.put m k v) k d = v := by
  simp [Store.get]

/-- Reading the key just written. -/
@[simp] theorem Store.get_set_same [DecidableEq α] (m : Store α) (k : Nat) (d v : α) : Store.get (Store.set m k d v) k d = v := by
  unfold Store.set Store.get
  split <;> simp_all

/-- A write leaves every other key alone. -/
theorem Store.get_set_ne [DecidableEq α] (m : Store α) {k l : Nat} (d v e : α) (h : l ≠ k) :
    Store.get (Store.set m k d v) l e = Store.get m l e := by
  unfold Store.set Store.get
  split
  · rw [Store.find_del_ne m h]
  · rw [Store.find_put_ne m v h]

/-- The keys of a canonical table all lie above a bound that its first key passes. -/
theorem Store.wf_cons {a : Nat} {x : α} {m : Store α} :
    Store.wf ((a, x) :: m) = true ↔ (∀ e ∈ m, a < e.1) ∧ Store.wf m = true := by
  induction m generalizing a x with
  | nil => simp [Store.wf]
  | cons e m ih =>
    obtain ⟨b, y⟩ := e
    simp only [Store.wf, Bool.and_eq_true, decide_eq_true_eq, List.mem_cons, forall_eq_or_imp]
    constructor
    · rintro ⟨h1, h2⟩
      exact ⟨⟨h1, fun e he => Nat.lt_trans h1 ((ih.mp h2).1 e he)⟩, h2⟩
    · rintro ⟨⟨h1, _⟩, h3⟩
      exact ⟨h1, h3⟩

/-- Filtering keeps the canonical form. -/
theorem Store.wf_filter {m : Store α} (p : Nat × α → Bool) (h : Store.wf m = true) : Store.wf (m.filter p) = true := by
  induction m with
  | nil => exact h
  | cons e m ih =>
    obtain ⟨a, x⟩ := e
    obtain ⟨h1, h2⟩ := Store.wf_cons.mp h
    rw [List.filter_cons]
    split
    · exact Store.wf_cons.mpr ⟨fun e he => h1 e (List.mem_filter.mp he).1, ih h2⟩
    · exact ih h2

/-- Changing values and no key keeps the canonical form. -/
theorem Store.wf_map {β : Type} {m : Store α} (g : Nat × α → Nat × β) (hg : ∀ e, (g e).1 = e.1) (h : Store.wf m = true) :
    Store.wf (m.map g) = true := by
  induction m with
  | nil => rfl
  | cons e m ih =>
    obtain ⟨a, x⟩ := e
    obtain ⟨h1, h2⟩ := Store.wf_cons.mp h
    have e1 : g (a, x) = (a, (g (a, x)).2) := Prod.ext (hg (a, x)) rfl
    rw [List.map_cons, e1]
    refine Store.wf_cons.mpr ⟨?_, ih h2⟩
    intro e he
    obtain ⟨y, hy, rfl⟩ := List.mem_map.mp he
    rw [hg]
    exact h1 y hy

theorem Store.mem_put {m : Store α} {k : Nat} {v : α} {e : Nat × α} (h : e ∈ Store.put m k v) : e = (k, v) ∨ e ∈ m := by
  induction m with
  | nil => simpa [Store.put] using h
  | cons f m ih =>
    obtain ⟨a, x⟩ := f
    simp only [Store.put] at h
    split at h
    · simpa using h
    · split at h
      · simp only [List.mem_cons] at h ⊢
        rcases h with h | h
        · exact .inl h
        · exact .inr (.inr h)
      · simp only [List.mem_cons] at h ⊢
        rcases h with h | h
        · exact .inr (.inl h)
        · rcases ih h with h | h
          · exact .inl h
          · exact .inr (.inr h)

/-- Listing a value keeps the canonical form. -/
theorem Store.wf_put {m : Store α} (k : Nat) (v : α) (h : Store.wf m = true) : Store.wf (Store.put m k v) = true := by
  induction m with
  | nil => rfl
  | cons e m ih =>
    obtain ⟨a, x⟩ := e
    obtain ⟨h1, h2⟩ := Store.wf_cons.mp h
    simp only [Store.put]
    split
    · rename_i hk
      refine Store.wf_cons.mpr ⟨?_, h⟩
      intro e he
      rcases List.mem_cons.mp he with rfl | he
      · exact hk
      · exact Nat.lt_trans hk (h1 e he)
    · split
      · rename_i hk
        subst hk
        exact Store.wf_cons.mpr ⟨h1, h2⟩
      · rename_i hk1 hk2
        refine Store.wf_cons.mpr ⟨?_, ih h2⟩
        intro e he
        rcases Store.mem_put he with rfl | he
        · exact Nat.lt_of_le_of_ne (Nat.le_of_not_lt hk1) (Ne.symm hk2)
        · exact h1 e he

/-- Unlisting a key keeps the canonical form. -/
theorem Store.wf_del {m : Store α} (k : Nat) (h : Store.wf m = true) : Store.wf (Store.del m k) = true := Store.wf_filter _ h

/-- A write keeps the canonical form. -/
theorem Store.wf_set [DecidableEq α] {m : Store α} (k : Nat) (d v : α) (h : Store.wf m = true) :
    Store.wf (Store.set m k d v) = true := by
  unfold Store.set
  split
  · exact Store.wf_del k h
  · exact Store.wf_put k v h

/-- A write of d unlists the key, any other lists it: no entry of a table is ever its unlisted reading. -/
theorem Store.mem_set_ne [DecidableEq α] {m : Store α} {k : Nat} {d v : α} (h : ∀ e ∈ m, e.2 ≠ d) :
    ∀ e ∈ Store.set m k d v, e.2 ≠ d := by
  intro e he
  unfold Store.set at he
  split at he
  · exact h e (List.mem_filter.mp he).1
  · rename_i hv
    rcases Store.mem_put he with rfl | he
    · exact hv
    · exact h e he

/-- Two canonical tables with the same readings are the same table. -/
theorem Store.ext_find {m n : Store α} (hm : Store.wf m = true) (hn : Store.wf n = true)
    (h : ∀ k, Store.find m k = Store.find n k) : m = n := by
  induction m generalizing n with
  | nil =>
    cases n with
    | nil => rfl
    | cons e n =>
      have := h e.1
      simp [Store.find] at this
  | cons e m ih =>
    obtain ⟨a, x⟩ := e
    cases n with
    | nil =>
      have := h a
      simp [Store.find] at this
    | cons f n =>
      obtain ⟨b, y⟩ := f
      obtain ⟨hm1, hm2⟩ := Store.wf_cons.mp hm
      obtain ⟨hn1, hn2⟩ := Store.wf_cons.mp hn
      have low : ∀ (l : Store α) (c k : Nat), (∀ e ∈ l, c < e.1) → k ≤ c → Store.find l k = none := by
        intro l c k hl hk
        induction l with
        | nil => rfl
        | cons g l ihl =>
          obtain ⟨d, z⟩ := g
          have h1 := hl (d, z) (List.mem_cons_self ..)
          have h2 : k ≠ d := by simp at h1; omega
          simp only [Store.find, if_neg h2]
          exact ihl fun e he => hl e (List.mem_cons_of_mem _ he)
      have hab : a = b := by
        rcases Nat.lt_trichotomy a b with hlt | heq | hlt
        · have := h a
          simp only [Store.find, if_true, if_neg (Nat.ne_of_lt hlt)] at this
          rw [low n b a hn1 (Nat.le_of_lt hlt)] at this
          simp at this
        · exact heq
        · have := h b
          simp only [Store.find, if_true, if_neg (Nat.ne_of_lt hlt)] at this
          rw [low m a b hm1 (Nat.le_of_lt hlt)] at this
          simp at this
      subst hab
      have hxy := h a
      simp only [Store.find, if_true, Option.some.injEq] at hxy
      subst hxy
      congr 1
      refine ih hm2 hn2 fun k => ?_
      by_cases hk : k = a
      · subst hk
        rw [low m k k hm1 (Nat.le_refl _), low n k k hn1 (Nat.le_refl _)]
      · have := h k
        simpa [Store.find, hk] using this

end Sys2Proof
end

