-- ==== Sys2Proof/Laws/State.lean ====
section
/-! SUPPORT. What the named updates of State leave, one lemma a field and update, and what they write: no proof unfolds a record update. -/
namespace Sys2Proof.Machine

variable (s : State)

/-! ### setFld -/

@[simp] theorem State.setFld_pending (f : Field) (v i j : Nat) : (s.setFld f v i j).pending = s.pending := rfl
@[simp] theorem State.setFld_fab (f : Field) (v i j : Nat) : (s.setFld f v i j).fab = s.fab := rfl
@[simp] theorem State.setFld_box (f : Field) (v i j : Nat) : (s.setFld f v i j).box = s.box := rfl
@[simp] theorem State.setFld_pins (f : Field) (v i j : Nat) : (s.setFld f v i j).pins = s.pins := rfl
@[simp] theorem State.setFld_trks (f : Field) (v i j : Nat) : (s.setFld f v i j).trks = s.trks := rfl
@[simp] theorem State.setFld_tags (f : Field) (v i j : Nat) : (s.setFld f v i j).tags = s.tags := rfl
@[simp] theorem State.setFld_ord (f : Field) (v i j : Nat) : (s.setFld f v i j).ord = s.ord := rfl
@[simp] theorem State.setFld_cenTicks (f : Field) (v i j : Nat) : (s.setFld f v i j).cenTicks = s.cenTicks := rfl
@[simp] theorem State.setFld_ticks (f : Field) (v i j : Nat) : (s.setFld f v i j).ticks = s.ticks := rfl
@[simp] theorem State.setFld_resetting (f : Field) (v i j : Nat) : (s.setFld f v i j).resetting = s.resetting := rfl
@[simp] theorem State.setFld_chans (f : Field) (v i j : Nat) : (s.setFld f v i j).chans = s.chans := rfl
@[simp] theorem State.setFld_codec (f : Field) (v i j : Nat) : (s.setFld f v i j).codec = s.codec := rfl
@[simp] theorem State.setFld_vert (f : Field) (v i j : Nat) : (s.setFld f v i j).vert = s.vert := rfl
@[simp] theorem State.setFld_bwr (f : Field) (v i j : Nat) : (s.setFld f v i j).bwr = s.bwr := rfl
@[simp] theorem State.setFld_vmap (f : Field) (v i j : Nat) : (s.setFld f v i j).vmap = s.vmap := rfl
@[simp] theorem State.setFld_rep (f : Field) (v i j : Nat) : (s.setFld f v i j).rep = s.rep := rfl
@[simp] theorem State.setFld_bst (f : Field) (v i j : Nat) : (s.setFld f v i j).bst = s.bst := rfl
@[simp] theorem State.setFld_thm (f : Field) (v i j : Nat) : (s.setFld f v i j).thm = s.thm := rfl
@[simp] theorem State.setFld_pwr (f : Field) (v i j : Nat) : (s.setFld f v i j).pwr = s.pwr := rfl
@[simp] theorem State.setFld_hold (f : Field) (v i j : Nat) : (s.setFld f v i j).hold = s.hold := rfl
@[simp] theorem State.setFld_start (f : Field) (v i j : Nat) : (s.setFld f v i j).start = s.start := rfl
@[simp] theorem State.setFld_park (f : Field) (v i j : Nat) : (s.setFld f v i j).park = s.park := rfl
@[simp] theorem State.setFld_nvm (f : Field) (v i j : Nat) : (s.setFld f v i j).nvm = s.nvm := rfl
@[simp] theorem State.setFld_wrap (f : Field) (v i j : Nat) : (s.setFld f v i j).wrap = s.wrap := rfl
@[simp] theorem State.setFld_cc (f : Field) (v i j : Nat) : (s.setFld f v i j).cc = s.cc := rfl
@[simp] theorem State.setFld_free (f : Field) (v i j : Nat) : (s.setFld f v i j).free = s.free := rfl
@[simp] theorem State.setFld_trk (f : Field) (v i j : Nat) (x₁ : Nat) : (s.setFld f v i j).trk x₁ = s.trk x₁ := rfl
@[simp] theorem State.setFld_chan (f : Field) (v i j : Nat) (x₁ : Nat) : (s.setFld f v i j).chan x₁ = s.chan x₁ := rfl
@[simp] theorem State.setFld_bund (f : Field) (v i j : Nat) (x₁ : Nat) : (s.setFld f v i j).bund x₁ = s.bund x₁ := rfl
@[simp] theorem State.setFld_thmL (f : Field) (v i j : Nat) (x₁ : Nat) : (s.setFld f v i j).thmL x₁ = s.thmL x₁ := rfl

/-! ### setFlag -/

@[simp] theorem State.setFlag_pending (f : Field) (b : Bool) (i j : Nat) : (s.setFlag f b i j).pending = s.pending := rfl
@[simp] theorem State.setFlag_fab (f : Field) (b : Bool) (i j : Nat) : (s.setFlag f b i j).fab = s.fab := rfl
@[simp] theorem State.setFlag_box (f : Field) (b : Bool) (i j : Nat) : (s.setFlag f b i j).box = s.box := rfl
@[simp] theorem State.setFlag_pins (f : Field) (b : Bool) (i j : Nat) : (s.setFlag f b i j).pins = s.pins := rfl
@[simp] theorem State.setFlag_trks (f : Field) (b : Bool) (i j : Nat) : (s.setFlag f b i j).trks = s.trks := rfl
@[simp] theorem State.setFlag_tags (f : Field) (b : Bool) (i j : Nat) : (s.setFlag f b i j).tags = s.tags := rfl
@[simp] theorem State.setFlag_ord (f : Field) (b : Bool) (i j : Nat) : (s.setFlag f b i j).ord = s.ord := rfl
@[simp] theorem State.setFlag_cenTicks (f : Field) (b : Bool) (i j : Nat) : (s.setFlag f b i j).cenTicks = s.cenTicks := rfl
@[simp] theorem State.setFlag_ticks (f : Field) (b : Bool) (i j : Nat) : (s.setFlag f b i j).ticks = s.ticks := rfl
@[simp] theorem State.setFlag_resetting (f : Field) (b : Bool) (i j : Nat) : (s.setFlag f b i j).resetting = s.resetting := rfl
@[simp] theorem State.setFlag_chans (f : Field) (b : Bool) (i j : Nat) : (s.setFlag f b i j).chans = s.chans := rfl
@[simp] theorem State.setFlag_codec (f : Field) (b : Bool) (i j : Nat) : (s.setFlag f b i j).codec = s.codec := rfl
@[simp] theorem State.setFlag_vert (f : Field) (b : Bool) (i j : Nat) : (s.setFlag f b i j).vert = s.vert := rfl
@[simp] theorem State.setFlag_bwr (f : Field) (b : Bool) (i j : Nat) : (s.setFlag f b i j).bwr = s.bwr := rfl
@[simp] theorem State.setFlag_vmap (f : Field) (b : Bool) (i j : Nat) : (s.setFlag f b i j).vmap = s.vmap := rfl
@[simp] theorem State.setFlag_rep (f : Field) (b : Bool) (i j : Nat) : (s.setFlag f b i j).rep = s.rep := rfl
@[simp] theorem State.setFlag_bst (f : Field) (b : Bool) (i j : Nat) : (s.setFlag f b i j).bst = s.bst := rfl
@[simp] theorem State.setFlag_thm (f : Field) (b : Bool) (i j : Nat) : (s.setFlag f b i j).thm = s.thm := rfl
@[simp] theorem State.setFlag_pwr (f : Field) (b : Bool) (i j : Nat) : (s.setFlag f b i j).pwr = s.pwr := rfl
@[simp] theorem State.setFlag_hold (f : Field) (b : Bool) (i j : Nat) : (s.setFlag f b i j).hold = s.hold := rfl
@[simp] theorem State.setFlag_start (f : Field) (b : Bool) (i j : Nat) : (s.setFlag f b i j).start = s.start := rfl
@[simp] theorem State.setFlag_park (f : Field) (b : Bool) (i j : Nat) : (s.setFlag f b i j).park = s.park := rfl
@[simp] theorem State.setFlag_nvm (f : Field) (b : Bool) (i j : Nat) : (s.setFlag f b i j).nvm = s.nvm := rfl
@[simp] theorem State.setFlag_wrap (f : Field) (b : Bool) (i j : Nat) : (s.setFlag f b i j).wrap = s.wrap := rfl
@[simp] theorem State.setFlag_cc (f : Field) (b : Bool) (i j : Nat) : (s.setFlag f b i j).cc = s.cc := rfl
@[simp] theorem State.setFlag_free (f : Field) (b : Bool) (i j : Nat) : (s.setFlag f b i j).free = s.free := rfl
@[simp] theorem State.setFlag_trk (f : Field) (b : Bool) (i j : Nat) (x₁ : Nat) : (s.setFlag f b i j).trk x₁ = s.trk x₁ := rfl
@[simp] theorem State.setFlag_chan (f : Field) (b : Bool) (i j : Nat) (x₁ : Nat) : (s.setFlag f b i j).chan x₁ = s.chan x₁ := rfl
@[simp] theorem State.setFlag_bund (f : Field) (b : Bool) (i j : Nat) (x₁ : Nat) : (s.setFlag f b i j).bund x₁ = s.bund x₁ := rfl
@[simp] theorem State.setFlag_thmL (f : Field) (b : Bool) (i j : Nat) (x₁ : Nat) : (s.setFlag f b i j).thmL x₁ = s.thmL x₁ := rfl

/-! ### clrFld -/

@[simp] theorem State.clrFld_pending (f : Field) (i j : Nat) : (s.clrFld f i j).pending = s.pending := rfl
@[simp] theorem State.clrFld_fab (f : Field) (i j : Nat) : (s.clrFld f i j).fab = s.fab := rfl
@[simp] theorem State.clrFld_box (f : Field) (i j : Nat) : (s.clrFld f i j).box = s.box := rfl
@[simp] theorem State.clrFld_pins (f : Field) (i j : Nat) : (s.clrFld f i j).pins = s.pins := rfl
@[simp] theorem State.clrFld_trks (f : Field) (i j : Nat) : (s.clrFld f i j).trks = s.trks := rfl
@[simp] theorem State.clrFld_tags (f : Field) (i j : Nat) : (s.clrFld f i j).tags = s.tags := rfl
@[simp] theorem State.clrFld_ord (f : Field) (i j : Nat) : (s.clrFld f i j).ord = s.ord := rfl
@[simp] theorem State.clrFld_cenTicks (f : Field) (i j : Nat) : (s.clrFld f i j).cenTicks = s.cenTicks := rfl
@[simp] theorem State.clrFld_ticks (f : Field) (i j : Nat) : (s.clrFld f i j).ticks = s.ticks := rfl
@[simp] theorem State.clrFld_resetting (f : Field) (i j : Nat) : (s.clrFld f i j).resetting = s.resetting := rfl
@[simp] theorem State.clrFld_chans (f : Field) (i j : Nat) : (s.clrFld f i j).chans = s.chans := rfl
@[simp] theorem State.clrFld_codec (f : Field) (i j : Nat) : (s.clrFld f i j).codec = s.codec := rfl
@[simp] theorem State.clrFld_vert (f : Field) (i j : Nat) : (s.clrFld f i j).vert = s.vert := rfl
@[simp] theorem State.clrFld_bwr (f : Field) (i j : Nat) : (s.clrFld f i j).bwr = s.bwr := rfl
@[simp] theorem State.clrFld_vmap (f : Field) (i j : Nat) : (s.clrFld f i j).vmap = s.vmap := rfl
@[simp] theorem State.clrFld_rep (f : Field) (i j : Nat) : (s.clrFld f i j).rep = s.rep := rfl
@[simp] theorem State.clrFld_bst (f : Field) (i j : Nat) : (s.clrFld f i j).bst = s.bst := rfl
@[simp] theorem State.clrFld_thm (f : Field) (i j : Nat) : (s.clrFld f i j).thm = s.thm := rfl
@[simp] theorem State.clrFld_pwr (f : Field) (i j : Nat) : (s.clrFld f i j).pwr = s.pwr := rfl
@[simp] theorem State.clrFld_hold (f : Field) (i j : Nat) : (s.clrFld f i j).hold = s.hold := rfl
@[simp] theorem State.clrFld_start (f : Field) (i j : Nat) : (s.clrFld f i j).start = s.start := rfl
@[simp] theorem State.clrFld_park (f : Field) (i j : Nat) : (s.clrFld f i j).park = s.park := rfl
@[simp] theorem State.clrFld_nvm (f : Field) (i j : Nat) : (s.clrFld f i j).nvm = s.nvm := rfl
@[simp] theorem State.clrFld_wrap (f : Field) (i j : Nat) : (s.clrFld f i j).wrap = s.wrap := rfl
@[simp] theorem State.clrFld_cc (f : Field) (i j : Nat) : (s.clrFld f i j).cc = s.cc := rfl
@[simp] theorem State.clrFld_free (f : Field) (i j : Nat) : (s.clrFld f i j).free = s.free := rfl
@[simp] theorem State.clrFld_trk (f : Field) (i j : Nat) (x₁ : Nat) : (s.clrFld f i j).trk x₁ = s.trk x₁ := rfl
@[simp] theorem State.clrFld_chan (f : Field) (i j : Nat) (x₁ : Nat) : (s.clrFld f i j).chan x₁ = s.chan x₁ := rfl
@[simp] theorem State.clrFld_bund (f : Field) (i j : Nat) (x₁ : Nat) : (s.clrFld f i j).bund x₁ = s.bund x₁ := rfl
@[simp] theorem State.clrFld_thmL (f : Field) (i j : Nat) (x₁ : Nat) : (s.clrFld f i j).thmL x₁ = s.thmL x₁ := rfl

/-! ### resetRegs -/

@[simp] theorem State.resetRegs_pending (k : ResetKind) (w : Nat → Bool) : (s.resetRegs k w).pending = s.pending := rfl
@[simp] theorem State.resetRegs_fab (k : ResetKind) (w : Nat → Bool) : (s.resetRegs k w).fab = s.fab := rfl
@[simp] theorem State.resetRegs_box (k : ResetKind) (w : Nat → Bool) : (s.resetRegs k w).box = s.box := rfl
@[simp] theorem State.resetRegs_pins (k : ResetKind) (w : Nat → Bool) : (s.resetRegs k w).pins = s.pins := rfl
@[simp] theorem State.resetRegs_trks (k : ResetKind) (w : Nat → Bool) : (s.resetRegs k w).trks = s.trks := rfl
@[simp] theorem State.resetRegs_tags (k : ResetKind) (w : Nat → Bool) : (s.resetRegs k w).tags = s.tags := rfl
@[simp] theorem State.resetRegs_ord (k : ResetKind) (w : Nat → Bool) : (s.resetRegs k w).ord = s.ord := rfl
@[simp] theorem State.resetRegs_cenTicks (k : ResetKind) (w : Nat → Bool) : (s.resetRegs k w).cenTicks = s.cenTicks := rfl
@[simp] theorem State.resetRegs_ticks (k : ResetKind) (w : Nat → Bool) : (s.resetRegs k w).ticks = s.ticks := rfl
@[simp] theorem State.resetRegs_resetting (k : ResetKind) (w : Nat → Bool) : (s.resetRegs k w).resetting = s.resetting := rfl
@[simp] theorem State.resetRegs_chans (k : ResetKind) (w : Nat → Bool) : (s.resetRegs k w).chans = s.chans := rfl
@[simp] theorem State.resetRegs_codec (k : ResetKind) (w : Nat → Bool) : (s.resetRegs k w).codec = s.codec := rfl
@[simp] theorem State.resetRegs_vert (k : ResetKind) (w : Nat → Bool) : (s.resetRegs k w).vert = s.vert := rfl
@[simp] theorem State.resetRegs_bwr (k : ResetKind) (w : Nat → Bool) : (s.resetRegs k w).bwr = s.bwr := rfl
@[simp] theorem State.resetRegs_vmap (k : ResetKind) (w : Nat → Bool) : (s.resetRegs k w).vmap = s.vmap := rfl
@[simp] theorem State.resetRegs_rep (k : ResetKind) (w : Nat → Bool) : (s.resetRegs k w).rep = s.rep := rfl
@[simp] theorem State.resetRegs_bst (k : ResetKind) (w : Nat → Bool) : (s.resetRegs k w).bst = s.bst := rfl
@[simp] theorem State.resetRegs_thm (k : ResetKind) (w : Nat → Bool) : (s.resetRegs k w).thm = s.thm := rfl
@[simp] theorem State.resetRegs_pwr (k : ResetKind) (w : Nat → Bool) : (s.resetRegs k w).pwr = s.pwr := rfl
@[simp] theorem State.resetRegs_hold (k : ResetKind) (w : Nat → Bool) : (s.resetRegs k w).hold = s.hold := rfl
@[simp] theorem State.resetRegs_start (k : ResetKind) (w : Nat → Bool) : (s.resetRegs k w).start = s.start := rfl
@[simp] theorem State.resetRegs_park (k : ResetKind) (w : Nat → Bool) : (s.resetRegs k w).park = s.park := rfl
@[simp] theorem State.resetRegs_nvm (k : ResetKind) (w : Nat → Bool) : (s.resetRegs k w).nvm = s.nvm := rfl
@[simp] theorem State.resetRegs_wrap (k : ResetKind) (w : Nat → Bool) : (s.resetRegs k w).wrap = s.wrap := rfl
@[simp] theorem State.resetRegs_cc (k : ResetKind) (w : Nat → Bool) : (s.resetRegs k w).cc = s.cc := rfl
@[simp] theorem State.resetRegs_free (k : ResetKind) (w : Nat → Bool) : (s.resetRegs k w).free = s.free := rfl
@[simp] theorem State.resetRegs_trk (k : ResetKind) (w : Nat → Bool) (x₁ : Nat) : (s.resetRegs k w).trk x₁ = s.trk x₁ := rfl
@[simp] theorem State.resetRegs_chan (k : ResetKind) (w : Nat → Bool) (x₁ : Nat) : (s.resetRegs k w).chan x₁ = s.chan x₁ := rfl
@[simp] theorem State.resetRegs_bund (k : ResetKind) (w : Nat → Bool) (x₁ : Nat) : (s.resetRegs k w).bund x₁ = s.bund x₁ := rfl
@[simp] theorem State.resetRegs_thmL (k : ResetKind) (w : Nat → Bool) (x₁ : Nat) : (s.resetRegs k w).thmL x₁ = s.thmL x₁ := rfl

/-! ### atTick -/

@[simp] theorem State.atTick_pending (f : Field) (v i j : Nat) : (s.atTick f v i j).pending = s.pending := rfl
@[simp] theorem State.atTick_regs (f : Field) (v i j : Nat) : (s.atTick f v i j).regs = s.regs := rfl
@[simp] theorem State.atTick_box (f : Field) (v i j : Nat) : (s.atTick f v i j).box = s.box := rfl
@[simp] theorem State.atTick_pins (f : Field) (v i j : Nat) : (s.atTick f v i j).pins = s.pins := rfl
@[simp] theorem State.atTick_trks (f : Field) (v i j : Nat) : (s.atTick f v i j).trks = s.trks := rfl
@[simp] theorem State.atTick_tags (f : Field) (v i j : Nat) : (s.atTick f v i j).tags = s.tags := rfl
@[simp] theorem State.atTick_ord (f : Field) (v i j : Nat) : (s.atTick f v i j).ord = s.ord := rfl
@[simp] theorem State.atTick_cenTicks (f : Field) (v i j : Nat) : (s.atTick f v i j).cenTicks = s.cenTicks := rfl
@[simp] theorem State.atTick_ticks (f : Field) (v i j : Nat) : (s.atTick f v i j).ticks = s.ticks := rfl
@[simp] theorem State.atTick_resetting (f : Field) (v i j : Nat) : (s.atTick f v i j).resetting = s.resetting := rfl
@[simp] theorem State.atTick_chans (f : Field) (v i j : Nat) : (s.atTick f v i j).chans = s.chans := rfl
@[simp] theorem State.atTick_codec (f : Field) (v i j : Nat) : (s.atTick f v i j).codec = s.codec := rfl
@[simp] theorem State.atTick_vert (f : Field) (v i j : Nat) : (s.atTick f v i j).vert = s.vert := rfl
@[simp] theorem State.atTick_bwr (f : Field) (v i j : Nat) : (s.atTick f v i j).bwr = s.bwr := rfl
@[simp] theorem State.atTick_vmap (f : Field) (v i j : Nat) : (s.atTick f v i j).vmap = s.vmap := rfl
@[simp] theorem State.atTick_rep (f : Field) (v i j : Nat) : (s.atTick f v i j).rep = s.rep := rfl
@[simp] theorem State.atTick_bst (f : Field) (v i j : Nat) : (s.atTick f v i j).bst = s.bst := rfl
@[simp] theorem State.atTick_thm (f : Field) (v i j : Nat) : (s.atTick f v i j).thm = s.thm := rfl
@[simp] theorem State.atTick_pwr (f : Field) (v i j : Nat) : (s.atTick f v i j).pwr = s.pwr := rfl
@[simp] theorem State.atTick_hold (f : Field) (v i j : Nat) : (s.atTick f v i j).hold = s.hold := rfl
@[simp] theorem State.atTick_start (f : Field) (v i j : Nat) : (s.atTick f v i j).start = s.start := rfl
@[simp] theorem State.atTick_park (f : Field) (v i j : Nat) : (s.atTick f v i j).park = s.park := rfl
@[simp] theorem State.atTick_nvm (f : Field) (v i j : Nat) : (s.atTick f v i j).nvm = s.nvm := rfl
@[simp] theorem State.atTick_wrap (f : Field) (v i j : Nat) : (s.atTick f v i j).wrap = s.wrap := rfl
@[simp] theorem State.atTick_cc (f : Field) (v i j : Nat) : (s.atTick f v i j).cc = s.cc := rfl
@[simp] theorem State.atTick_free (f : Field) (v i j : Nat) : (s.atTick f v i j).free = s.free := rfl
@[simp] theorem State.atTick_fld (f : Field) (v i j : Nat) (e : Field) (x₁ x₂ : Nat) : (s.atTick f v i j).fld e x₁ x₂ = s.fld e x₁ x₂ := rfl
@[simp] theorem State.atTick_flag (f : Field) (v i j : Nat) (e : Field) (x₁ x₂ : Nat) : (s.atTick f v i j).flag e x₁ x₂ = s.flag e x₁ x₂ := rfl
@[simp] theorem State.atTick_trk (f : Field) (v i j : Nat) (x₁ : Nat) : (s.atTick f v i j).trk x₁ = s.trk x₁ := rfl
@[simp] theorem State.atTick_chan (f : Field) (v i j : Nat) (x₁ : Nat) : (s.atTick f v i j).chan x₁ = s.chan x₁ := rfl
@[simp] theorem State.atTick_bund (f : Field) (v i j : Nat) (x₁ : Nat) : (s.atTick f v i j).bund x₁ = s.bund x₁ := rfl
@[simp] theorem State.atTick_thmL (f : Field) (v i j : Nat) (x₁ : Nat) : (s.atTick f v i j).thmL x₁ = s.thmL x₁ := rfl

/-! ### setTrk -/

@[simp] theorem State.setTrk_pending (t : Nat) (x : Trk) : (s.setTrk t x).pending = s.pending := rfl
@[simp] theorem State.setTrk_regs (t : Nat) (x : Trk) : (s.setTrk t x).regs = s.regs := rfl
@[simp] theorem State.setTrk_fab (t : Nat) (x : Trk) : (s.setTrk t x).fab = s.fab := rfl
@[simp] theorem State.setTrk_box (t : Nat) (x : Trk) : (s.setTrk t x).box = s.box := rfl
@[simp] theorem State.setTrk_pins (t : Nat) (x : Trk) : (s.setTrk t x).pins = s.pins := rfl
@[simp] theorem State.setTrk_tags (t : Nat) (x : Trk) : (s.setTrk t x).tags = s.tags := rfl
@[simp] theorem State.setTrk_ord (t : Nat) (x : Trk) : (s.setTrk t x).ord = s.ord := rfl
@[simp] theorem State.setTrk_cenTicks (t : Nat) (x : Trk) : (s.setTrk t x).cenTicks = s.cenTicks := rfl
@[simp] theorem State.setTrk_ticks (t : Nat) (x : Trk) : (s.setTrk t x).ticks = s.ticks := rfl
@[simp] theorem State.setTrk_resetting (t : Nat) (x : Trk) : (s.setTrk t x).resetting = s.resetting := rfl
@[simp] theorem State.setTrk_chans (t : Nat) (x : Trk) : (s.setTrk t x).chans = s.chans := rfl
@[simp] theorem State.setTrk_codec (t : Nat) (x : Trk) : (s.setTrk t x).codec = s.codec := rfl
@[simp] theorem State.setTrk_vert (t : Nat) (x : Trk) : (s.setTrk t x).vert = s.vert := rfl
@[simp] theorem State.setTrk_bwr (t : Nat) (x : Trk) : (s.setTrk t x).bwr = s.bwr := rfl
@[simp] theorem State.setTrk_vmap (t : Nat) (x : Trk) : (s.setTrk t x).vmap = s.vmap := rfl
@[simp] theorem State.setTrk_rep (t : Nat) (x : Trk) : (s.setTrk t x).rep = s.rep := rfl
@[simp] theorem State.setTrk_bst (t : Nat) (x : Trk) : (s.setTrk t x).bst = s.bst := rfl
@[simp] theorem State.setTrk_thm (t : Nat) (x : Trk) : (s.setTrk t x).thm = s.thm := rfl
@[simp] theorem State.setTrk_pwr (t : Nat) (x : Trk) : (s.setTrk t x).pwr = s.pwr := rfl
@[simp] theorem State.setTrk_hold (t : Nat) (x : Trk) : (s.setTrk t x).hold = s.hold := rfl
@[simp] theorem State.setTrk_start (t : Nat) (x : Trk) : (s.setTrk t x).start = s.start := rfl
@[simp] theorem State.setTrk_park (t : Nat) (x : Trk) : (s.setTrk t x).park = s.park := rfl
@[simp] theorem State.setTrk_nvm (t : Nat) (x : Trk) : (s.setTrk t x).nvm = s.nvm := rfl
@[simp] theorem State.setTrk_wrap (t : Nat) (x : Trk) : (s.setTrk t x).wrap = s.wrap := rfl
@[simp] theorem State.setTrk_cc (t : Nat) (x : Trk) : (s.setTrk t x).cc = s.cc := rfl
@[simp] theorem State.setTrk_free (t : Nat) (x : Trk) : (s.setTrk t x).free = s.free := rfl
@[simp] theorem State.setTrk_fld (t : Nat) (x : Trk) (e : Field) (x₁ x₂ : Nat) : (s.setTrk t x).fld e x₁ x₂ = s.fld e x₁ x₂ := rfl
@[simp] theorem State.setTrk_flag (t : Nat) (x : Trk) (e : Field) (x₁ x₂ : Nat) : (s.setTrk t x).flag e x₁ x₂ = s.flag e x₁ x₂ := rfl
@[simp] theorem State.setTrk_chan (t : Nat) (x : Trk) (x₁ : Nat) : (s.setTrk t x).chan x₁ = s.chan x₁ := rfl
@[simp] theorem State.setTrk_bund (t : Nat) (x : Trk) (x₁ : Nat) : (s.setTrk t x).bund x₁ = s.bund x₁ := rfl
@[simp] theorem State.setTrk_thmL (t : Nat) (x : Trk) (x₁ : Nat) : (s.setTrk t x).thmL x₁ = s.thmL x₁ := rfl

/-! ### modTrk -/

@[simp] theorem State.modTrk_pending (t : Nat) (g : Trk → Trk) : (s.modTrk t g).pending = s.pending := rfl
@[simp] theorem State.modTrk_regs (t : Nat) (g : Trk → Trk) : (s.modTrk t g).regs = s.regs := rfl
@[simp] theorem State.modTrk_fab (t : Nat) (g : Trk → Trk) : (s.modTrk t g).fab = s.fab := rfl
@[simp] theorem State.modTrk_box (t : Nat) (g : Trk → Trk) : (s.modTrk t g).box = s.box := rfl
@[simp] theorem State.modTrk_pins (t : Nat) (g : Trk → Trk) : (s.modTrk t g).pins = s.pins := rfl
@[simp] theorem State.modTrk_tags (t : Nat) (g : Trk → Trk) : (s.modTrk t g).tags = s.tags := rfl
@[simp] theorem State.modTrk_ord (t : Nat) (g : Trk → Trk) : (s.modTrk t g).ord = s.ord := rfl
@[simp] theorem State.modTrk_cenTicks (t : Nat) (g : Trk → Trk) : (s.modTrk t g).cenTicks = s.cenTicks := rfl
@[simp] theorem State.modTrk_ticks (t : Nat) (g : Trk → Trk) : (s.modTrk t g).ticks = s.ticks := rfl
@[simp] theorem State.modTrk_resetting (t : Nat) (g : Trk → Trk) : (s.modTrk t g).resetting = s.resetting := rfl
@[simp] theorem State.modTrk_chans (t : Nat) (g : Trk → Trk) : (s.modTrk t g).chans = s.chans := rfl
@[simp] theorem State.modTrk_codec (t : Nat) (g : Trk → Trk) : (s.modTrk t g).codec = s.codec := rfl
@[simp] theorem State.modTrk_vert (t : Nat) (g : Trk → Trk) : (s.modTrk t g).vert = s.vert := rfl
@[simp] theorem State.modTrk_bwr (t : Nat) (g : Trk → Trk) : (s.modTrk t g).bwr = s.bwr := rfl
@[simp] theorem State.modTrk_vmap (t : Nat) (g : Trk → Trk) : (s.modTrk t g).vmap = s.vmap := rfl
@[simp] theorem State.modTrk_rep (t : Nat) (g : Trk → Trk) : (s.modTrk t g).rep = s.rep := rfl
@[simp] theorem State.modTrk_bst (t : Nat) (g : Trk → Trk) : (s.modTrk t g).bst = s.bst := rfl
@[simp] theorem State.modTrk_thm (t : Nat) (g : Trk → Trk) : (s.modTrk t g).thm = s.thm := rfl
@[simp] theorem State.modTrk_pwr (t : Nat) (g : Trk → Trk) : (s.modTrk t g).pwr = s.pwr := rfl
@[simp] theorem State.modTrk_hold (t : Nat) (g : Trk → Trk) : (s.modTrk t g).hold = s.hold := rfl
@[simp] theorem State.modTrk_start (t : Nat) (g : Trk → Trk) : (s.modTrk t g).start = s.start := rfl
@[simp] theorem State.modTrk_park (t : Nat) (g : Trk → Trk) : (s.modTrk t g).park = s.park := rfl
@[simp] theorem State.modTrk_nvm (t : Nat) (g : Trk → Trk) : (s.modTrk t g).nvm = s.nvm := rfl
@[simp] theorem State.modTrk_wrap (t : Nat) (g : Trk → Trk) : (s.modTrk t g).wrap = s.wrap := rfl
@[simp] theorem State.modTrk_cc (t : Nat) (g : Trk → Trk) : (s.modTrk t g).cc = s.cc := rfl
@[simp] theorem State.modTrk_free (t : Nat) (g : Trk → Trk) : (s.modTrk t g).free = s.free := rfl
@[simp] theorem State.modTrk_fld (t : Nat) (g : Trk → Trk) (e : Field) (x₁ x₂ : Nat) : (s.modTrk t g).fld e x₁ x₂ = s.fld e x₁ x₂ := rfl
@[simp] theorem State.modTrk_flag (t : Nat) (g : Trk → Trk) (e : Field) (x₁ x₂ : Nat) : (s.modTrk t g).flag e x₁ x₂ = s.flag e x₁ x₂ := rfl
@[simp] theorem State.modTrk_chan (t : Nat) (g : Trk → Trk) (x₁ : Nat) : (s.modTrk t g).chan x₁ = s.chan x₁ := rfl
@[simp] theorem State.modTrk_bund (t : Nat) (g : Trk → Trk) (x₁ : Nat) : (s.modTrk t g).bund x₁ = s.bund x₁ := rfl
@[simp] theorem State.modTrk_thmL (t : Nat) (g : Trk → Trk) (x₁ : Nat) : (s.modTrk t g).thmL x₁ = s.thmL x₁ := rfl

/-! ### modTx -/

@[simp] theorem State.modTx_pending (t : Nat) (g : TxState → TxState) : (s.modTx t g).pending = s.pending := rfl
@[simp] theorem State.modTx_regs (t : Nat) (g : TxState → TxState) : (s.modTx t g).regs = s.regs := rfl
@[simp] theorem State.modTx_fab (t : Nat) (g : TxState → TxState) : (s.modTx t g).fab = s.fab := rfl
@[simp] theorem State.modTx_box (t : Nat) (g : TxState → TxState) : (s.modTx t g).box = s.box := rfl
@[simp] theorem State.modTx_pins (t : Nat) (g : TxState → TxState) : (s.modTx t g).pins = s.pins := rfl
@[simp] theorem State.modTx_tags (t : Nat) (g : TxState → TxState) : (s.modTx t g).tags = s.tags := rfl
@[simp] theorem State.modTx_ord (t : Nat) (g : TxState → TxState) : (s.modTx t g).ord = s.ord := rfl
@[simp] theorem State.modTx_cenTicks (t : Nat) (g : TxState → TxState) : (s.modTx t g).cenTicks = s.cenTicks := rfl
@[simp] theorem State.modTx_ticks (t : Nat) (g : TxState → TxState) : (s.modTx t g).ticks = s.ticks := rfl
@[simp] theorem State.modTx_resetting (t : Nat) (g : TxState → TxState) : (s.modTx t g).resetting = s.resetting := rfl
@[simp] theorem State.modTx_chans (t : Nat) (g : TxState → TxState) : (s.modTx t g).chans = s.chans := rfl
@[simp] theorem State.modTx_codec (t : Nat) (g : TxState → TxState) : (s.modTx t g).codec = s.codec := rfl
@[simp] theorem State.modTx_vert (t : Nat) (g : TxState → TxState) : (s.modTx t g).vert = s.vert := rfl
@[simp] theorem State.modTx_bwr (t : Nat) (g : TxState → TxState) : (s.modTx t g).bwr = s.bwr := rfl
@[simp] theorem State.modTx_vmap (t : Nat) (g : TxState → TxState) : (s.modTx t g).vmap = s.vmap := rfl
@[simp] theorem State.modTx_rep (t : Nat) (g : TxState → TxState) : (s.modTx t g).rep = s.rep := rfl
@[simp] theorem State.modTx_bst (t : Nat) (g : TxState → TxState) : (s.modTx t g).bst = s.bst := rfl
@[simp] theorem State.modTx_thm (t : Nat) (g : TxState → TxState) : (s.modTx t g).thm = s.thm := rfl
@[simp] theorem State.modTx_pwr (t : Nat) (g : TxState → TxState) : (s.modTx t g).pwr = s.pwr := rfl
@[simp] theorem State.modTx_hold (t : Nat) (g : TxState → TxState) : (s.modTx t g).hold = s.hold := rfl
@[simp] theorem State.modTx_start (t : Nat) (g : TxState → TxState) : (s.modTx t g).start = s.start := rfl
@[simp] theorem State.modTx_park (t : Nat) (g : TxState → TxState) : (s.modTx t g).park = s.park := rfl
@[simp] theorem State.modTx_nvm (t : Nat) (g : TxState → TxState) : (s.modTx t g).nvm = s.nvm := rfl
@[simp] theorem State.modTx_wrap (t : Nat) (g : TxState → TxState) : (s.modTx t g).wrap = s.wrap := rfl
@[simp] theorem State.modTx_cc (t : Nat) (g : TxState → TxState) : (s.modTx t g).cc = s.cc := rfl
@[simp] theorem State.modTx_free (t : Nat) (g : TxState → TxState) : (s.modTx t g).free = s.free := rfl
@[simp] theorem State.modTx_fld (t : Nat) (g : TxState → TxState) (e : Field) (x₁ x₂ : Nat) : (s.modTx t g).fld e x₁ x₂ = s.fld e x₁ x₂ := rfl
@[simp] theorem State.modTx_flag (t : Nat) (g : TxState → TxState) (e : Field) (x₁ x₂ : Nat) : (s.modTx t g).flag e x₁ x₂ = s.flag e x₁ x₂ := rfl
@[simp] theorem State.modTx_chan (t : Nat) (g : TxState → TxState) (x₁ : Nat) : (s.modTx t g).chan x₁ = s.chan x₁ := rfl
@[simp] theorem State.modTx_bund (t : Nat) (g : TxState → TxState) (x₁ : Nat) : (s.modTx t g).bund x₁ = s.bund x₁ := rfl
@[simp] theorem State.modTx_thmL (t : Nat) (g : TxState → TxState) (x₁ : Nat) : (s.modTx t g).thmL x₁ = s.thmL x₁ := rfl

/-! ### modRx -/

@[simp] theorem State.modRx_pending (t : Nat) (g : RxFrame → RxFrame) : (s.modRx t g).pending = s.pending := rfl
@[simp] theorem State.modRx_regs (t : Nat) (g : RxFrame → RxFrame) : (s.modRx t g).regs = s.regs := rfl
@[simp] theorem State.modRx_fab (t : Nat) (g : RxFrame → RxFrame) : (s.modRx t g).fab = s.fab := rfl
@[simp] theorem State.modRx_box (t : Nat) (g : RxFrame → RxFrame) : (s.modRx t g).box = s.box := rfl
@[simp] theorem State.modRx_pins (t : Nat) (g : RxFrame → RxFrame) : (s.modRx t g).pins = s.pins := rfl
@[simp] theorem State.modRx_tags (t : Nat) (g : RxFrame → RxFrame) : (s.modRx t g).tags = s.tags := rfl
@[simp] theorem State.modRx_ord (t : Nat) (g : RxFrame → RxFrame) : (s.modRx t g).ord = s.ord := rfl
@[simp] theorem State.modRx_cenTicks (t : Nat) (g : RxFrame → RxFrame) : (s.modRx t g).cenTicks = s.cenTicks := rfl
@[simp] theorem State.modRx_ticks (t : Nat) (g : RxFrame → RxFrame) : (s.modRx t g).ticks = s.ticks := rfl
@[simp] theorem State.modRx_resetting (t : Nat) (g : RxFrame → RxFrame) : (s.modRx t g).resetting = s.resetting := rfl
@[simp] theorem State.modRx_chans (t : Nat) (g : RxFrame → RxFrame) : (s.modRx t g).chans = s.chans := rfl
@[simp] theorem State.modRx_codec (t : Nat) (g : RxFrame → RxFrame) : (s.modRx t g).codec = s.codec := rfl
@[simp] theorem State.modRx_vert (t : Nat) (g : RxFrame → RxFrame) : (s.modRx t g).vert = s.vert := rfl
@[simp] theorem State.modRx_bwr (t : Nat) (g : RxFrame → RxFrame) : (s.modRx t g).bwr = s.bwr := rfl
@[simp] theorem State.modRx_vmap (t : Nat) (g : RxFrame → RxFrame) : (s.modRx t g).vmap = s.vmap := rfl
@[simp] theorem State.modRx_rep (t : Nat) (g : RxFrame → RxFrame) : (s.modRx t g).rep = s.rep := rfl
@[simp] theorem State.modRx_bst (t : Nat) (g : RxFrame → RxFrame) : (s.modRx t g).bst = s.bst := rfl
@[simp] theorem State.modRx_thm (t : Nat) (g : RxFrame → RxFrame) : (s.modRx t g).thm = s.thm := rfl
@[simp] theorem State.modRx_pwr (t : Nat) (g : RxFrame → RxFrame) : (s.modRx t g).pwr = s.pwr := rfl
@[simp] theorem State.modRx_hold (t : Nat) (g : RxFrame → RxFrame) : (s.modRx t g).hold = s.hold := rfl
@[simp] theorem State.modRx_start (t : Nat) (g : RxFrame → RxFrame) : (s.modRx t g).start = s.start := rfl
@[simp] theorem State.modRx_park (t : Nat) (g : RxFrame → RxFrame) : (s.modRx t g).park = s.park := rfl
@[simp] theorem State.modRx_nvm (t : Nat) (g : RxFrame → RxFrame) : (s.modRx t g).nvm = s.nvm := rfl
@[simp] theorem State.modRx_wrap (t : Nat) (g : RxFrame → RxFrame) : (s.modRx t g).wrap = s.wrap := rfl
@[simp] theorem State.modRx_cc (t : Nat) (g : RxFrame → RxFrame) : (s.modRx t g).cc = s.cc := rfl
@[simp] theorem State.modRx_free (t : Nat) (g : RxFrame → RxFrame) : (s.modRx t g).free = s.free := rfl
@[simp] theorem State.modRx_fld (t : Nat) (g : RxFrame → RxFrame) (e : Field) (x₁ x₂ : Nat) : (s.modRx t g).fld e x₁ x₂ = s.fld e x₁ x₂ := rfl
@[simp] theorem State.modRx_flag (t : Nat) (g : RxFrame → RxFrame) (e : Field) (x₁ x₂ : Nat) : (s.modRx t g).flag e x₁ x₂ = s.flag e x₁ x₂ := rfl
@[simp] theorem State.modRx_chan (t : Nat) (g : RxFrame → RxFrame) (x₁ : Nat) : (s.modRx t g).chan x₁ = s.chan x₁ := rfl
@[simp] theorem State.modRx_bund (t : Nat) (g : RxFrame → RxFrame) (x₁ : Nat) : (s.modRx t g).bund x₁ = s.bund x₁ := rfl
@[simp] theorem State.modRx_thmL (t : Nat) (g : RxFrame → RxFrame) (x₁ : Nat) : (s.modRx t g).thmL x₁ = s.thmL x₁ := rfl

/-! ### modSes -/

@[simp] theorem State.modSes_pending (t : Nat) (g : Session → Session) : (s.modSes t g).pending = s.pending := rfl
@[simp] theorem State.modSes_regs (t : Nat) (g : Session → Session) : (s.modSes t g).regs = s.regs := rfl
@[simp] theorem State.modSes_fab (t : Nat) (g : Session → Session) : (s.modSes t g).fab = s.fab := rfl
@[simp] theorem State.modSes_box (t : Nat) (g : Session → Session) : (s.modSes t g).box = s.box := rfl
@[simp] theorem State.modSes_pins (t : Nat) (g : Session → Session) : (s.modSes t g).pins = s.pins := rfl
@[simp] theorem State.modSes_tags (t : Nat) (g : Session → Session) : (s.modSes t g).tags = s.tags := rfl
@[simp] theorem State.modSes_ord (t : Nat) (g : Session → Session) : (s.modSes t g).ord = s.ord := rfl
@[simp] theorem State.modSes_cenTicks (t : Nat) (g : Session → Session) : (s.modSes t g).cenTicks = s.cenTicks := rfl
@[simp] theorem State.modSes_ticks (t : Nat) (g : Session → Session) : (s.modSes t g).ticks = s.ticks := rfl
@[simp] theorem State.modSes_resetting (t : Nat) (g : Session → Session) : (s.modSes t g).resetting = s.resetting := rfl
@[simp] theorem State.modSes_chans (t : Nat) (g : Session → Session) : (s.modSes t g).chans = s.chans := rfl
@[simp] theorem State.modSes_codec (t : Nat) (g : Session → Session) : (s.modSes t g).codec = s.codec := rfl
@[simp] theorem State.modSes_vert (t : Nat) (g : Session → Session) : (s.modSes t g).vert = s.vert := rfl
@[simp] theorem State.modSes_bwr (t : Nat) (g : Session → Session) : (s.modSes t g).bwr = s.bwr := rfl
@[simp] theorem State.modSes_vmap (t : Nat) (g : Session → Session) : (s.modSes t g).vmap = s.vmap := rfl
@[simp] theorem State.modSes_rep (t : Nat) (g : Session → Session) : (s.modSes t g).rep = s.rep := rfl
@[simp] theorem State.modSes_bst (t : Nat) (g : Session → Session) : (s.modSes t g).bst = s.bst := rfl
@[simp] theorem State.modSes_thm (t : Nat) (g : Session → Session) : (s.modSes t g).thm = s.thm := rfl
@[simp] theorem State.modSes_pwr (t : Nat) (g : Session → Session) : (s.modSes t g).pwr = s.pwr := rfl
@[simp] theorem State.modSes_hold (t : Nat) (g : Session → Session) : (s.modSes t g).hold = s.hold := rfl
@[simp] theorem State.modSes_start (t : Nat) (g : Session → Session) : (s.modSes t g).start = s.start := rfl
@[simp] theorem State.modSes_park (t : Nat) (g : Session → Session) : (s.modSes t g).park = s.park := rfl
@[simp] theorem State.modSes_nvm (t : Nat) (g : Session → Session) : (s.modSes t g).nvm = s.nvm := rfl
@[simp] theorem State.modSes_wrap (t : Nat) (g : Session → Session) : (s.modSes t g).wrap = s.wrap := rfl
@[simp] theorem State.modSes_cc (t : Nat) (g : Session → Session) : (s.modSes t g).cc = s.cc := rfl
@[simp] theorem State.modSes_free (t : Nat) (g : Session → Session) : (s.modSes t g).free = s.free := rfl
@[simp] theorem State.modSes_fld (t : Nat) (g : Session → Session) (e : Field) (x₁ x₂ : Nat) : (s.modSes t g).fld e x₁ x₂ = s.fld e x₁ x₂ := rfl
@[simp] theorem State.modSes_flag (t : Nat) (g : Session → Session) (e : Field) (x₁ x₂ : Nat) : (s.modSes t g).flag e x₁ x₂ = s.flag e x₁ x₂ := rfl
@[simp] theorem State.modSes_chan (t : Nat) (g : Session → Session) (x₁ : Nat) : (s.modSes t g).chan x₁ = s.chan x₁ := rfl
@[simp] theorem State.modSes_bund (t : Nat) (g : Session → Session) (x₁ : Nat) : (s.modSes t g).bund x₁ = s.bund x₁ := rfl
@[simp] theorem State.modSes_thmL (t : Nat) (g : Session → Session) (x₁ : Nat) : (s.modSes t g).thmL x₁ = s.thmL x₁ := rfl

/-! ### modTrn -/

@[simp] theorem State.modTrn_pending (t : Nat) (g : Training → Training) : (s.modTrn t g).pending = s.pending := rfl
@[simp] theorem State.modTrn_regs (t : Nat) (g : Training → Training) : (s.modTrn t g).regs = s.regs := rfl
@[simp] theorem State.modTrn_fab (t : Nat) (g : Training → Training) : (s.modTrn t g).fab = s.fab := rfl
@[simp] theorem State.modTrn_box (t : Nat) (g : Training → Training) : (s.modTrn t g).box = s.box := rfl
@[simp] theorem State.modTrn_pins (t : Nat) (g : Training → Training) : (s.modTrn t g).pins = s.pins := rfl
@[simp] theorem State.modTrn_tags (t : Nat) (g : Training → Training) : (s.modTrn t g).tags = s.tags := rfl
@[simp] theorem State.modTrn_ord (t : Nat) (g : Training → Training) : (s.modTrn t g).ord = s.ord := rfl
@[simp] theorem State.modTrn_cenTicks (t : Nat) (g : Training → Training) : (s.modTrn t g).cenTicks = s.cenTicks := rfl
@[simp] theorem State.modTrn_ticks (t : Nat) (g : Training → Training) : (s.modTrn t g).ticks = s.ticks := rfl
@[simp] theorem State.modTrn_resetting (t : Nat) (g : Training → Training) : (s.modTrn t g).resetting = s.resetting := rfl
@[simp] theorem State.modTrn_chans (t : Nat) (g : Training → Training) : (s.modTrn t g).chans = s.chans := rfl
@[simp] theorem State.modTrn_codec (t : Nat) (g : Training → Training) : (s.modTrn t g).codec = s.codec := rfl
@[simp] theorem State.modTrn_vert (t : Nat) (g : Training → Training) : (s.modTrn t g).vert = s.vert := rfl
@[simp] theorem State.modTrn_bwr (t : Nat) (g : Training → Training) : (s.modTrn t g).bwr = s.bwr := rfl
@[simp] theorem State.modTrn_vmap (t : Nat) (g : Training → Training) : (s.modTrn t g).vmap = s.vmap := rfl
@[simp] theorem State.modTrn_rep (t : Nat) (g : Training → Training) : (s.modTrn t g).rep = s.rep := rfl
@[simp] theorem State.modTrn_bst (t : Nat) (g : Training → Training) : (s.modTrn t g).bst = s.bst := rfl
@[simp] theorem State.modTrn_thm (t : Nat) (g : Training → Training) : (s.modTrn t g).thm = s.thm := rfl
@[simp] theorem State.modTrn_pwr (t : Nat) (g : Training → Training) : (s.modTrn t g).pwr = s.pwr := rfl
@[simp] theorem State.modTrn_hold (t : Nat) (g : Training → Training) : (s.modTrn t g).hold = s.hold := rfl
@[simp] theorem State.modTrn_start (t : Nat) (g : Training → Training) : (s.modTrn t g).start = s.start := rfl
@[simp] theorem State.modTrn_park (t : Nat) (g : Training → Training) : (s.modTrn t g).park = s.park := rfl
@[simp] theorem State.modTrn_nvm (t : Nat) (g : Training → Training) : (s.modTrn t g).nvm = s.nvm := rfl
@[simp] theorem State.modTrn_wrap (t : Nat) (g : Training → Training) : (s.modTrn t g).wrap = s.wrap := rfl
@[simp] theorem State.modTrn_cc (t : Nat) (g : Training → Training) : (s.modTrn t g).cc = s.cc := rfl
@[simp] theorem State.modTrn_free (t : Nat) (g : Training → Training) : (s.modTrn t g).free = s.free := rfl
@[simp] theorem State.modTrn_fld (t : Nat) (g : Training → Training) (e : Field) (x₁ x₂ : Nat) : (s.modTrn t g).fld e x₁ x₂ = s.fld e x₁ x₂ := rfl
@[simp] theorem State.modTrn_flag (t : Nat) (g : Training → Training) (e : Field) (x₁ x₂ : Nat) : (s.modTrn t g).flag e x₁ x₂ = s.flag e x₁ x₂ := rfl
@[simp] theorem State.modTrn_chan (t : Nat) (g : Training → Training) (x₁ : Nat) : (s.modTrn t g).chan x₁ = s.chan x₁ := rfl
@[simp] theorem State.modTrn_bund (t : Nat) (g : Training → Training) (x₁ : Nat) : (s.modTrn t g).bund x₁ = s.bund x₁ := rfl
@[simp] theorem State.modTrn_thmL (t : Nat) (g : Training → Training) (x₁ : Nat) : (s.modTrn t g).thmL x₁ = s.thmL x₁ := rfl

/-! ### setChan -/

@[simp] theorem State.setChan_pending (c : Nat) (x : Chan) : (s.setChan c x).pending = s.pending := rfl
@[simp] theorem State.setChan_regs (c : Nat) (x : Chan) : (s.setChan c x).regs = s.regs := rfl
@[simp] theorem State.setChan_fab (c : Nat) (x : Chan) : (s.setChan c x).fab = s.fab := rfl
@[simp] theorem State.setChan_box (c : Nat) (x : Chan) : (s.setChan c x).box = s.box := rfl
@[simp] theorem State.setChan_pins (c : Nat) (x : Chan) : (s.setChan c x).pins = s.pins := rfl
@[simp] theorem State.setChan_trks (c : Nat) (x : Chan) : (s.setChan c x).trks = s.trks := rfl
@[simp] theorem State.setChan_tags (c : Nat) (x : Chan) : (s.setChan c x).tags = s.tags := rfl
@[simp] theorem State.setChan_ord (c : Nat) (x : Chan) : (s.setChan c x).ord = s.ord := rfl
@[simp] theorem State.setChan_cenTicks (c : Nat) (x : Chan) : (s.setChan c x).cenTicks = s.cenTicks := rfl
@[simp] theorem State.setChan_ticks (c : Nat) (x : Chan) : (s.setChan c x).ticks = s.ticks := rfl
@[simp] theorem State.setChan_resetting (c : Nat) (x : Chan) : (s.setChan c x).resetting = s.resetting := rfl
@[simp] theorem State.setChan_codec (c : Nat) (x : Chan) : (s.setChan c x).codec = s.codec := rfl
@[simp] theorem State.setChan_vert (c : Nat) (x : Chan) : (s.setChan c x).vert = s.vert := rfl
@[simp] theorem State.setChan_bwr (c : Nat) (x : Chan) : (s.setChan c x).bwr = s.bwr := rfl
@[simp] theorem State.setChan_vmap (c : Nat) (x : Chan) : (s.setChan c x).vmap = s.vmap := rfl
@[simp] theorem State.setChan_rep (c : Nat) (x : Chan) : (s.setChan c x).rep = s.rep := rfl
@[simp] theorem State.setChan_bst (c : Nat) (x : Chan) : (s.setChan c x).bst = s.bst := rfl
@[simp] theorem State.setChan_thm (c : Nat) (x : Chan) : (s.setChan c x).thm = s.thm := rfl
@[simp] theorem State.setChan_pwr (c : Nat) (x : Chan) : (s.setChan c x).pwr = s.pwr := rfl
@[simp] theorem State.setChan_hold (c : Nat) (x : Chan) : (s.setChan c x).hold = s.hold := rfl
@[simp] theorem State.setChan_start (c : Nat) (x : Chan) : (s.setChan c x).start = s.start := rfl
@[simp] theorem State.setChan_park (c : Nat) (x : Chan) : (s.setChan c x).park = s.park := rfl
@[simp] theorem State.setChan_nvm (c : Nat) (x : Chan) : (s.setChan c x).nvm = s.nvm := rfl
@[simp] theorem State.setChan_wrap (c : Nat) (x : Chan) : (s.setChan c x).wrap = s.wrap := rfl
@[simp] theorem State.setChan_cc (c : Nat) (x : Chan) : (s.setChan c x).cc = s.cc := rfl
@[simp] theorem State.setChan_free (c : Nat) (x : Chan) : (s.setChan c x).free = s.free := rfl
@[simp] theorem State.setChan_fld (c : Nat) (x : Chan) (e : Field) (x₁ x₂ : Nat) : (s.setChan c x).fld e x₁ x₂ = s.fld e x₁ x₂ := rfl
@[simp] theorem State.setChan_flag (c : Nat) (x : Chan) (e : Field) (x₁ x₂ : Nat) : (s.setChan c x).flag e x₁ x₂ = s.flag e x₁ x₂ := rfl
@[simp] theorem State.setChan_trk (c : Nat) (x : Chan) (x₁ : Nat) : (s.setChan c x).trk x₁ = s.trk x₁ := rfl
@[simp] theorem State.setChan_bund (c : Nat) (x : Chan) (x₁ : Nat) : (s.setChan c x).bund x₁ = s.bund x₁ := rfl
@[simp] theorem State.setChan_thmL (c : Nat) (x : Chan) (x₁ : Nat) : (s.setChan c x).thmL x₁ = s.thmL x₁ := rfl

/-! ### modChan -/

@[simp] theorem State.modChan_pending (c : Nat) (g : Chan → Chan) : (s.modChan c g).pending = s.pending := rfl
@[simp] theorem State.modChan_regs (c : Nat) (g : Chan → Chan) : (s.modChan c g).regs = s.regs := rfl
@[simp] theorem State.modChan_fab (c : Nat) (g : Chan → Chan) : (s.modChan c g).fab = s.fab := rfl
@[simp] theorem State.modChan_box (c : Nat) (g : Chan → Chan) : (s.modChan c g).box = s.box := rfl
@[simp] theorem State.modChan_pins (c : Nat) (g : Chan → Chan) : (s.modChan c g).pins = s.pins := rfl
@[simp] theorem State.modChan_trks (c : Nat) (g : Chan → Chan) : (s.modChan c g).trks = s.trks := rfl
@[simp] theorem State.modChan_tags (c : Nat) (g : Chan → Chan) : (s.modChan c g).tags = s.tags := rfl
@[simp] theorem State.modChan_ord (c : Nat) (g : Chan → Chan) : (s.modChan c g).ord = s.ord := rfl
@[simp] theorem State.modChan_cenTicks (c : Nat) (g : Chan → Chan) : (s.modChan c g).cenTicks = s.cenTicks := rfl
@[simp] theorem State.modChan_ticks (c : Nat) (g : Chan → Chan) : (s.modChan c g).ticks = s.ticks := rfl
@[simp] theorem State.modChan_resetting (c : Nat) (g : Chan → Chan) : (s.modChan c g).resetting = s.resetting := rfl
@[simp] theorem State.modChan_codec (c : Nat) (g : Chan → Chan) : (s.modChan c g).codec = s.codec := rfl
@[simp] theorem State.modChan_vert (c : Nat) (g : Chan → Chan) : (s.modChan c g).vert = s.vert := rfl
@[simp] theorem State.modChan_bwr (c : Nat) (g : Chan → Chan) : (s.modChan c g).bwr = s.bwr := rfl
@[simp] theorem State.modChan_vmap (c : Nat) (g : Chan → Chan) : (s.modChan c g).vmap = s.vmap := rfl
@[simp] theorem State.modChan_rep (c : Nat) (g : Chan → Chan) : (s.modChan c g).rep = s.rep := rfl
@[simp] theorem State.modChan_bst (c : Nat) (g : Chan → Chan) : (s.modChan c g).bst = s.bst := rfl
@[simp] theorem State.modChan_thm (c : Nat) (g : Chan → Chan) : (s.modChan c g).thm = s.thm := rfl
@[simp] theorem State.modChan_pwr (c : Nat) (g : Chan → Chan) : (s.modChan c g).pwr = s.pwr := rfl
@[simp] theorem State.modChan_hold (c : Nat) (g : Chan → Chan) : (s.modChan c g).hold = s.hold := rfl
@[simp] theorem State.modChan_start (c : Nat) (g : Chan → Chan) : (s.modChan c g).start = s.start := rfl
@[simp] theorem State.modChan_park (c : Nat) (g : Chan → Chan) : (s.modChan c g).park = s.park := rfl
@[simp] theorem State.modChan_nvm (c : Nat) (g : Chan → Chan) : (s.modChan c g).nvm = s.nvm := rfl
@[simp] theorem State.modChan_wrap (c : Nat) (g : Chan → Chan) : (s.modChan c g).wrap = s.wrap := rfl
@[simp] theorem State.modChan_cc (c : Nat) (g : Chan → Chan) : (s.modChan c g).cc = s.cc := rfl
@[simp] theorem State.modChan_free (c : Nat) (g : Chan → Chan) : (s.modChan c g).free = s.free := rfl
@[simp] theorem State.modChan_fld (c : Nat) (g : Chan → Chan) (e : Field) (x₁ x₂ : Nat) : (s.modChan c g).fld e x₁ x₂ = s.fld e x₁ x₂ := rfl
@[simp] theorem State.modChan_flag (c : Nat) (g : Chan → Chan) (e : Field) (x₁ x₂ : Nat) : (s.modChan c g).flag e x₁ x₂ = s.flag e x₁ x₂ := rfl
@[simp] theorem State.modChan_trk (c : Nat) (g : Chan → Chan) (x₁ : Nat) : (s.modChan c g).trk x₁ = s.trk x₁ := rfl
@[simp] theorem State.modChan_bund (c : Nat) (g : Chan → Chan) (x₁ : Nat) : (s.modChan c g).bund x₁ = s.bund x₁ := rfl
@[simp] theorem State.modChan_thmL (c : Nat) (g : Chan → Chan) (x₁ : Nat) : (s.modChan c g).thmL x₁ = s.thmL x₁ := rfl

/-! ### modRef -/

@[simp] theorem State.modRef_pending (c : Nat) (g : Refr → Refr) : (s.modRef c g).pending = s.pending := rfl
@[simp] theorem State.modRef_regs (c : Nat) (g : Refr → Refr) : (s.modRef c g).regs = s.regs := rfl
@[simp] theorem State.modRef_fab (c : Nat) (g : Refr → Refr) : (s.modRef c g).fab = s.fab := rfl
@[simp] theorem State.modRef_box (c : Nat) (g : Refr → Refr) : (s.modRef c g).box = s.box := rfl
@[simp] theorem State.modRef_pins (c : Nat) (g : Refr → Refr) : (s.modRef c g).pins = s.pins := rfl
@[simp] theorem State.modRef_trks (c : Nat) (g : Refr → Refr) : (s.modRef c g).trks = s.trks := rfl
@[simp] theorem State.modRef_tags (c : Nat) (g : Refr → Refr) : (s.modRef c g).tags = s.tags := rfl
@[simp] theorem State.modRef_ord (c : Nat) (g : Refr → Refr) : (s.modRef c g).ord = s.ord := rfl
@[simp] theorem State.modRef_cenTicks (c : Nat) (g : Refr → Refr) : (s.modRef c g).cenTicks = s.cenTicks := rfl
@[simp] theorem State.modRef_ticks (c : Nat) (g : Refr → Refr) : (s.modRef c g).ticks = s.ticks := rfl
@[simp] theorem State.modRef_resetting (c : Nat) (g : Refr → Refr) : (s.modRef c g).resetting = s.resetting := rfl
@[simp] theorem State.modRef_codec (c : Nat) (g : Refr → Refr) : (s.modRef c g).codec = s.codec := rfl
@[simp] theorem State.modRef_vert (c : Nat) (g : Refr → Refr) : (s.modRef c g).vert = s.vert := rfl
@[simp] theorem State.modRef_bwr (c : Nat) (g : Refr → Refr) : (s.modRef c g).bwr = s.bwr := rfl
@[simp] theorem State.modRef_vmap (c : Nat) (g : Refr → Refr) : (s.modRef c g).vmap = s.vmap := rfl
@[simp] theorem State.modRef_rep (c : Nat) (g : Refr → Refr) : (s.modRef c g).rep = s.rep := rfl
@[simp] theorem State.modRef_bst (c : Nat) (g : Refr → Refr) : (s.modRef c g).bst = s.bst := rfl
@[simp] theorem State.modRef_thm (c : Nat) (g : Refr → Refr) : (s.modRef c g).thm = s.thm := rfl
@[simp] theorem State.modRef_pwr (c : Nat) (g : Refr → Refr) : (s.modRef c g).pwr = s.pwr := rfl
@[simp] theorem State.modRef_hold (c : Nat) (g : Refr → Refr) : (s.modRef c g).hold = s.hold := rfl
@[simp] theorem State.modRef_start (c : Nat) (g : Refr → Refr) : (s.modRef c g).start = s.start := rfl
@[simp] theorem State.modRef_park (c : Nat) (g : Refr → Refr) : (s.modRef c g).park = s.park := rfl
@[simp] theorem State.modRef_nvm (c : Nat) (g : Refr → Refr) : (s.modRef c g).nvm = s.nvm := rfl
@[simp] theorem State.modRef_wrap (c : Nat) (g : Refr → Refr) : (s.modRef c g).wrap = s.wrap := rfl
@[simp] theorem State.modRef_cc (c : Nat) (g : Refr → Refr) : (s.modRef c g).cc = s.cc := rfl
@[simp] theorem State.modRef_free (c : Nat) (g : Refr → Refr) : (s.modRef c g).free = s.free := rfl
@[simp] theorem State.modRef_fld (c : Nat) (g : Refr → Refr) (e : Field) (x₁ x₂ : Nat) : (s.modRef c g).fld e x₁ x₂ = s.fld e x₁ x₂ := rfl
@[simp] theorem State.modRef_flag (c : Nat) (g : Refr → Refr) (e : Field) (x₁ x₂ : Nat) : (s.modRef c g).flag e x₁ x₂ = s.flag e x₁ x₂ := rfl
@[simp] theorem State.modRef_trk (c : Nat) (g : Refr → Refr) (x₁ : Nat) : (s.modRef c g).trk x₁ = s.trk x₁ := rfl
@[simp] theorem State.modRef_bund (c : Nat) (g : Refr → Refr) (x₁ : Nat) : (s.modRef c g).bund x₁ = s.bund x₁ := rfl
@[simp] theorem State.modRef_thmL (c : Nat) (g : Refr → Refr) (x₁ : Nat) : (s.modRef c g).thmL x₁ = s.thmL x₁ := rfl

/-! ### mapChans -/

@[simp] theorem State.mapChans_pending (g : Chan → Chan) : (s.mapChans g).pending = s.pending := rfl
@[simp] theorem State.mapChans_regs (g : Chan → Chan) : (s.mapChans g).regs = s.regs := rfl
@[simp] theorem State.mapChans_fab (g : Chan → Chan) : (s.mapChans g).fab = s.fab := rfl
@[simp] theorem State.mapChans_box (g : Chan → Chan) : (s.mapChans g).box = s.box := rfl
@[simp] theorem State.mapChans_pins (g : Chan → Chan) : (s.mapChans g).pins = s.pins := rfl
@[simp] theorem State.mapChans_trks (g : Chan → Chan) : (s.mapChans g).trks = s.trks := rfl
@[simp] theorem State.mapChans_tags (g : Chan → Chan) : (s.mapChans g).tags = s.tags := rfl
@[simp] theorem State.mapChans_ord (g : Chan → Chan) : (s.mapChans g).ord = s.ord := rfl
@[simp] theorem State.mapChans_cenTicks (g : Chan → Chan) : (s.mapChans g).cenTicks = s.cenTicks := rfl
@[simp] theorem State.mapChans_ticks (g : Chan → Chan) : (s.mapChans g).ticks = s.ticks := rfl
@[simp] theorem State.mapChans_resetting (g : Chan → Chan) : (s.mapChans g).resetting = s.resetting := rfl
@[simp] theorem State.mapChans_codec (g : Chan → Chan) : (s.mapChans g).codec = s.codec := rfl
@[simp] theorem State.mapChans_vert (g : Chan → Chan) : (s.mapChans g).vert = s.vert := rfl
@[simp] theorem State.mapChans_bwr (g : Chan → Chan) : (s.mapChans g).bwr = s.bwr := rfl
@[simp] theorem State.mapChans_vmap (g : Chan → Chan) : (s.mapChans g).vmap = s.vmap := rfl
@[simp] theorem State.mapChans_rep (g : Chan → Chan) : (s.mapChans g).rep = s.rep := rfl
@[simp] theorem State.mapChans_bst (g : Chan → Chan) : (s.mapChans g).bst = s.bst := rfl
@[simp] theorem State.mapChans_thm (g : Chan → Chan) : (s.mapChans g).thm = s.thm := rfl
@[simp] theorem State.mapChans_pwr (g : Chan → Chan) : (s.mapChans g).pwr = s.pwr := rfl
@[simp] theorem State.mapChans_hold (g : Chan → Chan) : (s.mapChans g).hold = s.hold := rfl
@[simp] theorem State.mapChans_start (g : Chan → Chan) : (s.mapChans g).start = s.start := rfl
@[simp] theorem State.mapChans_park (g : Chan → Chan) : (s.mapChans g).park = s.park := rfl
@[simp] theorem State.mapChans_nvm (g : Chan → Chan) : (s.mapChans g).nvm = s.nvm := rfl
@[simp] theorem State.mapChans_wrap (g : Chan → Chan) : (s.mapChans g).wrap = s.wrap := rfl
@[simp] theorem State.mapChans_cc (g : Chan → Chan) : (s.mapChans g).cc = s.cc := rfl
@[simp] theorem State.mapChans_free (g : Chan → Chan) : (s.mapChans g).free = s.free := rfl
@[simp] theorem State.mapChans_fld (g : Chan → Chan) (e : Field) (x₁ x₂ : Nat) : (s.mapChans g).fld e x₁ x₂ = s.fld e x₁ x₂ := rfl
@[simp] theorem State.mapChans_flag (g : Chan → Chan) (e : Field) (x₁ x₂ : Nat) : (s.mapChans g).flag e x₁ x₂ = s.flag e x₁ x₂ := rfl
@[simp] theorem State.mapChans_trk (g : Chan → Chan) (x₁ : Nat) : (s.mapChans g).trk x₁ = s.trk x₁ := rfl
@[simp] theorem State.mapChans_bund (g : Chan → Chan) (x₁ : Nat) : (s.mapChans g).bund x₁ = s.bund x₁ := rfl
@[simp] theorem State.mapChans_thmL (g : Chan → Chan) (x₁ : Nat) : (s.mapChans g).thmL x₁ = s.thmL x₁ := rfl

/-! ### modBund -/

@[simp] theorem State.modBund_pending (b : Nat) (g : Bund → Bund) : (s.modBund b g).pending = s.pending := rfl
@[simp] theorem State.modBund_regs (b : Nat) (g : Bund → Bund) : (s.modBund b g).regs = s.regs := rfl
@[simp] theorem State.modBund_fab (b : Nat) (g : Bund → Bund) : (s.modBund b g).fab = s.fab := rfl
@[simp] theorem State.modBund_box (b : Nat) (g : Bund → Bund) : (s.modBund b g).box = s.box := rfl
@[simp] theorem State.modBund_pins (b : Nat) (g : Bund → Bund) : (s.modBund b g).pins = s.pins := rfl
@[simp] theorem State.modBund_trks (b : Nat) (g : Bund → Bund) : (s.modBund b g).trks = s.trks := rfl
@[simp] theorem State.modBund_tags (b : Nat) (g : Bund → Bund) : (s.modBund b g).tags = s.tags := rfl
@[simp] theorem State.modBund_ord (b : Nat) (g : Bund → Bund) : (s.modBund b g).ord = s.ord := rfl
@[simp] theorem State.modBund_cenTicks (b : Nat) (g : Bund → Bund) : (s.modBund b g).cenTicks = s.cenTicks := rfl
@[simp] theorem State.modBund_ticks (b : Nat) (g : Bund → Bund) : (s.modBund b g).ticks = s.ticks := rfl
@[simp] theorem State.modBund_resetting (b : Nat) (g : Bund → Bund) : (s.modBund b g).resetting = s.resetting := rfl
@[simp] theorem State.modBund_chans (b : Nat) (g : Bund → Bund) : (s.modBund b g).chans = s.chans := rfl
@[simp] theorem State.modBund_codec (b : Nat) (g : Bund → Bund) : (s.modBund b g).codec = s.codec := rfl
@[simp] theorem State.modBund_bwr (b : Nat) (g : Bund → Bund) : (s.modBund b g).bwr = s.bwr := rfl
@[simp] theorem State.modBund_vmap (b : Nat) (g : Bund → Bund) : (s.modBund b g).vmap = s.vmap := rfl
@[simp] theorem State.modBund_rep (b : Nat) (g : Bund → Bund) : (s.modBund b g).rep = s.rep := rfl
@[simp] theorem State.modBund_bst (b : Nat) (g : Bund → Bund) : (s.modBund b g).bst = s.bst := rfl
@[simp] theorem State.modBund_thm (b : Nat) (g : Bund → Bund) : (s.modBund b g).thm = s.thm := rfl
@[simp] theorem State.modBund_pwr (b : Nat) (g : Bund → Bund) : (s.modBund b g).pwr = s.pwr := rfl
@[simp] theorem State.modBund_hold (b : Nat) (g : Bund → Bund) : (s.modBund b g).hold = s.hold := rfl
@[simp] theorem State.modBund_start (b : Nat) (g : Bund → Bund) : (s.modBund b g).start = s.start := rfl
@[simp] theorem State.modBund_park (b : Nat) (g : Bund → Bund) : (s.modBund b g).park = s.park := rfl
@[simp] theorem State.modBund_nvm (b : Nat) (g : Bund → Bund) : (s.modBund b g).nvm = s.nvm := rfl
@[simp] theorem State.modBund_wrap (b : Nat) (g : Bund → Bund) : (s.modBund b g).wrap = s.wrap := rfl
@[simp] theorem State.modBund_cc (b : Nat) (g : Bund → Bund) : (s.modBund b g).cc = s.cc := rfl
@[simp] theorem State.modBund_free (b : Nat) (g : Bund → Bund) : (s.modBund b g).free = s.free := rfl
@[simp] theorem State.modBund_fld (b : Nat) (g : Bund → Bund) (e : Field) (x₁ x₂ : Nat) : (s.modBund b g).fld e x₁ x₂ = s.fld e x₁ x₂ := rfl
@[simp] theorem State.modBund_flag (b : Nat) (g : Bund → Bund) (e : Field) (x₁ x₂ : Nat) : (s.modBund b g).flag e x₁ x₂ = s.flag e x₁ x₂ := rfl
@[simp] theorem State.modBund_trk (b : Nat) (g : Bund → Bund) (x₁ : Nat) : (s.modBund b g).trk x₁ = s.trk x₁ := rfl
@[simp] theorem State.modBund_chan (b : Nat) (g : Bund → Bund) (x₁ : Nat) : (s.modBund b g).chan x₁ = s.chan x₁ := rfl
@[simp] theorem State.modBund_thmL (b : Nat) (g : Bund → Bund) (x₁ : Nat) : (s.modBund b g).thmL x₁ = s.thmL x₁ := rfl

/-! ### modThm -/

@[simp] theorem State.modThm_pending (l : Nat) (g : ThmLayer → ThmLayer) : (s.modThm l g).pending = s.pending := rfl
@[simp] theorem State.modThm_regs (l : Nat) (g : ThmLayer → ThmLayer) : (s.modThm l g).regs = s.regs := rfl
@[simp] theorem State.modThm_fab (l : Nat) (g : ThmLayer → ThmLayer) : (s.modThm l g).fab = s.fab := rfl
@[simp] theorem State.modThm_box (l : Nat) (g : ThmLayer → ThmLayer) : (s.modThm l g).box = s.box := rfl
@[simp] theorem State.modThm_pins (l : Nat) (g : ThmLayer → ThmLayer) : (s.modThm l g).pins = s.pins := rfl
@[simp] theorem State.modThm_trks (l : Nat) (g : ThmLayer → ThmLayer) : (s.modThm l g).trks = s.trks := rfl
@[simp] theorem State.modThm_tags (l : Nat) (g : ThmLayer → ThmLayer) : (s.modThm l g).tags = s.tags := rfl
@[simp] theorem State.modThm_ord (l : Nat) (g : ThmLayer → ThmLayer) : (s.modThm l g).ord = s.ord := rfl
@[simp] theorem State.modThm_cenTicks (l : Nat) (g : ThmLayer → ThmLayer) : (s.modThm l g).cenTicks = s.cenTicks := rfl
@[simp] theorem State.modThm_ticks (l : Nat) (g : ThmLayer → ThmLayer) : (s.modThm l g).ticks = s.ticks := rfl
@[simp] theorem State.modThm_resetting (l : Nat) (g : ThmLayer → ThmLayer) : (s.modThm l g).resetting = s.resetting := rfl
@[simp] theorem State.modThm_chans (l : Nat) (g : ThmLayer → ThmLayer) : (s.modThm l g).chans = s.chans := rfl
@[simp] theorem State.modThm_codec (l : Nat) (g : ThmLayer → ThmLayer) : (s.modThm l g).codec = s.codec := rfl
@[simp] theorem State.modThm_vert (l : Nat) (g : ThmLayer → ThmLayer) : (s.modThm l g).vert = s.vert := rfl
@[simp] theorem State.modThm_bwr (l : Nat) (g : ThmLayer → ThmLayer) : (s.modThm l g).bwr = s.bwr := rfl
@[simp] theorem State.modThm_vmap (l : Nat) (g : ThmLayer → ThmLayer) : (s.modThm l g).vmap = s.vmap := rfl
@[simp] theorem State.modThm_rep (l : Nat) (g : ThmLayer → ThmLayer) : (s.modThm l g).rep = s.rep := rfl
@[simp] theorem State.modThm_bst (l : Nat) (g : ThmLayer → ThmLayer) : (s.modThm l g).bst = s.bst := rfl
@[simp] theorem State.modThm_pwr (l : Nat) (g : ThmLayer → ThmLayer) : (s.modThm l g).pwr = s.pwr := rfl
@[simp] theorem State.modThm_hold (l : Nat) (g : ThmLayer → ThmLayer) : (s.modThm l g).hold = s.hold := rfl
@[simp] theorem State.modThm_start (l : Nat) (g : ThmLayer → ThmLayer) : (s.modThm l g).start = s.start := rfl
@[simp] theorem State.modThm_park (l : Nat) (g : ThmLayer → ThmLayer) : (s.modThm l g).park = s.park := rfl
@[simp] theorem State.modThm_nvm (l : Nat) (g : ThmLayer → ThmLayer) : (s.modThm l g).nvm = s.nvm := rfl
@[simp] theorem State.modThm_wrap (l : Nat) (g : ThmLayer → ThmLayer) : (s.modThm l g).wrap = s.wrap := rfl
@[simp] theorem State.modThm_cc (l : Nat) (g : ThmLayer → ThmLayer) : (s.modThm l g).cc = s.cc := rfl
@[simp] theorem State.modThm_free (l : Nat) (g : ThmLayer → ThmLayer) : (s.modThm l g).free = s.free := rfl
@[simp] theorem State.modThm_fld (l : Nat) (g : ThmLayer → ThmLayer) (e : Field) (x₁ x₂ : Nat) : (s.modThm l g).fld e x₁ x₂ = s.fld e x₁ x₂ := rfl
@[simp] theorem State.modThm_flag (l : Nat) (g : ThmLayer → ThmLayer) (e : Field) (x₁ x₂ : Nat) : (s.modThm l g).flag e x₁ x₂ = s.flag e x₁ x₂ := rfl
@[simp] theorem State.modThm_trk (l : Nat) (g : ThmLayer → ThmLayer) (x₁ : Nat) : (s.modThm l g).trk x₁ = s.trk x₁ := rfl
@[simp] theorem State.modThm_chan (l : Nat) (g : ThmLayer → ThmLayer) (x₁ : Nat) : (s.modThm l g).chan x₁ = s.chan x₁ := rfl
@[simp] theorem State.modThm_bund (l : Nat) (g : ThmLayer → ThmLayer) (x₁ : Nat) : (s.modThm l g).bund x₁ = s.bund x₁ := rfl

/-! ### setVByte -/

@[simp] theorem State.setVByte_pending (k : Nat) (v : BitVec 8) : (s.setVByte k v).pending = s.pending := rfl
@[simp] theorem State.setVByte_regs (k : Nat) (v : BitVec 8) : (s.setVByte k v).regs = s.regs := rfl
@[simp] theorem State.setVByte_fab (k : Nat) (v : BitVec 8) : (s.setVByte k v).fab = s.fab := rfl
@[simp] theorem State.setVByte_box (k : Nat) (v : BitVec 8) : (s.setVByte k v).box = s.box := rfl
@[simp] theorem State.setVByte_pins (k : Nat) (v : BitVec 8) : (s.setVByte k v).pins = s.pins := rfl
@[simp] theorem State.setVByte_trks (k : Nat) (v : BitVec 8) : (s.setVByte k v).trks = s.trks := rfl
@[simp] theorem State.setVByte_tags (k : Nat) (v : BitVec 8) : (s.setVByte k v).tags = s.tags := rfl
@[simp] theorem State.setVByte_ord (k : Nat) (v : BitVec 8) : (s.setVByte k v).ord = s.ord := rfl
@[simp] theorem State.setVByte_cenTicks (k : Nat) (v : BitVec 8) : (s.setVByte k v).cenTicks = s.cenTicks := rfl
@[simp] theorem State.setVByte_ticks (k : Nat) (v : BitVec 8) : (s.setVByte k v).ticks = s.ticks := rfl
@[simp] theorem State.setVByte_resetting (k : Nat) (v : BitVec 8) : (s.setVByte k v).resetting = s.resetting := rfl
@[simp] theorem State.setVByte_chans (k : Nat) (v : BitVec 8) : (s.setVByte k v).chans = s.chans := rfl
@[simp] theorem State.setVByte_codec (k : Nat) (v : BitVec 8) : (s.setVByte k v).codec = s.codec := rfl
@[simp] theorem State.setVByte_vert (k : Nat) (v : BitVec 8) : (s.setVByte k v).vert = s.vert := rfl
@[simp] theorem State.setVByte_bwr (k : Nat) (v : BitVec 8) : (s.setVByte k v).bwr = s.bwr := rfl
@[simp] theorem State.setVByte_rep (k : Nat) (v : BitVec 8) : (s.setVByte k v).rep = s.rep := rfl
@[simp] theorem State.setVByte_bst (k : Nat) (v : BitVec 8) : (s.setVByte k v).bst = s.bst := rfl
@[simp] theorem State.setVByte_thm (k : Nat) (v : BitVec 8) : (s.setVByte k v).thm = s.thm := rfl
@[simp] theorem State.setVByte_pwr (k : Nat) (v : BitVec 8) : (s.setVByte k v).pwr = s.pwr := rfl
@[simp] theorem State.setVByte_hold (k : Nat) (v : BitVec 8) : (s.setVByte k v).hold = s.hold := rfl
@[simp] theorem State.setVByte_start (k : Nat) (v : BitVec 8) : (s.setVByte k v).start = s.start := rfl
@[simp] theorem State.setVByte_park (k : Nat) (v : BitVec 8) : (s.setVByte k v).park = s.park := rfl
@[simp] theorem State.setVByte_nvm (k : Nat) (v : BitVec 8) : (s.setVByte k v).nvm = s.nvm := rfl
@[simp] theorem State.setVByte_wrap (k : Nat) (v : BitVec 8) : (s.setVByte k v).wrap = s.wrap := rfl
@[simp] theorem State.setVByte_cc (k : Nat) (v : BitVec 8) : (s.setVByte k v).cc = s.cc := rfl
@[simp] theorem State.setVByte_free (k : Nat) (v : BitVec 8) : (s.setVByte k v).free = s.free := rfl
@[simp] theorem State.setVByte_fld (k : Nat) (v : BitVec 8) (e : Field) (x₁ x₂ : Nat) : (s.setVByte k v).fld e x₁ x₂ = s.fld e x₁ x₂ := rfl
@[simp] theorem State.setVByte_flag (k : Nat) (v : BitVec 8) (e : Field) (x₁ x₂ : Nat) : (s.setVByte k v).flag e x₁ x₂ = s.flag e x₁ x₂ := rfl
@[simp] theorem State.setVByte_trk (k : Nat) (v : BitVec 8) (x₁ : Nat) : (s.setVByte k v).trk x₁ = s.trk x₁ := rfl
@[simp] theorem State.setVByte_chan (k : Nat) (v : BitVec 8) (x₁ : Nat) : (s.setVByte k v).chan x₁ = s.chan x₁ := rfl
@[simp] theorem State.setVByte_bund (k : Nat) (v : BitVec 8) (x₁ : Nat) : (s.setVByte k v).bund x₁ = s.bund x₁ := rfl
@[simp] theorem State.setVByte_thmL (k : Nat) (v : BitVec 8) (x₁ : Nat) : (s.setVByte k v).thmL x₁ = s.thmL x₁ := rfl

/-! ### modTag -/

@[simp] theorem State.modTag_pending (n : Nat) (g : OpenTag → OpenTag) : (s.modTag n g).pending = s.pending := rfl
@[simp] theorem State.modTag_regs (n : Nat) (g : OpenTag → OpenTag) : (s.modTag n g).regs = s.regs := rfl
@[simp] theorem State.modTag_fab (n : Nat) (g : OpenTag → OpenTag) : (s.modTag n g).fab = s.fab := rfl
@[simp] theorem State.modTag_box (n : Nat) (g : OpenTag → OpenTag) : (s.modTag n g).box = s.box := rfl
@[simp] theorem State.modTag_pins (n : Nat) (g : OpenTag → OpenTag) : (s.modTag n g).pins = s.pins := rfl
@[simp] theorem State.modTag_trks (n : Nat) (g : OpenTag → OpenTag) : (s.modTag n g).trks = s.trks := rfl
@[simp] theorem State.modTag_ord (n : Nat) (g : OpenTag → OpenTag) : (s.modTag n g).ord = s.ord := rfl
@[simp] theorem State.modTag_cenTicks (n : Nat) (g : OpenTag → OpenTag) : (s.modTag n g).cenTicks = s.cenTicks := rfl
@[simp] theorem State.modTag_ticks (n : Nat) (g : OpenTag → OpenTag) : (s.modTag n g).ticks = s.ticks := rfl
@[simp] theorem State.modTag_resetting (n : Nat) (g : OpenTag → OpenTag) : (s.modTag n g).resetting = s.resetting := rfl
@[simp] theorem State.modTag_chans (n : Nat) (g : OpenTag → OpenTag) : (s.modTag n g).chans = s.chans := rfl
@[simp] theorem State.modTag_codec (n : Nat) (g : OpenTag → OpenTag) : (s.modTag n g).codec = s.codec := rfl
@[simp] theorem State.modTag_vert (n : Nat) (g : OpenTag → OpenTag) : (s.modTag n g).vert = s.vert := rfl
@[simp] theorem State.modTag_bwr (n : Nat) (g : OpenTag → OpenTag) : (s.modTag n g).bwr = s.bwr := rfl
@[simp] theorem State.modTag_vmap (n : Nat) (g : OpenTag → OpenTag) : (s.modTag n g).vmap = s.vmap := rfl
@[simp] theorem State.modTag_rep (n : Nat) (g : OpenTag → OpenTag) : (s.modTag n g).rep = s.rep := rfl
@[simp] theorem State.modTag_bst (n : Nat) (g : OpenTag → OpenTag) : (s.modTag n g).bst = s.bst := rfl
@[simp] theorem State.modTag_thm (n : Nat) (g : OpenTag → OpenTag) : (s.modTag n g).thm = s.thm := rfl
@[simp] theorem State.modTag_pwr (n : Nat) (g : OpenTag → OpenTag) : (s.modTag n g).pwr = s.pwr := rfl
@[simp] theorem State.modTag_hold (n : Nat) (g : OpenTag → OpenTag) : (s.modTag n g).hold = s.hold := rfl
@[simp] theorem State.modTag_start (n : Nat) (g : OpenTag → OpenTag) : (s.modTag n g).start = s.start := rfl
@[simp] theorem State.modTag_park (n : Nat) (g : OpenTag → OpenTag) : (s.modTag n g).park = s.park := rfl
@[simp] theorem State.modTag_nvm (n : Nat) (g : OpenTag → OpenTag) : (s.modTag n g).nvm = s.nvm := rfl
@[simp] theorem State.modTag_wrap (n : Nat) (g : OpenTag → OpenTag) : (s.modTag n g).wrap = s.wrap := rfl
@[simp] theorem State.modTag_cc (n : Nat) (g : OpenTag → OpenTag) : (s.modTag n g).cc = s.cc := rfl
@[simp] theorem State.modTag_free (n : Nat) (g : OpenTag → OpenTag) : (s.modTag n g).free = s.free := rfl
@[simp] theorem State.modTag_fld (n : Nat) (g : OpenTag → OpenTag) (e : Field) (x₁ x₂ : Nat) : (s.modTag n g).fld e x₁ x₂ = s.fld e x₁ x₂ := rfl
@[simp] theorem State.modTag_flag (n : Nat) (g : OpenTag → OpenTag) (e : Field) (x₁ x₂ : Nat) : (s.modTag n g).flag e x₁ x₂ = s.flag e x₁ x₂ := rfl
@[simp] theorem State.modTag_trk (n : Nat) (g : OpenTag → OpenTag) (x₁ : Nat) : (s.modTag n g).trk x₁ = s.trk x₁ := rfl
@[simp] theorem State.modTag_chan (n : Nat) (g : OpenTag → OpenTag) (x₁ : Nat) : (s.modTag n g).chan x₁ = s.chan x₁ := rfl
@[simp] theorem State.modTag_bund (n : Nat) (g : OpenTag → OpenTag) (x₁ : Nat) : (s.modTag n g).bund x₁ = s.bund x₁ := rfl
@[simp] theorem State.modTag_thmL (n : Nat) (g : OpenTag → OpenTag) (x₁ : Nat) : (s.modTag n g).thmL x₁ = s.thmL x₁ := rfl

/-! ### dropTag -/

@[simp] theorem State.dropTag_pending (n : Nat) : (s.dropTag n).pending = s.pending := rfl
@[simp] theorem State.dropTag_regs (n : Nat) : (s.dropTag n).regs = s.regs := rfl
@[simp] theorem State.dropTag_fab (n : Nat) : (s.dropTag n).fab = s.fab := rfl
@[simp] theorem State.dropTag_box (n : Nat) : (s.dropTag n).box = s.box := rfl
@[simp] theorem State.dropTag_pins (n : Nat) : (s.dropTag n).pins = s.pins := rfl
@[simp] theorem State.dropTag_trks (n : Nat) : (s.dropTag n).trks = s.trks := rfl
@[simp] theorem State.dropTag_ord (n : Nat) : (s.dropTag n).ord = s.ord := rfl
@[simp] theorem State.dropTag_cenTicks (n : Nat) : (s.dropTag n).cenTicks = s.cenTicks := rfl
@[simp] theorem State.dropTag_ticks (n : Nat) : (s.dropTag n).ticks = s.ticks := rfl
@[simp] theorem State.dropTag_resetting (n : Nat) : (s.dropTag n).resetting = s.resetting := rfl
@[simp] theorem State.dropTag_chans (n : Nat) : (s.dropTag n).chans = s.chans := rfl
@[simp] theorem State.dropTag_codec (n : Nat) : (s.dropTag n).codec = s.codec := rfl
@[simp] theorem State.dropTag_vert (n : Nat) : (s.dropTag n).vert = s.vert := rfl
@[simp] theorem State.dropTag_bwr (n : Nat) : (s.dropTag n).bwr = s.bwr := rfl
@[simp] theorem State.dropTag_vmap (n : Nat) : (s.dropTag n).vmap = s.vmap := rfl
@[simp] theorem State.dropTag_rep (n : Nat) : (s.dropTag n).rep = s.rep := rfl
@[simp] theorem State.dropTag_bst (n : Nat) : (s.dropTag n).bst = s.bst := rfl
@[simp] theorem State.dropTag_thm (n : Nat) : (s.dropTag n).thm = s.thm := rfl
@[simp] theorem State.dropTag_pwr (n : Nat) : (s.dropTag n).pwr = s.pwr := rfl
@[simp] theorem State.dropTag_hold (n : Nat) : (s.dropTag n).hold = s.hold := rfl
@[simp] theorem State.dropTag_start (n : Nat) : (s.dropTag n).start = s.start := rfl
@[simp] theorem State.dropTag_park (n : Nat) : (s.dropTag n).park = s.park := rfl
@[simp] theorem State.dropTag_nvm (n : Nat) : (s.dropTag n).nvm = s.nvm := rfl
@[simp] theorem State.dropTag_wrap (n : Nat) : (s.dropTag n).wrap = s.wrap := rfl
@[simp] theorem State.dropTag_cc (n : Nat) : (s.dropTag n).cc = s.cc := rfl
@[simp] theorem State.dropTag_free (n : Nat) : (s.dropTag n).free = s.free := rfl
@[simp] theorem State.dropTag_fld (n : Nat) (e : Field) (x₁ x₂ : Nat) : (s.dropTag n).fld e x₁ x₂ = s.fld e x₁ x₂ := rfl
@[simp] theorem State.dropTag_flag (n : Nat) (e : Field) (x₁ x₂ : Nat) : (s.dropTag n).flag e x₁ x₂ = s.flag e x₁ x₂ := rfl
@[simp] theorem State.dropTag_trk (n : Nat) (x₁ : Nat) : (s.dropTag n).trk x₁ = s.trk x₁ := rfl
@[simp] theorem State.dropTag_chan (n : Nat) (x₁ : Nat) : (s.dropTag n).chan x₁ = s.chan x₁ := rfl
@[simp] theorem State.dropTag_bund (n : Nat) (x₁ : Nat) : (s.dropTag n).bund x₁ = s.bund x₁ := rfl
@[simp] theorem State.dropTag_thmL (n : Nat) (x₁ : Nat) : (s.dropTag n).thmL x₁ = s.thmL x₁ := rfl

/-! ### Register fields -/

/-- A field just written reads the value, truncated to its width. -/
@[simp] theorem State.fld_setFld_same (f : Field) (v i j : Nat) : (s.setFld f v i j).fld f i j = v % 2 ^ f.width := by
  simp [State.fld, State.setFld]

/-- A write leaves every field with another key alone. -/
theorem State.fld_setFld_ne {f e : Field} {i j k l : Nat} (v : Nat) (h : e.key k l ≠ f.key i j) :
    (s.setFld f v i j).fld e k l = s.fld e k l := Store.get_set_ne _ _ _ _ h

/-- A field put back to its reset value reads it. -/
@[simp] theorem State.fld_clrFld_same (f : Field) (i j : Nat) : (s.clrFld f i j).fld f i j = f.reset i j := by
  simp [State.fld, State.clrFld, Store.get]

theorem State.fld_clrFld_ne {f e : Field} {i j k l : Nat} (h : e.key k l ≠ f.key i j) :
    (s.clrFld f i j).fld e k l = s.fld e k l := by
  simp [State.fld, State.clrFld, Store.get, Store.find_del_ne _ h]

/-- A one-bit field just set. -/
theorem State.flag_setFlag_same {f : Field} (b : Bool) (i j : Nat) (hw : f.width = 1) : (s.setFlag f b i j).flag f i j = b := by
  cases b <;> simp [State.flag, State.setFlag, hw, b2n]

/-- A counter grows by what is added and stops at its maximum. -/
theorem State.fld_bump_same {f : Field} (i j n : Nat) (h : f.frozen = false ∨ s.inState .park = false) :
    (s.bump f i j n).fld f i j = min (s.fld f i j + n) (2 ^ f.width - 1) := by
  have h1 : ¬ (f.frozen = true ∧ s.inState .park = true) := by
    rcases h with h | h <;> simp [h]
  have h2 : 0 < 2 ^ f.width := Nat.two_pow_pos _
  unfold State.bump
  rw [if_neg h1, State.fld_setFld_same]
  exact Nat.mod_eq_of_lt (by omega)

theorem State.fld_bump_ne {f e : Field} {i j k l : Nat} (n : Nat) (h : e.key k l ≠ f.key i j) :
    (s.bump f i j n).fld e k l = s.fld e k l := by
  unfold State.bump
  split
  · rfl
  · exact State.fld_setFld_ne s _ h

/-! ### Tracks, channels, bundles, layers, the valid map -/

@[simp] theorem State.trk_setTrk_same (t : Nat) (x : Trk) : (s.setTrk t x).trk t = x := by
  simp [State.trk, State.setTrk]

theorem State.trk_setTrk_ne {t u : Nat} (x : Trk) (h : u ≠ t) : (s.setTrk t x).trk u = s.trk u := Store.get_set_ne _ _ _ _ h

@[simp] theorem State.trk_modTrk_same (t : Nat) (g : Trk → Trk) : (s.modTrk t g).trk t = g (s.trk t) := State.trk_setTrk_same s t _

theorem State.trk_modTrk_ne {t u : Nat} (g : Trk → Trk) (h : u ≠ t) : (s.modTrk t g).trk u = s.trk u := State.trk_setTrk_ne s _ h

@[simp] theorem State.trk_modTx_same (t : Nat) (g : TxState → TxState) :
    (s.modTx t g).trk t = { s.trk t with tx := g (s.trk t).tx } := State.trk_modTrk_same s t _

@[simp] theorem State.trk_modRx_same (t : Nat) (g : RxFrame → RxFrame) :
    (s.modRx t g).trk t = { s.trk t with rx := g (s.trk t).rx } := State.trk_modTrk_same s t _

@[simp] theorem State.trk_modSes_same (t : Nat) (g : Session → Session) :
    (s.modSes t g).trk t = { s.trk t with ses := g (s.trk t).ses } := State.trk_modTrk_same s t _

@[simp] theorem State.trk_modTrn_same (t : Nat) (g : Training → Training) :
    (s.modTrn t g).trk t = { s.trk t with trn := g (s.trk t).trn } := State.trk_modTrk_same s t _

@[simp] theorem State.chan_setChan_same (c : Nat) (x : Chan) : (s.setChan c x).chan c = x := by
  simp [State.chan, State.setChan]

theorem State.chan_setChan_ne {c d : Nat} (x : Chan) (h : d ≠ c) : (s.setChan c x).chan d = s.chan d := Store.get_set_ne _ _ _ _ h

@[simp] theorem State.chan_modChan_same (c : Nat) (g : Chan → Chan) : (s.modChan c g).chan c = g (s.chan c) := State.chan_setChan_same s c _

theorem State.chan_modChan_ne {c d : Nat} (g : Chan → Chan) (h : d ≠ c) : (s.modChan c g).chan d = s.chan d := State.chan_setChan_ne s _ h

@[simp] theorem State.chan_modRef_same (c : Nat) (g : Refr → Refr) :
    (s.modRef c g).chan c = { s.chan c with ref := g (s.chan c).ref } := State.chan_modChan_same s c _

@[simp] theorem State.bund_modBund_same (b : Nat) (g : Bund → Bund) : (s.modBund b g).bund b = g (s.bund b) := by
  simp [State.bund, State.modBund]

theorem State.bund_modBund_ne {b d : Nat} (g : Bund → Bund) (h : d ≠ b) : (s.modBund b g).bund d = s.bund d := Store.get_set_ne _ _ _ _ h

@[simp] theorem State.thmL_modThm_same (l : Nat) (g : ThmLayer → ThmLayer) : (s.modThm l g).thmL l = g (s.thmL l) := by
  simp [State.thmL, State.modThm]

/-- Setting the bit of a wagon sets it (R331). -/
theorem State.vbit_setVbit_same (w : Nat) : (s.setVbit w).vbit w = true := by
  have h : w % 8 < 8 := Nat.mod_lt _ (by decide)
  simp only [State.vbit, State.setVbit, State.setVByte, Store.get_set_same, BitVec.getLsbD_or, BitVec.getLsbD_shiftLeft]
  simp [h]

end Sys2Proof.Machine
end

