-- ==== Sys2Proof/Laws/Fields.lean ====
section
/-! SUPPORT. Register fields through the shared operations: equal stores read alike, what a flag reads, what a reset loses, the reset shapes of POR, PIN and CHIP. -/
namespace Sys2Proof.Machine

theorem State.fld_congr {s t : State} (h : t.regs = s.regs) (f : Field) (i j : Nat) : t.fld f i j = s.fld f i j := by
  simp only [State.fld, h]

theorem State.flag_congr {s t : State} (h : t.regs = s.regs) (f : Field) (i j : Nat) : t.flag f i j = s.flag f i j := by
  simp only [State.flag, State.fld, h]

theorem State.fld_of_nil {s : State} (h : s.regs = []) (f : Field) (i j : Nat) : s.fld f i j = f.reset i j := by
  simp only [State.fld, h]; rfl

theorem State.fld_setFlag_same {s : State} {f : Field} {i j : Nat} (b : Bool) (hw : f.width = 1) :
    (s.setFlag f b i j).fld f i j = b2n b := by
  unfold State.setFlag
  rw [State.fld_setFld_same, hw]
  cases b <;> rfl

theorem State.fld_setFlag_ne {s : State} {f e : Field} {i j k l : Nat} (b : Bool) (h : e.key k l ≠ f.key i j) :
    (s.setFlag f b i j).fld e k l = s.fld e k l := State.fld_setFld_ne s _ h

theorem State.flag_setFld_ne {s : State} {f e : Field} {i j k l : Nat} (v : Nat) (h : e.key k l ≠ f.key i j) :
    (s.setFld f v i j).flag e k l = s.flag e k l := by
  simp only [State.flag, State.fld_setFld_ne s v h]

/-! ### Resets -/

theorem Store.find_filter_none {α : Type} (m : Store α) (p : Nat × α → Bool) (k : Nat) (h : ∀ v, p (k, v) = false) :
    Store.find (m.filter p) k = none := by
  induction m with
  | nil => rfl
  | cons e l ih =>
    obtain ⟨a, x⟩ := e
    by_cases hp : p (a, x) = true
    · have ha : k ≠ a := by
        rintro rfl
        simp [h] at hp
      simp only [List.filter, hp, Store.find, if_neg ha]
      exact ih
    · simp only [List.filter, hp]
      exact ih

theorem Store.find_filter_all {α : Type} (m : Store α) (p : Nat × α → Bool) (k : Nat) (h : ∀ v, p (k, v) = true) :
    Store.find (m.filter p) k = Store.find m k := by
  induction m with
  | nil => rfl
  | cons e l ih =>
    obtain ⟨a, x⟩ := e
    by_cases ha : k = a
    · subst ha
      simp only [List.filter, h, Store.find, if_true]
    · by_cases hp : p (a, x) = true
      · simp only [List.filter, hp, Store.find, if_neg ha]
        exact ih
      · simp only [List.filter, hp, Store.find, if_neg ha]
        exact ih

/-- A field in scope that the kind does not keep reads its reset value. -/
theorem State.fld_resetRegs_lost {s : State} {k : ResetKind} {scope : Nat → Bool} {f : Field} {i j : Nat} {x : FieldAt}
    (hs : scope (f.key i j / 64) = true) (hf : fieldOfKey (f.key i j) = some x) (hk : x.f.keeps k = false) :
    (s.resetRegs k scope).fld f i j = f.reset i j := by
  unfold State.fld State.resetRegs Store.get
  rw [Store.find_filter_none _ _ _ (fun v => by simp [hs, hf, hk])]
  rfl

/-- A field outside the scope, or that the kind keeps, reads as before. -/
theorem State.fld_resetRegs_kept {s : State} {k : ResetKind} {scope : Nat → Bool} {f : Field} {i j : Nat} {x : FieldAt}
    (hf : fieldOfKey (f.key i j) = some x) (hk : scope (f.key i j / 64) = false ∨ x.f.keeps k = true) :
    (s.resetRegs k scope).fld f i j = s.fld f i j := by
  unfold State.fld State.resetRegs Store.get
  rw [Store.find_filter_all _ _ _ (fun v => by rcases hk with hk | hk <;> simp [hf, hk])]

@[simp] theorem State.updErr_regs (s : State) : s.updErr.regs = s.regs := by
  unfold State.updErr
  repeat' split
  all_goals rfl

theorem State.updErr_eq (s : State) : s.updErr = { s with box := s.updErr.box } := by
  unfold State.updErr
  repeat' split
  all_goals rfl

/-- The bits of acknowledged fills are all that is written before a reset. -/
theorem State.ackedFills_form (s : State) : ∃ m, s.ackedFills = { s with vmap := { s.vmap with mem := m } } := by
  unfold State.ackedFills
  split
  · exact ⟨s.vmap.mem, rfl⟩
  · refine List.foldlRecOn (motive := fun (t : State) => ∃ m, t = { s with vmap := { s.vmap with mem := m } }) _ _ ⟨s.vmap.mem, rfl⟩ ?_
    rintro t ⟨m, rfl⟩ f -
    dsimp only
    split
    · exact ⟨m, rfl⟩
    · exact ⟨_, rfl⟩

/-- The registers a PIN or CHIP reset leaves. -/
theorem State.deviceReset_regs (s : State) (k : ResetKind) (c : Nat) :
    (s.deviceReset k c).regs = ((s.resetRegs k fun _ => true).setFld Fld.GLB_STATE_CAUSE c).regs := by
  obtain ⟨m, e⟩ := s.ackedFills_form
  unfold State.deviceReset
  rw [State.updErr_regs, e]
  rfl

/-- The rest of what a PIN or CHIP reset leaves. -/
theorem State.deviceReset_eq (s : State) (k : ResetKind) (c : Nat) : s.deviceReset k c = { s.deviceReset k c with
    pending := s.pending, pins := { s.pins with thermLow := false }, ord := s.ord, cenTicks := 0, ticks := s.ticks, resetting := true, trks := [], tags := []
    chans := [], codec := {}, vert := {}, bwr := {}, thm := {}, pwr := {}, hold := none, park := {}, fab := {}, cc := 0
    vmap := { mem := s.ackedFills.vmap.mem, spareRows := s.vmap.spareRows }
    rep := { copy := s.rep.copy, deltas := s.rep.deltas, hist := s.rep.hist, low := s.rep.low
             late := s.rep.late, engines := s.rep.engines, first := s.rep.first }
    bst := { cur := s.bst.cur, valid := s.bst.valid, imageCrc := s.bst.imageCrc }
    start := { warm := !s.porAgain k, prev := s.keptConf, held := true, again := true }
    nvm := { s.nvm with cur := none, ops := [], deferred := [] }, wrap := { s.wrap with edge := none }, free := s.free } := by
  obtain ⟨m, e⟩ := s.ackedFills_form
  unfold State.deviceReset
  rw [State.updErr_eq, e]
  rfl

@[simp] theorem State.porStart_regs (s : State) : s.porStart.regs = [] := by
  unfold State.porStart State.porReset State.beginStart
  simp only []
  split <;> rfl

end Sys2Proof.Machine
end

