-- ==== Sys2Proof/Laws/Fabric.lean ====
section
/-! SUPPORT. A register write that reaches its register is performed, and only its answer follows; where the registers of a block lie. -/
namespace Sys2Proof.Machine

/-! ### Where registers lie (R495) -/

/-- The block, instance and offset of an address within an instance. -/
theorem blkOf_at (b : Blk) (i o : Nat) (hi : i < b.count) (ho : o < b.span) : blkOf (b.base + b.span * i + o) = some (b, i, o) := by
  have hp : 0 < b.span := by cases b <;> decide
  have hc : b.span * i + o < b.span * b.count := by
    calc b.span * i + o < b.span * i + b.span := by omega
      _ = b.span * (i + 1) := by rw [Nat.mul_add, Nat.mul_one]
      _ ≤ b.span * b.count := Nat.mul_le_mul_left _ hi
  have hd : (b.base + b.span * i + o - b.base) / b.span = i := by
    rw [show b.base + b.span * i + o - b.base = o + b.span * i by omega, Nat.add_mul_div_left _ _ hp, Nat.div_eq_of_lt ho]; omega
  have hm : (b.base + b.span * i + o - b.base) % b.span = o := by
    rw [show b.base + b.span * i + o - b.base = o + b.span * i by omega, Nat.add_mul_mod_self_left, Nat.mod_eq_of_lt ho]
  have hf : (blkList.find? fun x => decide (x.base ≤ b.base + b.span * i + o ∧ b.base + b.span * i + o < x.base + x.span * x.count)) = some b := by
    generalize hx : b.span * i + o = x at hc
    rw [show b.base + b.span * i + o = b.base + x by omega]
    have pos : ∀ (y : Blk) (l : List Blk) (q : Blk → Prop) [DecidablePred q], q y → (y :: l).find? (fun x => decide (q x)) = some y :=
      fun y l q _ h => List.find?_cons_of_pos (by simpa using h)
    have neg : ∀ (y : Blk) (l : List Blk) (q : Blk → Prop) [DecidablePred q] (r : Option Blk), ¬ q y → l.find? (fun x => decide (q x)) = r →
        (y :: l).find? (fun x => decide (q x)) = r :=
      fun y l q _ r h e => (List.find?_cons_of_neg (by simpa using h)).trans e
    unfold blkList
    cases b <;> simp only [Blk.base, Blk.span, Blk.count] at hc ⊢ <;>
      repeat first
        | (refine pos _ _ (fun x : Blk => x.base ≤ _ ∧ _ < x.base + x.span * x.count) ?_; simp only [Blk.base, Blk.span, Blk.count]; omega)
        | (refine neg _ _ (fun x : Blk => x.base ≤ _ ∧ _ < x.base + x.span * x.count) _ ?_ ?_
           · simp only [Blk.base, Blk.span, Blk.count]; omega)
  unfold blkOf
  rw [hf]
  simp only [Option.map_some, hd, hm]

/-! ### A write that reaches its register -/

/-- An access of one whole register that answers finds that register. -/
theorem State.access_whole {s : State} {size a : Nat} (hw : wholeReg size a = true) (ha : s.answers a = true) :
    s.access true false size a = .ok (regHit a) := by
  unfold wholeReg at hw
  simp only [Bool.and_eq_true, decide_eq_true_eq, Bool.not_eq_true'] at hw
  obtain ⟨⟨hlt, hne⟩, hsz⟩ := hw
  have hit : hitAt a = some (regHit a) := by unfold hitAt mainHit regHit; simp [hlt, hne]
  cases hwide : wide (fieldsAt a) with
  | true =>
    simp only [hwide, if_true, Bool.and_eq_true, decide_eq_true_eq] at hsz
    obtain ⟨⟨rfl, h8⟩, -⟩ := hsz
    have e8 : a / 8 * 8 = a := by omega
    have h4 : a % 4 = 0 := by omega
    unfold State.access
    simp [e8, hit, h4, h8, regHit, hwide, ha]
  | false =>
    simp only [hwide, Bool.false_eq_true, if_false, Bool.and_eq_true, decide_eq_true_eq, Bool.not_eq_true', Bool.and_eq_false_imp] at hsz
    obtain ⟨⟨rfl, h4⟩, hlow⟩ := hsz
    have hw64 : (((hitAt (a / 8 * 8)).map fun r => r.w64).getD false) = false := by
      rcases (by omega : a % 8 = 0 ∨ a % 8 = 4) with h | h
      · rw [show a / 8 * 8 = a by omega, hit]; exact hwide
      · rw [show a / 8 * 8 = a - 4 by omega]
        have hn := hlow h
        have h3 : a - 4 < 0x100000 := by omega
        unfold hitAt mainHit
        simp only [h3, if_true]
        by_cases he : (fieldsAt (a - 4)).isEmpty
        · have : ¬ ((a - 4) % 8 = 4) := by omega
          simp [he, this]
        · simp [he, hn]
    unfold State.access
    simp [hw64, hit, h4, regHit, ha]

/-- The sizes of the registers of the main blocks, and the bounds that let an RWR carry the access. -/
theorem wholeReg_bounds {size a : Nat} (hw : wholeReg size a = true) : a < 0x100000 ∧ (size = 4 ∨ size = 8) := by
  unfold wholeReg at hw
  simp only [Bool.and_eq_true, decide_eq_true_eq, Bool.not_eq_true'] at hw
  refine ⟨hw.1.1, ?_⟩
  by_cases h : wide (fieldsAt a)
  · have := hw.2; simp only [h, if_true, Bool.and_eq_true, decide_eq_true_eq] at this; exact .inr this.1.1
  · have := hw.2; simp only [h, if_false, Bool.and_eq_true, decide_eq_true_eq, Bool.false_eq_true] at this; exact .inl this.1.1

/-- The size and address an RWR carries, and its value where it fits the size. -/
theorem State.rwrPkt_reads (s : State) (t : TrackIx) (m : BitVec 6) (g : BitVec 14) {size a v : Nat}
    (ha : a < 0x100000) (hs : size = 4 ∨ size = 8) (hv : v < 2 ^ (8 * size)) :
    (s.rwrPkt t m g size a v).regSize = size ∧ (s.rwrPkt t m g size a v).regAddr = a ∧ (s.rwrPkt t m g size a v).regData = v := by
  have e : (BitVec.ofNat 32 (size * 2 ^ 24 + a)).toNat = size * 2 ^ 24 + a := by
    rw [BitVec.toNat_ofNat]; apply Nat.mod_eq_of_lt; omega
  have r1 : (s.rwrPkt t m g size a v).regSize = size := by
    show (BitVec.ofNat 32 (size * 2 ^ 24 + a)).toNat / 2 ^ 24 = size
    rw [e]; omega
  refine ⟨r1, ?_, ?_⟩
  · show (BitVec.ofNat 32 (size * 2 ^ 24 + a)).toNat % 2 ^ 24 = a
    rw [e]; omega
  · unfold Pkt.regData
    rw [r1]
    show (BitVec.ofNat 256 v).toNat % _ = v
    rw [BitVec.toNat_ofNat]
    rcases hs with rfl | rfl
    · rw [if_neg (by decide)]
      have hv : v < 2 ^ 32 := hv
      omega
    · rw [if_pos rfl]
      have hv : v < 2 ^ 64 := hv
      omega

/-- A register request that is accepted and not fenced goes to the fabric. -/
theorem State.regRequest_ok {s : State} {t : TrackIx} {p : Pkt} (hc : s.canTake t p = true)
    (hb : (s.takeIn t p).1.badReason t p (s.takeIn t p).2 = none) (hf : (s.takeIn t p).1.fenceBefore (s.takeIn t p).2 = false) :
    s.regRequest t p = (s.takeIn t p).1.doReg t p (s.takeIn t p).2 := by
  unfold State.regRequest
  rw [if_neg (by simp [hc])]
  simp only [hb, hf, Bool.false_eq_true, if_false]

/-- A write that nothing refuses is performed and answered OK. -/
theorem State.doReg_write {s : State} {t : TrackIx} {p : Pkt} {ord size a v : Nat} (ht : pktType p.typ ≠ .rrd)
    (e1 : p.regSize = size) (e2 : p.regAddr = a) (e3 : p.regData = v) (hc : p.cost = (1, 1)) (hw : wholeReg size a = true)
    (ha : (s.returnFor t ord 1 1).answers a = true) (hr : (s.returnFor t ord 1 1).refusal (regHit a) v = none) :
    s.doReg t p ord = ((s.returnFor t ord 1 1).perform (regHit a) v).respond ord 0x12 0 0 := by
  unfold State.doReg
  simp only [e1, e2, e3, hc]
  rw [if_neg ht]
  unfold State.regWrite State.writeHit
  simp only [State.access_whole hw ha, hr]
  rfl

/-- A register write over the link that is accepted is performed, and its RRS with OK follows. -/
theorem State.writeFrom_link {s : State} {t : TrackIx} {m : BitVec 6} {g : BitVec 14} {size a v : Nat}
    (h : s.accepts (.link t m g) size a v = true) (hv : v < 2 ^ (8 * size)) :
    s.writeFrom (.link t m g) size a v =
      ((s.atFabric (.link t m g) size a v).perform (regHit a) v).respond (s.takeIn t (s.rwrPkt t m g size a v)).2 0x12 0 0 := by
  unfold State.accepts State.arrives at h
  simp only [Bool.and_eq_true, Bool.not_eq_true', Option.isNone_iff_eq_none] at h
  obtain ⟨⟨⟨⟨⟨⟨hc, hb⟩, hf⟩, hw⟩, -⟩, ha⟩, hr⟩ := h
  have hlt := wholeReg_bounds hw
  obtain ⟨e1, e2, e3⟩ := s.rwrPkt_reads t m g hlt.1 hlt.2 hv
  exact (State.regRequest_ok hc hb hf).trans (State.doReg_write (show pktType 0x06 ≠ .rrd by decide) e1 e2 e3 rfl hw ha hr)

/-- A scan while the fabric is up makes its access. -/
theorem State.scan_up {s : State} (access : State → State × BitVec 64) (h : s.fabricUp = true) :
    s.scan access =
      (let u := access { s with wrap := { s.wrap with wir := .regAcc, bumps := none, cap := s.wrap.result.getD 0, edge := some s.cc } }
       { u.1 with wrap := { u.1.wrap with result := some u.2 } }) := by
  have hh : ¬ s.hold.isSome = true := by
    simp only [State.fabricUp, Bool.and_eq_true, Option.isNone_iff_eq_none] at h
    simp [h.2]
  unfold State.scan
  rw [if_neg hh]
  exact if_neg (by simpa [State.fabricUp, and_assoc] using h)

/-- A port write of a whole 32-bit register. -/
theorem State.portWrite_word {s : State} {a v : Nat} (hw : wholeReg 4 a = true)
    (ha : ({ s with fab := s.fab.noRd.noWr } : State).answers a = true)
    (hr : ({ s with fab := s.fab.noRd.noWr } : State).refusal (regHit a) v = none) :
    s.portWrite a v = (({ s with fab := s.fab.noRd.noWr } : State).perform (regHit a) v, .ok) := by
  have hn : ¬ wide (fieldsAt a) = true := by
    intro h; unfold wholeReg at hw; simp [h] at hw
  have hit : hitAt a = some (regHit a) := by
    unfold wholeReg at hw; simp only [Bool.and_eq_true, decide_eq_true_eq, Bool.not_eq_true'] at hw
    unfold hitAt mainHit regHit; simp [hw.1.1, hw.1.2]
  have h4 : a % 4 = 0 := by
    unfold wholeReg at hw; simp only [hn, if_false, Bool.and_eq_true, decide_eq_true_eq, Bool.false_eq_true] at hw; exact hw.2.1.2
  have hac : ({ s with fab := s.fab.noRd.noWr } : State).access true true 4 a = .ok (regHit a) := by
    unfold State.access
    simp [hit, h4]
    exact ha
  unfold State.portWrite
  simp only [hac]
  rw [if_pos (by simpa [regHit] using hn)]
  unfold State.writeHit
  simp only [hr]

/-- A register write through the port that is accepted is performed, and the scan's result waits in the wrapper. -/
theorem State.writeFrom_port4 {s : State} {a v : Nat} (h : s.accepts .port 4 a v = true) (hv : v < 2 ^ 32) :
    ∃ w, s.writeFrom .port 4 a v = { (s.atFabric .port 4 a v).perform (regHit a) v with wrap := w } := by
  unfold State.accepts State.arrives at h
  simp only [Bool.and_eq_true, Option.isNone_iff_eq_none] at h
  obtain ⟨⟨⟨⟨hup, hw⟩, -⟩, ha⟩, hr⟩ := h
  have e : s.atFabric .port 4 a v = { s with
      wrap := { s.wrap with wir := .regAcc, bumps := none, cap := s.wrap.result.getD 0, edge := some s.cc }, fab := s.fab.noRd.noWr } := rfl
  rw [e] at ha hr ⊢
  have step : s.writeFrom .port 4 a v = s.scan fun s => ((s.portWrite a v).1, accWord 0 (s.portWrite a v).2 a) := by
    unfold State.writeFrom State.scanWrite
    simp only [Nat.mod_eq_of_lt hv]
    rfl
  rw [step, State.scan_up _ hup,
    State.portWrite_word (s := { s with wrap := { s.wrap with wir := .regAcc, bumps := none, cap := s.wrap.result.getD 0, edge := some s.cc } }) hw ha hr]
  exact ⟨_, rfl⟩

/-- Whether the register at an address answers depends on the registers alone. -/
theorem State.answers_congr {s t : State} (h : t.regs = s.regs) (a : Nat) : t.answers a = s.answers a := by
  unfold State.answers State.inState
  simp only [State.fld_congr h]

/-- A port write of the low half of a whole 64-bit register waits in the latch; the write of its high half that follows writes both. -/
theorem State.portWrite_halves {s : State} {a : Nat} (lo : Nat) (hw : wholeReg 8 a = true) (ha : s.answers a = true) :
    s.portWrite a lo = ({ s with fab := { s.fab.noRd.noWr with wrLatch := some (a, lo) } }, .ok) ∧
    ∀ (w : Nat), s.fab.wrLatch = some (a, lo) →
      ({ s with fab := s.fab.noRd.noWr } : State).refusal (regHit a) (lo + w * 2 ^ 32) = none →
      s.portWrite (a + 4) w = (({ s with fab := s.fab.noRd.noWr } : State).perform (regHit a) (lo + w * 2 ^ 32), .ok) := by
  unfold wholeReg at hw
  simp only [Bool.and_eq_true, decide_eq_true_eq, Bool.not_eq_true'] at hw
  obtain ⟨⟨hlt, hne⟩, hsz⟩ := hw
  have hwide : wide (fieldsAt a) = true := by
    cases h : wide (fieldsAt a) with
    | true => rfl
    | false => simp [h] at hsz
  simp only [hwide, if_true, Bool.and_eq_true, decide_eq_true_eq] at hsz
  obtain ⟨⟨-, h8⟩, hnx⟩ := hsz
  have hit : hitAt a = some (regHit a) := by unfold hitAt mainHit regHit; simp [hlt, hne]
  have hlt4 : a + 4 < 0x100000 := by omega
  have hit4 : hitAt (a + 4) = some { regHit a with high := true } := by
    have : (a + 4) % 8 = 4 := by omega
    unfold hitAt mainHit regHit
    simp [hlt4, hnx, this, hwide]
  have h4 : a % 4 = 0 := by omega
  have h4' : (a + 4) % 4 = 0 := by omega
  have hac : ({ s with fab := s.fab.noRd.noWr } : State).access true true 4 a = .ok (regHit a) := by
    unfold State.access; simp [hit, h4]; exact ha
  have hac4 : ({ s with fab := s.fab.noRd.noWr } : State).access true true 4 (a + 4) = .ok { regHit a with high := true } := by
    unfold State.access; simp [hit4, h4']; exact ha
  constructor
  · unfold State.portWrite
    simp only [hac]
    rw [if_neg (by simpa [regHit] using hwide), if_pos (by simp [regHit])]
    rfl
  · intro w hl hr
    unfold State.portWrite
    simp only [hac4, hl]
    rw [if_neg (by simpa [regHit] using hwide), if_neg (by simp), if_pos (show a = (regHit a).a from rfl)]
    unfold State.writeHit
    rw [show ({ s with fab := s.fab.noRd.noWr } : State).refusal { regHit a with high := true } (lo + w * 2 ^ 32) = none from hr]
    rfl

/-- A write of a 64-bit register through the port that is accepted is performed by its second scan. -/
theorem State.writeFrom_port8 {s : State} {a v : Nat} (h : s.accepts .port 8 a v = true) :
    ∃ w, s.writeFrom .port 8 a v = { (s.atFabric .port 8 a v).perform (regHit a) v with wrap := w } := by
  unfold State.accepts State.arrives at h
  simp only [Bool.and_eq_true, Option.isNone_iff_eq_none] at h
  obtain ⟨⟨⟨⟨hup, hw⟩, ha⟩, -⟩, hr⟩ := h
  have hlow : s.scanWrite a (v % 2 ^ 32) = { s with
      wrap := { s.wrap with wir := .regAcc, bumps := none, cap := s.wrap.result.getD 0, edge := some s.cc, result := some (accWord 0 .ok a) }
      fab := { s.fab.noRd.noWr with wrLatch := some (a, v % 2 ^ 32) } } := by
    unfold State.scanWrite
    rw [State.scan_up _ hup]
    simp only [(State.portWrite_halves (s := { s with wrap := { s.wrap with wir := .regAcc, bumps := none, cap := s.wrap.result.getD 0, edge := some s.cc } })
      (v % 2 ^ 32) hw ((State.answers_congr rfl a).trans ha)).1]
  have hsum : v % 2 ^ 32 + v / 2 ^ 32 * 2 ^ 32 = v := by omega
  have e : s.atFabric .port 8 a v = { s.scanWrite a (v % 2 ^ 32) with
      wrap := { (s.scanWrite a (v % 2 ^ 32)).wrap with wir := .regAcc, bumps := none, cap := (s.scanWrite a (v % 2 ^ 32)).wrap.result.getD 0, edge := some (s.scanWrite a (v % 2 ^ 32)).cc }
      fab := (s.scanWrite a (v % 2 ^ 32)).fab.noRd.noWr } := rfl
  rw [e] at hr ⊢
  have step : s.writeFrom .port 8 a v = (s.scanWrite a (v % 2 ^ 32)).scanWrite (a + 4) (v / 2 ^ 32) := by
    unfold State.writeFrom
    exact if_pos rfl
  rw [step]
  generalize hu : s.scanWrite a (v % 2 ^ 32) = u at hr ⊢
  have hau : u.answers a = true := by rw [← hu, hlow]; exact (State.answers_congr rfl a).trans ha
  have hfu : u.fabricUp = true := by rw [← hu, hlow]; exact hup
  have hlu : u.fab.wrLatch = some (a, v % 2 ^ 32) := by rw [← hu, hlow]
  have two := (State.portWrite_halves (s := { u with wrap := { u.wrap with wir := .regAcc, bumps := none, cap := u.wrap.result.getD 0, edge := some u.cc } })
    (v % 2 ^ 32) hw ((State.answers_congr rfl a).trans hau)).2 (v / 2 ^ 32) hlu (by rw [hsum]; exact hr)
  unfold State.scanWrite
  rw [State.scan_up _ hfu]
  simp only [two, hsum]
  exact ⟨_, rfl⟩

end Sys2Proof.Machine
end

