-- ==== Sys2Proof/Laws/Frame.lean ====
section
/-! SUPPORT. Footprints: which of the 27 parts of State an operation may change, as a mask with bit i for the part i in the order State lists them. A part whose bit is 0 is left as it was. -/
namespace Sys2Proof.Machine

/-- The mask n holds every bit of k. -/
def Covers (n k : Nat) : Prop := n ||| k = n

theorem Covers.trans {n k l : Nat} (h : Covers n k) (h2 : (k ||| l == k) = true) : Covers n l := by
  have h3 : k ||| l = k := by simpa using h2
  unfold Covers at *
  rw [← h, Nat.or_assoc, h3]

theorem Covers.bit {n k i : Nat} (h : Covers n k) (h2 : k.testBit i = true) : n.testBit i = true := by
  rw [← h, Nat.testBit_or, h2, Bool.or_true]

theorem Covers.refl (n : Nat) : Covers n n := Nat.or_self n

/-- Every part of State whose bit n lacks is in s as it was in o. -/
structure State.Frame (n : Nat) (s o : State) : Prop where
  pending : n.testBit 0 = false → s.pending = o.pending
  regs : n.testBit 1 = false → s.regs = o.regs
  fab : n.testBit 2 = false → s.fab = o.fab
  box : n.testBit 3 = false → s.box = o.box
  pins : n.testBit 4 = false → s.pins = o.pins
  trks : n.testBit 5 = false → s.trks = o.trks
  tags : n.testBit 6 = false → s.tags = o.tags
  ord : n.testBit 7 = false → s.ord = o.ord
  cenTicks : n.testBit 8 = false → s.cenTicks = o.cenTicks
  ticks : n.testBit 9 = false → s.ticks = o.ticks
  resetting : n.testBit 10 = false → s.resetting = o.resetting
  chans : n.testBit 11 = false → s.chans = o.chans
  codec : n.testBit 12 = false → s.codec = o.codec
  vert : n.testBit 13 = false → s.vert = o.vert
  bwr : n.testBit 14 = false → s.bwr = o.bwr
  vmap : n.testBit 15 = false → s.vmap = o.vmap
  rep : n.testBit 16 = false → s.rep = o.rep
  bst : n.testBit 17 = false → s.bst = o.bst
  thm : n.testBit 18 = false → s.thm = o.thm
  pwr : n.testBit 19 = false → s.pwr = o.pwr
  hold : n.testBit 20 = false → s.hold = o.hold
  start : n.testBit 21 = false → s.start = o.start
  park : n.testBit 22 = false → s.park = o.park
  nvm : n.testBit 23 = false → s.nvm = o.nvm
  wrap : n.testBit 24 = false → s.wrap = o.wrap
  cc : n.testBit 25 = false → s.cc = o.cc
  free : n.testBit 26 = false → s.free = o.free

/-- The same of an outcome: it is a next state. -/
def Out.Frame (n : Nat) (o : State) : Out → Prop
  | .next t => t.Frame n o
  | .fault _ => False
  | .refused _ => False

variable {n : Nat} {o s : State}

theorem State.Frame.rfl' : s.Frame n s :=
  ⟨fun _ => rfl, fun _ => rfl, fun _ => rfl, fun _ => rfl, fun _ => rfl, fun _ => rfl, fun _ => rfl, fun _ => rfl, fun _ => rfl, fun _ => rfl, fun _ => rfl, fun _ => rfl, fun _ => rfl, fun _ => rfl, fun _ => rfl, fun _ => rfl, fun _ => rfl, fun _ => rfl, fun _ => rfl, fun _ => rfl, fun _ => rfl, fun _ => rfl, fun _ => rfl, fun _ => rfl, fun _ => rfl, fun _ => rfl, fun _ => rfl⟩

theorem Out.Frame.next {t : State} (h : t.Frame n o) : Out.Frame n o (.next t) := h

theorem Out.Frame.elim {x : Out} (h : Out.Frame n o x) : ∃ t, x = .next t ∧ t.Frame n o := by
  cases x with
  | next t => exact ⟨t, rfl, h⟩
  | fault r => exact False.elim h
  | refused r => exact False.elim h

/-- A part is left, or its bit is in the mask. -/
theorem Frame.part {α : Type} {i : Nat} {x y z : α} (e : n.testBit i = true ∨ x = y) (h : n.testBit i = false → y = z) :
    n.testBit i = false → x = z := by
  intro hn
  rcases e with e | e
  · rw [hn] at e
    cases e
  · exact e.trans (h hn)

theorem State.Frame.mk' {regs₁ : Store Nat} {fab₁ : Fabric} {box₁ : Box} {pins₁ : Pins} {trks₁ : Store Trk} {tags₁ : List OpenTag} {ord₁ : Nat} {cenTicks₁ : Nat} {ticks₁ : Nat} {resetting₁ : Bool} {chans₁ : Store Chan} {codec₁ : Codec} {vert₁ : Vert} {bwr₁ : Bwr} {vmap₁ : VMap} {rep₁ : Rep} {bst₁ : Bst} {thm₁ : Thm} {pwr₁ : Pwr} {hold₁ : Option Hold} {start₁ : Start} {park₁ : Park} {nvm₁ : Nvm} {wrap₁ : Wrap} {cc₁ : Nat} {free₁ : Nat} (h : s.Frame n o)
    (h1 : n.testBit 1 = true ∨ regs₁ = s.regs) (h2 : n.testBit 2 = true ∨ fab₁ = s.fab) (h3 : n.testBit 3 = true ∨ box₁ = s.box) (h4 : n.testBit 4 = true ∨ pins₁ = s.pins) (h5 : n.testBit 5 = true ∨ trks₁ = s.trks) (h6 : n.testBit 6 = true ∨ tags₁ = s.tags) (h7 : n.testBit 7 = true ∨ ord₁ = s.ord) (h8 : n.testBit 8 = true ∨ cenTicks₁ = s.cenTicks) (h9 : n.testBit 9 = true ∨ ticks₁ = s.ticks) (h10 : n.testBit 10 = true ∨ resetting₁ = s.resetting) (h11 : n.testBit 11 = true ∨ chans₁ = s.chans) (h12 : n.testBit 12 = true ∨ codec₁ = s.codec) (h13 : n.testBit 13 = true ∨ vert₁ = s.vert) (h14 : n.testBit 14 = true ∨ bwr₁ = s.bwr) (h15 : n.testBit 15 = true ∨ vmap₁ = s.vmap) (h16 : n.testBit 16 = true ∨ rep₁ = s.rep) (h17 : n.testBit 17 = true ∨ bst₁ = s.bst) (h18 : n.testBit 18 = true ∨ thm₁ = s.thm) (h19 : n.testBit 19 = true ∨ pwr₁ = s.pwr) (h20 : n.testBit 20 = true ∨ hold₁ = s.hold) (h21 : n.testBit 21 = true ∨ start₁ = s.start) (h22 : n.testBit 22 = true ∨ park₁ = s.park) (h23 : n.testBit 23 = true ∨ nvm₁ = s.nvm) (h24 : n.testBit 24 = true ∨ wrap₁ = s.wrap) (h25 : n.testBit 25 = true ∨ cc₁ = s.cc) (h26 : n.testBit 26 = true ∨ free₁ = s.free) :
    State.Frame n { pending := s.pending, regs := regs₁, fab := fab₁, box := box₁, pins := pins₁, trks := trks₁, tags := tags₁, ord := ord₁, cenTicks := cenTicks₁, ticks := ticks₁, resetting := resetting₁, chans := chans₁, codec := codec₁, vert := vert₁, bwr := bwr₁, vmap := vmap₁, rep := rep₁, bst := bst₁, thm := thm₁, pwr := pwr₁, hold := hold₁, start := start₁, park := park₁, nvm := nvm₁, wrap := wrap₁, cc := cc₁, free := free₁ } o :=
  ⟨h.pending, Frame.part h1 h.regs, Frame.part h2 h.fab, Frame.part h3 h.box, Frame.part h4 h.pins, Frame.part h5 h.trks, Frame.part h6 h.tags, Frame.part h7 h.ord, Frame.part h8 h.cenTicks, Frame.part h9 h.ticks, Frame.part h10 h.resetting, Frame.part h11 h.chans, Frame.part h12 h.codec, Frame.part h13 h.vert, Frame.part h14 h.bwr, Frame.part h15 h.vmap, Frame.part h16 h.rep, Frame.part h17 h.bst, Frame.part h18 h.thm, Frame.part h19 h.pwr, Frame.part h20 h.hold, Frame.part h21 h.start, Frame.part h22 h.park, Frame.part h23 h.nvm, Frame.part h24 h.wrap, Frame.part h25 h.cc, Frame.part h26 h.free⟩

/-! One part replaced. -/

theorem State.Frame.set_regs {x : Store Nat} (h : s.Frame n o) (e : n.testBit 1 = true) : State.Frame n { s with regs := x } o :=
  { h with regs := fun q => absurd (q.symm.trans e) (by decide) }

theorem State.Frame.set_fab {x : Fabric} (h : s.Frame n o) (e : n.testBit 2 = true) : State.Frame n { s with fab := x } o :=
  { h with fab := fun q => absurd (q.symm.trans e) (by decide) }

theorem State.Frame.set_box {x : Box} (h : s.Frame n o) (e : n.testBit 3 = true) : State.Frame n { s with box := x } o :=
  { h with box := fun q => absurd (q.symm.trans e) (by decide) }

theorem State.Frame.set_pins {x : Pins} (h : s.Frame n o) (e : n.testBit 4 = true) : State.Frame n { s with pins := x } o :=
  { h with pins := fun q => absurd (q.symm.trans e) (by decide) }

theorem State.Frame.set_trks {x : Store Trk} (h : s.Frame n o) (e : n.testBit 5 = true) : State.Frame n { s with trks := x } o :=
  { h with trks := fun q => absurd (q.symm.trans e) (by decide) }

theorem State.Frame.set_tags {x : List OpenTag} (h : s.Frame n o) (e : n.testBit 6 = true) : State.Frame n { s with tags := x } o :=
  { h with tags := fun q => absurd (q.symm.trans e) (by decide) }

theorem State.Frame.set_ord {x : Nat} (h : s.Frame n o) (e : n.testBit 7 = true) : State.Frame n { s with ord := x } o :=
  { h with ord := fun q => absurd (q.symm.trans e) (by decide) }

theorem State.Frame.set_cenTicks {x : Nat} (h : s.Frame n o) (e : n.testBit 8 = true) : State.Frame n { s with cenTicks := x } o :=
  { h with cenTicks := fun q => absurd (q.symm.trans e) (by decide) }

theorem State.Frame.set_ticks {x : Nat} (h : s.Frame n o) (e : n.testBit 9 = true) : State.Frame n { s with ticks := x } o :=
  { h with ticks := fun q => absurd (q.symm.trans e) (by decide) }

theorem State.Frame.set_resetting {x : Bool} (h : s.Frame n o) (e : n.testBit 10 = true) : State.Frame n { s with resetting := x } o :=
  { h with resetting := fun q => absurd (q.symm.trans e) (by decide) }

theorem State.Frame.set_chans {x : Store Chan} (h : s.Frame n o) (e : n.testBit 11 = true) : State.Frame n { s with chans := x } o :=
  { h with chans := fun q => absurd (q.symm.trans e) (by decide) }

theorem State.Frame.set_codec {x : Codec} (h : s.Frame n o) (e : n.testBit 12 = true) : State.Frame n { s with codec := x } o :=
  { h with codec := fun q => absurd (q.symm.trans e) (by decide) }

theorem State.Frame.set_vert {x : Vert} (h : s.Frame n o) (e : n.testBit 13 = true) : State.Frame n { s with vert := x } o :=
  { h with vert := fun q => absurd (q.symm.trans e) (by decide) }

theorem State.Frame.set_bwr {x : Bwr} (h : s.Frame n o) (e : n.testBit 14 = true) : State.Frame n { s with bwr := x } o :=
  { h with bwr := fun q => absurd (q.symm.trans e) (by decide) }

theorem State.Frame.set_vmap {x : VMap} (h : s.Frame n o) (e : n.testBit 15 = true) : State.Frame n { s with vmap := x } o :=
  { h with vmap := fun q => absurd (q.symm.trans e) (by decide) }

theorem State.Frame.set_rep {x : Rep} (h : s.Frame n o) (e : n.testBit 16 = true) : State.Frame n { s with rep := x } o :=
  { h with rep := fun q => absurd (q.symm.trans e) (by decide) }

theorem State.Frame.set_bst {x : Bst} (h : s.Frame n o) (e : n.testBit 17 = true) : State.Frame n { s with bst := x } o :=
  { h with bst := fun q => absurd (q.symm.trans e) (by decide) }

theorem State.Frame.set_thm {x : Thm} (h : s.Frame n o) (e : n.testBit 18 = true) : State.Frame n { s with thm := x } o :=
  { h with thm := fun q => absurd (q.symm.trans e) (by decide) }

theorem State.Frame.set_pwr {x : Pwr} (h : s.Frame n o) (e : n.testBit 19 = true) : State.Frame n { s with pwr := x } o :=
  { h with pwr := fun q => absurd (q.symm.trans e) (by decide) }

theorem State.Frame.set_hold {x : Option Hold} (h : s.Frame n o) (e : n.testBit 20 = true) : State.Frame n { s with hold := x } o :=
  { h with hold := fun q => absurd (q.symm.trans e) (by decide) }

theorem State.Frame.set_start {x : Start} (h : s.Frame n o) (e : n.testBit 21 = true) : State.Frame n { s with start := x } o :=
  { h with start := fun q => absurd (q.symm.trans e) (by decide) }

theorem State.Frame.set_park {x : Park} (h : s.Frame n o) (e : n.testBit 22 = true) : State.Frame n { s with park := x } o :=
  { h with park := fun q => absurd (q.symm.trans e) (by decide) }

theorem State.Frame.set_nvm {x : Nvm} (h : s.Frame n o) (e : n.testBit 23 = true) : State.Frame n { s with nvm := x } o :=
  { h with nvm := fun q => absurd (q.symm.trans e) (by decide) }

theorem State.Frame.set_wrap {x : Wrap} (h : s.Frame n o) (e : n.testBit 24 = true) : State.Frame n { s with wrap := x } o :=
  { h with wrap := fun q => absurd (q.symm.trans e) (by decide) }

theorem State.Frame.set_cc {x : Nat} (h : s.Frame n o) (e : n.testBit 25 = true) : State.Frame n { s with cc := x } o :=
  { h with cc := fun q => absurd (q.symm.trans e) (by decide) }

theorem State.Frame.set_free {x : Nat} (h : s.Frame n o) (e : n.testBit 26 = true) : State.Frame n { s with free := x } o :=
  { h with free := fun q => absurd (q.symm.trans e) (by decide) }

theorem State.Frame.ite {c : Prop} [Decidable c] {t : State} (hs : s.Frame n o) (ht : t.Frame n o) :
    (if c then s else t).Frame n o := by
  split
  · exact hs
  · exact ht

theorem State.Frame.foldl {α : Type} {l : List α} {g : State → α → State} (h : s.Frame n o)
    (hg : ∀ s a, s.Frame n o → (g s a).Frame n o) : (l.foldl g s).Frame n o := by
  induction l generalizing s with
  | nil => exact h
  | cons a l ih => exact ih (hg s a h)

theorem State.Frame.foldlFst {α β : Type} {l : List α} {b : β} {g : State × β → α → State × β} (h : s.Frame n o)
    (hg : ∀ x a, x.1.Frame n o → (g x a).1.Frame n o) : (l.foldl g (s, b)).1.Frame n o := by
  have : ∀ (x : State × β), x.1.Frame n o → (l.foldl g x).1.Frame n o := by
    induction l with
    | nil => exact fun x hx => hx
    | cons a l ih => exact fun x hx => ih _ (hg x a hx)
  exact this (s, b) h

theorem State.Frame.foldlSnd {α β : Type} {l : List α} {b : β} {g : β × State → α → β × State} (h : s.Frame n o)
    (hg : ∀ x a, x.2.Frame n o → (g x a).2.Frame n o) : (l.foldl g (b, s)).2.Frame n o := by
  have : ∀ (x : β × State), x.2.Frame n o → (l.foldl g x).2.Frame n o := by
    induction l with
    | nil => exact fun x hx => hx
    | cons a l ih => exact fun x hx => ih _ (hg x a hx)
  exact this (b, s) h

theorem State.Frame.ofPair {β : Type} {x : State × β} {b : β} (h : x.1.Frame n o) (e : x = (s, b)) : s.Frame n o := by
  subst e
  exact h

theorem State.Frame.ofPair2 {β : Type} {x : β × State} {b : β} (h : x.2.Frame n o) (e : x = (b, s)) : s.Frame n o := by
  subst e
  exact h

theorem State.when_frame {b : Bool} {g : State → State} (h : s.Frame n o) (_hn : Covers n 0x0)
    (hg : ∀ s, s.Frame n o → (g s).Frame n o) : (s.when b g).Frame n o := by
  unfold State.when
  split
  · exact hg s h
  · exact h

theorem State.upTo_frame {k : Nat} {g : Nat → State → State} (h : s.Frame n o) (_hn : Covers n 0x0)
    (hg : ∀ i s, s.Frame n o → (g i s).Frame n o) : (s.upTo k g).Frame n o := State.Frame.foldl h fun s i hs => hg i s hs

theorem State.eachChan_frame {g : Nat → State → State} (h : s.Frame n o) (hn : Covers n 0x0)
    (hg : ∀ i s, s.Frame n o → (g i s).Frame n o) : (s.eachChan g).Frame n o := State.upTo_frame h hn hg

end Sys2Proof.Machine
end

