-- ==== Sys2Proof/Laws/FrameA.lean ====
section
/-! SUPPORT. Which parts of State each operation leaves, of Ops, Operands, Responses, Timing, BlockReset, Flags, Resets. -/
namespace Sys2Proof.Machine

set_option linter.all false

variable {n : Nat} {o s : State}

/-! ### Ops -/

theorem State.setFld_frame (h : s.Frame n o) (hn : Covers n 0x2) : ∀ x1 x2 x3 x4, (State.setFld s x1 x2 x3 x4).Frame n o := by
  intros
  unfold State.setFld
  with_reducible repeat' (first | intro _ | assumption | exact Covers.trans hn (by decide) | apply State.Frame.foldl | apply State.Frame.ite | (apply State.Frame.mk' <;> first | exact .inl (Covers.bit hn (by decide)) | exact .inr rfl | assumption | apply State.Frame.ite | apply State.Frame.foldl | refine State.Frame.ofPair ?_ (by assumption) | split) | apply State.Frame.foldlFst | refine State.Frame.ofPair ?_ (by assumption) | split | dsimp only)

theorem State.atTick_frame (h : s.Frame n o) (hn : Covers n 0x4) : ∀ x1 x2 x3 x4, (State.atTick s x1 x2 x3 x4).Frame n o := by
  intros
  unfold State.atTick
  with_reducible repeat' (first | intro _ | assumption | exact Covers.trans hn (by decide) | apply State.Frame.foldl | apply State.Frame.ite | (apply State.Frame.mk' <;> first | exact .inl (Covers.bit hn (by decide)) | exact .inr rfl | assumption | apply State.Frame.ite | apply State.Frame.foldl | refine State.Frame.ofPair ?_ (by assumption) | split) | apply State.Frame.foldlFst | refine State.Frame.ofPair ?_ (by assumption) | split | dsimp only)

theorem State.setFlag_frame (h : s.Frame n o) (hn : Covers n 0x2) : ∀ x1 x2 x3 x4, (State.setFlag s x1 x2 x3 x4).Frame n o := by
  intros
  unfold State.setFlag
  with_reducible repeat' (first | intro _ | assumption | exact Covers.trans hn (by decide) | apply State.setFld_frame | apply State.Frame.foldl | apply State.Frame.ite | (apply State.Frame.mk' <;> first | exact .inl (Covers.bit hn (by decide)) | exact .inr rfl | assumption | apply State.setFld_frame | apply State.Frame.ite | apply State.Frame.foldl | refine State.Frame.ofPair ?_ (by assumption) | split) | apply State.Frame.foldlFst | refine State.Frame.ofPair ?_ (by assumption) | split | dsimp only)

theorem State.bump_frame (h : s.Frame n o) (hn : Covers n 0x2) : ∀ x1 x2 x3 x4, (State.bump s x1 x2 x3 x4).Frame n o := by
  intros
  unfold State.bump
  with_reducible repeat' (first | intro _ | assumption | exact Covers.trans hn (by decide) | apply State.setFld_frame | apply State.Frame.foldl | apply State.Frame.ite | (apply State.Frame.mk' <;> first | exact .inl (Covers.bit hn (by decide)) | exact .inr rfl | assumption | apply State.setFld_frame | apply State.Frame.ite | apply State.Frame.foldl | refine State.Frame.ofPair ?_ (by assumption) | split) | apply State.Frame.foldlFst | refine State.Frame.ofPair ?_ (by assumption) | split | dsimp only)

theorem State.clrFld_frame (h : s.Frame n o) (hn : Covers n 0x2) : ∀ x1 x2 x3, (State.clrFld s x1 x2 x3).Frame n o := by
  intros
  unfold State.clrFld
  with_reducible repeat' (first | intro _ | assumption | exact Covers.trans hn (by decide) | apply State.Frame.foldl | apply State.Frame.ite | (apply State.Frame.mk' <;> first | exact .inl (Covers.bit hn (by decide)) | exact .inr rfl | assumption | apply State.Frame.ite | apply State.Frame.foldl | refine State.Frame.ofPair ?_ (by assumption) | split) | apply State.Frame.foldlFst | refine State.Frame.ofPair ?_ (by assumption) | split | dsimp only)

theorem State.resetRegs_frame (h : s.Frame n o) (hn : Covers n 0x2) : ∀ x1 x2, (State.resetRegs s x1 x2).Frame n o := by
  intros
  unfold State.resetRegs
  with_reducible repeat' (first | intro _ | assumption | exact Covers.trans hn (by decide) | apply State.Frame.foldl | apply State.Frame.ite | (apply State.Frame.mk' <;> first | exact .inl (Covers.bit hn (by decide)) | exact .inr rfl | assumption | apply State.Frame.ite | apply State.Frame.foldl | refine State.Frame.ofPair ?_ (by assumption) | split) | apply State.Frame.foldlFst | refine State.Frame.ofPair ?_ (by assumption) | split | dsimp only)

theorem State.resetBlk_frame (h : s.Frame n o) (hn : Covers n 0x2) : ∀ x1 x2 x3, (State.resetBlk s x1 x2 x3).Frame n o := by
  intros
  unfold State.resetBlk
  with_reducible repeat' (first | intro _ | assumption | exact Covers.trans hn (by decide) | apply State.resetRegs_frame | apply State.Frame.foldl | apply State.Frame.ite | (apply State.Frame.mk' <;> first | exact .inl (Covers.bit hn (by decide)) | exact .inr rfl | assumption | apply State.resetRegs_frame | apply State.Frame.ite | apply State.Frame.foldl | refine State.Frame.ofPair ?_ (by assumption) | split) | apply State.Frame.foldlFst | refine State.Frame.ofPair ?_ (by assumption) | split | dsimp only)

theorem State.setTrk_frame (h : s.Frame n o) (hn : Covers n 0x20) : ∀ x1 x2, (State.setTrk s x1 x2).Frame n o := by
  intros
  unfold State.setTrk
  with_reducible repeat' (first | intro _ | assumption | exact Covers.trans hn (by decide) | apply State.Frame.foldl | apply State.Frame.ite | (apply State.Frame.mk' <;> first | exact .inl (Covers.bit hn (by decide)) | exact .inr rfl | assumption | apply State.Frame.ite | apply State.Frame.foldl | refine State.Frame.ofPair ?_ (by assumption) | split) | apply State.Frame.foldlFst | refine State.Frame.ofPair ?_ (by assumption) | split | dsimp only)

theorem State.modTrk_frame (h : s.Frame n o) (hn : Covers n 0x20) : ∀ x1 x2, (State.modTrk s x1 x2).Frame n o := by
  intros
  unfold State.modTrk
  with_reducible repeat' (first | intro _ | assumption | exact Covers.trans hn (by decide) | apply State.setTrk_frame | apply State.Frame.foldl | apply State.Frame.ite | (apply State.Frame.mk' <;> first | exact .inl (Covers.bit hn (by decide)) | exact .inr rfl | assumption | apply State.setTrk_frame | apply State.Frame.ite | apply State.Frame.foldl | refine State.Frame.ofPair ?_ (by assumption) | split) | apply State.Frame.foldlFst | refine State.Frame.ofPair ?_ (by assumption) | split | dsimp only)

theorem State.modTx_frame (h : s.Frame n o) (hn : Covers n 0x20) : ∀ x1 x2, (State.modTx s x1 x2).Frame n o := by
  intros
  unfold State.modTx
  with_reducible repeat' (first | intro _ | assumption | exact Covers.trans hn (by decide) | apply State.modTrk_frame | apply State.Frame.foldl | apply State.Frame.ite | (apply State.Frame.mk' <;> first | exact .inl (Covers.bit hn (by decide)) | exact .inr rfl | assumption | apply State.modTrk_frame | apply State.Frame.ite | apply State.Frame.foldl | refine State.Frame.ofPair ?_ (by assumption) | split) | apply State.Frame.foldlFst | refine State.Frame.ofPair ?_ (by assumption) | split | dsimp only)

theorem State.modRx_frame (h : s.Frame n o) (hn : Covers n 0x20) : ∀ x1 x2, (State.modRx s x1 x2).Frame n o := by
  intros
  unfold State.modRx
  with_reducible repeat' (first | intro _ | assumption | exact Covers.trans hn (by decide) | apply State.modTrk_frame | apply State.Frame.foldl | apply State.Frame.ite | (apply State.Frame.mk' <;> first | exact .inl (Covers.bit hn (by decide)) | exact .inr rfl | assumption | apply State.modTrk_frame | apply State.Frame.ite | apply State.Frame.foldl | refine State.Frame.ofPair ?_ (by assumption) | split) | apply State.Frame.foldlFst | refine State.Frame.ofPair ?_ (by assumption) | split | dsimp only)

theorem State.modSes_frame (h : s.Frame n o) (hn : Covers n 0x20) : ∀ x1 x2, (State.modSes s x1 x2).Frame n o := by
  intros
  unfold State.modSes
  with_reducible repeat' (first | intro _ | assumption | exact Covers.trans hn (by decide) | apply State.modTrk_frame | apply State.Frame.foldl | apply State.Frame.ite | (apply State.Frame.mk' <;> first | exact .inl (Covers.bit hn (by decide)) | exact .inr rfl | assumption | apply State.modTrk_frame | apply State.Frame.ite | apply State.Frame.foldl | refine State.Frame.ofPair ?_ (by assumption) | split) | apply State.Frame.foldlFst | refine State.Frame.ofPair ?_ (by assumption) | split | dsimp only)

theorem State.modTrn_frame (h : s.Frame n o) (hn : Covers n 0x20) : ∀ x1 x2, (State.modTrn s x1 x2).Frame n o := by
  intros
  unfold State.modTrn
  with_reducible repeat' (first | intro _ | assumption | exact Covers.trans hn (by decide) | apply State.modTrk_frame | apply State.Frame.foldl | apply State.Frame.ite | (apply State.Frame.mk' <;> first | exact .inl (Covers.bit hn (by decide)) | exact .inr rfl | assumption | apply State.modTrk_frame | apply State.Frame.ite | apply State.Frame.foldl | refine State.Frame.ofPair ?_ (by assumption) | split) | apply State.Frame.foldlFst | refine State.Frame.ofPair ?_ (by assumption) | split | dsimp only)

theorem State.freeBelow_frame (h : s.Frame n o) (hn : Covers n 0x4000000) : ∀ x1, (State.freeBelow s x1).2.Frame n o := by
  intros
  unfold State.freeBelow
  with_reducible repeat' (first | intro _ | assumption | exact Covers.trans hn (by decide) | apply State.Frame.foldl | apply State.Frame.ite | (apply State.Frame.mk' <;> first | exact .inl (Covers.bit hn (by decide)) | exact .inr rfl | assumption | apply State.Frame.ite | apply State.Frame.foldl | refine State.Frame.ofPair ?_ (by assumption) | split) | apply State.Frame.foldlFst | apply State.Frame.foldlSnd | refine State.Frame.ofPair ?_ (by assumption) | split | dsimp only)

theorem State.divFree_frame (h : s.Frame n o) (hn : Covers n 0x4000000) : ∀ x1 x2, (State.divFree s x1 x2).2.Frame n o := by
  intros
  unfold State.divFree
  with_reducible repeat' (first | intro _ | assumption | exact Covers.trans hn (by decide) | apply State.Frame.foldl | apply State.Frame.ite | (apply State.Frame.mk' <;> first | exact .inl (Covers.bit hn (by decide)) | exact .inr rfl | assumption | apply State.Frame.ite | apply State.Frame.foldl | refine State.Frame.ofPair ?_ (by assumption) | split) | apply State.Frame.foldlFst | apply State.Frame.foldlSnd | refine State.Frame.ofPair ?_ (by assumption) | split | dsimp only)

/-! ### Operands -/

theorem State.setChan_frame (h : s.Frame n o) (hn : Covers n 0x800) : ∀ x1 x2, (State.setChan s x1 x2).Frame n o := by
  intros
  unfold State.setChan
  with_reducible repeat' (first | intro _ | assumption | exact Covers.trans hn (by decide) | apply State.Frame.foldl | apply State.Frame.ite | (apply State.Frame.mk' <;> first | exact .inl (Covers.bit hn (by decide)) | exact .inr rfl | assumption | apply State.Frame.ite | apply State.Frame.foldl | refine State.Frame.ofPair ?_ (by assumption) | split) | apply State.Frame.foldlFst | refine State.Frame.ofPair ?_ (by assumption) | split | dsimp only)

theorem State.modChan_frame (h : s.Frame n o) (hn : Covers n 0x800) : ∀ x1 x2, (State.modChan s x1 x2).Frame n o := by
  intros
  unfold State.modChan
  with_reducible repeat' (first | intro _ | assumption | exact Covers.trans hn (by decide) | apply State.setChan_frame | apply State.Frame.foldl | apply State.Frame.ite | (apply State.Frame.mk' <;> first | exact .inl (Covers.bit hn (by decide)) | exact .inr rfl | assumption | apply State.setChan_frame | apply State.Frame.ite | apply State.Frame.foldl | refine State.Frame.ofPair ?_ (by assumption) | split) | apply State.Frame.foldlFst | refine State.Frame.ofPair ?_ (by assumption) | split | dsimp only)

theorem State.setTest_frame (h : s.Frame n o) (hn : Covers n 0x802) : ∀ x1 x2, (State.setTest s x1 x2).Frame n o := by
  intros
  unfold State.setTest
  with_reducible repeat' (first | intro _ | assumption | exact Covers.trans hn (by decide) | apply State.setFlag_frame | apply State.modChan_frame | apply State.Frame.foldl | apply State.Frame.ite | (apply State.Frame.mk' <;> first | exact .inl (Covers.bit hn (by decide)) | exact .inr rfl | assumption | apply State.setFlag_frame | apply State.modChan_frame | apply State.Frame.ite | apply State.Frame.foldl | refine State.Frame.ofPair ?_ (by assumption) | split) | apply State.Frame.foldlFst | refine State.Frame.ofPair ?_ (by assumption) | split | dsimp only)

theorem State.modRef_frame (h : s.Frame n o) (hn : Covers n 0x800) : ∀ x1 x2, (State.modRef s x1 x2).Frame n o := by
  intros
  unfold State.modRef
  with_reducible repeat' (first | intro _ | assumption | exact Covers.trans hn (by decide) | apply State.modChan_frame | apply State.Frame.foldl | apply State.Frame.ite | (apply State.Frame.mk' <;> first | exact .inl (Covers.bit hn (by decide)) | exact .inr rfl | assumption | apply State.modChan_frame | apply State.Frame.ite | apply State.Frame.foldl | refine State.Frame.ofPair ?_ (by assumption) | split) | apply State.Frame.foldlFst | refine State.Frame.ofPair ?_ (by assumption) | split | dsimp only)

theorem State.modBund_frame (h : s.Frame n o) (hn : Covers n 0x2000) : ∀ x1 x2, (State.modBund s x1 x2).Frame n o := by
  intros
  unfold State.modBund
  with_reducible repeat' (first | intro _ | assumption | exact Covers.trans hn (by decide) | apply State.Frame.foldl | apply State.Frame.ite | (apply State.Frame.mk' <;> first | exact .inl (Covers.bit hn (by decide)) | exact .inr rfl | assumption | apply State.Frame.ite | apply State.Frame.foldl | refine State.Frame.ofPair ?_ (by assumption) | split) | apply State.Frame.foldlFst | refine State.Frame.ofPair ?_ (by assumption) | split | dsimp only)

theorem State.setCol_frame (h : s.Frame n o) (hn : Covers n 0x2) : ∀ x1 x2 x3 x4, (State.setCol s x1 x2 x3 x4).Frame n o := by
  intros
  unfold State.setCol
  with_reducible repeat' (first | intro _ | assumption | exact Covers.trans hn (by decide) | apply State.setFld_frame | apply State.Frame.foldl | apply State.Frame.ite | (apply State.Frame.mk' <;> first | exact .inl (Covers.bit hn (by decide)) | exact .inr rfl | assumption | apply State.setFld_frame | apply State.Frame.ite | apply State.Frame.foldl | refine State.Frame.ofPair ?_ (by assumption) | split) | apply State.Frame.foldlFst | refine State.Frame.ofPair ?_ (by assumption) | split | dsimp only)

theorem State.setCal_frame (h : s.Frame n o) (hn : Covers n 0x2) : ∀ x1 x2 x3 x4, (State.setCal s x1 x2 x3 x4).Frame n o := by
  intros
  unfold State.setCal
  with_reducible repeat' (first | intro _ | assumption | exact Covers.trans hn (by decide) | apply State.setFld_frame | apply State.setCol_frame | apply State.Frame.foldl | apply State.Frame.ite | (apply State.Frame.mk' <;> first | exact .inl (Covers.bit hn (by decide)) | exact .inr rfl | assumption | apply State.setFld_frame | apply State.setCol_frame | apply State.Frame.ite | apply State.Frame.foldl | refine State.Frame.ofPair ?_ (by assumption) | split) | apply State.Frame.foldlFst | refine State.Frame.ofPair ?_ (by assumption) | split | dsimp only)

theorem State.setVByte_frame (h : s.Frame n o) (hn : Covers n 0x8000) : ∀ x1 x2, (State.setVByte s x1 x2).Frame n o := by
  intros
  unfold State.setVByte
  with_reducible repeat' (first | intro _ | assumption | exact Covers.trans hn (by decide) | apply State.Frame.foldl | apply State.Frame.ite | (apply State.Frame.mk' <;> first | exact .inl (Covers.bit hn (by decide)) | exact .inr rfl | assumption | apply State.Frame.ite | apply State.Frame.foldl | refine State.Frame.ofPair ?_ (by assumption) | split) | apply State.Frame.foldlFst | refine State.Frame.ofPair ?_ (by assumption) | split | dsimp only)

theorem State.setVbit_frame (h : s.Frame n o) (hn : Covers n 0x8000) : ∀ x1, (State.setVbit s x1).Frame n o := by
  intros
  unfold State.setVbit
  with_reducible repeat' (first | intro _ | assumption | exact Covers.trans hn (by decide) | apply State.setVByte_frame | apply State.Frame.foldl | apply State.Frame.ite | (apply State.Frame.mk' <;> first | exact .inl (Covers.bit hn (by decide)) | exact .inr rfl | assumption | apply State.setVByte_frame | apply State.Frame.ite | apply State.Frame.foldl | refine State.Frame.ofPair ?_ (by assumption) | split) | apply State.Frame.foldlFst | refine State.Frame.ofPair ?_ (by assumption) | split | dsimp only)

theorem State.setDomain_frame (h : s.Frame n o) (hn : Covers n 0x2) : ∀ x1 x2, (State.setDomain s x1 x2).Frame n o := by
  intros
  unfold State.setDomain
  with_reducible repeat' (first | intro _ | assumption | exact Covers.trans hn (by decide) | apply State.setFld_frame | apply State.Frame.foldl | apply State.Frame.ite | (apply State.Frame.mk' <;> first | exact .inl (Covers.bit hn (by decide)) | exact .inr rfl | assumption | apply State.setFld_frame | apply State.Frame.ite | apply State.Frame.foldl | refine State.Frame.ofPair ?_ (by assumption) | split) | apply State.Frame.foldlFst | refine State.Frame.ofPair ?_ (by assumption) | split | dsimp only)

/-! ### Responses -/

theorem State.modTag_frame (h : s.Frame n o) (hn : Covers n 0x40) : ∀ x1 x2, (State.modTag s x1 x2).Frame n o := by
  intros
  unfold State.modTag
  with_reducible repeat' (first | intro _ | assumption | exact Covers.trans hn (by decide) | apply State.Frame.foldl | apply State.Frame.ite | (apply State.Frame.mk' <;> first | exact .inl (Covers.bit hn (by decide)) | exact .inr rfl | assumption | apply State.Frame.ite | apply State.Frame.foldl | refine State.Frame.ofPair ?_ (by assumption) | split) | apply State.Frame.foldlFst | refine State.Frame.ofPair ?_ (by assumption) | split | dsimp only)

theorem State.dropTag_frame (h : s.Frame n o) (hn : Covers n 0x40) : ∀ x1, (State.dropTag s x1).Frame n o := by
  intros
  unfold State.dropTag
  with_reducible repeat' (first | intro _ | assumption | exact Covers.trans hn (by decide) | apply State.Frame.foldl | apply State.Frame.ite | (apply State.Frame.mk' <;> first | exact .inl (Covers.bit hn (by decide)) | exact .inr rfl | assumption | apply State.Frame.ite | apply State.Frame.foldl | refine State.Frame.ofPair ?_ (by assumption) | split) | apply State.Frame.foldlFst | refine State.Frame.ofPair ?_ (by assumption) | split | dsimp only)

theorem State.effected_frame (h : s.Frame n o) (hn : Covers n 0x40) : ∀ x1, (State.effected s x1).Frame n o := by
  intros
  unfold State.effected
  with_reducible repeat' (first | intro _ | assumption | exact Covers.trans hn (by decide) | apply State.modTag_frame | apply State.Frame.foldl | apply State.Frame.ite | (apply State.Frame.mk' <;> first | exact .inl (Covers.bit hn (by decide)) | exact .inr rfl | assumption | apply State.modTag_frame | apply State.Frame.ite | apply State.Frame.foldl | refine State.Frame.ofPair ?_ (by assumption) | split) | apply State.Frame.foldlFst | refine State.Frame.ofPair ?_ (by assumption) | split | dsimp only)

theorem State.respond_frame (h : s.Frame n o) (hn : Covers n 0x62) : ∀ x1 x2 x3 x4 x5 x6 x7, (State.respond s x1 x2 x3 x4 x5 x6 x7).Frame n o := by
  intros
  unfold State.respond
  with_reducible repeat' (first | intro _ | assumption | exact Covers.trans hn (by decide) | apply State.dropTag_frame | apply State.bump_frame | apply State.modTx_frame | apply State.effected_frame | apply State.Frame.foldl | apply State.Frame.ite | (apply State.Frame.mk' <;> first | exact .inl (Covers.bit hn (by decide)) | exact .inr rfl | assumption | apply State.dropTag_frame | apply State.bump_frame | apply State.modTx_frame | apply State.effected_frame | apply State.Frame.ite | apply State.Frame.foldl | refine State.Frame.ofPair ?_ (by assumption) | split) | apply State.Frame.foldlFst | refine State.Frame.ofPair ?_ (by assumption) | split | dsimp only)

/-! ### Timing -/

theorem State.launchAt_frame (h : s.Frame n o) (hn : Covers n 0x802) : ∀ x1 x2 x3, (State.launchAt s x1 x2 x3).Frame n o := by
  intros
  unfold State.launchAt
  with_reducible repeat' (first | intro _ | assumption | exact Covers.trans hn (by decide) | apply State.bump_frame | apply State.modChan_frame | apply State.Frame.foldl | apply State.Frame.ite | (apply State.Frame.mk' <;> first | exact .inl (Covers.bit hn (by decide)) | exact .inr rfl | assumption | apply State.bump_frame | apply State.modChan_frame | apply State.Frame.ite | apply State.Frame.foldl | refine State.Frame.ofPair ?_ (by assumption) | split) | apply State.Frame.foldlFst | refine State.Frame.ofPair ?_ (by assumption) | split | dsimp only)

theorem State.launch_frame (h : s.Frame n o) (hn : Covers n 0x802) : ∀ x1 x2, (State.launch s x1 x2).Frame n o := by
  intros
  unfold State.launch
  with_reducible repeat' (first | intro _ | assumption | exact Covers.trans hn (by decide) | apply State.launchAt_frame | apply State.Frame.foldl | apply State.Frame.ite | (apply State.Frame.mk' <;> first | exact .inl (Covers.bit hn (by decide)) | exact .inr rfl | assumption | apply State.launchAt_frame | apply State.Frame.ite | apply State.Frame.foldl | refine State.Frame.ofPair ?_ (by assumption) | split) | apply State.Frame.foldlFst | refine State.Frame.ofPair ?_ (by assumption) | split | dsimp only)

theorem State.closeBank_frame (h : s.Frame n o) (hn : Covers n 0x802) : ∀ x1 x2, (State.closeBank s x1 x2).Frame n o := by
  intros
  unfold State.closeBank
  with_reducible repeat' (first | intro _ | assumption | exact Covers.trans hn (by decide) | apply State.modChan_frame | apply State.launchAt_frame | apply State.Frame.foldl | apply State.Frame.ite | (apply State.Frame.mk' <;> first | exact .inl (Covers.bit hn (by decide)) | exact .inr rfl | assumption | apply State.modChan_frame | apply State.launchAt_frame | apply State.Frame.ite | apply State.Frame.foldl | refine State.Frame.ofPair ?_ (by assumption) | split) | apply State.Frame.foldlFst | refine State.Frame.ofPair ?_ (by assumption) | split | dsimp only)

theorem State.refCmd_frame (h : s.Frame n o) (hn : Covers n 0x802) : ∀ x1 x2 x3 x4, (State.refCmd s x1 x2 x3 x4).1.Frame n o := by
  intros
  unfold State.refCmd
  with_reducible repeat' (first | intro _ | assumption | exact Covers.trans hn (by decide) | apply State.closeBank_frame | apply State.modChan_frame | apply State.launchAt_frame | apply State.Frame.foldl | apply State.Frame.ite | (apply State.Frame.mk' <;> first | exact .inl (Covers.bit hn (by decide)) | exact .inr rfl | assumption | apply State.closeBank_frame | apply State.modChan_frame | apply State.launchAt_frame | apply State.Frame.ite | apply State.Frame.foldl | refine State.Frame.ofPair ?_ (by assumption) | split) | apply State.Frame.foldlFst | refine State.Frame.ofPair ?_ (by assumption) | split | dsimp only)

theorem State.preAll_frame (h : s.Frame n o) (hn : Covers n 0x802) : ∀ x1, (State.preAll s x1).Frame n o := by
  intros
  unfold State.preAll
  with_reducible repeat' (first | intro _ | assumption | exact Covers.trans hn (by decide) | apply State.modChan_frame | apply State.launchAt_frame | apply State.Frame.foldl | apply State.Frame.ite | (apply State.Frame.mk' <;> first | exact .inl (Covers.bit hn (by decide)) | exact .inr rfl | assumption | apply State.modChan_frame | apply State.launchAt_frame | apply State.Frame.ite | apply State.Frame.foldl | refine State.Frame.ofPair ?_ (by assumption) | split) | apply State.Frame.foldlFst | refine State.Frame.ofPair ?_ (by assumption) | split | dsimp only)

theorem State.sendSrx_frame (h : s.Frame n o) (hn : Covers n 0x802) : ∀ x1 x2, (State.sendSrx s x1 x2).Frame n o := by
  intros
  unfold State.sendSrx
  with_reducible repeat' (first | intro _ | assumption | exact Covers.trans hn (by decide) | apply State.modRef_frame | apply State.launch_frame | apply State.Frame.foldl | apply State.Frame.ite | (apply State.Frame.mk' <;> first | exact .inl (Covers.bit hn (by decide)) | exact .inr rfl | assumption | apply State.modRef_frame | apply State.launch_frame | apply State.Frame.ite | apply State.Frame.foldl | refine State.Frame.ofPair ?_ (by assumption) | split) | apply State.Frame.foldlFst | refine State.Frame.ofPair ?_ (by assumption) | split | dsimp only)

/-! ### BlockReset -/

theorem State.beginRecovery_frame (h : s.Frame n o) (hn : Covers n 0x802) : ∀ x1, (State.beginRecovery s x1).Frame n o := by
  intros
  unfold State.beginRecovery
  with_reducible repeat' (first | intro _ | assumption | exact Covers.trans hn (by decide) | apply State.setFld_frame | apply State.modRef_frame | apply State.Frame.foldl | apply State.Frame.ite | (apply State.Frame.mk' <;> first | exact .inl (Covers.bit hn (by decide)) | exact .inr rfl | assumption | apply State.setFld_frame | apply State.modRef_frame | apply State.Frame.ite | apply State.Frame.foldl | refine State.Frame.ofPair ?_ (by assumption) | split) | apply State.Frame.foldlFst | refine State.Frame.ofPair ?_ (by assumption) | split | dsimp only)

theorem State.effectAll_frame (h : s.Frame n o) (hn : Covers n 0x40) : ∀ x1, (State.effectAll s x1).Frame n o := by
  intros
  unfold State.effectAll
  with_reducible repeat' (first | intro _ | assumption | exact Covers.trans hn (by decide) | apply State.effected_frame | apply State.Frame.foldl | apply State.Frame.ite | (apply State.Frame.mk' <;> first | exact .inl (Covers.bit hn (by decide)) | exact .inr rfl | assumption | apply State.effected_frame | apply State.Frame.ite | apply State.Frame.foldl | refine State.Frame.ofPair ?_ (by assumption) | split) | apply State.Frame.foldlFst | refine State.Frame.ofPair ?_ (by assumption) | split | dsimp only)

theorem State.abortChan_frame (h : s.Frame n o) (hn : Covers n 0x1840) : ∀ x1, (State.abortChan s x1).Frame n o := by
  intros
  unfold State.abortChan
  with_reducible repeat' (first | intro _ | assumption | exact Covers.trans hn (by decide) | apply State.effectAll_frame | apply State.modChan_frame | apply State.Frame.foldl | apply State.Frame.ite | (apply State.Frame.mk' <;> first | exact .inl (Covers.bit hn (by decide)) | exact .inr rfl | assumption | apply State.effectAll_frame | apply State.modChan_frame | apply State.Frame.ite | apply State.Frame.foldl | refine State.Frame.ofPair ?_ (by assumption) | split) | apply State.Frame.foldlFst | refine State.Frame.ofPair ?_ (by assumption) | split | dsimp only)

theorem State.endChTest_frame (h : s.Frame n o) (hn : Covers n 0x20802) : ∀ x1, (State.endChTest s x1).Frame n o := by
  intros
  unfold State.endChTest
  with_reducible repeat' (first | intro _ | assumption | exact Covers.trans hn (by decide) | apply State.setFld_frame | apply State.setTest_frame | apply State.Frame.foldl | apply State.Frame.ite | (apply State.Frame.mk' <;> first | exact .inl (Covers.bit hn (by decide)) | exact .inr rfl | assumption | apply State.setFld_frame | apply State.setTest_frame | apply State.Frame.ite | apply State.Frame.foldl | refine State.Frame.ofPair ?_ (by assumption) | split) | apply State.Frame.foldlFst | refine State.Frame.ofPair ?_ (by assumption) | split | dsimp only)

theorem State.resetChan_frame (h : s.Frame n o) (hn : Covers n 0x21842) : ∀ x1, (State.resetChan s x1).Frame n o := by
  intros
  unfold State.resetChan
  with_reducible repeat' (first | intro _ | assumption | exact Covers.trans hn (by decide) | apply State.endChTest_frame | apply State.resetBlk_frame | apply State.abortChan_frame | apply State.setFld_frame | apply State.beginRecovery_frame | apply State.preAll_frame | apply State.modChan_frame | apply State.Frame.foldl | apply State.Frame.ite | (apply State.Frame.mk' <;> first | exact .inl (Covers.bit hn (by decide)) | exact .inr rfl | assumption | apply State.endChTest_frame | apply State.resetBlk_frame | apply State.abortChan_frame | apply State.setFld_frame | apply State.beginRecovery_frame | apply State.preAll_frame | apply State.modChan_frame | apply State.Frame.ite | apply State.Frame.foldl | refine State.Frame.ofPair ?_ (by assumption) | split) | apply State.Frame.foldlFst | refine State.Frame.ofPair ?_ (by assumption) | split | dsimp only)

theorem State.startTraining_frame (h : s.Frame n o) (hn : Covers n 0x2002) : ∀ x1, (State.startTraining s x1).Frame n o := by
  intros
  unfold State.startTraining
  with_reducible repeat' (first | intro _ | assumption | exact Covers.trans hn (by decide) | apply State.setFld_frame | apply State.Frame.foldl | apply State.Frame.ite | (apply State.Frame.mk' <;> first | exact .inl (Covers.bit hn (by decide)) | exact .inr rfl | assumption | apply State.setFld_frame | apply State.Frame.ite | apply State.Frame.foldl | refine State.Frame.ofPair ?_ (by assumption) | split) | apply State.Frame.foldlFst | refine State.Frame.ofPair ?_ (by assumption) | split | dsimp only)

theorem State.trainQuad_frame (h : s.Frame n o) (hn : Covers n 0x2002) : ∀ x1 x2, (State.trainQuad s x1 x2).Frame n o := by
  intros
  unfold State.trainQuad
  with_reducible repeat' (first | intro _ | assumption | exact Covers.trans hn (by decide) | apply State.startTraining_frame | apply State.Frame.foldl | apply State.Frame.ite | (apply State.Frame.mk' <;> first | exact .inl (Covers.bit hn (by decide)) | exact .inr rfl | assumption | apply State.startTraining_frame | apply State.Frame.ite | apply State.Frame.foldl | refine State.Frame.ofPair ?_ (by assumption) | split) | apply State.Frame.foldlFst | refine State.Frame.ofPair ?_ (by assumption) | split | dsimp only)

theorem State.blockReset_frame (h : s.Frame n o) (hn : Covers n 0x27842) : ∀ x1 x2, (State.blockReset s x1 x2).Frame n o := by
  intros
  unfold State.blockReset
  with_reducible repeat' (first | intro _ | assumption | exact Covers.trans hn (by decide) | apply State.resetChan_frame | apply State.trainQuad_frame | apply State.resetBlk_frame | apply State.upTo_frame | apply State.modBund_frame | apply State.Frame.foldl | apply State.Frame.ite | (apply State.Frame.mk' <;> first | exact .inl (Covers.bit hn (by decide)) | exact .inr rfl | assumption | apply State.resetChan_frame | apply State.trainQuad_frame | apply State.resetBlk_frame | apply State.upTo_frame | apply State.modBund_frame | apply State.Frame.ite | apply State.Frame.foldl | refine State.Frame.ofPair ?_ (by assumption) | split) | apply State.Frame.foldlFst | refine State.Frame.ofPair ?_ (by assumption) | split | dsimp only)

/-! ### Flags -/

theorem State.setPend_frame (h : s.Frame n o) (hn : Covers n 0x2) : ∀ x1, (State.setPend s x1).Frame n o := by
  intros
  unfold State.setPend
  with_reducible repeat' (first | intro _ | assumption | exact Covers.trans hn (by decide) | apply State.setFld_frame | apply State.Frame.foldl | apply State.Frame.ite | (apply State.Frame.mk' <;> first | exact .inl (Covers.bit hn (by decide)) | exact .inr rfl | assumption | apply State.setFld_frame | apply State.Frame.ite | apply State.Frame.foldl | refine State.Frame.ofPair ?_ (by assumption) | split) | apply State.Frame.foldlFst | refine State.Frame.ofPair ?_ (by assumption) | split | dsimp only)

theorem State.updErr_frame (h : s.Frame n o) (hn : Covers n 0x8) : (State.updErr s).Frame n o := by
  unfold State.updErr
  with_reducible repeat' (first | intro _ | assumption | exact Covers.trans hn (by decide) | apply State.Frame.foldl | apply State.Frame.ite | (apply State.Frame.mk' <;> first | exact .inl (Covers.bit hn (by decide)) | exact .inr rfl | assumption | apply State.Frame.ite | apply State.Frame.foldl | refine State.Frame.ofPair ?_ (by assumption) | split) | apply State.Frame.foldlFst | refine State.Frame.ofPair ?_ (by assumption) | split | dsimp only)

theorem State.writeCap_frame (h : s.Frame n o) (hn : Covers n 0x2) : ∀ x1 x2 x3 x4, (State.writeCap s x1 x2 x3 x4).Frame n o := by
  intros
  unfold State.writeCap
  with_reducible repeat' (first | intro _ | assumption | exact Covers.trans hn (by decide) | apply State.setFld_frame | apply State.setFlag_frame | apply State.Frame.foldl | apply State.Frame.ite | (apply State.Frame.mk' <;> first | exact .inl (Covers.bit hn (by decide)) | exact .inr rfl | assumption | apply State.setFld_frame | apply State.setFlag_frame | apply State.Frame.ite | apply State.Frame.foldl | refine State.Frame.ofPair ?_ (by assumption) | split) | apply State.Frame.foldlFst | refine State.Frame.ofPair ?_ (by assumption) | split | dsimp only)

theorem State.capture_frame (h : s.Frame n o) (hn : Covers n 0xa) : ∀ x1 x2 x3 x4, (State.capture s x1 x2 x3 x4).Frame n o := by
  intros
  unfold State.capture
  with_reducible repeat' (first | intro _ | assumption | exact Covers.trans hn (by decide) | apply State.writeCap_frame | apply State.bump_frame | apply State.Frame.foldl | apply State.Frame.ite | (apply State.Frame.mk' <;> first | exact .inl (Covers.bit hn (by decide)) | exact .inr rfl | assumption | apply State.writeCap_frame | apply State.bump_frame | apply State.Frame.ite | apply State.Frame.foldl | refine State.Frame.ofPair ?_ (by assumption) | split) | apply State.Frame.foldlFst | refine State.Frame.ofPair ?_ (by assumption) | split | dsimp only)

theorem State.clearCap_frame (h : s.Frame n o) (hn : Covers n 0xa) : ∀ x1, (State.clearCap s x1).Frame n o := by
  intros
  unfold State.clearCap
  with_reducible repeat' (first | intro _ | assumption | exact Covers.trans hn (by decide) | apply State.setFld_frame | apply State.Frame.foldl | apply State.Frame.ite | (apply State.Frame.mk' <;> first | exact .inl (Covers.bit hn (by decide)) | exact .inr rfl | assumption | apply State.setFld_frame | apply State.Frame.ite | apply State.Frame.foldl | refine State.Frame.ofPair ?_ (by assumption) | split) | apply State.Frame.foldlFst | refine State.Frame.ofPair ?_ (by assumption) | split | dsimp only)

theorem State.queueUrgent_frame (h : s.Frame n o) (hn : Covers n 0xa) : ∀ x1, (State.queueUrgent s x1).Frame n o := by
  intros
  unfold State.queueUrgent
  with_reducible repeat' (first | intro _ | assumption | exact Covers.trans hn (by decide) | apply State.bump_frame | apply State.Frame.foldl | apply State.Frame.ite | (apply State.Frame.mk' <;> first | exact .inl (Covers.bit hn (by decide)) | exact .inr rfl | assumption | apply State.bump_frame | apply State.Frame.ite | apply State.Frame.foldl | refine State.Frame.ofPair ?_ (by assumption) | split) | apply State.Frame.foldlFst | refine State.Frame.ofPair ?_ (by assumption) | split | dsimp only)

theorem State.enqueueMask_frame (h : s.Frame n o) (hn : Covers n 0xa) : ∀ x1, (State.enqueueMask s x1).Frame n o := by
  intros
  unfold State.enqueueMask
  with_reducible repeat' (first | intro _ | assumption | exact Covers.trans hn (by decide) | apply State.bump_frame | apply State.Frame.foldl | apply State.Frame.ite | (apply State.Frame.mk' <;> first | exact .inl (Covers.bit hn (by decide)) | exact .inr rfl | assumption | apply State.bump_frame | apply State.Frame.ite | apply State.Frame.foldl | refine State.Frame.ofPair ?_ (by assumption) | split) | apply State.Frame.foldlFst | refine State.Frame.ofPair ?_ (by assumption) | split | dsimp only)

theorem State.queueMask_frame (h : s.Frame n o) (hn : Covers n 0xa) : ∀ x1, (State.queueMask s x1).Frame n o := by
  intros
  unfold State.queueMask
  with_reducible repeat' (first | intro _ | assumption | exact Covers.trans hn (by decide) | apply State.enqueueMask_frame | apply State.Frame.foldl | apply State.Frame.ite | (apply State.Frame.mk' <;> first | exact .inl (Covers.bit hn (by decide)) | exact .inr rfl | assumption | apply State.enqueueMask_frame | apply State.Frame.ite | apply State.Frame.foldl | refine State.Frame.ofPair ?_ (by assumption) | split) | apply State.Frame.foldlFst | refine State.Frame.ofPair ?_ (by assumption) | split | dsimp only)

theorem State.countBrs_frame (h : s.Frame n o) (hn : Covers n 0x8) : ∀ x1 x2, (State.countBrs s x1 x2).Frame n o := by
  intros
  unfold State.countBrs
  with_reducible repeat' (first | intro _ | assumption | exact Covers.trans hn (by decide) | apply State.Frame.foldl | apply State.Frame.ite | (apply State.Frame.mk' <;> first | exact .inl (Covers.bit hn (by decide)) | exact .inr rfl | assumption | apply State.Frame.ite | apply State.Frame.foldl | refine State.Frame.ofPair ?_ (by assumption) | split) | apply State.Frame.foldlFst | refine State.Frame.ofPair ?_ (by assumption) | split | dsimp only)

theorem State.queueBulletin_frame (h : s.Frame n o) (hn : Covers n 0xa) : ∀ x1 x2 x3, (State.queueBulletin s x1 x2 x3).Frame n o := by
  intros
  unfold State.queueBulletin
  with_reducible repeat' (first | intro _ | assumption | exact Covers.trans hn (by decide) | apply State.queueUrgent_frame | apply State.queueMask_frame | apply State.Frame.foldl | apply State.Frame.ite | (apply State.Frame.mk' <;> first | exact .inl (Covers.bit hn (by decide)) | exact .inr rfl | assumption | apply State.queueUrgent_frame | apply State.queueMask_frame | apply State.Frame.ite | apply State.Frame.foldl | refine State.Frame.ofPair ?_ (by assumption) | split) | apply State.Frame.foldlFst | refine State.Frame.ofPair ?_ (by assumption) | split | dsimp only)

theorem State.reactBrs_frame (h : s.Frame n o) (hn : Covers n 0x2784a) : ∀ x1 x2, (State.reactBrs s x1 x2).Frame n o := by
  intros
  unfold State.reactBrs
  with_reducible repeat' (first | intro _ | assumption | exact Covers.trans hn (by decide) | apply State.blockReset_frame | apply State.countBrs_frame | apply State.Frame.foldl | apply State.Frame.ite | (apply State.Frame.mk' <;> first | exact .inl (Covers.bit hn (by decide)) | exact .inr rfl | assumption | apply State.blockReset_frame | apply State.countBrs_frame | apply State.Frame.ite | apply State.Frame.foldl | refine State.Frame.ofPair ?_ (by assumption) | split) | apply State.Frame.foldlFst | refine State.Frame.ofPair ?_ (by assumption) | split | dsimp only)

theorem State.reactCrs_frame (h : s.Frame n o) (hn : Covers n 0x8) : ∀ x1, (State.reactCrs s x1).Frame n o := by
  intros
  unfold State.reactCrs
  with_reducible repeat' (first | intro _ | assumption | exact Covers.trans hn (by decide) | apply State.Frame.foldl | apply State.Frame.ite | (apply State.Frame.mk' <;> first | exact .inl (Covers.bit hn (by decide)) | exact .inr rfl | assumption | apply State.Frame.ite | apply State.Frame.foldl | refine State.Frame.ofPair ?_ (by assumption) | split) | apply State.Frame.foldlFst | refine State.Frame.ofPair ?_ (by assumption) | split | dsimp only)

theorem State.raiseCore_frame (h : s.Frame n o) (hn : Covers n 0x2784a) : ∀ x1 x2 x3, (State.raiseCore s x1 x2 x3).Frame n o := by
  intros
  unfold State.raiseCore
  with_reducible repeat' (first | intro _ | assumption | exact Covers.trans hn (by decide) | apply State.capture_frame | apply State.bump_frame | apply State.setPend_frame | apply State.updErr_frame | apply State.queueBulletin_frame | apply State.reactBrs_frame | apply State.reactCrs_frame | apply State.Frame.foldl | apply State.Frame.ite | (apply State.Frame.mk' <;> first | exact .inl (Covers.bit hn (by decide)) | exact .inr rfl | assumption | apply State.capture_frame | apply State.bump_frame | apply State.setPend_frame | apply State.updErr_frame | apply State.queueBulletin_frame | apply State.reactBrs_frame | apply State.reactCrs_frame | apply State.Frame.ite | apply State.Frame.foldl | refine State.Frame.ofPair ?_ (by assumption) | split) | apply State.Frame.foldlFst | refine State.Frame.ofPair ?_ (by assumption) | split | dsimp only)

theorem State.raise_frame (h : s.Frame n o) (hn : Covers n 0x82784a) : ∀ x1 x2 x3, (State.raise s x1 x2 x3).Frame n o := by
  intros
  unfold State.raise
  with_reducible repeat' (first | intro _ | assumption | exact Covers.trans hn (by decide) | apply State.raiseCore_frame | apply State.bump_frame | apply State.Frame.foldl | apply State.Frame.ite | (apply State.Frame.mk' <;> first | exact .inl (Covers.bit hn (by decide)) | exact .inr rfl | assumption | apply State.raiseCore_frame | apply State.bump_frame | apply State.Frame.ite | apply State.Frame.foldl | refine State.Frame.ofPair ?_ (by assumption) | split) | apply State.Frame.foldlFst | refine State.Frame.ofPair ?_ (by assumption) | split | dsimp only)

/-! ### Resets -/

theorem State.ackedFills_frame (h : s.Frame n o) (hn : Covers n 0x8000) : (State.ackedFills s).Frame n o := by
  unfold State.ackedFills
  with_reducible repeat' (first | intro _ | assumption | exact Covers.trans hn (by decide) | apply State.setVbit_frame | apply State.Frame.foldl | apply State.Frame.ite | (apply State.Frame.mk' <;> first | exact .inl (Covers.bit hn (by decide)) | exact .inr rfl | assumption | apply State.setVbit_frame | apply State.Frame.ite | apply State.Frame.foldl | refine State.Frame.ofPair ?_ (by assumption) | split) | apply State.Frame.foldlFst | refine State.Frame.ofPair ?_ (by assumption) | split | dsimp only)

theorem State.deviceReset_frame (h : s.Frame n o) (hn : Covers n 0x3fffd7e) : ∀ x1 x2, (State.deviceReset s x1 x2).Frame n o := by
  intros
  unfold State.deviceReset
  with_reducible repeat' (first | intro _ | assumption | exact Covers.trans hn (by decide) | apply State.ackedFills_frame | apply State.resetRegs_frame | apply State.updErr_frame | apply State.setFld_frame | apply State.Frame.foldl | apply State.Frame.ite | (apply State.Frame.mk' <;> first | exact .inl (Covers.bit hn (by decide)) | exact .inr rfl | assumption | apply State.ackedFills_frame | apply State.resetRegs_frame | apply State.updErr_frame | apply State.setFld_frame | apply State.Frame.ite | apply State.Frame.foldl | refine State.Frame.ofPair ?_ (by assumption) | split) | apply State.Frame.foldlFst | refine State.Frame.ofPair ?_ (by assumption) | split | dsimp only)

theorem State.chipReset_frame (h : s.Frame n o) (hn : Covers n 0x3fffd7e) : ∀ x1, (State.chipReset s x1).Frame n o := by
  intros
  unfold State.chipReset
  with_reducible repeat' (first | intro _ | assumption | exact Covers.trans hn (by decide) | apply State.deviceReset_frame | apply State.Frame.foldl | apply State.Frame.ite | (apply State.Frame.mk' <;> first | exact .inl (Covers.bit hn (by decide)) | exact .inr rfl | assumption | apply State.deviceReset_frame | apply State.Frame.ite | apply State.Frame.foldl | refine State.Frame.ofPair ?_ (by assumption) | split) | apply State.Frame.foldlFst | refine State.Frame.ofPair ?_ (by assumption) | split | dsimp only)

theorem State.porReset_frame (h : s.Frame n o) (hn : Covers n 0x3fffffe) : (State.porReset s).Frame n o := by
  unfold State.porReset
  with_reducible repeat' (first | intro _ | assumption | exact Covers.trans hn (by decide) | apply State.Frame.foldl | apply State.Frame.ite | (apply State.Frame.mk' <;> first | exact .inl (Covers.bit hn (by decide)) | exact .inr rfl | assumption | apply State.Frame.ite | apply State.Frame.foldl | refine State.Frame.ofPair ?_ (by assumption) | split) | apply State.Frame.foldlFst | refine State.Frame.ofPair ?_ (by assumption) | split | dsimp only)

theorem State.beginStart_frame (h : s.Frame n o) (hn : Covers n 0x200402) : (State.beginStart s).Frame n o := by
  unfold State.beginStart
  with_reducible repeat' (first | intro _ | assumption | exact Covers.trans hn (by decide) | apply State.setFlag_frame | apply State.Frame.foldl | apply State.Frame.ite | (apply State.Frame.mk' <;> first | exact .inl (Covers.bit hn (by decide)) | exact .inr rfl | assumption | apply State.setFlag_frame | apply State.Frame.ite | apply State.Frame.foldl | refine State.Frame.ofPair ?_ (by assumption) | split) | apply State.Frame.foldlFst | refine State.Frame.ofPair ?_ (by assumption) | split | dsimp only)

end Sys2Proof.Machine
end

