-- ==== Sys2Proof/Laws/FrameB.lean ====
section
/-! SUPPORT. Which parts of State each operation leaves, of Lanes, Packets, Queue. -/
namespace Sys2Proof.Machine

set_option linter.all false

variable {n : Nat} {o s : State}

/-! ### Lanes -/

theorem State.beginAttempt_frame (h : s.Frame n o) (hn : Covers n 0x22) : ∀ x1 x2, (State.beginAttempt s x1 x2).Frame n o := by
  intros
  unfold State.beginAttempt
  with_reducible repeat' (first | intro _ | assumption | exact Covers.trans hn (by decide) | apply State.setFld_frame | apply State.upTo_frame | apply State.clrFld_frame | apply State.when_frame | apply State.modTrk_frame | apply State.Frame.foldl | apply State.Frame.ite | (apply State.Frame.mk' <;> first | exact .inl (Covers.bit hn (by decide)) | exact .inr rfl | assumption | apply State.setFld_frame | apply State.upTo_frame | apply State.clrFld_frame | apply State.when_frame | apply State.modTrk_frame | apply State.Frame.ite | apply State.Frame.foldl | refine State.Frame.ofPair ?_ (by assumption) | split) | apply State.Frame.foldlFst | refine State.Frame.ofPair ?_ (by assumption) | split | dsimp only)

theorem State.retrain_frame (h : s.Frame n o) (hn : Covers n 0x22) : ∀ x1 x2, (State.retrain s x1 x2).Frame n o := by
  intros
  unfold State.retrain
  with_reducible repeat' (first | intro _ | assumption | exact Covers.trans hn (by decide) | apply State.resetBlk_frame | apply State.setFld_frame | apply State.modTrk_frame | apply State.beginAttempt_frame | apply State.Frame.foldl | apply State.Frame.ite | (apply State.Frame.mk' <;> first | exact .inl (Covers.bit hn (by decide)) | exact .inr rfl | assumption | apply State.resetBlk_frame | apply State.setFld_frame | apply State.modTrk_frame | apply State.beginAttempt_frame | apply State.Frame.ite | apply State.Frame.foldl | refine State.Frame.ofPair ?_ (by assumption) | split) | apply State.Frame.foldlFst | refine State.Frame.ofPair ?_ (by assumption) | split | dsimp only)

theorem State.setRxLane_frame (h : s.Frame n o) (hn : Covers n 0x20) : ∀ x1 x2 x3, (State.setRxLane s x1 x2 x3).Frame n o := by
  intros
  unfold State.setRxLane
  with_reducible repeat' (first | intro _ | assumption | exact Covers.trans hn (by decide) | apply State.modTrk_frame | apply State.Frame.foldl | apply State.Frame.ite | (apply State.Frame.mk' <;> first | exact .inl (Covers.bit hn (by decide)) | exact .inr rfl | assumption | apply State.modTrk_frame | apply State.Frame.ite | apply State.Frame.foldl | refine State.Frame.ofPair ?_ (by assumption) | split) | apply State.Frame.foldlFst | refine State.Frame.ofPair ?_ (by assumption) | split | dsimp only)

theorem State.setTxLane_frame (h : s.Frame n o) (hn : Covers n 0x20) : ∀ x1 x2 x3, (State.setTxLane s x1 x2 x3).Frame n o := by
  intros
  unfold State.setTxLane
  with_reducible repeat' (first | intro _ | assumption | exact Covers.trans hn (by decide) | apply State.modTrk_frame | apply State.Frame.foldl | apply State.Frame.ite | (apply State.Frame.mk' <;> first | exact .inl (Covers.bit hn (by decide)) | exact .inr rfl | assumption | apply State.modTrk_frame | apply State.Frame.ite | apply State.Frame.foldl | refine State.Frame.ofPair ?_ (by assumption) | split) | apply State.Frame.foldlFst | refine State.Frame.ofPair ?_ (by assumption) | split | dsimp only)

theorem State.laneErr_frame (h : s.Frame n o) (hn : Covers n 0x20) : ∀ x1 x2, (State.laneErr s x1 x2).Frame n o := by
  intros
  unfold State.laneErr
  with_reducible repeat' (first | intro _ | assumption | exact Covers.trans hn (by decide) | apply State.setRxLane_frame | apply State.Frame.foldl | apply State.Frame.ite | (apply State.Frame.mk' <;> first | exact .inl (Covers.bit hn (by decide)) | exact .inr rfl | assumption | apply State.setRxLane_frame | apply State.Frame.ite | apply State.Frame.foldl | refine State.Frame.ofPair ?_ (by assumption) | split) | apply State.Frame.foldlFst | refine State.Frame.ofPair ?_ (by assumption) | split | dsimp only)

theorem State.laneViol_frame (h : s.Frame n o) (hn : Covers n 0x22) : ∀ x1 x2, (State.laneViol s x1 x2).Frame n o := by
  intros
  unfold State.laneViol
  with_reducible repeat' (first | intro _ | assumption | exact Covers.trans hn (by decide) | apply State.laneErr_frame | apply State.bump_frame | apply State.Frame.foldl | apply State.Frame.ite | (apply State.Frame.mk' <;> first | exact .inl (Covers.bit hn (by decide)) | exact .inr rfl | assumption | apply State.laneErr_frame | apply State.bump_frame | apply State.Frame.ite | apply State.Frame.foldl | refine State.Frame.ofPair ?_ (by assumption) | split) | apply State.Frame.foldlFst | refine State.Frame.ofPair ?_ (by assumption) | split | dsimp only)

theorem State.rxSymbol_frame (h : s.Frame n o) (hn : Covers n 0x22) : ∀ x1 x2 x3 x4, (State.rxSymbol s x1 x2 x3 x4).1.Frame n o := by
  intros
  unfold State.rxSymbol
  with_reducible repeat' (first | intro _ | assumption | exact Covers.trans hn (by decide) | apply State.setRxLane_frame | apply State.setFld_frame | apply State.when_frame | apply State.laneViol_frame | apply State.laneErr_frame | apply State.bump_frame | apply State.Frame.foldl | apply State.Frame.ite | (apply State.Frame.mk' <;> first | exact .inl (Covers.bit hn (by decide)) | exact .inr rfl | assumption | apply State.setRxLane_frame | apply State.setFld_frame | apply State.when_frame | apply State.laneViol_frame | apply State.laneErr_frame | apply State.bump_frame | apply State.Frame.ite | apply State.Frame.foldl | refine State.Frame.ofPair ?_ (by assumption) | split) | apply State.Frame.foldlFst | refine State.Frame.ofPair ?_ (by assumption) | split | dsimp only)

theorem State.trySpare_frame (h : s.Frame n o) (hn : Covers n 0x82786a) : ∀ x1 x2 x3, (State.trySpare s x1 x2 x3).Frame n o := by
  intros
  unfold State.trySpare
  with_reducible repeat' (first | intro _ | assumption | exact Covers.trans hn (by decide) | apply State.retrain_frame | apply State.raise_frame | apply State.modTrk_frame | apply State.Frame.foldl | apply State.Frame.ite | (apply State.Frame.mk' <;> first | exact .inl (Covers.bit hn (by decide)) | exact .inr rfl | assumption | apply State.retrain_frame | apply State.raise_frame | apply State.modTrk_frame | apply State.Frame.ite | apply State.Frame.foldl | refine State.Frame.ofPair ?_ (by assumption) | split) | apply State.Frame.foldlFst | refine State.Frame.ofPair ?_ (by assumption) | split | dsimp only)

theorem State.requestSparing_frame (h : s.Frame n o) (hn : Covers n 0x82786a) : ∀ x1 x2, (State.requestSparing s x1 x2).Frame n o := by
  intros
  unfold State.requestSparing
  with_reducible repeat' (first | intro _ | assumption | exact Covers.trans hn (by decide) | apply State.setFld_frame | apply State.trySpare_frame | apply State.Frame.foldl | apply State.Frame.ite | (apply State.Frame.mk' <;> first | exact .inl (Covers.bit hn (by decide)) | exact .inr rfl | assumption | apply State.setFld_frame | apply State.trySpare_frame | apply State.Frame.ite | apply State.Frame.foldl | refine State.Frame.ofPair ?_ (by assumption) | split) | apply State.Frame.foldlFst | refine State.Frame.ofPair ?_ (by assumption) | split | dsimp only)

theorem State.spareFailed_frame (h : s.Frame n o) (hn : Covers n 0x82786a) : ∀ x1, (State.spareFailed s x1).Frame n o := by
  intros
  unfold State.spareFailed
  with_reducible repeat' (first | intro _ | assumption | exact Covers.trans hn (by decide) | apply State.retrain_frame | apply State.raise_frame | apply State.trySpare_frame | apply State.Frame.foldl | apply State.Frame.ite | (apply State.Frame.mk' <;> first | exact .inl (Covers.bit hn (by decide)) | exact .inr rfl | assumption | apply State.retrain_frame | apply State.raise_frame | apply State.trySpare_frame | apply State.Frame.ite | apply State.Frame.foldl | refine State.Frame.ofPair ?_ (by assumption) | split) | apply State.Frame.foldlFst | refine State.Frame.ofPair ?_ (by assumption) | split | dsimp only)

theorem State.takeMgmt_frame (h : s.Frame n o) (hn : Covers n 0x20) : ∀ x1 x2 x3, (State.takeMgmt s x1 x2 x3).Frame n o := by
  intros
  unfold State.takeMgmt
  with_reducible repeat' (first | intro _ | assumption | exact Covers.trans hn (by decide) | apply State.modRx_frame | apply State.Frame.foldl | apply State.Frame.ite | (apply State.Frame.mk' <;> first | exact .inl (Covers.bit hn (by decide)) | exact .inr rfl | assumption | apply State.modRx_frame | apply State.Frame.ite | apply State.Frame.foldl | refine State.Frame.ofPair ?_ (by assumption) | split) | apply State.Frame.foldlFst | refine State.Frame.ofPair ?_ (by assumption) | split | dsimp only)

theorem execLaneMgmtReqRx_frame (h : s.Frame n o) (hn : Covers n 0x20) : ∀ x0 x1, Out.Frame n o (execLaneMgmtReqRx x0 x1 s) := by
  intros
  unfold execLaneMgmtReqRx
  with_reducible repeat' (first | intro _ | assumption | exact Covers.trans hn (by decide) | apply State.takeMgmt_frame | apply State.modTrk_frame | apply State.Frame.foldl | apply Out.Frame.next | apply State.Frame.ite | (apply State.Frame.mk' <;> first | exact .inl (Covers.bit hn (by decide)) | exact .inr rfl | assumption | apply State.takeMgmt_frame | apply State.modTrk_frame | apply State.Frame.ite | apply State.Frame.foldl | refine State.Frame.ofPair ?_ (by assumption) | split) | apply State.Frame.foldlFst | refine State.Frame.ofPair ?_ (by assumption) | split | dsimp only)

theorem execLaneMgmtAckRx_frame (h : s.Frame n o) (hn : Covers n 0x20) : ∀ x0 x1, Out.Frame n o (execLaneMgmtAckRx x0 x1 s) := by
  intros
  unfold execLaneMgmtAckRx
  with_reducible repeat' (first | intro _ | assumption | exact Covers.trans hn (by decide) | apply State.takeMgmt_frame | apply State.modTrk_frame | apply State.Frame.foldl | apply Out.Frame.next | apply State.Frame.ite | (apply State.Frame.mk' <;> first | exact .inl (Covers.bit hn (by decide)) | exact .inr rfl | assumption | apply State.takeMgmt_frame | apply State.modTrk_frame | apply State.Frame.ite | apply State.Frame.foldl | refine State.Frame.ofPair ?_ (by assumption) | split) | apply State.Frame.foldlFst | refine State.Frame.ofPair ?_ (by assumption) | split | dsimp only)

theorem execLaneMgmtRejRx_frame (h : s.Frame n o) (hn : Covers n 0x82786a) : ∀ x0 x1, Out.Frame n o (execLaneMgmtRejRx x0 x1 s) := by
  intros
  unfold execLaneMgmtRejRx
  with_reducible repeat' (first | intro _ | assumption | exact Covers.trans hn (by decide) | apply State.takeMgmt_frame | apply State.spareFailed_frame | apply State.Frame.foldl | apply Out.Frame.next | apply State.Frame.ite | (apply State.Frame.mk' <;> first | exact .inl (Covers.bit hn (by decide)) | exact .inr rfl | assumption | apply State.takeMgmt_frame | apply State.spareFailed_frame | apply State.Frame.ite | apply State.Frame.foldl | refine State.Frame.ofPair ?_ (by assumption) | split) | apply State.Frame.foldlFst | refine State.Frame.ofPair ?_ (by assumption) | split | dsimp only)

theorem execLaneSpareReqTimeout_frame (h : s.Frame n o) (hn : Covers n 0x82786a) : ∀ x0, Out.Frame n o (execLaneSpareReqTimeout x0 s) := by
  intros
  unfold execLaneSpareReqTimeout
  with_reducible repeat' (first | intro _ | assumption | exact Covers.trans hn (by decide) | apply State.spareFailed_frame | apply State.Frame.foldl | apply Out.Frame.next | apply State.Frame.ite | (apply State.Frame.mk' <;> first | exact .inl (Covers.bit hn (by decide)) | exact .inr rfl | assumption | apply State.spareFailed_frame | apply State.Frame.ite | apply State.Frame.foldl | refine State.Frame.ofPair ?_ (by assumption) | split) | apply State.Frame.foldlFst | refine State.Frame.ofPair ?_ (by assumption) | split | dsimp only)

theorem State.activateSpare_frame (h : s.Frame n o) (hn : Covers n 0x2) : ∀ x1 x2 x3 x4, (State.activateSpare s x1 x2 x3 x4).Frame n o := by
  intros
  unfold State.activateSpare
  with_reducible repeat' (first | intro _ | assumption | exact Covers.trans hn (by decide) | apply State.setFld_frame | apply State.Frame.foldl | apply State.Frame.ite | (apply State.Frame.mk' <;> first | exact .inl (Covers.bit hn (by decide)) | exact .inr rfl | assumption | apply State.setFld_frame | apply State.Frame.ite | apply State.Frame.foldl | refine State.Frame.ofPair ?_ (by assumption) | split) | apply State.Frame.foldlFst | refine State.Frame.ofPair ?_ (by assumption) | split | dsimp only)

theorem execLaneSpareSwitch_frame (h : s.Frame n o) (hn : Covers n 0x82786a) : ∀ x0 x1, Out.Frame n o (execLaneSpareSwitch x0 x1 s) := by
  intros
  unfold execLaneSpareSwitch
  with_reducible repeat' (first | intro _ | assumption | exact Covers.trans hn (by decide) | apply State.raise_frame | apply State.modTrk_frame | apply State.activateSpare_frame | apply State.Frame.foldl | apply Out.Frame.next | apply State.Frame.ite | (apply State.Frame.mk' <;> first | exact .inl (Covers.bit hn (by decide)) | exact .inr rfl | assumption | apply State.raise_frame | apply State.modTrk_frame | apply State.activateSpare_frame | apply State.Frame.ite | apply State.Frame.foldl | refine State.Frame.ofPair ?_ (by assumption) | split) | apply State.Frame.foldlFst | refine State.Frame.ofPair ?_ (by assumption) | split | dsimp only)

theorem State.lockMiss_frame (h : s.Frame n o) (hn : Covers n 0x22) : ∀ x1 x2 x3, (State.lockMiss s x1 x2 x3).1.Frame n o := by
  intros
  unfold State.lockMiss
  with_reducible repeat' (first | intro _ | assumption | exact Covers.trans hn (by decide) | apply State.bump_frame | apply State.setRxLane_frame | apply State.setFld_frame | apply State.Frame.foldl | apply State.Frame.ite | (apply State.Frame.mk' <;> first | exact .inl (Covers.bit hn (by decide)) | exact .inr rfl | assumption | apply State.bump_frame | apply State.setRxLane_frame | apply State.setFld_frame | apply State.Frame.ite | apply State.Frame.foldl | refine State.Frame.ofPair ?_ (by assumption) | split) | apply State.Frame.foldlFst | refine State.Frame.ofPair ?_ (by assumption) | split | dsimp only)

theorem State.lockStep_frame (h : s.Frame n o) (hn : Covers n 0x22) : ∀ x1 x2 x3 x4, (State.lockStep s x1 x2 x3 x4).1.Frame n o := by
  intros
  unfold State.lockStep
  with_reducible repeat' (first | intro _ | assumption | exact Covers.trans hn (by decide) | apply State.setRxLane_frame | apply State.setFld_frame | apply State.lockMiss_frame | apply State.Frame.foldl | apply State.Frame.ite | (apply State.Frame.mk' <;> first | exact .inl (Covers.bit hn (by decide)) | exact .inr rfl | assumption | apply State.setRxLane_frame | apply State.setFld_frame | apply State.lockMiss_frame | apply State.Frame.ite | apply State.Frame.foldl | refine State.Frame.ofPair ?_ (by assumption) | split) | apply State.Frame.foldlFst | refine State.Frame.ofPair ?_ (by assumption) | split | dsimp only)

theorem State.onLockLoss_frame (h : s.Frame n o) (hn : Covers n 0x82786a) : ∀ x1 x2, (State.onLockLoss s x1 x2).Frame n o := by
  intros
  unfold State.onLockLoss
  with_reducible repeat' (first | intro _ | assumption | exact Covers.trans hn (by decide) | apply State.when_frame | apply State.raise_frame | apply State.requestSparing_frame | apply State.Frame.foldl | apply State.Frame.ite | (apply State.Frame.mk' <;> first | exact .inl (Covers.bit hn (by decide)) | exact .inr rfl | assumption | apply State.when_frame | apply State.raise_frame | apply State.requestSparing_frame | apply State.Frame.ite | apply State.Frame.foldl | refine State.Frame.ofPair ?_ (by assumption) | split) | apply State.Frame.foldlFst | refine State.Frame.ofPair ?_ (by assumption) | split | dsimp only)

theorem State.checkErrLimit_frame (h : s.Frame n o) (hn : Covers n 0x82786a) : ∀ x1 x2, (State.checkErrLimit s x1 x2).Frame n o := by
  intros
  unfold State.checkErrLimit
  with_reducible repeat' (first | intro _ | assumption | exact Covers.trans hn (by decide) | apply State.requestSparing_frame | apply State.setRxLane_frame | apply State.Frame.foldl | apply State.Frame.ite | (apply State.Frame.mk' <;> first | exact .inl (Covers.bit hn (by decide)) | exact .inr rfl | assumption | apply State.requestSparing_frame | apply State.setRxLane_frame | apply State.Frame.ite | apply State.Frame.foldl | refine State.Frame.ofPair ?_ (by assumption) | split) | apply State.Frame.foldlFst | refine State.Frame.ofPair ?_ (by assumption) | split | dsimp only)

theorem execSpareErrWindowEnd_frame (h : s.Frame n o) (hn : Covers n 0x20) : ∀ x0, Out.Frame n o (execSpareErrWindowEnd x0 s) := by
  intros
  unfold execSpareErrWindowEnd
  with_reducible repeat' (first | intro _ | assumption | exact Covers.trans hn (by decide) | apply State.modTrk_frame | apply State.Frame.foldl | apply Out.Frame.next | apply State.Frame.ite | (apply State.Frame.mk' <;> first | exact .inl (Covers.bit hn (by decide)) | exact .inr rfl | assumption | apply State.modTrk_frame | apply State.Frame.ite | apply State.Frame.foldl | refine State.Frame.ofPair ?_ (by assumption) | split) | apply State.Frame.foldlFst | refine State.Frame.ofPair ?_ (by assumption) | split | dsimp only)

theorem State.closeWindow_frame (h : s.Frame n o) (hn : Covers n 0x22) : ∀ x1 x2 x3, (State.closeWindow s x1 x2 x3).Frame n o := by
  intros
  unfold State.closeWindow
  with_reducible repeat' (first | intro _ | assumption | exact Covers.trans hn (by decide) | apply State.setRxLane_frame | apply State.bump_frame | apply State.Frame.foldl | apply State.Frame.ite | (apply State.Frame.mk' <;> first | exact .inl (Covers.bit hn (by decide)) | exact .inr rfl | assumption | apply State.setRxLane_frame | apply State.bump_frame | apply State.Frame.ite | apply State.Frame.foldl | refine State.Frame.ofPair ?_ (by assumption) | split) | apply State.Frame.foldlFst | refine State.Frame.ofPair ?_ (by assumption) | split | dsimp only)

theorem State.applyLane_frame (h : s.Frame n o) (hn : Covers n 0x22) : ∀ x1 x2, (State.applyLane s x1 x2).Frame n o := by
  intros
  unfold State.applyLane
  with_reducible repeat' (first | intro _ | assumption | exact Covers.trans hn (by decide) | apply State.setFld_frame | apply State.setRxLane_frame | apply State.Frame.foldl | apply State.Frame.ite | (apply State.Frame.mk' <;> first | exact .inl (Covers.bit hn (by decide)) | exact .inr rfl | assumption | apply State.setFld_frame | apply State.setRxLane_frame | apply State.Frame.ite | apply State.Frame.foldl | refine State.Frame.ofPair ?_ (by assumption) | split) | apply State.Frame.foldlFst | refine State.Frame.ofPair ?_ (by assumption) | split | dsimp only)

theorem State.stageEq_frame (h : s.Frame n o) (hn : Covers n 0x20) : ∀ x1 x2, (State.stageEq s x1 x2).Frame n o := by
  intros
  unfold State.stageEq
  with_reducible repeat' (first | intro _ | assumption | exact Covers.trans hn (by decide) | apply State.setRxLane_frame | apply State.Frame.foldl | apply State.Frame.ite | (apply State.Frame.mk' <;> first | exact .inl (Covers.bit hn (by decide)) | exact .inr rfl | assumption | apply State.setRxLane_frame | apply State.Frame.ite | apply State.Frame.foldl | refine State.Frame.ofPair ?_ (by assumption) | split) | apply State.Frame.foldlFst | refine State.Frame.ofPair ?_ (by assumption) | split | dsimp only)

theorem State.prbsCheck_frame (h : s.Frame n o) (hn : Covers n 0x22) : ∀ x1 x2 x3, (State.prbsCheck s x1 x2 x3).Frame n o := by
  intros
  unfold State.prbsCheck
  with_reducible repeat' (first | intro _ | assumption | exact Covers.trans hn (by decide) | apply State.bump_frame | apply State.setFlag_frame | apply State.setRxLane_frame | apply State.Frame.foldl | apply State.Frame.ite | (apply State.Frame.mk' <;> first | exact .inl (Covers.bit hn (by decide)) | exact .inr rfl | assumption | apply State.bump_frame | apply State.setFlag_frame | apply State.setRxLane_frame | apply State.Frame.ite | apply State.Frame.foldl | refine State.Frame.ofPair ?_ (by assumption) | split) | apply State.Frame.foldlFst | refine State.Frame.ofPair ?_ (by assumption) | split | dsimp only)

theorem State.injected_frame (h : s.Frame n o) (hn : Covers n 0x22) : ∀ x1 x2, (State.injected s x1 x2).Frame n o := by
  intros
  unfold State.injected
  with_reducible repeat' (first | intro _ | assumption | exact Covers.trans hn (by decide) | apply State.when_frame | apply State.setFld_frame | apply State.setTxLane_frame | apply State.Frame.foldl | apply State.Frame.ite | (apply State.Frame.mk' <;> first | exact .inl (Covers.bit hn (by decide)) | exact .inr rfl | assumption | apply State.when_frame | apply State.setFld_frame | apply State.setTxLane_frame | apply State.Frame.ite | apply State.Frame.foldl | refine State.Frame.ofPair ?_ (by assumption) | split) | apply State.Frame.foldlFst | refine State.Frame.ofPair ?_ (by assumption) | split | dsimp only)

theorem State.txSymbol_frame (h : s.Frame n o) (hn : Covers n 0x22) : ∀ x1 x2 x3 x4, (State.txSymbol s x1 x2 x3 x4).1.Frame n o := by
  intros
  unfold State.txSymbol
  with_reducible repeat' (first | intro _ | assumption | exact Covers.trans hn (by decide) | apply State.setTxLane_frame | apply State.injected_frame | apply State.Frame.foldl | apply State.Frame.ite | (apply State.Frame.mk' <;> first | exact .inl (Covers.bit hn (by decide)) | exact .inr rfl | assumption | apply State.setTxLane_frame | apply State.injected_frame | apply State.Frame.ite | apply State.Frame.foldl | refine State.Frame.ofPair ?_ (by assumption) | split) | apply State.Frame.foldlFst | refine State.Frame.ofPair ?_ (by assumption) | split | dsimp only)

theorem State.txPrbs_frame (h : s.Frame n o) (hn : Covers n 0x22) : ∀ x1 x2, (State.txPrbs s x1 x2).1.Frame n o := by
  intros
  unfold State.txPrbs
  with_reducible repeat' (first | intro _ | assumption | exact Covers.trans hn (by decide) | apply State.setTxLane_frame | apply State.injected_frame | apply State.Frame.foldl | apply State.Frame.ite | (apply State.Frame.mk' <;> first | exact .inl (Covers.bit hn (by decide)) | exact .inr rfl | assumption | apply State.setTxLane_frame | apply State.injected_frame | apply State.Frame.ite | apply State.Frame.foldl | refine State.Frame.ofPair ?_ (by assumption) | split) | apply State.Frame.foldlFst | refine State.Frame.ofPair ?_ (by assumption) | split | dsimp only)

/-! ### Packets -/

theorem State.malformed_frame (h : s.Frame n o) (hn : Covers n 0x82784a) : ∀ x1 x2 x3, (State.malformed s x1 x2 x3).Frame n o := by
  intros
  unfold State.malformed
  with_reducible repeat' (first | intro _ | assumption | exact Covers.trans hn (by decide) | apply State.raise_frame | apply State.bump_frame | apply State.Frame.foldl | apply State.Frame.ite | (apply State.Frame.mk' <;> first | exact .inl (Covers.bit hn (by decide)) | exact .inr rfl | assumption | apply State.raise_frame | apply State.bump_frame | apply State.Frame.ite | apply State.Frame.foldl | refine State.Frame.ofPair ?_ (by assumption) | split) | apply State.Frame.foldlFst | refine State.Frame.ofPair ?_ (by assumption) | split | dsimp only)

theorem State.returnTablets_frame (h : s.Frame n o) (hn : Covers n 0x20) : ∀ x1 x2 x3, (State.returnTablets s x1 x2 x3).Frame n o := by
  intros
  unfold State.returnTablets
  with_reducible repeat' (first | intro _ | assumption | exact Covers.trans hn (by decide) | apply State.modTx_frame | apply State.Frame.foldl | apply State.Frame.ite | (apply State.Frame.mk' <;> first | exact .inl (Covers.bit hn (by decide)) | exact .inr rfl | assumption | apply State.modTx_frame | apply State.Frame.ite | apply State.Frame.foldl | refine State.Frame.ofPair ?_ (by assumption) | split) | apply State.Frame.foldlFst | refine State.Frame.ofPair ?_ (by assumption) | split | dsimp only)

theorem State.returnFor_frame (h : s.Frame n o) (hn : Covers n 0x20) : ∀ x1 x2 x3 x4, (State.returnFor s x1 x2 x3 x4).Frame n o := by
  intros
  unfold State.returnFor
  with_reducible repeat' (first | intro _ | assumption | exact Covers.trans hn (by decide) | apply State.returnTablets_frame | apply State.Frame.foldl | apply State.Frame.ite | (apply State.Frame.mk' <;> first | exact .inl (Covers.bit hn (by decide)) | exact .inr rfl | assumption | apply State.returnTablets_frame | apply State.Frame.ite | apply State.Frame.foldl | refine State.Frame.ofPair ?_ (by assumption) | split) | apply State.Frame.foldlFst | refine State.Frame.ofPair ?_ (by assumption) | split | dsimp only)

theorem State.account_frame (h : s.Frame n o) (hn : Covers n 0x4000e2) : ∀ x1 x2, (State.account s x1 x2).Frame n o := by
  intros
  unfold State.account
  with_reducible repeat' (first | intro _ | assumption | exact Covers.trans hn (by decide) | apply State.setFld_frame | apply State.bump_frame | apply State.modTrk_frame | apply State.Frame.foldl | apply State.Frame.ite | (apply State.Frame.mk' <;> first | exact .inl (Covers.bit hn (by decide)) | exact .inr rfl | assumption | apply State.setFld_frame | apply State.bump_frame | apply State.modTrk_frame | apply State.Frame.ite | apply State.Frame.foldl | refine State.Frame.ofPair ?_ (by assumption) | split) | apply State.Frame.foldlFst | refine State.Frame.ofPair ?_ (by assumption) | split | dsimp only)

theorem State.accept_frame (h : s.Frame n o) (hn : Covers n 0xc278ea) : ∀ x1 x2, (State.accept s x1 x2).1.Frame n o := by
  intros
  unfold State.accept
  with_reducible repeat' (first | intro _ | assumption | exact Covers.trans hn (by decide) | apply State.account_frame | apply State.returnTablets_frame | apply State.malformed_frame | apply State.Frame.foldl | apply State.Frame.ite | (apply State.Frame.mk' <;> first | exact .inl (Covers.bit hn (by decide)) | exact .inr rfl | assumption | apply State.account_frame | apply State.returnTablets_frame | apply State.malformed_frame | apply State.Frame.ite | apply State.Frame.foldl | refine State.Frame.ofPair ?_ (by assumption) | split) | apply State.Frame.foldlFst | refine State.Frame.ofPair ?_ (by assumption) | split | dsimp only)

theorem State.acceptToInbox_frame (h : s.Frame n o) (hn : Covers n 0xc278ea) : ∀ x1 x2, (State.acceptToInbox s x1 x2).Frame n o := by
  intros
  unfold State.acceptToInbox
  with_reducible repeat' (first | intro _ | assumption | exact Covers.trans hn (by decide) | apply State.accept_frame | apply State.modRx_frame | apply State.Frame.foldl | apply State.Frame.ite | (apply State.Frame.mk' <;> first | exact .inl (Covers.bit hn (by decide)) | exact .inr rfl | assumption | apply State.accept_frame | apply State.modRx_frame | apply State.Frame.ite | apply State.Frame.foldl | refine State.Frame.ofPair ?_ (by assumption) | split) | apply State.Frame.foldlFst | refine State.Frame.ofPair ?_ (by assumption) | split | dsimp only)

theorem State.startReplay_frame (h : s.Frame n o) (hn : Covers n 0x82786a) : ∀ x1 x2, (State.startReplay s x1 x2).Frame n o := by
  intros
  unfold State.startReplay
  with_reducible repeat' (first | intro _ | assumption | exact Covers.trans hn (by decide) | apply State.bump_frame | apply State.modTx_frame | apply State.raise_frame | apply State.setFld_frame | apply State.Frame.foldl | apply State.Frame.ite | (apply State.Frame.mk' <;> first | exact .inl (Covers.bit hn (by decide)) | exact .inr rfl | assumption | apply State.bump_frame | apply State.modTx_frame | apply State.raise_frame | apply State.setFld_frame | apply State.Frame.ite | apply State.Frame.foldl | refine State.Frame.ofPair ?_ (by assumption) | split) | apply State.Frame.foldlFst | refine State.Frame.ofPair ?_ (by assumption) | split | dsimp only)

theorem State.takeAck_frame (h : s.Frame n o) (hn : Covers n 0x82786a) : ∀ x1 x2 x3, (State.takeAck s x1 x2 x3).Frame n o := by
  intros
  unfold State.takeAck
  with_reducible repeat' (first | intro _ | assumption | exact Covers.trans hn (by decide) | apply State.setFld_frame | apply State.modTx_frame | apply State.bump_frame | apply State.startReplay_frame | apply State.Frame.foldl | apply State.Frame.ite | (apply State.Frame.mk' <;> first | exact .inl (Covers.bit hn (by decide)) | exact .inr rfl | assumption | apply State.setFld_frame | apply State.modTx_frame | apply State.bump_frame | apply State.startReplay_frame | apply State.Frame.ite | apply State.Frame.foldl | refine State.Frame.ofPair ?_ (by assumption) | split) | apply State.Frame.foldlFst | refine State.Frame.ofPair ?_ (by assumption) | split | dsimp only)

theorem State.takeIn_frame (h : s.Frame n o) (hn : Covers n 0xc278ea) : ∀ x1 x2, (State.takeIn s x1 x2).1.Frame n o := by
  intros
  unfold State.takeIn
  with_reducible repeat' (first | intro _ | assumption | exact Covers.trans hn (by decide) | apply State.modRx_frame | apply State.accept_frame | apply State.takeAck_frame | apply State.Frame.foldl | apply State.Frame.ite | (apply State.Frame.mk' <;> first | exact .inl (Covers.bit hn (by decide)) | exact .inr rfl | assumption | apply State.modRx_frame | apply State.accept_frame | apply State.takeAck_frame | apply State.Frame.ite | apply State.Frame.foldl | refine State.Frame.ofPair ?_ (by assumption) | split) | apply State.Frame.foldlFst | refine State.Frame.ofPair ?_ (by assumption) | split | dsimp only)

theorem execAckTimeout_frame (h : s.Frame n o) (hn : Covers n 0x82786a) : ∀ x0, Out.Frame n o (execAckTimeout x0 s) := by
  intros
  unfold execAckTimeout
  with_reducible repeat' (first | intro _ | assumption | exact Covers.trans hn (by decide) | apply State.startReplay_frame | apply State.Frame.foldl | apply Out.Frame.next | apply State.Frame.ite | (apply State.Frame.mk' <;> first | exact .inl (Covers.bit hn (by decide)) | exact .inr rfl | assumption | apply State.startReplay_frame | apply State.Frame.ite | apply State.Frame.foldl | refine State.Frame.ofPair ?_ (by assumption) | split) | apply State.Frame.foldlFst | refine State.Frame.ofPair ?_ (by assumption) | split | dsimp only)

theorem execReturnPendingTimeout_frame (h : s.Frame n o) (hn : Covers n 0x20) : ∀ x0, Out.Frame n o (execReturnPendingTimeout x0 s) := by
  intros
  unfold execReturnPendingTimeout
  with_reducible repeat' (first | intro _ | assumption | exact Covers.trans hn (by decide) | apply State.modTx_frame | apply State.Frame.foldl | apply Out.Frame.next | apply State.Frame.ite | (apply State.Frame.mk' <;> first | exact .inl (Covers.bit hn (by decide)) | exact .inr rfl | assumption | apply State.modTx_frame | apply State.Frame.ite | apply State.Frame.foldl | refine State.Frame.ofPair ?_ (by assumption) | split) | apply State.Frame.foldlFst | refine State.Frame.ofPair ?_ (by assumption) | split | dsimp only)

theorem State.enterResync_frame (h : s.Frame n o) (hn : Covers n 0x22) : ∀ x1 x2, (State.enterResync s x1 x2).Frame n o := by
  intros
  unfold State.enterResync
  with_reducible repeat' (first | intro _ | assumption | exact Covers.trans hn (by decide) | apply State.bump_frame | apply State.modRx_frame | apply State.Frame.foldl | apply State.Frame.ite | (apply State.Frame.mk' <;> first | exact .inl (Covers.bit hn (by decide)) | exact .inr rfl | assumption | apply State.bump_frame | apply State.modRx_frame | apply State.Frame.ite | apply State.Frame.foldl | refine State.Frame.ofPair ?_ (by assumption) | split) | apply State.Frame.foldlFst | refine State.Frame.ofPair ?_ (by assumption) | split | dsimp only)

theorem State.badHeader_frame (h : s.Frame n o) (hn : Covers n 0x82786a) : ∀ x1, (State.badHeader s x1).Frame n o := by
  intros
  unfold State.badHeader
  with_reducible repeat' (first | intro _ | assumption | exact Covers.trans hn (by decide) | apply State.enterResync_frame | apply State.raise_frame | apply State.bump_frame | apply State.Frame.foldl | apply State.Frame.ite | (apply State.Frame.mk' <;> first | exact .inl (Covers.bit hn (by decide)) | exact .inr rfl | assumption | apply State.enterResync_frame | apply State.raise_frame | apply State.bump_frame | apply State.Frame.ite | apply State.Frame.foldl | refine State.Frame.ofPair ?_ (by assumption) | split) | apply State.Frame.foldlFst | refine State.Frame.ofPair ?_ (by assumption) | split | dsimp only)

theorem State.openPacket_frame (h : s.Frame n o) (hn : Covers n 0xc278ea) : ∀ x1 x2 x3, (State.openPacket s x1 x2 x3).Frame n o := by
  intros
  unfold State.openPacket
  with_reducible repeat' (first | intro _ | assumption | exact Covers.trans hn (by decide) | apply State.acceptToInbox_frame | apply State.modRx_frame | apply State.Frame.foldl | apply State.Frame.ite | (apply State.Frame.mk' <;> first | exact .inl (Covers.bit hn (by decide)) | exact .inr rfl | assumption | apply State.acceptToInbox_frame | apply State.modRx_frame | apply State.Frame.ite | apply State.Frame.foldl | refine State.Frame.ofPair ?_ (by assumption) | split) | apply State.Frame.foldlFst | refine State.Frame.ofPair ?_ (by assumption) | split | dsimp only)

theorem State.goodHeader_frame (h : s.Frame n o) (hn : Covers n 0xc278ea) : ∀ x1 x2 x3, (State.goodHeader s x1 x2 x3).Frame n o := by
  intros
  unfold State.goodHeader
  with_reducible repeat' (first | intro _ | assumption | exact Covers.trans hn (by decide) | apply State.modRx_frame | apply State.openPacket_frame | apply State.malformed_frame | apply State.badHeader_frame | apply State.Frame.foldl | apply State.Frame.ite | (apply State.Frame.mk' <;> first | exact .inl (Covers.bit hn (by decide)) | exact .inr rfl | assumption | apply State.modRx_frame | apply State.openPacket_frame | apply State.malformed_frame | apply State.badHeader_frame | apply State.Frame.ite | apply State.Frame.foldl | refine State.Frame.ofPair ?_ (by assumption) | split) | apply State.Frame.foldlFst | refine State.Frame.ofPair ?_ (by assumption) | split | dsimp only)

theorem State.headerRow_frame (h : s.Frame n o) (hn : Covers n 0xc278ea) : ∀ x1 x2 x3 x4, (State.headerRow s x1 x2 x3 x4).Frame n o := by
  intros
  unfold State.headerRow
  with_reducible repeat' (first | intro _ | assumption | exact Covers.trans hn (by decide) | apply State.badHeader_frame | apply State.takeAck_frame | apply State.goodHeader_frame | apply State.enterResync_frame | apply State.raise_frame | apply State.bump_frame | apply State.modRx_frame | apply State.acceptToInbox_frame | apply State.Frame.foldl | apply State.Frame.ite | (apply State.Frame.mk' <;> first | exact .inl (Covers.bit hn (by decide)) | exact .inr rfl | assumption | apply State.badHeader_frame | apply State.takeAck_frame | apply State.goodHeader_frame | apply State.enterResync_frame | apply State.raise_frame | apply State.bump_frame | apply State.modRx_frame | apply State.acceptToInbox_frame | apply State.Frame.ite | apply State.Frame.foldl | refine State.Frame.ofPair ?_ (by assumption) | split) | apply State.Frame.foldlFst | refine State.Frame.ofPair ?_ (by assumption) | split | dsimp only)

theorem State.resyncRow_frame (h : s.Frame n o) (hn : Covers n 0xc278ea) : ∀ x1 x2 x3 x4, (State.resyncRow s x1 x2 x3 x4).Frame n o := by
  intros
  unfold State.resyncRow
  with_reducible repeat' (first | intro _ | assumption | exact Covers.trans hn (by decide) | apply State.modRx_frame | apply State.takeAck_frame | apply State.goodHeader_frame | apply State.Frame.foldl | apply State.Frame.ite | (apply State.Frame.mk' <;> first | exact .inl (Covers.bit hn (by decide)) | exact .inr rfl | assumption | apply State.modRx_frame | apply State.takeAck_frame | apply State.goodHeader_frame | apply State.Frame.ite | apply State.Frame.foldl | refine State.Frame.ofPair ?_ (by assumption) | split) | apply State.Frame.foldlFst | refine State.Frame.ofPair ?_ (by assumption) | split | dsimp only)

theorem State.payloadRow_frame (h : s.Frame n o) (hn : Covers n 0x82786a) : ∀ x1 x2 x3 x4, (State.payloadRow s x1 x2 x3 x4).Frame n o := by
  intros
  unfold State.payloadRow
  with_reducible repeat' (first | intro _ | assumption | exact Covers.trans hn (by decide) | apply State.modRx_frame | apply State.enterResync_frame | apply State.raise_frame | apply State.bump_frame | apply State.Frame.foldl | apply State.Frame.ite | (apply State.Frame.mk' <;> first | exact .inl (Covers.bit hn (by decide)) | exact .inr rfl | assumption | apply State.modRx_frame | apply State.enterResync_frame | apply State.raise_frame | apply State.bump_frame | apply State.Frame.ite | apply State.Frame.foldl | refine State.Frame.ofPair ?_ (by assumption) | split) | apply State.Frame.foldlFst | refine State.Frame.ofPair ?_ (by assumption) | split | dsimp only)

theorem State.dropRow_frame (h : s.Frame n o) (hn : Covers n 0x82786a) : ∀ x1, (State.dropRow s x1).Frame n o := by
  intros
  unfold State.dropRow
  with_reducible repeat' (first | intro _ | assumption | exact Covers.trans hn (by decide) | apply State.bump_frame | apply State.modRx_frame | apply State.raise_frame | apply State.Frame.foldl | apply State.Frame.ite | (apply State.Frame.mk' <;> first | exact .inl (Covers.bit hn (by decide)) | exact .inr rfl | assumption | apply State.bump_frame | apply State.modRx_frame | apply State.raise_frame | apply State.Frame.ite | apply State.Frame.foldl | refine State.Frame.ofPair ?_ (by assumption) | split) | apply State.Frame.foldlFst | refine State.Frame.ofPair ?_ (by assumption) | split | dsimp only)

theorem State.rxData_frame (h : s.Frame n o) (hn : Covers n 0xc278ea) : ∀ x1 x2 x3 x4, (State.rxData s x1 x2 x3 x4).Frame n o := by
  intros
  unfold State.rxData
  with_reducible repeat' (first | intro _ | assumption | exact Covers.trans hn (by decide) | apply State.resyncRow_frame | apply State.dropRow_frame | apply State.headerRow_frame | apply State.payloadRow_frame | apply State.Frame.foldl | apply State.Frame.ite | (apply State.Frame.mk' <;> first | exact .inl (Covers.bit hn (by decide)) | exact .inr rfl | assumption | apply State.resyncRow_frame | apply State.dropRow_frame | apply State.headerRow_frame | apply State.payloadRow_frame | apply State.Frame.ite | apply State.Frame.foldl | refine State.Frame.ofPair ?_ (by assumption) | split) | apply State.Frame.foldlFst | refine State.Frame.ofPair ?_ (by assumption) | split | dsimp only)

theorem State.dataIn_frame (h : s.Frame n o) (hn : Covers n 0xc278ea) : ∀ x1 x2 x3, (State.dataIn s x1 x2 x3).Frame n o := by
  intros
  unfold State.dataIn
  with_reducible repeat' (first | intro _ | assumption | exact Covers.trans hn (by decide) | apply State.modRx_frame | apply State.rxData_frame | apply State.Frame.foldl | apply State.Frame.ite | (apply State.Frame.mk' <;> first | exact .inl (Covers.bit hn (by decide)) | exact .inr rfl | assumption | apply State.modRx_frame | apply State.rxData_frame | apply State.Frame.ite | apply State.Frame.foldl | refine State.Frame.ofPair ?_ (by assumption) | split) | apply State.Frame.foldlFst | refine State.Frame.ofPair ?_ (by assumption) | split | dsimp only)

theorem State.discardHeld_frame (h : s.Frame n o) (hn : Covers n 0xc278ea) : ∀ x1, (State.discardHeld s x1).Frame n o := by
  intros
  unfold State.discardHeld
  with_reducible repeat' (first | intro _ | assumption | exact Covers.trans hn (by decide) | apply State.modRx_frame | apply State.account_frame | apply State.respond_frame | apply State.modTx_frame | apply State.raise_frame | apply State.bump_frame | apply State.Frame.foldl | apply State.Frame.ite | (apply State.Frame.mk' <;> first | exact .inl (Covers.bit hn (by decide)) | exact .inr rfl | assumption | apply State.modRx_frame | apply State.account_frame | apply State.respond_frame | apply State.modTx_frame | apply State.raise_frame | apply State.bump_frame | apply State.Frame.ite | apply State.Frame.foldl | refine State.Frame.ofPair ?_ (by assumption) | split) | apply State.Frame.foldlFst | refine State.Frame.ofPair ?_ (by assumption) | split | dsimp only)

theorem State.stall_frame (h : s.Frame n o) (hn : Covers n 0xc278ea) : ∀ x1, (State.stall s x1).Frame n o := by
  intros
  unfold State.stall
  with_reducible repeat' (first | intro _ | assumption | exact Covers.trans hn (by decide) | apply State.raise_frame | apply State.bump_frame | apply State.modRx_frame | apply State.discardHeld_frame | apply State.Frame.foldl | apply State.Frame.ite | (apply State.Frame.mk' <;> first | exact .inl (Covers.bit hn (by decide)) | exact .inr rfl | assumption | apply State.raise_frame | apply State.bump_frame | apply State.modRx_frame | apply State.discardHeld_frame | apply State.Frame.ite | apply State.Frame.foldl | refine State.Frame.ofPair ?_ (by assumption) | split) | apply State.Frame.foldlFst | refine State.Frame.ofPair ?_ (by assumption) | split | dsimp only)

theorem State.setSig_frame (h : s.Frame n o) (hn : Covers n 0x22) : ∀ x1 x2, (State.setSig s x1 x2).Frame n o := by
  intros
  unfold State.setSig
  with_reducible repeat' (first | intro _ | assumption | exact Covers.trans hn (by decide) | apply State.upTo_frame | apply State.setRxLane_frame | apply State.setFlag_frame | apply State.Frame.foldl | apply State.Frame.ite | (apply State.Frame.mk' <;> first | exact .inl (Covers.bit hn (by decide)) | exact .inr rfl | assumption | apply State.upTo_frame | apply State.setRxLane_frame | apply State.setFlag_frame | apply State.Frame.ite | apply State.Frame.foldl | refine State.Frame.ofPair ?_ (by assumption) | split) | apply State.Frame.foldlFst | refine State.Frame.ofPair ?_ (by assumption) | split | dsimp only)

theorem execStallBegin_frame (h : s.Frame n o) (hn : Covers n 0xc278ea) : ∀ x0, Out.Frame n o (execStallBegin x0 s) := by
  intros
  unfold execStallBegin
  with_reducible repeat' (first | intro _ | assumption | exact Covers.trans hn (by decide) | apply State.stall_frame | apply State.setSig_frame | apply State.Frame.foldl | apply Out.Frame.next | apply State.Frame.ite | (apply State.Frame.mk' <;> first | exact .inl (Covers.bit hn (by decide)) | exact .inr rfl | assumption | apply State.stall_frame | apply State.setSig_frame | apply State.Frame.ite | apply State.Frame.foldl | refine State.Frame.ofPair ?_ (by assumption) | split) | apply State.Frame.foldlFst | refine State.Frame.ofPair ?_ (by assumption) | split | dsimp only)

theorem execStallEnd_frame (h : s.Frame n o) (hn : Covers n 0x22) : ∀ x0 x1, Out.Frame n o (execStallEnd x0 x1 s) := by
  intros
  unfold execStallEnd
  with_reducible repeat' (first | intro _ | assumption | exact Covers.trans hn (by decide) | apply State.modRx_frame | apply State.setSig_frame | apply State.Frame.foldl | apply Out.Frame.next | apply State.Frame.ite | (apply State.Frame.mk' <;> first | exact .inl (Covers.bit hn (by decide)) | exact .inr rfl | assumption | apply State.modRx_frame | apply State.setSig_frame | apply State.Frame.ite | apply State.Frame.foldl | refine State.Frame.ofPair ?_ (by assumption) | split) | apply State.Frame.foldlFst | refine State.Frame.ofPair ?_ (by assumption) | split | dsimp only)

theorem State.judgeHeld_frame (h : s.Frame n o) (hn : Covers n 0xc278ea) : ∀ x1 x2, (State.judgeHeld s x1 x2).Frame n o := by
  intros
  unfold State.judgeHeld
  with_reducible repeat' (first | intro _ | assumption | exact Covers.trans hn (by decide) | apply State.modRx_frame | apply State.rxData_frame | apply State.enterResync_frame | apply State.discardHeld_frame | apply State.Frame.foldl | apply State.Frame.ite | (apply State.Frame.mk' <;> first | exact .inl (Covers.bit hn (by decide)) | exact .inr rfl | assumption | apply State.modRx_frame | apply State.rxData_frame | apply State.enterResync_frame | apply State.discardHeld_frame | apply State.Frame.ite | apply State.Frame.foldl | refine State.Frame.ofPair ?_ (by assumption) | split) | apply State.Frame.foldlFst | refine State.Frame.ofPair ?_ (by assumption) | split | dsimp only)

theorem execPartialHoldExpiry_frame (h : s.Frame n o) (hn : Covers n 0xc278ea) : ∀ x0, Out.Frame n o (execPartialHoldExpiry x0 s) := by
  intros
  unfold execPartialHoldExpiry
  with_reducible repeat' (first | intro _ | assumption | exact Covers.trans hn (by decide) | apply State.discardHeld_frame | apply State.Frame.foldl | apply Out.Frame.next | apply State.Frame.ite | (apply State.Frame.mk' <;> first | exact .inl (Covers.bit hn (by decide)) | exact .inr rfl | assumption | apply State.discardHeld_frame | apply State.Frame.ite | apply State.Frame.foldl | refine State.Frame.ofPair ?_ (by assumption) | split) | apply State.Frame.foldlFst | refine State.Frame.ofPair ?_ (by assumption) | split | dsimp only)

/-! ### Queue -/

theorem State.modEnt_frame (h : s.Frame n o) (hn : Covers n 0x800) : ∀ x1 x2 x3, (State.modEnt s x1 x2 x3).Frame n o := by
  intros
  unfold State.modEnt
  with_reducible repeat' (first | intro _ | assumption | exact Covers.trans hn (by decide) | apply State.modChan_frame | apply State.Frame.foldl | apply State.Frame.ite | (apply State.Frame.mk' <;> first | exact .inl (Covers.bit hn (by decide)) | exact .inr rfl | assumption | apply State.modChan_frame | apply State.Frame.ite | apply State.Frame.foldl | refine State.Frame.ofPair ?_ (by assumption) | split) | apply State.Frame.foldlFst | refine State.Frame.ofPair ?_ (by assumption) | split | dsimp only)

theorem State.modLine_frame (h : s.Frame n o) (hn : Covers n 0x800) : ∀ x1 x2 x3 x4, (State.modLine s x1 x2 x3 x4).Frame n o := by
  intros
  unfold State.modLine
  with_reducible repeat' (first | intro _ | assumption | exact Covers.trans hn (by decide) | apply State.modEnt_frame | apply State.Frame.foldl | apply State.Frame.ite | (apply State.Frame.mk' <;> first | exact .inl (Covers.bit hn (by decide)) | exact .inr rfl | assumption | apply State.modEnt_frame | apply State.Frame.ite | apply State.Frame.foldl | refine State.Frame.ofPair ?_ (by assumption) | split) | apply State.Frame.foldlFst | refine State.Frame.ofPair ?_ (by assumption) | split | dsimp only)

theorem State.closeEnt_frame (h : s.Frame n o) (hn : Covers n 0x840) : ∀ x1 x2, (State.closeEnt s x1 x2).Frame n o := by
  intros
  unfold State.closeEnt
  with_reducible repeat' (first | intro _ | assumption | exact Covers.trans hn (by decide) | apply State.effected_frame | apply State.modEnt_frame | apply State.Frame.foldl | apply State.Frame.ite | (apply State.Frame.mk' <;> first | exact .inl (Covers.bit hn (by decide)) | exact .inr rfl | assumption | apply State.effected_frame | apply State.modEnt_frame | apply State.Frame.ite | apply State.Frame.foldl | refine State.Frame.ofPair ?_ (by assumption) | split) | apply State.Frame.foldlFst | refine State.Frame.ofPair ?_ (by assumption) | split | dsimp only)

theorem State.reside_frame (h : s.Frame n o) (hn : Covers n 0x802) : ∀ x1, (State.reside s x1).Frame n o := by
  intros
  unfold State.reside
  with_reducible repeat' (first | intro _ | assumption | exact Covers.trans hn (by decide) | apply State.bump_frame | apply State.modChan_frame | apply State.Frame.foldl | apply State.Frame.ite | (apply State.Frame.mk' <;> first | exact .inl (Covers.bit hn (by decide)) | exact .inr rfl | assumption | apply State.bump_frame | apply State.modChan_frame | apply State.Frame.ite | apply State.Frame.foldl | refine State.Frame.ofPair ?_ (by assumption) | split) | apply State.Frame.foldlFst | refine State.Frame.ofPair ?_ (by assumption) | split | dsimp only)

theorem execSidingLimitExpiry_frame (h : s.Frame n o) (hn : Covers n 0x82784a) : ∀ x0 x1, Out.Frame n o (execSidingLimitExpiry x0 x1 s) := by
  intros
  unfold execSidingLimitExpiry
  with_reducible repeat' (first | intro _ | assumption | exact Covers.trans hn (by decide) | apply State.effected_frame | apply State.modEnt_frame | apply State.modChan_frame | apply State.bump_frame | apply State.reside_frame | apply State.raise_frame | apply State.Frame.foldl | apply Out.Frame.next | apply State.Frame.ite | (apply State.Frame.mk' <;> first | exact .inl (Covers.bit hn (by decide)) | exact .inr rfl | assumption | apply State.effected_frame | apply State.modEnt_frame | apply State.modChan_frame | apply State.bump_frame | apply State.reside_frame | apply State.raise_frame | apply State.Frame.ite | apply State.Frame.foldl | refine State.Frame.ofPair ?_ (by assumption) | split) | apply State.Frame.foldlFst | refine State.Frame.ofPair ?_ (by assumption) | split | dsimp only)

theorem State.pushPrio_frame (h : s.Frame n o) (hn : Covers n 0x800) : ∀ x1 x2, (State.pushPrio s x1 x2).Frame n o := by
  intros
  unfold State.pushPrio
  with_reducible repeat' (first | intro _ | assumption | exact Covers.trans hn (by decide) | apply State.modChan_frame | apply State.Frame.foldl | apply State.Frame.ite | (apply State.Frame.mk' <;> first | exact .inl (Covers.bit hn (by decide)) | exact .inr rfl | assumption | apply State.modChan_frame | apply State.Frame.ite | apply State.Frame.foldl | refine State.Frame.ofPair ?_ (by assumption) | split) | apply State.Frame.foldlFst | refine State.Frame.ofPair ?_ (by assumption) | split | dsimp only)

theorem State.pushRow_frame (h : s.Frame n o) (hn : Covers n 0x800) : ∀ x1 x2 x3 x4 x5 x6, (State.pushRow s x1 x2 x3 x4 x5 x6).Frame n o := by
  intros
  unfold State.pushRow
  with_reducible repeat' (first | intro _ | assumption | exact Covers.trans hn (by decide) | apply State.pushPrio_frame | apply State.Frame.foldl | apply State.Frame.ite | (apply State.Frame.mk' <;> first | exact .inl (Covers.bit hn (by decide)) | exact .inr rfl | assumption | apply State.pushPrio_frame | apply State.Frame.ite | apply State.Frame.foldl | refine State.Frame.ofPair ?_ (by assumption) | split) | apply State.Frame.foldlFst | refine State.Frame.ofPair ?_ (by assumption) | split | dsimp only)

end Sys2Proof.Machine
end

