-- ==== Sys2Proof/Laws/FrameC.lean ====
section
/-! SUPPORT. Which parts of State each operation leaves, of Training, Receive. -/
namespace Sys2Proof.Machine

set_option linter.all false

variable {n : Nat} {o s : State}

/-! ### Training -/

theorem State.takeSet_frame (h : s.Frame n o) (hn : Covers n 0x20) : ∀ x1 x2, (State.takeSet s x1 x2).Frame n o := by
  intros
  unfold State.takeSet
  with_reducible repeat' (first | intro _ | assumption | exact Covers.trans hn (by decide) | apply State.modRx_frame | apply State.Frame.foldl | apply State.Frame.ite | (apply State.Frame.mk' <;> first | exact .inl (Covers.bit hn (by decide)) | exact .inr rfl | assumption | apply State.modRx_frame | apply State.Frame.ite | apply State.Frame.foldl | refine State.Frame.ofPair ?_ (by assumption) | split) | apply State.Frame.foldlFst | refine State.Frame.ofPair ?_ (by assumption) | split | dsimp only)

theorem State.endSession_frame (h : s.Frame n o) (hn : Covers n 0x62) : ∀ x1, (State.endSession s x1).Frame n o := by
  intros
  unfold State.endSession
  with_reducible repeat' (first | intro _ | assumption | exact Covers.trans hn (by decide) | apply State.bump_frame | apply State.modTx_frame | apply State.setFld_frame | apply State.Frame.foldl | apply State.Frame.ite | (apply State.Frame.mk' <;> first | exact .inl (Covers.bit hn (by decide)) | exact .inr rfl | assumption | apply State.bump_frame | apply State.modTx_frame | apply State.setFld_frame | apply State.Frame.ite | apply State.Frame.foldl | refine State.Frame.ofPair ?_ (by assumption) | split) | apply State.Frame.foldlFst | refine State.Frame.ofPair ?_ (by assumption) | split | dsimp only)

theorem State.freshSession_frame (h : s.Frame n o) (hn : Covers n 0x22) : ∀ x1 x2 x3, (State.freshSession s x1 x2 x3).Frame n o := by
  intros
  unfold State.freshSession
  with_reducible repeat' (first | intro _ | assumption | exact Covers.trans hn (by decide) | apply State.setFld_frame | apply State.modTrk_frame | apply State.Frame.foldl | apply State.Frame.ite | (apply State.Frame.mk' <;> first | exact .inl (Covers.bit hn (by decide)) | exact .inr rfl | assumption | apply State.setFld_frame | apply State.modTrk_frame | apply State.Frame.ite | apply State.Frame.foldl | refine State.Frame.ofPair ?_ (by assumption) | split) | apply State.Frame.foldlFst | refine State.Frame.ofPair ?_ (by assumption) | split | dsimp only)

theorem State.queueSet_frame (h : s.Frame n o) (hn : Covers n 0x20) : ∀ x1 x2, (State.queueSet s x1 x2).Frame n o := by
  intros
  unfold State.queueSet
  with_reducible repeat' (first | intro _ | assumption | exact Covers.trans hn (by decide) | apply State.modTrn_frame | apply State.Frame.foldl | apply State.Frame.ite | (apply State.Frame.mk' <;> first | exact .inl (Covers.bit hn (by decide)) | exact .inr rfl | assumption | apply State.modTrn_frame | apply State.Frame.ite | apply State.Frame.foldl | refine State.Frame.ofPair ?_ (by assumption) | split) | apply State.Frame.foldlFst | refine State.Frame.ofPair ?_ (by assumption) | split | dsimp only)

theorem State.modFov_frame (h : s.Frame n o) (hn : Covers n 0x20) : ∀ x1 x2, (State.modFov s x1 x2).Frame n o := by
  intros
  unfold State.modFov
  with_reducible repeat' (first | intro _ | assumption | exact Covers.trans hn (by decide) | apply State.modTrk_frame | apply State.Frame.foldl | apply State.Frame.ite | (apply State.Frame.mk' <;> first | exact .inl (Covers.bit hn (by decide)) | exact .inr rfl | assumption | apply State.modTrk_frame | apply State.Frame.ite | apply State.Frame.foldl | refine State.Frame.ofPair ?_ (by assumption) | split) | apply State.Frame.foldlFst | refine State.Frame.ofPair ?_ (by assumption) | split | dsimp only)

theorem State.startFailover_frame (h : s.Frame n o) (hn : Covers n 0x20) : ∀ x1, (State.startFailover s x1).Frame n o := by
  intros
  unfold State.startFailover
  with_reducible repeat' (first | intro _ | assumption | exact Covers.trans hn (by decide) | apply State.queueSet_frame | apply State.modFov_frame | apply State.Frame.foldl | apply State.Frame.ite | (apply State.Frame.mk' <;> first | exact .inl (Covers.bit hn (by decide)) | exact .inr rfl | assumption | apply State.queueSet_frame | apply State.modFov_frame | apply State.Frame.ite | apply State.Frame.foldl | refine State.Frame.ofPair ?_ (by assumption) | split) | apply State.Frame.foldlFst | refine State.Frame.ofPair ?_ (by assumption) | split | dsimp only)

theorem State.moveSession_frame (h : s.Frame n o) (hn : Covers n 0x82786a) : ∀ x1 x2 x3, (State.moveSession s x1 x2 x3).Frame n o := by
  intros
  unfold State.moveSession
  with_reducible repeat' (first | intro _ | assumption | exact Covers.trans hn (by decide) | apply State.modTrk_frame | apply State.setFld_frame | apply State.raise_frame | apply State.Frame.foldl | apply State.Frame.ite | (apply State.Frame.mk' <;> first | exact .inl (Covers.bit hn (by decide)) | exact .inr rfl | assumption | apply State.modTrk_frame | apply State.setFld_frame | apply State.raise_frame | apply State.Frame.ite | apply State.Frame.foldl | refine State.Frame.ofPair ?_ (by assumption) | split) | apply State.Frame.foldlFst | refine State.Frame.ofPair ?_ (by assumption) | split | dsimp only)

theorem execFovRx_frame (h : s.Frame n o) (hn : Covers n 0x82786a) : ∀ x0 x1, Out.Frame n o (execFovRx x0 x1 s) := by
  intros
  unfold execFovRx
  with_reducible repeat' (first | intro _ | assumption | exact Covers.trans hn (by decide) | apply State.takeSet_frame | apply State.moveSession_frame | apply State.startFailover_frame | apply State.modFov_frame | apply State.Frame.foldl | apply Out.Frame.next | apply State.Frame.ite | (apply State.Frame.mk' <;> first | exact .inl (Covers.bit hn (by decide)) | exact .inr rfl | assumption | apply State.takeSet_frame | apply State.moveSession_frame | apply State.startFailover_frame | apply State.modFov_frame | apply State.Frame.ite | apply State.Frame.foldl | refine State.Frame.ofPair ?_ (by assumption) | split) | apply State.Frame.foldlFst | refine State.Frame.ofPair ?_ (by assumption) | split | dsimp only)

theorem State.startTrack_frame (h : s.Frame n o) (hn : Covers n 0x22) : ∀ x1, (State.startTrack s x1).Frame n o := by
  intros
  unfold State.startTrack
  with_reducible repeat' (first | intro _ | assumption | exact Covers.trans hn (by decide) | apply State.beginAttempt_frame | apply State.setDomain_frame | apply State.Frame.foldl | apply State.Frame.ite | (apply State.Frame.mk' <;> first | exact .inl (Covers.bit hn (by decide)) | exact .inr rfl | assumption | apply State.beginAttempt_frame | apply State.setDomain_frame | apply State.Frame.ite | apply State.Frame.foldl | refine State.Frame.ofPair ?_ (by assumption) | split) | apply State.Frame.foldlFst | refine State.Frame.ofPair ?_ (by assumption) | split | dsimp only)

theorem State.nextPilot_frame (h : s.Frame n o) (hn : Covers n 0x200022) : ∀ x1, (State.nextPilot s x1).Frame n o := by
  intros
  unfold State.nextPilot
  with_reducible repeat' (first | intro _ | assumption | exact Covers.trans hn (by decide) | apply State.startTrack_frame | apply State.Frame.foldl | apply State.Frame.ite | (apply State.Frame.mk' <;> first | exact .inl (Covers.bit hn (by decide)) | exact .inr rfl | assumption | apply State.startTrack_frame | apply State.Frame.ite | apply State.Frame.foldl | refine State.Frame.ofPair ?_ (by assumption) | split) | apply State.Frame.foldlFst | refine State.Frame.ofPair ?_ (by assumption) | split | dsimp only)

theorem State.goDown_frame (h : s.Frame n o) (hn : Covers n 0xa2786a) : ∀ x1, (State.goDown s x1).Frame n o := by
  intros
  unfold State.goDown
  with_reducible repeat' (first | intro _ | assumption | exact Covers.trans hn (by decide) | apply State.raise_frame | apply State.setFld_frame | apply State.modTrn_frame | apply State.nextPilot_frame | apply State.startFailover_frame | apply State.Frame.foldl | apply State.Frame.ite | (apply State.Frame.mk' <;> first | exact .inl (Covers.bit hn (by decide)) | exact .inr rfl | assumption | apply State.raise_frame | apply State.setFld_frame | apply State.modTrn_frame | apply State.nextPilot_frame | apply State.startFailover_frame | apply State.Frame.ite | apply State.Frame.foldl | refine State.Frame.ofPair ?_ (by assumption) | split) | apply State.Frame.foldlFst | refine State.Frame.ofPair ?_ (by assumption) | split | dsimp only)

theorem State.failAttempt_frame (h : s.Frame n o) (hn : Covers n 0xa2786a) : ∀ x1 x2, (State.failAttempt s x1 x2).Frame n o := by
  intros
  unfold State.failAttempt
  with_reducible repeat' (first | intro _ | assumption | exact Covers.trans hn (by decide) | apply State.setFld_frame | apply State.beginAttempt_frame | apply State.goDown_frame | apply State.Frame.foldl | apply State.Frame.ite | (apply State.Frame.mk' <;> first | exact .inl (Covers.bit hn (by decide)) | exact .inr rfl | assumption | apply State.setFld_frame | apply State.beginAttempt_frame | apply State.goDown_frame | apply State.Frame.ite | apply State.Frame.foldl | refine State.Frame.ofPair ?_ (by assumption) | split) | apply State.Frame.foldlFst | refine State.Frame.ofPair ?_ (by assumption) | split | dsimp only)

theorem State.deskew_frame (h : s.Frame n o) (hn : Covers n 0xa2786a) : ∀ x1 x2, (State.deskew s x1 x2).Frame n o := by
  intros
  unfold State.deskew
  with_reducible repeat' (first | intro _ | assumption | exact Covers.trans hn (by decide) | apply State.failAttempt_frame | apply State.raise_frame | apply State.setRxLane_frame | apply State.setFld_frame | apply State.modTrk_frame | apply State.modRx_frame | apply State.Frame.foldl | apply State.Frame.ite | (apply State.Frame.mk' <;> first | exact .inl (Covers.bit hn (by decide)) | exact .inr rfl | assumption | apply State.failAttempt_frame | apply State.raise_frame | apply State.setRxLane_frame | apply State.setFld_frame | apply State.modTrk_frame | apply State.modRx_frame | apply State.Frame.ite | apply State.Frame.foldl | refine State.Frame.ofPair ?_ (by assumption) | split) | apply State.Frame.foldlFst | refine State.Frame.ofPair ?_ (by assumption) | split | dsimp only)

theorem State.enterPhase_frame (h : s.Frame n o) (hn : Covers n 0x22) : ∀ x1 x2 x3, (State.enterPhase s x1 x2 x3).Frame n o := by
  intros
  unfold State.enterPhase
  with_reducible repeat' (first | intro _ | assumption | exact Covers.trans hn (by decide) | apply State.modTrk_frame | apply State.setFld_frame | apply State.Frame.foldl | apply State.Frame.ite | (apply State.Frame.mk' <;> first | exact .inl (Covers.bit hn (by decide)) | exact .inr rfl | assumption | apply State.modTrk_frame | apply State.setFld_frame | apply State.Frame.ite | apply State.Frame.foldl | refine State.Frame.ofPair ?_ (by assumption) | split) | apply State.Frame.foldlFst | refine State.Frame.ofPair ?_ (by assumption) | split | dsimp only)

theorem State.advance_frame (h : s.Frame n o) (hn : Covers n 0xa2786a) : ∀ x1 x2, (State.advance s x1 x2).Frame n o := by
  intros
  unfold State.advance
  with_reducible repeat' (first | intro _ | assumption | exact Covers.trans hn (by decide) | apply State.setFld_frame | apply State.deskew_frame | apply State.enterPhase_frame | apply State.Frame.foldl | apply State.Frame.ite | (apply State.Frame.mk' <;> first | exact .inl (Covers.bit hn (by decide)) | exact .inr rfl | assumption | apply State.setFld_frame | apply State.deskew_frame | apply State.enterPhase_frame | apply State.Frame.ite | apply State.Frame.foldl | refine State.Frame.ofPair ?_ (by assumption) | split) | apply State.Frame.foldlFst | refine State.Frame.ofPair ?_ (by assumption) | split | dsimp only)

theorem State.slotLanes_frame (h : s.Frame n o) (hn : Covers n 0x22) : ∀ x1 x2 x3, (State.slotLanes s x1 x2 x3).Frame n o := by
  intros
  unfold State.slotLanes
  with_reducible repeat' (first | intro _ | assumption | exact Covers.trans hn (by decide) | apply State.upTo_frame | apply State.when_frame | apply State.setRxLane_frame | apply State.setFld_frame | apply State.Frame.foldl | apply State.Frame.ite | (apply State.Frame.mk' <;> first | exact .inl (Covers.bit hn (by decide)) | exact .inr rfl | assumption | apply State.upTo_frame | apply State.when_frame | apply State.setRxLane_frame | apply State.setFld_frame | apply State.Frame.ite | apply State.Frame.foldl | refine State.Frame.ofPair ?_ (by assumption) | split) | apply State.Frame.foldlFst | refine State.Frame.ofPair ?_ (by assumption) | split | dsimp only)

theorem execTs1Rx_frame (h : s.Frame n o) (hn : Covers n 0xa2786a) : ∀ x0 x1 x2 x3, Out.Frame n o (execTs1Rx x0 x1 x2 x3 s) := by
  intros
  unfold execTs1Rx
  with_reducible repeat' (first | intro _ | assumption | exact Covers.trans hn (by decide) | apply State.retrain_frame | apply State.takeSet_frame | apply State.beginAttempt_frame | apply State.advance_frame | apply State.modTrn_frame | apply State.slotLanes_frame | apply State.Frame.foldl | apply Out.Frame.next | apply State.Frame.ite | (apply State.Frame.mk' <;> first | exact .inl (Covers.bit hn (by decide)) | exact .inr rfl | assumption | apply State.retrain_frame | apply State.takeSet_frame | apply State.beginAttempt_frame | apply State.advance_frame | apply State.modTrn_frame | apply State.slotLanes_frame | apply State.Frame.ite | apply State.Frame.foldl | refine State.Frame.ofPair ?_ (by assumption) | split) | apply State.Frame.foldlFst | refine State.Frame.ofPair ?_ (by assumption) | split | dsimp only)

theorem execTs2Rx_frame (h : s.Frame n o) (hn : Covers n 0xa2786a) : ∀ x0 x1 x2 x3, Out.Frame n o (execTs2Rx x0 x1 x2 x3 s) := by
  intros
  unfold execTs2Rx
  with_reducible repeat' (first | intro _ | assumption | exact Covers.trans hn (by decide) | apply State.advance_frame | apply State.modTrn_frame | apply State.takeSet_frame | apply State.slotLanes_frame | apply State.Frame.foldl | apply Out.Frame.next | apply State.Frame.ite | (apply State.Frame.mk' <;> first | exact .inl (Covers.bit hn (by decide)) | exact .inr rfl | assumption | apply State.advance_frame | apply State.modTrn_frame | apply State.takeSet_frame | apply State.slotLanes_frame | apply State.Frame.ite | apply State.Frame.foldl | refine State.Frame.ofPair ?_ (by assumption) | split) | apply State.Frame.foldlFst | refine State.Frame.ofPair ?_ (by assumption) | split | dsimp only)

theorem execCalWindowEnd_frame (h : s.Frame n o) (hn : Covers n 0xa2786a) : ∀ x0 x1 x2, Out.Frame n o (execCalWindowEnd x0 x1 x2 s) := by
  intros
  unfold execCalWindowEnd
  with_reducible repeat' (first | intro _ | assumption | exact Covers.trans hn (by decide) | apply State.advance_frame | apply State.closeWindow_frame | apply State.Frame.foldl | apply Out.Frame.next | apply State.Frame.ite | (apply State.Frame.mk' <;> first | exact .inl (Covers.bit hn (by decide)) | exact .inr rfl | assumption | apply State.advance_frame | apply State.closeWindow_frame | apply State.Frame.ite | apply State.Frame.foldl | refine State.Frame.ofPair ?_ (by assumption) | split) | apply State.Frame.foldlFst | refine State.Frame.ofPair ?_ (by assumption) | split | dsimp only)

theorem State.propose_frame (h : s.Frame n o) (hn : Covers n 0xa2786a) : ∀ x1 x2, (State.propose s x1 x2).Frame n o := by
  intros
  unfold State.propose
  with_reducible repeat' (first | intro _ | assumption | exact Covers.trans hn (by decide) | apply State.failAttempt_frame | apply State.modTrn_frame | apply State.Frame.foldl | apply State.Frame.ite | (apply State.Frame.mk' <;> first | exact .inl (Covers.bit hn (by decide)) | exact .inr rfl | assumption | apply State.failAttempt_frame | apply State.modTrn_frame | apply State.Frame.ite | apply State.Frame.foldl | refine State.Frame.ofPair ?_ (by assumption) | split) | apply State.Frame.foldlFst | refine State.Frame.ofPair ?_ (by assumption) | split | dsimp only)

theorem execCapRx_frame (h : s.Frame n o) (hn : Covers n 0xa2786a) : ∀ x0 x1, Out.Frame n o (execCapRx x0 x1 s) := by
  intros
  unfold execCapRx
  with_reducible repeat' (first | intro _ | assumption | exact Covers.trans hn (by decide) | apply State.takeSet_frame | apply State.failAttempt_frame | apply State.setFld_frame | apply State.modTrn_frame | apply State.propose_frame | apply State.enterPhase_frame | apply State.Frame.foldl | apply Out.Frame.next | apply State.Frame.ite | (apply State.Frame.mk' <;> first | exact .inl (Covers.bit hn (by decide)) | exact .inr rfl | assumption | apply State.takeSet_frame | apply State.failAttempt_frame | apply State.setFld_frame | apply State.modTrn_frame | apply State.propose_frame | apply State.enterPhase_frame | apply State.Frame.ite | apply State.Frame.foldl | refine State.Frame.ofPair ?_ (by assumption) | split) | apply State.Frame.foldlFst | refine State.Frame.ofPair ?_ (by assumption) | split | dsimp only)

theorem State.applyMap_frame (h : s.Frame n o) (hn : Covers n 0x2) : ∀ x1 x2 x3 x4, (State.applyMap s x1 x2 x3 x4).Frame n o := by
  intros
  unfold State.applyMap
  with_reducible repeat' (first | intro _ | assumption | exact Covers.trans hn (by decide) | apply State.activateSpare_frame | apply State.setFld_frame | apply State.Frame.foldl | apply State.Frame.ite | (apply State.Frame.mk' <;> first | exact .inl (Covers.bit hn (by decide)) | exact .inr rfl | assumption | apply State.activateSpare_frame | apply State.setFld_frame | apply State.Frame.ite | apply State.Frame.foldl | refine State.Frame.ofPair ?_ (by assumption) | split) | apply State.Frame.foldlFst | refine State.Frame.ofPair ?_ (by assumption) | split | dsimp only)

theorem State.mapsAgreed_frame (h : s.Frame n o) (hn : Covers n 0x22) : ∀ x1 x2 x3, (State.mapsAgreed s x1 x2 x3).Frame n o := by
  intros
  unfold State.mapsAgreed
  with_reducible repeat' (first | intro _ | assumption | exact Covers.trans hn (by decide) | apply State.modTrn_frame | apply State.applyMap_frame | apply State.enterPhase_frame | apply State.Frame.foldl | apply State.Frame.ite | (apply State.Frame.mk' <;> first | exact .inl (Covers.bit hn (by decide)) | exact .inr rfl | assumption | apply State.modTrn_frame | apply State.applyMap_frame | apply State.enterPhase_frame | apply State.Frame.ite | apply State.Frame.foldl | refine State.Frame.ofPair ?_ (by assumption) | split) | apply State.Frame.foldlFst | refine State.Frame.ofPair ?_ (by assumption) | split | dsimp only)

theorem execSmapRx_frame (h : s.Frame n o) (hn : Covers n 0xa2786a) : ∀ x0 x1, Out.Frame n o (execSmapRx x0 x1 s) := by
  intros
  unfold execSmapRx
  with_reducible repeat' (first | intro _ | assumption | exact Covers.trans hn (by decide) | apply State.takeSet_frame | apply State.propose_frame | apply State.modTrn_frame | apply State.mapsAgreed_frame | apply State.Frame.foldl | apply Out.Frame.next | apply State.Frame.ite | (apply State.Frame.mk' <;> first | exact .inl (Covers.bit hn (by decide)) | exact .inr rfl | assumption | apply State.takeSet_frame | apply State.propose_frame | apply State.modTrn_frame | apply State.mapsAgreed_frame | apply State.Frame.ite | apply State.Frame.foldl | refine State.Frame.ofPair ?_ (by assumption) | split) | apply State.Frame.foldlFst | refine State.Frame.ofPair ?_ (by assumption) | split | dsimp only)

theorem State.granted_frame (h : s.Frame n o) (hn : Covers n 0x22) : ∀ x1 x2, (State.granted s x1 x2).Frame n o := by
  intros
  unfold State.granted
  with_reducible repeat' (first | intro _ | assumption | exact Covers.trans hn (by decide) | apply State.modTrn_frame | apply State.enterPhase_frame | apply State.Frame.foldl | apply State.Frame.ite | (apply State.Frame.mk' <;> first | exact .inl (Covers.bit hn (by decide)) | exact .inr rfl | assumption | apply State.modTrn_frame | apply State.enterPhase_frame | apply State.Frame.ite | apply State.Frame.foldl | refine State.Frame.ofPair ?_ (by assumption) | split) | apply State.Frame.foldlFst | refine State.Frame.ofPair ?_ (by assumption) | split | dsimp only)

theorem execGrantRx_frame (h : s.Frame n o) (hn : Covers n 0xa2786a) : ∀ x0 x1, Out.Frame n o (execGrantRx x0 x1 s) := by
  intros
  unfold execGrantRx
  with_reducible repeat' (first | intro _ | assumption | exact Covers.trans hn (by decide) | apply State.takeSet_frame | apply State.granted_frame | apply State.modTrn_frame | apply State.failAttempt_frame | apply State.endSession_frame | apply State.raise_frame | apply State.freshSession_frame | apply State.Frame.foldl | apply Out.Frame.next | apply State.Frame.ite | (apply State.Frame.mk' <;> first | exact .inl (Covers.bit hn (by decide)) | exact .inr rfl | assumption | apply State.takeSet_frame | apply State.granted_frame | apply State.modTrn_frame | apply State.failAttempt_frame | apply State.endSession_frame | apply State.raise_frame | apply State.freshSession_frame | apply State.Frame.ite | apply State.Frame.foldl | refine State.Frame.ofPair ?_ (by assumption) | split) | apply State.Frame.foldlFst | refine State.Frame.ofPair ?_ (by assumption) | split | dsimp only)

theorem State.announceTo_frame (h : s.Frame n o) (hn : Covers n 0x20) : ∀ x1, (State.announceTo s x1).Frame n o := by
  intros
  unfold State.announceTo
  with_reducible repeat' (first | intro _ | assumption | exact Covers.trans hn (by decide) | apply State.queueSet_frame | apply State.modTrn_frame | apply State.Frame.foldl | apply State.Frame.ite | (apply State.Frame.mk' <;> first | exact .inl (Covers.bit hn (by decide)) | exact .inr rfl | assumption | apply State.queueSet_frame | apply State.modTrn_frame | apply State.Frame.ite | apply State.Frame.foldl | refine State.Frame.ofPair ?_ (by assumption) | split) | apply State.Frame.foldlFst | refine State.Frame.ofPair ?_ (by assumption) | split | dsimp only)

theorem State.rejoin_frame (h : s.Frame n o) (hn : Covers n 0x20) : ∀ x1, (State.rejoin s x1).Frame n o := by
  intros
  unfold State.rejoin
  with_reducible repeat' (first | intro _ | assumption | exact Covers.trans hn (by decide) | apply State.upTo_frame | apply State.modSes_frame | apply State.queueSet_frame | apply State.Frame.foldl | apply State.Frame.ite | (apply State.Frame.mk' <;> first | exact .inl (Covers.bit hn (by decide)) | exact .inr rfl | assumption | apply State.upTo_frame | apply State.modSes_frame | apply State.queueSet_frame | apply State.Frame.ite | apply State.Frame.foldl | refine State.Frame.ofPair ?_ (by assumption) | split) | apply State.Frame.foldlFst | refine State.Frame.ofPair ?_ (by assumption) | split | dsimp only)

theorem State.becomeReady_frame (h : s.Frame n o) (hn : Covers n 0x82786a) : ∀ x1, (State.becomeReady s x1).Frame n o := by
  intros
  unfold State.becomeReady
  with_reducible repeat' (first | intro _ | assumption | exact Covers.trans hn (by decide) | apply State.setFld_frame | apply State.takeAck_frame | apply State.rejoin_frame | apply State.announceTo_frame | apply State.modTrk_frame | apply State.Frame.foldl | apply State.Frame.ite | (apply State.Frame.mk' <;> first | exact .inl (Covers.bit hn (by decide)) | exact .inr rfl | assumption | apply State.setFld_frame | apply State.takeAck_frame | apply State.rejoin_frame | apply State.announceTo_frame | apply State.modTrk_frame | apply State.Frame.ite | apply State.Frame.foldl | refine State.Frame.ofPair ?_ (by assumption) | split) | apply State.Frame.foldlFst | refine State.Frame.ofPair ?_ (by assumption) | split | dsimp only)

theorem execRdyRx_frame (h : s.Frame n o) (hn : Covers n 0x20) : ∀ x0, Out.Frame n o (execRdyRx x0 s) := by
  intros
  unfold execRdyRx
  with_reducible repeat' (first | intro _ | assumption | exact Covers.trans hn (by decide) | apply State.takeSet_frame | apply State.modTrn_frame | apply State.Frame.foldl | apply Out.Frame.next | apply State.Frame.ite | (apply State.Frame.mk' <;> first | exact .inl (Covers.bit hn (by decide)) | exact .inr rfl | assumption | apply State.takeSet_frame | apply State.modTrn_frame | apply State.Frame.ite | apply State.Frame.foldl | refine State.Frame.ofPair ?_ (by assumption) | split) | apply State.Frame.foldlFst | refine State.Frame.ofPair ?_ (by assumption) | split | dsimp only)

theorem execResetSetRx_frame (h : s.Frame n o) (hn : Covers n 0x3fffd7e) : ∀ x0 x1 x2, Out.Frame n o (execResetSetRx x0 x1 x2 s) := by
  intros
  unfold execResetSetRx
  with_reducible repeat' (first | intro _ | assumption | exact Covers.trans hn (by decide) | apply State.modTrn_frame | apply State.takeSet_frame | apply State.chipReset_frame | apply State.upTo_frame | apply State.raise_frame | apply State.Frame.foldl | apply Out.Frame.next | apply State.Frame.ite | (apply State.Frame.mk' <;> first | exact .inl (Covers.bit hn (by decide)) | exact .inr rfl | assumption | apply State.modTrn_frame | apply State.takeSet_frame | apply State.chipReset_frame | apply State.upTo_frame | apply State.raise_frame | apply State.Frame.ite | apply State.Frame.foldl | refine State.Frame.ofPair ?_ (by assumption) | split) | apply State.Frame.foldlFst | refine State.Frame.ofPair ?_ (by assumption) | split | dsimp only)

theorem execTrainPhaseTimeout_frame (h : s.Frame n o) (hn : Covers n 0xa2786a) : ∀ x0, Out.Frame n o (execTrainPhaseTimeout x0 s) := by
  intros
  unfold execTrainPhaseTimeout
  with_reducible repeat' (first | intro _ | assumption | exact Covers.trans hn (by decide) | apply State.failAttempt_frame | apply State.raise_frame | apply State.upTo_frame | apply State.setRxLane_frame | apply State.advance_frame | apply State.Frame.foldl | apply Out.Frame.next | apply State.Frame.ite | (apply State.Frame.mk' <;> first | exact .inl (Covers.bit hn (by decide)) | exact .inr rfl | assumption | apply State.failAttempt_frame | apply State.raise_frame | apply State.upTo_frame | apply State.setRxLane_frame | apply State.advance_frame | apply State.Frame.ite | apply State.Frame.foldl | refine State.Frame.ofPair ?_ (by assumption) | split) | apply State.Frame.foldlFst | refine State.Frame.ofPair ?_ (by assumption) | split | dsimp only)

theorem execTrainRetryPeriod_frame (h : s.Frame n o) (hn : Covers n 0x22) : ∀ x0, Out.Frame n o (execTrainRetryPeriod x0 s) := by
  intros
  unfold execTrainRetryPeriod
  with_reducible repeat' (first | intro _ | assumption | exact Covers.trans hn (by decide) | apply State.beginAttempt_frame | apply State.Frame.foldl | apply Out.Frame.next | apply State.Frame.ite | (apply State.Frame.mk' <;> first | exact .inl (Covers.bit hn (by decide)) | exact .inr rfl | assumption | apply State.beginAttempt_frame | apply State.Frame.ite | apply State.Frame.foldl | refine State.Frame.ofPair ?_ (by assumption) | split) | apply State.Frame.foldlFst | refine State.Frame.ofPair ?_ (by assumption) | split | dsimp only)

theorem State.modCen_frame (h : s.Frame n o) (hn : Covers n 0x20) : ∀ x1 x2, (State.modCen s x1 x2).Frame n o := by
  intros
  unfold State.modCen
  with_reducible repeat' (first | intro _ | assumption | exact Covers.trans hn (by decide) | apply State.modTrk_frame | apply State.Frame.foldl | apply State.Frame.ite | (apply State.Frame.mk' <;> first | exact .inl (Covers.bit hn (by decide)) | exact .inr rfl | assumption | apply State.modTrk_frame | apply State.Frame.ite | apply State.Frame.foldl | refine State.Frame.ofPair ?_ (by assumption) | split) | apply State.Frame.foldlFst | refine State.Frame.ofPair ?_ (by assumption) | split | dsimp only)

theorem State.startRound_frame (h : s.Frame n o) (hn : Covers n 0x22) : ∀ x1, (State.startRound s x1).Frame n o := by
  intros
  unfold State.startRound
  with_reducible repeat' (first | intro _ | assumption | exact Covers.trans hn (by decide) | apply State.setFld_frame | apply State.queueSet_frame | apply State.modCen_frame | apply State.Frame.foldl | apply State.Frame.ite | (apply State.Frame.mk' <;> first | exact .inl (Covers.bit hn (by decide)) | exact .inr rfl | assumption | apply State.setFld_frame | apply State.queueSet_frame | apply State.modCen_frame | apply State.Frame.ite | apply State.Frame.foldl | refine State.Frame.ofPair ?_ (by assumption) | split) | apply State.Frame.foldlFst | refine State.Frame.ofPair ?_ (by assumption) | split | dsimp only)

theorem State.takeCut_frame (h : s.Frame n o) (hn : Covers n 0x20) : ∀ x1, (State.takeCut s x1).Frame n o := by
  intros
  unfold State.takeCut
  with_reducible repeat' (first | intro _ | assumption | exact Covers.trans hn (by decide) | apply State.modCen_frame | apply State.Frame.foldl | apply State.Frame.ite | (apply State.Frame.mk' <;> first | exact .inl (Covers.bit hn (by decide)) | exact .inr rfl | assumption | apply State.modCen_frame | apply State.Frame.ite | apply State.Frame.foldl | refine State.Frame.ofPair ?_ (by assumption) | split) | apply State.Frame.foldlFst | refine State.Frame.ofPair ?_ (by assumption) | split | dsimp only)

theorem execCensusInterval_frame (h : s.Frame n o) (hn : Covers n 0x122) : Out.Frame n o (execCensusInterval s) := by
  unfold execCensusInterval
  with_reducible repeat' (first | intro _ | assumption | exact Covers.trans hn (by decide) | apply State.upTo_frame | apply State.startRound_frame | apply State.Frame.foldl | apply Out.Frame.next | apply State.Frame.ite | (apply State.Frame.mk' <;> first | exact .inl (Covers.bit hn (by decide)) | exact .inr rfl | assumption | apply State.upTo_frame | apply State.startRound_frame | apply State.Frame.ite | apply State.Frame.foldl | refine State.Frame.ofPair ?_ (by assumption) | split) | apply State.Frame.foldlFst | refine State.Frame.ofPair ?_ (by assumption) | split | dsimp only)

theorem execCensusRepeat_frame (h : s.Frame n o) (hn : Covers n 0x20) : ∀ x0, Out.Frame n o (execCensusRepeat x0 s) := by
  intros
  unfold execCensusRepeat
  with_reducible repeat' (first | intro _ | assumption | exact Covers.trans hn (by decide) | apply State.queueSet_frame | apply State.Frame.foldl | apply Out.Frame.next | apply State.Frame.ite | (apply State.Frame.mk' <;> first | exact .inl (Covers.bit hn (by decide)) | exact .inr rfl | assumption | apply State.queueSet_frame | apply State.Frame.ite | apply State.Frame.foldl | refine State.Frame.ofPair ?_ (by assumption) | split) | apply State.Frame.foldlFst | refine State.Frame.ofPair ?_ (by assumption) | split | dsimp only)

theorem State.checkCensus_frame (h : s.Frame n o) (hn : Covers n 0x82786a) : ∀ x1, (State.checkCensus s x1).Frame n o := by
  intros
  unfold State.checkCensus
  with_reducible repeat' (first | intro _ | assumption | exact Covers.trans hn (by decide) | apply State.modCen_frame | apply State.setFld_frame | apply State.raise_frame | apply State.Frame.foldl | apply State.Frame.ite | (apply State.Frame.mk' <;> first | exact .inl (Covers.bit hn (by decide)) | exact .inr rfl | assumption | apply State.modCen_frame | apply State.setFld_frame | apply State.raise_frame | apply State.Frame.ite | apply State.Frame.foldl | refine State.Frame.ofPair ?_ (by assumption) | split) | apply State.Frame.foldlFst | refine State.Frame.ofPair ?_ (by assumption) | split | dsimp only)

theorem execCenRx_frame (h : s.Frame n o) (hn : Covers n 0x82786a) : ∀ x0 x1, Out.Frame n o (execCenRx x0 x1 s) := by
  intros
  unfold execCenRx
  with_reducible repeat' (first | intro _ | assumption | exact Covers.trans hn (by decide) | apply State.takeSet_frame | apply State.checkCensus_frame | apply State.modCen_frame | apply State.Frame.foldl | apply Out.Frame.next | apply State.Frame.ite | (apply State.Frame.mk' <;> first | exact .inl (Covers.bit hn (by decide)) | exact .inr rfl | assumption | apply State.takeSet_frame | apply State.checkCensus_frame | apply State.modCen_frame | apply State.Frame.ite | apply State.Frame.foldl | refine State.Frame.ofPair ?_ (by assumption) | split) | apply State.Frame.foldlFst | refine State.Frame.ofPair ?_ (by assumption) | split | dsimp only)

theorem execCensusReplyTimeout_frame (h : s.Frame n o) (hn : Covers n 0x82786a) : ∀ x0, Out.Frame n o (execCensusReplyTimeout x0 s) := by
  intros
  unfold execCensusReplyTimeout
  with_reducible repeat' (first | intro _ | assumption | exact Covers.trans hn (by decide) | apply State.setFld_frame | apply State.modCen_frame | apply State.raise_frame | apply State.retrain_frame | apply State.Frame.foldl | apply Out.Frame.next | apply State.Frame.ite | (apply State.Frame.mk' <;> first | exact .inl (Covers.bit hn (by decide)) | exact .inr rfl | assumption | apply State.setFld_frame | apply State.modCen_frame | apply State.raise_frame | apply State.retrain_frame | apply State.Frame.ite | apply State.Frame.foldl | refine State.Frame.ofPair ?_ (by assumption) | split) | apply State.Frame.foldlFst | refine State.Frame.ofPair ?_ (by assumption) | split | dsimp only)

/-! ### Receive -/

theorem State.badSkip_frame (h : s.Frame n o) (hn : Covers n 0x22) : ∀ x1 x2 x3 x4, (State.badSkip s x1 x2 x3 x4).Frame n o := by
  intros
  unfold State.badSkip
  with_reducible repeat' (first | intro _ | assumption | exact Covers.trans hn (by decide) | apply State.laneViol_frame | apply State.Frame.foldl | apply State.Frame.ite | (apply State.Frame.mk' <;> first | exact .inl (Covers.bit hn (by decide)) | exact .inr rfl | assumption | apply State.laneViol_frame | apply State.Frame.ite | apply State.Frame.foldl | refine State.Frame.ofPair ?_ (by assumption) | split) | apply State.Frame.foldlFst | refine State.Frame.ofPair ?_ (by assumption) | split | dsimp only)

theorem State.badSkips_frame (h : s.Frame n o) (hn : Covers n 0x22) : ∀ x1 x2, (State.badSkips s x1 x2).Frame n o := by
  intros
  unfold State.badSkips
  with_reducible repeat' (first | intro _ | assumption | exact Covers.trans hn (by decide) | apply State.upTo_frame | apply State.badSkip_frame | apply State.Frame.foldl | apply State.Frame.ite | (apply State.Frame.mk' <;> first | exact .inl (Covers.bit hn (by decide)) | exact .inr rfl | assumption | apply State.upTo_frame | apply State.badSkip_frame | apply State.Frame.ite | apply State.Frame.foldl | refine State.Frame.ofPair ?_ (by assumption) | split) | apply State.Frame.foldlFst | refine State.Frame.ofPair ?_ (by assumption) | split | dsimp only)

theorem State.badEies_frame (h : s.Frame n o) (hn : Covers n 0x22) : ∀ x1 x2, (State.badEies s x1 x2).Frame n o := by
  intros
  unfold State.badEies
  with_reducible repeat' (first | intro _ | assumption | exact Covers.trans hn (by decide) | apply State.upTo_frame | apply State.badSkip_frame | apply State.Frame.foldl | apply State.Frame.ite | (apply State.Frame.mk' <;> first | exact .inl (Covers.bit hn (by decide)) | exact .inr rfl | assumption | apply State.upTo_frame | apply State.badSkip_frame | apply State.Frame.ite | apply State.Frame.foldl | refine State.Frame.ofPair ?_ (by assumption) | split) | apply State.Frame.foldlFst | refine State.Frame.ofPair ?_ (by assumption) | split | dsimp only)

theorem State.closeMsgs_frame (h : s.Frame n o) (hn : Covers n 0x20) : ∀ x1, (State.closeMsgs s x1).Frame n o := by
  intros
  unfold State.closeMsgs
  with_reducible repeat' (first | intro _ | assumption | exact Covers.trans hn (by decide) | apply State.modTrk_frame | apply State.Frame.foldl | apply State.Frame.ite | (apply State.Frame.mk' <;> first | exact .inl (Covers.bit hn (by decide)) | exact .inr rfl | assumption | apply State.modTrk_frame | apply State.Frame.ite | apply State.Frame.foldl | refine State.Frame.ofPair ?_ (by assumption) | split) | apply State.Frame.foldlFst | refine State.Frame.ofPair ?_ (by assumption) | split | dsimp only)

theorem State.takeMsgs_frame (h : s.Frame n o) (hn : Covers n 0x20) : ∀ x1 x2, (State.takeMsgs s x1 x2).Frame n o := by
  intros
  unfold State.takeMsgs
  with_reducible repeat' (first | intro _ | assumption | exact Covers.trans hn (by decide) | apply State.modRx_frame | apply State.Frame.foldl | apply State.Frame.ite | (apply State.Frame.mk' <;> first | exact .inl (Covers.bit hn (by decide)) | exact .inr rfl | assumption | apply State.modRx_frame | apply State.Frame.ite | apply State.Frame.foldl | refine State.Frame.ofPair ?_ (by assumption) | split) | apply State.Frame.foldlFst | refine State.Frame.ofPair ?_ (by assumption) | split | dsimp only)

theorem State.setLanes_frame (h : s.Frame n o) (hn : Covers n 0x22) : ∀ x1 x2, (State.setLanes s x1 x2).Frame n o := by
  intros
  unfold State.setLanes
  with_reducible repeat' (first | intro _ | assumption | exact Covers.trans hn (by decide) | apply State.upTo_frame | apply State.when_frame | apply State.setRxLane_frame | apply State.setFld_frame | apply State.Frame.foldl | apply State.Frame.ite | (apply State.Frame.mk' <;> first | exact .inl (Covers.bit hn (by decide)) | exact .inr rfl | assumption | apply State.upTo_frame | apply State.when_frame | apply State.setRxLane_frame | apply State.setFld_frame | apply State.Frame.ite | apply State.Frame.foldl | refine State.Frame.ofPair ?_ (by assumption) | split) | apply State.Frame.foldlFst | refine State.Frame.ofPair ?_ (by assumption) | split | dsimp only)

theorem State.setRow_frame (h : s.Frame n o) (hn : Covers n 0x22) : ∀ x1 x2, (State.setRow s x1 x2).Frame n o := by
  intros
  unfold State.setRow
  with_reducible repeat' (first | intro _ | assumption | exact Covers.trans hn (by decide) | apply State.setLanes_frame | apply State.modTrn_frame | apply State.modRx_frame | apply State.Frame.foldl | apply State.Frame.ite | (apply State.Frame.mk' <;> first | exact .inl (Covers.bit hn (by decide)) | exact .inr rfl | assumption | apply State.setLanes_frame | apply State.modTrn_frame | apply State.modRx_frame | apply State.Frame.ite | apply State.Frame.foldl | refine State.Frame.ofPair ?_ (by assumption) | split) | apply State.Frame.foldlFst | refine State.Frame.ofPair ?_ (by assumption) | split | dsimp only)

theorem State.rxWake_frame (h : s.Frame n o) (hn : Covers n 0x20) : ∀ x1, (State.rxWake s x1).Frame n o := by
  intros
  unfold State.rxWake
  with_reducible repeat' (first | intro _ | assumption | exact Covers.trans hn (by decide) | apply State.modTrk_frame | apply State.Frame.foldl | apply State.Frame.ite | (apply State.Frame.mk' <;> first | exact .inl (Covers.bit hn (by decide)) | exact .inr rfl | assumption | apply State.modTrk_frame | apply State.Frame.ite | apply State.Frame.foldl | refine State.Frame.ofPair ?_ (by assumption) | split) | apply State.Frame.foldlFst | refine State.Frame.ofPair ?_ (by assumption) | split | dsimp only)

theorem State.relock_frame (h : s.Frame n o) (hn : Covers n 0x20) : ∀ x1 x2, (State.relock s x1 x2).Frame n o := by
  intros
  unfold State.relock
  with_reducible repeat' (first | intro _ | assumption | exact Covers.trans hn (by decide) | apply State.modTrk_frame | apply State.Frame.foldl | apply State.Frame.ite | (apply State.Frame.mk' <;> first | exact .inl (Covers.bit hn (by decide)) | exact .inr rfl | assumption | apply State.modTrk_frame | apply State.Frame.ite | apply State.Frame.foldl | refine State.Frame.ofPair ?_ (by assumption) | split) | apply State.Frame.foldlFst | refine State.Frame.ofPair ?_ (by assumption) | split | dsimp only)

theorem State.rxHeader_frame (h : s.Frame n o) (hn : Covers n 0xc278ea) : ∀ x1 x2, (State.rxHeader s x1 x2).Frame n o := by
  intros
  unfold State.rxHeader
  with_reducible repeat' (first | intro _ | assumption | exact Covers.trans hn (by decide) | apply State.closeMsgs_frame | apply State.modTrk_frame | apply State.judgeHeld_frame | apply State.setFld_frame | apply State.relock_frame | apply State.retrain_frame | apply State.raise_frame | apply State.Frame.foldl | apply State.Frame.ite | (apply State.Frame.mk' <;> first | exact .inl (Covers.bit hn (by decide)) | exact .inr rfl | assumption | apply State.closeMsgs_frame | apply State.modTrk_frame | apply State.judgeHeld_frame | apply State.setFld_frame | apply State.relock_frame | apply State.retrain_frame | apply State.raise_frame | apply State.Frame.ite | apply State.Frame.foldl | refine State.Frame.ofPair ?_ (by assumption) | split) | apply State.Frame.foldlFst | refine State.Frame.ofPair ?_ (by assumption) | split | dsimp only)

theorem State.rxEie_frame (h : s.Frame n o) (hn : Covers n 0xc278ea) : ∀ x1 x2, (State.rxEie s x1 x2).Frame n o := by
  intros
  unfold State.rxEie
  with_reducible repeat' (first | intro _ | assumption | exact Covers.trans hn (by decide) | apply State.stall_frame | apply State.modTrk_frame | apply State.setFld_frame | apply State.Frame.foldl | apply State.Frame.ite | (apply State.Frame.mk' <;> first | exact .inl (Covers.bit hn (by decide)) | exact .inr rfl | assumption | apply State.stall_frame | apply State.modTrk_frame | apply State.setFld_frame | apply State.Frame.ite | apply State.Frame.foldl | refine State.Frame.ofPair ?_ (by assumption) | split) | apply State.Frame.foldlFst | refine State.Frame.ofPair ?_ (by assumption) | split | dsimp only)

theorem State.trainIn_frame (h : s.Frame n o) (hn : Covers n 0x22) : ∀ x1 x2, (State.trainIn s x1 x2).Frame n o := by
  intros
  unfold State.trainIn
  with_reducible repeat' (first | intro _ | assumption | exact Covers.trans hn (by decide) | apply State.modRx_frame | apply State.setRow_frame | apply State.Frame.foldl | apply State.Frame.ite | (apply State.Frame.mk' <;> first | exact .inl (Covers.bit hn (by decide)) | exact .inr rfl | assumption | apply State.modRx_frame | apply State.setRow_frame | apply State.Frame.ite | apply State.Frame.foldl | refine State.Frame.ofPair ?_ (by assumption) | split) | apply State.Frame.foldlFst | refine State.Frame.ofPair ?_ (by assumption) | split | dsimp only)

theorem State.dataRowIn_frame (h : s.Frame n o) (hn : Covers n 0xc278ea) : ∀ x1 x2 x3, (State.dataRowIn s x1 x2 x3).Frame n o := by
  intros
  unfold State.dataRowIn
  with_reducible repeat' (first | intro _ | assumption | exact Covers.trans hn (by decide) | apply State.modRx_frame | apply State.takeMsgs_frame | apply State.dataIn_frame | apply State.Frame.foldl | apply State.Frame.ite | (apply State.Frame.mk' <;> first | exact .inl (Covers.bit hn (by decide)) | exact .inr rfl | assumption | apply State.modRx_frame | apply State.takeMsgs_frame | apply State.dataIn_frame | apply State.Frame.ite | apply State.Frame.foldl | refine State.Frame.ofPair ?_ (by assumption) | split) | apply State.Frame.foldlFst | refine State.Frame.ofPair ?_ (by assumption) | split | dsimp only)

theorem State.skipIn_frame (h : s.Frame n o) (hn : Covers n 0x22) : ∀ x1 x2, (State.skipIn s x1 x2).Frame n o := by
  intros
  unfold State.skipIn
  with_reducible repeat' (first | intro _ | assumption | exact Covers.trans hn (by decide) | apply State.modRx_frame | apply State.badSkips_frame | apply State.Frame.foldl | apply State.Frame.ite | (apply State.Frame.mk' <;> first | exact .inl (Covers.bit hn (by decide)) | exact .inr rfl | assumption | apply State.modRx_frame | apply State.badSkips_frame | apply State.Frame.ite | apply State.Frame.foldl | refine State.Frame.ofPair ?_ (by assumption) | split) | apply State.Frame.foldlFst | refine State.Frame.ofPair ?_ (by assumption) | split | dsimp only)

theorem State.rowAction_frame (h : s.Frame n o) (hn : Covers n 0xc278ea) : ∀ x1 x2 x3 x4, (State.rowAction s x1 x2 x3 x4).Frame n o := by
  intros
  unfold State.rowAction
  with_reducible repeat' (first | intro _ | assumption | exact Covers.trans hn (by decide) | apply State.skipIn_frame | apply State.rxHeader_frame | apply State.rxEie_frame | apply State.badEies_frame | apply State.rxWake_frame | apply State.trainIn_frame | apply State.dataRowIn_frame | apply State.Frame.foldl | apply State.Frame.ite | (apply State.Frame.mk' <;> first | exact .inl (Covers.bit hn (by decide)) | exact .inr rfl | assumption | apply State.skipIn_frame | apply State.rxHeader_frame | apply State.rxEie_frame | apply State.badEies_frame | apply State.rxWake_frame | apply State.trainIn_frame | apply State.dataRowIn_frame | apply State.Frame.ite | apply State.Frame.foldl | refine State.Frame.ofPair ?_ (by assumption) | split) | apply State.Frame.foldlFst | refine State.Frame.ofPair ?_ (by assumption) | split | dsimp only)

theorem State.rxLanes_frame (h : s.Frame n o) (hn : Covers n 0x22) : ∀ x1 x2, (State.rxLanes s x1 x2).1.Frame n o := by
  intros
  unfold State.rxLanes
  with_reducible repeat' (first | intro _ | assumption | exact Covers.trans hn (by decide) | apply State.rxSymbol_frame | apply State.Frame.foldl | apply State.Frame.ite | (apply State.Frame.mk' <;> first | exact .inl (Covers.bit hn (by decide)) | exact .inr rfl | assumption | apply State.rxSymbol_frame | apply State.Frame.ite | apply State.Frame.foldl | refine State.Frame.ofPair ?_ (by assumption) | split) | apply State.Frame.foldlFst | refine State.Frame.ofPair ?_ (by assumption) | split | dsimp only)

theorem State.align_frame (h : s.Frame n o) (hn : Covers n 0x20) : ∀ x1 x2, (State.align s x1 x2).1.Frame n o := by
  intros
  unfold State.align
  with_reducible repeat' (first | intro _ | assumption | exact Covers.trans hn (by decide) | apply State.setRxLane_frame | apply State.Frame.foldl | apply State.Frame.ite | (apply State.Frame.mk' <;> first | exact .inl (Covers.bit hn (by decide)) | exact .inr rfl | assumption | apply State.setRxLane_frame | apply State.Frame.ite | apply State.Frame.foldl | refine State.Frame.ofPair ?_ (by assumption) | split) | apply State.Frame.foldlFst | refine State.Frame.ofPair ?_ (by assumption) | split | dsimp only)

theorem State.lockLanes_frame (h : s.Frame n o) (hn : Covers n 0x82786a) : ∀ x1 x2 x3, (State.lockLanes s x1 x2 x3).Frame n o := by
  intros
  unfold State.lockLanes
  with_reducible repeat' (first | intro _ | assumption | exact Covers.trans hn (by decide) | apply State.upTo_frame | apply State.lockStep_frame | apply State.checkErrLimit_frame | apply State.onLockLoss_frame | apply State.Frame.foldl | apply State.Frame.ite | (apply State.Frame.mk' <;> first | exact .inl (Covers.bit hn (by decide)) | exact .inr rfl | assumption | apply State.upTo_frame | apply State.lockStep_frame | apply State.checkErrLimit_frame | apply State.onLockLoss_frame | apply State.Frame.ite | apply State.Frame.foldl | refine State.Frame.ofPair ?_ (by assumption) | split) | apply State.Frame.foldlFst | refine State.Frame.ofPair ?_ (by assumption) | split | dsimp only)

theorem State.elasticEvent_frame (h : s.Frame n o) (hn : Covers n 0x82786a) : ∀ x1 x2, (State.elasticEvent s x1 x2).Frame n o := by
  intros
  unfold State.elasticEvent
  with_reducible repeat' (first | intro _ | assumption | exact Covers.trans hn (by decide) | apply State.retrain_frame | apply State.raise_frame | apply State.modRx_frame | apply State.Frame.foldl | apply State.Frame.ite | (apply State.Frame.mk' <;> first | exact .inl (Covers.bit hn (by decide)) | exact .inr rfl | assumption | apply State.retrain_frame | apply State.raise_frame | apply State.modRx_frame | apply State.Frame.ite | apply State.Frame.foldl | refine State.Frame.ofPair ?_ (by assumption) | split) | apply State.Frame.foldlFst | refine State.Frame.ofPair ?_ (by assumption) | split | dsimp only)

theorem State.rowIn_frame (h : s.Frame n o) (hn : Covers n 0xe278ea) : ∀ x1 x2, (State.rowIn s x1 x2).Frame n o := by
  intros
  unfold State.rowIn
  with_reducible repeat' (first | intro _ | assumption | exact Covers.trans hn (by decide) | apply State.rxLanes_frame | apply State.align_frame | apply State.lockLanes_frame | apply State.rowAction_frame | apply State.stageEq_frame | apply State.elasticEvent_frame | apply State.checkCensus_frame | apply State.advance_frame | apply State.Frame.foldl | apply State.Frame.ite | (apply State.Frame.mk' <;> first | exact .inl (Covers.bit hn (by decide)) | exact .inr rfl | assumption | apply State.rxLanes_frame | apply State.align_frame | apply State.lockLanes_frame | apply State.rowAction_frame | apply State.stageEq_frame | apply State.elasticEvent_frame | apply State.checkCensus_frame | apply State.advance_frame | apply State.Frame.ite | apply State.Frame.foldl | refine State.Frame.ofPair ?_ (by assumption) | split) | apply State.Frame.foldlFst | refine State.Frame.ofPair ?_ (by assumption) | split | dsimp only)

theorem State.stalledRow_frame (h : s.Frame n o) (hn : Covers n 0x22) : ∀ x1 x2, (State.stalledRow s x1 x2).Frame n o := by
  intros
  unfold State.stalledRow
  with_reducible repeat' (first | intro _ | assumption | exact Covers.trans hn (by decide) | apply State.upTo_frame | apply State.setRxLane_frame | apply State.setFlag_frame | apply State.Frame.foldl | apply State.Frame.ite | (apply State.Frame.mk' <;> first | exact .inl (Covers.bit hn (by decide)) | exact .inr rfl | assumption | apply State.upTo_frame | apply State.setRxLane_frame | apply State.setFlag_frame | apply State.Frame.ite | apply State.Frame.foldl | refine State.Frame.ofPair ?_ (by assumption) | split) | apply State.Frame.foldlFst | refine State.Frame.ofPair ?_ (by assumption) | split | dsimp only)

theorem execRxRow_frame (h : s.Frame n o) (hn : Covers n 0xe278ea) : ∀ x0 x1, Out.Frame n o (execRxRow x0 x1 s) := by
  intros
  unfold execRxRow
  with_reducible repeat' (first | intro _ | assumption | exact Covers.trans hn (by decide) | apply State.upTo_frame | apply State.prbsCheck_frame | apply State.stalledRow_frame | apply State.rowIn_frame | apply State.Frame.foldl | apply Out.Frame.next | apply State.Frame.ite | (apply State.Frame.mk' <;> first | exact .inl (Covers.bit hn (by decide)) | exact .inr rfl | assumption | apply State.upTo_frame | apply State.prbsCheck_frame | apply State.stalledRow_frame | apply State.rowIn_frame | apply State.Frame.ite | apply State.Frame.foldl | refine State.Frame.ofPair ?_ (by assumption) | split) | apply State.Frame.foldlFst | refine State.Frame.ofPair ?_ (by assumption) | split | dsimp only)

end Sys2Proof.Machine
end

