-- ==== Sys2Proof/Laws/FrameD.lean ====
section
/-! SUPPORT. Which parts of State each operation leaves, of Transmit, Repair. -/
namespace Sys2Proof.Machine

set_option linter.all false

variable {n : Nat} {o s : State}

/-! ### Transmit -/

theorem State.putHeader_frame (h : s.Frame n o) (hn : Covers n 0x20) : ∀ x1 x2, (State.putHeader s x1 x2).1.Frame n o := by
  intros
  unfold State.putHeader
  with_reducible repeat' (first | intro _ | assumption | exact Covers.trans hn (by decide) | apply State.modTx_frame | apply State.Frame.foldl | apply State.Frame.ite | (apply State.Frame.mk' <;> first | exact .inl (Covers.bit hn (by decide)) | exact .inr rfl | assumption | apply State.modTx_frame | apply State.Frame.ite | apply State.Frame.foldl | refine State.Frame.ofPair ?_ (by assumption) | split) | apply State.Frame.foldlFst | refine State.Frame.ofPair ?_ (by assumption) | split | dsimp only)

theorem State.sendFirst_frame (h : s.Frame n o) (hn : Covers n 0x62) : ∀ x1 x2 x3 x4 x5 x6, (State.sendFirst s x1 x2 x3 x4 x5 x6).1.Frame n o := by
  intros
  unfold State.sendFirst
  with_reducible repeat' (first | intro _ | assumption | exact Covers.trans hn (by decide) | apply State.setFld_frame | apply State.bump_frame | apply State.dropTag_frame | apply State.modTrk_frame | apply State.putHeader_frame | apply State.Frame.foldl | apply State.Frame.ite | (apply State.Frame.mk' <;> first | exact .inl (Covers.bit hn (by decide)) | exact .inr rfl | assumption | apply State.setFld_frame | apply State.bump_frame | apply State.dropTag_frame | apply State.modTrk_frame | apply State.putHeader_frame | apply State.Frame.ite | apply State.Frame.foldl | refine State.Frame.ofPair ?_ (by assumption) | split) | apply State.Frame.foldlFst | refine State.Frame.ofPair ?_ (by assumption) | split | dsimp only)

theorem State.takeReturns_frame (h : s.Frame n o) (hn : Covers n 0x20) : ∀ x1, (State.takeReturns s x1).1.Frame n o := by
  intros
  unfold State.takeReturns
  with_reducible repeat' (first | intro _ | assumption | exact Covers.trans hn (by decide) | apply State.modTx_frame | apply State.Frame.foldl | apply State.Frame.ite | (apply State.Frame.mk' <;> first | exact .inl (Covers.bit hn (by decide)) | exact .inr rfl | assumption | apply State.modTx_frame | apply State.Frame.ite | apply State.Frame.foldl | refine State.Frame.ofPair ?_ (by assumption) | split) | apply State.Frame.foldlFst | refine State.Frame.ofPair ?_ (by assumption) | split | dsimp only)

theorem State.sendResp_frame (h : s.Frame n o) (hn : Covers n 0x62) : ∀ x1 x2, (State.sendResp s x1 x2).1.Frame n o := by
  intros
  unfold State.sendResp
  with_reducible repeat' (first | intro _ | assumption | exact Covers.trans hn (by decide) | apply State.takeReturns_frame | apply State.sendFirst_frame | apply State.modTx_frame | apply State.Frame.foldl | apply State.Frame.ite | (apply State.Frame.mk' <;> first | exact .inl (Covers.bit hn (by decide)) | exact .inr rfl | assumption | apply State.takeReturns_frame | apply State.sendFirst_frame | apply State.modTx_frame | apply State.Frame.ite | apply State.Frame.foldl | refine State.Frame.ofPair ?_ (by assumption) | split) | apply State.Frame.foldlFst | refine State.Frame.ofPair ?_ (by assumption) | split | dsimp only)

theorem State.sendIdle_frame (h : s.Frame n o) (hn : Covers n 0x20) : ∀ x1, (State.sendIdle s x1).1.Frame n o := by
  intros
  unfold State.sendIdle
  with_reducible repeat' (first | intro _ | assumption | exact Covers.trans hn (by decide) | apply State.putHeader_frame | apply State.Frame.foldl | apply State.Frame.ite | (apply State.Frame.mk' <;> first | exact .inl (Covers.bit hn (by decide)) | exact .inr rfl | assumption | apply State.putHeader_frame | apply State.Frame.ite | apply State.Frame.foldl | refine State.Frame.ofPair ?_ (by assumption) | split) | apply State.Frame.foldlFst | refine State.Frame.ofPair ?_ (by assumption) | split | dsimp only)

theorem State.takeBulNum_frame (h : s.Frame n o) (hn : Covers n 0x2) : (State.takeBulNum s).1.Frame n o := by
  unfold State.takeBulNum
  with_reducible repeat' (first | intro _ | assumption | exact Covers.trans hn (by decide) | apply State.setFld_frame | apply State.Frame.foldl | apply State.Frame.ite | (apply State.Frame.mk' <;> first | exact .inl (Covers.bit hn (by decide)) | exact .inr rfl | assumption | apply State.setFld_frame | apply State.Frame.ite | apply State.Frame.foldl | refine State.Frame.ofPair ?_ (by assumption) | split) | apply State.Frame.foldlFst | refine State.Frame.ofPair ?_ (by assumption) | split | dsimp only)

theorem State.pullUrgent_frame (h : s.Frame n o) (hn : Covers n 0x2a) : (State.pullUrgent s).Frame n o := by
  unfold State.pullUrgent
  with_reducible repeat' (first | intro _ | assumption | exact Covers.trans hn (by decide) | apply State.takeBulNum_frame | apply State.upTo_frame | apply State.modTx_frame | apply State.Frame.foldl | apply State.Frame.ite | (apply State.Frame.mk' <;> first | exact .inl (Covers.bit hn (by decide)) | exact .inr rfl | assumption | apply State.takeBulNum_frame | apply State.upTo_frame | apply State.modTx_frame | apply State.Frame.ite | apply State.Frame.foldl | refine State.Frame.ofPair ?_ (by assumption) | split) | apply State.Frame.foldlFst | refine State.Frame.ofPair ?_ (by assumption) | split | dsimp only)

theorem State.pullMask_frame (h : s.Frame n o) (hn : Covers n 0x2a) : ∀ x1, (State.pullMask s x1).Frame n o := by
  intros
  unfold State.pullMask
  with_reducible repeat' (first | intro _ | assumption | exact Covers.trans hn (by decide) | apply State.takeBulNum_frame | apply State.modTx_frame | apply State.Frame.foldl | apply State.Frame.ite | (apply State.Frame.mk' <;> first | exact .inl (Covers.bit hn (by decide)) | exact .inr rfl | assumption | apply State.takeBulNum_frame | apply State.modTx_frame | apply State.Frame.ite | apply State.Frame.foldl | refine State.Frame.ofPair ?_ (by assumption) | split) | apply State.Frame.foldlFst | refine State.Frame.ofPair ?_ (by assumption) | split | dsimp only)

theorem State.countBytes_frame (h : s.Frame n o) (hn : Covers n 0x2) : ∀ x1, (State.countBytes s x1).Frame n o := by
  intros
  unfold State.countBytes
  with_reducible repeat' (first | intro _ | assumption | exact Covers.trans hn (by decide) | apply State.setFld_frame | apply State.Frame.foldl | apply State.Frame.ite | (apply State.Frame.mk' <;> first | exact .inl (Covers.bit hn (by decide)) | exact .inr rfl | assumption | apply State.setFld_frame | apply State.Frame.ite | apply State.Frame.foldl | refine State.Frame.ofPair ?_ (by assumption) | split) | apply State.Frame.foldlFst | refine State.Frame.ofPair ?_ (by assumption) | split | dsimp only)

theorem State.sendReplay_frame (h : s.Frame n o) (hn : Covers n 0x20) : ∀ x1 x2, (State.sendReplay s x1 x2).1.Frame n o := by
  intros
  unfold State.sendReplay
  with_reducible repeat' (first | intro _ | assumption | exact Covers.trans hn (by decide) | apply State.sendIdle_frame | apply State.putHeader_frame | apply State.modTx_frame | apply State.Frame.foldl | apply State.Frame.ite | (apply State.Frame.mk' <;> first | exact .inl (Covers.bit hn (by decide)) | exact .inr rfl | assumption | apply State.sendIdle_frame | apply State.putHeader_frame | apply State.modTx_frame | apply State.Frame.ite | apply State.Frame.foldl | refine State.Frame.ofPair ?_ (by assumption) | split) | apply State.Frame.foldlFst | refine State.Frame.ofPair ?_ (by assumption) | split | dsimp only)

theorem State.sendMarked_frame (h : s.Frame n o) (hn : Covers n 0x62) : ∀ x1, ∀ r, State.sendMarked s x1 = some r → r.1.Frame n o := by
  intro x1 r e
  unfold State.sendMarked at e
  try dsimp only at e
  repeat' split at e
  all_goals first | (injection e with e; subst e) | injection e
  all_goals with_reducible repeat' (first | intro _ | assumption | exact Covers.trans hn (by decide) | apply State.sendFirst_frame | apply State.modTx_frame | apply State.Frame.foldl | apply State.Frame.ite | (apply State.Frame.mk' <;> first | exact .inl (Covers.bit hn (by decide)) | exact .inr rfl | assumption | apply State.sendFirst_frame | apply State.modTx_frame | apply State.Frame.ite | apply State.Frame.foldl | refine State.Frame.ofPair ?_ (by assumption) | split) | apply State.Frame.foldlFst | refine State.Frame.ofPair ?_ (by assumption) | split | dsimp only)

theorem State.sendUrgent_frame (h : s.Frame n o) (hn : Covers n 0x62) : ∀ x1, ∀ r, State.sendUrgent s x1 = some r → r.1.Frame n o := by
  intro x1 r e
  unfold State.sendUrgent at e
  try dsimp only at e
  repeat' split at e
  all_goals first | (injection e with e; subst e) | injection e
  all_goals with_reducible repeat' (first | intro _ | assumption | exact Covers.trans hn (by decide) | apply State.sendResp_frame | apply State.modTx_frame | apply State.Frame.foldl | apply State.Frame.ite | (apply State.Frame.mk' <;> first | exact .inl (Covers.bit hn (by decide)) | exact .inr rfl | assumption | apply State.sendResp_frame | apply State.modTx_frame | apply State.Frame.ite | apply State.Frame.foldl | refine State.Frame.ofPair ?_ (by assumption) | split) | apply State.Frame.foldlFst | refine State.Frame.ofPair ?_ (by assumption) | split | dsimp only)

theorem State.sendOldest_frame (h : s.Frame n o) (hn : Covers n 0x62) : ∀ x1, ∀ r, State.sendOldest s x1 = some r → r.1.Frame n o := by
  intro x1 r e
  unfold State.sendOldest at e
  try dsimp only at e
  repeat' split at e
  all_goals first | (injection e with e; subst e) | injection e
  all_goals with_reducible repeat' (first | intro _ | assumption | exact Covers.trans hn (by decide) | apply State.sendResp_frame | apply State.countBytes_frame | apply State.modTx_frame | apply State.Frame.foldl | apply State.Frame.ite | (apply State.Frame.mk' <;> first | exact .inl (Covers.bit hn (by decide)) | exact .inr rfl | assumption | apply State.sendResp_frame | apply State.countBytes_frame | apply State.modTx_frame | apply State.Frame.ite | apply State.Frame.foldl | refine State.Frame.ofPair ?_ (by assumption) | split) | apply State.Frame.foldlFst | refine State.Frame.ofPair ?_ (by assumption) | split | dsimp only)

theorem State.sendBulletin_frame (h : s.Frame n o) (hn : Covers n 0x62) : ∀ x1, ∀ r, State.sendBulletin s x1 = some r → r.1.Frame n o := by
  intro x1 r e
  unfold State.sendBulletin at e
  try dsimp only at e
  repeat' split at e
  all_goals first | (injection e with e; subst e) | injection e
  all_goals with_reducible repeat' (first | intro _ | assumption | exact Covers.trans hn (by decide) | apply State.sendResp_frame | apply State.modTx_frame | apply State.Frame.foldl | apply State.Frame.ite | (apply State.Frame.mk' <;> first | exact .inl (Covers.bit hn (by decide)) | exact .inr rfl | assumption | apply State.sendResp_frame | apply State.modTx_frame | apply State.Frame.ite | apply State.Frame.foldl | refine State.Frame.ofPair ?_ (by assumption) | split) | apply State.Frame.foldlFst | refine State.Frame.ofPair ?_ (by assumption) | split | dsimp only)

theorem State.sendReturn_frame (h : s.Frame n o) (hn : Covers n 0x62) : ∀ x1, ∀ r, State.sendReturn s x1 = some r → r.1.Frame n o := by
  intro x1 r e
  unfold State.sendReturn at e
  try dsimp only at e
  repeat' split at e
  all_goals first | (injection e with e; subst e) | injection e
  all_goals with_reducible repeat' (first | intro _ | assumption | exact Covers.trans hn (by decide) | apply State.takeReturns_frame | apply State.sendFirst_frame | apply State.Frame.foldl | apply State.Frame.ite | (apply State.Frame.mk' <;> first | exact .inl (Covers.bit hn (by decide)) | exact .inr rfl | assumption | apply State.takeReturns_frame | apply State.sendFirst_frame | apply State.Frame.ite | apply State.Frame.foldl | refine State.Frame.ofPair ?_ (by assumption) | split) | apply State.Frame.foldlFst | refine State.Frame.ofPair ?_ (by assumption) | split | dsimp only)

theorem State.pullBulletins_frame (h : s.Frame n o) (hn : Covers n 0x2a) : ∀ x1, (State.pullBulletins s x1).Frame n o := by
  intros
  unfold State.pullBulletins
  with_reducible repeat' (first | intro _ | assumption | exact Covers.trans hn (by decide) | apply State.pullUrgent_frame | apply State.pullMask_frame | apply State.Frame.foldl | apply State.Frame.ite | (apply State.Frame.mk' <;> first | exact .inl (Covers.bit hn (by decide)) | exact .inr rfl | assumption | apply State.pullUrgent_frame | apply State.pullMask_frame | apply State.Frame.ite | apply State.Frame.foldl | refine State.Frame.ofPair ?_ (by assumption) | split) | apply State.Frame.foldlFst | refine State.Frame.ofPair ?_ (by assumption) | split | dsimp only)

theorem State.chooseHeader_frame (h : s.Frame n o) (hn : Covers n 0x6a) : ∀ x1, (State.chooseHeader s x1).1.Frame n o := by
  intros
  unfold State.chooseHeader
  with_reducible repeat' (first | intro _ | assumption | exact Covers.trans hn (by decide) | apply State.sendReplay_frame | apply State.sendIdle_frame | apply State.pullBulletins_frame | refine State.sendMarked_frame ?_ (Covers.trans hn (by decide)) _ _ (by assumption) | refine State.sendUrgent_frame ?_ (Covers.trans hn (by decide)) _ _ (by assumption) | refine State.sendOldest_frame ?_ (Covers.trans hn (by decide)) _ _ (by assumption) | refine State.sendBulletin_frame ?_ (Covers.trans hn (by decide)) _ _ (by assumption) | refine State.sendReturn_frame ?_ (Covers.trans hn (by decide)) _ _ (by assumption) | apply State.Frame.foldl | apply State.Frame.ite | (apply State.Frame.mk' <;> first | exact .inl (Covers.bit hn (by decide)) | exact .inr rfl | assumption | apply State.sendReplay_frame | apply State.sendIdle_frame | apply State.pullBulletins_frame | refine State.sendMarked_frame ?_ (Covers.trans hn (by decide)) _ _ (by assumption) | refine State.sendUrgent_frame ?_ (Covers.trans hn (by decide)) _ _ (by assumption) | refine State.sendOldest_frame ?_ (Covers.trans hn (by decide)) _ _ (by assumption) | refine State.sendBulletin_frame ?_ (Covers.trans hn (by decide)) _ _ (by assumption) | refine State.sendReturn_frame ?_ (Covers.trans hn (by decide)) _ _ (by assumption) | apply State.Frame.ite | apply State.Frame.foldl | refine State.Frame.ofPair ?_ (by assumption) | split) | apply State.Frame.foldlFst | refine State.Frame.ofPair ?_ (by assumption) | split | dsimp only)

theorem State.dataRow_frame (h : s.Frame n o) (hn : Covers n 0x6a) : ∀ x1, (State.dataRow s x1).1.Frame n o := by
  intros
  unfold State.dataRow
  with_reducible repeat' (first | intro _ | assumption | exact Covers.trans hn (by decide) | apply State.modTx_frame | apply State.chooseHeader_frame | apply State.Frame.foldl | apply State.Frame.ite | (apply State.Frame.mk' <;> first | exact .inl (Covers.bit hn (by decide)) | exact .inr rfl | assumption | apply State.modTx_frame | apply State.chooseHeader_frame | apply State.Frame.ite | apply State.Frame.foldl | refine State.Frame.ofPair ?_ (by assumption) | split) | apply State.Frame.foldlFst | refine State.Frame.ofPair ?_ (by assumption) | split | dsimp only)

theorem State.emit_frame (h : s.Frame n o) (hn : Covers n 0x22) : ∀ x1 x2 x3 x4 x5, (State.emit s x1 x2 x3 x4 x5).Frame n o := by
  intros
  unfold State.emit
  with_reducible repeat' (first | intro _ | assumption | exact Covers.trans hn (by decide) | apply State.txSymbol_frame | apply State.txPrbs_frame | apply State.modTx_frame | apply State.Frame.foldl | apply State.Frame.ite | (apply State.Frame.mk' <;> first | exact .inl (Covers.bit hn (by decide)) | exact .inr rfl | assumption | apply State.txSymbol_frame | apply State.txPrbs_frame | apply State.modTx_frame | apply State.Frame.ite | apply State.Frame.foldl | refine State.Frame.ofPair ?_ (by assumption) | split) | apply State.Frame.foldlFst | refine State.Frame.ofPair ?_ (by assumption) | split | dsimp only)

theorem State.emitIdle_frame (h : s.Frame n o) (hn : Covers n 0x22) : ∀ x1, (State.emitIdle s x1).Frame n o := by
  intros
  unfold State.emitIdle
  with_reducible repeat' (first | intro _ | assumption | exact Covers.trans hn (by decide) | apply State.txPrbs_frame | apply State.setTxLane_frame | apply State.modTx_frame | apply State.Frame.foldl | apply State.Frame.ite | (apply State.Frame.mk' <;> first | exact .inl (Covers.bit hn (by decide)) | exact .inr rfl | assumption | apply State.txPrbs_frame | apply State.setTxLane_frame | apply State.modTx_frame | apply State.Frame.ite | apply State.Frame.foldl | refine State.Frame.ofPair ?_ (by assumption) | split) | apply State.Frame.foldlFst | refine State.Frame.ofPair ?_ (by assumption) | split | dsimp only)

theorem State.emitHeader_frame (h : s.Frame n o) (hn : Covers n 0x22) : ∀ x1 x2, (State.emitHeader s x1 x2).Frame n o := by
  intros
  unfold State.emitHeader
  with_reducible repeat' (first | intro _ | assumption | exact Covers.trans hn (by decide) | apply State.modTrk_frame | apply State.emit_frame | apply State.Frame.foldl | apply State.Frame.ite | (apply State.Frame.mk' <;> first | exact .inl (Covers.bit hn (by decide)) | exact .inr rfl | assumption | apply State.modTrk_frame | apply State.emit_frame | apply State.Frame.ite | apply State.Frame.foldl | refine State.Frame.ofPair ?_ (by assumption) | split) | apply State.Frame.foldlFst | refine State.Frame.ofPair ?_ (by assumption) | split | dsimp only)

theorem State.setSent_frame (h : s.Frame n o) (hn : Covers n 0x82786a) : ∀ x1, (State.setSent s x1).Frame n o := by
  intros
  unfold State.setSent
  with_reducible repeat' (first | intro _ | assumption | exact Covers.trans hn (by decide) | apply State.modTrn_frame | apply State.modFov_frame | apply State.moveSession_frame | apply State.Frame.foldl | apply State.Frame.ite | (apply State.Frame.mk' <;> first | exact .inl (Covers.bit hn (by decide)) | exact .inr rfl | assumption | apply State.modTrn_frame | apply State.modFov_frame | apply State.moveSession_frame | apply State.Frame.ite | apply State.Frame.foldl | refine State.Frame.ofPair ?_ (by assumption) | split) | apply State.Frame.foldlFst | refine State.Frame.ofPair ?_ (by assumption) | split | dsimp only)

theorem State.beginSet_frame (h : s.Frame n o) (hn : Covers n 0x20) : ∀ x1, (State.beginSet s x1).Frame n o := by
  intros
  unfold State.beginSet
  with_reducible repeat' (first | intro _ | assumption | exact Covers.trans hn (by decide) | apply State.modTrk_frame | apply State.takeCut_frame | apply State.Frame.foldl | apply State.Frame.ite | (apply State.Frame.mk' <;> first | exact .inl (Covers.bit hn (by decide)) | exact .inr rfl | assumption | apply State.modTrk_frame | apply State.takeCut_frame | apply State.Frame.ite | apply State.Frame.foldl | refine State.Frame.ofPair ?_ (by assumption) | split) | apply State.Frame.foldlFst | refine State.Frame.ofPair ?_ (by assumption) | split | dsimp only)

theorem State.slotSent_frame (h : s.Frame n o) (hn : Covers n 0x82786a) : ∀ x1, (State.slotSent s x1).Frame n o := by
  intros
  unfold State.slotSent
  with_reducible repeat' (first | intro _ | assumption | exact Covers.trans hn (by decide) | apply State.modTx_frame | apply State.setSent_frame | apply State.becomeReady_frame | apply State.modTrn_frame | apply State.Frame.foldl | apply State.Frame.ite | (apply State.Frame.mk' <;> first | exact .inl (Covers.bit hn (by decide)) | exact .inr rfl | assumption | apply State.modTx_frame | apply State.setSent_frame | apply State.becomeReady_frame | apply State.modTrn_frame | apply State.Frame.ite | apply State.Frame.foldl | refine State.Frame.ofPair ?_ (by assumption) | split) | apply State.Frame.foldlFst | refine State.Frame.ofPair ?_ (by assumption) | split | dsimp only)

theorem State.emitSet_frame (h : s.Frame n o) (hn : Covers n 0x82786a) : ∀ x1, (State.emitSet s x1).Frame n o := by
  intros
  unfold State.emitSet
  with_reducible repeat' (first | intro _ | assumption | exact Covers.trans hn (by decide) | apply State.beginSet_frame | apply State.modTx_frame | apply State.emit_frame | apply State.slotSent_frame | apply State.Frame.foldl | apply State.Frame.ite | (apply State.Frame.mk' <;> first | exact .inl (Covers.bit hn (by decide)) | exact .inr rfl | assumption | apply State.beginSet_frame | apply State.modTx_frame | apply State.emit_frame | apply State.slotSent_frame | apply State.Frame.ite | apply State.Frame.foldl | refine State.Frame.ofPair ?_ (by assumption) | split) | apply State.Frame.foldlFst | refine State.Frame.ofPair ?_ (by assumption) | split | dsimp only)

theorem State.emitData_frame {t : Nat} {pick : State → State × BitVec 128} (h : s.Frame n o) (hn : Covers n 0x22)
    (hg : ∀ s, s.Frame n o → (pick s).1.Frame n o) : (State.emitData s t pick).Frame n o := by
  unfold State.emitData
  apply State.modTx_frame _ (Covers.trans hn (by decide))
  apply State.emit_frame _ (Covers.trans hn (by decide))
  exact hg s h

theorem State.finishRow_frame (h : s.Frame n o) (hn : Covers n 0x6a) : ∀ x1, (State.finishRow s x1).1.Frame n o := by
  intros
  unfold State.finishRow
  with_reducible repeat' (first | intro _ | assumption | exact Covers.trans hn (by decide) | apply State.sendIdle_frame | apply State.dataRow_frame | apply State.Frame.foldl | apply State.Frame.ite | (apply State.Frame.mk' <;> first | exact .inl (Covers.bit hn (by decide)) | exact .inr rfl | assumption | apply State.sendIdle_frame | apply State.dataRow_frame | apply State.Frame.ite | apply State.Frame.foldl | refine State.Frame.ofPair ?_ (by assumption) | split) | apply State.Frame.foldlFst | refine State.Frame.ofPair ?_ (by assumption) | split | dsimp only)

theorem State.trainRow_frame (h : s.Frame n o) (hn : Covers n 0x82786a) : ∀ x1, (State.trainRow s x1).Frame n o := by
  intros
  unfold State.trainRow
  with_reducible repeat' (first | intro _ | assumption | exact Covers.trans hn (by decide) | apply State.emitData_frame | apply State.finishRow_frame | apply State.emitSet_frame | apply State.modTx_frame | apply State.Frame.foldl | apply State.Frame.ite | (apply State.Frame.mk' <;> first | exact .inl (Covers.bit hn (by decide)) | exact .inr rfl | assumption | apply State.emitData_frame | apply State.finishRow_frame | apply State.emitSet_frame | apply State.modTx_frame | apply State.Frame.ite | apply State.Frame.foldl | refine State.Frame.ofPair ?_ (by assumption) | split) | apply State.Frame.foldlFst | refine State.Frame.ofPair ?_ (by assumption) | split | dsimp only)

theorem State.readyRow_frame (h : s.Frame n o) (hn : Covers n 0x82786a) : ∀ x1, (State.readyRow s x1).Frame n o := by
  intros
  unfold State.readyRow
  with_reducible repeat' (first | intro _ | assumption | exact Covers.trans hn (by decide) | apply State.emitSet_frame | apply State.emitData_frame | apply State.sendIdle_frame | apply State.dataRow_frame | apply State.Frame.foldl | apply State.Frame.ite | (apply State.Frame.mk' <;> first | exact .inl (Covers.bit hn (by decide)) | exact .inr rfl | assumption | apply State.emitSet_frame | apply State.emitData_frame | apply State.sendIdle_frame | apply State.dataRow_frame | apply State.Frame.ite | apply State.Frame.foldl | refine State.Frame.ofPair ?_ (by assumption) | split) | apply State.Frame.foldlFst | refine State.Frame.ofPair ?_ (by assumption) | split | dsimp only)

theorem State.txRow_frame (h : s.Frame n o) (hn : Covers n 0x82786a) : ∀ x1, (State.txRow s x1).Frame n o := by
  intros
  unfold State.txRow
  with_reducible repeat' (first | intro _ | assumption | exact Covers.trans hn (by decide) | apply State.modTx_frame | apply State.emit_frame | apply State.emitHeader_frame | apply State.trainRow_frame | apply State.readyRow_frame | apply State.Frame.foldl | apply State.Frame.ite | (apply State.Frame.mk' <;> first | exact .inl (Covers.bit hn (by decide)) | exact .inr rfl | assumption | apply State.modTx_frame | apply State.emit_frame | apply State.emitHeader_frame | apply State.trainRow_frame | apply State.readyRow_frame | apply State.Frame.ite | apply State.Frame.foldl | refine State.Frame.ofPair ?_ (by assumption) | split) | apply State.Frame.foldlFst | refine State.Frame.ofPair ?_ (by assumption) | split | dsimp only)

theorem execPacketTransmit_frame (h : s.Frame n o) (hn : Covers n 0x82786a) : ∀ x0, Out.Frame n o (execPacketTransmit x0 s) := by
  intros
  unfold execPacketTransmit
  with_reducible repeat' (first | intro _ | assumption | exact Covers.trans hn (by decide) | apply State.emitIdle_frame | apply State.txRow_frame | apply State.modTx_frame | apply State.Frame.foldl | apply Out.Frame.next | apply State.Frame.ite | (apply State.Frame.mk' <;> first | exact .inl (Covers.bit hn (by decide)) | exact .inr rfl | assumption | apply State.emitIdle_frame | apply State.txRow_frame | apply State.modTx_frame | apply State.Frame.ite | apply State.Frame.foldl | refine State.Frame.ofPair ?_ (by assumption) | split) | apply State.Frame.foldlFst | refine State.Frame.ofPair ?_ (by assumption) | split | dsimp only)

theorem State.sendEie_frame (h : s.Frame n o) (hn : Covers n 0x22) : ∀ x1 x2, (State.sendEie s x1 x2).Frame n o := by
  intros
  unfold State.sendEie
  with_reducible repeat' (first | intro _ | assumption | exact Covers.trans hn (by decide) | apply State.emit_frame | apply State.modTx_frame | apply State.setFld_frame | apply State.Frame.foldl | apply State.Frame.ite | (apply State.Frame.mk' <;> first | exact .inl (Covers.bit hn (by decide)) | exact .inr rfl | assumption | apply State.emit_frame | apply State.modTx_frame | apply State.setFld_frame | apply State.Frame.ite | apply State.Frame.foldl | refine State.Frame.ofPair ?_ (by assumption) | split) | apply State.Frame.foldlFst | refine State.Frame.ofPair ?_ (by assumption) | split | dsimp only)

theorem execTxL1Entry_frame (h : s.Frame n o) (hn : Covers n 0x22) : ∀ x0, Out.Frame n o (execTxL1Entry x0 s) := by
  intros
  unfold execTxL1Entry
  with_reducible repeat' (first | intro _ | assumption | exact Covers.trans hn (by decide) | apply State.sendEie_frame | apply State.Frame.foldl | apply Out.Frame.next | apply State.Frame.ite | (apply State.Frame.mk' <;> first | exact .inl (Covers.bit hn (by decide)) | exact .inr rfl | assumption | apply State.sendEie_frame | apply State.Frame.ite | apply State.Frame.foldl | refine State.Frame.ofPair ?_ (by assumption) | split) | apply State.Frame.foldlFst | refine State.Frame.ofPair ?_ (by assumption) | split | dsimp only)

theorem execTxL1Exit_frame (h : s.Frame n o) (hn : Covers n 0x22) : ∀ x0, Out.Frame n o (execTxL1Exit x0 s) := by
  intros
  unfold execTxL1Exit
  with_reducible repeat' (first | intro _ | assumption | exact Covers.trans hn (by decide) | apply State.modTrk_frame | apply State.setFld_frame | apply State.Frame.foldl | apply Out.Frame.next | apply State.Frame.ite | (apply State.Frame.mk' <;> first | exact .inl (Covers.bit hn (by decide)) | exact .inr rfl | assumption | apply State.modTrk_frame | apply State.setFld_frame | apply State.Frame.ite | apply State.Frame.foldl | refine State.Frame.ofPair ?_ (by assumption) | split) | apply State.Frame.foldlFst | refine State.Frame.ofPair ?_ (by assumption) | split | dsimp only)

theorem State.finishOpen_frame (h : s.Frame n o) (hn : Covers n 0x82786a) : ∀ x0 x1, (State.finishOpen x0 x1 s).Frame n o := by
  intro t k
  induction k generalizing s with
  | zero => exact h
  | succ k ih =>
    unfold State.finishOpen
    dsimp only
    split
    · exact h
    · exact ih (State.Frame.ite (State.txRow_frame h (Covers.trans hn (by decide)) _)
        (State.emitData_frame h (Covers.trans hn (by decide)) fun s hs => State.finishRow_frame hs (Covers.trans hn (by decide)) _))

theorem State.sendL3_frame (h : s.Frame n o) (hn : Covers n 0x82786a) : ∀ x1, (State.sendL3 s x1).Frame n o := by
  intros
  unfold State.sendL3
  with_reducible repeat' (first | intro _ | assumption | exact Covers.trans hn (by decide) | apply State.sendEie_frame | apply State.finishOpen_frame | apply State.Frame.foldl | apply State.Frame.ite | (apply State.Frame.mk' <;> first | exact .inl (Covers.bit hn (by decide)) | exact .inr rfl | assumption | apply State.sendEie_frame | apply State.finishOpen_frame | apply State.Frame.ite | apply State.Frame.foldl | refine State.Frame.ofPair ?_ (by assumption) | split) | apply State.Frame.foldlFst | refine State.Frame.ofPair ?_ (by assumption) | split | dsimp only)

/-! ### Repair -/

theorem State.journal_frame (h : s.Frame n o) (hn : Covers n 0x82784a) : ∀ x1 x2 x3, (State.journal s x1 x2 x3).Frame n o := by
  intros
  unfold State.journal
  with_reducible repeat' (first | intro _ | assumption | exact Covers.trans hn (by decide) | apply State.raise_frame | apply State.bump_frame | apply State.Frame.foldl | apply State.Frame.ite | (apply State.Frame.mk' <;> first | exact .inl (Covers.bit hn (by decide)) | exact .inr rfl | assumption | apply State.raise_frame | apply State.bump_frame | apply State.Frame.ite | apply State.Frame.foldl | refine State.Frame.ofPair ?_ (by assumption) | split) | apply State.Frame.foldlFst | refine State.Frame.ofPair ?_ (by assumption) | split | dsimp only)

theorem State.journalDelta_frame (h : s.Frame n o) (hn : Covers n 0x83784a) : ∀ x1, (State.journalDelta s x1).Frame n o := by
  intros
  unfold State.journalDelta
  with_reducible repeat' (first | intro _ | assumption | exact Covers.trans hn (by decide) | apply State.journal_frame | apply State.Frame.foldl | apply State.Frame.ite | (apply State.Frame.mk' <;> first | exact .inl (Covers.bit hn (by decide)) | exact .inr rfl | assumption | apply State.journal_frame | apply State.Frame.ite | apply State.Frame.foldl | refine State.Frame.ofPair ?_ (by assumption) | split) | apply State.Frame.foldlFst | refine State.Frame.ofPair ?_ (by assumption) | split | dsimp only)

theorem State.addDelta_frame (h : s.Frame n o) (hn : Covers n 0x83784a) : ∀ x1 x2, (State.addDelta s x1 x2).Frame n o := by
  intros
  unfold State.addDelta
  with_reducible repeat' (first | intro _ | assumption | exact Covers.trans hn (by decide) | apply State.setFld_frame | apply State.journalDelta_frame | apply State.Frame.foldl | apply State.Frame.ite | (apply State.Frame.mk' <;> first | exact .inl (Covers.bit hn (by decide)) | exact .inr rfl | assumption | apply State.setFld_frame | apply State.journalDelta_frame | apply State.Frame.ite | apply State.Frame.foldl | refine State.Frame.ofPair ?_ (by assumption) | split) | apply State.Frame.foldlFst | refine State.Frame.ofPair ?_ (by assumption) | split | dsimp only)

theorem State.repSet_frame (h : s.Frame n o) (hn : Covers n 0x83784a) : ∀ x1, (State.repSet s x1).Frame n o := by
  intros
  unfold State.repSet
  with_reducible repeat' (first | intro _ | assumption | exact Covers.trans hn (by decide) | apply State.addDelta_frame | apply State.Frame.foldl | apply State.Frame.ite | (apply State.Frame.mk' <;> first | exact .inl (Covers.bit hn (by decide)) | exact .inr rfl | assumption | apply State.addDelta_frame | apply State.Frame.ite | apply State.Frame.foldl | refine State.Frame.ofPair ?_ (by assumption) | split) | apply State.Frame.foldlFst | refine State.Frame.ofPair ?_ (by assumption) | split | dsimp only)

theorem State.repDel_frame (h : s.Frame n o) (hn : Covers n 0x83784a) : ∀ x1, (State.repDel s x1).Frame n o := by
  intros
  unfold State.repDel
  with_reducible repeat' (first | intro _ | assumption | exact Covers.trans hn (by decide) | apply State.addDelta_frame | apply State.Frame.foldl | apply State.Frame.ite | (apply State.Frame.mk' <;> first | exact .inl (Covers.bit hn (by decide)) | exact .inr rfl | assumption | apply State.addDelta_frame | apply State.Frame.ite | apply State.Frame.foldl | refine State.Frame.ofPair ?_ (by assumption) | split) | apply State.Frame.foldlFst | refine State.Frame.ofPair ?_ (by assumption) | split | dsimp only)

theorem State.checkBudget_frame (h : s.Frame n o) (hn : Covers n 0x83784a) : ∀ x1 x2, (State.checkBudget s x1 x2).Frame n o := by
  intros
  unfold State.checkBudget
  with_reducible repeat' (first | intro _ | assumption | exact Covers.trans hn (by decide) | apply State.raise_frame | apply State.Frame.foldl | apply State.Frame.ite | (apply State.Frame.mk' <;> first | exact .inl (Covers.bit hn (by decide)) | exact .inr rfl | assumption | apply State.raise_frame | apply State.Frame.ite | apply State.Frame.foldl | refine State.Frame.ofPair ?_ (by assumption) | split) | apply State.Frame.foldlFst | refine State.Frame.ofPair ?_ (by assumption) | split | dsimp only)

theorem State.checkBudgets_frame (h : s.Frame n o) (hn : Covers n 0x83784a) : ∀ x1, (State.checkBudgets s x1).Frame n o := by
  intros
  unfold State.checkBudgets
  with_reducible repeat' (first | intro _ | assumption | exact Covers.trans hn (by decide) | apply State.upTo_frame | apply State.checkBudget_frame | apply State.Frame.foldl | apply State.Frame.ite | (apply State.Frame.mk' <;> first | exact .inl (Covers.bit hn (by decide)) | exact .inr rfl | assumption | apply State.upTo_frame | apply State.checkBudget_frame | apply State.Frame.ite | apply State.Frame.foldl | refine State.Frame.ofPair ?_ (by assumption) | split) | apply State.Frame.foldlFst | refine State.Frame.ofPair ?_ (by assumption) | split | dsimp only)

theorem State.markBad_frame (h : s.Frame n o) (hn : Covers n 0x83784a) : ∀ x1 x2 x3, (State.markBad s x1 x2 x3).Frame n o := by
  intros
  unfold State.markBad
  with_reducible repeat' (first | intro _ | assumption | exact Covers.trans hn (by decide) | apply State.repSet_frame | apply State.Frame.foldl | apply State.Frame.ite | (apply State.Frame.mk' <;> first | exact .inl (Covers.bit hn (by decide)) | exact .inr rfl | assumption | apply State.repSet_frame | apply State.Frame.ite | apply State.Frame.foldl | refine State.Frame.ofPair ?_ (by assumption) | split) | apply State.Frame.foldlFst | refine State.Frame.ofPair ?_ (by assumption) | split | dsimp only)

theorem State.markServing_frame (h : s.Frame n o) (hn : Covers n 0x83784a) : ∀ x1 x2 x3, (State.markServing s x1 x2 x3).Frame n o := by
  intros
  unfold State.markServing
  with_reducible repeat' (first | intro _ | assumption | exact Covers.trans hn (by decide) | apply State.markBad_frame | apply State.Frame.foldl | apply State.Frame.ite | (apply State.Frame.mk' <;> first | exact .inl (Covers.bit hn (by decide)) | exact .inr rfl | assumption | apply State.markBad_frame | apply State.Frame.ite | apply State.Frame.foldl | refine State.Frame.ofPair ?_ (by assumption) | split) | apply State.Frame.foldlFst | refine State.Frame.ofPair ?_ (by assumption) | split | dsimp only)

theorem State.exhausted_frame (h : s.Frame n o) (hn : Covers n 0x83784a) : ∀ x1 x2 x3, (State.exhausted s x1 x2 x3).Frame n o := by
  intros
  unfold State.exhausted
  with_reducible repeat' (first | intro _ | assumption | exact Covers.trans hn (by decide) | apply State.bump_frame | apply State.setFld_frame | apply State.raise_frame | apply State.repSet_frame | apply State.Frame.foldl | apply State.Frame.ite | (apply State.Frame.mk' <;> first | exact .inl (Covers.bit hn (by decide)) | exact .inr rfl | assumption | apply State.bump_frame | apply State.setFld_frame | apply State.raise_frame | apply State.repSet_frame | apply State.Frame.ite | apply State.Frame.foldl | refine State.Frame.ofPair ?_ (by assumption) | split) | apply State.Frame.foldlFst | refine State.Frame.ofPair ?_ (by assumption) | split | dsimp only)

theorem State.noteGroups_frame (h : s.Frame n o) (hn : Covers n 0x10000) : ∀ x1 x2 x3, (State.noteGroups s x1 x2 x3).Frame n o := by
  intros
  unfold State.noteGroups
  with_reducible repeat' (first | intro _ | assumption | exact Covers.trans hn (by decide) | apply State.Frame.foldl | apply State.Frame.ite | (apply State.Frame.mk' <;> first | exact .inl (Covers.bit hn (by decide)) | exact .inr rfl | assumption | apply State.Frame.ite | apply State.Frame.foldl | refine State.Frame.ofPair ?_ (by assumption) | split) | apply State.Frame.foldlFst | refine State.Frame.ofPair ?_ (by assumption) | split | dsimp only)

theorem State.testGroups_frame (h : s.Frame n o) (hn : Covers n 0x83784a) : ∀ x1 x2 x3, (State.testGroups s x1 x2 x3).Frame n o := by
  intros
  unfold State.testGroups
  with_reducible repeat' (first | intro _ | assumption | exact Covers.trans hn (by decide) | apply State.raise_frame | apply State.repSet_frame | apply State.Frame.foldl | apply State.Frame.ite | (apply State.Frame.mk' <;> first | exact .inl (Covers.bit hn (by decide)) | exact .inr rfl | assumption | apply State.raise_frame | apply State.repSet_frame | apply State.Frame.ite | apply State.Frame.foldl | refine State.Frame.ofPair ?_ (by assumption) | split) | apply State.Frame.foldlFst | refine State.Frame.ofPair ?_ (by assumption) | split | dsimp only)

theorem State.passRow_frame (h : s.Frame n o) (hn : Covers n 0x83784a) : ∀ x1 x2 x3 x4, (State.passRow s x1 x2 x3 x4).Frame n o := by
  intros
  unfold State.passRow
  with_reducible repeat' (first | intro _ | assumption | exact Covers.trans hn (by decide) | apply State.markBad_frame | apply State.exhausted_frame | apply State.modChan_frame | apply State.testGroups_frame | apply State.Frame.foldl | apply State.Frame.ite | (apply State.Frame.mk' <;> first | exact .inl (Covers.bit hn (by decide)) | exact .inr rfl | assumption | apply State.markBad_frame | apply State.exhausted_frame | apply State.modChan_frame | apply State.testGroups_frame | apply State.Frame.ite | apply State.Frame.foldl | refine State.Frame.ofPair ?_ (by assumption) | split) | apply State.Frame.foldlFst | refine State.Frame.ofPair ?_ (by assumption) | split | dsimp only)

theorem execLaneRetire_frame (h : s.Frame n o) (hn : Covers n 0x83786a) : ∀ x0 x1, Out.Frame n o (execLaneRetire x0 x1 s) := by
  intros
  unfold execLaneRetire
  with_reducible repeat' (first | intro _ | assumption | exact Covers.trans hn (by decide) | apply State.setFld_frame | apply State.modTrk_frame | apply State.repSet_frame | apply State.Frame.foldl | apply Out.Frame.next | apply State.Frame.ite | (apply State.Frame.mk' <;> first | exact .inl (Covers.bit hn (by decide)) | exact .inr rfl | assumption | apply State.setFld_frame | apply State.modTrk_frame | apply State.repSet_frame | apply State.Frame.ite | apply State.Frame.foldl | refine State.Frame.ofPair ?_ (by assumption) | split) | apply State.Frame.foldlFst | refine State.Frame.ofPair ?_ (by assumption) | split | dsimp only)

theorem State.launchCfg_frame (h : s.Frame n o) (hn : Covers n 0x802) : ∀ x1, (State.launchCfg s x1).Frame n o := by
  intros
  unfold State.launchCfg
  with_reducible repeat' (first | intro _ | assumption | exact Covers.trans hn (by decide) | apply State.launch_frame | apply State.modChan_frame | apply State.Frame.foldl | apply State.Frame.ite | (apply State.Frame.mk' <;> first | exact .inl (Covers.bit hn (by decide)) | exact .inr rfl | assumption | apply State.launch_frame | apply State.modChan_frame | apply State.Frame.ite | apply State.Frame.foldl | refine State.Frame.ofPair ?_ (by assumption) | split) | apply State.Frame.foldlFst | refine State.Frame.ofPair ?_ (by assumption) | split | dsimp only)

theorem State.sendCfg_frame (h : s.Frame n o) (hn : Covers n 0x2802) : ∀ x1 x2, (State.sendCfg s x1 x2).Frame n o := by
  intros
  unfold State.sendCfg
  with_reducible repeat' (first | intro _ | assumption | exact Covers.trans hn (by decide) | apply State.launchCfg_frame | apply State.Frame.foldl | apply State.Frame.ite | (apply State.Frame.mk' <;> first | exact .inl (Covers.bit hn (by decide)) | exact .inr rfl | assumption | apply State.launchCfg_frame | apply State.Frame.ite | apply State.Frame.foldl | refine State.Frame.ofPair ?_ (by assumption) | split) | apply State.Frame.foldlFst | refine State.Frame.ofPair ?_ (by assumption) | split | dsimp only)

theorem State.setcfg_frame (h : s.Frame n o) (hn : Covers n 0x2802) : ∀ x1 x2 x3 x4 x5, (State.setcfg s x1 x2 x3 x4 x5).Frame n o := by
  intros
  unfold State.setcfg
  with_reducible repeat' (first | intro _ | assumption | exact Covers.trans hn (by decide) | apply State.sendCfg_frame | apply State.Frame.foldl | apply State.Frame.ite | (apply State.Frame.mk' <;> first | exact .inl (Covers.bit hn (by decide)) | exact .inr rfl | assumption | apply State.sendCfg_frame | apply State.Frame.ite | apply State.Frame.foldl | refine State.Frame.ofPair ?_ (by assumption) | split) | apply State.Frame.foldlFst | refine State.Frame.ofPair ?_ (by assumption) | split | dsimp only)

theorem State.sendRep_frame (h : s.Frame n o) (hn : Covers n 0x2802) : ∀ x1 x2 x3 x4, (State.sendRep s x1 x2 x3 x4).Frame n o := by
  intros
  unfold State.sendRep
  with_reducible repeat' (first | intro _ | assumption | exact Covers.trans hn (by decide) | apply State.sendCfg_frame | apply State.Frame.foldl | apply State.Frame.ite | (apply State.Frame.mk' <;> first | exact .inl (Covers.bit hn (by decide)) | exact .inr rfl | assumption | apply State.sendCfg_frame | apply State.Frame.ite | apply State.Frame.foldl | refine State.Frame.ofPair ?_ (by assumption) | split) | apply State.Frame.foldlFst | refine State.Frame.ofPair ?_ (by assumption) | split | dsimp only)

theorem State.sendTiming_frame (h : s.Frame n o) (hn : Covers n 0x2802) : ∀ x1, (State.sendTiming s x1).Frame n o := by
  intros
  unfold State.sendTiming
  with_reducible repeat' (first | intro _ | assumption | exact Covers.trans hn (by decide) | apply State.upTo_frame | apply State.setcfg_frame | apply State.sendCfg_frame | apply State.Frame.foldl | apply State.Frame.ite | (apply State.Frame.mk' <;> first | exact .inl (Covers.bit hn (by decide)) | exact .inr rfl | assumption | apply State.upTo_frame | apply State.setcfg_frame | apply State.sendCfg_frame | apply State.Frame.ite | apply State.Frame.foldl | refine State.Frame.ofPair ?_ (by assumption) | split) | apply State.Frame.foldlFst | refine State.Frame.ofPair ?_ (by assumption) | split | dsimp only)

end Sys2Proof.Machine
end

