-- ==== Sys2Proof/Laws/FrameE.lean ====
section
/-! SUPPORT. Which parts of State each operation leaves, of March, Integrity, Faults, Bandwidth. -/
namespace Sys2Proof.Machine

set_option linter.all false

variable {n : Nat} {o s : State}

/-! ### March -/

theorem State.modMarch_frame (h : s.Frame n o) (hn : Covers n 0x800) : ∀ x1 x2 x3, (State.modMarch s x1 x2 x3).Frame n o := by
  intros
  unfold State.modMarch
  with_reducible repeat' (first | intro _ | assumption | exact Covers.trans hn (by decide) | apply State.modChan_frame | apply State.Frame.foldl | apply State.Frame.ite | (apply State.Frame.mk' <;> first | exact .inl (Covers.bit hn (by decide)) | exact .inr rfl | assumption | apply State.modChan_frame | apply State.Frame.ite | apply State.Frame.foldl | refine State.Frame.ofPair ?_ (by assumption) | split) | apply State.Frame.foldlFst | refine State.Frame.ofPair ?_ (by assumption) | split | dsimp only)

theorem State.marchWrite_frame (h : s.Frame n o) (hn : Covers n 0x800) : ∀ x1 x2 x3, (State.marchWrite s x1 x2 x3).Frame n o := by
  intros
  unfold State.marchWrite
  with_reducible repeat' (first | intro _ | assumption | exact Covers.trans hn (by decide) | apply State.pushRow_frame | apply State.modMarch_frame | apply State.Frame.foldl | apply State.Frame.ite | (apply State.Frame.mk' <;> first | exact .inl (Covers.bit hn (by decide)) | exact .inr rfl | assumption | apply State.pushRow_frame | apply State.modMarch_frame | apply State.Frame.ite | apply State.Frame.foldl | refine State.Frame.ofPair ?_ (by assumption) | split) | apply State.Frame.foldlFst | refine State.Frame.ofPair ?_ (by assumption) | split | dsimp only)

theorem State.marchRow_frame (h : s.Frame n o) (hn : Covers n 0x800) : ∀ x1 x2, (State.marchRow s x1 x2).Frame n o := by
  intros
  unfold State.marchRow
  with_reducible repeat' (first | intro _ | assumption | exact Covers.trans hn (by decide) | apply State.marchWrite_frame | apply State.pushRow_frame | apply State.modMarch_frame | apply State.Frame.foldl | apply State.Frame.ite | (apply State.Frame.mk' <;> first | exact .inl (Covers.bit hn (by decide)) | exact .inr rfl | assumption | apply State.marchWrite_frame | apply State.pushRow_frame | apply State.modMarch_frame | apply State.Frame.ite | apply State.Frame.foldl | refine State.Frame.ofPair ?_ (by assumption) | split) | apply State.Frame.foldlFst | refine State.Frame.ofPair ?_ (by assumption) | split | dsimp only)

theorem State.addSteps_frame (h : s.Frame n o) (hn : Covers n 0x2) : ∀ x1, (State.addSteps s x1).Frame n o := by
  intros
  unfold State.addSteps
  with_reducible repeat' (first | intro _ | assumption | exact Covers.trans hn (by decide) | apply State.setFld_frame | apply State.Frame.foldl | apply State.Frame.ite | (apply State.Frame.mk' <;> first | exact .inl (Covers.bit hn (by decide)) | exact .inr rfl | assumption | apply State.setFld_frame | apply State.Frame.ite | apply State.Frame.foldl | refine State.Frame.ofPair ?_ (by assumption) | split) | apply State.Frame.foldlFst | refine State.Frame.ofPair ?_ (by assumption) | split | dsimp only)

theorem State.marchElemEnd_frame (h : s.Frame n o) (hn : Covers n 0x802) : ∀ x1 x2, (State.marchElemEnd s x1 x2).Frame n o := by
  intros
  unfold State.marchElemEnd
  with_reducible repeat' (first | intro _ | assumption | exact Covers.trans hn (by decide) | apply State.addSteps_frame | apply State.marchRow_frame | apply State.modChan_frame | apply State.Frame.foldl | apply State.Frame.ite | (apply State.Frame.mk' <;> first | exact .inl (Covers.bit hn (by decide)) | exact .inr rfl | assumption | apply State.addSteps_frame | apply State.marchRow_frame | apply State.modChan_frame | apply State.Frame.ite | apply State.Frame.foldl | refine State.Frame.ofPair ?_ (by assumption) | split) | apply State.Frame.foldlFst | refine State.Frame.ofPair ?_ (by assumption) | split | dsimp only)

theorem State.marchAdvance_frame (h : s.Frame n o) (hn : Covers n 0x802) : ∀ x1 x2, (State.marchAdvance s x1 x2).Frame n o := by
  intros
  unfold State.marchAdvance
  with_reducible repeat' (first | intro _ | assumption | exact Covers.trans hn (by decide) | apply State.marchRow_frame | apply State.marchElemEnd_frame | apply State.Frame.foldl | apply State.Frame.ite | (apply State.Frame.mk' <;> first | exact .inl (Covers.bit hn (by decide)) | exact .inr rfl | assumption | apply State.marchRow_frame | apply State.marchElemEnd_frame | apply State.Frame.ite | apply State.Frame.foldl | refine State.Frame.ofPair ?_ (by assumption) | split) | apply State.Frame.foldlFst | refine State.Frame.ofPair ?_ (by assumption) | split | dsimp only)

theorem State.marchAfterRead_frame (h : s.Frame n o) (hn : Covers n 0x802) : ∀ x1 x2, (State.marchAfterRead s x1 x2).Frame n o := by
  intros
  unfold State.marchAfterRead
  with_reducible repeat' (first | intro _ | assumption | exact Covers.trans hn (by decide) | apply State.marchWrite_frame | apply State.marchAdvance_frame | apply State.Frame.foldl | apply State.Frame.ite | (apply State.Frame.mk' <;> first | exact .inl (Covers.bit hn (by decide)) | exact .inr rfl | assumption | apply State.marchWrite_frame | apply State.marchAdvance_frame | apply State.Frame.ite | apply State.Frame.foldl | refine State.Frame.ofPair ?_ (by assumption) | split) | apply State.Frame.foldlFst | refine State.Frame.ofPair ?_ (by assumption) | split | dsimp only)

theorem State.repairVoid_frame (h : s.Frame n o) (hn : Covers n 0x83784a) : ∀ x1 x2 x3 x4, (State.repairVoid s x1 x2 x3 x4).Frame n o := by
  intros
  unfold State.repairVoid
  with_reducible repeat' (first | intro _ | assumption | exact Covers.trans hn (by decide) | apply State.exhausted_frame | apply State.testGroups_frame | apply State.markServing_frame | apply State.checkBudgets_frame | apply State.bump_frame | apply State.repSet_frame | apply State.noteGroups_frame | apply State.sendRep_frame | apply State.raise_frame | apply State.Frame.foldl | apply State.Frame.ite | (apply State.Frame.mk' <;> first | exact .inl (Covers.bit hn (by decide)) | exact .inr rfl | assumption | apply State.exhausted_frame | apply State.testGroups_frame | apply State.markServing_frame | apply State.checkBudgets_frame | apply State.bump_frame | apply State.repSet_frame | apply State.noteGroups_frame | apply State.sendRep_frame | apply State.raise_frame | apply State.Frame.ite | apply State.Frame.foldl | refine State.Frame.ofPair ?_ (by assumption) | split) | apply State.Frame.foldlFst | refine State.Frame.ofPair ?_ (by assumption) | split | dsimp only)

theorem State.marchFail_frame (h : s.Frame n o) (hn : Covers n 0x83784a) : ∀ x1 x2 x3 x4, (State.marchFail s x1 x2 x3 x4).Frame n o := by
  intros
  unfold State.marchFail
  with_reducible repeat' (first | intro _ | assumption | exact Covers.trans hn (by decide) | apply State.bump_frame | apply State.raise_frame | apply State.markBad_frame | apply State.repairVoid_frame | apply State.Frame.foldl | apply State.Frame.ite | (apply State.Frame.mk' <;> first | exact .inl (Covers.bit hn (by decide)) | exact .inr rfl | assumption | apply State.bump_frame | apply State.raise_frame | apply State.markBad_frame | apply State.repairVoid_frame | apply State.Frame.ite | apply State.Frame.foldl | refine State.Frame.ofPair ?_ (by assumption) | split) | apply State.Frame.foldlFst | refine State.Frame.ofPair ?_ (by assumption) | split | dsimp only)

theorem State.marchReadEnd_frame (h : s.Frame n o) (hn : Covers n 0x83784a) : ∀ x1 x2, (State.marchReadEnd s x1 x2).Frame n o := by
  intros
  unfold State.marchReadEnd
  with_reducible repeat' (first | intro _ | assumption | exact Covers.trans hn (by decide) | apply State.marchAfterRead_frame | apply State.marchFail_frame | apply State.modMarch_frame | apply State.Frame.foldl | apply State.Frame.ite | (apply State.Frame.mk' <;> first | exact .inl (Covers.bit hn (by decide)) | exact .inr rfl | assumption | apply State.marchAfterRead_frame | apply State.marchFail_frame | apply State.modMarch_frame | apply State.Frame.ite | apply State.Frame.foldl | refine State.Frame.ofPair ?_ (by assumption) | split) | apply State.Frame.foldlFst | refine State.Frame.ofPair ?_ (by assumption) | split | dsimp only)

theorem State.marchStep_frame (h : s.Frame n o) (hn : Covers n 0x83784a) : ∀ x1 x2, (State.marchStep s x1 x2).Frame n o := by
  intros
  unfold State.marchStep
  with_reducible repeat' (first | intro _ | assumption | exact Covers.trans hn (by decide) | apply State.modMarch_frame | apply State.marchAdvance_frame | apply State.marchReadEnd_frame | apply State.Frame.foldl | apply State.Frame.ite | (apply State.Frame.mk' <;> first | exact .inl (Covers.bit hn (by decide)) | exact .inr rfl | assumption | apply State.modMarch_frame | apply State.marchAdvance_frame | apply State.marchReadEnd_frame | apply State.Frame.ite | apply State.Frame.foldl | refine State.Frame.ofPair ?_ (by assumption) | split) | apply State.Frame.foldlFst | refine State.Frame.ofPair ?_ (by assumption) | split | dsimp only)

theorem State.marchIn_frame (h : s.Frame n o) (hn : Covers n 0x83784a) : ∀ x1 x2 x3 x4, (State.marchIn s x1 x2 x3 x4).Frame n o := by
  intros
  unfold State.marchIn
  with_reducible repeat' (first | intro _ | assumption | exact Covers.trans hn (by decide) | apply State.marchStep_frame | apply State.modMarch_frame | apply State.Frame.foldl | apply State.Frame.ite | (apply State.Frame.mk' <;> first | exact .inl (Covers.bit hn (by decide)) | exact .inr rfl | assumption | apply State.marchStep_frame | apply State.modMarch_frame | apply State.Frame.ite | apply State.Frame.foldl | refine State.Frame.ofPair ?_ (by assumption) | split) | apply State.Frame.foldlFst | refine State.Frame.ofPair ?_ (by assumption) | split | dsimp only)

theorem State.marchResume_frame (h : s.Frame n o) (hn : Covers n 0x802) : ∀ x1 x2, (State.marchResume s x1 x2).Frame n o := by
  intros
  unfold State.marchResume
  with_reducible repeat' (first | intro _ | assumption | exact Covers.trans hn (by decide) | apply State.marchAfterRead_frame | apply State.Frame.foldl | apply State.Frame.ite | (apply State.Frame.mk' <;> first | exact .inl (Covers.bit hn (by decide)) | exact .inr rfl | assumption | apply State.marchAfterRead_frame | apply State.Frame.ite | apply State.Frame.foldl | refine State.Frame.ofPair ?_ (by assumption) | split) | apply State.Frame.foldlFst | refine State.Frame.ofPair ?_ (by assumption) | split | dsimp only)

theorem State.startMarch_frame (h : s.Frame n o) (hn : Covers n 0x800) : ∀ x1, (State.startMarch s x1).Frame n o := by
  intros
  unfold State.startMarch
  with_reducible repeat' (first | intro _ | assumption | exact Covers.trans hn (by decide) | apply State.modChan_frame | apply State.upTo_frame | apply State.marchRow_frame | apply State.Frame.foldl | apply State.Frame.ite | (apply State.Frame.mk' <;> first | exact .inl (Covers.bit hn (by decide)) | exact .inr rfl | assumption | apply State.modChan_frame | apply State.upTo_frame | apply State.marchRow_frame | apply State.Frame.ite | apply State.Frame.foldl | refine State.Frame.ofPair ?_ (by assumption) | split) | apply State.Frame.foldlFst | refine State.Frame.ofPair ?_ (by assumption) | split | dsimp only)

theorem State.stopMarch_frame (h : s.Frame n o) (hn : Covers n 0x800) : ∀ x1, (State.stopMarch s x1).Frame n o := by
  intros
  unfold State.stopMarch
  with_reducible repeat' (first | intro _ | assumption | exact Covers.trans hn (by decide) | apply State.modChan_frame | apply State.Frame.foldl | apply State.Frame.ite | (apply State.Frame.mk' <;> first | exact .inl (Covers.bit hn (by decide)) | exact .inr rfl | assumption | apply State.modChan_frame | apply State.Frame.ite | apply State.Frame.foldl | refine State.Frame.ofPair ?_ (by assumption) | split) | apply State.Frame.foldlFst | refine State.Frame.ofPair ?_ (by assumption) | split | dsimp only)

/-! ### Integrity -/

theorem State.listRetest_frame (h : s.Frame n o) (hn : Covers n 0x802) : ∀ x1 x2 x3, (State.listRetest s x1 x2 x3).Frame n o := by
  intros
  unfold State.listRetest
  with_reducible repeat' (first | intro _ | assumption | exact Covers.trans hn (by decide) | apply State.bump_frame | apply State.modChan_frame | apply State.Frame.foldl | apply State.Frame.ite | (apply State.Frame.mk' <;> first | exact .inl (Covers.bit hn (by decide)) | exact .inr rfl | assumption | apply State.bump_frame | apply State.modChan_frame | apply State.Frame.ite | apply State.Frame.foldl | refine State.Frame.ofPair ?_ (by assumption) | split) | apply State.Frame.foldlFst | refine State.Frame.ofPair ?_ (by assumption) | split | dsimp only)

theorem State.raiseTiles_frame (h : s.Frame n o) (hn : Covers n 0x82784a) : ∀ x1 x2 x3 x4 x5 x6 x7 x8, (State.raiseTiles s x1 x2 x3 x4 x5 x6 x7 x8).Frame n o := by
  intros
  unfold State.raiseTiles
  with_reducible repeat' (first | intro _ | assumption | exact Covers.trans hn (by decide) | apply State.raise_frame | apply State.bump_frame | apply State.Frame.foldl | apply State.Frame.ite | (apply State.Frame.mk' <;> first | exact .inl (Covers.bit hn (by decide)) | exact .inr rfl | assumption | apply State.raise_frame | apply State.bump_frame | apply State.Frame.ite | apply State.Frame.foldl | refine State.Frame.ofPair ?_ (by assumption) | split) | apply State.Frame.foldlFst | refine State.Frame.ofPair ?_ (by assumption) | split | dsimp only)

theorem State.rewrite_frame (h : s.Frame n o) (hn : Covers n 0x802) : ∀ x1 x2 x3 x4 x5 x6, (State.rewrite s x1 x2 x3 x4 x5 x6).Frame n o := by
  intros
  unfold State.rewrite
  with_reducible repeat' (first | intro _ | assumption | exact Covers.trans hn (by decide) | apply State.bump_frame | apply State.modChan_frame | apply State.pushPrio_frame | apply State.Frame.foldl | apply State.Frame.ite | (apply State.Frame.mk' <;> first | exact .inl (Covers.bit hn (by decide)) | exact .inr rfl | assumption | apply State.bump_frame | apply State.modChan_frame | apply State.pushPrio_frame | apply State.Frame.ite | apply State.Frame.foldl | refine State.Frame.ofPair ?_ (by assumption) | split) | apply State.Frame.foldlFst | refine State.Frame.ofPair ?_ (by assumption) | split | dsimp only)

theorem State.lineFinal_frame (h : s.Frame n o) (hn : Covers n 0x840) : ∀ x1 x2 x3 x4, (State.lineFinal s x1 x2 x3 x4).Frame n o := by
  intros
  unfold State.lineFinal
  with_reducible repeat' (first | intro _ | assumption | exact Covers.trans hn (by decide) | apply State.closeEnt_frame | apply State.modLine_frame | apply State.Frame.foldl | apply State.Frame.ite | (apply State.Frame.mk' <;> first | exact .inl (Covers.bit hn (by decide)) | exact .inr rfl | assumption | apply State.closeEnt_frame | apply State.modLine_frame | apply State.Frame.ite | apply State.Frame.foldl | refine State.Frame.ofPair ?_ (by assumption) | split) | apply State.Frame.foldlFst | refine State.Frame.ofPair ?_ (by assumption) | split | dsimp only)

theorem State.hostLine_frame (h : s.Frame n o) (hn : Covers n 0x82784a) : ∀ x1 x2 x3 x4, (State.hostLine s x1 x2 x3 x4).Frame n o := by
  intros
  unfold State.hostLine
  with_reducible repeat' (first | intro _ | assumption | exact Covers.trans hn (by decide) | apply State.raiseTiles_frame | apply State.listRetest_frame | apply State.raise_frame | apply State.bump_frame | apply State.rewrite_frame | apply State.lineFinal_frame | apply State.Frame.foldl | apply State.Frame.ite | (apply State.Frame.mk' <;> first | exact .inl (Covers.bit hn (by decide)) | exact .inr rfl | assumption | apply State.raiseTiles_frame | apply State.listRetest_frame | apply State.raise_frame | apply State.bump_frame | apply State.rewrite_frame | apply State.lineFinal_frame | apply State.Frame.ite | apply State.Frame.foldl | refine State.Frame.ofPair ?_ (by assumption) | split) | apply State.Frame.foldlFst | refine State.Frame.ofPair ?_ (by assumption) | split | dsimp only)

theorem State.rmwLine_frame (h : s.Frame n o) (hn : Covers n 0x82784a) : ∀ x1 x2 x3 x4, (State.rmwLine s x1 x2 x3 x4).Frame n o := by
  intros
  unfold State.rmwLine
  with_reducible repeat' (first | intro _ | assumption | exact Covers.trans hn (by decide) | apply State.modChan_frame | apply State.raiseTiles_frame | apply State.listRetest_frame | apply State.raise_frame | apply State.rewrite_frame | apply State.lineFinal_frame | apply State.bump_frame | apply State.modLine_frame | apply State.pushPrio_frame | apply State.Frame.foldl | apply State.Frame.ite | (apply State.Frame.mk' <;> first | exact .inl (Covers.bit hn (by decide)) | exact .inr rfl | assumption | apply State.modChan_frame | apply State.raiseTiles_frame | apply State.listRetest_frame | apply State.raise_frame | apply State.rewrite_frame | apply State.lineFinal_frame | apply State.bump_frame | apply State.modLine_frame | apply State.pushPrio_frame | apply State.Frame.ite | apply State.Frame.foldl | refine State.Frame.ofPair ?_ (by assumption) | split) | apply State.Frame.foldlFst | refine State.Frame.ofPair ?_ (by assumption) | split | dsimp only)

theorem State.gangLine_frame (h : s.Frame n o) (hn : Covers n 0x82784a) : ∀ x1 x2 x3 x4, (State.gangLine s x1 x2 x3 x4).Frame n o := by
  intros
  unfold State.gangLine
  with_reducible repeat' (first | intro _ | assumption | exact Covers.trans hn (by decide) | apply State.raiseTiles_frame | apply State.listRetest_frame | apply State.rewrite_frame | apply State.Frame.foldl | apply State.Frame.ite | (apply State.Frame.mk' <;> first | exact .inl (Covers.bit hn (by decide)) | exact .inr rfl | assumption | apply State.raiseTiles_frame | apply State.listRetest_frame | apply State.rewrite_frame | apply State.Frame.ite | apply State.Frame.foldl | refine State.Frame.ofPair ?_ (by assumption) | split) | apply State.Frame.foldlFst | refine State.Frame.ofPair ?_ (by assumption) | split | dsimp only)

theorem State.modRt_frame (h : s.Frame n o) (hn : Covers n 0x800) : ∀ x1 x2, (State.modRt s x1 x2).Frame n o := by
  intros
  unfold State.modRt
  with_reducible repeat' (first | intro _ | assumption | exact Covers.trans hn (by decide) | apply State.modChan_frame | apply State.Frame.foldl | apply State.Frame.ite | (apply State.Frame.mk' <;> first | exact .inl (Covers.bit hn (by decide)) | exact .inr rfl | assumption | apply State.modChan_frame | apply State.Frame.ite | apply State.Frame.foldl | refine State.Frame.ofPair ?_ (by assumption) | split) | apply State.Frame.foldlFst | refine State.Frame.ofPair ?_ (by assumption) | split | dsimp only)

theorem State.nextTestRow_frame (h : s.Frame n o) (hn : Covers n 0x20802) : ∀ x1 x2, (State.nextTestRow s x1 x2).Frame n o := by
  intros
  unfold State.nextTestRow
  with_reducible repeat' (first | intro _ | assumption | exact Covers.trans hn (by decide) | apply State.setFld_frame | apply State.bump_frame | apply State.endChTest_frame | apply State.Frame.foldl | apply State.Frame.ite | (apply State.Frame.mk' <;> first | exact .inl (Covers.bit hn (by decide)) | exact .inr rfl | assumption | apply State.setFld_frame | apply State.bump_frame | apply State.endChTest_frame | apply State.Frame.ite | apply State.Frame.foldl | refine State.Frame.ofPair ?_ (by assumption) | split) | apply State.Frame.foldlFst | refine State.Frame.ofPair ?_ (by assumption) | split | dsimp only)

theorem State.endRetest_frame (h : s.Frame n o) (hn : Covers n 0x83784a) : ∀ x1 x2, (State.endRetest s x1 x2).Frame n o := by
  intros
  unfold State.endRetest
  with_reducible repeat' (first | intro _ | assumption | exact Covers.trans hn (by decide) | apply State.modChan_frame | apply State.bump_frame | apply State.raise_frame | apply State.passRow_frame | apply State.nextTestRow_frame | apply State.reside_frame | apply State.Frame.foldl | apply State.Frame.ite | (apply State.Frame.mk' <;> first | exact .inl (Covers.bit hn (by decide)) | exact .inr rfl | assumption | apply State.modChan_frame | apply State.bump_frame | apply State.raise_frame | apply State.passRow_frame | apply State.nextTestRow_frame | apply State.reside_frame | apply State.Frame.ite | apply State.Frame.foldl | refine State.Frame.ofPair ?_ (by assumption) | split) | apply State.Frame.foldlFst | refine State.Frame.ofPair ?_ (by assumption) | split | dsimp only)

theorem State.retestPass_frame (h : s.Frame n o) (hn : Covers n 0x82784a) : ∀ x1 x2, (State.retestPass s x1 x2).Frame n o := by
  intros
  unfold State.retestPass
  with_reducible repeat' (first | intro _ | assumption | exact Covers.trans hn (by decide) | apply State.bump_frame | apply State.raise_frame | apply State.pushRow_frame | apply State.modRt_frame | apply State.Frame.foldl | apply State.Frame.ite | (apply State.Frame.mk' <;> first | exact .inl (Covers.bit hn (by decide)) | exact .inr rfl | assumption | apply State.bump_frame | apply State.raise_frame | apply State.pushRow_frame | apply State.modRt_frame | apply State.Frame.ite | apply State.Frame.foldl | refine State.Frame.ofPair ?_ (by assumption) | split) | apply State.Frame.foldlFst | refine State.Frame.ofPair ?_ (by assumption) | split | dsimp only)

theorem State.retestStep_frame (h : s.Frame n o) (hn : Covers n 0x83784a) : ∀ x1, (State.retestStep s x1).Frame n o := by
  intros
  unfold State.retestStep
  with_reducible repeat' (first | intro _ | assumption | exact Covers.trans hn (by decide) | apply State.modRt_frame | apply State.retestPass_frame | apply State.pushRow_frame | apply State.endRetest_frame | apply State.Frame.foldl | apply State.Frame.ite | (apply State.Frame.mk' <;> first | exact .inl (Covers.bit hn (by decide)) | exact .inr rfl | assumption | apply State.modRt_frame | apply State.retestPass_frame | apply State.pushRow_frame | apply State.endRetest_frame | apply State.Frame.ite | apply State.Frame.foldl | refine State.Frame.ofPair ?_ (by assumption) | split) | apply State.Frame.foldlFst | refine State.Frame.ofPair ?_ (by assumption) | split | dsimp only)

theorem State.modMig_frame (h : s.Frame n o) (hn : Covers n 0x800) : ∀ x1 x2, (State.modMig s x1 x2).Frame n o := by
  intros
  unfold State.modMig
  with_reducible repeat' (first | intro _ | assumption | exact Covers.trans hn (by decide) | apply State.modChan_frame | apply State.Frame.foldl | apply State.Frame.ite | (apply State.Frame.mk' <;> first | exact .inl (Covers.bit hn (by decide)) | exact .inr rfl | assumption | apply State.modChan_frame | apply State.Frame.ite | apply State.Frame.foldl | refine State.Frame.ofPair ?_ (by assumption) | split) | apply State.Frame.foldlFst | refine State.Frame.ofPair ?_ (by assumption) | split | dsimp only)

theorem State.rerow_frame (h : s.Frame n o) (hn : Covers n 0x800) : ∀ x1 x2, (State.rerow s x1 x2).Frame n o := by
  intros
  unfold State.rerow
  with_reducible repeat' (first | intro _ | assumption | exact Covers.trans hn (by decide) | apply State.modChan_frame | apply State.Frame.foldl | apply State.Frame.ite | (apply State.Frame.mk' <;> first | exact .inl (Covers.bit hn (by decide)) | exact .inr rfl | assumption | apply State.modChan_frame | apply State.Frame.ite | apply State.Frame.foldl | refine State.Frame.ofPair ?_ (by assumption) | split) | apply State.Frame.foldlFst | refine State.Frame.ofPair ?_ (by assumption) | split | dsimp only)

theorem State.migPlace_frame (h : s.Frame n o) (hn : Covers n 0x2802) : ∀ x1 x2, (State.migPlace s x1 x2).Frame n o := by
  intros
  unfold State.migPlace
  with_reducible repeat' (first | intro _ | assumption | exact Covers.trans hn (by decide) | apply State.sendRep_frame | apply State.modMig_frame | apply State.pushRow_frame | apply State.Frame.foldl | apply State.Frame.ite | (apply State.Frame.mk' <;> first | exact .inl (Covers.bit hn (by decide)) | exact .inr rfl | assumption | apply State.sendRep_frame | apply State.modMig_frame | apply State.pushRow_frame | apply State.Frame.ite | apply State.Frame.foldl | refine State.Frame.ofPair ?_ (by assumption) | split) | apply State.Frame.foldlFst | refine State.Frame.ofPair ?_ (by assumption) | split | dsimp only)

theorem State.migNext_frame (h : s.Frame n o) (hn : Covers n 0x83784a) : ∀ x1 x2 x3, (State.migNext s x1 x2 x3).Frame n o := by
  intros
  unfold State.migNext
  with_reducible repeat' (first | intro _ | assumption | exact Covers.trans hn (by decide) | apply State.markBad_frame | apply State.checkBudgets_frame | apply State.repSet_frame | apply State.migPlace_frame | apply State.repDel_frame | apply State.modChan_frame | apply State.exhausted_frame | apply State.reside_frame | apply State.rerow_frame | apply State.Frame.foldl | apply State.Frame.ite | (apply State.Frame.mk' <;> first | exact .inl (Covers.bit hn (by decide)) | exact .inr rfl | assumption | apply State.markBad_frame | apply State.checkBudgets_frame | apply State.repSet_frame | apply State.migPlace_frame | apply State.repDel_frame | apply State.modChan_frame | apply State.exhausted_frame | apply State.reside_frame | apply State.rerow_frame | apply State.Frame.ite | apply State.Frame.foldl | refine State.Frame.ofPair ?_ (by assumption) | split) | apply State.Frame.foldlFst | refine State.Frame.ofPair ?_ (by assumption) | split | dsimp only)

theorem State.migDone_frame (h : s.Frame n o) (hn : Covers n 0x83784a) : ∀ x1 x2, (State.migDone s x1 x2).Frame n o := by
  intros
  unfold State.migDone
  with_reducible repeat' (first | intro _ | assumption | exact Covers.trans hn (by decide) | apply State.repSet_frame | apply State.noteGroups_frame | apply State.bump_frame | apply State.modChan_frame | apply State.raise_frame | apply State.reside_frame | apply State.rerow_frame | apply State.checkBudgets_frame | apply State.Frame.foldl | apply State.Frame.ite | (apply State.Frame.mk' <;> first | exact .inl (Covers.bit hn (by decide)) | exact .inr rfl | assumption | apply State.repSet_frame | apply State.noteGroups_frame | apply State.bump_frame | apply State.modChan_frame | apply State.raise_frame | apply State.reside_frame | apply State.rerow_frame | apply State.checkBudgets_frame | apply State.Frame.ite | apply State.Frame.foldl | refine State.Frame.ofPair ?_ (by assumption) | split) | apply State.Frame.foldlFst | refine State.Frame.ofPair ?_ (by assumption) | split | dsimp only)

theorem State.migReadBack_frame (h : s.Frame n o) (hn : Covers n 0x800) : ∀ x1 x2, (State.migReadBack s x1 x2).Frame n o := by
  intros
  unfold State.migReadBack
  with_reducible repeat' (first | intro _ | assumption | exact Covers.trans hn (by decide) | apply State.pushRow_frame | apply State.modMig_frame | apply State.Frame.foldl | apply State.Frame.ite | (apply State.Frame.mk' <;> first | exact .inl (Covers.bit hn (by decide)) | exact .inr rfl | assumption | apply State.pushRow_frame | apply State.modMig_frame | apply State.Frame.ite | apply State.Frame.foldl | refine State.Frame.ofPair ?_ (by assumption) | split) | apply State.Frame.foldlFst | refine State.Frame.ofPair ?_ (by assumption) | split | dsimp only)

theorem State.migStep_frame (h : s.Frame n o) (hn : Covers n 0x83784a) : ∀ x1, (State.migStep s x1).Frame n o := by
  intros
  unfold State.migStep
  with_reducible repeat' (first | intro _ | assumption | exact Covers.trans hn (by decide) | apply State.modMig_frame | apply State.migPlace_frame | apply State.migReadBack_frame | apply State.migNext_frame | apply State.migDone_frame | apply State.Frame.foldl | apply State.Frame.ite | (apply State.Frame.mk' <;> first | exact .inl (Covers.bit hn (by decide)) | exact .inr rfl | assumption | apply State.modMig_frame | apply State.migPlace_frame | apply State.migReadBack_frame | apply State.migNext_frame | apply State.migDone_frame | apply State.Frame.ite | apply State.Frame.foldl | refine State.Frame.ofPair ?_ (by assumption) | split) | apply State.Frame.foldlFst | refine State.Frame.ofPair ?_ (by assumption) | split | dsimp only)

theorem State.migSrep_frame (h : s.Frame n o) (hn : Covers n 0x83784a) : ∀ x1 x2, (State.migSrep s x1 x2).Frame n o := by
  intros
  unfold State.migSrep
  with_reducible repeat' (first | intro _ | assumption | exact Covers.trans hn (by decide) | apply State.migNext_frame | apply State.pushRow_frame | apply State.modMig_frame | apply State.Frame.foldl | apply State.Frame.ite | (apply State.Frame.mk' <;> first | exact .inl (Covers.bit hn (by decide)) | exact .inr rfl | assumption | apply State.migNext_frame | apply State.pushRow_frame | apply State.modMig_frame | apply State.Frame.ite | apply State.Frame.foldl | refine State.Frame.ofPair ?_ (by assumption) | split) | apply State.Frame.foldlFst | refine State.Frame.ofPair ?_ (by assumption) | split | dsimp only)

theorem State.migTick_frame (h : s.Frame n o) (hn : Covers n 0x83784a) : ∀ x1, (State.migTick s x1).Frame n o := by
  intros
  unfold State.migTick
  with_reducible repeat' (first | intro _ | assumption | exact Covers.trans hn (by decide) | apply State.migReadBack_frame | apply State.repSet_frame | apply State.Frame.foldl | apply State.Frame.ite | (apply State.Frame.mk' <;> first | exact .inl (Covers.bit hn (by decide)) | exact .inr rfl | assumption | apply State.migReadBack_frame | apply State.repSet_frame | apply State.Frame.ite | apply State.Frame.foldl | refine State.Frame.ofPair ?_ (by assumption) | split) | apply State.Frame.foldlFst | refine State.Frame.ofPair ?_ (by assumption) | split | dsimp only)

theorem State.lineIn_frame (h : s.Frame n o) (hn : Covers n 0x83784a) : ∀ x1 x2 x3 x4, (State.lineIn s x1 x2 x3 x4).Frame n o := by
  intros
  unfold State.lineIn
  with_reducible repeat' (first | intro _ | assumption | exact Covers.trans hn (by decide) | apply State.hostLine_frame | apply State.rmwLine_frame | apply State.gangLine_frame | apply State.retestStep_frame | apply State.modRt_frame | apply State.migStep_frame | apply State.modMig_frame | apply State.marchIn_frame | apply State.Frame.foldl | apply State.Frame.ite | (apply State.Frame.mk' <;> first | exact .inl (Covers.bit hn (by decide)) | exact .inr rfl | assumption | apply State.hostLine_frame | apply State.rmwLine_frame | apply State.gangLine_frame | apply State.retestStep_frame | apply State.modRt_frame | apply State.migStep_frame | apply State.modMig_frame | apply State.marchIn_frame | apply State.Frame.ite | apply State.Frame.foldl | refine State.Frame.ofPair ?_ (by assumption) | split) | apply State.Frame.foldlFst | refine State.Frame.ofPair ?_ (by assumption) | split | dsimp only)

theorem State.lineAcked_frame (h : s.Frame n o) (hn : Covers n 0x83784a) : ∀ x1 x2 x3, (State.lineAcked s x1 x2 x3).Frame n o := by
  intros
  unfold State.lineAcked
  with_reducible repeat' (first | intro _ | assumption | exact Covers.trans hn (by decide) | apply State.lineFinal_frame | apply State.modChan_frame | apply State.retestStep_frame | apply State.migStep_frame | apply State.marchStep_frame | apply State.Frame.foldl | apply State.Frame.ite | (apply State.Frame.mk' <;> first | exact .inl (Covers.bit hn (by decide)) | exact .inr rfl | assumption | apply State.lineFinal_frame | apply State.modChan_frame | apply State.retestStep_frame | apply State.migStep_frame | apply State.marchStep_frame | apply State.Frame.ite | apply State.Frame.foldl | refine State.Frame.ofPair ?_ (by assumption) | split) | apply State.Frame.foldlFst | refine State.Frame.ofPair ?_ (by assumption) | split | dsimp only)

theorem State.openFill_frame (h : s.Frame n o) (hn : Covers n 0x802) : ∀ x1 x2, (State.openFill s x1 x2).Frame n o := by
  intros
  unfold State.openFill
  with_reducible repeat' (first | intro _ | assumption | exact Covers.trans hn (by decide) | apply State.bump_frame | apply State.modChan_frame | apply State.modEnt_frame | apply State.pushPrio_frame | apply State.reside_frame | apply State.Frame.foldl | apply State.Frame.ite | (apply State.Frame.mk' <;> first | exact .inl (Covers.bit hn (by decide)) | exact .inr rfl | assumption | apply State.bump_frame | apply State.modChan_frame | apply State.modEnt_frame | apply State.pushPrio_frame | apply State.reside_frame | apply State.Frame.ite | apply State.Frame.foldl | refine State.Frame.ofPair ?_ (by assumption) | split) | apply State.Frame.foldlFst | refine State.Frame.ofPair ?_ (by assumption) | split | dsimp only)

theorem State.fillAcked_frame (h : s.Frame n o) (hn : Covers n 0x840) : ∀ x1 x2, (State.fillAcked s x1 x2).Frame n o := by
  intros
  unfold State.fillAcked
  with_reducible repeat' (first | intro _ | assumption | exact Covers.trans hn (by decide) | apply State.modChan_frame | apply State.closeEnt_frame | apply State.modEnt_frame | apply State.Frame.foldl | apply State.Frame.ite | (apply State.Frame.mk' <;> first | exact .inl (Covers.bit hn (by decide)) | exact .inr rfl | assumption | apply State.modChan_frame | apply State.closeEnt_frame | apply State.modEnt_frame | apply State.Frame.ite | apply State.Frame.foldl | refine State.Frame.ofPair ?_ (by assumption) | split) | apply State.Frame.foldlFst | refine State.Frame.ofPair ?_ (by assumption) | split | dsimp only)

theorem State.fillTick_frame (h : s.Frame n o) (hn : Covers n 0x8802) : ∀ x1, (State.fillTick s x1).Frame n o := by
  intros
  unfold State.fillTick
  with_reducible repeat' (first | intro _ | assumption | exact Covers.trans hn (by decide) | apply State.setVbit_frame | apply State.reside_frame | apply State.modChan_frame | apply State.Frame.foldl | apply State.Frame.ite | (apply State.Frame.mk' <;> first | exact .inl (Covers.bit hn (by decide)) | exact .inr rfl | assumption | apply State.setVbit_frame | apply State.reside_frame | apply State.modChan_frame | apply State.Frame.ite | apply State.Frame.foldl | refine State.Frame.ofPair ?_ (by assumption) | split) | apply State.Frame.foldlFst | refine State.Frame.ofPair ?_ (by assumption) | split | dsimp only)

theorem State.mapCheck_frame (h : s.Frame n o) (hn : Covers n 0x842) : ∀ x1 x2, (State.mapCheck s x1 x2).Frame n o := by
  intros
  unfold State.mapCheck
  with_reducible repeat' (first | intro _ | assumption | exact Covers.trans hn (by decide) | apply State.closeEnt_frame | apply State.modEnt_frame | apply State.openFill_frame | apply State.Frame.foldl | apply State.Frame.ite | (apply State.Frame.mk' <;> first | exact .inl (Covers.bit hn (by decide)) | exact .inr rfl | assumption | apply State.closeEnt_frame | apply State.modEnt_frame | apply State.openFill_frame | apply State.Frame.ite | apply State.Frame.foldl | refine State.Frame.ofPair ?_ (by assumption) | split) | apply State.Frame.foldlFst | refine State.Frame.ofPair ?_ (by assumption) | split | dsimp only)

theorem State.settle_frame (h : s.Frame n o) (hn : Covers n 0x842) : ∀ x1, (State.settle s x1).Frame n o := by
  intros
  unfold State.settle
  with_reducible repeat' (first | intro _ | assumption | exact Covers.trans hn (by decide) | apply State.reside_frame | apply State.mapCheck_frame | apply State.Frame.foldl | apply State.Frame.ite | (apply State.Frame.mk' <;> first | exact .inl (Covers.bit hn (by decide)) | exact .inr rfl | assumption | apply State.reside_frame | apply State.mapCheck_frame | apply State.Frame.ite | apply State.Frame.foldl | refine State.Frame.ofPair ?_ (by assumption) | split) | apply State.Frame.foldlFst | refine State.Frame.ofPair ?_ (by assumption) | split | dsimp only)

/-! ### Faults -/

theorem execBulHoldoffEnd_frame (h : s.Frame n o) (hn : Covers n 0xa) : Out.Frame n o (execBulHoldoffEnd s) := by
  unfold execBulHoldoffEnd
  with_reducible repeat' (first | intro _ | assumption | exact Covers.trans hn (by decide) | apply State.enqueueMask_frame | apply State.Frame.foldl | apply Out.Frame.next | apply State.Frame.ite | (apply State.Frame.mk' <;> first | exact .inl (Covers.bit hn (by decide)) | exact .inr rfl | assumption | apply State.enqueueMask_frame | apply State.Frame.ite | apply State.Frame.foldl | refine State.Frame.ofPair ?_ (by assumption) | split) | apply State.Frame.foldlFst | refine State.Frame.ofPair ?_ (by assumption) | split | dsimp only)

theorem execBrsWindowEnd_frame (h : s.Frame n o) (hn : Covers n 0x8) : Out.Frame n o (execBrsWindowEnd s) := by
  unfold execBrsWindowEnd
  with_reducible repeat' (first | intro _ | assumption | exact Covers.trans hn (by decide) | apply State.Frame.foldl | apply Out.Frame.next | apply State.Frame.ite | (apply State.Frame.mk' <;> first | exact .inl (Covers.bit hn (by decide)) | exact .inr rfl | assumption | apply State.Frame.ite | apply State.Frame.foldl | refine State.Frame.ofPair ?_ (by assumption) | split) | apply State.Frame.foldlFst | refine State.Frame.ofPair ?_ (by assumption) | split | dsimp only)

theorem execCrsDue_frame (h : s.Frame n o) (hn : Covers n 0x3fffd7e) : Out.Frame n o (execCrsDue s) := by
  unfold execCrsDue
  with_reducible repeat' (first | intro _ | assumption | exact Covers.trans hn (by decide) | apply State.chipReset_frame | apply State.Frame.foldl | apply Out.Frame.next | apply State.Frame.ite | (apply State.Frame.mk' <;> first | exact .inl (Covers.bit hn (by decide)) | exact .inr rfl | assumption | apply State.chipReset_frame | apply State.Frame.ite | apply State.Frame.foldl | refine State.Frame.ofPair ?_ (by assumption) | split) | apply State.Frame.foldlFst | refine State.Frame.ofPair ?_ (by assumption) | split | dsimp only)

theorem execErrNHoldExpiry_frame (h : s.Frame n o) (hn : Covers n 0x8) : Out.Frame n o (execErrNHoldExpiry s) := by
  unfold execErrNHoldExpiry
  with_reducible repeat' (first | intro _ | assumption | exact Covers.trans hn (by decide) | apply State.updErr_frame | apply State.Frame.foldl | apply Out.Frame.next | apply State.Frame.ite | (apply State.Frame.mk' <;> first | exact .inl (Covers.bit hn (by decide)) | exact .inr rfl | assumption | apply State.updErr_frame | apply State.Frame.ite | apply State.Frame.foldl | refine State.Frame.ofPair ?_ (by assumption) | split) | apply State.Frame.foldlFst | refine State.Frame.ofPair ?_ (by assumption) | split | dsimp only)

theorem State.contain_frame (h : s.Frame n o) (hn : Covers n 0xe) : ∀ x1, (State.contain s x1).Frame n o := by
  intros
  unfold State.contain
  with_reducible repeat' (first | intro _ | assumption | exact Covers.trans hn (by decide) | apply State.clrFld_frame | apply State.setFld_frame | apply State.updErr_frame | apply State.Frame.foldl | apply State.Frame.ite | (apply State.Frame.mk' <;> first | exact .inl (Covers.bit hn (by decide)) | exact .inr rfl | assumption | apply State.clrFld_frame | apply State.setFld_frame | apply State.updErr_frame | apply State.Frame.ite | apply State.Frame.foldl | refine State.Frame.ofPair ?_ (by assumption) | split) | apply State.Frame.foldlFst | refine State.Frame.ofPair ?_ (by assumption) | split | dsimp only)

theorem State.voteCopies_frame (h : s.Frame n o) (hn : Covers n 0x82784e) : ∀ x1 x2 x3 x4, (State.voteCopies s x1 x2 x3 x4).Frame n o := by
  intros
  unfold State.voteCopies
  with_reducible repeat' (first | intro _ | assumption | exact Covers.trans hn (by decide) | apply State.raise_frame | apply State.bump_frame | apply State.setFld_frame | apply State.contain_frame | apply State.Frame.foldl | apply State.Frame.ite | (apply State.Frame.mk' <;> first | exact .inl (Covers.bit hn (by decide)) | exact .inr rfl | assumption | apply State.raise_frame | apply State.bump_frame | apply State.setFld_frame | apply State.contain_frame | apply State.Frame.ite | apply State.Frame.foldl | refine State.Frame.ofPair ?_ (by assumption) | split) | apply State.Frame.foldlFst | refine State.Frame.ofPair ?_ (by assumption) | split | dsimp only)

theorem State.voteKey_frame (h : s.Frame n o) (hn : Covers n 0x82784e) : ∀ x1 x2, (State.voteKey s x1 x2).Frame n o := by
  intros
  unfold State.voteKey
  with_reducible repeat' (first | intro _ | assumption | exact Covers.trans hn (by decide) | apply State.voteCopies_frame | apply State.Frame.foldl | apply State.Frame.ite | (apply State.Frame.mk' <;> first | exact .inl (Covers.bit hn (by decide)) | exact .inr rfl | assumption | apply State.voteCopies_frame | apply State.Frame.ite | apply State.Frame.foldl | refine State.Frame.ofPair ?_ (by assumption) | split) | apply State.Frame.foldlFst | refine State.Frame.ofPair ?_ (by assumption) | split | dsimp only)

theorem State.voteAll_frame (h : s.Frame n o) (hn : Covers n 0x82784e) : ∀ x1, (State.voteAll s x1).Frame n o := by
  intros
  unfold State.voteAll
  with_reducible repeat' (first | intro _ | assumption | exact Covers.trans hn (by decide) | apply State.voteKey_frame | apply State.Frame.foldl | apply State.Frame.ite | (apply State.Frame.mk' <;> first | exact .inl (Covers.bit hn (by decide)) | exact .inr rfl | assumption | apply State.voteKey_frame | apply State.Frame.ite | apply State.Frame.foldl | refine State.Frame.ofPair ?_ (by assumption) | split) | apply State.Frame.foldlFst | refine State.Frame.ofPair ?_ (by assumption) | split | dsimp only)

theorem State.voteRegs_frame (h : s.Frame n o) (hn : Covers n 0x82784e) : ∀ x1, (State.voteRegs s x1).Frame n o := by
  intros
  unfold State.voteRegs
  with_reducible repeat' (first | intro _ | assumption | exact Covers.trans hn (by decide) | apply State.voteKey_frame | apply State.Frame.foldl | apply State.Frame.ite | (apply State.Frame.mk' <;> first | exact .inl (Covers.bit hn (by decide)) | exact .inr rfl | assumption | apply State.voteKey_frame | apply State.Frame.ite | apply State.Frame.foldl | refine State.Frame.ofPair ?_ (by assumption) | split) | apply State.Frame.foldlFst | refine State.Frame.ofPair ?_ (by assumption) | split | dsimp only)

theorem State.agree_frame (h : s.Frame n o) (hn : Covers n 0x4) : ∀ x1, (State.agree s x1).Frame n o := by
  intros
  unfold State.agree
  with_reducible repeat' (first | intro _ | assumption | exact Covers.trans hn (by decide) | apply State.Frame.foldl | apply State.Frame.ite | (apply State.Frame.mk' <;> first | exact .inl (Covers.bit hn (by decide)) | exact .inr rfl | assumption | apply State.Frame.ite | apply State.Frame.foldl | refine State.Frame.ofPair ?_ (by assumption) | split) | apply State.Frame.foldlFst | refine State.Frame.ofPair ?_ (by assumption) | split | dsimp only)

theorem execVoteSweep_frame (h : s.Frame n o) (hn : Covers n 0x82784e) : ∀ x0, Out.Frame n o (execVoteSweep x0 s) := by
  intros
  unfold execVoteSweep
  with_reducible repeat' (first | intro _ | assumption | exact Covers.trans hn (by decide) | apply State.voteAll_frame | apply State.Frame.foldl | apply Out.Frame.next | apply State.Frame.ite | (apply State.Frame.mk' <;> first | exact .inl (Covers.bit hn (by decide)) | exact .inr rfl | assumption | apply State.voteAll_frame | apply State.Frame.ite | apply State.Frame.foldl | refine State.Frame.ofPair ?_ (by assumption) | split) | apply State.Frame.foldlFst | refine State.Frame.ofPair ?_ (by assumption) | split | dsimp only)

/-! ### Bandwidth -/

theorem State.gradeReq_frame (h : s.Frame n o) (hn : Covers n 0x4000) : ∀ x1 x2 x3, (State.gradeReq s x1 x2 x3).1.Frame n o := by
  intros
  unfold State.gradeReq
  with_reducible repeat' (first | intro _ | assumption | exact Covers.trans hn (by decide) | apply State.Frame.foldl | apply State.Frame.ite | (apply State.Frame.mk' <;> first | exact .inl (Covers.bit hn (by decide)) | exact .inr rfl | assumption | apply State.Frame.ite | apply State.Frame.foldl | refine State.Frame.ofPair ?_ (by assumption) | split) | apply State.Frame.foldlFst | refine State.Frame.ofPair ?_ (by assumption) | split | dsimp only)

theorem execAccountSlot_frame (h : s.Frame n o) (hn : Covers n 0x4000) : Out.Frame n o (execAccountSlot s) := by
  unfold execAccountSlot
  with_reducible repeat' (first | intro _ | assumption | exact Covers.trans hn (by decide) | apply State.Frame.foldl | apply Out.Frame.next | apply State.Frame.ite | (apply State.Frame.mk' <;> first | exact .inl (Covers.bit hn (by decide)) | exact .inr rfl | assumption | apply State.Frame.ite | apply State.Frame.foldl | refine State.Frame.ofPair ?_ (by assumption) | split) | apply State.Frame.foldlFst | refine State.Frame.ofPair ?_ (by assumption) | split | dsimp only)

theorem State.refill_frame (h : s.Frame n o) (hn : Covers n 0x4002) : ∀ x1 x2 x3, (State.refill s x1 x2 x3).Frame n o := by
  intros
  unfold State.refill
  with_reducible repeat' (first | intro _ | assumption | exact Covers.trans hn (by decide) | apply State.upTo_frame | apply State.setFld_frame | apply State.Frame.foldl | apply State.Frame.ite | (apply State.Frame.mk' <;> first | exact .inl (Covers.bit hn (by decide)) | exact .inr rfl | assumption | apply State.upTo_frame | apply State.setFld_frame | apply State.Frame.ite | apply State.Frame.foldl | refine State.Frame.ofPair ?_ (by assumption) | split) | apply State.Frame.foldlFst | refine State.Frame.ofPair ?_ (by assumption) | split | dsimp only)

theorem State.refillAll_frame (h : s.Frame n o) (hn : Covers n 0x4002) : (State.refillAll s).Frame n o := by
  unfold State.refillAll
  with_reducible repeat' (first | intro _ | assumption | exact Covers.trans hn (by decide) | apply State.setFld_frame | apply State.refill_frame | apply State.Frame.foldl | apply State.Frame.ite | (apply State.Frame.mk' <;> first | exact .inl (Covers.bit hn (by decide)) | exact .inr rfl | assumption | apply State.setFld_frame | apply State.refill_frame | apply State.Frame.ite | apply State.Frame.foldl | refine State.Frame.ofPair ?_ (by assumption) | split) | apply State.Frame.foldlFst | refine State.Frame.ofPair ?_ (by assumption) | split | dsimp only)

theorem State.countDeficit_frame (h : s.Frame n o) (hn : Covers n 0x2) : ∀ x1 x2, (State.countDeficit s x1 x2).Frame n o := by
  intros
  unfold State.countDeficit
  with_reducible repeat' (first | intro _ | assumption | exact Covers.trans hn (by decide) | apply State.setFld_frame | apply State.bump_frame | apply State.Frame.foldl | apply State.Frame.ite | (apply State.Frame.mk' <;> first | exact .inl (Covers.bit hn (by decide)) | exact .inr rfl | assumption | apply State.setFld_frame | apply State.bump_frame | apply State.Frame.ite | apply State.Frame.foldl | refine State.Frame.ofPair ?_ (by assumption) | split) | apply State.Frame.foldlFst | refine State.Frame.ofPair ?_ (by assumption) | split | dsimp only)

theorem State.raiseDeficit_frame (h : s.Frame n o) (hn : Covers n 0x82784a) : ∀ x1 x2 x3, (State.raiseDeficit s x1 x2 x3).Frame n o := by
  intros
  unfold State.raiseDeficit
  with_reducible repeat' (first | intro _ | assumption | exact Covers.trans hn (by decide) | apply State.raise_frame | apply State.Frame.foldl | apply State.Frame.ite | (apply State.Frame.mk' <;> first | exact .inl (Covers.bit hn (by decide)) | exact .inr rfl | assumption | apply State.raise_frame | apply State.Frame.ite | apply State.Frame.foldl | refine State.Frame.ofPair ?_ (by assumption) | split) | apply State.Frame.foldlFst | refine State.Frame.ofPair ?_ (by assumption) | split | dsimp only)

theorem execDeficitWindowEnd_frame (h : s.Frame n o) (hn : Covers n 0x82784a) : Out.Frame n o (execDeficitWindowEnd s) := by
  unfold execDeficitWindowEnd
  with_reducible repeat' (first | intro _ | assumption | exact Covers.trans hn (by decide) | apply State.countDeficit_frame | apply State.raiseDeficit_frame | apply State.Frame.foldl | apply Out.Frame.next | apply State.Frame.ite | (apply State.Frame.mk' <;> first | exact .inl (Covers.bit hn (by decide)) | exact .inr rfl | assumption | apply State.countDeficit_frame | apply State.raiseDeficit_frame | apply State.Frame.ite | apply State.Frame.foldl | refine State.Frame.ofPair ?_ (by assumption) | split) | apply State.Frame.foldlFst | refine State.Frame.ofPair ?_ (by assumption) | split | dsimp only)

end Sys2Proof.Machine
end

