-- ==== Sys2Proof/Laws/FrameF.lean ====
section
/-! SUPPORT. Which parts of State each operation leaves, of Thermal, Image, Sched. -/
namespace Sys2Proof.Machine

set_option linter.all false

variable {n : Nat} {o s : State}

/-! ### Thermal -/

theorem State.sample14_frame (h : s.Frame n o) (hn : Covers n 0x4000000) : ∀ x1, (State.sample14 s x1).2.Frame n o := by
  intros
  unfold State.sample14
  with_reducible repeat' (first | intro _ | assumption | exact Covers.trans hn (by decide) | apply State.freeBelow_frame | apply State.Frame.foldl | apply State.Frame.ite | (apply State.Frame.mk' <;> first | exact .inl (Covers.bit hn (by decide)) | exact .inr rfl | assumption | apply State.freeBelow_frame | apply State.Frame.ite | apply State.Frame.foldl | refine State.Frame.ofPair ?_ (by assumption) | split) | apply State.Frame.foldlFst | apply State.Frame.foldlSnd | refine State.Frame.ofPair ?_ (by assumption) | refine State.Frame.ofPair2 ?_ (by assumption) | split | dsimp only)

theorem State.modThm_frame (h : s.Frame n o) (hn : Covers n 0x40000) : ∀ x1 x2, (State.modThm s x1 x2).Frame n o := by
  intros
  unfold State.modThm
  with_reducible repeat' (first | intro _ | assumption | exact Covers.trans hn (by decide) | apply State.Frame.foldl | apply State.Frame.ite | (apply State.Frame.mk' <;> first | exact .inl (Covers.bit hn (by decide)) | exact .inr rfl | assumption | apply State.Frame.ite | apply State.Frame.foldl | refine State.Frame.ofPair ?_ (by assumption) | split) | apply State.Frame.foldlFst | refine State.Frame.ofPair ?_ (by assumption) | split | dsimp only)

theorem State.baseSample_frame (h : s.Frame n o) (hn : Covers n 0x86784a) : ∀ x1 x2, (State.baseSample s x1 x2).Frame n o := by
  intros
  unfold State.baseSample
  with_reducible repeat' (first | intro _ | assumption | exact Covers.trans hn (by decide) | apply State.setFlag_frame | apply State.setFld_frame | apply State.raise_frame | apply State.bump_frame | apply State.Frame.foldl | apply State.Frame.ite | (apply State.Frame.mk' <;> first | exact .inl (Covers.bit hn (by decide)) | exact .inr rfl | assumption | apply State.setFlag_frame | apply State.setFld_frame | apply State.raise_frame | apply State.bump_frame | apply State.Frame.ite | apply State.Frame.foldl | refine State.Frame.ofPair ?_ (by assumption) | split) | apply State.Frame.foldlFst | refine State.Frame.ofPair ?_ (by assumption) | split | dsimp only)

theorem State.setTherm_frame (h : s.Frame n o) (hn : Covers n 0x12) : ∀ x1, (State.setTherm s x1).Frame n o := by
  intros
  unfold State.setTherm
  with_reducible repeat' (first | intro _ | assumption | exact Covers.trans hn (by decide) | apply State.setFlag_frame | apply State.Frame.foldl | apply State.Frame.ite | (apply State.Frame.mk' <;> first | exact .inl (Covers.bit hn (by decide)) | exact .inr rfl | assumption | apply State.setFlag_frame | apply State.Frame.ite | apply State.Frame.foldl | refine State.Frame.ofPair ?_ (by assumption) | split) | apply State.Frame.foldlFst | refine State.Frame.ofPair ?_ (by assumption) | split | dsimp only)

theorem State.baseOver_frame (h : s.Frame n o) (hn : Covers n 0x82785a) : (State.baseOver s).Frame n o := by
  unfold State.baseOver
  with_reducible repeat' (first | intro _ | assumption | exact Covers.trans hn (by decide) | apply State.setFlag_frame | apply State.raise_frame | apply State.setTherm_frame | apply State.Frame.foldl | apply State.Frame.ite | (apply State.Frame.mk' <;> first | exact .inl (Covers.bit hn (by decide)) | exact .inr rfl | assumption | apply State.setFlag_frame | apply State.raise_frame | apply State.setTherm_frame | apply State.Frame.ite | apply State.Frame.foldl | refine State.Frame.ofPair ?_ (by assumption) | split) | apply State.Frame.foldlFst | refine State.Frame.ofPair ?_ (by assumption) | split | dsimp only)

theorem State.railSamples_frame (h : s.Frame n o) (hn : Covers n 0x8a784a) : ∀ x1, (State.railSamples s x1).Frame n o := by
  intros
  unfold State.railSamples
  with_reducible repeat' (first | intro _ | assumption | exact Covers.trans hn (by decide) | apply State.setFld_frame | apply State.raise_frame | apply State.Frame.foldl | apply State.Frame.ite | (apply State.Frame.mk' <;> first | exact .inl (Covers.bit hn (by decide)) | exact .inr rfl | assumption | apply State.setFld_frame | apply State.raise_frame | apply State.Frame.ite | apply State.Frame.foldl | refine State.Frame.ofPair ?_ (by assumption) | split) | apply State.Frame.foldlFst | refine State.Frame.ofPair ?_ (by assumption) | split | dsimp only)

theorem State.poll_frame (h : s.Frame n o) (hn : Covers n 0x42802) : (State.poll s).Frame n o := by
  unfold State.poll
  with_reducible repeat' (first | intro _ | assumption | exact Covers.trans hn (by decide) | apply State.setFld_frame | apply State.modThm_frame | apply State.sendCfg_frame | apply State.Frame.foldl | apply State.Frame.ite | (apply State.Frame.mk' <;> first | exact .inl (Covers.bit hn (by decide)) | exact .inr rfl | assumption | apply State.setFld_frame | apply State.modThm_frame | apply State.sendCfg_frame | apply State.Frame.ite | apply State.Frame.foldl | refine State.Frame.ofPair ?_ (by assumption) | split) | apply State.Frame.foldlFst | refine State.Frame.ofPair ?_ (by assumption) | split | dsimp only)

theorem State.coreSensor_frame (h : s.Frame n o) (hn : Covers n 0x86784a) : ∀ x1 x2 x3, (State.coreSensor s x1 x2 x3).Frame n o := by
  intros
  unfold State.coreSensor
  with_reducible repeat' (first | intro _ | assumption | exact Covers.trans hn (by decide) | apply State.modThm_frame | apply State.raise_frame | apply State.bump_frame | apply State.Frame.foldl | apply State.Frame.ite | (apply State.Frame.mk' <;> first | exact .inl (Covers.bit hn (by decide)) | exact .inr rfl | assumption | apply State.modThm_frame | apply State.raise_frame | apply State.bump_frame | apply State.Frame.ite | apply State.Frame.foldl | refine State.Frame.ofPair ?_ (by assumption) | split) | apply State.Frame.foldlFst | refine State.Frame.ofPair ?_ (by assumption) | split | dsimp only)

theorem State.tempPoll_frame (h : s.Frame n o) (hn : Covers n 0x86784a) : ∀ x1 x2, (State.tempPoll s x1 x2).Frame n o := by
  intros
  unfold State.tempPoll
  with_reducible repeat' (first | intro _ | assumption | exact Covers.trans hn (by decide) | apply State.coreSensor_frame | apply State.modThm_frame | apply State.setFlag_frame | apply State.setFld_frame | apply State.Frame.foldl | apply State.Frame.ite | (apply State.Frame.mk' <;> first | exact .inl (Covers.bit hn (by decide)) | exact .inr rfl | assumption | apply State.coreSensor_frame | apply State.modThm_frame | apply State.setFlag_frame | apply State.setFld_frame | apply State.Frame.ite | apply State.Frame.foldl | refine State.Frame.ofPair ?_ (by assumption) | split) | apply State.Frame.foldlFst | refine State.Frame.ofPair ?_ (by assumption) | split | dsimp only)

theorem State.witness_frame (h : s.Frame n o) (hn : Covers n 0x4040002) : ∀ x1 x2, (State.witness s x1 x2).Frame n o := by
  intros
  unfold State.witness
  with_reducible repeat' (first | intro _ | assumption | exact Covers.trans hn (by decide) | apply State.modThm_frame | apply State.divFree_frame | apply State.sample14_frame | apply State.setFld_frame | apply State.Frame.foldl | apply State.Frame.ite | (apply State.Frame.mk' <;> first | exact .inl (Covers.bit hn (by decide)) | exact .inr rfl | assumption | apply State.modThm_frame | apply State.divFree_frame | apply State.sample14_frame | apply State.setFld_frame | apply State.Frame.ite | apply State.Frame.foldl | refine State.Frame.ofPair ?_ (by assumption) | split) | apply State.Frame.foldlFst | refine State.Frame.ofPair ?_ (by assumption) | refine State.Frame.ofPair2 ?_ (by assumption) | split | dsimp only)

theorem State.setWitRef_frame (h : s.Frame n o) (hn : Covers n 0x2) : ∀ x1 x2 x3, (State.setWitRef s x1 x2 x3).Frame n o := by
  intros
  unfold State.setWitRef
  with_reducible repeat' (first | intro _ | assumption | exact Covers.trans hn (by decide) | apply State.setFld_frame | apply State.Frame.foldl | apply State.Frame.ite | (apply State.Frame.mk' <;> first | exact .inl (Covers.bit hn (by decide)) | exact .inr rfl | assumption | apply State.setFld_frame | apply State.Frame.ite | apply State.Frame.foldl | refine State.Frame.ofPair ?_ (by assumption) | split) | apply State.Frame.foldlFst | refine State.Frame.ofPair ?_ (by assumption) | split | dsimp only)

theorem State.modelNew_frame (h : s.Frame n o) (hn : Covers n 0x4000000) : ∀ x1 x2, (State.modelNew s x1 x2).2.Frame n o := by
  intros
  unfold State.modelNew
  with_reducible repeat' (first | intro _ | assumption | exact Covers.trans hn (by decide) | apply State.divFree_frame | apply State.Frame.foldl | apply State.Frame.ite | (apply State.Frame.mk' <;> first | exact .inl (Covers.bit hn (by decide)) | exact .inr rfl | assumption | apply State.divFree_frame | apply State.Frame.ite | apply State.Frame.foldl | refine State.Frame.ofPair ?_ (by assumption) | split) | apply State.Frame.foldlFst | apply State.Frame.foldlSnd | refine State.Frame.ofPair ?_ (by assumption) | refine State.Frame.ofPair2 ?_ (by assumption) | split | dsimp only)

theorem State.showModel_frame (h : s.Frame n o) (hn : Covers n 0x4000002) : ∀ x1, (State.showModel s x1).Frame n o := by
  intros
  unfold State.showModel
  with_reducible repeat' (first | intro _ | assumption | exact Covers.trans hn (by decide) | apply State.divFree_frame | apply State.sample14_frame | apply State.setFld_frame | apply State.Frame.foldl | apply State.Frame.ite | (apply State.Frame.mk' <;> first | exact .inl (Covers.bit hn (by decide)) | exact .inr rfl | assumption | apply State.divFree_frame | apply State.sample14_frame | apply State.setFld_frame | apply State.Frame.ite | apply State.Frame.foldl | refine State.Frame.ofPair ?_ (by assumption) | split) | apply State.Frame.foldlFst | refine State.Frame.ofPair ?_ (by assumption) | refine State.Frame.ofPair2 ?_ (by assumption) | split | dsimp only)

theorem State.modelStep_frame (h : s.Frame n o) (hn : Covers n 0x4040002) : (State.modelStep s).Frame n o := by
  unfold State.modelStep
  with_reducible repeat' (first | intro _ | assumption | exact Covers.trans hn (by decide) | apply State.upTo_frame | apply State.setFld_frame | apply State.modelNew_frame | apply State.modThm_frame | apply State.showModel_frame | apply State.Frame.foldl | apply State.Frame.ite | (apply State.Frame.mk' <;> first | exact .inl (Covers.bit hn (by decide)) | exact .inr rfl | assumption | apply State.upTo_frame | apply State.setFld_frame | apply State.modelNew_frame | apply State.modThm_frame | apply State.showModel_frame | apply State.Frame.ite | apply State.Frame.foldl | refine State.Frame.ofPair ?_ (by assumption) | split) | apply State.Frame.foldlFst | refine State.Frame.ofPair ?_ (by assumption) | refine State.Frame.ofPair2 ?_ (by assumption) | split | dsimp only)

theorem State.disagree_frame (h : s.Frame n o) (hn : Covers n 0x86784a) : ∀ x1, (State.disagree s x1).Frame n o := by
  intros
  unfold State.disagree
  with_reducible repeat' (first | intro _ | assumption | exact Covers.trans hn (by decide) | apply State.modThm_frame | apply State.setFlag_frame | apply State.raise_frame | apply State.bump_frame | apply State.Frame.foldl | apply State.Frame.ite | (apply State.Frame.mk' <;> first | exact .inl (Covers.bit hn (by decide)) | exact .inr rfl | assumption | apply State.modThm_frame | apply State.setFlag_frame | apply State.raise_frame | apply State.bump_frame | apply State.Frame.ite | apply State.Frame.foldl | refine State.Frame.ofPair ?_ (by assumption) | split) | apply State.Frame.foldlFst | refine State.Frame.ofPair ?_ (by assumption) | split | dsimp only)

theorem State.refreshRate_frame (h : s.Frame n o) (hn : Covers n 0x86784a) : ∀ x1, (State.refreshRate s x1).Frame n o := by
  intros
  unfold State.refreshRate
  with_reducible repeat' (first | intro _ | assumption | exact Covers.trans hn (by decide) | apply State.modThm_frame | apply State.raise_frame | apply State.Frame.foldl | apply State.Frame.ite | (apply State.Frame.mk' <;> first | exact .inl (Covers.bit hn (by decide)) | exact .inr rfl | assumption | apply State.modThm_frame | apply State.raise_frame | apply State.Frame.ite | apply State.Frame.foldl | refine State.Frame.ofPair ?_ (by assumption) | split) | apply State.Frame.foldlFst | refine State.Frame.ofPair ?_ (by assumption) | split | dsimp only)

theorem State.throttle_frame (h : s.Frame n o) (hn : Covers n 0x86784a) : ∀ x1, (State.throttle s x1).Frame n o := by
  intros
  unfold State.throttle
  with_reducible repeat' (first | intro _ | assumption | exact Covers.trans hn (by decide) | apply State.setFld_frame | apply State.modThm_frame | apply State.raise_frame | apply State.bump_frame | apply State.Frame.foldl | apply State.Frame.ite | (apply State.Frame.mk' <;> first | exact .inl (Covers.bit hn (by decide)) | exact .inr rfl | assumption | apply State.setFld_frame | apply State.modThm_frame | apply State.raise_frame | apply State.bump_frame | apply State.Frame.ite | apply State.Frame.foldl | refine State.Frame.ofPair ?_ (by assumption) | split) | apply State.Frame.foldlFst | refine State.Frame.ofPair ?_ (by assumption) | split | dsimp only)

theorem State.stageThermal_frame (h : s.Frame n o) (hn : Covers n 0x6) : (State.stageThermal s).Frame n o := by
  unfold State.stageThermal
  with_reducible repeat' (first | intro _ | assumption | exact Covers.trans hn (by decide) | apply State.setFlag_frame | apply State.atTick_frame | apply State.Frame.foldl | apply State.Frame.ite | (apply State.Frame.mk' <;> first | exact .inl (Covers.bit hn (by decide)) | exact .inr rfl | assumption | apply State.setFlag_frame | apply State.atTick_frame | apply State.Frame.ite | apply State.Frame.foldl | refine State.Frame.ofPair ?_ (by assumption) | split) | apply State.Frame.foldlFst | refine State.Frame.ofPair ?_ (by assumption) | split | dsimp only)

theorem execTelemetrySlot_frame (h : s.Frame n o) (hn : Covers n 0x48e785e) : ∀ x0, Out.Frame n o (execTelemetrySlot x0 s) := by
  intros
  unfold execTelemetrySlot
  with_reducible repeat' (first | intro _ | assumption | exact Covers.trans hn (by decide) | apply State.baseSample_frame | apply State.railSamples_frame | apply State.baseOver_frame | apply State.modelStep_frame | apply State.poll_frame | apply State.disagree_frame | apply State.refreshRate_frame | apply State.stageThermal_frame | apply State.throttle_frame | apply State.Frame.foldl | apply Out.Frame.next | apply State.Frame.ite | (apply State.Frame.mk' <;> first | exact .inl (Covers.bit hn (by decide)) | exact .inr rfl | assumption | apply State.baseSample_frame | apply State.railSamples_frame | apply State.baseOver_frame | apply State.modelStep_frame | apply State.poll_frame | apply State.disagree_frame | apply State.refreshRate_frame | apply State.stageThermal_frame | apply State.throttle_frame | apply State.Frame.ite | apply State.Frame.foldl | refine State.Frame.ofPair ?_ (by assumption) | split) | apply State.Frame.foldlFst | refine State.Frame.ofPair ?_ (by assumption) | split | dsimp only)

theorem State.avsStart_frame (h : s.Frame n o) (hn : Covers n 0x80000) : ∀ x1, (State.avsStart s x1).Frame n o := by
  intros
  unfold State.avsStart
  with_reducible repeat' (first | intro _ | assumption | exact Covers.trans hn (by decide) | apply State.Frame.foldl | apply State.Frame.ite | (apply State.Frame.mk' <;> first | exact .inl (Covers.bit hn (by decide)) | exact .inr rfl | assumption | apply State.Frame.ite | apply State.Frame.foldl | refine State.Frame.ofPair ?_ (by assumption) | split) | apply State.Frame.foldlFst | refine State.Frame.ofPair ?_ (by assumption) | split | dsimp only)

theorem State.avsNext_frame (h : s.Frame n o) (hn : Covers n 0x80000) : (State.avsNext s).Frame n o := by
  unfold State.avsNext
  with_reducible repeat' (first | intro _ | assumption | exact Covers.trans hn (by decide) | apply State.Frame.foldl | apply State.Frame.ite | (apply State.Frame.mk' <;> first | exact .inl (Covers.bit hn (by decide)) | exact .inr rfl | assumption | apply State.Frame.ite | apply State.Frame.foldl | refine State.Frame.ofPair ?_ (by assumption) | split) | apply State.Frame.foldlFst | refine State.Frame.ofPair ?_ (by assumption) | split | dsimp only)

theorem execAvsLoopPeriod_frame (h : s.Frame n o) (hn : Covers n 0x8a784a) : ∀ x0, Out.Frame n o (execAvsLoopPeriod x0 s) := by
  intros
  unfold execAvsLoopPeriod
  with_reducible repeat' (first | intro _ | assumption | exact Covers.trans hn (by decide) | apply State.setFld_frame | apply State.avsStart_frame | apply State.raise_frame | apply State.Frame.foldl | apply Out.Frame.next | apply State.Frame.ite | (apply State.Frame.mk' <;> first | exact .inl (Covers.bit hn (by decide)) | exact .inr rfl | assumption | apply State.setFld_frame | apply State.avsStart_frame | apply State.raise_frame | apply State.Frame.ite | apply State.Frame.foldl | refine State.Frame.ofPair ?_ (by assumption) | split) | apply State.Frame.foldlFst | refine State.Frame.ofPair ?_ (by assumption) | split | dsimp only)

theorem State.avsWritten_frame (h : s.Frame n o) (hn : Covers n 0x8a784a) : ∀ x1 x2, (State.avsWritten s x1 x2).Frame n o := by
  intros
  unfold State.avsWritten
  with_reducible repeat' (first | intro _ | assumption | exact Covers.trans hn (by decide) | apply State.setFld_frame | apply State.bump_frame | apply State.raise_frame | apply State.Frame.foldl | apply State.Frame.ite | (apply State.Frame.mk' <;> first | exact .inl (Covers.bit hn (by decide)) | exact .inr rfl | assumption | apply State.setFld_frame | apply State.bump_frame | apply State.raise_frame | apply State.Frame.ite | apply State.Frame.foldl | refine State.Frame.ofPair ?_ (by assumption) | split) | apply State.Frame.foldlFst | refine State.Frame.ofPair ?_ (by assumption) | split | dsimp only)

theorem State.avsRead_frame (h : s.Frame n o) (hn : Covers n 0x80002) : ∀ x1, (State.avsRead s x1).Frame n o := by
  intros
  unfold State.avsRead
  with_reducible repeat' (first | intro _ | assumption | exact Covers.trans hn (by decide) | apply State.setFld_frame | apply State.Frame.foldl | apply State.Frame.ite | (apply State.Frame.mk' <;> first | exact .inl (Covers.bit hn (by decide)) | exact .inr rfl | assumption | apply State.setFld_frame | apply State.Frame.ite | apply State.Frame.foldl | refine State.Frame.ofPair ?_ (by assumption) | split) | apply State.Frame.foldlFst | refine State.Frame.ofPair ?_ (by assumption) | split | dsimp only)

theorem execAvsOpComplete_frame (h : s.Frame n o) (hn : Covers n 0x8a784a) : ∀ x0 x1, Out.Frame n o (execAvsOpComplete x0 x1 s) := by
  intros
  unfold execAvsOpComplete
  with_reducible repeat' (first | intro _ | assumption | exact Covers.trans hn (by decide) | apply State.avsWritten_frame | apply State.avsRead_frame | apply State.setFld_frame | apply State.avsNext_frame | apply State.bump_frame | apply State.raise_frame | apply State.Frame.foldl | apply Out.Frame.next | apply State.Frame.ite | (apply State.Frame.mk' <;> first | exact .inl (Covers.bit hn (by decide)) | exact .inr rfl | assumption | apply State.avsWritten_frame | apply State.avsRead_frame | apply State.setFld_frame | apply State.avsNext_frame | apply State.bump_frame | apply State.raise_frame | apply State.Frame.ite | apply State.Frame.foldl | refine State.Frame.ofPair ?_ (by assumption) | split) | apply State.Frame.foldlFst | refine State.Frame.ofPair ?_ (by assumption) | split | dsimp only)

theorem execAvsRetryTimer_frame (h : s.Frame n o) (hn : Covers n 0x80002) : Out.Frame n o (execAvsRetryTimer s) := by
  unfold execAvsRetryTimer
  with_reducible repeat' (first | intro _ | assumption | exact Covers.trans hn (by decide) | apply State.setFld_frame | apply State.Frame.foldl | apply Out.Frame.next | apply State.Frame.ite | (apply State.Frame.mk' <;> first | exact .inl (Covers.bit hn (by decide)) | exact .inr rfl | assumption | apply State.setFld_frame | apply State.Frame.ite | apply State.Frame.foldl | refine State.Frame.ofPair ?_ (by assumption) | split) | apply State.Frame.foldlFst | refine State.Frame.ofPair ?_ (by assumption) | split | dsimp only)

theorem execAvsCurrentRead_frame (h : s.Frame n o) (hn : Covers n 0x80000) : Out.Frame n o (execAvsCurrentRead s) := by
  unfold execAvsCurrentRead
  with_reducible repeat' (first | intro _ | assumption | exact Covers.trans hn (by decide) | apply State.avsStart_frame | apply State.Frame.foldl | apply Out.Frame.next | apply State.Frame.ite | (apply State.Frame.mk' <;> first | exact .inl (Covers.bit hn (by decide)) | exact .inr rfl | assumption | apply State.avsStart_frame | apply State.Frame.ite | apply State.Frame.foldl | refine State.Frame.ofPair ?_ (by assumption) | split) | apply State.Frame.foldlFst | refine State.Frame.ofPair ?_ (by assumption) | split | dsimp only)

/-! ### Image -/

theorem State.applyEntry_frame (h : s.Frame n o) (hn : Covers n 0x2) : ∀ x1, (State.applyEntry s x1).Frame n o := by
  intros
  unfold State.applyEntry
  with_reducible repeat' (first | intro _ | assumption | exact Covers.trans hn (by decide) | apply State.setFld_frame | apply State.Frame.foldl | apply State.Frame.ite | (apply State.Frame.mk' <;> first | exact .inl (Covers.bit hn (by decide)) | exact .inr rfl | assumption | apply State.setFld_frame | apply State.Frame.ite | apply State.Frame.foldl | refine State.Frame.ofPair ?_ (by assumption) | split) | apply State.Frame.foldlFst | refine State.Frame.ofPair ?_ (by assumption) | split | dsimp only)

theorem State.applyRecord_frame (h : s.Frame n o) (hn : Covers n 0x210002) : ∀ x1, (State.applyRecord s x1).Frame n o := by
  intros
  unfold State.applyRecord
  with_reducible repeat' (first | intro _ | assumption | exact Covers.trans hn (by decide) | apply State.applyEntry_frame | apply State.setFld_frame | apply State.Frame.foldl | apply State.Frame.ite | (apply State.Frame.mk' <;> first | exact .inl (Covers.bit hn (by decide)) | exact .inr rfl | assumption | apply State.applyEntry_frame | apply State.setFld_frame | apply State.Frame.ite | apply State.Frame.foldl | refine State.Frame.ofPair ?_ (by assumption) | split) | apply State.Frame.foldlFst | refine State.Frame.ofPair ?_ (by assumption) | split | dsimp only)

theorem State.applyImage_frame (h : s.Frame n o) (hn : Covers n 0xa3784e) : ∀ x1 x2, (State.applyImage s x1 x2).Frame n o := by
  intros
  unfold State.applyImage
  with_reducible repeat' (first | intro _ | assumption | exact Covers.trans hn (by decide) | apply State.applyRecord_frame | apply State.setFld_frame | apply State.raise_frame | apply State.Frame.foldl | apply State.Frame.ite | (apply State.Frame.mk' <;> first | exact .inl (Covers.bit hn (by decide)) | exact .inr rfl | assumption | apply State.applyRecord_frame | apply State.setFld_frame | apply State.raise_frame | apply State.Frame.ite | apply State.Frame.foldl | refine State.Frame.ofPair ?_ (by assumption) | split) | apply State.Frame.foldlFst | refine State.Frame.ofPair ?_ (by assumption) | split | dsimp only)

/-! ### Sched -/

theorem State.mileage_frame (h : s.Frame n o) (hn : Covers n 0x82784a) : ∀ x1 x2 x3, (State.mileage s x1 x2 x3).Frame n o := by
  intros
  unfold State.mileage
  with_reducible repeat' (first | intro _ | assumption | exact Covers.trans hn (by decide) | apply State.bump_frame | apply State.modRef_frame | apply State.setFld_frame | apply State.raise_frame | apply State.Frame.foldl | apply State.Frame.ite | (apply State.Frame.mk' <;> first | exact .inl (Covers.bit hn (by decide)) | exact .inr rfl | assumption | apply State.bump_frame | apply State.modRef_frame | apply State.setFld_frame | apply State.raise_frame | apply State.Frame.ite | apply State.Frame.foldl | refine State.Frame.ofPair ?_ (by assumption) | split) | apply State.Frame.foldlFst | refine State.Frame.ofPair ?_ (by assumption) | split | dsimp only)

theorem State.flipTrain_frame (h : s.Frame n o) (hn : Covers n 0x2) : ∀ x1 x2, (State.flipTrain s x1 x2).1.Frame n o := by
  intros
  unfold State.flipTrain
  with_reducible repeat' (first | intro _ | assumption | exact Covers.trans hn (by decide) | apply State.setFld_frame | apply State.Frame.foldl | apply State.Frame.ite | (apply State.Frame.mk' <;> first | exact .inl (Covers.bit hn (by decide)) | exact .inr rfl | assumption | apply State.setFld_frame | apply State.Frame.ite | apply State.Frame.foldl | refine State.Frame.ofPair ?_ (by assumption) | split) | apply State.Frame.foldlFst | refine State.Frame.ofPair ?_ (by assumption) | split | dsimp only)

theorem State.dueLines_frame (h : s.Frame n o) (hn : Covers n 0x800) : ∀ x1 x2 x3, (State.dueLines s x1 x2 x3).Frame n o := by
  intros
  unfold State.dueLines
  with_reducible repeat' (first | intro _ | assumption | exact Covers.trans hn (by decide) | apply State.modLine_frame | apply State.Frame.foldl | apply State.Frame.ite | (apply State.Frame.mk' <;> first | exact .inl (Covers.bit hn (by decide)) | exact .inr rfl | assumption | apply State.modLine_frame | apply State.Frame.ite | apply State.Frame.foldl | refine State.Frame.ofPair ?_ (by assumption) | split) | apply State.Frame.foldlFst | refine State.Frame.ofPair ?_ (by assumption) | split | dsimp only)

theorem State.issueTrain_frame (h : s.Frame n o) (hn : Covers n 0x82784a) : ∀ x1 x2, (State.issueTrain s x1 x2).Frame n o := by
  intros
  unfold State.issueTrain
  with_reducible repeat' (first | intro _ | assumption | exact Covers.trans hn (by decide) | apply State.flipTrain_frame | apply State.setChan_frame | apply State.launch_frame | apply State.modChan_frame | apply State.dueLines_frame | apply State.bump_frame | apply State.mileage_frame | apply State.Frame.foldl | apply State.Frame.ite | (apply State.Frame.mk' <;> first | exact .inl (Covers.bit hn (by decide)) | exact .inr rfl | assumption | apply State.flipTrain_frame | apply State.setChan_frame | apply State.launch_frame | apply State.modChan_frame | apply State.dueLines_frame | apply State.bump_frame | apply State.mileage_frame | apply State.Frame.ite | apply State.Frame.foldl | refine State.Frame.ofPair ?_ (by assumption) | split) | apply State.Frame.foldlFst | refine State.Frame.ofPair ?_ (by assumption) | split | dsimp only)

theorem State.markOut_frame (h : s.Frame n o) (hn : Covers n 0x800) : ∀ x1 x2, (State.markOut s x1 x2).Frame n o := by
  intros
  unfold State.markOut
  with_reducible repeat' (first | intro _ | assumption | exact Covers.trans hn (by decide) | apply State.modLine_frame | apply State.modChan_frame | apply State.Frame.foldl | apply State.Frame.ite | (apply State.Frame.mk' <;> first | exact .inl (Covers.bit hn (by decide)) | exact .inr rfl | assumption | apply State.modLine_frame | apply State.modChan_frame | apply State.Frame.ite | apply State.Frame.foldl | refine State.Frame.ofPair ?_ (by assumption) | split) | apply State.Frame.foldlFst | refine State.Frame.ofPair ?_ (by assumption) | split | dsimp only)

theorem State.issueHost_frame (h : s.Frame n o) (hn : Covers n 0x82784a) : ∀ x1 x2, (State.issueHost s x1 x2).Frame n o := by
  intros
  unfold State.issueHost
  with_reducible repeat' (first | intro _ | assumption | exact Covers.trans hn (by decide) | apply State.modChan_frame | apply State.issueTrain_frame | apply State.markOut_frame | apply State.Frame.foldl | apply State.Frame.ite | (apply State.Frame.mk' <;> first | exact .inl (Covers.bit hn (by decide)) | exact .inr rfl | assumption | apply State.modChan_frame | apply State.issueTrain_frame | apply State.markOut_frame | apply State.Frame.ite | apply State.Frame.foldl | refine State.Frame.ofPair ?_ (by assumption) | split) | apply State.Frame.foldlFst | refine State.Frame.ofPair ?_ (by assumption) | split | dsimp only)

theorem State.setPhase_frame (h : s.Frame n o) (hn : Covers n 0x2) : ∀ x1 x2, (State.setPhase s x1 x2).Frame n o := by
  intros
  unfold State.setPhase
  with_reducible repeat' (first | intro _ | assumption | exact Covers.trans hn (by decide) | apply State.bump_frame | apply State.setFlag_frame | apply State.Frame.foldl | apply State.Frame.ite | (apply State.Frame.mk' <;> first | exact .inl (Covers.bit hn (by decide)) | exact .inr rfl | assumption | apply State.bump_frame | apply State.setFlag_frame | apply State.Frame.ite | apply State.Frame.foldl | refine State.Frame.ofPair ?_ (by assumption) | split) | apply State.Frame.foldlFst | refine State.Frame.ofPair ?_ (by assumption) | split | dsimp only)

theorem State.markElig_frame (h : s.Frame n o) (hn : Covers n 0x800) : ∀ x1 x2, (State.markElig s x1 x2).Frame n o := by
  intros
  unfold State.markElig
  with_reducible repeat' (first | intro _ | assumption | exact Covers.trans hn (by decide) | apply State.modChan_frame | apply State.Frame.foldl | apply State.Frame.ite | (apply State.Frame.mk' <;> first | exact .inl (Covers.bit hn (by decide)) | exact .inr rfl | assumption | apply State.modChan_frame | apply State.Frame.ite | apply State.Frame.foldl | refine State.Frame.ofPair ?_ (by assumption) | split) | apply State.Frame.foldlFst | refine State.Frame.ofPair ?_ (by assumption) | split | dsimp only)

theorem State.issueHead_frame (h : s.Frame n o) (hn : Covers n 0x82784a) : ∀ x1 x2, (State.issueHead s x1 x2).Frame n o := by
  intros
  unfold State.issueHead
  with_reducible repeat' (first | intro _ | assumption | exact Covers.trans hn (by decide) | apply State.issueHost_frame | apply State.modChan_frame | apply State.Frame.foldl | apply State.Frame.ite | (apply State.Frame.mk' <;> first | exact .inl (Covers.bit hn (by decide)) | exact .inr rfl | assumption | apply State.issueHost_frame | apply State.modChan_frame | apply State.Frame.ite | apply State.Frame.foldl | refine State.Frame.ofPair ?_ (by assumption) | split) | apply State.Frame.foldlFst | refine State.Frame.ofPair ?_ (by assumption) | split | dsimp only)

theorem State.windowEnd_frame (h : s.Frame n o) (hn : Covers n 0x802) : ∀ x1, (State.windowEnd s x1).Frame n o := by
  intros
  unfold State.windowEnd
  with_reducible repeat' (first | intro _ | assumption | exact Covers.trans hn (by decide) | apply State.modRef_frame | apply State.setFld_frame | apply State.bump_frame | apply State.Frame.foldl | apply State.Frame.ite | (apply State.Frame.mk' <;> first | exact .inl (Covers.bit hn (by decide)) | exact .inr rfl | assumption | apply State.modRef_frame | apply State.setFld_frame | apply State.bump_frame | apply State.Frame.ite | apply State.Frame.foldl | refine State.Frame.ofPair ?_ (by assumption) | split) | apply State.Frame.foldlFst | refine State.Frame.ofPair ?_ (by assumption) | split | dsimp only)

theorem State.roundDone_frame (h : s.Frame n o) (hn : Covers n 0x802) : ∀ x1 x2, (State.roundDone s x1 x2).Frame n o := by
  intros
  unfold State.roundDone
  with_reducible repeat' (first | intro _ | assumption | exact Covers.trans hn (by decide) | apply State.setFld_frame | apply State.bump_frame | apply State.modRef_frame | apply State.windowEnd_frame | apply State.modChan_frame | apply State.Frame.foldl | apply State.Frame.ite | (apply State.Frame.mk' <;> first | exact .inl (Covers.bit hn (by decide)) | exact .inr rfl | assumption | apply State.setFld_frame | apply State.bump_frame | apply State.modRef_frame | apply State.windowEnd_frame | apply State.modChan_frame | apply State.Frame.ite | apply State.Frame.foldl | refine State.Frame.ofPair ?_ (by assumption) | split) | apply State.Frame.foldlFst | refine State.Frame.ofPair ?_ (by assumption) | split | dsimp only)

theorem State.doRefb_frame (h : s.Frame n o) (hn : Covers n 0x802) : ∀ x1 x2 x3, (State.doRefb s x1 x2 x3).Frame n o := by
  intros
  unfold State.doRefb
  with_reducible repeat' (first | intro _ | assumption | exact Covers.trans hn (by decide) | apply State.modRef_frame | apply State.refCmd_frame | apply State.roundDone_frame | apply State.Frame.foldl | apply State.Frame.ite | (apply State.Frame.mk' <;> first | exact .inl (Covers.bit hn (by decide)) | exact .inr rfl | assumption | apply State.modRef_frame | apply State.refCmd_frame | apply State.roundDone_frame | apply State.Frame.ite | apply State.Frame.foldl | refine State.Frame.ofPair ?_ (by assumption) | split) | apply State.Frame.foldlFst | refine State.Frame.ofPair ?_ (by assumption) | split | dsimp only)

theorem State.doNref_frame (h : s.Frame n o) (hn : Covers n 0x802) : ∀ x1 x2 x3, (State.doNref s x1 x2 x3).Frame n o := by
  intros
  unfold State.doNref
  with_reducible repeat' (first | intro _ | assumption | exact Covers.trans hn (by decide) | apply State.refCmd_frame | apply State.bump_frame | apply State.modRef_frame | apply State.Frame.foldl | apply State.Frame.ite | (apply State.Frame.mk' <;> first | exact .inl (Covers.bit hn (by decide)) | exact .inr rfl | assumption | apply State.refCmd_frame | apply State.bump_frame | apply State.modRef_frame | apply State.Frame.ite | apply State.Frame.foldl | refine State.Frame.ofPair ?_ (by assumption) | split) | apply State.Frame.foldlFst | refine State.Frame.ofPair ?_ (by assumption) | split | dsimp only)

theorem State.issueOwed_frame (h : s.Frame n o) (hn : Covers n 0x802) : ∀ x1, (State.issueOwed s x1).Frame n o := by
  intros
  unfold State.issueOwed
  with_reducible repeat' (first | intro _ | assumption | exact Covers.trans hn (by decide) | apply State.upTo_frame | apply State.doRefb_frame | apply State.doNref_frame | apply State.Frame.foldl | apply State.Frame.ite | (apply State.Frame.mk' <;> first | exact .inl (Covers.bit hn (by decide)) | exact .inr rfl | assumption | apply State.upTo_frame | apply State.doRefb_frame | apply State.doNref_frame | apply State.Frame.ite | apply State.Frame.foldl | refine State.Frame.ofPair ?_ (by assumption) | split) | apply State.Frame.foldlFst | refine State.Frame.ofPair ?_ (by assumption) | split | dsimp only)

theorem State.hardRefresh_frame (h : s.Frame n o) (hn : Covers n 0x802) : ∀ x1, ∀ t, State.hardRefresh s x1 = some t → t.Frame n o := by
  intro x1 r e
  unfold State.hardRefresh at e
  try dsimp only at e
  repeat' split at e
  all_goals first | (injection e with e; subst e) | injection e
  all_goals with_reducible repeat' (first | intro _ | assumption | exact Covers.trans hn (by decide) | apply State.doRefb_frame | apply State.doNref_frame | apply State.closeBank_frame | apply State.Frame.foldl | apply State.Frame.ite | (apply State.Frame.mk' <;> first | exact .inl (Covers.bit hn (by decide)) | exact .inr rfl | assumption | apply State.doRefb_frame | apply State.doNref_frame | apply State.closeBank_frame | apply State.Frame.ite | apply State.Frame.foldl | refine State.Frame.ofPair ?_ (by assumption) | split) | apply State.Frame.foldlFst | refine State.Frame.ofPair ?_ (by assumption) | split | dsimp only)

theorem State.softRefresh_frame (h : s.Frame n o) (hn : Covers n 0x802) : ∀ x1 x2, ∀ t, State.softRefresh s x1 x2 = some t → t.Frame n o := by
  intro x1 x2 r e
  unfold State.softRefresh at e
  try dsimp only at e
  repeat' split at e
  all_goals first | (injection e with e; subst e) | injection e
  all_goals with_reducible repeat' (first | intro _ | assumption | exact Covers.trans hn (by decide) | apply State.doRefb_frame | apply State.doNref_frame | apply State.Frame.foldl | apply State.Frame.ite | (apply State.Frame.mk' <;> first | exact .inl (Covers.bit hn (by decide)) | exact .inr rfl | assumption | apply State.doRefb_frame | apply State.doNref_frame | apply State.Frame.ite | apply State.Frame.foldl | refine State.Frame.ofPair ?_ (by assumption) | split) | apply State.Frame.foldlFst | refine State.Frame.ofPair ?_ (by assumption) | split | dsimp only)

theorem State.calLost_frame (h : s.Frame n o) (hn : Covers n 0x2802) : ∀ x1, (State.calLost s x1).Frame n o := by
  intros
  unfold State.calLost
  with_reducible repeat' (first | intro _ | assumption | exact Covers.trans hn (by decide) | apply State.modBund_frame | apply State.modChan_frame | apply State.bump_frame | apply State.Frame.foldl | apply State.Frame.ite | (apply State.Frame.mk' <;> first | exact .inl (Covers.bit hn (by decide)) | exact .inr rfl | assumption | apply State.modBund_frame | apply State.modChan_frame | apply State.bump_frame | apply State.Frame.ite | apply State.Frame.foldl | refine State.Frame.ofPair ?_ (by assumption) | split) | apply State.Frame.foldlFst | refine State.Frame.ofPair ?_ (by assumption) | split | dsimp only)

theorem State.doCcal_frame (h : s.Frame n o) (hn : Covers n 0x2802) : ∀ x1, (State.doCcal s x1).Frame n o := by
  intros
  unfold State.doCcal
  with_reducible repeat' (first | intro _ | assumption | exact Covers.trans hn (by decide) | apply State.calLost_frame | apply State.modChan_frame | apply State.launch_frame | apply State.modBund_frame | apply State.bump_frame | apply State.Frame.foldl | apply State.Frame.ite | (apply State.Frame.mk' <;> first | exact .inl (Covers.bit hn (by decide)) | exact .inr rfl | assumption | apply State.calLost_frame | apply State.modChan_frame | apply State.launch_frame | apply State.modBund_frame | apply State.bump_frame | apply State.Frame.ite | apply State.Frame.foldl | refine State.Frame.ofPair ?_ (by assumption) | split) | apply State.Frame.foldlFst | refine State.Frame.ofPair ?_ (by assumption) | split | dsimp only)

theorem State.gangNext_frame (h : s.Frame n o) (hn : Covers n 0x2) : ∀ x1, (State.gangNext s x1).Frame n o := by
  intros
  unfold State.gangNext
  with_reducible repeat' (first | intro _ | assumption | exact Covers.trans hn (by decide) | apply State.setFld_frame | apply State.bump_frame | apply State.Frame.foldl | apply State.Frame.ite | (apply State.Frame.mk' <;> first | exact .inl (Covers.bit hn (by decide)) | exact .inr rfl | assumption | apply State.setFld_frame | apply State.bump_frame | apply State.Frame.ite | apply State.Frame.foldl | refine State.Frame.ofPair ?_ (by assumption) | split) | apply State.Frame.foldlFst | refine State.Frame.ofPair ?_ (by assumption) | split | dsimp only)

theorem State.gangIssue_frame (h : s.Frame n o) (hn : Covers n 0x82784a) : ∀ x1, (State.gangIssue s x1).Frame n o := by
  intros
  unfold State.gangIssue
  with_reducible repeat' (first | intro _ | assumption | exact Covers.trans hn (by decide) | apply State.modChan_frame | apply State.gangNext_frame | apply State.issueTrain_frame | apply State.Frame.foldl | apply State.Frame.ite | (apply State.Frame.mk' <;> first | exact .inl (Covers.bit hn (by decide)) | exact .inr rfl | assumption | apply State.modChan_frame | apply State.gangNext_frame | apply State.issueTrain_frame | apply State.Frame.ite | apply State.Frame.foldl | refine State.Frame.ofPair ?_ (by assumption) | split) | apply State.Frame.foldlFst | refine State.Frame.ofPair ?_ (by assumption) | split | dsimp only)

theorem State.issueSoft_frame (h : s.Frame n o) (hn : Covers n 0x82784a) : ∀ x1 x2 x3, (State.issueSoft s x1 x2 x3).Frame n o := by
  intro c E aged
  unfold State.issueSoft
  split
  · rename_i e
    split at e
    · exact State.softRefresh_frame h (Covers.trans hn (by decide)) _ _ _ e
    · cases e
  · split
    · exact State.gangIssue_frame h (Covers.trans hn (by decide)) _
    · exact h

theorem State.issueWork_frame (h : s.Frame n o) (hn : Covers n 0x82784a) : ∀ x1 x2, (State.issueWork s x1 x2).Frame n o := by
  intros
  unfold State.issueWork
  with_reducible repeat' (first | intro _ | assumption | exact Covers.trans hn (by decide) | apply State.issueTrain_frame | apply State.modChan_frame | apply State.issueHead_frame | apply State.setPhase_frame | apply State.issueSoft_frame | apply State.Frame.foldl | apply State.Frame.ite | (apply State.Frame.mk' <;> first | exact .inl (Covers.bit hn (by decide)) | exact .inr rfl | assumption | apply State.issueTrain_frame | apply State.modChan_frame | apply State.issueHead_frame | apply State.setPhase_frame | apply State.issueSoft_frame | apply State.Frame.ite | apply State.Frame.foldl | refine State.Frame.ofPair ?_ (by assumption) | split) | apply State.Frame.foldlFst | refine State.Frame.ofPair ?_ (by assumption) | split | dsimp only)

theorem State.schedule_frame (h : s.Frame n o) (hn : Covers n 0x82784a) : ∀ x1, (State.schedule s x1).Frame n o := by
  intros
  unfold State.schedule
  with_reducible repeat' (first | intro _ | assumption | exact Covers.trans hn (by decide) | apply State.sendSrx_frame | apply State.markElig_frame | apply State.issueHead_frame | apply State.modChan_frame | apply State.doCcal_frame | refine State.hardRefresh_frame ?_ (Covers.trans hn (by decide)) _ _ (by assumption) | apply State.issueWork_frame | apply State.Frame.foldl | apply State.Frame.ite | (apply State.Frame.mk' <;> first | exact .inl (Covers.bit hn (by decide)) | exact .inr rfl | assumption | apply State.sendSrx_frame | apply State.markElig_frame | apply State.issueHead_frame | apply State.modChan_frame | apply State.doCcal_frame | refine State.hardRefresh_frame ?_ (Covers.trans hn (by decide)) _ _ (by assumption) | apply State.issueWork_frame | apply State.Frame.ite | apply State.Frame.foldl | refine State.Frame.ofPair ?_ (by assumption) | split) | apply State.Frame.foldlFst | refine State.Frame.ofPair ?_ (by assumption) | split | dsimp only)

theorem execTrainWaitExpiry_frame (h : s.Frame n o) (hn : Covers n 0x82784a) : ∀ x0, Out.Frame n o (execTrainWaitExpiry x0 s) := by
  intros
  unfold execTrainWaitExpiry
  with_reducible repeat' (first | intro _ | assumption | exact Covers.trans hn (by decide) | apply State.schedule_frame | apply State.Frame.foldl | apply Out.Frame.next | apply State.Frame.ite | (apply State.Frame.mk' <;> first | exact .inl (Covers.bit hn (by decide)) | exact .inr rfl | assumption | apply State.schedule_frame | apply State.Frame.ite | apply State.Frame.foldl | refine State.Frame.ofPair ?_ (by assumption) | split) | apply State.Frame.foldlFst | refine State.Frame.ofPair ?_ (by assumption) | split | dsimp only)

theorem execPageIdleExpiry_frame (h : s.Frame n o) (hn : Covers n 0x802) : ∀ x0 x1, Out.Frame n o (execPageIdleExpiry x0 x1 s) := by
  intros
  unfold execPageIdleExpiry
  with_reducible repeat' (first | intro _ | assumption | exact Covers.trans hn (by decide) | apply State.closeBank_frame | apply State.Frame.foldl | apply Out.Frame.next | apply State.Frame.ite | (apply State.Frame.mk' <;> first | exact .inl (Covers.bit hn (by decide)) | exact .inr rfl | assumption | apply State.closeBank_frame | apply State.Frame.ite | apply State.Frame.foldl | refine State.Frame.ofPair ?_ (by assumption) | split) | apply State.Frame.foldlFst | refine State.Frame.ofPair ?_ (by assumption) | split | dsimp only)

theorem execRefreshSlot_frame (h : s.Frame n o) (hn : Covers n 0x802) : ∀ x0, Out.Frame n o (execRefreshSlot x0 s) := by
  intros
  unfold execRefreshSlot
  with_reducible repeat' (first | intro _ | assumption | exact Covers.trans hn (by decide) | apply State.modRef_frame | apply State.sendSrx_frame | apply State.launch_frame | apply State.Frame.foldl | apply Out.Frame.next | apply State.Frame.ite | (apply State.Frame.mk' <;> first | exact .inl (Covers.bit hn (by decide)) | exact .inr rfl | assumption | apply State.modRef_frame | apply State.sendSrx_frame | apply State.launch_frame | apply State.Frame.ite | apply State.Frame.foldl | refine State.Frame.ofPair ?_ (by assumption) | split) | apply State.Frame.foldlFst | refine State.Frame.ofPair ?_ (by assumption) | split | dsimp only)

theorem execScrubSlot_frame (h : s.Frame n o) (hn : Covers n 0x82784a) : ∀ x0, Out.Frame n o (execScrubSlot x0 s) := by
  intros
  unfold execScrubSlot
  with_reducible repeat' (first | intro _ | assumption | exact Covers.trans hn (by decide) | apply State.modChan_frame | apply State.gangIssue_frame | apply State.Frame.foldl | apply Out.Frame.next | apply State.Frame.ite | (apply State.Frame.mk' <;> first | exact .inl (Covers.bit hn (by decide)) | exact .inr rfl | assumption | apply State.modChan_frame | apply State.gangIssue_frame | apply State.Frame.ite | apply State.Frame.foldl | refine State.Frame.ofPair ?_ (by assumption) | split) | apply State.Frame.foldlFst | refine State.Frame.ofPair ?_ (by assumption) | split | dsimp only)

theorem execNrefForceDue_frame (h : s.Frame n o) (hn : Covers n 0x800) : ∀ x0 x1, Out.Frame n o (execNrefForceDue x0 x1 s) := by
  intros
  unfold execNrefForceDue
  with_reducible repeat' (first | intro _ | assumption | exact Covers.trans hn (by decide) | apply State.modRef_frame | apply State.Frame.foldl | apply Out.Frame.next | apply State.Frame.ite | (apply State.Frame.mk' <;> first | exact .inl (Covers.bit hn (by decide)) | exact .inr rfl | assumption | apply State.modRef_frame | apply State.Frame.ite | apply State.Frame.foldl | refine State.Frame.ofPair ?_ (by assumption) | split) | apply State.Frame.foldlFst | refine State.Frame.ofPair ?_ (by assumption) | split | dsimp only)

theorem execRetestStart_frame (h : s.Frame n o) (hn : Covers n 0x802) : ∀ x0, Out.Frame n o (execRetestStart x0 s) := by
  intros
  unfold execRetestStart
  with_reducible repeat' (first | intro _ | assumption | exact Covers.trans hn (by decide) | apply State.pushRow_frame | apply State.modChan_frame | apply State.reside_frame | apply State.Frame.foldl | apply Out.Frame.next | apply State.Frame.ite | (apply State.Frame.mk' <;> first | exact .inl (Covers.bit hn (by decide)) | exact .inr rfl | assumption | apply State.pushRow_frame | apply State.modChan_frame | apply State.reside_frame | apply State.Frame.ite | apply State.Frame.foldl | refine State.Frame.ofPair ?_ (by assumption) | split) | apply State.Frame.foldlFst | refine State.Frame.ofPair ?_ (by assumption) | split | dsimp only)

theorem execMigrationStart_frame (h : s.Frame n o) (hn : Covers n 0x83784a) : ∀ x0, Out.Frame n o (execMigrationStart x0 s) := by
  intros
  unfold execMigrationStart
  with_reducible repeat' (first | intro _ | assumption | exact Covers.trans hn (by decide) | apply State.modChan_frame | apply State.markServing_frame | apply State.exhausted_frame | apply State.checkBudgets_frame | apply State.bump_frame | apply State.repSet_frame | apply State.reside_frame | apply State.pushRow_frame | apply State.Frame.foldl | apply Out.Frame.next | apply State.Frame.ite | (apply State.Frame.mk' <;> first | exact .inl (Covers.bit hn (by decide)) | exact .inr rfl | assumption | apply State.modChan_frame | apply State.markServing_frame | apply State.exhausted_frame | apply State.checkBudgets_frame | apply State.bump_frame | apply State.repSet_frame | apply State.reside_frame | apply State.pushRow_frame | apply State.Frame.ite | apply State.Frame.foldl | refine State.Frame.ofPair ?_ (by assumption) | split) | apply State.Frame.foldlFst | refine State.Frame.ofPair ?_ (by assumption) | split | dsimp only)

theorem execEventJobOverrun_frame (h : s.Frame n o) (hn : Covers n 0x82784a) : ∀ x0 x1, Out.Frame n o (execEventJobOverrun x0 x1 s) := by
  intros
  unfold execEventJobOverrun
  with_reducible repeat' (first | intro _ | assumption | exact Covers.trans hn (by decide) | apply State.raise_frame | apply State.bump_frame | apply State.modChan_frame | apply State.modRt_frame | apply State.modMig_frame | apply State.Frame.foldl | apply Out.Frame.next | apply State.Frame.ite | (apply State.Frame.mk' <;> first | exact .inl (Covers.bit hn (by decide)) | exact .inr rfl | assumption | apply State.raise_frame | apply State.bump_frame | apply State.modChan_frame | apply State.modRt_frame | apply State.modMig_frame | apply State.Frame.ite | apply State.Frame.foldl | refine State.Frame.ofPair ?_ (by assumption) | split) | apply State.Frame.foldlFst | refine State.Frame.ofPair ?_ (by assumption) | split | dsimp only)

end Sys2Proof.Machine
end

