-- ==== Sys2Proof/Laws/FrameG.lean ====
section
/-! SUPPORT. Which parts of State each operation leaves, of Turntable, Trains. -/
namespace Sys2Proof.Machine

set_option linter.all false

variable {n : Nat} {o s : State}

/-! ### Turntable -/

theorem State.leaveBuf_frame (h : s.Frame n o) (hn : Covers n 0x20) : ∀ x1 x2, (State.leaveBuf s x1 x2).Frame n o := by
  intros
  unfold State.leaveBuf
  with_reducible repeat' (first | intro _ | assumption | exact Covers.trans hn (by decide) | apply State.returnFor_frame | apply State.modSes_frame | apply State.Frame.foldl | apply State.Frame.ite | (apply State.Frame.mk' <;> first | exact .inl (Covers.bit hn (by decide)) | exact .inr rfl | assumption | apply State.returnFor_frame | apply State.modSes_frame | apply State.Frame.ite | apply State.Frame.foldl | refine State.Frame.ofPair ?_ (by assumption) | split) | apply State.Frame.foldlFst | refine State.Frame.ofPair ?_ (by assumption) | split | dsimp only)

theorem State.grant_frame (h : s.Frame n o) (hn : Covers n 0x862) : ∀ x1 x2, (State.grant s x1 x2).Frame n o := by
  intros
  unfold State.grant
  with_reducible repeat' (first | intro _ | assumption | exact Covers.trans hn (by decide) | apply State.leaveBuf_frame | apply State.respond_frame | apply State.modChan_frame | apply State.Frame.foldl | apply State.Frame.ite | (apply State.Frame.mk' <;> first | exact .inl (Covers.bit hn (by decide)) | exact .inr rfl | assumption | apply State.leaveBuf_frame | apply State.respond_frame | apply State.modChan_frame | apply State.Frame.ite | apply State.Frame.foldl | refine State.Frame.ofPair ?_ (by assumption) | split) | apply State.Frame.foldlFst | refine State.Frame.ofPair ?_ (by assumption) | split | dsimp only)

theorem State.round_frame (h : s.Frame n o) (hn : Covers n 0x862) : ∀ x1, (State.round s x1).1.Frame n o := by
  intros
  unfold State.round
  with_reducible repeat' (first | intro _ | assumption | exact Covers.trans hn (by decide) | apply State.modChan_frame | apply State.grant_frame | apply State.Frame.foldl | apply State.Frame.ite | (apply State.Frame.mk' <;> first | exact .inl (Covers.bit hn (by decide)) | exact .inr rfl | assumption | apply State.modChan_frame | apply State.grant_frame | apply State.Frame.ite | apply State.Frame.foldl | refine State.Frame.ofPair ?_ (by assumption) | split) | apply State.Frame.foldlFst | refine State.Frame.ofPair ?_ (by assumption) | split | dsimp only)

theorem State.rounds_frame (h : s.Frame n o) (hn : Covers n 0x862) : ∀ x0 x2, (State.rounds x0 s x2).Frame n o := by
  intro k
  induction k generalizing s with
  | zero => exact fun _ => h
  | succ k ih =>
    intro w
    unfold State.rounds
    split
    · exact h
    · exact ih (State.round_frame h (Covers.trans hn (by decide)) w) _

theorem State.moveOut_frame (h : s.Frame n o) (hn : Covers n 0x862) : ∀ x1 x2, (State.moveOut s x1 x2).Frame n o := by
  intros
  unfold State.moveOut
  with_reducible repeat' (first | intro _ | assumption | exact Covers.trans hn (by decide) | apply State.modChan_frame | apply State.respond_frame | apply State.Frame.foldl | apply State.Frame.ite | (apply State.Frame.mk' <;> first | exact .inl (Covers.bit hn (by decide)) | exact .inr rfl | assumption | apply State.modChan_frame | apply State.respond_frame | apply State.Frame.ite | apply State.Frame.foldl | refine State.Frame.ofPair ?_ (by assumption) | split) | apply State.Frame.foldlFst | refine State.Frame.ofPair ?_ (by assumption) | split | dsimp only)

theorem State.moveAll_frame (h : s.Frame n o) (hn : Covers n 0x862) : ∀ x1, (State.moveAll s x1).Frame n o := by
  intros
  unfold State.moveAll
  with_reducible repeat' (first | intro _ | assumption | exact Covers.trans hn (by decide) | apply State.moveOut_frame | apply State.Frame.foldl | apply State.Frame.ite | (apply State.Frame.mk' <;> first | exact .inl (Covers.bit hn (by decide)) | exact .inr rfl | assumption | apply State.moveOut_frame | apply State.Frame.ite | apply State.Frame.foldl | refine State.Frame.ofPair ?_ (by assumption) | split) | apply State.Frame.foldlFst | refine State.Frame.ofPair ?_ (by assumption) | split | dsimp only)

theorem State.ageChan_frame (h : s.Frame n o) (hn : Covers n 0x802) : ∀ x1, (State.ageChan s x1).Frame n o := by
  intros
  unfold State.ageChan
  with_reducible repeat' (first | intro _ | assumption | exact Covers.trans hn (by decide) | apply State.bump_frame | apply State.modChan_frame | apply State.Frame.foldl | apply State.Frame.ite | (apply State.Frame.mk' <;> first | exact .inl (Covers.bit hn (by decide)) | exact .inr rfl | assumption | apply State.bump_frame | apply State.modChan_frame | apply State.Frame.ite | apply State.Frame.foldl | refine State.Frame.ofPair ?_ (by assumption) | split) | apply State.Frame.foldlFst | refine State.Frame.ofPair ?_ (by assumption) | split | dsimp only)

theorem State.openQuiet_frame (h : s.Frame n o) (hn : Covers n 0x2) : (State.openQuiet s).Frame n o := by
  unfold State.openQuiet
  with_reducible repeat' (first | intro _ | assumption | exact Covers.trans hn (by decide) | apply State.setFld_frame | apply State.Frame.foldl | apply State.Frame.ite | (apply State.Frame.mk' <;> first | exact .inl (Covers.bit hn (by decide)) | exact .inr rfl | assumption | apply State.setFld_frame | apply State.Frame.ite | apply State.Frame.foldl | refine State.Frame.ofPair ?_ (by assumption) | split) | apply State.Frame.foldlFst | refine State.Frame.ofPair ?_ (by assumption) | split | dsimp only)

theorem State.serviceCycle_frame (h : s.Frame n o) (hn : Covers n 0x2000002) : (State.serviceCycle s).Frame n o := by
  unfold State.serviceCycle
  with_reducible repeat' (first | intro _ | assumption | exact Covers.trans hn (by decide) | apply State.setFld_frame | apply State.Frame.foldl | apply State.Frame.ite | (apply State.Frame.mk' <;> first | exact .inl (Covers.bit hn (by decide)) | exact .inr rfl | assumption | apply State.setFld_frame | apply State.Frame.ite | apply State.Frame.foldl | refine State.Frame.ofPair ?_ (by assumption) | split) | apply State.Frame.foldlFst | refine State.Frame.ofPair ?_ (by assumption) | split | dsimp only)

theorem execTurntableCycle_frame (h : s.Frame n o) (hn : Covers n 0x282786e) : Out.Frame n o (execTurntableCycle s) := by
  unfold execTurntableCycle
  with_reducible repeat' (first | intro _ | assumption | exact Covers.trans hn (by decide) | apply State.serviceCycle_frame | apply State.voteAll_frame | apply State.setFld_frame | apply State.openQuiet_frame | apply State.bump_frame | apply State.ageChan_frame | apply State.moveAll_frame | apply State.upTo_frame | apply State.modTx_frame | apply State.rounds_frame | apply State.settle_frame | apply State.modChan_frame | apply State.Frame.foldl | apply Out.Frame.next | apply State.Frame.ite | (apply State.Frame.mk' <;> first | exact .inl (Covers.bit hn (by decide)) | exact .inr rfl | assumption | apply State.serviceCycle_frame | apply State.voteAll_frame | apply State.setFld_frame | apply State.openQuiet_frame | apply State.bump_frame | apply State.ageChan_frame | apply State.moveAll_frame | apply State.upTo_frame | apply State.modTx_frame | apply State.rounds_frame | apply State.settle_frame | apply State.modChan_frame | apply State.Frame.ite | apply State.Frame.foldl | refine State.Frame.ofPair ?_ (by assumption) | split) | apply State.Frame.foldlFst | refine State.Frame.ofPair ?_ (by assumption) | split | dsimp only)

theorem execChnDrained_frame (h : s.Frame n o) (hn : Covers n 0x802) : ∀ x0, Out.Frame n o (execChnDrained x0 s) := by
  intros
  unfold execChnDrained
  with_reducible repeat' (first | intro _ | assumption | exact Covers.trans hn (by decide) | apply State.setFld_frame | apply State.modChan_frame | apply State.Frame.foldl | apply Out.Frame.next | apply State.Frame.ite | (apply State.Frame.mk' <;> first | exact .inl (Covers.bit hn (by decide)) | exact .inr rfl | assumption | apply State.setFld_frame | apply State.modChan_frame | apply State.Frame.ite | apply State.Frame.foldl | refine State.Frame.ofPair ?_ (by assumption) | split) | apply State.Frame.foldlFst | refine State.Frame.ofPair ?_ (by assumption) | split | dsimp only)

theorem execChnBlockResetDone_frame (h : s.Frame n o) (hn : Covers n 0x802) : ∀ x0, Out.Frame n o (execChnBlockResetDone x0 s) := by
  intros
  unfold execChnBlockResetDone
  with_reducible repeat' (first | intro _ | assumption | exact Covers.trans hn (by decide) | apply State.modChan_frame | apply State.setFlag_frame | apply State.Frame.foldl | apply Out.Frame.next | apply State.Frame.ite | (apply State.Frame.mk' <;> first | exact .inl (Covers.bit hn (by decide)) | exact .inr rfl | assumption | apply State.modChan_frame | apply State.setFlag_frame | apply State.Frame.ite | apply State.Frame.foldl | refine State.Frame.ofPair ?_ (by assumption) | split) | apply State.Frame.foldlFst | refine State.Frame.ofPair ?_ (by assumption) | split | dsimp only)

theorem State.takeover_frame (h : s.Frame n o) (hn : Covers n 0x82784a) : ∀ x1 x2, (State.takeover s x1 x2).Frame n o := by
  intros
  unfold State.takeover
  with_reducible repeat' (first | intro _ | assumption | exact Covers.trans hn (by decide) | apply State.raise_frame | apply State.abortChan_frame | apply State.setFld_frame | apply State.modChan_frame | apply State.Frame.foldl | apply State.Frame.ite | (apply State.Frame.mk' <;> first | exact .inl (Covers.bit hn (by decide)) | exact .inr rfl | assumption | apply State.raise_frame | apply State.abortChan_frame | apply State.setFld_frame | apply State.modChan_frame | apply State.Frame.ite | apply State.Frame.foldl | refine State.Frame.ofPair ?_ (by assumption) | split) | apply State.Frame.foldlFst | refine State.Frame.ofPair ?_ (by assumption) | split | dsimp only)

theorem State.dropEngine_frame (h : s.Frame n o) (hn : Covers n 0x10000) : ∀ x1, (State.dropEngine s x1).Frame n o := by
  intros
  unfold State.dropEngine
  with_reducible repeat' (first | intro _ | assumption | exact Covers.trans hn (by decide) | apply State.Frame.foldl | apply State.Frame.ite | (apply State.Frame.mk' <;> first | exact .inl (Covers.bit hn (by decide)) | exact .inr rfl | assumption | apply State.Frame.ite | apply State.Frame.foldl | refine State.Frame.ofPair ?_ (by assumption) | split) | apply State.Frame.foldlFst | refine State.Frame.ofPair ?_ (by assumption) | split | dsimp only)

theorem State.failChannel_frame (h : s.Frame n o) (hn : Covers n 0x83784a) : ∀ x1, (State.failChannel s x1).Frame n o := by
  intros
  unfold State.failChannel
  with_reducible repeat' (first | intro _ | assumption | exact Covers.trans hn (by decide) | apply State.setFld_frame | apply State.abortChan_frame | apply State.repSet_frame | apply State.Frame.foldl | apply State.Frame.ite | (apply State.Frame.mk' <;> first | exact .inl (Covers.bit hn (by decide)) | exact .inr rfl | assumption | apply State.setFld_frame | apply State.abortChan_frame | apply State.repSet_frame | apply State.Frame.ite | apply State.Frame.foldl | refine State.Frame.ofPair ?_ (by assumption) | split) | apply State.Frame.foldlFst | refine State.Frame.ofPair ?_ (by assumption) | split | dsimp only)

theorem State.engineFault_frame (h : s.Frame n o) (hn : Covers n 0x83784a) : ∀ x1, (State.engineFault s x1).Frame n o := by
  intros
  unfold State.engineFault
  with_reducible repeat' (first | intro _ | assumption | exact Covers.trans hn (by decide) | apply State.dropEngine_frame | apply State.raise_frame | apply State.takeover_frame | apply State.failChannel_frame | apply State.Frame.foldl | apply State.Frame.ite | (apply State.Frame.mk' <;> first | exact .inl (Covers.bit hn (by decide)) | exact .inr rfl | assumption | apply State.dropEngine_frame | apply State.raise_frame | apply State.takeover_frame | apply State.failChannel_frame | apply State.Frame.ite | apply State.Frame.foldl | refine State.Frame.ofPair ?_ (by assumption) | split) | apply State.Frame.foldlFst | refine State.Frame.ofPair ?_ (by assumption) | split | dsimp only)

theorem State.voidEnt_frame (h : s.Frame n o) (hn : Covers n 0x802) : ∀ x1 x2, (State.voidEnt s x1 x2).Frame n o := by
  intros
  unfold State.voidEnt
  with_reducible repeat' (first | intro _ | assumption | exact Covers.trans hn (by decide) | apply State.modEnt_frame | apply State.modChan_frame | apply State.reside_frame | apply State.Frame.foldl | apply State.Frame.ite | (apply State.Frame.mk' <;> first | exact .inl (Covers.bit hn (by decide)) | exact .inr rfl | assumption | apply State.modEnt_frame | apply State.modChan_frame | apply State.reside_frame | apply State.Frame.ite | apply State.Frame.foldl | refine State.Frame.ofPair ?_ (by assumption) | split) | apply State.Frame.foldlFst | refine State.Frame.ofPair ?_ (by assumption) | split | dsimp only)

theorem State.engineUpset_frame (h : s.Frame n o) (hn : Covers n 0x83784a) : ∀ x1 x2, (State.engineUpset s x1 x2).Frame n o := by
  intros
  unfold State.engineUpset
  with_reducible repeat' (first | intro _ | assumption | exact Covers.trans hn (by decide) | apply State.raise_frame | apply State.effected_frame | apply State.voidEnt_frame | apply State.engineFault_frame | apply State.Frame.foldl | apply State.Frame.ite | (apply State.Frame.mk' <;> first | exact .inl (Covers.bit hn (by decide)) | exact .inr rfl | assumption | apply State.raise_frame | apply State.effected_frame | apply State.voidEnt_frame | apply State.engineFault_frame | apply State.Frame.ite | apply State.Frame.foldl | refine State.Frame.ofPair ?_ (by assumption) | split) | apply State.Frame.foldlFst | refine State.Frame.ofPair ?_ (by assumption) | split | dsimp only)

theorem execSchedIssue_frame (h : s.Frame n o) (hn : Covers n 0x83784a) : ∀ x0 x1, Out.Frame n o (execSchedIssue x0 x1 s) := by
  intros
  unfold execSchedIssue
  with_reducible repeat' (first | intro _ | assumption | exact Covers.trans hn (by decide) | apply State.schedule_frame | apply State.engineUpset_frame | apply State.Frame.foldl | apply Out.Frame.next | apply State.Frame.ite | (apply State.Frame.mk' <;> first | exact .inl (Covers.bit hn (by decide)) | exact .inr rfl | assumption | apply State.schedule_frame | apply State.engineUpset_frame | apply State.Frame.ite | apply State.Frame.foldl | refine State.Frame.ofPair ?_ (by assumption) | split) | apply State.Frame.foldlFst | refine State.Frame.ofPair ?_ (by assumption) | split | dsimp only)

theorem execTakeoverComplete_frame (h : s.Frame n o) (hn : Covers n 0x83784a) : ∀ x0, Out.Frame n o (execTakeoverComplete x0 s) := by
  intros
  unfold execTakeoverComplete
  with_reducible repeat' (first | intro _ | assumption | exact Covers.trans hn (by decide) | apply State.setDomain_frame | apply State.preAll_frame | apply State.modChan_frame | apply State.setFld_frame | apply State.beginRecovery_frame | apply State.repSet_frame | apply State.raise_frame | apply State.Frame.foldl | apply Out.Frame.next | apply State.Frame.ite | (apply State.Frame.mk' <;> first | exact .inl (Covers.bit hn (by decide)) | exact .inr rfl | assumption | apply State.setDomain_frame | apply State.preAll_frame | apply State.modChan_frame | apply State.setFld_frame | apply State.beginRecovery_frame | apply State.repSet_frame | apply State.raise_frame | apply State.Frame.ite | apply State.Frame.foldl | refine State.Frame.ofPair ?_ (by assumption) | split) | apply State.Frame.foldlFst | refine State.Frame.ofPair ?_ (by assumption) | split | dsimp only)

/-! ### Trains -/

theorem State.stale_frame (h : s.Frame n o) (hn : Covers n 0x82784a) : ∀ x1, (State.stale s x1).Frame n o := by
  intros
  unfold State.stale
  with_reducible repeat' (first | intro _ | assumption | exact Covers.trans hn (by decide) | apply State.raise_frame | apply State.bump_frame | apply State.Frame.foldl | apply State.Frame.ite | (apply State.Frame.mk' <;> first | exact .inl (Covers.bit hn (by decide)) | exact .inr rfl | assumption | apply State.raise_frame | apply State.bump_frame | apply State.Frame.ite | apply State.Frame.foldl | refine State.Frame.ofPair ?_ (by assumption) | split) | apply State.Frame.foldlFst | refine State.Frame.ofPair ?_ (by assumption) | split | dsimp only)

theorem State.setRetune_frame (h : s.Frame n o) (hn : Covers n 0x2002) : ∀ x1, (State.setRetune s x1).Frame n o := by
  intros
  unfold State.setRetune
  with_reducible repeat' (first | intro _ | assumption | exact Covers.trans hn (by decide) | apply State.setFld_frame | apply State.modBund_frame | apply State.Frame.foldl | apply State.Frame.ite | (apply State.Frame.mk' <;> first | exact .inl (Covers.bit hn (by decide)) | exact .inr rfl | assumption | apply State.setFld_frame | apply State.modBund_frame | apply State.Frame.ite | apply State.Frame.foldl | refine State.Frame.ofPair ?_ (by assumption) | split) | apply State.Frame.foldlFst | refine State.Frame.ofPair ?_ (by assumption) | split | dsimp only)

theorem State.trainPath_frame (h : s.Frame n o) (hn : Covers n 0x2002) : ∀ x1, (State.trainPath s x1).Frame n o := by
  intros
  unfold State.trainPath
  with_reducible repeat' (first | intro _ | assumption | exact Covers.trans hn (by decide) | apply State.startTraining_frame | apply State.Frame.foldl | apply State.Frame.ite | (apply State.Frame.mk' <;> first | exact .inl (Covers.bit hn (by decide)) | exact .inr rfl | assumption | apply State.startTraining_frame | apply State.Frame.ite | apply State.Frame.foldl | refine State.Frame.ofPair ?_ (by assumption) | split) | apply State.Frame.foldlFst | refine State.Frame.ofPair ?_ (by assumption) | split | dsimp only)

theorem State.noteFail_frame (h : s.Frame n o) (hn : Covers n 0x82784a) : ∀ x1, (State.noteFail s x1).Frame n o := by
  intros
  unfold State.noteFail
  with_reducible repeat' (first | intro _ | assumption | exact Covers.trans hn (by decide) | apply State.modChan_frame | apply State.raise_frame | apply State.reside_frame | apply State.trainPath_frame | apply State.Frame.foldl | apply State.Frame.ite | (apply State.Frame.mk' <;> first | exact .inl (Covers.bit hn (by decide)) | exact .inr rfl | assumption | apply State.modChan_frame | apply State.raise_frame | apply State.reside_frame | apply State.trainPath_frame | apply State.Frame.ite | apply State.Frame.foldl | refine State.Frame.ofPair ?_ (by assumption) | split) | apply State.Frame.foldlFst | refine State.Frame.ofPair ?_ (by assumption) | split | dsimp only)

theorem State.reissue_frame (h : s.Frame n o) (hn : Covers n 0x82784a) : ∀ x1 x2 x3, (State.reissue s x1 x2 x3).Frame n o := by
  intros
  unfold State.reissue
  with_reducible repeat' (first | intro _ | assumption | exact Covers.trans hn (by decide) | apply State.noteFail_frame | apply State.bump_frame | apply State.pushPrio_frame | apply State.Frame.foldl | apply State.Frame.ite | (apply State.Frame.mk' <;> first | exact .inl (Covers.bit hn (by decide)) | exact .inr rfl | assumption | apply State.noteFail_frame | apply State.bump_frame | apply State.pushPrio_frame | apply State.Frame.ite | apply State.Frame.foldl | refine State.Frame.ofPair ?_ (by assumption) | split) | apply State.Frame.foldlFst | refine State.Frame.ofPair ?_ (by assumption) | split | dsimp only)

theorem State.resend_frame (h : s.Frame n o) (hn : Covers n 0x82784a) : ∀ x1 x2, (State.resend s x1 x2).Frame n o := by
  intros
  unfold State.resend
  with_reducible repeat' (first | intro _ | assumption | exact Covers.trans hn (by decide) | apply State.modChan_frame | apply State.noteFail_frame | apply State.bump_frame | apply State.pushPrio_frame | apply State.Frame.foldl | apply State.Frame.ite | (apply State.Frame.mk' <;> first | exact .inl (Covers.bit hn (by decide)) | exact .inr rfl | assumption | apply State.modChan_frame | apply State.noteFail_frame | apply State.bump_frame | apply State.pushPrio_frame | apply State.Frame.ite | apply State.Frame.foldl | refine State.Frame.ofPair ?_ (by assumption) | split) | apply State.Frame.foldlFst | refine State.Frame.ofPair ?_ (by assumption) | split | dsimp only)

theorem State.noteGood_frame (h : s.Frame n o) (hn : Covers n 0x800) : ∀ x1, (State.noteGood s x1).Frame n o := by
  intros
  unfold State.noteGood
  with_reducible repeat' (first | intro _ | assumption | exact Covers.trans hn (by decide) | apply State.modChan_frame | apply State.Frame.foldl | apply State.Frame.ite | (apply State.Frame.mk' <;> first | exact .inl (Covers.bit hn (by decide)) | exact .inr rfl | assumption | apply State.modChan_frame | apply State.Frame.ite | apply State.Frame.foldl | refine State.Frame.ofPair ?_ (by assumption) | split) | apply State.Frame.foldlFst | refine State.Frame.ofPair ?_ (by assumption) | split | dsimp only)

theorem State.noteMiss_frame (h : s.Frame n o) (hn : Covers n 0x2000) : ∀ x1 x2, (State.noteMiss s x1 x2).Frame n o := by
  intros
  unfold State.noteMiss
  with_reducible repeat' (first | intro _ | assumption | exact Covers.trans hn (by decide) | apply State.upTo_frame | apply State.Frame.foldl | apply State.Frame.ite | (apply State.Frame.mk' <;> first | exact .inl (Covers.bit hn (by decide)) | exact .inr rfl | assumption | apply State.upTo_frame | apply State.Frame.ite | apply State.Frame.foldl | refine State.Frame.ofPair ?_ (by assumption) | split) | apply State.Frame.foldlFst | refine State.Frame.ofPair ?_ (by assumption) | split | dsimp only)

theorem State.repeatRefresh_frame (h : s.Frame n o) (hn : Covers n 0x802) : ∀ x1, (State.repeatRefresh s x1).Frame n o := by
  intros
  unfold State.repeatRefresh
  with_reducible repeat' (first | intro _ | assumption | exact Covers.trans hn (by decide) | apply State.refCmd_frame | apply State.Frame.foldl | apply State.Frame.ite | (apply State.Frame.mk' <;> first | exact .inl (Covers.bit hn (by decide)) | exact .inr rfl | assumption | apply State.refCmd_frame | apply State.Frame.ite | apply State.Frame.foldl | refine State.Frame.ofPair ?_ (by assumption) | split) | apply State.Frame.foldlFst | refine State.Frame.ofPair ?_ (by assumption) | split | dsimp only)

theorem State.toPool_frame (h : s.Frame n o) (hn : Covers n 0x1002) : ∀ x1, (State.toPool s x1).Frame n o := by
  intros
  unfold State.toPool
  with_reducible repeat' (first | intro _ | assumption | exact Covers.trans hn (by decide) | apply State.bump_frame | apply State.Frame.foldl | apply State.Frame.ite | (apply State.Frame.mk' <;> first | exact .inl (Covers.bit hn (by decide)) | exact .inr rfl | assumption | apply State.bump_frame | apply State.Frame.ite | apply State.Frame.foldl | refine State.Frame.ofPair ?_ (by assumption) | split) | apply State.Frame.foldlFst | refine State.Frame.ofPair ?_ (by assumption) | split | dsimp only)

theorem State.poolFlow_frame (h : s.Frame n o) (hn : Covers n 0x1000) : (State.poolFlow s).Frame n o := by
  unfold State.poolFlow
  with_reducible repeat' (first | intro _ | assumption | exact Covers.trans hn (by decide) | apply State.Frame.foldl | apply State.Frame.ite | (apply State.Frame.mk' <;> first | exact .inl (Covers.bit hn (by decide)) | exact .inr rfl | assumption | apply State.Frame.ite | apply State.Frame.foldl | refine State.Frame.ofPair ?_ (by assumption) | split) | apply State.Frame.foldlFst | refine State.Frame.ofPair ?_ (by assumption) | split | dsimp only)

theorem execDecodeComplete_frame (h : s.Frame n o) (hn : Covers n 0x83784a) : ∀ x0 x1 x2, Out.Frame n o (execDecodeComplete x0 x1 x2 s) := by
  intros
  unfold execDecodeComplete
  with_reducible repeat' (first | intro _ | assumption | exact Covers.trans hn (by decide) | apply State.bump_frame | apply State.lineIn_frame | apply State.raise_frame | apply State.reissue_frame | apply State.poolFlow_frame | apply State.Frame.foldl | apply Out.Frame.next | apply State.Frame.ite | (apply State.Frame.mk' <;> first | exact .inl (Covers.bit hn (by decide)) | exact .inr rfl | assumption | apply State.bump_frame | apply State.lineIn_frame | apply State.raise_frame | apply State.reissue_frame | apply State.poolFlow_frame | apply State.Frame.ite | apply State.Frame.foldl | refine State.Frame.ofPair ?_ (by assumption) | split) | apply State.Frame.foldlFst | refine State.Frame.ofPair ?_ (by assumption) | split | dsimp only)

theorem execDecoderSelfCheck_frame (h : s.Frame n o) (hn : Covers n 0x82784a) : ∀ x0 x1, Out.Frame n o (execDecoderSelfCheck x0 x1 s) := by
  intros
  unfold execDecoderSelfCheck
  with_reducible repeat' (first | intro _ | assumption | exact Covers.trans hn (by decide) | apply State.raise_frame | apply State.Frame.foldl | apply Out.Frame.next | apply State.Frame.ite | (apply State.Frame.mk' <;> first | exact .inl (Covers.bit hn (by decide)) | exact .inr rfl | assumption | apply State.raise_frame | apply State.Frame.ite | apply State.Frame.foldl | refine State.Frame.ofPair ?_ (by assumption) | split) | apply State.Frame.foldlFst | refine State.Frame.ofPair ?_ (by assumption) | split | dsimp only)

theorem State.codecTick_frame (h : s.Frame n o) (hn : Covers n 0x83784a) : (State.codecTick s).Frame n o := by
  unfold State.codecTick
  with_reducible repeat' (first | intro _ | assumption | exact Covers.trans hn (by decide) | apply State.repSet_frame | apply State.setFld_frame | apply State.Frame.foldl | apply State.Frame.ite | (apply State.Frame.mk' <;> first | exact .inl (Covers.bit hn (by decide)) | exact .inr rfl | assumption | apply State.repSet_frame | apply State.setFld_frame | apply State.Frame.ite | apply State.Frame.foldl | refine State.Frame.ofPair ?_ (by assumption) | split) | apply State.Frame.foldlFst | refine State.Frame.ofPair ?_ (by assumption) | split | dsimp only)

theorem State.noteColl_frame (h : s.Frame n o) (hn : Covers n 0x82784a) : ∀ x1 x2, (State.noteColl s x1 x2).Frame n o := by
  intros
  unfold State.noteColl
  with_reducible repeat' (first | intro _ | assumption | exact Covers.trans hn (by decide) | apply State.modBund_frame | apply State.setRetune_frame | apply State.raise_frame | apply State.Frame.foldl | apply State.Frame.ite | (apply State.Frame.mk' <;> first | exact .inl (Covers.bit hn (by decide)) | exact .inr rfl | assumption | apply State.modBund_frame | apply State.setRetune_frame | apply State.raise_frame | apply State.Frame.ite | apply State.Frame.foldl | refine State.Frame.ofPair ?_ (by assumption) | split) | apply State.Frame.foldlFst | refine State.Frame.ofPair ?_ (by assumption) | split | dsimp only)

theorem State.noteGain_frame (h : s.Frame n o) (hn : Covers n 0x4000002) : ∀ x1 x2 x3, (State.noteGain s x1 x2 x3).Frame n o := by
  intros
  unfold State.noteGain
  with_reducible repeat' (first | intro _ | assumption | exact Covers.trans hn (by decide) | apply State.divFree_frame | apply State.setFld_frame | apply State.Frame.foldl | apply State.Frame.ite | (apply State.Frame.mk' <;> first | exact .inl (Covers.bit hn (by decide)) | exact .inr rfl | assumption | apply State.divFree_frame | apply State.setFld_frame | apply State.Frame.ite | apply State.Frame.foldl | refine State.Frame.ofPair ?_ (by assumption) | split) | apply State.Frame.foldlFst | refine State.Frame.ofPair ?_ (by assumption) | refine State.Frame.ofPair2 ?_ (by assumption) | split | dsimp only)

theorem State.noteCol_frame (h : s.Frame n o) (hn : Covers n 0x482784a) : ∀ x1 x2 x3, (State.noteCol s x1 x2 x3).Frame n o := by
  intros
  unfold State.noteCol
  with_reducible repeat' (first | intro _ | assumption | exact Covers.trans hn (by decide) | apply State.noteColl_frame | apply State.bump_frame | apply State.noteGain_frame | apply State.modBund_frame | apply State.Frame.foldl | apply State.Frame.ite | (apply State.Frame.mk' <;> first | exact .inl (Covers.bit hn (by decide)) | exact .inr rfl | assumption | apply State.noteColl_frame | apply State.bump_frame | apply State.noteGain_frame | apply State.modBund_frame | apply State.Frame.ite | apply State.Frame.foldl | refine State.Frame.ofPair ?_ (by assumption) | split) | apply State.Frame.foldlFst | refine State.Frame.ofPair ?_ (by assumption) | split | dsimp only)

theorem State.noteVote_frame (h : s.Frame n o) (hn : Covers n 0x82784a) : ∀ x1 x2 x3, (State.noteVote s x1 x2 x3).Frame n o := by
  intros
  unfold State.noteVote
  with_reducible repeat' (first | intro _ | assumption | exact Covers.trans hn (by decide) | apply State.bump_frame | apply State.modBund_frame | apply State.setRetune_frame | apply State.raise_frame | apply State.Frame.foldl | apply State.Frame.ite | (apply State.Frame.mk' <;> first | exact .inl (Covers.bit hn (by decide)) | exact .inr rfl | assumption | apply State.bump_frame | apply State.modBund_frame | apply State.setRetune_frame | apply State.raise_frame | apply State.Frame.ite | apply State.Frame.foldl | refine State.Frame.ofPair ?_ (by assumption) | split) | apply State.Frame.foldlFst | refine State.Frame.ofPair ?_ (by assumption) | split | dsimp only)

theorem State.noteLand_frame (h : s.Frame n o) (hn : Covers n 0x2000) : ∀ x1 x2, (State.noteLand s x1 x2).Frame n o := by
  intros
  unfold State.noteLand
  with_reducible repeat' (first | intro _ | assumption | exact Covers.trans hn (by decide) | apply State.modBund_frame | apply State.Frame.foldl | apply State.Frame.ite | (apply State.Frame.mk' <;> first | exact .inl (Covers.bit hn (by decide)) | exact .inr rfl | assumption | apply State.modBund_frame | apply State.Frame.ite | apply State.Frame.foldl | refine State.Frame.ofPair ?_ (by assumption) | split) | apply State.Frame.foldlFst | refine State.Frame.ofPair ?_ (by assumption) | split | dsimp only)

theorem State.calDelivered_frame (h : s.Frame n o) (hn : Covers n 0x482784a) : ∀ x1 x2, (State.calDelivered s x1 x2).Frame n o := by
  intros
  unfold State.calDelivered
  with_reducible repeat' (first | intro _ | assumption | exact Covers.trans hn (by decide) | apply State.stale_frame | apply State.modBund_frame | apply State.modChan_frame | apply State.noteVote_frame | apply State.noteCol_frame | apply State.noteLand_frame | apply State.bump_frame | apply State.setFlag_frame | apply State.trainPath_frame | apply State.Frame.foldl | apply State.Frame.ite | (apply State.Frame.mk' <;> first | exact .inl (Covers.bit hn (by decide)) | exact .inr rfl | assumption | apply State.stale_frame | apply State.modBund_frame | apply State.modChan_frame | apply State.noteVote_frame | apply State.noteCol_frame | apply State.noteLand_frame | apply State.bump_frame | apply State.setFlag_frame | apply State.trainPath_frame | apply State.Frame.ite | apply State.Frame.foldl | refine State.Frame.ofPair ?_ (by assumption) | split) | apply State.Frame.foldlFst | refine State.Frame.ofPair ?_ (by assumption) | split | dsimp only)

theorem State.slotIn_frame (h : s.Frame n o) (hn : Covers n 0x83784a) : ∀ x1 x2 x3 x4 x5, (State.slotIn s x1 x2 x3 x4 x5).1.Frame n o := by
  intros
  unfold State.slotIn
  with_reducible repeat' (first | intro _ | assumption | exact Covers.trans hn (by decide) | apply State.lineIn_frame | apply State.toPool_frame | apply State.Frame.foldl | apply State.Frame.ite | (apply State.Frame.mk' <;> first | exact .inl (Covers.bit hn (by decide)) | exact .inr rfl | assumption | apply State.lineIn_frame | apply State.toPool_frame | apply State.Frame.ite | apply State.Frame.foldl | refine State.Frame.ofPair ?_ (by assumption) | split) | apply State.Frame.foldlFst | refine State.Frame.ofPair ?_ (by assumption) | split | dsimp only)

theorem State.capturedRx_frame (h : s.Frame n o) (hn : Covers n 0x82784a) : ∀ x1 x2, (State.capturedRx s x1 x2).Frame n o := by
  intros
  unfold State.capturedRx
  with_reducible repeat' (first | intro _ | assumption | exact Covers.trans hn (by decide) | apply State.bump_frame | apply State.noteColl_frame | apply State.repeatRefresh_frame | apply State.calLost_frame | apply State.Frame.foldl | apply State.Frame.ite | (apply State.Frame.mk' <;> first | exact .inl (Covers.bit hn (by decide)) | exact .inr rfl | assumption | apply State.bump_frame | apply State.noteColl_frame | apply State.repeatRefresh_frame | apply State.calLost_frame | apply State.Frame.ite | apply State.Frame.foldl | refine State.Frame.ofPair ?_ (by assumption) | split) | apply State.Frame.foldlFst | refine State.Frame.ofPair ?_ (by assumption) | split | dsimp only)

theorem State.collidedRx_frame (h : s.Frame n o) (hn : Covers n 0x82784a) : ∀ x1 x2, (State.collidedRx s x1 x2).Frame n o := by
  intros
  unfold State.collidedRx
  with_reducible repeat' (first | intro _ | assumption | exact Covers.trans hn (by decide) | apply State.repeatRefresh_frame | apply State.reissue_frame | apply State.resend_frame | apply State.Frame.foldl | apply State.Frame.ite | (apply State.Frame.mk' <;> first | exact .inl (Covers.bit hn (by decide)) | exact .inr rfl | assumption | apply State.repeatRefresh_frame | apply State.reissue_frame | apply State.resend_frame | apply State.Frame.ite | apply State.Frame.foldl | refine State.Frame.ofPair ?_ (by assumption) | split) | apply State.Frame.foldlFst | refine State.Frame.ofPair ?_ (by assumption) | split | dsimp only)

theorem State.linesIn_frame (h : s.Frame n o) (hn : Covers n 0x83784a) : ∀ x1 x2 x3, (State.linesIn s x1 x2 x3).Frame n o := by
  intros
  unfold State.linesIn
  with_reducible repeat' (first | intro _ | assumption | exact Covers.trans hn (by decide) | apply State.stale_frame | apply State.modChan_frame | apply State.slotIn_frame | apply State.noteMiss_frame | apply State.noteGood_frame | apply State.reissue_frame | apply State.Frame.foldl | apply State.Frame.ite | (apply State.Frame.mk' <;> first | exact .inl (Covers.bit hn (by decide)) | exact .inr rfl | assumption | apply State.stale_frame | apply State.modChan_frame | apply State.slotIn_frame | apply State.noteMiss_frame | apply State.noteGood_frame | apply State.reissue_frame | apply State.Frame.ite | apply State.Frame.foldl | refine State.Frame.ofPair ?_ (by assumption) | split) | apply State.Frame.foldlFst | refine State.Frame.ofPair ?_ (by assumption) | split | dsimp only)

theorem execReadTrainDelivered_frame (h : s.Frame n o) (hn : Covers n 0x483784a) : ∀ x0 x1, Out.Frame n o (execReadTrainDelivered x0 x1 s) := by
  intros
  unfold execReadTrainDelivered
  with_reducible repeat' (first | intro _ | assumption | exact Covers.trans hn (by decide) | apply State.bump_frame | apply State.capturedRx_frame | apply State.noteCol_frame | apply State.calLost_frame | apply State.repeatRefresh_frame | apply State.stale_frame | apply State.collidedRx_frame | apply State.modChan_frame | apply State.calDelivered_frame | apply State.linesIn_frame | apply State.Frame.foldl | apply Out.Frame.next | apply State.Frame.ite | (apply State.Frame.mk' <;> first | exact .inl (Covers.bit hn (by decide)) | exact .inr rfl | assumption | apply State.bump_frame | apply State.capturedRx_frame | apply State.noteCol_frame | apply State.calLost_frame | apply State.repeatRefresh_frame | apply State.stale_frame | apply State.collidedRx_frame | apply State.modChan_frame | apply State.calDelivered_frame | apply State.linesIn_frame | apply State.Frame.ite | apply State.Frame.foldl | refine State.Frame.ofPair ?_ (by assumption) | split) | apply State.Frame.foldlFst | refine State.Frame.ofPair ?_ (by assumption) | split | dsimp only)

theorem execReadTrainTimeout_frame (h : s.Frame n o) (hn : Covers n 0x82784a) : ∀ x0 x1, Out.Frame n o (execReadTrainTimeout x0 x1 s) := by
  intros
  unfold execReadTrainTimeout
  with_reducible repeat' (first | intro _ | assumption | exact Covers.trans hn (by decide) | apply State.modChan_frame | apply State.reissue_frame | apply State.noteMiss_frame | apply State.Frame.foldl | apply Out.Frame.next | apply State.Frame.ite | (apply State.Frame.mk' <;> first | exact .inl (Covers.bit hn (by decide)) | exact .inr rfl | assumption | apply State.modChan_frame | apply State.reissue_frame | apply State.noteMiss_frame | apply State.Frame.ite | apply State.Frame.foldl | refine State.Frame.ofPair ?_ (by assumption) | split) | apply State.Frame.foldlFst | refine State.Frame.ofPair ?_ (by assumption) | split | dsimp only)

theorem execWackRx_frame (h : s.Frame n o) (hn : Covers n 0x83784a) : ∀ x0 x1 x2, Out.Frame n o (execWackRx x0 x1 x2 s) := by
  intros
  unfold execWackRx
  with_reducible repeat' (first | intro _ | assumption | exact Covers.trans hn (by decide) | apply State.stale_frame | apply State.noteGood_frame | apply State.modChan_frame | apply State.lineAcked_frame | apply State.noteMiss_frame | apply State.fillAcked_frame | apply State.Frame.foldl | apply Out.Frame.next | apply State.Frame.ite | (apply State.Frame.mk' <;> first | exact .inl (Covers.bit hn (by decide)) | exact .inr rfl | assumption | apply State.stale_frame | apply State.noteGood_frame | apply State.modChan_frame | apply State.lineAcked_frame | apply State.noteMiss_frame | apply State.fillAcked_frame | apply State.Frame.ite | apply State.Frame.foldl | refine State.Frame.ofPair ?_ (by assumption) | split) | apply State.Frame.foldlFst | refine State.Frame.ofPair ?_ (by assumption) | split | dsimp only)

theorem execWnakRx_frame (h : s.Frame n o) (hn : Covers n 0x82784a) : ∀ x0 x1 x2 x3, Out.Frame n o (execWnakRx x0 x1 x2 x3 s) := by
  intros
  unfold execWnakRx
  with_reducible repeat' (first | intro _ | assumption | exact Covers.trans hn (by decide) | apply State.stale_frame | apply State.raise_frame | apply State.bump_frame | apply State.resend_frame | apply State.Frame.foldl | apply Out.Frame.next | apply State.Frame.ite | (apply State.Frame.mk' <;> first | exact .inl (Covers.bit hn (by decide)) | exact .inr rfl | assumption | apply State.stale_frame | apply State.raise_frame | apply State.bump_frame | apply State.resend_frame | apply State.Frame.ite | apply State.Frame.foldl | refine State.Frame.ofPair ?_ (by assumption) | split) | apply State.Frame.foldlFst | refine State.Frame.ofPair ?_ (by assumption) | split | dsimp only)

theorem execWackTimeout_frame (h : s.Frame n o) (hn : Covers n 0x82784a) : ∀ x0 x1, Out.Frame n o (execWackTimeout x0 x1 s) := by
  intros
  unfold execWackTimeout
  with_reducible repeat' (first | intro _ | assumption | exact Covers.trans hn (by decide) | apply State.resend_frame | apply State.noteMiss_frame | apply State.Frame.foldl | apply Out.Frame.next | apply State.Frame.ite | (apply State.Frame.mk' <;> first | exact .inl (Covers.bit hn (by decide)) | exact .inr rfl | assumption | apply State.resend_frame | apply State.noteMiss_frame | apply State.Frame.ite | apply State.Frame.foldl | refine State.Frame.ofPair ?_ (by assumption) | split) | apply State.Frame.foldlFst | refine State.Frame.ofPair ?_ (by assumption) | split | dsimp only)

theorem execCollisionWindowEnd_frame (h : s.Frame n o) (hn : Covers n 0x2000) : ∀ x0, Out.Frame n o (execCollisionWindowEnd x0 s) := by
  intros
  unfold execCollisionWindowEnd
  with_reducible repeat' (first | intro _ | assumption | exact Covers.trans hn (by decide) | apply State.upTo_frame | apply State.modBund_frame | apply State.Frame.foldl | apply Out.Frame.next | apply State.Frame.ite | (apply State.Frame.mk' <;> first | exact .inl (Covers.bit hn (by decide)) | exact .inr rfl | assumption | apply State.upTo_frame | apply State.modBund_frame | apply State.Frame.ite | apply State.Frame.foldl | refine State.Frame.ofPair ?_ (by assumption) | split) | apply State.Frame.foldlFst | refine State.Frame.ofPair ?_ (by assumption) | split | dsimp only)

theorem execVlPllUnlock_frame (h : s.Frame n o) (hn : Covers n 0x82784a) : ∀ x0, Out.Frame n o (execVlPllUnlock x0 s) := by
  intros
  unfold execVlPllUnlock
  with_reducible repeat' (first | intro _ | assumption | exact Covers.trans hn (by decide) | apply State.raise_frame | apply State.Frame.foldl | apply Out.Frame.next | apply State.Frame.ite | (apply State.Frame.mk' <;> first | exact .inl (Covers.bit hn (by decide)) | exact .inr rfl | assumption | apply State.raise_frame | apply State.Frame.ite | apply State.Frame.foldl | refine State.Frame.ofPair ?_ (by assumption) | split) | apply State.Frame.foldlFst | refine State.Frame.ofPair ?_ (by assumption) | split | dsimp only)

theorem State.setSr_frame (h : s.Frame n o) (hn : Covers n 0x2) : ∀ x1 x2, (State.setSr s x1 x2).Frame n o := by
  intros
  unfold State.setSr
  with_reducible repeat' (first | intro _ | assumption | exact Covers.trans hn (by decide) | apply State.setFlag_frame | apply State.Frame.foldl | apply State.Frame.ite | (apply State.Frame.mk' <;> first | exact .inl (Covers.bit hn (by decide)) | exact .inr rfl | assumption | apply State.setFlag_frame | apply State.Frame.ite | apply State.Frame.foldl | refine State.Frame.ofPair ?_ (by assumption) | split) | apply State.Frame.foldlFst | refine State.Frame.ofPair ?_ (by assumption) | split | dsimp only)

theorem State.makeRoom_frame (h : s.Frame n o) (hn : Covers n 0x802) : ∀ x1, (State.makeRoom s x1).Frame n o := by
  intros
  unfold State.makeRoom
  with_reducible repeat' (first | intro _ | assumption | exact Covers.trans hn (by decide) | apply State.doNref_frame | apply State.Frame.foldl | apply State.Frame.ite | (apply State.Frame.mk' <;> first | exact .inl (Covers.bit hn (by decide)) | exact .inr rfl | assumption | apply State.doNref_frame | apply State.Frame.ite | apply State.Frame.foldl | refine State.Frame.ofPair ?_ (by assumption) | split) | apply State.Frame.foldlFst | refine State.Frame.ofPair ?_ (by assumption) | split | dsimp only)

theorem State.latency_frame (h : s.Frame n o) (hn : Covers n 0x82784e) : ∀ x1 x2, (State.latency s x1 x2).Frame n o := by
  intros
  unfold State.latency
  with_reducible repeat' (first | intro _ | assumption | exact Covers.trans hn (by decide) | apply State.makeRoom_frame | apply State.closeBank_frame | apply State.modChan_frame | apply State.launchAt_frame | apply State.bump_frame | apply State.setFld_frame | apply State.atTick_frame | apply State.mileage_frame | apply State.Frame.foldl | apply State.Frame.ite | (apply State.Frame.mk' <;> first | exact .inl (Covers.bit hn (by decide)) | exact .inr rfl | assumption | apply State.makeRoom_frame | apply State.closeBank_frame | apply State.modChan_frame | apply State.launchAt_frame | apply State.bump_frame | apply State.setFld_frame | apply State.atTick_frame | apply State.mileage_frame | apply State.Frame.ite | apply State.Frame.foldl | refine State.Frame.ofPair ?_ (by assumption) | split) | apply State.Frame.foldlFst | refine State.Frame.ofPair ?_ (by assumption) | split | dsimp only)

theorem State.srxRounds_frame (h : s.Frame n o) (hn : Covers n 0x82784e) : ∀ x1 x2, (State.srxRounds s x1 x2).Frame n o := by
  intros
  unfold State.srxRounds
  with_reducible repeat' (first | intro _ | assumption | exact Covers.trans hn (by decide) | apply State.setFlag_frame | apply State.modChan_frame | apply State.setFld_frame | apply State.setSr_frame | apply State.upTo_frame | apply State.doRefb_frame | apply State.latency_frame | apply State.beginRecovery_frame | apply State.reside_frame | apply State.Frame.foldl | apply State.Frame.ite | (apply State.Frame.mk' <;> first | exact .inl (Covers.bit hn (by decide)) | exact .inr rfl | assumption | apply State.setFlag_frame | apply State.modChan_frame | apply State.setFld_frame | apply State.setSr_frame | apply State.upTo_frame | apply State.doRefb_frame | apply State.latency_frame | apply State.beginRecovery_frame | apply State.reside_frame | apply State.Frame.ite | apply State.Frame.foldl | refine State.Frame.ofPair ?_ (by assumption) | split) | apply State.Frame.foldlFst | refine State.Frame.ofPair ?_ (by assumption) | split | dsimp only)

theorem execSrxWaitEnd_frame (h : s.Frame n o) (hn : Covers n 0x82784e) : ∀ x0 x1, Out.Frame n o (execSrxWaitEnd x0 x1 s) := by
  intros
  unfold execSrxWaitEnd
  with_reducible repeat' (first | intro _ | assumption | exact Covers.trans hn (by decide) | apply State.modRef_frame | apply State.sendRep_frame | apply State.srxRounds_frame | apply State.Frame.foldl | apply Out.Frame.next | apply State.Frame.ite | (apply State.Frame.mk' <;> first | exact .inl (Covers.bit hn (by decide)) | exact .inr rfl | assumption | apply State.modRef_frame | apply State.sendRep_frame | apply State.srxRounds_frame | apply State.Frame.ite | apply State.Frame.foldl | refine State.Frame.ofPair ?_ (by assumption) | split) | apply State.Frame.foldlFst | refine State.Frame.ofPair ?_ (by assumption) | split | dsimp only)

theorem State.enterSr_frame (h : s.Frame n o) (hn : Covers n 0xc2784a) : ∀ x1 x2, (State.enterSr s x1 x2).Frame n o := by
  intros
  unfold State.enterSr
  with_reducible repeat' (first | intro _ | assumption | exact Covers.trans hn (by decide) | apply State.modChan_frame | apply State.launch_frame | apply State.bump_frame | apply State.setSr_frame | apply State.sendSrx_frame | apply State.raise_frame | apply State.setFld_frame | apply State.Frame.foldl | apply State.Frame.ite | (apply State.Frame.mk' <;> first | exact .inl (Covers.bit hn (by decide)) | exact .inr rfl | assumption | apply State.modChan_frame | apply State.launch_frame | apply State.bump_frame | apply State.setSr_frame | apply State.sendSrx_frame | apply State.raise_frame | apply State.setFld_frame | apply State.Frame.ite | apply State.Frame.foldl | refine State.Frame.ofPair ?_ (by assumption) | split) | apply State.Frame.foldlFst | refine State.Frame.ofPair ?_ (by assumption) | split | dsimp only)

theorem execSelfRefreshEntry_frame (h : s.Frame n o) (hn : Covers n 0xc2784a) : ∀ x0 x1, Out.Frame n o (execSelfRefreshEntry x0 x1 s) := by
  intros
  unfold execSelfRefreshEntry
  with_reducible repeat' (first | intro _ | assumption | exact Covers.trans hn (by decide) | apply State.issueOwed_frame | apply State.modRef_frame | apply State.enterSr_frame | apply State.Frame.foldl | apply Out.Frame.next | apply State.Frame.ite | (apply State.Frame.mk' <;> first | exact .inl (Covers.bit hn (by decide)) | exact .inr rfl | assumption | apply State.issueOwed_frame | apply State.modRef_frame | apply State.enterSr_frame | apply State.Frame.ite | apply State.Frame.foldl | refine State.Frame.ofPair ?_ (by assumption) | split) | apply State.Frame.foldlFst | refine State.Frame.ofPair ?_ (by assumption) | split | dsimp only)

end Sys2Proof.Machine
end

