-- ==== Sys2Proof/Laws/FrameH.lean ====
section
/-! SUPPORT. Which parts of State each operation leaves, of Vertical. -/
namespace Sys2Proof.Machine

set_option linter.all false

variable {n : Nat} {o s : State}

/-! ### Vertical -/

theorem State.retireSpare_frame (h : s.Frame n o) (hn : Covers n 0x83784a) : ∀ x1 x2, (State.retireSpare s x1 x2).Frame n o := by
  intros
  unfold State.retireSpare
  with_reducible repeat' (first | intro _ | assumption | exact Covers.trans hn (by decide) | apply State.repSet_frame | apply State.setCal_frame | apply State.Frame.foldl | apply State.Frame.ite | (apply State.Frame.mk' <;> first | exact .inl (Covers.bit hn (by decide)) | exact .inr rfl | assumption | apply State.repSet_frame | apply State.setCal_frame | apply State.Frame.ite | apply State.Frame.foldl | refine State.Frame.ofPair ?_ (by assumption) | split) | apply State.Frame.foldlFst | refine State.Frame.ofPair ?_ (by assumption) | split | dsimp only)

theorem State.serveCol_frame (h : s.Frame n o) (hn : Covers n 0x83784a) : ∀ x1 x2 x3, (State.serveCol s x1 x2 x3).Frame n o := by
  intros
  unfold State.serveCol
  with_reducible repeat' (first | intro _ | assumption | exact Covers.trans hn (by decide) | apply State.modBund_frame | apply State.retireSpare_frame | apply State.setCal_frame | apply State.repSet_frame | apply State.Frame.foldl | apply State.Frame.ite | (apply State.Frame.mk' <;> first | exact .inl (Covers.bit hn (by decide)) | exact .inr rfl | assumption | apply State.modBund_frame | apply State.retireSpare_frame | apply State.setCal_frame | apply State.repSet_frame | apply State.Frame.ite | apply State.Frame.foldl | refine State.Frame.ofPair ?_ (by assumption) | split) | apply State.Frame.foldlFst | refine State.Frame.ofPair ?_ (by assumption) | split | dsimp only)

theorem State.failBundle_frame (h : s.Frame n o) (hn : Covers n 0x83784a) : ∀ x1 x2, (State.failBundle s x1 x2).Frame n o := by
  intros
  unfold State.failBundle
  with_reducible repeat' (first | intro _ | assumption | exact Covers.trans hn (by decide) | apply State.failChannel_frame | apply State.raise_frame | apply State.Frame.foldl | apply State.Frame.ite | (apply State.Frame.mk' <;> first | exact .inl (Covers.bit hn (by decide)) | exact .inr rfl | assumption | apply State.failChannel_frame | apply State.raise_frame | apply State.Frame.ite | apply State.Frame.foldl | refine State.Frame.ofPair ?_ (by assumption) | split) | apply State.Frame.foldlFst | refine State.Frame.ofPair ?_ (by assumption) | split | dsimp only)

theorem State.eraseCol_frame (h : s.Frame n o) (hn : Covers n 0x83784a) : ∀ x1 x2, (State.eraseCol s x1 x2).Frame n o := by
  intros
  unfold State.eraseCol
  with_reducible repeat' (first | intro _ | assumption | exact Covers.trans hn (by decide) | apply State.raise_frame | apply State.failBundle_frame | apply State.modBund_frame | apply State.Frame.foldl | apply State.Frame.ite | (apply State.Frame.mk' <;> first | exact .inl (Covers.bit hn (by decide)) | exact .inr rfl | assumption | apply State.raise_frame | apply State.failBundle_frame | apply State.modBund_frame | apply State.Frame.ite | apply State.Frame.foldl | refine State.Frame.ofPair ?_ (by assumption) | split) | apply State.Frame.foldlFst | refine State.Frame.ofPair ?_ (by assumption) | split | dsimp only)

theorem State.beginSwitch_frame (h : s.Frame n o) (hn : Covers n 0x2802) : ∀ x1 x2, (State.beginSwitch s x1 x2).Frame n o := by
  intros
  unfold State.beginSwitch
  with_reducible repeat' (first | intro _ | assumption | exact Covers.trans hn (by decide) | apply State.modBund_frame | apply State.setCol_frame | apply State.setcfg_frame | apply State.Frame.foldl | apply State.Frame.ite | (apply State.Frame.mk' <;> first | exact .inl (Covers.bit hn (by decide)) | exact .inr rfl | assumption | apply State.modBund_frame | apply State.setCol_frame | apply State.setcfg_frame | apply State.Frame.ite | apply State.Frame.foldl | refine State.Frame.ofPair ?_ (by assumption) | split) | apply State.Frame.foldlFst | refine State.Frame.ofPair ?_ (by assumption) | split | dsimp only)

theorem State.spareCol_frame (h : s.Frame n o) (hn : Covers n 0x83784a) : ∀ x1 x2, (State.spareCol s x1 x2).Frame n o := by
  intros
  unfold State.spareCol
  with_reducible repeat' (first | intro _ | assumption | exact Covers.trans hn (by decide) | apply State.retireSpare_frame | apply State.eraseCol_frame | apply State.beginSwitch_frame | apply State.serveCol_frame | apply State.Frame.foldl | apply State.Frame.ite | (apply State.Frame.mk' <;> first | exact .inl (Covers.bit hn (by decide)) | exact .inr rfl | assumption | apply State.retireSpare_frame | apply State.eraseCol_frame | apply State.beginSwitch_frame | apply State.serveCol_frame | apply State.Frame.ite | apply State.Frame.foldl | refine State.Frame.ofPair ?_ (by assumption) | split) | apply State.Frame.foldlFst | refine State.Frame.ofPair ?_ (by assumption) | split | dsimp only)

theorem State.spareNow_frame (h : s.Frame n o) (hn : Covers n 0x83784a) : ∀ x1 x2, (State.spareNow s x1 x2).Frame n o := by
  intros
  unfold State.spareNow
  with_reducible repeat' (first | intro _ | assumption | exact Covers.trans hn (by decide) | apply State.retireSpare_frame | apply State.eraseCol_frame | apply State.serveCol_frame | apply State.Frame.foldl | apply State.Frame.ite | (apply State.Frame.mk' <;> first | exact .inl (Covers.bit hn (by decide)) | exact .inr rfl | assumption | apply State.retireSpare_frame | apply State.eraseCol_frame | apply State.serveCol_frame | apply State.Frame.ite | apply State.Frame.foldl | refine State.Frame.ofPair ?_ (by assumption) | split) | apply State.Frame.foldlFst | refine State.Frame.ofPair ?_ (by assumption) | split | dsimp only)

theorem State.gearLoop_frame (h : s.Frame n o) (hn : Covers n 0x83784a) : ∀ x1 x2 x3, (State.gearLoop s x1 x2 x3).Frame n o := by
  intros
  unfold State.gearLoop
  with_reducible repeat' (first | intro _ | assumption | exact Covers.trans hn (by decide) | apply State.setFld_frame | apply State.modBund_frame | apply State.spareCol_frame | apply State.raise_frame | apply State.beginSwitch_frame | apply State.Frame.foldl | apply State.Frame.ite | (apply State.Frame.mk' <;> first | exact .inl (Covers.bit hn (by decide)) | exact .inr rfl | assumption | apply State.setFld_frame | apply State.modBund_frame | apply State.spareCol_frame | apply State.raise_frame | apply State.beginSwitch_frame | apply State.Frame.ite | apply State.Frame.foldl | refine State.Frame.ofPair ?_ (by assumption) | split) | apply State.Frame.foldlFst | refine State.Frame.ofPair ?_ (by assumption) | split | dsimp only)

theorem execGearWindowEnd_frame (h : s.Frame n o) (hn : Covers n 0x83784a) : ∀ x0 x1, Out.Frame n o (execGearWindowEnd x0 x1 s) := by
  intros
  unfold execGearWindowEnd
  with_reducible repeat' (first | intro _ | assumption | exact Covers.trans hn (by decide) | apply State.upTo_frame | apply State.modBund_frame | apply State.gearLoop_frame | apply State.Frame.foldl | apply Out.Frame.next | apply State.Frame.ite | (apply State.Frame.mk' <;> first | exact .inl (Covers.bit hn (by decide)) | exact .inr rfl | assumption | apply State.upTo_frame | apply State.modBund_frame | apply State.gearLoop_frame | apply State.Frame.ite | apply State.Frame.foldl | refine State.Frame.ofPair ?_ (by assumption) | split) | apply State.Frame.foldlFst | refine State.Frame.ofPair ?_ (by assumption) | split | dsimp only)

theorem State.modSwitch_frame (h : s.Frame n o) (hn : Covers n 0x2000) : ∀ x1 x2 x3 x4, (State.modSwitch s x1 x2 x3 x4).Frame n o := by
  intros
  unfold State.modSwitch
  with_reducible repeat' (first | intro _ | assumption | exact Covers.trans hn (by decide) | apply State.modBund_frame | apply State.Frame.foldl | apply State.Frame.ite | (apply State.Frame.mk' <;> first | exact .inl (Covers.bit hn (by decide)) | exact .inr rfl | assumption | apply State.modBund_frame | apply State.Frame.ite | apply State.Frame.foldl | refine State.Frame.ofPair ?_ (by assumption) | split) | apply State.Frame.foldlFst | refine State.Frame.ofPair ?_ (by assumption) | split | dsimp only)

theorem State.switchAck_frame (h : s.Frame n o) (hn : Covers n 0x2000) : ∀ x1 x2 x3 x4 x5, (State.switchAck s x1 x2 x3 x4 x5).Frame n o := by
  intros
  unfold State.switchAck
  with_reducible repeat' (first | intro _ | assumption | exact Covers.trans hn (by decide) | apply State.modSwitch_frame | apply State.Frame.foldl | apply State.Frame.ite | (apply State.Frame.mk' <;> first | exact .inl (Covers.bit hn (by decide)) | exact .inr rfl | assumption | apply State.modSwitch_frame | apply State.Frame.ite | apply State.Frame.foldl | refine State.Frame.ofPair ?_ (by assumption) | split) | apply State.Frame.foldlFst | refine State.Frame.ofPair ?_ (by assumption) | split | dsimp only)

theorem State.switchLate_frame (h : s.Frame n o) (hn : Covers n 0x82784a) : ∀ x1 x2 x3, (State.switchLate s x1 x2 x3).Frame n o := by
  intros
  unfold State.switchLate
  with_reducible repeat' (first | intro _ | assumption | exact Covers.trans hn (by decide) | apply State.modSwitch_frame | apply State.setCol_frame | apply State.setcfg_frame | apply State.raise_frame | apply State.Frame.foldl | apply State.Frame.ite | (apply State.Frame.mk' <;> first | exact .inl (Covers.bit hn (by decide)) | exact .inr rfl | assumption | apply State.modSwitch_frame | apply State.setCol_frame | apply State.setcfg_frame | apply State.raise_frame | apply State.Frame.ite | apply State.Frame.foldl | refine State.Frame.ofPair ?_ (by assumption) | split) | apply State.Frame.foldlFst | refine State.Frame.ofPair ?_ (by assumption) | split | dsimp only)

theorem execGearSwitchAckDeadline_frame (h : s.Frame n o) (hn : Covers n 0x82784a) : ∀ x0 x1, Out.Frame n o (execGearSwitchAckDeadline x0 x1 s) := by
  intros
  unfold execGearSwitchAckDeadline
  with_reducible repeat' (first | intro _ | assumption | exact Covers.trans hn (by decide) | apply State.switchLate_frame | apply State.Frame.foldl | apply Out.Frame.next | apply State.Frame.ite | (apply State.Frame.mk' <;> first | exact .inl (Covers.bit hn (by decide)) | exact .inr rfl | assumption | apply State.switchLate_frame | apply State.Frame.ite | apply State.Frame.foldl | refine State.Frame.ofPair ?_ (by assumption) | split) | apply State.Frame.foldlFst | refine State.Frame.ofPair ?_ (by assumption) | split | dsimp only)

theorem State.switchNow_frame (h : s.Frame n o) (hn : Covers n 0x83784a) : ∀ x1 x2 x3, (State.switchNow s x1 x2 x3).Frame n o := by
  intros
  unfold State.switchNow
  with_reducible repeat' (first | intro _ | assumption | exact Covers.trans hn (by decide) | apply State.modBund_frame | apply State.trainPath_frame | apply State.serveCol_frame | apply State.setCal_frame | apply State.setCol_frame | apply State.raise_frame | apply State.bump_frame | apply State.Frame.foldl | apply State.Frame.ite | (apply State.Frame.mk' <;> first | exact .inl (Covers.bit hn (by decide)) | exact .inr rfl | assumption | apply State.modBund_frame | apply State.trainPath_frame | apply State.serveCol_frame | apply State.setCal_frame | apply State.setCol_frame | apply State.raise_frame | apply State.bump_frame | apply State.Frame.ite | apply State.Frame.foldl | refine State.Frame.ofPair ?_ (by assumption) | split) | apply State.Frame.foldlFst | refine State.Frame.ofPair ?_ (by assumption) | split | dsimp only)

theorem execGearSwitchEffective_frame (h : s.Frame n o) (hn : Covers n 0x83784a) : ∀ x0 x1, Out.Frame n o (execGearSwitchEffective x0 x1 s) := by
  intros
  unfold execGearSwitchEffective
  with_reducible repeat' (first | intro _ | assumption | exact Covers.trans hn (by decide) | apply State.switchNow_frame | apply State.Frame.foldl | apply Out.Frame.next | apply State.Frame.ite | (apply State.Frame.mk' <;> first | exact .inl (Covers.bit hn (by decide)) | exact .inr rfl | assumption | apply State.switchNow_frame | apply State.Frame.ite | apply State.Frame.foldl | refine State.Frame.ofPair ?_ (by assumption) | split) | apply State.Frame.foldlFst | refine State.Frame.ofPair ?_ (by assumption) | split | dsimp only)

theorem State.discover_frame (h : s.Frame n o) (hn : Covers n 0x83784a) : ∀ x1 x2, (State.discover s x1 x2).Frame n o := by
  intros
  unfold State.discover
  with_reducible repeat' (first | intro _ | assumption | exact Covers.trans hn (by decide) | apply State.upTo_frame | apply State.setFld_frame | apply State.setFlag_frame | apply State.sendTiming_frame | apply State.raise_frame | apply State.Frame.foldl | apply State.Frame.ite | (apply State.Frame.mk' <;> first | exact .inl (Covers.bit hn (by decide)) | exact .inr rfl | assumption | apply State.upTo_frame | apply State.setFld_frame | apply State.setFlag_frame | apply State.sendTiming_frame | apply State.raise_frame | apply State.Frame.ite | apply State.Frame.foldl | refine State.Frame.ofPair ?_ (by assumption) | split) | apply State.Frame.foldlFst | refine State.Frame.ofPair ?_ (by assumption) | split | dsimp only)

theorem State.noLayer_frame (h : s.Frame n o) (hn : Covers n 0x2) : ∀ x1, (State.noLayer s x1).Frame n o := by
  intros
  unfold State.noLayer
  with_reducible repeat' (first | intro _ | assumption | exact Covers.trans hn (by decide) | apply State.setFld_frame | apply State.Frame.foldl | apply State.Frame.ite | (apply State.Frame.mk' <;> first | exact .inl (Covers.bit hn (by decide)) | exact .inr rfl | assumption | apply State.setFld_frame | apply State.Frame.ite | apply State.Frame.foldl | refine State.Frame.ofPair ?_ (by assumption) | split) | apply State.Frame.foldlFst | refine State.Frame.ofPair ?_ (by assumption) | split | dsimp only)

theorem State.trainedCol_frame (h : s.Frame n o) (hn : Covers n 0x4000002) : ∀ x1 x2, (State.trainedCol s x1 x2).Frame n o := by
  intros
  unfold State.trainedCol
  with_reducible repeat' (first | intro _ | assumption | exact Covers.trans hn (by decide) | apply State.setCal_frame | apply State.noteGain_frame | apply State.Frame.foldl | apply State.Frame.ite | (apply State.Frame.mk' <;> first | exact .inl (Covers.bit hn (by decide)) | exact .inr rfl | assumption | apply State.setCal_frame | apply State.noteGain_frame | apply State.Frame.ite | apply State.Frame.foldl | refine State.Frame.ofPair ?_ (by assumption) | split) | apply State.Frame.foldlFst | refine State.Frame.ofPair ?_ (by assumption) | split | dsimp only)

theorem State.takeBase_frame (h : s.Frame n o) (hn : Covers n 0x2) : ∀ x1, (State.takeBase s x1).Frame n o := by
  intros
  unfold State.takeBase
  with_reducible repeat' (first | intro _ | assumption | exact Covers.trans hn (by decide) | apply State.upTo_frame | apply State.setCal_frame | apply State.Frame.foldl | apply State.Frame.ite | (apply State.Frame.mk' <;> first | exact .inl (Covers.bit hn (by decide)) | exact .inr rfl | assumption | apply State.upTo_frame | apply State.setCal_frame | apply State.Frame.ite | apply State.Frame.foldl | refine State.Frame.ofPair ?_ (by assumption) | split) | apply State.Frame.foldlFst | refine State.Frame.ofPair ?_ (by assumption) | split | dsimp only)

theorem State.segFail_frame (h : s.Frame n o) (hn : Covers n 0x82784a) : ∀ x1 x2, (State.segFail s x1 x2).Frame n o := by
  intros
  unfold State.segFail
  with_reducible repeat' (first | intro _ | assumption | exact Covers.trans hn (by decide) | apply State.raise_frame | apply State.setFld_frame | apply State.Frame.foldl | apply State.Frame.ite | (apply State.Frame.mk' <;> first | exact .inl (Covers.bit hn (by decide)) | exact .inr rfl | assumption | apply State.raise_frame | apply State.setFld_frame | apply State.Frame.ite | apply State.Frame.foldl | refine State.Frame.ofPair ?_ (by assumption) | split) | apply State.Frame.foldlFst | refine State.Frame.ofPair ?_ (by assumption) | split | dsimp only)

theorem State.trainCol_frame (h : s.Frame n o) (hn : Covers n 0x483784a) : ∀ x1 x2, (State.trainCol s x1 x2).1.Frame n o := by
  intros
  unfold State.trainCol
  with_reducible repeat' (first | intro _ | assumption | exact Covers.trans hn (by decide) | apply State.trainedCol_frame | apply State.spareNow_frame | apply State.raise_frame | apply State.segFail_frame | apply State.Frame.foldl | apply State.Frame.ite | (apply State.Frame.mk' <;> first | exact .inl (Covers.bit hn (by decide)) | exact .inr rfl | assumption | apply State.trainedCol_frame | apply State.spareNow_frame | apply State.raise_frame | apply State.segFail_frame | apply State.Frame.ite | apply State.Frame.foldl | refine State.Frame.ofPair ?_ (by assumption) | split) | apply State.Frame.foldlFst | refine State.Frame.ofPair ?_ (by assumption) | split | dsimp only)

theorem State.trainCols_frame (h : s.Frame n o) (hn : Covers n 0x483784a) : ∀ x1 x2, (State.trainCols s x1 x2).1.Frame n o := by
  intros
  unfold State.trainCols
  with_reducible repeat' (first | intro _ | assumption | exact Covers.trans hn (by decide) | apply State.trainCol_frame | apply State.Frame.foldl | apply State.Frame.ite | (apply State.Frame.mk' <;> first | exact .inl (Covers.bit hn (by decide)) | exact .inr rfl | assumption | apply State.trainCol_frame | apply State.Frame.ite | apply State.Frame.foldl | refine State.Frame.ofPair ?_ (by assumption) | split) | apply State.Frame.foldlFst | refine State.Frame.ofPair ?_ (by assumption) | split | dsimp only)

theorem State.bundleTrained_frame (h : s.Frame n o) (hn : Covers n 0x2802) : ∀ x1 x2, (State.bundleTrained s x1 x2).Frame n o := by
  intros
  unfold State.bundleTrained
  with_reducible repeat' (first | intro _ | assumption | exact Covers.trans hn (by decide) | apply State.modBund_frame | apply State.setCol_frame | apply State.preAll_frame | apply State.sendSrx_frame | apply State.reside_frame | apply State.modChan_frame | apply State.Frame.foldl | apply State.Frame.ite | (apply State.Frame.mk' <;> first | exact .inl (Covers.bit hn (by decide)) | exact .inr rfl | assumption | apply State.modBund_frame | apply State.setCol_frame | apply State.preAll_frame | apply State.sendSrx_frame | apply State.reside_frame | apply State.modChan_frame | apply State.Frame.ite | apply State.Frame.foldl | refine State.Frame.ofPair ?_ (by assumption) | split) | apply State.Frame.foldlFst | refine State.Frame.ofPair ?_ (by assumption) | split | dsimp only)

theorem State.trainFlags_frame (h : s.Frame n o) (hn : Covers n 0x2) : (State.trainFlags s).Frame n o := by
  unfold State.trainFlags
  with_reducible repeat' (first | intro _ | assumption | exact Covers.trans hn (by decide) | apply State.upTo_frame | apply State.setFlag_frame | apply State.Frame.foldl | apply State.Frame.ite | (apply State.Frame.mk' <;> first | exact .inl (Covers.bit hn (by decide)) | exact .inr rfl | assumption | apply State.upTo_frame | apply State.setFlag_frame | apply State.Frame.ite | apply State.Frame.foldl | refine State.Frame.ofPair ?_ (by assumption) | split) | apply State.Frame.foldlFst | refine State.Frame.ofPair ?_ (by assumption) | split | dsimp only)

theorem State.endTraining_frame (h : s.Frame n o) (hn : Covers n 0x2802) : ∀ x1 x2, (State.endTraining s x1 x2).Frame n o := by
  intros
  unfold State.endTraining
  with_reducible repeat' (first | intro _ | assumption | exact Covers.trans hn (by decide) | apply State.bundleTrained_frame | apply State.trainFlags_frame | apply State.Frame.foldl | apply State.Frame.ite | (apply State.Frame.mk' <;> first | exact .inl (Covers.bit hn (by decide)) | exact .inr rfl | assumption | apply State.bundleTrained_frame | apply State.trainFlags_frame | apply State.Frame.ite | apply State.Frame.foldl | refine State.Frame.ofPair ?_ (by assumption) | split) | apply State.Frame.foldlFst | refine State.Frame.ofPair ?_ (by assumption) | split | dsimp only)

theorem State.afterV2_frame (h : s.Frame n o) (hn : Covers n 0x83784a) : ∀ x1 x2, (State.afterV2 s x1 x2).1.Frame n o := by
  intros
  unfold State.afterV2
  with_reducible repeat' (first | intro _ | assumption | exact Covers.trans hn (by decide) | apply State.upTo_frame | apply State.discover_frame | apply State.noLayer_frame | apply State.setFld_frame | apply State.Frame.foldl | apply State.Frame.ite | (apply State.Frame.mk' <;> first | exact .inl (Covers.bit hn (by decide)) | exact .inr rfl | assumption | apply State.upTo_frame | apply State.discover_frame | apply State.noLayer_frame | apply State.setFld_frame | apply State.Frame.ite | apply State.Frame.foldl | refine State.Frame.ofPair ?_ (by assumption) | split) | apply State.Frame.foldlFst | refine State.Frame.ofPair ?_ (by assumption) | split | dsimp only)

theorem State.setSiteWord_frame (h : s.Frame n o) (hn : Covers n 0x2002) : ∀ x1 x2, (State.setSiteWord s x1 x2).Frame n o := by
  intros
  unfold State.setSiteWord
  with_reducible repeat' (first | intro _ | assumption | exact Covers.trans hn (by decide) | apply State.setFld_frame | apply State.Frame.foldl | apply State.Frame.ite | (apply State.Frame.mk' <;> first | exact .inl (Covers.bit hn (by decide)) | exact .inr rfl | assumption | apply State.setFld_frame | apply State.Frame.ite | apply State.Frame.foldl | refine State.Frame.ofPair ?_ (by assumption) | split) | apply State.Frame.foldlFst | refine State.Frame.ofPair ?_ (by assumption) | split | dsimp only)

theorem State.moveSite_frame (h : s.Frame n o) (hn : Covers n 0x83784a) : ∀ x1 x2, (State.moveSite s x1 x2).1.Frame n o := by
  intros
  unfold State.moveSite
  with_reducible repeat' (first | intro _ | assumption | exact Covers.trans hn (by decide) | apply State.repSet_frame | apply State.setSiteWord_frame | apply State.Frame.foldl | apply State.Frame.ite | (apply State.Frame.mk' <;> first | exact .inl (Covers.bit hn (by decide)) | exact .inr rfl | assumption | apply State.repSet_frame | apply State.setSiteWord_frame | apply State.Frame.ite | apply State.Frame.foldl | refine State.Frame.ofPair ?_ (by assumption) | split) | apply State.Frame.foldlFst | refine State.Frame.ofPair ?_ (by assumption) | split | dsimp only)

theorem State.spineReady_frame (h : s.Frame n o) (hn : Covers n 0x83784a) : ∀ x1, (State.spineReady s x1).Frame n o := by
  intros
  unfold State.spineReady
  with_reducible repeat' (first | intro _ | assumption | exact Covers.trans hn (by decide) | apply State.moveSite_frame | apply State.Frame.foldl | apply State.Frame.ite | (apply State.Frame.mk' <;> first | exact .inl (Covers.bit hn (by decide)) | exact .inr rfl | assumption | apply State.moveSite_frame | apply State.Frame.ite | apply State.Frame.foldl | refine State.Frame.ofPair ?_ (by assumption) | split) | apply State.Frame.foldlFst | refine State.Frame.ofPair ?_ (by assumption) | split | dsimp only)

theorem State.spinePhase_frame (h : s.Frame n o) (hn : Covers n 0x83784a) : ∀ x1 x2, (State.spinePhase s x1 x2).1.Frame n o := by
  intros
  unfold State.spinePhase
  with_reducible repeat' (first | intro _ | assumption | exact Covers.trans hn (by decide) | apply State.setFld_frame | apply State.moveSite_frame | apply State.spineReady_frame | apply State.upTo_frame | apply State.setcfg_frame | apply State.Frame.foldl | apply State.Frame.ite | (apply State.Frame.mk' <;> first | exact .inl (Covers.bit hn (by decide)) | exact .inr rfl | assumption | apply State.setFld_frame | apply State.moveSite_frame | apply State.spineReady_frame | apply State.upTo_frame | apply State.setcfg_frame | apply State.Frame.ite | apply State.Frame.foldl | refine State.Frame.ofPair ?_ (by assumption) | split) | apply State.Frame.foldlFst | refine State.Frame.ofPair ?_ (by assumption) | split | dsimp only)

theorem State.endPhase_frame (h : s.Frame n o) (hn : Covers n 0x483784e) : ∀ x1, (State.endPhase s x1).Frame n o := by
  intros
  unfold State.endPhase
  with_reducible repeat' (first | intro _ | assumption | exact Covers.trans hn (by decide) | apply State.spinePhase_frame | apply State.endTraining_frame | apply State.segFail_frame | apply State.afterV2_frame | apply State.trainCols_frame | apply State.setWitRef_frame | apply State.takeBase_frame | apply State.latency_frame | apply State.Frame.foldl | apply State.Frame.ite | (apply State.Frame.mk' <;> first | exact .inl (Covers.bit hn (by decide)) | exact .inr rfl | assumption | apply State.spinePhase_frame | apply State.endTraining_frame | apply State.segFail_frame | apply State.afterV2_frame | apply State.trainCols_frame | apply State.setWitRef_frame | apply State.takeBase_frame | apply State.latency_frame | apply State.Frame.ite | apply State.Frame.foldl | refine State.Frame.ofPair ?_ (by assumption) | split) | apply State.Frame.foldlFst | refine State.Frame.ofPair ?_ (by assumption) | split | dsimp only)

theorem execRelayLossDeclared_frame (h : s.Frame n o) (hn : Covers n 0x82784a) : ∀ x0 x1, Out.Frame n o (execRelayLossDeclared x0 x1 s) := by
  intros
  unfold execRelayLossDeclared
  with_reducible repeat' (first | intro _ | assumption | exact Covers.trans hn (by decide) | apply State.raise_frame | apply State.setFld_frame | apply State.bump_frame | apply State.reside_frame | apply State.modChan_frame | apply State.modBund_frame | apply State.sendCfg_frame | apply State.Frame.foldl | apply Out.Frame.next | apply State.Frame.ite | (apply State.Frame.mk' <;> first | exact .inl (Covers.bit hn (by decide)) | exact .inr rfl | assumption | apply State.raise_frame | apply State.setFld_frame | apply State.bump_frame | apply State.reside_frame | apply State.modChan_frame | apply State.modBund_frame | apply State.sendCfg_frame | apply State.Frame.ite | apply State.Frame.foldl | refine State.Frame.ofPair ?_ (by assumption) | split) | apply State.Frame.foldlFst | refine State.Frame.ofPair ?_ (by assumption) | split | dsimp only)

theorem execRelayFlagRestored_frame (h : s.Frame n o) (hn : Covers n 0x2002) : ∀ x0 x1, Out.Frame n o (execRelayFlagRestored x0 x1 s) := by
  intros
  unfold execRelayFlagRestored
  with_reducible repeat' (first | intro _ | assumption | exact Covers.trans hn (by decide) | apply State.setFld_frame | apply State.startTraining_frame | apply State.Frame.foldl | apply Out.Frame.next | apply State.Frame.ite | (apply State.Frame.mk' <;> first | exact .inl (Covers.bit hn (by decide)) | exact .inr rfl | assumption | apply State.setFld_frame | apply State.startTraining_frame | apply State.Frame.ite | apply State.Frame.foldl | refine State.Frame.ofPair ?_ (by assumption) | split) | apply State.Frame.foldlFst | refine State.Frame.ofPair ?_ (by assumption) | split | dsimp only)

theorem execHrepIssue_frame (h : s.Frame n o) (hn : Covers n 0x12802) : ∀ x0, Out.Frame n o (execHrepIssue x0 s) := by
  intros
  unfold execHrepIssue
  with_reducible repeat' (first | intro _ | assumption | exact Covers.trans hn (by decide) | apply State.sendRep_frame | apply State.Frame.foldl | apply Out.Frame.next | apply State.Frame.ite | (apply State.Frame.mk' <;> first | exact .inl (Covers.bit hn (by decide)) | exact .inr rfl | assumption | apply State.sendRep_frame | apply State.Frame.ite | apply State.Frame.foldl | refine State.Frame.ofPair ?_ (by assumption) | split) | apply State.Frame.foldlFst | refine State.Frame.ofPair ?_ (by assumption) | split | dsimp only)

theorem State.hrepEnd_frame (h : s.Frame n o) (hn : Covers n 0x83784a) : ∀ x1 x2, (State.hrepEnd s x1 x2).Frame n o := by
  intros
  unfold State.hrepEnd
  with_reducible repeat' (first | intro _ | assumption | exact Covers.trans hn (by decide) | apply State.repSet_frame | apply State.bump_frame | apply State.raise_frame | apply State.Frame.foldl | apply State.Frame.ite | (apply State.Frame.mk' <;> first | exact .inl (Covers.bit hn (by decide)) | exact .inr rfl | assumption | apply State.repSet_frame | apply State.bump_frame | apply State.raise_frame | apply State.Frame.ite | apply State.Frame.foldl | refine State.Frame.ofPair ?_ (by assumption) | split) | apply State.Frame.foldlFst | refine State.Frame.ofPair ?_ (by assumption) | split | dsimp only)

theorem execHrepTimeout_frame (h : s.Frame n o) (hn : Covers n 0x83784a) : ∀ x0, Out.Frame n o (execHrepTimeout x0 s) := by
  intros
  unfold execHrepTimeout
  with_reducible repeat' (first | intro _ | assumption | exact Covers.trans hn (by decide) | apply State.hrepEnd_frame | apply State.Frame.foldl | apply Out.Frame.next | apply State.Frame.ite | (apply State.Frame.mk' <;> first | exact .inl (Covers.bit hn (by decide)) | exact .inr rfl | assumption | apply State.hrepEnd_frame | apply State.Frame.ite | apply State.Frame.foldl | refine State.Frame.ofPair ?_ (by assumption) | split) | apply State.Frame.foldlFst | refine State.Frame.ofPair ?_ (by assumption) | split | dsimp only)

theorem State.modCfg_frame (h : s.Frame n o) (hn : Covers n 0x2000) : ∀ x1 x2, (State.modCfg s x1 x2).Frame n o := by
  intros
  unfold State.modCfg
  with_reducible repeat' (first | intro _ | assumption | exact Covers.trans hn (by decide) | apply State.Frame.foldl | apply State.Frame.ite | (apply State.Frame.mk' <;> first | exact .inl (Covers.bit hn (by decide)) | exact .inr rfl | assumption | apply State.Frame.ite | apply State.Frame.foldl | refine State.Frame.ofPair ?_ (by assumption) | split) | apply State.Frame.foldlFst | refine State.Frame.ofPair ?_ (by assumption) | split | dsimp only)

theorem State.dropCfg_frame (h : s.Frame n o) (hn : Covers n 0x2000) : ∀ x1, (State.dropCfg s x1).Frame n o := by
  intros
  unfold State.dropCfg
  with_reducible repeat' (first | intro _ | assumption | exact Covers.trans hn (by decide) | apply State.Frame.foldl | apply State.Frame.ite | (apply State.Frame.mk' <;> first | exact .inl (Covers.bit hn (by decide)) | exact .inr rfl | assumption | apply State.Frame.ite | apply State.Frame.foldl | refine State.Frame.ofPair ?_ (by assumption) | split) | apply State.Frame.foldlFst | refine State.Frame.ofPair ?_ (by assumption) | split | dsimp only)

theorem State.coreBack_frame (h : s.Frame n o) (hn : Covers n 0x82784a) : ∀ x1 x2, (State.coreBack s x1 x2).Frame n o := by
  intros
  unfold State.coreBack
  with_reducible repeat' (first | intro _ | assumption | exact Covers.trans hn (by decide) | apply State.upTo_frame | apply State.sendSrx_frame | apply State.sendTiming_frame | apply State.raise_frame | apply State.Frame.foldl | apply State.Frame.ite | (apply State.Frame.mk' <;> first | exact .inl (Covers.bit hn (by decide)) | exact .inr rfl | assumption | apply State.upTo_frame | apply State.sendSrx_frame | apply State.sendTiming_frame | apply State.raise_frame | apply State.Frame.ite | apply State.Frame.foldl | refine State.Frame.ofPair ?_ (by assumption) | split) | apply State.Frame.foldlFst | refine State.Frame.ofPair ?_ (by assumption) | split | dsimp only)

theorem State.softFail_frame (h : s.Frame n o) (hn : Covers n 0x83784a) : ∀ x1 x2 x3, (State.softFail s x1 x2 x3).Frame n o := by
  intros
  unfold State.softFail
  with_reducible repeat' (first | intro _ | assumption | exact Covers.trans hn (by decide) | apply State.markBad_frame | apply State.exhausted_frame | apply State.repDel_frame | apply State.sendRep_frame | apply State.repSet_frame | apply State.Frame.foldl | apply State.Frame.ite | (apply State.Frame.mk' <;> first | exact .inl (Covers.bit hn (by decide)) | exact .inr rfl | assumption | apply State.markBad_frame | apply State.exhausted_frame | apply State.repDel_frame | apply State.sendRep_frame | apply State.repSet_frame | apply State.Frame.ite | apply State.Frame.foldl | refine State.Frame.ofPair ?_ (by assumption) | split) | apply State.Frame.foldlFst | refine State.Frame.ofPair ?_ (by assumption) | split | dsimp only)

theorem State.coreFields_frame (h : s.Frame n o) (hn : Covers n 0x2) : ∀ x1, (State.coreFields s x1).Frame n o := by
  intros
  unfold State.coreFields
  with_reducible repeat' (first | intro _ | assumption | exact Covers.trans hn (by decide) | apply State.resetBlk_frame | apply State.Frame.foldl | apply State.Frame.ite | (apply State.Frame.mk' <;> first | exact .inl (Covers.bit hn (by decide)) | exact .inr rfl | assumption | apply State.resetBlk_frame | apply State.Frame.ite | apply State.Frame.foldl | refine State.Frame.ofPair ?_ (by assumption) | split) | apply State.Frame.foldlFst | refine State.Frame.ofPair ?_ (by assumption) | split | dsimp only)

theorem State.cfgDone_frame (h : s.Frame n o) (hn : Covers n 0x83784a) : ∀ x1 x2, (State.cfgDone s x1 x2).Frame n o := by
  intros
  unfold State.cfgDone
  with_reducible repeat' (first | intro _ | assumption | exact Covers.trans hn (by decide) | apply State.switchAck_frame | apply State.migSrep_frame | apply State.softFail_frame | apply State.repSet_frame | apply State.marchResume_frame | apply State.hrepEnd_frame | apply State.sendCfg_frame | apply State.coreFields_frame | apply State.Frame.foldl | apply State.Frame.ite | (apply State.Frame.mk' <;> first | exact .inl (Covers.bit hn (by decide)) | exact .inr rfl | assumption | apply State.switchAck_frame | apply State.migSrep_frame | apply State.softFail_frame | apply State.repSet_frame | apply State.marchResume_frame | apply State.hrepEnd_frame | apply State.sendCfg_frame | apply State.coreFields_frame | apply State.Frame.ite | apply State.Frame.foldl | refine State.Frame.ofPair ?_ (by assumption) | split) | apply State.Frame.foldlFst | refine State.Frame.ofPair ?_ (by assumption) | split | dsimp only)

theorem State.pollFailed_frame (h : s.Frame n o) (hn : Covers n 0x86784a) : ∀ x1, (State.pollFailed s x1).Frame n o := by
  intros
  unfold State.pollFailed
  with_reducible repeat' (first | intro _ | assumption | exact Covers.trans hn (by decide) | apply State.tempPoll_frame | apply State.modThm_frame | apply State.Frame.foldl | apply State.Frame.ite | (apply State.Frame.mk' <;> first | exact .inl (Covers.bit hn (by decide)) | exact .inr rfl | assumption | apply State.tempPoll_frame | apply State.modThm_frame | apply State.Frame.ite | apply State.Frame.foldl | refine State.Frame.ofPair ?_ (by assumption) | split) | apply State.Frame.foldlFst | refine State.Frame.ofPair ?_ (by assumption) | split | dsimp only)

theorem execCfghRx_frame (h : s.Frame n o) (hn : Covers n 0x86784a) : ∀ x0 x1 x2 x3 x4, Out.Frame n o (execCfghRx x0 x1 x2 x3 x4 s) := by
  intros
  unfold execCfghRx
  with_reducible repeat' (first | intro _ | assumption | exact Covers.trans hn (by decide) | apply State.stale_frame | apply State.pollFailed_frame | apply State.dropCfg_frame | apply State.modCfg_frame | apply State.Frame.foldl | apply Out.Frame.next | apply State.Frame.ite | (apply State.Frame.mk' <;> first | exact .inl (Covers.bit hn (by decide)) | exact .inr rfl | assumption | apply State.stale_frame | apply State.pollFailed_frame | apply State.dropCfg_frame | apply State.modCfg_frame | apply State.Frame.ite | apply State.Frame.foldl | refine State.Frame.ofPair ?_ (by assumption) | split) | apply State.Frame.foldlFst | refine State.Frame.ofPair ?_ (by assumption) | split | dsimp only)

theorem execCfgdRx_frame (h : s.Frame n o) (hn : Covers n 0x486784a) : ∀ x0 x1, Out.Frame n o (execCfgdRx x0 x1 s) := by
  intros
  unfold execCfgdRx
  with_reducible repeat' (first | intro _ | assumption | exact Covers.trans hn (by decide) | apply State.stale_frame | apply State.modCfg_frame | apply State.dropCfg_frame | apply State.coreBack_frame | apply State.tempPoll_frame | apply State.modThm_frame | apply State.witness_frame | apply State.Frame.foldl | apply Out.Frame.next | apply State.Frame.ite | (apply State.Frame.mk' <;> first | exact .inl (Covers.bit hn (by decide)) | exact .inr rfl | assumption | apply State.stale_frame | apply State.modCfg_frame | apply State.dropCfg_frame | apply State.coreBack_frame | apply State.tempPoll_frame | apply State.modThm_frame | apply State.witness_frame | apply State.Frame.ite | apply State.Frame.foldl | refine State.Frame.ofPair ?_ (by assumption) | split) | apply State.Frame.foldlFst | refine State.Frame.ofPair ?_ (by assumption) | split | dsimp only)

theorem execCdoneRx_frame (h : s.Frame n o) (hn : Covers n 0x83784a) : ∀ x0 x1 x2 x3 x4, Out.Frame n o (execCdoneRx x0 x1 x2 x3 x4 s) := by
  intros
  unfold execCdoneRx
  with_reducible repeat' (first | intro _ | assumption | exact Covers.trans hn (by decide) | apply State.stale_frame | apply State.launchCfg_frame | apply State.cfgDone_frame | apply State.dropCfg_frame | apply State.Frame.foldl | apply Out.Frame.next | apply State.Frame.ite | (apply State.Frame.mk' <;> first | exact .inl (Covers.bit hn (by decide)) | exact .inr rfl | assumption | apply State.stale_frame | apply State.launchCfg_frame | apply State.cfgDone_frame | apply State.dropCfg_frame | apply State.Frame.ite | apply State.Frame.foldl | refine State.Frame.ofPair ?_ (by assumption) | split) | apply State.Frame.foldlFst | refine State.Frame.ofPair ?_ (by assumption) | split | dsimp only)

theorem State.cfgMissed_frame (h : s.Frame n o) (hn : Covers n 0x87784a) : ∀ x1, (State.cfgMissed s x1).Frame n o := by
  intros
  unfold State.cfgMissed
  with_reducible repeat' (first | intro _ | assumption | exact Covers.trans hn (by decide) | apply State.pollFailed_frame | apply State.dropCfg_frame | apply State.launchCfg_frame | apply State.modCfg_frame | apply State.coreBack_frame | apply State.noLayer_frame | apply State.cfgDone_frame | apply State.Frame.foldl | apply State.Frame.ite | (apply State.Frame.mk' <;> first | exact .inl (Covers.bit hn (by decide)) | exact .inr rfl | assumption | apply State.pollFailed_frame | apply State.dropCfg_frame | apply State.launchCfg_frame | apply State.modCfg_frame | apply State.coreBack_frame | apply State.noLayer_frame | apply State.cfgDone_frame | apply State.Frame.ite | apply State.Frame.foldl | refine State.Frame.ofPair ?_ (by assumption) | split) | apply State.Frame.foldlFst | refine State.Frame.ofPair ?_ (by assumption) | split | dsimp only)

theorem execConfigResponseMissed_frame (h : s.Frame n o) (hn : Covers n 0x87784a) : ∀ x0, Out.Frame n o (execConfigResponseMissed x0 s) := by
  intros
  unfold execConfigResponseMissed
  with_reducible repeat' (first | intro _ | assumption | exact Covers.trans hn (by decide) | apply State.cfgMissed_frame | apply State.Frame.foldl | apply Out.Frame.next | apply State.Frame.ite | (apply State.Frame.mk' <;> first | exact .inl (Covers.bit hn (by decide)) | exact .inr rfl | assumption | apply State.cfgMissed_frame | apply State.Frame.ite | apply State.Frame.foldl | refine State.Frame.ofPair ?_ (by assumption) | split) | apply State.Frame.foldlFst | refine State.Frame.ofPair ?_ (by assumption) | split | dsimp only)

theorem execCerrRx_frame (h : s.Frame n o) (hn : Covers n 0x87784a) : ∀ x0 x1 x2 x3, Out.Frame n o (execCerrRx x0 x1 x2 x3 s) := by
  intros
  unfold execCerrRx
  with_reducible repeat' (first | intro _ | assumption | exact Covers.trans hn (by decide) | apply State.raise_frame | apply State.bump_frame | apply State.cfgMissed_frame | apply State.Frame.foldl | apply Out.Frame.next | apply State.Frame.ite | (apply State.Frame.mk' <;> first | exact .inl (Covers.bit hn (by decide)) | exact .inr rfl | assumption | apply State.raise_frame | apply State.bump_frame | apply State.cfgMissed_frame | apply State.Frame.ite | apply State.Frame.foldl | refine State.Frame.ofPair ?_ (by assumption) | split) | apply State.Frame.foldlFst | refine State.Frame.ofPair ?_ (by assumption) | split | dsimp only)

theorem State.alarmCause_frame (h : s.Frame n o) (hn : Covers n 0x83784a) : ∀ x1 x2 x3, (State.alarmCause s x1 x2 x3).Frame n o := by
  intros
  unfold State.alarmCause
  with_reducible repeat' (first | intro _ | assumption | exact Covers.trans hn (by decide) | apply State.bump_frame | apply State.hrepEnd_frame | apply State.upTo_frame | apply State.raise_frame | apply State.modRef_frame | apply State.Frame.foldl | apply State.Frame.ite | (apply State.Frame.mk' <;> first | exact .inl (Covers.bit hn (by decide)) | exact .inr rfl | assumption | apply State.bump_frame | apply State.hrepEnd_frame | apply State.upTo_frame | apply State.raise_frame | apply State.modRef_frame | apply State.Frame.ite | apply State.Frame.foldl | refine State.Frame.ofPair ?_ (by assumption) | split) | apply State.Frame.foldlFst | refine State.Frame.ofPair ?_ (by assumption) | split | dsimp only)

theorem execAlrmRx_frame (h : s.Frame n o) (hn : Covers n 0x83784a) : ∀ x0 x1 x2 x3 x4, Out.Frame n o (execAlrmRx x0 x1 x2 x3 x4 s) := by
  intros
  unfold execAlrmRx
  with_reducible repeat' (first | intro _ | assumption | exact Covers.trans hn (by decide) | apply State.launch_frame | apply State.setFld_frame | apply State.repeatRefresh_frame | apply State.raise_frame | apply State.bump_frame | apply State.alarmCause_frame | apply State.Frame.foldl | apply Out.Frame.next | apply State.Frame.ite | (apply State.Frame.mk' <;> first | exact .inl (Covers.bit hn (by decide)) | exact .inr rfl | assumption | apply State.launch_frame | apply State.setFld_frame | apply State.repeatRefresh_frame | apply State.raise_frame | apply State.bump_frame | apply State.alarmCause_frame | apply State.Frame.ite | apply State.Frame.foldl | refine State.Frame.ofPair ?_ (by assumption) | split) | apply State.Frame.foldlFst | refine State.Frame.ofPair ?_ (by assumption) | split | dsimp only)

end Sys2Proof.Machine
end

