-- ==== Sys2Proof/Laws/FrameI.lean ====
section
/-! SUPPORT. Which parts of State each operation leaves, of Nvm, SelfTest, Stores, Power. -/
namespace Sys2Proof.Machine

set_option linter.all false

variable {n : Nat} {o s : State}

/-! ### Nvm -/

theorem State.charge_frame (h : s.Frame n o) (hn : Covers n 0x82784a) : ∀ x1, (State.charge s x1).1.Frame n o := by
  intros
  unfold State.charge
  with_reducible repeat' (first | intro _ | assumption | exact Covers.trans hn (by decide) | apply State.setFld_frame | apply State.journal_frame | apply State.Frame.foldl | apply State.Frame.ite | (apply State.Frame.mk' <;> first | exact .inl (Covers.bit hn (by decide)) | exact .inr rfl | assumption | apply State.setFld_frame | apply State.journal_frame | apply State.Frame.ite | apply State.Frame.foldl | refine State.Frame.ofPair ?_ (by assumption) | split) | apply State.Frame.foldlFst | refine State.Frame.ofPair ?_ (by assumption) | split | dsimp only)

theorem State.noteDeferred_frame (h : s.Frame n o) (hn : Covers n 0x82784a) : (State.noteDeferred s).Frame n o := by
  unfold State.noteDeferred
  with_reducible repeat' (first | intro _ | assumption | exact Covers.trans hn (by decide) | apply State.raise_frame | apply State.bump_frame | apply State.Frame.foldl | apply State.Frame.ite | (apply State.Frame.mk' <;> first | exact .inl (Covers.bit hn (by decide)) | exact .inr rfl | assumption | apply State.raise_frame | apply State.bump_frame | apply State.Frame.ite | apply State.Frame.foldl | refine State.Frame.ofPair ?_ (by assumption) | split) | apply State.Frame.foldlFst | refine State.Frame.ofPair ?_ (by assumption) | split | dsimp only)

theorem State.nvmKick_frame (h : s.Frame n o) (hn : Covers n 0x82784a) : (State.nvmKick s).Frame n o := by
  unfold State.nvmKick
  with_reducible repeat' (first | intro _ | assumption | exact Covers.trans hn (by decide) | apply State.noteDeferred_frame | apply State.charge_frame | apply State.Frame.foldl | apply State.Frame.ite | (apply State.Frame.mk' <;> first | exact .inl (Covers.bit hn (by decide)) | exact .inr rfl | assumption | apply State.noteDeferred_frame | apply State.charge_frame | apply State.Frame.ite | apply State.Frame.foldl | refine State.Frame.ofPair ?_ (by assumption) | split) | apply State.Frame.foldlFst | refine State.Frame.ofPair ?_ (by assumption) | split | dsimp only)

theorem State.nvmAdd_frame (h : s.Frame n o) (hn : Covers n 0x82784a) : ∀ x1, (State.nvmAdd s x1).Frame n o := by
  intros
  unfold State.nvmAdd
  with_reducible repeat' (first | intro _ | assumption | exact Covers.trans hn (by decide) | apply State.nvmKick_frame | apply State.Frame.foldl | apply State.Frame.ite | (apply State.Frame.mk' <;> first | exact .inl (Covers.bit hn (by decide)) | exact .inr rfl | assumption | apply State.nvmKick_frame | apply State.Frame.ite | apply State.Frame.foldl | refine State.Frame.ofPair ?_ (by assumption) | split) | apply State.Frame.foldlFst | refine State.Frame.ofPair ?_ (by assumption) | split | dsimp only)

theorem State.commitRep_frame (h : s.Frame n o) (hn : Covers n 0x82784a) : (State.commitRep s).Frame n o := by
  unfold State.commitRep
  with_reducible repeat' (first | intro _ | assumption | exact Covers.trans hn (by decide) | apply State.raise_frame | apply State.nvmAdd_frame | apply State.Frame.foldl | apply State.Frame.ite | (apply State.Frame.mk' <;> first | exact .inl (Covers.bit hn (by decide)) | exact .inr rfl | assumption | apply State.raise_frame | apply State.nvmAdd_frame | apply State.Frame.ite | apply State.Frame.foldl | refine State.Frame.ofPair ?_ (by assumption) | split) | apply State.Frame.foldlFst | refine State.Frame.ofPair ?_ (by assumption) | split | dsimp only)

theorem State.commitCal_frame (h : s.Frame n o) (hn : Covers n 0x82784a) : (State.commitCal s).Frame n o := by
  unfold State.commitCal
  with_reducible repeat' (first | intro _ | assumption | exact Covers.trans hn (by decide) | apply State.nvmAdd_frame | apply State.Frame.foldl | apply State.Frame.ite | (apply State.Frame.mk' <;> first | exact .inl (Covers.bit hn (by decide)) | exact .inr rfl | assumption | apply State.nvmAdd_frame | apply State.Frame.ite | apply State.Frame.foldl | refine State.Frame.ofPair ?_ (by assumption) | split) | apply State.Frame.foldlFst | refine State.Frame.ofPair ?_ (by assumption) | split | dsimp only)

theorem State.repCommitted_frame (h : s.Frame n o) (hn : Covers n 0x83784a) : ∀ x1, (State.repCommitted s x1).Frame n o := by
  intros
  unfold State.repCommitted
  with_reducible repeat' (first | intro _ | assumption | exact Covers.trans hn (by decide) | apply State.setFld_frame | apply State.bump_frame | apply State.journalDelta_frame | apply State.journal_frame | apply State.Frame.foldl | apply State.Frame.ite | (apply State.Frame.mk' <;> first | exact .inl (Covers.bit hn (by decide)) | exact .inr rfl | assumption | apply State.setFld_frame | apply State.bump_frame | apply State.journalDelta_frame | apply State.journal_frame | apply State.Frame.ite | apply State.Frame.foldl | refine State.Frame.ofPair ?_ (by assumption) | split) | apply State.Frame.foldlFst | refine State.Frame.ofPair ?_ (by assumption) | split | dsimp only)

theorem State.calCommitted_frame (h : s.Frame n o) (hn : Covers n 0x82784a) : ∀ x1, (State.calCommitted s x1).Frame n o := by
  intros
  unfold State.calCommitted
  with_reducible repeat' (first | intro _ | assumption | exact Covers.trans hn (by decide) | apply State.setFld_frame | apply State.journal_frame | apply State.Frame.foldl | apply State.Frame.ite | (apply State.Frame.mk' <;> first | exact .inl (Covers.bit hn (by decide)) | exact .inr rfl | assumption | apply State.setFld_frame | apply State.journal_frame | apply State.Frame.ite | apply State.Frame.foldl | refine State.Frame.ofPair ?_ (by assumption) | split) | apply State.Frame.foldlFst | refine State.Frame.ofPair ?_ (by assumption) | split | dsimp only)

theorem State.showSeal_frame (h : s.Frame n o) (hn : Covers n 0x2) : ∀ x1, (State.showSeal s x1).Frame n o := by
  intros
  unfold State.showSeal
  with_reducible repeat' (first | intro _ | assumption | exact Covers.trans hn (by decide) | apply State.setFld_frame | apply State.Frame.foldl | apply State.Frame.ite | (apply State.Frame.mk' <;> first | exact .inl (Covers.bit hn (by decide)) | exact .inr rfl | assumption | apply State.setFld_frame | apply State.Frame.ite | apply State.Frame.foldl | refine State.Frame.ofPair ?_ (by assumption) | split) | apply State.Frame.foldlFst | refine State.Frame.ofPair ?_ (by assumption) | split | dsimp only)

theorem State.writeSeal_frame (h : s.Frame n o) (hn : Covers n 0x82784a) : ∀ x1, (State.writeSeal s x1).Frame n o := by
  intros
  unfold State.writeSeal
  with_reducible repeat' (first | intro _ | assumption | exact Covers.trans hn (by decide) | apply State.nvmAdd_frame | apply State.Frame.foldl | apply State.Frame.ite | (apply State.Frame.mk' <;> first | exact .inl (Covers.bit hn (by decide)) | exact .inr rfl | assumption | apply State.nvmAdd_frame | apply State.Frame.ite | apply State.Frame.foldl | refine State.Frame.ofPair ?_ (by assumption) | split) | apply State.Frame.foldlFst | refine State.Frame.ofPair ?_ (by assumption) | split | dsimp only)

theorem State.abortTest_frame (h : s.Frame n o) (hn : Covers n 0x82784a) : ∀ x1, (State.abortTest s x1).Frame n o := by
  intros
  unfold State.abortTest
  with_reducible repeat' (first | intro _ | assumption | exact Covers.trans hn (by decide) | apply State.setFld_frame | apply State.raise_frame | apply State.bump_frame | apply State.eachChan_frame | apply State.setTest_frame | apply State.stopMarch_frame | apply State.writeSeal_frame | apply State.Frame.foldl | apply State.Frame.ite | (apply State.Frame.mk' <;> first | exact .inl (Covers.bit hn (by decide)) | exact .inr rfl | assumption | apply State.setFld_frame | apply State.raise_frame | apply State.bump_frame | apply State.eachChan_frame | apply State.setTest_frame | apply State.stopMarch_frame | apply State.writeSeal_frame | apply State.Frame.ite | apply State.Frame.foldl | refine State.Frame.ofPair ?_ (by assumption) | split) | apply State.Frame.foldlFst | refine State.Frame.ofPair ?_ (by assumption) | split | dsimp only)

theorem State.sealWritten_frame (h : s.Frame n o) (hn : Covers n 0x828002) : ∀ x1, (State.sealWritten s x1).Frame n o := by
  intros
  unfold State.sealWritten
  with_reducible repeat' (first | intro _ | assumption | exact Covers.trans hn (by decide) | apply State.showSeal_frame | apply State.setFld_frame | apply State.Frame.foldl | apply State.Frame.ite | (apply State.Frame.mk' <;> first | exact .inl (Covers.bit hn (by decide)) | exact .inr rfl | assumption | apply State.showSeal_frame | apply State.setFld_frame | apply State.Frame.ite | apply State.Frame.foldl | refine State.Frame.ofPair ?_ (by assumption) | split) | apply State.Frame.foldlFst | refine State.Frame.ofPair ?_ (by assumption) | split | dsimp only)

theorem State.sealFailed_frame (h : s.Frame n o) (hn : Covers n 0x82784a) : ∀ x1, (State.sealFailed s x1).Frame n o := by
  intros
  unfold State.sealFailed
  with_reducible repeat' (first | intro _ | assumption | exact Covers.trans hn (by decide) | apply State.abortTest_frame | apply State.raise_frame | apply State.setFld_frame | apply State.Frame.foldl | apply State.Frame.ite | (apply State.Frame.mk' <;> first | exact .inl (Covers.bit hn (by decide)) | exact .inr rfl | assumption | apply State.abortTest_frame | apply State.raise_frame | apply State.setFld_frame | apply State.Frame.ite | apply State.Frame.foldl | refine State.Frame.ofPair ?_ (by assumption) | split) | apply State.Frame.foldlFst | refine State.Frame.ofPair ?_ (by assumption) | split | dsimp only)

theorem State.nvmDone_frame (h : s.Frame n o) (hn : Covers n 0x83f84a) : ∀ x1 x2, (State.nvmDone s x1 x2).Frame n o := by
  intros
  unfold State.nvmDone
  with_reducible repeat' (first | intro _ | assumption | exact Covers.trans hn (by decide) | apply State.sealWritten_frame | apply State.setFld_frame | apply State.bump_frame | apply State.commitRep_frame | apply State.repCommitted_frame | apply State.calCommitted_frame | apply State.upTo_frame | apply State.Frame.foldl | apply State.Frame.ite | (apply State.Frame.mk' <;> first | exact .inl (Covers.bit hn (by decide)) | exact .inr rfl | assumption | apply State.sealWritten_frame | apply State.setFld_frame | apply State.bump_frame | apply State.commitRep_frame | apply State.repCommitted_frame | apply State.calCommitted_frame | apply State.upTo_frame | apply State.Frame.ite | apply State.Frame.foldl | refine State.Frame.ofPair ?_ (by assumption) | split) | apply State.Frame.foldlFst | refine State.Frame.ofPair ?_ (by assumption) | split | dsimp only)

theorem State.nvmFailed_frame (h : s.Frame n o) (hn : Covers n 0x83784a) : ∀ x1, (State.nvmFailed s x1).Frame n o := by
  intros
  unfold State.nvmFailed
  with_reducible repeat' (first | intro _ | assumption | exact Covers.trans hn (by decide) | apply State.sealFailed_frame | apply State.setFld_frame | apply State.journalDelta_frame | apply State.raise_frame | apply State.Frame.foldl | apply State.Frame.ite | (apply State.Frame.mk' <;> first | exact .inl (Covers.bit hn (by decide)) | exact .inr rfl | assumption | apply State.sealFailed_frame | apply State.setFld_frame | apply State.journalDelta_frame | apply State.raise_frame | apply State.Frame.ite | apply State.Frame.foldl | refine State.Frame.ofPair ?_ (by assumption) | split) | apply State.Frame.foldlFst | refine State.Frame.ofPair ?_ (by assumption) | split | dsimp only)

theorem execNvmStepComplete_frame (h : s.Frame n o) (hn : Covers n 0x83f84a) : ∀ x0, Out.Frame n o (execNvmStepComplete x0 s) := by
  intros
  unfold execNvmStepComplete
  with_reducible repeat' (first | intro _ | assumption | exact Covers.trans hn (by decide) | apply State.bump_frame | apply State.nvmKick_frame | apply State.raise_frame | apply State.nvmFailed_frame | apply State.nvmDone_frame | apply State.Frame.foldl | apply Out.Frame.next | apply State.Frame.ite | (apply State.Frame.mk' <;> first | exact .inl (Covers.bit hn (by decide)) | exact .inr rfl | assumption | apply State.bump_frame | apply State.nvmKick_frame | apply State.raise_frame | apply State.nvmFailed_frame | apply State.nvmDone_frame | apply State.Frame.ite | apply State.Frame.foldl | refine State.Frame.ofPair ?_ (by assumption) | split) | apply State.Frame.foldlFst | refine State.Frame.ofPair ?_ (by assumption) | split | dsimp only)

theorem execWearCreditAccrual_frame (h : s.Frame n o) (hn : Covers n 0x82784a) : Out.Frame n o (execWearCreditAccrual s) := by
  unfold execWearCreditAccrual
  with_reducible repeat' (first | intro _ | assumption | exact Covers.trans hn (by decide) | apply State.upTo_frame | apply State.setFld_frame | apply State.nvmKick_frame | apply State.Frame.foldl | apply Out.Frame.next | apply State.Frame.ite | (apply State.Frame.mk' <;> first | exact .inl (Covers.bit hn (by decide)) | exact .inr rfl | assumption | apply State.upTo_frame | apply State.setFld_frame | apply State.nvmKick_frame | apply State.Frame.ite | apply State.Frame.foldl | refine State.Frame.ofPair ?_ (by assumption) | split) | apply State.Frame.foldlFst | refine State.Frame.ofPair ?_ (by assumption) | split | dsimp only)

theorem execCalPeriodExpiry_frame (h : s.Frame n o) (hn : Covers n 0x82784a) : Out.Frame n o (execCalPeriodExpiry s) := by
  unfold execCalPeriodExpiry
  with_reducible repeat' (first | intro _ | assumption | exact Covers.trans hn (by decide) | apply State.commitCal_frame | apply State.Frame.foldl | apply Out.Frame.next | apply State.Frame.ite | (apply State.Frame.mk' <;> first | exact .inl (Covers.bit hn (by decide)) | exact .inr rfl | assumption | apply State.commitCal_frame | apply State.Frame.ite | apply State.Frame.foldl | refine State.Frame.ofPair ?_ (by assumption) | split) | apply State.Frame.foldlFst | refine State.Frame.ofPair ?_ (by assumption) | split | dsimp only)

theorem execRepCommitDelayExpiry_frame (h : s.Frame n o) (hn : Covers n 0x82784a) : Out.Frame n o (execRepCommitDelayExpiry s) := by
  unfold execRepCommitDelayExpiry
  with_reducible repeat' (first | intro _ | assumption | exact Covers.trans hn (by decide) | apply State.commitRep_frame | apply State.Frame.foldl | apply Out.Frame.next | apply State.Frame.ite | (apply State.Frame.mk' <;> first | exact .inl (Covers.bit hn (by decide)) | exact .inr rfl | assumption | apply State.commitRep_frame | apply State.Frame.ite | apply State.Frame.foldl | refine State.Frame.ofPair ?_ (by assumption) | split) | apply State.Frame.foldlFst | refine State.Frame.ofPair ?_ (by assumption) | split | dsimp only)

theorem execSealAgeMark_frame (h : s.Frame n o) (hn : Covers n 0x82784a) : Out.Frame n o (execSealAgeMark s) := by
  unfold execSealAgeMark
  with_reducible repeat' (first | intro _ | assumption | exact Covers.trans hn (by decide) | apply State.nvmKick_frame | apply State.journal_frame | apply State.Frame.foldl | apply Out.Frame.next | apply State.Frame.ite | (apply State.Frame.mk' <;> first | exact .inl (Covers.bit hn (by decide)) | exact .inr rfl | assumption | apply State.nvmKick_frame | apply State.journal_frame | apply State.Frame.ite | apply State.Frame.foldl | refine State.Frame.ofPair ?_ (by assumption) | split) | apply State.Frame.foldlFst | refine State.Frame.ofPair ?_ (by assumption) | split | dsimp only)

theorem State.replaceMapRow_frame (h : s.Frame n o) (hn : Covers n 0x82f84a) : ∀ x1, (State.replaceMapRow s x1).Frame n o := by
  intros
  unfold State.replaceMapRow
  with_reducible repeat' (first | intro _ | assumption | exact Covers.trans hn (by decide) | apply State.raise_frame | apply State.setFld_frame | apply State.bump_frame | apply State.Frame.foldl | apply State.Frame.ite | (apply State.Frame.mk' <;> first | exact .inl (Covers.bit hn (by decide)) | exact .inr rfl | assumption | apply State.raise_frame | apply State.setFld_frame | apply State.bump_frame | apply State.Frame.ite | apply State.Frame.foldl | refine State.Frame.ofPair ?_ (by assumption) | split) | apply State.Frame.foldlFst | refine State.Frame.ofPair ?_ (by assumption) | split | dsimp only)

theorem execVmapRowReplace_frame (h : s.Frame n o) (hn : Covers n 0x82f84a) : ∀ x0 x1, Out.Frame n o (execVmapRowReplace x0 x1 s) := by
  intros
  unfold execVmapRowReplace
  with_reducible repeat' (first | intro _ | assumption | exact Covers.trans hn (by decide) | apply State.upTo_frame | apply State.setVByte_frame | apply State.replaceMapRow_frame | apply State.raise_frame | apply State.Frame.foldl | apply Out.Frame.next | apply State.Frame.ite | (apply State.Frame.mk' <;> first | exact .inl (Covers.bit hn (by decide)) | exact .inr rfl | assumption | apply State.upTo_frame | apply State.setVByte_frame | apply State.replaceMapRow_frame | apply State.raise_frame | apply State.Frame.ite | apply State.Frame.foldl | refine State.Frame.ofPair ?_ (by assumption) | split) | apply State.Frame.foldlFst | refine State.Frame.ofPair ?_ (by assumption) | split | dsimp only)

theorem execVmapSweepDone_frame (h : s.Frame n o) (hn : Covers n 0x2) : Out.Frame n o (execVmapSweepDone s) := by
  unfold execVmapSweepDone
  with_reducible repeat' (first | intro _ | assumption | exact Covers.trans hn (by decide) | apply State.setFld_frame | apply State.Frame.foldl | apply Out.Frame.next | apply State.Frame.ite | (apply State.Frame.mk' <;> first | exact .inl (Covers.bit hn (by decide)) | exact .inr rfl | assumption | apply State.setFld_frame | apply State.Frame.ite | apply State.Frame.foldl | refine State.Frame.ofPair ?_ (by assumption) | split) | apply State.Frame.foldlFst | refine State.Frame.ofPair ?_ (by assumption) | split | dsimp only)

/-! ### SelfTest -/

theorem State.startTest_frame (h : s.Frame n o) (hn : Covers n 0x82784a) : ∀ x1 x2 x3, (State.startTest s x1 x2 x3).Frame n o := by
  intros
  unfold State.startTest
  with_reducible repeat' (first | intro _ | assumption | exact Covers.trans hn (by decide) | apply State.bump_frame | apply State.setFld_frame | apply State.endChTest_frame | apply State.abortTest_frame | apply State.writeSeal_frame | apply State.setTest_frame | apply State.Frame.foldl | apply State.Frame.ite | (apply State.Frame.mk' <;> first | exact .inl (Covers.bit hn (by decide)) | exact .inr rfl | assumption | apply State.bump_frame | apply State.setFld_frame | apply State.endChTest_frame | apply State.abortTest_frame | apply State.writeSeal_frame | apply State.setTest_frame | apply State.Frame.ite | apply State.Frame.foldl | refine State.Frame.ofPair ?_ (by assumption) | split) | apply State.Frame.foldlFst | refine State.Frame.ofPair ?_ (by assumption) | split | dsimp only)

theorem State.loopFail_frame (h : s.Frame n o) (hn : Covers n 0x83784a) : ∀ x1 x2, (State.loopFail s x1 x2).Frame n o := by
  intros
  unfold State.loopFail
  with_reducible repeat' (first | intro _ | assumption | exact Covers.trans hn (by decide) | apply State.raise_frame | apply State.bump_frame | apply State.spareNow_frame | apply State.Frame.foldl | apply State.Frame.ite | (apply State.Frame.mk' <;> first | exact .inl (Covers.bit hn (by decide)) | exact .inr rfl | assumption | apply State.raise_frame | apply State.bump_frame | apply State.spareNow_frame | apply State.Frame.ite | apply State.Frame.foldl | refine State.Frame.ofPair ?_ (by assumption) | split) | apply State.Frame.foldlFst | refine State.Frame.ofPair ?_ (by assumption) | split | dsimp only)

theorem State.engineBad_frame (h : s.Frame n o) (hn : Covers n 0x83784a) : ∀ x1, (State.engineBad s x1).Frame n o := by
  intros
  unfold State.engineBad
  with_reducible repeat' (first | intro _ | assumption | exact Covers.trans hn (by decide) | apply State.dropEngine_frame | apply State.repSet_frame | apply State.setFld_frame | apply State.Frame.foldl | apply State.Frame.ite | (apply State.Frame.mk' <;> first | exact .inl (Covers.bit hn (by decide)) | exact .inr rfl | assumption | apply State.dropEngine_frame | apply State.repSet_frame | apply State.setFld_frame | apply State.Frame.ite | apply State.Frame.foldl | refine State.Frame.ofPair ?_ (by assumption) | split) | apply State.Frame.foldlFst | refine State.Frame.ofPair ?_ (by assumption) | split | dsimp only)

theorem State.logicFail_frame (h : s.Frame n o) (hn : Covers n 0x83784a) : ∀ x1, (State.logicFail s x1).Frame n o := by
  intros
  unfold State.logicFail
  with_reducible repeat' (first | intro _ | assumption | exact Covers.trans hn (by decide) | apply State.raise_frame | apply State.bump_frame | apply State.engineBad_frame | apply State.Frame.foldl | apply State.Frame.ite | (apply State.Frame.mk' <;> first | exact .inl (Covers.bit hn (by decide)) | exact .inr rfl | assumption | apply State.raise_frame | apply State.bump_frame | apply State.engineBad_frame | apply State.Frame.ite | apply State.Frame.foldl | refine State.Frame.ofPair ?_ (by assumption) | split) | apply State.Frame.foldlFst | refine State.Frame.ofPair ?_ (by assumption) | split | dsimp only)

theorem State.beginMarch_frame (h : s.Frame n o) (hn : Covers n 0x802) : (State.beginMarch s).Frame n o := by
  unfold State.beginMarch
  with_reducible repeat' (first | intro _ | assumption | exact Covers.trans hn (by decide) | apply State.startMarch_frame | apply State.setDomain_frame | apply State.sendSrx_frame | apply State.modRef_frame | apply State.Frame.foldl | apply State.Frame.ite | (apply State.Frame.mk' <;> first | exact .inl (Covers.bit hn (by decide)) | exact .inr rfl | assumption | apply State.startMarch_frame | apply State.setDomain_frame | apply State.sendSrx_frame | apply State.modRef_frame | apply State.Frame.ite | apply State.Frame.foldl | refine State.Frame.ofPair ?_ (by assumption) | split) | apply State.Frame.foldlFst | refine State.Frame.ofPair ?_ (by assumption) | split | dsimp only)

theorem State.powerEngines_frame (h : s.Frame n o) (hn : Covers n 0x2) : ∀ x1, (State.powerEngines s x1).Frame n o := by
  intros
  unfold State.powerEngines
  with_reducible repeat' (first | intro _ | assumption | exact Covers.trans hn (by decide) | apply State.upTo_frame | apply State.setDomain_frame | apply State.Frame.foldl | apply State.Frame.ite | (apply State.Frame.mk' <;> first | exact .inl (Covers.bit hn (by decide)) | exact .inr rfl | assumption | apply State.upTo_frame | apply State.setDomain_frame | apply State.Frame.ite | apply State.Frame.foldl | refine State.Frame.ofPair ?_ (by assumption) | split) | apply State.Frame.foldlFst | refine State.Frame.ofPair ?_ (by assumption) | split | dsimp only)

theorem State.logicEnd_frame (h : s.Frame n o) (hn : Covers n 0x83f84a) : ∀ x1, (State.logicEnd s x1).Frame n o := by
  intros
  unfold State.logicEnd
  with_reducible repeat' (first | intro _ | assumption | exact Covers.trans hn (by decide) | apply State.powerEngines_frame | apply State.setFld_frame | apply State.addSteps_frame | apply State.upTo_frame | apply State.logicFail_frame | apply State.Frame.foldl | apply State.Frame.ite | (apply State.Frame.mk' <;> first | exact .inl (Covers.bit hn (by decide)) | exact .inr rfl | assumption | apply State.powerEngines_frame | apply State.setFld_frame | apply State.addSteps_frame | apply State.upTo_frame | apply State.logicFail_frame | apply State.Frame.ite | apply State.Frame.foldl | refine State.Frame.ofPair ?_ (by assumption) | split) | apply State.Frame.foldlFst | refine State.Frame.ofPair ?_ (by assumption) | split | dsimp only)

theorem execBstPartComplete_frame (h : s.Frame n o) (hn : Covers n 0x83f84a) : ∀ x0, Out.Frame n o (execBstPartComplete x0 s) := by
  intros
  unfold execBstPartComplete
  with_reducible repeat' (first | intro _ | assumption | exact Covers.trans hn (by decide) | apply State.setFld_frame | apply State.loopFail_frame | apply State.addSteps_frame | apply State.abortTest_frame | apply State.beginMarch_frame | apply State.powerEngines_frame | apply State.commitRep_frame | apply State.logicEnd_frame | apply State.writeSeal_frame | apply State.setTest_frame | apply State.Frame.foldl | apply Out.Frame.next | apply State.Frame.ite | (apply State.Frame.mk' <;> first | exact .inl (Covers.bit hn (by decide)) | exact .inr rfl | assumption | apply State.setFld_frame | apply State.loopFail_frame | apply State.addSteps_frame | apply State.abortTest_frame | apply State.beginMarch_frame | apply State.powerEngines_frame | apply State.commitRep_frame | apply State.logicEnd_frame | apply State.writeSeal_frame | apply State.setTest_frame | apply State.Frame.ite | apply State.Frame.foldl | refine State.Frame.ofPair ?_ (by assumption) | split) | apply State.Frame.foldlFst | refine State.Frame.ofPair ?_ (by assumption) | split | dsimp only)

theorem State.checkReach_frame (h : s.Frame n o) (hn : Covers n 0x82784a) : (State.checkReach s).Frame n o := by
  unfold State.checkReach
  with_reducible repeat' (first | intro _ | assumption | exact Covers.trans hn (by decide) | apply State.abortTest_frame | apply State.Frame.foldl | apply State.Frame.ite | (apply State.Frame.mk' <;> first | exact .inl (Covers.bit hn (by decide)) | exact .inr rfl | assumption | apply State.abortTest_frame | apply State.Frame.ite | apply State.Frame.foldl | refine State.Frame.ofPair ?_ (by assumption) | split) | apply State.Frame.foldlFst | refine State.Frame.ofPair ?_ (by assumption) | split | dsimp only)

theorem execVtrainPhaseComplete_frame (h : s.Frame n o) (hn : Covers n 0x483784e) : ∀ x0, Out.Frame n o (execVtrainPhaseComplete x0 s) := by
  intros
  unfold execVtrainPhaseComplete
  with_reducible repeat' (first | intro _ | assumption | exact Covers.trans hn (by decide) | apply State.checkReach_frame | apply State.endPhase_frame | apply State.Frame.foldl | apply Out.Frame.next | apply State.Frame.ite | (apply State.Frame.mk' <;> first | exact .inl (Covers.bit hn (by decide)) | exact .inr rfl | assumption | apply State.checkReach_frame | apply State.endPhase_frame | apply State.Frame.ite | apply State.Frame.foldl | refine State.Frame.ofPair ?_ (by assumption) | split) | apply State.Frame.foldlFst | refine State.Frame.ofPair ?_ (by assumption) | split | dsimp only)

theorem execStartupTestRetry_frame (h : s.Frame n o) (hn : Covers n 0x82784a) : ∀ x0 x1, Out.Frame n o (execStartupTestRetry x0 x1 s) := by
  intros
  unfold execStartupTestRetry
  with_reducible repeat' (first | intro _ | assumption | exact Covers.trans hn (by decide) | apply State.startTest_frame | apply State.Frame.foldl | apply Out.Frame.next | apply State.Frame.ite | (apply State.Frame.mk' <;> first | exact .inl (Covers.bit hn (by decide)) | exact .inr rfl | assumption | apply State.startTest_frame | apply State.Frame.ite | apply State.Frame.foldl | refine State.Frame.ofPair ?_ (by assumption) | split) | apply State.Frame.foldlFst | refine State.Frame.ofPair ?_ (by assumption) | split | dsimp only)

theorem State.startChTest_frame (h : s.Frame n o) (hn : Covers n 0x20802) : ∀ x1, (State.startChTest s x1).Frame n o := by
  intros
  unfold State.startChTest
  with_reducible repeat' (first | intro _ | assumption | exact Covers.trans hn (by decide) | apply State.setFld_frame | apply State.setTest_frame | apply State.bump_frame | apply State.Frame.foldl | apply State.Frame.ite | (apply State.Frame.mk' <;> first | exact .inl (Covers.bit hn (by decide)) | exact .inr rfl | assumption | apply State.setFld_frame | apply State.setTest_frame | apply State.bump_frame | apply State.Frame.ite | apply State.Frame.foldl | refine State.Frame.ofPair ?_ (by assumption) | split) | apply State.Frame.foldlFst | refine State.Frame.ofPair ?_ (by assumption) | split | dsimp only)

theorem State.stopChTest_frame (h : s.Frame n o) (hn : Covers n 0x20802) : ∀ x1, (State.stopChTest s x1).Frame n o := by
  intros
  unfold State.stopChTest
  with_reducible repeat' (first | intro _ | assumption | exact Covers.trans hn (by decide) | apply State.endChTest_frame | apply State.Frame.foldl | apply State.Frame.ite | (apply State.Frame.mk' <;> first | exact .inl (Covers.bit hn (by decide)) | exact .inr rfl | assumption | apply State.endChTest_frame | apply State.Frame.ite | apply State.Frame.foldl | refine State.Frame.ofPair ?_ (by assumption) | split) | apply State.Frame.foldlFst | refine State.Frame.ofPair ?_ (by assumption) | split | dsimp only)

theorem State.abortChTest_frame (h : s.Frame n o) (hn : Covers n 0x82784a) : ∀ x1, (State.abortChTest s x1).Frame n o := by
  intros
  unfold State.abortChTest
  with_reducible repeat' (first | intro _ | assumption | exact Covers.trans hn (by decide) | apply State.raise_frame | apply State.bump_frame | apply State.setFld_frame | apply State.stopChTest_frame | apply State.Frame.foldl | apply State.Frame.ite | (apply State.Frame.mk' <;> first | exact .inl (Covers.bit hn (by decide)) | exact .inr rfl | assumption | apply State.raise_frame | apply State.bump_frame | apply State.setFld_frame | apply State.stopChTest_frame | apply State.Frame.ite | apply State.Frame.foldl | refine State.Frame.ofPair ?_ (by assumption) | split) | apply State.Frame.foldlFst | refine State.Frame.ofPair ?_ (by assumption) | split | dsimp only)

/-! ### Stores -/

theorem State.loadSeal_frame (h : s.Frame n o) (hn : Covers n 0x820002) : ∀ x1, (State.loadSeal s x1).Frame n o := by
  intros
  unfold State.loadSeal
  with_reducible repeat' (first | intro _ | assumption | exact Covers.trans hn (by decide) | apply State.setFld_frame | apply State.showSeal_frame | apply State.Frame.foldl | apply State.Frame.ite | (apply State.Frame.mk' <;> first | exact .inl (Covers.bit hn (by decide)) | exact .inr rfl | assumption | apply State.setFld_frame | apply State.showSeal_frame | apply State.Frame.ite | apply State.Frame.foldl | refine State.Frame.ofPair ?_ (by assumption) | split) | apply State.Frame.foldlFst | refine State.Frame.ofPair ?_ (by assumption) | split | dsimp only)

theorem State.loadCal_frame (h : s.Frame n o) (hn : Covers n 0xa00002) : ∀ x1, (State.loadCal s x1).Frame n o := by
  intros
  unfold State.loadCal
  with_reducible repeat' (first | intro _ | assumption | exact Covers.trans hn (by decide) | apply State.setFlag_frame | apply State.setFld_frame | apply State.Frame.foldl | apply State.Frame.ite | (apply State.Frame.mk' <;> first | exact .inl (Covers.bit hn (by decide)) | exact .inr rfl | assumption | apply State.setFlag_frame | apply State.setFld_frame | apply State.Frame.ite | apply State.Frame.foldl | refine State.Frame.ofPair ?_ (by assumption) | split) | apply State.Frame.foldlFst | refine State.Frame.ofPair ?_ (by assumption) | split | dsimp only)

theorem State.loadSlots_frame (h : s.Frame n o) (hn : Covers n 0x800002) : ∀ x1, (State.loadSlots s x1).Frame n o := by
  intros
  unfold State.loadSlots
  with_reducible repeat' (first | intro _ | assumption | exact Covers.trans hn (by decide) | apply State.setFld_frame | apply State.setFlag_frame | apply State.Frame.foldl | apply State.Frame.ite | (apply State.Frame.mk' <;> first | exact .inl (Covers.bit hn (by decide)) | exact .inr rfl | assumption | apply State.setFld_frame | apply State.setFlag_frame | apply State.Frame.ite | apply State.Frame.foldl | refine State.Frame.ofPair ?_ (by assumption) | split) | apply State.Frame.foldlFst | refine State.Frame.ofPair ?_ (by assumption) | split | dsimp only)

theorem State.loadHold_frame (h : s.Frame n o) (hn : Covers n 0x2) : ∀ x1 x2, (State.loadHold s x1 x2).Frame n o := by
  intros
  unfold State.loadHold
  with_reducible repeat' (first | intro _ | assumption | exact Covers.trans hn (by decide) | apply State.setFld_frame | apply State.setFlag_frame | apply State.Frame.foldl | apply State.Frame.ite | (apply State.Frame.mk' <;> first | exact .inl (Covers.bit hn (by decide)) | exact .inr rfl | assumption | apply State.setFld_frame | apply State.setFlag_frame | apply State.Frame.ite | apply State.Frame.foldl | refine State.Frame.ofPair ?_ (by assumption) | split) | apply State.Frame.foldlFst | refine State.Frame.ofPair ?_ (by assumption) | split | dsimp only)

theorem State.repCopies_frame (h : s.Frame n o) (hn : Covers n 0x800002) : ∀ x1, (State.repCopies s x1).1.Frame n o := by
  intros
  unfold State.repCopies
  with_reducible repeat' (first | intro _ | assumption | exact Covers.trans hn (by decide) | apply State.setFlag_frame | apply State.Frame.foldl | apply State.Frame.ite | (apply State.Frame.mk' <;> first | exact .inl (Covers.bit hn (by decide)) | exact .inr rfl | assumption | apply State.setFlag_frame | apply State.Frame.ite | apply State.Frame.foldl | refine State.Frame.ofPair ?_ (by assumption) | split) | apply State.Frame.foldlFst | refine State.Frame.ofPair ?_ (by assumption) | split | dsimp only)

theorem State.loadRep_frame (h : s.Frame n o) (hn : Covers n 0x83784a) : ∀ x1 x2 x3, (State.loadRep s x1 x2 x3).Frame n o := by
  intros
  unfold State.loadRep
  with_reducible repeat' (first | intro _ | assumption | exact Covers.trans hn (by decide) | apply State.setFld_frame | apply State.raise_frame | apply State.Frame.foldl | apply State.Frame.ite | (apply State.Frame.mk' <;> first | exact .inl (Covers.bit hn (by decide)) | exact .inr rfl | assumption | apply State.setFld_frame | apply State.raise_frame | apply State.Frame.ite | apply State.Frame.foldl | refine State.Frame.ofPair ?_ (by assumption) | split) | apply State.Frame.foldlFst | refine State.Frame.ofPair ?_ (by assumption) | split | dsimp only)

theorem State.loadJrn_frame (h : s.Frame n o) (hn : Covers n 0x800002) : ∀ x1, (State.loadJrn s x1).Frame n o := by
  intros
  unfold State.loadJrn
  with_reducible repeat' (first | intro _ | assumption | exact Covers.trans hn (by decide) | apply State.setFld_frame | apply State.Frame.foldl | apply State.Frame.ite | (apply State.Frame.mk' <;> first | exact .inl (Covers.bit hn (by decide)) | exact .inr rfl | assumption | apply State.setFld_frame | apply State.Frame.ite | apply State.Frame.foldl | refine State.Frame.ofPair ?_ (by assumption) | split) | apply State.Frame.foldlFst | refine State.Frame.ofPair ?_ (by assumption) | split | dsimp only)

theorem State.loadAge_frame (h : s.Frame n o) (hn : Covers n 0x2) : ∀ x1, (State.loadAge s x1).Frame n o := by
  intros
  unfold State.loadAge
  with_reducible repeat' (first | intro _ | assumption | exact Covers.trans hn (by decide) | apply State.setFld_frame | apply State.Frame.foldl | apply State.Frame.ite | (apply State.Frame.mk' <;> first | exact .inl (Covers.bit hn (by decide)) | exact .inr rfl | assumption | apply State.setFld_frame | apply State.Frame.ite | apply State.Frame.foldl | refine State.Frame.ofPair ?_ (by assumption) | split) | apply State.Frame.foldlFst | refine State.Frame.ofPair ?_ (by assumption) | split | dsimp only)

theorem State.loadStores_frame (h : s.Frame n o) (hn : Covers n 0xa3784a) : ∀ x1, (State.loadStores s x1).Frame n o := by
  intros
  unfold State.loadStores
  with_reducible repeat' (first | intro _ | assumption | exact Covers.trans hn (by decide) | apply State.loadSlots_frame | apply State.loadCal_frame | apply State.repCopies_frame | apply State.loadRep_frame | apply State.loadSeal_frame | apply State.loadJrn_frame | apply State.loadHold_frame | apply State.loadAge_frame | apply State.nvmAdd_frame | apply State.Frame.foldl | apply State.Frame.ite | (apply State.Frame.mk' <;> first | exact .inl (Covers.bit hn (by decide)) | exact .inr rfl | assumption | apply State.loadSlots_frame | apply State.loadCal_frame | apply State.repCopies_frame | apply State.loadRep_frame | apply State.loadSeal_frame | apply State.loadJrn_frame | apply State.loadHold_frame | apply State.loadAge_frame | apply State.nvmAdd_frame | apply State.Frame.ite | apply State.Frame.foldl | refine State.Frame.ofPair ?_ (by assumption) | split) | apply State.Frame.foldlFst | refine State.Frame.ofPair ?_ (by assumption) | split | dsimp only)

/-! ### Power -/

theorem State.holdNone_frame (h : s.Frame n o) (hn : Covers n 0x800002) : (State.holdNone s).Frame n o := by
  unfold State.holdNone
  with_reducible repeat' (first | intro _ | assumption | exact Covers.trans hn (by decide) | apply State.setFld_frame | apply State.Frame.foldl | apply State.Frame.ite | (apply State.Frame.mk' <;> first | exact .inl (Covers.bit hn (by decide)) | exact .inr rfl | assumption | apply State.setFld_frame | apply State.Frame.ite | apply State.Frame.foldl | refine State.Frame.ofPair ?_ (by assumption) | split) | apply State.Frame.foldlFst | refine State.Frame.ofPair ?_ (by assumption) | split | dsimp only)

theorem State.holdEntry_frame (h : s.Frame n o) (hn : Covers n 0x1fffc7e) : ∀ x1 x2, (State.holdEntry s x1 x2).Frame n o := by
  intros
  unfold State.holdEntry
  with_reducible repeat' (first | intro _ | assumption | exact Covers.trans hn (by decide) | apply State.raise_frame | apply State.bump_frame | apply State.abortTest_frame | apply State.holdNone_frame | apply State.resetRegs_frame | apply State.setFld_frame | apply State.Frame.foldl | apply State.Frame.ite | (apply State.Frame.mk' <;> first | exact .inl (Covers.bit hn (by decide)) | exact .inr rfl | assumption | apply State.raise_frame | apply State.bump_frame | apply State.abortTest_frame | apply State.holdNone_frame | apply State.resetRegs_frame | apply State.setFld_frame | apply State.Frame.ite | apply State.Frame.foldl | refine State.Frame.ofPair ?_ (by assumption) | split) | apply State.Frame.foldlFst | refine State.Frame.ofPair ?_ (by assumption) | split | dsimp only)

theorem execSupplySag_frame (h : s.Frame n o) (hn : Covers n 0x1fffc7e) : ∀ x0 x1, Out.Frame n o (execSupplySag x0 x1 s) := by
  intros
  unfold execSupplySag
  with_reducible repeat' (first | intro _ | assumption | exact Covers.trans hn (by decide) | apply State.holdEntry_frame | apply State.Frame.foldl | apply Out.Frame.next | apply State.Frame.ite | (apply State.Frame.mk' <;> first | exact .inl (Covers.bit hn (by decide)) | exact .inr rfl | assumption | apply State.holdEntry_frame | apply State.Frame.ite | apply State.Frame.foldl | refine State.Frame.ofPair ?_ (by assumption) | split) | apply State.Frame.foldlFst | refine State.Frame.ofPair ?_ (by assumption) | split | dsimp only)

theorem execRefclkLoss_frame (h : s.Frame n o) (hn : Covers n 0x1fffc7e) : Out.Frame n o (execRefclkLoss s) := by
  unfold execRefclkLoss
  with_reducible repeat' (first | intro _ | assumption | exact Covers.trans hn (by decide) | apply State.holdEntry_frame | apply State.Frame.foldl | apply Out.Frame.next | apply State.Frame.ite | (apply State.Frame.mk' <;> first | exact .inl (Covers.bit hn (by decide)) | exact .inr rfl | assumption | apply State.holdEntry_frame | apply State.Frame.ite | apply State.Frame.foldl | refine State.Frame.ofPair ?_ (by assumption) | split) | apply State.Frame.foldlFst | refine State.Frame.ofPair ?_ (by assumption) | split | dsimp only)

theorem State.modHold_frame (h : s.Frame n o) (hn : Covers n 0x100000) : ∀ x1, (State.modHold s x1).Frame n o := by
  intros
  unfold State.modHold
  with_reducible repeat' (first | intro _ | assumption | exact Covers.trans hn (by decide) | apply State.Frame.foldl | apply State.Frame.ite | (apply State.Frame.mk' <;> first | exact .inl (Covers.bit hn (by decide)) | exact .inr rfl | assumption | apply State.Frame.ite | apply State.Frame.foldl | refine State.Frame.ofPair ?_ (by assumption) | split) | apply State.Frame.foldlFst | refine State.Frame.ofPair ?_ (by assumption) | split | dsimp only)

theorem execHoldSaveNvmReady_frame (h : s.Frame n o) (hn : Covers n 0x100000) : Out.Frame n o (execHoldSaveNvmReady s) := by
  unfold execHoldSaveNvmReady
  with_reducible repeat' (first | intro _ | assumption | exact Covers.trans hn (by decide) | apply State.modHold_frame | apply State.Frame.foldl | apply Out.Frame.next | apply State.Frame.ite | (apply State.Frame.mk' <;> first | exact .inl (Covers.bit hn (by decide)) | exact .inr rfl | assumption | apply State.modHold_frame | apply State.Frame.ite | apply State.Frame.foldl | refine State.Frame.ofPair ?_ (by assumption) | split) | apply State.Frame.foldlFst | refine State.Frame.ofPair ?_ (by assumption) | split | dsimp only)

theorem execHoldSavePageDone_frame (h : s.Frame n o) (hn : Covers n 0x100000) : Out.Frame n o (execHoldSavePageDone s) := by
  unfold execHoldSavePageDone
  with_reducible repeat' (first | intro _ | assumption | exact Covers.trans hn (by decide) | apply State.modHold_frame | apply State.Frame.foldl | apply Out.Frame.next | apply State.Frame.ite | (apply State.Frame.mk' <;> first | exact .inl (Covers.bit hn (by decide)) | exact .inr rfl | assumption | apply State.modHold_frame | apply State.Frame.ite | apply State.Frame.foldl | refine State.Frame.ofPair ?_ (by assumption) | split) | apply State.Frame.foldlFst | refine State.Frame.ofPair ?_ (by assumption) | split | dsimp only)

theorem execHoldSavePageTimeout_frame (h : s.Frame n o) (hn : Covers n 0x100000) : Out.Frame n o (execHoldSavePageTimeout s) := by
  unfold execHoldSavePageTimeout
  with_reducible repeat' (first | intro _ | assumption | exact Covers.trans hn (by decide) | apply State.modHold_frame | apply State.Frame.foldl | apply Out.Frame.next | apply State.Frame.ite | (apply State.Frame.mk' <;> first | exact .inl (Covers.bit hn (by decide)) | exact .inr rfl | assumption | apply State.modHold_frame | apply State.Frame.ite | apply State.Frame.foldl | refine State.Frame.ofPair ?_ (by assumption) | split) | apply State.Frame.foldlFst | refine State.Frame.ofPair ?_ (by assumption) | split | dsimp only)

theorem State.porStart_frame (h : s.Frame n o) (hn : Covers n 0x3fffffe) : (State.porStart s).Frame n o := by
  unfold State.porStart
  with_reducible repeat' (first | intro _ | assumption | exact Covers.trans hn (by decide) | apply State.porReset_frame | apply State.beginStart_frame | apply State.Frame.foldl | apply State.Frame.ite | (apply State.Frame.mk' <;> first | exact .inl (Covers.bit hn (by decide)) | exact .inr rfl | assumption | apply State.porReset_frame | apply State.beginStart_frame | apply State.Frame.ite | apply State.Frame.foldl | refine State.Frame.ofPair ?_ (by assumption) | split) | apply State.Frame.foldlFst | refine State.Frame.ofPair ?_ (by assumption) | split | dsimp only)

theorem execPwrGoodRise_frame (h : s.Frame n o) (hn : Covers n 0x3fffffe) : Out.Frame n o (execPwrGoodRise s) := by
  unfold execPwrGoodRise
  with_reducible repeat' (first | intro _ | assumption | exact Covers.trans hn (by decide) | apply State.porStart_frame | apply State.Frame.foldl | apply Out.Frame.next | apply State.Frame.ite | (apply State.Frame.mk' <;> first | exact .inl (Covers.bit hn (by decide)) | exact .inr rfl | assumption | apply State.porStart_frame | apply State.Frame.ite | apply State.Frame.foldl | refine State.Frame.ofPair ?_ (by assumption) | split) | apply State.Frame.foldlFst | refine State.Frame.ofPair ?_ (by assumption) | split | dsimp only)

theorem execHoldExitPor_frame (h : s.Frame n o) (hn : Covers n 0x3fffffe) : Out.Frame n o (execHoldExitPor s) := by
  unfold execHoldExitPor
  with_reducible repeat' (first | intro _ | assumption | exact Covers.trans hn (by decide) | apply State.porStart_frame | apply State.Frame.foldl | apply Out.Frame.next | apply State.Frame.ite | (apply State.Frame.mk' <;> first | exact .inl (Covers.bit hn (by decide)) | exact .inr rfl | assumption | apply State.porStart_frame | apply State.Frame.ite | apply State.Frame.foldl | refine State.Frame.ofPair ?_ (by assumption) | split) | apply State.Frame.foldlFst | refine State.Frame.ofPair ?_ (by assumption) | split | dsimp only)

theorem execSupplyRemoved_frame (h : s.Frame n o) (hn : Covers n 0x3fffffe) : Out.Frame n o (execSupplyRemoved s) := by
  unfold execSupplyRemoved
  with_reducible repeat' (first | intro _ | assumption | exact Covers.trans hn (by decide) | apply State.porReset_frame | apply State.Frame.foldl | apply Out.Frame.next | apply State.Frame.ite | (apply State.Frame.mk' <;> first | exact .inl (Covers.bit hn (by decide)) | exact .inr rfl | assumption | apply State.porReset_frame | apply State.Frame.ite | apply State.Frame.foldl | refine State.Frame.ofPair ?_ (by assumption) | split) | apply State.Frame.foldlFst | refine State.Frame.ofPair ?_ (by assumption) | split | dsimp only)

theorem execResetNFall_frame (h : s.Frame n o) (hn : Covers n 0x3fffd7e) : Out.Frame n o (execResetNFall s) := by
  unfold execResetNFall
  with_reducible repeat' (first | intro _ | assumption | exact Covers.trans hn (by decide) | apply State.deviceReset_frame | apply State.Frame.foldl | apply Out.Frame.next | apply State.Frame.ite | (apply State.Frame.mk' <;> first | exact .inl (Covers.bit hn (by decide)) | exact .inr rfl | assumption | apply State.deviceReset_frame | apply State.Frame.ite | apply State.Frame.foldl | refine State.Frame.ofPair ?_ (by assumption) | split) | apply State.Frame.foldlFst | refine State.Frame.ofPair ?_ (by assumption) | split | dsimp only)

theorem execResetNRise_frame (h : s.Frame n o) (hn : Covers n 0x200412) : Out.Frame n o (execResetNRise s) := by
  unfold execResetNRise
  with_reducible repeat' (first | intro _ | assumption | exact Covers.trans hn (by decide) | apply State.beginStart_frame | apply State.Frame.foldl | apply Out.Frame.next | apply State.Frame.ite | (apply State.Frame.mk' <;> first | exact .inl (Covers.bit hn (by decide)) | exact .inr rfl | assumption | apply State.beginStart_frame | apply State.Frame.ite | apply State.Frame.foldl | refine State.Frame.ofPair ?_ (by assumption) | split) | apply State.Frame.foldlFst | refine State.Frame.ofPair ?_ (by assumption) | split | dsimp only)

theorem execChipResetHoldEnd_frame (h : s.Frame n o) (hn : Covers n 0x200402) : Out.Frame n o (execChipResetHoldEnd s) := by
  unfold execChipResetHoldEnd
  with_reducible repeat' (first | intro _ | assumption | exact Covers.trans hn (by decide) | apply State.setFld_frame | apply State.beginStart_frame | apply State.Frame.foldl | apply Out.Frame.next | apply State.Frame.ite | (apply State.Frame.mk' <;> first | exact .inl (Covers.bit hn (by decide)) | exact .inr rfl | assumption | apply State.setFld_frame | apply State.beginStart_frame | apply State.Frame.ite | apply State.Frame.foldl | refine State.Frame.ofPair ?_ (by assumption) | split) | apply State.Frame.foldlFst | refine State.Frame.ofPair ?_ (by assumption) | split | dsimp only)

end Sys2Proof.Machine
end

