-- ==== Sys2Proof/Laws/FrameJ.lean ====
section
/-! SUPPORT. Which parts of State each operation leaves, of Starts, States. -/
namespace Sys2Proof.Machine

set_option linter.all false

variable {n : Nat} {o s : State}

/-! ### Starts -/

theorem State.toStage_frame (h : s.Frame n o) (hn : Covers n 0x200002) : ∀ x1, (State.toStage s x1).Frame n o := by
  intros
  unfold State.toStage
  with_reducible repeat' (first | intro _ | assumption | exact Covers.trans hn (by decide) | apply State.setFld_frame | apply State.Frame.foldl | apply State.Frame.ite | (apply State.Frame.mk' <;> first | exact .inl (Covers.bit hn (by decide)) | exact .inr rfl | assumption | apply State.setFld_frame | apply State.Frame.ite | apply State.Frame.foldl | refine State.Frame.ofPair ?_ (by assumption) | split) | apply State.Frame.foldlFst | refine State.Frame.ofPair ?_ (by assumption) | split | dsimp only)

theorem execStageB0Service_frame (h : s.Frame n o) (hn : Covers n 0x2200002) : Out.Frame n o (execStageB0Service s) := by
  unfold execStageB0Service
  with_reducible repeat' (first | intro _ | assumption | exact Covers.trans hn (by decide) | apply State.toStage_frame | apply State.Frame.foldl | apply Out.Frame.next | apply State.Frame.ite | (apply State.Frame.mk' <;> first | exact .inl (Covers.bit hn (by decide)) | exact .inr rfl | assumption | apply State.toStage_frame | apply State.Frame.ite | apply State.Frame.foldl | refine State.Frame.ofPair ?_ (by assumption) | split) | apply State.Frame.foldlFst | refine State.Frame.ofPair ?_ (by assumption) | split | dsimp only)

theorem State.stopStart_frame (h : s.Frame n o) (hn : Covers n 0x200002) : (State.stopStart s).Frame n o := by
  unfold State.stopStart
  with_reducible repeat' (first | intro _ | assumption | exact Covers.trans hn (by decide) | apply State.setFld_frame | apply State.Frame.foldl | apply State.Frame.ite | (apply State.Frame.mk' <;> first | exact .inl (Covers.bit hn (by decide)) | exact .inr rfl | assumption | apply State.setFld_frame | apply State.Frame.ite | apply State.Frame.foldl | refine State.Frame.ofPair ?_ (by assumption) | split) | apply State.Frame.foldlFst | refine State.Frame.ofPair ?_ (by assumption) | split | dsimp only)

theorem State.showPairs_frame (h : s.Frame n o) (hn : Covers n 0x2) : (State.showPairs s).Frame n o := by
  unfold State.showPairs
  with_reducible repeat' (first | intro _ | assumption | exact Covers.trans hn (by decide) | apply State.setFld_frame | apply State.Frame.foldl | apply State.Frame.ite | (apply State.Frame.mk' <;> first | exact .inl (Covers.bit hn (by decide)) | exact .inr rfl | assumption | apply State.setFld_frame | apply State.Frame.ite | apply State.Frame.foldl | refine State.Frame.ofPair ?_ (by assumption) | split) | apply State.Frame.foldlFst | refine State.Frame.ofPair ?_ (by assumption) | split | dsimp only)

theorem State.applyCopy_frame (h : s.Frame n o) (hn : Covers n 0x9002) : (State.applyCopy s).Frame n o := by
  unfold State.applyCopy
  with_reducible repeat' (first | intro _ | assumption | exact Covers.trans hn (by decide) | apply State.setFld_frame | apply State.showPairs_frame | apply State.Frame.foldl | apply State.Frame.ite | (apply State.Frame.mk' <;> first | exact .inl (Covers.bit hn (by decide)) | exact .inr rfl | assumption | apply State.setFld_frame | apply State.showPairs_frame | apply State.Frame.ite | apply State.Frame.foldl | refine State.Frame.ofPair ?_ (by assumption) | split) | apply State.Frame.foldlFst | refine State.Frame.ofPair ?_ (by assumption) | split | dsimp only)

theorem State.startPilots_frame (h : s.Frame n o) (hn : Covers n 0x200022) : (State.startPilots s).Frame n o := by
  unfold State.startPilots
  with_reducible repeat' (first | intro _ | assumption | exact Covers.trans hn (by decide) | apply State.startTrack_frame | apply State.Frame.foldl | apply State.Frame.ite | (apply State.Frame.mk' <;> first | exact .inl (Covers.bit hn (by decide)) | exact .inr rfl | assumption | apply State.startTrack_frame | apply State.Frame.ite | apply State.Frame.foldl | refine State.Frame.ofPair ?_ (by assumption) | split) | apply State.Frame.foldlFst | refine State.Frame.ofPair ?_ (by assumption) | split | dsimp only)

theorem execStageB1Image_frame (h : s.Frame n o) (hn : Covers n 0xabf86e) : ∀ x0, Out.Frame n o (execStageB1Image x0 s) := by
  intros
  unfold execStageB1Image
  with_reducible repeat' (first | intro _ | assumption | exact Covers.trans hn (by decide) | apply State.stopStart_frame | apply State.raise_frame | apply State.setFld_frame | apply State.applyCopy_frame | apply State.loadStores_frame | apply State.applyImage_frame | apply State.avsStart_frame | apply State.toStage_frame | apply State.startPilots_frame | apply State.Frame.foldl | apply Out.Frame.next | apply State.Frame.ite | (apply State.Frame.mk' <;> first | exact .inl (Covers.bit hn (by decide)) | exact .inr rfl | assumption | apply State.stopStart_frame | apply State.raise_frame | apply State.setFld_frame | apply State.applyCopy_frame | apply State.loadStores_frame | apply State.applyImage_frame | apply State.avsStart_frame | apply State.toStage_frame | apply State.startPilots_frame | apply State.Frame.ite | apply State.Frame.foldl | refine State.Frame.ofPair ?_ (by assumption) | split) | apply State.Frame.foldlFst | refine State.Frame.ofPair ?_ (by assumption) | split | dsimp only)

theorem State.seedCal_frame (h : s.Frame n o) (hn : Covers n 0x2) : (State.seedCal s).Frame n o := by
  unfold State.seedCal
  with_reducible repeat' (first | intro _ | assumption | exact Covers.trans hn (by decide) | apply State.upTo_frame | apply State.setFld_frame | apply State.setCol_frame | apply State.Frame.foldl | apply State.Frame.ite | (apply State.Frame.mk' <;> first | exact .inl (Covers.bit hn (by decide)) | exact .inr rfl | assumption | apply State.upTo_frame | apply State.setFld_frame | apply State.setCol_frame | apply State.Frame.ite | apply State.Frame.foldl | refine State.Frame.ofPair ?_ (by assumption) | split) | apply State.Frame.foldlFst | refine State.Frame.ofPair ?_ (by assumption) | split | dsimp only)

theorem State.retiredCol_frame (h : s.Frame n o) (hn : Covers n 0x2002) : ∀ x1, (State.retiredCol s x1).Frame n o := by
  intros
  unfold State.retiredCol
  with_reducible repeat' (first | intro _ | assumption | exact Covers.trans hn (by decide) | apply State.setCol_frame | apply State.modBund_frame | apply State.Frame.foldl | apply State.Frame.ite | (apply State.Frame.mk' <;> first | exact .inl (Covers.bit hn (by decide)) | exact .inr rfl | assumption | apply State.setCol_frame | apply State.modBund_frame | apply State.Frame.ite | apply State.Frame.foldl | refine State.Frame.ofPair ?_ (by assumption) | split) | apply State.Frame.foldlFst | refine State.Frame.ofPair ?_ (by assumption) | split | dsimp only)

theorem State.retiredCols_frame (h : s.Frame n o) (hn : Covers n 0x2002) : (State.retiredCols s).Frame n o := by
  unfold State.retiredCols
  with_reducible repeat' (first | intro _ | assumption | exact Covers.trans hn (by decide) | apply State.retiredCol_frame | apply State.Frame.foldl | apply State.Frame.ite | (apply State.Frame.mk' <;> first | exact .inl (Covers.bit hn (by decide)) | exact .inr rfl | assumption | apply State.retiredCol_frame | apply State.Frame.ite | apply State.Frame.foldl | refine State.Frame.ofPair ?_ (by assumption) | split) | apply State.Frame.foldlFst | refine State.Frame.ofPair ?_ (by assumption) | split | dsimp only)

theorem State.vqOn_frame (h : s.Frame n o) (hn : Covers n 0x2) : ∀ x1, (State.vqOn s x1).Frame n o := by
  intros
  unfold State.vqOn
  with_reducible repeat' (first | intro _ | assumption | exact Covers.trans hn (by decide) | apply State.upTo_frame | apply State.setDomain_frame | apply State.Frame.foldl | apply State.Frame.ite | (apply State.Frame.mk' <;> first | exact .inl (Covers.bit hn (by decide)) | exact .inr rfl | assumption | apply State.upTo_frame | apply State.setDomain_frame | apply State.Frame.ite | apply State.Frame.foldl | refine State.Frame.ofPair ?_ (by assumption) | split) | apply State.Frame.foldlFst | refine State.Frame.ofPair ?_ (by assumption) | split | dsimp only)

theorem State.beginB2_frame (h : s.Frame n o) (hn : Covers n 0x202002) : (State.beginB2 s).Frame n o := by
  unfold State.beginB2
  with_reducible repeat' (first | intro _ | assumption | exact Covers.trans hn (by decide) | apply State.vqOn_frame | apply State.retiredCols_frame | apply State.seedCal_frame | apply State.startTraining_frame | apply State.Frame.foldl | apply State.Frame.ite | (apply State.Frame.mk' <;> first | exact .inl (Covers.bit hn (by decide)) | exact .inr rfl | assumption | apply State.vqOn_frame | apply State.retiredCols_frame | apply State.seedCal_frame | apply State.startTraining_frame | apply State.Frame.ite | apply State.Frame.foldl | refine State.Frame.ofPair ?_ (by assumption) | split) | apply State.Frame.foldlFst | refine State.Frame.ofPair ?_ (by assumption) | split | dsimp only)

theorem State.fixPilot_frame (h : s.Frame n o) (hn : Covers n 0x200002) : (State.fixPilot s).Frame n o := by
  unfold State.fixPilot
  with_reducible repeat' (first | intro _ | assumption | exact Covers.trans hn (by decide) | apply State.setFld_frame | apply State.Frame.foldl | apply State.Frame.ite | (apply State.Frame.mk' <;> first | exact .inl (Covers.bit hn (by decide)) | exact .inr rfl | assumption | apply State.setFld_frame | apply State.Frame.ite | apply State.Frame.foldl | refine State.Frame.ofPair ?_ (by assumption) | split) | apply State.Frame.foldlFst | refine State.Frame.ofPair ?_ (by assumption) | split | dsimp only)

theorem State.sealChecks_frame (h : s.Frame n o) (hn : Covers n 0xa2784a) : (State.sealChecks s).1.Frame n o := by
  unfold State.sealChecks
  with_reducible repeat' (first | intro _ | assumption | exact Covers.trans hn (by decide) | apply State.setFld_frame | apply State.raise_frame | apply State.Frame.foldl | apply State.Frame.ite | (apply State.Frame.mk' <;> first | exact .inl (Covers.bit hn (by decide)) | exact .inr rfl | assumption | apply State.setFld_frame | apply State.raise_frame | apply State.Frame.ite | apply State.Frame.foldl | refine State.Frame.ofPair ?_ (by assumption) | split) | apply State.Frame.foldlFst | refine State.Frame.ofPair ?_ (by assumption) | split | dsimp only)

theorem State.journalStart_frame (h : s.Frame n o) (hn : Covers n 0x82784a) : ∀ x1, (State.journalStart s x1).Frame n o := by
  intros
  unfold State.journalStart
  with_reducible repeat' (first | intro _ | assumption | exact Covers.trans hn (by decide) | apply State.journal_frame | apply State.Frame.foldl | apply State.Frame.ite | (apply State.Frame.mk' <;> first | exact .inl (Covers.bit hn (by decide)) | exact .inr rfl | assumption | apply State.journal_frame | apply State.Frame.ite | apply State.Frame.foldl | refine State.Frame.ofPair ?_ (by assumption) | split) | apply State.Frame.foldlFst | refine State.Frame.ofPair ?_ (by assumption) | split | dsimp only)

theorem State.endB2_frame (h : s.Frame n o) (hn : Covers n 0xa2786a) : (State.endB2 s).Frame n o := by
  unfold State.endB2
  with_reducible repeat' (first | intro _ | assumption | exact Covers.trans hn (by decide) | apply State.fixPilot_frame | apply State.setFld_frame | apply State.sealChecks_frame | apply State.journalStart_frame | apply State.commitCal_frame | apply State.upTo_frame | apply State.advance_frame | apply State.toStage_frame | apply State.Frame.foldl | apply State.Frame.ite | (apply State.Frame.mk' <;> first | exact .inl (Covers.bit hn (by decide)) | exact .inr rfl | assumption | apply State.fixPilot_frame | apply State.setFld_frame | apply State.sealChecks_frame | apply State.journalStart_frame | apply State.commitCal_frame | apply State.upTo_frame | apply State.advance_frame | apply State.toStage_frame | apply State.Frame.ite | apply State.Frame.foldl | refine State.Frame.ofPair ?_ (by assumption) | split) | apply State.Frame.foldlFst | refine State.Frame.ofPair ?_ (by assumption) | split | dsimp only)

theorem execStageB2Stack_frame (h : s.Frame n o) (hn : Covers n 0xa2786a) : Out.Frame n o (execStageB2Stack s) := by
  unfold execStageB2Stack
  with_reducible repeat' (first | intro _ | assumption | exact Covers.trans hn (by decide) | apply State.beginB2_frame | apply State.endB2_frame | apply State.Frame.foldl | apply Out.Frame.next | apply State.Frame.ite | (apply State.Frame.mk' <;> first | exact .inl (Covers.bit hn (by decide)) | exact .inr rfl | assumption | apply State.beginB2_frame | apply State.endB2_frame | apply State.Frame.ite | apply State.Frame.foldl | refine State.Frame.ofPair ?_ (by assumption) | split) | apply State.Frame.foldlFst | refine State.Frame.ofPair ?_ (by assumption) | split | dsimp only)

theorem execStageB3Test_frame (h : s.Frame n o) (hn : Covers n 0xa2786a) : ∀ x0 x1, Out.Frame n o (execStageB3Test x0 x1 s) := by
  intros
  unfold execStageB3Test
  with_reducible repeat' (first | intro _ | assumption | exact Covers.trans hn (by decide) | apply State.startTest_frame | apply State.toStage_frame | apply State.startPilots_frame | apply State.Frame.foldl | apply Out.Frame.next | apply State.Frame.ite | (apply State.Frame.mk' <;> first | exact .inl (Covers.bit hn (by decide)) | exact .inr rfl | assumption | apply State.startTest_frame | apply State.toStage_frame | apply State.startPilots_frame | apply State.Frame.ite | apply State.Frame.foldl | refine State.Frame.ofPair ?_ (by assumption) | split) | apply State.Frame.foldlFst | refine State.Frame.ofPair ?_ (by assumption) | split | dsimp only)

theorem State.retirePending_frame (h : s.Frame n o) (hn : Covers n 0xa3784a) : (State.retirePending s).Frame n o := by
  unfold State.retirePending
  with_reducible repeat' (first | intro _ | assumption | exact Covers.trans hn (by decide) | apply State.repSet_frame | apply State.showPairs_frame | apply State.Frame.foldl | apply State.Frame.ite | (apply State.Frame.mk' <;> first | exact .inl (Covers.bit hn (by decide)) | exact .inr rfl | assumption | apply State.repSet_frame | apply State.showPairs_frame | apply State.Frame.ite | apply State.Frame.foldl | refine State.Frame.ofPair ?_ (by assumption) | split) | apply State.Frame.foldlFst | refine State.Frame.ofPair ?_ (by assumption) | split | dsimp only)

theorem State.chosen_frame (h : s.Frame n o) (hn : Covers n 0xa3784a) : ∀ x1, (State.chosen s x1).Frame n o := by
  intros
  unfold State.chosen
  with_reducible repeat' (first | intro _ | assumption | exact Covers.trans hn (by decide) | apply State.repSet_frame | apply State.setFld_frame | apply State.Frame.foldl | apply State.Frame.ite | (apply State.Frame.mk' <;> first | exact .inl (Covers.bit hn (by decide)) | exact .inr rfl | assumption | apply State.repSet_frame | apply State.setFld_frame | apply State.Frame.ite | apply State.Frame.foldl | refine State.Frame.ofPair ?_ (by assumption) | split) | apply State.Frame.foldlFst | refine State.Frame.ofPair ?_ (by assumption) | split | dsimp only)

theorem State.configurePor_frame (h : s.Frame n o) (hn : Covers n 0xa3784a) : (State.configurePor s).Frame n o := by
  unfold State.configurePor
  with_reducible repeat' (first | intro _ | assumption | exact Covers.trans hn (by decide) | apply State.retirePending_frame | apply State.chosen_frame | apply State.setFld_frame | apply State.Frame.foldl | apply State.Frame.ite | (apply State.Frame.mk' <;> first | exact .inl (Covers.bit hn (by decide)) | exact .inr rfl | assumption | apply State.retirePending_frame | apply State.chosen_frame | apply State.setFld_frame | apply State.Frame.ite | apply State.Frame.foldl | refine State.Frame.ofPair ?_ (by assumption) | split) | apply State.Frame.foldlFst | refine State.Frame.ofPair ?_ (by assumption) | split | dsimp only)

theorem State.configureWarm_frame (h : s.Frame n o) (hn : Covers n 0xa3784a) : (State.configureWarm s).Frame n o := by
  unfold State.configureWarm
  with_reducible repeat' (first | intro _ | assumption | exact Covers.trans hn (by decide) | apply State.raise_frame | apply State.setFld_frame | apply State.chosen_frame | apply State.Frame.foldl | apply State.Frame.ite | (apply State.Frame.mk' <;> first | exact .inl (Covers.bit hn (by decide)) | exact .inr rfl | assumption | apply State.raise_frame | apply State.setFld_frame | apply State.chosen_frame | apply State.Frame.ite | apply State.Frame.foldl | refine State.Frame.ofPair ?_ (by assumption) | split) | apply State.Frame.foldlFst | refine State.Frame.ofPair ?_ (by assumption) | split | dsimp only)

theorem execStageB4Configuration_frame (h : s.Frame n o) (hn : Covers n 0xa3784a) : Out.Frame n o (execStageB4Configuration s) := by
  unfold execStageB4Configuration
  with_reducible repeat' (first | intro _ | assumption | exact Covers.trans hn (by decide) | apply State.toStage_frame | apply State.configureWarm_frame | apply State.configurePor_frame | apply State.Frame.foldl | apply Out.Frame.next | apply State.Frame.ite | (apply State.Frame.mk' <;> first | exact .inl (Covers.bit hn (by decide)) | exact .inr rfl | assumption | apply State.toStage_frame | apply State.configureWarm_frame | apply State.configurePor_frame | apply State.Frame.ite | apply State.Frame.foldl | refine State.Frame.ofPair ?_ (by assumption) | split) | apply State.Frame.foldlFst | refine State.Frame.ofPair ?_ (by assumption) | split | dsimp only)

theorem State.finishMigrating_frame (h : s.Frame n o) (hn : Covers n 0x83784a) : ∀ x1, (State.finishMigrating s x1).Frame n o := by
  intros
  unfold State.finishMigrating
  with_reducible repeat' (first | intro _ | assumption | exact Covers.trans hn (by decide) | apply State.repSet_frame | apply State.raise_frame | apply State.bump_frame | apply State.modChan_frame | apply State.pushRow_frame | apply State.Frame.foldl | apply State.Frame.ite | (apply State.Frame.mk' <;> first | exact .inl (Covers.bit hn (by decide)) | exact .inr rfl | assumption | apply State.repSet_frame | apply State.raise_frame | apply State.bump_frame | apply State.modChan_frame | apply State.pushRow_frame | apply State.Frame.ite | apply State.Frame.foldl | refine State.Frame.ofPair ?_ (by assumption) | split) | apply State.Frame.foldlFst | refine State.Frame.ofPair ?_ (by assumption) | split | dsimp only)

theorem State.applyGroups_frame (h : s.Frame n o) (hn : Covers n 0x83784a) : ∀ x1, (State.applyGroups s x1).Frame n o := by
  intros
  unfold State.applyGroups
  with_reducible repeat' (first | intro _ | assumption | exact Covers.trans hn (by decide) | apply State.repSet_frame | apply State.repDel_frame | apply State.Frame.foldl | apply State.Frame.ite | (apply State.Frame.mk' <;> first | exact .inl (Covers.bit hn (by decide)) | exact .inr rfl | assumption | apply State.repSet_frame | apply State.repDel_frame | apply State.Frame.ite | apply State.Frame.foldl | refine State.Frame.ofPair ?_ (by assumption) | split) | apply State.Frame.foldlFst | refine State.Frame.ofPair ?_ (by assumption) | split | dsimp only)

theorem State.wakeChan_frame (h : s.Frame n o) (hn : Covers n 0x802) : ∀ x1 x2 x3, (State.wakeChan s x1 x2 x3).Frame n o := by
  intros
  unfold State.wakeChan
  with_reducible repeat' (first | intro _ | assumption | exact Covers.trans hn (by decide) | apply State.setDomain_frame | apply State.sendSrx_frame | apply State.modRef_frame | apply State.Frame.foldl | apply State.Frame.ite | (apply State.Frame.mk' <;> first | exact .inl (Covers.bit hn (by decide)) | exact .inr rfl | assumption | apply State.setDomain_frame | apply State.sendSrx_frame | apply State.modRef_frame | apply State.Frame.ite | apply State.Frame.foldl | refine State.Frame.ofPair ?_ (by assumption) | split) | apply State.Frame.foldlFst | refine State.Frame.ofPair ?_ (by assumption) | split | dsimp only)

theorem State.poolsOn_frame (h : s.Frame n o) (hn : Covers n 0x2) : (State.poolsOn s).Frame n o := by
  unfold State.poolsOn
  with_reducible repeat' (first | intro _ | assumption | exact Covers.trans hn (by decide) | apply State.setDomain_frame | apply State.Frame.foldl | apply State.Frame.ite | (apply State.Frame.mk' <;> first | exact .inl (Covers.bit hn (by decide)) | exact .inr rfl | assumption | apply State.setDomain_frame | apply State.Frame.ite | apply State.Frame.foldl | refine State.Frame.ofPair ?_ (by assumption) | split) | apply State.Frame.foldlFst | refine State.Frame.ofPair ?_ (by assumption) | split | dsimp only)

theorem State.beginB6_frame (h : s.Frame n o) (hn : Covers n 0xa3784a) : (State.beginB6 s).Frame n o := by
  unfold State.beginB6
  with_reducible repeat' (first | intro _ | assumption | exact Covers.trans hn (by decide) | apply State.poolsOn_frame | apply State.finishMigrating_frame | apply State.applyGroups_frame | apply State.wakeChan_frame | apply State.Frame.foldl | apply State.Frame.ite | (apply State.Frame.mk' <;> first | exact .inl (Covers.bit hn (by decide)) | exact .inr rfl | assumption | apply State.poolsOn_frame | apply State.finishMigrating_frame | apply State.applyGroups_frame | apply State.wakeChan_frame | apply State.Frame.ite | apply State.Frame.foldl | refine State.Frame.ofPair ?_ (by assumption) | split) | apply State.Frame.foldlFst | refine State.Frame.ofPair ?_ (by assumption) | split | dsimp only)

theorem execStageB6Channels_frame (h : s.Frame n o) (hn : Covers n 0xa3784a) : Out.Frame n o (execStageB6Channels s) := by
  unfold execStageB6Channels
  with_reducible repeat' (first | intro _ | assumption | exact Covers.trans hn (by decide) | apply State.beginB6_frame | apply State.toStage_frame | apply State.Frame.foldl | apply Out.Frame.next | apply State.Frame.ite | (apply State.Frame.mk' <;> first | exact .inl (Covers.bit hn (by decide)) | exact .inr rfl | assumption | apply State.beginB6_frame | apply State.toStage_frame | apply State.Frame.ite | apply State.Frame.foldl | refine State.Frame.ofPair ?_ (by assumption) | split) | apply State.Frame.foldlFst | refine State.Frame.ofPair ?_ (by assumption) | split | dsimp only)

theorem State.announce_frame (h : s.Frame n o) (hn : Covers n 0x200022) : ∀ x1, (State.announce s x1).Frame n o := by
  intros
  unfold State.announce
  with_reducible repeat' (first | intro _ | assumption | exact Covers.trans hn (by decide) | apply State.bump_frame | apply State.setFld_frame | apply State.announceTo_frame | apply State.Frame.foldl | apply State.Frame.ite | (apply State.Frame.mk' <;> first | exact .inl (Covers.bit hn (by decide)) | exact .inr rfl | assumption | apply State.bump_frame | apply State.setFld_frame | apply State.announceTo_frame | apply State.Frame.ite | apply State.Frame.foldl | refine State.Frame.ofPair ?_ (by assumption) | split) | apply State.Frame.foldlFst | refine State.Frame.ofPair ?_ (by assumption) | split | dsimp only)

theorem execStageB7Widening_frame (h : s.Frame n o) (hn : Covers n 0x200022) : Out.Frame n o (execStageB7Widening s) := by
  unfold execStageB7Widening
  with_reducible repeat' (first | intro _ | assumption | exact Covers.trans hn (by decide) | apply State.announce_frame | apply State.Frame.foldl | apply Out.Frame.next | apply State.Frame.ite | (apply State.Frame.mk' <;> first | exact .inl (Covers.bit hn (by decide)) | exact .inr rfl | assumption | apply State.announce_frame | apply State.Frame.ite | apply State.Frame.foldl | refine State.Frame.ofPair ?_ (by assumption) | split) | apply State.Frame.foldlFst | refine State.Frame.ofPair ?_ (by assumption) | split | dsimp only)

theorem State.present_frame (h : s.Frame n o) (hn : Covers n 0x4002) : (State.present s).Frame n o := by
  unfold State.present
  with_reducible repeat' (first | intro _ | assumption | exact Covers.trans hn (by decide) | apply State.setFld_frame | apply State.Frame.foldl | apply State.Frame.ite | (apply State.Frame.mk' <;> first | exact .inl (Covers.bit hn (by decide)) | exact .inr rfl | assumption | apply State.setFld_frame | apply State.Frame.ite | apply State.Frame.foldl | refine State.Frame.ofPair ?_ (by assumption) | split) | apply State.Frame.foldlFst | refine State.Frame.ofPair ?_ (by assumption) | split | dsimp only)

theorem State.widen_frame (h : s.Frame n o) (hn : Covers n 0xa2786a) : ∀ x1, (State.widen s x1).Frame n o := by
  intros
  unfold State.widen
  with_reducible repeat' (first | intro _ | assumption | exact Covers.trans hn (by decide) | apply State.refillAll_frame | apply State.present_frame | apply State.setFld_frame | apply State.modTrn_frame | apply State.startTrack_frame | apply State.commitRep_frame | apply State.Frame.foldl | apply State.Frame.ite | (apply State.Frame.mk' <;> first | exact .inl (Covers.bit hn (by decide)) | exact .inr rfl | assumption | apply State.refillAll_frame | apply State.present_frame | apply State.setFld_frame | apply State.modTrn_frame | apply State.startTrack_frame | apply State.commitRep_frame | apply State.Frame.ite | apply State.Frame.foldl | refine State.Frame.ofPair ?_ (by assumption) | split) | apply State.Frame.foldlFst | refine State.Frame.ofPair ?_ (by assumption) | split | dsimp only)

theorem execWidenEffectiveTick_frame (h : s.Frame n o) (hn : Covers n 0xa2786a) : Out.Frame n o (execWidenEffectiveTick s) := by
  unfold execWidenEffectiveTick
  with_reducible repeat' (first | intro _ | assumption | exact Covers.trans hn (by decide) | apply State.widen_frame | apply State.announce_frame | apply State.Frame.foldl | apply Out.Frame.next | apply State.Frame.ite | (apply State.Frame.mk' <;> first | exact .inl (Covers.bit hn (by decide)) | exact .inr rfl | assumption | apply State.widen_frame | apply State.announce_frame | apply State.Frame.ite | apply State.Frame.foldl | refine State.Frame.ofPair ?_ (by assumption) | split) | apply State.Frame.foldlFst | refine State.Frame.ofPair ?_ (by assumption) | split | dsimp only)

theorem State.copyChunks_frame (h : s.Frame n o) (hn : Covers n 0x82784a) : ∀ x1, (State.copyChunks s x1).Frame n o := by
  intros
  unfold State.copyChunks
  with_reducible repeat' (first | intro _ | assumption | exact Covers.trans hn (by decide) | apply State.upTo_frame | apply State.journal_frame | apply State.Frame.foldl | apply State.Frame.ite | (apply State.Frame.mk' <;> first | exact .inl (Covers.bit hn (by decide)) | exact .inr rfl | assumption | apply State.upTo_frame | apply State.journal_frame | apply State.Frame.ite | apply State.Frame.foldl | refine State.Frame.ofPair ?_ (by assumption) | split) | apply State.Frame.foldlFst | refine State.Frame.ofPair ?_ (by assumption) | split | dsimp only)

theorem execHoldSlotCopy_frame (h : s.Frame n o) (hn : Covers n 0x82784a) : Out.Frame n o (execHoldSlotCopy s) := by
  unfold execHoldSlotCopy
  with_reducible repeat' (first | intro _ | assumption | exact Covers.trans hn (by decide) | apply State.copyChunks_frame | apply State.nvmKick_frame | apply State.nvmAdd_frame | apply State.Frame.foldl | apply Out.Frame.next | apply State.Frame.ite | (apply State.Frame.mk' <;> first | exact .inl (Covers.bit hn (by decide)) | exact .inr rfl | assumption | apply State.copyChunks_frame | apply State.nvmKick_frame | apply State.nvmAdd_frame | apply State.Frame.ite | apply State.Frame.foldl | refine State.Frame.ofPair ?_ (by assumption) | split) | apply State.Frame.foldlFst | refine State.Frame.ofPair ?_ (by assumption) | split | dsimp only)

/-! ### States -/

theorem State.toState_frame (h : s.Frame n o) (hn : Covers n 0x2) : ∀ x1, (State.toState s x1).Frame n o := by
  intros
  unfold State.toState
  with_reducible repeat' (first | intro _ | assumption | exact Covers.trans hn (by decide) | apply State.setFld_frame | apply State.Frame.foldl | apply State.Frame.ite | (apply State.Frame.mk' <;> first | exact .inl (Covers.bit hn (by decide)) | exact .inr rfl | assumption | apply State.setFld_frame | apply State.Frame.ite | apply State.Frame.foldl | refine State.Frame.ofPair ?_ (by assumption) | split) | apply State.Frame.foldlFst | refine State.Frame.ofPair ?_ (by assumption) | split | dsimp only)

theorem execNapIdleExpiry_frame (h : s.Frame n o) (hn : Covers n 0x2) : Out.Frame n o (execNapIdleExpiry s) := by
  unfold execNapIdleExpiry
  with_reducible repeat' (first | intro _ | assumption | exact Covers.trans hn (by decide) | apply State.toState_frame | apply State.Frame.foldl | apply Out.Frame.next | apply State.Frame.ite | (apply State.Frame.mk' <;> first | exact .inl (Covers.bit hn (by decide)) | exact .inr rfl | assumption | apply State.toState_frame | apply State.Frame.ite | apply State.Frame.foldl | refine State.Frame.ofPair ?_ (by assumption) | split) | apply State.Frame.foldlFst | refine State.Frame.ofPair ?_ (by assumption) | split | dsimp only)

theorem State.enterPark_frame (h : s.Frame n o) (hn : Covers n 0x420802) : (State.enterPark s).Frame n o := by
  unfold State.enterPark
  with_reducible repeat' (first | intro _ | assumption | exact Covers.trans hn (by decide) | apply State.toState_frame | apply State.stopChTest_frame | apply State.Frame.foldl | apply State.Frame.ite | (apply State.Frame.mk' <;> first | exact .inl (Covers.bit hn (by decide)) | exact .inr rfl | assumption | apply State.toState_frame | apply State.stopChTest_frame | apply State.Frame.ite | apply State.Frame.foldl | refine State.Frame.ofPair ?_ (by assumption) | split) | apply State.Frame.foldlFst | refine State.Frame.ofPair ?_ (by assumption) | split | dsimp only)

theorem State.parkStep_frame (h : s.Frame n o) (hn : Covers n 0x400000) : ∀ x1, (State.parkStep s x1).Frame n o := by
  intros
  unfold State.parkStep
  with_reducible repeat' (first | intro _ | assumption | exact Covers.trans hn (by decide) | apply State.Frame.foldl | apply State.Frame.ite | (apply State.Frame.mk' <;> first | exact .inl (Covers.bit hn (by decide)) | exact .inr rfl | assumption | apply State.Frame.ite | apply State.Frame.foldl | refine State.Frame.ofPair ?_ (by assumption) | split) | apply State.Frame.foldlFst | refine State.Frame.ofPair ?_ (by assumption) | split | dsimp only)

theorem State.dropStaged_frame (h : s.Frame n o) (hn : Covers n 0x6) : (State.dropStaged s).Frame n o := by
  unfold State.dropStaged
  with_reducible repeat' (first | intro _ | assumption | exact Covers.trans hn (by decide) | apply State.setFld_frame | apply State.Frame.foldl | apply State.Frame.ite | (apply State.Frame.mk' <;> first | exact .inl (Covers.bit hn (by decide)) | exact .inr rfl | assumption | apply State.setFld_frame | apply State.Frame.ite | apply State.Frame.foldl | refine State.Frame.ofPair ?_ (by assumption) | split) | apply State.Frame.foldlFst | refine State.Frame.ofPair ?_ (by assumption) | split | dsimp only)

theorem State.parkCommit_frame (h : s.Frame n o) (hn : Covers n 0xc2784e) : (State.parkCommit s).Frame n o := by
  unfold State.parkCommit
  with_reducible repeat' (first | intro _ | assumption | exact Covers.trans hn (by decide) | apply State.voteAll_frame | apply State.commitRep_frame | apply State.commitCal_frame | apply State.when_frame | apply State.journal_frame | apply State.parkStep_frame | apply State.nvmKick_frame | apply State.dropStaged_frame | apply State.Frame.foldl | apply State.Frame.ite | (apply State.Frame.mk' <;> first | exact .inl (Covers.bit hn (by decide)) | exact .inr rfl | assumption | apply State.voteAll_frame | apply State.commitRep_frame | apply State.commitCal_frame | apply State.when_frame | apply State.journal_frame | apply State.parkStep_frame | apply State.nvmKick_frame | apply State.dropStaged_frame | apply State.Frame.ite | apply State.Frame.foldl | refine State.Frame.ofPair ?_ (by assumption) | split) | apply State.Frame.foldlFst | refine State.Frame.ofPair ?_ (by assumption) | split | dsimp only)

theorem State.switchOff_frame (h : s.Frame n o) (hn : Covers n 0x52816) : (State.switchOff s).Frame n o := by
  unfold State.switchOff
  with_reducible repeat' (first | intro _ | assumption | exact Covers.trans hn (by decide) | apply State.resetRegs_frame | apply State.toState_frame | apply State.setFld_frame | apply State.setDomain_frame | apply State.upTo_frame | apply State.Frame.foldl | apply State.Frame.ite | (apply State.Frame.mk' <;> first | exact .inl (Covers.bit hn (by decide)) | exact .inr rfl | assumption | apply State.resetRegs_frame | apply State.toState_frame | apply State.setFld_frame | apply State.setDomain_frame | apply State.upTo_frame | apply State.Frame.ite | apply State.Frame.foldl | refine State.Frame.ofPair ?_ (by assumption) | split) | apply State.Frame.foldlFst | refine State.Frame.ofPair ?_ (by assumption) | split | dsimp only)

theorem State.intoPark_frame (h : s.Frame n o) (hn : Covers n 0xc7787e) : (State.intoPark s).Frame n o := by
  unfold State.intoPark
  with_reducible repeat' (first | intro _ | assumption | exact Covers.trans hn (by decide) | apply State.sendL3_frame | apply State.dropStaged_frame | apply State.switchOff_frame | apply State.Frame.foldl | apply State.Frame.ite | (apply State.Frame.mk' <;> first | exact .inl (Covers.bit hn (by decide)) | exact .inr rfl | assumption | apply State.sendL3_frame | apply State.dropStaged_frame | apply State.switchOff_frame | apply State.Frame.ite | apply State.Frame.foldl | refine State.Frame.ofPair ?_ (by assumption) | split) | apply State.Frame.foldlFst | refine State.Frame.ofPair ?_ (by assumption) | split | dsimp only)

theorem execParkDrainComplete_frame (h : s.Frame n o) (hn : Covers n 0xc7787e) : ∀ x0 x1, Out.Frame n o (execParkDrainComplete x0 x1 s) := by
  intros
  unfold execParkDrainComplete
  with_reducible repeat' (first | intro _ | assumption | exact Covers.trans hn (by decide) | apply State.parkStep_frame | apply State.startTest_frame | apply State.parkCommit_frame | apply State.intoPark_frame | apply State.Frame.foldl | apply Out.Frame.next | apply State.Frame.ite | (apply State.Frame.mk' <;> first | exact .inl (Covers.bit hn (by decide)) | exact .inr rfl | assumption | apply State.parkStep_frame | apply State.startTest_frame | apply State.parkCommit_frame | apply State.intoPark_frame | apply State.Frame.ite | apply State.Frame.foldl | refine State.Frame.ofPair ?_ (by assumption) | split) | apply State.Frame.foldlFst | refine State.Frame.ofPair ?_ (by assumption) | split | dsimp only)

theorem execParkDrainLimit_frame (h : s.Frame n o) (hn : Covers n 0x427842) : Out.Frame n o (execParkDrainLimit s) := by
  unfold execParkDrainLimit
  with_reducible repeat' (first | intro _ | assumption | exact Covers.trans hn (by decide) | apply State.eachChan_frame | apply State.blockReset_frame | apply State.parkStep_frame | apply State.setFld_frame | apply State.Frame.foldl | apply Out.Frame.next | apply State.Frame.ite | (apply State.Frame.mk' <;> first | exact .inl (Covers.bit hn (by decide)) | exact .inr rfl | assumption | apply State.eachChan_frame | apply State.blockReset_frame | apply State.parkStep_frame | apply State.setFld_frame | apply State.Frame.ite | apply State.Frame.foldl | refine State.Frame.ofPair ?_ (by assumption) | split) | apply State.Frame.foldlFst | refine State.Frame.ofPair ?_ (by assumption) | split | dsimp only)

theorem State.leaveL3_frame (h : s.Frame n o) (hn : Covers n 0x22) : ∀ x1, (State.leaveL3 s x1).Frame n o := by
  intros
  unfold State.leaveL3
  with_reducible repeat' (first | intro _ | assumption | exact Covers.trans hn (by decide) | apply State.modTrn_frame | apply State.beginAttempt_frame | apply State.Frame.foldl | apply State.Frame.ite | (apply State.Frame.mk' <;> first | exact .inl (Covers.bit hn (by decide)) | exact .inr rfl | assumption | apply State.modTrn_frame | apply State.beginAttempt_frame | apply State.Frame.ite | apply State.Frame.foldl | refine State.Frame.ofPair ?_ (by assumption) | split) | apply State.Frame.foldlFst | refine State.Frame.ofPair ?_ (by assumption) | split | dsimp only)

theorem State.leavePark_frame (h : s.Frame n o) (hn : Covers n 0x402022) : (State.leavePark s).Frame n o := by
  unfold State.leavePark
  with_reducible repeat' (first | intro _ | assumption | exact Covers.trans hn (by decide) | apply State.toState_frame | apply State.upTo_frame | apply State.setDomain_frame | apply State.leaveL3_frame | apply State.setFld_frame | apply State.startTraining_frame | apply State.vqOn_frame | apply State.Frame.foldl | apply State.Frame.ite | (apply State.Frame.mk' <;> first | exact .inl (Covers.bit hn (by decide)) | exact .inr rfl | assumption | apply State.toState_frame | apply State.upTo_frame | apply State.setDomain_frame | apply State.leaveL3_frame | apply State.setFld_frame | apply State.startTraining_frame | apply State.vqOn_frame | apply State.Frame.ite | apply State.Frame.foldl | refine State.Frame.ofPair ?_ (by assumption) | split) | apply State.Frame.foldlFst | refine State.Frame.ofPair ?_ (by assumption) | split | dsimp only)

theorem State.wakeParked_frame (h : s.Frame n o) (hn : Covers n 0x802) : ∀ x1, (State.wakeParked s x1).Frame n o := by
  intros
  unfold State.wakeParked
  with_reducible repeat' (first | intro _ | assumption | exact Covers.trans hn (by decide) | apply State.modRef_frame | apply State.wakeChan_frame | apply State.Frame.foldl | apply State.Frame.ite | (apply State.Frame.mk' <;> first | exact .inl (Covers.bit hn (by decide)) | exact .inr rfl | assumption | apply State.modRef_frame | apply State.wakeChan_frame | apply State.Frame.ite | apply State.Frame.foldl | refine State.Frame.ofPair ?_ (by assumption) | split) | apply State.Frame.foldlFst | refine State.Frame.ofPair ?_ (by assumption) | split | dsimp only)

theorem State.wakeChans_frame (h : s.Frame n o) (hn : Covers n 0x444802) : (State.wakeChans s).Frame n o := by
  unfold State.wakeChans
  with_reducible repeat' (first | intro _ | assumption | exact Covers.trans hn (by decide) | apply State.poolsOn_frame | apply State.wakeParked_frame | apply State.Frame.foldl | apply State.Frame.ite | (apply State.Frame.mk' <;> first | exact .inl (Covers.bit hn (by decide)) | exact .inr rfl | assumption | apply State.poolsOn_frame | apply State.wakeParked_frame | apply State.Frame.ite | apply State.Frame.foldl | refine State.Frame.ofPair ?_ (by assumption) | split) | apply State.Frame.foldlFst | refine State.Frame.ofPair ?_ (by assumption) | split | dsimp only)

theorem State.backInRun_frame (h : s.Frame n o) (hn : Covers n 0x400002) : (State.backInRun s).Frame n o := by
  unfold State.backInRun
  with_reducible repeat' (first | intro _ | assumption | exact Covers.trans hn (by decide) | apply State.setFld_frame | apply State.toState_frame | apply State.Frame.foldl | apply State.Frame.ite | (apply State.Frame.mk' <;> first | exact .inl (Covers.bit hn (by decide)) | exact .inr rfl | assumption | apply State.setFld_frame | apply State.toState_frame | apply State.Frame.ite | apply State.Frame.foldl | refine State.Frame.ofPair ?_ (by assumption) | split) | apply State.Frame.foldlFst | refine State.Frame.ofPair ?_ (by assumption) | split | dsimp only)

theorem execParkExit_frame (h : s.Frame n o) (hn : Covers n 0x444802) : Out.Frame n o (execParkExit s) := by
  unfold execParkExit
  with_reducible repeat' (first | intro _ | assumption | exact Covers.trans hn (by decide) | apply State.wakeChans_frame | apply State.backInRun_frame | apply State.Frame.foldl | apply Out.Frame.next | apply State.Frame.ite | (apply State.Frame.mk' <;> first | exact .inl (Covers.bit hn (by decide)) | exact .inr rfl | assumption | apply State.wakeChans_frame | apply State.backInRun_frame | apply State.Frame.ite | apply State.Frame.foldl | refine State.Frame.ofPair ?_ (by assumption) | split) | apply State.Frame.foldlFst | refine State.Frame.ofPair ?_ (by assumption) | split | dsimp only)

theorem State.cancelPark_frame (h : s.Frame n o) (hn : Covers n 0xc2786a) : (State.cancelPark s).Frame n o := by
  unfold State.cancelPark
  with_reducible repeat' (first | intro _ | assumption | exact Covers.trans hn (by decide) | apply State.setFld_frame | apply State.leavePark_frame | apply State.abortTest_frame | apply State.backInRun_frame | apply State.wakeChan_frame | apply State.Frame.foldl | apply State.Frame.ite | (apply State.Frame.mk' <;> first | exact .inl (Covers.bit hn (by decide)) | exact .inr rfl | assumption | apply State.setFld_frame | apply State.leavePark_frame | apply State.abortTest_frame | apply State.backInRun_frame | apply State.wakeChan_frame | apply State.Frame.ite | apply State.Frame.foldl | refine State.Frame.ofPair ?_ (by assumption) | split) | apply State.Frame.foldlFst | refine State.Frame.ofPair ?_ (by assumption) | split | dsimp only)

theorem State.wakeUp_frame (h : s.Frame n o) (hn : Covers n 0xc2786a) : (State.wakeUp s).Frame n o := by
  unfold State.wakeUp
  with_reducible repeat' (first | intro _ | assumption | exact Covers.trans hn (by decide) | apply State.toState_frame | apply State.cancelPark_frame | apply State.leavePark_frame | apply State.Frame.foldl | apply State.Frame.ite | (apply State.Frame.mk' <;> first | exact .inl (Covers.bit hn (by decide)) | exact .inr rfl | assumption | apply State.toState_frame | apply State.cancelPark_frame | apply State.leavePark_frame | apply State.Frame.ite | apply State.Frame.foldl | refine State.Frame.ofPair ?_ (by assumption) | split) | apply State.Frame.foldlFst | refine State.Frame.ofPair ?_ (by assumption) | split | dsimp only)

theorem execWakeDetect_frame (h : s.Frame n o) (hn : Covers n 0xc2786a) : ∀ x0, Out.Frame n o (execWakeDetect x0 s) := by
  intros
  unfold execWakeDetect
  with_reducible repeat' (first | intro _ | assumption | exact Covers.trans hn (by decide) | apply State.wakeUp_frame | apply State.leaveL3_frame | apply State.Frame.foldl | apply Out.Frame.next | apply State.Frame.ite | (apply State.Frame.mk' <;> first | exact .inl (Covers.bit hn (by decide)) | exact .inr rfl | assumption | apply State.wakeUp_frame | apply State.leaveL3_frame | apply State.Frame.ite | apply State.Frame.foldl | refine State.Frame.ofPair ?_ (by assumption) | split) | apply State.Frame.foldlFst | refine State.Frame.ofPair ?_ (by assumption) | split | dsimp only)

theorem State.targetWritten_frame (h : s.Frame n o) (hn : Covers n 0xc2786a) : ∀ x1, (State.targetWritten s x1).Frame n o := by
  intros
  unfold State.targetWritten
  with_reducible repeat' (first | intro _ | assumption | exact Covers.trans hn (by decide) | apply State.wakeUp_frame | apply State.enterPark_frame | apply State.Frame.foldl | apply State.Frame.ite | (apply State.Frame.mk' <;> first | exact .inl (Covers.bit hn (by decide)) | exact .inr rfl | assumption | apply State.wakeUp_frame | apply State.enterPark_frame | apply State.Frame.ite | apply State.Frame.foldl | refine State.Frame.ofPair ?_ (by assumption) | split) | apply State.Frame.foldlFst | refine State.Frame.ofPair ?_ (by assumption) | split | dsimp only)

end Sys2Proof.Machine
end

