-- ==== Sys2Proof/Laws/FrameK.lean ====
section
/-! SUPPORT. Which parts of State each operation leaves, of Tick, Fabric, Requests. -/
namespace Sys2Proof.Machine

set_option linter.all false

variable {n : Nat} {o s : State}

/-! ### Tick -/

theorem State.mapChans_frame (h : s.Frame n o) (hn : Covers n 0x800) : ∀ x1, (State.mapChans s x1).Frame n o := by
  intros
  unfold State.mapChans
  with_reducible repeat' (first | intro _ | assumption | exact Covers.trans hn (by decide) | apply State.Frame.foldl | apply State.Frame.ite | (apply State.Frame.mk' <;> first | exact .inl (Covers.bit hn (by decide)) | exact .inr rfl | assumption | apply State.Frame.ite | apply State.Frame.foldl | refine State.Frame.ofPair ?_ (by assumption) | split) | apply State.Frame.foldlFst | refine State.Frame.ofPair ?_ (by assumption) | split | dsimp only)

theorem State.countOverruns_frame (h : s.Frame n o) (hn : Covers n 0x2) : (State.countOverruns s).Frame n o := by
  unfold State.countOverruns
  with_reducible repeat' (first | intro _ | assumption | exact Covers.trans hn (by decide) | apply State.bump_frame | apply State.Frame.foldl | apply State.Frame.ite | (apply State.Frame.mk' <;> first | exact .inl (Covers.bit hn (by decide)) | exact .inr rfl | assumption | apply State.bump_frame | apply State.Frame.ite | apply State.Frame.foldl | refine State.Frame.ofPair ?_ (by assumption) | split) | apply State.Frame.foldlFst | refine State.Frame.ofPair ?_ (by assumption) | split | dsimp only)

theorem State.cutSlots_frame (h : s.Frame n o) (hn : Covers n 0x82784a) : ∀ x1, (State.cutSlots s x1).Frame n o := by
  intros
  unfold State.cutSlots
  with_reducible repeat' (first | intro _ | assumption | exact Covers.trans hn (by decide) | apply State.mapChans_frame | apply State.raise_frame | apply State.Frame.foldl | apply State.Frame.ite | (apply State.Frame.mk' <;> first | exact .inl (Covers.bit hn (by decide)) | exact .inr rfl | assumption | apply State.mapChans_frame | apply State.raise_frame | apply State.Frame.ite | apply State.Frame.foldl | refine State.Frame.ofPair ?_ (by assumption) | split) | apply State.Frame.foldlFst | refine State.Frame.ofPair ?_ (by assumption) | split | dsimp only)

theorem State.snapshot_frame (h : s.Frame n o) (hn : Covers n 0x6) : (State.snapshot s).Frame n o := by
  unfold State.snapshot
  with_reducible repeat' (first | intro _ | assumption | exact Covers.trans hn (by decide) | apply State.setFld_frame | apply State.Frame.foldl | apply State.Frame.ite | (apply State.Frame.mk' <;> first | exact .inl (Covers.bit hn (by decide)) | exact .inr rfl | assumption | apply State.setFld_frame | apply State.Frame.ite | apply State.Frame.foldl | refine State.Frame.ofPair ?_ (by assumption) | split) | apply State.Frame.foldlFst | refine State.Frame.ofPair ?_ (by assumption) | split | dsimp only)

theorem State.nextFrame_frame (h : s.Frame n o) (hn : Covers n 0x2000006) : (State.nextFrame s).Frame n o := by
  unfold State.nextFrame
  with_reducible repeat' (first | intro _ | assumption | exact Covers.trans hn (by decide) | apply State.setFld_frame | apply State.Frame.foldl | apply State.Frame.ite | (apply State.Frame.mk' <;> first | exact .inl (Covers.bit hn (by decide)) | exact .inr rfl | assumption | apply State.setFld_frame | apply State.Frame.ite | apply State.Frame.foldl | refine State.Frame.ofPair ?_ (by assumption) | split) | apply State.Frame.foldlFst | refine State.Frame.ofPair ?_ (by assumption) | split | dsimp only)

theorem State.applyStaged_frame (h : s.Frame n o) (hn : Covers n 0x4006) : (State.applyStaged s).Frame n o := by
  unfold State.applyStaged
  with_reducible repeat' (first | intro _ | assumption | exact Covers.trans hn (by decide) | apply State.Frame.foldl | apply State.Frame.ite | (apply State.Frame.mk' <;> first | exact .inl (Covers.bit hn (by decide)) | exact .inr rfl | assumption | apply State.Frame.ite | apply State.Frame.foldl | refine State.Frame.ofPair ?_ (by assumption) | split) | apply State.Frame.foldlFst | refine State.Frame.ofPair ?_ (by assumption) | split | dsimp only)

theorem State.applyBund_frame (h : s.Frame n o) (hn : Covers n 0x2002) : ∀ x1, (State.applyBund s x1).Frame n o := by
  intros
  unfold State.applyBund
  with_reducible repeat' (first | intro _ | assumption | exact Covers.trans hn (by decide) | apply State.setCal_frame | apply State.modBund_frame | apply State.Frame.foldl | apply State.Frame.ite | (apply State.Frame.mk' <;> first | exact .inl (Covers.bit hn (by decide)) | exact .inr rfl | assumption | apply State.setCal_frame | apply State.modBund_frame | apply State.Frame.ite | apply State.Frame.foldl | refine State.Frame.ofPair ?_ (by assumption) | split) | apply State.Frame.foldlFst | refine State.Frame.ofPair ?_ (by assumption) | split | dsimp only)

theorem State.applyTrack_frame (h : s.Frame n o) (hn : Covers n 0x22) : ∀ x1, (State.applyTrack s x1).Frame n o := by
  intros
  unfold State.applyTrack
  with_reducible repeat' (first | intro _ | assumption | exact Covers.trans hn (by decide) | apply State.upTo_frame | apply State.applyLane_frame | apply State.modTrk_frame | apply State.setFld_frame | apply State.Frame.foldl | apply State.Frame.ite | (apply State.Frame.mk' <;> first | exact .inl (Covers.bit hn (by decide)) | exact .inr rfl | assumption | apply State.upTo_frame | apply State.applyLane_frame | apply State.modTrk_frame | apply State.setFld_frame | apply State.Frame.ite | apply State.Frame.foldl | refine State.Frame.ofPair ?_ (by assumption) | split) | apply State.Frame.foldlFst | refine State.Frame.ofPair ?_ (by assumption) | split | dsimp only)

theorem State.clearMap_frame (h : s.Frame n o) (hn : Covers n 0x8802) : (State.clearMap s).Frame n o := by
  unfold State.clearMap
  with_reducible repeat' (first | intro _ | assumption | exact Covers.trans hn (by decide) | apply State.mapChans_frame | apply State.setFld_frame | apply State.Frame.foldl | apply State.Frame.ite | (apply State.Frame.mk' <;> first | exact .inl (Covers.bit hn (by decide)) | exact .inr rfl | assumption | apply State.mapChans_frame | apply State.setFld_frame | apply State.Frame.ite | apply State.Frame.foldl | refine State.Frame.ofPair ?_ (by assumption) | split) | apply State.Frame.foldlFst | refine State.Frame.ofPair ?_ (by assumption) | split | dsimp only)

theorem State.mapRowsTick_frame (h : s.Frame n o) (hn : Covers n 0x83f84a) : (State.mapRowsTick s).Frame n o := by
  unfold State.mapRowsTick
  with_reducible repeat' (first | intro _ | assumption | exact Covers.trans hn (by decide) | apply State.bump_frame | apply State.repSet_frame | apply State.Frame.foldl | apply State.Frame.ite | (apply State.Frame.mk' <;> first | exact .inl (Covers.bit hn (by decide)) | exact .inr rfl | assumption | apply State.bump_frame | apply State.repSet_frame | apply State.Frame.ite | apply State.Frame.foldl | refine State.Frame.ofPair ?_ (by assumption) | split) | apply State.Frame.foldlFst | refine State.Frame.ofPair ?_ (by assumption) | split | dsimp only)

theorem State.noteWork_frame (h : s.Frame n o) (hn : Covers n 0x40800) : (State.noteWork s).Frame n o := by
  unfold State.noteWork
  with_reducible repeat' (first | intro _ | assumption | exact Covers.trans hn (by decide) | apply State.upTo_frame | apply State.modThm_frame | apply State.mapChans_frame | apply State.Frame.foldl | apply State.Frame.ite | (apply State.Frame.mk' <;> first | exact .inl (Covers.bit hn (by decide)) | exact .inr rfl | assumption | apply State.upTo_frame | apply State.modThm_frame | apply State.mapChans_frame | apply State.Frame.ite | apply State.Frame.foldl | refine State.Frame.ofPair ?_ (by assumption) | split) | apply State.Frame.foldlFst | refine State.Frame.ofPair ?_ (by assumption) | split | dsimp only)

theorem State.applyCore_frame (h : s.Frame n o) (hn : Covers n 0x87f86a) : (State.applyCore s).Frame n o := by
  unfold State.applyCore
  with_reducible repeat' (first | intro _ | assumption | exact Covers.trans hn (by decide) | apply State.applyBund_frame | apply State.applyTrack_frame | apply State.upTo_frame | apply State.setFld_frame | apply State.mapRowsTick_frame | apply State.clearMap_frame | apply State.migTick_frame | apply State.fillTick_frame | apply State.noteWork_frame | apply State.codecTick_frame | apply State.Frame.foldl | apply State.Frame.ite | (apply State.Frame.mk' <;> first | exact .inl (Covers.bit hn (by decide)) | exact .inr rfl | assumption | apply State.applyBund_frame | apply State.applyTrack_frame | apply State.upTo_frame | apply State.setFld_frame | apply State.mapRowsTick_frame | apply State.clearMap_frame | apply State.migTick_frame | apply State.fillTick_frame | apply State.noteWork_frame | apply State.codecTick_frame | apply State.Frame.ite | apply State.Frame.foldl | refine State.Frame.ofPair ?_ (by assumption) | split) | apply State.Frame.foldlFst | refine State.Frame.ofPair ?_ (by assumption) | split | dsimp only)

theorem State.accrue_frame (h : s.Frame n o) (hn : Covers n 0x82784a) : ∀ x1, (State.accrue s x1).Frame n o := by
  intros
  unfold State.accrue
  with_reducible repeat' (first | intro _ | assumption | exact Covers.trans hn (by decide) | apply State.setFld_frame | apply State.modRef_frame | apply State.raise_frame | apply State.Frame.foldl | apply State.Frame.ite | (apply State.Frame.mk' <;> first | exact .inl (Covers.bit hn (by decide)) | exact .inr rfl | assumption | apply State.setFld_frame | apply State.modRef_frame | apply State.raise_frame | apply State.Frame.ite | apply State.Frame.foldl | refine State.Frame.ofPair ?_ (by assumption) | split) | apply State.Frame.foldlFst | refine State.Frame.ofPair ?_ (by assumption) | split | dsimp only)

theorem State.tickTrks_frame (h : s.Frame n o) (hn : Covers n 0x20) : (State.tickTrks s).Frame n o := by
  unfold State.tickTrks
  with_reducible repeat' (first | intro _ | assumption | exact Covers.trans hn (by decide) | apply State.upTo_frame | apply State.modTrk_frame | apply State.Frame.foldl | apply State.Frame.ite | (apply State.Frame.mk' <;> first | exact .inl (Covers.bit hn (by decide)) | exact .inr rfl | assumption | apply State.upTo_frame | apply State.modTrk_frame | apply State.Frame.ite | apply State.Frame.foldl | refine State.Frame.ofPair ?_ (by assumption) | split) | apply State.Frame.foldlFst | refine State.Frame.ofPair ?_ (by assumption) | split | dsimp only)

theorem State.coreIntervals_frame (h : s.Frame n o) (hn : Covers n 0x406920) : (State.coreIntervals s).Frame n o := by
  unfold State.coreIntervals
  with_reducible repeat' (first | intro _ | assumption | exact Covers.trans hn (by decide) | apply State.tickTrks_frame | apply State.mapChans_frame | apply State.Frame.foldl | apply State.Frame.ite | (apply State.Frame.mk' <;> first | exact .inl (Covers.bit hn (by decide)) | exact .inr rfl | assumption | apply State.tickTrks_frame | apply State.mapChans_frame | apply State.Frame.ite | apply State.Frame.foldl | refine State.Frame.ofPair ?_ (by assumption) | split) | apply State.Frame.foldlFst | refine State.Frame.ofPair ?_ (by assumption) | split | dsimp only)

theorem State.testLimits_frame (h : s.Frame n o) (hn : Covers n 0x82784a) : ∀ x1 x2, (State.testLimits s x1 x2).Frame n o := by
  intros
  unfold State.testLimits
  with_reducible repeat' (first | intro _ | assumption | exact Covers.trans hn (by decide) | apply State.abortTest_frame | apply State.abortChTest_frame | apply State.Frame.foldl | apply State.Frame.ite | (apply State.Frame.mk' <;> first | exact .inl (Covers.bit hn (by decide)) | exact .inr rfl | assumption | apply State.abortTest_frame | apply State.abortChTest_frame | apply State.Frame.ite | apply State.Frame.foldl | refine State.Frame.ofPair ?_ (by assumption) | split) | apply State.Frame.foldlFst | refine State.Frame.ofPair ?_ (by assumption) | split | dsimp only)

theorem State.tellHold_frame (h : s.Frame n o) (hn : Covers n 0xa2784a) : (State.tellHold s).Frame n o := by
  unfold State.tellHold
  with_reducible repeat' (first | intro _ | assumption | exact Covers.trans hn (by decide) | apply State.raise_frame | apply State.Frame.foldl | apply State.Frame.ite | (apply State.Frame.mk' <;> first | exact .inl (Covers.bit hn (by decide)) | exact .inr rfl | assumption | apply State.raise_frame | apply State.Frame.ite | apply State.Frame.foldl | refine State.Frame.ofPair ?_ (by assumption) | split) | apply State.Frame.foldlFst | refine State.Frame.ofPair ?_ (by assumption) | split | dsimp only)

theorem State.serviceIntervals_frame (h : s.Frame n o) (hn : Covers n 0xe67a4a) : ∀ x1 x2, (State.serviceIntervals s x1 x2).Frame n o := by
  intros
  unfold State.serviceIntervals
  with_reducible repeat' (first | intro _ | assumption | exact Covers.trans hn (by decide) | apply State.bump_frame | apply State.nvmKick_frame | apply State.tellHold_frame | apply State.testLimits_frame | apply State.Frame.foldl | apply State.Frame.ite | (apply State.Frame.mk' <;> first | exact .inl (Covers.bit hn (by decide)) | exact .inr rfl | assumption | apply State.bump_frame | apply State.nvmKick_frame | apply State.tellHold_frame | apply State.testLimits_frame | apply State.Frame.ite | apply State.Frame.foldl | refine State.Frame.ofPair ?_ (by assumption) | split) | apply State.Frame.foldlFst | refine State.Frame.ofPair ?_ (by assumption) | split | dsimp only)

theorem execFrameTick_frame (h : s.Frame n o) (hn : Covers n 0x2e7fb7e) : ∀ x0 x1, Out.Frame n o (execFrameTick x0 x1 s) := by
  intros
  unfold execFrameTick
  with_reducible repeat' (first | intro _ | assumption | exact Covers.trans hn (by decide) | apply State.nextFrame_frame | apply State.snapshot_frame | apply State.when_frame | apply State.countOverruns_frame | apply State.applyStaged_frame | apply State.cutSlots_frame | apply State.applyCore_frame | apply State.setTherm_frame | apply State.refillAll_frame | apply State.accrue_frame | apply State.serviceIntervals_frame | apply State.coreIntervals_frame | apply State.Frame.foldl | apply Out.Frame.next | apply State.Frame.ite | (apply State.Frame.mk' <;> first | exact .inl (Covers.bit hn (by decide)) | exact .inr rfl | assumption | apply State.nextFrame_frame | apply State.snapshot_frame | apply State.when_frame | apply State.countOverruns_frame | apply State.applyStaged_frame | apply State.cutSlots_frame | apply State.applyCore_frame | apply State.setTherm_frame | apply State.refillAll_frame | apply State.accrue_frame | apply State.serviceIntervals_frame | apply State.coreIntervals_frame | apply State.Frame.ite | apply State.Frame.foldl | refine State.Frame.ofPair ?_ (by assumption) | split) | apply State.Frame.foldlFst | refine State.Frame.ofPair ?_ (by assumption) | split | dsimp only)

/-! ### Fabric -/

theorem State.noteBad_frame (h : s.Frame n o) (hn : Covers n 0x2) : ∀ x1 x2 x3 x4, (State.noteBad s x1 x2 x3 x4).Frame n o := by
  intros
  unfold State.noteBad
  with_reducible repeat' (first | intro _ | assumption | exact Covers.trans hn (by decide) | apply State.bump_frame | apply State.setFld_frame | apply State.setFlag_frame | apply State.Frame.foldl | apply State.Frame.ite | (apply State.Frame.mk' <;> first | exact .inl (Covers.bit hn (by decide)) | exact .inr rfl | assumption | apply State.bump_frame | apply State.setFld_frame | apply State.setFlag_frame | apply State.Frame.ite | apply State.Frame.foldl | refine State.Frame.ofPair ?_ (by assumption) | split) | apply State.Frame.foldlFst | refine State.Frame.ofPair ?_ (by assumption) | split | dsimp only)

theorem State.withWrite_frame (h : s.Frame n o) (hn : Covers n 0x2) : ∀ x1 x2, (State.withWrite s x1 x2).Frame n o := by
  intros
  unfold State.withWrite
  with_reducible repeat' (first | intro _ | assumption | exact Covers.trans hn (by decide) | apply State.setFld_frame | apply State.Frame.foldl | apply State.Frame.ite | (apply State.Frame.mk' <;> first | exact .inl (Covers.bit hn (by decide)) | exact .inr rfl | assumption | apply State.setFld_frame | apply State.Frame.ite | apply State.Frame.foldl | refine State.Frame.ofPair ?_ (by assumption) | split) | apply State.Frame.foldlFst | refine State.Frame.ofPair ?_ (by assumption) | split | dsimp only)

theorem State.refused_frame (h : s.Frame n o) (hn : Covers n 0x82784a) : ∀ x1 x2 x3 x4 x5, (State.refused s x1 x2 x3 x4 x5).Frame n o := by
  intros
  unfold State.refused
  with_reducible repeat' (first | intro _ | assumption | exact Covers.trans hn (by decide) | apply State.noteBad_frame | apply State.setFld_frame | apply State.withWrite_frame | apply State.raise_frame | apply State.Frame.foldl | apply State.Frame.ite | (apply State.Frame.mk' <;> first | exact .inl (Covers.bit hn (by decide)) | exact .inr rfl | assumption | apply State.noteBad_frame | apply State.setFld_frame | apply State.withWrite_frame | apply State.raise_frame | apply State.Frame.ite | apply State.Frame.foldl | refine State.Frame.ofPair ?_ (by assumption) | split) | apply State.Frame.foldlFst | refine State.Frame.ofPair ?_ (by assumption) | split | dsimp only)

theorem State.stage_frame (h : s.Frame n o) (hn : Covers n 0x4) : ∀ x1, (State.stage s x1).Frame n o := by
  intros
  unfold State.stage
  with_reducible repeat' (first | intro _ | assumption | exact Covers.trans hn (by decide) | apply State.Frame.foldl | apply State.Frame.ite | (apply State.Frame.mk' <;> first | exact .inl (Covers.bit hn (by decide)) | exact .inr rfl | assumption | apply State.Frame.ite | apply State.Frame.foldl | refine State.Frame.ofPair ?_ (by assumption) | split) | apply State.Frame.foldlFst | refine State.Frame.ofPair ?_ (by assumption) | split | dsimp only)

theorem State.unhold_frame (h : s.Frame n o) (hn : Covers n 0x4) : (State.unhold s).Frame n o := by
  unfold State.unhold
  with_reducible repeat' (first | intro _ | assumption | exact Covers.trans hn (by decide) | apply State.Frame.foldl | apply State.Frame.ite | (apply State.Frame.mk' <;> first | exact .inl (Covers.bit hn (by decide)) | exact .inr rfl | assumption | apply State.Frame.ite | apply State.Frame.foldl | refine State.Frame.ofPair ?_ (by assumption) | split) | apply State.Frame.foldlFst | refine State.Frame.ofPair ?_ (by assumption) | split | dsimp only)

theorem State.ttDoes_frame (h : s.Frame n o) (hn : Covers n 0x4) : ∀ x1 x2, (State.ttDoes s x1 x2).Frame n o := by
  intros
  unfold State.ttDoes
  with_reducible repeat' (first | intro _ | assumption | exact Covers.trans hn (by decide) | apply State.when_frame | apply State.unhold_frame | apply State.Frame.foldl | apply State.Frame.ite | (apply State.Frame.mk' <;> first | exact .inl (Covers.bit hn (by decide)) | exact .inr rfl | assumption | apply State.when_frame | apply State.unhold_frame | apply State.Frame.ite | apply State.Frame.foldl | refine State.Frame.ofPair ?_ (by assumption) | split) | apply State.Frame.foldlFst | refine State.Frame.ofPair ?_ (by assumption) | split | dsimp only)

theorem State.putField_frame (h : s.Frame n o) (hn : Covers n 0x6) : ∀ x1 x2, (State.putField s x1 x2).Frame n o := by
  intros
  unfold State.putField
  with_reducible repeat' (first | intro _ | assumption | exact Covers.trans hn (by decide) | apply State.agree_frame | apply State.setFld_frame | apply State.stage_frame | apply State.Frame.foldl | apply State.Frame.ite | (apply State.Frame.mk' <;> first | exact .inl (Covers.bit hn (by decide)) | exact .inr rfl | assumption | apply State.agree_frame | apply State.setFld_frame | apply State.stage_frame | apply State.Frame.ite | apply State.Frame.foldl | refine State.Frame.ofPair ?_ (by assumption) | split) | apply State.Frame.foldlFst | refine State.Frame.ofPair ?_ (by assumption) | split | dsimp only)

theorem State.trackEn_frame (h : s.Frame n o) (hn : Covers n 0x22) : ∀ x1 x2 x3, (State.trackEn s x1 x2 x3).Frame n o := by
  intros
  unfold State.trackEn
  with_reducible repeat' (first | intro _ | assumption | exact Covers.trans hn (by decide) | apply State.startTrack_frame | apply State.setFld_frame | apply State.modTrn_frame | apply State.Frame.foldl | apply State.Frame.ite | (apply State.Frame.mk' <;> first | exact .inl (Covers.bit hn (by decide)) | exact .inr rfl | assumption | apply State.startTrack_frame | apply State.setFld_frame | apply State.modTrn_frame | apply State.Frame.ite | apply State.Frame.foldl | refine State.Frame.ofPair ?_ (by assumption) | split) | apply State.Frame.foldlFst | refine State.Frame.ofPair ?_ (by assumption) | split | dsimp only)

theorem State.prbsChange_frame (h : s.Frame n o) (hn : Covers n 0x22) : ∀ x1 x2, (State.prbsChange s x1 x2).Frame n o := by
  intros
  unfold State.prbsChange
  with_reducible repeat' (first | intro _ | assumption | exact Covers.trans hn (by decide) | apply State.setTxLane_frame | apply State.setRxLane_frame | apply State.setFld_frame | apply State.Frame.foldl | apply State.Frame.ite | (apply State.Frame.mk' <;> first | exact .inl (Covers.bit hn (by decide)) | exact .inr rfl | assumption | apply State.setTxLane_frame | apply State.setRxLane_frame | apply State.setFld_frame | apply State.Frame.ite | apply State.Frame.foldl | refine State.Frame.ofPair ?_ (by assumption) | split) | apply State.Frame.foldlFst | refine State.Frame.ofPair ?_ (by assumption) | split | dsimp only)

theorem State.inject_frame (h : s.Frame n o) (hn : Covers n 0x22) : ∀ x1 x2 x3, (State.inject s x1 x2 x3).Frame n o := by
  intros
  unfold State.inject
  with_reducible repeat' (first | intro _ | assumption | exact Covers.trans hn (by decide) | apply State.setFld_frame | apply State.setTxLane_frame | apply State.Frame.foldl | apply State.Frame.ite | (apply State.Frame.mk' <;> first | exact .inl (Covers.bit hn (by decide)) | exact .inr rfl | assumption | apply State.setFld_frame | apply State.setTxLane_frame | apply State.Frame.ite | apply State.Frame.foldl | refine State.Frame.ofPair ?_ (by assumption) | split) | apply State.Frame.foldlFst | refine State.Frame.ofPair ?_ (by assumption) | split | dsimp only)

theorem State.trkDoes_frame (h : s.Frame n o) (hn : Covers n 0x82786a) : ∀ x1 x2 x3 x4, (State.trkDoes s x1 x2 x3 x4).Frame n o := by
  intros
  unfold State.trkDoes
  with_reducible repeat' (first | intro _ | assumption | exact Covers.trans hn (by decide) | apply State.when_frame | apply State.modTrk_frame | apply State.requestSparing_frame | apply State.prbsChange_frame | apply State.inject_frame | apply State.trackEn_frame | apply State.startFailover_frame | apply State.retrain_frame | apply State.Frame.foldl | apply State.Frame.ite | (apply State.Frame.mk' <;> first | exact .inl (Covers.bit hn (by decide)) | exact .inr rfl | assumption | apply State.when_frame | apply State.modTrk_frame | apply State.requestSparing_frame | apply State.prbsChange_frame | apply State.inject_frame | apply State.trackEn_frame | apply State.startFailover_frame | apply State.retrain_frame | apply State.Frame.ite | apply State.Frame.foldl | refine State.Frame.ofPair ?_ (by assumption) | split) | apply State.Frame.foldlFst | refine State.Frame.ofPair ?_ (by assumption) | split | dsimp only)

theorem State.chnDoes_frame (h : s.Frame n o) (hn : Covers n 0x82784a) : ∀ x1 x2 x3, (State.chnDoes s x1 x2 x3).Frame n o := by
  intros
  unfold State.chnDoes
  with_reducible repeat' (first | intro _ | assumption | exact Covers.trans hn (by decide) | apply State.when_frame | apply State.setFld_frame | apply State.blockReset_frame | apply State.takeover_frame | apply State.Frame.foldl | apply State.Frame.ite | (apply State.Frame.mk' <;> first | exact .inl (Covers.bit hn (by decide)) | exact .inr rfl | assumption | apply State.when_frame | apply State.setFld_frame | apply State.blockReset_frame | apply State.takeover_frame | apply State.Frame.ite | apply State.Frame.foldl | refine State.Frame.ofPair ?_ (by assumption) | split) | apply State.Frame.foldlFst | refine State.Frame.ofPair ?_ (by assumption) | split | dsimp only)

theorem State.vlqDoes_frame (h : s.Frame n o) (hn : Covers n 0x2002) : ∀ x1 x2 x3, (State.vlqDoes s x1 x2 x3).Frame n o := by
  intros
  unfold State.vlqDoes
  with_reducible repeat' (first | intro _ | assumption | exact Covers.trans hn (by decide) | apply State.when_frame | apply State.setRetune_frame | apply State.trainQuad_frame | apply State.Frame.foldl | apply State.Frame.ite | (apply State.Frame.mk' <;> first | exact .inl (Covers.bit hn (by decide)) | exact .inr rfl | assumption | apply State.when_frame | apply State.setRetune_frame | apply State.trainQuad_frame | apply State.Frame.ite | apply State.Frame.foldl | refine State.Frame.ofPair ?_ (by assumption) | split) | apply State.Frame.foldlFst | refine State.Frame.ofPair ?_ (by assumption) | split | dsimp only)

theorem State.sendCrst_frame (h : s.Frame n o) (hn : Covers n 0x2802) : ∀ x1, (State.sendCrst s x1).Frame n o := by
  intros
  unfold State.sendCrst
  with_reducible repeat' (first | intro _ | assumption | exact Covers.trans hn (by decide) | apply State.sendCfg_frame | apply State.Frame.foldl | apply State.Frame.ite | (apply State.Frame.mk' <;> first | exact .inl (Covers.bit hn (by decide)) | exact .inr rfl | assumption | apply State.sendCfg_frame | apply State.Frame.ite | apply State.Frame.foldl | refine State.Frame.ofPair ?_ (by assumption) | split) | apply State.Frame.foldlFst | refine State.Frame.ofPair ?_ (by assumption) | split | dsimp only)

theorem State.layDoes_frame (h : s.Frame n o) (hn : Covers n 0x83784a) : ∀ x1 x2 x3, (State.layDoes s x1 x2 x3).Frame n o := by
  intros
  unfold State.layDoes
  with_reducible repeat' (first | intro _ | assumption | exact Covers.trans hn (by decide) | apply State.when_frame | apply State.spareCol_frame | apply State.sendCfg_frame | apply State.sendCrst_frame | apply State.Frame.foldl | apply State.Frame.ite | (apply State.Frame.mk' <;> first | exact .inl (Covers.bit hn (by decide)) | exact .inr rfl | assumption | apply State.when_frame | apply State.spareCol_frame | apply State.sendCfg_frame | apply State.sendCrst_frame | apply State.Frame.ite | apply State.Frame.foldl | refine State.Frame.ofPair ?_ (by assumption) | split) | apply State.Frame.foldlFst | refine State.Frame.ofPair ?_ (by assumption) | split | dsimp only)

theorem State.cancelPending_frame (h : s.Frame n o) (hn : Covers n 0x83784a) : (State.cancelPending s).Frame n o := by
  unfold State.cancelPending
  with_reducible repeat' (first | intro _ | assumption | exact Covers.trans hn (by decide) | apply State.repDel_frame | apply State.upTo_frame | apply State.setFld_frame | apply State.Frame.foldl | apply State.Frame.ite | (apply State.Frame.mk' <;> first | exact .inl (Covers.bit hn (by decide)) | exact .inr rfl | assumption | apply State.repDel_frame | apply State.upTo_frame | apply State.setFld_frame | apply State.Frame.ite | apply State.Frame.foldl | refine State.Frame.ofPair ?_ (by assumption) | split) | apply State.Frame.foldlFst | refine State.Frame.ofPair ?_ (by assumption) | split | dsimp only)

theorem State.repDoes_frame (h : s.Frame n o) (hn : Covers n 0x83784a) : ∀ x1 x2, (State.repDoes s x1 x2).Frame n o := by
  intros
  unfold State.repDoes
  with_reducible repeat' (first | intro _ | assumption | exact Covers.trans hn (by decide) | apply State.when_frame | apply State.cancelPending_frame | apply State.commitRep_frame | apply State.Frame.foldl | apply State.Frame.ite | (apply State.Frame.mk' <;> first | exact .inl (Covers.bit hn (by decide)) | exact .inr rfl | assumption | apply State.when_frame | apply State.cancelPending_frame | apply State.commitRep_frame | apply State.Frame.ite | apply State.Frame.foldl | refine State.Frame.ofPair ?_ (by assumption) | split) | apply State.Frame.foldlFst | refine State.Frame.ofPair ?_ (by assumption) | split | dsimp only)

theorem State.bstDoes_frame (h : s.Frame n o) (hn : Covers n 0x82784a) : ∀ x1 x2, (State.bstDoes s x1 x2).Frame n o := by
  intros
  unfold State.bstDoes
  with_reducible repeat' (first | intro _ | assumption | exact Covers.trans hn (by decide) | apply State.when_frame | apply State.abortChTest_frame | apply State.writeSeal_frame | apply State.startChTest_frame | apply State.Frame.foldl | apply State.Frame.ite | (apply State.Frame.mk' <;> first | exact .inl (Covers.bit hn (by decide)) | exact .inr rfl | assumption | apply State.when_frame | apply State.abortChTest_frame | apply State.writeSeal_frame | apply State.startChTest_frame | apply State.Frame.ite | apply State.Frame.foldl | refine State.Frame.ofPair ?_ (by assumption) | split) | apply State.Frame.foldlFst | refine State.Frame.ofPair ?_ (by assumption) | split | dsimp only)

theorem State.fltDoes_frame (h : s.Frame n o) (hn : Covers n 0xa) : ∀ x1 x2, (State.fltDoes s x1 x2).Frame n o := by
  intros
  unfold State.fltDoes
  with_reducible repeat' (first | intro _ | assumption | exact Covers.trans hn (by decide) | apply State.updErr_frame | apply State.when_frame | apply State.clearCap_frame | apply State.Frame.foldl | apply State.Frame.ite | (apply State.Frame.mk' <;> first | exact .inl (Covers.bit hn (by decide)) | exact .inr rfl | assumption | apply State.updErr_frame | apply State.when_frame | apply State.clearCap_frame | apply State.Frame.ite | apply State.Frame.foldl | refine State.Frame.ofPair ?_ (by assumption) | split) | apply State.Frame.foldlFst | refine State.Frame.ofPair ?_ (by assumption) | split | dsimp only)

theorem State.nvmDoes_frame (h : s.Frame n o) (hn : Covers n 0x82784a) : ∀ x1 x2, (State.nvmDoes s x1 x2).Frame n o := by
  intros
  unfold State.nvmDoes
  with_reducible repeat' (first | intro _ | assumption | exact Covers.trans hn (by decide) | apply State.when_frame | apply State.nvmAdd_frame | apply State.setFld_frame | apply State.commitCal_frame | apply State.Frame.foldl | apply State.Frame.ite | (apply State.Frame.mk' <;> first | exact .inl (Covers.bit hn (by decide)) | exact .inr rfl | assumption | apply State.when_frame | apply State.nvmAdd_frame | apply State.setFld_frame | apply State.commitCal_frame | apply State.Frame.ite | apply State.Frame.foldl | refine State.Frame.ofPair ?_ (by assumption) | split) | apply State.Frame.foldlFst | refine State.Frame.ofPair ?_ (by assumption) | split | dsimp only)

theorem State.resetTarget_frame (h : s.Frame n o) (hn : Covers n 0x27842) : ∀ x1, (State.resetTarget s x1).Frame n o := by
  intros
  unfold State.resetTarget
  with_reducible repeat' (first | intro _ | assumption | exact Covers.trans hn (by decide) | apply State.blockReset_frame | apply State.Frame.foldl | apply State.Frame.ite | (apply State.Frame.mk' <;> first | exact .inl (Covers.bit hn (by decide)) | exact .inr rfl | assumption | apply State.blockReset_frame | apply State.Frame.ite | apply State.Frame.foldl | refine State.Frame.ofPair ?_ (by assumption) | split) | apply State.Frame.foldlFst | refine State.Frame.ofPair ?_ (by assumption) | split | dsimp only)

theorem State.glbDoes_frame (h : s.Frame n o) (hn : Covers n 0x3fffd7e) : ∀ x1 x2, (State.glbDoes s x1 x2).Frame n o := by
  intros
  unfold State.glbDoes
  with_reducible repeat' (first | intro _ | assumption | exact Covers.trans hn (by decide) | apply State.when_frame | apply State.targetWritten_frame | apply State.chipReset_frame | apply State.resetTarget_frame | apply State.setFld_frame | apply State.Frame.foldl | apply State.Frame.ite | (apply State.Frame.mk' <;> first | exact .inl (Covers.bit hn (by decide)) | exact .inr rfl | assumption | apply State.when_frame | apply State.targetWritten_frame | apply State.chipReset_frame | apply State.resetTarget_frame | apply State.setFld_frame | apply State.Frame.ite | apply State.Frame.foldl | refine State.Frame.ofPair ?_ (by assumption) | split) | apply State.Frame.foldlFst | refine State.Frame.ofPair ?_ (by assumption) | split | dsimp only)

theorem State.does_frame (h : s.Frame n o) (hn : Covers n 0x3fffd7e) : ∀ x1 x2 x3 x4 x5, (State.does s x1 x2 x3 x4 x5).Frame n o := by
  intros
  unfold State.does
  with_reducible repeat' (first | intro _ | assumption | exact Covers.trans hn (by decide) | apply State.glbDoes_frame | apply State.ttDoes_frame | apply State.trkDoes_frame | apply State.chnDoes_frame | apply State.vlqDoes_frame | apply State.layDoes_frame | apply State.when_frame | apply State.setFld_frame | apply State.repDoes_frame | apply State.bstDoes_frame | apply State.fltDoes_frame | apply State.nvmDoes_frame | apply State.Frame.foldl | apply State.Frame.ite | (apply State.Frame.mk' <;> first | exact .inl (Covers.bit hn (by decide)) | exact .inr rfl | assumption | apply State.glbDoes_frame | apply State.ttDoes_frame | apply State.trkDoes_frame | apply State.chnDoes_frame | apply State.vlqDoes_frame | apply State.layDoes_frame | apply State.when_frame | apply State.setFld_frame | apply State.repDoes_frame | apply State.bstDoes_frame | apply State.fltDoes_frame | apply State.nvmDoes_frame | apply State.Frame.ite | apply State.Frame.foldl | refine State.Frame.ofPair ?_ (by assumption) | split) | apply State.Frame.foldlFst | refine State.Frame.ofPair ?_ (by assumption) | split | dsimp only)

theorem State.perform_frame (h : s.Frame n o) (hn : Covers n 0x3fffd7e) : ∀ x1 x2, (State.perform s x1 x2).Frame n o := by
  intros
  unfold State.perform
  with_reducible repeat' (first | intro _ | assumption | exact Covers.trans hn (by decide) | apply State.putField_frame | apply State.does_frame | apply State.Frame.foldl | apply State.Frame.ite | (apply State.Frame.mk' <;> first | exact .inl (Covers.bit hn (by decide)) | exact .inr rfl | assumption | apply State.putField_frame | apply State.does_frame | apply State.Frame.ite | apply State.Frame.foldl | refine State.Frame.ofPair ?_ (by assumption) | split) | apply State.Frame.foldlFst | refine State.Frame.ofPair ?_ (by assumption) | split | dsimp only)

theorem State.writeHit_frame (h : s.Frame n o) (hn : Covers n 0x3fffd7e) : ∀ x1 x2 x3 x4, (State.writeHit s x1 x2 x3 x4).1.Frame n o := by
  intros
  unfold State.writeHit
  with_reducible repeat' (first | intro _ | assumption | exact Covers.trans hn (by decide) | apply State.refused_frame | apply State.voteRegs_frame | apply State.perform_frame | apply State.Frame.foldl | apply State.Frame.ite | (apply State.Frame.mk' <;> first | exact .inl (Covers.bit hn (by decide)) | exact .inr rfl | assumption | apply State.refused_frame | apply State.voteRegs_frame | apply State.perform_frame | apply State.Frame.ite | apply State.Frame.foldl | refine State.Frame.ofPair ?_ (by assumption) | split) | apply State.Frame.foldlFst | refine State.Frame.ofPair ?_ (by assumption) | split | dsimp only)

theorem State.regRead_frame (h : s.Frame n o) (hn : Covers n 0x82784e) : ∀ x1 x2 x3, (State.regRead s x1 x2 x3).1.Frame n o := by
  intros
  unfold State.regRead
  with_reducible repeat' (first | intro _ | assumption | exact Covers.trans hn (by decide) | apply State.noteBad_frame | apply State.voteRegs_frame | apply State.Frame.foldl | apply State.Frame.ite | (apply State.Frame.mk' <;> first | exact .inl (Covers.bit hn (by decide)) | exact .inr rfl | assumption | apply State.noteBad_frame | apply State.voteRegs_frame | apply State.Frame.ite | apply State.Frame.foldl | refine State.Frame.ofPair ?_ (by assumption) | split) | apply State.Frame.foldlFst | refine State.Frame.ofPair ?_ (by assumption) | split | dsimp only)

theorem State.regWrite_frame (h : s.Frame n o) (hn : Covers n 0x3fffd7e) : ∀ x1 x2 x3 x4, (State.regWrite s x1 x2 x3 x4).1.Frame n o := by
  intros
  unfold State.regWrite
  with_reducible repeat' (first | intro _ | assumption | exact Covers.trans hn (by decide) | apply State.noteBad_frame | apply State.writeHit_frame | apply State.Frame.foldl | apply State.Frame.ite | (apply State.Frame.mk' <;> first | exact .inl (Covers.bit hn (by decide)) | exact .inr rfl | assumption | apply State.noteBad_frame | apply State.writeHit_frame | apply State.Frame.ite | apply State.Frame.foldl | refine State.Frame.ofPair ?_ (by assumption) | split) | apply State.Frame.foldlFst | refine State.Frame.ofPair ?_ (by assumption) | split | dsimp only)

theorem State.portRead_frame (h : s.Frame n o) (hn : Covers n 0x82784e) : ∀ x1, (State.portRead s x1).1.Frame n o := by
  intros
  unfold State.portRead
  with_reducible repeat' (first | intro _ | assumption | exact Covers.trans hn (by decide) | apply State.noteBad_frame | apply State.voteRegs_frame | apply State.Frame.foldl | apply State.Frame.ite | (apply State.Frame.mk' <;> first | exact .inl (Covers.bit hn (by decide)) | exact .inr rfl | assumption | apply State.noteBad_frame | apply State.voteRegs_frame | apply State.Frame.ite | apply State.Frame.foldl | refine State.Frame.ofPair ?_ (by assumption) | split) | apply State.Frame.foldlFst | refine State.Frame.ofPair ?_ (by assumption) | split | dsimp only)

theorem State.portWrite_frame (h : s.Frame n o) (hn : Covers n 0x3fffd7e) : ∀ x1 x2, (State.portWrite s x1 x2).1.Frame n o := by
  intros
  unfold State.portWrite
  with_reducible repeat' (first | intro _ | assumption | exact Covers.trans hn (by decide) | apply State.noteBad_frame | apply State.writeHit_frame | apply State.Frame.foldl | apply State.Frame.ite | (apply State.Frame.mk' <;> first | exact .inl (Covers.bit hn (by decide)) | exact .inr rfl | assumption | apply State.noteBad_frame | apply State.writeHit_frame | apply State.Frame.ite | apply State.Frame.foldl | refine State.Frame.ofPair ?_ (by assumption) | split) | apply State.Frame.foldlFst | refine State.Frame.ofPair ?_ (by assumption) | split | dsimp only)

/-! ### Requests -/

theorem State.answerAt_frame (h : s.Frame n o) (hn : Covers n 0x62) : ∀ x1 x2 x3 x4 x5, (State.answerAt s x1 x2 x3 x4 x5).Frame n o := by
  intros
  unfold State.answerAt
  with_reducible repeat' (first | intro _ | assumption | exact Covers.trans hn (by decide) | apply State.respond_frame | apply State.returnFor_frame | apply State.Frame.foldl | apply State.Frame.ite | (apply State.Frame.mk' <;> first | exact .inl (Covers.bit hn (by decide)) | exact .inr rfl | assumption | apply State.respond_frame | apply State.returnFor_frame | apply State.Frame.ite | apply State.Frame.foldl | refine State.Frame.ofPair ?_ (by assumption) | split) | apply State.Frame.foldlFst | refine State.Frame.ofPair ?_ (by assumption) | split | dsimp only)

theorem State.answerBad_frame (h : s.Frame n o) (hn : Covers n 0x82786a) : ∀ x1 x2 x3 x4, (State.answerBad s x1 x2 x3 x4).Frame n o := by
  intros
  unfold State.answerBad
  with_reducible repeat' (first | intro _ | assumption | exact Covers.trans hn (by decide) | apply State.answerAt_frame | apply State.malformed_frame | apply State.Frame.foldl | apply State.Frame.ite | (apply State.Frame.mk' <;> first | exact .inl (Covers.bit hn (by decide)) | exact .inr rfl | assumption | apply State.answerAt_frame | apply State.malformed_frame | apply State.Frame.ite | apply State.Frame.foldl | refine State.Frame.ofPair ?_ (by assumption) | split) | apply State.Frame.foldlFst | refine State.Frame.ofPair ?_ (by assumption) | split | dsimp only)

theorem State.memRequest_frame (h : s.Frame n o) (hn : Covers n 0xc278ea) : ∀ x1 x2, (State.memRequest s x1 x2).Frame n o := by
  intros
  unfold State.memRequest
  with_reducible repeat' (first | intro _ | assumption | exact Covers.trans hn (by decide) | apply State.takeIn_frame | apply State.answerBad_frame | apply State.answerAt_frame | apply State.gradeReq_frame | apply State.modSes_frame | apply State.Frame.foldl | apply State.Frame.ite | (apply State.Frame.mk' <;> first | exact .inl (Covers.bit hn (by decide)) | exact .inr rfl | assumption | apply State.takeIn_frame | apply State.answerBad_frame | apply State.answerAt_frame | apply State.gradeReq_frame | apply State.modSes_frame | apply State.Frame.ite | apply State.Frame.foldl | refine State.Frame.ofPair ?_ (by assumption) | split) | apply State.Frame.foldlFst | refine State.Frame.ofPair ?_ (by assumption) | split | dsimp only)

theorem execRd_frame (h : s.Frame n o) (hn : Covers n 0xc278ea) : ∀ x0 x1, Out.Frame n o (execRd x0 x1 s) := by
  intros
  unfold execRd
  with_reducible repeat' (first | intro _ | assumption | exact Covers.trans hn (by decide) | apply State.memRequest_frame | apply State.Frame.foldl | apply Out.Frame.next | apply State.Frame.ite | (apply State.Frame.mk' <;> first | exact .inl (Covers.bit hn (by decide)) | exact .inr rfl | assumption | apply State.memRequest_frame | apply State.Frame.ite | apply State.Frame.foldl | refine State.Frame.ofPair ?_ (by assumption) | split) | apply State.Frame.foldlFst | refine State.Frame.ofPair ?_ (by assumption) | split | dsimp only)

theorem execWr_frame (h : s.Frame n o) (hn : Covers n 0xc278ea) : ∀ x0 x1, Out.Frame n o (execWr x0 x1 s) := by
  intros
  unfold execWr
  with_reducible repeat' (first | intro _ | assumption | exact Covers.trans hn (by decide) | apply State.memRequest_frame | apply State.Frame.foldl | apply Out.Frame.next | apply State.Frame.ite | (apply State.Frame.mk' <;> first | exact .inl (Covers.bit hn (by decide)) | exact .inr rfl | assumption | apply State.memRequest_frame | apply State.Frame.ite | apply State.Frame.foldl | refine State.Frame.ofPair ?_ (by assumption) | split) | apply State.Frame.foldlFst | refine State.Frame.ofPair ?_ (by assumption) | split | dsimp only)

theorem execWrm_frame (h : s.Frame n o) (hn : Covers n 0xc278ea) : ∀ x0 x1, Out.Frame n o (execWrm x0 x1 s) := by
  intros
  unfold execWrm
  with_reducible repeat' (first | intro _ | assumption | exact Covers.trans hn (by decide) | apply State.memRequest_frame | apply State.Frame.foldl | apply Out.Frame.next | apply State.Frame.ite | (apply State.Frame.mk' <;> first | exact .inl (Covers.bit hn (by decide)) | exact .inr rfl | assumption | apply State.memRequest_frame | apply State.Frame.ite | apply State.Frame.foldl | refine State.Frame.ofPair ?_ (by assumption) | split) | apply State.Frame.foldlFst | refine State.Frame.ofPair ?_ (by assumption) | split | dsimp only)

theorem State.doReg_frame (h : s.Frame n o) (hn : Covers n 0x3fffd7e) : ∀ x1 x2 x3, (State.doReg s x1 x2 x3).Frame n o := by
  intros
  unfold State.doReg
  with_reducible repeat' (first | intro _ | assumption | exact Covers.trans hn (by decide) | apply State.returnFor_frame | apply State.regRead_frame | apply State.respond_frame | apply State.regWrite_frame | apply State.Frame.foldl | apply State.Frame.ite | (apply State.Frame.mk' <;> first | exact .inl (Covers.bit hn (by decide)) | exact .inr rfl | assumption | apply State.returnFor_frame | apply State.regRead_frame | apply State.respond_frame | apply State.regWrite_frame | apply State.Frame.ite | apply State.Frame.foldl | refine State.Frame.ofPair ?_ (by assumption) | split) | apply State.Frame.foldlFst | refine State.Frame.ofPair ?_ (by assumption) | split | dsimp only)

theorem State.regRequest_frame (h : s.Frame n o) (hn : Covers n 0x3fffdfe) : ∀ x1 x2, (State.regRequest s x1 x2).Frame n o := by
  intros
  unfold State.regRequest
  with_reducible repeat' (first | intro _ | assumption | exact Covers.trans hn (by decide) | apply State.takeIn_frame | apply State.answerBad_frame | apply State.modSes_frame | apply State.doReg_frame | apply State.Frame.foldl | apply State.Frame.ite | (apply State.Frame.mk' <;> first | exact .inl (Covers.bit hn (by decide)) | exact .inr rfl | assumption | apply State.takeIn_frame | apply State.answerBad_frame | apply State.modSes_frame | apply State.doReg_frame | apply State.Frame.ite | apply State.Frame.foldl | refine State.Frame.ofPair ?_ (by assumption) | split) | apply State.Frame.foldlFst | refine State.Frame.ofPair ?_ (by assumption) | split | dsimp only)

theorem execRrd_frame (h : s.Frame n o) (hn : Covers n 0x3fffdfe) : ∀ x0 x1, Out.Frame n o (execRrd x0 x1 s) := by
  intros
  unfold execRrd
  with_reducible repeat' (first | intro _ | assumption | exact Covers.trans hn (by decide) | apply State.regRequest_frame | apply State.Frame.foldl | apply Out.Frame.next | apply State.Frame.ite | (apply State.Frame.mk' <;> first | exact .inl (Covers.bit hn (by decide)) | exact .inr rfl | assumption | apply State.regRequest_frame | apply State.Frame.ite | apply State.Frame.foldl | refine State.Frame.ofPair ?_ (by assumption) | split) | apply State.Frame.foldlFst | refine State.Frame.ofPair ?_ (by assumption) | split | dsimp only)

theorem execFen_frame (h : s.Frame n o) (hn : Covers n 0xc278ea) : ∀ x0 x1, Out.Frame n o (execFen x0 x1 s) := by
  intros
  unfold execFen
  with_reducible repeat' (first | intro _ | assumption | exact Covers.trans hn (by decide) | apply State.takeIn_frame | apply State.answerBad_frame | apply State.modSes_frame | apply State.Frame.foldl | apply Out.Frame.next | apply State.Frame.ite | (apply State.Frame.mk' <;> first | exact .inl (Covers.bit hn (by decide)) | exact .inr rfl | assumption | apply State.takeIn_frame | apply State.answerBad_frame | apply State.modSes_frame | apply State.Frame.ite | apply State.Frame.foldl | refine State.Frame.ofPair ?_ (by assumption) | split) | apply State.Frame.foldlFst | refine State.Frame.ofPair ?_ (by assumption) | split | dsimp only)

theorem State.freeRegs_frame (h : s.Frame n o) (hn : Covers n 0x3fffd7e) : ∀ x1, (State.freeRegs s x1).Frame n o := by
  intros
  unfold State.freeRegs
  with_reducible repeat' (first | intro _ | assumption | exact Covers.trans hn (by decide) | apply State.doReg_frame | apply State.modSes_frame | apply State.Frame.foldl | apply State.Frame.ite | (apply State.Frame.mk' <;> first | exact .inl (Covers.bit hn (by decide)) | exact .inr rfl | assumption | apply State.doReg_frame | apply State.modSes_frame | apply State.Frame.ite | apply State.Frame.foldl | refine State.Frame.ofPair ?_ (by assumption) | split) | apply State.Frame.foldlFst | refine State.Frame.ofPair ?_ (by assumption) | split | dsimp only)

theorem execFenceRelease_frame (h : s.Frame n o) (hn : Covers n 0x3fffd7e) : ∀ x0 x1, Out.Frame n o (execFenceRelease x0 x1 s) := by
  intros
  unfold execFenceRelease
  with_reducible repeat' (first | intro _ | assumption | exact Covers.trans hn (by decide) | apply State.modSes_frame | apply State.answerAt_frame | apply State.freeRegs_frame | apply State.Frame.foldl | apply Out.Frame.next | apply State.Frame.ite | (apply State.Frame.mk' <;> first | exact .inl (Covers.bit hn (by decide)) | exact .inr rfl | assumption | apply State.modSes_frame | apply State.answerAt_frame | apply State.freeRegs_frame | apply State.Frame.ite | apply State.Frame.foldl | refine State.Frame.ofPair ?_ (by assumption) | split) | apply State.Frame.foldlFst | refine State.Frame.ofPair ?_ (by assumption) | split | dsimp only)

theorem execNul_frame (h : s.Frame n o) (hn : Covers n 0xc278ea) : ∀ x0 x1, Out.Frame n o (execNul x0 x1 s) := by
  intros
  unfold execNul
  with_reducible repeat' (first | intro _ | assumption | exact Covers.trans hn (by decide) | apply State.takeIn_frame | apply State.takeAck_frame | apply State.malformed_frame | apply State.Frame.foldl | apply Out.Frame.next | apply State.Frame.ite | (apply State.Frame.mk' <;> first | exact .inl (Covers.bit hn (by decide)) | exact .inr rfl | assumption | apply State.takeIn_frame | apply State.takeAck_frame | apply State.malformed_frame | apply State.Frame.ite | apply State.Frame.foldl | refine State.Frame.ofPair ?_ (by assumption) | split) | apply State.Frame.foldlFst | refine State.Frame.ofPair ?_ (by assumption) | split | dsimp only)

end Sys2Proof.Machine
end

