-- ==== Sys2Proof/Laws/FrameL.lean ====
section
/-! SUPPORT. Which parts of State each operation leaves, of RegCmds, Port. -/
namespace Sys2Proof.Machine

set_option linter.all false

variable {n : Nat} {o s : State}

/-! ### RegCmds -/

theorem State.scan_frame {g : State → State × BitVec 64} (h : s.Frame n o) (hn : Covers n 0x1000000)
    (hg : ∀ s, s.Frame n o → (g s).1.Frame n o) : (s.scan g).Frame n o := by
  have e : n.testBit 24 = true := Covers.bit hn (by decide)
  unfold State.scan
  dsimp only
  split
  · exact h
  split
  · exact State.Frame.set_wrap (State.Frame.set_wrap h e) e
  · exact State.Frame.set_wrap (hg _ (State.Frame.set_wrap h e)) e

theorem State.scanRead_frame (h : s.Frame n o) (hn : Covers n 0x182784e) : ∀ x1, (State.scanRead s x1).Frame n o := by
  intros
  unfold State.scanRead
  with_reducible repeat' (first | intro _ | assumption | exact Covers.trans hn (by decide) | apply State.scan_frame | apply State.portRead_frame | apply State.Frame.foldl | apply State.Frame.ite | (apply State.Frame.mk' <;> first | exact .inl (Covers.bit hn (by decide)) | exact .inr rfl | assumption | apply State.scan_frame | apply State.portRead_frame | apply State.Frame.ite | apply State.Frame.foldl | refine State.Frame.ofPair ?_ (by assumption) | split) | apply State.Frame.foldlFst | refine State.Frame.ofPair ?_ (by assumption) | split | dsimp only)

theorem State.scanWrite_frame (h : s.Frame n o) (hn : Covers n 0x3fffd7e) : ∀ x1 x2, (State.scanWrite s x1 x2).Frame n o := by
  intros
  unfold State.scanWrite
  with_reducible repeat' (first | intro _ | assumption | exact Covers.trans hn (by decide) | apply State.scan_frame | apply State.portWrite_frame | apply State.Frame.foldl | apply State.Frame.ite | (apply State.Frame.mk' <;> first | exact .inl (Covers.bit hn (by decide)) | exact .inr rfl | assumption | apply State.scan_frame | apply State.portWrite_frame | apply State.Frame.ite | apply State.Frame.foldl | refine State.Frame.ofPair ?_ (by assumption) | split) | apply State.Frame.foldlFst | refine State.Frame.ofPair ?_ (by assumption) | split | dsimp only)

theorem State.writeFrom_frame (h : s.Frame n o) (hn : Covers n 0x3fffdfe) : ∀ x1 x2 x3 x4, (State.writeFrom s x1 x2 x3 x4).Frame n o := by
  intros
  unfold State.writeFrom
  with_reducible repeat' (first | intro _ | assumption | exact Covers.trans hn (by decide) | apply State.regRequest_frame | apply State.scanWrite_frame | apply State.Frame.foldl | apply State.Frame.ite | (apply State.Frame.mk' <;> first | exact .inl (Covers.bit hn (by decide)) | exact .inr rfl | assumption | apply State.regRequest_frame | apply State.scanWrite_frame | apply State.Frame.ite | apply State.Frame.foldl | refine State.Frame.ofPair ?_ (by assumption) | split) | apply State.Frame.foldlFst | refine State.Frame.ofPair ?_ (by assumption) | split | dsimp only)

theorem State.writeWord_frame (h : s.Frame n o) (hn : Covers n 0x3fffdfe) : ∀ x1 x2 x3 x4 x5, (State.writeWord s x1 x2 x3 x4 x5).Frame n o := by
  intros
  unfold State.writeWord
  with_reducible repeat' (first | intro _ | assumption | exact Covers.trans hn (by decide) | apply State.writeFrom_frame | apply State.Frame.foldl | apply State.Frame.ite | (apply State.Frame.mk' <;> first | exact .inl (Covers.bit hn (by decide)) | exact .inr rfl | assumption | apply State.writeFrom_frame | apply State.Frame.ite | apply State.Frame.foldl | refine State.Frame.ofPair ?_ (by assumption) | split) | apply State.Frame.foldlFst | refine State.Frame.ofPair ?_ (by assumption) | split | dsimp only)

theorem State.writeCmd_frame (h : s.Frame n o) (hn : Covers n 0x3fffdfe) : ∀ x1 x2 x3 x4 x5, (State.writeCmd s x1 x2 x3 x4 x5).Frame n o := by
  intros
  unfold State.writeCmd
  with_reducible repeat' (first | intro _ | assumption | exact Covers.trans hn (by decide) | apply State.writeWord_frame | apply State.Frame.foldl | apply State.Frame.ite | (apply State.Frame.mk' <;> first | exact .inl (Covers.bit hn (by decide)) | exact .inr rfl | assumption | apply State.writeWord_frame | apply State.Frame.ite | apply State.Frame.foldl | refine State.Frame.ofPair ?_ (by assumption) | split) | apply State.Frame.foldlFst | refine State.Frame.ofPair ?_ (by assumption) | split | dsimp only)

theorem execRegWrite_frame (h : s.Frame n o) (hn : Covers n 0x3fffdfe) : ∀ x0 x1 x2 x3, Out.Frame n o (execRegWrite x0 x1 x2 x3 s) := by
  intros
  unfold execRegWrite
  with_reducible repeat' (first | intro _ | assumption | exact Covers.trans hn (by decide) | apply State.writeFrom_frame | apply State.Frame.foldl | apply Out.Frame.next | apply State.Frame.ite | (apply State.Frame.mk' <;> first | exact .inl (Covers.bit hn (by decide)) | exact .inr rfl | assumption | apply State.writeFrom_frame | apply State.Frame.ite | apply State.Frame.foldl | refine State.Frame.ofPair ?_ (by assumption) | split) | apply State.Frame.foldlFst | refine State.Frame.ofPair ?_ (by assumption) | split | dsimp only)

theorem execTtFrameLoad_frame (h : s.Frame n o) (hn : Covers n 0x3fffdfe) : ∀ x0 x1, Out.Frame n o (execTtFrameLoad x0 x1 s) := by
  intros
  unfold execTtFrameLoad
  with_reducible repeat' (first | intro _ | assumption | exact Covers.trans hn (by decide) | apply State.writeFrom_frame | apply State.Frame.foldl | apply Out.Frame.next | apply State.Frame.ite | (apply State.Frame.mk' <;> first | exact .inl (Covers.bit hn (by decide)) | exact .inr rfl | assumption | apply State.writeFrom_frame | apply State.Frame.ite | apply State.Frame.foldl | refine State.Frame.ofPair ?_ (by assumption) | split) | apply State.Frame.foldlFst | refine State.Frame.ofPair ?_ (by assumption) | split | dsimp only)

theorem execTtStageHold_frame (h : s.Frame n o) (hn : Covers n 0x3fffdfe) : ∀ x0 x1, Out.Frame n o (execTtStageHold x0 x1 s) := by
  intros
  unfold execTtStageHold
  with_reducible repeat' (first | intro _ | assumption | exact Covers.trans hn (by decide) | apply State.writeWord_frame | apply State.Frame.foldl | apply Out.Frame.next | apply State.Frame.ite | (apply State.Frame.mk' <;> first | exact .inl (Covers.bit hn (by decide)) | exact .inr rfl | assumption | apply State.writeWord_frame | apply State.Frame.ite | apply State.Frame.foldl | refine State.Frame.ofPair ?_ (by assumption) | split) | apply State.Frame.foldlFst | refine State.Frame.ofPair ?_ (by assumption) | split | dsimp only)

theorem execLaneSpareGo_frame (h : s.Frame n o) (hn : Covers n 0x3fffdfe) : ∀ x0 x1 x2, Out.Frame n o (execLaneSpareGo x0 x1 x2 s) := by
  intros
  unfold execLaneSpareGo
  with_reducible repeat' (first | intro _ | assumption | exact Covers.trans hn (by decide) | apply State.writeCmd_frame | apply State.Frame.foldl | apply Out.Frame.next | apply State.Frame.ite | (apply State.Frame.mk' <;> first | exact .inl (Covers.bit hn (by decide)) | exact .inr rfl | assumption | apply State.writeCmd_frame | apply State.Frame.ite | apply State.Frame.foldl | refine State.Frame.ofPair ?_ (by assumption) | split) | apply State.Frame.foldlFst | refine State.Frame.ofPair ?_ (by assumption) | split | dsimp only)

theorem execLaneCntClr_frame (h : s.Frame n o) (hn : Covers n 0x3fffdfe) : ∀ x0 x1 x2, Out.Frame n o (execLaneCntClr x0 x1 x2 s) := by
  intros
  unfold execLaneCntClr
  with_reducible repeat' (first | intro _ | assumption | exact Covers.trans hn (by decide) | apply State.writeCmd_frame | apply State.Frame.foldl | apply Out.Frame.next | apply State.Frame.ite | (apply State.Frame.mk' <;> first | exact .inl (Covers.bit hn (by decide)) | exact .inr rfl | assumption | apply State.writeCmd_frame | apply State.Frame.ite | apply State.Frame.foldl | refine State.Frame.ofPair ?_ (by assumption) | split) | apply State.Frame.foldlFst | refine State.Frame.ofPair ?_ (by assumption) | split | dsimp only)

theorem execSpareStateWrite_frame (h : s.Frame n o) (hn : Covers n 0x3fffdfe) : ∀ x0 x1 x2 x3, Out.Frame n o (execSpareStateWrite x0 x1 x2 x3 s) := by
  intros
  unfold execSpareStateWrite
  with_reducible repeat' (first | intro _ | assumption | exact Covers.trans hn (by decide) | apply State.writeWord_frame | apply State.Frame.foldl | apply Out.Frame.next | apply State.Frame.ite | (apply State.Frame.mk' <;> first | exact .inl (Covers.bit hn (by decide)) | exact .inr rfl | assumption | apply State.writeWord_frame | apply State.Frame.ite | apply State.Frame.foldl | refine State.Frame.ofPair ?_ (by assumption) | split) | apply State.Frame.foldlFst | refine State.Frame.ofPair ?_ (by assumption) | split | dsimp only)

theorem execPrbsCtlWrite_frame (h : s.Frame n o) (hn : Covers n 0x3fffdfe) : ∀ x0 x1 x2 x3, Out.Frame n o (execPrbsCtlWrite x0 x1 x2 x3 s) := by
  intros
  unfold execPrbsCtlWrite
  with_reducible repeat' (first | intro _ | assumption | exact Covers.trans hn (by decide) | apply State.writeWord_frame | apply State.Frame.foldl | apply Out.Frame.next | apply State.Frame.ite | (apply State.Frame.mk' <;> first | exact .inl (Covers.bit hn (by decide)) | exact .inr rfl | assumption | apply State.writeWord_frame | apply State.Frame.ite | apply State.Frame.foldl | refine State.Frame.ofPair ?_ (by assumption) | split) | apply State.Frame.foldlFst | refine State.Frame.ofPair ?_ (by assumption) | split | dsimp only)

theorem execInjGo_frame (h : s.Frame n o) (hn : Covers n 0x3fffdfe) : ∀ x0 x1 x2 x3, Out.Frame n o (execInjGo x0 x1 x2 x3 s) := by
  intros
  unfold execInjGo
  with_reducible repeat' (first | intro _ | assumption | exact Covers.trans hn (by decide) | apply State.writeCmd_frame | apply State.Frame.foldl | apply Out.Frame.next | apply State.Frame.ite | (apply State.Frame.mk' <;> first | exact .inl (Covers.bit hn (by decide)) | exact .inr rfl | assumption | apply State.writeCmd_frame | apply State.Frame.ite | apply State.Frame.foldl | refine State.Frame.ofPair ?_ (by assumption) | split) | apply State.Frame.foldlFst | refine State.Frame.ofPair ?_ (by assumption) | split | dsimp only)

theorem execTrainRetrain_frame (h : s.Frame n o) (hn : Covers n 0x3fffdfe) : ∀ x0 x1 x2, Out.Frame n o (execTrainRetrain x0 x1 x2 s) := by
  intros
  unfold execTrainRetrain
  with_reducible repeat' (first | intro _ | assumption | exact Covers.trans hn (by decide) | apply State.writeCmd_frame | apply State.Frame.foldl | apply Out.Frame.next | apply State.Frame.ite | (apply State.Frame.mk' <;> first | exact .inl (Covers.bit hn (by decide)) | exact .inr rfl | assumption | apply State.writeCmd_frame | apply State.Frame.ite | apply State.Frame.foldl | refine State.Frame.ofPair ?_ (by assumption) | split) | apply State.Frame.foldlFst | refine State.Frame.ofPair ?_ (by assumption) | split | dsimp only)

theorem execFovGo_frame (h : s.Frame n o) (hn : Covers n 0x3fffdfe) : ∀ x0 x1 x2, Out.Frame n o (execFovGo x0 x1 x2 s) := by
  intros
  unfold execFovGo
  with_reducible repeat' (first | intro _ | assumption | exact Covers.trans hn (by decide) | apply State.writeCmd_frame | apply State.Frame.foldl | apply Out.Frame.next | apply State.Frame.ite | (apply State.Frame.mk' <;> first | exact .inl (Covers.bit hn (by decide)) | exact .inr rfl | assumption | apply State.writeCmd_frame | apply State.Frame.ite | apply State.Frame.foldl | refine State.Frame.ofPair ?_ (by assumption) | split) | apply State.Frame.foldlFst | refine State.Frame.ofPair ?_ (by assumption) | split | dsimp only)

theorem execChnEnWrite_frame (h : s.Frame n o) (hn : Covers n 0x3fffdfe) : ∀ x0 x1 x2, Out.Frame n o (execChnEnWrite x0 x1 x2 s) := by
  intros
  unfold execChnEnWrite
  with_reducible repeat' (first | intro _ | assumption | exact Covers.trans hn (by decide) | apply State.writeWord_frame | apply State.Frame.foldl | apply Out.Frame.next | apply State.Frame.ite | (apply State.Frame.mk' <;> first | exact .inl (Covers.bit hn (by decide)) | exact .inr rfl | assumption | apply State.writeWord_frame | apply State.Frame.ite | apply State.Frame.foldl | refine State.Frame.ofPair ?_ (by assumption) | split) | apply State.Frame.foldlFst | refine State.Frame.ofPair ?_ (by assumption) | split | dsimp only)

theorem execChnBlkRst_frame (h : s.Frame n o) (hn : Covers n 0x3fffdfe) : ∀ x0 x1 x2, Out.Frame n o (execChnBlkRst x0 x1 x2 s) := by
  intros
  unfold execChnBlkRst
  with_reducible repeat' (first | intro _ | assumption | exact Covers.trans hn (by decide) | apply State.writeCmd_frame | apply State.Frame.foldl | apply Out.Frame.next | apply State.Frame.ite | (apply State.Frame.mk' <;> first | exact .inl (Covers.bit hn (by decide)) | exact .inr rfl | assumption | apply State.writeCmd_frame | apply State.Frame.ite | apply State.Frame.foldl | refine State.Frame.ofPair ?_ (by assumption) | split) | apply State.Frame.foldlFst | refine State.Frame.ofPair ?_ (by assumption) | split | dsimp only)

theorem execChnSwap_frame (h : s.Frame n o) (hn : Covers n 0x3fffdfe) : ∀ x0 x1 x2, Out.Frame n o (execChnSwap x0 x1 x2 s) := by
  intros
  unfold execChnSwap
  with_reducible repeat' (first | intro _ | assumption | exact Covers.trans hn (by decide) | apply State.writeCmd_frame | apply State.Frame.foldl | apply Out.Frame.next | apply State.Frame.ite | (apply State.Frame.mk' <;> first | exact .inl (Covers.bit hn (by decide)) | exact .inr rfl | assumption | apply State.writeCmd_frame | apply State.Frame.ite | apply State.Frame.foldl | refine State.Frame.ofPair ?_ (by assumption) | split) | apply State.Frame.foldlFst | refine State.Frame.ofPair ?_ (by assumption) | split | dsimp only)

theorem execBwrGuaranteeWrite_frame (h : s.Frame n o) (hn : Covers n 0x3fffdfe) : ∀ x0 x1 x2, Out.Frame n o (execBwrGuaranteeWrite x0 x1 x2 s) := by
  intros
  unfold execBwrGuaranteeWrite
  with_reducible repeat' (first | intro _ | assumption | exact Covers.trans hn (by decide) | apply State.writeFrom_frame | apply State.Frame.foldl | apply Out.Frame.next | apply State.Frame.ite | (apply State.Frame.mk' <;> first | exact .inl (Covers.bit hn (by decide)) | exact .inr rfl | assumption | apply State.writeFrom_frame | apply State.Frame.ite | apply State.Frame.foldl | refine State.Frame.ofPair ?_ (by assumption) | split) | apply State.Frame.foldlFst | refine State.Frame.ofPair ?_ (by assumption) | split | dsimp only)

theorem execVlqRetuneGo_frame (h : s.Frame n o) (hn : Covers n 0x3fffdfe) : ∀ x0 x1 x2, Out.Frame n o (execVlqRetuneGo x0 x1 x2 s) := by
  intros
  unfold execVlqRetuneGo
  with_reducible repeat' (first | intro _ | assumption | exact Covers.trans hn (by decide) | apply State.writeCmd_frame | apply State.Frame.foldl | apply Out.Frame.next | apply State.Frame.ite | (apply State.Frame.mk' <;> first | exact .inl (Covers.bit hn (by decide)) | exact .inr rfl | assumption | apply State.writeCmd_frame | apply State.Frame.ite | apply State.Frame.foldl | refine State.Frame.ofPair ?_ (by assumption) | split) | apply State.Frame.foldlFst | refine State.Frame.ofPair ?_ (by assumption) | split | dsimp only)

theorem execVlqRetrain_frame (h : s.Frame n o) (hn : Covers n 0x3fffdfe) : ∀ x0 x1 x2, Out.Frame n o (execVlqRetrain x0 x1 x2 s) := by
  intros
  unfold execVlqRetrain
  with_reducible repeat' (first | intro _ | assumption | exact Covers.trans hn (by decide) | apply State.writeCmd_frame | apply State.Frame.foldl | apply Out.Frame.next | apply State.Frame.ite | (apply State.Frame.mk' <;> first | exact .inl (Covers.bit hn (by decide)) | exact .inr rfl | assumption | apply State.writeCmd_frame | apply State.Frame.ite | apply State.Frame.foldl | refine State.Frame.ofPair ?_ (by assumption) | split) | apply State.Frame.foldlFst | refine State.Frame.ofPair ?_ (by assumption) | split | dsimp only)

theorem execColSpareGo_frame (h : s.Frame n o) (hn : Covers n 0x3fffdfe) : ∀ x0 x1 x2, Out.Frame n o (execColSpareGo x0 x1 x2 s) := by
  intros
  unfold execColSpareGo
  with_reducible repeat' (first | intro _ | assumption | exact Covers.trans hn (by decide) | apply State.writeCmd_frame | apply State.Frame.foldl | apply Out.Frame.next | apply State.Frame.ite | (apply State.Frame.mk' <;> first | exact .inl (Covers.bit hn (by decide)) | exact .inr rfl | assumption | apply State.writeCmd_frame | apply State.Frame.ite | apply State.Frame.foldl | refine State.Frame.ofPair ?_ (by assumption) | split) | apply State.Frame.foldlFst | refine State.Frame.ofPair ?_ (by assumption) | split | dsimp only)

theorem execRelayRst_frame (h : s.Frame n o) (hn : Covers n 0x3fffdfe) : ∀ x0 x1 x2, Out.Frame n o (execRelayRst x0 x1 x2 s) := by
  intros
  unfold execRelayRst
  with_reducible repeat' (first | intro _ | assumption | exact Covers.trans hn (by decide) | apply State.writeCmd_frame | apply State.Frame.foldl | apply Out.Frame.next | apply State.Frame.ite | (apply State.Frame.mk' <;> first | exact .inl (Covers.bit hn (by decide)) | exact .inr rfl | assumption | apply State.writeCmd_frame | apply State.Frame.ite | apply State.Frame.foldl | refine State.Frame.ofPair ?_ (by assumption) | split) | apply State.Frame.foldlFst | refine State.Frame.ofPair ?_ (by assumption) | split | dsimp only)

theorem execCrst_frame (h : s.Frame n o) (hn : Covers n 0x3fffdfe) : ∀ x0 x1 x2, Out.Frame n o (execCrst x0 x1 x2 s) := by
  intros
  unfold execCrst
  with_reducible repeat' (first | intro _ | assumption | exact Covers.trans hn (by decide) | apply State.writeCmd_frame | apply State.Frame.foldl | apply Out.Frame.next | apply State.Frame.ite | (apply State.Frame.mk' <;> first | exact .inl (Covers.bit hn (by decide)) | exact .inr rfl | assumption | apply State.writeCmd_frame | apply State.Frame.ite | apply State.Frame.foldl | refine State.Frame.ofPair ?_ (by assumption) | split) | apply State.Frame.foldlFst | refine State.Frame.ofPair ?_ (by assumption) | split | dsimp only)

theorem execVmapClear_frame (h : s.Frame n o) (hn : Covers n 0x3fffdfe) : ∀ x0 x1, Out.Frame n o (execVmapClear x0 x1 s) := by
  intros
  unfold execVmapClear
  with_reducible repeat' (first | intro _ | assumption | exact Covers.trans hn (by decide) | apply State.writeCmd_frame | apply State.Frame.foldl | apply Out.Frame.next | apply State.Frame.ite | (apply State.Frame.mk' <;> first | exact .inl (Covers.bit hn (by decide)) | exact .inr rfl | assumption | apply State.writeCmd_frame | apply State.Frame.ite | apply State.Frame.foldl | refine State.Frame.ofPair ?_ (by assumption) | split) | apply State.Frame.foldlFst | refine State.Frame.ofPair ?_ (by assumption) | split | dsimp only)

theorem execFlipArm_frame (h : s.Frame n o) (hn : Covers n 0x3fffdfe) : ∀ x0 x1 x2, Out.Frame n o (execFlipArm x0 x1 x2 s) := by
  intros
  unfold execFlipArm
  with_reducible repeat' (first | intro _ | assumption | exact Covers.trans hn (by decide) | apply State.writeCmd_frame | apply State.Frame.foldl | apply Out.Frame.next | apply State.Frame.ite | (apply State.Frame.mk' <;> first | exact .inl (Covers.bit hn (by decide)) | exact .inr rfl | assumption | apply State.writeCmd_frame | apply State.Frame.ite | apply State.Frame.foldl | refine State.Frame.ofPair ?_ (by assumption) | split) | apply State.Frame.foldlFst | refine State.Frame.ofPair ?_ (by assumption) | split | dsimp only)

theorem execRepCommit_frame (h : s.Frame n o) (hn : Covers n 0x3fffdfe) : ∀ x0 x1, Out.Frame n o (execRepCommit x0 x1 s) := by
  intros
  unfold execRepCommit
  with_reducible repeat' (first | intro _ | assumption | exact Covers.trans hn (by decide) | apply State.writeCmd_frame | apply State.Frame.foldl | apply Out.Frame.next | apply State.Frame.ite | (apply State.Frame.mk' <;> first | exact .inl (Covers.bit hn (by decide)) | exact .inr rfl | assumption | apply State.writeCmd_frame | apply State.Frame.ite | apply State.Frame.foldl | refine State.Frame.ofPair ?_ (by assumption) | split) | apply State.Frame.foldlFst | refine State.Frame.ofPair ?_ (by assumption) | split | dsimp only)

theorem execFuseGo_frame (h : s.Frame n o) (hn : Covers n 0x3fffdfe) : ∀ x0 x1, Out.Frame n o (execFuseGo x0 x1 s) := by
  intros
  unfold execFuseGo
  with_reducible repeat' (first | intro _ | assumption | exact Covers.trans hn (by decide) | apply State.writeCmd_frame | apply State.Frame.foldl | apply Out.Frame.next | apply State.Frame.ite | (apply State.Frame.mk' <;> first | exact .inl (Covers.bit hn (by decide)) | exact .inr rfl | assumption | apply State.writeCmd_frame | apply State.Frame.ite | apply State.Frame.foldl | refine State.Frame.ofPair ?_ (by assumption) | split) | apply State.Frame.foldlFst | refine State.Frame.ofPair ?_ (by assumption) | split | dsimp only)

theorem execPendingClr_frame (h : s.Frame n o) (hn : Covers n 0x3fffdfe) : ∀ x0 x1, Out.Frame n o (execPendingClr x0 x1 s) := by
  intros
  unfold execPendingClr
  with_reducible repeat' (first | intro _ | assumption | exact Covers.trans hn (by decide) | apply State.writeCmd_frame | apply State.Frame.foldl | apply Out.Frame.next | apply State.Frame.ite | (apply State.Frame.mk' <;> first | exact .inl (Covers.bit hn (by decide)) | exact .inr rfl | assumption | apply State.writeCmd_frame | apply State.Frame.ite | apply State.Frame.foldl | refine State.Frame.ofPair ?_ (by assumption) | split) | apply State.Frame.foldlFst | refine State.Frame.ofPair ?_ (by assumption) | split | dsimp only)

theorem execChtestGo_frame (h : s.Frame n o) (hn : Covers n 0x3fffdfe) : ∀ x0 x1, Out.Frame n o (execChtestGo x0 x1 s) := by
  intros
  unfold execChtestGo
  with_reducible repeat' (first | intro _ | assumption | exact Covers.trans hn (by decide) | apply State.writeCmd_frame | apply State.Frame.foldl | apply Out.Frame.next | apply State.Frame.ite | (apply State.Frame.mk' <;> first | exact .inl (Covers.bit hn (by decide)) | exact .inr rfl | assumption | apply State.writeCmd_frame | apply State.Frame.ite | apply State.Frame.foldl | refine State.Frame.ofPair ?_ (by assumption) | split) | apply State.Frame.foldlFst | refine State.Frame.ofPair ?_ (by assumption) | split | dsimp only)

theorem execBstAbort_frame (h : s.Frame n o) (hn : Covers n 0x3fffdfe) : ∀ x0 x1, Out.Frame n o (execBstAbort x0 x1 s) := by
  intros
  unfold execBstAbort
  with_reducible repeat' (first | intro _ | assumption | exact Covers.trans hn (by decide) | apply State.writeCmd_frame | apply State.Frame.foldl | apply Out.Frame.next | apply State.Frame.ite | (apply State.Frame.mk' <;> first | exact .inl (Covers.bit hn (by decide)) | exact .inr rfl | assumption | apply State.writeCmd_frame | apply State.Frame.ite | apply State.Frame.foldl | refine State.Frame.ofPair ?_ (by assumption) | split) | apply State.Frame.foldlFst | refine State.Frame.ofPair ?_ (by assumption) | split | dsimp only)

theorem execSealVoid_frame (h : s.Frame n o) (hn : Covers n 0x3fffdfe) : ∀ x0 x1, Out.Frame n o (execSealVoid x0 x1 s) := by
  intros
  unfold execSealVoid
  with_reducible repeat' (first | intro _ | assumption | exact Covers.trans hn (by decide) | apply State.writeCmd_frame | apply State.Frame.foldl | apply Out.Frame.next | apply State.Frame.ite | (apply State.Frame.mk' <;> first | exact .inl (Covers.bit hn (by decide)) | exact .inr rfl | assumption | apply State.writeCmd_frame | apply State.Frame.ite | apply State.Frame.foldl | refine State.Frame.ofPair ?_ (by assumption) | split) | apply State.Frame.foldlFst | refine State.Frame.ofPair ?_ (by assumption) | split | dsimp only)

theorem execReactWrite_frame (h : s.Frame n o) (hn : Covers n 0x3fffdfe) : ∀ x0 x1 x2, Out.Frame n o (execReactWrite x0 x1 x2 s) := by
  intros
  unfold execReactWrite
  with_reducible repeat' (first | intro _ | assumption | exact Covers.trans hn (by decide) | apply State.writeWord_frame | apply State.Frame.foldl | apply Out.Frame.next | apply State.Frame.ite | (apply State.Frame.mk' <;> first | exact .inl (Covers.bit hn (by decide)) | exact .inr rfl | assumption | apply State.writeWord_frame | apply State.Frame.ite | apply State.Frame.foldl | refine State.Frame.ofPair ?_ (by assumption) | split) | apply State.Frame.foldlFst | refine State.Frame.ofPair ?_ (by assumption) | split | dsimp only)

theorem execTargetRun_frame (h : s.Frame n o) (hn : Covers n 0x3fffdfe) : ∀ x0 x1, Out.Frame n o (execTargetRun x0 x1 s) := by
  intros
  unfold execTargetRun
  with_reducible repeat' (first | intro _ | assumption | exact Covers.trans hn (by decide) | apply State.writeWord_frame | apply State.Frame.foldl | apply Out.Frame.next | apply State.Frame.ite | (apply State.Frame.mk' <;> first | exact .inl (Covers.bit hn (by decide)) | exact .inr rfl | assumption | apply State.writeWord_frame | apply State.Frame.ite | apply State.Frame.foldl | refine State.Frame.ofPair ?_ (by assumption) | split) | apply State.Frame.foldlFst | refine State.Frame.ofPair ?_ (by assumption) | split | dsimp only)

theorem execTargetNap_frame (h : s.Frame n o) (hn : Covers n 0x3fffdfe) : ∀ x0 x1, Out.Frame n o (execTargetNap x0 x1 s) := by
  intros
  unfold execTargetNap
  with_reducible repeat' (first | intro _ | assumption | exact Covers.trans hn (by decide) | apply State.writeWord_frame | apply State.Frame.foldl | apply Out.Frame.next | apply State.Frame.ite | (apply State.Frame.mk' <;> first | exact .inl (Covers.bit hn (by decide)) | exact .inr rfl | assumption | apply State.writeWord_frame | apply State.Frame.ite | apply State.Frame.foldl | refine State.Frame.ofPair ?_ (by assumption) | split) | apply State.Frame.foldlFst | refine State.Frame.ofPair ?_ (by assumption) | split | dsimp only)

theorem execTargetPark_frame (h : s.Frame n o) (hn : Covers n 0x3fffdfe) : ∀ x0 x1, Out.Frame n o (execTargetPark x0 x1 s) := by
  intros
  unfold execTargetPark
  with_reducible repeat' (first | intro _ | assumption | exact Covers.trans hn (by decide) | apply State.writeWord_frame | apply State.Frame.foldl | apply Out.Frame.next | apply State.Frame.ite | (apply State.Frame.mk' <;> first | exact .inl (Covers.bit hn (by decide)) | exact .inr rfl | assumption | apply State.writeWord_frame | apply State.Frame.ite | apply State.Frame.foldl | refine State.Frame.ofPair ?_ (by assumption) | split) | apply State.Frame.foldlFst | refine State.Frame.ofPair ?_ (by assumption) | split | dsimp only)

theorem execWidenGo_frame (h : s.Frame n o) (hn : Covers n 0x3fffdfe) : ∀ x0 x1, Out.Frame n o (execWidenGo x0 x1 s) := by
  intros
  unfold execWidenGo
  with_reducible repeat' (first | intro _ | assumption | exact Covers.trans hn (by decide) | apply State.writeCmd_frame | apply State.Frame.foldl | apply Out.Frame.next | apply State.Frame.ite | (apply State.Frame.mk' <;> first | exact .inl (Covers.bit hn (by decide)) | exact .inr rfl | assumption | apply State.writeCmd_frame | apply State.Frame.ite | apply State.Frame.foldl | refine State.Frame.ofPair ?_ (by assumption) | split) | apply State.Frame.foldlFst | refine State.Frame.ofPair ?_ (by assumption) | split | dsimp only)

theorem execGlbResetChip_frame (h : s.Frame n o) (hn : Covers n 0x3fffdfe) : ∀ x0 x1, Out.Frame n o (execGlbResetChip x0 x1 s) := by
  intros
  unfold execGlbResetChip
  with_reducible repeat' (first | intro _ | assumption | exact Covers.trans hn (by decide) | apply State.writeCmd_frame | apply State.Frame.foldl | apply Out.Frame.next | apply State.Frame.ite | (apply State.Frame.mk' <;> first | exact .inl (Covers.bit hn (by decide)) | exact .inr rfl | assumption | apply State.writeCmd_frame | apply State.Frame.ite | apply State.Frame.foldl | refine State.Frame.ofPair ?_ (by assumption) | split) | apply State.Frame.foldlFst | refine State.Frame.ofPair ?_ (by assumption) | split | dsimp only)

theorem execGlbBlockRstGo_frame (h : s.Frame n o) (hn : Covers n 0x3fffdfe) : ∀ x0 x1, Out.Frame n o (execGlbBlockRstGo x0 x1 s) := by
  intros
  unfold execGlbBlockRstGo
  with_reducible repeat' (first | intro _ | assumption | exact Covers.trans hn (by decide) | apply State.writeCmd_frame | apply State.Frame.foldl | apply Out.Frame.next | apply State.Frame.ite | (apply State.Frame.mk' <;> first | exact .inl (Covers.bit hn (by decide)) | exact .inr rfl | assumption | apply State.writeCmd_frame | apply State.Frame.ite | apply State.Frame.foldl | refine State.Frame.ofPair ?_ (by assumption) | split) | apply State.Frame.foldlFst | refine State.Frame.ofPair ?_ (by assumption) | split | dsimp only)

theorem execCalCommit_frame (h : s.Frame n o) (hn : Covers n 0x3fffdfe) : ∀ x0 x1, Out.Frame n o (execCalCommit x0 x1 s) := by
  intros
  unfold execCalCommit
  with_reducible repeat' (first | intro _ | assumption | exact Covers.trans hn (by decide) | apply State.writeCmd_frame | apply State.Frame.foldl | apply Out.Frame.next | apply State.Frame.ite | (apply State.Frame.mk' <;> first | exact .inl (Covers.bit hn (by decide)) | exact .inr rfl | assumption | apply State.writeCmd_frame | apply State.Frame.ite | apply State.Frame.foldl | refine State.Frame.ofPair ?_ (by assumption) | split) | apply State.Frame.foldlFst | refine State.Frame.ofPair ?_ (by assumption) | split | dsimp only)

theorem execWinRdGo_frame (h : s.Frame n o) (hn : Covers n 0x3fffdfe) : ∀ x0 x1, Out.Frame n o (execWinRdGo x0 x1 s) := by
  intros
  unfold execWinRdGo
  with_reducible repeat' (first | intro _ | assumption | exact Covers.trans hn (by decide) | apply State.writeCmd_frame | apply State.Frame.foldl | apply Out.Frame.next | apply State.Frame.ite | (apply State.Frame.mk' <;> first | exact .inl (Covers.bit hn (by decide)) | exact .inr rfl | assumption | apply State.writeCmd_frame | apply State.Frame.ite | apply State.Frame.foldl | refine State.Frame.ofPair ?_ (by assumption) | split) | apply State.Frame.foldlFst | refine State.Frame.ofPair ?_ (by assumption) | split | dsimp only)

theorem execWinProgGo_frame (h : s.Frame n o) (hn : Covers n 0x3fffdfe) : ∀ x0 x1, Out.Frame n o (execWinProgGo x0 x1 s) := by
  intros
  unfold execWinProgGo
  with_reducible repeat' (first | intro _ | assumption | exact Covers.trans hn (by decide) | apply State.writeCmd_frame | apply State.Frame.foldl | apply Out.Frame.next | apply State.Frame.ite | (apply State.Frame.mk' <;> first | exact .inl (Covers.bit hn (by decide)) | exact .inr rfl | assumption | apply State.writeCmd_frame | apply State.Frame.ite | apply State.Frame.foldl | refine State.Frame.ofPair ?_ (by assumption) | split) | apply State.Frame.foldlFst | refine State.Frame.ofPair ?_ (by assumption) | split | dsimp only)

theorem execWinEraseGo_frame (h : s.Frame n o) (hn : Covers n 0x3fffdfe) : ∀ x0 x1, Out.Frame n o (execWinEraseGo x0 x1 s) := by
  intros
  unfold execWinEraseGo
  with_reducible repeat' (first | intro _ | assumption | exact Covers.trans hn (by decide) | apply State.writeCmd_frame | apply State.Frame.foldl | apply Out.Frame.next | apply State.Frame.ite | (apply State.Frame.mk' <;> first | exact .inl (Covers.bit hn (by decide)) | exact .inr rfl | assumption | apply State.writeCmd_frame | apply State.Frame.ite | apply State.Frame.foldl | refine State.Frame.ofPair ?_ (by assumption) | split) | apply State.Frame.foldlFst | refine State.Frame.ofPair ?_ (by assumption) | split | dsimp only)

theorem execSnapGo_frame (h : s.Frame n o) (hn : Covers n 0x3fffdfe) : ∀ x0 x1, Out.Frame n o (execSnapGo x0 x1 s) := by
  intros
  unfold execSnapGo
  with_reducible repeat' (first | intro _ | assumption | exact Covers.trans hn (by decide) | apply State.writeCmd_frame | apply State.Frame.foldl | apply Out.Frame.next | apply State.Frame.ite | (apply State.Frame.mk' <;> first | exact .inl (Covers.bit hn (by decide)) | exact .inr rfl | assumption | apply State.writeCmd_frame | apply State.Frame.ite | apply State.Frame.foldl | refine State.Frame.ofPair ?_ (by assumption) | split) | apply State.Frame.foldlFst | refine State.Frame.ofPair ?_ (by assumption) | split | dsimp only)

theorem execRwlLock_frame (h : s.Frame n o) (hn : Covers n 0x3fffdfe) : ∀ x0 x1, Out.Frame n o (execRwlLock x0 x1 s) := by
  intros
  unfold execRwlLock
  with_reducible repeat' (first | intro _ | assumption | exact Covers.trans hn (by decide) | apply State.writeCmd_frame | apply State.Frame.foldl | apply Out.Frame.next | apply State.Frame.ite | (apply State.Frame.mk' <;> first | exact .inl (Covers.bit hn (by decide)) | exact .inr rfl | assumption | apply State.writeCmd_frame | apply State.Frame.ite | apply State.Frame.foldl | refine State.Frame.ofPair ?_ (by assumption) | split) | apply State.Frame.foldlFst | refine State.Frame.ofPair ?_ (by assumption) | split | dsimp only)

/-! ### Port -/

theorem State.select_frame (h : s.Frame n o) (hn : Covers n 0x1000000) : ∀ x1 x2, (State.select s x1 x2).Frame n o := by
  intros
  unfold State.select
  with_reducible repeat' (first | intro _ | assumption | exact Covers.trans hn (by decide) | apply State.Frame.foldl | apply State.Frame.ite | (apply State.Frame.mk' <;> first | exact .inl (Covers.bit hn (by decide)) | exact .inr rfl | assumption | apply State.Frame.ite | apply State.Frame.foldl | refine State.Frame.ofPair ?_ (by assumption) | split) | apply State.Frame.foldlFst | refine State.Frame.ofPair ?_ (by assumption) | split | dsimp only)

theorem execWsBypass_frame (h : s.Frame n o) (hn : Covers n 0x1000000) : ∀ x0, Out.Frame n o (execWsBypass x0 s) := by
  intros
  unfold execWsBypass
  with_reducible repeat' (first | intro _ | assumption | exact Covers.trans hn (by decide) | apply State.select_frame | apply State.Frame.foldl | apply Out.Frame.next | apply State.Frame.ite | (apply State.Frame.mk' <;> first | exact .inl (Covers.bit hn (by decide)) | exact .inr rfl | assumption | apply State.select_frame | apply State.Frame.ite | apply State.Frame.foldl | refine State.Frame.ofPair ?_ (by assumption) | split) | apply State.Frame.foldlFst | refine State.Frame.ofPair ?_ (by assumption) | split | dsimp only)

theorem execWsExtest_frame (h : s.Frame n o) (hn : Covers n 0x1000000) : ∀ x0 x1, Out.Frame n o (execWsExtest x0 x1 s) := by
  intros
  unfold execWsExtest
  with_reducible repeat' (first | intro _ | assumption | exact Covers.trans hn (by decide) | apply State.select_frame | apply State.Frame.foldl | apply Out.Frame.next | apply State.Frame.ite | (apply State.Frame.mk' <;> first | exact .inl (Covers.bit hn (by decide)) | exact .inr rfl | assumption | apply State.select_frame | apply State.Frame.ite | apply State.Frame.foldl | refine State.Frame.ofPair ?_ (by assumption) | split) | apply State.Frame.foldlFst | refine State.Frame.ofPair ?_ (by assumption) | split | dsimp only)

theorem execWsPreload_frame (h : s.Frame n o) (hn : Covers n 0x1000000) : ∀ x0 x1, Out.Frame n o (execWsPreload x0 x1 s) := by
  intros
  unfold execWsPreload
  with_reducible repeat' (first | intro _ | assumption | exact Covers.trans hn (by decide) | apply State.select_frame | apply State.Frame.foldl | apply Out.Frame.next | apply State.Frame.ite | (apply State.Frame.mk' <;> first | exact .inl (Covers.bit hn (by decide)) | exact .inr rfl | assumption | apply State.select_frame | apply State.Frame.ite | apply State.Frame.foldl | refine State.Frame.ofPair ?_ (by assumption) | split) | apply State.Frame.foldlFst | refine State.Frame.ofPair ?_ (by assumption) | split | dsimp only)

theorem execDieId_frame (h : s.Frame n o) (hn : Covers n 0x1000000) : Out.Frame n o (execDieId s) := by
  unfold execDieId
  with_reducible repeat' (first | intro _ | assumption | exact Covers.trans hn (by decide) | apply State.select_frame | apply State.Frame.foldl | apply Out.Frame.next | apply State.Frame.ite | (apply State.Frame.mk' <;> first | exact .inl (Covers.bit hn (by decide)) | exact .inr rfl | assumption | apply State.select_frame | apply State.Frame.ite | apply State.Frame.foldl | refine State.Frame.ofPair ?_ (by assumption) | split) | apply State.Frame.foldlFst | refine State.Frame.ofPair ?_ (by assumption) | split | dsimp only)

theorem execRegAccRead_frame (h : s.Frame n o) (hn : Covers n 0x182784e) : ∀ x0, Out.Frame n o (execRegAccRead x0 s) := by
  intros
  unfold execRegAccRead
  with_reducible repeat' (first | intro _ | assumption | exact Covers.trans hn (by decide) | apply State.scanRead_frame | apply State.Frame.foldl | apply Out.Frame.next | apply State.Frame.ite | (apply State.Frame.mk' <;> first | exact .inl (Covers.bit hn (by decide)) | exact .inr rfl | assumption | apply State.scanRead_frame | apply State.Frame.ite | apply State.Frame.foldl | refine State.Frame.ofPair ?_ (by assumption) | split) | apply State.Frame.foldlFst | refine State.Frame.ofPair ?_ (by assumption) | split | dsimp only)

theorem execRegAccWrite_frame (h : s.Frame n o) (hn : Covers n 0x3fffd7e) : ∀ x0 x1, Out.Frame n o (execRegAccWrite x0 x1 s) := by
  intros
  unfold execRegAccWrite
  with_reducible repeat' (first | intro _ | assumption | exact Covers.trans hn (by decide) | apply State.scanWrite_frame | apply State.Frame.foldl | apply Out.Frame.next | apply State.Frame.ite | (apply State.Frame.mk' <;> first | exact .inl (Covers.bit hn (by decide)) | exact .inr rfl | assumption | apply State.scanWrite_frame | apply State.Frame.ite | apply State.Frame.foldl | refine State.Frame.ofPair ?_ (by assumption) | split) | apply State.Frame.foldlFst | refine State.Frame.ofPair ?_ (by assumption) | split | dsimp only)

theorem execWrstnReset_frame (h : s.Frame n o) (hn : Covers n 0x1000000) : Out.Frame n o (execWrstnReset s) := by
  unfold execWrstnReset
  with_reducible repeat' (first | intro _ | assumption | exact Covers.trans hn (by decide) | apply State.Frame.foldl | apply Out.Frame.next | apply State.Frame.ite | (apply State.Frame.mk' <;> first | exact .inl (Covers.bit hn (by decide)) | exact .inr rfl | assumption | apply State.Frame.ite | apply State.Frame.foldl | refine State.Frame.ofPair ?_ (by assumption) | split) | apply State.Frame.foldlFst | refine State.Frame.ofPair ?_ (by assumption) | split | dsimp only)

end Sys2Proof.Machine
end

