-- ==== Sys2Proof/WellFormed.lean ====
section
/-! DEFINITION. Which commands are well formed: operands that the types leave wider than the hardware. A command that is not well formed stands for no event of the device. -/
namespace Sys2Proof
open Machine

/-- A packet command carries one 32-byte unit for each of its LEN, and only a write carries any (R139). -/
def Machine.Pkt.shaped (p : Pkt) (payload : Bool) : Bool :=
  p.data.length = (if payload then p.len.toNat else 0)

/-- A lane map names a physical lane for each of the 16 positions, none twice (R113). -/
def lanesMapped (l : List LaneIx) : Bool := l.length = 16 && decide l.Nodup

/-- Addresses of flash bytes rise and lie within the flash (R468, R469). -/
def flashOrdered : List (Nat × BitVec 8) → Bool
  | [] => true
  | [a] => decide (a.1 < 2 ^ 24)
  | a :: b :: l => decide (a.1 < b.1) && flashOrdered (b :: l)

/-- Whether the operands of a command are ones the hardware can meet. -/
def Instr.wellFormed : Instr → Bool
  | .supplySag rail _ => rail.toNat ≤ 4
  | .rxRow _ row => row.syms.length = 18
  | .calWindowEnd _ _ n => n.n1l ≤ n.n1d
  | .rd _ p => p.shaped false
  | .wr _ p => p.shaped true
  | .wrm _ p => p.shaped true
  | .fen _ p => p.shaped false
  | .rrd _ p => p.shaped false
  | .nul _ p => p.shaped false
  | .smapRx _ x => lanesMapped x.rxMap && lanesMapped x.txMap
  | .telemetrySlot x => x.base.length = 16 && x.rails.length = 5
  | .stageB1Image x => flashOrdered x.bytes
  | .nvmStepComplete x => x.data.length = 0 || x.data.length = 32
  | .gearWindowEnd _ far => far.all fun x => x.far.all fun n => n.2 ≤ n.1
  | .readTrainDelivered _ x => x.slots.length ≤ 16 && x.cols.all fun c => c.nd ≤ c.nc
  | .cfghRx _ _ addr count _ => addr < 2 ^ 15 && 1 ≤ count && count ≤ 8
  | .vmapRowReplace word _ => word < 393216
  | _ => true

end Sys2Proof
end

