-- ==== Sys2Proof/Laws/PerInstr.lean ====
section
/-! SUPPORT. What holds of every command as syntax, one lemma per command. -/

/-- A command that writes a register restarts nothing itself, and its operands need no check: whatever is written, the register fabric performs or refuses it. -/
def Sys2Proof.Laws.Kinds.Statement (i : Sys2Proof.Instr) : Prop :=
  i.writesRegister = true → i.restarts = false ∧ i.wellFormed = true

namespace Sys2Proof.Laws
open Sys2Proof Sys2Proof.Machine

theorem Kinds.pwrGoodRise : Kinds.Statement (.pwrGoodRise) := fun h => Bool.noConfusion h
theorem Kinds.supplySag (rail : BitVec 4) (sample : BitVec 14) : Kinds.Statement (.supplySag rail sample) := fun h => Bool.noConfusion h
theorem Kinds.refclkLoss : Kinds.Statement (.refclkLoss) := fun h => Bool.noConfusion h
theorem Kinds.holdSavePageDone : Kinds.Statement (.holdSavePageDone) := fun h => Bool.noConfusion h
theorem Kinds.holdSavePageTimeout : Kinds.Statement (.holdSavePageTimeout) := fun h => Bool.noConfusion h
theorem Kinds.holdExitPor : Kinds.Statement (.holdExitPor) := fun h => Bool.noConfusion h
theorem Kinds.supplyRemoved : Kinds.Statement (.supplyRemoved) := fun h => Bool.noConfusion h
theorem Kinds.resetNFall : Kinds.Statement (.resetNFall) := fun h => Bool.noConfusion h
theorem Kinds.resetNRise : Kinds.Statement (.resetNRise) := fun h => Bool.noConfusion h
theorem Kinds.chipResetHoldEnd : Kinds.Statement (.chipResetHoldEnd) := fun h => Bool.noConfusion h
theorem Kinds.stageB0Service : Kinds.Statement (.stageB0Service) := fun h => Bool.noConfusion h
theorem Kinds.stageB1Image (x : FlashBoot) : Kinds.Statement (.stageB1Image x) := fun h => Bool.noConfusion h
theorem Kinds.stageB2Stack : Kinds.Statement (.stageB2Stack) := fun h => Bool.noConfusion h
theorem Kinds.stageB3Test (clockOk vddcOk : Bool) : Kinds.Statement (.stageB3Test clockOk vddcOk) := fun h => Bool.noConfusion h
theorem Kinds.startupTestRetry (clockOk vddcOk : Bool) : Kinds.Statement (.startupTestRetry clockOk vddcOk) := fun h => Bool.noConfusion h
theorem Kinds.stageB4Configuration : Kinds.Statement (.stageB4Configuration) := fun h => Bool.noConfusion h
theorem Kinds.stageB6Channels : Kinds.Statement (.stageB6Channels) := fun h => Bool.noConfusion h
theorem Kinds.stageB7Widening : Kinds.Statement (.stageB7Widening) := fun h => Bool.noConfusion h
theorem Kinds.widenEffectiveTick : Kinds.Statement (.widenEffectiveTick) := fun h => Bool.noConfusion h
theorem Kinds.holdSlotCopy : Kinds.Statement (.holdSlotCopy) := fun h => Bool.noConfusion h
theorem Kinds.frameTick (clockOk vddcOk : Bool) : Kinds.Statement (.frameTick clockOk vddcOk) := fun h => Bool.noConfusion h
theorem Kinds.eventJobOverrun (c : ChanIx) (fill : Bool) : Kinds.Statement (.eventJobOverrun c fill) := fun h => Bool.noConfusion h
theorem Kinds.accountSlot : Kinds.Statement (.accountSlot) := fun h => Bool.noConfusion h
theorem Kinds.deficitWindowEnd : Kinds.Statement (.deficitWindowEnd) := fun h => Bool.noConfusion h
theorem Kinds.telemetrySlot (x : Telemetry) : Kinds.Statement (.telemetrySlot x) := fun h => Bool.noConfusion h
theorem Kinds.refreshSlot (c : ChanIx) : Kinds.Statement (.refreshSlot c) := fun h => Bool.noConfusion h
theorem Kinds.scrubSlot (c : ChanIx) : Kinds.Statement (.scrubSlot c) := fun h => Bool.noConfusion h
theorem Kinds.nrefForceDue (c : ChanIx) (k : Nat) : Kinds.Statement (.nrefForceDue c k) := fun h => Bool.noConfusion h
theorem Kinds.retestStart (c : ChanIx) : Kinds.Statement (.retestStart c) := fun h => Bool.noConfusion h
theorem Kinds.rxRow (t : TrackIx) (row : RxRow) : Kinds.Statement (.rxRow t row) := fun h => Bool.noConfusion h
theorem Kinds.calWindowEnd (t : TrackIx) (p : LaneIx) (n : CalCount) : Kinds.Statement (.calWindowEnd t p n) := fun h => Bool.noConfusion h
theorem Kinds.spareErrWindowEnd (t : TrackIx) : Kinds.Statement (.spareErrWindowEnd t) := fun h => Bool.noConfusion h
theorem Kinds.laneMgmtReqRx (t : TrackIx) (m : LaneMsg) : Kinds.Statement (.laneMgmtReqRx t m) := fun h => Bool.noConfusion h
theorem Kinds.laneMgmtAckRx (t : TrackIx) (m : LaneMsg) : Kinds.Statement (.laneMgmtAckRx t m) := fun h => Bool.noConfusion h
theorem Kinds.laneMgmtRejRx (t : TrackIx) (m : LaneMsg) : Kinds.Statement (.laneMgmtRejRx t m) := fun h => Bool.noConfusion h
theorem Kinds.laneSpareReqTimeout (t : TrackIx) : Kinds.Statement (.laneSpareReqTimeout t) := fun h => Bool.noConfusion h
theorem Kinds.laneSpareSwitch (t : TrackIx) (tx : Bool) : Kinds.Statement (.laneSpareSwitch t tx) := fun h => Bool.noConfusion h
theorem Kinds.laneRetire (t : TrackIx) (tx : Bool) : Kinds.Statement (.laneRetire t tx) := fun h => Bool.noConfusion h
theorem Kinds.txL1Entry (t : TrackIx) : Kinds.Statement (.txL1Entry t) := fun h => Bool.noConfusion h
theorem Kinds.txL1Exit (t : TrackIx) : Kinds.Statement (.txL1Exit t) := fun h => Bool.noConfusion h
theorem Kinds.wakeDetect (t : TrackIx) : Kinds.Statement (.wakeDetect t) := fun h => Bool.noConfusion h
theorem Kinds.stallBegin (t : TrackIx) : Kinds.Statement (.stallBegin t) := fun h => Bool.noConfusion h
theorem Kinds.stallEnd (t : TrackIx) (cont : Bool) : Kinds.Statement (.stallEnd t cont) := fun h => Bool.noConfusion h
theorem Kinds.partialHoldExpiry (t : TrackIx) : Kinds.Statement (.partialHoldExpiry t) := fun h => Bool.noConfusion h
theorem Kinds.ackTimeout (t : TrackIx) : Kinds.Statement (.ackTimeout t) := fun h => Bool.noConfusion h
theorem Kinds.returnPendingTimeout (t : TrackIx) : Kinds.Statement (.returnPendingTimeout t) := fun h => Bool.noConfusion h
theorem Kinds.packetTransmit (t : TrackIx) : Kinds.Statement (.packetTransmit t) := fun h => Bool.noConfusion h
theorem Kinds.rd (t : TrackIx) (p : Pkt) : Kinds.Statement (.rd t p) := fun h => Bool.noConfusion h
theorem Kinds.wr (t : TrackIx) (p : Pkt) : Kinds.Statement (.wr t p) := fun h => Bool.noConfusion h
theorem Kinds.wrm (t : TrackIx) (p : Pkt) : Kinds.Statement (.wrm t p) := fun h => Bool.noConfusion h
theorem Kinds.fen (t : TrackIx) (p : Pkt) : Kinds.Statement (.fen t p) := fun h => Bool.noConfusion h
theorem Kinds.rrd (t : TrackIx) (p : Pkt) : Kinds.Statement (.rrd t p) := fun h => Bool.noConfusion h
theorem Kinds.nul (t : TrackIx) (p : Pkt) : Kinds.Statement (.nul t p) := fun h => Bool.noConfusion h
theorem Kinds.ts1Rx (t : TrackIx) (x : TsContent) (lanes : BitVec 18) (skew : List Nat) : Kinds.Statement (.ts1Rx t x lanes skew) := fun h => Bool.noConfusion h
theorem Kinds.ts2Rx (t : TrackIx) (x : TsContent) (lanes : BitVec 18) (skew : List Nat) : Kinds.Statement (.ts2Rx t x lanes skew) := fun h => Bool.noConfusion h
theorem Kinds.capRx (t : TrackIx) (x : CapContent) : Kinds.Statement (.capRx t x) := fun h => Bool.noConfusion h
theorem Kinds.smapRx (t : TrackIx) (x : SmapContent) : Kinds.Statement (.smapRx t x) := fun h => Bool.noConfusion h
theorem Kinds.grantRx (t : TrackIx) (x : GrantContent) : Kinds.Statement (.grantRx t x) := fun h => Bool.noConfusion h
theorem Kinds.rdyRx (t : TrackIx) : Kinds.Statement (.rdyRx t) := fun h => Bool.noConfusion h
theorem Kinds.cenRx (t : TrackIx) (x : CenContent) : Kinds.Statement (.cenRx t x) := fun h => Bool.noConfusion h
theorem Kinds.fovRx (u : TrackIx) (x : FovContent) : Kinds.Statement (.fovRx u x) := fun h => Bool.noConfusion h
theorem Kinds.resetSetRx (t : TrackIx) (content : BitVec 32) (slots : Nat) : Kinds.Statement (.resetSetRx t content slots) := fun h => Bool.noConfusion h
theorem Kinds.trainPhaseTimeout (t : TrackIx) : Kinds.Statement (.trainPhaseTimeout t) := fun h => Bool.noConfusion h
theorem Kinds.trainRetryPeriod (t : TrackIx) : Kinds.Statement (.trainRetryPeriod t) := fun h => Bool.noConfusion h
theorem Kinds.censusInterval : Kinds.Statement (.censusInterval) := fun h => Bool.noConfusion h
theorem Kinds.censusRepeat (t : TrackIx) : Kinds.Statement (.censusRepeat t) := fun h => Bool.noConfusion h
theorem Kinds.censusReplyTimeout (t : TrackIx) : Kinds.Statement (.censusReplyTimeout t) := fun h => Bool.noConfusion h
theorem Kinds.turntableCycle : Kinds.Statement (.turntableCycle) := fun h => Bool.noConfusion h
theorem Kinds.fenceRelease (t : TrackIx) (master : BitVec 6) : Kinds.Statement (.fenceRelease t master) := fun h => Bool.noConfusion h
theorem Kinds.schedIssue (c : ChanIx) (u : EngineUpset) : Kinds.Statement (.schedIssue c u) := fun h => Bool.noConfusion h
theorem Kinds.trainWaitExpiry (c : ChanIx) : Kinds.Statement (.trainWaitExpiry c) := fun h => Bool.noConfusion h
theorem Kinds.pageIdleExpiry (c : ChanIx) (b : BankIx) : Kinds.Statement (.pageIdleExpiry c b) := fun h => Bool.noConfusion h
theorem Kinds.sidingLimitExpiry (c : ChanIx) (k : Nat) : Kinds.Statement (.sidingLimitExpiry c k) := fun h => Bool.noConfusion h
theorem Kinds.chnDrained (c : ChanIx) : Kinds.Statement (.chnDrained c) := fun h => Bool.noConfusion h
theorem Kinds.chnBlockResetDone (c : ChanIx) : Kinds.Statement (.chnBlockResetDone c) := fun h => Bool.noConfusion h
theorem Kinds.takeoverComplete (c : ChanIx) : Kinds.Statement (.takeoverComplete c) := fun h => Bool.noConfusion h
theorem Kinds.readTrainDelivered (c : ChanIx) (x : RdArrival) : Kinds.Statement (.readTrainDelivered c x) := fun h => Bool.noConfusion h
theorem Kinds.decodeComplete (d : Fin 18) (r : Option (BitVec 576)) (iters : Nat) : Kinds.Statement (.decodeComplete d r iters) := fun h => Bool.noConfusion h
theorem Kinds.decoderSelfCheck (d : Fin 18) (good : Bool) : Kinds.Statement (.decoderSelfCheck d good) := fun h => Bool.noConfusion h
theorem Kinds.readTrainTimeout (c : ChanIx) (tid : Fin 32) : Kinds.Statement (.readTrainTimeout c tid) := fun h => Bool.noConfusion h
theorem Kinds.wackRx (c : ChanIx) (bank : BankIx) (tid : Fin 32) : Kinds.Statement (.wackRx c bank tid) := fun h => Bool.noConfusion h
theorem Kinds.wnakRx (c : ChanIx) (bank : BankIx) (tid : Fin 32) (reason : Fin 8) : Kinds.Statement (.wnakRx c bank tid reason) := fun h => Bool.noConfusion h
theorem Kinds.wackTimeout (c : ChanIx) (tid : Fin 32) : Kinds.Statement (.wackTimeout c tid) := fun h => Bool.noConfusion h
theorem Kinds.cfghRx (b : ChanIx) (layer : LayerIx) (addr count : Nat) (err : Bool) : Kinds.Statement (.cfghRx b layer addr count err) := fun h => Bool.noConfusion h
theorem Kinds.cfgdRx (b : ChanIx) (v : BitVec 32) : Kinds.Statement (.cfgdRx b v) := fun h => Bool.noConfusion h
theorem Kinds.cdoneRx (b : ChanIx) (layer : LayerIx) (op : BitVec 5) (fail : Bool) (detail : BitVec 16) : Kinds.Statement (.cdoneRx b layer op fail detail) := fun h => Bool.noConfusion h
theorem Kinds.cerrRx (b : ChanIx) (layer : LayerIx) (op : BitVec 5) (notDecoded : Bool) : Kinds.Statement (.cerrRx b layer op notDecoded) := fun h => Bool.noConfusion h
theorem Kinds.alrmRx (b : ChanIx) (layer : LayerIx) (num : Byte) (cause : Byte) (detail : BitVec 12) : Kinds.Statement (.alrmRx b layer num cause detail) := fun h => Bool.noConfusion h
theorem Kinds.gearWindowEnd (q : QuadIx) (far : List GearCount) : Kinds.Statement (.gearWindowEnd q far) := fun h => Bool.noConfusion h
theorem Kinds.gearSwitchAckDeadline (b : ChanIx) (col : ColIx) : Kinds.Statement (.gearSwitchAckDeadline b col) := fun h => Bool.noConfusion h
theorem Kinds.gearSwitchEffective (b : ChanIx) (col : ColIx) : Kinds.Statement (.gearSwitchEffective b col) := fun h => Bool.noConfusion h
theorem Kinds.vtrainPhaseComplete (x : VPhase) : Kinds.Statement (.vtrainPhaseComplete x) := fun h => Bool.noConfusion h
theorem Kinds.relayLossDeclared (h : Fin 3) (rbeat : Bool) : Kinds.Statement (.relayLossDeclared h rbeat) := fun h => Bool.noConfusion h
theorem Kinds.relayFlagRestored (h : Fin 3) (spineLost : Bool) : Kinds.Statement (.relayFlagRestored h spineLost) := fun h => Bool.noConfusion h
theorem Kinds.vlPllUnlock (q : QuadIx) : Kinds.Statement (.vlPllUnlock q) := fun h => Bool.noConfusion h
theorem Kinds.srxWaitEnd (c : ChanIx) (lats : List Nat) : Kinds.Statement (.srxWaitEnd c lats) := fun h => Bool.noConfusion h
theorem Kinds.selfRefreshEntry (c : ChanIx) (confirmed : Bool) : Kinds.Statement (.selfRefreshEntry c confirmed) := fun h => Bool.noConfusion h
theorem Kinds.migrationStart (c : ChanIx) : Kinds.Statement (.migrationStart c) := fun h => Bool.noConfusion h
theorem Kinds.hrepIssue (l : LayerIx) : Kinds.Statement (.hrepIssue l) := fun h => Bool.noConfusion h
theorem Kinds.hrepTimeout (l : LayerIx) : Kinds.Statement (.hrepTimeout l) := fun h => Bool.noConfusion h
theorem Kinds.vmapRowReplace (word : Nat) (uc : Bool) : Kinds.Statement (.vmapRowReplace word uc) := fun h => Bool.noConfusion h
theorem Kinds.vmapSweepDone : Kinds.Statement (.vmapSweepDone) := fun h => Bool.noConfusion h
theorem Kinds.repCommitDelayExpiry : Kinds.Statement (.repCommitDelayExpiry) := fun h => Bool.noConfusion h
theorem Kinds.bstPartComplete (x : PartEnd) : Kinds.Statement (.bstPartComplete x) := fun h => Bool.noConfusion h
theorem Kinds.sealAgeMark : Kinds.Statement (.sealAgeMark) := fun h => Bool.noConfusion h
theorem Kinds.bulHoldoffEnd : Kinds.Statement (.bulHoldoffEnd) := fun h => Bool.noConfusion h
theorem Kinds.brsWindowEnd : Kinds.Statement (.brsWindowEnd) := fun h => Bool.noConfusion h
theorem Kinds.crsDue : Kinds.Statement (.crsDue) := fun h => Bool.noConfusion h
theorem Kinds.errNHoldExpiry : Kinds.Statement (.errNHoldExpiry) := fun h => Bool.noConfusion h
theorem Kinds.avsLoopPeriod (slack : BitVec 6) : Kinds.Statement (.avsLoopPeriod slack) := fun h => Bool.noConfusion h
theorem Kinds.avsOpComplete (good : Bool) (v : Nat) : Kinds.Statement (.avsOpComplete good v) := fun h => Bool.noConfusion h
theorem Kinds.avsRetryTimer : Kinds.Statement (.avsRetryTimer) := fun h => Bool.noConfusion h
theorem Kinds.avsCurrentRead : Kinds.Statement (.avsCurrentRead) := fun h => Bool.noConfusion h
theorem Kinds.napIdleExpiry : Kinds.Statement (.napIdleExpiry) := fun h => Bool.noConfusion h
theorem Kinds.parkDrainComplete (clockOk vddcOk : Bool) : Kinds.Statement (.parkDrainComplete clockOk vddcOk) := fun h => Bool.noConfusion h
theorem Kinds.parkDrainLimit : Kinds.Statement (.parkDrainLimit) := fun h => Bool.noConfusion h
theorem Kinds.parkExit : Kinds.Statement (.parkExit) := fun h => Bool.noConfusion h
theorem Kinds.nvmStepComplete (x : NvmDone) : Kinds.Statement (.nvmStepComplete x) := fun h => Bool.noConfusion h
theorem Kinds.wearCreditAccrual : Kinds.Statement (.wearCreditAccrual) := fun h => Bool.noConfusion h
theorem Kinds.calPeriodExpiry : Kinds.Statement (.calPeriodExpiry) := fun h => Bool.noConfusion h
theorem Kinds.voteSweep (x : List TripleVote) : Kinds.Statement (.voteSweep x) := fun h => Bool.noConfusion h
theorem Kinds.regWrite (src : WSrc) (size : BitVec 8) (addr : BitVec 24) (v : BitVec 64) : Kinds.Statement (.regWrite src size addr v) := fun _ => ⟨rfl, rfl⟩
theorem Kinds.ttFrameLoad (src : WSrc) (w : BitVec 64) : Kinds.Statement (.ttFrameLoad src w) := fun _ => ⟨rfl, rfl⟩
theorem Kinds.ttStageHold (src : WSrc) (w : BitVec 32) : Kinds.Statement (.ttStageHold src w) := fun _ => ⟨rfl, rfl⟩
theorem Kinds.laneSpareGo (src : WSrc) (t : TrackIx) (w : BitVec 32) : Kinds.Statement (.laneSpareGo src t w) := fun _ => ⟨rfl, rfl⟩
theorem Kinds.laneCntClr (src : WSrc) (t : TrackIx) (w : BitVec 32) : Kinds.Statement (.laneCntClr src t w) := fun _ => ⟨rfl, rfl⟩
theorem Kinds.spareStateWrite (src : WSrc) (t : TrackIx) (tx : Bool) (w : BitVec 32) : Kinds.Statement (.spareStateWrite src t tx w) := fun _ => ⟨rfl, rfl⟩
theorem Kinds.prbsCtlWrite (src : WSrc) (t : TrackIx) (p : LaneIx) (w : BitVec 32) : Kinds.Statement (.prbsCtlWrite src t p w) := fun _ => ⟨rfl, rfl⟩
theorem Kinds.injGo (src : WSrc) (t : TrackIx) (p : LaneIx) (w : BitVec 32) : Kinds.Statement (.injGo src t p w) := fun _ => ⟨rfl, rfl⟩
theorem Kinds.trainRetrain (src : WSrc) (t : TrackIx) (w : BitVec 32) : Kinds.Statement (.trainRetrain src t w) := fun _ => ⟨rfl, rfl⟩
theorem Kinds.fovGo (src : WSrc) (t : TrackIx) (w : BitVec 32) : Kinds.Statement (.fovGo src t w) := fun _ => ⟨rfl, rfl⟩
theorem Kinds.chnEnWrite (src : WSrc) (c : ChanIx) (w : BitVec 32) : Kinds.Statement (.chnEnWrite src c w) := fun _ => ⟨rfl, rfl⟩
theorem Kinds.chnBlkRst (src : WSrc) (c : ChanIx) (w : BitVec 32) : Kinds.Statement (.chnBlkRst src c w) := fun _ => ⟨rfl, rfl⟩
theorem Kinds.chnSwap (src : WSrc) (c : ChanIx) (w : BitVec 32) : Kinds.Statement (.chnSwap src c w) := fun _ => ⟨rfl, rfl⟩
theorem Kinds.bwrGuaranteeWrite (src : WSrc) (r : GuarReg) (w : BitVec 32) : Kinds.Statement (.bwrGuaranteeWrite src r w) := fun _ => ⟨rfl, rfl⟩
theorem Kinds.vlqRetuneGo (src : WSrc) (q : QuadIx) (w : BitVec 32) : Kinds.Statement (.vlqRetuneGo src q w) := fun _ => ⟨rfl, rfl⟩
theorem Kinds.vlqRetrain (src : WSrc) (q : QuadIx) (w : BitVec 32) : Kinds.Statement (.vlqRetrain src q w) := fun _ => ⟨rfl, rfl⟩
theorem Kinds.colSpareGo (src : WSrc) (l : LayerIx) (w : BitVec 32) : Kinds.Statement (.colSpareGo src l w) := fun _ => ⟨rfl, rfl⟩
theorem Kinds.relayRst (src : WSrc) (l : LayerIx) (w : BitVec 32) : Kinds.Statement (.relayRst src l w) := fun _ => ⟨rfl, rfl⟩
theorem Kinds.crst (src : WSrc) (l : LayerIx) (w : BitVec 32) : Kinds.Statement (.crst src l w) := fun _ => ⟨rfl, rfl⟩
theorem Kinds.vmapClear (src : WSrc) (w : BitVec 32) : Kinds.Statement (.vmapClear src w) := fun _ => ⟨rfl, rfl⟩
theorem Kinds.flipArm (src : WSrc) (c : ChanIx) (w : BitVec 32) : Kinds.Statement (.flipArm src c w) := fun _ => ⟨rfl, rfl⟩
theorem Kinds.repCommit (src : WSrc) (w : BitVec 32) : Kinds.Statement (.repCommit src w) := fun _ => ⟨rfl, rfl⟩
theorem Kinds.fuseGo (src : WSrc) (w : BitVec 32) : Kinds.Statement (.fuseGo src w) := fun _ => ⟨rfl, rfl⟩
theorem Kinds.pendingClr (src : WSrc) (w : BitVec 32) : Kinds.Statement (.pendingClr src w) := fun _ => ⟨rfl, rfl⟩
theorem Kinds.chtestGo (src : WSrc) (w : BitVec 32) : Kinds.Statement (.chtestGo src w) := fun _ => ⟨rfl, rfl⟩
theorem Kinds.bstAbort (src : WSrc) (w : BitVec 32) : Kinds.Statement (.bstAbort src w) := fun _ => ⟨rfl, rfl⟩
theorem Kinds.sealVoid (src : WSrc) (w : BitVec 32) : Kinds.Statement (.sealVoid src w) := fun _ => ⟨rfl, rfl⟩
theorem Kinds.reactWrite (src : WSrc) (k : Fin 95) (w : BitVec 32) : Kinds.Statement (.reactWrite src k w) := fun _ => ⟨rfl, rfl⟩
theorem Kinds.targetRun (src : WSrc) (w : BitVec 32) : Kinds.Statement (.targetRun src w) := fun _ => ⟨rfl, rfl⟩
theorem Kinds.targetNap (src : WSrc) (w : BitVec 32) : Kinds.Statement (.targetNap src w) := fun _ => ⟨rfl, rfl⟩
theorem Kinds.targetPark (src : WSrc) (w : BitVec 32) : Kinds.Statement (.targetPark src w) := fun _ => ⟨rfl, rfl⟩
theorem Kinds.widenGo (src : WSrc) (w : BitVec 32) : Kinds.Statement (.widenGo src w) := fun _ => ⟨rfl, rfl⟩
theorem Kinds.glbResetChip (src : WSrc) (w : BitVec 32) : Kinds.Statement (.glbResetChip src w) := fun _ => ⟨rfl, rfl⟩
theorem Kinds.glbBlockRstGo (src : WSrc) (w : BitVec 32) : Kinds.Statement (.glbBlockRstGo src w) := fun _ => ⟨rfl, rfl⟩
theorem Kinds.calCommit (src : WSrc) (w : BitVec 32) : Kinds.Statement (.calCommit src w) := fun _ => ⟨rfl, rfl⟩
theorem Kinds.winRdGo (src : WSrc) (w : BitVec 32) : Kinds.Statement (.winRdGo src w) := fun _ => ⟨rfl, rfl⟩
theorem Kinds.winProgGo (src : WSrc) (w : BitVec 32) : Kinds.Statement (.winProgGo src w) := fun _ => ⟨rfl, rfl⟩
theorem Kinds.winEraseGo (src : WSrc) (w : BitVec 32) : Kinds.Statement (.winEraseGo src w) := fun _ => ⟨rfl, rfl⟩
theorem Kinds.snapGo (src : WSrc) (w : BitVec 32) : Kinds.Statement (.snapGo src w) := fun _ => ⟨rfl, rfl⟩
theorem Kinds.rwlLock (src : WSrc) (w : BitVec 32) : Kinds.Statement (.rwlLock src w) := fun _ => ⟨rfl, rfl⟩
theorem Kinds.wsBypass (wsi : Bool) : Kinds.Statement (.wsBypass wsi) := fun h => Bool.noConfusion h
theorem Kinds.wsExtest (wsi bumps : BitVec 17) : Kinds.Statement (.wsExtest wsi bumps) := fun h => Bool.noConfusion h
theorem Kinds.wsPreload (wsi bumps : BitVec 17) : Kinds.Statement (.wsPreload wsi bumps) := fun h => Bool.noConfusion h
theorem Kinds.dieId : Kinds.Statement (.dieId) := fun h => Bool.noConfusion h
theorem Kinds.regAccRead (addr : BitVec 24) : Kinds.Statement (.regAccRead addr) := fun h => Bool.noConfusion h
theorem Kinds.regAccWrite (addr : BitVec 24) (data : BitVec 32) : Kinds.Statement (.regAccWrite addr data) := fun _ => ⟨rfl, rfl⟩
theorem Kinds.wrstnReset : Kinds.Statement (.wrstnReset) := fun h => Bool.noConfusion h
theorem Kinds.holdSaveNvmReady : Kinds.Statement (.holdSaveNvmReady) := fun h => Bool.noConfusion h
theorem Kinds.configResponseMissed (b : ChanIx) : Kinds.Statement (.configResponseMissed b) := fun h => Bool.noConfusion h
theorem Kinds.collisionWindowEnd (q : QuadIx) : Kinds.Statement (.collisionWindowEnd q) := fun h => Bool.noConfusion h

end Sys2Proof.Laws
end

