-- ==== Sys2Proof/Laws/Raise.lean ====
section
/-! SUPPORT. What raising a source leaves of self-test and of the NVM controller, and that an operation added to the NVM waits or runs. -/
namespace Sys2Proof.Machine

/-- Self-test is left but for the explicit channel test, which may end. -/
def State.KeepsBst (s o : State) : Prop := s.bst = o.bst ∨ s.bst = { o.bst with ch := none }

theorem State.KeepsBst.refl (s : State) : s.KeepsBst s := .inl rfl

theorem State.KeepsBst.trans {s t o : State} (h : s.KeepsBst t) (g : t.KeepsBst o) : s.KeepsBst o := by
  unfold State.KeepsBst at *
  rcases h with h | h <;> rcases g with g | g <;> simp [h, g]

theorem State.KeepsBst.of {s t o : State} (h : s.bst = t.bst) (g : t.KeepsBst o) : s.KeepsBst o := by
  unfold State.KeepsBst at *
  rw [h]
  exact g

theorem State.KeepsBst.frame {n : Nat} {s t o : State} (h : s.Frame n t) (hn : n.testBit 17 = false) (g : t.KeepsBst o) : s.KeepsBst o :=
  .of (h.bst hn) g

theorem State.endChTest_bst (s : State) (k : Nat) : (s.endChTest k).KeepsBst s := by
  unfold State.endChTest
  split
  · exact .inl rfl
  · exact .inr rfl

theorem State.KeepsBst.ite {c : Prop} [Decidable c] {s t o : State} (h : s.KeepsBst o) (g : t.KeepsBst o) :
    (if c then s else t).KeepsBst o := by
  split
  · exact h
  · exact g

theorem State.resetChan_bst (s : State) (c : Nat) : (s.resetChan c).KeepsBst s := by
  have h : ∀ u : State, u.KeepsBst s →
      (((((u.abortChan c).resetBlk .block .chn c).beginRecovery c).setFld Fld.CHN_FLIP_CTL_ARMED 0 c |>.modChan c
        fun x => { x with resetting := true }).preAll c).KeepsBst s := by
    intro u hu
    refine .frame (n := 0x1842) (t := u) ?_ rfl hu
    exact State.preAll_frame (State.modChan_frame (State.setFld_frame (State.beginRecovery_frame (State.resetBlk_frame
      (State.abortChan_frame State.Frame.rfl' (by rfl) _) (by rfl) ..) (by rfl) _) (by rfl) ..) (by rfl) ..) (by rfl) ..
  exact h _ (.ite (State.endChTest_bst s 3) (.refl s))

theorem State.blockReset_bst (s : State) (k : BrsKind) (i : Nat) : (s.blockReset k i).KeepsBst s := by
  unfold State.blockReset
  refine .ite (.refl s) ?_
  cases k with
  | chn => exact State.resetChan_bst s i
  | vlq =>
    refine .frame (n := 0x2002) (t := s) ?_ rfl (.refl s)
    refine State.Frame.set_vert (State.upTo_frame (State.trainQuad_frame (State.resetBlk_frame State.Frame.rfl' (by rfl) ..)
      (by rfl) ..) (by rfl) ?_) rfl
    exact fun i t ht => State.modBund_frame ht (by rfl) ..
  | bwr => exact .frame (n := 0x4002) (State.Frame.set_bwr (State.resetBlk_frame State.Frame.rfl' (by rfl) ..) rfl) rfl (.refl s)
  | none => exact .refl s

theorem State.reactBrs_bst (s : State) (src : Src) (i : Nat) : (s.reactBrs src i).KeepsBst s := by
  unfold State.reactBrs
  refine .ite ?_ (.refl s)
  exact (State.blockReset_bst _ _ _).trans (.frame (n := 0x8) (State.countBrs_frame State.Frame.rfl' (Covers.refl _) ..) rfl (.refl s))

theorem State.raiseCore_bst (s : State) (src : Src) (i : Nat) (x : FaultInfo) : (s.raiseCore src i x).KeepsBst s := by
  have core : ∀ (u : State) (e b : Bool) (r : BulRec), u.Frame 0xa s →
      (State.reactCrs (if e = true then u.updErr.queueBulletin src b r else (u.updErr.queueBulletin src b r).reactBrs src i) src).KeepsBst s := by
    intro u e b r hu
    have hq : (u.updErr.queueBulletin src b r).KeepsBst s :=
      .frame (n := 0xa) (State.queueBulletin_frame (State.updErr_frame hu (by rfl)) (by rfl) ..) rfl (.refl s)
    refine .frame (n := 0x8) (State.reactCrs_frame State.Frame.rfl' (Covers.refl _) _) rfl ?_
    exact .ite hq ((State.reactBrs_bst _ _ _).trans hq)
  have hb : ∀ (k : Nat) (e : Bool), (((s.capture k src e x).setPend src.index).bump Fld.FLT_COUNT_COUNT 0 src.index).Frame 0xa s := fun k e =>
    State.bump_frame (State.setPend_frame (State.capture_frame State.Frame.rfl' (by rfl) ..) (by rfl) ..) (by rfl) ..
  exact core _ _ _ _ (.ite (.set_box (hb _ _) rfl) (hb _ _))

theorem State.raise_bst (s : State) (src : Src) (i : Nat) (x : FaultInfo) : (s.raise src i x).KeepsBst s := by
  have h := State.raiseCore_bst s src i x
  unfold State.raise
  refine .ite (.refl s) (.ite h (.ite ?_ ?_))
  · exact .of rfl h
  · exact (State.raiseCore_bst _ _ _ _).trans (.frame (n := 0x2) (State.bump_frame State.Frame.rfl' (Covers.refl _) ..) rfl h)

/-- The NVM controller is left but for journal entries added. -/
def State.AddsJrn (s o : State) : Prop := ∃ l, s.nvm = { o.nvm with jrn := o.nvm.jrn ++ l }

theorem State.AddsJrn.refl (s : State) : s.AddsJrn s := ⟨[], by simp⟩

theorem State.AddsJrn.of {s t o : State} (h : s.nvm = t.nvm) (g : t.AddsJrn o) : s.AddsJrn o := by
  unfold State.AddsJrn at *
  rw [h]
  exact g

theorem State.AddsJrn.ite {c : Prop} [Decidable c] {s t o : State} (h : s.AddsJrn o) (g : t.AddsJrn o) :
    (if c then s else t).AddsJrn o := by
  split
  · exact h
  · exact g

theorem State.AddsJrn.trans {s t o : State} (h : s.AddsJrn t) (g : t.AddsJrn o) : s.AddsJrn o := by
  obtain ⟨l, h⟩ := h
  obtain ⟨m, g⟩ := g
  exact ⟨m ++ l, by rw [h, g, List.append_assoc]⟩

theorem State.raiseCore_nvm (s : State) (src : Src) (i : Nat) (x : FaultInfo) : (s.raiseCore src i x).nvm = s.nvm :=
  (State.raiseCore_frame (n := 0x2784a) State.Frame.rfl' (Covers.refl _) ..).nvm rfl

theorem State.raise_nvm (s : State) (src : Src) (i : Nat) (x : FaultInfo) : (s.raise src i x).AddsJrn s := by
  have h := State.raiseCore_nvm s src i x
  unfold State.raise
  refine .ite (.refl s) (.ite (.of h (.refl s)) (.ite ?_ ?_))
  · exact ⟨_, by dsimp only; rw [h]⟩
  · refine .of (State.raiseCore_nvm _ _ _ _) (.of ?_ (.refl s))
    exact ((State.bump_frame (n := 0x2) State.Frame.rfl' (Covers.refl _) ..).nvm rfl).trans h

theorem State.journal_nvm (s : State) (k a p : Nat) : (s.journal k a p).AddsJrn s := by
  unfold State.journal
  refine .ite ?_ ⟨_, rfl⟩
  exact (State.raise_nvm _ _ _ _).trans (.of ((State.bump_frame (n := 0x2) State.Frame.rfl' (Covers.refl _) ..).nvm rfl) (.refl s))

theorem State.journal_bst (s : State) (k a p : Nat) : (s.journal k a p).KeepsBst s := by
  unfold State.journal
  refine .ite ?_ (.inl rfl)
  exact (State.raise_bst _ _ _ _).trans (.frame (State.bump_frame (n := 0x2) State.Frame.rfl' (Covers.refl _) ..) rfl (.refl s))

theorem State.nvmHas_congr {s t : State} (h : s.nvm.ops = t.nvm.ops) (g : s.nvm.cur = t.nvm.cur) (k : NvmKind) :
    s.nvmHas k = t.nvmHas k := by
  simp only [State.nvmHas, h, g]

/-! ### The flash operations -/

/-- The operations, waiting and in progress, are as they were. -/
def State.KeepsOps (s o : State) : Prop := s.nvm.ops = o.nvm.ops ∧ s.nvm.cur = o.nvm.cur

theorem State.AddsJrn.keepsOps {s o : State} (h : s.AddsJrn o) : s.KeepsOps o := by
  obtain ⟨l, h⟩ := h
  exact ⟨by rw [h], by rw [h]⟩

theorem State.noteDeferred_ops (s : State) : s.noteDeferred.KeepsOps s ∧ s.noteDeferred.KeepsBst s := by
  have one : ∀ (u : State) (a d : Nat), u.KeepsOps s ∧ u.KeepsBst s →
      ((({ u with nvm := { u.nvm with deferred := a :: u.nvm.deferred } }).bump Fld.NVM_CNT_COUNT 0 5).raise .nvmWear 0
        { detail := d }).KeepsOps s ∧
      ((({ u with nvm := { u.nvm with deferred := a :: u.nvm.deferred } }).bump Fld.NVM_CNT_COUNT 0 5).raise .nvmWear 0
        { detail := d }).KeepsBst s := by
    intro u a d ⟨h, g⟩
    have e := (State.raise_nvm (({ u with nvm := { u.nvm with deferred := a :: u.nvm.deferred } }).bump Fld.NVM_CNT_COUNT 0 5)
      .nvmWear 0 { detail := d }).keepsOps
    have f := (State.bump_frame (s := { u with nvm := { u.nvm with deferred := a :: u.nvm.deferred } }) (n := 0x2)
      State.Frame.rfl' (Covers.refl _) Fld.NVM_CNT_COUNT 0 5 1).nvm rfl
    refine ⟨⟨e.1.trans ((congrArg Nvm.ops f).trans h.1), e.2.trans ((congrArg Nvm.cur f).trans h.2)⟩, ?_⟩
    exact (State.raise_bst _ _ _ _).trans (.frame (n := 0x800002)
      (State.bump_frame (State.Frame.set_nvm State.Frame.rfl' rfl) (by rfl) ..) rfl g)
  unfold State.noteDeferred
  have fold : ∀ (l : List NvmOp) (g : State → NvmOp → State) (u : State),
      (∀ u o, u.KeepsOps s ∧ u.KeepsBst s → (g u o).KeepsOps s ∧ (g u o).KeepsBst s) →
      u.KeepsOps s ∧ u.KeepsBst s → (l.foldl g u).KeepsOps s ∧ (l.foldl g u).KeepsBst s := by
    intro l g u hg hu
    induction l generalizing u with
    | nil => exact hu
    | cons o l ih => exact ih _ (hg u o hu)
  refine fold _ _ _ (fun u o hu => ?_) ⟨⟨rfl, rfl⟩, .refl s⟩
  dsimp only
  split
  · split
    · exact hu
    · exact one u _ _ hu
  · exact hu

theorem NvmPick.mem (l : List NvmOp) (m : Option NvmOp) (x : NvmOp)
    (h : l.foldl (fun (m : Option NvmOp) o => match m with
      | some p => if o.kind.prio < p.kind.prio then some o else some p
      | none => some o) m = some x) : x ∈ l ∨ m = some x := by
  induction l generalizing m with
  | nil => exact .inr h
  | cons o l ih =>
    rcases ih _ h with h | h
    · exact .inl (List.mem_cons_of_mem _ h)
    · cases m with
      | none => cases h; exact .inl (List.mem_cons_self ..)
      | some p =>
        simp only [] at h
        split at h
        · cases h; exact .inl (List.mem_cons_self ..)
        · exact .inr h

theorem State.charge_ops (s : State) (o : NvmOp) :
    (s.charge o).1.KeepsOps s ∧ (s.charge o).1.KeepsBst s ∧ (s.charge o).2.kind = o.kind := by
  unfold State.charge
  split
  · refine ⟨?_, ?_, rfl⟩
    · exact (State.journal_nvm _ _ _ _).keepsOps
    · exact State.journal_bst _ _ _ _
  · exact ⟨⟨rfl, rfl⟩, .refl s, rfl⟩

/-- Starting the next step loses no operation. -/
theorem State.nvmKick_has (s : State) (k : NvmKind) (h : s.nvmHas k = true) : s.nvmKick.nvmHas k = true := by
  unfold State.nvmKick
  by_cases hr : s.nvmRuns = true
  · rw [if_neg (by simp [hr])]
    dsimp only
    have hn := (State.noteDeferred_ops s).1
    split
    · rw [State.nvmHas_congr hn.1 hn.2]; exact h
    · rename_i o ho
      have hc := State.charge_ops { s.noteDeferred with nvm := { s.noteDeferred.nvm with ops := s.noteDeferred.nvm.ops.erase o } } o
      have hcur : s.nvm.cur = none := by
        simp only [State.nvmRuns, Bool.and_eq_true, Option.isNone_iff_eq_none] at hr
        exact hr.2
      simp only [State.nvmHas, hcur, Option.map_none, Bool.or_eq_true, decide_eq_true_eq, reduceCtorEq, or_false,
        List.any_eq_true] at h
      obtain ⟨y, hy, hk⟩ := h
      simp only [State.nvmHas, Bool.or_eq_true, List.any_eq_true, decide_eq_true_eq, Option.map_some]
      by_cases e : y = o
      · right
        subst e
        rw [hc.2.2, hk]
      · left
        refine ⟨y, ?_, hk⟩
        rw [hc.1.1]
        exact (List.mem_erase_of_ne e).mpr (hn.1 ▸ hy)
  · rw [if_pos (by simpa using hr)]; exact h

theorem State.nvmAdd_has (s : State) (o : NvmOp) : (s.nvmAdd o).nvmHas o.kind = true :=
  State.nvmKick_has _ _ (by simp [State.nvmHas])

theorem State.nvmKick_bst (s : State) : s.nvmKick.KeepsBst s := by
  unfold State.nvmKick
  refine .ite (.refl s) ?_
  have hn := (State.noteDeferred_ops s).2
  dsimp only
  split
  · exact hn
  · exact .of rfl ((State.charge_ops _ _).2.1.trans (.of rfl hn))

theorem State.nvmAdd_bst (s : State) (o : NvmOp) : (s.nvmAdd o).KeepsBst s :=
  (State.nvmKick_bst _).trans (.inl rfl)

theorem State.commitRep_has (s : State) (h : s.rep.copy.length ≤ 65533) : s.commitRep.nvmHas .rep = true := by
  unfold State.commitRep
  by_cases e : s.nvmHas .rep = true
  · rw [if_pos e]; exact e
  · rw [if_neg e, if_neg (by omega)]
    exact State.nvmAdd_has _ _

theorem State.commitCal_has (s : State) : s.commitCal.nvmHas .cal = true := by
  unfold State.commitCal
  by_cases e : s.nvmHas .cal = true
  · rw [if_pos e]; exact e
  · rw [if_neg e]
    exact State.nvmAdd_has _ _

/-- With nothing waiting, there is no step to start. -/
theorem State.nvmKick_idle (s : State) (h : s.nvm.ops = []) (g : s.nvm.jrn = []) : s.nvmKick = s := by
  unfold State.nvmKick
  split
  · rfl
  · have e : s.noteDeferred = s := by simp [State.noteDeferred, h]
    rw [e]
    simp [State.nvmPick, State.jrnOp, h, g]

end Sys2Proof.Machine
end

