-- ==== Sys2Proof/Laws/Sound.lean ====
section
/-! SUPPORT. The one property every operation keeps: the queue of commands as it was, and the invariant where it held before. Here it is named, with what the shared shapes of a definition (record update, condition, fold) do to it; the files beside this one say it of every operation of the model. -/
namespace Sys2Proof.Machine

/-- The queue is `p.1`, and the invariant holds under the condition `p.2`. -/
structure State.Sound (p : List Instr × Prop) (s : State) : Prop where
  pending : s.pending = p.1
  inv : p.2 → s.Inv

/-- The same of an outcome: it is a next state, and sound. -/
def Out.Sound (p : List Instr × Prop) : Out → Prop
  | .next t => t.Sound p
  | .fault _ => False
  | .refused _ => False

variable {p : List Instr × Prop} {s t : State}

theorem Out.Sound.next (h : t.Sound p) : Out.Sound p (.next t) := h

/-- A sound outcome is a sound next state. -/
theorem Out.Sound.elim {o : Out} (h : Out.Sound p o) : ∃ t, o = .next t ∧ t.Sound p := by
  cases o with
  | next t => exact ⟨t, rfl, h⟩
  | fault r => exact False.elim h
  | refused r => exact False.elim h

/-- A record update that touches none of the tables keeps it. -/
theorem State.Sound.of (h : s.Sound p) (h1 : t.pending = s.pending) (h2 : t.regs = s.regs) (h3 : t.trks = s.trks)
    (h4 : t.chans = s.chans) (h5 : t.vert.bund = s.vert.bund) (h6 : t.thm.layers = s.thm.layers)
    (h7 : t.fab.snp = s.fab.snp) (h8 : t.vmap.mem = s.vmap.mem) (h9 : t.box.bul = s.box.bul) (h10 : t.box.urg = s.box.urg) :
    t.Sound p := by
  obtain ⟨h, i⟩ := h
  refine ⟨h1.trans h, fun q => ?_⟩
  obtain ⟨i2, i3, i4, i5, i6, i7, i8, i9, i10⟩ := i q
  exact ⟨by rw [h2]; exact i2, by rw [h3]; exact i3, by rw [h4]; exact i4, by rw [h5]; exact i5,
    by rw [h6]; exact i6, by rw [h7]; exact i7, by rw [h8]; exact i8, by rw [h9]; exact i9, by rw [h10]; exact i10⟩

/-- The same, for the record itself. -/
theorem State.Sound.mk' {fab : Fabric} {box : Box} {pins : Pins} {tags : List OpenTag} {ord cenTicks ticks : Nat}
    {resetting : Bool} {codec : Codec} {vert : Vert} {bwr : Bwr} {vmap : VMap} {rep : Rep} {bst : Bst} {thm : Thm} {pwr : Pwr} {hold : Option Hold}
    {start : Start} {park : Park} {nvm : Nvm} {wrap : Wrap} {cc free : Nat} (h : s.Sound p)
    (h1 : vert.bund = s.vert.bund) (h2 : thm.layers = s.thm.layers) (h3 : fab.snp = s.fab.snp) (h4 : vmap.mem = s.vmap.mem)
    (h5 : box.bul = s.box.bul) (h6 : box.urg = s.box.urg) :
    State.Sound p { pending := s.pending, regs := s.regs, fab := fab, box := box, pins := pins, trks := s.trks, tags := tags
                    ord := ord, cenTicks := cenTicks, ticks := ticks, resetting := resetting, chans := s.chans, codec := codec, vert := vert, bwr := bwr
                    vmap := vmap, rep := rep, bst := bst, thm := thm, pwr := pwr, hold := hold, start := start
                    park := park, nvm := nvm, wrap := wrap, cc := cc, free := free } :=
  State.Sound.of h rfl rfl rfl rfl h1 h2 h3 h4 h5 h6

theorem State.Sound.ite {c : Prop} [Decidable c] (hs : s.Sound p) (ht : t.Sound p) : (if c then s else t).Sound p := by
  split
  · exact hs
  · exact ht

theorem State.Sound.foldl {α : Type} {l : List α} {g : State → α → State} (h : s.Sound p)
    (hg : ∀ s a, s.Sound p → (g s a).Sound p) : (l.foldl g s).Sound p := by
  induction l generalizing s with
  | nil => exact h
  | cons a l ih => exact ih (hg s a h)

theorem State.Sound.foldlFst {α β : Type} {l : List α} {b : β} {g : State × β → α → State × β} (h : s.Sound p)
    (hg : ∀ x a, x.1.Sound p → (g x a).1.Sound p) : (l.foldl g (s, b)).1.Sound p := by
  have : ∀ (x : State × β), x.1.Sound p → (l.foldl g x).1.Sound p := by
    induction l with
    | nil => exact fun x hx => hx
    | cons a l ih => exact fun x hx => ih _ (hg x a hx)
  exact this (s, b) h

theorem State.Sound.foldlSnd {α β : Type} {l : List α} {b : β} {g : β × State → α → β × State} (h : s.Sound p)
    (hg : ∀ x a, x.2.Sound p → (g x a).2.Sound p) : (l.foldl g (b, s)).2.Sound p := by
  have : ∀ (x : β × State), x.2.Sound p → (l.foldl g x).2.Sound p := by
    induction l with
    | nil => exact fun x hx => hx
    | cons a l ih => exact fun x hx => ih _ (hg x a hx)
  exact this (b, s) h

/-- A state taken out of a pair. -/
theorem State.Sound.ofPair {β : Type} {x : State × β} {b : β} (h : x.1.Sound p) (e : x = (s, b)) : s.Sound p := by
  subst e
  exact h

theorem State.Sound.ofPair2 {β : Type} {x : β × State} {b : β} (h : x.2.Sound p) (e : x = (b, s)) : s.Sound p := by
  subst e
  exact h

theorem State.when_sound {b : Bool} {g : State → State} (h : s.Sound p) (hg : ∀ s, s.Sound p → (g s).Sound p) :
    (s.when b g).Sound p := by
  unfold State.when
  split
  · exact hg s h
  · exact h

theorem State.upTo_sound {n : Nat} {g : Nat → State → State} (h : s.Sound p) (hg : ∀ i s, s.Sound p → (g i s).Sound p) :
    (s.upTo n g).Sound p := State.Sound.foldl h fun s i hs => hg i s hs

theorem State.eachChan_sound {g : Nat → State → State} (h : s.Sound p) (hg : ∀ i s, s.Sound p → (g i s).Sound p) :
    (s.eachChan g).Sound p := State.upTo_sound h hg

theorem State.scan_sound {g : State → State × BitVec 64} (h : s.Sound p) (hg : ∀ s, s.Sound p → (g s).1.Sound p) :
    (s.scan g).Sound p := by
  unfold State.scan
  dsimp only
  split
  · exact h
  split
  · exact State.Sound.mk' h rfl rfl rfl rfl rfl rfl
  · refine State.Sound.mk' (hg _ ?_) rfl rfl rfl rfl rfl rfl
    exact State.Sound.mk' h rfl rfl rfl rfl rfl rfl

/-! ### The tables' own writers -/

/-- Replacing the register table by a canonical one keeps it. -/
theorem State.Sound.regsOf (h : s.Sound p) (h2 : Store.wf t.regs = true) (h1 : t.pending = s.pending) (h3 : t.trks = s.trks)
    (h4 : t.chans = s.chans) (h5 : t.vert.bund = s.vert.bund) (h6 : t.thm.layers = s.thm.layers)
    (h7 : t.fab.snp = s.fab.snp) (h8 : t.vmap.mem = s.vmap.mem) (h9 : t.box.bul = s.box.bul) (h10 : t.box.urg = s.box.urg) :
    t.Sound p :=
  State.Sound.of (s := { s with regs := t.regs }) ⟨h.pending, fun q => { h.inv q with regs := h2 }⟩ h1 rfl h3 h4 h5 h6 h7 h8 h9 h10

theorem wf_foldl_set {α : Type} {l : List α} (k : α → Nat) (d v : α → Nat) {m : Store Nat} (h : Store.wf m = true) :
    Store.wf (l.foldl (fun m e => Store.set m (k e) (d e) (v e)) m) = true := by
  induction l generalizing m with
  | nil => exact h
  | cons a l ih => exact ih (Store.wf_set _ _ _ h)

theorem State.setFld_sound (h : s.Sound p) : ∀ f v i j, (s.setFld f v i j).Sound p := by
  intro f v i j
  exact ⟨h.pending, fun q => { h.inv q with regs := Store.wf_set _ _ _ (h.inv q).regs }⟩

theorem State.clrFld_sound (h : s.Sound p) : ∀ f i j, (s.clrFld f i j).Sound p := by
  intro f i j
  exact ⟨h.pending, fun q => { h.inv q with regs := Store.wf_del _ (h.inv q).regs }⟩

theorem State.resetRegs_sound (h : s.Sound p) : ∀ k scope, (s.resetRegs k scope).Sound p := by
  intro k scope
  exact ⟨h.pending, fun q => { h.inv q with regs := Store.wf_filter _ (h.inv q).regs }⟩

theorem State.setTrk_sound (h : s.Sound p) : ∀ t x, (s.setTrk t x).Sound p := by
  intro t x
  exact ⟨h.pending, fun q => { h.inv q with trks := Store.wf_set _ _ _ (h.inv q).trks }⟩

theorem State.setChan_sound (h : s.Sound p) : ∀ t x, (s.setChan t x).Sound p := by
  intro t x
  exact ⟨h.pending, fun q => { h.inv q with chans := Store.wf_set _ _ _ (h.inv q).chans }⟩

theorem State.mapChans_sound (h : s.Sound p) : ∀ g, (s.mapChans g).Sound p := by
  intro g
  exact ⟨h.pending, fun q => { h.inv q with chans := Store.wf_map (β := Chan) (fun e => (e.1, g e.2)) (fun _ => rfl) (h.inv q).chans }⟩

theorem State.modBund_sound (h : s.Sound p) : ∀ b g, (s.modBund b g).Sound p := by
  intro b g
  exact ⟨h.pending, fun q => { h.inv q with bund := Store.wf_set _ _ _ (h.inv q).bund }⟩

theorem State.modThm_sound (h : s.Sound p) : ∀ l g, (s.modThm l g).Sound p := by
  intro l g
  exact ⟨h.pending, fun q => { h.inv q with layers := Store.wf_set _ _ _ (h.inv q).layers }⟩

theorem State.setVByte_sound (h : s.Sound p) : ∀ k v, (s.setVByte k v).Sound p := by
  intro k v
  exact ⟨h.pending, fun q => { h.inv q with vmap := ⟨Store.wf_set _ _ _ (h.inv q).vmap.1, Store.mem_set_ne (h.inv q).vmap.2⟩ }⟩

/-- The valid map emptied. -/
theorem State.Sound.noMap {v : VMap} (h : s.Sound p) (hv : v.mem = []) : State.Sound p { s with vmap := v } := by
  refine ⟨h.pending, fun q => { h.inv q with vmap := ?_ }⟩
  show Memory.wf v.mem
  rw [hv]
  exact ⟨rfl, fun _ he => nomatch he⟩

/-! ### The bulletin queues (R407, R408) -/

/-- An update that leaves the tables and lets no queue grow keeps it. -/
theorem State.Sound.shrink (h : s.Sound p) (h1 : t.pending = s.pending) (h2 : t.regs = s.regs) (h3 : t.trks = s.trks)
    (h4 : t.chans = s.chans) (h5 : t.vert.bund = s.vert.bund) (h6 : t.thm.layers = s.thm.layers)
    (h7 : t.fab.snp = s.fab.snp) (h8 : t.vmap.mem = s.vmap.mem) (h9 : t.box.bul.length ≤ s.box.bul.length)
    (h10 : t.box.urg.length ≤ s.box.urg.length) : t.Sound p :=
  have hs : State.Sound p { s with box := t.box } :=
    ⟨h.pending, fun q => { h.inv q with bul := Nat.le_trans h9 (h.inv q).bul, urg := Nat.le_trans h10 (h.inv q).urg }⟩
  State.Sound.of hs h1 h2 h3 h4 h5 h6 h7 h8 rfl rfl

theorem foldInto_length (r : BulRec) (q : List BulRec) : (foldInto r q).length = q.length := by
  simp [foldInto]

theorem State.bump_sound (h : s.Sound p) : ∀ f i j n, (s.bump f i j n).Sound p := by
  intro f i j n
  unfold State.bump
  split
  · exact h
  · exact State.setFld_sound h ..

theorem State.queueUrgent_sound (h : s.Sound p) : ∀ r, (s.queueUrgent r).Sound p := by
  intro r
  unfold State.queueUrgent
  split
  · refine ⟨h.pending, fun q => { h.inv q with urg := ?_ }⟩
    simp only [foldInto_length]
    exact (h.inv q).urg
  · split
    · exact State.bump_sound h ..
    · refine ⟨h.pending, fun q => { h.inv q with urg := ?_ }⟩
      simp only [List.length_append, List.length_cons, List.length_nil]
      omega

theorem State.enqueueMask_sound (h : s.Sound p) : ∀ r, (s.enqueueMask r).Sound p := by
  intro r
  unfold State.enqueueMask
  split
  · exact State.bump_sound h ..
  · refine ⟨h.pending, fun q => { h.inv q with bul := ?_ }⟩
    simp only [List.length_append, List.length_cons, List.length_nil]
    omega

theorem State.queueMask_sound (h : s.Sound p) : ∀ r, (s.queueMask r).Sound p := by
  intro r
  unfold State.queueMask
  split
  · refine ⟨h.pending, fun q => { h.inv q with bul := ?_ }⟩
    simp only [foldInto_length]
    exact (h.inv q).bul
  · split
    · exact State.Sound.of h rfl rfl rfl rfl rfl rfl rfl rfl rfl rfl
    · exact State.enqueueMask_sound h ..

end Sys2Proof.Machine
end

