-- ==== Sys2Proof/Laws/SoundA.lean ====
section
/-! SUPPORT. The queue and the invariant through every operation of Ops, Operands, Responses, Timing, BlockReset, Flags, Resets, Lanes. -/
namespace Sys2Proof.Machine

set_option linter.all false

variable {p : List Instr × Prop} {s : State}

/-! ### Ops -/

theorem State.atTick_sound (h : s.Sound p) : ∀ x1 x2 x3 x4, (State.atTick s x1 x2 x3 x4).Sound p := by
  intros
  unfold State.atTick
  with_reducible repeat' (first | intro _ | assumption | apply State.Sound.foldl | apply State.Sound.ite | (apply State.Sound.mk' <;> first | rfl | assumption | apply State.Sound.ite | apply State.Sound.foldl | refine State.Sound.ofPair ?_ (by assumption) | split) | apply State.Sound.foldlFst | refine State.Sound.ofPair ?_ (by assumption) | split | dsimp only)

theorem State.setFlag_sound (h : s.Sound p) : ∀ x1 x2 x3 x4, (State.setFlag s x1 x2 x3 x4).Sound p := by
  intros
  unfold State.setFlag
  with_reducible repeat' (first | intro _ | assumption | apply State.setFld_sound | apply State.Sound.foldl | apply State.Sound.ite | (apply State.Sound.mk' <;> first | rfl | assumption | apply State.setFld_sound | apply State.Sound.ite | apply State.Sound.foldl | refine State.Sound.ofPair ?_ (by assumption) | split) | apply State.Sound.foldlFst | refine State.Sound.ofPair ?_ (by assumption) | split | dsimp only)

theorem State.resetBlk_sound (h : s.Sound p) : ∀ x1 x2 x3, (State.resetBlk s x1 x2 x3).Sound p := by
  intros
  unfold State.resetBlk
  with_reducible repeat' (first | intro _ | assumption | apply State.resetRegs_sound | apply State.Sound.foldl | apply State.Sound.ite | (apply State.Sound.mk' <;> first | rfl | assumption | apply State.resetRegs_sound | apply State.Sound.ite | apply State.Sound.foldl | refine State.Sound.ofPair ?_ (by assumption) | split) | apply State.Sound.foldlFst | refine State.Sound.ofPair ?_ (by assumption) | split | dsimp only)

theorem State.modTrk_sound (h : s.Sound p) : ∀ x1 x2, (State.modTrk s x1 x2).Sound p := by
  intros
  unfold State.modTrk
  with_reducible repeat' (first | intro _ | assumption | apply State.setTrk_sound | apply State.Sound.foldl | apply State.Sound.ite | (apply State.Sound.mk' <;> first | rfl | assumption | apply State.setTrk_sound | apply State.Sound.ite | apply State.Sound.foldl | refine State.Sound.ofPair ?_ (by assumption) | split) | apply State.Sound.foldlFst | refine State.Sound.ofPair ?_ (by assumption) | split | dsimp only)

theorem State.modTx_sound (h : s.Sound p) : ∀ x1 x2, (State.modTx s x1 x2).Sound p := by
  intros
  unfold State.modTx
  with_reducible repeat' (first | intro _ | assumption | apply State.modTrk_sound | apply State.Sound.foldl | apply State.Sound.ite | (apply State.Sound.mk' <;> first | rfl | assumption | apply State.modTrk_sound | apply State.Sound.ite | apply State.Sound.foldl | refine State.Sound.ofPair ?_ (by assumption) | split) | apply State.Sound.foldlFst | refine State.Sound.ofPair ?_ (by assumption) | split | dsimp only)

theorem State.modRx_sound (h : s.Sound p) : ∀ x1 x2, (State.modRx s x1 x2).Sound p := by
  intros
  unfold State.modRx
  with_reducible repeat' (first | intro _ | assumption | apply State.modTrk_sound | apply State.Sound.foldl | apply State.Sound.ite | (apply State.Sound.mk' <;> first | rfl | assumption | apply State.modTrk_sound | apply State.Sound.ite | apply State.Sound.foldl | refine State.Sound.ofPair ?_ (by assumption) | split) | apply State.Sound.foldlFst | refine State.Sound.ofPair ?_ (by assumption) | split | dsimp only)

theorem State.modSes_sound (h : s.Sound p) : ∀ x1 x2, (State.modSes s x1 x2).Sound p := by
  intros
  unfold State.modSes
  with_reducible repeat' (first | intro _ | assumption | apply State.modTrk_sound | apply State.Sound.foldl | apply State.Sound.ite | (apply State.Sound.mk' <;> first | rfl | assumption | apply State.modTrk_sound | apply State.Sound.ite | apply State.Sound.foldl | refine State.Sound.ofPair ?_ (by assumption) | split) | apply State.Sound.foldlFst | refine State.Sound.ofPair ?_ (by assumption) | split | dsimp only)

theorem State.modTrn_sound (h : s.Sound p) : ∀ x1 x2, (State.modTrn s x1 x2).Sound p := by
  intros
  unfold State.modTrn
  with_reducible repeat' (first | intro _ | assumption | apply State.modTrk_sound | apply State.Sound.foldl | apply State.Sound.ite | (apply State.Sound.mk' <;> first | rfl | assumption | apply State.modTrk_sound | apply State.Sound.ite | apply State.Sound.foldl | refine State.Sound.ofPair ?_ (by assumption) | split) | apply State.Sound.foldlFst | refine State.Sound.ofPair ?_ (by assumption) | split | dsimp only)

theorem State.freeBelow_sound (h : s.Sound p) : ∀ x1, (State.freeBelow s x1).2.Sound p := by
  intros
  unfold State.freeBelow
  with_reducible repeat' (first | intro _ | assumption | apply State.Sound.foldl | apply State.Sound.ite | (apply State.Sound.mk' <;> first | rfl | assumption | apply State.Sound.ite | apply State.Sound.foldl | refine State.Sound.ofPair ?_ (by assumption) | split) | apply State.Sound.foldlFst | apply State.Sound.foldlSnd | refine State.Sound.ofPair ?_ (by assumption) | split | dsimp only)

theorem State.divFree_sound (h : s.Sound p) : ∀ x1 x2, (State.divFree s x1 x2).2.Sound p := by
  intros
  unfold State.divFree
  with_reducible repeat' (first | intro _ | assumption | apply State.Sound.foldl | apply State.Sound.ite | (apply State.Sound.mk' <;> first | rfl | assumption | apply State.Sound.ite | apply State.Sound.foldl | refine State.Sound.ofPair ?_ (by assumption) | split) | apply State.Sound.foldlFst | apply State.Sound.foldlSnd | refine State.Sound.ofPair ?_ (by assumption) | split | dsimp only)

/-! ### Operands -/

theorem State.modChan_sound (h : s.Sound p) : ∀ x1 x2, (State.modChan s x1 x2).Sound p := by
  intros
  unfold State.modChan
  with_reducible repeat' (first | intro _ | assumption | apply State.setChan_sound | apply State.Sound.foldl | apply State.Sound.ite | (apply State.Sound.mk' <;> first | rfl | assumption | apply State.setChan_sound | apply State.Sound.ite | apply State.Sound.foldl | refine State.Sound.ofPair ?_ (by assumption) | split) | apply State.Sound.foldlFst | refine State.Sound.ofPair ?_ (by assumption) | split | dsimp only)

theorem State.setTest_sound (h : s.Sound p) : ∀ x1 x2, (State.setTest s x1 x2).Sound p := by
  intros
  unfold State.setTest
  with_reducible repeat' (first | intro _ | assumption | apply State.setFlag_sound | apply State.modChan_sound | apply State.Sound.foldl | apply State.Sound.ite | (apply State.Sound.mk' <;> first | rfl | assumption | apply State.setFlag_sound | apply State.modChan_sound | apply State.Sound.ite | apply State.Sound.foldl | refine State.Sound.ofPair ?_ (by assumption) | split) | apply State.Sound.foldlFst | refine State.Sound.ofPair ?_ (by assumption) | split | dsimp only)

theorem State.modRef_sound (h : s.Sound p) : ∀ x1 x2, (State.modRef s x1 x2).Sound p := by
  intros
  unfold State.modRef
  with_reducible repeat' (first | intro _ | assumption | apply State.modChan_sound | apply State.Sound.foldl | apply State.Sound.ite | (apply State.Sound.mk' <;> first | rfl | assumption | apply State.modChan_sound | apply State.Sound.ite | apply State.Sound.foldl | refine State.Sound.ofPair ?_ (by assumption) | split) | apply State.Sound.foldlFst | refine State.Sound.ofPair ?_ (by assumption) | split | dsimp only)

theorem State.setCol_sound (h : s.Sound p) : ∀ x1 x2 x3 x4, (State.setCol s x1 x2 x3 x4).Sound p := by
  intros
  unfold State.setCol
  with_reducible repeat' (first | intro _ | assumption | apply State.setFld_sound | apply State.Sound.foldl | apply State.Sound.ite | (apply State.Sound.mk' <;> first | rfl | assumption | apply State.setFld_sound | apply State.Sound.ite | apply State.Sound.foldl | refine State.Sound.ofPair ?_ (by assumption) | split) | apply State.Sound.foldlFst | refine State.Sound.ofPair ?_ (by assumption) | split | dsimp only)

theorem State.setCal_sound (h : s.Sound p) : ∀ x1 x2 x3 x4, (State.setCal s x1 x2 x3 x4).Sound p := by
  intros
  unfold State.setCal
  with_reducible repeat' (first | intro _ | assumption | apply State.setFld_sound | apply State.setCol_sound | apply State.Sound.foldl | apply State.Sound.ite | (apply State.Sound.mk' <;> first | rfl | assumption | apply State.setFld_sound | apply State.setCol_sound | apply State.Sound.ite | apply State.Sound.foldl | refine State.Sound.ofPair ?_ (by assumption) | split) | apply State.Sound.foldlFst | refine State.Sound.ofPair ?_ (by assumption) | split | dsimp only)

theorem State.setVbit_sound (h : s.Sound p) : ∀ x1, (State.setVbit s x1).Sound p := by
  intros
  unfold State.setVbit
  with_reducible repeat' (first | intro _ | assumption | apply State.setVByte_sound | apply State.Sound.foldl | apply State.Sound.ite | (apply State.Sound.mk' <;> first | rfl | assumption | apply State.setVByte_sound | apply State.Sound.ite | apply State.Sound.foldl | refine State.Sound.ofPair ?_ (by assumption) | split) | apply State.Sound.foldlFst | refine State.Sound.ofPair ?_ (by assumption) | split | dsimp only)

theorem State.setDomain_sound (h : s.Sound p) : ∀ x1 x2, (State.setDomain s x1 x2).Sound p := by
  intros
  unfold State.setDomain
  with_reducible repeat' (first | intro _ | assumption | apply State.setFld_sound | apply State.Sound.foldl | apply State.Sound.ite | (apply State.Sound.mk' <;> first | rfl | assumption | apply State.setFld_sound | apply State.Sound.ite | apply State.Sound.foldl | refine State.Sound.ofPair ?_ (by assumption) | split) | apply State.Sound.foldlFst | refine State.Sound.ofPair ?_ (by assumption) | split | dsimp only)

/-! ### Responses -/

theorem State.modTag_sound (h : s.Sound p) : ∀ x1 x2, (State.modTag s x1 x2).Sound p := by
  intros
  unfold State.modTag
  with_reducible repeat' (first | intro _ | assumption | apply State.Sound.foldl | apply State.Sound.ite | (apply State.Sound.mk' <;> first | rfl | assumption | apply State.Sound.ite | apply State.Sound.foldl | refine State.Sound.ofPair ?_ (by assumption) | split) | apply State.Sound.foldlFst | refine State.Sound.ofPair ?_ (by assumption) | split | dsimp only)

theorem State.dropTag_sound (h : s.Sound p) : ∀ x1, (State.dropTag s x1).Sound p := by
  intros
  unfold State.dropTag
  with_reducible repeat' (first | intro _ | assumption | apply State.Sound.foldl | apply State.Sound.ite | (apply State.Sound.mk' <;> first | rfl | assumption | apply State.Sound.ite | apply State.Sound.foldl | refine State.Sound.ofPair ?_ (by assumption) | split) | apply State.Sound.foldlFst | refine State.Sound.ofPair ?_ (by assumption) | split | dsimp only)

theorem State.effected_sound (h : s.Sound p) : ∀ x1, (State.effected s x1).Sound p := by
  intros
  unfold State.effected
  with_reducible repeat' (first | intro _ | assumption | apply State.modTag_sound | apply State.Sound.foldl | apply State.Sound.ite | (apply State.Sound.mk' <;> first | rfl | assumption | apply State.modTag_sound | apply State.Sound.ite | apply State.Sound.foldl | refine State.Sound.ofPair ?_ (by assumption) | split) | apply State.Sound.foldlFst | refine State.Sound.ofPair ?_ (by assumption) | split | dsimp only)

theorem State.respond_sound (h : s.Sound p) : ∀ x1 x2 x3 x4 x5 x6 x7, (State.respond s x1 x2 x3 x4 x5 x6 x7).Sound p := by
  intros
  unfold State.respond
  with_reducible repeat' (first | intro _ | assumption | apply State.dropTag_sound | apply State.bump_sound | apply State.modTx_sound | apply State.effected_sound | apply State.Sound.foldl | apply State.Sound.ite | (apply State.Sound.mk' <;> first | rfl | assumption | apply State.dropTag_sound | apply State.bump_sound | apply State.modTx_sound | apply State.effected_sound | apply State.Sound.ite | apply State.Sound.foldl | refine State.Sound.ofPair ?_ (by assumption) | split) | apply State.Sound.foldlFst | refine State.Sound.ofPair ?_ (by assumption) | split | dsimp only)

/-! ### Timing -/

theorem State.launchAt_sound (h : s.Sound p) : ∀ x1 x2 x3, (State.launchAt s x1 x2 x3).Sound p := by
  intros
  unfold State.launchAt
  with_reducible repeat' (first | intro _ | assumption | apply State.bump_sound | apply State.modChan_sound | apply State.Sound.foldl | apply State.Sound.ite | (apply State.Sound.mk' <;> first | rfl | assumption | apply State.bump_sound | apply State.modChan_sound | apply State.Sound.ite | apply State.Sound.foldl | refine State.Sound.ofPair ?_ (by assumption) | split) | apply State.Sound.foldlFst | refine State.Sound.ofPair ?_ (by assumption) | split | dsimp only)

theorem State.launch_sound (h : s.Sound p) : ∀ x1 x2, (State.launch s x1 x2).Sound p := by
  intros
  unfold State.launch
  with_reducible repeat' (first | intro _ | assumption | apply State.launchAt_sound | apply State.Sound.foldl | apply State.Sound.ite | (apply State.Sound.mk' <;> first | rfl | assumption | apply State.launchAt_sound | apply State.Sound.ite | apply State.Sound.foldl | refine State.Sound.ofPair ?_ (by assumption) | split) | apply State.Sound.foldlFst | refine State.Sound.ofPair ?_ (by assumption) | split | dsimp only)

theorem State.closeBank_sound (h : s.Sound p) : ∀ x1 x2, (State.closeBank s x1 x2).Sound p := by
  intros
  unfold State.closeBank
  with_reducible repeat' (first | intro _ | assumption | apply State.modChan_sound | apply State.launchAt_sound | apply State.Sound.foldl | apply State.Sound.ite | (apply State.Sound.mk' <;> first | rfl | assumption | apply State.modChan_sound | apply State.launchAt_sound | apply State.Sound.ite | apply State.Sound.foldl | refine State.Sound.ofPair ?_ (by assumption) | split) | apply State.Sound.foldlFst | refine State.Sound.ofPair ?_ (by assumption) | split | dsimp only)

theorem State.refCmd_sound (h : s.Sound p) : ∀ x1 x2 x3 x4, (State.refCmd s x1 x2 x3 x4).1.Sound p := by
  intros
  unfold State.refCmd
  with_reducible repeat' (first | intro _ | assumption | apply State.closeBank_sound | apply State.modChan_sound | apply State.launchAt_sound | apply State.Sound.foldl | apply State.Sound.ite | (apply State.Sound.mk' <;> first | rfl | assumption | apply State.closeBank_sound | apply State.modChan_sound | apply State.launchAt_sound | apply State.Sound.ite | apply State.Sound.foldl | refine State.Sound.ofPair ?_ (by assumption) | split) | apply State.Sound.foldlFst | refine State.Sound.ofPair ?_ (by assumption) | split | dsimp only)

theorem State.preAll_sound (h : s.Sound p) : ∀ x1, (State.preAll s x1).Sound p := by
  intros
  unfold State.preAll
  with_reducible repeat' (first | intro _ | assumption | apply State.modChan_sound | apply State.launchAt_sound | apply State.Sound.foldl | apply State.Sound.ite | (apply State.Sound.mk' <;> first | rfl | assumption | apply State.modChan_sound | apply State.launchAt_sound | apply State.Sound.ite | apply State.Sound.foldl | refine State.Sound.ofPair ?_ (by assumption) | split) | apply State.Sound.foldlFst | refine State.Sound.ofPair ?_ (by assumption) | split | dsimp only)

theorem State.sendSrx_sound (h : s.Sound p) : ∀ x1 x2, (State.sendSrx s x1 x2).Sound p := by
  intros
  unfold State.sendSrx
  with_reducible repeat' (first | intro _ | assumption | apply State.modRef_sound | apply State.launch_sound | apply State.Sound.foldl | apply State.Sound.ite | (apply State.Sound.mk' <;> first | rfl | assumption | apply State.modRef_sound | apply State.launch_sound | apply State.Sound.ite | apply State.Sound.foldl | refine State.Sound.ofPair ?_ (by assumption) | split) | apply State.Sound.foldlFst | refine State.Sound.ofPair ?_ (by assumption) | split | dsimp only)

/-! ### BlockReset -/

theorem State.beginRecovery_sound (h : s.Sound p) : ∀ x1, (State.beginRecovery s x1).Sound p := by
  intros
  unfold State.beginRecovery
  with_reducible repeat' (first | intro _ | assumption | apply State.setFld_sound | apply State.modRef_sound | apply State.Sound.foldl | apply State.Sound.ite | (apply State.Sound.mk' <;> first | rfl | assumption | apply State.setFld_sound | apply State.modRef_sound | apply State.Sound.ite | apply State.Sound.foldl | refine State.Sound.ofPair ?_ (by assumption) | split) | apply State.Sound.foldlFst | refine State.Sound.ofPair ?_ (by assumption) | split | dsimp only)

theorem State.effectAll_sound (h : s.Sound p) : ∀ x1, (State.effectAll s x1).Sound p := by
  intros
  unfold State.effectAll
  with_reducible repeat' (first | intro _ | assumption | apply State.effected_sound | apply State.Sound.foldl | apply State.Sound.ite | (apply State.Sound.mk' <;> first | rfl | assumption | apply State.effected_sound | apply State.Sound.ite | apply State.Sound.foldl | refine State.Sound.ofPair ?_ (by assumption) | split) | apply State.Sound.foldlFst | refine State.Sound.ofPair ?_ (by assumption) | split | dsimp only)

theorem State.abortChan_sound (h : s.Sound p) : ∀ x1, (State.abortChan s x1).Sound p := by
  intros
  unfold State.abortChan
  with_reducible repeat' (first | intro _ | assumption | apply State.effectAll_sound | apply State.modChan_sound | apply State.Sound.foldl | apply State.Sound.ite | (apply State.Sound.mk' <;> first | rfl | assumption | apply State.effectAll_sound | apply State.modChan_sound | apply State.Sound.ite | apply State.Sound.foldl | refine State.Sound.ofPair ?_ (by assumption) | split) | apply State.Sound.foldlFst | refine State.Sound.ofPair ?_ (by assumption) | split | dsimp only)

theorem State.endChTest_sound (h : s.Sound p) : ∀ x1, (State.endChTest s x1).Sound p := by
  intros
  unfold State.endChTest
  with_reducible repeat' (first | intro _ | assumption | apply State.setFld_sound | apply State.setTest_sound | apply State.Sound.foldl | apply State.Sound.ite | (apply State.Sound.mk' <;> first | rfl | assumption | apply State.setFld_sound | apply State.setTest_sound | apply State.Sound.ite | apply State.Sound.foldl | refine State.Sound.ofPair ?_ (by assumption) | split) | apply State.Sound.foldlFst | refine State.Sound.ofPair ?_ (by assumption) | split | dsimp only)

theorem State.resetChan_sound (h : s.Sound p) : ∀ x1, (State.resetChan s x1).Sound p := by
  intros
  unfold State.resetChan
  with_reducible repeat' (first | intro _ | assumption | apply State.endChTest_sound | apply State.resetBlk_sound | apply State.abortChan_sound | apply State.setFld_sound | apply State.beginRecovery_sound | apply State.preAll_sound | apply State.modChan_sound | apply State.Sound.foldl | apply State.Sound.ite | (apply State.Sound.mk' <;> first | rfl | assumption | apply State.endChTest_sound | apply State.resetBlk_sound | apply State.abortChan_sound | apply State.setFld_sound | apply State.beginRecovery_sound | apply State.preAll_sound | apply State.modChan_sound | apply State.Sound.ite | apply State.Sound.foldl | refine State.Sound.ofPair ?_ (by assumption) | split) | apply State.Sound.foldlFst | refine State.Sound.ofPair ?_ (by assumption) | split | dsimp only)

theorem State.startTraining_sound (h : s.Sound p) : ∀ x1, (State.startTraining s x1).Sound p := by
  intro j
  have hb : ∀ (l : List Nat) (g : Bund → Bund) (m : Store Bund), Store.wf m = true →
      Store.wf (l.foldl (fun m b => Store.set m b {} (g (Store.get m b {}))) m) = true := by
    intro l g
    induction l with
    | nil => exact fun m hm => hm
    | cons a l ih => exact fun m hm => ih _ (Store.wf_set _ _ _ hm)
  unfold State.startTraining
  apply State.Sound.foldl
  · exact ⟨h.pending, fun q => { h.inv q with bund := hb j.bundles (fun x => { x with up := false, exch := false, retune := 0, isRetune := false, good := [], nc := [], nd := [] }) _ (h.inv q).bund }⟩
  · intros
    exact State.setFld_sound (State.setFld_sound (State.setFld_sound ‹_› ..) ..) ..

theorem State.trainQuad_sound (h : s.Sound p) : ∀ x1 x2, (State.trainQuad s x1 x2).Sound p := by
  intros
  unfold State.trainQuad
  with_reducible repeat' (first | intro _ | assumption | apply State.startTraining_sound | apply State.Sound.foldl | apply State.Sound.ite | (apply State.Sound.mk' <;> first | rfl | assumption | apply State.startTraining_sound | apply State.Sound.ite | apply State.Sound.foldl | refine State.Sound.ofPair ?_ (by assumption) | split) | apply State.Sound.foldlFst | refine State.Sound.ofPair ?_ (by assumption) | split | dsimp only)

theorem State.blockReset_sound (h : s.Sound p) : ∀ x1 x2, (State.blockReset s x1 x2).Sound p := by
  intros
  unfold State.blockReset
  with_reducible repeat' (first | intro _ | assumption | apply State.resetChan_sound | apply State.trainQuad_sound | apply State.resetBlk_sound | apply State.upTo_sound | apply State.modBund_sound | apply State.Sound.foldl | apply State.Sound.ite | (apply State.Sound.mk' <;> first | rfl | assumption | apply State.resetChan_sound | apply State.trainQuad_sound | apply State.resetBlk_sound | apply State.upTo_sound | apply State.modBund_sound | apply State.Sound.ite | apply State.Sound.foldl | refine State.Sound.ofPair ?_ (by assumption) | split) | apply State.Sound.foldlFst | refine State.Sound.ofPair ?_ (by assumption) | split | dsimp only)

/-! ### Flags -/

theorem State.setPend_sound (h : s.Sound p) : ∀ x1, (State.setPend s x1).Sound p := by
  intros
  unfold State.setPend
  with_reducible repeat' (first | intro _ | assumption | apply State.setFld_sound | apply State.Sound.foldl | apply State.Sound.ite | (apply State.Sound.mk' <;> first | rfl | assumption | apply State.setFld_sound | apply State.Sound.ite | apply State.Sound.foldl | refine State.Sound.ofPair ?_ (by assumption) | split) | apply State.Sound.foldlFst | refine State.Sound.ofPair ?_ (by assumption) | split | dsimp only)

theorem State.updErr_sound (h : s.Sound p) : (State.updErr s).Sound p := by
  unfold State.updErr
  with_reducible repeat' (first | intro _ | assumption | apply State.Sound.foldl | apply State.Sound.ite | (apply State.Sound.mk' <;> first | rfl | assumption | apply State.Sound.ite | apply State.Sound.foldl | refine State.Sound.ofPair ?_ (by assumption) | split) | apply State.Sound.foldlFst | refine State.Sound.ofPair ?_ (by assumption) | split | dsimp only)

theorem State.writeCap_sound (h : s.Sound p) : ∀ x1 x2 x3 x4, (State.writeCap s x1 x2 x3 x4).Sound p := by
  intros
  unfold State.writeCap
  with_reducible repeat' (first | intro _ | assumption | apply State.setFld_sound | apply State.setFlag_sound | apply State.Sound.foldl | apply State.Sound.ite | (apply State.Sound.mk' <;> first | rfl | assumption | apply State.setFld_sound | apply State.setFlag_sound | apply State.Sound.ite | apply State.Sound.foldl | refine State.Sound.ofPair ?_ (by assumption) | split) | apply State.Sound.foldlFst | refine State.Sound.ofPair ?_ (by assumption) | split | dsimp only)

theorem State.capture_sound (h : s.Sound p) : ∀ x1 x2 x3 x4, (State.capture s x1 x2 x3 x4).Sound p := by
  intro k src esc x
  unfold State.capture
  split
  · with_reducible apply State.writeCap_sound
    exact State.Sound.mk' h rfl rfl rfl rfl rfl rfl
  · dsimp only
    have h2 := State.bump_sound h Fld.FLT_CAP_OVERFLOW_COUNT 0 k 1
    generalize s.bump Fld.FLT_CAP_OVERFLOW_COUNT 0 k = u at h2 ⊢
    split
    · with_reducible apply State.writeCap_sound
      exact State.Sound.shrink h2 rfl rfl rfl rfl rfl rfl rfl rfl (by simp [Box.unheld]) (by simp [Box.unheld])
    · exact h2

theorem State.clearCap_sound (h : s.Sound p) : ∀ x1, (State.clearCap s x1).Sound p := by
  intros
  unfold State.clearCap
  with_reducible repeat' (first | intro _ | assumption | apply State.setFld_sound | apply State.Sound.foldl | apply State.Sound.ite | (apply State.Sound.mk' <;> first | rfl | assumption | apply State.setFld_sound | apply State.Sound.ite | apply State.Sound.foldl | refine State.Sound.ofPair ?_ (by assumption) | split) | apply State.Sound.foldlFst | refine State.Sound.ofPair ?_ (by assumption) | split | dsimp only)

theorem State.countBrs_sound (h : s.Sound p) : ∀ x1 x2, (State.countBrs s x1 x2).Sound p := by
  intros
  unfold State.countBrs
  with_reducible repeat' (first | intro _ | assumption | apply State.Sound.foldl | apply State.Sound.ite | (apply State.Sound.mk' <;> first | rfl | assumption | apply State.Sound.ite | apply State.Sound.foldl | refine State.Sound.ofPair ?_ (by assumption) | split) | apply State.Sound.foldlFst | refine State.Sound.ofPair ?_ (by assumption) | split | dsimp only)

theorem State.queueBulletin_sound (h : s.Sound p) : ∀ x1 x2 x3, (State.queueBulletin s x1 x2 x3).Sound p := by
  intros
  unfold State.queueBulletin
  with_reducible repeat' (first | intro _ | assumption | apply State.queueUrgent_sound | apply State.queueMask_sound | apply State.Sound.foldl | apply State.Sound.ite | (apply State.Sound.mk' <;> first | rfl | assumption | apply State.queueUrgent_sound | apply State.queueMask_sound | apply State.Sound.ite | apply State.Sound.foldl | refine State.Sound.ofPair ?_ (by assumption) | split) | apply State.Sound.foldlFst | refine State.Sound.ofPair ?_ (by assumption) | split | dsimp only)

theorem State.reactBrs_sound (h : s.Sound p) : ∀ x1 x2, (State.reactBrs s x1 x2).Sound p := by
  intros
  unfold State.reactBrs
  with_reducible repeat' (first | intro _ | assumption | apply State.blockReset_sound | apply State.countBrs_sound | apply State.Sound.foldl | apply State.Sound.ite | (apply State.Sound.mk' <;> first | rfl | assumption | apply State.blockReset_sound | apply State.countBrs_sound | apply State.Sound.ite | apply State.Sound.foldl | refine State.Sound.ofPair ?_ (by assumption) | split) | apply State.Sound.foldlFst | refine State.Sound.ofPair ?_ (by assumption) | split | dsimp only)

theorem State.reactCrs_sound (h : s.Sound p) : ∀ x1, (State.reactCrs s x1).Sound p := by
  intros
  unfold State.reactCrs
  with_reducible repeat' (first | intro _ | assumption | apply State.Sound.foldl | apply State.Sound.ite | (apply State.Sound.mk' <;> first | rfl | assumption | apply State.Sound.ite | apply State.Sound.foldl | refine State.Sound.ofPair ?_ (by assumption) | split) | apply State.Sound.foldlFst | refine State.Sound.ofPair ?_ (by assumption) | split | dsimp only)

theorem State.raiseCore_sound (h : s.Sound p) : ∀ x1 x2 x3, (State.raiseCore s x1 x2 x3).Sound p := by
  intros
  unfold State.raiseCore
  with_reducible repeat' (first | intro _ | assumption | apply State.capture_sound | apply State.bump_sound | apply State.setPend_sound | apply State.updErr_sound | apply State.queueBulletin_sound | apply State.reactBrs_sound | apply State.reactCrs_sound | apply State.Sound.foldl | apply State.Sound.ite | (apply State.Sound.mk' <;> first | rfl | assumption | apply State.capture_sound | apply State.bump_sound | apply State.setPend_sound | apply State.updErr_sound | apply State.queueBulletin_sound | apply State.reactBrs_sound | apply State.reactCrs_sound | apply State.Sound.ite | apply State.Sound.foldl | refine State.Sound.ofPair ?_ (by assumption) | split) | apply State.Sound.foldlFst | refine State.Sound.ofPair ?_ (by assumption) | split | dsimp only)

theorem State.raise_sound (h : s.Sound p) : ∀ x1 x2 x3, (State.raise s x1 x2 x3).Sound p := by
  intros
  unfold State.raise
  with_reducible repeat' (first | intro _ | assumption | apply State.raiseCore_sound | apply State.bump_sound | apply State.Sound.foldl | apply State.Sound.ite | (apply State.Sound.mk' <;> first | rfl | assumption | apply State.raiseCore_sound | apply State.bump_sound | apply State.Sound.ite | apply State.Sound.foldl | refine State.Sound.ofPair ?_ (by assumption) | split) | apply State.Sound.foldlFst | refine State.Sound.ofPair ?_ (by assumption) | split | dsimp only)

/-! ### Resets -/

theorem State.ackedFills_sound (h : s.Sound p) : (State.ackedFills s).Sound p := by
  unfold State.ackedFills
  with_reducible repeat' (first | intro _ | assumption | apply State.setVbit_sound | apply State.Sound.foldl | apply State.Sound.ite | (apply State.Sound.mk' <;> first | rfl | assumption | apply State.setVbit_sound | apply State.Sound.ite | apply State.Sound.foldl | refine State.Sound.ofPair ?_ (by assumption) | split) | apply State.Sound.foldlFst | refine State.Sound.ofPair ?_ (by assumption) | split | dsimp only)

theorem State.deviceReset_sound (h : s.Sound p) : ∀ x1 x2, (State.deviceReset s x1 x2).Sound p := by
  intro k n
  have h2 := State.resetRegs_sound (State.ackedFills_sound h) k fun _ => true
  unfold State.deviceReset
  apply State.updErr_sound
  apply State.setFld_sound
  exact ⟨h2.pending, fun q => { regs := (h2.inv q).regs, trks := rfl, chans := rfl, bund := rfl, layers := rfl, snap := rfl, vmap := (h2.inv q).vmap, bul := Nat.zero_le _, urg := Nat.zero_le _ }⟩

theorem State.chipReset_sound (h : s.Sound p) : ∀ x1, (State.chipReset s x1).Sound p := by
  intros
  unfold State.chipReset
  with_reducible repeat' (first | intro _ | assumption | apply State.deviceReset_sound | apply State.Sound.foldl | apply State.Sound.ite | (apply State.Sound.mk' <;> first | rfl | assumption | apply State.deviceReset_sound | apply State.Sound.ite | apply State.Sound.foldl | refine State.Sound.ofPair ?_ (by assumption) | split) | apply State.Sound.foldlFst | refine State.Sound.ofPair ?_ (by assumption) | split | dsimp only)

theorem State.porReset_sound (h : s.Sound p) : (State.porReset s).Sound p := by
  exact ⟨h.pending, fun _ => { regs := rfl, trks := rfl, chans := rfl, bund := rfl, layers := rfl, snap := rfl, vmap := ⟨rfl, fun _ he => nomatch he⟩, bul := Nat.zero_le _, urg := Nat.zero_le _ }⟩

theorem State.beginStart_sound (h : s.Sound p) : (State.beginStart s).Sound p := by
  unfold State.beginStart
  with_reducible repeat' (first | intro _ | assumption | apply State.setFlag_sound | apply State.Sound.foldl | apply State.Sound.ite | (apply State.Sound.mk' <;> first | rfl | assumption | apply State.setFlag_sound | apply State.Sound.ite | apply State.Sound.foldl | refine State.Sound.ofPair ?_ (by assumption) | split) | apply State.Sound.foldlFst | refine State.Sound.ofPair ?_ (by assumption) | split | dsimp only)

/-! ### Lanes -/

theorem State.beginAttempt_sound (h : s.Sound p) : ∀ x1 x2, (State.beginAttempt s x1 x2).Sound p := by
  intros
  unfold State.beginAttempt
  with_reducible repeat' (first | intro _ | assumption | apply State.setFld_sound | apply State.upTo_sound | apply State.clrFld_sound | apply State.when_sound | apply State.modTrk_sound | apply State.Sound.foldl | apply State.Sound.ite | (apply State.Sound.mk' <;> first | rfl | assumption | apply State.setFld_sound | apply State.upTo_sound | apply State.clrFld_sound | apply State.when_sound | apply State.modTrk_sound | apply State.Sound.ite | apply State.Sound.foldl | refine State.Sound.ofPair ?_ (by assumption) | split) | apply State.Sound.foldlFst | refine State.Sound.ofPair ?_ (by assumption) | split | dsimp only)

theorem State.retrain_sound (h : s.Sound p) : ∀ x1 x2, (State.retrain s x1 x2).Sound p := by
  intros
  unfold State.retrain
  with_reducible repeat' (first | intro _ | assumption | apply State.resetBlk_sound | apply State.setFld_sound | apply State.modTrk_sound | apply State.beginAttempt_sound | apply State.Sound.foldl | apply State.Sound.ite | (apply State.Sound.mk' <;> first | rfl | assumption | apply State.resetBlk_sound | apply State.setFld_sound | apply State.modTrk_sound | apply State.beginAttempt_sound | apply State.Sound.ite | apply State.Sound.foldl | refine State.Sound.ofPair ?_ (by assumption) | split) | apply State.Sound.foldlFst | refine State.Sound.ofPair ?_ (by assumption) | split | dsimp only)

theorem State.setRxLane_sound (h : s.Sound p) : ∀ x1 x2 x3, (State.setRxLane s x1 x2 x3).Sound p := by
  intros
  unfold State.setRxLane
  with_reducible repeat' (first | intro _ | assumption | apply State.modTrk_sound | apply State.Sound.foldl | apply State.Sound.ite | (apply State.Sound.mk' <;> first | rfl | assumption | apply State.modTrk_sound | apply State.Sound.ite | apply State.Sound.foldl | refine State.Sound.ofPair ?_ (by assumption) | split) | apply State.Sound.foldlFst | refine State.Sound.ofPair ?_ (by assumption) | split | dsimp only)

theorem State.setTxLane_sound (h : s.Sound p) : ∀ x1 x2 x3, (State.setTxLane s x1 x2 x3).Sound p := by
  intros
  unfold State.setTxLane
  with_reducible repeat' (first | intro _ | assumption | apply State.modTrk_sound | apply State.Sound.foldl | apply State.Sound.ite | (apply State.Sound.mk' <;> first | rfl | assumption | apply State.modTrk_sound | apply State.Sound.ite | apply State.Sound.foldl | refine State.Sound.ofPair ?_ (by assumption) | split) | apply State.Sound.foldlFst | refine State.Sound.ofPair ?_ (by assumption) | split | dsimp only)

theorem State.laneErr_sound (h : s.Sound p) : ∀ x1 x2, (State.laneErr s x1 x2).Sound p := by
  intros
  unfold State.laneErr
  with_reducible repeat' (first | intro _ | assumption | apply State.setRxLane_sound | apply State.Sound.foldl | apply State.Sound.ite | (apply State.Sound.mk' <;> first | rfl | assumption | apply State.setRxLane_sound | apply State.Sound.ite | apply State.Sound.foldl | refine State.Sound.ofPair ?_ (by assumption) | split) | apply State.Sound.foldlFst | refine State.Sound.ofPair ?_ (by assumption) | split | dsimp only)

theorem State.laneViol_sound (h : s.Sound p) : ∀ x1 x2, (State.laneViol s x1 x2).Sound p := by
  intros
  unfold State.laneViol
  with_reducible repeat' (first | intro _ | assumption | apply State.laneErr_sound | apply State.bump_sound | apply State.Sound.foldl | apply State.Sound.ite | (apply State.Sound.mk' <;> first | rfl | assumption | apply State.laneErr_sound | apply State.bump_sound | apply State.Sound.ite | apply State.Sound.foldl | refine State.Sound.ofPair ?_ (by assumption) | split) | apply State.Sound.foldlFst | refine State.Sound.ofPair ?_ (by assumption) | split | dsimp only)

theorem State.rxSymbol_sound (h : s.Sound p) : ∀ x1 x2 x3 x4, (State.rxSymbol s x1 x2 x3 x4).1.Sound p := by
  intros
  unfold State.rxSymbol
  with_reducible repeat' (first | intro _ | assumption | apply State.setRxLane_sound | apply State.setFld_sound | apply State.when_sound | apply State.laneViol_sound | apply State.laneErr_sound | apply State.bump_sound | apply State.Sound.foldl | apply State.Sound.ite | (apply State.Sound.mk' <;> first | rfl | assumption | apply State.setRxLane_sound | apply State.setFld_sound | apply State.when_sound | apply State.laneViol_sound | apply State.laneErr_sound | apply State.bump_sound | apply State.Sound.ite | apply State.Sound.foldl | refine State.Sound.ofPair ?_ (by assumption) | split) | apply State.Sound.foldlFst | refine State.Sound.ofPair ?_ (by assumption) | split | dsimp only)

theorem State.trySpare_sound (h : s.Sound p) : ∀ x1 x2 x3, (State.trySpare s x1 x2 x3).Sound p := by
  intros
  unfold State.trySpare
  with_reducible repeat' (first | intro _ | assumption | apply State.retrain_sound | apply State.raise_sound | apply State.modTrk_sound | apply State.Sound.foldl | apply State.Sound.ite | (apply State.Sound.mk' <;> first | rfl | assumption | apply State.retrain_sound | apply State.raise_sound | apply State.modTrk_sound | apply State.Sound.ite | apply State.Sound.foldl | refine State.Sound.ofPair ?_ (by assumption) | split) | apply State.Sound.foldlFst | refine State.Sound.ofPair ?_ (by assumption) | split | dsimp only)

theorem State.requestSparing_sound (h : s.Sound p) : ∀ x1 x2, (State.requestSparing s x1 x2).Sound p := by
  intros
  unfold State.requestSparing
  with_reducible repeat' (first | intro _ | assumption | apply State.setFld_sound | apply State.trySpare_sound | apply State.Sound.foldl | apply State.Sound.ite | (apply State.Sound.mk' <;> first | rfl | assumption | apply State.setFld_sound | apply State.trySpare_sound | apply State.Sound.ite | apply State.Sound.foldl | refine State.Sound.ofPair ?_ (by assumption) | split) | apply State.Sound.foldlFst | refine State.Sound.ofPair ?_ (by assumption) | split | dsimp only)

theorem State.spareFailed_sound (h : s.Sound p) : ∀ x1, (State.spareFailed s x1).Sound p := by
  intros
  unfold State.spareFailed
  with_reducible repeat' (first | intro _ | assumption | apply State.retrain_sound | apply State.raise_sound | apply State.trySpare_sound | apply State.Sound.foldl | apply State.Sound.ite | (apply State.Sound.mk' <;> first | rfl | assumption | apply State.retrain_sound | apply State.raise_sound | apply State.trySpare_sound | apply State.Sound.ite | apply State.Sound.foldl | refine State.Sound.ofPair ?_ (by assumption) | split) | apply State.Sound.foldlFst | refine State.Sound.ofPair ?_ (by assumption) | split | dsimp only)

theorem State.takeMgmt_sound (h : s.Sound p) : ∀ x1 x2 x3, (State.takeMgmt s x1 x2 x3).Sound p := by
  intros
  unfold State.takeMgmt
  with_reducible repeat' (first | intro _ | assumption | apply State.modRx_sound | apply State.Sound.foldl | apply State.Sound.ite | (apply State.Sound.mk' <;> first | rfl | assumption | apply State.modRx_sound | apply State.Sound.ite | apply State.Sound.foldl | refine State.Sound.ofPair ?_ (by assumption) | split) | apply State.Sound.foldlFst | refine State.Sound.ofPair ?_ (by assumption) | split | dsimp only)

theorem execLaneMgmtReqRx_sound (h : s.Sound p) : ∀ x0 x1, Out.Sound p (execLaneMgmtReqRx x0 x1 s) := by
  intros
  unfold execLaneMgmtReqRx
  with_reducible repeat' (first | intro _ | assumption | apply State.takeMgmt_sound | apply State.modTrk_sound | apply State.Sound.foldl | apply Out.Sound.next | apply State.Sound.ite | (apply State.Sound.mk' <;> first | rfl | assumption | apply State.takeMgmt_sound | apply State.modTrk_sound | apply State.Sound.ite | apply State.Sound.foldl | refine State.Sound.ofPair ?_ (by assumption) | split) | apply State.Sound.foldlFst | refine State.Sound.ofPair ?_ (by assumption) | split | dsimp only)

theorem execLaneMgmtAckRx_sound (h : s.Sound p) : ∀ x0 x1, Out.Sound p (execLaneMgmtAckRx x0 x1 s) := by
  intros
  unfold execLaneMgmtAckRx
  with_reducible repeat' (first | intro _ | assumption | apply State.takeMgmt_sound | apply State.modTrk_sound | apply State.Sound.foldl | apply Out.Sound.next | apply State.Sound.ite | (apply State.Sound.mk' <;> first | rfl | assumption | apply State.takeMgmt_sound | apply State.modTrk_sound | apply State.Sound.ite | apply State.Sound.foldl | refine State.Sound.ofPair ?_ (by assumption) | split) | apply State.Sound.foldlFst | refine State.Sound.ofPair ?_ (by assumption) | split | dsimp only)

theorem execLaneMgmtRejRx_sound (h : s.Sound p) : ∀ x0 x1, Out.Sound p (execLaneMgmtRejRx x0 x1 s) := by
  intros
  unfold execLaneMgmtRejRx
  with_reducible repeat' (first | intro _ | assumption | apply State.takeMgmt_sound | apply State.spareFailed_sound | apply State.Sound.foldl | apply Out.Sound.next | apply State.Sound.ite | (apply State.Sound.mk' <;> first | rfl | assumption | apply State.takeMgmt_sound | apply State.spareFailed_sound | apply State.Sound.ite | apply State.Sound.foldl | refine State.Sound.ofPair ?_ (by assumption) | split) | apply State.Sound.foldlFst | refine State.Sound.ofPair ?_ (by assumption) | split | dsimp only)

theorem execLaneSpareReqTimeout_sound (h : s.Sound p) : ∀ x0, Out.Sound p (execLaneSpareReqTimeout x0 s) := by
  intros
  unfold execLaneSpareReqTimeout
  with_reducible repeat' (first | intro _ | assumption | apply State.spareFailed_sound | apply State.Sound.foldl | apply Out.Sound.next | apply State.Sound.ite | (apply State.Sound.mk' <;> first | rfl | assumption | apply State.spareFailed_sound | apply State.Sound.ite | apply State.Sound.foldl | refine State.Sound.ofPair ?_ (by assumption) | split) | apply State.Sound.foldlFst | refine State.Sound.ofPair ?_ (by assumption) | split | dsimp only)

theorem State.activateSpare_sound (h : s.Sound p) : ∀ x1 x2 x3 x4, (State.activateSpare s x1 x2 x3 x4).Sound p := by
  intros
  unfold State.activateSpare
  with_reducible repeat' (first | intro _ | assumption | apply State.setFld_sound | apply State.Sound.foldl | apply State.Sound.ite | (apply State.Sound.mk' <;> first | rfl | assumption | apply State.setFld_sound | apply State.Sound.ite | apply State.Sound.foldl | refine State.Sound.ofPair ?_ (by assumption) | split) | apply State.Sound.foldlFst | refine State.Sound.ofPair ?_ (by assumption) | split | dsimp only)

theorem execLaneSpareSwitch_sound (h : s.Sound p) : ∀ x0 x1, Out.Sound p (execLaneSpareSwitch x0 x1 s) := by
  intros
  unfold execLaneSpareSwitch
  with_reducible repeat' (first | intro _ | assumption | apply State.raise_sound | apply State.modTrk_sound | apply State.activateSpare_sound | apply State.Sound.foldl | apply Out.Sound.next | apply State.Sound.ite | (apply State.Sound.mk' <;> first | rfl | assumption | apply State.raise_sound | apply State.modTrk_sound | apply State.activateSpare_sound | apply State.Sound.ite | apply State.Sound.foldl | refine State.Sound.ofPair ?_ (by assumption) | split) | apply State.Sound.foldlFst | refine State.Sound.ofPair ?_ (by assumption) | split | dsimp only)

theorem State.lockMiss_sound (h : s.Sound p) : ∀ x1 x2 x3, (State.lockMiss s x1 x2 x3).1.Sound p := by
  intros
  unfold State.lockMiss
  with_reducible repeat' (first | intro _ | assumption | apply State.bump_sound | apply State.setRxLane_sound | apply State.setFld_sound | apply State.Sound.foldl | apply State.Sound.ite | (apply State.Sound.mk' <;> first | rfl | assumption | apply State.bump_sound | apply State.setRxLane_sound | apply State.setFld_sound | apply State.Sound.ite | apply State.Sound.foldl | refine State.Sound.ofPair ?_ (by assumption) | split) | apply State.Sound.foldlFst | refine State.Sound.ofPair ?_ (by assumption) | split | dsimp only)

theorem State.lockStep_sound (h : s.Sound p) : ∀ x1 x2 x3 x4, (State.lockStep s x1 x2 x3 x4).1.Sound p := by
  intros
  unfold State.lockStep
  with_reducible repeat' (first | intro _ | assumption | apply State.setRxLane_sound | apply State.setFld_sound | apply State.lockMiss_sound | apply State.Sound.foldl | apply State.Sound.ite | (apply State.Sound.mk' <;> first | rfl | assumption | apply State.setRxLane_sound | apply State.setFld_sound | apply State.lockMiss_sound | apply State.Sound.ite | apply State.Sound.foldl | refine State.Sound.ofPair ?_ (by assumption) | split) | apply State.Sound.foldlFst | refine State.Sound.ofPair ?_ (by assumption) | split | dsimp only)

theorem State.onLockLoss_sound (h : s.Sound p) : ∀ x1 x2, (State.onLockLoss s x1 x2).Sound p := by
  intros
  unfold State.onLockLoss
  with_reducible repeat' (first | intro _ | assumption | apply State.when_sound | apply State.raise_sound | apply State.requestSparing_sound | apply State.Sound.foldl | apply State.Sound.ite | (apply State.Sound.mk' <;> first | rfl | assumption | apply State.when_sound | apply State.raise_sound | apply State.requestSparing_sound | apply State.Sound.ite | apply State.Sound.foldl | refine State.Sound.ofPair ?_ (by assumption) | split) | apply State.Sound.foldlFst | refine State.Sound.ofPair ?_ (by assumption) | split | dsimp only)

theorem State.checkErrLimit_sound (h : s.Sound p) : ∀ x1 x2, (State.checkErrLimit s x1 x2).Sound p := by
  intros
  unfold State.checkErrLimit
  with_reducible repeat' (first | intro _ | assumption | apply State.requestSparing_sound | apply State.setRxLane_sound | apply State.Sound.foldl | apply State.Sound.ite | (apply State.Sound.mk' <;> first | rfl | assumption | apply State.requestSparing_sound | apply State.setRxLane_sound | apply State.Sound.ite | apply State.Sound.foldl | refine State.Sound.ofPair ?_ (by assumption) | split) | apply State.Sound.foldlFst | refine State.Sound.ofPair ?_ (by assumption) | split | dsimp only)

theorem execSpareErrWindowEnd_sound (h : s.Sound p) : ∀ x0, Out.Sound p (execSpareErrWindowEnd x0 s) := by
  intros
  unfold execSpareErrWindowEnd
  with_reducible repeat' (first | intro _ | assumption | apply State.modTrk_sound | apply State.Sound.foldl | apply Out.Sound.next | apply State.Sound.ite | (apply State.Sound.mk' <;> first | rfl | assumption | apply State.modTrk_sound | apply State.Sound.ite | apply State.Sound.foldl | refine State.Sound.ofPair ?_ (by assumption) | split) | apply State.Sound.foldlFst | refine State.Sound.ofPair ?_ (by assumption) | split | dsimp only)

theorem State.closeWindow_sound (h : s.Sound p) : ∀ x1 x2 x3, (State.closeWindow s x1 x2 x3).Sound p := by
  intros
  unfold State.closeWindow
  with_reducible repeat' (first | intro _ | assumption | apply State.setRxLane_sound | apply State.bump_sound | apply State.Sound.foldl | apply State.Sound.ite | (apply State.Sound.mk' <;> first | rfl | assumption | apply State.setRxLane_sound | apply State.bump_sound | apply State.Sound.ite | apply State.Sound.foldl | refine State.Sound.ofPair ?_ (by assumption) | split) | apply State.Sound.foldlFst | refine State.Sound.ofPair ?_ (by assumption) | split | dsimp only)

theorem State.applyLane_sound (h : s.Sound p) : ∀ x1 x2, (State.applyLane s x1 x2).Sound p := by
  intros
  unfold State.applyLane
  with_reducible repeat' (first | intro _ | assumption | apply State.setFld_sound | apply State.setRxLane_sound | apply State.Sound.foldl | apply State.Sound.ite | (apply State.Sound.mk' <;> first | rfl | assumption | apply State.setFld_sound | apply State.setRxLane_sound | apply State.Sound.ite | apply State.Sound.foldl | refine State.Sound.ofPair ?_ (by assumption) | split) | apply State.Sound.foldlFst | refine State.Sound.ofPair ?_ (by assumption) | split | dsimp only)

theorem State.stageEq_sound (h : s.Sound p) : ∀ x1 x2, (State.stageEq s x1 x2).Sound p := by
  intros
  unfold State.stageEq
  with_reducible repeat' (first | intro _ | assumption | apply State.setRxLane_sound | apply State.Sound.foldl | apply State.Sound.ite | (apply State.Sound.mk' <;> first | rfl | assumption | apply State.setRxLane_sound | apply State.Sound.ite | apply State.Sound.foldl | refine State.Sound.ofPair ?_ (by assumption) | split) | apply State.Sound.foldlFst | refine State.Sound.ofPair ?_ (by assumption) | split | dsimp only)

theorem State.prbsCheck_sound (h : s.Sound p) : ∀ x1 x2 x3, (State.prbsCheck s x1 x2 x3).Sound p := by
  intros
  unfold State.prbsCheck
  with_reducible repeat' (first | intro _ | assumption | apply State.bump_sound | apply State.setFlag_sound | apply State.setRxLane_sound | apply State.Sound.foldl | apply State.Sound.ite | (apply State.Sound.mk' <;> first | rfl | assumption | apply State.bump_sound | apply State.setFlag_sound | apply State.setRxLane_sound | apply State.Sound.ite | apply State.Sound.foldl | refine State.Sound.ofPair ?_ (by assumption) | split) | apply State.Sound.foldlFst | refine State.Sound.ofPair ?_ (by assumption) | split | dsimp only)

theorem State.injected_sound (h : s.Sound p) : ∀ x1 x2, (State.injected s x1 x2).Sound p := by
  intros
  unfold State.injected
  with_reducible repeat' (first | intro _ | assumption | apply State.when_sound | apply State.setFld_sound | apply State.setTxLane_sound | apply State.Sound.foldl | apply State.Sound.ite | (apply State.Sound.mk' <;> first | rfl | assumption | apply State.when_sound | apply State.setFld_sound | apply State.setTxLane_sound | apply State.Sound.ite | apply State.Sound.foldl | refine State.Sound.ofPair ?_ (by assumption) | split) | apply State.Sound.foldlFst | refine State.Sound.ofPair ?_ (by assumption) | split | dsimp only)

theorem State.txSymbol_sound (h : s.Sound p) : ∀ x1 x2 x3 x4, (State.txSymbol s x1 x2 x3 x4).1.Sound p := by
  intros
  unfold State.txSymbol
  with_reducible repeat' (first | intro _ | assumption | apply State.setTxLane_sound | apply State.injected_sound | apply State.Sound.foldl | apply State.Sound.ite | (apply State.Sound.mk' <;> first | rfl | assumption | apply State.setTxLane_sound | apply State.injected_sound | apply State.Sound.ite | apply State.Sound.foldl | refine State.Sound.ofPair ?_ (by assumption) | split) | apply State.Sound.foldlFst | refine State.Sound.ofPair ?_ (by assumption) | split | dsimp only)

theorem State.txPrbs_sound (h : s.Sound p) : ∀ x1 x2, (State.txPrbs s x1 x2).1.Sound p := by
  intros
  unfold State.txPrbs
  with_reducible repeat' (first | intro _ | assumption | apply State.setTxLane_sound | apply State.injected_sound | apply State.Sound.foldl | apply State.Sound.ite | (apply State.Sound.mk' <;> first | rfl | assumption | apply State.setTxLane_sound | apply State.injected_sound | apply State.Sound.ite | apply State.Sound.foldl | refine State.Sound.ofPair ?_ (by assumption) | split) | apply State.Sound.foldlFst | refine State.Sound.ofPair ?_ (by assumption) | split | dsimp only)

end Sys2Proof.Machine
end

