-- ==== Sys2Proof/Laws/SoundB.lean ====
section
/-! SUPPORT. The queue and the invariant through every operation of Packets, Queue, Training. -/
namespace Sys2Proof.Machine

set_option linter.all false

variable {p : List Instr × Prop} {s : State}

/-! ### Packets -/

theorem State.malformed_sound (h : s.Sound p) : ∀ x1 x2 x3, (State.malformed s x1 x2 x3).Sound p := by
  intros
  unfold State.malformed
  with_reducible repeat' (first | intro _ | assumption | apply State.raise_sound | apply State.bump_sound | apply State.Sound.foldl | apply State.Sound.ite | (apply State.Sound.mk' <;> first | rfl | assumption | apply State.raise_sound | apply State.bump_sound | apply State.Sound.ite | apply State.Sound.foldl | refine State.Sound.ofPair ?_ (by assumption) | split) | apply State.Sound.foldlFst | refine State.Sound.ofPair ?_ (by assumption) | split | dsimp only)

theorem State.returnTablets_sound (h : s.Sound p) : ∀ x1 x2 x3, (State.returnTablets s x1 x2 x3).Sound p := by
  intros
  unfold State.returnTablets
  with_reducible repeat' (first | intro _ | assumption | apply State.modTx_sound | apply State.Sound.foldl | apply State.Sound.ite | (apply State.Sound.mk' <;> first | rfl | assumption | apply State.modTx_sound | apply State.Sound.ite | apply State.Sound.foldl | refine State.Sound.ofPair ?_ (by assumption) | split) | apply State.Sound.foldlFst | refine State.Sound.ofPair ?_ (by assumption) | split | dsimp only)

theorem State.returnFor_sound (h : s.Sound p) : ∀ x1 x2 x3 x4, (State.returnFor s x1 x2 x3 x4).Sound p := by
  intros
  unfold State.returnFor
  with_reducible repeat' (first | intro _ | assumption | apply State.returnTablets_sound | apply State.Sound.foldl | apply State.Sound.ite | (apply State.Sound.mk' <;> first | rfl | assumption | apply State.returnTablets_sound | apply State.Sound.ite | apply State.Sound.foldl | refine State.Sound.ofPair ?_ (by assumption) | split) | apply State.Sound.foldlFst | refine State.Sound.ofPair ?_ (by assumption) | split | dsimp only)

theorem State.account_sound (h : s.Sound p) : ∀ x1 x2, (State.account s x1 x2).Sound p := by
  intros
  unfold State.account
  with_reducible repeat' (first | intro _ | assumption | apply State.setFld_sound | apply State.bump_sound | apply State.modTrk_sound | apply State.Sound.foldl | apply State.Sound.ite | (apply State.Sound.mk' <;> first | rfl | assumption | apply State.setFld_sound | apply State.bump_sound | apply State.modTrk_sound | apply State.Sound.ite | apply State.Sound.foldl | refine State.Sound.ofPair ?_ (by assumption) | split) | apply State.Sound.foldlFst | refine State.Sound.ofPair ?_ (by assumption) | split | dsimp only)

theorem State.accept_sound (h : s.Sound p) : ∀ x1 x2, (State.accept s x1 x2).1.Sound p := by
  intros
  unfold State.accept
  with_reducible repeat' (first | intro _ | assumption | apply State.account_sound | apply State.returnTablets_sound | apply State.malformed_sound | apply State.Sound.foldl | apply State.Sound.ite | (apply State.Sound.mk' <;> first | rfl | assumption | apply State.account_sound | apply State.returnTablets_sound | apply State.malformed_sound | apply State.Sound.ite | apply State.Sound.foldl | refine State.Sound.ofPair ?_ (by assumption) | split) | apply State.Sound.foldlFst | refine State.Sound.ofPair ?_ (by assumption) | split | dsimp only)

theorem State.acceptToInbox_sound (h : s.Sound p) : ∀ x1 x2, (State.acceptToInbox s x1 x2).Sound p := by
  intros
  unfold State.acceptToInbox
  with_reducible repeat' (first | intro _ | assumption | apply State.accept_sound | apply State.modRx_sound | apply State.Sound.foldl | apply State.Sound.ite | (apply State.Sound.mk' <;> first | rfl | assumption | apply State.accept_sound | apply State.modRx_sound | apply State.Sound.ite | apply State.Sound.foldl | refine State.Sound.ofPair ?_ (by assumption) | split) | apply State.Sound.foldlFst | refine State.Sound.ofPair ?_ (by assumption) | split | dsimp only)

theorem State.startReplay_sound (h : s.Sound p) : ∀ x1 x2, (State.startReplay s x1 x2).Sound p := by
  intros
  unfold State.startReplay
  with_reducible repeat' (first | intro _ | assumption | apply State.bump_sound | apply State.modTx_sound | apply State.raise_sound | apply State.setFld_sound | apply State.Sound.foldl | apply State.Sound.ite | (apply State.Sound.mk' <;> first | rfl | assumption | apply State.bump_sound | apply State.modTx_sound | apply State.raise_sound | apply State.setFld_sound | apply State.Sound.ite | apply State.Sound.foldl | refine State.Sound.ofPair ?_ (by assumption) | split) | apply State.Sound.foldlFst | refine State.Sound.ofPair ?_ (by assumption) | split | dsimp only)

theorem State.takeAck_sound (h : s.Sound p) : ∀ x1 x2 x3, (State.takeAck s x1 x2 x3).Sound p := by
  intros
  unfold State.takeAck
  with_reducible repeat' (first | intro _ | assumption | apply State.setFld_sound | apply State.modTx_sound | apply State.bump_sound | apply State.startReplay_sound | apply State.Sound.foldl | apply State.Sound.ite | (apply State.Sound.mk' <;> first | rfl | assumption | apply State.setFld_sound | apply State.modTx_sound | apply State.bump_sound | apply State.startReplay_sound | apply State.Sound.ite | apply State.Sound.foldl | refine State.Sound.ofPair ?_ (by assumption) | split) | apply State.Sound.foldlFst | refine State.Sound.ofPair ?_ (by assumption) | split | dsimp only)

theorem State.takeIn_sound (h : s.Sound p) : ∀ x1 x2, (State.takeIn s x1 x2).1.Sound p := by
  intros
  unfold State.takeIn
  with_reducible repeat' (first | intro _ | assumption | apply State.modRx_sound | apply State.accept_sound | apply State.takeAck_sound | apply State.Sound.foldl | apply State.Sound.ite | (apply State.Sound.mk' <;> first | rfl | assumption | apply State.modRx_sound | apply State.accept_sound | apply State.takeAck_sound | apply State.Sound.ite | apply State.Sound.foldl | refine State.Sound.ofPair ?_ (by assumption) | split) | apply State.Sound.foldlFst | refine State.Sound.ofPair ?_ (by assumption) | split | dsimp only)

theorem execAckTimeout_sound (h : s.Sound p) : ∀ x0, Out.Sound p (execAckTimeout x0 s) := by
  intros
  unfold execAckTimeout
  with_reducible repeat' (first | intro _ | assumption | apply State.startReplay_sound | apply State.Sound.foldl | apply Out.Sound.next | apply State.Sound.ite | (apply State.Sound.mk' <;> first | rfl | assumption | apply State.startReplay_sound | apply State.Sound.ite | apply State.Sound.foldl | refine State.Sound.ofPair ?_ (by assumption) | split) | apply State.Sound.foldlFst | refine State.Sound.ofPair ?_ (by assumption) | split | dsimp only)

theorem execReturnPendingTimeout_sound (h : s.Sound p) : ∀ x0, Out.Sound p (execReturnPendingTimeout x0 s) := by
  intros
  unfold execReturnPendingTimeout
  with_reducible repeat' (first | intro _ | assumption | apply State.modTx_sound | apply State.Sound.foldl | apply Out.Sound.next | apply State.Sound.ite | (apply State.Sound.mk' <;> first | rfl | assumption | apply State.modTx_sound | apply State.Sound.ite | apply State.Sound.foldl | refine State.Sound.ofPair ?_ (by assumption) | split) | apply State.Sound.foldlFst | refine State.Sound.ofPair ?_ (by assumption) | split | dsimp only)

theorem State.enterResync_sound (h : s.Sound p) : ∀ x1 x2, (State.enterResync s x1 x2).Sound p := by
  intros
  unfold State.enterResync
  with_reducible repeat' (first | intro _ | assumption | apply State.bump_sound | apply State.modRx_sound | apply State.Sound.foldl | apply State.Sound.ite | (apply State.Sound.mk' <;> first | rfl | assumption | apply State.bump_sound | apply State.modRx_sound | apply State.Sound.ite | apply State.Sound.foldl | refine State.Sound.ofPair ?_ (by assumption) | split) | apply State.Sound.foldlFst | refine State.Sound.ofPair ?_ (by assumption) | split | dsimp only)

theorem State.badHeader_sound (h : s.Sound p) : ∀ x1, (State.badHeader s x1).Sound p := by
  intros
  unfold State.badHeader
  with_reducible repeat' (first | intro _ | assumption | apply State.enterResync_sound | apply State.raise_sound | apply State.bump_sound | apply State.Sound.foldl | apply State.Sound.ite | (apply State.Sound.mk' <;> first | rfl | assumption | apply State.enterResync_sound | apply State.raise_sound | apply State.bump_sound | apply State.Sound.ite | apply State.Sound.foldl | refine State.Sound.ofPair ?_ (by assumption) | split) | apply State.Sound.foldlFst | refine State.Sound.ofPair ?_ (by assumption) | split | dsimp only)

theorem State.openPacket_sound (h : s.Sound p) : ∀ x1 x2 x3, (State.openPacket s x1 x2 x3).Sound p := by
  intros
  unfold State.openPacket
  with_reducible repeat' (first | intro _ | assumption | apply State.acceptToInbox_sound | apply State.modRx_sound | apply State.Sound.foldl | apply State.Sound.ite | (apply State.Sound.mk' <;> first | rfl | assumption | apply State.acceptToInbox_sound | apply State.modRx_sound | apply State.Sound.ite | apply State.Sound.foldl | refine State.Sound.ofPair ?_ (by assumption) | split) | apply State.Sound.foldlFst | refine State.Sound.ofPair ?_ (by assumption) | split | dsimp only)

theorem State.goodHeader_sound (h : s.Sound p) : ∀ x1 x2 x3, (State.goodHeader s x1 x2 x3).Sound p := by
  intros
  unfold State.goodHeader
  with_reducible repeat' (first | intro _ | assumption | apply State.modRx_sound | apply State.openPacket_sound | apply State.malformed_sound | apply State.badHeader_sound | apply State.Sound.foldl | apply State.Sound.ite | (apply State.Sound.mk' <;> first | rfl | assumption | apply State.modRx_sound | apply State.openPacket_sound | apply State.malformed_sound | apply State.badHeader_sound | apply State.Sound.ite | apply State.Sound.foldl | refine State.Sound.ofPair ?_ (by assumption) | split) | apply State.Sound.foldlFst | refine State.Sound.ofPair ?_ (by assumption) | split | dsimp only)

theorem State.headerRow_sound (h : s.Sound p) : ∀ x1 x2 x3 x4, (State.headerRow s x1 x2 x3 x4).Sound p := by
  intros
  unfold State.headerRow
  with_reducible repeat' (first | intro _ | assumption | apply State.badHeader_sound | apply State.takeAck_sound | apply State.goodHeader_sound | apply State.enterResync_sound | apply State.raise_sound | apply State.bump_sound | apply State.modRx_sound | apply State.acceptToInbox_sound | apply State.Sound.foldl | apply State.Sound.ite | (apply State.Sound.mk' <;> first | rfl | assumption | apply State.badHeader_sound | apply State.takeAck_sound | apply State.goodHeader_sound | apply State.enterResync_sound | apply State.raise_sound | apply State.bump_sound | apply State.modRx_sound | apply State.acceptToInbox_sound | apply State.Sound.ite | apply State.Sound.foldl | refine State.Sound.ofPair ?_ (by assumption) | split) | apply State.Sound.foldlFst | refine State.Sound.ofPair ?_ (by assumption) | split | dsimp only)

theorem State.resyncRow_sound (h : s.Sound p) : ∀ x1 x2 x3 x4, (State.resyncRow s x1 x2 x3 x4).Sound p := by
  intros
  unfold State.resyncRow
  with_reducible repeat' (first | intro _ | assumption | apply State.modRx_sound | apply State.takeAck_sound | apply State.goodHeader_sound | apply State.Sound.foldl | apply State.Sound.ite | (apply State.Sound.mk' <;> first | rfl | assumption | apply State.modRx_sound | apply State.takeAck_sound | apply State.goodHeader_sound | apply State.Sound.ite | apply State.Sound.foldl | refine State.Sound.ofPair ?_ (by assumption) | split) | apply State.Sound.foldlFst | refine State.Sound.ofPair ?_ (by assumption) | split | dsimp only)

theorem State.payloadRow_sound (h : s.Sound p) : ∀ x1 x2 x3 x4, (State.payloadRow s x1 x2 x3 x4).Sound p := by
  intros
  unfold State.payloadRow
  with_reducible repeat' (first | intro _ | assumption | apply State.modRx_sound | apply State.enterResync_sound | apply State.raise_sound | apply State.bump_sound | apply State.Sound.foldl | apply State.Sound.ite | (apply State.Sound.mk' <;> first | rfl | assumption | apply State.modRx_sound | apply State.enterResync_sound | apply State.raise_sound | apply State.bump_sound | apply State.Sound.ite | apply State.Sound.foldl | refine State.Sound.ofPair ?_ (by assumption) | split) | apply State.Sound.foldlFst | refine State.Sound.ofPair ?_ (by assumption) | split | dsimp only)

theorem State.dropRow_sound (h : s.Sound p) : ∀ x1, (State.dropRow s x1).Sound p := by
  intros
  unfold State.dropRow
  with_reducible repeat' (first | intro _ | assumption | apply State.bump_sound | apply State.modRx_sound | apply State.raise_sound | apply State.Sound.foldl | apply State.Sound.ite | (apply State.Sound.mk' <;> first | rfl | assumption | apply State.bump_sound | apply State.modRx_sound | apply State.raise_sound | apply State.Sound.ite | apply State.Sound.foldl | refine State.Sound.ofPair ?_ (by assumption) | split) | apply State.Sound.foldlFst | refine State.Sound.ofPair ?_ (by assumption) | split | dsimp only)

theorem State.rxData_sound (h : s.Sound p) : ∀ x1 x2 x3 x4, (State.rxData s x1 x2 x3 x4).Sound p := by
  intros
  unfold State.rxData
  with_reducible repeat' (first | intro _ | assumption | apply State.resyncRow_sound | apply State.dropRow_sound | apply State.headerRow_sound | apply State.payloadRow_sound | apply State.Sound.foldl | apply State.Sound.ite | (apply State.Sound.mk' <;> first | rfl | assumption | apply State.resyncRow_sound | apply State.dropRow_sound | apply State.headerRow_sound | apply State.payloadRow_sound | apply State.Sound.ite | apply State.Sound.foldl | refine State.Sound.ofPair ?_ (by assumption) | split) | apply State.Sound.foldlFst | refine State.Sound.ofPair ?_ (by assumption) | split | dsimp only)

theorem State.dataIn_sound (h : s.Sound p) : ∀ x1 x2 x3, (State.dataIn s x1 x2 x3).Sound p := by
  intros
  unfold State.dataIn
  with_reducible repeat' (first | intro _ | assumption | apply State.modRx_sound | apply State.rxData_sound | apply State.Sound.foldl | apply State.Sound.ite | (apply State.Sound.mk' <;> first | rfl | assumption | apply State.modRx_sound | apply State.rxData_sound | apply State.Sound.ite | apply State.Sound.foldl | refine State.Sound.ofPair ?_ (by assumption) | split) | apply State.Sound.foldlFst | refine State.Sound.ofPair ?_ (by assumption) | split | dsimp only)

theorem State.discardHeld_sound (h : s.Sound p) : ∀ x1, (State.discardHeld s x1).Sound p := by
  intros
  unfold State.discardHeld
  with_reducible repeat' (first | intro _ | assumption | apply State.modRx_sound | apply State.account_sound | apply State.respond_sound | apply State.modTx_sound | apply State.raise_sound | apply State.bump_sound | apply State.Sound.foldl | apply State.Sound.ite | (apply State.Sound.mk' <;> first | rfl | assumption | apply State.modRx_sound | apply State.account_sound | apply State.respond_sound | apply State.modTx_sound | apply State.raise_sound | apply State.bump_sound | apply State.Sound.ite | apply State.Sound.foldl | refine State.Sound.ofPair ?_ (by assumption) | split) | apply State.Sound.foldlFst | refine State.Sound.ofPair ?_ (by assumption) | split | dsimp only)

theorem State.stall_sound (h : s.Sound p) : ∀ x1, (State.stall s x1).Sound p := by
  intros
  unfold State.stall
  with_reducible repeat' (first | intro _ | assumption | apply State.raise_sound | apply State.bump_sound | apply State.modRx_sound | apply State.discardHeld_sound | apply State.Sound.foldl | apply State.Sound.ite | (apply State.Sound.mk' <;> first | rfl | assumption | apply State.raise_sound | apply State.bump_sound | apply State.modRx_sound | apply State.discardHeld_sound | apply State.Sound.ite | apply State.Sound.foldl | refine State.Sound.ofPair ?_ (by assumption) | split) | apply State.Sound.foldlFst | refine State.Sound.ofPair ?_ (by assumption) | split | dsimp only)

theorem State.setSig_sound (h : s.Sound p) : ∀ x1 x2, (State.setSig s x1 x2).Sound p := by
  intros
  unfold State.setSig
  with_reducible repeat' (first | intro _ | assumption | apply State.upTo_sound | apply State.setRxLane_sound | apply State.setFlag_sound | apply State.Sound.foldl | apply State.Sound.ite | (apply State.Sound.mk' <;> first | rfl | assumption | apply State.upTo_sound | apply State.setRxLane_sound | apply State.setFlag_sound | apply State.Sound.ite | apply State.Sound.foldl | refine State.Sound.ofPair ?_ (by assumption) | split) | apply State.Sound.foldlFst | refine State.Sound.ofPair ?_ (by assumption) | split | dsimp only)

theorem execStallBegin_sound (h : s.Sound p) : ∀ x0, Out.Sound p (execStallBegin x0 s) := by
  intros
  unfold execStallBegin
  with_reducible repeat' (first | intro _ | assumption | apply State.stall_sound | apply State.setSig_sound | apply State.Sound.foldl | apply Out.Sound.next | apply State.Sound.ite | (apply State.Sound.mk' <;> first | rfl | assumption | apply State.stall_sound | apply State.setSig_sound | apply State.Sound.ite | apply State.Sound.foldl | refine State.Sound.ofPair ?_ (by assumption) | split) | apply State.Sound.foldlFst | refine State.Sound.ofPair ?_ (by assumption) | split | dsimp only)

theorem execStallEnd_sound (h : s.Sound p) : ∀ x0 x1, Out.Sound p (execStallEnd x0 x1 s) := by
  intros
  unfold execStallEnd
  with_reducible repeat' (first | intro _ | assumption | apply State.modRx_sound | apply State.setSig_sound | apply State.Sound.foldl | apply Out.Sound.next | apply State.Sound.ite | (apply State.Sound.mk' <;> first | rfl | assumption | apply State.modRx_sound | apply State.setSig_sound | apply State.Sound.ite | apply State.Sound.foldl | refine State.Sound.ofPair ?_ (by assumption) | split) | apply State.Sound.foldlFst | refine State.Sound.ofPair ?_ (by assumption) | split | dsimp only)

theorem State.judgeHeld_sound (h : s.Sound p) : ∀ x1 x2, (State.judgeHeld s x1 x2).Sound p := by
  intros
  unfold State.judgeHeld
  with_reducible repeat' (first | intro _ | assumption | apply State.modRx_sound | apply State.rxData_sound | apply State.enterResync_sound | apply State.discardHeld_sound | apply State.Sound.foldl | apply State.Sound.ite | (apply State.Sound.mk' <;> first | rfl | assumption | apply State.modRx_sound | apply State.rxData_sound | apply State.enterResync_sound | apply State.discardHeld_sound | apply State.Sound.ite | apply State.Sound.foldl | refine State.Sound.ofPair ?_ (by assumption) | split) | apply State.Sound.foldlFst | refine State.Sound.ofPair ?_ (by assumption) | split | dsimp only)

theorem execPartialHoldExpiry_sound (h : s.Sound p) : ∀ x0, Out.Sound p (execPartialHoldExpiry x0 s) := by
  intros
  unfold execPartialHoldExpiry
  with_reducible repeat' (first | intro _ | assumption | apply State.discardHeld_sound | apply State.Sound.foldl | apply Out.Sound.next | apply State.Sound.ite | (apply State.Sound.mk' <;> first | rfl | assumption | apply State.discardHeld_sound | apply State.Sound.ite | apply State.Sound.foldl | refine State.Sound.ofPair ?_ (by assumption) | split) | apply State.Sound.foldlFst | refine State.Sound.ofPair ?_ (by assumption) | split | dsimp only)

/-! ### Queue -/

theorem State.modEnt_sound (h : s.Sound p) : ∀ x1 x2 x3, (State.modEnt s x1 x2 x3).Sound p := by
  intros
  unfold State.modEnt
  with_reducible repeat' (first | intro _ | assumption | apply State.modChan_sound | apply State.Sound.foldl | apply State.Sound.ite | (apply State.Sound.mk' <;> first | rfl | assumption | apply State.modChan_sound | apply State.Sound.ite | apply State.Sound.foldl | refine State.Sound.ofPair ?_ (by assumption) | split) | apply State.Sound.foldlFst | refine State.Sound.ofPair ?_ (by assumption) | split | dsimp only)

theorem State.modLine_sound (h : s.Sound p) : ∀ x1 x2 x3 x4, (State.modLine s x1 x2 x3 x4).Sound p := by
  intros
  unfold State.modLine
  with_reducible repeat' (first | intro _ | assumption | apply State.modEnt_sound | apply State.Sound.foldl | apply State.Sound.ite | (apply State.Sound.mk' <;> first | rfl | assumption | apply State.modEnt_sound | apply State.Sound.ite | apply State.Sound.foldl | refine State.Sound.ofPair ?_ (by assumption) | split) | apply State.Sound.foldlFst | refine State.Sound.ofPair ?_ (by assumption) | split | dsimp only)

theorem State.closeEnt_sound (h : s.Sound p) : ∀ x1 x2, (State.closeEnt s x1 x2).Sound p := by
  intros
  unfold State.closeEnt
  with_reducible repeat' (first | intro _ | assumption | apply State.effected_sound | apply State.modEnt_sound | apply State.Sound.foldl | apply State.Sound.ite | (apply State.Sound.mk' <;> first | rfl | assumption | apply State.effected_sound | apply State.modEnt_sound | apply State.Sound.ite | apply State.Sound.foldl | refine State.Sound.ofPair ?_ (by assumption) | split) | apply State.Sound.foldlFst | refine State.Sound.ofPair ?_ (by assumption) | split | dsimp only)

theorem State.reside_sound (h : s.Sound p) : ∀ x1, (State.reside s x1).Sound p := by
  intros
  unfold State.reside
  with_reducible repeat' (first | intro _ | assumption | apply State.bump_sound | apply State.modChan_sound | apply State.Sound.foldl | apply State.Sound.ite | (apply State.Sound.mk' <;> first | rfl | assumption | apply State.bump_sound | apply State.modChan_sound | apply State.Sound.ite | apply State.Sound.foldl | refine State.Sound.ofPair ?_ (by assumption) | split) | apply State.Sound.foldlFst | refine State.Sound.ofPair ?_ (by assumption) | split | dsimp only)

theorem execSidingLimitExpiry_sound (h : s.Sound p) : ∀ x0 x1, Out.Sound p (execSidingLimitExpiry x0 x1 s) := by
  intros
  unfold execSidingLimitExpiry
  with_reducible repeat' (first | intro _ | assumption | apply State.effected_sound | apply State.modEnt_sound | apply State.modChan_sound | apply State.bump_sound | apply State.reside_sound | apply State.raise_sound | apply State.Sound.foldl | apply Out.Sound.next | apply State.Sound.ite | (apply State.Sound.mk' <;> first | rfl | assumption | apply State.effected_sound | apply State.modEnt_sound | apply State.modChan_sound | apply State.bump_sound | apply State.reside_sound | apply State.raise_sound | apply State.Sound.ite | apply State.Sound.foldl | refine State.Sound.ofPair ?_ (by assumption) | split) | apply State.Sound.foldlFst | refine State.Sound.ofPair ?_ (by assumption) | split | dsimp only)

theorem State.pushPrio_sound (h : s.Sound p) : ∀ x1 x2, (State.pushPrio s x1 x2).Sound p := by
  intros
  unfold State.pushPrio
  with_reducible repeat' (first | intro _ | assumption | apply State.modChan_sound | apply State.Sound.foldl | apply State.Sound.ite | (apply State.Sound.mk' <;> first | rfl | assumption | apply State.modChan_sound | apply State.Sound.ite | apply State.Sound.foldl | refine State.Sound.ofPair ?_ (by assumption) | split) | apply State.Sound.foldlFst | refine State.Sound.ofPair ?_ (by assumption) | split | dsimp only)

theorem State.pushRow_sound (h : s.Sound p) : ∀ x1 x2 x3 x4 x5 x6, (State.pushRow s x1 x2 x3 x4 x5 x6).Sound p := by
  intros
  unfold State.pushRow
  with_reducible repeat' (first | intro _ | assumption | apply State.pushPrio_sound | apply State.Sound.foldl | apply State.Sound.ite | (apply State.Sound.mk' <;> first | rfl | assumption | apply State.pushPrio_sound | apply State.Sound.ite | apply State.Sound.foldl | refine State.Sound.ofPair ?_ (by assumption) | split) | apply State.Sound.foldlFst | refine State.Sound.ofPair ?_ (by assumption) | split | dsimp only)

/-! ### Training -/

theorem State.takeSet_sound (h : s.Sound p) : ∀ x1 x2, (State.takeSet s x1 x2).Sound p := by
  intros
  unfold State.takeSet
  with_reducible repeat' (first | intro _ | assumption | apply State.modRx_sound | apply State.Sound.foldl | apply State.Sound.ite | (apply State.Sound.mk' <;> first | rfl | assumption | apply State.modRx_sound | apply State.Sound.ite | apply State.Sound.foldl | refine State.Sound.ofPair ?_ (by assumption) | split) | apply State.Sound.foldlFst | refine State.Sound.ofPair ?_ (by assumption) | split | dsimp only)

theorem State.endSession_sound (h : s.Sound p) : ∀ x1, (State.endSession s x1).Sound p := by
  intros
  unfold State.endSession
  with_reducible repeat' (first | intro _ | assumption | apply State.bump_sound | apply State.modTx_sound | apply State.setFld_sound | apply State.Sound.foldl | apply State.Sound.ite | (apply State.Sound.mk' <;> first | rfl | assumption | apply State.bump_sound | apply State.modTx_sound | apply State.setFld_sound | apply State.Sound.ite | apply State.Sound.foldl | refine State.Sound.ofPair ?_ (by assumption) | split) | apply State.Sound.foldlFst | refine State.Sound.ofPair ?_ (by assumption) | split | dsimp only)

theorem State.freshSession_sound (h : s.Sound p) : ∀ x1 x2 x3, (State.freshSession s x1 x2 x3).Sound p := by
  intros
  unfold State.freshSession
  with_reducible repeat' (first | intro _ | assumption | apply State.setFld_sound | apply State.modTrk_sound | apply State.Sound.foldl | apply State.Sound.ite | (apply State.Sound.mk' <;> first | rfl | assumption | apply State.setFld_sound | apply State.modTrk_sound | apply State.Sound.ite | apply State.Sound.foldl | refine State.Sound.ofPair ?_ (by assumption) | split) | apply State.Sound.foldlFst | refine State.Sound.ofPair ?_ (by assumption) | split | dsimp only)

theorem State.queueSet_sound (h : s.Sound p) : ∀ x1 x2, (State.queueSet s x1 x2).Sound p := by
  intros
  unfold State.queueSet
  with_reducible repeat' (first | intro _ | assumption | apply State.modTrn_sound | apply State.Sound.foldl | apply State.Sound.ite | (apply State.Sound.mk' <;> first | rfl | assumption | apply State.modTrn_sound | apply State.Sound.ite | apply State.Sound.foldl | refine State.Sound.ofPair ?_ (by assumption) | split) | apply State.Sound.foldlFst | refine State.Sound.ofPair ?_ (by assumption) | split | dsimp only)

theorem State.modFov_sound (h : s.Sound p) : ∀ x1 x2, (State.modFov s x1 x2).Sound p := by
  intros
  unfold State.modFov
  with_reducible repeat' (first | intro _ | assumption | apply State.modTrk_sound | apply State.Sound.foldl | apply State.Sound.ite | (apply State.Sound.mk' <;> first | rfl | assumption | apply State.modTrk_sound | apply State.Sound.ite | apply State.Sound.foldl | refine State.Sound.ofPair ?_ (by assumption) | split) | apply State.Sound.foldlFst | refine State.Sound.ofPair ?_ (by assumption) | split | dsimp only)

theorem State.startFailover_sound (h : s.Sound p) : ∀ x1, (State.startFailover s x1).Sound p := by
  intros
  unfold State.startFailover
  with_reducible repeat' (first | intro _ | assumption | apply State.queueSet_sound | apply State.modFov_sound | apply State.Sound.foldl | apply State.Sound.ite | (apply State.Sound.mk' <;> first | rfl | assumption | apply State.queueSet_sound | apply State.modFov_sound | apply State.Sound.ite | apply State.Sound.foldl | refine State.Sound.ofPair ?_ (by assumption) | split) | apply State.Sound.foldlFst | refine State.Sound.ofPair ?_ (by assumption) | split | dsimp only)

theorem State.moveSession_sound (h : s.Sound p) : ∀ x1 x2 x3, (State.moveSession s x1 x2 x3).Sound p := by
  intros
  unfold State.moveSession
  with_reducible repeat' (first | intro _ | assumption | apply State.modTrk_sound | apply State.setFld_sound | apply State.raise_sound | apply State.Sound.foldl | apply State.Sound.ite | (apply State.Sound.mk' <;> first | rfl | assumption | apply State.modTrk_sound | apply State.setFld_sound | apply State.raise_sound | apply State.Sound.ite | apply State.Sound.foldl | refine State.Sound.ofPair ?_ (by assumption) | split) | apply State.Sound.foldlFst | refine State.Sound.ofPair ?_ (by assumption) | split | dsimp only)

theorem execFovRx_sound (h : s.Sound p) : ∀ x0 x1, Out.Sound p (execFovRx x0 x1 s) := by
  intros
  unfold execFovRx
  with_reducible repeat' (first | intro _ | assumption | apply State.takeSet_sound | apply State.moveSession_sound | apply State.startFailover_sound | apply State.modFov_sound | apply State.Sound.foldl | apply Out.Sound.next | apply State.Sound.ite | (apply State.Sound.mk' <;> first | rfl | assumption | apply State.takeSet_sound | apply State.moveSession_sound | apply State.startFailover_sound | apply State.modFov_sound | apply State.Sound.ite | apply State.Sound.foldl | refine State.Sound.ofPair ?_ (by assumption) | split) | apply State.Sound.foldlFst | refine State.Sound.ofPair ?_ (by assumption) | split | dsimp only)

theorem State.startTrack_sound (h : s.Sound p) : ∀ x1, (State.startTrack s x1).Sound p := by
  intros
  unfold State.startTrack
  with_reducible repeat' (first | intro _ | assumption | apply State.beginAttempt_sound | apply State.setDomain_sound | apply State.Sound.foldl | apply State.Sound.ite | (apply State.Sound.mk' <;> first | rfl | assumption | apply State.beginAttempt_sound | apply State.setDomain_sound | apply State.Sound.ite | apply State.Sound.foldl | refine State.Sound.ofPair ?_ (by assumption) | split) | apply State.Sound.foldlFst | refine State.Sound.ofPair ?_ (by assumption) | split | dsimp only)

theorem State.nextPilot_sound (h : s.Sound p) : ∀ x1, (State.nextPilot s x1).Sound p := by
  intros
  unfold State.nextPilot
  with_reducible repeat' (first | intro _ | assumption | apply State.startTrack_sound | apply State.Sound.foldl | apply State.Sound.ite | (apply State.Sound.mk' <;> first | rfl | assumption | apply State.startTrack_sound | apply State.Sound.ite | apply State.Sound.foldl | refine State.Sound.ofPair ?_ (by assumption) | split) | apply State.Sound.foldlFst | refine State.Sound.ofPair ?_ (by assumption) | split | dsimp only)

theorem State.goDown_sound (h : s.Sound p) : ∀ x1, (State.goDown s x1).Sound p := by
  intros
  unfold State.goDown
  with_reducible repeat' (first | intro _ | assumption | apply State.raise_sound | apply State.setFld_sound | apply State.modTrn_sound | apply State.nextPilot_sound | apply State.startFailover_sound | apply State.Sound.foldl | apply State.Sound.ite | (apply State.Sound.mk' <;> first | rfl | assumption | apply State.raise_sound | apply State.setFld_sound | apply State.modTrn_sound | apply State.nextPilot_sound | apply State.startFailover_sound | apply State.Sound.ite | apply State.Sound.foldl | refine State.Sound.ofPair ?_ (by assumption) | split) | apply State.Sound.foldlFst | refine State.Sound.ofPair ?_ (by assumption) | split | dsimp only)

theorem State.failAttempt_sound (h : s.Sound p) : ∀ x1 x2, (State.failAttempt s x1 x2).Sound p := by
  intros
  unfold State.failAttempt
  with_reducible repeat' (first | intro _ | assumption | apply State.setFld_sound | apply State.beginAttempt_sound | apply State.goDown_sound | apply State.Sound.foldl | apply State.Sound.ite | (apply State.Sound.mk' <;> first | rfl | assumption | apply State.setFld_sound | apply State.beginAttempt_sound | apply State.goDown_sound | apply State.Sound.ite | apply State.Sound.foldl | refine State.Sound.ofPair ?_ (by assumption) | split) | apply State.Sound.foldlFst | refine State.Sound.ofPair ?_ (by assumption) | split | dsimp only)

theorem State.deskew_sound (h : s.Sound p) : ∀ x1 x2, (State.deskew s x1 x2).Sound p := by
  intros
  unfold State.deskew
  with_reducible repeat' (first | intro _ | assumption | apply State.failAttempt_sound | apply State.raise_sound | apply State.setRxLane_sound | apply State.setFld_sound | apply State.modTrk_sound | apply State.modRx_sound | apply State.Sound.foldl | apply State.Sound.ite | (apply State.Sound.mk' <;> first | rfl | assumption | apply State.failAttempt_sound | apply State.raise_sound | apply State.setRxLane_sound | apply State.setFld_sound | apply State.modTrk_sound | apply State.modRx_sound | apply State.Sound.ite | apply State.Sound.foldl | refine State.Sound.ofPair ?_ (by assumption) | split) | apply State.Sound.foldlFst | refine State.Sound.ofPair ?_ (by assumption) | split | dsimp only)

theorem State.enterPhase_sound (h : s.Sound p) : ∀ x1 x2 x3, (State.enterPhase s x1 x2 x3).Sound p := by
  intros
  unfold State.enterPhase
  with_reducible repeat' (first | intro _ | assumption | apply State.modTrk_sound | apply State.setFld_sound | apply State.Sound.foldl | apply State.Sound.ite | (apply State.Sound.mk' <;> first | rfl | assumption | apply State.modTrk_sound | apply State.setFld_sound | apply State.Sound.ite | apply State.Sound.foldl | refine State.Sound.ofPair ?_ (by assumption) | split) | apply State.Sound.foldlFst | refine State.Sound.ofPair ?_ (by assumption) | split | dsimp only)

theorem State.advance_sound (h : s.Sound p) : ∀ x1 x2, (State.advance s x1 x2).Sound p := by
  intros
  unfold State.advance
  with_reducible repeat' (first | intro _ | assumption | apply State.setFld_sound | apply State.deskew_sound | apply State.enterPhase_sound | apply State.Sound.foldl | apply State.Sound.ite | (apply State.Sound.mk' <;> first | rfl | assumption | apply State.setFld_sound | apply State.deskew_sound | apply State.enterPhase_sound | apply State.Sound.ite | apply State.Sound.foldl | refine State.Sound.ofPair ?_ (by assumption) | split) | apply State.Sound.foldlFst | refine State.Sound.ofPair ?_ (by assumption) | split | dsimp only)

theorem State.slotLanes_sound (h : s.Sound p) : ∀ x1 x2 x3, (State.slotLanes s x1 x2 x3).Sound p := by
  intros
  unfold State.slotLanes
  with_reducible repeat' (first | intro _ | assumption | apply State.upTo_sound | apply State.when_sound | apply State.setRxLane_sound | apply State.setFld_sound | apply State.Sound.foldl | apply State.Sound.ite | (apply State.Sound.mk' <;> first | rfl | assumption | apply State.upTo_sound | apply State.when_sound | apply State.setRxLane_sound | apply State.setFld_sound | apply State.Sound.ite | apply State.Sound.foldl | refine State.Sound.ofPair ?_ (by assumption) | split) | apply State.Sound.foldlFst | refine State.Sound.ofPair ?_ (by assumption) | split | dsimp only)

theorem execTs1Rx_sound (h : s.Sound p) : ∀ x0 x1 x2 x3, Out.Sound p (execTs1Rx x0 x1 x2 x3 s) := by
  intros
  unfold execTs1Rx
  with_reducible repeat' (first | intro _ | assumption | apply State.retrain_sound | apply State.takeSet_sound | apply State.beginAttempt_sound | apply State.advance_sound | apply State.modTrn_sound | apply State.slotLanes_sound | apply State.Sound.foldl | apply Out.Sound.next | apply State.Sound.ite | (apply State.Sound.mk' <;> first | rfl | assumption | apply State.retrain_sound | apply State.takeSet_sound | apply State.beginAttempt_sound | apply State.advance_sound | apply State.modTrn_sound | apply State.slotLanes_sound | apply State.Sound.ite | apply State.Sound.foldl | refine State.Sound.ofPair ?_ (by assumption) | split) | apply State.Sound.foldlFst | refine State.Sound.ofPair ?_ (by assumption) | split | dsimp only)

theorem execTs2Rx_sound (h : s.Sound p) : ∀ x0 x1 x2 x3, Out.Sound p (execTs2Rx x0 x1 x2 x3 s) := by
  intros
  unfold execTs2Rx
  with_reducible repeat' (first | intro _ | assumption | apply State.advance_sound | apply State.modTrn_sound | apply State.takeSet_sound | apply State.slotLanes_sound | apply State.Sound.foldl | apply Out.Sound.next | apply State.Sound.ite | (apply State.Sound.mk' <;> first | rfl | assumption | apply State.advance_sound | apply State.modTrn_sound | apply State.takeSet_sound | apply State.slotLanes_sound | apply State.Sound.ite | apply State.Sound.foldl | refine State.Sound.ofPair ?_ (by assumption) | split) | apply State.Sound.foldlFst | refine State.Sound.ofPair ?_ (by assumption) | split | dsimp only)

theorem execCalWindowEnd_sound (h : s.Sound p) : ∀ x0 x1 x2, Out.Sound p (execCalWindowEnd x0 x1 x2 s) := by
  intros
  unfold execCalWindowEnd
  with_reducible repeat' (first | intro _ | assumption | apply State.advance_sound | apply State.closeWindow_sound | apply State.Sound.foldl | apply Out.Sound.next | apply State.Sound.ite | (apply State.Sound.mk' <;> first | rfl | assumption | apply State.advance_sound | apply State.closeWindow_sound | apply State.Sound.ite | apply State.Sound.foldl | refine State.Sound.ofPair ?_ (by assumption) | split) | apply State.Sound.foldlFst | refine State.Sound.ofPair ?_ (by assumption) | split | dsimp only)

theorem State.propose_sound (h : s.Sound p) : ∀ x1 x2, (State.propose s x1 x2).Sound p := by
  intros
  unfold State.propose
  with_reducible repeat' (first | intro _ | assumption | apply State.failAttempt_sound | apply State.modTrn_sound | apply State.Sound.foldl | apply State.Sound.ite | (apply State.Sound.mk' <;> first | rfl | assumption | apply State.failAttempt_sound | apply State.modTrn_sound | apply State.Sound.ite | apply State.Sound.foldl | refine State.Sound.ofPair ?_ (by assumption) | split) | apply State.Sound.foldlFst | refine State.Sound.ofPair ?_ (by assumption) | split | dsimp only)

theorem execCapRx_sound (h : s.Sound p) : ∀ x0 x1, Out.Sound p (execCapRx x0 x1 s) := by
  intros
  unfold execCapRx
  with_reducible repeat' (first | intro _ | assumption | apply State.takeSet_sound | apply State.failAttempt_sound | apply State.setFld_sound | apply State.modTrn_sound | apply State.propose_sound | apply State.enterPhase_sound | apply State.Sound.foldl | apply Out.Sound.next | apply State.Sound.ite | (apply State.Sound.mk' <;> first | rfl | assumption | apply State.takeSet_sound | apply State.failAttempt_sound | apply State.setFld_sound | apply State.modTrn_sound | apply State.propose_sound | apply State.enterPhase_sound | apply State.Sound.ite | apply State.Sound.foldl | refine State.Sound.ofPair ?_ (by assumption) | split) | apply State.Sound.foldlFst | refine State.Sound.ofPair ?_ (by assumption) | split | dsimp only)

theorem State.applyMap_sound (h : s.Sound p) : ∀ x1 x2 x3 x4, (State.applyMap s x1 x2 x3 x4).Sound p := by
  intros
  unfold State.applyMap
  with_reducible repeat' (first | intro _ | assumption | apply State.activateSpare_sound | apply State.setFld_sound | apply State.Sound.foldl | apply State.Sound.ite | (apply State.Sound.mk' <;> first | rfl | assumption | apply State.activateSpare_sound | apply State.setFld_sound | apply State.Sound.ite | apply State.Sound.foldl | refine State.Sound.ofPair ?_ (by assumption) | split) | apply State.Sound.foldlFst | refine State.Sound.ofPair ?_ (by assumption) | split | dsimp only)

theorem State.mapsAgreed_sound (h : s.Sound p) : ∀ x1 x2 x3, (State.mapsAgreed s x1 x2 x3).Sound p := by
  intros
  unfold State.mapsAgreed
  with_reducible repeat' (first | intro _ | assumption | apply State.modTrn_sound | apply State.applyMap_sound | apply State.enterPhase_sound | apply State.Sound.foldl | apply State.Sound.ite | (apply State.Sound.mk' <;> first | rfl | assumption | apply State.modTrn_sound | apply State.applyMap_sound | apply State.enterPhase_sound | apply State.Sound.ite | apply State.Sound.foldl | refine State.Sound.ofPair ?_ (by assumption) | split) | apply State.Sound.foldlFst | refine State.Sound.ofPair ?_ (by assumption) | split | dsimp only)

theorem execSmapRx_sound (h : s.Sound p) : ∀ x0 x1, Out.Sound p (execSmapRx x0 x1 s) := by
  intros
  unfold execSmapRx
  with_reducible repeat' (first | intro _ | assumption | apply State.takeSet_sound | apply State.propose_sound | apply State.modTrn_sound | apply State.mapsAgreed_sound | apply State.Sound.foldl | apply Out.Sound.next | apply State.Sound.ite | (apply State.Sound.mk' <;> first | rfl | assumption | apply State.takeSet_sound | apply State.propose_sound | apply State.modTrn_sound | apply State.mapsAgreed_sound | apply State.Sound.ite | apply State.Sound.foldl | refine State.Sound.ofPair ?_ (by assumption) | split) | apply State.Sound.foldlFst | refine State.Sound.ofPair ?_ (by assumption) | split | dsimp only)

theorem State.granted_sound (h : s.Sound p) : ∀ x1 x2, (State.granted s x1 x2).Sound p := by
  intros
  unfold State.granted
  with_reducible repeat' (first | intro _ | assumption | apply State.modTrn_sound | apply State.enterPhase_sound | apply State.Sound.foldl | apply State.Sound.ite | (apply State.Sound.mk' <;> first | rfl | assumption | apply State.modTrn_sound | apply State.enterPhase_sound | apply State.Sound.ite | apply State.Sound.foldl | refine State.Sound.ofPair ?_ (by assumption) | split) | apply State.Sound.foldlFst | refine State.Sound.ofPair ?_ (by assumption) | split | dsimp only)

theorem execGrantRx_sound (h : s.Sound p) : ∀ x0 x1, Out.Sound p (execGrantRx x0 x1 s) := by
  intros
  unfold execGrantRx
  with_reducible repeat' (first | intro _ | assumption | apply State.takeSet_sound | apply State.granted_sound | apply State.modTrn_sound | apply State.failAttempt_sound | apply State.endSession_sound | apply State.raise_sound | apply State.freshSession_sound | apply State.Sound.foldl | apply Out.Sound.next | apply State.Sound.ite | (apply State.Sound.mk' <;> first | rfl | assumption | apply State.takeSet_sound | apply State.granted_sound | apply State.modTrn_sound | apply State.failAttempt_sound | apply State.endSession_sound | apply State.raise_sound | apply State.freshSession_sound | apply State.Sound.ite | apply State.Sound.foldl | refine State.Sound.ofPair ?_ (by assumption) | split) | apply State.Sound.foldlFst | refine State.Sound.ofPair ?_ (by assumption) | split | dsimp only)

theorem State.announceTo_sound (h : s.Sound p) : ∀ x1, (State.announceTo s x1).Sound p := by
  intros
  unfold State.announceTo
  with_reducible repeat' (first | intro _ | assumption | apply State.queueSet_sound | apply State.modTrn_sound | apply State.Sound.foldl | apply State.Sound.ite | (apply State.Sound.mk' <;> first | rfl | assumption | apply State.queueSet_sound | apply State.modTrn_sound | apply State.Sound.ite | apply State.Sound.foldl | refine State.Sound.ofPair ?_ (by assumption) | split) | apply State.Sound.foldlFst | refine State.Sound.ofPair ?_ (by assumption) | split | dsimp only)

theorem State.rejoin_sound (h : s.Sound p) : ∀ x1, (State.rejoin s x1).Sound p := by
  intros
  unfold State.rejoin
  with_reducible repeat' (first | intro _ | assumption | apply State.upTo_sound | apply State.modSes_sound | apply State.queueSet_sound | apply State.Sound.foldl | apply State.Sound.ite | (apply State.Sound.mk' <;> first | rfl | assumption | apply State.upTo_sound | apply State.modSes_sound | apply State.queueSet_sound | apply State.Sound.ite | apply State.Sound.foldl | refine State.Sound.ofPair ?_ (by assumption) | split) | apply State.Sound.foldlFst | refine State.Sound.ofPair ?_ (by assumption) | split | dsimp only)

theorem State.becomeReady_sound (h : s.Sound p) : ∀ x1, (State.becomeReady s x1).Sound p := by
  intros
  unfold State.becomeReady
  with_reducible repeat' (first | intro _ | assumption | apply State.setFld_sound | apply State.takeAck_sound | apply State.rejoin_sound | apply State.announceTo_sound | apply State.modTrk_sound | apply State.Sound.foldl | apply State.Sound.ite | (apply State.Sound.mk' <;> first | rfl | assumption | apply State.setFld_sound | apply State.takeAck_sound | apply State.rejoin_sound | apply State.announceTo_sound | apply State.modTrk_sound | apply State.Sound.ite | apply State.Sound.foldl | refine State.Sound.ofPair ?_ (by assumption) | split) | apply State.Sound.foldlFst | refine State.Sound.ofPair ?_ (by assumption) | split | dsimp only)

theorem execRdyRx_sound (h : s.Sound p) : ∀ x0, Out.Sound p (execRdyRx x0 s) := by
  intros
  unfold execRdyRx
  with_reducible repeat' (first | intro _ | assumption | apply State.takeSet_sound | apply State.modTrn_sound | apply State.Sound.foldl | apply Out.Sound.next | apply State.Sound.ite | (apply State.Sound.mk' <;> first | rfl | assumption | apply State.takeSet_sound | apply State.modTrn_sound | apply State.Sound.ite | apply State.Sound.foldl | refine State.Sound.ofPair ?_ (by assumption) | split) | apply State.Sound.foldlFst | refine State.Sound.ofPair ?_ (by assumption) | split | dsimp only)

theorem execResetSetRx_sound (h : s.Sound p) : ∀ x0 x1 x2, Out.Sound p (execResetSetRx x0 x1 x2 s) := by
  intros
  unfold execResetSetRx
  with_reducible repeat' (first | intro _ | assumption | apply State.modTrn_sound | apply State.takeSet_sound | apply State.chipReset_sound | apply State.upTo_sound | apply State.raise_sound | apply State.Sound.foldl | apply Out.Sound.next | apply State.Sound.ite | (apply State.Sound.mk' <;> first | rfl | assumption | apply State.modTrn_sound | apply State.takeSet_sound | apply State.chipReset_sound | apply State.upTo_sound | apply State.raise_sound | apply State.Sound.ite | apply State.Sound.foldl | refine State.Sound.ofPair ?_ (by assumption) | split) | apply State.Sound.foldlFst | refine State.Sound.ofPair ?_ (by assumption) | split | dsimp only)

theorem execTrainPhaseTimeout_sound (h : s.Sound p) : ∀ x0, Out.Sound p (execTrainPhaseTimeout x0 s) := by
  intros
  unfold execTrainPhaseTimeout
  with_reducible repeat' (first | intro _ | assumption | apply State.failAttempt_sound | apply State.raise_sound | apply State.upTo_sound | apply State.setRxLane_sound | apply State.advance_sound | apply State.Sound.foldl | apply Out.Sound.next | apply State.Sound.ite | (apply State.Sound.mk' <;> first | rfl | assumption | apply State.failAttempt_sound | apply State.raise_sound | apply State.upTo_sound | apply State.setRxLane_sound | apply State.advance_sound | apply State.Sound.ite | apply State.Sound.foldl | refine State.Sound.ofPair ?_ (by assumption) | split) | apply State.Sound.foldlFst | refine State.Sound.ofPair ?_ (by assumption) | split | dsimp only)

theorem execTrainRetryPeriod_sound (h : s.Sound p) : ∀ x0, Out.Sound p (execTrainRetryPeriod x0 s) := by
  intros
  unfold execTrainRetryPeriod
  with_reducible repeat' (first | intro _ | assumption | apply State.beginAttempt_sound | apply State.Sound.foldl | apply Out.Sound.next | apply State.Sound.ite | (apply State.Sound.mk' <;> first | rfl | assumption | apply State.beginAttempt_sound | apply State.Sound.ite | apply State.Sound.foldl | refine State.Sound.ofPair ?_ (by assumption) | split) | apply State.Sound.foldlFst | refine State.Sound.ofPair ?_ (by assumption) | split | dsimp only)

theorem State.modCen_sound (h : s.Sound p) : ∀ x1 x2, (State.modCen s x1 x2).Sound p := by
  intros
  unfold State.modCen
  with_reducible repeat' (first | intro _ | assumption | apply State.modTrk_sound | apply State.Sound.foldl | apply State.Sound.ite | (apply State.Sound.mk' <;> first | rfl | assumption | apply State.modTrk_sound | apply State.Sound.ite | apply State.Sound.foldl | refine State.Sound.ofPair ?_ (by assumption) | split) | apply State.Sound.foldlFst | refine State.Sound.ofPair ?_ (by assumption) | split | dsimp only)

theorem State.startRound_sound (h : s.Sound p) : ∀ x1, (State.startRound s x1).Sound p := by
  intros
  unfold State.startRound
  with_reducible repeat' (first | intro _ | assumption | apply State.setFld_sound | apply State.queueSet_sound | apply State.modCen_sound | apply State.Sound.foldl | apply State.Sound.ite | (apply State.Sound.mk' <;> first | rfl | assumption | apply State.setFld_sound | apply State.queueSet_sound | apply State.modCen_sound | apply State.Sound.ite | apply State.Sound.foldl | refine State.Sound.ofPair ?_ (by assumption) | split) | apply State.Sound.foldlFst | refine State.Sound.ofPair ?_ (by assumption) | split | dsimp only)

theorem State.takeCut_sound (h : s.Sound p) : ∀ x1, (State.takeCut s x1).Sound p := by
  intros
  unfold State.takeCut
  with_reducible repeat' (first | intro _ | assumption | apply State.modCen_sound | apply State.Sound.foldl | apply State.Sound.ite | (apply State.Sound.mk' <;> first | rfl | assumption | apply State.modCen_sound | apply State.Sound.ite | apply State.Sound.foldl | refine State.Sound.ofPair ?_ (by assumption) | split) | apply State.Sound.foldlFst | refine State.Sound.ofPair ?_ (by assumption) | split | dsimp only)

theorem execCensusInterval_sound (h : s.Sound p) : Out.Sound p (execCensusInterval s) := by
  unfold execCensusInterval
  with_reducible repeat' (first | intro _ | assumption | apply State.upTo_sound | apply State.startRound_sound | apply State.Sound.foldl | apply Out.Sound.next | apply State.Sound.ite | (apply State.Sound.mk' <;> first | rfl | assumption | apply State.upTo_sound | apply State.startRound_sound | apply State.Sound.ite | apply State.Sound.foldl | refine State.Sound.ofPair ?_ (by assumption) | split) | apply State.Sound.foldlFst | refine State.Sound.ofPair ?_ (by assumption) | split | dsimp only)

theorem execCensusRepeat_sound (h : s.Sound p) : ∀ x0, Out.Sound p (execCensusRepeat x0 s) := by
  intros
  unfold execCensusRepeat
  with_reducible repeat' (first | intro _ | assumption | apply State.queueSet_sound | apply State.Sound.foldl | apply Out.Sound.next | apply State.Sound.ite | (apply State.Sound.mk' <;> first | rfl | assumption | apply State.queueSet_sound | apply State.Sound.ite | apply State.Sound.foldl | refine State.Sound.ofPair ?_ (by assumption) | split) | apply State.Sound.foldlFst | refine State.Sound.ofPair ?_ (by assumption) | split | dsimp only)

theorem State.checkCensus_sound (h : s.Sound p) : ∀ x1, (State.checkCensus s x1).Sound p := by
  intros
  unfold State.checkCensus
  with_reducible repeat' (first | intro _ | assumption | apply State.modCen_sound | apply State.setFld_sound | apply State.raise_sound | apply State.Sound.foldl | apply State.Sound.ite | (apply State.Sound.mk' <;> first | rfl | assumption | apply State.modCen_sound | apply State.setFld_sound | apply State.raise_sound | apply State.Sound.ite | apply State.Sound.foldl | refine State.Sound.ofPair ?_ (by assumption) | split) | apply State.Sound.foldlFst | refine State.Sound.ofPair ?_ (by assumption) | split | dsimp only)

theorem execCenRx_sound (h : s.Sound p) : ∀ x0 x1, Out.Sound p (execCenRx x0 x1 s) := by
  intros
  unfold execCenRx
  with_reducible repeat' (first | intro _ | assumption | apply State.takeSet_sound | apply State.checkCensus_sound | apply State.modCen_sound | apply State.Sound.foldl | apply Out.Sound.next | apply State.Sound.ite | (apply State.Sound.mk' <;> first | rfl | assumption | apply State.takeSet_sound | apply State.checkCensus_sound | apply State.modCen_sound | apply State.Sound.ite | apply State.Sound.foldl | refine State.Sound.ofPair ?_ (by assumption) | split) | apply State.Sound.foldlFst | refine State.Sound.ofPair ?_ (by assumption) | split | dsimp only)

theorem execCensusReplyTimeout_sound (h : s.Sound p) : ∀ x0, Out.Sound p (execCensusReplyTimeout x0 s) := by
  intros
  unfold execCensusReplyTimeout
  with_reducible repeat' (first | intro _ | assumption | apply State.setFld_sound | apply State.modCen_sound | apply State.raise_sound | apply State.retrain_sound | apply State.Sound.foldl | apply Out.Sound.next | apply State.Sound.ite | (apply State.Sound.mk' <;> first | rfl | assumption | apply State.setFld_sound | apply State.modCen_sound | apply State.raise_sound | apply State.retrain_sound | apply State.Sound.ite | apply State.Sound.foldl | refine State.Sound.ofPair ?_ (by assumption) | split) | apply State.Sound.foldlFst | refine State.Sound.ofPair ?_ (by assumption) | split | dsimp only)

end Sys2Proof.Machine
end

