-- ==== Sys2Proof/Laws/SoundC.lean ====
section
/-! SUPPORT. The queue and the invariant through every operation of Receive, Transmit, Repair. -/
namespace Sys2Proof.Machine

set_option linter.all false

variable {p : List Instr × Prop} {s : State}

/-! ### Receive -/

theorem State.badSkip_sound (h : s.Sound p) : ∀ x1 x2 x3 x4, (State.badSkip s x1 x2 x3 x4).Sound p := by
  intros
  unfold State.badSkip
  with_reducible repeat' (first | intro _ | assumption | apply State.laneViol_sound | apply State.Sound.foldl | apply State.Sound.ite | (apply State.Sound.mk' <;> first | rfl | assumption | apply State.laneViol_sound | apply State.Sound.ite | apply State.Sound.foldl | refine State.Sound.ofPair ?_ (by assumption) | split) | apply State.Sound.foldlFst | refine State.Sound.ofPair ?_ (by assumption) | split | dsimp only)

theorem State.badSkips_sound (h : s.Sound p) : ∀ x1 x2, (State.badSkips s x1 x2).Sound p := by
  intros
  unfold State.badSkips
  with_reducible repeat' (first | intro _ | assumption | apply State.upTo_sound | apply State.badSkip_sound | apply State.Sound.foldl | apply State.Sound.ite | (apply State.Sound.mk' <;> first | rfl | assumption | apply State.upTo_sound | apply State.badSkip_sound | apply State.Sound.ite | apply State.Sound.foldl | refine State.Sound.ofPair ?_ (by assumption) | split) | apply State.Sound.foldlFst | refine State.Sound.ofPair ?_ (by assumption) | split | dsimp only)

theorem State.badEies_sound (h : s.Sound p) : ∀ x1 x2, (State.badEies s x1 x2).Sound p := by
  intros
  unfold State.badEies
  with_reducible repeat' (first | intro _ | assumption | apply State.upTo_sound | apply State.badSkip_sound | apply State.Sound.foldl | apply State.Sound.ite | (apply State.Sound.mk' <;> first | rfl | assumption | apply State.upTo_sound | apply State.badSkip_sound | apply State.Sound.ite | apply State.Sound.foldl | refine State.Sound.ofPair ?_ (by assumption) | split) | apply State.Sound.foldlFst | refine State.Sound.ofPair ?_ (by assumption) | split | dsimp only)

theorem State.closeMsgs_sound (h : s.Sound p) : ∀ x1, (State.closeMsgs s x1).Sound p := by
  intros
  unfold State.closeMsgs
  with_reducible repeat' (first | intro _ | assumption | apply State.modTrk_sound | apply State.Sound.foldl | apply State.Sound.ite | (apply State.Sound.mk' <;> first | rfl | assumption | apply State.modTrk_sound | apply State.Sound.ite | apply State.Sound.foldl | refine State.Sound.ofPair ?_ (by assumption) | split) | apply State.Sound.foldlFst | refine State.Sound.ofPair ?_ (by assumption) | split | dsimp only)

theorem State.takeMsgs_sound (h : s.Sound p) : ∀ x1 x2, (State.takeMsgs s x1 x2).Sound p := by
  intros
  unfold State.takeMsgs
  with_reducible repeat' (first | intro _ | assumption | apply State.modRx_sound | apply State.Sound.foldl | apply State.Sound.ite | (apply State.Sound.mk' <;> first | rfl | assumption | apply State.modRx_sound | apply State.Sound.ite | apply State.Sound.foldl | refine State.Sound.ofPair ?_ (by assumption) | split) | apply State.Sound.foldlFst | refine State.Sound.ofPair ?_ (by assumption) | split | dsimp only)

theorem State.setLanes_sound (h : s.Sound p) : ∀ x1 x2, (State.setLanes s x1 x2).Sound p := by
  intros
  unfold State.setLanes
  with_reducible repeat' (first | intro _ | assumption | apply State.upTo_sound | apply State.when_sound | apply State.setRxLane_sound | apply State.setFld_sound | apply State.Sound.foldl | apply State.Sound.ite | (apply State.Sound.mk' <;> first | rfl | assumption | apply State.upTo_sound | apply State.when_sound | apply State.setRxLane_sound | apply State.setFld_sound | apply State.Sound.ite | apply State.Sound.foldl | refine State.Sound.ofPair ?_ (by assumption) | split) | apply State.Sound.foldlFst | refine State.Sound.ofPair ?_ (by assumption) | split | dsimp only)

theorem State.setRow_sound (h : s.Sound p) : ∀ x1 x2, (State.setRow s x1 x2).Sound p := by
  intros
  unfold State.setRow
  with_reducible repeat' (first | intro _ | assumption | apply State.setLanes_sound | apply State.modTrn_sound | apply State.modRx_sound | apply State.Sound.foldl | apply State.Sound.ite | (apply State.Sound.mk' <;> first | rfl | assumption | apply State.setLanes_sound | apply State.modTrn_sound | apply State.modRx_sound | apply State.Sound.ite | apply State.Sound.foldl | refine State.Sound.ofPair ?_ (by assumption) | split) | apply State.Sound.foldlFst | refine State.Sound.ofPair ?_ (by assumption) | split | dsimp only)

theorem State.rxWake_sound (h : s.Sound p) : ∀ x1, (State.rxWake s x1).Sound p := by
  intros
  unfold State.rxWake
  with_reducible repeat' (first | intro _ | assumption | apply State.modTrk_sound | apply State.Sound.foldl | apply State.Sound.ite | (apply State.Sound.mk' <;> first | rfl | assumption | apply State.modTrk_sound | apply State.Sound.ite | apply State.Sound.foldl | refine State.Sound.ofPair ?_ (by assumption) | split) | apply State.Sound.foldlFst | refine State.Sound.ofPair ?_ (by assumption) | split | dsimp only)

theorem State.relock_sound (h : s.Sound p) : ∀ x1 x2, (State.relock s x1 x2).Sound p := by
  intros
  unfold State.relock
  with_reducible repeat' (first | intro _ | assumption | apply State.modTrk_sound | apply State.Sound.foldl | apply State.Sound.ite | (apply State.Sound.mk' <;> first | rfl | assumption | apply State.modTrk_sound | apply State.Sound.ite | apply State.Sound.foldl | refine State.Sound.ofPair ?_ (by assumption) | split) | apply State.Sound.foldlFst | refine State.Sound.ofPair ?_ (by assumption) | split | dsimp only)

theorem State.rxHeader_sound (h : s.Sound p) : ∀ x1 x2, (State.rxHeader s x1 x2).Sound p := by
  intros
  unfold State.rxHeader
  with_reducible repeat' (first | intro _ | assumption | apply State.closeMsgs_sound | apply State.modTrk_sound | apply State.judgeHeld_sound | apply State.setFld_sound | apply State.relock_sound | apply State.retrain_sound | apply State.raise_sound | apply State.Sound.foldl | apply State.Sound.ite | (apply State.Sound.mk' <;> first | rfl | assumption | apply State.closeMsgs_sound | apply State.modTrk_sound | apply State.judgeHeld_sound | apply State.setFld_sound | apply State.relock_sound | apply State.retrain_sound | apply State.raise_sound | apply State.Sound.ite | apply State.Sound.foldl | refine State.Sound.ofPair ?_ (by assumption) | split) | apply State.Sound.foldlFst | refine State.Sound.ofPair ?_ (by assumption) | split | dsimp only)

theorem State.rxEie_sound (h : s.Sound p) : ∀ x1 x2, (State.rxEie s x1 x2).Sound p := by
  intros
  unfold State.rxEie
  with_reducible repeat' (first | intro _ | assumption | apply State.stall_sound | apply State.modTrk_sound | apply State.setFld_sound | apply State.Sound.foldl | apply State.Sound.ite | (apply State.Sound.mk' <;> first | rfl | assumption | apply State.stall_sound | apply State.modTrk_sound | apply State.setFld_sound | apply State.Sound.ite | apply State.Sound.foldl | refine State.Sound.ofPair ?_ (by assumption) | split) | apply State.Sound.foldlFst | refine State.Sound.ofPair ?_ (by assumption) | split | dsimp only)

theorem State.trainIn_sound (h : s.Sound p) : ∀ x1 x2, (State.trainIn s x1 x2).Sound p := by
  intros
  unfold State.trainIn
  with_reducible repeat' (first | intro _ | assumption | apply State.modRx_sound | apply State.setRow_sound | apply State.Sound.foldl | apply State.Sound.ite | (apply State.Sound.mk' <;> first | rfl | assumption | apply State.modRx_sound | apply State.setRow_sound | apply State.Sound.ite | apply State.Sound.foldl | refine State.Sound.ofPair ?_ (by assumption) | split) | apply State.Sound.foldlFst | refine State.Sound.ofPair ?_ (by assumption) | split | dsimp only)

theorem State.dataRowIn_sound (h : s.Sound p) : ∀ x1 x2 x3, (State.dataRowIn s x1 x2 x3).Sound p := by
  intros
  unfold State.dataRowIn
  with_reducible repeat' (first | intro _ | assumption | apply State.modRx_sound | apply State.takeMsgs_sound | apply State.dataIn_sound | apply State.Sound.foldl | apply State.Sound.ite | (apply State.Sound.mk' <;> first | rfl | assumption | apply State.modRx_sound | apply State.takeMsgs_sound | apply State.dataIn_sound | apply State.Sound.ite | apply State.Sound.foldl | refine State.Sound.ofPair ?_ (by assumption) | split) | apply State.Sound.foldlFst | refine State.Sound.ofPair ?_ (by assumption) | split | dsimp only)

theorem State.skipIn_sound (h : s.Sound p) : ∀ x1 x2, (State.skipIn s x1 x2).Sound p := by
  intros
  unfold State.skipIn
  with_reducible repeat' (first | intro _ | assumption | apply State.modRx_sound | apply State.badSkips_sound | apply State.Sound.foldl | apply State.Sound.ite | (apply State.Sound.mk' <;> first | rfl | assumption | apply State.modRx_sound | apply State.badSkips_sound | apply State.Sound.ite | apply State.Sound.foldl | refine State.Sound.ofPair ?_ (by assumption) | split) | apply State.Sound.foldlFst | refine State.Sound.ofPair ?_ (by assumption) | split | dsimp only)

theorem State.rowAction_sound (h : s.Sound p) : ∀ x1 x2 x3 x4, (State.rowAction s x1 x2 x3 x4).Sound p := by
  intros
  unfold State.rowAction
  with_reducible repeat' (first | intro _ | assumption | apply State.skipIn_sound | apply State.rxHeader_sound | apply State.rxEie_sound | apply State.badEies_sound | apply State.rxWake_sound | apply State.trainIn_sound | apply State.dataRowIn_sound | apply State.Sound.foldl | apply State.Sound.ite | (apply State.Sound.mk' <;> first | rfl | assumption | apply State.skipIn_sound | apply State.rxHeader_sound | apply State.rxEie_sound | apply State.badEies_sound | apply State.rxWake_sound | apply State.trainIn_sound | apply State.dataRowIn_sound | apply State.Sound.ite | apply State.Sound.foldl | refine State.Sound.ofPair ?_ (by assumption) | split) | apply State.Sound.foldlFst | refine State.Sound.ofPair ?_ (by assumption) | split | dsimp only)

theorem State.rxLanes_sound (h : s.Sound p) : ∀ x1 x2, (State.rxLanes s x1 x2).1.Sound p := by
  intros
  unfold State.rxLanes
  with_reducible repeat' (first | intro _ | assumption | apply State.rxSymbol_sound | apply State.Sound.foldl | apply State.Sound.ite | (apply State.Sound.mk' <;> first | rfl | assumption | apply State.rxSymbol_sound | apply State.Sound.ite | apply State.Sound.foldl | refine State.Sound.ofPair ?_ (by assumption) | split) | apply State.Sound.foldlFst | refine State.Sound.ofPair ?_ (by assumption) | split | dsimp only)

theorem State.align_sound (h : s.Sound p) : ∀ x1 x2, (State.align s x1 x2).1.Sound p := by
  intros
  unfold State.align
  with_reducible repeat' (first | intro _ | assumption | apply State.setRxLane_sound | apply State.Sound.foldl | apply State.Sound.ite | (apply State.Sound.mk' <;> first | rfl | assumption | apply State.setRxLane_sound | apply State.Sound.ite | apply State.Sound.foldl | refine State.Sound.ofPair ?_ (by assumption) | split) | apply State.Sound.foldlFst | refine State.Sound.ofPair ?_ (by assumption) | split | dsimp only)

theorem State.lockLanes_sound (h : s.Sound p) : ∀ x1 x2 x3, (State.lockLanes s x1 x2 x3).Sound p := by
  intros
  unfold State.lockLanes
  with_reducible repeat' (first | intro _ | assumption | apply State.upTo_sound | apply State.lockStep_sound | apply State.checkErrLimit_sound | apply State.onLockLoss_sound | apply State.Sound.foldl | apply State.Sound.ite | (apply State.Sound.mk' <;> first | rfl | assumption | apply State.upTo_sound | apply State.lockStep_sound | apply State.checkErrLimit_sound | apply State.onLockLoss_sound | apply State.Sound.ite | apply State.Sound.foldl | refine State.Sound.ofPair ?_ (by assumption) | split) | apply State.Sound.foldlFst | refine State.Sound.ofPair ?_ (by assumption) | split | dsimp only)

theorem State.elasticEvent_sound (h : s.Sound p) : ∀ x1 x2, (State.elasticEvent s x1 x2).Sound p := by
  intros
  unfold State.elasticEvent
  with_reducible repeat' (first | intro _ | assumption | apply State.retrain_sound | apply State.raise_sound | apply State.modRx_sound | apply State.Sound.foldl | apply State.Sound.ite | (apply State.Sound.mk' <;> first | rfl | assumption | apply State.retrain_sound | apply State.raise_sound | apply State.modRx_sound | apply State.Sound.ite | apply State.Sound.foldl | refine State.Sound.ofPair ?_ (by assumption) | split) | apply State.Sound.foldlFst | refine State.Sound.ofPair ?_ (by assumption) | split | dsimp only)

theorem State.rowIn_sound (h : s.Sound p) : ∀ x1 x2, (State.rowIn s x1 x2).Sound p := by
  intros
  unfold State.rowIn
  with_reducible repeat' (first | intro _ | assumption | apply State.rxLanes_sound | apply State.align_sound | apply State.lockLanes_sound | apply State.rowAction_sound | apply State.stageEq_sound | apply State.elasticEvent_sound | apply State.checkCensus_sound | apply State.advance_sound | apply State.Sound.foldl | apply State.Sound.ite | (apply State.Sound.mk' <;> first | rfl | assumption | apply State.rxLanes_sound | apply State.align_sound | apply State.lockLanes_sound | apply State.rowAction_sound | apply State.stageEq_sound | apply State.elasticEvent_sound | apply State.checkCensus_sound | apply State.advance_sound | apply State.Sound.ite | apply State.Sound.foldl | refine State.Sound.ofPair ?_ (by assumption) | split) | apply State.Sound.foldlFst | refine State.Sound.ofPair ?_ (by assumption) | split | dsimp only)

theorem State.stalledRow_sound (h : s.Sound p) : ∀ x1 x2, (State.stalledRow s x1 x2).Sound p := by
  intros
  unfold State.stalledRow
  with_reducible repeat' (first | intro _ | assumption | apply State.upTo_sound | apply State.setRxLane_sound | apply State.setFlag_sound | apply State.Sound.foldl | apply State.Sound.ite | (apply State.Sound.mk' <;> first | rfl | assumption | apply State.upTo_sound | apply State.setRxLane_sound | apply State.setFlag_sound | apply State.Sound.ite | apply State.Sound.foldl | refine State.Sound.ofPair ?_ (by assumption) | split) | apply State.Sound.foldlFst | refine State.Sound.ofPair ?_ (by assumption) | split | dsimp only)

theorem execRxRow_sound (h : s.Sound p) : ∀ x0 x1, Out.Sound p (execRxRow x0 x1 s) := by
  intros
  unfold execRxRow
  with_reducible repeat' (first | intro _ | assumption | apply State.upTo_sound | apply State.prbsCheck_sound | apply State.stalledRow_sound | apply State.rowIn_sound | apply State.Sound.foldl | apply Out.Sound.next | apply State.Sound.ite | (apply State.Sound.mk' <;> first | rfl | assumption | apply State.upTo_sound | apply State.prbsCheck_sound | apply State.stalledRow_sound | apply State.rowIn_sound | apply State.Sound.ite | apply State.Sound.foldl | refine State.Sound.ofPair ?_ (by assumption) | split) | apply State.Sound.foldlFst | refine State.Sound.ofPair ?_ (by assumption) | split | dsimp only)

/-! ### Transmit -/

theorem State.putHeader_sound (h : s.Sound p) : ∀ x1 x2, (State.putHeader s x1 x2).1.Sound p := by
  intros
  unfold State.putHeader
  with_reducible repeat' (first | intro _ | assumption | apply State.modTx_sound | apply State.Sound.foldl | apply State.Sound.ite | (apply State.Sound.mk' <;> first | rfl | assumption | apply State.modTx_sound | apply State.Sound.ite | apply State.Sound.foldl | refine State.Sound.ofPair ?_ (by assumption) | split) | apply State.Sound.foldlFst | refine State.Sound.ofPair ?_ (by assumption) | split | dsimp only)

theorem State.sendFirst_sound (h : s.Sound p) : ∀ x1 x2 x3 x4 x5 x6, (State.sendFirst s x1 x2 x3 x4 x5 x6).1.Sound p := by
  intros
  unfold State.sendFirst
  with_reducible repeat' (first | intro _ | assumption | apply State.setFld_sound | apply State.bump_sound | apply State.dropTag_sound | apply State.modTrk_sound | apply State.putHeader_sound | apply State.Sound.foldl | apply State.Sound.ite | (apply State.Sound.mk' <;> first | rfl | assumption | apply State.setFld_sound | apply State.bump_sound | apply State.dropTag_sound | apply State.modTrk_sound | apply State.putHeader_sound | apply State.Sound.ite | apply State.Sound.foldl | refine State.Sound.ofPair ?_ (by assumption) | split) | apply State.Sound.foldlFst | refine State.Sound.ofPair ?_ (by assumption) | split | dsimp only)

theorem State.takeReturns_sound (h : s.Sound p) : ∀ x1, (State.takeReturns s x1).1.Sound p := by
  intros
  unfold State.takeReturns
  with_reducible repeat' (first | intro _ | assumption | apply State.modTx_sound | apply State.Sound.foldl | apply State.Sound.ite | (apply State.Sound.mk' <;> first | rfl | assumption | apply State.modTx_sound | apply State.Sound.ite | apply State.Sound.foldl | refine State.Sound.ofPair ?_ (by assumption) | split) | apply State.Sound.foldlFst | refine State.Sound.ofPair ?_ (by assumption) | split | dsimp only)

theorem State.sendResp_sound (h : s.Sound p) : ∀ x1 x2, (State.sendResp s x1 x2).1.Sound p := by
  intros
  unfold State.sendResp
  with_reducible repeat' (first | intro _ | assumption | apply State.takeReturns_sound | apply State.sendFirst_sound | apply State.modTx_sound | apply State.Sound.foldl | apply State.Sound.ite | (apply State.Sound.mk' <;> first | rfl | assumption | apply State.takeReturns_sound | apply State.sendFirst_sound | apply State.modTx_sound | apply State.Sound.ite | apply State.Sound.foldl | refine State.Sound.ofPair ?_ (by assumption) | split) | apply State.Sound.foldlFst | refine State.Sound.ofPair ?_ (by assumption) | split | dsimp only)

theorem State.sendIdle_sound (h : s.Sound p) : ∀ x1, (State.sendIdle s x1).1.Sound p := by
  intros
  unfold State.sendIdle
  with_reducible repeat' (first | intro _ | assumption | apply State.putHeader_sound | apply State.Sound.foldl | apply State.Sound.ite | (apply State.Sound.mk' <;> first | rfl | assumption | apply State.putHeader_sound | apply State.Sound.ite | apply State.Sound.foldl | refine State.Sound.ofPair ?_ (by assumption) | split) | apply State.Sound.foldlFst | refine State.Sound.ofPair ?_ (by assumption) | split | dsimp only)

theorem State.takeBulNum_sound (h : s.Sound p) : (State.takeBulNum s).1.Sound p := by
  unfold State.takeBulNum
  with_reducible repeat' (first | intro _ | assumption | apply State.setFld_sound | apply State.Sound.foldl | apply State.Sound.ite | (apply State.Sound.mk' <;> first | rfl | assumption | apply State.setFld_sound | apply State.Sound.ite | apply State.Sound.foldl | refine State.Sound.ofPair ?_ (by assumption) | split) | apply State.Sound.foldlFst | refine State.Sound.ofPair ?_ (by assumption) | split | dsimp only)

theorem State.pullUrgent_sound (h : s.Sound p) : (State.pullUrgent s).Sound p := by
  unfold State.pullUrgent
  split
  · exact h
  · rename_i r rest e
    apply State.upTo_sound
    · exact State.Sound.shrink (State.takeBulNum_sound h) rfl rfl rfl rfl rfl rfl rfl rfl (Nat.le_refl _) (by
        show rest.length ≤ s.box.urg.length
        simp [e])
    · intro i s hs
      split
      · exact State.modTx_sound hs ..
      · exact hs

theorem State.pullMask_sound (h : s.Sound p) : ∀ x1, (State.pullMask s x1).Sound p := by
  intro t
  unfold State.pullMask
  split
  · exact h
  · rename_i r rest e
    split
    · apply State.modTx_sound
      exact State.Sound.shrink (State.takeBulNum_sound h) rfl rfl rfl rfl rfl rfl rfl rfl (by
        show rest.length ≤ s.box.bul.length
        simp [e]) (Nat.le_refl _)
    · exact h

theorem State.countBytes_sound (h : s.Sound p) : ∀ x1, (State.countBytes s x1).Sound p := by
  intros
  unfold State.countBytes
  with_reducible repeat' (first | intro _ | assumption | apply State.setFld_sound | apply State.Sound.foldl | apply State.Sound.ite | (apply State.Sound.mk' <;> first | rfl | assumption | apply State.setFld_sound | apply State.Sound.ite | apply State.Sound.foldl | refine State.Sound.ofPair ?_ (by assumption) | split) | apply State.Sound.foldlFst | refine State.Sound.ofPair ?_ (by assumption) | split | dsimp only)

theorem State.sendReplay_sound (h : s.Sound p) : ∀ x1 x2, (State.sendReplay s x1 x2).1.Sound p := by
  intros
  unfold State.sendReplay
  with_reducible repeat' (first | intro _ | assumption | apply State.sendIdle_sound | apply State.putHeader_sound | apply State.modTx_sound | apply State.Sound.foldl | apply State.Sound.ite | (apply State.Sound.mk' <;> first | rfl | assumption | apply State.sendIdle_sound | apply State.putHeader_sound | apply State.modTx_sound | apply State.Sound.ite | apply State.Sound.foldl | refine State.Sound.ofPair ?_ (by assumption) | split) | apply State.Sound.foldlFst | refine State.Sound.ofPair ?_ (by assumption) | split | dsimp only)

theorem State.sendMarked_sound (h : s.Sound p) : ∀ x1, ∀ r, State.sendMarked s x1 = some r → r.1.Sound p := by
  intro x1 r e
  unfold State.sendMarked at e
  try dsimp only at e
  repeat' split at e
  all_goals first | (injection e with e; subst e) | injection e
  all_goals with_reducible repeat' (first | intro _ | assumption | apply State.sendFirst_sound | apply State.modTx_sound | apply State.Sound.foldl | apply State.Sound.ite | (apply State.Sound.mk' <;> first | rfl | assumption | apply State.sendFirst_sound | apply State.modTx_sound | apply State.Sound.ite | apply State.Sound.foldl | refine State.Sound.ofPair ?_ (by assumption) | split) | apply State.Sound.foldlFst | refine State.Sound.ofPair ?_ (by assumption) | split | dsimp only)

theorem State.sendUrgent_sound (h : s.Sound p) : ∀ x1, ∀ r, State.sendUrgent s x1 = some r → r.1.Sound p := by
  intro x1 r e
  unfold State.sendUrgent at e
  try dsimp only at e
  repeat' split at e
  all_goals first | (injection e with e; subst e) | injection e
  all_goals with_reducible repeat' (first | intro _ | assumption | apply State.sendResp_sound | apply State.modTx_sound | apply State.Sound.foldl | apply State.Sound.ite | (apply State.Sound.mk' <;> first | rfl | assumption | apply State.sendResp_sound | apply State.modTx_sound | apply State.Sound.ite | apply State.Sound.foldl | refine State.Sound.ofPair ?_ (by assumption) | split) | apply State.Sound.foldlFst | refine State.Sound.ofPair ?_ (by assumption) | split | dsimp only)

theorem State.sendOldest_sound (h : s.Sound p) : ∀ x1, ∀ r, State.sendOldest s x1 = some r → r.1.Sound p := by
  intro x1 r e
  unfold State.sendOldest at e
  try dsimp only at e
  repeat' split at e
  all_goals first | (injection e with e; subst e) | injection e
  all_goals with_reducible repeat' (first | intro _ | assumption | apply State.sendResp_sound | apply State.countBytes_sound | apply State.modTx_sound | apply State.Sound.foldl | apply State.Sound.ite | (apply State.Sound.mk' <;> first | rfl | assumption | apply State.sendResp_sound | apply State.countBytes_sound | apply State.modTx_sound | apply State.Sound.ite | apply State.Sound.foldl | refine State.Sound.ofPair ?_ (by assumption) | split) | apply State.Sound.foldlFst | refine State.Sound.ofPair ?_ (by assumption) | split | dsimp only)

theorem State.sendBulletin_sound (h : s.Sound p) : ∀ x1, ∀ r, State.sendBulletin s x1 = some r → r.1.Sound p := by
  intro x1 r e
  unfold State.sendBulletin at e
  try dsimp only at e
  repeat' split at e
  all_goals first | (injection e with e; subst e) | injection e
  all_goals with_reducible repeat' (first | intro _ | assumption | apply State.sendResp_sound | apply State.modTx_sound | apply State.Sound.foldl | apply State.Sound.ite | (apply State.Sound.mk' <;> first | rfl | assumption | apply State.sendResp_sound | apply State.modTx_sound | apply State.Sound.ite | apply State.Sound.foldl | refine State.Sound.ofPair ?_ (by assumption) | split) | apply State.Sound.foldlFst | refine State.Sound.ofPair ?_ (by assumption) | split | dsimp only)

theorem State.sendReturn_sound (h : s.Sound p) : ∀ x1, ∀ r, State.sendReturn s x1 = some r → r.1.Sound p := by
  intro x1 r e
  unfold State.sendReturn at e
  try dsimp only at e
  repeat' split at e
  all_goals first | (injection e with e; subst e) | injection e
  all_goals with_reducible repeat' (first | intro _ | assumption | apply State.takeReturns_sound | apply State.sendFirst_sound | apply State.Sound.foldl | apply State.Sound.ite | (apply State.Sound.mk' <;> first | rfl | assumption | apply State.takeReturns_sound | apply State.sendFirst_sound | apply State.Sound.ite | apply State.Sound.foldl | refine State.Sound.ofPair ?_ (by assumption) | split) | apply State.Sound.foldlFst | refine State.Sound.ofPair ?_ (by assumption) | split | dsimp only)

theorem State.pullBulletins_sound (h : s.Sound p) : ∀ x1, (State.pullBulletins s x1).Sound p := by
  intros
  unfold State.pullBulletins
  with_reducible repeat' (first | intro _ | assumption | apply State.pullUrgent_sound | apply State.pullMask_sound | apply State.Sound.foldl | apply State.Sound.ite | (apply State.Sound.mk' <;> first | rfl | assumption | apply State.pullUrgent_sound | apply State.pullMask_sound | apply State.Sound.ite | apply State.Sound.foldl | refine State.Sound.ofPair ?_ (by assumption) | split) | apply State.Sound.foldlFst | refine State.Sound.ofPair ?_ (by assumption) | split | dsimp only)

theorem State.chooseHeader_sound (h : s.Sound p) : ∀ x1, (State.chooseHeader s x1).1.Sound p := by
  intros
  unfold State.chooseHeader
  with_reducible repeat' (first | intro _ | assumption | apply State.sendReplay_sound | apply State.sendIdle_sound | apply State.pullBulletins_sound | refine State.sendMarked_sound ?_ _ _ (by assumption) | refine State.sendUrgent_sound ?_ _ _ (by assumption) | refine State.sendOldest_sound ?_ _ _ (by assumption) | refine State.sendBulletin_sound ?_ _ _ (by assumption) | refine State.sendReturn_sound ?_ _ _ (by assumption) | apply State.Sound.foldl | apply State.Sound.ite | (apply State.Sound.mk' <;> first | rfl | assumption | apply State.sendReplay_sound | apply State.sendIdle_sound | apply State.pullBulletins_sound | refine State.sendMarked_sound ?_ _ _ (by assumption) | refine State.sendUrgent_sound ?_ _ _ (by assumption) | refine State.sendOldest_sound ?_ _ _ (by assumption) | refine State.sendBulletin_sound ?_ _ _ (by assumption) | refine State.sendReturn_sound ?_ _ _ (by assumption) | apply State.Sound.ite | apply State.Sound.foldl | refine State.Sound.ofPair ?_ (by assumption) | split) | apply State.Sound.foldlFst | refine State.Sound.ofPair ?_ (by assumption) | split | dsimp only)

theorem State.dataRow_sound (h : s.Sound p) : ∀ x1, (State.dataRow s x1).1.Sound p := by
  intros
  unfold State.dataRow
  with_reducible repeat' (first | intro _ | assumption | apply State.modTx_sound | apply State.chooseHeader_sound | apply State.Sound.foldl | apply State.Sound.ite | (apply State.Sound.mk' <;> first | rfl | assumption | apply State.modTx_sound | apply State.chooseHeader_sound | apply State.Sound.ite | apply State.Sound.foldl | refine State.Sound.ofPair ?_ (by assumption) | split) | apply State.Sound.foldlFst | refine State.Sound.ofPair ?_ (by assumption) | split | dsimp only)

theorem State.emit_sound (h : s.Sound p) : ∀ x1 x2 x3 x4 x5, (State.emit s x1 x2 x3 x4 x5).Sound p := by
  intros
  unfold State.emit
  with_reducible repeat' (first | intro _ | assumption | apply State.txSymbol_sound | apply State.txPrbs_sound | apply State.modTx_sound | apply State.Sound.foldl | apply State.Sound.ite | (apply State.Sound.mk' <;> first | rfl | assumption | apply State.txSymbol_sound | apply State.txPrbs_sound | apply State.modTx_sound | apply State.Sound.ite | apply State.Sound.foldl | refine State.Sound.ofPair ?_ (by assumption) | split) | apply State.Sound.foldlFst | refine State.Sound.ofPair ?_ (by assumption) | split | dsimp only)

theorem State.emitIdle_sound (h : s.Sound p) : ∀ x1, (State.emitIdle s x1).Sound p := by
  intros
  unfold State.emitIdle
  with_reducible repeat' (first | intro _ | assumption | apply State.txPrbs_sound | apply State.setTxLane_sound | apply State.modTx_sound | apply State.Sound.foldl | apply State.Sound.ite | (apply State.Sound.mk' <;> first | rfl | assumption | apply State.txPrbs_sound | apply State.setTxLane_sound | apply State.modTx_sound | apply State.Sound.ite | apply State.Sound.foldl | refine State.Sound.ofPair ?_ (by assumption) | split) | apply State.Sound.foldlFst | refine State.Sound.ofPair ?_ (by assumption) | split | dsimp only)

theorem State.emitHeader_sound (h : s.Sound p) : ∀ x1 x2, (State.emitHeader s x1 x2).Sound p := by
  intros
  unfold State.emitHeader
  with_reducible repeat' (first | intro _ | assumption | apply State.modTrk_sound | apply State.emit_sound | apply State.Sound.foldl | apply State.Sound.ite | (apply State.Sound.mk' <;> first | rfl | assumption | apply State.modTrk_sound | apply State.emit_sound | apply State.Sound.ite | apply State.Sound.foldl | refine State.Sound.ofPair ?_ (by assumption) | split) | apply State.Sound.foldlFst | refine State.Sound.ofPair ?_ (by assumption) | split | dsimp only)

theorem State.setSent_sound (h : s.Sound p) : ∀ x1, (State.setSent s x1).Sound p := by
  intros
  unfold State.setSent
  with_reducible repeat' (first | intro _ | assumption | apply State.modTrn_sound | apply State.modFov_sound | apply State.moveSession_sound | apply State.Sound.foldl | apply State.Sound.ite | (apply State.Sound.mk' <;> first | rfl | assumption | apply State.modTrn_sound | apply State.modFov_sound | apply State.moveSession_sound | apply State.Sound.ite | apply State.Sound.foldl | refine State.Sound.ofPair ?_ (by assumption) | split) | apply State.Sound.foldlFst | refine State.Sound.ofPair ?_ (by assumption) | split | dsimp only)

theorem State.beginSet_sound (h : s.Sound p) : ∀ x1, (State.beginSet s x1).Sound p := by
  intros
  unfold State.beginSet
  with_reducible repeat' (first | intro _ | assumption | apply State.modTrk_sound | apply State.takeCut_sound | apply State.Sound.foldl | apply State.Sound.ite | (apply State.Sound.mk' <;> first | rfl | assumption | apply State.modTrk_sound | apply State.takeCut_sound | apply State.Sound.ite | apply State.Sound.foldl | refine State.Sound.ofPair ?_ (by assumption) | split) | apply State.Sound.foldlFst | refine State.Sound.ofPair ?_ (by assumption) | split | dsimp only)

theorem State.slotSent_sound (h : s.Sound p) : ∀ x1, (State.slotSent s x1).Sound p := by
  intros
  unfold State.slotSent
  with_reducible repeat' (first | intro _ | assumption | apply State.modTx_sound | apply State.setSent_sound | apply State.becomeReady_sound | apply State.modTrn_sound | apply State.Sound.foldl | apply State.Sound.ite | (apply State.Sound.mk' <;> first | rfl | assumption | apply State.modTx_sound | apply State.setSent_sound | apply State.becomeReady_sound | apply State.modTrn_sound | apply State.Sound.ite | apply State.Sound.foldl | refine State.Sound.ofPair ?_ (by assumption) | split) | apply State.Sound.foldlFst | refine State.Sound.ofPair ?_ (by assumption) | split | dsimp only)

theorem State.emitSet_sound (h : s.Sound p) : ∀ x1, (State.emitSet s x1).Sound p := by
  intros
  unfold State.emitSet
  with_reducible repeat' (first | intro _ | assumption | apply State.beginSet_sound | apply State.modTx_sound | apply State.emit_sound | apply State.slotSent_sound | apply State.Sound.foldl | apply State.Sound.ite | (apply State.Sound.mk' <;> first | rfl | assumption | apply State.beginSet_sound | apply State.modTx_sound | apply State.emit_sound | apply State.slotSent_sound | apply State.Sound.ite | apply State.Sound.foldl | refine State.Sound.ofPair ?_ (by assumption) | split) | apply State.Sound.foldlFst | refine State.Sound.ofPair ?_ (by assumption) | split | dsimp only)

theorem State.emitData_sound {t : Nat} {pick : State → State × BitVec 128} (h : s.Sound p)
    (hg : ∀ s, s.Sound p → (pick s).1.Sound p) : (State.emitData s t pick).Sound p := by
  unfold State.emitData
  apply State.modTx_sound
  apply State.emit_sound
  exact hg s h

theorem State.finishRow_sound (h : s.Sound p) : ∀ x1, (State.finishRow s x1).1.Sound p := by
  intros
  unfold State.finishRow
  with_reducible repeat' (first | intro _ | assumption | apply State.sendIdle_sound | apply State.dataRow_sound | apply State.Sound.foldl | apply State.Sound.ite | (apply State.Sound.mk' <;> first | rfl | assumption | apply State.sendIdle_sound | apply State.dataRow_sound | apply State.Sound.ite | apply State.Sound.foldl | refine State.Sound.ofPair ?_ (by assumption) | split) | apply State.Sound.foldlFst | refine State.Sound.ofPair ?_ (by assumption) | split | dsimp only)

theorem State.trainRow_sound (h : s.Sound p) : ∀ x1, (State.trainRow s x1).Sound p := by
  intros
  unfold State.trainRow
  with_reducible repeat' (first | intro _ | assumption | apply State.emitData_sound | apply State.finishRow_sound | apply State.emitSet_sound | apply State.modTx_sound | apply State.Sound.foldl | apply State.Sound.ite | (apply State.Sound.mk' <;> first | rfl | assumption | apply State.emitData_sound | apply State.finishRow_sound | apply State.emitSet_sound | apply State.modTx_sound | apply State.Sound.ite | apply State.Sound.foldl | refine State.Sound.ofPair ?_ (by assumption) | split) | apply State.Sound.foldlFst | refine State.Sound.ofPair ?_ (by assumption) | split | dsimp only)

theorem State.readyRow_sound (h : s.Sound p) : ∀ x1, (State.readyRow s x1).Sound p := by
  intros
  unfold State.readyRow
  with_reducible repeat' (first | intro _ | assumption | apply State.emitSet_sound | apply State.emitData_sound | apply State.sendIdle_sound | apply State.dataRow_sound | apply State.Sound.foldl | apply State.Sound.ite | (apply State.Sound.mk' <;> first | rfl | assumption | apply State.emitSet_sound | apply State.emitData_sound | apply State.sendIdle_sound | apply State.dataRow_sound | apply State.Sound.ite | apply State.Sound.foldl | refine State.Sound.ofPair ?_ (by assumption) | split) | apply State.Sound.foldlFst | refine State.Sound.ofPair ?_ (by assumption) | split | dsimp only)

theorem State.txRow_sound (h : s.Sound p) : ∀ x1, (State.txRow s x1).Sound p := by
  intros
  unfold State.txRow
  with_reducible repeat' (first | intro _ | assumption | apply State.modTx_sound | apply State.emit_sound | apply State.emitHeader_sound | apply State.trainRow_sound | apply State.readyRow_sound | apply State.Sound.foldl | apply State.Sound.ite | (apply State.Sound.mk' <;> first | rfl | assumption | apply State.modTx_sound | apply State.emit_sound | apply State.emitHeader_sound | apply State.trainRow_sound | apply State.readyRow_sound | apply State.Sound.ite | apply State.Sound.foldl | refine State.Sound.ofPair ?_ (by assumption) | split) | apply State.Sound.foldlFst | refine State.Sound.ofPair ?_ (by assumption) | split | dsimp only)

theorem execPacketTransmit_sound (h : s.Sound p) : ∀ x0, Out.Sound p (execPacketTransmit x0 s) := by
  intros
  unfold execPacketTransmit
  with_reducible repeat' (first | intro _ | assumption | apply State.emitIdle_sound | apply State.txRow_sound | apply State.modTx_sound | apply State.Sound.foldl | apply Out.Sound.next | apply State.Sound.ite | (apply State.Sound.mk' <;> first | rfl | assumption | apply State.emitIdle_sound | apply State.txRow_sound | apply State.modTx_sound | apply State.Sound.ite | apply State.Sound.foldl | refine State.Sound.ofPair ?_ (by assumption) | split) | apply State.Sound.foldlFst | refine State.Sound.ofPair ?_ (by assumption) | split | dsimp only)

theorem State.sendEie_sound (h : s.Sound p) : ∀ x1 x2, (State.sendEie s x1 x2).Sound p := by
  intros
  unfold State.sendEie
  with_reducible repeat' (first | intro _ | assumption | apply State.emit_sound | apply State.modTx_sound | apply State.setFld_sound | apply State.Sound.foldl | apply State.Sound.ite | (apply State.Sound.mk' <;> first | rfl | assumption | apply State.emit_sound | apply State.modTx_sound | apply State.setFld_sound | apply State.Sound.ite | apply State.Sound.foldl | refine State.Sound.ofPair ?_ (by assumption) | split) | apply State.Sound.foldlFst | refine State.Sound.ofPair ?_ (by assumption) | split | dsimp only)

theorem execTxL1Entry_sound (h : s.Sound p) : ∀ x0, Out.Sound p (execTxL1Entry x0 s) := by
  intros
  unfold execTxL1Entry
  with_reducible repeat' (first | intro _ | assumption | apply State.sendEie_sound | apply State.Sound.foldl | apply Out.Sound.next | apply State.Sound.ite | (apply State.Sound.mk' <;> first | rfl | assumption | apply State.sendEie_sound | apply State.Sound.ite | apply State.Sound.foldl | refine State.Sound.ofPair ?_ (by assumption) | split) | apply State.Sound.foldlFst | refine State.Sound.ofPair ?_ (by assumption) | split | dsimp only)

theorem execTxL1Exit_sound (h : s.Sound p) : ∀ x0, Out.Sound p (execTxL1Exit x0 s) := by
  intros
  unfold execTxL1Exit
  with_reducible repeat' (first | intro _ | assumption | apply State.modTrk_sound | apply State.setFld_sound | apply State.Sound.foldl | apply Out.Sound.next | apply State.Sound.ite | (apply State.Sound.mk' <;> first | rfl | assumption | apply State.modTrk_sound | apply State.setFld_sound | apply State.Sound.ite | apply State.Sound.foldl | refine State.Sound.ofPair ?_ (by assumption) | split) | apply State.Sound.foldlFst | refine State.Sound.ofPair ?_ (by assumption) | split | dsimp only)

theorem State.finishOpen_sound (h : s.Sound p) : ∀ x0 x1, (State.finishOpen x0 x1 s).Sound p := by
  intro t k
  induction k generalizing s with
  | zero => exact h
  | succ k ih =>
    unfold State.finishOpen
    dsimp only
    split
    · exact h
    · exact ih (State.Sound.ite (State.txRow_sound h _) (State.emitData_sound h fun s hs => State.finishRow_sound hs _))

theorem State.sendL3_sound (h : s.Sound p) : ∀ x1, (State.sendL3 s x1).Sound p := by
  intros
  unfold State.sendL3
  with_reducible repeat' (first | intro _ | assumption | apply State.sendEie_sound | apply State.finishOpen_sound | apply State.Sound.foldl | apply State.Sound.ite | (apply State.Sound.mk' <;> first | rfl | assumption | apply State.sendEie_sound | apply State.finishOpen_sound | apply State.Sound.ite | apply State.Sound.foldl | refine State.Sound.ofPair ?_ (by assumption) | split) | apply State.Sound.foldlFst | refine State.Sound.ofPair ?_ (by assumption) | split | dsimp only)

/-! ### Repair -/

theorem State.journal_sound (h : s.Sound p) : ∀ x1 x2 x3, (State.journal s x1 x2 x3).Sound p := by
  intros
  unfold State.journal
  with_reducible repeat' (first | intro _ | assumption | apply State.raise_sound | apply State.bump_sound | apply State.Sound.foldl | apply State.Sound.ite | (apply State.Sound.mk' <;> first | rfl | assumption | apply State.raise_sound | apply State.bump_sound | apply State.Sound.ite | apply State.Sound.foldl | refine State.Sound.ofPair ?_ (by assumption) | split) | apply State.Sound.foldlFst | refine State.Sound.ofPair ?_ (by assumption) | split | dsimp only)

theorem State.journalDelta_sound (h : s.Sound p) : ∀ x1, (State.journalDelta s x1).Sound p := by
  intros
  unfold State.journalDelta
  with_reducible repeat' (first | intro _ | assumption | apply State.journal_sound | apply State.Sound.foldl | apply State.Sound.ite | (apply State.Sound.mk' <;> first | rfl | assumption | apply State.journal_sound | apply State.Sound.ite | apply State.Sound.foldl | refine State.Sound.ofPair ?_ (by assumption) | split) | apply State.Sound.foldlFst | refine State.Sound.ofPair ?_ (by assumption) | split | dsimp only)

theorem State.addDelta_sound (h : s.Sound p) : ∀ x1 x2, (State.addDelta s x1 x2).Sound p := by
  intros
  unfold State.addDelta
  with_reducible repeat' (first | intro _ | assumption | apply State.setFld_sound | apply State.journalDelta_sound | apply State.Sound.foldl | apply State.Sound.ite | (apply State.Sound.mk' <;> first | rfl | assumption | apply State.setFld_sound | apply State.journalDelta_sound | apply State.Sound.ite | apply State.Sound.foldl | refine State.Sound.ofPair ?_ (by assumption) | split) | apply State.Sound.foldlFst | refine State.Sound.ofPair ?_ (by assumption) | split | dsimp only)

theorem State.repSet_sound (h : s.Sound p) : ∀ x1, (State.repSet s x1).Sound p := by
  intros
  unfold State.repSet
  with_reducible repeat' (first | intro _ | assumption | apply State.addDelta_sound | apply State.Sound.foldl | apply State.Sound.ite | (apply State.Sound.mk' <;> first | rfl | assumption | apply State.addDelta_sound | apply State.Sound.ite | apply State.Sound.foldl | refine State.Sound.ofPair ?_ (by assumption) | split) | apply State.Sound.foldlFst | refine State.Sound.ofPair ?_ (by assumption) | split | dsimp only)

theorem State.repDel_sound (h : s.Sound p) : ∀ x1, (State.repDel s x1).Sound p := by
  intros
  unfold State.repDel
  with_reducible repeat' (first | intro _ | assumption | apply State.addDelta_sound | apply State.Sound.foldl | apply State.Sound.ite | (apply State.Sound.mk' <;> first | rfl | assumption | apply State.addDelta_sound | apply State.Sound.ite | apply State.Sound.foldl | refine State.Sound.ofPair ?_ (by assumption) | split) | apply State.Sound.foldlFst | refine State.Sound.ofPair ?_ (by assumption) | split | dsimp only)

theorem State.checkBudget_sound (h : s.Sound p) : ∀ x1 x2, (State.checkBudget s x1 x2).Sound p := by
  intros
  unfold State.checkBudget
  with_reducible repeat' (first | intro _ | assumption | apply State.raise_sound | apply State.Sound.foldl | apply State.Sound.ite | (apply State.Sound.mk' <;> first | rfl | assumption | apply State.raise_sound | apply State.Sound.ite | apply State.Sound.foldl | refine State.Sound.ofPair ?_ (by assumption) | split) | apply State.Sound.foldlFst | refine State.Sound.ofPair ?_ (by assumption) | split | dsimp only)

theorem State.checkBudgets_sound (h : s.Sound p) : ∀ x1, (State.checkBudgets s x1).Sound p := by
  intros
  unfold State.checkBudgets
  with_reducible repeat' (first | intro _ | assumption | apply State.upTo_sound | apply State.checkBudget_sound | apply State.Sound.foldl | apply State.Sound.ite | (apply State.Sound.mk' <;> first | rfl | assumption | apply State.upTo_sound | apply State.checkBudget_sound | apply State.Sound.ite | apply State.Sound.foldl | refine State.Sound.ofPair ?_ (by assumption) | split) | apply State.Sound.foldlFst | refine State.Sound.ofPair ?_ (by assumption) | split | dsimp only)

theorem State.markBad_sound (h : s.Sound p) : ∀ x1 x2 x3, (State.markBad s x1 x2 x3).Sound p := by
  intros
  unfold State.markBad
  with_reducible repeat' (first | intro _ | assumption | apply State.repSet_sound | apply State.Sound.foldl | apply State.Sound.ite | (apply State.Sound.mk' <;> first | rfl | assumption | apply State.repSet_sound | apply State.Sound.ite | apply State.Sound.foldl | refine State.Sound.ofPair ?_ (by assumption) | split) | apply State.Sound.foldlFst | refine State.Sound.ofPair ?_ (by assumption) | split | dsimp only)

theorem State.markServing_sound (h : s.Sound p) : ∀ x1 x2 x3, (State.markServing s x1 x2 x3).Sound p := by
  intros
  unfold State.markServing
  with_reducible repeat' (first | intro _ | assumption | apply State.markBad_sound | apply State.Sound.foldl | apply State.Sound.ite | (apply State.Sound.mk' <;> first | rfl | assumption | apply State.markBad_sound | apply State.Sound.ite | apply State.Sound.foldl | refine State.Sound.ofPair ?_ (by assumption) | split) | apply State.Sound.foldlFst | refine State.Sound.ofPair ?_ (by assumption) | split | dsimp only)

theorem State.exhausted_sound (h : s.Sound p) : ∀ x1 x2 x3, (State.exhausted s x1 x2 x3).Sound p := by
  intros
  unfold State.exhausted
  with_reducible repeat' (first | intro _ | assumption | apply State.bump_sound | apply State.setFld_sound | apply State.raise_sound | apply State.repSet_sound | apply State.Sound.foldl | apply State.Sound.ite | (apply State.Sound.mk' <;> first | rfl | assumption | apply State.bump_sound | apply State.setFld_sound | apply State.raise_sound | apply State.repSet_sound | apply State.Sound.ite | apply State.Sound.foldl | refine State.Sound.ofPair ?_ (by assumption) | split) | apply State.Sound.foldlFst | refine State.Sound.ofPair ?_ (by assumption) | split | dsimp only)

theorem State.noteGroups_sound (h : s.Sound p) : ∀ x1 x2 x3, (State.noteGroups s x1 x2 x3).Sound p := by
  intros
  unfold State.noteGroups
  with_reducible repeat' (first | intro _ | assumption | apply State.Sound.foldl | apply State.Sound.ite | (apply State.Sound.mk' <;> first | rfl | assumption | apply State.Sound.ite | apply State.Sound.foldl | refine State.Sound.ofPair ?_ (by assumption) | split) | apply State.Sound.foldlFst | refine State.Sound.ofPair ?_ (by assumption) | split | dsimp only)

theorem State.testGroups_sound (h : s.Sound p) : ∀ x1 x2 x3, (State.testGroups s x1 x2 x3).Sound p := by
  intros
  unfold State.testGroups
  with_reducible repeat' (first | intro _ | assumption | apply State.raise_sound | apply State.repSet_sound | apply State.Sound.foldl | apply State.Sound.ite | (apply State.Sound.mk' <;> first | rfl | assumption | apply State.raise_sound | apply State.repSet_sound | apply State.Sound.ite | apply State.Sound.foldl | refine State.Sound.ofPair ?_ (by assumption) | split) | apply State.Sound.foldlFst | refine State.Sound.ofPair ?_ (by assumption) | split | dsimp only)

theorem State.passRow_sound (h : s.Sound p) : ∀ x1 x2 x3 x4, (State.passRow s x1 x2 x3 x4).Sound p := by
  intros
  unfold State.passRow
  with_reducible repeat' (first | intro _ | assumption | apply State.markBad_sound | apply State.exhausted_sound | apply State.modChan_sound | apply State.testGroups_sound | apply State.Sound.foldl | apply State.Sound.ite | (apply State.Sound.mk' <;> first | rfl | assumption | apply State.markBad_sound | apply State.exhausted_sound | apply State.modChan_sound | apply State.testGroups_sound | apply State.Sound.ite | apply State.Sound.foldl | refine State.Sound.ofPair ?_ (by assumption) | split) | apply State.Sound.foldlFst | refine State.Sound.ofPair ?_ (by assumption) | split | dsimp only)

theorem execLaneRetire_sound (h : s.Sound p) : ∀ x0 x1, Out.Sound p (execLaneRetire x0 x1 s) := by
  intros
  unfold execLaneRetire
  with_reducible repeat' (first | intro _ | assumption | apply State.setFld_sound | apply State.modTrk_sound | apply State.repSet_sound | apply State.Sound.foldl | apply Out.Sound.next | apply State.Sound.ite | (apply State.Sound.mk' <;> first | rfl | assumption | apply State.setFld_sound | apply State.modTrk_sound | apply State.repSet_sound | apply State.Sound.ite | apply State.Sound.foldl | refine State.Sound.ofPair ?_ (by assumption) | split) | apply State.Sound.foldlFst | refine State.Sound.ofPair ?_ (by assumption) | split | dsimp only)

theorem State.launchCfg_sound (h : s.Sound p) : ∀ x1, (State.launchCfg s x1).Sound p := by
  intros
  unfold State.launchCfg
  with_reducible repeat' (first | intro _ | assumption | apply State.launch_sound | apply State.modChan_sound | apply State.Sound.foldl | apply State.Sound.ite | (apply State.Sound.mk' <;> first | rfl | assumption | apply State.launch_sound | apply State.modChan_sound | apply State.Sound.ite | apply State.Sound.foldl | refine State.Sound.ofPair ?_ (by assumption) | split) | apply State.Sound.foldlFst | refine State.Sound.ofPair ?_ (by assumption) | split | dsimp only)

theorem State.sendCfg_sound (h : s.Sound p) : ∀ x1 x2, (State.sendCfg s x1 x2).Sound p := by
  intros
  unfold State.sendCfg
  with_reducible repeat' (first | intro _ | assumption | apply State.launchCfg_sound | apply State.Sound.foldl | apply State.Sound.ite | (apply State.Sound.mk' <;> first | rfl | assumption | apply State.launchCfg_sound | apply State.Sound.ite | apply State.Sound.foldl | refine State.Sound.ofPair ?_ (by assumption) | split) | apply State.Sound.foldlFst | refine State.Sound.ofPair ?_ (by assumption) | split | dsimp only)

theorem State.setcfg_sound (h : s.Sound p) : ∀ x1 x2 x3 x4 x5, (State.setcfg s x1 x2 x3 x4 x5).Sound p := by
  intros
  unfold State.setcfg
  with_reducible repeat' (first | intro _ | assumption | apply State.sendCfg_sound | apply State.Sound.foldl | apply State.Sound.ite | (apply State.Sound.mk' <;> first | rfl | assumption | apply State.sendCfg_sound | apply State.Sound.ite | apply State.Sound.foldl | refine State.Sound.ofPair ?_ (by assumption) | split) | apply State.Sound.foldlFst | refine State.Sound.ofPair ?_ (by assumption) | split | dsimp only)

theorem State.sendRep_sound (h : s.Sound p) : ∀ x1 x2 x3 x4, (State.sendRep s x1 x2 x3 x4).Sound p := by
  intros
  unfold State.sendRep
  with_reducible repeat' (first | intro _ | assumption | apply State.sendCfg_sound | apply State.Sound.foldl | apply State.Sound.ite | (apply State.Sound.mk' <;> first | rfl | assumption | apply State.sendCfg_sound | apply State.Sound.ite | apply State.Sound.foldl | refine State.Sound.ofPair ?_ (by assumption) | split) | apply State.Sound.foldlFst | refine State.Sound.ofPair ?_ (by assumption) | split | dsimp only)

theorem State.sendTiming_sound (h : s.Sound p) : ∀ x1, (State.sendTiming s x1).Sound p := by
  intros
  unfold State.sendTiming
  with_reducible repeat' (first | intro _ | assumption | apply State.upTo_sound | apply State.setcfg_sound | apply State.sendCfg_sound | apply State.Sound.foldl | apply State.Sound.ite | (apply State.Sound.mk' <;> first | rfl | assumption | apply State.upTo_sound | apply State.setcfg_sound | apply State.sendCfg_sound | apply State.Sound.ite | apply State.Sound.foldl | refine State.Sound.ofPair ?_ (by assumption) | split) | apply State.Sound.foldlFst | refine State.Sound.ofPair ?_ (by assumption) | split | dsimp only)

end Sys2Proof.Machine
end

