-- ==== Sys2Proof/Laws/SoundD.lean ====
section
/-! SUPPORT. The queue and the invariant through every operation of March, Integrity, Faults, Bandwidth. -/
namespace Sys2Proof.Machine

set_option linter.all false

variable {p : List Instr × Prop} {s : State}

/-! ### March -/

theorem State.modMarch_sound (h : s.Sound p) : ∀ x1 x2 x3, (State.modMarch s x1 x2 x3).Sound p := by
  intros
  unfold State.modMarch
  with_reducible repeat' (first | intro _ | assumption | apply State.modChan_sound | apply State.Sound.foldl | apply State.Sound.ite | (apply State.Sound.mk' <;> first | rfl | assumption | apply State.modChan_sound | apply State.Sound.ite | apply State.Sound.foldl | refine State.Sound.ofPair ?_ (by assumption) | split) | apply State.Sound.foldlFst | refine State.Sound.ofPair ?_ (by assumption) | split | dsimp only)

theorem State.marchWrite_sound (h : s.Sound p) : ∀ x1 x2 x3, (State.marchWrite s x1 x2 x3).Sound p := by
  intros
  unfold State.marchWrite
  with_reducible repeat' (first | intro _ | assumption | apply State.pushRow_sound | apply State.modMarch_sound | apply State.Sound.foldl | apply State.Sound.ite | (apply State.Sound.mk' <;> first | rfl | assumption | apply State.pushRow_sound | apply State.modMarch_sound | apply State.Sound.ite | apply State.Sound.foldl | refine State.Sound.ofPair ?_ (by assumption) | split) | apply State.Sound.foldlFst | refine State.Sound.ofPair ?_ (by assumption) | split | dsimp only)

theorem State.marchRow_sound (h : s.Sound p) : ∀ x1 x2, (State.marchRow s x1 x2).Sound p := by
  intros
  unfold State.marchRow
  with_reducible repeat' (first | intro _ | assumption | apply State.marchWrite_sound | apply State.pushRow_sound | apply State.modMarch_sound | apply State.Sound.foldl | apply State.Sound.ite | (apply State.Sound.mk' <;> first | rfl | assumption | apply State.marchWrite_sound | apply State.pushRow_sound | apply State.modMarch_sound | apply State.Sound.ite | apply State.Sound.foldl | refine State.Sound.ofPair ?_ (by assumption) | split) | apply State.Sound.foldlFst | refine State.Sound.ofPair ?_ (by assumption) | split | dsimp only)

theorem State.addSteps_sound (h : s.Sound p) : ∀ x1, (State.addSteps s x1).Sound p := by
  intros
  unfold State.addSteps
  with_reducible repeat' (first | intro _ | assumption | apply State.setFld_sound | apply State.Sound.foldl | apply State.Sound.ite | (apply State.Sound.mk' <;> first | rfl | assumption | apply State.setFld_sound | apply State.Sound.ite | apply State.Sound.foldl | refine State.Sound.ofPair ?_ (by assumption) | split) | apply State.Sound.foldlFst | refine State.Sound.ofPair ?_ (by assumption) | split | dsimp only)

theorem State.marchElemEnd_sound (h : s.Sound p) : ∀ x1 x2, (State.marchElemEnd s x1 x2).Sound p := by
  intros
  unfold State.marchElemEnd
  with_reducible repeat' (first | intro _ | assumption | apply State.addSteps_sound | apply State.marchRow_sound | apply State.modChan_sound | apply State.Sound.foldl | apply State.Sound.ite | (apply State.Sound.mk' <;> first | rfl | assumption | apply State.addSteps_sound | apply State.marchRow_sound | apply State.modChan_sound | apply State.Sound.ite | apply State.Sound.foldl | refine State.Sound.ofPair ?_ (by assumption) | split) | apply State.Sound.foldlFst | refine State.Sound.ofPair ?_ (by assumption) | split | dsimp only)

theorem State.marchAdvance_sound (h : s.Sound p) : ∀ x1 x2, (State.marchAdvance s x1 x2).Sound p := by
  intros
  unfold State.marchAdvance
  with_reducible repeat' (first | intro _ | assumption | apply State.marchRow_sound | apply State.marchElemEnd_sound | apply State.Sound.foldl | apply State.Sound.ite | (apply State.Sound.mk' <;> first | rfl | assumption | apply State.marchRow_sound | apply State.marchElemEnd_sound | apply State.Sound.ite | apply State.Sound.foldl | refine State.Sound.ofPair ?_ (by assumption) | split) | apply State.Sound.foldlFst | refine State.Sound.ofPair ?_ (by assumption) | split | dsimp only)

theorem State.marchAfterRead_sound (h : s.Sound p) : ∀ x1 x2, (State.marchAfterRead s x1 x2).Sound p := by
  intros
  unfold State.marchAfterRead
  with_reducible repeat' (first | intro _ | assumption | apply State.marchWrite_sound | apply State.marchAdvance_sound | apply State.Sound.foldl | apply State.Sound.ite | (apply State.Sound.mk' <;> first | rfl | assumption | apply State.marchWrite_sound | apply State.marchAdvance_sound | apply State.Sound.ite | apply State.Sound.foldl | refine State.Sound.ofPair ?_ (by assumption) | split) | apply State.Sound.foldlFst | refine State.Sound.ofPair ?_ (by assumption) | split | dsimp only)

theorem State.repairVoid_sound (h : s.Sound p) : ∀ x1 x2 x3 x4, (State.repairVoid s x1 x2 x3 x4).Sound p := by
  intros
  unfold State.repairVoid
  with_reducible repeat' (first | intro _ | assumption | apply State.exhausted_sound | apply State.testGroups_sound | apply State.markServing_sound | apply State.checkBudgets_sound | apply State.bump_sound | apply State.repSet_sound | apply State.noteGroups_sound | apply State.sendRep_sound | apply State.raise_sound | apply State.Sound.foldl | apply State.Sound.ite | (apply State.Sound.mk' <;> first | rfl | assumption | apply State.exhausted_sound | apply State.testGroups_sound | apply State.markServing_sound | apply State.checkBudgets_sound | apply State.bump_sound | apply State.repSet_sound | apply State.noteGroups_sound | apply State.sendRep_sound | apply State.raise_sound | apply State.Sound.ite | apply State.Sound.foldl | refine State.Sound.ofPair ?_ (by assumption) | split) | apply State.Sound.foldlFst | refine State.Sound.ofPair ?_ (by assumption) | split | dsimp only)

theorem State.marchFail_sound (h : s.Sound p) : ∀ x1 x2 x3 x4, (State.marchFail s x1 x2 x3 x4).Sound p := by
  intros
  unfold State.marchFail
  with_reducible repeat' (first | intro _ | assumption | apply State.bump_sound | apply State.raise_sound | apply State.markBad_sound | apply State.repairVoid_sound | apply State.Sound.foldl | apply State.Sound.ite | (apply State.Sound.mk' <;> first | rfl | assumption | apply State.bump_sound | apply State.raise_sound | apply State.markBad_sound | apply State.repairVoid_sound | apply State.Sound.ite | apply State.Sound.foldl | refine State.Sound.ofPair ?_ (by assumption) | split) | apply State.Sound.foldlFst | refine State.Sound.ofPair ?_ (by assumption) | split | dsimp only)

theorem State.marchReadEnd_sound (h : s.Sound p) : ∀ x1 x2, (State.marchReadEnd s x1 x2).Sound p := by
  intros
  unfold State.marchReadEnd
  with_reducible repeat' (first | intro _ | assumption | apply State.marchAfterRead_sound | apply State.marchFail_sound | apply State.modMarch_sound | apply State.Sound.foldl | apply State.Sound.ite | (apply State.Sound.mk' <;> first | rfl | assumption | apply State.marchAfterRead_sound | apply State.marchFail_sound | apply State.modMarch_sound | apply State.Sound.ite | apply State.Sound.foldl | refine State.Sound.ofPair ?_ (by assumption) | split) | apply State.Sound.foldlFst | refine State.Sound.ofPair ?_ (by assumption) | split | dsimp only)

theorem State.marchStep_sound (h : s.Sound p) : ∀ x1 x2, (State.marchStep s x1 x2).Sound p := by
  intros
  unfold State.marchStep
  with_reducible repeat' (first | intro _ | assumption | apply State.modMarch_sound | apply State.marchAdvance_sound | apply State.marchReadEnd_sound | apply State.Sound.foldl | apply State.Sound.ite | (apply State.Sound.mk' <;> first | rfl | assumption | apply State.modMarch_sound | apply State.marchAdvance_sound | apply State.marchReadEnd_sound | apply State.Sound.ite | apply State.Sound.foldl | refine State.Sound.ofPair ?_ (by assumption) | split) | apply State.Sound.foldlFst | refine State.Sound.ofPair ?_ (by assumption) | split | dsimp only)

theorem State.marchIn_sound (h : s.Sound p) : ∀ x1 x2 x3 x4, (State.marchIn s x1 x2 x3 x4).Sound p := by
  intros
  unfold State.marchIn
  with_reducible repeat' (first | intro _ | assumption | apply State.marchStep_sound | apply State.modMarch_sound | apply State.Sound.foldl | apply State.Sound.ite | (apply State.Sound.mk' <;> first | rfl | assumption | apply State.marchStep_sound | apply State.modMarch_sound | apply State.Sound.ite | apply State.Sound.foldl | refine State.Sound.ofPair ?_ (by assumption) | split) | apply State.Sound.foldlFst | refine State.Sound.ofPair ?_ (by assumption) | split | dsimp only)

theorem State.marchResume_sound (h : s.Sound p) : ∀ x1 x2, (State.marchResume s x1 x2).Sound p := by
  intros
  unfold State.marchResume
  with_reducible repeat' (first | intro _ | assumption | apply State.marchAfterRead_sound | apply State.Sound.foldl | apply State.Sound.ite | (apply State.Sound.mk' <;> first | rfl | assumption | apply State.marchAfterRead_sound | apply State.Sound.ite | apply State.Sound.foldl | refine State.Sound.ofPair ?_ (by assumption) | split) | apply State.Sound.foldlFst | refine State.Sound.ofPair ?_ (by assumption) | split | dsimp only)

theorem State.startMarch_sound (h : s.Sound p) : ∀ x1, (State.startMarch s x1).Sound p := by
  intros
  unfold State.startMarch
  with_reducible repeat' (first | intro _ | assumption | apply State.modChan_sound | apply State.upTo_sound | apply State.marchRow_sound | apply State.Sound.foldl | apply State.Sound.ite | (apply State.Sound.mk' <;> first | rfl | assumption | apply State.modChan_sound | apply State.upTo_sound | apply State.marchRow_sound | apply State.Sound.ite | apply State.Sound.foldl | refine State.Sound.ofPair ?_ (by assumption) | split) | apply State.Sound.foldlFst | refine State.Sound.ofPair ?_ (by assumption) | split | dsimp only)

theorem State.stopMarch_sound (h : s.Sound p) : ∀ x1, (State.stopMarch s x1).Sound p := by
  intros
  unfold State.stopMarch
  with_reducible repeat' (first | intro _ | assumption | apply State.modChan_sound | apply State.Sound.foldl | apply State.Sound.ite | (apply State.Sound.mk' <;> first | rfl | assumption | apply State.modChan_sound | apply State.Sound.ite | apply State.Sound.foldl | refine State.Sound.ofPair ?_ (by assumption) | split) | apply State.Sound.foldlFst | refine State.Sound.ofPair ?_ (by assumption) | split | dsimp only)

/-! ### Integrity -/

theorem State.listRetest_sound (h : s.Sound p) : ∀ x1 x2 x3, (State.listRetest s x1 x2 x3).Sound p := by
  intros
  unfold State.listRetest
  with_reducible repeat' (first | intro _ | assumption | apply State.bump_sound | apply State.modChan_sound | apply State.Sound.foldl | apply State.Sound.ite | (apply State.Sound.mk' <;> first | rfl | assumption | apply State.bump_sound | apply State.modChan_sound | apply State.Sound.ite | apply State.Sound.foldl | refine State.Sound.ofPair ?_ (by assumption) | split) | apply State.Sound.foldlFst | refine State.Sound.ofPair ?_ (by assumption) | split | dsimp only)

theorem State.raiseTiles_sound (h : s.Sound p) : ∀ x1 x2 x3 x4 x5 x6 x7 x8, (State.raiseTiles s x1 x2 x3 x4 x5 x6 x7 x8).Sound p := by
  intros
  unfold State.raiseTiles
  with_reducible repeat' (first | intro _ | assumption | apply State.raise_sound | apply State.bump_sound | apply State.Sound.foldl | apply State.Sound.ite | (apply State.Sound.mk' <;> first | rfl | assumption | apply State.raise_sound | apply State.bump_sound | apply State.Sound.ite | apply State.Sound.foldl | refine State.Sound.ofPair ?_ (by assumption) | split) | apply State.Sound.foldlFst | refine State.Sound.ofPair ?_ (by assumption) | split | dsimp only)

theorem State.rewrite_sound (h : s.Sound p) : ∀ x1 x2 x3 x4 x5 x6, (State.rewrite s x1 x2 x3 x4 x5 x6).Sound p := by
  intros
  unfold State.rewrite
  with_reducible repeat' (first | intro _ | assumption | apply State.bump_sound | apply State.modChan_sound | apply State.pushPrio_sound | apply State.Sound.foldl | apply State.Sound.ite | (apply State.Sound.mk' <;> first | rfl | assumption | apply State.bump_sound | apply State.modChan_sound | apply State.pushPrio_sound | apply State.Sound.ite | apply State.Sound.foldl | refine State.Sound.ofPair ?_ (by assumption) | split) | apply State.Sound.foldlFst | refine State.Sound.ofPair ?_ (by assumption) | split | dsimp only)

theorem State.lineFinal_sound (h : s.Sound p) : ∀ x1 x2 x3 x4, (State.lineFinal s x1 x2 x3 x4).Sound p := by
  intros
  unfold State.lineFinal
  with_reducible repeat' (first | intro _ | assumption | apply State.closeEnt_sound | apply State.modLine_sound | apply State.Sound.foldl | apply State.Sound.ite | (apply State.Sound.mk' <;> first | rfl | assumption | apply State.closeEnt_sound | apply State.modLine_sound | apply State.Sound.ite | apply State.Sound.foldl | refine State.Sound.ofPair ?_ (by assumption) | split) | apply State.Sound.foldlFst | refine State.Sound.ofPair ?_ (by assumption) | split | dsimp only)

theorem State.hostLine_sound (h : s.Sound p) : ∀ x1 x2 x3 x4, (State.hostLine s x1 x2 x3 x4).Sound p := by
  intros
  unfold State.hostLine
  with_reducible repeat' (first | intro _ | assumption | apply State.raiseTiles_sound | apply State.listRetest_sound | apply State.raise_sound | apply State.bump_sound | apply State.rewrite_sound | apply State.lineFinal_sound | apply State.Sound.foldl | apply State.Sound.ite | (apply State.Sound.mk' <;> first | rfl | assumption | apply State.raiseTiles_sound | apply State.listRetest_sound | apply State.raise_sound | apply State.bump_sound | apply State.rewrite_sound | apply State.lineFinal_sound | apply State.Sound.ite | apply State.Sound.foldl | refine State.Sound.ofPair ?_ (by assumption) | split) | apply State.Sound.foldlFst | refine State.Sound.ofPair ?_ (by assumption) | split | dsimp only)

theorem State.rmwLine_sound (h : s.Sound p) : ∀ x1 x2 x3 x4, (State.rmwLine s x1 x2 x3 x4).Sound p := by
  intros
  unfold State.rmwLine
  with_reducible repeat' (first | intro _ | assumption | apply State.modChan_sound | apply State.raiseTiles_sound | apply State.listRetest_sound | apply State.raise_sound | apply State.rewrite_sound | apply State.lineFinal_sound | apply State.bump_sound | apply State.modLine_sound | apply State.pushPrio_sound | apply State.Sound.foldl | apply State.Sound.ite | (apply State.Sound.mk' <;> first | rfl | assumption | apply State.modChan_sound | apply State.raiseTiles_sound | apply State.listRetest_sound | apply State.raise_sound | apply State.rewrite_sound | apply State.lineFinal_sound | apply State.bump_sound | apply State.modLine_sound | apply State.pushPrio_sound | apply State.Sound.ite | apply State.Sound.foldl | refine State.Sound.ofPair ?_ (by assumption) | split) | apply State.Sound.foldlFst | refine State.Sound.ofPair ?_ (by assumption) | split | dsimp only)

theorem State.gangLine_sound (h : s.Sound p) : ∀ x1 x2 x3 x4, (State.gangLine s x1 x2 x3 x4).Sound p := by
  intros
  unfold State.gangLine
  with_reducible repeat' (first | intro _ | assumption | apply State.raiseTiles_sound | apply State.listRetest_sound | apply State.rewrite_sound | apply State.Sound.foldl | apply State.Sound.ite | (apply State.Sound.mk' <;> first | rfl | assumption | apply State.raiseTiles_sound | apply State.listRetest_sound | apply State.rewrite_sound | apply State.Sound.ite | apply State.Sound.foldl | refine State.Sound.ofPair ?_ (by assumption) | split) | apply State.Sound.foldlFst | refine State.Sound.ofPair ?_ (by assumption) | split | dsimp only)

theorem State.modRt_sound (h : s.Sound p) : ∀ x1 x2, (State.modRt s x1 x2).Sound p := by
  intros
  unfold State.modRt
  with_reducible repeat' (first | intro _ | assumption | apply State.modChan_sound | apply State.Sound.foldl | apply State.Sound.ite | (apply State.Sound.mk' <;> first | rfl | assumption | apply State.modChan_sound | apply State.Sound.ite | apply State.Sound.foldl | refine State.Sound.ofPair ?_ (by assumption) | split) | apply State.Sound.foldlFst | refine State.Sound.ofPair ?_ (by assumption) | split | dsimp only)

theorem State.nextTestRow_sound (h : s.Sound p) : ∀ x1 x2, (State.nextTestRow s x1 x2).Sound p := by
  intros
  unfold State.nextTestRow
  with_reducible repeat' (first | intro _ | assumption | apply State.setFld_sound | apply State.bump_sound | apply State.endChTest_sound | apply State.Sound.foldl | apply State.Sound.ite | (apply State.Sound.mk' <;> first | rfl | assumption | apply State.setFld_sound | apply State.bump_sound | apply State.endChTest_sound | apply State.Sound.ite | apply State.Sound.foldl | refine State.Sound.ofPair ?_ (by assumption) | split) | apply State.Sound.foldlFst | refine State.Sound.ofPair ?_ (by assumption) | split | dsimp only)

theorem State.endRetest_sound (h : s.Sound p) : ∀ x1 x2, (State.endRetest s x1 x2).Sound p := by
  intros
  unfold State.endRetest
  with_reducible repeat' (first | intro _ | assumption | apply State.modChan_sound | apply State.bump_sound | apply State.raise_sound | apply State.passRow_sound | apply State.nextTestRow_sound | apply State.reside_sound | apply State.Sound.foldl | apply State.Sound.ite | (apply State.Sound.mk' <;> first | rfl | assumption | apply State.modChan_sound | apply State.bump_sound | apply State.raise_sound | apply State.passRow_sound | apply State.nextTestRow_sound | apply State.reside_sound | apply State.Sound.ite | apply State.Sound.foldl | refine State.Sound.ofPair ?_ (by assumption) | split) | apply State.Sound.foldlFst | refine State.Sound.ofPair ?_ (by assumption) | split | dsimp only)

theorem State.retestPass_sound (h : s.Sound p) : ∀ x1 x2, (State.retestPass s x1 x2).Sound p := by
  intros
  unfold State.retestPass
  with_reducible repeat' (first | intro _ | assumption | apply State.bump_sound | apply State.raise_sound | apply State.pushRow_sound | apply State.modRt_sound | apply State.Sound.foldl | apply State.Sound.ite | (apply State.Sound.mk' <;> first | rfl | assumption | apply State.bump_sound | apply State.raise_sound | apply State.pushRow_sound | apply State.modRt_sound | apply State.Sound.ite | apply State.Sound.foldl | refine State.Sound.ofPair ?_ (by assumption) | split) | apply State.Sound.foldlFst | refine State.Sound.ofPair ?_ (by assumption) | split | dsimp only)

theorem State.retestStep_sound (h : s.Sound p) : ∀ x1, (State.retestStep s x1).Sound p := by
  intros
  unfold State.retestStep
  with_reducible repeat' (first | intro _ | assumption | apply State.modRt_sound | apply State.retestPass_sound | apply State.pushRow_sound | apply State.endRetest_sound | apply State.Sound.foldl | apply State.Sound.ite | (apply State.Sound.mk' <;> first | rfl | assumption | apply State.modRt_sound | apply State.retestPass_sound | apply State.pushRow_sound | apply State.endRetest_sound | apply State.Sound.ite | apply State.Sound.foldl | refine State.Sound.ofPair ?_ (by assumption) | split) | apply State.Sound.foldlFst | refine State.Sound.ofPair ?_ (by assumption) | split | dsimp only)

theorem State.modMig_sound (h : s.Sound p) : ∀ x1 x2, (State.modMig s x1 x2).Sound p := by
  intros
  unfold State.modMig
  with_reducible repeat' (first | intro _ | assumption | apply State.modChan_sound | apply State.Sound.foldl | apply State.Sound.ite | (apply State.Sound.mk' <;> first | rfl | assumption | apply State.modChan_sound | apply State.Sound.ite | apply State.Sound.foldl | refine State.Sound.ofPair ?_ (by assumption) | split) | apply State.Sound.foldlFst | refine State.Sound.ofPair ?_ (by assumption) | split | dsimp only)

theorem State.rerow_sound (h : s.Sound p) : ∀ x1 x2, (State.rerow s x1 x2).Sound p := by
  intros
  unfold State.rerow
  with_reducible repeat' (first | intro _ | assumption | apply State.modChan_sound | apply State.Sound.foldl | apply State.Sound.ite | (apply State.Sound.mk' <;> first | rfl | assumption | apply State.modChan_sound | apply State.Sound.ite | apply State.Sound.foldl | refine State.Sound.ofPair ?_ (by assumption) | split) | apply State.Sound.foldlFst | refine State.Sound.ofPair ?_ (by assumption) | split | dsimp only)

theorem State.migPlace_sound (h : s.Sound p) : ∀ x1 x2, (State.migPlace s x1 x2).Sound p := by
  intros
  unfold State.migPlace
  with_reducible repeat' (first | intro _ | assumption | apply State.sendRep_sound | apply State.modMig_sound | apply State.pushRow_sound | apply State.Sound.foldl | apply State.Sound.ite | (apply State.Sound.mk' <;> first | rfl | assumption | apply State.sendRep_sound | apply State.modMig_sound | apply State.pushRow_sound | apply State.Sound.ite | apply State.Sound.foldl | refine State.Sound.ofPair ?_ (by assumption) | split) | apply State.Sound.foldlFst | refine State.Sound.ofPair ?_ (by assumption) | split | dsimp only)

theorem State.migNext_sound (h : s.Sound p) : ∀ x1 x2 x3, (State.migNext s x1 x2 x3).Sound p := by
  intros
  unfold State.migNext
  with_reducible repeat' (first | intro _ | assumption | apply State.markBad_sound | apply State.checkBudgets_sound | apply State.repSet_sound | apply State.migPlace_sound | apply State.repDel_sound | apply State.modChan_sound | apply State.exhausted_sound | apply State.reside_sound | apply State.rerow_sound | apply State.Sound.foldl | apply State.Sound.ite | (apply State.Sound.mk' <;> first | rfl | assumption | apply State.markBad_sound | apply State.checkBudgets_sound | apply State.repSet_sound | apply State.migPlace_sound | apply State.repDel_sound | apply State.modChan_sound | apply State.exhausted_sound | apply State.reside_sound | apply State.rerow_sound | apply State.Sound.ite | apply State.Sound.foldl | refine State.Sound.ofPair ?_ (by assumption) | split) | apply State.Sound.foldlFst | refine State.Sound.ofPair ?_ (by assumption) | split | dsimp only)

theorem State.migDone_sound (h : s.Sound p) : ∀ x1 x2, (State.migDone s x1 x2).Sound p := by
  intros
  unfold State.migDone
  with_reducible repeat' (first | intro _ | assumption | apply State.repSet_sound | apply State.noteGroups_sound | apply State.bump_sound | apply State.modChan_sound | apply State.raise_sound | apply State.reside_sound | apply State.rerow_sound | apply State.checkBudgets_sound | apply State.Sound.foldl | apply State.Sound.ite | (apply State.Sound.mk' <;> first | rfl | assumption | apply State.repSet_sound | apply State.noteGroups_sound | apply State.bump_sound | apply State.modChan_sound | apply State.raise_sound | apply State.reside_sound | apply State.rerow_sound | apply State.checkBudgets_sound | apply State.Sound.ite | apply State.Sound.foldl | refine State.Sound.ofPair ?_ (by assumption) | split) | apply State.Sound.foldlFst | refine State.Sound.ofPair ?_ (by assumption) | split | dsimp only)

theorem State.migReadBack_sound (h : s.Sound p) : ∀ x1 x2, (State.migReadBack s x1 x2).Sound p := by
  intros
  unfold State.migReadBack
  with_reducible repeat' (first | intro _ | assumption | apply State.pushRow_sound | apply State.modMig_sound | apply State.Sound.foldl | apply State.Sound.ite | (apply State.Sound.mk' <;> first | rfl | assumption | apply State.pushRow_sound | apply State.modMig_sound | apply State.Sound.ite | apply State.Sound.foldl | refine State.Sound.ofPair ?_ (by assumption) | split) | apply State.Sound.foldlFst | refine State.Sound.ofPair ?_ (by assumption) | split | dsimp only)

theorem State.migStep_sound (h : s.Sound p) : ∀ x1, (State.migStep s x1).Sound p := by
  intros
  unfold State.migStep
  with_reducible repeat' (first | intro _ | assumption | apply State.modMig_sound | apply State.migPlace_sound | apply State.migReadBack_sound | apply State.migNext_sound | apply State.migDone_sound | apply State.Sound.foldl | apply State.Sound.ite | (apply State.Sound.mk' <;> first | rfl | assumption | apply State.modMig_sound | apply State.migPlace_sound | apply State.migReadBack_sound | apply State.migNext_sound | apply State.migDone_sound | apply State.Sound.ite | apply State.Sound.foldl | refine State.Sound.ofPair ?_ (by assumption) | split) | apply State.Sound.foldlFst | refine State.Sound.ofPair ?_ (by assumption) | split | dsimp only)

theorem State.migSrep_sound (h : s.Sound p) : ∀ x1 x2, (State.migSrep s x1 x2).Sound p := by
  intros
  unfold State.migSrep
  with_reducible repeat' (first | intro _ | assumption | apply State.migNext_sound | apply State.pushRow_sound | apply State.modMig_sound | apply State.Sound.foldl | apply State.Sound.ite | (apply State.Sound.mk' <;> first | rfl | assumption | apply State.migNext_sound | apply State.pushRow_sound | apply State.modMig_sound | apply State.Sound.ite | apply State.Sound.foldl | refine State.Sound.ofPair ?_ (by assumption) | split) | apply State.Sound.foldlFst | refine State.Sound.ofPair ?_ (by assumption) | split | dsimp only)

theorem State.migTick_sound (h : s.Sound p) : ∀ x1, (State.migTick s x1).Sound p := by
  intros
  unfold State.migTick
  with_reducible repeat' (first | intro _ | assumption | apply State.migReadBack_sound | apply State.repSet_sound | apply State.Sound.foldl | apply State.Sound.ite | (apply State.Sound.mk' <;> first | rfl | assumption | apply State.migReadBack_sound | apply State.repSet_sound | apply State.Sound.ite | apply State.Sound.foldl | refine State.Sound.ofPair ?_ (by assumption) | split) | apply State.Sound.foldlFst | refine State.Sound.ofPair ?_ (by assumption) | split | dsimp only)

theorem State.lineIn_sound (h : s.Sound p) : ∀ x1 x2 x3 x4, (State.lineIn s x1 x2 x3 x4).Sound p := by
  intros
  unfold State.lineIn
  with_reducible repeat' (first | intro _ | assumption | apply State.hostLine_sound | apply State.rmwLine_sound | apply State.gangLine_sound | apply State.retestStep_sound | apply State.modRt_sound | apply State.migStep_sound | apply State.modMig_sound | apply State.marchIn_sound | apply State.Sound.foldl | apply State.Sound.ite | (apply State.Sound.mk' <;> first | rfl | assumption | apply State.hostLine_sound | apply State.rmwLine_sound | apply State.gangLine_sound | apply State.retestStep_sound | apply State.modRt_sound | apply State.migStep_sound | apply State.modMig_sound | apply State.marchIn_sound | apply State.Sound.ite | apply State.Sound.foldl | refine State.Sound.ofPair ?_ (by assumption) | split) | apply State.Sound.foldlFst | refine State.Sound.ofPair ?_ (by assumption) | split | dsimp only)

theorem State.lineAcked_sound (h : s.Sound p) : ∀ x1 x2 x3, (State.lineAcked s x1 x2 x3).Sound p := by
  intros
  unfold State.lineAcked
  with_reducible repeat' (first | intro _ | assumption | apply State.lineFinal_sound | apply State.modChan_sound | apply State.retestStep_sound | apply State.migStep_sound | apply State.marchStep_sound | apply State.Sound.foldl | apply State.Sound.ite | (apply State.Sound.mk' <;> first | rfl | assumption | apply State.lineFinal_sound | apply State.modChan_sound | apply State.retestStep_sound | apply State.migStep_sound | apply State.marchStep_sound | apply State.Sound.ite | apply State.Sound.foldl | refine State.Sound.ofPair ?_ (by assumption) | split) | apply State.Sound.foldlFst | refine State.Sound.ofPair ?_ (by assumption) | split | dsimp only)

theorem State.openFill_sound (h : s.Sound p) : ∀ x1 x2, (State.openFill s x1 x2).Sound p := by
  intros
  unfold State.openFill
  with_reducible repeat' (first | intro _ | assumption | apply State.bump_sound | apply State.modChan_sound | apply State.modEnt_sound | apply State.pushPrio_sound | apply State.reside_sound | apply State.Sound.foldl | apply State.Sound.ite | (apply State.Sound.mk' <;> first | rfl | assumption | apply State.bump_sound | apply State.modChan_sound | apply State.modEnt_sound | apply State.pushPrio_sound | apply State.reside_sound | apply State.Sound.ite | apply State.Sound.foldl | refine State.Sound.ofPair ?_ (by assumption) | split) | apply State.Sound.foldlFst | refine State.Sound.ofPair ?_ (by assumption) | split | dsimp only)

theorem State.fillAcked_sound (h : s.Sound p) : ∀ x1 x2, (State.fillAcked s x1 x2).Sound p := by
  intros
  unfold State.fillAcked
  with_reducible repeat' (first | intro _ | assumption | apply State.modChan_sound | apply State.closeEnt_sound | apply State.modEnt_sound | apply State.Sound.foldl | apply State.Sound.ite | (apply State.Sound.mk' <;> first | rfl | assumption | apply State.modChan_sound | apply State.closeEnt_sound | apply State.modEnt_sound | apply State.Sound.ite | apply State.Sound.foldl | refine State.Sound.ofPair ?_ (by assumption) | split) | apply State.Sound.foldlFst | refine State.Sound.ofPair ?_ (by assumption) | split | dsimp only)

theorem State.fillTick_sound (h : s.Sound p) : ∀ x1, (State.fillTick s x1).Sound p := by
  intros
  unfold State.fillTick
  with_reducible repeat' (first | intro _ | assumption | apply State.setVbit_sound | apply State.reside_sound | apply State.modChan_sound | apply State.Sound.foldl | apply State.Sound.ite | (apply State.Sound.mk' <;> first | rfl | assumption | apply State.setVbit_sound | apply State.reside_sound | apply State.modChan_sound | apply State.Sound.ite | apply State.Sound.foldl | refine State.Sound.ofPair ?_ (by assumption) | split) | apply State.Sound.foldlFst | refine State.Sound.ofPair ?_ (by assumption) | split | dsimp only)

theorem State.mapCheck_sound (h : s.Sound p) : ∀ x1 x2, (State.mapCheck s x1 x2).Sound p := by
  intros
  unfold State.mapCheck
  with_reducible repeat' (first | intro _ | assumption | apply State.closeEnt_sound | apply State.modEnt_sound | apply State.openFill_sound | apply State.Sound.foldl | apply State.Sound.ite | (apply State.Sound.mk' <;> first | rfl | assumption | apply State.closeEnt_sound | apply State.modEnt_sound | apply State.openFill_sound | apply State.Sound.ite | apply State.Sound.foldl | refine State.Sound.ofPair ?_ (by assumption) | split) | apply State.Sound.foldlFst | refine State.Sound.ofPair ?_ (by assumption) | split | dsimp only)

theorem State.settle_sound (h : s.Sound p) : ∀ x1, (State.settle s x1).Sound p := by
  intros
  unfold State.settle
  with_reducible repeat' (first | intro _ | assumption | apply State.reside_sound | apply State.mapCheck_sound | apply State.Sound.foldl | apply State.Sound.ite | (apply State.Sound.mk' <;> first | rfl | assumption | apply State.reside_sound | apply State.mapCheck_sound | apply State.Sound.ite | apply State.Sound.foldl | refine State.Sound.ofPair ?_ (by assumption) | split) | apply State.Sound.foldlFst | refine State.Sound.ofPair ?_ (by assumption) | split | dsimp only)

/-! ### Faults -/

theorem execBulHoldoffEnd_sound (h : s.Sound p) : Out.Sound p (execBulHoldoffEnd s) := by
  unfold execBulHoldoffEnd
  with_reducible repeat' (first | intro _ | assumption | apply State.enqueueMask_sound | apply State.Sound.foldl | apply Out.Sound.next | apply State.Sound.ite | (apply State.Sound.mk' <;> first | rfl | assumption | apply State.enqueueMask_sound | apply State.Sound.ite | apply State.Sound.foldl | refine State.Sound.ofPair ?_ (by assumption) | split) | apply State.Sound.foldlFst | refine State.Sound.ofPair ?_ (by assumption) | split | dsimp only)

theorem execBrsWindowEnd_sound (h : s.Sound p) : Out.Sound p (execBrsWindowEnd s) := by
  unfold execBrsWindowEnd
  with_reducible repeat' (first | intro _ | assumption | apply State.Sound.foldl | apply Out.Sound.next | apply State.Sound.ite | (apply State.Sound.mk' <;> first | rfl | assumption | apply State.Sound.ite | apply State.Sound.foldl | refine State.Sound.ofPair ?_ (by assumption) | split) | apply State.Sound.foldlFst | refine State.Sound.ofPair ?_ (by assumption) | split | dsimp only)

theorem execCrsDue_sound (h : s.Sound p) : Out.Sound p (execCrsDue s) := by
  unfold execCrsDue
  with_reducible repeat' (first | intro _ | assumption | apply State.chipReset_sound | apply State.Sound.foldl | apply Out.Sound.next | apply State.Sound.ite | (apply State.Sound.mk' <;> first | rfl | assumption | apply State.chipReset_sound | apply State.Sound.ite | apply State.Sound.foldl | refine State.Sound.ofPair ?_ (by assumption) | split) | apply State.Sound.foldlFst | refine State.Sound.ofPair ?_ (by assumption) | split | dsimp only)

theorem execErrNHoldExpiry_sound (h : s.Sound p) : Out.Sound p (execErrNHoldExpiry s) := by
  unfold execErrNHoldExpiry
  with_reducible repeat' (first | intro _ | assumption | apply State.updErr_sound | apply State.Sound.foldl | apply Out.Sound.next | apply State.Sound.ite | (apply State.Sound.mk' <;> first | rfl | assumption | apply State.updErr_sound | apply State.Sound.ite | apply State.Sound.foldl | refine State.Sound.ofPair ?_ (by assumption) | split) | apply State.Sound.foldlFst | refine State.Sound.ofPair ?_ (by assumption) | split | dsimp only)

theorem State.contain_sound (h : s.Sound p) : ∀ x1, (State.contain s x1).Sound p := by
  intros
  unfold State.contain
  with_reducible repeat' (first | intro _ | assumption | apply State.clrFld_sound | apply State.setFld_sound | apply State.updErr_sound | apply State.Sound.foldl | apply State.Sound.ite | (apply State.Sound.mk' <;> first | rfl | assumption | apply State.clrFld_sound | apply State.setFld_sound | apply State.updErr_sound | apply State.Sound.ite | apply State.Sound.foldl | refine State.Sound.ofPair ?_ (by assumption) | split) | apply State.Sound.foldlFst | refine State.Sound.ofPair ?_ (by assumption) | split | dsimp only)

theorem State.voteCopies_sound (h : s.Sound p) : ∀ x1 x2 x3 x4, (State.voteCopies s x1 x2 x3 x4).Sound p := by
  intros
  unfold State.voteCopies
  with_reducible repeat' (first | intro _ | assumption | apply State.raise_sound | apply State.bump_sound | apply State.setFld_sound | apply State.contain_sound | apply State.Sound.foldl | apply State.Sound.ite | (apply State.Sound.mk' <;> first | rfl | assumption | apply State.raise_sound | apply State.bump_sound | apply State.setFld_sound | apply State.contain_sound | apply State.Sound.ite | apply State.Sound.foldl | refine State.Sound.ofPair ?_ (by assumption) | split) | apply State.Sound.foldlFst | refine State.Sound.ofPair ?_ (by assumption) | split | dsimp only)

theorem State.voteKey_sound (h : s.Sound p) : ∀ x1 x2, (State.voteKey s x1 x2).Sound p := by
  intros
  unfold State.voteKey
  with_reducible repeat' (first | intro _ | assumption | apply State.voteCopies_sound | apply State.Sound.foldl | apply State.Sound.ite | (apply State.Sound.mk' <;> first | rfl | assumption | apply State.voteCopies_sound | apply State.Sound.ite | apply State.Sound.foldl | refine State.Sound.ofPair ?_ (by assumption) | split) | apply State.Sound.foldlFst | refine State.Sound.ofPair ?_ (by assumption) | split | dsimp only)

theorem State.voteAll_sound (h : s.Sound p) : ∀ x1, (State.voteAll s x1).Sound p := by
  intros
  unfold State.voteAll
  with_reducible repeat' (first | intro _ | assumption | apply State.voteKey_sound | apply State.Sound.foldl | apply State.Sound.ite | (apply State.Sound.mk' <;> first | rfl | assumption | apply State.voteKey_sound | apply State.Sound.ite | apply State.Sound.foldl | refine State.Sound.ofPair ?_ (by assumption) | split) | apply State.Sound.foldlFst | refine State.Sound.ofPair ?_ (by assumption) | split | dsimp only)

theorem State.voteRegs_sound (h : s.Sound p) : ∀ x1, (State.voteRegs s x1).Sound p := by
  intros
  unfold State.voteRegs
  with_reducible repeat' (first | intro _ | assumption | apply State.voteKey_sound | apply State.Sound.foldl | apply State.Sound.ite | (apply State.Sound.mk' <;> first | rfl | assumption | apply State.voteKey_sound | apply State.Sound.ite | apply State.Sound.foldl | refine State.Sound.ofPair ?_ (by assumption) | split) | apply State.Sound.foldlFst | refine State.Sound.ofPair ?_ (by assumption) | split | dsimp only)

theorem State.agree_sound (h : s.Sound p) : ∀ x1, (State.agree s x1).Sound p := by
  intros
  unfold State.agree
  with_reducible repeat' (first | intro _ | assumption | apply State.Sound.foldl | apply State.Sound.ite | (apply State.Sound.mk' <;> first | rfl | assumption | apply State.Sound.ite | apply State.Sound.foldl | refine State.Sound.ofPair ?_ (by assumption) | split) | apply State.Sound.foldlFst | refine State.Sound.ofPair ?_ (by assumption) | split | dsimp only)

theorem execVoteSweep_sound (h : s.Sound p) : ∀ x0, Out.Sound p (execVoteSweep x0 s) := by
  intros
  unfold execVoteSweep
  with_reducible repeat' (first | intro _ | assumption | apply State.voteAll_sound | apply State.Sound.foldl | apply Out.Sound.next | apply State.Sound.ite | (apply State.Sound.mk' <;> first | rfl | assumption | apply State.voteAll_sound | apply State.Sound.ite | apply State.Sound.foldl | refine State.Sound.ofPair ?_ (by assumption) | split) | apply State.Sound.foldlFst | refine State.Sound.ofPair ?_ (by assumption) | split | dsimp only)

/-! ### Bandwidth -/

theorem State.gradeReq_sound (h : s.Sound p) : ∀ x1 x2 x3, (State.gradeReq s x1 x2 x3).1.Sound p := by
  intros
  unfold State.gradeReq
  with_reducible repeat' (first | intro _ | assumption | apply State.Sound.foldl | apply State.Sound.ite | (apply State.Sound.mk' <;> first | rfl | assumption | apply State.Sound.ite | apply State.Sound.foldl | refine State.Sound.ofPair ?_ (by assumption) | split) | apply State.Sound.foldlFst | refine State.Sound.ofPair ?_ (by assumption) | split | dsimp only)

theorem execAccountSlot_sound (h : s.Sound p) : Out.Sound p (execAccountSlot s) := by
  unfold execAccountSlot
  with_reducible repeat' (first | intro _ | assumption | apply State.Sound.foldl | apply Out.Sound.next | apply State.Sound.ite | (apply State.Sound.mk' <;> first | rfl | assumption | apply State.Sound.ite | apply State.Sound.foldl | refine State.Sound.ofPair ?_ (by assumption) | split) | apply State.Sound.foldlFst | refine State.Sound.ofPair ?_ (by assumption) | split | dsimp only)

theorem State.refill_sound (h : s.Sound p) : ∀ x1 x2 x3, (State.refill s x1 x2 x3).Sound p := by
  intros
  unfold State.refill
  with_reducible repeat' (first | intro _ | assumption | apply State.upTo_sound | apply State.setFld_sound | apply State.Sound.foldl | apply State.Sound.ite | (apply State.Sound.mk' <;> first | rfl | assumption | apply State.upTo_sound | apply State.setFld_sound | apply State.Sound.ite | apply State.Sound.foldl | refine State.Sound.ofPair ?_ (by assumption) | split) | apply State.Sound.foldlFst | refine State.Sound.ofPair ?_ (by assumption) | split | dsimp only)

theorem State.refillAll_sound (h : s.Sound p) : (State.refillAll s).Sound p := by
  unfold State.refillAll
  with_reducible repeat' (first | intro _ | assumption | apply State.setFld_sound | apply State.refill_sound | apply State.Sound.foldl | apply State.Sound.ite | (apply State.Sound.mk' <;> first | rfl | assumption | apply State.setFld_sound | apply State.refill_sound | apply State.Sound.ite | apply State.Sound.foldl | refine State.Sound.ofPair ?_ (by assumption) | split) | apply State.Sound.foldlFst | refine State.Sound.ofPair ?_ (by assumption) | split | dsimp only)

theorem State.countDeficit_sound (h : s.Sound p) : ∀ x1 x2, (State.countDeficit s x1 x2).Sound p := by
  intros
  unfold State.countDeficit
  with_reducible repeat' (first | intro _ | assumption | apply State.setFld_sound | apply State.bump_sound | apply State.Sound.foldl | apply State.Sound.ite | (apply State.Sound.mk' <;> first | rfl | assumption | apply State.setFld_sound | apply State.bump_sound | apply State.Sound.ite | apply State.Sound.foldl | refine State.Sound.ofPair ?_ (by assumption) | split) | apply State.Sound.foldlFst | refine State.Sound.ofPair ?_ (by assumption) | split | dsimp only)

theorem State.raiseDeficit_sound (h : s.Sound p) : ∀ x1 x2 x3, (State.raiseDeficit s x1 x2 x3).Sound p := by
  intros
  unfold State.raiseDeficit
  with_reducible repeat' (first | intro _ | assumption | apply State.raise_sound | apply State.Sound.foldl | apply State.Sound.ite | (apply State.Sound.mk' <;> first | rfl | assumption | apply State.raise_sound | apply State.Sound.ite | apply State.Sound.foldl | refine State.Sound.ofPair ?_ (by assumption) | split) | apply State.Sound.foldlFst | refine State.Sound.ofPair ?_ (by assumption) | split | dsimp only)

theorem execDeficitWindowEnd_sound (h : s.Sound p) : Out.Sound p (execDeficitWindowEnd s) := by
  unfold execDeficitWindowEnd
  with_reducible repeat' (first | intro _ | assumption | apply State.countDeficit_sound | apply State.raiseDeficit_sound | apply State.Sound.foldl | apply Out.Sound.next | apply State.Sound.ite | (apply State.Sound.mk' <;> first | rfl | assumption | apply State.countDeficit_sound | apply State.raiseDeficit_sound | apply State.Sound.ite | apply State.Sound.foldl | refine State.Sound.ofPair ?_ (by assumption) | split) | apply State.Sound.foldlFst | refine State.Sound.ofPair ?_ (by assumption) | split | dsimp only)

end Sys2Proof.Machine
end

