-- ==== Sys2Proof/Laws/SoundE.lean ====
section
/-! SUPPORT. The queue and the invariant through every operation of Thermal, Image, Sched. -/
namespace Sys2Proof.Machine

set_option linter.all false

variable {p : List Instr × Prop} {s : State}

/-! ### Thermal -/

theorem State.sample14_sound (h : s.Sound p) : ∀ x1, (State.sample14 s x1).2.Sound p := by
  intros
  unfold State.sample14
  with_reducible repeat' (first | intro _ | assumption | apply State.freeBelow_sound | apply State.Sound.foldl | apply State.Sound.ite | (apply State.Sound.mk' <;> first | rfl | assumption | apply State.freeBelow_sound | apply State.Sound.ite | apply State.Sound.foldl | refine State.Sound.ofPair ?_ (by assumption) | split) | apply State.Sound.foldlFst | apply State.Sound.foldlSnd | refine State.Sound.ofPair ?_ (by assumption) | refine State.Sound.ofPair2 ?_ (by assumption) | split | dsimp only)

theorem State.baseSample_sound (h : s.Sound p) : ∀ x1 x2, (State.baseSample s x1 x2).Sound p := by
  intros
  unfold State.baseSample
  with_reducible repeat' (first | intro _ | assumption | apply State.setFlag_sound | apply State.setFld_sound | apply State.raise_sound | apply State.bump_sound | apply State.Sound.foldl | apply State.Sound.ite | (apply State.Sound.mk' <;> first | rfl | assumption | apply State.setFlag_sound | apply State.setFld_sound | apply State.raise_sound | apply State.bump_sound | apply State.Sound.ite | apply State.Sound.foldl | refine State.Sound.ofPair ?_ (by assumption) | split) | apply State.Sound.foldlFst | refine State.Sound.ofPair ?_ (by assumption) | split | dsimp only)

theorem State.setTherm_sound (h : s.Sound p) : ∀ x1, (State.setTherm s x1).Sound p := by
  intros
  unfold State.setTherm
  with_reducible repeat' (first | intro _ | assumption | apply State.setFlag_sound | apply State.Sound.foldl | apply State.Sound.ite | (apply State.Sound.mk' <;> first | rfl | assumption | apply State.setFlag_sound | apply State.Sound.ite | apply State.Sound.foldl | refine State.Sound.ofPair ?_ (by assumption) | split) | apply State.Sound.foldlFst | refine State.Sound.ofPair ?_ (by assumption) | split | dsimp only)

theorem State.baseOver_sound (h : s.Sound p) : (State.baseOver s).Sound p := by
  unfold State.baseOver
  with_reducible repeat' (first | intro _ | assumption | apply State.setFlag_sound | apply State.raise_sound | apply State.setTherm_sound | apply State.Sound.foldl | apply State.Sound.ite | (apply State.Sound.mk' <;> first | rfl | assumption | apply State.setFlag_sound | apply State.raise_sound | apply State.setTherm_sound | apply State.Sound.ite | apply State.Sound.foldl | refine State.Sound.ofPair ?_ (by assumption) | split) | apply State.Sound.foldlFst | refine State.Sound.ofPair ?_ (by assumption) | split | dsimp only)

theorem State.railSamples_sound (h : s.Sound p) : ∀ x1, (State.railSamples s x1).Sound p := by
  intros
  unfold State.railSamples
  with_reducible repeat' (first | intro _ | assumption | apply State.setFld_sound | apply State.raise_sound | apply State.Sound.foldl | apply State.Sound.ite | (apply State.Sound.mk' <;> first | rfl | assumption | apply State.setFld_sound | apply State.raise_sound | apply State.Sound.ite | apply State.Sound.foldl | refine State.Sound.ofPair ?_ (by assumption) | split) | apply State.Sound.foldlFst | refine State.Sound.ofPair ?_ (by assumption) | split | dsimp only)

theorem State.poll_sound (h : s.Sound p) : (State.poll s).Sound p := by
  unfold State.poll
  with_reducible repeat' (first | intro _ | assumption | apply State.setFld_sound | apply State.modThm_sound | apply State.sendCfg_sound | apply State.Sound.foldl | apply State.Sound.ite | (apply State.Sound.mk' <;> first | rfl | assumption | apply State.setFld_sound | apply State.modThm_sound | apply State.sendCfg_sound | apply State.Sound.ite | apply State.Sound.foldl | refine State.Sound.ofPair ?_ (by assumption) | split) | apply State.Sound.foldlFst | refine State.Sound.ofPair ?_ (by assumption) | split | dsimp only)

theorem State.coreSensor_sound (h : s.Sound p) : ∀ x1 x2 x3, (State.coreSensor s x1 x2 x3).Sound p := by
  intros
  unfold State.coreSensor
  with_reducible repeat' (first | intro _ | assumption | apply State.modThm_sound | apply State.raise_sound | apply State.bump_sound | apply State.Sound.foldl | apply State.Sound.ite | (apply State.Sound.mk' <;> first | rfl | assumption | apply State.modThm_sound | apply State.raise_sound | apply State.bump_sound | apply State.Sound.ite | apply State.Sound.foldl | refine State.Sound.ofPair ?_ (by assumption) | split) | apply State.Sound.foldlFst | refine State.Sound.ofPair ?_ (by assumption) | split | dsimp only)

theorem State.tempPoll_sound (h : s.Sound p) : ∀ x1 x2, (State.tempPoll s x1 x2).Sound p := by
  intros
  unfold State.tempPoll
  with_reducible repeat' (first | intro _ | assumption | apply State.coreSensor_sound | apply State.modThm_sound | apply State.setFlag_sound | apply State.setFld_sound | apply State.Sound.foldl | apply State.Sound.ite | (apply State.Sound.mk' <;> first | rfl | assumption | apply State.coreSensor_sound | apply State.modThm_sound | apply State.setFlag_sound | apply State.setFld_sound | apply State.Sound.ite | apply State.Sound.foldl | refine State.Sound.ofPair ?_ (by assumption) | split) | apply State.Sound.foldlFst | refine State.Sound.ofPair ?_ (by assumption) | split | dsimp only)

theorem State.witness_sound (h : s.Sound p) : ∀ x1 x2, (State.witness s x1 x2).Sound p := by
  intros
  unfold State.witness
  with_reducible repeat' (first | intro _ | assumption | apply State.modThm_sound | apply State.divFree_sound | apply State.sample14_sound | apply State.setFld_sound | apply State.Sound.foldl | apply State.Sound.ite | (apply State.Sound.mk' <;> first | rfl | assumption | apply State.modThm_sound | apply State.divFree_sound | apply State.sample14_sound | apply State.setFld_sound | apply State.Sound.ite | apply State.Sound.foldl | refine State.Sound.ofPair ?_ (by assumption) | split) | apply State.Sound.foldlFst | refine State.Sound.ofPair ?_ (by assumption) | refine State.Sound.ofPair2 ?_ (by assumption) | split | dsimp only)

theorem State.setWitRef_sound (h : s.Sound p) : ∀ x1 x2 x3, (State.setWitRef s x1 x2 x3).Sound p := by
  intros
  unfold State.setWitRef
  with_reducible repeat' (first | intro _ | assumption | apply State.setFld_sound | apply State.Sound.foldl | apply State.Sound.ite | (apply State.Sound.mk' <;> first | rfl | assumption | apply State.setFld_sound | apply State.Sound.ite | apply State.Sound.foldl | refine State.Sound.ofPair ?_ (by assumption) | split) | apply State.Sound.foldlFst | refine State.Sound.ofPair ?_ (by assumption) | split | dsimp only)

theorem State.modelNew_sound (h : s.Sound p) : ∀ x1 x2, (State.modelNew s x1 x2).2.Sound p := by
  intros
  unfold State.modelNew
  with_reducible repeat' (first | intro _ | assumption | apply State.divFree_sound | apply State.Sound.foldl | apply State.Sound.ite | (apply State.Sound.mk' <;> first | rfl | assumption | apply State.divFree_sound | apply State.Sound.ite | apply State.Sound.foldl | refine State.Sound.ofPair ?_ (by assumption) | split) | apply State.Sound.foldlFst | apply State.Sound.foldlSnd | refine State.Sound.ofPair ?_ (by assumption) | refine State.Sound.ofPair2 ?_ (by assumption) | split | dsimp only)

theorem State.showModel_sound (h : s.Sound p) : ∀ x1, (State.showModel s x1).Sound p := by
  intros
  unfold State.showModel
  with_reducible repeat' (first | intro _ | assumption | apply State.divFree_sound | apply State.sample14_sound | apply State.setFld_sound | apply State.Sound.foldl | apply State.Sound.ite | (apply State.Sound.mk' <;> first | rfl | assumption | apply State.divFree_sound | apply State.sample14_sound | apply State.setFld_sound | apply State.Sound.ite | apply State.Sound.foldl | refine State.Sound.ofPair ?_ (by assumption) | split) | apply State.Sound.foldlFst | refine State.Sound.ofPair ?_ (by assumption) | refine State.Sound.ofPair2 ?_ (by assumption) | split | dsimp only)

theorem State.modelStep_sound (h : s.Sound p) : (State.modelStep s).Sound p := by
  unfold State.modelStep
  with_reducible repeat' (first | intro _ | assumption | apply State.upTo_sound | apply State.setFld_sound | apply State.modelNew_sound | apply State.modThm_sound | apply State.showModel_sound | apply State.Sound.foldl | apply State.Sound.ite | (apply State.Sound.mk' <;> first | rfl | assumption | apply State.upTo_sound | apply State.setFld_sound | apply State.modelNew_sound | apply State.modThm_sound | apply State.showModel_sound | apply State.Sound.ite | apply State.Sound.foldl | refine State.Sound.ofPair ?_ (by assumption) | split) | apply State.Sound.foldlFst | refine State.Sound.ofPair ?_ (by assumption) | refine State.Sound.ofPair2 ?_ (by assumption) | split | dsimp only)

theorem State.disagree_sound (h : s.Sound p) : ∀ x1, (State.disagree s x1).Sound p := by
  intros
  unfold State.disagree
  with_reducible repeat' (first | intro _ | assumption | apply State.modThm_sound | apply State.setFlag_sound | apply State.raise_sound | apply State.bump_sound | apply State.Sound.foldl | apply State.Sound.ite | (apply State.Sound.mk' <;> first | rfl | assumption | apply State.modThm_sound | apply State.setFlag_sound | apply State.raise_sound | apply State.bump_sound | apply State.Sound.ite | apply State.Sound.foldl | refine State.Sound.ofPair ?_ (by assumption) | split) | apply State.Sound.foldlFst | refine State.Sound.ofPair ?_ (by assumption) | split | dsimp only)

theorem State.refreshRate_sound (h : s.Sound p) : ∀ x1, (State.refreshRate s x1).Sound p := by
  intros
  unfold State.refreshRate
  with_reducible repeat' (first | intro _ | assumption | apply State.modThm_sound | apply State.raise_sound | apply State.Sound.foldl | apply State.Sound.ite | (apply State.Sound.mk' <;> first | rfl | assumption | apply State.modThm_sound | apply State.raise_sound | apply State.Sound.ite | apply State.Sound.foldl | refine State.Sound.ofPair ?_ (by assumption) | split) | apply State.Sound.foldlFst | refine State.Sound.ofPair ?_ (by assumption) | split | dsimp only)

theorem State.throttle_sound (h : s.Sound p) : ∀ x1, (State.throttle s x1).Sound p := by
  intros
  unfold State.throttle
  with_reducible repeat' (first | intro _ | assumption | apply State.setFld_sound | apply State.modThm_sound | apply State.raise_sound | apply State.bump_sound | apply State.Sound.foldl | apply State.Sound.ite | (apply State.Sound.mk' <;> first | rfl | assumption | apply State.setFld_sound | apply State.modThm_sound | apply State.raise_sound | apply State.bump_sound | apply State.Sound.ite | apply State.Sound.foldl | refine State.Sound.ofPair ?_ (by assumption) | split) | apply State.Sound.foldlFst | refine State.Sound.ofPair ?_ (by assumption) | split | dsimp only)

theorem State.stageThermal_sound (h : s.Sound p) : (State.stageThermal s).Sound p := by
  unfold State.stageThermal
  with_reducible repeat' (first | intro _ | assumption | apply State.setFlag_sound | apply State.atTick_sound | apply State.Sound.foldl | apply State.Sound.ite | (apply State.Sound.mk' <;> first | rfl | assumption | apply State.setFlag_sound | apply State.atTick_sound | apply State.Sound.ite | apply State.Sound.foldl | refine State.Sound.ofPair ?_ (by assumption) | split) | apply State.Sound.foldlFst | refine State.Sound.ofPair ?_ (by assumption) | split | dsimp only)

theorem execTelemetrySlot_sound (h : s.Sound p) : ∀ x0, Out.Sound p (execTelemetrySlot x0 s) := by
  intros
  unfold execTelemetrySlot
  with_reducible repeat' (first | intro _ | assumption | apply State.baseSample_sound | apply State.railSamples_sound | apply State.baseOver_sound | apply State.modelStep_sound | apply State.poll_sound | apply State.disagree_sound | apply State.refreshRate_sound | apply State.stageThermal_sound | apply State.throttle_sound | apply State.Sound.foldl | apply Out.Sound.next | apply State.Sound.ite | (apply State.Sound.mk' <;> first | rfl | assumption | apply State.baseSample_sound | apply State.railSamples_sound | apply State.baseOver_sound | apply State.modelStep_sound | apply State.poll_sound | apply State.disagree_sound | apply State.refreshRate_sound | apply State.stageThermal_sound | apply State.throttle_sound | apply State.Sound.ite | apply State.Sound.foldl | refine State.Sound.ofPair ?_ (by assumption) | split) | apply State.Sound.foldlFst | refine State.Sound.ofPair ?_ (by assumption) | split | dsimp only)

theorem State.avsStart_sound (h : s.Sound p) : ∀ x1, (State.avsStart s x1).Sound p := by
  intros
  unfold State.avsStart
  with_reducible repeat' (first | intro _ | assumption | apply State.Sound.foldl | apply State.Sound.ite | (apply State.Sound.mk' <;> first | rfl | assumption | apply State.Sound.ite | apply State.Sound.foldl | refine State.Sound.ofPair ?_ (by assumption) | split) | apply State.Sound.foldlFst | refine State.Sound.ofPair ?_ (by assumption) | split | dsimp only)

theorem State.avsNext_sound (h : s.Sound p) : (State.avsNext s).Sound p := by
  unfold State.avsNext
  with_reducible repeat' (first | intro _ | assumption | apply State.Sound.foldl | apply State.Sound.ite | (apply State.Sound.mk' <;> first | rfl | assumption | apply State.Sound.ite | apply State.Sound.foldl | refine State.Sound.ofPair ?_ (by assumption) | split) | apply State.Sound.foldlFst | refine State.Sound.ofPair ?_ (by assumption) | split | dsimp only)

theorem execAvsLoopPeriod_sound (h : s.Sound p) : ∀ x0, Out.Sound p (execAvsLoopPeriod x0 s) := by
  intros
  unfold execAvsLoopPeriod
  with_reducible repeat' (first | intro _ | assumption | apply State.setFld_sound | apply State.avsStart_sound | apply State.raise_sound | apply State.Sound.foldl | apply Out.Sound.next | apply State.Sound.ite | (apply State.Sound.mk' <;> first | rfl | assumption | apply State.setFld_sound | apply State.avsStart_sound | apply State.raise_sound | apply State.Sound.ite | apply State.Sound.foldl | refine State.Sound.ofPair ?_ (by assumption) | split) | apply State.Sound.foldlFst | refine State.Sound.ofPair ?_ (by assumption) | split | dsimp only)

theorem State.avsWritten_sound (h : s.Sound p) : ∀ x1 x2, (State.avsWritten s x1 x2).Sound p := by
  intros
  unfold State.avsWritten
  with_reducible repeat' (first | intro _ | assumption | apply State.setFld_sound | apply State.bump_sound | apply State.raise_sound | apply State.Sound.foldl | apply State.Sound.ite | (apply State.Sound.mk' <;> first | rfl | assumption | apply State.setFld_sound | apply State.bump_sound | apply State.raise_sound | apply State.Sound.ite | apply State.Sound.foldl | refine State.Sound.ofPair ?_ (by assumption) | split) | apply State.Sound.foldlFst | refine State.Sound.ofPair ?_ (by assumption) | split | dsimp only)

theorem State.avsRead_sound (h : s.Sound p) : ∀ x1, (State.avsRead s x1).Sound p := by
  intros
  unfold State.avsRead
  with_reducible repeat' (first | intro _ | assumption | apply State.setFld_sound | apply State.Sound.foldl | apply State.Sound.ite | (apply State.Sound.mk' <;> first | rfl | assumption | apply State.setFld_sound | apply State.Sound.ite | apply State.Sound.foldl | refine State.Sound.ofPair ?_ (by assumption) | split) | apply State.Sound.foldlFst | refine State.Sound.ofPair ?_ (by assumption) | split | dsimp only)

theorem execAvsOpComplete_sound (h : s.Sound p) : ∀ x0 x1, Out.Sound p (execAvsOpComplete x0 x1 s) := by
  intros
  unfold execAvsOpComplete
  with_reducible repeat' (first | intro _ | assumption | apply State.avsWritten_sound | apply State.avsRead_sound | apply State.setFld_sound | apply State.avsNext_sound | apply State.bump_sound | apply State.raise_sound | apply State.Sound.foldl | apply Out.Sound.next | apply State.Sound.ite | (apply State.Sound.mk' <;> first | rfl | assumption | apply State.avsWritten_sound | apply State.avsRead_sound | apply State.setFld_sound | apply State.avsNext_sound | apply State.bump_sound | apply State.raise_sound | apply State.Sound.ite | apply State.Sound.foldl | refine State.Sound.ofPair ?_ (by assumption) | split) | apply State.Sound.foldlFst | refine State.Sound.ofPair ?_ (by assumption) | split | dsimp only)

theorem execAvsRetryTimer_sound (h : s.Sound p) : Out.Sound p (execAvsRetryTimer s) := by
  unfold execAvsRetryTimer
  with_reducible repeat' (first | intro _ | assumption | apply State.setFld_sound | apply State.Sound.foldl | apply Out.Sound.next | apply State.Sound.ite | (apply State.Sound.mk' <;> first | rfl | assumption | apply State.setFld_sound | apply State.Sound.ite | apply State.Sound.foldl | refine State.Sound.ofPair ?_ (by assumption) | split) | apply State.Sound.foldlFst | refine State.Sound.ofPair ?_ (by assumption) | split | dsimp only)

theorem execAvsCurrentRead_sound (h : s.Sound p) : Out.Sound p (execAvsCurrentRead s) := by
  unfold execAvsCurrentRead
  with_reducible repeat' (first | intro _ | assumption | apply State.avsStart_sound | apply State.Sound.foldl | apply Out.Sound.next | apply State.Sound.ite | (apply State.Sound.mk' <;> first | rfl | assumption | apply State.avsStart_sound | apply State.Sound.ite | apply State.Sound.foldl | refine State.Sound.ofPair ?_ (by assumption) | split) | apply State.Sound.foldlFst | refine State.Sound.ofPair ?_ (by assumption) | split | dsimp only)

/-! ### Image -/

theorem State.applyEntry_sound (h : s.Sound p) : ∀ x1, (State.applyEntry s x1).Sound p := by
  intros
  unfold State.applyEntry
  with_reducible repeat' (first | intro _ | assumption | apply State.setFld_sound | apply State.Sound.foldl | apply State.Sound.ite | (apply State.Sound.mk' <;> first | rfl | assumption | apply State.setFld_sound | apply State.Sound.ite | apply State.Sound.foldl | refine State.Sound.ofPair ?_ (by assumption) | split) | apply State.Sound.foldlFst | refine State.Sound.ofPair ?_ (by assumption) | split | dsimp only)

theorem State.applyRecord_sound (h : s.Sound p) : ∀ x1, (State.applyRecord s x1).Sound p := by
  intros
  unfold State.applyRecord
  with_reducible repeat' (first | intro _ | assumption | apply State.applyEntry_sound | apply State.setFld_sound | apply State.Sound.foldl | apply State.Sound.ite | (apply State.Sound.mk' <;> first | rfl | assumption | apply State.applyEntry_sound | apply State.setFld_sound | apply State.Sound.ite | apply State.Sound.foldl | refine State.Sound.ofPair ?_ (by assumption) | split) | apply State.Sound.foldlFst | refine State.Sound.ofPair ?_ (by assumption) | split | dsimp only)

theorem State.applyImage_sound (h : s.Sound p) : ∀ x1 x2, (State.applyImage s x1 x2).Sound p := by
  intros
  unfold State.applyImage
  with_reducible repeat' (first | intro _ | assumption | apply State.applyRecord_sound | apply State.setFld_sound | apply State.raise_sound | apply State.Sound.foldl | apply State.Sound.ite | (apply State.Sound.mk' <;> first | rfl | assumption | apply State.applyRecord_sound | apply State.setFld_sound | apply State.raise_sound | apply State.Sound.ite | apply State.Sound.foldl | refine State.Sound.ofPair ?_ (by assumption) | split) | apply State.Sound.foldlFst | refine State.Sound.ofPair ?_ (by assumption) | split | dsimp only)

/-! ### Sched -/

theorem State.mileage_sound (h : s.Sound p) : ∀ x1 x2 x3, (State.mileage s x1 x2 x3).Sound p := by
  intros
  unfold State.mileage
  with_reducible repeat' (first | intro _ | assumption | apply State.bump_sound | apply State.modRef_sound | apply State.setFld_sound | apply State.raise_sound | apply State.Sound.foldl | apply State.Sound.ite | (apply State.Sound.mk' <;> first | rfl | assumption | apply State.bump_sound | apply State.modRef_sound | apply State.setFld_sound | apply State.raise_sound | apply State.Sound.ite | apply State.Sound.foldl | refine State.Sound.ofPair ?_ (by assumption) | split) | apply State.Sound.foldlFst | refine State.Sound.ofPair ?_ (by assumption) | split | dsimp only)

theorem State.flipTrain_sound (h : s.Sound p) : ∀ x1 x2, (State.flipTrain s x1 x2).1.Sound p := by
  intros
  unfold State.flipTrain
  with_reducible repeat' (first | intro _ | assumption | apply State.setFld_sound | apply State.Sound.foldl | apply State.Sound.ite | (apply State.Sound.mk' <;> first | rfl | assumption | apply State.setFld_sound | apply State.Sound.ite | apply State.Sound.foldl | refine State.Sound.ofPair ?_ (by assumption) | split) | apply State.Sound.foldlFst | refine State.Sound.ofPair ?_ (by assumption) | split | dsimp only)

theorem State.dueLines_sound (h : s.Sound p) : ∀ x1 x2 x3, (State.dueLines s x1 x2 x3).Sound p := by
  intros
  unfold State.dueLines
  with_reducible repeat' (first | intro _ | assumption | apply State.modLine_sound | apply State.Sound.foldl | apply State.Sound.ite | (apply State.Sound.mk' <;> first | rfl | assumption | apply State.modLine_sound | apply State.Sound.ite | apply State.Sound.foldl | refine State.Sound.ofPair ?_ (by assumption) | split) | apply State.Sound.foldlFst | refine State.Sound.ofPair ?_ (by assumption) | split | dsimp only)

theorem State.issueTrain_sound (h : s.Sound p) : ∀ x1 x2, (State.issueTrain s x1 x2).Sound p := by
  intros
  unfold State.issueTrain
  with_reducible repeat' (first | intro _ | assumption | apply State.flipTrain_sound | apply State.setChan_sound | apply State.launch_sound | apply State.modChan_sound | apply State.dueLines_sound | apply State.bump_sound | apply State.mileage_sound | apply State.Sound.foldl | apply State.Sound.ite | (apply State.Sound.mk' <;> first | rfl | assumption | apply State.flipTrain_sound | apply State.setChan_sound | apply State.launch_sound | apply State.modChan_sound | apply State.dueLines_sound | apply State.bump_sound | apply State.mileage_sound | apply State.Sound.ite | apply State.Sound.foldl | refine State.Sound.ofPair ?_ (by assumption) | split) | apply State.Sound.foldlFst | refine State.Sound.ofPair ?_ (by assumption) | split | dsimp only)

theorem State.markOut_sound (h : s.Sound p) : ∀ x1 x2, (State.markOut s x1 x2).Sound p := by
  intros
  unfold State.markOut
  with_reducible repeat' (first | intro _ | assumption | apply State.modLine_sound | apply State.modChan_sound | apply State.Sound.foldl | apply State.Sound.ite | (apply State.Sound.mk' <;> first | rfl | assumption | apply State.modLine_sound | apply State.modChan_sound | apply State.Sound.ite | apply State.Sound.foldl | refine State.Sound.ofPair ?_ (by assumption) | split) | apply State.Sound.foldlFst | refine State.Sound.ofPair ?_ (by assumption) | split | dsimp only)

theorem State.issueHost_sound (h : s.Sound p) : ∀ x1 x2, (State.issueHost s x1 x2).Sound p := by
  intros
  unfold State.issueHost
  with_reducible repeat' (first | intro _ | assumption | apply State.modChan_sound | apply State.issueTrain_sound | apply State.markOut_sound | apply State.Sound.foldl | apply State.Sound.ite | (apply State.Sound.mk' <;> first | rfl | assumption | apply State.modChan_sound | apply State.issueTrain_sound | apply State.markOut_sound | apply State.Sound.ite | apply State.Sound.foldl | refine State.Sound.ofPair ?_ (by assumption) | split) | apply State.Sound.foldlFst | refine State.Sound.ofPair ?_ (by assumption) | split | dsimp only)

theorem State.setPhase_sound (h : s.Sound p) : ∀ x1 x2, (State.setPhase s x1 x2).Sound p := by
  intros
  unfold State.setPhase
  with_reducible repeat' (first | intro _ | assumption | apply State.bump_sound | apply State.setFlag_sound | apply State.Sound.foldl | apply State.Sound.ite | (apply State.Sound.mk' <;> first | rfl | assumption | apply State.bump_sound | apply State.setFlag_sound | apply State.Sound.ite | apply State.Sound.foldl | refine State.Sound.ofPair ?_ (by assumption) | split) | apply State.Sound.foldlFst | refine State.Sound.ofPair ?_ (by assumption) | split | dsimp only)

theorem State.markElig_sound (h : s.Sound p) : ∀ x1 x2, (State.markElig s x1 x2).Sound p := by
  intros
  unfold State.markElig
  with_reducible repeat' (first | intro _ | assumption | apply State.modChan_sound | apply State.Sound.foldl | apply State.Sound.ite | (apply State.Sound.mk' <;> first | rfl | assumption | apply State.modChan_sound | apply State.Sound.ite | apply State.Sound.foldl | refine State.Sound.ofPair ?_ (by assumption) | split) | apply State.Sound.foldlFst | refine State.Sound.ofPair ?_ (by assumption) | split | dsimp only)

theorem State.issueHead_sound (h : s.Sound p) : ∀ x1 x2, (State.issueHead s x1 x2).Sound p := by
  intros
  unfold State.issueHead
  with_reducible repeat' (first | intro _ | assumption | apply State.issueHost_sound | apply State.modChan_sound | apply State.Sound.foldl | apply State.Sound.ite | (apply State.Sound.mk' <;> first | rfl | assumption | apply State.issueHost_sound | apply State.modChan_sound | apply State.Sound.ite | apply State.Sound.foldl | refine State.Sound.ofPair ?_ (by assumption) | split) | apply State.Sound.foldlFst | refine State.Sound.ofPair ?_ (by assumption) | split | dsimp only)

theorem State.windowEnd_sound (h : s.Sound p) : ∀ x1, (State.windowEnd s x1).Sound p := by
  intros
  unfold State.windowEnd
  with_reducible repeat' (first | intro _ | assumption | apply State.modRef_sound | apply State.setFld_sound | apply State.bump_sound | apply State.Sound.foldl | apply State.Sound.ite | (apply State.Sound.mk' <;> first | rfl | assumption | apply State.modRef_sound | apply State.setFld_sound | apply State.bump_sound | apply State.Sound.ite | apply State.Sound.foldl | refine State.Sound.ofPair ?_ (by assumption) | split) | apply State.Sound.foldlFst | refine State.Sound.ofPair ?_ (by assumption) | split | dsimp only)

theorem State.roundDone_sound (h : s.Sound p) : ∀ x1 x2, (State.roundDone s x1 x2).Sound p := by
  intros
  unfold State.roundDone
  with_reducible repeat' (first | intro _ | assumption | apply State.setFld_sound | apply State.bump_sound | apply State.modRef_sound | apply State.windowEnd_sound | apply State.modChan_sound | apply State.Sound.foldl | apply State.Sound.ite | (apply State.Sound.mk' <;> first | rfl | assumption | apply State.setFld_sound | apply State.bump_sound | apply State.modRef_sound | apply State.windowEnd_sound | apply State.modChan_sound | apply State.Sound.ite | apply State.Sound.foldl | refine State.Sound.ofPair ?_ (by assumption) | split) | apply State.Sound.foldlFst | refine State.Sound.ofPair ?_ (by assumption) | split | dsimp only)

theorem State.doRefb_sound (h : s.Sound p) : ∀ x1 x2 x3, (State.doRefb s x1 x2 x3).Sound p := by
  intros
  unfold State.doRefb
  with_reducible repeat' (first | intro _ | assumption | apply State.modRef_sound | apply State.refCmd_sound | apply State.roundDone_sound | apply State.Sound.foldl | apply State.Sound.ite | (apply State.Sound.mk' <;> first | rfl | assumption | apply State.modRef_sound | apply State.refCmd_sound | apply State.roundDone_sound | apply State.Sound.ite | apply State.Sound.foldl | refine State.Sound.ofPair ?_ (by assumption) | split) | apply State.Sound.foldlFst | refine State.Sound.ofPair ?_ (by assumption) | split | dsimp only)

theorem State.doNref_sound (h : s.Sound p) : ∀ x1 x2 x3, (State.doNref s x1 x2 x3).Sound p := by
  intros
  unfold State.doNref
  with_reducible repeat' (first | intro _ | assumption | apply State.refCmd_sound | apply State.bump_sound | apply State.modRef_sound | apply State.Sound.foldl | apply State.Sound.ite | (apply State.Sound.mk' <;> first | rfl | assumption | apply State.refCmd_sound | apply State.bump_sound | apply State.modRef_sound | apply State.Sound.ite | apply State.Sound.foldl | refine State.Sound.ofPair ?_ (by assumption) | split) | apply State.Sound.foldlFst | refine State.Sound.ofPair ?_ (by assumption) | split | dsimp only)

theorem State.issueOwed_sound (h : s.Sound p) : ∀ x1, (State.issueOwed s x1).Sound p := by
  intros
  unfold State.issueOwed
  with_reducible repeat' (first | intro _ | assumption | apply State.upTo_sound | apply State.doRefb_sound | apply State.doNref_sound | apply State.Sound.foldl | apply State.Sound.ite | (apply State.Sound.mk' <;> first | rfl | assumption | apply State.upTo_sound | apply State.doRefb_sound | apply State.doNref_sound | apply State.Sound.ite | apply State.Sound.foldl | refine State.Sound.ofPair ?_ (by assumption) | split) | apply State.Sound.foldlFst | refine State.Sound.ofPair ?_ (by assumption) | split | dsimp only)

theorem State.hardRefresh_sound (h : s.Sound p) : ∀ x1, ∀ t, State.hardRefresh s x1 = some t → t.Sound p := by
  intro x1 r e
  unfold State.hardRefresh at e
  try dsimp only at e
  repeat' split at e
  all_goals first | (injection e with e; subst e) | injection e
  all_goals with_reducible repeat' (first | intro _ | assumption | apply State.doRefb_sound | apply State.doNref_sound | apply State.closeBank_sound | apply State.Sound.foldl | apply State.Sound.ite | (apply State.Sound.mk' <;> first | rfl | assumption | apply State.doRefb_sound | apply State.doNref_sound | apply State.closeBank_sound | apply State.Sound.ite | apply State.Sound.foldl | refine State.Sound.ofPair ?_ (by assumption) | split) | apply State.Sound.foldlFst | refine State.Sound.ofPair ?_ (by assumption) | split | dsimp only)

theorem State.softRefresh_sound (h : s.Sound p) : ∀ x1 x2, ∀ t, State.softRefresh s x1 x2 = some t → t.Sound p := by
  intro x1 x2 r e
  unfold State.softRefresh at e
  try dsimp only at e
  repeat' split at e
  all_goals first | (injection e with e; subst e) | injection e
  all_goals with_reducible repeat' (first | intro _ | assumption | apply State.doRefb_sound | apply State.doNref_sound | apply State.Sound.foldl | apply State.Sound.ite | (apply State.Sound.mk' <;> first | rfl | assumption | apply State.doRefb_sound | apply State.doNref_sound | apply State.Sound.ite | apply State.Sound.foldl | refine State.Sound.ofPair ?_ (by assumption) | split) | apply State.Sound.foldlFst | refine State.Sound.ofPair ?_ (by assumption) | split | dsimp only)

theorem State.calLost_sound (h : s.Sound p) : ∀ x1, (State.calLost s x1).Sound p := by
  intros
  unfold State.calLost
  with_reducible repeat' (first | intro _ | assumption | apply State.modBund_sound | apply State.modChan_sound | apply State.bump_sound | apply State.Sound.foldl | apply State.Sound.ite | (apply State.Sound.mk' <;> first | rfl | assumption | apply State.modBund_sound | apply State.modChan_sound | apply State.bump_sound | apply State.Sound.ite | apply State.Sound.foldl | refine State.Sound.ofPair ?_ (by assumption) | split) | apply State.Sound.foldlFst | refine State.Sound.ofPair ?_ (by assumption) | split | dsimp only)

theorem State.doCcal_sound (h : s.Sound p) : ∀ x1, (State.doCcal s x1).Sound p := by
  intros
  unfold State.doCcal
  with_reducible repeat' (first | intro _ | assumption | apply State.calLost_sound | apply State.modChan_sound | apply State.launch_sound | apply State.modBund_sound | apply State.bump_sound | apply State.Sound.foldl | apply State.Sound.ite | (apply State.Sound.mk' <;> first | rfl | assumption | apply State.calLost_sound | apply State.modChan_sound | apply State.launch_sound | apply State.modBund_sound | apply State.bump_sound | apply State.Sound.ite | apply State.Sound.foldl | refine State.Sound.ofPair ?_ (by assumption) | split) | apply State.Sound.foldlFst | refine State.Sound.ofPair ?_ (by assumption) | split | dsimp only)

theorem State.gangNext_sound (h : s.Sound p) : ∀ x1, (State.gangNext s x1).Sound p := by
  intros
  unfold State.gangNext
  with_reducible repeat' (first | intro _ | assumption | apply State.setFld_sound | apply State.bump_sound | apply State.Sound.foldl | apply State.Sound.ite | (apply State.Sound.mk' <;> first | rfl | assumption | apply State.setFld_sound | apply State.bump_sound | apply State.Sound.ite | apply State.Sound.foldl | refine State.Sound.ofPair ?_ (by assumption) | split) | apply State.Sound.foldlFst | refine State.Sound.ofPair ?_ (by assumption) | split | dsimp only)

theorem State.gangIssue_sound (h : s.Sound p) : ∀ x1, (State.gangIssue s x1).Sound p := by
  intros
  unfold State.gangIssue
  with_reducible repeat' (first | intro _ | assumption | apply State.modChan_sound | apply State.gangNext_sound | apply State.issueTrain_sound | apply State.Sound.foldl | apply State.Sound.ite | (apply State.Sound.mk' <;> first | rfl | assumption | apply State.modChan_sound | apply State.gangNext_sound | apply State.issueTrain_sound | apply State.Sound.ite | apply State.Sound.foldl | refine State.Sound.ofPair ?_ (by assumption) | split) | apply State.Sound.foldlFst | refine State.Sound.ofPair ?_ (by assumption) | split | dsimp only)

theorem State.issueSoft_sound (h : s.Sound p) : ∀ x1 x2 x3, (State.issueSoft s x1 x2 x3).Sound p := by
  intro c E aged
  unfold State.issueSoft
  split
  · rename_i e
    split at e
    · exact State.softRefresh_sound h _ _ _ e
    · cases e
  · split
    · exact State.gangIssue_sound h _
    · exact h

theorem State.issueWork_sound (h : s.Sound p) : ∀ x1 x2, (State.issueWork s x1 x2).Sound p := by
  intros
  unfold State.issueWork
  with_reducible repeat' (first | intro _ | assumption | apply State.issueTrain_sound | apply State.modChan_sound | apply State.issueHead_sound | apply State.setPhase_sound | apply State.issueSoft_sound | apply State.Sound.foldl | apply State.Sound.ite | (apply State.Sound.mk' <;> first | rfl | assumption | apply State.issueTrain_sound | apply State.modChan_sound | apply State.issueHead_sound | apply State.setPhase_sound | apply State.issueSoft_sound | apply State.Sound.ite | apply State.Sound.foldl | refine State.Sound.ofPair ?_ (by assumption) | split) | apply State.Sound.foldlFst | refine State.Sound.ofPair ?_ (by assumption) | split | dsimp only)

theorem State.schedule_sound (h : s.Sound p) : ∀ x1, (State.schedule s x1).Sound p := by
  intros
  unfold State.schedule
  with_reducible repeat' (first | intro _ | assumption | apply State.sendSrx_sound | apply State.markElig_sound | apply State.issueHead_sound | apply State.modChan_sound | apply State.doCcal_sound | refine State.hardRefresh_sound ?_ _ _ (by assumption) | apply State.issueWork_sound | apply State.Sound.foldl | apply State.Sound.ite | (apply State.Sound.mk' <;> first | rfl | assumption | apply State.sendSrx_sound | apply State.markElig_sound | apply State.issueHead_sound | apply State.modChan_sound | apply State.doCcal_sound | refine State.hardRefresh_sound ?_ _ _ (by assumption) | apply State.issueWork_sound | apply State.Sound.ite | apply State.Sound.foldl | refine State.Sound.ofPair ?_ (by assumption) | split) | apply State.Sound.foldlFst | refine State.Sound.ofPair ?_ (by assumption) | split | dsimp only)

theorem execTrainWaitExpiry_sound (h : s.Sound p) : ∀ x0, Out.Sound p (execTrainWaitExpiry x0 s) := by
  intros
  unfold execTrainWaitExpiry
  with_reducible repeat' (first | intro _ | assumption | apply State.schedule_sound | apply State.Sound.foldl | apply Out.Sound.next | apply State.Sound.ite | (apply State.Sound.mk' <;> first | rfl | assumption | apply State.schedule_sound | apply State.Sound.ite | apply State.Sound.foldl | refine State.Sound.ofPair ?_ (by assumption) | split) | apply State.Sound.foldlFst | refine State.Sound.ofPair ?_ (by assumption) | split | dsimp only)

theorem execPageIdleExpiry_sound (h : s.Sound p) : ∀ x0 x1, Out.Sound p (execPageIdleExpiry x0 x1 s) := by
  intros
  unfold execPageIdleExpiry
  with_reducible repeat' (first | intro _ | assumption | apply State.closeBank_sound | apply State.Sound.foldl | apply Out.Sound.next | apply State.Sound.ite | (apply State.Sound.mk' <;> first | rfl | assumption | apply State.closeBank_sound | apply State.Sound.ite | apply State.Sound.foldl | refine State.Sound.ofPair ?_ (by assumption) | split) | apply State.Sound.foldlFst | refine State.Sound.ofPair ?_ (by assumption) | split | dsimp only)

theorem execRefreshSlot_sound (h : s.Sound p) : ∀ x0, Out.Sound p (execRefreshSlot x0 s) := by
  intros
  unfold execRefreshSlot
  with_reducible repeat' (first | intro _ | assumption | apply State.modRef_sound | apply State.sendSrx_sound | apply State.launch_sound | apply State.Sound.foldl | apply Out.Sound.next | apply State.Sound.ite | (apply State.Sound.mk' <;> first | rfl | assumption | apply State.modRef_sound | apply State.sendSrx_sound | apply State.launch_sound | apply State.Sound.ite | apply State.Sound.foldl | refine State.Sound.ofPair ?_ (by assumption) | split) | apply State.Sound.foldlFst | refine State.Sound.ofPair ?_ (by assumption) | split | dsimp only)

theorem execScrubSlot_sound (h : s.Sound p) : ∀ x0, Out.Sound p (execScrubSlot x0 s) := by
  intros
  unfold execScrubSlot
  with_reducible repeat' (first | intro _ | assumption | apply State.modChan_sound | apply State.gangIssue_sound | apply State.Sound.foldl | apply Out.Sound.next | apply State.Sound.ite | (apply State.Sound.mk' <;> first | rfl | assumption | apply State.modChan_sound | apply State.gangIssue_sound | apply State.Sound.ite | apply State.Sound.foldl | refine State.Sound.ofPair ?_ (by assumption) | split) | apply State.Sound.foldlFst | refine State.Sound.ofPair ?_ (by assumption) | split | dsimp only)

theorem execNrefForceDue_sound (h : s.Sound p) : ∀ x0 x1, Out.Sound p (execNrefForceDue x0 x1 s) := by
  intros
  unfold execNrefForceDue
  with_reducible repeat' (first | intro _ | assumption | apply State.modRef_sound | apply State.Sound.foldl | apply Out.Sound.next | apply State.Sound.ite | (apply State.Sound.mk' <;> first | rfl | assumption | apply State.modRef_sound | apply State.Sound.ite | apply State.Sound.foldl | refine State.Sound.ofPair ?_ (by assumption) | split) | apply State.Sound.foldlFst | refine State.Sound.ofPair ?_ (by assumption) | split | dsimp only)

theorem execRetestStart_sound (h : s.Sound p) : ∀ x0, Out.Sound p (execRetestStart x0 s) := by
  intros
  unfold execRetestStart
  with_reducible repeat' (first | intro _ | assumption | apply State.pushRow_sound | apply State.modChan_sound | apply State.reside_sound | apply State.Sound.foldl | apply Out.Sound.next | apply State.Sound.ite | (apply State.Sound.mk' <;> first | rfl | assumption | apply State.pushRow_sound | apply State.modChan_sound | apply State.reside_sound | apply State.Sound.ite | apply State.Sound.foldl | refine State.Sound.ofPair ?_ (by assumption) | split) | apply State.Sound.foldlFst | refine State.Sound.ofPair ?_ (by assumption) | split | dsimp only)

theorem execMigrationStart_sound (h : s.Sound p) : ∀ x0, Out.Sound p (execMigrationStart x0 s) := by
  intros
  unfold execMigrationStart
  with_reducible repeat' (first | intro _ | assumption | apply State.modChan_sound | apply State.markServing_sound | apply State.exhausted_sound | apply State.checkBudgets_sound | apply State.bump_sound | apply State.repSet_sound | apply State.reside_sound | apply State.pushRow_sound | apply State.Sound.foldl | apply Out.Sound.next | apply State.Sound.ite | (apply State.Sound.mk' <;> first | rfl | assumption | apply State.modChan_sound | apply State.markServing_sound | apply State.exhausted_sound | apply State.checkBudgets_sound | apply State.bump_sound | apply State.repSet_sound | apply State.reside_sound | apply State.pushRow_sound | apply State.Sound.ite | apply State.Sound.foldl | refine State.Sound.ofPair ?_ (by assumption) | split) | apply State.Sound.foldlFst | refine State.Sound.ofPair ?_ (by assumption) | split | dsimp only)

theorem execEventJobOverrun_sound (h : s.Sound p) : ∀ x0 x1, Out.Sound p (execEventJobOverrun x0 x1 s) := by
  intros
  unfold execEventJobOverrun
  with_reducible repeat' (first | intro _ | assumption | apply State.raise_sound | apply State.bump_sound | apply State.modChan_sound | apply State.modRt_sound | apply State.modMig_sound | apply State.Sound.foldl | apply Out.Sound.next | apply State.Sound.ite | (apply State.Sound.mk' <;> first | rfl | assumption | apply State.raise_sound | apply State.bump_sound | apply State.modChan_sound | apply State.modRt_sound | apply State.modMig_sound | apply State.Sound.ite | apply State.Sound.foldl | refine State.Sound.ofPair ?_ (by assumption) | split) | apply State.Sound.foldlFst | refine State.Sound.ofPair ?_ (by assumption) | split | dsimp only)

end Sys2Proof.Machine
end

