-- ==== Sys2Proof/Laws/SoundF.lean ====
section
/-! SUPPORT. The queue and the invariant through every operation of Turntable, Trains. -/
namespace Sys2Proof.Machine

set_option linter.all false

variable {p : List Instr × Prop} {s : State}

/-! ### Turntable -/

theorem State.leaveBuf_sound (h : s.Sound p) : ∀ x1 x2, (State.leaveBuf s x1 x2).Sound p := by
  intros
  unfold State.leaveBuf
  with_reducible repeat' (first | intro _ | assumption | apply State.returnFor_sound | apply State.modSes_sound | apply State.Sound.foldl | apply State.Sound.ite | (apply State.Sound.mk' <;> first | rfl | assumption | apply State.returnFor_sound | apply State.modSes_sound | apply State.Sound.ite | apply State.Sound.foldl | refine State.Sound.ofPair ?_ (by assumption) | split) | apply State.Sound.foldlFst | refine State.Sound.ofPair ?_ (by assumption) | split | dsimp only)

theorem State.grant_sound (h : s.Sound p) : ∀ x1 x2, (State.grant s x1 x2).Sound p := by
  intros
  unfold State.grant
  with_reducible repeat' (first | intro _ | assumption | apply State.leaveBuf_sound | apply State.respond_sound | apply State.modChan_sound | apply State.Sound.foldl | apply State.Sound.ite | (apply State.Sound.mk' <;> first | rfl | assumption | apply State.leaveBuf_sound | apply State.respond_sound | apply State.modChan_sound | apply State.Sound.ite | apply State.Sound.foldl | refine State.Sound.ofPair ?_ (by assumption) | split) | apply State.Sound.foldlFst | refine State.Sound.ofPair ?_ (by assumption) | split | dsimp only)

theorem State.round_sound (h : s.Sound p) : ∀ x1, (State.round s x1).1.Sound p := by
  intros
  unfold State.round
  with_reducible repeat' (first | intro _ | assumption | apply State.modChan_sound | apply State.grant_sound | apply State.Sound.foldl | apply State.Sound.ite | (apply State.Sound.mk' <;> first | rfl | assumption | apply State.modChan_sound | apply State.grant_sound | apply State.Sound.ite | apply State.Sound.foldl | refine State.Sound.ofPair ?_ (by assumption) | split) | apply State.Sound.foldlFst | refine State.Sound.ofPair ?_ (by assumption) | split | dsimp only)

theorem State.rounds_sound (h : s.Sound p) : ∀ x0 x2, (State.rounds x0 s x2).Sound p := by
  intro n
  induction n generalizing s with
  | zero => exact fun _ => h
  | succ n ih =>
    intro w
    unfold State.rounds
    split
    · exact h
    · exact ih (State.round_sound h w) _

theorem State.moveOut_sound (h : s.Sound p) : ∀ x1 x2, (State.moveOut s x1 x2).Sound p := by
  intros
  unfold State.moveOut
  with_reducible repeat' (first | intro _ | assumption | apply State.modChan_sound | apply State.respond_sound | apply State.Sound.foldl | apply State.Sound.ite | (apply State.Sound.mk' <;> first | rfl | assumption | apply State.modChan_sound | apply State.respond_sound | apply State.Sound.ite | apply State.Sound.foldl | refine State.Sound.ofPair ?_ (by assumption) | split) | apply State.Sound.foldlFst | refine State.Sound.ofPair ?_ (by assumption) | split | dsimp only)

theorem State.moveAll_sound (h : s.Sound p) : ∀ x1, (State.moveAll s x1).Sound p := by
  intros
  unfold State.moveAll
  with_reducible repeat' (first | intro _ | assumption | apply State.moveOut_sound | apply State.Sound.foldl | apply State.Sound.ite | (apply State.Sound.mk' <;> first | rfl | assumption | apply State.moveOut_sound | apply State.Sound.ite | apply State.Sound.foldl | refine State.Sound.ofPair ?_ (by assumption) | split) | apply State.Sound.foldlFst | refine State.Sound.ofPair ?_ (by assumption) | split | dsimp only)

theorem State.ageChan_sound (h : s.Sound p) : ∀ x1, (State.ageChan s x1).Sound p := by
  intros
  unfold State.ageChan
  with_reducible repeat' (first | intro _ | assumption | apply State.bump_sound | apply State.modChan_sound | apply State.Sound.foldl | apply State.Sound.ite | (apply State.Sound.mk' <;> first | rfl | assumption | apply State.bump_sound | apply State.modChan_sound | apply State.Sound.ite | apply State.Sound.foldl | refine State.Sound.ofPair ?_ (by assumption) | split) | apply State.Sound.foldlFst | refine State.Sound.ofPair ?_ (by assumption) | split | dsimp only)

theorem State.openQuiet_sound (h : s.Sound p) : (State.openQuiet s).Sound p := by
  unfold State.openQuiet
  with_reducible repeat' (first | intro _ | assumption | apply State.setFld_sound | apply State.Sound.foldl | apply State.Sound.ite | (apply State.Sound.mk' <;> first | rfl | assumption | apply State.setFld_sound | apply State.Sound.ite | apply State.Sound.foldl | refine State.Sound.ofPair ?_ (by assumption) | split) | apply State.Sound.foldlFst | refine State.Sound.ofPair ?_ (by assumption) | split | dsimp only)

theorem State.serviceCycle_sound (h : s.Sound p) : (State.serviceCycle s).Sound p := by
  unfold State.serviceCycle
  with_reducible repeat' (first | intro _ | assumption | apply State.setFld_sound | apply State.Sound.foldl | apply State.Sound.ite | (apply State.Sound.mk' <;> first | rfl | assumption | apply State.setFld_sound | apply State.Sound.ite | apply State.Sound.foldl | refine State.Sound.ofPair ?_ (by assumption) | split) | apply State.Sound.foldlFst | refine State.Sound.ofPair ?_ (by assumption) | split | dsimp only)

theorem execTurntableCycle_sound (h : s.Sound p) : Out.Sound p (execTurntableCycle s) := by
  unfold execTurntableCycle
  with_reducible repeat' (first | intro _ | assumption | apply State.serviceCycle_sound | apply State.voteAll_sound | apply State.setFld_sound | apply State.openQuiet_sound | apply State.bump_sound | apply State.ageChan_sound | apply State.moveAll_sound | apply State.upTo_sound | apply State.modTx_sound | apply State.rounds_sound | apply State.settle_sound | apply State.modChan_sound | apply State.Sound.foldl | apply Out.Sound.next | apply State.Sound.ite | (apply State.Sound.mk' <;> first | rfl | assumption | apply State.serviceCycle_sound | apply State.voteAll_sound | apply State.setFld_sound | apply State.openQuiet_sound | apply State.bump_sound | apply State.ageChan_sound | apply State.moveAll_sound | apply State.upTo_sound | apply State.modTx_sound | apply State.rounds_sound | apply State.settle_sound | apply State.modChan_sound | apply State.Sound.ite | apply State.Sound.foldl | refine State.Sound.ofPair ?_ (by assumption) | split) | apply State.Sound.foldlFst | refine State.Sound.ofPair ?_ (by assumption) | split | dsimp only)

theorem execChnDrained_sound (h : s.Sound p) : ∀ x0, Out.Sound p (execChnDrained x0 s) := by
  intros
  unfold execChnDrained
  with_reducible repeat' (first | intro _ | assumption | apply State.setFld_sound | apply State.modChan_sound | apply State.Sound.foldl | apply Out.Sound.next | apply State.Sound.ite | (apply State.Sound.mk' <;> first | rfl | assumption | apply State.setFld_sound | apply State.modChan_sound | apply State.Sound.ite | apply State.Sound.foldl | refine State.Sound.ofPair ?_ (by assumption) | split) | apply State.Sound.foldlFst | refine State.Sound.ofPair ?_ (by assumption) | split | dsimp only)

theorem execChnBlockResetDone_sound (h : s.Sound p) : ∀ x0, Out.Sound p (execChnBlockResetDone x0 s) := by
  intros
  unfold execChnBlockResetDone
  with_reducible repeat' (first | intro _ | assumption | apply State.modChan_sound | apply State.setFlag_sound | apply State.Sound.foldl | apply Out.Sound.next | apply State.Sound.ite | (apply State.Sound.mk' <;> first | rfl | assumption | apply State.modChan_sound | apply State.setFlag_sound | apply State.Sound.ite | apply State.Sound.foldl | refine State.Sound.ofPair ?_ (by assumption) | split) | apply State.Sound.foldlFst | refine State.Sound.ofPair ?_ (by assumption) | split | dsimp only)

theorem State.takeover_sound (h : s.Sound p) : ∀ x1 x2, (State.takeover s x1 x2).Sound p := by
  intros
  unfold State.takeover
  with_reducible repeat' (first | intro _ | assumption | apply State.raise_sound | apply State.abortChan_sound | apply State.setFld_sound | apply State.modChan_sound | apply State.Sound.foldl | apply State.Sound.ite | (apply State.Sound.mk' <;> first | rfl | assumption | apply State.raise_sound | apply State.abortChan_sound | apply State.setFld_sound | apply State.modChan_sound | apply State.Sound.ite | apply State.Sound.foldl | refine State.Sound.ofPair ?_ (by assumption) | split) | apply State.Sound.foldlFst | refine State.Sound.ofPair ?_ (by assumption) | split | dsimp only)

theorem State.dropEngine_sound (h : s.Sound p) : ∀ x1, (State.dropEngine s x1).Sound p := by
  intros
  unfold State.dropEngine
  with_reducible repeat' (first | intro _ | assumption | apply State.Sound.foldl | apply State.Sound.ite | (apply State.Sound.mk' <;> first | rfl | assumption | apply State.Sound.ite | apply State.Sound.foldl | refine State.Sound.ofPair ?_ (by assumption) | split) | apply State.Sound.foldlFst | refine State.Sound.ofPair ?_ (by assumption) | split | dsimp only)

theorem State.failChannel_sound (h : s.Sound p) : ∀ x1, (State.failChannel s x1).Sound p := by
  intros
  unfold State.failChannel
  with_reducible repeat' (first | intro _ | assumption | apply State.setFld_sound | apply State.abortChan_sound | apply State.repSet_sound | apply State.Sound.foldl | apply State.Sound.ite | (apply State.Sound.mk' <;> first | rfl | assumption | apply State.setFld_sound | apply State.abortChan_sound | apply State.repSet_sound | apply State.Sound.ite | apply State.Sound.foldl | refine State.Sound.ofPair ?_ (by assumption) | split) | apply State.Sound.foldlFst | refine State.Sound.ofPair ?_ (by assumption) | split | dsimp only)

theorem State.engineFault_sound (h : s.Sound p) : ∀ x1, (State.engineFault s x1).Sound p := by
  intros
  unfold State.engineFault
  with_reducible repeat' (first | intro _ | assumption | apply State.dropEngine_sound | apply State.raise_sound | apply State.takeover_sound | apply State.failChannel_sound | apply State.Sound.foldl | apply State.Sound.ite | (apply State.Sound.mk' <;> first | rfl | assumption | apply State.dropEngine_sound | apply State.raise_sound | apply State.takeover_sound | apply State.failChannel_sound | apply State.Sound.ite | apply State.Sound.foldl | refine State.Sound.ofPair ?_ (by assumption) | split) | apply State.Sound.foldlFst | refine State.Sound.ofPair ?_ (by assumption) | split | dsimp only)

theorem State.voidEnt_sound (h : s.Sound p) : ∀ x1 x2, (State.voidEnt s x1 x2).Sound p := by
  intros
  unfold State.voidEnt
  with_reducible repeat' (first | intro _ | assumption | apply State.modEnt_sound | apply State.modChan_sound | apply State.reside_sound | apply State.Sound.foldl | apply State.Sound.ite | (apply State.Sound.mk' <;> first | rfl | assumption | apply State.modEnt_sound | apply State.modChan_sound | apply State.reside_sound | apply State.Sound.ite | apply State.Sound.foldl | refine State.Sound.ofPair ?_ (by assumption) | split) | apply State.Sound.foldlFst | refine State.Sound.ofPair ?_ (by assumption) | split | dsimp only)

theorem State.engineUpset_sound (h : s.Sound p) : ∀ x1 x2, (State.engineUpset s x1 x2).Sound p := by
  intros
  unfold State.engineUpset
  with_reducible repeat' (first | intro _ | assumption | apply State.raise_sound | apply State.effected_sound | apply State.voidEnt_sound | apply State.engineFault_sound | apply State.Sound.foldl | apply State.Sound.ite | (apply State.Sound.mk' <;> first | rfl | assumption | apply State.raise_sound | apply State.effected_sound | apply State.voidEnt_sound | apply State.engineFault_sound | apply State.Sound.ite | apply State.Sound.foldl | refine State.Sound.ofPair ?_ (by assumption) | split) | apply State.Sound.foldlFst | refine State.Sound.ofPair ?_ (by assumption) | split | dsimp only)

theorem execSchedIssue_sound (h : s.Sound p) : ∀ x0 x1, Out.Sound p (execSchedIssue x0 x1 s) := by
  intros
  unfold execSchedIssue
  with_reducible repeat' (first | intro _ | assumption | apply State.schedule_sound | apply State.engineUpset_sound | apply State.Sound.foldl | apply Out.Sound.next | apply State.Sound.ite | (apply State.Sound.mk' <;> first | rfl | assumption | apply State.schedule_sound | apply State.engineUpset_sound | apply State.Sound.ite | apply State.Sound.foldl | refine State.Sound.ofPair ?_ (by assumption) | split) | apply State.Sound.foldlFst | refine State.Sound.ofPair ?_ (by assumption) | split | dsimp only)

theorem execTakeoverComplete_sound (h : s.Sound p) : ∀ x0, Out.Sound p (execTakeoverComplete x0 s) := by
  intros
  unfold execTakeoverComplete
  with_reducible repeat' (first | intro _ | assumption | apply State.setDomain_sound | apply State.preAll_sound | apply State.modChan_sound | apply State.setFld_sound | apply State.beginRecovery_sound | apply State.repSet_sound | apply State.raise_sound | apply State.Sound.foldl | apply Out.Sound.next | apply State.Sound.ite | (apply State.Sound.mk' <;> first | rfl | assumption | apply State.setDomain_sound | apply State.preAll_sound | apply State.modChan_sound | apply State.setFld_sound | apply State.beginRecovery_sound | apply State.repSet_sound | apply State.raise_sound | apply State.Sound.ite | apply State.Sound.foldl | refine State.Sound.ofPair ?_ (by assumption) | split) | apply State.Sound.foldlFst | refine State.Sound.ofPair ?_ (by assumption) | split | dsimp only)

/-! ### Trains -/

theorem State.stale_sound (h : s.Sound p) : ∀ x1, (State.stale s x1).Sound p := by
  intros
  unfold State.stale
  with_reducible repeat' (first | intro _ | assumption | apply State.raise_sound | apply State.bump_sound | apply State.Sound.foldl | apply State.Sound.ite | (apply State.Sound.mk' <;> first | rfl | assumption | apply State.raise_sound | apply State.bump_sound | apply State.Sound.ite | apply State.Sound.foldl | refine State.Sound.ofPair ?_ (by assumption) | split) | apply State.Sound.foldlFst | refine State.Sound.ofPair ?_ (by assumption) | split | dsimp only)

theorem State.setRetune_sound (h : s.Sound p) : ∀ x1, (State.setRetune s x1).Sound p := by
  intros
  unfold State.setRetune
  with_reducible repeat' (first | intro _ | assumption | apply State.setFld_sound | apply State.modBund_sound | apply State.Sound.foldl | apply State.Sound.ite | (apply State.Sound.mk' <;> first | rfl | assumption | apply State.setFld_sound | apply State.modBund_sound | apply State.Sound.ite | apply State.Sound.foldl | refine State.Sound.ofPair ?_ (by assumption) | split) | apply State.Sound.foldlFst | refine State.Sound.ofPair ?_ (by assumption) | split | dsimp only)

theorem State.trainPath_sound (h : s.Sound p) : ∀ x1, (State.trainPath s x1).Sound p := by
  intros
  unfold State.trainPath
  with_reducible repeat' (first | intro _ | assumption | apply State.startTraining_sound | apply State.Sound.foldl | apply State.Sound.ite | (apply State.Sound.mk' <;> first | rfl | assumption | apply State.startTraining_sound | apply State.Sound.ite | apply State.Sound.foldl | refine State.Sound.ofPair ?_ (by assumption) | split) | apply State.Sound.foldlFst | refine State.Sound.ofPair ?_ (by assumption) | split | dsimp only)

theorem State.noteFail_sound (h : s.Sound p) : ∀ x1, (State.noteFail s x1).Sound p := by
  intros
  unfold State.noteFail
  with_reducible repeat' (first | intro _ | assumption | apply State.modChan_sound | apply State.raise_sound | apply State.reside_sound | apply State.trainPath_sound | apply State.Sound.foldl | apply State.Sound.ite | (apply State.Sound.mk' <;> first | rfl | assumption | apply State.modChan_sound | apply State.raise_sound | apply State.reside_sound | apply State.trainPath_sound | apply State.Sound.ite | apply State.Sound.foldl | refine State.Sound.ofPair ?_ (by assumption) | split) | apply State.Sound.foldlFst | refine State.Sound.ofPair ?_ (by assumption) | split | dsimp only)

theorem State.reissue_sound (h : s.Sound p) : ∀ x1 x2 x3, (State.reissue s x1 x2 x3).Sound p := by
  intros
  unfold State.reissue
  with_reducible repeat' (first | intro _ | assumption | apply State.noteFail_sound | apply State.bump_sound | apply State.pushPrio_sound | apply State.Sound.foldl | apply State.Sound.ite | (apply State.Sound.mk' <;> first | rfl | assumption | apply State.noteFail_sound | apply State.bump_sound | apply State.pushPrio_sound | apply State.Sound.ite | apply State.Sound.foldl | refine State.Sound.ofPair ?_ (by assumption) | split) | apply State.Sound.foldlFst | refine State.Sound.ofPair ?_ (by assumption) | split | dsimp only)

theorem State.resend_sound (h : s.Sound p) : ∀ x1 x2, (State.resend s x1 x2).Sound p := by
  intros
  unfold State.resend
  with_reducible repeat' (first | intro _ | assumption | apply State.modChan_sound | apply State.noteFail_sound | apply State.bump_sound | apply State.pushPrio_sound | apply State.Sound.foldl | apply State.Sound.ite | (apply State.Sound.mk' <;> first | rfl | assumption | apply State.modChan_sound | apply State.noteFail_sound | apply State.bump_sound | apply State.pushPrio_sound | apply State.Sound.ite | apply State.Sound.foldl | refine State.Sound.ofPair ?_ (by assumption) | split) | apply State.Sound.foldlFst | refine State.Sound.ofPair ?_ (by assumption) | split | dsimp only)

theorem State.noteGood_sound (h : s.Sound p) : ∀ x1, (State.noteGood s x1).Sound p := by
  intros
  unfold State.noteGood
  with_reducible repeat' (first | intro _ | assumption | apply State.modChan_sound | apply State.Sound.foldl | apply State.Sound.ite | (apply State.Sound.mk' <;> first | rfl | assumption | apply State.modChan_sound | apply State.Sound.ite | apply State.Sound.foldl | refine State.Sound.ofPair ?_ (by assumption) | split) | apply State.Sound.foldlFst | refine State.Sound.ofPair ?_ (by assumption) | split | dsimp only)

theorem State.noteMiss_sound (h : s.Sound p) : ∀ x1 x2, (State.noteMiss s x1 x2).Sound p := by
  intros
  unfold State.noteMiss
  with_reducible repeat' (first | intro _ | assumption | apply State.upTo_sound | apply State.Sound.foldl | apply State.Sound.ite | (apply State.Sound.mk' <;> first | rfl | assumption | apply State.upTo_sound | apply State.Sound.ite | apply State.Sound.foldl | refine State.Sound.ofPair ?_ (by assumption) | split) | apply State.Sound.foldlFst | refine State.Sound.ofPair ?_ (by assumption) | split | dsimp only)

theorem State.repeatRefresh_sound (h : s.Sound p) : ∀ x1, (State.repeatRefresh s x1).Sound p := by
  intros
  unfold State.repeatRefresh
  with_reducible repeat' (first | intro _ | assumption | apply State.refCmd_sound | apply State.Sound.foldl | apply State.Sound.ite | (apply State.Sound.mk' <;> first | rfl | assumption | apply State.refCmd_sound | apply State.Sound.ite | apply State.Sound.foldl | refine State.Sound.ofPair ?_ (by assumption) | split) | apply State.Sound.foldlFst | refine State.Sound.ofPair ?_ (by assumption) | split | dsimp only)

theorem State.toPool_sound (h : s.Sound p) : ∀ x1, (State.toPool s x1).Sound p := by
  intros
  unfold State.toPool
  with_reducible repeat' (first | intro _ | assumption | apply State.bump_sound | apply State.Sound.foldl | apply State.Sound.ite | (apply State.Sound.mk' <;> first | rfl | assumption | apply State.bump_sound | apply State.Sound.ite | apply State.Sound.foldl | refine State.Sound.ofPair ?_ (by assumption) | split) | apply State.Sound.foldlFst | refine State.Sound.ofPair ?_ (by assumption) | split | dsimp only)

theorem State.poolFlow_sound (h : s.Sound p) : (State.poolFlow s).Sound p := by
  unfold State.poolFlow
  with_reducible repeat' (first | intro _ | assumption | apply State.Sound.foldl | apply State.Sound.ite | (apply State.Sound.mk' <;> first | rfl | assumption | apply State.Sound.ite | apply State.Sound.foldl | refine State.Sound.ofPair ?_ (by assumption) | split) | apply State.Sound.foldlFst | refine State.Sound.ofPair ?_ (by assumption) | split | dsimp only)

theorem execDecodeComplete_sound (h : s.Sound p) : ∀ x0 x1 x2, Out.Sound p (execDecodeComplete x0 x1 x2 s) := by
  intros
  unfold execDecodeComplete
  with_reducible repeat' (first | intro _ | assumption | apply State.bump_sound | apply State.lineIn_sound | apply State.raise_sound | apply State.reissue_sound | apply State.poolFlow_sound | apply State.Sound.foldl | apply Out.Sound.next | apply State.Sound.ite | (apply State.Sound.mk' <;> first | rfl | assumption | apply State.bump_sound | apply State.lineIn_sound | apply State.raise_sound | apply State.reissue_sound | apply State.poolFlow_sound | apply State.Sound.ite | apply State.Sound.foldl | refine State.Sound.ofPair ?_ (by assumption) | split) | apply State.Sound.foldlFst | refine State.Sound.ofPair ?_ (by assumption) | split | dsimp only)

theorem execDecoderSelfCheck_sound (h : s.Sound p) : ∀ x0 x1, Out.Sound p (execDecoderSelfCheck x0 x1 s) := by
  intros
  unfold execDecoderSelfCheck
  with_reducible repeat' (first | intro _ | assumption | apply State.raise_sound | apply State.Sound.foldl | apply Out.Sound.next | apply State.Sound.ite | (apply State.Sound.mk' <;> first | rfl | assumption | apply State.raise_sound | apply State.Sound.ite | apply State.Sound.foldl | refine State.Sound.ofPair ?_ (by assumption) | split) | apply State.Sound.foldlFst | refine State.Sound.ofPair ?_ (by assumption) | split | dsimp only)

theorem State.codecTick_sound (h : s.Sound p) : (State.codecTick s).Sound p := by
  unfold State.codecTick
  with_reducible repeat' (first | intro _ | assumption | apply State.repSet_sound | apply State.setFld_sound | apply State.Sound.foldl | apply State.Sound.ite | (apply State.Sound.mk' <;> first | rfl | assumption | apply State.repSet_sound | apply State.setFld_sound | apply State.Sound.ite | apply State.Sound.foldl | refine State.Sound.ofPair ?_ (by assumption) | split) | apply State.Sound.foldlFst | refine State.Sound.ofPair ?_ (by assumption) | split | dsimp only)

theorem State.noteColl_sound (h : s.Sound p) : ∀ x1 x2, (State.noteColl s x1 x2).Sound p := by
  intros
  unfold State.noteColl
  with_reducible repeat' (first | intro _ | assumption | apply State.modBund_sound | apply State.setRetune_sound | apply State.raise_sound | apply State.Sound.foldl | apply State.Sound.ite | (apply State.Sound.mk' <;> first | rfl | assumption | apply State.modBund_sound | apply State.setRetune_sound | apply State.raise_sound | apply State.Sound.ite | apply State.Sound.foldl | refine State.Sound.ofPair ?_ (by assumption) | split) | apply State.Sound.foldlFst | refine State.Sound.ofPair ?_ (by assumption) | split | dsimp only)

theorem State.noteGain_sound (h : s.Sound p) : ∀ x1 x2 x3, (State.noteGain s x1 x2 x3).Sound p := by
  intros
  unfold State.noteGain
  with_reducible repeat' (first | intro _ | assumption | apply State.divFree_sound | apply State.setFld_sound | apply State.Sound.foldl | apply State.Sound.ite | (apply State.Sound.mk' <;> first | rfl | assumption | apply State.divFree_sound | apply State.setFld_sound | apply State.Sound.ite | apply State.Sound.foldl | refine State.Sound.ofPair ?_ (by assumption) | split) | apply State.Sound.foldlFst | refine State.Sound.ofPair ?_ (by assumption) | refine State.Sound.ofPair2 ?_ (by assumption) | split | dsimp only)

theorem State.noteCol_sound (h : s.Sound p) : ∀ x1 x2 x3, (State.noteCol s x1 x2 x3).Sound p := by
  intros
  unfold State.noteCol
  with_reducible repeat' (first | intro _ | assumption | apply State.noteColl_sound | apply State.bump_sound | apply State.noteGain_sound | apply State.modBund_sound | apply State.Sound.foldl | apply State.Sound.ite | (apply State.Sound.mk' <;> first | rfl | assumption | apply State.noteColl_sound | apply State.bump_sound | apply State.noteGain_sound | apply State.modBund_sound | apply State.Sound.ite | apply State.Sound.foldl | refine State.Sound.ofPair ?_ (by assumption) | split) | apply State.Sound.foldlFst | refine State.Sound.ofPair ?_ (by assumption) | split | dsimp only)

theorem State.noteVote_sound (h : s.Sound p) : ∀ x1 x2 x3, (State.noteVote s x1 x2 x3).Sound p := by
  intros
  unfold State.noteVote
  with_reducible repeat' (first | intro _ | assumption | apply State.bump_sound | apply State.modBund_sound | apply State.setRetune_sound | apply State.raise_sound | apply State.Sound.foldl | apply State.Sound.ite | (apply State.Sound.mk' <;> first | rfl | assumption | apply State.bump_sound | apply State.modBund_sound | apply State.setRetune_sound | apply State.raise_sound | apply State.Sound.ite | apply State.Sound.foldl | refine State.Sound.ofPair ?_ (by assumption) | split) | apply State.Sound.foldlFst | refine State.Sound.ofPair ?_ (by assumption) | split | dsimp only)

theorem State.noteLand_sound (h : s.Sound p) : ∀ x1 x2, (State.noteLand s x1 x2).Sound p := by
  intros
  unfold State.noteLand
  with_reducible repeat' (first | intro _ | assumption | apply State.modBund_sound | apply State.Sound.foldl | apply State.Sound.ite | (apply State.Sound.mk' <;> first | rfl | assumption | apply State.modBund_sound | apply State.Sound.ite | apply State.Sound.foldl | refine State.Sound.ofPair ?_ (by assumption) | split) | apply State.Sound.foldlFst | refine State.Sound.ofPair ?_ (by assumption) | split | dsimp only)

theorem State.calDelivered_sound (h : s.Sound p) : ∀ x1 x2, (State.calDelivered s x1 x2).Sound p := by
  intros
  unfold State.calDelivered
  with_reducible repeat' (first | intro _ | assumption | apply State.stale_sound | apply State.modBund_sound | apply State.modChan_sound | apply State.noteVote_sound | apply State.noteCol_sound | apply State.noteLand_sound | apply State.bump_sound | apply State.setFlag_sound | apply State.trainPath_sound | apply State.Sound.foldl | apply State.Sound.ite | (apply State.Sound.mk' <;> first | rfl | assumption | apply State.stale_sound | apply State.modBund_sound | apply State.modChan_sound | apply State.noteVote_sound | apply State.noteCol_sound | apply State.noteLand_sound | apply State.bump_sound | apply State.setFlag_sound | apply State.trainPath_sound | apply State.Sound.ite | apply State.Sound.foldl | refine State.Sound.ofPair ?_ (by assumption) | split) | apply State.Sound.foldlFst | refine State.Sound.ofPair ?_ (by assumption) | split | dsimp only)

theorem State.slotIn_sound (h : s.Sound p) : ∀ x1 x2 x3 x4 x5, (State.slotIn s x1 x2 x3 x4 x5).1.Sound p := by
  intros
  unfold State.slotIn
  with_reducible repeat' (first | intro _ | assumption | apply State.lineIn_sound | apply State.toPool_sound | apply State.Sound.foldl | apply State.Sound.ite | (apply State.Sound.mk' <;> first | rfl | assumption | apply State.lineIn_sound | apply State.toPool_sound | apply State.Sound.ite | apply State.Sound.foldl | refine State.Sound.ofPair ?_ (by assumption) | split) | apply State.Sound.foldlFst | refine State.Sound.ofPair ?_ (by assumption) | split | dsimp only)

theorem State.capturedRx_sound (h : s.Sound p) : ∀ x1 x2, (State.capturedRx s x1 x2).Sound p := by
  intros
  unfold State.capturedRx
  with_reducible repeat' (first | intro _ | assumption | apply State.bump_sound | apply State.noteColl_sound | apply State.repeatRefresh_sound | apply State.calLost_sound | apply State.Sound.foldl | apply State.Sound.ite | (apply State.Sound.mk' <;> first | rfl | assumption | apply State.bump_sound | apply State.noteColl_sound | apply State.repeatRefresh_sound | apply State.calLost_sound | apply State.Sound.ite | apply State.Sound.foldl | refine State.Sound.ofPair ?_ (by assumption) | split) | apply State.Sound.foldlFst | refine State.Sound.ofPair ?_ (by assumption) | split | dsimp only)

theorem State.collidedRx_sound (h : s.Sound p) : ∀ x1 x2, (State.collidedRx s x1 x2).Sound p := by
  intros
  unfold State.collidedRx
  with_reducible repeat' (first | intro _ | assumption | apply State.repeatRefresh_sound | apply State.reissue_sound | apply State.resend_sound | apply State.Sound.foldl | apply State.Sound.ite | (apply State.Sound.mk' <;> first | rfl | assumption | apply State.repeatRefresh_sound | apply State.reissue_sound | apply State.resend_sound | apply State.Sound.ite | apply State.Sound.foldl | refine State.Sound.ofPair ?_ (by assumption) | split) | apply State.Sound.foldlFst | refine State.Sound.ofPair ?_ (by assumption) | split | dsimp only)

theorem State.linesIn_sound (h : s.Sound p) : ∀ x1 x2 x3, (State.linesIn s x1 x2 x3).Sound p := by
  intros
  unfold State.linesIn
  with_reducible repeat' (first | intro _ | assumption | apply State.stale_sound | apply State.modChan_sound | apply State.slotIn_sound | apply State.noteMiss_sound | apply State.noteGood_sound | apply State.reissue_sound | apply State.Sound.foldl | apply State.Sound.ite | (apply State.Sound.mk' <;> first | rfl | assumption | apply State.stale_sound | apply State.modChan_sound | apply State.slotIn_sound | apply State.noteMiss_sound | apply State.noteGood_sound | apply State.reissue_sound | apply State.Sound.ite | apply State.Sound.foldl | refine State.Sound.ofPair ?_ (by assumption) | split) | apply State.Sound.foldlFst | refine State.Sound.ofPair ?_ (by assumption) | split | dsimp only)

theorem execReadTrainDelivered_sound (h : s.Sound p) : ∀ x0 x1, Out.Sound p (execReadTrainDelivered x0 x1 s) := by
  intros
  unfold execReadTrainDelivered
  with_reducible repeat' (first | intro _ | assumption | apply State.bump_sound | apply State.capturedRx_sound | apply State.noteCol_sound | apply State.calLost_sound | apply State.repeatRefresh_sound | apply State.stale_sound | apply State.collidedRx_sound | apply State.modChan_sound | apply State.calDelivered_sound | apply State.linesIn_sound | apply State.Sound.foldl | apply Out.Sound.next | apply State.Sound.ite | (apply State.Sound.mk' <;> first | rfl | assumption | apply State.bump_sound | apply State.capturedRx_sound | apply State.noteCol_sound | apply State.calLost_sound | apply State.repeatRefresh_sound | apply State.stale_sound | apply State.collidedRx_sound | apply State.modChan_sound | apply State.calDelivered_sound | apply State.linesIn_sound | apply State.Sound.ite | apply State.Sound.foldl | refine State.Sound.ofPair ?_ (by assumption) | split) | apply State.Sound.foldlFst | refine State.Sound.ofPair ?_ (by assumption) | split | dsimp only)

theorem execReadTrainTimeout_sound (h : s.Sound p) : ∀ x0 x1, Out.Sound p (execReadTrainTimeout x0 x1 s) := by
  intros
  unfold execReadTrainTimeout
  with_reducible repeat' (first | intro _ | assumption | apply State.modChan_sound | apply State.reissue_sound | apply State.noteMiss_sound | apply State.Sound.foldl | apply Out.Sound.next | apply State.Sound.ite | (apply State.Sound.mk' <;> first | rfl | assumption | apply State.modChan_sound | apply State.reissue_sound | apply State.noteMiss_sound | apply State.Sound.ite | apply State.Sound.foldl | refine State.Sound.ofPair ?_ (by assumption) | split) | apply State.Sound.foldlFst | refine State.Sound.ofPair ?_ (by assumption) | split | dsimp only)

theorem execWackRx_sound (h : s.Sound p) : ∀ x0 x1 x2, Out.Sound p (execWackRx x0 x1 x2 s) := by
  intros
  unfold execWackRx
  with_reducible repeat' (first | intro _ | assumption | apply State.stale_sound | apply State.noteGood_sound | apply State.modChan_sound | apply State.lineAcked_sound | apply State.noteMiss_sound | apply State.fillAcked_sound | apply State.Sound.foldl | apply Out.Sound.next | apply State.Sound.ite | (apply State.Sound.mk' <;> first | rfl | assumption | apply State.stale_sound | apply State.noteGood_sound | apply State.modChan_sound | apply State.lineAcked_sound | apply State.noteMiss_sound | apply State.fillAcked_sound | apply State.Sound.ite | apply State.Sound.foldl | refine State.Sound.ofPair ?_ (by assumption) | split) | apply State.Sound.foldlFst | refine State.Sound.ofPair ?_ (by assumption) | split | dsimp only)

theorem execWnakRx_sound (h : s.Sound p) : ∀ x0 x1 x2 x3, Out.Sound p (execWnakRx x0 x1 x2 x3 s) := by
  intros
  unfold execWnakRx
  with_reducible repeat' (first | intro _ | assumption | apply State.stale_sound | apply State.raise_sound | apply State.bump_sound | apply State.resend_sound | apply State.Sound.foldl | apply Out.Sound.next | apply State.Sound.ite | (apply State.Sound.mk' <;> first | rfl | assumption | apply State.stale_sound | apply State.raise_sound | apply State.bump_sound | apply State.resend_sound | apply State.Sound.ite | apply State.Sound.foldl | refine State.Sound.ofPair ?_ (by assumption) | split) | apply State.Sound.foldlFst | refine State.Sound.ofPair ?_ (by assumption) | split | dsimp only)

theorem execWackTimeout_sound (h : s.Sound p) : ∀ x0 x1, Out.Sound p (execWackTimeout x0 x1 s) := by
  intros
  unfold execWackTimeout
  with_reducible repeat' (first | intro _ | assumption | apply State.resend_sound | apply State.noteMiss_sound | apply State.Sound.foldl | apply Out.Sound.next | apply State.Sound.ite | (apply State.Sound.mk' <;> first | rfl | assumption | apply State.resend_sound | apply State.noteMiss_sound | apply State.Sound.ite | apply State.Sound.foldl | refine State.Sound.ofPair ?_ (by assumption) | split) | apply State.Sound.foldlFst | refine State.Sound.ofPair ?_ (by assumption) | split | dsimp only)

theorem execCollisionWindowEnd_sound (h : s.Sound p) : ∀ x0, Out.Sound p (execCollisionWindowEnd x0 s) := by
  intros
  unfold execCollisionWindowEnd
  with_reducible repeat' (first | intro _ | assumption | apply State.upTo_sound | apply State.modBund_sound | apply State.Sound.foldl | apply Out.Sound.next | apply State.Sound.ite | (apply State.Sound.mk' <;> first | rfl | assumption | apply State.upTo_sound | apply State.modBund_sound | apply State.Sound.ite | apply State.Sound.foldl | refine State.Sound.ofPair ?_ (by assumption) | split) | apply State.Sound.foldlFst | refine State.Sound.ofPair ?_ (by assumption) | split | dsimp only)

theorem execVlPllUnlock_sound (h : s.Sound p) : ∀ x0, Out.Sound p (execVlPllUnlock x0 s) := by
  intros
  unfold execVlPllUnlock
  with_reducible repeat' (first | intro _ | assumption | apply State.raise_sound | apply State.Sound.foldl | apply Out.Sound.next | apply State.Sound.ite | (apply State.Sound.mk' <;> first | rfl | assumption | apply State.raise_sound | apply State.Sound.ite | apply State.Sound.foldl | refine State.Sound.ofPair ?_ (by assumption) | split) | apply State.Sound.foldlFst | refine State.Sound.ofPair ?_ (by assumption) | split | dsimp only)

theorem State.setSr_sound (h : s.Sound p) : ∀ x1 x2, (State.setSr s x1 x2).Sound p := by
  intros
  unfold State.setSr
  with_reducible repeat' (first | intro _ | assumption | apply State.setFlag_sound | apply State.Sound.foldl | apply State.Sound.ite | (apply State.Sound.mk' <;> first | rfl | assumption | apply State.setFlag_sound | apply State.Sound.ite | apply State.Sound.foldl | refine State.Sound.ofPair ?_ (by assumption) | split) | apply State.Sound.foldlFst | refine State.Sound.ofPair ?_ (by assumption) | split | dsimp only)

theorem State.makeRoom_sound (h : s.Sound p) : ∀ x1, (State.makeRoom s x1).Sound p := by
  intros
  unfold State.makeRoom
  with_reducible repeat' (first | intro _ | assumption | apply State.doNref_sound | apply State.Sound.foldl | apply State.Sound.ite | (apply State.Sound.mk' <;> first | rfl | assumption | apply State.doNref_sound | apply State.Sound.ite | apply State.Sound.foldl | refine State.Sound.ofPair ?_ (by assumption) | split) | apply State.Sound.foldlFst | refine State.Sound.ofPair ?_ (by assumption) | split | dsimp only)

theorem State.latency_sound (h : s.Sound p) : ∀ x1 x2, (State.latency s x1 x2).Sound p := by
  intros
  unfold State.latency
  with_reducible repeat' (first | intro _ | assumption | apply State.makeRoom_sound | apply State.closeBank_sound | apply State.modChan_sound | apply State.launchAt_sound | apply State.bump_sound | apply State.setFld_sound | apply State.atTick_sound | apply State.mileage_sound | apply State.Sound.foldl | apply State.Sound.ite | (apply State.Sound.mk' <;> first | rfl | assumption | apply State.makeRoom_sound | apply State.closeBank_sound | apply State.modChan_sound | apply State.launchAt_sound | apply State.bump_sound | apply State.setFld_sound | apply State.atTick_sound | apply State.mileage_sound | apply State.Sound.ite | apply State.Sound.foldl | refine State.Sound.ofPair ?_ (by assumption) | split) | apply State.Sound.foldlFst | refine State.Sound.ofPair ?_ (by assumption) | split | dsimp only)

theorem State.srxRounds_sound (h : s.Sound p) : ∀ x1 x2, (State.srxRounds s x1 x2).Sound p := by
  intros
  unfold State.srxRounds
  with_reducible repeat' (first | intro _ | assumption | apply State.setFlag_sound | apply State.modChan_sound | apply State.setFld_sound | apply State.setSr_sound | apply State.upTo_sound | apply State.doRefb_sound | apply State.latency_sound | apply State.beginRecovery_sound | apply State.reside_sound | apply State.Sound.foldl | apply State.Sound.ite | (apply State.Sound.mk' <;> first | rfl | assumption | apply State.setFlag_sound | apply State.modChan_sound | apply State.setFld_sound | apply State.setSr_sound | apply State.upTo_sound | apply State.doRefb_sound | apply State.latency_sound | apply State.beginRecovery_sound | apply State.reside_sound | apply State.Sound.ite | apply State.Sound.foldl | refine State.Sound.ofPair ?_ (by assumption) | split) | apply State.Sound.foldlFst | refine State.Sound.ofPair ?_ (by assumption) | split | dsimp only)

theorem execSrxWaitEnd_sound (h : s.Sound p) : ∀ x0 x1, Out.Sound p (execSrxWaitEnd x0 x1 s) := by
  intros
  unfold execSrxWaitEnd
  with_reducible repeat' (first | intro _ | assumption | apply State.modRef_sound | apply State.sendRep_sound | apply State.srxRounds_sound | apply State.Sound.foldl | apply Out.Sound.next | apply State.Sound.ite | (apply State.Sound.mk' <;> first | rfl | assumption | apply State.modRef_sound | apply State.sendRep_sound | apply State.srxRounds_sound | apply State.Sound.ite | apply State.Sound.foldl | refine State.Sound.ofPair ?_ (by assumption) | split) | apply State.Sound.foldlFst | refine State.Sound.ofPair ?_ (by assumption) | split | dsimp only)

theorem State.enterSr_sound (h : s.Sound p) : ∀ x1 x2, (State.enterSr s x1 x2).Sound p := by
  intros
  unfold State.enterSr
  with_reducible repeat' (first | intro _ | assumption | apply State.modChan_sound | apply State.launch_sound | apply State.bump_sound | apply State.setSr_sound | apply State.sendSrx_sound | apply State.raise_sound | apply State.setFld_sound | apply State.Sound.foldl | apply State.Sound.ite | (apply State.Sound.mk' <;> first | rfl | assumption | apply State.modChan_sound | apply State.launch_sound | apply State.bump_sound | apply State.setSr_sound | apply State.sendSrx_sound | apply State.raise_sound | apply State.setFld_sound | apply State.Sound.ite | apply State.Sound.foldl | refine State.Sound.ofPair ?_ (by assumption) | split) | apply State.Sound.foldlFst | refine State.Sound.ofPair ?_ (by assumption) | split | dsimp only)

theorem execSelfRefreshEntry_sound (h : s.Sound p) : ∀ x0 x1, Out.Sound p (execSelfRefreshEntry x0 x1 s) := by
  intros
  unfold execSelfRefreshEntry
  with_reducible repeat' (first | intro _ | assumption | apply State.issueOwed_sound | apply State.modRef_sound | apply State.enterSr_sound | apply State.Sound.foldl | apply Out.Sound.next | apply State.Sound.ite | (apply State.Sound.mk' <;> first | rfl | assumption | apply State.issueOwed_sound | apply State.modRef_sound | apply State.enterSr_sound | apply State.Sound.ite | apply State.Sound.foldl | refine State.Sound.ofPair ?_ (by assumption) | split) | apply State.Sound.foldlFst | refine State.Sound.ofPair ?_ (by assumption) | split | dsimp only)

end Sys2Proof.Machine
end

