-- ==== Sys2Proof/Laws/SoundG.lean ====
section
/-! SUPPORT. The queue and the invariant through every operation of Vertical, Nvm. -/
namespace Sys2Proof.Machine

set_option linter.all false

variable {p : List Instr × Prop} {s : State}

/-! ### Vertical -/

theorem State.retireSpare_sound (h : s.Sound p) : ∀ x1 x2, (State.retireSpare s x1 x2).Sound p := by
  intros
  unfold State.retireSpare
  with_reducible repeat' (first | intro _ | assumption | apply State.repSet_sound | apply State.setCal_sound | apply State.Sound.foldl | apply State.Sound.ite | (apply State.Sound.mk' <;> first | rfl | assumption | apply State.repSet_sound | apply State.setCal_sound | apply State.Sound.ite | apply State.Sound.foldl | refine State.Sound.ofPair ?_ (by assumption) | split) | apply State.Sound.foldlFst | refine State.Sound.ofPair ?_ (by assumption) | split | dsimp only)

theorem State.serveCol_sound (h : s.Sound p) : ∀ x1 x2 x3, (State.serveCol s x1 x2 x3).Sound p := by
  intros
  unfold State.serveCol
  with_reducible repeat' (first | intro _ | assumption | apply State.modBund_sound | apply State.retireSpare_sound | apply State.setCal_sound | apply State.repSet_sound | apply State.Sound.foldl | apply State.Sound.ite | (apply State.Sound.mk' <;> first | rfl | assumption | apply State.modBund_sound | apply State.retireSpare_sound | apply State.setCal_sound | apply State.repSet_sound | apply State.Sound.ite | apply State.Sound.foldl | refine State.Sound.ofPair ?_ (by assumption) | split) | apply State.Sound.foldlFst | refine State.Sound.ofPair ?_ (by assumption) | split | dsimp only)

theorem State.failBundle_sound (h : s.Sound p) : ∀ x1 x2, (State.failBundle s x1 x2).Sound p := by
  intros
  unfold State.failBundle
  with_reducible repeat' (first | intro _ | assumption | apply State.failChannel_sound | apply State.raise_sound | apply State.Sound.foldl | apply State.Sound.ite | (apply State.Sound.mk' <;> first | rfl | assumption | apply State.failChannel_sound | apply State.raise_sound | apply State.Sound.ite | apply State.Sound.foldl | refine State.Sound.ofPair ?_ (by assumption) | split) | apply State.Sound.foldlFst | refine State.Sound.ofPair ?_ (by assumption) | split | dsimp only)

theorem State.eraseCol_sound (h : s.Sound p) : ∀ x1 x2, (State.eraseCol s x1 x2).Sound p := by
  intros
  unfold State.eraseCol
  with_reducible repeat' (first | intro _ | assumption | apply State.raise_sound | apply State.failBundle_sound | apply State.modBund_sound | apply State.Sound.foldl | apply State.Sound.ite | (apply State.Sound.mk' <;> first | rfl | assumption | apply State.raise_sound | apply State.failBundle_sound | apply State.modBund_sound | apply State.Sound.ite | apply State.Sound.foldl | refine State.Sound.ofPair ?_ (by assumption) | split) | apply State.Sound.foldlFst | refine State.Sound.ofPair ?_ (by assumption) | split | dsimp only)

theorem State.beginSwitch_sound (h : s.Sound p) : ∀ x1 x2, (State.beginSwitch s x1 x2).Sound p := by
  intros
  unfold State.beginSwitch
  with_reducible repeat' (first | intro _ | assumption | apply State.modBund_sound | apply State.setCol_sound | apply State.setcfg_sound | apply State.Sound.foldl | apply State.Sound.ite | (apply State.Sound.mk' <;> first | rfl | assumption | apply State.modBund_sound | apply State.setCol_sound | apply State.setcfg_sound | apply State.Sound.ite | apply State.Sound.foldl | refine State.Sound.ofPair ?_ (by assumption) | split) | apply State.Sound.foldlFst | refine State.Sound.ofPair ?_ (by assumption) | split | dsimp only)

theorem State.spareCol_sound (h : s.Sound p) : ∀ x1 x2, (State.spareCol s x1 x2).Sound p := by
  intros
  unfold State.spareCol
  with_reducible repeat' (first | intro _ | assumption | apply State.retireSpare_sound | apply State.eraseCol_sound | apply State.beginSwitch_sound | apply State.serveCol_sound | apply State.Sound.foldl | apply State.Sound.ite | (apply State.Sound.mk' <;> first | rfl | assumption | apply State.retireSpare_sound | apply State.eraseCol_sound | apply State.beginSwitch_sound | apply State.serveCol_sound | apply State.Sound.ite | apply State.Sound.foldl | refine State.Sound.ofPair ?_ (by assumption) | split) | apply State.Sound.foldlFst | refine State.Sound.ofPair ?_ (by assumption) | split | dsimp only)

theorem State.spareNow_sound (h : s.Sound p) : ∀ x1 x2, (State.spareNow s x1 x2).Sound p := by
  intros
  unfold State.spareNow
  with_reducible repeat' (first | intro _ | assumption | apply State.retireSpare_sound | apply State.eraseCol_sound | apply State.serveCol_sound | apply State.Sound.foldl | apply State.Sound.ite | (apply State.Sound.mk' <;> first | rfl | assumption | apply State.retireSpare_sound | apply State.eraseCol_sound | apply State.serveCol_sound | apply State.Sound.ite | apply State.Sound.foldl | refine State.Sound.ofPair ?_ (by assumption) | split) | apply State.Sound.foldlFst | refine State.Sound.ofPair ?_ (by assumption) | split | dsimp only)

theorem State.gearLoop_sound (h : s.Sound p) : ∀ x1 x2 x3, (State.gearLoop s x1 x2 x3).Sound p := by
  intros
  unfold State.gearLoop
  with_reducible repeat' (first | intro _ | assumption | apply State.setFld_sound | apply State.modBund_sound | apply State.spareCol_sound | apply State.raise_sound | apply State.beginSwitch_sound | apply State.Sound.foldl | apply State.Sound.ite | (apply State.Sound.mk' <;> first | rfl | assumption | apply State.setFld_sound | apply State.modBund_sound | apply State.spareCol_sound | apply State.raise_sound | apply State.beginSwitch_sound | apply State.Sound.ite | apply State.Sound.foldl | refine State.Sound.ofPair ?_ (by assumption) | split) | apply State.Sound.foldlFst | refine State.Sound.ofPair ?_ (by assumption) | split | dsimp only)

theorem execGearWindowEnd_sound (h : s.Sound p) : ∀ x0 x1, Out.Sound p (execGearWindowEnd x0 x1 s) := by
  intros
  unfold execGearWindowEnd
  with_reducible repeat' (first | intro _ | assumption | apply State.upTo_sound | apply State.modBund_sound | apply State.gearLoop_sound | apply State.Sound.foldl | apply Out.Sound.next | apply State.Sound.ite | (apply State.Sound.mk' <;> first | rfl | assumption | apply State.upTo_sound | apply State.modBund_sound | apply State.gearLoop_sound | apply State.Sound.ite | apply State.Sound.foldl | refine State.Sound.ofPair ?_ (by assumption) | split) | apply State.Sound.foldlFst | refine State.Sound.ofPair ?_ (by assumption) | split | dsimp only)

theorem State.modSwitch_sound (h : s.Sound p) : ∀ x1 x2 x3 x4, (State.modSwitch s x1 x2 x3 x4).Sound p := by
  intros
  unfold State.modSwitch
  with_reducible repeat' (first | intro _ | assumption | apply State.modBund_sound | apply State.Sound.foldl | apply State.Sound.ite | (apply State.Sound.mk' <;> first | rfl | assumption | apply State.modBund_sound | apply State.Sound.ite | apply State.Sound.foldl | refine State.Sound.ofPair ?_ (by assumption) | split) | apply State.Sound.foldlFst | refine State.Sound.ofPair ?_ (by assumption) | split | dsimp only)

theorem State.switchAck_sound (h : s.Sound p) : ∀ x1 x2 x3 x4 x5, (State.switchAck s x1 x2 x3 x4 x5).Sound p := by
  intros
  unfold State.switchAck
  with_reducible repeat' (first | intro _ | assumption | apply State.modSwitch_sound | apply State.Sound.foldl | apply State.Sound.ite | (apply State.Sound.mk' <;> first | rfl | assumption | apply State.modSwitch_sound | apply State.Sound.ite | apply State.Sound.foldl | refine State.Sound.ofPair ?_ (by assumption) | split) | apply State.Sound.foldlFst | refine State.Sound.ofPair ?_ (by assumption) | split | dsimp only)

theorem State.switchLate_sound (h : s.Sound p) : ∀ x1 x2 x3, (State.switchLate s x1 x2 x3).Sound p := by
  intros
  unfold State.switchLate
  with_reducible repeat' (first | intro _ | assumption | apply State.modSwitch_sound | apply State.setCol_sound | apply State.setcfg_sound | apply State.raise_sound | apply State.Sound.foldl | apply State.Sound.ite | (apply State.Sound.mk' <;> first | rfl | assumption | apply State.modSwitch_sound | apply State.setCol_sound | apply State.setcfg_sound | apply State.raise_sound | apply State.Sound.ite | apply State.Sound.foldl | refine State.Sound.ofPair ?_ (by assumption) | split) | apply State.Sound.foldlFst | refine State.Sound.ofPair ?_ (by assumption) | split | dsimp only)

theorem execGearSwitchAckDeadline_sound (h : s.Sound p) : ∀ x0 x1, Out.Sound p (execGearSwitchAckDeadline x0 x1 s) := by
  intros
  unfold execGearSwitchAckDeadline
  with_reducible repeat' (first | intro _ | assumption | apply State.switchLate_sound | apply State.Sound.foldl | apply Out.Sound.next | apply State.Sound.ite | (apply State.Sound.mk' <;> first | rfl | assumption | apply State.switchLate_sound | apply State.Sound.ite | apply State.Sound.foldl | refine State.Sound.ofPair ?_ (by assumption) | split) | apply State.Sound.foldlFst | refine State.Sound.ofPair ?_ (by assumption) | split | dsimp only)

theorem State.switchNow_sound (h : s.Sound p) : ∀ x1 x2 x3, (State.switchNow s x1 x2 x3).Sound p := by
  intros
  unfold State.switchNow
  with_reducible repeat' (first | intro _ | assumption | apply State.modBund_sound | apply State.trainPath_sound | apply State.serveCol_sound | apply State.setCal_sound | apply State.setCol_sound | apply State.raise_sound | apply State.bump_sound | apply State.Sound.foldl | apply State.Sound.ite | (apply State.Sound.mk' <;> first | rfl | assumption | apply State.modBund_sound | apply State.trainPath_sound | apply State.serveCol_sound | apply State.setCal_sound | apply State.setCol_sound | apply State.raise_sound | apply State.bump_sound | apply State.Sound.ite | apply State.Sound.foldl | refine State.Sound.ofPair ?_ (by assumption) | split) | apply State.Sound.foldlFst | refine State.Sound.ofPair ?_ (by assumption) | split | dsimp only)

theorem execGearSwitchEffective_sound (h : s.Sound p) : ∀ x0 x1, Out.Sound p (execGearSwitchEffective x0 x1 s) := by
  intros
  unfold execGearSwitchEffective
  with_reducible repeat' (first | intro _ | assumption | apply State.switchNow_sound | apply State.Sound.foldl | apply Out.Sound.next | apply State.Sound.ite | (apply State.Sound.mk' <;> first | rfl | assumption | apply State.switchNow_sound | apply State.Sound.ite | apply State.Sound.foldl | refine State.Sound.ofPair ?_ (by assumption) | split) | apply State.Sound.foldlFst | refine State.Sound.ofPair ?_ (by assumption) | split | dsimp only)

theorem State.discover_sound (h : s.Sound p) : ∀ x1 x2, (State.discover s x1 x2).Sound p := by
  intros
  unfold State.discover
  with_reducible repeat' (first | intro _ | assumption | apply State.upTo_sound | apply State.setFld_sound | apply State.setFlag_sound | apply State.sendTiming_sound | apply State.raise_sound | apply State.Sound.foldl | apply State.Sound.ite | (apply State.Sound.mk' <;> first | rfl | assumption | apply State.upTo_sound | apply State.setFld_sound | apply State.setFlag_sound | apply State.sendTiming_sound | apply State.raise_sound | apply State.Sound.ite | apply State.Sound.foldl | refine State.Sound.ofPair ?_ (by assumption) | split) | apply State.Sound.foldlFst | refine State.Sound.ofPair ?_ (by assumption) | split | dsimp only)

theorem State.noLayer_sound (h : s.Sound p) : ∀ x1, (State.noLayer s x1).Sound p := by
  intros
  unfold State.noLayer
  with_reducible repeat' (first | intro _ | assumption | apply State.setFld_sound | apply State.Sound.foldl | apply State.Sound.ite | (apply State.Sound.mk' <;> first | rfl | assumption | apply State.setFld_sound | apply State.Sound.ite | apply State.Sound.foldl | refine State.Sound.ofPair ?_ (by assumption) | split) | apply State.Sound.foldlFst | refine State.Sound.ofPair ?_ (by assumption) | split | dsimp only)

theorem State.trainedCol_sound (h : s.Sound p) : ∀ x1 x2, (State.trainedCol s x1 x2).Sound p := by
  intros
  unfold State.trainedCol
  with_reducible repeat' (first | intro _ | assumption | apply State.setCal_sound | apply State.noteGain_sound | apply State.Sound.foldl | apply State.Sound.ite | (apply State.Sound.mk' <;> first | rfl | assumption | apply State.setCal_sound | apply State.noteGain_sound | apply State.Sound.ite | apply State.Sound.foldl | refine State.Sound.ofPair ?_ (by assumption) | split) | apply State.Sound.foldlFst | refine State.Sound.ofPair ?_ (by assumption) | split | dsimp only)

theorem State.takeBase_sound (h : s.Sound p) : ∀ x1, (State.takeBase s x1).Sound p := by
  intros
  unfold State.takeBase
  with_reducible repeat' (first | intro _ | assumption | apply State.upTo_sound | apply State.setCal_sound | apply State.Sound.foldl | apply State.Sound.ite | (apply State.Sound.mk' <;> first | rfl | assumption | apply State.upTo_sound | apply State.setCal_sound | apply State.Sound.ite | apply State.Sound.foldl | refine State.Sound.ofPair ?_ (by assumption) | split) | apply State.Sound.foldlFst | refine State.Sound.ofPair ?_ (by assumption) | split | dsimp only)

theorem State.segFail_sound (h : s.Sound p) : ∀ x1 x2, (State.segFail s x1 x2).Sound p := by
  intros
  unfold State.segFail
  with_reducible repeat' (first | intro _ | assumption | apply State.raise_sound | apply State.setFld_sound | apply State.Sound.foldl | apply State.Sound.ite | (apply State.Sound.mk' <;> first | rfl | assumption | apply State.raise_sound | apply State.setFld_sound | apply State.Sound.ite | apply State.Sound.foldl | refine State.Sound.ofPair ?_ (by assumption) | split) | apply State.Sound.foldlFst | refine State.Sound.ofPair ?_ (by assumption) | split | dsimp only)

theorem State.trainCol_sound (h : s.Sound p) : ∀ x1 x2, (State.trainCol s x1 x2).1.Sound p := by
  intros
  unfold State.trainCol
  with_reducible repeat' (first | intro _ | assumption | apply State.trainedCol_sound | apply State.spareNow_sound | apply State.raise_sound | apply State.segFail_sound | apply State.Sound.foldl | apply State.Sound.ite | (apply State.Sound.mk' <;> first | rfl | assumption | apply State.trainedCol_sound | apply State.spareNow_sound | apply State.raise_sound | apply State.segFail_sound | apply State.Sound.ite | apply State.Sound.foldl | refine State.Sound.ofPair ?_ (by assumption) | split) | apply State.Sound.foldlFst | refine State.Sound.ofPair ?_ (by assumption) | split | dsimp only)

theorem State.trainCols_sound (h : s.Sound p) : ∀ x1 x2, (State.trainCols s x1 x2).1.Sound p := by
  intros
  unfold State.trainCols
  with_reducible repeat' (first | intro _ | assumption | apply State.trainCol_sound | apply State.Sound.foldl | apply State.Sound.ite | (apply State.Sound.mk' <;> first | rfl | assumption | apply State.trainCol_sound | apply State.Sound.ite | apply State.Sound.foldl | refine State.Sound.ofPair ?_ (by assumption) | split) | apply State.Sound.foldlFst | refine State.Sound.ofPair ?_ (by assumption) | split | dsimp only)

theorem State.bundleTrained_sound (h : s.Sound p) : ∀ x1 x2, (State.bundleTrained s x1 x2).Sound p := by
  intros
  unfold State.bundleTrained
  with_reducible repeat' (first | intro _ | assumption | apply State.modBund_sound | apply State.setCol_sound | apply State.preAll_sound | apply State.sendSrx_sound | apply State.reside_sound | apply State.modChan_sound | apply State.Sound.foldl | apply State.Sound.ite | (apply State.Sound.mk' <;> first | rfl | assumption | apply State.modBund_sound | apply State.setCol_sound | apply State.preAll_sound | apply State.sendSrx_sound | apply State.reside_sound | apply State.modChan_sound | apply State.Sound.ite | apply State.Sound.foldl | refine State.Sound.ofPair ?_ (by assumption) | split) | apply State.Sound.foldlFst | refine State.Sound.ofPair ?_ (by assumption) | split | dsimp only)

theorem State.trainFlags_sound (h : s.Sound p) : (State.trainFlags s).Sound p := by
  unfold State.trainFlags
  with_reducible repeat' (first | intro _ | assumption | apply State.upTo_sound | apply State.setFlag_sound | apply State.Sound.foldl | apply State.Sound.ite | (apply State.Sound.mk' <;> first | rfl | assumption | apply State.upTo_sound | apply State.setFlag_sound | apply State.Sound.ite | apply State.Sound.foldl | refine State.Sound.ofPair ?_ (by assumption) | split) | apply State.Sound.foldlFst | refine State.Sound.ofPair ?_ (by assumption) | split | dsimp only)

theorem State.endTraining_sound (h : s.Sound p) : ∀ x1 x2, (State.endTraining s x1 x2).Sound p := by
  intros
  unfold State.endTraining
  with_reducible repeat' (first | intro _ | assumption | apply State.bundleTrained_sound | apply State.trainFlags_sound | apply State.Sound.foldl | apply State.Sound.ite | (apply State.Sound.mk' <;> first | rfl | assumption | apply State.bundleTrained_sound | apply State.trainFlags_sound | apply State.Sound.ite | apply State.Sound.foldl | refine State.Sound.ofPair ?_ (by assumption) | split) | apply State.Sound.foldlFst | refine State.Sound.ofPair ?_ (by assumption) | split | dsimp only)

theorem State.afterV2_sound (h : s.Sound p) : ∀ x1 x2, (State.afterV2 s x1 x2).1.Sound p := by
  intros
  unfold State.afterV2
  with_reducible repeat' (first | intro _ | assumption | apply State.upTo_sound | apply State.discover_sound | apply State.noLayer_sound | apply State.setFld_sound | apply State.Sound.foldl | apply State.Sound.ite | (apply State.Sound.mk' <;> first | rfl | assumption | apply State.upTo_sound | apply State.discover_sound | apply State.noLayer_sound | apply State.setFld_sound | apply State.Sound.ite | apply State.Sound.foldl | refine State.Sound.ofPair ?_ (by assumption) | split) | apply State.Sound.foldlFst | refine State.Sound.ofPair ?_ (by assumption) | split | dsimp only)

theorem State.setSiteWord_sound (h : s.Sound p) : ∀ x1 x2, (State.setSiteWord s x1 x2).Sound p := by
  intros
  unfold State.setSiteWord
  with_reducible repeat' (first | intro _ | assumption | apply State.setFld_sound | apply State.Sound.foldl | apply State.Sound.ite | (apply State.Sound.mk' <;> first | rfl | assumption | apply State.setFld_sound | apply State.Sound.ite | apply State.Sound.foldl | refine State.Sound.ofPair ?_ (by assumption) | split) | apply State.Sound.foldlFst | refine State.Sound.ofPair ?_ (by assumption) | split | dsimp only)

theorem State.moveSite_sound (h : s.Sound p) : ∀ x1 x2, (State.moveSite s x1 x2).1.Sound p := by
  intros
  unfold State.moveSite
  with_reducible repeat' (first | intro _ | assumption | apply State.repSet_sound | apply State.setSiteWord_sound | apply State.Sound.foldl | apply State.Sound.ite | (apply State.Sound.mk' <;> first | rfl | assumption | apply State.repSet_sound | apply State.setSiteWord_sound | apply State.Sound.ite | apply State.Sound.foldl | refine State.Sound.ofPair ?_ (by assumption) | split) | apply State.Sound.foldlFst | refine State.Sound.ofPair ?_ (by assumption) | split | dsimp only)

theorem State.spineReady_sound (h : s.Sound p) : ∀ x1, (State.spineReady s x1).Sound p := by
  intros
  unfold State.spineReady
  with_reducible repeat' (first | intro _ | assumption | apply State.moveSite_sound | apply State.Sound.foldl | apply State.Sound.ite | (apply State.Sound.mk' <;> first | rfl | assumption | apply State.moveSite_sound | apply State.Sound.ite | apply State.Sound.foldl | refine State.Sound.ofPair ?_ (by assumption) | split) | apply State.Sound.foldlFst | refine State.Sound.ofPair ?_ (by assumption) | split | dsimp only)

theorem State.spinePhase_sound (h : s.Sound p) : ∀ x1 x2, (State.spinePhase s x1 x2).1.Sound p := by
  intros
  unfold State.spinePhase
  with_reducible repeat' (first | intro _ | assumption | apply State.setFld_sound | apply State.moveSite_sound | apply State.spineReady_sound | apply State.upTo_sound | apply State.setcfg_sound | apply State.Sound.foldl | apply State.Sound.ite | (apply State.Sound.mk' <;> first | rfl | assumption | apply State.setFld_sound | apply State.moveSite_sound | apply State.spineReady_sound | apply State.upTo_sound | apply State.setcfg_sound | apply State.Sound.ite | apply State.Sound.foldl | refine State.Sound.ofPair ?_ (by assumption) | split) | apply State.Sound.foldlFst | refine State.Sound.ofPair ?_ (by assumption) | split | dsimp only)

theorem State.endPhase_sound (h : s.Sound p) : ∀ x1, (State.endPhase s x1).Sound p := by
  intros
  unfold State.endPhase
  with_reducible repeat' (first | intro _ | assumption | apply State.spinePhase_sound | apply State.endTraining_sound | apply State.segFail_sound | apply State.afterV2_sound | apply State.trainCols_sound | apply State.setWitRef_sound | apply State.takeBase_sound | apply State.latency_sound | apply State.Sound.foldl | apply State.Sound.ite | (apply State.Sound.mk' <;> first | rfl | assumption | apply State.spinePhase_sound | apply State.endTraining_sound | apply State.segFail_sound | apply State.afterV2_sound | apply State.trainCols_sound | apply State.setWitRef_sound | apply State.takeBase_sound | apply State.latency_sound | apply State.Sound.ite | apply State.Sound.foldl | refine State.Sound.ofPair ?_ (by assumption) | split) | apply State.Sound.foldlFst | refine State.Sound.ofPair ?_ (by assumption) | split | dsimp only)

theorem execRelayLossDeclared_sound (h : s.Sound p) : ∀ x0 x1, Out.Sound p (execRelayLossDeclared x0 x1 s) := by
  intros
  unfold execRelayLossDeclared
  with_reducible repeat' (first | intro _ | assumption | apply State.raise_sound | apply State.setFld_sound | apply State.bump_sound | apply State.reside_sound | apply State.modChan_sound | apply State.modBund_sound | apply State.sendCfg_sound | apply State.Sound.foldl | apply Out.Sound.next | apply State.Sound.ite | (apply State.Sound.mk' <;> first | rfl | assumption | apply State.raise_sound | apply State.setFld_sound | apply State.bump_sound | apply State.reside_sound | apply State.modChan_sound | apply State.modBund_sound | apply State.sendCfg_sound | apply State.Sound.ite | apply State.Sound.foldl | refine State.Sound.ofPair ?_ (by assumption) | split) | apply State.Sound.foldlFst | refine State.Sound.ofPair ?_ (by assumption) | split | dsimp only)

theorem execRelayFlagRestored_sound (h : s.Sound p) : ∀ x0 x1, Out.Sound p (execRelayFlagRestored x0 x1 s) := by
  intros
  unfold execRelayFlagRestored
  with_reducible repeat' (first | intro _ | assumption | apply State.setFld_sound | apply State.startTraining_sound | apply State.Sound.foldl | apply Out.Sound.next | apply State.Sound.ite | (apply State.Sound.mk' <;> first | rfl | assumption | apply State.setFld_sound | apply State.startTraining_sound | apply State.Sound.ite | apply State.Sound.foldl | refine State.Sound.ofPair ?_ (by assumption) | split) | apply State.Sound.foldlFst | refine State.Sound.ofPair ?_ (by assumption) | split | dsimp only)

theorem execHrepIssue_sound (h : s.Sound p) : ∀ x0, Out.Sound p (execHrepIssue x0 s) := by
  intros
  unfold execHrepIssue
  with_reducible repeat' (first | intro _ | assumption | apply State.sendRep_sound | apply State.Sound.foldl | apply Out.Sound.next | apply State.Sound.ite | (apply State.Sound.mk' <;> first | rfl | assumption | apply State.sendRep_sound | apply State.Sound.ite | apply State.Sound.foldl | refine State.Sound.ofPair ?_ (by assumption) | split) | apply State.Sound.foldlFst | refine State.Sound.ofPair ?_ (by assumption) | split | dsimp only)

theorem State.hrepEnd_sound (h : s.Sound p) : ∀ x1 x2, (State.hrepEnd s x1 x2).Sound p := by
  intros
  unfold State.hrepEnd
  with_reducible repeat' (first | intro _ | assumption | apply State.repSet_sound | apply State.bump_sound | apply State.raise_sound | apply State.Sound.foldl | apply State.Sound.ite | (apply State.Sound.mk' <;> first | rfl | assumption | apply State.repSet_sound | apply State.bump_sound | apply State.raise_sound | apply State.Sound.ite | apply State.Sound.foldl | refine State.Sound.ofPair ?_ (by assumption) | split) | apply State.Sound.foldlFst | refine State.Sound.ofPair ?_ (by assumption) | split | dsimp only)

theorem execHrepTimeout_sound (h : s.Sound p) : ∀ x0, Out.Sound p (execHrepTimeout x0 s) := by
  intros
  unfold execHrepTimeout
  with_reducible repeat' (first | intro _ | assumption | apply State.hrepEnd_sound | apply State.Sound.foldl | apply Out.Sound.next | apply State.Sound.ite | (apply State.Sound.mk' <;> first | rfl | assumption | apply State.hrepEnd_sound | apply State.Sound.ite | apply State.Sound.foldl | refine State.Sound.ofPair ?_ (by assumption) | split) | apply State.Sound.foldlFst | refine State.Sound.ofPair ?_ (by assumption) | split | dsimp only)

theorem State.modCfg_sound (h : s.Sound p) : ∀ x1 x2, (State.modCfg s x1 x2).Sound p := by
  intros
  unfold State.modCfg
  with_reducible repeat' (first | intro _ | assumption | apply State.Sound.foldl | apply State.Sound.ite | (apply State.Sound.mk' <;> first | rfl | assumption | apply State.Sound.ite | apply State.Sound.foldl | refine State.Sound.ofPair ?_ (by assumption) | split) | apply State.Sound.foldlFst | refine State.Sound.ofPair ?_ (by assumption) | split | dsimp only)

theorem State.dropCfg_sound (h : s.Sound p) : ∀ x1, (State.dropCfg s x1).Sound p := by
  intros
  unfold State.dropCfg
  with_reducible repeat' (first | intro _ | assumption | apply State.Sound.foldl | apply State.Sound.ite | (apply State.Sound.mk' <;> first | rfl | assumption | apply State.Sound.ite | apply State.Sound.foldl | refine State.Sound.ofPair ?_ (by assumption) | split) | apply State.Sound.foldlFst | refine State.Sound.ofPair ?_ (by assumption) | split | dsimp only)

theorem State.coreBack_sound (h : s.Sound p) : ∀ x1 x2, (State.coreBack s x1 x2).Sound p := by
  intros
  unfold State.coreBack
  with_reducible repeat' (first | intro _ | assumption | apply State.upTo_sound | apply State.sendSrx_sound | apply State.sendTiming_sound | apply State.raise_sound | apply State.Sound.foldl | apply State.Sound.ite | (apply State.Sound.mk' <;> first | rfl | assumption | apply State.upTo_sound | apply State.sendSrx_sound | apply State.sendTiming_sound | apply State.raise_sound | apply State.Sound.ite | apply State.Sound.foldl | refine State.Sound.ofPair ?_ (by assumption) | split) | apply State.Sound.foldlFst | refine State.Sound.ofPair ?_ (by assumption) | split | dsimp only)

theorem State.softFail_sound (h : s.Sound p) : ∀ x1 x2 x3, (State.softFail s x1 x2 x3).Sound p := by
  intros
  unfold State.softFail
  with_reducible repeat' (first | intro _ | assumption | apply State.markBad_sound | apply State.exhausted_sound | apply State.repDel_sound | apply State.sendRep_sound | apply State.repSet_sound | apply State.Sound.foldl | apply State.Sound.ite | (apply State.Sound.mk' <;> first | rfl | assumption | apply State.markBad_sound | apply State.exhausted_sound | apply State.repDel_sound | apply State.sendRep_sound | apply State.repSet_sound | apply State.Sound.ite | apply State.Sound.foldl | refine State.Sound.ofPair ?_ (by assumption) | split) | apply State.Sound.foldlFst | refine State.Sound.ofPair ?_ (by assumption) | split | dsimp only)

theorem State.coreFields_sound (h : s.Sound p) : ∀ x1, (State.coreFields s x1).Sound p := by
  intros
  unfold State.coreFields
  with_reducible repeat' (first | intro _ | assumption | apply State.resetBlk_sound | apply State.Sound.foldl | apply State.Sound.ite | (apply State.Sound.mk' <;> first | rfl | assumption | apply State.resetBlk_sound | apply State.Sound.ite | apply State.Sound.foldl | refine State.Sound.ofPair ?_ (by assumption) | split) | apply State.Sound.foldlFst | refine State.Sound.ofPair ?_ (by assumption) | split | dsimp only)

theorem State.cfgDone_sound (h : s.Sound p) : ∀ x1 x2, (State.cfgDone s x1 x2).Sound p := by
  intros
  unfold State.cfgDone
  with_reducible repeat' (first | intro _ | assumption | apply State.switchAck_sound | apply State.migSrep_sound | apply State.softFail_sound | apply State.repSet_sound | apply State.marchResume_sound | apply State.hrepEnd_sound | apply State.sendCfg_sound | apply State.coreFields_sound | apply State.Sound.foldl | apply State.Sound.ite | (apply State.Sound.mk' <;> first | rfl | assumption | apply State.switchAck_sound | apply State.migSrep_sound | apply State.softFail_sound | apply State.repSet_sound | apply State.marchResume_sound | apply State.hrepEnd_sound | apply State.sendCfg_sound | apply State.coreFields_sound | apply State.Sound.ite | apply State.Sound.foldl | refine State.Sound.ofPair ?_ (by assumption) | split) | apply State.Sound.foldlFst | refine State.Sound.ofPair ?_ (by assumption) | split | dsimp only)

theorem State.pollFailed_sound (h : s.Sound p) : ∀ x1, (State.pollFailed s x1).Sound p := by
  intros
  unfold State.pollFailed
  with_reducible repeat' (first | intro _ | assumption | apply State.tempPoll_sound | apply State.modThm_sound | apply State.Sound.foldl | apply State.Sound.ite | (apply State.Sound.mk' <;> first | rfl | assumption | apply State.tempPoll_sound | apply State.modThm_sound | apply State.Sound.ite | apply State.Sound.foldl | refine State.Sound.ofPair ?_ (by assumption) | split) | apply State.Sound.foldlFst | refine State.Sound.ofPair ?_ (by assumption) | split | dsimp only)

theorem execCfghRx_sound (h : s.Sound p) : ∀ x0 x1 x2 x3 x4, Out.Sound p (execCfghRx x0 x1 x2 x3 x4 s) := by
  intros
  unfold execCfghRx
  with_reducible repeat' (first | intro _ | assumption | apply State.stale_sound | apply State.pollFailed_sound | apply State.dropCfg_sound | apply State.modCfg_sound | apply State.Sound.foldl | apply Out.Sound.next | apply State.Sound.ite | (apply State.Sound.mk' <;> first | rfl | assumption | apply State.stale_sound | apply State.pollFailed_sound | apply State.dropCfg_sound | apply State.modCfg_sound | apply State.Sound.ite | apply State.Sound.foldl | refine State.Sound.ofPair ?_ (by assumption) | split) | apply State.Sound.foldlFst | refine State.Sound.ofPair ?_ (by assumption) | split | dsimp only)

theorem execCfgdRx_sound (h : s.Sound p) : ∀ x0 x1, Out.Sound p (execCfgdRx x0 x1 s) := by
  intros
  unfold execCfgdRx
  with_reducible repeat' (first | intro _ | assumption | apply State.stale_sound | apply State.modCfg_sound | apply State.dropCfg_sound | apply State.coreBack_sound | apply State.tempPoll_sound | apply State.modThm_sound | apply State.witness_sound | apply State.Sound.foldl | apply Out.Sound.next | apply State.Sound.ite | (apply State.Sound.mk' <;> first | rfl | assumption | apply State.stale_sound | apply State.modCfg_sound | apply State.dropCfg_sound | apply State.coreBack_sound | apply State.tempPoll_sound | apply State.modThm_sound | apply State.witness_sound | apply State.Sound.ite | apply State.Sound.foldl | refine State.Sound.ofPair ?_ (by assumption) | split) | apply State.Sound.foldlFst | refine State.Sound.ofPair ?_ (by assumption) | split | dsimp only)

theorem execCdoneRx_sound (h : s.Sound p) : ∀ x0 x1 x2 x3 x4, Out.Sound p (execCdoneRx x0 x1 x2 x3 x4 s) := by
  intros
  unfold execCdoneRx
  with_reducible repeat' (first | intro _ | assumption | apply State.stale_sound | apply State.launchCfg_sound | apply State.cfgDone_sound | apply State.dropCfg_sound | apply State.Sound.foldl | apply Out.Sound.next | apply State.Sound.ite | (apply State.Sound.mk' <;> first | rfl | assumption | apply State.stale_sound | apply State.launchCfg_sound | apply State.cfgDone_sound | apply State.dropCfg_sound | apply State.Sound.ite | apply State.Sound.foldl | refine State.Sound.ofPair ?_ (by assumption) | split) | apply State.Sound.foldlFst | refine State.Sound.ofPair ?_ (by assumption) | split | dsimp only)

theorem State.cfgMissed_sound (h : s.Sound p) : ∀ x1, (State.cfgMissed s x1).Sound p := by
  intros
  unfold State.cfgMissed
  with_reducible repeat' (first | intro _ | assumption | apply State.pollFailed_sound | apply State.dropCfg_sound | apply State.launchCfg_sound | apply State.modCfg_sound | apply State.coreBack_sound | apply State.noLayer_sound | apply State.cfgDone_sound | apply State.Sound.foldl | apply State.Sound.ite | (apply State.Sound.mk' <;> first | rfl | assumption | apply State.pollFailed_sound | apply State.dropCfg_sound | apply State.launchCfg_sound | apply State.modCfg_sound | apply State.coreBack_sound | apply State.noLayer_sound | apply State.cfgDone_sound | apply State.Sound.ite | apply State.Sound.foldl | refine State.Sound.ofPair ?_ (by assumption) | split) | apply State.Sound.foldlFst | refine State.Sound.ofPair ?_ (by assumption) | split | dsimp only)

theorem execConfigResponseMissed_sound (h : s.Sound p) : ∀ x0, Out.Sound p (execConfigResponseMissed x0 s) := by
  intros
  unfold execConfigResponseMissed
  with_reducible repeat' (first | intro _ | assumption | apply State.cfgMissed_sound | apply State.Sound.foldl | apply Out.Sound.next | apply State.Sound.ite | (apply State.Sound.mk' <;> first | rfl | assumption | apply State.cfgMissed_sound | apply State.Sound.ite | apply State.Sound.foldl | refine State.Sound.ofPair ?_ (by assumption) | split) | apply State.Sound.foldlFst | refine State.Sound.ofPair ?_ (by assumption) | split | dsimp only)

theorem execCerrRx_sound (h : s.Sound p) : ∀ x0 x1 x2 x3, Out.Sound p (execCerrRx x0 x1 x2 x3 s) := by
  intros
  unfold execCerrRx
  with_reducible repeat' (first | intro _ | assumption | apply State.raise_sound | apply State.bump_sound | apply State.cfgMissed_sound | apply State.Sound.foldl | apply Out.Sound.next | apply State.Sound.ite | (apply State.Sound.mk' <;> first | rfl | assumption | apply State.raise_sound | apply State.bump_sound | apply State.cfgMissed_sound | apply State.Sound.ite | apply State.Sound.foldl | refine State.Sound.ofPair ?_ (by assumption) | split) | apply State.Sound.foldlFst | refine State.Sound.ofPair ?_ (by assumption) | split | dsimp only)

theorem State.alarmCause_sound (h : s.Sound p) : ∀ x1 x2 x3, (State.alarmCause s x1 x2 x3).Sound p := by
  intros
  unfold State.alarmCause
  with_reducible repeat' (first | intro _ | assumption | apply State.bump_sound | apply State.hrepEnd_sound | apply State.upTo_sound | apply State.raise_sound | apply State.modRef_sound | apply State.Sound.foldl | apply State.Sound.ite | (apply State.Sound.mk' <;> first | rfl | assumption | apply State.bump_sound | apply State.hrepEnd_sound | apply State.upTo_sound | apply State.raise_sound | apply State.modRef_sound | apply State.Sound.ite | apply State.Sound.foldl | refine State.Sound.ofPair ?_ (by assumption) | split) | apply State.Sound.foldlFst | refine State.Sound.ofPair ?_ (by assumption) | split | dsimp only)

theorem execAlrmRx_sound (h : s.Sound p) : ∀ x0 x1 x2 x3 x4, Out.Sound p (execAlrmRx x0 x1 x2 x3 x4 s) := by
  intros
  unfold execAlrmRx
  with_reducible repeat' (first | intro _ | assumption | apply State.launch_sound | apply State.setFld_sound | apply State.repeatRefresh_sound | apply State.raise_sound | apply State.bump_sound | apply State.alarmCause_sound | apply State.Sound.foldl | apply Out.Sound.next | apply State.Sound.ite | (apply State.Sound.mk' <;> first | rfl | assumption | apply State.launch_sound | apply State.setFld_sound | apply State.repeatRefresh_sound | apply State.raise_sound | apply State.bump_sound | apply State.alarmCause_sound | apply State.Sound.ite | apply State.Sound.foldl | refine State.Sound.ofPair ?_ (by assumption) | split) | apply State.Sound.foldlFst | refine State.Sound.ofPair ?_ (by assumption) | split | dsimp only)

/-! ### Nvm -/

theorem State.charge_sound (h : s.Sound p) : ∀ x1, (State.charge s x1).1.Sound p := by
  intros
  unfold State.charge
  with_reducible repeat' (first | intro _ | assumption | apply State.setFld_sound | apply State.journal_sound | apply State.Sound.foldl | apply State.Sound.ite | (apply State.Sound.mk' <;> first | rfl | assumption | apply State.setFld_sound | apply State.journal_sound | apply State.Sound.ite | apply State.Sound.foldl | refine State.Sound.ofPair ?_ (by assumption) | split) | apply State.Sound.foldlFst | refine State.Sound.ofPair ?_ (by assumption) | split | dsimp only)

theorem State.noteDeferred_sound (h : s.Sound p) : (State.noteDeferred s).Sound p := by
  unfold State.noteDeferred
  with_reducible repeat' (first | intro _ | assumption | apply State.raise_sound | apply State.bump_sound | apply State.Sound.foldl | apply State.Sound.ite | (apply State.Sound.mk' <;> first | rfl | assumption | apply State.raise_sound | apply State.bump_sound | apply State.Sound.ite | apply State.Sound.foldl | refine State.Sound.ofPair ?_ (by assumption) | split) | apply State.Sound.foldlFst | refine State.Sound.ofPair ?_ (by assumption) | split | dsimp only)

theorem State.nvmKick_sound (h : s.Sound p) : (State.nvmKick s).Sound p := by
  unfold State.nvmKick
  with_reducible repeat' (first | intro _ | assumption | apply State.noteDeferred_sound | apply State.charge_sound | apply State.Sound.foldl | apply State.Sound.ite | (apply State.Sound.mk' <;> first | rfl | assumption | apply State.noteDeferred_sound | apply State.charge_sound | apply State.Sound.ite | apply State.Sound.foldl | refine State.Sound.ofPair ?_ (by assumption) | split) | apply State.Sound.foldlFst | refine State.Sound.ofPair ?_ (by assumption) | split | dsimp only)

theorem State.nvmAdd_sound (h : s.Sound p) : ∀ x1, (State.nvmAdd s x1).Sound p := by
  intros
  unfold State.nvmAdd
  with_reducible repeat' (first | intro _ | assumption | apply State.nvmKick_sound | apply State.Sound.foldl | apply State.Sound.ite | (apply State.Sound.mk' <;> first | rfl | assumption | apply State.nvmKick_sound | apply State.Sound.ite | apply State.Sound.foldl | refine State.Sound.ofPair ?_ (by assumption) | split) | apply State.Sound.foldlFst | refine State.Sound.ofPair ?_ (by assumption) | split | dsimp only)

theorem State.commitRep_sound (h : s.Sound p) : (State.commitRep s).Sound p := by
  unfold State.commitRep
  with_reducible repeat' (first | intro _ | assumption | apply State.raise_sound | apply State.nvmAdd_sound | apply State.Sound.foldl | apply State.Sound.ite | (apply State.Sound.mk' <;> first | rfl | assumption | apply State.raise_sound | apply State.nvmAdd_sound | apply State.Sound.ite | apply State.Sound.foldl | refine State.Sound.ofPair ?_ (by assumption) | split) | apply State.Sound.foldlFst | refine State.Sound.ofPair ?_ (by assumption) | split | dsimp only)

theorem State.commitCal_sound (h : s.Sound p) : (State.commitCal s).Sound p := by
  unfold State.commitCal
  with_reducible repeat' (first | intro _ | assumption | apply State.nvmAdd_sound | apply State.Sound.foldl | apply State.Sound.ite | (apply State.Sound.mk' <;> first | rfl | assumption | apply State.nvmAdd_sound | apply State.Sound.ite | apply State.Sound.foldl | refine State.Sound.ofPair ?_ (by assumption) | split) | apply State.Sound.foldlFst | refine State.Sound.ofPair ?_ (by assumption) | split | dsimp only)

theorem State.repCommitted_sound (h : s.Sound p) : ∀ x1, (State.repCommitted s x1).Sound p := by
  intros
  unfold State.repCommitted
  with_reducible repeat' (first | intro _ | assumption | apply State.setFld_sound | apply State.bump_sound | apply State.journalDelta_sound | apply State.journal_sound | apply State.Sound.foldl | apply State.Sound.ite | (apply State.Sound.mk' <;> first | rfl | assumption | apply State.setFld_sound | apply State.bump_sound | apply State.journalDelta_sound | apply State.journal_sound | apply State.Sound.ite | apply State.Sound.foldl | refine State.Sound.ofPair ?_ (by assumption) | split) | apply State.Sound.foldlFst | refine State.Sound.ofPair ?_ (by assumption) | split | dsimp only)

theorem State.calCommitted_sound (h : s.Sound p) : ∀ x1, (State.calCommitted s x1).Sound p := by
  intros
  unfold State.calCommitted
  with_reducible repeat' (first | intro _ | assumption | apply State.setFld_sound | apply State.journal_sound | apply State.Sound.foldl | apply State.Sound.ite | (apply State.Sound.mk' <;> first | rfl | assumption | apply State.setFld_sound | apply State.journal_sound | apply State.Sound.ite | apply State.Sound.foldl | refine State.Sound.ofPair ?_ (by assumption) | split) | apply State.Sound.foldlFst | refine State.Sound.ofPair ?_ (by assumption) | split | dsimp only)

theorem State.showSeal_sound (h : s.Sound p) : ∀ x1, (State.showSeal s x1).Sound p := by
  intros
  unfold State.showSeal
  with_reducible repeat' (first | intro _ | assumption | apply State.setFld_sound | apply State.Sound.foldl | apply State.Sound.ite | (apply State.Sound.mk' <;> first | rfl | assumption | apply State.setFld_sound | apply State.Sound.ite | apply State.Sound.foldl | refine State.Sound.ofPair ?_ (by assumption) | split) | apply State.Sound.foldlFst | refine State.Sound.ofPair ?_ (by assumption) | split | dsimp only)

theorem State.writeSeal_sound (h : s.Sound p) : ∀ x1, (State.writeSeal s x1).Sound p := by
  intros
  unfold State.writeSeal
  with_reducible repeat' (first | intro _ | assumption | apply State.nvmAdd_sound | apply State.Sound.foldl | apply State.Sound.ite | (apply State.Sound.mk' <;> first | rfl | assumption | apply State.nvmAdd_sound | apply State.Sound.ite | apply State.Sound.foldl | refine State.Sound.ofPair ?_ (by assumption) | split) | apply State.Sound.foldlFst | refine State.Sound.ofPair ?_ (by assumption) | split | dsimp only)

theorem State.abortTest_sound (h : s.Sound p) : ∀ x1, (State.abortTest s x1).Sound p := by
  intros
  unfold State.abortTest
  with_reducible repeat' (first | intro _ | assumption | apply State.setFld_sound | apply State.raise_sound | apply State.bump_sound | apply State.eachChan_sound | apply State.setTest_sound | apply State.stopMarch_sound | apply State.writeSeal_sound | apply State.Sound.foldl | apply State.Sound.ite | (apply State.Sound.mk' <;> first | rfl | assumption | apply State.setFld_sound | apply State.raise_sound | apply State.bump_sound | apply State.eachChan_sound | apply State.setTest_sound | apply State.stopMarch_sound | apply State.writeSeal_sound | apply State.Sound.ite | apply State.Sound.foldl | refine State.Sound.ofPair ?_ (by assumption) | split) | apply State.Sound.foldlFst | refine State.Sound.ofPair ?_ (by assumption) | split | dsimp only)

theorem State.sealWritten_sound (h : s.Sound p) : ∀ x1, (State.sealWritten s x1).Sound p := by
  intros
  unfold State.sealWritten
  with_reducible repeat' (first | intro _ | assumption | apply State.showSeal_sound | apply State.setFld_sound | apply State.Sound.foldl | apply State.Sound.ite | (apply State.Sound.mk' <;> first | rfl | assumption | apply State.showSeal_sound | apply State.setFld_sound | apply State.Sound.ite | apply State.Sound.foldl | refine State.Sound.ofPair ?_ (by assumption) | split) | apply State.Sound.foldlFst | refine State.Sound.ofPair ?_ (by assumption) | split | dsimp only)

theorem State.sealFailed_sound (h : s.Sound p) : ∀ x1, (State.sealFailed s x1).Sound p := by
  intros
  unfold State.sealFailed
  with_reducible repeat' (first | intro _ | assumption | apply State.abortTest_sound | apply State.raise_sound | apply State.setFld_sound | apply State.Sound.foldl | apply State.Sound.ite | (apply State.Sound.mk' <;> first | rfl | assumption | apply State.abortTest_sound | apply State.raise_sound | apply State.setFld_sound | apply State.Sound.ite | apply State.Sound.foldl | refine State.Sound.ofPair ?_ (by assumption) | split) | apply State.Sound.foldlFst | refine State.Sound.ofPair ?_ (by assumption) | split | dsimp only)

theorem State.nvmDone_sound (h : s.Sound p) : ∀ x1 x2, (State.nvmDone s x1 x2).Sound p := by
  intros
  unfold State.nvmDone
  with_reducible repeat' (first | intro _ | assumption | apply State.sealWritten_sound | apply State.setFld_sound | apply State.bump_sound | apply State.commitRep_sound | apply State.repCommitted_sound | apply State.calCommitted_sound | apply State.upTo_sound | apply State.Sound.foldl | apply State.Sound.ite | (apply State.Sound.mk' <;> first | rfl | assumption | apply State.sealWritten_sound | apply State.setFld_sound | apply State.bump_sound | apply State.commitRep_sound | apply State.repCommitted_sound | apply State.calCommitted_sound | apply State.upTo_sound | apply State.Sound.ite | apply State.Sound.foldl | refine State.Sound.ofPair ?_ (by assumption) | split) | apply State.Sound.foldlFst | refine State.Sound.ofPair ?_ (by assumption) | split | dsimp only)

theorem State.nvmFailed_sound (h : s.Sound p) : ∀ x1, (State.nvmFailed s x1).Sound p := by
  intros
  unfold State.nvmFailed
  with_reducible repeat' (first | intro _ | assumption | apply State.sealFailed_sound | apply State.setFld_sound | apply State.journalDelta_sound | apply State.raise_sound | apply State.Sound.foldl | apply State.Sound.ite | (apply State.Sound.mk' <;> first | rfl | assumption | apply State.sealFailed_sound | apply State.setFld_sound | apply State.journalDelta_sound | apply State.raise_sound | apply State.Sound.ite | apply State.Sound.foldl | refine State.Sound.ofPair ?_ (by assumption) | split) | apply State.Sound.foldlFst | refine State.Sound.ofPair ?_ (by assumption) | split | dsimp only)

theorem execNvmStepComplete_sound (h : s.Sound p) : ∀ x0, Out.Sound p (execNvmStepComplete x0 s) := by
  intros
  unfold execNvmStepComplete
  with_reducible repeat' (first | intro _ | assumption | apply State.bump_sound | apply State.nvmKick_sound | apply State.raise_sound | apply State.nvmFailed_sound | apply State.nvmDone_sound | apply State.Sound.foldl | apply Out.Sound.next | apply State.Sound.ite | (apply State.Sound.mk' <;> first | rfl | assumption | apply State.bump_sound | apply State.nvmKick_sound | apply State.raise_sound | apply State.nvmFailed_sound | apply State.nvmDone_sound | apply State.Sound.ite | apply State.Sound.foldl | refine State.Sound.ofPair ?_ (by assumption) | split) | apply State.Sound.foldlFst | refine State.Sound.ofPair ?_ (by assumption) | split | dsimp only)

theorem execWearCreditAccrual_sound (h : s.Sound p) : Out.Sound p (execWearCreditAccrual s) := by
  unfold execWearCreditAccrual
  with_reducible repeat' (first | intro _ | assumption | apply State.upTo_sound | apply State.setFld_sound | apply State.nvmKick_sound | apply State.Sound.foldl | apply Out.Sound.next | apply State.Sound.ite | (apply State.Sound.mk' <;> first | rfl | assumption | apply State.upTo_sound | apply State.setFld_sound | apply State.nvmKick_sound | apply State.Sound.ite | apply State.Sound.foldl | refine State.Sound.ofPair ?_ (by assumption) | split) | apply State.Sound.foldlFst | refine State.Sound.ofPair ?_ (by assumption) | split | dsimp only)

theorem execCalPeriodExpiry_sound (h : s.Sound p) : Out.Sound p (execCalPeriodExpiry s) := by
  unfold execCalPeriodExpiry
  with_reducible repeat' (first | intro _ | assumption | apply State.commitCal_sound | apply State.Sound.foldl | apply Out.Sound.next | apply State.Sound.ite | (apply State.Sound.mk' <;> first | rfl | assumption | apply State.commitCal_sound | apply State.Sound.ite | apply State.Sound.foldl | refine State.Sound.ofPair ?_ (by assumption) | split) | apply State.Sound.foldlFst | refine State.Sound.ofPair ?_ (by assumption) | split | dsimp only)

theorem execRepCommitDelayExpiry_sound (h : s.Sound p) : Out.Sound p (execRepCommitDelayExpiry s) := by
  unfold execRepCommitDelayExpiry
  with_reducible repeat' (first | intro _ | assumption | apply State.commitRep_sound | apply State.Sound.foldl | apply Out.Sound.next | apply State.Sound.ite | (apply State.Sound.mk' <;> first | rfl | assumption | apply State.commitRep_sound | apply State.Sound.ite | apply State.Sound.foldl | refine State.Sound.ofPair ?_ (by assumption) | split) | apply State.Sound.foldlFst | refine State.Sound.ofPair ?_ (by assumption) | split | dsimp only)

theorem execSealAgeMark_sound (h : s.Sound p) : Out.Sound p (execSealAgeMark s) := by
  unfold execSealAgeMark
  with_reducible repeat' (first | intro _ | assumption | apply State.nvmKick_sound | apply State.journal_sound | apply State.Sound.foldl | apply Out.Sound.next | apply State.Sound.ite | (apply State.Sound.mk' <;> first | rfl | assumption | apply State.nvmKick_sound | apply State.journal_sound | apply State.Sound.ite | apply State.Sound.foldl | refine State.Sound.ofPair ?_ (by assumption) | split) | apply State.Sound.foldlFst | refine State.Sound.ofPair ?_ (by assumption) | split | dsimp only)

theorem State.replaceMapRow_sound (h : s.Sound p) : ∀ x1, (State.replaceMapRow s x1).Sound p := by
  intros
  unfold State.replaceMapRow
  with_reducible repeat' (first | intro _ | assumption | apply State.raise_sound | apply State.setFld_sound | apply State.bump_sound | apply State.Sound.foldl | apply State.Sound.ite | (apply State.Sound.mk' <;> first | rfl | assumption | apply State.raise_sound | apply State.setFld_sound | apply State.bump_sound | apply State.Sound.ite | apply State.Sound.foldl | refine State.Sound.ofPair ?_ (by assumption) | split) | apply State.Sound.foldlFst | refine State.Sound.ofPair ?_ (by assumption) | split | dsimp only)

theorem execVmapRowReplace_sound (h : s.Sound p) : ∀ x0 x1, Out.Sound p (execVmapRowReplace x0 x1 s) := by
  intros
  unfold execVmapRowReplace
  with_reducible repeat' (first | intro _ | assumption | apply State.upTo_sound | apply State.setVByte_sound | apply State.replaceMapRow_sound | apply State.raise_sound | apply State.Sound.foldl | apply Out.Sound.next | apply State.Sound.ite | (apply State.Sound.mk' <;> first | rfl | assumption | apply State.upTo_sound | apply State.setVByte_sound | apply State.replaceMapRow_sound | apply State.raise_sound | apply State.Sound.ite | apply State.Sound.foldl | refine State.Sound.ofPair ?_ (by assumption) | split) | apply State.Sound.foldlFst | refine State.Sound.ofPair ?_ (by assumption) | split | dsimp only)

theorem execVmapSweepDone_sound (h : s.Sound p) : Out.Sound p (execVmapSweepDone s) := by
  unfold execVmapSweepDone
  with_reducible repeat' (first | intro _ | assumption | apply State.setFld_sound | apply State.Sound.foldl | apply Out.Sound.next | apply State.Sound.ite | (apply State.Sound.mk' <;> first | rfl | assumption | apply State.setFld_sound | apply State.Sound.ite | apply State.Sound.foldl | refine State.Sound.ofPair ?_ (by assumption) | split) | apply State.Sound.foldlFst | refine State.Sound.ofPair ?_ (by assumption) | split | dsimp only)

end Sys2Proof.Machine
end

