-- ==== Sys2Proof/Laws/SoundH.lean ====
section
/-! SUPPORT. The queue and the invariant through every operation of SelfTest, Stores, Power, Starts. -/
namespace Sys2Proof.Machine

set_option linter.all false

variable {p : List Instr × Prop} {s : State}

/-! ### SelfTest -/

theorem State.startTest_sound (h : s.Sound p) : ∀ x1 x2 x3, (State.startTest s x1 x2 x3).Sound p := by
  intros
  unfold State.startTest
  with_reducible repeat' (first | intro _ | assumption | apply State.bump_sound | apply State.setFld_sound | apply State.endChTest_sound | apply State.abortTest_sound | apply State.writeSeal_sound | apply State.setTest_sound | apply State.Sound.foldl | apply State.Sound.ite | (apply State.Sound.mk' <;> first | rfl | assumption | apply State.bump_sound | apply State.setFld_sound | apply State.endChTest_sound | apply State.abortTest_sound | apply State.writeSeal_sound | apply State.setTest_sound | apply State.Sound.ite | apply State.Sound.foldl | refine State.Sound.ofPair ?_ (by assumption) | split) | apply State.Sound.foldlFst | refine State.Sound.ofPair ?_ (by assumption) | split | dsimp only)

theorem State.loopFail_sound (h : s.Sound p) : ∀ x1 x2, (State.loopFail s x1 x2).Sound p := by
  intros
  unfold State.loopFail
  with_reducible repeat' (first | intro _ | assumption | apply State.raise_sound | apply State.bump_sound | apply State.spareNow_sound | apply State.Sound.foldl | apply State.Sound.ite | (apply State.Sound.mk' <;> first | rfl | assumption | apply State.raise_sound | apply State.bump_sound | apply State.spareNow_sound | apply State.Sound.ite | apply State.Sound.foldl | refine State.Sound.ofPair ?_ (by assumption) | split) | apply State.Sound.foldlFst | refine State.Sound.ofPair ?_ (by assumption) | split | dsimp only)

theorem State.engineBad_sound (h : s.Sound p) : ∀ x1, (State.engineBad s x1).Sound p := by
  intros
  unfold State.engineBad
  with_reducible repeat' (first | intro _ | assumption | apply State.dropEngine_sound | apply State.repSet_sound | apply State.setFld_sound | apply State.Sound.foldl | apply State.Sound.ite | (apply State.Sound.mk' <;> first | rfl | assumption | apply State.dropEngine_sound | apply State.repSet_sound | apply State.setFld_sound | apply State.Sound.ite | apply State.Sound.foldl | refine State.Sound.ofPair ?_ (by assumption) | split) | apply State.Sound.foldlFst | refine State.Sound.ofPair ?_ (by assumption) | split | dsimp only)

theorem State.logicFail_sound (h : s.Sound p) : ∀ x1, (State.logicFail s x1).Sound p := by
  intros
  unfold State.logicFail
  with_reducible repeat' (first | intro _ | assumption | apply State.raise_sound | apply State.bump_sound | apply State.engineBad_sound | apply State.Sound.foldl | apply State.Sound.ite | (apply State.Sound.mk' <;> first | rfl | assumption | apply State.raise_sound | apply State.bump_sound | apply State.engineBad_sound | apply State.Sound.ite | apply State.Sound.foldl | refine State.Sound.ofPair ?_ (by assumption) | split) | apply State.Sound.foldlFst | refine State.Sound.ofPair ?_ (by assumption) | split | dsimp only)

theorem State.beginMarch_sound (h : s.Sound p) : (State.beginMarch s).Sound p := by
  unfold State.beginMarch
  with_reducible repeat' (first | intro _ | assumption | apply State.startMarch_sound | apply State.setDomain_sound | apply State.sendSrx_sound | apply State.modRef_sound | apply State.Sound.foldl | apply State.Sound.ite | (apply State.Sound.mk' <;> first | rfl | assumption | apply State.startMarch_sound | apply State.setDomain_sound | apply State.sendSrx_sound | apply State.modRef_sound | apply State.Sound.ite | apply State.Sound.foldl | refine State.Sound.ofPair ?_ (by assumption) | split) | apply State.Sound.foldlFst | refine State.Sound.ofPair ?_ (by assumption) | split | dsimp only)

theorem State.powerEngines_sound (h : s.Sound p) : ∀ x1, (State.powerEngines s x1).Sound p := by
  intros
  unfold State.powerEngines
  with_reducible repeat' (first | intro _ | assumption | apply State.upTo_sound | apply State.setDomain_sound | apply State.Sound.foldl | apply State.Sound.ite | (apply State.Sound.mk' <;> first | rfl | assumption | apply State.upTo_sound | apply State.setDomain_sound | apply State.Sound.ite | apply State.Sound.foldl | refine State.Sound.ofPair ?_ (by assumption) | split) | apply State.Sound.foldlFst | refine State.Sound.ofPair ?_ (by assumption) | split | dsimp only)

theorem State.logicEnd_sound (h : s.Sound p) : ∀ x1, (State.logicEnd s x1).Sound p := by
  intro misr
  have h1 := State.Sound.noMap (v := { (s.powerEngines false).vmap with mem := [] }) (State.powerEngines_sound h false) rfl
  unfold State.logicEnd
  with_reducible apply State.upTo_sound
  · with_reducible apply State.setFld_sound
    with_reducible apply State.setFld_sound
    with_reducible apply State.addSteps_sound
    exact h1
  · intro i s hs
    exact State.Sound.ite hs (State.logicFail_sound hs i)

theorem execBstPartComplete_sound (h : s.Sound p) : ∀ x0, Out.Sound p (execBstPartComplete x0 s) := by
  intros
  unfold execBstPartComplete
  with_reducible repeat' (first | intro _ | assumption | apply State.setFld_sound | apply State.loopFail_sound | apply State.addSteps_sound | apply State.abortTest_sound | apply State.beginMarch_sound | apply State.powerEngines_sound | apply State.commitRep_sound | apply State.logicEnd_sound | apply State.writeSeal_sound | apply State.setTest_sound | apply State.Sound.foldl | apply Out.Sound.next | apply State.Sound.ite | (apply State.Sound.mk' <;> first | rfl | assumption | apply State.setFld_sound | apply State.loopFail_sound | apply State.addSteps_sound | apply State.abortTest_sound | apply State.beginMarch_sound | apply State.powerEngines_sound | apply State.commitRep_sound | apply State.logicEnd_sound | apply State.writeSeal_sound | apply State.setTest_sound | apply State.Sound.ite | apply State.Sound.foldl | refine State.Sound.ofPair ?_ (by assumption) | split) | apply State.Sound.foldlFst | refine State.Sound.ofPair ?_ (by assumption) | split | dsimp only)

theorem State.checkReach_sound (h : s.Sound p) : (State.checkReach s).Sound p := by
  unfold State.checkReach
  with_reducible repeat' (first | intro _ | assumption | apply State.abortTest_sound | apply State.Sound.foldl | apply State.Sound.ite | (apply State.Sound.mk' <;> first | rfl | assumption | apply State.abortTest_sound | apply State.Sound.ite | apply State.Sound.foldl | refine State.Sound.ofPair ?_ (by assumption) | split) | apply State.Sound.foldlFst | refine State.Sound.ofPair ?_ (by assumption) | split | dsimp only)

theorem execVtrainPhaseComplete_sound (h : s.Sound p) : ∀ x0, Out.Sound p (execVtrainPhaseComplete x0 s) := by
  intros
  unfold execVtrainPhaseComplete
  with_reducible repeat' (first | intro _ | assumption | apply State.checkReach_sound | apply State.endPhase_sound | apply State.Sound.foldl | apply Out.Sound.next | apply State.Sound.ite | (apply State.Sound.mk' <;> first | rfl | assumption | apply State.checkReach_sound | apply State.endPhase_sound | apply State.Sound.ite | apply State.Sound.foldl | refine State.Sound.ofPair ?_ (by assumption) | split) | apply State.Sound.foldlFst | refine State.Sound.ofPair ?_ (by assumption) | split | dsimp only)

theorem execStartupTestRetry_sound (h : s.Sound p) : ∀ x0 x1, Out.Sound p (execStartupTestRetry x0 x1 s) := by
  intros
  unfold execStartupTestRetry
  with_reducible repeat' (first | intro _ | assumption | apply State.startTest_sound | apply State.Sound.foldl | apply Out.Sound.next | apply State.Sound.ite | (apply State.Sound.mk' <;> first | rfl | assumption | apply State.startTest_sound | apply State.Sound.ite | apply State.Sound.foldl | refine State.Sound.ofPair ?_ (by assumption) | split) | apply State.Sound.foldlFst | refine State.Sound.ofPair ?_ (by assumption) | split | dsimp only)

theorem State.startChTest_sound (h : s.Sound p) : ∀ x1, (State.startChTest s x1).Sound p := by
  intros
  unfold State.startChTest
  with_reducible repeat' (first | intro _ | assumption | apply State.setFld_sound | apply State.setTest_sound | apply State.bump_sound | apply State.Sound.foldl | apply State.Sound.ite | (apply State.Sound.mk' <;> first | rfl | assumption | apply State.setFld_sound | apply State.setTest_sound | apply State.bump_sound | apply State.Sound.ite | apply State.Sound.foldl | refine State.Sound.ofPair ?_ (by assumption) | split) | apply State.Sound.foldlFst | refine State.Sound.ofPair ?_ (by assumption) | split | dsimp only)

theorem State.stopChTest_sound (h : s.Sound p) : ∀ x1, (State.stopChTest s x1).Sound p := by
  intros
  unfold State.stopChTest
  with_reducible repeat' (first | intro _ | assumption | apply State.endChTest_sound | apply State.Sound.foldl | apply State.Sound.ite | (apply State.Sound.mk' <;> first | rfl | assumption | apply State.endChTest_sound | apply State.Sound.ite | apply State.Sound.foldl | refine State.Sound.ofPair ?_ (by assumption) | split) | apply State.Sound.foldlFst | refine State.Sound.ofPair ?_ (by assumption) | split | dsimp only)

theorem State.abortChTest_sound (h : s.Sound p) : ∀ x1, (State.abortChTest s x1).Sound p := by
  intros
  unfold State.abortChTest
  with_reducible repeat' (first | intro _ | assumption | apply State.raise_sound | apply State.bump_sound | apply State.setFld_sound | apply State.stopChTest_sound | apply State.Sound.foldl | apply State.Sound.ite | (apply State.Sound.mk' <;> first | rfl | assumption | apply State.raise_sound | apply State.bump_sound | apply State.setFld_sound | apply State.stopChTest_sound | apply State.Sound.ite | apply State.Sound.foldl | refine State.Sound.ofPair ?_ (by assumption) | split) | apply State.Sound.foldlFst | refine State.Sound.ofPair ?_ (by assumption) | split | dsimp only)

/-! ### Stores -/

theorem State.loadSeal_sound (h : s.Sound p) : ∀ x1, (State.loadSeal s x1).Sound p := by
  intros
  unfold State.loadSeal
  with_reducible repeat' (first | intro _ | assumption | apply State.setFld_sound | apply State.showSeal_sound | apply State.Sound.foldl | apply State.Sound.ite | (apply State.Sound.mk' <;> first | rfl | assumption | apply State.setFld_sound | apply State.showSeal_sound | apply State.Sound.ite | apply State.Sound.foldl | refine State.Sound.ofPair ?_ (by assumption) | split) | apply State.Sound.foldlFst | refine State.Sound.ofPair ?_ (by assumption) | split | dsimp only)

theorem State.loadCal_sound (h : s.Sound p) : ∀ x1, (State.loadCal s x1).Sound p := by
  intros
  unfold State.loadCal
  with_reducible repeat' (first | intro _ | assumption | apply State.setFlag_sound | apply State.setFld_sound | apply State.Sound.foldl | apply State.Sound.ite | (apply State.Sound.mk' <;> first | rfl | assumption | apply State.setFlag_sound | apply State.setFld_sound | apply State.Sound.ite | apply State.Sound.foldl | refine State.Sound.ofPair ?_ (by assumption) | split) | apply State.Sound.foldlFst | refine State.Sound.ofPair ?_ (by assumption) | split | dsimp only)

theorem State.loadSlots_sound (h : s.Sound p) : ∀ x1, (State.loadSlots s x1).Sound p := by
  intros
  unfold State.loadSlots
  with_reducible repeat' (first | intro _ | assumption | apply State.setFld_sound | apply State.setFlag_sound | apply State.Sound.foldl | apply State.Sound.ite | (apply State.Sound.mk' <;> first | rfl | assumption | apply State.setFld_sound | apply State.setFlag_sound | apply State.Sound.ite | apply State.Sound.foldl | refine State.Sound.ofPair ?_ (by assumption) | split) | apply State.Sound.foldlFst | refine State.Sound.ofPair ?_ (by assumption) | split | dsimp only)

theorem State.loadHold_sound (h : s.Sound p) : ∀ x1 x2, (State.loadHold s x1 x2).Sound p := by
  intros
  unfold State.loadHold
  with_reducible repeat' (first | intro _ | assumption | apply State.setFld_sound | apply State.setFlag_sound | apply State.Sound.foldl | apply State.Sound.ite | (apply State.Sound.mk' <;> first | rfl | assumption | apply State.setFld_sound | apply State.setFlag_sound | apply State.Sound.ite | apply State.Sound.foldl | refine State.Sound.ofPair ?_ (by assumption) | split) | apply State.Sound.foldlFst | refine State.Sound.ofPair ?_ (by assumption) | split | dsimp only)

theorem State.repCopies_sound (h : s.Sound p) : ∀ x1, (State.repCopies s x1).1.Sound p := by
  intros
  unfold State.repCopies
  with_reducible repeat' (first | intro _ | assumption | apply State.setFlag_sound | apply State.Sound.foldl | apply State.Sound.ite | (apply State.Sound.mk' <;> first | rfl | assumption | apply State.setFlag_sound | apply State.Sound.ite | apply State.Sound.foldl | refine State.Sound.ofPair ?_ (by assumption) | split) | apply State.Sound.foldlFst | refine State.Sound.ofPair ?_ (by assumption) | split | dsimp only)

theorem State.loadRep_sound (h : s.Sound p) : ∀ x1 x2 x3, (State.loadRep s x1 x2 x3).Sound p := by
  intros
  unfold State.loadRep
  with_reducible repeat' (first | intro _ | assumption | apply State.setFld_sound | apply State.raise_sound | apply State.Sound.foldl | apply State.Sound.ite | (apply State.Sound.mk' <;> first | rfl | assumption | apply State.setFld_sound | apply State.raise_sound | apply State.Sound.ite | apply State.Sound.foldl | refine State.Sound.ofPair ?_ (by assumption) | split) | apply State.Sound.foldlFst | refine State.Sound.ofPair ?_ (by assumption) | split | dsimp only)

theorem State.loadJrn_sound (h : s.Sound p) : ∀ x1, (State.loadJrn s x1).Sound p := by
  intros
  unfold State.loadJrn
  with_reducible repeat' (first | intro _ | assumption | apply State.setFld_sound | apply State.Sound.foldl | apply State.Sound.ite | (apply State.Sound.mk' <;> first | rfl | assumption | apply State.setFld_sound | apply State.Sound.ite | apply State.Sound.foldl | refine State.Sound.ofPair ?_ (by assumption) | split) | apply State.Sound.foldlFst | refine State.Sound.ofPair ?_ (by assumption) | split | dsimp only)

theorem State.loadAge_sound (h : s.Sound p) : ∀ x1, (State.loadAge s x1).Sound p := by
  intros
  unfold State.loadAge
  with_reducible repeat' (first | intro _ | assumption | apply State.setFld_sound | apply State.Sound.foldl | apply State.Sound.ite | (apply State.Sound.mk' <;> first | rfl | assumption | apply State.setFld_sound | apply State.Sound.ite | apply State.Sound.foldl | refine State.Sound.ofPair ?_ (by assumption) | split) | apply State.Sound.foldlFst | refine State.Sound.ofPair ?_ (by assumption) | split | dsimp only)

theorem State.loadStores_sound (h : s.Sound p) : ∀ x1, (State.loadStores s x1).Sound p := by
  intros
  unfold State.loadStores
  with_reducible repeat' (first | intro _ | assumption | apply State.loadSlots_sound | apply State.loadCal_sound | apply State.repCopies_sound | apply State.loadRep_sound | apply State.loadSeal_sound | apply State.loadJrn_sound | apply State.loadHold_sound | apply State.loadAge_sound | apply State.nvmAdd_sound | apply State.Sound.foldl | apply State.Sound.ite | (apply State.Sound.mk' <;> first | rfl | assumption | apply State.loadSlots_sound | apply State.loadCal_sound | apply State.repCopies_sound | apply State.loadRep_sound | apply State.loadSeal_sound | apply State.loadJrn_sound | apply State.loadHold_sound | apply State.loadAge_sound | apply State.nvmAdd_sound | apply State.Sound.ite | apply State.Sound.foldl | refine State.Sound.ofPair ?_ (by assumption) | split) | apply State.Sound.foldlFst | refine State.Sound.ofPair ?_ (by assumption) | split | dsimp only)

/-! ### Power -/

theorem State.holdNone_sound (h : s.Sound p) : (State.holdNone s).Sound p := by
  unfold State.holdNone
  with_reducible repeat' (first | intro _ | assumption | apply State.setFld_sound | apply State.Sound.foldl | apply State.Sound.ite | (apply State.Sound.mk' <;> first | rfl | assumption | apply State.setFld_sound | apply State.Sound.ite | apply State.Sound.foldl | refine State.Sound.ofPair ?_ (by assumption) | split) | apply State.Sound.foldlFst | refine State.Sound.ofPair ?_ (by assumption) | split | dsimp only)

theorem State.holdEntry_sound (h : s.Sound p) : ∀ x1 x2, (State.holdEntry s x1 x2).Sound p := by
  intro rail sample
  unfold State.holdEntry
  dsimp only
  split
  · exact h
  · apply State.setFld_sound
    apply State.setFld_sound
    apply State.setFld_sound
    have h1 := State.abortTest_sound (State.raise_sound (State.bump_sound h Fld.PWR_CNT_COUNT 0 3 1) .pwrSag 0 (thmInfo sample rail 0)) 4
    have h2 := fun t (ht : State.Sound p t) => State.resetRegs_sound ht .por darkBlk
    generalize (((s.bump Fld.PWR_CNT_COUNT 0 3).raise .pwrSag 0 (thmInfo sample rail 0)).abortTest 4) = u at h1 ⊢
    have h3 := h2 _ (State.Sound.ite (c := (if u.nvm.loaded = true then u.nvm.desig else none).isNone = true) (State.holdNone_sound h1) h1)
    exact ⟨h3.pending, fun q => { h3.inv q with trks := rfl, chans := rfl, bund := rfl, layers := rfl, snap := rfl, vmap := ⟨rfl, fun _ he => nomatch he⟩ }⟩

theorem execSupplySag_sound (h : s.Sound p) : ∀ x0 x1, Out.Sound p (execSupplySag x0 x1 s) := by
  intros
  unfold execSupplySag
  with_reducible repeat' (first | intro _ | assumption | apply State.holdEntry_sound | apply State.Sound.foldl | apply Out.Sound.next | apply State.Sound.ite | (apply State.Sound.mk' <;> first | rfl | assumption | apply State.holdEntry_sound | apply State.Sound.ite | apply State.Sound.foldl | refine State.Sound.ofPair ?_ (by assumption) | split) | apply State.Sound.foldlFst | refine State.Sound.ofPair ?_ (by assumption) | split | dsimp only)

theorem execRefclkLoss_sound (h : s.Sound p) : Out.Sound p (execRefclkLoss s) := by
  unfold execRefclkLoss
  with_reducible repeat' (first | intro _ | assumption | apply State.holdEntry_sound | apply State.Sound.foldl | apply Out.Sound.next | apply State.Sound.ite | (apply State.Sound.mk' <;> first | rfl | assumption | apply State.holdEntry_sound | apply State.Sound.ite | apply State.Sound.foldl | refine State.Sound.ofPair ?_ (by assumption) | split) | apply State.Sound.foldlFst | refine State.Sound.ofPair ?_ (by assumption) | split | dsimp only)

theorem State.modHold_sound (h : s.Sound p) : ∀ x1, (State.modHold s x1).Sound p := by
  intros
  unfold State.modHold
  with_reducible repeat' (first | intro _ | assumption | apply State.Sound.foldl | apply State.Sound.ite | (apply State.Sound.mk' <;> first | rfl | assumption | apply State.Sound.ite | apply State.Sound.foldl | refine State.Sound.ofPair ?_ (by assumption) | split) | apply State.Sound.foldlFst | refine State.Sound.ofPair ?_ (by assumption) | split | dsimp only)

theorem execHoldSaveNvmReady_sound (h : s.Sound p) : Out.Sound p (execHoldSaveNvmReady s) := by
  unfold execHoldSaveNvmReady
  with_reducible repeat' (first | intro _ | assumption | apply State.modHold_sound | apply State.Sound.foldl | apply Out.Sound.next | apply State.Sound.ite | (apply State.Sound.mk' <;> first | rfl | assumption | apply State.modHold_sound | apply State.Sound.ite | apply State.Sound.foldl | refine State.Sound.ofPair ?_ (by assumption) | split) | apply State.Sound.foldlFst | refine State.Sound.ofPair ?_ (by assumption) | split | dsimp only)

theorem execHoldSavePageDone_sound (h : s.Sound p) : Out.Sound p (execHoldSavePageDone s) := by
  unfold execHoldSavePageDone
  with_reducible repeat' (first | intro _ | assumption | apply State.modHold_sound | apply State.Sound.foldl | apply Out.Sound.next | apply State.Sound.ite | (apply State.Sound.mk' <;> first | rfl | assumption | apply State.modHold_sound | apply State.Sound.ite | apply State.Sound.foldl | refine State.Sound.ofPair ?_ (by assumption) | split) | apply State.Sound.foldlFst | refine State.Sound.ofPair ?_ (by assumption) | split | dsimp only)

theorem execHoldSavePageTimeout_sound (h : s.Sound p) : Out.Sound p (execHoldSavePageTimeout s) := by
  unfold execHoldSavePageTimeout
  with_reducible repeat' (first | intro _ | assumption | apply State.modHold_sound | apply State.Sound.foldl | apply Out.Sound.next | apply State.Sound.ite | (apply State.Sound.mk' <;> first | rfl | assumption | apply State.modHold_sound | apply State.Sound.ite | apply State.Sound.foldl | refine State.Sound.ofPair ?_ (by assumption) | split) | apply State.Sound.foldlFst | refine State.Sound.ofPair ?_ (by assumption) | split | dsimp only)

theorem State.porStart_sound (h : s.Sound p) : (State.porStart s).Sound p := by
  unfold State.porStart
  with_reducible repeat' (first | intro _ | assumption | apply State.porReset_sound | apply State.beginStart_sound | apply State.Sound.foldl | apply State.Sound.ite | (apply State.Sound.mk' <;> first | rfl | assumption | apply State.porReset_sound | apply State.beginStart_sound | apply State.Sound.ite | apply State.Sound.foldl | refine State.Sound.ofPair ?_ (by assumption) | split) | apply State.Sound.foldlFst | refine State.Sound.ofPair ?_ (by assumption) | split | dsimp only)

theorem execPwrGoodRise_sound (h : s.Sound p) : Out.Sound p (execPwrGoodRise s) := by
  unfold execPwrGoodRise
  with_reducible repeat' (first | intro _ | assumption | apply State.porStart_sound | apply State.Sound.foldl | apply Out.Sound.next | apply State.Sound.ite | (apply State.Sound.mk' <;> first | rfl | assumption | apply State.porStart_sound | apply State.Sound.ite | apply State.Sound.foldl | refine State.Sound.ofPair ?_ (by assumption) | split) | apply State.Sound.foldlFst | refine State.Sound.ofPair ?_ (by assumption) | split | dsimp only)

theorem execHoldExitPor_sound (h : s.Sound p) : Out.Sound p (execHoldExitPor s) := by
  unfold execHoldExitPor
  with_reducible repeat' (first | intro _ | assumption | apply State.porStart_sound | apply State.Sound.foldl | apply Out.Sound.next | apply State.Sound.ite | (apply State.Sound.mk' <;> first | rfl | assumption | apply State.porStart_sound | apply State.Sound.ite | apply State.Sound.foldl | refine State.Sound.ofPair ?_ (by assumption) | split) | apply State.Sound.foldlFst | refine State.Sound.ofPair ?_ (by assumption) | split | dsimp only)

theorem execSupplyRemoved_sound (h : s.Sound p) : Out.Sound p (execSupplyRemoved s) := by
  unfold execSupplyRemoved
  with_reducible repeat' (first | intro _ | assumption | apply State.porReset_sound | apply State.Sound.foldl | apply Out.Sound.next | apply State.Sound.ite | (apply State.Sound.mk' <;> first | rfl | assumption | apply State.porReset_sound | apply State.Sound.ite | apply State.Sound.foldl | refine State.Sound.ofPair ?_ (by assumption) | split) | apply State.Sound.foldlFst | refine State.Sound.ofPair ?_ (by assumption) | split | dsimp only)

theorem execResetNFall_sound (h : s.Sound p) : Out.Sound p (execResetNFall s) := by
  unfold execResetNFall
  with_reducible repeat' (first | intro _ | assumption | apply State.deviceReset_sound | apply State.Sound.foldl | apply Out.Sound.next | apply State.Sound.ite | (apply State.Sound.mk' <;> first | rfl | assumption | apply State.deviceReset_sound | apply State.Sound.ite | apply State.Sound.foldl | refine State.Sound.ofPair ?_ (by assumption) | split) | apply State.Sound.foldlFst | refine State.Sound.ofPair ?_ (by assumption) | split | dsimp only)

theorem execResetNRise_sound (h : s.Sound p) : Out.Sound p (execResetNRise s) := by
  unfold execResetNRise
  with_reducible repeat' (first | intro _ | assumption | apply State.beginStart_sound | apply State.Sound.foldl | apply Out.Sound.next | apply State.Sound.ite | (apply State.Sound.mk' <;> first | rfl | assumption | apply State.beginStart_sound | apply State.Sound.ite | apply State.Sound.foldl | refine State.Sound.ofPair ?_ (by assumption) | split) | apply State.Sound.foldlFst | refine State.Sound.ofPair ?_ (by assumption) | split | dsimp only)

theorem execChipResetHoldEnd_sound (h : s.Sound p) : Out.Sound p (execChipResetHoldEnd s) := by
  unfold execChipResetHoldEnd
  with_reducible repeat' (first | intro _ | assumption | apply State.setFld_sound | apply State.beginStart_sound | apply State.Sound.foldl | apply Out.Sound.next | apply State.Sound.ite | (apply State.Sound.mk' <;> first | rfl | assumption | apply State.setFld_sound | apply State.beginStart_sound | apply State.Sound.ite | apply State.Sound.foldl | refine State.Sound.ofPair ?_ (by assumption) | split) | apply State.Sound.foldlFst | refine State.Sound.ofPair ?_ (by assumption) | split | dsimp only)

/-! ### Starts -/

theorem State.toStage_sound (h : s.Sound p) : ∀ x1, (State.toStage s x1).Sound p := by
  intros
  unfold State.toStage
  with_reducible repeat' (first | intro _ | assumption | apply State.setFld_sound | apply State.Sound.foldl | apply State.Sound.ite | (apply State.Sound.mk' <;> first | rfl | assumption | apply State.setFld_sound | apply State.Sound.ite | apply State.Sound.foldl | refine State.Sound.ofPair ?_ (by assumption) | split) | apply State.Sound.foldlFst | refine State.Sound.ofPair ?_ (by assumption) | split | dsimp only)

theorem execStageB0Service_sound (h : s.Sound p) : Out.Sound p (execStageB0Service s) := by
  unfold execStageB0Service
  with_reducible repeat' (first | intro _ | assumption | apply State.toStage_sound | apply State.Sound.foldl | apply Out.Sound.next | apply State.Sound.ite | (apply State.Sound.mk' <;> first | rfl | assumption | apply State.toStage_sound | apply State.Sound.ite | apply State.Sound.foldl | refine State.Sound.ofPair ?_ (by assumption) | split) | apply State.Sound.foldlFst | refine State.Sound.ofPair ?_ (by assumption) | split | dsimp only)

theorem State.stopStart_sound (h : s.Sound p) : (State.stopStart s).Sound p := by
  unfold State.stopStart
  with_reducible repeat' (first | intro _ | assumption | apply State.setFld_sound | apply State.Sound.foldl | apply State.Sound.ite | (apply State.Sound.mk' <;> first | rfl | assumption | apply State.setFld_sound | apply State.Sound.ite | apply State.Sound.foldl | refine State.Sound.ofPair ?_ (by assumption) | split) | apply State.Sound.foldlFst | refine State.Sound.ofPair ?_ (by assumption) | split | dsimp only)

theorem State.showPairs_sound (h : s.Sound p) : (State.showPairs s).Sound p := by
  unfold State.showPairs
  with_reducible repeat' (first | intro _ | assumption | apply State.setFld_sound | apply State.Sound.foldl | apply State.Sound.ite | (apply State.Sound.mk' <;> first | rfl | assumption | apply State.setFld_sound | apply State.Sound.ite | apply State.Sound.foldl | refine State.Sound.ofPair ?_ (by assumption) | split) | apply State.Sound.foldlFst | refine State.Sound.ofPair ?_ (by assumption) | split | dsimp only)

theorem State.applyCopy_sound (h : s.Sound p) : (State.applyCopy s).Sound p := by
  unfold State.applyCopy
  with_reducible repeat' (first | intro _ | assumption | apply State.setFld_sound | apply State.showPairs_sound | apply State.Sound.foldl | apply State.Sound.ite | (apply State.Sound.mk' <;> first | rfl | assumption | apply State.setFld_sound | apply State.showPairs_sound | apply State.Sound.ite | apply State.Sound.foldl | refine State.Sound.ofPair ?_ (by assumption) | split) | apply State.Sound.foldlFst | refine State.Sound.ofPair ?_ (by assumption) | split | dsimp only)

theorem State.startPilots_sound (h : s.Sound p) : (State.startPilots s).Sound p := by
  unfold State.startPilots
  with_reducible repeat' (first | intro _ | assumption | apply State.startTrack_sound | apply State.Sound.foldl | apply State.Sound.ite | (apply State.Sound.mk' <;> first | rfl | assumption | apply State.startTrack_sound | apply State.Sound.ite | apply State.Sound.foldl | refine State.Sound.ofPair ?_ (by assumption) | split) | apply State.Sound.foldlFst | refine State.Sound.ofPair ?_ (by assumption) | split | dsimp only)

theorem execStageB1Image_sound (h : s.Sound p) : ∀ x0, Out.Sound p (execStageB1Image x0 s) := by
  intros
  unfold execStageB1Image
  with_reducible repeat' (first | intro _ | assumption | apply State.stopStart_sound | apply State.raise_sound | apply State.setFld_sound | apply State.applyCopy_sound | apply State.loadStores_sound | apply State.applyImage_sound | apply State.avsStart_sound | apply State.toStage_sound | apply State.startPilots_sound | apply State.Sound.foldl | apply Out.Sound.next | apply State.Sound.ite | (apply State.Sound.mk' <;> first | rfl | assumption | apply State.stopStart_sound | apply State.raise_sound | apply State.setFld_sound | apply State.applyCopy_sound | apply State.loadStores_sound | apply State.applyImage_sound | apply State.avsStart_sound | apply State.toStage_sound | apply State.startPilots_sound | apply State.Sound.ite | apply State.Sound.foldl | refine State.Sound.ofPair ?_ (by assumption) | split) | apply State.Sound.foldlFst | refine State.Sound.ofPair ?_ (by assumption) | split | dsimp only)

theorem State.seedCal_sound (h : s.Sound p) : (State.seedCal s).Sound p := by
  unfold State.seedCal
  with_reducible repeat' (first | intro _ | assumption | apply State.upTo_sound | apply State.setFld_sound | apply State.setCol_sound | apply State.Sound.foldl | apply State.Sound.ite | (apply State.Sound.mk' <;> first | rfl | assumption | apply State.upTo_sound | apply State.setFld_sound | apply State.setCol_sound | apply State.Sound.ite | apply State.Sound.foldl | refine State.Sound.ofPair ?_ (by assumption) | split) | apply State.Sound.foldlFst | refine State.Sound.ofPair ?_ (by assumption) | split | dsimp only)

theorem State.retiredCol_sound (h : s.Sound p) : ∀ x1, (State.retiredCol s x1).Sound p := by
  intros
  unfold State.retiredCol
  with_reducible repeat' (first | intro _ | assumption | apply State.setCol_sound | apply State.modBund_sound | apply State.Sound.foldl | apply State.Sound.ite | (apply State.Sound.mk' <;> first | rfl | assumption | apply State.setCol_sound | apply State.modBund_sound | apply State.Sound.ite | apply State.Sound.foldl | refine State.Sound.ofPair ?_ (by assumption) | split) | apply State.Sound.foldlFst | refine State.Sound.ofPair ?_ (by assumption) | split | dsimp only)

theorem State.retiredCols_sound (h : s.Sound p) : (State.retiredCols s).Sound p := by
  unfold State.retiredCols
  with_reducible repeat' (first | intro _ | assumption | apply State.retiredCol_sound | apply State.Sound.foldl | apply State.Sound.ite | (apply State.Sound.mk' <;> first | rfl | assumption | apply State.retiredCol_sound | apply State.Sound.ite | apply State.Sound.foldl | refine State.Sound.ofPair ?_ (by assumption) | split) | apply State.Sound.foldlFst | refine State.Sound.ofPair ?_ (by assumption) | split | dsimp only)

theorem State.vqOn_sound (h : s.Sound p) : ∀ x1, (State.vqOn s x1).Sound p := by
  intros
  unfold State.vqOn
  with_reducible repeat' (first | intro _ | assumption | apply State.upTo_sound | apply State.setDomain_sound | apply State.Sound.foldl | apply State.Sound.ite | (apply State.Sound.mk' <;> first | rfl | assumption | apply State.upTo_sound | apply State.setDomain_sound | apply State.Sound.ite | apply State.Sound.foldl | refine State.Sound.ofPair ?_ (by assumption) | split) | apply State.Sound.foldlFst | refine State.Sound.ofPair ?_ (by assumption) | split | dsimp only)

theorem State.beginB2_sound (h : s.Sound p) : (State.beginB2 s).Sound p := by
  unfold State.beginB2
  with_reducible repeat' (first | intro _ | assumption | apply State.vqOn_sound | apply State.retiredCols_sound | apply State.seedCal_sound | apply State.startTraining_sound | apply State.Sound.foldl | apply State.Sound.ite | (apply State.Sound.mk' <;> first | rfl | assumption | apply State.vqOn_sound | apply State.retiredCols_sound | apply State.seedCal_sound | apply State.startTraining_sound | apply State.Sound.ite | apply State.Sound.foldl | refine State.Sound.ofPair ?_ (by assumption) | split) | apply State.Sound.foldlFst | refine State.Sound.ofPair ?_ (by assumption) | split | dsimp only)

theorem State.fixPilot_sound (h : s.Sound p) : (State.fixPilot s).Sound p := by
  unfold State.fixPilot
  with_reducible repeat' (first | intro _ | assumption | apply State.setFld_sound | apply State.Sound.foldl | apply State.Sound.ite | (apply State.Sound.mk' <;> first | rfl | assumption | apply State.setFld_sound | apply State.Sound.ite | apply State.Sound.foldl | refine State.Sound.ofPair ?_ (by assumption) | split) | apply State.Sound.foldlFst | refine State.Sound.ofPair ?_ (by assumption) | split | dsimp only)

theorem State.sealChecks_sound (h : s.Sound p) : (State.sealChecks s).1.Sound p := by
  unfold State.sealChecks
  with_reducible repeat' (first | intro _ | assumption | apply State.setFld_sound | apply State.raise_sound | apply State.Sound.foldl | apply State.Sound.ite | (apply State.Sound.mk' <;> first | rfl | assumption | apply State.setFld_sound | apply State.raise_sound | apply State.Sound.ite | apply State.Sound.foldl | refine State.Sound.ofPair ?_ (by assumption) | split) | apply State.Sound.foldlFst | refine State.Sound.ofPair ?_ (by assumption) | split | dsimp only)

theorem State.journalStart_sound (h : s.Sound p) : ∀ x1, (State.journalStart s x1).Sound p := by
  intros
  unfold State.journalStart
  with_reducible repeat' (first | intro _ | assumption | apply State.journal_sound | apply State.Sound.foldl | apply State.Sound.ite | (apply State.Sound.mk' <;> first | rfl | assumption | apply State.journal_sound | apply State.Sound.ite | apply State.Sound.foldl | refine State.Sound.ofPair ?_ (by assumption) | split) | apply State.Sound.foldlFst | refine State.Sound.ofPair ?_ (by assumption) | split | dsimp only)

theorem State.endB2_sound (h : s.Sound p) : (State.endB2 s).Sound p := by
  unfold State.endB2
  with_reducible repeat' (first | intro _ | assumption | apply State.fixPilot_sound | apply State.setFld_sound | apply State.sealChecks_sound | apply State.journalStart_sound | apply State.commitCal_sound | apply State.upTo_sound | apply State.advance_sound | apply State.toStage_sound | apply State.Sound.foldl | apply State.Sound.ite | (apply State.Sound.mk' <;> first | rfl | assumption | apply State.fixPilot_sound | apply State.setFld_sound | apply State.sealChecks_sound | apply State.journalStart_sound | apply State.commitCal_sound | apply State.upTo_sound | apply State.advance_sound | apply State.toStage_sound | apply State.Sound.ite | apply State.Sound.foldl | refine State.Sound.ofPair ?_ (by assumption) | split) | apply State.Sound.foldlFst | refine State.Sound.ofPair ?_ (by assumption) | split | dsimp only)

theorem execStageB2Stack_sound (h : s.Sound p) : Out.Sound p (execStageB2Stack s) := by
  unfold execStageB2Stack
  with_reducible repeat' (first | intro _ | assumption | apply State.beginB2_sound | apply State.endB2_sound | apply State.Sound.foldl | apply Out.Sound.next | apply State.Sound.ite | (apply State.Sound.mk' <;> first | rfl | assumption | apply State.beginB2_sound | apply State.endB2_sound | apply State.Sound.ite | apply State.Sound.foldl | refine State.Sound.ofPair ?_ (by assumption) | split) | apply State.Sound.foldlFst | refine State.Sound.ofPair ?_ (by assumption) | split | dsimp only)

theorem execStageB3Test_sound (h : s.Sound p) : ∀ x0 x1, Out.Sound p (execStageB3Test x0 x1 s) := by
  intros
  unfold execStageB3Test
  with_reducible repeat' (first | intro _ | assumption | apply State.startTest_sound | apply State.toStage_sound | apply State.startPilots_sound | apply State.Sound.foldl | apply Out.Sound.next | apply State.Sound.ite | (apply State.Sound.mk' <;> first | rfl | assumption | apply State.startTest_sound | apply State.toStage_sound | apply State.startPilots_sound | apply State.Sound.ite | apply State.Sound.foldl | refine State.Sound.ofPair ?_ (by assumption) | split) | apply State.Sound.foldlFst | refine State.Sound.ofPair ?_ (by assumption) | split | dsimp only)

theorem State.retirePending_sound (h : s.Sound p) : (State.retirePending s).Sound p := by
  unfold State.retirePending
  with_reducible repeat' (first | intro _ | assumption | apply State.repSet_sound | apply State.showPairs_sound | apply State.Sound.foldl | apply State.Sound.ite | (apply State.Sound.mk' <;> first | rfl | assumption | apply State.repSet_sound | apply State.showPairs_sound | apply State.Sound.ite | apply State.Sound.foldl | refine State.Sound.ofPair ?_ (by assumption) | split) | apply State.Sound.foldlFst | refine State.Sound.ofPair ?_ (by assumption) | split | dsimp only)

theorem State.chosen_sound (h : s.Sound p) : ∀ x1, (State.chosen s x1).Sound p := by
  intros
  unfold State.chosen
  with_reducible repeat' (first | intro _ | assumption | apply State.repSet_sound | apply State.setFld_sound | apply State.Sound.foldl | apply State.Sound.ite | (apply State.Sound.mk' <;> first | rfl | assumption | apply State.repSet_sound | apply State.setFld_sound | apply State.Sound.ite | apply State.Sound.foldl | refine State.Sound.ofPair ?_ (by assumption) | split) | apply State.Sound.foldlFst | refine State.Sound.ofPair ?_ (by assumption) | split | dsimp only)

theorem State.configurePor_sound (h : s.Sound p) : (State.configurePor s).Sound p := by
  unfold State.configurePor
  with_reducible repeat' (first | intro _ | assumption | apply State.retirePending_sound | apply State.chosen_sound | apply State.setFld_sound | apply State.Sound.foldl | apply State.Sound.ite | (apply State.Sound.mk' <;> first | rfl | assumption | apply State.retirePending_sound | apply State.chosen_sound | apply State.setFld_sound | apply State.Sound.ite | apply State.Sound.foldl | refine State.Sound.ofPair ?_ (by assumption) | split) | apply State.Sound.foldlFst | refine State.Sound.ofPair ?_ (by assumption) | split | dsimp only)

theorem State.configureWarm_sound (h : s.Sound p) : (State.configureWarm s).Sound p := by
  unfold State.configureWarm
  with_reducible repeat' (first | intro _ | assumption | apply State.raise_sound | apply State.setFld_sound | apply State.chosen_sound | apply State.Sound.foldl | apply State.Sound.ite | (apply State.Sound.mk' <;> first | rfl | assumption | apply State.raise_sound | apply State.setFld_sound | apply State.chosen_sound | apply State.Sound.ite | apply State.Sound.foldl | refine State.Sound.ofPair ?_ (by assumption) | split) | apply State.Sound.foldlFst | refine State.Sound.ofPair ?_ (by assumption) | split | dsimp only)

theorem execStageB4Configuration_sound (h : s.Sound p) : Out.Sound p (execStageB4Configuration s) := by
  unfold execStageB4Configuration
  with_reducible repeat' (first | intro _ | assumption | apply State.toStage_sound | apply State.configureWarm_sound | apply State.configurePor_sound | apply State.Sound.foldl | apply Out.Sound.next | apply State.Sound.ite | (apply State.Sound.mk' <;> first | rfl | assumption | apply State.toStage_sound | apply State.configureWarm_sound | apply State.configurePor_sound | apply State.Sound.ite | apply State.Sound.foldl | refine State.Sound.ofPair ?_ (by assumption) | split) | apply State.Sound.foldlFst | refine State.Sound.ofPair ?_ (by assumption) | split | dsimp only)

theorem State.finishMigrating_sound (h : s.Sound p) : ∀ x1, (State.finishMigrating s x1).Sound p := by
  intros
  unfold State.finishMigrating
  with_reducible repeat' (first | intro _ | assumption | apply State.repSet_sound | apply State.raise_sound | apply State.bump_sound | apply State.modChan_sound | apply State.pushRow_sound | apply State.Sound.foldl | apply State.Sound.ite | (apply State.Sound.mk' <;> first | rfl | assumption | apply State.repSet_sound | apply State.raise_sound | apply State.bump_sound | apply State.modChan_sound | apply State.pushRow_sound | apply State.Sound.ite | apply State.Sound.foldl | refine State.Sound.ofPair ?_ (by assumption) | split) | apply State.Sound.foldlFst | refine State.Sound.ofPair ?_ (by assumption) | split | dsimp only)

theorem State.applyGroups_sound (h : s.Sound p) : ∀ x1, (State.applyGroups s x1).Sound p := by
  intros
  unfold State.applyGroups
  with_reducible repeat' (first | intro _ | assumption | apply State.repSet_sound | apply State.repDel_sound | apply State.Sound.foldl | apply State.Sound.ite | (apply State.Sound.mk' <;> first | rfl | assumption | apply State.repSet_sound | apply State.repDel_sound | apply State.Sound.ite | apply State.Sound.foldl | refine State.Sound.ofPair ?_ (by assumption) | split) | apply State.Sound.foldlFst | refine State.Sound.ofPair ?_ (by assumption) | split | dsimp only)

theorem State.wakeChan_sound (h : s.Sound p) : ∀ x1 x2 x3, (State.wakeChan s x1 x2 x3).Sound p := by
  intros
  unfold State.wakeChan
  with_reducible repeat' (first | intro _ | assumption | apply State.setDomain_sound | apply State.sendSrx_sound | apply State.modRef_sound | apply State.Sound.foldl | apply State.Sound.ite | (apply State.Sound.mk' <;> first | rfl | assumption | apply State.setDomain_sound | apply State.sendSrx_sound | apply State.modRef_sound | apply State.Sound.ite | apply State.Sound.foldl | refine State.Sound.ofPair ?_ (by assumption) | split) | apply State.Sound.foldlFst | refine State.Sound.ofPair ?_ (by assumption) | split | dsimp only)

theorem State.poolsOn_sound (h : s.Sound p) : (State.poolsOn s).Sound p := by
  unfold State.poolsOn
  with_reducible repeat' (first | intro _ | assumption | apply State.setDomain_sound | apply State.Sound.foldl | apply State.Sound.ite | (apply State.Sound.mk' <;> first | rfl | assumption | apply State.setDomain_sound | apply State.Sound.ite | apply State.Sound.foldl | refine State.Sound.ofPair ?_ (by assumption) | split) | apply State.Sound.foldlFst | refine State.Sound.ofPair ?_ (by assumption) | split | dsimp only)

theorem State.beginB6_sound (h : s.Sound p) : (State.beginB6 s).Sound p := by
  unfold State.beginB6
  with_reducible repeat' (first | intro _ | assumption | apply State.poolsOn_sound | apply State.finishMigrating_sound | apply State.applyGroups_sound | apply State.wakeChan_sound | apply State.Sound.foldl | apply State.Sound.ite | (apply State.Sound.mk' <;> first | rfl | assumption | apply State.poolsOn_sound | apply State.finishMigrating_sound | apply State.applyGroups_sound | apply State.wakeChan_sound | apply State.Sound.ite | apply State.Sound.foldl | refine State.Sound.ofPair ?_ (by assumption) | split) | apply State.Sound.foldlFst | refine State.Sound.ofPair ?_ (by assumption) | split | dsimp only)

theorem execStageB6Channels_sound (h : s.Sound p) : Out.Sound p (execStageB6Channels s) := by
  unfold execStageB6Channels
  with_reducible repeat' (first | intro _ | assumption | apply State.beginB6_sound | apply State.toStage_sound | apply State.Sound.foldl | apply Out.Sound.next | apply State.Sound.ite | (apply State.Sound.mk' <;> first | rfl | assumption | apply State.beginB6_sound | apply State.toStage_sound | apply State.Sound.ite | apply State.Sound.foldl | refine State.Sound.ofPair ?_ (by assumption) | split) | apply State.Sound.foldlFst | refine State.Sound.ofPair ?_ (by assumption) | split | dsimp only)

theorem State.announce_sound (h : s.Sound p) : ∀ x1, (State.announce s x1).Sound p := by
  intros
  unfold State.announce
  with_reducible repeat' (first | intro _ | assumption | apply State.bump_sound | apply State.setFld_sound | apply State.announceTo_sound | apply State.Sound.foldl | apply State.Sound.ite | (apply State.Sound.mk' <;> first | rfl | assumption | apply State.bump_sound | apply State.setFld_sound | apply State.announceTo_sound | apply State.Sound.ite | apply State.Sound.foldl | refine State.Sound.ofPair ?_ (by assumption) | split) | apply State.Sound.foldlFst | refine State.Sound.ofPair ?_ (by assumption) | split | dsimp only)

theorem execStageB7Widening_sound (h : s.Sound p) : Out.Sound p (execStageB7Widening s) := by
  unfold execStageB7Widening
  with_reducible repeat' (first | intro _ | assumption | apply State.announce_sound | apply State.Sound.foldl | apply Out.Sound.next | apply State.Sound.ite | (apply State.Sound.mk' <;> first | rfl | assumption | apply State.announce_sound | apply State.Sound.ite | apply State.Sound.foldl | refine State.Sound.ofPair ?_ (by assumption) | split) | apply State.Sound.foldlFst | refine State.Sound.ofPair ?_ (by assumption) | split | dsimp only)

theorem State.present_sound (h : s.Sound p) : (State.present s).Sound p := by
  unfold State.present
  with_reducible repeat' (first | intro _ | assumption | apply State.setFld_sound | apply State.Sound.foldl | apply State.Sound.ite | (apply State.Sound.mk' <;> first | rfl | assumption | apply State.setFld_sound | apply State.Sound.ite | apply State.Sound.foldl | refine State.Sound.ofPair ?_ (by assumption) | split) | apply State.Sound.foldlFst | refine State.Sound.ofPair ?_ (by assumption) | split | dsimp only)

theorem State.widen_sound (h : s.Sound p) : ∀ x1, (State.widen s x1).Sound p := by
  intros
  unfold State.widen
  with_reducible repeat' (first | intro _ | assumption | apply State.refillAll_sound | apply State.present_sound | apply State.setFld_sound | apply State.modTrn_sound | apply State.startTrack_sound | apply State.commitRep_sound | apply State.Sound.foldl | apply State.Sound.ite | (apply State.Sound.mk' <;> first | rfl | assumption | apply State.refillAll_sound | apply State.present_sound | apply State.setFld_sound | apply State.modTrn_sound | apply State.startTrack_sound | apply State.commitRep_sound | apply State.Sound.ite | apply State.Sound.foldl | refine State.Sound.ofPair ?_ (by assumption) | split) | apply State.Sound.foldlFst | refine State.Sound.ofPair ?_ (by assumption) | split | dsimp only)

theorem execWidenEffectiveTick_sound (h : s.Sound p) : Out.Sound p (execWidenEffectiveTick s) := by
  unfold execWidenEffectiveTick
  with_reducible repeat' (first | intro _ | assumption | apply State.widen_sound | apply State.announce_sound | apply State.Sound.foldl | apply Out.Sound.next | apply State.Sound.ite | (apply State.Sound.mk' <;> first | rfl | assumption | apply State.widen_sound | apply State.announce_sound | apply State.Sound.ite | apply State.Sound.foldl | refine State.Sound.ofPair ?_ (by assumption) | split) | apply State.Sound.foldlFst | refine State.Sound.ofPair ?_ (by assumption) | split | dsimp only)

theorem State.copyChunks_sound (h : s.Sound p) : ∀ x1, (State.copyChunks s x1).Sound p := by
  intros
  unfold State.copyChunks
  with_reducible repeat' (first | intro _ | assumption | apply State.upTo_sound | apply State.journal_sound | apply State.Sound.foldl | apply State.Sound.ite | (apply State.Sound.mk' <;> first | rfl | assumption | apply State.upTo_sound | apply State.journal_sound | apply State.Sound.ite | apply State.Sound.foldl | refine State.Sound.ofPair ?_ (by assumption) | split) | apply State.Sound.foldlFst | refine State.Sound.ofPair ?_ (by assumption) | split | dsimp only)

theorem execHoldSlotCopy_sound (h : s.Sound p) : Out.Sound p (execHoldSlotCopy s) := by
  unfold execHoldSlotCopy
  with_reducible repeat' (first | intro _ | assumption | apply State.copyChunks_sound | apply State.nvmKick_sound | apply State.nvmAdd_sound | apply State.Sound.foldl | apply Out.Sound.next | apply State.Sound.ite | (apply State.Sound.mk' <;> first | rfl | assumption | apply State.copyChunks_sound | apply State.nvmKick_sound | apply State.nvmAdd_sound | apply State.Sound.ite | apply State.Sound.foldl | refine State.Sound.ofPair ?_ (by assumption) | split) | apply State.Sound.foldlFst | refine State.Sound.ofPair ?_ (by assumption) | split | dsimp only)

end Sys2Proof.Machine
end

