-- ==== Sys2Proof/Laws/SoundI.lean ====
section
/-! SUPPORT. The queue and the invariant through every operation of States, Tick, Fabric. -/
namespace Sys2Proof.Machine

set_option linter.all false

variable {p : List Instr × Prop} {s : State}

/-! ### States -/

theorem State.toState_sound (h : s.Sound p) : ∀ x1, (State.toState s x1).Sound p := by
  intros
  unfold State.toState
  with_reducible repeat' (first | intro _ | assumption | apply State.setFld_sound | apply State.Sound.foldl | apply State.Sound.ite | (apply State.Sound.mk' <;> first | rfl | assumption | apply State.setFld_sound | apply State.Sound.ite | apply State.Sound.foldl | refine State.Sound.ofPair ?_ (by assumption) | split) | apply State.Sound.foldlFst | refine State.Sound.ofPair ?_ (by assumption) | split | dsimp only)

theorem execNapIdleExpiry_sound (h : s.Sound p) : Out.Sound p (execNapIdleExpiry s) := by
  unfold execNapIdleExpiry
  with_reducible repeat' (first | intro _ | assumption | apply State.toState_sound | apply State.Sound.foldl | apply Out.Sound.next | apply State.Sound.ite | (apply State.Sound.mk' <;> first | rfl | assumption | apply State.toState_sound | apply State.Sound.ite | apply State.Sound.foldl | refine State.Sound.ofPair ?_ (by assumption) | split) | apply State.Sound.foldlFst | refine State.Sound.ofPair ?_ (by assumption) | split | dsimp only)

theorem State.enterPark_sound (h : s.Sound p) : (State.enterPark s).Sound p := by
  unfold State.enterPark
  with_reducible repeat' (first | intro _ | assumption | apply State.toState_sound | apply State.stopChTest_sound | apply State.Sound.foldl | apply State.Sound.ite | (apply State.Sound.mk' <;> first | rfl | assumption | apply State.toState_sound | apply State.stopChTest_sound | apply State.Sound.ite | apply State.Sound.foldl | refine State.Sound.ofPair ?_ (by assumption) | split) | apply State.Sound.foldlFst | refine State.Sound.ofPair ?_ (by assumption) | split | dsimp only)

theorem State.parkStep_sound (h : s.Sound p) : ∀ x1, (State.parkStep s x1).Sound p := by
  intros
  unfold State.parkStep
  with_reducible repeat' (first | intro _ | assumption | apply State.Sound.foldl | apply State.Sound.ite | (apply State.Sound.mk' <;> first | rfl | assumption | apply State.Sound.ite | apply State.Sound.foldl | refine State.Sound.ofPair ?_ (by assumption) | split) | apply State.Sound.foldlFst | refine State.Sound.ofPair ?_ (by assumption) | split | dsimp only)

theorem State.dropStaged_sound (h : s.Sound p) : (State.dropStaged s).Sound p := by
  unfold State.dropStaged
  with_reducible repeat' (first | intro _ | assumption | apply State.setFld_sound | apply State.Sound.foldl | apply State.Sound.ite | (apply State.Sound.mk' <;> first | rfl | assumption | apply State.setFld_sound | apply State.Sound.ite | apply State.Sound.foldl | refine State.Sound.ofPair ?_ (by assumption) | split) | apply State.Sound.foldlFst | refine State.Sound.ofPair ?_ (by assumption) | split | dsimp only)

theorem State.parkCommit_sound (h : s.Sound p) : (State.parkCommit s).Sound p := by
  unfold State.parkCommit
  with_reducible repeat' (first | intro _ | assumption | apply State.voteAll_sound | apply State.commitRep_sound | apply State.commitCal_sound | apply State.when_sound | apply State.journal_sound | apply State.parkStep_sound | apply State.nvmKick_sound | apply State.dropStaged_sound | apply State.Sound.foldl | apply State.Sound.ite | (apply State.Sound.mk' <;> first | rfl | assumption | apply State.voteAll_sound | apply State.commitRep_sound | apply State.commitCal_sound | apply State.when_sound | apply State.journal_sound | apply State.parkStep_sound | apply State.nvmKick_sound | apply State.dropStaged_sound | apply State.Sound.ite | apply State.Sound.foldl | refine State.Sound.ofPair ?_ (by assumption) | split) | apply State.Sound.foldlFst | refine State.Sound.ofPair ?_ (by assumption) | split | dsimp only)

theorem State.switchOff_sound (h : s.Sound p) : (State.switchOff s).Sound p := by
  have h1 := State.resetRegs_sound h .park fun _ => true
  have h2 : ∀ a, (((s.resetRegs .park fun _ => true).setFld Fld.GLB_STATE_CAUSE a).toState .park).Sound p :=
    fun a => State.toState_sound (State.setFld_sound h1 ..) ..
  unfold State.switchOff
  apply State.Sound.foldl
  · apply State.Sound.foldl
    · have h3 := h2 (s.fld Fld.GLB_STATE_CAUSE)
      exact ⟨h3.pending, fun q => { h3.inv q with
        chans := Store.wf_map _ (fun _ => rfl) (h3.inv q).chans, bund := Store.wf_filter _ (Store.wf_map _ (fun _ => rfl) (h3.inv q).bund)
        layers := rfl, snap := rfl }⟩
    · intro s c hs
      apply State.setDomain_sound
      apply State.setDomain_sound
      apply State.upTo_sound hs
      intro q s hs
      exact State.setDomain_sound hs ..
  · intro s t hs
    exact State.setFld_sound (State.setFld_sound hs ..) ..

theorem State.intoPark_sound (h : s.Sound p) : (State.intoPark s).Sound p := by
  unfold State.intoPark
  with_reducible repeat' (first | intro _ | assumption | apply State.sendL3_sound | apply State.dropStaged_sound | apply State.switchOff_sound | apply State.Sound.foldl | apply State.Sound.ite | (apply State.Sound.mk' <;> first | rfl | assumption | apply State.sendL3_sound | apply State.dropStaged_sound | apply State.switchOff_sound | apply State.Sound.ite | apply State.Sound.foldl | refine State.Sound.ofPair ?_ (by assumption) | split) | apply State.Sound.foldlFst | refine State.Sound.ofPair ?_ (by assumption) | split | dsimp only)

theorem execParkDrainComplete_sound (h : s.Sound p) : ∀ x0 x1, Out.Sound p (execParkDrainComplete x0 x1 s) := by
  intros
  unfold execParkDrainComplete
  with_reducible repeat' (first | intro _ | assumption | apply State.parkStep_sound | apply State.startTest_sound | apply State.parkCommit_sound | apply State.intoPark_sound | apply State.Sound.foldl | apply Out.Sound.next | apply State.Sound.ite | (apply State.Sound.mk' <;> first | rfl | assumption | apply State.parkStep_sound | apply State.startTest_sound | apply State.parkCommit_sound | apply State.intoPark_sound | apply State.Sound.ite | apply State.Sound.foldl | refine State.Sound.ofPair ?_ (by assumption) | split) | apply State.Sound.foldlFst | refine State.Sound.ofPair ?_ (by assumption) | split | dsimp only)

theorem execParkDrainLimit_sound (h : s.Sound p) : Out.Sound p (execParkDrainLimit s) := by
  unfold execParkDrainLimit
  with_reducible repeat' (first | intro _ | assumption | apply State.eachChan_sound | apply State.blockReset_sound | apply State.parkStep_sound | apply State.setFld_sound | apply State.Sound.foldl | apply Out.Sound.next | apply State.Sound.ite | (apply State.Sound.mk' <;> first | rfl | assumption | apply State.eachChan_sound | apply State.blockReset_sound | apply State.parkStep_sound | apply State.setFld_sound | apply State.Sound.ite | apply State.Sound.foldl | refine State.Sound.ofPair ?_ (by assumption) | split) | apply State.Sound.foldlFst | refine State.Sound.ofPair ?_ (by assumption) | split | dsimp only)

theorem State.leaveL3_sound (h : s.Sound p) : ∀ x1, (State.leaveL3 s x1).Sound p := by
  intros
  unfold State.leaveL3
  with_reducible repeat' (first | intro _ | assumption | apply State.modTrn_sound | apply State.beginAttempt_sound | apply State.Sound.foldl | apply State.Sound.ite | (apply State.Sound.mk' <;> first | rfl | assumption | apply State.modTrn_sound | apply State.beginAttempt_sound | apply State.Sound.ite | apply State.Sound.foldl | refine State.Sound.ofPair ?_ (by assumption) | split) | apply State.Sound.foldlFst | refine State.Sound.ofPair ?_ (by assumption) | split | dsimp only)

theorem State.leavePark_sound (h : s.Sound p) : (State.leavePark s).Sound p := by
  unfold State.leavePark
  with_reducible repeat' (first | intro _ | assumption | apply State.toState_sound | apply State.upTo_sound | apply State.setDomain_sound | apply State.leaveL3_sound | apply State.setFld_sound | apply State.startTraining_sound | apply State.vqOn_sound | apply State.Sound.foldl | apply State.Sound.ite | (apply State.Sound.mk' <;> first | rfl | assumption | apply State.toState_sound | apply State.upTo_sound | apply State.setDomain_sound | apply State.leaveL3_sound | apply State.setFld_sound | apply State.startTraining_sound | apply State.vqOn_sound | apply State.Sound.ite | apply State.Sound.foldl | refine State.Sound.ofPair ?_ (by assumption) | split) | apply State.Sound.foldlFst | refine State.Sound.ofPair ?_ (by assumption) | split | dsimp only)

theorem State.wakeParked_sound (h : s.Sound p) : ∀ x1, (State.wakeParked s x1).Sound p := by
  intros
  unfold State.wakeParked
  with_reducible repeat' (first | intro _ | assumption | apply State.modRef_sound | apply State.wakeChan_sound | apply State.Sound.foldl | apply State.Sound.ite | (apply State.Sound.mk' <;> first | rfl | assumption | apply State.modRef_sound | apply State.wakeChan_sound | apply State.Sound.ite | apply State.Sound.foldl | refine State.Sound.ofPair ?_ (by assumption) | split) | apply State.Sound.foldlFst | refine State.Sound.ofPair ?_ (by assumption) | split | dsimp only)

theorem State.wakeChans_sound (h : s.Sound p) : (State.wakeChans s).Sound p := by
  unfold State.wakeChans
  with_reducible repeat' (first | intro _ | assumption | apply State.poolsOn_sound | apply State.wakeParked_sound | apply State.Sound.foldl | apply State.Sound.ite | (apply State.Sound.mk' <;> first | rfl | assumption | apply State.poolsOn_sound | apply State.wakeParked_sound | apply State.Sound.ite | apply State.Sound.foldl | refine State.Sound.ofPair ?_ (by assumption) | split | with_unfolding_all rfl) | apply State.Sound.foldlFst | refine State.Sound.ofPair ?_ (by assumption) | split | dsimp only)

theorem State.backInRun_sound (h : s.Sound p) : (State.backInRun s).Sound p := by
  unfold State.backInRun
  with_reducible repeat' (first | intro _ | assumption | apply State.setFld_sound | apply State.toState_sound | apply State.Sound.foldl | apply State.Sound.ite | (apply State.Sound.mk' <;> first | rfl | assumption | apply State.setFld_sound | apply State.toState_sound | apply State.Sound.ite | apply State.Sound.foldl | refine State.Sound.ofPair ?_ (by assumption) | split) | apply State.Sound.foldlFst | refine State.Sound.ofPair ?_ (by assumption) | split | dsimp only)

theorem execParkExit_sound (h : s.Sound p) : Out.Sound p (execParkExit s) := by
  unfold execParkExit
  with_reducible repeat' (first | intro _ | assumption | apply State.wakeChans_sound | apply State.backInRun_sound | apply State.Sound.foldl | apply Out.Sound.next | apply State.Sound.ite | (apply State.Sound.mk' <;> first | rfl | assumption | apply State.wakeChans_sound | apply State.backInRun_sound | apply State.Sound.ite | apply State.Sound.foldl | refine State.Sound.ofPair ?_ (by assumption) | split) | apply State.Sound.foldlFst | refine State.Sound.ofPair ?_ (by assumption) | split | dsimp only)

theorem State.cancelPark_sound (h : s.Sound p) : (State.cancelPark s).Sound p := by
  unfold State.cancelPark
  with_reducible repeat' (first | intro _ | assumption | apply State.setFld_sound | apply State.leavePark_sound | apply State.abortTest_sound | apply State.backInRun_sound | apply State.wakeChan_sound | apply State.Sound.foldl | apply State.Sound.ite | (apply State.Sound.mk' <;> first | rfl | assumption | apply State.setFld_sound | apply State.leavePark_sound | apply State.abortTest_sound | apply State.backInRun_sound | apply State.wakeChan_sound | apply State.Sound.ite | apply State.Sound.foldl | refine State.Sound.ofPair ?_ (by assumption) | split) | apply State.Sound.foldlFst | refine State.Sound.ofPair ?_ (by assumption) | split | dsimp only)

theorem State.wakeUp_sound (h : s.Sound p) : (State.wakeUp s).Sound p := by
  unfold State.wakeUp
  with_reducible repeat' (first | intro _ | assumption | apply State.toState_sound | apply State.cancelPark_sound | apply State.leavePark_sound | apply State.Sound.foldl | apply State.Sound.ite | (apply State.Sound.mk' <;> first | rfl | assumption | apply State.toState_sound | apply State.cancelPark_sound | apply State.leavePark_sound | apply State.Sound.ite | apply State.Sound.foldl | refine State.Sound.ofPair ?_ (by assumption) | split) | apply State.Sound.foldlFst | refine State.Sound.ofPair ?_ (by assumption) | split | dsimp only)

theorem execWakeDetect_sound (h : s.Sound p) : ∀ x0, Out.Sound p (execWakeDetect x0 s) := by
  intros
  unfold execWakeDetect
  with_reducible repeat' (first | intro _ | assumption | apply State.wakeUp_sound | apply State.leaveL3_sound | apply State.Sound.foldl | apply Out.Sound.next | apply State.Sound.ite | (apply State.Sound.mk' <;> first | rfl | assumption | apply State.wakeUp_sound | apply State.leaveL3_sound | apply State.Sound.ite | apply State.Sound.foldl | refine State.Sound.ofPair ?_ (by assumption) | split) | apply State.Sound.foldlFst | refine State.Sound.ofPair ?_ (by assumption) | split | dsimp only)

theorem State.targetWritten_sound (h : s.Sound p) : ∀ x1, (State.targetWritten s x1).Sound p := by
  intros
  unfold State.targetWritten
  with_reducible repeat' (first | intro _ | assumption | apply State.wakeUp_sound | apply State.enterPark_sound | apply State.Sound.foldl | apply State.Sound.ite | (apply State.Sound.mk' <;> first | rfl | assumption | apply State.wakeUp_sound | apply State.enterPark_sound | apply State.Sound.ite | apply State.Sound.foldl | refine State.Sound.ofPair ?_ (by assumption) | split) | apply State.Sound.foldlFst | refine State.Sound.ofPair ?_ (by assumption) | split | dsimp only)

/-! ### Tick -/

theorem State.countOverruns_sound (h : s.Sound p) : (State.countOverruns s).Sound p := by
  unfold State.countOverruns
  with_reducible repeat' (first | intro _ | assumption | apply State.bump_sound | apply State.Sound.foldl | apply State.Sound.ite | (apply State.Sound.mk' <;> first | rfl | assumption | apply State.bump_sound | apply State.Sound.ite | apply State.Sound.foldl | refine State.Sound.ofPair ?_ (by assumption) | split) | apply State.Sound.foldlFst | refine State.Sound.ofPair ?_ (by assumption) | split | dsimp only)

theorem State.cutSlots_sound (h : s.Sound p) : ∀ x1, (State.cutSlots s x1).Sound p := by
  intros
  unfold State.cutSlots
  with_reducible repeat' (first | intro _ | assumption | apply State.mapChans_sound | apply State.raise_sound | apply State.Sound.foldl | apply State.Sound.ite | (apply State.Sound.mk' <;> first | rfl | assumption | apply State.mapChans_sound | apply State.raise_sound | apply State.Sound.ite | apply State.Sound.foldl | refine State.Sound.ofPair ?_ (by assumption) | split) | apply State.Sound.foldlFst | refine State.Sound.ofPair ?_ (by assumption) | split | dsimp only)

theorem State.snapshot_sound (h : s.Sound p) : (State.snapshot s).Sound p := by
  unfold State.snapshot
  split
  · exact h
  · apply State.setFld_sound
    apply State.setFld_sound
    apply State.setFld_sound
    exact ⟨h.pending, fun q => { h.inv q with snap := Store.wf_put _ _ (Store.wf_put _ _ (Store.wf_filter _ (h.inv q).regs)) }⟩

theorem State.nextFrame_sound (h : s.Sound p) : (State.nextFrame s).Sound p := by
  unfold State.nextFrame
  with_reducible repeat' (first | intro _ | assumption | apply State.setFld_sound | apply State.Sound.foldl | apply State.Sound.ite | (apply State.Sound.mk' <;> first | rfl | assumption | apply State.setFld_sound | apply State.Sound.ite | apply State.Sound.foldl | refine State.Sound.ofPair ?_ (by assumption) | split) | apply State.Sound.foldlFst | refine State.Sound.ofPair ?_ (by assumption) | split | dsimp only)

theorem State.applyStaged_sound (h : s.Sound p) : (State.applyStaged s).Sound p := by
  unfold State.applyStaged
  dsimp only
  have h1 : ∀ l : List Staged, State.Sound p { s with regs := l.foldl (fun m e => Store.set m e.key e.dflt e.val) s.regs, fab := { s.fab with ready := [], later := [] } } :=
    fun l => ⟨h.pending, fun q => { h.inv q with regs := wf_foldl_set _ _ _ (h.inv q).regs }⟩
  split
  · exact State.Sound.mk' (h1 _) rfl rfl rfl rfl rfl rfl
  · exact h1 _

theorem State.applyBund_sound (h : s.Sound p) : ∀ x1, (State.applyBund s x1).Sound p := by
  intros
  unfold State.applyBund
  with_reducible repeat' (first | intro _ | assumption | apply State.setCal_sound | apply State.modBund_sound | apply State.Sound.foldl | apply State.Sound.ite | (apply State.Sound.mk' <;> first | rfl | assumption | apply State.setCal_sound | apply State.modBund_sound | apply State.Sound.ite | apply State.Sound.foldl | refine State.Sound.ofPair ?_ (by assumption) | split) | apply State.Sound.foldlFst | refine State.Sound.ofPair ?_ (by assumption) | split | dsimp only)

theorem State.applyTrack_sound (h : s.Sound p) : ∀ x1, (State.applyTrack s x1).Sound p := by
  intros
  unfold State.applyTrack
  with_reducible repeat' (first | intro _ | assumption | apply State.upTo_sound | apply State.applyLane_sound | apply State.modTrk_sound | apply State.setFld_sound | apply State.Sound.foldl | apply State.Sound.ite | (apply State.Sound.mk' <;> first | rfl | assumption | apply State.upTo_sound | apply State.applyLane_sound | apply State.modTrk_sound | apply State.setFld_sound | apply State.Sound.ite | apply State.Sound.foldl | refine State.Sound.ofPair ?_ (by assumption) | split) | apply State.Sound.foldlFst | refine State.Sound.ofPair ?_ (by assumption) | split | dsimp only)

theorem State.clearMap_sound (h : s.Sound p) : (State.clearMap s).Sound p := by
  unfold State.clearMap
  split
  · exact h
  · with_reducible apply State.setFld_sound
    with_reducible apply State.setFld_sound
    exact State.Sound.noMap (State.mapChans_sound h _) rfl

theorem State.mapRowsTick_sound (h : s.Sound p) : (State.mapRowsTick s).Sound p := by
  unfold State.mapRowsTick
  with_reducible repeat' (first | intro _ | assumption | apply State.bump_sound | apply State.repSet_sound | apply State.Sound.foldl | apply State.Sound.ite | (apply State.Sound.mk' <;> first | rfl | assumption | apply State.bump_sound | apply State.repSet_sound | apply State.Sound.ite | apply State.Sound.foldl | refine State.Sound.ofPair ?_ (by assumption) | split) | apply State.Sound.foldlFst | refine State.Sound.ofPair ?_ (by assumption) | split | dsimp only)

theorem State.noteWork_sound (h : s.Sound p) : (State.noteWork s).Sound p := by
  unfold State.noteWork
  with_reducible repeat' (first | intro _ | assumption | apply State.upTo_sound | apply State.modThm_sound | apply State.mapChans_sound | apply State.Sound.foldl | apply State.Sound.ite | (apply State.Sound.mk' <;> first | rfl | assumption | apply State.upTo_sound | apply State.modThm_sound | apply State.mapChans_sound | apply State.Sound.ite | apply State.Sound.foldl | refine State.Sound.ofPair ?_ (by assumption) | split) | apply State.Sound.foldlFst | refine State.Sound.ofPair ?_ (by assumption) | split | dsimp only)

theorem State.applyCore_sound (h : s.Sound p) : (State.applyCore s).Sound p := by
  unfold State.applyCore
  with_reducible repeat' (first | intro _ | assumption | apply State.applyBund_sound | apply State.applyTrack_sound | apply State.upTo_sound | apply State.setFld_sound | apply State.mapRowsTick_sound | apply State.clearMap_sound | apply State.migTick_sound | apply State.fillTick_sound | apply State.noteWork_sound | apply State.codecTick_sound | apply State.Sound.foldl | apply State.Sound.ite | (apply State.Sound.mk' <;> first | rfl | assumption | apply State.applyBund_sound | apply State.applyTrack_sound | apply State.upTo_sound | apply State.setFld_sound | apply State.mapRowsTick_sound | apply State.clearMap_sound | apply State.migTick_sound | apply State.fillTick_sound | apply State.noteWork_sound | apply State.codecTick_sound | apply State.Sound.ite | apply State.Sound.foldl | refine State.Sound.ofPair ?_ (by assumption) | split) | apply State.Sound.foldlFst | refine State.Sound.ofPair ?_ (by assumption) | split | dsimp only)

theorem State.accrue_sound (h : s.Sound p) : ∀ x1, (State.accrue s x1).Sound p := by
  intros
  unfold State.accrue
  with_reducible repeat' (first | intro _ | assumption | apply State.setFld_sound | apply State.modRef_sound | apply State.raise_sound | apply State.Sound.foldl | apply State.Sound.ite | (apply State.Sound.mk' <;> first | rfl | assumption | apply State.setFld_sound | apply State.modRef_sound | apply State.raise_sound | apply State.Sound.ite | apply State.Sound.foldl | refine State.Sound.ofPair ?_ (by assumption) | split) | apply State.Sound.foldlFst | refine State.Sound.ofPair ?_ (by assumption) | split | dsimp only)

theorem State.tickTrks_sound (h : s.Sound p) : (State.tickTrks s).Sound p := by
  unfold State.tickTrks
  with_reducible repeat' (first | intro _ | assumption | apply State.upTo_sound | apply State.modTrk_sound | apply State.Sound.foldl | apply State.Sound.ite | (apply State.Sound.mk' <;> first | rfl | assumption | apply State.upTo_sound | apply State.modTrk_sound | apply State.Sound.ite | apply State.Sound.foldl | refine State.Sound.ofPair ?_ (by assumption) | split) | apply State.Sound.foldlFst | refine State.Sound.ofPair ?_ (by assumption) | split | dsimp only)

theorem State.coreIntervals_sound (h : s.Sound p) : (State.coreIntervals s).Sound p := by
  have h1 := State.tickTrks_sound (State.mapChans_sound h Chan.ticked)
  unfold State.coreIntervals
  generalize (s.mapChans Chan.ticked).tickTrks = u at h1 ⊢
  have h2 : State.Sound p { u with vert := u.vert.ticked } :=
    ⟨h1.pending, fun q => { h1.inv q with bund := Store.wf_map _ (fun _ => rfl) (h1.inv q).bund }⟩
  dsimp only
  split
  · exact State.Sound.mk' (s := { u with vert := u.vert.ticked }) h2 rfl rfl rfl rfl rfl rfl
  · exact State.Sound.mk' (s := { u with vert := u.vert.ticked }) h2 rfl rfl rfl rfl rfl rfl

theorem State.testLimits_sound (h : s.Sound p) : ∀ x1 x2, (State.testLimits s x1 x2).Sound p := by
  intros
  unfold State.testLimits
  with_reducible repeat' (first | intro _ | assumption | apply State.abortTest_sound | apply State.abortChTest_sound | apply State.Sound.foldl | apply State.Sound.ite | (apply State.Sound.mk' <;> first | rfl | assumption | apply State.abortTest_sound | apply State.abortChTest_sound | apply State.Sound.ite | apply State.Sound.foldl | refine State.Sound.ofPair ?_ (by assumption) | split) | apply State.Sound.foldlFst | refine State.Sound.ofPair ?_ (by assumption) | split | dsimp only)

theorem State.tellHold_sound (h : s.Sound p) : (State.tellHold s).Sound p := by
  unfold State.tellHold
  with_reducible repeat' (first | intro _ | assumption | apply State.raise_sound | apply State.Sound.foldl | apply State.Sound.ite | (apply State.Sound.mk' <;> first | rfl | assumption | apply State.raise_sound | apply State.Sound.ite | apply State.Sound.foldl | refine State.Sound.ofPair ?_ (by assumption) | split) | apply State.Sound.foldlFst | refine State.Sound.ofPair ?_ (by assumption) | split | dsimp only)

theorem State.serviceIntervals_sound (h : s.Sound p) : ∀ x1 x2, (State.serviceIntervals s x1 x2).Sound p := by
  intros
  unfold State.serviceIntervals
  with_reducible repeat' (first | intro _ | assumption | apply State.bump_sound | apply State.nvmKick_sound | apply State.tellHold_sound | apply State.testLimits_sound | apply State.Sound.foldl | apply State.Sound.ite | (apply State.Sound.mk' <;> first | rfl | assumption | apply State.bump_sound | apply State.nvmKick_sound | apply State.tellHold_sound | apply State.testLimits_sound | apply State.Sound.ite | apply State.Sound.foldl | refine State.Sound.ofPair ?_ (by assumption) | split | with_unfolding_all rfl) | apply State.Sound.foldlFst | refine State.Sound.ofPair ?_ (by assumption) | split | dsimp only)

theorem execFrameTick_sound (h : s.Sound p) : ∀ x0 x1, Out.Sound p (execFrameTick x0 x1 s) := by
  intros
  unfold execFrameTick
  with_reducible repeat' (first | intro _ | assumption | apply State.nextFrame_sound | apply State.snapshot_sound | apply State.when_sound | apply State.countOverruns_sound | apply State.applyStaged_sound | apply State.cutSlots_sound | apply State.applyCore_sound | apply State.setTherm_sound | apply State.refillAll_sound | apply State.accrue_sound | apply State.serviceIntervals_sound | apply State.coreIntervals_sound | apply State.Sound.foldl | apply Out.Sound.next | apply State.Sound.ite | (apply State.Sound.mk' <;> first | rfl | assumption | apply State.nextFrame_sound | apply State.snapshot_sound | apply State.when_sound | apply State.countOverruns_sound | apply State.applyStaged_sound | apply State.cutSlots_sound | apply State.applyCore_sound | apply State.setTherm_sound | apply State.refillAll_sound | apply State.accrue_sound | apply State.serviceIntervals_sound | apply State.coreIntervals_sound | apply State.Sound.ite | apply State.Sound.foldl | refine State.Sound.ofPair ?_ (by assumption) | split) | apply State.Sound.foldlFst | refine State.Sound.ofPair ?_ (by assumption) | split | dsimp only)

/-! ### Fabric -/

theorem State.noteBad_sound (h : s.Sound p) : ∀ x1 x2 x3 x4, (State.noteBad s x1 x2 x3 x4).Sound p := by
  intros
  unfold State.noteBad
  with_reducible repeat' (first | intro _ | assumption | apply State.bump_sound | apply State.setFld_sound | apply State.setFlag_sound | apply State.Sound.foldl | apply State.Sound.ite | (apply State.Sound.mk' <;> first | rfl | assumption | apply State.bump_sound | apply State.setFld_sound | apply State.setFlag_sound | apply State.Sound.ite | apply State.Sound.foldl | refine State.Sound.ofPair ?_ (by assumption) | split) | apply State.Sound.foldlFst | refine State.Sound.ofPair ?_ (by assumption) | split | dsimp only)

theorem State.withWrite_sound (h : s.Sound p) : ∀ x1 x2, (State.withWrite s x1 x2).Sound p := by
  intro r w
  unfold State.withWrite
  apply State.Sound.foldl
  · exact ⟨h.pending, fun q => { h.inv q with regs := wf_foldl_set _ _ _ (h.inv q).regs }⟩
  · intro s x hs
    exact State.Sound.ite (State.setFld_sound hs ..) hs

theorem State.refused_sound (h : s.Sound p) : ∀ x1 x2 x3 x4 x5, (State.refused s x1 x2 x3 x4 x5).Sound p := by
  intros
  unfold State.refused
  with_reducible repeat' (first | intro _ | assumption | apply State.noteBad_sound | apply State.setFld_sound | apply State.withWrite_sound | apply State.raise_sound | apply State.Sound.foldl | apply State.Sound.ite | (apply State.Sound.mk' <;> first | rfl | assumption | apply State.noteBad_sound | apply State.setFld_sound | apply State.withWrite_sound | apply State.raise_sound | apply State.Sound.ite | apply State.Sound.foldl | refine State.Sound.ofPair ?_ (by assumption) | split) | apply State.Sound.foldlFst | refine State.Sound.ofPair ?_ (by assumption) | split | dsimp only)

theorem State.stage_sound (h : s.Sound p) : ∀ x1, (State.stage s x1).Sound p := by
  intros
  unfold State.stage
  with_reducible repeat' (first | intro _ | assumption | apply State.Sound.foldl | apply State.Sound.ite | (apply State.Sound.mk' <;> first | rfl | assumption | apply State.Sound.ite | apply State.Sound.foldl | refine State.Sound.ofPair ?_ (by assumption) | split) | apply State.Sound.foldlFst | refine State.Sound.ofPair ?_ (by assumption) | split | dsimp only)

theorem State.unhold_sound (h : s.Sound p) : (State.unhold s).Sound p := by
  unfold State.unhold
  with_reducible repeat' (first | intro _ | assumption | apply State.Sound.foldl | apply State.Sound.ite | (apply State.Sound.mk' <;> first | rfl | assumption | apply State.Sound.ite | apply State.Sound.foldl | refine State.Sound.ofPair ?_ (by assumption) | split) | apply State.Sound.foldlFst | refine State.Sound.ofPair ?_ (by assumption) | split | dsimp only)

theorem State.ttDoes_sound (h : s.Sound p) : ∀ x1 x2, (State.ttDoes s x1 x2).Sound p := by
  intros
  unfold State.ttDoes
  with_reducible repeat' (first | intro _ | assumption | apply State.when_sound | apply State.unhold_sound | apply State.Sound.foldl | apply State.Sound.ite | (apply State.Sound.mk' <;> first | rfl | assumption | apply State.when_sound | apply State.unhold_sound | apply State.Sound.ite | apply State.Sound.foldl | refine State.Sound.ofPair ?_ (by assumption) | split) | apply State.Sound.foldlFst | refine State.Sound.ofPair ?_ (by assumption) | split | dsimp only)

theorem State.putField_sound (h : s.Sound p) : ∀ x1 x2, (State.putField s x1 x2).Sound p := by
  intros
  unfold State.putField
  with_reducible repeat' (first | intro _ | assumption | apply State.agree_sound | apply State.setFld_sound | apply State.stage_sound | apply State.Sound.foldl | apply State.Sound.ite | (apply State.Sound.mk' <;> first | rfl | assumption | apply State.agree_sound | apply State.setFld_sound | apply State.stage_sound | apply State.Sound.ite | apply State.Sound.foldl | refine State.Sound.ofPair ?_ (by assumption) | split) | apply State.Sound.foldlFst | refine State.Sound.ofPair ?_ (by assumption) | split | dsimp only)

theorem State.trackEn_sound (h : s.Sound p) : ∀ x1 x2 x3, (State.trackEn s x1 x2 x3).Sound p := by
  intros
  unfold State.trackEn
  with_reducible repeat' (first | intro _ | assumption | apply State.startTrack_sound | apply State.setFld_sound | apply State.modTrn_sound | apply State.Sound.foldl | apply State.Sound.ite | (apply State.Sound.mk' <;> first | rfl | assumption | apply State.startTrack_sound | apply State.setFld_sound | apply State.modTrn_sound | apply State.Sound.ite | apply State.Sound.foldl | refine State.Sound.ofPair ?_ (by assumption) | split) | apply State.Sound.foldlFst | refine State.Sound.ofPair ?_ (by assumption) | split | dsimp only)

theorem State.prbsChange_sound (h : s.Sound p) : ∀ x1 x2, (State.prbsChange s x1 x2).Sound p := by
  intros
  unfold State.prbsChange
  with_reducible repeat' (first | intro _ | assumption | apply State.setTxLane_sound | apply State.setRxLane_sound | apply State.setFld_sound | apply State.Sound.foldl | apply State.Sound.ite | (apply State.Sound.mk' <;> first | rfl | assumption | apply State.setTxLane_sound | apply State.setRxLane_sound | apply State.setFld_sound | apply State.Sound.ite | apply State.Sound.foldl | refine State.Sound.ofPair ?_ (by assumption) | split) | apply State.Sound.foldlFst | refine State.Sound.ofPair ?_ (by assumption) | split | dsimp only)

theorem State.inject_sound (h : s.Sound p) : ∀ x1 x2 x3, (State.inject s x1 x2 x3).Sound p := by
  intros
  unfold State.inject
  with_reducible repeat' (first | intro _ | assumption | apply State.setFld_sound | apply State.setTxLane_sound | apply State.Sound.foldl | apply State.Sound.ite | (apply State.Sound.mk' <;> first | rfl | assumption | apply State.setFld_sound | apply State.setTxLane_sound | apply State.Sound.ite | apply State.Sound.foldl | refine State.Sound.ofPair ?_ (by assumption) | split) | apply State.Sound.foldlFst | refine State.Sound.ofPair ?_ (by assumption) | split | dsimp only)

theorem State.trkDoes_sound (h : s.Sound p) : ∀ x1 x2 x3 x4, (State.trkDoes s x1 x2 x3 x4).Sound p := by
  intros
  unfold State.trkDoes
  with_reducible repeat' (first | intro _ | assumption | apply State.when_sound | apply State.modTrk_sound | apply State.requestSparing_sound | apply State.prbsChange_sound | apply State.inject_sound | apply State.trackEn_sound | apply State.startFailover_sound | apply State.retrain_sound | apply State.Sound.foldl | apply State.Sound.ite | (apply State.Sound.mk' <;> first | rfl | assumption | apply State.when_sound | apply State.modTrk_sound | apply State.requestSparing_sound | apply State.prbsChange_sound | apply State.inject_sound | apply State.trackEn_sound | apply State.startFailover_sound | apply State.retrain_sound | apply State.Sound.ite | apply State.Sound.foldl | refine State.Sound.ofPair ?_ (by assumption) | split) | apply State.Sound.foldlFst | refine State.Sound.ofPair ?_ (by assumption) | split | dsimp only)

theorem State.chnDoes_sound (h : s.Sound p) : ∀ x1 x2 x3, (State.chnDoes s x1 x2 x3).Sound p := by
  intros
  unfold State.chnDoes
  with_reducible repeat' (first | intro _ | assumption | apply State.when_sound | apply State.setFld_sound | apply State.blockReset_sound | apply State.takeover_sound | apply State.Sound.foldl | apply State.Sound.ite | (apply State.Sound.mk' <;> first | rfl | assumption | apply State.when_sound | apply State.setFld_sound | apply State.blockReset_sound | apply State.takeover_sound | apply State.Sound.ite | apply State.Sound.foldl | refine State.Sound.ofPair ?_ (by assumption) | split) | apply State.Sound.foldlFst | refine State.Sound.ofPair ?_ (by assumption) | split | dsimp only)

theorem State.vlqDoes_sound (h : s.Sound p) : ∀ x1 x2 x3, (State.vlqDoes s x1 x2 x3).Sound p := by
  intros
  unfold State.vlqDoes
  with_reducible repeat' (first | intro _ | assumption | apply State.when_sound | apply State.setRetune_sound | apply State.trainQuad_sound | apply State.Sound.foldl | apply State.Sound.ite | (apply State.Sound.mk' <;> first | rfl | assumption | apply State.when_sound | apply State.setRetune_sound | apply State.trainQuad_sound | apply State.Sound.ite | apply State.Sound.foldl | refine State.Sound.ofPair ?_ (by assumption) | split) | apply State.Sound.foldlFst | refine State.Sound.ofPair ?_ (by assumption) | split | dsimp only)

theorem State.sendCrst_sound (h : s.Sound p) : ∀ x1, (State.sendCrst s x1).Sound p := by
  intros
  unfold State.sendCrst
  with_reducible repeat' (first | intro _ | assumption | apply State.sendCfg_sound | apply State.Sound.foldl | apply State.Sound.ite | (apply State.Sound.mk' <;> first | rfl | assumption | apply State.sendCfg_sound | apply State.Sound.ite | apply State.Sound.foldl | refine State.Sound.ofPair ?_ (by assumption) | split) | apply State.Sound.foldlFst | refine State.Sound.ofPair ?_ (by assumption) | split | dsimp only)

theorem State.layDoes_sound (h : s.Sound p) : ∀ x1 x2 x3, (State.layDoes s x1 x2 x3).Sound p := by
  intros
  unfold State.layDoes
  with_reducible repeat' (first | intro _ | assumption | apply State.when_sound | apply State.spareCol_sound | apply State.sendCfg_sound | apply State.sendCrst_sound | apply State.Sound.foldl | apply State.Sound.ite | (apply State.Sound.mk' <;> first | rfl | assumption | apply State.when_sound | apply State.spareCol_sound | apply State.sendCfg_sound | apply State.sendCrst_sound | apply State.Sound.ite | apply State.Sound.foldl | refine State.Sound.ofPair ?_ (by assumption) | split) | apply State.Sound.foldlFst | refine State.Sound.ofPair ?_ (by assumption) | split | dsimp only)

theorem State.cancelPending_sound (h : s.Sound p) : (State.cancelPending s).Sound p := by
  unfold State.cancelPending
  with_reducible repeat' (first | intro _ | assumption | apply State.repDel_sound | apply State.upTo_sound | apply State.setFld_sound | apply State.Sound.foldl | apply State.Sound.ite | (apply State.Sound.mk' <;> first | rfl | assumption | apply State.repDel_sound | apply State.upTo_sound | apply State.setFld_sound | apply State.Sound.ite | apply State.Sound.foldl | refine State.Sound.ofPair ?_ (by assumption) | split) | apply State.Sound.foldlFst | refine State.Sound.ofPair ?_ (by assumption) | split | dsimp only)

theorem State.repDoes_sound (h : s.Sound p) : ∀ x1 x2, (State.repDoes s x1 x2).Sound p := by
  intros
  unfold State.repDoes
  with_reducible repeat' (first | intro _ | assumption | apply State.when_sound | apply State.cancelPending_sound | apply State.commitRep_sound | apply State.Sound.foldl | apply State.Sound.ite | (apply State.Sound.mk' <;> first | rfl | assumption | apply State.when_sound | apply State.cancelPending_sound | apply State.commitRep_sound | apply State.Sound.ite | apply State.Sound.foldl | refine State.Sound.ofPair ?_ (by assumption) | split) | apply State.Sound.foldlFst | refine State.Sound.ofPair ?_ (by assumption) | split | dsimp only)

theorem State.bstDoes_sound (h : s.Sound p) : ∀ x1 x2, (State.bstDoes s x1 x2).Sound p := by
  intros
  unfold State.bstDoes
  with_reducible repeat' (first | intro _ | assumption | apply State.when_sound | apply State.abortChTest_sound | apply State.writeSeal_sound | apply State.startChTest_sound | apply State.Sound.foldl | apply State.Sound.ite | (apply State.Sound.mk' <;> first | rfl | assumption | apply State.when_sound | apply State.abortChTest_sound | apply State.writeSeal_sound | apply State.startChTest_sound | apply State.Sound.ite | apply State.Sound.foldl | refine State.Sound.ofPair ?_ (by assumption) | split) | apply State.Sound.foldlFst | refine State.Sound.ofPair ?_ (by assumption) | split | dsimp only)

theorem State.fltDoes_sound (h : s.Sound p) : ∀ x1 x2, (State.fltDoes s x1 x2).Sound p := by
  intros
  unfold State.fltDoes
  with_reducible repeat' (first | intro _ | assumption | apply State.updErr_sound | apply State.when_sound | apply State.clearCap_sound | apply State.Sound.foldl | apply State.Sound.ite | (apply State.Sound.mk' <;> first | rfl | assumption | apply State.updErr_sound | apply State.when_sound | apply State.clearCap_sound | apply State.Sound.ite | apply State.Sound.foldl | refine State.Sound.ofPair ?_ (by assumption) | split) | apply State.Sound.foldlFst | refine State.Sound.ofPair ?_ (by assumption) | split | dsimp only)

theorem State.nvmDoes_sound (h : s.Sound p) : ∀ x1 x2, (State.nvmDoes s x1 x2).Sound p := by
  intros
  unfold State.nvmDoes
  with_reducible repeat' (first | intro _ | assumption | apply State.when_sound | apply State.nvmAdd_sound | apply State.setFld_sound | apply State.commitCal_sound | apply State.Sound.foldl | apply State.Sound.ite | (apply State.Sound.mk' <;> first | rfl | assumption | apply State.when_sound | apply State.nvmAdd_sound | apply State.setFld_sound | apply State.commitCal_sound | apply State.Sound.ite | apply State.Sound.foldl | refine State.Sound.ofPair ?_ (by assumption) | split) | apply State.Sound.foldlFst | refine State.Sound.ofPair ?_ (by assumption) | split | dsimp only)

theorem State.resetTarget_sound (h : s.Sound p) : ∀ x1, (State.resetTarget s x1).Sound p := by
  intros
  unfold State.resetTarget
  with_reducible repeat' (first | intro _ | assumption | apply State.blockReset_sound | apply State.Sound.foldl | apply State.Sound.ite | (apply State.Sound.mk' <;> first | rfl | assumption | apply State.blockReset_sound | apply State.Sound.ite | apply State.Sound.foldl | refine State.Sound.ofPair ?_ (by assumption) | split) | apply State.Sound.foldlFst | refine State.Sound.ofPair ?_ (by assumption) | split | dsimp only)

theorem State.glbDoes_sound (h : s.Sound p) : ∀ x1 x2, (State.glbDoes s x1 x2).Sound p := by
  intros
  unfold State.glbDoes
  with_reducible repeat' (first | intro _ | assumption | apply State.when_sound | apply State.targetWritten_sound | apply State.chipReset_sound | apply State.resetTarget_sound | apply State.setFld_sound | apply State.Sound.foldl | apply State.Sound.ite | (apply State.Sound.mk' <;> first | rfl | assumption | apply State.when_sound | apply State.targetWritten_sound | apply State.chipReset_sound | apply State.resetTarget_sound | apply State.setFld_sound | apply State.Sound.ite | apply State.Sound.foldl | refine State.Sound.ofPair ?_ (by assumption) | split) | apply State.Sound.foldlFst | refine State.Sound.ofPair ?_ (by assumption) | split | dsimp only)

theorem State.does_sound (h : s.Sound p) : ∀ x1 x2 x3 x4 x5, (State.does s x1 x2 x3 x4 x5).Sound p := by
  intros
  unfold State.does
  with_reducible repeat' (first | intro _ | assumption | apply State.glbDoes_sound | apply State.ttDoes_sound | apply State.trkDoes_sound | apply State.chnDoes_sound | apply State.vlqDoes_sound | apply State.layDoes_sound | apply State.when_sound | apply State.setFld_sound | apply State.repDoes_sound | apply State.bstDoes_sound | apply State.fltDoes_sound | apply State.nvmDoes_sound | apply State.Sound.foldl | apply State.Sound.ite | (apply State.Sound.mk' <;> first | rfl | assumption | apply State.glbDoes_sound | apply State.ttDoes_sound | apply State.trkDoes_sound | apply State.chnDoes_sound | apply State.vlqDoes_sound | apply State.layDoes_sound | apply State.when_sound | apply State.setFld_sound | apply State.repDoes_sound | apply State.bstDoes_sound | apply State.fltDoes_sound | apply State.nvmDoes_sound | apply State.Sound.ite | apply State.Sound.foldl | refine State.Sound.ofPair ?_ (by assumption) | split) | apply State.Sound.foldlFst | refine State.Sound.ofPair ?_ (by assumption) | split | dsimp only)

theorem State.perform_sound (h : s.Sound p) : ∀ x1 x2, (State.perform s x1 x2).Sound p := by
  intros
  unfold State.perform
  with_reducible repeat' (first | intro _ | assumption | apply State.putField_sound | apply State.does_sound | apply State.Sound.foldl | apply State.Sound.ite | (apply State.Sound.mk' <;> first | rfl | assumption | apply State.putField_sound | apply State.does_sound | apply State.Sound.ite | apply State.Sound.foldl | refine State.Sound.ofPair ?_ (by assumption) | split) | apply State.Sound.foldlFst | refine State.Sound.ofPair ?_ (by assumption) | split | dsimp only)

theorem State.writeHit_sound (h : s.Sound p) : ∀ x1 x2 x3 x4, (State.writeHit s x1 x2 x3 x4).1.Sound p := by
  intros
  unfold State.writeHit
  with_reducible repeat' (first | intro _ | assumption | apply State.refused_sound | apply State.voteRegs_sound | apply State.perform_sound | apply State.Sound.foldl | apply State.Sound.ite | (apply State.Sound.mk' <;> first | rfl | assumption | apply State.refused_sound | apply State.voteRegs_sound | apply State.perform_sound | apply State.Sound.ite | apply State.Sound.foldl | refine State.Sound.ofPair ?_ (by assumption) | split) | apply State.Sound.foldlFst | refine State.Sound.ofPair ?_ (by assumption) | split | dsimp only)

theorem State.regRead_sound (h : s.Sound p) : ∀ x1 x2 x3, (State.regRead s x1 x2 x3).1.Sound p := by
  intros
  unfold State.regRead
  with_reducible repeat' (first | intro _ | assumption | apply State.noteBad_sound | apply State.voteRegs_sound | apply State.Sound.foldl | apply State.Sound.ite | (apply State.Sound.mk' <;> first | rfl | assumption | apply State.noteBad_sound | apply State.voteRegs_sound | apply State.Sound.ite | apply State.Sound.foldl | refine State.Sound.ofPair ?_ (by assumption) | split) | apply State.Sound.foldlFst | refine State.Sound.ofPair ?_ (by assumption) | split | dsimp only)

theorem State.regWrite_sound (h : s.Sound p) : ∀ x1 x2 x3 x4, (State.regWrite s x1 x2 x3 x4).1.Sound p := by
  intros
  unfold State.regWrite
  with_reducible repeat' (first | intro _ | assumption | apply State.noteBad_sound | apply State.writeHit_sound | apply State.Sound.foldl | apply State.Sound.ite | (apply State.Sound.mk' <;> first | rfl | assumption | apply State.noteBad_sound | apply State.writeHit_sound | apply State.Sound.ite | apply State.Sound.foldl | refine State.Sound.ofPair ?_ (by assumption) | split) | apply State.Sound.foldlFst | refine State.Sound.ofPair ?_ (by assumption) | split | dsimp only)

theorem State.portRead_sound (h : s.Sound p) : ∀ x1, (State.portRead s x1).1.Sound p := by
  intros
  unfold State.portRead
  with_reducible repeat' (first | intro _ | assumption | apply State.noteBad_sound | apply State.voteRegs_sound | apply State.Sound.foldl | apply State.Sound.ite | (apply State.Sound.mk' <;> first | rfl | assumption | apply State.noteBad_sound | apply State.voteRegs_sound | apply State.Sound.ite | apply State.Sound.foldl | refine State.Sound.ofPair ?_ (by assumption) | split | with_unfolding_all rfl) | apply State.Sound.foldlFst | refine State.Sound.ofPair ?_ (by assumption) | split | dsimp only)

theorem State.portWrite_sound (h : s.Sound p) : ∀ x1 x2, (State.portWrite s x1 x2).1.Sound p := by
  intros
  unfold State.portWrite
  with_reducible repeat' (first | intro _ | assumption | apply State.noteBad_sound | apply State.writeHit_sound | apply State.Sound.foldl | apply State.Sound.ite | (apply State.Sound.mk' <;> first | rfl | assumption | apply State.noteBad_sound | apply State.writeHit_sound | apply State.Sound.ite | apply State.Sound.foldl | refine State.Sound.ofPair ?_ (by assumption) | split | with_unfolding_all rfl) | apply State.Sound.foldlFst | refine State.Sound.ofPair ?_ (by assumption) | split | dsimp only)

end Sys2Proof.Machine
end

