-- ==== Sys2Proof/Laws/SoundJ.lean ====
section
/-! SUPPORT. The queue and the invariant through every operation of Requests, RegCmds, Port. -/
namespace Sys2Proof.Machine

set_option linter.all false

variable {p : List Instr × Prop} {s : State}

/-! ### Requests -/

theorem State.answerAt_sound (h : s.Sound p) : ∀ x1 x2 x3 x4 x5, (State.answerAt s x1 x2 x3 x4 x5).Sound p := by
  intros
  unfold State.answerAt
  with_reducible repeat' (first | intro _ | assumption | apply State.respond_sound | apply State.returnFor_sound | apply State.Sound.foldl | apply State.Sound.ite | (apply State.Sound.mk' <;> first | rfl | assumption | apply State.respond_sound | apply State.returnFor_sound | apply State.Sound.ite | apply State.Sound.foldl | refine State.Sound.ofPair ?_ (by assumption) | split) | apply State.Sound.foldlFst | refine State.Sound.ofPair ?_ (by assumption) | split | dsimp only)

theorem State.answerBad_sound (h : s.Sound p) : ∀ x1 x2 x3 x4, (State.answerBad s x1 x2 x3 x4).Sound p := by
  intros
  unfold State.answerBad
  with_reducible repeat' (first | intro _ | assumption | apply State.answerAt_sound | apply State.malformed_sound | apply State.Sound.foldl | apply State.Sound.ite | (apply State.Sound.mk' <;> first | rfl | assumption | apply State.answerAt_sound | apply State.malformed_sound | apply State.Sound.ite | apply State.Sound.foldl | refine State.Sound.ofPair ?_ (by assumption) | split) | apply State.Sound.foldlFst | refine State.Sound.ofPair ?_ (by assumption) | split | dsimp only)

theorem State.memRequest_sound (h : s.Sound p) : ∀ x1 x2, (State.memRequest s x1 x2).Sound p := by
  intros
  unfold State.memRequest
  with_reducible repeat' (first | intro _ | assumption | apply State.takeIn_sound | apply State.answerBad_sound | apply State.answerAt_sound | apply State.gradeReq_sound | apply State.modSes_sound | apply State.Sound.foldl | apply State.Sound.ite | (apply State.Sound.mk' <;> first | rfl | assumption | apply State.takeIn_sound | apply State.answerBad_sound | apply State.answerAt_sound | apply State.gradeReq_sound | apply State.modSes_sound | apply State.Sound.ite | apply State.Sound.foldl | refine State.Sound.ofPair ?_ (by assumption) | split) | apply State.Sound.foldlFst | refine State.Sound.ofPair ?_ (by assumption) | split | dsimp only)

theorem execRd_sound (h : s.Sound p) : ∀ x0 x1, Out.Sound p (execRd x0 x1 s) := by
  intros
  unfold execRd
  with_reducible repeat' (first | intro _ | assumption | apply State.memRequest_sound | apply State.Sound.foldl | apply Out.Sound.next | apply State.Sound.ite | (apply State.Sound.mk' <;> first | rfl | assumption | apply State.memRequest_sound | apply State.Sound.ite | apply State.Sound.foldl | refine State.Sound.ofPair ?_ (by assumption) | split) | apply State.Sound.foldlFst | refine State.Sound.ofPair ?_ (by assumption) | split | dsimp only)

theorem execWr_sound (h : s.Sound p) : ∀ x0 x1, Out.Sound p (execWr x0 x1 s) := by
  intros
  unfold execWr
  with_reducible repeat' (first | intro _ | assumption | apply State.memRequest_sound | apply State.Sound.foldl | apply Out.Sound.next | apply State.Sound.ite | (apply State.Sound.mk' <;> first | rfl | assumption | apply State.memRequest_sound | apply State.Sound.ite | apply State.Sound.foldl | refine State.Sound.ofPair ?_ (by assumption) | split) | apply State.Sound.foldlFst | refine State.Sound.ofPair ?_ (by assumption) | split | dsimp only)

theorem execWrm_sound (h : s.Sound p) : ∀ x0 x1, Out.Sound p (execWrm x0 x1 s) := by
  intros
  unfold execWrm
  with_reducible repeat' (first | intro _ | assumption | apply State.memRequest_sound | apply State.Sound.foldl | apply Out.Sound.next | apply State.Sound.ite | (apply State.Sound.mk' <;> first | rfl | assumption | apply State.memRequest_sound | apply State.Sound.ite | apply State.Sound.foldl | refine State.Sound.ofPair ?_ (by assumption) | split) | apply State.Sound.foldlFst | refine State.Sound.ofPair ?_ (by assumption) | split | dsimp only)

theorem State.doReg_sound (h : s.Sound p) : ∀ x1 x2 x3, (State.doReg s x1 x2 x3).Sound p := by
  intros
  unfold State.doReg
  with_reducible repeat' (first | intro _ | assumption | apply State.returnFor_sound | apply State.regRead_sound | apply State.respond_sound | apply State.regWrite_sound | apply State.Sound.foldl | apply State.Sound.ite | (apply State.Sound.mk' <;> first | rfl | assumption | apply State.returnFor_sound | apply State.regRead_sound | apply State.respond_sound | apply State.regWrite_sound | apply State.Sound.ite | apply State.Sound.foldl | refine State.Sound.ofPair ?_ (by assumption) | split) | apply State.Sound.foldlFst | refine State.Sound.ofPair ?_ (by assumption) | split | dsimp only)

theorem State.regRequest_sound (h : s.Sound p) : ∀ x1 x2, (State.regRequest s x1 x2).Sound p := by
  intros
  unfold State.regRequest
  with_reducible repeat' (first | intro _ | assumption | apply State.takeIn_sound | apply State.answerBad_sound | apply State.modSes_sound | apply State.doReg_sound | apply State.Sound.foldl | apply State.Sound.ite | (apply State.Sound.mk' <;> first | rfl | assumption | apply State.takeIn_sound | apply State.answerBad_sound | apply State.modSes_sound | apply State.doReg_sound | apply State.Sound.ite | apply State.Sound.foldl | refine State.Sound.ofPair ?_ (by assumption) | split) | apply State.Sound.foldlFst | refine State.Sound.ofPair ?_ (by assumption) | split | dsimp only)

theorem execRrd_sound (h : s.Sound p) : ∀ x0 x1, Out.Sound p (execRrd x0 x1 s) := by
  intros
  unfold execRrd
  with_reducible repeat' (first | intro _ | assumption | apply State.regRequest_sound | apply State.Sound.foldl | apply Out.Sound.next | apply State.Sound.ite | (apply State.Sound.mk' <;> first | rfl | assumption | apply State.regRequest_sound | apply State.Sound.ite | apply State.Sound.foldl | refine State.Sound.ofPair ?_ (by assumption) | split) | apply State.Sound.foldlFst | refine State.Sound.ofPair ?_ (by assumption) | split | dsimp only)

theorem execFen_sound (h : s.Sound p) : ∀ x0 x1, Out.Sound p (execFen x0 x1 s) := by
  intros
  unfold execFen
  with_reducible repeat' (first | intro _ | assumption | apply State.takeIn_sound | apply State.answerBad_sound | apply State.modSes_sound | apply State.Sound.foldl | apply Out.Sound.next | apply State.Sound.ite | (apply State.Sound.mk' <;> first | rfl | assumption | apply State.takeIn_sound | apply State.answerBad_sound | apply State.modSes_sound | apply State.Sound.ite | apply State.Sound.foldl | refine State.Sound.ofPair ?_ (by assumption) | split) | apply State.Sound.foldlFst | refine State.Sound.ofPair ?_ (by assumption) | split | dsimp only)

theorem State.freeRegs_sound (h : s.Sound p) : ∀ x1, (State.freeRegs s x1).Sound p := by
  intros
  unfold State.freeRegs
  with_reducible repeat' (first | intro _ | assumption | apply State.doReg_sound | apply State.modSes_sound | apply State.Sound.foldl | apply State.Sound.ite | (apply State.Sound.mk' <;> first | rfl | assumption | apply State.doReg_sound | apply State.modSes_sound | apply State.Sound.ite | apply State.Sound.foldl | refine State.Sound.ofPair ?_ (by assumption) | split) | apply State.Sound.foldlFst | refine State.Sound.ofPair ?_ (by assumption) | split | dsimp only)

theorem execFenceRelease_sound (h : s.Sound p) : ∀ x0 x1, Out.Sound p (execFenceRelease x0 x1 s) := by
  intros
  unfold execFenceRelease
  with_reducible repeat' (first | intro _ | assumption | apply State.modSes_sound | apply State.answerAt_sound | apply State.freeRegs_sound | apply State.Sound.foldl | apply Out.Sound.next | apply State.Sound.ite | (apply State.Sound.mk' <;> first | rfl | assumption | apply State.modSes_sound | apply State.answerAt_sound | apply State.freeRegs_sound | apply State.Sound.ite | apply State.Sound.foldl | refine State.Sound.ofPair ?_ (by assumption) | split) | apply State.Sound.foldlFst | refine State.Sound.ofPair ?_ (by assumption) | split | dsimp only)

theorem execNul_sound (h : s.Sound p) : ∀ x0 x1, Out.Sound p (execNul x0 x1 s) := by
  intros
  unfold execNul
  with_reducible repeat' (first | intro _ | assumption | apply State.takeIn_sound | apply State.takeAck_sound | apply State.malformed_sound | apply State.Sound.foldl | apply Out.Sound.next | apply State.Sound.ite | (apply State.Sound.mk' <;> first | rfl | assumption | apply State.takeIn_sound | apply State.takeAck_sound | apply State.malformed_sound | apply State.Sound.ite | apply State.Sound.foldl | refine State.Sound.ofPair ?_ (by assumption) | split) | apply State.Sound.foldlFst | refine State.Sound.ofPair ?_ (by assumption) | split | dsimp only)

/-! ### RegCmds -/

theorem State.scanRead_sound (h : s.Sound p) : ∀ x1, (State.scanRead s x1).Sound p := by
  intros
  unfold State.scanRead
  with_reducible repeat' (first | intro _ | assumption | apply State.scan_sound | apply State.portRead_sound | apply State.Sound.foldl | apply State.Sound.ite | (apply State.Sound.mk' <;> first | rfl | assumption | apply State.scan_sound | apply State.portRead_sound | apply State.Sound.ite | apply State.Sound.foldl | refine State.Sound.ofPair ?_ (by assumption) | split) | apply State.Sound.foldlFst | refine State.Sound.ofPair ?_ (by assumption) | split | dsimp only)

theorem State.scanWrite_sound (h : s.Sound p) : ∀ x1 x2, (State.scanWrite s x1 x2).Sound p := by
  intros
  unfold State.scanWrite
  with_reducible repeat' (first | intro _ | assumption | apply State.scan_sound | apply State.portWrite_sound | apply State.Sound.foldl | apply State.Sound.ite | (apply State.Sound.mk' <;> first | rfl | assumption | apply State.scan_sound | apply State.portWrite_sound | apply State.Sound.ite | apply State.Sound.foldl | refine State.Sound.ofPair ?_ (by assumption) | split) | apply State.Sound.foldlFst | refine State.Sound.ofPair ?_ (by assumption) | split | dsimp only)

theorem State.writeFrom_sound (h : s.Sound p) : ∀ x1 x2 x3 x4, (State.writeFrom s x1 x2 x3 x4).Sound p := by
  intros
  unfold State.writeFrom
  with_reducible repeat' (first | intro _ | assumption | apply State.regRequest_sound | apply State.scanWrite_sound | apply State.Sound.foldl | apply State.Sound.ite | (apply State.Sound.mk' <;> first | rfl | assumption | apply State.regRequest_sound | apply State.scanWrite_sound | apply State.Sound.ite | apply State.Sound.foldl | refine State.Sound.ofPair ?_ (by assumption) | split) | apply State.Sound.foldlFst | refine State.Sound.ofPair ?_ (by assumption) | split | dsimp only)

theorem State.writeWord_sound (h : s.Sound p) : ∀ x1 x2 x3 x4 x5, (State.writeWord s x1 x2 x3 x4 x5).Sound p := by
  intros
  unfold State.writeWord
  with_reducible repeat' (first | intro _ | assumption | apply State.writeFrom_sound | apply State.Sound.foldl | apply State.Sound.ite | (apply State.Sound.mk' <;> first | rfl | assumption | apply State.writeFrom_sound | apply State.Sound.ite | apply State.Sound.foldl | refine State.Sound.ofPair ?_ (by assumption) | split) | apply State.Sound.foldlFst | refine State.Sound.ofPair ?_ (by assumption) | split | dsimp only)

theorem State.writeCmd_sound (h : s.Sound p) : ∀ x1 x2 x3 x4 x5, (State.writeCmd s x1 x2 x3 x4 x5).Sound p := by
  intros
  unfold State.writeCmd
  with_reducible repeat' (first | intro _ | assumption | apply State.writeWord_sound | apply State.Sound.foldl | apply State.Sound.ite | (apply State.Sound.mk' <;> first | rfl | assumption | apply State.writeWord_sound | apply State.Sound.ite | apply State.Sound.foldl | refine State.Sound.ofPair ?_ (by assumption) | split) | apply State.Sound.foldlFst | refine State.Sound.ofPair ?_ (by assumption) | split | dsimp only)

theorem execRegWrite_sound (h : s.Sound p) : ∀ x0 x1 x2 x3, Out.Sound p (execRegWrite x0 x1 x2 x3 s) := by
  intros
  unfold execRegWrite
  with_reducible repeat' (first | intro _ | assumption | apply State.writeFrom_sound | apply State.Sound.foldl | apply Out.Sound.next | apply State.Sound.ite | (apply State.Sound.mk' <;> first | rfl | assumption | apply State.writeFrom_sound | apply State.Sound.ite | apply State.Sound.foldl | refine State.Sound.ofPair ?_ (by assumption) | split) | apply State.Sound.foldlFst | refine State.Sound.ofPair ?_ (by assumption) | split | dsimp only)

theorem execTtFrameLoad_sound (h : s.Sound p) : ∀ x0 x1, Out.Sound p (execTtFrameLoad x0 x1 s) := by
  intros
  unfold execTtFrameLoad
  with_reducible repeat' (first | intro _ | assumption | apply State.writeFrom_sound | apply State.Sound.foldl | apply Out.Sound.next | apply State.Sound.ite | (apply State.Sound.mk' <;> first | rfl | assumption | apply State.writeFrom_sound | apply State.Sound.ite | apply State.Sound.foldl | refine State.Sound.ofPair ?_ (by assumption) | split) | apply State.Sound.foldlFst | refine State.Sound.ofPair ?_ (by assumption) | split | dsimp only)

theorem execTtStageHold_sound (h : s.Sound p) : ∀ x0 x1, Out.Sound p (execTtStageHold x0 x1 s) := by
  intros
  unfold execTtStageHold
  with_reducible repeat' (first | intro _ | assumption | apply State.writeWord_sound | apply State.Sound.foldl | apply Out.Sound.next | apply State.Sound.ite | (apply State.Sound.mk' <;> first | rfl | assumption | apply State.writeWord_sound | apply State.Sound.ite | apply State.Sound.foldl | refine State.Sound.ofPair ?_ (by assumption) | split) | apply State.Sound.foldlFst | refine State.Sound.ofPair ?_ (by assumption) | split | dsimp only)

theorem execLaneSpareGo_sound (h : s.Sound p) : ∀ x0 x1 x2, Out.Sound p (execLaneSpareGo x0 x1 x2 s) := by
  intros
  unfold execLaneSpareGo
  with_reducible repeat' (first | intro _ | assumption | apply State.writeCmd_sound | apply State.Sound.foldl | apply Out.Sound.next | apply State.Sound.ite | (apply State.Sound.mk' <;> first | rfl | assumption | apply State.writeCmd_sound | apply State.Sound.ite | apply State.Sound.foldl | refine State.Sound.ofPair ?_ (by assumption) | split) | apply State.Sound.foldlFst | refine State.Sound.ofPair ?_ (by assumption) | split | dsimp only)

theorem execLaneCntClr_sound (h : s.Sound p) : ∀ x0 x1 x2, Out.Sound p (execLaneCntClr x0 x1 x2 s) := by
  intros
  unfold execLaneCntClr
  with_reducible repeat' (first | intro _ | assumption | apply State.writeCmd_sound | apply State.Sound.foldl | apply Out.Sound.next | apply State.Sound.ite | (apply State.Sound.mk' <;> first | rfl | assumption | apply State.writeCmd_sound | apply State.Sound.ite | apply State.Sound.foldl | refine State.Sound.ofPair ?_ (by assumption) | split) | apply State.Sound.foldlFst | refine State.Sound.ofPair ?_ (by assumption) | split | dsimp only)

theorem execSpareStateWrite_sound (h : s.Sound p) : ∀ x0 x1 x2 x3, Out.Sound p (execSpareStateWrite x0 x1 x2 x3 s) := by
  intros
  unfold execSpareStateWrite
  with_reducible repeat' (first | intro _ | assumption | apply State.writeWord_sound | apply State.Sound.foldl | apply Out.Sound.next | apply State.Sound.ite | (apply State.Sound.mk' <;> first | rfl | assumption | apply State.writeWord_sound | apply State.Sound.ite | apply State.Sound.foldl | refine State.Sound.ofPair ?_ (by assumption) | split) | apply State.Sound.foldlFst | refine State.Sound.ofPair ?_ (by assumption) | split | dsimp only)

theorem execPrbsCtlWrite_sound (h : s.Sound p) : ∀ x0 x1 x2 x3, Out.Sound p (execPrbsCtlWrite x0 x1 x2 x3 s) := by
  intros
  unfold execPrbsCtlWrite
  with_reducible repeat' (first | intro _ | assumption | apply State.writeWord_sound | apply State.Sound.foldl | apply Out.Sound.next | apply State.Sound.ite | (apply State.Sound.mk' <;> first | rfl | assumption | apply State.writeWord_sound | apply State.Sound.ite | apply State.Sound.foldl | refine State.Sound.ofPair ?_ (by assumption) | split) | apply State.Sound.foldlFst | refine State.Sound.ofPair ?_ (by assumption) | split | dsimp only)

theorem execInjGo_sound (h : s.Sound p) : ∀ x0 x1 x2 x3, Out.Sound p (execInjGo x0 x1 x2 x3 s) := by
  intros
  unfold execInjGo
  with_reducible repeat' (first | intro _ | assumption | apply State.writeCmd_sound | apply State.Sound.foldl | apply Out.Sound.next | apply State.Sound.ite | (apply State.Sound.mk' <;> first | rfl | assumption | apply State.writeCmd_sound | apply State.Sound.ite | apply State.Sound.foldl | refine State.Sound.ofPair ?_ (by assumption) | split) | apply State.Sound.foldlFst | refine State.Sound.ofPair ?_ (by assumption) | split | dsimp only)

theorem execTrainRetrain_sound (h : s.Sound p) : ∀ x0 x1 x2, Out.Sound p (execTrainRetrain x0 x1 x2 s) := by
  intros
  unfold execTrainRetrain
  with_reducible repeat' (first | intro _ | assumption | apply State.writeCmd_sound | apply State.Sound.foldl | apply Out.Sound.next | apply State.Sound.ite | (apply State.Sound.mk' <;> first | rfl | assumption | apply State.writeCmd_sound | apply State.Sound.ite | apply State.Sound.foldl | refine State.Sound.ofPair ?_ (by assumption) | split) | apply State.Sound.foldlFst | refine State.Sound.ofPair ?_ (by assumption) | split | dsimp only)

theorem execFovGo_sound (h : s.Sound p) : ∀ x0 x1 x2, Out.Sound p (execFovGo x0 x1 x2 s) := by
  intros
  unfold execFovGo
  with_reducible repeat' (first | intro _ | assumption | apply State.writeCmd_sound | apply State.Sound.foldl | apply Out.Sound.next | apply State.Sound.ite | (apply State.Sound.mk' <;> first | rfl | assumption | apply State.writeCmd_sound | apply State.Sound.ite | apply State.Sound.foldl | refine State.Sound.ofPair ?_ (by assumption) | split) | apply State.Sound.foldlFst | refine State.Sound.ofPair ?_ (by assumption) | split | dsimp only)

theorem execChnEnWrite_sound (h : s.Sound p) : ∀ x0 x1 x2, Out.Sound p (execChnEnWrite x0 x1 x2 s) := by
  intros
  unfold execChnEnWrite
  with_reducible repeat' (first | intro _ | assumption | apply State.writeWord_sound | apply State.Sound.foldl | apply Out.Sound.next | apply State.Sound.ite | (apply State.Sound.mk' <;> first | rfl | assumption | apply State.writeWord_sound | apply State.Sound.ite | apply State.Sound.foldl | refine State.Sound.ofPair ?_ (by assumption) | split) | apply State.Sound.foldlFst | refine State.Sound.ofPair ?_ (by assumption) | split | dsimp only)

theorem execChnBlkRst_sound (h : s.Sound p) : ∀ x0 x1 x2, Out.Sound p (execChnBlkRst x0 x1 x2 s) := by
  intros
  unfold execChnBlkRst
  with_reducible repeat' (first | intro _ | assumption | apply State.writeCmd_sound | apply State.Sound.foldl | apply Out.Sound.next | apply State.Sound.ite | (apply State.Sound.mk' <;> first | rfl | assumption | apply State.writeCmd_sound | apply State.Sound.ite | apply State.Sound.foldl | refine State.Sound.ofPair ?_ (by assumption) | split) | apply State.Sound.foldlFst | refine State.Sound.ofPair ?_ (by assumption) | split | dsimp only)

theorem execChnSwap_sound (h : s.Sound p) : ∀ x0 x1 x2, Out.Sound p (execChnSwap x0 x1 x2 s) := by
  intros
  unfold execChnSwap
  with_reducible repeat' (first | intro _ | assumption | apply State.writeCmd_sound | apply State.Sound.foldl | apply Out.Sound.next | apply State.Sound.ite | (apply State.Sound.mk' <;> first | rfl | assumption | apply State.writeCmd_sound | apply State.Sound.ite | apply State.Sound.foldl | refine State.Sound.ofPair ?_ (by assumption) | split) | apply State.Sound.foldlFst | refine State.Sound.ofPair ?_ (by assumption) | split | dsimp only)

theorem execBwrGuaranteeWrite_sound (h : s.Sound p) : ∀ x0 x1 x2, Out.Sound p (execBwrGuaranteeWrite x0 x1 x2 s) := by
  intros
  unfold execBwrGuaranteeWrite
  with_reducible repeat' (first | intro _ | assumption | apply State.writeFrom_sound | apply State.Sound.foldl | apply Out.Sound.next | apply State.Sound.ite | (apply State.Sound.mk' <;> first | rfl | assumption | apply State.writeFrom_sound | apply State.Sound.ite | apply State.Sound.foldl | refine State.Sound.ofPair ?_ (by assumption) | split) | apply State.Sound.foldlFst | refine State.Sound.ofPair ?_ (by assumption) | split | dsimp only)

theorem execVlqRetuneGo_sound (h : s.Sound p) : ∀ x0 x1 x2, Out.Sound p (execVlqRetuneGo x0 x1 x2 s) := by
  intros
  unfold execVlqRetuneGo
  with_reducible repeat' (first | intro _ | assumption | apply State.writeCmd_sound | apply State.Sound.foldl | apply Out.Sound.next | apply State.Sound.ite | (apply State.Sound.mk' <;> first | rfl | assumption | apply State.writeCmd_sound | apply State.Sound.ite | apply State.Sound.foldl | refine State.Sound.ofPair ?_ (by assumption) | split) | apply State.Sound.foldlFst | refine State.Sound.ofPair ?_ (by assumption) | split | dsimp only)

theorem execVlqRetrain_sound (h : s.Sound p) : ∀ x0 x1 x2, Out.Sound p (execVlqRetrain x0 x1 x2 s) := by
  intros
  unfold execVlqRetrain
  with_reducible repeat' (first | intro _ | assumption | apply State.writeCmd_sound | apply State.Sound.foldl | apply Out.Sound.next | apply State.Sound.ite | (apply State.Sound.mk' <;> first | rfl | assumption | apply State.writeCmd_sound | apply State.Sound.ite | apply State.Sound.foldl | refine State.Sound.ofPair ?_ (by assumption) | split) | apply State.Sound.foldlFst | refine State.Sound.ofPair ?_ (by assumption) | split | dsimp only)

theorem execColSpareGo_sound (h : s.Sound p) : ∀ x0 x1 x2, Out.Sound p (execColSpareGo x0 x1 x2 s) := by
  intros
  unfold execColSpareGo
  with_reducible repeat' (first | intro _ | assumption | apply State.writeCmd_sound | apply State.Sound.foldl | apply Out.Sound.next | apply State.Sound.ite | (apply State.Sound.mk' <;> first | rfl | assumption | apply State.writeCmd_sound | apply State.Sound.ite | apply State.Sound.foldl | refine State.Sound.ofPair ?_ (by assumption) | split) | apply State.Sound.foldlFst | refine State.Sound.ofPair ?_ (by assumption) | split | dsimp only)

theorem execRelayRst_sound (h : s.Sound p) : ∀ x0 x1 x2, Out.Sound p (execRelayRst x0 x1 x2 s) := by
  intros
  unfold execRelayRst
  with_reducible repeat' (first | intro _ | assumption | apply State.writeCmd_sound | apply State.Sound.foldl | apply Out.Sound.next | apply State.Sound.ite | (apply State.Sound.mk' <;> first | rfl | assumption | apply State.writeCmd_sound | apply State.Sound.ite | apply State.Sound.foldl | refine State.Sound.ofPair ?_ (by assumption) | split) | apply State.Sound.foldlFst | refine State.Sound.ofPair ?_ (by assumption) | split | dsimp only)

theorem execCrst_sound (h : s.Sound p) : ∀ x0 x1 x2, Out.Sound p (execCrst x0 x1 x2 s) := by
  intros
  unfold execCrst
  with_reducible repeat' (first | intro _ | assumption | apply State.writeCmd_sound | apply State.Sound.foldl | apply Out.Sound.next | apply State.Sound.ite | (apply State.Sound.mk' <;> first | rfl | assumption | apply State.writeCmd_sound | apply State.Sound.ite | apply State.Sound.foldl | refine State.Sound.ofPair ?_ (by assumption) | split) | apply State.Sound.foldlFst | refine State.Sound.ofPair ?_ (by assumption) | split | dsimp only)

theorem execVmapClear_sound (h : s.Sound p) : ∀ x0 x1, Out.Sound p (execVmapClear x0 x1 s) := by
  intros
  unfold execVmapClear
  with_reducible repeat' (first | intro _ | assumption | apply State.writeCmd_sound | apply State.Sound.foldl | apply Out.Sound.next | apply State.Sound.ite | (apply State.Sound.mk' <;> first | rfl | assumption | apply State.writeCmd_sound | apply State.Sound.ite | apply State.Sound.foldl | refine State.Sound.ofPair ?_ (by assumption) | split) | apply State.Sound.foldlFst | refine State.Sound.ofPair ?_ (by assumption) | split | dsimp only)

theorem execFlipArm_sound (h : s.Sound p) : ∀ x0 x1 x2, Out.Sound p (execFlipArm x0 x1 x2 s) := by
  intros
  unfold execFlipArm
  with_reducible repeat' (first | intro _ | assumption | apply State.writeCmd_sound | apply State.Sound.foldl | apply Out.Sound.next | apply State.Sound.ite | (apply State.Sound.mk' <;> first | rfl | assumption | apply State.writeCmd_sound | apply State.Sound.ite | apply State.Sound.foldl | refine State.Sound.ofPair ?_ (by assumption) | split) | apply State.Sound.foldlFst | refine State.Sound.ofPair ?_ (by assumption) | split | dsimp only)

theorem execRepCommit_sound (h : s.Sound p) : ∀ x0 x1, Out.Sound p (execRepCommit x0 x1 s) := by
  intros
  unfold execRepCommit
  with_reducible repeat' (first | intro _ | assumption | apply State.writeCmd_sound | apply State.Sound.foldl | apply Out.Sound.next | apply State.Sound.ite | (apply State.Sound.mk' <;> first | rfl | assumption | apply State.writeCmd_sound | apply State.Sound.ite | apply State.Sound.foldl | refine State.Sound.ofPair ?_ (by assumption) | split) | apply State.Sound.foldlFst | refine State.Sound.ofPair ?_ (by assumption) | split | dsimp only)

theorem execFuseGo_sound (h : s.Sound p) : ∀ x0 x1, Out.Sound p (execFuseGo x0 x1 s) := by
  intros
  unfold execFuseGo
  with_reducible repeat' (first | intro _ | assumption | apply State.writeCmd_sound | apply State.Sound.foldl | apply Out.Sound.next | apply State.Sound.ite | (apply State.Sound.mk' <;> first | rfl | assumption | apply State.writeCmd_sound | apply State.Sound.ite | apply State.Sound.foldl | refine State.Sound.ofPair ?_ (by assumption) | split) | apply State.Sound.foldlFst | refine State.Sound.ofPair ?_ (by assumption) | split | dsimp only)

theorem execPendingClr_sound (h : s.Sound p) : ∀ x0 x1, Out.Sound p (execPendingClr x0 x1 s) := by
  intros
  unfold execPendingClr
  with_reducible repeat' (first | intro _ | assumption | apply State.writeCmd_sound | apply State.Sound.foldl | apply Out.Sound.next | apply State.Sound.ite | (apply State.Sound.mk' <;> first | rfl | assumption | apply State.writeCmd_sound | apply State.Sound.ite | apply State.Sound.foldl | refine State.Sound.ofPair ?_ (by assumption) | split) | apply State.Sound.foldlFst | refine State.Sound.ofPair ?_ (by assumption) | split | dsimp only)

theorem execChtestGo_sound (h : s.Sound p) : ∀ x0 x1, Out.Sound p (execChtestGo x0 x1 s) := by
  intros
  unfold execChtestGo
  with_reducible repeat' (first | intro _ | assumption | apply State.writeCmd_sound | apply State.Sound.foldl | apply Out.Sound.next | apply State.Sound.ite | (apply State.Sound.mk' <;> first | rfl | assumption | apply State.writeCmd_sound | apply State.Sound.ite | apply State.Sound.foldl | refine State.Sound.ofPair ?_ (by assumption) | split) | apply State.Sound.foldlFst | refine State.Sound.ofPair ?_ (by assumption) | split | dsimp only)

theorem execBstAbort_sound (h : s.Sound p) : ∀ x0 x1, Out.Sound p (execBstAbort x0 x1 s) := by
  intros
  unfold execBstAbort
  with_reducible repeat' (first | intro _ | assumption | apply State.writeCmd_sound | apply State.Sound.foldl | apply Out.Sound.next | apply State.Sound.ite | (apply State.Sound.mk' <;> first | rfl | assumption | apply State.writeCmd_sound | apply State.Sound.ite | apply State.Sound.foldl | refine State.Sound.ofPair ?_ (by assumption) | split) | apply State.Sound.foldlFst | refine State.Sound.ofPair ?_ (by assumption) | split | dsimp only)

theorem execSealVoid_sound (h : s.Sound p) : ∀ x0 x1, Out.Sound p (execSealVoid x0 x1 s) := by
  intros
  unfold execSealVoid
  with_reducible repeat' (first | intro _ | assumption | apply State.writeCmd_sound | apply State.Sound.foldl | apply Out.Sound.next | apply State.Sound.ite | (apply State.Sound.mk' <;> first | rfl | assumption | apply State.writeCmd_sound | apply State.Sound.ite | apply State.Sound.foldl | refine State.Sound.ofPair ?_ (by assumption) | split) | apply State.Sound.foldlFst | refine State.Sound.ofPair ?_ (by assumption) | split | dsimp only)

theorem execReactWrite_sound (h : s.Sound p) : ∀ x0 x1 x2, Out.Sound p (execReactWrite x0 x1 x2 s) := by
  intros
  unfold execReactWrite
  with_reducible repeat' (first | intro _ | assumption | apply State.writeWord_sound | apply State.Sound.foldl | apply Out.Sound.next | apply State.Sound.ite | (apply State.Sound.mk' <;> first | rfl | assumption | apply State.writeWord_sound | apply State.Sound.ite | apply State.Sound.foldl | refine State.Sound.ofPair ?_ (by assumption) | split) | apply State.Sound.foldlFst | refine State.Sound.ofPair ?_ (by assumption) | split | dsimp only)

theorem execTargetRun_sound (h : s.Sound p) : ∀ x0 x1, Out.Sound p (execTargetRun x0 x1 s) := by
  intros
  unfold execTargetRun
  with_reducible repeat' (first | intro _ | assumption | apply State.writeWord_sound | apply State.Sound.foldl | apply Out.Sound.next | apply State.Sound.ite | (apply State.Sound.mk' <;> first | rfl | assumption | apply State.writeWord_sound | apply State.Sound.ite | apply State.Sound.foldl | refine State.Sound.ofPair ?_ (by assumption) | split) | apply State.Sound.foldlFst | refine State.Sound.ofPair ?_ (by assumption) | split | dsimp only)

theorem execTargetNap_sound (h : s.Sound p) : ∀ x0 x1, Out.Sound p (execTargetNap x0 x1 s) := by
  intros
  unfold execTargetNap
  with_reducible repeat' (first | intro _ | assumption | apply State.writeWord_sound | apply State.Sound.foldl | apply Out.Sound.next | apply State.Sound.ite | (apply State.Sound.mk' <;> first | rfl | assumption | apply State.writeWord_sound | apply State.Sound.ite | apply State.Sound.foldl | refine State.Sound.ofPair ?_ (by assumption) | split) | apply State.Sound.foldlFst | refine State.Sound.ofPair ?_ (by assumption) | split | dsimp only)

theorem execTargetPark_sound (h : s.Sound p) : ∀ x0 x1, Out.Sound p (execTargetPark x0 x1 s) := by
  intros
  unfold execTargetPark
  with_reducible repeat' (first | intro _ | assumption | apply State.writeWord_sound | apply State.Sound.foldl | apply Out.Sound.next | apply State.Sound.ite | (apply State.Sound.mk' <;> first | rfl | assumption | apply State.writeWord_sound | apply State.Sound.ite | apply State.Sound.foldl | refine State.Sound.ofPair ?_ (by assumption) | split) | apply State.Sound.foldlFst | refine State.Sound.ofPair ?_ (by assumption) | split | dsimp only)

theorem execWidenGo_sound (h : s.Sound p) : ∀ x0 x1, Out.Sound p (execWidenGo x0 x1 s) := by
  intros
  unfold execWidenGo
  with_reducible repeat' (first | intro _ | assumption | apply State.writeCmd_sound | apply State.Sound.foldl | apply Out.Sound.next | apply State.Sound.ite | (apply State.Sound.mk' <;> first | rfl | assumption | apply State.writeCmd_sound | apply State.Sound.ite | apply State.Sound.foldl | refine State.Sound.ofPair ?_ (by assumption) | split) | apply State.Sound.foldlFst | refine State.Sound.ofPair ?_ (by assumption) | split | dsimp only)

theorem execGlbResetChip_sound (h : s.Sound p) : ∀ x0 x1, Out.Sound p (execGlbResetChip x0 x1 s) := by
  intros
  unfold execGlbResetChip
  with_reducible repeat' (first | intro _ | assumption | apply State.writeCmd_sound | apply State.Sound.foldl | apply Out.Sound.next | apply State.Sound.ite | (apply State.Sound.mk' <;> first | rfl | assumption | apply State.writeCmd_sound | apply State.Sound.ite | apply State.Sound.foldl | refine State.Sound.ofPair ?_ (by assumption) | split) | apply State.Sound.foldlFst | refine State.Sound.ofPair ?_ (by assumption) | split | dsimp only)

theorem execGlbBlockRstGo_sound (h : s.Sound p) : ∀ x0 x1, Out.Sound p (execGlbBlockRstGo x0 x1 s) := by
  intros
  unfold execGlbBlockRstGo
  with_reducible repeat' (first | intro _ | assumption | apply State.writeCmd_sound | apply State.Sound.foldl | apply Out.Sound.next | apply State.Sound.ite | (apply State.Sound.mk' <;> first | rfl | assumption | apply State.writeCmd_sound | apply State.Sound.ite | apply State.Sound.foldl | refine State.Sound.ofPair ?_ (by assumption) | split) | apply State.Sound.foldlFst | refine State.Sound.ofPair ?_ (by assumption) | split | dsimp only)

theorem execCalCommit_sound (h : s.Sound p) : ∀ x0 x1, Out.Sound p (execCalCommit x0 x1 s) := by
  intros
  unfold execCalCommit
  with_reducible repeat' (first | intro _ | assumption | apply State.writeCmd_sound | apply State.Sound.foldl | apply Out.Sound.next | apply State.Sound.ite | (apply State.Sound.mk' <;> first | rfl | assumption | apply State.writeCmd_sound | apply State.Sound.ite | apply State.Sound.foldl | refine State.Sound.ofPair ?_ (by assumption) | split) | apply State.Sound.foldlFst | refine State.Sound.ofPair ?_ (by assumption) | split | dsimp only)

theorem execWinRdGo_sound (h : s.Sound p) : ∀ x0 x1, Out.Sound p (execWinRdGo x0 x1 s) := by
  intros
  unfold execWinRdGo
  with_reducible repeat' (first | intro _ | assumption | apply State.writeCmd_sound | apply State.Sound.foldl | apply Out.Sound.next | apply State.Sound.ite | (apply State.Sound.mk' <;> first | rfl | assumption | apply State.writeCmd_sound | apply State.Sound.ite | apply State.Sound.foldl | refine State.Sound.ofPair ?_ (by assumption) | split) | apply State.Sound.foldlFst | refine State.Sound.ofPair ?_ (by assumption) | split | dsimp only)

theorem execWinProgGo_sound (h : s.Sound p) : ∀ x0 x1, Out.Sound p (execWinProgGo x0 x1 s) := by
  intros
  unfold execWinProgGo
  with_reducible repeat' (first | intro _ | assumption | apply State.writeCmd_sound | apply State.Sound.foldl | apply Out.Sound.next | apply State.Sound.ite | (apply State.Sound.mk' <;> first | rfl | assumption | apply State.writeCmd_sound | apply State.Sound.ite | apply State.Sound.foldl | refine State.Sound.ofPair ?_ (by assumption) | split) | apply State.Sound.foldlFst | refine State.Sound.ofPair ?_ (by assumption) | split | dsimp only)

theorem execWinEraseGo_sound (h : s.Sound p) : ∀ x0 x1, Out.Sound p (execWinEraseGo x0 x1 s) := by
  intros
  unfold execWinEraseGo
  with_reducible repeat' (first | intro _ | assumption | apply State.writeCmd_sound | apply State.Sound.foldl | apply Out.Sound.next | apply State.Sound.ite | (apply State.Sound.mk' <;> first | rfl | assumption | apply State.writeCmd_sound | apply State.Sound.ite | apply State.Sound.foldl | refine State.Sound.ofPair ?_ (by assumption) | split) | apply State.Sound.foldlFst | refine State.Sound.ofPair ?_ (by assumption) | split | dsimp only)

theorem execSnapGo_sound (h : s.Sound p) : ∀ x0 x1, Out.Sound p (execSnapGo x0 x1 s) := by
  intros
  unfold execSnapGo
  with_reducible repeat' (first | intro _ | assumption | apply State.writeCmd_sound | apply State.Sound.foldl | apply Out.Sound.next | apply State.Sound.ite | (apply State.Sound.mk' <;> first | rfl | assumption | apply State.writeCmd_sound | apply State.Sound.ite | apply State.Sound.foldl | refine State.Sound.ofPair ?_ (by assumption) | split) | apply State.Sound.foldlFst | refine State.Sound.ofPair ?_ (by assumption) | split | dsimp only)

theorem execRwlLock_sound (h : s.Sound p) : ∀ x0 x1, Out.Sound p (execRwlLock x0 x1 s) := by
  intros
  unfold execRwlLock
  with_reducible repeat' (first | intro _ | assumption | apply State.writeCmd_sound | apply State.Sound.foldl | apply Out.Sound.next | apply State.Sound.ite | (apply State.Sound.mk' <;> first | rfl | assumption | apply State.writeCmd_sound | apply State.Sound.ite | apply State.Sound.foldl | refine State.Sound.ofPair ?_ (by assumption) | split) | apply State.Sound.foldlFst | refine State.Sound.ofPair ?_ (by assumption) | split | dsimp only)

/-! ### Port -/

theorem State.select_sound (h : s.Sound p) : ∀ x1 x2, (State.select s x1 x2).Sound p := by
  intros
  unfold State.select
  with_reducible repeat' (first | intro _ | assumption | apply State.Sound.foldl | apply State.Sound.ite | (apply State.Sound.mk' <;> first | rfl | assumption | apply State.Sound.ite | apply State.Sound.foldl | refine State.Sound.ofPair ?_ (by assumption) | split) | apply State.Sound.foldlFst | refine State.Sound.ofPair ?_ (by assumption) | split | dsimp only)

theorem execWsBypass_sound (h : s.Sound p) : ∀ x0, Out.Sound p (execWsBypass x0 s) := by
  intros
  unfold execWsBypass
  with_reducible repeat' (first | intro _ | assumption | apply State.select_sound | apply State.Sound.foldl | apply Out.Sound.next | apply State.Sound.ite | (apply State.Sound.mk' <;> first | rfl | assumption | apply State.select_sound | apply State.Sound.ite | apply State.Sound.foldl | refine State.Sound.ofPair ?_ (by assumption) | split) | apply State.Sound.foldlFst | refine State.Sound.ofPair ?_ (by assumption) | split | dsimp only)

theorem execWsExtest_sound (h : s.Sound p) : ∀ x0 x1, Out.Sound p (execWsExtest x0 x1 s) := by
  intros
  unfold execWsExtest
  with_reducible repeat' (first | intro _ | assumption | apply State.select_sound | apply State.Sound.foldl | apply Out.Sound.next | apply State.Sound.ite | (apply State.Sound.mk' <;> first | rfl | assumption | apply State.select_sound | apply State.Sound.ite | apply State.Sound.foldl | refine State.Sound.ofPair ?_ (by assumption) | split) | apply State.Sound.foldlFst | refine State.Sound.ofPair ?_ (by assumption) | split | dsimp only)

theorem execWsPreload_sound (h : s.Sound p) : ∀ x0 x1, Out.Sound p (execWsPreload x0 x1 s) := by
  intros
  unfold execWsPreload
  with_reducible repeat' (first | intro _ | assumption | apply State.select_sound | apply State.Sound.foldl | apply Out.Sound.next | apply State.Sound.ite | (apply State.Sound.mk' <;> first | rfl | assumption | apply State.select_sound | apply State.Sound.ite | apply State.Sound.foldl | refine State.Sound.ofPair ?_ (by assumption) | split) | apply State.Sound.foldlFst | refine State.Sound.ofPair ?_ (by assumption) | split | dsimp only)

theorem execDieId_sound (h : s.Sound p) : Out.Sound p (execDieId s) := by
  unfold execDieId
  with_reducible repeat' (first | intro _ | assumption | apply State.select_sound | apply State.Sound.foldl | apply Out.Sound.next | apply State.Sound.ite | (apply State.Sound.mk' <;> first | rfl | assumption | apply State.select_sound | apply State.Sound.ite | apply State.Sound.foldl | refine State.Sound.ofPair ?_ (by assumption) | split) | apply State.Sound.foldlFst | refine State.Sound.ofPair ?_ (by assumption) | split | dsimp only)

theorem execRegAccRead_sound (h : s.Sound p) : ∀ x0, Out.Sound p (execRegAccRead x0 s) := by
  intros
  unfold execRegAccRead
  with_reducible repeat' (first | intro _ | assumption | apply State.scanRead_sound | apply State.Sound.foldl | apply Out.Sound.next | apply State.Sound.ite | (apply State.Sound.mk' <;> first | rfl | assumption | apply State.scanRead_sound | apply State.Sound.ite | apply State.Sound.foldl | refine State.Sound.ofPair ?_ (by assumption) | split) | apply State.Sound.foldlFst | refine State.Sound.ofPair ?_ (by assumption) | split | dsimp only)

theorem execRegAccWrite_sound (h : s.Sound p) : ∀ x0 x1, Out.Sound p (execRegAccWrite x0 x1 s) := by
  intros
  unfold execRegAccWrite
  with_reducible repeat' (first | intro _ | assumption | apply State.scanWrite_sound | apply State.Sound.foldl | apply Out.Sound.next | apply State.Sound.ite | (apply State.Sound.mk' <;> first | rfl | assumption | apply State.scanWrite_sound | apply State.Sound.ite | apply State.Sound.foldl | refine State.Sound.ofPair ?_ (by assumption) | split) | apply State.Sound.foldlFst | refine State.Sound.ofPair ?_ (by assumption) | split | dsimp only)

theorem execWrstnReset_sound (h : s.Sound p) : Out.Sound p (execWrstnReset s) := by
  unfold execWrstnReset
  with_reducible repeat' (first | intro _ | assumption | apply State.Sound.foldl | apply Out.Sound.next | apply State.Sound.ite | (apply State.Sound.mk' <;> first | rfl | assumption | apply State.Sound.ite | apply State.Sound.foldl | refine State.Sound.ofPair ?_ (by assumption) | split) | apply State.Sound.foldlFst | refine State.Sound.ofPair ?_ (by assumption) | split | dsimp only)

end Sys2Proof.Machine
end

