-- ==== Sys2Proof/Tests/Slice0.lean ====
section
/-! SUPPORT. Tests: for each statement with hypotheses a state and operands that meet them, clause by clause; an ill-formed command for each check of well-formedness; small checks of single commands against the spec's own figures. -/
namespace Sys2Proof.Tests
open Sys2Proof Sys2Proof.Machine

set_option Elab.async false

/-- Fields set over the state after reset: field, value, i, j. -/
def regs (l : List (Field × Nat × Nat × Nat)) : State :=
  l.foldl (fun s e => s.setFld e.1 e.2.1 e.2.2.1 e.2.2.2) State.reset

/-- Power is good and no reset is asserted. -/
def powered : State := { State.reset with
    resetting := false
    pins := { State.reset.pins with pwrGood := true, resetN := true }
    start := { State.reset.start with held := false } }

/-- A start that has reached stage n. -/
def stage (n : Nat) (st : Start) : State :=
  ({ powered with start := { st with running := true } }).setFld Fld.GLB_STATE_PHASE n

/-- The state with channel c as given. -/
def chn (c : Nat) (x : Chan) (s : State) : State := s.modChan c fun _ => x

/-- The state with bundle b as given. -/
def bnd (b : Nat) (x : Bund) (s : State) : State := s.modBund b fun _ => x

/-- A state in which one attempt of vertical training stands as given. -/
def vtrain (j : VTrain) : State := { State.reset with vert := { trains := [j] } }

/-- Channel c as given over a trained bundle, out of self-refresh. -/
def engine (c : Nat) (x : Chan) : State :=
  ((bnd c { up := true } (chn c x powered)).setFld Fld.CHN_REF_STATE_SR 0 c).setFld Fld.VLQ_CTL_EN 1 (c / 16)

/-- A READY track as given, both directions in L0. -/
def track (t : Nat) (x : Trk) : State :=
  (((powered.modTrk t fun _ => x).setFld Fld.TRK_TRAIN_STATUS_STATE LinkState.ready.code t).setFld Fld.TRK_LSTATE_TX_STATE 0 t).setFld
    Fld.TRK_LSTATE_RX_STATE 0 t

/-- A track in a phase of training. -/
def phase (t n : Nat) (x : Trk) : State :=
  ((powered.modTrk t fun _ => x).setFld Fld.TRK_TRAIN_STATUS_STATE LinkState.training.code t).setFld Fld.TRK_TRAIN_STATUS_PHASE n t

def bul0 : BulRec := { src := .regRefused, cls := 0, urgent := false, held := false, esc := false, info := {}, time := 0, folded := 0 }
def job0 : LineJob := { bank := 31, row := 24575, col := 31, ln := 5, te := 3, st := .out }
def ent0 : Ent := { ord := 9, kind := .rd, track := 31, master := 63, tag := 16383, unit := 10, len := 2, wagon := 0, lines := [job0] }
def rdLine : TLine := { col := 31, use := .host, ord := 9 }
def rdTrain : Train := { tid := 5, write := false, bank := 31, row := 24575, lines := [rdLine] }
def wrLine : TLine := { col := 31, use := .host, ord := 9 }
def wrTrain : Train := { tid := 5, write := true, bank := 31, row := 24575, lines := [wrLine] }
def unit0 : Unit32 := 0xA5C30F19887712345DEADBEEF01020304FFEE99AA55557F3C1B2D4E6F8091A2B3
def slot0 : RdSlot := { ctl := lineControl 31 3 0 5, code := encodeLine (encodeTile unit0 ++ encodeTile (unit0 * 7)) }
def codec0 : CodecJob := { chan := 17, train := rdTrain, line := rdLine, code := 0 }
def cfg0 : CfgCmd := { op := 0x10, bundle := 63, layer := 15, use := .other }
def cal (n : Nat) : CalCount := { n1c := 0, n1d := 0, n1l := 0, nt := n }
/-- Every spare and every yard row of bank 31 of channel 0 is bad. -/
def taken : List RepEnt :=
  ((List.range 32).map fun i => { kind := 2, bank := 31, res := i }) ++ (List.range 96).map fun i => { kind := 3, bank := 31, res := i }
def soft0 : RepEnt := { kind := 1, state := 2, unit := 60 }
def cen0 : CenContent := { round := 0, sTx := 0, sRx := 0, counts := {} }
def encSkp : BitVec 10 := (encCtl .skp false).1

/-- The tile code of one 32-byte unit, as the statement spells it. -/
def colPar (j : Nat) : Bool := (List.range 16).foldl (fun x i => x ^^ unit0.getLsbD (16 * i + j)) false
def rowPar (i : Nat) : Bool := (List.range 16).foldl (fun x j => x ^^ unit0.getLsbD (16 * i + j)) false
def prefixPar : Nat → Bool
  | 0 => colPar 0
  | j + 1 => prefixPar j ^^ colPar (j + 1)
def checkBit (j : Nat) : Bool := if 14 ≤ j then prefixPar j else prefixPar j ^^ prefixPar 15

/-- Sixteen layers, sixteen live bank pairs in every channel, the hash on. -/
def full : State :=
  regs [(Fld.GLB_ADDR_MAP_KIND, 2, 0, 0), (Fld.GLB_ADDR_MAP_CHAN_COUNT, 64, 0, 0), (Fld.REP_LAYERS_USED, 0xFFFF, 0, 0), (Fld.REP_MAP_PAIRS, 16, 0, 0),
    (Fld.GLB_ADDR_MAP_HASH_EN, 1, 0, 0)]

/-! A smallest image: its header with a directory of nine records out of TYPE order, and the records. -/

/-- The header and the directory, by address. -/
def imageHead : List (Nat × Byte) :=
  [(0, 67), (1, 83), (2, 84), (3, 68), (4, 3), (5, 0), (6, 9), (7, 0), (8, 16), (9, 2), (10, 0), (11, 0), (12, 78), (13, 78), (14, 222), (15, 139), (16, 9), (17, 0), (18, 0), (19, 0), (20, 160), (21, 0), (22, 0), (23, 0), (24, 32), (25, 0), (26, 0), (27, 0), (28, 239), (29, 229), (30, 195), (31, 51), (32, 1), (33, 0), (34, 0), (35, 0), (36, 192), (37, 0), (38, 0), (39, 0), (40, 84), (41, 0), (42, 0), (43, 0), (44, 243), (45, 178), (46, 161), (47, 215), (48, 2), (49, 0), (50, 0), (51, 0), (52, 32), (53, 1), (54, 0), (55, 0), (56, 32), (57, 0), (58, 0), (59, 0), (60, 244), (61, 148), (62, 31), (63, 188), (64, 3), (65, 0), (66, 0), (67, 0), (68, 64), (69, 1), (70, 0), (71, 0), (72, 36), (73, 0), (74, 0), (75, 0), (76, 225), (77, 208), (78, 101), (79, 236), (80, 4), (81, 0), (82, 0), (83, 0), (84, 112), (85, 1), (86, 0), (87, 0), (88, 32), (89, 0), (90, 0), (91, 0), (92, 132), (93, 60), (94, 50), (95, 88), (96, 5), (97, 0), (98, 0), (99, 0), (100, 144), (101, 1), (102, 0), (103, 0), (104, 32), (105, 0), (106, 0), (107, 0), (108, 123), (109, 89), (110, 156), (111, 188), (112, 6), (113, 0), (114, 0), (115, 0), (116, 176), (117, 1), (118, 0), (119, 0), (120, 32), (121, 0), (122, 0), (123, 0), (124, 180), (125, 240), (126, 130), (127, 78), (128, 7), (129, 0), (130, 0), (131, 0), (132, 208), (133, 1), (134, 0), (135, 0), (136, 32), (137, 0), (138, 0), (139, 0), (140, 238), (141, 125), (142, 41), (143, 66), (144, 8), (145, 0), (146, 0), (147, 0), (148, 240), (149, 1), (150, 0), (151, 0), (152, 32), (153, 0), (154, 0), (155, 0), (156, 147), (157, 222), (158, 127), (159, 29)]

/-- The bytes of record k, by address. -/
def imageRec : Nat → List (Nat × Byte)
  | 0 => [(160, 9), (161, 1), (162, 0), (163, 0), (164, 12), (165, 0), (166, 0), (167, 0), (168, 0), (169, 0), (170, 0), (171, 0), (172, 0), (173, 0), (174, 0), (175, 0), (176, 4), (177, 128), (178, 14), (179, 0), (180, 0), (181, 0), (182, 0), (183, 0), (184, 0), (185, 0), (186, 0), (187, 0), (188, 239), (189, 229), (190, 195), (191, 51)]
  | 1 => [(192, 1), (193, 1), (194, 0), (195, 0), (196, 64), (197, 0), (198, 0), (199, 0), (200, 0), (201, 0), (202, 0), (203, 0), (204, 0), (205, 0), (206, 0), (207, 0), (208, 1), (209, 0), (210, 0), (211, 0), (212, 1), (213, 0), (214, 0), (215, 0), (216, 52), (217, 18), (218, 120), (219, 86), (220, 0), (221, 0), (222, 0), (223, 0), (224, 0), (225, 0), (226, 0), (227, 0), (228, 0), (229, 0), (230, 0), (231, 0), (232, 0), (233, 0), (234, 0), (235, 0), (236, 0), (237, 0), (238, 0), (239, 0), (240, 0), (241, 0), (242, 0), (243, 0), (244, 0), (245, 0), (246, 0), (247, 0), (248, 0), (249, 0), (250, 0), (251, 0), (252, 0), (253, 0), (254, 0), (255, 0), (256, 0), (257, 0), (258, 0), (259, 0), (260, 0), (261, 0), (262, 0), (263, 0), (264, 0), (265, 0), (266, 0), (267, 0), (268, 0), (269, 0), (270, 0), (271, 0), (272, 243), (273, 178), (274, 161), (275, 215), (276, 0), (277, 0), (278, 0), (279, 0), (280, 0), (281, 0), (282, 0), (283, 0), (284, 0), (285, 0), (286, 0), (287, 0)]
  | 2 => [(288, 2), (289, 1), (290, 0), (291, 0), (292, 12), (293, 0), (294, 0), (295, 0), (296, 0), (297, 0), (298, 0), (299, 0), (300, 0), (301, 0), (302, 0), (303, 0), (304, 0), (305, 5), (306, 1), (307, 0), (308, 1), (309, 0), (310, 0), (311, 0), (312, 1), (313, 0), (314, 0), (315, 0), (316, 244), (317, 148), (318, 31), (319, 188)]
  | 3 => [(320, 3), (321, 1), (322, 0), (323, 0), (324, 16), (325, 0), (326, 0), (327, 0), (328, 0), (329, 0), (330, 0), (331, 0), (332, 0), (333, 0), (334, 0), (335, 0), (336, 3), (337, 0), (338, 0), (339, 0), (340, 0), (341, 0), (342, 0), (343, 0), (344, 0), (345, 0), (346, 0), (347, 0), (348, 0), (349, 0), (350, 0), (351, 0), (352, 225), (353, 208), (354, 101), (355, 236), (356, 0), (357, 0), (358, 0), (359, 0), (360, 0), (361, 0), (362, 0), (363, 0), (364, 0), (365, 0), (366, 0), (367, 0)]
  | 4 => [(368, 4), (369, 1), (370, 0), (371, 0), (372, 12), (373, 0), (374, 0), (375, 0), (376, 0), (377, 0), (378, 0), (379, 0), (380, 0), (381, 0), (382, 0), (383, 0), (384, 8), (385, 0), (386, 6), (387, 0), (388, 0), (389, 0), (390, 0), (391, 0), (392, 0), (393, 0), (394, 0), (395, 0), (396, 132), (397, 60), (398, 50), (399, 88)]
  | 5 => [(400, 5), (401, 1), (402, 0), (403, 0), (404, 12), (405, 0), (406, 0), (407, 0), (408, 0), (409, 0), (410, 0), (411, 0), (412, 0), (413, 0), (414, 0), (415, 0), (416, 0), (417, 0), (418, 7), (419, 1), (420, 255), (421, 0), (422, 0), (423, 0), (424, 39), (425, 0), (426, 0), (427, 0), (428, 123), (429, 89), (430, 156), (431, 188)]
  | 6 => [(432, 6), (433, 1), (434, 0), (435, 0), (436, 12), (437, 0), (438, 0), (439, 0), (440, 0), (441, 0), (442, 0), (443, 0), (444, 0), (445, 0), (446, 0), (447, 0), (448, 0), (449, 0), (450, 14), (451, 0), (452, 0), (453, 0), (454, 0), (455, 0), (456, 0), (457, 0), (458, 0), (459, 0), (460, 180), (461, 240), (462, 130), (463, 78)]
  | 7 => [(464, 7), (465, 1), (466, 0), (467, 0), (468, 12), (469, 0), (470, 0), (471, 0), (472, 0), (473, 0), (474, 0), (475, 0), (476, 0), (477, 0), (478, 0), (479, 0), (480, 0), (481, 0), (482, 8), (483, 0), (484, 0), (485, 0), (486, 0), (487, 0), (488, 0), (489, 0), (490, 0), (491, 0), (492, 238), (493, 125), (494, 41), (495, 66)]
  | _ => [(496, 8), (497, 1), (498, 0), (499, 0), (500, 12), (501, 0), (502, 0), (503, 0), (504, 0), (505, 0), (506, 0), (507, 0), (508, 0), (509, 0), (510, 0), (511, 0), (512, 0), (513, 4), (514, 13), (515, 0), (516, 0), (517, 0), (518, 0), (519, 0), (520, 0), (521, 0), (522, 0), (523, 0), (524, 147), (525, 222), (526, 127), (527, 29)]

/-- Where record k lies. -/
def recAddr : Nat → Nat
  | 0 => 160
  | 1 => 192
  | 2 => 288
  | 3 => 320
  | 4 => 368
  | 5 => 400
  | 6 => 432
  | 7 => 464
  | _ => 496

/-- The flash from record k on. -/
def tailFrom : Nat → Nat → FlashBoot
  | _, 0 => {}
  | k, n + 1 => { bytes := imageRec k ++ (tailFrom (k + 1) n).bytes }

/-- A flash that holds the image. -/
def flash0 : FlashBoot := { bytes := imageHead ++ (tailFrom 0 9).bytes }

/-- The nine records, as they were written. -/
def rec0 : Nat → Record
  | 0 => { ty := 9, gen := 0, body := [0x4, 0x80, 0xe] ++ List.replicate 9 0, crc := 0x33C3E5EF }
  | 1 => { ty := 1, gen := 0, body := [0x1, 0x0, 0x0, 0x0, 0x1, 0x0, 0x0, 0x0, 0x34, 0x12, 0x78, 0x56] ++ List.replicate 52 0, crc := 0xD7A1B2F3 }
  | 2 => { ty := 2, gen := 0, body := [0x0, 0x5, 0x1, 0x0, 0x1, 0x0, 0x0, 0x0, 0x1] ++ List.replicate 3 0, crc := 0xBC1F94F4 }
  | 3 => { ty := 3, gen := 0, body := [0x3] ++ List.replicate 15 0, crc := 0xEC65D0E1 }
  | 4 => { ty := 4, gen := 0, body := [0x8, 0x0, 0x6] ++ List.replicate 9 0, crc := 0x58323C84 }
  | 5 => { ty := 5, gen := 0, body := [0x0, 0x0, 0x7, 0x1, 0xff, 0x0, 0x0, 0x0, 0x27] ++ List.replicate 3 0, crc := 0xBC9C597B }
  | 6 => { ty := 6, gen := 0, body := [0x0, 0x0, 0xe] ++ List.replicate 9 0, crc := 0x4E82F0B4 }
  | 7 => { ty := 7, gen := 0, body := [0x0, 0x0, 0x8] ++ List.replicate 9 0, crc := 0x42297DEE }
  | _ => { ty := 8, gen := 0, body := [0x0, 0x4, 0xd] ++ List.replicate 9 0, crc := 0x1D7FDE93 }

theorem find_drop (l m : List (Nat × Byte)) (k : Nat) (h : ∀ e ∈ l, e.1 < k) : Store.find (l ++ m) k = Store.find m k := by
  induction l with
  | nil => rfl
  | cons e l ih =>
    have hk : ¬ k = e.1 := Nat.ne_of_gt (h e (.head l))
    have hr := ih fun y hy => h y (.tail e hy)
    show (if k = e.1 then some e.2 else Store.find (l ++ m) k) = _
    rw [if_neg hk, hr]

/-- Two flashes read alike from an address on. -/
def alikeFrom (a : Nat) (x y : FlashBoot) : Prop := ∀ b, a ≤ b → x.byte b = y.byte b

theorem alike_trans {a b : Nat} {x y z : FlashBoot} (h : alikeFrom a x y) (ab : a ≤ b) (g : alikeFrom b y z) : alikeFrom b x z :=
  fun c hc => (h c (Nat.le_trans ab hc)).trans (g c hc)

theorem alike_drop (l m : List (Nat × Byte)) (a : Nat) (x : FlashBoot) (hx : x.bytes = l ++ m) (h : (l.all fun e => Nat.blt e.1 a) = true) :
    alikeFrom a x { bytes := m } := by
  intro b hb
  unfold FlashBoot.byte Store.get
  rw [hx, find_drop l m b fun e he => Nat.lt_of_lt_of_le (Nat.le_of_ble_eq_true (List.all_eq_true.mp h e he)) hb]

theorem record_alike {a : Nat} {x y : FlashBoot} (h : alikeFrom a x y) (ty room : Nat) : x.record a ty room = y.record a ty room := by
  have hr : ∀ b n, a ≤ b → x.read b n = y.read b n := fun b n hb =>
    List.map_congr_left fun i _ => h (b + i) (Nat.le_trans hb (Nat.le_add_right b i))
  have hn : ∀ b n, a ≤ b → x.num b n = y.num b n := fun b n hb => congrArg ofBytesLE (hr b n hb)
  unfold FlashBoot.record
  simp only [h a (Nat.le_refl a), h (a + 1) (by omega), hn (a + 2) 2 (by omega), hn (a + 4) 4 (by omega), hn (a + 8) 4 (by omega),
    hn (a + 12) 4 (by omega), hn (a + 16 + y.num (a + 4) 4) 4 (by omega), hr a _ (Nat.le_refl a), hr (a + 16) _ (by omega)]

/-- What directory entry k says of record k, and whether the flash from there on holds it. -/
def holdsEntry (y : FlashBoot) (k : Nat) : Bool :=
  let e := 16 + 16 * k
  let r := rec0 k
  flash0.num (e + 4) 4 = recAddr k && flash0.num (e + 1) 3 = 0 && recAddr k % 16 = 0 && flash0.num (e + 8) 4 = r.body.length + 20 &&
  flash0.num (e + 12) 4 = r.crc && r.gen = 0 && recAddr k + (r.body.length + 20) ≤ flash0.num 8 4 && (flash0.byte e).toNat = r.ty &&
  y.record (recAddr k) r.ty (r.body.length + 20) = some r

theorem entry_of {k : Nat} {y : FlashBoot} (g : alikeFrom (recAddr k) flash0 y) (h : holdsEntry y k = true) : flash0.entry k = .ok (rec0 k) := by
  unfold holdsEntry at h
  simp only [Bool.and_eq_true, decide_eq_true_eq] at h
  obtain ⟨⟨⟨⟨⟨⟨⟨⟨h1, h2⟩, h3⟩, h4⟩, h5⟩, h6⟩, h7⟩, h8⟩, h9⟩ := h
  unfold FlashBoot.entry
  simp only [h1, h4, h8, record_alike g, h9, h2, h3, h5, h6, h7, and_self, if_true]

theorem go_cons (x : FlashBoot) {k : Nat} {ks : List Nat} {r : Record} {rs : List Record} (h : x.entry k = .ok r)
    (g : FlashBoot.image.go x ks = .ok rs) : FlashBoot.image.go x (k :: ks) = .ok (r :: rs) := by
  unfold FlashBoot.image.go
  rw [h, g]

theorem image_of (x : FlashBoot) (rs : List Record) (h : x.headOk = true) (g : FlashBoot.image.go x (List.range 9) = .ok rs)
    (u : ([1, 2, 3, 4, 5, 6, 7, 8, 9].find? fun t => (rs.filter fun r => r.ty = t).length ≠ 1) = none) : x.image = .ok rs := by
  unfold FlashBoot.image
  rw [if_neg (by simp [h]), g]
  simp only [u]

set_option maxRecDepth 1000000

theorem head_good : flash0.headOk = true := by decide +kernel

theorem alike_0 : alikeFrom (recAddr 0) flash0 (tailFrom 0 9) :=
  alike_drop imageHead _ (recAddr 0) flash0 rfl (by decide +kernel)

theorem alike_next {k n : Nat} (g : alikeFrom (recAddr k) flash0 (tailFrom k (n + 1))) (le : recAddr k ≤ recAddr (k + 1))
    (h : ((imageRec k).all fun e => Nat.blt e.1 (recAddr (k + 1))) = true) : alikeFrom (recAddr (k + 1)) flash0 (tailFrom (k + 1) n) := by
  have e : (tailFrom (k + 1) n) = { bytes := (tailFrom (k + 1) n).bytes } := by
    cases n with
    | zero => rfl
    | succ n => rfl
  rw [e]
  exact alike_trans g le (alike_drop (imageRec k) _ (recAddr (k + 1)) (tailFrom k (n + 1)) rfl h)

theorem alike_1 : alikeFrom (recAddr 1) flash0 (tailFrom 1 8) := alike_next alike_0 (by decide) (by decide +kernel)
theorem alike_2 : alikeFrom (recAddr 2) flash0 (tailFrom 2 7) := alike_next alike_1 (by decide) (by decide +kernel)
theorem alike_3 : alikeFrom (recAddr 3) flash0 (tailFrom 3 6) := alike_next alike_2 (by decide) (by decide +kernel)
theorem alike_4 : alikeFrom (recAddr 4) flash0 (tailFrom 4 5) := alike_next alike_3 (by decide) (by decide +kernel)
theorem alike_5 : alikeFrom (recAddr 5) flash0 (tailFrom 5 4) := alike_next alike_4 (by decide) (by decide +kernel)
theorem alike_6 : alikeFrom (recAddr 6) flash0 (tailFrom 6 3) := alike_next alike_5 (by decide) (by decide +kernel)
theorem alike_7 : alikeFrom (recAddr 7) flash0 (tailFrom 7 2) := alike_next alike_6 (by decide) (by decide +kernel)
theorem alike_8 : alikeFrom (recAddr 8) flash0 (tailFrom 8 1) := alike_next alike_7 (by decide) (by decide +kernel)

theorem entry_0 : flash0.entry 0 = .ok (rec0 0) := entry_of alike_0 (by decide +kernel)
theorem entry_1 : flash0.entry 1 = .ok (rec0 1) := entry_of alike_1 (by decide +kernel)
theorem entry_2 : flash0.entry 2 = .ok (rec0 2) := entry_of alike_2 (by decide +kernel)
theorem entry_3 : flash0.entry 3 = .ok (rec0 3) := entry_of alike_3 (by decide +kernel)
theorem entry_4 : flash0.entry 4 = .ok (rec0 4) := entry_of alike_4 (by decide +kernel)
theorem entry_5 : flash0.entry 5 = .ok (rec0 5) := entry_of alike_5 (by decide +kernel)
theorem entry_6 : flash0.entry 6 = .ok (rec0 6) := entry_of alike_6 (by decide +kernel)
theorem entry_7 : flash0.entry 7 = .ok (rec0 7) := entry_of alike_7 (by decide +kernel)
theorem entry_8 : flash0.entry 8 = .ok (rec0 8) := entry_of alike_8 (by decide +kernel)

theorem image_is : flash0.image = .ok ((List.range 9).map rec0) :=
  image_of flash0 _ head_good
    (go_cons flash0 entry_0 <| go_cons flash0 entry_1 <| go_cons flash0 entry_2 <| go_cons flash0 entry_3 <| go_cons flash0 entry_4 <|
      go_cons flash0 entry_5 <| go_cons flash0 entry_6 <| go_cons flash0 entry_7 <| go_cons flash0 entry_8 rfl)
    (by decide +kernel)

theorem id_reset : State.reset.fld Fld.BST_DIE_ID_ID = Field.reset Fld.BST_DIE_ID_ID 0 0 := by
  unfold State.fld
  exact rfl

theorem id_is : Field.reset Fld.BST_DIE_ID_ID 0 0 = 0xB1 * 2 ^ 56 + Config.dieSerial.toNat := by
  unfold Field.reset
  simp only [Fld.BST_DIE_ID_ID]

theorem id_below (n : Nat) (h : n < 2 ^ 56) : 0xB1 * 2 ^ 56 + n < 2 ^ 64 := by omega

theorem serial_small : State.reset.fld Fld.BST_DIE_ID_ID < 2 ^ 64 := by
  rw [id_reset, id_is]
  exact id_below _ Config.dieSerial.isLt

theorem word_small : ∀ l j, State.reset.fld Fld.LAY_ID_WORD l j < 2 ^ 32 := fun _ _ => (by decide : 0 < 2 ^ 32)

/-- An entry of one line not yet issued, and a channel whose engine waits for more of its train. -/
def entIdle : Ent := { ent0 with chk := true, lines := [{ job0 with st := .idle }] }
def waiting : State := (engine 0 { q := [entIdle], wait := some (9, 31, false) }).setFld Fld.CHN_REF_STATE_OWED 0 0

/-- The same, not yet waiting; an entry in a siding at its limit; a buffered read of one line. -/
def queued : State := (engine 0 { q := [entIdle] }).setFld Fld.CHN_REF_STATE_OWED 0 0
def ent1 : Ent := { ent0 with side := some { reason := 1, ticks := 2, limit := 2 } }
def buf0 : BufEnt := { pkt := { typ := 1, len := 2, addr := 10 }, ord := 9, lines := [job0] }

/-- The hypotheses of IdleStepChangesNothing can be met. -/
theorem test_IdleStepChangesNothing_hypotheses :
    (∃ (s : State), (s.pending = [])) := by
  refine ⟨(State.reset), (by decide +kernel)⟩

/-- The hypotheses of QueueIsFirstInFirstOut can be met. -/
theorem test_QueueIsFirstInFirstOut_hypotheses :
    (∃ (c : Instr) (rest : List Instr) (s : State), (s.pending = c :: rest)) := by
  refine ⟨(.frameTick true true), ([.accountSlot]), ({ State.reset with pending := [.frameTick true true, .accountSlot] }), (by decide +kernel)⟩

/-- The hypotheses of StepKeepsInvariant can be met. -/
theorem test_StepKeepsInvariant_hypotheses :
    (∃ (s t : State), s.Inv ∧ step s = .next t) := by
  refine ⟨({ State.reset with pending := [.accountSlot] }), (_), ⟨rfl, rfl, rfl, rfl, rfl, rfl, ⟨rfl, by decide⟩, by decide, by decide⟩, rfl⟩

/-- The hypotheses of PowerOnAndResetPinsStart can be met. -/
theorem test_PowerOnAndResetPinsStart_hypotheses :
    (∃ (s : State), (s.hold = none) ∧ (s.pins.pwrGood = false)) ∧
    (∃ (s : State), (s.hold.isSome = true)) ∧
    (∃ (s : State), (s.hold = none) ∧ (s.pins.pwrGood = true) ∧ (s.start.held = true) ∧ (s.start.chip = false)) ∧
    (∃ (s : State), (s.pins.resetN = true) ∧ (s.start.chip = true)) ∧
    (∃ (s : State), (s.pins.resetN = false) ∧ (s.start.chip = true)) := by
  refine ⟨⟨(State.reset), (by decide +kernel), (by decide +kernel)⟩,
    ⟨({ powered with hold := some { rail := 15 } }), (by decide +kernel)⟩,
    ⟨({ powered with start := { held := true } }), (by decide +kernel), (by decide +kernel), (by decide +kernel), (by decide +kernel)⟩,
    ⟨({ powered with start := { held := true, chip := true }, resetting := true }), (by decide +kernel), (by decide +kernel)⟩,
    ⟨({ powered with pins := { pwrGood := true, resetN := false }, start := { held := true, chip := true }, resetting := true }), (by decide +kernel), (by decide +kernel)⟩⟩

/-- The hypotheses of PinResetAndSupplyRemoval can be met. -/
theorem test_PinResetAndSupplyRemoval_hypotheses :
    (∃ (s : State), (s.hold = none) ∧ (s.pins.pwrGood = true) ∧ (s.pins.resetN = true)) ∧
    (∃ (s : State), (s.hold.isSome = true ∨ s.pins.pwrGood = false) ∧ (s.pins.resetN = true)) ∧
    (∃ (s : State), (s.pins.resetN = false)) := by
  refine ⟨⟨(powered), (by decide +kernel), (by decide +kernel), (by decide +kernel)⟩,
    ⟨({ powered with hold := some { rail := 15 } }), (by decide +kernel), (by decide +kernel)⟩,
    ⟨({ powered with pins := { pwrGood := true, resetN := false } }), (by decide +kernel)⟩⟩

/-- The hypotheses of SagEntersHold can be met. -/
theorem test_SagEntersHold_hypotheses :
    (∃ (_rail : BitVec 4) (_sample : BitVec 14) (s : State), (s.hold = none) ∧ (s.pins.pwrGood = true)) ∧
    (∃ (s : State), (s.hold = none) ∧ (s.pins.pwrGood = true)) := by
  refine ⟨⟨(0xF), (0x3FFF), (powered), (by decide +kernel), (by decide +kernel)⟩,
    ⟨(powered), (by decide +kernel), (by decide +kernel)⟩⟩

/-- The hypotheses of HoldSaveRuns can be met. -/
theorem test_HoldSaveRuns_hypotheses :
    (∃ (s : State) (h : Hold) (k : Nat), (s.hold = some h) ∧ (h.slot = some k) ∧ (h.page = none) ∧ (h.ended = false)) ∧
    (∃ (s : State) (h : Hold) (p : Nat), (s.hold = some h) ∧ (h.page = some p)) ∧
    (∃ (s : State) (h : Hold) (p : Nat), (s.hold = some h) ∧ (h.page = some p)) ∧
    (∃ (s : State) (h : Hold), (s.hold = some h) ∧ (h.ended = true) ∧ (s.pins.pwrGood = true)) ∧
    (∃ (s : State) (h : Hold), (s.hold = some h) ∧ (h.ended = false ∨ s.pins.pwrGood = false)) := by
  refine ⟨⟨({ State.reset with hold := some { rail := 3, slot := some 511 } }), ({ rail := 3, slot := some 511 }), (511), (by decide +kernel), (by decide +kernel), (by decide +kernel), (by decide +kernel)⟩,
    ⟨({ State.reset with hold := some { rail := 3, slot := some 0, page := some 14 } }), ({ rail := 3, slot := some 0, page := some 14 }), (14), (by decide +kernel), (by decide +kernel)⟩,
    ⟨({ State.reset with hold := some { rail := 3, slot := some 0, page := some 15 } }), ({ rail := 3, slot := some 0, page := some 15 }), (15), (by decide +kernel), (by decide +kernel)⟩,
    ⟨({ powered with hold := some { rail := 3, ended := true } }), ({ rail := 3, ended := true }), (by decide +kernel), (by decide +kernel), (by decide +kernel)⟩,
    ⟨({ State.reset with hold := some { rail := 3, ended := true } }), ({ rail := 3, ended := true }), (by decide +kernel), (by decide +kernel)⟩⟩

/-- The hypotheses of StartStagesServiceAndImage can be met. -/
theorem test_StartStagesServiceAndImage_hypotheses :
    (∃ (s : State), (s.atStage 0 = true) ∧ (s.pins.refclk = true)) ∧
    (∃ (s : State), (s.atStage 0 = false ∨ s.pins.refclk = false)) ∧
    (∃ (x : FlashBoot) (s : State), (s.atStage 1 = true) ∧ (x.sfdpOk = false ∨ (∃ ty, x.image = .error ty) ∨ (∃ rs, x.image = .ok rs ∧ (imageFault rs).1.isSome = true))) ∧
    (∃ (x : FlashBoot) (rs : List Record) (use : List Record) (b : Bool) (s : State), (s.atStage 1 = true) ∧ (x.sfdpOk = true) ∧ (x.image = .ok rs) ∧ (imageFault rs = (none, b)) ∧ (use = (inTypeOrder rs).filter fun r => !(b && r.ty = 4))) := by
  refine ⟨⟨(stage 0 {}), (by decide +kernel), (by decide +kernel)⟩,
    ⟨(stage 1 {}), (by decide +kernel)⟩,
    ⟨({ signature := false }), (stage 1 {}), (by decide +kernel), (.inl (by decide))⟩,
    ⟨(flash0), ((List.range 9).map rec0), ((inTypeOrder ((List.range 9).map rec0)).filter fun r => !((imageFault ((List.range 9).map rec0)).2 && r.ty = 4)), ((imageFault ((List.range 9).map rec0)).2), (stage 1 {}), (by decide +kernel), (by decide +kernel), (image_is), (by decide +kernel), (rfl)⟩⟩

/-- The hypotheses of StartStagesStackTestConfiguration can be met. -/
theorem test_StartStagesStackTestConfiguration_hypotheses :
    (∃ (s : State), (s.atStage 2 = true) ∧ (s.start.begun = false)) ∧
    (∃ (s : State), (s.atStage 2 = true) ∧ (s.start.begun = true) ∧ (s.vert.trains.any fun j => j.start) = true) ∧
    (∃ (s : State), (s.atStage 2 = true) ∧ (s.start.begun = true) ∧ (s.vert.trains.any fun j => j.start) = false) ∧
    (∃ (s : State), (s.atStage 3 = true) ∧ (s.start.begun = false)) ∧
    (∃ (_clockOk : Bool) (_vddcOk : Bool) (s : State), (s.atStage 3 = true) ∧ (s.start.begun = true) ∧ (s.bst.kind ≠ 0 ∨ s.bst.waiting = true)) ∧
    (∃ (_clockOk : Bool) (_vddcOk : Bool) (s : State), (s.atStage 3 = true) ∧ (s.start.begun = true) ∧ (s.bst.kind = 0) ∧ (s.bst.waiting = false)) ∧
    (∃ (s : State), (s.atStage 4 = true) ∧ (s.start.warm = false)) ∧
    (∃ (m : Member) (s : State), (s.atStage 4 = true) ∧ (s.start.warm = true) ∧ (s.start.prev = some m) ∧ (∀ l ∈ m.used, s.reached l = true ∧ ∀ i < 4, s.failedChan (4 * (l - 1) + i) = false)) := by
  refine ⟨⟨(stage 2 {}), (by decide +kernel), (by decide +kernel)⟩,
    ⟨({ stage 2 { begun := true } with vert := { trains := [{ seg := 0, last := 3, bundles := List.range 64, start := true }] } }), (by decide +kernel), (by decide +kernel), (by decide +kernel)⟩,
    ⟨(stage 2 { begun := true }), (by decide +kernel), (by decide +kernel), (by decide +kernel)⟩,
    ⟨(stage 3 {}), (by decide +kernel), (by decide +kernel)⟩,
    ⟨(true), (false), ({ stage 3 { begun := true } with bst := { waiting := true } }), (by decide +kernel), (by decide +kernel), (by decide +kernel)⟩,
    ⟨(true), (true), (stage 3 { begun := true }), (by decide +kernel), (by decide +kernel), (by decide +kernel), (by decide +kernel)⟩,
    ⟨(stage 4 {}), (by decide +kernel), (by decide +kernel)⟩,
    ⟨({ n := 1, p := 16, used := [1] }), ({ stage 4 { warm := true, prev := some { n := 1, p := 16, used := [1] } } with vert := { bund := [(0, { up := true }), (1, { up := true }), (2, { up := true }), (3, { up := true })] } }.setFld Fld.LAY_STATE_ID_OK 1 0), (by decide +kernel), (by decide +kernel), (by decide +kernel), (by decide +kernel)⟩⟩

/-- The hypotheses of StartStagesChannelsAndWidening can be met. -/
theorem test_StartStagesChannelsAndWidening_hypotheses :
    (∃ (s : State), (s.atStage 6 = true) ∧ (s.start.begun = false)) ∧
    (∃ (s : State), (s.atStage 6 = true) ∧ (s.start.begun = true) ∧ (∀ c ∈ s.startChans, (s.chan c).exited = true)) ∧
    (∃ (c : Nat) (s : State), (s.atStage 6 = true) ∧ (s.start.begun = true) ∧ (c ∈ s.startChans) ∧ (s.chan c).exited = false) ∧
    (∃ (s : State), (s.atStage 7 = true) ∧ (s.start.eff = none) ∧ (s.readyTracks ≠ []) ∧ (s.flag Fld.GLB_PWR_CFG_WIDEN_AUTO = true ∨ s.start.go = true)) ∧
    (∃ (s : State) (f : Nat), (s.atStage 7 = true) ∧ (s.start.eff = some f) ∧ (f ≤ s.fld Fld.TT_TIME_FRAME) ∧ (∃ u ∈ s.readyTracks, (s.trk u).trn.capAnswered = false)) ∧
    (∃ (s : State) (f : Nat), (s.atStage 7 = true) ∧ (s.start.eff = some f) ∧ (f ≤ s.fld Fld.TT_TIME_FRAME) ∧ (∀ u ∈ s.readyTracks, (s.trk u).trn.capAnswered = true) ∧ (s.start.retired = false) ∧ (∀ u ∈ s.enabledTracks, u ∈ s.start.tracksGo)) ∧
    (∃ (s : State) (f : Nat), (s.start.eff = some f) ∧ (s.fld Fld.TT_TIME_FRAME < f)) := by
  refine ⟨⟨(stage 6 { pilot := 1 }), (by decide +kernel), (by decide +kernel)⟩,
    ⟨(stage 6 { pilot := 1, begun := true } |> chn 0 { exited := true } |> chn 1 { exited := true } |> chn 2 { exited := true } |> chn 3 { exited := true }), (by decide +kernel), (by decide +kernel), (by decide +kernel)⟩,
    ⟨(3), (stage 6 { pilot := 1, begun := true }), (by decide +kernel), (by decide +kernel), (by decide +kernel), (by decide +kernel)⟩,
    ⟨((stage 7 { go := true }).setFld Fld.TRK_TRAIN_STATUS_STATE LinkState.ready.code 31), (by decide +kernel), (by decide +kernel), (by decide +kernel), (by decide +kernel)⟩,
    ⟨((stage 7 { eff := some 0 }).setFld Fld.TRK_TRAIN_STATUS_STATE LinkState.ready.code 5), (0), (by decide +kernel), (by decide +kernel), (by decide +kernel), (by decide +kernel)⟩,
    ⟨(stage 7 { eff := some 0 }), (0), (by decide +kernel), (by decide +kernel), (by decide +kernel), (by decide +kernel), (by decide +kernel), (by decide +kernel)⟩,
    ⟨(stage 7 { eff := some 1 }), (1), (by decide +kernel), (by decide +kernel)⟩⟩

/-- The hypotheses of PowerStateCommands can be met. -/
theorem test_PowerStateCommands_hypotheses :
    (∃ (s : State), (s.inState .run = true) ∧ (s.fld Fld.TT_TIME_CYCLE = 0) ∧ (s.fld Fld.GLB_PWR_REQ_TARGET = 1) ∧ (s.fld Fld.GLB_PWR_CFG_NAP_IDLE ≤ s.park.idle) ∧ (∀ e ∈ s.chans, e.2.q = [])) ∧
    (∃ (s : State), (s.fld Fld.GLB_PWR_REQ_TARGET ≠ 1 ∨ s.park.idle < s.fld Fld.GLB_PWR_CFG_NAP_IDLE ∨ ∃ e ∈ s.chans, e.2.q ≠ [])) ∧
    (∃ (_a : Bool) (_b : Bool) (s : State), (s.park.step = .drain) ∧ (s.drained = true)) ∧
    (∃ (_a : Bool) (_b : Bool) (s : State), (s.park.step = .drain) ∧ (s.drained = false)) ∧
    (∃ (_a : Bool) (_b : Bool) (s : State), (s.park.step = .test) ∧ (s.flag Fld.BST_CTL_PARK_TEST = false) ∧ (s.bst.kind = 0)) ∧
    (∃ (_a : Bool) (_b : Bool) (s : State), (s.park.step = .sleep) ∧ (s.asleep = true)) ∧
    (∃ (_a : Bool) (_b : Bool) (s : State), (s.park.step = .commit) ∧ (s.committing = false) ∧ (s.linksHold = false)) ∧
    (∃ (s : State), (s.park.step = .drain) ∧ (s.fld Fld.GLB_PWR_CFG_PARK_DRAIN ≤ s.park.ticks)) ∧
    (∃ (u : TrackIx) (s : State), (s.inState .park = true) ∧ (u.val ∈ s.park.ready)) ∧
    (∃ (s : State), (s.inState .leaving = true) ∧ (s.vert.trains = []) ∧ (s.park.woken = true) ∧ (∀ c ∈ s.usedChans, s.flag Fld.CHN_REF_STATE_SR c = false)) := by
  refine ⟨⟨({ chn 3 { banks := [(0, {})] } (regs [(Fld.GLB_STATE_STATE, PowerState.run.code, 0, 0), (Fld.GLB_PWR_REQ_TARGET, 1, 0, 0)]) with park := { idle := 70000 } }), (by decide +kernel), (by decide +kernel), (by decide +kernel), (by decide +kernel), (by decide +kernel)⟩,
    ⟨(State.reset), (by decide +kernel)⟩,
    ⟨(true), (false), ({ State.reset with park := { step := .drain } }), (by decide +kernel), (by decide +kernel)⟩,
    ⟨(true), (false), ({ chn 0 { q := [ent0] } State.reset with park := { step := .drain } }), (by decide +kernel), (by decide +kernel)⟩,
    ⟨(true), (true), ({ State.reset with park := { step := .test } }.setFld Fld.BST_CTL_PARK_TEST 0), (by decide +kernel), (by decide +kernel), (by decide +kernel)⟩,
    ⟨(true), (true), ({ State.reset with park := { step := .sleep } }), (by decide +kernel), (by decide +kernel)⟩,
    ⟨(true), (true), ({ State.reset with park := { step := .commit, ticks := 70000 } }), (by decide +kernel), (by decide +kernel), (by decide +kernel)⟩,
    ⟨({ chn 5 { q := [ent0] } State.reset with park := { step := .drain, ticks := 70000 } }), (by decide +kernel), (by decide +kernel)⟩,
    ⟨(31), ({ regs [(Fld.GLB_STATE_STATE, PowerState.park.code, 0, 0)] with park := { ready := [31] } }), (by decide +kernel), (by decide +kernel)⟩,
    ⟨({ regs [(Fld.GLB_STATE_STATE, PowerState.leaving.code, 0, 0), (Fld.CHN_REF_STATE_SR, 0, 0, 0), (Fld.CHN_REF_STATE_SR, 0, 1, 0), (Fld.CHN_REF_STATE_SR, 0, 2, 0), (Fld.CHN_REF_STATE_SR, 0, 3, 0)] with park := { woken := true } }), (by decide +kernel), (by decide +kernel), (by decide +kernel), (by decide +kernel)⟩⟩

/-- The hypotheses of SelfTestParts can be met. -/
theorem test_SelfTestParts_hypotheses :
    (∃ (_x : PartEnd) (s : State), (s.bst.kind ≠ 0) ∧ (s.bst.begun = true) ∧ (s.fld Fld.BST_STATUS_PHASE = 1) ∧ (s.vmap.clear = false)) ∧
    (∃ (_x : PartEnd) (s : State), (s.bst.kind ≠ 0) ∧ (s.bst.begun = true) ∧ (s.fld Fld.BST_STATUS_PHASE = 1) ∧ (s.vmap.clear = true)) ∧
    (∃ (x : PartEnd) (s : State), (s.bst.kind ≠ 0) ∧ (s.bst.begun = true) ∧ (s.fld Fld.BST_STATUS_PHASE = 2) ∧ (x.loop = []) ∧ (x.unreachable = false)) ∧
    (∃ (_x : PartEnd) (s : State), (s.bst.kind ≠ 0) ∧ (s.bst.begun = true) ∧ (s.fld Fld.BST_STATUS_PHASE = 3) ∧ (∀ c ∈ s.testedChans, (s.chan c).march = [])) ∧
    (∃ (_x : PartEnd) (c : Nat) (s : State), (s.bst.kind ≠ 0) ∧ (s.bst.begun = true) ∧ (s.fld Fld.BST_STATUS_PHASE = 3) ∧ (c ∈ s.testedChans) ∧ (s.chan c).march ≠ []) ∧
    (∃ (_x : PartEnd) (s : State), (s.bst.kind ≠ 0) ∧ (s.bst.begun = true) ∧ (s.fld Fld.BST_STATUS_PHASE = 4) ∧ (∀ c ∈ s.testedChans, s.flag Fld.CHN_REF_STATE_SR c = true ∨ s.bst.awake.contains c = true)) ∧
    (∃ (_x : PartEnd) (s : State), (s.bst.kind ≠ 0) ∧ (s.bst.begun = true) ∧ (s.fld Fld.BST_STATUS_PHASE = 5)) ∧
    (∃ (_x : PartEnd) (s : State), (s.bst.kind ≠ 0) ∧ (s.bst.begun = true) ∧ (s.fld Fld.BST_STATUS_PHASE = 6) ∧ (s.nvmHas .rep = false) ∧ (s.rep.deltas = [])) ∧
    (∃ (s : State), (s.bst.waiting = true)) ∧
    (∃ (x : VPhase) (s : State) (j : VTrain) (rest : List VTrain), (s.bst.kind = 0) ∧ (s.vert.trains = j :: rest) ∧ (j.phase = 1) ∧ (x.spine = true) ∧ (x.moves = []) ∧ (s.deadSites j.seg = []) ∧ (s.siteWord j.seg = 0x688)) ∧
    (∃ (x : VPhase) (s : State) (j : VTrain) (rest : List VTrain), (s.bst.kind = 0) ∧ (s.vert.trains = j :: rest) ∧ (j.phase = 3 ∨ (j.phase = 4 ∧ j.cold = false)) ∧ (x.cols = [])) ∧
    (∃ (x : VPhase) (s : State) (j : VTrain) (rest : List VTrain), (s.bst.kind = 0) ∧ (s.vert.trains = j :: rest) ∧ (j.phase = 5) ∧ (x.lats = []) ∧ (j.seg < j.last) ∧ (s.relays j.seg = true)) := by
  refine ⟨⟨({}), ({ regs [(Fld.BST_STATUS_PHASE, 1, 0, 0)] with bst := { kind := 1, begun := true } }), (by decide +kernel), (by decide +kernel), (by decide +kernel), (by decide +kernel)⟩,
    ⟨({}), ({ { regs [(Fld.BST_STATUS_PHASE, 1, 0, 0)] with bst := { kind := 1, begun := true } } with vmap := { clear := true } }), (by decide +kernel), (by decide +kernel), (by decide +kernel), (by decide +kernel)⟩,
    ⟨({}), ({ regs [(Fld.BST_STATUS_PHASE, 2, 0, 0)] with bst := { kind := 1, begun := true, layers := 3 } }), (by decide +kernel), (by decide +kernel), (by decide +kernel), (by decide +kernel), (by decide +kernel)⟩,
    ⟨({}), ({ regs [(Fld.BST_STATUS_PHASE, 3, 0, 0)] with bst := { kind := 1, begun := true } }), (by decide +kernel), (by decide +kernel), (by decide +kernel), (by decide +kernel)⟩,
    ⟨({}), (3), (chn 3 { march := [{ bank := 0 }] } ({ regs [(Fld.BST_STATUS_PHASE, 3, 0, 0), (Fld.LAY_STATE_ID_OK, 1, 0, 0)] with bst := { kind := 1, begun := true } }) |> bnd 0 { up := true } |> bnd 1 { up := true } |> bnd 2 { up := true } |> bnd 3 { up := true }), (by decide +kernel), (by decide +kernel), (by decide +kernel), (by decide +kernel), (by decide +kernel)⟩,
    ⟨({}), ({ regs [(Fld.BST_STATUS_PHASE, 4, 0, 0)] with bst := { kind := 1, begun := true } }), (by decide +kernel), (by decide +kernel), (by decide +kernel), (by decide +kernel)⟩,
    ⟨({}), ({ regs [(Fld.BST_STATUS_PHASE, 5, 0, 0)] with bst := { kind := 1, begun := true } }), (by decide +kernel), (by decide +kernel), (by decide +kernel)⟩,
    ⟨({}), ({ regs [(Fld.BST_STATUS_PHASE, 6, 0, 0)] with bst := { kind := 1, begun := true } }), (by decide +kernel), (by decide +kernel), (by decide +kernel), (by decide +kernel), (by decide +kernel)⟩,
    ⟨({ State.reset with bst := { waiting := true } }), (by decide +kernel)⟩,
    ⟨({}), (vtrain { seg := 3, last := 3, bundles := [63] }), ({ seg := 3, last := 3, bundles := [63] }), ([]), (by decide +kernel), (by decide +kernel), (by decide +kernel), (by decide +kernel), (by decide +kernel), (by decide +kernel), (by decide +kernel)⟩,
    ⟨({}), (vtrain { seg := 0, last := 0, bundles := [0], phase := 4 }), ({ seg := 0, last := 0, bundles := [0], phase := 4 }), ([]), (by decide +kernel), (by decide +kernel), (by decide +kernel), (by decide +kernel)⟩,
    ⟨({}), ({ regs [(Fld.LAY_STATE_PRESENT, 1, 11, 0), (Fld.LAY_STATE_ID_OK, 1, 11, 0), (Fld.LAY_STATE_JUNCTION, 1, 11, 0)] with vert := { trains := [{ seg := 2, last := 3, bundles := [48], phase := 5 }] } }), ({ seg := 2, last := 3, bundles := [48], phase := 5 }), ([]), (by decide +kernel), (by decide +kernel), (by decide +kernel), (by decide +kernel), (by decide +kernel), (by decide +kernel)⟩⟩

/-- The hypotheses of JournalAndCommits can be met. -/
theorem test_JournalAndCommits_hypotheses :
    (∃ (s : State) (d : Delta), (s.rep.deltas.head? = some d) ∧ (d.since + s.fld Fld.REP_COMMIT_CFG_DELAY * 2 ^ 20 ≤ s.ticks) ∧ (s.rep.copy.length ≤ 65533)) ∧
    (∃ (s : State) (d : Delta), (s.rep.deltas.head? = some d) ∧ (s.ticks < d.since + s.fld Fld.REP_COMMIT_CFG_DELAY * 2 ^ 20)) ∧
    (∃ (s : State), (s.nvm.calAt + s.fld Fld.NVM_CFG_CAL_PERIOD * 2 ^ 32 ≤ s.ticks) ∧ (s.flag Fld.NVM_CAL_DIRTY = true)) ∧
    (∃ (s : State), (s.ticks < s.nvm.calAt + s.fld Fld.NVM_CFG_CAL_PERIOD * 2 ^ 32)) ∧
    (∃ (s : State), (s.bst.valid = true) ∧ (s.bst.cur.state = 2) ∧ (s.nvm.ageAt + 2 ^ 32 ≤ s.ticks) ∧ (s.nvm.jrn.length < 32) ∧ (s.nvmRuns = false)) ∧
    (∃ (s : State), (s.nvm.wearAt + 2 ^ 33 ≤ s.ticks) ∧ (s.nvm.ops = []) ∧ (s.nvm.jrn = [])) ∧
    (∃ (s : State), (s.ticks < s.nvm.wearAt + 2 ^ 33)) ∧
    (∃ (x : NvmDone) (s : State) (o : NvmOp), (s.nvm.cur = some o) ∧ (o.kind = .winProg ∨ o.kind = .winErase) ∧ (x.good = true) ∧ (o.step + 1 = o.steps) ∧ (s.nvm.ops = []) ∧ (s.nvm.jrn = [])) ∧
    (∃ (_x : NvmDone) (s : State), (s.nvm.cur = none)) ∧
    (∃ (s : State) (i : Nat) (rest : List Nat), (s.flag Fld.GLB_STATE_READY = true) ∧ (s.nvm.slots = i :: rest) ∧ (s.nvmHas (.slot i) = false) ∧ (s.nvm.copied = 256)) := by
  refine ⟨⟨({ State.reset with ticks := 2 ^ 40, rep := { deltas := [{ ent := { kind := 1 }, seq := 1 }] } }), ({ ent := { kind := 1 }, seq := 1 }), (by decide +kernel), (by decide +kernel), (by decide +kernel)⟩,
    ⟨({ State.reset with rep := { deltas := [{ ent := { kind := 1 }, seq := 1, since := 5 }] } }), ({ ent := { kind := 1 }, seq := 1, since := 5 }), (by decide +kernel), (by decide +kernel)⟩,
    ⟨({ regs [(Fld.NVM_CAL_DIRTY, 1, 0, 0)] with ticks := 2 ^ 44 }), (by decide +kernel), (by decide +kernel)⟩,
    ⟨({ State.reset with nvm := { calAt := 1 } }), (by decide +kernel)⟩,
    ⟨({ State.reset with ticks := 2 ^ 32, bst := { valid := true, cur := { state := 2 } }, nvm := { cur := some { kind := .cal }, jrn := List.replicate 31 { kind := 1 } } }), (by decide +kernel), (by decide +kernel), (by decide +kernel), (by decide +kernel), (by decide +kernel)⟩,
    ⟨({ State.reset with ticks := 2 ^ 33 }), (by decide +kernel), (by decide +kernel), (by decide +kernel)⟩,
    ⟨(State.reset), (by decide +kernel)⟩,
    ⟨({}), ({ State.reset with nvm := { cur := some { kind := .winErase } } }), ({ kind := .winErase }), (by decide +kernel), (by decide +kernel), (by decide +kernel), (by decide +kernel), (by decide +kernel), (by decide +kernel)⟩,
    ⟨({}), (State.reset), (by decide +kernel)⟩,
    ⟨({ regs [(Fld.GLB_STATE_READY, 1, 0, 0)] with nvm := { slots := [511], copied := 256 } }), (511), ([]), (by decide +kernel), (by decide +kernel), (by decide +kernel), (by decide +kernel)⟩⟩

/-- The hypotheses of SignalBoxTimers can be met. -/
theorem test_SignalBoxTimers_hypotheses :
    (∃ (s : State), (∀ h ∈ s.box.hold, h.left = 0 → h.next = none)) ∧
    (∃ (s : State) (src : Src) (r : BulRec), (s.box.hold = [{ src := src, left := 0, next := some r }]) ∧ (s.box.bul.length < 24)) ∧
    (∃ (s : State), (1024 < s.box.brsTicks)) ∧
    (∃ (s : State), (s.box.brsTicks ≤ 1024)) ∧
    (∃ (s : State) (p : CrsPend), (s.box.crs = some p) ∧ (p.ticks ≠ 0) ∧ (s.resetting = false) ∧ (s.crsUnsent = false ∨ s.fld Fld.FLT_CFG_CRS_DELAY ≤ p.ticks)) ∧
    (∃ (s : State) (p : CrsPend), (s.box.crs = some p) ∧ (p.ticks = 0 ∨ (s.crsUnsent = true ∧ p.ticks < s.fld Fld.FLT_CFG_CRS_DELAY))) ∧
    (∃ (s : State), (s.box.crs = none)) := by
  refine ⟨⟨({ State.reset with box := { hold := [{ src := .regRefused, left := 0 }, { src := .hlLaneLockLoss, left := 1, next := some bul0 }] } }), (by decide +kernel)⟩,
    ⟨({ State.reset with box := { hold := [{ src := .regRefused, left := 0, next := some bul0 }], bul := List.replicate 23 bul0 } }), (.regRefused), (bul0), (by decide +kernel), (by decide +kernel)⟩,
    ⟨({ State.reset with box := { brsTicks := 1025 } }), (by decide +kernel)⟩,
    ⟨({ State.reset with box := { brsTicks := 1024 } }), (by decide +kernel)⟩,
    ⟨({ powered with box := { crs := some { ticks := 1 } } }), ({ ticks := 1 }), (by decide +kernel), (by decide +kernel), (by decide +kernel), (by decide +kernel)⟩,
    ⟨({ powered with box := { crs := some {} } }), ({}), (by decide +kernel), (by decide +kernel)⟩,
    ⟨(powered), (by decide +kernel)⟩⟩

/-- The hypotheses of VoteSweepRewritesTheMajority can be met. -/
theorem test_VoteSweepRewritesTheMajority_hypotheses :
    (∃ (v : TripleVote) (x : FieldAt) (s : State), (s.fab.copies = []) ∧ (fieldOfKey (v.addr * 64 + v.lo) = some x) ∧ (v.a = v.b) ∧ (v.b = v.c)) ∧
    (∃ (v : TripleVote) (x : FieldAt) (m : Nat) (s : State), (s.fab.copies = []) ∧ (fieldOfKey (v.addr * 64 + v.lo) = some x) ∧ (x.f.trip = true) ∧ ((v.a = m ∧ v.b = m ∧ v.c ≠ m) ∨ (v.a = m ∧ v.c = m ∧ v.b ≠ m) ∨ (v.b = m ∧ v.c = m ∧ v.a ≠ m))) ∧
    (∃ (v : TripleVote) (x : FieldAt) (s : State), (s.fab.copies = []) ∧ (fieldOfKey (v.addr * 64 + v.lo) = some x) ∧ (x.f.trip = true) ∧ (v.a ≠ v.b) ∧ (v.a ≠ v.c) ∧ (v.b ≠ v.c)) := by
  refine ⟨⟨({ addr := 0x040000, lo := 0, a := 1, b := 1, c := 1 }), ({ f := Fld.CHN_CTL_EN, i := 0, j := 0 }), (State.reset), (by decide +kernel), (rfl), (by decide +kernel), (by decide +kernel)⟩,
    ⟨({ addr := 0x040000, lo := 0, a := 1, b := 0, c := 1 }), ({ f := Fld.CHN_CTL_EN, i := 0, j := 0 }), (1), (State.reset), (by decide +kernel), (rfl), (by decide +kernel), (by decide +kernel)⟩,
    ⟨({ addr := 0x040000, lo := 0, a := 1, b := 2, c := 3 }), ({ f := Fld.CHN_CTL_EN, i := 0, j := 0 }), (powered), (by decide +kernel), (rfl), (by decide +kernel), (by decide +kernel), (by decide +kernel), (by decide +kernel)⟩⟩

/-- The hypotheses of FrameTickAdvancesTime can be met. -/
theorem test_FrameTickAdvancesTime_hypotheses :
    (∃ (_a : Bool) (_b : Bool) (s : State), (s.start.b0 = true) ∧ (s.hold = none) ∧ (s.resetting = false)) ∧
    (∃ (_a : Bool) (_b : Bool) (s : State), (s.start.b0 = false ∨ s.hold.isSome = true ∨ s.resetting = true)) ∧
    (∃ (f : Field) (i : Nat) (j : Nat) (v : Nat) (s : State), (s.fab.ready = [{ key := f.key i j, dflt := f.reset i j, val := v }]) ∧ (s.fab.later = [])) ∧
    (∃ (_a : Bool) (_b : Bool) (s : State), (s.still) ∧ (s.start.b0 = true) ∧ (s.hold = none) ∧ (s.resetting = false)) := by
  refine ⟨⟨(true), (true), ({ powered with start := { b0 := true } }), (by decide +kernel), (by decide +kernel), (by decide +kernel)⟩,
    ⟨(true), (true), (State.reset), (by decide +kernel)⟩,
    ⟨(Fld.BWR_MGUAR_GUAR_RD), (0), (5), (40), ({ State.reset with fab := { ready := [{ key := Fld.BWR_MGUAR_GUAR_RD.key 0 5, dflt := Fld.BWR_MGUAR_GUAR_RD.reset 0 5, val := 40 }] } }), (by decide +kernel), (by decide +kernel)⟩,
    ⟨(true), (true), (({ powered with start := { b0 := true, told := true }, vmap := { clear := true, mem := [(3, 1)] } }).setFld Fld.GLB_SNAP_PENDING 1), (⟨rfl, rfl, rfl, rfl, rfl, rfl, rfl, rfl, rfl, rfl, rfl, rfl⟩), (by decide +kernel), (by decide +kernel), (by decide +kernel)⟩⟩

/-- The hypotheses of AccountDeficitTelemetry can be met. -/
theorem test_AccountDeficitTelemetry_hypotheses :
    (∃ (s : State), (s.bwr.acct = false)) ∧
    (∃ (s : State), (s.bwr.acct = true)) ∧
    (∃ (s : State), (64 ≤ s.bwr.ticks) ∧ (s.regulated = true) ∧ (s.bwr.hit = [])) ∧
    (∃ (s : State) (m : Nat) (u : State), (m < 64) ∧ (64 ≤ s.bwr.ticks) ∧ (s.regulated = true) ∧ (s.bwr.hit = [bwKey m false]) ∧ (u = { ((s.bump Fld.BWR_MDEF_DEF_RD 0 m).setFld Fld.BWR_STATUS_SEEN_RD 1) with bwr := { s.bwr with hit := [], ticks := 0, last := (true, false) } })) ∧
    (∃ (s : State), (s.bwr.ticks < 64 ∨ s.regulated = false)) ∧
    (∃ (_x : Telemetry) (s : State), (s.thm.done = false) ∧ (s.start.b0 = true) ∧ (s.hold = none) ∧ (1200 ≤ s.fld Fld.TT_TIME_CYCLE) ∧ (s.inState .park = false)) ∧
    (∃ (_x : Telemetry) (s : State), (s.thm.done = true ∨ s.fld Fld.TT_TIME_CYCLE < 1200)) := by
  refine ⟨⟨(State.reset), (by decide +kernel)⟩,
    ⟨({ State.reset with bwr := { acct := true } }), (by decide +kernel)⟩,
    ⟨({ regs [(Fld.BWR_CFG_EN, 1, 0, 0), (Fld.GLB_ADDR_MAP_KIND, 2, 0, 0)] with bwr := { ticks := 64 } }), (by decide +kernel), (by decide +kernel), (by decide +kernel)⟩,
    ⟨({ regs [(Fld.BWR_CFG_EN, 1, 0, 0), (Fld.GLB_ADDR_MAP_KIND, 2, 0, 0)] with bwr := { ticks := 64, hit := [bwKey 63 false] } }), (63), ({ (({ regs [(Fld.BWR_CFG_EN, 1, 0, 0), (Fld.GLB_ADDR_MAP_KIND, 2, 0, 0)] with bwr := { ticks := 64, hit := [bwKey 63 false] } }).bump Fld.BWR_MDEF_DEF_RD 0 63).setFld Fld.BWR_STATUS_SEEN_RD 1 with bwr := { hit := [], ticks := 0, last := (true, false) } }), (by decide +kernel), (by decide +kernel), (by decide +kernel), (by decide +kernel), (rfl)⟩,
    ⟨(State.reset), (by decide +kernel)⟩,
    ⟨({ base := [], rails := [] }), (({ powered with start := { b0 := true } }).setFld Fld.TT_TIME_CYCLE 1200), (by decide +kernel), (by decide +kernel), (by decide +kernel), (by decide +kernel), (by decide +kernel)⟩,
    ⟨({ base := [], rails := [] }), ({ powered with thm := { done := true } }), (by decide +kernel)⟩⟩

/-- The hypotheses of AdaptiveVoltage can be met. -/
theorem test_AdaptiveVoltage_hypotheses :
    (∃ (slack : BitVec 6) (s : State), (s.pwr.loopAt + s.fld Fld.PWR_AVS_CFG_PERIOD ≤ s.ticks) ∧ (s.flag Fld.PWR_AVS_CFG_EN = true) ∧ (s.flag Fld.PWR_AVS_STATUS_FROZEN = false) ∧ (s.flag Fld.PWR_AVS_STATUS_FAILED = false) ∧ (s.pwr.avs = none) ∧ (slack.toNat < s.fld Fld.PWR_AVS_SLACK_S_LO) ∧ (s.fld Fld.PWR_AVS_STATUS_TARGET + 5 ≤ s.fld Fld.PWR_AVS_LIM_V_MAX)) ∧
    (∃ (slack : BitVec 6) (s : State), (s.pwr.loopAt + s.fld Fld.PWR_AVS_CFG_PERIOD ≤ s.ticks) ∧ (s.flag Fld.PWR_AVS_CFG_EN = true) ∧ (s.flag Fld.PWR_AVS_STATUS_FROZEN = false) ∧ (s.flag Fld.PWR_AVS_STATUS_FAILED = false) ∧ (s.pwr.avs = none) ∧ (s.fld Fld.PWR_AVS_SLACK_S_LO ≤ slack.toNat) ∧ (s.fld Fld.PWR_AVS_SLACK_S_HI < slack.toNat) ∧ (5 ≤ s.fld Fld.PWR_AVS_STATUS_TARGET) ∧ (s.fld Fld.PWR_AVS_LIM_V_MIN ≤ s.fld Fld.PWR_AVS_STATUS_TARGET - 5)) ∧
    (∃ (slack : BitVec 6) (s : State), (s.pwr.loopAt + s.fld Fld.PWR_AVS_CFG_PERIOD ≤ s.ticks) ∧ (s.flag Fld.PWR_AVS_CFG_EN = true) ∧ (s.flag Fld.PWR_AVS_STATUS_FROZEN = false) ∧ (s.flag Fld.PWR_AVS_STATUS_FAILED = false) ∧ (s.fld Fld.PWR_AVS_SLACK_S_LO ≤ slack.toNat) ∧ (slack.toNat ≤ s.fld Fld.PWR_AVS_SLACK_S_HI)) ∧
    (∃ (_slack : BitVec 6) (s : State), (s.ticks < s.pwr.loopAt + s.fld Fld.PWR_AVS_CFG_PERIOD)) ∧
    (∃ (_v : Nat) (s : State), (s.pwr.avs = some .current)) ∧
    (∃ (_v : Nat) (o : AvsOp) (s : State), (s.pwr.avs = some o) ∧ (s.pwr.again = false) ∧ (s.pwr.fails = 0)) ∧
    (∃ (o : AvsOp) (s : State), (s.pwr.retry = some o) ∧ (s.pwr.avs = none) ∧ (s.pwr.retryAt + 16 ≤ s.ticks) ∧ (s.flag Fld.PWR_AVS_STATUS_FROZEN = false)) ∧
    (∃ (o : AvsOp) (s : State), (s.pwr.retry = some o) ∧ (s.ticks < s.pwr.retryAt + 16)) ∧
    (∃ (s : State), (s.pwr.retry = none) ∧ (s.flag Fld.PWR_AVS_STATUS_FAILED = true) ∧ (s.pwr.stopAt + 65536 ≤ s.ticks)) ∧
    (∃ (s : State), (s.start.b0 = true) ∧ (s.hold = none) ∧ (s.flag Fld.PWR_AVS_STATUS_FROZEN = false) ∧ (s.pwr.currAt + 64 ≤ s.ticks) ∧ (s.pwr.avs = none)) := by
  refine ⟨⟨(19), ({ regs [(Fld.PWR_AVS_CFG_EN, 1, 0, 0), (Fld.PWR_AVS_STATUS_TARGET, 895, 0, 0), (Fld.PWR_AVS_LIM_V_MAX, 900, 0, 0), (Fld.PWR_AVS_LIM_V_MIN, 600, 0, 0), (Fld.PWR_AVS_SLACK_S_LO, 20, 0, 0), (Fld.PWR_AVS_SLACK_S_HI, 40, 0, 0)] with ticks := 2 ^ 20 }), (by decide +kernel), (by decide +kernel), (by decide +kernel), (by decide +kernel), (by decide +kernel), (by decide +kernel), (by decide +kernel)⟩,
    ⟨(41), ({ regs [(Fld.PWR_AVS_CFG_EN, 1, 0, 0), (Fld.PWR_AVS_STATUS_TARGET, 605, 0, 0), (Fld.PWR_AVS_LIM_V_MAX, 900, 0, 0), (Fld.PWR_AVS_LIM_V_MIN, 600, 0, 0), (Fld.PWR_AVS_SLACK_S_LO, 20, 0, 0), (Fld.PWR_AVS_SLACK_S_HI, 40, 0, 0)] with ticks := 2 ^ 20 }), (by decide +kernel), (by decide +kernel), (by decide +kernel), (by decide +kernel), (by decide +kernel), (by decide +kernel), (by decide +kernel), (by decide +kernel), (by decide +kernel)⟩,
    ⟨(20), ({ regs [(Fld.PWR_AVS_CFG_EN, 1, 0, 0), (Fld.PWR_AVS_STATUS_TARGET, 700, 0, 0), (Fld.PWR_AVS_LIM_V_MAX, 900, 0, 0), (Fld.PWR_AVS_LIM_V_MIN, 600, 0, 0), (Fld.PWR_AVS_SLACK_S_LO, 20, 0, 0), (Fld.PWR_AVS_SLACK_S_HI, 40, 0, 0)] with ticks := 2 ^ 20 }), (by decide +kernel), (by decide +kernel), (by decide +kernel), (by decide +kernel), (by decide +kernel), (by decide +kernel)⟩,
    ⟨(20), ({ State.reset with pwr := { loopAt := 1 } }), (by decide +kernel)⟩,
    ⟨(0), ({ State.reset with pwr := { avs := some .current } }), (by decide +kernel)⟩,
    ⟨(0), (.readV), ({ State.reset with pwr := { avs := some .readV } }), (by decide +kernel), (by decide +kernel), (by decide +kernel)⟩,
    ⟨(.status), ({ State.reset with ticks := 16, pwr := { retry := some .status } }), (by decide +kernel), (by decide +kernel), (by decide +kernel), (by decide +kernel)⟩,
    ⟨(.status), ({ State.reset with ticks := 15, pwr := { retry := some .status } }), (by decide +kernel), (by decide +kernel)⟩,
    ⟨({ regs [(Fld.PWR_AVS_STATUS_FAILED, 1, 0, 0)] with ticks := 65536 }), (by decide +kernel), (by decide +kernel), (by decide +kernel)⟩,
    ⟨({ powered with start := { b0 := true }, ticks := 64 }), (by decide +kernel), (by decide +kernel), (by decide +kernel), (by decide +kernel), (by decide +kernel)⟩⟩

/-- The hypotheses of RefreshAndScrubSlots can be met. -/
theorem test_RefreshAndScrubSlots_hypotheses :
    (∃ (c : ChanIx) (s : State), ((s.chan c).ref.open_ = true ∨ s.fld Fld.TT_TIME_CYCLE < 25 * c.val)) ∧
    (∃ (c : ChanIx) (s : State), (s.chan c).ref.open_ = false ∧ (25 * c.val ≤ s.fld Fld.TT_TIME_CYCLE) ∧ (s.engineRuns c = false)) ∧
    (∃ (c : ChanIx) (s : State) (gap : Nat) (room : Nat) (did : Nat), (s.chan c).ref.open_ = false ∧ (25 * c.val ≤ s.fld Fld.TT_TIME_CYCLE) ∧ (s.engineRuns c = true) ∧ (s.lapsed c = false) ∧ (s.chan c).ref.seen = true ∧ (gap = ccOf (s.cmdChips c 1)) ∧ (room = (1600 - s.fld Fld.TT_TIME_CYCLE + gap - 1) / gap) ∧ (did = (s.chan c).ref.did.length)) ∧
    (∃ (c : ChanIx) (s : State), (s.chan c).ref.open_ = false ∧ (25 * c.val ≤ s.fld Fld.TT_TIME_CYCLE) ∧ (s.engineRuns c = true) ∧ (s.lapsed c = false) ∧ (s.chan c).ref.seen = false ∧ (s.cmdFree c 1 = true) ∧ (s.fld Fld.CHN_REF_STATE_OWED c = 0) ∧ (s.chan c).ref.nrefs = []) ∧
    (∃ (c : ChanIx) (s : State), ((s.chan c).scrub = true ∨ s.fld Fld.TT_TIME_CYCLE < (25 * c.val + 800) % 1600)) ∧
    (∃ (c : ChanIx) (s : State), (s.chan c).scrub = false ∧ (25 * c.val + 800) % 1600 ≤ s.fld Fld.TT_TIME_CYCLE ∧ (s.flag Fld.INT_GANGER_CFG_EN = false)) ∧
    (∃ (c : ChanIx) (s : State), (s.chan c).scrub = false ∧ (25 * c.val + 800) % 1600 ≤ s.fld Fld.TT_TIME_CYCLE ∧ (s.pilotOn = false) ∧ (s.flag Fld.INT_GANGER_CFG_EN = true) ∧ (s.presented c = true) ∧ (s.chan c).test = false ∧ (s.inState .nap = false) ∧ (s.engineRuns c = false) ∧ (s.chan c).gTicks < s.fld Fld.INT_GANGER_CFG_PERIOD) ∧
    (∃ (c : ChanIx) (s : State), (s.chan c).scrub = false ∧ (25 * c.val + 800) % 1600 ≤ s.fld Fld.TT_TIME_CYCLE ∧ (s.pilotOn = false) ∧ (s.flag Fld.INT_GANGER_CFG_EN = true) ∧ (s.presented c = true) ∧ (s.chan c).test = false ∧ (s.inState .nap = false) ∧ (s.engineRuns c = false) ∧ (s.fld Fld.INT_GANGER_CFG_PERIOD ≤ (s.chan c).gTicks)) ∧
    (∃ (c : ChanIx) (s : State) (u : State), (s.chan c).scrub = false ∧ (25 * c.val + 800) % 1600 ≤ s.fld Fld.TT_TIME_CYCLE ∧ (s.pilotOn = false) ∧ (s.flag Fld.INT_GANGER_CFG_EN = true) ∧ (s.presented c = true) ∧ (s.chan c).test = false ∧ (s.inState .nap = false) ∧ (s.fld Fld.INT_GANGER_CFG_PERIOD ≤ (s.chan c).gTicks) ∧ (u = (s.modChan c fun x => { x with scrub := true, gOpen := some s.cc, gTicks := 0, gDue := true })) ∧ (u.engineRuns c = true) ∧ (u.cmdFree c 1 = true) ∧ (s.chan c).wait = none ∧ (u.lapsed c = false) ∧ (u.eligibles c = [])) ∧
    (∃ (c : ChanIx) (b : Nat) (r : Nat) (s : State), (s.bst.ch = none) ∧ (s.engineRuns c = true) ∧ (s.chan c).rt = none ∧ (s.chan c).resetting = false ∧ (s.chan c).test = false ∧ (s.chan c).rtGap = 0 ∧ (s.chan c).rtList.head? = some (b, r) ∧ (s.bankFree c b = true)) ∧
    (∃ (c : ChanIx) (r : Retest) (s : State), (s.chan c).rt = some r ∧ (r.past = false) ∧ (r.since + 6400 < s.cc)) ∧
    (∃ (c : ChanIx) (r : Retest) (s : State), (s.chan c).rt = some r ∧ (r.past = true ∨ s.cc ≤ r.since + 6400)) ∧
    (∃ (c : ChanIx) (f : Fill) (s : State), (s.chan c).fills = [f] ∧ (f.past = false) ∧ (f.since + 1600 < s.cc)) := by
  refine ⟨⟨(63), (State.reset), (by decide +kernel)⟩,
    ⟨(0), (State.reset), (by decide +kernel), (by decide +kernel), (by decide +kernel)⟩,
    ⟨(0), (engine 0 { ref := { seen := true } }), (ccOf ((engine 0 { ref := { seen := true } }).cmdChips 0 1)), ((1600 + ccOf ((engine 0 { ref := { seen := true } }).cmdChips 0 1) - 1) / ccOf ((engine 0 { ref := { seen := true } }).cmdChips 0 1)), (0), (by decide +kernel), (by decide +kernel), (by decide +kernel), (by decide +kernel), (by decide +kernel), (by decide +kernel), (by decide +kernel), (by decide +kernel)⟩,
    ⟨(0), (engine 0 {}), (by decide +kernel), (by decide +kernel), (by decide +kernel), (by decide +kernel), (by decide +kernel), (by decide +kernel), (by decide +kernel), (by decide +kernel)⟩,
    ⟨(0), (State.reset), (by decide +kernel)⟩,
    ⟨(32), (regs [(Fld.INT_GANGER_CFG_EN, 0, 0, 0)]), (by decide +kernel), (by decide +kernel), (by decide +kernel)⟩,
    ⟨(0), ((regs [(Fld.GLB_ADDR_MAP_KIND, 2, 0, 0), (Fld.INT_GANGER_CFG_EN, 1, 0, 0), (Fld.CHN_CTL_EN, 1, 0, 0), (Fld.REP_LAYERS_USED, 1, 0, 0), (Fld.TT_TIME_CYCLE, 800, 0, 0), (Fld.GLB_STATE_STATE, 0, 0, 0)])), (by decide +kernel), (by decide +kernel), (by decide +kernel), (by decide +kernel), (by decide +kernel), (by decide +kernel), (by decide +kernel), (by decide +kernel), (by decide +kernel)⟩,
    ⟨(0), (chn 0 { gTicks := 65535 } (regs [(Fld.GLB_ADDR_MAP_KIND, 2, 0, 0), (Fld.INT_GANGER_CFG_EN, 1, 0, 0), (Fld.CHN_CTL_EN, 1, 0, 0), (Fld.REP_LAYERS_USED, 1, 0, 0), (Fld.TT_TIME_CYCLE, 800, 0, 0), (Fld.GLB_STATE_STATE, 0, 0, 0)])), (by decide +kernel), (by decide +kernel), (by decide +kernel), (by decide +kernel), (by decide +kernel), (by decide +kernel), (by decide +kernel), (by decide +kernel), (by decide +kernel)⟩,
    ⟨(0), (((bnd 0 { up := true } (chn 0 { gTicks := 65535 } (regs [(Fld.GLB_ADDR_MAP_KIND, 2, 0, 0), (Fld.INT_GANGER_CFG_EN, 1, 0, 0), (Fld.CHN_CTL_EN, 1, 0, 0), (Fld.REP_LAYERS_USED, 1, 0, 0), (Fld.TT_TIME_CYCLE, 800, 0, 0), (Fld.GLB_STATE_STATE, 0, 0, 0)]))).setFld Fld.CHN_REF_STATE_SR 0 0).setFld Fld.VLQ_CTL_EN 1 0), ((((bnd 0 { up := true } (chn 0 { gTicks := 65535 } (regs [(Fld.GLB_ADDR_MAP_KIND, 2, 0, 0), (Fld.INT_GANGER_CFG_EN, 1, 0, 0), (Fld.CHN_CTL_EN, 1, 0, 0), (Fld.REP_LAYERS_USED, 1, 0, 0), (Fld.TT_TIME_CYCLE, 800, 0, 0), (Fld.GLB_STATE_STATE, 0, 0, 0)]))).setFld Fld.CHN_REF_STATE_SR 0 0).setFld Fld.VLQ_CTL_EN 1 0).modChan 0 fun x => { x with scrub := true, gOpen := some 0, gTicks := 0, gDue := true }), (by decide +kernel), (by decide +kernel), (by decide +kernel), (by decide +kernel), (by decide +kernel), (by decide +kernel), (by decide +kernel), (by decide +kernel), (rfl), (by decide +kernel), (by decide +kernel), (by decide +kernel), (by decide +kernel), (by decide +kernel)⟩,
    ⟨(0), (31), (24671), (engine 0 { rtList := [(31, 24671)] }), (by decide +kernel), (by decide +kernel), (by decide +kernel), (by decide +kernel), (by decide +kernel), (by decide +kernel), (by decide +kernel), (by decide +kernel)⟩,
    ⟨(0), ({ bank := 0, row := 0 }), ({ engine 0 { rt := some { bank := 0, row := 0 } } with cc := 6401 }), (by decide +kernel), (by decide +kernel), (by decide +kernel)⟩,
    ⟨(0), ({ bank := 0, row := 0 }), ({ engine 0 { rt := some { bank := 0, row := 0 } } with cc := 6400 }), (by decide +kernel), (by decide +kernel)⟩,
    ⟨(0), ({ id := 1, wagon := 0, ord := 1 }), ({ engine 0 { fills := [{ id := 1, wagon := 0, ord := 1 }] } with cc := 1601 }), (by decide +kernel), (by decide +kernel), (by decide +kernel)⟩⟩

/-- The hypotheses of ChannelEngineChoosesItsWork can be met. -/
theorem test_ChannelEngineChoosesItsWork_hypotheses :
    (∃ (c : ChanIx) (s : State), (s.engineRuns c = false)) ∧
    (∃ (c : ChanIx) (s : State), (s.engineRuns c = true) ∧ (s.lapsed c = true) ∧ (s.cmdFree c 1 = true)) ∧
    (∃ (c : ChanIx) (E : List (Ent × Part)) (s : State) (u : State), (E = s.eligibles c) ∧ (u = (s.markElig c E).modChan c fun x => { x with wait := none }) ∧ (s.engineRuns c = true) ∧ (s.lapsed c = false) ∧ (s.markElig c E).cmdFree c 1 = true ∧ (s.markElig c E).waiting c E = none ∧ (u.chan c).ccalDue > 0 ∧ (u.calBusy c = false)) ∧
    (∃ (c : ChanIx) (E : List (Ent × Part)) (s : State) (u : State) (t : State), (E = s.eligibles c) ∧ (u = (s.markElig c E).modChan c fun x => { x with wait := none }) ∧ (s.engineRuns c = true) ∧ (s.lapsed c = false) ∧ (s.markElig c E).cmdFree c 1 = true ∧ (s.markElig c E).waiting c E = none ∧ (u.chan c).ccalDue = 0 ∧ (u.hardRefresh c = some t)) ∧
    (∃ (c : ChanIx) (E : List (Ent × Part)) (s : State) (u : State) (t : Train) (l : List Train), (E = s.eligibles c) ∧ (u = (s.markElig c E).modChan c fun x => { x with wait := none }) ∧ (s.engineRuns c = true) ∧ (s.lapsed c = false) ∧ (s.markElig c E).cmdFree c 1 = true ∧ (s.markElig c E).waiting c E = none ∧ (u.chan c).ccalDue = 0 ∧ (u.hardRefresh c = none) ∧ (u.inState .nap = false) ∧ (u.chan c).prio = t :: l ∧ (u.prioOk c t = true)) ∧
    (∃ (c : ChanIx) (E : List (Ent × Part)) (s : State) (u : State) (h : Ent × Part) (p : Bool) (a : Bool), (E = s.eligibles c) ∧ (u = (s.markElig c E).modChan c fun x => { x with wait := none }) ∧ (s.engineRuns c = true) ∧ (s.lapsed c = false) ∧ (s.markElig c E).cmdFree c 1 = true ∧ (s.markElig c E).waiting c E = none ∧ (u.chan c).ccalDue = 0 ∧ (u.hardRefresh c = none) ∧ (u.inState .nap = false) ∧ (u.chan c).prio = [] ∧ (u.chan c).path = false ∧ (u.chooseHead c E = (some h, p, a))) ∧
    (∃ (c : ChanIx) (E : List (Ent × Part)) (s : State) (u : State) (t : State), (E = s.eligibles c) ∧ (u = (s.markElig c E).modChan c fun x => { x with wait := none }) ∧ (s.engineRuns c = true) ∧ (s.lapsed c = false) ∧ (s.markElig c E).cmdFree c 1 = true ∧ (s.markElig c E).waiting c E = none ∧ (u.chan c).ccalDue = 0 ∧ (u.hardRefresh c = none) ∧ (u.inState .nap = false) ∧ (u.chan c).prio = [] ∧ (u.chan c).path = false ∧ (u.chan c).q = [] ∧ (u.softRefresh c [] = some t)) ∧
    (∃ (c : ChanIx) (s : State), (s.chan c).wait = none) ∧
    (∃ (c : ChanIx) (E : List (Ent × Part)) (s : State) (u : State) (h : Ent × Part) (t : Train), (E = s.eligibles c) ∧ (u = s.markElig c E) ∧ (s.engineRuns c = true) ∧ (s.lapsed c = false) ∧ (u.cmdFree c 1 = true) ∧ (u.waiting c E = some h) ∧ (t = u.buildTrain c (u.flag Fld.CHN_STATUS_PHASE c) h) ∧ (u.chan c).since u.cc h.2 + u.fld Fld.CHN_SCHED_TRAIN_WAIT c ≤ u.cc ∧ (u.canIssue c t = true)) ∧
    (∃ (c : ChanIx) (b : BankIx) (s : State), ((s.chan c).bank b).final.isSome = true ∧ ((s.chan c).bank b).last + s.fld Fld.CHN_POLICY_PAGE_IDLE c ≤ s.cc ∧ ((s.chan c).bank b).nPre ≤ s.cc ∧ (s.engineRuns c = true) ∧ (s.cmdFree c 1 = true) ∧ (s.chan c).wait = none) ∧
    (∃ (c : ChanIx) (b : BankIx) (s : State), (((s.chan c).bank b).final = none ∨ s.cc < ((s.chan c).bank b).last + s.fld Fld.CHN_POLICY_PAGE_IDLE c)) := by
  refine ⟨⟨(0), (State.reset), (by decide +kernel)⟩,
    ⟨(0), ({ engine 0 { exited := true } with cc := 3200 }), (by decide +kernel), (by decide +kernel), (by decide +kernel)⟩,
    ⟨(0), ([]), (engine 0 { ccalDue := 1 }), (((engine 0 { ccalDue := 1 }).markElig 0 []).modChan 0 fun x => { x with wait := none }), (by decide +kernel), (rfl), (by decide +kernel), (by decide +kernel), (by decide +kernel), (by decide +kernel), (by decide +kernel), (by decide +kernel)⟩,
    ⟨(0), ([]), (engine 0 { ref := { slot := 1 } } |>.setFld Fld.CHN_REF_STATE_OWED 1 0), (((engine 0 { ref := { slot := 1 } } |>.setFld Fld.CHN_REF_STATE_OWED 1 0).markElig 0 []).modChan 0 fun x => { x with wait := none }), (((((engine 0 { ref := { slot := 1 } } |>.setFld Fld.CHN_REF_STATE_OWED 1 0).markElig 0 []).modChan 0 fun x => { x with wait := none }).hardRefresh 0).getD State.reset), (by decide +kernel), (rfl), (by decide +kernel), (by decide +kernel), (by decide +kernel), (by decide +kernel), (by decide +kernel), (by decide +kernel)⟩,
    ⟨(0), ([]), (engine 0 { prio := [rdTrain] } |>.setFld Fld.CHN_REF_STATE_OWED 0 0), (((engine 0 { prio := [rdTrain] } |>.setFld Fld.CHN_REF_STATE_OWED 0 0).markElig 0 []).modChan 0 fun x => { x with wait := none }), (rdTrain), ([]), (by decide +kernel), (rfl), (by decide +kernel), (by decide +kernel), (by decide +kernel), (by decide +kernel), (by decide +kernel), (by decide +kernel), (by decide +kernel), (by decide +kernel), (by decide +kernel)⟩,
    ⟨(0), (queued.eligibles 0), (queued), ((queued.markElig 0 (queued.eligibles 0)).modChan 0 fun x => { x with wait := none }), (((queued.eligibles 0).head?).getD (entIdle, { ord := 0, pos := 0, bank := 0, row := 0, write := false, ixs := [] })), (false), (false), (by decide +kernel), (rfl), (by decide +kernel), (by decide +kernel), (by decide +kernel), (by decide +kernel), (by decide +kernel), (by decide +kernel), (by decide +kernel), (by decide +kernel), (by decide +kernel), (by decide +kernel)⟩,
    ⟨(0), ([]), (engine 0 {} |>.setFld Fld.CHN_REF_STATE_OWED 1 0), (((engine 0 {} |>.setFld Fld.CHN_REF_STATE_OWED 1 0).markElig 0 []).modChan 0 fun x => { x with wait := none }), (((((engine 0 {} |>.setFld Fld.CHN_REF_STATE_OWED 1 0).markElig 0 []).modChan 0 fun x => { x with wait := none }).softRefresh 0 []).getD State.reset), (by decide +kernel), (rfl), (by decide +kernel), (by decide +kernel), (by decide +kernel), (by decide +kernel), (by decide +kernel), (by decide +kernel), (by decide +kernel), (by decide +kernel), (by decide +kernel), (by decide +kernel), (by decide +kernel)⟩,
    ⟨(0), (State.reset), (by decide +kernel)⟩,
    ⟨(0), (waiting.eligibles 0), (waiting), (waiting.markElig 0 (waiting.eligibles 0)), (((waiting.eligibles 0).head?).getD (entIdle, { ord := 0, pos := 0, bank := 0, row := 0, write := false, ixs := [] })), ((waiting.markElig 0 (waiting.eligibles 0)).buildTrain 0 ((waiting.markElig 0 (waiting.eligibles 0)).flag Fld.CHN_STATUS_PHASE 0) (((waiting.eligibles 0).head?).getD (entIdle, { ord := 0, pos := 0, bank := 0, row := 0, write := false, ixs := [] }))), (rfl), (rfl), (by decide +kernel), (by decide +kernel), (by decide +kernel), (by decide +kernel), (rfl), (by decide +kernel), (by decide +kernel)⟩,
    ⟨(0), (31), ({ engine 0 { banks := [(31, { row := some 0 })] } with cc := 100000 }), (by decide +kernel), (by decide +kernel), (by decide +kernel), (by decide +kernel), (by decide +kernel), (by decide +kernel)⟩,
    ⟨(0), (31), (engine 0 {}), (by decide +kernel)⟩⟩

/-- The hypotheses of TurntableAndQueueTimers can be met. -/
theorem test_TurntableAndQueueTimers_hypotheses :
    (∃ (s : State), (s.start.b0 = false ∨ s.hold.isSome = true)) ∧
    (∃ (s : State), (s.start.b0 = true) ∧ (s.hold = none) ∧ (s.inState .park = true)) ∧
    (∃ (s : State), (s.start.b0 = true) ∧ (s.hold = none) ∧ (s.inState .park = false)) ∧
    (∃ (s : State), (s.start.b0 = true) ∧ (s.hold = none) ∧ (s.inState .park = false) ∧ (s.trks = []) ∧ (s.chans = []) ∧ (s.codec.queue = []) ∧ (s.fab.copies = []) ∧ (s.fld Fld.TT_TIME_CYCLE ≠ 1279)) ∧
    (∃ (t : Nat) (x : Trk) (e : BufEnt) (s : State), (s.start.b0 = true) ∧ (s.hold = none) ∧ (s.inState .park = false) ∧ (t < 32) ∧ (s.trks = [(t, x)]) ∧ (x.tx.late = []) ∧ (x.ses.buf = [e]) ∧ (pktType e.pkt.typ).isMem = true ∧ (s.fenceBefore e.ord = false) ∧ (∀ y ∈ s.chans, y.2.q = []) ∧ (s.codec.queue = []) ∧ (s.fab.copies = []) ∧ (s.fld Fld.TT_TIME_CYCLE ≠ 1279) ∧ (s.retries e.chan = false) ∧ (s.takes t e.chan = true)) ∧
    (∃ (c : ChanIx) (i : Nat) (e : Ent) (z : Side) (s : State), (s.chan c).q[i]? = some e ∧ (e.side = some z) ∧ (z.ticks < z.limit)) ∧
    (∃ (c : ChanIx) (i : Nat) (e : Ent) (z : Side) (s : State) (v : State) (u : State), (s.chan c).q[i]? = some e ∧ (e.side = some z) ∧ (z.limit ≤ z.ticks) ∧ (v = (s.modEnt c e.ord fun y => y.finish Status.aborted.code 1).effected e.ord) ∧ (u = (((v.modChan c fun x => { x with locks := x.locks.filter fun k => k.1 != e.ord, prio := x.prio.filter fun t => !(t.lines.any fun l => l.ord = e.ord && l.use = .rmwW) }).reside c).bump Fld.CHN_CNT_COUNT c 7))) := by
  refine ⟨⟨(State.reset), (by decide +kernel)⟩,
    ⟨(({ powered with start := { b0 := true }, cc := 17 }).setFld Fld.GLB_STATE_STATE PowerState.park.code), (by decide +kernel), (by decide +kernel), (by decide +kernel)⟩,
    ⟨({ powered with start := { b0 := true } }), (by decide +kernel), (by decide +kernel), (by decide +kernel)⟩,
    ⟨({ powered with start := { b0 := true } }), (by decide +kernel), (by decide +kernel), (by decide +kernel), (by decide +kernel), (by decide +kernel), (by decide +kernel), (by decide +kernel), (by decide +kernel)⟩,
    ⟨(31), ({ ses := { buf := [buf0] } }), (buf0), (({ powered with start := { b0 := true }, trks := [(31, { ses := { buf := [buf0] } })], chans := [(0, { exited := true })] }).setFld Fld.CHN_LAT_RD_LAT 40 0 |>.setFld Fld.CHN_CTL_EN 1 0), (by decide +kernel), (by decide +kernel), (by decide +kernel), (by decide +kernel), (by decide +kernel), (by decide +kernel), (by decide +kernel), (by decide +kernel), (by decide +kernel), (by decide +kernel), (by decide +kernel), (by decide +kernel), (by decide +kernel), (by decide +kernel), (by decide +kernel)⟩,
    ⟨(0), (0), ({ ent0 with side := some { reason := 1, limit := 2 } }), ({ reason := 1, limit := 2 }), (engine 0 { q := [{ ent0 with side := some { reason := 1, limit := 2 } }] }), (by decide +kernel), (by decide +kernel), (by decide +kernel)⟩,
    ⟨(0), (0), (ent1), ({ reason := 1, ticks := 2, limit := 2 }), (engine 0 { q := [ent1] }), (((engine 0 { q := [ent1] }).modEnt 0 9 fun y => y.finish Status.aborted.code 1).effected 9), ((((((engine 0 { q := [ent1] }).modEnt 0 9 fun y => y.finish Status.aborted.code 1).effected 9).modChan 0 fun x => { x with locks := x.locks.filter fun k => k.1 != 9, prio := x.prio.filter fun t => !(t.lines.any fun l => l.ord = 9 && l.use = .rmwW) }).reside 0).bump Fld.CHN_CNT_COUNT 0 7), (by decide +kernel), (by decide +kernel), (by decide +kernel), (rfl), (rfl)⟩⟩

/-- The hypotheses of EngineHandOverAndSelfRefresh can be met. -/
theorem test_EngineHandOverAndSelfRefresh_hypotheses :
    (∃ (c : ChanIx) (s : State), (s.chan c).q ≠ []) ∧
    (∃ (c : ChanIx) (s : State), (s.chan c).q = [] ∧ (s.chan c).swap = none ∧ (s.flag Fld.CHN_CTL_EN c = false)) ∧
    (∃ (c : ChanIx) (w : Swap) (s : State), (s.chan c).q = [] ∧ (s.chan c).swap = some w ∧ (w.draining = true) ∧ (s.flag Fld.CHN_CTL_EN c = true)) ∧
    (∃ (c : ChanIx) (s : State), (s.chan c).resetting = true ∧ (s.chan c).mig = none) ∧
    (∃ (c : ChanIx) (s : State), ((s.chan c).resetting = false ∨ (s.chan c).mig.isSome = true)) ∧
    (∃ (c : ChanIx) (w : Swap) (s : State) (v : State) (u : State), (s.chan c).swap = some w ∧ (w.draining = false) ∧ (w.ordered = false) ∧ (v = ((s.setDomain (9 + w.spare) true).modChan c fun x => { x with banks := [], acts := [], grp := [], swap := none }).preAll c) ∧ (u = ((v.beginRecovery c).setFld Fld.CHN_CTL_ENGINE w.spare c).setFld Fld.CHN_STATUS_SWAPPING 0 c)) ∧
    (∃ (c : ChanIx) (s : State), ((s.chan c).swap = none ∨ (s.chan c).swap.map (fun w => w.draining) = some true)) ∧
    (∃ (c : ChanIx) (s : State), (s.chan c).quiet = true ∧ (s.flag Fld.CHN_REF_STATE_SR c = false) ∧ (s.chan c).ref.srx = false ∧ (s.mustSleep c = true) ∧ (s.fld Fld.CHN_REF_STATE_OWED c = 0) ∧ (s.chan c).ref.nrefs = [] ∧ (s.chan c).ccalDue = 0 ∧ (s.calBusy c = false)) ∧
    (∃ (c : ChanIx) (_b : Bool) (s : State) (u : State), (s.chan c).quiet = true ∧ (s.flag Fld.CHN_REF_STATE_SR c = false) ∧ (s.chan c).ref.srx = false ∧ (s.mustSleep c = true) ∧ (u = (s.issueOwed c).modRef c fun r => { r with slot := 0, slotN := 0, own := [] }) ∧ (0 < (u.chan c).ccalDue ∨ u.calBusy c = true)) ∧
    (∃ (c : ChanIx) (_b : Bool) (s : State), (s.mustSleep c = false)) ∧
    (∃ (c : ChanIx) (_l : List Nat) (s : State), ((s.chan c).ref.srx = false ∨ s.cc < (s.chan c).ref.srxAt + s.fld Fld.REF_SR_T_XS)) ∧
    (∃ (c : ChanIx) (_l : List Nat) (s : State), (s.chan c).ref.srx = true ∧ (s.chan c).ref.srxAt + s.fld Fld.REF_SR_T_XS ≤ s.cc ∧ (s.chan c).ref.soft = false ∧ (s.softOut c = false)) := by
  refine ⟨⟨(0), (engine 0 { q := [ent0] }), (by decide +kernel)⟩,
    ⟨(0), (regs [(Fld.CHN_CTL_EN, 0, 0, 0)]), (by decide +kernel), (by decide +kernel), (by decide +kernel)⟩,
    ⟨(0), ({ spare := 64, draining := true, ordered := false }), (chn 0 { swap := some { spare := 64, draining := true, ordered := false } } (regs [(Fld.CHN_CTL_EN, 1, 0, 0)])), (by decide +kernel), (by decide +kernel), (by decide +kernel), (by decide +kernel)⟩,
    ⟨(0), (engine 0 { resetting := true }), (by decide +kernel), (by decide +kernel)⟩,
    ⟨(0), (engine 0 {}), (by decide +kernel)⟩,
    ⟨(0), ({ spare := 64, draining := false, ordered := false }), (engine 0 { swap := some { spare := 64, draining := false, ordered := false } }), ((((engine 0 { swap := some { spare := 64, draining := false, ordered := false } }).setDomain (9 + 64) true).modChan 0 fun x => { x with banks := [], acts := [], grp := [], swap := none }).preAll 0), (((((((engine 0 { swap := some { spare := 64, draining := false, ordered := false } }).setDomain (9 + 64) true).modChan 0 fun x => { x with banks := [], acts := [], grp := [], swap := none }).preAll 0).beginRecovery 0).setFld Fld.CHN_CTL_ENGINE 64 0).setFld Fld.CHN_STATUS_SWAPPING 0 0), (by decide +kernel), (by decide +kernel), (by decide +kernel), (rfl), (rfl)⟩,
    ⟨(0), (State.reset), (by decide +kernel)⟩,
    ⟨(0), (({ engine 0 { exited := true } with park := { step := .sleep } }).setFld Fld.CHN_REF_STATE_OWED 0 0), (by decide +kernel), (by decide +kernel), (by decide +kernel), (by decide +kernel), (by decide +kernel), (by decide +kernel), (by decide +kernel), (by decide +kernel)⟩,
    ⟨(0), (true), (({ engine 0 { exited := true, ccalDue := 1 } with park := { step := .sleep } }).setFld Fld.CHN_REF_STATE_OWED 0 0), (((({ engine 0 { exited := true, ccalDue := 1 } with park := { step := .sleep } }).setFld Fld.CHN_REF_STATE_OWED 0 0).issueOwed 0).modRef 0 fun r => { r with slot := 0, slotN := 0, own := [] }), (by decide +kernel), (by decide +kernel), (by decide +kernel), (by decide +kernel), (rfl), (by decide +kernel)⟩,
    ⟨(0), (true), ({ powered with start := { pilot := 1 } }), (by decide +kernel)⟩,
    ⟨(0), ([]), (engine 0 {}), (by decide +kernel)⟩,
    ⟨(0), ([]), ({ engine 0 { ref := { srx := true } } with cc := 100000 }), (by decide +kernel), (by decide +kernel), (by decide +kernel), (by decide +kernel)⟩⟩

/-- The hypotheses of LaneReceptionAndCalibration can be met. -/
theorem test_LaneReceptionAndCalibration_hypotheses :
    (∃ (_t : TrackIx) (_row : RxRow) (s : State), (s.resetting = true)) ∧
    (∃ (t : TrackIx) (_row : RxRow) (s : State), (s.resetting = false) ∧ (∀ p < 18, s.fld Fld.TRK_PRBS_CTL_CHK_SEL t p = 0) ∧ (s.linkIs t .disabled = true ∨ s.fld Fld.TRK_LSTATE_RX_STATE t = 3)) ∧
    (∃ (t : TrackIx) (_row : RxRow) (s : State), (s.resetting = false) ∧ (∀ p < 18, s.fld Fld.TRK_PRBS_CTL_CHK_SEL t p = 0) ∧ (s.linkIs t .disabled = false) ∧ (s.fld Fld.TRK_LSTATE_RX_STATE t ≠ 3) ∧ (s.trk t).rx.mode = .stalled ∧ (s.fld Fld.TRK_LSTATE_RX_STATE t ≠ 1)) ∧
    (∃ (t : TrackIx) (row : RxRow) (s : State), (s.resetting = false) ∧ (∀ p < 18, s.fld Fld.TRK_PRBS_CTL_CHK_SEL t p = 0) ∧ (s.linkIs t .disabled = false) ∧ (s.fld Fld.TRK_LSTATE_RX_STATE t ≠ 3) ∧ (row.sig = 0)) ∧
    (∃ (t : TrackIx) (row : RxRow) (s : State), (s.resetting = false) ∧ (∀ p < 18, s.fld Fld.TRK_PRBS_CTL_CHK_SEL t p = 0) ∧ (s.linkIs t .disabled = false) ∧ (s.fld Fld.TRK_LSTATE_RX_STATE t ≠ 3) ∧ (s.linkIs t .ready = true) ∧ (s.trk t).rx.mode ≠ .stalled ∧ (s.fld Fld.TRK_LSTATE_RX_STATE t ≠ 1) ∧ (s.trk t).rx.depth = 0 ∧ (s.trk t).cen.got = none ∧ (s.flag Fld.TRK_SPARE_CFG_AUTO_EN t = false) ∧ (row.sig = 0x3FFFF) ∧ (row.eq = []) ∧ (row.elastic ≠ .limit) ∧ (∀ p < 18, ∀ (d : Bool), (decode10 (row.syms.getD p 0) d).1 = .ctl .skp)) ∧
    (∃ (t : TrackIx) (row : RxRow) (a : State × List LaneSym) (ys : List LaneSym) (k : RowKind) (s : State), (s.resetting = false) ∧ (∀ p < 18, s.fld Fld.TRK_PRBS_CTL_CHK_SEL t p = 0) ∧ (s.linkIs t .disabled = false) ∧ (s.fld Fld.TRK_LSTATE_RX_STATE t ≠ 3) ∧ (s.trk t).rx.mode ≠ .stalled ∧ (row.eq = []) ∧ (row.elastic = .none) ∧ (a = (s.rxLanes t row).1.align t (s.rxLanes t row).2) ∧ (a.1.anySignal t row = true) ∧ (ys = (List.range 16).map fun q => a.2.getD (a.1.laneOf t false q) darkSym) ∧ (k = a.1.classify t ys)) ∧
    (∃ (t : TrackIx) (_p : LaneIx) (_n : CalCount) (s : State), (s.flag Fld.TRK_CAL_CFG_TRIM_FREEZE t = true ∨ s.fld Fld.TRK_LSTATE_RX_STATE t = 1 ∨ s.fld Fld.TRK_LSTATE_RX_STATE t = 3 ∨ (s.trk t).rx.mode = .stalled)) ∧
    (∃ (t : TrackIx) (p : LaneIx) (n : CalCount) (s : State), (s.calRuns t = true) ∧ (s.linkIs t .training = false) ∧ ((s.rxLane t p).calErr ≠ 0 ∨ 10 * n.nt < 3 * (10 * s.calWindow t) ∨ n.valid = false ∨ s.calValid t p = false)) ∧
    (∃ (t : TrackIx) (p : LaneIx) (n : CalCount) (s : State) (o : Int) (l : Int), (s.calRuns t = true) ∧ (s.linkIs t .training = false) ∧ (s.rxLane t p).calErr = 0 ∧ (3 * (10 * s.calWindow t) ≤ 10 * n.nt) ∧ (n.valid = true) ∧ (s.calValid t p = true) ∧ (o, l) = calStep (10 * s.calWindow t) n (signedOf 7 (s.fld Fld.TRK_RX_TRIM_OFFSET t p)) (s.fld Fld.TRK_RX_TRIM_LEVEL t p)) ∧
    (∃ (t : TrackIx) (_p : LaneIx) (_n : CalCount) (s : State), (s.calRuns t = true) ∧ (s.linkIs t .training = true)) ∧
    (∃ (t : TrackIx) (s : State), (s.fld Fld.TRK_SPARE_CFG_WINDOW t ≤ (s.trk t).errTicks)) ∧
    (∃ (t : TrackIx) (s : State), (s.trk t).errTicks < s.fld Fld.TRK_SPARE_CFG_WINDOW t) := by
  refine ⟨⟨(31), ({ syms := [] }), (State.reset), (by decide +kernel)⟩,
    ⟨(31), ({ syms := [] }), (powered), (by decide +kernel), (by decide +kernel), (by decide +kernel)⟩,
    ⟨(31), ({ syms := [] }), (track 31 { rx := { mode := .stalled } }), (by decide +kernel), (by decide +kernel), (by decide +kernel), (by decide +kernel), (by decide +kernel), (by decide +kernel)⟩,
    ⟨(31), ({ syms := [], sig := 0 }), (track 31 {}), (by decide +kernel), (by decide +kernel), (by decide +kernel), (by decide +kernel), (by decide +kernel)⟩,
    ⟨(31), ({ syms := List.replicate 18 encSkp, elastic := .filling }), ((track 31 {}).setFld Fld.TRK_SPARE_CFG_AUTO_EN 0 31), (by decide +kernel), (by decide +kernel), (by decide +kernel), (by decide +kernel), (by decide +kernel), (by decide +kernel), (by decide +kernel), (by decide +kernel), (by decide +kernel), (by decide +kernel), (by decide +kernel), (by decide +kernel), (by decide +kernel), (by decide +kernel)⟩,
    ⟨(31), ({ syms := List.replicate 18 encSkp }), (((track 31 {}).rxLanes 31 { syms := List.replicate 18 encSkp }).1.align 31 ((track 31 {}).rxLanes 31 { syms := List.replicate 18 encSkp }).2), ((List.range 16).map fun q => (((track 31 {}).rxLanes 31 { syms := List.replicate 18 encSkp }).1.align 31 ((track 31 {}).rxLanes 31 { syms := List.replicate 18 encSkp }).2).2.getD ((((track 31 {}).rxLanes 31 { syms := List.replicate 18 encSkp }).1.align 31 ((track 31 {}).rxLanes 31 { syms := List.replicate 18 encSkp }).2).1.laneOf 31 false q) darkSym), (.skip), (track 31 {}), (by decide +kernel), (by decide +kernel), (by decide +kernel), (by decide +kernel), (by decide +kernel), (by decide +kernel), (by decide +kernel), (rfl), (by decide +kernel), (rfl), (by decide +kernel)⟩,
    ⟨(31), (17), (cal 0), (regs [(Fld.TRK_CAL_CFG_TRIM_FREEZE, 1, 31, 0)]), (by decide +kernel)⟩,
    ⟨(31), (17), (cal 0), (track 31 {}), (by decide +kernel), (by decide +kernel), (by decide +kernel)⟩,
    ⟨(31), (17), (cal 400000), (track 31 { lanesRx := [(17, { sig := true })] }), ((calStep (10 * (track 31 { lanesRx := [(17, { sig := true })] }).calWindow 31) (cal 400000) (signedOf 7 ((track 31 { lanesRx := [(17, { sig := true })] }).fld Fld.TRK_RX_TRIM_OFFSET 31 17)) ((track 31 { lanesRx := [(17, { sig := true })] }).fld Fld.TRK_RX_TRIM_LEVEL 31 17)).1), ((calStep (10 * (track 31 { lanesRx := [(17, { sig := true })] }).calWindow 31) (cal 400000) (signedOf 7 ((track 31 { lanesRx := [(17, { sig := true })] }).fld Fld.TRK_RX_TRIM_OFFSET 31 17)) ((track 31 { lanesRx := [(17, { sig := true })] }).fld Fld.TRK_RX_TRIM_LEVEL 31 17)).2), (by decide +kernel), (by decide +kernel), (by decide +kernel), (by decide +kernel), (by decide +kernel), (by decide +kernel), (rfl)⟩,
    ⟨(31), (17), (cal 0), (phase 31 1 {}), (by decide +kernel), (by decide +kernel)⟩,
    ⟨(31), (track 31 { errTicks := 2 ^ 32, lanesRx := [(17, { winErr := 9 })] }), (by decide +kernel)⟩,
    ⟨(31), (regs [(Fld.TRK_SPARE_CFG_WINDOW, 1, 31, 0)]), (by decide +kernel)⟩⟩

/-- The hypotheses of LaneSparing can be met. -/
theorem test_LaneSparing_hypotheses :
    (∃ (t : TrackIx) (m : LaneMsg) (next : Byte) (s : State), (s.linkIs t .ready = true) ∧ (next = (s.trk t).tx.next) ∧ (4 ≤ (m.target - next).toNat) ∧ (m.target - next).toNat ≤ 128 ∧ (s.spareIs t true m.spare .standby = true) ∧ (s.trk t).spX = none) ∧
    (∃ (t : TrackIx) (m : LaneMsg) (next : Byte) (s : State), (s.linkIs t .ready = true) ∧ (next = (s.trk t).tx.next) ∧ (s.trk t).spX ≠ some { pos := m.pos.val, spare := m.spare, target := m.target } ∧ ((m.target - next).toNat < 4 ∨ 128 < (m.target - next).toNat ∨ s.spareIs t true m.spare .standby = false ∨ (s.trk t).spX.isSome = true)) ∧
    (∃ (t : TrackIx) (m : LaneMsg) (s : State), (s.linkIs t .ready = true) ∧ (s.trk t).spX = some { pos := m.pos.val, spare := m.spare, target := m.target }) ∧
    (∃ (t : TrackIx) (_m : LaneMsg) (s : State), (s.linkIs t .ready = false)) ∧
    (∃ (t : TrackIx) (m : LaneMsg) (y : SpareY) (s : State), (s.trk t).spY = some y ∧ (y.pos = m.pos.val) ∧ (y.spare = m.spare) ∧ (y.target = m.target)) ∧
    (∃ (t : TrackIx) (m : LaneMsg) (y : SpareY) (s : State), (s.trk t).spY = some y ∧ (y.pos ≠ m.pos.val ∨ y.spare ≠ m.spare ∨ y.target ≠ m.target)) ∧
    (∃ (t : TrackIx) (_m : LaneMsg) (s : State), (s.trk t).spY = none) ∧
    (∃ (t : TrackIx) (m : LaneMsg) (y : SpareY) (sp : Bool) (s : State), (s.trk t).spY = some y ∧ (y.pos = m.pos.val) ∧ (y.target = m.target) ∧ (y.acked = false) ∧ (y.tries < 2) ∧ (s.standby t false = some sp) ∧ (s.standby t true).isSome = true) ∧
    (∃ (t : TrackIx) (m : LaneMsg) (y : SpareY) (s : State), (s.trk t).spY = some y ∧ (y.pos = m.pos.val) ∧ (y.target = m.target) ∧ (y.acked = false) ∧ (2 ≤ y.tries)) ∧
    (∃ (t : TrackIx) (m : LaneMsg) (y : SpareY) (s : State), (s.trk t).spY = some y ∧ (y.pos ≠ m.pos.val ∨ y.target ≠ m.target ∨ y.acked = true)) ∧
    (∃ (t : TrackIx) (y : SpareY) (s : State), (s.trk t).spY = some y ∧ (y.acked = true ∨ y.blocks < 32)) ∧
    (∃ (t : TrackIx) (y : SpareY) (sp : Bool) (s : State), (s.trk t).spY = some y ∧ (y.acked = false) ∧ (32 ≤ y.blocks) ∧ (y.tries < 2) ∧ (s.standby t false = some sp) ∧ (s.standby t true).isSome = true) ∧
    (∃ (t : TrackIx) (y : SpareY) (s : State), (s.trk t).spY = some y ∧ (y.acked = false) ∧ (32 ≤ y.blocks) ∧ (2 ≤ y.tries)) ∧
    (∃ (t : TrackIx) (x : SpareX) (s : State), (s.trk t).spX = some x ∧ (s.trk t).tx.at x.target = true) ∧
    (∃ (t : TrackIx) (y : SpareY) (s : State), (s.trk t).spY = some y ∧ (y.acked = true) ∧ (s.trk t).rx.at y.target = true) ∧
    (∃ (t : TrackIx) (x : SpareX) (y : SpareY) (s : State), (s.trk t).spX = some x ∧ (s.trk t).tx.at x.target = false ∧ (s.trk t).spY = some y ∧ (y.acked = false ∨ (s.trk t).rx.at y.target = false)) ∧
    (∃ (t : TrackIx) (tx : Bool) (p : Nat) (b : Byte) (l : List (Nat × Byte)) (s : State), (if tx then (s.trk t).retireTx else (s.trk t).retireRx) = (p, b) :: l ∧ (if tx then (s.trk t).tx.at (b + 1) else (s.trk t).rx.at (b + 1)) = true) ∧
    (∃ (t : TrackIx) (tx : Bool) (p : Nat) (b : Byte) (l : List (Nat × Byte)) (s : State), (if tx then (s.trk t).retireTx else (s.trk t).retireRx) = (p, b) :: l ∧ (if tx then (s.trk t).tx.at (b + 1) else (s.trk t).rx.at (b + 1)) = false) := by
  refine ⟨⟨(31), ({ spare := false, pos := 15, target := 4 }), (0), (((track 31 {}).setFld (spareFld true false) SpareState.standby.code 31).setFld (spareFld false false) SpareState.standby.code 31), (by decide +kernel), (by decide +kernel), (by decide +kernel), (by decide +kernel), (by decide +kernel), (by decide +kernel)⟩,
    ⟨(31), ({ spare := false, pos := 15, target := 3 }), (0), (((track 31 {}).setFld (spareFld true false) SpareState.standby.code 31).setFld (spareFld false false) SpareState.standby.code 31), (by decide +kernel), (by decide +kernel), (by decide +kernel), (by decide +kernel)⟩,
    ⟨(31), ({ spare := true, pos := 15, target := 3 }), (track 31 { spX := some { pos := 15, spare := true, target := 3 } }), (by decide +kernel), (by decide +kernel)⟩,
    ⟨(31), ({ spare := true, pos := 15, target := 3 }), (State.reset), (by decide +kernel)⟩,
    ⟨(31), ({ spare := true, pos := 15, target := 20 }), ({ pos := 15, spare := true, target := 20 }), (track 31 { spY := some { pos := 15, spare := true, target := 20 } }), (by decide +kernel), (by decide +kernel), (by decide +kernel), (by decide +kernel)⟩,
    ⟨(31), ({ spare := true, pos := 15, target := 21 }), ({ pos := 15, spare := true, target := 20 }), (track 31 { spY := some { pos := 15, spare := true, target := 20 } }), (by decide +kernel), (by decide +kernel)⟩,
    ⟨(31), ({ spare := true, pos := 15, target := 21 }), (State.reset), (by decide +kernel)⟩,
    ⟨(31), ({ spare := false, pos := 15, target := 20 }), ({ pos := 15, spare := false, target := 20, tries := 1 }), (false), (((track 31 { spY := some { pos := 15, spare := false, target := 20, tries := 1 } }).setFld (spareFld true false) SpareState.standby.code 31).setFld (spareFld false false) SpareState.standby.code 31), (by decide +kernel), (by decide +kernel), (by decide +kernel), (by decide +kernel), (by decide +kernel), (by decide +kernel), (by decide +kernel)⟩,
    ⟨(31), ({ spare := false, pos := 15, target := 20 }), ({ pos := 15, spare := false, target := 20, tries := 2 }), (((track 31 { spY := some { pos := 15, spare := false, target := 20, tries := 2 } }).setFld (spareFld true false) SpareState.standby.code 31).setFld (spareFld false false) SpareState.standby.code 31), (by decide +kernel), (by decide +kernel), (by decide +kernel), (by decide +kernel), (by decide +kernel)⟩,
    ⟨(31), ({ spare := false, pos := 15, target := 20 }), ({ pos := 15, spare := false, target := 20, acked := true }), (((track 31 { spY := some { pos := 15, spare := false, target := 20, acked := true } }).setFld (spareFld true false) SpareState.standby.code 31).setFld (spareFld false false) SpareState.standby.code 31), (by decide +kernel), (by decide +kernel)⟩,
    ⟨(31), ({ pos := 15, spare := false, target := 20 }), (((track 31 { spY := some { pos := 15, spare := false, target := 20 } }).setFld (spareFld true false) SpareState.standby.code 31).setFld (spareFld false false) SpareState.standby.code 31), (by decide +kernel), (by decide +kernel)⟩,
    ⟨(31), ({ pos := 15, spare := false, target := 20, blocks := 32 }), (false), (((track 31 { spY := some { pos := 15, spare := false, target := 20, blocks := 32 } }).setFld (spareFld true false) SpareState.standby.code 31).setFld (spareFld false false) SpareState.standby.code 31), (by decide +kernel), (by decide +kernel), (by decide +kernel), (by decide +kernel), (by decide +kernel), (by decide +kernel)⟩,
    ⟨(31), ({ pos := 15, spare := false, target := 20, blocks := 32, tries := 2 }), (((track 31 { spY := some { pos := 15, spare := false, target := 20, blocks := 32, tries := 2 } }).setFld (spareFld true false) SpareState.standby.code 31).setFld (spareFld false false) SpareState.standby.code 31), (by decide +kernel), (by decide +kernel), (by decide +kernel), (by decide +kernel)⟩,
    ⟨(31), ({ pos := 15, spare := true, target := 20 }), (track 31 { spX := some { pos := 15, spare := true, target := 20 }, tx := { blk := 20, row := 0 } }), (by decide +kernel), (by decide +kernel)⟩,
    ⟨(31), ({ pos := 15, spare := true, target := 20, acked := true }), (track 31 { spY := some { pos := 15, spare := true, target := 20, acked := true }, rx := { blk := 20 } }), (by decide +kernel), (by decide +kernel), (by decide +kernel)⟩,
    ⟨(31), ({ pos := 15, spare := true, target := 20 }), ({ pos := 15, spare := true, target := 20 }), (track 31 { spX := some { pos := 15, spare := true, target := 20 }, spY := some { pos := 15, spare := true, target := 20 } }), (by decide +kernel), (by decide +kernel), (by decide +kernel), (by decide +kernel)⟩,
    ⟨(31), (true), (15), (36), ([]), (track 31 { retireTx := [(15, 36)], tx := { blk := 37, row := 0 } }), (by decide +kernel), (by decide +kernel)⟩,
    ⟨(31), (true), (15), (36), ([]), (track 31 { retireTx := [(15, 36)], tx := { blk := 36, row := 0 } }), (by decide +kernel), (by decide +kernel)⟩⟩

/-- The hypotheses of LaneIdleAndStalls can be met. -/
theorem test_LaneIdleAndStalls_hypotheses :
    (∃ (t : TrackIx) (s : State), (s.mayEnterL1 t = true)) ∧
    (∃ (t : TrackIx) (s : State), (s.inState .nap = false ∨ s.flag Fld.TRK_LSTATE_L1_EN t = false ∨ (s.trk t).tx.replay ≠ [] ∨ s.toSend t = true)) ∧
    (∃ (t : TrackIx) (s : State), (s.fld Fld.TRK_LSTATE_TX_STATE t = 1) ∧ (s.toSend t = true ∨ s.inState .nap = false ∨ (s.trk t).tx.leave = true)) ∧
    (∃ (t : TrackIx) (s : State), (s.fld Fld.TRK_LSTATE_TX_STATE t ≠ 1 ∨ (s.toSend t = false ∧ s.inState .nap = true ∧ (s.trk t).tx.leave = false))) ∧
    (∃ (t : TrackIx) (s : State), (s.linkIs t .ready = true) ∧ (s.fld Fld.TRK_LSTATE_RX_STATE t = 0) ∧ (s.trk t).rx.mode ≠ .stalled ∧ (s.trk t).rx.held = false ∧ (s.trk t).rx.cur = none) ∧
    (∃ (t : TrackIx) (s : State), (s.linkIs t .ready = false ∨ s.fld Fld.TRK_LSTATE_RX_STATE t ≠ 0)) ∧
    (∃ (t : TrackIx) (s : State), (s.linkIs t .ready = true) ∧ (s.trk t).rx.mode = .stalled) ∧
    (∃ (t : TrackIx) (_b : Bool) (s : State), (s.trk t).rx.mode ≠ .stalled) ∧
    (∃ (t : TrackIx) (b : Bool) (s : State), (s.trk t).rx.mode = .stalled ∧ (if b then s.fld Fld.TRK_LSTATE_RX_STATE t = 1 ∧ 0 < (s.trk t).rx.wake else s.fld Fld.TRK_LSTATE_RX_STATE t ≠ 1)) ∧
    (∃ (t : TrackIx) (c : OpenPkt) (d : Nat) (s : State) (v : State) (u : State), (s.trk t).rx.held = true ∧ (s.trk t).rx.mode = .stalled ∧ (s.trk t).rx.limit ≤ (s.trk t).rx.ticks ∧ (s.trk t).rx.cur = some c ∧ (c.accept = true) ∧ (d = c.left - (s.trk t).rx.late.length) ∧ (v = (s.modRx t fun x => { x with cur := none, held := false, drop := d, noLamp := decide (c.left ≤ x.late.length), judge := false, late := [] }).account t c.pkt) ∧ (u = (if (pktType c.pkt.typ).isReq then v.respond v.ord (respType c.pkt) Status.aborted.code 0x3 else v).modTx t fun x => { x with marked := x.marked ++ [{ tag := c.pkt.tag, seq := c.pkt.seq, req := c.pkt.cost.1, data := c.pkt.cost.2 }] })) ∧
    (∃ (t : TrackIx) (s : State), ((s.trk t).rx.held = false ∨ (s.trk t).rx.mode ≠ .stalled ∨ (s.trk t).rx.ticks < (s.trk t).rx.limit)) := by
  refine ⟨⟨(31), ((track 31 { tx := { idle := 255 } }).setFld Fld.GLB_STATE_STATE PowerState.nap.code |>.setFld Fld.TRK_LSTATE_L1_EN 1 31), (by decide +kernel)⟩,
    ⟨(31), (State.reset), (by decide +kernel)⟩,
    ⟨(31), ((track 31 { lanesTx := [(3, { on := true })] }).setFld Fld.TRK_LSTATE_TX_STATE 1 31), (by decide +kernel), (by decide +kernel)⟩,
    ⟨(31), (State.reset), (by decide +kernel)⟩,
    ⟨(31), (track 31 { rx := { mode := .resync } }), (by decide +kernel), (by decide +kernel), (by decide +kernel), (by decide +kernel), (by decide +kernel)⟩,
    ⟨(31), (State.reset), (by decide +kernel)⟩,
    ⟨(31), (track 31 { rx := { mode := .stalled } }), (by decide +kernel), (by decide +kernel)⟩,
    ⟨(31), (true), (State.reset), (by decide +kernel)⟩,
    ⟨(31), (false), (track 31 { rx := { mode := .stalled, held := true, cur := some { pkt := { typ := 1, tag := 9, len := 2, seq := 7 }, left := 3 } } }), (by decide +kernel), (by decide +kernel)⟩,
    ⟨(31), ({ pkt := { typ := 1, tag := 9, len := 2, seq := 7 }, left := 3 }), (3), (track 31 { rx := { mode := .stalled, held := true, cur := some { pkt := { typ := 1, tag := 9, len := 2, seq := 7 }, left := 3 } } }), (((track 31 { rx := { mode := .stalled, held := true, cur := some { pkt := { typ := 1, tag := 9, len := 2, seq := 7 }, left := 3 } } }).modRx 31 fun x => { x with cur := none, held := false, drop := 3, noLamp := decide (3 ≤ x.late.length), judge := false, late := [] }).account 31 { typ := 1, tag := 9, len := 2, seq := 7 }), (((((track 31 { rx := { mode := .stalled, held := true, cur := some { pkt := { typ := 1, tag := 9, len := 2, seq := 7 }, left := 3 } } }).modRx 31 fun x => { x with cur := none, held := false, drop := 3, noLamp := decide (3 ≤ x.late.length), judge := false, late := [] }).account 31 { typ := 1, tag := 9, len := 2, seq := 7 }).respond (((track 31 { rx := { mode := .stalled, held := true, cur := some { pkt := { typ := 1, tag := 9, len := 2, seq := 7 }, left := 3 } } }).modRx 31 fun x => { x with cur := none, held := false, drop := 3, noLamp := decide (3 ≤ x.late.length), judge := false, late := [] }).account 31 { typ := 1, tag := 9, len := 2, seq := 7 }).ord (respType { typ := 1, tag := 9, len := 2, seq := 7 }) Status.aborted.code 0x3).modTx 31 fun x => { x with marked := x.marked ++ [{ tag := 9, seq := 7, req := ({ typ := 1, tag := 9, len := 2, seq := 7 } : Pkt).cost.1, data := ({ typ := 1, tag := 9, len := 2, seq := 7 } : Pkt).cost.2 }] }), (by decide +kernel), (by decide +kernel), (by decide +kernel), (by decide +kernel), (by decide +kernel), (by decide +kernel), (rfl), (rfl)⟩,
    ⟨(31), (State.reset), (by decide +kernel)⟩⟩

/-- The hypotheses of AcknowledgementAndTransmission can be met. -/
theorem test_AcknowledgementAndTransmission_hypotheses :
    (∃ (t : TrackIx) (p : Pkt) (q : Pkt) (l : List Pkt) (r : List Pkt) (s : State), (s.linkIs t .ready = true) ∧ (s.trk t).rx.inbox = [] ∧ ({ p with typ := 0 } : Pkt).sequenced = false ∧ ({ p with typ := 0 } : Pkt).headReason = none ∧ (p.nak = false) ∧ (s.trk t).tx.replay = l ++ q :: r ∧ (q.seq = p.ackSeq) ∧ (∀ y ∈ l, y.seq ≠ p.ackSeq)) ∧
    (∃ (t : TrackIx) (p : Pkt) (n : Nat) (s : State), (s.trk t).rx.inbox = [({ p with typ := 0 }, n)]) ∧
    (∃ (t : TrackIx) (s : State), (s.linkIs t .ready = true) ∧ (s.fld Fld.TRK_PKT_CFG_ACK_TIMEOUT t ≤ (s.trk t).tx.ackBlk) ∧ (s.trk t).tx.replay ≠ [] ∧ ((s.trk t).tx.stalled = true ∨ (s.trk t).tx.reps < s.fld Fld.TRK_PKT_CFG_REPLAY_LIMIT t)) ∧
    (∃ (t : TrackIx) (s : State), (s.linkIs t .ready = false ∨ (s.trk t).tx.replay = [] ∨ (s.trk t).tx.ackBlk < s.fld Fld.TRK_PKT_CFG_ACK_TIMEOUT t)) ∧
    (∃ (t : TrackIx) (s : State), (0 < (s.trk t).tx.retReq ∨ 0 < (s.trk t).tx.retData) ∧ (64 ≤ (s.trk t).tx.retRows)) ∧
    (∃ (t : TrackIx) (s : State), (((s.trk t).tx.retReq = 0 ∧ (s.trk t).tx.retData = 0) ∨ (s.trk t).tx.retRows < 64)) ∧
    (∃ (t : TrackIx) (s : State), (s.linkIs t .disabled = true ∨ s.linkIs t .down = true)) ∧
    (∃ (t : TrackIx) (s : State), (s.resetting = false) ∧ (s.linkIs t .ready = true) ∧ (s.fld Fld.TRK_LSTATE_TX_STATE t = 0) ∧ (s.trk t).tx.wake = 0 ∧ (s.trk t).tx.row = 0) ∧
    (∃ (t : TrackIx) (s : State), (s.resetting = false) ∧ (s.linkIs t .ready = true) ∧ (s.fld Fld.TRK_LSTATE_TX_STATE t = 0) ∧ (s.trk t).tx.wake = 0 ∧ (s.trk t).tx.row = 256 ∧ (s.trk t).tx.blk.toNat % 8 = 7) ∧
    (∃ (t : TrackIx) (s : State), (s.resetting = false) ∧ (s.linkIs t .ready = true) ∧ (s.fld Fld.TRK_LSTATE_TX_STATE t = 0) ∧ (s.trk t).tx.wake = 0 ∧ (s.trk t).tx.row = 256 ∧ (s.trk t).tx.blk.toNat % 8 ≠ 7) ∧
    (∃ (t : TrackIx) (r : BitVec 128) (l : List (BitVec 128)) (s : State), (s.resetting = false) ∧ (s.linkIs t .ready = true) ∧ (s.fld Fld.TRK_LSTATE_TX_STATE t = 0) ∧ (s.trk t).tx.wake = 0 ∧ (0 < (s.trk t).tx.row) ∧ (s.trk t).tx.row < 256 ∧ (s.trk t).tx.slotLeft = 0 ∧ (s.trk t).trn.queue = [] ∧ (s.trk t).trn.set = [] ∧ (s.trk t).tx.rows = r :: l) ∧
    (∃ (t : TrackIx) (x : Resp) (l : List Resp) (s : State), (s.resetting = false) ∧ (s.linkIs t .ready = true) ∧ (s.fld Fld.TRK_LSTATE_TX_STATE t = 0) ∧ (s.trk t).tx.wake = 0 ∧ (0 < (s.trk t).tx.row) ∧ (s.trk t).tx.row < 256 ∧ (s.trk t).tx.slotLeft = 0 ∧ (s.trk t).trn.queue = [] ∧ (s.trk t).trn.set = [] ∧ (s.trk t).tx.rows = [] ∧ (s.trk t).tx.rep = none ∧ (s.trk t).tx.marked = [] ∧ (s.trk t).tx.urg = [] ∧ (s.box.urg = []) ∧ (s.fld Fld.TRK_PKT_SEQ_UNACKED t < 255) ∧ (s.trk t).tx.resp = x :: l ∧ (s.fenceHolds x.ord = false) ∧ (x.affordable s t = true)) := by
  refine ⟨⟨(31), ({ typ := 0, ackSeq := 9 }), ({ typ := 1, seq := 9 }), ([{ typ := 1, seq := 8 }]), ([{ typ := 1, seq := 10 }]), (track 31 { tx := { replay := [{ typ := 1, seq := 8 }, { typ := 1, seq := 9 }, { typ := 1, seq := 10 }] } }), (by decide +kernel), (by decide +kernel), (by decide +kernel), (by decide +kernel), (by decide +kernel), (by decide +kernel), (by decide +kernel), (by decide +kernel)⟩,
    ⟨(31), ({ typ := 0 }), (5), (track 31 { rx := { inbox := [({ typ := 0 }, 5)] } }), (by decide +kernel)⟩,
    ⟨(31), ((track 31 { tx := { replay := [{ typ := 1, seq := 8 }], ackBlk := 255 } }).setFld Fld.TRK_PKT_CFG_REPLAY_LIMIT 4 31), (by decide +kernel), (by decide +kernel), (by decide +kernel), (by decide +kernel)⟩,
    ⟨(31), (State.reset), (by decide +kernel)⟩,
    ⟨(31), (track 31 { tx := { retData := 1, retRows := 64 } }), (by decide +kernel), (by decide +kernel)⟩,
    ⟨(31), (State.reset), (by decide +kernel)⟩,
    ⟨(31), (State.reset), (by decide +kernel)⟩,
    ⟨(31), (track 31 { tx := { blk := 255 } }), (by decide +kernel), (by decide +kernel), (by decide +kernel), (by decide +kernel), (by decide +kernel)⟩,
    ⟨(31), (track 31 { tx := { row := 256, blk := 255 } }), (by decide +kernel), (by decide +kernel), (by decide +kernel), (by decide +kernel), (by decide +kernel), (by decide +kernel)⟩,
    ⟨(31), (track 31 { tx := { row := 256, blk := 254 } }), (by decide +kernel), (by decide +kernel), (by decide +kernel), (by decide +kernel), (by decide +kernel), (by decide +kernel)⟩,
    ⟨(31), (9), ([8]), (track 31 { tx := { row := 255, rows := [9, 8] } }), (by decide +kernel), (by decide +kernel), (by decide +kernel), (by decide +kernel), (by decide +kernel), (by decide +kernel), (by decide +kernel), (by decide +kernel), (by decide +kernel), (by decide +kernel)⟩,
    ⟨(31), ({ typ := 0x10, tag := 5, data := [unit0] }), ([]), (((track 31 { tx := { row := 1, resp := [{ typ := 0x10, tag := 5, data := [unit0] }] } }).setFld Fld.TRK_POOL_TX_REQ_FREE 1 31).setFld Fld.TRK_POOL_TX_DATA_FREE 1 31), (by decide +kernel), (by decide +kernel), (by decide +kernel), (by decide +kernel), (by decide +kernel), (by decide +kernel), (by decide +kernel), (by decide +kernel), (by decide +kernel), (by decide +kernel), (by decide +kernel), (by decide +kernel), (by decide +kernel), (by decide +kernel), (by decide +kernel), (by decide +kernel), (by decide +kernel), (by decide +kernel)⟩⟩

/-- The hypotheses of RequestsAtTheTrack can be met. -/
theorem test_RequestsAtTheTrack_hypotheses :
    (∃ (i : Instr) (t : TrackIx) (p : Pkt) (q : Pkt) (s : State), ((i = .rd t p ∧ q = { p with typ := 1 }) ∨ (i = .wr t p ∧ q = { p with typ := 2 }) ∨ (i = .wrm t p ∧ q = { p with typ := 3 }) ∨ (i = .fen t p ∧ q = { p with typ := 4 }) ∨ (i = .rrd t p ∧ q = { p with typ := 5 })) ∧ (s.canTake t q = false)) ∧
    (∃ (t : TrackIx) (p : Pkt) (n : Nat) (s : State), (s.trk t).rx.inbox = [(p, n)]) ∧
    (∃ (i : Instr) (t : TrackIx) (p : Pkt) (q : Pkt) (n : Nat) (s : State) (v : State) (r : Nat), ((i = .rd t p ∧ q = { p with typ := 1 }) ∨ (i = .wr t p ∧ q = { p with typ := 2 }) ∨ (i = .wrm t p ∧ q = { p with typ := 3 })) ∧ (s.canTake t q = true) ∧ (v, n) = s.takeIn t q ∧ (v.badReason t q n = some r)) ∧
    (∃ (i : Instr) (t : TrackIx) (p : Pkt) (q : Pkt) (n : Nat) (s : State) (v : State), ((i = .rd t p ∧ q = { p with typ := 1 }) ∨ (i = .wr t p ∧ q = { p with typ := 2 }) ∨ (i = .wrm t p ∧ q = { p with typ := 3 })) ∧ (s.canTake t q = true) ∧ (v, n) = s.takeIn t q ∧ (v.badReason t q n = none) ∧ (q.len = 0)) ∧
    (∃ (i : Instr) (t : TrackIx) (p : Pkt) (q : Pkt) (n : Nat) (s : State) (v : State) (st : Status), ((i = .rd t p ∧ q = { p with typ := 1 }) ∨ (i = .wr t p ∧ q = { p with typ := 2 }) ∨ (i = .wrm t p ∧ q = { p with typ := 3 })) ∧ (s.canTake t q = true) ∧ (v, n) = s.takeIn t q ∧ (v.badReason t q n = none) ∧ (q.len ≠ 0) ∧ (v.memRefusal t q = some st)) ∧
    (∃ (i : Instr) (t : TrackIx) (p : Pkt) (q : Pkt) (n : Nat) (s : State) (v : State), ((i = .rd t p ∧ q = { p with typ := 1 }) ∨ (i = .wr t p ∧ q = { p with typ := 2 }) ∨ (i = .wrm t p ∧ q = { p with typ := 3 })) ∧ (s.canTake t q = true) ∧ (v, n) = s.takeIn t q ∧ (v.badReason t q n = none) ∧ (q.len ≠ 0) ∧ (v.memRefusal t q = none)) ∧
    (∃ (t : TrackIx) (p : Pkt) (s : State), (p.typ = 1) ∧ (s.fld Fld.TRK_TRAIN_STATUS_MAX_LEN t < p.len.toNat)) ∧
    (∃ (_t : TrackIx) (p : Pkt) (_s : State), (p.typ = 3) ∧ (5 ≤ p.len.toNat)) ∧
    (∃ (_t : TrackIx) (p : Pkt) (_s : State), (p.typ = 2) ∧ (128 < p.addr.toNat % 128 + p.len.toNat)) ∧
    (∃ (_t : TrackIx) (p : Pkt) (s : State), (p.typ = 2) ∧ (p.addr.toNat % 128 + p.len.toNat ≤ 128) ∧ (s.fab.ucHold = false) ∧ (s.fld Fld.GLB_INSTALLED_WAGONS ≤ p.addr.toNat / 128)) ∧
    (∃ (t : TrackIx) (p : Pkt) (q : Pkt) (n : Nat) (s : State) (v : State), (q = { p with typ := 4 }) ∧ (s.canTake t q = true) ∧ (v, n) = s.takeIn t q ∧ (v.badReason t q n = none)) ∧
    (∃ (t : TrackIx) (p : Pkt) (q : Pkt) (n : Nat) (r : Nat) (s : State) (v : State), (q = { p with typ := 4 }) ∧ (s.canTake t q = true) ∧ (v, n) = s.takeIn t q ∧ (v.badReason t q n = some r)) ∧
    (∃ (t : TrackIx) (p : Pkt) (q : Pkt) (n : Nat) (s : State) (v : State), (q = { p with typ := 5 }) ∧ (s.canTake t q = true) ∧ (v, n) = s.takeIn t q ∧ (v.badReason t q n = none) ∧ (v.fenceBefore n = false)) ∧
    (∃ (t : TrackIx) (p : Pkt) (q : Pkt) (n : Nat) (s : State) (v : State), (q = { p with typ := 5 }) ∧ (s.canTake t q = true) ∧ (v, n) = s.takeIn t q ∧ (v.badReason t q n = none) ∧ (v.fenceBefore n = true)) ∧
    (∃ (t : TrackIx) (p : Pkt) (q : Pkt) (n : Nat) (r : Nat) (s : State) (v : State), (q = { p with typ := 5 }) ∧ (s.canTake t q = true) ∧ (v, n) = s.takeIn t q ∧ (v.badReason t q n = some r)) ∧
    (∃ (t : TrackIx) (m : BitVec 6) (f : BufEnt) (g : OpenTag) (s : State), ((s.trk t).ses.buf.find? fun e => e.pkt.master = m && pktType e.pkt.typ = .fen) = some f ∧ (s.openTag f.ord = some g) ∧ (∀ o ∈ s.tags, o.track = g.track → o.master = g.master → o.ord < f.ord → o.zero = false → o.eff = true)) ∧
    (∃ (t : TrackIx) (m : BitVec 6) (f : BufEnt) (g : OpenTag) (o : OpenTag) (s : State), ((s.trk t).ses.buf.find? fun e => e.pkt.master = m && pktType e.pkt.typ = .fen) = some f ∧ (s.openTag f.ord = some g) ∧ (o ∈ s.tags) ∧ (o.track = g.track) ∧ (o.master = g.master) ∧ (o.ord < f.ord) ∧ (o.zero = false) ∧ (o.eff = false)) ∧
    (∃ (t : TrackIx) (m : BitVec 6) (s : State), (∀ e ∈ (s.trk t).ses.buf, e.pkt.master = m → e.pkt.typ ≠ 4)) := by
  refine ⟨⟨(.rd 31 { typ := 1 }), (31), ({ typ := 1 }), ({ typ := 1 }), (State.reset), (by decide +kernel), (by decide +kernel)⟩,
    ⟨(31), ({ typ := 1, tag := 511, master := 63, len := 2, addr := 130 }), (5), (track 31 { rx := { inbox := [({ typ := 1, tag := 511, master := 63, len := 2, addr := 130 }, 5)] } }), (by decide +kernel)⟩,
    ⟨(.wr 31 { typ := 2, len := 9 }), (31), ({ typ := 2, len := 9 }), ({ typ := 2, len := 9 }), (5), (track 31 { rx := { inbox := [({ typ := 2, len := 9 }, 5)] } }), ((track 31 { rx := { inbox := [({ typ := 2, len := 9 }, 5)] } }).modRx 31 fun x => { x with inbox := [] }), (2), (by decide +kernel), (by decide +kernel), (by decide +kernel), (by decide +kernel)⟩,
    ⟨(.rd 31 { typ := 1, tag := 511, master := 63, len := 0 }), (31), ({ typ := 1, tag := 511, master := 63, len := 0 }), ({ typ := 1, tag := 511, master := 63, len := 0 }), (5), ((track 31 { rx := { inbox := [({ typ := 1, tag := 511, master := 63, len := 0 }, 5)] }, ses := {} }).setFld Fld.TRK_TAG_PART_COUNT 512 31 |>.setFld Fld.TRK_TAG_PART_BASE 0 31), (((track 31 { rx := { inbox := [({ typ := 1, tag := 511, master := 63, len := 0 }, 5)] }, ses := {} }).setFld Fld.TRK_TAG_PART_COUNT 512 31 |>.setFld Fld.TRK_TAG_PART_BASE 0 31).modRx 31 fun x => { x with inbox := [] }), (by decide +kernel), (by decide +kernel), (by decide +kernel), (by decide +kernel), (by decide +kernel)⟩,
    ⟨(.rd 31 { typ := 1, tag := 511, master := 63, len := 2, addr := 130 }), (31), ({ typ := 1, tag := 511, master := 63, len := 2, addr := 130 }), ({ typ := 1, tag := 511, master := 63, len := 2, addr := 130 }), (5), ((track 31 { rx := { inbox := [({ typ := 1, tag := 511, master := 63, len := 2, addr := 130 }, 5)] }, ses := {} }).setFld Fld.TRK_TAG_PART_COUNT 512 31 |>.setFld Fld.TRK_TAG_PART_BASE 0 31 |>.setFld Fld.TRK_TRAIN_STATUS_MAX_LEN 1 31), (((track 31 { rx := { inbox := [({ typ := 1, tag := 511, master := 63, len := 2, addr := 130 }, 5)] }, ses := {} }).setFld Fld.TRK_TAG_PART_COUNT 512 31 |>.setFld Fld.TRK_TAG_PART_BASE 0 31 |>.setFld Fld.TRK_TRAIN_STATUS_MAX_LEN 1 31).modRx 31 fun x => { x with inbox := [] }), (.size), (by decide +kernel), (by decide +kernel), (by decide +kernel), (by decide +kernel), (by decide +kernel), (by decide +kernel)⟩,
    ⟨(.rd 31 { typ := 1, tag := 511, master := 63, len := 2, addr := 130 }), (31), ({ typ := 1, tag := 511, master := 63, len := 2, addr := 130 }), ({ typ := 1, tag := 511, master := 63, len := 2, addr := 130 }), (5), ((full.modTrk 31 fun _ => { rx := { inbox := [({ typ := 1, tag := 511, master := 63, len := 2, addr := 130 }, 5)] } }).setFld Fld.TRK_TAG_PART_COUNT 512 31 |>.setFld Fld.TRK_TAG_PART_BASE 0 31 |>.setFld Fld.GLB_INSTALLED_WAGONS 4096 |>.setFld Fld.TRK_TRAIN_STATUS_MAX_LEN 8 31), (((full.modTrk 31 fun _ => { rx := { inbox := [({ typ := 1, tag := 511, master := 63, len := 2, addr := 130 }, 5)] } }).setFld Fld.TRK_TAG_PART_COUNT 512 31 |>.setFld Fld.TRK_TAG_PART_BASE 0 31 |>.setFld Fld.GLB_INSTALLED_WAGONS 4096 |>.setFld Fld.TRK_TRAIN_STATUS_MAX_LEN 8 31).modRx 31 fun x => { x with inbox := [] }), (by decide +kernel), (by decide +kernel), (by decide +kernel), (by decide +kernel), (by decide +kernel), (by decide +kernel)⟩,
    ⟨(31), ({ typ := 1, len := 9 }), ((track 31 {}).setFld Fld.TRK_TRAIN_STATUS_MAX_LEN 8 31), (by decide +kernel), (by decide +kernel)⟩,
    ⟨(31), ({ typ := 3, len := 5 }), (State.reset), (by decide +kernel), (by decide +kernel)⟩,
    ⟨(31), ({ typ := 2, len := 2, addr := 127 }), (State.reset), (by decide +kernel), (by decide +kernel)⟩,
    ⟨(31), ({ typ := 2, len := 1, addr := 201326592 }), (State.reset), (by decide +kernel), (by decide +kernel), (by decide +kernel), (by decide +kernel)⟩,
    ⟨(31), ({ typ := 4, tag := 511 }), ({ typ := 4, tag := 511 }), (5), ((track 31 { rx := { inbox := [({ typ := 4, tag := 511 }, 5)] }, ses := {} }).setFld Fld.TRK_TAG_PART_COUNT 512 31 |>.setFld Fld.TRK_TAG_PART_BASE 0 31), (((track 31 { rx := { inbox := [({ typ := 4, tag := 511 }, 5)] }, ses := {} }).setFld Fld.TRK_TAG_PART_COUNT 512 31 |>.setFld Fld.TRK_TAG_PART_BASE 0 31).modRx 31 fun x => { x with inbox := [] }), (by decide +kernel), (by decide +kernel), (by decide +kernel), (by decide +kernel)⟩,
    ⟨(31), ({ typ := 4, len := 1 }), ({ typ := 4, len := 1 }), (5), (3), (track 31 { rx := { inbox := [({ typ := 4, len := 1 }, 5)] } }), ((track 31 { rx := { inbox := [({ typ := 4, len := 1 }, 5)] } }).modRx 31 fun x => { x with inbox := [] }), (by decide +kernel), (by decide +kernel), (by decide +kernel), (by decide +kernel)⟩,
    ⟨(31), ({ typ := 5, tag := 511 }), ({ typ := 5, tag := 511 }), (5), ((track 31 { rx := { inbox := [({ typ := 5, tag := 511 }, 5)] }, ses := {} }).setFld Fld.TRK_TAG_PART_COUNT 512 31 |>.setFld Fld.TRK_TAG_PART_BASE 0 31), (((track 31 { rx := { inbox := [({ typ := 5, tag := 511 }, 5)] }, ses := {} }).setFld Fld.TRK_TAG_PART_COUNT 512 31 |>.setFld Fld.TRK_TAG_PART_BASE 0 31).modRx 31 fun x => { x with inbox := [] }), (by decide +kernel), (by decide +kernel), (by decide +kernel), (by decide +kernel), (by decide +kernel)⟩,
    ⟨(31), ({ typ := 5, tag := 511 }), ({ typ := 5, tag := 511 }), (5), ({ ((track 31 { rx := { inbox := [({ typ := 5, tag := 511 }, 5)] }, ses := {} }).setFld Fld.TRK_TAG_PART_COUNT 512 31 |>.setFld Fld.TRK_TAG_PART_BASE 0 31) with tags := [{ ord := 1, tag := 1, track := 31, master := 0, fen := true }, { ord := 5, tag := 511, track := 31, master := 0 }] }), ({ (((track 31 { rx := { inbox := [({ typ := 5, tag := 511 }, 5)] }, ses := {} }).setFld Fld.TRK_TAG_PART_COUNT 512 31 |>.setFld Fld.TRK_TAG_PART_BASE 0 31).modRx 31 fun x => { x with inbox := [] }) with tags := [{ ord := 1, tag := 1, track := 31, master := 0, fen := true }, { ord := 5, tag := 511, track := 31, master := 0 }] }), (by decide +kernel), (by decide +kernel), (by decide +kernel), (by decide +kernel), (by decide +kernel)⟩,
    ⟨(31), ({ typ := 5, len := 1 }), ({ typ := 5, len := 1 }), (5), (3), (track 31 { rx := { inbox := [({ typ := 5, len := 1 }, 5)] } }), ((track 31 { rx := { inbox := [({ typ := 5, len := 1 }, 5)] } }).modRx 31 fun x => { x with inbox := [] }), (by decide +kernel), (by decide +kernel), (by decide +kernel), (by decide +kernel)⟩,
    ⟨(31), (63), ({ pkt := { typ := 4, master := 63 }, ord := 2 }), ({ ord := 2, tag := 1, track := 31, master := 63, fen := true }), ({ (track 31 { ses := { buf := [{ pkt := { typ := 4, master := 63 }, ord := 2 }] } }) with tags := [{ ord := 1, tag := 2, track := 31, master := 63, eff := true }, { ord := 2, tag := 1, track := 31, master := 63, fen := true }] }), (by decide +kernel), (by decide +kernel), (by decide +kernel)⟩,
    ⟨(31), (63), ({ pkt := { typ := 4, master := 63 }, ord := 2 }), ({ ord := 2, tag := 1, track := 31, master := 63, fen := true }), ({ ord := 1, tag := 2, track := 31, master := 63, eff := false }), ({ (track 31 { ses := { buf := [{ pkt := { typ := 4, master := 63 }, ord := 2 }] } }) with tags := [{ ord := 1, tag := 2, track := 31, master := 63, eff := false }, { ord := 2, tag := 1, track := 31, master := 63, fen := true }] }), (by decide +kernel), (by decide +kernel), (by decide +kernel), (by decide +kernel), (by decide +kernel), (by decide +kernel), (by decide +kernel), (by decide +kernel)⟩,
    ⟨(31), (63), (State.reset), (by decide +kernel)⟩⟩

/-- The hypotheses of TrainingContents can be met. -/
theorem test_TrainingContents_hypotheses :
    (∃ (t : TrackIx) (_x : TsContent) (_l : BitVec 18) (_k : List Nat) (s : State), (s.resetting = false) ∧ (s.linkIs t .ready = true)) ∧
    (∃ (t : TrackIx) (_x : TsContent) (_l : BitVec 18) (_k : List Nat) (s : State), (s.resetting = false) ∧ (s.linkIs t .down = true)) ∧
    (∃ (t : TrackIx) (_x : TsContent) (_l : BitVec 18) (_k : List Nat) (s : State), (s.resetting = false) ∧ (s.linkIs t .training = true) ∧ (s.fld Fld.TRK_TRAIN_STATUS_PHASE t ≤ 4)) ∧
    (∃ (t : TrackIx) (_x : TsContent) (_l : BitVec 18) (_k : List Nat) (s : State), (s.resetting = true ∨ s.linkIs t .disabled = true)) ∧
    (∃ (t : TrackIx) (_x : TsContent) (_l : BitVec 18) (_k : List Nat) (s : State), (s.inPhase t 4 = true)) ∧
    (∃ (t : TrackIx) (_x : TsContent) (_l : BitVec 18) (_k : List Nat) (s : State), (s.inPhase t 4 = false)) ∧
    (∃ (t : TrackIx) (_x : CapContent) (e : SetIn) (s : State), (s.setIn t .cap = some e)) ∧
    (∃ (t : TrackIx) (_x : SmapContent) (e : SetIn) (s : State), (s.setIn t .smap = some e)) ∧
    (∃ (t : TrackIx) (_x : GrantContent) (e : SetIn) (s : State), (s.setIn t .grant = some e)) ∧
    (∃ (t : TrackIx) (x : CapContent) (s : State), (s.inPhase t 5 = true) ∧ (s.setIn t .cap = none) ∧ (x.version ≠ 1 ∨ x.role = 1 ∨ x.maxLen = 0 ∨ 9 ≤ x.maxLen.toNat)) ∧
    (∃ (t : TrackIx) (x : CapContent) (s : State), (s.inPhase t 5 = true) ∧ (s.setIn t .cap = none) ∧ (x.version = 1) ∧ (x.role ≠ 1) ∧ (x.maxLen ≠ 0) ∧ (x.maxLen.toNat < 9) ∧ (x.ack = false)) ∧
    (∃ (t : TrackIx) (x : CapContent) (m : List Nat) (s : State), (s.inPhase t 5 = true) ∧ (s.setIn t .cap = none) ∧ (x.version = 1) ∧ (x.role ≠ 1) ∧ (x.maxLen ≠ 0) ∧ (x.maxLen.toNat < 9) ∧ (x.ack = true) ∧ (s.proposal t 0 = some m)) ∧
    (∃ (t : TrackIx) (x : CapContent) (s : State), (s.linkIs t .ready = true) ∧ (s.setIn t .cap = none) ∧ (s.trk t).trn.capUpdate = true ∧ (x.update = true) ∧ (x.ack = true)) ∧
    (∃ (t : TrackIx) (x : SmapContent) (s : State), (s.inPhase t 6 = true) ∧ (s.setIn t .smap = none) ∧ (s.proposal t x.unusable.toNat = none)) ∧
    (∃ (t : TrackIx) (x : SmapContent) (m : List Nat) (s : State), (s.inPhase t 6 = true) ∧ (s.setIn t .smap = none) ∧ (s.proposal t x.unusable.toNat = some m) ∧ (x.rxMap.length = 16) ∧ (∀ q ∈ x.rxMap, (s.txBad t).testBit q.val = false) ∧ (x.txMap.map (·.val) = m) ∧ (x.ack = true) ∧ (s.fld Fld.TRK_TRAIN_STATUS_SESSION t = 1 ∨ s.oldHeld t = false)) ∧
    (∃ (t : TrackIx) (x : SmapContent) (m : List Nat) (s : State), (s.inPhase t 6 = true) ∧ (s.setIn t .smap = none) ∧ (s.proposal t x.unusable.toNat = some m) ∧ (x.rxMap.length = 16) ∧ (∀ q ∈ x.rxMap, (s.txBad t).testBit q.val = false) ∧ (x.txMap.map (·.val) = m) ∧ (x.ack = true) ∧ (s.fld Fld.TRK_TRAIN_STATUS_SESSION t ≠ 1) ∧ (s.oldHeld t = true)) ∧
    (∃ (t : TrackIx) (x : GrantContent) (s : State), (s.inPhase t 7 = true) ∧ (s.setIn t .grant = none) ∧ (s.fld Fld.TRK_TRAIN_STATUS_SESSION t ≠ 1) ∧ (x.resume = true)) ∧
    (∃ (t : TrackIx) (x : GrantContent) (s : State), (s.inPhase t 7 = true) ∧ (s.setIn t .grant = none) ∧ (s.fld Fld.TRK_TRAIN_STATUS_SESSION t ≠ 1) ∧ (x.resume = false) ∧ (s.oldHeld t = true)) ∧
    (∃ (t : TrackIx) (x : GrantContent) (s : State), (s.inPhase t 7 = true) ∧ (s.setIn t .grant = none) ∧ (s.fld Fld.TRK_TRAIN_STATUS_SESSION t ≠ 1) ∧ (x.resume = false) ∧ (s.oldHeld t = false) ∧ (x.req.toNat = 0 ∨ x.data.toNat < 8)) ∧
    (∃ (t : TrackIx) (x : GrantContent) (s : State), (s.inPhase t 7 = true) ∧ (s.setIn t .grant = none) ∧ (s.fld Fld.TRK_TRAIN_STATUS_SESSION t ≠ 1) ∧ (x.resume = false) ∧ (s.oldHeld t = false) ∧ (1 ≤ x.req.toNat) ∧ (8 ≤ x.data.toNat) ∧ (x.ack = true)) ∧
    (∃ (t : TrackIx) (x : GrantContent) (s : State), (s.inPhase t 7 = true) ∧ (s.setIn t .grant = none) ∧ (s.fld Fld.TRK_TRAIN_STATUS_SESSION t = 1) ∧ (x.resume = true) ∧ (x.req.toNat = s.fld Fld.TRK_PEER_GRANT_REQ t) ∧ (x.data.toNat = s.fld Fld.TRK_PEER_GRANT_DATA t) ∧ (x.lastValid = false) ∧ (x.ack = true)) ∧
    (∃ (t : TrackIx) (s : State), (s.inPhase t 8 = true) ∧ (s.trk t).trn.rdy = none) ∧
    (∃ (t : TrackIx) (s : State), (s.inPhase t 8 = false)) ∧
    (∃ (t : TrackIx) (s : State), (s.resetting = false) ∧ (s.inPhase t 8 = true) ∧ (s.fld Fld.TRK_LSTATE_TX_STATE t = 2) ∧ (s.trk t).tx.wake = 0 ∧ (0 < (s.trk t).tx.row) ∧ (s.trk t).tx.row < 256 ∧ ((s.trk t).tx.row - 1) % 15 = 14 ∧ (s.trk t).tx.slotLeft = 1 ∧ (s.trk t).tx.slot.typ = SetType.rdy.code ∧ (s.trk t).trn.rdy = some 3 ∧ (s.trk t).trn.lastRx = none) := by
  refine ⟨⟨(31), ({}), (0x3FFFF), ([]), (track 31 {}), (by decide +kernel), (by decide +kernel)⟩,
    ⟨(31), ({}), (0x3FFFF), ([]), ((track 31 {}).setFld Fld.TRK_TRAIN_STATUS_STATE LinkState.down.code 31), (by decide +kernel), (by decide +kernel)⟩,
    ⟨(31), ({}), (0x3FFFF), ([]), (phase 31 4 {}), (by decide +kernel), (by decide +kernel), (by decide +kernel)⟩,
    ⟨(31), ({}), (0x3FFFF), ([]), (State.reset), (by decide +kernel)⟩,
    ⟨(31), ({}), (0x3FFFF), ([]), (phase 31 4 {}), (by decide +kernel)⟩,
    ⟨(31), ({}), (0x3FFFF), ([]), (State.reset), (by decide +kernel)⟩,
    ⟨(31), ({}), ({ typ := SetType.cap.code, ack := true, bytes := [1, 2, 3] }), (phase 31 5 {} |>.modRx 31 fun x => { x with sets := [{ typ := SetType.cap.code, ack := true, bytes := [1, 2, 3] }] }), (by decide +kernel)⟩,
    ⟨(31), ({ rxMap := [], txMap := [] }), ({ typ := SetType.smap.code, ack := true, bytes := [1, 2, 3] }), (phase 31 6 {} |>.modRx 31 fun x => { x with sets := [{ typ := SetType.smap.code, ack := true, bytes := [1, 2, 3] }] }), (by decide +kernel)⟩,
    ⟨(31), ({ resume := false, req := 1, data := 8 }), ({ typ := SetType.grant.code, ack := true, bytes := [1, 2, 3] }), (phase 31 7 {} |>.modRx 31 fun x => { x with sets := [{ typ := SetType.grant.code, ack := true, bytes := [1, 2, 3] }] }), (by decide +kernel)⟩,
    ⟨(31), ({ maxLen := 9 }), (phase 31 5 {}), (by decide +kernel), (by decide +kernel), (by decide +kernel)⟩,
    ⟨(31), ({ ack := false }), (phase 31 5 {}), (by decide +kernel), (by decide +kernel), (by decide +kernel), (by decide +kernel), (by decide +kernel), (by decide +kernel), (by decide +kernel)⟩,
    ⟨(31), ({}), (List.range 16), (phase 31 5 {}), (by decide +kernel), (by decide +kernel), (by decide +kernel), (by decide +kernel), (by decide +kernel), (by decide +kernel), (by decide +kernel), (by decide +kernel)⟩,
    ⟨(31), ({ update := true }), (track 31 { trn := { capUpdate := true } }), (by decide +kernel), (by decide +kernel), (by decide +kernel), (by decide +kernel), (by decide +kernel)⟩,
    ⟨(31), ({ rxMap := [], txMap := [], unusable := 0x3FFFF }), (phase 31 6 {}), (by decide +kernel), (by decide +kernel), (by decide +kernel)⟩,
    ⟨(31), ({ rxMap := [0, 1, 2, 3, 4, 5, 6, 7, 8, 9, 10, 11, 12, 13, 14, 15], txMap := [0, 1, 2, 3, 4, 5, 6, 7, 8, 9, 10, 11, 12, 13, 14, 15] }), (List.range 16), (phase 31 6 {}), (by decide +kernel), (by decide +kernel), (by decide +kernel), (by decide +kernel), (by decide +kernel), (by decide +kernel), (by decide +kernel), (by decide +kernel)⟩,
    ⟨(31), ({ rxMap := [0, 1, 2, 3, 4, 5, 6, 7, 8, 9, 10, 11, 12, 13, 14, 15], txMap := [0, 1, 2, 3, 4, 5, 6, 7, 8, 9, 10, 11, 12, 13, 14, 15] }), (List.range 16), ({ (phase 31 6 { ses := { buf := [buf0] } }) with tags := [{ ord := 9, tag := 1, track := 31, master := 0, void := true }] }), (by decide +kernel), (by decide +kernel), (by decide +kernel), (by decide +kernel), (by decide +kernel), (by decide +kernel), (by decide +kernel), (by decide +kernel), (by decide +kernel)⟩,
    ⟨(31), ({ resume := true, req := 1, data := 8 }), (phase 31 7 {}), (by decide +kernel), (by decide +kernel), (by decide +kernel), (by decide +kernel)⟩,
    ⟨(31), ({ resume := false, req := 1, data := 8 }), ({ (phase 31 7 { ses := { buf := [buf0] } }) with tags := [{ ord := 9, tag := 1, track := 31, master := 0, void := true }] }), (by decide +kernel), (by decide +kernel), (by decide +kernel), (by decide +kernel), (by decide +kernel)⟩,
    ⟨(31), ({ resume := false, req := 1, data := 7 }), (phase 31 7 {}), (by decide +kernel), (by decide +kernel), (by decide +kernel), (by decide +kernel), (by decide +kernel), (by decide +kernel)⟩,
    ⟨(31), ({ resume := false, req := 1, data := 8 }), (phase 31 7 {}), (by decide +kernel), (by decide +kernel), (by decide +kernel), (by decide +kernel), (by decide +kernel), (by decide +kernel), (by decide +kernel), (by decide +kernel)⟩,
    ⟨(31), ({ resume := true, req := 0, data := 0 }), ((phase 31 7 {}).setFld Fld.TRK_TRAIN_STATUS_SESSION 1 31), (by decide +kernel), (by decide +kernel), (by decide +kernel), (by decide +kernel), (by decide +kernel), (by decide +kernel), (by decide +kernel), (by decide +kernel)⟩,
    ⟨(31), (phase 31 8 {}), (by decide +kernel), (by decide +kernel)⟩,
    ⟨(31), (State.reset), (by decide +kernel)⟩,
    ⟨(31), ((phase 31 8 { tx := { row := 15, slotLeft := 1, slot := { typ := SetType.rdy.code } }, trn := { rdy := some 3 } }).setFld Fld.TRK_LSTATE_TX_STATE 2 31), (by decide +kernel), (by decide +kernel), (by decide +kernel), (by decide +kernel), (by decide +kernel), (by decide +kernel), (by decide +kernel), (by decide +kernel), (by decide +kernel), (by decide +kernel), (by decide +kernel)⟩⟩

/-- The hypotheses of TrainingTimersResetsAndFailover can be met. -/
theorem test_TrainingTimersResetsAndFailover_hypotheses :
    (∃ (t : TrackIx) (s : State), (s.linkIs t .training = true) ∧ (4 ≤ s.fld Fld.TRK_TRAIN_STATUS_PHASE t) ∧ (s.fld Fld.TRK_TRAIN_STATUS_PHASE t ≠ 4 ∨ s.phase4Done t = false) ∧ (s.fld Fld.TRK_TRAIN_STATUS_PHASE t ≠ 6 ∨ (s.trk t).trn.agreed = false ∨ s.oldHeld t = false)) ∧
    (∃ (t : TrackIx) (s : State), (s.linkIs t .training = true) ∧ ((s.fld Fld.TRK_TRAIN_STATUS_PHASE t = 4 ∧ s.phase4Done t = true) ∨ (s.fld Fld.TRK_TRAIN_STATUS_PHASE t = 6 ∧ (s.trk t).trn.agreed = true ∧ s.oldHeld t = true))) ∧
    (∃ (t : TrackIx) (s : State), (s.linkIs t .training = true) ∧ (s.fld Fld.TRK_TRAIN_STATUS_PHASE t ≤ 3) ∧ (∀ p < 18, s.fld Fld.TRK_TRAIN_STATUS_PHASE t < s.lanePhase t p) ∧ (s.usableLanes t ≠ [])) ∧
    (∃ (t : TrackIx) (s : State), (s.linkIs t .training = false)) ∧
    (∃ (t : TrackIx) (s : State), (s.linkIs t .down = true) ∧ (s.flag Fld.HLC_TRAIN_CFG_AUTO_RETRY = true) ∧ (s.flag Fld.TRK_TRAIN_CTL_EN t = true) ∧ (s.fld Fld.HLC_TRAIN_CFG_RETRY_PERIOD ≤ (s.trk t).trn.ticks)) ∧
    (∃ (t : TrackIx) (s : State), (s.linkIs t .down = false ∨ s.flag Fld.HLC_TRAIN_CFG_AUTO_RETRY = false ∨ s.flag Fld.TRK_TRAIN_CTL_EN t = false ∨ (s.trk t).trn.ticks < s.fld Fld.HLC_TRAIN_CFG_RETRY_PERIOD)) ∧
    (∃ (_t : TrackIx) (n : Nat) (s : State), (4 ≤ n) ∧ (s.resetting = false) ∧ (s.flag Fld.HLC_LINK_CFG_RESET_ACCEPT = true)) ∧
    (∃ (_t : TrackIx) (n : Nat) (s : State), (4 ≤ n) ∧ (n < 8) ∧ (s.resetting = false) ∧ (s.flag Fld.HLC_LINK_CFG_RESET_ACCEPT = false)) ∧
    (∃ (_t : TrackIx) (c : BitVec 32) (n : Nat) (s : State), (n < 4 ∨ c ≠ 0x50494843 ∨ s.resetting = true)) ∧
    (∃ (t : TrackIx) (_x : FovContent) (e : SetIn) (s : State), (s.setIn t .fov = some e)) ∧
    (∃ (u : TrackIx) (x : FovContent) (s : State), (s.linkIs u .ready = true) ∧ (s.setIn u .fov = none) ∧ (s.fld Fld.HLC_FOV_MAP_PARTNER 0 x.track = u.val) ∧ (x.track ≠ u) ∧ (s.fld Fld.TRK_TRAIN_STATUS_SESSION x.track = 1) ∧ (s.trk x.track).fov.sent = true) ∧
    (∃ (u : TrackIx) (x : FovContent) (s : State), (s.linkIs u .ready = true) ∧ (s.setIn u .fov = none) ∧ (s.fld Fld.HLC_FOV_MAP_PARTNER 0 x.track = u.val) ∧ (x.track ≠ u) ∧ (s.fld Fld.TRK_TRAIN_STATUS_SESSION x.track = 1) ∧ (s.trk x.track).fov.sent = false) ∧
    (∃ (u : TrackIx) (x : FovContent) (s : State), (s.setIn u .fov = none) ∧ (s.linkIs u .ready = false ∨ s.fld Fld.HLC_FOV_MAP_PARTNER 0 x.track ≠ u.val ∨ x.track = u ∨ s.fld Fld.TRK_TRAIN_STATUS_SESSION x.track ≠ 1)) := by
  refine ⟨⟨(31), (phase 31 8 {}), (by decide +kernel), (by decide +kernel), (by decide +kernel), (by decide +kernel)⟩,
    ⟨(31), (phase 31 4 { trn := { deskewed := true, ts2 := 8 } }), (by decide +kernel), (by decide +kernel)⟩,
    ⟨(31), ((phase 31 1 { lanesRx := (List.range 18).map fun p => (p, { settled := true }) })), (by decide +kernel), (by decide +kernel), (by decide +kernel), (by decide +kernel)⟩,
    ⟨(31), (State.reset), (by decide +kernel)⟩,
    ⟨(31), (((track 31 { trn := { ticks := 2 ^ 32 } }).setFld Fld.TRK_TRAIN_STATUS_STATE LinkState.down.code 31).setFld Fld.HLC_TRAIN_CFG_AUTO_RETRY 1 |>.setFld Fld.TRK_TRAIN_CTL_EN 1 31), (by decide +kernel), (by decide +kernel), (by decide +kernel), (by decide +kernel)⟩,
    ⟨(31), (State.reset), (by decide +kernel)⟩,
    ⟨(31), (4), ((track 31 {}).setFld Fld.HLC_LINK_CFG_RESET_ACCEPT 1), (by decide +kernel), (by decide +kernel), (by decide +kernel)⟩,
    ⟨(31), (7), ((track 31 {}).setFld Fld.HLC_LINK_CFG_RESET_ACCEPT 0), (by decide +kernel), (by decide +kernel), (by decide +kernel), (by decide +kernel)⟩,
    ⟨(31), (0x50494843), (3), (State.reset), (by decide +kernel)⟩,
    ⟨(31), ({ track := 0, sRx := 0, counts := {} }), ({ typ := SetType.fov.code, ack := true, bytes := [1, 2, 3] }), ((track 31 {}).modRx 31 fun x => { x with sets := [{ typ := SetType.fov.code, ack := true, bytes := [1, 2, 3] }] }), (by decide +kernel)⟩,
    ⟨(4), ({ track := 0, sRx := 0, counts := {} }), (((track 4 {}).modTrk 0 fun x => { x with fov := { sent := true } }).setFld Fld.TRK_TRAIN_STATUS_SESSION 1 0 |>.setFld Fld.HLC_FOV_MAP_PARTNER 4 0 0), (by decide +kernel), (by decide +kernel), (by decide +kernel), (by decide +kernel), (by decide +kernel), (by decide +kernel)⟩,
    ⟨(4), ({ track := 0, sRx := 0, counts := {} }), (((track 4 {}).modTrk 0 fun x => { x with fov := { sent := false } }).setFld Fld.TRK_TRAIN_STATUS_SESSION 1 0 |>.setFld Fld.HLC_FOV_MAP_PARTNER 4 0 0), (by decide +kernel), (by decide +kernel), (by decide +kernel), (by decide +kernel), (by decide +kernel), (by decide +kernel)⟩,
    ⟨(4), ({ track := 0, sRx := 0, counts := {} }), (State.reset), (by decide +kernel), (by decide +kernel)⟩⟩

/-- The hypotheses of Census can be met. -/
theorem test_Census_hypotheses :
    (∃ (s : State), (s.cenTicks < s.fld Fld.HLC_CENSUS_CFG_INTERVAL)) ∧
    (∃ (s : State), (s.fld Fld.HLC_CENSUS_CFG_INTERVAL ≤ s.cenTicks) ∧ (s.flag Fld.HLC_CENSUS_CFG_EN = false)) ∧
    (∃ (s : State), (s.fld Fld.HLC_CENSUS_CFG_INTERVAL ≤ s.cenTicks) ∧ (s.flag Fld.HLC_CENSUS_CFG_EN = true)) ∧
    (∃ (t : TrackIx) (s : State), (s.trk t).cen.waiting = true ∧ (s.trk t).cen.cut.isSome = true ∧ (16 ≤ (s.trk t).cen.blocks) ∧ (SetReq.cen ∉ (s.trk t).trn.queue)) ∧
    (∃ (t : TrackIx) (s : State), ((s.trk t).cen.waiting = false ∨ (s.trk t).cen.cut = none ∨ (s.trk t).cen.blocks < 16)) ∧
    (∃ (t : TrackIx) (_x : CenContent) (e : SetIn) (s : State), (s.setIn t .cen = some e)) ∧
    (∃ (t : TrackIx) (x : CenContent) (r : BitVec 32 × BitVec 32 × BitVec 32) (s : State), (s.trk t).cen.waiting = true ∧ (s.linkIs t .ready = true) ∧ (s.setIn t .cen = none) ∧ (x.round.toNat = s.fld Fld.TRK_CENSUS_STATUS_ROUND t) ∧ (s.hasAccepted t x.sTx = true) ∧ (recAt (s.trk t).ses.rxRec x.sTx = some r) ∧ (s.trk t).cen.ok = true ∧ (recAt (s.trk t).ses.txRec x.sRx = some (x.counts.rxr, x.counts.rxd, x.counts.acc)) ∧ (r = (x.counts.rrr, x.counts.rrd, x.counts.iss))) ∧
    (∃ (t : TrackIx) (x : CenContent) (r : BitVec 32 × BitVec 32 × BitVec 32) (s : State), (s.trk t).cen.waiting = true ∧ (s.linkIs t .ready = true) ∧ (s.setIn t .cen = none) ∧ (x.round.toNat = s.fld Fld.TRK_CENSUS_STATUS_ROUND t) ∧ (s.hasAccepted t x.sTx = true) ∧ (recAt (s.trk t).ses.rxRec x.sTx = some r) ∧ ((s.trk t).cen.ok = false ∨ recAt (s.trk t).ses.txRec x.sRx ≠ some (x.counts.rxr, x.counts.rxd, x.counts.acc) ∨ r ≠ (x.counts.rrr, x.counts.rrd, x.counts.iss))) ∧
    (∃ (t : TrackIx) (x : CenContent) (s : State), (s.trk t).cen.waiting = true ∧ (s.linkIs t .ready = true) ∧ (s.setIn t .cen = none) ∧ (x.round.toNat = s.fld Fld.TRK_CENSUS_STATUS_ROUND t) ∧ (s.hasAccepted t x.sTx = false)) ∧
    (∃ (t : TrackIx) (x : CenContent) (s : State), (s.setIn t .cen = none) ∧ ((s.trk t).cen.waiting = false ∨ s.linkIs t .ready = false ∨ x.round.toNat ≠ s.fld Fld.TRK_CENSUS_STATUS_ROUND t)) ∧
    (∃ (t : TrackIx) (s : State), (s.trk t).cen.waiting = true ∧ (s.trk t).cen.cut.isSome = true ∧ (s.trk t).cen.got = none ∧ (s.fld Fld.HLC_CENSUS_CFG_REPLY ≤ (s.trk t).cen.ticks) ∧ (s.trk t).cen.timeouts = 0) ∧
    (∃ (t : TrackIx) (s : State), (s.trk t).cen.waiting = true ∧ (s.trk t).cen.cut.isSome = true ∧ (s.trk t).cen.got = none ∧ (s.fld Fld.HLC_CENSUS_CFG_REPLY ≤ (s.trk t).cen.ticks) ∧ (s.trk t).cen.timeouts = 1) ∧
    (∃ (t : TrackIx) (s : State), ((s.trk t).cen.waiting = false ∨ (s.trk t).cen.cut = none ∨ (s.trk t).cen.got.isSome = true ∨ (s.trk t).cen.ticks < s.fld Fld.HLC_CENSUS_CFG_REPLY)) := by
  refine ⟨⟨((track 31 {}).setFld Fld.HLC_CENSUS_CFG_INTERVAL 1), (by decide +kernel)⟩,
    ⟨({ ((track 31 {}).setFld Fld.HLC_CENSUS_CFG_EN 0) with cenTicks := 2 ^ 32 }), (by decide +kernel), (by decide +kernel)⟩,
    ⟨({ ((track 31 {}).setFld Fld.HLC_CENSUS_CFG_EN 1) with cenTicks := 2 ^ 32 }), (by decide +kernel), (by decide +kernel)⟩,
    ⟨(31), (track 31 { cen := { cut := some cen0, waiting := true, blocks := 16 } }), (by decide +kernel), (by decide +kernel), (by decide +kernel), (by decide +kernel)⟩,
    ⟨(31), (State.reset), (by decide +kernel)⟩,
    ⟨(31), (cen0), ({ typ := SetType.cen.code, ack := true, bytes := [1, 2, 3] }), (track 31 {} |>.modRx 31 fun x => { x with sets := [{ typ := SetType.cen.code, ack := true, bytes := [1, 2, 3] }] }), (by decide +kernel)⟩,
    ⟨(31), (cen0), ((0, 0, 0)), ((track 31 { cen := { waiting := true }, ses := { rxRec := [{ seq := 0, a := 0, b := 0, c := 0 }], txRec := [{ seq := 0, a := 0, b := 0, c := 0 }] } }) |>.setFld Fld.TRK_PKT_SEQ_RX_LAST 0 31), (by decide +kernel), (by decide +kernel), (by decide +kernel), (by decide +kernel), (by decide +kernel), (by decide +kernel), (by decide +kernel), (by decide +kernel), (by decide +kernel)⟩,
    ⟨(31), (cen0), ((1, 0, 0)), ((track 31 { cen := { waiting := true }, ses := { rxRec := [{ seq := 0, a := 1, b := 0, c := 0 }], txRec := [{ seq := 0, a := 0, b := 0, c := 0 }] } }) |>.setFld Fld.TRK_PKT_SEQ_RX_LAST 0 31), (by decide +kernel), (by decide +kernel), (by decide +kernel), (by decide +kernel), (by decide +kernel), (by decide +kernel), (by decide +kernel)⟩,
    ⟨(31), ({ cen0 with sTx := 1 }), ((track 31 { cen := { waiting := true }, ses := { rxRec := [{ seq := 0, a := 0, b := 0, c := 0 }], txRec := [{ seq := 0, a := 0, b := 0, c := 0 }] } }) |>.setFld Fld.TRK_PKT_SEQ_RX_LAST 0 31), (by decide +kernel), (by decide +kernel), (by decide +kernel), (by decide +kernel), (by decide +kernel)⟩,
    ⟨(31), (cen0), (State.reset), (by decide +kernel), (by decide +kernel)⟩,
    ⟨(31), (track 31 { cen := { waiting := true, cut := some cen0, ticks := 2 ^ 32 } }), (by decide +kernel), (by decide +kernel), (by decide +kernel), (by decide +kernel), (by decide +kernel)⟩,
    ⟨(31), (track 31 { cen := { waiting := true, cut := some cen0, ticks := 2 ^ 32, timeouts := 1 } }), (by decide +kernel), (by decide +kernel), (by decide +kernel), (by decide +kernel), (by decide +kernel)⟩,
    ⟨(31), (State.reset), (by decide +kernel)⟩⟩

/-- The hypotheses of ReadTrainsAndDecoders can be met. -/
theorem test_ReadTrainsAndDecoders_hypotheses :
    (∃ (c : ChanIx) (_x : RdArrival) (s : State), (s.dataShut c = true)) ∧
    (∃ (c : ChanIx) (x : RdArrival) (s : State), (s.dataShut c = false) ∧ (arrivalOf (s.rxSet c x) = .missed)) ∧
    (∃ (c : ChanIx) (x : RdArrival) (sl : RdSlot) (t : Train) (l : TLine) (e : Ent) (j : LineJob) (s : State), (s.dataShut c = false) ∧ (arrivalOf (s.rxSet c x) = .delivered) ∧ (x.cal = false) ∧ (x.slots = [sl]) ∧ (s.chan c).out = [t] ∧ (t.write = false) ∧ (t.tid = x.tid.val) ∧ (t.lines = [l]) ∧ (l.use = .host) ∧ (l.ix = 0) ∧ (s.chan c).q = [e] ∧ (e.ord = l.ord) ∧ (e.kind = .rd) ∧ (e.res = none) ∧ (e.lines = [j]) ∧ (controlGood sl.ctl t.tid = true) ∧ (lineSyndrome sl.code = (0, 0)) ∧ (s.erasedIn c 0 (s.rxSet c x) = false) ∧ (checkLine (codeLine sl.code) = (.clean, .clean, codeLine sl.code))) ∧
    (∃ (c : ChanIx) (x : RdArrival) (t : Train) (s : State) (v : State), (s.dataShut c = false) ∧ (arrivalOf (s.rxSet c x) = .delivered) ∧ (x.cal = false) ∧ (x.slots = []) ∧ (s.chan c).out = [t] ∧ (t.write = false) ∧ (t.tid = x.tid.val) ∧ (t.lines ≠ []) ∧ (v = (s.rxSet c x).foldl (fun (s : State) r => s.noteCol c true r) (s.bump Fld.VLQ_CNT_COUNT (c.val / 16) 0))) ∧
    (∃ (c : ChanIx) (x : RdArrival) (s : State) (v : State), (s.dataShut c = false) ∧ (arrivalOf (s.rxSet c x) = .delivered) ∧ (x.cal = false) ∧ (s.chan c).out = [] ∧ (v = (s.rxSet c x).foldl (fun (s : State) r => s.noteCol c true r) (s.bump Fld.VLQ_CNT_COUNT (c.val / 16) 0))) ∧
    (∃ (c : ChanIx) (x : RdArrival) (s : State), (s.dataShut c = false) ∧ (arrivalOf (s.rxSet c x) = .captured) ∧ (x.cal = false)) ∧
    (∃ (c : ChanIx) (x : RdArrival) (t : Train) (s : State) (v : State), (s.dataShut c = false) ∧ (arrivalOf (s.rxSet c x) = .collided) ∧ (x.cal = false) ∧ (s.chan c).out = [t] ∧ (t.write = false) ∧ (t.tid = x.tid.val) ∧ (v = (s.rxSet c x).foldl (fun (s : State) r => s.noteCol c false r) ((s.bump Fld.VLQ_CNT_COUNT (c.val / 16) 0).bump Fld.VLQ_CNT_COUNT (c.val / 16) 3))) ∧
    (∃ (c : ChanIx) (n : Fin 32) (t : Train) (s : State), (s.chan c).out = [t] ∧ (t.write = false) ∧ (t.tid = n.val) ∧ (t.lands + 8 * s.fld Fld.LAY_XCFG_RD_SLACK (layIx c) ≤ 15 * s.cc)) ∧
    (∃ (c : ChanIx) (n : Fin 32) (s : State), (∀ t ∈ (s.chan c).out, t.write = true ∨ t.tid ≠ n.val ∨ 15 * s.cc < t.lands + 8 * s.fld Fld.LAY_XCFG_RD_SLACK (layIx c))) ∧
    (∃ (d : Fin 18) (_r : Option (BitVec 576)) (_k : Nat) (s : State), (Store.find s.codec.busy d.val = none)) ∧
    (∃ (d : Fin 18) (y : BitVec 576) (k : Nat) (j : CodecJob) (s : State) (u : State), (Store.find s.codec.busy d.val = some j) ∧ (u = ((({ s with codec := { s.codec with busy := Store.del s.codec.busy d.val } } : State).bump Fld.INT_CODEC_CNT_COUNT 0 1 (min k (s.fld Fld.INT_CODEC_CFG_MAX_ITER))).bump Fld.INT_CODEC_CNT_COUNT 0 2).lineIn j.chan j.train j.line y)) ∧
    (∃ (d : Fin 18) (k : Nat) (j : CodecJob) (e : Option Ent) (s : State) (v : State) (u : State), (Store.find s.codec.busy d.val = some j) ∧ (v = (({ s with codec := { s.codec with busy := Store.del s.codec.busy d.val } } : State).bump Fld.INT_CODEC_CNT_COUNT 0 1 (min k (s.fld Fld.INT_CODEC_CFG_MAX_ITER))).bump Fld.INT_CODEC_CNT_COUNT 0 3) ∧ (e = (v.chan j.chan).ent j.line.ord) ∧ (u = v.raise .vlDecodeFail j.chan { lineInfo j.chan j.train.bank j.train.row j.line.col 1 (j.chan * 2 ^ 6) e with access := if e.isSome then 1 else 4 })) ∧
    (∃ (d : Fin 18) (s : State), (s.fld Fld.INT_CODEC_STATUS_ACTIVE).testBit d.val = true ∧ (Store.find s.codec.busy d.val = none) ∧ (d.val ∉ s.codec.removed)) := by
  refine ⟨⟨(0), ({}), (engine 0 { shut := [(0, 100)] }), (by decide +kernel)⟩,
    ⟨(0), ({}), (engine 0 {}), (by decide +kernel), (by decide +kernel)⟩,
    ⟨(0), ({ tid := 5, slots := [slot0], cols := (List.range 56).map fun n => { col := Fin.ofNat 64 n } }), (slot0), (rdTrain), (rdLine), ({ ent0 with lines := [job0] }), (job0), (engine 0 { out := [rdTrain], q := [{ ent0 with lines := [job0] }] }), (by decide +kernel), (by decide +kernel), (by decide +kernel), (by decide +kernel), (by decide +kernel), (by decide +kernel), (by decide +kernel), (by decide +kernel), (by decide +kernel), (by decide +kernel), (by decide +kernel), (by decide +kernel), (by decide +kernel), (by decide +kernel), (by decide +kernel), (by decide +kernel), (by decide +kernel), (by decide +kernel), (by decide +kernel)⟩,
    ⟨(0), ({ tid := 5, cols := (List.range 56).map fun n => { col := Fin.ofNat 64 n } }), (rdTrain), (engine 0 { out := [rdTrain], q := [{ ent0 with lines := [job0] }] }), ((((engine 0 { out := [rdTrain], q := [{ ent0 with lines := [job0] }] }).rxSet 0 { tid := 5, cols := (List.range 56).map fun n => { col := Fin.ofNat 64 n } }).foldl (fun (s : State) r => s.noteCol 0 true r) ((engine 0 { out := [rdTrain], q := [{ ent0 with lines := [job0] }] }).bump Fld.VLQ_CNT_COUNT 0 0))), (by decide +kernel), (by decide +kernel), (by decide +kernel), (by decide +kernel), (by decide +kernel), (by decide +kernel), (by decide +kernel), (by decide +kernel), (rfl)⟩,
    ⟨(0), ({ tid := 5, cols := (List.range 56).map fun n => { col := Fin.ofNat 64 n } }), (engine 0 {}), ((((engine 0 {}).rxSet 0 { tid := 5, cols := (List.range 56).map fun n => { col := Fin.ofNat 64 n } }).foldl (fun (s : State) r => s.noteCol 0 true r) ((engine 0 {}).bump Fld.VLQ_CNT_COUNT 0 0))), (by decide +kernel), (by decide +kernel), (by decide +kernel), (by decide +kernel), (rfl)⟩,
    ⟨(0), ({ cols := [{ col := 0, second := some 79 }] }), (engine 0 {}), (by decide +kernel), (by decide +kernel), (by decide +kernel)⟩,
    ⟨(0), ({ tid := 5, cols := [{ col := 0, second := some 80 }] }), (rdTrain), (engine 0 { out := [rdTrain], q := [{ ent0 with lines := [job0] }] }), (((engine 0 { out := [rdTrain], q := [{ ent0 with lines := [job0] }] }).rxSet 0 { tid := 5, cols := [{ col := 0, second := some 80 }] }).foldl (fun (s : State) r => s.noteCol 0 false r) (((engine 0 { out := [rdTrain], q := [{ ent0 with lines := [job0] }] }).bump Fld.VLQ_CNT_COUNT 0 0).bump Fld.VLQ_CNT_COUNT 0 3)), (by decide +kernel), (by decide +kernel), (by decide +kernel), (by decide +kernel), (by decide +kernel), (by decide +kernel), (rfl)⟩,
    ⟨(0), (5), (rdTrain), ({ (engine 0 { out := [rdTrain] }) with cc := 10000 }), (by decide +kernel), (by decide +kernel), (by decide +kernel), (by decide +kernel)⟩,
    ⟨(0), (31), (engine 0 { out := [rdTrain] }), (by decide +kernel)⟩,
    ⟨(17), (none), (0), (State.reset), (by decide +kernel)⟩,
    ⟨(17), (0), (9), (codec0), ({ State.reset with codec := { busy := [(17, codec0)] } }), (((({ State.reset with codec := { busy := [] } } : State).bump Fld.INT_CODEC_CNT_COUNT 0 1 (min 9 (State.reset.fld Fld.INT_CODEC_CFG_MAX_ITER))).bump Fld.INT_CODEC_CNT_COUNT 0 2).lineIn 17 rdTrain rdLine 0), (by decide +kernel), (rfl)⟩,
    ⟨(17), (9), (codec0), (none), ({ State.reset with codec := { busy := [(17, codec0)] } }), (((({ State.reset with codec := { busy := [] } } : State).bump Fld.INT_CODEC_CNT_COUNT 0 1 (min 9 (State.reset.fld Fld.INT_CODEC_CFG_MAX_ITER))).bump Fld.INT_CODEC_CNT_COUNT 0 3)), (((({ State.reset with codec := { busy := [] } } : State).bump Fld.INT_CODEC_CNT_COUNT 0 1 (min 9 (State.reset.fld Fld.INT_CODEC_CFG_MAX_ITER))).bump Fld.INT_CODEC_CNT_COUNT 0 3).raise .vlDecodeFail 17 { lineInfo 17 31 24575 31 1 (17 * 2 ^ 6) none with access := 4 }), (by decide +kernel), (rfl), (rfl), (rfl)⟩,
    ⟨(15), ((State.reset).setFld Fld.INT_CODEC_STATUS_ACTIVE 0xFFFF), (by decide +kernel), (by decide +kernel), (by decide +kernel)⟩⟩

/-- The hypotheses of WriteTrainAcknowledgements can be met. -/
theorem test_WriteTrainAcknowledgements_hypotheses :
    (∃ (c : ChanIx) (_b : BankIx) (_n : Fin 32) (s : State), (s.cmdShut c = true)) ∧
    (∃ (c : ChanIx) (b : BankIx) (n : Fin 32) (t : Train) (l : TLine) (e : Ent) (j : LineJob) (s : State), (s.cmdShut c = false) ∧ (s.chan c).out = [t] ∧ (t.write = true) ∧ (t.tid = n.val) ∧ (t.bank = b.val) ∧ (t.job = 0) ∧ (t.lines = [l]) ∧ (l.use = .host) ∧ (l.ix = 0) ∧ (s.chan c).q = [e] ∧ (e.ord = l.ord) ∧ (e.kind = .wr) ∧ (e.res = none) ∧ (e.lines = [j])) ∧
    (∃ (c : ChanIx) (b : BankIx) (n : Fin 32) (s : State), (s.cmdShut c = false) ∧ (∀ t ∈ (s.chan c).out, t.write = false ∨ t.tid ≠ n.val ∨ t.bank ≠ b.val)) ∧
    (∃ (c : ChanIx) (b : BankIx) (n : Fin 32) (_r : Fin 8) (t : Train) (s : State), (s.cmdShut c = false) ∧ (s.chan c).out = [t] ∧ (t.write = true) ∧ (t.tid = n.val) ∧ (t.bank = b.val)) ∧
    (∃ (c : ChanIx) (n : Fin 32) (t : Train) (s : State), (s.chan c).out = [t] ∧ (t.write = true) ∧ (t.tid = n.val) ∧ (t.lands + 8 * s.fld Fld.LAY_XCFG_ACK_SLACK (layIx c) ≤ 15 * s.cc)) ∧
    (∃ (c : ChanIx) (n : Fin 32) (s : State), (∀ t ∈ (s.chan c).out, t.write = false ∨ t.tid ≠ n.val ∨ 15 * s.cc < t.lands + 8 * s.fld Fld.LAY_XCFG_ACK_SLACK (layIx c))) ∧
    (∃ (c : ChanIx) (t : Train) (s : State), (s.chan c).out = [t] ∧ (s.chan c).failed + 1 < s.fld Fld.LAY_XCFG_REISSUE_LIMIT (layIx c) ∧ (t.lines.filter (s.wanted c) ≠ [])) := by
  refine ⟨⟨(0), (31), (5), (engine 0 { cmdShut := [(0, 100)] }), (by decide +kernel)⟩,
    ⟨(0), (31), (5), (wrTrain), (wrLine), ({ ent0 with kind := .wr, lines := [job0] }), (job0), (engine 0 { out := [wrTrain], q := [{ ent0 with kind := .wr, lines := [job0] }] }), (by decide +kernel), (by decide +kernel), (by decide +kernel), (by decide +kernel), (by decide +kernel), (by decide +kernel), (by decide +kernel), (by decide +kernel), (by decide +kernel), (by decide +kernel), (by decide +kernel), (by decide +kernel), (by decide +kernel), (by decide +kernel)⟩,
    ⟨(0), (31), (5), (engine 0 { out := [rdTrain] }), (by decide +kernel), (by decide +kernel)⟩,
    ⟨(0), (31), (5), (7), (wrTrain), (engine 0 { out := [wrTrain] }), (by decide +kernel), (by decide +kernel), (by decide +kernel), (by decide +kernel), (by decide +kernel)⟩,
    ⟨(0), (5), (wrTrain), ({ (engine 0 { out := [wrTrain] }) with cc := 10000 }), (by decide +kernel), (by decide +kernel), (by decide +kernel), (by decide +kernel)⟩,
    ⟨(0), (5), (engine 0 { out := [rdTrain] }), (by decide +kernel)⟩,
    ⟨(0), (wrTrain), ((engine 0 { out := [wrTrain], q := [{ ent0 with kind := .wr, lines := [job0] }] }).setFld Fld.LAY_XCFG_REISSUE_LIMIT 3 0), (by decide +kernel), (by decide +kernel), (by decide +kernel)⟩⟩

/-- The hypotheses of CoreDieAnswers can be met. -/
theorem test_CoreDieAnswers_hypotheses :
    (∃ (b : ChanIx) (s : State), (s.cmdShut b = true)) ∧
    (∃ (b : ChanIx) (s : State), (s.cmdShut b = false) ∧ (s.cfgHead b = none)) ∧
    (∃ (b : ChanIx) (s : State), (s.cfgHead b = none)) ∧
    (∃ (b : ChanIx) (l : LayerIx) (k : CfgCmd) (s : State), (s.cmdShut b = false) ∧ (s.vert.cfg = [k]) ∧ (k.bundle = b.val) ∧ (k.op = 0x10) ∧ (l.val = k.layer) ∧ (k.head = false)) ∧
    (∃ (b : ChanIx) (l : LayerIx) (k : CfgCmd) (s : State), (s.cmdShut b = false) ∧ (s.vert.cfg = [k]) ∧ (k.bundle = b.val) ∧ (k.op = 0x10) ∧ (l.val = k.layer) ∧ (k.head = false) ∧ (k.use = .other)) ∧
    (∃ (b : ChanIx) (k : CfgCmd) (_v : BitVec 32) (s : State), (s.cmdShut b = false) ∧ (s.vert.cfg = [k]) ∧ (k.bundle = b.val) ∧ (k.head = true) ∧ (k.got.length + 1 < k.count)) ∧
    (∃ (b : ChanIx) (k : CfgCmd) (_v : BitVec 32) (l : Nat) (s : State), (s.cmdShut b = false) ∧ (s.vert.cfg = [k]) ∧ (k.bundle = b.val) ∧ (k.head = true) ∧ (k.count ≤ k.got.length + 1) ∧ (k.use = .gains l)) ∧
    (∃ (b : ChanIx) (k : CfgCmd) (l : LayerIx) (o : BitVec 5) (_d : BitVec 16) (_f : Bool) (s : State), (s.cmdShut b = false) ∧ (s.vert.cfg = [k]) ∧ (k.bundle = b.val) ∧ (k.op = o.toNat) ∧ (k.layer = l.val) ∧ (k.use = .other)) ∧
    (∃ (b : ChanIx) (k : CfgCmd) (l : LayerIx) (o : BitVec 5) (_d : BitVec 16) (x : Nat) (y : Nat) (z : Nat) (s : State), (s.cmdShut b = false) ∧ (s.vert.cfg = [k]) ∧ (k.bundle = b.val) ∧ (k.op = o.toNat) ∧ (k.layer = l.val) ∧ (k.use = .switch x y z)) ∧
    (∃ (b : ChanIx) (k : CfgCmd) (s : State), (s.vert.cfg = [k]) ∧ (k.bundle = b.val) ∧ (k.use = .other) ∧ (k.tries < 3)) ∧
    (∃ (b : ChanIx) (k : CfgCmd) (s : State), (s.vert.cfg = [k]) ∧ (k.bundle = b.val) ∧ (k.use = .other) ∧ (3 ≤ k.tries)) ∧
    (∃ (b : ChanIx) (_l : LayerIx) (_o : BitVec 5) (_n : Bool) (k : CfgCmd) (s : State) (u : State), (s.cmdShut b = false) ∧ (u = (s.bump Fld.LAY_CNT_COUNT (layIx b) 1).raise .vlCmdErr b (vlDetail b)) ∧ (u.cfgHead b = some k)) ∧
    (∃ (b : ChanIx) (l : LayerIx) (n : Byte) (a : Byte) (d : BitVec 12) (s : State) (u : State), (s.cmdShut b = false) ∧ (u = (((((s.launch b [(0x18, l.val + 16 * n.toNat)]).setFld Fld.LAY_ALARM_NUMBER n.toNat l).setFld Fld.LAY_ALARM_CAUSE a.toNat l).setFld Fld.LAY_ALARM_DETAIL d.toNat l)).repeatRefresh b) ∧ (Store.get u.vert.alarms l 0 = n.toNat + 1)) ∧
    (∃ (b : ChanIx) (l : LayerIx) (n : Byte) (a : Byte) (d : BitVec 12) (s : State) (u : State), (s.cmdShut b = false) ∧ (u = (((((s.launch b [(0x18, l.val + 16 * n.toNat)]).setFld Fld.LAY_ALARM_NUMBER n.toNat l).setFld Fld.LAY_ALARM_CAUSE a.toNat l).setFld Fld.LAY_ALARM_DETAIL d.toNat l)).repeatRefresh b) ∧ (Store.get u.vert.alarms l 0 ≠ n.toNat + 1)) := by
  refine ⟨⟨(63), (engine 63 { cmdShut := [(0, 100)] }), (by decide +kernel)⟩,
    ⟨(63), (State.reset), (by decide +kernel), (by decide +kernel)⟩,
    ⟨(63), (State.reset), (by decide +kernel)⟩,
    ⟨(63), (15), (cfg0), ({ State.reset with vert := { cfg := [cfg0] } }), (by decide +kernel), (by decide +kernel), (by decide +kernel), (by decide +kernel), (by decide +kernel), (by decide +kernel)⟩,
    ⟨(63), (15), (cfg0), ({ State.reset with vert := { cfg := [cfg0] } }), (by decide +kernel), (by decide +kernel), (by decide +kernel), (by decide +kernel), (by decide +kernel), (by decide +kernel), (by decide +kernel)⟩,
    ⟨(63), ({ cfg0 with head := true, count := 2 }), (7), ({ State.reset with vert := { cfg := [{ cfg0 with head := true, count := 2 }] } }), (by decide +kernel), (by decide +kernel), (by decide +kernel), (by decide +kernel), (by decide +kernel)⟩,
    ⟨(63), ({ cfg0 with head := true, count := 1, use := .gains 15 }), (7), (15), ({ State.reset with vert := { cfg := [{ cfg0 with head := true, count := 1, use := .gains 15 }] } }), (by decide +kernel), (by decide +kernel), (by decide +kernel), (by decide +kernel), (by decide +kernel), (by decide +kernel)⟩,
    ⟨(63), ({ cfg0 with op := 0x11 }), (15), (0x11), (0), (false), ({ State.reset with vert := { cfg := [{ cfg0 with op := 0x11 }] } }), (by decide +kernel), (by decide +kernel), (by decide +kernel), (by decide +kernel), (by decide +kernel), (by decide +kernel)⟩,
    ⟨(63), ({ cfg0 with op := 0x11, use := .switch 63 1 2 }), (15), (0x11), (0), (63), (1), (2), ({ State.reset with vert := { cfg := [{ cfg0 with op := 0x11, use := .switch 63 1 2 }] } }), (by decide +kernel), (by decide +kernel), (by decide +kernel), (by decide +kernel), (by decide +kernel), (by decide +kernel)⟩,
    ⟨(63), (cfg0), ({ State.reset with vert := { cfg := [cfg0] } }), (by decide +kernel), (by decide +kernel), (by decide +kernel), (by decide +kernel)⟩,
    ⟨(63), ({ cfg0 with tries := 3 }), ({ State.reset with vert := { cfg := [{ cfg0 with tries := 3 }] } }), (by decide +kernel), (by decide +kernel), (by decide +kernel), (by decide +kernel)⟩,
    ⟨(63), (15), (0x10), (true), (cfg0), ({ State.reset with vert := { cfg := [cfg0] } }), ((({ State.reset with vert := { cfg := [cfg0] } }).bump Fld.LAY_CNT_COUNT 15 1).raise .vlCmdErr 63 (vlDetail 63)), (by decide +kernel), (rfl), (by decide +kernel)⟩,
    ⟨(63), (15), (0), (1), (0), ({ State.reset with vert := { alarms := [(15, 1)] } }), (((((({ State.reset with vert := { alarms := [(15, 1)] } } : State).launch 63 [(0x18, 15)]).setFld Fld.LAY_ALARM_NUMBER 0 15).setFld Fld.LAY_ALARM_CAUSE 1 15).setFld Fld.LAY_ALARM_DETAIL 0 15).repeatRefresh 63), (by decide +kernel), (rfl), (by decide +kernel)⟩,
    ⟨(63), (15), (0), (1), (0), (State.reset), (((((State.reset.launch 63 [(0x18, 15)]).setFld Fld.LAY_ALARM_NUMBER 0 15).setFld Fld.LAY_ALARM_CAUSE 1 15).setFld Fld.LAY_ALARM_DETAIL 0 15).repeatRefresh 63), (by decide +kernel), (rfl), (by decide +kernel)⟩⟩

/-- The hypotheses of GearsAndCollisionWindows can be met. -/
theorem test_GearsAndCollisionWindows_hypotheses :
    (∃ (q : QuadIx) (s : State), (s.fld Fld.VLQ_COLL_CFG_WINDOW q ≤ Store.get s.vert.coll q 0)) ∧
    (∃ (q : QuadIx) (s : State), (Store.get s.vert.coll q 0 < s.fld Fld.VLQ_COLL_CFG_WINDOW q)) ∧
    (∃ (q : QuadIx) (_far : List GearCount) (s : State), (∀ i < 16, (s.bund (16 * q.val + i)).up = false ∨ (s.bund (16 * q.val + i)).win < s.fld Fld.VLQ_GEAR_CFG_WINDOW q)) ∧
    (∃ (q : QuadIx) (j : Fin 16) (n : ColIx) (b : Nat) (_far : List GearCount) (s : State), (b = 16 * q.val + j.val) ∧ (∀ i < 16, i ≠ j.val → (s.bund (16 * q.val + i)).up = false) ∧ (s.bund b).up = true ∧ (s.fld Fld.VLQ_GEAR_CFG_WINDOW q ≤ (s.bund b).win) ∧ (s.col Fld.VLQ_COL_ROLE b n = 0) ∧ (s.col Fld.VLQ_COL_GEAR b n ≠ 0) ∧ (∀ m < 64, m ≠ n.val → s.col Fld.VLQ_COL_ROLE b m ≠ 0 ∨ s.col Fld.VLQ_COL_GEAR b m = 0)) ∧
    (∃ (q : QuadIx) (s : State), (s.flag Fld.VLQ_CTL_GEAR_FREEZE q = true) ∧ (s.fld Fld.VLQ_CAL_CFG_MIN_CHIPS q ≠ 0) ∧ (∀ b : Nat, (s.bund b).nc = [])) ∧
    (∃ (b : ChanIx) (n : ColIx) (s : State), ((s.bund b).sw.filter fun w => w.col = n.val) = []) ∧
    (∃ (b : ChanIx) (n : ColIx) (w : Switch) (s : State), (s.bund b).sw = [w] ∧ (w.col = n.val) ∧ (w.cancel = true ∨ w.due = [] ∨ s.fld Fld.TT_TIME_FRAME + 2 < w.frame)) ∧
    (∃ (b : ChanIx) (n : ColIx) (w : Switch) (s : State) (u : State), (s.bund b).sw = [w] ∧ (w.col = n.val) ∧ (w.cancel = false) ∧ (w.due ≠ []) ∧ (w.acked = []) ∧ (w.spare = 0) ∧ (w.frame ≤ s.fld Fld.TT_TIME_FRAME + 2) ∧ (s.vert.cfg = []) ∧ (u = ((s.modBund b fun x => { x with sw := [{ w with cancel := true, due := [], acked := [] }] }).setCol Fld.VLQ_COL_GEAR_NEXT 0 b n))) ∧
    (∃ (b : ChanIx) (n : ColIx) (w : Switch) (s : State), (s.bund b).sw = [w] ∧ (w.col = n.val) ∧ (s.fld Fld.TT_TIME_FRAME < w.frame ∨ (w.cancel = false ∧ w.due ≠ []))) ∧
    (∃ (b : ChanIx) (n : ColIx) (w : Switch) (s : State) (u : State), (s.bund b).sw = [w] ∧ (w.col = n.val) ∧ (w.cancel = false) ∧ (w.due = []) ∧ (w.spare = 0) ∧ (w.frame ≤ s.fld Fld.TT_TIME_FRAME) ∧ (u = (((s.modBund b fun x => { x with sw := [] }).setCol Fld.VLQ_COL_GEAR_NEXT 0 b n).setCal Fld.VLQ_COL_GEAR w.gear b n))) ∧
    (∃ (b : ChanIx) (n : ColIx) (w : Switch) (s : State), (s.bund b).sw = [w] ∧ (w.col = n.val) ∧ (w.cancel = false) ∧ (w.due = []) ∧ (w.spare ≠ 0) ∧ (w.frame ≤ s.fld Fld.TT_TIME_FRAME)) ∧
    (∃ (q : QuadIx) (s : State), (q.val ∉ s.vert.pllLost)) ∧
    (∃ (q : QuadIx) (s : State), (q.val ∈ s.vert.pllLost)) := by
  refine ⟨⟨(3), ({ (bnd 63 { coll := [(1, 2)] } State.reset) with vert := { coll := [(3, 2 ^ 32)], bund := [(63, { coll := [(1, 2)] })] } }), (by decide +kernel)⟩,
    ⟨(3), (regs [(Fld.VLQ_COLL_CFG_WINDOW, 1, 3, 0)]), (by decide +kernel)⟩,
    ⟨(3), ([]), (State.reset), (by decide +kernel)⟩,
    ⟨(3), (15), (57), (63), ([]), (((List.range 64).foldl (fun s m => s.setCol Fld.VLQ_COL_ROLE 2 63 m) (bnd 63 { up := true, win := 2 ^ 32, nc := [(57, 2 ^ 32)] } State.reset)).setCol Fld.VLQ_COL_ROLE 0 63 57 |>.setCol Fld.VLQ_COL_GEAR 1 63 57), (by decide +kernel), (by decide +kernel), (by decide +kernel), (by decide +kernel), (by decide +kernel), (by decide +kernel), (by decide +kernel)⟩,
    ⟨(3), (((State.reset).setFld Fld.VLQ_CTL_GEAR_FREEZE 1 3).setFld Fld.VLQ_CAL_CFG_MIN_CHIPS 4096 3), (by decide +kernel), (by decide +kernel), (fun b => rfl)⟩,
    ⟨(63), (63), (State.reset), (by decide +kernel)⟩,
    ⟨(63), (57), ({ col := 57, gear := 2, frame := 5 }), (State.reset |> bnd 63 { sw := [{ col := 57, gear := 2, frame := 5 }] }), (by decide +kernel), (by decide +kernel), (by decide +kernel)⟩,
    ⟨(63), (57), ({ col := 57, gear := 2, frame := 2, due := [(3, 4)] }), (State.reset |> bnd 63 { sw := [{ col := 57, gear := 2, frame := 2, due := [(3, 4)] }] }), (((State.reset |> bnd 63 { sw := [{ col := 57, gear := 2, frame := 2, due := [(3, 4)] }] }).modBund 63 fun x => { x with sw := [{ col := 57, gear := 2, frame := 2, cancel := true }] }).setCol Fld.VLQ_COL_GEAR_NEXT 0 63 57), (by decide +kernel), (by decide +kernel), (by decide +kernel), (by decide +kernel), (by decide +kernel), (by decide +kernel), (by decide +kernel), (by decide +kernel), (rfl)⟩,
    ⟨(63), (57), ({ col := 57, gear := 2, frame := 1 }), (State.reset |> bnd 63 { sw := [{ col := 57, gear := 2, frame := 1 }] }), (by decide +kernel), (by decide +kernel), (by decide +kernel)⟩,
    ⟨(63), (57), ({ col := 57, gear := 2, frame := 0 }), (State.reset |> bnd 63 { sw := [{ col := 57, gear := 2, frame := 0 }] }), (((State.reset |> bnd 63 { sw := [{ col := 57, gear := 2, frame := 0 }] }).modBund 63 fun x => { x with sw := [] }).setCol Fld.VLQ_COL_GEAR_NEXT 0 63 57 |>.setCal Fld.VLQ_COL_GEAR 2 63 57), (by decide +kernel), (by decide +kernel), (by decide +kernel), (by decide +kernel), (by decide +kernel), (by decide +kernel), (rfl)⟩,
    ⟨(63), (57), ({ col := 57, spare := 60, frame := 0 }), (State.reset |> bnd 63 { sw := [{ col := 57, spare := 60, frame := 0 }] }), (by decide +kernel), (by decide +kernel), (by decide +kernel), (by decide +kernel), (by decide +kernel), (by decide +kernel)⟩,
    ⟨(3), (State.reset), (by decide +kernel)⟩,
    ⟨(3), ({ State.reset with vert := { pllLost := [3] } }), (by decide +kernel)⟩⟩

/-- The hypotheses of RelayLossAndReturn can be met. -/
theorem test_RelayLossAndReturn_hypotheses :
    (∃ (h : Fin 3) (r : Bool) (s : State), (s.vert.relayLost.contains (h.val + 1) = true ∨ (r = false ∧ Store.get s.vert.misses (h.val + 1) 0 < 2))) ∧
    (∃ (h : Fin 3) (r : Bool) (s : State), (s.vert.relayLost.contains (h.val + 1) = false) ∧ (r = true ∨ 2 ≤ Store.get s.vert.misses (h.val + 1) 0)) ∧
    (∃ (h : Fin 3) (_b : Bool) (s : State), (s.vert.relayLost.contains (h.val + 1) = false)) ∧
    (∃ (h : Fin 3) (_b : Bool) (s : State), (s.vert.relayLost.contains (h.val + 1) = true)) := by
  refine ⟨⟨(2), (false), ({ State.reset with vert := { misses := [(3, 1)] } }), (by decide +kernel)⟩,
    ⟨(2), (false), ({ State.reset with vert := { misses := [(3, 2)] } }), (by decide +kernel), (by decide +kernel)⟩,
    ⟨(2), (true), (State.reset), (by decide +kernel)⟩,
    ⟨(2), (true), ({ State.reset with vert := { relayLost := [3] } }), (by decide +kernel)⟩⟩

/-- The hypotheses of RepairJobs can be met. -/
theorem test_RepairJobs_hypotheses :
    (∃ (c : ChanIx) (s : State), ((s.chan c).migQ = [] ∨ (s.chan c).mig.isSome = true)) ∧
    (∃ (c : ChanIx) (m : BadRow) (l : List BadRow) (row : Nat) (r : Resource) (s : State) (u : State) (v : State), (s.chan c).migQ = m :: l ∧ (s.chan c).mig = none ∧ (s.chan c).resetting = false ∧ ((s.chan c).test = false ∨ s.bst.kind = 0) ∧ (s.bankFree c m.bank = true) ∧ (s.engineRuns c = true) ∧ (u = (s.modChan c fun y => { y with migQ := l })) ∧ (row = (u.hostRow c m.bank m.row).getD m.row) ∧ (v = u.markServing c m.bank row) ∧ (v.chooseRes c m.bank row (u.caseOf c m.bank row) = some r)) ∧
    (∃ (c : ChanIx) (m : BadRow) (l : List BadRow) (row : Nat) (s : State) (u : State) (v : State), (s.chan c).migQ = m :: l ∧ (s.chan c).mig = none ∧ (s.chan c).resetting = false ∧ ((s.chan c).test = false ∨ s.bst.kind = 0) ∧ (s.bankFree c m.bank = true) ∧ (s.engineRuns c = true) ∧ (u = (s.modChan c fun y => { y with migQ := l })) ∧ (row = (u.hostRow c m.bank m.row).getD m.row) ∧ (v = u.markServing c m.bank row) ∧ (v.chooseRes c m.bank row (u.caseOf c m.bank row) = none)) ∧
    (∃ (_l : LayerIx) (s : State), (s.fld Fld.REP_CFG_FUSE ≠ 2) ∧ (s.fld Fld.REP_CFG_FUSE ≠ 1)) ∧
    (∃ (l : LayerIx) (e : RepEnt) (s : State), (l.val, e) ∈ s.rep.hreps) ∧
    (∃ (l : LayerIx) (e : RepEnt) (s : State), (s.rep.hreps = []) ∧ (s.fld Fld.REP_CFG_FUSE = 2) ∧ (s.rep.copy.find? (s.wantsFuse l) = some e)) ∧
    (∃ (l : LayerIx) (e : RepEnt) (s : State) (v : State), (s.rep.hreps = [(l.val, e)]) ∧ (Store.get s.rep.hrepAt l 0 + 1024 * s.fld Fld.REP_CFG_HREP_LIMIT ≤ s.ticks) ∧ (v = ((({ s with rep := { s.rep with hreps := [], tried := e :: s.rep.tried } } : State).bump Fld.REP_CNT_COUNT 0 5).repSet { e with fails := min 2 (e.fails + 1) }))) ∧
    (∃ (l : LayerIx) (s : State), ((∀ h ∈ s.rep.hreps, h.1 ≠ l.val) ∨ s.ticks < Store.get s.rep.hrepAt l 0 + 1024 * s.fld Fld.REP_CFG_HREP_LIMIT)) ∧
    (∃ (w : Nat) (_b : Bool) (_s : State), (393216 ≤ w)) ∧
    (∃ (w : Nat) (s : State), (w < 393216) ∧ (w ∉ s.vmap.once)) ∧
    (∃ (w : Nat) (s : State), (w < 393216) ∧ (w ∈ s.vmap.once)) ∧
    (∃ (w : Nat) (s : State) (u : State), (w < 393216) ∧ (u = (s.upTo 8 fun k s => s.setVByte (8 * w + k) 0xFF))) := by
  refine ⟨⟨(0), (State.reset), (by decide +kernel)⟩,
    ⟨(0), ({ bank := 31, row := 24575 }), ([]), ((((engine 0 { migQ := [{ bank := 31, row := 24575 }] }).modChan 0 fun y => { y with migQ := [] }).hostRow 0 31 24575).getD 24575), (((((engine 0 { migQ := [{ bank := 31, row := 24575 }] }).modChan 0 fun y => { y with migQ := [] }).markServing 0 31 ((((engine 0 { migQ := [{ bank := 31, row := 24575 }] }).modChan 0 fun y => { y with migQ := [] }).hostRow 0 31 24575).getD 24575)).chooseRes 0 31 24575 (((engine 0 { migQ := [{ bank := 31, row := 24575 }] }).modChan 0 fun y => { y with migQ := [] }).caseOf 0 31 24575)).getD (.spare 0)), (engine 0 { migQ := [{ bank := 31, row := 24575 }] }), (((engine 0 { migQ := [{ bank := 31, row := 24575 }] }).modChan 0 fun y => { y with migQ := [] })), ((((engine 0 { migQ := [{ bank := 31, row := 24575 }] }).modChan 0 fun y => { y with migQ := [] }).markServing 0 31 ((((engine 0 { migQ := [{ bank := 31, row := 24575 }] }).modChan 0 fun y => { y with migQ := [] }).hostRow 0 31 24575).getD 24575))), (by decide +kernel), (by decide +kernel), (by decide +kernel), (by decide +kernel), (by decide +kernel), (by decide +kernel), (rfl), (rfl), (rfl), (by decide +kernel)⟩,
    ⟨(0), ({ bank := 31, row := 24575 }), ([]), ((((engine 0 { migQ := [{ bank := 31, row := 24575 }] }).modChan 0 fun y => { y with migQ := [] }).hostRow 0 31 24575).getD 24575), ({ (engine 0 { migQ := [{ bank := 31, row := 24575 }] }) with rep := { copy := taken } }), ((({ (engine 0 { migQ := [{ bank := 31, row := 24575 }] }) with rep := { copy := taken } }).modChan 0 fun y => { y with migQ := [] })), (((({ (engine 0 { migQ := [{ bank := 31, row := 24575 }] }) with rep := { copy := taken } }).modChan 0 fun y => { y with migQ := [] }).markServing 0 31 (((({ (engine 0 { migQ := [{ bank := 31, row := 24575 }] }) with rep := { copy := taken } }).modChan 0 fun y => { y with migQ := [] }).hostRow 0 31 24575).getD 24575))), (by decide +kernel), (by decide +kernel), (by decide +kernel), (by decide +kernel), (by decide +kernel), (by decide +kernel), (rfl), (rfl), (rfl), (by decide +kernel)⟩,
    ⟨(15), ((State.reset).setFld Fld.REP_CFG_FUSE 0), (by decide +kernel), (by decide +kernel)⟩,
    ⟨(15), ({ kind := 1 }), ({ State.reset with rep := { hreps := [(15, { kind := 1 })] } }), (by decide +kernel)⟩,
    ⟨(15), (soft0), ({ ((State.reset).setFld Fld.REP_CFG_FUSE 2) with rep := { copy := [soft0] } }), (by decide +kernel), (by decide +kernel), (by decide +kernel)⟩,
    ⟨(15), (soft0), ({ State.reset with rep := { copy := [soft0], hreps := [(15, soft0)] }, ticks := 2 ^ 40 }), (((({ State.reset with rep := { copy := [soft0], hreps := [], tried := [soft0] }, ticks := 2 ^ 40 } : State).bump Fld.REP_CNT_COUNT 0 5).repSet { soft0 with fails := 1 })), (by decide +kernel), (by decide +kernel), (rfl)⟩,
    ⟨(15), (State.reset), (by decide +kernel)⟩,
    ⟨(393216), (true), (State.reset), (by decide +kernel)⟩,
    ⟨(393215), (State.reset), (by decide +kernel), (by decide +kernel)⟩,
    ⟨(393215), ({ State.reset with vmap := { once := [393215] } }), (by decide +kernel), (by decide +kernel)⟩,
    ⟨(393215), (State.reset), (State.reset.upTo 8 fun k s => s.setVByte (8 * 393215 + k) 0xFF), (by decide +kernel), (rfl)⟩⟩

/-- The hypotheses of RegisterWritesArePerformedOrRefused can be met. -/
theorem test_RegisterWritesArePerformedOrRefused_hypotheses :
    (∃ (t : TrackIx) (m : BitVec 6) (g : BitVec 14) (size : BitVec 8) (a : BitVec 24) (v : BitVec 64) (s : State), (v.toNat < 2 ^ (8 * size.toNat)) ∧ (s.accepts (.link t m g) size.toNat a.toNat v.toNat = true)) ∧
    (∃ (size : BitVec 8) (a : BitVec 24) (v : BitVec 64) (s : State), (v.toNat < 2 ^ (8 * size.toNat)) ∧ (s.accepts .port size.toNat a.toNat v.toNat = true)) ∧
    (∃ (t : TrackIx) (m : BitVec 6) (g : BitVec 14) (size : BitVec 8) (a : BitVec 24) (v : BitVec 64) (u : State) (s : State) (st : Status), (v.toNat < 2 ^ (8 * size.toNat)) ∧ (s.arrives (.link t m g) size.toNat a.toNat v.toNat = true) ∧ (u = s.atFabric (.link t m g) size.toNat a.toNat v.toNat) ∧ (wholeReg size.toNat a.toNat = true) ∧ (u.answers a.toNat = true) ∧ (u.refusal (regHit a.toNat) v.toNat = some st)) ∧
    (∃ (t : TrackIx) (m : BitVec 6) (g : BitVec 14) (size : BitVec 8) (a : BitVec 24) (v : BitVec 64) (u : State) (s : State) (st : Status), (s.arrives (.link t m g) size.toNat a.toNat v.toNat = true) ∧ (u = s.atFabric (.link t m g) size.toNat a.toNat v.toNat) ∧ (u.access true false size.toNat a.toNat = .error st)) ∧
    (∃ (t : TrackIx) (m : BitVec 6) (g : BitVec 14) (size : BitVec 8) (a : BitVec 24) (v : BitVec 64) (p : Pkt) (s : State), (p = s.rwrPkt t m g size.toNat a.toNat v.toNat) ∧ (s.canTake t p = false)) ∧
    (∃ (t : TrackIx) (m : BitVec 6) (g : BitVec 14) (size : BitVec 8) (a : BitVec 24) (v : BitVec 64) (p : Pkt) (r : Nat) (s : State), (p = s.rwrPkt t m g size.toNat a.toNat v.toNat) ∧ (s.canTake t p = true) ∧ (s.takeIn t p).1.badReason t p (s.takeIn t p).2 = some r) ∧
    (∃ (t : TrackIx) (m : BitVec 6) (g : BitVec 14) (size : BitVec 8) (a : BitVec 24) (v : BitVec 64) (p : Pkt) (s : State), (p = s.rwrPkt t m g size.toNat a.toNat v.toNat) ∧ (s.canTake t p = true) ∧ (s.takeIn t p).1.badReason t p (s.takeIn t p).2 = none ∧ (s.takeIn t p).1.fenceBefore (s.takeIn t p).2 = true) ∧
    (∃ (_size : BitVec 8) (_a : BitVec 24) (_v : BitVec 64) (s : State), (s.fabricUp = false) ∧ (s.hold = none)) ∧
    (∃ (_size : BitVec 8) (_a : BitVec 24) (_v : BitVec 64) (s : State), (s.hold.isSome = true)) := by
  refine ⟨⟨(31), (63), (16383), (4), (0x1010), (1), (track 31 {}), (by decide +kernel), (by decide +kernel)⟩,
    ⟨(8), (0x1008), (0xFFFFFFFFFFFF), (powered), (by decide +kernel), (by decide +kernel)⟩,
    ⟨(31), (63), (16383), (4), (0x84), (3), ((track 31 {}).atFabric (.link 31 63 16383) 4 0x84 3), (track 31 {}), (.ignored), (by decide +kernel), (by decide +kernel), (rfl), (by decide +kernel), (by decide +kernel), (by decide +kernel)⟩,
    ⟨(31), (63), (16383), (5), (0x84), (0), ((track 31 {}).atFabric (.link 31 63 16383) 5 0x84 0), (track 31 {}), (.size), (by decide +kernel), (rfl), (rfl)⟩,
    ⟨(31), (63), (16383), (4), (0x84), (1), (State.reset.rwrPkt 31 63 16383 4 0x84 1), (State.reset), (rfl), (by decide +kernel)⟩,
    ⟨(31), (63), (16383), (4), (0x84), (1), (((track 31 {}).setFld Fld.TRK_TAG_PART_COUNT 1 31).rwrPkt 31 63 16383 4 0x84 1), (5), ((track 31 {}).setFld Fld.TRK_TAG_PART_COUNT 1 31), (rfl), (by decide +kernel), (by decide +kernel)⟩,
    ⟨(31), (63), (16383), (4), (0x84), (1), (({ (track 31 {}) with ord := 1, tags := [{ ord := 1, tag := 1, track := 31, master := 63, fen := true }] }).rwrPkt 31 63 16383 4 0x84 1), ({ (track 31 {}) with ord := 1, tags := [{ ord := 1, tag := 1, track := 31, master := 63, fen := true }] }), (rfl), (by decide +kernel), (by decide +kernel), (by decide +kernel)⟩,
    ⟨(4), (0x84), (1), (State.reset), (by decide +kernel), (by decide +kernel)⟩,
    ⟨(8), (0x1008), (1), ({ State.reset with hold := some { rail := 0 } }), (by decide +kernel)⟩⟩

/-- The hypotheses of RegisterAccessChecksInOrder can be met. -/
theorem test_RegisterAccessChecksInOrder_hypotheses :
    (∃ (_s : State) (_w _h : Bool) (size _a : Nat), size ≠ 4 ∧ size ≠ 8) ∧
    (∃ (_s : State) (_w _h : Bool) (a : Nat), ((∀ r, hitAt (a / 8 * 8) = some r → r.w64 = false))) ∧
    (∃ (_s : State) (a : Nat) (r : RegHit), hitAt (a / 8 * 8) = some r ∧ r.w64 = true) ∧
    (∃ (_s : State) (_h : Bool) (a : Nat), a % 4 ≠ 0) ∧
    (∃ (_s : State) (_w _h : Bool) (a : Nat), a % 4 = 0 ∧ 0x200000 ≤ a) ∧
    (∃ (s : State) (size a : Nat), wholeReg size a = true ∧ s.answers a = true) ∧
    (∃ (s : State) (size a : Nat), wholeReg size a = true ∧ s.answers a = true) ∧
    (∃ (b : Blk) (i o : Nat), i < b.count ∧ o < b.span) := by
  refine ⟨⟨(State.reset), (true), (false), (5), (0x84), (by decide +kernel), (by decide +kernel)⟩,
    ⟨(State.reset), (true), (false), (0x84), by decide +kernel⟩,
    ⟨(State.reset), (0x100C), ({ a := 0x1008, xs := fieldsAt 0x1008, w64 := true }), (rfl), (by decide +kernel)⟩,
    ⟨(State.reset), (true), (0x85), (by decide +kernel)⟩,
    ⟨(State.reset), (false), (false), (0x200000), (by decide +kernel), (by decide +kernel)⟩,
    ⟨(powered), (8), (0x1008), (by decide +kernel), (by decide +kernel)⟩,
    ⟨(powered), (4), (0x0F0004), (by decide +kernel), (by decide +kernel)⟩,
    ⟨(.trk), (31), (0x7FF), (by decide +kernel), (by decide +kernel)⟩⟩

/-- The hypotheses of GlobalCommandsTakeEffect can be met. -/
theorem test_GlobalCommandsTakeEffect_hypotheses :
    (∃ (x : WSrc) (w : BitVec 32) (s : State) (u : State), (s.accepts x 4 0x84 (w &&& 0xFFFFFFFC).toNat = true) ∧ (u = s.atFabric x 4 0x84 (w &&& 0xFFFFFFFC).toNat) ∧ (u.inState .nap = true)) ∧
    (∃ (x : WSrc) (w : BitVec 32) (s : State) (u : State), (s.accepts x 4 0x84 (w &&& 0xFFFFFFFC).toNat = true) ∧ (u = s.atFabric x 4 0x84 (w &&& 0xFFFFFFFC).toNat) ∧ (u.inState .park = true)) ∧
    (∃ (x : WSrc) (w : BitVec 32) (s : State) (u : State), (s.accepts x 4 0x84 (w &&& 0xFFFFFFFC).toNat = true) ∧ (u = s.atFabric x 4 0x84 (w &&& 0xFFFFFFFC).toNat) ∧ (u.inState .run = true)) ∧
    (∃ (x : WSrc) (w : BitVec 32) (s : State) (u : State), (s.accepts x 4 0x84 (w &&& 0xFFFFFFFC ||| 1).toNat = true) ∧ (u = s.atFabric x 4 0x84 (w &&& 0xFFFFFFFC ||| 1).toNat)) ∧
    (∃ (x : WSrc) (w : BitVec 32) (s : State) (u : State), (s.accepts x 4 0x84 (w &&& 0xFFFFFFFC ||| 2).toNat = true) ∧ (u = s.atFabric x 4 0x84 (w &&& 0xFFFFFFFC ||| 2).toNat)) ∧
    (∃ (x : WSrc) (w : BitVec 32) (s : State) (u : State), (s.accepts x 4 0x84 (w ||| 0x100).toNat = true) ∧ (u = s.atFabric x 4 0x84 (w ||| 0x100).toNat)) ∧
    (∃ (x : WSrc) (w : BitVec 32) (s : State) (u : State), (s.accepts x 4 0x90 (w ||| 0x80000000).toNat = true) ∧ (u = s.atFabric x 4 0x90 (w ||| 0x80000000).toNat) ∧ (u.resetting = false)) ∧
    (∃ (x : WSrc) (w : BitVec 32) (s : State) (u : State), (s.accepts x 4 0x94 (w ||| 0x80000000).toNat = true) ∧ (u = s.atFabric x 4 0x94 (w ||| 0x80000000).toNat) ∧ (w.toNat % 256 < 64)) ∧
    (∃ (x : WSrc) (w : BitVec 32) (s : State) (u : State), (s.accepts x 4 0x94 (w ||| 0x80000000).toNat = true) ∧ (u = s.atFabric x 4 0x94 (w ||| 0x80000000).toNat) ∧ (64 ≤ w.toNat % 256) ∧ (w.toNat % 256 < 68)) ∧
    (∃ (x : WSrc) (w : BitVec 32) (s : State) (u : State), (s.accepts x 4 0x94 (w ||| 0x80000000).toNat = true) ∧ (u = s.atFabric x 4 0x94 (w ||| 0x80000000).toNat) ∧ (68 ≤ w.toNat % 256)) ∧
    (∃ (x : WSrc) (w : BitVec 32) (s : State) (u : State), (s.accepts x 4 0x14 (w ||| 1).toNat = true) ∧ (u = s.atFabric x 4 0x14 (w ||| 1).toNat)) ∧
    (∃ (x : WSrc) (w : BitVec 32) (s : State) (u : State), (s.accepts x 4 0x10 (w ||| 1).toNat = true) ∧ (u = s.atFabric x 4 0x10 (w ||| 1).toNat)) ∧
    (∃ (x : WSrc) (w : BitVec 64) (s : State) (u : State), (s.accepts x 8 0x1008 w.toNat = true) ∧ (u = s.atFabric x 8 0x1008 w.toNat)) ∧
    (∃ (x : WSrc) (w : BitVec 32) (s : State) (u : State), (s.accepts x 4 0x1010 w.toNat = true) ∧ (u = s.atFabric x 4 0x1010 w.toNat) ∧ (w.toNat % 2 = 1)) ∧
    (∃ (x : WSrc) (w : BitVec 32) (s : State) (u : State), (s.accepts x 4 0x1010 w.toNat = true) ∧ (u = s.atFabric x 4 0x1010 w.toNat) ∧ (w.toNat % 2 = 0)) := by
  refine ⟨⟨(.port), (0), (((powered.setFld Fld.GLB_STATE_STATE PowerState.nap.code).setFld Fld.GLB_STATE_READY 1)), ((((powered.setFld Fld.GLB_STATE_STATE PowerState.nap.code).setFld Fld.GLB_STATE_READY 1)).atFabric .port 4 0x84 ((0 : BitVec 32) &&& 0xFFFFFFFC).toNat), (by decide +kernel), (rfl), (by decide +kernel)⟩,
    ⟨(.port), (0), (((powered.setFld Fld.GLB_STATE_STATE PowerState.park.code).setFld Fld.GLB_STATE_READY 1)), ((((powered.setFld Fld.GLB_STATE_STATE PowerState.park.code).setFld Fld.GLB_STATE_READY 1)).atFabric .port 4 0x84 ((0 : BitVec 32) &&& 0xFFFFFFFC).toNat), (by decide +kernel), (rfl), (by decide +kernel)⟩,
    ⟨(.port), (0), (((powered.setFld Fld.GLB_STATE_STATE PowerState.run.code).setFld Fld.GLB_STATE_READY 1)), ((((powered.setFld Fld.GLB_STATE_STATE PowerState.run.code).setFld Fld.GLB_STATE_READY 1)).atFabric .port 4 0x84 ((0 : BitVec 32) &&& 0xFFFFFFFC).toNat), (by decide +kernel), (rfl), (by decide +kernel)⟩,
    ⟨(.port), (0), ((powered.setFld Fld.GLB_STATE_READY 1)), (((powered.setFld Fld.GLB_STATE_READY 1)).atFabric .port 4 0x84 ((0 : BitVec 32) &&& 0xFFFFFFFC ||| 1).toNat), (by decide +kernel), (rfl)⟩,
    ⟨(.port), (0), ((powered.setFld Fld.GLB_STATE_READY 1)), (((powered.setFld Fld.GLB_STATE_READY 1)).atFabric .port 4 0x84 ((0 : BitVec 32) &&& 0xFFFFFFFC ||| 2).toNat), (by decide +kernel), (rfl)⟩,
    ⟨(.port), (0), (powered), ((powered).atFabric .port 4 0x84 ((0 : BitVec 32) ||| 0x100).toNat), (by decide +kernel), (rfl)⟩,
    ⟨(.port), (0xC41F), (powered), ((powered).atFabric .port 4 0x90 ((0xC41F : BitVec 32) ||| 0x80000000).toNat), (by decide +kernel), (rfl), (by decide +kernel)⟩,
    ⟨(.port), (63), (powered), ((powered).atFabric .port 4 0x94 ((63 : BitVec 32) ||| 0x80000000).toNat), (by decide +kernel), (rfl), (by decide +kernel)⟩,
    ⟨(.port), (67), (powered), ((powered).atFabric .port 4 0x94 ((67 : BitVec 32) ||| 0x80000000).toNat), (by decide +kernel), (rfl), (by decide +kernel), (by decide +kernel)⟩,
    ⟨(.port), (68), (powered), ((powered).atFabric .port 4 0x94 ((68 : BitVec 32) ||| 0x80000000).toNat), (by decide +kernel), (rfl), (by decide +kernel)⟩,
    ⟨(.port), (0), (powered), ((powered).atFabric .port 4 0x14 ((0 : BitVec 32) ||| 1).toNat), (by decide +kernel), (rfl)⟩,
    ⟨(.port), (0), (powered), ((powered).atFabric .port 4 0x10 ((0 : BitVec 32) ||| 1).toNat), (by decide +kernel), (rfl)⟩,
    ⟨(.port), (0xFFFFFFFFFFFF), (powered), (powered.atFabric .port 8 0x1008 0xFFFFFFFFFFFF), (by decide +kernel), (rfl)⟩,
    ⟨(.port), (1), (powered), ((powered).atFabric .port 4 0x1010 (1 : BitVec 32).toNat), (by decide +kernel), (rfl), (by decide +kernel)⟩,
    ⟨(.port), (0), (powered), ((powered).atFabric .port 4 0x1010 (0 : BitVec 32).toNat), (by decide +kernel), (rfl), (by decide +kernel)⟩⟩

/-- The hypotheses of TrackCommandsTakeEffect can be met. -/
theorem test_TrackCommandsTakeEffect_hypotheses :
    (∃ (x : WSrc) (t : TrackIx) (w : BitVec 32) (s : State) (u : State) (sp : Bool), (s.accepts x 4 (0x01000C + 0x800 * t.val) (w ||| 0x10).toNat = true) ∧ (u = s.atFabric x 4 (0x01000C + 0x800 * t.val) (w ||| 0x10).toNat) ∧ (u.standby t false = some sp) ∧ (u.standby t true).isSome = true ∧ (u.spareOf t false (w.toNat / 256 % 16) = none) ∧ (u.trk t).spY = none) ∧
    (∃ (x : WSrc) (t : TrackIx) (w : BitVec 32) (s : State) (u : State), (s.accepts x 4 (0x01000C + 0x800 * t.val) (w ||| 0x10).toNat = true) ∧ (u = s.atFabric x 4 (0x01000C + 0x800 * t.val) (w ||| 0x10).toNat) ∧ (u.standby t false = none) ∧ (u.spareOf t false (w.toNat / 256 % 16) = none) ∧ (u.trk t).spY = none) ∧
    (∃ (x : WSrc) (t : TrackIx) (w : BitVec 32) (s : State) (u : State), (s.accepts x 4 (0x01000C + 0x800 * t.val) (w ||| 1).toNat = true) ∧ (u = s.atFabric x 4 (0x01000C + 0x800 * t.val) (w ||| 1).toNat) ∧ (w &&& 0x10 = 0)) ∧
    (∃ (x : WSrc) (t : TrackIx) (w : BitVec 32) (s : State) (u : State), (s.accepts x 4 (0x010000 + 0x800 * t.val) w.toNat = true) ∧ (u = s.atFabric x 4 (0x010000 + 0x800 * t.val) w.toNat)) ∧
    (∃ (x : WSrc) (t : TrackIx) (w : BitVec 32) (s : State) (u : State), (s.accepts x 4 (0x010004 + 0x800 * t.val) w.toNat = true) ∧ (u = s.atFabric x 4 (0x010004 + 0x800 * t.val) w.toNat)) ∧
    (∃ (x : WSrc) (t : TrackIx) (p : LaneIx) (w : BitVec 32) (s : State) (u : State), (s.accepts x 4 (0x010050 + 0x800 * t.val + 0x40 * p.val) w.toNat = true) ∧ (u = s.atFabric x 4 (0x010050 + 0x800 * t.val + 0x40 * p.val) w.toNat)) ∧
    (∃ (x : WSrc) (t : TrackIx) (p : LaneIx) (w : BitVec 32) (s : State) (u : State), (s.accepts x 4 (0x010054 + 0x800 * t.val + 0x40 * p.val) (w ||| 0x80000000).toNat = true) ∧ (u = s.atFabric x 4 (0x010054 + 0x800 * t.val + 0x40 * p.val) (w ||| 0x80000000).toNat) ∧ (w.toNat / 2 ^ 16 % 256 ≠ 0)) ∧
    (∃ (x : WSrc) (t : TrackIx) (p : LaneIx) (w : BitVec 32) (s : State) (u : State), (s.accepts x 4 (0x010054 + 0x800 * t.val + 0x40 * p.val) (w ||| 0x80000000).toNat = true) ∧ (u = s.atFabric x 4 (0x010054 + 0x800 * t.val + 0x40 * p.val) (w ||| 0x80000000).toNat) ∧ (w.toNat / 2 ^ 16 % 256 = 0)) ∧
    (∃ (x : WSrc) (t : TrackIx) (w : BitVec 32) (s : State) (u : State), (s.accepts x 4 (0x010500 + 0x800 * t.val) (w ||| 0x10).toNat = true) ∧ (u = s.atFabric x 4 (0x010500 + 0x800 * t.val) (w ||| 0x10).toNat) ∧ (u.flag Fld.TRK_TRAIN_CTL_EN t = (w.toNat % 2 != 0)) ∧ (u.linkIs t .disabled = false)) ∧
    (∃ (x : WSrc) (t : TrackIx) (w : BitVec 32) (s : State) (u : State) (p : TrackIx), (s.accepts x 4 (0x010500 + 0x800 * t.val) (w ||| 0x100).toNat = true) ∧ (u = s.atFabric x 4 (0x010500 + 0x800 * t.val) (w ||| 0x100).toNat) ∧ (u.flag Fld.TRK_TRAIN_CTL_EN t = (w.toNat % 2 != 0)) ∧ (w.toNat / 16 % 2 = 0) ∧ (u.fld Fld.HLC_FOV_MAP_PARTNER 0 t = p.val) ∧ (u.linkIs p .ready = true) ∧ (u.fld Fld.TRK_TRAIN_STATUS_SESSION t = 1) ∧ (p ≠ t)) := by
  refine ⟨⟨(.port), (31), (0), (powered), ((powered).atFabric .port 4 (0x01000C + 0x800 * 31) ((0 : BitVec 32) ||| 0x10).toNat), (false), (by decide +kernel), (rfl), (by decide +kernel), (by decide +kernel), (by decide +kernel), (by decide +kernel)⟩,
    ⟨(.port), (31), (0), (((powered.setFld Fld.TRK_SPARE_RX_S0_STATE 3 31).setFld Fld.TRK_SPARE_RX_S1_STATE 3 31)), ((((powered.setFld Fld.TRK_SPARE_RX_S0_STATE 3 31).setFld Fld.TRK_SPARE_RX_S1_STATE 3 31)).atFabric .port 4 (0x01000C + 0x800 * 31) ((0 : BitVec 32) ||| 0x10).toNat), (by decide +kernel), (rfl), (by decide +kernel), (by decide +kernel), (by decide +kernel)⟩,
    ⟨(.port), (31), (0), (powered), ((powered).atFabric .port 4 (0x01000C + 0x800 * 31) ((0 : BitVec 32) ||| 1).toNat), (by decide +kernel), (rfl), (by decide +kernel)⟩,
    ⟨(.port), (31), (0x0002), (powered), ((powered).atFabric .port 4 (0x010000 + 0x800 * 31) (0x0002 : BitVec 32).toNat), (by decide +kernel), (rfl)⟩,
    ⟨(.port), (31), (0x0002), (powered), ((powered).atFabric .port 4 (0x010004 + 0x800 * 31) (0x0002 : BitVec 32).toNat), (by decide +kernel), (rfl)⟩,
    ⟨(.port), (31), (17), (0x33), (powered), ((powered).atFabric .port 4 (0x010050 + 0x800 * 31 + 0x40 * 17) (0x33 : BitVec 32).toNat), (by decide +kernel), (rfl)⟩,
    ⟨(.port), (31), (17), (0x00FF0001), (powered), ((powered).atFabric .port 4 (0x010054 + 0x800 * 31 + 0x40 * 17) ((0x00FF0001 : BitVec 32) ||| 0x80000000).toNat), (by decide +kernel), (rfl), (by decide +kernel)⟩,
    ⟨(.port), (31), (17), (0x00000001), (powered), ((powered).atFabric .port 4 (0x010054 + 0x800 * 31 + 0x40 * 17) ((0x00000001 : BitVec 32) ||| 0x80000000).toNat), (by decide +kernel), (rfl), (by decide +kernel)⟩,
    ⟨(.port), (31), (1), (((powered.setFld Fld.TRK_TRAIN_CTL_EN 1 31).setFld Fld.TRK_TRAIN_STATUS_STATE LinkState.down.code 31)), ((((powered.setFld Fld.TRK_TRAIN_CTL_EN 1 31).setFld Fld.TRK_TRAIN_STATUS_STATE LinkState.down.code 31)).atFabric .port 4 (0x010500 + 0x800 * 31) ((1 : BitVec 32) ||| 0x10).toNat), (by decide +kernel), (rfl), (by decide +kernel), (by decide +kernel)⟩,
    ⟨(.port), (0), (1), (((((track 4 {}).setFld Fld.TRK_TRAIN_CTL_EN 1 0).setFld Fld.HLC_FOV_MAP_PARTNER 4 0 0).setFld Fld.TRK_TRAIN_STATUS_SESSION 1 0)), ((((((track 4 {}).setFld Fld.TRK_TRAIN_CTL_EN 1 0).setFld Fld.HLC_FOV_MAP_PARTNER 4 0 0).setFld Fld.TRK_TRAIN_STATUS_SESSION 1 0)).atFabric .port 4 (0x010500 + 0x800 * 0) ((1 : BitVec 32) ||| 0x100).toNat), (4), (by decide +kernel), (rfl), (by decide +kernel), (by decide +kernel), (by decide +kernel), (by decide +kernel), (by decide +kernel), (by decide +kernel)⟩⟩

/-- The hypotheses of ChannelCommandsTakeEffect can be met. -/
theorem test_ChannelCommandsTakeEffect_hypotheses :
    (∃ (x : WSrc) (c : ChanIx) (w : BitVec 32) (s : State) (u : State), (s.accepts x 4 (0x040000 + 0x400 * c.val) w.toNat = true) ∧ (u = s.atFabric x 4 (0x040000 + 0x400 * c.val) w.toNat) ∧ (w &&& 0x110 = 0)) ∧
    (∃ (x : WSrc) (c : ChanIx) (w : BitVec 32) (s : State) (u : State), (s.accepts x 4 (0x040000 + 0x400 * c.val) (w ||| 0x10).toNat = true) ∧ (u = s.atFabric x 4 (0x040000 + 0x400 * c.val) (w ||| 0x10).toNat) ∧ (w &&& 0x100 = 0)) ∧
    (∃ (x : WSrc) (c : ChanIx) (w : BitVec 32) (s : State) (u : State) (e : Nat), (s.accepts x 4 (0x040000 + 0x400 * c.val) (w ||| 0x100).toNat = true) ∧ (u = s.atFabric x 4 (0x040000 + 0x400 * c.val) (w ||| 0x100).toNat) ∧ (w &&& 0x10 = 0) ∧ (u.chan c).swap = none ∧ (u.freeEngine = some e)) ∧
    (∃ (x : WSrc) (c : ChanIx) (w : BitVec 32) (s : State) (u : State), (s.accepts x 4 (0x040300 + 0x400 * c.val) (w ||| 0x100).toNat = true) ∧ (u = s.atFabric x 4 (0x040300 + 0x400 * c.val) (w ||| 0x100).toNat)) ∧
    (∃ (x : WSrc) (w : BitVec 32) (s : State) (u : State), (s.accepts x 4 0x0A0008 (w ||| 1).toNat = true) ∧ (u = s.atFabric x 4 0x0A0008 (w ||| 1).toNat)) ∧
    (∃ (x : WSrc) (m : Fin 64) (w : BitVec 32) (s : State) (u : State), (s.accepts x 4 (0x060100 + 0x20 * m.val) w.toNat = true) ∧ (u = s.atFabric x 4 (0x060100 + 0x20 * m.val) w.toNat)) ∧
    (∃ (x : WSrc) (w : BitVec 32) (s : State) (u : State), (s.accepts x 4 0x060008 w.toNat = true) ∧ (u = s.atFabric x 4 0x060008 w.toNat)) ∧
    (∃ (x : WSrc) (w : BitVec 32) (s : State) (u : State), (s.accepts x 4 0x060000 w.toNat = true) ∧ (u = s.atFabric x 4 0x060000 w.toNat)) ∧
    (∃ (x : WSrc) (i : Fin 95) (w : BitVec 32) (s : State) (u : State), (s.accepts x 4 (0x0D0400 + 4 * i.val) w.toNat = true) ∧ (u = s.atFabric x 4 (0x0D0400 + 4 * i.val) w.toNat)) ∧
    (∃ (x : WSrc) (w : BitVec 32) (s : State) (u : State), (s.accepts x 4 0x0C0034 (w ||| 0x100).toNat = true) ∧ (u = s.atFabric x 4 0x0C0034 (w ||| 0x100).toNat)) ∧
    (∃ (x : WSrc) (w : BitVec 32) (s : State) (u : State) (c : ChTest), (s.accepts x 4 0x0C0004 (w ||| 0x100).toNat = true) ∧ (u = s.atFabric x 4 0x0C0004 (w ||| 0x100).toNat) ∧ (u.bst.ch = some c) ∧ (w &&& 0x10 = 0)) := by
  refine ⟨⟨(.port), (63), (1), (powered), ((powered).atFabric .port 4 (0x040000 + 0x400 * 63) (1 : BitVec 32).toNat), (by decide +kernel), (rfl), (by decide +kernel)⟩,
    ⟨(.port), (63), (1), (powered), ((powered).atFabric .port 4 (0x040000 + 0x400 * 63) ((1 : BitVec 32) ||| 0x10).toNat), (by decide +kernel), (rfl), (by decide +kernel)⟩,
    ⟨(.port), (63), (0), (powered), ((powered).atFabric .port 4 (0x040000 + 0x400 * 63) ((0 : BitVec 32) ||| 0x100).toNat), (64), (by decide +kernel), (rfl), (by decide +kernel), (by decide +kernel), (by decide +kernel)⟩,
    ⟨(.port), (63), (3), (powered), ((powered).atFabric .port 4 (0x040300 + 0x400 * 63) ((3 : BitVec 32) ||| 0x100).toNat), (by decide +kernel), (rfl)⟩,
    ⟨(.port), (0), (powered), ((powered).atFabric .port 4 0x0A0008 ((0 : BitVec 32) ||| 1).toNat), (by decide +kernel), (rfl)⟩,
    ⟨(.port), (63), (0x01000100), (powered), ((powered).atFabric .port 4 (0x060100 + 0x20 * 63) (0x01000100 : BitVec 32).toNat), (by decide +kernel), (rfl)⟩,
    ⟨(.port), (0x0B540B54), (powered), ((powered).atFabric .port 4 0x060008 (0x0B540B54 : BitVec 32).toNat), (by decide +kernel), (rfl)⟩,
    ⟨(.port), (0x5A0001), (powered), ((powered).atFabric .port 4 0x060000 (0x5A0001 : BitVec 32).toNat), (by decide +kernel), (rfl)⟩,
    ⟨(.port), (94), (0x101), (powered), ((powered).atFabric .port 4 (0x0D0400 + 4 * 94) (0x101 : BitVec 32).toNat), (by decide +kernel), (rfl)⟩,
    ⟨(.port), (5), ((((powered.setFld Fld.GLB_ADDR_MAP_KIND 2).setFld Fld.REP_LAYERS_USED 0xFFFF).setFld Fld.CHN_CTL_EN 1 5)), (((((powered.setFld Fld.GLB_ADDR_MAP_KIND 2).setFld Fld.REP_LAYERS_USED 0xFFFF).setFld Fld.CHN_CTL_EN 1 5)).atFabric .port 4 0x0C0034 ((5 : BitVec 32) ||| 0x100).toNat), (by decide +kernel), (rfl)⟩,
    ⟨(.port), (0), ({ powered with bst := { ch := some { chan := 5 } } }), (({ powered with bst := { ch := some { chan := 5 } } } : State).atFabric .port 4 0x0C0004 0x100), ({ chan := 5 }), (by decide +kernel), (rfl), (by decide +kernel), (by decide +kernel)⟩⟩

/-- The hypotheses of VerticalCommandsTakeEffect can be met. -/
theorem test_VerticalCommandsTakeEffect_hypotheses :
    (∃ (x : WSrc) (q : QuadIx) (w : BitVec 32) (s : State) (u : State) (b : Nat), (s.accepts x 4 (0x080000 + 0x4000 * q.val) (w ||| 0x10000).toNat = true) ∧ (u = s.atFabric x 4 (0x080000 + 0x4000 * q.val) (w ||| 0x10000).toNat) ∧ (w &&& 0x10 = 0) ∧ (b = w.toNat / 256 % 64)) ∧
    (∃ (x : WSrc) (q : QuadIx) (w : BitVec 32) (s : State) (u : State), (s.accepts x 4 (0x080000 + 0x4000 * q.val) (w ||| 0x10).toNat = true) ∧ (u = s.atFabric x 4 (0x080000 + 0x4000 * q.val) (w ||| 0x10).toNat)) ∧
    (∃ (x : WSrc) (l : LayerIx) (w : BitVec 32) (s : State) (u : State) (b : Nat) (n : Nat) (sp : Nat), (s.accepts x 4 (0x090424 + 0x400 * l.val) (w ||| 0x10000).toNat = true) ∧ (u = s.atFabric x 4 (0x090424 + 0x400 * l.val) (w ||| 0x10000).toNat) ∧ (b = 4 * l.val + w.toNat / 64 % 4) ∧ (n = w.toNat / 256 % 64) ∧ (w &&& 3 = 0) ∧ (u.idleSpare b n = false) ∧ (u.logical b n = n) ∧ (∀ y ∈ (u.bund b).sw, y.col = n → y.spare = 0) ∧ (u.standbyCol b = some sp) ∧ (u.maySwitch b = false)) ∧
    (∃ (x : WSrc) (l : LayerIx) (w : BitVec 32) (s : State) (u : State) (b : Nat) (n : Nat) (sp : Nat), (s.accepts x 4 (0x090424 + 0x400 * l.val) (w ||| 0x10000).toNat = true) ∧ (u = s.atFabric x 4 (0x090424 + 0x400 * l.val) (w ||| 0x10000).toNat) ∧ (b = 4 * l.val + w.toNat / 64 % 4) ∧ (n = w.toNat / 256 % 64) ∧ (w &&& 3 = 0) ∧ (u.idleSpare b n = false) ∧ (u.logical b n = n) ∧ (∀ y ∈ (u.bund b).sw, y.col = n → y.spare = 0) ∧ (u.standbyCol b = some sp) ∧ (u.maySwitch b = true)) ∧
    (∃ (x : WSrc) (l : LayerIx) (w : BitVec 32) (s : State) (u : State), (s.accepts x 4 (0x090424 + 0x400 * l.val) (w ||| 2).toNat = true) ∧ (u = s.atFabric x 4 (0x090424 + 0x400 * l.val) (w ||| 2).toNat) ∧ (w &&& 0x10001 = 0)) ∧
    (∃ (x : WSrc) (l : LayerIx) (w : BitVec 32) (s : State) (u : State), (s.accepts x 4 (0x090424 + 0x400 * l.val) (w ||| 1).toNat = true) ∧ (u = s.atFabric x 4 (0x090424 + 0x400 * l.val) (w ||| 1).toNat) ∧ (w &&& 0x10002 = 0)) := by
  refine ⟨⟨(.port), (3), (0x3500), (powered), ((powered).atFabric .port 4 (0x080000 + 0x4000 * 3) ((0x3500 : BitVec 32) ||| 0x10000).toNat), (53), (by decide +kernel), (rfl), (by decide +kernel), (by decide +kernel)⟩,
    ⟨(.port), (3), (0x3000), (powered), ((powered).atFabric .port 4 (0x080000 + 0x4000 * 3) ((0x3000 : BitVec 32) ||| 0x10).toNat), (by decide +kernel), (rfl)⟩,
    ⟨(.port), (15), (0x39C0), ((powered.setCol Fld.VLQ_COL_ROLE 1 63 58)), (((powered.setCol Fld.VLQ_COL_ROLE 1 63 58)).atFabric .port 4 (0x090424 + 0x400 * 15) ((0x39C0 : BitVec 32) ||| 0x10000).toNat), (63), (57), (58), (by decide +kernel), (rfl), (by decide +kernel), (by decide +kernel), (by decide +kernel), (by decide +kernel), (by decide +kernel), (by decide +kernel), (by decide +kernel), (by decide +kernel)⟩,
    ⟨(.port), (15), (0x39C0), (((engine 63 {}).setCol Fld.VLQ_COL_ROLE 1 63 58)), ((((engine 63 {}).setCol Fld.VLQ_COL_ROLE 1 63 58)).atFabric .port 4 (0x090424 + 0x400 * 15) ((0x39C0 : BitVec 32) ||| 0x10000).toNat), (63), (57), (58), (by decide +kernel), (rfl), (by decide +kernel), (by decide +kernel), (by decide +kernel), (by decide +kernel), (by decide +kernel), (by decide +kernel), (by decide +kernel), (by decide +kernel)⟩,
    ⟨(.port), (11), (0), (powered), ((powered).atFabric .port 4 (0x090424 + 0x400 * 11) ((0 : BitVec 32) ||| 2).toNat), (by decide +kernel), (rfl), (by decide +kernel)⟩,
    ⟨(.port), (15), (0), (powered), ((powered).atFabric .port 4 (0x090424 + 0x400 * 15) ((0 : BitVec 32) ||| 1).toNat), (by decide +kernel), (rfl), (by decide +kernel)⟩⟩

/-- The hypotheses of StoreCommandsTakeEffect can be met. -/
theorem test_StoreCommandsTakeEffect_hypotheses :
    (∃ (x : WSrc) (w : BitVec 32) (s : State) (u : State), (s.accepts x 4 0x0B0004 (w ||| 1).toNat = true) ∧ (u = s.atFabric x 4 0x0B0004 (w ||| 1).toNat) ∧ (w &&& 0x100 = 0) ∧ (u.rep.copy.length ≤ 65533)) ∧
    (∃ (x : WSrc) (w : BitVec 32) (s : State) (u : State), (s.accepts x 4 0x0B0004 (w ||| 0x10).toNat = true) ∧ (u = s.atFabric x 4 0x0B0004 (w ||| 0x10).toNat)) ∧
    (∃ (x : WSrc) (w : BitVec 32) (s : State) (u : State), (s.accepts x 4 0x0B0004 (w ||| 0x100).toNat = true) ∧ (u = s.atFabric x 4 0x0B0004 (w ||| 0x100).toNat) ∧ (w &&& 1 = 0)) ∧
    (∃ (x : WSrc) (w : BitVec 32) (s : State) (u : State), (s.accepts x 4 0x0C0004 (w ||| 0x10).toNat = true) ∧ (u = s.atFabric x 4 0x0C0004 (w ||| 0x10).toNat)) ∧
    (∃ (x : WSrc) (w : BitVec 32) (s : State) (u : State), (s.accepts x 4 0x0F0004 (w ||| 0x80000000).toNat = true) ∧ (u = s.atFabric x 4 0x0F0004 (w ||| 0x80000000).toNat)) ∧
    (∃ (x : WSrc) (w : BitVec 32) (s : State) (u : State), (s.accepts x 4 0x0F0004 (w ||| 0x10).toNat = true) ∧ (u = s.atFabric x 4 0x0F0004 (w ||| 0x10).toNat)) ∧
    (∃ (x : WSrc) (w : BitVec 32) (s : State) (u : State), (s.accepts x 4 0x0F0004 (w ||| 0x100).toNat = true) ∧ (u = s.atFabric x 4 0x0F0004 (w ||| 0x100).toNat)) ∧
    (∃ (x : WSrc) (w : BitVec 32) (s : State) (u : State), (s.accepts x 4 0x0F0004 (w ||| 0x200).toNat = true) ∧ (u = s.atFabric x 4 0x0F0004 (w ||| 0x200).toNat)) := by
  refine ⟨⟨(.port), (0), (powered), ((powered).atFabric .port 4 0x0B0004 ((0 : BitVec 32) ||| 1).toNat), (by decide +kernel), (rfl), (by decide +kernel), (by decide +kernel)⟩,
    ⟨(.port), (0), (powered), ((powered).atFabric .port 4 0x0B0004 ((0 : BitVec 32) ||| 0x10).toNat), (by decide +kernel), (rfl)⟩,
    ⟨(.port), (0), (powered), ((powered).atFabric .port 4 0x0B0004 ((0 : BitVec 32) ||| 0x100).toNat), (by decide +kernel), (rfl), (by decide +kernel)⟩,
    ⟨(.port), (0), (powered), ((powered).atFabric .port 4 0x0C0004 ((0 : BitVec 32) ||| 0x10).toNat), (by decide +kernel), (rfl)⟩,
    ⟨(.port), (0), (powered), ((powered).atFabric .port 4 0x0F0004 ((0 : BitVec 32) ||| 0x80000000).toNat), (by decide +kernel), (rfl)⟩,
    ⟨(.port), (0), (powered), ((powered).atFabric .port 4 0x0F0004 ((0 : BitVec 32) ||| 0x10).toNat), (by decide +kernel), (rfl)⟩,
    ⟨(.port), (0), ((powered.setFld Fld.NVM_CFG_WIN_PROG_EN 1)), (((powered.setFld Fld.NVM_CFG_WIN_PROG_EN 1)).atFabric .port 4 0x0F0004 ((0 : BitVec 32) ||| 0x100).toNat), (by decide +kernel), (rfl)⟩,
    ⟨(.port), (0), ((powered.setFld Fld.NVM_CFG_WIN_PROG_EN 1)), (((powered.setFld Fld.NVM_CFG_WIN_PROG_EN 1)).atFabric .port 4 0x0F0004 ((0 : BitVec 32) ||| 0x200).toNat), (by decide +kernel), (rfl)⟩⟩

/-- The hypotheses of WrapperPortCommands can be met. -/
theorem test_WrapperPortCommands_hypotheses :
    (∃ (_i : Bool) (s : State), (s.hold = none)) ∧
    (∃ (_i : BitVec 17) (_p : BitVec 17) (s : State), (s.hold = none)) ∧
    (∃ (_i : BitVec 17) (_p : BitVec 17) (s : State), (s.hold = none)) ∧
    (∃ (s : State), (s.hold = none)) ∧
    (∃ (s : State), (s.hold = none)) ∧
    (∃ (_i : Bool) (_j : BitVec 17) (_p : BitVec 17) (_a : BitVec 24) (_v : BitVec 32) (s : State), (s.hold.isSome = true)) ∧
    (∃ (a : BitVec 24) (s : State), (s.fabricUp = true) ∧ (s.fab.copies = []) ∧ (wholeReg 4 a.toNat = true) ∧ (s.answers a.toNat = true)) ∧
    (∃ (a : BitVec 24) (s : State), (s.fabricUp = true) ∧ (s.fab.copies = []) ∧ (wholeReg 8 a.toNat = true) ∧ (s.answers a.toNat = true)) ∧
    (∃ (a : BitVec 24) (v : BitVec 32) (s : State), (s.accepts .port 4 a.toNat v.toNat = true)) ∧
    (∃ (_a : BitVec 24) (_v : BitVec 32) (s : State), (s.fabricUp = false) ∧ (s.hold = none)) := by
  refine ⟨⟨(true), (State.reset), (by decide +kernel)⟩,
    ⟨(0x1FFFF), (0x10001), (State.reset), (by decide +kernel)⟩,
    ⟨(0x1FFFF), (0x10001), (State.reset), (by decide +kernel)⟩,
    ⟨(State.reset), (by decide +kernel)⟩,
    ⟨(State.reset), (by decide +kernel)⟩,
    ⟨(true), (1), (2), (0x84), (1), ({ State.reset with hold := some { rail := 0 } }), (by decide +kernel)⟩,
    ⟨(0x84), (powered), (by decide +kernel), (by decide +kernel), (by decide +kernel), (by decide +kernel)⟩,
    ⟨(0x1000), (powered), (by decide +kernel), (by decide +kernel), (by decide +kernel), (by decide +kernel)⟩,
    ⟨(0x1010), (1), (powered), (by decide +kernel)⟩,
    ⟨(0x84), (1), (State.reset), (by decide +kernel), (by decide +kernel)⟩⟩

/-- The hypotheses of LineCodewordsSatisfyTheBaseMatrix can be met. -/
theorem test_LineCodewordsSatisfyTheBaseMatrix_hypotheses :
    (∃ (_u : Line) (r : Nat), r < 32) ∧
    (∃ (_col _te _index tid : Nat), tid < 32) := by
  refine ⟨⟨(1), (31), (by decide +kernel)⟩,
    ⟨(31), (3), (15), (31), (by decide +kernel)⟩⟩

/-- The hypotheses of TilesAreEncodedAsStated can be met. -/
theorem test_TilesAreEncodedAsStated_hypotheses :
    (∃ (u : Unit32) (p : Nat → Bool) (P : Nat → Bool) (q : Nat → Bool) (C : Nat → Bool), (∀ j < 16, p j = (List.range 16).foldl (fun x i => x ^^ u.getLsbD (16 * i + j)) false) ∧ (∀ i < 16, q i = (List.range 16).foldl (fun x j => x ^^ u.getLsbD (16 * i + j)) false) ∧ (P 0 = p 0) ∧ (∀ j < 15, P (j + 1) = (P j ^^ p (j + 1))) ∧ (C 15 = P 15) ∧ (C 14 = P 14) ∧ (∀ j < 14, C j = (P j ^^ C 15))) := by
  refine ⟨(0), (fun _ => false), (fun _ => false), (fun _ => false), (fun _ => false), (by decide +kernel), (by decide +kernel), (by decide +kernel), (by decide +kernel), (by decide +kernel), (by decide +kernel), (by decide +kernel)⟩

/-- The hypotheses of TileCodeCorrectsOneBitAndReportsTwo can be met. -/
theorem test_TileCodeCorrectsOneBitAndReportsTwo_hypotheses :
    (∃ (_u : Unit32) (k : Nat), (k < 288)) ∧
    (∃ (_u : Unit32) (k : Nat) (l : Nat), (k < l) ∧ (l < 288)) := by
  refine ⟨⟨((BitVec.ofNat 256 (2 ^ 255 + 0x1234567))), (287), (by decide +kernel)⟩,
    ⟨((BitVec.ofNat 256 (2 ^ 255 + 0x1234567))), (0), (287), (by decide +kernel), (by decide +kernel)⟩⟩

/-- The hypotheses of StackIdIsTheXorOfRotatedSerials can be met. -/
theorem test_StackIdIsTheXorOfRotatedSerials_hypotheses :
    (∃ (s : State) (k : Nat), (k < 64) ∧ (s.fld Fld.BST_DIE_ID_ID < 2 ^ 64) ∧ (∀ l j, s.fld Fld.LAY_ID_WORD l j < 2 ^ 32)) := by
  refine ⟨(State.reset), (63), (by decide +kernel), (serial_small), (word_small)⟩

/-- The hypotheses of AddressesDecomposeAndComposeBack can be met. -/
theorem test_AddressesDecomposeAndComposeBack_hypotheses :
    (∃ (s : State) (n : Nat) (_A : Nat), (0 < n) ∧ (s.usedLayers = (List.range n).map (· + 1)) ∧ (s.fld Fld.GLB_ADDR_MAP_CHAN_COUNT = 4 * n) ∧ (s.pairsInForce = 16) ∧ (∀ c < 4 * n, s.mapPairs c = List.range 16)) ∧
    (∃ (s : State) (ln : Nat) (loc : Loc), (0 < s.pairsInForce) ∧ (s.decomp ln = some loc)) := by
  refine ⟨⟨(full), (16), (0x056789AB40), (by decide +kernel), (by decide +kernel), (by decide +kernel), (by decide +kernel), (by decide +kernel)⟩,
    ⟨(full), (1610612735), ({ chan := 63, bank := 4, row := 24575, col := 31 }), (by decide +kernel), (by decide +kernel)⟩⟩

/-- The hypotheses of EventsAreRecorded can be met. -/
theorem test_EventsAreRecorded_hypotheses :
    (∃ (_x : Src) (_i : Nat) (_f : FaultInfo) (s : State), (s.resetting = true)) ∧
    (∃ (_x : Src) (_i : Nat) (_f : FaultInfo) (s : State), (s.resetting = false)) ∧
    (∃ (x : Src) (i : Nat) (f : FaultInfo) (s : State) (t : State), (t = s.raise x i f)) := by
  refine ⟨⟨(.regRefused), (0), ({}), ({ State.reset with resetting := true }), (by decide +kernel)⟩,
    ⟨(.regRefused), (0), ({}), (powered), (by decide +kernel)⟩,
    ⟨(.regRefused), (0), ({}), (powered), ((powered).raise .regRefused 0 {}), (rfl)⟩⟩

/-- The hypotheses of HoldAndOffEndOnlyInPor can be met. -/
theorem test_HoldAndOffEndOnlyInPor_hypotheses :
    (∃ (rail : BitVec 4) (sample : BitVec 14) (s : State) (t : State), (s.hold = none) ∧ (s.pins.pwrGood = true) ∧ (exec (.supplySag rail sample) s = .next t ∨ exec .refclkLoss s = .next t)) ∧
    (∃ (c : Instr) (s : State) (t : State), (s.resetting = true) ∧ (s.trks = []) ∧ (s.readyTracks = []) ∧ ((s.hold.isSome = true ∨ s.pins.pwrGood = false)) ∧ (exec c s = .next t) ∧ (t.hold = none) ∧ (t.pins.pwrGood = true)) := by
  refine ⟨⟨(0xF), (0), (powered), (_), (by decide +kernel), (by decide +kernel), (.inl rfl)⟩,
    ⟨(.pwrGoodRise), ({ State.reset with resetting := true }), (_), (by decide +kernel), (by decide +kernel), (by decide +kernel), (.inr rfl), (rfl), (by decide +kernel), (by decide +kernel)⟩⟩

/-- The hypotheses of CutAccountKeepsDeliverable can be met. -/
theorem test_CutAccountKeepsDeliverable_hypotheses :
    (∃ (a : Bool) (b : Bool) (s : State) (t : State), (exec (.frameTick a b) s = .next t)) := by
  refine ⟨(true), (true), (State.reset), (_), (rfl)⟩

/-- The hypotheses of FrameOfMemoryPinsAndTime can be met. -/
theorem test_FrameOfMemoryPinsAndTime_hypotheses :
    (∃ (c : Instr) (s : State) (t : State), (c.writesRegister = false) ∧ (c.restarts = false) ∧ (exec c s = .next t)) := by
  refine ⟨(.accountSlot), (State.reset), (_), (by decide +kernel), (by decide +kernel), (rfl)⟩

/-- The hypotheses of FrameOfStagesThermalPowerAndRepair can be met. -/
theorem test_FrameOfStagesThermalPowerAndRepair_hypotheses :
    (∃ (c : Instr) (s : State) (t : State), (c.writesRegister = false) ∧ (c.restarts = false) ∧ (exec c s = .next t)) := by
  refine ⟨(.accountSlot), (State.reset), (_), (by decide +kernel), (by decide +kernel), (rfl)⟩

/-- The hypotheses of TimersChangeOnlyTheirOwnState can be met. -/
theorem test_TimersChangeOnlyTheirOwnState_hypotheses :
    (∃ (s : State) (t : State), (exec .brsWindowEnd s = .next t ∨ exec .errNHoldExpiry s = .next t)) ∧
    (∃ (k : TrackIx) (m : LaneMsg) (s : State) (t : State), (exec (.censusRepeat k) s = .next t ∨ exec (.returnPendingTimeout k) s = .next t ∨ exec (.spareErrWindowEnd k) s = .next t ∨ exec (.laneMgmtReqRx k m) s = .next t ∨ exec (.laneMgmtAckRx k m) s = .next t ∨ exec (.rdyRx k) s = .next t)) ∧
    (∃ (s : State) (t : State), (exec .accountSlot s = .next t)) ∧
    (∃ (s : State) (t : State), (exec .avsCurrentRead s = .next t)) ∧
    (∃ (s : State) (t : State), (exec .avsRetryTimer s = .next t)) ∧
    (∃ (s : State) (t : State), (exec .vmapSweepDone s = .next t ∨ exec .napIdleExpiry s = .next t)) ∧
    (∃ (q : QuadIx) (s : State) (t : State), (exec (.collisionWindowEnd q) s = .next t)) ∧
    (∃ (c : ChanIx) (n : Nat) (s : State) (t : State), (exec (.nrefForceDue c n) s = .next t)) ∧
    (∃ (s : State) (t : State), (exec .holdSaveNvmReady s = .next t ∨ exec .holdSavePageDone s = .next t ∨ exec .holdSavePageTimeout s = .next t)) ∧
    (∃ (s : State) (t : State), (exec .bulHoldoffEnd s = .next t)) ∧
    (∃ (h : Fin 3) (b : Bool) (s : State) (t : State), (exec (.relayFlagRestored h b) s = .next t)) ∧
    (∃ (k : TrackIx) (w : Bool) (s : State) (t : State), (exec (.trainRetryPeriod k) s = .next t ∨ exec (.txL1Exit k) s = .next t ∨ exec (.txL1Entry k) s = .next t ∨ exec (.stallEnd k w) s = .next t)) ∧
    (∃ (s : State) (t : State), (exec .censusInterval s = .next t)) ∧
    (∃ (c : ChanIx) (b : BankIx) (s : State) (t : State), (exec (.pageIdleExpiry c b) s = .next t ∨ exec (.refreshSlot c) s = .next t ∨ exec (.chnBlockResetDone c) s = .next t ∨ exec (.chnDrained c) s = .next t)) ∧
    (∃ (s : State) (t : State), (exec .stageB0Service s = .next t)) ∧
    (∃ (k : TrackIx) (s : State) (t : State), (exec (.packetTransmit k) s = .next t)) ∧
    (∃ (l : LayerIx) (s : State) (t : State), (exec (.hrepIssue l) s = .next t)) ∧
    (∃ (s : State) (t : State), (exec .parkExit s = .next t)) ∧
    (∃ (s : State) (t : State), (exec .chipResetHoldEnd s = .next t)) ∧
    (∃ (x : Bool) (v : BitVec 17) (s : State) (t : State), (exec (.wsBypass x) s = .next t ∨ exec (.wsExtest v v) s = .next t ∨ exec (.wsPreload v v) s = .next t ∨ exec .dieId s = .next t ∨ exec .wrstnReset s = .next t)) := by
  refine ⟨⟨(State.reset), (_), (.inl rfl)⟩,
    ⟨(0), ({ pos := 0, spare := false, target := 0 }), (State.reset), (_), (.inl rfl)⟩,
    ⟨(State.reset), (_), (rfl)⟩,
    ⟨(State.reset), (_), (rfl)⟩,
    ⟨(State.reset), (_), (rfl)⟩,
    ⟨(State.reset), (_), (.inl rfl)⟩,
    ⟨(0), (State.reset), (_), (rfl)⟩,
    ⟨(0), (0), (State.reset), (_), (rfl)⟩,
    ⟨(State.reset), (_), (.inl rfl)⟩,
    ⟨(State.reset), (_), (rfl)⟩,
    ⟨(0), (true), (State.reset), (_), (rfl)⟩,
    ⟨(0), (true), (State.reset), (_), (.inl rfl)⟩,
    ⟨(State.reset), (_), (rfl)⟩,
    ⟨(0), (0), (State.reset), (_), (.inl rfl)⟩,
    ⟨(State.reset), (_), (rfl)⟩,
    ⟨(0), (State.reset), (_), (rfl)⟩,
    ⟨(0), (State.reset), (_), (rfl)⟩,
    ⟨(State.reset), (_), (rfl)⟩,
    ⟨(State.reset), (_), (rfl)⟩,
    ⟨(true), (1), (State.reset), (_), (.inl rfl)⟩⟩

/-! ### Ill-formed commands: one for each check, and a well-formed neighbour -/

/-- Eighteen comma symbols. -/
def rowSyms : List (BitVec 10) := List.replicate 18 (encCtl .com false).1

theorem test_wf_rail : (Instr.supplySag 5 0).wellFormed = false ∧ (Instr.supplySag 4 0).wellFormed = true := by decide

theorem test_wf_row_symbols :
    (Instr.rxRow 0 { syms := rowSyms.drop 1 }).wellFormed = false ∧ (Instr.rxRow 0 { syms := rowSyms }).wellFormed = true := by decide +kernel

theorem test_wf_calibration :
    (Instr.calWindowEnd 0 0 { n1c := 0, n1d := 5, n1l := 6, nt := 0 }).wellFormed = false ∧
    (Instr.calWindowEnd 0 0 { n1c := 0, n1d := 5, n1l := 5, nt := 0 }).wellFormed = true := by decide

theorem test_wf_payload :
    (Instr.wr 0 { typ := 2, len := 2, data := [0] }).wellFormed = false ∧ (Instr.wr 0 { typ := 2, len := 1, data := [0] }).wellFormed = true ∧
    (Instr.wrm 0 { typ := 3, len := 1 }).wellFormed = false ∧ (Instr.wrm 0 { typ := 3, len := 1, data := [7] }).wellFormed = true := by decide

theorem test_wf_no_payload :
    (Instr.rd 0 { typ := 1, len := 1, data := [0] }).wellFormed = false ∧ (Instr.rd 0 { typ := 1, len := 1 }).wellFormed = true ∧
    (Instr.fen 0 { typ := 4, data := [0] }).wellFormed = false ∧ (Instr.rrd 0 { typ := 5, data := [0] }).wellFormed = false ∧
    (Instr.nul 0 { typ := 0, data := [0] }).wellFormed = false := by decide

theorem test_wf_lane_map :
    (Instr.smapRx 0 { rxMap := List.replicate 16 0, txMap := (List.finRange 18).take 16 }).wellFormed = false ∧
    (Instr.smapRx 0 { rxMap := (List.finRange 18).drop 2, txMap := (List.finRange 18).take 15 }).wellFormed = false ∧
    (Instr.smapRx 0 { rxMap := (List.finRange 18).drop 2, txMap := (List.finRange 18).take 16 }).wellFormed = true := by decide +kernel

theorem test_wf_telemetry :
    (Instr.telemetrySlot { base := List.replicate 16 0, rails := List.replicate 4 0 }).wellFormed = false ∧
    (Instr.telemetrySlot { base := List.replicate 16 0, rails := List.replicate 5 0 }).wellFormed = true := by decide

theorem test_wf_flash :
    (Instr.stageB1Image { bytes := [(4, 0), (4, 1)] }).wellFormed = false ∧ (Instr.stageB1Image { bytes := [(2 ^ 24, 0)] }).wellFormed = false ∧
    (Instr.stageB1Image { bytes := [(4, 0), (5, 1)] }).wellFormed = true := by decide +kernel

theorem test_wf_window_data :
    (Instr.nvmStepComplete { data := [0] }).wellFormed = false ∧ (Instr.nvmStepComplete { data := List.replicate 32 0 }).wellFormed = true := by decide

theorem test_wf_gear :
    (Instr.gearWindowEnd 0 [{ b := 0, col := 0, far := [(4, 5)] }]).wellFormed = false ∧
    (Instr.gearWindowEnd 0 [{ b := 0, col := 0, far := [(5, 5)] }]).wellFormed = true := by decide

theorem test_wf_read_train :
    (Instr.readTrainDelivered 0 { slots := List.replicate 17 { code := 0, ctl := 0 } }).wellFormed = false ∧
    (Instr.readTrainDelivered 0 { slots := List.replicate 16 { code := 0, ctl := 0 } }).wellFormed = true := by decide

theorem test_wf_config_head :
    (Instr.cfghRx 0 0 0x8000 1 false).wellFormed = false ∧ (Instr.cfghRx 0 0 0 0 false).wellFormed = false ∧
    (Instr.cfghRx 0 0 0 9 false).wellFormed = false ∧ (Instr.cfghRx 0 0 0x7FFF 8 false).wellFormed = true := by decide

theorem test_wf_map_row :
    (Instr.vmapRowReplace 393216 true).wellFormed = false ∧ (Instr.vmapRowReplace 393215 true).wellFormed = true := by decide

/-! ### The spec's own figures -/

/-- The nine ASCII bytes "123456789". -/
def nine : List Byte := [0x31, 0x32, 0x33, 0x34, 0x35, 0x36, 0x37, 0x38, 0x39]

/-- The check values of R137, R141, R293 and R472. -/
theorem test_check_values : hcrc nine = 0x29B1 ∧ tailCrc tailInit nine = 0x21CF02 ∧ crc8 nine = 0xF4 ∧ crc32 nine = 0xCBF43926 := by
  decide +kernel

/-- The example of R33: host address 0x05_6789_AB40 with HASH_EN 1 and with HASH_EN 0. -/
theorem test_address_example :
    full.decomp (0x0567_89AB40 / 64) = some { chan := 26, bank := 7, row := 5534, col := 13 } ∧
    (full.setFld Fld.GLB_ADDR_MAP_HASH_EN 0).decomp (0x0567_89AB40 / 64) = some { chan := 26, bank := 20, row := 5534, col := 13 } := by
  decide +kernel

/-- The example of R290: slot bit 600 of line 3 is body bit 46 of column C40, on chips 264 to 267 at gear 2. -/
def slotBody : List Nat := dataBody 40 [0, 0, 0, 1#672 <<< 600]

theorem test_slot_example :
    slotBody = List.replicate 46 0 ++ [1, 0] ∧
    (List.range 48).map (fun i => decideBit (despread 3 0 (((trainChips 3 2 slotBody).drop (80 + 4 * i)).take 4))) = slotBody := by decide +kernel

/-- Two different sequences cancel over 8 chips; those of adjacent columns over 2 (R256, R257). -/
theorem test_sequences_cancel :
    ((List.range 8).all fun q => (List.range 8).all fun r => q == r || decide (despread q 0 (spread r 8 0 [1]) = 0)) = true ∧
    ((List.range 7).all fun n => (List.range 4).all fun k => decide (despread (seqOf n 1) (2 * k) (spread (seqOf (n + 1) 1) 2 (2 * k) [1]) = 0)) = true := by
  decide +kernel

/-- The state of the example of R217: 40 guarantees of 120 steps, delivery 6,000; layers 9 to 16 at T3, layers 13 to 16 at twice the rate. -/
def bwrExample : State :=
  let s := (full.setFld Fld.BWR_DELIV_RD 6000).setFld Fld.BWR_DERATE_X2 248
  let s := (List.range 40).foldl (fun s m => s.setFld Fld.BWR_MGUAR_GUAR_RD 120 0 m) s
  let s := (List.range 64).foldl (fun s c => s.setFld Fld.CHN_CTL_EN 1 c) s
  let s := s.setFld Fld.THM_LEVELS_LEVEL ((List.range 8).foldl (fun n i => n + 3 * 2 ^ (3 * (i + 9))) 0)
  s.setFld Fld.REF_LAYER_RATE_RATE ((List.range 4).foldl (fun n i => n + 1 * 2 ^ (2 * (i + 12))) 0)

/-- The example of R217: D[RD] 1,119,140 bytes and K[RD] 61,119. -/
theorem test_bandwidth_example :
    bwrExample.deliverable.1 = 1119140 ∧ (bwrExample.refill false 1119140 false).fld Fld.BWR_SCALE_RD_K = 61119 := by decide +kernel

/-- The example of R322: D[5][9] or C[3] is corrected, D[5][9] with R[5] is not. -/
theorem test_tile_example :
    checkTile (encodeTile unit0 ^^^ (1#288 <<< 89)) = (.corrected, encodeTile unit0) ∧
    checkTile (encodeTile unit0 ^^^ (1#288 <<< 275)) = (.corrected, encodeTile unit0) ∧
    (checkTile (encodeTile unit0 ^^^ (1#288 <<< 89) ^^^ (1#288 <<< 261))).1 = .uncorrectable := by decide +kernel

/-- A poisoned tile is recognised, also with one further bad bit (R324). -/
theorem test_poison_recognised :
    checkTile poisonTile = (.poisoned, poisonTile) ∧ (checkTile (poisonTile ^^^ (1#288 <<< 17))).1 = .poisoned := by decide +kernel

/-- The example of R129: round 0x3A on track 3, all six comparisons equal. -/
def cenExample : State :=
  (track 3 {
    cen := { waiting := true }
    ses := { txRec := [{ seq := 0x47, a := 9990, b := 29970, c := 9960 }], rxRec := [{ seq := 0x9C, a := 9950, b := 29900, c := 61204 }] } }).setFld
      Fld.TRK_CENSUS_STATUS_ROUND 0x3A 3

def cenSent : CenContent :=
  { round := 0x3A, sTx := 0x9C, sRx := 0x47, counts := { rxr := 9990, rxd := 29970, acc := 9960, rrr := 9950, rrd := 29900, iss := 61204 } }

/-- One field of the state a command leaves. -/
def after (o : Out) (f : Field) (i : Nat := 0) (j : Nat := 0) : Nat := match o with
  | .next s => s.fld f i j
  | _ => 0

theorem test_census_example : after (exec (.cenRx 3 cenSent) cenExample) Fld.TRK_CENSUS_STATUS_RESULT 3 = 1 := by decide +kernel

/-- A count that differs by one: a mismatch, which is fatal (R129). -/
theorem test_census_mismatch :
    after (exec (.cenRx 3 { cenSent with counts := { cenSent.counts with rxd := 29971 } }) cenExample) Fld.TRK_CENSUS_STATUS_RESULT 3 = 2 := by
  decide +kernel

/-- A value written for the tick applies at the tick that opens frame n + 1, and one staged under HOLD does not (R63, the example of TT.STAGE). -/
def guaranteeStaged : List Staged := [{ key := Fld.BWR_MGUAR_GUAR_RD.key 0 5, dflt := 0, val := 120 }]
def ticking (fab : Fabric) : State := { powered with start := { powered.start with b0 := true }, fab := fab }

theorem test_staged_applies :
    after (exec (.frameTick true true) (ticking { ready := guaranteeStaged })) Fld.BWR_MGUAR_GUAR_RD 0 5 = 120 ∧
    after (exec (.frameTick true true) (ticking { ready := guaranteeStaged })) Fld.TT_TIME_FRAME = 1 := by
  decide +kernel

theorem test_staged_held :
    after (exec (.frameTick true true) ((ticking { staged := guaranteeStaged }).setFld Fld.TT_STAGE_HOLD 1)) Fld.BWR_MGUAR_GUAR_RD 0 5 = 0 := by
  decide +kernel

/-- The first command leaves the queue; the second waits. -/
theorem test_queue_order :
    (match step { powered with pending := [.dieId, .wrstnReset] } with
      | .next s => decide (s.pending = [.wrstnReset])
      | _ => false) = true := by decide +kernel

/-- No table row gives bits, so no word spells a command. -/
theorem test_no_word : decodeTableWord 32 0 = none := rfl

end Sys2Proof.Tests
end

section
/-! PROOFS. Which parts of State each command may change, and what reset, the reset pins, HOLD and OFF leave. -/
namespace Sys2Proof

/-! ### The footprint of a command -/

/-- The parts of State a command may change, as a mask over them in the order State lists them (State.Frame). -/
def Instr.footprint : Instr → Nat
  | .pwrGoodRise | .holdExitPor | .supplyRemoved => 0x3fffffe
  | .supplySag .. | .refclkLoss => 0x1fffc7e
  | .holdSavePageDone | .holdSavePageTimeout | .holdSaveNvmReady => 0x100000
  | .resetNFall | .resetSetRx .. | .fenceRelease .. | .crsDue | .regAccWrite .. => 0x3fffd7e
  | .resetNRise => 0x200412
  | .chipResetHoldEnd => 0x200402
  | .stageB0Service => 0x2200002
  | .stageB1Image .. => 0xabf86e
  | .stageB2Stack | .stageB3Test .. | .widenEffectiveTick | .calWindowEnd .. | .ts1Rx .. | .ts2Rx .. | .capRx .. | .smapRx .. | .grantRx ..
  | .trainPhaseTimeout .. => 0xa2786a
  | .startupTestRetry .. | .holdSlotCopy | .eventJobOverrun .. | .deficitWindowEnd | .scrubSlot .. | .trainWaitExpiry .. | .sidingLimitExpiry ..
  | .decoderSelfCheck .. | .readTrainTimeout .. | .wnakRx .. | .wackTimeout .. | .gearSwitchAckDeadline .. | .relayLossDeclared .. | .vlPllUnlock ..
  | .repCommitDelayExpiry | .sealAgeMark | .wearCreditAccrual | .calPeriodExpiry => 0x82784a
  | .stageB4Configuration | .stageB6Channels => 0xa3784a
  | .stageB7Widening => 0x200022
  | .frameTick .. => 0x2e7fb7e
  | .accountSlot => 0x4000
  | .telemetrySlot .. => 0x48e785e
  | .refreshSlot .. | .retestStart .. | .pageIdleExpiry .. | .chnDrained .. | .chnBlockResetDone .. => 0x802
  | .nrefForceDue .. => 0x800
  | .rxRow .. => 0xe278ea
  | .spareErrWindowEnd .. | .laneMgmtReqRx .. | .laneMgmtAckRx .. | .returnPendingTimeout .. | .rdyRx .. | .censusRepeat .. => 0x20
  | .laneMgmtRejRx .. | .laneSpareReqTimeout .. | .laneSpareSwitch .. | .ackTimeout .. | .packetTransmit .. | .cenRx .. | .fovRx ..
  | .censusReplyTimeout .. => 0x82786a
  | .laneRetire .. => 0x83786a
  | .txL1Entry .. | .txL1Exit .. | .stallEnd .. | .trainRetryPeriod .. => 0x22
  | .wakeDetect .. => 0xc2786a
  | .stallBegin .. | .partialHoldExpiry .. | .rd .. | .wr .. | .wrm .. | .fen .. | .nul .. => 0xc278ea
  | .rrd .. | .regWrite .. | .ttFrameLoad .. | .ttStageHold .. | .laneSpareGo .. | .laneCntClr .. | .spareStateWrite .. | .prbsCtlWrite ..
  | .injGo .. | .trainRetrain .. | .fovGo .. | .chnEnWrite .. | .chnBlkRst .. | .chnSwap .. | .bwrGuaranteeWrite .. | .vlqRetuneGo ..
  | .vlqRetrain .. | .colSpareGo .. | .relayRst .. | .crst .. | .vmapClear .. | .flipArm .. | .repCommit .. | .fuseGo .. | .pendingClr ..
  | .chtestGo .. | .bstAbort .. | .sealVoid .. | .reactWrite .. | .targetRun .. | .targetNap .. | .targetPark .. | .widenGo .. | .glbResetChip ..
  | .glbBlockRstGo .. | .calCommit .. | .winRdGo .. | .winProgGo .. | .winEraseGo .. | .snapGo .. | .rwlLock .. => 0x3fffdfe
  | .censusInterval => 0x122
  | .turntableCycle => 0x282786e
  | .schedIssue .. | .takeoverComplete .. | .decodeComplete .. | .wackRx .. | .cdoneRx .. | .alrmRx .. | .gearWindowEnd .. | .gearSwitchEffective ..
  | .migrationStart .. | .hrepTimeout .. => 0x83784a
  | .readTrainDelivered .. => 0x483784a
  | .cfghRx .. => 0x86784a
  | .cfgdRx .. => 0x486784a
  | .cerrRx .. | .configResponseMissed .. => 0x87784a
  | .vtrainPhaseComplete .. => 0x483784e
  | .relayFlagRestored .. => 0x2002
  | .srxWaitEnd .. | .voteSweep .. => 0x82784e
  | .selfRefreshEntry .. => 0xc2784a
  | .hrepIssue .. => 0x12802
  | .vmapRowReplace .. => 0x82f84a
  | .vmapSweepDone | .napIdleExpiry => 0x2
  | .bstPartComplete .. | .nvmStepComplete .. => 0x83f84a
  | .bulHoldoffEnd => 0xa
  | .brsWindowEnd | .errNHoldExpiry => 0x8
  | .avsLoopPeriod .. | .avsOpComplete .. => 0x8a784a
  | .avsRetryTimer => 0x80002
  | .avsCurrentRead => 0x80000
  | .parkDrainComplete .. => 0xc7787e
  | .parkDrainLimit => 0x427842
  | .parkExit => 0x444802
  | .wsBypass .. | .wsExtest .. | .wsPreload .. | .dieId | .wrstnReset => 0x1000000
  | .regAccRead .. => 0x182784e
  | .collisionWindowEnd .. => 0x2000

/-- The commands beside the restarts and the register writes whose footprint holds the pins or HOLD: those that move THERM_N and those of the save. -/
def Instr.movesThermOrSave : Instr → Bool
  | .frameTick .. | .telemetrySlot .. | .parkDrainComplete .. | .holdSaveNvmReady | .holdSavePageDone | .holdSavePageTimeout => true
  | _ => false

namespace Machine

/-- Every command answers a next state and leaves what its footprint lacks. -/
theorem exec_frame (s : State) : ∀ c : Instr, Out.Frame c.footprint s (exec c s)
  | .pwrGoodRise => execPwrGoodRise_frame .rfl' (.refl _)
  | .supplySag .. => execSupplySag_frame .rfl' (.refl _) ..
  | .refclkLoss => execRefclkLoss_frame .rfl' (.refl _)
  | .holdSavePageDone => execHoldSavePageDone_frame .rfl' (.refl _)
  | .holdSavePageTimeout => execHoldSavePageTimeout_frame .rfl' (.refl _)
  | .holdExitPor => execHoldExitPor_frame .rfl' (.refl _)
  | .supplyRemoved => execSupplyRemoved_frame .rfl' (.refl _)
  | .resetNFall => execResetNFall_frame .rfl' (.refl _)
  | .resetNRise => execResetNRise_frame .rfl' (.refl _)
  | .chipResetHoldEnd => execChipResetHoldEnd_frame .rfl' (.refl _)
  | .stageB0Service => execStageB0Service_frame .rfl' (.refl _)
  | .stageB1Image .. => execStageB1Image_frame .rfl' (.refl _) ..
  | .stageB2Stack => execStageB2Stack_frame .rfl' (.refl _)
  | .stageB3Test .. => execStageB3Test_frame .rfl' (.refl _) ..
  | .startupTestRetry .. => execStartupTestRetry_frame .rfl' (.refl _) ..
  | .stageB4Configuration => execStageB4Configuration_frame .rfl' (.refl _)
  | .stageB6Channels => execStageB6Channels_frame .rfl' (.refl _)
  | .stageB7Widening => execStageB7Widening_frame .rfl' (.refl _)
  | .widenEffectiveTick => execWidenEffectiveTick_frame .rfl' (.refl _)
  | .holdSlotCopy => execHoldSlotCopy_frame .rfl' (.refl _)
  | .frameTick .. => execFrameTick_frame .rfl' (.refl _) ..
  | .eventJobOverrun .. => execEventJobOverrun_frame .rfl' (.refl _) ..
  | .accountSlot => execAccountSlot_frame .rfl' (.refl _)
  | .deficitWindowEnd => execDeficitWindowEnd_frame .rfl' (.refl _)
  | .telemetrySlot .. => execTelemetrySlot_frame .rfl' (.refl _) ..
  | .refreshSlot .. => execRefreshSlot_frame .rfl' (.refl _) ..
  | .scrubSlot .. => execScrubSlot_frame .rfl' (.refl _) ..
  | .nrefForceDue .. => execNrefForceDue_frame .rfl' (.refl _) ..
  | .retestStart .. => execRetestStart_frame .rfl' (.refl _) ..
  | .rxRow .. => execRxRow_frame .rfl' (.refl _) ..
  | .calWindowEnd .. => execCalWindowEnd_frame .rfl' (.refl _) ..
  | .spareErrWindowEnd .. => execSpareErrWindowEnd_frame .rfl' (.refl _) ..
  | .laneMgmtReqRx .. => execLaneMgmtReqRx_frame .rfl' (.refl _) ..
  | .laneMgmtAckRx .. => execLaneMgmtAckRx_frame .rfl' (.refl _) ..
  | .laneMgmtRejRx .. => execLaneMgmtRejRx_frame .rfl' (.refl _) ..
  | .laneSpareReqTimeout .. => execLaneSpareReqTimeout_frame .rfl' (.refl _) ..
  | .laneSpareSwitch .. => execLaneSpareSwitch_frame .rfl' (.refl _) ..
  | .laneRetire .. => execLaneRetire_frame .rfl' (.refl _) ..
  | .txL1Entry .. => execTxL1Entry_frame .rfl' (.refl _) ..
  | .txL1Exit .. => execTxL1Exit_frame .rfl' (.refl _) ..
  | .wakeDetect .. => execWakeDetect_frame .rfl' (.refl _) ..
  | .stallBegin .. => execStallBegin_frame .rfl' (.refl _) ..
  | .stallEnd .. => execStallEnd_frame .rfl' (.refl _) ..
  | .partialHoldExpiry .. => execPartialHoldExpiry_frame .rfl' (.refl _) ..
  | .ackTimeout .. => execAckTimeout_frame .rfl' (.refl _) ..
  | .returnPendingTimeout .. => execReturnPendingTimeout_frame .rfl' (.refl _) ..
  | .packetTransmit .. => execPacketTransmit_frame .rfl' (.refl _) ..
  | .rd .. => execRd_frame .rfl' (.refl _) ..
  | .wr .. => execWr_frame .rfl' (.refl _) ..
  | .wrm .. => execWrm_frame .rfl' (.refl _) ..
  | .fen .. => execFen_frame .rfl' (.refl _) ..
  | .rrd .. => execRrd_frame .rfl' (.refl _) ..
  | .nul .. => execNul_frame .rfl' (.refl _) ..
  | .ts1Rx t x lanes skew => execTs1Rx_frame .rfl' (.refl _) t x lanes skew
  | .ts2Rx t x lanes skew => execTs2Rx_frame .rfl' (.refl _) t x lanes skew
  | .capRx .. => execCapRx_frame .rfl' (.refl _) ..
  | .smapRx .. => execSmapRx_frame .rfl' (.refl _) ..
  | .grantRx .. => execGrantRx_frame .rfl' (.refl _) ..
  | .rdyRx .. => execRdyRx_frame .rfl' (.refl _) ..
  | .cenRx .. => execCenRx_frame .rfl' (.refl _) ..
  | .fovRx .. => execFovRx_frame .rfl' (.refl _) ..
  | .resetSetRx .. => execResetSetRx_frame .rfl' (.refl _) ..
  | .trainPhaseTimeout .. => execTrainPhaseTimeout_frame .rfl' (.refl _) ..
  | .trainRetryPeriod .. => execTrainRetryPeriod_frame .rfl' (.refl _) ..
  | .censusInterval => execCensusInterval_frame .rfl' (.refl _)
  | .censusRepeat .. => execCensusRepeat_frame .rfl' (.refl _) ..
  | .censusReplyTimeout .. => execCensusReplyTimeout_frame .rfl' (.refl _) ..
  | .turntableCycle => execTurntableCycle_frame .rfl' (.refl _)
  | .fenceRelease .. => execFenceRelease_frame .rfl' (.refl _) ..
  | .schedIssue .. => execSchedIssue_frame .rfl' (.refl _) ..
  | .trainWaitExpiry .. => execTrainWaitExpiry_frame .rfl' (.refl _) ..
  | .pageIdleExpiry .. => execPageIdleExpiry_frame .rfl' (.refl _) ..
  | .sidingLimitExpiry .. => execSidingLimitExpiry_frame .rfl' (.refl _) ..
  | .chnDrained .. => execChnDrained_frame .rfl' (.refl _) ..
  | .chnBlockResetDone .. => execChnBlockResetDone_frame .rfl' (.refl _) ..
  | .takeoverComplete .. => execTakeoverComplete_frame .rfl' (.refl _) ..
  | .readTrainDelivered .. => execReadTrainDelivered_frame .rfl' (.refl _) ..
  | .decodeComplete .. => execDecodeComplete_frame .rfl' (.refl _) ..
  | .decoderSelfCheck .. => execDecoderSelfCheck_frame .rfl' (.refl _) ..
  | .readTrainTimeout .. => execReadTrainTimeout_frame .rfl' (.refl _) ..
  | .wackRx .. => execWackRx_frame .rfl' (.refl _) ..
  | .wnakRx .. => execWnakRx_frame .rfl' (.refl _) ..
  | .wackTimeout .. => execWackTimeout_frame .rfl' (.refl _) ..
  | .cfghRx .. => execCfghRx_frame .rfl' (.refl _) ..
  | .cfgdRx .. => execCfgdRx_frame .rfl' (.refl _) ..
  | .cdoneRx b layer op fail detail => execCdoneRx_frame .rfl' (.refl _) b layer op fail detail
  | .cerrRx b layer op notDecoded => execCerrRx_frame .rfl' (.refl _) b layer op notDecoded
  | .alrmRx .. => execAlrmRx_frame .rfl' (.refl _) ..
  | .gearWindowEnd .. => execGearWindowEnd_frame .rfl' (.refl _) ..
  | .gearSwitchAckDeadline .. => execGearSwitchAckDeadline_frame .rfl' (.refl _) ..
  | .gearSwitchEffective .. => execGearSwitchEffective_frame .rfl' (.refl _) ..
  | .vtrainPhaseComplete .. => execVtrainPhaseComplete_frame .rfl' (.refl _) ..
  | .relayLossDeclared .. => execRelayLossDeclared_frame .rfl' (.refl _) ..
  | .relayFlagRestored .. => execRelayFlagRestored_frame .rfl' (.refl _) ..
  | .vlPllUnlock .. => execVlPllUnlock_frame .rfl' (.refl _) ..
  | .srxWaitEnd .. => execSrxWaitEnd_frame .rfl' (.refl _) ..
  | .selfRefreshEntry .. => execSelfRefreshEntry_frame .rfl' (.refl _) ..
  | .migrationStart .. => execMigrationStart_frame .rfl' (.refl _) ..
  | .hrepIssue .. => execHrepIssue_frame .rfl' (.refl _) ..
  | .hrepTimeout .. => execHrepTimeout_frame .rfl' (.refl _) ..
  | .vmapRowReplace .. => execVmapRowReplace_frame .rfl' (.refl _) ..
  | .vmapSweepDone => execVmapSweepDone_frame .rfl' (.refl _)
  | .repCommitDelayExpiry => execRepCommitDelayExpiry_frame .rfl' (.refl _)
  | .bstPartComplete .. => execBstPartComplete_frame .rfl' (.refl _) ..
  | .sealAgeMark => execSealAgeMark_frame .rfl' (.refl _)
  | .bulHoldoffEnd => execBulHoldoffEnd_frame .rfl' (.refl _)
  | .brsWindowEnd => execBrsWindowEnd_frame .rfl' (.refl _)
  | .crsDue => execCrsDue_frame .rfl' (.refl _)
  | .errNHoldExpiry => execErrNHoldExpiry_frame .rfl' (.refl _)
  | .avsLoopPeriod .. => execAvsLoopPeriod_frame .rfl' (.refl _) ..
  | .avsOpComplete .. => execAvsOpComplete_frame .rfl' (.refl _) ..
  | .avsRetryTimer => execAvsRetryTimer_frame .rfl' (.refl _)
  | .avsCurrentRead => execAvsCurrentRead_frame .rfl' (.refl _)
  | .napIdleExpiry => execNapIdleExpiry_frame .rfl' (.refl _)
  | .parkDrainComplete .. => execParkDrainComplete_frame .rfl' (.refl _) ..
  | .parkDrainLimit => execParkDrainLimit_frame .rfl' (.refl _)
  | .parkExit => execParkExit_frame .rfl' (.refl _)
  | .nvmStepComplete .. => execNvmStepComplete_frame .rfl' (.refl _) ..
  | .wearCreditAccrual => execWearCreditAccrual_frame .rfl' (.refl _)
  | .calPeriodExpiry => execCalPeriodExpiry_frame .rfl' (.refl _)
  | .voteSweep .. => execVoteSweep_frame .rfl' (.refl _) ..
  | .regWrite .. => execRegWrite_frame .rfl' (.refl _) ..
  | .ttFrameLoad .. => execTtFrameLoad_frame .rfl' (.refl _) ..
  | .ttStageHold .. => execTtStageHold_frame .rfl' (.refl _) ..
  | .laneSpareGo .. => execLaneSpareGo_frame .rfl' (.refl _) ..
  | .laneCntClr .. => execLaneCntClr_frame .rfl' (.refl _) ..
  | .spareStateWrite .. => execSpareStateWrite_frame .rfl' (.refl _) ..
  | .prbsCtlWrite .. => execPrbsCtlWrite_frame .rfl' (.refl _) ..
  | .injGo .. => execInjGo_frame .rfl' (.refl _) ..
  | .trainRetrain .. => execTrainRetrain_frame .rfl' (.refl _) ..
  | .fovGo .. => execFovGo_frame .rfl' (.refl _) ..
  | .chnEnWrite .. => execChnEnWrite_frame .rfl' (.refl _) ..
  | .chnBlkRst .. => execChnBlkRst_frame .rfl' (.refl _) ..
  | .chnSwap .. => execChnSwap_frame .rfl' (.refl _) ..
  | .bwrGuaranteeWrite .. => execBwrGuaranteeWrite_frame .rfl' (.refl _) ..
  | .vlqRetuneGo .. => execVlqRetuneGo_frame .rfl' (.refl _) ..
  | .vlqRetrain .. => execVlqRetrain_frame .rfl' (.refl _) ..
  | .colSpareGo .. => execColSpareGo_frame .rfl' (.refl _) ..
  | .relayRst .. => execRelayRst_frame .rfl' (.refl _) ..
  | .crst .. => execCrst_frame .rfl' (.refl _) ..
  | .vmapClear .. => execVmapClear_frame .rfl' (.refl _) ..
  | .flipArm .. => execFlipArm_frame .rfl' (.refl _) ..
  | .repCommit .. => execRepCommit_frame .rfl' (.refl _) ..
  | .fuseGo .. => execFuseGo_frame .rfl' (.refl _) ..
  | .pendingClr .. => execPendingClr_frame .rfl' (.refl _) ..
  | .chtestGo .. => execChtestGo_frame .rfl' (.refl _) ..
  | .bstAbort .. => execBstAbort_frame .rfl' (.refl _) ..
  | .sealVoid .. => execSealVoid_frame .rfl' (.refl _) ..
  | .reactWrite .. => execReactWrite_frame .rfl' (.refl _) ..
  | .targetRun .. => execTargetRun_frame .rfl' (.refl _) ..
  | .targetNap .. => execTargetNap_frame .rfl' (.refl _) ..
  | .targetPark .. => execTargetPark_frame .rfl' (.refl _) ..
  | .widenGo .. => execWidenGo_frame .rfl' (.refl _) ..
  | .glbResetChip .. => execGlbResetChip_frame .rfl' (.refl _) ..
  | .glbBlockRstGo .. => execGlbBlockRstGo_frame .rfl' (.refl _) ..
  | .calCommit .. => execCalCommit_frame .rfl' (.refl _) ..
  | .winRdGo .. => execWinRdGo_frame .rfl' (.refl _) ..
  | .winProgGo .. => execWinProgGo_frame .rfl' (.refl _) ..
  | .winEraseGo .. => execWinEraseGo_frame .rfl' (.refl _) ..
  | .snapGo .. => execSnapGo_frame .rfl' (.refl _) ..
  | .rwlLock .. => execRwlLock_frame .rfl' (.refl _) ..
  | .wsBypass .. => execWsBypass_frame .rfl' (.refl _) ..
  | .wsExtest .. => execWsExtest_frame .rfl' (.refl _) ..
  | .wsPreload .. => execWsPreload_frame .rfl' (.refl _) ..
  | .dieId => execDieId_frame .rfl' (.refl _)
  | .regAccRead .. => execRegAccRead_frame .rfl' (.refl _) ..
  | .regAccWrite .. => execRegAccWrite_frame .rfl' (.refl _) ..
  | .wrstnReset => execWrstnReset_frame .rfl' (.refl _)
  | .holdSaveNvmReady => execHoldSaveNvmReady_frame .rfl' (.refl _)
  | .configResponseMissed .. => execConfigResponseMissed_frame .rfl' (.refl _) ..
  | .collisionWindowEnd .. => execCollisionWindowEnd_frame .rfl' (.refl _) ..

/-- What a command leaves, from the state it answers. -/
theorem exec_frame_next {c : Instr} {s t : State} (h : exec c s = .next t) : t.Frame c.footprint s := by
  have frame := exec_frame s c
  rwa [h] at frame

/-- Only register writes, restarts, the commands that move THERM_N and those of the save may change the pins or HOLD. -/
theorem footprint_sparesPower (c : Instr) :
    c.writesRegister = true ∨ c.restarts = true ∨ c.movesThermOrSave = true ∨ (c.footprint.testBit 4 = false ∧ c.footprint.testBit 20 = false) := by
  have split : (c.writesRegister || c.restarts || c.movesThermOrSave || !(c.footprint.testBit 4 || c.footprint.testBit 20)) = true := by
    cases c <;> simp only [Instr.footprint] <;> rfl
  simpa [or_assoc] using split

/-! ### HOLD and OFF -/

/-- In HOLD, or without power. -/
def State.unpowered (s : State) : Prop := s.hold.isSome = true ∨ s.pins.pwrGood = false

/-- In HOLD or without power, as HOLD's entry and the removal of the supply leave the device: the reset asserted, no track with state, none READY. -/
structure State.Stopped (s : State) : Prop where
  unpowered : s.unpowered
  resetting : s.resetting = true
  trks : s.trks = []
  ready : s.readyTracks = []

/-- HOLD and PWR_GOOD are as in o. -/
structure State.SamePower (s o : State) : Prop where
  hold : s.hold = o.hold
  pwrGood : s.pins.pwrGood = o.pins.pwrGood

theorem State.SamePower.refl (s : State) : s.SamePower s := ⟨rfl, rfl⟩

theorem State.SamePower.trans {s t u : State} (h : s.SamePower t) (g : t.SamePower u) : s.SamePower u :=
  ⟨h.hold.trans g.hold, h.pwrGood.trans g.pwrGood⟩

theorem State.SamePower.unpowered {s o : State} (h : s.SamePower o) (ho : o.unpowered) : s.unpowered := by
  unfold State.unpowered
  rwa [h.hold, h.pwrGood]

theorem State.Frame.samePower {n : Nat} {s o : State} (h : s.Frame n o) (hp : n.testBit 4 = false) (hh : n.testBit 20 = false) : s.SamePower o :=
  ⟨h.hold hh, congrArg Pins.pwrGood (h.pins hp)⟩

/-! ### What a stopped device takes of the host and of the port -/

theorem State.Stopped.linkIs_ready {s : State} (h : s.Stopped) (t : TrackIx) : s.linkIs t .ready = false := by
  have hno : (t : Nat) ∉ s.readyTracks := by simp [h.ready]
  simpa [State.readyTracks, t.isLt] using hno

theorem State.trk_of_trks_nil {s : State} (h : s.trks = []) (t : Nat) : s.trk t = {} := by
  rw [State.trk, h]
  rfl

/-- No packet is taken: nothing was received, and no track is READY. -/
theorem State.Stopped.canTake {s : State} (h : s.Stopped) (t : TrackIx) (p : Pkt) : s.canTake t p = false := by
  rw [State.canTake, h.linkIs_ready, State.trk_of_trks_nil h.trks]
  rfl

theorem State.Stopped.regRequest {s : State} (h : s.Stopped) (t : TrackIx) (p : Pkt) : s.regRequest t p = s := by
  rw [State.regRequest, h.canTake, if_pos Bool.false_ne_true]

/-- While a reset is in progress the port reaches no register: a scan changes the wrapper only (R391). -/
theorem State.scan_of_resetting {s : State} (h : s.resetting = true) (g : State → State × BitVec 64) : ∃ w, s.scan g = { s with wrap := w } := by
  have down (w : Wrap) : ({ s with wrap := w } : State).fabricUp = false := by simp [State.fabricUp, h]
  unfold State.scan
  split
  · exact ⟨s.wrap, rfl⟩
  · simp only [down]
    exact ⟨_, rfl⟩

/-- A register write of a stopped device changes the wrapper at most. -/
theorem State.Stopped.writeFrom {s : State} (h : s.Stopped) (src : WSrc) (size a v : Nat) : ∃ w, s.writeFrom src size a v = { s with wrap := w } := by
  cases src with
  | link t m g => exact ⟨s.wrap, h.regRequest t _⟩
  | port =>
    obtain ⟨w, first⟩ : ∃ w, s.scanWrite a (v % 2 ^ 32) = { s with wrap := w } := State.scan_of_resetting h.resetting _
    unfold State.writeFrom
    dsimp only
    rw [first]
    split
    · exact State.scan_of_resetting (s := { s with wrap := w }) h.resetting _
    · exact ⟨w, rfl⟩

/-- The commands that write a register are register writes from their source. -/
theorem exec_of_writesRegister {c : Instr} (hc : c.writesRegister = true) (s : State) :
    ∃ src size a v, exec c s = .next (s.writeFrom src size a v) := by
  cases c with
  | regAccWrite addr data =>
    refine ⟨.port, 4, addr.toNat, data.toNat, ?_⟩
    have word : data.toNat % 2 ^ 32 = data.toNat := Nat.mod_eq_of_lt data.isLt
    simp only [State.writeFrom, word]
    rfl
  | regWrite | ttFrameLoad | ttStageHold | laneSpareGo | laneCntClr | spareStateWrite | prbsCtlWrite | injGo | trainRetrain | fovGo | chnEnWrite
  | chnBlkRst | chnSwap | bwrGuaranteeWrite | vlqRetuneGo | vlqRetrain | colSpareGo | relayRst | crst | vmapClear | flipArm | repCommit | fuseGo
  | pendingClr | chtestGo | bstAbort | sealVoid | reactWrite | targetRun | targetNap | targetPark | widenGo | glbResetChip | glbBlockRstGo
  | calCommit | winRdGo | winProgGo | winEraseGo | snapGo | rwlLock => exact ⟨_, _, _, _, rfl⟩
  | _ => cases hc

/-! ### The commands whose footprint holds the pins or HOLD -/

/-- Every part of State but the pins and HOLD, as a mask. -/
def allButPower : Nat := 0x7efffef

theorem allButPower_covers {k : Nat} (h : (allButPower ||| k == allButPower) = true) : Covers allButPower k := (Covers.refl _).trans h

theorem State.Frame.allButPower {s o : State} (h : s.Frame allButPower o) : s.SamePower o := h.samePower rfl rfl

theorem State.baseOver_samePower (s : State) : s.baseOver.SamePower s := by
  unfold State.baseOver
  extract_lets past was u v
  have hu : u.Frame allButPower s := State.setFlag_frame .rfl' (allButPower_covers rfl) ..
  have hv : v.Frame allButPower s := .ite (State.raise_frame hu (allButPower_covers rfl) ..) hu
  split
  · exact ⟨hv.allButPower.hold, hv.allButPower.pwrGood⟩
  · exact hv.allButPower

/-- TELEMETRY moves THERM_N and no other pin (R427). -/
theorem execTelemetrySlot_samePower {x : Telemetry} {s t : State} (h : execTelemetrySlot x s = .next t) : t.SamePower s := by
  obtain rfl := Host.Outcome.next.inj h
  split
  · exact .refl s
  extract_lets _ begun sampled railed evaluated voted rated _ based
  have hs : sampled.Frame allButPower s := .foldl (State.Frame.set_thm .rfl' rfl) fun _ _ g =>
    .ite (State.baseSample_frame g (allButPower_covers rfl) ..) g
  have hr : railed.Frame allButPower sampled.baseOver := State.railSamples_frame .rfl' (allButPower_covers rfl) _
  have hrs : railed.SamePower s := (hr.allButPower.trans sampled.baseOver_samePower).trans hs.allButPower
  split
  · exact hrs
  have he : evaluated.Frame allButPower railed := State.modelStep_frame (State.poll_frame .rfl' (allButPower_covers rfl)) (allButPower_covers rfl)
  have hv : voted.Frame allButPower railed := .foldl he fun _ _ g => State.disagree_frame g (allButPower_covers rfl) _
  have hb : based.Frame allButPower railed :=
    State.Frame.set_thm (.foldl hv fun _ _ g => State.refreshRate_frame g (allButPower_covers rfl) _) rfl
  have ht := State.stageThermal_frame (.foldl (l := based.presentLayers) hb fun _ l g => State.throttle_frame g (allButPower_covers rfl) l)
    (allButPower_covers rfl)
  exact ht.allButPower.trans hrs

/-- The switch-off releases THERM_N and moves no other pin (R458, R517). -/
theorem State.switchOff_samePower (s : State) : s.switchOff.SamePower s := by
  unfold State.switchOff
  extract_lets cause lost parked bund chans _ _ _ released awake
  have hp : parked.Frame allButPower s :=
    State.toState_frame (State.setFld_frame (State.resetRegs_frame .rfl' (allButPower_covers rfl) ..) (allButPower_covers rfl) ..)
      (allButPower_covers rfl) _
  have hr : released.SamePower s := ⟨hp.allButPower.hold, hp.allButPower.pwrGood⟩
  have domain {u : State} (g : u.Frame allButPower released) (k : Nat) (b : Bool) : (u.setDomain k b).Frame allButPower released :=
    State.setDomain_frame g (allButPower_covers rfl) k b
  have ha : awake.Frame allButPower released := .foldl .rfl' fun _ _ g =>
    domain (domain (State.upTo_frame g (allButPower_covers rfl) fun _ _ g => domain g ..) ..) ..
  have ht := State.Frame.foldl (l := awake.park.ready) (g := fun s t => (s.setFld Fld.TRK_LSTATE_TX_STATE 3 t).setFld Fld.TRK_LSTATE_RX_STATE 3 t)
    ha fun _ _ g => State.setFld_frame (State.setFld_frame g (allButPower_covers rfl) ..) (allButPower_covers rfl) ..
  exact ht.allButPower.trans hr

theorem State.intoPark_samePower (s : State) : s.intoPark.SamePower s := by
  unfold State.intoPark
  extract_lets ts sent p
  have hs : sent.Frame allButPower s :=
    .foldl (State.dropStaged_frame .rfl' (allButPower_covers rfl)) fun _ _ g => State.sendL3_frame g (allButPower_covers rfl) _
  have hp : ({ sent with park := p } : State).Frame allButPower s := State.Frame.set_park hs rfl
  exact (State.switchOff_samePower _).trans hp.allButPower

/-- The steps of PARK entry keep HOLD and PWR_GOOD. -/
theorem execParkDrainComplete_samePower {a b : Bool} {s t : State} (h : execParkDrainComplete a b s = .next t) : t.SamePower s := by
  obtain rfl := Host.Outcome.next.inj h
  have step (p : ParkStep) : (s.parkStep p).SamePower s := (State.parkStep_frame .rfl' (allButPower_covers rfl) p).allButPower
  split
  · exact .refl s
  · split
    · exact step _
    · exact .refl s
  · split
    · exact (State.startTest_frame .rfl' (allButPower_covers rfl) 1 a b).allButPower
    split
    · exact .refl s
    · exact step _
  · split
    · exact (State.parkCommit_frame .rfl' (allButPower_covers rfl)).allButPower
    · exact .refl s
  · split
    · exact .refl s
    · exact s.intoPark_samePower

/-- The save changes the HOLD in progress and does not end it (R436). -/
theorem State.modHold_unpowered {s : State} (h : s.unpowered) (g : Hold → Hold) : (s.modHold g).unpowered := by
  simpa [State.unpowered, State.modHold] using h

theorem State.Stopped.exec_movesThermOrSave_unpowered {c : Instr} (hc : c.movesThermOrSave = true) {s t : State} (h : s.Stopped)
    (e : exec c s = .next t) : t.unpowered := by
  cases c with
  | frameTick =>
    obtain rfl := Host.Outcome.next.inj e
    rw [if_pos (.inr (.inr h.resetting))]
    exact h.unpowered
  | telemetrySlot => exact (execTelemetrySlot_samePower e).unpowered h.unpowered
  | parkDrainComplete => exact (execParkDrainComplete_samePower e).unpowered h.unpowered
  | holdSaveNvmReady | holdSavePageDone | holdSavePageTimeout =>
    obtain rfl := Host.Outcome.next.inj e
    exact State.modHold_unpowered h.unpowered _
  | _ => cases hc

/-! ### The commands that reset, restart or power the device -/

/-- HOLD is entered from a powered device outside HOLD only (R434, R526). -/
theorem State.holdEntry_of_unpowered {s : State} (h : s.unpowered) (rail sample : Nat) : s.holdEntry rail sample = s :=
  if_pos (h.imp_right fun g => by simp [g])

theorem execSupplySag_of_unpowered {s : State} (h : s.unpowered) (rail : BitVec 4) (sample : BitVec 14) :
    execSupplySag rail sample s = .next (if rail = 0xF then { s with pins := { s.pins with pwrGood := false } } else s) := by
  simp only [execSupplySag, State.holdEntry_of_unpowered h]

theorem execRefclkLoss_of_unpowered {s : State} (h : s.unpowered) :
    execRefclkLoss s = .next (if ¬ s.pins.pwrGood then s else { s with pins := { s.pins with refclk := false } }) := by
  simp only [execRefclkLoss, State.holdEntry_of_unpowered h]

theorem execResetNFall_of_low {s : State} (h : s.pins.resetN = false) : execResetNFall s = .next s :=
  if_pos (by simp [h])

/-- The reset pin is ignored in HOLD and without power, but for its level (R452, R523). -/
theorem execResetNFall_of_unpowered {s : State} (h : s.unpowered) (hr : s.pins.resetN = true) :
    execResetNFall s = .next { s with pins := { s.pins with resetN := false } } := by
  have still : s.hold.isSome ∨ ¬ s.pins.pwrGood := h.imp_right fun g => by simp [g]
  simp only [execResetNFall, hr, not_true_eq_false, if_false, if_pos still]

theorem execResetNRise_of_unpowered {s : State} (h : s.unpowered) :
    execResetNRise s = .next { s with pins := { s.pins with resetN := true } } := by
  have still : s.hold.isSome ∨ ¬ s.pins.pwrGood ∨ ¬ s.start.held ∨ s.start.chip := h.imp_right fun g => .inl (by simp [g])
  simp only [execResetNRise, if_pos still]

/-- A CHIP reset that arrives during another reset merges into it (R453). -/
theorem State.chipReset_of_resetting {s : State} (h : s.resetting = true) (cause : Nat) : s.chipReset cause = s := if_pos h

theorem execCrsDue_of_resetting {s : State} (h : s.resetting = true) : execCrsDue s = .next s := by
  unfold execCrsDue
  split
  · rfl
  · rw [State.chipReset_of_resetting h, ite_self]

/-- During a reset a RESET set is taken and does nothing more (R109). -/
theorem execResetSetRx_of_resetting {s : State} (h : s.resetting = true) (t : TrackIx) (content : BitVec 32) (slots : Nat) :
    execResetSetRx t content slots s = .next ((s.takeSet t .reset).modTrn t fun x => { x with reset := 0 }) := by
  have taken : (s.takeSet t .reset).Frame 0x20 s := State.takeSet_frame .rfl' (.refl _) ..
  have still : ((s.takeSet t .reset).modTrn t fun x => { x with reset := 0 }).resetting = true := (taken.resetting rfl).trans h
  unfold execResetSetRx
  simp only [still, not_true_eq_false, and_false, if_false]

theorem State.Stopped.execFenceRelease {s : State} (h : s.Stopped) (t : TrackIx) (master : BitVec 6) : execFenceRelease t master s = .next s := by
  simp only [Machine.execFenceRelease, State.trk_of_trks_nil h.trks]
  rfl

/-- From HOLD and OFF only PWR_GOOD_RISE and HOLD_EXIT_POR lead out (R16, R437, R463). -/
theorem State.Stopped.exec_restarts_unpowered {c : Instr} (hc : c.restarts = true) (hrise : c ≠ .pwrGoodRise) (hexit : c ≠ .holdExitPor) {s t : State}
    (h : s.Stopped) (e : exec c s = .next t) : t.unpowered := by
  cases c with
  | pwrGoodRise => exact absurd rfl hrise
  | holdExitPor => exact absurd rfl hexit
  | supplySag rail sample =>
    cases (execSupplySag_of_unpowered h.unpowered rail sample).symm.trans e
    split
    · exact .inr rfl
    · exact h.unpowered
  | refclkLoss =>
    cases (execRefclkLoss_of_unpowered h.unpowered).symm.trans e
    split <;> exact h.unpowered
  | supplyRemoved =>
    cases e
    exact .inr rfl
  | resetNFall =>
    cases hr : s.pins.resetN with
    | false =>
      cases (execResetNFall_of_low hr).symm.trans e
      exact h.unpowered
    | true =>
      cases (execResetNFall_of_unpowered h.unpowered hr).symm.trans e
      exact h.unpowered
  | resetNRise =>
    cases (execResetNRise_of_unpowered h.unpowered).symm.trans e
    exact h.unpowered
  | chipResetHoldEnd =>
    have kept : t.SamePower s := (exec_frame_next e).samePower rfl rfl
    exact kept.unpowered h.unpowered
  | crsDue =>
    cases (execCrsDue_of_resetting h.resetting).symm.trans e
    exact h.unpowered
  | resetSetRx track content slots =>
    cases (execResetSetRx_of_resetting h.resetting track content slots).symm.trans e
    have taken : (s.takeSet track .reset).Frame 0x20 s := State.takeSet_frame .rfl' (.refl _) ..
    exact (taken.samePower rfl rfl).unpowered h.unpowered
  | rrd track p =>
    cases (congrArg Host.Outcome.next (h.regRequest track _)).symm.trans e
    exact h.unpowered
  | fenceRelease track master =>
    cases (h.execFenceRelease track master).symm.trans e
    exact h.unpowered
  | _ => cases hc

/-- A stopped device stays in HOLD or without power under every command but PWR_GOOD_RISE and HOLD_EXIT_POR. -/
theorem State.Stopped.exec_unpowered {c : Instr} (hrise : c ≠ .pwrGoodRise) (hexit : c ≠ .holdExitPor) {s t : State}
    (h : s.Stopped) (e : exec c s = .next t) : t.unpowered := by
  rcases footprint_sparesPower c with hw | hr | hm | ⟨hpins, hhold⟩
  · obtain ⟨src, size, a, v, write⟩ := exec_of_writesRegister hw s
    obtain ⟨w, wrapped⟩ := h.writeFrom src size a v
    cases write.symm.trans e
    rw [wrapped]
    exact h.unpowered
  · exact h.exec_restarts_unpowered hr hrise hexit e
  · exact h.exec_movesThermOrSave_unpowered hm e
  · exact ((exec_frame_next e).samePower hpins hhold).unpowered h.unpowered

theorem State.not_unpowered_of_powered {s : State} (hh : s.hold = none) (hp : s.pins.pwrGood = true) : ¬ s.unpowered := by
  simp [State.unpowered, hh, hp]

/-- HOLD's entry asserts the reset and leaves no track with state (R435, R463). -/
theorem State.holdEntry_of_powered {s : State} (hh : s.hold = none) (hp : s.pins.pwrGood = true) (rail sample : Nat) :
    (s.holdEntry rail sample).hold.isSome = true ∧ (s.holdEntry rail sample).resetting = true ∧ (s.holdEntry rail sample).trks = [] := by
  unfold State.holdEntry
  rw [if_neg (by simp [hh, hp])]
  exact ⟨rfl, rfl, rfl⟩

/-- What leaves HOLD or OFF is a POR start: every register is at its reset value. -/
theorem execPwrGoodRise_regs {s t : State} (hs : s.unpowered) (e : execPwrGoodRise s = .next t) (ht : t.hold = none) : t.regs = [] := by
  unfold execPwrGoodRise at e
  split at e
  · rename_i held
    cases e
    have left : s.hold = none := ht
    simp [left] at held
  · rename_i out
    rw [if_neg (by simp [hs.resolve_left out])] at e
    cases e
    exact State.porStart_regs s

theorem execHoldExitPor_regs {s t : State} (hs : s.unpowered) (e : execHoldExitPor s = .next t) (ht : ¬ t.unpowered) : t.regs = [] := by
  unfold execHoldExitPor at e
  split at e
  · cases e
    exact absurd hs ht
  · split at e
    · cases e
      exact State.porStart_regs s
    · cases e
      exact absurd hs ht

/-- Settles O56: what ends HOLD and OFF is a POR, since every other command of a stopped device leaves HOLD and PWR_GOOD. -/
theorem holdAndOffEndOnlyInPor : Obligations.HoldAndOffEndOnlyInPor := by
  refine ⟨fun rail sample s t hh hp e => ?_, fun c s t hr htrks hready hs e hh hp => ?_⟩
  · rcases e with e | e
    · cases e
      split <;> exact State.holdEntry_of_powered hh hp ..
    · obtain rfl := Host.Outcome.next.inj e
      rw [if_neg (by simp [hp])]
      exact State.holdEntry_of_powered hh hp ..
  · have stopped : s.Stopped := ⟨hs, hr, htrks, hready⟩
    have powered : ¬ t.unpowered := State.not_unpowered_of_powered hh hp
    by_cases hrise : c = .pwrGoodRise
    · subst hrise
      exact ⟨.inl rfl, State.fld_of_nil (execPwrGoodRise_regs hs e hh)⟩
    by_cases hexit : c = .holdExitPor
    · subst hexit
      exact ⟨.inr rfl, State.fld_of_nil (execHoldExitPor_regs hs e powered)⟩
    · exact absurd (stopped.exec_unpowered hrise hexit e) powered

/-! ### Reset, the reset pin and the removal of the supply -/

/-- Settles O6: State.reset lists no register value, so every field reads its Reset column. -/
theorem resetReadsResetValues : Obligations.ResetReadsResetValues := by
  have reads : ∀ (f : Field) (i j : Nat), State.reset.fld f i j = f.reset i j := State.fld_of_nil rfl
  have disabled (t : Nat) : State.reset.fld Fld.TRK_TRAIN_STATUS_STATE t = LinkState.disabled.code := reads ..
  refine ⟨reads, reads .., reads .., ?_, ?_, fun _ => reads .., fun _ => ?_, rfl, rfl, fun t _ => ?_⟩
  · rw [State.flag, reads]
    rfl
  · rw [State.inState, reads]
    rfl
  · exact BitVec.getLsbD_zero
  · rw [State.linkIs, State.linkIs, disabled]
    exact ⟨rfl, rfl⟩

/-- The acknowledged fills of a state do not depend on its pins. -/
theorem State.ackedFills_setPins (s : State) (p : Pins) : { s with pins := p }.ackedFills = { s.ackedFills with pins := p } := by
  unfold State.ackedFills
  split
  · next h => rw [if_pos (show s.vmap.clear = true ∨ s.pilotOn = true from h)]
  · next h =>
    rw [if_neg (show ¬ (s.vmap.clear = true ∨ s.pilotOn = true) from h)]
    refine List.foldl_hom (fun t : State => { t with pins := p }) fun t f => ?_
    split
    · next h => rw [if_pos (show t.vbit f.wagon = true from h)]
    · next h => rw [if_neg (show ¬ t.vbit f.wagon = true from h)]; rfl

/-- A field a device reset does not write itself reads its reset value, or as before where the kind keeps it (R14, R465). -/
theorem State.fld_deviceReset {s : State} {k : ResetKind} {cause : Nat} {f : Field} {i j : Nat} {x : FieldAt}
    (hx : fieldOfKey (f.key i j) = some x) (hne : f.key i j ≠ Fld.GLB_STATE_CAUSE.key 0 0) :
    (s.deviceReset k cause).fld f i j = if x.f.keeps k = true then s.fld f i j else f.reset i j := by
  rw [State.fld_congr (s.deviceReset_regs k cause), State.fld_setFld_ne _ _ hne]
  split
  · next kept => exact State.fld_resetRegs_kept hx (.inr kept)
  · next lost => exact State.fld_resetRegs_lost rfl hx (by simpa using lost)

theorem State.fld_deviceReset_cause (s : State) (k : ResetKind) (cause : Nat) :
    (s.deviceReset k cause).fld Fld.GLB_STATE_CAUSE = cause % 2 ^ Fld.GLB_STATE_CAUSE.width := by
  rw [State.fld_congr (s.deviceReset_regs k cause), State.fld_setFld_same]

/-- The state with the RESET_N pin low. -/
def State.resetNLow (s : State) : State := { s with pins := { s.pins with resetN := false } }

/-- RESET_N falling on a powered device outside HOLD is a PIN reset (R452). -/
theorem execResetNFall_of_powered {s : State} (hh : s.hold = none) (hp : s.pins.pwrGood = true) (hr : s.pins.resetN = true) :
    execResetNFall s = .next (s.resetNLow.deviceReset .pin 2) := by
  simp [execResetNFall, State.resetNLow, hh, hp, hr]

/-- Settles O8: RESET_N falling is a device reset by PIN, and the removal of the supply a POR that never starts. -/
theorem pinResetAndSupplyRemoval : Obligations.PinResetAndSupplyRemoval := by
  refine ⟨fun s hh hp hr => ?_, fun s hs hr => execResetNFall_of_unpowered hs hr, fun s hr => execResetNFall_of_low hr, fun s => ?_⟩
  · have shape := s.resetNLow.deviceReset_eq .pin 2
    have mem : (s.resetNLow.deviceReset .pin 2).vmap.mem = s.ackedFills.vmap.mem :=
      (congrArg (·.vmap.mem) shape).trans (by rw [State.resetNLow, State.ackedFills_setPins])
    have fields {f : Field} {i j : Nat} {x : FieldAt} (hx : fieldOfKey (f.key i j) = some x) (hne : f.key i j ≠ Fld.GLB_STATE_CAUSE.key 0 0) :
        (s.resetNLow.deviceReset .pin 2).fld f i j = if x.f.keeps .pin = true then s.fld f i j else f.reset i j := State.fld_deviceReset hx hne
    exact ⟨_, execResetNFall_of_powered hh hp hr, congrArg State.pins shape, congrArg State.resetting shape, congrArg (·.start.held) shape,
      congrArg (·.start.running) shape, congrArg State.trks shape, congrArg State.tags shape, congrArg State.chans shape, congrArg State.vert shape,
      congrArg State.bwr shape, congrArg State.park shape, mem, congrArg (·.rep.copy) shape, congrArg (·.rep.deltas) shape,
      congrArg (·.bst.cur) shape, congrArg State.nvm shape, congrArg State.wrap shape, (congrArg State.pending shape :),
      s.resetNLow.fld_deviceReset_cause .pin 2, fun f i j x => fields⟩
  · exact ⟨_, rfl, rfl, rfl, State.fld_of_nil rfl, rfl, rfl, rfl, rfl, rfl, rfl, rfl, rfl, rfl, rfl⟩

end Machine
end Sys2Proof
end

section
/-! PROOFS. Acknowledgement, refusal and want of an answer of a write train. -/
namespace Sys2Proof.Machine

/-! ### What the operations of an acknowledgement do to their channel -/

theorem State.chan_congr {s t : State} (h : t.chans = s.chans) (c : Nat) : t.chan c = s.chan c := by
  rw [State.chan, h, State.chan]

@[simp] theorem State.chan_bump (s : State) (f : Field) (i j n c : Nat) : (s.bump f i j n).chan c = s.chan c :=
  State.chan_congr ((State.bump_frame .rfl' (.refl _) f i j n).chans rfl) c

@[simp] theorem State.chan_noteMiss (s : State) (b : Nat) (missed : Bool) (c : Nat) : (s.noteMiss b missed).chan c = s.chan c :=
  State.chan_congr ((State.noteMiss_frame .rfl' (.refl _) b missed).chans rfl) c

@[simp] theorem State.cc_noteMiss (s : State) (b : Nat) (missed : Bool) : (s.noteMiss b missed).cc = s.cc :=
  (State.noteMiss_frame .rfl' (.refl _) b missed).cc rfl

@[simp] theorem State.chan_effected (s : State) (ord c : Nat) : (s.effected ord).chan c = s.chan c := rfl

@[simp] theorem State.chan_modEnt_same (s : State) (c ord : Nat) (g : Ent → Ent) :
    (s.modEnt c ord g).chan c = { s.chan c with q := (s.chan c).q.map fun e => if e.ord = ord then g e else e } := s.chan_modChan_same c _

@[simp] theorem State.cc_modLine (s : State) (c ord ix : Nat) (g : LineJob → LineJob) : (s.modLine c ord ix g).cc = s.cc := rfl

/-- A channel whose queue is the one entry of an order number finds it. -/
theorem Chan.ent_of_q {x : Chan} {e : Ent} {ord : Nat} (hq : x.q = [e]) (ho : e.ord = ord) : x.ent ord = some e := by
  simp [Chan.ent, hq, ho]

/-! ### The answer of an entry whose lines are all done -/

theorem Ent.poisonMask_of_clean {e : Ent} (h : ∀ l ∈ e.lines, l.pois = false) : e.poisonMask = 0 := by
  have clean (i : Nat) : (e.lines.any fun l => l.ln = (e.unit + i) / 2 && l.pois) = false := by
    simp +contextual [h]
  refine List.foldlRecOn (motive := fun (m : Nat) => m = 0) _ _ rfl fun m hm i _ => ?_
  rw [clean, hm]
  rfl

/-- A write whose lines hold no poison is answered OK without data (R153). -/
theorem Ent.answer_of_clean_write {e : Ent} (hk : e.kind = .wr) (h : ∀ l ∈ e.lines, l.pois = false) : e.answer = { status := 0 } := by
  simp [Ent.answer, Ent.poisonMask_of_clean h, hk, Status.code]

/-- An entry without answer whose lines are all done closes: its answer is offered with its last line (R195). -/
theorem State.closeEnt_of_done {s : State} {c ord : Nat} {e : Ent} (he : (s.chan c).ent ord = some e) (hr : e.res = none)
    (hd : ∀ l ∈ e.lines, l.st = .done) :
    s.closeEnt c ord = (s.modEnt c ord fun y =>
      { y with res := some { y.answer with ready := e.lines.foldl (fun m l => max m l.due) s.cc }, side := none }).effected ord := by
  have closes : ¬ (e.finished = true ∨ (e.lines.any fun l => l.st != .done) = true) := by
    simpa [Ent.finished, hr] using hd
  simp only [State.closeEnt, he]
  rw [if_neg closes]

/-- A line of an entry as an acknowledgement leaves it. -/
def LineJob.acked (j : LineJob) : LineJob := { j with st := .done, got := 0, pois := false }

/-- The entry of one line closes with that line (R193, R195). -/
theorem State.chan_lineFinal_last {s : State} {c : Nat} {l : TLine} {e : Ent} {j : LineJob} (hq : (s.chan c).q = [e]) (ho : e.ord = l.ord)
    (hx : l.ix = 0) (hk : e.kind = .wr) (hr : e.res = none) (hl : e.lines = [j]) :
    (s.lineFinal c l 0 false).chan c = { s.chan c with
      q := [{ e with lines := [j.acked], res := some { status := 0, ready := max s.cc j.due }, side := none }] } := by
  have lined : (s.modLine c l.ord l.ix LineJob.acked).chan c = { s.chan c with q := [{ e with lines := [j.acked] }] } := by
    simp [State.modLine, hq, ho, hx, hl]
  have found : ((s.modLine c l.ord l.ix LineJob.acked).chan c).ent l.ord = some { e with lines := [j.acked] } :=
    Chan.ent_of_q (congrArg Chan.q lined) ho
  have answer : ({ e with lines := [j.acked] } : Ent).answer = { status := 0 } :=
    Ent.answer_of_clean_write hk (List.forall_mem_singleton.mpr rfl)
  have closed := State.closeEnt_of_done found hr (List.forall_mem_singleton.mpr rfl)
  have shape : s.lineFinal c l 0 false = (s.modLine c l.ord l.ix LineJob.acked).closeEnt c l.ord := rfl
  rw [shape, closed, State.chan_effected, State.chan_modEnt_same, lined]
  simp only [List.map_cons, List.map_nil, if_pos ho, answer]
  rfl

/-! ### WACK_RX (R296) -/

/-- While the receivers are shut neither answer is received (R254). -/
theorem execWackRx_of_shut {c : ChanIx} {s : State} (h : s.cmdShut c = true) (b : BankIx) (n : Fin 32) : execWackRx c b n s = .next s :=
  congrArg Host.Outcome.next (if_pos h)

theorem execWnakRx_of_shut {c : ChanIx} {s : State} (h : s.cmdShut c = true) (b : BankIx) (n : Fin 32) (r : Fin 8) :
    execWnakRx c b n r s = .next s := congrArg Host.Outcome.next (if_pos h)

/-- The write train an acknowledgement names, if it is awaited (R302). -/
def Chan.awaitedWrite (x : Chan) (bank tid : Nat) : Option Train := x.out.find? fun t => t.write && t.tid = tid && t.bank = bank

theorem Chan.awaitedWrite_of_out {x : Chan} {t : Train} {bank tid : Nat} (ho : x.out = [t]) (hw : t.write = true) (hn : t.tid = tid)
    (hb : t.bank = bank) : x.awaitedWrite bank tid = some t := by
  simp [Chan.awaitedWrite, ho, hw, hn, hb]

theorem Chan.awaitedWrite_eq_none {x : Chan} {bank tid : Nat} (h : ∀ t ∈ x.out, t.write = false ∨ t.tid ≠ tid ∨ t.bank ≠ bank) :
    x.awaitedWrite bank tid = none := by
  refine List.find?_eq_none.mpr fun t ht => ?_
  have other := h t ht
  simp only [Bool.and_eq_true, decide_eq_true_eq]
  rintro ⟨⟨hw, hn⟩, hb⟩
  simp [hw, hn, hb] at other

/-- An acknowledgement nothing awaits is stale (R302). -/
theorem execWackRx_of_unawaited {c : ChanIx} {b : BankIx} {n : Fin 32} {s : State} (h : s.cmdShut c = false)
    (hn : (s.chan c).awaitedWrite b n = none) : execWackRx c b n s = .next (s.stale c) := by
  simp only [Chan.awaitedWrite] at hn
  simp [execWackRx, h, hn]

theorem execWnakRx_of_unawaited {c : ChanIx} {b : BankIx} {n : Fin 32} {s : State} (h : s.cmdShut c = false)
    (hn : (s.chan c).awaitedWrite b n = none) (r : Fin 8) : execWnakRx c b n r s = .next (s.stale c) := by
  simp only [Chan.awaitedWrite] at hn
  simp [execWnakRx, h, hn]

/-- A refused train is counted, reported with its reason and resent (R296, R304). -/
theorem execWnakRx_of_awaited {c : ChanIx} {b : BankIx} {n : Fin 32} {t : Train} {s : State} (h : s.cmdShut c = false)
    (ht : (s.chan c).awaitedWrite b n = some t) (r : Fin 8) :
    execWnakRx c b n r s = .next (((s.bump Fld.LAY_CNT_COUNT (layIx c) 4).raise .vlWnak c (vlDetail c 0 0 r.val)).resend c t) := by
  simp only [Chan.awaitedWrite] at ht
  simp [execWnakRx, h, ht]

/-- An acknowledged train counts as outstanding no more, and as a success of its path (R304, R313). -/
def State.ackNoted (s : State) (c tid : Nat) : State :=
  ((s.modChan c fun y => { y with out := y.out.filter fun u => u.tid != tid }).noteGood c).noteMiss c false

theorem State.chan_ackNoted (s : State) (c tid : Nat) :
    (s.ackNoted c tid).chan c = { s.chan c with out := (s.chan c).out.filter fun u => u.tid != tid, failed := 0 } := by
  simp [State.ackNoted, State.noteGood]

theorem State.cc_ackNoted (s : State) (c tid : Nat) : (s.ackNoted c tid).cc = s.cc := State.cc_noteMiss ..

/-- An acknowledged train of one host line finishes that line. -/
theorem execWackRx_of_host_line {c : ChanIx} {b : BankIx} {n : Fin 32} {t : Train} {l : TLine} {s : State} (h : s.cmdShut c = false)
    (ht : (s.chan c).awaitedWrite b n = some t) (hj : t.job = 0) (hl : t.lines = [l]) (hu : l.use = .host) :
    execWackRx c b n s = .next ((s.ackNoted c n).lineFinal c l 0 false) := by
  simp only [Chan.awaitedWrite] at ht
  simp [execWackRx, h, ht, hj, hl, State.lineAcked, hu, State.ackNoted]

/-! ### WACK_TIMEOUT (R304) -/

theorem execWackTimeout_of_late {c : ChanIx} {n : Fin 32} {t : Train} {s : State} (ho : (s.chan c).out = [t]) (hw : t.write = true)
    (hn : t.tid = n.val) (late : t.lands + 8 * s.fld Fld.LAY_XCFG_ACK_SLACK (layIx c) ≤ 15 * s.cc) :
    execWackTimeout c n s = .next ((s.noteMiss c true).resend c t) := by
  have found : ((s.chan c).out.find? fun t => t.write && t.tid = n.val) = some t := by simp [ho, hw, hn]
  simp only [execWackTimeout, found]
  rw [if_neg (Nat.not_lt.mpr late)]

theorem execWackTimeout_of_none_late {c : ChanIx} {n : Fin 32} {s : State}
    (h : ∀ t ∈ (s.chan c).out, t.write = false ∨ t.tid ≠ n.val ∨ 15 * s.cc < t.lands + 8 * s.fld Fld.LAY_XCFG_ACK_SLACK (layIx c)) :
    execWackTimeout c n s = .next s := by
  unfold execWackTimeout
  split
  · rfl
  · next t found =>
    have named : t.write = true ∧ t.tid = n.val := by simpa using List.find?_some found
    have early := h t (List.mem_of_find?_eq_some found)
    rw [if_pos (by simpa [named] using early)]

/-! ### The resend (R304) -/

/-- The reissue limit is none of the eight counts of a layer's events. -/
theorem reissueLimit_key_ne {j : Nat} (hj : j < 8) (i k : Nat) : Fld.LAY_XCFG_REISSUE_LIMIT.key i 0 ≠ Fld.LAY_CNT_COUNT.key k j := by
  simp only [Field.key, Field.addr, Fld.LAY_XCFG_REISSUE_LIMIT, Fld.LAY_CNT_COUNT, Blk.base, Blk.span]
  omega

/-- Below the limit a failure is counted and nothing else. -/
theorem State.noteFail_of_lt {s : State} {c : Nat} (h : (s.chan c).failed + 1 < s.fld Fld.LAY_XCFG_REISSUE_LIMIT (layIx c)) :
    s.noteFail c = s.modChan c fun x => { x with failed := x.failed + 1 } := by
  unfold State.noteFail
  exact if_pos (.inl (by simpa using h))

/-- Which lines are still to be written does not depend on the trains outstanding. -/
theorem State.wanted_modOut (s : State) (c : Nat) (g : List Train → List Train) :
    (s.modChan c fun x => { x with out := g x.out }).wanted c = s.wanted c := by
  funext l
  simp [State.wanted, Chan.ent]

/-- Below the limit a resend moves the train, with the lines still to be written, from those outstanding to those waiting for their turn. -/
theorem State.chan_resend {s : State} {c : Nat} {t : Train} (hlim : (s.chan c).failed + 1 < s.fld Fld.LAY_XCFG_REISSUE_LIMIT (layIx c))
    (hne : t.lines.filter (s.wanted c) ≠ []) :
    (s.resend c t).chan c = { s.chan c with
      out := (s.chan c).out.filter fun y => y.tid != t.tid
      prio := (s.chan c).prio ++ [{ t with again := true, lines := t.lines.filter (s.wanted c) }]
      failed := (s.chan c).failed + 1 } := by
  unfold State.resend
  dsimp only
  rw [State.wanted_modOut, if_neg (by simpa using hne), State.noteFail_of_lt]
  · simp [State.pushPrio]
  · rw [State.fld_bump_ne _ _ (reissueLimit_key_ne (by decide) _ _)]
    simpa [State.pushPrio] using hlim

/-- Settles O35: an acknowledgement looks for the train it names, and what it then does is the line's end, the stale answer or the resend. -/
theorem writeTrainAcknowledgements : Obligations.WriteTrainAcknowledgements := by
  refine ⟨fun c b n s h => ⟨execWackRx_of_shut h b n, execWnakRx_of_shut h b n⟩, ?_, ?_, ?_, ?_, ?_, ?_⟩
  · intro c b n t l e j s h ho hw hn hb hj hl hu hx hq hord hk hr hlines
    have noted := s.chan_ackNoted c n
    have closed := State.chan_lineFinal_last (s := s.ackNoted c n) (c := c) ((congrArg Chan.q noted).trans hq) hord hx hk hr hlines
    rw [noted, State.cc_ackNoted] at closed
    refine ⟨_, _, execWackRx_of_host_line h (Chan.awaitedWrite_of_out ho hw hn hb) hj hl hu, congrArg Chan.q closed, ?_, rfl, rfl, rfl⟩
    rw [closed]
    simp [ho, hn]
  · intro c b n s h hout
    have unawaited := Chan.awaitedWrite_eq_none hout
    exact ⟨execWackRx_of_unawaited h unawaited, execWnakRx_of_unawaited h unawaited⟩
  · intro c b n r t s h ho hw hn hb
    exact execWnakRx_of_awaited h (Chan.awaitedWrite_of_out ho hw hn hb) r
  · intro c n t s ho hw hn late
    exact execWackTimeout_of_late ho hw hn late
  · intro c n s early
    exact execWackTimeout_of_none_late early
  · intro c t s ho hlim hne
    rw [State.chan_resend hlim hne]
    exact ⟨by simp [ho], by simp⟩

end Sys2Proof.Machine
end

section
/-! PROOFS. The address decomposition and its inverse. -/
namespace Sys2Proof.Machine

/-! ### A bank of its pair, half and row, and the pair of a bank (R32, R362, R363) -/

/-- The bank of half wagon `half` of pair n at a row, with or without the hash. -/
def bankOf (hash : Prop) [Decidable hash] (n half row : Nat) : Nat :=
  4 * (2 * (if hash then n % 4 ^^^ row % 4 else n % 4) + half) + (if hash then n / 4 ^^^ row / 4 % 4 else n / 4)

/-- The pair whose half lies in a bank at a row, with or without the hash. -/
def pairAt (hash : Prop) [Decidable hash] (bank row : Nat) : Nat :=
  (if hash then bank / 8 ^^^ row % 4 else bank / 8) + 4 * (if hash then bank % 4 ^^^ row / 4 % 4 else bank % 4)

/-- The hash keeps a bank field within its four values. -/
theorem hashed_lt_four {hash : Prop} [Decidable hash] {a b : Nat} (ha : a < 4) (hb : b < 4) : (if hash then a ^^^ b else a) < 4 := by
  split
  · exact Nat.xor_lt_two_pow (n := 2) ha hb
  · exact ha

/-- Hashing twice by one row gives the value back. -/
theorem hashed_hashed {hash : Prop} [Decidable hash] (a b : Nat) :
    (if hash then (if hash then a ^^^ b else a) ^^^ b else (if hash then a ^^^ b else a)) = a := by
  split
  · rw [Nat.xor_assoc, Nat.xor_self, Nat.xor_zero]
  · rfl

section
variable {hash : Prop} [Decidable hash] {n half row : Nat} (hn : n < 16) (hh : half < 2)
include hn hh

theorem bankOf_lt : bankOf hash n half row < 32 := by
  have group := hashed_lt_four (hash := hash) (Nat.mod_lt n (by decide : 0 < 4)) (Nat.mod_lt row (by decide : 0 < 4))
  have bank := hashed_lt_four (hash := hash) (by omega : n / 4 < 4) (Nat.mod_lt (row / 4) (by decide : 0 < 4))
  unfold bankOf
  omega

theorem pairAt_bankOf : pairAt hash (bankOf hash n half row) row = n := by
  have bank := hashed_lt_four (hash := hash) (by omega : n / 4 < 4) (Nat.mod_lt (row / 4) (by decide : 0 < 4))
  have group_back : bankOf hash n half row / 8 = if hash then n % 4 ^^^ row % 4 else n % 4 := by unfold bankOf; omega
  have bank_back : bankOf hash n half row % 4 = if hash then n / 4 ^^^ row / 4 % 4 else n / 4 := by unfold bankOf; omega
  rw [pairAt, group_back, bank_back, hashed_hashed, hashed_hashed]
  omega

end

/-! ### The lists of the map in force -/

/-- In a list without repetition, what stands before an element counts its place. -/
theorem length_takeWhile_ne_of_getElem? {l : List Nat} {i a : Nat} (hl : l.Nodup) (ha : l[i]? = some a) :
    (l.takeWhile (fun m => m != a)).length = i := by
  obtain ⟨hi, rfl⟩ := List.getElem?_eq_some_iff.mp ha
  have place : l.findIdx (fun m => !(m != l[i])) = i := by
    simp only [bne, Bool.not_not]
    exact hl.idxOf_getElem i hi
  rw [List.takeWhile_eq_take_findIdx_not, place, List.length_take, Nat.min_eq_left (Nat.le_of_lt hi)]

theorem State.mapPairs_nodup (s : State) (c : Nat) : (s.mapPairs c).Nodup := by
  unfold State.mapPairs State.livePairs
  split <;> exact List.nodup_range.filter _

theorem State.lt_of_mem_mapPairs {s : State} {c n : Nat} (h : n ∈ s.mapPairs c) : n < 16 := by
  unfold State.mapPairs State.livePairs at h
  split at h <;> exact List.mem_range.mp (List.mem_filter.mp h).1

theorem State.usedLayers_nodup (s : State) : s.usedLayers.Nodup := by
  unfold State.usedLayers
  split
  · repeat' split
    all_goals simp
  · refine List.pairwise_filterMap.mpr (List.nodup_range.imp fun hne l hl m hm => ?_)
    simp only [Option.ite_none_right_eq_some, Option.some.injEq] at hl hm
    omega

theorem State.pos_of_mem_usedLayers {s : State} {l : Nat} (h : l ∈ s.usedLayers) : 0 < l := by
  unfold State.usedLayers at h
  split at h
  · split at h
    · split at h
      · cases h
      · next nonzero =>
        rw [List.mem_singleton.mp h]
        exact Nat.pos_of_ne_zero nonzero
    · rw [List.mem_singleton.mp h]
      decide
  · obtain ⟨i, -, hi⟩ := List.mem_filterMap.mp h
    simp only [Option.ite_none_right_eq_some, Option.some.injEq] at hi
    omega

/-! ### The decomposition and its inverse (R33, R336, R363) -/

/-- Whether the hash of the bank fields is in force. -/
abbrev State.hashes (s : State) : Prop := s.pairsInForce = 16 ∧ s.flag Fld.GLB_ADDR_MAP_HASH_EN = true

/-- The slot of the wagon of a host line: its place among the channels (R33). -/
def State.lineSlot (s : State) (ln : Nat) : Nat := ln / 64 % s.fld Fld.GLB_ADDR_MAP_CHAN_COUNT

/-- The number of the wagon of a host line within its channel (R33). -/
def State.lineWagon (s : State) (ln : Nat) : Nat := ln / 64 / s.fld Fld.GLB_ADDR_MAP_CHAN_COUNT

/-- Where a host line lies once its used layer and its live pair are known. -/
def State.lineLoc (s : State) (ln l n : Nat) : Loc where
  chan := 4 * (l - 1) + s.lineSlot ln % 4
  bank := bankOf s.hashes n (ln / 32 % 2) (s.lineWagon ln / s.pairsInForce)
  row := s.lineWagon ln / s.pairsInForce
  col := ln % 32

/-- A line lies in the used layer its slot counts to and in the live pair its wagon counts to, and nowhere else. -/
theorem State.decomp_eq_some_iff {s : State} {ln : Nat} {loc : Loc} :
    s.decomp ln = some loc ↔ ∃ l n, s.usedLayers[s.lineSlot ln / 4]? = some l ∧
      (s.mapPairs (4 * (l - 1) + s.lineSlot ln % 4))[s.lineWagon ln % s.pairsInForce]? = some n ∧ s.lineLoc ln l n = loc := by
  simp only [← List.head?_drop, State.decomp, State.lineLoc, State.lineSlot, State.lineWagon, bankOf]
  cases s.usedLayers.drop (ln / 64 % s.fld Fld.GLB_ADDR_MAP_CHAN_COUNT / 4) with
  | nil => simp
  | cons l ls =>
    cases pairs : (s.mapPairs (4 * (l - 1) + ln / 64 % s.fld Fld.GLB_ADDR_MAP_CHAN_COUNT % 4)).drop
        (ln / 64 / s.fld Fld.GLB_ADDR_MAP_CHAN_COUNT % s.pairsInForce) with
    | nil => simp [pairs, -List.head?_drop]
    | cons n ns => simp [pairs, State.hashes, -List.head?_drop]

/-- The inverse finds the wagon from the place of a bank's pair and of a channel's layer. -/
theorem State.wagonOf_eq {s : State} {c bank row k u : Nat} (hk : k < s.pairsInForce)
    (hpair : (s.mapPairs c)[k]? = some (pairAt s.hashes bank row)) (hlayer : s.usedLayers[u]? = some (layerOf c)) :
    s.wagonOf c bank row = some ((row * s.pairsInForce + k) * s.fld Fld.GLB_ADDR_MAP_CHAN_COUNT + 4 * u + c % 4) := by
  have pair_place := length_takeWhile_ne_of_getElem? (s.mapPairs_nodup c) hpair
  have layer_place := length_takeWhile_ne_of_getElem? s.usedLayers_nodup hlayer
  have pair_mem := List.contains_iff_mem.mpr (List.mem_of_getElem? hpair)
  have layer_mem := List.contains_iff_mem.mpr (List.mem_of_getElem? hlayer)
  simp only [pairAt] at pair_place pair_mem
  simp only [State.wagonOf, pair_place, layer_place]
  exact if_pos ⟨hk, pair_mem, layer_mem⟩

/-- The number of a wagon from its slot and its place in the channel. -/
theorem State.lineWagon_compose (s : State) (ln : Nat) :
    (s.lineWagon ln / s.pairsInForce * s.pairsInForce + s.lineWagon ln % s.pairsInForce) * s.fld Fld.GLB_ADDR_MAP_CHAN_COUNT +
      4 * (s.lineSlot ln / 4) + s.lineSlot ln % 4 = ln / 64 := by
  rw [Nat.div_add_mod', Nat.add_assoc, Nat.div_add_mod]
  exact Nat.div_add_mod' ..

/-- R336: the channel, bank and row of a line tell its wagon. -/
theorem State.wagonOf_lineLoc {s : State} {ln l n : Nat} (hp : 0 < s.pairsInForce) (hl : s.usedLayers[s.lineSlot ln / 4]? = some l)
    (hn : (s.mapPairs (4 * (l - 1) + s.lineSlot ln % 4))[s.lineWagon ln % s.pairsInForce]? = some n) :
    s.wagonOf (s.lineLoc ln l n).chan (s.lineLoc ln l n).bank (s.lineLoc ln l n).row = some (ln / 64) := by
  have l_pos : 0 < l := s.pos_of_mem_usedLayers (List.mem_of_getElem? hl)
  have layer : layerOf (s.lineLoc ln l n).chan = l := by simp only [layerOf, State.lineLoc]; omega
  have pair : pairAt s.hashes (s.lineLoc ln l n).bank (s.lineLoc ln l n).row = n :=
    pairAt_bankOf (s.lt_of_mem_mapPairs (List.mem_of_getElem? hn)) (Nat.mod_lt _ (by decide))
  have in_slot : (s.lineLoc ln l n).chan % 4 = s.lineSlot ln % 4 := by simp only [State.lineLoc]; omega
  have found := State.wagonOf_eq (c := (s.lineLoc ln l n).chan) (Nat.mod_lt _ hp) (hn.trans (congrArg some pair.symm))
    (hl.trans (congrArg some layer.symm))
  rw [found, in_slot]
  exact congrArg some (s.lineWagon_compose ln)

/-- R33: with the layers 1 to n and every pair in force, the slot is the channel and the wagon counts rows of 16 pairs. -/
theorem State.decomp_of_full {s : State} {n : Nat} (h0 : 0 < n) (hl : s.usedLayers = (List.range n).map (· + 1))
    (hc : s.fld Fld.GLB_ADDR_MAP_CHAN_COUNT = 4 * n) (hp : s.pairsInForce = 16) (hm : ∀ c < 4 * n, s.mapPairs c = List.range 16) (ln : Nat) :
    s.decomp ln = some { chan := s.lineSlot ln, bank := bankOf s.hashes (s.lineWagon ln % 16) (ln / 32 % 2) (s.lineWagon ln / 16)
                         row := s.lineWagon ln / 16, col := ln % 32 } := by
  have slot_lt : s.lineSlot ln < 4 * n := by
    rw [State.lineSlot, hc]
    exact Nat.mod_lt _ (by omega)
  have chan : 4 * (s.lineSlot ln / 4 + 1 - 1) + s.lineSlot ln % 4 = s.lineSlot ln := by omega
  refine State.decomp_eq_some_iff.mpr ⟨s.lineSlot ln / 4 + 1, s.lineWagon ln % 16, ?_, ?_, ?_⟩
  · rw [hl, List.getElem?_map, List.getElem?_range (by omega)]
    rfl
  · rw [chan, hm _ slot_lt, hp, List.getElem?_range (Nat.mod_lt _ (by decide))]
  · simp only [State.lineLoc, chan, hp]

/-- Settles O54: a line's layer and pair stand at the places its number gives, and a list without repetition gives the places back. -/
theorem addressesDecomposeAndComposeBack : Obligations.AddressesDecomposeAndComposeBack := by
  refine ⟨fun s n A h0 hl hc hp hm => ?_, fun s ln loc hp h => ?_⟩
  · have wagon : A / 64 / 64 = A / 4096 := Nat.div_div_eq_div_mul ..
    have half : A / 64 / 32 = A / 2048 := Nat.div_div_eq_div_mul ..
    have group (w : Nat) : w % 16 % 4 = w % 4 := by omega
    have bank (w : Nat) : w % 16 / 4 = w / 4 % 4 := by omega
    rw [State.decomp_of_full h0 hl hc hp hm]
    simp only [State.lineSlot, State.lineWagon, bankOf, State.hashes, hc, hp, wagon, half, group, bank, true_and]
  · obtain ⟨l, n, hl, hn, rfl⟩ := State.decomp_eq_some_iff.mp h
    exact ⟨State.wagonOf_lineLoc hp hl hn, bankOf_lt (s.lt_of_mem_mapPairs (List.mem_of_getElem? hn)) (Nat.mod_lt _ (by decide)), rfl⟩

end Sys2Proof.Machine
end

section
/-! PROOFS. The header row: fields packed side by side, and HCRC over the first 14 bytes. -/
namespace Sys2Proof.Machine

/-! ### Fields packed side by side -/

/-- A field of a row: its width and its value. -/
abbrev RowField := (w : Nat) × BitVec w

/-- Fields side by side, the first in the lowest bits. -/
def packFields : List RowField → Nat
  | [] => 0
  | f :: fs => f.2.toNat + 2 ^ f.1 * packFields fs

/-- The bits that fields take together. -/
def fieldsWidth : List RowField → Nat
  | [] => 0
  | f :: fs => f.1 + fieldsWidth fs

theorem packFields_lt : ∀ fs : List RowField, packFields fs < 2 ^ fieldsWidth fs
  | [] => Nat.one_pos
  | f :: fs => by
    have carried : f.2.toNat < 2 ^ f.1 * 1 := by simpa using f.2.isLt
    have rest : 2 ^ f.1 * (packFields fs + 1) ≤ 2 ^ f.1 * 2 ^ fieldsWidth fs := Nat.mul_le_mul_left _ (packFields_lt fs)
    rw [packFields, fieldsWidth, Nat.pow_add]
    rw [Nat.mul_add] at rest
    omega

theorem packFields_append (fs gs : List RowField) : packFields (fs ++ gs) = packFields fs + 2 ^ fieldsWidth fs * packFields gs := by
  induction fs with
  | nil => simp [packFields, fieldsWidth]
  | cons f fs ih => rw [List.cons_append, packFields, ih, packFields, fieldsWidth, Nat.pow_add, Nat.mul_add, Nat.mul_assoc, Nat.add_assoc]

/-- What stands above fields is what is packed after them. -/
theorem packFields_append_div (fs gs : List RowField) : packFields (fs ++ gs) / 2 ^ fieldsWidth fs = packFields gs := by
  rw [packFields_append, Nat.add_mul_div_left _ _ (Nat.two_pow_pos _), Nat.div_eq_of_lt (packFields_lt fs), Nat.zero_add]

theorem packFields_cons_mod (f : RowField) (fs : List RowField) : packFields (f :: fs) % 2 ^ f.1 = f.2.toNat := by
  rw [packFields, Nat.add_mul_mod_self_left, Nat.mod_eq_of_lt f.2.isLt]

/-- A field is read back from the bits where the fields before it end. -/
theorem bits_packFields {fs : List RowField} {f : RowField} {i hi lo : Nat} (hf : fs[i]? = some f) (hlo : fieldsWidth (fs.take i) = lo)
    (hhi : hi - lo + 1 = f.1) : bits (packFields fs) hi lo = f.2.toNat := by
  obtain ⟨bound, found⟩ := List.getElem?_eq_some_iff.mp hf
  have cut : fs = fs.take i ++ f :: fs.drop (i + 1) := by
    rw [← found, ← List.drop_eq_getElem_cons bound, List.take_append_drop]
  have above := packFields_append_div (fs.take i) (f :: fs.drop (i + 1))
  rw [← cut, hlo] at above
  rw [bits, hhi, above, packFields_cons_mod]

theorem testBit_eq_bits (x i : Nat) : x.testBit i = decide (bits x i i = 1) := by
  simp only [bits, Nat.sub_self, Nat.zero_add, Nat.pow_one, Nat.testBit_eq_decide_div_mod_eq]

/-! ### The bytes of a number -/

@[simp] theorem length_natBytes (k x : Nat) : (natBytes k x).length = k := by simp [natBytes]

theorem natBytes_add (j k x : Nat) : natBytes (j + k) x = natBytes j x ++ natBytes k (x / 2 ^ (8 * j)) := by
  simp [natBytes, List.range_add, ← Nat.shiftRight_eq_div_pow, ← Nat.shiftRight_add, Nat.mul_add]

/-- The low bytes of a number do not depend on what stands above them. -/
theorem natBytes_mod (k x : Nat) : natBytes k (x % 2 ^ (8 * k)) = natBytes k x := by
  refine List.map_congr_left fun i hi => BitVec.eq_of_getLsbD_eq fun j hj => ?_
  have inside : 8 * i + j < 8 * k := by have := List.mem_range.mp hi; omega
  simp only [BitVec.getLsbD_ofNat, Nat.testBit_shiftRight, Nat.testBit_mod_two_pow, inside, decide_true, Bool.true_and]

/-! ### The header row (R136, R137) -/

/-- The fields of a header row below HCRC, in the order of R136. -/
def Pkt.headerFields (p : Pkt) (tail : BitVec 24) (ack : Byte) (nak : Bool) : List RowField :=
  [⟨24, tail⟩, ⟨5, p.typ⟩, ⟨14, p.tag⟩, ⟨6, p.master⟩, ⟨4, p.len⟩, ⟨32, p.addr⟩, ⟨8, p.seq⟩, ⟨8, ack⟩,
    ⟨1, BitVec.ofBool nak⟩, ⟨4, p.retReq⟩, ⟨6, p.retData⟩]

section
variable (p : Pkt) (tail : BitVec 24) (ack : Byte) (nak : Bool)

/-- HCRC of a header row. -/
def Pkt.headerCrc : BitVec 16 := hcrc (natBytes 14 (packFields (p.headerFields tail ack nak)))

/-- All fields of a header row, HCRC on top. -/
def Pkt.rowFields : List RowField := p.headerFields tail ack nak ++ [⟨16, p.headerCrc tail ack nak⟩]

/-- The header row is its fields packed, HCRC on top. -/
theorem Pkt.toNat_header : (p.header tail ack nak).toNat = packFields (p.rowFields tail ack nak) := by
  have packed : tail.toNat + p.typ.toNat * 2 ^ 24 + p.tag.toNat * 2 ^ 29 + p.master.toNat * 2 ^ 43 + p.len.toNat * 2 ^ 49 +
      p.addr.toNat * 2 ^ 53 + p.seq.toNat * 2 ^ 85 + ack.toNat * 2 ^ 93 + b2n nak * 2 ^ 101 + p.retReq.toNat * 2 ^ 102 +
      p.retData.toNat * 2 ^ 106 = packFields (p.headerFields tail ack nak) := by
    have flag : (BitVec.ofBool nak).toNat = b2n nak := by cases nak <;> rfl
    simp only [Pkt.headerFields, packFields, flag]
    omega
  have whole : packFields (p.rowFields tail ack nak) =
      packFields (p.headerFields tail ack nak) + (p.headerCrc tail ack nak).toNat * 2 ^ 112 :=
    (packFields_append ..).trans (congrArg _ (Nat.mul_comm ..))
  simp only [Pkt.header, packed]
  rw [BitVec.toNat_ofNat, whole]
  exact Nat.mod_eq_of_lt (whole ▸ packFields_lt (p.rowFields tail ack nak))

/-- The bytes of a header row: 14 of its fields, then HCRC of them, little-endian. -/
theorem Pkt.rowBytes_header : rowBytes (p.header tail ack nak) =
    natBytes 14 (packFields (p.headerFields tail ack nak)) ++ natBytes 2 (p.headerCrc tail ack nak).toNat := by
  have above : packFields (p.rowFields tail ack nak) / 2 ^ (8 * 14) = (p.headerCrc tail ack nak).toNat := packFields_append_div ..
  have below : packFields (p.rowFields tail ack nak) % 2 ^ (8 * 14) = packFields (p.headerFields tail ack nak) :=
    (congrArg (· % 2 ^ (8 * 14)) (packFields_append ..)).trans
      ((Nat.add_mul_mod_self_left ..).trans (Nat.mod_eq_of_lt (packFields_lt (p.headerFields tail ack nak))))
  calc rowBytes (p.header tail ack nak) = natBytes (14 + 2) (packFields (p.rowFields tail ack nak)) :=
        congrArg (natBytes 16) (p.toNat_header tail ack nak)
    _ = natBytes 14 (packFields (p.rowFields tail ack nak) % 2 ^ (8 * 14)) ++ natBytes 2 (p.headerCrc tail ack nak).toNat := by
        rw [natBytes_add, above, natBytes_mod]
    _ = _ := by rw [below]

theorem Pkt.take_rowBytes_header : (rowBytes (p.header tail ack nak)).take 14 = natBytes 14 (packFields (p.headerFields tail ack nak)) := by
  rw [p.rowBytes_header tail ack nak, List.take_left' (length_natBytes ..)]

theorem Pkt.drop_rowBytes_header : (rowBytes (p.header tail ack nak)).drop 14 = natBytes 2 (p.headerCrc tail ack nak).toNat := by
  rw [p.rowBytes_header tail ack nak, List.drop_left' (length_natBytes ..)]

/-- Field i of a header row reads back from its bits. -/
theorem Pkt.bits_header {p : Pkt} {tail : BitVec 24} {ack : Byte} {nak : Bool} {f : RowField} {i hi lo : Nat}
    (hf : (p.rowFields tail ack nak)[i]? = some f) (hlo : fieldsWidth ((p.rowFields tail ack nak).take i) = lo) (hhi : hi - lo + 1 = f.1) :
    bits (p.header tail ack nak).toNat hi lo = f.2.toNat := by
  rw [p.toNat_header tail ack nak, bits_packFields hf hlo hhi]

theorem Pkt.parseHeader_header : parseHeader (p.header tail ack nak) =
    some ({ typ := p.typ, tag := p.tag, master := p.master, len := p.len, addr := p.addr, seq := p.seq, ackSeq := ack, nak := nak
            retReq := p.retReq, retData := p.retData }, tail) := by
  let row := (p.header tail ack nak).toNat
  have crc : bits row 127 112 = (p.headerCrc tail ack nak).toNat := Pkt.bits_header (i := 11) rfl rfl rfl
  have retData : bits row 111 106 = p.retData.toNat := Pkt.bits_header (i := 10) rfl rfl rfl
  have retReq : bits row 105 102 = p.retReq.toNat := Pkt.bits_header (i := 9) rfl rfl rfl
  have nakBit : bits row 101 101 = (BitVec.ofBool nak).toNat := Pkt.bits_header (i := 8) rfl rfl rfl
  have ackSeq : bits row 100 93 = ack.toNat := Pkt.bits_header (i := 7) rfl rfl rfl
  have seq : bits row 92 85 = p.seq.toNat := Pkt.bits_header (i := 6) rfl rfl rfl
  have addr : bits row 84 53 = p.addr.toNat := Pkt.bits_header (i := 5) rfl rfl rfl
  have len : bits row 52 49 = p.len.toNat := Pkt.bits_header (i := 4) rfl rfl rfl
  have master : bits row 48 43 = p.master.toNat := Pkt.bits_header (i := 3) rfl rfl rfl
  have tag : bits row 42 29 = p.tag.toNat := Pkt.bits_header (i := 2) rfl rfl rfl
  have typ : bits row 28 24 = p.typ.toNat := Pkt.bits_header (i := 1) rfl rfl rfl
  have lamp : bits row 23 0 = tail.toNat := Pkt.bits_header (i := 0) rfl rfl rfl
  have nakFlag : row.testBit 101 = nak := by
    rw [testBit_eq_bits, nakBit]
    cases nak <;> rfl
  have passes : hcrc ((rowBytes (p.header tail ack nak)).take 14) = BitVec.ofNat 16 (bits row 127 112) := by
    rw [p.take_rowBytes_header tail ack nak, crc, BitVec.ofNat_toNat, BitVec.setWidth_eq, Pkt.headerCrc]
  refine (if_pos passes).trans ?_
  simp only [row, typ, tag, master, len, addr, seq, ackSeq, nakFlag, retReq, retData, lamp, BitVec.ofNat_toNat, BitVec.setWidth_eq]

end

/-! ### HCRC bit by bit (R137) -/

theorem crcBit_eq_xor (poly c : BitVec 16) (b : Bool) : crcBit poly c b = (c <<< 1) ^^^ (if (c.getLsbD 15 != b) = true then poly else 0) := by
  have msb : c.msb = c.getLsbD 15 := rfl
  cases differs : c.getLsbD 15 != b <;> simp_all [crcBit]

theorem hcrc_append_singleton (bs : List Byte) (b : Byte) : hcrc (bs ++ [b]) =
    (List.range 8).foldl (fun (c : BitVec 16) (i : Nat) => (c <<< 1) ^^^ (if (c.getLsbD 15 != b.getLsbD (7 - i)) = true then 0x1021 else 0))
      (hcrc bs) := by
  have downward : [7, 6, 5, 4, 3, 2, 1, 0] = (List.range 8).map fun i => 7 - i := by decide
  rw [hcrc, crcBytes, List.foldl_append, List.foldl_cons, List.foldl_nil, crcByte, downward, List.foldl_map]
  simp only [crcBit_eq_xor]
  rfl

/-- Settles O49: the header row is its fields packed side by side, so each reads back from its own bits, and its bytes are those of the fields, then of HCRC. -/
theorem headerRowsCarryTheirFieldsAndHcrc : Obligations.HeaderRowsCarryTheirFieldsAndHcrc := by
  refine ⟨fun p tail ack nak => ⟨p.parseHeader_header tail ack nak, ?_⟩, rfl, hcrc_append_singleton, by decide +kernel⟩
  rw [p.drop_rowBytes_header tail ack nak, p.take_rowBytes_header tail ack nak, Pkt.headerCrc]

end Sys2Proof.Machine
end

section
/-! PROOFS. Requests at the track: what is taken, what is refused, fences and their release. -/
namespace Sys2Proof.Machine

/-! ### Taking a packet (R142, R146) -/

/-- A change of the framing is known by what it makes of the framing there is. -/
theorem State.modRx_congr {s : State} {t : Nat} {g h : RxFrame → RxFrame} (e : g (s.trk t).rx = h (s.trk t).rx) : s.modRx t g = s.modRx t h := by
  simp only [State.modRx, State.modTrk, e]

theorem Pkt.same_self (p : Pkt) : p.same p = true := by simp [Pkt.same]

theorem State.canTake_of_inbox {s : State} {t : Nat} {p : Pkt} {n : Nat} (h : (s.trk t).rx.inbox = [(p, n)]) : s.canTake t p = true := by
  simp [State.canTake, h, p.same_self]

/-- A packet the lanes have brought alone leaves the inbox empty. -/
theorem State.takeIn_of_inbox {s : State} {t : Nat} {p : Pkt} {n : Nat} (h : (s.trk t).rx.inbox = [(p, n)]) :
    s.takeIn t p = (s.modRx t fun x => { x with inbox := [] }, n) := by
  have found : ((s.trk t).rx.inbox.find? fun e => e.1.same p) = some (p, n) := by simp [h, p.same_self]
  have emptied : s.modRx t (fun x => { x with inbox := x.inbox.erase (p, n) }) = s.modRx t fun x => { x with inbox := [] } :=
    State.modRx_congr (by simp [h])
  rw [State.takeIn, found]
  exact congrArg (·, n) emptied

/-! ### Packet types by their value (R138) -/

theorem pktType_eq_fen_iff {x : BitVec 5} : pktType x = .fen ↔ x = 4 := by
  revert x
  decide

/-! ### Memory requests (R154, R155, R157, R158, R160) -/

/-- RD, WR and WRM are memory requests of their own type. -/
theorem exec_of_memCommand {i : Instr} {t : TrackIx} {p q : Pkt}
    (h : (i = .rd t p ∧ q = { p with typ := 1 }) ∨ (i = .wr t p ∧ q = { p with typ := 2 }) ∨ (i = .wrm t p ∧ q = { p with typ := 3 })) (s : State) :
    exec i s = .next (s.memRequest t q) := by
  obtain ⟨rfl, rfl⟩ | ⟨rfl, rfl⟩ | ⟨rfl, rfl⟩ := h <;> rfl

/-- Grading a request changes the buckets of the regulator and nothing else (R211). -/
theorem State.gradeReq_eq (s : State) (m : Nat) (w : Bool) (b : Nat) : ∃ x, (s.gradeReq m w b).1 = { s with bwr := x } := by
  unfold State.gradeReq
  dsimp only
  repeat' split
  all_goals exact ⟨_, rfl⟩

theorem State.memRequest_of_not_canTake {s : State} {t : Nat} {q : Pkt} (h : s.canTake t q = false) : s.memRequest t q = s := by
  rw [State.memRequest, h, if_pos Bool.false_ne_true]

section
variable {s v : State} {t : Nat} {q : Pkt} {n : Nat} (hc : s.canTake t q = true) (hv : (v, n) = s.takeIn t q)
include hc hv

theorem State.memRequest_of_bad {r : Nat} (hb : v.badReason t q n = some r) : s.memRequest t q = v.answerBad t q n r := by
  simp only [State.memRequest, hc, not_true_eq_false, if_false, ← hv, hb]

theorem State.memRequest_of_len_zero (hb : v.badReason t q n = none) (hl : q.len = 0) : s.memRequest t q = v.answerAt t q n .ok := by
  simp only [State.memRequest, hc, not_true_eq_false, if_false, ← hv, hb, hl, if_true]

theorem State.memRequest_of_refused {st : Status} (hb : v.badReason t q n = none) (hl : q.len ≠ 0) (hr : v.memRefusal t q = some st) :
    s.memRequest t q = v.answerAt t q n st := by
  simp only [State.memRequest, hc, not_true_eq_false, if_false, ← hv, hb, hl, hr]

/-- A memory request that nothing refuses is graded and enters the track's request buffer with its lines. -/
theorem State.memRequest_of_accepted (hb : v.badReason t q n = none) (hl : q.len ≠ 0) (hr : v.memRefusal t q = none) :
    ∃ x g c, s.memRequest t q = ({ v with bwr := x } : State).modSes t fun y =>
      { y with buf := y.buf ++ [{ pkt := q, ord := n, grade := g, chan := c, lines := v.jobs q }] } := by
  obtain ⟨x, graded⟩ := v.gradeReq_eq q.master.toNat (pktType q.typ != .rd) (32 * q.len.toNat)
  simp only [State.memRequest, hc, not_true_eq_false, if_false, ← hv, hb, hl, hr, graded]
  exact ⟨x, _, _, rfl⟩

end

/-! ### The checks of a memory request, in their order (R154) -/

theorem State.memRefusal_of_long_rd {s : State} {t : Nat} {p : Pkt} (hp : p.typ = 1) (hl : s.fld Fld.TRK_TRAIN_STATUS_MAX_LEN t < p.len.toNat) :
    s.memRefusal t p = some .size := by
  simp [State.memRefusal, hp, pktType, hl]

theorem State.memRefusal_of_long_wrm (s : State) (t : Nat) {p : Pkt} (hp : p.typ = 3) (hl : 5 ≤ p.len.toNat) : s.memRefusal t p = some .size := by
  simp [State.memRefusal, hp, pktType, hl]

theorem State.memRefusal_of_wr_across_wagon (s : State) (t : Nat) {p : Pkt} (hp : p.typ = 2) (ha : 128 < p.addr.toNat % 128 + p.len.toNat) :
    s.memRefusal t p = some .align := by
  simp [State.memRefusal, hp, pktType, ha]

theorem State.memRefusal_of_wr_not_installed {s : State} (t : Nat) {p : Pkt} (hp : p.typ = 2) (ha : p.addr.toNat % 128 + p.len.toNat ≤ 128)
    (hu : s.fab.ucHold = false) (hw : s.fld Fld.GLB_INSTALLED_WAGONS ≤ p.addr.toNat / 128) : s.memRefusal t p = some .noaddr := by
  simp [State.memRefusal, hp, pktType, Nat.not_lt.mpr ha, hu, hw]

/-! ### Register requests (R156, R163) -/

theorem exec_rrd (t : TrackIx) (p : Pkt) (s : State) : exec (.rrd t p) s = .next (s.regRequest t { p with typ := 5 }) := rfl

theorem State.regRequest_of_not_canTake {s : State} {t : TrackIx} {q : Pkt} (h : s.canTake t q = false) : s.regRequest t q = s := by
  rw [State.regRequest, h, if_pos Bool.false_ne_true]

section
variable {s v : State} {t : TrackIx} {q : Pkt} {n : Nat} (hc : s.canTake t q = true) (hv : (v, n) = s.takeIn t q)
include hc hv

theorem State.regRequest_of_bad {r : Nat} (hb : v.badReason t q n = some r) : s.regRequest t q = v.answerBad t q n r := by
  simp only [State.regRequest, hc, not_true_eq_false, if_false, ← hv, hb]

theorem State.regRequest_of_fenced (hb : v.badReason t q n = none) (hf : v.fenceBefore n = true) :
    s.regRequest t q = v.modSes t fun x => { x with buf := x.buf ++ [{ pkt := q, ord := n }] } := by
  simp only [State.regRequest, hc, not_true_eq_false, if_false, ← hv, hb, hf, if_true]

theorem State.regRequest_of_unfenced (hb : v.badReason t q n = none) (hf : v.fenceBefore n = false) : s.regRequest t q = v.doReg t q n := by
  have taken : s.takeIn t q = (v, n) := hv.symm
  have performed := State.regRequest_ok (s := s) (t := t) (p := q) hc
  rw [taken] at performed
  exact performed hb hf

end

/-! ### Fences (R164, R178) -/

theorem execFen_of_not_canTake {s : State} {t : TrackIx} {p : Pkt} (h : s.canTake t { p with typ := 4 } = false) : execFen t p s = .next s := by
  rw [execFen, h, if_pos Bool.false_ne_true]

section
variable {s v : State} {t : TrackIx} {p : Pkt} {n : Nat} (hc : s.canTake t { p with typ := 4 } = true) (hv : (v, n) = s.takeIn t { p with typ := 4 })
include hc hv

theorem execFen_of_bad {r : Nat} (hb : v.badReason t { p with typ := 4 } n = some r) :
    execFen t p s = .next (v.answerBad t { p with typ := 4 } n r) := by
  simp only [execFen, hc, not_true_eq_false, if_false, ← hv, hb]

theorem execFen_of_taken (hb : v.badReason t { p with typ := 4 } n = none) :
    execFen t p s = .next (v.modSes t fun x => { x with buf := x.buf ++ [{ pkt := { p with typ := 4 }, ord := n }] }) := by
  simp only [execFen, hc, not_true_eq_false, if_false, ← hv, hb]

end

/-- A fence is met once every earlier request of its master on its track, LEN 0 aside, has taken effect. -/
theorem State.fenceMet_iff {s : State} {ord : Nat} {g : OpenTag} (hg : s.openTag ord = some g) :
    s.fenceMet ord = true ↔ ∀ o ∈ s.tags, o.track = g.track → o.master = g.master → o.ord < ord → o.zero = false → o.eff = true := by
  simp only [State.fenceMet, hg, List.all_eq_true]
  refine forall₂_congr fun o _ => ?_
  simp only [Bool.or_eq_true, Bool.not_eq_true', Bool.and_eq_false_imp, Bool.and_eq_true, decide_eq_true_eq, Bool.not_eq_false', and_imp]
  cases o.eff with
  | true => simp only [or_true, implies_true]
  | false => simp only [Bool.false_eq_true, or_false, imp_false, Bool.not_eq_false]

/-- The first FEN of a master in a track's request buffer. -/
def State.fenOf (s : State) (t : Nat) (m : BitVec 6) : Option BufEnt :=
  (s.trk t).ses.buf.find? fun e => e.pkt.master = m && pktType e.pkt.typ = .fen

theorem State.fenOf_eq_none_iff {s : State} {t : Nat} {m : BitVec 6} :
    s.fenOf t m = none ↔ ∀ e ∈ (s.trk t).ses.buf, e.pkt.master = m → e.pkt.typ ≠ 4 := by
  simp [State.fenOf, pktType_eq_fen_iff]

section
variable {s : State} {t : TrackIx} {m : BitVec 6}

theorem execFenceRelease_of_none (h : s.fenOf t m = none) : execFenceRelease t m s = .next s := by
  unfold State.fenOf at h
  simp only [execFenceRelease, h]

theorem execFenceRelease_of_unmet {f : BufEnt} (h : s.fenOf t m = some f) (hm : s.fenceMet f.ord = false) : execFenceRelease t m s = .next s := by
  unfold State.fenOf at h
  simp only [execFenceRelease, h, hm, Bool.false_eq_true, not_false_eq_true, if_true]

theorem execFenceRelease_of_met {f : BufEnt} (h : s.fenOf t m = some f) (hm : s.fenceMet f.ord = true) :
    execFenceRelease t m s = .next ((List.finRange 32).foldl (fun (s : State) u => s.freeRegs u)
      ((s.modSes t fun x => { x with buf := x.buf.filter fun e => e.ord != f.ord }).answerAt t f.pkt f.ord .ok)) := by
  unfold State.fenOf at h
  simp only [execFenceRelease, h, hm, not_true_eq_false, if_false]

end

/-- Settles O30: each command takes its packet and follows the first check that answers; a fence looks at the open tags before it. -/
theorem requestsAtTheTrack : Obligations.RequestsAtTheTrack := by
  refine ⟨?_, fun t p n s h => ⟨State.canTake_of_inbox h, State.takeIn_of_inbox h⟩, ?_, ?_, ?_, ?_,
    fun t p s hp hl => State.memRefusal_of_long_rd hp hl, fun t p s hp hl => s.memRefusal_of_long_wrm t hp hl,
    fun t p s hp ha => s.memRefusal_of_wr_across_wagon t hp ha, fun t p s hp ha hu hw => State.memRefusal_of_wr_not_installed t hp ha hu hw,
    ?_, ?_, ?_, ?_, ?_, ?_, ?_, fun t m s h => execFenceRelease_of_none (State.fenOf_eq_none_iff.mpr h)⟩
  · intro i t p q s hi hc
    obtain ⟨rfl, rfl⟩ | ⟨rfl, rfl⟩ | ⟨rfl, rfl⟩ | ⟨rfl, rfl⟩ | ⟨rfl, rfl⟩ := hi
    · exact congrArg Host.Outcome.next (State.memRequest_of_not_canTake hc)
    · exact congrArg Host.Outcome.next (State.memRequest_of_not_canTake hc)
    · exact congrArg Host.Outcome.next (State.memRequest_of_not_canTake hc)
    · exact execFen_of_not_canTake hc
    · exact congrArg Host.Outcome.next (State.regRequest_of_not_canTake hc)
  · intro i t p q n s v r hi hc hv hb
    rw [exec_of_memCommand hi, State.memRequest_of_bad hc hv hb]
  · intro i t p q n s v hi hc hv hb hl
    rw [exec_of_memCommand hi, State.memRequest_of_len_zero hc hv hb hl]
  · intro i t p q n s v st hi hc hv hb hl hr
    rw [exec_of_memCommand hi, State.memRequest_of_refused hc hv hb hl hr]
  · intro i t p q n s v hi hc hv hb hl hr
    obtain ⟨x, g, c, buffered⟩ := State.memRequest_of_accepted hc hv hb hl hr
    exact ⟨_, { pkt := q, ord := n, grade := g, chan := c, lines := v.jobs q }, (exec_of_memCommand hi s).trans (congrArg _ buffered),
      by rw [State.trk_modSes_same]; rfl, by rw [State.trk_modSes_same]; rfl, rfl, rfl, rfl⟩
  · rintro t p q n s v rfl hc hv hb
    exact ⟨_, execFen_of_taken hc hv hb, by rw [State.trk_modSes_same], rfl, rfl⟩
  · rintro t p q n r s v rfl hc hv hb
    exact execFen_of_bad hc hv hb
  · rintro t p q n s v rfl hc hv hb hf
    exact (exec_rrd t p s).trans (congrArg _ (State.regRequest_of_unfenced hc hv hb hf))
  · rintro t p q n s v rfl hc hv hb hf
    exact ⟨_, (exec_rrd t p s).trans (congrArg _ (State.regRequest_of_fenced hc hv hb hf)), by rw [State.trk_modSes_same], rfl⟩
  · rintro t p q n r s v rfl hc hv hb
    exact (exec_rrd t p s).trans (congrArg _ (State.regRequest_of_bad hc hv hb))
  · intro t m f g s hf hg heff
    exact execFenceRelease_of_met hf ((State.fenceMet_iff hg).mpr heff)
  · intro t m f g o s hf hg ho ht hm hlt hz he
    refine execFenceRelease_of_unmet hf (Bool.eq_false_iff.mpr fun met => ?_)
    exact Bool.false_ne_true (he.symm.trans ((State.fenceMet_iff hg).mp met o ho ht hm hlt hz))

end Sys2Proof.Machine
end

section
/-! PROOFS. What the arrival of a read train leaves as it was: the channels, the gears of its bundle's columns and the columns erased. -/
namespace Sys2Proof.Machine

/-! ### COL.GEAR among the registers (R287, R495) -/

/-- An index of a field's array stands for an offset within the array. -/
theorem Field.indexAt_bounds {f : Field} {off j : Nat} (h : f.indexAt off = some j) : f.off ≤ off ∧ off ≤ f.off + f.jstr * f.jcnt := by
  unfold Field.indexAt at h
  split at h
  · have here : off = f.off := (Option.ite_none_right_eq_some.mp h).1
    omega
  · split at h
    · next inside =>
      obtain ⟨low, aligned, -, high⟩ := inside
      have whole : off - f.off = f.jstr * ((off - f.off) / f.jstr) := (Nat.mul_div_cancel' (Nat.dvd_of_mod_eq_zero aligned)).symm
      have within : f.jstr * ((off - f.off) / f.jstr) ≤ f.jstr * f.jcnt := Nat.mul_le_mul_left _ (Nat.le_of_lt high)
      omega
    · cases h

/-- Among the fields of VLQ at bit 0, those a BLOCK reset does not keep lie outside COL (R283, R287). -/
theorem fieldsOfVlq_kept_in_col : ∀ f ∈ fieldsOfVlq, f.lo = 0 →
    f.keeps .block = true ∨ f.off + f.jstr * f.jcnt < 0x1000 ∨ 0x2000 ≤ f.off := by decide +kernel

/-- The field that COL.GEAR's key names is one that a BLOCK reset keeps. -/
theorem fieldOfKey_gear {q j : Nat} (hq : q < 4) (hj : j < 1024) :
    ∃ x, fieldOfKey (Fld.VLQ_COL_GEAR.key q j) = some x ∧ x.f.keeps .block = true := by
  have word : Fld.VLQ_COL_GEAR.key q j / 64 = Blk.vlq.base + Blk.vlq.span * q + (0x1000 + 4 * j) := by
    simp only [Field.key, Field.addr, Fld.VLQ_COL_GEAR]
    omega
  have bit : Fld.VLQ_COL_GEAR.key q j % 64 = 0 := by
    simp only [Field.key, Fld.VLQ_COL_GEAR]
    omega
  have place : blkOf (Fld.VLQ_COL_GEAR.key q j / 64) = some (.vlq, q, 0x1000 + 4 * j) := by
    rw [word]
    exact blkOf_at .vlq q _ hq (by simp only [Blk.span]; omega)
  have index : Fld.VLQ_COL_GEAR.indexAt (0x1000 + 4 * j) = some j := by
    simp [Field.indexAt, Fld.VLQ_COL_GEAR, hj]
  have listed : { f := Fld.VLQ_COL_GEAR, i := q, j := j } ∈ fieldsAt (Fld.VLQ_COL_GEAR.key q j / 64) := by
    simp only [fieldsAt, place, List.mem_filterMap]
    refine ⟨Fld.VLQ_COL_GEAR, by decide, ?_⟩
    rw [if_pos (Nat.lt_of_lt_of_le hq (by decide)), index]
    rfl
  have found : (fieldOfKey (Fld.VLQ_COL_GEAR.key q j)).isSome = true := by
    unfold fieldOfKey
    rw [List.find?_isSome, bit]
    exact ⟨_, listed, rfl⟩
  obtain ⟨x, hx⟩ := Option.isSome_iff_exists.mp found
  refine ⟨x, hx, ?_⟩
  have low : x.f.lo = 0 := by simpa [bit] using List.find?_some hx
  have member : x ∈ fieldsAt (Fld.VLQ_COL_GEAR.key q j / 64) := List.mem_of_find?_eq_some hx
  simp only [fieldsAt, place, List.mem_filterMap, Option.ite_none_right_eq_some, Option.map_eq_some_iff] at member
  obtain ⟨f, hf, -, k, hk, rfl⟩ := member
  have bounds := Field.indexAt_bounds hk
  rcases fieldsOfVlq_kept_in_col f hf low with kept | below | above
  · exact kept
  · omega
  · omega

/-- The key of COL.GEAR of column n of bundle c (R287). -/
def gearKey (c n : Nat) : Nat := Fld.VLQ_COL_GEAR.key (c / 16) (64 * (c % 16) + n)

/-- A field of another block at higher addresses than VLQ's has another key. -/
theorem gearKey_ne_of_above {c n : Nat} (hc : c < 64) (hn : n < 64) {f : Field} (hf : 0x90000 ≤ f.blk.base) (i j : Nat) :
    gearKey c n ≠ f.key i j := by
  have low : gearKey c n < 64 * 0x90000 := by
    simp only [gearKey, Field.key, Field.addr, Fld.VLQ_COL_GEAR, Blk.base, Blk.span]
    omega
  have high : f.blk.base ≤ f.addr i j := by simp only [Field.addr]; omega
  simp only [Field.key]
  omega

/-- A field of VLQ outside COL has another key. -/
theorem gearKey_ne_of_outside {c n : Nat} (hn : n < 64) {f : Field} {j : Nat} (hf : f.blk = .vlq) (hl : f.lo < 64)
    (ho : f.off + f.jstr * j < 0x1000 ∨ 0x2000 ≤ f.off ∧ f.off + f.jstr * j < 0x4000) (i : Nat) : gearKey c n ≠ f.key i j := by
  have start : f.addr i j = 0x80000 + 0x4000 * i + (f.off + f.jstr * j) := by simp only [Field.addr, hf, Blk.base, Blk.span]; omega
  rw [gearKey, Field.key, Field.key, start]
  simp only [Field.addr, Fld.VLQ_COL_GEAR, Blk.base, Blk.span]
  generalize f.jstr * j = o at *
  omega

/-- The ten counts of a quadrant lie below COL. -/
theorem gearKey_ne_cnt {c j q : Nat} (hj : j < 10) : ∀ n < 64, gearKey c n ≠ Fld.VLQ_CNT_COUNT.key q j := fun _ hn =>
  gearKey_ne_of_outside hn rfl (by decide) (.inl (by simp only [Fld.VLQ_CNT_COUNT]; omega)) q

/-! ### What a read train is judged by -/

/-- The channels, the time, and of bundle c the columns erased and the gears of its columns are as they were: what the lines of a read train of the bundle are judged by (R264, R301, R306). -/
structure State.KeepsReads (c : Nat) (s o : State) : Prop where
  chans : s.chans = o.chans
  cc : s.cc = o.cc
  erased : (s.bund c).erased = (o.bund c).erased
  gears : ∀ n < 64, s.col Fld.VLQ_COL_GEAR c n = o.col Fld.VLQ_COL_GEAR c n

namespace State.KeepsReads

variable {c : Nat} {s t o : State}

theorem refl (s : State) : s.KeepsReads c s := ⟨rfl, rfl, rfl, fun _ _ => rfl⟩

theorem trans (h : s.KeepsReads c t) (g : t.KeepsReads c o) : s.KeepsReads c o :=
  ⟨h.chans.trans g.chans, h.cc.trans g.cc, h.erased.trans g.erased, fun n hn => (h.gears n hn).trans (g.gears n hn)⟩

/-- An operation that leaves registers, channels, bundles and time keeps it. -/
theorem of_frame {k : Nat} (f : s.Frame k t) (hr : k.testBit 1 = false) (hc : k.testBit 11 = false) (hv : k.testBit 13 = false)
    (ht : k.testBit 25 = false) (h : t.KeepsReads c o) : s.KeepsReads c o :=
  trans ⟨f.chans hc, f.cc ht, by rw [State.bund, f.vert hv, State.bund], fun _ _ => State.fld_congr (f.regs hr) ..⟩ h

theorem ite {p : Prop} [Decidable p] (h : s.KeepsReads c o) (g : t.KeepsReads c o) : (if p then s else t).KeepsReads c o := by
  split
  · exact h
  · exact g

theorem foldl {α : Type} {l : List α} {g : State → α → State} (h : s.KeepsReads c o) (hg : ∀ s a, (g s a).KeepsReads c s) :
    (l.foldl g s).KeepsReads c o :=
  List.foldlRecOn (motive := fun (t : State) => t.KeepsReads c o) _ _ h fun t ht a _ => (hg t a).trans ht

theorem upTo {k : Nat} {g : Nat → State → State} (h : s.KeepsReads c o) (hg : ∀ i s, (g i s).KeepsReads c s) :
    (s.upTo k g).KeepsReads c o := h.foldl fun u i => hg i u

/-- A register field other than COL.GEAR is written. -/
theorem setFld {f : Field} {i j : Nat} (h : s.KeepsReads c o) (hk : ∀ n < 64, gearKey c n ≠ f.key i j) (v : Nat) :
    (s.setFld f v i j).KeepsReads c o :=
  trans (t := s) ⟨rfl, rfl, rfl, fun n hn => State.fld_setFld_ne s v (hk n hn)⟩ h

theorem bump {f : Field} {i j : Nat} (h : s.KeepsReads c o) (hk : ∀ n < 64, gearKey c n ≠ f.key i j) (n : Nat) :
    (s.bump f i j n).KeepsReads c o := ite h (h.setFld hk _)

/-- A bundle changes but for the columns erased. -/
theorem modBund {g : Bund → Bund} (h : s.KeepsReads c o) (b : Nat) (hg : ∀ x, (g x).erased = x.erased) : (s.modBund b g).KeepsReads c o := by
  refine trans (t := s) ⟨rfl, rfl, ?_, fun _ _ => rfl⟩ h
  by_cases hb : c = b
  · rw [hb, State.bund_modBund_same, hg]
  · rw [State.bund_modBund_ne _ _ hb]

theorem setBox (h : s.KeepsReads c o) (b : Box) : { s with box := b }.KeepsReads c o := ⟨h.chans, h.cc, h.erased, h.gears⟩

theorem setBlk (h : s.KeepsReads c o) (l : List Nat) : { s with vert := { s.vert with blk := l } }.KeepsReads c o :=
  ⟨h.chans, h.cc, h.erased, h.gears⟩

/-! The signal box writes fields of FLT and of NVM. -/

section
variable (hc : c < 64)
include hc

theorem setAbove {f : Field} (h : s.KeepsReads c o) (hf : 0x90000 ≤ f.blk.base) (v i j : Nat) : (s.setFld f v i j).KeepsReads c o :=
  h.setFld (fun _ hn => gearKey_ne_of_above hc hn hf i j) v

theorem bumpAbove {f : Field} (h : s.KeepsReads c o) (hf : 0x90000 ≤ f.blk.base) (i j n : Nat) : (s.bump f i j n).KeepsReads c o :=
  h.bump (fun _ hn => gearKey_ne_of_above hc hn hf i j) n

theorem writeCap (h : s.KeepsReads c o) (k : Nat) (src : Src) (esc : Bool) (x : FaultInfo) : (s.writeCap k src esc x).KeepsReads c o := by
  unfold State.writeCap State.setFlag
  repeat' refine setAbove hc ?_ (by decide) ..
  exact h

theorem capture (h : s.KeepsReads c o) (k : Nat) (src : Src) (esc : Bool) (x : FaultInfo) : (s.capture k src esc x).KeepsReads c o := by
  have counted : (s.bump Fld.FLT_CAP_OVERFLOW_COUNT 0 k).KeepsReads c o := bumpAbove hc h (by decide) 0 k 1
  unfold State.capture
  exact ite (writeCap hc (h.setBox _) ..) (ite (writeCap hc (counted.setBox _) ..) counted)

theorem queueBulletin (h : s.KeepsReads c o) (src : Src) (urgent : Bool) (r : BulRec) : (s.queueBulletin src urgent r).KeepsReads c o := by
  have urgents : (s.queueUrgent r).KeepsReads c o := ite (h.setBox _) (ite (bumpAbove hc h (by decide) ..) (h.setBox _))
  have queued : (s.enqueueMask r).KeepsReads c o := ite (bumpAbove hc h (by decide) ..) (h.setBox _)
  exact ite urgents (ite (ite (h.setBox _) (ite (h.setBox _) queued)) h)

end

/-- A training is queued: the gears and the columns erased stay (R280). -/
theorem startTraining (h : s.KeepsReads c o) (j : VTrain) : (s.startTraining j).KeepsReads c o := by
  have listed (l : List Nat) (m : Store Bund) : (Store.get (l.foldl (fun m b => Store.set m b {}
      { Store.get m b {} with up := false, exch := false, retune := 0, isRetune := false, good := [], nc := [], nd := [] }) m) c {}).erased =
      (Store.get m c {}).erased := by
    induction l generalizing m with
    | nil => rfl
    | cons b l ih =>
      rw [List.foldl_cons, ih]
      by_cases hb : c = b
      · rw [hb, Store.get_set_same]
      · rw [Store.get_set_ne _ _ _ _ hb]
  have away {f : Field} (hf : f.blk = .vlq) (hl : f.lo < 64) (ho : f.off + f.jstr * 0 < 0x1000) (q : Nat) :
      ∀ n < 64, gearKey c n ≠ f.key q 0 := fun _ hn => gearKey_ne_of_outside hn hf hl (.inl ho) q
  unfold State.startTraining
  refine foldl (trans (t := s) ⟨rfl, rfl, listed .., fun _ _ => rfl⟩ h) fun u q => ?_
  exact (((refl u).setFld (away rfl (by decide) (by decide) q) 1).setFld (away rfl (by decide) (by decide) q) 0).setFld
    (away rfl (by decide) (by decide) q) 0

/-- The BLOCK reset of a quadrant keeps COL.GEAR (R283, R287). -/
theorem resetBlk (hc : c < 64) (h : s.KeepsReads c o) (b : Blk) (i : Nat) : (s.resetBlk .block b i).KeepsReads c o := by
  refine trans (t := s) ⟨rfl, rfl, rfl, fun n hn => ?_⟩ h
  obtain ⟨x, named, kept⟩ := fieldOfKey_gear (q := c / 16) (j := 64 * (c % 16) + n) (by omega) (by omega)
  exact State.fld_resetRegs_kept named (.inr kept)

theorem blockReset (hc : c < 64) (h : s.KeepsReads c o) {k : BrsKind} (hk : k ≠ .chn) (i : Nat) : (s.blockReset k i).KeepsReads c o := by
  unfold State.blockReset
  refine ite h ?_
  cases k with
  | chn => exact absurd rfl hk
  | vlq =>
    have trained : ((s.resetBlk .block .vlq i).trainQuad i true).KeepsReads c o := startTraining (h.resetBlk hc .vlq i) _
    have settled : (((s.resetBlk .block .vlq i).trainQuad i true).upTo 16 fun k s => s.modBund (16 * i + k) fun x => { x with sw := [] }).KeepsReads
        c o := trained.upTo fun k u => (refl u).modBund (16 * i + k) fun _ => rfl
    exact settled.setBlk _
  | bwr => exact trans (t := s.resetBlk .block .bwr) ⟨rfl, rfl, rfl, fun _ _ => rfl⟩ (h.resetBlk hc .bwr 0)
  | none => exact h

/-- A source that resets no channel is raised (R404, R405). -/
theorem raiseCore (hc : c < 64) (h : s.KeepsReads c o) {src : Src} (hb : src.row.block ≠ .chn) (i : Nat) (x : FaultInfo) :
    (s.raiseCore src i x).KeepsReads c o := by
  have reacted {u : State} (hu : u.KeepsReads c o) : (u.reactBrs src i).KeepsReads c o := by
    unfold State.reactBrs
    exact ite ((hu.setBox _).blockReset hc hb i) hu
  have ends {u : State} (e b : Bool) (r : BulRec) (hu : u.KeepsReads c o) : (State.reactCrs
      (if e = true then u.updErr.queueBulletin src b r else (u.updErr.queueBulletin src b r).reactBrs src i) src).KeepsReads c o := by
    have queued : (u.updErr.queueBulletin src b r).KeepsReads c o :=
      queueBulletin hc (hu.of_frame (State.updErr_frame (n := 0x8) .rfl' (.refl _)) rfl rfl rfl rfl) ..
    exact of_frame (State.reactCrs_frame (n := 0x8) .rfl' (.refl _) src) rfl rfl rfl rfl (ite queued (reacted queued))
  have counted (k : Nat) (e : Bool) : (((s.capture k src e x).setPend src.index).bump Fld.FLT_COUNT_COUNT 0 src.index).KeepsReads c o :=
    bumpAbove hc (setAbove hc (capture hc h ..) (by decide) ..) (by decide) ..
  exact ends _ _ _ (ite ((counted _ _).setBox _) (counted _ _))

theorem raise (hc : c < 64) (h : s.KeepsReads c o) {src : Src} (hb : src.row.block ≠ .chn) (i : Nat) (x : FaultInfo) :
    (s.raise src i x).KeepsReads c o := by
  have core := raiseCore hc h hb i x
  unfold State.raise
  refine ite h (ite core (ite ?_ ?_))
  · exact trans (t := s.raiseCore src i x) ⟨rfl, rfl, rfl, fun _ _ => rfl⟩ core
  · exact raiseCore hc (bumpAbove hc core (by decide) ..) (by decide) ..

/-! ### The receivers' own counts (R266, R272, R284) -/

theorem noteColl (hc : c < 64) (h : s.KeepsReads c o) (b n : Nat) : (s.noteColl b n).KeepsReads c o := by
  have counted (k : Nat) : (s.modBund b fun x => { x with coll := Store.set x.coll n 0 k }).KeepsReads c o := h.modBund b fun _ => rfl
  have retuned {u : State} (hu : u.KeepsReads c o) : (u.setRetune b).KeepsReads c o :=
    (hu.modBund b (g := fun x => { x with retune := if x.retune = 0 then 8 else x.retune }) fun _ => rfl).setFld
      (f := Fld.VLQ_STATUS_RETUNING) (fun _ hn => gearKey_ne_of_outside hn rfl (by decide) (.inl (by decide)) _) 1
  exact ite (retuned (raise hc (counted _) (by decide) ..)) (counted _)

theorem noteGain (h : s.KeepsReads c o) {n : Nat} (hn : n < 64) (b g : Nat) : (s.noteGain b n g).KeepsReads c o := by
  have away {f : Field} (hf : f.blk = .vlq) (hl : f.lo < 64) (ho : f.off = 0x3000 ∧ f.jstr = 4) :
      ∀ m < 64, gearKey c m ≠ f.key (b / 16) (64 * (b % 16) + n) := by
    refine fun m hm => gearKey_ne_of_outside hm hf hl (.inr ?_) _
    obtain ⟨start, stride⟩ := ho
    rw [start, stride]
    omega
  have divided {a : Int} {k : Nat} : (s.divFree a k).2.KeepsReads c o :=
    of_frame (State.divFree_frame (n := 0x4000000) .rfl' (.refl _) a k) rfl rfl rfl rfl h
  exact (divided.setFld (away rfl (by decide) (by decide)) _).setFld (away rfl (by decide) (by decide)) _

theorem noteCol (hc : c < 64) (h : s.KeepsReads c o) (b : Nat) (count : Bool) (r : ColRx) : (s.noteCol b count r).KeepsReads c o := by
  have noted : (if r.second.isSome then s.noteColl b r.col.val else s).KeepsReads c o := ite (h.noteColl hc ..) h
  have gained := noted.noteGain r.col.isLt b r.gain
  unfold State.noteCol
  refine ite (noted.bump (gearKey_ne_cnt (by decide)) 1) (ite ?_ gained)
  exact gained.modBund b fun _ => rfl

/-- What the receivers of a train's columns note of it (R261, R266, R272, R284). -/
theorem notes (hc : c < 64) (h : s.KeepsReads c o) (b : Nat) (count : Bool) (l : List ColRx) :
    (l.foldl (fun s r => s.noteCol b count r) s).KeepsReads c o := h.foldl fun u r => (refl u).noteCol hc b count r

end State.KeepsReads

end Sys2Proof.Machine
end

section
/-! PROOFS. The arrival of a read train, its want, and the codec pool. -/
namespace Sys2Proof.Machine

variable {c : ChanIx} {x : RdArrival} {s : State}

theorem State.modChan_congr {c : Nat} {g h : Chan → Chan} (e : g (s.chan c) = h (s.chan c)) : s.modChan c g = s.modChan c h := by
  rw [State.modChan, e, State.modChan]

theorem State.bund_bump (s : State) (f : Field) (i j n b : Nat) : (s.bump f i j n).bund b = s.bund b := by
  rw [State.bund, (State.bump_frame (n := 0x2) .rfl' (.refl _) f i j n).vert rfl, State.bund]

/-- The columns of a train's set depend on the bundle alone. -/
theorem State.rxSet_congr {t : State} {b : Nat} (h : t.bund b = s.bund b) (x : RdArrival) : t.rxSet b x = s.rxSet b x := by
  have server : t.server b = s.server b := by
    funext n
    simp only [State.server, h]
  simp only [State.rxSet, h, server]

/-! ### What an arrival is taken for (R254, R261, R264) -/

theorem execReadTrainDelivered_of_shut (h : s.dataShut c = true) (x : RdArrival) : execReadTrainDelivered c x s = .next s :=
  congrArg Host.Outcome.next (if_pos h)

section
variable (receives : s.dataShut c = false)
include receives

theorem execReadTrainDelivered_of_missed (ha : arrivalOf (s.rxSet c x) = .missed) :
    execReadTrainDelivered c x s = .next (s.bump Fld.VLQ_CNT_COUNT (c.val / 16) 1 (s.rxSet c x).length) := by
  simp [execReadTrainDelivered, receives, ha]

theorem execReadTrainDelivered_of_captured (ha : arrivalOf (s.rxSet c x) = .captured) :
    execReadTrainDelivered c x s = .next (s.capturedRx c x) := by
  simp [execReadTrainDelivered, receives, ha]

theorem execReadTrainDelivered_of_collided (ha : arrivalOf (s.rxSet c x) = .collided) (hx : x.cal = false) {v : State}
    (hv : v = (s.rxSet c x).foldl (fun (s : State) r => s.noteCol c false r)
      ((s.bump Fld.VLQ_CNT_COUNT (c.val / 16) 0).bump Fld.VLQ_CNT_COUNT (c.val / 16) 3)) :
    execReadTrainDelivered c x s = .next ((v.modChan c fun y =>
      { y with out := y.out.filter fun t => t.write || t.tid != x.tid.val }).collidedRx c (v.awaited c x.tid)) := by
  simp [execReadTrainDelivered, receives, ha, hx, hv]

theorem execReadTrainDelivered_of_delivered (ha : arrivalOf (s.rxSet c x) = .delivered) (hx : x.cal = false) {v : State}
    (hv : v = (s.rxSet c x).foldl (fun (s : State) r => s.noteCol c true r) (s.bump Fld.VLQ_CNT_COUNT (c.val / 16) 0)) :
    execReadTrainDelivered c x s = .next (v.linesIn c x (s.rxSet c x)) := by
  simp [execReadTrainDelivered, receives, ha, hx, hv]

end

/-- A captured train leaves the collisions of its columns and the refreshes repeated (R264). -/
theorem State.capturedRx_of_train (hx : x.cal = false) : s.capturedRx c x = (((s.rxSet c x).foldl
    (fun (s : State) r => if r.second.isSome then s.noteColl c r.col.val else s) (s.bump Fld.VLQ_CNT_COUNT (c.val / 16) 2)).repeatRefresh c) := by
  simp [State.capturedRx, hx, State.rxSet_congr (State.bund_bump s Fld.VLQ_CNT_COUNT (c.val / 16) 2 1 c)]

/-! ### The train awaited (R302, R303) -/

/-- The read train a TID names, if it is awaited. -/
def Chan.awaitedRead (x : Chan) (tid : Nat) : Option Train := x.out.find? fun t => !t.write && t.tid = tid

theorem State.awaited_eq (s : State) (c tid : Nat) : s.awaited c tid = (s.chan c).awaitedRead tid := rfl

section
variable {t : Train} {y : Chan} {tid : Nat} (ho : y.out = [t]) (hw : t.write = false) (ht : t.tid = tid)
include ho hw ht

theorem Chan.awaitedRead_of_out : y.awaitedRead tid = some t := by
  simp [Chan.awaitedRead, ho, hw, ht]

/-- Once it has come, or is given up, nothing is outstanding. -/
theorem Chan.without_awaited : { y with out := y.out.filter fun t => t.write || t.tid != tid } = { y with out := [] } := by
  simp [ho, hw, ht]

end

theorem Chan.awaitedRead_of_nil {y : Chan} (ho : y.out = []) (tid : Nat) : y.awaitedRead tid = none := by
  simp [Chan.awaitedRead, ho]

theorem State.KeepsReads.chan {c : Nat} {s o : State} (h : s.KeepsReads c o) (d : Nat) : s.chan d = o.chan d := State.chan_congr h.chans d

/-- What a delivered train's receivers note leaves what its lines are judged by. -/
theorem State.KeepsReads.delivered (s : State) (c : ChanIx) (count : Bool) (l : List ColRx) :
    (l.foldl (fun (s : State) r => s.noteCol c count r) (s.bump Fld.VLQ_CNT_COUNT (c.val / 16) 0)).KeepsReads c s :=
  ((refl s).bump (gearKey_ne_cnt (by decide)) 1).notes c.isLt c count l

/-! ### The lines of a delivered train (R301, R303) -/

/-- Whether a column carries nothing is judged by the gears and the columns erased. -/
theorem State.KeepsReads.erasedIn {c : Nat} {s o : State} (h : s.KeepsReads c o) (i : Nat) (cols : List ColRx) :
    s.erasedIn c i cols = o.erasedIn c i cols := by
  have gear (r : ColRx) : s.col Fld.VLQ_COL_GEAR c r.col = o.col Fld.VLQ_COL_GEAR c r.col := h.gears _ r.col.isLt
  simp only [State.erasedIn, h.erased, gear]

theorem State.linesIn_of_unawaited {v : State} {c : ChanIx} {x : RdArrival} (h : (v.chan c).awaitedRead x.tid = none) (cols : List ColRx) :
    v.linesIn c x cols = v.stale c := by
  simp only [State.linesIn, State.awaited_eq, h]

section
variable {v : State} {c : ChanIx} {x : RdArrival} {t : Train} (ho : (v.chan c).out = [t]) (hw : t.write = false) (ht : t.tid = x.tid.val)
include ho hw ht

/-- The state once the awaited train is outstanding no more. -/
theorem State.modChan_without_awaited : (v.modChan c fun y => { y with out := y.out.filter fun t => t.write || t.tid != x.tid.val }) =
    v.modChan c fun y => { y with out := [] } := State.modChan_congr (Chan.without_awaited ho hw ht)

/-- A train without slots brings none of its lines: they are reissued together (R303). -/
theorem State.linesIn_of_no_slots (hs : x.slots = []) (hl : t.lines ≠ []) (cols : List ColRx) :
    v.linesIn c x cols = ((v.modChan c fun y => { y with out := [] }).noteMiss c false).reissue c t t.lines := by
  have gathers (u : State) (ys : List TLine) (l : List (TLine × Nat)) :
      l.foldl (fun (acc : State × List TLine) e => (acc.1, acc.2 ++ [e.1])) (u, ys) = (u, ys ++ l.map Prod.fst) := by
    induction l generalizing ys with
    | nil => simp
    | cons e l ih => simp [ih]
  have awaited := Chan.awaitedRead_of_out ho hw ht
  simp only [State.linesIn, State.awaited_eq, awaited, hs, List.getElem?_nil, gathers, List.nil_append, List.zipIdx_map_fst]
  rw [if_neg (by simpa using hl), State.modChan_without_awaited ho hw ht]

/-- One slot of one line, its line control good, its codeword without error and no column erased: the line is checked (R301). -/
theorem State.linesIn_of_good_line {sl : RdSlot} {l : TLine} {cols : List ColRx} (hs : x.slots = [sl]) (hl : t.lines = [l])
    (hc : controlGood sl.ctl t.tid = true) (hz : lineSyndrome sl.code = (0, 0)) (he : v.erasedIn c 0 cols = false) :
    v.linesIn c x cols = ((((v.modChan c fun y => { y with out := [] }).noteMiss c false).lineIn c t l (codeLine sl.code)).noteGood c) := by
  have awaited := Chan.awaitedRead_of_out ho hw ht
  have erased : (v.modChan c fun y => { y with out := [] }).erasedIn c 0 cols = false := he
  simp [State.linesIn, State.awaited_eq, awaited, hs, hl, State.slotIn, hc, hz, erased, State.modChan_without_awaited ho hw ht]

end

/-! ### A clean line of a host read (R155, R195) -/

/-- A line of an entry as a clean read leaves it. -/
def LineJob.read (j : LineJob) (line : Line) : LineJob := { j with st := .done, got := line, pois := false }

theorem State.hostLine_of_clean {s : State} {line : Line} (h : checkLine line = (.clean, .clean, line)) (c : Nat) (t : Train) (l : TLine) :
    s.hostLine c t l line = s.lineFinal c l line false := by
  simp [State.hostLine, h, State.raiseTiles, State.rewrite, tilesWith, b2n]

/-- A read whose lines hold no poison is answered OK with the bytes read (R153). -/
theorem Ent.answer_of_clean_read {e : Ent} (hk : e.kind = .rd) (h : ∀ l ∈ e.lines, l.pois = false) :
    e.answer = { status := 0, detail := 0, data := e.readData } := by
  simp [Ent.answer, Ent.poisonMask_of_clean h, hk, Status.code]

/-- An entry of one line once the line is read: answered OK with the bytes read. -/
def Ent.answeredRead (e : Ent) (j : LineJob) (line : Line) (ready : Nat) : Ent :=
  { e with lines := [j.read line], side := none
           res := some { status := 0, detail := 0, data := ({ e with lines := [j.read line] } : Ent).readData, ready := ready } }

/-- The entry of one line of a read closes with that line. -/
theorem State.chan_lineFinal_read {s : State} {c : Nat} {l : TLine} {e : Ent} {j : LineJob} (hq : (s.chan c).q = [e]) (ho : e.ord = l.ord)
    (hx : l.ix = 0) (hk : e.kind = .rd) (hr : e.res = none) (hl : e.lines = [j]) (line : Line) :
    (s.lineFinal c l line false).chan c = { s.chan c with q := [e.answeredRead j line (max s.cc j.due)] } := by
  have lined : (s.modLine c l.ord l.ix fun j => j.read line).chan c = { s.chan c with q := [{ e with lines := [j.read line] }] } := by
    simp [State.modLine, hq, ho, hx, hl]
  have found : ((s.modLine c l.ord l.ix fun j => j.read line).chan c).ent l.ord = some { e with lines := [j.read line] } :=
    Chan.ent_of_q (congrArg Chan.q lined) ho
  have answer := Ent.answer_of_clean_read (e := { e with lines := [j.read line] }) hk (List.forall_mem_singleton.mpr rfl)
  have closed := State.closeEnt_of_done found hr (List.forall_mem_singleton.mpr rfl)
  have shape : s.lineFinal c l line false = (s.modLine c l.ord l.ix fun j => j.read line).closeEnt c l.ord := rfl
  rw [shape, closed, State.chan_effected, State.chan_modEnt_same, lined]
  simp only [List.map_cons, List.map_nil, if_pos ho, answer]
  rfl

/-! ### READ_TRAIN_TIMEOUT (R303) -/

theorem execReadTrainTimeout_of_late {c : ChanIx} {n : Fin 32} {t : Train} {s : State} (ho : (s.chan c).out = [t]) (hw : t.write = false)
    (hn : t.tid = n.val) (late : t.lands + 8 * s.fld Fld.LAY_XCFG_RD_SLACK (layIx c) ≤ 15 * s.cc) :
    execReadTrainTimeout c n s = .next (((s.modChan c fun y => { y with out := [] }).noteMiss c true).reissue c t t.lines) := by
  have found : ((s.chan c).out.find? fun t => !t.write && t.tid = n.val) = some t := by simp [ho, hw, hn]
  have shut : (s.modChan c fun y => { y with out := y.out.filter fun t => t.write || t.tid != n.val }) =
      s.modChan c fun y => { y with out := [] } := State.modChan_congr (Chan.without_awaited ho hw hn)
  simp only [execReadTrainTimeout, found, shut]
  rw [if_neg (Nat.not_lt.mpr late)]

theorem execReadTrainTimeout_of_none_late {c : ChanIx} {n : Fin 32} {s : State}
    (h : ∀ t ∈ (s.chan c).out, t.write = true ∨ t.tid ≠ n.val ∨ 15 * s.cc < t.lands + 8 * s.fld Fld.LAY_XCFG_RD_SLACK (layIx c)) :
    execReadTrainTimeout c n s = .next s := by
  unfold execReadTrainTimeout
  split
  · rfl
  · next t found =>
    have named : t.write = false ∧ t.tid = n.val := by simpa using List.find?_some found
    have early := h t (List.mem_of_find?_eq_some found)
    rw [if_pos (by simpa [named] using early)]

/-! ### The codec pool (R301, R323, R354) -/

/-- A decoder without a line changes nothing. -/
theorem execDecodeComplete_of_idle {d : Fin 18} {s : State} (h : Store.find s.codec.busy d.val = none) (r : Option (BitVec 576)) (k : Nat) :
    execDecodeComplete d r k s = .next s := by
  simp only [execDecodeComplete, h]

/-- The state once decoder d is free again and the iterations it took are counted (R287). -/
def State.decoded (s : State) (d : Fin 18) (k : Nat) : State :=
  ({ s with codec := { s.codec with busy := Store.del s.codec.busy d.val } } : State).bump Fld.INT_CODEC_CNT_COUNT 0 1
    (min k (s.fld Fld.INT_CODEC_CFG_MAX_ITER))

section
variable {d : Fin 18} {j : CodecJob} {s : State} (h : Store.find s.codec.busy d.val = some j)
include h

/-- A line that decodes is handed on to its check. -/
theorem execDecodeComplete_of_line (y : BitVec 576) (k : Nat) : execDecodeComplete d (some y) k s =
    .next (((s.decoded d k).bump Fld.INT_CODEC_CNT_COUNT 0 2).lineIn j.chan j.train j.line y).poolFlow := by
  simp only [execDecodeComplete, h]
  rfl

/-- A line that stays in error is reported and reissued. -/
theorem execDecodeComplete_of_failure {k : Nat} {v : State} (hv : v = (s.decoded d k).bump Fld.INT_CODEC_CNT_COUNT 0 3) {e : Option Ent}
    (he : e = (v.chan j.chan).ent j.line.ord) : execDecodeComplete d none k s =
    .next ((v.raise .vlDecodeFail j.chan { lineInfo j.chan j.train.bank j.train.row j.line.col 1 (j.chan * 2 ^ 6) e with
      access := if e.isSome then 1 else 4 }).reissue j.chan j.train [j.line]).poolFlow := by
  subst hv he
  simp only [execDecodeComplete, h]
  rfl

end

/-- A decoder whose self-check is good is left alone. -/
theorem execDecoderSelfCheck_of_good (d : Fin 18) (s : State) : execDecoderSelfCheck d true s = .next s := by
  simp [execDecoderSelfCheck]

/-- A decoder in service and idle whose self-check fails is to leave the pool. -/
theorem execDecoderSelfCheck_of_bad {d : Fin 18} {s : State} (ha : (s.fld Fld.INT_CODEC_STATUS_ACTIVE).testBit d.val = true)
    (hb : Store.find s.codec.busy d.val = none) (hr : d.val ∉ s.codec.removed) : execDecoderSelfCheck d false s =
    .next (({ s with codec := { s.codec with removed := s.codec.removed ++ [d.val], bad := d.val :: s.codec.bad } } :
      State).raise .vlDecoderFault 0) := by
  simp [execDecoderSelfCheck, ha, hb, hr]

/-- Settles O34: what an arrival is taken for decides; what its receivers note leaves the channel, the gears and the columns erased, so that the train is looked up and its line judged as before. -/
theorem readTrainsAndDecoders : Obligations.ReadTrainsAndDecoders := by
  refine ⟨fun c x s h => execReadTrainDelivered_of_shut h x, fun c x s h ha => execReadTrainDelivered_of_missed h ha,
    ?goodLine, ?noLines, ?stale, ?captured, ?collided, ?late, ?early, ?idle, ?line, ?failure, execDecoderSelfCheck_of_good, ?bad⟩
  case goodLine =>
    intro c x sl t l e j s h ha hx hslots ho hw ht hl hu hix hq hord hk hr hlines hctl hz he hclean
    have kept := State.KeepsReads.delivered s c true (s.rxSet c x)
    generalize hv : (s.rxSet c x).foldl (fun (s : State) r => s.noteCol c true r) (s.bump Fld.VLQ_CNT_COUNT (c.val / 16) 0) = v at kept
    have chan : v.chan c = s.chan c := kept.chan c
    have step := (execReadTrainDelivered_of_delivered h ha hx hv.symm).trans (congrArg _ (State.linesIn_of_good_line (chan ▸ ho) hw ht hslots hl
      hctl hz ((kept.erasedIn 0 _).trans he)))
    generalize hw' : (v.modChan c fun y => { y with out := [] }).noteMiss c false = w at step
    have before : w.chan c = { s.chan c with out := [] } := by simp [← hw', chan]
    have time : w.cc = s.cc := by rw [← hw', State.cc_noteMiss, State.modChan_cc, kept.cc]
    have line : w.lineIn c t l (codeLine sl.code) = w.lineFinal c l (codeLine sl.code) false := by
      simp only [State.lineIn, hu, State.hostLine_of_clean hclean]
    have closed := State.chan_lineFinal_read ((congrArg Chan.q before).trans hq) hord hix hk hr hlines (codeLine sl.code)
    have final := State.chan_modChan_same (w.lineFinal c l (codeLine sl.code) false) c fun x => { x with failed := 0 }
    rw [closed, before, time] at final
    rw [line] at step
    exact ⟨_, e.answeredRead j (codeLine sl.code) (max s.cc j.due), step, congrArg Chan.q final, congrArg Chan.out final, rfl, rfl, rfl⟩
  case noLines =>
    intro c x t s v h ha hx hslots ho hw ht hl hv
    have chan : v.chan c = s.chan c := hv ▸ (State.KeepsReads.delivered s c true _).chan c
    rw [← chan] at ho
    exact (execReadTrainDelivered_of_delivered h ha hx hv).trans (congrArg _ (State.linesIn_of_no_slots ho hw ht hslots hl _))
  case stale =>
    intro c x s v h ha hx ho hv
    have chan : v.chan c = s.chan c := hv ▸ (State.KeepsReads.delivered s c true _).chan c
    rw [← chan] at ho
    exact (execReadTrainDelivered_of_delivered h ha hx hv).trans (congrArg _ (State.linesIn_of_unawaited (Chan.awaitedRead_of_nil ho _) _))
  case captured =>
    intro c x s h ha hx
    exact (execReadTrainDelivered_of_captured h ha).trans (congrArg _ (State.capturedRx_of_train hx))
  case collided =>
    intro c x t s v h ha hx ho hw ht hv
    have counted : ((s.bump Fld.VLQ_CNT_COUNT (c.val / 16) 0).bump Fld.VLQ_CNT_COUNT (c.val / 16) 3).KeepsReads c s :=
      ((State.KeepsReads.refl s).bump (gearKey_ne_cnt (by decide)) 1).bump (gearKey_ne_cnt (by decide)) 1
    have chan : v.chan c = s.chan c := hv ▸ (counted.notes c.isLt c false _).chan c
    rw [← chan] at ho
    rw [← State.modChan_without_awaited ho hw ht, ← Chan.awaitedRead_of_out ho hw ht, ← State.awaited_eq]
    exact execReadTrainDelivered_of_collided h ha hx hv
  case late => exact fun c n t s ho hw hn late => execReadTrainTimeout_of_late ho hw hn late
  case early => exact fun c n s early => execReadTrainTimeout_of_none_late early
  case idle => exact fun d r k s h => execDecodeComplete_of_idle h r k
  case line =>
    rintro d y k j s u h rfl
    exact execDecodeComplete_of_line h y k
  case failure =>
    rintro d k j e s v u h hv he rfl
    exact execDecodeComplete_of_failure h hv he
  case bad => exact fun d s ha hb hr => execDecoderSelfCheck_of_bad ha hb hr

end Sys2Proof.Machine
end

section
/-! PROOFS. What a channel engine issues in a cycle, and in what order. -/
namespace Sys2Proof.Machine

/-! ### SCHED_ISSUE (R191, R309) -/

theorem State.schedule_of_stopped {s : State} {c : Nat} (h : s.engineRuns c = false) : s.schedule c = s := by
  simp [State.schedule, h]

theorem State.schedule_of_lapsed {s : State} {c : Nat} (hr : s.engineRuns c = true) (hl : s.lapsed c = true) (hf : s.cmdFree c 1 = true) :
    s.schedule c = s.sendSrx c false := by
  simp [State.schedule, hr, hl, hf]

/-- What an engine that waits for no fuller train issues of calibration, refresh and the queue's work (R191, R233, R236, R238). -/
def State.issueUnwaited (u : State) (c : Nat) (E : List (Ent × Part)) : State :=
  if (u.chan c).ccalDue > 0 ∧ ¬ u.calBusy c then u.doCcal c
  else (u.hardRefresh c).getD (if u.inState .nap then u else u.issueWork c E)

section
variable {s : State} {c : Nat} {E : List (Ent × Part)} (hE : E = s.eligibles c) (hr : s.engineRuns c = true) (hl : s.lapsed c = false)
  (hf : (s.markElig c E).cmdFree c 1 = true)
include hE hr hl hf

/-- While the part whose fuller train the engine waits for stays eligible, nothing else issues (R192). -/
theorem State.schedule_of_waiting {h : Ent × Part} (hw : (s.markElig c E).waiting c E = some h) :
    s.schedule c = (s.markElig c E).issueHead c h := by
  subst hE
  simp [State.schedule, hr, hl, hf, hw]

theorem State.schedule_of_unwaited {u : State} (hu : u = (s.markElig c E).modChan c fun x => { x with wait := none })
    (hw : (s.markElig c E).waiting c E = none) : s.schedule c = u.issueUnwaited c E := by
  subst hE hu
  have running : ¬ ¬ s.engineRuns c = true := fun stopped => stopped hr
  have current : ¬ s.lapsed c = true := by simp [hl]
  have launches : ¬ ¬ (s.markElig c (s.eligibles c)).cmdFree c 1 = true := fun shut => shut hf
  simp only [State.schedule]
  rw [if_neg running, if_neg current, if_neg launches, hw]
  unfold State.issueUnwaited
  cases State.hardRefresh _ c <;> rfl

end

section
variable {u : State} {c : Nat} {E : List (Ent × Part)}

/-- The calibration that follows a round goes first (R233, R238). -/
theorem State.issueUnwaited_of_calibration (hd : (u.chan c).ccalDue > 0) (hb : u.calBusy c = false) : u.issueUnwaited c E = u.doCcal c :=
  if_pos ⟨hd, by simp [hb]⟩

variable (hd : (u.chan c).ccalDue = 0)
include hd

/-- Then forced and slotted refresh (R233). -/
theorem State.issueUnwaited_of_hardRefresh {t : State} (ht : u.hardRefresh c = some t) : u.issueUnwaited c E = t := by
  simp [State.issueUnwaited, hd, ht]

/-- Then, outside NAP, the rest of the work (R191, R236). -/
theorem State.issueUnwaited_of_work (hh : u.hardRefresh c = none) (hn : u.inState .nap = false) : u.issueUnwaited c E = u.issueWork c E := by
  simp [State.issueUnwaited, hd, hh, hn]

end

/-! ### The work outside NAP (R191, R303, R304) -/

section
variable {u : State} {c : Nat} {E : List (Ent × Part)}

/-- The first train of the priority list issues where it may. -/
theorem State.issueWork_of_prio {t : Train} {l : List Train} (hp : (u.chan c).prio = t :: l) (ht : u.prioOk c t = true) :
    u.issueWork c E = (u.modChan c fun x => { x with prio := l }).issueTrain c t := by
  have first : (u.chan c).prio.zipIdx.find? (fun t => u.prioOk c t.1) = some (t, 0) := by simp [hp, ht]
  have rest : (u.modChan c fun x => { x with prio := x.prio.eraseIdx 0 }) = u.modChan c fun x => { x with prio := l } :=
    State.modChan_congr (by simp [hp])
  simp only [State.issueWork, first, rest]

variable (hp : (u.chan c).prio = []) (hq : (u.chan c).path = false)
include hp hq

/-- With no such train the head of the queue issues, in the phase chosen with it. -/
theorem State.issueWork_of_head {h : Ent × Part} {p a : Bool} (hh : u.chooseHead c E = (some h, p, a)) :
    u.issueWork c E = (u.setPhase c p).issueHead c h := by
  simp [State.issueWork, hp, hq, hh]

/-- With an empty queue soft refresh does (R233). -/
theorem State.issueWork_of_empty {t : State} (he : (u.chan c).q = []) (ht : u.softRefresh c [] = some t) : u.issueWork c [] = t := by
  have head : u.chooseHead c [] = (none, u.flag Fld.CHN_STATUS_PHASE c, false) := by simp [State.chooseHead, he]
  simp [State.issueWork, hp, hq, head, State.issueSoft, ht]

end

/-- An empty queue has no eligible part. -/
theorem State.eligibles_of_empty {s : State} {c : Nat} (h : (s.chan c).q = []) : s.eligibles c = [] := by
  simp [State.eligibles, h]

/-! ### TRAIN_WAIT_EXPIRY (R192) -/

theorem execTrainWaitExpiry_of_idle {c : ChanIx} {s : State} (h : (s.chan c).wait = none) : execTrainWaitExpiry c s = .next s := by
  simp [execTrainWaitExpiry, h]

/-- A part the engine waits with is the one its wait names. -/
theorem State.wait_of_waiting {s : State} {c : Nat} {E : List (Ent × Part)} {h : Ent × Part} (hw : s.waiting c E = some h) :
    (s.chan c).wait.isSome = true := by
  unfold State.waiting at hw
  split at hw
  · cases hw
  · next k named => simp [named]

/-- TRAIN_WAIT after its part became eligible the train issues, however short. -/
theorem State.issueHead_of_waited {s : State} {c : Nat} {h : Ent × Part} {t : Train}
    (ht : t = s.buildTrain c (s.flag Fld.CHN_STATUS_PHASE c) h) (hw : (s.chan c).since s.cc h.2 + s.fld Fld.CHN_SCHED_TRAIN_WAIT c ≤ s.cc)
    (hi : s.canIssue c t = true) : s.issueHead c h = s.issueHost c t := by
  subst ht
  unfold State.issueHead
  dsimp only
  rw [if_pos (.inr (.inr (.inr hw))), if_pos hi]

/-! ### PAGE_IDLE_EXPIRY (R188) -/

theorem Bank.final_move (k : Bank) (cc t : Nat) (r : Option Nat) : (k.move cc t r).final = r := by
  simp [Bank.final, Bank.move]

theorem Chan.bank_setBank_same (x : Chan) (b : Nat) (k : Bank) : (x.setBank b k).bank b = k := by
  simp [Chan.bank, Chan.setBank]

/-- Once the PRE of a bank has taken effect no row of it is open. -/
theorem State.final_doPre (s : State) (c b t : Nat) (x : Chan) : ((s.doPre c b t x).bank b).final = none := by
  unfold State.doPre
  rw [Chan.bank_setBank_same]
  exact Bank.final_move ..

theorem State.lastCmd_doPre (s : State) (c b t : Nat) (x : Chan) : (s.doPre c b t x).lastCmd = x.lastCmd := rfl

theorem State.lastCmd_launchAt (s : State) (c t : Nat) (words : List (Nat × Nat)) : ((s.launchAt c t words).chan c).lastCmd = cmdTrain words := by
  simp [State.launchAt]

theorem State.lastCmd_closeBank (s : State) (c b : Nat) : ((s.closeBank c b).chan c).lastCmd = cmdTrain [(0x02, b)] := by
  simp [State.closeBank, State.lastCmd_doPre, State.lastCmd_launchAt]

theorem State.final_closeBank (s : State) (c b : Nat) : (((s.closeBank c b).chan c).bank b).final = none := by
  simp [State.closeBank, State.final_doPre]

theorem execPageIdleExpiry_of_idle {c : ChanIx} {b : BankIx} {s : State} (ho : ((s.chan c).bank b).final.isSome = true)
    (hi : ((s.chan c).bank b).last + s.fld Fld.CHN_POLICY_PAGE_IDLE c ≤ s.cc) (hn : ((s.chan c).bank b).nPre ≤ s.cc)
    (hr : s.engineRuns c = true) (hf : s.cmdFree c 1 = true) (hw : (s.chan c).wait = none) :
    execPageIdleExpiry c b s = .next (s.closeBank c b) :=
  congrArg Host.Outcome.next (if_pos ⟨ho, hi, hn, hr, hf, by simp [hw]⟩)

theorem execPageIdleExpiry_of_busy {c : ChanIx} {b : BankIx} {s : State}
    (h : ((s.chan c).bank b).final = none ∨ s.cc < ((s.chan c).bank b).last + s.fld Fld.CHN_POLICY_PAGE_IDLE c) :
    execPageIdleExpiry c b s = .next s := by
  refine congrArg Host.Outcome.next (if_neg ?_)
  rintro ⟨row, idle, -⟩
  rcases h with closed | early
  · simp [closed] at row
  · omega

/-- Settles O23: SCHED_ISSUE is the engine's choice, whose branches are taken in the order stated. -/
theorem channelEngineChoosesItsWork : Obligations.ChannelEngineChoosesItsWork := by
  refine ⟨?stopped, ?lapsed, ?calibration, ?hard, ?prio, ?head, ?soft, fun c s => rfl, ?unwaited, ?waited, ?idleRow, ?busyRow⟩
  case stopped => exact fun c s h => congrArg _ (State.schedule_of_stopped h)
  case lapsed => exact fun c s hr hl hf => congrArg _ (State.schedule_of_lapsed hr hl hf)
  case calibration =>
    intro c E s u hE hu hr hl hf hw hd hb
    exact congrArg _ ((State.schedule_of_unwaited hE hr hl hf hu hw).trans (State.issueUnwaited_of_calibration hd hb))
  case hard =>
    intro c E s u t hE hu hr hl hf hw hd ht
    exact congrArg _ ((State.schedule_of_unwaited hE hr hl hf hu hw).trans (State.issueUnwaited_of_hardRefresh hd ht))
  case prio =>
    intro c E s u t l hE hu hr hl hf hw hd hh hn hp ht
    exact congrArg _ (((State.schedule_of_unwaited hE hr hl hf hu hw).trans (State.issueUnwaited_of_work hd hh hn)).trans
      (State.issueWork_of_prio hp ht))
  case head =>
    intro c E s u h p a hE hu hr hl hf hw hd hh hn hp hq hc
    exact congrArg _ (((State.schedule_of_unwaited hE hr hl hf hu hw).trans (State.issueUnwaited_of_work hd hh hn)).trans
      (State.issueWork_of_head hp hq hc))
  case soft =>
    intro c E s u t hE hu hr hl hf hw hd hh hn hp hq he ht
    have queue : (s.chan c).q = (u.chan c).q := by simp [hu, State.markElig]
    have nothing : E = [] := hE.trans (State.eligibles_of_empty (queue.trans he))
    have work : u.issueWork c E = t := nothing ▸ State.issueWork_of_empty hp hq he ht
    exact congrArg _ (((State.schedule_of_unwaited hE hr hl hf hu hw).trans (State.issueUnwaited_of_work hd hh hn)).trans work)
  case unwaited => exact fun c s h => execTrainWaitExpiry_of_idle h
  case waited =>
    rintro c E s u h t hE rfl hr hl hf hw ht hs hi
    have waits : (s.chan c).wait.isSome = true := by simpa [State.markElig] using State.wait_of_waiting hw
    have issued := (State.schedule_of_waiting hE hr hl hf hw).trans (State.issueHead_of_waited ht hs hi)
    exact congrArg Host.Outcome.next ((if_pos waits).trans issued)
  case idleRow =>
    intro c b s ho hi hn hr hf hw
    exact ⟨_, execPageIdleExpiry_of_idle ho hi hn hr hf hw, rfl, State.lastCmd_closeBank .., State.final_closeBank ..⟩
  case busyRow => exact fun c b s h => execPageIdleExpiry_of_busy h

end Sys2Proof.Machine
end

section
/-! PROOFS. A channel engine drained, reset and taken over; self-refresh and the exit from it. -/
namespace Sys2Proof.Machine

/-! ### CHN_DRAINED and CHN_BLOCK_RESET_DONE (R203, R204) -/

section
variable {c : ChanIx} {s : State}

theorem execChnDrained_of_queue (h : (s.chan c).q ≠ []) : execChnDrained c s = .next s :=
  congrArg Host.Outcome.next (if_pos (by simpa using h))

/-- A drained channel whose engine is disabled shows it (R203). -/
theorem execChnDrained_of_disabled (hq : (s.chan c).q = []) (hw : (s.chan c).swap = none) (he : s.flag Fld.CHN_CTL_EN c = false) :
    execChnDrained c s = .next (s.setFld Fld.CHN_STATUS_DISABLED 1 c) := by
  simp [execChnDrained, hq, hw, he]

/-- A takeover that waited for the drain goes on (R205). -/
theorem execChnDrained_of_swap {w : Swap} (hq : (s.chan c).q = []) (hw : (s.chan c).swap = some w) (hd : w.draining = true)
    (he : s.flag Fld.CHN_CTL_EN c = true) :
    execChnDrained c s = .next (s.modChan c fun x => { x with swap := some { w with draining := false } }) := by
  simp [execChnDrained, hq, hw, hd, he]

theorem execChnBlockResetDone_of_reset (hr : (s.chan c).resetting = true) (hm : (s.chan c).mig = none) : execChnBlockResetDone c s =
    .next ((s.setFlag Fld.CHN_STATUS_DISABLED (!s.flag Fld.CHN_CTL_EN c) c).modChan c fun x => { x with resetting := false }) :=
  congrArg Host.Outcome.next (if_pos ⟨hr, by simp [hm]⟩)

theorem execChnBlockResetDone_of_other (h : (s.chan c).resetting = false ∨ (s.chan c).mig.isSome = true) : execChnBlockResetDone c s = .next s := by
  refine congrArg Host.Outcome.next (if_neg ?_)
  rintro ⟨resetting, migrated⟩
  rcases h with h | h
  · simp [h] at resetting
  · simp [Option.isNone_iff_eq_none.mp migrated] at h

/-! ### TAKEOVER_COMPLETE (R205, R242) -/

/-- The channel as its spare engine takes it over: the spare's domain on, the bank model cleared, PRE to every bank (R205). -/
def State.takenOver (s : State) (c : Nat) (w : Swap) : State :=
  ((s.setDomain (9 + w.spare) true).modChan c fun x => { x with banks := [], acts := [], grp := [], swap := none }).preAll c

/-- What CTL and STATUS read of it once recovery has begun. -/
def State.takenOverRegs (v : State) (c : Nat) (w : Swap) : State :=
  ((v.beginRecovery c).setFld Fld.CHN_CTL_ENGINE w.spare c).setFld Fld.CHN_STATUS_SWAPPING 0 c

theorem execTakeoverComplete_of_swap {w : Swap} (hw : (s.chan c).swap = some w) (hd : w.draining = false) (ho : w.ordered = false) {u : State}
    (hu : u = (s.takenOver c w).takenOverRegs c w) : execTakeoverComplete c s =
    .next ((u.raise .chTakeover c (u.chInfo c)).setDomain (9 + s.fld Fld.CHN_CTL_ENGINE c) false) := by
  subst hu
  simp [execTakeoverComplete, hw, hd, ho, State.takenOver, State.takenOverRegs]

theorem execTakeoverComplete_of_none (h : (s.chan c).swap = none ∨ (s.chan c).swap.map (fun w => w.draining) = some true) :
    execTakeoverComplete c s = .next s := by
  rcases h with h | h
  · simp [execTakeoverComplete, h]
  · obtain ⟨w, hw, hd⟩ := Option.map_eq_some_iff.mp h
    simp [execTakeoverComplete, hw, hd]

end

/-- Fields of one channel's registers have one key only where offset and bit agree. -/
theorem chnKey_ne {f e : Field} (hf : f.blk = .chn) (he : e.blk = .chn) (hl : f.lo < 64 ∧ e.lo < 64) (h : f.off ≠ e.off ∨ f.lo ≠ e.lo) (c : Nat) :
    f.key c 0 ≠ e.key c 0 := by
  simp only [Field.key, Field.addr, hf, he]
  omega

section
variable (v : State) (c : Nat) (w : Swap)

theorem State.fld_takenOverRegs_engine : (v.takenOverRegs c w).fld Fld.CHN_CTL_ENGINE c = w.spare % 2 ^ Fld.CHN_CTL_ENGINE.width := by
  rw [State.takenOverRegs, State.fld_setFld_ne _ _ (chnKey_ne rfl rfl (by decide) (by decide) c), State.fld_setFld_same]

theorem State.fld_takenOverRegs_swapping : (v.takenOverRegs c w).fld Fld.CHN_STATUS_SWAPPING c = 0 := by
  rw [State.takenOverRegs, State.fld_setFld_same, Nat.zero_mod]

theorem State.fld_takenOverRegs_recovery : (v.takenOverRegs c w).fld Fld.CHN_REF_STATE_RECOVERY c = 1 := by
  rw [State.takenOverRegs, State.fld_setFld_ne _ _ (chnKey_ne rfl rfl (by decide) (by decide) c),
    State.fld_setFld_ne _ _ (chnKey_ne rfl rfl (by decide) (by decide) c), State.beginRecovery, State.fld_setFld_same]
  rfl

theorem State.chan_takenOverRegs : (v.takenOverRegs c w).chan c =
    { v.chan c with ref := { (v.chan c).ref with table := [], sat := false, win := 0 } } := by
  simp [State.takenOverRegs, State.beginRecovery]

end

/-- PRE of every bank is the bundle's last command (R204, R205). -/
theorem State.lastCmd_preAll {s : State} {c : Nat} (h : s.bundleUp c = true) : ((s.preAll c).chan c).lastCmd = cmdTrain [(0x02, 32)] := by
  have banks (t : State) (l : List Nat) (n : Nat) (x : Chan) : (l.foldl (fun x b => t.doPre c b n x) x).lastCmd = x.lastCmd :=
    List.foldlRecOn (motive := fun (y : Chan) => y.lastCmd = x.lastCmd) _ _ rfl fun y hy b _ => (State.lastCmd_doPre ..).trans hy
  simp [State.preAll, h, banks, State.lastCmd_launchAt]

/-- Whether a bundle is up is not told by the power domains or the channels (R205, R280). -/
theorem State.bundleUp_setDomain (s : State) (n : Nat) (on : Bool) (c : ChanIx) (g : Chan → Chan) :
    ((s.setDomain n on).modChan c g).bundleUp c = s.bundleUp c := by
  have other (j : Nat) : Fld.VLQ_CTL_EN.key (c.val / 16) 0 ≠ Fld.PWR_DOMAIN_ON_ON.key 0 j := by
    have few := c.isLt
    simp only [Field.key, Field.addr, Fld.VLQ_CTL_EN, Fld.PWR_DOMAIN_ON_ON, Blk.base, Blk.span]
    omega
  simp only [State.bundleUp, State.modChan_bund, State.modChan_flag, State.setDomain, State.setFld_bund, State.flag_setFld_ne _ (other _)]

/-! ### SELF_REFRESH_ENTRY (R238, R244) -/

section
variable {c : ChanIx} {s : State}

/-- With nothing owed and no neighbour refresh pending, none is issued. -/
theorem State.issueOwed_of_none {c : Nat} (ho : s.fld Fld.CHN_REF_STATE_OWED c = 0) (hn : (s.chan c).ref.nrefs = []) : s.issueOwed c = s := by
  simp [State.issueOwed, State.upTo, ho, hn]

/-- The refresh state as the entry into self-refresh leaves it: no slot's work is left. -/
def State.slotDropped (s : State) (c : Nat) : State := s.modRef c fun r => { r with slot := 0, slotN := 0, own := [] }

theorem execSelfRefreshEntry_of_awake (h : s.mustSleep c = false) (b : Bool) : execSelfRefreshEntry c b s = .next s := by
  simp [execSelfRefreshEntry, h]

variable (hq : (s.chan c).quiet = true) (hs : s.flag Fld.CHN_REF_STATE_SR c = false) (hx : (s.chan c).ref.srx = false)
  (hm : s.mustSleep c = true)
include hq hs hx hm

/-- While a calibration is due or open the channel issues what it owes and waits (R238). -/
theorem execSelfRefreshEntry_of_calibration {u : State} (hu : u = (s.issueOwed c).slotDropped c)
    (hc : 0 < (u.chan c).ccalDue ∨ u.calBusy c = true) (b : Bool) : execSelfRefreshEntry c b s = .next u := by
  subst hu
  unfold execSelfRefreshEntry
  rw [if_neg (by simp [hq, hs, hx, hm])]
  exact congrArg Host.Outcome.next (if_pos hc)

theorem execSelfRefreshEntry_of_ready {u : State} (hu : u = (s.issueOwed c).slotDropped c) (hd : (u.chan c).ccalDue = 0)
    (hc : u.calBusy c = false) (b : Bool) : execSelfRefreshEntry c b s = .next (u.enterSr c b) := by
  subst hu
  unfold execSelfRefreshEntry
  rw [if_neg (by simp [hq, hs, hx, hm])]
  exact congrArg Host.Outcome.next (if_neg (by
    rintro (due | busy)
    · exact Nat.ne_of_gt due hd
    · exact Bool.false_ne_true (hc.symm.trans busy)))

end

section
variable (s : State) (c : Nat)

/-- The channel once its die has confirmed SRE: the commands sent, the bank model cleared, SR set (R244). -/
def State.asleepChan : State :=
  ((((s.launch c [(0x02, 32), (0x08, 0)]).modChan c fun x => { x with banks := [], acts := [], grp := [] }).setSr c true).bump
    Fld.CHN_REF_CNT_COUNT c 6).modChan c fun x => { x with exited := false }

theorem State.asleepChan_park : (s.asleepChan c).park = s.park := by
  have bumped (u : State) : (u.bump Fld.CHN_REF_CNT_COUNT c 6).park = u.park := (State.bump_frame (n := 0x2) .rfl' (.refl _) ..).park rfl
  have launched : (s.launch c [(0x02, 32), (0x08, 0)]).park = s.park := (State.launch_frame (n := 0x802) .rfl' (.refl _) ..).park rfl
  simp only [State.asleepChan, State.modChan_park, bumped, State.setSr, State.setFlag_park, launched]

/-- Where PARK is being entered the channel is noted as asleep besides. -/
theorem State.enterSr_of_confirmed : s.enterSr c true = if s.park.step = .sleep then
    { s.asleepChan c with park := { (s.asleepChan c).park with asleep := c :: (s.asleepChan c).park.asleep } } else s.asleepChan c := by
  have launched : (s.launch c [(0x02, 32), (0x08, 0)]).park = s.park := (State.launch_frame (n := 0x802) .rfl' (.refl _) ..).park rfl
  simp only [State.enterSr, State.modChan_park, launched, if_true, decide_eq_true_eq]
  rfl

theorem State.chan_enterSr : (s.enterSr c true).chan c = { (s.launch c [(0x02, 32), (0x08, 0)]).chan c with
    banks := [], acts := [], grp := [], exited := false } := by
  have asleep : (s.asleepChan c).chan c = { (s.launch c [(0x02, 32), (0x08, 0)]).chan c with banks := [], acts := [], grp := [], exited := false } := by
    simp [State.asleepChan, State.setSr]
  refine .trans (State.chan_congr ?_ c) asleep
  rw [State.enterSr_of_confirmed]
  split <;> rfl

theorem State.fld_enterSr : (s.enterSr c true).fld Fld.CHN_REF_STATE_SR c = 1 := by
  have other : Fld.CHN_REF_STATE_SR.key c 0 ≠ Fld.CHN_REF_CNT_COUNT.key c 6 := by
    simp only [Field.key, Field.addr, Fld.CHN_REF_STATE_SR, Fld.CHN_REF_CNT_COUNT]
    omega
  have asleep : (s.asleepChan c).fld Fld.CHN_REF_STATE_SR c = 1 := by
    rw [State.asleepChan, State.modChan_fld, State.fld_bump_ne _ _ other, State.setSr]
    exact State.fld_setFlag_same true rfl
  refine .trans (State.fld_congr ?_ ..) asleep
  rw [State.enterSr_of_confirmed]
  split <;> rfl

theorem State.asleep_enterSr (h : s.park.step = .sleep) : (s.enterSr c true).park.asleep = c :: s.park.asleep := by
  rw [State.enterSr_of_confirmed, if_pos h, State.asleepChan_park]

end

/-! ### SRX_WAIT_END (R248) -/

section
variable {c : ChanIx} {s : State}

theorem execSrxWaitEnd_of_early (h : (s.chan c).ref.srx = false ∨ s.cc < (s.chan c).ref.srxAt + s.fld Fld.REF_SR_T_XS) (l : List Nat) :
    execSrxWaitEnd c l s = .next s :=
  congrArg Host.Outcome.next (if_pos (by simpa using h))

theorem execSrxWaitEnd_of_over (hx : (s.chan c).ref.srx = true) (ht : (s.chan c).ref.srxAt + s.fld Fld.REF_SR_T_XS ≤ s.cc)
    (hs : (s.chan c).ref.soft = false) (ho : s.softOut c = false) (l : List Nat) :
    execSrxWaitEnd c l s = .next ((s.modRef c fun r => { r with soft := false }).srxRounds c l) := by
  have ended : ¬ (¬ (s.chan c).ref.srx = true ∨ s.cc < (s.chan c).ref.srxAt + s.fld Fld.REF_SR_T_XS) := by
    rintro (none | early)
    · exact none hx
    · exact Nat.not_lt.mpr ht early
  have answered : ¬ s.softOut c = true := Bool.eq_false_iff.mp ho
  unfold execSrxWaitEnd
  rw [if_neg ended, if_neg fun soft => Bool.false_ne_true (hs.symm.trans soft.1), if_neg answered]

end

/-- Bringing the sidings up to date counts their entries, and writes no field of REF_STATE. -/
theorem State.fld_reside {f : Field} (hf : f.blk = .chn) (hl : f.lo < 64) (ho : f.off = 0x200) (s : State) (c : Nat) :
    (s.reside c).fld f c = s.fld f c := by
  have other : f.key c 0 ≠ Fld.CHN_CNT_COUNT.key c 6 := by
    simp only [Field.key, Field.addr, hf, ho, Fld.CHN_CNT_COUNT]
    omega
  rw [State.reside, State.fld_bump_ne _ _ other, State.modChan_fld]

/-- The exit's rounds leave nothing owed and nothing accumulated (R248). -/
theorem State.srxRounds_refState (s : State) (c : Nat) (l : List Nat) :
    (s.srxRounds c l).fld Fld.CHN_REF_STATE_OWED c = 0 ∧ (s.srxRounds c l).fld Fld.CHN_REF_STATE_ACC c = 0 := by
  have cleared (u : State) : ((u.setFld Fld.CHN_REF_STATE_OWED 0 c).setFld Fld.CHN_REF_STATE_ACC 0 c).fld Fld.CHN_REF_STATE_OWED c = 0 ∧
      ((u.setFld Fld.CHN_REF_STATE_OWED 0 c).setFld Fld.CHN_REF_STATE_ACC 0 c).fld Fld.CHN_REF_STATE_ACC c = 0 := by
    rw [State.fld_setFld_ne _ _ (chnKey_ne rfl rfl (by decide) (by decide) c), State.fld_setFld_same, State.fld_setFld_same]
    exact ⟨rfl, rfl⟩
  have reopened {f : Field} (hf : f.blk = .chn) (hl : f.lo < 64) (ho : f.off = 0x200) (u : State) : (if (u.chan c).path = true then
      (u.modChan c fun x => { x with path := false }).reside c else u).fld f c = u.fld f c := by
    split
    · rw [State.fld_reside hf hl ho, State.modChan_fld]
    · rfl
  unfold State.srxRounds
  dsimp only
  rw [reopened rfl (by decide) rfl, reopened rfl (by decide) rfl]
  exact cleared _

/-- Settles O25: each command takes the branch its premises choose, and what the branch leaves is read off its last writes. -/
theorem engineHandOverAndSelfRefresh : Obligations.EngineHandOverAndSelfRefresh := by
  refine ⟨fun c s h => execChnDrained_of_queue h, fun c s hq hw he => execChnDrained_of_disabled hq hw he,
    fun c w s hq hw hd he => execChnDrained_of_swap hq hw hd he, ?reset, fun c s h => execChnBlockResetDone_of_other h, ?takeover,
    fun c s h => execTakeoverComplete_of_none h, ?sleeps, ?waits, fun c b s h => execSelfRefreshEntry_of_awake h b,
    fun c l s h => execSrxWaitEnd_of_early h l, ?rounds⟩
  case reset =>
    intro c s hr hm
    exact ⟨_, execChnBlockResetDone_of_reset hr hm, by simp, State.flag_setFlag_same s _ c 0 rfl⟩
  case takeover =>
    intro c w s v u hw hd ho hv hu
    have taken : v = s.takenOver c w := hv
    have regs : u = v.takenOverRegs c w := hu
    have chan := State.chan_takenOverRegs v c w
    rw [← regs] at chan
    refine ⟨execTakeoverComplete_of_swap hw hd ho (taken ▸ regs), ?_, ?_, ?_, congrArg (·.ref.table) chan, fun hb => ?_⟩
    · rw [regs, State.fld_takenOverRegs_engine]
    · rw [regs, State.fld_takenOverRegs_swapping]
    · rw [regs, State.fld_takenOverRegs_recovery]
    · rw [chan, taken]
      exact State.lastCmd_preAll ((State.bundleUp_setDomain ..).trans hb)
  case sleeps =>
    intro c s hq hs hx hm ho hn hd hc
    have owed : (s.issueOwed c).slotDropped c = s.slotDropped c := by rw [State.issueOwed_of_none ho hn]
    have due : ((s.slotDropped c).chan c).ccalDue = 0 := by simpa [State.slotDropped] using hd
    have closed : (s.slotDropped c).calBusy c = false := by
      rw [State.calBusy, State.slotDropped, State.chan_modRef_same]
      exact hc
    have chan := State.chan_enterSr (s.slotDropped c) c
    refine ⟨_, execSelfRefreshEntry_of_ready hq hs hx hm owed.symm due closed true, State.fld_enterSr .., ?_, congrArg Chan.exited chan,
      congrArg Chan.banks chan, State.asleep_enterSr (s.slotDropped c) c⟩
    rw [chan]
    exact State.lastCmd_launchAt ..
  case waits => exact fun c b s u hq hs hx hm hu hc => execSelfRefreshEntry_of_calibration hq hs hx hm hu hc b
  case rounds =>
    intro c l s hx ht hs ho
    obtain ⟨owed, acc⟩ := State.srxRounds_refState (s.modRef c fun r => { r with soft := false }) c l
    exact ⟨_, execSrxWaitEnd_of_over hx ht hs ho l, rfl, owed, acc⟩

end Sys2Proof.Machine
end

section
/-! PROOFS. What raising a source keeps, and what a condition and a repetition keep of one view of the state. -/
namespace Sys2Proof.Machine

/-! ### What raising a source keeps (R404) -/

/-- A property of a state in which the signal box, the journal and the registers of FLT and NVM have no part. -/
structure OutsideSignals (P : State → Prop) : Prop where
  box (s : State) (b : Box) : P s → P { s with box := b }
  jrn (s : State) (l : List JEntry) : P s → P { s with nvm := { s.nvm with jrn := l } }
  reg (s : State) (f : Field) (v i j : Nat) : f.blk = .flt ∨ f.blk = .nvm → P s → P (s.setFld f v i j)

namespace OutsideSignals

variable {P : State → Prop} {s : State} (hP : OutsideSignals P)
include hP

theorem bump (h : P s) {f : Field} (hf : f.blk = .flt ∨ f.blk = .nvm) (i j n : Nat) : P (s.bump f i j n) :=
  iteInduction (fun _ => h) fun _ => hP.reg _ _ _ _ _ hf h

theorem writeCap (h : P s) (k : Nat) (src : Src) (esc : Bool) (x : FaultInfo) : P (s.writeCap k src esc x) := by
  unfold State.writeCap State.setFlag
  repeat' refine hP.reg _ _ _ _ _ (.inl rfl) ?_
  exact h

theorem capture (h : P s) (k : Nat) (src : Src) (esc : Bool) (x : FaultInfo) : P (s.capture k src esc x) := by
  have counted : P (s.bump Fld.FLT_CAP_OVERFLOW_COUNT 0 k) := hP.bump h (.inl rfl) ..
  exact iteInduction (fun _ => hP.writeCap (hP.box _ _ h) ..)
    fun _ => iteInduction (fun _ => hP.writeCap (hP.box _ _ counted) ..) fun _ => counted

theorem updErr (h : P s) : P s.updErr := by
  rw [State.updErr_eq]
  exact hP.box _ _ h

theorem queueBulletin (h : P s) (src : Src) (urgent : Bool) (r : BulRec) : P (s.queueBulletin src urgent r) := by
  have urgents : P (s.queueUrgent r) :=
    iteInduction (fun _ => hP.box _ _ h) fun _ => iteInduction (fun _ => hP.bump h (.inl rfl) ..) fun _ => hP.box _ _ h
  have queued : P (s.enqueueMask r) := iteInduction (fun _ => hP.bump h (.inl rfl) ..) fun _ => hP.box _ _ h
  have masked : P (s.queueMask r) :=
    iteInduction (fun _ => hP.box _ _ h) fun _ => iteInduction (fun _ => hP.box _ _ h) fun _ => queued
  exact iteInduction (fun _ => urgents) fun _ => iteInduction (fun _ => masked) fun _ => h

theorem reactCrs (h : P s) (src : Src) : P (s.reactCrs src) := iteInduction (fun _ => hP.box _ _ h) fun _ => h

theorem raiseCore {src : Src} {i : Nat} (reset : ∀ s, P s → P (s.blockReset src.row.block i)) (h : P s) (x : FaultInfo) :
    P (s.raiseCore src i x) := by
  have reacted {u : State} (hu : P u) : P (u.reactBrs src i) := iteInduction (fun _ => reset _ (hP.box _ _ hu)) fun _ => hu
  have told {u : State} (e b : Bool) (r : BulRec) (hu : P u) :
      P (State.reactCrs (if e = true then u.updErr.queueBulletin src b r else (u.updErr.queueBulletin src b r).reactBrs src i) src) := by
    have queued : P (u.updErr.queueBulletin src b r) := hP.queueBulletin (hP.updErr hu) ..
    exact hP.reactCrs (iteInduction (fun _ => queued) fun _ => reacted queued) src
  have counted (k : Nat) (e : Bool) : P (((s.capture k src e x).setPend src.index).bump Fld.FLT_COUNT_COUNT 0 src.index) :=
    hP.bump (hP.reg _ _ _ _ _ (.inl rfl) (hP.capture h ..)) (.inl rfl) ..
  exact told _ _ _ (iteInduction (fun _ => hP.box _ _ (counted ..)) fun _ => counted ..)

/-- Raising a source keeps what the BLOCK reset it may ask for keeps. -/
theorem raise {src : Src} {i : Nat} (reset : ∀ s, P s → P (s.blockReset src.row.block i)) (h : P s) (x : FaultInfo) : P (s.raise src i x) := by
  have core := hP.raiseCore reset h x
  have worn (d : FaultInfo) : P (((s.raiseCore src i x).bump Fld.NVM_CNT_COUNT 0 3).raiseCore .nvmWear 0 d) :=
    hP.raiseCore (src := .nvmWear) (fun _ ht => ht) (hP.bump core (.inr rfl) ..) d
  exact iteInduction (fun _ => h) fun _ => iteInduction (fun _ => core) fun _ => iteInduction (fun _ => hP.jrn _ _ core) fun _ => worn _

/-- A source that names no block resets none (R395). -/
theorem raise_of_no_block {src : Src} (hb : src.row.block = .none) (h : P s) (i : Nat) (x : FaultInfo) : P (s.raise src i x) :=
  hP.raise (fun t ht => by rw [hb]; exact ht) h x

end OutsideSignals

/-! ### One view of the state through a condition and through a repetition -/

theorem State.ite_keeps {β : Type} (view : State → β) {c : Prop} [Decidable c] {s t : State} {x : β} (hs : view s = x) (ht : view t = x) :
    view (if c then s else t) = x := iteInduction (motive := fun u => view u = x) (fun _ => hs) fun _ => ht

theorem State.foldl_keeps {α β : Type} (view : State → β) {g : State → α → State} (hg : ∀ a s, view (g s a) = view s) (l : List α) (s : State) :
    view (l.foldl g s) = view s := List.foldlRecOn (motive := fun t => view t = view s) l g rfl fun t ht a _ => (hg a t).trans ht

theorem State.upTo_keeps {β : Type} (view : State → β) {g : Nat → State → State} (hg : ∀ k s, view (g k s) = view s) (n : Nat) (s : State) :
    view (s.upTo n g) = view s := State.foldl_keeps view hg (List.range n) s

end Sys2Proof.Machine
end

section
/-! PROOFS. D, the deliverable bandwidth of both directions, through the tick that cuts the ACCOUNT slot. -/
namespace Sys2Proof.Machine

/-! ### D through the operations the tick shares with other commands -/

theorem State.Frame.bwr_d {n : Nat} {s o : State} (h : s.Frame n o) (hn : n.testBit 14 = false) : s.bwr.d = o.bwr.d :=
  congrArg Bwr.d (h.bwr hn)

theorem State.ite_bwr_d {c : Prop} [Decidable c] {s t : State} {d : Nat × Nat} (hs : s.bwr.d = d) (ht : t.bwr.d = d) :
    (if c then s else t).bwr.d = d := State.ite_keeps (·.bwr.d) hs ht

theorem State.foldl_bwr_d {α : Type} {g : State → α → State} (hg : ∀ a s, (g s a).bwr.d = s.bwr.d) (l : List α) (s : State) :
    (l.foldl g s).bwr.d = s.bwr.d := State.foldl_keeps (·.bwr.d) hg l s

theorem State.upTo_bwr_d {g : Nat → State → State} (hg : ∀ k s, (g k s).bwr.d = s.bwr.d) (n : Nat) (s : State) : (s.upTo n g).bwr.d = s.bwr.d :=
  State.upTo_keeps (·.bwr.d) hg n s

theorem State.when_bwr_d {g : State → State} (hg : ∀ s, (g s).bwr.d = s.bwr.d) (b : Bool) (s : State) : (s.when b g).bwr.d = s.bwr.d :=
  State.ite_bwr_d (hg s) rfl

theorem State.blockReset_bwr_d (k : BrsKind) (i : Nat) (s : State) : (s.blockReset k i).bwr.d = s.bwr.d := by
  refine State.ite_bwr_d rfl ?_
  cases k with
  | chn => exact (State.resetChan_frame (n := 0x21842) .rfl' (.refl _) i).bwr_d rfl
  | vlq =>
    refine State.Frame.bwr_d (n := 0x2002) (.set_vert (State.upTo_frame ?_ (by rfl) fun _ _ hu => State.modBund_frame hu (by rfl) ..) rfl) rfl
    exact State.trainQuad_frame (State.resetBlk_frame .rfl' (by rfl) ..) (by rfl) ..
  | bwr => exact State.Frame.bwr_d (n := 0x2) (s := s.resetBlk .block .bwr) (State.resetBlk_frame .rfl' (.refl _) ..) rfl
  | none => rfl

theorem State.raise_bwr_d (src : Src) (i : Nat) (x : FaultInfo) (s : State) : (s.raise src i x).bwr.d = s.bwr.d :=
  OutsideSignals.raise (P := fun t => t.bwr.d = s.bwr.d) ⟨fun _ _ h => h, fun _ _ h => h, fun _ _ _ _ _ _ h => h⟩
    (fun t h => (State.blockReset_bwr_d _ i t).trans h) rfl x

@[simp] theorem State.bump_bwr (s : State) (f : Field) (i j n : Nat) : (s.bump f i j n).bwr = s.bwr :=
  (State.bump_frame (n := 0x2) .rfl' (.refl _) f i j n).bwr rfl

/-- A count and a source raised after it. -/
theorem State.raise_bump_bwr_d (f : Field) (i j n : Nat) (src : Src) (k : Nat) (x : FaultInfo) (s : State) :
    ((s.bump f i j n).raise src k x).bwr.d = s.bwr.d := by rw [State.raise_bwr_d, State.bump_bwr]

/-! The journal and the flash controller raise NVM_WEAR (R482, R485). -/

theorem State.journal_bwr_d (kind arg payload : Nat) (s : State) : (s.journal kind arg payload).bwr.d = s.bwr.d :=
  State.ite_bwr_d (State.raise_bump_bwr_d ..) rfl

theorem State.charge_bwr_d (o : NvmOp) (s : State) : (s.charge o).1.bwr.d = s.bwr.d := by
  unfold State.charge
  split
  · exact State.journal_bwr_d ..
  · rfl

theorem State.noteDeferred_bwr_d (s : State) : s.noteDeferred.bwr.d = s.bwr.d := by
  refine State.foldl_bwr_d (fun o u => ?_) s.nvm.ops s
  cases o.area with
  | none => rfl
  | some a => exact State.ite_bwr_d rfl (State.raise_bump_bwr_d ..)

theorem State.nvmKick_bwr_d (s : State) : s.nvmKick.bwr.d = s.bwr.d := by
  have noted := State.noteDeferred_bwr_d s
  refine State.ite_bwr_d rfl ?_
  dsimp only
  split
  · exact noted
  · exact (State.charge_bwr_d ..).trans noted

/-! The working copy journals what is set in it (R359, R481). -/

theorem State.repSet_bwr_d (e : RepEnt) (s : State) : (s.repSet e).bwr.d = s.bwr.d := by
  unfold State.repSet State.addDelta
  exact State.ite_bwr_d rfl (State.journal_bwr_d ..)

/-! Self-test ends where its limits no longer hold (R375, R376, R387). -/

theorem State.stopMarches_bwr_d (s : State) :
    (s.eachChan fun c s => if (s.chan c).test then (s.stopMarch c).setTest c false else s).bwr.d = s.bwr.d :=
  State.Frame.bwr_d (n := 0x802) (State.eachChan_frame .rfl' (by rfl) fun _ _ hu =>
    .ite (State.setTest_frame (State.stopMarch_frame hu (by rfl) _) (by rfl) ..) hu) rfl

theorem State.writeSeal_bwr_d (k : Nat) (s : State) : (s.writeSeal k).bwr.d = s.bwr.d := by
  unfold State.writeSeal State.nvmAdd
  exact State.nvmKick_bwr_d _

theorem State.abortTest_bwr_d (cause : Nat) (s : State) : (s.abortTest cause).bwr.d = s.bwr.d := by
  have ended (u : State) : ((u.raise .bstNotRun 0 { detail := cause, access := 7 }).bump Fld.BST_CNT_COUNT 0 1 |>.eachChan fun c s =>
      if (s.chan c).test then (s.stopMarch c).setTest c false else s).bwr.d = u.bwr.d := by
    rw [State.stopMarches_bwr_d, State.bump_bwr, State.raise_bwr_d]
  unfold State.abortTest
  refine State.ite_bwr_d rfl ?_
  dsimp only
  refine State.ite_bwr_d ?_ ?_
  · rw [State.setFld_bwr]
    exact ended _
  · rw [State.writeSeal_bwr_d, State.setFld_bwr]
    exact ended _

theorem State.abortChTest_bwr_d (cause : Nat) (s : State) : (s.abortChTest cause).bwr.d = s.bwr.d := by
  unfold State.abortChTest
  split
  · rfl
  · refine ((State.stopChTest_frame (n := 0x20802) .rfl' (.refl _) _).bwr_d rfl).trans ?_
    exact State.raise_bump_bwr_d ..

theorem State.testLimits_bwr_d (a b : Bool) (s : State) : (s.testLimits a b).bwr.d = s.bwr.d := by
  refine State.ite_bwr_d rfl (State.ite_bwr_d (State.abortTest_bwr_d ..) ?_)
  split
  · exact State.ite_bwr_d rfl (State.abortChTest_bwr_d ..)
  · rfl

/-! ### D through the steps of R61 -/

theorem State.cutSlots_bwr_d (cut : List Nat) (s : State) : (s.cutSlots cut).bwr.d = s.bwr.d :=
  State.foldl_bwr_d (fun c => State.raise_bwr_d _ c _) cut _

theorem State.applyStaged_bwr_d (s : State) : s.applyStaged.bwr.d = s.bwr.d := State.ite_bwr_d rfl rfl

theorem State.mapRowsTick_bwr_d (s : State) : s.mapRowsTick.bwr.d = s.bwr.d := by
  refine State.foldl_bwr_d (fun e u => ?_) _ _
  rw [State.bump_bwr, State.repSet_bwr_d]

theorem State.migTick_bwr_d (c : Nat) (s : State) : (s.migTick c).bwr.d = s.bwr.d := by
  unfold State.migTick
  split
  · rfl
  · refine State.ite_bwr_d rfl ?_
    exact ((State.migReadBack_frame (n := 0x800) .rfl' (.refl _) ..).bwr_d rfl).trans (State.repSet_bwr_d ..)

theorem State.codecTick_bwr_d (s : State) : s.codecTick.bwr.d = s.bwr.d := State.ite_bwr_d rfl (State.repSet_bwr_d ..)

/-- Step 3 in the core and vertical domains: trims, lanes, the CLEAR, the map's rows, fills and migrations. -/
theorem State.applyCore_bwr_d (s : State) : s.applyCore.bwr.d = s.bwr.d := by
  have bundles (u : State) : (u.vert.bund.foldl (fun s e => s.applyBund e.1) u).bwr.d = u.bwr.d :=
    State.foldl_bwr_d (fun (e : Nat × Bund) _ => (State.applyBund_frame (n := 0x2002) .rfl' (.refl _) e.1).bwr_d rfl) u.vert.bund u
  have tracks (u : State) : (u.trks.foldl (fun s e => s.applyTrack e.1) u).bwr.d = u.bwr.d :=
    State.foldl_bwr_d (fun (e : Nat × Trk) _ => (State.applyTrack_frame (n := 0x22) .rfl' (.refl _) e.1).bwr_d rfl) u.trks u
  have quiet (u : State) : (u.upTo 4 fun q s => s.setFld Fld.VLQ_STATUS_QUIET 0 q).bwr.d = u.bwr.d := State.upTo_bwr_d (fun _ _ => rfl) 4 u
  have cleared (u : State) : u.clearMap.bwr.d = u.bwr.d := (State.clearMap_frame (n := 0x8802) .rfl' (.refl _)).bwr_d rfl
  have filled (c : Nat) (u : State) : (u.fillTick c).bwr.d = u.bwr.d := (State.fillTick_frame (n := 0x8802) .rfl' (.refl _) c).bwr_d rfl
  have jobs (u : State) : (u.chans.foldl (fun s e => (s.fillTick e.1).migTick e.1) u).bwr.d = u.bwr.d :=
    State.foldl_bwr_d (fun (e : Nat × Chan) v => (State.migTick_bwr_d e.1 _).trans (filled e.1 v)) u.chans u
  have noted (u : State) : u.noteWork.bwr.d = u.bwr.d := (State.noteWork_frame (n := 0x40800) .rfl' (.refl _)).bwr_d rfl
  unfold State.applyCore
  dsimp only
  rw [noted, State.codecTick_bwr_d, jobs, State.mapRowsTick_bwr_d, cleared, quiet, tracks, bundles]

theorem State.refill_bwr_d (w : Bool) (D : Nat) (full : Bool) (s : State) : (s.refill w D full).bwr.d = s.bwr.d := by
  unfold State.refill
  dsimp only
  rw [State.setFld_bwr]
  exact State.upTo_bwr_d (fun _ _ => rfl) 64 s

theorem State.refillAll_bwr_d (s : State) : s.refillAll.bwr.d = s.bwr.d := by
  unfold State.refillAll
  refine State.ite_bwr_d rfl ?_
  dsimp only
  rw [State.refill_bwr_d, State.refill_bwr_d]
  rfl

theorem State.accrue_bwr_d (c : Nat) (s : State) : (s.accrue c).bwr.d = s.bwr.d := by
  unfold State.accrue
  refine State.ite_bwr_d rfl (State.ite_bwr_d ?_ rfl)
  rw [State.raise_bwr_d]
  rfl

theorem State.coreIntervals_bwr_d (s : State) : s.coreIntervals.bwr.d = s.bwr.d := by
  have ticked : (s.mapChans Chan.ticked).tickTrks.bwr.d = s.bwr.d := (State.tickTrks_frame (n := 0x20) .rfl' (.refl _)).bwr_d rfl
  unfold State.coreIntervals
  dsimp only
  split
  · dsimp only
    exact ticked
  · dsimp only
    exact ticked

theorem State.tellHold_bwr_d (s : State) : s.tellHold.bwr.d = s.bwr.d := State.ite_bwr_d rfl (State.ite_bwr_d (State.raise_bwr_d ..) rfl)

theorem State.serviceIntervals_bwr_d (a b : Bool) (s : State) : (s.serviceIntervals a b).bwr.d = s.bwr.d := by
  unfold State.serviceIntervals
  dsimp only
  rw [State.nvmKick_bwr_d, State.tellHold_bwr_d, State.testLimits_bwr_d]
  exact State.ite_bwr_d (congrArg Bwr.d (State.bump_bwr ..)) rfl

/-- The tick leaves D as it was: ACCOUNT_SLOT alone sets it (R214, R215). -/
theorem execFrameTick_bwr_d {a b : Bool} {s t : State} (h : execFrameTick a b s = .next t) : t.bwr.d = s.bwr.d := by
  have counted (u : State) : u.countOverruns.bwr.d = u.bwr.d := (State.countOverruns_frame (n := 0x2) .rfl' (.refl _)).bwr_d rfl
  have copied (u : State) : u.snapshot.bwr.d = u.bwr.d := (State.snapshot_frame (n := 0x6) .rfl' (.refl _)).bwr_d rfl
  have opened (u : State) : u.nextFrame.bwr.d = u.bwr.d := (State.nextFrame_frame (n := 0x2000006) .rfl' (.refl _)).bwr_d rfl
  have therm (low : Bool) (u : State) : (u.setTherm low).bwr.d = u.bwr.d := rfl
  have accrued (u : State) : (u.chans.foldl (fun s e => s.accrue e.1) u).bwr.d = u.bwr.d :=
    State.foldl_bwr_d (fun (e : Nat × Chan) => State.accrue_bwr_d e.1) u.chans u
  cases h
  refine State.ite_bwr_d rfl ?_
  dsimp only
  rw [State.serviceIntervals_bwr_d, State.when_bwr_d State.coreIntervals_bwr_d, accrued, State.when_bwr_d State.refillAll_bwr_d, therm,
    State.when_bwr_d State.applyCore_bwr_d, State.applyStaged_bwr_d, State.when_bwr_d (State.cutSlots_bwr_d _), opened, copied,
    State.when_bwr_d counted]

/-- Settles O57: no step of the tick that closes the frame writes D. -/
theorem cutAccountKeepsDeliverable : Obligations.CutAccountKeepsDeliverable := fun _ _ _ _ h => execFrameTick_bwr_d h

end Sys2Proof.Machine
end

section
/-! PROOFS. The ACCOUNT slot, the deficit window and the TELEMETRY slot. -/
namespace Sys2Proof.Machine

/-! ### The deficit window (R218, R221) -/

section
variable {s : State} {m : Nat}

theorem State.deficitMasters_of_nil (h : s.bwr.hit = []) (w : Bool) : s.deficitMasters w = [] := by
  simp [State.deficitMasters, h]

/-- A master held back in reads counts in reads. -/
theorem State.deficitMasters_read (hm : m < 64) (h : s.bwr.hit = [bwKey m false]) : s.deficitMasters false = [m] := by
  have same (n : Nat) : [bwKey m false].contains (bwKey n false) = (n == m) := by
    rw [Bool.eq_iff_iff, List.contains_cons, List.contains_nil, Bool.or_false, beq_iff_eq, beq_iff_eq, bwKey, bwKey]
    omega
  simp only [State.deficitMasters, h, same]
  rw [List.filter_beq, List.nodup_range.count, if_pos (List.mem_range.mpr hm), List.replicate_one]

/-- A master held back in reads alone does not count in writes. -/
theorem State.deficitMasters_write (h : s.bwr.hit = [bwKey m false]) : s.deficitMasters true = [] := by
  refine List.filter_eq_nil_iff.mpr fun n _ => ?_
  have other : bwKey n true ≠ bwKey m false := by
    have one : b2n true = 1 := rfl
    have zero : b2n false = 0 := rfl
    rw [bwKey, bwKey]
    omega
  rw [h, List.contains_cons, List.contains_nil, Bool.or_false, beq_iff_eq]
  exact other

theorem execDeficitWindowEnd_of_closed (h : s.bwr.ticks < 64 ∨ s.regulated = false) : execDeficitWindowEnd s = .next s :=
  congrArg Host.Outcome.next (if_pos (by simpa using h))

/-- With no master held back the window is cleared. -/
theorem execDeficitWindowEnd_of_none (ht : 64 ≤ s.bwr.ticks) (hr : s.regulated = true) (h : s.bwr.hit = []) :
    execDeficitWindowEnd s = .next { s with bwr := { s.bwr with ticks := 0, last := (false, false) } } := by
  have counts : ¬ (s.bwr.ticks < 64 ∨ ¬ s.regulated = true) := by simp [ht, hr]
  rw [execDeficitWindowEnd, if_neg counts, State.deficitMasters_of_nil h, State.deficitMasters_of_nil h]
  change _ = Host.Outcome.next { s with bwr := { s.bwr with hit := s.bwr.hit, ticks := 0, last := (false, false) } }
  rw [h]
  rfl

/-- With one master held back in reads it counts, and is raised where none counted in the window before. -/
theorem execDeficitWindowEnd_of_read (ht : 64 ≤ s.bwr.ticks) (hr : s.regulated = true) (hm : m < 64) (h : s.bwr.hit = [bwKey m false]) :
    execDeficitWindowEnd s = .next (State.raiseDeficit { ((s.bump Fld.BWR_MDEF_DEF_RD 0 m).setFld Fld.BWR_STATUS_SEEN_RD 1) with
      bwr := { s.bwr with hit := [], ticks := 0, last := (true, false) } } false s.bwr.last.1 [m]) := by
  have counts : ¬ (s.bwr.ticks < 64 ∨ ¬ s.regulated = true) := by simp [ht, hr]
  rw [execDeficitWindowEnd, if_neg counts, State.deficitMasters_read hm h, State.deficitMasters_write h, ← State.bump_bwr s Fld.BWR_MDEF_DEF_RD 0 m 1]
  rfl

end

/-! ### The power state through the samples of the TELEMETRY slot -/

theorem stateKey_ne {f : Field} (hf : 0x1000 ≤ f.blk.base) (i j : Nat) : Fld.GLB_STATE_STATE.key 0 0 ≠ f.key i j := by
  have start : Fld.GLB_STATE_STATE.key 0 0 = 0x80 * 64 := rfl
  rw [start, Field.key, Field.addr]
  omega

/-- Only a write to GLB moves the power state. -/
theorem State.inState_setFld {f : Field} (hf : 0x1000 ≤ f.blk.base) (v i j : Nat) (p : PowerState) (s : State) :
    (s.setFld f v i j).inState p = s.inState p := by
  rw [State.inState, State.fld_setFld_ne s v (stateKey_ne hf i j), State.inState]

theorem State.inState_setFlag {f : Field} (hf : 0x1000 ≤ f.blk.base) (b : Bool) (i j : Nat) (p : PowerState) (s : State) :
    (s.setFlag f b i j).inState p = s.inState p := State.inState_setFld hf ..

theorem State.inState_bump {f : Field} (hf : 0x1000 ≤ f.blk.base) (i j n : Nat) (p : PowerState) (s : State) :
    (s.bump f i j n).inState p = s.inState p := by
  rw [State.inState, State.fld_bump_ne _ n (stateKey_ne hf i j), State.inState]

theorem State.inState_raise {src : Src} (hb : src.row.block = .none) (i : Nat) (x : FaultInfo) (p : PowerState) (s : State) :
    (s.raise src i x).inState p = s.inState p := by
  refine OutsideSignals.raise_of_no_block (P := fun t => t.inState p = s.inState p)
    ⟨fun _ _ h => h, fun _ _ h => h, fun t f v j k hf h => (State.inState_setFld ?_ v j k p t).trans h⟩ hb rfl i x
  rcases hf with hf | hf <;> rw [hf] <;> decide

theorem State.inState_raise_if {src : Src} (hb : src.row.block = .none) (c : Prop) [Decidable c] (x : FaultInfo) (p : PowerState) (s : State) :
    (if c then s.raise src 0 x else s).inState p = s.inState p := by
  split
  · exact State.inState_raise hb ..
  · rfl

theorem State.inState_baseSample (i x : Nat) (p : PowerState) (s : State) : (s.baseSample i x).inState p = s.inState p := by
  have sampled (b : Bool) : ((s.setFld Fld.THM_BASE_T_SAMPLE x 0 i).setFlag Fld.THM_BASE_T_VALID b 0 i).inState p = s.inState p := by
    rw [State.inState_setFlag (by decide), State.inState_setFld (by decide)]
  unfold State.baseSample
  dsimp only
  split
  · exact sampled _
  · split
    · exact sampled _
    · rw [State.inState_raise rfl, State.inState_bump (by decide)]
      exact sampled _

theorem State.inState_baseOver (p : PowerState) (s : State) : s.baseOver.inState p = s.inState p := by
  have pulled (u : State) : (if u.thermWanted then u.setTherm true else u).inState p = u.inState p := by
    split
    · exact State.inState_setFlag (by decide) ..
    · rfl
  unfold State.baseOver
  dsimp only
  rw [pulled, State.inState_raise_if rfl, State.inState_setFlag (by decide)]

theorem State.inState_railSamples (r : List (BitVec 14)) (p : PowerState) (s : State) : (s.railSamples r).inState p = s.inState p := by
  have sampled (u : State) : (r.zipIdx.foldl (fun s e => if e.2 < 5 then s.setFld Fld.PWR_RAIL_SAMPLE e.1.toNat 0 e.2 else s) u).inState p =
      u.inState p := by
    refine State.foldl_keeps (·.inState p) (fun e v => ?_) _ u
    split
    · exact State.inState_setFld (by decide) ..
    · rfl
  unfold State.railSamples
  dsimp only
  rw [State.inState_raise_if rfl, State.inState_raise_if rfl]
  exact sampled s

/-! ### The TELEMETRY slot stays done, and stages nothing before its end -/

@[simp] theorem State.raise_thm (s : State) (src : Src) (i : Nat) (x : FaultInfo) : (s.raise src i x).thm = s.thm :=
  (State.raise_frame (n := 0x82784a) .rfl' (.refl _) src i x).thm rfl

@[simp] theorem State.bump_thm (s : State) (f : Field) (i j n : Nat) : (s.bump f i j n).thm = s.thm :=
  (State.bump_frame (n := 0x2) .rfl' (.refl _) f i j n).thm rfl

theorem State.thmDone_baseSample (i x : Nat) (s : State) : (s.baseSample i x).thm.done = s.thm.done := by
  unfold State.baseSample
  dsimp only
  split
  · rfl
  · split
    · rfl
    · rw [State.raise_thm, State.bump_thm]
      rfl

theorem State.thmDone_poll (s : State) : s.poll.thm.done = s.thm.done := by
  have sent (k : CfgCmd) (words : List (Nat × Nat)) (u : State) : (u.sendCfg k words).thm = u.thm :=
    (State.sendCfg_frame (n := 0x2802) .rfl' (.refl _) k words).thm rfl
  have turned (n : Nat) : (if s.vert.hot.isEmpty then { s with thm := { s.thm with next := n } } else s).thm.done = s.thm.done := by
    split
    · rfl
    · rfl
  unfold State.poll
  split
  · rfl
  · dsimp only
    refine State.ite_keeps (·.thm.done) ?_ ?_
    · exact turned _
    · rw [sent, sent, sent]
      exact turned _

theorem State.thmDone_modelStep (s : State) : s.modelStep.thm.done = s.thm.done := by
  have off (u : State) : (u.upTo 16 fun l s => s.setFld Fld.THM_LAYER_T_M_VALID 0 0 l).thm.done = u.thm.done :=
    State.upTo_keeps (·.thm.done) (fun _ _ => rfl) 16 u
  have shown (n : Nat) (u : State) : (u.upTo n fun l s => s.showModel l).thm.done = u.thm.done :=
    State.upTo_keeps (·.thm.done) (fun l _ => congrArg Thm.done ((State.showModel_frame (n := 0x4000002) .rfl' (.refl _) l).thm rfl)) n u
  have stepped (tb : Int) (n : Nat) : (s.modelNew tb n).2.thm = s.thm := (State.modelNew_frame (n := 0x4000000) .rfl' (.refl _) tb n).thm rfl
  unfold State.modelStep
  dsimp only
  split
  · split
    · exact off s
    · rw [shown]
      split
      · refine (State.foldl_keeps (·.thm.done) (fun (e : Nat × Int) u => ?_) _ _).trans (congrArg Thm.done (stepped ..))
        rfl
      · exact State.upTo_keeps (·.thm.done) (fun _ _ => rfl) 16 s
  · exact off s

theorem State.thmDone_disagree (l : Nat) (s : State) : (s.disagree l).thm.done = s.thm.done := by
  unfold State.disagree
  split
  · rfl
  · refine State.ite_keeps (·.thm.done) rfl (State.ite_keeps (·.thm.done) rfl ?_)
    rw [State.raise_thm, State.bump_thm]
    rfl

theorem State.thmDone_refreshRate (l : Nat) (s : State) : (s.refreshRate l).thm.done = s.thm.done := by
  unfold State.refreshRate
  dsimp only
  split
  · split
    · rw [State.raise_thm]
      rfl
    · rfl
  · split
    · rw [State.raise_thm]
      rfl
    · rfl

theorem State.thmDone_throttle (l : Nat) (s : State) : (s.throttle l).thm.done = s.thm.done := by
  refine State.ite_keeps (·.thm.done) ?_ rfl
  rw [State.raise_thm, State.bump_thm]
  rfl

/-- What the TELEMETRY slot samples: the base sensors and the rails (R416). -/
def State.sampled (s : State) (x : Telemetry) : State :=
  let s : State := { s with thm := { s.thm with done := true } }
  let s := x.base.zipIdx.foldl (fun s e => if e.2 < 16 then s.baseSample e.2 e.1.toNat else s) s
  s.baseOver.railSamples x.rails

/-- Outside PARK, what it then evaluates of the layers: poll, model, disagreement, refresh rates, throttle levels (R417 to R424, R229). -/
def State.evaluated (s : State) : State :=
  let s := s.poll.modelStep
  let s := s.presentLayers.foldl (fun s l => s.disagree l) s
  let s := s.presentLayers.foldl (fun s l => s.refreshRate l) s
  let s := { s with thm := { s.thm with base := s.baseLevel } }
  s.presentLayers.foldl (fun s l => s.throttle l) s

theorem State.inState_sampled (x : Telemetry) (p : PowerState) (s : State) : (s.sampled x).inState p = s.inState p := by
  rw [State.sampled, State.inState_railSamples, State.inState_baseOver]
  refine State.foldl_keeps (·.inState p) (fun (e : BitVec 14 × Nat) u => ?_) x.base.zipIdx _
  exact State.ite_keeps (·.inState p) (State.inState_baseSample ..) rfl

theorem State.thmDone_sampled (x : Telemetry) (s : State) : (s.sampled x).thm.done = true := by
  rw [State.sampled, (State.railSamples_frame (n := 0x8a784a) .rfl' (.refl _) x.rails).thm rfl, (State.baseOver_frame (n := 0x82785a) .rfl' (.refl _)).thm rfl]
  refine State.foldl_keeps (·.thm.done) (fun (e : BitVec 14 × Nat) u => ?_) x.base.zipIdx _
  exact State.ite_keeps (·.thm.done) (State.thmDone_baseSample ..) rfl

theorem State.thmDone_evaluated (s : State) : s.evaluated.thm.done = s.thm.done := by
  unfold State.evaluated
  dsimp only
  rw [State.foldl_keeps (·.thm.done) State.thmDone_throttle]
  dsimp only
  rw [State.foldl_keeps (·.thm.done) State.thmDone_refreshRate, State.foldl_keeps (·.thm.done) State.thmDone_disagree, State.thmDone_modelStep,
    State.thmDone_poll]

theorem State.fab_sampled (x : Telemetry) (s : State) : (s.sampled x).fab = s.fab := by
  rw [State.sampled, (State.railSamples_frame (n := 0x8a784a) .rfl' (.refl _) x.rails).fab rfl, (State.baseOver_frame (n := 0x82785a) .rfl' (.refl _)).fab rfl]
  refine State.foldl_keeps State.fab (fun (e : BitVec 14 × Nat) u => ?_) x.base.zipIdx _
  exact State.ite_keeps State.fab ((State.baseSample_frame (n := 0x86784a) .rfl' (.refl _) ..).fab rfl) rfl

theorem State.fab_evaluated (s : State) : s.evaluated.fab = s.fab := by
  unfold State.evaluated
  dsimp only
  rw [State.foldl_keeps State.fab fun l _ => (State.throttle_frame (n := 0x86784a) .rfl' (.refl _) l).fab rfl]
  dsimp only
  rw [State.foldl_keeps State.fab fun l _ => (State.refreshRate_frame (n := 0x86784a) .rfl' (.refl _) l).fab rfl,
    State.foldl_keeps State.fab fun l _ => (State.disagree_frame (n := 0x86784a) .rfl' (.refl _) l).fab rfl,
    (State.modelStep_frame (n := 0x4040002) .rfl' (.refl _)).fab rfl, (State.poll_frame (n := 0x42802) .rfl' (.refl _)).fab rfl]

theorem execTelemetrySlot_of_closed {x : Telemetry} {s : State} (h : s.thm.done = true ∨ s.fld Fld.TT_TIME_CYCLE < 1200) :
    execTelemetrySlot x s = .next s := congrArg Host.Outcome.next (if_pos (h.imp_right fun early => .inr (.inr early)))

theorem execTelemetrySlot_of_open {x : Telemetry} {s : State} (hd : s.thm.done = false) (hb : s.start.b0 = true) (hh : s.hold = none)
    (hc : 1200 ≤ s.fld Fld.TT_TIME_CYCLE) (hp : s.inState .park = false) : execTelemetrySlot x s = .next (s.sampled x).evaluated.stageThermal := by
  have opened : ¬ (s.thm.done = true ∨ ¬ s.start.b0 = true ∨ s.hold.isSome = true ∨ s.fld Fld.TT_TIME_CYCLE < 1200) := by simp [hd, hb, hh, hc]
  have awake : ¬ (s.sampled x).inState .park = true := by simp [State.inState_sampled, hp]
  unfold State.sampled at awake
  unfold execTelemetrySlot State.evaluated State.sampled
  rw [if_neg opened]
  dsimp only at awake ⊢
  rw [if_neg awake]

/-- The two values are staged behind those already staged (R229, R424). -/
theorem State.fab_stageThermal (s : State) : ∃ rates levels, s.stageThermal.fab = { s.fab with later := s.fab.later ++
    [{ key := Fld.REF_LAYER_RATE_RATE.key 0 0, dflt := Fld.REF_LAYER_RATE_RATE.reset 0 0, val := rates },
     { key := Fld.THM_LEVELS_LEVEL.key 0 0, dflt := Fld.THM_LEVELS_LEVEL.reset 0 0, val := levels }] } := by
  have staged (u : State) (rates levels : Nat) : ((u.atTick Fld.REF_LAYER_RATE_RATE rates).atTick Fld.THM_LEVELS_LEVEL levels).fab =
      { u.fab with later := u.fab.later ++
        [{ key := Fld.REF_LAYER_RATE_RATE.key 0 0, dflt := Fld.REF_LAYER_RATE_RATE.reset 0 0, val := rates % 2 ^ Fld.REF_LAYER_RATE_RATE.width },
         { key := Fld.THM_LEVELS_LEVEL.key 0 0, dflt := Fld.THM_LEVELS_LEVEL.reset 0 0, val := levels % 2 ^ Fld.THM_LEVELS_LEVEL.width }] } := by
    simp [State.atTick]
  exact ⟨_, _, staged ..⟩

/-- Settles O20: each command takes the branch its premises choose; what TELEMETRY samples and evaluates leaves the slot done and stages nothing. -/
theorem accountDeficitTelemetry : Obligations.AccountDeficitTelemetry := by
  refine ⟨fun s h => ?account, fun s h => ?accounted, fun s ht hr h => execDeficitWindowEnd_of_none ht hr h, ?read,
    fun s h => execDeficitWindowEnd_of_closed h, ?telemetry, fun x s h => execTelemetrySlot_of_closed h⟩
  case account => exact congrArg Host.Outcome.next (if_neg (by simp [h]))
  case accounted => exact congrArg Host.Outcome.next (if_pos h)
  case read =>
    rintro s m u hm ht hr h rfl
    exact execDeficitWindowEnd_of_read ht hr hm h
  case telemetry =>
    intro x s hd hb hh hc hp
    obtain ⟨rates, levels, staged⟩ := (s.sampled x).evaluated.fab_stageThermal
    refine ⟨_, execTelemetrySlot_of_open hd hb hh hc hp, ?_, rates, levels, ?_⟩
    · rw [(State.stageThermal_frame (n := 0x6) .rfl' (.refl _)).thm rfl, State.thmDone_evaluated, State.thmDone_sampled]
    · rw [staged, State.fab_evaluated, State.fab_sampled]

end Sys2Proof.Machine
end

section
/-! PROOFS. The commands of VLQ and LAY: what the write of VLQ.CTL and of LAY.CTL does once it is performed. -/
namespace Sys2Proof.Machine

/-! ### The bits of a field in a written word -/

theorem Field.of_or (f : Field) (a b : Nat) : f.of (a ||| b) = f.of a ||| f.of b := by
  simp only [Field.of, ← Nat.shiftRight_eq_div_pow, Nat.shiftRight_or_distrib, Nat.or_mod_two_pow]

theorem Field.of_and (f : Field) (a b : Nat) : f.of (a &&& b) = f.of a &&& f.of b := by
  simp only [Field.of, ← Nat.shiftRight_eq_div_pow, Nat.shiftRight_and_distrib, Nat.and_mod_two_pow]

section
variable {f : Field} {w c : BitVec 32}

/-- Setting bits outside a field leaves it as written. -/
theorem Field.of_word_or (h : f.of c.toNat = 0) : f.of (w ||| c).toNat = f.of w.toNat := by
  rw [BitVec.toNat_or, Field.of_or, h, Nat.or_zero]

theorem Field.isSet_word_or (h : f.isSet c.toNat = true) : f.isSet (w ||| c).toNat = true := by
  have grows : f.of c.toNat ≤ f.of w.toNat ||| f.of c.toNat := Nat.right_le_or
  rw [Field.isSet, bne_iff_ne] at h ⊢
  rw [BitVec.toNat_or, Field.of_or]
  omega

/-- A field whose bits a mask holds reads 0 in a word that has none of the mask. -/
theorem Field.of_eq_zero_of_masked {m : BitVec 32} (h : w &&& m = 0) (hm : f.of m.toNat = 2 ^ f.width - 1) : f.of w.toNat = 0 := by
  have both : f.of w.toNat &&& f.of m.toNat = 0 := by
    rw [← Field.of_and, ← BitVec.toNat_and, h]
    simp [Field.of]
  rwa [hm, Nat.and_two_pow_sub_one_eq_mod, Field.of, Nat.mod_mod] at both

theorem Field.isSet_of_masked {m : BitVec 32} (h : w &&& m = 0) (hm : f.of m.toNat = 2 ^ f.width - 1) (hc : f.of c.toNat = 0) :
    f.isSet (w ||| c).toNat = false := by
  rw [Field.isSet, Field.of_word_or hc, Field.of_eq_zero_of_masked h hm]
  rfl

end

/-! ### A performed write: its fields, then its commands (R498) -/

section
variable {s : State} {a v i off : Nat} {b : Blk}

/-- The fields of the register at an address take the value written. -/
def State.putFields (s : State) (a v : Nat) : State := (regHit a).xs.foldl (fun s x => s.putField x v) s

theorem State.perform_regHit (h : blkOf a = some (b, i, off)) : s.perform (regHit a) v = (s.putFields a v).does s b i off v := by
  have live : ¬ (regHit a).snp = true := Bool.false_ne_true
  rw [State.perform, if_neg live]
  dsimp only [regHit]
  rw [h]
  rfl

theorem State.vert_putFields : (s.putFields a v).vert = s.vert :=
  (State.Frame.foldl (n := 0x6) .rfl' fun _ _ h => State.putField_frame h (.refl _) ..).vert rfl

theorem State.fld_putField_ne {x : FieldAt} {e : Field} {k l : Nat} (h : e.key k l ≠ x.f.key x.i x.j) :
    (s.putField x v).fld e k l = s.fld e k l := by
  have agreed : (if x.f.trip then s.agree (x.f.key x.i x.j) else s).fld e k l = s.fld e k l :=
    State.ite_keeps (·.fld e k l) (State.fld_congr ((State.agree_frame (n := 0x4) .rfl' (.refl _) _).regs rfl) ..) rfl
  unfold State.putField
  dsimp only
  generalize (if x.f.trip then s.agree (x.f.key x.i x.j) else s) = u at agreed ⊢
  have written (n : Nat) : (u.setFld x.f n x.i x.j).fld e k l = s.fld e k l := (State.fld_setFld_ne u n h).trans agreed
  split
  · exact agreed
  · exact agreed
  · exact written _
  · exact written _
  · refine State.ite_keeps (·.fld e k l) ?_ (written _)
    exact State.ite_keeps (·.fld e k l) agreed agreed

theorem fieldsOfLay_blk : ∀ f ∈ fieldsOf .lay, f.blk = .lay := by decide

/-- A write of a register of LAY leaves the fields of the blocks below. -/
theorem State.fld_putFields_below_lay {e : Field} {k l : Nat} (h : blkOf a = some (.lay, i, off)) (he : e.key k l < 64 * Blk.base .lay) :
    (s.putFields a v).fld e k l = s.fld e k l := by
  have high : ∀ x ∈ fieldsAt a, e.key k l ≠ x.f.key x.i x.j := by
    intro x hx
    simp only [fieldsAt, h, List.mem_filterMap] at hx
    obtain ⟨f, hf, named⟩ := hx
    split at named
    · obtain ⟨j, -, rfl⟩ := Option.map_eq_some_iff.mp named
      simp only [Field.key, Field.addr, fieldsOfLay_blk f hf] at he ⊢
      omega
    · cases named
  refine List.foldlRecOn (motive := fun (t : State) => t.fld e k l = s.fld e k l) _ _ rfl fun t ht x hx => ?_
  exact (State.fld_putField_ne (high x hx)).trans ht

/-- A register with a field that can be written is refused where its chapter refuses it (R499). -/
theorem State.chapterRefuses_of_not_refused (hr : s.refusal (regHit a) v = none) (h : blkOf a = some (b, i, off))
    (hx : ∃ x ∈ fieldsAt a, x.f.acc ≠ .ro) : s.chapterRefuses (s.withWrite (regHit a) v) b i off v = false := by
  have writable : ¬ ((regHit a).snp = true ∨ ¬ ((regHit a).xs.any fun x => x.f.acc != .ro) = true) := by
    simpa [regHit] using hx
  rw [State.refusal, if_neg writable] at hr
  split at hr
  · cases hr
  · split at hr
    · cases hr
    · dsimp only [regHit] at hr
      rw [h] at hr
      exact Bool.eq_false_iff.mpr fun refused => nomatch (if_pos refused).symm.trans hr

/-- The fields of a block whose register starts at an offset are fields of the register at its address. -/
theorem mem_fieldsAt {f : Field} {j : Nat} (h : blkOf a = some (b, i, off)) (hf : f ∈ fieldsOf b) (hi : i < f.icnt)
    (hj : f.indexAt off = some j) : ({ f := f, i := i, j := j } : FieldAt) ∈ fieldsAt a := by
  simp only [fieldsAt, h, List.mem_filterMap]
  exact ⟨f, hf, by rw [if_pos hi, hj]; rfl⟩

end

/-! ### What follows a performed write changes neither the vertical interface nor its registers (R153, R391) -/

section
variable {s u : State} {x : WSrc} {a : Nat} {v : BitVec 32}

theorem State.refusal_of_accepts (h : s.accepts x 4 a v.toNat = true) (hu : u = s.atFabric x 4 a v.toNat) :
    u.refusal (regHit a) v.toNat = none := by
  simp only [State.accepts, Bool.and_eq_true, Option.isNone_iff_eq_none] at h
  rw [hu]
  exact h.2

/-- An accepted write is performed; what follows is the answer, or the scan's end. -/
theorem State.writeFrom_of_accepts (h : s.accepts x 4 a v.toNat = true) (hu : u = s.atFabric x 4 a v.toNat) :
    (∃ ord, s.writeFrom x 4 a v.toNat = (u.perform (regHit a) v.toNat).respond ord 0x12 0 0) ∨
    ∃ w, s.writeFrom x 4 a v.toNat = { u.perform (regHit a) v.toNat with wrap := w } := by
  subst hu
  cases x with
  | link t m g => exact .inl ⟨_, State.writeFrom_link h v.isLt⟩
  | port => exact .inr (State.writeFrom_port4 h v.isLt)

theorem State.vert_writeFrom (h : s.accepts x 4 a v.toNat = true) (hu : u = s.atFabric x 4 a v.toNat) :
    (s.writeFrom x 4 a v.toNat).vert = (u.perform (regHit a) v.toNat).vert := by
  obtain ⟨ord, e⟩ | ⟨w, e⟩ := State.writeFrom_of_accepts h hu
  · rw [e]
    exact (State.respond_frame (n := 0x62) .rfl' (.refl _) ..).vert rfl
  · rw [e]

/-- The answer writes POOL.RX_DROPPED at most, whose lowest bit is 22. -/
theorem State.fld_respond {f : Field} (hl : f.lo < 64) (hne : f.lo ≠ 22) (ord : Nat) (typ : BitVec 5) (st d i j : Nat) :
    (s.respond ord typ st d).fld f i j = s.fld f i j := by
  unfold State.respond
  split
  · rfl
  · rename_i o _
    have other : f.key i j ≠ Fld.TRK_POOL_RX_DROPPED.key o.track 0 := by
      simp only [Field.key, Fld.TRK_POOL_RX_DROPPED]
      omega
    exact State.ite_keeps (·.fld f i j) (State.fld_bump_ne s 1 other) rfl

theorem State.fld_writeFrom {f : Field} (hl : f.lo < 64) (hne : f.lo ≠ 22) (h : s.accepts x 4 a v.toNat = true)
    (hu : u = s.atFabric x 4 a v.toNat) (i j : Nat) :
    (s.writeFrom x 4 a v.toNat).fld f i j = (u.perform (regHit a) v.toNat).fld f i j := by
  obtain ⟨ord, e⟩ | ⟨w, e⟩ := State.writeFrom_of_accepts h hu
  · rw [e, State.fld_respond hl hne]
  · rw [e]
    rfl

end

theorem State.bund_congr {s t : State} (h : t.vert = s.vert) (b : Nat) : t.bund b = s.bund b := by rw [State.bund, h, State.bund]

/-! ### VLQ.CTL: retune and training (R279, R283) -/

section
variable {s : State} {q : QuadIx} {w : BitVec 32} {x : WSrc}

theorem blkOf_vlqCtl (q : QuadIx) : blkOf (0x080000 + 0x4000 * q.val) = some (.vlq, q.val, 0) := blkOf_at .vlq q 0 q.isLt (by decide)

/-- RETUNE_BUNDLE of an accepted write lies in the quadrant (R279). -/
theorem State.retuneBundle_quadrant {u : State} {v : Nat} (h : u.refusal (regHit (0x080000 + 0x4000 * q.val)) v = none) :
    Fld.VLQ_CTL_RETUNE_BUNDLE.of v / 16 = q.val := by
  have writable := mem_fieldsAt (f := Fld.VLQ_CTL_RETUNE_GO) (j := 0) (blkOf_vlqCtl q) (by decide)
    (Nat.lt_trans q.isLt (by decide)) (by decide)
  have taken := State.chapterRefuses_of_not_refused h (blkOf_vlqCtl q) ⟨_, writable, Access.noConfusion⟩
  simp only [State.chapterRefuses, Bool.or_eq_false_iff] at taken
  simpa using taken.1

/-- A retune of a bundle is pending for eight exchanges, unless one was already. -/
theorem State.bund_setRetune (b : Nat) :
    ((s.setRetune b).bund b).retune = if (s.bund b).retune = 0 then 8 else (s.bund b).retune := by
  rw [State.setRetune, State.setFld_bund, State.bund_modBund_same]

/-- A bundle as the start of its training leaves it. -/
def Bund.untrained (x : Bund) : Bund :=
  { x with up := false, exch := false, retune := 0, isRetune := false, good := [], nc := [], nd := [] }

/-- The bundles as the start of a training of some of them leaves them. -/
def untrain (m : Store Bund) (l : List Nat) : Store Bund := l.foldl (fun m b => Store.set m b {} (Store.get m b {}).untrained) m

/-- Each bundle of the training is no longer up, and one that was not up stays so. -/
theorem up_untrain {l : List Nat} {m : Store Bund} {b : Nat} (h : b ∈ l ∨ (Store.get m b {}).up = false) :
    (Store.get (untrain m l) b {}).up = false := by
  induction l generalizing m with
  | nil => exact h.resolve_left List.not_mem_nil
  | cons d l ih =>
    refine ih ?_
    by_cases hd : b = d
    · exact .inr (by rw [hd, Store.get_set_same]; rfl)
    · rw [Store.get_set_ne _ _ _ _ hd]
      exact h.imp_left fun hb => (List.mem_cons.mp hb).resolve_left hd

theorem quadrant_of_bundles (q : QuadIx) : (((List.range 16).map (16 * q.val + ·)).map fun b => b / 16).eraseDups = [q.val] := by
  revert q
  decide

theorem State.vert_startTraining (j : VTrain) :
    (s.startTraining j).vert = { s.vert with trains := s.vert.trains ++ [j], bund := untrain s.vert.bund j.bundles } := by
  unfold State.startTraining
  exact State.foldl_keeps State.vert (g := fun s q =>
    ((s.setFld Fld.VLQ_STATUS_TRAINING 1 q).setFld Fld.VLQ_STATUS_TRAINED 0 q).setFld Fld.VLQ_STATUS_RETUNING 0 q) (fun _ _ => rfl) _ _

theorem State.fld_trainQuad_training (q : QuadIx) (block : Bool) : (s.trainQuad q block).fld Fld.VLQ_STATUS_TRAINING q = 1 := by
  have trained : Fld.VLQ_STATUS_TRAINING.key q 0 ≠ Fld.VLQ_STATUS_TRAINED.key q 0 := by
    simp only [Field.key, Field.addr, Fld.VLQ_STATUS_TRAINING, Fld.VLQ_STATUS_TRAINED]
    omega
  have retuning : Fld.VLQ_STATUS_TRAINING.key q 0 ≠ Fld.VLQ_STATUS_RETUNING.key q 0 := by
    simp only [Field.key, Field.addr, Fld.VLQ_STATUS_TRAINING, Fld.VLQ_STATUS_RETUNING]
    omega
  rw [State.trainQuad, State.startTraining]
  dsimp only
  rw [quadrant_of_bundles, List.foldl_cons, List.foldl_nil, State.fld_setFld_ne _ _ retuning, State.fld_setFld_ne _ _ trained,
    State.fld_setFld_same]
  rfl

theorem State.up_trainQuad {i : Nat} (hi : i < 16) (q : Nat) (block : Bool) : ((s.trainQuad q block).bund (16 * q + i)).up = false := by
  have trained : 16 * q + i ∈ (List.range 16).map (16 * q + ·) := List.mem_map_of_mem (List.mem_range.mpr hi)
  have bundles : (s.trainQuad q block).vert.bund = untrain s.vert.bund ((List.range 16).map (16 * q + ·)) := by
    rw [State.trainQuad, State.vert_startTraining]
  rw [State.bund, bundles]
  exact up_untrain (.inl trained)

/-- RETUNE_GO alone (R279). -/
theorem State.perform_retune {v : Nat} (hg : Fld.VLQ_CTL_RETUNE_GO.isSet v = true) (ht : Fld.VLQ_CTL_RETRAIN.isSet v = false) :
    s.perform (regHit (0x080000 + 0x4000 * q.val)) v =
      (s.putFields (0x080000 + 0x4000 * q.val) v).setRetune (Fld.VLQ_CTL_RETUNE_BUNDLE.of v) := by
  rw [State.perform_regHit (blkOf_vlqCtl q)]
  simp only [State.does, State.vlqDoes, hg, ht, State.when, if_true, if_false, Bool.false_eq_true]

/-- RETRAIN, with RETUNE_GO or without it (R283). -/
theorem State.perform_retrain {v : Nat} (ht : Fld.VLQ_CTL_RETRAIN.isSet v = true) :
    s.perform (regHit (0x080000 + 0x4000 * q.val)) v = ((s.putFields (0x080000 + 0x4000 * q.val) v).when (Fld.VLQ_CTL_RETUNE_GO.isSet v) fun s =>
      s.setRetune (Fld.VLQ_CTL_RETUNE_BUNDLE.of v)).trainQuad q false := by
  rw [State.perform_regHit (blkOf_vlqCtl q)]
  simp only [State.does, State.vlqDoes, ht, State.when, if_true]

theorem exec_vlqRetuneGo : exec (.vlqRetuneGo x q w) s = .next (s.writeFrom x 4 (0x080000 + 0x4000 * q.val) (w ||| 0x10000).toNat) := rfl

theorem exec_vlqRetrain : exec (.vlqRetrain x q w) s = .next (s.writeFrom x 4 (0x080000 + 0x4000 * q.val) (w ||| 0x10).toNat) := rfl

end

/-! ### LAY.CTL: column sparing, RELAY RESET and CRST (R245, R305, R313) -/

section
variable {s : State} {l : LayerIx} {w : BitVec 32} {x : WSrc} {b n sp v : Nat}

theorem blkOf_layCtl (l : LayerIx) : blkOf (0x090424 + 0x400 * l.val) = some (.lay, l.val, 0x24) := by
  have at_ctl : Blk.base .lay + Blk.span .lay * l.val + 0x24 = 0x090424 + 0x400 * l.val := by
    simp only [Blk.base, Blk.span]
    omega
  rw [← at_ctl]
  exact blkOf_at .lay l 0x24 l.isLt (by decide)

theorem layCtl_addr {f : Field} (hb : f.blk = .lay) (ho : f.off = 0x24) (hj : f.jstr = 0) (l : LayerIx) :
    f.addr l 0 = 0x090424 + 0x400 * l.val := by
  simp only [Field.addr, hb, ho, hj, Blk.base, Blk.span]
  omega

theorem exec_colSpareGo : exec (.colSpareGo x l w) s = .next (s.writeFrom x 4 (0x090424 + 0x400 * l.val) (w ||| 0x10000).toNat) := by
  rw [← layCtl_addr (f := Fld.LAY_CTL_SPARE_GO) rfl rfl rfl l]
  rfl

theorem exec_relayRst : exec (.relayRst x l w) s = .next (s.writeFrom x 4 (0x090424 + 0x400 * l.val) (w ||| 2).toNat) := by
  rw [← layCtl_addr (f := Fld.LAY_CTL_RELAY_RST) rfl rfl rfl l]
  rfl

theorem exec_crst : exec (.crst x l w) s = .next (s.writeFrom x 4 (0x090424 + 0x400 * l.val) (w ||| 1).toNat) := by
  rw [← layCtl_addr (f := Fld.LAY_CTL_CRST) rfl rfl rfl l]
  rfl

/-- Where RELAY_RST is accepted the layer is one below a junction (R313). -/
theorem State.junction_of_relayRst {u : State} (h : u.refusal (regHit (0x090424 + 0x400 * l.val)) v = none)
    (hr : Fld.LAY_CTL_RELAY_RST.isSet v = true) : l.val % 4 = 3 := by
  have writable := mem_fieldsAt (f := Fld.LAY_CTL_RELAY_RST) (j := 0) (blkOf_layCtl l) (by decide)
    (Nat.lt_trans l.isLt (by decide)) (by decide)
  have taken := State.chapterRefuses_of_not_refused h (blkOf_layCtl l) ⟨_, writable, Access.noConfusion⟩
  simp only [State.chapterRefuses, State.layRefuses, hr, decide_true, Bool.true_and, Bool.or_eq_false_iff] at taken
  have junction : l.val ∈ [3, 7, 11] := List.contains_iff_mem.mp (by simpa only [Bool.not_eq_false'] using taken.1)
  simp only [List.mem_cons, List.not_mem_nil, or_false] at junction
  omega

theorem State.perform_spareGo (hg : Fld.LAY_CTL_SPARE_GO.isSet v = true) (hr : Fld.LAY_CTL_RELAY_RST.isSet v = false)
    (hc : Fld.LAY_CTL_CRST.isSet v = false) : s.perform (regHit (0x090424 + 0x400 * l.val)) v =
      (s.putFields (0x090424 + 0x400 * l.val) v).spareCol (4 * l + Fld.LAY_CTL_SPARE_BUNDLE.of v) (Fld.LAY_CTL_SPARE_COL.of v) := by
  rw [State.perform_regHit (blkOf_layCtl l)]
  simp only [State.does, State.layDoes, hg, hr, hc, State.when, if_true, if_false, Bool.false_eq_true]

theorem State.perform_relayRst (hg : Fld.LAY_CTL_SPARE_GO.isSet v = false) (hr : Fld.LAY_CTL_RELAY_RST.isSet v = true)
    (hc : Fld.LAY_CTL_CRST.isSet v = false) : s.perform (regHit (0x090424 + 0x400 * l.val)) v =
      (s.putFields (0x090424 + 0x400 * l.val) v).sendCfg { op := 0x17, bundle := 4 * l, layer := l, use := .other } [(0x17, l + 16)] := by
  rw [State.perform_regHit (blkOf_layCtl l)]
  simp only [State.does, State.layDoes, hg, hr, hc, State.when, if_true, if_false, Bool.false_eq_true]

theorem State.perform_crst (hg : Fld.LAY_CTL_SPARE_GO.isSet v = false) (hr : Fld.LAY_CTL_RELAY_RST.isSet v = false)
    (hc : Fld.LAY_CTL_CRST.isSet v = true) : s.perform (regHit (0x090424 + 0x400 * l.val)) v =
      (s.putFields (0x090424 + 0x400 * l.val) v).sendCrst l := by
  rw [State.perform_regHit (blkOf_layCtl l)]
  simp only [State.does, State.layDoes, hg, hr, hc, State.when, if_true, if_false, Bool.false_eq_true]

/-- A command joins those that await their answer (R297). -/
theorem State.vert_sendCfg (k : CfgCmd) (words : List (Nat × Nat)) :
    (s.sendCfg k words).vert = { s.vert with cfg := s.vert.cfg ++ [{ k with words := words }] } := by
  rw [State.sendCfg]
  dsimp only
  rw [(State.launchCfg_frame (n := 0x802) .rfl' (.refl _) _).vert rfl]

theorem State.vert_sendCrst (l : Nat) : (s.sendCrst l).vert = { s.vert with
    crst := l :: s.vert.crst.filter fun x => x != l
    cfg := s.vert.cfg ++ [{ op := 0x16, bundle := 4 * l, layer := l, use := .crst l, words := [(0x16, l + 0xC3A5 * 2 ^ 16)] }] } := by
  rw [State.sendCrst, State.vert_sendCfg]

/-! Column sparing: which spare, and whether at once (R305) -/

/-- The fields a spare is chosen by lie below LAY. -/
theorem colKey_below_lay {f : Field} (hb : f.blk = .vlq) (ho : f.off + f.jstr * 1023 < 0x4000) (hl : f.lo < 64) (hn : n < 64) (hbu : b < 64) :
    f.key (b / 16) (64 * (b % 16) + n) < 64 * Blk.base .lay := by
  have last : f.jstr * (64 * (b % 16) + n) ≤ f.jstr * 1023 := Nat.mul_le_mul_left _ (by omega)
  simp only [Field.key, Field.addr, hb, Blk.base, Blk.span]
  omega

theorem State.standbyCol_congr {t : State} (h : ∀ n < 64, t.col Fld.VLQ_COL_ROLE b n = s.col Fld.VLQ_COL_ROLE b n) :
    t.standbyCol b = s.standbyCol b := by
  rw [State.standbyCol, State.standbyCol, ← List.head?_filter, ← List.head?_filter]
  refine congrArg List.head? (List.filter_congr fun n hn => ?_)
  obtain ⟨i, hi, rfl⟩ := List.mem_map.mp hn
  have := List.mem_range.mp hi
  rw [h (58 + i) (by omega)]

/-- A column in service that is not being spared gets the standby spare: by a switch where one may be scheduled, else at once (R305). -/
theorem State.spareCol_of_standby (hi : s.idleSpare b n = false) (hl : s.logical b n = n) (hs : ∀ y ∈ (s.bund b).sw, y.col = n → y.spare = 0)
    (hp : s.standbyCol b = some sp) : s.spareCol b n =
      if s.maySwitch b = true then s.beginSwitch b { col := n, spare := sp, frame := 0 } else s.serveCol b n sp := by
  have free : ¬ ((s.bund b).sw.any fun w => w.col = n && w.spare != 0) = true := by simpa using hs
  rw [State.spareCol, if_neg (by simp [hi])]
  dsimp only
  rw [hl, if_neg free, hp]

theorem State.vert_setCal (f : Field) (v b n : Nat) : (s.setCal f v b n).vert = s.vert := (State.setCal_frame (n := 0x2) .rfl' (.refl _) ..).vert rfl

/-- NVM_WEAR, which the journal may raise, resets no block (R395, R482). -/
theorem State.vert_journal (kind arg payload : Nat) : (s.journal kind arg payload).vert = s.vert := by
  have signals : OutsideSignals fun t => t.vert = s.vert := ⟨fun _ _ h => h, fun _ _ h => h, fun _ _ _ _ _ _ h => h⟩
  exact State.ite_keeps State.vert (signals.raise_of_no_block rfl (signals.bump rfl (.inr rfl) ..) ..) rfl

theorem State.vert_repSet (e : RepEnt) : (s.repSet e).vert = s.vert := by
  unfold State.repSet State.addDelta
  exact State.ite_keeps State.vert rfl (State.vert_journal ..)

theorem State.vert_retireSpare (b sp : Nat) : (s.retireSpare b sp).vert = s.vert := by
  rw [State.retireSpare, State.vert_repSet, State.vert_setCal]

theorem State.serves_serveCol : Store.find ((s.serveCol b n sp).bund b).serves sp = some n := by
  have retired (u : State) (old : Nat) : (if old = n then u else u.retireSpare b old).vert = u.vert :=
    State.ite_keeps State.vert rfl (State.vert_retireSpare ..)
  have kept : (s.serveCol b n sp).vert = (s.modBund b fun x => { x with serves := Store.put (x.serves.filter fun e => e.2 != n) sp n }).vert := by
    unfold State.serveCol
    dsimp only
    rw [State.vert_repSet, State.vert_setCal, State.vert_setCal, retired]
  rw [State.bund_congr kept, State.bund_modBund_same]
  exact Store.find_put_same ..

theorem State.bund_setcfg (d layer addr val : Nat) (use : CfgUse) (b : Nat) : (s.setcfg d layer addr val use).bund b = s.bund b := by
  rw [State.bund, State.setcfg, State.vert_sendCfg, State.bund]

/-- The switch waits for the frame LEAD ahead (R274). -/
theorem State.sw_beginSwitch (b : Nat) (w : Switch) : ∃ due, ((s.beginSwitch b w).bund b).sw = (s.bund b).sw ++
    [{ w with frame := s.fld Fld.TT_TIME_FRAME + s.fld Fld.VLQ_GEAR_CFG_LEAD (b / 16), due := due }] := by
  unfold State.beginSwitch
  dsimp only
  apply Exists.intro
  rw [State.foldl_keeps (fun u => u.bund b) fun _ _ => State.bund_setcfg ..]
  refine State.ite_keeps (fun u => (u.bund b).sw) ?_ ?_
  · rw [State.setCol, State.setFld_bund, State.bund_modBund_same]
  · rw [State.bund_modBund_same]

end

section
variable {s u : State} {l : LayerIx} {w : BitVec 32} {x : WSrc} {b n sp : Nat}

/-- COL_SPARE_GO alone, of a column that is no idle spare and is not being spared, while a spare is on standby: the fields of LAY.CTL change nothing the choice looks at. -/
theorem State.perform_colSpareGo (hb : b = 4 * l.val + w.toNat / 64 % 4) (hn : n = w.toNat / 256 % 64) (hw : w &&& 3 = 0)
    (hi : u.idleSpare b n = false) (hl : u.logical b n = n) (hs : ∀ y ∈ (u.bund b).sw, y.col = n → y.spare = 0) (hp : u.standbyCol b = some sp)
    {p : State} (h : p = u.putFields (0x090424 + 0x400 * l.val) (w ||| 0x10000).toNat) :
    u.perform (regHit (0x090424 + 0x400 * l.val)) (w ||| 0x10000).toNat =
      if u.maySwitch b = true then p.beginSwitch b { col := n, spare := sp, frame := 0 } else p.serveCol b n sp := by
  have bundle : Fld.LAY_CTL_SPARE_BUNDLE.of (w ||| 0x10000).toNat = w.toNat / 64 % 4 := Field.of_word_or rfl
  have column : Fld.LAY_CTL_SPARE_COL.of (w ||| 0x10000).toNat = w.toNat / 256 % 64 := Field.of_word_or rfl
  have vert : p.vert = u.vert := by rw [h, State.vert_putFields]
  have bund : p.bund b = u.bund b := State.bund_congr vert b
  have standby : p.standbyCol b = some sp := by
    refine (State.standbyCol_congr fun m hm => ?_).trans hp
    rw [h]
    exact State.fld_putFields_below_lay (blkOf_layCtl l) (colKey_below_lay rfl (by decide) (by decide) hm (by omega))
  have idle : p.idleSpare b n = false := by rwa [State.idleSpare, bund]
  have logical : p.logical b n = n := by rwa [State.logical, bund]
  have unspared : ∀ y ∈ (p.bund b).sw, y.col = n → y.spare = 0 := by rwa [bund]
  have may : p.maySwitch b = u.maySwitch b := by rw [State.maySwitch, bund, vert, State.maySwitch]
  rw [State.perform_spareGo (Field.isSet_word_or rfl) (Field.isSet_of_masked hw rfl rfl) (Field.isSet_of_masked hw rfl rfl), bundle, column,
    ← hb, ← hn, ← h, State.spareCol_of_standby idle logical unspared standby, may]

end

/-- Settles O46: each accepted write is performed, and its command bits alone decide what it does to the vertical interface. -/
theorem verticalCommandsTakeEffect : Obligations.VerticalCommandsTakeEffect := by
  refine ⟨?retune, ?retrain, ?serve, ?switch, ?relay, ?crst⟩
  case retune =>
    rintro x q w s u b ha hu hw rfl
    have bundle : Fld.VLQ_CTL_RETUNE_BUNDLE.of (w ||| 0x10000).toNat = w.toNat / 256 % 64 := Field.of_word_or rfl
    have quadrant := bundle ▸ State.retuneBundle_quadrant (State.refusal_of_accepts ha hu)
    have does := bundle ▸ State.perform_retune (s := u) (q := q) (Field.isSet_word_or (w := w) rfl) (Field.isSet_of_masked hw rfl rfl)
    refine ⟨_, exec_vlqRetuneGo, quadrant, ?_, ?_⟩
    · rw [State.fld_writeFrom (by decide) (by decide) ha hu, does, State.setRetune, quadrant, State.fld_setFld_same]
      rfl
    · rw [State.bund_congr (State.vert_writeFrom ha hu), does, State.bund_setRetune, State.bund_congr State.vert_putFields]
  case retrain =>
    intro x q w s u ha hu
    have does := State.perform_retrain (s := u) (q := q) (Field.isSet_word_or (w := w) (c := 0x10) rfl)
    have vert := (State.vert_writeFrom ha hu).trans (congrArg State.vert does)
    refine ⟨_, exec_vlqRetrain, ?_, ?_, fun i hi => ?_⟩
    · have queued (r : State) : (State.when r (Fld.VLQ_CTL_RETUNE_GO.isSet (w ||| 0x10).toNat) fun s =>
          s.setRetune (Fld.VLQ_CTL_RETUNE_BUNDLE.of (w ||| 0x10).toNat)).vert.trains = r.vert.trains :=
        State.ite_keeps (·.vert.trains) rfl rfl
      rw [vert, State.trainQuad, State.vert_startTraining]
      dsimp only
      rw [queued, State.vert_putFields]
      rfl
    · rw [State.fld_writeFrom (by decide) (by decide) ha hu, does, State.fld_trainQuad_training]
    · rw [State.bund_congr vert, State.up_trainQuad hi]
  case serve =>
    intro x l w s u b n sp ha hu hb hn hw hi hl hs hp hm
    refine ⟨_, exec_colSpareGo, ?_⟩
    rw [State.bund_congr (State.vert_writeFrom ha hu), State.perform_colSpareGo hb hn hw hi hl hs hp rfl, if_neg (by simp [hm]),
      State.serves_serveCol]
  case switch =>
    intro x l w s u b n sp ha hu hb hn hw hi hl hs hp hm
    obtain ⟨p, h⟩ : ∃ p, p = u.putFields (0x090424 + 0x400 * l.val) (w ||| 0x10000).toNat := ⟨_, rfl⟩
    obtain ⟨due, listed⟩ := State.sw_beginSwitch (s := p) b { col := n, spare := sp, frame := 0 }
    have below (f : Field) (i : Nat) (hf : f.key i 0 < 64 * Blk.base .lay) : p.fld f i = u.fld f i := by
      rw [h, State.fld_putFields_below_lay (blkOf_layCtl l) hf]
    refine ⟨_, exec_colSpareGo, ?_⟩
    rw [State.bund_congr (State.vert_writeFrom ha hu), State.perform_colSpareGo hb hn hw hi hl hs hp h, if_pos hm, listed,
      below _ 0 (by decide), below Fld.VLQ_GEAR_CFG_LEAD (b / 16) (by
        simp only [Field.key, Field.addr, Fld.VLQ_GEAR_CFG_LEAD, Blk.base, Blk.span]
        omega), List.any_append]
    simp
  case relay =>
    intro x l w s u ha hu hw
    have reset : Fld.LAY_CTL_RELAY_RST.isSet (w ||| 2).toNat = true := Field.isSet_word_or rfl
    refine ⟨_, exec_relayRst, State.junction_of_relayRst (State.refusal_of_accepts ha hu) reset, ?_⟩
    rw [State.vert_writeFrom ha hu, State.perform_relayRst (Field.isSet_of_masked hw rfl rfl) reset (Field.isSet_of_masked hw rfl rfl),
      State.vert_sendCfg, State.vert_putFields]
  case crst =>
    intro x l w s u ha hu hw
    have vert := State.vert_writeFrom ha hu
    rw [State.perform_crst (Field.isSet_of_masked hw rfl rfl) (Field.isSet_of_masked hw rfl rfl) (Field.isSet_word_or rfl),
      State.vert_sendCrst, State.vert_putFields] at vert
    refine ⟨_, exec_crst, ?_, ?_⟩
    · rw [vert]
      exact List.mem_cons_self
    · rw [vert]

end Sys2Proof.Machine
end

section
/-! PROOFS. Relays and gear windows: what the loss of a relay and its return leave, and a spare that takes its column over within a gear window. -/
namespace Sys2Proof.Machine

/-! ### The loss of a relay and its return (R270, R313) -/

section
variable {s : State} {c d : Nat}

/-- What the loss of a relay does to one channel above it. -/
def State.loseChannel (s : State) (c : Nat) : State :=
  let s := (s.modChan c fun x => { x with path := true }).reside c
  let flying := (s.chan c).out
  let s := s.modChan c fun x => { x with
    out := [], wins := [], ccal := none
    prio := x.prio ++ flying.map fun t => { t with again := true } }
  let s := s.bump Fld.LAY_CNT_COUNT (layIx c) 2 (flying.filter fun t => !t.write).length
  (s.bump Fld.LAY_CNT_COUNT (layIx c) 3 (flying.filter fun t => t.write).length).modBund c fun b => { b with up := false, exch := false }

/-- A channel above a lost relay: it waits for its path, no train of it is in flight, and its bundle carries none. -/
def State.CutOff (s : State) (c : Nat) : Prop := (s.chan c).path = true ∧ (s.chan c).out = [] ∧ (s.bund c).up = false

theorem State.cutOff_congr {t : State} (hc : t.chan c = s.chan c) (hb : t.bund c = s.bund c) (h : s.CutOff c) : t.CutOff c := by
  rwa [State.CutOff, hc, hb]

theorem State.path_reside : ((s.reside c).chan c).path = (s.chan c).path := by
  rw [State.reside, State.chan_bump, State.chan_modChan_same]

theorem State.chan_reside_ne (h : d ≠ c) : (s.reside c).chan d = s.chan d := by
  rw [State.reside, State.chan_bump, State.chan_modChan_ne _ _ h]

theorem State.bund_reside : (s.reside c).bund d = s.bund d :=
  State.bund_congr ((State.reside_frame (n := 0x802) .rfl' (.refl _) c).vert rfl) d

theorem State.cutOff_loseChannel_same : (s.loseChannel c).CutOff c := by
  unfold State.loseChannel
  exact ⟨by simp [State.path_reside], by simp, by simp⟩

theorem State.cutOff_loseChannel_of_ne (hd : c ≠ d) (h : s.CutOff c) : (s.loseChannel d).CutOff c := by
  refine State.cutOff_congr ?_ ?_ h
  · simp [State.loseChannel, State.chan_modChan_ne _ _ hd, State.chan_reside_ne hd]
  · simp [State.loseChannel, State.bund_modBund_ne _ _ hd, State.bund_bump, State.bund_reside]

/-- Each channel of the list ends cut off, and one that was cut off stays so. -/
theorem State.cutOff_foldl {l : List Nat} (h : c ∈ l ∨ s.CutOff c) : (l.foldl State.loseChannel s).CutOff c := by
  induction l generalizing s with
  | nil => exact h.resolve_left List.not_mem_nil
  | cons d l ih =>
    refine ih ?_
    by_cases hd : c = d
    · exact .inr (hd ▸ State.cutOff_loseChannel_same)
    · exact h.imp (fun hc => (List.mem_cons.mp hc).resolve_left hd) (State.cutOff_loseChannel_of_ne hd)

theorem State.relayLost_loseChannel : (s.loseChannel c).vert.relayLost = s.vert.relayLost := by
  have kept (u : State) (f : Field) (i j n : Nat) : (u.bump f i j n).vert = u.vert :=
    (State.bump_frame (n := 0x2) .rfl' (.refl _) ..).vert rfl
  unfold State.loseChannel
  dsimp only [State.modBund]
  rw [kept, kept, State.modChan_vert, (State.reside_frame (n := 0x802) .rfl' (.refl _) c).vert rfl, State.modChan_vert]

/-- A command sent on another bundle leaves a channel cut off. -/
theorem State.cutOff_sendCfg {k : CfgCmd} {words : List (Nat × Nat)} (hk : c ≠ k.bundle) (h : s.CutOff c) : (s.sendCfg k words).CutOff c := by
  refine State.cutOff_congr ?_ (by rw [State.bund, State.vert_sendCfg, State.bund]) h
  change ((s.launchCfg { k with words := words }).chan c) = s.chan c
  rw [State.launchCfg, State.chan_modChan_ne _ _ hk, State.launch, State.launchAt, State.chan_modChan_ne _ _ hk, State.chan_bump]

/-- The registers and the source of a declared loss, then the channels above the junction, then RELAY RESET to it (R270, R313). -/
theorem execRelayLossDeclared_of_lost {h : Fin 3} {r : Bool} (hn : s.vert.relayLost.contains (h.val + 1) = false)
    (hr : r = true ∨ 2 ≤ Store.get s.vert.misses (h.val + 1) 0) : ∃ v : State, (h.val + 1) ∈ v.vert.relayLost ∧
      execRelayLossDeclared h r s = .next (((aboveJunction (h.val + 1)).foldl State.loseChannel v).sendCfg
        { op := 0x17, bundle := 16 * (h.val + 1) - 4, layer := 4 * (h.val + 1) - 1, use := .relay (h.val + 1) }
        [(0x17, 4 * (h.val + 1) - 1 + 16)]) := by
  have declared : ¬ (s.vert.relayLost.contains (h.val + 1) = true ∨ (¬ r = true ∧ Store.get s.vert.misses (h.val + 1) 0 < 2)) := by
    rw [hn]
    rintro (lost | ⟨unset, few⟩)
    · cases lost
    · exact hr.elim unset (Nat.not_le.mpr few)
  unfold execRelayLossDeclared
  dsimp only
  rw [if_neg declared]
  exact ⟨_, List.mem_cons_self, rfl⟩

/-- The training queued by a relay's return runs over the bundles above the junction (R313). -/
def relayTraining (g : Nat) (spineLost : Bool) : VTrain :=
  { seg := g, phase := if spineLost then 1 else 2, last := if spineLost then 3 else g, bundles := aboveJunction g, relay := true }

theorem execRelayFlagRestored_of_lost {h : Fin 3} {b : Bool} (hl : s.vert.relayLost.contains (h.val + 1) = true) :
    ∃ v : State, v.vert.relayLost = s.vert.relayLost.filter (· != h.val + 1) ∧
      execRelayFlagRestored h b s = .next (v.startTraining (relayTraining (h.val + 1) b)) := by
  unfold execRelayFlagRestored
  dsimp only
  rw [if_neg (not_not_intro hl)]
  refine ⟨_, ?_, rfl⟩
  exact congrArg (List.filter _) (State.ite_keeps (·.vert.relayLost) rfl rfl)

theorem exec_relayLossDeclared (h : Fin 3) (r : Bool) : exec (.relayLossDeclared h r) s = execRelayLossDeclared h r s := rfl

theorem exec_relayFlagRestored (h : Fin 3) (b : Bool) : exec (.relayFlagRestored h b) s = execRelayFlagRestored h b s := rfl

end

/-- Settles O38: the channels above the junction are cut off one by one, and RELAY RESET goes out on a bundle below it; the relay's return queues its training last. -/
theorem relayLossAndReturn : Obligations.RelayLossAndReturn := by
  refine ⟨?ignored, ?lost, ?whole, ?restored⟩
  case ignored =>
    intro h r s hr
    rw [exec_relayLossDeclared, execRelayLossDeclared]
    dsimp only
    rw [if_pos (hr.imp_right fun few => ⟨Bool.eq_false_iff.mp few.1, few.2⟩)]
  case lost =>
    intro h r s hn hr
    obtain ⟨v, listed, does⟩ := execRelayLossDeclared_of_lost hn hr
    refine ⟨_, does, ?_, fun c hc hc' => ?_⟩
    · rw [State.vert_sendCfg]
      exact (State.foldl_keeps (·.vert.relayLost) (fun _ _ => State.relayLost_loseChannel) _ v).symm ▸ listed
    · have above : c ∈ aboveJunction (h.val + 1) := List.mem_filter.mpr ⟨List.mem_range.mpr hc', decide_eq_true hc⟩
      have other : c ≠ 16 * (h.val + 1) - 4 := by omega
      exact State.cutOff_sendCfg other (State.cutOff_foldl (.inl above))
  case whole =>
    intro h b s hn
    rw [exec_relayFlagRestored, execRelayFlagRestored]
    dsimp only
    rw [if_pos (Bool.eq_false_iff.mp hn)]
  case restored =>
    intro h b s hl
    obtain ⟨v, listed, does⟩ := execRelayFlagRestored_of_lost (b := b) hl
    refine ⟨_, relayTraining (h.val + 1) b, does, ?_, ?_, rfl, rfl, rfl, rfl⟩
    · rw [State.vert_startTraining]
      dsimp only
      rw [listed]
      simp
    · rw [State.vert_startTraining]
      exact List.mem_append_right _ List.mem_cons_self

/-! ### A spare that takes its column over within a gear window (R273, R305) -/

/-- A quadrant with one bundle trained and its window run. A retune of it is under way, so that a spare takes over at once; column 0 is past the limit of every gear, C58 stands by, no other column is in use, and both have counted chips. -/
def wornColumn : State :=
  (State.reset.upTo 64 fun n s => s.setCol Fld.VLQ_COL_ROLE (if n = 0 then 0 else if n = 58 then 1 else 2) 0 n).modBund 0 fun x =>
    { x with up := true, win := 1024, retune := 1, nc := [(0, 16384), (58, 16384)], nd := [(0, 16384)] }

/-- The margin loop of column 0 takes its own counts and leaves those of the spare. -/
theorem nc_gearLoop_wornColumn : (((wornColumn.modBund 0 fun x => { x with win := 0 }).gearLoop 0 0 []).bund 0).nc = [(58, 16384)] := by
  decide +kernel

/-- By its turn at C58 the window's end finds the spare in service, and takes its counts as well. -/
theorem nc_gearWindowEnd_wornColumn : ∃ u, exec (.gearWindowEnd 0 []) wornColumn = .next u ∧ (u.bund 0).nc = [] :=
  ⟨_, rfl, by decide +kernel⟩

/-- Refutes O37: a spare put in service by the margin loop of the one column in use takes the loop within the same window. -/
theorem not_gearsAndCollisionWindows : ¬ Obligations.GearsAndCollisionWindows := by
  rintro ⟨-, -, -, loop, -⟩
  have one := loop 0 0 0 0 [] wornColumn rfl (by decide +kernel) (by decide +kernel) (by decide +kernel) (by decide +kernel)
    (by decide +kernel) (by decide +kernel)
  obtain ⟨u, window, taken⟩ := nc_gearWindowEnd_wornColumn
  have same : u = (wornColumn.modBund 0 fun x => { x with win := 0 }).gearLoop 0 0 [] := Host.Outcome.next.inj (window.symm.trans one)
  rw [same] at taken
  cases nc_gearLoop_wornColumn.symm.trans taken

end Sys2Proof.Machine
end

section
/-! PROOFS. The answers of core dies: the command awaited, its answer or the want of it, command errors and alarms. -/
namespace Sys2Proof.Machine

/-! ### The command awaited (R297) -/

/-- Raising a source that names no block leaves the vertical interface. -/
theorem State.vert_raise {src : Src} (hb : src.row.block = .none) (s : State) (i : Nat) (x : FaultInfo) : (s.raise src i x).vert = s.vert :=
  OutsideSignals.raise_of_no_block (P := fun t => t.vert = s.vert) ⟨fun _ _ h => h, fun _ _ h => h, fun _ _ _ _ _ _ h => h⟩ hb rfl i x

theorem State.cfgHead_congr {s t : State} (h : t.vert = s.vert) (b : Nat) : t.cfgHead b = s.cfgHead b := by rw [State.cfgHead, h, State.cfgHead]

/-- The state once a command word of bundle b has failed: counted, VL_CMD_ERR (R295). -/
def State.cmdErr (s : State) (b : Nat) : State := (s.bump Fld.LAY_CNT_COUNT (layIx b) 1).raise .vlCmdErr b (vlDetail b)

/-- A command error leaves the commands that await their answer. -/
theorem State.cfgHead_cmdErr (s : State) (b c : Nat) : (s.cmdErr b).cfgHead c = s.cfgHead c :=
  State.cfgHead_congr ((State.vert_raise rfl _ _ _).trans ((State.bump_frame (n := 0x2) .rfl' (.refl _) ..).vert rfl)) c

section
variable {s : State} {b : Nat} {k : CfgCmd} (hc : s.vert.cfg = [k]) (hb : k.bundle = b)
include hc hb

theorem State.cfgHead_of_only : s.cfgHead b = some k := by
  rw [State.cfgHead, hc]
  exact List.find?_cons_of_pos (decide_eq_true hb)

theorem State.modCfg_of_only (g : CfgCmd → CfgCmd) : s.modCfg b g = { s with vert := { s.vert with cfg := [g k] } } := by
  rw [State.modCfg, hc, State.modCfg.go, if_pos hb]

theorem State.dropCfg_of_only : s.dropCfg b = { s with vert := { s.vert with cfg := [] } } := by
  rw [State.dropCfg, hc, State.dropCfg.go, if_pos hb]

end

/-! ### An answer received (R294) -/

section
variable {s : State} {b : ChanIx} (opened : s.cmdShut b = false)
include opened

section
variable (idle : s.cfgHead b = none)
include idle

theorem execCfghRx_of_unawaited (l : LayerIx) (a n : Nat) (e : Bool) : execCfghRx b l a n e s = .next (s.stale b) := by
  rw [execCfghRx, opened, idle]
  rfl

theorem execCfgdRx_of_unawaited (v : BitVec 32) : execCfgdRx b v s = .next (s.stale b) := by
  rw [execCfgdRx, opened, idle]
  rfl

theorem execCdoneRx_of_unawaited (l : LayerIx) (o : BitVec 5) (f : Bool) (d : BitVec 16) : execCdoneRx b l o f d s = .next (s.stale b) := by
  rw [execCdoneRx, opened, idle]
  rfl

end

theorem execCerrRx_of_unawaited {u : State} (hu : u = s.cmdErr b) (h : u.cfgHead b = none) (l : LayerIx) (o : BitVec 5) (n : Bool) :
    execCerrRx b l o n s = .next u := by
  rw [execCerrRx, opened, ← State.cmdErr, ← hu]
  dsimp only
  rw [h]
  rfl

theorem execCerrRx_of_awaited {u : State} (hu : u = s.cmdErr b) {k : CfgCmd} (h : u.cfgHead b = some k) (l : LayerIx) (o : BitVec 5) (n : Bool) :
    execCerrRx b l o n s = .next (if o.toNat = k.op ∨ o = 0 then u.cfgMissed b else u) := by
  rw [execCerrRx, opened, ← State.cmdErr, ← hu]
  dsimp only
  rw [h]
  rfl

section
variable {k : CfgCmd} (awaited : s.cfgHead b = some k)
include awaited

/-- The header of the awaited GETCFG answer lets its words in, or with an error ends it. -/
theorem execCfghRx_of_due {l : LayerIx} (hop : k.op = 0x10) (hl : l.val = k.layer) (hh : k.head = false) (e : Bool) :
    execCfghRx b l k.addr k.count e s =
      .next (if e then (s.dropCfg b).pollFailed k.use else s.modCfg b fun j => { j with head := true }) := by
  have named : ¬(k.op ≠ 0x10 ∧ k.op ≠ 0x13 ∨ k.layer ≠ l.val ∨ k.head = true ∨ k.op = 0x10 ∧ (k.addr ≠ k.addr ∨ k.count ≠ k.count)) := by
    rintro (⟨op, -⟩ | layer | header | ⟨-, addr | count⟩)
    · exact op hop
    · exact layer hl.symm
    · exact Bool.false_ne_true (hh.symm.trans header)
    · exact addr rfl
    · exact count rfl
  rw [execCfghRx, opened, awaited]
  exact congrArg Host.Outcome.next (if_neg named)

section
variable (words : k.head = true) (v : BitVec 32)
include words

/-- A word that is not the last joins those received. -/
theorem execCfgdRx_of_more (more : k.got.length + 1 < k.count) :
    execCfgdRx b v s = .next (s.modCfg b fun j => { j with got := k.got ++ [v.toNat] }) := by
  have short : (k.got ++ [v.toNat]).length < k.count := by rwa [List.length_append, List.length_singleton]
  rw [execCfgdRx, opened, awaited]
  dsimp only
  rw [words, if_pos short]
  rfl

/-- The last word of a witness poll ends the command: the means of the layer are those received (R420). -/
theorem execCfgdRx_of_last_gains (last : k.count ≤ k.got.length + 1) {l : Nat} (hu : k.use = .gains l) :
    execCfgdRx b v s = .next ((s.dropCfg b).modThm l fun y => { y with means := some (k.got ++ [v.toNat]) }) := by
  have full : ¬(k.got ++ [v.toNat]).length < k.count := by rwa [List.length_append, List.length_singleton, Nat.not_lt]
  rw [execCfgdRx, opened, awaited]
  dsimp only
  rw [words, if_neg full, hu]
  rfl

end

section
variable {l : LayerIx} {o : BitVec 5} (hop : k.op = o.toNat) (hl : k.layer = l.val) (d : BitVec 16)
include hop hl

/-- A CDONE that names the awaited command ends it. -/
theorem execCdoneRx_of_other (hu : k.use = .other) (f : Bool) : execCdoneRx b l o f d s = .next (s.dropCfg b) := by
  have named : ¬(k.op ≠ o.toNat ∨ k.layer ≠ l.val) := not_or.mpr ⟨not_not_intro hop, not_not_intro hl⟩
  have nothing (t : State) : t.cfgDone k f = t := by rw [State.cfgDone, hu]
  rw [execCdoneRx, opened, awaited]
  dsimp only
  rw [if_neg named, hu]
  exact congrArg Host.Outcome.next (nothing _)

/-- A switch's write refused is launched again (R274). -/
theorem execCdoneRx_of_switch_refused {x y z : Nat} (hu : k.use = .switch x y z) : execCdoneRx b l o true d s = .next (s.launchCfg k) := by
  have named : ¬(k.op ≠ o.toNat ∨ k.layer ≠ l.val) := not_or.mpr ⟨not_not_intro hop, not_not_intro hl⟩
  rw [execCdoneRx, opened, awaited]
  dsimp only
  rw [if_neg named, hu]
  rfl

end
end
end

/-! ### An answer missed (R308) -/

theorem State.cfgMissed_of_none {s : State} {b : Nat} (h : s.cfgHead b = none) : s.cfgMissed b = s := by
  rw [State.cfgMissed, h]

section
variable {s : State} {b : Nat} {k : CfgCmd} (awaited : s.cfgHead b = some k) (hu : k.use = .other)
include awaited hu

theorem State.cfgMissed_of_retry (ht : k.tries < 3) :
    s.cfgMissed b = (s.modCfg b fun j => { j with tries := j.tries + 1, head := false, got := [] }).launchCfg k := by
  rw [State.cfgMissed, awaited]
  dsimp only
  rw [hu]
  exact (if_neg Bool.false_ne_true).trans (if_pos (.inr ht))

theorem State.cfgMissed_of_given_up (ht : 3 ≤ k.tries) : s.cfgMissed b = s.dropCfg b := by
  have nothing (t : State) : t.cfgDone k true = t := by rw [State.cfgDone, hu]
  rw [State.cfgMissed, awaited]
  dsimp only
  rw [hu]
  exact ((if_neg Bool.false_ne_true).trans (if_neg (not_or.mpr ⟨Bool.false_ne_true, Nat.not_lt.mpr ht⟩))).trans (nothing _)

end

/-! ### Alarms (R311) -/

section
variable {s u : State} {b : ChanIx} {l : LayerIx} {n a : Byte} {d : BitVec 12} (opened : s.cmdShut b = false)
  (hu : u = (((((s.launch b [(0x18, l.val + 16 * n.toNat)]).setFld Fld.LAY_ALARM_NUMBER n.toNat l).setFld Fld.LAY_ALARM_CAUSE a.toNat l).setFld
    Fld.LAY_ALARM_DETAIL d.toNat l)).repeatRefresh b)
include opened hu

/-- An alarm seen last on the layer is answered, recorded and followed by the refreshes alone. -/
theorem execAlrmRx_of_seen (h : Store.get u.vert.alarms l 0 = n.toNat + 1) : execAlrmRx b l n a d s = .next u := by
  rw [execAlrmRx, opened]
  dsimp only
  rw [← hu, if_pos h]
  rfl

theorem execAlrmRx_of_new (h : Store.get u.vert.alarms l 0 ≠ n.toNat + 1) : execAlrmRx b l n a d s =
    .next (((({ u with vert := { u.vert with alarms := Store.set u.vert.alarms l 0 (n.toNat + 1) } } : State).bump Fld.LAY_CNT_COUNT l 6).raise
      .vlCoreAlarm b (vlDetail b 0 0 a.toNat n.toNat)).alarmCause l a.toNat d.toNat) := by
  rw [execAlrmRx, opened]
  dsimp only
  rw [← hu, if_neg h]
  rfl

end

/-- Settles O36: an answer is looked up by its bundle, and what the command it belongs to was sent for decides what it does. -/
theorem coreDieAnswers : Obligations.CoreDieAnswers := by
  refine ⟨?shut, ?unawaited, ?missedUnawaited, ?header, ?headerError, ?word, ?lastWord, ?done, ?refused, ?retry, ?givenUp, ?cerr, ?seen, ?new⟩
  case shut =>
    intro b s h
    exact ⟨fun _ _ _ _ => congrArg Host.Outcome.next (if_pos h), fun _ => congrArg Host.Outcome.next (if_pos h),
      fun _ _ _ _ => congrArg Host.Outcome.next (if_pos h), fun _ _ _ => if_pos h, fun _ _ _ _ => if_pos h⟩
  case unawaited =>
    intro b s h idle
    exact ⟨execCfghRx_of_unawaited h idle, execCfgdRx_of_unawaited h idle, execCdoneRx_of_unawaited h idle,
      execCerrRx_of_unawaited h rfl ((s.cfgHead_cmdErr b b).trans idle)⟩
  case missedUnawaited => exact fun b s idle => congrArg Host.Outcome.next (State.cfgMissed_of_none idle)
  case header =>
    intro b l k s h hc hb hop hl hh
    rw [← State.modCfg_of_only hc hb fun j => { j with head := true }]
    exact execCfghRx_of_due h (State.cfgHead_of_only hc hb) hop hl hh false
  case headerError =>
    intro b l k s h hc hb hop hl hh hu
    rw [← State.dropCfg_of_only hc hb]
    refine (execCfghRx_of_due h (State.cfgHead_of_only hc hb) hop hl hh true).trans ?_
    rw [hu]
    rfl
  case word =>
    intro b k v s h hc hb words more
    rw [← State.modCfg_of_only hc hb fun j => { j with got := k.got ++ [v.toNat] }]
    exact execCfgdRx_of_more h (State.cfgHead_of_only hc hb) words v more
  case lastWord =>
    intro b k v l s h hc hb words last hu
    refine ⟨_, execCfgdRx_of_last_gains h (State.cfgHead_of_only hc hb) words v last hu, ?_, ?_⟩
    · rw [State.dropCfg_of_only hc hb]
      rfl
    · exact congrArg ThmLayer.means (State.thmL_modThm_same ..)
  case done =>
    intro b k l o d f s h hc hb hop hl hu
    rw [← State.dropCfg_of_only hc hb]
    exact execCdoneRx_of_other h (State.cfgHead_of_only hc hb) hop hl d hu f
  case refused =>
    intro b k l o d x y z s h hc hb hop hl hu
    exact execCdoneRx_of_switch_refused h (State.cfgHead_of_only hc hb) hop hl d hu
  case retry =>
    intro b k s hc hb hu ht
    rw [← State.modCfg_of_only hc hb fun j => { j with tries := j.tries + 1, head := false, got := [] }]
    exact congrArg Host.Outcome.next (State.cfgMissed_of_retry (State.cfgHead_of_only hc hb) hu ht)
  case givenUp =>
    intro b k s hc hb hu ht
    rw [← State.dropCfg_of_only hc hb]
    exact congrArg Host.Outcome.next (State.cfgMissed_of_given_up (State.cfgHead_of_only hc hb) hu ht)
  case cerr => exact fun b l o n k s u h hu awaited => execCerrRx_of_awaited h hu awaited l o n
  case seen => exact fun b l n a d s u h hu seen => execAlrmRx_of_seen h hu seen
  case new => exact fun b l n a d s u h hu new => execAlrmRx_of_new h hu new

end Sys2Proof.Machine
end

section
/-! PROOFS. The codeword of a line and its two parities, and the control of a slot. -/
namespace Sys2Proof.Machine

/-! ### The sum of turned blocks (R299) -/

/-- Bit r of a block turned right is bit r + h of the block, its places counted in a circle. -/
theorem getLsbD_rotateRight_block (x : BitVec 32) (h : Nat) {r : Nat} (hr : r < 32) : (x.rotateRight h).getLsbD r = x.getLsbD ((r + h) % 32) := by
  rw [BitVec.getLsbD_rotateRight]
  by_cases inside : r < 32 - h % 32
  · rw [decide_eq_true inside, cond_true, show h % 32 + r = (r + h) % 32 by omega]
  · rw [decide_eq_false inside, cond_false, decide_eq_true hr, Bool.true_and, show r - (32 - h % 32) = (r + h) % 32 by omega]

theorem rotateRight_zero_block (x : BitVec 32) : x.rotateRight 0 = x :=
  BitVec.eq_of_getLsbD_eq fun r hr => by rw [getLsbD_rotateRight_block x 0 hr, Nat.add_zero, Nat.mod_eq_of_lt hr]

section
variable {w v : Nat}

/-- A bit of block j is a bit of the whole. -/
theorem getLsbD_block32 (x : BitVec w) (j : Nat) {r : Nat} (hr : r < 32) : (block32 x j).getLsbD r = x.getLsbD (32 * j + r) := by
  rw [block32, BitVec.getLsbD_extractLsb', decide_eq_true hr, Bool.true_and]

/-- Bit r of the sum is the sum of one bit of each block (R299, R300). -/
theorem getLsbD_circSum (x : BitVec w) (hs : List Nat) {r : Nat} (hr : r < 32) :
    (circSum x hs).getLsbD r = hs.zipIdx.foldl (fun b e => b ^^ x.getLsbD (32 * e.2 + (r + e.1) % 32)) false := by
  have empty : (0 : BitVec 32).getLsbD r = false := BitVec.getLsbD_zero
  rw [circSum, ← empty]
  refine (List.foldl_hom (fun c : BitVec 32 => c.getLsbD r) fun c e => ?_).symm
  have place : (r + e.1) % 32 < 32 := Nat.mod_lt _ (by decide)
  rw [BitVec.getLsbD_xor, getLsbD_rotateRight_block _ _ hr, getLsbD_block32 _ _ place]

/-- The sum looks at as many blocks as it has shifts. -/
theorem circSum_congr {x : BitVec w} {y : BitVec v} {hs : List Nat} (h : ∀ j < hs.length, block32 x j = block32 y j) :
    circSum x hs = circSum y hs :=
  List.foldl_rel (r := Eq) rfl fun _ he _ _ same => by rw [same, h _ (List.snd_lt_of_mem_zipIdx he)]

/-- One more shift adds one more block. -/
theorem circSum_concat (x : BitVec w) (hs : List Nat) (h : Nat) :
    circSum x (hs ++ [h]) = circSum x hs ^^^ (block32 x hs.length).rotateRight h := by
  rw [circSum, List.zipIdx_append, List.foldl_append, circSum]
  simp only [List.zipIdx_singleton, List.foldl_cons, List.foldl_nil, Nat.zero_add]

end

/-! ### The codeword (R299, R300) -/

section
variable (u : Line)

/-- Parity p0 of a line. -/
def parity0 : BitVec 32 := circSum u (base0.take 18)

/-- Parity p1 of a line. -/
def parity1 : BitVec 32 := circSum u (base1.take 18) ^^^ (parity0 u).rotateRight 6

theorem encodeLine_eq : encodeLine u = parity1 u ++ (parity0 u ++ u) := rfl

theorem codeLine_encodeLine : codeLine (encodeLine u) = u := by
  rw [codeLine, encodeLine_eq, BitVec.extractLsb'_append_eq_of_add_le (by decide), BitVec.extractLsb'_append_eq_right]

theorem block32_encodeLine_of_line {j : Nat} (hj : j < 18) : block32 (encodeLine u) j = block32 u j := by
  rw [block32, encodeLine_eq, BitVec.extractLsb'_append_eq_of_add_le (by omega), BitVec.extractLsb'_append_eq_of_add_le (by omega), block32]

theorem block32_encodeLine_parity0 : block32 (encodeLine u) 18 = parity0 u := by
  rw [block32, encodeLine_eq, BitVec.extractLsb'_append_eq_of_add_le (by decide), BitVec.extractLsb'_append_eq_left]

theorem block32_encodeLine_parity1 : block32 (encodeLine u) 19 = parity1 u := by
  rw [block32, encodeLine_eq, BitVec.extractLsb'_append_eq_left]

theorem getLsbD_encodeLine_parity0 {r : Nat} (hr : r < 32) : (encodeLine u).getLsbD (576 + r) = (parity0 u).getLsbD r := by
  rw [← block32_encodeLine_parity0, getLsbD_block32 _ _ hr]

theorem getLsbD_encodeLine_parity1 {r : Nat} (hr : r < 32) : (encodeLine u).getLsbD (608 + r) = (parity1 u).getLsbD r := by
  rw [← block32_encodeLine_parity1, getLsbD_block32 _ _ hr]

/-- The blocks of the line in the codeword sum up to what they do in the line. -/
theorem circSum_encodeLine {hs : List Nat} (h : hs.length = 18) : circSum (encodeLine u) hs = circSum u hs :=
  circSum_congr fun _ hj => block32_encodeLine_of_line u (h ▸ hj)

/-- Block row 0: the line's blocks sum up to p0, which its own block takes away again. -/
theorem circSum_encodeLine_base0 : circSum (encodeLine u) base0 = 0 := by
  change circSum (encodeLine u) (base0.take 18 ++ [0]) = 0
  rw [circSum_concat, circSum_encodeLine u rfl]
  change parity0 u ^^^ (block32 (encodeLine u) 18).rotateRight 0 = 0
  rw [block32_encodeLine_parity0, rotateRight_zero_block]
  exact BitVec.xor_self

/-- Block row 1: with p0 turned by 6 they sum up to p1. -/
theorem circSum_encodeLine_base1 : circSum (encodeLine u) base1 = 0 := by
  change circSum (encodeLine u) ((base1.take 18 ++ [6]) ++ [0]) = 0
  rw [circSum_concat, circSum_concat, circSum_encodeLine u rfl]
  change circSum u (base1.take 18) ^^^ (block32 (encodeLine u) 18).rotateRight 6 ^^^ (block32 (encodeLine u) 19).rotateRight 0 = 0
  rw [block32_encodeLine_parity0, block32_encodeLine_parity1, rotateRight_zero_block]
  exact BitVec.xor_self

theorem lineSyndrome_encodeLine : lineSyndrome (encodeLine u) = (0, 0) := by
  rw [lineSyndrome, circSum_encodeLine_base0, circSum_encodeLine_base1]

end

/-- The same sum over pairs written block first, as the table of the base matrix has them. -/
theorem getLsbD_circSum_swap (u : Line) (hs : List Nat) {r : Nat} (hr : r < 32) : (circSum u hs).getLsbD r =
    (hs.zipIdx.map Prod.swap).foldl (fun x e => x ^^ u.getLsbD (32 * e.1 + (r + e.2) % 32)) false := by
  rw [List.foldl_map, getLsbD_circSum u hs hr]
  rfl

/-! ### Line control (R291) -/

/-- The fields of a line control below CHK. -/
def controlFields (col te index tid : Nat) : Nat := col % 32 + te % 4 * 32 + index % 16 * 256 + tid % 32 * 4096

section
variable (col te index tid : Nat)

theorem controlFields_lt : controlFields col te index tid < 2 ^ 24 := by
  unfold controlFields
  omega

theorem toNat_lineControl : (lineControl col te index tid).toNat =
    controlFields col te index tid + (crc8 (natBytes 3 (controlFields col te index tid))).toNat * 2 ^ 24 := by
  have fields := controlFields_lt col te index tid
  have chk := (crc8 (natBytes 3 (controlFields col te index tid))).isLt
  change (BitVec.ofNat 32 (controlFields col te index tid + (crc8 (natBytes 3 (controlFields col te index tid))).toNat * 2 ^ 24)).toNat = _
  rw [BitVec.toNat_ofNat, Nat.mod_eq_of_lt (by omega)]

/-- A line control carries CHK over its fields, and its TID. -/
theorem controlGood_lineControl (h : tid < 32) : controlGood (lineControl col te index tid) tid = true := by
  have below := controlFields_lt col te index tid
  have whole := toNat_lineControl col te index tid
  have fields : (lineControl col te index tid).toNat % 2 ^ 24 = controlFields col te index tid := by omega
  have chk : (lineControl col te index tid).toNat / 2 ^ 24 = (crc8 (natBytes 3 (controlFields col te index tid))).toNat := by omega
  have named : bits (lineControl col te index tid).toNat 16 12 = tid := by
    unfold bits
    unfold controlFields at whole
    omega
  rw [controlGood, fields, chk, named, BitVec.ofNat_toNat, BitVec.setWidth_eq, decide_eq_true rfl, decide_eq_true rfl, Bool.true_and]

end

/-- Settles O50: a sum of turned blocks sums one bit of each block, and each parity is the sum that its block row takes away again. -/
theorem lineCodewordsSatisfyTheBaseMatrix : Obligations.LineCodewordsSatisfyTheBaseMatrix := by
  refine ⟨fun u r hr => ⟨?p0, ?p1⟩, fun u => ⟨codeLine_encodeLine u, lineSyndrome_encodeLine u⟩, controlGood_lineControl,
    fun _ _ _ => ⟨BitVec.extractLsb'_append_eq_right, BitVec.extractLsb'_append_eq_left⟩⟩
  case p0 => exact (getLsbD_encodeLine_parity0 u hr).trans (getLsbD_circSum_swap u _ hr)
  case p1 =>
    have turned : (r + 6) % 32 < 32 := Nat.mod_lt _ (by decide)
    rw [getLsbD_encodeLine_parity1 u hr, getLsbD_encodeLine_parity0 u turned, parity1, BitVec.getLsbD_xor, getLsbD_rotateRight_block _ _ hr]
    exact congrArg (· ^^ _) (getLsbD_circSum_swap u _ hr)

end Sys2Proof.Machine
end

section
/-! PROOFS. What every step keeps: the queue behind the front command, the invariant, and the parts outside a command's footprint. -/
namespace Sys2Proof.Machine

/-! ### The queue -/

/-- No command writes the queue: part 0 of State lies outside every footprint. -/
theorem footprint_sparesPending (c : Instr) : c.footprint.testBit 0 = false := by
  cases c <;> simp only [Instr.footprint] <;> rfl

/-- Every command answers a next state, with the queue as it was. -/
theorem exec_pending (c : Instr) (s : State) : ∃ t, exec c s = .next t ∧ t.pending = s.pending := by
  obtain ⟨t, ht, frame⟩ := (exec_frame s c).elim
  exact ⟨t, ht, frame.pending (footprint_sparesPending c)⟩

theorem step_of_cons {c : Instr} {rest : List Instr} {s : State} (h : s.pending = c :: rest) : step s = exec c { s with pending := rest } := by
  rw [step, h]

theorem step_of_nil {s : State} (h : s.pending = []) : step s = .next s := by
  rw [step, h]

/-- Settles O1: the queue of such a state has the command at its front. -/
theorem stepRunsTheFrontCommand : Obligations.StepRunsTheFrontCommand := fun _ _ _ => step_of_cons rfl

/-- Settles O2: a step with no command waiting idles. -/
theorem idleStepChangesNothing : Obligations.IdleStepChangesNothing := fun _ => step_of_nil

/-- Settles O3: the front command runs on the queue's rest and leaves it. -/
theorem queueIsFirstInFirstOut : Obligations.QueueIsFirstInFirstOut := fun c rest s h => by
  rw [step_of_cons h]
  exact exec_pending c { s with pending := rest }

/-! ### The invariant (R330, R407, R408, R495) -/

/-- Every command keeps the queue, and the invariant where it held. -/
theorem exec_sound {p : List Instr × Prop} {s : State} (h : s.Sound p) : ∀ c : Instr, Out.Sound p (exec c s)
  | .pwrGoodRise => execPwrGoodRise_sound h
  | .supplySag .. => execSupplySag_sound h ..
  | .refclkLoss => execRefclkLoss_sound h
  | .holdSavePageDone => execHoldSavePageDone_sound h
  | .holdSavePageTimeout => execHoldSavePageTimeout_sound h
  | .holdExitPor => execHoldExitPor_sound h
  | .supplyRemoved => execSupplyRemoved_sound h
  | .resetNFall => execResetNFall_sound h
  | .resetNRise => execResetNRise_sound h
  | .chipResetHoldEnd => execChipResetHoldEnd_sound h
  | .stageB0Service => execStageB0Service_sound h
  | .stageB1Image .. => execStageB1Image_sound h ..
  | .stageB2Stack => execStageB2Stack_sound h
  | .stageB3Test .. => execStageB3Test_sound h ..
  | .startupTestRetry .. => execStartupTestRetry_sound h ..
  | .stageB4Configuration => execStageB4Configuration_sound h
  | .stageB6Channels => execStageB6Channels_sound h
  | .stageB7Widening => execStageB7Widening_sound h
  | .widenEffectiveTick => execWidenEffectiveTick_sound h
  | .holdSlotCopy => execHoldSlotCopy_sound h
  | .frameTick .. => execFrameTick_sound h ..
  | .eventJobOverrun .. => execEventJobOverrun_sound h ..
  | .accountSlot => execAccountSlot_sound h
  | .deficitWindowEnd => execDeficitWindowEnd_sound h
  | .telemetrySlot .. => execTelemetrySlot_sound h ..
  | .refreshSlot .. => execRefreshSlot_sound h ..
  | .scrubSlot .. => execScrubSlot_sound h ..
  | .nrefForceDue .. => execNrefForceDue_sound h ..
  | .retestStart .. => execRetestStart_sound h ..
  | .rxRow .. => execRxRow_sound h ..
  | .calWindowEnd .. => execCalWindowEnd_sound h ..
  | .spareErrWindowEnd .. => execSpareErrWindowEnd_sound h ..
  | .laneMgmtReqRx .. => execLaneMgmtReqRx_sound h ..
  | .laneMgmtAckRx .. => execLaneMgmtAckRx_sound h ..
  | .laneMgmtRejRx .. => execLaneMgmtRejRx_sound h ..
  | .laneSpareReqTimeout .. => execLaneSpareReqTimeout_sound h ..
  | .laneSpareSwitch .. => execLaneSpareSwitch_sound h ..
  | .laneRetire .. => execLaneRetire_sound h ..
  | .txL1Entry .. => execTxL1Entry_sound h ..
  | .txL1Exit .. => execTxL1Exit_sound h ..
  | .wakeDetect .. => execWakeDetect_sound h ..
  | .stallBegin .. => execStallBegin_sound h ..
  | .stallEnd .. => execStallEnd_sound h ..
  | .partialHoldExpiry .. => execPartialHoldExpiry_sound h ..
  | .ackTimeout .. => execAckTimeout_sound h ..
  | .returnPendingTimeout .. => execReturnPendingTimeout_sound h ..
  | .packetTransmit .. => execPacketTransmit_sound h ..
  | .rd .. => execRd_sound h ..
  | .wr .. => execWr_sound h ..
  | .wrm .. => execWrm_sound h ..
  | .fen .. => execFen_sound h ..
  | .rrd .. => execRrd_sound h ..
  | .nul .. => execNul_sound h ..
  | .ts1Rx t x lanes skew => execTs1Rx_sound h t x lanes skew
  | .ts2Rx t x lanes skew => execTs2Rx_sound h t x lanes skew
  | .capRx .. => execCapRx_sound h ..
  | .smapRx .. => execSmapRx_sound h ..
  | .grantRx .. => execGrantRx_sound h ..
  | .rdyRx .. => execRdyRx_sound h ..
  | .cenRx .. => execCenRx_sound h ..
  | .fovRx .. => execFovRx_sound h ..
  | .resetSetRx .. => execResetSetRx_sound h ..
  | .trainPhaseTimeout .. => execTrainPhaseTimeout_sound h ..
  | .trainRetryPeriod .. => execTrainRetryPeriod_sound h ..
  | .censusInterval => execCensusInterval_sound h
  | .censusRepeat .. => execCensusRepeat_sound h ..
  | .censusReplyTimeout .. => execCensusReplyTimeout_sound h ..
  | .turntableCycle => execTurntableCycle_sound h
  | .fenceRelease .. => execFenceRelease_sound h ..
  | .schedIssue .. => execSchedIssue_sound h ..
  | .trainWaitExpiry .. => execTrainWaitExpiry_sound h ..
  | .pageIdleExpiry .. => execPageIdleExpiry_sound h ..
  | .sidingLimitExpiry .. => execSidingLimitExpiry_sound h ..
  | .chnDrained .. => execChnDrained_sound h ..
  | .chnBlockResetDone .. => execChnBlockResetDone_sound h ..
  | .takeoverComplete .. => execTakeoverComplete_sound h ..
  | .readTrainDelivered .. => execReadTrainDelivered_sound h ..
  | .decodeComplete .. => execDecodeComplete_sound h ..
  | .decoderSelfCheck .. => execDecoderSelfCheck_sound h ..
  | .readTrainTimeout .. => execReadTrainTimeout_sound h ..
  | .wackRx .. => execWackRx_sound h ..
  | .wnakRx .. => execWnakRx_sound h ..
  | .wackTimeout .. => execWackTimeout_sound h ..
  | .cfghRx .. => execCfghRx_sound h ..
  | .cfgdRx .. => execCfgdRx_sound h ..
  | .cdoneRx b layer op fail detail => execCdoneRx_sound h b layer op fail detail
  | .cerrRx b layer op notDecoded => execCerrRx_sound h b layer op notDecoded
  | .alrmRx .. => execAlrmRx_sound h ..
  | .gearWindowEnd .. => execGearWindowEnd_sound h ..
  | .gearSwitchAckDeadline .. => execGearSwitchAckDeadline_sound h ..
  | .gearSwitchEffective .. => execGearSwitchEffective_sound h ..
  | .vtrainPhaseComplete .. => execVtrainPhaseComplete_sound h ..
  | .relayLossDeclared .. => execRelayLossDeclared_sound h ..
  | .relayFlagRestored .. => execRelayFlagRestored_sound h ..
  | .vlPllUnlock .. => execVlPllUnlock_sound h ..
  | .srxWaitEnd .. => execSrxWaitEnd_sound h ..
  | .selfRefreshEntry .. => execSelfRefreshEntry_sound h ..
  | .migrationStart .. => execMigrationStart_sound h ..
  | .hrepIssue .. => execHrepIssue_sound h ..
  | .hrepTimeout .. => execHrepTimeout_sound h ..
  | .vmapRowReplace .. => execVmapRowReplace_sound h ..
  | .vmapSweepDone => execVmapSweepDone_sound h
  | .repCommitDelayExpiry => execRepCommitDelayExpiry_sound h
  | .bstPartComplete .. => execBstPartComplete_sound h ..
  | .sealAgeMark => execSealAgeMark_sound h
  | .bulHoldoffEnd => execBulHoldoffEnd_sound h
  | .brsWindowEnd => execBrsWindowEnd_sound h
  | .crsDue => execCrsDue_sound h
  | .errNHoldExpiry => execErrNHoldExpiry_sound h
  | .avsLoopPeriod .. => execAvsLoopPeriod_sound h ..
  | .avsOpComplete .. => execAvsOpComplete_sound h ..
  | .avsRetryTimer => execAvsRetryTimer_sound h
  | .avsCurrentRead => execAvsCurrentRead_sound h
  | .napIdleExpiry => execNapIdleExpiry_sound h
  | .parkDrainComplete .. => execParkDrainComplete_sound h ..
  | .parkDrainLimit => execParkDrainLimit_sound h
  | .parkExit => execParkExit_sound h
  | .nvmStepComplete .. => execNvmStepComplete_sound h ..
  | .wearCreditAccrual => execWearCreditAccrual_sound h
  | .calPeriodExpiry => execCalPeriodExpiry_sound h
  | .voteSweep .. => execVoteSweep_sound h ..
  | .regWrite .. => execRegWrite_sound h ..
  | .ttFrameLoad .. => execTtFrameLoad_sound h ..
  | .ttStageHold .. => execTtStageHold_sound h ..
  | .laneSpareGo .. => execLaneSpareGo_sound h ..
  | .laneCntClr .. => execLaneCntClr_sound h ..
  | .spareStateWrite .. => execSpareStateWrite_sound h ..
  | .prbsCtlWrite .. => execPrbsCtlWrite_sound h ..
  | .injGo .. => execInjGo_sound h ..
  | .trainRetrain .. => execTrainRetrain_sound h ..
  | .fovGo .. => execFovGo_sound h ..
  | .chnEnWrite .. => execChnEnWrite_sound h ..
  | .chnBlkRst .. => execChnBlkRst_sound h ..
  | .chnSwap .. => execChnSwap_sound h ..
  | .bwrGuaranteeWrite .. => execBwrGuaranteeWrite_sound h ..
  | .vlqRetuneGo .. => execVlqRetuneGo_sound h ..
  | .vlqRetrain .. => execVlqRetrain_sound h ..
  | .colSpareGo .. => execColSpareGo_sound h ..
  | .relayRst .. => execRelayRst_sound h ..
  | .crst .. => execCrst_sound h ..
  | .vmapClear .. => execVmapClear_sound h ..
  | .flipArm .. => execFlipArm_sound h ..
  | .repCommit .. => execRepCommit_sound h ..
  | .fuseGo .. => execFuseGo_sound h ..
  | .pendingClr .. => execPendingClr_sound h ..
  | .chtestGo .. => execChtestGo_sound h ..
  | .bstAbort .. => execBstAbort_sound h ..
  | .sealVoid .. => execSealVoid_sound h ..
  | .reactWrite .. => execReactWrite_sound h ..
  | .targetRun .. => execTargetRun_sound h ..
  | .targetNap .. => execTargetNap_sound h ..
  | .targetPark .. => execTargetPark_sound h ..
  | .widenGo .. => execWidenGo_sound h ..
  | .glbResetChip .. => execGlbResetChip_sound h ..
  | .glbBlockRstGo .. => execGlbBlockRstGo_sound h ..
  | .calCommit .. => execCalCommit_sound h ..
  | .winRdGo .. => execWinRdGo_sound h ..
  | .winProgGo .. => execWinProgGo_sound h ..
  | .winEraseGo .. => execWinEraseGo_sound h ..
  | .snapGo .. => execSnapGo_sound h ..
  | .rwlLock .. => execRwlLock_sound h ..
  | .wsBypass .. => execWsBypass_sound h ..
  | .wsExtest .. => execWsExtest_sound h ..
  | .wsPreload .. => execWsPreload_sound h ..
  | .dieId => execDieId_sound h
  | .regAccRead .. => execRegAccRead_sound h ..
  | .regAccWrite .. => execRegAccWrite_sound h ..
  | .wrstnReset => execWrstnReset_sound h
  | .holdSaveNvmReady => execHoldSaveNvmReady_sound h
  | .configResponseMissed .. => execConfigResponseMissed_sound h ..
  | .collisionWindowEnd .. => execCollisionWindowEnd_sound h ..

/-- Settles O5: every table of State.reset is empty, and so are its two bulletin queues. -/
theorem resetHasInvariant : Obligations.ResetHasInvariant :=
  ⟨⟨rfl, rfl, rfl, rfl, rfl, rfl, ⟨rfl, fun _ he => absurd he List.not_mem_nil⟩, Nat.zero_le _, Nat.zero_le _⟩, rfl⟩

/-- Settles O4: the invariant does not speak of the queue, an idle step changes nothing, and every command keeps it. -/
theorem stepKeepsInvariant : Obligations.StepKeepsInvariant := fun s t hs ht => by
  cases hq : s.pending with
  | nil =>
    cases (step_of_nil hq).symm.trans ht
    exact hs
  | cons c rest =>
    have taken : State.Sound (rest, True) { s with pending := rest } := ⟨rfl, fun _ => { hs with }⟩
    have sound := exec_sound taken c
    rw [← step_of_cons hq, ht] at sound
    exact sound.inv trivial

/-! ### The fabric, the thermal record, the AVS loop, the start, PARK and the repair record -/

/-- Settles O59: each of these parts lies outside the footprint of every command its clause does not name. -/
theorem frameOfStagesThermalPowerAndRepair : Obligations.FrameOfStagesThermalPowerAndRepair := fun c s t hw hr ht => by
  have frame := exec_frame_next ht
  cases c with
  | regWrite | ttFrameLoad | ttStageHold | laneSpareGo | laneCntClr | spareStateWrite | prbsCtlWrite | injGo | trainRetrain | fovGo | chnEnWrite
  | chnBlkRst | chnSwap | bwrGuaranteeWrite | vlqRetuneGo | vlqRetrain | colSpareGo | relayRst | crst | vmapClear | flipArm | repCommit | fuseGo
  | pendingClr | chtestGo | bstAbort | sealVoid | reactWrite | targetRun | targetNap | targetPark | widenGo | glbResetChip | glbBlockRstGo
  | calCommit | winRdGo | winProgGo | winEraseGo | snapGo | rwlLock | regAccWrite => cases hw
  | refclkLoss | supplySag | crsDue | pwrGoodRise | resetNFall | resetNRise | chipResetHoldEnd | holdExitPor | supplyRemoved | rrd | fenceRelease
  | resetSetRx => cases hr
  | _ =>
    -- a clause that names the command asks nothing of it; every other asks for a part outside its footprint
    simp only [Instr.footprint] at frame
    refine ⟨?fab, ?thm, ?pwr, ?start, ?park, ?rep⟩
    case fab => first | exact frame.fab rfl | exact True.intro
    case thm => first | exact frame.thm rfl | exact True.intro
    case pwr => first | exact frame.pwr rfl | exact True.intro
    case start => first | exact frame.start rfl | exact True.intro
    case park => first | exact frame.park rfl | exact True.intro
    case rep => first | exact frame.rep rfl | exact True.intro

end Sys2Proof.Machine
end

section
/-! PROOFS. Register accesses: the register commands as writes of their register, the checks of an access in order, and what a register write answers. -/
namespace Sys2Proof.Machine

/-! ### The checks of an access (R496) -/

/-- Beyond the main blocks and their snapshot copies no register lies (R495, R510). -/
theorem hitAt_of_high {a : Nat} (h : 0x200000 ≤ a) : hitAt a = none := by
  rw [hitAt, if_neg (by omega), if_neg (by omega)]

theorem State.access_of_no_wide {s : State} {a : Nat} (h : ∀ r, hitAt (a / 8 * 8) = some r → r.w64 = false) (w half : Bool) :
    s.access w half 8 a = .error .size := by
  have narrow : ((hitAt (a / 8 * 8)).map fun r => r.w64).getD false = false := by
    cases hit : hitAt (a / 8 * 8) with
    | none => rfl
    | some r => exact h r hit
  simp [State.access, narrow]

/-- Over the link half of a 64-bit register is not written. -/
theorem State.access_of_half {s : State} {a : Nat} {r : RegHit} (h : hitAt (a / 8 * 8) = some r) (hw : r.w64 = true) :
    s.access true false 4 a = .error .size := by
  simp [State.access, h, hw]

theorem State.access_of_misaligned {s : State} {a : Nat} (h : a % 4 ≠ 0) (half : Bool) : s.access false half 4 a = .error .align := by
  simp [State.access, h]

theorem State.access_of_high {s : State} {a : Nat} (ha : a % 4 = 0) (h : 0x200000 ≤ a) (w half : Bool) :
    s.access w half 4 a = .error .buserr := by
  have pair : hitAt (a / 8 * 8) = none := hitAt_of_high (by omega)
  simp [State.access, pair, hitAt_of_high h, ha]

/-- Settles O42: each check answers where those before it pass. -/
theorem registerAccessChecksInOrder : Obligations.RegisterAccessChecksInOrder :=
  ⟨fun _ _ _ _ _ h4 h8 => if_pos ⟨h4, h8⟩, fun _ w half _ h => State.access_of_no_wide h w half, fun _ _ _ h hw => State.access_of_half h hw,
    fun _ half _ h => State.access_of_misaligned h half, fun _ w half _ ha h => State.access_of_high ha h w half,
    fun _ _ _ hw ha => State.access_whole hw ha, blkOf_at⟩

/-! ### A register command is a write of its register (R498, R499) -/

section
variable {x : WSrc} {w : BitVec 32} {s : State}

/-- REG_WRITE of the 32-bit register at an address is the write of the word of a field there. -/
theorem writeWord_eq_regWrite {f : Field} {i j a : Nat} (ha : f.addr i j = a) (h : a < 2 ^ 24) :
    Host.Outcome.next (s.writeWord x f w i j) = exec (.regWrite x 4 (BitVec.ofNat 24 a) (w.zeroExtend 64)) s := by
  have addr : (BitVec.ofNat 24 a).toNat = a := Nat.mod_eq_of_lt h
  have word : (w.zeroExtend 64).toNat = w.toNat := BitVec.toNat_setWidth_of_le (by decide)
  show _ = Host.Outcome.next (s.writeFrom x 4 (BitVec.ofNat 24 a).toNat (w.zeroExtend 64).toNat)
  rw [addr, word, ← ha]
  rfl

/-- TARGET_RUN puts 0 into TARGET, whose bits are cleared already. -/
theorem exec_targetRun : exec (.targetRun x w) s = .next (s.writeWord x Fld.GLB_PWR_REQ_TARGET (w &&& 0xFFFFFFFC)) :=
  congrArg (fun v => Host.Outcome.next (s.writeWord x Fld.GLB_PWR_REQ_TARGET v)) BitVec.or_zero

end

/-- The address of a register by its unit, by its unit and index, and by its index in a block of one unit. -/
theorem Field.addr_unit {f : Field} {b span : Nat} (hb : f.blk.base + f.off = b) (hs : f.blk.span = span) (i : Nat) : f.addr i 0 = b + span * i := by
  rw [Field.addr, hs, ← hb, Nat.mul_zero]
  omega

theorem Field.addr_unit_index {f : Field} {b span stride : Nat} (hb : f.blk.base + f.off = b) (hs : f.blk.span = span) (hj : f.jstr = stride)
    (i j : Nat) : f.addr i j = b + span * i + stride * j := by
  rw [Field.addr, hs, hj, ← hb]
  omega

theorem Field.addr_index {f : Field} {b stride : Nat} (hb : f.blk.base + f.off = b) (hj : f.jstr = stride) (j : Nat) : f.addr 0 j = b + stride * j := by
  rw [Field.addr, hj, ← hb, Nat.mul_zero]
  omega

/-- Settles O40: the field of a command gives the address of its register, and a command bit its place in the word. -/
theorem registerCommandsAreWritesOfTheirRegister : Obligations.RegisterCommandsAreWritesOfTheirRegister := by
  refine ⟨fun _ _ _ => rfl, fun x w s => ?single, fun x t w s => ?track, fun x c w s => ?channel, fun x w s => ?guarantee, fun x q w s => ?quadrant,
    fun x l w s => ?layer⟩
  case single =>
    rw [exec_targetRun]
    and_intros <;> exact writeWord_eq_regWrite rfl (by decide)
  case track =>
    refine ⟨?_, ?_, ?_, ?_, ?_, ?_, fun p => ⟨?_, ?_⟩⟩
    iterate 6 exact writeWord_eq_regWrite (Field.addr_unit rfl rfl t) (by omega)
    iterate 2 exact writeWord_eq_regWrite (Field.addr_unit_index rfl rfl rfl t p) (by omega)
  case channel => and_intros <;> exact writeWord_eq_regWrite (Field.addr_unit rfl rfl c) (by omega)
  case guarantee =>
    refine ⟨writeWord_eq_regWrite (f := Fld.BWR_CFG_ADMIT) rfl (by decide), writeWord_eq_regWrite (f := Fld.BWR_DELIV_RD) rfl (by decide), fun m => ?_, fun i => ?_⟩
    · exact writeWord_eq_regWrite (f := Fld.BWR_MGUAR_GUAR_RD) (Field.addr_index rfl rfl m) (by omega)
    · exact writeWord_eq_regWrite (Field.addr_index rfl rfl i) (by omega)
  case quadrant => and_intros <;> exact writeWord_eq_regWrite (Field.addr_unit rfl rfl q) (by omega)
  case layer => and_intros <;> exact writeWord_eq_regWrite (Field.addr_unit rfl rfl l) (by omega)

/-! ### What a register write over the link answers (R154, R163, R499, R501, R504) -/

section
variable {s u : State} {t : TrackIx} {m : BitVec 6} {g : BitVec 14}

/-- The size byte and the address an RWR carries. -/
theorem State.regSize_rwrPkt {size a : Nat} (hs : size < 2 ^ 8) (ha : a < 2 ^ 24) (v : Nat) :
    (s.rwrPkt t m g size a v).regSize = size ∧ (s.rwrPkt t m g size a v).regAddr = a := by
  have word : (BitVec.ofNat 32 (size * 2 ^ 24 + a)).toNat = size * 2 ^ 24 + a := by
    rw [BitVec.toNat_ofNat]
    omega
  constructor
  · show (BitVec.ofNat 32 (size * 2 ^ 24 + a)).toNat / 2 ^ 24 = size
    omega
  · show (BitVec.ofNat 32 (size * 2 ^ 24 + a)).toNat % 2 ^ 24 = a
    omega

/-- A register write taken, well formed and behind no fence goes to the fabric, and the status it has there goes into the RRS. -/
theorem State.regRequest_write {p : Pkt} {st : Status} {z : State} (hc : s.canTake t p = true)
    (hb : (s.takeIn t p).1.badReason t p (s.takeIn t p).2 = none) (hf : (s.takeIn t p).1.fenceBefore (s.takeIn t p).2 = false)
    (ht : pktType p.typ ≠ .rrd) (hp : p.cost = (1, 1))
    (hw : ((s.takeIn t p).1.returnFor t (s.takeIn t p).2 1 1).regWrite (.link t p.master p.tag) p.regSize p.regAddr p.regData = (z, st)) :
    s.regRequest t p = z.respond (s.takeIn t p).2 0x12 st.code 0 := by
  rw [State.regRequest_ok hc hb hf, State.doReg, hp]
  dsimp only
  rw [if_neg ht, hw]

/-- The same of an RWR that arrives. -/
theorem State.writeFrom_link_of_arrives {size a v : Nat} {st : Status} {z : State} (h : s.arrives (.link t m g) size a v = true)
    (hw : (s.atFabric (.link t m g) size a v).regWrite (.link t m g) (s.rwrPkt t m g size a v).regSize (s.rwrPkt t m g size a v).regAddr
      (s.rwrPkt t m g size a v).regData = (z, st)) :
    s.writeFrom (.link t m g) size a v = z.respond (s.takeIn t (s.rwrPkt t m g size a v)).2 0x12 st.code 0 := by
  unfold State.arrives at h
  simp only [Bool.and_eq_true, Bool.not_eq_true', Option.isNone_iff_eq_none] at h
  obtain ⟨⟨taken, formed⟩, free⟩ := h
  exact State.regRequest_write taken formed free (show pktType 0x06 ≠ .rrd by decide) rfl hw

/-- A write of a whole register that a rule refuses is recorded as refused. -/
theorem State.regWrite_of_refused {src : WSrc} {size a v : Nat} {st : Status} (hw : wholeReg size a = true) (ha : u.answers a = true)
    (hr : u.refusal (regHit a) v = some st) : u.regWrite src size a v = ((u.voteRegs (regHit a).xs).refused src (regHit a) st a v, st) := by
  simp only [State.regWrite, State.access_whole hw ha, State.writeHit, hr]

/-- A write that SIZE, ALIGN or BUSERR stops is recorded with its answer. -/
theorem State.regWrite_of_stopped {src : WSrc} {size a : Nat} {st : Status} (h : u.access true false size a = .error st) (v : Nat) :
    u.regWrite src size a v = (u.noteBad src true st a, st) := by
  simp only [State.regWrite, h]

end

/-! ### What a register write through the port leaves (R391, R511) -/

section
variable {s : State} {a v : Nat}

/-- The state in which a scan makes its access. -/
def State.scanning (s : State) : State :=
  { s with wrap := { s.wrap with wir := .regAcc, bumps := none, cap := s.wrap.result.getD 0, edge := some s.cc } }

/-- The scan of a write keeps the status of its access for the next one. -/
theorem State.scanWrite_up {z : State} {st : Status} (h : s.fabricUp = true) (hw : s.scanning.portWrite a v = (z, st)) :
    s.scanWrite a v = { z with wrap := { z.wrap with result := some (accWord 0 st a) } } := by
  rw [State.scanning] at hw
  simp only [State.scanWrite, State.scan_up _ h, hw]

/-- An accepted write of a 32-bit register through the port is performed, and its scan ends OK. -/
theorem State.writeFrom_port_word (h : s.accepts .port 4 a v = true) (hv : v < 2 ^ 32) {z : State}
    (hz : z = (s.atFabric .port 4 a v).perform (regHit a) v) :
    s.writeFrom .port 4 a v = { z with wrap := { z.wrap with result := some (accWord 0 .ok a) } } := by
  simp only [State.accepts, State.arrives, Bool.and_eq_true, Option.isNone_iff_eq_none] at h
  obtain ⟨⟨⟨⟨up, whole⟩, -⟩, answers⟩, free⟩ := h
  have performed : s.scanning.portWrite a v = (z, .ok) := hz ▸ State.portWrite_word (s := s.scanning) whole answers free
  have one : s.writeFrom .port 4 a v = s.scanWrite a (v % 2 ^ 32) := rfl
  rw [one, Nat.mod_eq_of_lt hv, State.scanWrite_up up performed]

/-- The scan that brings the low half of a 64-bit register latches it. -/
theorem State.scanWrite_low (up : s.fabricUp = true) (whole : wholeReg 8 a = true) (answers : s.answers a = true) :
    s.scanWrite a v = { s.scanning with
      wrap := { s.scanning.wrap with result := some (accWord 0 .ok a) }
      fab := { s.scanning.fab.noRd.noWr with wrLatch := some (a, v) } } :=
  State.scanWrite_up up (State.portWrite_halves (s := s.scanning) v whole ((State.answers_congr rfl a).trans answers)).1

/-- An accepted write of a 64-bit register through the port is performed by the scan of its high half, which ends OK. -/
theorem State.writeFrom_port_halves (h : s.accepts .port 8 a v = true) {z : State} (hz : z = (s.atFabric .port 8 a v).perform (regHit a) v) :
    s.writeFrom .port 8 a v = { z with wrap := { z.wrap with result := some (accWord 0 .ok (a + 4)) } } := by
  simp only [State.accepts, State.arrives, Bool.and_eq_true, Option.isNone_iff_eq_none] at h
  obtain ⟨⟨⟨⟨up, whole⟩, answers⟩, -⟩, free⟩ := h
  have low := State.scanWrite_low (v := v % 2 ^ 32) up whole answers
  have halves : v % 2 ^ 32 + v / 2 ^ 32 * 2 ^ 32 = v := by omega
  have two : s.writeFrom .port 8 a v = (s.scanWrite a (v % 2 ^ 32)).scanWrite (a + 4) (v / 2 ^ 32) := by
    unfold State.writeFrom
    exact if_pos rfl
  have fabric : s.atFabric .port 8 a v = { (s.scanWrite a (v % 2 ^ 32)).scanning with fab := (s.scanWrite a (v % 2 ^ 32)).scanning.fab.noRd.noWr } := rfl
  rw [fabric] at free hz
  generalize s.scanWrite a (v % 2 ^ 32) = u at low two free hz
  have high : u.scanning.portWrite (a + 4) (v / 2 ^ 32) = (z, .ok) := by
    have both := (State.portWrite_halves (s := u.scanning) (v % 2 ^ 32) whole (by rw [low]; exact (State.answers_congr rfl a).trans answers)).2
      (v / 2 ^ 32) (by rw [low]; rfl) (by rw [halves]; exact free)
    rw [both, halves, hz]
  rw [two, State.scanWrite_up (by rw [low]; exact up) high]

/-- The word of an access without data that ended OK. -/
theorem accWord_ok {b : Nat} (h : b < 2 ^ 24) : accWord 0 .ok b = BitVec.ofNat 64 (2 ^ 29 + b) := by
  simp only [accWord, Status.code, Nat.mod_eq_of_lt h, Nat.zero_mul, Nat.zero_add, Nat.add_zero]

/-- A port write that is accepted leaves what the write leaves, but for the wrapper, which holds the result of the last scan. -/
theorem State.writeFrom_port_of_accepts {size : Nat} (h : s.accepts .port size a v = true) (hv : v < 2 ^ (8 * size)) :
    ∃ z, s.writeFrom .port size a v = z ∧ z = { (s.atFabric .port size a v).perform (regHit a) v with wrap := z.wrap } ∧
      z.wrap.result = some (BitVec.ofNat 64 (2 ^ 29 + (if size = 8 then a + 4 else a))) := by
  have whole : wholeReg size a = true := by
    simp only [State.accepts, Bool.and_eq_true] at h
    exact h.1.1.1.2
  obtain ⟨low, rfl | rfl⟩ := wholeReg_bounds whole
  · refine ⟨_, State.writeFrom_port_word h hv rfl, rfl, ?_⟩
    rw [if_neg (by decide)]
    exact congrArg some (accWord_ok (by omega))
  · refine ⟨_, State.writeFrom_port_halves h rfl, rfl, ?_⟩
    rw [if_pos rfl]
    exact congrArg some (accWord_ok (by omega))

/-- With no power or in a reset a scan changes the wrapper only, and has no result. -/
theorem State.scan_down (access : State → State × BitVec 64) (hf : s.fabricUp = false) (hh : s.hold = none) :
    s.scan access = { s.scanning with wrap := { s.scanning.wrap with result := none } } := by
  have held : ¬ s.hold.isSome = true := by simp [hh]
  have down : s.scanning.fabricUp = false := hf
  rw [State.scan, if_neg held]
  exact if_pos (Bool.eq_false_iff.mp down)

theorem State.writeFrom_port_down (hf : s.fabricUp = false) (hh : s.hold = none) (size : Nat) :
    ∃ z, s.writeFrom .port size a v = z ∧ z = { s with wrap := z.wrap } ∧ z.wrap.result = none := by
  unfold State.writeFrom State.scanWrite
  dsimp only
  split
  · rw [State.scan_down _ hf hh]
    refine ⟨_, State.scan_down _ hf hh, rfl, rfl⟩
  · exact ⟨_, State.scan_down _ hf hh, rfl, rfl⟩

/-- The port is not served in HOLD. -/
theorem State.writeFrom_port_held (h : s.hold.isSome = true) (size : Nat) : s.writeFrom .port size a v = s := by
  have held (access : State → State × BitVec 64) : s.scan access = s := if_pos h
  unfold State.writeFrom State.scanWrite
  dsimp only
  rw [held, held, ite_self]

end

/-- Settles O41: an RWR that arrives is answered with its status at the fabric, one that does not is answered or held before it, and the port's last scan holds its status. -/
theorem registerWritesArePerformedOrRefused : Obligations.RegisterWritesArePerformedOrRefused := by
  refine ⟨fun t m g size a v s hv h => congrArg _ (State.writeFrom_link h hv), fun size a v s hv h => ?performed, fun t m g size a v u s st hv h hu hw ha hr => ?refused,
    fun t m g size a v u s st h hu he => ?stopped, fun t m g size a v p s hp hc => ?closed, fun t m g size a v p r s hp hc hb => ?bad,
    fun t m g size a v p s hp hc hb hf => ?fenced, fun size a v s hf hh => ?down, fun size a v s h => congrArg _ (State.writeFrom_port_held h _)⟩
  case performed =>
    obtain ⟨z, written, rest, result⟩ := State.writeFrom_port_of_accepts h hv
    refine ⟨z, congrArg _ written, rest, ?_⟩
    rw [result]
    congr 4
    exact propext ⟨fun e => BitVec.eq_of_toNat_eq e, fun e => congrArg BitVec.toNat e⟩
  case refused =>
    subst hu
    obtain ⟨low, word⟩ := wholeReg_bounds hw
    obtain ⟨hsize, haddr, hdata⟩ := s.rwrPkt_reads t m g low word hv
    refine congrArg _ (State.writeFrom_link_of_arrives h ?_)
    rw [hsize, haddr, hdata]
    exact State.regWrite_of_refused hw ha hr
  case stopped =>
    subst hu
    obtain ⟨hsize, haddr⟩ := State.regSize_rwrPkt (s := s) (t := t) (m := m) (g := g) size.isLt a.isLt v.toNat
    refine congrArg _ (State.writeFrom_link_of_arrives h ?_)
    rw [hsize, haddr]
    exact State.regWrite_of_stopped he _
  case closed =>
    subst hp
    exact congrArg _ (State.regRequest_of_not_canTake hc)
  case bad =>
    subst hp
    exact congrArg _ (State.regRequest_of_bad hc rfl hb)
  case fenced =>
    subst hp
    exact congrArg _ (State.regRequest_of_fenced hc rfl hb hf)
  case down =>
    obtain ⟨z, written, rest, result⟩ := State.writeFrom_port_down (a := a.toNat) (v := v.toNat) hf hh size.toNat
    exact ⟨z, congrArg _ written, rest, result⟩

end Sys2Proof.Machine
end

section
/-! PROOFS. The tile code: the check bits of an encoded tile, the syndromes of one and of two bad bits, and the stack ID. -/
namespace Sys2Proof.Machine

/-! ### Sums of bits and of words -/

/-- Sums of bits are the same in any order. -/
theorem xor_commutative : Std.Commutative (α := Bool) bne := ⟨Bool.xor_comm⟩

/-- Sums of words are added up word by word. -/
theorem foldl_xor_xor {w : Nat} (f g : Nat → BitVec w) (l : List Nat) (a b : BitVec w) :
    l.foldl (fun x i => x ^^^ (f i ^^^ g i)) (a ^^^ b) = l.foldl (fun x i => x ^^^ f i) a ^^^ l.foldl (fun x i => x ^^^ g i) b := by
  induction l generalizing a b with
  | nil => rfl
  | cons i l ih =>
    rw [List.foldl_cons, List.foldl_cons, List.foldl_cons, ← ih]
    congr 1
    ac_rfl

/-- A sum with one word other than 0 is that word. -/
theorem foldl_xor_single {w : Nat} (v : BitVec w) (i n : Nat) :
    (List.range n).foldl (fun x r => x ^^^ if r = i then v else 0#w) 0#w = if i < n then v else 0#w := by
  induction n with
  | zero => rfl
  | succ n ih =>
    rw [List.range_succ, List.foldl_append, ih, List.foldl_cons, List.foldl_nil]
    rcases Nat.lt_trichotomy i n with h | rfl | h
    · rw [if_pos h, if_neg (by omega), if_pos (by omega), BitVec.xor_zero]
    · rw [if_neg (by omega), if_pos rfl, if_pos (by omega), BitVec.zero_xor]
    · rw [if_neg (by omega), if_neg (by omega), if_neg (by omega), BitVec.xor_zero]

/-- Bit k of the word with bit i set. -/
theorem getLsbD_one_shiftLeft {w i k : Nat} (hk : k < w) : (1#w <<< i).getLsbD k = decide (k = i) := by
  rw [← BitVec.twoPow_eq, BitVec.getLsbD_twoPow]
  by_cases h : i = k
  · rw [decide_eq_true (h ▸ hk), decide_eq_true h, decide_eq_true h.symm, Bool.true_and]
  · rw [decide_eq_false h, decide_eq_false (Ne.symm h), Bool.and_false]

theorem getLsbD_setBit (x : BitVec 16) (b : Bool) (i : Nat) {k : Nat} (hk : k < 16) :
    (if b then x ||| (1#16 <<< i) else x).getLsbD k = (x.getLsbD k || (b && decide (k = i))) := by
  cases b <;> simp [getLsbD_one_shiftLeft hk]

/-- A word built bit by bit has the bits that were asked for. -/
theorem getLsbD_foldl_setBits (f : Nat → Bool) (n : Nat) {k : Nat} (hk : k < 16) :
    ((List.range n).foldl (fun x i => if f i then x ||| (1#16 <<< i) else x) 0).getLsbD k = (decide (k < n) && f k) := by
  induction n with
  | zero => exact BitVec.getLsbD_zero
  | succ n ih =>
    rw [List.range_succ, List.foldl_append, List.foldl_cons, List.foldl_nil, getLsbD_setBit _ _ _ hk, ih]
    rcases Nat.lt_trichotomy k n with h | rfl | h
    · simp [h, Nat.lt_succ_of_lt h, Nat.ne_of_lt h]
    · simp
    · simp [Nat.not_lt_of_gt h, Nat.ne_of_gt h, show ¬ k < n + 1 by omega]

/-! ### Parities of rows and columns (R318, R320) -/

section
variable (x y : Tile) {i j : Nat}

theorem getLsbD_tileRow (i : Nat) (hj : j < 16) : (tileRow x i).getLsbD j = x.getLsbD (16 * i + j) := by
  rw [tileRow, BitVec.getLsbD_extractLsb', decide_eq_true hj, Bool.true_and]

theorem tileRow_xor (i : Nat) : tileRow (x ^^^ y) i = tileRow x i ^^^ tileRow y i := BitVec.extractLsb'_xor

/-- The parity of a word is the sum of its 16 bits. -/
theorem parity16_eq (v : BitVec 16) : parity16 v = (List.range 16).foldl (fun b j => b ^^ v.getLsbD j) false := by
  have := xor_commutative
  simp [parity16, List.range_succ]
  ac_rfl

theorem parity16_xor (v w : BitVec 16) : parity16 (v ^^^ w) = (parity16 v ^^ parity16 w) := by
  have := xor_commutative
  simp only [parity16, BitVec.getLsbD_xor, BitVec.ushiftRight_xor_distrib]
  ac_rfl

theorem getLsbD_rowParity (hi : i < 16) : (rowParity x).getLsbD i = parity16 (tileRow x i) := by
  rw [rowParity, getLsbD_foldl_setBits (fun i => parity16 (tileRow x i)) 16 hi, decide_eq_true hi, Bool.true_and]

theorem getLsbD_colParity (hj : j < 16) :
    (colParity x).getLsbD j = (List.range 16).foldl (fun b i => b ^^ x.getLsbD (16 * i + j)) false := by
  have empty : (0 : BitVec 16).getLsbD j = false := BitVec.getLsbD_zero
  rw [colParity, ← empty]
  exact (List.foldl_hom (fun c : BitVec 16 => c.getLsbD j) fun c i => by rw [BitVec.getLsbD_xor, getLsbD_tileRow x i hj]).symm

theorem rowParity_xor : rowParity (x ^^^ y) = rowParity x ^^^ rowParity y :=
  BitVec.eq_of_getLsbD_eq fun i hi => by
    rw [BitVec.getLsbD_xor, getLsbD_rowParity _ hi, getLsbD_rowParity _ hi, getLsbD_rowParity _ hi, tileRow_xor, parity16_xor]

theorem colParity_xor : colParity (x ^^^ y) = colParity x ^^^ colParity y := by
  simp only [colParity, tileRow_xor]
  exact foldl_xor_xor (tileRow x) (tileRow y) _ 0 0

/-- Tiles with the same data rows have the same parities. -/
theorem rowParity_congr {x y : Tile} (h : ∀ i < 16, tileRow x i = tileRow y i) : rowParity x = rowParity y :=
  BitVec.eq_of_getLsbD_eq fun i hi => by rw [getLsbD_rowParity _ hi, getLsbD_rowParity _ hi, h i hi]

theorem colParity_congr {x y : Tile} (h : ∀ i < 16, tileRow x i = tileRow y i) : colParity x = colParity y :=
  List.foldl_rel (r := Eq) rfl fun _ hi _ _ same => by rw [same, h _ (List.mem_range.mp hi)]

end

/-! ### The check bits (R320) -/

section
variable (p : BitVec 16)

theorem getLsbD_runXor_zero : (runXor p).getLsbD 0 = p.getLsbD 0 := by
  simp [runXor]

/-- The running xor: each bit adds its column's parity to the bit before. -/
theorem getLsbD_runXor_succ {j : Nat} (hj : j < 15) : (runXor p).getLsbD (j + 1) = ((runXor p).getLsbD j ^^ p.getLsbD (j + 1)) := by
  have := xor_commutative
  interval_cases j <;> simp [runXor] <;> ac_rfl

/-- The column check bits that go with the parities of the columns. -/
def colChecks : BitVec 16 :=
  (if (runXor p).getLsbD 15 then (~~~runXor p) &&& 0x3FFF#16 else runXor p &&& 0x3FFF#16) ||| (runXor p &&& 0x4000#16) |||
    (if (runXor p).getLsbD 15 then 0x8000#16 else 0)

theorem getLsbD_colChecks_fifteen : (colChecks p).getLsbD 15 = (runXor p).getLsbD 15 := by
  unfold colChecks
  split <;> simp_all

theorem getLsbD_colChecks_fourteen : (colChecks p).getLsbD 14 = (runXor p).getLsbD 14 := by
  unfold colChecks
  split <;> simp

theorem getLsbD_colChecks_low {j : Nat} (hj : j < 14) : (colChecks p).getLsbD j = ((runXor p).getLsbD j ^^ (runXor p).getLsbD 15) := by
  unfold colChecks
  interval_cases j <;> split <;> simp_all

end

/-! ### An encoded tile (R318, R320) -/

section
variable (u : Unit32)

/-- The parities of the columns of the data, and the row check bits that go with them. -/
def dataColumns : BitVec 16 := colParity (u.zeroExtend 288)

def rowChecks : BitVec 16 := rowParity (u.zeroExtend 288) ^^^ colChecks (dataColumns u)

theorem encodeTile_eq : encodeTile u = u.zeroExtend 288 ||| ((rowChecks u).zeroExtend 288 <<< 256) |||
    ((colChecks (dataColumns u)).zeroExtend 288 <<< 272) := rfl

theorem getLsbD_encodeTile_data {k : Nat} (hk : k < 256) : (encodeTile u).getLsbD k = u.getLsbD k := by
  have below : k < 288 ∧ k < 272 := by omega
  rw [encodeTile_eq]
  simp [hk, below.1, below.2]

theorem getLsbD_encodeTile_row {i : Nat} (hi : i < 16) : (encodeTile u).getLsbD (256 + i) = (rowChecks u).getLsbD i := by
  have place : 256 + i < 288 ∧ 256 + i < 272 := by omega
  rw [encodeTile_eq]
  simp [place.1, place.2, hi]

theorem getLsbD_encodeTile_col {i : Nat} (hi : i < 16) : (encodeTile u).getLsbD (272 + i) = (colChecks (dataColumns u)).getLsbD i := by
  have place : 272 + i < 288 ∧ 256 ≤ 272 + i ∧ 16 ≤ 272 + i - 256 := by omega
  rw [encodeTile_eq]
  have clear : (rowChecks u).getLsbD (272 + i - 256) = false := BitVec.getLsbD_of_ge _ _ place.2.2
  simp [place.1, place.2.1, hi, clear]

theorem tileData_encodeTile : tileData (encodeTile u) = u :=
  BitVec.eq_of_getLsbD_eq fun k hk => by
    rw [tileData, BitVec.getLsbD_extractLsb', decide_eq_true hk, Bool.true_and, Nat.zero_add, getLsbD_encodeTile_data u hk]

theorem extract_rowChecks : (encodeTile u).extractLsb' 256 16 = rowChecks u :=
  BitVec.eq_of_getLsbD_eq fun i hi => by rw [BitVec.getLsbD_extractLsb', decide_eq_true hi, Bool.true_and, getLsbD_encodeTile_row u hi]

theorem extract_colChecks : (encodeTile u).extractLsb' 272 16 = colChecks (dataColumns u) :=
  BitVec.eq_of_getLsbD_eq fun i hi => by rw [BitVec.getLsbD_extractLsb', decide_eq_true hi, Bool.true_and, getLsbD_encodeTile_col u hi]

theorem tileRow_encodeTile {i : Nat} (hi : i < 16) : tileRow (encodeTile u) i = tileRow (u.zeroExtend 288) i :=
  BitVec.eq_of_getLsbD_eq fun j hj => by
    rw [getLsbD_tileRow _ _ hj, getLsbD_tileRow _ _ hj, getLsbD_encodeTile_data u (by omega), BitVec.getLsbD_setWidth,
      decide_eq_true (show 16 * i + j < 288 by omega), Bool.true_and]

/-- Settles O51: the equations of the column checks determine them from the parities of the columns. -/
theorem tilesAreEncodedAsStated : Obligations.TilesAreEncodedAsStated := by
  refine ⟨fun u p P q C hp hq hP0 hP hC15 hC14 hC => ?_, rfl⟩
  have columns : ∀ j < 16, (dataColumns u).getLsbD j = p j := fun j hj => by
    rw [hp j hj, dataColumns, getLsbD_colParity _ hj]
    refine List.foldl_rel (r := Eq) rfl fun i hi _ _ same => ?_
    have : 16 * i + j < 288 := by have := List.mem_range.mp hi; omega
    rw [same, BitVec.getLsbD_setWidth, decide_eq_true this, Bool.true_and]
  have running : ∀ j < 16, (runXor (dataColumns u)).getLsbD j = P j := fun j hj => by
    induction j with
    | zero => rw [getLsbD_runXor_zero, columns 0 hj, hP0]
    | succ j ih => rw [getLsbD_runXor_succ _ (by omega), ih (by omega), columns _ hj, hP j (by omega)]
  have checks : ∀ i < 16, (colChecks (dataColumns u)).getLsbD i = C i := fun i hi => by
    obtain h | rfl | rfl : i < 14 ∨ i = 14 ∨ i = 15 := by omega
    · rw [getLsbD_colChecks_low _ h, running i hi, running 15 (by decide), hC i h, hC15]
    · rw [getLsbD_colChecks_fourteen, running 14 (by decide), hC14]
    · rw [getLsbD_colChecks_fifteen, running 15 (by decide), hC15]
  refine ⟨tileData_encodeTile u, fun i hi => ⟨?_, ?_⟩⟩
  · rw [getLsbD_encodeTile_col u hi, checks i hi]
  · rw [getLsbD_encodeTile_row u hi, rowChecks, BitVec.getLsbD_xor, checks i hi, getLsbD_rowParity _ hi, parity16_eq, hq i hi]
    congr 1
    refine List.foldl_rel (r := Eq) rfl fun j hj _ _ same => ?_
    have low : j < 16 := List.mem_range.mp hj
    rw [same, ← tileRow_encodeTile u hi, getLsbD_tileRow _ _ low, getLsbD_encodeTile_data u (by omega)]

end

/-! ### Syndromes (R319, R321) -/

section
variable (x y : Tile) (u : Unit32)

theorem rowSyn_xor : rowSyn (x ^^^ y) = rowSyn x ^^^ rowSyn y := by
  simp only [rowSyn, rowParity_xor, BitVec.extractLsb'_xor]
  ac_rfl

/-- What a column-check word adds to the column syndrome. -/
def colCheckSyn (c : BitVec 16) : BitVec 16 := (c &&& 0x7FFF#16) ^^^ ((c &&& 0x7FFF#16) <<< 1) ^^^ (if c.getLsbD 15 then 0xC001#16 else 0)

theorem colSyn_eq : colSyn x = colParity x ^^^ colCheckSyn (x.extractLsb' 272 16) := by
  simp only [colSyn, colCheckSyn]
  ac_rfl

theorem colCheckSyn_xor (c d : BitVec 16) : colCheckSyn (c ^^^ d) = colCheckSyn c ^^^ colCheckSyn d := by
  have split : (if (c ^^^ d).getLsbD 15 then 0xC001#16 else 0) = (if c.getLsbD 15 then 0xC001#16 else 0) ^^^ (if d.getLsbD 15 then 0xC001#16 else 0) := by
    rw [BitVec.getLsbD_xor]
    cases c.getLsbD 15 <;> cases d.getLsbD 15 <;> rfl
  have mask : (c ^^^ d) &&& 0x7FFF#16 = (c &&& 0x7FFF#16) ^^^ (d &&& 0x7FFF#16) :=
    BitVec.eq_of_getLsbD_eq fun j _ => by simp only [BitVec.getLsbD_and, BitVec.getLsbD_xor, Bool.and_xor_distrib_right]
  rw [colCheckSyn, split, mask, BitVec.shiftLeft_xor_distrib, colCheckSyn, colCheckSyn]
  ac_rfl

theorem colSyn_xor : colSyn (x ^^^ y) = colSyn x ^^^ colSyn y := by
  rw [colSyn_eq, colSyn_eq, colSyn_eq, colParity_xor, BitVec.extractLsb'_xor, colCheckSyn_xor]
  ac_rfl

theorem rowSyn_encodeTile : rowSyn (encodeTile u) = 0 := by
  have same : rowParity (encodeTile u) = rowParity (u.zeroExtend 288) := rowParity_congr fun i hi => tileRow_encodeTile u hi
  rw [rowSyn, extract_rowChecks, extract_colChecks, same, rowChecks, ← BitVec.xor_assoc, BitVec.xor_self, BitVec.zero_xor, BitVec.xor_self]
  rfl

theorem getLsbD_colCheckSyn (c : BitVec 16) {j : Nat} (hj : j < 16) : (colCheckSyn c).getLsbD j =
    ((decide (j < 15) && c.getLsbD j) ^^ (decide (0 < j) && c.getLsbD (j - 1)) ^^ (decide (j = 0 ∨ 14 ≤ j) && c.getLsbD 15)) := by
  unfold colCheckSyn
  interval_cases j <;> cases c.getLsbD 15 <;> simp

/-- The column checks take the parities of the columns away. -/
theorem colCheckSyn_colChecks (p : BitVec 16) : colCheckSyn (colChecks p) = p :=
  BitVec.eq_of_getLsbD_eq fun j hj => by
    rw [getLsbD_colCheckSyn _ hj, getLsbD_colChecks_fifteen]
    cases j with
    | zero =>
      rw [getLsbD_colChecks_low p (by decide), getLsbD_runXor_zero]
      cases p.getLsbD 0 <;> cases (runXor p).getLsbD 15 <;> rfl
    | succ j =>
      have step := getLsbD_runXor_succ p (show j < 15 by omega)
      obtain h | rfl | rfl : j < 13 ∨ j = 13 ∨ j = 14 := by omega
      · rw [Nat.add_sub_cancel, getLsbD_colChecks_low p (show j + 1 < 14 by omega), getLsbD_colChecks_low p (show j < 14 by omega), step,
          decide_eq_true (show j + 1 < 15 by omega), decide_eq_true (Nat.succ_pos j), decide_eq_false (show ¬ (j + 1 = 0 ∨ 14 ≤ j + 1) by omega)]
        cases (runXor p).getLsbD j <;> cases (runXor p).getLsbD 15 <;> cases p.getLsbD (j + 1) <;> rfl
      · rw [getLsbD_colChecks_fourteen, getLsbD_colChecks_low p (show 14 - 1 < 14 by decide), step]
        cases (runXor p).getLsbD 13 <;> cases (runXor p).getLsbD 15 <;> cases p.getLsbD (13 + 1) <;> rfl
      · rw [getLsbD_colChecks_fourteen, step]
        cases (runXor p).getLsbD 14 <;> cases p.getLsbD (14 + 1) <;> rfl

theorem colSyn_encodeTile : colSyn (encodeTile u) = 0 := by
  have same : colParity (encodeTile u) = dataColumns u := colParity_congr fun i hi => tileRow_encodeTile u hi
  rw [colSyn_eq, extract_colChecks, colCheckSyn_colChecks, same]
  exact BitVec.xor_self

end

/-! ### One bad bit (R319) -/

/-- A tile with one bit set: a bad bit, as a word to be added. -/
def badBit (k : Nat) : Tile := 1#288 <<< k

/-- The row of the tile that a bit lies in, data or check. -/
def bitRow (k : Nat) : Nat := if k < 256 then k / 16 else k % 16

/-- What a bit adds to the column syndrome: its column, nothing for a row check, its set for a column check (R319). -/
def bitCols (k : Nat) : BitVec 16 := if k < 256 then 1#16 <<< (k % 16) else if k < 272 then 0 else colSigC (k % 16)

section
variable {k : Nat}

theorem getLsbD_badBit {b : Nat} (hb : b < 288) : (badBit k).getLsbD b = decide (b = k) := getLsbD_one_shiftLeft hb

theorem bitRow_lt (hk : k < 288) : bitRow k < 16 := by
  unfold bitRow
  split <;> omega

theorem tileRow_badBit_data (hk : k < 256) {r : Nat} (hr : r < 16) :
    tileRow (badBit k) r = if r = bitRow k then 1#16 <<< (k % 16) else 0#16 :=
  BitVec.eq_of_getLsbD_eq fun c hc => by
    rw [getLsbD_tileRow _ _ hc, getLsbD_badBit (by omega), bitRow, if_pos hk]
    split
    next here =>
      rw [getLsbD_one_shiftLeft hc]
      exact decide_eq_decide.mpr (by omega)
    next elsewhere => rw [BitVec.getLsbD_zero, decide_eq_false (by omega)]

theorem tileRow_badBit_check (hk : 256 ≤ k) {r : Nat} (hr : r < 16) : tileRow (badBit k) r = 0#16 :=
  BitVec.eq_of_getLsbD_eq fun c hc => by
    rw [getLsbD_tileRow _ _ hc, getLsbD_badBit (by omega), BitVec.getLsbD_zero, decide_eq_false (by omega)]

theorem extract_badBit {a : Nat} (ha : a + 16 ≤ 288) (away : k < a ∨ a + 16 ≤ k) : (badBit k).extractLsb' a 16 = 0#16 :=
  BitVec.eq_of_getLsbD_eq fun c hc => by
    rw [BitVec.getLsbD_extractLsb', getLsbD_badBit (by omega), BitVec.getLsbD_zero, decide_eq_false (show ¬ a + c = k by omega), Bool.and_false]

theorem extract_badBit_at {a : Nat} (ha : a + 16 ≤ 288) (low : a ≤ k) (high : k < a + 16) (h16 : a % 16 = 0) :
    (badBit k).extractLsb' a 16 = 1#16 <<< (k % 16) :=
  BitVec.eq_of_getLsbD_eq fun c hc => by
    rw [BitVec.getLsbD_extractLsb', getLsbD_badBit (by omega), getLsbD_one_shiftLeft hc, decide_eq_true hc, Bool.true_and]
    exact decide_eq_decide.mpr (by omega)

theorem parity16_one : ∀ j < 16, parity16 (1#16 <<< j) = true := by decide

theorem rowParity_badBit_data (hk : k < 256) : rowParity (badBit k) = 1#16 <<< bitRow k :=
  BitVec.eq_of_getLsbD_eq fun r hr => by
    rw [getLsbD_rowParity _ hr, tileRow_badBit_data hk hr, getLsbD_one_shiftLeft hr]
    by_cases here : r = bitRow k
    · rw [if_pos here, parity16_one _ (Nat.mod_lt _ (by decide)), decide_eq_true here]
    · rw [if_neg here, decide_eq_false here]
      rfl

theorem rowParity_badBit_check (hk : 256 ≤ k) : rowParity (badBit k) = 0 :=
  BitVec.eq_of_getLsbD_eq fun r hr => by
    rw [getLsbD_rowParity _ hr, tileRow_badBit_check hk hr]
    exact BitVec.getLsbD_zero.symm

theorem colParity_badBit_data (hk : k < 256) : colParity (badBit k) = 1#16 <<< (k % 16) := by
  have row : bitRow k < 16 := bitRow_lt (by omega)
  calc colParity (badBit k)
      _ = (List.range 16).foldl (fun x r => x ^^^ if r = bitRow k then 1#16 <<< (k % 16) else 0#16) 0#16 :=
        List.foldl_rel (r := Eq) rfl fun _ hr _ _ same => by rw [same, tileRow_badBit_data hk (List.mem_range.mp hr)]
      _ = 1#16 <<< (k % 16) := by rw [foldl_xor_single, if_pos row]

theorem colParity_badBit_check (hk : 256 ≤ k) : colParity (badBit k) = 0 := by
  calc colParity (badBit k)
      _ = (List.range 16).foldl (fun x r => x ^^^ if r = 16 then 0#16 else 0#16) 0#16 :=
        List.foldl_rel (r := Eq) rfl fun _ hr _ _ same => by rw [same, tileRow_badBit_check hk (List.mem_range.mp hr), ite_self]
      _ = 0 := by rw [foldl_xor_single, ite_self]; rfl

/-- A bad bit puts its row into the row syndrome. -/
theorem rowSyn_badBit (hk : k < 288) : rowSyn (badBit k) = 1#16 <<< bitRow k := by
  rw [rowSyn]
  obtain h | h | h : k < 256 ∨ (256 ≤ k ∧ k < 272) ∨ 272 ≤ k := by omega
  · rw [rowParity_badBit_data h, extract_badBit (by decide) (by omega), extract_badBit (by decide) (by omega), BitVec.xor_zero, BitVec.xor_zero]
  · rw [rowParity_badBit_check h.1, extract_badBit_at (by decide) h.1 h.2 (by decide), extract_badBit (by decide) (by omega), BitVec.xor_zero,
      bitRow, if_neg (by omega)]
    exact BitVec.zero_xor
  · rw [rowParity_badBit_check (by omega), extract_badBit (by decide) (by omega), extract_badBit_at (by decide) h (by omega) (by decide),
      BitVec.xor_zero, bitRow, if_neg (by omega)]
    exact BitVec.zero_xor

theorem colCheckSyn_one : ∀ i < 16, colCheckSyn (1#16 <<< i) = colSigC i := by decide

theorem colSyn_badBit (hk : k < 288) : colSyn (badBit k) = bitCols k := by
  rw [colSyn_eq, bitCols]
  obtain h | h | h : k < 256 ∨ (256 ≤ k ∧ k < 272) ∨ 272 ≤ k := by omega
  · rw [colParity_badBit_data h, extract_badBit (by decide) (by omega), if_pos h]
    exact BitVec.xor_zero
  · rw [colParity_badBit_check h.1, extract_badBit (by decide) (by omega), if_neg (by omega), if_pos h.2]
    rfl
  · rw [colParity_badBit_check (by omega), extract_badBit_at (by decide) h (by omega) (by decide), if_neg (by omega), if_neg (by omega),
      colCheckSyn_one _ (Nat.mod_lt _ (by decide))]
    exact BitVec.zero_xor

end

/-! ### What the check finds (R321, R322, R324) -/

theorem popN_one : ∀ i < 16, popN 16 (1#16 <<< i).toNat = 1 := by decide

theorem findIdx_one : ∀ i < 16, ((List.range 16).findIdx fun k => (1#16 <<< i).getLsbD k) = i := by decide

theorem popN_two : ∀ i < 16, ∀ j < 16, i ≠ j → popN 16 (1#16 <<< i ^^^ 1#16 <<< j).toNat = 2 := by decide

theorem popN_colSigC : ∀ i < 16, popN 16 (colSigC i).toNat ≠ 1 ∧ colSigC i ≠ 0 := by decide

/-- Bits of one row differ in what they add to the column syndrome. -/
theorem bitCols_ne {k l : Nat} (hkl : k < l) (hl : l < 288) (row : bitRow k = bitRow l) : bitCols k ≠ bitCols l := by
  have one_ne_sig : ∀ j < 16, ∀ i < 16, 1#16 <<< j ≠ colSigC i := by decide
  have one_ne_zero : ∀ j < 16, 1#16 <<< j ≠ 0#16 := by decide
  have one_ne_one : ∀ j < 16, ∀ i < 16, j ≠ i → 1#16 <<< j ≠ 1#16 <<< i := by decide
  have column (n : Nat) : n % 16 < 16 := Nat.mod_lt _ (by decide)
  unfold bitRow at row
  unfold bitCols
  obtain h | h | h : l < 256 ∨ (256 ≤ l ∧ l < 272) ∨ 272 ≤ l := by omega
  · rw [if_pos h, if_pos (by omega : k < 256)] at row ⊢
    exact one_ne_one _ (column k) _ (column l) (by omega)
  · rw [if_neg (by omega : ¬ l < 256)] at row ⊢
    rw [if_pos h.2]
    have : k < 256 := by
      by_contra high
      rw [if_neg high] at row
      omega
    rw [if_pos this]
    exact one_ne_zero _ (column k)
  · rw [if_neg (by omega : ¬ l < 256)] at row ⊢
    rw [if_neg (by omega : ¬ l < 272)]
    obtain g | g | g : k < 256 ∨ (256 ≤ k ∧ k < 272) ∨ 272 ≤ k := by omega
    · rw [if_pos g]
      exact one_ne_sig _ (column k) _ (column l)
    · rw [if_neg (by omega), if_pos g.2]
      exact (popN_colSigC _ (column l)).2.symm
    · rw [if_neg (by omega)] at row
      omega

section
variable {x : Tile} {i : Nat}

/-- A tile with both syndromes 0 is clean. -/
theorem checkTile_clean (hr : rowSyn x = 0) (hc : colSyn x = 0) : checkTile x = (.clean, x) := by
  simp [checkTile, hr, hc, popN]

/-- With one row in the row syndrome, the column syndrome says which bit of the row is wrong (R321). -/
theorem checkTile_oneRow (hi : i < 16) (hr : rowSyn x = 1#16 <<< i) : checkTile x =
    if popN 16 (colSyn x).toNat = 1 then (.corrected, x ^^^ badBit (16 * i + (List.range 16).findIdx fun k => (colSyn x).getLsbD k))
    else if colSyn x = 0 then (.corrected, x ^^^ badBit (256 + i))
    else if colSyn x = colSigC i then (.corrected, x ^^^ badBit (272 + i))
    else (.uncorrectable, x) := by
  have some_row : ∀ j < 16, 1#16 <<< j ≠ 0 := by decide
  simp only [checkTile, hr, popN_one i hi, findIdx_one i hi]
  rw [if_neg (by decide), if_neg fun h => some_row i hi h.1, if_pos trivial]
  rfl

/-- A tile whose syndromes are those of one bad bit is corrected in that bit. -/
theorem checkTile_of_badBit {k : Nat} (hk : k < 288) (hr : rowSyn x = 1#16 <<< bitRow k) (hc : colSyn x = bitCols k) :
    checkTile x = (.corrected, x ^^^ badBit k) := by
  have row := bitRow_lt hk
  have column : k % 16 < 16 := Nat.mod_lt _ (by decide)
  rw [checkTile_oneRow row hr]
  obtain h | h | h : k < 256 ∨ (256 ≤ k ∧ k < 272) ∨ 272 ≤ k := by omega
  · have cols : colSyn x = 1#16 <<< (k % 16) := hc.trans (if_pos h)
    have place : 16 * bitRow k + k % 16 = k := by rw [bitRow, if_pos h]; omega
    rw [cols, if_pos (popN_one _ column), findIdx_one _ column, place]
  · have cols : colSyn x = 0 := hc.trans ((if_neg (by omega)).trans (if_pos h.2))
    have place : 256 + bitRow k = k := by rw [bitRow, if_neg (by omega)]; omega
    rw [cols, if_neg (by decide), if_pos rfl, place]
  · have cols : colSyn x = colSigC (bitRow k) := by rw [hc, bitCols, bitRow, if_neg (by omega), if_neg (by omega), if_neg (by omega)]
    have place : 272 + bitRow k = k := by rw [bitRow, if_neg (by omega)]; omega
    rw [cols, if_neg (popN_colSigC _ row).1, if_neg (popN_colSigC _ row).2, if_pos rfl, place]

/-- With no row or several in the row syndrome, and not clean, a tile is not corrected. -/
theorem checkTile_uncorrectable (few : popN 16 (rowSyn x).toNat ≠ 1) (some_left : popN 16 (rowSyn x).toNat < 15)
    (bad : ¬ (rowSyn x = 0 ∧ colSyn x = 0)) : checkTile x = (.uncorrectable, x) := by
  simp only [checkTile]
  rw [if_neg (by omega), if_neg bad, if_neg few]

end

/-- Settles O52: an encoded tile has no syndrome, so a tile's syndromes are those of its bad bits. -/
theorem tileCodeCorrectsOneBitAndReportsTwo : Obligations.TileCodeCorrectsOneBitAndReportsTwo := by
  refine ⟨fun u => checkTile_clean (rowSyn_encodeTile u) (colSyn_encodeTile u), fun u k hk => ?_, fun u k l hkl hl => ?_, by decide⟩
  · have back : encodeTile u ^^^ badBit k ^^^ badBit k = encodeTile u := by rw [BitVec.xor_assoc, BitVec.xor_self, BitVec.xor_zero]
    have found := checkTile_of_badBit (x := encodeTile u ^^^ badBit k) hk
      (by rw [rowSyn_xor, rowSyn_encodeTile, rowSyn_badBit hk]; exact BitVec.zero_xor)
      (by rw [colSyn_xor, colSyn_encodeTile, colSyn_badBit hk]; exact BitVec.zero_xor)
    rw [back] at found
    exact found
  · have hk : k < 288 := by omega
    have rows : rowSyn (encodeTile u ^^^ badBit k ^^^ badBit l) = 1#16 <<< bitRow k ^^^ 1#16 <<< bitRow l := by
      rw [rowSyn_xor, rowSyn_xor, rowSyn_encodeTile, rowSyn_badBit hk, rowSyn_badBit hl]
      exact congrArg (· ^^^ _) BitVec.zero_xor
    have cols : colSyn (encodeTile u ^^^ badBit k ^^^ badBit l) = bitCols k ^^^ bitCols l := by
      rw [colSyn_xor, colSyn_xor, colSyn_encodeTile, colSyn_badBit hk, colSyn_badBit hl]
      exact congrArg (· ^^^ _) BitVec.zero_xor
    change checkTile (encodeTile u ^^^ badBit k ^^^ badBit l) = (.uncorrectable, encodeTile u ^^^ badBit k ^^^ badBit l)
    by_cases row : bitRow k = bitRow l
    · have none : rowSyn (encodeTile u ^^^ badBit k ^^^ badBit l) = 0 := by rw [rows, row]; exact BitVec.xor_self
      refine checkTile_uncorrectable (by rw [none]; decide) (by rw [none]; decide) fun clean => ?_
      exact bitCols_ne hkl hl row (BitVec.xor_eq_zero_iff.mp (cols.symm.trans clean.2))
    · have two := popN_two _ (bitRow_lt hk) _ (bitRow_lt hl) row
      rw [← rows] at two
      refine checkTile_uncorrectable (by omega) (by omega) fun clean => ?_
      rw [clean.1] at two
      exact absurd two (by decide)

/-! ### The stack ID (R380) -/

/-- The bits of a number rotated left. -/
theorem testBit_rotl64 {x n k : Nat} (hx : x < 2 ^ 64) (hn : n ≤ 64) (hk : k < 64) : (rotl64 x n).testBit k = x.testBit ((k + 64 - n) % 64) := by
  have spill : x / 2 ^ (64 - n) < 2 ^ n := by
    rw [Nat.div_lt_iff_lt_mul (Nat.two_pow_pos _), ← pow_add, Nat.add_sub_cancel' hn]
    exact hx
  rw [rotl64, Nat.testBit_mod_two_pow, decide_eq_true hk, Bool.true_and, Nat.mul_comm, Nat.testBit_two_pow_mul_add _ spill]
  split
  next low =>
    rw [Nat.testBit_div_two_pow]
    congr 1
    omega
  next high =>
    congr 1
    omega

/-- A sum of numbers over a list stays within their width, and adds up bit by bit. -/
theorem foldl_xorIf_lt (d : Nat → Bool) (f : Nat → Nat) {w : Nat} (hf : ∀ l, f l < 2 ^ w) (ls : List Nat) {n : Nat} (hn : n < 2 ^ w) :
    ls.foldl (fun n l => if d l = true then n ^^^ f l else n) n < 2 ^ w := by
  induction ls generalizing n with
  | nil => exact hn
  | cons l ls ih =>
    refine ih ?_
    show (if d l = true then n ^^^ f l else n) < 2 ^ w
    split
    · exact Nat.xor_lt_two_pow hn (hf l)
    · exact hn

theorem testBit_foldl_xorIf (d : Nat → Bool) (f : Nat → Nat) (k : Nat) (ls : List Nat) (n : Nat) :
    (ls.foldl (fun n l => if d l = true then n ^^^ f l else n) n).testBit k =
      ls.foldl (fun b l => if d l = true then b ^^ (f l).testBit k else b) (n.testBit k) :=
  (List.foldl_hom (fun n : Nat => n.testBit k) fun n l => by split <;> simp).symm

/-- Settles O53: the ID is a sum of rotated serials, taken bit by bit. -/
theorem stackIdIsTheXorOfRotatedSerials : Obligations.StackIdIsTheXorOfRotatedSerials := by
  intro s k hk hid hword
  have serial (l : Nat) : s.fld Fld.LAY_ID_WORD l 6 + s.fld Fld.LAY_ID_WORD l 7 * 2 ^ 32 < 2 ^ 64 := by
    have low := hword l 6
    have high := hword l 7
    omega
  have fits (l : Nat) : rotl64 (s.fld Fld.LAY_ID_WORD l 6 + s.fld Fld.LAY_ID_WORD l 7 * 2 ^ 32) (l + 1) < 2 ^ 64 := Nat.mod_lt _ (by decide)
  refine ⟨foldl_xorIf_lt (fun l => s.flag Fld.LAY_STATE_ID_OK l) _ fits _ hid, ?_⟩
  rw [State.stackId, testBit_foldl_xorIf (fun l => s.flag Fld.LAY_STATE_ID_OK l)]
  refine List.foldl_rel (r := Eq) rfl fun l hl _ _ same => ?_
  have layer : l + 1 ≤ 64 := by have := List.mem_range.mp hl; omega
  rw [same, testBit_rotl64 (serial l) layer hk, Nat.mul_comm (s.fld Fld.LAY_ID_WORD l 7)]

end Sys2Proof.Machine
end

section
/-! PROOFS. What raising a source keeps of a pending word that is wider than its register. -/
namespace Sys2Proof.Machine

/-- A state outside a reset whose store holds, for the first pending register, a word wider than its 32 bits. -/
def widePending : State :=
  { State.reset with resetting := false, regs := Store.set State.reset.regs (Fld.FLT_PEND_PEND.key 0 0) 0 (2 ^ 32) }

/-- Raising a source writes the register, and the write truncates the word to 32 bits. -/
theorem pending_raise_widePending : (widePending.fld Fld.FLT_PEND_PEND 0 0).testBit 32 = true ∧
    ((widePending.raise .ttHardOverrun 0 {}).fld Fld.FLT_PEND_PEND 0 0).testBit 32 = false := by
  decide +kernel

/-- Refutes O55: it asks that every bit of the stored pending word stays, over every state and every bit number; of a word wider than the register the bits above 31 go when a source of that register is raised. -/
theorem not_eventsAreRecorded : ¬ Obligations.EventsAreRecorded := by
  rintro ⟨-, recorded, -⟩
  obtain ⟨-, -, stays, -⟩ := recorded .ttHardOverrun 0 {} widePending rfl
  obtain ⟨before, after⟩ := pending_raise_widePending
  exact Bool.false_ne_true (after.symm.trans (stays 0 32 before))

end Sys2Proof.Machine
end

section
/-! PROOFS. The NVM controller: what its choice of a step leaves, the commits that fall due, the wear credits, and the HOLD slots. -/
namespace Sys2Proof.Machine

/-! ### What the choice of a step leaves (R488) -/

/-- The NVM controller is left but for the operations, waiting and in progress, the journal buffer and the areas noted as deferred. -/
def State.KeepsNvm (s o : State) : Prop :=
  ∃ j ops cur d, s.nvm = { o.nvm with jrn := j, ops := ops, cur := cur, deferred := d }

section
variable {s t o : State}

theorem State.KeepsNvm.refl (s : State) : s.KeepsNvm s := ⟨s.nvm.jrn, s.nvm.ops, s.nvm.cur, s.nvm.deferred, rfl⟩

theorem State.KeepsNvm.trans (h : s.KeepsNvm t) (g : t.KeepsNvm o) : s.KeepsNvm o := by
  obtain ⟨j, ops, cur, d, h⟩ := h
  obtain ⟨_, _, _, _, g⟩ := g
  exact ⟨j, ops, cur, d, by rw [h, g]⟩

theorem State.KeepsNvm.of_eq (h : s.nvm = t.nvm) : s.KeepsNvm t := ⟨_, _, _, _, h⟩

theorem State.AddsJrn.keepsNvm (h : s.AddsJrn o) : s.KeepsNvm o := by
  obtain ⟨l, h⟩ := h
  exact ⟨_, _, _, _, h⟩

end

section
variable (s : State)

theorem State.nvm_bump (f : Field) (i j n : Nat) : (s.bump f i j n).nvm = s.nvm := (State.bump_frame (n := 0x2) .rfl' (.refl _) ..).nvm rfl

theorem State.noteDeferred_keepsNvm : s.noteDeferred.KeepsNvm s := by
  unfold State.noteDeferred
  refine List.foldlRecOn (motive := fun (t : State) => t.KeepsNvm s) _ _ (.refl s) fun t ht o _ => ?_
  dsimp only
  split
  · split
    · exact ht
    · exact (State.raise_nvm _ _ _ _).keepsNvm.trans ((State.KeepsNvm.of_eq (State.nvm_bump ..)).trans (.trans ⟨_, _, _, _, rfl⟩ ht))
  · exact ht

theorem State.charge_keepsNvm (o : NvmOp) : (s.charge o).1.KeepsNvm s := by
  unfold State.charge
  split
  · exact (State.journal_nvm _ _ _ _).keepsNvm
  · exact .refl s

theorem State.nvmKick_keepsNvm : s.nvmKick.KeepsNvm s := by
  unfold State.nvmKick
  split
  · exact .refl s
  · dsimp only
    split
    · exact s.noteDeferred_keepsNvm
    · exact .trans ⟨_, _, _, _, rfl⟩ ((State.charge_keepsNvm _ _).trans (.trans ⟨_, _, _, _, rfl⟩ s.noteDeferred_keepsNvm))

theorem State.nvmAdd_keepsNvm (o : NvmOp) : (s.nvmAdd o).KeepsNvm s :=
  (State.nvmKick_keepsNvm _).trans ⟨_, _, _, _, rfl⟩

theorem State.commitCal_keepsNvm : s.commitCal.KeepsNvm s := by
  unfold State.commitCal
  split
  · exact .refl s
  · exact s.nvmAdd_keepsNvm _

theorem State.rep_commitCal : s.commitCal.rep = s.rep := (State.commitCal_frame (n := 0x82784a) .rfl' (.refl _)).rep rfl

theorem State.rep_commitRep : s.commitRep.rep = s.rep := (State.commitRep_frame (n := 0x82784a) .rfl' (.refl _)).rep rfl

/-- Where no step may begin, nothing does. -/
theorem State.nvmKick_of_not_runs {s : State} (h : s.nvmRuns = false) : s.nvmKick = s := by
  rw [State.nvmKick, if_pos (by rw [h]; exact Bool.false_ne_true)]

theorem State.journal_of_room {s : State} (h : s.nvm.jrn.length < 32) (kind arg payload : Nat) : s.journal kind arg payload =
    { s with nvm := { s.nvm with jrn := s.nvm.jrn ++ [{ kind := kind, arg := arg, time := s.stamp, payload := payload }] } } :=
  if_neg (Nat.not_le_of_lt h)

end

/-! ### Commits that fall due (R359, R479, R382) -/

section
variable {s : State} {d : Delta}

theorem execRepCommitDelayExpiry_of_due (hd : s.rep.deltas.head? = some d) (due : d.since + s.fld Fld.REP_COMMIT_CFG_DELAY * 2 ^ 20 ≤ s.ticks) :
    execRepCommitDelayExpiry s = .next s.commitRep := by
  obtain ⟨ds, hds⟩ := List.head?_eq_some_iff.mp hd
  simp only [execRepCommitDelayExpiry, hds]
  rw [if_neg (by omega)]

theorem execRepCommitDelayExpiry_of_early (hd : s.rep.deltas.head? = some d) (early : s.ticks < d.since + s.fld Fld.REP_COMMIT_CFG_DELAY * 2 ^ 20) :
    execRepCommitDelayExpiry s = .next s := by
  obtain ⟨ds, hds⟩ := List.head?_eq_some_iff.mp hd
  simp only [execRepCommitDelayExpiry, hds]
  rw [if_pos early]

theorem execCalPeriodExpiry_of_due (due : s.nvm.calAt + s.fld Fld.NVM_CFG_CAL_PERIOD * 2 ^ 32 ≤ s.ticks) (dirty : s.flag Fld.NVM_CAL_DIRTY = true) :
    execCalPeriodExpiry s = .next ({ s with nvm := { s.nvm with calAt := s.ticks } } : State).commitCal := by
  rw [execCalPeriodExpiry, if_neg (by omega)]
  exact congrArg Host.Outcome.next (if_pos dirty)

theorem execSealAgeMark_of_due (valid : s.bst.valid = true) (closed : s.bst.cur.state = 2) (due : s.nvm.ageAt + 2 ^ 32 ≤ s.ticks) :
    execSealAgeMark s = .next ((({ s with nvm := { s.nvm with ageAt := s.ticks } } : State).journal 0x03 0 s.agePayload).nvmKick) := by
  rw [execSealAgeMark, if_neg (by rw [valid, closed]; simp; omega)]
  rfl

end

/-! ### Wear credits (R489) -/

section
variable (s : State)

/-- One area earns its credit. -/
def earnCredit (a : Nat) (s : State) : State :=
  let (n, cap) := wearAccrual a
  s.setFld Fld.NVM_WEAR_CREDIT (min cap (s.fld Fld.NVM_WEAR_CREDIT 0 a + n)) 0 a

theorem earnCredit_eq (a : Nat) : earnCredit a s =
    s.setFld Fld.NVM_WEAR_CREDIT (min (wearAccrual a).2 (s.fld Fld.NVM_WEAR_CREDIT 0 a + (wearAccrual a).1)) 0 a := rfl

theorem key_credit_ne {a b : Nat} (h : a ≠ b) : Fld.NVM_WEAR_CREDIT.key 0 a ≠ Fld.NVM_WEAR_CREDIT.key 0 b := by
  simp [Field.key, Field.addr, Fld.NVM_WEAR_CREDIT]
  omega

theorem State.upTo_succ (n : Nat) (g : Nat → State → State) : s.upTo (n + 1) g = g n (s.upTo n g) := by
  rw [State.upTo, State.upTo, List.range_succ, List.foldl_append, List.foldl_cons, List.foldl_nil]

/-- A cap fits the 16 bits of a credit. -/
theorem wearAccrual_cap (a : Nat) : (wearAccrual a).2 < 2 ^ 16 := by
  unfold wearAccrual
  split
  · decide
  · split <;> decide

/-- The credits after the first n areas have earned theirs. -/
theorem State.fld_upTo_earnCredit (n a : Nat) : (s.upTo n earnCredit).fld Fld.NVM_WEAR_CREDIT 0 a =
    if a < n then min (wearAccrual a).2 (s.fld Fld.NVM_WEAR_CREDIT 0 a + (wearAccrual a).1) else s.fld Fld.NVM_WEAR_CREDIT 0 a := by
  induction n with
  | zero => rfl
  | succ n ih =>
    rw [State.upTo_succ, earnCredit_eq]
    by_cases h : a = n
    · subst h
      rw [State.fld_setFld_same, ih, if_neg (Nat.lt_irrefl a), if_pos (Nat.lt_succ_self a)]
      exact Nat.mod_eq_of_lt (Nat.lt_of_le_of_lt (Nat.min_le_left ..) (wearAccrual_cap a))
    · rw [State.fld_setFld_ne _ _ (key_credit_ne h), ih]
      exact if_congr (by omega) rfl rfl

theorem State.fld_upTo_earnCredit_ne (n : Nat) {f : Field} {i j : Nat} (h : ∀ a < n, f.key i j ≠ Fld.NVM_WEAR_CREDIT.key 0 a) :
    (s.upTo n earnCredit).fld f i j = s.fld f i j := by
  induction n with
  | zero => rfl
  | succ n ih =>
    rw [State.upTo_succ, earnCredit_eq, State.fld_setFld_ne _ _ (h n (Nat.lt_succ_self n))]
    exact ih fun a ha => h a (Nat.lt_succ_of_lt ha)

theorem State.nvm_upTo_earnCredit (n : Nat) : (s.upTo n earnCredit).nvm = s.nvm := 
  State.upTo_keeps State.nvm (g := earnCredit) (fun _ _ => rfl) n s

variable {s}

/-- The state whose next accrual lies 2^33 ticks on. -/
def State.wearPassed (s : State) : State := { s with nvm := { s.nvm with wearAt := s.nvm.wearAt + 2 ^ 33 } }

theorem State.regs_upTo_earnCredit (s : State) (n : Nat) : (s.wearPassed.upTo n earnCredit).regs = (s.upTo n earnCredit).regs := by
  induction n with
  | zero => rfl
  | succ n ih =>
    rw [State.upTo_succ, State.upTo_succ, earnCredit_eq, earnCredit_eq, State.fld_congr ih]
    simp only [State.setFld, ih]

/-- The state in which every area has earned its credit and may be noted as deferred again. -/
def State.accrued (s : State) : State := { s.wearPassed.upTo 6 earnCredit with nvm := { (s.wearPassed.upTo 6 earnCredit).nvm with deferred := [] } }

theorem State.nvm_accrued (s : State) : s.accrued.nvm = { s.nvm with wearAt := s.nvm.wearAt + 2 ^ 33, deferred := [] } :=
  congrArg (fun n : Nvm => { n with deferred := [] }) (s.wearPassed.nvm_upTo_earnCredit 6)

theorem execWearCreditAccrual_of_due {s : State} (due : s.nvm.wearAt + 2 ^ 33 ≤ s.ticks) : execWearCreditAccrual s = .next s.accrued.nvmKick := by
  rw [execWearCreditAccrual, if_neg (Nat.not_lt.mpr due)]
  rfl

/-- With no operation waiting, the credits are all that the accrual changes. -/
theorem State.nvmKick_accrued {s : State} (ops : s.nvm.ops = []) (jrn : s.nvm.jrn = []) : s.accrued.nvmKick = s.accrued :=
  State.nvmKick_idle _ ((congrArg Nvm.ops s.nvm_accrued).trans ops) ((congrArg Nvm.jrn s.nvm_accrued).trans jrn)

theorem State.fld_accrued (s : State) (f : Field) (i j : Nat) : s.accrued.fld f i j = (s.upTo 6 earnCredit).fld f i j := by
  have regs : s.accrued.regs = (s.upTo 6 earnCredit).regs := by simp only [State.accrued, State.regs_upTo_earnCredit]
  exact State.fld_congr regs f i j

end

/-! ### The last step of an operation of the window (R488, R491) -/

/-- A good last step of an operation that programs or erases the window: the window is free. -/
theorem execNvmStepComplete_window {x : NvmDone} {s : State} {o : NvmOp} (cur : s.nvm.cur = some o) (window : o.kind = .winProg ∨ o.kind = .winErase)
    (good : x.good = true) (last : o.step + 1 = o.steps) (ops : s.nvm.ops = []) (jrn : s.nvm.jrn = []) :
    ∃ t, execNvmStepComplete x s = .next t ∧ t.nvm = { s.nvm with cur := none } ∧ t.fld Fld.NVM_STATUS_WIN_BUSY = 0 := by
  let u : State := (({ s with nvm := { s.nvm with cur := none } } : State).bump Fld.NVM_CNT_COUNT 0 (if o.step < o.erases then 0 else 1)).setFld
    Fld.NVM_STATUS_WIN_BUSY 0
  have hu : u.nvm = { s.nvm with cur := none } := State.nvm_bump ..
  have idle : u.nvmKick = u := State.nvmKick_idle u ((congrArg Nvm.ops hu).trans ops) ((congrArg Nvm.jrn hu).trans jrn)
  refine ⟨u, ?_, hu, State.fld_setFld_same ..⟩
  rcases window with h | h
  all_goals
    simp only [execNvmStepComplete, cur, h, good, last, State.nvmDone, reduceCtorEq, decide_false, Bool.false_eq_true, if_false, not_true, false_and,
      Nat.lt_irrefl]
    exact congrArg Host.Outcome.next idle

/-! ### HOLD slots (R487) -/

/-- A slot copied whole is erased. -/
theorem execHoldSlotCopy_of_copied {s : State} {i : Nat} {rest : List Nat} (ready : s.flag Fld.GLB_STATE_READY = true) (slots : s.nvm.slots = i :: rest)
    (new : s.nvmHas (.slot i) = false) (copied : s.nvm.copied = 256) :
    execHoldSlotCopy s = .next (s.nvmAdd { kind := .slot i, erases := 1 }) := by
  have whole (b : List Byte) : s.copyChunks b = s := by
    rw [State.copyChunks, copied, Nat.min_zero]
    rfl
  rw [execHoldSlotCopy, if_neg (by rw [ready]; decide), slots]
  simp [new, whole, copied]

/-- Settles O16: each timer is due or not, and what waits for the flash is left waiting or begun. -/
theorem journalAndCommits : Obligations.JournalAndCommits := by
  refine ⟨fun s d hd due few => ?_, fun s d hd early => execRepCommitDelayExpiry_of_early hd early, fun s due dirty => ?_, fun s early => ?_,
    fun s valid closed due room busy => ?_, fun s due ops jrn => ?_, fun s early => if_pos early,
    fun x s o cur window good last ops jrn => execNvmStepComplete_window cur window good last ops jrn, fun x s cur => ?_,
    fun s i rest ready slots new copied => ?_⟩
  · exact ⟨s.commitRep, execRepCommitDelayExpiry_of_due hd due, s.commitRep_has few, s.rep_commitRep⟩
  · let u : State := { s with nvm := { s.nvm with calAt := s.ticks } }
    obtain ⟨_, _, _, _, kept⟩ := u.commitCal_keepsNvm
    exact ⟨u.commitCal, execCalPeriodExpiry_of_due due dirty, u.commitCal_has, congrArg Nvm.calAt kept, u.rep_commitCal⟩
  · exact congrArg Host.Outcome.next (if_pos early)
  · let u : State := { s with nvm := { s.nvm with ageAt := s.ticks } }
    have journalled := State.journal_of_room (s := u) room 0x03 0 s.agePayload
    refine (execSealAgeMark_of_due valid closed due).trans (congrArg Host.Outcome.next ?_)
    exact (congrArg State.nvmKick journalled).trans (State.nvmKick_of_not_runs busy)
  · have step : exec .wearCreditAccrual s = .next s.accrued := (execWearCreditAccrual_of_due due).trans (by rw [State.nvmKick_accrued ops jrn])
    refine ⟨s.accrued, step, s.nvm_accrued, (s.fld_accrued ..).trans (s.fld_upTo_earnCredit 6 0),
      (s.fld_accrued ..).trans (s.fld_upTo_earnCredit 6 5), fun a low high => ?_,
      fun f i j other => (s.fld_accrued ..).trans (s.fld_upTo_earnCredit_ne 6 other)⟩
    have middle : wearAccrual a = (1, 64) := by rw [wearAccrual, if_neg (by omega), if_neg (by omega)]
    rw [State.fld_accrued, State.fld_upTo_earnCredit, if_pos (by omega), middle]
  · show execNvmStepComplete x s = .next s
    simp only [execNvmStepComplete, cur]
  · obtain ⟨_, _, _, _, kept⟩ := s.nvmAdd_keepsNvm { kind := .slot i, erases := 1 }
    exact ⟨_, execHoldSlotCopy_of_copied ready slots new copied, s.nvmAdd_has _, by rw [kept]⟩

end Sys2Proof.Machine
end

section
/-! PROOFS. Power-on, the reset pins, HOLD, and the timers of the signal box. -/
namespace Sys2Proof.Machine

/-! ### A start begins (R442, R452, R453) -/

section
variable (s : State)

theorem State.start_beginStart : s.beginStart.start = { s.start with held := false, chip := false, running := true } := rfl

theorem State.pins_beginStart : s.beginStart.pins = s.pins := rfl

theorem State.resetting_beginStart : s.beginStart.resetting = false := rfl

theorem State.fld_beginStart_warm : s.beginStart.fld Fld.GLB_STATE_WARM = b2n s.start.warm := State.fld_setFlag_same _ rfl

theorem State.fld_beginStart_ne {f : Field} {i j : Nat} (h : f.key i j ≠ Fld.GLB_STATE_WARM.key 0 0) : s.beginStart.fld f i j = s.fld f i j :=
  State.fld_setFlag_ne _ h

variable {s}

theorem execResetNRise_of_held (hh : s.hold = none) (hp : s.pins.pwrGood = true) (held : s.start.held = true) (chip : s.start.chip = false) :
    execResetNRise s = .next ({ s with pins := { s.pins with resetN := true } } : State).beginStart := by
  simp [execResetNRise, hh, hp, held, chip]

/-- The state in which a CRS reaction has been marked as done. -/
def State.crsMarked (s : State) : State := if s.fld Fld.GLB_STATE_CAUSE = 5 then s.setFld Fld.FLT_STATUS_CRS_DONE 1 else s

theorem State.crsMarked_form : ∃ r, s.crsMarked = { s with regs := r } := by
  unfold State.crsMarked
  split
  · exact ⟨_, rfl⟩
  · exact ⟨s.regs, rfl⟩

theorem State.fld_crsMarked : s.crsMarked.fld Fld.FLT_STATUS_CRS_DONE =
    if s.fld Fld.GLB_STATE_CAUSE = 5 then 1 else s.fld Fld.FLT_STATUS_CRS_DONE := by
  unfold State.crsMarked
  split
  · exact State.fld_setFld_same ..
  · rfl

theorem State.fld_crsMarked_ne {f : Field} {i j : Nat} (h : f.key i j ≠ Fld.FLT_STATUS_CRS_DONE.key 0 0) : s.crsMarked.fld f i j = s.fld f i j := by
  unfold State.crsMarked
  split
  · exact State.fld_setFld_ne _ _ h
  · rfl

theorem execChipResetHoldEnd_of_chip (chip : s.start.chip = true) : execChipResetHoldEnd s =
    .next (if s.crsMarked.pins.resetN = true then s.crsMarked.beginStart else { s.crsMarked with start := { s.crsMarked.start with chip := false } }) := by
  simp only [execChipResetHoldEnd, chip, not_true_eq_false, if_false]
  rfl

end

/-! ### A POR (R437, R442, R522) -/

section
variable (s : State)

theorem State.porStart_of_high (h : s.pins.resetN = true) : s.porStart =
    ({ s.porReset with pins := { s.pins with thermLow := false, pwrGood := true, refclk := true } } : State).beginStart := if_pos h

theorem State.porStart_of_low (h : s.pins.resetN = false) : s.porStart =
    { s.porReset with pins := { s.pins with thermLow := false, pwrGood := true, refclk := true }, start := { s.porReset.start with held := true } } :=
  if_neg (by rw [show s.porReset.pins.resetN = s.pins.resetN from rfl, h]; decide)

theorem State.fld_porStart (f : Field) (i j : Nat) : s.porStart.fld f i j = f.reset i j := State.fld_of_nil (State.porStart_regs s) f i j

end

/-- Settles O7: each of the three begins the start that its pins and the record of the start ask for. -/
theorem powerOnAndResetPinsStart : Obligations.PowerOnAndResetPinsStart := by
  refine ⟨fun s hh hp => ?_, fun s hs => congrArg Host.Outcome.next (if_pos hs), fun s hh hp held chip => ?_, fun s high chip => ?_, fun s low chip => ?_⟩
  · have step : exec .pwrGoodRise s = .next s.porStart := by
      show execPwrGoodRise s = _
      simp [execPwrGoodRise, hh, hp]
    refine ⟨s.porStart, step, ?_⟩
    cases hr : s.pins.resetN with
    | true =>
      have fields := s.fld_porStart
      rw [s.porStart_of_high hr] at *
      exact ⟨rfl, rfl, rfl, fields, rfl, rfl, rfl, rfl, rfl, rfl, rfl, rfl, rfl, rfl, rfl⟩
    | false =>
      have fields := s.fld_porStart
      rw [s.porStart_of_low hr] at *
      exact ⟨rfl, rfl, rfl, fields, rfl, rfl, rfl, rfl, rfl, rfl, rfl, rfl, rfl, rfl, rfl⟩
  · exact ⟨_, execResetNRise_of_held hh hp held chip, State.pins_beginStart _, State.resetting_beginStart _, State.start_beginStart _,
      State.fld_beginStart_warm _, fun f i j other => State.fld_beginStart_ne _ other⟩
  · obtain ⟨r, form⟩ := s.crsMarked_form
    have pins : s.crsMarked.pins = s.pins := by rw [form]
    have start : s.crsMarked.start = s.start := by rw [form]
    refine ⟨s.crsMarked.beginStart, (execChipResetHoldEnd_of_chip chip).trans (by rw [pins, if_pos high]), pins, rfl, ?_, ?_, ?_, ?_⟩
    · rw [State.start_beginStart, start]
    · rw [State.fld_beginStart_warm, start]
    · rw [State.fld_beginStart_ne _ (by decide), State.fld_crsMarked]
    · intro f i j warm done
      rw [State.fld_beginStart_ne _ warm, State.fld_crsMarked_ne done]
  · obtain ⟨r, form⟩ := s.crsMarked_form
    have pins : s.crsMarked.pins = s.pins := by rw [form]
    have start : s.crsMarked.start = s.start := by rw [form]
    have resetting : s.crsMarked.resetting = s.resetting := by rw [form]
    have waits : exec .chipResetHoldEnd s = .next { s.crsMarked with start := { s.crsMarked.start with chip := false } } :=
      (execChipResetHoldEnd_of_chip chip).trans (congrArg Host.Outcome.next (if_neg (by rw [pins, low]; exact Bool.false_ne_true)))
    exact ⟨_, waits, congrArg (fun x : Start => { x with chip := false }) start, resetting, pins⟩

/-! ### HOLD (R434 to R437) -/

/-- A powered device whose store holds a die ID of 0. -/
def zeroDie : State := { State.reset with pins := { State.reset.pins with pwrGood := true }, regs := [(Fld.BST_DIE_ID_ID.key 0 0, 0)] }

/-- The die ID is kept by every reset, a POR among them, and so by the domain's going off (R14). -/
theorem dieId_supplySag_zeroDie : ∃ t, exec (.supplySag 0xF 0) zeroDie = .next t ∧ t.fld Fld.BST_DIE_ID_ID = 0 :=
  ⟨_, rfl, by decide +kernel⟩

/-- A die ID begins with the byte 0xB1. -/
theorem reset_dieId_ne : Fld.BST_DIE_ID_ID.reset 0 0 ≠ 0 := by
  unfold Field.reset
  simp only [Fld.BST_DIE_ID_ID]
  omega

/-- Refutes O9: BST.DIE_ID lies in a block whose domain goes off, and keeps a value other than its reset value. -/
theorem not_sagEntersHold : ¬ Obligations.SagEntersHold := by
  rintro ⟨sag, -⟩
  obtain ⟨t, -, step, -, -, -, -, -, -, -, -, -, -, -, -, -, -, -, -, -, -, -, -, -, dark⟩ := sag 0xF 0 zeroDie rfl rfl
  obtain ⟨u, same, zero⟩ := dieId_supplySag_zeroDie
  obtain rfl : t = u := Host.Outcome.next.inj (step.symm.trans same)
  have reset : t.fld Fld.BST_DIE_ID_ID = Fld.BST_DIE_ID_ID.reset 0 0 := dark Fld.BST_DIE_ID_ID 0 0 (by decide)
  exact reset_dieId_ne (reset.symm.trans zero)

/-- Settles O10: the save steps through its pages, and its end lets the POR begin. -/
theorem holdSaveRuns : Obligations.HoldSaveRuns := by
  refine ⟨fun s h k hh hk hp he => ?_, fun s h p hh hp => ?_, fun s h p hh hp => ?_, fun s h hh he hp => ?_, fun s h hh hn => ?_⟩
  · show execHoldSaveNvmReady s = _
    simp [execHoldSaveNvmReady, State.modHold, hh, hk, hp, he]
  · show execHoldSavePageDone s = _
    simp [execHoldSavePageDone, State.modHold, hh, hp]
  · show execHoldSavePageTimeout s = _
    simp [execHoldSavePageTimeout, State.modHold, hh, hp]
  · have step : exec .holdExitPor s = .next s.porStart := by
      show execHoldExitPor s = _
      simp [execHoldExitPor, hh, he, hp]
    refine ⟨s.porStart, step, ?_⟩
    cases hr : s.pins.resetN with
    | true =>
      have fields := s.fld_porStart
      rw [s.porStart_of_high hr] at *
      exact ⟨rfl, rfl, rfl, fields, rfl, rfl, rfl, rfl, rfl⟩
    | false =>
      have fields := s.fld_porStart
      rw [s.porStart_of_low hr] at *
      exact ⟨rfl, rfl, rfl, fields, rfl, rfl, rfl, rfl, rfl⟩
  · show execHoldExitPor s = _
    rcases hn with g | g <;> simp [execHoldExitPor, hh, g]

/-! ### The signal box (R405, R407, R409, R410) -/

/-- Hold-offs that hold no folded bulletin just end. -/
theorem execBulHoldoffEnd_of_empty {s : State} (empty : ∀ h ∈ s.box.hold, h.left = 0 → h.next = none) :
    execBulHoldoffEnd s = .next { s with box := { s.box with hold := s.box.hold.filter fun h => h.left != 0 } } := by
  refine congrArg Host.Outcome.next (List.foldlRecOn (motive := fun (t : State) => t = _) _ _ rfl fun t same h mem => ?_)
  obtain ⟨held, past⟩ := List.mem_filter.mp mem
  rw [empty h held (by simpa using past)]
  exact same

/-- A hold-off that holds a folded bulletin queues it and begins anew. -/
theorem execBulHoldoffEnd_of_folded {s : State} {src : Src} {r : BulRec} (hold : s.box.hold = [{ src := src, left := 0, next := some r }])
    (room : s.box.bul.length < 24) : execBulHoldoffEnd s = .next
      { s with box := { s.box with bul := s.box.bul ++ [r], hold := [{ src := r.src, left := s.fld Fld.FLT_BUL_CFG_HOLDOFF }] } } := by
  have queue : ¬ 24 ≤ s.box.bul.length := by omega
  simp [execBulHoldoffEnd, hold, State.enqueueMask, queue]
  rfl

theorem execCrsDue_of_due {s : State} {p : CrsPend} (crs : s.box.crs = some p) (old : p.ticks ≠ 0)
    (due : s.crsUnsent = false ∨ s.fld Fld.FLT_CFG_CRS_DELAY ≤ p.ticks) : execCrsDue s = .next (s.chipReset 5) := by
  have now : ¬ (p.ticks = 0 ∨ (s.crsUnsent = true ∧ p.ticks < s.fld Fld.FLT_CFG_CRS_DELAY)) := by
    rintro (h | ⟨unsent, early⟩)
    · exact old h
    · rcases due with sent | late
      · rw [sent] at unsent
        exact Bool.false_ne_true unsent
      · omega
  simp only [execCrsDue, crs]
  rw [if_neg now]

theorem State.chipReset_of_running {s : State} (h : s.resetting = false) (cause : Nat) : s.chipReset cause =
    { s.deviceReset .chip cause with start := { (s.deviceReset .chip cause).start with chip := true } } :=
  if_neg (by rw [h]; exact Bool.false_ne_true)

/-- With the minimum over, ERR_N is low where something wants it, and a minimum begins where it was not. -/
theorem execErrNHoldExpiry_eq (s : State) : execErrNHoldExpiry s =
    .next { s with box := { s.box with errMin := s.errWanted && !s.box.errLow, errLow := s.errWanted } } := by
  have same : ({ s with box := { s.box with errMin := false } } : State).errWanted = s.errWanted := rfl
  unfold execErrNHoldExpiry State.updErr
  rw [same]
  cases wanted : s.errWanted <;> cases low : s.box.errLow <;> simp [low]

/-- Settles O17: each timer ends what it times, and CRS_DUE begins the CHIP reset. -/
theorem signalBoxTimers : Obligations.SignalBoxTimers := by
  refine ⟨fun s empty => execBulHoldoffEnd_of_empty empty, fun s src r hold room => execBulHoldoffEnd_of_folded hold room, fun s late => ?_,
    fun s early => congrArg Host.Outcome.next (if_pos early), fun s p crs old up due => ?_, fun s p crs wait => ?_, fun s crs => ?_,
    execErrNHoldExpiry_eq⟩
  · exact congrArg Host.Outcome.next (if_neg (Nat.not_le.mpr late))
  · have shape := s.deviceReset_eq .chip 5
    have frame : (s.deviceReset .chip 5).fld Fld.TT_TIME_FRAME = 0 := by
      rw [State.fld_deviceReset (x := { f := Fld.TT_TIME_FRAME, i := 0, j := 0 }) (by rfl) (by decide)]
      rfl
    refine ⟨s.chipReset 5, execCrsDue_of_due crs old due, ?_⟩
    rw [State.chipReset_of_running up]
    exact ⟨congrArg State.resetting shape, rfl, congrArg (·.start.held) shape, s.fld_deviceReset_cause .chip 5, frame, congrArg State.trks shape,
      congrArg State.chans shape, congrArg (·.vmap.mem) shape, congrArg (·.rep.copy) shape, congrArg (·.bst.cur) shape⟩
  · show execCrsDue s = _
    simp only [execCrsDue, crs]
    rw [if_pos wait]
  · show execCrsDue s = _
    simp only [execCrsDue, crs]

end Sys2Proof.Machine
end

section
/-! PROOFS. The adaptive voltage loop and the operations on the AVSBus, and the vote of triplicated fields. -/
namespace Sys2Proof.Machine

/-! ### The AVSBus (R428, R430) -/

section
variable {s : State}

theorem State.avsStart_of_free (h : s.pwr.avs = none) (o : AvsOp) : s.avsStart o = { s with pwr := { s.pwr with avs := some o, again := false } } :=
  if_neg (by rw [h]; exact Bool.false_ne_true)

theorem State.pwr_avsNext (s : State) : s.avsNext.pwr = { s.pwr with avs := s.pwr.queue.head?, again := false, queue := s.pwr.queue.tail } := by
  unfold State.avsNext
  split
  next h => simp [h]
  next o r h => simp [h]

theorem State.regs_avsNext (s : State) : s.avsNext.regs = s.regs := by
  unfold State.avsNext
  split <;> rfl

/-! ### The loop (R429) -/

/-- The state in which the loop has run and recorded the slack. -/
def State.loopRun (s : State) (slack : Nat) : State := ({ s with pwr := { s.pwr with loopAt := s.ticks } } : State).setFld Fld.PWR_AVS_STATUS_SLACK slack

/-- What the loop asks of the regulator for the slack it found. -/
def State.ask (s : State) (slack : Nat) : State :=
  let t := s.fld Fld.PWR_AVS_STATUS_TARGET
  let v := if slack < s.fld Fld.PWR_AVS_SLACK_S_LO then min (t + 5) (s.fld Fld.PWR_AVS_LIM_V_MAX)
    else if slack > s.fld Fld.PWR_AVS_SLACK_S_HI then max (t - 5) (s.fld Fld.PWR_AVS_LIM_V_MIN) else t
  let low : Bool := slack < s.fld Fld.PWR_AVS_SLACK_S_LO
  if v ≠ t then s.avsStart (.write v low)
  else if low ∧ t = s.fld Fld.PWR_AVS_LIM_V_MAX then s.raise .pwrAvsFail else s

theorem State.ask_of_short {slack : Nat} (short : slack < s.fld Fld.PWR_AVS_SLACK_S_LO)
    (room : s.fld Fld.PWR_AVS_STATUS_TARGET + 5 ≤ s.fld Fld.PWR_AVS_LIM_V_MAX) :
    s.ask slack = s.avsStart (.write (s.fld Fld.PWR_AVS_STATUS_TARGET + 5) true) := by
  simp only [State.ask]
  rw [if_pos short, Nat.min_eq_left room, if_pos (by omega), decide_eq_true short]

theorem State.ask_of_long {slack : Nat} (enough : s.fld Fld.PWR_AVS_SLACK_S_LO ≤ slack) (long : s.fld Fld.PWR_AVS_SLACK_S_HI < slack)
    (room : 5 ≤ s.fld Fld.PWR_AVS_STATUS_TARGET) (low : s.fld Fld.PWR_AVS_LIM_V_MIN ≤ s.fld Fld.PWR_AVS_STATUS_TARGET - 5) :
    s.ask slack = s.avsStart (.write (s.fld Fld.PWR_AVS_STATUS_TARGET - 5) false) := by
  simp only [State.ask]
  rw [if_neg (Nat.not_lt.mpr enough), if_pos long, Nat.max_eq_left low, if_pos (by omega), decide_eq_false (Nat.not_lt.mpr enough)]

theorem State.ask_of_enough {slack : Nat} (enough : s.fld Fld.PWR_AVS_SLACK_S_LO ≤ slack) (few : slack ≤ s.fld Fld.PWR_AVS_SLACK_S_HI) :
    s.ask slack = s := by
  simp only [State.ask]
  rw [if_neg (Nat.not_lt.mpr enough), if_neg (Nat.not_lt.mpr few), if_neg (fun h => h rfl), decide_eq_false (Nat.not_lt.mpr enough)]
  exact if_neg fun h => Bool.false_ne_true h.1

theorem State.fld_loopRun {f : Field} (h : f.key 0 0 ≠ Fld.PWR_AVS_STATUS_SLACK.key 0 0) (slack : Nat) : (s.loopRun slack).fld f = s.fld f :=
  State.fld_setFld_ne _ _ h

theorem execAvsLoopPeriod_of_due {slack : BitVec 6} (due : s.pwr.loopAt + s.fld Fld.PWR_AVS_CFG_PERIOD ≤ s.ticks) (en : s.flag Fld.PWR_AVS_CFG_EN = true)
    (thawed : s.flag Fld.PWR_AVS_STATUS_FROZEN = false) (well : s.flag Fld.PWR_AVS_STATUS_FAILED = false) :
    execAvsLoopPeriod slack s = .next ((s.loopRun slack.toNat).ask slack.toNat) := by
  have runs : ¬ ((¬ s.flag Fld.PWR_AVS_CFG_EN = true) ∨ s.flag Fld.PWR_AVS_STATUS_FROZEN = true ∨ s.flag Fld.PWR_AVS_STATUS_FAILED = true) := by
    simp [en, thawed, well]
  rw [execAvsLoopPeriod, if_neg (Nat.not_lt.mpr due)]
  exact congrArg Host.Outcome.next (if_neg runs)

/-! ### The end of an operation (R428, R430) -/

/-- A good end of a current read. -/
def State.currentRead (s : State) (v : Nat) : State :=
  (({ s with pwr := { s.pwr with fails := 0 } } : State).setFld Fld.PWR_CURRENT_SAMPLE v).setFld Fld.PWR_CURRENT_VALID 1

theorem execAvsOpComplete_current (cur : s.pwr.avs = some .current) (v : Nat) : execAvsOpComplete true v s = .next (s.currentRead v).avsNext := by
  simp only [execAvsOpComplete, cur]
  rfl

theorem State.fld_currentRead_sample (v : Nat) : (s.currentRead v).fld Fld.PWR_CURRENT_SAMPLE = v % 2 ^ Fld.PWR_CURRENT_SAMPLE.width :=
  (State.fld_setFld_ne _ _ (by decide)).trans (State.fld_setFld_same ..)

/-- A first failure leaves the operation to repeat. -/
theorem execAvsOpComplete_failed {o : AvsOp} (cur : s.pwr.avs = some o) (first : s.pwr.again = false) (none : s.pwr.fails = 0) (v : Nat) :
    ∃ t, execAvsOpComplete false v s = .next t ∧ t.pwr.fails = 1 ∧ t.pwr.retry = some o ∧ t.pwr.retryAt = s.ticks ∧ t.pwr.avs = s.pwr.queue.head? := by
  let u : State := (s.bump Fld.PWR_CNT_COUNT 0 2).avsNext
  have counted : (s.bump Fld.PWR_CNT_COUNT 0 2).Frame 0x2 s := State.bump_frame .rfl' (.refl _) ..
  have ticks : u.ticks = s.ticks := by
    have next : u.ticks = (s.bump Fld.PWR_CNT_COUNT 0 2).ticks := by
      show State.ticks (State.avsNext _) = _
      unfold State.avsNext
      split <;> rfl
    exact next.trans (counted.ticks rfl)
  have avs : u.pwr.avs = s.pwr.queue.head? := by
    show (State.avsNext _).pwr.avs = _
    rw [State.pwr_avsNext, counted.pwr rfl]
  refine ⟨{ u with pwr := { u.pwr with fails := 1, retry := some o, retryAt := u.ticks, stopAt := u.pwr.stopAt } }, ?_, rfl, rfl, ticks, avs⟩
  simp only [execAvsOpComplete, cur, first, none]
  rfl

/-- Settles O21: each operation of the loop and of the bus is due or not, and takes a free bus. -/
theorem adaptiveVoltage : Obligations.AdaptiveVoltage := by
  refine ⟨fun slack s due en thawed well free short room => ?_, fun slack s due en thawed well free enough long room low => ?_,
    fun slack s due en thawed well enough few => ?_, fun slack s early => congrArg Host.Outcome.next (if_pos early), fun v s cur => ?_,
    fun v o s cur first none => ?_, fun o s retry free due thawed => ?_, fun o s retry early => ?_, fun s none failed due => ?_,
    fun s b0 hold thawed due free => ?_⟩
  · have lo := s.fld_loopRun (f := Fld.PWR_AVS_SLACK_S_LO) (by decide) slack.toNat
    have target := s.fld_loopRun (f := Fld.PWR_AVS_STATUS_TARGET) (by decide) slack.toNat
    have vmax := s.fld_loopRun (f := Fld.PWR_AVS_LIM_V_MAX) (by decide) slack.toNat
    have more := (s.loopRun slack.toNat).ask_of_short (slack := slack.toNat) (by rw [lo]; exact short) (by rw [target, vmax]; exact room)
    rw [target, State.avsStart_of_free (s := s.loopRun slack.toNat) free] at more
    exact (execAvsLoopPeriod_of_due due en thawed well).trans (congrArg Host.Outcome.next more)
  · have lo := s.fld_loopRun (f := Fld.PWR_AVS_SLACK_S_LO) (by decide) slack.toNat
    have hi := s.fld_loopRun (f := Fld.PWR_AVS_SLACK_S_HI) (by decide) slack.toNat
    have target := s.fld_loopRun (f := Fld.PWR_AVS_STATUS_TARGET) (by decide) slack.toNat
    have vmin := s.fld_loopRun (f := Fld.PWR_AVS_LIM_V_MIN) (by decide) slack.toNat
    have less := (s.loopRun slack.toNat).ask_of_long (slack := slack.toNat) (by rw [lo]; exact enough) (by rw [hi]; exact long) (by rw [target]; exact room)
      (by rw [target, vmin]; exact low)
    rw [target, State.avsStart_of_free (s := s.loopRun slack.toNat) free] at less
    exact (execAvsLoopPeriod_of_due due en thawed well).trans (congrArg Host.Outcome.next less)
  · have lo := s.fld_loopRun (f := Fld.PWR_AVS_SLACK_S_LO) (by decide) slack.toNat
    have hi := s.fld_loopRun (f := Fld.PWR_AVS_SLACK_S_HI) (by decide) slack.toNat
    have same := (s.loopRun slack.toNat).ask_of_enough (slack := slack.toNat) (by rw [lo]; exact enough) (by rw [hi]; exact few)
    exact (execAvsLoopPeriod_of_due due en thawed well).trans (congrArg Host.Outcome.next same)
  · refine ⟨(s.currentRead v).avsNext, execAvsOpComplete_current cur v, ?_, ?_, ?_, ?_, ?_⟩
    · rw [State.fld_congr (State.regs_avsNext _)]
      exact State.fld_setFld_same ..
    · rw [State.fld_congr (State.regs_avsNext _), State.fld_currentRead_sample]
    all_goals rw [State.pwr_avsNext]; rfl
  · exact execAvsOpComplete_failed cur first none v
  · have go : ¬ (s.pwr.avs.isSome = true ∨ s.ticks < s.pwr.retryAt + 16 ∨ ¬ s.avsFree = true) := by
      simp [free, State.avsFree, thawed]
      omega
    show execAvsRetryTimer s = _
    simp only [execAvsRetryTimer, retry]
    rw [if_neg go]
  · show execAvsRetryTimer s = _
    simp only [execAvsRetryTimer, retry]
    rw [if_pos (.inr (.inl early))]
  · have go : ¬ ((¬ s.flag Fld.PWR_AVS_STATUS_FAILED = true) ∨ s.ticks < s.pwr.stopAt + 65536) := by
      simp [failed]
      omega
    show execAvsRetryTimer s = _
    simp only [execAvsRetryTimer, none]
    rw [if_neg go]
  · have go : ¬ ((¬ s.start.b0 = true) ∨ s.hold.isSome = true ∨ (¬ s.avsFree = true) ∨ s.ticks < s.pwr.currAt + 64) := by
      simp [b0, hold, State.avsFree, thawed]
      omega
    show execAvsCurrentRead s = _
    rw [execAvsCurrentRead, if_neg go]
    exact congrArg Host.Outcome.next (State.avsStart_of_free (s := { s with pwr := { s.pwr with currAt := s.ticks } }) free _)

end

/-! ### The vote (R506 to R508) -/

section
variable {s : State} {x : FieldAt}

/-- Where no copies are known to differ, the sweep votes the one field it is given. -/
theorem execVoteSweep_one {v : TripleVote} (none : s.fab.copies = []) (hx : fieldOfKey (v.addr * 64 + v.lo) = some x) :
    execVoteSweep [v] s = .next (if x.f.trip then s.voteCopies 0 x ((v.addr * 64 + v.lo) / 64) (v.a, v.b, v.c) else s) := by
  have agreed : ({ s with fab := { s.fab with copies := [] } } : State) = s := by rw [← none]
  have one : Store.put s.fab.copies (v.addr * 64 + v.lo) (v.a, v.b, v.c) = [(v.addr * 64 + v.lo, (v.a, v.b, v.c))] := by rw [none]; rfl
  have gone : Store.del [(v.addr * 64 + v.lo, (v.a, v.b, v.c))] (v.addr * 64 + v.lo) = [] := by simp [Store.del]
  simp only [execVoteSweep, List.foldl_cons, List.foldl_nil, State.voteAll, one, State.voteKey, Store.find, if_true, hx, gone, agreed]

/-- Settles O18: the sweep takes the majority where there is one, and else contains the field. -/
theorem voteSweepRewritesTheMajority : Obligations.VoteSweepRewritesTheMajority := by
  refine ⟨fun v x s none hx hab hbc => ?_, fun v x m s none hx trip two => ?_, fun v x s none hx trip hab hac hbc => ?_⟩
  · refine (execVoteSweep_one none hx).trans (congrArg Host.Outcome.next ?_)
    have same : s.voteCopies 0 x ((v.addr * 64 + v.lo) / 64) (v.a, v.b, v.c) = s := if_pos ⟨hab, hbc⟩
    rw [same, ite_self]
  · refine (execVoteSweep_one none hx).trans (congrArg Host.Outcome.next ?_)
    rw [if_pos trip, State.voteCopies]
    rcases two with ⟨ha, hb, hc⟩ | ⟨ha, hc, hb⟩ | ⟨hb, hc, ha⟩
    · simp [ha, hb, Ne.symm hc]
    · simp [ha, hc, hb, Ne.symm hb]
    · simp [hb, hc, ha]
  · refine (execVoteSweep_one none hx).trans (congrArg Host.Outcome.next ?_)
    rw [if_pos trip, State.voteCopies]
    simp [hab, hac, hbc]

end

end Sys2Proof.Machine
end

section
/-! PROOFS. A read of the clock monitor through the port that clocks it. -/
namespace Sys2Proof.Machine

/-- A powered device outside a reset on whose port WRCK has not been seen. -/
def unclocked : State :=
  { State.reset with resetting := false, pins := { State.reset.pins with pwrGood := true, resetN := true } }

/-- A scan is itself an edge of WRCK: TT.CLK_RUN read through the port shows WRCK running, where the same register read of the state before the scan does not. -/
theorem result_regAccRead_unclocked : ∃ t, exec (.regAccRead 0x001018) unclocked = .next t ∧
    t.wrap.result ≠ some (BitVec.ofNat 64 (unclocked.readRegs (fieldsAt 0x001018) % 2 ^ 32 * 2 ^ 32 + 2 ^ 29 + 0x001018)) :=
  ⟨_, rfl, by decide +kernel⟩

/-- Refutes O48: it asks that a port read answers the register's value as before the scan, and TT.CLK_RUN is a register that the scan changes. -/
theorem not_wrapperPortCommands : ¬ Obligations.WrapperPortCommands := by
  rintro ⟨-, -, -, -, -, -, read, -⟩
  have word := read 0x001018 unclocked (by decide +kernel) rfl (by decide +kernel) (by decide +kernel)
  obtain ⟨t, step, result⟩ := result_regAccRead_unclocked
  have same := Host.Outcome.next.inj (step.symm.trans word)
  rw [same] at result
  exact result rfl

end Sys2Proof.Machine
end

section
/-! PROOFS. The commands of REP, BST and NVM: what the write of REP.CTL, BST.CTL and NVM.CTL does once it is performed. -/
namespace Sys2Proof.Machine

/-! ### A performed write of a register, as the repair controller and the NVM see it -/

section
variable {s u : State} {x : WSrc} {a : Nat} {v : BitVec 32}

theorem State.rep_writeFrom (h : s.accepts x 4 a v.toNat = true) (hu : u = s.atFabric x 4 a v.toNat) :
    (s.writeFrom x 4 a v.toNat).rep = (u.perform (regHit a) v.toNat).rep := by
  obtain ⟨ord, e⟩ | ⟨w, e⟩ := State.writeFrom_of_accepts h hu
  · rw [e]
    exact (State.respond_frame (n := 0x62) .rfl' (.refl _) ..).rep rfl
  · rw [e]

theorem State.nvm_writeFrom (h : s.accepts x 4 a v.toNat = true) (hu : u = s.atFabric x 4 a v.toNat) :
    (s.writeFrom x 4 a v.toNat).nvm = (u.perform (regHit a) v.toNat).nvm := by
  obtain ⟨ord, e⟩ | ⟨w, e⟩ := State.writeFrom_of_accepts h hu
  · rw [e]
    exact (State.respond_frame (n := 0x62) .rfl' (.refl _) ..).nvm rfl
  · rw [e]

theorem State.nvmHas_writeFrom (h : s.accepts x 4 a v.toNat = true) (hu : u = s.atFabric x 4 a v.toNat) (k : NvmKind) :
    (s.writeFrom x 4 a v.toNat).nvmHas k = (u.perform (regHit a) v.toNat).nvmHas k := by
  have nvm := State.nvm_writeFrom h hu
  exact State.nvmHas_congr (congrArg Nvm.ops nvm) (congrArg Nvm.cur nvm) k

theorem State.putFields_frame (n : Nat) : (u.putFields a n).Frame 0x6 u := State.Frame.foldl .rfl' fun _ _ h => State.putField_frame h (.refl _) ..

end

/-- What holds before a command bit is looked at, and is kept by the command, holds after it. -/
theorem State.when_rec {P : State → Prop} {s : State} {b : Bool} {g : State → State} (h : P s) (hg : P s → P (g s)) : P (s.when b g) := by
  cases b with
  | false => exact h
  | true => exact hg h

/-! ### REP.CTL (R349, R359, R365) -/

section
variable (s : State)

theorem State.nvmHas_nvmAdd {k : NvmKind} (h : s.nvmHas k = true) (o : NvmOp) : (s.nvmAdd o).nvmHas k = true := by
  refine State.nvmKick_has _ _ ?_
  simp only [State.nvmHas, Bool.or_eq_true, List.any_append] at h ⊢
  exact h.imp_left .inl

theorem RepEnt.same_self (e : RepEnt) : e.same e = true := by
  unfold RepEnt.same
  split <;> simp

theorem State.rep_journal (kind arg payload : Nat) : (s.journal kind arg payload).rep = s.rep :=
  (State.journal_frame (n := 0x82784a) .rfl' (.refl _) ..).rep rfl

theorem State.copy_journalDelta (d : Delta) : (s.journalDelta d).rep.copy = s.rep.copy := (congrArg Rep.copy (State.rep_journal ..) :)

theorem State.copy_addDelta (e : RepEnt) (remove : Bool) : (s.addDelta e remove).rep.copy = s.rep.copy := by
  unfold State.addDelta
  dsimp only
  split
  · rfl
  · exact State.copy_journalDelta ..

theorem State.copy_repDel (e : RepEnt) : (s.repDel e).rep.copy = s.rep.copy.filter fun y => !(y.same e) := by
  rw [State.repDel, State.copy_addDelta]

/-- Deleted entries leave the working copy, and no entry joins it. -/
theorem State.mem_copy_repDels {l : List RepEnt} {s : State} {y : RepEnt} (h : y ∈ (l.foldl (fun s e => s.repDel e) s).rep.copy) :
    y ∈ s.rep.copy ∧ y ∉ l := by
  induction l generalizing s with
  | nil => exact ⟨h, List.not_mem_nil⟩
  | cons e l ih =>
    obtain ⟨left, other⟩ := ih h
    rw [State.copy_repDel, List.mem_filter] at left
    refine ⟨left.1, fun mem => ?_⟩
    rcases List.mem_cons.mp mem with rfl | mem
    · simp [RepEnt.same_self] at left
    · exact other mem

theorem key_pending_ne {c d : Nat} (h : c ≠ d) : Fld.REP_PAIRS_PENDING.key 0 c ≠ Fld.REP_PAIRS_PENDING.key 0 d := by
  simp [Field.key, Field.addr, Fld.REP_PAIRS_PENDING]
  omega

/-- The channels below n have no pending pair once those have been cleared. -/
theorem State.fld_clearPairs (n c : Nat) (hc : c < n) :
    (s.upTo n fun c s => s.setFld Fld.REP_PAIRS_PENDING 0 0 c).fld Fld.REP_PAIRS_PENDING 0 c = 0 := by
  induction n with
  | zero => omega
  | succ n ih =>
    rw [State.upTo_succ]
    by_cases h : c = n
    · subst h
      rw [State.fld_setFld_same]
      rfl
    · rw [State.fld_setFld_ne _ _ (key_pending_ne h), ih (by omega)]

theorem State.rep_clearPairs (n : Nat) : (s.upTo n fun c s => s.setFld Fld.REP_PAIRS_PENDING 0 0 c).rep = s.rep :=
  State.upTo_keeps State.rep (g := fun c s => s.setFld Fld.REP_PAIRS_PENDING 0 0 c) (fun _ _ => rfl) n s

theorem State.fld_cancelPending {c : Nat} (hc : c < 64) : s.cancelPending.fld Fld.REP_PAIRS_PENDING 0 c = 0 := State.fld_clearPairs _ 64 c hc

theorem State.state_cancelPending {e : RepEnt} (he : e ∈ s.cancelPending.rep.copy) (kind : e.kind = 4 ∨ e.kind = 5) : e.state ≠ 5 := by
  rw [State.cancelPending, State.rep_clearPairs] at he
  obtain ⟨mem, kept⟩ := State.mem_copy_repDels he
  intro pending
  exact kept (List.mem_filter.mpr ⟨mem, by rcases kind with k | k <;> simp [k, pending]⟩)

/-- FUSE_GO asks for every SOFT entry to be fused. -/
def State.askFuse (s : State) : State := { s with rep := { s.rep with fuseGo := true } }

theorem State.perform_repCtl (v : Nat) : s.perform (regHit 0x0B0004) v =
    (((s.putFields 0x0B0004 v).when (Fld.REP_CTL_PENDING_CLR.isSet v) State.cancelPending).when (Fld.REP_CTL_FUSE_GO.isSet v) State.askFuse).when
      (Fld.REP_CTL_COMMIT.isSet v) State.commitRep := State.perform_regHit (b := .rep) (i := 0) (off := 4) rfl

end

/-! ### BST.CTL and NVM.CTL (R379, R479, R491) -/

section
variable (s : State)

theorem State.perform_bstCtl (v : Nat) : s.perform (regHit 0x0C0004) v =
    ((s.putFields 0x0C0004 v).when (Fld.BST_CTL_ABORT.isSet v) fun s => s.abortChTest 5).when (Fld.BST_CTL_VOID.isSet v) fun s => s.writeSeal 4 :=
  State.perform_regHit (b := .bst) (i := 0) (off := 4) rfl

theorem State.writeSeal_has (state : Nat) : (s.writeSeal state).nvmHas (.sealWr state) = true := State.nvmAdd_has _ _

/-- An operation of the window is asked for. -/
def State.windowGo (o : NvmOp) (s : State) : State := (s.setFld Fld.NVM_STATUS_WIN_BUSY 1).nvmAdd o

theorem State.perform_nvmCtl (v : Nat) : s.perform (regHit 0x0F0004) v =
    ((((s.putFields 0x0F0004 v).when (Fld.NVM_CTL_RD_GO.isSet v) (State.windowGo { kind := .winRead })).when
      (Fld.NVM_CTL_PROG_GO.isSet v) (State.windowGo { kind := .winProg })).when
      (Fld.NVM_CTL_ERASE_GO.isSet v) (State.windowGo { kind := .winErase, erases := 1 })).when
      (Fld.NVM_CTL_CAL_COMMIT.isSet v) State.commitCal := State.perform_regHit (b := .nvm) (i := 0) (off := 4) rfl

theorem State.nvmHas_commitCal {s : State} {k : NvmKind} (h : s.nvmHas k = true) : s.commitCal.nvmHas k = true := by
  unfold State.commitCal
  split
  · exact h
  · exact s.nvmHas_nvmAdd h _

/-- The flash may not begin a step, and the window is busy. -/
def State.windowWaits (s : State) : Prop := s.nvmRuns = false ∧ s.fld Fld.NVM_STATUS_WIN_BUSY = 1

variable {s} {o : NvmOp}

theorem State.windowGo_has : (s.windowGo o).nvmHas o.kind = true := State.nvmAdd_has _ _

theorem State.nvmHas_windowGo {k : NvmKind} (h : s.nvmHas k = true) : (s.windowGo o).nvmHas k = true :=
  State.nvmHas_nvmAdd (s.setFld Fld.NVM_STATUS_WIN_BUSY 1) h o

theorem State.windowWaits_windowGo (h : s.nvmRuns = false) : (s.windowGo o).windowWaits := by
  have waits : s.windowGo o = { s.setFld Fld.NVM_STATUS_WIN_BUSY 1 with nvm := { s.nvm with ops := s.nvm.ops ++ [o] } } := State.nvmKick_of_not_runs h
  rw [waits]
  exact ⟨h, State.fld_setFld_same s Fld.NVM_STATUS_WIN_BUSY 1 0 0⟩

theorem State.windowWaits_commitCal (h : s.windowWaits) : s.commitCal.windowWaits := by
  obtain ⟨still, busy⟩ := h
  unfold State.commitCal
  split
  · exact ⟨still, busy⟩
  · have waits (e : NvmOp) : s.nvmAdd e = { s with nvm := { s.nvm with ops := s.nvm.ops ++ [e] } } := State.nvmKick_of_not_runs still
    dsimp only
    rw [waits]
    exact ⟨still, busy⟩

theorem State.nvmRuns_putFields (a v : Nat) : (s.putFields a v).nvmRuns = s.nvmRuns := by
  have kept := State.putFields_frame (u := s) (a := a) v
  rw [State.nvmRuns, kept.hold rfl, kept.start rfl, kept.nvm rfl, State.nvmRuns]

end

/-- What stands of the window once NVM.CTL has been written: an operation asked for waits or runs, and where the flash may not begin the window is busy. -/
theorem State.perform_nvmCtl_window {u : State} {v : Nat} {k : NvmKind} (asked : (k = .winRead ∧ Fld.NVM_CTL_RD_GO.isSet v = true) ∨
    (k = .winProg ∧ Fld.NVM_CTL_PROG_GO.isSet v = true) ∨ (k = .winErase ∧ Fld.NVM_CTL_ERASE_GO.isSet v = true)) :
    (u.perform (regHit 0x0F0004) v).nvmHas k = true ∧ (u.nvmRuns = false → (u.perform (regHit 0x0F0004) v).windowWaits) := by
  have still (h : u.nvmRuns = false) : (u.putFields 0x0F0004 v).nvmRuns = false := (State.nvmRuns_putFields ..).trans h
  have go (b : Bool) (o : NvmOp) {t : State} (h : t.nvmHas k = true) : (t.when b (State.windowGo o)).nvmHas k = true :=
    State.when_rec (P := fun t => t.nvmHas k = true) h State.nvmHas_windowGo
  have goStill (b : Bool) (o : NvmOp) {t : State} (h : t.nvmRuns = false) : (t.when b (State.windowGo o)).nvmRuns = false :=
    State.when_rec (P := fun t => t.nvmRuns = false) h fun g => (State.windowWaits_windowGo g).1
  have goWaits (b : Bool) (o : NvmOp) {t : State} (h : t.windowWaits) : (t.when b (State.windowGo o)).windowWaits :=
    State.when_rec h fun g => State.windowWaits_windowGo g.1
  have commit (b : Bool) {t : State} (h : t.nvmHas k = true) : (t.when b State.commitCal).nvmHas k = true :=
    State.when_rec (P := fun t => t.nvmHas k = true) h State.nvmHas_commitCal
  have commitWaits (b : Bool) {t : State} (h : t.windowWaits) : (t.when b State.commitCal).windowWaits := State.when_rec h State.windowWaits_commitCal
  rw [State.perform_nvmCtl]
  rcases asked with ⟨rfl, set⟩ | ⟨rfl, set⟩ | ⟨rfl, set⟩ <;> rw [set]
  · exact ⟨commit _ (go _ _ (go _ _ State.windowGo_has)), fun h => commitWaits _ (goWaits _ _ (goWaits _ _ (State.windowWaits_windowGo (still h))))⟩
  · exact ⟨commit _ (go _ _ State.windowGo_has), fun h => commitWaits _ (goWaits _ _ (State.windowWaits_windowGo (goStill _ _ (still h))))⟩
  · exact ⟨commit _ State.windowGo_has, fun h => commitWaits _ (State.windowWaits_windowGo (goStill _ _ (goStill _ _ (still h))))⟩

section
variable {x : WSrc} {w : BitVec 32} {s : State}

theorem exec_repCommit : exec (.repCommit x w) s = .next (s.writeFrom x 4 0x0B0004 (w ||| 1).toNat) := rfl
theorem exec_fuseGo : exec (.fuseGo x w) s = .next (s.writeFrom x 4 0x0B0004 (w ||| 0x10).toNat) := rfl
theorem exec_pendingClr : exec (.pendingClr x w) s = .next (s.writeFrom x 4 0x0B0004 (w ||| 0x100).toNat) := rfl
theorem exec_sealVoid : exec (.sealVoid x w) s = .next (s.writeFrom x 4 0x0C0004 (w ||| 0x10).toNat) := rfl
theorem exec_calCommit : exec (.calCommit x w) s = .next (s.writeFrom x 4 0x0F0004 (w ||| 0x80000000).toNat) := rfl
theorem exec_winRdGo : exec (.winRdGo x w) s = .next (s.writeFrom x 4 0x0F0004 (w ||| 0x10).toNat) := rfl
theorem exec_winProgGo : exec (.winProgGo x w) s = .next (s.writeFrom x 4 0x0F0004 (w ||| 0x100).toNat) := rfl
theorem exec_winEraseGo : exec (.winEraseGo x w) s = .next (s.writeFrom x 4 0x0F0004 (w ||| 0x200).toNat) := rfl

end

/-- Settles O47: each accepted write is performed, and its command bits decide what joins the flash operations and what leaves the working copy. -/
theorem storeCommandsTakeEffect : Obligations.StoreCommandsTakeEffect := by
  refine ⟨?commit, ?fuse, ?clear, ?void, ?cal, ?read, ?prog, ?erase⟩
  case commit =>
    intro x w s u ha hu hw few
    have clear : Fld.REP_CTL_PENDING_CLR.isSet (w ||| 1).toNat = false := Field.isSet_of_masked hw rfl rfl
    have commit : Fld.REP_CTL_COMMIT.isSet (w ||| 1).toNat = true := Field.isSet_word_or rfl
    obtain ⟨p, hp⟩ : ∃ p, p = ((u.putFields 0x0B0004 (w ||| 1).toNat).when (Fld.REP_CTL_FUSE_GO.isSet (w ||| 1).toNat) State.askFuse) := ⟨_, rfl⟩
    have does : u.perform (regHit 0x0B0004) (w ||| 1).toNat = p.commitRep := by
      rw [State.perform_repCtl, clear, commit, hp]
      rfl
    have copy : p.rep.copy = u.rep.copy := by
      rw [hp]
      exact State.when_rec (P := fun t => t.rep.copy = u.rep.copy) (congrArg Rep.copy ((State.putFields_frame _).rep rfl)) id
    refine ⟨_, exec_repCommit, ?_, ?_⟩
    · rw [State.nvmHas_writeFrom ha hu, does]
      exact State.commitRep_has _ (by rw [copy]; exact few)
    · rw [State.rep_writeFrom ha hu, does, State.rep_commitRep, copy]
  case fuse =>
    intro x w s u ha hu
    have fuse : Fld.REP_CTL_FUSE_GO.isSet (w ||| 0x10).toNat = true := Field.isSet_word_or rfl
    refine ⟨_, exec_fuseGo, ?_⟩
    rw [State.rep_writeFrom ha hu, State.perform_repCtl, fuse]
    exact State.when_rec (P := fun t => t.rep.fuseGo = true) rfl fun asked => by rw [State.rep_commitRep]; exact asked
  case clear =>
    intro x w s u ha hu hw
    have clear : Fld.REP_CTL_PENDING_CLR.isSet (w ||| 0x100).toNat = true := Field.isSet_word_or rfl
    have commit : Fld.REP_CTL_COMMIT.isSet (w ||| 0x100).toNat = false := Field.isSet_of_masked hw rfl rfl
    have does : u.perform (regHit 0x0B0004) (w ||| 0x100).toNat =
        (u.putFields 0x0B0004 (w ||| 0x100).toNat).cancelPending.when (Fld.REP_CTL_FUSE_GO.isSet (w ||| 0x100).toNat) State.askFuse := by
      rw [State.perform_repCtl, clear, commit]
      rfl
    refine ⟨_, exec_pendingClr, fun c hc => ⟨?_, fun e he kind => ?_⟩⟩
    · rw [State.fld_writeFrom (by decide) (by decide) ha hu, does]
      have same (p : State) (b : Bool) : (p.when b State.askFuse).fld Fld.REP_PAIRS_PENDING 0 c = p.fld Fld.REP_PAIRS_PENDING 0 c := by
        cases b <;> rfl
      rw [same, State.fld_cancelPending _ hc]
    · rw [State.rep_writeFrom ha hu, does] at he
      have copy (p : State) (b : Bool) : (p.when b State.askFuse).rep.copy = p.rep.copy := by cases b <;> rfl
      rw [copy] at he
      exact State.state_cancelPending _ he kind
  case void =>
    intro x w s u ha hu
    have void : Fld.BST_CTL_VOID.isSet (w ||| 0x10).toNat = true := Field.isSet_word_or rfl
    refine ⟨_, exec_sealVoid, ?_⟩
    rw [State.nvmHas_writeFrom ha hu, State.perform_bstCtl, void]
    exact State.writeSeal_has _ 4
  case cal =>
    intro x w s u ha hu
    have cal : Fld.NVM_CTL_CAL_COMMIT.isSet (w ||| 0x80000000).toNat = true := Field.isSet_word_or (by decide)
    refine ⟨_, exec_calCommit, ?_⟩
    rw [State.nvmHas_writeFrom ha hu, State.perform_nvmCtl, cal]
    exact State.commitCal_has _
  case read =>
    intro x w s u ha hu
    obtain ⟨has, waits⟩ := State.perform_nvmCtl_window (u := u) (v := (w ||| 0x10).toNat) (k := .winRead) (.inl ⟨rfl, Field.isSet_word_or rfl⟩)
    refine ⟨_, exec_winRdGo, (State.nvmHas_writeFrom ha hu _).trans has, fun still => ?_⟩
    exact (State.fld_writeFrom (by decide) (by decide) ha hu 0 0).trans (waits still).2
  case prog =>
    intro x w s u ha hu
    obtain ⟨has, waits⟩ := State.perform_nvmCtl_window (u := u) (v := (w ||| 0x100).toNat) (k := .winProg) (.inr (.inl ⟨rfl, Field.isSet_word_or rfl⟩))
    refine ⟨_, exec_winProgGo, (State.nvmHas_writeFrom ha hu _).trans has, fun still => ?_⟩
    exact (State.fld_writeFrom (by decide) (by decide) ha hu 0 0).trans (waits still).2
  case erase =>
    intro x w s u ha hu
    obtain ⟨has, waits⟩ := State.perform_nvmCtl_window (u := u) (v := (w ||| 0x200).toNat) (k := .winErase) (.inr (.inr ⟨rfl, Field.isSet_word_or rfl⟩))
    refine ⟨_, exec_winEraseGo, (State.nvmHas_writeFrom ha hu _).trans has, fun still => ?_⟩
    exact (State.fld_writeFrom (by decide) (by decide) ha hu 0 0).trans (waits still).2

end Sys2Proof.Machine
end

section
/-! PROOFS. The end of an HREP whose entry the working copy holds in another state. -/
namespace Sys2Proof.Machine

/-- The column group an HREP is in progress for. -/
def sentGroup : RepEnt := { kind := 4, state := 2 }

/-- A device with one HREP in progress, past its limit, whose working copy has that group PENDING and another group of the die applied behind it. -/
def groupPending : State :=
  { State.reset with
    resetting := false, ticks := 2 ^ 40
    rep := { copy := [{ sentGroup with state := 5 }, { sentGroup with res := 1 }], hreps := [(0, sentGroup)] } }

/-- The device with the HREP ended and its entry noted as tried. -/
def groupTried : State := { groupPending with rep := { groupPending.rep with hreps := [], tried := [sentGroup] } }

/-- The device with the failure counted and the entry SOFT in the working copy. -/
def groupCounted : State := (groupTried.bump Fld.REP_CNT_COUNT 0 5).repSet { sentGroup with fails := 1 }

/-- The group stands before the other in the working copy once it is SOFT there, and the place reported is then 0: the capture record shows it. -/
theorem detail_hrepTimeout_groupPending : ∃ t, exec (.hrepTimeout 0) groupPending = .next t ∧ t.fld Fld.FLT_CAP_DETAIL_DETAIL 0 1 = 0 :=
  ⟨_, rfl, by decide +kernel⟩

/-- Refutes O39: it reports the spare of a column group as counted before the failure is written into the working copy, and the write of a PENDING
entry as SOFT moves that count. -/
theorem not_repairJobs : ¬ Obligations.RepairJobs := by
  rintro ⟨-, -, -, -, -, -, timeout, -⟩
  have before := timeout 0 sentGroup groupPending groupCounted rfl (by decide +kernel) rfl
  obtain ⟨t, step, after⟩ := detail_hrepTimeout_groupPending
  have same := Host.Outcome.next.inj (step.symm.trans before)
  rw [same] at after
  exact absurd after (by decide +kernel)

end Sys2Proof.Machine
end

section
/-! PROOFS. The stages of a start that train the stack, test it and choose the configuration (B2 to B4). -/
namespace Sys2Proof.Machine

variable {s : State}

theorem State.fld_toStage (n : Nat) : (s.toStage n).fld Fld.GLB_STATE_PHASE = n % 2 ^ Fld.GLB_STATE_PHASE.width := State.fld_setFld_same ..

theorem State.start_toStage (n : Nat) : (s.toStage n).start = { s.start with begun := false } := rfl

/-- A stage in its turn does what it does. -/
theorem execStageB2Stack_of_stage (h : s.atStage 2 = true) : execStageB2Stack s =
    .next (if s.start.begun = false then s.beginB2 else if (s.vert.trains.any fun j => j.start) = true then s else s.endB2) := by
  cases hb : s.start.begun <;> simp [execStageB2Stack, h, hb]

theorem execStageB3Test_of_stage (h : s.atStage 3 = true) (clockOk vddcOk : Bool) : execStageB3Test clockOk vddcOk s =
    .next (if s.start.begun = false then ({ s with start := { s.start with begun := true } } : State).startTest 2 clockOk vddcOk
      else if s.bst.kind ≠ 0 ∨ s.bst.waiting = true then s else s.startPilots.toStage 4) := by
  cases hb : s.start.begun <;> simp [execStageB3Test, h, hb]

theorem execStageB4Configuration_of_stage (h : s.atStage 4 = true) : execStageB4Configuration s =
    .next ((if s.start.warm = true then s.configureWarm else s.configurePor).toStage 6) := by
  simp [execStageB4Configuration, h]

/-! ### B2 begins (R280, R356, R443) -/

theorem State.trains_retiredCol (e : RepEnt) (s : State) : (s.retiredCol e).vert.trains = s.vert.trains := by
  refine State.ite_keeps (·.vert.trains) rfl ?_
  dsimp only
  split <;> rfl

theorem State.trains_retiredCols (s : State) : s.retiredCols.vert.trains = s.vert.trains :=
  (State.foldl_keeps (·.vert.trains) State.trains_retiredCol _ _).trans (State.foldl_keeps (·.vert.trains) State.trains_retiredCol _ s)

/-- The stage is on its way, with the quadrants on and the columns seeded and retired. -/
def State.seeded (s : State) : State :=
  (if s.nvm.cal.isEmpty then { s.vqOn true with start := { s.start with begun := true } }
    else State.seedCal { s.vqOn true with start := { s.start with begun := true } }).retiredCols

theorem State.beginB2_eq : s.beginB2 =
    s.seeded.startTraining { seg := 0, last := 3, bundles := List.range 64, start := true, cold := s.nvm.cal.isEmpty } := by
  have nvm : (s.vqOn true).nvm = s.nvm := (State.vqOn_frame (n := 0x2) .rfl' (.refl _) true).nvm rfl
  simp only [State.beginB2, State.seeded, nvm]

theorem State.start_seeded : s.seeded.start = { s.start with begun := true } := by
  have seeds (u : State) : u.seedCal.start = u.start := (State.seedCal_frame (n := 0x2) .rfl' (.refl _)).start rfl
  refine ((State.retiredCols_frame (n := 0x2002) .rfl' (.refl _)).start rfl).trans ?_
  split
  · rfl
  · rw [seeds]

theorem State.trains_seeded : s.seeded.vert.trains = s.vert.trains := by
  have seeds (u : State) : u.seedCal.vert = u.vert := (State.seedCal_frame (n := 0x2) .rfl' (.refl _)).vert rfl
  have on : (s.vqOn true).vert = s.vert := (State.vqOn_frame (n := 0x2) .rfl' (.refl _) true).vert rfl
  rw [State.seeded, State.trains_retiredCols, ← on]
  split
  · rfl
  · rw [seeds]

theorem State.start_beginB2 : s.beginB2.start = { s.start with begun := true } := by
  rw [State.beginB2_eq, ← State.start_seeded]
  exact (State.startTraining_frame (n := 0x2002) .rfl' (.refl _) _).start rfl

theorem State.trains_beginB2 : s.beginB2.vert.trains =
    s.vert.trains ++ [{ seg := 0, last := 3, bundles := List.range 64, start := true, cold := s.nvm.cal.isEmpty }] := by
  rw [State.beginB2_eq, State.vert_startTraining, State.trains_seeded]

/-! ### B2 ends: the tracks that wait in phase 4 go on, and that B2 has ended stays noted (R110, R444, R447) -/

theorem State.b2_of_frame {n : Nat} {s o : State} (h : s.Frame n o) (hn : n.testBit 21 = false) : s.start.b2 = o.start.b2 :=
  congrArg Start.b2 (h.start hn)

theorem State.b2_nextPilot (t : Nat) (s : State) : (s.nextPilot t).start.b2 = s.start.b2 := by
  refine State.ite_keeps (·.start.b2) rfl ?_
  dsimp only
  split
  · rfl
  · exact (State.b2_of_frame (n := 0x22) (State.startTrack_frame .rfl' (.refl _) _) rfl).trans rfl

theorem State.b2_goDown (t : Nat) (s : State) : (s.goDown t).start.b2 = s.start.b2 := by
  have raised : (s.raise .hlTrainFail t (hlDetail 0 (s.fld Fld.TRK_TRAIN_STATUS_FAIL_REASON t) 0)).start.b2 = s.start.b2 :=
    State.b2_of_frame (n := 0x82784a) (State.raise_frame .rfl' (.refl _) ..) rfl
  have next (u : State) (hu : u.start.b2 = s.start.b2) : (u.nextPilot t).start.b2 = s.start.b2 := (State.b2_nextPilot t u).trans hu
  refine State.ite_keeps (·.start.b2) ((State.b2_of_frame (n := 0x20) (State.startFailover_frame .rfl' (.refl _) t) rfl).trans ?_) ?_
  all_goals exact next _ raised

theorem State.b2_failAttempt (t reason : Nat) (s : State) : (s.failAttempt t reason).start.b2 = s.start.b2 := by
  have again (u : State) (b : Bool) : (u.beginAttempt t b).start.b2 = u.start.b2 :=
    State.b2_of_frame (n := 0x22) (State.beginAttempt_frame .rfl' (.refl _) ..) rfl
  exact State.ite_keeps (·.start.b2) (again _ true) (State.ite_keeps (·.start.b2) (State.b2_goDown t _) (again _ true))

theorem State.b2_deskew (t : Nat) (skew : List Nat) (s : State) : (s.deskew t skew).start.b2 = s.start.b2 := by
  have failed : ((s.raise .hlDeskewFail t (hlDetail 0 0x10 0)).failAttempt t 0x10).start.b2 = s.start.b2 :=
    (State.b2_failAttempt t 0x10 _).trans (State.b2_of_frame (n := 0x82784a) (State.raise_frame .rfl' (.refl _) ..) rfl)
  refine State.ite_keeps (·.start.b2) failed ?_
  refine State.b2_of_frame (n := 0x22) (State.modTrk_frame (State.modRx_frame ?_ (by rfl) ..) (by rfl) ..) rfl
  exact .foldl (.foldl .rfl' fun _ _ h => State.setRxLane_frame (State.setFld_frame h (by rfl) ..) (by rfl) ..)
    fun _ _ h => State.setRxLane_frame (State.setFld_frame h (by rfl) ..) (by rfl) ..

theorem State.b2_advance (t : Nat) (skew : List Nat) (s : State) : (s.advance t skew).start.b2 = s.start.b2 := by
  have moved (u : State) : (if u.deskewDue t skew then u.deskew t skew else u).start.b2 = u.start.b2 :=
    State.ite_keeps (·.start.b2) (State.b2_deskew t skew u) rfl
  have entered (u : State) : (u.enterPhase t 5 .cap).start.b2 = u.start.b2 :=
    State.b2_of_frame (n := 0x22) (State.enterPhase_frame .rfl' (.refl _) ..) rfl
  refine State.ite_keeps (·.start.b2) rfl ?_
  exact State.ite_keeps (·.start.b2) ((entered _).trans (moved _)) (moved _)

theorem State.b2_sealChecks (s : State) : s.sealChecks.1.start.b2 = s.start.b2 := by
  unfold State.sealChecks
  split
  · rfl
  · exact State.ite_keeps (·.start.b2) rfl ((State.b2_of_frame (n := 0x82784a) (State.raise_frame .rfl' (.refl _) ..) rfl).trans rfl)

/-- A warm start takes no check of the seal (R383). -/
theorem State.sealChecks_of_warm (h : s.start.warm = true) : s.sealChecks = (s, 0) := if_pos h

/-- The state the checks of the seal find: the stack ID, the pilot, B2 noted as ended. -/
def State.b2Noted (s : State) : State :=
  { (s.setFld Fld.BST_STACK_ID_ID s.stackId).fixPilot with
    start := { (s.setFld Fld.BST_STACK_ID_ID s.stackId).fixPilot.start with stack := s.stackId, b2 := true } }

/-- What follows the checks, before the next stage: START, CAL, and the tracks that go on. -/
def State.b2Settled (s : State) (why : Nat) : State :=
  State.upTo (if (s.journalStart why).fld Fld.NVM_CAL_SEED = 1 then s.journalStart why else (s.journalStart why).commitCal) 32
    fun t s => if s.inPhase t 4 then s.advance t [] else s

theorem State.endB2_eq : s.endB2 =
    (s.b2Noted.sealChecks.1.b2Settled s.b2Noted.sealChecks.2).toStage (if s.b2Noted.sealChecks.2 = 0 then 4 else 3) := rfl

theorem State.b2_b2Settled (why : Nat) : (s.b2Settled why).start.b2 = s.start.b2 := by
  have journalled : (s.journalStart why).start.b2 = s.start.b2 := State.b2_of_frame (n := 0x82784a) (State.journalStart_frame .rfl' (.refl _) why) rfl
  have committed : (s.journalStart why).commitCal.start.b2 = s.start.b2 :=
    (State.b2_of_frame (n := 0x82784a) (State.commitCal_frame .rfl' (.refl _)) rfl).trans journalled
  have advanced (u : State) : (u.upTo 32 fun t s => if s.inPhase t 4 then s.advance t [] else s).start.b2 = u.start.b2 :=
    State.upTo_keeps (·.start.b2) (fun t u => State.ite_keeps (·.start.b2) (State.b2_advance t [] u) rfl) 32 u
  rw [State.b2Settled, advanced]
  exact State.ite_keeps (·.start.b2) journalled committed

theorem State.b2_endB2 : s.endB2.start.b2 = true := by
  simp only [State.endB2_eq, State.start_toStage, State.b2_b2Settled, State.b2_sealChecks, State.b2Noted]

theorem State.warm_b2Noted : s.b2Noted.start.warm = s.start.warm := by
  simp only [State.b2Noted, State.fixPilot, State.setFld_start]

/-! ### B3: the start-up test begins, and the pilot tracks train once it has ended (R384, R444) -/

theorem State.KeepsBst.kind {t o : State} (h : t.KeepsBst o) : t.bst.kind = o.bst.kind := by
  rcases h with h | h <;> rw [h]

theorem State.KeepsBst.waiting {t o : State} (h : t.KeepsBst o) : t.bst.waiting = o.bst.waiting := by
  rcases h with h | h <;> rw [h]

theorem State.KeepsBst.retried {t o : State} (h : t.KeepsBst o) : t.bst.retried = o.bst.retried := by
  rcases h with h | h <;> rw [h]

/-- A test whose limits hold runs, with its seal waiting or being written (R368, R375). -/
theorem State.startTest_runs (k : Nat) : (s.startTest k true true).bst.kind = k ∧ (s.startTest k true true).bst.waiting = false ∧
    (s.startTest k true true).bst.retried = s.bst.retried ∧ (s.startTest k true true).nvmHas (.sealWr 1) = true := by
  have sealed (u : State) : (u.writeSeal 1).KeepsBst u := State.nvmAdd_bst u _
  have tested (u : State) : (u.testedChans.foldl (fun s c => s.setTest c true) u).bst = u.bst :=
    State.foldl_keeps (·.bst) (fun c s => (State.setTest_frame (n := 0x802) .rfl' (.refl _) c true).bst rfl) _ u
  have counted : (if k = 1 then (s.setFld Fld.BST_CTL_PARK_TEST 0).bump Fld.BST_CNT_COUNT 0 0 else s).bst = s.bst :=
    State.ite_keeps (·.bst) ((State.bump_frame (n := 0x2) .rfl' (.refl _) ..).bst rfl) rfl
  have stopped (u : State) (h : u.bst = s.bst) : (match u.bst.ch with | some _ => u.endChTest 3 | none => u).bst.retried = s.bst.retried := by
    rw [← h]
    split
    · exact (State.endChTest_bst u 3).retried
    · rfl
  unfold State.startTest
  dsimp only
  rw [if_neg (not_not_intro rfl), if_neg (not_not_intro rfl), (sealed _).kind, (sealed _).waiting, (sealed _).retried, tested]
  simp only [State.setFld_bst]
  exact ⟨trivial, trivial, stopped _ counted, State.writeSeal_has _ 1⟩

theorem State.b5_startPilots : s.startPilots.start.b5 = true := by
  unfold State.startPilots
  split
  case isTrue h => exact h
  case isFalse =>
    have trained (u : State) (l : List Nat) : (l.foldl (fun s t => s.startTrack t) u).start = u.start :=
      State.foldl_keeps (·.start) (fun t s => (State.startTrack_frame (n := 0x22) .rfl' (.refl _) t).start rfl) l u
    dsimp only
    rw [trained]

/-! ### B4: the configuration (R361, R362) -/

/-- The configuration a POR start chooses is taken from the state in which the pending pairs have been retired. -/
theorem State.conf_configurePor : s.configurePor.start.conf = s.retirePending.choose := rfl

/-- A configuration whose layers are all there can be presented again (R361). -/
theorem State.configureWarm_of_good {m : Member} (prev : s.start.prev = some m)
    (good : ∀ l ∈ m.used, s.reached l = true ∧ ∀ i < 4, s.failedChan (4 * (l - 1) + i) = false) :
    s.configureWarm = { s with start := { s.start with conf := m } } := by
  have all : (m.used.all fun l => s.reached l && (List.range 4).all fun i => !s.failedChan (4 * (l - 1) + i)) = true := by
    simp only [List.all_eq_true, Bool.and_eq_true, List.mem_range, Bool.not_eq_true']
    exact good
  simp only [State.configureWarm, prev, all, if_true]

/-- Settles O12: each stage runs as it is written once its turn has come; the operations after the noted field keep it. -/
theorem startStagesStackTestConfiguration : Obligations.StartStagesStackTestConfiguration := by
  unfold Obligations.StartStagesStackTestConfiguration
  refine ⟨fun s stage begun => ?_, fun s stage begun trains => ?_, fun s stage begun trains => ?_, fun s stage begun => ?_,
    fun clockOk vddcOk s stage begun runs => ?_, fun clockOk vddcOk s stage begun idle quiet => ?_, fun s stage por => ?_,
    fun m s stage warm prev good => ?_⟩
  · refine ⟨s.beginB2, ?_, State.start_beginB2, State.trains_beginB2⟩
    exact (execStageB2Stack_of_stage stage).trans (by rw [if_pos begun])
  · exact (execStageB2Stack_of_stage stage).trans (by rw [if_neg (by simp [begun]), if_pos trains])
  · refine ⟨s.endB2, (execStageB2Stack_of_stage stage).trans (by rw [if_neg (by simp [begun]), if_neg (by simp [trains])]),
      State.b2_endB2, ?_, ?_, ?_⟩
    · rw [State.endB2_eq, State.start_toStage]
    · rw [State.endB2_eq]
      split
      · exact .inr (State.fld_toStage 4)
      · exact .inl (State.fld_toStage 3)
    · intro warm
      rw [State.endB2_eq, State.sealChecks_of_warm (State.warm_b2Noted.trans warm)]
      exact State.fld_toStage 4
  · obtain ⟨kind, -, -, has⟩ := State.startTest_runs (s := { s with start := { s.start with begun := true } }) 2
    refine ⟨_, (execStageB3Test_of_stage stage true true).trans (by rw [if_pos begun]), ?_, kind, has⟩
    exact (State.startTest_frame (n := 0x82784a) .rfl' (.refl _) ..).start rfl
  · exact (execStageB3Test_of_stage stage clockOk vddcOk).trans (by rw [if_neg (by simp [begun]), if_pos runs])
  · refine ⟨_, (execStageB3Test_of_stage stage clockOk vddcOk).trans (by rw [if_neg (by simp [begun]), if_neg (by simp [idle, quiet])]),
      State.fld_toStage 4, ?_, ?_⟩
    · rw [State.start_toStage, State.b5_startPilots]
    · rw [State.start_toStage]
  · refine ⟨_, (execStageB4Configuration_of_stage stage).trans (by rw [if_neg (by simp [por])]), State.fld_toStage 6, ?_, ?_⟩
    · rw [State.start_toStage]
    · rw [State.start_toStage, State.conf_configurePor]
  · refine ⟨_, (execStageB4Configuration_of_stage stage).trans (by rw [if_pos warm]), State.fld_toStage 6, ?_, ?_⟩
    · rw [State.start_toStage]
    · rw [State.configureWarm_of_good prev good, State.start_toStage]

end Sys2Proof.Machine
end

section
/-! PROOFS. The stages of a start that bring the channels out of self-refresh and widen (B6 and B7). -/
namespace Sys2Proof.Machine

variable {s : State}

theorem execStageB6Channels_of_stage (h : s.atStage 6 = true) : execStageB6Channels s = .next (if s.start.begun = false then s.beginB6
    else if (s.startChans.all fun c => (s.chan c).exited) = true then ({ s with start := { s.start with b6 := true } } : State).toStage 7 else s) := by
  cases hb : s.start.begun <;> simp [execStageB6Channels, h, hb]

theorem State.fld_toStage_ne {f : Field} {i j : Nat} (h : f.key i j ≠ Fld.GLB_STATE_PHASE.key 0 0) (n : Nat) :
    (s.toStage n).fld f i j = s.fld f i j :=
  State.fld_setFld_ne _ _ h

/-- Repairs are finished and groups applied without a trace in the record of the start (R348, R352). -/
theorem State.start_beginB6 : s.beginB6.start = { s.start with begun := true } := by
  have woken (u : State) (l : List Nat) : (l.foldl (fun s c => s.wakeChan c s.start.again true) u).start = u.start :=
    State.foldl_keeps (·.start) (fun c v => (State.wakeChan_frame (n := 0x802) .rfl' (.refl _) c v.start.again true).start rfl) l u
  have finished (u : State) (l : List RepEnt) : (l.foldl (fun s e => s.finishMigrating e) u).start = u.start :=
    State.foldl_keeps (·.start) (fun e v => (State.finishMigrating_frame (n := 0x83784a) .rfl' (.refl _) e).start rfl) l u
  have applied (u : State) (l : List Nat) : (if u.start.warm then u else u.applyGroups l).start = u.start :=
    State.ite_keeps (·.start) rfl ((State.applyGroups_frame (n := 0x83784a) .rfl' (.refl _) l).start rfl)
  have pools : s.poolsOn.start = s.start := (State.poolsOn_frame (n := 0x2) .rfl' (.refl _)).start rfl
  unfold State.beginB6
  dsimp only
  rw [woken, applied, finished, pools]

/-! ### B7: the announcement (R449, R450) -/

theorem execStageB7Widening_of_stage (h : s.atStage 7 = true) (first : s.start.eff = none) (ready : s.readyTracks ≠ [])
    (go : s.flag Fld.GLB_PWR_CFG_WIDEN_AUTO = true ∨ s.start.go = true) :
    execStageB7Widening s = .next (s.announce (s.fld Fld.TT_TIME_FRAME + 65)) := by
  simp [execStageB7Widening, h, first, ready, go]

section
variable (f : Nat)

/-- The tracks that announce keep the record of the start and every register. -/
theorem State.announce_keeps {β : Type} (view : State → β) (hv : ∀ (s : State) t, view (s.announceTo t) = view s) : view (s.announce f) =
    view ((({ s with start := { s.start with eff := some (f % 2 ^ 48) } } : State).setFld Fld.GLB_STATE_WIDEN_PENDING 1).bump
      Fld.GLB_PWR_STATUS_WIDEN_TRIES) :=
  State.foldl_keeps view (fun t s => hv s t) _ _

theorem State.start_announce : (s.announce f).start = { s.start with eff := some (f % 2 ^ 48) } :=
  (s.announce_keeps f (·.start) fun _ t => (State.announceTo_frame (n := 0x20) .rfl' (.refl _) t).start rfl).trans
    ((State.bump_frame (n := 0x2) .rfl' (.refl _) ..).start rfl)

theorem State.fld_announce (e : Field) : (s.announce f).fld e =
    ((s.setFld Fld.GLB_STATE_WIDEN_PENDING 1).bump Fld.GLB_PWR_STATUS_WIDEN_TRIES).fld e :=
  s.announce_keeps f (·.fld e) fun _ t => State.fld_congr ((State.announceTo_frame (n := 0x20) .rfl' (.refl _) t).regs rfl) ..

theorem State.fld_announce_pending : (s.announce f).fld Fld.GLB_STATE_WIDEN_PENDING = 1 := by
  rw [State.fld_announce, State.fld_bump_ne _ 1 (by decide), State.fld_setFld_same]
  rfl

theorem State.fld_announce_tries : (s.announce f).fld Fld.GLB_PWR_STATUS_WIDEN_TRIES = min (s.fld Fld.GLB_PWR_STATUS_WIDEN_TRIES + 1) 255 := by
  rw [State.fld_announce, State.fld_bump_same _ 0 0 1 (.inl rfl), State.fld_setFld_ne _ _ (by decide)]
  rfl

end

/-! ### The tick at which widening takes effect (R450, R451) -/

theorem execWidenEffectiveTick_of_due {f : Nat} (h : s.atStage 7 = true) (eff : s.start.eff = some f) (due : f ≤ s.fld Fld.TT_TIME_FRAME) :
    execWidenEffectiveTick s =
      .next (if (s.readyTracks.all fun t => (s.trk t).trn.capAnswered) = true then s.widen f else s.announce (f + 64)) := by
  simp [execWidenEffectiveTick, h, eff, Nat.not_lt.mpr due]

theorem execWidenEffectiveTick_of_early {f : Nat} (eff : s.start.eff = some f) (early : s.fld Fld.TT_TIME_FRAME < f) :
    execWidenEffectiveTick s = .next s := by
  simp [execWidenEffectiveTick, eff, early]

/-- The chosen configuration is in force, its buckets full (R217, R362). -/
def State.filled (s : State) : State := { s.present.refillAll with bwr := { s.present.refillAll.bwr with due := s.present.refillAll.deliverable } }

/-- The power state and the boot time of a start that has ended. -/
def State.opened (s : State) (f : Nat) : State :=
  ((((s.filled.setFld Fld.GLB_STATE_WIDEN_PENDING 0).setFld Fld.GLB_STATE_READY 1).setFld Fld.GLB_STATE_STATE PowerState.run.code).setFld
    Fld.GLB_BOOT_TIME_FRAMES f).setFld Fld.GLB_STATE_PHASE 8

/-- The start is complete; the tracks have not been told yet (R451). -/
def State.inForce (s : State) (f : Nat) : State :=
  { s.opened f with start := { (s.opened f).start with running := false, eff := none, go := false } }

/-- The tracks that took the announcement drop it. -/
def State.taken (s : State) : State := s.readyTracks.foldl (fun s t => s.modTrn t fun x => { x with capUpdate := false, capAnswered := false }) s

theorem State.fld_taken (e : Field) (i j : Nat) : s.taken.fld e i j = s.fld e i j :=
  State.foldl_keeps (·.fld e i j) (fun t u => State.modTrn_fld u t _ e i j) s.readyTracks s

theorem State.start_taken : s.taken.start = s.start := State.foldl_keeps (·.start) (fun t u => State.modTrn_start u t _) s.readyTracks s

/-- The tracks that may train now, beyond those of the start, begin to. -/
def State.startOthers (s : State) : State :=
  (s.enabledTracks.filter fun t => !s.start.tracksGo.contains t && s.linkIs t .disabled).foldl (fun s t => s.startTrack t) s

theorem State.widen_eq (f : Nat) : s.widen f =
    if (s.inForce f).taken.startOthers.start.retired then (s.inForce f).taken.startOthers.commitRep else (s.inForce f).taken.startOthers := rfl

theorem State.fld_setBwr (b : Bwr) (e : Field) (i j : Nat) : ({ s with bwr := b } : State).fld e i j = s.fld e i j := rfl

theorem State.fld_setStart (x : Start) (e : Field) (i j : Nat) : ({ s with start := x } : State).fld e i j = s.fld e i j := rfl

/-- A field below the blocks of the bandwidth regulation is no field of them. -/
theorem State.fld_refillAll_of_below {e : Field} {i j : Nat} (h : e.key i j < 64 * Blk.base .bwr) : s.refillAll.fld e i j = s.fld e i j := by
  have away {g : Field} (hg : 64 * Blk.base .bwr ≤ g.key 0 0) (u : State) (v : Nat) : (u.setFld g v).fld e i j = u.fld e i j :=
    State.fld_setFld_ne u v (by omega)
  have refilled (u : State) (w : Bool) (D : Nat) (full : Bool) : (u.refill w D full).fld e i j = u.fld e i j := by
    unfold State.refill
    dsimp only
    rw [away (by cases w <;> decide)]
    exact State.upTo_keeps (·.fld e i j) (fun _ _ => rfl) 64 u
  have noted : ((s.setFld Fld.BWR_DNOW_RD_D s.bwr.d.1).setFld Fld.BWR_DNOW_WR_D s.bwr.d.2).fld e i j = s.fld e i j := by
    rw [away (by decide), away (by decide)]
  refine State.ite_keeps (·.fld e i j) ?_ ?_
  · have unscaled (u : State) : ((u.setFld Fld.BWR_SCALE_RD_K 65536).setFld Fld.BWR_SCALE_WR_K 65536).fld e i j = u.fld e i j := by
      rw [away (by decide), away (by decide)]
    exact (State.fld_setBwr _ e i j).trans ((unscaled _).trans noted)
  · exact (State.fld_setBwr _ e i j).trans <| (refilled _ true _ _).trans ((refilled _ false _ _).trans noted)

theorem State.fld_present_of_below {e : Field} {i j : Nat} (h : e.key i j < 64 * Blk.base .bwr) (glb : 64 * Blk.base .tt ≤ e.key i j) :
    s.present.fld e i j = s.fld e i j := by
  have low {g : Field} (hg : g.key 0 0 < 64 * Blk.base .tt) (u : State) (v : Nat) : (u.setFld g v).fld e i j = u.fld e i j :=
    State.fld_setFld_ne u v (by omega)
  have high {g : Field} (hg : 64 * Blk.base .bwr ≤ g.key 0 0) (u : State) (v : Nat) : (u.setFld g v).fld e i j = u.fld e i j :=
    State.fld_setFld_ne u v (by omega)
  refine (high (g := Fld.REP_MAP_PAIRS) (by decide) _ _).trans ?_
  rw [high (by decide), low (by decide), low (by decide), low (by decide), low (by decide)]

theorem State.start_present_refillAll : s.present.refillAll.start = s.start :=
  ((State.refillAll_frame (n := 0x4002) .rfl' (.refl _)).start rfl).trans ((State.present_frame (n := 0x4002) .rfl' (.refl _)).start rfl)

section
variable (f : Nat)

theorem State.start_inForce : (s.inForce f).start = { s.start with running := false, eff := none, go := false } := by
  simp only [State.inForce, State.opened, State.filled, State.setFld_start, State.start_present_refillAll]

/-- A field other than those of the power state and the boot time reads as it did before they were written. -/
theorem State.fld_inForce_ne {e : Field} {i j : Nat} (pending : e.key i j ≠ Fld.GLB_STATE_WIDEN_PENDING.key 0 0)
    (ready : e.key i j ≠ Fld.GLB_STATE_READY.key 0 0) (state : e.key i j ≠ Fld.GLB_STATE_STATE.key 0 0)
    (boot : e.key i j ≠ Fld.GLB_BOOT_TIME_FRAMES.key 0 0) (phase : e.key i j ≠ Fld.GLB_STATE_PHASE.key 0 0) :
    (s.inForce f).fld e i j = s.present.refillAll.fld e i j := by
  rw [State.inForce, State.fld_setStart, State.opened, State.fld_setFld_ne _ _ phase, State.fld_setFld_ne _ _ boot, State.fld_setFld_ne _ _ state,
    State.fld_setFld_ne _ _ ready, State.fld_setFld_ne _ _ pending, State.filled, State.fld_setBwr]

theorem State.fld_inForce_phase : (s.inForce f).fld Fld.GLB_STATE_PHASE = 8 := by
  rw [State.inForce, State.fld_setStart, State.opened, State.fld_setFld_same]
  rfl

theorem State.fld_inForce_boot : (s.inForce f).fld Fld.GLB_BOOT_TIME_FRAMES = f % 2 ^ Fld.GLB_BOOT_TIME_FRAMES.width := by
  rw [State.inForce, State.fld_setStart, State.opened, State.fld_setFld_ne _ _ (by decide), State.fld_setFld_same]

theorem State.fld_inForce_state : (s.inForce f).fld Fld.GLB_STATE_STATE = 0 := by
  rw [State.inForce, State.fld_setStart, State.opened, State.fld_setFld_ne _ _ (by decide), State.fld_setFld_ne _ _ (by decide), State.fld_setFld_same]
  rfl

theorem State.fld_inForce_ready : (s.inForce f).fld Fld.GLB_STATE_READY = 1 := by
  rw [State.inForce, State.fld_setStart, State.opened, State.fld_setFld_ne _ _ (by decide), State.fld_setFld_ne _ _ (by decide),
    State.fld_setFld_ne _ _ (by decide), State.fld_setFld_same]
  rfl

theorem State.fld_inForce_pending : (s.inForce f).fld Fld.GLB_STATE_WIDEN_PENDING = 0 := by
  rw [State.inForce, State.fld_setStart, State.opened, State.fld_setFld_ne _ _ (by decide), State.fld_setFld_ne _ _ (by decide),
    State.fld_setFld_ne _ _ (by decide), State.fld_setFld_ne _ _ (by decide), State.fld_setFld_same]
  rfl

theorem State.fld_inForce_count : (s.inForce f).fld Fld.GLB_ADDR_MAP_CHAN_COUNT = 4 * s.start.conf.n % 2 ^ Fld.GLB_ADDR_MAP_CHAN_COUNT.width := by
  rw [State.fld_inForce_ne f (by decide) (by decide) (by decide) (by decide) (by decide), State.fld_refillAll_of_below (by decide), State.present,
    State.fld_setBwr, State.fld_setFld_ne _ _ (by decide), State.fld_setFld_ne _ _ (by decide), State.fld_setFld_ne _ _ (by decide),
    State.fld_setFld_ne _ _ (by decide), State.fld_setFld_ne _ _ (by decide), State.fld_setFld_same]

theorem State.fld_inForce_wagons : (s.inForce f).fld Fld.GLB_INSTALLED_WAGONS = s.start.conf.wagons % 2 ^ Fld.GLB_INSTALLED_WAGONS.width := by
  rw [State.fld_inForce_ne f (by decide) (by decide) (by decide) (by decide) (by decide), State.fld_refillAll_of_below (by decide), State.present,
    State.fld_setBwr, State.fld_setFld_ne _ _ (by decide), State.fld_setFld_ne _ _ (by decide), State.fld_setFld_same]

/-- Widening enables no track and disables none. -/
theorem State.enabledTracks_inForce : (s.inForce f).taken.enabledTracks = s.enabledTracks := by
  have same (t : Nat) (ht : t < 32) : (s.inForce f).taken.fld Fld.TRK_TRAIN_CTL_EN t = s.fld Fld.TRK_TRAIN_CTL_EN t := by
    have key : Fld.TRK_TRAIN_CTL_EN.key t 0 = 64 * (0x10500 + 0x800 * t) := by
      simp only [Field.key, Field.addr, Fld.TRK_TRAIN_CTL_EN, Blk.base, Blk.span]
      omega
    have low : Fld.TRK_TRAIN_CTL_EN.key t 0 < 64 * Blk.base .bwr := by
      rw [key, Blk.base]
      omega
    have high : 64 * Blk.base .tt ≤ Fld.TRK_TRAIN_CTL_EN.key t 0 := by
      rw [key, Blk.base]
      omega
    have away {g : Field} (hg : g.key 0 0 < 64 * Blk.base .tt) : Fld.TRK_TRAIN_CTL_EN.key t 0 ≠ g.key 0 0 := by omega
    rw [State.fld_taken, State.fld_inForce_ne f (away (by decide)) (away (by decide)) (away (by decide)) (away (by decide)) (away (by decide)),
      State.fld_refillAll_of_below low, State.fld_present_of_below low high]
  unfold State.enabledTracks State.flag
  refine List.filter_congr fun t ht => ?_
  rw [same t (List.mem_range.mp ht)]

/-- A start all of whose enabled tracks train already starts no other, and commits nothing where it retired nothing. -/
theorem State.widen_of_started (kept : s.start.retired = false) (started : ∀ u ∈ s.enabledTracks, u ∈ s.start.tracksGo) :
    s.widen f = (s.inForce f).taken := by
  have go : (s.inForce f).taken.start.tracksGo = s.start.tracksGo := by rw [State.start_taken, State.start_inForce]
  have retired : (s.inForce f).taken.start.retired = false := by rw [State.start_taken, State.start_inForce, kept]
  have others : (s.inForce f).taken.startOthers = (s.inForce f).taken := by
    have none : ((s.inForce f).taken.enabledTracks.filter fun t => !(s.inForce f).taken.start.tracksGo.contains t &&
        (s.inForce f).taken.linkIs t .disabled) = [] := by
      rw [State.enabledTracks_inForce, go]
      exact List.filter_eq_nil_iff.mpr fun t ht => by simp [started t ht]
    rw [State.startOthers, none, List.foldl_nil]
  rw [State.widen_eq, others, retired]
  rfl

end

/-- Settles O13: a stage in its turn does what it is written to do, and the tracks told of the widening change nothing else. -/
theorem startStagesChannelsAndWidening : Obligations.StartStagesChannelsAndWidening := by
  unfold Obligations.StartStagesChannelsAndWidening
  refine ⟨fun s stage begun => ?_, fun s stage begun exited => ?_, fun c s stage begun mem waits => ?_, fun s stage first ready go => ?_,
    fun s f stage eff due waits => ?_, fun s f stage eff due answered kept started => ?_, fun s f eff early => ?_⟩
  · exact ⟨_, (execStageB6Channels_of_stage stage).trans (by rw [if_pos begun]), State.start_beginB6⟩
  · have all : (s.startChans.all fun c => (s.chan c).exited) = true := List.all_eq_true.mpr exited
    exact ⟨({ s with start := { s.start with b6 := true } } : State).toStage 7, (execStageB6Channels_of_stage stage).trans
      (by rw [if_neg (by simp [begun]), if_pos all]), rfl, State.fld_toStage 7,
      fun f i j h => State.fld_toStage_ne h 7⟩
  · have some : ¬ (s.startChans.all fun c => (s.chan c).exited) = true := fun all => by simp [List.all_eq_true.mp all c mem] at waits
    exact (execStageB6Channels_of_stage stage).trans (by rw [if_neg (by simp [begun]), if_neg some])
  · exact ⟨_, execStageB7Widening_of_stage stage first ready go, State.start_announce _, State.fld_announce_pending _, State.fld_announce_tries _⟩
  · obtain ⟨u, hu, silent⟩ := waits
    have some : ¬ (s.readyTracks.all fun t => (s.trk t).trn.capAnswered) = true := fun all => by simp [List.all_eq_true.mp all u hu] at silent
    exact ⟨_, (execWidenEffectiveTick_of_due stage eff due).trans (by rw [if_neg some]), State.start_announce _, State.fld_announce_pending _⟩
  · have all : (s.readyTracks.all fun t => (s.trk t).trn.capAnswered) = true := List.all_eq_true.mpr answered
    refine ⟨_, (execWidenEffectiveTick_of_due stage eff due).trans (by rw [if_pos all, State.widen_of_started f kept started]), ?_⟩
    simp only [State.start_taken, State.start_inForce, State.flag, State.inState, State.fld_taken, State.fld_inForce_ready, State.fld_inForce_state,
      State.fld_inForce_phase, State.fld_inForce_pending, State.fld_inForce_boot, State.fld_inForce_count, State.fld_inForce_wagons]
    decide
  · exact execWidenEffectiveTick_of_early eff early

end Sys2Proof.Machine
end

section
/-! PROOFS. What raising a source and the flash controller leave of a register, and the parts of self-test. -/
namespace Sys2Proof.Machine

/-! ### The registers that the signal box and the flash controller write (R404, R481, R485) -/

/-- The field's lowest bit is another than those at which NVM.STATUS shows SFDP_OK and IMAGE_OK. -/
abbrev Field.Elsewhere (f : Field) : Prop := f.lo < 64 ∧ f.lo ≠ 22 ∧ f.lo ≠ 23

/-- A field of the signal box or the flash controller, but for SFDP_OK and IMAGE_OK. -/
def Field.Notes (f : Field) : Prop := (f.blk = .flt ∨ f.blk = .nvm) ∧ f.Elsewhere

/-- A property of a state in which the signal box, the flash controller and the fields they write have no part. The two bits that show the image are no such fields, which `OutsideSignals` does not tell apart. -/
structure OutsideNotes (P : State → Prop) : Prop where
  box (s : State) (b : Box) : P s → P { s with box := b }
  nvm (s : State) (n : Nvm) : P s → P { s with nvm := n }
  reg (s : State) (f : Field) (v i j : Nat) : f.Notes → P s → P (s.setFld f v i j)

namespace OutsideNotes

variable {P : State → Prop} {s : State} (hP : OutsideNotes P)
include hP

theorem bump (h : P s) {f : Field} (hf : f.Notes) (i j n : Nat) : P (s.bump f i j n) :=
  iteInduction (fun _ => h) fun _ => hP.reg _ _ _ _ _ hf h

theorem writeCap (h : P s) (k : Nat) (src : Src) (esc : Bool) (x : FaultInfo) : P (s.writeCap k src esc x) := by
  unfold State.writeCap State.setFlag
  repeat' refine hP.reg _ _ _ _ _ ⟨.inl rfl, by decide⟩ ?_
  exact h

theorem capture (h : P s) (k : Nat) (src : Src) (esc : Bool) (x : FaultInfo) : P (s.capture k src esc x) := by
  have counted : P (s.bump Fld.FLT_CAP_OVERFLOW_COUNT 0 k) := hP.bump h ⟨.inl rfl, by decide⟩ ..
  exact iteInduction (fun _ => hP.writeCap (hP.box _ _ h) ..)
    fun _ => iteInduction (fun _ => hP.writeCap (hP.box _ _ counted) ..) fun _ => counted

theorem queueBulletin (h : P s) (src : Src) (urgent : Bool) (r : BulRec) : P (s.queueBulletin src urgent r) := by
  have urgents : P (s.queueUrgent r) := iteInduction (fun _ => hP.box _ _ h)
    fun _ => iteInduction (fun _ => hP.bump h ⟨.inl rfl, by decide⟩ ..) fun _ => hP.box _ _ h
  have queued : P (s.enqueueMask r) := iteInduction (fun _ => hP.bump h ⟨.inl rfl, by decide⟩ ..) fun _ => hP.box _ _ h
  have masked : P (s.queueMask r) := iteInduction (fun _ => hP.box _ _ h) fun _ => iteInduction (fun _ => hP.box _ _ h) fun _ => queued
  exact iteInduction (fun _ => urgents) fun _ => iteInduction (fun _ => masked) fun _ => h

/-- A source that names no block resets none (R395). -/
theorem raiseCore {src : Src} (hb : src.row.block = .none) (h : P s) (i : Nat) (x : FaultInfo) : P (s.raiseCore src i x) := by
  have reacted {u : State} (hu : P u) : P (u.reactBrs src i) := by
    unfold State.reactBrs State.blockReset
    rw [hb]
    exact iteInduction (fun _ => iteInduction (fun _ => hP.box _ _ hu) fun _ => hP.box _ _ hu) fun _ => hu
  have told {u : State} (e b : Bool) (r : BulRec) (hu : P u) :
      P (State.reactCrs (if e = true then u.updErr.queueBulletin src b r else (u.updErr.queueBulletin src b r).reactBrs src i) src) := by
    have queued : P (u.updErr.queueBulletin src b r) := hP.queueBulletin (State.updErr_eq u ▸ hP.box _ _ hu) ..
    exact iteInduction (fun _ => hP.box _ _ (iteInduction (fun _ => queued) fun _ => reacted queued))
      fun _ => iteInduction (fun _ => queued) fun _ => reacted queued
  have counted (k : Nat) (e : Bool) : P (((s.capture k src e x).setPend src.index).bump Fld.FLT_COUNT_COUNT 0 src.index) :=
    hP.bump (hP.reg _ _ _ _ _ ⟨.inl rfl, by decide⟩ (hP.capture h ..)) ⟨.inl rfl, by decide⟩ ..
  exact told _ _ _ (iteInduction (fun _ => hP.box _ _ (counted ..)) fun _ => counted ..)

theorem raise {src : Src} (hb : src.row.block = .none) (h : P s) (i : Nat) (x : FaultInfo) : P (s.raise src i x) := by
  have core := hP.raiseCore hb h i x
  have worn (d : FaultInfo) : P (((s.raiseCore src i x).bump Fld.NVM_CNT_COUNT 0 3).raiseCore .nvmWear 0 d) :=
    hP.raiseCore rfl (hP.bump core ⟨.inr rfl, by decide⟩ ..) 0 d
  exact iteInduction (fun _ => h) fun _ => iteInduction (fun _ => core) fun _ => iteInduction (fun _ => hP.nvm _ _ core) fun _ => worn _

theorem journal (h : P s) (kind arg payload : Nat) : P (s.journal kind arg payload) :=
  iteInduction (fun _ => hP.raise rfl (hP.bump h ⟨.inr rfl, by decide⟩ ..) 0 _) fun _ => hP.nvm _ _ h

theorem noteDeferred (h : P s) : P s.noteDeferred := by
  refine List.foldlRecOn (motive := P) s.nvm.ops _ h fun u hu o _ => ?_
  split
  · exact iteInduction (fun _ => hu) fun _ => hP.raise rfl (hP.bump (hP.nvm _ _ hu) ⟨.inr rfl, by decide⟩ ..) 0 _
  · exact hu

theorem charge (h : P s) (o : NvmOp) : P (s.charge o).1 := by
  unfold State.charge
  split
  · exact hP.journal (hP.reg _ _ _ _ _ ⟨.inr rfl, by decide⟩ h) ..
  · exact h

theorem nvmKick (h : P s) : P s.nvmKick := by
  refine iteInduction (fun _ => h) fun _ => ?_
  dsimp only
  split
  · exact hP.noteDeferred h
  · exact hP.nvm _ _ (hP.charge (hP.nvm _ _ (hP.noteDeferred h)) _)

theorem nvmAdd (h : P s) (o : NvmOp) : P (s.nvmAdd o) := hP.nvmKick (hP.nvm _ _ h)

theorem writeSeal (h : P s) (state : Nat) : P (s.writeSeal state) := hP.nvmAdd h _

theorem commitRep (h : P s) : P s.commitRep :=
  iteInduction (fun _ => h) fun _ => iteInduction (fun _ => hP.raise rfl h 0 _) fun _ => hP.nvmAdd h _

end OutsideNotes

/-! ### The fields of BST through what a test does outside its block -/

section
variable {s : State} {e : Field}

/-- The fields of BST 0 lie above the blocks of the channels and the stack and below those of the signal box, the supply and the flash. -/
def Field.OfBst (e : Field) : Prop := 64 * Blk.base .bst ≤ e.key 0 0 ∧ e.key 0 0 < 64 * Blk.base .flt

theorem Field.key_ge (g : Field) (i j : Nat) : 64 * g.blk.base ≤ g.key i j := by
  simp only [Field.key, Field.addr]
  omega

theorem Field.OfBst.outsideNotes (he : e.OfBst) (v : Nat) : OutsideNotes fun t => t.fld e = v := by
  refine ⟨fun _ _ h => h, fun _ _ h => h, fun t g w i j hg h => ?_⟩
  have above : 64 * Blk.base .flt ≤ g.key i j := by
    have ge := g.key_ge i j
    rcases hg.1 with hb | hb
    · rwa [hb] at ge
    · rw [hb] at ge
      exact le_trans (by decide) ge
  exact (State.fld_setFld_ne t w (ne_of_lt (lt_of_lt_of_le he.2 above))).trans h

theorem Field.OfBst.setDomain (he : e.OfBst) (n : Nat) (on : Bool) (s : State) : (s.setDomain n on).fld e = s.fld e := by
  have ge := Fld.PWR_DOMAIN_ON_ON.key_ge 0 (n / 32)
  exact State.fld_setFld_ne s _ (ne_of_lt (lt_of_lt_of_le he.2 (le_trans (by decide) ge)))

theorem Field.OfBst.powerEngines (he : e.OfBst) (on : Bool) (s : State) : (s.powerEngines on).fld e = s.fld e :=
  State.upTo_keeps (·.fld e) (fun k u => State.ite_keeps (·.fld e) (he.setDomain (9 + k) on u) rfl) 66 s

/-- A field of one of the channels 0 to 63. -/
theorem Field.OfBst.setChn (he : e.OfBst) {g : Field} (hg : g.blk = .chn ∧ g.off < 0x400 ∧ g.jstr = 0 ∧ g.lo < 64) {c : Nat} (hc : c < 64)
    (v : Nat) (s : State) : (s.setFld g v c).fld e = s.fld e := by
  obtain ⟨blk, off, stride, lo⟩ := hg
  have below : g.key c 0 < 64 * Blk.base .bst := by
    simp only [Field.key, Field.addr, blk, stride, Blk.base, Blk.span]
    omega
  exact State.fld_setFld_ne s v (ne_of_gt (lt_of_lt_of_le below he.1))

theorem mem_testedChans_lt {c : Nat} (h : c ∈ s.testedChans) : c < 64 := by
  obtain ⟨l, hl, hc⟩ := List.mem_flatMap.mp h
  obtain ⟨i, hi, rfl⟩ := List.mem_map.mp hc
  have layer := List.mem_range.mp (List.mem_filter.mp hl).1
  have number := List.mem_range.mp hi
  omega

theorem Field.OfBst.setTests (he : e.OfBst) (b : Bool) (s : State) {l : List Nat} (hl : ∀ c ∈ l, c < 64) :
    (l.foldl (fun s c => s.setTest c b) s).fld e = s.fld e :=
  List.foldlRecOn (motive := fun t => State.fld t e = s.fld e) l _ rfl fun t ht c hc =>
    (he.setChn (g := Fld.CHN_STATUS_TEST) (by decide) (hl c hc) (b2n b) _).trans ht

theorem Field.OfBst.sendSrx (he : e.OfBst) {c : Nat} (hc : c < 64) (b : Bool) (s : State) : (s.sendSrx c b).fld e = s.fld e := by
  have below : Fld.LAY_CNT_COUNT.key (c / 4) 0 < 64 * Blk.base .bst := by
    simp only [Field.key, Field.addr, Fld.LAY_CNT_COUNT, Blk.base, Blk.span]
    omega
  simp only [State.sendSrx, State.launch, State.launchAt, State.modRef_fld, State.modChan_fld]
  exact State.fld_bump_ne s 1 (ne_of_gt (lt_of_lt_of_le below he.1))

theorem Field.OfBst.beginMarch (he : e.OfBst) (s : State) : s.beginMarch.fld e = s.fld e := by
  have marched (u : State) (c : Nat) : (u.startMarch c).fld e = u.fld e :=
    State.fld_congr ((State.startMarch_frame (n := 0x800) .rfl' (.refl _) c).regs rfl) ..
  refine List.foldlRecOn (motive := fun t => State.fld t e = s.fld e) s.testedChans _ ?_ fun t ht c hc => ?_
  · rw [he.setDomain, he.setDomain, he.setDomain]
  · have begun : ((t.setDomain (9 + t.fld Fld.CHN_CTL_ENGINE c) true).startMarch c).fld e = s.fld e := by rw [marched, he.setDomain, ht]
    dsimp only
    split
    · rw [he.sendSrx (mem_testedChans_lt hc), State.modRef_fld, begun]
    · exact begun

/-! ### The end of the logic BIST (R353, R373, R374) -/

theorem Field.OfBst.addDelta (he : e.OfBst) (x : RepEnt) (remove : Bool) (s : State) : (s.addDelta x remove).fld e = s.fld e := by
  have below : Fld.REP_STORE_PENDING.key 0 0 < 64 * Blk.base .bst := by decide
  have noted (u : State) (v : Nat) : (u.setFld Fld.REP_STORE_PENDING v).fld e = u.fld e :=
    State.fld_setFld_ne u v (ne_of_gt (lt_of_lt_of_le below he.1))
  have listed (u : State) (r : Rep) (k a p : Nat) : (({ u with rep := r } : State).journal k a p).fld e = u.fld e :=
    (he.outsideNotes (u.fld e)).journal (s := { u with rep := r }) rfl k a p
  have journalled (u : State) (d : Delta) : (u.journalDelta d).fld e = u.fld e := listed ..
  unfold State.addDelta
  dsimp only
  split
  · rw [noted]
    rfl
  · rw [journalled, noted]
    rfl

theorem Field.OfBst.repSet (he : e.OfBst) (x : RepEnt) (s : State) : (s.repSet x).fld e = s.fld e := (he.addDelta x false _).trans rfl

theorem Field.OfBst.engineBad (he : e.OfBst) (k : Nat) (s : State) : (s.engineBad k).fld e = s.fld e := by
  unfold State.engineBad
  split
  · rfl
  next c found =>
    have hc : c < 64 := List.mem_range.mp (List.mem_of_find?_eq_some found)
    dsimp only
    split
    · rw [he.repSet, he.setChn (by decide) hc]
      rfl
    · rw [he.repSet, he.setChn (by decide) hc]
      rfl

theorem Field.OfBst.logicFail (he : e.OfBst) (hf : e.key 0 0 ≠ Fld.BST_FAILS_LOGIC_FAIL.key 0 0) (i : Nat) (s : State) :
    (s.logicFail i).fld e = s.fld e := by
  have told : ((s.bump Fld.BST_FAILS_LOGIC_FAIL).raise .bstLogicFail 0 { detail := i, access := 7 }).fld e = s.fld e :=
    (he.outsideNotes _).raise rfl (State.fld_bump_ne s 1 hf) 0 _
  exact State.ite_keeps (·.fld e) ((he.engineBad i _).trans told) told

theorem State.fld_setVmap (v : VMap) (e : Field) (i j : Nat) : ({ s with vmap := v } : State).fld e i j = s.fld e i j := rfl

/-- The steps of the logic BIST are counted whatever its blocks answer. -/
theorem State.steps_logicEnd (misr : List (BitVec 32)) : (s.logicEnd misr).fld Fld.BST_STEPS_VALUE =
    (s.fld Fld.BST_STEPS_VALUE + 105) % 2 ^ Fld.BST_STEPS_VALUE.width := by
  have steps : Fld.BST_STEPS_VALUE.OfBst := ⟨by decide, by decide⟩
  have blocks (u : State) : (u.upTo 105 fun i s => if misr.getD i 0 = Config.romMisr i then s else s.logicFail i).fld Fld.BST_STEPS_VALUE =
      u.fld Fld.BST_STEPS_VALUE :=
    State.upTo_keeps (·.fld Fld.BST_STEPS_VALUE) (fun i u => State.ite_keeps (·.fld Fld.BST_STEPS_VALUE) rfl (steps.logicFail (by decide) i u)) 105 u
  have powered (v : VMap) : ({ s.powerEngines false with vmap := v } : State).fld Fld.BST_STEPS_VALUE = s.fld Fld.BST_STEPS_VALUE :=
    (State.fld_setVmap ..).trans (steps.powerEngines false s)
  unfold State.logicEnd
  dsimp only
  rw [blocks, State.fld_setFld_ne _ _ (by decide), State.fld_setFld_ne _ _ (by decide), State.addSteps, State.fld_setFld_same, powered]

theorem State.mem_logicEnd (misr : List (BitVec 32)) : (s.logicEnd misr).vmap.mem = [] := by
  have blocks (u : State) : (u.upTo 105 fun i s => if misr.getD i 0 = Config.romMisr i then s else s.logicFail i).vmap = u.vmap :=
    State.upTo_keeps (·.vmap) (fun i u => State.ite_keeps (·.vmap) rfl ((State.logicFail_frame (n := 0x83784a) .rfl' (.refl _) i).vmap rfl)) 105 u
  unfold State.logicEnd
  dsimp only
  rw [blocks]
  simp only [State.setFld_vmap, State.addSteps]

end

end Sys2Proof.Machine
end

section
/-! PROOFS. The parts of the shutdown and start-up test, its retry, and the phases of vertical training. -/
namespace Sys2Proof.Machine

variable {s : State}

/-! ### The parts of the test (R367 to R374) -/

section
variable {x : PartEnd} (runs : s.bst.kind ≠ 0) (begun : s.bst.begun = true)
include runs begun

/-- A test that runs is not passed over. -/
theorem State.testRuns : ¬ (s.bst.kind = 0 ∨ ¬ s.bst.begun = true) := by simp [runs, begun]

theorem execBstPartComplete_of_sweep (phase : s.fld Fld.BST_STATUS_PHASE = 1) : execBstPartComplete x s =
    .next (if s.vmap.clear = true then s else s.setFld Fld.BST_STATUS_PHASE 2) := by
  unfold execBstPartComplete
  rw [if_neg (State.testRuns runs begun), phase]
  rfl

theorem execBstPartComplete_of_loop (phase : s.fld Fld.BST_STATUS_PHASE = 2) : execBstPartComplete x s = .next (
    if x.unreachable = true then ((x.loop.filter s.loopFails).foldl (fun s e => s.loopFail e.b e.col) (s.addSteps (4 * s.bst.layers))).abortTest 6
    else (((x.loop.filter s.loopFails).foldl (fun s e => s.loopFail e.b e.col) (s.addSteps (4 * s.bst.layers))).setFld
      Fld.BST_STATUS_PHASE 3).beginMarch) := by
  unfold execBstPartComplete
  rw [if_neg (State.testRuns runs begun), phase]
  rfl

theorem execBstPartComplete_of_march (phase : s.fld Fld.BST_STATUS_PHASE = 3) : execBstPartComplete x s = .next (
    if (s.testedChans.all fun c => (s.chan c).march.isEmpty) = true then s.setFld Fld.BST_STATUS_PHASE 4 else s) := by
  unfold execBstPartComplete
  rw [if_neg (State.testRuns runs begun), phase]
  rfl

theorem execBstPartComplete_of_sleep (phase : s.fld Fld.BST_STATUS_PHASE = 4) : execBstPartComplete x s = .next (
    if (s.testedChans.all fun c => s.flag Fld.CHN_REF_STATE_SR c || s.bst.awake.contains c) = true then
      (s.powerEngines true).setFld Fld.BST_STATUS_PHASE 5 else s) := by
  unfold execBstPartComplete
  rw [if_neg (State.testRuns runs begun), phase]
  rfl

theorem execBstPartComplete_of_logic (phase : s.fld Fld.BST_STATUS_PHASE = 5) : execBstPartComplete x s =
    .next (((s.logicEnd x.misr).setFld Fld.BST_STATUS_PHASE 6).commitRep) := by
  unfold execBstPartComplete
  rw [if_neg (State.testRuns runs begun), phase]
  rfl

theorem execBstPartComplete_of_commit (phase : s.fld Fld.BST_STATUS_PHASE = 6) : execBstPartComplete x s = .next (
    if s.nvmHas .rep = true then s else if s.rep.deltas.isEmpty = true then
      (s.testedChans.foldl (fun s c => s.setTest c false) (s.setFld Fld.BST_STATUS_PHASE 7)).writeSeal 2 else s.commitRep) := by
  unfold execBstPartComplete
  rw [if_neg (State.testRuns runs begun), phase]
  rfl

end

theorem State.fld_loopEnded (n : Nat) : ((s.addSteps n).setFld Fld.BST_STATUS_PHASE 3).fld Fld.BST_STEPS_VALUE =
    (s.fld Fld.BST_STEPS_VALUE + n) % 2 ^ Fld.BST_STEPS_VALUE.width := by
  rw [State.fld_setFld_ne _ _ (by decide), State.addSteps, State.fld_setFld_same]

theorem Field.ofBst_phase : Fld.BST_STATUS_PHASE.OfBst := ⟨by decide, by decide⟩

theorem Field.ofBst_steps : Fld.BST_STEPS_VALUE.OfBst := ⟨by decide, by decide⟩

theorem State.vmap_commitRep : s.commitRep.vmap = s.vmap := (State.commitRep_frame (n := 0x82784a) .rfl' (.refl _)).vmap rfl

/-- What the end of the logic BIST found is still so once the commit of it has been asked for. -/
theorem State.logicEnded {x : PartEnd} : ((s.logicEnd x.misr).setFld Fld.BST_STATUS_PHASE 6).commitRep.fld Fld.BST_STATUS_PHASE = 6 ∧
    ((s.logicEnd x.misr).setFld Fld.BST_STATUS_PHASE 6).commitRep.vmap.mem = [] ∧
    ((s.logicEnd x.misr).setFld Fld.BST_STATUS_PHASE 6).commitRep.fld Fld.BST_STEPS_VALUE =
      (s.fld Fld.BST_STEPS_VALUE + 105) % 2 ^ Fld.BST_STEPS_VALUE.width := by
  refine ⟨(Field.ofBst_phase.outsideNotes 6).commitRep (State.fld_setFld_same ..), ?_, ?_⟩
  · rw [State.vmap_commitRep, State.setFld_vmap, State.mem_logicEnd]
  · refine (Field.ofBst_steps.outsideNotes _).commitRep ?_
    rw [State.fld_setFld_ne _ _ (by decide), State.steps_logicEnd]

/-- The retry in the state in which it is noted. -/
def State.retry (s : State) : State := { s with bst := { s.bst with waiting := false, retried := true } }

theorem execStartupTestRetry_of_waiting (waits : s.bst.waiting = true) : execStartupTestRetry true true s = .next (s.retry.startTest 2 true true) :=
  congrArg Host.Outcome.next (if_pos waits)

/-! ### The phases of vertical training (R280) -/

section
variable {x : VPhase} {j : VTrain} {rest : List VTrain}

/-- Outside a test, a phase just ends (R376). -/
theorem State.checkReach_of_idle (h : s.bst.kind = 0) : s.checkReach = s := if_pos (.inl h)

theorem execVtrainPhaseComplete_of_idle (trains : s.vert.trains = j :: rest) (idle : (s.endPhase x).bst.kind = 0) :
    execVtrainPhaseComplete x s = .next (s.endPhase x) := by
  have some : ¬ (s.vert.trains.isEmpty = true) := by simp [trains]
  rw [execVtrainPhaseComplete, if_neg some, State.checkReach_of_idle idle]

/-- The spine of a segment none of whose sites is dead stands as it is. -/
theorem State.spineReady_of_sound {seg : Nat} (sound : s.deadSites seg = []) : s.spineReady seg = s := by
  have stays (k : Nat) : (if (s.deadSites seg).contains (bits (s.siteWord seg) (3 * k + 2) (3 * k)) then (s.moveSite seg k).1 else s) = s := by
    rw [sound]
    rfl
  unfold State.spineReady
  exact List.foldlRecOn (motive := fun t => t = s) (List.range 4) _ rfl fun t ht k _ => by rw [ht]; exact stays k

/-- The state in which the drivers of the base die's spine are on. -/
def State.driven (s : State) (seg : Nat) : State := if seg = 0 then s.setFld Fld.VLQ_SPINE_DRIVE 1 else s

theorem State.driven_rep (seg : Nat) : (s.driven seg).rep = s.rep := State.ite_keeps (·.rep) rfl rfl

theorem State.driven_vert (seg : Nat) : (s.driven seg).vert = s.vert := State.ite_keeps (·.vert) rfl rfl

theorem State.driven_bst (seg : Nat) : (s.driven seg).bst = s.bst := State.ite_keeps (·.bst) rfl rfl

theorem State.siteWord_driven (seg k : Nat) : (s.driven seg).siteWord k = s.siteWord k := by
  have drive : (s.driven seg).fld Fld.VLQ_SPINE_SITES = s.fld Fld.VLQ_SPINE_SITES :=
    State.ite_keeps (·.fld Fld.VLQ_SPINE_SITES) (State.fld_setFld_ne s 1 (by decide)) rfl
  rw [State.siteWord, drive, State.driven_vert, State.siteWord]

theorem State.spinePhase_of_sound {seg : Nat} (sound : s.deadSites seg = []) (word : s.siteWord seg = 0x688) :
    s.spinePhase seg [] = (s.driven seg, true) := by
  have still : (s.driven seg).deadSites seg = [] := by rw [State.deadSites, State.driven_rep]; exact sound
  have ready := State.spineReady_of_sound still
  have placed := (State.siteWord_driven seg seg).trans word
  unfold State.driven at *
  simp only [State.spinePhase, List.foldl_nil]
  rw [ready]
  exact if_pos placed

/-- The training in progress goes on as k. -/
def State.goOn (s : State) (k : VTrain) : State := { s with vert := { s.vert with trains := k :: s.vert.trains.drop 1 } }

theorem State.endPhase_of_spine (trains : s.vert.trains = j :: rest) (phase : j.phase = 1) (spine : x.spine = true) (still : x.moves = [])
    (sound : s.deadSites j.seg = []) (word : s.siteWord j.seg = 0x688) : s.endPhase x = (s.driven j.seg).goOn { j with phase := 2 } := by
  unfold State.endPhase
  rw [trains]
  dsimp only
  rw [phase, still, State.spinePhase_of_sound sound word]
  dsimp only
  rw [if_pos ⟨spine, rfl⟩]
  rfl

theorem State.endPhase_of_columns (trains : s.vert.trains = j :: rest) (phase : j.phase = 3 ∨ (j.phase = 4 ∧ j.cold = false)) (cols : x.cols = []) :
    s.endPhase x = s.goOn { j with phase := j.phase + 1 } := by
  unfold State.endPhase
  rw [trains]
  dsimp only
  rcases phase with phase | ⟨phase, warm⟩
  · rw [phase, cols]
    rfl
  · rw [phase, cols]
    show State.goOn (if j.cold = true then _ else s) _ = _
    rw [if_neg (by simp [warm])]
    rfl

theorem State.endPhase_of_relay (trains : s.vert.trains = j :: rest) (phase : j.phase = 5) (lats : x.lats = []) (more : j.seg < j.last)
    (relay : s.relays j.seg = true) : s.endPhase x = s.goOn { j with seg := j.seg + 1, phase := if j.known then 3 else 1 } := by
  unfold State.endPhase
  rw [trains]
  dsimp only
  rw [phase, lats]
  exact if_pos ⟨more, relay⟩

end

/-- Settles O15: each part of the test and each phase of training is the branch its number names; what follows a noted field keeps it. -/
theorem selfTestParts : Obligations.SelfTestParts := by
  unfold Obligations.SelfTestParts
  refine ⟨fun x s runs begun phase clear => ?_, fun x s runs begun phase clear => ?_, fun x s runs begun phase loop reach => ?_,
    fun x s runs begun phase ended => ?_, fun x c s runs begun phase mem march => ?_, fun x s runs begun phase asleep => ?_,
    fun x s runs begun phase => ?_, fun x s runs begun phase quiet none => ?_, fun s waits => ?_,
    fun x s j rest idle trains phase spine moves sound word => ?_, fun x s j rest idle trains phase cols => ?_,
    fun x s j rest idle trains phase lats more relay => ?_⟩
  · exact (execBstPartComplete_of_sweep runs begun phase).trans (congrArg Host.Outcome.next (if_neg (by simp [clear])))
  · exact (execBstPartComplete_of_sweep runs begun phase).trans (congrArg Host.Outcome.next (if_pos clear))
  · refine ⟨((s.addSteps (4 * s.bst.layers)).setFld Fld.BST_STATUS_PHASE 3).beginMarch, ?_, ?_, ?_⟩
    · refine (execBstPartComplete_of_loop runs begun phase).trans (congrArg Host.Outcome.next ?_)
      rw [if_neg (by simp [reach]), loop]
      rfl
    · rw [Field.ofBst_phase.beginMarch, State.fld_setFld_same]
      rfl
    · rw [Field.ofBst_steps.beginMarch, State.fld_loopEnded]
  · exact (execBstPartComplete_of_march runs begun phase).trans (congrArg Host.Outcome.next (if_pos (by simpa using ended)))
  · have marches : ¬ (s.testedChans.all fun c => (s.chan c).march.isEmpty) = true := fun all => march (by simpa using List.all_eq_true.mp all c mem)
    exact (execBstPartComplete_of_march runs begun phase).trans (congrArg Host.Outcome.next (if_neg marches))
  · refine ⟨(s.powerEngines true).setFld Fld.BST_STATUS_PHASE 5, ?_, State.fld_setFld_same .., ?_, ?_⟩
    · exact (execBstPartComplete_of_sleep runs begun phase).trans (congrArg Host.Outcome.next (if_pos (by simpa using asleep)))
    · rw [State.setFld_chans, (State.powerEngines_frame (n := 0x2) .rfl' (.refl _) true).chans rfl]
    · rw [State.setFld_bst, (State.powerEngines_frame (n := 0x2) .rfl' (.refl _) true).bst rfl]
  · exact ⟨_, execBstPartComplete_of_logic runs begun phase, State.logicEnded⟩
  · refine ⟨(s.testedChans.foldl (fun s c => s.setTest c false) (s.setFld Fld.BST_STATUS_PHASE 7)).writeSeal 2, ?_, ?_, State.writeSeal_has _ 2⟩
    · refine (execBstPartComplete_of_commit runs begun phase).trans (congrArg Host.Outcome.next ?_)
      rw [if_neg (by simp [quiet]), if_pos (by simp [none])]
    · refine (Field.ofBst_phase.outsideNotes 7).writeSeal ?_ 2
      rw [Field.ofBst_phase.setTests false _ fun c => mem_testedChans_lt, State.fld_setFld_same]
      rfl
  · obtain ⟨kind, waiting, retried, has⟩ := State.startTest_runs (s := s.retry) 2
    exact ⟨s.retry.startTest 2 true true, execStartupTestRetry_of_waiting waits, retried.trans rfl, kind, waiting, has⟩
  · have ended := State.endPhase_of_spine trains phase spine moves sound word
    have still : (s.endPhase x).bst.kind = 0 := by
      rw [ended, State.goOn, State.driven_bst]
      exact idle
    refine ⟨_, execVtrainPhaseComplete_of_idle trains still, ?_⟩
    rw [ended, State.goOn, State.driven_vert, trains]
    rfl
  · have ended := State.endPhase_of_columns (x := x) trains phase cols
    refine (execVtrainPhaseComplete_of_idle trains (by rw [ended]; exact idle)).trans ?_
    rw [ended, State.goOn, trains]
    rfl
  · have ended := State.endPhase_of_relay (x := x) trains phase lats more relay
    refine (execVtrainPhaseComplete_of_idle trains (by rw [ended]; exact idle)).trans ?_
    rw [ended, State.goOn, trains]
    rfl

end Sys2Proof.Machine
end

section
/-! PROOFS. The first stages of a start: the service domain, the image and the device's own stores (B0 and B1). -/
namespace Sys2Proof.Machine

variable {s : State}

theorem execStageB0Service_of_stage (h : s.atStage 0 = true) (good : s.pins.refclk = true) :
    execStageB0Service s = .next (({ s with cc := 0, start := { s.start with b0 := true } } : State).toStage 1) := by
  simp [execStageB0Service, h, good]

theorem execStageB0Service_of_not (h : s.atStage 0 = false ∨ s.pins.refclk = false) : execStageB0Service s = .next s := by
  rcases h with h | h <;> simp [execStageB0Service, h]

/-! ### What the image and the stores write (R473, R475, R487): no bit that shows the image -/

/-- A field with the lowest bit of SFDP_OK or IMAGE_OK. -/
def Field.ShowsImage (e : Field) : Prop := e.lo = 22 ∨ e.lo = 23

/-- Of the fields a write list may name none starts at bit 22 or 23 (R474). -/
theorem elsewhere_of_writable (b : Blk) : ∀ f ∈ fieldsOf b, [Access.rw, .rwd, .rwl].contains f.acc = true → f.Elsewhere := by
  cases b <;> decide +kernel

theorem FieldAt.elsewhere {x : FieldAt} {a : Nat} (mem : x ∈ fieldsAt a) (listable : x.listable = true) : x.f.Elsewhere := by
  unfold fieldsAt at mem
  split at mem
  · cases mem
  next b i off _ =>
    obtain ⟨f, hf, named⟩ := List.mem_filterMap.mp mem
    obtain ⟨-, k, -, rfl⟩ := by simpa using named
    exact elsewhere_of_writable b f hf listable

theorem CfgEntry.elsewhere {c : CfgEntry} {ty : Nat} (ok : c.ok ty = true) : ∀ x ∈ c.touches, x.1.f.Elsewhere := by
  intro x hx
  have listable : x.1.listable = true := by
    simp only [CfgEntry.ok, Bool.and_eq_true] at ok
    exact List.all_eq_true.mp ok.2 x hx
  have member : x.1 ∈ (halfAt c.addr).1 := by
    obtain ⟨y, hy, named⟩ := List.mem_filterMap.mp hx
    obtain ⟨-, rfl⟩ := by simpa using named
    exact hy
  unfold halfAt at member
  dsimp only at member
  split at member
  · exact FieldAt.elsewhere (List.mem_filter.mp member).1 listable
  · exact FieldAt.elsewhere member listable

/-- Every record of an image that passes names writable fields only (R474). -/
theorem imageFault_none {rs : List Record} {b : Bool} (h : imageFault rs = (none, b)) :
    ∀ r ∈ inTypeOrder rs, ∀ c ∈ r.entries, ∀ x ∈ c.touches, x.1.f.Elsewhere := by
  intro r hr c hc
  have none := Option.map_eq_none_iff.mp (congrArg Prod.fst h)
  have ok : (((inTypeOrder rs).foldl (fun (s : State) r => s.applyRecord r) State.reset).recordOk r) = true := by
    simpa using List.find?_eq_none.mp none r hr
  simp only [State.recordOk, Bool.and_eq_true] at ok
  obtain ⟨⟨⟨-, entries⟩, -⟩, -⟩ := ok
  exact CfgEntry.elsewhere (List.all_eq_true.mp entries c hc)

/-- What is kept beside the registers has no part in a field. -/
theorem State.fld_setStores (fab : Fabric) (codec : Codec) (vmap : VMap) (rep : Rep) (bst : Bst) (start : Start) (nvm : Nvm) (e : Field) (i j : Nat) :
    ({ s with fab := fab, codec := codec, vmap := vmap, rep := rep, bst := bst, start := start, nvm := nvm } : State).fld e i j = s.fld e i j := rfl

namespace Field.ShowsImage

variable {e : Field} (he : e.ShowsImage)
include he

theorem key_ne {g : Field} (hg : g.Elsewhere) (i j : Nat) : e.key 0 0 ≠ g.key i j := by
  obtain ⟨lo, h22, h23⟩ := hg
  simp only [Field.key]
  rcases he with he | he <;> omega

theorem setFld {g : Field} (hg : g.Elsewhere) (v i j : Nat) (s : State) : (s.setFld g v i j).fld e = s.fld e :=
  State.fld_setFld_ne s v (he.key_ne hg i j)

theorem clrFld {g : Field} (hg : g.Elsewhere) (i j : Nat) (s : State) : (s.clrFld g i j).fld e = s.fld e :=
  State.fld_clrFld_ne s (he.key_ne hg i j)

theorem outsideNotes (v : Nat) : OutsideNotes fun t => t.fld e = v :=
  ⟨fun _ _ h => h, fun _ _ h => h, fun t _ w i j hg h => (he.setFld hg.2 w i j t).trans h⟩

/-- A record that names fields elsewhere only is applied. -/
theorem applyRecord {r : Record} (names : ∀ c ∈ r.entries, ∀ x ∈ c.touches, x.1.f.Elsewhere) (s : State) :
    (s.applyRecord r).fld e = s.fld e := by
  have listed : (r.entries.foldl (fun s c => s.applyEntry c) s).fld e = s.fld e := by
    refine List.foldlRecOn (motive := fun t => State.fld t e = s.fld e) r.entries _ rfl fun t ht c hc => ?_
    exact List.foldlRecOn (motive := fun u => State.fld u e = s.fld e) c.touches _ ht fun u hu x hx => (he.setFld (names c hc x hx) _ _ _ u).trans hu
  unfold State.applyRecord
  dsimp only
  split
  · rw [State.fld_setStores, he.setFld (by decide), listed]
  · split
    · rw [State.fld_setStores, listed]
    · exact listed

/-! The stores (R378, R476, R485, R487). -/

theorem loadCal (x : FlashBoot) (s : State) : (s.loadCal x).fld e = s.fld e := by
  unfold State.loadCal State.setFlag
  dsimp only
  simp (disch := decide) only [he.setFld, State.fld_setStores]

theorem loadSlots (x : FlashBoot) (s : State) : (s.loadSlots x).fld e = s.fld e := by
  unfold State.loadSlots State.setFlag
  dsimp only
  simp (disch := decide) only [he.setFld, State.fld_setStores]

theorem repCopies (x : FlashBoot) (s : State) : (s.repCopies x).1.fld e = s.fld e := by
  unfold State.repCopies State.setFlag
  dsimp only
  simp (disch := decide) only [he.setFld, State.fld_setStores]

theorem loadJrn (x : FlashBoot) (s : State) : (s.loadJrn x).fld e = s.fld e := by
  have credits (l : List (Nat × Nat)) (u : State) : (l.foldl (fun s c => s.setFld Fld.NVM_WEAR_CREDIT c.1 0 c.2) u).fld e = u.fld e := by
    induction l generalizing u with
    | nil => rfl
    | cons c l ih => rw [List.foldl_cons, ih, he.setFld (by decide)]
  unfold State.loadJrn
  split
  · rfl
  · dsimp only
    rw [credits]
    simp (disch := decide) only [he.setFld, State.fld_setStores]

theorem showSeal (y : Seal) (s : State) : (s.showSeal y).fld e = s.fld e := by
  unfold State.showSeal
  simp (disch := decide) only [he.setFld]

theorem loadSeal (x : FlashBoot) (s : State) : (s.loadSeal x).fld e = s.fld e := by
  unfold State.loadSeal
  split
  · rfl
  · dsimp only
    simp (disch := decide) only [he.setFld, he.showSeal, State.fld_setStores]

theorem loadRep (x : FlashBoot) (best : Option Record) (scan : List (List Byte × Nat)) (s : State) : (s.loadRep x best scan).fld e = s.fld e := by
  unfold State.loadRep
  dsimp only
  split
  · refine (he.outsideNotes (s.fld e)).raise rfl ?_ 0 _
    simp (disch := decide) only [he.setFld, State.fld_setStores]
  · simp (disch := decide) only [he.setFld, State.fld_setStores]

theorem loadAge (scan : List (List Byte × Nat)) (s : State) : (s.loadAge scan).fld e = s.fld e := by
  unfold State.loadAge
  split
  · exact he.setFld (by decide) ..
  · rfl

theorem loadHold (x : FlashBoot) (newest : Option (List Byte)) (s : State) : (s.loadHold x newest).fld e = s.fld e := by
  have slot : (match x.started.getLast? with
      | none => s
      | some i => ((s.setFld Fld.PWR_HOLD_LAST (if x.complete i then 1 else 2)).setFlag Fld.PWR_HOLD_TRUNC
          ((x.num (holdSlot i + 0x120) 4).testBit 8)).setFld Fld.PWR_HOLD_CAUSE (x.num (holdSlot i + 0x11C) 4 % 16)).fld e = s.fld e := by
    split
    · rfl
    · simp (disch := decide) only [State.setFlag, he.setFld]
  have lost (u : State) (b : Bool) (hu : u.fld e = s.fld e) : (if b then u.setFld Fld.PWR_HOLD_LAST 3 else u).fld e = s.fld e :=
    State.ite_keeps (·.fld e) ((he.setFld (by decide) ..).trans hu) hu
  exact State.ite_keeps (·.fld e) ((he.setFld (by decide) ..).trans (lost _ _ slot)) (lost _ _ slot)

theorem loadStores (x : FlashBoot) (s : State) : (s.loadStores x).fld e = s.fld e := by
  have copies : (((s.loadCal x).loadSlots x).repCopies x).1.fld e = s.fld e := by rw [he.repCopies, he.loadSlots, he.loadCal]
  have kept (u : State) (hu : u.fld e = s.fld e) : (if u.nvm.ahead then u else u.nvmAdd { kind := .jrnErase, erases := 1 }).fld e = s.fld e :=
    State.ite_keeps (·.fld e) hu ((he.outsideNotes (s.fld e)).nvmAdd hu _)
  unfold State.loadStores
  dsimp only
  refine kept _ ?_
  split
  · exact copies
  · rw [State.fld_setStores, he.loadHold, he.loadAge, he.loadRep, he.loadSeal, he.loadJrn, copies]

/-! What the working copy gives the registers, and the pilot tracks (R353 to R358, R447). -/

theorem showPairs (s : State) : s.showPairs.fld e = s.fld e := by
  refine List.foldlRecOn (motive := fun t => State.fld t e = s.fld e) s.rep.copy _ rfl fun t ht c _ => ?_
  dsimp only
  split
  · exact ht
  · split
    · rw [he.setFld (by decide), he.setFld (by decide), ht]
    · rw [he.setFld (by decide), ht]

theorem applyCopy (s : State) : s.applyCopy.fld e = s.fld e := by
  refine (he.showPairs _).trans (List.foldlRecOn (motive := fun t => State.fld t e = s.fld e) s.rep.copy _ rfl fun t ht c _ => ?_)
  dsimp only
  split
  · rw [he.setFld (by decide), ht]
  · rw [State.fld_setStores, he.setFld (by decide), ht]
  · rw [State.fld_setStores, ht]
  · split
    · exact ht
    · rw [he.setFld (by decide), he.setFld (by decide), ht]
  · exact ht

theorem beginAttempt (t : Nat) (seeded : Bool) (s : State) : (s.beginAttempt t seeded).fld e = s.fld e := by
  have lanes (u : State) : (u.upTo 18 fun p s => ((s.clrFld Fld.TRK_LANE_STATUS_SYM_LOCK t p).clrFld Fld.TRK_LANE_STATUS_BLK_LOCK t p).clrFld
      Fld.TRK_LANE_STATUS_SKEW t p).fld e = u.fld e :=
    State.upTo_keeps (·.fld e) (fun p u => by rw [he.clrFld (by decide), he.clrFld (by decide), he.clrFld (by decide)]) 18 u
  have counted (u : State) : (u.when (!seeded) fun s => s.setFld Fld.TRK_TRAIN_STATUS_ATTEMPT 0 t).fld e = u.fld e :=
    State.ite_keeps (·.fld e) (he.setFld (by decide) ..) rfl
  unfold State.beginAttempt
  dsimp only
  rw [State.modTrk_fld, counted, lanes]
  simp (disch := decide) only [he.setFld]

theorem startPilots (s : State) : s.startPilots.fld e = s.fld e := by
  have trained (l : List Nat) (u : State) : (l.foldl (fun s t => s.startTrack t) u).fld e = u.fld e :=
    State.foldl_keeps (·.fld e) (fun t u => by rw [State.startTrack, he.beginAttempt, State.setDomain, he.setFld (by decide)]) l u
  unfold State.startPilots
  split
  · rfl
  · dsimp only
    rw [trained, State.fld_setStores]

end Field.ShowsImage

/-! ### The image is applied (R219, R475) -/

theorem Field.showsImage_sfdp : Fld.NVM_STATUS_SFDP_OK.ShowsImage := .inl rfl

theorem Field.showsImage_image : Fld.NVM_STATUS_IMAGE_OK.ShowsImage := .inr rfl

section
variable {rs : List Record} {b : Bool}

/-- A BWR record left out is reported; no bit that shows the image changes by it. -/
theorem Field.ShowsImage.leaveOut {e : Field} (he : e.ShowsImage) (b : Bool) (s : State) :
    (if b then (s.setFld Fld.BWR_STATUS_IMAGE_REJECT 1).raise .nvmRecordRefused 0 { detail := 4 } else s).fld e = s.fld e :=
  State.ite_keeps (·.fld e) ((he.outsideNotes (s.fld e)).raise rfl (he.setFld (by decide) 1 0 0 s) 0 _) rfl

theorem State.image_applyImage : (s.applyImage rs b).fld Fld.NVM_STATUS_IMAGE_OK = 1 := by
  unfold State.applyImage
  dsimp only
  rw [Field.showsImage_image.leaveOut, State.fld_setFld_same]
  rfl

theorem State.sfdp_applyImage (sound : imageFault rs = (none, b)) : (s.applyImage rs b).fld Fld.NVM_STATUS_SFDP_OK = s.fld Fld.NVM_STATUS_SFDP_OK := by
  have applied : (((inTypeOrder rs).filter fun r => !(b && r.ty = 4)).foldl (fun s r => s.applyRecord r) s).fld Fld.NVM_STATUS_SFDP_OK =
      s.fld Fld.NVM_STATUS_SFDP_OK :=
    List.foldlRecOn (motive := fun t => State.fld t Fld.NVM_STATUS_SFDP_OK = s.fld Fld.NVM_STATUS_SFDP_OK) _ _ rfl fun t ht r hr =>
      (Field.showsImage_sfdp.applyRecord (imageFault_none sound r (List.mem_filter.mp hr).1) t).trans ht
  unfold State.applyImage
  dsimp only
  rw [Field.showsImage_sfdp.leaveOut, State.fld_setFld_ne _ _ (by decide), State.fld_setStores, applied]

theorem State.locks_applyImage : (s.applyImage rs b).fab.locks = lockKeys ((inTypeOrder rs).filter fun r => !(b && r.ty = 4)) := by
  have told (u : State) : (if b then (u.setFld Fld.BWR_STATUS_IMAGE_REJECT 1).raise .nvmRecordRefused 0 { detail := 4 } else u).fab = u.fab :=
    State.ite_keeps (·.fab) ((State.raise_frame (n := 0x82784a) .rfl' (.refl _) ..).fab rfl) rfl
  unfold State.applyImage
  dsimp only
  rw [told, State.setFld_fab]

/-- The stores are read once, and stay noted as read (R485). -/
theorem State.loaded_loadStores (x : FlashBoot) : (s.loadStores x).nvm.loaded = true := by
  have kept (u : State) (hu : u.nvm.loaded = true) : (if u.nvm.ahead then u else u.nvmAdd { kind := .jrnErase, erases := 1 }).nvm.loaded = true := by
    obtain ⟨_, _, _, _, nvm⟩ := State.nvmAdd_keepsNvm u { kind := .jrnErase, erases := 1 }
    exact State.ite_keeps (·.nvm.loaded) hu (by rw [nvm]; exact hu)
  unfold State.loadStores
  dsimp only
  refine kept _ ?_
  split
  · assumption
  · rfl

/-! ### B1 as a whole (R445, R469, R474) -/

/-- The flash has answered as the device needs it. -/
def State.flashSeen (s : State) (x : FlashBoot) : State :=
  (((s.setFld Fld.NVM_STATUS_SFDP_OK 1).setFld Fld.NVM_FLASH_REV (x.rev % 256)).setFld Fld.NVM_FLASH_DUMMY x.dummy).setFld
    Fld.NVM_FLASH_DENSITY x.density

/-- The image and the stores are in force. -/
def State.imaged (s : State) (x : FlashBoot) (rs : List Record) (b : Bool) : State :=
  ((((if b then (s.flashSeen x).setFld Fld.NVM_STATUS_FAIL_TYPE 4 else s.flashSeen x).applyImage rs b).loadStores x).applyCopy).avsStart .readV

/-- The start is slow where a check of the seal fails already; else the pilot tracks train (R444). -/
def State.hastened (s : State) (slow : Bool) : State :=
  if slow then { s with start := { s.start with slow := slow } } else ({ s with start := { s.start with slow := slow } } : State).startPilots

variable {x : FlashBoot}

theorem execStageB1Image_stops (h : s.atStage 1 = true)
    (bad : x.sfdpOk = false ∨ (∃ ty, x.image = .error ty) ∨ ∃ rs, x.image = .ok rs ∧ (imageFault rs).1.isSome = true) :
    ∃ u : State, execStageB1Image x s = .next u.stopStart := by
  cases sfdp : x.sfdpOk
  case false => exact ⟨s.raise .nvmSfdp, by simp [execStageB1Image, h, sfdp]⟩
  case true =>
    rcases bad with no | ⟨ty, image⟩ | ⟨rs, image, refused⟩
    · simp [sfdp] at no
    · exact ⟨_, by simp only [execStageB1Image, h, sfdp, image, not_true_eq_false, if_false]; rfl⟩
    · obtain ⟨ty, fault⟩ := Option.isSome_iff_exists.mp refused
      have pair : imageFault rs = (some ty, (imageFault rs).2) := by rw [← fault]
      exact ⟨_, by simp only [execStageB1Image, h, sfdp, image, not_true_eq_false, if_false]; rw [pair]⟩

theorem execStageB1Image_passes (h : s.atStage 1 = true) (sfdp : x.sfdpOk = true) (image : x.image = .ok rs) (sound : imageFault rs = (none, b)) :
    ∃ slow, execStageB1Image x s = .next (((s.imaged x rs b).hastened slow).toStage 2) := by
  refine ⟨!(s.imaged x rs b).start.warm && (s.imaged x rs b).slowReason none != 0, ?_⟩
  simp only [execStageB1Image, h, sfdp, image, sound, not_true_eq_false, if_false]
  rfl

theorem State.flashSeen_sfdp : (s.flashSeen x).fld Fld.NVM_STATUS_SFDP_OK = 1 := by
  rw [State.flashSeen, State.fld_setFld_ne _ _ (by decide), State.fld_setFld_ne _ _ (by decide), State.fld_setFld_ne _ _ (by decide),
    State.fld_setFld_same]
  rfl

theorem Field.ShowsImage.hastened {e : Field} (he : e.ShowsImage) (slow : Bool) (s : State) : (s.hastened slow).fld e = s.fld e := by
  unfold State.hastened
  split
  · exact State.fld_setStores ..
  · exact (he.startPilots _).trans (State.fld_setStores ..)

theorem Field.ShowsImage.imaged {e : Field} (he : e.ShowsImage) : (s.imaged x rs b).fld e =
    ((if b then (s.flashSeen x).setFld Fld.NVM_STATUS_FAIL_TYPE 4 else s.flashSeen x).applyImage rs b).fld e := by
  have started (u : State) : (u.avsStart .readV).fld e = u.fld e :=
    State.fld_congr ((State.avsStart_frame (n := 0x80000) .rfl' (.refl _) _).regs rfl) ..
  rw [State.imaged, started, he.applyCopy, he.loadStores]

/-- What B1 has found stays so once the next stage begins. -/
theorem State.hastened_keeps {β : Type} (view : State → β) (hv : ∀ (u o : State), u.Frame 0x200022 o → view u = view o) (slow : Bool) :
    view (s.hastened slow) = view s := by
  refine hv _ _ ?_
  have noted : ({ s with start := { s.start with slow := slow } } : State).Frame 0x200022 s := .set_start .rfl' rfl
  exact .ite noted (State.startPilots_frame noted (.refl _))

theorem State.nvm_imaged : (s.imaged x rs b).nvm.loaded = true := by
  have started (u : State) : (u.applyCopy.avsStart .readV).nvm = u.nvm :=
    (State.avsStart_frame (n := 0x89002) (State.applyCopy_frame .rfl' (by rfl)) (by rfl) _).nvm rfl
  rw [State.imaged, started]
  exact State.loaded_loadStores x

theorem State.locks_imaged : (s.imaged x rs b).fab.locks = lockKeys ((inTypeOrder rs).filter fun r => !(b && r.ty = 4)) := by
  have started (u : State) : ((u.loadStores x).applyCopy.avsStart .readV).fab = u.fab :=
    (State.avsStart_frame (n := 0xabf84a) (State.applyCopy_frame (State.loadStores_frame .rfl' (by rfl) x) (by rfl)) (by rfl) _).fab rfl
  rw [State.imaged, started, State.locks_applyImage]

theorem State.sfdp_imaged (sound : imageFault rs = (none, b)) : (s.imaged x rs b).fld Fld.NVM_STATUS_SFDP_OK = 1 := by
  rw [Field.showsImage_sfdp.imaged, State.sfdp_applyImage sound]
  exact State.ite_keeps (·.fld Fld.NVM_STATUS_SFDP_OK) ((Field.showsImage_sfdp.setFld (by decide) ..).trans State.flashSeen_sfdp) State.flashSeen_sfdp

end

/-- Settles O11: B1 passes or stops as its checks say, and no write of the image, the stores or the pilot tracks touches what shows the image. -/
theorem startStagesServiceAndImage : Obligations.StartStagesServiceAndImage := by
  unfold Obligations.StartStagesServiceAndImage
  refine ⟨fun s stage good => ?_, fun s not => ?_, fun x s stage bad => ?_, fun x rs use b s stage sfdp image sound kept => ?_⟩
  · exact ⟨_, execStageB0Service_of_stage stage good, rfl, rfl, State.fld_toStage 1, fun f i j h => State.fld_toStage_ne h 1⟩
  · exact execStageB0Service_of_not not
  · obtain ⟨u, stops⟩ := execStageB1Image_stops stage bad
    exact ⟨u.stopStart, stops, State.fld_setFld_same .., rfl⟩
  · obtain ⟨slow, passes⟩ := execStageB1Image_passes stage sfdp image sound
    refine ⟨_, passes, State.fld_toStage 2, rfl, ?_, ?_, ?_, ?_⟩
    · rw [State.toStage, State.setFld_nvm]
      exact (State.hastened_keeps (·.nvm.loaded) (fun _ _ f => congrArg Nvm.loaded (f.nvm rfl)) slow).trans State.nvm_imaged
    · rw [State.fld_toStage_ne (by decide), Field.showsImage_sfdp.hastened, State.sfdp_imaged sound]
    · rw [State.fld_toStage_ne (by decide), Field.showsImage_image.hastened, Field.showsImage_image.imaged, State.image_applyImage]
    · rw [State.toStage, State.setFld_fab, kept]
      exact (State.hastened_keeps (·.fab.locks) (fun _ _ f => congrArg Fabric.locks (f.fab rfl)) slow).trans State.locks_imaged

end Sys2Proof.Machine
end

section
/-! PROOFS. What the commands of one unit leave to the others: each command's footprint, read as an equation of states. -/
namespace Sys2Proof.Machine

/-- Settles O58: each of these parts lies outside the footprint of every command its clause does not name. -/
theorem frameOfMemoryPinsAndTime : Obligations.FrameOfMemoryPinsAndTime := fun c s t hw hr ht => by
  have frame := exec_frame_next ht
  cases c with
  | regWrite | ttFrameLoad | ttStageHold | laneSpareGo | laneCntClr | spareStateWrite | prbsCtlWrite | injGo | trainRetrain | fovGo | chnEnWrite
  | chnBlkRst | chnSwap | bwrGuaranteeWrite | vlqRetuneGo | vlqRetrain | colSpareGo | relayRst | crst | vmapClear | flipArm | repCommit | fuseGo
  | pendingClr | chtestGo | bstAbort | sealVoid | reactWrite | targetRun | targetNap | targetPark | widenGo | glbResetChip | glbBlockRstGo
  | calCommit | winRdGo | winProgGo | winEraseGo | snapGo | rwlLock | regAccWrite => cases hw
  | refclkLoss | supplySag | crsDue | pwrGoodRise | resetNFall | resetNRise | chipResetHoldEnd | holdExitPor | supplyRemoved | rrd | fenceRelease
  | resetSetRx => cases hr
  | _ =>
    -- a clause that names the command asks nothing of it; every other asks for a part outside its footprint
    simp only [Instr.footprint] at frame
    refine ⟨frame.pending rfl, frame.resetting rfl, ?vmap, ?hold, ?pins, ?wrap, ?ord, ?cc, ?ticks, ?cenTicks, ?free⟩
    case vmap => first | exact frame.vmap rfl | exact True.intro
    case hold => first | exact frame.hold rfl | exact True.intro
    case pins => first | exact frame.pins rfl | exact True.intro
    case wrap => first | exact frame.wrap rfl | exact True.intro
    case ord => first | exact frame.ord rfl | exact True.intro
    case cc => first | exact frame.cc rfl | exact True.intro
    case ticks => first | exact frame.ticks rfl | exact True.intro
    case cenTicks => first | exact frame.cenTicks rfl | exact True.intro
    case free => first | exact frame.free rfl | exact True.intro

/-- The state with the parts that the mask n holds taken from t, and the others from s. -/
def State.patch (n : Nat) (s t : State) : State where
  pending := if n.testBit 0 then t.pending else s.pending
  regs := if n.testBit 1 then t.regs else s.regs
  fab := if n.testBit 2 then t.fab else s.fab
  box := if n.testBit 3 then t.box else s.box
  pins := if n.testBit 4 then t.pins else s.pins
  trks := if n.testBit 5 then t.trks else s.trks
  tags := if n.testBit 6 then t.tags else s.tags
  ord := if n.testBit 7 then t.ord else s.ord
  cenTicks := if n.testBit 8 then t.cenTicks else s.cenTicks
  ticks := if n.testBit 9 then t.ticks else s.ticks
  resetting := if n.testBit 10 then t.resetting else s.resetting
  chans := if n.testBit 11 then t.chans else s.chans
  codec := if n.testBit 12 then t.codec else s.codec
  vert := if n.testBit 13 then t.vert else s.vert
  bwr := if n.testBit 14 then t.bwr else s.bwr
  vmap := if n.testBit 15 then t.vmap else s.vmap
  rep := if n.testBit 16 then t.rep else s.rep
  bst := if n.testBit 17 then t.bst else s.bst
  thm := if n.testBit 18 then t.thm else s.thm
  pwr := if n.testBit 19 then t.pwr else s.pwr
  hold := if n.testBit 20 then t.hold else s.hold
  start := if n.testBit 21 then t.start else s.start
  park := if n.testBit 22 then t.park else s.park
  nvm := if n.testBit 23 then t.nvm else s.nvm
  wrap := if n.testBit 24 then t.wrap else s.wrap
  cc := if n.testBit 25 then t.cc else s.cc
  free := if n.testBit 26 then t.free else s.free

theorem Frame.patched {α : Type} {b : Bool} {x y : α} (h : b = false → x = y) : x = if b = true then x else y := by
  cases b with
  | true => rfl
  | false => exact h rfl

/-- A frame as an equation: outside its mask the state is the old one. -/
theorem State.Frame.eq_patch {n : Nat} {s t : State} (h : t.Frame n s) : t = State.patch n s t := by
  unfold State.patch
  rw [← Frame.patched h.pending, ← Frame.patched h.regs, ← Frame.patched h.fab, ← Frame.patched h.box, ← Frame.patched h.pins, ← Frame.patched h.trks,
    ← Frame.patched h.tags, ← Frame.patched h.ord, ← Frame.patched h.cenTicks, ← Frame.patched h.ticks, ← Frame.patched h.resetting,
    ← Frame.patched h.chans, ← Frame.patched h.codec, ← Frame.patched h.vert, ← Frame.patched h.bwr, ← Frame.patched h.vmap, ← Frame.patched h.rep,
    ← Frame.patched h.bst, ← Frame.patched h.thm, ← Frame.patched h.pwr, ← Frame.patched h.hold, ← Frame.patched h.start, ← Frame.patched h.park,
    ← Frame.patched h.nvm, ← Frame.patched h.wrap, ← Frame.patched h.cc, ← Frame.patched h.free]

/-- What an answered command leaves of the state, as an equation. -/
theorem exec_eq_patch {c : Instr} {n : Nat} {s t : State} (mask : c.footprint = n) (h : exec c s = .next t) : t = State.patch n s t :=
  mask ▸ (exec_frame_next h).eq_patch

/-- Settles O60: each clause is the footprint of its commands, read as an equation. -/
theorem timersChangeOnlyTheirOwnState : Obligations.TimersChangeOnlyTheirOwnState := by
  unfold Obligations.TimersChangeOnlyTheirOwnState
  refine ⟨?box, ?trks, ?bwr, ?pwr, ?retry, ?regs, ?vert, ?force, ?hold, ?holdoff, ?flag, ?track, ?census, ?chans, ?b0, ?transmit, ?hrep, ?park, ?crst,
    ?wrap⟩
  case box =>
    rintro _ _ (h | h)
    all_goals exact exec_eq_patch (n := 0x8) rfl h
  case trks =>
    rintro _ _ _ _ (h | h | h | h | h | h)
    all_goals exact exec_eq_patch (n := 0x20) rfl h
  case bwr => exact fun _ _ => exec_eq_patch (n := 0x4000) rfl
  case pwr => exact fun _ _ => exec_eq_patch (n := 0x80000) rfl
  case retry => exact fun _ _ => exec_eq_patch (n := 0x80002) rfl
  case regs =>
    rintro _ _ (h | h)
    all_goals exact exec_eq_patch (n := 0x2) rfl h
  case vert => exact fun _ _ _ => exec_eq_patch (n := 0x2000) rfl
  case force => exact fun _ _ _ _ => exec_eq_patch (n := 0x800) rfl
  case hold =>
    rintro _ _ (h | h | h)
    all_goals exact exec_eq_patch (n := 0x100000) rfl h
  case holdoff => exact fun _ _ => exec_eq_patch (n := 0xa) rfl
  case flag => exact fun _ _ _ _ => exec_eq_patch (n := 0x2002) rfl
  case track =>
    rintro _ _ _ _ (h | h | h | h)
    all_goals exact exec_eq_patch (n := 0x22) rfl h
  case census => exact fun _ _ => exec_eq_patch (n := 0x122) rfl
  case chans =>
    rintro _ _ _ _ (h | h | h | h)
    all_goals exact exec_eq_patch (n := 0x802) rfl h
  case b0 => exact fun _ _ => exec_eq_patch (n := 0x2200002) rfl
  case transmit => exact fun _ _ _ => exec_eq_patch (n := 0x82786a) rfl
  case hrep => exact fun _ _ _ => exec_eq_patch (n := 0x12802) rfl
  case park => exact fun _ _ => exec_eq_patch (n := 0x444802) rfl
  case crst => exact fun _ _ => exec_eq_patch (n := 0x200402) rfl
  case wrap =>
    rintro _ _ _ _ (h | h | h | h | h)
    all_goals exact exec_eq_patch (n := 0x1000000) rfl h

end Sys2Proof.Machine
end

section
/-! PROOFS. The siding limit over an entry that has its answer. -/
namespace Sys2Proof.Machine

/-- An entry that is answered and waits for the cycle its answer is offered at, still in a siding at its limit. -/
def answeredSided : Ent :=
  { ord := 0, kind := .rd, track := 0, master := 0, tag := 0, unit := 0, len := 1, wagon := 0, lines := []
    res := some { status := 0, ready := 1 }, side := some { reason := 0, limit := 0 } }

/-- Refutes O24: the limit aborts no entry that has its answer, whatever siding it is listed in; the entry of answeredSided keeps its siding. -/
theorem not_turntableAndQueueTimers : ¬ Obligations.TurntableAndQueueTimers := by
  unfold Obligations.TurntableAndQueueTimers
  rintro ⟨-, -, -, -, -, -, expires⟩
  have aborted := (expires 0 0 answeredSided _ { State.reset with chans := [(0, { q := [answeredSided] })] } _ _ rfl rfl (Nat.le_refl 0) rfl rfl).2
  obtain ⟨-, left⟩ := aborted answeredSided (List.mem_singleton.mpr rfl) rfl
  cases left

end Sys2Proof.Machine
end

section
/-! PROOFS. Sparing a host lane: requests, their answers, their retries, the switch and the retirement. -/
namespace Sys2Proof.Machine

section
variable {t : Nat} {s : State} {y : SpareY}

@[simp] theorem State.spX_takeMgmt (code : Byte) (m : LaneMsg) : ((s.takeMgmt t code m).trk t).spX = (s.trk t).spX := by
  simp [State.takeMgmt]

@[simp] theorem State.spY_takeMgmt (code : Byte) (m : LaneMsg) : ((s.takeMgmt t code m).trk t).spY = (s.trk t).spY := by
  simp [State.takeMgmt]

/-- With a standby spare in both directions the device asks with a target 16 blocks on (R88 step 1). -/
theorem State.trySpare_of_standby {sp : Bool} (rx : s.standby t false = some sp) (tx : (s.standby t true).isSome = true) (pos tries : Nat) :
    s.trySpare t pos tries = s.modTrk t fun x => { x with spY := some { pos := pos, spare := sp, target := x.rx.blk + 16, tries := tries } } := by
  obtain ⟨other, tx⟩ := Option.isSome_iff_exists.mp tx
  simp [State.trySpare, rx, tx]

/-- The first two failures ask again (R89). -/
theorem State.spareFailed_of_few (hy : (s.trk t).spY = some y) (few : y.tries < 2) : s.spareFailed t = s.trySpare t y.pos (y.tries + 1) := by
  simp [State.spareFailed, hy, few]

/-- The third failure gives up (R89). -/
theorem State.spareFailed_of_many (hy : (s.trk t).spY = some y) (many : 2 ≤ y.tries) :
    s.spareFailed t = (s.raise .hlSpareFail t { detail := y.pos }).retrain t 0x23 := by
  simp [State.spareFailed, hy, many]
end

section
variable {t : TrackIx} {m : LaneMsg} {s : State} {y : SpareY}

/-- A rejection of the request in progress is a failed attempt (R89). -/
theorem execLaneMgmtRejRx_of_named (hy : (s.trk t).spY = some y) (pos : y.pos = m.pos.val) (target : y.target = m.target) (waits : y.acked = false) :
    execLaneMgmtRejRx t m s = .next ((s.takeMgmt t 0x03 m).spareFailed t) := by
  simp [execLaneMgmtRejRx, hy, pos, target, waits]

/-- 32 blocks without an answer are a failed attempt (R88, R89). -/
theorem execLaneSpareReqTimeout_of_silence (hy : (s.trk t).spY = some y) (waits : y.acked = false) (long : 32 ≤ y.blocks) :
    execLaneSpareReqTimeout t s = .next (s.spareFailed t) := by
  simp [execLaneSpareReqTimeout, hy, waits, long]

/-- The transmit side of a sparing waits for its block. -/
theorem execLaneSpareSwitch_tx_early {x : SpareX} (hx : (s.trk t).spX = some x) (early : (s.trk t).tx.at x.target = false) :
    execLaneSpareSwitch t true s = .next s := by
  simp [execLaneSpareSwitch, hx, early]

/-- The receive side of a sparing waits for its block and for the acknowledgement. -/
theorem execLaneSpareSwitch_rx_early (hy : (s.trk t).spY = some y) (early : y.acked = false ∨ (s.trk t).rx.at y.target = false) :
    execLaneSpareSwitch t false s = .next s := by
  have early : ¬(y.acked = true ∧ (s.trk t).rx.at y.target = true) := by
    rintro ⟨acked, now⟩
    simp [acked, now] at early
  simp [execLaneSpareSwitch, hy, early]
end

/-- Settles O27: each clause is one branch of its command; the list of messages holds nothing that a later check reads. -/
theorem laneSparing : Obligations.LaneSparing := by
  unfold Obligations.LaneSparing
  refine ⟨?accept, ?reject, ?again, ?notReady, ?ack, ?otherAck, ?none, ?rej, ?lastRej, ?otherRej, ?waits, ?silence, ?lastSilence, ?switchTx, ?switchRx,
    ?early, ?retire, ?kept⟩
  case accept =>
    rintro t m _ s ready rfl near far spare free
    show execLaneMgmtReqRx t m s = _
    have good : 4 ≤ (m.target - (s.trk t).tx.next).toNat ∧ (m.target - (s.trk t).tx.next).toNat ≤ 128 ∧
        (s.takeMgmt t 0x01 m).spareIs t true m.spare .standby = true ∧ (none : Option SpareX).isNone = true := ⟨near, far, spare, rfl⟩
    simp only [execLaneMgmtReqRx, ready, if_true, State.spX_takeMgmt, if_pos good, free, reduceCtorEq, if_false]
  case reject =>
    rintro t m _ s ready rfl other bad
    show execLaneMgmtReqRx t m s = _
    have bad : ¬(4 ≤ (m.target - (s.trk t).tx.next).toNat ∧ (m.target - (s.trk t).tx.next).toNat ≤ 128 ∧
        (s.takeMgmt t 0x01 m).spareIs t true m.spare .standby = true ∧ (s.trk t).spX.isNone = true) := by
      rintro ⟨near, far, spare, free⟩
      have spare : s.spareIs t true m.spare .standby = true := spare
      rcases bad with h | h | h | h
      · omega
      · omega
      · rw [spare] at h
        cases h
      · rw [Option.isNone_iff_eq_none.mp free] at h
        cases h
    simp only [execLaneMgmtReqRx, ready, if_true, State.spX_takeMgmt, if_neg other, if_neg bad]
  case again =>
    intro t m s ready same
    show execLaneMgmtReqRx t m s = _
    simp [execLaneMgmtReqRx, ready, same]
  case notReady =>
    intro t m s not
    show execLaneMgmtReqRx t m s = _
    simp [execLaneMgmtReqRx, not]
  case ack =>
    intro t m y s hy pos spare target
    show execLaneMgmtAckRx t m s = _
    simp [execLaneMgmtAckRx, hy, pos, spare, target]
  case otherAck =>
    intro t m y s hy other
    show execLaneMgmtAckRx t m s = _
    have other : ¬(y.pos = m.pos.val ∧ y.spare = m.spare ∧ y.target = m.target) := by tauto
    simp only [execLaneMgmtAckRx, hy, if_neg other]
  case none =>
    intro t m s free
    refine ⟨?_, ?_, ?_⟩
    · show execLaneMgmtAckRx t m s = _
      simp [execLaneMgmtAckRx, free]
    · show execLaneMgmtRejRx t m s = _
      simp [execLaneMgmtRejRx, free]
    · show execLaneSpareReqTimeout t s = _
      simp [execLaneSpareReqTimeout, free]
  case rej =>
    intro t m y sp s hy pos target waits few rx tx
    refine (execLaneMgmtRejRx_of_named hy pos target waits).trans ?_
    rw [State.spareFailed_of_few (by simpa using hy) few, State.trySpare_of_standby (s := s.takeMgmt t 0x03 m) rx tx]
  case lastRej =>
    intro t m y s hy pos target waits many
    refine (execLaneMgmtRejRx_of_named hy pos target waits).trans ?_
    rw [State.spareFailed_of_many (by simpa using hy) many]
  case otherRej =>
    intro t m y s hy other
    show execLaneMgmtRejRx t m s = _
    have other : ¬(y.pos = m.pos.val ∧ y.target = m.target ∧ ¬y.acked = true) := by tauto
    simp only [execLaneMgmtRejRx, hy, if_neg other]
  case waits =>
    intro t y s hy early
    show execLaneSpareReqTimeout t s = _
    simp only [execLaneSpareReqTimeout, hy, if_pos early]
  case silence =>
    intro t y sp s hy waits long few rx tx
    refine (execLaneSpareReqTimeout_of_silence hy waits long).trans ?_
    rw [State.spareFailed_of_few hy few, State.trySpare_of_standby rx tx]
  case lastSilence =>
    intro t y s hy waits long many
    refine (execLaneSpareReqTimeout_of_silence hy waits long).trans ?_
    rw [State.spareFailed_of_many hy many]
  case switchTx =>
    intro t x s hx now
    show execLaneSpareSwitch t true s = _
    simp [execLaneSpareSwitch, hx, now, State.activateSpare]
  case switchRx =>
    intro t y s hy acked now
    show execLaneSpareSwitch t false s = _
    simp [execLaneSpareSwitch, hy, acked, now, State.activateSpare]
  case early =>
    exact fun t x y s hx xEarly hy yEarly => ⟨execLaneSpareSwitch_tx_early hx xEarly, execLaneSpareSwitch_rx_early hy yEarly⟩
  case retire =>
    intro t tx p b l s oldest now
    show execLaneRetire t tx s = _
    simp only [execLaneRetire, oldest, now, not_true_eq_false, if_false]
  case kept =>
    intro t tx p b l s oldest early
    show execLaneRetire t tx s = _
    simp only [execLaneRetire, oldest, early, Bool.false_eq_true, not_false_eq_true, if_true]

end Sys2Proof.Machine
end

section
/-! PROOFS. Census rounds: what a repetition does at one index, a set content that is taken once, and the branches of the census commands. -/
namespace Sys2Proof.Machine

/-! ### A repetition at one index -/

theorem State.upTo_keeps_below {β : Type} (view : State → β) {g : Nat → State → State} {n : Nat} (hg : ∀ k < n, ∀ s, view (g k s) = view s) (s : State) :
    view (s.upTo n g) = view s := by
  induction n with
  | zero => rfl
  | succ n ih =>
    rw [State.upTo_succ]
    exact (hg n n.lt_succ_self _).trans (ih fun k hk => hg k (hk.trans n.lt_succ_self))

/-- Where only the pass of one index touches a view, the repetition does to it what that pass does. -/
theorem State.upTo_own {β : Type} (view : State → β) {g : Nat → State → State} {n t : Nat} (ht : t < n)
    (other : ∀ k < n, k ≠ t → ∀ s, view (g k s) = view s) (s : State) : ∃ v, view v = view s ∧ view (s.upTo n g) = view (g t v) := by
  induction n with
  | zero => exact absurd ht t.not_lt_zero
  | succ n ih =>
    rw [State.upTo_succ]
    rcases Nat.lt_succ_iff_lt_or_eq.mp ht with below | rfl
    · obtain ⟨v, hv, run⟩ := ih below fun k hk => other k (hk.trans n.lt_succ_self)
      exact ⟨v, hv, (other n n.lt_succ_self (Nat.ne_of_gt below) _).trans run⟩
    · exact ⟨_, State.upTo_keeps_below view (fun k hk => other k (hk.trans t.lt_succ_self) (Nat.ne_of_lt hk)) s, rfl⟩

/-! ### A content is taken once -/

theorem Store.put_put {α : Type} (m : Store α) (k : Nat) (v w : α) : Store.put (Store.put m k v) k w = Store.put m k w := by
  induction m with
  | nil => simp [Store.put]
  | cons e m ih =>
    obtain ⟨a, x⟩ := e
    simp only [Store.put]
    rcases Nat.lt_trichotomy k a with below | rfl | above
    · simp [below, Store.put]
    · simp [Store.put]
    · simp [Nat.not_lt_of_gt above, Nat.ne_of_gt above, Store.put, ih]

theorem Store.del_put {α : Type} (m : Store α) (k : Nat) (v : α) : Store.del (Store.put m k v) k = Store.del m k := by
  induction m with
  | nil => simp [Store.put, Store.del]
  | cons e m ih =>
    obtain ⟨a, x⟩ := e
    simp only [Store.del] at ih
    simp only [Store.put]
    split
    · simp [Store.del]
    · split
      · next same => simp [Store.del, same]
      · simp [Store.del, List.filter_cons, ih]

/-- Writing a value where it has just been written changes nothing. -/
theorem Store.set_idem {α : Type} [DecidableEq α] (m : Store α) (k : Nat) (d v : α) : Store.set (Store.set m k d v) k d v = Store.set m k d v := by
  by_cases h : v = d
  · simp [Store.set, h, Store.del, List.filter_filter]
  · simp [Store.set, h, Store.put_put]

theorem State.setTrk_idem (s : State) (t : Nat) (x : Trk) : (s.setTrk t x).setTrk t x = s.setTrk t x := by
  simp [State.setTrk, Store.set_idem]

section
variable {s : State} {t : Nat} {ty : SetType}

@[simp] theorem State.trk_takeSet (ty : SetType) :
    (s.takeSet t ty).trk t = { s.trk t with rx := { (s.trk t).rx with sets := (s.trk t).rx.sets.filter fun e => e.typ != ty.code } } :=
  State.trk_modRx_same ..

theorem State.takeSet_takeSet (s : State) (t : Nat) (ty : SetType) : (s.takeSet t ty).takeSet t ty = s.takeSet t ty := by
  have same : (s.takeSet t ty).takeSet t ty = (s.takeSet t ty).setTrk t ((s.takeSet t ty).trk t) := by
    simp [State.takeSet, State.modRx, State.modTrk, List.filter_filter]
  rw [same, State.trk_takeSet]
  exact State.setTrk_idem ..

theorem State.setIn_takeSet (s : State) (t : Nat) (ty : SetType) : (s.takeSet t ty).setIn t ty = none := by
  simp [State.setIn]

theorem State.contentIn_of_some {α : Type} {e : SetIn} (h : s.setIn t ty = some e) (dec : SetIn → α) (x : α) : s.contentIn t ty dec x = dec e := by
  simp [State.contentIn, h]

theorem State.contentIn_of_none {α : Type} (h : s.setIn t ty = none) (dec : SetIn → α) (x : α) : s.contentIn t ty dec x = x := by
  simp [State.contentIn, h]

@[simp] theorem State.trk_modCen_same (g : Census → Census) : (s.modCen t g).trk t = { s.trk t with cen := g (s.trk t).cen } := State.trk_modTrk_same ..
end

/-! ### The start of a round on one track (R128) -/

/-- What a round's start may change of a track: its state, the round's number, and whether the track is READY. -/
def State.roundView (t : Nat) (s : State) : Trk × Nat × Bool := (s.trk t, s.fld Fld.TRK_CENSUS_STATUS_ROUND t, s.linkIs t .ready)

theorem State.cen_startRound (s : State) (t : Nat) :
    ((s.startRound t).trk t).cen.waiting = true ∧
    (s.startRound t).fld Fld.TRK_CENSUS_STATUS_ROUND t = (s.fld Fld.TRK_CENSUS_STATUS_ROUND t + 1) % 256 := by
  constructor
  · simp [State.startRound, State.queueSet]
  · exact (State.fld_setFld_same ..).trans (Nat.mod_eq_of_lt (Nat.mod_lt _ (by decide)))

theorem State.roundView_startRound_ne {k t : Nat} (h : k ≠ t) (s : State) : (s.startRound k).roundView t = s.roundView t := by
  have round : Fld.TRK_CENSUS_STATUS_ROUND.key t 0 ≠ Fld.TRK_CENSUS_STATUS_ROUND.key k 0 := by
    simp [Field.key, Field.addr, Fld.TRK_CENSUS_STATUS_ROUND, Blk.span]
    omega
  have state : Fld.TRK_TRAIN_STATUS_STATE.key t 0 ≠ Fld.TRK_CENSUS_STATUS_ROUND.key k 0 := by
    simp [Field.key, Field.addr, Fld.TRK_CENSUS_STATUS_ROUND, Fld.TRK_TRAIN_STATUS_STATE, Blk.span, Blk.base]
    omega
  have trk : (s.startRound k).trk t = s.trk t := (State.trk_modTrk_ne _ _ h.symm).trans (State.trk_modTrk_ne _ _ h.symm)
  have number : (s.startRound k).fld Fld.TRK_CENSUS_STATUS_ROUND t = s.fld Fld.TRK_CENSUS_STATUS_ROUND t := State.fld_setFld_ne s _ round
  have link : (s.startRound k).fld Fld.TRK_TRAIN_STATUS_STATE t = s.fld Fld.TRK_TRAIN_STATUS_STATE t := State.fld_setFld_ne s _ state
  simp only [State.roundView, State.linkIs, trk, number, link]

/-- CENSUS_INTERVAL starts a round on each READY track and on no other. -/
theorem State.rounds_at {t : Nat} (ht : t < 32) (s : State) :
    ∃ v : State, v.roundView t = s.roundView t ∧
      (s.upTo 32 fun k u => if u.linkIs k .ready then u.startRound k else u).roundView t = (if v.linkIs t .ready then v.startRound t else v).roundView t :=
  State.upTo_own (State.roundView t) ht
    (fun _ _ h _ => State.ite_keeps (State.roundView t) (State.roundView_startRound_ne h _) rfl) s

theorem State.rounds_of_ready {t : Nat} {s u : State} (hu : u = s.upTo 32 fun k u => if u.linkIs k .ready then u.startRound k else u) (ht : t < 32)
    (ready : s.linkIs t .ready = true) :
    (u.trk t).cen.waiting = true ∧ u.fld Fld.TRK_CENSUS_STATUS_ROUND t = (s.fld Fld.TRK_CENSUS_STATUS_ROUND t + 1) % 256 := by
  obtain ⟨v, hv, run⟩ := State.rounds_at ht s
  simp only [State.roundView, Prod.mk.injEq] at hv
  obtain ⟨-, number, link⟩ := hv
  obtain ⟨waits, next⟩ := State.cen_startRound v t
  rw [← hu, if_pos (link.trans ready)] at run
  simp only [State.roundView, Prod.mk.injEq] at run
  obtain ⟨trk, round, -⟩ := run
  rw [trk, round, next, number]
  exact ⟨waits, rfl⟩

theorem State.rounds_of_not_ready {t : Nat} {s u : State} (hu : u = s.upTo 32 fun k u => if u.linkIs k .ready then u.startRound k else u) (ht : t < 32)
    (not : s.linkIs t .ready = false) : u.trk t = s.trk t := by
  obtain ⟨v, hv, run⟩ := State.rounds_at ht s
  simp only [State.roundView, Prod.mk.injEq] at hv
  obtain ⟨same, -, link⟩ := hv
  rw [← hu, link, not, if_neg Bool.false_ne_true] at run
  exact (congrArg Prod.fst run).trans same

/-! ### The check of the host's census (R129) -/

section
variable {t : TrackIx} {x : CenContent} {r : BitVec 32 × BitVec 32 × BitVec 32} {s : State}

/-- The state in which the host's census has been noted. -/
def State.heard (s : State) (t : Nat) (x : CenContent) : State := (s.takeSet t .cen).modCen t fun z => { z with got := some x }

theorem execCenRx_of_awaited (waits : (s.trk t).cen.waiting = true) (ready : s.linkIs t .ready = true) (fresh : s.setIn t .cen = none)
    (round : x.round.toNat = s.fld Fld.TRK_CENSUS_STATUS_ROUND t) : exec (.cenRx t x) s = .next ((s.heard t x).checkCensus t) := by
  show execCenRx t x s = _
  have awaited : ((s.takeSet t .cen).trk t).cen.waiting = true ∧ (s.takeSet t .cen).linkIs t .ready = true ∧
      x.round.toNat = (s.takeSet t .cen).fld Fld.TRK_CENSUS_STATUS_ROUND t := ⟨by simpa using waits, ready, round⟩
  simp only [execCenRx, State.contentIn_of_none fresh, if_pos awaited, State.heard]

theorem State.hasAccepted_heard (q : Byte) : (s.heard t x).hasAccepted t q = s.hasAccepted t q := rfl

/-- A census whose packets the device has not all accepted waits. -/
theorem State.checkCensus_heard_of_not_accepted (not : s.hasAccepted t x.sTx = false) : (s.heard t x).checkCensus t = s.heard t x := by
  have got : ((s.heard t x).trk t).cen.got = some x := by simp [State.heard]
  simp only [State.checkCensus, got, State.hasAccepted_heard, not, Bool.false_eq_true, not_false_eq_true, if_true]

/-- Whether a census agrees with the records of the device. -/
def State.censusGood (s : State) (t : Nat) (x : CenContent) : Bool :=
  (s.trk t).cen.ok && recAt (s.trk t).ses.txRec x.sRx = some (x.counts.rxr, x.counts.rxd, x.counts.acc) &&
    recAt (s.trk t).ses.rxRec x.sTx = some (x.counts.rrr, x.counts.rrd, x.counts.iss)

/-- The round over, with its result. -/
def State.roundOver (s : State) (t n : Nat) : State :=
  (s.modCen t fun z => { z with waiting := false, timeouts := 0, got := none }).setFld Fld.TRK_CENSUS_STATUS_RESULT n t

theorem State.checkCensus_heard_of_accepted (accepted : s.hasAccepted t x.sTx = true) :
    (s.heard t x).checkCensus t = if s.censusGood t x then (s.heard t x).roundOver t 1 else ((s.heard t x).roundOver t 2).raise .tabCensusMismatch t := by
  have got : ((s.heard t x).trk t).cen.got = some x := by simp [State.heard]
  have good : (s.heard t x).censusGood t x = s.censusGood t x := by simp [State.heard, State.censusGood]
  simp only [State.checkCensus, got, State.hasAccepted_heard, accepted, not_true_eq_false, if_false]
  rw [← State.censusGood, good]
  cases s.censusGood t x with
  | true => simp only [if_true, State.roundOver]
  | false => simp only [Bool.false_eq_true, if_false, State.roundOver]
end

/-- Settles O33: a round starts track by track, and each other clause is one branch of its command. -/
theorem census : Obligations.Census := by
  unfold Obligations.Census
  refine ⟨?early, ?off, ?starts, ?repeats, ?noRepeat, ?accepted, ?agrees, ?differs, ?later, ?other, ?timeout, ?second, ?noTimeout⟩
  case early => exact fun s early => congrArg _ (if_pos early)
  case off =>
    intro s due off
    show execCensusInterval s = _
    have off : ({ s with cenTicks := 0 } : State).flag Fld.HLC_CENSUS_CFG_EN = false := off
    simp [execCensusInterval, Nat.not_lt_of_le due, off]
  case starts =>
    intro s due on
    have on : ({ s with cenTicks := 0 } : State).flag Fld.HLC_CENSUS_CFG_EN = true := on
    have run : exec .censusInterval s =
        .next (({ s with cenTicks := 0 } : State).upTo 32 fun k u => if u.linkIs k .ready then u.startRound k else u) := by
      show execCensusInterval s = _
      simp [execCensusInterval, Nat.not_lt_of_le due, on]
    refine ⟨_, run, ?_, fun t ht ready => ?_⟩
    · have kept (k : Nat) (u : State) : (if u.linkIs k .ready = true then u.startRound k else u).cenTicks = u.cenTicks :=
        State.ite_keeps (·.cenTicks) rfl rfl
      rw [State.upTo_keeps (·.cenTicks) kept]
    · obtain ⟨waits, round⟩ := State.rounds_of_ready rfl ht (s := { s with cenTicks := 0 }) ready
      exact ⟨waits, round, fun k hk not => State.rounds_of_not_ready rfl hk (s := { s with cenTicks := 0 }) not⟩
  case repeats =>
    intro t s waits cut due new
    show execCensusRepeat t s = _
    simp [execCensusRepeat, waits, cut, due, State.queueSet, State.modTrn, State.modTrk, new]
  case noRepeat =>
    intro t s early
    show execCensusRepeat t s = _
    have early : ¬((s.trk t).cen.waiting = true ∧ (s.trk t).cen.cut.isSome = true ∧ (s.trk t).cen.blocks ≥ 16) := by
      rintro ⟨waits, cut, due⟩
      rcases early with h | h | h
      · simp [waits] at h
      · simp [h] at cut
      · omega
    simp only [execCensusRepeat, if_neg early]
  case accepted =>
    intro t x e s he
    show execCenRx t x s = execCenRx t (cenOf e) (s.takeSet t .cen)
    simp only [execCenRx, State.contentIn_of_some he, State.contentIn_of_none (State.setIn_takeSet ..), State.takeSet_takeSet]
  case agrees =>
    intro t x r s waits ready fresh round accepted recorded ok sent same
    have good : s.censusGood t x = true := by simp [State.censusGood, ok, sent, recorded, same]
    refine ⟨_, execCenRx_of_awaited waits ready fresh round, ?_⟩
    rw [State.checkCensus_heard_of_accepted accepted, if_pos good]
    exact ⟨State.fld_setFld_same .., by simp [State.roundOver], by simp [State.roundOver]⟩
  case differs =>
    intro t x r s waits ready fresh round accepted recorded differs
    have bad : ¬s.censusGood t x = true := by
      intro good
      simp only [State.censusGood, Bool.and_eq_true, decide_eq_true_eq] at good
      obtain ⟨⟨ok, sent⟩, received⟩ := good
      rcases differs with h | h | h
      · simp [ok] at h
      · exact h sent
      · exact h (Option.some.inj (recorded.symm.trans received))
    rw [execCenRx_of_awaited waits ready fresh round, State.checkCensus_heard_of_accepted accepted, if_neg bad]
    rfl
  case later =>
    intro t x s waits ready fresh round not
    rw [execCenRx_of_awaited waits ready fresh round, State.checkCensus_heard_of_not_accepted not]
    rfl
  case other =>
    intro t x s fresh other
    show execCenRx t x s = _
    have other : ¬(((s.takeSet t .cen).trk t).cen.waiting = true ∧ (s.takeSet t .cen).linkIs t .ready = true ∧
        x.round.toNat = (s.takeSet t .cen).fld Fld.TRK_CENSUS_STATUS_ROUND t) := by
      rintro ⟨waits, ready, round⟩
      have ready : s.linkIs t .ready = true := ready
      simp only [State.trk_takeSet] at waits
      rcases other with h | h | h
      · simp [waits] at h
      · simp [ready] at h
      · exact h round
    simp only [execCenRx, State.contentIn_of_none fresh, if_neg other]
  case timeout =>
    intro t s waits cut got late first
    show execCensusReplyTimeout t s = _
    simp [execCensusReplyTimeout, waits, cut, got, late, first]
  case second =>
    intro t s waits cut got late first
    show execCensusReplyTimeout t s = _
    simp [execCensusReplyTimeout, waits, cut, got, late, first]
  case noTimeout =>
    intro t s early
    show execCensusReplyTimeout t s = _
    have early : ¬((s.trk t).cen.waiting = true ∧ (s.trk t).cen.cut.isSome = true ∧ (s.trk t).cen.got.isNone = true ∧
        (s.trk t).cen.ticks ≥ s.fld Fld.HLC_CENSUS_CFG_REPLY) := by
      rintro ⟨waits, cut, got, late⟩
      rcases early with h | h | h | h
      · simp [waits] at h
      · simp [h] at cut
      · simp [Option.isNone_iff_eq_none.mp got] at h
      · omega
    simp only [execCensusReplyTimeout, if_neg early]

end Sys2Proof.Machine
end

section
/-! PROOFS. The slotted work of a channel: the REFRESH and SCRUB slots, forced neighbour refreshes, the start of a retest, overruns. -/
namespace Sys2Proof.Machine

section
variable {c : ChanIx} {s : State}

/-! ### Two changes of one channel -/

/-- Of two writes of a channel only the second stays, where the first listed it. -/
theorem State.setChan_setChan {x : Chan} (h : x ≠ {}) (s : State) (c : Nat) (y : Chan) : (s.setChan c x).setChan c y = s.setChan c y := by
  by_cases hy : y = {}
  · simp [State.setChan, Store.set, hy, h, Store.del_put]
  · simp [State.setChan, Store.set, hy, h, Store.put_put]

theorem State.modChan_modChan {c : Nat} {g : Chan → Chan} (h : g (s.chan c) ≠ {}) (k : Chan → Chan) :
    (s.modChan c g).modChan c k = s.modChan c fun x => k (g x) := by
  show (s.setChan c (g (s.chan c))).setChan c (k ((s.setChan c (g (s.chan c))).chan c)) = _
  rw [State.setChan_setChan h, State.chan_setChan_same]
  rfl

/-! ### The REFRESH slot (R233) -/

/-- The slot of the frame open. -/
def State.slotOpen (s : State) (c : Nat) : State := s.modRef c fun r => { r with open_ := true }

@[simp] theorem State.engineRuns_slotOpen (c : Nat) (s : State) : (s.slotOpen c).engineRuns c = s.engineRuns c := by
  simp [State.slotOpen, State.engineRuns, State.bundleUp]

@[simp] theorem State.lapsed_slotOpen (c : Nat) (s : State) : (s.slotOpen c).lapsed c = s.lapsed c := by
  simp [State.slotOpen, State.lapsed]

@[simp] theorem State.cmdChips_slotOpen (c n : Nat) (s : State) : (s.slotOpen c).cmdChips c n = s.cmdChips c n := rfl

@[simp] theorem State.quietOk_slotOpen (c n : Nat) (s : State) : (s.slotOpen c).quietOk c n = s.quietOk c n := rfl

@[simp] theorem State.chan_slotOpen (c : Nat) (s : State) : (s.slotOpen c).chan c = { s.chan c with ref := { (s.chan c).ref with open_ := true } } :=
  State.chan_modRef_same ..

@[simp] theorem State.slotTakes_slotOpen (c n : Nat) (s : State) : (s.slotOpen c).slotTakes c n = s.slotTakes c n := by
  simp only [State.slotTakes, State.cmdChips_slotOpen, State.chan_slotOpen]
  rfl

@[simp] theorem State.cmdFree_slotOpen (c n : Nat) (s : State) : (s.slotOpen c).cmdFree c n = s.cmdFree c n := by
  simp only [State.cmdFree, State.cmdChips_slotOpen, State.quietOk_slotOpen, State.chan_slotOpen]
  rfl

/-- The banks the slot owns: those of its rounds and of its neighbour refreshes. -/
def State.slotBanks (s : State) (c rounds n : Nat) : List Nat :=
  ((List.range (min rounds 4)).flatMap fun k => (List.range 8).map fun g => 4 * g + (s.fld Fld.CHN_REF_STATE_NEXT_SET c + k) % 4) ++
    ((s.chan c).ref.nrefs.take n).map fun y => y.bank

/-- What the slot takes, noted. -/
def State.slotNoted (s : State) (c : Nat) (takes : Nat × Nat) : State :=
  s.modRef c fun r => { r with slot := takes.1, slotN := takes.2, seen := false, own := s.slotBanks c takes.1 takes.2 }

/-- The keep-alive of a slot with nothing due (R309). -/
def State.kept (s : State) (c : Nat) (takes : Nat × Nat) : State :=
  if (!(s.chan c).ref.seen) = true ∧ takes.1 = 0 ∧ takes.2 = 0 ∧ s.cmdFree c 1 = true then s.launch c [(0x0A, 0)] else s

section
variable (closed : (s.chan c).ref.open_ = false) (late : 25 * c.val ≤ s.fld Fld.TT_TIME_CYCLE)
include closed late

theorem execRefreshSlot_of_stopped (stopped : s.engineRuns c = false) : execRefreshSlot c s = .next (s.slotOpen c) := by
  have now : ¬((s.chan c).ref.open_ = true ∨ s.fld Fld.TT_TIME_CYCLE < 25 * c.val) := by simp [closed, late]
  have stopped : ¬(s.slotOpen c).engineRuns c = true := by simp [stopped]
  simp only [execRefreshSlot, if_neg now, ← State.slotOpen.eq_1]
  rw [if_pos stopped]

theorem execRefreshSlot_of_running (runs : s.engineRuns c = true) (up : s.lapsed c = false) :
    execRefreshSlot c s = .next (((s.slotOpen c).kept c (s.slotTakes c (1600 - s.fld Fld.TT_TIME_CYCLE))).slotNoted c
      (s.slotTakes c (1600 - s.fld Fld.TT_TIME_CYCLE))) := by
  have now : ¬((s.chan c).ref.open_ = true ∨ s.fld Fld.TT_TIME_CYCLE < 25 * c.val) := by simp [closed, late]
  have runs : ¬¬(s.slotOpen c).engineRuns c = true := by simp [runs]
  have up : ¬(s.slotOpen c).lapsed c = true := by simp [up]
  have takes : (s.slotOpen c).slotTakes c (1600 - (s.slotOpen c).fld Fld.TT_TIME_CYCLE) = s.slotTakes c (1600 - s.fld Fld.TT_TIME_CYCLE) :=
    State.slotTakes_slotOpen ..
  simp only [execRefreshSlot, if_neg now, ← State.slotOpen.eq_1]
  rw [if_neg runs, if_neg up, takes]
  rfl
end

/-! ### The SCRUB slot (R335) -/

/-- The SCRUB slot of the frame open, its turn due or not. -/
def State.scrubbed (s : State) (c : Nat) (turn : Bool) : State :=
  s.modChan c fun x => { x with scrub := true, gOpen := some s.cc, gTicks := if turn then 0 else x.gTicks, gDue := x.gDue || turn }

/-- Past its offset the slot opens where the ganger may walk the channel, and the ganger's group goes out where nothing else does. -/
theorem execScrubSlot_of_walked (closed : (s.chan c).scrub = false) (late : (25 * c.val + 800) % 1600 ≤ s.fld Fld.TT_TIME_CYCLE)
    (main : s.pilotOn = false) (on : s.flag Fld.INT_GANGER_CFG_EN = true) (shown : s.presented c = true) (idle : (s.chan c).test = false)
    (awake : s.inState .nap = false) {u : State} (hu : u = s.scrubbed c (decide ((s.chan c).gTicks ≥ s.fld Fld.INT_GANGER_CFG_PERIOD))) :
    execScrubSlot c s = .next (if u.engineRuns c = true ∧ u.cmdFree c 1 = true ∧ (s.chan c).wait.isNone = true ∧ ¬u.lapsed c = true ∧
      (u.eligibles c).isEmpty = true then u.gangIssue c else u) := by
  have now : ¬((s.chan c).scrub = true ∨ s.fld Fld.TT_TIME_CYCLE < (25 * c.val + 800) % 1600) := by simp [closed, late]
  have walked : ¬((s.modChan c fun y => { y with scrub := true }).pilotOn = true ∨
      ¬(s.modChan c fun y => { y with scrub := true }).flag Fld.INT_GANGER_CFG_EN = true ∨
      ¬(s.modChan c fun y => { y with scrub := true }).presented c = true ∨ (s.chan c).test = true ∨
      (s.modChan c fun y => { y with scrub := true }).inState .nap = true) := by
    rintro (h | h | h | h | h)
    · exact Bool.noConfusion (main.symm.trans h)
    · exact h on
    · exact h shown
    · exact Bool.noConfusion (idle.symm.trans h)
    · exact Bool.noConfusion (awake.symm.trans h)
  have listed : ({ s.chan c with scrub := true } : Chan) ≠ {} := fun h => Bool.noConfusion (congrArg Chan.scrub h)
  simp only [execScrubSlot, if_neg now, if_neg walked]
  rw [State.modChan_modChan listed, hu]
  simp only [State.scrubbed, decide_eq_true_eq]
  rfl

/-! ### Rows and jobs -/

/-- Two trains over a row join the priority list; nothing else of the channel changes. -/
theorem State.chan_pushRow (c bank row : Nat) (write : Bool) (use : Use) (line : Nat → Line) (s : State) :
    ∃ p : List Train, (s.pushRow c bank row write use line).chan c = { s.chan c with prio := p } ∧ p.length = (s.chan c).prio.length + 2 := by
  refine ⟨((s.pushRow c bank row write use line).chan c).prio, ?_, ?_⟩
  · simp [State.pushRow, State.pushPrio]
  · simp [State.pushRow, State.pushPrio]

/-- Bringing the sidings up to date touches of a channel the queue alone. -/
theorem State.chan_reside (s : State) (c : Nat) : (s.reside c).chan c = { s.chan c with q := (sideEntries (s.chan c) (s.fld Fld.CHN_SIDING_LIMIT c)).1 } := by
  simp [State.reside]

/-- The oldest listed row whose bank is free is read (R337). -/
theorem execRetestStart_of_head {b r : Nat} {l : List (Nat × Nat)} (main : s.bst.ch = none) (runs : s.engineRuns c = true) (idle : (s.chan c).rt = none)
    (up : (s.chan c).resetting = false) (quiet : (s.chan c).test = false) (gap : (s.chan c).rtGap = 0) (head : (s.chan c).rtList = (b, r) :: l)
    (free : s.bankFree c b = true) :
    execRetestStart c s = .next (((s.modChan c fun y => { y with
      rt := some { bank := b, row := r, since := s.cc }, rtList := y.rtList.erase (b, r), rtGap := s.fld Fld.INT_RETEST_CFG_SPACING }).pushRow
        c b r false .rtRead fun _ => 0).reside c) := by
  simp [execRetestStart, main, runs, idle, up, quiet, gap, head, free]

end

/-- Settles O22: each clause is one branch of its command. -/
theorem refreshAndScrubSlots : Obligations.RefreshAndScrubSlots := by
  unfold Obligations.RefreshAndScrubSlots
  refine ⟨?refEarly, ?refStopped, ?refTakes, ?refNop, ?scrubEarly, ?scrubOff, ?scrubWaits, ?scrubDue, ?scrubIssues, ?force, ?retest, ?overrun, ?inTime, ?fill⟩
  case refEarly => exact fun c s early => congrArg _ (if_pos early)
  case refStopped => exact fun c s closed late stopped => execRefreshSlot_of_stopped closed late stopped
  case refTakes =>
    rintro c s _ _ _ closed late runs up seen rfl rfl rfl
    refine ⟨_, execRefreshSlot_of_running closed late runs up, ?_⟩
    have silent : ¬((!((s.slotOpen c).chan c).ref.seen) = true ∧ (s.slotTakes c (1600 - s.fld Fld.TT_TIME_CYCLE)).1 = 0 ∧
        (s.slotTakes c (1600 - s.fld Fld.TT_TIME_CYCLE)).2 = 0 ∧ (s.slotOpen c).cmdFree c 1 = true) := by simp [seen]
    rw [State.kept, if_neg silent]
    refine ⟨rfl, ?_⟩
    simp only [State.slotNoted, State.chan_modRef_same, State.chan_slotOpen]
    exact ⟨rfl, rfl, trivial, trivial⟩
  case refNop =>
    intro c s closed late runs up unseen free owed none
    refine ⟨_, execRefreshSlot_of_running closed late runs up, ?_⟩
    have takes : s.slotTakes c (1600 - s.fld Fld.TT_TIME_CYCLE) = (0, 0) := by simp [State.slotTakes, owed, none]
    have silent : (!((s.slotOpen c).chan c).ref.seen) = true ∧ ((0, 0) : Nat × Nat).1 = 0 ∧ ((0, 0) : Nat × Nat).2 = 0 ∧
        (s.slotOpen c).cmdFree c 1 = true := by simp [unseen, free]
    rw [takes, State.kept, if_pos silent, State.slotNoted, State.chan_modRef_same]
    exact State.lastCmd_launchAt ..
  case scrubEarly => exact fun c s early => congrArg _ (if_pos early)
  case scrubOff =>
    intro c s closed late off
    show execScrubSlot c s = _
    simp [execScrubSlot, closed, late, off]
  case scrubWaits =>
    intro c s closed late main on shown idle awake stopped early
    refine (execScrubSlot_of_walked closed late main on shown idle awake rfl).trans ?_
    have stopped (turn : Bool) : (s.scrubbed c turn).engineRuns c = false := by
      simpa [State.scrubbed, State.engineRuns, State.bundleUp] using stopped
    rw [if_neg (by simp [stopped])]
    simp [State.scrubbed, Nat.not_le_of_lt early]
  case scrubDue =>
    intro c s closed late main on shown idle awake stopped due
    refine (execScrubSlot_of_walked closed late main on shown idle awake rfl).trans ?_
    have stopped (turn : Bool) : (s.scrubbed c turn).engineRuns c = false := by
      simpa [State.scrubbed, State.engineRuns, State.bundleUp] using stopped
    rw [if_neg (by simp [stopped])]
    simp [State.scrubbed, due]
  case scrubIssues =>
    intro c s u closed late main on shown idle awake due hu runs free quiet up none
    have hu : u = s.scrubbed c (decide ((s.chan c).gTicks ≥ s.fld Fld.INT_GANGER_CFG_PERIOD)) := by
      simp [hu, State.scrubbed, due]
    refine (execScrubSlot_of_walked closed late main on shown idle awake hu).trans ?_
    rw [if_pos ⟨runs, free, by simp [quiet], by simp [up], by simp [none]⟩]
  case force =>
    intro c i s
    refine ⟨_, rfl, fun k => ?_⟩
    rw [State.chan_modRef_same]
    simp only [List.getElem?_map, List.getElem?_zipIdx, Option.map_map]
    cases (s.chan c).ref.nrefs[k]? with
    | none => rfl
    | some n => simp
  case retest =>
    intro c b r s main runs idle up quiet gap head free
    obtain ⟨l, head⟩ : ∃ l, (s.chan c).rtList = (b, r) :: l := List.head?_eq_some_iff.mp head
    refine ⟨_, execRetestStart_of_head main runs idle up quiet gap head free, ?_⟩
    obtain ⟨p, pushed, two⟩ := State.chan_pushRow c b r false .rtRead (fun _ => 0) (s.modChan c fun y => { y with
      rt := some { bank := b, row := r, since := s.cc }, rtList := y.rtList.erase (b, r), rtGap := s.fld Fld.INT_RETEST_CFG_SPACING })
    rw [State.chan_reside, pushed]
    simpa [head] using two
  case overrun =>
    intro c r s job new long
    show execEventJobOverrun c false s = _
    simp [execEventJobOverrun, job, new, Nat.not_le_of_lt long, State.modRt, State.modChan]
  case inTime =>
    intro c r s job done
    show execEventJobOverrun c false s = _
    simp only [execEventJobOverrun, job, Bool.false_eq_true, if_false, if_pos done]
  case fill =>
    intro c f s one new long
    show execEventJobOverrun c true s = _
    simp [execEventJobOverrun, one, new, long, State.modChan]

end Sys2Proof.Machine
end

section
/-! PROOFS. The frame tick: what closes the frame, what the staged values do, and what the rest of the tick leaves of time and of the low registers. -/
namespace Sys2Proof.Machine

/-! ### The parts of the tick (R61) -/

/-- The ending frame closed: overruns counted, the snapshot taken, the next frame begun. -/
def State.tickOpened (s : State) (core : Bool) : State := (s.when core State.countOverruns).snapshot.nextFrame

/-- The cut slots over and the staged values in place. -/
def State.tickStaged (s : State) (core : Bool) (cut : List Nat) : State := (s.when core fun u => u.cutSlots cut).applyStaged

/-- The corrections, the refill and the intervals of the core domain. -/
def State.tickWork (s : State) (core : Bool) : State :=
  let s := s.when core State.applyCore
  let s := s.setTherm s.thermWanted
  let s := s.when core State.refillAll
  let s := s.chans.foldl (fun s e => s.accrue e.1) s
  s.when core State.coreIntervals

/-- The counts of the service island moved on. -/
def State.serviceTicked (s : State) : State := { s with
  ticks := s.ticks + 1
  box := s.box.ticked
  thm := { s.thm with done := false }
  park := { s.park with ticks := if s.park.step = .none then s.park.ticks else s.park.ticks + 1 } }

theorem execFrameTick_of_running {a b : Bool} {s : State} (b0 : s.start.b0 = true) (out : s.hold = none) (up : s.resetting = false) :
    execFrameTick a b s =
      .next ((((s.tickOpened s.coreRuns).tickStaged s.coreRuns s.cutRefresh).tickWork s.coreRuns).serviceIntervals a b) := by
  have running : ¬(¬s.start.b0 = true ∨ s.hold.isSome = true ∨ s.resetting = true) := by simp [b0, out, up]
  rw [execFrameTick, if_neg running]
  rfl

theorem execFrameTick_of_stopped {a b : Bool} {s : State} (stopped : s.start.b0 = false ∨ s.hold.isSome = true ∨ s.resetting = true) :
    execFrameTick a b s = .next s := by
  rw [execFrameTick, if_pos (by simpa using stopped)]

/-! ### Time, the ticks and the staged values through the tick -/

section
variable (s : State) (core : Bool)

theorem State.tickWork_frame : (s.tickWork core).Frame 0xc7f97a s :=
  State.when_frame (State.Frame.foldl (State.when_frame (State.setTherm_frame (State.when_frame .rfl' (by rfl) fun _ h => State.applyCore_frame h (by rfl)) (by rfl) _)
    (by rfl) fun _ h => State.refillAll_frame h (by rfl)) fun _ _ h => State.accrue_frame h (by rfl) _) (by rfl) fun _ h => State.coreIntervals_frame h (by rfl)

theorem State.serviceIntervals_frame_ticked (a b : Bool) : (s.serviceIntervals a b).Frame 0xa2784a s.serviceTicked :=
  State.nvmKick_frame (State.tellHold_frame (State.testLimits_frame (.ite (State.bump_frame .rfl' (by rfl) ..) .rfl') (by rfl) ..) (by rfl)) (by rfl)

theorem State.tickStaged_frame (cut : List Nat) : (s.tickStaged core cut).Frame 0x82784e s :=
  State.applyStaged_frame (State.when_frame .rfl' (by rfl) fun _ h => State.cutSlots_frame h (by rfl) _) (by rfl)

theorem State.tickOpened_frame : (s.tickOpened core).Frame 0x2000006 s :=
  State.nextFrame_frame (State.snapshot_frame (State.when_frame .rfl' (by rfl) fun _ h => State.countOverruns_frame h (by rfl)) (by rfl)) (by rfl)

end

theorem State.staged_applyStaged (s : State) : s.applyStaged.fab.later = [] ∧ s.applyStaged.fab.ready = [] := by
  unfold State.applyStaged
  constructor
  · exact State.ite_keeps (·.fab.later) rfl rfl
  · exact State.ite_keeps (·.fab.ready) rfl rfl

theorem State.cc_tickOpened (s : State) (core : Bool) : (s.tickOpened core).cc = (s.cc / 1600 + 1) * 1600 := by
  have before : (s.when core State.countOverruns).snapshot.cc = s.cc :=
    (State.snapshot_frame (n := 0x6) (State.when_frame .rfl' (by rfl) fun _ h => State.countOverruns_frame h (by rfl)) (by rfl)).cc rfl
  have inner (u v : State) (h : u.cc = v.cc) : ((u.setFld Fld.TT_TIME_CYCLE 0).cc / 1600 + 1) * 1600 = (v.cc / 1600 + 1) * 1600 := by rw [State.setFld_cc, h]
  refine (inner _ (s.when core State.countOverruns).snapshot ?_).trans (by rw [before])
  exact State.ite_keeps (·.cc) rfl (State.ite_keeps (·.cc) rfl rfl)

/-- Step 3 puts the one value due into its field. -/
theorem State.fld_applyStaged_one {f : Field} {i j v : Nat} {s : State} (ready : s.fab.ready = [{ key := f.key i j, dflt := f.reset i j, val := v }])
    (later : s.fab.later = []) (g : Field) (k l : Nat) :
    s.applyStaged.fld g k l = Store.get (Store.set s.regs (f.key i j) (f.reset i j) v) (g.key k l) (g.reset k l) := by
  unfold State.applyStaged
  rw [ready, later]
  exact State.ite_keeps (fun u => u.fld g k l) rfl rfl

/-! ### The low registers -/

/-- The fields of GLB and TT as the registers list them. -/
def State.low (s : State) (k : Nat) : Option Nat := if k < 64 * Blk.base .trk then Store.find s.regs k else none

theorem State.fld_of_low {s t : State} {f : Field} {i j : Nat} (h : t.low = s.low) (hf : f.key i j < 64 * Blk.base .trk) : t.fld f i j = s.fld f i j := by
  have find := congrFun h (f.key i j)
  simp only [State.low, if_pos hf] at find
  simp only [State.fld, Store.get, find]

theorem State.low_setFld {f : Field} (hf : Blk.base .trk ≤ f.blk.base) (v i j : Nat) (s : State) : (s.setFld f v i j).low = s.low := by
  funext k
  by_cases hk : k < 64 * Blk.base .trk
  · have ge := f.key_ge i j
    have ne : k ≠ f.key i j := by omega
    have find : Store.find (s.setFld f v i j).regs k = Store.find s.regs k := by
      show Store.find (Store.set s.regs (f.key i j) (f.reset i j) _) k = _
      unfold Store.set
      split
      · exact Store.find_del_ne _ ne
      · exact Store.find_put_ne _ _ ne
    simp only [State.low, if_pos hk, find]
  · simp only [State.low, if_neg hk]

/-- What the calm part of the tick keeps: the low registers, and what the fabric, self-test, the start and the valid map hold. -/
def State.calm (s : State) : (Nat → Option Nat) × Fabric × Bst × Start × Store (BitVec 8) × Bool :=
  (s.low, s.fab, s.bst, s.start, s.vmap.mem, s.vmap.clear)

/-- The same with the channels and the decoders. -/
def State.calmWork (s : State) : ((Nat → Option Nat) × Fabric × Bst × Start × Store (BitVec 8) × Bool) × Store Chan × Codec :=
  (s.calm, s.chans, s.codec)

theorem State.calmWork_setFld {f : Field} (hf : Blk.base .trk ≤ f.blk.base) (v i j : Nat) (s : State) : (s.setFld f v i j).calmWork = s.calmWork := by
  show (((s.setFld f v i j).low, _), _) = _
  rw [State.low_setFld hf]
  rfl

theorem State.calm_setFld {f : Field} (hf : Blk.base .trk ≤ f.blk.base) (v i j : Nat) (s : State) : (s.setFld f v i j).calm = s.calm :=
  congrArg Prod.fst (State.calmWork_setFld hf v i j s)

theorem State.calmWork_bump {f : Field} (hf : Blk.base .trk ≤ f.blk.base) (i j n : Nat) (s : State) : (s.bump f i j n).calmWork = s.calmWork :=
  State.ite_keeps State.calmWork rfl (State.calmWork_setFld hf ..)

theorem outsideNotes_calmWork (s : State) : OutsideNotes fun t => t.calmWork = s.calmWork :=
  ⟨fun _ _ h => h, fun _ _ h => h, fun t f v i j hf h =>
    (State.calmWork_setFld (by rcases hf.1 with hf | hf <;> rw [hf] <;> decide) v i j t).trans h⟩

theorem State.calmWork_repSet (e : RepEnt) (s : State) : (s.repSet e).calmWork = s.calmWork := by
  unfold State.repSet State.addDelta
  refine State.ite_keeps State.calmWork ?_ ((outsideNotes_calmWork s).journal ?_ ..)
  · exact State.calmWork_setFld (by decide) ..
  · exact State.calmWork_setFld (by decide) ..

theorem State.calmWork_mapRowsTick (s : State) : s.mapRowsTick.calmWork = s.calmWork :=
  State.foldl_keeps State.calmWork (fun e u => by rw [State.calmWork_bump (by decide), State.calmWork_repSet]; rfl) s.vmap.moving
    { s with vmap := { s.vmap with moving := [] } }

theorem State.calm_refill (w : Bool) (d : Nat) (full : Bool) (s : State) : (s.refill w d full).calm = s.calm := by
  refine (State.calm_setFld ?_ ..).trans (State.upTo_keeps State.calm (fun _ _ => rfl) 64 s)
  cases w <;> decide

theorem State.Frame.calm {n : Nat} {s t : State} (h : t.Frame n s) (hn : n.testBit 1 = false ∧ n.testBit 2 = false ∧ n.testBit 15 = false ∧
    n.testBit 17 = false ∧ n.testBit 21 = false) : t.calm = s.calm := by
  obtain ⟨regs, fab, vmap, bst, start⟩ := hn
  have low : t.low = s.low := by
    unfold State.low
    rw [h.regs regs]
  simp only [State.calm, low, h.fab fab, h.vmap vmap, h.bst bst, h.start start]

theorem State.calm_refillAll (s : State) : s.refillAll.calm = s.calm := by
  have now : ((s.setFld Fld.BWR_DNOW_RD_D s.bwr.d.1).setFld Fld.BWR_DNOW_WR_D s.bwr.d.2).calm = s.calm := by
    rw [State.calm_setFld (by decide), State.calm_setFld (by decide)]
  have unregulated (u : State) : ((u.setFld Fld.BWR_SCALE_RD_K 65536).setFld Fld.BWR_SCALE_WR_K 65536).calm = u.calm := by
    rw [State.calm_setFld (by decide), State.calm_setFld (by decide)]
  have regulated (full : Bool) (x y : Nat) (u : State) : ((u.refill false x full).refill true y full).calm = u.calm := by
    rw [State.calm_refill, State.calm_refill]
  have account (u : State) (b : Bwr) : ({ u with bwr := b } : State).calm = u.calm :=
    State.Frame.calm (n := 0x4000) (.set_bwr .rfl' rfl) ⟨rfl, rfl, rfl, rfl, rfl⟩
  unfold State.refillAll
  dsimp only
  split
  · exact (account ..).trans ((unregulated _).trans now)
  · exact (account ..).trans ((regulated ..).trans now)

theorem State.calm_coreIntervals (s : State) : s.coreIntervals.calm = s.calm :=
  (State.coreIntervals_frame (n := 0x406920) .rfl' (.refl _)).calm ⟨rfl, rfl, rfl, rfl, rfl⟩

theorem State.calm_when {g : State → State} (hg : ∀ s, (g s).calm = s.calm) (b : Bool) (s : State) : (s.when b g).calm = s.calm :=
  State.ite_keeps State.calm (hg s) rfl

/-- The CLEAR of the valid map and what of the map it leaves. -/
theorem State.calm_clearMap (s : State) : s.clearMap.calm =
    (s.low, s.fab, s.bst, s.start, if s.vmap.clear then [] else s.vmap.mem, false) := by
  cases h : s.vmap.clear with
  | false => simp [State.clearMap, h, State.calm]
  | true =>
    rw [State.clearMap, if_neg (by simp [h])]
    exact (State.calm_setFld (by decide) ..).trans ((State.calm_setFld (by decide) ..).trans rfl)

theorem State.chans_clearMap {s : State} (h : s.chans = []) : s.clearMap.chans = [] :=
  State.ite_keeps (·.chans) h (by simp [State.mapChans, h])

theorem State.codec_clearMap (s : State) : s.clearMap.codec = s.codec := State.ite_keeps (·.codec) rfl rfl

/-! ### The tick of a still device -/

/-- The parts of State.still that the tick's steps rest on. -/
structure State.Idle (s : State) : Prop where
  ready : s.fab.ready = []
  later : s.fab.later = []
  trks : s.trks = []
  chans : s.chans = []
  bund : s.vert.bund = []
  codec : s.codec = {}

theorem State.still.idle {s : State} (h : s.still) : s.Idle := ⟨h.ready, h.later, h.trks, h.chans, h.bund, h.codec⟩

theorem State.calm_applyStaged {s : State} (h : s.Idle) : s.applyStaged.calm = s.calm := by
  have same : ({ s with regs := s.regs, fab := { s.fab with ready := [], later := [] } } : State).calm = s.calm := by
    show (s.low, _) = (s.low, _)
    rw [show ({ s.fab with ready := [], later := [] } : Fabric) = { s.fab with ready := s.fab.ready, later := s.fab.later } by rw [h.ready, h.later]]
  unfold State.applyStaged
  rw [h.ready, h.later]
  exact State.ite_keeps State.calm same same

theorem State.Idle.applyStaged {s : State} (h : s.Idle) : s.applyStaged.Idle := by
  have frame : s.applyStaged.Frame 0x4006 s := State.applyStaged_frame .rfl' (.refl _)
  obtain ⟨later, ready⟩ := State.staged_applyStaged s
  exact ⟨ready, later, (frame.trks rfl).trans h.trks, (frame.chans rfl).trans h.chans, (congrArg Vert.bund (frame.vert rfl)).trans h.bund,
    (frame.codec rfl).trans h.codec⟩

theorem State.Idle.cutSlots {s : State} (h : s.Idle) : (s.cutSlots []).Idle :=
  ⟨h.ready, h.later, h.trks, by simp [State.cutSlots, State.mapChans, h.chans], h.bund, h.codec⟩

theorem State.Idle.tickStaged {s : State} (h : s.Idle) (core : Bool) : (s.tickStaged core []).Idle ∧ (s.tickStaged core []).calm = s.calm := by
  cases core with
  | false => exact ⟨h.applyStaged, State.calm_applyStaged h⟩
  | true => exact ⟨h.cutSlots.applyStaged, State.calm_applyStaged h.cutSlots⟩

theorem State.calm_clearMap_congr {s t : State} (h : t.calm = s.calm) : t.clearMap.calm = s.clearMap.calm := by
  simp only [State.calm, Prod.mk.injEq] at h
  obtain ⟨low, fab, bst, start, mem, clear⟩ := h
  rw [State.calm_clearMap, State.calm_clearMap, low, fab, bst, start, mem, clear]

theorem State.chans_mapChans_nil {s : State} (h : s.chans = []) (g : Chan → Chan) : (s.mapChans g).chans = [] := congrArg (List.map _) h

/-- The work noted of no channel. -/
theorem State.noteWork_of_idle {s : State} (h : s.chans = []) : s.noteWork.calm = s.calm ∧ s.noteWork.chans = [] := by
  constructor
  · exact (State.noteWork_frame (n := 0x40800) .rfl' (.refl _)).calm ⟨rfl, rfl, rfl, rfl, rfl⟩
  · refine State.chans_mapChans_nil ?_ _
    refine Eq.trans (State.upTo_keeps (·.chans) ?_ 16 s) h
    intro l u
    rfl

/-- With nothing at work step 3 clears the map, where that is asked, and moves map rows. -/
theorem State.Idle.applyCore {s : State} (h : s.Idle) : s.applyCore.calm = s.clearMap.calm ∧ s.applyCore.chans = [] := by
  have quiet : (s.upTo 4 fun q u => u.setFld Fld.VLQ_STATUS_QUIET 0 q).calmWork = s.calmWork :=
    State.upTo_keeps State.calmWork (fun _ _ => State.calmWork_setFld (by decide) ..) 4 s
  have moved := State.calmWork_mapRowsTick (s.upTo 4 fun q u => u.setFld Fld.VLQ_STATUS_QUIET 0 q).clearMap
  generalize hv : (s.upTo 4 fun q u => u.setFld Fld.VLQ_STATUS_QUIET 0 q) = v at quiet moved
  simp only [State.calmWork, Prod.mk.injEq] at quiet moved
  obtain ⟨calm, chans, codec⟩ := quiet
  obtain ⟨calmMoved, chansMoved, codecMoved⟩ := moved
  have noChans : v.clearMap.mapRowsTick.chans = [] := chansMoved.trans (State.chans_clearMap (chans.trans h.chans))
  have noCodec : v.clearMap.mapRowsTick.codec = {} := codecMoved.trans ((State.codec_clearMap v).trans (codec.trans h.codec))
  have steps : s.applyCore = v.clearMap.mapRowsTick.noteWork := by
    have decoders : v.clearMap.mapRowsTick.codecTick = v.clearMap.mapRowsTick := by
      rw [State.codecTick, noCodec]
      rfl
    unfold State.applyCore
    rw [h.bund, List.foldl_nil]
    dsimp only
    rw [h.trks, List.foldl_nil, hv, noChans, List.foldl_nil, decoders]
  obtain ⟨noted, none⟩ := State.noteWork_of_idle noChans
  rw [steps]
  exact ⟨noted.trans (calmMoved.trans (State.calm_clearMap_congr calm)), none⟩

theorem State.calm_setTherm (low : Bool) (s : State) : (s.setTherm low).calm = s.calm :=
  State.calm_setFld (f := Fld.THM_STATUS_THERM) (by decide) _ _ _ { s with pins := { s.pins with thermLow := low } }

/-- Where no channel is at work the rest of the tick's work is calm. -/
theorem State.calm_refilled {s : State} (h : s.chans = []) (core : Bool) :
    ((((s.setTherm s.thermWanted).when core State.refillAll).chans.foldl (fun s e => s.accrue e.1)
      ((s.setTherm s.thermWanted).when core State.refillAll)).when core State.coreIntervals).calm = s.calm := by
  have frame : ((s.setTherm s.thermWanted).when core State.refillAll).Frame 0x4012 s :=
    State.when_frame (State.setTherm_frame .rfl' (by rfl) _) (by rfl) fun _ h => State.refillAll_frame h (by rfl)
  rw [State.calm_when State.calm_coreIntervals, frame.chans rfl, h, List.foldl_nil, State.calm_when State.calm_refillAll, State.calm_setTherm]

theorem State.Idle.tickWork {s : State} (h : s.Idle) (core : Bool) : (s.tickWork core).calm = (s.when core State.clearMap).calm := by
  cases core with
  | false => exact State.calm_refilled h.chans false
  | true =>
    obtain ⟨calm, chans⟩ := h.applyCore
    exact (State.calm_refilled chans true).trans calm

/-- Without a test and with the last save reported the service island's part of the tick is calm. -/
theorem State.calm_serviceIntervals {s : State} (test : s.bst.kind = 0) (chTest : s.bst.ch = none) (told : s.start.told = true) (a b : Bool) :
    (s.serviceIntervals a b).calm = s.calm := by
  have aged (c : Prop) [Decidable c] : (if c then s.serviceTicked.bump Fld.BST_SEAL_AGE_AGE else s.serviceTicked).calm = s.calm :=
    State.ite_keeps State.calm (congrArg Prod.fst (State.calmWork_bump (by decide) ..)) rfl
  have limits (u : State) (h : u.calm = s.calm) : (u.testLimits a b).tellHold.nvmKick.calm = s.calm := by
    simp only [State.calm, Prod.mk.injEq] at h
    obtain ⟨low, fab, bst, start, mem, clear⟩ := h
    have noTest : u.testLimits a b = u := by simp [State.testLimits, bst, test, chTest]
    have noTell : u.tellHold = u := by simp [State.tellHold, start, told]
    rw [noTest, noTell]
    have kicked : u.nvmKick.calmWork = u.calmWork := (outsideNotes_calmWork u).nvmKick rfl
    have calm : u.nvmKick.calm = u.calm := congrArg Prod.fst kicked
    rw [calm]
    simp only [State.calm, low, fab, bst, start, mem, clear]
  exact limits _ (aged _)

/-! ### The frame closed (R45, R47, R53, R509) -/

/-- The overruns are counted above the time, the status and the snapshot. -/
theorem State.fld_counted {e : Field} (h : e.key 0 0 < 64 * 0x1020) (core : Bool) (s : State) : (s.when core State.countOverruns).fld e = s.fld e := by
  have above (j : Nat) : e.key 0 0 ≠ Fld.TT_OVERRUN_COUNT.key 0 j := by
    have key : Fld.TT_OVERRUN_COUNT.key 0 j = 64 * 0x1020 + 256 * j := by
      simp [Field.key, Field.addr, Fld.TT_OVERRUN_COUNT, Blk.base]
      omega
    omega
  refine State.ite_keeps (·.fld e) ?_ rfl
  unfold State.countOverruns
  rw [State.fld_bump_ne _ _ (above 3), State.fld_bump_ne _ _ (above 2), State.fld_bump_ne _ _ (above 1), State.fld_bump_ne _ _ (above 0)]

theorem State.fab_counted (core : Bool) (s : State) : (s.when core State.countOverruns).fab = s.fab :=
  (State.when_frame (n := 0x2) .rfl' (by rfl) fun _ h => State.countOverruns_frame h (by rfl)).fab rfl

/-- A snapshot writes the fields of SNAP and SNAP_SEQ alone. -/
theorem State.fld_snapshot {e : Field} (h : 64 * 0x1000 ≤ e.key 0 0) (s : State) : s.snapshot.fld e = s.fld e := by
  have seq : e.key 0 0 ≠ Fld.GLB_SNAP_SEQ_SEQ.key 0 0 := ne_of_gt (lt_of_lt_of_le (by decide) h)
  have valid : e.key 0 0 ≠ Fld.GLB_SNAP_VALID.key 0 0 := ne_of_gt (lt_of_lt_of_le (by decide) h)
  have pending : e.key 0 0 ≠ Fld.GLB_SNAP_PENDING.key 0 0 := ne_of_gt (lt_of_lt_of_le (by decide) h)
  refine State.ite_keeps (·.fld e) rfl ?_
  dsimp only
  rw [State.fld_setFld_ne _ _ pending, State.fld_setFld_ne _ _ valid]
  exact State.fld_setFld_ne _ _ seq

/-- Of the fabric a snapshot writes its copy alone. -/
theorem State.fab_snapshot {β : Type} (view : Fabric → β) (hv : ∀ (f : Fabric) (m : Store Nat), view { f with snp := m } = view f) (s : State) :
    view s.snapshot.fab = view s.fab := State.ite_keeps (fun u => view u.fab) rfl (hv ..)

/-- A pending snapshot copies the ending frame's number and is done (R509). -/
theorem State.snapshot_of_pending {s : State} (h : s.flag Fld.GLB_SNAP_PENDING = true) :
    Store.find s.snapshot.fab.snp (Fld.TT_TIME_FRAME.key 0 0) = some (s.fld Fld.TT_TIME_FRAME) ∧
    s.snapshot.fld Fld.GLB_SNAP_PENDING = 0 ∧ s.snapshot.fld Fld.GLB_SNAP_VALID = 1 := by
  unfold State.snapshot
  rw [if_neg (by simp [h])]
  refine ⟨?_, State.fld_setFld_same .., ?_⟩
  · exact (Store.find_put_ne _ _ (by decide)).trans (Store.find_put_same ..)
  · exact (State.fld_setFld_ne _ _ (by decide)).trans (State.fld_setFld_same ..)

/-- The frame number loaded (R53). -/
def State.frameLoaded (s : State) : State := (s.setFld Fld.TT_TIME_FRAME (s.fld Fld.TT_FRAME_LOAD_VALUE)).setFld Fld.TT_STATUS_EPOCH_SET 1

/-- The frame number moved on (R45, R47, R53). -/
def State.frameNumbered (s : State) : State :=
  if s.fab.frameLoad then { s.frameLoaded with fab := { s.fab with frameLoad := false } }
  else if s.fld Fld.TT_TIME_FRAME = 2 ^ 48 - 1 then (s.setFld Fld.TT_TIME_FRAME 0).setFld Fld.TT_STATUS_FRAME_WRAP 1
  else s.setFld Fld.TT_TIME_FRAME (s.fld Fld.TT_TIME_FRAME + 1)

theorem State.nextFrame_eq (s : State) : s.nextFrame = { (s.frameNumbered.setFld Fld.TT_TIME_CYCLE 0) with cc := (s.frameNumbered.cc / 1600 + 1) * 1600 } :=
  rfl

theorem State.fld_nextFrame_ne {e : Field} (h : e.key 0 0 ≠ Fld.TT_TIME_CYCLE.key 0 0) (s : State) : s.nextFrame.fld e = s.frameNumbered.fld e :=
  State.fld_setFld_ne s.frameNumbered 0 h

theorem State.fld_nextFrame_cycle (s : State) : s.nextFrame.fld Fld.TT_TIME_CYCLE = 0 := State.fld_setFld_same s.frameNumbered Fld.TT_TIME_CYCLE 0 0 0

theorem State.fld_frameNumbered_of_load {s : State} (h : s.fab.frameLoad = true) (e : Field) : s.frameNumbered.fld e = s.frameLoaded.fld e := by
  rw [State.frameNumbered, if_pos h]
  rfl

/-- The next frame leaves the registers of GLB alone. -/
theorem State.fld_nextFrame_glb {e : Field} (h : e.key 0 0 < 64 * 0x1000) (s : State) : s.nextFrame.fld e = s.fld e := by
  have frame : e.key 0 0 ≠ Fld.TT_TIME_FRAME.key 0 0 := ne_of_lt (lt_of_lt_of_le h (by decide))
  have epoch : e.key 0 0 ≠ Fld.TT_STATUS_EPOCH_SET.key 0 0 := ne_of_lt (lt_of_lt_of_le h (by decide))
  have wrap : e.key 0 0 ≠ Fld.TT_STATUS_FRAME_WRAP.key 0 0 := ne_of_lt (lt_of_lt_of_le h (by decide))
  rw [State.fld_nextFrame_ne (ne_of_lt (lt_of_lt_of_le h (by decide)))]
  by_cases load : s.fab.frameLoad = true
  · rw [State.fld_frameNumbered_of_load load]
    exact (State.fld_setFld_ne _ _ epoch).trans (State.fld_setFld_ne _ _ frame)
  · rw [State.frameNumbered, if_neg load]
    split
    · exact (State.fld_setFld_ne _ _ wrap).trans (State.fld_setFld_ne _ _ frame)
    · exact State.fld_setFld_ne _ _ frame

theorem State.fab_nextFrame (s : State) : s.nextFrame.fab = { s.fab with frameLoad := false } := by
  show s.frameNumbered.fab = _
  unfold State.frameNumbered
  split
  · rfl
  · next noLoad =>
    have same : s.fab = { s.fab with frameLoad := false } := by rw [← Bool.eq_false_iff.mpr noLoad]
    split
    · exact same
    · exact same

/-- Without a load the frame number counts on. -/
theorem State.frame_nextFrame {s : State} (h : s.fab.frameLoad = false) :
    s.nextFrame.fld Fld.TT_TIME_FRAME = (s.fld Fld.TT_TIME_FRAME + 1) % 2 ^ 48 := by
  rw [State.fld_nextFrame_ne (by decide), State.frameNumbered, if_neg (by simp [h])]
  split
  · next last =>
    rw [last]
    exact (State.fld_setFld_ne _ _ (by decide)).trans (State.fld_setFld_same ..)
  · exact State.fld_setFld_same ..

/-- At the wrap FRAME_WRAP reads 1 (R47). -/
theorem State.wrap_nextFrame {s : State} (h : s.fab.frameLoad = false) (last : s.fld Fld.TT_TIME_FRAME = 2 ^ 48 - 1) :
    s.nextFrame.fld Fld.TT_STATUS_FRAME_WRAP = 1 := by
  rw [State.fld_nextFrame_ne (by decide), State.frameNumbered, if_neg (by simp [h]), if_pos last]
  exact State.fld_setFld_same ..

/-- A load sets the frame number and the epoch (R53). -/
theorem State.load_nextFrame {s : State} (h : s.fab.frameLoad = true) :
    s.nextFrame.fld Fld.TT_TIME_FRAME = s.fld Fld.TT_FRAME_LOAD_VALUE % 2 ^ 48 ∧ s.nextFrame.fld Fld.TT_STATUS_EPOCH_SET = 1 := by
  rw [State.fld_nextFrame_ne (by decide), State.fld_nextFrame_ne (by decide), State.fld_frameNumbered_of_load h, State.fld_frameNumbered_of_load h]
  exact ⟨(State.fld_setFld_ne _ _ (by decide)).trans (State.fld_setFld_same ..), State.fld_setFld_same ..⟩

/-! ### The whole tick -/

section
variable {s : State} (h : s.still) (core : Bool)
include h

/-- The closed frame of a still device is still. -/
theorem State.still.tickOpened_idle : (s.tickOpened core).Idle := by
  have frame := State.tickOpened_frame s core
  have kept {β : Type} (view : Fabric → β) (snp : ∀ (f : Fabric) (m : Store Nat), view { f with snp := m } = view f)
      (load : ∀ f : Fabric, view { f with frameLoad := false } = view f) : view (s.tickOpened core).fab = view s.fab := by
    rw [State.tickOpened, State.fab_nextFrame, load, State.fab_snapshot view snp, State.fab_counted]
  exact ⟨(kept (·.ready) (fun _ _ => rfl) fun _ => rfl).trans h.ready, (kept (·.later) (fun _ _ => rfl) fun _ => rfl).trans h.later,
    (frame.trks rfl).trans h.trks, (frame.chans rfl).trans h.chans, (congrArg Vert.bund (frame.vert rfl)).trans h.bund,
    (frame.codec rfl).trans h.codec⟩

end

/-- Past the close of the frame the tick only clears the map, where that is asked, when nothing is at work. -/
theorem State.Idle.calm_tick {o : State} (idle : o.Idle) (test : o.bst.kind = 0) (chTest : o.bst.ch = none) (told : o.start.told = true)
    (core a b : Bool) : (((o.tickStaged core []).tickWork core).serviceIntervals a b).calm = (o.when core State.clearMap).calm := by
  obtain ⟨stagedIdle, staged⟩ := idle.tickStaged core
  have worked : ((o.tickStaged core []).tickWork core).calm = (o.when core State.clearMap).calm := by
    rw [stagedIdle.tickWork core]
    cases core with
    | false => exact staged
    | true => exact State.calm_clearMap_congr staged
  have cleared : (o.when core State.clearMap).Frame 0x8802 o := State.when_frame .rfl' (by rfl) fun _ h => State.clearMap_frame h (by rfl)
  have work := worked
  simp only [State.calm, Prod.mk.injEq] at work
  obtain ⟨-, -, bst, start, -, -⟩ := work
  rw [cleared.bst rfl] at bst
  rw [cleared.start rfl] at start
  exact (State.calm_serviceIntervals (by rw [bst, test]) (by rw [bst, chTest]) (by rw [start, told]) a b).trans worked

/-- The map's CLEAR, where the core runs, beside what it leaves alone. -/
theorem State.calm_when_clearMap (o : State) (core : Bool) : (o.when core State.clearMap).calm =
    (o.low, o.fab, o.bst, o.start, if (core && o.vmap.clear) = true then [] else o.vmap.mem, !core && o.vmap.clear) := by
  cases core with
  | false => simp [State.when, State.calm]
  | true => simpa [State.when] using State.calm_clearMap o

/-- The counts and the snapshot leave the time and its status as they were. -/
theorem State.fld_snapped {e : Field} (h : 64 * 0x1000 ≤ e.key 0 0 ∧ e.key 0 0 < 64 * 0x1020) (core : Bool) (s : State) :
    (s.when core State.countOverruns).snapshot.fld e = s.fld e := (State.fld_snapshot h.1 _).trans (State.fld_counted h.2 core s)

theorem State.frameLoad_snapped (core : Bool) (s : State) : (s.when core State.countOverruns).snapshot.fab.frameLoad = s.fab.frameLoad := by
  rw [State.fab_snapshot (·.frameLoad) fun _ _ => rfl, State.fab_counted]

/-- Settles O19: what waits for the tick takes effect before the work of the domains, and none of that work writes time, its status or SNAP. -/
theorem frameTickAdvancesTime : Obligations.FrameTickAdvancesTime := by
  unfold Obligations.FrameTickAdvancesTime
  refine ⟨fun a b s b0 out up => ?time, fun a b s stopped => execFrameTick_of_stopped stopped, fun f i j v s ready later => ?staged,
    fun a b s still b0 out up => ?still⟩
  case time =>
    refine ⟨_, execFrameTick_of_running b0 out up, ?_⟩
    have opened := State.tickOpened_frame s s.coreRuns
    have staged := State.tickStaged_frame (s.tickOpened s.coreRuns) s.coreRuns s.cutRefresh
    have worked := State.tickWork_frame ((s.tickOpened s.coreRuns).tickStaged s.coreRuns s.cutRefresh) s.coreRuns
    have served := State.serviceIntervals_frame_ticked (((s.tickOpened s.coreRuns).tickStaged s.coreRuns s.cutRefresh).tickWork s.coreRuns) a b
    obtain ⟨later, ready⟩ := State.staged_applyStaged ((s.tickOpened s.coreRuns).when s.coreRuns fun u => u.cutSlots s.cutRefresh)
    refine ⟨?_, ?_, ?_, ?_, ?_⟩
    · exact (served.cc rfl).trans ((worked.cc rfl).trans ((staged.cc rfl).trans (State.cc_tickOpened ..)))
    · exact (served.ticks rfl).trans (congrArg (· + 1) ((worked.ticks rfl).trans ((staged.ticks rfl).trans (opened.ticks rfl))))
    · rw [served.thm rfl]
      rfl
    · rw [served.fab rfl]
      exact (congrArg Fabric.later (worked.fab rfl)).trans later
    · rw [served.fab rfl]
      exact (congrArg Fabric.ready (worked.fab rfl)).trans ready
  case staged =>
    refine ⟨?_, fun g k l other => ?_⟩
    · rw [State.fld_applyStaged_one ready later, Store.get_set_same]
    · rw [State.fld_applyStaged_one ready later, Store.get_set_ne _ _ _ _ other]
      rfl
  case still =>
    have none : s.cutRefresh = [] := by simp [State.cutRefresh, still.chans]
    refine ⟨_, execFrameTick_of_running b0 out up, ?_⟩
    have opened := State.tickOpened_frame s s.coreRuns
    have calm := (still.tickOpened_idle s.coreRuns).calm_tick (by rw [opened.bst rfl, still.test]) (by rw [opened.bst rfl, still.chTest])
      (by rw [opened.start rfl, still.told]) s.coreRuns a b
    rw [State.calm_when_clearMap] at calm
    simp only [State.calm, Prod.mk.injEq] at calm
    obtain ⟨low, fab, -, -, mem, clear⟩ := calm
    have frameLoad := State.frameLoad_snapped s.coreRuns s
    rw [none]
    refine ⟨?cycle, ?load, fun noLoad => ?frame, fun noLoad last => ?wrap, fun load => ?loaded, fun pending => ?snap, fun awake asked => ?map⟩
    case cycle => exact (State.fld_of_low low (by decide)).trans (State.fld_nextFrame_cycle _)
    case load => rw [fab, State.tickOpened, State.fab_nextFrame]
    case frame =>
      rw [State.fld_of_low low (by decide), State.tickOpened, State.frame_nextFrame (frameLoad.trans noLoad), State.fld_snapped (by decide)]
    case wrap =>
      rw [State.fld_of_low low (by decide), State.tickOpened]
      exact State.wrap_nextFrame (frameLoad.trans noLoad) ((State.fld_snapped (by decide) ..).trans last)
    case loaded =>
      obtain ⟨number, epoch⟩ := State.load_nextFrame (frameLoad.trans load)
      rw [State.fld_of_low low (by decide), State.fld_of_low low (by decide), State.tickOpened, number, State.fld_snapped (by decide)]
      exact ⟨rfl, epoch⟩
    case snap =>
      have counted : (s.when s.coreRuns State.countOverruns).flag Fld.GLB_SNAP_PENDING = true := by
        rw [State.flag, State.fld_counted (by decide)]
        exact pending
      obtain ⟨copy, done, valid⟩ := State.snapshot_of_pending counted
      rw [State.fld_of_low low (by decide), State.fld_of_low low (by decide), fab, State.tickOpened, State.fab_nextFrame,
        State.fld_nextFrame_glb (by decide), State.fld_nextFrame_glb (by decide)]
      exact ⟨copy.trans (congrArg some (State.fld_counted (by decide) ..)), done, valid⟩
    case map =>
      have core : s.coreRuns = true := by simp [State.coreRuns, b0, out, awake]
      have vmap : (s.tickOpened s.coreRuns).vmap = s.vmap := opened.vmap rfl
      rw [mem, clear, vmap, asked, core]
      exact ⟨rfl, rfl⟩

end Sys2Proof.Machine
end

section
/-! PROOFS. The commands of TRK: what a write of LANE_CMD, SPARE_STATE, PRBS_CTL, INJ_CTL and TRAIN_CTL does once it is performed. -/
namespace Sys2Proof.Machine

/-! ### Fields of one block -/

/-- Two fields of one block, at the same index of it, whose registers or lowest bits differ. -/
theorem Field.key_ne_of_off {f g : Field} {j l : Nat} (hb : f.blk = g.blk) (h : (f.off + f.jstr * j) * 64 + f.lo ≠ (g.off + g.jstr * l) * 64 + g.lo)
    (i : Nat) : f.key i j ≠ g.key i l := by
  simp only [Field.key, Field.addr, hb]
  omega

theorem State.fld_setFld_off {f g : Field} (h : f.blk = g.blk ∧ f.off * 64 + f.lo ≠ g.off * 64 + g.lo) (v i : Nat) (s : State) :
    (s.setFld g v i).fld f i = s.fld f i := by
  refine State.fld_setFld_ne s v (Field.key_ne_of_off h.1 ?_ i)
  rw [Nat.mul_zero, Nat.mul_zero]
  exact h.2

/-! ### A training attempt and a retrain begin (R110, R126) -/

section
variable {s : State} {t : Nat}

/-- The registers of the lanes' status lie apart from those of the track's training. -/
theorem State.fld_clearLocks {f : Field} (h : f.blk = .trk ∧ f.off % 64 ≠ 12 ∧ f.lo < 64) (s : State) :
    (s.upTo 18 fun p u => ((u.clrFld Fld.TRK_LANE_STATUS_SYM_LOCK t p).clrFld Fld.TRK_LANE_STATUS_BLK_LOCK t p).clrFld Fld.TRK_LANE_STATUS_SKEW t p).fld f t =
      s.fld f t := by
  obtain ⟨blk, off, lo⟩ := h
  have apart {g : Field} (hg : g.blk = .trk ∧ g.off = 0x4C ∧ g.jstr = 0x40 ∧ g.lo < 64) (p : Nat) : f.key t 0 ≠ g.key t p := by
    obtain ⟨hb, ho, hj, hl⟩ := hg
    refine Field.key_ne_of_off (blk.trans hb.symm) ?_ t
    rw [ho, hj]
    omega
  refine State.upTo_keeps (·.fld f t) (fun p u => ?_) 18 s
  rw [State.fld_clrFld_ne _ (apart (by decide) p), State.fld_clrFld_ne _ (apart (by decide) p), State.fld_clrFld_ne _ (apart (by decide) p)]

/-- An attempt begins in phase 1 of training, for the reason noted before it. -/
theorem State.fld_beginAttempt (seeded : Bool) (s : State) :
    (s.beginAttempt t seeded).fld Fld.TRK_TRAIN_STATUS_STATE t = LinkState.training.code ∧ (s.beginAttempt t seeded).fld Fld.TRK_TRAIN_STATUS_PHASE t = 1 ∧
    (s.beginAttempt t seeded).fld Fld.TRK_TRAIN_STATUS_FAIL_REASON t = s.fld Fld.TRK_TRAIN_STATUS_FAIL_REASON t := by
  have counted {f : Field} (h : f.blk = .trk ∧ f.off * 64 + f.lo ≠ 0x504 * 64 + 8) (u : State) :
      (u.when (!seeded) fun u => u.setFld Fld.TRK_TRAIN_STATUS_ATTEMPT 0 t).fld f t = u.fld f t :=
    State.ite_keeps (·.fld f t) (State.fld_setFld_off (g := Fld.TRK_TRAIN_STATUS_ATTEMPT) h 0 t u) rfl
  unfold State.beginAttempt
  refine ⟨?_, ?_, ?_⟩
  · rw [State.modTrk_fld, counted (by decide), State.fld_clearLocks (by decide), State.fld_setFld_off (by decide), State.fld_setFld_off (by decide),
      State.fld_setFld_off (by decide), State.fld_setFld_same]
    rfl
  · rw [State.modTrk_fld, counted (by decide), State.fld_clearLocks (by decide), State.fld_setFld_off (by decide), State.fld_setFld_off (by decide),
      State.fld_setFld_same]
    rfl
  · rw [State.modTrk_fld, counted (by decide), State.fld_clearLocks (by decide), State.fld_setFld_off (by decide), State.fld_setFld_off (by decide),
      State.fld_setFld_off (by decide), State.fld_setFld_off (by decide)]

/-- A retrain leaves the track in phase 1 of training with its reason (R126). -/
theorem State.fld_retrain (s : State) (reason : Nat) :
    (s.retrain t reason).fld Fld.TRK_TRAIN_STATUS_STATE t = LinkState.training.code ∧ (s.retrain t reason).fld Fld.TRK_TRAIN_STATUS_PHASE t = 1 ∧
    (s.retrain t reason).fld Fld.TRK_TRAIN_STATUS_FAIL_REASON t = reason % 2 ^ 8 := by
  obtain ⟨state, phase, noted⟩ := State.fld_beginAttempt (t := t) true ((s.resetBlk .link .trk t).setFld Fld.TRK_TRAIN_STATUS_FAIL_REASON reason t)
  have begun (f : Field) : (s.retrain t reason).fld f t =
      (((s.resetBlk .link .trk t).setFld Fld.TRK_TRAIN_STATUS_FAIL_REASON reason t).beginAttempt t true).fld f t := by
    unfold State.retrain
    exact State.modTrk_fld ..
  rw [begun, begun, begun, noted, State.fld_setFld_same]
  exact ⟨state, phase, rfl⟩

end

/-! ### What a performed write leaves of a track (R153, R391) -/

section
variable {s u : State} {x : WSrc} {a : Nat} {v : BitVec 32}

/-- The answer joins the transmitter's queue; nothing else of a track changes. -/
theorem State.trk_respond (ord : Nat) (typ : BitVec 5) (st d t : Nat) (s : State) :
    ∃ tx, (s.respond ord typ st d).trk t = { s.trk t with tx := tx } := by
  unfold State.respond
  split
  · exact ⟨_, rfl⟩
  · next o _ =>
    split
    · exact ⟨_, (congrArg (fun m => Store.get m t {}) ((State.bump_frame (n := 0x2) .rfl' (.refl _) ..).trks rfl) :)⟩
    · by_cases own : t = o.track
      · subst own
        exact ⟨_, State.trk_modTx_same ..⟩
      · exact ⟨_, State.trk_modTrk_ne _ _ own⟩

theorem State.trk_writeFrom (h : s.accepts x 4 a v.toNat = true) (hu : u = s.atFabric x 4 a v.toNat) (t : Nat) :
    ∃ tx, (s.writeFrom x 4 a v.toNat).trk t = { (u.perform (regHit a) v.toNat).trk t with tx := tx } := by
  obtain ⟨ord, e⟩ | ⟨w, e⟩ := State.writeFrom_of_accepts h hu
  · rw [e]
    exact State.trk_respond ..
  · rw [e]
    exact ⟨_, rfl⟩

theorem State.trk_putFields (n t : Nat) : (u.putFields a n).trk t = u.trk t := by
  rw [State.trk, (State.putFields_frame (u := u) (a := a) n).trks rfl, State.trk]

/-- A write leaves the fields that are not of its register. -/
theorem State.fld_putFields_ne {e : Field} {k l : Nat} (n : Nat) (h : ∀ x ∈ fieldsAt a, e.key k l ≠ x.f.key x.i x.j) :
    (s.putFields a n).fld e k l = s.fld e k l :=
  List.foldlRecOn (motive := fun (t : State) => t.fld e k l = s.fld e k l) _ _ rfl fun _ ht y hy => (State.fld_putField_ne (h y hy)).trans ht

/-- A field that is written as it stands takes its bits. -/
theorem State.fld_putField_same {y : FieldAt} (h : y.f.acc = .rw ∧ y.f.atTick = false) (n : Nat) (s : State) :
    (s.putField y n).fld y.f y.i y.j = y.f.of n := by
  obtain ⟨acc, now⟩ := h
  have width : y.f.of n % 2 ^ y.f.width = y.f.of n := Nat.mod_mod ..
  simp only [State.putField, acc, now, Bool.false_eq_true, if_false, State.fld_setFld_same, width]

/-- Such a field of the register written takes its bits, whatever else the register holds. -/
theorem State.fld_putFields_same {y : FieldAt} (hy : y ∈ fieldsAt a) (h : y.f.acc = .rw ∧ y.f.atTick = false)
    (apart : ∀ z ∈ fieldsAt a, z ≠ y → y.f.key y.i y.j ≠ z.f.key z.i z.j) (n : Nat) : (s.putFields a n).fld y.f y.i y.j = y.f.of n := by
  have kept (l : List FieldAt) (hl : ∀ z ∈ l, z ∈ fieldsAt a) (t : State) (ht : t.fld y.f y.i y.j = y.f.of n) :
      (l.foldl (fun s z => s.putField z n) t).fld y.f y.i y.j = y.f.of n := by
    refine List.foldlRecOn (motive := fun (t : State) => t.fld y.f y.i y.j = y.f.of n) l _ ht fun u hu z hz => ?_
    by_cases same : z = y
    · rw [same, State.fld_putField_same h]
    · exact (State.fld_putField_ne (apart z (hl z hz) same)).trans hu
  obtain ⟨before, after, cut⟩ := List.append_of_mem hy
  show ((fieldsAt a).foldl (fun s z => s.putField z n) s).fld y.f y.i y.j = _
  rw [cut, List.foldl_append, List.foldl_cons]
  exact kept after (fun z hz => by rw [cut]; exact List.mem_append_right _ (List.mem_cons_of_mem _ hz)) _ (State.fld_putField_same h ..)

end

/-! ### The registers of TRK -/

theorem Field.off_of_indexAt {f : Field} {off j : Nat} (h : f.indexAt off = some j) : f.off + f.jstr * j = off := by
  unfold Field.indexAt at h
  split at h
  · split at h
    · next same =>
      cases h
      omega
    · cases h
  · split at h
    · next inside =>
      cases h
      obtain ⟨above, whole, -, -⟩ := inside
      have split := Nat.div_add_mod (off - f.off) f.jstr
      omega
    · cases h

/-- The fields of the register of TRK at an offset, with their indices. -/
def trkFields (off : Nat) : List (Field × Nat) := (fieldsOf .trk).filterMap fun f => (f.indexAt off).map fun j => (f, j)

theorem mem_fieldsOfTrk : ∀ f ∈ fieldsOf .trk, f.blk = .trk ∧ 32 ≤ f.icnt ∧ f.lo < 64 := by decide

/-- A field of the register at an offset lies there. -/
theorem off_of_mem_trkFields {e : Field × Nat} {off : Nat} (h : e ∈ trkFields off) : e.1.blk = .trk ∧ e.1.off + e.1.jstr * e.2 = off ∧ e.1.lo < 64 := by
  obtain ⟨f, mem, named⟩ := List.mem_filterMap.mp h
  obtain ⟨j, index, rfl⟩ := Option.map_eq_some_iff.mp named
  obtain ⟨blk, -, lo⟩ := mem_fieldsOfTrk f mem
  exact ⟨blk, Field.off_of_indexAt index, lo⟩

section
variable {s u : State} {t : TrackIx} {a off : Nat} (ha : a = 0x010000 + 0x800 * t.val + off) (hoff : off < 0x800)
include ha hoff

theorem blkOf_trk : blkOf a = some (.trk, t.val, off) := by
  rw [ha]
  exact blkOf_at .trk t off t.isLt hoff

theorem fieldsAt_trk : fieldsAt a = (trkFields off).map fun e => { f := e.1, i := t.val, j := e.2 } := by
  simp only [fieldsAt, blkOf_trk ha hoff, trkFields, List.map_filterMap]
  refine List.filterMap_congr fun f hf => ?_
  obtain ⟨-, instances, -⟩ := mem_fieldsOfTrk f hf
  rw [if_pos (Nat.lt_of_lt_of_le t.isLt instances), Option.map_map]
  rfl

/-- A write of a register of TRK leaves the fields of other registers. -/
theorem State.fld_putFields_trk {e : Field} {k l : Nat} (n : Nat) (he : e.lo < 64) (ne : e.addr k l ≠ a) : (u.putFields a n).fld e k l = u.fld e k l := by
  refine State.fld_putFields_ne n fun x hx => ?_
  rw [fieldsAt_trk ha hoff] at hx
  obtain ⟨y, hy, rfl⟩ := List.mem_map.mp hx
  obtain ⟨blk, place, lo⟩ := off_of_mem_trkFields hy
  have addr : y.1.addr t.val y.2 = a := by
    simp only [Field.addr, blk, Blk.base, Blk.span]
    omega
  simp only [Field.key, addr]
  omega

/-- A field of TRK that is written as it stands takes its bits. -/
theorem State.fld_putFields_trk_same {f : Field} {j : Nat} (hf : (f, j) ∈ trkFields off) (h : f.acc = .rw ∧ f.atTick = false)
    (apart : ∀ e ∈ trkFields off, e ≠ (f, j) → f.lo ≠ e.1.lo) (n : Nat) : (u.putFields a n).fld f t j = f.of n := by
  refine State.fld_putFields_same (y := { f := f, i := t.val, j := j }) ?_ h (fun z hz other => ?_) n
  · rw [fieldsAt_trk ha hoff]
    exact List.mem_map_of_mem (f := fun e => ({ f := e.1, i := t.val, j := e.2 } : FieldAt)) hf
  · rw [fieldsAt_trk ha hoff] at hz
    obtain ⟨e, he, rfl⟩ := List.mem_map.mp hz
    obtain ⟨blk, place, -⟩ := off_of_mem_trkFields hf
    obtain ⟨blkE, placeE, -⟩ := off_of_mem_trkFields he
    have lows := apart e he fun same => other (by rw [same])
    dsimp only at blk place
    exact Field.key_ne_of_off (blk.trans blkE.symm) (by rw [place, placeE]; omega) t

theorem State.perform_trk (n : Nat) : u.perform (regHit a) n = (u.putFields a n).trkDoes u t off n := State.perform_regHit (blkOf_trk ha hoff)

end

/-- A field of TRK stands alone or at every lane's registers. -/
theorem strides_of_trk : ∀ f ∈ fieldsOf .trk, (f.off < 0x40 ∧ f.jstr = 0) ∨ 0x500 ≤ f.off ∨ (0x40 ≤ f.off ∧ f.off < 0x80 ∧ f.jstr = 0x40) := by decide

theorem prbsCtl_lows : Fld.TRK_PRBS_CTL_CHK_SEL.lo ≠ Fld.TRK_PRBS_CTL_GEN_SEL.lo := by decide

theorem fields_of_prbsCtl : ∀ f ∈ fieldsOf .trk, f.off = 0x50 → f = Fld.TRK_PRBS_CTL_CHK_SEL ∨ f = Fld.TRK_PRBS_CTL_GEN_SEL := by decide

/-- PRBS_CTL of a lane holds its two selections. -/
theorem eq_of_mem_trkFields_prbs {p : LaneIx} {e : Field × Nat} (h : e ∈ trkFields (0x50 + 0x40 * p.val)) :
    e = (Fld.TRK_PRBS_CTL_CHK_SEL, p.val) ∨ e = (Fld.TRK_PRBS_CTL_GEN_SEL, p.val) := by
  obtain ⟨f, mem, named⟩ := List.mem_filterMap.mp h
  obtain ⟨j, index, rfl⟩ := Option.map_eq_some_iff.mp named
  have place := Field.off_of_indexAt index
  have lane : f.off = 0x50 ∧ j = p.val := by
    rcases strides_of_trk f mem with ⟨low, stride⟩ | high | ⟨first, last, stride⟩
    · rw [stride] at place
      omega
    · omega
    · rw [stride] at place
      omega
  obtain ⟨off, rfl⟩ := lane
  exact (fields_of_prbsCtl f mem off).imp (congrArg (·, p.val)) (congrArg (·, p.val))

theorem mem_trkFields_prbs {f : Field} (hf : f ∈ fieldsOf .trk ∧ f.off = 0x50 ∧ f.jstr = 0x40 ∧ f.jcnt = 18 ∧ f.jmin = 0) (p : LaneIx) :
    (f, p.val) ∈ trkFields (0x50 + 0x40 * p.val) := by
  obtain ⟨mem, off, stride, count, first⟩ := hf
  refine List.mem_filterMap.mpr ⟨f, mem, Option.map_eq_some_iff.mpr ⟨p.val, ?_, rfl⟩⟩
  have lane : (0x50 + 0x40 * p.val - 0x50) / 0x40 = p.val := by omega
  rw [Field.indexAt, off, stride, count, first, if_neg (by decide), if_pos (by omega), lane]

/-! ### LANE_CMD: sparing on request and the lane counters (R89, R101) -/

section
variable {u : State} {t : TrackIx} {v : Nat}

/-- The write of LANE_CMD before its request for sparing. -/
def State.laneCmdPut (u : State) (t v : Nat) : State :=
  (u.putFields (0x01000C + 0x800 * t) v).when (Fld.TRK_LANE_CMD_CNT_CLR.isSet v) fun s => s.modTrk t fun x => { x with cntClr := true }

theorem addr_laneCmd (t : TrackIx) : 0x01000C + 0x800 * t.val = 0x010000 + 0x800 * t.val + 0xC := by omega

theorem State.perform_laneCmd : u.perform (regHit (0x01000C + 0x800 * t.val)) v =
    (u.laneCmdPut t v).when (Fld.TRK_LANE_CMD_SPARE_GO.isSet v) fun s => s.requestSparing t (Fld.TRK_LANE_CMD_SPARE_POS.of v) :=
  State.perform_trk (addr_laneCmd t) (by decide) v

theorem State.trk_laneCmdPut (t v : Nat) (u : State) :
    (u.laneCmdPut t v).trk t = { u.trk t with cntClr := Fld.TRK_LANE_CMD_CNT_CLR.isSet v || (u.trk t).cntClr } := by
  unfold State.laneCmdPut State.when
  split
  · next set => rw [State.trk_modTrk_same, State.trk_putFields, set, Bool.true_or]
  · next clear => rw [State.trk_putFields, Bool.eq_false_iff.mpr clear, Bool.false_or]

theorem State.fld_laneCmdPut {e : Field} (he : e.blk = .trk ∧ e.off < 0xC ∧ e.lo < 64) (v : Nat) (u : State) : (u.laneCmdPut t v).fld e t = u.fld e t := by
  obtain ⟨blk, off, lo⟩ := he
  have ne : e.addr t 0 ≠ 0x01000C + 0x800 * t.val := by
    simp only [Field.addr, blk, Blk.base, Blk.span]
    omega
  have put := State.fld_putFields_trk (u := u) (addr_laneCmd t) (by decide) v lo ne
  exact State.ite_keeps (·.fld e t) put put

theorem State.spareIs_laneCmdPut (tx spare : Bool) (state : SpareState) (v : Nat) (u : State) :
    (u.laneCmdPut t v).spareIs t tx spare state = u.spareIs t tx spare state := by
  have low : (spareFld tx spare).blk = .trk ∧ (spareFld tx spare).off < 0xC ∧ (spareFld tx spare).lo < 64 := by
    cases tx <;> cases spare <;> decide
  rw [State.spareIs, State.fld_laneCmdPut low, State.spareIs]

theorem State.sparePos_laneCmdPut (tx spare : Bool) (v : Nat) (u : State) : (u.laneCmdPut t v).fld (sparePosFld tx spare) t = u.fld (sparePosFld tx spare) t :=
  State.fld_laneCmdPut (by cases tx <;> cases spare <;> decide) v u

theorem State.standby_laneCmdPut (tx : Bool) (v : Nat) (u : State) : (u.laneCmdPut t v).standby t tx = u.standby t tx := by
  simp only [State.standby, State.spareIs_laneCmdPut]

theorem State.spareOf_laneCmdPut (p v : Nat) (u : State) : (u.laneCmdPut t v).spareOf t false p = u.spareOf t false p := by
  simp only [State.spareOf, State.spareIs_laneCmdPut, State.sparePos_laneCmdPut]

/-- A write that asks for sparing of a position no spare serves tries a spare (R89). -/
theorem State.perform_laneSpareGo {p : Nat} (go : Fld.TRK_LANE_CMD_SPARE_GO.isSet v = true) (pos : Fld.TRK_LANE_CMD_SPARE_POS.of v = p)
    (unserved : u.spareOf t false p = none) (free : (u.trk t).spY = none) :
    u.perform (regHit (0x01000C + 0x800 * t.val)) v = (u.laneCmdPut t v).trySpare t p 0 := by
  have open_ : ¬(((u.laneCmdPut t v).spareOf t false p).isSome = true ∨ ((u.laneCmdPut t v).trk t).spY.isSome = true) := by
    simp [State.spareOf_laneCmdPut, State.trk_laneCmdPut, unserved, free]
  rw [State.perform_laneCmd, go, pos]
  show (u.laneCmdPut t v).requestSparing t p = _
  rw [State.requestSparing, if_neg open_]

end

/-! ### PRBS_CTL and INJ_CTL (R98, R100, R103) -/

section
variable {u : State} {t : TrackIx} {p : LaneIx} {v : Nat}

theorem addr_prbsCtl (t : TrackIx) (p : LaneIx) : 0x010050 + 0x800 * t.val + 0x40 * p.val = 0x010000 + 0x800 * t.val + (0x50 + 0x40 * p.val) := by omega

theorem addr_spareRx (t : TrackIx) : 0x010000 + 0x800 * t.val = 0x010000 + 0x800 * t.val + 0 := rfl

theorem addr_spareTx (t : TrackIx) : 0x010004 + 0x800 * t.val = 0x010000 + 0x800 * t.val + 4 := by omega

theorem addr_injCtl (t : TrackIx) (p : LaneIx) : 0x010054 + 0x800 * t.val + 0x40 * p.val = 0x010000 + 0x800 * t.val + (0x54 + 0x40 * p.val) := by omega

theorem State.perform_prbsCtl : u.perform (regHit (0x010050 + 0x800 * t.val + 0x40 * p.val)) v =
    (u.putFields (0x010050 + 0x800 * t.val + 0x40 * p.val) v).prbsChange t p := by
  have lane : (0x50 + 0x40 * p.val - 0x40) / 0x40 = p.val := by omega
  rw [State.perform_trk (addr_prbsCtl t p) (by omega), State.trkDoes, if_neg (by omega), if_pos (by omega), lane]

theorem State.perform_injCtl : u.perform (regHit (0x010054 + 0x800 * t.val + 0x40 * p.val)) v =
    (u.putFields (0x010054 + 0x800 * t.val + 0x40 * p.val) v).when (Fld.TRK_INJ_CTL_GO.isSet v) fun s => s.inject t p v := by
  have lane : (0x54 + 0x40 * p.val - 0x40) / 0x40 = p.val := by omega
  rw [State.perform_trk (addr_injCtl t p) (by omega), State.trkDoes, if_neg (by omega), if_neg (by omega), if_pos (by omega), lane]

@[simp] theorem State.txLane_setTxLane (t p : Nat) (L : LaneTx) (s : State) : (s.setTxLane t p L).txLane t p = L := by
  simp [State.txLane, State.setTxLane]

@[simp] theorem State.rxLane_setRxLane (t p : Nat) (L : LaneRx) (s : State) : (s.setRxLane t p L).rxLane t p = L := by
  simp [State.rxLane, State.setRxLane]

@[simp] theorem State.txLane_setRxLane (t p q : Nat) (L : LaneRx) (s : State) : (s.setRxLane t p L).txLane t q = s.txLane t q := by
  simp [State.txLane, State.setRxLane]

@[simp] theorem State.rxLane_setTxLane (t p q : Nat) (L : LaneTx) (s : State) : (s.setTxLane t p L).rxLane t q = s.rxLane t q := by
  simp [State.rxLane, State.setTxLane]

/-- The units of the lane start anew (R98). -/
theorem State.lanes_prbsChange (t p : Nat) (s : State) :
    ((s.prbsChange t p).txLane t p).prbs = 0 ∧ (s.prbsChange t p).rxLane t p = (s.rxLane t p).prbsReseed := by
  have tx : (s.prbsChange t p).txLane t p = { s.txLane t p with prbs := 0 } :=
    (State.txLane_setRxLane ..).trans (State.txLane_setTxLane ..)
  have rx : (s.prbsChange t p).rxLane t p = ((s.setTxLane t p { s.txLane t p with prbs := 0 }).rxLane t p).prbsReseed := State.rxLane_setRxLane ..
  rw [tx, rx, State.rxLane_setTxLane]
  exact ⟨rfl, rfl⟩

theorem State.inject_of_some (h : Fld.TRK_INJ_CTL_COUNT.of v ≠ 0) (t p : Nat) (s : State) : s.inject t p v =
    (s.setTxLane t p { s.txLane t p with injLeft := Fld.TRK_INJ_CTL_COUNT.of v, injWait := 0 }).setFld Fld.TRK_INJ_CTL_ACTIVE 1 t p := if_neg h

end

/-! ### TRAIN_CTL: retrain and failover (R126, R130) -/

section
variable {u : State} {t : TrackIx} {v : Nat}

theorem addr_trainCtl (t : TrackIx) : 0x010500 + 0x800 * t.val = 0x010000 + 0x800 * t.val + 0x500 := by omega

/-- Where EN is written as it reads, the write of TRAIN_CTL does what its two command bits ask for. -/
theorem State.perform_trainCtl (same : u.flag Fld.TRK_TRAIN_CTL_EN t = Fld.TRK_TRAIN_CTL_EN.isSet v) :
    u.perform (regHit (0x010500 + 0x800 * t.val)) v =
      (((u.putFields (0x010500 + 0x800 * t.val) v).when (Fld.TRK_TRAIN_CTL_FOV_GO.isSet v) fun s => s.startFailover t).when
        (Fld.TRK_TRAIN_CTL_RETRAIN.isSet v && !((u.putFields (0x010500 + 0x800 * t.val) v).when (Fld.TRK_TRAIN_CTL_FOV_GO.isSet v) fun s =>
          s.startFailover t).linkIs t .disabled)) fun s => s.retrain t 0x21 := by
  have still (p : State) : p.trackEn t (u.flag Fld.TRK_TRAIN_CTL_EN t) (Fld.TRK_TRAIN_CTL_EN.isSet v) = p := if_pos same
  rw [State.perform_trk (addr_trainCtl t) (by decide), State.trkDoes, if_neg (by decide), if_neg (by decide), if_neg (by decide), if_pos rfl, still]

/-- The write of TRAIN_CTL leaves the fields of other registers. -/
theorem State.fld_putTrainCtl {e : Field} {k l : Nat} (he : e.lo < 64) (ne : e.addr k l ≠ 0x010500 + 0x800 * t.val) :
    (u.putFields (0x010500 + 0x800 * t.val) v).fld e k l = u.fld e k l := State.fld_putFields_trk (addr_trainCtl t) (by decide) v he ne

theorem State.linkIs_putTrainCtl (k : Nat) (l : LinkState) : (u.putFields (0x010500 + 0x800 * t.val) v).linkIs k l = u.linkIs k l := by
  have ne : Fld.TRK_TRAIN_STATUS_STATE.addr k 0 ≠ 0x010500 + 0x800 * t.val := by
    simp only [Field.addr, Fld.TRK_TRAIN_STATUS_STATE, Blk.base, Blk.span]
    omega
  rw [State.linkIs, State.fld_putTrainCtl (by decide) ne, State.linkIs]

theorem State.fld_startFailover (s : State) (t : Nat) (e : Field) (k l : Nat) : (s.startFailover t).fld e k l = s.fld e k l :=
  State.ite_keeps (fun u => u.fld e k l) rfl rfl

/-- FOV goes out on a READY partner (R130). -/
theorem State.startFailover_of_ready {s : State} {t p : Nat} (partner : s.fld Fld.HLC_FOV_MAP_PARTNER 0 t = p) (ready : s.linkIs p .ready = true)
    (session : s.fld Fld.TRK_TRAIN_STATUS_SESSION t = 1) (other : p ≠ t) :
    ((s.startFailover t).trk t).fov.going = true ∧ .fov t ∈ ((s.startFailover t).trk p).trn.queue := by
  have starts : s.startFailover t = (s.modFov t fun x => { x with going := true }).queueSet p (.fov t) := by
    rw [State.startFailover, partner, if_pos ⟨ready, session, other⟩]
  rw [starts]
  constructor
  · rw [State.queueSet, State.modTrn, State.trk_modTrk_ne _ _ other.symm, State.modFov, State.trk_modTrk_same]
  · rw [State.queueSet, State.trk_modTrn_same]
    dsimp only
    split
    · next has => exact List.contains_iff_mem.mp has
    · exact List.mem_append_right _ (List.mem_singleton.mpr rfl)

end

section
variable {x : WSrc} {t : TrackIx} {p : LaneIx} {w : BitVec 32} {s : State}

/-- A write of the word of a register of TRK is the write at its address. -/
theorem State.writeFrom_trk {f : Field} {j a : Nat} (blk : f.blk = .trk) (ha : a = 0x010000 + 0x800 * t.val + (f.off + f.jstr * j)) (n : Nat) :
    (.next (s.writeFrom x 4 (f.addr t j) n) : Out) = .next (s.writeFrom x 4 a n) := by
  have addr : f.addr t j = a := by
    simp only [Field.addr, blk, Blk.base, Blk.span]
    omega
  rw [addr]

theorem exec_laneSpareGo : exec (.laneSpareGo x t w) s = .next (s.writeFrom x 4 (0x01000C + 0x800 * t.val) (w ||| 0x10).toNat) :=
  State.writeFrom_trk (f := Fld.TRK_LANE_CMD_SPARE_GO) (j := 0) rfl (addr_laneCmd t) (w ||| 0x10).toNat

theorem exec_laneCntClr : exec (.laneCntClr x t w) s = .next (s.writeFrom x 4 (0x01000C + 0x800 * t.val) (w ||| 1).toNat) :=
  State.writeFrom_trk (f := Fld.TRK_LANE_CMD_CNT_CLR) (j := 0) rfl (addr_laneCmd t) (w ||| 1).toNat

theorem exec_spareRxWrite : exec (.spareStateWrite x t false w) s = .next (s.writeFrom x 4 (0x010000 + 0x800 * t.val) w.toNat) :=
  State.writeFrom_trk (f := Fld.TRK_SPARE_RX_S0_STATE) (j := 0) rfl rfl w.toNat

theorem exec_spareTxWrite : exec (.spareStateWrite x t true w) s = .next (s.writeFrom x 4 (0x010004 + 0x800 * t.val) w.toNat) :=
  State.writeFrom_trk (f := Fld.TRK_SPARE_TX_S0_STATE) (j := 0) rfl (addr_spareTx t) w.toNat

theorem exec_prbsCtlWrite : exec (.prbsCtlWrite x t p w) s = .next (s.writeFrom x 4 (0x010050 + 0x800 * t.val + 0x40 * p.val) w.toNat) :=
  State.writeFrom_trk (f := Fld.TRK_PRBS_CTL_GEN_SEL) (j := p) rfl (addr_prbsCtl t p) w.toNat

theorem exec_injGo : exec (.injGo x t p w) s = .next (s.writeFrom x 4 (0x010054 + 0x800 * t.val + 0x40 * p.val) (w ||| 0x80000000).toNat) :=
  State.writeFrom_trk (f := Fld.TRK_INJ_CTL_GO) (j := p) rfl (addr_injCtl t p) (w ||| 0x80000000).toNat

theorem exec_trainRetrain : exec (.trainRetrain x t w) s = .next (s.writeFrom x 4 (0x010500 + 0x800 * t.val) (w ||| 0x10).toNat) :=
  State.writeFrom_trk (f := Fld.TRK_TRAIN_CTL_RETRAIN) (j := 0) rfl (addr_trainCtl t) (w ||| 0x10).toNat

theorem exec_fovGo : exec (.fovGo x t w) s = .next (s.writeFrom x 4 (0x010500 + 0x800 * t.val) (w ||| 0x100).toNat) :=
  State.writeFrom_trk (f := Fld.TRK_TRAIN_CTL_FOV_GO) (j := 0) rfl (addr_trainCtl t) (w ||| 0x100).toNat

end

/-- Settles O44: each accepted write is performed, and its command bits decide what it does beyond its fields. -/
theorem trackCommandsTakeEffect : Obligations.TrackCommandsTakeEffect := by
  unfold Obligations.TrackCommandsTakeEffect
  refine ⟨?spare, ?noSpare, ?clear, ?stateRx, ?stateTx, ?prbs, ?inject, ?injectNone, ?retrain, ?failover⟩
  case spare =>
    intro x t w s u sp ha hu rx tx unserved free
    have pos : Fld.TRK_LANE_CMD_SPARE_POS.of (w ||| 0x10).toNat = w.toNat / 256 % 16 := Field.of_word_or rfl
    obtain ⟨z, hz⟩ := State.trk_writeFrom ha hu t
    refine ⟨_, exec_laneSpareGo, ?_⟩
    rw [hz, State.perform_laneSpareGo (Field.isSet_word_or rfl) pos unserved free,
      State.trySpare_of_standby (sp := sp) (by rw [State.standby_laneCmdPut, rx]) (by rw [State.standby_laneCmdPut, tx]), State.trk_modTrk_same,
      State.trk_laneCmdPut]
  case noSpare =>
    intro x t w s u ha hu rx unserved free
    have pos : Fld.TRK_LANE_CMD_SPARE_POS.of (w ||| 0x10).toNat = w.toNat / 256 % 16 := Field.of_word_or rfl
    have does : u.perform (regHit (0x01000C + 0x800 * t.val)) (w ||| 0x10).toNat =
        ((u.laneCmdPut t (w ||| 0x10).toNat).raise .hlSpareExhausted t { detail := w.toNat / 256 % 16 }).retrain t 0x23 := by
      rw [State.perform_laneSpareGo (Field.isSet_word_or rfl) pos unserved free, State.trySpare, State.standby_laneCmdPut, rx]
    obtain ⟨state, -, reason⟩ := State.fld_retrain (t := t) ((u.laneCmdPut t (w ||| 0x10).toNat).raise .hlSpareExhausted t
      { detail := w.toNat / 256 % 16 }) 0x23
    refine ⟨_, exec_laneSpareGo, ?_, ?_⟩
    · rw [State.linkIs, State.fld_writeFrom (by decide) (by decide) ha hu, does, state]
      rfl
    · rw [State.fld_writeFrom (by decide) (by decide) ha hu, does, reason]
      rfl
  case clear =>
    intro x t w s u ha hu hw
    have quiet : Fld.TRK_LANE_CMD_SPARE_GO.isSet (w ||| 1).toNat = false := Field.isSet_of_masked hw rfl rfl
    have clear : Fld.TRK_LANE_CMD_CNT_CLR.isSet (w ||| 1).toNat = true := Field.isSet_word_or rfl
    obtain ⟨z, hz⟩ := State.trk_writeFrom ha hu t
    refine ⟨_, exec_laneCntClr, ?_⟩
    rw [hz, State.perform_laneCmd, quiet]
    show ((u.laneCmdPut t (w ||| 1).toNat).trk t).cntClr = true
    rw [State.trk_laneCmdPut, clear, Bool.true_or]
  case stateRx =>
    intro x t w s u ha hu
    have does : u.perform (regHit (0x010000 + 0x800 * t.val)) w.toNat = u.putFields (0x010000 + 0x800 * t.val) w.toNat :=
      State.perform_trk (addr_spareRx t) (by decide) _
    refine ⟨_, exec_spareRxWrite, ?_, ?_⟩
    · rw [State.fld_writeFrom (by decide) (by decide) ha hu, does,
        State.fld_putFields_trk_same (f := Fld.TRK_SPARE_RX_S0_STATE) (j := 0) (addr_spareRx t) (by decide) (by decide) ⟨rfl, rfl⟩ (by decide)]
      simp [Field.of, Field.width, Fld.TRK_SPARE_RX_S0_STATE]
    · rw [State.fld_writeFrom (by decide) (by decide) ha hu, does,
        State.fld_putFields_trk_same (f := Fld.TRK_SPARE_RX_S1_STATE) (j := 0) (addr_spareRx t) (by decide) (by decide) ⟨rfl, rfl⟩ (by decide)]
      simp [Field.of, Field.width, Fld.TRK_SPARE_RX_S1_STATE]
  case stateTx =>
    intro x t w s u ha hu
    have does : u.perform (regHit (0x010004 + 0x800 * t.val)) w.toNat = u.putFields (0x010004 + 0x800 * t.val) w.toNat :=
      State.perform_trk (addr_spareTx t) (by decide) _
    refine ⟨_, exec_spareTxWrite, ?_, ?_⟩
    · rw [State.fld_writeFrom (by decide) (by decide) ha hu, does,
        State.fld_putFields_trk_same (f := Fld.TRK_SPARE_TX_S0_STATE) (j := 0) (addr_spareTx t) (by decide) (by decide) ⟨rfl, rfl⟩ (by decide)]
      simp [Field.of, Field.width, Fld.TRK_SPARE_TX_S0_STATE]
    · rw [State.fld_writeFrom (by decide) (by decide) ha hu, does,
        State.fld_putFields_trk_same (f := Fld.TRK_SPARE_TX_S1_STATE) (j := 0) (addr_spareTx t) (by decide) (by decide) ⟨rfl, rfl⟩ (by decide)]
      simp [Field.of, Field.width, Fld.TRK_SPARE_TX_S1_STATE]
  case prbs =>
    intro x t p w s u ha hu
    have gen : (u.putFields (0x010050 + 0x800 * t.val + 0x40 * p.val) w.toNat).fld Fld.TRK_PRBS_CTL_GEN_SEL t p = Fld.TRK_PRBS_CTL_GEN_SEL.of w.toNat :=
      State.fld_putFields_trk_same (addr_prbsCtl t p) (by omega) (mem_trkFields_prbs (by decide) p) ⟨rfl, rfl⟩ (fun e he other =>
        (eq_of_mem_trkFields_prbs he).elim (fun h => by rw [h]; exact prbsCtl_lows.symm) fun h => absurd h other) _
    have chk : (u.putFields (0x010050 + 0x800 * t.val + 0x40 * p.val) w.toNat).fld Fld.TRK_PRBS_CTL_CHK_SEL t p = Fld.TRK_PRBS_CTL_CHK_SEL.of w.toNat :=
      State.fld_putFields_trk_same (addr_prbsCtl t p) (by omega) (mem_trkFields_prbs (by decide) p) ⟨rfl, rfl⟩ (fun e he other =>
        (eq_of_mem_trkFields_prbs he).elim (fun h => absurd h other) fun h => by rw [h]; exact prbsCtl_lows) _
    have apart {f : Field} (hf : f.blk = .trk ∧ f.off = 0x50 ∧ f.jstr = 0x40 ∧ f.lo < 64) (v : State) :
        (v.prbsChange t p).fld f t p = v.fld f t p := by
      obtain ⟨blk, off, stride, lo⟩ := hf
      refine State.fld_setFld_ne _ 0 (Field.key_ne_of_off blk ?_ t)
      rw [off, stride]
      simp only [Fld.TRK_LANE_STATUS_PRBS_SYNC]
      omega
    obtain ⟨z, hz⟩ := State.trk_writeFrom ha hu t
    obtain ⟨tx, rx⟩ := State.lanes_prbsChange t p (u.putFields (0x010050 + 0x800 * t.val + 0x40 * p.val) w.toNat)
    have rxLane : (s.writeFrom x 4 (0x010050 + 0x800 * t.val + 0x40 * p.val) w.toNat).rxLane t p =
        ((u.putFields (0x010050 + 0x800 * t.val + 0x40 * p.val) w.toNat).rxLane t p).prbsReseed := by
      rw [State.rxLane, hz, State.perform_prbsCtl]
      exact rx
    refine ⟨_, exec_prbsCtlWrite, ?_, ?_, ?_, ?_, ?_, ?_, ?_⟩
    · rw [State.fld_writeFrom (by decide) (by decide) ha hu, State.perform_prbsCtl, apart (by decide), gen]
      simp [Field.of, Field.width, Fld.TRK_PRBS_CTL_GEN_SEL]
    · rw [State.fld_writeFrom (by decide) (by decide) ha hu, State.perform_prbsCtl, apart (by decide), chk]
      rfl
    · rw [State.txLane, hz, State.perform_prbsCtl]
      exact tx
    · rw [rxLane]
      rfl
    · rw [rxLane]
      rfl
    · rw [rxLane]
      rfl
    · rw [State.fld_writeFrom (by decide) (by decide) ha hu, State.perform_prbsCtl]
      exact State.fld_setFld_same ..
  case inject =>
    intro x t p w s u ha hu some
    have count : Fld.TRK_INJ_CTL_COUNT.of (w ||| 0x80000000).toNat = w.toNat / 2 ^ 16 % 256 := Field.of_word_or rfl
    have does := State.perform_injCtl (u := u) (t := t) (p := p) (v := (w ||| 0x80000000).toNat)
    rw [show Fld.TRK_INJ_CTL_GO.isSet (w ||| 0x80000000).toNat = true from Field.isSet_word_or rfl] at does
    replace does := does.trans (State.inject_of_some (by rw [count]; exact some) ..)
    obtain ⟨z, hz⟩ := State.trk_writeFrom ha hu t
    have lane : (s.writeFrom x 4 (0x010054 + 0x800 * t.val + 0x40 * p.val) (w ||| 0x80000000).toNat).txLane t p =
        { (u.putFields (0x010054 + 0x800 * t.val + 0x40 * p.val) (w ||| 0x80000000).toNat).txLane t p with
          injLeft := Fld.TRK_INJ_CTL_COUNT.of (w ||| 0x80000000).toNat, injWait := 0 } := by
      rw [State.txLane, hz, does]
      exact State.txLane_setTxLane ..
    refine ⟨_, exec_injGo, ?_, ?_, ?_⟩
    · rw [lane]
      exact count
    · rw [lane]
    · rw [State.flag, State.fld_writeFrom (by decide) (by decide) ha hu, does, State.fld_setFld_same]
      rfl
  case injectNone =>
    intro x t p w s u ha hu none
    have count : Fld.TRK_INJ_CTL_COUNT.of (w ||| 0x80000000).toNat = w.toNat / 2 ^ 16 % 256 := Field.of_word_or rfl
    obtain ⟨z, hz⟩ := State.trk_writeFrom ha hu t
    refine ⟨_, exec_injGo, ?_⟩
    have idle (v : State) : v.inject t p (w ||| 0x80000000).toNat = v := if_pos (count.trans none)
    have same : ((u.putFields (0x010054 + 0x800 * t.val + 0x40 * p.val) (w ||| 0x80000000).toNat).when
        (Fld.TRK_INJ_CTL_GO.isSet (w ||| 0x80000000).toNat) fun s => s.inject t p (w ||| 0x80000000).toNat).trk t = u.trk t := by
      rw [State.when, idle, ite_self, State.trk_putFields]
    rw [State.txLane, hz, State.perform_injCtl, same, State.txLane]
  case retrain =>
    intro x t w s u ha hu same enabled
    have en : u.flag Fld.TRK_TRAIN_CTL_EN t = Fld.TRK_TRAIN_CTL_EN.isSet (w ||| 0x10).toNat := by
      rw [same, Field.isSet, Field.of_word_or rfl]
      simp [Field.of, Fld.TRK_TRAIN_CTL_EN, Field.width]
    have does := State.perform_trainCtl en
    obtain ⟨q, hq⟩ : ∃ q, q = ((u.putFields (0x010500 + 0x800 * t.val) (w ||| 0x10).toNat).when (Fld.TRK_TRAIN_CTL_FOV_GO.isSet (w ||| 0x10).toNat)
        fun s => s.startFailover t) := ⟨_, rfl⟩
    have link : q.linkIs t .disabled = false := by
      have fld : q.fld Fld.TRK_TRAIN_STATUS_STATE t = (u.putFields (0x010500 + 0x800 * t.val) (w ||| 0x10).toNat).fld Fld.TRK_TRAIN_STATUS_STATE t := by
        rw [hq]
        exact State.ite_keeps (·.fld Fld.TRK_TRAIN_STATUS_STATE t) (State.fld_startFailover ..) rfl
      have put := State.linkIs_putTrainCtl (u := u) (t := t) (v := (w ||| 0x10).toNat) t .disabled
      rw [State.linkIs] at put ⊢
      rw [fld, put, enabled]
    have asked : Fld.TRK_TRAIN_CTL_RETRAIN.isSet (w ||| 0x10).toNat = true := Field.isSet_word_or rfl
    rw [← hq, link, asked] at does
    obtain ⟨state, phase, reason⟩ := State.fld_retrain (t := t) q 0x21
    have does : u.perform (regHit (0x010500 + 0x800 * t.val)) (w ||| 0x10).toNat = q.retrain t 0x21 := does
    refine ⟨_, exec_trainRetrain, ?_, ?_, ?_⟩
    · rw [State.linkIs, State.fld_writeFrom (by decide) (by decide) ha hu, does, state]
      rfl
    · rw [State.fld_writeFrom (by decide) (by decide) ha hu, does, reason]
      rfl
    · rw [State.fld_writeFrom (by decide) (by decide) ha hu, does, phase]
  case failover =>
    intro x t w s u p ha hu same alone partner ready session other
    have en : u.flag Fld.TRK_TRAIN_CTL_EN t = Fld.TRK_TRAIN_CTL_EN.isSet (w ||| 0x100).toNat := by
      rw [same, Field.isSet, Field.of_word_or rfl]
      simp [Field.of, Fld.TRK_TRAIN_CTL_EN, Field.width]
    have go : Fld.TRK_TRAIN_CTL_FOV_GO.isSet (w ||| 0x100).toNat = true := Field.isSet_word_or rfl
    have noRetrain : Fld.TRK_TRAIN_CTL_RETRAIN.isSet (w ||| 0x100).toNat = false := by
      rw [Field.isSet, Field.of_word_or rfl]
      simpa [Field.of, Fld.TRK_TRAIN_CTL_RETRAIN, Field.width] using alone
    have does : u.perform (regHit (0x010500 + 0x800 * t.val)) (w ||| 0x100).toNat =
        (u.putFields (0x010500 + 0x800 * t.val) (w ||| 0x100).toNat).startFailover t := by
      rw [State.perform_trainCtl en, go, noRetrain]
      rfl
    have partnerAddr : Fld.HLC_FOV_MAP_PARTNER.addr 0 t ≠ 0x010500 + 0x800 * t.val := by
      simp only [Field.addr, Fld.HLC_FOV_MAP_PARTNER, Blk.base, Blk.span]
      omega
    have sessionAddr : Fld.TRK_TRAIN_STATUS_SESSION.addr t 0 ≠ 0x010500 + 0x800 * t.val := by
      simp only [Field.addr, Fld.TRK_TRAIN_STATUS_SESSION, Blk.base, Blk.span]
      omega
    obtain ⟨going, queued⟩ := State.startFailover_of_ready (s := u.putFields (0x010500 + 0x800 * t.val) (w ||| 0x100).toNat) (t := t) (p := p)
      ((State.fld_putTrainCtl (by decide) partnerAddr).trans partner) ((State.linkIs_putTrainCtl ..).trans ready)
      ((State.fld_putTrainCtl (by decide) sessionAddr).trans session) fun h => other (Fin.ext h)
    obtain ⟨z, hz⟩ := State.trk_writeFrom ha hu t
    obtain ⟨y, hy⟩ := State.trk_writeFrom ha hu p
    refine ⟨_, exec_fovGo, ?_, ?_⟩
    · rw [hz, does]
      exact going
    · rw [hy, does]
      exact queued

end Sys2Proof.Machine
end

section
/-! PROOFS. Training sets the host sends: what each content does in its phase, and the last row of the fourth RDY slot. -/
namespace Sys2Proof.Machine

/-! ### Link states and phases -/

theorem LinkState.code_inj {a b : LinkState} (h : a.code = b.code) : a = b := by
  cases a <;> cases b <;> simp_all [LinkState.code]

section
variable {s u : State} {t n : Nat}

theorem State.linkIs_iff {l : LinkState} : s.linkIs t l = true ↔ s.fld Fld.TRK_TRAIN_STATUS_STATE t = l.code := decide_eq_true_iff

/-- A track is in one link state. -/
theorem State.not_linkIs {a b : LinkState} (h : s.linkIs t a = true) (ne : a ≠ b) : ¬s.linkIs t b = true :=
  fun other => ne (LinkState.code_inj ((State.linkIs_iff.mp h).symm.trans (State.linkIs_iff.mp other)))

theorem State.inPhase_iff : s.inPhase t n = true ↔ s.linkIs t .training = true ∧ s.fld Fld.TRK_TRAIN_STATUS_PHASE t = n := by
  simp [State.inPhase]

theorem State.inPhase_congr (state : u.fld Fld.TRK_TRAIN_STATUS_STATE t = s.fld Fld.TRK_TRAIN_STATUS_STATE t)
    (phase : u.fld Fld.TRK_TRAIN_STATUS_PHASE t = s.fld Fld.TRK_TRAIN_STATUS_PHASE t) : u.inPhase t n = s.inPhase t n := by
  simp only [State.inPhase, State.linkIs, state, phase]

theorem State.inPhase_setFld {g : Field} (hg : g.blk = .trk ∧ g.off * 64 + g.lo ≠ 0x504 * 64 + 4 ∧ g.off * 64 + g.lo ≠ 0x504 * 64) (v : Nat) (s : State) :
    (s.setFld g v t).inPhase t n = s.inPhase t n := by
  obtain ⟨blk, state, phase⟩ := hg
  exact State.inPhase_congr (State.fld_setFld_off (f := Fld.TRK_TRAIN_STATUS_STATE) ⟨blk.symm, state.symm⟩ v t s)
    (State.fld_setFld_off (f := Fld.TRK_TRAIN_STATUS_PHASE) ⟨blk.symm, phase.symm⟩ v t s)

/-- A phase begins in training. -/
theorem State.inPhase_enterPhase (training : s.linkIs t .training = true) (hn : n < 16) (ty : SetType) : (s.enterPhase t n ty).inPhase t n = true := by
  refine State.inPhase_iff.mpr ⟨State.linkIs_iff.mpr ?_, ?_⟩
  · exact (State.fld_setFld_off (by decide) n t s).trans (State.linkIs_iff.mp training)
  · exact (State.fld_setFld_same s Fld.TRK_TRAIN_STATUS_PHASE n t 0).trans (Nat.mod_eq_of_lt hn)

theorem State.trk_enterPhase (ty : SetType) : (s.enterPhase t n ty).trk t =
    { s.trk t with trn := { (s.trk t).trn with mine := false, setType := ty.code }, tx := { (s.trk t).tx with page := 0, slots := 0 } } := by
  rw [State.enterPhase, State.trk_modTrk_same, State.setFld_trk]

/-- A cold attempt begins a new run of attempts. -/
theorem State.fld_beginAttempt_cold : (s.beginAttempt t false).fld Fld.TRK_TRAIN_STATUS_ATTEMPT t = 0 := by
  unfold State.beginAttempt
  rw [State.modTrk_fld]
  exact State.fld_setFld_same _ Fld.TRK_TRAIN_STATUS_ATTEMPT 0 t 0

/-! ### The device's proposal (R113) -/

/-- The proposal rests on the receive lanes and the lanes recorded as retired. -/
theorem State.proposal_congr (lanes : (u.trk t).lanesRx = (s.trk t).lanesRx) (trained : (u.trk t).trained = (s.trk t).trained) (copy : u.rep.copy = s.rep.copy)
    (bad : Nat) : u.proposal t bad = s.proposal t bad := by
  have usable : u.rxUsable t bad = s.rxUsable t bad := by
    funext p
    simp only [State.rxUsable, State.recordedBad, State.rxLane, lanes, trained, copy]
  rw [State.proposal, usable, State.proposal]

theorem State.propose_of_some {bad : Nat} {m : List Nat} (h : s.proposal t bad = some m) :
    s.propose t bad = s.modTrn t fun x => { x with rxMap := m, peerBad := bad } := by
  unfold State.propose
  generalize s.proposal t bad = o at h
  subst h
  rfl

theorem State.propose_of_none {bad : Nat} (h : s.proposal t bad = none) : s.propose t bad = s.failAttempt t 0x11 := by
  unfold State.propose
  generalize s.proposal t bad = o at h
  subst h
  rfl

end

/-! ### A failed attempt is in no later phase (R112) -/

/-- Registers of two tracks. -/
theorem Field.key_ne_of_track {f g : Field} {t u j l : Nat} (hf : f.blk = .trk ∧ f.off + f.jstr * j < 0x800 ∧ f.lo < 64)
    (hg : g.blk = .trk ∧ g.off + g.jstr * l < 0x800 ∧ g.lo < 64) (h : t ≠ u) : f.key t j ≠ g.key u l := by
  obtain ⟨blkF, offF, loF⟩ := hf
  obtain ⟨blkG, offG, loG⟩ := hg
  simp only [Field.key, Field.addr, blkF, blkG, Blk.span]
  omega

section
variable {f : Field} (hf : f.blk = .trk ∧ f.off + f.jstr * 0 < 0x800 ∧ f.lo < 64)
include hf

theorem State.fld_beginAttempt_ne {t u : Nat} (h : t ≠ u) (seeded : Bool) (s : State) : (s.beginAttempt u seeded).fld f t = s.fld f t := by
  have set (g : Field) (hg : g.blk = .trk ∧ g.off + g.jstr * 0 < 0x800 ∧ g.lo < 64) (v : Nat) (s : State) : (s.setFld g v u).fld f t = s.fld f t :=
    State.fld_setFld_ne s v (Field.key_ne_of_track hf hg h)
  have locks (s : State) : (s.upTo 18 fun p u' => ((u'.clrFld Fld.TRK_LANE_STATUS_SYM_LOCK u p).clrFld Fld.TRK_LANE_STATUS_BLK_LOCK u p).clrFld
      Fld.TRK_LANE_STATUS_SKEW u p).fld f t = s.fld f t := by
    refine State.upTo_keeps_below (·.fld f t) (fun p hp v => ?_) s
    have lane {g : Field} (hg : g.blk = .trk ∧ g.off = 0x4C ∧ g.jstr = 0x40 ∧ g.lo < 64) : f.key t 0 ≠ g.key u p := by
      obtain ⟨blk, off, stride, lo⟩ := hg
      exact Field.key_ne_of_track hf ⟨blk, by rw [off, stride]; omega, lo⟩ h
    rw [State.fld_clrFld_ne _ (lane (by decide)), State.fld_clrFld_ne _ (lane (by decide)), State.fld_clrFld_ne _ (lane (by decide))]
  have counted (s : State) : (s.when (!seeded) fun s => s.setFld Fld.TRK_TRAIN_STATUS_ATTEMPT 0 u).fld f t = s.fld f t :=
    State.ite_keeps (·.fld f t) (set _ (by decide) 0 s) rfl
  unfold State.beginAttempt
  rw [State.modTrk_fld, counted, locks, set _ (by decide), set _ (by decide), set _ (by decide), set _ (by decide)]

/-- The next pilot is another track (R447). -/
theorem State.fld_nextPilot (t : TrackIx) (s : State) : (s.nextPilot t).fld f t = s.fld f t := by
  have domain (n : Nat) (v : State) : (v.setDomain n true).fld f t = v.fld f t := by
    refine State.fld_setFld_ne v _ ?_
    have pwr := Field.key_ge Fld.PWR_DOMAIN_ON_ON 0 (n / 32)
    obtain ⟨blk, off, lo⟩ := hf
    simp only [Field.key, Field.addr, blk, Blk.span, Blk.base, Fld.PWR_DOMAIN_ON_ON] at pwr ⊢
    omega
  unfold State.nextPilot
  refine State.ite_keeps (·.fld f t) rfl ?_
  split
  · rfl
  · next u found =>
    have later : t.val ≠ u := by
      have := List.find?_some found
      simp at this
      omega
    exact (State.fld_beginAttempt_ne hf later ..).trans (domain ..)

end

/-- Whatever becomes of the track, no later phase goes on. -/
theorem State.fld_failAttempt_phase (s : State) (t : TrackIx) (reason : Nat) : (s.failAttempt t reason).fld Fld.TRK_TRAIN_STATUS_PHASE t ≤ 1 := by
  have begun (seeded : Bool) (v : State) : (v.beginAttempt t seeded).fld Fld.TRK_TRAIN_STATUS_PHASE t ≤ 1 := (State.fld_beginAttempt seeded v).2.1.le
  have down (v : State) : (v.goDown t).fld Fld.TRK_TRAIN_STATUS_PHASE t ≤ 1 := by
    unfold State.goDown
    refine (State.ite_keeps (·.fld Fld.TRK_TRAIN_STATUS_PHASE t) (State.fld_startFailover ..) rfl).trans_le ?_
    rw [State.fld_nextPilot (by decide), State.modTrn_fld, State.fld_setFld_same]
    decide
  unfold State.failAttempt
  dsimp only
  split
  · exact begun ..
  · split
    · exact down _
    · exact begun ..

/-! ### The contents in their phases -/

section
variable {s : State} {t : TrackIx}

/-- The state after a CAP that fits (R115). -/
def State.capKept (s : State) (t : Nat) (x : CapContent) : State :=
  ((s.takeSet t .cap).setFld Fld.TRK_TRAIN_STATUS_MAX_LEN x.maxLen.toNat t).modTrn t fun y =>
    { y with mine := true, hostTracks := x.tracks.toNat, capFlags := 2 * b2n x.l1 + 4 * b2n x.fov + 8 * b2n x.census }

theorem exec_capRx_of_phase5 {x : CapContent} (phase : s.inPhase t 5 = true) (fresh : s.setIn t .cap = none) (version : x.version = 1) (role : x.role ≠ 1)
    (real : x.maxLen ≠ 0) (few : x.maxLen.toNat < 9) :
    exec (.capRx t x) s = .next (if x.ack then ((s.capKept t x).enterPhase t 6 .smap).propose t 0 else s.capKept t x) := by
  show execCapRx t x s = _
  have phase : (s.takeSet t .cap).inPhase t 5 = true := phase
  have fits : ¬(x.version ≠ 1 ∨ x.role = 1 ∨ x.maxLen = 0 ∨ x.maxLen.toNat ≥ 9) := by
    rintro (h | h | h | h)
    exacts [h version, role h, real h, by omega]
  simp only [execCapRx, State.contentIn_of_none fresh, if_pos phase, if_neg fits]
  rfl

theorem State.fld_capKept {x : CapContent} (few : x.maxLen.toNat < 9) : (s.capKept t x).fld Fld.TRK_TRAIN_STATUS_MAX_LEN t = x.maxLen.toNat := by
  rw [State.capKept, State.modTrn_fld, State.fld_setFld_same]
  exact Nat.mod_eq_of_lt (few.trans (by decide))

theorem State.inPhase_capKept {x : CapContent} (n : Nat) : (s.capKept t x).inPhase t n = s.inPhase t n :=
  State.inPhase_setFld (g := Fld.TRK_TRAIN_STATUS_MAX_LEN) (by decide) x.maxLen.toNat (s.takeSet t .cap)

theorem State.trk_capKept {x : CapContent} : ∃ rx trn, (s.capKept t x).trk t = { s.trk t with rx := rx, trn := trn } ∧ trn.mine = true :=
  ⟨_, _, by rw [State.capKept, State.trk_modTrn_same, State.setFld_trk, State.trk_takeSet], rfl⟩

theorem exec_capRx_ack {x : CapContent} {m : List Nat} (phase : s.inPhase t 5 = true) (fresh : s.setIn t .cap = none) (version : x.version = 1)
    (role : x.role ≠ 1) (real : x.maxLen ≠ 0) (few : x.maxLen.toNat < 9) (ack : x.ack = true) (map : s.proposal t 0 = some m) :
    ∃ u, exec (.capRx t x) s = .next u ∧ u.fld Fld.TRK_TRAIN_STATUS_MAX_LEN t = x.maxLen.toNat ∧ u.inPhase t 6 = true ∧ (u.trk t).trn.rxMap = m := by
  obtain ⟨rx, trn, trk, -⟩ := State.trk_capKept (s := s) (t := t) (x := x)
  have training : (s.capKept t x).linkIs t .training = true := (State.inPhase_iff.mp ((State.inPhase_capKept 5).trans phase)).1
  have entered : ((s.capKept t x).enterPhase t 6 .smap).proposal t 0 = some m :=
    (State.proposal_congr (s := s) (u := (s.capKept t x).enterPhase t 6 .smap) (by rw [State.trk_enterPhase, trk]) (by rw [State.trk_enterPhase, trk]) rfl
      0).trans map
  refine ⟨_, (exec_capRx_of_phase5 phase fresh version role real few).trans (by rw [if_pos ack, State.propose_of_some entered]), ?_, ?_, ?_⟩
  · exact (State.fld_setFld_off (g := Fld.TRK_TRAIN_STATUS_PHASE) (by decide) 6 t (s.capKept t x)).trans (State.fld_capKept few)
  · exact State.inPhase_enterPhase (n := 6) training (by decide) .smap
  · rw [State.trk_modTrn_same]

/-! ### SMAP in phase 6 (R113, R114) -/

theorem State.proposal_takeSet (ty : SetType) (bad : Nat) : (s.takeSet t ty).proposal t bad = s.proposal t bad :=
  State.proposal_congr (s := s) (u := s.takeSet t ty) (by rw [State.trk_takeSet]) (by rw [State.trk_takeSet]) rfl bad

theorem exec_smapRx_of_none {x : SmapContent} (phase : s.inPhase t 6 = true) (fresh : s.setIn t .smap = none) (no : s.proposal t x.unusable.toNat = none) :
    exec (.smapRx t x) s = .next ((s.takeSet t .smap).failAttempt t 0x11) := by
  show execSmapRx t x s = _
  have phase : (s.takeSet t .smap).inPhase t 6 = true := phase
  have failed : (s.takeSet t .smap).propose t x.unusable.toNat = (s.takeSet t .smap).failAttempt t 0x11 :=
    State.propose_of_none ((State.proposal_takeSet ..).trans no)
  have ended : ¬((s.takeSet t .smap).failAttempt t 0x11).inPhase t 6 = true := by
    intro h
    have low := State.fld_failAttempt_phase (s.takeSet t .smap) t 0x11
    have high := (State.inPhase_iff.mp h).2
    omega
  simp only [execSmapRx, State.contentIn_of_none fresh, if_pos phase, failed, if_pos ended]

/-- The state in which both sides have proposed, and the device can drive the host's proposal. -/
def State.smapKept (s : State) (t : Nat) (x : SmapContent) (m : List Nat) : State :=
  ((s.takeSet t .smap).modTrn t fun y => { y with rxMap := m, peerBad := x.unusable.toNat }).modTrn t fun y =>
    { y with txMap := x.rxMap.map (·.val), mine := true }

theorem State.trk_smapKept {x : SmapContent} {m : List Nat} : (s.smapKept t x m).trk t = { (s.takeSet t .smap).trk t with
    trn := { (s.trk t).trn with rxMap := m, peerBad := x.unusable.toNat, txMap := x.rxMap.map (·.val), mine := true } } := by
  rw [State.smapKept, State.trk_modTrn_same, State.trk_modTrn_same, State.trk_takeSet]

theorem exec_smapRx_of_agreed {x : SmapContent} {m : List Nat} (phase : s.inPhase t 6 = true) (fresh : s.setIn t .smap = none)
    (map : s.proposal t x.unusable.toNat = some m) (full : x.rxMap.length = 16) (can : ∀ q ∈ x.rxMap, (s.txBad t).testBit q.val = false)
    (same : x.txMap.map (·.val) = m) (ack : x.ack = true) :
    exec (.smapRx t x) s = .next ((s.smapKept t x m).mapsAgreed t (x.rxMap.map (·.val)) x.unusable.toNat) := by
  show execSmapRx t x s = _
  obtain ⟨v, hv⟩ : ∃ v, v = (s.takeSet t .smap).modTrn t fun y => { y with rxMap := m, peerBad := x.unusable.toNat } := ⟨_, rfl⟩
  have proposed : (s.takeSet t .smap).propose t x.unusable.toNat = v := by
    rw [hv]
    exact State.propose_of_some ((State.proposal_takeSet ..).trans map)
  have taken : (s.takeSet t .smap).inPhase t 6 = true := phase
  have goes : v.inPhase t 6 = true := by rw [hv]; exact phase
  have bad : v.txBad t = s.txBad t := by
    rw [hv]
    simp only [State.txBad, State.recordedBad, State.trk_modTrn_same, State.trk_takeSet]
    rfl
  have drives : (x.rxMap.map (·.val)).length = 16 ∧ ((x.rxMap.map (·.val)).all fun q => !(v.txBad t).testBit q) = true := by
    refine ⟨(List.length_map _).trans full, List.all_eq_true.mpr fun q hq => ?_⟩
    obtain ⟨p, hp, rfl⟩ := List.mem_map.mp hq
    rw [bad, can p hp]
    rfl
  have mine : ((v.modTrn t fun y => { y with txMap := x.rxMap.map (·.val), mine := true }).trk t).trn.rxMap = m := by
    rw [State.trk_modTrn_same, hv, State.trk_modTrn_same]
  simp only [execSmapRx, State.contentIn_of_none fresh, if_pos taken, proposed, goes, not_true_eq_false, if_false]
  rw [if_pos drives, if_pos ⟨drives, same.trans mine.symm, ack⟩, hv]
  rfl

theorem State.oldHeld_smapKept {x : SmapContent} {m : List Nat} : (s.smapKept t x m).oldHeld t = s.oldHeld t := by
  simp only [State.oldHeld, State.trk_smapKept, State.trk_takeSet]
  rfl

/-- A lane map leaves the state of the track alone. -/
theorem State.fld_applyMap (tx : Bool) (m : List Nat) (usable : Nat → Bool) (s : State) :
    (s.applyMap t tx m usable).fld Fld.TRK_TRAIN_STATUS_STATE t = s.fld Fld.TRK_TRAIN_STATUS_STATE t := by
  have spare (sp : Bool) (v : Nat) (s : State) : (s.setFld (spareFld tx sp) v t).fld Fld.TRK_TRAIN_STATUS_STATE t = s.fld Fld.TRK_TRAIN_STATUS_STATE t :=
    State.fld_setFld_off (by cases tx <;> cases sp <;> decide) ..
  have pos (sp : Bool) (v : Nat) (s : State) : (s.setFld (sparePosFld tx sp) v t).fld Fld.TRK_TRAIN_STATUS_STATE t = s.fld Fld.TRK_TRAIN_STATUS_STATE t :=
    State.fld_setFld_off (by cases tx <;> cases sp <;> decide) ..
  have retired (v : Nat) (s : State) : (s.setFld (retiredFld tx) v t).fld Fld.TRK_TRAIN_STATUS_STATE t = s.fld Fld.TRK_TRAIN_STATUS_STATE t :=
    State.fld_setFld_off (by cases tx <;> decide) ..
  have one (o : Option Nat) (sp : Bool) (v : Nat) (s : State) : (match o with
      | some p => s.activateSpare t tx sp p
      | none => s.setFld (spareFld tx sp) v t).fld Fld.TRK_TRAIN_STATUS_STATE t = s.fld Fld.TRK_TRAIN_STATUS_STATE t := by
    cases o with
    | none => exact spare ..
    | some p => exact (pos ..).trans (spare ..)
  unfold State.applyMap
  exact (retired ..).trans ((one _ true ..).trans (one _ false ..))

theorem State.trk_applyMap (tx : Bool) (m : List Nat) (usable : Nat → Bool) (s : State) : (s.applyMap t tx m usable).trk t = s.trk t :=
  congrArg (fun l : Store Trk => Store.get l t.val {}) ((State.applyMap_frame (n := 0x2) .rfl' (.refl _) ..).trks rfl)

theorem State.mapsAgreed_of_held {want : List Nat} {bad : Nat} (session : s.fld Fld.TRK_TRAIN_STATUS_SESSION t ≠ 1) (held : s.oldHeld t = true) :
    s.mapsAgreed t want bad = s.modTrn t fun y => { y with agreed := true } := if_pos ⟨session, held⟩

theorem State.mapsAgreed_of_free {want : List Nat} {bad : Nat} (training : s.linkIs t .training = true)
    (free : s.fld Fld.TRK_TRAIN_STATUS_SESSION t = 1 ∨ s.oldHeld t = false) :
    (s.mapsAgreed t want bad).inPhase t 7 = true ∧ ((s.mapsAgreed t want bad).trk t).trn.rxMap = (s.trk t).trn.rxMap ∧
      ((s.mapsAgreed t want bad).trk t).trn.txMap = (s.trk t).trn.txMap := by
  have go : ¬(s.fld Fld.TRK_TRAIN_STATUS_SESSION t ≠ 1 ∧ s.oldHeld t = true) := by
    rintro ⟨session, held⟩
    rcases free with h | h
    · exact session h
    · exact Bool.false_ne_true (h.symm.trans held)
  rw [State.mapsAgreed, if_neg go]
  dsimp only
  refine ⟨State.inPhase_enterPhase (n := 7) ?_ (by decide) .grant, ?_, ?_⟩
  · rw [State.linkIs_iff, State.fld_applyMap, State.fld_applyMap]
    exact State.linkIs_iff.mp training
  · rw [State.trk_enterPhase, State.trk_applyMap, State.trk_applyMap]
  · rw [State.trk_enterPhase, State.trk_applyMap, State.trk_applyMap]

/-! ### GRANT in phase 7 (R117 to R119) -/

theorem execGrantRx_of_phase7 {x : GrantContent} (phase : s.inPhase t 7 = true) (fresh : s.setIn t .grant = none)
    (session : s.fld Fld.TRK_TRAIN_STATUS_SESSION t ≠ 1) :
    exec (.grantRx t x) s = .next (if x.resume then (s.takeSet t .grant).failAttempt t 0x14
      else if s.oldHeld t then s.takeSet t .grant
      else if x.req.toNat < 1 ∨ x.data.toNat < 8 then ((s.takeSet t .grant).raise .tabGrantReject t (hlDetail 0 0x13 0)).failAttempt t 0x13
      else (((s.takeSet t .grant).freshSession t x.req.toNat x.data.toNat).modTrn t fun y => { y with fresh := true }).granted t x.ack) := by
  show execGrantRx t x s = _
  have phase : (s.takeSet t .grant).inPhase t 7 = true := phase
  have session : ¬(s.takeSet t .grant).fld Fld.TRK_TRAIN_STATUS_SESSION t = 1 := session
  have held : (s.takeSet t .grant).oldHeld t = s.oldHeld t := by
    simp only [State.oldHeld, State.trk_takeSet]
    rfl
  simp only [execGrantRx, State.contentIn_of_none fresh, if_pos phase, if_neg session, if_neg fun h => session (And.left h), held]

/-- A FRESH session begins with sequence 0, full pools and empty counters (R119). -/
theorem State.fld_freshSession (req data : Nat) (s : State) :
    (s.freshSession t req data).inPhase t 7 = s.inPhase t 7 ∧ (s.freshSession t req data).fld Fld.TRK_TRAIN_STATUS_SESSION t = 1 ∧
    (s.freshSession t req data).fld Fld.TRK_PKT_SEQ_TX_NEXT t = 0 ∧ (s.freshSession t req data).fld Fld.TRK_PKT_SEQ_RX_LAST t = 0xFF ∧
    (s.freshSession t req data).fld Fld.TRK_POOL_TX_REQ_FREE t = req % 2 ^ 16 ∧ (s.freshSession t req data).fld Fld.TRK_POOL_TX_DATA_FREE t = data % 2 ^ 16 := by
  unfold State.freshSession
  refine ⟨State.inPhase_congr ?_ ?_, ?_, ?_, ?_, ?_, ?_⟩
  all_goals simp (disch := decide) only [State.modTrk_fld, State.fld_setFld_off, State.fld_setFld_same]
  all_goals rfl

theorem State.trk_freshSession (req data : Nat) (s : State) :
    ((s.freshSession t req data).trk t).ses.counts = {} ∧ ((s.freshSession t req data).trk t).tx.replay = [] := by
  unfold State.freshSession
  simp only [State.trk_modTrk_same, and_self]

/-- The grant passed with ACK: phase 8 begins, the rest of the track stands. -/
theorem State.granted_ack (training : s.linkIs t .training = true) :
    (s.granted t true).inPhase t 8 = true ∧
    (∀ f : Field, f.blk = .trk ∧ f.off * 64 + f.lo ≠ 0x504 * 64 → (s.granted t true).fld f t = s.fld f t) ∧
    ((s.granted t true).trk t).ses = (s.trk t).ses ∧ ((s.granted t true).trk t).tx = { (s.trk t).tx with page := 0, slots := 0 } := by
  have trk : (s.granted t true).trk t = _ := State.trk_enterPhase (s := s.modTrn t fun y => { y with mine := true }) .rdy
  rw [trk, State.trk_modTrn_same]
  refine ⟨State.inPhase_enterPhase (s := s.modTrn t fun y => { y with mine := true }) training (by decide) .rdy, fun f hf => ?_, rfl, rfl⟩
  exact State.fld_setFld_off (g := Fld.TRK_TRAIN_STATUS_PHASE) hf 8 t (s.modTrn t fun y => { y with mine := true })

theorem exec_grantRx_fresh {x : GrantContent} (phase : s.inPhase t 7 = true) (none : s.setIn t .grant = none)
    (session : s.fld Fld.TRK_TRAIN_STATUS_SESSION t ≠ 1) (resume : x.resume = false) (held : s.oldHeld t = false) (req : 1 ≤ x.req.toNat)
    (data : 8 ≤ x.data.toNat) (ack : x.ack = true) : ∃ u, exec (.grantRx t x) s = .next u ∧
    u.inPhase t 8 = true ∧ u.fld Fld.TRK_TRAIN_STATUS_SESSION t = 1 ∧ u.fld Fld.TRK_PKT_SEQ_TX_NEXT t = 0 ∧ u.fld Fld.TRK_PKT_SEQ_RX_LAST t = 0xFF ∧
    u.fld Fld.TRK_POOL_TX_REQ_FREE t = x.req.toNat ∧ u.fld Fld.TRK_POOL_TX_DATA_FREE t = x.data.toNat ∧ (u.trk t).ses.counts = {} ∧
    (u.trk t).tx.replay = [] := by
  obtain ⟨v, hv⟩ : ∃ v, v = ((s.takeSet t .grant).freshSession t x.req.toNat x.data.toNat).modTrn t fun y => { y with fresh := true } := ⟨_, rfl⟩
  obtain ⟨still, begun, next, last, reqs, datas⟩ := State.fld_freshSession (t := t) x.req.toNat x.data.toNat (s.takeSet t .grant)
  obtain ⟨counts, replay⟩ := State.trk_freshSession (t := t) x.req.toNat x.data.toNat (s.takeSet t .grant)
  have few : ¬(x.req.toNat < 1 ∨ x.data.toNat < 8) := by omega
  have run := execGrantRx_of_phase7 (x := x) phase none session
  rw [resume, held, if_neg few, ← hv, ack] at run
  simp only [Bool.false_eq_true, if_false] at run
  have fld (f : Field) : v.fld f t = ((s.takeSet t .grant).freshSession t x.req.toNat x.data.toNat).fld f t := by rw [hv, State.modTrn_fld]
  have training : v.linkIs t .training = true := by
    rw [State.linkIs_iff, fld, ← State.linkIs_iff]
    exact (State.inPhase_iff.mp (still.trans phase)).1
  obtain ⟨phase8, kept, ses, tx⟩ := State.granted_ack training
  refine ⟨_, run, phase8, ?_, ?_, ?_, ?_, ?_, ?_, ?_⟩
  · rw [kept _ (by decide), fld, begun]
  · rw [kept _ (by decide), fld, next]
  · rw [kept _ (by decide), fld, last]
  · rw [kept _ (by decide), fld, reqs, Nat.mod_eq_of_lt x.req.isLt]
  · rw [kept _ (by decide), fld, datas, Nat.mod_eq_of_lt x.data.isLt]
  · rw [ses, hv, State.trk_modTrn_same]
    exact counts
  · rw [tx, hv, State.trk_modTrn_same]
    exact replay

theorem exec_grantRx_resumed {x : GrantContent} (phase : s.inPhase t 7 = true) (none : s.setIn t .grant = none)
    (session : s.fld Fld.TRK_TRAIN_STATUS_SESSION t = 1) (resume : x.resume = true) (req : x.req.toNat = s.fld Fld.TRK_PEER_GRANT_REQ t)
    (data : x.data.toNat = s.fld Fld.TRK_PEER_GRANT_DATA t) (first : x.lastValid = false) (ack : x.ack = true) :
    ∃ u, exec (.grantRx t x) s = .next u ∧ u.inPhase t 8 = true ∧ (u.trk t).ses = (s.trk t).ses ∧ (u.trk t).tx.replay = (s.trk t).tx.replay ∧
    (u.trk t).tx.resp = (s.trk t).tx.resp := by
  obtain ⟨v, hv⟩ : ∃ v, v = (s.takeSet t .grant).modTrn t fun y => { y with lastRx := if x.lastValid then some x.lastRx else .none } := ⟨_, rfl⟩
  have run : exec (.grantRx t x) s = .next (v.granted t true) := by
    show execGrantRx t x s = _
    have phase : (s.takeSet t .grant).inPhase t 7 = true := phase
    have resumes : (s.takeSet t .grant).fld Fld.TRK_TRAIN_STATUS_SESSION t = 1 ∧ x.resume = true := ⟨session, resume⟩
    have fits : x.req.toNat = (s.takeSet t .grant).fld Fld.TRK_PEER_GRANT_REQ t ∧ x.data.toNat = (s.takeSet t .grant).fld Fld.TRK_PEER_GRANT_DATA t ∧
        (x.lastValid = true → (s.takeSet t .grant).lastRxFits t x.lastRx = true) := ⟨req, data, fun h => absurd (first.symm.trans h) Bool.false_ne_true⟩
    simp only [execGrantRx, State.contentIn_of_none none, if_pos phase, if_pos resumes, if_pos fits, ack, hv]
  have training : v.linkIs t .training = true := by
    rw [hv]
    exact (State.inPhase_iff.mp phase).1
  obtain ⟨phase8, -, ses, tx⟩ := State.granted_ack training
  refine ⟨_, run, phase8, ?_, ?_, ?_⟩
  · rw [ses, hv, State.trk_modTrn_same, State.trk_takeSet]
  · rw [tx, hv, State.trk_modTrn_same, State.trk_takeSet]
  · rw [tx, hv, State.trk_modTrn_same, State.trk_takeSet]

end

/-! ### What a driven row changes of its track (R68, R72, R100) -/

/-- Nothing of a track but its transmit lanes, and no register of it but INJ_CTL.ACTIVE. -/
structure State.LaneWork (t : Nat) (u s : State) : Prop where
  trk : ∃ l, u.trk t = { s.trk t with lanesTx := l }
  fld : ∀ f : Field, f.blk = .trk ∧ f.lo < 64 ∧ f.lo ≠ 30 → u.fld f t = s.fld f t

section
variable {s u v : State} {t : Nat}

theorem State.LaneWork.rfl' : s.LaneWork t s := ⟨⟨_, rfl⟩, fun _ _ => rfl⟩

theorem State.LaneWork.trans (h : v.LaneWork t u) (g : u.LaneWork t s) : v.LaneWork t s := by
  obtain ⟨⟨l, hl⟩, hf⟩ := h
  obtain ⟨⟨m, hm⟩, hg⟩ := g
  exact ⟨⟨l, by rw [hl, hm]⟩, fun f hf' => (hf f hf').trans (hg f hf')⟩

theorem State.laneWork_setTxLane (p : Nat) (L : LaneTx) (s : State) : (s.setTxLane t p L).LaneWork t s := ⟨⟨_, State.trk_modTrk_same ..⟩, fun _ _ => rfl⟩

theorem State.laneWork_injected (p : Nat) (s : State) : (s.injected t p).LaneWork t s := by
  have active (s : State) : (s.setFld Fld.TRK_INJ_CTL_ACTIVE 0 t p).LaneWork t s := by
    refine ⟨⟨_, rfl⟩, fun f hf => State.fld_setFld_ne s 0 ?_⟩
    obtain ⟨blk, lo, other⟩ := hf
    refine Field.key_ne_of_off blk ?_ t
    simp only [Fld.TRK_INJ_CTL_ACTIVE]
    omega
  unfold State.injected State.when
  dsimp only
  split
  · exact (State.laneWork_setTxLane ..).trans (active s)
  · exact State.laneWork_setTxLane ..

theorem State.laneWork_txSymbol (p : Nat) (hdr : Bool) (y : Sym) (s : State) : (s.txSymbol t p hdr y).1.LaneWork t s := by
  unfold State.txSymbol
  dsimp only
  split
  · exact State.laneWork_setTxLane ..
  · exact (State.laneWork_injected ..).trans (State.laneWork_setTxLane ..)

theorem State.laneWork_txPrbs (p : Nat) (s : State) : (s.txPrbs t p).1.LaneWork t s := by
  unfold State.txPrbs
  dsimp only
  split
  · split
    · exact State.laneWork_setTxLane ..
    · exact .rfl'
  · split
    · exact (State.laneWork_injected ..).trans (State.laneWork_setTxLane ..)
    · exact State.laneWork_setTxLane ..

/-- What lane after lane does to the track, the symbols gathered aside. -/
theorem State.laneWork_foldl {α : Type} {g : State × α → Nat → State × α} (hg : ∀ acc p, (g acc p).1.LaneWork t acc.1) (l : List Nat) (acc : State × α) :
    (l.foldl g acc).1.LaneWork t acc.1 :=
  List.foldlRecOn (motive := fun (a : State × α) => a.1.LaneWork t acc.1) l g .rfl' fun a ha p _ => (hg a p).trans ha

/-- The bytes of a row: of its data symbols, 0 elsewhere. -/
def rowData (ys : List Sym) : List Byte := ys.map fun y => match y with
  | .data b => b
  | _ => 0

/-- One lane of a row: its symbol, or its generator's bits, after those of the lanes before it. -/
def State.emitLane (s : State) (t : Nat) (kind : TxKind) (row : Nat) (ys : List Sym) (sets : Option (Nat → Sym)) (acc : State × List (BitVec 10)) (p : Nat) :
    State × List (BitVec 10) :=
  let lane := if s.drives t p then acc.1.txSymbol t p (kind = .header) (s.laneSym t kind row ys sets p) else acc.1.txPrbs t p
  (lane.1, acc.2 ++ [lane.2])

theorem State.laneWork_emitLane (s : State) (kind : TxKind) (row : Nat) (ys : List Sym) (sets : Option (Nat → Sym)) (acc : State × List (BitVec 10)) (p : Nat) :
    (s.emitLane t kind row ys sets acc p).1.LaneWork t acc.1 := by
  unfold State.emitLane
  dsimp only
  split
  · exact State.laneWork_txSymbol ..
  · exact State.laneWork_txPrbs ..

/-- A row goes out: the lanes, and what the transmitter shows of the row. -/
theorem State.emit_eq (kind : TxKind) (row : Nat) (ys : List Sym) (sets : Option (Nat → Sym)) (s : State) : ∃ (v : State) (syms : List (BitVec 10)),
    v.LaneWork t s ∧ s.emit t kind row ys sets = v.modTx t fun x => { x with out := { kind := kind, bytes := rowData ys, syms := syms } } := by
  exact ⟨((List.range 18).foldl (s.emitLane t kind row ys sets) (s, [])).1, ((List.range 18).foldl (s.emitLane t kind row ys sets) (s, [])).2,
    State.laneWork_foldl (State.laneWork_emitLane s kind row ys sets) (List.range 18) (s, []), rfl⟩

theorem State.trk_emit (kind : TxKind) (row : Nat) (ys : List Sym) (sets : Option (Nat → Sym)) (s : State) : ∃ l syms,
    (s.emit t kind row ys sets).trk t =
      { s.trk t with lanesTx := l, tx := { (s.trk t).tx with out := { kind := kind, bytes := rowData ys, syms := syms } } } := by
  obtain ⟨v, syms, ⟨⟨l, hl⟩, -⟩, hv⟩ := State.emit_eq (t := t) kind row ys sets s
  exact ⟨l, syms, by rw [hv, State.trk_modTx_same, hl]⟩

theorem State.fld_emit {f : Field} (hf : f.blk = .trk ∧ f.lo < 64 ∧ f.lo ≠ 30) (kind : TxKind) (row : Nat) (ys : List Sym) (sets : Option (Nat → Sym))
    (s : State) : (s.emit t kind row ys sets).fld f t = s.fld f t := by
  obtain ⟨v, syms, work, hv⟩ := State.emit_eq (t := t) kind row ys sets s
  rw [hv, State.modTx_fld, work.fld f hf]

/-! ### A track becomes READY (R110, R119) -/

/-- A track begins READY with its lanes in L0. -/
theorem State.fld_becomeReady (first : (s.trk t).trn.lastRx = none) :
    (s.becomeReady t).linkIs t .ready = true ∧ (s.becomeReady t).fld Fld.TRK_TRAIN_STATUS_ATTEMPT t = 0 ∧
    (s.becomeReady t).fld Fld.TRK_LSTATE_TX_STATE t = 0 ∧ (s.becomeReady t).fld Fld.TRK_LSTATE_RX_STATE t = 0 := by
  obtain ⟨v, hv⟩ : ∃ v, v = ((((s.setFld Fld.TRK_TRAIN_STATUS_STATE LinkState.ready.code t).setFld Fld.TRK_TRAIN_STATUS_PHASE 0 t).setFld
      Fld.TRK_TRAIN_STATUS_ATTEMPT 0 t).setFld Fld.TRK_LSTATE_TX_STATE 0 t).setFld Fld.TRK_LSTATE_RX_STATE 0 t := ⟨_, rfl⟩
  have none : (v.trk t).trn.lastRx = .none := by rw [hv]; exact first
  have ready : s.becomeReady t = ((v.modTrk t Trk.readied).announceTo t).rejoin t := by
    unfold State.becomeReady
    dsimp only
    rw [← hv, none]
  have fld (f : Field) : (s.becomeReady t).fld f t = v.fld f t := by
    have frame : (((v.modTrk t Trk.readied).announceTo t).rejoin t).Frame 0x20 v :=
      State.rejoin_frame (State.announceTo_frame (State.modTrk_frame .rfl' (by rfl) ..) (by rfl) _) (by rfl) _
    rw [ready]
    exact State.fld_congr (frame.regs rfl) f t 0
  rw [State.linkIs_iff, fld, fld, fld, fld, hv]
  refine ⟨?_, ?_, ?_, ?_⟩
  all_goals simp (disch := decide) only [State.fld_setFld_off, State.fld_setFld_same]
  all_goals rfl

/-- The last row of the fourth RDY slot after the host's makes the track READY. -/
theorem State.slotSent_rdy (training : s.linkIs t .training = true) (phase : s.inPhase t 8 = true) (typ : (s.trk t).tx.slot.typ = SetType.rdy.code)
    (rdy : (s.trk t).trn.rdy = some 3) :
    s.slotSent t = (s.modTx t fun y => { y with page := y.page + 1, slots := y.slots + 1 }).becomeReady t := by
  obtain ⟨v, hv⟩ : ∃ v, v = s.modTx t fun y => { y with page := y.page + 1, slots := y.slots + 1 } := ⟨_, rfl⟩
  have sent : (s.trk t).tx.slot.typ = SetType.rdy.code ∧ v.inPhase t 8 = true := ⟨typ, by rw [hv]; exact phase⟩
  have link : ¬v.linkIs t .ready = true := by rw [hv]; exact State.not_linkIs training (by decide)
  have count : (v.trk t).trn.rdy = some 3 := by rw [hv, State.trk_modTx_same]; exact rdy
  unfold State.slotSent
  dsimp only
  rw [← hv, if_neg link, if_pos sent, count]
  rfl

end

/-! ### The last row of a slot -/

section
variable {s : State} {t : TrackIx}

/-- A driven direction out of reset has one row-time. -/
theorem execPacketTransmit_of_live {st : Nat} (up : s.resetting = false) (on : ¬(s.linkIs t .disabled = true ∨ s.linkIs t .down = true))
    (live : s.fld Fld.TRK_LSTATE_TX_STATE t = st) (driven : st ≠ 1 ∧ st ≠ 3) : exec (.packetTransmit t) s = .next ((s.modTx t TxState.waited).txRow t) := by
  show execPacketTransmit t s = _
  have goes : ¬(s.resetting = true ∨ s.linkIs t .disabled = true ∨ s.linkIs t .down = true ∨ s.fld Fld.TRK_LSTATE_TX_STATE t = 1 ∨
      s.fld Fld.TRK_LSTATE_TX_STATE t = 3) := by
    rw [live]
    rintro (h | h | h | h | h)
    · exact Bool.false_ne_true (up.symm.trans h)
    · exact on (.inl h)
    · exact on (.inr h)
    · exact driven.1 h
    · exact driven.2 h
  rw [execPacketTransmit, if_neg goes]

/-- Within a block, a track in training sends its sets. -/
theorem State.txRow_of_training (training : s.linkIs t .training = true) (awake : (s.trk t).tx.wake = 0) (row : 0 < (s.trk t).tx.row)
    (below : (s.trk t).tx.row < 256) : s.txRow t = s.trainRow t := by
  have wake : ¬(s.trk t).tx.wake > 0 := by omega
  have begun : ¬(s.trk t).tx.row = 0 := by omega
  have inside : ¬(s.trk t).tx.row ≥ 256 := by omega
  unfold State.txRow
  dsimp only
  rw [if_neg wake, if_neg begun, if_neg inside, if_pos training]

theorem State.trainRow_of_slot (left : (s.trk t).tx.slotLeft ≠ 0) : s.trainRow t = (s.modTx t fun y => { y with finish := false }).emitSet t :=
  if_neg fun h => left h.2.1

/-- The state in which a slot's row is out. -/
def State.slotRow (s : State) (t : Nat) : State :=
  (s.emit t .train (s.trk t).tx.row [] (some fun lane => setSym (s.trk t).tx.slot.typ lane (s.trk t).tx.slot.page (s.trk t).tx.slot.ack (s.trk t).tx.slot.last
    (s.trk t).tx.slot.bytes (((s.trk t).tx.row - 1) % 15))).modTx t fun x =>
      { x with row := x.row + 1, slotLeft := 14 - ((s.trk t).tx.row - 1) % 15, busy := true }

theorem State.emitSet_of_last (last : ((s.trk t).tx.row - 1) % 15 = 14) : s.emitSet t = (s.slotRow t).slotSent t := by
  have within : ¬((s.trk t).tx.row - 1) % 15 = 0 := by omega
  unfold State.emitSet
  dsimp only
  rw [if_neg within, if_pos last]
  rfl

theorem State.trk_slotRow : ((s.slotRow t).trk t).trn = (s.trk t).trn ∧ ((s.slotRow t).trk t).tx.slot = (s.trk t).tx.slot := by
  obtain ⟨l, syms, hl⟩ := State.trk_emit (t := t) .train (s.trk t).tx.row [] (some fun lane => setSym (s.trk t).tx.slot.typ lane (s.trk t).tx.slot.page
    (s.trk t).tx.slot.ack (s.trk t).tx.slot.last (s.trk t).tx.slot.bytes (((s.trk t).tx.row - 1) % 15)) s
  rw [State.slotRow, State.trk_modTx_same, hl]
  exact ⟨rfl, rfl⟩

theorem State.fld_slotRow {f : Field} (hf : f.blk = .trk ∧ f.lo < 64 ∧ f.lo ≠ 30) : (s.slotRow t).fld f t = s.fld f t := by
  rw [State.slotRow, State.modTx_fld]
  exact State.fld_emit hf ..

theorem exec_packetTransmit_fourth (up : s.resetting = false) (phase : s.inPhase t 8 = true) (live : s.fld Fld.TRK_LSTATE_TX_STATE t = 2)
    (awake : (s.trk t).tx.wake = 0) (row : 0 < (s.trk t).tx.row) (below : (s.trk t).tx.row < 256) (last : ((s.trk t).tx.row - 1) % 15 = 14)
    (left : (s.trk t).tx.slotLeft = 1) (typ : (s.trk t).tx.slot.typ = SetType.rdy.code) (rdy : (s.trk t).trn.rdy = some 3)
    (first : (s.trk t).trn.lastRx = none) : ∃ u, exec (.packetTransmit t) s = .next u ∧ u.linkIs t .ready = true ∧
    u.fld Fld.TRK_TRAIN_STATUS_ATTEMPT t = 0 ∧ u.fld Fld.TRK_LSTATE_TX_STATE t = 0 ∧ u.fld Fld.TRK_LSTATE_RX_STATE t = 0 := by
  obtain ⟨training, -⟩ := State.inPhase_iff.mp phase
  obtain ⟨v, hv⟩ : ∃ v, v = (s.modTx t TxState.waited).modTx t fun y => { y with finish := false } := ⟨_, rfl⟩
  have tx : (v.trk t).tx = { (s.trk t).tx.waited with finish := false } := by rw [hv, State.trk_modTx_same, State.trk_modTx_same]
  have trn : (v.trk t).trn = (s.trk t).trn := by rw [hv, State.trk_modTx_same, State.trk_modTx_same]
  have still (f : Field) : v.fld f t = s.fld f t := by rw [hv, State.modTx_fld, State.modTx_fld]
  obtain ⟨sentTrn, sentSlot⟩ := State.trk_slotRow (s := v) (t := t)
  have sentFld {f : Field} (hf : f.blk = .trk ∧ f.lo < 64 ∧ f.lo ≠ 30) : (v.slotRow t).fld f t = s.fld f t := (State.fld_slotRow hf).trans (still f)
  have sentPhase : (v.slotRow t).inPhase t 8 = true := (State.inPhase_congr (sentFld (by decide)) (sentFld (by decide))).trans phase
  have link : (s.modTx t TxState.waited).linkIs t .training = true := training
  have run : exec (.packetTransmit t) s =
      .next (((v.slotRow t).modTx t fun y => { y with page := y.page + 1, slots := y.slots + 1 }).becomeReady t) := by
    rw [execPacketTransmit_of_live up (fun h => h.elim (State.not_linkIs training (by decide)) (State.not_linkIs training (by decide))) live (by decide),
      State.txRow_of_training link, State.trainRow_of_slot, ← hv, State.emitSet_of_last, State.slotSent_rdy (State.inPhase_iff.mp sentPhase).1 sentPhase]
    · rw [sentSlot, tx]
      exact typ
    · rw [sentTrn, trn]
      exact rdy
    · rw [tx]
      exact last
    all_goals rw [State.trk_modTx_same]
    · exact fun h => absurd (left.symm.trans h) (by decide)
    · exact awake
    · exact row
    · exact below
  refine ⟨_, run, State.fld_becomeReady ?_⟩
  rw [State.trk_modTx_same, sentTrn, trn]
  exact first

end

/-- Settles O31: each content is one branch of its command, and a phase that begins begins in training. -/
theorem trainingContents : Obligations.TrainingContents := by
  unfold Obligations.TrainingContents
  refine ⟨?ts1Ready, ?ts1Down, ?ts1Early, ?ts1Off, ?cold, ?ts2, ?ts2Not, ?cap, ?smap, ?grant, ?capBad, ?capKept, ?capAck, ?capUpdate, ?smapNone, ?smapAgreed,
    ?smapHeld, ?grantResume, ?grantHeld, ?grantFew, ?grantFresh, ?grantResumed, ?rdy, ?rdyNot, ?fourth⟩
  case ts1Ready =>
    intro t x l k s up ready
    show execTs1Rx t x l k s = _
    simp only [execTs1Rx, up, ready, Bool.false_eq_true, if_false, if_true]
  case ts1Down =>
    intro t x l k s up down
    show execTs1Rx t x l k s = _
    simp only [execTs1Rx, up, down, if_neg (State.not_linkIs down (b := .ready) (by decide)), Bool.false_eq_true, if_false, if_true]
  case ts1Early =>
    intro t x l k s up training early
    show execTs1Rx t x l k s = _
    simp only [execTs1Rx, up, if_neg (State.not_linkIs training (b := .ready) (by decide)), if_neg (State.not_linkIs training (b := .down) (by decide)),
      if_pos (And.intro training early), Bool.false_eq_true, if_false]
  case ts1Off =>
    intro t x l k s off
    show execTs1Rx t x l k s = _
    rcases off with resetting | disabled
    · simp only [execTs1Rx, resetting, if_true]
    · simp only [execTs1Rx, if_neg (State.not_linkIs disabled (b := .ready) (by decide)), if_neg (State.not_linkIs disabled (b := .down) (by decide)),
        if_neg fun h => State.not_linkIs disabled (b := .training) (by decide) (And.left h), ite_self]
  case cold =>
    intro t s
    obtain ⟨state, phase, -⟩ := State.fld_beginAttempt (t := t) false s
    exact ⟨State.linkIs_iff.mpr state, phase, State.fld_beginAttempt_cold⟩
  case ts2 => exact fun t x l k s phase => congrArg _ (if_pos phase)
  case ts2Not => exact fun t x l k s other => congrArg _ (if_neg (Bool.eq_false_iff.mp other))
  case cap =>
    intro t x e s he
    show execCapRx t x s = execCapRx t (capOf e) (s.takeSet t .cap)
    simp only [execCapRx, State.contentIn_of_some he, State.contentIn_of_none (State.setIn_takeSet ..), State.takeSet_takeSet]
  case smap =>
    intro t x e s he
    show execSmapRx t x s = execSmapRx t (smapOf e) (s.takeSet t .smap)
    simp only [execSmapRx, State.contentIn_of_some he, State.contentIn_of_none (State.setIn_takeSet ..), State.takeSet_takeSet]
  case grant =>
    intro t x e s he
    show execGrantRx t x s = execGrantRx t (grantOf e) (s.takeSet t .grant)
    simp only [execGrantRx, State.contentIn_of_some he, State.contentIn_of_none (State.setIn_takeSet ..), State.takeSet_takeSet]
  case capBad =>
    intro t x s phase fresh bad
    show execCapRx t x s = _
    have phase : (s.takeSet t .cap).inPhase t 5 = true := phase
    simp only [execCapRx, State.contentIn_of_none fresh, if_pos phase, if_pos bad]
  case capKept =>
    intro t x s phase fresh version role real few quiet
    obtain ⟨rx, trn, trk, mine⟩ := State.trk_capKept (s := s) (t := t) (x := x)
    refine ⟨_, (exec_capRx_of_phase5 phase fresh version role real few).trans (by rw [quiet, if_neg Bool.false_ne_true]), State.fld_capKept few,
      (State.inPhase_capKept 5).trans phase, ?_⟩
    rw [trk]
    exact mine
  case capAck => exact fun t x m s => exec_capRx_ack
  case capUpdate =>
    intro t x s ready fresh updating update ack
    show execCapRx t x s = _
    have link : (s.takeSet t .cap).linkIs t .ready = true := ready
    have other : ¬(s.takeSet t .cap).inPhase t 5 = true := fun h => State.not_linkIs link (by decide) (State.inPhase_iff.mp h).1
    have announced : (s.takeSet t .cap).linkIs t .ready = true ∧ ((s.takeSet t .cap).trk t).trn.capUpdate = true ∧ x.update = true ∧ x.ack = true :=
      ⟨link, by rw [State.trk_takeSet]; exact updating, update, ack⟩
    simp only [execCapRx, State.contentIn_of_none fresh, if_neg other, if_pos announced]
  case smapNone => exact fun t x s => exec_smapRx_of_none
  case smapAgreed =>
    intro t x m s phase fresh map full can same ack free
    have training : (s.smapKept t x m).linkIs t .training = true := (State.inPhase_iff.mp phase).1
    obtain ⟨next, rx, tx⟩ := State.mapsAgreed_of_free (s := s.smapKept t x m) (want := x.rxMap.map (·.val)) (bad := x.unusable.toNat) training
      (free.imp_right fun h => State.oldHeld_smapKept.trans h)
    rw [State.trk_smapKept] at rx tx
    exact ⟨_, exec_smapRx_of_agreed phase fresh map full can same ack, next, rx, tx⟩
  case smapHeld =>
    intro t x m s phase fresh map full can same ack session held
    have waits := State.mapsAgreed_of_held (s := s.smapKept t x m) (t := t) (want := x.rxMap.map (·.val)) (bad := x.unusable.toNat) session
      (State.oldHeld_smapKept.trans held)
    exact ⟨_, (exec_smapRx_of_agreed phase fresh map full can same ack).trans (congrArg _ waits), phase, by rw [State.trk_modTrn_same]⟩
  case grantResume =>
    intro t x s phase fresh session resume
    rw [execGrantRx_of_phase7 phase fresh session, if_pos resume]
  case grantHeld =>
    intro t x s phase fresh session resume held
    rw [execGrantRx_of_phase7 phase fresh session, if_neg (Bool.eq_false_iff.mp resume), if_pos held]
  case grantFew =>
    intro t x s phase fresh session resume held few
    rw [execGrantRx_of_phase7 phase fresh session, if_neg (Bool.eq_false_iff.mp resume), if_neg (Bool.eq_false_iff.mp held),
      if_pos (few.imp_left Nat.lt_one_iff.mpr)]
  case grantFresh => exact fun t x s => exec_grantRx_fresh
  case grantResumed => exact fun t x s => exec_grantRx_resumed
  case rdy =>
    intro t s phase none
    show execRdyRx t s = _
    have waits : (s.takeSet t .rdy).inPhase t 8 = true ∧ ((s.takeSet t .rdy).trk t).trn.rdy.isNone = true := ⟨phase, by simp [none]⟩
    simp only [execRdyRx, if_pos waits]
  case rdyNot => exact fun t s other => congrArg _ (if_neg fun h => Bool.eq_false_iff.mp other h.1)
  case fourth => exact fun t s => exec_packetTransmit_fourth

end Sys2Proof.Machine
end

section
/-! PROOFS. Acknowledgement, replay and tablet returns, and what one row-time of a READY track sends. -/
namespace Sys2Proof.Machine

/-! ### The replay buffer (R146, R149) -/

/-- The packets up to the one acknowledged leave; those behind it stay. -/
theorem dropThrough_of_first {n : Byte} {q : Pkt} {l r : List Pkt} (hq : q.seq = n) (hl : ∀ y ∈ l, y.seq ≠ n) : dropThrough n (l ++ q :: r) = r := by
  induction l with
  | nil => exact if_pos hq
  | cons y l ih =>
    have later : y.seq ≠ n := hl y List.mem_cons_self
    exact (if_neg later).trans (ih fun z hz => hl z (List.mem_cons_of_mem _ hz))

section
variable {s u : State} {t : Nat}

theorem State.trk_bump (f : Field) (i j n : Nat) (s : State) : (s.bump f i j n).trk t = s.trk t := State.ite_keeps (·.trk t) rfl rfl

/-- What a change of the transmitter does is what it does to the transmitter that stands. -/
theorem State.modTx_congr {g h : TxState → TxState} (same : g (s.trk t).tx = h (s.trk t).tx) : s.modTx t g = s.modTx t h := by
  simp only [State.modTx, State.modTrk, same]

/-- An acknowledgement without NAK frees what it names (R146). -/
theorem State.takeAck_of_named {n : Byte} {q : Pkt} {l r : List Pkt} (replay : (s.trk t).tx.replay = l ++ q :: r) (hq : q.seq = n)
    (hl : ∀ y ∈ l, y.seq ≠ n) : s.takeAck t n false =
      ((s.setFld Fld.TRK_PKT_SEQ_TX_ACKED n.toNat t).setFld Fld.TRK_PKT_SEQ_UNACKED r.length t).modTx t fun y =>
        { y with replay := r, ackBlk := 0, reps := 0, stalled := false } := by
  have named : ((s.trk t).tx.replay.any fun p => p.seq = n) = true := by
    rw [replay]
    exact List.any_eq_true.mpr ⟨q, by simp, by simp [hq]⟩
  have rest : dropThrough n (s.trk t).tx.replay = r := by rw [replay, dropThrough_of_first hq hl]
  unfold State.takeAck
  dsimp only
  rw [if_pos named, rest]
  exact if_neg Bool.false_ne_true

/-- A replay that the limit does not hold up (R149, R152). -/
theorem State.startReplay_of_free (n : Byte) (sent : (s.trk t).tx.replay ≠ [])
    (free : (s.trk t).tx.stalled = true ∨ (s.trk t).tx.reps < s.fld Fld.TRK_PKT_CFG_REPLAY_LIMIT t) :
    s.startReplay t n = (s.bump Fld.TRK_PKT_CNT_COUNT t 5).modTx t fun y => { y with rep := some (n + 1), repWait := true, reps := y.reps + 1, ackBlk := 0 } := by
  have waits : ¬(s.trk t).tx.replay.isEmpty = true := by simpa using sent
  have flows : (!(s.trk t).tx.stalled && decide ((s.trk t).tx.reps ≥ s.fld Fld.TRK_PKT_CFG_REPLAY_LIMIT t)) = false := by
    rcases free with h | h
    · rw [h]
      rfl
    · rw [decide_eq_false (Nat.not_le_of_lt h), Bool.and_false]
  unfold State.startReplay
  dsimp only
  rw [if_neg waits, flows, if_neg Bool.false_ne_true]
  refine State.modTx_congr ?_
  rw [State.trk_bump, Bool.or_false]

theorem State.startReplay_of_nothing (n : Byte) (none : (s.trk t).tx.replay = []) : s.startReplay t n = s := by
  unfold State.startReplay
  dsimp only
  rw [none]
  rfl

/-! ### The branches of a row-time (R74, R75, R98) -/

/-- One lane of a direction with nothing to send: its generator's bits on a disabled track, electrical idle on another. -/
def State.idleLane (t : Nat) (gen : Bool) (acc : State × List (BitVec 10)) (p : Nat) : State × List (BitVec 10) :=
  if gen then ((acc.1.txPrbs t p).1, acc.2 ++ [(acc.1.txPrbs t p).2])
  else (acc.1.setTxLane t p { acc.1.txLane t p with on := false }, acc.2 ++ [0])

theorem State.laneWork_idleLane (gen : Bool) (acc : State × List (BitVec 10)) (p : Nat) : (State.idleLane t gen acc p).1.LaneWork t acc.1 := by
  unfold State.idleLane
  split
  · exact State.laneWork_txPrbs ..
  · exact State.laneWork_setTxLane ..

/-- A direction that is not driven shows an idle row. -/
theorem State.emitIdle_eq (s : State) : ∃ (v : State) (syms : List (BitVec 10)),
    v.LaneWork t s ∧ s.emitIdle t = v.modTx t fun x => { x.cut with out := { kind := .idle, bytes := [], syms := syms } } := by
  unfold State.emitIdle
  generalize List.range 18 = lanes
  exact ⟨(lanes.foldl (State.idleLane t (s.linkIs t .disabled)) (s, [])).1, (lanes.foldl (State.idleLane t (s.linkIs t .disabled)) (s, [])).2,
    State.laneWork_foldl (State.laneWork_idleLane _) lanes (s, []), rfl⟩

theorem State.tx_emitIdle (s : State) : ((s.emitIdle t).trk t).tx.out.kind = .idle ∧ ((s.emitIdle t).trk t).tx.replay = (s.trk t).tx.replay := by
  obtain ⟨v, syms, ⟨⟨l, hl⟩, -⟩, hv⟩ := State.emitIdle_eq (t := t) s
  rw [hv, State.trk_modTx_same, hl]
  exact ⟨rfl, rfl⟩

/-- A block begins with its header row. -/
theorem State.tx_emitHeader (blk : Byte) (s : State) : ((s.emitHeader t blk).trk t).tx.out.kind = .header ∧ ((s.emitHeader t blk).trk t).tx.row = 1 ∧
    ((s.emitHeader t blk).trk t).tx.blk = blk := by
  unfold State.emitHeader
  obtain ⟨l, syms, hl⟩ := State.trk_emit (t := t) .header 0 (List.replicate 15 (.ctl .com) ++ [.data blk]) none (s.modTrk t _)
  rw [hl, State.trk_modTrk_same]
  exact ⟨rfl, rfl, rfl⟩

theorem State.txRow_of_start (awake : (s.trk t).tx.wake = 0) (row : (s.trk t).tx.row = 0) : s.txRow t = s.emitHeader t (s.trk t).tx.blk := by
  have wake : ¬(s.trk t).tx.wake > 0 := by omega
  unfold State.txRow
  dsimp only
  rw [if_neg wake, if_pos row]

theorem State.txRow_of_end (awake : (s.trk t).tx.wake = 0) (row : (s.trk t).tx.row = 256) : s.txRow t =
    if (s.trk t).tx.blk.toNat % 8 = 7 then (s.emit t .skip 0 (ctlRow .skp) none).modTx t fun y => { y with row := 257 }
    else s.emitHeader t ((s.trk t).tx.blk + 1) := by
  have wake : ¬(s.trk t).tx.wake > 0 := by omega
  unfold State.txRow
  simp only [row, if_neg wake, true_and]
  rfl

theorem State.txRow_of_ready (ready : s.linkIs t .ready = true) (awake : (s.trk t).tx.wake = 0) (row : 0 < (s.trk t).tx.row)
    (below : (s.trk t).tx.row < 256) : s.txRow t = s.readyRow t := by
  have wake : ¬(s.trk t).tx.wake > 0 := by omega
  have begun : ¬(s.trk t).tx.row = 0 := by omega
  have inside : ¬(s.trk t).tx.row ≥ 256 := by omega
  unfold State.txRow
  dsimp only
  rw [if_neg wake, if_neg begun, if_neg inside, if_neg (State.not_linkIs ready (by decide))]

/-- With no slot in progress and no content waiting, a READY track sends the stream. -/
theorem State.readyRow_of_stream (left : (s.trk t).tx.slotLeft = 0) (queue : (s.trk t).trn.queue = []) (set : (s.trk t).trn.set = []) :
    s.readyRow t = s.emitData t fun s => s.dataRow t := by
  have noSlot : ¬(s.trk t).tx.slotLeft > 0 := by omega
  have noSet : ¬(((s.trk t).trn.queue ≠ [] ∨ (s.trk t).trn.set ≠ []) ∧ (s.trk t).tx.rows = [] ∧ (s.trk t).tx.rep.isNone = true) :=
    fun h => h.1.elim (· queue) (· set)
  unfold State.readyRow
  dsimp only
  rw [if_neg noSlot, if_neg noSet]

theorem rowData_data (bs : List Byte) : rowData (bs.map .data) = bs := by
  rw [rowData, List.map_map]
  exact List.map_id' bs

/-- A data row: what was picked, shown as it went out, and the row counted. -/
theorem State.trk_emitData (pick : State → State × BitVec 128) (s : State) : ∃ l syms,
    (s.emitData t pick).trk t = { (pick s).1.trk t with lanesTx := l, tx := { ((pick s).1.trk t).tx with
      out := { kind := .data, bytes := rowBytes (pick s).2, syms := syms }, row := ((pick s).1.trk t).tx.row + 1 } } := by
  obtain ⟨l, syms, hl⟩ := State.trk_emit (t := t) .data ((pick s).1.trk t).tx.row ((rowBytes (pick s).2).map .data) none (pick s).1
  refine ⟨l, syms, ?_⟩
  unfold State.emitData
  rw [State.trk_modTx_same, hl, rowData_data]

end

/-! ### A response goes out (R122, R145, R167) -/

section
variable {s : State} {t : Nat}

theorem State.trk_takeReturns (s : State) : ∃ tx, (s.takeReturns t).1.trk t = { s.trk t with tx := tx } ∧ tx.replay = (s.trk t).tx.replay ∧
    tx.resp = (s.trk t).tx.resp := ⟨_, State.trk_modTx_same .., rfl, rfl⟩

/-- A packet sent for the first time waits in the replay buffer and is counted (R127, R145). -/
theorem State.trk_sendFirst (r : Resp) (rr rd cr cd : Nat) (s : State) : ∃ p : Pkt, p.typ = r.typ ∧ p.tag = r.tag ∧ p.data = r.data ∧
    ((s.sendFirst t r rr rd cr cd).1.trk t).tx.replay = (s.trk t).tx.replay ++ [p] ∧
    ((s.sendFirst t r rr rd cr cd).1.trk t).tx.resp = (s.trk t).tx.resp ∧
    ((s.sendFirst t r rr rd cr cd).1.trk t).ses.counts.txr = add32 (s.trk t).ses.counts.txr cr ∧
    ((s.sendFirst t r rr rd cr cd).1.trk t).ses.counts.txd = add32 (s.trk t).ses.counts.txd cd := by
  refine ⟨r.pkt (BitVec.ofNat 8 (s.fld Fld.TRK_PKT_SEQ_TX_NEXT t)) rr rd, rfl, rfl, rfl, ?_⟩
  have closed (o : Nat) (v : State) : (if o = 0 then v else v.dropTag o).trk t = v.trk t := State.ite_keeps (·.trk t) rfl rfl
  unfold State.sendFirst State.putHeader
  dsimp only
  simp only [State.trk_modTx_same, State.trk_modTrk_same, closed, State.setFld_trk, State.trk_bump, and_self]

/-- A response is sent for one request-class tablet and its LEN in data tablets. -/
theorem State.trk_sendResp (r : Resp) (s : State) : ∃ p : Pkt, p.typ = r.typ ∧ p.tag = r.tag ∧ p.data = r.data ∧
    ((s.sendResp t r).1.trk t).tx.replay = (s.trk t).tx.replay ++ [p] ∧ ((s.sendResp t r).1.trk t).tx.resp = (s.trk t).tx.resp ∧
    ((s.sendResp t r).1.trk t).ses.counts.txr = add32 (s.trk t).ses.counts.txr 1 ∧
    ((s.sendResp t r).1.trk t).ses.counts.txd = add32 (s.trk t).ses.counts.txd r.data.length := by
  obtain ⟨tx, trk, replay, resp⟩ := State.trk_takeReturns (t := t) s
  obtain ⟨p, typ, tag, data, sent, left, txr, txd⟩ :=
    State.trk_sendFirst (t := t) r (s.takeReturns t).2.1 (s.takeReturns t).2.2 1 r.data.length (s.takeReturns t).1
  refine ⟨p, typ, tag, data, ?_⟩
  have mark (v : State) (f : TxState → Bool) : ((v.modTx t fun x => { x with respOut := f x }).trk t) =
      { v.trk t with tx := { (v.trk t).tx with respOut := f (v.trk t).tx } } := State.trk_modTx_same ..
  unfold State.sendResp
  dsimp only
  rw [mark]
  rw [trk] at sent left txr txd
  exact ⟨sent.trans (by rw [replay]), left.trans resp, txr, txd⟩

end

section
variable {s : State} {t : TrackIx}

/-- The registers of FLT lie above those of the tracks. -/
theorem State.fld_setFld_flt {f g : Field} (hf : f.blk = .trk ∧ f.off < 0x800 ∧ f.lo < 64) (hg : g.blk = .flt) (v i j : Nat) (s : State) :
    (s.setFld g v i j).fld f t = s.fld f t := by
  refine State.fld_setFld_ne s v ?_
  have flt := Field.key_ge g i j
  obtain ⟨blk, off, lo⟩ := hf
  have track := t.isLt
  simp only [hg, Blk.base] at flt
  simp only [Field.key, Field.addr, blk, Blk.base, Blk.span] at flt ⊢
  omega

/-- A maskable bulletin may come to the track before its next header (R407). -/
theorem State.pullBulletins_of_calm (urg : (s.trk t).tx.urg = []) (box : s.box.urg = []) :
    (∃ b, (s.pullBulletins t).trk t = { s.trk t with tx := { (s.trk t).tx with bul := b } }) ∧ (s.pullBulletins t).tags = s.tags ∧
    ∀ f : Field, f.blk = .trk ∧ f.off < 0x800 ∧ f.lo < 64 → (s.pullBulletins t).fld f t = s.fld f t := by
  have kept : (∃ b, s.trk t = { s.trk t with tx := { (s.trk t).tx with bul := b } }) ∧ s.tags = s.tags ∧
      ∀ f : Field, f.blk = .trk ∧ f.off < 0x800 ∧ f.lo < 64 → s.fld f t = s.fld f t := ⟨⟨_, rfl⟩, rfl, fun _ _ => rfl⟩
  have calm : s.pullUrgent = s := by
    unfold State.pullUrgent
    rw [box]
  unfold State.pullBulletins State.pullMask
  rw [if_pos urg, calm]
  dsimp only
  split
  · split
    · exact kept
    · split
      · exact ⟨⟨_, State.trk_modTx_same ..⟩, rfl, fun f hf => State.fld_setFld_flt hf (g := Fld.FLT_STATUS_BUL_NUM) rfl ..⟩
      · exact kept
  · exact kept

/-- The oldest response goes out where nothing of R167 comes before it. -/
theorem State.chooseHeader_of_resp {v : State} {x : Resp} {l : List Resp} (hv : v = s.pullBulletins t) (rep : (s.trk t).tx.rep = none)
    (few : s.fld Fld.TRK_PKT_SEQ_UNACKED t < 255) (marked : (v.trk t).tx.marked = []) (urg : (v.trk t).tx.urg = []) (resp : (v.trk t).tx.resp = x :: l)
    (free : v.fenceHolds x.ord = false) (tablets : x.affordable v t = true) :
    s.chooseHeader t = ((v.modTx t fun y => { y with resp := y.resp.erase x }).countBytes x).sendResp t x := by
  have numbers : ¬¬s.mayNumber t = true := not_not.mpr (decide_eq_true few)
  have oldest : ((v.trk t).tx.resp.find? fun r => !(v.fenceHolds r.ord)) = some x := by
    rw [resp]
    exact List.find?_cons_of_pos (by rw [free]; rfl)
  unfold State.chooseHeader
  simp only [rep, if_neg numbers, ← hv, State.sendMarked, marked, State.sendUrgent, urg, State.sendOldest, oldest, if_pos tablets]

theorem State.fenceHolds_congr {u v : State} (tags : u.tags = v.tags) (n : Nat) : u.fenceHolds n = v.fenceHolds n := by
  simp only [State.fenceHolds, State.openTag, tags]

theorem State.trk_countBytes (r : Resp) (s : State) : (s.countBytes r).trk t = s.trk t := State.ite_keeps (·.trk t) rfl rfl

/-- What a row of the stream does where a response is next. -/
theorem State.dataRow_of_resp {x : Resp} {l : List Resp} (rows : (s.trk t).tx.rows = []) (rep : (s.trk t).tx.rep = none) (marked : (s.trk t).tx.marked = [])
    (urg : (s.trk t).tx.urg = []) (box : s.box.urg = []) (few : s.fld Fld.TRK_PKT_SEQ_UNACKED t < 255) (resp : (s.trk t).tx.resp = x :: l)
    (free : s.fenceHolds x.ord = false) (tablets : x.affordable s t = true) : ∃ p : Pkt, p.typ = x.typ ∧ p.tag = x.tag ∧ p.data = x.data ∧
    ((s.dataRow t).1.trk t).tx.replay = (s.trk t).tx.replay ++ [p] ∧ ((s.dataRow t).1.trk t).tx.resp = l ∧
    ((s.dataRow t).1.trk t).ses.counts.txr = add32 (s.trk t).ses.counts.txr 1 ∧
    ((s.dataRow t).1.trk t).ses.counts.txd = add32 (s.trk t).ses.counts.txd x.data.length := by
  obtain ⟨⟨b, trk⟩, tags, fld⟩ := State.pullBulletins_of_calm urg box
  obtain ⟨v, hv⟩ : ∃ v, v = s.pullBulletins t := ⟨_, rfl⟩
  rw [← hv] at trk tags fld
  have pays : x.affordable v t = true := by
    rw [Resp.affordable, fld _ (by decide), fld _ (by decide)]
    exact tablets
  have row : s.dataRow t = ((v.modTx t fun y => { y with resp := y.resp.erase x }).countBytes x).sendResp t x := by
    unfold State.dataRow
    rw [rows]
    exact State.chooseHeader_of_resp hv rep few (by rw [trk]; exact marked) (by rw [trk]; exact urg) (by rw [trk]; exact resp)
      ((State.fenceHolds_congr tags _).trans free) pays
  obtain ⟨p, typ, tag, data, sent, left, txr, txd⟩ :=
    State.trk_sendResp (t := t) x ((v.modTx t fun y => { y with resp := y.resp.erase x }).countBytes x)
  rw [State.trk_countBytes, State.trk_modTx_same, trk] at sent left txr txd
  rw [row]
  refine ⟨p, typ, tag, data, sent, left.trans ?_, txr, txd⟩
  dsimp only
  rw [resp]
  exact List.erase_cons_head x l

/-- A READY track's row-time: what its transmitter does once the row is counted. -/
theorem exec_packetTransmit_of_ready (up : s.resetting = false) (ready : s.linkIs t .ready = true) (live : s.fld Fld.TRK_LSTATE_TX_STATE t = 0) :
    exec (.packetTransmit t) s = .next ((s.modTx t TxState.waited).txRow t) :=
  execPacketTransmit_of_live up (fun h => h.elim (State.not_linkIs ready (by decide)) (State.not_linkIs ready (by decide))) live (by decide)

theorem State.trk_waited : (s.modTx t TxState.waited).trk t = { s.trk t with tx := (s.trk t).tx.waited } := State.trk_modTx_same ..

/-- Within a block, a READY track with no content to send and no slot in progress sends a row of the stream. -/
theorem exec_packetTransmit_of_stream (up : s.resetting = false) (ready : s.linkIs t .ready = true) (live : s.fld Fld.TRK_LSTATE_TX_STATE t = 0)
    (awake : (s.trk t).tx.wake = 0) (row : 0 < (s.trk t).tx.row) (below : (s.trk t).tx.row < 256) (left : (s.trk t).tx.slotLeft = 0)
    (queue : (s.trk t).trn.queue = []) (set : (s.trk t).trn.set = []) :
    exec (.packetTransmit t) s = .next ((s.modTx t TxState.waited).emitData t fun s => s.dataRow t) := by
  have link : (s.modTx t TxState.waited).linkIs t .ready = true := ready
  rw [exec_packetTransmit_of_ready up ready live, State.txRow_of_ready link, State.readyRow_of_stream]
  all_goals rw [State.trk_waited]
  · exact left
  · exact queue
  · exact set
  · exact awake
  · exact row
  · exact below

end

/-- Settles O29: a NUL's acknowledgement cuts the replay buffer, and each row-time is one branch of the transmitter. -/
theorem acknowledgementAndTransmission : Obligations.AcknowledgementAndTransmission := by
  unfold Obligations.AcknowledgementAndTransmission
  refine ⟨?nul, ?nulKept, ?ack, ?ackNot, ?returns, ?returnsNot, ?off, ?header, ?skip, ?next, ?rows, ?response⟩
  case nul =>
    intro t p q l r s ready inbox plain legal nak replay named first
    have run : exec (.nul t p) s = .next (s.takeAck t p.ackSeq false) := by
      show execNul t p s = _
      have none : ¬((s.trk t).rx.inbox.any fun e => e.1.same { p with typ := 0 }) = true := by rw [inbox]; exact Bool.false_ne_true
      have link : ¬¬s.linkIs t .ready = true := not_not.mpr ready
      have good : ¬({ p with typ := 0 } : Pkt).headReason = some 0x06 := by rw [legal]; exact nofun
      unfold execNul
      dsimp only
      rw [if_neg none, if_neg link, if_neg (Bool.eq_false_iff.mp plain), if_neg good, nak]
    refine ⟨_, run, ?_, ?_, ?_, ?_⟩
    all_goals rw [State.takeAck_of_named replay named first]
    · rw [State.trk_modTx_same]
    · rw [State.trk_modTx_same]
    · rw [State.modTx_fld, State.fld_setFld_off (by decide), State.fld_setFld_same]
      exact Nat.mod_eq_of_lt p.ackSeq.isLt
    · exact State.fld_setFld_same ..
  case nulKept =>
    intro t p n s inbox
    have run : exec (.nul t p) s = .next (s.modRx t fun x => { x with inbox := [] }) := by
      show execNul t p s = _
      have brought : ((s.trk t).rx.inbox.any fun e => e.1.same { p with typ := 0 }) = true := by
        rw [inbox]
        exact List.any_eq_true.mpr ⟨_, List.mem_singleton.mpr rfl, Pkt.same_self _⟩
      unfold execNul
      dsimp only
      rw [if_pos brought, State.takeIn_of_inbox inbox]
    exact ⟨_, run, by rw [State.trk_modRx_same], by rw [State.trk_modRx_same], rfl⟩
  case ack =>
    intro t s ready late sent free
    show execAckTimeout t s = _
    rw [execAckTimeout, if_pos ⟨ready, late⟩, State.startReplay_of_free _ sent free]
  case ackNot =>
    intro t s early
    show execAckTimeout t s = _
    unfold execAckTimeout
    rcases early with link | none | before
    · rw [if_neg fun h => Bool.false_ne_true (link.symm.trans h.1)]
    · rw [State.startReplay_of_nothing _ none, ite_self]
    · rw [if_neg fun h => Nat.not_le_of_lt before h.2]
  case returns =>
    intro t s owes waited
    have due : (s.trk t).tx.owes = true ∧ (s.trk t).tx.retRows ≥ 64 := ⟨by simpa [TxState.owes] using owes, waited⟩
    exact congrArg _ (if_pos due)
  case returnsNot =>
    intro t s early
    have notDue : ¬((s.trk t).tx.owes = true ∧ (s.trk t).tx.retRows ≥ 64) := by
      rintro ⟨owes, waited⟩
      simp only [TxState.owes, Bool.or_eq_true, decide_eq_true_eq] at owes
      omega
    exact congrArg _ (if_neg notDue)
  case off =>
    intro t s off
    have idle : s.resetting = true ∨ s.linkIs t .disabled = true ∨ s.linkIs t .down = true ∨ s.fld Fld.TRK_LSTATE_TX_STATE t = 1 ∨
        s.fld Fld.TRK_LSTATE_TX_STATE t = 3 := .inr (off.imp_right .inl)
    have run : exec (.packetTransmit t) s = .next (s.emitIdle t) := by
      show execPacketTransmit t s = _
      rw [execPacketTransmit, if_pos idle]
    exact ⟨_, run, State.tx_emitIdle s⟩
  case header =>
    intro t s up ready live awake row
    refine ⟨_, (exec_packetTransmit_of_ready up ready live).trans (congrArg _ (State.txRow_of_start ?_ ?_)), ?_⟩
    · rw [State.trk_waited]
      exact awake
    · rw [State.trk_waited]
      exact row
    · obtain ⟨kind, begun, blk⟩ := State.tx_emitHeader (t := t) ((s.modTx t TxState.waited).trk t).tx.blk (s.modTx t TxState.waited)
      exact ⟨kind, begun, blk.trans (by rw [State.trk_waited]; rfl)⟩
  case skip =>
    intro t s up ready live awake row eighth
    obtain ⟨v, hv⟩ : ∃ v, v = s.modTx t TxState.waited := ⟨_, rfl⟩
    have tx : (v.trk t).tx = (s.trk t).tx.waited := by rw [hv, State.trk_waited]
    have run : exec (.packetTransmit t) s = .next ((v.emit t .skip 0 (ctlRow .skp) none).modTx t fun y => { y with row := 257 }) := by
      rw [exec_packetTransmit_of_ready up ready live, ← hv, State.txRow_of_end (by rw [tx]; exact awake) (by rw [tx]; exact row),
        if_pos (by rw [tx]; exact eighth)]
    obtain ⟨l, syms, trk⟩ := State.trk_emit (t := t) .skip 0 (ctlRow .skp) none v
    refine ⟨_, run, ?_⟩
    rw [State.trk_modTx_same, trk, tx]
    exact ⟨rfl, rfl, rfl⟩
  case next =>
    intro t s up ready live awake row other
    obtain ⟨v, hv⟩ : ∃ v, v = s.modTx t TxState.waited := ⟨_, rfl⟩
    have tx : (v.trk t).tx = (s.trk t).tx.waited := by rw [hv, State.trk_waited]
    have run : exec (.packetTransmit t) s = .next (v.emitHeader t ((v.trk t).tx.blk + 1)) := by
      rw [exec_packetTransmit_of_ready up ready live, ← hv, State.txRow_of_end (by rw [tx]; exact awake) (by rw [tx]; exact row),
        if_neg (by rw [tx]; exact other)]
    obtain ⟨kind, begun, blk⟩ := State.tx_emitHeader (t := t) ((v.trk t).tx.blk + 1) v
    exact ⟨_, run, kind, begun, blk.trans (by rw [tx]; rfl)⟩
  case rows =>
    intro t r l s up ready live awake row below left queue set rows
    obtain ⟨v, hv⟩ : ∃ v, v = s.modTx t TxState.waited := ⟨_, rfl⟩
    have tx : (v.trk t).tx = (s.trk t).tx.waited := by rw [hv, State.trk_waited]
    have picks : (v.dataRow t).2 = r ∧ ((v.dataRow t).1.trk t).tx.rows = l ∧ ((v.dataRow t).1.trk t).tx.row = (s.trk t).tx.row := by
      have open_ : (v.trk t).tx.rows = r :: l := by rw [tx]; exact rows
      unfold State.dataRow
      rw [open_]
      exact ⟨rfl, by rw [State.trk_modTx_same], by rw [State.trk_modTx_same, tx]; rfl⟩
    obtain ⟨pick, rest, count⟩ := picks
    obtain ⟨lanes, syms, trk⟩ := State.trk_emitData (t := t) (fun s => s.dataRow t) v
    refine ⟨_, exec_packetTransmit_of_stream up ready live awake row below left queue set, ?_⟩
    rw [← hv, trk]
    exact ⟨rfl, congrArg rowBytes pick, rest, congrArg (· + 1) count⟩
  case response =>
    intro t x l s up ready live awake row below left queue set rows rep marked urg box few resp free tablets
    obtain ⟨v, hv⟩ : ∃ v, v = s.modTx t TxState.waited := ⟨_, rfl⟩
    have tx : v.trk t = { s.trk t with tx := (s.trk t).tx.waited } := by rw [hv, State.trk_waited]
    obtain ⟨p, typ, tag, data, sent, rest, txr, txd⟩ := State.dataRow_of_resp (s := v) (t := t) (x := x) (l := l) (by rw [tx]; exact rows)
      (by rw [tx]; exact rep) (by rw [tx]; exact marked) (by rw [tx]; exact urg) (by rw [hv]; exact box) (by rw [hv]; exact few)
      (by rw [tx]; exact resp) (by rw [hv]; exact free) (by rw [hv]; exact tablets)
    obtain ⟨lanes, syms, trk⟩ := State.trk_emitData (t := t) (fun s => s.dataRow t) v
    refine ⟨_, p, exec_packetTransmit_of_stream up ready live awake row below left queue set, ?_⟩
    rw [tx] at sent txr txd
    rw [← hv, trk]
    exact ⟨rest, sent, typ, tag, data, txr, txd⟩

end Sys2Proof.Machine
end

section
/-! PROOFS. The receive direction of a track: a row past its lanes, the calibration window and the error window. -/
namespace Sys2Proof.Machine

/-! ### A track apart from its receive lanes -/

/-- A register field of a track that is none of a lane's. -/
def Field.ofTrack (f : Field) : Bool := f.blk = .trk && f.lo < 64 && (f.off < 0x40 || 0x500 ≤ f.off) && f.off < 0x800

/-- A track's state without its receive lanes, and its registers without the lanes'. -/
def State.besides (t : Nat) (s : State) : Trk × (Field → Option Nat) :=
  ({ s.trk t with lanesRx := [] }, fun f => if f.ofTrack then some (s.fld f t) else none)

section
variable {s u : State} {t p : Nat}

theorem State.trk_of_besides (h : u.besides t = s.besides t) : u.trk t = { s.trk t with lanesRx := (u.trk t).lanesRx } :=
  congrArg (fun x : Trk => { x with lanesRx := (u.trk t).lanesRx }) (congrArg Prod.fst h)

theorem State.fld_of_besides (h : u.besides t = s.besides t) {f : Field} (hf : f.ofTrack = true) : u.fld f t = s.fld f t := by
  have at_ := congrFun (congrArg Prod.snd h) f
  simp only [State.besides, if_pos hf] at at_
  exact Option.some.inj at_

theorem State.besides_setRxLane (L : LaneRx) (s : State) : (s.setRxLane t p L).besides t = s.besides t := by
  simp only [State.besides, State.setRxLane, State.trk_modTrk_same, State.modTrk_fld]

/-- The registers of a lane are none of the track's. -/
theorem State.besides_setFld {g : Field} (hg : g.blk = .trk ∧ 0x40 ≤ g.off ∧ g.off < 0x80 ∧ g.jstr = 0x40 ∧ g.lo < 64) (hp : p < 18) (v : Nat) (s : State) :
    (s.setFld g v t p).besides t = s.besides t := by
  refine Prod.ext rfl (funext fun f => ?_)
  simp only [State.besides]
  split
  · next hf =>
    obtain ⟨blk, first, last, stride, lo⟩ := hg
    simp only [Field.ofTrack, Bool.and_eq_true, Bool.or_eq_true, decide_eq_true_eq] at hf
    obtain ⟨⟨⟨blkF, loF⟩, apart⟩, -⟩ := hf
    refine congrArg some (State.fld_setFld_ne s v (Field.key_ne_of_off (blkF.trans blk.symm) ?_ t))
    rw [stride]
    omega
  · rfl

theorem State.besides_bump {g : Field} (hg : g.blk = .trk ∧ 0x40 ≤ g.off ∧ g.off < 0x80 ∧ g.jstr = 0x40 ∧ g.lo < 64) (hp : p < 18) (n : Nat) (s : State) :
    (s.bump g t p n).besides t = s.besides t := State.ite_keeps (State.besides t) rfl (State.besides_setFld hg hp ..)

theorem State.besides_setFlag {g : Field} (hg : g.blk = .trk ∧ 0x40 ≤ g.off ∧ g.off < 0x80 ∧ g.jstr = 0x40 ∧ g.lo < 64) (hp : p < 18) (b : Bool) (s : State) :
    (s.setFlag g b t p).besides t = s.besides t := State.besides_setFld hg hp ..

/-! ### Symbols into their lanes (R73) -/

theorem State.besides_rxSymbol (hp : p < 18) (sym : BitVec 10) (sig : Bool) (s : State) : (s.rxSymbol t p sym sig).1.besides t = s.besides t := by
  have erred (s : State) : (s.laneErr t p).besides t = s.besides t := State.besides_setRxLane ..
  have violated (b : Bool) (s : State) : (s.when b fun s => s.laneViol t p).besides t = s.besides t :=
    State.ite_keeps (State.besides t) ((erred _).trans (State.besides_bump (by decide) hp ..)) rfl
  have disparity (b : Bool) (s : State) : (s.when b fun s => (s.bump Fld.TRK_LANE_DISP_ERR_COUNT t p).laneErr t p).besides t = s.besides t :=
    State.ite_keeps (State.besides t) ((erred _).trans (State.besides_bump (by decide) hp ..)) rfl
  unfold State.rxSymbol
  dsimp only
  split
  · exact (State.besides_setRxLane ..).trans (State.besides_setFld (by decide) hp ..)
  · exact (disparity ..).trans ((violated ..).trans ((State.besides_setRxLane ..).trans (State.besides_setFld (by decide) hp ..)))

/-- The symbol a lane with signal delivers. -/
theorem State.sym_rxSymbol (sym : BitVec 10) (s : State) : (s.rxSymbol t p sym true).2.sym = (decode10 sym (s.rxLane t p).disp).1 := by
  unfold State.rxSymbol
  rfl

/-- What holds of every state through the lanes, and of every symbol they give. -/
theorem State.lanes_fold {g : State × List LaneSym → Nat → State × List LaneSym} {P : State → Prop} {Q : LaneSym → Prop} (hs : P s) (n : Nat)
    (hg : ∀ acc p, p < n → P acc.1 → P (g acc p).1 ∧ ∃ y, (g acc p).2 = acc.2 ++ [y] ∧ Q y) :
    P ((List.range n).foldl g (s, [])).1 ∧ ((List.range n).foldl g (s, [])).2.length = n ∧ ∀ y ∈ ((List.range n).foldl g (s, [])).2, Q y := by
  induction n with
  | zero => exact ⟨hs, rfl, fun y hy => absurd hy List.not_mem_nil⟩
  | succ n ih =>
    obtain ⟨hP, len, hQ⟩ := ih fun acc p hp => hg acc p (hp.trans n.lt_succ_self)
    obtain ⟨hP', y, out, hy⟩ := hg _ n n.lt_succ_self hP
    rw [List.range_succ, List.foldl_append, List.foldl_cons, List.foldl_nil, out]
    refine ⟨hP', by rw [List.length_append, len, List.length_singleton], fun z hz => ?_⟩
    rcases List.mem_append.mp hz with h | h
    · exact hQ z h
    · rw [List.mem_singleton.mp h]
      exact hy

theorem getD_of_all {Q : LaneSym → Prop} {l : List LaneSym} {n p : Nat} (len : l.length = n) (all : ∀ y ∈ l, Q y) (hp : p < n) : Q (l.getD p darkSym) := by
  rw [List.getD_eq_getElem _ _ (len.symm ▸ hp)]
  exact all _ (List.getElem_mem _)

theorem State.rxLanes_of_all {row : RxRow} {Q : LaneSym → Prop}
    (hQ : ∀ p < 18, ∀ u : State, Q (u.rxSymbol t p (row.syms.getD p 0) (row.sig.getLsbD p)).2) :
    (s.rxLanes t row).1.besides t = s.besides t ∧ (s.rxLanes t row).2.length = 18 ∧ ∀ y ∈ (s.rxLanes t row).2, Q y :=
  State.lanes_fold (P := fun u => u.besides t = s.besides t) rfl 18 fun acc p hp h =>
    ⟨(State.besides_rxSymbol hp ..).trans h, _, rfl, hQ p hp acc.1⟩

/-- Without deskew delay a lane's symbol leaves at once (R79). -/
theorem State.align_of_all {raw : List LaneSym} {Q : LaneSym → Prop} (depth : (s.trk t).rx.depth = 0) (hQ : ∀ p < 18, Q (raw.getD p darkSym)) :
    (s.align t raw).1.besides t = s.besides t ∧ (s.align t raw).2.length = 18 ∧ ∀ y ∈ (s.align t raw).2, Q y := by
  refine State.lanes_fold (P := fun u => u.besides t = s.besides t) rfl 18 fun acc p hp h => ⟨(State.besides_setRxLane ..).trans h, _, rfl, ?_⟩
  have none : acc.1.delayOf t p = 0 := by
    have depth : (acc.1.trk t).rx.depth = 0 := by
      rw [State.trk_of_besides h]
      exact depth
    rw [State.delayOf, depth, Nat.zero_sub]
  rw [none]
  exact hQ p hp

theorem State.besides_align (raw : List LaneSym) (s : State) : (s.align t raw).1.besides t = s.besides t :=
  (State.lanes_fold (P := fun u => u.besides t = s.besides t) (Q := fun _ => True) rfl 18 fun _ _ _ h =>
    ⟨(State.besides_setRxLane ..).trans h, _, rfl, trivial⟩).1

/-! ### Rows that are not delivered (R168) -/

theorem State.upTo_self {g : Nat → State → State} {n : Nat} (h : ∀ p < n, g p s = s) : s.upTo n g = s := by
  induction n with
  | zero => rfl
  | succ n ih => rw [State.upTo_succ, ih fun p hp => h p (hp.trans n.lt_succ_self), h n n.lt_succ_self]

/-- Without a checker no symbol goes into one (R98). -/
theorem State.prbsCheck_of_off (off : s.fld Fld.TRK_PRBS_CTL_CHK_SEL t p = 0) (sym : BitVec 10) : s.prbsCheck t p sym = s := by
  rw [State.prbsCheck, off]
  rfl

theorem execRxRow_of_noPrbs {t : TrackIx} {row : RxRow} (up : s.resetting = false) (off : ∀ p < 18, s.fld Fld.TRK_PRBS_CTL_CHK_SEL t p = 0) :
    exec (.rxRow t row) s = .next (if s.linkIs t .disabled ∨ s.fld Fld.TRK_LSTATE_RX_STATE t = 3 then s
      else if (s.trk t).rx.mode = .stalled ∧ s.fld Fld.TRK_LSTATE_RX_STATE t ≠ 1 then s.stalledRow t row else s.rowIn t row) := by
  show execRxRow t row s = _
  have quiet : (s.upTo 18 fun p s => if row.sig.getLsbD p then s.prbsCheck t p (row.syms.getD p 0) else s) = s :=
    State.upTo_self fun p hp => by rw [State.prbsCheck_of_off (off p hp), ite_self]
  unfold execRxRow
  rw [if_neg (Bool.eq_false_iff.mp up), quiet]

/-- A receive direction of an enabled track out of L3 takes rows. -/
theorem execRxRow_of_open {t : TrackIx} {row : RxRow} (up : s.resetting = false) (off : ∀ p < 18, s.fld Fld.TRK_PRBS_CTL_CHK_SEL t p = 0)
    (on : s.linkIs t .disabled = false) (awake : s.fld Fld.TRK_LSTATE_RX_STATE t ≠ 3) : exec (.rxRow t row) s =
      .next (if (s.trk t).rx.mode = .stalled ∧ s.fld Fld.TRK_LSTATE_RX_STATE t ≠ 1 then s.stalledRow t row else s.rowIn t row) := by
  rw [execRxRow_of_noPrbs up off, if_neg fun h => h.elim (Bool.eq_false_iff.mp on) awake]

/-- A stalled direction only watches for signal. -/
theorem State.besides_stalledRow (row : RxRow) (s : State) : (s.stalledRow t row).besides t = s.besides t :=
  State.upTo_keeps_below (State.besides t) (fun _ hp _ => (State.besides_setRxLane ..).trans (State.besides_setFlag (by decide) hp ..)) s

/-- A row without signal on any lane goes no further than the delay lines. -/
theorem State.besides_rowIn_of_dark {row : RxRow} (dark : row.sig = 0) : (s.rowIn t row).besides t = s.besides t := by
  have none (u : State) : ¬u.anySignal t row = true := by
    intro h
    obtain ⟨q, -, lit⟩ := List.any_eq_true.mp h
    simp [dark] at lit
  have lanes : (s.rxLanes t row).1.besides t = s.besides t :=
    (State.rxLanes_of_all (Q := fun _ => True) fun _ _ _ => trivial).1
  unfold State.rowIn
  dsimp only
  rw [if_pos (none _)]
  exact (State.besides_align ..).trans lanes

/-- What a row leaves of a track that it touches at most in its lanes. -/
theorem State.kept_of_besides (h : u.besides t = s.besides t) :
    (u.trk t).rx = (s.trk t).rx ∧ (u.trk t).tx = (s.trk t).tx ∧ (u.trk t).ses = (s.trk t).ses := by
  rw [State.trk_of_besides h]
  exact ⟨rfl, rfl, rfl⟩

/-! ### A row that is delivered (R71) -/

/-- The symbols of the 16 positions. -/
def State.positions (s : State) (t : Nat) (all : List LaneSym) : List LaneSym := (List.range 16).map fun q => all.getD (s.laneOf t false q) darkSym

/-- A row without equaliser corrections and elastic events is classified and acted on. -/
theorem State.rowIn_of_signal {row : RxRow} (eq : row.eq = []) (lit : ((s.rxLanes t row).1.align t (s.rxLanes t row).2).1.anySignal t row = true)
    {a : State × List LaneSym} (ha : a = (s.rxLanes t row).1.align t (s.rxLanes t row).2) {k : RowKind} (hk : k = a.1.classify t (a.1.positions t a.2)) :
    s.rowIn t row = ((((if a.1.fld Fld.TRK_LSTATE_RX_STATE t = 1 then a.1 else a.1.lockLanes t a.2 (k = .skip)).rowAction t a.2 (a.1.positions t a.2) k).advance
      t []).checkCensus t).elasticEvent t row.elastic := by
  rw [← ha] at lit
  unfold State.rowIn
  dsimp only
  rw [← ha, if_neg (not_not.mpr lit), eq, List.foldl_nil, ite_self, hk]
  rfl

/-! ### A skip row of a READY track (R71, R76) -/

theorem State.laneOf_lt {q : Nat} (hq : q < 16) (tx : Bool) (s : State) : s.laneOf t tx q < 18 := by
  unfold State.laneOf
  split <;> omega

/-- A row on every lane. -/
theorem State.anySignal_of_full {row : RxRow} (full : row.sig = 0x3FFFF) (s : State) : s.anySignal t row = true := by
  have lit : ∀ p < 18, (0x3FFFF : BitVec 18).getLsbD p = true := by decide
  refine List.any_eq_true.mpr ⟨0, by decide, ?_⟩
  rw [full]
  exact lit _ (State.laneOf_lt (by decide) ..)

theorem State.positions_of_all {all : List LaneSym} {Q : LaneSym → Prop} (len : all.length = 18) (hQ : ∀ y ∈ all, Q y) :
    (s.positions t all).length = 16 ∧ ∀ y ∈ s.positions t all, Q y := by
  refine ⟨by rw [State.positions, List.length_map, List.length_range], fun y hy => ?_⟩
  obtain ⟨q, hq, rfl⟩ := List.mem_map.mp hy
  exact getD_of_all len hQ (State.laneOf_lt (List.mem_range.mp hq) ..)

theorem State.classify_of_skips {ys : List LaneSym} (live : s.fld Fld.TRK_LSTATE_RX_STATE t ≠ 1) (len : ys.length = 16) (skips : ∀ y ∈ ys, y.sym = .ctl .skp) :
    s.classify t ys = .skip := by
  have count : countCtl ys .skp ≥ 12 := by
    rw [countCtl, List.countP_eq_length.mpr fun y hy => decide_eq_true (skips y hy), len]
    decide
  unfold State.classify
  dsimp only
  rw [if_neg live, if_pos count]

/-- Each position carries what is expected of a skip row. -/
theorem State.badSkips_of_skips {ys : List LaneSym} (len : ys.length = 16) (skips : ∀ y ∈ ys, y.sym = .ctl .skp) : s.badSkips t ys = s := by
  refine State.upTo_self fun q hq => ?_
  have good := getD_of_all (Q := fun y => y.sym = .ctl .skp) len skips hq
  unfold State.badSkip
  rw [good]
  rfl

/-- A skip row leaves a lane's block lock alone (R77). -/
theorem State.lockStep_of_skip (y : Sym) (s : State) : ∃ u : State, s.lockStep t p y true = (u, false) ∧ u.besides t = s.besides t := by
  unfold State.lockStep
  dsimp only
  split
  · exact ⟨_, rfl, State.besides_setRxLane ..⟩
  · exact ⟨s, rfl, rfl⟩

theorem State.checkErrLimit_of_manual (manual : s.flag Fld.TRK_SPARE_CFG_AUTO_EN t = false) : s.checkErrLimit t p = s := by
  unfold State.checkErrLimit
  split
  · rfl
  · exact if_neg fun h => Bool.false_ne_true (manual.symm.trans h.2.1)

theorem State.flag_of_besides (h : u.besides t = s.besides t) {f : Field} (hf : f.ofTrack = true) : u.flag f t = s.flag f t := by
  rw [State.flag, State.fld_of_besides h hf, State.flag]

/-- One lane of a row past block lock and the error limit. -/
def State.lockLane (t p : Nat) (y : Sym) (skip : Bool) (s : State) : State :=
  if (s.rxLane t p).sig then
    (if (s.lockStep t p y skip).2 then (s.lockStep t p y skip).1.onLockLoss t p else (s.lockStep t p y skip).1).checkErrLimit t p
  else s

theorem State.lockLanes_eq (all : List LaneSym) (skip : Bool) (s : State) : s.lockLanes t all skip = s.upTo 18 fun p u =>
    u.lockLane t p (all.getD p darkSym).sym (if !(s.trk t).trn.deskewed then (all.getD p darkSym).sym = .ctl .skp else skip) := rfl

/-- In a skip row a lane does not lose lock, and without automatic sparing it asks for none (R77, R90). -/
theorem State.besides_lockLane_of_skip (y : Sym) (manual : s.flag Fld.TRK_SPARE_CFG_AUTO_EN t = false) :
    (s.lockLane t p y true).besides t = s.besides t := by
  obtain ⟨v, step, hv⟩ := State.lockStep_of_skip (t := t) (p := p) y s
  have off : v.flag Fld.TRK_SPARE_CFG_AUTO_EN t = false := (State.flag_of_besides hv (by decide)).trans manual
  refine State.ite_keeps (State.besides t) ?_ rfl
  rw [step, if_neg Bool.false_ne_true, State.checkErrLimit_of_manual off]
  exact hv

theorem State.besides_lockLanes_of_skips {all : List LaneSym} (manual : s.flag Fld.TRK_SPARE_CFG_AUTO_EN t = false) (len : all.length = 18)
    (skips : ∀ y ∈ all, y.sym = .ctl .skp) : (s.lockLanes t all true).besides t = s.besides t := by
  rw [State.lockLanes_eq]
  refine List.foldlRecOn (motive := fun (u : State) => u.besides t = s.besides t) (List.range 18) _ rfl fun u hu p hp => ?_
  have sym : (all.getD p darkSym).sym = .ctl .skp := getD_of_all (Q := fun y => y.sym = .ctl .skp) len skips (List.mem_range.mp hp)
  have skip : (if !(s.trk t).trn.deskewed then decide ((all.getD p darkSym).sym = .ctl .skp) else true) = true := by
    rw [decide_eq_true sym, ite_self]
  beta_reduce
  rw [skip]
  exact (State.besides_lockLane_of_skip _ ((State.flag_of_besides hu (by decide)).trans manual)).trans hu

/-- Outside training nothing advances. -/
theorem State.advance_of_other (skew : List Nat) (other : s.linkIs t .training = false) : s.advance t skew = s :=
  if_pos (.inl (Bool.eq_false_iff.mp other))

theorem State.linkIs_of_besides (h : u.besides t = s.besides t) (l : LinkState) : u.linkIs t l = s.linkIs t l := by
  rw [State.linkIs, State.fld_of_besides h (by decide), State.linkIs]

theorem State.checkCensus_of_none (none : (s.trk t).cen.got = .none) : s.checkCensus t = s := by
  unfold State.checkCensus
  dsimp only
  rw [none]

/-- The elastic buffer short of its limit (R76). -/
theorem State.trk_elasticEvent {e : ElasticEv} (h : e ≠ .limit) (level : (s.trk t).rx.elastic = .none) :
    (s.elasticEvent t e).trk t = { s.trk t with rx := { (s.trk t).rx with elastic := e } } := by
  cases e with
  | none =>
    show s.trk t = _
    rw [← level]
  | filling => exact State.trk_modRx_same ..
  | draining => exact State.trk_modRx_same ..
  | limit => exact absurd rfl h

/-- A skip row on every lane: past the lanes, only the elastic buffer moves. -/
theorem State.rowIn_of_skips {row : RxRow} (ready : s.linkIs t .ready = true) (live : s.fld Fld.TRK_LSTATE_RX_STATE t ≠ 1) (depth : (s.trk t).rx.depth = 0)
    (manual : s.flag Fld.TRK_SPARE_CFG_AUTO_EN t = false) (census : (s.trk t).cen.got = none) (full : row.sig = 0x3FFFF) (eq : row.eq = [])
    (skips : ∀ p < 18, ∀ d : Bool, (decode10 (row.syms.getD p 0) d).1 = .ctl .skp) : ∃ v : State, v.besides t = s.besides t ∧
      s.rowIn t row = (v.modRx t fun x => { x with elastic := .none }).elasticEvent t row.elastic := by
  have lit : ∀ p < 18, row.sig.getLsbD p = true := by
    rw [full]
    decide
  obtain ⟨a, ha⟩ : ∃ a, a = (s.rxLanes t row).1.align t (s.rxLanes t row).2 := ⟨_, rfl⟩
  obtain ⟨lanes, rawLen, rawSkips⟩ := State.rxLanes_of_all (s := s) (t := t) (row := row) (Q := fun y => y.sym = .ctl .skp) fun p hp u => by
    rw [lit p hp, State.sym_rxSymbol]
    exact skips p hp _
  have level : (((s.rxLanes t row).1).trk t).rx.depth = 0 := by
    rw [State.trk_of_besides lanes]
    exact depth
  obtain ⟨aligned, len, all⟩ := State.align_of_all (Q := fun y => y.sym = .ctl .skp) level fun p hp =>
    getD_of_all (Q := fun y => y.sym = .ctl .skp) rawLen rawSkips hp
  rw [← ha] at aligned len all
  replace aligned := aligned.trans lanes
  obtain ⟨ysLen, ysSkips⟩ := State.positions_of_all (s := a.1) (t := t) len all
  have l0 : a.1.fld Fld.TRK_LSTATE_RX_STATE t ≠ 1 := by
    rw [State.fld_of_besides aligned (by decide)]
    exact live
  have locked := (State.besides_lockLanes_of_skips (s := a.1) (t := t) ((State.flag_of_besides aligned (by decide)).trans manual) len all).trans aligned
  have run := State.rowIn_of_signal eq (State.anySignal_of_full full _) ha (State.classify_of_skips l0 ysLen ysSkips).symm
  rw [if_neg l0] at run
  obtain ⟨v, hv⟩ : ∃ v, v = a.1.lockLanes t a.2 true := ⟨_, rfl⟩
  rw [← hv] at locked
  have acts : (a.1.lockLanes t a.2 (RowKind.skip = .skip)).rowAction t a.2 (a.1.positions t a.2) .skip = v.modRx t fun x => { x with elastic := .none } := by
    show (a.1.lockLanes t a.2 true).skipIn t (a.1.positions t a.2) = _
    rw [← hv, State.skipIn, State.badSkips_of_skips ysLen ysSkips]
  have other : (v.modRx t fun x => { x with elastic := .none }).linkIs t .training = false := by
    have link : (v.modRx t fun x => { x with elastic := .none }).linkIs t .training = s.linkIs t .training := State.linkIs_of_besides locked _
    rw [link]
    exact Bool.eq_false_iff.mpr (State.not_linkIs ready (by decide))
  have none : ((v.modRx t fun x => { x with elastic := .none }).trk t).cen.got = .none := by
    rw [State.trk_modRx_same, State.trk_of_besides locked]
    exact census
  rw [acts, State.advance_of_other [] other, State.checkCensus_of_none none] at run
  exact ⟨v, locked, run⟩

/-! ### The calibration window (R81 to R83) -/

theorem State.calRuns_of_stopped (stopped : s.flag Fld.TRK_CAL_CFG_TRIM_FREEZE t = true ∨ s.fld Fld.TRK_LSTATE_RX_STATE t = 1 ∨
    s.fld Fld.TRK_LSTATE_RX_STATE t = 3 ∨ (s.trk t).rx.mode = .stalled) : ¬s.calRuns t = true := by
  simp only [State.calRuns, Bool.and_eq_true, Bool.not_eq_true', bne_iff_ne]
  rintro ⟨⟨⟨live, l1⟩, l3⟩, open_⟩
  rcases stopped with h | h | h | h
  · exact Bool.false_ne_true (live.symm.trans h)
  · exact l1 h
  · exact l3 h
  · exact open_ h

theorem execCalWindowEnd_of_running {t : TrackIx} {p : LaneIx} {n : CalCount} (runs : s.calRuns t = true) :
    exec (.calWindowEnd t p n) s = .next ((s.closeWindow t p n).advance t []) := by
  show execCalWindowEnd t p n s = _
  rw [execCalWindowEnd, if_pos runs]

theorem State.closeWindow_of_bad {n : CalCount} (bad : (s.rxLane t p).calErr ≠ 0 ∨ 10 * n.nt < 3 * (10 * s.calWindow t) ∨ n.valid = false ∨
    s.calValid t p = false) : s.closeWindow t p n =
      (s.bump Fld.TRK_LANE_CAL_REJECT_COUNT t p).setRxLane t p { s.rxLane t p with calErr := 0, still := 0 } := by
  refine if_pos ?_
  rw [Bool.not_eq_true, Bool.not_eq_true]
  exact bad.imp_left Nat.pos_of_ne_zero

theorem State.closeWindow_of_good {n : CalCount} {o l : Int} (clean : (s.rxLane t p).calErr = 0) (many : 3 * (10 * s.calWindow t) ≤ 10 * n.nt)
    (valid : n.valid = true) (code : s.calValid t p = true)
    (step : (o, l) = calStep (10 * s.calWindow t) n (signedOf 7 (s.fld Fld.TRK_RX_TRIM_OFFSET t p)) (s.fld Fld.TRK_RX_TRIM_LEVEL t p)) :
    ∃ L, s.closeWindow t p n = s.setRxLane t p L ∧ L.trim = some (signedTo 7 o, l.toNat) ∧ L.calErr = 0 := by
  have good : ¬((s.rxLane t p).calErr > 0 ∨ 10 * n.nt < 3 * (10 * s.calWindow t) ∨ ¬n.valid = true ∨ ¬s.calValid t p = true) := by
    rintro (h | h | h | h)
    · exact absurd clean (Nat.ne_of_gt h)
    · exact absurd many (Nat.not_le_of_lt h)
    · exact h valid
    · exact h code
  unfold State.closeWindow
  dsimp only
  rw [if_neg good, ← step]
  exact ⟨_, rfl, rfl, rfl⟩

/-! ### The error window (R90) -/

theorem Store.get_mapSnd {α β : Type} (m : Store α) (g : α → β) (k : Nat) (d : α) : Store.get (m.map fun e => (e.1, g e.2)) k (g d) = g (Store.get m k d) := by
  have find : Store.find (m.map fun e => (e.1, g e.2)) k = (Store.find m k).map g := by
    induction m with
    | nil => rfl
    | cons e m ih =>
      simp only [List.map_cons, Store.find, ih]
      split <;> rfl
  rw [Store.get, find, Store.get, Option.getD_map]

end

/-- Settles O26: a row goes no further than its lanes where the direction is closed, and each window is one branch of its command. -/
theorem laneReceptionAndCalibration : Obligations.LaneReceptionAndCalibration := by
  unfold Obligations.LaneReceptionAndCalibration
  refine ⟨?reset, ?closed, ?stalled, ?dark, ?skip, ?row, ?frozen, ?rejected, ?accepted, ?training, ?window, ?early⟩
  case reset => exact fun t row s resetting => congrArg Host.Outcome.next (if_pos resetting)
  case closed =>
    intro t row s up off shut
    rw [execRxRow_of_noPrbs up off, if_pos shut]
  case stalled =>
    intro t row s up off on awake stalled live
    refine ⟨_, (execRxRow_of_open up off on awake).trans (by rw [if_pos ⟨stalled, live⟩]), ?_⟩
    exact State.kept_of_besides (State.besides_stalledRow ..)
  case dark =>
    intro t row s up off on awake dark
    refine ⟨_, execRxRow_of_open up off on awake, State.kept_of_besides ?_⟩
    exact State.ite_keeps (State.besides t) (State.besides_stalledRow ..) (State.besides_rowIn_of_dark dark)
  case skip =>
    intro t row s up off on awake ready live l1 depth census manual full eq elastic skips
    have open_ : ¬((s.trk t).rx.mode = .stalled ∧ s.fld Fld.TRK_LSTATE_RX_STATE t ≠ 1) := fun h => live h.1
    obtain ⟨v, still, row⟩ := State.rowIn_of_skips ready l1 depth manual census full eq skips
    refine ⟨_, (execRxRow_of_open up off on awake).trans (by rw [if_neg open_, row]), ?_⟩
    rw [State.trk_elasticEvent elastic (by rw [State.trk_modRx_same]), State.trk_modRx_same, State.trk_of_besides still]
    exact ⟨rfl, rfl, rfl⟩
  case row =>
    intro t row a ys k s up off on awake live eq elastic ha lit hys hk
    have open_ : ¬((s.trk t).rx.mode = .stalled ∧ s.fld Fld.TRK_LSTATE_RX_STATE t ≠ 1) := fun h => live h.1
    rw [ha] at lit
    have positions : ys = a.1.positions t a.2 := hys
    rw [execRxRow_of_open up off on awake, if_neg open_, State.rowIn_of_signal eq lit ha (hk.trans (by rw [positions])), elastic, positions]
    rfl
  case frozen =>
    intro t p n s stopped
    show execCalWindowEnd t p n s = _
    rw [execCalWindowEnd, if_neg (State.calRuns_of_stopped stopped)]
  case rejected =>
    intro t p n s runs other bad
    rw [execCalWindowEnd_of_running runs, State.closeWindow_of_bad bad, State.advance_of_other]
    rw [State.linkIs_of_besides (s := s)]
    · exact other
    · exact (State.besides_setRxLane ..).trans (State.besides_bump (by decide) p.isLt ..)
  case accepted =>
    intro t p n s o l runs other clean many valid code step
    obtain ⟨L, closes, trim, err⟩ := State.closeWindow_of_good clean many valid code step
    have still : (s.setRxLane t p L).linkIs t .training = false := other
    refine ⟨s.setRxLane t p L, (execCalWindowEnd_of_running runs).trans (by rw [closes, State.advance_of_other [] still]), rfl, ?_, ?_⟩
    · rw [State.rxLane_setRxLane]
      exact trim
    · rw [State.rxLane_setRxLane]
      exact err
  case training => exact fun t p n s runs _ => execCalWindowEnd_of_running runs
  case window =>
    intro t s due
    have run : exec (.spareErrWindowEnd t) s =
        .next (s.modTrk t fun x => { x with lanesRx := x.lanesRx.map fun e => (e.1, { e.2 with winErr := 0 }), errTicks := 0 }) := by
      show execSpareErrWindowEnd t s = _
      rw [execSpareErrWindowEnd, if_neg (Nat.not_lt_of_le due)]
    refine ⟨_, run, rfl, by rw [State.trk_modTrk_same], fun p => ?_⟩
    rw [State.rxLane, State.trk_modTrk_same]
    exact Store.get_mapSnd (s.trk t).lanesRx (fun L : LaneRx => { L with winErr := 0 }) p {}
  case early => exact fun t s early => congrArg Host.Outcome.next (if_pos early)

end Sys2Proof.Machine
end
